-- ==== Sys2Proof/Word.lean ====
section
/-! DEFINITION. The words of the machine: a byte, a register word, and the plain integer reading of a bit pattern. -/

namespace Sys2Proof

/-- One byte of a packet, a memory or a record. -/
abbrev Byte := BitVec 8

/-- One 32-bit register word (chapter 0, Notation). -/
abbrev Word := BitVec 32

/-- A UDP peer or destination: IPv4 address and port (R39). -/
structure Peer where
  ip : BitVec 32
  port : BitVec 16
  deriving DecidableEq, Repr

/-- A command transport (R24, Table 2-1 TAG): the SPI command port, a UDP peer, the upstream lane of port H. -/
inductive Port where
  | spi
  | udp (p : Peer)
  | oazil
  deriving DecidableEq, Repr

/-- What a calibration item measures (Table 17-5). REFTDC, per channel: the cells judged bad, in the line or bypassed, and the hits of the 64 mapped taps in the repeated test (R402).
ROWSKEW: ROW_TOFS per row and the eight entries of PHASE_CORR. SPARES, per macro-pixel (row, q): the counts of its 36 cells (R403). REFCELLS, per cell 6 b + i: the
fewest triggers it answered in an update and its mean swing in µV; and of each update HV - VEX in mV and T_MEAN in 1/16 °C (R404). -/
inductive CalMeas where
  | refTdc (chans : List (Nat × BitVec 72 × List Nat))
  | rowSkew (tofs : List (Nat × Int)) (corr : List Int)
  | spares (counts : List (Nat × Nat × List Nat))
  | refCells (cells : List (Nat × Nat × Nat)) (updates : List (Int × Int))
  deriving DecidableEq, Repr

end Sys2Proof
end

