-- ==== Sys2Proof/Syntax.lean ====
section
/-! DEFINITION. The commands and events the device takes (spec/opcode_table.json): one constructor per row. A row of Table 2-10
carries the transport it arrives on, its sequence number and its payload fields (the bytes Table 2-10 marks 0 are 0 here; a frame
row can carry any bytes); a register-write row is the REG_WRITE of that register; an event row carries what the outside world
measures at it (notes/assumptions/2.md, 3.md). -/

namespace Sys2Proof

/-- A command or an event, by its row of spec/opcode_table.json. -/
inductive Instr where
  /-- SPI_WRITE_FRAME (R34): A chip-select frame with frame byte 0x5A delivers one command packet on the SPI command port. Operands: a chip-select frame 0x5A with the bytes after the frame byte. -/
  | spiWriteFrame (bytes : List Byte)
  /-- SPI_READ_FRAME (R35): A chip-select frame with frame byte 0xA5 shifts out the length and the packet at the head of the SPI outbound queue. Operands: a chip-select frame 0xA5 with the number of bytes clocked after the frame byte. -/
  | spiReadFrame (clocked : Nat)
  /-- UDP_COMMAND_DATAGRAM (R38): A UDP datagram on port 47057 delivers one command packet. Operands: a datagram on port 47057 from a source. -/
  | udpCommandDatagram (src : Peer) (bytes : List Byte)
  /-- OAZIL_UPSTREAM_BLOCK (R297): A block arrives on the upstream lane of port H and its stream 0 payload yields command packets. Operands: the 512 bytes of a block as the upstream lane carries them. -/
  | oazilUpstreamBlock (bytes : List Byte)
  /-- EVENT_PACKET_SEND (R425): Pending event entries leave as one event packet when the oldest has waited 1 ms or 32 are pending. Operands: the oldest pending entry of the transport has waited 1 ms, or 32 are pending. -/
  | eventPacketSend (via : Port)
  /-- PING (R48): PING is answered DONE with no data. -/
  | ping (via : Port) (seq : BitVec 16)
  /-- IDENTIFY (R449): IDENTIFY returns the eight identity registers. -/
  | identify (via : Port) (seq : BitVec 16)
  /-- STATUS (R48): STATUS returns PWR_STATE, PWR_DOM_STAT0-2, the profile and the expected sequence number. -/
  | status (via : Port) (seq : BitVec 16)
  /-- SESSION_RESET (R45): SESSION_RESET clears the reply cache and sets E to SEQ plus 1. -/
  | sessionReset (via : Port) (seq : BitVec 16)
  /-- CMD_STATUS (R48): CMD_STATUS reports the state and final status of one of the last 16 consumed commands. Operands: the sequence number asked about. -/
  | cmdStatus (via : Port) (seq : BitVec 16) (target : BitVec 16)
  /-- REG_READ (R52): REG_READ reads up to 256 words of one block once each, clearing FRESH of covered result groups. -/
  | regRead (via : Port) (seq : BitVec 16) (addr : BitVec 32) (count : BitVec 16)
  /-- REG_WRITE (R53): REG_WRITE checks and then writes up to 256 words of one block, for registers without behaviour of their own. -/
  | regWrite (via : Port) (seq : BitVec 16) (addr : BitVec 32) (values : List Word)
  /-- REG_RMW (R54): REG_RMW reads, masks and writes one register atomically and returns old and new. -/
  | regRmw (via : Port) (seq : BitVec 16) (addr mask value : BitVec 32)
  /-- DORMANT (R37): DORMANT is accepted in READY and schedules the entry to DORMANT after its reply. -/
  | dormant (via : Port) (seq : BitVec 16)
  /-- DORMANT_ENTRY_BEGIN (R37): The 1 ms entry to DORMANT begins once the reply has been read or handed over, or after 100 ms. -/
  | dormantEntryBegin
  /-- DORMANT_ENTRY_COMPLETE (R22): All domains except 64 are off and the device rests in DORMANT, or wakes at once on a latched wake. -/
  | dormantEntryComplete
  /-- SAFE_HOLD (R20): The SAFE_HOLD command takes the device from READY or SCANNING to SAFE_HOLD. -/
  | safeHold (via : Port) (seq : BitVec 16)
  /-- FAULT_CLEAR (R431): FAULT_CLEAR ends the fault episode and returns the device to READY when recovery is complete. -/
  | faultClear (via : Port) (seq : BitVec 16)
  /-- EVENT_SUBSCRIBE (R425): EVENT_SUBSCRIBE sets the event mask of the transport or peer and restarts ESEQ. Operands: bit n of the mask selects event n. -/
  | eventSubscribe (via : Port) (seq : BitVec 16) (mask : BitVec 256)
  /-- SCAN_START (R51): SCAN_START is checked, accepted, loads the profile and starts closing and settling the loops. -/
  | scanStart (via : Port) (seq : BitVec 16) (profile flags : Byte)
  /-- SETTLE_TIMEOUT (R131): After 500 ms without a fixed column 0 boundary SCAN_START completes LOOP_NOT_SETTLED. -/
  | settleTimeout
  /-- SCAN_STOP (R20): SCAN_STOP ends scanning at the next column boundary and returns the device to READY. -/
  | scanStop (via : Port) (seq : BitVec 16)
  /-- PROFILE_OVERRIDE (R6): PROFILE_OVERRIDE sets one field of one profile block within its limits. -/
  | profileOverride (via : Port) (seq : BitVec 16) (profile : Byte) (field : BitVec 16) (value : BitVec 32)
  /-- PROFILE_READ (R6): PROFILE_READ returns the 256-byte profile block. -/
  | profileRead (via : Port) (seq : BitVec 16) (profile : Byte)
  /-- HIST_DUMP (R193): HIST_DUMP starts copying row histogram records to stream 5. -/
  | histDump (via : Port) (seq : BitVec 16) (firstRow rows columns : BitVec 16) (parts : Byte)
  /-- HIST_DUMP_COMPLETE (R195): After the last column the end record is queued and the dump completes DONE, DUMP_INCOMPLETE or DUMP_CANCELLED. -/
  | histDumpComplete
  /-- HIST_DUMP_CANCEL (R195): HIST_DUMP_CANCEL stops the dump at the next column boundary. -/
  | histDumpCancel (via : Port) (seq : BitVec 16)
  /-- EMITTER_INHIBIT (R100): EMITTER_INHIBIT sets or releases the host inhibit bit. -/
  | emitterInhibit (via : Port) (seq : BitVec 16) (inhibit : Byte)
  /-- STRING_ENABLE (R115): STRING_ENABLE writes EN of all 32 strings at once. -/
  | stringEnable (via : Port) (seq : BitVec 16) (mask : BitVec 32)
  /-- CHARGE_TEST (R94): CHARGE_TEST starts charging one string to a target without firing. -/
  | chargeTest (via : Port) (seq : BitVec 16) (string : Byte) (target : BitVec 16)
  /-- CHARGE_TEST_COMPLETE (R94): The charge test ends at the target or after 50 µs and completes with charge time and voltage. Operands: the time taken and VSTR at the end, 10 mV. -/
  | chargeTestComplete (reachedTarget : Bool) (timeNs : BitVec 32) (reached : BitVec 16)
  /-- LIMITER_READ (R108): LIMITER_READ returns the limiter block. -/
  | limiterRead (via : Port) (seq : BitVec 16)
  /-- TRIGGER_CONFIG (R101): TRIGGER_CONFIG makes banks trigger-driven from a TIN input. -/
  | triggerConfig (via : Port) (seq : BitVec 16) (input bankMask edge : Byte)
  /-- LOOP_MODE (R122): LOOP_MODE changes a loop's mode, with bumpless entry to CLOSED. -/
  | loopMode (via : Port) (seq : BitVec 16) (loop mode : Byte)
  /-- LOOP_COEF_SET (R125): LOOP_COEF_SET checks and stages a coefficient block and schedules a swap. Operands: the ten words KP to ELIM. -/
  | loopCoefSet (via : Port) (seq : BitVec 16) (loop : Byte) (coef : List Word)
  /-- LOOP_COEF_SET_COMPLETE (R125): A LOOP_COEF_SET answered ACCEPTED completes at the sample boundary of its swap. -/
  | loopCoefSetComplete (loop : Fin 8)
  /-- LOOP_SETPOINT (R119): LOOP_SETPOINT writes a host set-point that applies at the loop's next sample. -/
  | loopSetpoint (via : Port) (seq : BitVec 16) (loop : Byte) (sp : BitVec 32)
  /-- LOOP_READ (R141): LOOP_READ returns the loop state block. -/
  | loopRead (via : Port) (seq : BitVec 16) (loop : Byte)
  /-- TRAJECTORY_LOAD (R128): TRAJECTORY_LOAD writes entries of the user trajectory table. -/
  | trajectoryLoad (via : Port) (seq : BitVec 16) (first : BitVec 16) (entries : List Word)
  /-- CAM_CONFIG (R246): CAM_CONFIG stores the camera block of a stopped camera. -/
  | camConfig (via : Port) (seq : BitVec 16) (camera : Byte) (block : List Byte)
  /-- CAM_RUN (R246): CAM_RUN starts a camera at its next FS or stops it after the frame in progress. -/
  | camRun (via : Port) (seq : BitVec 16) (camera run : Byte)
  /-- PIPE_CONTEXT_SET (R252): PIPE_CONTEXT_SET stages one stage's data in a context's staged bank. -/
  | pipeContextSet (via : Port) (seq : BitVec 16) (context stage : Byte) (data : List Byte)
  /-- STATS_REQUEST (R262): STATS_REQUEST asks for the full statistics record of the context's next frame. -/
  | statsRequest (via : Port) (seq : BitVec 16) (context : Byte)
  /-- STATS_REQUEST_COMPLETE (R262): The statistics record is placed on stream 3, refused by class 5, or no frame closes within 1 s. Operands: no frame closed within 1 s where false. -/
  | statsRequestComplete (context : Fin 4) (frameClosed : Bool)
  /-- REPROCESS (R257): REPROCESS queues a raw buffer for processing through context 2 or 3. -/
  | reprocess (via : Port) (seq : BitVec 16) (context : Byte) (addr : BitVec 64)
  /-- REPROCESS_COMPLETE (R257): A REPROCESS frame completes DONE when its last outputs are written, or FRAME_FORMAT. -/
  | reprocessComplete (context : Fin 4)
  /-- DISP_MODE (R273): DISP_MODE stores the timing block of a stopped display. -/
  | dispMode (via : Port) (seq : BitVec 16) (display : Byte) (block : List Byte)
  /-- LAYER_SET (R276): LAYER_SET writes a layer block into the display's staged bank. -/
  | layerSet (via : Port) (seq : BitVec 16) (display layer : Byte) (block : List Byte)
  /-- COMMIT (R279): COMMIT copies the staged bank to the pending bank and waits for its flip. -/
  | commit (via : Port) (seq : BitVec 16) (display : Byte)
  /-- DISP_RUN (R275): DISP_RUN starts a display within 1 ms or stops it at the end of the frame in progress. -/
  | dispRun (via : Port) (seq : BitVec 16) (display run : Byte)
  /-- LINK_TRAIN (R306): LINK_TRAIN starts bringing a port up by the rung ladder toward a target rate. -/
  | linkTrain (via : Port) (seq : BitVec 16) (port rate : Byte)
  /-- LINK_TRAIN_COMPLETE (R306): LINK_TRAIN completes DONE, LINK_BELOW_TARGET or LINK_TRAIN_FAILED with the link status block. -/
  | linkTrainComplete (port : Fin 3)
  /-- LINK_STATUS (R309): LINK_STATUS returns a port's link status block. -/
  | linkStatus (via : Port) (seq : BitVec 16) (port : Byte)
  /-- TIME_READ (R318): TIME_READ returns device time, the discipline word and the last offset. -/
  | timeRead (via : Port) (seq : BitVec 16)
  /-- TIME_CONFIG (R318): TIME_CONFIG sets the discipline mode and may step time or set the rate. -/
  | timeConfig (via : Port) (seq : BitVec 16) (block : List Byte)
  /-- NET_CONFIG (R311): NET_CONFIG sets the IPv4 address, mask, gateway and VLAN after its reply and clears UDP peer state. -/
  | netConfig (via : Port) (seq : BitVec 16) (ip mask gw : BitVec 32) (vlan : BitVec 16)
  /-- SYNC_CONFIG (R319): SYNC_CONFIG sets the role of the SYNC pin and the slot offset. -/
  | syncConfig (via : Port) (seq : BitVec 16) (role : Byte) (slotOffset : BitVec 32)
  /-- SAFETY_STATUS (R361): SAFETY_STATUS returns the safety status block. -/
  | safetyStatus (via : Port) (seq : BitVec 16)
  /-- COMMISSION_OPEN (R356): COMMISSION_OPEN checks the credential and opens a commissioning session. -/
  | commissionOpen (via : Port) (seq : BitVec 16) (credential : List Byte)
  /-- FIELD_WRITE (R357): FIELD_WRITE stores one protective field in the staging copy. -/
  | fieldWrite (via : Port) (seq : BitVec 16) (session : BitVec 32) (field vertices : Byte) (block : List Byte)
  /-- SAFETY_PARAM_WRITE (R358): SAFETY_PARAM_WRITE sets one safety parameter in the staging copy. -/
  | safetyParamWrite (via : Port) (seq : BitVec 16) (session : BitVec 32) (param : BitVec 16) (value : BitVec 32)
  /-- COMMISSION_COMMIT (R359): COMMISSION_COMMIT checks the staging image and starts writing both flash copies. -/
  | commissionCommit (via : Port) (seq : BitVec 16) (session crc : BitVec 32)
  /-- COMMISSION_COMMIT_COMPLETE (R359): The flash copies are written and the commit completes DONE or COMMIT_FLASH, closing the session. Operands: how many of the two flash copies were written and read back. -/
  | commissionCommitComplete (copiesWritten : Fin 3)
  /-- COMMISSION_ABORT (R356): COMMISSION_ABORT closes the session and discards the staging copy. -/
  | commissionAbort (via : Port) (seq : BitVec 16) (session : BitVec 32)
  /-- HK_CONFIG (R367): HK_CONFIG checks and stores the housekeeping block for the next round. -/
  | hkConfig (via : Port) (seq : BitVec 16) (block : List Byte)
  /-- HK_URGENT (R371): HK_URGENT inserts an urgent conversion of one slot. -/
  | hkUrgent (via : Port) (seq : BitVec 16) (slot : Byte)
  /-- HK_URGENT_COMPLETE (R371): The urgent conversion ends and the command completes with VALUE and info. Operands: the converter's result, 2^-22 of the reference. -/
  | hkUrgentComplete (code : Int)
  /-- FILTER_SYNC (R320): FILTER_SYNC requests a FILTER pulse or restarts the decimators at once in role 0. -/
  | filterSync (via : Port) (seq : BitVec 16)
  /-- FILTER_SYNC_TIMEOUT (R320): FILTER_SYNC completes SYNC_ABSENT when no SYNC edge arrives within 1 s. -/
  | filterSyncTimeout
  /-- TIA_RANGE (R376): TIA_RANGE selects a TIA channel's range and restarts it at the next word boundary. -/
  | tiaRange (via : Port) (seq : BitVec 16) (channel range : Byte)
  /-- THERMAL_READ (R407): THERMAL_READ returns the thermal block. -/
  | thermalRead (via : Port) (seq : BitVec 16)
  /-- CAL_RUN (R397): CAL_RUN starts the calibration items named in its mask. -/
  | calRun (via : Port) (seq : BitVec 16) (items : BitVec 16)
  /-- CAL_RUN_COMPLETE (R397): CAL_RUN completes with DONE or the status of the first item not accepted. -/
  | calRunComplete
  /-- CAL_RECORD_READ (R405): CAL_RECORD_READ returns 256 bytes of the calibration record in force. -/
  | calRecordRead (via : Port) (seq : BitVec 16) (record : BitVec 16)
  /-- AUXOUT_SET (R384): AUXOUT_SET sets the AUXOUT DAC code. -/
  | auxoutSet (via : Port) (seq : BitVec 16) (value : BitVec 32)
  /-- ILL_SET (R420): ILL_SET writes LEVEL for the strings in its mask. -/
  | illSet (via : Port) (seq : BitVec 16) (mask : Byte) (level : BitVec 16)
  /-- RECORDER_ARM (R436): RECORDER_ARM stores a trigger block and enters PRE_FILL. -/
  | recorderArm (via : Port) (seq : BitVec 16) (block : List Byte)
  /-- RECORDER_FORCE (R437): RECORDER_FORCE triggers a capture at once, or is counted as missed. -/
  | recorderForce (via : Port) (seq : BitVec 16)
  /-- RECORDER_READ (R439): RECORDER_READ places a capture record on stream 6 and frees its slot. -/
  | recorderRead (via : Port) (seq : BitVec 16) (capture : Byte)
  /-- RECORDER_READ_COMPLETE (R439): The capture record is placed or refused by class 5 and the command completes. Operands: class 5 refused the record where true. -/
  | recorderReadComplete (refused : Bool)
  /-- FAULT_LOG_READ (R433): FAULT_LOG_READ returns up to 32 fault log entries. -/
  | faultLogRead (via : Port) (seq : BitVec 16) (first count : BitVec 16)
  /-- CLASS_COUNTERS_READ (R335): CLASS_COUNTERS_READ returns the served, delayed and refused counters of the six classes. -/
  | classCountersRead (via : Port) (seq : BitVec 16)
  /-- MONITOR_CONTROL (R440): MONITOR_CONTROL enables or disables the monitor UART. -/
  | monitorControl (via : Port) (seq : BitVec 16) (enable : Byte)
  /-- COMP_CONFIG (R237): COMP_CONFIG binds stream 1 to a compression context and level after the rate test. -/
  | compConfig (via : Port) (seq : BitVec 16) (level context : Byte)
  /-- COMP_CONTEXT_SAVE (R238): COMP_CONTEXT_SAVE schedules capture of a compression context to a buffer. -/
  | compContextSave (via : Port) (seq : BitVec 16) (context : Byte) (addr : BitVec 64)
  /-- CONTEXT_SAVE_COMPLETE (R238): The captured context image is written, a checkpoint number issued and the command completes. -/
  | contextSaveComplete
  /-- COMP_CONTEXT_RESTORE (R239): COMP_CONTEXT_RESTORE reads and checks a context image for replacement of a context. -/
  | compContextRestore (via : Port) (seq : BitVec 16) (context : Byte) (addr : BitVec 64)
  /-- CONTEXT_RESTORE_COMPLETE (R239): The context is replaced at the next segment boundary or at once, or the image fails. -/
  | contextRestoreComplete
  /-- DECOMPRESS (R240): DECOMPRESS starts inflating a raw DEFLATE stream from LPDDR5. -/
  | decompress (via : Port) (seq : BitVec 16) (src : BitVec 64) (srcLen : BitVec 32) (dst : BitVec 64) (limit : BitVec 32)
  /-- DECOMPRESS_COMPLETE (R241): The inflation ends with DONE or a decompressor status and the result group is updated. -/
  | decompressComplete
  /-- FLASH_READ (R360): FLASH_READ returns bytes of the boot flash, refusing the safety configuration area. -/
  | flashRead (via : Port) (seq : BitVec 16) (addr : BitVec 32) (length : BitVec 16)
  /-- FW_INFO (R81): FW_INFO returns the image information block. -/
  | fwInfo (via : Port) (seq : BitVec 16)
  /-- FW_BEGIN (R80): FW_BEGIN starts an image update into a flash slot or the staging buffer. -/
  | fwBegin (via : Port) (seq : BitVec 16) (slot : Byte) (length : BitVec 32)
  /-- FLASH_ERASE_COMPLETE (R80): The background erase of a slot's blocks finishes, allowing further FW_WRITE. -/
  | flashEraseComplete
  /-- FW_WRITE (R80): FW_WRITE writes the next bytes of the image. -/
  | fwWrite (via : Port) (seq : BitVec 16) (offset : BitVec 32) (data : List Byte)
  /-- FW_VERIFY (R80): FW_VERIFY starts checking the written slot under R76 and R77. -/
  | fwVerify (via : Port) (seq : BitVec 16)
  /-- FW_VERIFY_COMPLETE (R80): The verification ends with DONE, a boot status or a decompressor status. Operands: the xSPI read failed where true. -/
  | fwVerifyComplete (flashError : Bool)
  /-- FW_ACTIVATE (R80): FW_ACTIVATE writes a boot control record naming the slot with TRIAL 1, or boots the staging image. -/
  | fwActivate (via : Port) (seq : BitVec 16) (slot : Byte)
  /-- REBOOT (R64): REBOOT is answered and a warm reset begins 1 ms after the reply. -/
  | reboot (via : Port) (seq : BitVec 16)
  /-- VDD_AON_RISE (R61): VDD_AON rises above its release level and a cold boot starts. -/
  | vddAonRise
  /-- VDD_AON_LOSS (R63): VDD_AON stays below 0.65 V for 10 µs and the device goes to OFF. -/
  | vddAonLoss
  /-- RAIL_BROWNOUT (R62): A rail other than VDD_AON browns out, emitters and outputs go off and a warm reset starts. Operands: the rail's row of Table 3-1. -/
  | railBrownout (rail : Fin 9)
  /-- RAILS_GOOD (R62): All rails have been good for the required time and the boot proceeds. Operands: BOOT_SEL1:0 as sampled. -/
  | railsGood (bootSel : BitVec 2)
  /-- RESET_N_PULSE (R65): RESET_N held low for at least 1 µs causes a warm reset, or is ignored in THERMAL_LATCH. Operands: the width of the low pulse. -/
  | resetNPulse (ns : Nat)
  /-- WATCHDOG_EXPIRY (R84): The watchdog unserviced for 100 ms inhibits emitters, turns outputs off, logs and starts a warm reset. -/
  | watchdogExpiry
  /-- WAKE_SOURCE (R85): A CMD_CS_N fall, WAKE_N or ETH_WAKE_N low for 10 µs wakes the device from DORMANT. Operands: 0 WAKE_N, 1 SPI, 2 Ethernet. -/
  | wakeSource (src : BitVec 2)
  /-- BOOT_ROM_START (R73): With PLL B locked the boot ROM samples the straps, reads the boot control records and selects a slot. -/
  | bootRomStart
  /-- IMAGE_VERIFY_DONE (R76): Streaming and signature check of a slot end and the firmware is released or the next slot is tried. Operands: the xSPI read failed where true. -/
  | imageVerifyDone (flashError : Bool)
  /-- DOMAIN_GROUP_SWITCH_ON (R82): The firmware switches on the next group of ten requested domains every 50 µs. -/
  | domainGroupSwitchOn
  /-- POWER_ON_SELF_TEST_DONE (R82): The self-tests end, POST_RESULT is set and failures isolate, fence or enter SAFE_HOLD. Operands: the slices and regions that failed, the other failures as POST_RESULT bits, and the boot time in microseconds. -/
  | powerOnSelfTestDone (sliceFail : BitVec 128) (regionFail : BitVec 4) (fail : BitVec 10) (bootUs : BitVec 32)
  /-- PLL_UNLOCK (R12): A PLL loses lock and EV_PLL_UNLOCK is raised within 2 µs. -/
  | pllUnlock (pll : Fin 7)
  /-- CLOCK_MONITOR_COMPARE (R12): Once per millisecond SAFE is compared with COARSE and a persistent difference raises EV_CLOCK_MONITOR. Operands: SAFE against COARSE, signed, 0.01 %. -/
  | clockMonitorCompare (dev : BitVec 16)
  /-- CLOCK_STOP_DETECT (R12): SAFE or COARSE stopped for 10 µs raises EV_CLOCK_MONITOR. Operands: COARSE stopped where true, SAFE where false. -/
  | clockStopDetect (coarse : Bool)
  /-- PWR_DOM_REQ_WRITE (R18): A write of PWR_DOM_REQ switches power domains on or off, refused while scanning for protected domains. -/
  | pwrDomReqWrite (via : Port) (seq : BitVec 16) (index : Fin 3) (value : BitVec 32)
  /-- DOMAIN_READY (R17): A domain switched on is ready with reset values and its PWR_DOM_STAT bit reads 1. -/
  | domainReady (dom : Fin 80)
  /-- CAL_FIELD_RELOAD (R454): The firmware reloads cal and OTP fields of a domain switched on after READY. -/
  | calFieldReload (dom : Fin 80)
  /-- COLUMN0_BOUNDARY_FIX (R474): At the engine tick where loops are settled the column 0 boundary is fixed and EMIT_INHIBIT.STATE clears. Operands: the coarse clock of the boundary. -/
  | column0BoundaryFix (cc : Nat)
  /-- COLUMN_BOUNDARY (R96): A column boundary of the schedule is reached; frame starts, scan start and stop take effect. -/
  | columnBoundary
  /-- THROTTLE_RESTART (R393): At the end of a reverse frame a pending throttle level change restarts the scan with the new zoom count. -/
  | throttleRestart
  /-- VSTR_SAMPLE (R92): At T_N minus 160 ns the VSTR of every string of the bank is sampled. Operands: the four VSTR samples, 10 mV. -/
  | vstrSample (bank : Fin 8) (v : List Nat)
  /-- ANGLE_LATCH (R134): At T_N minus 120 ns the limiter latches the angle, forms the cell and the receive columns are selected. -/
  | angleLatch (bank : Fin 8)
  /-- SHOT_CONSENT (R97): At the consent time a slot's outcome is settled and the limiter is consulted. Operands: the limiter lanes disagree where true. -/
  | shotConsent (bank : Fin 8) (laneFault : Bool)
  /-- SHOT_FIRE (R95): The bank's pulse switches fire with offset and DELAY and the limiter adds the cost at gate rise. Operands: the limiter lanes disagree at the addition where true. -/
  | shotFire (bank : Fin 8) (laneFault : Bool)
  /-- LIMITER_SUBWINDOW_ADVANCE (R107): A CELL or LONG sub-window of the limiter ends and the window slides. Operands: LONG sub-window where true, CELL where false. -/
  | limiterSubwindowAdvance (long : Bool)
  /-- PULSE_WIDTH_CLASSIFY (R110): A fired string's PWS pulse is timed and classed GOOD, NARROW, MISSING or WIDE. Operands: rise after gate rise in fine LSB, width in fine LSB, PWS still high 20 ns after gate fall. -/
  | pulseWidthClassify (string : Fin 32) (rise : Option Int) (width : Nat) (highAfter20 : Bool)
  /-- STRAY_CURRENT (R110): PWS high while the gate is low latches STRAY and enters SAFE_HOLD. -/
  | strayCurrent (string : Fin 32)
  /-- CHARGE_WINDOW_OPEN (R91): The bank's charge window opens after a firing. Operands: the four VSTR values, 10 mV. -/
  | chargeWindowOpen (bank : Fin 8) (v : List Nat)
  /-- CHARGE_WINDOW_CLOSE (R91): The bank's charge window closes 200 ns before the next firing. -/
  | chargeWindowClose (bank : Fin 8)
  /-- CHARGE_TARGET_REACHED (R91): VSTR reaches the effective target and the string stops charging. -/
  | chargeTargetReached (string : Fin 32)
  /-- STRING_OVERVOLT (R93): VSTR reaches 2.440 V, the charge stage stops and the string is no longer fired. -/
  | stringOvervolt (string : Fin 32)
  /-- INHIBIT_SOURCE_ASSERT (R100): An EMIT_INHIBIT source asserts and within 40 ns the PSW pairs idle, charging stops and EMIT_EN falls. Operands: the Table 4-3 sources that assert in one COARSE clock. -/
  | inhibitSourceAssert (srcs : BitVec 12)
  /-- INHIBIT_SOURCE_RELEASE (R100): An EMIT_INHIBIT source deasserts and its bit clears. -/
  | inhibitSourceRelease (src : Fin 12)
  /-- EMIT_INHIBIT_LATCH_WRITE (R100): Writing 1 to an EMIT_INHIBIT_LATCH bit re-arms EV_EMITTER_INHIBIT for that source. -/
  | emitInhibitLatchWrite (via : Port) (seq : BitVec 16) (value : BitVec 32)
  /-- SHOT_TRIGGER_EDGE (R102): An accepted TIN edge claims the next eligible slot of a trigger-driven bank, or is deferred or merged. Operands: bit b of late: the edge comes after the consent time of bank b's current slot; bit b of tight: bank b's next consent time comes less than 20 ns after the edge. -/
  | shotTriggerEdge (input : Fin 4) (falling : Bool) (late tight : BitVec 8)
  /-- STRING_FAULT_CLEAR (R109): Writing 1 to a STR_STAT fault bit clears it in READY or SAFE_HOLD. -/
  | stringFaultClear (via : Port) (seq : BitVec 16) (string : Fin 32) (value : BitVec 32)
  /-- PICKOFF_LOST_CLEAR (R111): Writing 1 to BANK_STAT.PICKOFF_LOST in READY or SAFE_HOLD resumes the bank. -/
  | pickoffLostClear (via : Port) (seq : BitVec 16) (bank : Fin 8) (value : BitVec 32)
  /-- DERATE_CFG_WRITE (R113): A DERATE_CFG write is checked and discarded whole with CFG_ERR if invalid. -/
  | derateCfgWrite (via : Port) (seq : BitVec 16) (value : BitVec 32)
  /-- PICKOFF_EDGE (R171): The first pick-off edge in the armed span decides the shot's start and releases held row events. Operands: coarse clock and tap code of the edge. -/
  | pickoffEdge (bank : Fin 8) (cc : Nat) (tap : Fin 64)
  /-- PICKOFF_WINDOW_END (R171): No pick-off edge by G plus PICK_MAX gives no start with TIMEOUT. -/
  | pickoffWindowEnd (bank : Fin 8)
  /-- ANGLE_SAMPLE (R127): An angle converter sample is converted to the beam angle and supervised. Operands: the angle code and the drive current code (none: no code in time), and fine LSB since the column boundary. -/
  | angleSample (code isns : Option (BitVec 16)) (tau : Nat)
  /-- LOOP_SAMPLE (R120): A loop due on the engine tick computes its sample and drives its destination. Operands: fine LSB since the column boundary, and the HV codes since the last sample (Loop 3). -/
  | loopSample (loop : Fin 8) (tau : Nat) (hv : List (Option (BitVec 16)))
  /-- LOOP_SWAP_WRITE (R124): Writing 1 to LOOP_CTRL.SWAP schedules a coefficient swap. -/
  | loopSwapWrite (via : Port) (seq : BitVec 16) (loop : Fin 8)
  /-- LOOP_RATE_WRITE (R117): A LOOP_RATE write is discarded with RATE_ERR if it breaks the budget or the loop is not OFF. -/
  | loopRateWrite (via : Port) (seq : BitVec 16) (loop : Fin 8) (value : BitVec 32)
  /-- FB_LATCH_CLEAR (R138): Writing 1 to FB_LOST or FB_FROZEN clears it only in HOLD or OFF with the source in band. -/
  | fbLatchClear (via : Port) (seq : BitVec 16) (loop : Fin 8) (value : BitVec 32)
  /-- HV_OVERVOLT (R146): HVB_SNS reaches 2.0625 V, HVB_GATE goes low, HV_OVP latches and the bias loops hold. Operands: HV_SPAD in mV. -/
  | hvOvervolt (hv : BitVec 16)
  /-- HV_OVP_CLEAR (R146): Writing 1 to HV_OVP clears it in READY or SAFE_HOLD below 30 V. -/
  | hvOvpClear (via : Port) (seq : BitVec 16)
  /-- REF_CELL_TRIGGER (R147): Every 10 µs the selected reference cells are triggered and their swings measured. Operands: per bank and cell (6 b + i) the swing in 6.25 mV, none: no answer. -/
  | refCellTrigger (swings : List (Option Nat))
  /-- VEX_UPDATE (R147): Every 640 µs VEX is formed from the reference cells and delivered to Loop 2. -/
  | vexUpdate
  /-- ROW_ARM (R151): A row arms PRE_SPAN before the shot's earliest gate rise and releases its masked cells. -/
  | rowArm (row : Fin 1024)
  /-- ROW_DISARM (R151): A row disarms at S plus LISTEN, or without a start after its listening span. Operands: coarse clocks armed, and released per macro-pixel, since the last shot. -/
  | rowDisarm (row : Fin 1024) (armed : Nat) (clocks : List Nat)
  /-- COINCIDENCE_EVENT (R153): Enough cells fire within the window to declare a row event, which is classified by its interval. Operands: coarse clock and phase of the earliest firing, distinct cells in the window. -/
  | coincidenceEvent (row : Fin 1024) (cc : Nat) (phase : Fin 8) (cells : Nat)
  /-- CELL_MAP_WRITE (R142): A CELL_MAP write is judged whole and discarded with MAP_ERR above 32 cells. -/
  | cellMapWrite (via : Port) (seq : BitVec 16) (row : Fin 1024) (q : Fin 8) (lo hi : BitVec 32)
  /-- LADDER_WRITE (R158): A coincidence ladder write is checked and discarded with CFG_ERR if invalid. -/
  | ladderWrite (via : Port) (seq : BitVec 16) (step : Fin 6) (value : BitVec 32)
  /-- LANE_RMW_CYCLE (R183): A lane performs a read-modify-write of a queued histogram increment. Operands: lane B where true; 0 the word read is clean, 1 one bit wrong, 2 two. -/
  | laneRmwCycle (row : Fin 1024) (lane : Bool) (ecc : Fin 3)
  /-- SLC_ECC_INJ_WRITE (R184): A write of SLC_ECC_INJ sets a pending one- or two-bit corruption. -/
  | slcEccInjWrite (via : Port) (seq : BitVec 16) (slice : Fin 128) (value : BitVec 32)
  /-- ZOOM_SNAPSHOT (R186): Before the first zoom shot the row snapshots the tracker and places zoom windows. -/
  | zoomSnapshot (row : Fin 1024)
  /-- BUFFER_SWAP (R188): At shot 0 of the bank's next column each row swaps buffers and closes its per-column counts. -/
  | bufferSwap (bank : Fin 8)
  /-- ROW_READOUT (R189): The peak engine reads and clears one row of a swapped buffer and extracts its returns. Operands: 0 every word read is clean, 1 one has one bit wrong, 2 one has two, and which word (lane times 72 plus its index). -/
  | rowReadout (row : Fin 1024) (ecc : Fin 3) (word : Fin 144)
  /-- REGION_COLUMN_RELEASE (R215): After the bank's last row the bloom test runs and the region's column part goes to the formatter. -/
  | regionColumnRelease (region : Fin 4)
  /-- PEAK_SELFCHECK (R216): In each frame's first column the engine processes the pattern row and fences on mismatch. -/
  | peakSelfcheck (region : Fin 4) (matched : Bool)
  /-- DLL_UNLOCK (R169): A reference channel's DLL is declared unlocked and stops stamping. -/
  | dllUnlock (ch : Fin 12)
  /-- DLL_LOCK (R169): A reference channel's DLL locks after power-on, a map change or a relock. -/
  | dllLock (ch : Fin 12)
  /-- DLL_RELOCK_TIMEOUT (R169): A channel that fails to relock in 100 µs latches FAULT and stops. -/
  | dllRelockTimeout (ch : Fin 12)
  /-- TAP_MAP_WRITE (R169): A tap map write is judged whole, discarded without 64 cells, or starts a relock. -/
  | tapMapWrite (via : Port) (seq : BitVec 16) (ch : Fin 12) (w0 w1 w2 : BitVec 32)
  /-- LIN_TABLE_WRITE (R169): A LIN table write is checked and sets or clears LIN_VALID. -/
  | linTableWrite (via : Port) (seq : BitVec 16) (ch : Fin 12) (first : Fin 64) (values : List Word)
  /-- TIN_EDGE (R172): An accepted TIN edge is stamped and opens or closes a measurement or feeds the scheduler. Operands: coarse clock and tap code of the edge. -/
  | tinEdge (input : Fin 4) (falling : Bool) (cc : Nat) (tap : Fin 64)
  /-- TIN_INTERVAL_TIMEOUT (R175): An open interval measurement ends with TIMEOUT at open plus TIMEOUT coarse clocks. -/
  | tinIntervalTimeout (ch : Fin 4)
  /-- Q_POP_WRITE (R176): Writing 1 to Q_POP removes the oldest TIN queue entry. -/
  | qPopWrite (via : Port) (seq : BitVec 16) (ch : Fin 12)
  /-- COLUMN_RECORD_BUILD (R224): With all four region parts present the column record is built and placed in the output ring. -/
  | columnRecordBuild
  /-- REGION_PART_LATE (R224): A region part missing at the swap for column c plus 2 is reported absent and the column INCOMPLETE. -/
  | regionPartLate
  /-- FRAME_END_RECORD (R229): The frame end record is placed once every region's frame result group is updated. -/
  | frameEndRecord
  /-- OVERFLOW_CHAIN_REFILL (R233): The ring refills in order from the overflow chain as room appears. -/
  | overflowChainRefill
  /-- PS_CTRL_WRITE (R237): A PS_CTRL write that breaks the compression rate test is discarded with CFG_ERR. -/
  | psCtrlWrite (via : Port) (seq : BitVec 16) (value : BitVec 32)
  /-- OVF_CONFIG_WRITE (R233): An overflow register write that leaves an invalid buffer or is made while active is discarded. -/
  | ovfConfigWrite (via : Port) (seq : BitVec 16) (addr : BitVec 32) (values : List Word)
  /-- CSI_FRAME_START (R247): An FS packet opens a camera frame and the pipeline decides live processing or deferral. -/
  | csiFrameStart (cam : Fin 2) (frame : BitVec 16)
  /-- CSI_LINE_PACKET (R248): An image long packet is received and the input conditions of Table 11-3 resolved. Operands: hdr: the header ECC clean, one bit corrected, uncorrectable; overflow: the ingest queue is full. -/
  | csiLinePacket (cam : Fin 2) (wordCount : BitVec 16) (crcOk : Bool) (pixels : List Byte) (hdr : Fin 3) (overflow : Bool)
  /-- CSI_FRAME_END (R248): An FE packet closes the frame complete or SHORT. -/
  | csiFrameEnd (cam : Fin 2) (frame : BitVec 16)
  /-- CSI_LINE_TIMEOUT (R248): No packet for LINE_TIMEOUT closes the frame complete or drops the remainder. -/
  | csiLineTimeout (cam : Fin 2)
  /-- DEFERRED_FRAME_START (R254): An idle pipeline starts the oldest deferred or reprocess frame if it fits before F_p. -/
  | deferredFrameStart
  /-- STRIPE_READY (R255): A stripe becomes ready and is served by the pipeline. -/
  | stripeReady (ctx : Fin 4)
  /-- STRIP_RECORD_SEND (R264): A strip record leaves when its last line is written. Operands: the plane whose next strip is complete. -/
  | stripRecordSend (ctx : Fin 4) (coding : Bool) (level : Fin 3)
  /-- PIPELINE_FRAME_CLOSE (R263): A processed frame closes, its display buffer is handed over and statistics updated. -/
  | pipelineFrameClose (ctx : Fin 4)
  /-- FUSION_COLUMN (R266): The fusion unit projects a column record's returns into the open depth maps. -/
  | fusionColumn
  /-- DEPTH_MAP_CLOSE (R268): A depth map closes at the first column after the exposure window and leaves on stream 3. -/
  | depthMapClose (cam : Fin 2)
  /-- DEPTH_MAP_STALE (R268): A map still open 50 ms after its window end closes as stale. -/
  | depthMapStale (cam : Fin 2)
  /-- FUS_CTRL_WRITE (R267): A FUS_CTRL write validates calibration on EN rising and is discarded above 65,536 cells. -/
  | fusCtrlWrite (via : Port) (seq : BitVec 16) (value : BitVec 32)
  /-- FLIP_POINT (R274): At a display frame start buffers and layers are chosen and a waiting commit applies. -/
  | flipPoint (disp : Fin 2)
  /-- COMMIT_REQ_WRITE (R278): Writing 1 to DISP_CTRL.COMMIT_REQ commits the staged bank. -/
  | commitReqWrite (via : Port) (seq : BitVec 16) (disp : Fin 2)
  /-- DISPLAY_LINE_START (R288): A line unit is composed and sent ahead of its active pixels. -/
  | displayLineStart (disp : Fin 2) (line : Nat)
  /-- FRAME_LOCK_LOST_TIMEOUT (R284): No FE for 3 display frames clears LOCKED. -/
  | frameLockLostTimeout (disp : Fin 2)
  /-- TRAINING_PHASE_END (R303): A training phase of a rung ends or misses its bound, passing or failing the rung. -/
  | trainingPhaseEnd (port : Fin 3) (pass : Bool) (fomTx fomRx : Byte)
  /-- CONTROL_BLOCK_RECEIVED (R298): A CONTROL block from the host updates credit limits and FoM. Operands: the 512 bytes of the block as the upstream lane carries them. -/
  | controlBlockReceived (bytes : List Byte)
  /-- CONTROL_BLOCK_SEND (R298): Every 1 ms the device sends a CONTROL block downstream. -/
  | controlBlockSend
  /-- BLOCK_SEND (R300): The transmitter sends the next block, choosing a stream by priority and credit. -/
  | blockSend (port : Fin 3)
  /-- UPSTREAM_CLOCK_LOSS (R308): The upstream clock absent for 1 µs takes port H DOWN. -/
  | upstreamClockLoss
  /-- AUTO_RETRAIN (R308): A port with AUTO_RETRAIN or AUTO_START climbs the ladder again by itself. -/
  | autoRetrain (port : Fin 3)
  /-- FOM_PUBLISH (R308): Every 100 ms the device publishes its receiver FoM and checks FOM_WARN. -/
  | fomPublish (port : Fin 3) (fom : Byte)
  /-- VNAUX_FRAME_SEND (R307): The device sends a training report frame on VnAUX. -/
  | vnauxFrameSend (port : Fin 3)
  /-- VNAUX_REPLY (R307): The bridge's AUX reply is received, or missing, and judged. -/
  | vnauxReply (port : Fin 3) (reply : Option (List Byte))
  /-- ETH_LINK_CHANGE (R310): SGMII auto-negotiation result changes the Ethernet link state. -/
  | ethLinkChange (up gigabit : Bool)
  /-- ARP_REQUEST (R311): An ARP request for the device's address is answered. -/
  | arpRequest (sender : BitVec 32) (senderMac : BitVec 48) (target : BitVec 32)
  /-- ICMP_ECHO_REQUEST (R311): An ICMP echo request is answered. Operands: identifier, sequence number and payload of the request. -/
  | icmpEchoRequest (sender : BitVec 32) (ident seq : BitVec 16) (payload : List Byte)
  /-- STREAM_DATAGRAM_SEND (R312): A routed stream sends a data datagram from port 47058 under credit. -/
  | streamDatagramSend (stream : Fin 8)
  /-- CREDIT_DATAGRAM (R312): A credit datagram updates DCREDIT of streams 1 to 7. -/
  | creditDatagram (src : Peer) (bytes : List Byte)
  /-- GPTP_SYNC (R316): A Sync with its Follow_Up updates the offset and the servo, stepping time if allowed. Operands: ingress time stamp, preciseOriginTimestamp in ns, correction in 2^-16 ns, grandmaster rate ratio less 1 in 2^-41, base-2 logarithm of the Sync interval in s; the Follow_Up is missing where false. -/
  | gptpSync (rx origin : BitVec 64) (correction ratio logInterval : Int) (followUp : Bool)
  /-- GPTP_ANNOUNCE (R315): An Announce message is received and the best master chosen. -/
  | gptpAnnounce (bytes : List Byte)
  /-- PDELAY_EXCHANGE (R315): Every 1 s the device initiates a peer delay exchange and updates asCapable. -/
  | pdelayExchange
  /-- PDELAY_REQ_RX (R315): A peer delay request is answered as responder. Operands: the request message. -/
  | pdelayReqRx (request : List Byte)
  /-- HOLDOVER_TIMEOUT (R314): Missing Sync or Announce for 3 intervals takes the time base to HOLDOVER. Operands: Announce is missing where true, Sync where false. -/
  | holdoverTimeout (announce : Bool)
  /-- TB_TIME_LO_READ (R313): Reading TB_TIME_LO latches the whole device time for TB_TIME_HI. -/
  | tbTimeLoRead (via : Port) (seq : BitVec 16)
  /-- SYNC_PULSE_RX (R321): A follower receives a SYNC pulse, classes it and aligns its column boundary. Operands: width in ns, e of R321 in fine LSB, and fine LSB since the edge before. -/
  | syncPulseRx (width : Nat) (err : Int) (gap : Nat)
  /-- SYNC_LOST (R321): No pulse for 3 column durations sets LOST and holds f. -/
  | syncLost
  /-- SYNC_ABSENT_TIMEOUT (R322): No FRAME pulse within 500 ms of settling completes SCAN_START SYNC_ABSENT. -/
  | syncAbsentTimeout
  /-- HK_SYNC_EDGE (R320): The falling edge of a FILTER pulse restarts the housekeeping and TIA decimators. -/
  | hkSyncEdge
  /-- MEM_GRANT (R329): At a grant opportunity the memory scheduler grants a request by class. Operands: 0 no link ECC error, 1 corrected, 2 uncorrectable after the retry, and the LPDDR5 channel. -/
  | memGrant (ecc : Fin 3) (channel : Fin 2)
  /-- CLASS2_WAIT_TIMEOUT (R331): A class 2 request unserved for C2_WAIT is refused. -/
  | class2WaitTimeout
  /-- SELF_REFRESH_ENTRY (R336): Both channels enter self-refresh when idle and displays tolerate it. -/
  | selfRefreshEntry
  /-- SELF_REFRESH_EXIT (R337): A request or LAT_TOL reaching SR_WAKE wakes the memory. -/
  | selfRefreshExit
  /-- DEEP_SLEEP_ENTRY (R338): After 10 ms idle with no display, camera or scan the channels enter deep sleep. -/
  | deepSleepEntry
  /-- REGION_S_CYCLE (R353): Every 10 µs Region S samples pins, updates inputs, causes, COND, reset edges and outputs. Operands: the pins as sampled (bit 2 i and 2 i + 1 the channels A and B of input i; bit 16 SRST_IN; bits 24 + 2 o and 25 + 2 o the readbacks of output o), whether the lanes disagree, whether a limit table shows an uncorrectable error. -/
  | regionSCycle (pins : BitVec 32) (laneFault tableUe : Bool)
  /-- TEST_PULSE (R350): An ON output's channel is pulsed off every TP_PERIOD, or the pulse is skipped. -/
  | testPulse (out : Fin 4) (channelB : Bool)
  /-- SAFETY_COLUMN_EVAL (R346): Region S evaluates a column's safety words against every enabled field. -/
  | safetyColumnEval
  /-- COLUMN_TIMEOUT (R346): No complete column for 3 column durations makes ranging invalid. -/
  | columnTimeout
  /-- RANGING_INVALID_CAUSE (R346): A cause of Table 15-3 arises and every enabled field becomes VIOLATED. -/
  | rangingInvalidCause (cause : Fin 8)
  /-- REGION_S_CONFIG_LOAD (R360): At boot Region S loads the safety configuration copy and the limiter parameters. -/
  | regionSConfigLoad
  /-- LIMIT_TABLE_BUILT (R344): Region S finishes building the field limit tables and leaves STARTING. -/
  | limitTableBuilt
  /-- SESSION_TIMEOUT (R356): A commissioning session closes after 600 s without a locked-set command. -/
  | sessionTimeout
  /-- CREDENTIAL_LOCKOUT_END (R356): The 60 s credential lockout ends. -/
  | credentialLockoutEnd
  /-- SAFETY_STATUS_RECORD (R361): Region S sends the safety status record on stream 7 every 10 ms or on change. -/
  | safetyStatusRecord
  /-- HK_CONVERTER_START (R368): The converter starts, settles for 20 ms and begins round 0. -/
  | hkConverterStart
  /-- HK_ROUND_START (R366): A new round starts and a pending housekeeping configuration applies. -/
  | hkRoundStart
  /-- HK_CONVERSION_END (R369): A slot's integration ends and its result is linearised, judged and published. -/
  | hkConversionEnd (code : Int)
  /-- NTC_COMPARATOR_TRIP (R374): An NTC pin outside 1 to 99 % for 100 µs marks the conversion SUSPECT. -/
  | ntcComparatorTrip
  /-- TIA_WORD (R377): A TIA channel reaches a word boundary and delivers or suppresses a word. -/
  | tiaWord (ch : Fin 4) (code : Int)
  /-- WM_SOURCE_TOGGLE (R383): The window-monitor source toggles each WM_HALF and LEVEL is updated at switch-on. -/
  | wmSourceToggle
  /-- HUB_READING (R388): Every 1 ms the thermal hubs read their diodes and faulted diodes are excluded. -/
  | hubReading (codes : List Int)
  /-- THERMAL_EVALUATION (R390): The thermal governor evaluates sensor levels and sets the throttle level. -/
  | thermalEvaluation
  /-- ANALOGUE_THERMAL_TRIP (R396): A 140 °C comparator cell sets the latch flag, inhibits emitters and illuminators and enters THERMAL_LATCH. -/
  | analogueThermalTrip
  /-- CAL_AUTO_RUN (R398): With AUTO set the device starts a run of all due calibration items. -/
  | calAutoRun
  /-- CAL_ITEM_END (R400): A calibration item ends and its results are accepted or rejected. Operands: what the item measured, and how many of the two flash copies were written and read back where the run ends with it. -/
  | calItemEnd (meas : CalMeas) (copiesWritten : Fin 3)
  /-- ILLUM_SLICE_START (R413): At a slice start the accumulator decides whether the string's slice is lit. Operands: V_STR in 10 mV and the shunt voltage in 10 µV of the slice that ends. -/
  | illumSliceStart (string : Fin 4) (v shunt : Nat)
  /-- ILLUM_WINDOW_START (R414): A gated string's exposure window starts, resetting the accumulator and applying changes. -/
  | illumWindowStart (string : Fin 4)
  /-- ILLUM_WINDOW_END (R414): A gated string's exposure window ends and the result group is updated. -/
  | illumWindowEnd (string : Fin 4)
  /-- ILLUM_SHUNT_CROSSING (R411): The shunt voltage crosses the hysteresis band or overcurrent limit and ILL_DRV switches. -/
  | illumShuntCrossing (string : Fin 4) (kind : BitVec 2)
  /-- ILLUM_PROBE_END (R418): A string's 1 ms probe ends and is judged by Table 18-2. -/
  | illumProbeEnd (string : Fin 4) (v shunt : Nat)
  /-- ILL_FAULT_CLEAR (R419): Writing 1 to a string fault bit clears it and the string is probed again. -/
  | illFaultClear (via : Port) (seq : BitVec 16) (string : Fin 4) (value : BitVec 32)
  /-- ILL_THERM_WRITE (R417): An ILL_THERM.OFF write outside 60 to 125 °C is discarded with CFG_ERR. -/
  | illThermWrite (via : Port) (seq : BitVec 16) (value : BitVec 32)
  /-- RECOVERY_TIMER_EXPIRY (R430): The recovery timer expires and recovery completes when no cause is active. -/
  | recoveryTimerExpiry
  /-- FAULT_CAUSE_CLEARED (R430): The last active cause clears after the timer has expired and recovery completes. -/
  | faultCauseCleared (event : BitVec 8)
  /-- FM_FIRST_CLEAR (R432): Writing 1 to FM_FIRST.VALID empties the first-fault register. -/
  | fmFirstClear (via : Port) (seq : BitVec 16)
  /-- FM_CLASS_WRITE (R428): An FM_CLASS write raises an event's class, stored at least at its minimum. -/
  | fmClassWrite (via : Port) (seq : BitVec 16) (index : Fin 16) (value : BitVec 32)
  /-- RECORDER_TRIGGER (R436): A trigger condition is decided and the recorder enters POST_FILL, or the trigger is counted. -/
  | recorderTrigger
  /-- RECORDER_PRE_FILL_DONE (R435): PRE samples are held and the recorder becomes ARMED. -/
  | recorderPreFillDone
  /-- RECORDER_POST_FILL_DONE (R438): The post-trigger fill completes and the capture is stored in a slot. -/
  | recorderPostFillDone (samples : List Byte)
  /-- MONITOR_LINE (R440): A line is received on MON_RX and parsed as a monitor command. Operands: the characters before CR LF. -/
  | monitorLine (line : List Byte)
  /-- MON_ID (R442): The monitor ID command returns identity, firmware version and MAC address. -/
  | monId
  /-- MON_NONCE (R442): The monitor NONCE command returns the nonce. -/
  | monNonce
  /-- MON_AUTH (R441): The monitor AUTH command checks the credential and opens a session. Operands: the 16 bytes that the digits spell. -/
  | monAuth (credential : List Byte)
  /-- MON_RD (R442): The monitor RD command reads registers without clearing FRESH. -/
  | monRd (addr : BitVec 32) (count : Nat)
  /-- MON_ST (R442): The monitor ST command returns PWR_STATE, SAFE_STAT, TH_STAT and FM_STAT. -/
  | monSt
  /-- MON_LOG (R442): The monitor LOG command lists fault log entries. -/
  | monLog (index : Nat) (count : Nat)
  /-- MON_EV (R443): The monitor EV ON or EV OFF command starts or stops live event lines. -/
  | monEv (on : Bool)
  /-- MON_BYE (R441): The monitor BYE command closes the session. -/
  | monBye
  /-- MON_SESSION_TIMEOUT (R441): A monitor session closes after 300 s without input. -/
  | monSessionTimeout
  /-- REBOOT_START (R64): One millisecond after the REBOOT reply the warm reset begins, with RST_CAUSE.FW_REQUEST set and the boot reference of R83. -/
  | rebootStart
  /-- PLL_LOCK (R450): A PLL regains lock, its CLK_STAT.LOCKED bit sets and the EV_PLL_UNLOCK cause stops being active. -/
  | pllLock (pll : Fin 7)
  /-- CELL_FIRING (R156): A released microcell avalanches, counts in SINGLES and the survey, and is blind for its recharge time, whether or not it forms a coincidence. -/
  | cellFiring (row : Fin 1024) (q : Fin 8) (cell : Fin 36)
  /-- CSI_NON_IMAGE_PACKET (R245): A CSI-2 packet other than an image long packet or FS/FE arrives: embedded data is kept, LS/LE have no effect, other channels and types count in IGNORED. -/
  | csiNonImagePacket (cam : Fin 2) (vc : BitVec 4) (dt : BitVec 6) (bytes : List Byte)
  /-- PAUSE_FRAME_RX (R310): A received IEEE 802.3 PAUSE frame is honoured by the MAC and counted in PAUSE_RX. -/
  | pauseFrameRx (quanta : BitVec 16)
  /-- ETH_FRAME_DISCARD (R311): A received frame that is not supported (DHCP, TCP, fragments, IP options, bad FCS, foreign VLAN) is discarded and counted. -/
  | ethFrameDiscard (fcsBad : Bool)
  /-- ARP_REPLY_RX (R311): An ARP reply resolves the gateway or the stream destination address. -/
  | arpReplyRx (ip : BitVec 32) (mac : BitVec 48)
  /-- PDELAY_RESP_RX (R315): The peer delay response and its follow-up arrive, meanLinkDelay is computed and asCapable is judged. -/
  | pdelayRespRx (t1 t2 t3 t4 : BitVec 64)
  /-- CLASS5_REFUSING_END (R333): One millisecond after the last class 5 refusal, with bucket and backlog in order, class 5 stops refusing and MEM_STAT.REFUSING clears. -/
  | class5RefusingEnd
  /-- SELF_REFRESH_EXIT_DONE (R337): The exit from self-refresh within SR_EXIT, or from deep sleep within 100 µs, completes and waiting requests may be served. -/
  | selfRefreshExitDone
  /-- MON_LOCKOUT_END (R441): The 60 s monitor AUTH lockout ends and MON_STAT.LOCKOUT clears. -/
  | monLockoutEnd
  /-- SPI_IGNORED_FRAME (R34): A chip-select frame whose first byte is neither 0x5A nor 0xA5 is ignored and counted in SPI_FRAME_ERR. -/
  | spiIgnoredFrame (first : Byte)
  /-- PE_CONFIG_WRITE (R219): A write to a region block's configuration takes effect at the next bank 0 swap, or is discarded with PE_STAT.CFG_ERR for scale, offsets and kernels while SCANNING. -/
  | peConfigWrite (via : Port) (seq : BitVec 16) (addr : BitVec 32) (values : List Word)
  /-- PIPE_CFG_WRITE (R272): A write to PIPE_CFG or the stream ring registers while any camera runs is discarded and sets PIPE_STAT.CFG_ERR. -/
  | pipeCfgWrite (via : Port) (seq : BitVec 16) (addr : BitVec 32) (values : List Word)
  /-- LAT_CFG_WRITE (R337): A LAT_CFG write whose SR_WAKE is below SR_EXIT plus LAT_URGENT plus 1,000 ns is discarded and sets MEM_STAT.CFG_ERR. -/
  | latCfgWrite (via : Port) (seq : BitVec 16) (value : BitVec 32)
  /-- THERMAL_THRESHOLD_WRITE (R389): A write of TH_HUB or TH_NTC that breaks the threshold order is discarded whole and sets TH_STAT.CFG_ERR. -/
  | thermalThresholdWrite (via : Port) (seq : BitVec 16) (addr : BitVec 32) (value : BitVec 32)
  /-- TIA_CFG_WRITE (R379): A TIA_CFG write of RANGE, PRESET or EN rising schedules a channel restart at the next word boundary. -/
  | tiaCfgWrite (via : Port) (seq : BitVec 16) (ch : Fin 4) (value : BitVec 32)
  /-- WM_CTRL_WRITE (R383): A write of WM_CTRL.SRC changes the window-monitor source at the next word boundary and restarts every ROLE 1 channel. -/
  | wmCtrlWrite (via : Port) (seq : BitVec 16) (value : BitVec 32)
  /-- ILL_DRV_ON_LIMIT (R411): ILL_DRVn that has been high for 20 µs goes low even though the shunt voltage has not crossed the band. -/
  | illDrvOnLimit (string : Fin 4)
  deriving DecidableEq, Repr

end Sys2Proof
end

