-- ==== Sys2Proof/Decode.lean ====
section
/-! DEFINITION. The reading of the command table's words. The table gives its rows no bits: a command reaches the block as a frame,
a packet or an event, never as an instruction word, so no word spells one. The packets of Table 2-1 are read in Machine/Transports.lean. -/

namespace Sys2Proof

/-- The command that a word of the table's bits spells: none, for no row has bits. -/
def decodeTableWord (_nbits _w : Nat) : Option Instr := none

end Sys2Proof
end

