-- ==== Sys2Proof/Machine/Binary32.lean ====
section
/-! DEFINITION. IEEE 754 binary32 values as exact numbers, each operation rounded once to the nearest, ties to even (R267), and the sine and cosine
that R266 needs, in fixed point. The sign of zero is not kept: nothing in R266 to R270 depends on it. -/

namespace Sys2Proof.Machine

/-- A binary32 value: an exact number, an infinity, or not a number. -/
inductive F32 where
  | fin (q : Rat)
  | inf (neg : Bool)
  | nan
  deriving DecidableEq, Repr

/-- Round an exact quotient to the nearest integer, ties to even. -/
def nearEven (n d : Nat) : Nat :=
  let k := n / d
  let r := 2 * (n % d)
  if r < d then k else if d < r then k + 1 else if k % 2 = 0 then k else k + 1

/-- The binary exponent of `n / d`, at least -126. -/
def exp32 (n d : Nat) : Int :=
  let e : Int := (Nat.log2 n : Int) - Nat.log2 d
  let e := if 0 ≤ e then (if n < d * 2 ^ e.toNat then e - 1 else e) else (if n * 2 ^ (-e).toNat < d then e - 1 else e)
  max e (-126)

/-- `2 ^ e`. -/
def pow2 (e : Int) : Rat := if 0 ≤ e then ((2 ^ e.toNat : Nat) : Rat) else mkRat 1 (2 ^ (-e).toNat)

/-- Round an exact number to binary32. -/
def round32 (q : Rat) : F32 :=
  let n := q.num.natAbs
  if n = 0 then .fin 0
  else
    let u := exp32 n q.den - 23
    let k := if 0 ≤ u then nearEven n (q.den * 2 ^ u.toNat) else nearEven (n * 2 ^ (-u).toNat) q.den
    let v := (k : Rat) * pow2 u
    if ((2 ^ 128 : Nat) : Rat) ≤ v then .inf (decide (q < 0)) else .fin (if q < 0 then -v else v)

/-- The value of a binary32 pattern. -/
def F32.ofBits (x : Nat) : F32 :=
  let neg := decide (2 ^ 31 ≤ x % 2 ^ 32)
  let e : Nat := x / 2 ^ 23 % 256
  let m : Nat := x % 2 ^ 23
  if e = 255 then (if m = 0 then .inf neg else .nan)
  else
    let v : Rat := if e = 0 then (m : Rat) * pow2 (-149) else ((m + 2 ^ 23 : Nat) : Rat) * pow2 ((e : Int) - 150)
    .fin (if neg then -v else v)

/-- Whether a value is below zero. -/
def F32.neg : F32 → Bool
  | .fin q => decide (q < 0)
  | .inf n => n
  | .nan => false

/-- Sum. -/
def F32.add : F32 → F32 → F32
  | .fin a, .fin b => round32 (a + b)
  | .nan, _ => .nan
  | _, .nan => .nan
  | .inf a, .inf b => if a = b then .inf a else .nan
  | .inf a, .fin _ => .inf a
  | .fin _, .inf b => .inf b

/-- Product. -/
def F32.mul : F32 → F32 → F32
  | .fin a, .fin b => round32 (a * b)
  | .nan, _ => .nan
  | _, .nan => .nan
  | .inf a, .inf b => .inf (a != b)
  | .inf a, .fin b => if b = 0 then .nan else .inf (a != decide (b < 0))
  | .fin a, .inf b => if a = 0 then .nan else .inf (b != decide (a < 0))

/-- Quotient. -/
def F32.div : F32 → F32 → F32
  | .fin a, .fin b => if b = 0 then (if a = 0 then .nan else .inf (decide (a < 0))) else round32 (a / b)
  | .nan, _ => .nan
  | _, .nan => .nan
  | .inf _, .inf _ => .nan
  | .inf a, .fin b => .inf (a != decide (b < 0))
  | .fin _, .inf _ => .fin 0

/-- Not below a finite bound. -/
def F32.ge (x : F32) (b : Rat) : Bool :=
  match x with
  | .fin q => decide (b ≤ q)
  | .inf n => !n
  | .nan => false

/-- Below a finite bound. -/
def F32.lt (x : F32) (b : Rat) : Bool :=
  match x with
  | .fin q => decide (q < b)
  | .inf n => n
  | .nan => false

/-- The exact number, where the value is finite. -/
def F32.rat : F32 → Option Rat
  | .fin q => some q
  | _ => none

/-! ### Sine and cosine, in 2^-96 -/

/-- 2 π in 2^-96. -/
def twoPi : Int := 497805226624462170461043889244

/-- The terms of the series of sine or cosine from term `k` of value `t`, `y` being the square of the angle. -/
def trigSeries (y : Int) (k : Nat) (t : Int) : Nat → Int
  | 0 => 0
  | n + 1 => t + trigSeries y (k + 2) (-(t * y / 2 ^ 96) / ((k + 1) * (k + 2) : Nat)) n

/-- The sine of `n / d` turns, in 2^-96. -/
def sinTurn (n : Int) (d : Nat) : Int :=
  let x := twoPi * n / (d : Int)
  trigSeries (x * x / 2 ^ 96) 1 x 40

/-- The cosine of `n / d` turns, in 2^-96. -/
def cosTurn (n : Int) (d : Nat) : Int :=
  let x := twoPi * n / (d : Int)
  trigSeries (x * x / 2 ^ 96) 0 (2 ^ 96) 40

end Sys2Proof.Machine
end

