-- ==== Sys2Proof/Machine/Codec.lean ====
section
/-! DEFINITION. Bytes and packets: big-endian fields, the CRC-32C of R27, the header check of R26, and the layout of Table 2-1. -/

namespace Sys2Proof.Machine

/-- The `n` low bytes of `x`, most significant first (R24). -/
def beBytes : Nat → Nat → List Byte
  | 0, _ => []
  | n + 1, x => BitVec.ofNat 8 (x / 256 ^ n) :: beBytes n x

/-- The number that big-endian bytes spell. -/
def ofBe (bs : List Byte) : Nat := bs.foldl (fun a b => a * 256 + b.toNat) 0

/-- The `n`-byte big-endian number at offset `i`. -/
def beAt (p : List Byte) (i n : Nat) : Nat := ofBe ((p.drop i).take n)

/-- The byte at offset `i`, 0 beyond the end. -/
def u8 (p : List Byte) (i : Nat) : Nat := beAt p i 1

/-- The 2-byte field at offset `i`. -/
def u16 (p : List Byte) (i : Nat) : Nat := beAt p i 2

/-- The 4-byte field at offset `i`. -/
def u32 (p : List Byte) (i : Nat) : Nat := beAt p i 4

/-- The 8-byte field at offset `i`. -/
def u64 (p : List Byte) (i : Nat) : Nat := beAt p i 8

/-- `n` zero bytes. -/
def zeros (n : Nat) : List Byte := List.replicate n 0

/-- A list of words as big-endian bytes. -/
def wordBytes (ws : List Word) : List Byte := ws.flatMap (fun w => beBytes 4 w.toNat)

/-- Bytes as big-endian words, four at a time. -/
def bytesWords : List Byte → List Word
  | a :: b :: c :: d :: r => BitVec.ofNat 32 (ofBe [a, b, c, d]) :: bytesWords r
  | _ => []

/-- `n` rounded up to a multiple of 4. -/
def pad4 (n : Nat) : Nat := (n + 3) / 4 * 4

/-! ### CRC-32C (R27) -/

/-- One bit of the reflected CRC-32C: polynomial 0x1EDC_6F41, reflected 0x82F6_3B78. -/
def crcBit (c : Nat) : Nat := if c % 2 = 1 then (c / 2) ^^^ 0x82F63B78 else c / 2

/-- One byte of the CRC-32C. -/
def crcByte (c : Nat) (b : Byte) : Nat :=
  crcBit (crcBit (crcBit (crcBit (crcBit (crcBit (crcBit (crcBit (c ^^^ b.toNat))))))))

/-- R27: CRC-32C, initial value and final XOR 0xFFFF_FFFF. -/
def crc32c (bs : List Byte) : Nat := bs.foldl crcByte 0xFFFFFFFF ^^^ 0xFFFFFFFF

/-! ### Header check (R26) -/

/-- Ones'-complement sum of two 16-bit words with end-around carry. -/
def addOnes (a b : Nat) : Nat := if a + b < 65536 then a + b else a + b - 65535

/-- The ones'-complement sum of big-endian 16-bit words. -/
def onesSum : List Byte → Nat
  | a :: b :: r => addOnes (a.toNat * 256 + b.toNat) (onesSum r)
  | _ => 0

/-- R26: HCHECK over bytes 0 to 9. -/
def hcheck (h : List Byte) : Nat := 65535 - onesSum (h.take 10)

/-! ### Packets (R24, Table 2-1) -/

/-- The transport tag of Table 2-1. -/
def portTag : Port → Nat
  | .spi => 1
  | .udp _ => 2
  | .oazil => 3

/-- The 12 header bytes. -/
def packetHeader (flags tag op seq len : Nat) : List Byte :=
  let h := [0xB7, 0x01, BitVec.ofNat 8 flags, BitVec.ofNat 8 tag] ++ beBytes 2 op ++ beBytes 2 seq ++ beBytes 2 len
  h ++ beBytes 2 (hcheck h)

/-- R24, R25, R27: a whole packet: header, payload padded with 0, CRC most significant byte first. -/
def packet (flags tag op seq : Nat) (payload : List Byte) : List Byte :=
  let body := packetHeader flags tag op seq payload.length ++ payload ++ zeros (pad4 payload.length - payload.length)
  body ++ beBytes 4 (crc32c body)

/-- Two's complement on `n` bytes. -/
def beInt (n : Nat) (x : Int) : List Byte := beBytes n (x % 256 ^ n).toNat

/-- The signed number that big-endian bytes spell. -/
def intAt (p : List Byte) (i n : Nat) : Int :=
  let v := beAt p i n
  if 2 * v < 256 ^ n then (v : Int) else (v : Int) - 256 ^ n

end Sys2Proof.Machine
end

