-- ==== Sys2Proof/Machine/Inflate.lean ====
section
/-! DEFINITION. DEFLATE (RFC 1951): the inflater of the decompressor (R240 to R242), and the segments of the compressor (R236). -/

namespace Sys2Proof.Machine

/-- An inflater at work: input left, bits of its first byte used, byte offset, output newest first behind the history, output bytes,
history bytes before it, the limit and whether it stops there, the block in which the limit was first passed, blocks begun, and blocks of each
kind (stored, fixed, dynamic). -/
structure Inf where
  rest : List Byte
  bit : Nat
  pos : Nat
  out : List Byte
  n : Nat
  hist : Nat
  limit : Nat
  stop : Bool
  passed : Option Nat
  blocks : Nat
  stored : Nat
  fixed : Nat
  dyn : Nat
  deriving DecidableEq, Repr

/-- What a step of the inflater gives: an error code of Table 10-16 with the inflater where it was found, or a value. -/
abbrev InfRes (α : Type) := Except (Nat × Inf) (α × Inf)

/-- One input bit; at the end of input DEFLATE_TRUNCATED. -/
def Inf.getBit (s : Inf) : InfRes Nat :=
  match s.rest with
  | [] => .error (0x6D, s)
  | b :: r =>
    let v := b.toNat / 2 ^ s.bit % 2
    if s.bit = 7 then .ok (v, { s with rest := r, bit := 0, pos := s.pos + 1 }) else .ok (v, { s with bit := s.bit + 1 })

/-- `n` input bits, least significant first. -/
def Inf.getBits (s : Inf) : Nat → InfRes Nat
  | 0 => .ok (0, s)
  | n + 1 =>
    match s.getBit with
    | .error e => .error e
    | .ok (v, s) =>
      match s.getBits n with
      | .error e => .error e
      | .ok (w, s) => .ok (v + 2 * w, s)

/-- One output byte; STRICT and CLIP stop where the limit would be passed (R241). -/
def Inf.put (s : Inf) (b : Byte) : InfRes Unit :=
  if s.limit ≤ s.n then
    if s.stop then .error (0x6E, s)
    else .ok ((), { s with out := b :: s.out, n := s.n + 1, passed := some (s.passed.getD (s.blocks - 1)) })
  else .ok ((), { s with out := b :: s.out, n := s.n + 1 })

/-- Copy `len` bytes from `dist` back. -/
def Inf.copy (s : Inf) (dist : Nat) : Nat → InfRes Unit
  | 0 => .ok ((), s)
  | n + 1 =>
    match s.put (s.out.getD (dist - 1) 0) with
    | .error e => .error e
    | .ok (_, s) => s.copy dist n

/-- A canonical Huffman code: number of codes per length 1 to 15, and symbols in code order. -/
structure Huff where
  counts : List Nat
  syms : List Nat
  deriving DecidableEq, Repr

/-- The code of a list of lengths. -/
def huffOf (lens : List Nat) : Huff :=
  let idx := (List.range lens.length).map (fun i => (i, lens.getD i 0))
  { counts := (List.range 15).map (fun l => (idx.filter (fun e => e.2 == l + 1)).length)
    syms := (List.range 15).flatMap (fun l => (idx.filter (fun e => e.2 == l + 1)).map (fun e => e.1)) }

/-- Codes left over: negative over-subscribed, 0 complete, positive incomplete. -/
def Huff.left (h : Huff) : Int := h.counts.foldl (fun (v : Int) c => 2 * v - c) 1

/-- Decode one symbol: `code`, `first`, `index` as the lengths go by; no code: 0x6B. -/
def Inf.sym (s : Inf) (syms : List Nat) (code first index : Nat) : List Nat → InfRes Nat
  | [] => .error (0x6B, s)
  | c :: r =>
    match s.getBit with
    | .error e => .error e
    | .ok (v, s) =>
      let code := 2 * code + v
      let first := 2 * first
      if code < first + c then .ok (syms.getD (index + (code - first)) 0, s) else s.sym syms code (first + c) (index + c) r

/-- Decode one symbol of a code. -/
def Inf.symOf (s : Inf) (h : Huff) : InfRes Nat := s.sym h.syms 0 0 0 h.counts

/-- Base length and extra bits of length symbol 257 + i. -/
def lenCode (i : Nat) : Nat × Nat :=
  if i < 8 then (3 + i, 0) else if i = 28 then (258, 0) else ((4 + i % 4) * 2 ^ (i / 4 - 1) + 3, i / 4 - 1)

/-- Base distance and extra bits of distance symbol `i`. -/
def distCode (i : Nat) : Nat × Nat := if i < 4 then (1 + i, 0) else ((2 + i % 2) * 2 ^ (i / 2 - 1) + 1, i / 2 - 1)

/-- The length and distance that follow a length symbol, and the copy. -/
def Inf.matchAt (s : Inf) (dist : Huff) (i : Nat) : InfRes Unit :=
  if 28 < i then .error (0x6B, s)
  else
    match s.getBits (lenCode i).2 with
    | .error e => .error e
    | .ok (x, s) =>
      match s.symOf dist with
      | .error e => .error e
      | .ok (d, s) =>
        if 29 < d then .error (0x6B, s)
        else
          match s.getBits (distCode d).2 with
          | .error e => .error e
          | .ok (y, s) =>
            if s.n + s.hist < (distCode d).1 + y then .error (0x6C, s)
            else s.copy ((distCode d).1 + y) ((lenCode i).1 + x)

/-- Symbols up to the end of the block. -/
def Inf.symbols (s : Inf) (lit dist : Huff) : Nat → InfRes Unit
  | 0 => .error (0x6D, s)
  | fuel + 1 =>
    match s.symOf lit with
    | .error e => .error e
    | .ok (v, s) =>
      if v = 256 then .ok ((), s)
      else
        match (if v < 256 then s.put (BitVec.ofNat 8 v) else s.matchAt dist (v - 257)) with
        | .error e => .error e
        | .ok (_, s) => s.symbols lit dist fuel

/-- The fixed codes. -/
def fixedLit : Huff := huffOf (List.replicate 144 8 ++ List.replicate 112 9 ++ List.replicate 24 7 ++ List.replicate 8 8)

/-- The fixed distance code. -/
def fixedDist : Huff := huffOf (List.replicate 32 5)

/-- The bytes of a stored block. -/
def Inf.bytes (s : Inf) : Nat → InfRes Unit
  | 0 => .ok ((), s)
  | n + 1 =>
    match s.getBits 8 with
    | .error e => .error e
    | .ok (v, s) =>
      match s.put (BitVec.ofNat 8 v) with
      | .error e => .error e
      | .ok (_, s) => s.bytes n

/-- A stored block. -/
def Inf.storedBlock (s : Inf) : InfRes Unit :=
  let s := if s.bit = 0 then s else { s with bit := 0, rest := s.rest.drop 1, pos := s.pos + 1 }
  match s.getBits 16 with
  | .error e => .error e
  | .ok (len, s) =>
    match s.getBits 16 with
    | .error e => .error e
    | .ok (nlen, s) => if len + nlen = 65535 then s.bytes len else .error (0x69, s)

/-- Order of the code length code lengths. -/
def clOrder : List Nat := [16, 17, 18, 0, 8, 7, 9, 6, 10, 5, 11, 4, 12, 3, 13, 2, 14, 1, 15]

/-- `n` three-bit lengths. -/
def Inf.clLens (s : Inf) : Nat → InfRes (List Nat)
  | 0 => .ok ([], s)
  | n + 1 =>
    match s.getBits 3 with
    | .error e => .error e
    | .ok (v, s) =>
      match s.clLens n with
      | .error e => .error e
      | .ok (l, s) => .ok (v :: l, s)

/-- The `total` code lengths of a dynamic block; `acc` newest first. -/
def Inf.lengths (s : Inf) (cl : Huff) (total : Nat) (acc : List Nat) : Nat → InfRes (List Nat)
  | 0 => .error (0x6A, s)
  | fuel + 1 =>
    if total ≤ acc.length then .ok (acc.reverse, s)
    else
      match s.symOf cl with
      | .error e => .error e
      | .ok (v, s) =>
        if v < 16 then s.lengths cl total (v :: acc) fuel
        else if v = 16 ∧ acc = [] then .error (0x6A, s)
        else
          match s.getBits (if v = 16 then 2 else if v = 17 then 3 else 7) with
          | .error e => .error e
          | .ok (x, s) =>
            let n := x + (if v = 18 then 11 else 3)
            if total < acc.length + n then .error (0x6A, s)
            else s.lengths cl total (List.replicate n (if v = 16 then acc.headD 0 else 0) ++ acc) fuel

/-- Whether a distance code stands: complete, or a single code of length 1 (R242). -/
def distOk (h : Huff) : Bool := h.left == 0 || (h.syms.length == 1 && h.counts.getD 0 0 == 1)

/-- A dynamic block. -/
def Inf.dynBlock (s : Inf) (fuel : Nat) : InfRes Unit :=
  match s.getBits 14 with
  | .error e => .error e
  | .ok (v, s) =>
    let hlit := v % 32 + 257
    let hdist := v / 32 % 32 + 1
    if 286 < hlit ∨ 30 < hdist then .error (0x6A, s)
    else
      match s.clLens (v / 1024 + 4) with
      | .error e => .error e
      | .ok (l, s) =>
        let cl := huffOf ((List.range 19).map (fun i => l.getD (clOrder.findIdx (fun k => k == i)) 0))
        if cl.left ≠ 0 then .error (0x6A, s)
        else
          match s.lengths cl (hlit + hdist) [] 400 with
          | .error e => .error e
          | .ok (lens, s) =>
            let lit := huffOf (lens.take hlit)
            let dist := huffOf (lens.drop hlit)
            if lit.left ≠ 0 ∨ !distOk dist then .error (0x6A, s) else s.symbols lit dist fuel

/-- One block; whether it was the last. -/
def Inf.block (s : Inf) (fuel : Nat) : InfRes Bool :=
  let s := { s with blocks := s.blocks + 1 }
  match s.getBits 3 with
  | .error e => .error e
  | .ok (v, s) =>
    let r :=
      match v / 2 with
      | 0 => { s with stored := s.stored + 1 }.storedBlock
      | 1 => { s with fixed := s.fixed + 1 }.symbols fixedLit fixedDist fuel
      | 2 => { s with dyn := s.dyn + 1 }.dynBlock fuel
      | _ => .error (0x68, s)
    match r with
    | .error e => .error e
    | .ok (_, s) => .ok (v % 2 == 1, s)

/-- Blocks up to the final one. -/
def Inf.run (s : Inf) (fuel : Nat) : Nat → InfRes Unit
  | 0 => .error (0x6D, s)
  | n + 1 =>
    match s.block fuel with
    | .error e => .error e
    | .ok (true, s) => .ok ((), s)
    | .ok (false, s) => s.run fuel n

/-- An inflater at the start of `input` behind `hist` (oldest first). -/
def Inf.start (input hist : List Byte) (limit : Nat) (stop : Bool) : Inf :=
  ⟨input, 0, 0, hist.reverse, 0, hist.length, limit, stop, none, 0, 0, 0, 0⟩

/-- The offset of the byte that holds the last bit read. -/
def Inf.at (s : Inf) : Nat := if s.bit = 0 then s.pos - 1 else s.pos

/-- Input bytes consumed. -/
def Inf.used (s : Inf) : Nat := if s.bit = 0 then s.pos else s.pos + 1

/-- Output so far, oldest first. -/
def Inf.output (s : Inf) : List Byte := (s.out.take s.n).reverse

/-- What a decompression comes to (R241, R242): status, DETAIL, CLIPPED, output length, IN_POS, blocks, and the bytes to write. -/
structure Inflated where
  code : Nat
  detail : Nat
  clipped : Bool
  len : Nat
  inPos : Nat
  blocks : Nat
  bytes : List Byte
  deriving DecidableEq, Repr

/-- R240 to R242: inflate `input` under a guard (0 STRICT, 1 CLIP, 2 MEASURE). -/
def inflate (input : List Byte) (limit guard : Nat) (trailing : Bool) : Inflated :=
  let fuel := 8 * input.length + 8
  match (Inf.start input [] limit (guard != 2)).run fuel fuel with
  | .error (e, s) =>
    let blk := min 255 (s.blocks - 1)
    let pos := if e = 0x6D then s.used else s.at
    if e = 0x6E ∧ guard = 1 then ⟨0, 0, true, limit, s.used, s.blocks, s.output⟩
    else ⟨e, blk, false, s.n, pos, s.blocks, s.output.take limit⟩
  | .ok (_, s) =>
    match s.passed with
    | some b => ⟨0x6E, min 255 b, false, s.n, s.used, s.blocks, s.output.take limit⟩
    | none =>
      if !trailing && decide (s.used < input.length) then
        ⟨0x6F, min 255 (s.blocks - 1), false, s.n, s.used, s.blocks, s.output⟩
      else ⟨0, 0, false, s.n, s.used, s.blocks, s.output⟩

/-! ### Segments (R236) -/

/-- Blocks of a segment, none of them final, to the end of the input; whether the last was an empty stored block, and all closed. -/
def Inf.segment (s : Inf) (fuel : Nat) : Nat → Option Inf
  | 0 => none
  | n + 1 =>
    match s.block fuel with
    | .error _ => none
    | .ok (true, _) => none
    | .ok (false, t) =>
      if t.n ≤ s.n + 65535 then
        if t.rest = [] then (if t.n = s.n ∧ t.stored = s.stored + 1 ∧ t.bit = 0 then some t else none) else t.segment fuel n
      else none

/-- A record in stored blocks of at most 65,535 bytes. -/
def storedBlocks : Nat → List Byte → List Byte
  | 0, _ => []
  | _ + 1, [] => []
  | fuel + 1, b :: r =>
    let l := (b :: r).take 65535
    [0, BitVec.ofNat 8 l.length, BitVec.ofNat 8 (l.length / 256), BitVec.ofNat 8 (65535 - l.length),
      BitVec.ofNat 8 ((65535 - l.length) / 256)] ++ l ++ storedBlocks fuel ((b :: r).drop 65535)

/-- R236: DEFLATE data of a record behind a history: the engine's choice where it stands for the record, stored blocks otherwise;
with the blocks of each kind. -/
def segmentData (choice hist record : List Byte) : List Byte × Nat × Nat × Nat :=
  let fuel := 8 * choice.length + 8
  match (Inf.start choice hist (2 ^ 32) false).segment fuel fuel with
  | some t => if t.output = record then (choice, t.stored, t.fixed, t.dyn) else
      (storedBlocks (record.length + 1) record ++ [0, 0, 0, 255, 255], (record.length + 65534) / 65535 + 1, 0, 0)
  | none => (storedBlocks (record.length + 1) record ++ [0, 0, 0, 255, 255], (record.length + 65534) / 65535 + 1, 0, 0)

end Sys2Proof.Machine
end

