-- ==== Sys2Proof/Machine/EventTable.lean ====
section
/-! DEFINITION. The events of Table 19-1 by number: the mnemonics the monitor prints. -/

namespace Sys2Proof.Machine

/-- Table 19-1, part 0. -/
def eventNames0 : List (Nat × String) := [(0, "EV_STATE_CHANGE"),
  (1, "EV_BOOT_COMPLETE"),
  (2, "EV_BOOT_FAILURE"),
  (3, "EV_BROWNOUT"),
  (4, "EV_POST_FAILURE"),
  (5, "EV_WATCHDOG"),
  (6, "EV_CLOCK_MONITOR"),
  (7, "EV_PLL_UNLOCK"),
  (8, "EV_CMD_COMPLETE"),
  (9, "EV_CMD_INTERNAL"),
  (10, "EV_FAULT_RECOVERED"),
  (32, "EV_EMITTER_INHIBIT"),
  (33, "EV_STRING_CHARGE"),
  (34, "EV_STRING_OVERVOLT"),
  (35, "EV_STRING_WIDTH"),
  (36, "EV_STRING_DEGRADED"),
  (37, "EV_EMITTER_STRAY"),
  (38, "EV_PICKOFF_LOST"),
  (39, "EV_LIMITER_DENY"),
  (40, "EV_LIMITER_FAULT"),
  (41, "EV_EMITTER_DERATE"),
  (42, "EV_EMITTER_THERMAL"),
  (64, "EV_LOOP_CLAMP"),
  (65, "EV_LOOP_SOURCE"),
  (66, "EV_MIRROR_FEEDBACK"),
  (67, "EV_BIAS_FEEDBACK"),
  (80, "EV_HV_LIMIT"),
  (81, "EV_HV_OVERVOLT"),
  (82, "EV_BIAS_REFERENCE"),
  (83, "EV_BIAS_GRADIENT"),
  (84, "EV_HOT_CELL"),
  (85, "EV_PIXEL_DEGRADED"),
  (86, "EV_DLL_UNLOCK"),
  (87, "EV_REFTDC_FAULT"),
  (88, "EV_TIN_QUEUE_FULL"),
  (89, "EV_CAL_DUE"),
  (90, "EV_CAL_REJECT"),
  (96, "EV_SLICE_ISOLATED"),
  (97, "EV_HIST_ECC_CORR"),
  (98, "EV_HIST_ECC_UNCORR")]

/-- Table 19-1, part 1. -/
def eventNames1 : List (Nat × String) := [(99, "EV_HIST_QUEUE_FAULT"),
  (100, "EV_HIST_TRACK_FULL"),
  (101, "EV_HIST_DUMP_DROP"),
  (102, "EV_PEAK_SELFCHECK"),
  (103, "EV_REGION_FENCE"),
  (104, "EV_SLICE_ISOLATED"),
  (105, "EV_HIST_ECC_CORR"),
  (106, "EV_HIST_ECC_UNCORR"),
  (107, "EV_HIST_QUEUE_FAULT"),
  (108, "EV_HIST_TRACK_FULL"),
  (109, "EV_HIST_DUMP_DROP"),
  (110, "EV_PEAK_SELFCHECK"),
  (111, "EV_REGION_FENCE"),
  (112, "EV_SLICE_ISOLATED"),
  (113, "EV_HIST_ECC_CORR"),
  (114, "EV_HIST_ECC_UNCORR"),
  (115, "EV_HIST_QUEUE_FAULT"),
  (116, "EV_HIST_TRACK_FULL"),
  (117, "EV_HIST_DUMP_DROP"),
  (118, "EV_PEAK_SELFCHECK"),
  (119, "EV_REGION_FENCE"),
  (120, "EV_SLICE_ISOLATED"),
  (121, "EV_HIST_ECC_CORR"),
  (122, "EV_HIST_ECC_UNCORR"),
  (123, "EV_HIST_QUEUE_FAULT"),
  (124, "EV_HIST_TRACK_FULL"),
  (125, "EV_HIST_DUMP_DROP"),
  (126, "EV_PEAK_SELFCHECK"),
  (127, "EV_REGION_FENCE"),
  (128, "EV_FOREIGN_SCANNER"),
  (129, "EV_WINDOW_DIRTY"),
  (130, "EV_POINT_QUEUE_FULL"),
  (131, "EV_POINT_REGION_LATE"),
  (132, "EV_POINT_DROP"),
  (133, "EV_COMP_OVERFLOW"),
  (134, "EV_DECOMP_ERROR"),
  (160, "EV_CAM_FRAME_SHORT"),
  (161, "EV_CAM_FRAME_LONG"),
  (162, "EV_CAM_FRAME_DROP"),
  (163, "EV_CAM_FLICKER")]

/-- Table 19-1, part 2. -/
def eventNames2 : List (Nat × String) := [(164, "EV_PIPE_LATE"),
  (165, "EV_STATS_REFUSED"),
  (166, "EV_FUSION_STALE"),
  (167, "EV_FUSION_WARNING"),
  (176, "EV_DISP_COMMIT_MISSED"),
  (177, "EV_DISP_LAYER_ERROR"),
  (178, "EV_DISP_CAMERA_STALE"),
  (179, "EV_DISP_LOCK_LOST"),
  (180, "EV_DISP_UNDERRUN"),
  (192, "EV_LINK_UP"),
  (193, "EV_LINK_DOWN"),
  (194, "EV_LINK_TRAIN_FAIL"),
  (195, "EV_LINK_MARGIN"),
  (196, "EV_ETH_LINK"),
  (197, "EV_TIME_STATE"),
  (198, "EV_TIME_STEP"),
  (199, "EV_SYNC_LOST"),
  (200, "EV_SYNC_MISMATCH"),
  (201, "EV_MEM_ECC"),
  (202, "EV_MEM_REFUSE"),
  (208, "EV_SAFETY_FIELD"),
  (209, "EV_SAFETY_RANGING"),
  (210, "EV_SAFETY_INPUT"),
  (211, "EV_SAFETY_OUTPUT"),
  (212, "EV_SAFETY_RESET"),
  (213, "EV_SAFETY_LANE"),
  (214, "EV_SAFETY_CREDENTIAL"),
  (215, "EV_SAFETY_COMMIT"),
  (232, "EV_HK_SENSOR_FAULT"),
  (233, "EV_HK_SENSOR_CLEAR"),
  (234, "EV_HK_CONVERTER"),
  (235, "EV_HK_THRESHOLD"),
  (236, "EV_AUXOUT_FAULT"),
  (237, "EV_DIODE_FAULT"),
  (238, "EV_THERMAL_WARNING"),
  (239, "EV_THERMAL_THROTTLE"),
  (240, "EV_THERMAL_SHUTDOWN"),
  (241, "EV_ILLUM_THERMAL"),
  (242, "EV_ILLUM_FAULT"),
  (243, "EV_ILLUM_DEGRADED")]

/-- Table 19-1, part 3. -/
def eventNames3 : List (Nat × String) := [(248, "EV_RECORDER_CAPTURE"),
  (249, "EV_RECORDER_FULL"),
  (250, "EV_MONITOR_SESSION"),
  (251, "EV_MONITOR_AUTH_FAIL")]

/-- Event 0 (Table 19-1). -/
def EV_STATE_CHANGE : Nat := 0
/-- Event 1 (Table 19-1). -/
def EV_BOOT_COMPLETE : Nat := 1
/-- Event 2 (Table 19-1). -/
def EV_BOOT_FAILURE : Nat := 2
/-- Event 3 (Table 19-1). -/
def EV_BROWNOUT : Nat := 3
/-- Event 4 (Table 19-1). -/
def EV_POST_FAILURE : Nat := 4
/-- Event 5 (Table 19-1). -/
def EV_WATCHDOG : Nat := 5
/-- Event 6 (Table 19-1). -/
def EV_CLOCK_MONITOR : Nat := 6
/-- Event 7 (Table 19-1). -/
def EV_PLL_UNLOCK : Nat := 7
/-- Event 8 (Table 19-1). -/
def EV_CMD_COMPLETE : Nat := 8
/-- Event 9 (Table 19-1). -/
def EV_CMD_INTERNAL : Nat := 9
/-- Event 10 (Table 19-1). -/
def EV_FAULT_RECOVERED : Nat := 10
/-- Event 32 (Table 19-1). -/
def EV_EMITTER_INHIBIT : Nat := 32
/-- Event 33 (Table 19-1). -/
def EV_STRING_CHARGE : Nat := 33
/-- Event 34 (Table 19-1). -/
def EV_STRING_OVERVOLT : Nat := 34
/-- Event 35 (Table 19-1). -/
def EV_STRING_WIDTH : Nat := 35
/-- Event 36 (Table 19-1). -/
def EV_STRING_DEGRADED : Nat := 36
/-- Event 37 (Table 19-1). -/
def EV_EMITTER_STRAY : Nat := 37
/-- Event 38 (Table 19-1). -/
def EV_PICKOFF_LOST : Nat := 38
/-- Event 39 (Table 19-1). -/
def EV_LIMITER_DENY : Nat := 39
/-- Event 40 (Table 19-1). -/
def EV_LIMITER_FAULT : Nat := 40
/-- Event 41 (Table 19-1). -/
def EV_EMITTER_DERATE : Nat := 41
/-- Event 42 (Table 19-1). -/
def EV_EMITTER_THERMAL : Nat := 42
/-- Event 64 (Table 19-1). -/
def EV_LOOP_CLAMP : Nat := 64
/-- Event 65 (Table 19-1). -/
def EV_LOOP_SOURCE : Nat := 65
/-- Event 66 (Table 19-1). -/
def EV_MIRROR_FEEDBACK : Nat := 66
/-- Event 67 (Table 19-1). -/
def EV_BIAS_FEEDBACK : Nat := 67
/-- Event 80 (Table 19-1). -/
def EV_HV_LIMIT : Nat := 80
/-- Event 81 (Table 19-1). -/
def EV_HV_OVERVOLT : Nat := 81
/-- Event 82 (Table 19-1). -/
def EV_BIAS_REFERENCE : Nat := 82
/-- Event 83 (Table 19-1). -/
def EV_BIAS_GRADIENT : Nat := 83
/-- Event 84 (Table 19-1). -/
def EV_HOT_CELL : Nat := 84
/-- Event 85 (Table 19-1). -/
def EV_PIXEL_DEGRADED : Nat := 85
/-- Event 86 (Table 19-1). -/
def EV_DLL_UNLOCK : Nat := 86
/-- Event 87 (Table 19-1). -/
def EV_REFTDC_FAULT : Nat := 87
/-- Event 88 (Table 19-1). -/
def EV_TIN_QUEUE_FULL : Nat := 88
/-- Event 89 (Table 19-1). -/
def EV_CAL_DUE : Nat := 89
/-- Event 90 (Table 19-1). -/
def EV_CAL_REJECT : Nat := 90
/-- EV_SLICE_ISOLATED of region g (Table 19-1). -/
def EV_SLICE_ISOLATED (g : Nat) : Nat := 96 + 8 * g
/-- EV_HIST_ECC_CORR of region g (Table 19-1). -/
def EV_HIST_ECC_CORR (g : Nat) : Nat := 97 + 8 * g
/-- EV_HIST_ECC_UNCORR of region g (Table 19-1). -/
def EV_HIST_ECC_UNCORR (g : Nat) : Nat := 98 + 8 * g
/-- EV_HIST_QUEUE_FAULT of region g (Table 19-1). -/
def EV_HIST_QUEUE_FAULT (g : Nat) : Nat := 99 + 8 * g
/-- EV_HIST_TRACK_FULL of region g (Table 19-1). -/
def EV_HIST_TRACK_FULL (g : Nat) : Nat := 100 + 8 * g
/-- EV_HIST_DUMP_DROP of region g (Table 19-1). -/
def EV_HIST_DUMP_DROP (g : Nat) : Nat := 101 + 8 * g
/-- EV_PEAK_SELFCHECK of region g (Table 19-1). -/
def EV_PEAK_SELFCHECK (g : Nat) : Nat := 102 + 8 * g
/-- EV_REGION_FENCE of region g (Table 19-1). -/
def EV_REGION_FENCE (g : Nat) : Nat := 103 + 8 * g
/-- Event 128 (Table 19-1). -/
def EV_FOREIGN_SCANNER : Nat := 128
/-- Event 129 (Table 19-1). -/
def EV_WINDOW_DIRTY : Nat := 129
/-- Event 130 (Table 19-1). -/
def EV_POINT_QUEUE_FULL : Nat := 130
/-- Event 131 (Table 19-1). -/
def EV_POINT_REGION_LATE : Nat := 131
/-- Event 132 (Table 19-1). -/
def EV_POINT_DROP : Nat := 132
/-- Event 133 (Table 19-1). -/
def EV_COMP_OVERFLOW : Nat := 133
/-- Event 134 (Table 19-1). -/
def EV_DECOMP_ERROR : Nat := 134
/-- Event 160 (Table 19-1). -/
def EV_CAM_FRAME_SHORT : Nat := 160
/-- Event 161 (Table 19-1). -/
def EV_CAM_FRAME_LONG : Nat := 161
/-- Event 162 (Table 19-1). -/
def EV_CAM_FRAME_DROP : Nat := 162
/-- Event 163 (Table 19-1). -/
def EV_CAM_FLICKER : Nat := 163
/-- Event 164 (Table 19-1). -/
def EV_PIPE_LATE : Nat := 164
/-- Event 165 (Table 19-1). -/
def EV_STATS_REFUSED : Nat := 165
/-- Event 166 (Table 19-1). -/
def EV_FUSION_STALE : Nat := 166
/-- Event 167 (Table 19-1). -/
def EV_FUSION_WARNING : Nat := 167
/-- Event 176 (Table 19-1). -/
def EV_DISP_COMMIT_MISSED : Nat := 176
/-- Event 177 (Table 19-1). -/
def EV_DISP_LAYER_ERROR : Nat := 177
/-- Event 178 (Table 19-1). -/
def EV_DISP_CAMERA_STALE : Nat := 178
/-- Event 179 (Table 19-1). -/
def EV_DISP_LOCK_LOST : Nat := 179
/-- Event 180 (Table 19-1). -/
def EV_DISP_UNDERRUN : Nat := 180
/-- Event 192 (Table 19-1). -/
def EV_LINK_UP : Nat := 192
/-- Event 193 (Table 19-1). -/
def EV_LINK_DOWN : Nat := 193
/-- Event 194 (Table 19-1). -/
def EV_LINK_TRAIN_FAIL : Nat := 194
/-- Event 195 (Table 19-1). -/
def EV_LINK_MARGIN : Nat := 195
/-- Event 196 (Table 19-1). -/
def EV_ETH_LINK : Nat := 196
/-- Event 197 (Table 19-1). -/
def EV_TIME_STATE : Nat := 197
/-- Event 198 (Table 19-1). -/
def EV_TIME_STEP : Nat := 198
/-- Event 199 (Table 19-1). -/
def EV_SYNC_LOST : Nat := 199
/-- Event 200 (Table 19-1). -/
def EV_SYNC_MISMATCH : Nat := 200
/-- Event 201 (Table 19-1). -/
def EV_MEM_ECC : Nat := 201
/-- Event 202 (Table 19-1). -/
def EV_MEM_REFUSE : Nat := 202
/-- Event 208 (Table 19-1). -/
def EV_SAFETY_FIELD : Nat := 208
/-- Event 209 (Table 19-1). -/
def EV_SAFETY_RANGING : Nat := 209
/-- Event 210 (Table 19-1). -/
def EV_SAFETY_INPUT : Nat := 210
/-- Event 211 (Table 19-1). -/
def EV_SAFETY_OUTPUT : Nat := 211
/-- Event 212 (Table 19-1). -/
def EV_SAFETY_RESET : Nat := 212
/-- Event 213 (Table 19-1). -/
def EV_SAFETY_LANE : Nat := 213
/-- Event 214 (Table 19-1). -/
def EV_SAFETY_CREDENTIAL : Nat := 214
/-- Event 215 (Table 19-1). -/
def EV_SAFETY_COMMIT : Nat := 215
/-- Event 232 (Table 19-1). -/
def EV_HK_SENSOR_FAULT : Nat := 232
/-- Event 233 (Table 19-1). -/
def EV_HK_SENSOR_CLEAR : Nat := 233
/-- Event 234 (Table 19-1). -/
def EV_HK_CONVERTER : Nat := 234
/-- Event 235 (Table 19-1). -/
def EV_HK_THRESHOLD : Nat := 235
/-- Event 236 (Table 19-1). -/
def EV_AUXOUT_FAULT : Nat := 236
/-- Event 237 (Table 19-1). -/
def EV_DIODE_FAULT : Nat := 237
/-- Event 238 (Table 19-1). -/
def EV_THERMAL_WARNING : Nat := 238
/-- Event 239 (Table 19-1). -/
def EV_THERMAL_THROTTLE : Nat := 239
/-- Event 240 (Table 19-1). -/
def EV_THERMAL_SHUTDOWN : Nat := 240
/-- Event 241 (Table 19-1). -/
def EV_ILLUM_THERMAL : Nat := 241
/-- Event 242 (Table 19-1). -/
def EV_ILLUM_FAULT : Nat := 242
/-- Event 243 (Table 19-1). -/
def EV_ILLUM_DEGRADED : Nat := 243
/-- Event 248 (Table 19-1). -/
def EV_RECORDER_CAPTURE : Nat := 248
/-- Event 249 (Table 19-1). -/
def EV_RECORDER_FULL : Nat := 249
/-- Event 250 (Table 19-1). -/
def EV_MONITOR_SESSION : Nat := 250
/-- Event 251 (Table 19-1). -/
def EV_MONITOR_AUTH_FAIL : Nat := 251

/-- Table 19-1: number and mnemonic of every event the device raises. -/
def eventNames : List (Nat × String) := eventNames0 ++ eventNames1 ++ eventNames2 ++ eventNames3

/-- The mnemonic of an event. -/
def eventName (n : Nat) : String := ((eventNames.find? (fun e => e.1 == n)).map (fun e => e.2)).getD ""

end Sys2Proof.Machine
end

