-- ==== Sys2Proof/Machine/RegTypes.lean ====
section
/-! DEFINITION. The shape of a register table: fields, rows, blocks (Tables 0-5 and 20-1), and the sparse lists in which the model
keeps registers and memories. -/

namespace Sys2Proof.Machine

/-- Access types of Table 0-5. `w1f` is a W1C flag field (each bit by itself), `w1n` a W1C counter field, `st` a result
status word (R56), which a read that includes it clears of FRESH. Every bit that no
field covers is RSV: it reads 0 and a write to it is discarded (R2). -/
inductive Acc where
  | rw
  | ro
  | w1f
  | w1n
  | wo
  | st
  deriving DecidableEq, Repr

/-- One field of a register row: lowest bit, width, access, reset value, least and greatest stored value (greatest 0: no
bound stated), and the block instances that have it (none listed: all). -/
structure RegFld where
  lo : Nat
  wd : Nat
  acc : Acc
  rst : Nat
  mn : Nat
  mx : Nat
  only : List Nat
  deriving DecidableEq, Repr

/-- One row of a register table: offset in the block, stride and count of its copies, fields. -/
structure RegRow where
  off : Nat
  str : Nat
  cnt : Nat
  flds : List RegFld
  deriving DecidableEq, Repr

/-- One block of Table 20-1: base, stride, instances, span of an instance, rows. -/
structure RegBlk where
  base : Nat
  str : Nat
  cnt : Nat
  span : Nat
  rows : List RegRow
  deriving DecidableEq, Repr

/-- A named place of a register word. -/
structure Fld where
  addr : Nat
  lo : Nat
  wd : Nat
  deriving DecidableEq, Repr

end Sys2Proof.Machine
end

