-- ==== Sys2Proof/Machine/Fields.lean ====
section
/-! DEFINITION. A name for every register field the model uses, with its address as a function of the instance numbers of
Table 20-1 and its place in the word: F.<block>.<register or field>. -/

namespace Sys2Proof.Machine

-- Identity, power, reset, clocks
def F.SYS.PWR_STATE_CAUSE : Fld := ⟨0x100, 8, 8⟩
def F.SYS.PWR_STATE_STATE : Fld := ⟨0x100, 0, 3⟩
def F.SYS.PWR_DOM_REQ0_REQ : Fld := ⟨0x110, 0, 32⟩
def F.SYS.PWR_DOM_REQ1_REQ : Fld := ⟨0x114, 0, 32⟩
def F.SYS.PWR_DOM_REQ2_REQ : Fld := ⟨0x118, 3, 13⟩
def F.SYS.PWR_DOM_REQ2_FIXED : Fld := ⟨0x118, 0, 3⟩
def F.SYS.PWR_DOM_STAT0_ON : Fld := ⟨0x120, 0, 32⟩
def F.SYS.PWR_DOM_STAT1_ON : Fld := ⟨0x124, 0, 32⟩
def F.SYS.PWR_DOM_STAT2_ON : Fld := ⟨0x128, 0, 16⟩
def F.SYS.RST_CAUSE_RAIL : Fld := ⟨0x140, 16, 8⟩
def F.SYS.RST_CAUSE_PIN_IGNORED : Fld := ⟨0x140, 8, 1⟩
def F.SYS.RST_CAUSE_WAKE : Fld := ⟨0x140, 7, 1⟩
def F.SYS.RST_CAUSE_THERMAL : Fld := ⟨0x140, 6, 1⟩
def F.SYS.RST_CAUSE_FW_REQUEST : Fld := ⟨0x140, 5, 1⟩
def F.SYS.RST_CAUSE_WATCHDOG : Fld := ⟨0x140, 4, 1⟩
def F.SYS.RST_CAUSE_PIN : Fld := ⟨0x140, 3, 1⟩
def F.SYS.RST_CAUSE_BROWNOUT : Fld := ⟨0x140, 2, 1⟩
def F.SYS.RST_CAUSE_COLD : Fld := ⟨0x140, 1, 1⟩
def F.SYS.BOOT_STATUS_DETAIL : Fld := ⟨0x144, 24, 8⟩
def F.SYS.BOOT_STATUS_CODE : Fld := ⟨0x144, 16, 8⟩
def F.SYS.BOOT_STATUS_SOURCE : Fld := ⟨0x144, 10, 2⟩
def F.SYS.BOOT_STATUS_SLOT : Fld := ⟨0x144, 8, 2⟩
def F.SYS.BOOT_STATUS_FALLBACK : Fld := ⟨0x144, 7, 1⟩
def F.SYS.BOOT_STATUS_ROM_ONLY : Fld := ⟨0x144, 6, 1⟩
def F.SYS.BOOT_STATUS_STRAP : Fld := ⟨0x144, 3, 2⟩
def F.SYS.BOOT_STATUS_STAGE : Fld := ⟨0x144, 0, 3⟩
def F.SYS.BOOT_TIME_TIME : Fld := ⟨0x148, 0, 32⟩
def F.SYS.POST_RESULT_SAFETY_CONFIG : Fld := ⟨0x14C, 9, 1⟩
def F.SYS.POST_RESULT_CAL : Fld := ⟨0x14C, 8, 1⟩
def F.SYS.POST_RESULT_CAL_COPY : Fld := ⟨0x14C, 7, 1⟩
def F.SYS.POST_RESULT_SAFETY_REGION : Fld := ⟨0x14C, 6, 1⟩
def F.SYS.POST_RESULT_MEMORY : Fld := ⟨0x14C, 5, 1⟩
def F.SYS.POST_RESULT_LIMITER : Fld := ⟨0x14C, 4, 1⟩
def F.SYS.POST_RESULT_LOOP : Fld := ⟨0x14C, 3, 1⟩
def F.SYS.POST_RESULT_REFTDC : Fld := ⟨0x14C, 2, 1⟩
def F.SYS.POST_RESULT_REGION : Fld := ⟨0x14C, 1, 1⟩
def F.SYS.POST_RESULT_SLICE : Fld := ⟨0x14C, 0, 1⟩
def F.SYS.CHIP_ID_VENDOR : Fld := ⟨0x0, 24, 8⟩
def F.SYS.CHIP_ID_FAMILY : Fld := ⟨0x0, 16, 8⟩
def F.SYS.CHIP_ID_PART : Fld := ⟨0x0, 4, 12⟩
def F.SYS.CHIP_ID_STEP : Fld := ⟨0x0, 0, 4⟩
def F.SYS.CHIP_CAPS_SLICES : Fld := ⟨0x4, 16, 8⟩
def F.SYS.CHIP_CAPS_LOOPS : Fld := ⟨0x4, 8, 8⟩
def F.SYS.CHIP_CAPS_CAMERAS : Fld := ⟨0x4, 4, 4⟩
def F.SYS.CHIP_CAPS_DISPLAYS : Fld := ⟨0x4, 0, 4⟩
def F.SYS.UNIT_ID_LO_UNIT_LO : Fld := ⟨0x8, 0, 32⟩
def F.SYS.UNIT_ID_HI_UNIT_HI : Fld := ⟨0xC, 0, 32⟩
def F.SYS.FW_VERSION_MAJOR : Fld := ⟨0x10, 24, 8⟩
def F.SYS.FW_VERSION_MINOR : Fld := ⟨0x10, 16, 8⟩
def F.SYS.FW_VERSION_PATCH : Fld := ⟨0x10, 0, 16⟩
def F.SYS.ROM_VERSION_ROM : Fld := ⟨0x14, 0, 32⟩
def F.SYS.MAP_VERSION_MAJOR : Fld := ⟨0x18, 16, 16⟩
def F.SYS.MAP_VERSION_MINOR : Fld := ⟨0x18, 0, 16⟩
def F.SYS.SEC_STATE_REVOKED : Fld := ⟨0x1C, 8, 4⟩
def F.SYS.SEC_STATE_SEC_COUNTER : Fld := ⟨0x1C, 0, 7⟩
def F.SYS.CLK_STAT_XTAL_OK : Fld := ⟨0x180, 15, 1⟩
def F.SYS.CLK_STAT_LOCKED : Fld := ⟨0x180, 0, 7⟩
def F.SYS.CLK_MON_SAFE_DEV : Fld := ⟨0x184, 0, 16⟩
def F.SYS.CLK_MON_FAIL : Fld := ⟨0x188, 0, 32⟩
-- Command engine and events
def F.CMD.HDR_ERR : Fld := ⟨0x10000, 0, 32⟩
def F.CMD.CRC_ERR : Fld := ⟨0x10004, 0, 32⟩
def F.CMD.SEQ_GAP : Fld := ⟨0x10008, 0, 32⟩
def F.CMD.REPLAY : Fld := ⟨0x1000C, 0, 32⟩
def F.CMD.SPI_FRAME_ERR : Fld := ⟨0x10010, 0, 32⟩
def F.CMD.EVT_DROP : Fld := ⟨0x10014, 0, 32⟩
def F.CMD.OVERFLOW : Fld := ⟨0x10018, 16, 16⟩
def F.CMD.PEER_DROP : Fld := ⟨0x10018, 0, 16⟩
def F.CMD.EV_RAW_RAW (i : Nat) : Fld := ⟨0x10100 + 0x4 * i, 0, 32⟩
def F.CMD.EV_COUNT (i : Nat) : Fld := ⟨0x10400 + 0x4 * i, 0, 32⟩
-- String
def F.STR.STR_CTRL_EN (n : Nat) : Fld := ⟨0x20000 + 0x100 * n, 0, 1⟩
def F.STR.STR_DRIVE_TARGET (n : Nat) : Fld := ⟨0x20004 + 0x100 * n, 16, 13⟩
def F.STR.STR_DRIVE_WIDTH (n : Nat) : Fld := ⟨0x20004 + 0x100 * n, 8, 4⟩
def F.STR.STR_DRIVE_DELAY (n : Nat) : Fld := ⟨0x20004 + 0x100 * n, 0, 5⟩
def F.STR.STR_CHG_TON (n : Nat) : Fld := ⟨0x20008 + 0x100 * n, 16, 6⟩
def F.STR.STR_CHG_TOFF (n : Nat) : Fld := ⟨0x20008 + 0x100 * n, 0, 6⟩
def F.STR.STR_STAT_EFF_TARGET (n : Nat) : Fld := ⟨0x20010 + 0x100 * n, 16, 13⟩
def F.STR.STR_STAT_LIVE (n : Nat) : Fld := ⟨0x20010 + 0x100 * n, 8, 1⟩
def F.STR.STR_STAT_DEGRADED (n : Nat) : Fld := ⟨0x20010 + 0x100 * n, 4, 1⟩
def F.STR.STR_STAT_CHARGE (n : Nat) : Fld := ⟨0x20010 + 0x100 * n, 3, 1⟩
def F.STR.STR_STAT_WIDE (n : Nat) : Fld := ⟨0x20010 + 0x100 * n, 2, 1⟩
def F.STR.STR_STAT_OVERVOLT (n : Nat) : Fld := ⟨0x20010 + 0x100 * n, 1, 1⟩
def F.STR.STR_MEAS_ST (n : Nat) : Fld := ⟨0x20020 + 0x100 * n, 0, 32⟩
def F.STR.STR_MEAS_V_V_LAST (n : Nat) : Fld := ⟨0x20024 + 0x100 * n, 16, 13⟩
def F.STR.STR_MEAS_V_V_MIN (n : Nat) : Fld := ⟨0x20024 + 0x100 * n, 0, 13⟩
def F.STR.STR_MEAS_W_W_MAX (n : Nat) : Fld := ⟨0x20028 + 0x100 * n, 16, 16⟩
def F.STR.STR_MEAS_W_W_MIN (n : Nat) : Fld := ⟨0x20028 + 0x100 * n, 0, 16⟩
def F.STR.FIRED (n : Nat) : Fld := ⟨0x20030 + 0x100 * n, 0, 32⟩
def F.STR.CHG_SKIP (n : Nat) : Fld := ⟨0x20034 + 0x100 * n, 0, 32⟩
def F.STR.NARROW (n : Nat) : Fld := ⟨0x20038 + 0x100 * n, 0, 32⟩
def F.STR.MISSING (n : Nat) : Fld := ⟨0x2003C + 0x100 * n, 0, 32⟩
-- Bank
def F.BNK.BANK_CTRL_TRIG_SRC (n : Nat) : Fld := ⟨0x24000 + 0x80 * n, 4, 2⟩
def F.BNK.BANK_CTRL_EDGE (n : Nat) : Fld := ⟨0x24000 + 0x80 * n, 1, 1⟩
def F.BNK.BANK_CTRL_TRIG (n : Nat) : Fld := ⟨0x24000 + 0x80 * n, 0, 1⟩
def F.BNK.BANK_STAT_LIVE (n : Nat) : Fld := ⟨0x24004 + 0x80 * n, 8, 4⟩
def F.BNK.BANK_STAT_PENDING (n : Nat) : Fld := ⟨0x24004 + 0x80 * n, 2, 1⟩
def F.BNK.BANK_STAT_PICKOFF_LOST (n : Nat) : Fld := ⟨0x24004 + 0x80 * n, 1, 1⟩
def F.BNK.BANK_STAT_STOPPED (n : Nat) : Fld := ⟨0x24004 + 0x80 * n, 0, 1⟩
def F.BNK.FIRED (n : Nat) : Fld := ⟨0x24010 + 0x80 * n, 0, 32⟩
def F.BNK.DENIED (n : Nat) : Fld := ⟨0x24014 + 0x80 * n, 0, 32⟩
def F.BNK.INHIBITED (n : Nat) : Fld := ⟨0x24018 + 0x80 * n, 0, 32⟩
def F.BNK.TRIG_DEFER (n : Nat) : Fld := ⟨0x2401C + 0x80 * n, 0, 32⟩
def F.BNK.TRIG_MERGED (n : Nat) : Fld := ⟨0x24020 + 0x80 * n, 0, 32⟩
def F.BNK.PICK_MISS (n : Nat) : Fld := ⟨0x24024 + 0x80 * n, 0, 32⟩
def F.BNK.BANK_LIM_ST (n : Nat) : Fld := ⟨0x24040 + 0x80 * n, 0, 32⟩
def F.BNK.NO_ANGLE (n : Nat) : Fld := ⟨0x24044 + 0x80 * n, 6, 1⟩
def F.BNK.CELL (n : Nat) : Fld := ⟨0x24044 + 0x80 * n, 0, 6⟩
def F.BNK.CELL_SUM_LO (n : Nat) : Fld := ⟨0x24048 + 0x80 * n, 0, 32⟩
def F.BNK.LONG_SUM_LO (n : Nat) : Fld := ⟨0x2404C + 0x80 * n, 0, 32⟩
def F.BNK.LONG_SUM_HI (n : Nat) : Fld := ⟨0x24050 + 0x80 * n, 8, 16⟩
def F.BNK.CELL_SUM_HI (n : Nat) : Fld := ⟨0x24050 + 0x80 * n, 0, 8⟩
-- Shot scheduler
def F.SHT.SHOT_CTRL_OFFSET_BITS : Fld := ⟨0x24400, 0, 4⟩
def F.SHT.SHOT_SEED_SEED : Fld := ⟨0x24404, 0, 31⟩
def F.SHT.SHOT_PERIOD_PERIOD : Fld := ⟨0x24408, 0, 32⟩
def F.SHT.SHOT_STATE_SHOT : Fld := ⟨0x2440C, 16, 5⟩
def F.SHT.SHOT_STATE_COLUMN : Fld := ⟨0x2440C, 0, 11⟩
def F.SHT.EMIT_INHIBIT_SRC : Fld := ⟨0x24410, 0, 12⟩
def F.SHT.EMIT_INHIBIT_LATCH_SRC : Fld := ⟨0x24414, 0, 12⟩
def F.SHT.DERATE_CFG_OFF : Fld := ⟨0x24420, 24, 8⟩
def F.SHT.DERATE_CFG_END : Fld := ⟨0x24420, 16, 8⟩
def F.SHT.DERATE_CFG_START : Fld := ⟨0x24420, 8, 8⟩
def F.SHT.DERATE_CFG_FLOOR : Fld := ⟨0x24420, 0, 8⟩
def F.SHT.DERATE_ST : Fld := ⟨0x24430, 0, 32⟩
def F.SHT.T_E : Fld := ⟨0x24434, 16, 16⟩
def F.SHT.DERATE_F : Fld := ⟨0x24434, 0, 11⟩
def F.SHT.CFG_ERR : Fld := ⟨0x24438, 0, 1⟩
-- Energy limiter (locked)
def F.LIM.LIM_CFG_CONFIGURED : Fld := ⟨0x24600, 31, 1⟩
def F.LIM.LIM_CFG_LANE_FAULT : Fld := ⟨0x24600, 30, 1⟩
def F.LIM.LIM_CFG_POOL : Fld := ⟨0x24600, 28, 2⟩
def F.LIM.LIM_CFG_CELL_WIDTH : Fld := ⟨0x24600, 0, 13⟩
def F.LIM.LIM_ANGLE_BASE_BASE : Fld := ⟨0x24604, 0, 16⟩
def F.LIM.LIM_MAX_MAX_TARGET : Fld := ⟨0x24608, 16, 13⟩
def F.LIM.LIM_MAX_MAX_WIDTH : Fld := ⟨0x24608, 0, 4⟩
def F.LIM.CELL_LIMIT_HI : Fld := ⟨0x2460C, 0, 8⟩
def F.LIM.CELL_LIMIT_LO : Fld := ⟨0x24610, 0, 32⟩
def F.LIM.LONG_LIMIT_HI : Fld := ⟨0x24614, 0, 16⟩
def F.LIM.LONG_LIMIT_LO : Fld := ⟨0x24618, 0, 32⟩
def F.LIM.LIM_CRC_CRC : Fld := ⟨0x2461C, 0, 32⟩
def F.LIM.DENY_TOTAL : Fld := ⟨0x24620, 0, 32⟩
-- Loop
def F.LOOP.LOOP_CTRL_CASC_N (n : Nat) : Fld := ⟨0x30000 + 0x400 * n, 8, 6⟩
def F.LOOP.LOOP_CTRL_SWAP (n : Nat) : Fld := ⟨0x30000 + 0x400 * n, 4, 1⟩
def F.LOOP.LOOP_CTRL_FB_EN (n : Nat) : Fld := ⟨0x30000 + 0x400 * n, 3, 1⟩
def F.LOOP.LOOP_CTRL_MODE (n : Nat) : Fld := ⟨0x30000 + 0x400 * n, 0, 2⟩
def F.LOOP.LOOP_RATE_DIV (n : Nat) : Fld := ⟨0x30004 + 0x400 * n, 16, 16⟩
def F.LOOP.LOOP_RATE_DEST (n : Nat) : Fld := ⟨0x30004 + 0x400 * n, 12, 2⟩
def F.LOOP.LOOP_RATE_SRC (n : Nat) : Fld := ⟨0x30004 + 0x400 * n, 8, 2⟩
def F.LOOP.LOOP_RATE_HK_SLOT (n : Nat) : Fld := ⟨0x30004 + 0x400 * n, 4, 4⟩
def F.LOOP.LOOP_RATE_TIA (n : Nat) : Fld := ⟨0x30004 + 0x400 * n, 0, 2⟩
def F.LOOP.LOOP_SP_SP (n : Nat) : Fld := ⟨0x30008 + 0x400 * n, 0, 32⟩
def F.LOOP.LOOP_OPEN_OUT_OPEN_OUT (n : Nat) : Fld := ⟨0x3000C + 0x400 * n, 0, 32⟩
def F.LOOP.LOOP_PARK_PARK (n : Nat) : Fld := ⟨0x30010 + 0x400 * n, 0, 32⟩
def F.LOOP.LOOP_RAMP_RAMP (n : Nat) : Fld := ⟨0x30014 + 0x400 * n, 0, 16⟩
def F.LOOP.LOOP_SETTLE_BAND (n : Nat) : Fld := ⟨0x30018 + 0x400 * n, 16, 16⟩
def F.LOOP.LOOP_SETTLE_N (n : Nat) : Fld := ⟨0x30018 + 0x400 * n, 0, 8⟩
def F.LOOP.LOOP_STAT_SWAP_ERR (n : Nat) : Fld := ⟨0x3001C + 0x400 * n, 7, 1⟩
def F.LOOP.LOOP_STAT_SRC_FAULT (n : Nat) : Fld := ⟨0x3001C + 0x400 * n, 6, 1⟩
def F.LOOP.LOOP_STAT_FB_FROZEN (n : Nat) : Fld := ⟨0x3001C + 0x400 * n, 5, 1⟩
def F.LOOP.LOOP_STAT_FB_LOST (n : Nat) : Fld := ⟨0x3001C + 0x400 * n, 4, 1⟩
def F.LOOP.LOOP_STAT_SWAP_PEND (n : Nat) : Fld := ⟨0x3001C + 0x400 * n, 3, 1⟩
def F.LOOP.LOOP_STAT_SAT_OUT (n : Nat) : Fld := ⟨0x3001C + 0x400 * n, 2, 1⟩
def F.LOOP.LOOP_STAT_ICLAMP (n : Nat) : Fld := ⟨0x3001C + 0x400 * n, 1, 1⟩
def F.LOOP.LOOP_STAT_SETTLED (n : Nat) : Fld := ⟨0x3001C + 0x400 * n, 0, 1⟩
def F.LOOP.LOOP_RES_ST (n : Nat) : Fld := ⟨0x30020 + 0x400 * n, 0, 32⟩
def F.LOOP.SP_ACT (n : Nat) : Fld := ⟨0x30024 + 0x400 * n, 0, 32⟩
def F.LOOP.MEAS (n : Nat) : Fld := ⟨0x30028 + 0x400 * n, 0, 32⟩
def F.LOOP.ERR (n : Nat) : Fld := ⟨0x3002C + 0x400 * n, 0, 32⟩
def F.LOOP.ITERM (n : Nat) : Fld := ⟨0x30030 + 0x400 * n, 0, 32⟩
def F.LOOP.OUT (n : Nat) : Fld := ⟨0x30034 + 0x400 * n, 0, 32⟩
def F.LOOP.TIME_LO (n : Nat) : Fld := ⟨0x30038 + 0x400 * n, 0, 32⟩
def F.LOOP.TIME_HI (n : Nat) : Fld := ⟨0x3003C + 0x400 * n, 0, 32⟩
def F.LOOP.KP (n : Nat) : Fld := ⟨0x30040 + 0x400 * n, 0, 32⟩
def F.LOOP.KI (n : Nat) : Fld := ⟨0x30044 + 0x400 * n, 0, 32⟩
def F.LOOP.KD (n : Nat) : Fld := ⟨0x30048 + 0x400 * n, 0, 32⟩
def F.LOOP.LOOP_SHIFT_SD (n : Nat) : Fld := ⟨0x3004C + 0x400 * n, 16, 5⟩
def F.LOOP.LOOP_SHIFT_SI (n : Nat) : Fld := ⟨0x3004C + 0x400 * n, 8, 5⟩
def F.LOOP.LOOP_SHIFT_SP (n : Nat) : Fld := ⟨0x3004C + 0x400 * n, 0, 5⟩
def F.LOOP.LOOP_KF_DSRC (n : Nat) : Fld := ⟨0x30050 + 0x400 * n, 31, 1⟩
def F.LOOP.LOOP_KF_KF (n : Nat) : Fld := ⟨0x30050 + 0x400 * n, 0, 16⟩
def F.LOOP.IMIN (n : Nat) : Fld := ⟨0x30054 + 0x400 * n, 0, 32⟩
def F.LOOP.IMAX (n : Nat) : Fld := ⟨0x30058 + 0x400 * n, 0, 32⟩
def F.LOOP.OUTMIN (n : Nat) : Fld := ⟨0x3005C + 0x400 * n, 0, 32⟩
def F.LOOP.OUTMAX (n : Nat) : Fld := ⟨0x30060 + 0x400 * n, 0, 32⟩
def F.LOOP.ELIM (n : Nat) : Fld := ⟨0x30064 + 0x400 * n, 0, 32⟩
def F.LOOP.ACT (n i : Nat) : Fld := ⟨0x30080 + 0x400 * n + 0x4 * i, 0, 32⟩
def F.LOOP.FB_CFG_FB_N (n : Nat) : Fld := ⟨0x300C0 + 0x400 * n, 0, 7⟩
def F.LOOP.FB_LO (n : Nat) : Fld := ⟨0x300C4 + 0x400 * n, 0, 32⟩
def F.LOOP.FB_HI (n : Nat) : Fld := ⟨0x300C8 + 0x400 * n, 0, 32⟩
def F.LOOP.MEAS_DELTA (n : Nat) : Fld := ⟨0x300CC + 0x400 * n, 0, 32⟩
def F.LOOP.DRIVE_DELTA (n : Nat) : Fld := ⟨0x300D0 + 0x400 * n, 0, 32⟩
def F.LOOP.REF_DELTA (n : Nat) : Fld := ⟨0x300D4 + 0x400 * n, 0, 32⟩
def F.LOOP.MEAS_IN (n : Nat) : Fld := ⟨0x300D8 + 0x400 * n, 0, 32⟩
def F.LOOP.CLAMP (n : Nat) : Fld := ⟨0x300E0 + 0x400 * n, 0, 32⟩
def F.LOOP.SWAPS (n : Nat) : Fld := ⟨0x300E4 + 0x400 * n, 0, 32⟩
-- Steering
def F.STEER.TRAJ_CTRL_APPROACH : Fld := ⟨0x32000, 16, 16⟩
def F.STEER.TRAJ_CTRL_SRC : Fld := ⟨0x32000, 0, 1⟩
def F.STEER.TRAJ_STAT_BAD_INDEX : Fld := ⟨0x32004, 16, 16⟩
def F.STEER.TRAJ_STAT_BAD : Fld := ⟨0x32004, 1, 2⟩
def F.STEER.TRAJ_STAT_RUN : Fld := ⟨0x32004, 0, 1⟩
def F.STEER.TRAJ_MIN : Fld := ⟨0x32008, 0, 32⟩
def F.STEER.TRAJ_MAX : Fld := ⟨0x3200C, 0, 32⟩
def F.STEER.TRAJ_STEP_MAX : Fld := ⟨0x32010, 0, 32⟩
def F.STEER.ANG_A0 : Fld := ⟨0x32014, 0, 32⟩
def F.STEER.ANG_A1 : Fld := ⟨0x32018, 0, 32⟩
def F.STEER.ANG_A2 : Fld := ⟨0x3201C, 0, 32⟩
def F.STEER.ANG_ZERO : Fld := ⟨0x32020, 0, 16⟩
def F.STEER.DUAL_MARGIN : Fld := ⟨0x32024, 0, 16⟩
def F.STEER.EDGE_2 : Fld := ⟨0x32028, 16, 16⟩
def F.STEER.EDGE_1 : Fld := ⟨0x32028, 0, 16⟩
def F.STEER.EDGE_4 : Fld := ⟨0x3202C, 16, 16⟩
def F.STEER.EDGE_3 : Fld := ⟨0x3202C, 0, 16⟩
def F.STEER.EDGE_6 : Fld := ⟨0x32030, 16, 16⟩
def F.STEER.EDGE_5 : Fld := ⟨0x32030, 0, 16⟩
def F.STEER.EDGE_7 : Fld := ⟨0x32034, 0, 16⟩
def F.STEER.COL_ANG_ST : Fld := ⟨0x32040, 0, 32⟩
def F.STEER.ANGLE : Fld := ⟨0x32044, 16, 16⟩
def F.STEER.DUAL : Fld := ⟨0x32044, 1, 1⟩
def F.STEER.DIR : Fld := ⟨0x32044, 0, 1⟩
def F.STEER.COLUMN : Fld := ⟨0x32048, 0, 11⟩
def F.STEER.ENG_STAT_LOAD : Fld := ⟨0x32050, 12, 20⟩
def F.STEER.ENG_STAT_RATE_ERR : Fld := ⟨0x32050, 0, 1⟩
-- User trajectory table
def F.TRAJ.ENTRY (i : Nat) : Fld := ⟨0x34000 + 0x4 * i, 0, 32⟩
-- Receiver, TDC and histogram global
def F.RX.RX_CTRL_AUTO_MASK : Fld := ⟨0x40000, 3, 1⟩
def F.RX.RX_CTRL_SURVEY_EN : Fld := ⟨0x40000, 2, 1⟩
def F.RX.RX_CTRL_ADAPT : Fld := ⟨0x40000, 1, 1⟩
def F.RX.RX_TIME_HOLDOFF : Fld := ⟨0x40004, 24, 7⟩
def F.RX.RX_TIME_PRE_SPAN : Fld := ⟨0x40004, 16, 8⟩
def F.RX.RX_TIME_BLANK : Fld := ⟨0x40004, 8, 8⟩
def F.RX.RX_TIME_RECHARGE : Fld := ⟨0x40004, 0, 4⟩
def F.RX.RX_LISTEN_LISTEN : Fld := ⟨0x40008, 0, 16⟩
def F.RX.COINC_FIX_KDUAL : Fld := ⟨0x4000C, 8, 4⟩
def F.RX.COINC_FIX_W_FIX : Fld := ⟨0x4000C, 4, 4⟩
def F.RX.COINC_FIX_K_FIX : Fld := ⟨0x4000C, 0, 4⟩
def F.RX.ADAPT_CFG_LOWER_N : Fld := ⟨0x40010, 4, 4⟩
def F.RX.ADAPT_CFG_STEP_MAX : Fld := ⟨0x40010, 0, 3⟩
def F.RX.LADDER_K (i : Nat) : Fld := ⟨0x40020 + 0x4 * i, 28, 4⟩
def F.RX.LADDER_W (i : Nat) : Fld := ⟨0x40020 + 0x4 * i, 24, 4⟩
def F.RX.LADDER_RAISE (i : Nat) : Fld := ⟨0x40020 + 0x4 * i, 12, 12⟩
def F.RX.LADDER_LOWER (i : Nat) : Fld := ⟨0x40020 + 0x4 * i, 0, 12⟩
def F.RX.BIAS_CFG_HV_MAX : Fld := ⟨0x40040, 16, 16⟩
def F.RX.BIAS_TRIM_CFG_BANK_TRIM_EN : Fld := ⟨0x40044, 0, 1⟩
def F.RX.VBD_MODEL_VBD25 : Fld := ⟨0x40048, 16, 16⟩
def F.RX.VBD_MODEL_TC : Fld := ⟨0x40048, 0, 16⟩
def F.RX.REF_SEL0_SEL : Fld := ⟨0x4004C, 0, 32⟩
def F.RX.REF_SEL1_SEL : Fld := ⟨0x40050, 0, 32⟩
def F.RX.SWING_OFS_OFS : Fld := ⟨0x40054, 0, 16⟩
def F.RX.VEX_ST : Fld := ⟨0x40060, 0, 32⟩
def F.RX.HV : Fld := ⟨0x40064, 16, 16⟩
def F.RX.VEX : Fld := ⟨0x40064, 0, 16⟩
def F.RX.VEX_B (i : Nat) : Fld := ⟨0x40068 + 0x4 * i, 0, 32⟩
def F.RX.VBD_EST : Fld := ⟨0x40078, 16, 16⟩
def F.RX.VBD_MOD : Fld := ⟨0x40078, 0, 16⟩
def F.RX.BANK_TRIM_TRIM : Fld := ⟨0x4007C, 0, 32⟩
def F.RX.REF_LIVE0_LIVE : Fld := ⟨0x40080, 0, 32⟩
def F.RX.REF_LIVE1_LIVE : Fld := ⟨0x40084, 0, 32⟩
def F.RX.RX_STAT_CFG_ERR : Fld := ⟨0x40090, 7, 1⟩
def F.RX.RX_STAT_HV_LIMIT : Fld := ⟨0x40090, 6, 1⟩
def F.RX.RX_STAT_HV_OVP : Fld := ⟨0x40090, 5, 1⟩
def F.RX.RX_STAT_REF_SUSPECT : Fld := ⟨0x40090, 4, 1⟩
def F.RX.RX_STAT_TRIM_LIMIT : Fld := ⟨0x40090, 3, 1⟩
def F.RX.RX_STAT_VEX_VALID : Fld := ⟨0x40090, 2, 1⟩
def F.RX.HOT_FOUND : Fld := ⟨0x400A0, 0, 32⟩
def F.RX.DEAD_FOUND : Fld := ⟨0x400A4, 0, 32⟩
def F.RX.REF_DROP : Fld := ⟨0x400A8, 0, 32⟩
def F.RX.HV_CLAMP : Fld := ⟨0x400AC, 0, 32⟩
def F.RX.TDC_CTRL_PHASE_CORR_EN : Fld := ⟨0x40100, 0, 1⟩
def F.RX.TDC_STAT_FAULT : Fld := ⟨0x40104, 16, 12⟩
def F.RX.TDC_STAT_LOCKED : Fld := ⟨0x40104, 0, 12⟩
def F.RX.PHASE_CORR0_CORR : Fld := ⟨0x40108, 0, 32⟩
def F.RX.PHASE_CORR1_CORR : Fld := ⟨0x4010C, 0, 32⟩
def F.RX.TDC_CC_CC : Fld := ⟨0x40110, 0, 16⟩
def F.RX.DLL_UNLOCKS : Fld := ⟨0x40120, 0, 32⟩
def F.RX.HIST_CFG_ZOOM_N : Fld := ⟨0x40200, 16, 5⟩
def F.RX.HIST_CFG_COARSE_N : Fld := ⟨0x40200, 8, 5⟩
def F.RX.HIST_CFG_K_BIN : Fld := ⟨0x40200, 0, 3⟩
def F.RX.CAND_CFG_WIN_MAX : Fld := ⟨0x40204, 16, 3⟩
def F.RX.CAND_CFG_SEP : Fld := ⟨0x40204, 8, 8⟩
def F.RX.CAND_CFG_CAND_MIN : Fld := ⟨0x40204, 0, 4⟩
def F.RX.DUMP_CFG_RATE_MAX : Fld := ⟨0x40208, 0, 14⟩
def F.RX.DUMP_STAT_ACTIVE : Fld := ⟨0x4020C, 31, 1⟩
def F.RX.DUMP_STAT_COL_LEFT : Fld := ⟨0x4020C, 16, 12⟩
def F.RX.DUMP_REC : Fld := ⟨0x40210, 0, 32⟩
def F.RX.DUMP_DROP : Fld := ⟨0x40214, 0, 32⟩
def F.RX.SLICE_ISO_ISO (i : Nat) : Fld := ⟨0x40220 + 0x4 * i, 0, 32⟩
-- Reference channel
def F.CH.CH_CTRL_ORDER_EN (n : Nat) : Fld := ⟨0x41000 + 0x200 * n, 15, 1⟩
def F.CH.CH_CTRL_STOP_EDGE (n : Nat) : Fld := ⟨0x41000 + 0x200 * n, 14, 1⟩
def F.CH.CH_CTRL_TS_EDGES (n : Nat) : Fld := ⟨0x41000 + 0x200 * n, 12, 2⟩
def F.CH.CH_CTRL_STOP_SRC (n : Nat) : Fld := ⟨0x41000 + 0x200 * n, 8, 4⟩
def F.CH.CH_CTRL_START_SRC (n : Nat) : Fld := ⟨0x41000 + 0x200 * n, 4, 4⟩
def F.CH.CH_CTRL_START_EDGE (n : Nat) : Fld := ⟨0x41000 + 0x200 * n, 3, 1⟩
def F.CH.CH_CTRL_MODE (n : Nat) : Fld := ⟨0x41000 + 0x200 * n, 2, 1⟩
def F.CH.CH_CTRL_QUEUE_EN (n : Nat) : Fld := ⟨0x41000 + 0x200 * n, 1, 1⟩
def F.CH.CH_CTRL_EN (n : Nat) : Fld := ⟨0x41000 + 0x200 * n, 0, 1⟩
def F.CH.CH_TIMEOUT_TIMEOUT (n : Nat) : Fld := ⟨0x41004 + 0x200 * n, 0, 20⟩
def F.CH.CH_WINDOW_PICK_MAX (n : Nat) : Fld := ⟨0x41008 + 0x200 * n, 16, 16⟩
def F.CH.CH_WINDOW_PICK_MIN (n : Nat) : Fld := ⟨0x41008 + 0x200 * n, 0, 16⟩
def F.CH.CH_TIN_HOLDOFF (n : Nat) : Fld := ⟨0x4100C + 0x200 * n, 16, 16⟩
def F.CH.CH_TIN_HYST (n : Nat) : Fld := ⟨0x4100C + 0x200 * n, 8, 2⟩
def F.CH.CH_TIN_VTH (n : Nat) : Fld := ⟨0x4100C + 0x200 * n, 0, 6⟩
def F.CH.CH_TOFS_TOFS (n : Nat) : Fld := ⟨0x41010 + 0x200 * n, 0, 16⟩
def F.CH.CH_STAT_MAP_ERR (n : Nat) : Fld := ⟨0x41014 + 0x200 * n, 4, 1⟩
def F.CH.CH_STAT_UNLOCK (n : Nat) : Fld := ⟨0x41014 + 0x200 * n, 3, 1⟩
def F.CH.CH_STAT_LIN_VALID (n : Nat) : Fld := ⟨0x41014 + 0x200 * n, 2, 1⟩
def F.CH.CH_STAT_FAULT (n : Nat) : Fld := ⟨0x41014 + 0x200 * n, 1, 1⟩
def F.CH.CH_STAT_LOCKED (n : Nat) : Fld := ⟨0x41014 + 0x200 * n, 0, 1⟩
def F.CH.CH_TAPMAP0_MAP (n : Nat) : Fld := ⟨0x41018 + 0x200 * n, 0, 32⟩
def F.CH.CH_TAPMAP1_MAP (n : Nat) : Fld := ⟨0x4101C + 0x200 * n, 0, 32⟩
def F.CH.CH_TAPMAP2_MAP (n : Nat) : Fld := ⟨0x41020 + 0x200 * n, 0, 8⟩
def F.CH.CH_RES_ST (n : Nat) : Fld := ⟨0x41040 + 0x200 * n, 0, 32⟩
def F.CH.D_MAX (n : Nat) : Fld := ⟨0x41044 + 0x200 * n, 16, 16⟩
def F.CH.D_MIN (n : Nat) : Fld := ⟨0x41044 + 0x200 * n, 0, 16⟩
def F.CH.INTERVAL (n : Nat) : Fld := ⟨0x41044 + 0x200 * n, 0, 32⟩
def F.CH.D_LAST (n : Nat) : Fld := ⟨0x41048 + 0x200 * n, 16, 16⟩
def F.CH.FLAGS_LAST (n : Nat) : Fld := ⟨0x41048 + 0x200 * n, 0, 4⟩
def F.CH.KIND (n : Nat) : Fld := ⟨0x41048 + 0x200 * n, 5, 1⟩
def F.CH.INVALID (n : Nat) : Fld := ⟨0x41048 + 0x200 * n, 4, 1⟩
def F.CH.COVF (n : Nat) : Fld := ⟨0x41048 + 0x200 * n, 3, 1⟩
def F.CH.TIMEOUT (n : Nat) : Fld := ⟨0x41048 + 0x200 * n, 2, 1⟩
def F.CH.ORDER (n : Nat) : Fld := ⟨0x41048 + 0x200 * n, 1, 1⟩
def F.CH.TIE (n : Nat) : Fld := ⟨0x41048 + 0x200 * n, 0, 1⟩
def F.CH.D_SUM (n : Nat) : Fld := ⟨0x4104C + 0x200 * n, 0, 32⟩
def F.CH.T_OPEN_LO (n : Nat) : Fld := ⟨0x4104C + 0x200 * n, 0, 32⟩
def F.CH.STARTS (n : Nat) : Fld := ⟨0x41050 + 0x200 * n, 16, 16⟩
def F.CH.NOSTART (n : Nat) : Fld := ⟨0x41050 + 0x200 * n, 0, 16⟩
def F.CH.T_OPEN_HI (n : Nat) : Fld := ⟨0x41050 + 0x200 * n, 0, 32⟩
def F.CH.T_OPEN_FRAC (n : Nat) : Fld := ⟨0x41054 + 0x200 * n, 16, 16⟩
def F.CH.T_CLOSE_FRAC (n : Nat) : Fld := ⟨0x41054 + 0x200 * n, 0, 16⟩
def F.CH.T_CLOSE_LO (n : Nat) : Fld := ⟨0x41058 + 0x200 * n, 0, 32⟩
def F.CH.T_CLOSE_HI (n : Nat) : Fld := ⟨0x4105C + 0x200 * n, 0, 32⟩
def F.CH.PICK_EARLY_HOLD_HIT (n : Nat) : Fld := ⟨0x410A0 + 0x200 * n, 0, 32⟩
def F.CH.PICK_LATE_TIMEOUTS (n : Nat) : Fld := ⟨0x410A4 + 0x200 * n, 0, 32⟩
def F.CH.PICK_EXTRA_EXTRA (n : Nat) : Fld := ⟨0x410A8 + 0x200 * n, 0, 32⟩
def F.CH.PICK_STRAY_STRAY_STOP (n : Nat) : Fld := ⟨0x410AC + 0x200 * n, 0, 32⟩
def F.CH.Q_DROP (n : Nat) : Fld := ⟨0x410B0 + 0x200 * n, 0, 32⟩
def F.CH.Q_HEAD0_FRAC (n : Nat) : Fld := ⟨0x41080 + 0x200 * n, 16, 16⟩
def F.CH.Q_HEAD0_FLAGS (n : Nat) : Fld := ⟨0x41080 + 0x200 * n, 0, 6⟩
def F.CH.Q_HEAD1_INTERVAL (n : Nat) : Fld := ⟨0x41084 + 0x200 * n, 0, 32⟩
def F.CH.T_LO (n : Nat) : Fld := ⟨0x41088 + 0x200 * n, 0, 32⟩
def F.CH.T_HI (n : Nat) : Fld := ⟨0x4108C + 0x200 * n, 0, 32⟩
def F.CH.Q_STAT_COUNT (n : Nat) : Fld := ⟨0x41090 + 0x200 * n, 0, 7⟩
def F.CH.Q_POP_POP (n : Nat) : Fld := ⟨0x41094 + 0x200 * n, 0, 1⟩
def F.CH.LIN (n i : Nat) : Fld := ⟨0x41100 + 0x200 * n + 0x4 * i, 0, 10⟩
-- Region (kernels at 0x100 + k x 0x20)
def F.PE.PE_CTRL_PRECIP_EN (n : Nat) : Fld := ⟨0x50000 + 0x4000 * n, 3, 1⟩
def F.PE.PE_CTRL_BLOOM_EN (n : Nat) : Fld := ⟨0x50000 + 0x4000 * n, 2, 1⟩
def F.PE.PE_CTRL_ECHO_EN (n : Nat) : Fld := ⟨0x50000 + 0x4000 * n, 1, 1⟩
def F.PE.PE_CTRL_FOREIGN_DROP (n : Nat) : Fld := ⟨0x50000 + 0x4000 * n, 0, 1⟩
def F.PE.PE_THR_SIGMA (n : Nat) : Fld := ⟨0x50004 + 0x4000 * n, 16, 8⟩
def F.PE.PE_THR_MIN_CNT (n : Nat) : Fld := ⟨0x50004 + 0x4000 * n, 0, 5⟩
def F.PE.PE_SPLIT_SPLIT_N (n : Nat) : Fld := ⟨0x50008 + 0x4000 * n, 8, 8⟩
def F.PE.PE_SPLIT_SPLIT_TOL (n : Nat) : Fld := ⟨0x50008 + 0x4000 * n, 0, 8⟩
def F.PE.PE_CLASS_EXT_MIN (n : Nat) : Fld := ⟨0x5000C + 0x4000 * n, 28, 4⟩
def F.PE.PE_CLASS_EXT_SPAN (n : Nat) : Fld := ⟨0x5000C + 0x4000 * n, 24, 4⟩
def F.PE.PE_CLASS_PRECIP_MAX (n : Nat) : Fld := ⟨0x5000C + 0x4000 * n, 12, 12⟩
def F.PE.PE_CLASS_DROP_MAX (n : Nat) : Fld := ⟨0x5000C + 0x4000 * n, 0, 12⟩
def F.PE.PE_DROP_DROP_INT (n : Nat) : Fld := ⟨0x50010 + 0x4000 * n, 0, 16⟩
def F.PE.PE_MP_BLOOM_ROWS (n : Nat) : Fld := ⟨0x50014 + 0x4000 * n, 24, 8⟩
def F.PE.PE_MP_BLOOM_TOL (n : Nat) : Fld := ⟨0x50014 + 0x4000 * n, 12, 12⟩
def F.PE.PE_MP_MP_TOL (n : Nat) : Fld := ⟨0x50014 + 0x4000 * n, 0, 8⟩
def F.PE.PE_WIN_WIN_DIRTY (n : Nat) : Fld := ⟨0x50018 + 0x4000 * n, 16, 16⟩
def F.PE.PE_WIN_WIN_FRAMES (n : Nat) : Fld := ⟨0x50018 + 0x4000 * n, 12, 4⟩
def F.PE.PE_WIN_WIN_FRAC (n : Nat) : Fld := ⟨0x50018 + 0x4000 * n, 0, 8⟩
def F.PE.PE_FLOOR_FX (n : Nat) : Fld := ⟨0x5001C + 0x4000 * n, 24, 8⟩
def F.PE.PE_FLOOR_FX_CNT (n : Nat) : Fld := ⟨0x5001C + 0x4000 * n, 16, 8⟩
def F.PE.PE_FLOOR_DUP_SEP (n : Nat) : Fld := ⟨0x5001C + 0x4000 * n, 8, 8⟩
def F.PE.PE_FLOOR_GUARD (n : Nat) : Fld := ⟨0x5001C + 0x4000 * n, 0, 4⟩
def F.PE.PE_IL0_IL_T2 (n : Nat) : Fld := ⟨0x50020 + 0x4000 * n, 16, 16⟩
def F.PE.PE_IL0_IL_T1 (n : Nat) : Fld := ⟨0x50020 + 0x4000 * n, 0, 16⟩
def F.PE.PE_IL1_IL_FRET (n : Nat) : Fld := ⟨0x50024 + 0x4000 * n, 16, 16⟩
def F.PE.PE_IL1_IL_T3 (n : Nat) : Fld := ⟨0x50024 + 0x4000 * n, 0, 16⟩
def F.PE.PE_CONF_CONF_MIN (n : Nat) : Fld := ⟨0x50028 + 0x4000 * n, 0, 4⟩
def F.PE.PE_SCALE_SCALE (n : Nat) : Fld := ⟨0x50040 + 0x4000 * n, 0, 32⟩
def F.PE.PE_RANGE_OFS_OFS (n : Nat) : Fld := ⟨0x50044 + 0x4000 * n, 0, 32⟩
def F.PE.PE_STEP_OFS0_STEP_OFS1 (n : Nat) : Fld := ⟨0x50048 + 0x4000 * n, 16, 16⟩
def F.PE.PE_STEP_OFS0_STEP_OFS0 (n : Nat) : Fld := ⟨0x50048 + 0x4000 * n, 0, 16⟩
def F.PE.PE_STEP_OFS1_STEP_OFS3 (n : Nat) : Fld := ⟨0x5004C + 0x4000 * n, 16, 16⟩
def F.PE.PE_STEP_OFS1_STEP_OFS2 (n : Nat) : Fld := ⟨0x5004C + 0x4000 * n, 0, 16⟩
def F.PE.PE_STEP_OFS2_STEP_OFS5 (n : Nat) : Fld := ⟨0x50050 + 0x4000 * n, 16, 16⟩
def F.PE.PE_STEP_OFS2_STEP_OFS4 (n : Nat) : Fld := ⟨0x50050 + 0x4000 * n, 0, 16⟩
def F.PE.PE_SAT_OFS_FIX_OFS (n : Nat) : Fld := ⟨0x50054 + 0x4000 * n, 16, 16⟩
def F.PE.PE_SAT_OFS_SAT_OFS (n : Nat) : Fld := ⟨0x50054 + 0x4000 * n, 0, 16⟩
def F.PE.PE_KSEL_KSEL (n : Nat) : Fld := ⟨0x50058 + 0x4000 * n, 0, 16⟩
def F.PE.PE_STAT_IL (n : Nat) : Fld := ⟨0x50060 + 0x4000 * n, 5, 3⟩
def F.PE.PE_STAT_DIRTY (n : Nat) : Fld := ⟨0x50060 + 0x4000 * n, 4, 1⟩
def F.PE.PE_STAT_CFG_ERR (n : Nat) : Fld := ⟨0x50060 + 0x4000 * n, 2, 1⟩
def F.PE.PE_STAT_FENCED (n : Nat) : Fld := ⟨0x50060 + 0x4000 * n, 1, 1⟩
def F.PE.PE_STAT_SELFCHECK_FAIL (n : Nat) : Fld := ⟨0x50060 + 0x4000 * n, 0, 1⟩
def F.PE.PE_FRAME_ST (n : Nat) : Fld := ⟨0x50080 + 0x4000 * n, 0, 32⟩
def F.PE.ROWS_DONE (n : Nat) : Fld := ⟨0x50084 + 0x4000 * n, 0, 32⟩
def F.PE.RETURNS (n : Nat) : Fld := ⟨0x50088 + 0x4000 * n, 0, 32⟩
def F.PE.EXCESS_ROWS (n : Nat) : Fld := ⟨0x5008C + 0x4000 * n, 0, 32⟩
def F.PE.FOREIGN_RET (n : Nat) : Fld := ⟨0x50090 + 0x4000 * n, 0, 32⟩
def F.PE.WIN_LEVEL (n : Nat) : Fld := ⟨0x50094 + 0x4000 * n, 16, 16⟩
def F.PE.IL (n : Nat) : Fld := ⟨0x50094 + 0x4000 * n, 0, 3⟩
def F.PE.PRECIP_RET (n : Nat) : Fld := ⟨0x50098 + 0x4000 * n, 0, 32⟩
def F.PE.MP_RET (n : Nat) : Fld := ⟨0x5009C + 0x4000 * n, 0, 32⟩
def F.PE.RET_TOTAL (n : Nat) : Fld := ⟨0x500C0 + 0x4000 * n, 0, 32⟩
def F.PE.FOREIGN_TOTAL (n : Nat) : Fld := ⟨0x500C4 + 0x4000 * n, 0, 32⟩
def F.PE.LOWCONF_TOTAL (n : Nat) : Fld := ⟨0x500C8 + 0x4000 * n, 0, 32⟩
def F.PE.MERGED (n : Nat) : Fld := ⟨0x500CC + 0x4000 * n, 0, 32⟩
def F.KER.KTAP0_TAPS (n m : Nat) : Fld := ⟨0x50100 + 0x4000 * n + 0x20 * m, 0, 32⟩
def F.KER.KTAP1_TAPS (n m : Nat) : Fld := ⟨0x50104 + 0x4000 * n + 0x20 * m, 0, 32⟩
def F.KER.KTAP2_TAPS (n m : Nat) : Fld := ⟨0x50108 + 0x4000 * n + 0x20 * m, 0, 32⟩
def F.KER.KTAP3_TAPS (n m : Nat) : Fld := ⟨0x5010C + 0x4000 * n + 0x20 * m, 0, 32⟩
def F.KER.KREF (n m : Nat) : Fld := ⟨0x50110 + 0x4000 * n + 0x20 * m, 0, 12⟩
def F.KER.KSUM (n m : Nat) : Fld := ⟨0x50114 + 0x4000 * n + 0x20 * m, 0, 12⟩
-- Slice (row j at 0x8000 + j x 0x100)
def F.ROW.ROW_CTRL_EN (r : Nat) : Fld := ⟨0x1008000 + 0x10000 * (r % 128) + 0x100 * (r / 128), 0, 1⟩
def F.ROW.ROW_VTRIM_VTRIM (r : Nat) : Fld := ⟨0x1008004 + 0x10000 * (r % 128) + 0x100 * (r / 128), 0, 32⟩
def F.ROW.ROW_STAT_DEGRADED (r : Nat) : Fld := ⟨0x1008008 + 0x10000 * (r % 128) + 0x100 * (r / 128), 24, 8⟩
def F.ROW.ROW_STAT_PENDING_CAL (r : Nat) : Fld := ⟨0x1008008 + 0x10000 * (r % 128) + 0x100 * (r / 128), 16, 8⟩
def F.ROW.ROW_STAT_MAP_ERR (r : Nat) : Fld := ⟨0x1008008 + 0x10000 * (r % 128) + 0x100 * (r / 128), 8, 1⟩
def F.ROW.ROW_STAT_STEP (r : Nat) : Fld := ⟨0x1008008 + 0x10000 * (r % 128) + 0x100 * (r / 128), 0, 3⟩
def F.ROW.ROW_ACT0_ACT (r : Nat) : Fld := ⟨0x100800C + 0x10000 * (r % 128) + 0x100 * (r / 128), 0, 32⟩
def F.ROW.ROW_ACT1_ACT (r : Nat) : Fld := ⟨0x1008010 + 0x10000 * (r % 128) + 0x100 * (r / 128), 0, 32⟩
def F.ROW.ROW_HOT_VALID (r : Nat) : Fld := ⟨0x1008014 + 0x10000 * (r % 128) + 0x100 * (r / 128), 16, 1⟩
def F.ROW.ROW_HOT_DEAD (r : Nat) : Fld := ⟨0x1008014 + 0x10000 * (r % 128) + 0x100 * (r / 128), 15, 1⟩
def F.ROW.ROW_HOT_Q (r : Nat) : Fld := ⟨0x1008014 + 0x10000 * (r % 128) + 0x100 * (r / 128), 12, 3⟩
def F.ROW.ROW_HOT_CELL (r : Nat) : Fld := ⟨0x1008014 + 0x10000 * (r % 128) + 0x100 * (r / 128), 0, 6⟩
def F.ROW.ROW_RES_ST (r : Nat) : Fld := ⟨0x1008020 + 0x10000 * (r % 128) + 0x100 * (r / 128), 0, 32⟩
def F.ROW.AMB (r : Nat) : Fld := ⟨0x1008024 + 0x10000 * (r % 128) + 0x100 * (r / 128), 16, 16⟩
def F.ROW.AMB_SAT (r : Nat) : Fld := ⟨0x1008024 + 0x10000 * (r % 128) + 0x100 * (r / 128), 7, 1⟩
def F.ROW.BIAS_OFF (r : Nat) : Fld := ⟨0x1008024 + 0x10000 * (r % 128) + 0x100 * (r / 128), 6, 1⟩
def F.ROW.DUAL (r : Nat) : Fld := ⟨0x1008024 + 0x10000 * (r % 128) + 0x100 * (r / 128), 5, 1⟩
def F.ROW.STEP (r : Nat) : Fld := ⟨0x1008024 + 0x10000 * (r % 128) + 0x100 * (r / 128), 0, 3⟩
def F.ROW.SINGLES (r : Nat) : Fld := ⟨0x1008028 + 0x10000 * (r % 128) + 0x100 * (r / 128), 0, 32⟩
def F.ROW.CELLTIME (r : Nat) : Fld := ⟨0x100802C + 0x10000 * (r % 128) + 0x100 * (r / 128), 0, 32⟩
def F.ROW.ARMED (r : Nat) : Fld := ⟨0x1008030 + 0x10000 * (r % 128) + 0x100 * (r / 128), 0, 32⟩
def F.ROW.PRESTART (r : Nat) : Fld := ⟨0x1008034 + 0x10000 * (r % 128) + 0x100 * (r / 128), 16, 16⟩
def F.ROW.WINDOW (r : Nat) : Fld := ⟨0x1008034 + 0x10000 * (r % 128) + 0x100 * (r / 128), 0, 16⟩
def F.ROW.HOLD_HIT (r : Nat) : Fld := ⟨0x1008038 + 0x10000 * (r % 128) + 0x100 * (r / 128), 0, 16⟩
def F.ROW.EN_LO (r i : Nat) : Fld := ⟨0x1008040 + 0x10000 * (r % 128) + 0x100 * (r / 128) + 0x8 * i, 0, 32⟩
def F.ROW.EN_HI (r i : Nat) : Fld := ⟨0x1008044 + 0x10000 * (r % 128) + 0x100 * (r / 128) + 0x8 * i, 0, 4⟩
def F.ROW.ROW_TOFS_TOFS (r : Nat) : Fld := ⟨0x1008080 + 0x10000 * (r % 128) + 0x100 * (r / 128), 0, 16⟩
def F.SLC.SLC_STAT_ECC_ISO (n : Nat) : Fld := ⟨0x1000000 + 0x10000 * n, 2, 1⟩
def F.SLC.SLC_STAT_POST_ISO (n : Nat) : Fld := ⟨0x1000000 + 0x10000 * n, 1, 1⟩
def F.SLC.SLC_STAT_ISOLATED (n : Nat) : Fld := ⟨0x1000000 + 0x10000 * n, 0, 1⟩
def F.SLC.ECC_CE (n : Nat) : Fld := ⟨0x1000004 + 0x10000 * n, 0, 32⟩
def F.SLC.ECC_UE (n : Nat) : Fld := ⟨0x1000008 + 0x10000 * n, 0, 32⟩
def F.SLC.QFAULT (n : Nat) : Fld := ⟨0x100000C + 0x10000 * n, 0, 32⟩
def F.SLC.UE_RECENT_COUNT (n : Nat) : Fld := ⟨0x1000010 + 0x10000 * n, 0, 2⟩
def F.SLC.SLC_ECC_INJ_BITS (n : Nat) : Fld := ⟨0x1000014 + 0x10000 * n, 6, 2⟩
def F.SLC.SLC_ECC_INJ_LANE (n : Nat) : Fld := ⟨0x1000014 + 0x10000 * n, 5, 1⟩
def F.SLC.SLC_ECC_INJ_ROW (n : Nat) : Fld := ⟨0x1000014 + 0x10000 * n, 0, 3⟩
def F.ROW.HROW_ST (r : Nat) : Fld := ⟨0x10080A0 + 0x10000 * (r % 128) + 0x100 * (r / 128), 0, 32⟩
def F.ROW.N_CA (r : Nat) : Fld := ⟨0x10080A4 + 0x10000 * (r % 128) + 0x100 * (r / 128), 24, 8⟩
def F.ROW.N_CB (r : Nat) : Fld := ⟨0x10080A4 + 0x10000 * (r % 128) + 0x100 * (r / 128), 16, 8⟩
def F.ROW.N_ZA (r : Nat) : Fld := ⟨0x10080A4 + 0x10000 * (r % 128) + 0x100 * (r / 128), 8, 8⟩
def F.ROW.N_ZB (r : Nat) : Fld := ⟨0x10080A4 + 0x10000 * (r % 128) + 0x100 * (r / 128), 0, 8⟩
def F.ROW.ZOOM_OUT (r : Nat) : Fld := ⟨0x10080A8 + 0x10000 * (r % 128) + 0x100 * (r / 128), 16, 16⟩
def F.ROW.OVER_SPAN (r : Nat) : Fld := ⟨0x10080A8 + 0x10000 * (r % 128) + 0x100 * (r / 128), 0, 16⟩
def F.ROW.TAIL_CUT (r : Nat) : Fld := ⟨0x10080AC + 0x10000 * (r % 128) + 0x100 * (r / 128), 16, 16⟩
def F.ROW.TRACK_FULL (r : Nat) : Fld := ⟨0x10080AC + 0x10000 * (r % 128) + 0x100 * (r / 128), 0, 16⟩
def F.ROW.WSTART1 (r : Nat) : Fld := ⟨0x10080B0 + 0x10000 * (r % 128) + 0x100 * (r / 128), 16, 16⟩
def F.ROW.WSTART0 (r : Nat) : Fld := ⟨0x10080B0 + 0x10000 * (r % 128) + 0x100 * (r / 128), 0, 16⟩
def F.ROW.WSTART3 (r : Nat) : Fld := ⟨0x10080B4 + 0x10000 * (r % 128) + 0x100 * (r / 128), 16, 16⟩
def F.ROW.WSTART2 (r : Nat) : Fld := ⟨0x10080B4 + 0x10000 * (r % 128) + 0x100 * (r / 128), 0, 16⟩
def F.ROW.SCORE (r : Nat) : Fld := ⟨0x10080B8 + 0x10000 * (r % 128) + 0x100 * (r / 128), 0, 32⟩
def F.ROW.WINDOWS (r : Nat) : Fld := ⟨0x10080BC + 0x10000 * (r % 128) + 0x100 * (r / 128), 5, 3⟩
def F.ROW.NO_CAND (r : Nat) : Fld := ⟨0x10080BC + 0x10000 * (r % 128) + 0x100 * (r / 128), 3, 1⟩
def F.ROW.SAT (r : Nat) : Fld := ⟨0x10080BC + 0x10000 * (r % 128) + 0x100 * (r / 128), 2, 1⟩
def F.ROW.ECC_CE (r : Nat) : Fld := ⟨0x10080BC + 0x10000 * (r % 128) + 0x100 * (r / 128), 1, 1⟩
def F.ROW.INVALID (r : Nat) : Fld := ⟨0x10080BC + 0x10000 * (r % 128) + 0x100 * (r / 128), 0, 1⟩
-- Point stream, compression, decompressor
def F.PS.PS_CTRL_OVF_EN : Fld := ⟨0x2000000, 8, 1⟩
def F.PS.PS_CTRL_AMB_DEC : Fld := ⟨0x2000000, 4, 3⟩
def F.PS.PS_CTRL_FORMAT : Fld := ⟨0x2000000, 2, 1⟩
def F.PS.PS_CTRL_AMB_EN : Fld := ⟨0x2000000, 1, 1⟩
def F.PS.PS_CTRL_EN : Fld := ⟨0x2000000, 0, 1⟩
def F.PS.PS_STAT_CFG_ERR : Fld := ⟨0x2000004, 3, 1⟩
def F.PS.PS_STAT_DROPPING : Fld := ⟨0x2000004, 2, 1⟩
def F.PS.PS_STAT_OVF_ACTIVE : Fld := ⟨0x2000004, 1, 1⟩
def F.PS.COL_DELIVERED : Fld := ⟨0x2000008, 0, 32⟩
def F.PS.REC_DROPPED : Fld := ⟨0x200000C, 0, 32⟩
def F.PS.REGION_LATE : Fld := ⟨0x2000010, 0, 32⟩
def F.PS.AMB_DROPPED : Fld := ⟨0x2000014, 0, 32⟩
def F.PS.PS_RES_ST : Fld := ⟨0x2000020, 0, 32⟩
def F.PS.CINDEX : Fld := ⟨0x2000024, 0, 32⟩
def F.PS.RETURNS : Fld := ⟨0x2000028, 16, 16⟩
def F.PS.ROWS_VALID : Fld := ⟨0x2000028, 0, 16⟩
def F.PS.RING_LEVEL : Fld := ⟨0x200002C, 0, 19⟩
def F.PS.OVF_LEVEL : Fld := ⟨0x2000030, 0, 32⟩
def F.PS.OVF_CFG_COUNT : Fld := ⟨0x2000040, 0, 5⟩
def F.PS.OVF_ADDR_LO (i : Nat) : Fld := ⟨0x2000080 + 0x10 * i, 0, 32⟩
def F.PS.OVF_ADDR_HI (i : Nat) : Fld := ⟨0x2000084 + 0x10 * i, 0, 32⟩
def F.PS.OVF_LEN (i : Nat) : Fld := ⟨0x2000088 + 0x10 * i, 0, 32⟩
def F.PS.COMP_CTRL_CONTEXT : Fld := ⟨0x2000200, 16, 3⟩
def F.PS.COMP_CTRL_LEVEL : Fld := ⟨0x2000200, 0, 4⟩
def F.PS.COMP_CFG_RESET_FRAMES : Fld := ⟨0x2000204, 0, 8⟩
def F.PS.CTX_STAT_VALID : Fld := ⟨0x2000208, 0, 8⟩
def F.PS.CTX_MARK : Fld := ⟨0x200020C, 0, 32⟩
def F.PS.RAW_IN : Fld := ⟨0x2000210, 0, 32⟩
def F.PS.COMP_OUT : Fld := ⟨0x2000214, 0, 32⟩
def F.PS.RESETS : Fld := ⟨0x2000218, 0, 32⟩
def F.PS.BLK_STORED : Fld := ⟨0x200021C, 0, 32⟩
def F.PS.BLK_FIXED : Fld := ⟨0x2000220, 0, 32⟩
def F.PS.BLK_DYN : Fld := ⟨0x2000224, 0, 32⟩
def F.PS.DECOMP_CFG_TRAILING : Fld := ⟨0x2000300, 4, 1⟩
def F.PS.DECOMP_CFG_GUARD : Fld := ⟨0x2000300, 0, 2⟩
def F.PS.DECOMP_RES_ST : Fld := ⟨0x2000320, 0, 32⟩
def F.PS.CLIPPED : Fld := ⟨0x2000324, 16, 1⟩
def F.PS.DETAIL : Fld := ⟨0x2000324, 8, 8⟩
def F.PS.CODE : Fld := ⟨0x2000324, 0, 8⟩
def F.PS.OUT_LEN : Fld := ⟨0x2000328, 0, 32⟩
def F.PS.IN_POS : Fld := ⟨0x200032C, 0, 32⟩
def F.PS.BLOCKS : Fld := ⟨0x2000330, 0, 32⟩
def F.PS.DECOMP_ERRORS : Fld := ⟨0x2000340, 0, 32⟩
-- Camera input
def F.CAM.CSI_STAT_PHY_HS (n : Nat) : Fld := ⟨0x3000000 + 0x400 * n, 3, 1⟩
def F.CAM.CSI_STAT_FRAME_OPEN (n : Nat) : Fld := ⟨0x3000000 + 0x400 * n, 2, 1⟩
def F.CAM.CSI_STAT_RUN (n : Nat) : Fld := ⟨0x3000000 + 0x400 * n, 1, 1⟩
def F.CAM.CSI_STAT_CONFIGURED (n : Nat) : Fld := ⟨0x3000000 + 0x400 * n, 0, 1⟩
def F.CAM.HDR_CORR (n : Nat) : Fld := ⟨0x3000010 + 0x400 * n, 0, 32⟩
def F.CAM.HDR_ERR (n : Nat) : Fld := ⟨0x3000014 + 0x400 * n, 0, 32⟩
def F.CAM.CRC_ERR (n : Nat) : Fld := ⟨0x3000018 + 0x400 * n, 0, 32⟩
def F.CAM.WC_ERR (n : Nat) : Fld := ⟨0x300001C + 0x400 * n, 0, 32⟩
def F.CAM.IGNORED (n : Nat) : Fld := ⟨0x3000020 + 0x400 * n, 0, 32⟩
def F.CAM.LATE (n : Nat) : Fld := ⟨0x3000024 + 0x400 * n, 0, 32⟩
def F.CAM.OVERFLOW (n : Nat) : Fld := ⟨0x3000028 + 0x400 * n, 0, 32⟩
def F.CAM.SHORT (n : Nat) : Fld := ⟨0x300002C + 0x400 * n, 0, 32⟩
def F.CAM.LONG (n : Nat) : Fld := ⟨0x3000030 + 0x400 * n, 0, 32⟩
def F.CAM.FE_MISSING (n : Nat) : Fld := ⟨0x3000034 + 0x400 * n, 0, 32⟩
def F.CAM.FRAMES_IN (n : Nat) : Fld := ⟨0x3000038 + 0x400 * n, 0, 32⟩
def F.CAM.FRAMES_DROPPED (n : Nat) : Fld := ⟨0x300003C + 0x400 * n, 0, 32⟩
def F.CAM.CAM_BLOCK (n i : Nat) : Fld := ⟨0x3000040 + 0x400 * n + 0x4 * i, 0, 32⟩
def F.CAM.CAM_RES_ST (n : Nat) : Fld := ⟨0x3000080 + 0x400 * n, 0, 32⟩
def F.CAM.CAM_FRAME (n : Nat) : Fld := ⟨0x3000084 + 0x400 * n, 0, 32⟩
def F.CAM.CSI_FRAME (n : Nat) : Fld := ⟨0x3000088 + 0x400 * n, 16, 16⟩
def F.CAM.FLAGS (n : Nat) : Fld := ⟨0x3000088 + 0x400 * n, 0, 4⟩
def F.CAM.TIME_LO (n : Nat) : Fld := ⟨0x300008C + 0x400 * n, 0, 32⟩
def F.CAM.TIME_HI (n : Nat) : Fld := ⟨0x3000090 + 0x400 * n, 0, 32⟩
def F.CAM.LINES (n : Nat) : Fld := ⟨0x3000094 + 0x400 * n, 16, 16⟩
def F.CAM.REASON (n : Nat) : Fld := ⟨0x3000094 + 0x400 * n, 0, 8⟩
def F.CAM.LINE_PERIOD (n : Nat) : Fld := ⟨0x3000098 + 0x400 * n, 0, 32⟩
-- Pipeline context
def F.CTX.CTX_CTRL_HOLD (n : Nat) : Fld := ⟨0x3001000 + 0x400 * n, 0, 1⟩
def F.CTX.CTX_STAT_PENDING (n : Nat) : Fld := ⟨0x3001004 + 0x400 * n, 1, 1⟩
def F.CTX.CTX_STAT_BUSY (n : Nat) : Fld := ⟨0x3001004 + 0x400 * n, 0, 1⟩
def F.CTX.APPLIED_FRAME (n : Nat) : Fld := ⟨0x3001008 + 0x400 * n, 0, 32⟩
def F.CTX.DISP_BASE_LO (n : Nat) : Fld := ⟨0x3001010 + 0x400 * n, 0, 32⟩
def F.CTX.DISP_BASE_HI (n : Nat) : Fld := ⟨0x3001014 + 0x400 * n, 0, 32⟩
def F.CTX.STAT_SUM_ST (n : Nat) : Fld := ⟨0x3001040 + 0x400 * n, 0, 32⟩
def F.CTX.CAM_FRAME (n : Nat) : Fld := ⟨0x3001044 + 0x400 * n, 0, 32⟩
def F.CTX.MEAN_G (n : Nat) : Fld := ⟨0x3001048 + 0x400 * n, 16, 16⟩
def F.CTX.CLIP (n : Nat) : Fld := ⟨0x3001048 + 0x400 * n, 0, 16⟩
def F.CTX.FLK_FREQ (n : Nat) : Fld := ⟨0x300104C + 0x400 * n, 16, 16⟩
def F.CTX.FLK_DEPTH (n : Nat) : Fld := ⟨0x300104C + 0x400 * n, 0, 16⟩
def F.CTX.FLK_PHASE (n : Nat) : Fld := ⟨0x3001050 + 0x400 * n, 16, 16⟩
def F.CTX.FLK_VALID (n : Nat) : Fld := ⟨0x3001050 + 0x400 * n, 3, 1⟩
def F.CTX.STATS_VALID (n : Nat) : Fld := ⟨0x3001050 + 0x400 * n, 2, 1⟩
def F.CTX.LONG (n : Nat) : Fld := ⟨0x3001050 + 0x400 * n, 1, 1⟩
def F.CTX.SHORT (n : Nat) : Fld := ⟨0x3001050 + 0x400 * n, 0, 1⟩
def F.CTX.FRAMES_DONE (n : Nat) : Fld := ⟨0x3001060 + 0x400 * n, 0, 32⟩
def F.CTX.STATS_SENT (n : Nat) : Fld := ⟨0x3001064 + 0x400 * n, 0, 32⟩
def F.CTX.STATS_REFUSED (n : Nat) : Fld := ⟨0x3001068 + 0x400 * n, 0, 32⟩
def F.CTX.SWITCHES (n : Nat) : Fld := ⟨0x300106C + 0x400 * n, 0, 32⟩
-- Pipeline
def F.PIPE.PIPE_CFG_DEFER_GUARD : Fld := ⟨0x3002000, 16, 16⟩
def F.PIPE.PIPE_CFG_DEFER_CTX1 : Fld := ⟨0x3002000, 9, 1⟩
def F.PIPE.PIPE_CFG_DEFER_CTX0 : Fld := ⟨0x3002000, 8, 1⟩
def F.PIPE.PIPE_CFG_STRIPE_LINES : Fld := ⟨0x3002000, 4, 2⟩
def F.PIPE.PIPE_CFG_PRIO : Fld := ⟨0x3002000, 1, 1⟩
def F.PIPE.PIPE_CFG_MODE : Fld := ⟨0x3002000, 0, 1⟩
def F.PIPE.PIPE_STAT_LOAD : Fld := ⟨0x3002004, 16, 16⟩
def F.PIPE.PIPE_STAT_CFG_ERR : Fld := ⟨0x3002004, 0, 1⟩
def F.PIPE.S3_BASE_LO : Fld := ⟨0x3002010, 0, 32⟩
def F.PIPE.S3_BASE_HI : Fld := ⟨0x3002014, 0, 32⟩
def F.PIPE.S3_LEN : Fld := ⟨0x3002018, 0, 32⟩
def F.PIPE.S4_BASE_LO : Fld := ⟨0x3002020, 0, 32⟩
def F.PIPE.S4_BASE_HI : Fld := ⟨0x3002024, 0, 32⟩
def F.PIPE.S4_LEN : Fld := ⟨0x3002028, 0, 32⟩
def F.PIPE.PRIO_DEFER : Fld := ⟨0x3002030, 0, 32⟩
def F.PIPE.DEFERRED : Fld := ⟨0x3002034, 0, 32⟩
def F.PIPE.RAW_FULL_DROP : Fld := ⟨0x3002038, 0, 32⟩
def F.PIPE.REPROC_DONE : Fld := ⟨0x300203C, 0, 32⟩
def F.PIPE.S3_DROPPED : Fld := ⟨0x3002040, 0, 32⟩
def F.PIPE.S4_DROPPED : Fld := ⟨0x3002044, 0, 32⟩
-- Fusion
def F.FUS.FUS_CTRL_DM_CONF : Fld := ⟨0x3003000, 28, 4⟩
def F.FUS.FUS_CTRL_CELL1 : Fld := ⟨0x3003000, 16, 4⟩
def F.FUS.FUS_CTRL_CELL0 : Fld := ⟨0x3003000, 12, 4⟩
def F.FUS.FUS_CTRL_OVL : Fld := ⟨0x3003000, 2, 2⟩
def F.FUS.FUS_CTRL_EN : Fld := ⟨0x3003000, 0, 2⟩
def F.FUS.FUS_WIN_FUSE_PRE : Fld := ⟨0x3003004, 0, 16⟩
def F.FUS.FUS_STAT_CFG_ERR : Fld := ⟨0x3003008, 2, 1⟩
def F.FUS.FUS_STAT_CAL_VALID : Fld := ⟨0x3003008, 0, 2⟩
def F.FUS.ZONE_ACT_ACT : Fld := ⟨0x300300C, 0, 16⟩
def F.FUS.BAND_LIM_LIM2 : Fld := ⟨0x3003010, 20, 10⟩
def F.FUS.BAND_LIM_LIM1 : Fld := ⟨0x3003010, 10, 10⟩
def F.FUS.BAND_LIM_LIM0 : Fld := ⟨0x3003010, 0, 10⟩
def F.FUS.BAND_COL0 : Fld := ⟨0x3003014, 0, 32⟩
def F.FUS.BAND_COL1 : Fld := ⟨0x3003018, 0, 32⟩
def F.FUS.BAND_COL2 : Fld := ⟨0x300301C, 0, 32⟩
def F.FUS.BAND_COL3 : Fld := ⟨0x3003020, 0, 32⟩
def F.FUS.ZONE_COL : Fld := ⟨0x3003024, 0, 32⟩
def F.FUS.MAPS_SENT : Fld := ⟨0x3003030, 0, 32⟩
def F.FUS.MAPS_STALE : Fld := ⟨0x3003034, 0, 32⟩
def F.FUS.X (i : Nat) : Fld := ⟨0x3003040 + 0x10 * i, 0, 32⟩
def F.FUS.Y (i : Nat) : Fld := ⟨0x3003044 + 0x10 * i, 0, 32⟩
def F.FUS.Z (i : Nat) : Fld := ⟨0x3003048 + 0x10 * i, 0, 32⟩
def F.FUS.ZONE_CFG_EN (i : Nat) : Fld := ⟨0x300304C + 0x10 * i, 31, 1⟩
def F.FUS.ZONE_CFG_PRECIP_IGN (i : Nat) : Fld := ⟨0x300304C + 0x10 * i, 30, 1⟩
def F.FUS.ZONE_CFG_CAMS (i : Nat) : Fld := ⟨0x300304C + 0x10 * i, 28, 2⟩
def F.FUS.ZONE_CFG_HOLD (i : Nat) : Fld := ⟨0x300304C + 0x10 * i, 20, 4⟩
def F.FUS.ZONE_CFG_CONF (i : Nat) : Fld := ⟨0x300304C + 0x10 * i, 16, 4⟩
def F.FUS.ZONE_CFG_MIN (i : Nat) : Fld := ⟨0x300304C + 0x10 * i, 0, 8⟩
def F.FUS.FX (i : Nat) : Fld := ⟨0x3003100 + 0x80 * i, 0, 32⟩
def F.FUS.FY (i : Nat) : Fld := ⟨0x3003104 + 0x80 * i, 0, 32⟩
def F.FUS.CX (i : Nat) : Fld := ⟨0x3003108 + 0x80 * i, 0, 32⟩
def F.FUS.CY (i : Nat) : Fld := ⟨0x300310C + 0x80 * i, 0, 32⟩
def F.FUS.K1 (i : Nat) : Fld := ⟨0x3003110 + 0x80 * i, 0, 32⟩
def F.FUS.K2 (i : Nat) : Fld := ⟨0x3003114 + 0x80 * i, 0, 32⟩
def F.FUS.K3 (i : Nat) : Fld := ⟨0x3003118 + 0x80 * i, 0, 32⟩
def F.FUS.P1 (i : Nat) : Fld := ⟨0x300311C + 0x80 * i, 0, 32⟩
def F.FUS.P2 (i : Nat) : Fld := ⟨0x3003120 + 0x80 * i, 0, 32⟩
def F.FUS.R00 (i : Nat) : Fld := ⟨0x3003124 + 0x80 * i, 0, 32⟩
def F.FUS.R01 (i : Nat) : Fld := ⟨0x3003128 + 0x80 * i, 0, 32⟩
def F.FUS.R02 (i : Nat) : Fld := ⟨0x300312C + 0x80 * i, 0, 32⟩
def F.FUS.R10 (i : Nat) : Fld := ⟨0x3003130 + 0x80 * i, 0, 32⟩
def F.FUS.R11 (i : Nat) : Fld := ⟨0x3003134 + 0x80 * i, 0, 32⟩
def F.FUS.R12 (i : Nat) : Fld := ⟨0x3003138 + 0x80 * i, 0, 32⟩
def F.FUS.R20 (i : Nat) : Fld := ⟨0x300313C + 0x80 * i, 0, 32⟩
def F.FUS.R21 (i : Nat) : Fld := ⟨0x3003140 + 0x80 * i, 0, 32⟩
def F.FUS.R22 (i : Nat) : Fld := ⟨0x3003144 + 0x80 * i, 0, 32⟩
def F.FUS.T0 (i : Nat) : Fld := ⟨0x3003148 + 0x80 * i, 0, 32⟩
def F.FUS.T1 (i : Nat) : Fld := ⟨0x300314C + 0x80 * i, 0, 32⟩
def F.FUS.T2 (i : Nat) : Fld := ⟨0x3003150 + 0x80 * i, 0, 32⟩
def F.FUS.OVL_BASE_LO (i : Nat) : Fld := ⟨0x3003160 + 0x80 * i, 0, 32⟩
def F.FUS.OVL_BASE_HI (i : Nat) : Fld := ⟨0x3003164 + 0x80 * i, 0, 32⟩
def F.FUS.EL (i : Nat) : Fld := ⟨0x3004000 + 0x4 * i, 0, 32⟩
-- Display
def F.DSP.DISP_CTRL_COMMIT_REQ (n : Nat) : Fld := ⟨0x3100000 + 0x400 * n, 0, 1⟩
def F.DSP.DISP_STAT_LAYER_ERR (n : Nat) : Fld := ⟨0x3100004 + 0x400 * n, 4, 1⟩
def F.DSP.DISP_STAT_LOCKED (n : Nat) : Fld := ⟨0x3100004 + 0x400 * n, 3, 1⟩
def F.DSP.DISP_STAT_LINK_OK (n : Nat) : Fld := ⟨0x3100004 + 0x400 * n, 2, 1⟩
def F.DSP.DISP_STAT_CONFIGURED (n : Nat) : Fld := ⟨0x3100004 + 0x400 * n, 1, 1⟩
def F.DSP.DISP_STAT_RUNNING (n : Nat) : Fld := ⟨0x3100004 + 0x400 * n, 0, 1⟩
def F.DSP.DISP_CFG_STALE_MS (n : Nat) : Fld := ⟨0x3100008 + 0x400 * n, 16, 16⟩
def F.DSP.DISP_CFG_OVL_AGE (n : Nat) : Fld := ⟨0x3100008 + 0x400 * n, 8, 4⟩
def F.DSP.LAT_TOL (n : Nat) : Fld := ⟨0x3100010 + 0x400 * n, 0, 32⟩
def F.DSP.LOCK_ERR (n : Nat) : Fld := ⟨0x3100014 + 0x400 * n, 0, 32⟩
def F.DSP.FRAMES (n : Nat) : Fld := ⟨0x3100020 + 0x400 * n, 0, 32⟩
def F.DSP.REPEATS (n : Nat) : Fld := ⟨0x3100024 + 0x400 * n, 0, 32⟩
def F.DSP.MISSED_COMMITS (n : Nat) : Fld := ⟨0x3100028 + 0x400 * n, 0, 32⟩
def F.DSP.SUPERSEDED (n : Nat) : Fld := ⟨0x310002C + 0x400 * n, 0, 32⟩
def F.DSP.UNDERRUNS (n : Nat) : Fld := ⟨0x3100030 + 0x400 * n, 0, 32⟩
def F.DSP.OVL_HIDDEN (n : Nat) : Fld := ⟨0x3100034 + 0x400 * n, 0, 32⟩
def F.DSP.LINK_DOWN (n : Nat) : Fld := ⟨0x3100038 + 0x400 * n, 0, 32⟩
def F.DSP.STALE_FLIPS (n : Nat) : Fld := ⟨0x310003C + 0x400 * n, 0, 32⟩
def F.DSP.DISP_FLIP_ST (n : Nat) : Fld := ⟨0x3100040 + 0x400 * n, 0, 32⟩
def F.DSP.FRAME (n : Nat) : Fld := ⟨0x3100044 + 0x400 * n, 0, 32⟩
def F.DSP.FLIP_TIME_LO (n : Nat) : Fld := ⟨0x3100048 + 0x400 * n, 0, 32⟩
def F.DSP.FLIP_TIME_HI (n : Nat) : Fld := ⟨0x310004C + 0x400 * n, 0, 32⟩
def F.DSP.CAM_FRAME (n : Nat) : Fld := ⟨0x3100050 + 0x400 * n, 0, 32⟩
def F.DSP.OVL_FRAME (n : Nat) : Fld := ⟨0x3100054 + 0x400 * n, 0, 32⟩
def F.DSP.COMMITTED (n : Nat) : Fld := ⟨0x3100058 + 0x400 * n, 7, 1⟩
def F.DSP.STALE (n : Nat) : Fld := ⟨0x3100058 + 0x400 * n, 6, 1⟩
def F.DSP.LINK_DOWN_58 (n : Nat) : Fld := ⟨0x3100058 + 0x400 * n, 5, 1⟩
def F.DSP.LAYER_ERR (n : Nat) : Fld := ⟨0x3100058 + 0x400 * n, 4, 1⟩
def F.DSP.OVL_HIDDEN_58 (n : Nat) : Fld := ⟨0x3100058 + 0x400 * n, 3, 1⟩
def F.DSP.PREV_UNDERRUN (n : Nat) : Fld := ⟨0x3100058 + 0x400 * n, 2, 1⟩
def F.DSP.MISSED (n : Nat) : Fld := ⟨0x3100058 + 0x400 * n, 1, 1⟩
def F.DSP.REPEAT (n : Nat) : Fld := ⟨0x3100058 + 0x400 * n, 0, 1⟩
def F.DSP.TIMING (n i : Nat) : Fld := ⟨0x3100080 + 0x400 * n + 0x4 * i, 0, 32⟩
def F.DSP.LAYER (n i : Nat) : Fld := ⟨0x31000A0 + 0x400 * n + 0x4 * i, 0, 32⟩
-- Oazil port
def F.OZ.LINK_CTRL_FOM_WARN (n : Nat) : Fld := ⟨0x4000000 + 0x400 * n, 24, 8⟩
def F.OZ.LINK_CTRL_FOM_MIN (n : Nat) : Fld := ⟨0x4000000 + 0x400 * n, 16, 8⟩
def F.OZ.LINK_CTRL_ADAPT_MAX (n : Nat) : Fld := ⟨0x4000000 + 0x400 * n, 8, 8⟩
def F.OZ.LINK_CTRL_TARGET (n : Nat) : Fld := ⟨0x4000000 + 0x400 * n, 2, 2⟩
def F.OZ.LINK_CTRL_AUTO_RETRAIN (n : Nat) : Fld := ⟨0x4000000 + 0x400 * n, 1, 1⟩
def F.OZ.LINK_CTRL_AUTO_START (n : Nat) : Fld := ⟨0x4000000 + 0x400 * n, 0, 1⟩
def F.OZ.LINK_STAT_FOM_TX (n : Nat) : Fld := ⟨0x4000004 + 0x400 * n, 24, 8⟩
def F.OZ.LINK_STAT_FOM_RX (n : Nat) : Fld := ⟨0x4000004 + 0x400 * n, 16, 8⟩
def F.OZ.LINK_STAT_LAST_FAIL (n : Nat) : Fld := ⟨0x4000004 + 0x400 * n, 8, 8⟩
def F.OZ.LINK_STAT_RATE (n : Nat) : Fld := ⟨0x4000004 + 0x400 * n, 4, 4⟩
def F.OZ.LINK_STAT_STATE (n : Nat) : Fld := ⟨0x4000004 + 0x400 * n, 0, 2⟩
def F.OZ.LANE_FOM (n i : Nat) : Fld := ⟨0x4000010 + 0x400 * n + 0x4 * i, 24, 8⟩
def F.OZ.LANE_RX_EQ (n i : Nat) : Fld := ⟨0x4000010 + 0x400 * n + 0x4 * i, 8, 4⟩
def F.OZ.LANE_TX_EQ (n i : Nat) : Fld := ⟨0x4000010 + 0x400 * n + 0x4 * i, 0, 3⟩
def F.OZ.TRAINS (n : Nat) : Fld := ⟨0x4000040 + 0x400 * n, 0, 32⟩
def F.OZ.TRAIN_FAILS (n : Nat) : Fld := ⟨0x4000044 + 0x400 * n, 0, 32⟩
def F.OZ.RETRAINS (n : Nat) : Fld := ⟨0x4000048 + 0x400 * n, 0, 32⟩
def F.OZ.CRC_RX (n : Nat) : Fld := ⟨0x400004C + 0x400 * n, 0, 32⟩
def F.OZ.BLOCKS_TX (n : Nat) : Fld := ⟨0x4000050 + 0x400 * n, 0, 32⟩
def F.OZ.BLOCKS_RX (n : Nat) : Fld := ⟨0x4000054 + 0x400 * n, 0, 32⟩
def F.OZ.FLUSHED (n : Nat) : Fld := ⟨0x4000058 + 0x400 * n, 0, 32⟩
def F.OZ.AUX_ERR (n : Nat) : Fld := ⟨0x400005C + 0x400 * n, 0, 32⟩
def F.OZ.CREDIT_LIMIT (n i : Nat) : Fld := ⟨0x4000080 + 0x400 * n + 0x8 * i, 0, 32⟩
def F.OZ.BLOCKS_SENT (n i : Nat) : Fld := ⟨0x4000084 + 0x400 * n + 0x8 * i, 0, 32⟩
-- Ethernet
def F.ETH.ETH_STAT_SPEED_ERR : Fld := ⟨0x4001000, 2, 1⟩
def F.ETH.ETH_STAT_AN_DONE : Fld := ⟨0x4001000, 1, 1⟩
def F.ETH.ETH_STAT_LINK : Fld := ⟨0x4001000, 0, 1⟩
def F.ETH.MAC_HI : Fld := ⟨0x4001004, 0, 16⟩
def F.ETH.MAC_LO : Fld := ⟨0x4001008, 0, 32⟩
def F.ETH.IP_ADDR : Fld := ⟨0x400100C, 0, 32⟩
def F.ETH.IP_MASK : Fld := ⟨0x4001010, 0, 32⟩
def F.ETH.IP_GW : Fld := ⟨0x4001014, 0, 32⟩
def F.ETH.VLAN : Fld := ⟨0x4001018, 0, 16⟩
def F.ETH.STREAM_ROUTE : Fld := ⟨0x4001020, 1, 7⟩
def F.ETH.STREAM_DEST_IP : Fld := ⟨0x4001024, 0, 32⟩
def F.ETH.STREAM_DEST_PORT : Fld := ⟨0x4001028, 0, 16⟩
def F.ETH.ETH_LAT_LAT_TX : Fld := ⟨0x400102C, 16, 16⟩
def F.ETH.ETH_LAT_LAT_RX : Fld := ⟨0x400102C, 0, 16⟩
def F.ETH.RX_FRAMES : Fld := ⟨0x4001040, 0, 32⟩
def F.ETH.RX_FCS_ERR : Fld := ⟨0x4001044, 0, 32⟩
def F.ETH.RX_DISCARD : Fld := ⟨0x4001048, 0, 32⟩
def F.ETH.TX_FRAMES : Fld := ⟨0x400104C, 0, 32⟩
def F.ETH.PAUSE_RX : Fld := ⟨0x4001050, 0, 32⟩
def F.ETH.ICMP_ECHO : Fld := ⟨0x4001054, 0, 32⟩
def F.ETH.DGRAM_TX : Fld := ⟨0x4001058, 0, 32⟩
def F.ETH.CREDIT_RX : Fld := ⟨0x400105C, 0, 32⟩
def F.ETH.DCREDIT (i : Nat) : Fld := ⟨0x4001080 + 0x4 * i, 0, 32⟩
def F.ETH.DGRAM_SENT (i : Nat) : Fld := ⟨0x40010A0 + 0x4 * i, 0, 32⟩
-- Time base
def F.TB.TB_TIME_LO : Fld := ⟨0x4002008, 0, 32⟩
def F.TB.TB_TIME_HI : Fld := ⟨0x400200C, 0, 32⟩
def F.TB.TB_CTRL_STEP_THRESH : Fld := ⟨0x4002010, 16, 16⟩
def F.TB.TB_CTRL_MODE : Fld := ⟨0x4002010, 0, 2⟩
def F.TB.TB_STAT_GM_PRESENT : Fld := ⟨0x4002014, 7, 1⟩
def F.TB.TB_STAT_AS_CAPABLE : Fld := ⟨0x4002014, 6, 1⟩
def F.TB.TB_STAT_STATE : Fld := ⟨0x4002014, 0, 4⟩
def F.TB.LOCK_BAND : Fld := ⟨0x4002018, 16, 16⟩
def F.TB.PDELAY_THRESH : Fld := ⟨0x4002018, 0, 16⟩
def F.TB.GM_ID_HI : Fld := ⟨0x400201C, 0, 32⟩
def F.TB.GM_ID_LO : Fld := ⟨0x4002020, 0, 32⟩
def F.TB.STEP_LAST : Fld := ⟨0x4002024, 0, 32⟩
def F.TB.TB_RES_ST : Fld := ⟨0x4002040, 0, 32⟩
def F.TB.OFFSET : Fld := ⟨0x4002044, 0, 32⟩
def F.TB.ADJ : Fld := ⟨0x4002048, 0, 32⟩
def F.TB.MEAN_LINK_DELAY : Fld := ⟨0x400204C, 0, 32⟩
def F.TB.SYNC_RX_LO : Fld := ⟨0x4002050, 0, 32⟩
def F.TB.SYNC_RX_HI : Fld := ⟨0x4002054, 0, 32⟩
def F.TB.SYNC_RX : Fld := ⟨0x4002060, 0, 32⟩
def F.TB.FOLLOWUP_MISS : Fld := ⟨0x4002064, 0, 32⟩
def F.TB.PDELAY_TX : Fld := ⟨0x4002068, 0, 32⟩
def F.TB.PDELAY_FAIL : Fld := ⟨0x400206C, 0, 32⟩
def F.TB.STEPS : Fld := ⟨0x4002070, 0, 32⟩
-- SYNC
def F.SYN.SYNC_CTRL_ROLE : Fld := ⟨0x4003000, 0, 2⟩
def F.SYN.SLOT_OFFSET : Fld := ⟨0x4003004, 0, 32⟩
def F.SYN.SYNC_TUNE_SYNC_DELAY : Fld := ⟨0x4003008, 16, 16⟩
def F.SYN.SYNC_TUNE_ADJ_MAX : Fld := ⟨0x4003008, 0, 8⟩
def F.SYN.SYNC_STAT_FRAME_ERR : Fld := ⟨0x400300C, 3, 1⟩
def F.SYN.SYNC_STAT_LOST : Fld := ⟨0x400300C, 2, 1⟩
def F.SYN.SYNC_STAT_LOCKED : Fld := ⟨0x400300C, 1, 1⟩
def F.SYN.SYNC_STAT_SEEN : Fld := ⟨0x400300C, 0, 1⟩
def F.SYN.SYNC_RES_ST : Fld := ⟨0x4003010, 0, 32⟩
def F.SYN.ERR_E : Fld := ⟨0x4003014, 0, 32⟩
def F.SYN.FREQ_F : Fld := ⟨0x4003018, 0, 32⟩
def F.SYN.PULSES_COLUMN : Fld := ⟨0x4003020, 0, 32⟩
def F.SYN.PULSES_FRAME : Fld := ⟨0x4003024, 0, 32⟩
def F.SYN.PULSES_FILTER : Fld := ⟨0x4003028, 0, 32⟩
def F.SYN.PULSES_BAD : Fld := ⟨0x400302C, 0, 32⟩
-- Memory controller
def F.MEM.MEM_CFG_DEEP_EN : Fld := ⟨0x4100000, 1, 1⟩
def F.MEM.MEM_CFG_SR_EN : Fld := ⟨0x4100000, 0, 1⟩
def F.MEM.MEM_STAT_SIZE : Fld := ⟨0x4100004, 5, 3⟩
def F.MEM.MEM_STAT_CFG_ERR : Fld := ⟨0x4100004, 4, 1⟩
def F.MEM.MEM_STAT_DEEP : Fld := ⟨0x4100004, 3, 1⟩
def F.MEM.MEM_STAT_SR : Fld := ⟨0x4100004, 2, 1⟩
def F.MEM.MEM_STAT_REFUSING : Fld := ⟨0x4100004, 1, 1⟩
def F.MEM.MEM_STAT_TRAINED : Fld := ⟨0x4100004, 0, 1⟩
def F.MEM.LAT_CFG_SR_WAKE : Fld := ⟨0x4100008, 16, 16⟩
def F.MEM.LAT_CFG_LAT_URGENT : Fld := ⟨0x4100008, 0, 16⟩
def F.MEM.SR_CFG_SR_ENTER : Fld := ⟨0x410000C, 16, 16⟩
def F.MEM.SR_CFG_SR_IDLE : Fld := ⟨0x410000C, 0, 16⟩
def F.MEM.SR_EXIT : Fld := ⟨0x4100010, 0, 16⟩
def F.MEM.C2_WAIT : Fld := ⟨0x4100014, 24, 8⟩
def F.MEM.DLY_THR : Fld := ⟨0x4100014, 0, 16⟩
def F.MEM.C5_CFG_C5_BACKLOG : Fld := ⟨0x4100018, 16, 16⟩
def F.MEM.C5_CFG_C5_RATE : Fld := ⟨0x4100018, 0, 14⟩
def F.MEM.SERVED (i : Nat) : Fld := ⟨0x4100040 + 0xC * i, 0, 32⟩
def F.MEM.DELAYED (i : Nat) : Fld := ⟨0x4100044 + 0xC * i, 0, 32⟩
def F.MEM.REFUSED (i : Nat) : Fld := ⟨0x4100048 + 0xC * i, 0, 32⟩
def F.MEM.MEM_REF_ST : Fld := ⟨0x41000A0, 0, 32⟩
def F.MEM.SOURCE : Fld := ⟨0x41000A4, 8, 8⟩
def F.MEM.CLASS : Fld := ⟨0x41000A4, 0, 3⟩
def F.MEM.TIME_LO : Fld := ⟨0x41000A8, 0, 32⟩
def F.MEM.TIME_HI : Fld := ⟨0x41000AC, 0, 32⟩
def F.MEM.LECC_CE : Fld := ⟨0x41000C0, 0, 32⟩
def F.MEM.LECC_UE : Fld := ⟨0x41000C4, 0, 32⟩
def F.MEM.SR_ENTRIES : Fld := ⟨0x41000C8, 0, 32⟩
def F.MEM.SR_TIME : Fld := ⟨0x41000CC, 0, 32⟩
-- Safety (locked)
def F.SAF.SAFE_STAT_LOCKOUT : Fld := ⟨0x5000000, 7, 1⟩
def F.SAF.SAFE_STAT_PENDING_REBOOT : Fld := ⟨0x5000000, 6, 1⟩
def F.SAF.SAFE_STAT_SESSION : Fld := ⟨0x5000000, 5, 1⟩
def F.SAF.SAFE_STAT_CFG_COPY : Fld := ⟨0x5000000, 4, 1⟩
def F.SAF.SAFE_STAT_RANGING_VALID : Fld := ⟨0x5000000, 3, 1⟩
def F.SAF.SAFE_STAT_STATE : Fld := ⟨0x5000000, 0, 2⟩
def F.SAF.SAFE_OUT_RESET_REQ : Fld := ⟨0x5000004, 12, 4⟩
def F.SAF.SAFE_OUT_FAULT : Fld := ⟨0x5000004, 8, 4⟩
def F.SAF.SAFE_OUT_WAIT : Fld := ⟨0x5000004, 4, 4⟩
def F.SAF.SAFE_OUT_ON : Fld := ⟨0x5000004, 0, 4⟩
def F.SAF.SAFE_FIELD_EN : Fld := ⟨0x5000008, 16, 16⟩
def F.SAF.SAFE_FIELD_VIOL : Fld := ⟨0x5000008, 0, 16⟩
def F.SAF.SAFE_IN_FAULT : Fld := ⟨0x500000C, 16, 8⟩
def F.SAF.SAFE_IN_DISC : Fld := ⟨0x500000C, 8, 8⟩
def F.SAF.SAFE_IN_RUN : Fld := ⟨0x500000C, 0, 8⟩
def F.SAF.SAFE_FAULT_FIRST : Fld := ⟨0x5000010, 16, 8⟩
def F.SAF.SAFE_FAULT_CAUSE : Fld := ⟨0x5000010, 0, 16⟩
def F.SAF.SAFE_INVALID_CAUSE : Fld := ⟨0x5000014, 0, 8⟩
def F.SAF.NONCE : Fld := ⟨0x5000018, 0, 32⟩
def F.SAF.CFG_CRC : Fld := ⟨0x500001C, 0, 32⟩
def F.SAF.GENERATION : Fld := ⟨0x5000020, 0, 32⟩
def F.SAF.STAGE_CRC : Fld := ⟨0x5000024, 0, 32⟩
def F.SAF.FIELD_RESP (i : Nat) : Fld := ⟨0x5000040 + 0x4 * i, 0, 32⟩
def F.SAF.FIELD_COLS_K_HI (i : Nat) : Fld := ⟨0x5000080 + 0x4 * i, 16, 16⟩
def F.SAF.FIELD_COLS_K_LO (i : Nat) : Fld := ⟨0x5000080 + 0x4 * i, 0, 16⟩
def F.SAF.FIELD_TRIPS : Fld := ⟨0x5000100, 0, 32⟩
def F.SAF.INVALID_EPISODES : Fld := ⟨0x5000104, 0, 32⟩
def F.SAF.TP_DONE : Fld := ⟨0x5000108, 0, 32⟩
def F.SAF.TP_SKIPPED : Fld := ⟨0x500010C, 0, 32⟩
def F.SAF.RESETS_ACCEPTED : Fld := ⟨0x5000110, 0, 32⟩
def F.SAF.RESETS_REJECTED : Fld := ⟨0x5000114, 0, 32⟩
def F.SAF.CRED_FAIL : Fld := ⟨0x5000118, 0, 32⟩
def F.SAF.COLS_EVAL : Fld := ⟨0x500011C, 0, 32⟩
def F.SAF.PARAM_NUM (i : Nat) : Fld := ⟨0x5000400 + 0x8 * i, 0, 32⟩
def F.SAF.PARAM_VAL (i : Nat) : Fld := ⟨0x5000404 + 0x8 * i, 0, 32⟩
def F.SAF.FIELD_BLK0 (i : Nat) : Fld := ⟨0x5001000 + 0x4 * i, 0, 32⟩
def F.SAF.FIELD_BLK1 (i : Nat) : Fld := ⟨0x5001110 + 0x4 * i, 0, 32⟩
def F.SAF.FIELD_BLK2 (i : Nat) : Fld := ⟨0x5001220 + 0x4 * i, 0, 32⟩
def F.SAF.FIELD_BLK3 (i : Nat) : Fld := ⟨0x5001330 + 0x4 * i, 0, 32⟩
def F.SAF.FIELD_BLK4 (i : Nat) : Fld := ⟨0x5001440 + 0x4 * i, 0, 32⟩
def F.SAF.FIELD_BLK5 (i : Nat) : Fld := ⟨0x5001550 + 0x4 * i, 0, 32⟩
def F.SAF.FIELD_BLK6 (i : Nat) : Fld := ⟨0x5001660 + 0x4 * i, 0, 32⟩
def F.SAF.FIELD_BLK7 (i : Nat) : Fld := ⟨0x5001770 + 0x4 * i, 0, 32⟩
def F.SAF.FIELD_BLK8 (i : Nat) : Fld := ⟨0x5001880 + 0x4 * i, 0, 32⟩
def F.SAF.FIELD_BLK9 (i : Nat) : Fld := ⟨0x5001990 + 0x4 * i, 0, 32⟩
def F.SAF.FIELD_BLK10 (i : Nat) : Fld := ⟨0x5001AA0 + 0x4 * i, 0, 32⟩
def F.SAF.FIELD_BLK11 (i : Nat) : Fld := ⟨0x5001BB0 + 0x4 * i, 0, 32⟩
def F.SAF.FIELD_BLK12 (i : Nat) : Fld := ⟨0x5001CC0 + 0x4 * i, 0, 32⟩
def F.SAF.FIELD_BLK13 (i : Nat) : Fld := ⟨0x5001DD0 + 0x4 * i, 0, 32⟩
def F.SAF.FIELD_BLK14 (i : Nat) : Fld := ⟨0x5001EE0 + 0x4 * i, 0, 32⟩
def F.SAF.FIELD_BLK15 (i : Nat) : Fld := ⟨0x5001FF0 + 0x4 * i, 0, 32⟩
-- Housekeeping
def F.HK.HK_CFG_CONV_EN : Fld := ⟨0x6000000, 16, 1⟩
def F.HK.HK_CFG_F_INT : Fld := ⟨0x6000000, 0, 16⟩
def F.HK.HK_STAT_SLOT : Fld := ⟨0x6000004, 8, 4⟩
def F.HK.HK_STAT_CONV_FAULT : Fld := ⟨0x6000004, 4, 1⟩
def F.HK.HK_STAT_URGENT_PEND : Fld := ⟨0x6000004, 3, 1⟩
def F.HK.HK_STAT_TEST_ROUND : Fld := ⟨0x6000004, 2, 1⟩
def F.HK.HK_STAT_STARTING : Fld := ⟨0x6000004, 1, 1⟩
def F.HK.HK_STAT_RUNNING : Fld := ⟨0x6000004, 0, 1⟩
def F.HK.ROUNDS : Fld := ⟨0x6000008, 0, 32⟩
def F.HK.SENSOR_STAT_SUSPECT_LAST : Fld := ⟨0x600000C, 8, 4⟩
def F.HK.SENSOR_STAT_SHORT : Fld := ⟨0x600000C, 4, 4⟩
def F.HK.SENSOR_STAT_OPEN : Fld := ⟨0x600000C, 0, 4⟩
def F.HK.REF_CHECK_NOM : Fld := ⟨0x6000010, 0, 32⟩
def F.HK.HK_SLOT_CFG_EN (i : Nat) : Fld := ⟨0x6000040 + 0x4 * i, 31, 1⟩
def F.HK.HK_SLOT_CFG_REF (i : Nat) : Fld := ⟨0x6000040 + 0x4 * i, 20, 2⟩
def F.HK.HK_SLOT_CFG_CURVE (i : Nat) : Fld := ⟨0x6000040 + 0x4 * i, 16, 4⟩
def F.HK.HK_SLOT_CFG_INPUT (i : Nat) : Fld := ⟨0x6000040 + 0x4 * i, 0, 8⟩
def F.HK.HK_DATA_ST : Fld := ⟨0x6000080, 0, 32⟩
def F.HK.HK_DATA_INFO_SLOT : Fld := ⟨0x6000084, 28, 4⟩
def F.HK.HK_DATA_INFO_INPUT : Fld := ⟨0x6000084, 8, 8⟩
def F.HK.HK_DATA_INFO_FLAGS : Fld := ⟨0x6000084, 0, 7⟩
def F.HK.VALUE : Fld := ⟨0x6000088, 0, 32⟩
def F.HK.RAW : Fld := ⟨0x600008C, 0, 32⟩
def F.HK.TIME_LO : Fld := ⟨0x6000090, 0, 32⟩
def F.HK.TIME_HI : Fld := ⟨0x6000094, 0, 32⟩
def F.HK.SLOT_ST (i : Nat) : Fld := ⟨0x6000100 + 0x20 * i, 0, 32⟩
def F.HK.SLOT_INFO (i : Nat) : Fld := ⟨0x6000104 + 0x20 * i, 0, 32⟩
def F.HK.SLOT_VALUE (i : Nat) : Fld := ⟨0x6000108 + 0x20 * i, 0, 32⟩
def F.HK.SLOT_RAW (i : Nat) : Fld := ⟨0x600010C + 0x20 * i, 0, 32⟩
def F.HK.SLOT_TIME_LO (i : Nat) : Fld := ⟨0x6000110 + 0x20 * i, 0, 32⟩
def F.HK.SLOT_TIME_HI (i : Nat) : Fld := ⟨0x6000114 + 0x20 * i, 0, 32⟩
def F.HK.CONVERSIONS : Fld := ⟨0x6000300, 0, 32⟩
def F.HK.URGENT_DONE : Fld := ⟨0x6000304, 0, 32⟩
def F.HK.SENSOR_FAULTS : Fld := ⟨0x6000308, 0, 32⟩
def F.HK.SUSPECTS : Fld := ⟨0x600030C, 0, 32⟩
def F.HK.OVERRUNS : Fld := ⟨0x6000310, 0, 32⟩
def F.HK.CONV_FAULTS : Fld := ⟨0x6000314, 0, 32⟩
def F.HK.SH_A (i : Nat) : Fld := ⟨0x6000380 + 0x10 * i, 0, 32⟩
def F.HK.SH_B (i : Nat) : Fld := ⟨0x6000384 + 0x10 * i, 0, 32⟩
def F.HK.SH_C (i : Nat) : Fld := ⟨0x6000388 + 0x10 * i, 0, 32⟩
def F.TIA.TIA_CFG_EN (m : Nat) : Fld := ⟨0x6000400 + 0x80 * m, 31, 1⟩
def F.TIA.TIA_CFG_ROLE (m : Nat) : Fld := ⟨0x6000400 + 0x80 * m, 30, 1⟩
def F.TIA.TIA_CFG_AUTO_RANGE (m : Nat) : Fld := ⟨0x6000400 + 0x80 * m, 29, 1⟩
def F.TIA.TIA_CFG_RANGE (m : Nat) : Fld := ⟨0x6000400 + 0x80 * m, 24, 3⟩
def F.TIA.TIA_CFG_PRESET (m : Nat) : Fld := ⟨0x6000400 + 0x80 * m, 16, 2⟩
def F.TIA.THR_HI (m : Nat) : Fld := ⟨0x6000404 + 0x80 * m, 0, 32⟩
def F.TIA.THR_LO (m : Nat) : Fld := ⟨0x6000408 + 0x80 * m, 0, 32⟩
def F.TIA.TIA_THR_CFG_HI_EN (m : Nat) : Fld := ⟨0x600040C + 0x80 * m, 31, 1⟩
def F.TIA.TIA_THR_CFG_LO_EN (m : Nat) : Fld := ⟨0x600040C + 0x80 * m, 30, 1⟩
def F.TIA.TIA_THR_CFG_HYST (m : Nat) : Fld := ⟨0x600040C + 0x80 * m, 8, 16⟩
def F.TIA.TIA_THR_CFG_N (m : Nat) : Fld := ⟨0x600040C + 0x80 * m, 0, 8⟩
def F.TIA.TIA_STAT_LOW (m : Nat) : Fld := ⟨0x6000410 + 0x80 * m, 4, 1⟩
def F.TIA.TIA_STAT_HIGH (m : Nat) : Fld := ⟨0x6000410 + 0x80 * m, 3, 1⟩
def F.TIA.TIA_STAT_OVL (m : Nat) : Fld := ⟨0x6000410 + 0x80 * m, 2, 1⟩
def F.TIA.TIA_STAT_SETTLING (m : Nat) : Fld := ⟨0x6000410 + 0x80 * m, 1, 1⟩
def F.TIA.TIA_RES_ST (m : Nat) : Fld := ⟨0x6000420 + 0x80 * m, 0, 32⟩
def F.TIA.VALUE (m : Nat) : Fld := ⟨0x6000424 + 0x80 * m, 0, 32⟩
def F.TIA.SAMPLE (m : Nat) : Fld := ⟨0x6000428 + 0x80 * m, 0, 32⟩
def F.TIA.PRESET (m : Nat) : Fld := ⟨0x600042C + 0x80 * m, 12, 2⟩
def F.TIA.RANGE (m : Nat) : Fld := ⟨0x600042C + 0x80 * m, 8, 3⟩
def F.TIA.FLAGS (m : Nat) : Fld := ⟨0x600042C + 0x80 * m, 0, 4⟩
def F.TIA.TIME_LO (m : Nat) : Fld := ⟨0x6000430 + 0x80 * m, 0, 32⟩
def F.TIA.TIME_HI (m : Nat) : Fld := ⟨0x6000434 + 0x80 * m, 0, 32⟩
def F.TIA.RESTARTS (m : Nat) : Fld := ⟨0x6000440 + 0x80 * m, 0, 32⟩
def F.TIA.SUPPRESSED (m : Nat) : Fld := ⟨0x6000444 + 0x80 * m, 0, 32⟩
def F.TIA.THR_EVENTS (m : Nat) : Fld := ⟨0x6000448 + 0x80 * m, 0, 32⟩
def F.HK.WM_CTRL_AUTO : Fld := ⟨0x6000600, 1, 1⟩
def F.HK.WM_CTRL_SRC : Fld := ⟨0x6000600, 0, 1⟩
def F.HK.WM_HALF : Fld := ⟨0x6000604, 0, 16⟩
def F.HK.WM_RES_ST : Fld := ⟨0x6000610, 0, 32⟩
def F.HK.LEVEL (i : Nat) : Fld := ⟨0x6000614 + 0x4 * i, 0, 32⟩
def F.HK.WM_SHORT : Fld := ⟨0x6000630, 0, 32⟩
def F.HK.AUX_CTRL_SAFE_CODE : Fld := ⟨0x6000700, 16, 16⟩
def F.HK.AUX_CTRL_SAFE_EN : Fld := ⟨0x6000700, 1, 1⟩
def F.HK.AUX_CTRL_SRC : Fld := ⟨0x6000700, 0, 1⟩
def F.HK.CODE : Fld := ⟨0x6000704, 0, 16⟩
def F.HK.AUX_STAT_AUX_FAULT : Fld := ⟨0x6000708, 0, 1⟩
-- Thermal
def F.TH.TH_STAT_FAULT_NTC : Fld := ⟨0x6001000, 8, 4⟩
def F.TH.TH_STAT_FAULT_HUB : Fld := ⟨0x6001000, 4, 4⟩
def F.TH.TH_STAT_CFG_ERR : Fld := ⟨0x6001000, 3, 1⟩
def F.TH.TH_STAT_WARN : Fld := ⟨0x6001000, 2, 1⟩
def F.TH.TH_STAT_LEVEL : Fld := ⟨0x6001000, 0, 2⟩
def F.TH.GOVERN : Fld := ⟨0x6001004, 0, 8⟩
def F.TH.TH_HUB_WARN : Fld := ⟨0x6001010, 24, 8⟩
def F.TH.TH_HUB_THR1 : Fld := ⟨0x6001010, 16, 8⟩
def F.TH.TH_HUB_THR2 : Fld := ⟨0x6001010, 8, 8⟩
def F.TH.TH_HUB_SHUT : Fld := ⟨0x6001010, 0, 8⟩
def F.TH.TH_TIME_FALL_T : Fld := ⟨0x6001014, 16, 16⟩
def F.TH.TH_TIME_HYST : Fld := ⟨0x6001014, 0, 5⟩
def F.TH.TH_NTC_THR_EN (i : Nat) : Fld := ⟨0x6001020 + 0x4 * i, 24, 1⟩
def F.TH.TH_NTC_WARN (i : Nat) : Fld := ⟨0x6001020 + 0x4 * i, 16, 8⟩
def F.TH.TH_NTC_THR1 (i : Nat) : Fld := ⟨0x6001020 + 0x4 * i, 8, 8⟩
def F.TH.TH_NTC_THR2 (i : Nat) : Fld := ⟨0x6001020 + 0x4 * i, 0, 8⟩
def F.TH.TH_RES_ST : Fld := ⟨0x6001040, 0, 32⟩
def F.TH.HUB1_HUB0 : Fld := ⟨0x6001044, 0, 32⟩
def F.TH.HUB3_HUB2 : Fld := ⟨0x6001048, 0, 32⟩
def F.TH.NTC1_NTC0 : Fld := ⟨0x600104C, 0, 32⟩
def F.TH.NTC3_NTC2 : Fld := ⟨0x6001050, 0, 32⟩
def F.TH.TIME_LO : Fld := ⟨0x6001054, 0, 32⟩
def F.TH.TIME_HI : Fld := ⟨0x6001058, 0, 32⟩
def F.TH.JMAX : Fld := ⟨0x6001060, 0, 16⟩
def F.TH.DIODE_FAULT : Fld := ⟨0x6001064, 0, 16⟩
def F.TH.WARN_EPISODES : Fld := ⟨0x6001080, 0, 32⟩
def F.TH.STEPS_UP : Fld := ⟨0x6001084, 0, 32⟩
def F.TH.STEPS_DOWN : Fld := ⟨0x6001088, 0, 32⟩
def F.TH.THROTTLE_MS : Fld := ⟨0x600108C, 0, 32⟩
-- Calibration
def F.CAL.CAL_CTRL_CAL_DT : Fld := ⟨0x6001800, 8, 8⟩
def F.CAL.CAL_CTRL_AUTO : Fld := ⟨0x6001800, 0, 1⟩
def F.CAL.CAL_STAT_DUE : Fld := ⟨0x6001804, 8, 4⟩
def F.CAL.CAL_STAT_FLASH_ERR : Fld := ⟨0x6001804, 3, 1⟩
def F.CAL.CAL_STAT_REJECTED : Fld := ⟨0x6001804, 2, 1⟩
def F.CAL.CAL_STAT_STEPPING : Fld := ⟨0x6001804, 1, 1⟩
def F.CAL.CAL_STAT_BUSY : Fld := ⟨0x6001804, 0, 1⟩
def F.CAL.CAL_GEN : Fld := ⟨0x6001808, 0, 32⟩
def F.CAL.CAL_T_TDC : Fld := ⟨0x600180C, 0, 16⟩
def F.CAL.VBD25_FACTORY : Fld := ⟨0x6001810, 16, 16⟩
def F.CAL.CAL_RES_ST : Fld := ⟨0x6001820, 0, 32⟩
def F.CAL.DETAIL : Fld := ⟨0x6001824, 24, 8⟩
def F.CAL.STATUS : Fld := ⟨0x6001824, 16, 8⟩
def F.CAL.ITEM : Fld := ⟨0x6001824, 0, 16⟩
def F.CAL.TIME_LO : Fld := ⟨0x6001828, 0, 32⟩
def F.CAL.TIME_HI : Fld := ⟨0x600182C, 0, 32⟩
def F.CAL.T_MEAN : Fld := ⟨0x6001830, 0, 16⟩
def F.CAL.RUNS : Fld := ⟨0x6001840, 0, 32⟩
def F.CAL.ACCEPTED : Fld := ⟨0x6001844, 0, 32⟩
def F.CAL.REJECTED : Fld := ⟨0x6001848, 0, 32⟩
def F.CAL.ABORTED : Fld := ⟨0x600184C, 0, 32⟩
-- Illuminator
def F.ILL.ILL_TIME_POST : Fld := ⟨0x6100000, 22, 10⟩
def F.ILL.ILL_TIME_PRE : Fld := ⟨0x6100000, 12, 10⟩
def F.ILL.ILL_TIME_SLICE : Fld := ⟨0x6100000, 0, 6⟩
def F.ILL.ILL_THERM_OFF : Fld := ⟨0x6100004, 0, 8⟩
def F.ILL.ILL_STAT_LIT : Fld := ⟨0x6100008, 4, 4⟩
def F.ILL.ILL_STAT_CFG_ERR : Fld := ⟨0x6100008, 1, 1⟩
def F.ILL.ILL_STAT_THERMAL : Fld := ⟨0x6100008, 0, 1⟩
def F.ILL.CEIL : Fld := ⟨0x610000C, 0, 16⟩
def F.ILS.ILL_STR_CFG_MODE (m : Nat) : Fld := ⟨0x6100100 + 0x40 * m, 1, 2⟩
def F.ILS.ILL_STR_CFG_EN (m : Nat) : Fld := ⟨0x6100100 + 0x40 * m, 0, 1⟩
def F.ILS.ILL_LEVEL_LEVEL (m : Nat) : Fld := ⟨0x6100104 + 0x40 * m, 0, 16⟩
def F.ILS.ILL_DRIVE_IMAX (m : Nat) : Fld := ⟨0x6100108 + 0x40 * m, 24, 8⟩
def F.ILS.ILL_DRIVE_VF_MAX (m : Nat) : Fld := ⟨0x6100108 + 0x40 * m, 12, 12⟩
def F.ILS.ILL_DRIVE_VF_MIN (m : Nat) : Fld := ⟨0x6100108 + 0x40 * m, 0, 12⟩
def F.ILS.ILL_STR_STAT_PROBE_LAST (m : Nat) : Fld := ⟨0x610010C + 0x40 * m, 6, 1⟩
def F.ILS.ILL_STR_STAT_NO_WINDOW (m : Nat) : Fld := ⟨0x610010C + 0x40 * m, 5, 1⟩
def F.ILS.ILL_STR_STAT_DEGRADED (m : Nat) : Fld := ⟨0x610010C + 0x40 * m, 4, 1⟩
def F.ILS.ILL_STR_STAT_REVERSED (m : Nat) : Fld := ⟨0x610010C + 0x40 * m, 3, 1⟩
def F.ILS.ILL_STR_STAT_SHORT (m : Nat) : Fld := ⟨0x610010C + 0x40 * m, 2, 1⟩
def F.ILS.ILL_STR_STAT_OPEN (m : Nat) : Fld := ⟨0x610010C + 0x40 * m, 1, 1⟩
def F.ILS.ILL_STR_STAT_PROBING (m : Nat) : Fld := ⟨0x610010C + 0x40 * m, 0, 1⟩
def F.ILS.ILL_RES_ST (m : Nat) : Fld := ⟨0x6100110 + 0x40 * m, 0, 32⟩
def F.ILS.L_EFF (m : Nat) : Fld := ⟨0x6100114 + 0x40 * m, 16, 16⟩
def F.ILS.V_STR (m : Nat) : Fld := ⟨0x6100114 + 0x40 * m, 0, 16⟩
def F.ILS.I_MEAN (m : Nat) : Fld := ⟨0x6100118 + 0x40 * m, 0, 16⟩
def F.ILS.TIME_LO (m : Nat) : Fld := ⟨0x610011C + 0x40 * m, 0, 32⟩
def F.ILS.TIME_HI (m : Nat) : Fld := ⟨0x6100120 + 0x40 * m, 0, 32⟩
def F.ILS.OC_CYCLES (m : Nat) : Fld := ⟨0x6100130 + 0x40 * m, 0, 32⟩
def F.ILS.PROBES (m : Nat) : Fld := ⟨0x6100134 + 0x40 * m, 0, 32⟩
def F.ILS.FAULTS (m : Nat) : Fld := ⟨0x6100138 + 0x40 * m, 0, 32⟩
def F.ILS.MISPREDICT (m : Nat) : Fld := ⟨0x610013C + 0x40 * m, 0, 32⟩
-- Fault manager
def F.FM.FM_STAT_RECOVERED : Fld := ⟨0x7000000, 3, 1⟩
def F.FM.FM_STAT_TIMER : Fld := ⟨0x7000000, 2, 1⟩
def F.FM.FM_STAT_CLASS : Fld := ⟨0x7000000, 0, 2⟩
def F.FM.FM_CFG_RECOVERY_T : Fld := ⟨0x7000004, 0, 14⟩
def F.FM.FL_COUNT : Fld := ⟨0x7000008, 0, 32⟩
def F.FM.FM_FIRST_VALID : Fld := ⟨0x7000010, 31, 1⟩
def F.FM.FM_FIRST_CLASS : Fld := ⟨0x7000010, 16, 2⟩
def F.FM.FM_FIRST_EVENT : Fld := ⟨0x7000010, 0, 8⟩
def F.FM.INSTANCE : Fld := ⟨0x7000014, 16, 16⟩
def F.FM.DATA : Fld := ⟨0x7000014, 0, 16⟩
def F.FM.TIME_LO : Fld := ⟨0x7000018, 0, 32⟩
def F.FM.TIME_HI : Fld := ⟨0x700001C, 0, 32⟩
def F.FM.INDEX : Fld := ⟨0x7000020, 0, 32⟩
def F.FM.FM_ACTIVE_ACTIVE (i : Nat) : Fld := ⟨0x7000040 + 0x4 * i, 0, 32⟩
def F.FM.FM_CLASS_CLASS (i : Nat) : Fld := ⟨0x7000100 + 0x4 * i, 0, 32⟩
def F.FM.FAULTS : Fld := ⟨0x7000300, 0, 32⟩
def F.FM.EMIT_OFF_EPISODES : Fld := ⟨0x7000304, 0, 32⟩
def F.FM.SAFE_HOLD_EPISODES : Fld := ⟨0x7000308, 0, 32⟩
def F.FM.RECOVERIES : Fld := ⟨0x700030C, 0, 32⟩
def F.FM.CLEAR_REFUSED : Fld := ⟨0x7000310, 0, 32⟩
-- Recorder
def F.REC.REC_STAT_SLOTS : Fld := ⟨0x7001000, 8, 4⟩
def F.REC.REC_STAT_STATE : Fld := ⟨0x7001000, 0, 3⟩
def F.REC.MISSED : Fld := ⟨0x7001004, 0, 32⟩
def F.REC.NO_SLOT : Fld := ⟨0x7001008, 0, 32⟩
def F.REC.CAPTURES : Fld := ⟨0x700100C, 0, 32⟩
def F.REC.REC_ARM (i : Nat) : Fld := ⟨0x7001040 + 0x4 * i, 0, 32⟩
-- Monitor
def F.MON.MON_CTRL_BAUD : Fld := ⟨0x7002000, 4, 2⟩
def F.MON.MON_CTRL_EN : Fld := ⟨0x7002000, 0, 1⟩
def F.MON.MON_STAT_EV_ON : Fld := ⟨0x7002004, 2, 1⟩
def F.MON.MON_STAT_LOCKOUT : Fld := ⟨0x7002004, 1, 1⟩
def F.MON.MON_STAT_SESSION : Fld := ⟨0x7002004, 0, 1⟩
def F.MON.LINES_RX : Fld := ⟨0x7002008, 0, 32⟩
def F.MON.AUTH_FAIL : Fld := ⟨0x700200C, 0, 32⟩
def F.MON.SESSIONS : Fld := ⟨0x7002010, 0, 32⟩
def F.MON.EV_LINES_LOST : Fld := ⟨0x7002014, 0, 32⟩

end Sys2Proof.Machine
end

