-- ==== Sys2Proof/Machine/RegTable.lean ====
section
/-! DEFINITION. The register tables of the spec, block by block (Table 20-1 and the register tables it names):
every field with its place, its access type of Table 0-5, its reset value and, where the table gives a range, its bounds.
A "cal" or "OTP" field for which the spec gives no number holds 0 here (notes/assumptions/4.md). -/

namespace Sys2Proof.Machine

/-- Rows of the block "Identity, power, reset, clocks" (Table 20-1), part 0. -/
def rowsSys0 : List RegRow := [
  ⟨0x0, 0x4, 1, [⟨24, 8, .ro, 0x48, 0, 0, []⟩, ⟨16, 8, .ro, 0x5a, 0, 0, []⟩, ⟨4, 12, .ro, 0x400, 0, 0, []⟩, ⟨0, 4, .ro, 1, 0, 0, []⟩]⟩,
  ⟨0x4, 0x4, 1, [⟨16, 8, .ro, 0x80, 0, 0, []⟩, ⟨8, 8, .ro, 8, 0, 0, []⟩, ⟨4, 4, .ro, 2, 0, 0, []⟩, ⟨0, 4, .ro, 2, 0, 0, []⟩]⟩,
  ⟨0x8, 0x4, 1, [⟨0, 32, .ro, 0, 0, 0, []⟩]⟩,
  ⟨0xC, 0x4, 1, [⟨0, 32, .ro, 0, 0, 0, []⟩]⟩,
  ⟨0x10, 0x4, 1, [⟨24, 8, .ro, 0, 0, 0, []⟩, ⟨16, 8, .ro, 0, 0, 0, []⟩, ⟨0, 16, .ro, 0, 0, 0, []⟩]⟩,
  ⟨0x14, 0x4, 1, [⟨0, 32, .ro, 0x1000000, 0, 0, []⟩]⟩,
  ⟨0x18, 0x4, 1, [⟨16, 16, .ro, 1, 0, 0, []⟩, ⟨0, 16, .ro, 0, 0, 0, []⟩]⟩,
  ⟨0x1C, 0x4, 1, [⟨8, 4, .ro, 0, 0, 0, []⟩, ⟨0, 7, .ro, 0, 0, 0, []⟩]⟩,
  ⟨0x100, 0x4, 1, [⟨8, 8, .ro, 0, 0, 0, []⟩, ⟨0, 3, .ro, 1, 0, 0, []⟩]⟩,
  ⟨0x110, 0x4, 1, [⟨0, 32, .rw, 0xffffffff, 0, 0, []⟩]⟩,
  ⟨0x114, 0x4, 1, [⟨0, 32, .rw, 0xffffffff, 0, 0, []⟩]⟩,
  ⟨0x118, 0x4, 1, [⟨3, 13, .rw, 0x1fff, 0, 0, []⟩, ⟨0, 3, .ro, 7, 0, 0, []⟩]⟩,
  ⟨0x120, 0x4, 1, [⟨0, 32, .ro, 0xffffffff, 0, 0, []⟩]⟩,
  ⟨0x124, 0x4, 1, [⟨0, 32, .ro, 0xffffffff, 0, 0, []⟩]⟩,
  ⟨0x128, 0x4, 1, [⟨0, 16, .ro, 0xffff, 0, 0, []⟩]⟩,
  ⟨0x140, 0x4, 1, [⟨16, 8, .ro, 0xff, 0, 0, []⟩, ⟨8, 1, .w1f, 0, 0, 0, []⟩, ⟨7, 1, .w1f, 0, 0, 0, []⟩, ⟨6, 1, .w1f, 0, 0, 0, []⟩, ⟨5, 1, .w1f, 0, 0, 0, []⟩, ⟨4, 1, .w1f, 0, 0, 0, []⟩, ⟨3, 1, .w1f, 0, 0, 0, []⟩, ⟨2, 1, .w1f, 0, 0, 0, []⟩, ⟨1, 1, .w1f, 1, 0, 0, []⟩]⟩,
  ⟨0x144, 0x4, 1, [⟨24, 8, .ro, 0, 0, 0, []⟩, ⟨16, 8, .ro, 0, 0, 0, []⟩, ⟨10, 2, .ro, 0, 0, 0, []⟩, ⟨8, 2, .ro, 3, 0, 0, []⟩, ⟨7, 1, .ro, 0, 0, 0, []⟩, ⟨6, 1, .ro, 1, 0, 0, []⟩, ⟨3, 2, .ro, 0, 0, 0, []⟩, ⟨0, 3, .ro, 0, 0, 0, []⟩]⟩,
  ⟨0x148, 0x4, 1, [⟨0, 32, .ro, 0, 0, 0, []⟩]⟩,
  ⟨0x14C, 0x4, 1, [⟨9, 1, .ro, 0, 0, 0, []⟩, ⟨8, 1, .ro, 0, 0, 0, []⟩, ⟨7, 1, .ro, 0, 0, 0, []⟩, ⟨6, 1, .ro, 0, 0, 0, []⟩, ⟨5, 1, .ro, 0, 0, 0, []⟩, ⟨4, 1, .ro, 0, 0, 0, []⟩, ⟨3, 1, .ro, 0, 0, 0, []⟩, ⟨2, 1, .ro, 0, 0, 0, []⟩, ⟨1, 1, .ro, 0, 0, 0, []⟩, ⟨0, 1, .ro, 0, 0, 0, []⟩]⟩,
  ⟨0x180, 0x4, 1, [⟨15, 1, .ro, 0, 0, 0, []⟩, ⟨0, 7, .ro, 0, 0, 0, []⟩]⟩,
  ⟨0x184, 0x4, 1, [⟨0, 16, .ro, 0, 0, 0, []⟩]⟩,
  ⟨0x188, 0x4, 1, [⟨0, 32, .w1n, 0, 0, 0, []⟩]⟩]

/-- Identity, power, reset, clocks: base, stride, instances and span of Table 20-1. -/
def blkSys : RegBlk := ⟨0x0, 0x1000, 1, 0x1000, rowsSys0⟩

/-- Rows of the block "Command engine and events" (Table 20-1), part 0. -/
def rowsCmd0 : List RegRow := [
  ⟨0x0, 0x4, 1, [⟨0, 32, .w1n, 0, 0, 0, []⟩]⟩,
  ⟨0x4, 0x4, 1, [⟨0, 32, .w1n, 0, 0, 0, []⟩]⟩,
  ⟨0x8, 0x4, 1, [⟨0, 32, .w1n, 0, 0, 0, []⟩]⟩,
  ⟨0xC, 0x4, 1, [⟨0, 32, .w1n, 0, 0, 0, []⟩]⟩,
  ⟨0x10, 0x4, 1, [⟨0, 32, .w1n, 0, 0, 0, []⟩]⟩,
  ⟨0x14, 0x4, 1, [⟨0, 32, .w1n, 0, 0, 0, []⟩]⟩,
  ⟨0x18, 0x4, 1, [⟨16, 16, .w1n, 0, 0, 0, []⟩, ⟨0, 16, .w1n, 0, 0, 0, []⟩]⟩,
  ⟨0x100, 0x4, 8, [⟨0, 32, .w1f, 0, 0, 0, []⟩]⟩,
  ⟨0x400, 0x4, 256, [⟨0, 32, .w1n, 0, 0, 0, []⟩]⟩]

/-- Command engine and events: base, stride, instances and span of Table 20-1. -/
def blkCmd : RegBlk := ⟨0x10000, 0x1000, 1, 0x1000, rowsCmd0⟩

/-- Rows of the block "String" (Table 20-1), part 0. -/
def rowsStr0 : List RegRow := [
  ⟨0x0, 0x4, 1, [⟨0, 1, .rw, 1, 0, 0, []⟩]⟩,
  ⟨0x4, 0x4, 1, [⟨16, 13, .rw, 0xfa0, 1000, 6000, []⟩, ⟨8, 4, .rw, 4, 0, 12, []⟩, ⟨0, 5, .rw, 0, 0, 0, []⟩]⟩,
  ⟨0x8, 0x4, 1, [⟨16, 6, .rw, 0xa, 2, 50, []⟩, ⟨0, 6, .rw, 5, 2, 50, []⟩]⟩,
  ⟨0x10, 0x4, 1, [⟨16, 13, .ro, 0xfa0, 0, 0, []⟩, ⟨8, 1, .ro, 1, 0, 0, []⟩, ⟨4, 1, .w1f, 0, 0, 0, []⟩, ⟨3, 1, .w1f, 0, 0, 0, []⟩, ⟨2, 1, .w1f, 0, 0, 0, []⟩, ⟨1, 1, .w1f, 0, 0, 0, []⟩]⟩,
  ⟨0x20, 0x4, 1, [⟨0, 32, .st, 0, 0, 0, []⟩]⟩,
  ⟨0x24, 0x4, 1, [⟨16, 13, .ro, 0, 0, 0, []⟩, ⟨0, 13, .ro, 0, 0, 0, []⟩]⟩,
  ⟨0x28, 0x4, 1, [⟨16, 16, .ro, 0, 0, 0, []⟩, ⟨0, 16, .ro, 0, 0, 0, []⟩]⟩,
  ⟨0x30, 0x4, 1, [⟨0, 32, .w1n, 0, 0, 0, []⟩]⟩,
  ⟨0x34, 0x4, 1, [⟨0, 32, .w1n, 0, 0, 0, []⟩]⟩,
  ⟨0x38, 0x4, 1, [⟨0, 32, .w1n, 0, 0, 0, []⟩]⟩,
  ⟨0x3C, 0x4, 1, [⟨0, 32, .w1n, 0, 0, 0, []⟩]⟩]

/-- String: base, stride, instances and span of Table 20-1. -/
def blkStr : RegBlk := ⟨0x20000, 0x100, 32, 0x100, rowsStr0⟩

/-- Rows of the block "Bank" (Table 20-1), part 0. -/
def rowsBnk0 : List RegRow := [
  ⟨0x0, 0x4, 1, [⟨4, 2, .ro, 0, 0, 0, []⟩, ⟨1, 1, .ro, 0, 0, 0, []⟩, ⟨0, 1, .ro, 0, 0, 0, []⟩]⟩,
  ⟨0x4, 0x4, 1, [⟨8, 4, .ro, 0xf, 0, 0, []⟩, ⟨2, 1, .ro, 0, 0, 0, []⟩, ⟨1, 1, .w1f, 0, 0, 0, []⟩, ⟨0, 1, .ro, 0, 0, 0, []⟩]⟩,
  ⟨0x10, 0x4, 1, [⟨0, 32, .w1n, 0, 0, 0, []⟩]⟩,
  ⟨0x14, 0x4, 1, [⟨0, 32, .w1n, 0, 0, 0, []⟩]⟩,
  ⟨0x18, 0x4, 1, [⟨0, 32, .w1n, 0, 0, 0, []⟩]⟩,
  ⟨0x1C, 0x4, 1, [⟨0, 32, .w1n, 0, 0, 0, []⟩]⟩,
  ⟨0x20, 0x4, 1, [⟨0, 32, .w1n, 0, 0, 0, []⟩]⟩,
  ⟨0x24, 0x4, 1, [⟨0, 32, .w1n, 0, 0, 0, []⟩]⟩,
  ⟨0x40, 0x4, 1, [⟨0, 32, .st, 0, 0, 0, []⟩]⟩,
  ⟨0x44, 0x4, 1, [⟨6, 1, .ro, 0, 0, 0, []⟩, ⟨0, 6, .ro, 0, 0, 0, []⟩]⟩,
  ⟨0x48, 0x4, 1, [⟨0, 32, .ro, 0, 0, 0, []⟩]⟩,
  ⟨0x4C, 0x4, 1, [⟨0, 32, .ro, 0, 0, 0, []⟩]⟩,
  ⟨0x50, 0x4, 1, [⟨8, 16, .ro, 0, 0, 0, []⟩, ⟨0, 8, .ro, 0, 0, 0, []⟩]⟩]

/-- Bank: base, stride, instances and span of Table 20-1. -/
def blkBnk : RegBlk := ⟨0x24000, 0x80, 8, 0x80, rowsBnk0⟩

/-- Rows of the block "Shot scheduler" (Table 20-1), part 0. -/
def rowsSht0 : List RegRow := [
  ⟨0x0, 0x4, 1, [⟨0, 4, .rw, 0xa, 0, 10, []⟩]⟩,
  ⟨0x4, 0x4, 1, [⟨0, 31, .rw, 0, 0, 0, []⟩]⟩,
  ⟨0x8, 0x4, 1, [⟨0, 32, .ro, 0x5f5e10, 0, 0, []⟩]⟩,
  ⟨0xC, 0x4, 1, [⟨16, 5, .ro, 0, 0, 0, []⟩, ⟨0, 11, .ro, 0, 0, 0, []⟩]⟩,
  ⟨0x10, 0x4, 1, [⟨0, 12, .ro, 0x21, 0, 0, []⟩]⟩,
  ⟨0x14, 0x4, 1, [⟨0, 12, .w1f, 0, 0, 0, []⟩]⟩,
  ⟨0x20, 0x4, 1, [⟨24, 8, .rw, 0x73, 0, 0, []⟩, ⟨16, 8, .rw, 0x69, 0, 0, []⟩, ⟨8, 8, .rw, 0x55, 0, 0, []⟩, ⟨0, 8, .rw, 0x32, 0, 0, []⟩]⟩,
  ⟨0x30, 0x4, 1, [⟨0, 32, .st, 0, 0, 0, []⟩]⟩,
  ⟨0x34, 0x4, 1, [⟨16, 16, .ro, 0, 0, 0, []⟩, ⟨0, 11, .ro, 0x400, 0, 0, []⟩]⟩,
  ⟨0x38, 0x4, 1, [⟨0, 1, .w1f, 0, 0, 0, []⟩]⟩]

/-- Shot scheduler: base, stride, instances and span of Table 20-1. -/
def blkSht : RegBlk := ⟨0x24400, 0x200, 1, 0x200, rowsSht0⟩

/-- Rows of the block "Energy limiter (locked)" (Table 20-1), part 0. -/
def rowsLim0 : List RegRow := [
  ⟨0x0, 0x4, 1, [⟨31, 1, .ro, 0, 0, 0, []⟩, ⟨30, 1, .ro, 0, 0, 0, []⟩, ⟨28, 2, .ro, 0, 0, 0, []⟩, ⟨0, 13, .ro, 0, 0, 0, []⟩]⟩,
  ⟨0x4, 0x4, 1, [⟨0, 16, .ro, 0, 0, 0, []⟩]⟩,
  ⟨0x8, 0x4, 1, [⟨16, 13, .ro, 0, 0, 0, []⟩, ⟨0, 4, .ro, 0, 0, 0, []⟩]⟩,
  ⟨0xC, 0x4, 1, [⟨0, 8, .ro, 0, 0, 0, []⟩]⟩,
  ⟨0x10, 0x4, 1, [⟨0, 32, .ro, 0, 0, 0, []⟩]⟩,
  ⟨0x14, 0x4, 1, [⟨0, 16, .ro, 0, 0, 0, []⟩]⟩,
  ⟨0x18, 0x4, 1, [⟨0, 32, .ro, 0, 0, 0, []⟩]⟩,
  ⟨0x1C, 0x4, 1, [⟨0, 32, .ro, 0, 0, 0, []⟩]⟩,
  ⟨0x20, 0x4, 1, [⟨0, 32, .ro, 0, 0, 0, []⟩]⟩]

/-- Energy limiter (locked): base, stride, instances and span of Table 20-1. -/
def blkLim : RegBlk := ⟨0x24600, 0x40, 1, 0x40, rowsLim0⟩

/-- Rows of the block "Loop" (Table 20-1), part 0. -/
def rowsLoop0 : List RegRow := [
  ⟨0x0, 0x4, 1, [⟨8, 6, .rw, 4, 0, 0, [0, 2, 5]⟩, ⟨4, 1, .wo, 0, 0, 0, []⟩, ⟨3, 1, .rw, 1, 0, 0, [0, 1, 2, 3]⟩, ⟨0, 2, .ro, 0, 0, 0, []⟩]⟩,
  ⟨0x4, 0x4, 1, [⟨16, 16, .rw, 0xa, 2, 65535, []⟩, ⟨12, 2, .rw, 0, 0, 0, []⟩, ⟨8, 2, .rw, 0, 0, 0, [5, 6]⟩, ⟨8, 2, .ro, 0, 0, 0, [0, 1, 2, 3, 4, 7]⟩, ⟨4, 4, .rw, 0, 0, 0, []⟩, ⟨0, 2, .rw, 0, 0, 0, []⟩]⟩,
  ⟨0x8, 0x4, 1, [⟨0, 32, .rw, 0, 0, 0, []⟩]⟩,
  ⟨0xC, 0x4, 1, [⟨0, 32, .rw, 0, 0, 0, []⟩]⟩,
  ⟨0x10, 0x4, 1, [⟨0, 32, .rw, 0, 0, 0, []⟩]⟩,
  ⟨0x14, 0x4, 1, [⟨0, 16, .rw, 0x40, 0, 0, []⟩]⟩,
  ⟨0x18, 0x4, 1, [⟨16, 16, .rw, 0x200, 0, 0, []⟩, ⟨0, 8, .rw, 0x10, 1, 255, []⟩]⟩,
  ⟨0x1C, 0x4, 1, [⟨7, 1, .w1f, 0, 0, 0, []⟩, ⟨6, 1, .ro, 0, 0, 0, []⟩, ⟨5, 1, .w1f, 0, 0, 0, []⟩, ⟨4, 1, .w1f, 0, 0, 0, []⟩, ⟨3, 1, .ro, 0, 0, 0, []⟩, ⟨2, 1, .ro, 0, 0, 0, []⟩, ⟨1, 1, .w1f, 0, 0, 0, []⟩, ⟨0, 1, .ro, 0, 0, 0, []⟩]⟩,
  ⟨0x20, 0x4, 1, [⟨0, 32, .st, 0, 0, 0, []⟩]⟩,
  ⟨0x24, 0x4, 1, [⟨0, 32, .ro, 0, 0, 0, []⟩]⟩,
  ⟨0x28, 0x4, 1, [⟨0, 32, .ro, 0, 0, 0, []⟩]⟩,
  ⟨0x2C, 0x4, 1, [⟨0, 32, .ro, 0, 0, 0, []⟩]⟩,
  ⟨0x30, 0x4, 1, [⟨0, 32, .ro, 0, 0, 0, []⟩]⟩,
  ⟨0x34, 0x4, 1, [⟨0, 32, .ro, 0, 0, 0, []⟩]⟩,
  ⟨0x38, 0x4, 1, [⟨0, 32, .ro, 0, 0, 0, []⟩]⟩,
  ⟨0x3C, 0x4, 1, [⟨0, 32, .ro, 0, 0, 0, []⟩]⟩,
  ⟨0x40, 0x4, 1, [⟨0, 32, .rw, 0, 0, 0, []⟩]⟩,
  ⟨0x44, 0x4, 1, [⟨0, 32, .rw, 0, 0, 0, []⟩]⟩,
  ⟨0x48, 0x4, 1, [⟨0, 32, .rw, 0, 0, 0, []⟩]⟩,
  ⟨0x4C, 0x4, 1, [⟨16, 5, .rw, 0, 0, 0, []⟩, ⟨8, 5, .rw, 0, 0, 0, []⟩, ⟨0, 5, .rw, 0, 0, 0, []⟩]⟩,
  ⟨0x50, 0x4, 1, [⟨31, 1, .rw, 1, 0, 0, []⟩, ⟨0, 16, .rw, 0, 0, 0, []⟩]⟩,
  ⟨0x54, 0x4, 1, [⟨0, 32, .rw, 0, 0, 0, []⟩]⟩,
  ⟨0x58, 0x4, 1, [⟨0, 32, .rw, 0, 0, 0, []⟩]⟩,
  ⟨0x5C, 0x4, 1, [⟨0, 32, .rw, 0, 0, 0, []⟩]⟩]

/-- Rows of the block "Loop" (Table 20-1), part 1. -/
def rowsLoop1 : List RegRow := [
  ⟨0x60, 0x4, 1, [⟨0, 32, .rw, 0, 0, 0, []⟩]⟩,
  ⟨0x64, 0x4, 1, [⟨0, 32, .rw, 0x7fffffff, 0, 0, []⟩]⟩,
  ⟨0x80, 0x4, 10, [⟨0, 32, .ro, 0, 0, 0, []⟩]⟩,
  ⟨0xC0, 0x4, 1, [⟨0, 7, .rw, 0x20, 4, 32, []⟩]⟩,
  ⟨0xC4, 0x4, 1, [⟨0, 32, .rw, 0, 0, 0, []⟩]⟩,
  ⟨0xC8, 0x4, 1, [⟨0, 32, .rw, 0, 0, 0, []⟩]⟩,
  ⟨0xCC, 0x4, 1, [⟨0, 32, .rw, 0, 0, 0, []⟩]⟩,
  ⟨0xD0, 0x4, 1, [⟨0, 32, .rw, 0, 0, 0, []⟩]⟩,
  ⟨0xD4, 0x4, 1, [⟨0, 32, .rw, 0, 0, 0, []⟩]⟩,
  ⟨0xD8, 0x4, 1, [⟨0, 32, .rw, 0, 0, 0, []⟩]⟩,
  ⟨0xE0, 0x4, 1, [⟨0, 32, .w1n, 0, 0, 0, []⟩]⟩,
  ⟨0xE4, 0x4, 1, [⟨0, 32, .w1n, 0, 0, 0, []⟩]⟩]

/-- Loop: base, stride, instances and span of Table 20-1. -/
def blkLoop : RegBlk := ⟨0x30000, 0x400, 8, 0x400, rowsLoop0 ++ rowsLoop1⟩

/-- Rows of the block "Steering" (Table 20-1), part 0. -/
def rowsSteer0 : List RegRow := [
  ⟨0x0, 0x4, 1, [⟨16, 16, .rw, 0x800, 0, 0, []⟩, ⟨0, 1, .rw, 0, 0, 0, []⟩]⟩,
  ⟨0x4, 0x4, 1, [⟨16, 16, .ro, 0, 0, 0, []⟩, ⟨1, 2, .ro, 0, 0, 0, []⟩, ⟨0, 1, .ro, 0, 0, 0, []⟩]⟩,
  ⟨0x8, 0x4, 1, [⟨0, 32, .rw, 0xffd23940, 0, 0, []⟩]⟩,
  ⟨0xC, 0x4, 1, [⟨0, 32, .rw, 0x2dc6c0, 0, 0, []⟩]⟩,
  ⟨0x10, 0x4, 1, [⟨0, 32, .rw, 0x2000, 0, 0, []⟩]⟩,
  ⟨0x14, 0x4, 1, [⟨0, 32, .rw, 0, 0, 0, []⟩]⟩,
  ⟨0x18, 0x4, 1, [⟨0, 32, .rw, 0, 0, 0, []⟩]⟩,
  ⟨0x1C, 0x4, 1, [⟨0, 32, .rw, 0, 0, 0, []⟩]⟩,
  ⟨0x20, 0x4, 1, [⟨0, 16, .rw, 0, 0, 0, []⟩]⟩,
  ⟨0x24, 0x4, 1, [⟨0, 16, .rw, 0x40, 0, 0, []⟩]⟩,
  ⟨0x28, 0x4, 1, [⟨16, 16, .rw, 0xe93f, 0, 0, []⟩, ⟨0, 16, .rw, 0xddde, 0, 0, []⟩]⟩,
  ⟨0x2C, 0x4, 1, [⟨16, 16, .rw, 0, 0, 0, []⟩, ⟨0, 16, .rw, 0xf49f, 0, 0, []⟩]⟩,
  ⟨0x30, 0x4, 1, [⟨16, 16, .rw, 0x16c1, 0, 0, []⟩, ⟨0, 16, .rw, 0xb61, 0, 0, []⟩]⟩,
  ⟨0x34, 0x4, 1, [⟨0, 16, .rw, 0x2222, 0, 0, []⟩]⟩,
  ⟨0x40, 0x4, 1, [⟨0, 32, .st, 0, 0, 0, []⟩]⟩,
  ⟨0x44, 0x4, 1, [⟨16, 16, .ro, 0, 0, 0, []⟩, ⟨1, 1, .ro, 0, 0, 0, []⟩, ⟨0, 1, .ro, 0, 0, 0, []⟩]⟩,
  ⟨0x48, 0x4, 1, [⟨0, 11, .ro, 0, 0, 0, []⟩]⟩,
  ⟨0x50, 0x4, 1, [⟨12, 20, .ro, 0x161, 0, 0, []⟩, ⟨0, 1, .w1f, 0, 0, 0, []⟩]⟩]

/-- Steering: base, stride, instances and span of Table 20-1. -/
def blkSteer : RegBlk := ⟨0x32000, 0x100, 1, 0x100, rowsSteer0⟩

/-- Rows of the block "User trajectory table" (Table 20-1), part 0. -/
def rowsTraj0 : List RegRow := [
  ⟨0x0, 0x4, 2048, [⟨0, 32, .rw, 0, 0, 0, []⟩]⟩]

/-- User trajectory table: base, stride, instances and span of Table 20-1. -/
def blkTraj : RegBlk := ⟨0x34000, 0x2000, 1, 0x2000, rowsTraj0⟩

/-- Rows of the block "Receiver, TDC and histogram global" (Table 20-1), part 0. -/
def rowsRx0 : List RegRow := [
  ⟨0x0, 0x4, 1, [⟨3, 1, .rw, 1, 0, 0, []⟩, ⟨2, 1, .rw, 1, 0, 0, []⟩, ⟨1, 1, .rw, 1, 0, 0, []⟩]⟩,
  ⟨0x4, 0x4, 1, [⟨24, 7, .rw, 8, 8, 64, []⟩, ⟨16, 8, .rw, 0x20, 16, 255, []⟩, ⟨8, 8, .rw, 0x18, 0, 0, []⟩, ⟨0, 4, .rw, 4, 0, 12, []⟩]⟩,
  ⟨0x8, 0x4, 1, [⟨0, 16, .rw, 0xbbb, 150, 60000, []⟩]⟩,
  ⟨0xC, 0x4, 1, [⟨8, 4, .rw, 1, 0, 2, []⟩, ⟨4, 4, .rw, 8, 1, 8, []⟩, ⟨0, 4, .rw, 2, 1, 8, []⟩]⟩,
  ⟨0x10, 0x4, 1, [⟨4, 4, .rw, 4, 1, 15, []⟩, ⟨0, 3, .rw, 5, 0, 5, []⟩]⟩,
  ⟨0x20, 0x4, 6, [⟨28, 4, .rw, 0, 0, 0, []⟩, ⟨24, 4, .rw, 0, 0, 0, []⟩, ⟨12, 12, .rw, 0, 0, 0, []⟩, ⟨0, 12, .rw, 0, 0, 0, []⟩]⟩,
  ⟨0x40, 0x4, 1, [⟨16, 16, .rw, 0x7918, 20000, 32000, []⟩]⟩,
  ⟨0x44, 0x4, 1, [⟨0, 1, .rw, 1, 0, 0, []⟩]⟩,
  ⟨0x48, 0x4, 1, [⟨16, 16, .rw, 0, 0, 0, []⟩, ⟨0, 16, .rw, 0, 0, 0, []⟩]⟩,
  ⟨0x4C, 0x4, 1, [⟨0, 32, .rw, 0xf0f0f0f, 0, 0, []⟩]⟩,
  ⟨0x50, 0x4, 1, [⟨0, 32, .rw, 0xf0f0f0f, 0, 0, []⟩]⟩,
  ⟨0x54, 0x4, 1, [⟨0, 16, .rw, 0, 0, 0, []⟩]⟩,
  ⟨0x60, 0x4, 1, [⟨0, 32, .st, 0, 0, 0, []⟩]⟩,
  ⟨0x64, 0x4, 1, [⟨16, 16, .ro, 0, 0, 0, []⟩, ⟨0, 16, .ro, 0, 0, 0, []⟩]⟩,
  ⟨0x68, 0x4, 4, [⟨0, 32, .ro, 0xffffffff, 0, 0, []⟩]⟩,
  ⟨0x78, 0x4, 1, [⟨16, 16, .ro, 0, 0, 0, []⟩, ⟨0, 16, .ro, 0, 0, 0, []⟩]⟩,
  ⟨0x7C, 0x4, 1, [⟨0, 32, .ro, 0, 0, 0, []⟩]⟩,
  ⟨0x80, 0x4, 1, [⟨0, 32, .ro, 0, 0, 0, []⟩]⟩,
  ⟨0x84, 0x4, 1, [⟨0, 32, .ro, 0, 0, 0, []⟩]⟩,
  ⟨0x90, 0x4, 1, [⟨7, 1, .w1f, 0, 0, 0, []⟩, ⟨6, 1, .ro, 0, 0, 0, []⟩, ⟨5, 1, .w1f, 0, 0, 0, []⟩, ⟨4, 1, .w1f, 0, 0, 0, []⟩, ⟨3, 1, .ro, 0, 0, 0, []⟩, ⟨2, 1, .ro, 0, 0, 0, []⟩]⟩,
  ⟨0xA0, 0x4, 1, [⟨0, 32, .w1n, 0, 0, 0, []⟩]⟩,
  ⟨0xA4, 0x4, 1, [⟨0, 32, .w1n, 0, 0, 0, []⟩]⟩,
  ⟨0xA8, 0x4, 1, [⟨0, 32, .w1n, 0, 0, 0, []⟩]⟩,
  ⟨0xAC, 0x4, 1, [⟨0, 32, .w1n, 0, 0, 0, []⟩]⟩]

/-- Rows of the block "Receiver, TDC and histogram global" (Table 20-1), part 1. -/
def rowsRx1 : List RegRow := [
  ⟨0x100, 0x4, 1, [⟨0, 1, .rw, 1, 0, 0, []⟩]⟩,
  ⟨0x104, 0x4, 1, [⟨16, 12, .ro, 0, 0, 0, []⟩, ⟨0, 12, .ro, 0, 0, 0, []⟩]⟩,
  ⟨0x108, 0x4, 1, [⟨0, 32, .rw, 0, 0, 0, []⟩]⟩,
  ⟨0x10C, 0x4, 1, [⟨0, 32, .rw, 0, 0, 0, []⟩]⟩,
  ⟨0x110, 0x4, 1, [⟨0, 16, .ro, 0, 0, 0, []⟩]⟩,
  ⟨0x120, 0x4, 1, [⟨0, 32, .w1n, 0, 0, 0, []⟩]⟩,
  ⟨0x200, 0x4, 1, [⟨16, 5, .ro, 8, 0, 0, []⟩, ⟨8, 5, .ro, 4, 0, 0, []⟩, ⟨0, 3, .ro, 4, 0, 0, []⟩]⟩,
  ⟨0x204, 0x4, 1, [⟨16, 3, .rw, 4, 0, 4, []⟩, ⟨8, 8, .rw, 0x30, 0, 0, []⟩, ⟨0, 4, .rw, 2, 1, 15, []⟩]⟩,
  ⟨0x208, 0x4, 1, [⟨0, 14, .rw, 0x400, 1, 8192, []⟩]⟩,
  ⟨0x20C, 0x4, 1, [⟨31, 1, .ro, 0, 0, 0, []⟩, ⟨16, 12, .ro, 0, 0, 0, []⟩]⟩,
  ⟨0x210, 0x4, 1, [⟨0, 32, .w1n, 0, 0, 0, []⟩]⟩,
  ⟨0x214, 0x4, 1, [⟨0, 32, .w1n, 0, 0, 0, []⟩]⟩,
  ⟨0x220, 0x4, 4, [⟨0, 32, .ro, 0, 0, 0, []⟩]⟩]

/-- Receiver, TDC and histogram global: base, stride, instances and span of Table 20-1. -/
def blkRx : RegBlk := ⟨0x40000, 0x1000, 1, 0x1000, rowsRx0 ++ rowsRx1⟩

/-- Rows of the block "Reference channel" (Table 20-1), part 0. -/
def rowsCh0 : List RegRow := [
  ⟨0x0, 0x4, 1, [⟨15, 1, .rw, 1, 0, 0, []⟩, ⟨14, 1, .rw, 0, 0, 0, []⟩, ⟨12, 2, .rw, 1, 0, 0, []⟩, ⟨8, 4, .rw, 0, 0, 0, []⟩, ⟨4, 4, .rw, 0, 0, 0, []⟩, ⟨3, 1, .rw, 0, 0, 0, []⟩, ⟨2, 1, .rw, 0, 0, 0, []⟩, ⟨1, 1, .rw, 0, 0, 0, []⟩, ⟨0, 1, .rw, 1, 0, 0, []⟩]⟩,
  ⟨0x4, 0x4, 1, [⟨0, 20, .rw, 0xffff, 16, 1048575, []⟩]⟩,
  ⟨0x8, 0x4, 1, [⟨16, 16, .rw, 0x780, 96, 3072, []⟩, ⟨0, 16, .rw, 0x60, 1, 0, []⟩]⟩,
  ⟨0xC, 0x4, 1, [⟨16, 16, .rw, 0xf, 2, 65535, []⟩, ⟨8, 2, .rw, 2, 0, 0, []⟩, ⟨0, 6, .rw, 0x1c, 0, 56, []⟩]⟩,
  ⟨0x10, 0x4, 1, [⟨0, 16, .rw, 0, 0, 0, []⟩]⟩,
  ⟨0x14, 0x4, 1, [⟨4, 1, .w1f, 0, 0, 0, []⟩, ⟨3, 1, .w1f, 0, 0, 0, []⟩, ⟨2, 1, .ro, 1, 0, 0, []⟩, ⟨1, 1, .ro, 0, 0, 0, []⟩, ⟨0, 1, .ro, 0, 0, 0, []⟩]⟩,
  ⟨0x18, 0x4, 1, [⟨0, 32, .rw, 0xffffffff, 0, 0, []⟩]⟩,
  ⟨0x1C, 0x4, 1, [⟨0, 32, .rw, 0xffffffff, 0, 0, []⟩]⟩,
  ⟨0x20, 0x4, 1, [⟨0, 8, .rw, 0, 0, 0, []⟩]⟩,
  ⟨0x40, 0x4, 1, [⟨0, 32, .st, 0, 0, 0, []⟩]⟩,
  ⟨0x44, 0x4, 1, [⟨16, 16, .ro, 0, 0, 0, []⟩, ⟨0, 16, .ro, 0, 0, 0, []⟩, ⟨0, 32, .ro, 0, 0, 0, []⟩]⟩,
  ⟨0x48, 0x4, 1, [⟨16, 16, .ro, 0, 0, 0, []⟩, ⟨0, 4, .ro, 0, 0, 0, []⟩, ⟨5, 1, .ro, 0, 0, 0, []⟩, ⟨4, 1, .ro, 0, 0, 0, []⟩, ⟨3, 1, .ro, 0, 0, 0, []⟩, ⟨2, 1, .ro, 0, 0, 0, []⟩, ⟨1, 1, .ro, 0, 0, 0, []⟩, ⟨0, 1, .ro, 0, 0, 0, []⟩]⟩,
  ⟨0x4C, 0x4, 1, [⟨0, 32, .ro, 0, 0, 0, []⟩]⟩,
  ⟨0x50, 0x4, 1, [⟨16, 16, .ro, 0, 0, 0, []⟩, ⟨0, 16, .ro, 0, 0, 0, []⟩, ⟨0, 32, .ro, 0, 0, 0, []⟩]⟩,
  ⟨0x54, 0x4, 1, [⟨16, 16, .ro, 0, 0, 0, []⟩, ⟨0, 16, .ro, 0, 0, 0, []⟩]⟩,
  ⟨0x58, 0x4, 1, [⟨0, 32, .ro, 0, 0, 0, []⟩]⟩,
  ⟨0x5C, 0x4, 1, [⟨0, 32, .ro, 0, 0, 0, []⟩]⟩,
  ⟨0x80, 0x4, 1, [⟨16, 16, .ro, 0, 0, 0, []⟩, ⟨0, 6, .ro, 0, 0, 0, []⟩]⟩,
  ⟨0x84, 0x4, 1, [⟨0, 32, .ro, 0, 0, 0, []⟩]⟩,
  ⟨0x88, 0x4, 1, [⟨0, 32, .ro, 0, 0, 0, []⟩]⟩,
  ⟨0x8C, 0x4, 1, [⟨0, 32, .ro, 0, 0, 0, []⟩]⟩,
  ⟨0x90, 0x4, 1, [⟨0, 7, .ro, 0, 0, 0, []⟩]⟩,
  ⟨0x94, 0x4, 1, [⟨0, 1, .wo, 0, 0, 0, []⟩]⟩,
  ⟨0xA0, 0x4, 1, [⟨0, 32, .w1n, 0, 0, 0, []⟩]⟩]

/-- Rows of the block "Reference channel" (Table 20-1), part 1. -/
def rowsCh1 : List RegRow := [
  ⟨0xA4, 0x4, 1, [⟨0, 32, .w1n, 0, 0, 0, []⟩]⟩,
  ⟨0xA8, 0x4, 1, [⟨0, 32, .w1n, 0, 0, 0, []⟩]⟩,
  ⟨0xAC, 0x4, 1, [⟨0, 32, .w1n, 0, 0, 0, []⟩]⟩,
  ⟨0xB0, 0x4, 1, [⟨0, 32, .w1n, 0, 0, 0, []⟩]⟩,
  ⟨0x100, 0x4, 64, [⟨0, 10, .rw, 0, 0, 0, []⟩]⟩]

/-- Reference channel: base, stride, instances and span of Table 20-1. -/
def blkCh : RegBlk := ⟨0x41000, 0x200, 12, 0x200, rowsCh0 ++ rowsCh1⟩

/-- Rows of the block "Region (kernels at 0x100 + k x 0x20)" (Table 20-1), part 0. -/
def rowsPe0 : List RegRow := [
  ⟨0x0, 0x4, 1, [⟨3, 1, .rw, 1, 0, 0, []⟩, ⟨2, 1, .rw, 1, 0, 0, []⟩, ⟨1, 1, .rw, 1, 0, 0, []⟩, ⟨0, 1, .rw, 0, 0, 0, []⟩]⟩,
  ⟨0x4, 0x4, 1, [⟨16, 8, .rw, 0x50, 16, 255, []⟩, ⟨0, 5, .rw, 3, 1, 31, []⟩]⟩,
  ⟨0x8, 0x4, 1, [⟨8, 8, .rw, 6, 2, 32, []⟩, ⟨0, 8, .rw, 8, 1, 64, []⟩]⟩,
  ⟨0xC, 0x4, 1, [⟨28, 4, .rw, 4, 2, 15, []⟩, ⟨24, 4, .rw, 8, 1, 15, []⟩, ⟨12, 12, .rw, 0x12c, 0, 0, []⟩, ⟨0, 12, .rw, 0x50, 0, 0, []⟩]⟩,
  ⟨0x10, 0x4, 1, [⟨0, 16, .rw, 0x400, 0, 0, []⟩]⟩,
  ⟨0x14, 0x4, 1, [⟨24, 8, .rw, 8, 1, 31, []⟩, ⟨12, 12, .rw, 0x4b0, 0, 0, []⟩, ⟨0, 8, .rw, 0xf, 0, 0, []⟩]⟩,
  ⟨0x18, 0x4, 1, [⟨16, 16, .rw, 0x4000, 0, 0, []⟩, ⟨12, 4, .rw, 4, 1, 15, []⟩, ⟨0, 8, .rw, 0xc0, 0, 0, []⟩]⟩,
  ⟨0x1C, 0x4, 1, [⟨24, 8, .rw, 8, 1, 255, []⟩, ⟨16, 8, .rw, 8, 1, 255, []⟩, ⟨8, 8, .rw, 0x10, 0, 0, []⟩, ⟨0, 4, .rw, 1, 0, 8, []⟩]⟩,
  ⟨0x20, 0x4, 1, [⟨16, 16, .rw, 0x20, 0, 0, []⟩, ⟨0, 16, .rw, 2, 0, 0, []⟩]⟩,
  ⟨0x24, 0x4, 1, [⟨16, 16, .rw, 0x10, 0, 0, []⟩, ⟨0, 16, .rw, 0x200, 0, 0, []⟩]⟩,
  ⟨0x28, 0x4, 1, [⟨0, 4, .rw, 6, 0, 0, []⟩]⟩,
  ⟨0x40, 0x4, 1, [⟨0, 32, .rw, 0x31f396, 0, 0, [0]⟩, ⟨0, 32, .ro, 0x31f396, 0, 0, [1, 2, 3]⟩]⟩,
  ⟨0x44, 0x4, 1, [⟨0, 32, .rw, 0, 0, 0, []⟩]⟩,
  ⟨0x48, 0x4, 1, [⟨16, 16, .rw, 0, 0, 0, []⟩, ⟨0, 16, .rw, 0, 0, 0, []⟩]⟩,
  ⟨0x4C, 0x4, 1, [⟨16, 16, .rw, 0, 0, 0, []⟩, ⟨0, 16, .rw, 0, 0, 0, []⟩]⟩,
  ⟨0x50, 0x4, 1, [⟨16, 16, .rw, 0, 0, 0, []⟩, ⟨0, 16, .rw, 0, 0, 0, []⟩]⟩,
  ⟨0x54, 0x4, 1, [⟨16, 16, .rw, 0, 0, 0, []⟩, ⟨0, 16, .rw, 0, 0, 0, []⟩]⟩,
  ⟨0x58, 0x4, 1, [⟨0, 16, .ro, 0x5555, 0, 0, []⟩]⟩,
  ⟨0x60, 0x4, 1, [⟨5, 3, .ro, 0, 0, 0, []⟩, ⟨4, 1, .ro, 0, 0, 0, []⟩, ⟨2, 1, .w1f, 0, 0, 0, []⟩, ⟨1, 1, .ro, 0, 0, 0, []⟩, ⟨0, 1, .ro, 0, 0, 0, []⟩]⟩,
  ⟨0x80, 0x4, 1, [⟨0, 32, .st, 0, 0, 0, []⟩]⟩,
  ⟨0x84, 0x4, 1, [⟨0, 32, .ro, 0, 0, 0, []⟩]⟩,
  ⟨0x88, 0x4, 1, [⟨0, 32, .ro, 0, 0, 0, []⟩]⟩,
  ⟨0x8C, 0x4, 1, [⟨0, 32, .ro, 0, 0, 0, []⟩]⟩,
  ⟨0x90, 0x4, 1, [⟨0, 32, .ro, 0, 0, 0, []⟩]⟩]

/-- Rows of the block "Region (kernels at 0x100 + k x 0x20)" (Table 20-1), part 1. -/
def rowsPe1 : List RegRow := [
  ⟨0x94, 0x4, 1, [⟨16, 16, .ro, 0, 0, 0, []⟩, ⟨0, 3, .ro, 0, 0, 0, []⟩]⟩,
  ⟨0x98, 0x4, 1, [⟨0, 32, .ro, 0, 0, 0, []⟩]⟩,
  ⟨0x9C, 0x4, 1, [⟨0, 32, .ro, 0, 0, 0, []⟩]⟩,
  ⟨0xC0, 0x4, 1, [⟨0, 32, .w1n, 0, 0, 0, []⟩]⟩,
  ⟨0xC4, 0x4, 1, [⟨0, 32, .w1n, 0, 0, 0, []⟩]⟩,
  ⟨0xC8, 0x4, 1, [⟨0, 32, .w1n, 0, 0, 0, []⟩]⟩,
  ⟨0xCC, 0x4, 1, [⟨0, 32, .w1n, 0, 0, 0, []⟩]⟩,
  ⟨0x100, 0x20, 4, [⟨0, 32, .rw, 0x40402008, 0, 0, []⟩]⟩,
  ⟨0x104, 0x20, 4, [⟨0, 32, .rw, 0x10182030, 0, 0, []⟩]⟩,
  ⟨0x108, 0x20, 4, [⟨0, 32, .rw, 0x406080c, 0, 0, []⟩]⟩,
  ⟨0x10C, 0x20, 4, [⟨0, 32, .rw, 0x10203, 0, 0, []⟩]⟩,
  ⟨0x110, 0x20, 4, [⟨0, 12, .rw, 0x25e, 0, 0, []⟩]⟩,
  ⟨0x114, 0x20, 4, [⟨0, 12, .ro, 0x144, 0, 0, []⟩]⟩]

/-- Region (kernels at 0x100 + k x 0x20): base, stride, instances and span of Table 20-1. -/
def blkPe : RegBlk := ⟨0x50000, 0x4000, 4, 0x4000, rowsPe0 ++ rowsPe1⟩

/-- Rows of the block "Slice (row j at 0x8000 + j x 0x100)" (Table 20-1), part 0. -/
def rowsSlc0 : List RegRow := [
  ⟨0x0, 0x4, 1, [⟨2, 1, .ro, 0, 0, 0, []⟩, ⟨1, 1, .ro, 0, 0, 0, []⟩, ⟨0, 1, .ro, 0, 0, 0, []⟩]⟩,
  ⟨0x4, 0x4, 1, [⟨0, 32, .w1n, 0, 0, 0, []⟩]⟩,
  ⟨0x8, 0x4, 1, [⟨0, 32, .w1n, 0, 0, 0, []⟩]⟩,
  ⟨0xC, 0x4, 1, [⟨0, 32, .w1n, 0, 0, 0, []⟩]⟩,
  ⟨0x10, 0x4, 1, [⟨0, 2, .ro, 0, 0, 0, []⟩]⟩,
  ⟨0x14, 0x4, 1, [⟨6, 2, .wo, 0, 0, 0, []⟩, ⟨5, 1, .wo, 0, 0, 0, []⟩, ⟨0, 3, .wo, 0, 0, 0, []⟩]⟩,
  ⟨0x8000, 0x100, 8, [⟨0, 1, .rw, 1, 0, 0, []⟩]⟩,
  ⟨0x8004, 0x100, 8, [⟨0, 32, .rw, 0, 0, 0, []⟩]⟩,
  ⟨0x8008, 0x100, 8, [⟨24, 8, .ro, 0, 0, 0, []⟩, ⟨16, 8, .ro, 0, 0, 0, []⟩, ⟨8, 1, .w1f, 0, 0, 0, []⟩, ⟨0, 3, .ro, 1, 0, 0, []⟩]⟩,
  ⟨0x800C, 0x100, 8, [⟨0, 32, .ro, 0x20202020, 0, 0, []⟩]⟩,
  ⟨0x8010, 0x100, 8, [⟨0, 32, .ro, 0x20202020, 0, 0, []⟩]⟩,
  ⟨0x8014, 0x100, 8, [⟨16, 1, .w1f, 0, 0, 0, []⟩, ⟨15, 1, .ro, 0, 0, 0, []⟩, ⟨12, 3, .ro, 0, 0, 0, []⟩, ⟨0, 6, .ro, 0, 0, 0, []⟩]⟩,
  ⟨0x8020, 0x100, 8, [⟨0, 32, .st, 0, 0, 0, []⟩]⟩,
  ⟨0x8024, 0x100, 8, [⟨16, 16, .ro, 0, 0, 0, []⟩, ⟨7, 1, .ro, 0, 0, 0, []⟩, ⟨6, 1, .ro, 0, 0, 0, []⟩, ⟨5, 1, .ro, 0, 0, 0, []⟩, ⟨0, 3, .ro, 0, 0, 0, []⟩]⟩,
  ⟨0x8028, 0x100, 8, [⟨0, 32, .ro, 0, 0, 0, []⟩]⟩,
  ⟨0x802C, 0x100, 8, [⟨0, 32, .ro, 0, 0, 0, []⟩]⟩,
  ⟨0x8030, 0x100, 8, [⟨0, 32, .ro, 0, 0, 0, []⟩]⟩,
  ⟨0x8034, 0x100, 8, [⟨16, 16, .ro, 0, 0, 0, []⟩, ⟨0, 16, .ro, 0, 0, 0, []⟩]⟩,
  ⟨0x8038, 0x100, 8, [⟨0, 16, .ro, 0, 0, 0, []⟩]⟩,
  ⟨0x8040, 0x100, 8, [⟨0, 32, .rw, 0xbfffffde, 0, 0, []⟩]⟩,
  ⟨0x8048, 0x100, 8, [⟨0, 32, .rw, 0xbfffffde, 0, 0, []⟩]⟩,
  ⟨0x8050, 0x100, 8, [⟨0, 32, .rw, 0xbfffffde, 0, 0, []⟩]⟩,
  ⟨0x8058, 0x100, 8, [⟨0, 32, .rw, 0xbfffffde, 0, 0, []⟩]⟩,
  ⟨0x8060, 0x100, 8, [⟨0, 32, .rw, 0xbfffffde, 0, 0, []⟩]⟩]

/-- Rows of the block "Slice (row j at 0x8000 + j x 0x100)" (Table 20-1), part 1. -/
def rowsSlc1 : List RegRow := [
  ⟨0x8068, 0x100, 8, [⟨0, 32, .rw, 0xbfffffde, 0, 0, []⟩]⟩,
  ⟨0x8070, 0x100, 8, [⟨0, 32, .rw, 0xbfffffde, 0, 0, []⟩]⟩,
  ⟨0x8078, 0x100, 8, [⟨0, 32, .rw, 0xbfffffde, 0, 0, []⟩]⟩,
  ⟨0x8044, 0x100, 8, [⟨0, 4, .rw, 7, 0, 0, []⟩]⟩,
  ⟨0x804C, 0x100, 8, [⟨0, 4, .rw, 7, 0, 0, []⟩]⟩,
  ⟨0x8054, 0x100, 8, [⟨0, 4, .rw, 7, 0, 0, []⟩]⟩,
  ⟨0x805C, 0x100, 8, [⟨0, 4, .rw, 7, 0, 0, []⟩]⟩,
  ⟨0x8064, 0x100, 8, [⟨0, 4, .rw, 7, 0, 0, []⟩]⟩,
  ⟨0x806C, 0x100, 8, [⟨0, 4, .rw, 7, 0, 0, []⟩]⟩,
  ⟨0x8074, 0x100, 8, [⟨0, 4, .rw, 7, 0, 0, []⟩]⟩,
  ⟨0x807C, 0x100, 8, [⟨0, 4, .rw, 7, 0, 0, []⟩]⟩,
  ⟨0x8080, 0x100, 8, [⟨0, 16, .rw, 0, 0, 0, []⟩]⟩,
  ⟨0x80A0, 0x100, 8, [⟨0, 32, .st, 0, 0, 0, []⟩]⟩,
  ⟨0x80A4, 0x100, 8, [⟨24, 8, .ro, 0, 0, 0, []⟩, ⟨16, 8, .ro, 0, 0, 0, []⟩, ⟨8, 8, .ro, 0, 0, 0, []⟩, ⟨0, 8, .ro, 0, 0, 0, []⟩]⟩,
  ⟨0x80A8, 0x100, 8, [⟨16, 16, .ro, 0, 0, 0, []⟩, ⟨0, 16, .ro, 0, 0, 0, []⟩]⟩,
  ⟨0x80AC, 0x100, 8, [⟨16, 16, .ro, 0, 0, 0, []⟩, ⟨0, 16, .ro, 0, 0, 0, []⟩]⟩,
  ⟨0x80B0, 0x100, 8, [⟨16, 16, .ro, 0xffff, 0, 0, []⟩, ⟨0, 16, .ro, 0xffff, 0, 0, []⟩]⟩,
  ⟨0x80B4, 0x100, 8, [⟨16, 16, .ro, 0xffff, 0, 0, []⟩, ⟨0, 16, .ro, 0xffff, 0, 0, []⟩]⟩,
  ⟨0x80B8, 0x100, 8, [⟨0, 32, .ro, 0, 0, 0, []⟩]⟩,
  ⟨0x80BC, 0x100, 8, [⟨5, 3, .ro, 0, 0, 0, []⟩, ⟨3, 1, .ro, 0, 0, 0, []⟩, ⟨2, 1, .ro, 0, 0, 0, []⟩, ⟨1, 1, .ro, 0, 0, 0, []⟩, ⟨0, 1, .ro, 0, 0, 0, []⟩]⟩]

/-- Slice (row j at 0x8000 + j x 0x100): base, stride, instances and span of Table 20-1. -/
def blkSlc : RegBlk := ⟨0x1000000, 0x10000, 128, 0x10000, rowsSlc0 ++ rowsSlc1⟩

/-- Rows of the block "Point stream, compression, decompressor" (Table 20-1), part 0. -/
def rowsPs0 : List RegRow := [
  ⟨0x0, 0x4, 1, [⟨8, 1, .rw, 0, 0, 0, []⟩, ⟨4, 3, .rw, 3, 0, 4, []⟩, ⟨2, 1, .rw, 0, 0, 0, []⟩, ⟨1, 1, .rw, 1, 0, 0, []⟩, ⟨0, 1, .rw, 1, 0, 0, []⟩]⟩,
  ⟨0x4, 0x4, 1, [⟨3, 1, .w1f, 0, 0, 0, []⟩, ⟨2, 1, .ro, 0, 0, 0, []⟩, ⟨1, 1, .ro, 0, 0, 0, []⟩]⟩,
  ⟨0x8, 0x4, 1, [⟨0, 32, .w1n, 0, 0, 0, []⟩]⟩,
  ⟨0xC, 0x4, 1, [⟨0, 32, .w1n, 0, 0, 0, []⟩]⟩,
  ⟨0x10, 0x4, 1, [⟨0, 32, .w1n, 0, 0, 0, []⟩]⟩,
  ⟨0x14, 0x4, 1, [⟨0, 32, .w1n, 0, 0, 0, []⟩]⟩,
  ⟨0x20, 0x4, 1, [⟨0, 32, .st, 0, 0, 0, []⟩]⟩,
  ⟨0x24, 0x4, 1, [⟨0, 32, .ro, 0, 0, 0, []⟩]⟩,
  ⟨0x28, 0x4, 1, [⟨16, 16, .ro, 0, 0, 0, []⟩, ⟨0, 16, .ro, 0, 0, 0, []⟩]⟩,
  ⟨0x2C, 0x4, 1, [⟨0, 19, .ro, 0, 0, 0, []⟩]⟩,
  ⟨0x30, 0x4, 1, [⟨0, 32, .ro, 0, 0, 0, []⟩]⟩,
  ⟨0x40, 0x4, 1, [⟨0, 5, .rw, 0, 0, 16, []⟩]⟩,
  ⟨0x80, 0x10, 16, [⟨0, 32, .rw, 0, 0, 0, []⟩]⟩,
  ⟨0x84, 0x10, 16, [⟨0, 32, .rw, 0, 0, 0, []⟩]⟩,
  ⟨0x88, 0x10, 16, [⟨0, 32, .rw, 0, 0, 0, []⟩]⟩,
  ⟨0x200, 0x4, 1, [⟨16, 3, .ro, 0, 0, 0, []⟩, ⟨0, 4, .ro, 0, 0, 0, []⟩]⟩,
  ⟨0x204, 0x4, 1, [⟨0, 8, .rw, 0, 0, 0, []⟩]⟩,
  ⟨0x208, 0x4, 1, [⟨0, 8, .ro, 0, 0, 0, []⟩]⟩,
  ⟨0x20C, 0x4, 1, [⟨0, 32, .ro, 0, 0, 0, []⟩]⟩,
  ⟨0x210, 0x4, 1, [⟨0, 32, .w1n, 0, 0, 0, []⟩]⟩,
  ⟨0x214, 0x4, 1, [⟨0, 32, .w1n, 0, 0, 0, []⟩]⟩,
  ⟨0x218, 0x4, 1, [⟨0, 32, .w1n, 0, 0, 0, []⟩]⟩,
  ⟨0x21C, 0x4, 1, [⟨0, 32, .w1n, 0, 0, 0, []⟩]⟩,
  ⟨0x220, 0x4, 1, [⟨0, 32, .w1n, 0, 0, 0, []⟩]⟩]

/-- Rows of the block "Point stream, compression, decompressor" (Table 20-1), part 1. -/
def rowsPs1 : List RegRow := [
  ⟨0x224, 0x4, 1, [⟨0, 32, .w1n, 0, 0, 0, []⟩]⟩,
  ⟨0x300, 0x4, 1, [⟨4, 1, .rw, 0, 0, 0, []⟩, ⟨0, 2, .rw, 0, 0, 0, []⟩]⟩,
  ⟨0x320, 0x4, 1, [⟨0, 32, .st, 0, 0, 0, []⟩]⟩,
  ⟨0x324, 0x4, 1, [⟨16, 1, .ro, 0, 0, 0, []⟩, ⟨8, 8, .ro, 0, 0, 0, []⟩, ⟨0, 8, .ro, 0, 0, 0, []⟩]⟩,
  ⟨0x328, 0x4, 1, [⟨0, 32, .ro, 0, 0, 0, []⟩]⟩,
  ⟨0x32C, 0x4, 1, [⟨0, 32, .ro, 0, 0, 0, []⟩]⟩,
  ⟨0x330, 0x4, 1, [⟨0, 32, .ro, 0, 0, 0, []⟩]⟩,
  ⟨0x340, 0x4, 1, [⟨0, 32, .w1n, 0, 0, 0, []⟩]⟩]

/-- Point stream, compression, decompressor: base, stride, instances and span of Table 20-1. -/
def blkPs : RegBlk := ⟨0x2000000, 0x400, 1, 0x400, rowsPs0 ++ rowsPs1⟩

/-- Rows of the block "Camera input" (Table 20-1), part 0. -/
def rowsCam0 : List RegRow := [
  ⟨0x0, 0x4, 1, [⟨3, 1, .ro, 0, 0, 0, []⟩, ⟨2, 1, .ro, 0, 0, 0, []⟩, ⟨1, 1, .ro, 0, 0, 0, []⟩, ⟨0, 1, .ro, 0, 0, 0, []⟩]⟩,
  ⟨0x10, 0x4, 1, [⟨0, 32, .w1n, 0, 0, 0, []⟩]⟩,
  ⟨0x14, 0x4, 1, [⟨0, 32, .w1n, 0, 0, 0, []⟩]⟩,
  ⟨0x18, 0x4, 1, [⟨0, 32, .w1n, 0, 0, 0, []⟩]⟩,
  ⟨0x1C, 0x4, 1, [⟨0, 32, .w1n, 0, 0, 0, []⟩]⟩,
  ⟨0x20, 0x4, 1, [⟨0, 32, .w1n, 0, 0, 0, []⟩]⟩,
  ⟨0x24, 0x4, 1, [⟨0, 32, .w1n, 0, 0, 0, []⟩]⟩,
  ⟨0x28, 0x4, 1, [⟨0, 32, .w1n, 0, 0, 0, []⟩]⟩,
  ⟨0x2C, 0x4, 1, [⟨0, 32, .w1n, 0, 0, 0, []⟩]⟩,
  ⟨0x30, 0x4, 1, [⟨0, 32, .w1n, 0, 0, 0, []⟩]⟩,
  ⟨0x34, 0x4, 1, [⟨0, 32, .w1n, 0, 0, 0, []⟩]⟩,
  ⟨0x38, 0x4, 1, [⟨0, 32, .w1n, 0, 0, 0, []⟩]⟩,
  ⟨0x3C, 0x4, 1, [⟨0, 32, .w1n, 0, 0, 0, []⟩]⟩,
  ⟨0x40, 0x4, 16, [⟨0, 32, .ro, 0, 0, 0, []⟩]⟩,
  ⟨0x80, 0x4, 1, [⟨0, 32, .st, 0, 0, 0, []⟩]⟩,
  ⟨0x84, 0x4, 1, [⟨0, 32, .ro, 0, 0, 0, []⟩]⟩,
  ⟨0x88, 0x4, 1, [⟨16, 16, .ro, 0, 0, 0, []⟩, ⟨0, 4, .ro, 0, 0, 0, []⟩]⟩,
  ⟨0x8C, 0x4, 1, [⟨0, 32, .ro, 0, 0, 0, []⟩]⟩,
  ⟨0x90, 0x4, 1, [⟨0, 32, .ro, 0, 0, 0, []⟩]⟩,
  ⟨0x94, 0x4, 1, [⟨16, 16, .ro, 0, 0, 0, []⟩, ⟨0, 8, .ro, 0, 0, 0, []⟩]⟩,
  ⟨0x98, 0x4, 1, [⟨0, 32, .ro, 0, 0, 0, []⟩]⟩]

/-- Camera input: base, stride, instances and span of Table 20-1. -/
def blkCam : RegBlk := ⟨0x3000000, 0x400, 2, 0x400, rowsCam0⟩

/-- Rows of the block "Pipeline context" (Table 20-1), part 0. -/
def rowsCtx0 : List RegRow := [
  ⟨0x0, 0x4, 1, [⟨0, 1, .rw, 0, 0, 0, []⟩]⟩,
  ⟨0x4, 0x4, 1, [⟨1, 1, .ro, 0, 0, 0, []⟩, ⟨0, 1, .ro, 0, 0, 0, []⟩]⟩,
  ⟨0x8, 0x4, 1, [⟨0, 32, .ro, 0, 0, 0, []⟩]⟩,
  ⟨0x10, 0x4, 1, [⟨0, 32, .rw, 0, 0, 0, [0, 1]⟩]⟩,
  ⟨0x14, 0x4, 1, [⟨0, 32, .rw, 0, 0, 0, [0, 1]⟩]⟩,
  ⟨0x40, 0x4, 1, [⟨0, 32, .st, 0, 0, 0, []⟩]⟩,
  ⟨0x44, 0x4, 1, [⟨0, 32, .ro, 0, 0, 0, []⟩]⟩,
  ⟨0x48, 0x4, 1, [⟨16, 16, .ro, 0, 0, 0, []⟩, ⟨0, 16, .ro, 0, 0, 0, []⟩]⟩,
  ⟨0x4C, 0x4, 1, [⟨16, 16, .ro, 0, 0, 0, []⟩, ⟨0, 16, .ro, 0, 0, 0, []⟩]⟩,
  ⟨0x50, 0x4, 1, [⟨16, 16, .ro, 0, 0, 0, []⟩, ⟨3, 1, .ro, 0, 0, 0, []⟩, ⟨2, 1, .ro, 0, 0, 0, []⟩, ⟨1, 1, .ro, 0, 0, 0, []⟩, ⟨0, 1, .ro, 0, 0, 0, []⟩]⟩,
  ⟨0x60, 0x4, 1, [⟨0, 32, .w1n, 0, 0, 0, []⟩]⟩,
  ⟨0x64, 0x4, 1, [⟨0, 32, .w1n, 0, 0, 0, []⟩]⟩,
  ⟨0x68, 0x4, 1, [⟨0, 32, .w1n, 0, 0, 0, []⟩]⟩,
  ⟨0x6C, 0x4, 1, [⟨0, 32, .w1n, 0, 0, 0, []⟩]⟩]

/-- Pipeline context: base, stride, instances and span of Table 20-1. -/
def blkCtx : RegBlk := ⟨0x3001000, 0x400, 4, 0x400, rowsCtx0⟩

/-- Rows of the block "Pipeline" (Table 20-1), part 0. -/
def rowsPipe0 : List RegRow := [
  ⟨0x0, 0x4, 1, [⟨16, 16, .rw, 0xc8, 0, 0, []⟩, ⟨9, 1, .rw, 1, 0, 0, []⟩, ⟨8, 1, .rw, 0, 0, 0, []⟩, ⟨4, 2, .rw, 1, 0, 0, []⟩, ⟨1, 1, .rw, 0, 0, 0, []⟩, ⟨0, 1, .rw, 0, 0, 0, []⟩]⟩,
  ⟨0x4, 0x4, 1, [⟨16, 16, .ro, 0, 0, 0, []⟩, ⟨0, 1, .w1f, 0, 0, 0, []⟩]⟩,
  ⟨0x10, 0x4, 1, [⟨0, 32, .rw, 0, 0, 0, []⟩]⟩,
  ⟨0x14, 0x4, 1, [⟨0, 32, .rw, 0, 0, 0, []⟩]⟩,
  ⟨0x18, 0x4, 1, [⟨0, 32, .rw, 0, 0, 0, []⟩]⟩,
  ⟨0x20, 0x4, 1, [⟨0, 32, .rw, 0, 0, 0, []⟩]⟩,
  ⟨0x24, 0x4, 1, [⟨0, 32, .rw, 0, 0, 0, []⟩]⟩,
  ⟨0x28, 0x4, 1, [⟨0, 32, .rw, 0, 0, 0, []⟩]⟩,
  ⟨0x30, 0x4, 1, [⟨0, 32, .w1n, 0, 0, 0, []⟩]⟩,
  ⟨0x34, 0x4, 1, [⟨0, 32, .w1n, 0, 0, 0, []⟩]⟩,
  ⟨0x38, 0x4, 1, [⟨0, 32, .w1n, 0, 0, 0, []⟩]⟩,
  ⟨0x3C, 0x4, 1, [⟨0, 32, .w1n, 0, 0, 0, []⟩]⟩,
  ⟨0x40, 0x4, 1, [⟨0, 32, .w1n, 0, 0, 0, []⟩]⟩,
  ⟨0x44, 0x4, 1, [⟨0, 32, .w1n, 0, 0, 0, []⟩]⟩]

/-- Pipeline: base, stride, instances and span of Table 20-1. -/
def blkPipe : RegBlk := ⟨0x3002000, 0x1000, 1, 0x1000, rowsPipe0⟩

/-- Rows of the block "Fusion" (Table 20-1), part 0. -/
def rowsFus0 : List RegRow := [
  ⟨0x0, 0x4, 1, [⟨28, 4, .rw, 6, 0, 0, []⟩, ⟨16, 4, .rw, 3, 0, 5, []⟩, ⟨12, 4, .rw, 3, 0, 5, []⟩, ⟨2, 2, .rw, 0, 0, 0, []⟩, ⟨0, 2, .rw, 0, 0, 0, []⟩]⟩,
  ⟨0x4, 0x4, 1, [⟨0, 16, .rw, 0x7d0, 0, 0, []⟩]⟩,
  ⟨0x8, 0x4, 1, [⟨2, 1, .w1f, 0, 0, 0, []⟩, ⟨0, 2, .ro, 0, 0, 0, []⟩]⟩,
  ⟨0xC, 0x4, 1, [⟨0, 16, .ro, 0, 0, 0, []⟩]⟩,
  ⟨0x10, 0x4, 1, [⟨20, 10, .rw, 0x96, 0, 0, []⟩, ⟨10, 10, .rw, 0x3c, 0, 0, []⟩, ⟨0, 10, .rw, 0x1e, 0, 0, []⟩]⟩,
  ⟨0x14, 0x4, 1, [⟨0, 32, .rw, 0x80ff0000, 0, 0, []⟩]⟩,
  ⟨0x18, 0x4, 1, [⟨0, 32, .rw, 0x80ffa500, 0, 0, []⟩]⟩,
  ⟨0x1C, 0x4, 1, [⟨0, 32, .rw, 0x80ffff00, 0, 0, []⟩]⟩,
  ⟨0x20, 0x4, 1, [⟨0, 32, .rw, 0x4000ff00, 0, 0, []⟩]⟩,
  ⟨0x24, 0x4, 1, [⟨0, 32, .rw, 0xc0ff00ff, 0, 0, []⟩]⟩,
  ⟨0x30, 0x4, 1, [⟨0, 32, .w1n, 0, 0, 0, []⟩]⟩,
  ⟨0x34, 0x4, 1, [⟨0, 32, .w1n, 0, 0, 0, []⟩]⟩,
  ⟨0x40, 0x10, 8, [⟨0, 32, .rw, 0, 0, 0, []⟩]⟩,
  ⟨0x44, 0x10, 8, [⟨0, 32, .rw, 0, 0, 0, []⟩]⟩,
  ⟨0x48, 0x10, 8, [⟨0, 32, .rw, 0, 0, 0, []⟩]⟩,
  ⟨0x4C, 0x10, 8, [⟨31, 1, .rw, 0, 0, 0, []⟩, ⟨30, 1, .rw, 1, 0, 0, []⟩, ⟨28, 2, .rw, 3, 0, 0, []⟩, ⟨20, 4, .rw, 3, 1, 15, []⟩, ⟨16, 4, .rw, 6, 0, 0, []⟩, ⟨0, 8, .rw, 4, 1, 255, []⟩]⟩,
  ⟨0x100, 0x80, 2, [⟨0, 32, .rw, 0, 0, 0, []⟩]⟩,
  ⟨0x104, 0x80, 2, [⟨0, 32, .rw, 0, 0, 0, []⟩]⟩,
  ⟨0x108, 0x80, 2, [⟨0, 32, .rw, 0, 0, 0, []⟩]⟩,
  ⟨0x10C, 0x80, 2, [⟨0, 32, .rw, 0, 0, 0, []⟩]⟩,
  ⟨0x110, 0x80, 2, [⟨0, 32, .rw, 0, 0, 0, []⟩]⟩,
  ⟨0x114, 0x80, 2, [⟨0, 32, .rw, 0, 0, 0, []⟩]⟩,
  ⟨0x118, 0x80, 2, [⟨0, 32, .rw, 0, 0, 0, []⟩]⟩,
  ⟨0x11C, 0x80, 2, [⟨0, 32, .rw, 0, 0, 0, []⟩]⟩]

/-- Rows of the block "Fusion" (Table 20-1), part 1. -/
def rowsFus1 : List RegRow := [
  ⟨0x120, 0x80, 2, [⟨0, 32, .rw, 0, 0, 0, []⟩]⟩,
  ⟨0x124, 0x80, 2, [⟨0, 32, .rw, 0, 0, 0, []⟩]⟩,
  ⟨0x128, 0x80, 2, [⟨0, 32, .rw, 0, 0, 0, []⟩]⟩,
  ⟨0x12C, 0x80, 2, [⟨0, 32, .rw, 0, 0, 0, []⟩]⟩,
  ⟨0x130, 0x80, 2, [⟨0, 32, .rw, 0, 0, 0, []⟩]⟩,
  ⟨0x134, 0x80, 2, [⟨0, 32, .rw, 0, 0, 0, []⟩]⟩,
  ⟨0x138, 0x80, 2, [⟨0, 32, .rw, 0, 0, 0, []⟩]⟩,
  ⟨0x13C, 0x80, 2, [⟨0, 32, .rw, 0, 0, 0, []⟩]⟩,
  ⟨0x140, 0x80, 2, [⟨0, 32, .rw, 0, 0, 0, []⟩]⟩,
  ⟨0x144, 0x80, 2, [⟨0, 32, .rw, 0, 0, 0, []⟩]⟩,
  ⟨0x148, 0x80, 2, [⟨0, 32, .rw, 0, 0, 0, []⟩]⟩,
  ⟨0x14C, 0x80, 2, [⟨0, 32, .rw, 0, 0, 0, []⟩]⟩,
  ⟨0x150, 0x80, 2, [⟨0, 32, .rw, 0, 0, 0, []⟩]⟩,
  ⟨0x160, 0x80, 2, [⟨0, 32, .rw, 0, 0, 0, []⟩]⟩,
  ⟨0x164, 0x80, 2, [⟨0, 32, .rw, 0, 0, 0, []⟩]⟩,
  ⟨0x1000, 0x4, 1024, [⟨0, 32, .rw, 0, 0, 0, []⟩]⟩]

/-- Fusion: base, stride, instances and span of Table 20-1. -/
def blkFus : RegBlk := ⟨0x3003000, 0x2000, 1, 0x2000, rowsFus0 ++ rowsFus1⟩

/-- Rows of the block "Display" (Table 20-1), part 0. -/
def rowsDsp0 : List RegRow := [
  ⟨0x0, 0x4, 1, [⟨0, 1, .wo, 0, 0, 0, []⟩]⟩,
  ⟨0x4, 0x4, 1, [⟨4, 1, .w1f, 0, 0, 0, []⟩, ⟨3, 1, .ro, 0, 0, 0, []⟩, ⟨2, 1, .ro, 0, 0, 0, []⟩, ⟨1, 1, .ro, 0, 0, 0, []⟩, ⟨0, 1, .ro, 0, 0, 0, []⟩]⟩,
  ⟨0x8, 0x4, 1, [⟨16, 16, .rw, 0xc8, 20, 2000, []⟩, ⟨8, 4, .rw, 2, 0, 0, []⟩]⟩,
  ⟨0x10, 0x4, 1, [⟨0, 32, .ro, 0xffffffff, 0, 0, []⟩]⟩,
  ⟨0x14, 0x4, 1, [⟨0, 32, .ro, 0, 0, 0, []⟩]⟩,
  ⟨0x20, 0x4, 1, [⟨0, 32, .w1n, 0, 0, 0, []⟩]⟩,
  ⟨0x24, 0x4, 1, [⟨0, 32, .w1n, 0, 0, 0, []⟩]⟩,
  ⟨0x28, 0x4, 1, [⟨0, 32, .w1n, 0, 0, 0, []⟩]⟩,
  ⟨0x2C, 0x4, 1, [⟨0, 32, .w1n, 0, 0, 0, []⟩]⟩,
  ⟨0x30, 0x4, 1, [⟨0, 32, .w1n, 0, 0, 0, []⟩]⟩,
  ⟨0x34, 0x4, 1, [⟨0, 32, .w1n, 0, 0, 0, []⟩]⟩,
  ⟨0x38, 0x4, 1, [⟨0, 32, .w1n, 0, 0, 0, []⟩]⟩,
  ⟨0x3C, 0x4, 1, [⟨0, 32, .w1n, 0, 0, 0, []⟩]⟩,
  ⟨0x40, 0x4, 1, [⟨0, 32, .st, 0, 0, 0, []⟩]⟩,
  ⟨0x44, 0x4, 1, [⟨0, 32, .ro, 0, 0, 0, []⟩]⟩,
  ⟨0x48, 0x4, 1, [⟨0, 32, .ro, 0, 0, 0, []⟩]⟩,
  ⟨0x4C, 0x4, 1, [⟨0, 32, .ro, 0, 0, 0, []⟩]⟩,
  ⟨0x50, 0x4, 1, [⟨0, 32, .ro, 0, 0, 0, []⟩]⟩,
  ⟨0x54, 0x4, 1, [⟨0, 32, .ro, 0, 0, 0, []⟩]⟩,
  ⟨0x58, 0x4, 1, [⟨7, 1, .ro, 0, 0, 0, []⟩, ⟨6, 1, .ro, 0, 0, 0, []⟩, ⟨5, 1, .ro, 0, 0, 0, []⟩, ⟨4, 1, .ro, 0, 0, 0, []⟩, ⟨3, 1, .ro, 0, 0, 0, []⟩, ⟨2, 1, .ro, 0, 0, 0, []⟩, ⟨1, 1, .ro, 0, 0, 0, []⟩, ⟨0, 1, .ro, 0, 0, 0, []⟩]⟩,
  ⟨0x80, 0x4, 8, [⟨0, 32, .ro, 0, 0, 0, []⟩]⟩,
  ⟨0xA0, 0x4, 24, [⟨0, 32, .ro, 0, 0, 0, []⟩]⟩]

/-- Display: base, stride, instances and span of Table 20-1. -/
def blkDsp : RegBlk := ⟨0x3100000, 0x400, 2, 0x400, rowsDsp0⟩

/-- Rows of the block "Oazil port" (Table 20-1), part 0. -/
def rowsOz0 : List RegRow := [
  ⟨0x0, 0x4, 1, [⟨24, 8, .rw, 0x40, 0, 0, []⟩, ⟨16, 8, .rw, 0x30, 0, 0, []⟩, ⟨8, 8, .rw, 0xa, 1, 255, []⟩, ⟨2, 2, .rw, 3, 0, 0, []⟩, ⟨1, 1, .rw, 1, 0, 0, []⟩, ⟨0, 1, .rw, 1, 0, 0, []⟩]⟩,
  ⟨0x4, 0x4, 1, [⟨24, 8, .ro, 0xff, 0, 0, []⟩, ⟨16, 8, .ro, 0xff, 0, 0, []⟩, ⟨8, 8, .ro, 0xff, 0, 0, []⟩, ⟨4, 4, .ro, 0xf, 0, 0, []⟩, ⟨0, 2, .ro, 0, 0, 0, []⟩]⟩,
  ⟨0x10, 0x4, 9, [⟨24, 8, .ro, 0, 0, 0, []⟩, ⟨8, 4, .ro, 0, 0, 0, []⟩, ⟨0, 3, .ro, 2, 0, 0, []⟩]⟩,
  ⟨0x40, 0x4, 1, [⟨0, 32, .w1n, 0, 0, 0, []⟩]⟩,
  ⟨0x44, 0x4, 1, [⟨0, 32, .w1n, 0, 0, 0, []⟩]⟩,
  ⟨0x48, 0x4, 1, [⟨0, 32, .w1n, 0, 0, 0, []⟩]⟩,
  ⟨0x4C, 0x4, 1, [⟨0, 32, .w1n, 0, 0, 0, []⟩]⟩,
  ⟨0x50, 0x4, 1, [⟨0, 32, .w1n, 0, 0, 0, []⟩]⟩,
  ⟨0x54, 0x4, 1, [⟨0, 32, .w1n, 0, 0, 0, []⟩]⟩,
  ⟨0x58, 0x4, 1, [⟨0, 32, .w1n, 0, 0, 0, []⟩]⟩,
  ⟨0x5C, 0x4, 1, [⟨0, 32, .w1n, 0, 0, 0, []⟩]⟩,
  ⟨0x80, 0x8, 8, [⟨0, 32, .ro, 0, 0, 0, []⟩]⟩,
  ⟨0x84, 0x8, 8, [⟨0, 32, .ro, 0, 0, 0, []⟩]⟩]

/-- Oazil port: base, stride, instances and span of Table 20-1. -/
def blkOz : RegBlk := ⟨0x4000000, 0x400, 3, 0x400, rowsOz0⟩

/-- Rows of the block "Ethernet" (Table 20-1), part 0. -/
def rowsEth0 : List RegRow := [
  ⟨0x0, 0x4, 1, [⟨2, 1, .ro, 0, 0, 0, []⟩, ⟨1, 1, .ro, 0, 0, 0, []⟩, ⟨0, 1, .ro, 0, 0, 0, []⟩]⟩,
  ⟨0x4, 0x4, 1, [⟨0, 16, .ro, 0, 0, 0, []⟩]⟩,
  ⟨0x8, 0x4, 1, [⟨0, 32, .ro, 0, 0, 0, []⟩]⟩,
  ⟨0xC, 0x4, 1, [⟨0, 32, .ro, 0, 0, 0, []⟩]⟩,
  ⟨0x10, 0x4, 1, [⟨0, 32, .ro, 0, 0, 0, []⟩]⟩,
  ⟨0x14, 0x4, 1, [⟨0, 32, .ro, 0, 0, 0, []⟩]⟩,
  ⟨0x18, 0x4, 1, [⟨0, 16, .ro, 0, 0, 0, []⟩]⟩,
  ⟨0x20, 0x4, 1, [⟨1, 7, .rw, 0, 0, 0, []⟩]⟩,
  ⟨0x24, 0x4, 1, [⟨0, 32, .rw, 0, 0, 0, []⟩]⟩,
  ⟨0x28, 0x4, 1, [⟨0, 16, .rw, 0xb7d2, 0, 0, []⟩]⟩,
  ⟨0x2C, 0x4, 1, [⟨16, 16, .rw, 0, 0, 0, []⟩, ⟨0, 16, .rw, 0, 0, 0, []⟩]⟩,
  ⟨0x40, 0x4, 1, [⟨0, 32, .w1n, 0, 0, 0, []⟩]⟩,
  ⟨0x44, 0x4, 1, [⟨0, 32, .w1n, 0, 0, 0, []⟩]⟩,
  ⟨0x48, 0x4, 1, [⟨0, 32, .w1n, 0, 0, 0, []⟩]⟩,
  ⟨0x4C, 0x4, 1, [⟨0, 32, .w1n, 0, 0, 0, []⟩]⟩,
  ⟨0x50, 0x4, 1, [⟨0, 32, .w1n, 0, 0, 0, []⟩]⟩,
  ⟨0x54, 0x4, 1, [⟨0, 32, .w1n, 0, 0, 0, []⟩]⟩,
  ⟨0x58, 0x4, 1, [⟨0, 32, .w1n, 0, 0, 0, []⟩]⟩,
  ⟨0x5C, 0x4, 1, [⟨0, 32, .w1n, 0, 0, 0, []⟩]⟩,
  ⟨0x80, 0x4, 8, [⟨0, 32, .ro, 0, 0, 0, []⟩]⟩,
  ⟨0xA0, 0x4, 8, [⟨0, 32, .ro, 0, 0, 0, []⟩]⟩]

/-- Ethernet: base, stride, instances and span of Table 20-1. -/
def blkEth : RegBlk := ⟨0x4001000, 0x1000, 1, 0x1000, rowsEth0⟩

/-- Rows of the block "Time base" (Table 20-1), part 0. -/
def rowsTb0 : List RegRow := [
  ⟨0x8, 0x4, 1, [⟨0, 32, .ro, 0, 0, 0, []⟩]⟩,
  ⟨0xC, 0x4, 1, [⟨0, 32, .ro, 0, 0, 0, []⟩]⟩,
  ⟨0x10, 0x4, 1, [⟨16, 16, .rw, 0x3e8, 0, 0, []⟩, ⟨0, 2, .rw, 1, 0, 0, []⟩]⟩,
  ⟨0x14, 0x4, 1, [⟨7, 1, .ro, 0, 0, 0, []⟩, ⟨6, 1, .ro, 0, 0, 0, []⟩, ⟨0, 4, .ro, 0, 0, 0, []⟩]⟩,
  ⟨0x18, 0x4, 1, [⟨16, 16, .rw, 0x64, 0, 0, []⟩, ⟨0, 16, .rw, 0x320, 0, 0, []⟩]⟩,
  ⟨0x1C, 0x4, 1, [⟨0, 32, .ro, 0, 0, 0, []⟩]⟩,
  ⟨0x20, 0x4, 1, [⟨0, 32, .ro, 0, 0, 0, []⟩]⟩,
  ⟨0x24, 0x4, 1, [⟨0, 32, .ro, 0, 0, 0, []⟩]⟩,
  ⟨0x40, 0x4, 1, [⟨0, 32, .st, 0, 0, 0, []⟩]⟩,
  ⟨0x44, 0x4, 1, [⟨0, 32, .ro, 0, 0, 0, []⟩]⟩,
  ⟨0x48, 0x4, 1, [⟨0, 32, .ro, 0, 0, 0, []⟩]⟩,
  ⟨0x4C, 0x4, 1, [⟨0, 32, .ro, 0, 0, 0, []⟩]⟩,
  ⟨0x50, 0x4, 1, [⟨0, 32, .ro, 0, 0, 0, []⟩]⟩,
  ⟨0x54, 0x4, 1, [⟨0, 32, .ro, 0, 0, 0, []⟩]⟩,
  ⟨0x60, 0x4, 1, [⟨0, 32, .w1n, 0, 0, 0, []⟩]⟩,
  ⟨0x64, 0x4, 1, [⟨0, 32, .w1n, 0, 0, 0, []⟩]⟩,
  ⟨0x68, 0x4, 1, [⟨0, 32, .w1n, 0, 0, 0, []⟩]⟩,
  ⟨0x6C, 0x4, 1, [⟨0, 32, .w1n, 0, 0, 0, []⟩]⟩,
  ⟨0x70, 0x4, 1, [⟨0, 32, .w1n, 0, 0, 0, []⟩]⟩]

/-- Time base: base, stride, instances and span of Table 20-1. -/
def blkTb : RegBlk := ⟨0x4002000, 0x1000, 1, 0x1000, rowsTb0⟩

/-- Rows of the block "SYNC" (Table 20-1), part 0. -/
def rowsSyn0 : List RegRow := [
  ⟨0x0, 0x4, 1, [⟨0, 2, .ro, 0, 0, 0, []⟩]⟩,
  ⟨0x4, 0x4, 1, [⟨0, 32, .ro, 0, 0, 0, []⟩]⟩,
  ⟨0x8, 0x4, 1, [⟨16, 16, .rw, 0x18, 0, 0, []⟩, ⟨0, 8, .rw, 0x40, 1, 255, []⟩]⟩,
  ⟨0xC, 0x4, 1, [⟨3, 1, .w1f, 0, 0, 0, []⟩, ⟨2, 1, .w1f, 0, 0, 0, []⟩, ⟨1, 1, .ro, 0, 0, 0, []⟩, ⟨0, 1, .ro, 0, 0, 0, []⟩]⟩,
  ⟨0x10, 0x4, 1, [⟨0, 32, .st, 0, 0, 0, []⟩]⟩,
  ⟨0x14, 0x4, 1, [⟨0, 32, .ro, 0, 0, 0, []⟩]⟩,
  ⟨0x18, 0x4, 1, [⟨0, 32, .ro, 0, 0, 0, []⟩]⟩,
  ⟨0x20, 0x4, 1, [⟨0, 32, .w1n, 0, 0, 0, []⟩]⟩,
  ⟨0x24, 0x4, 1, [⟨0, 32, .w1n, 0, 0, 0, []⟩]⟩,
  ⟨0x28, 0x4, 1, [⟨0, 32, .w1n, 0, 0, 0, []⟩]⟩,
  ⟨0x2C, 0x4, 1, [⟨0, 32, .w1n, 0, 0, 0, []⟩]⟩]

/-- SYNC: base, stride, instances and span of Table 20-1. -/
def blkSyn : RegBlk := ⟨0x4003000, 0x1000, 1, 0x1000, rowsSyn0⟩

/-- Rows of the block "Memory controller" (Table 20-1), part 0. -/
def rowsMem0 : List RegRow := [
  ⟨0x0, 0x4, 1, [⟨1, 1, .rw, 0, 0, 0, []⟩, ⟨0, 1, .rw, 1, 0, 0, []⟩]⟩,
  ⟨0x4, 0x4, 1, [⟨5, 3, .ro, 0, 0, 0, []⟩, ⟨4, 1, .w1f, 0, 0, 0, []⟩, ⟨3, 1, .ro, 0, 0, 0, []⟩, ⟨2, 1, .ro, 0, 0, 0, []⟩, ⟨1, 1, .ro, 0, 0, 0, []⟩, ⟨0, 1, .ro, 0, 0, 0, []⟩]⟩,
  ⟨0x8, 0x4, 1, [⟨16, 16, .rw, 0x2ee0, 0, 0, []⟩, ⟨0, 16, .rw, 0xfa0, 1000, 8000, []⟩]⟩,
  ⟨0xC, 0x4, 1, [⟨16, 16, .rw, 0x32, 0, 0, []⟩, ⟨0, 16, .rw, 0x3e8, 0, 0, []⟩]⟩,
  ⟨0x10, 0x4, 1, [⟨0, 16, .ro, 0xbb8, 0, 0, []⟩]⟩,
  ⟨0x14, 0x4, 1, [⟨24, 8, .rw, 0x14, 5, 255, []⟩, ⟨0, 16, .rw, 0x7d0, 0, 0, []⟩]⟩,
  ⟨0x18, 0x4, 1, [⟨16, 16, .rw, 0x40, 0, 0, []⟩, ⟨0, 14, .rw, 0x400, 1, 8192, []⟩]⟩,
  ⟨0x40, 0xC, 6, [⟨0, 32, .w1n, 0, 0, 0, []⟩]⟩,
  ⟨0x44, 0xC, 6, [⟨0, 32, .w1n, 0, 0, 0, []⟩]⟩,
  ⟨0x48, 0xC, 6, [⟨0, 32, .w1n, 0, 0, 0, []⟩]⟩,
  ⟨0xA0, 0x4, 1, [⟨0, 32, .st, 0, 0, 0, []⟩]⟩,
  ⟨0xA4, 0x4, 1, [⟨8, 8, .ro, 0, 0, 0, []⟩, ⟨0, 3, .ro, 0, 0, 0, []⟩]⟩,
  ⟨0xA8, 0x4, 1, [⟨0, 32, .ro, 0, 0, 0, []⟩]⟩,
  ⟨0xAC, 0x4, 1, [⟨0, 32, .ro, 0, 0, 0, []⟩]⟩,
  ⟨0xC0, 0x4, 1, [⟨0, 32, .w1n, 0, 0, 0, []⟩]⟩,
  ⟨0xC4, 0x4, 1, [⟨0, 32, .w1n, 0, 0, 0, []⟩]⟩,
  ⟨0xC8, 0x4, 1, [⟨0, 32, .w1n, 0, 0, 0, []⟩]⟩,
  ⟨0xCC, 0x4, 1, [⟨0, 32, .w1n, 0, 0, 0, []⟩]⟩]

/-- Memory controller: base, stride, instances and span of Table 20-1. -/
def blkMem : RegBlk := ⟨0x4100000, 0x1000, 1, 0x1000, rowsMem0⟩

/-- Rows of the block "Safety (locked)" (Table 20-1), part 0. -/
def rowsSaf0 : List RegRow := [
  ⟨0x0, 0x4, 1, [⟨7, 1, .ro, 0, 0, 0, []⟩, ⟨6, 1, .ro, 0, 0, 0, []⟩, ⟨5, 1, .ro, 0, 0, 0, []⟩, ⟨4, 1, .ro, 0, 0, 0, []⟩, ⟨3, 1, .ro, 0, 0, 0, []⟩, ⟨0, 2, .ro, 0, 0, 0, []⟩]⟩,
  ⟨0x4, 0x4, 1, [⟨12, 4, .ro, 0xf, 0, 0, []⟩, ⟨8, 4, .ro, 0, 0, 0, []⟩, ⟨4, 4, .ro, 0, 0, 0, []⟩, ⟨0, 4, .ro, 0, 0, 0, []⟩]⟩,
  ⟨0x8, 0x4, 1, [⟨16, 16, .ro, 0, 0, 0, []⟩, ⟨0, 16, .ro, 0xffff, 0, 0, []⟩]⟩,
  ⟨0xC, 0x4, 1, [⟨16, 8, .ro, 0, 0, 0, []⟩, ⟨8, 8, .ro, 0, 0, 0, []⟩, ⟨0, 8, .ro, 0, 0, 0, []⟩]⟩,
  ⟨0x10, 0x4, 1, [⟨16, 8, .ro, 0xff, 0, 0, []⟩, ⟨0, 16, .ro, 0, 0, 0, []⟩]⟩,
  ⟨0x14, 0x4, 1, [⟨0, 8, .ro, 1, 0, 0, []⟩]⟩,
  ⟨0x18, 0x4, 1, [⟨0, 32, .ro, 0, 0, 0, []⟩]⟩,
  ⟨0x1C, 0x4, 1, [⟨0, 32, .ro, 0, 0, 0, []⟩]⟩,
  ⟨0x20, 0x4, 1, [⟨0, 32, .ro, 0, 0, 0, []⟩]⟩,
  ⟨0x24, 0x4, 1, [⟨0, 32, .ro, 0, 0, 0, []⟩]⟩,
  ⟨0x40, 0x4, 16, [⟨0, 32, .ro, 0xffffffff, 0, 0, []⟩]⟩,
  ⟨0x80, 0x4, 16, [⟨16, 16, .ro, 0, 0, 0, []⟩, ⟨0, 16, .ro, 0, 0, 0, []⟩]⟩,
  ⟨0x100, 0x4, 1, [⟨0, 32, .w1n, 0, 0, 0, []⟩]⟩,
  ⟨0x104, 0x4, 1, [⟨0, 32, .w1n, 0, 0, 0, []⟩]⟩,
  ⟨0x108, 0x4, 1, [⟨0, 32, .w1n, 0, 0, 0, []⟩]⟩,
  ⟨0x10C, 0x4, 1, [⟨0, 32, .w1n, 0, 0, 0, []⟩]⟩,
  ⟨0x110, 0x4, 1, [⟨0, 32, .w1n, 0, 0, 0, []⟩]⟩,
  ⟨0x114, 0x4, 1, [⟨0, 32, .w1n, 0, 0, 0, []⟩]⟩,
  ⟨0x118, 0x4, 1, [⟨0, 32, .w1n, 0, 0, 0, []⟩]⟩,
  ⟨0x11C, 0x4, 1, [⟨0, 32, .w1n, 0, 0, 0, []⟩]⟩,
  ⟨0x400, 0x8, 42, [⟨0, 32, .ro, 0, 0, 0, []⟩]⟩,
  ⟨0x404, 0x8, 42, [⟨0, 32, .ro, 0, 0, 0, []⟩]⟩,
  ⟨0x1000, 0x4, 67, [⟨0, 32, .ro, 0, 0, 0, []⟩]⟩,
  ⟨0x1110, 0x4, 67, [⟨0, 32, .ro, 0, 0, 0, []⟩]⟩]

/-- Rows of the block "Safety (locked)" (Table 20-1), part 1. -/
def rowsSaf1 : List RegRow := [
  ⟨0x1220, 0x4, 67, [⟨0, 32, .ro, 0, 0, 0, []⟩]⟩,
  ⟨0x1330, 0x4, 67, [⟨0, 32, .ro, 0, 0, 0, []⟩]⟩,
  ⟨0x1440, 0x4, 67, [⟨0, 32, .ro, 0, 0, 0, []⟩]⟩,
  ⟨0x1550, 0x4, 67, [⟨0, 32, .ro, 0, 0, 0, []⟩]⟩,
  ⟨0x1660, 0x4, 67, [⟨0, 32, .ro, 0, 0, 0, []⟩]⟩,
  ⟨0x1770, 0x4, 67, [⟨0, 32, .ro, 0, 0, 0, []⟩]⟩,
  ⟨0x1880, 0x4, 67, [⟨0, 32, .ro, 0, 0, 0, []⟩]⟩,
  ⟨0x1990, 0x4, 67, [⟨0, 32, .ro, 0, 0, 0, []⟩]⟩,
  ⟨0x1AA0, 0x4, 67, [⟨0, 32, .ro, 0, 0, 0, []⟩]⟩,
  ⟨0x1BB0, 0x4, 67, [⟨0, 32, .ro, 0, 0, 0, []⟩]⟩,
  ⟨0x1CC0, 0x4, 67, [⟨0, 32, .ro, 0, 0, 0, []⟩]⟩,
  ⟨0x1DD0, 0x4, 67, [⟨0, 32, .ro, 0, 0, 0, []⟩]⟩,
  ⟨0x1EE0, 0x4, 67, [⟨0, 32, .ro, 0, 0, 0, []⟩]⟩,
  ⟨0x1FF0, 0x4, 67, [⟨0, 32, .ro, 0, 0, 0, []⟩]⟩]

/-- Safety (locked): base, stride, instances and span of Table 20-1. -/
def blkSaf : RegBlk := ⟨0x5000000, 0x4000, 1, 0x4000, rowsSaf0 ++ rowsSaf1⟩

/-- Rows of the block "Housekeeping" (Table 20-1), part 0. -/
def rowsHk0 : List RegRow := [
  ⟨0x0, 0x4, 1, [⟨16, 1, .ro, 1, 0, 0, []⟩, ⟨0, 16, .ro, 0x3e8, 0, 0, []⟩]⟩,
  ⟨0x4, 0x4, 1, [⟨8, 4, .ro, 0, 0, 0, []⟩, ⟨4, 1, .ro, 0, 0, 0, []⟩, ⟨3, 1, .ro, 0, 0, 0, []⟩, ⟨2, 1, .ro, 0, 0, 0, []⟩, ⟨1, 1, .ro, 0, 0, 0, []⟩, ⟨0, 1, .ro, 1, 0, 0, []⟩]⟩,
  ⟨0x8, 0x4, 1, [⟨0, 32, .ro, 0, 0, 0, []⟩]⟩,
  ⟨0xC, 0x4, 1, [⟨8, 4, .ro, 0, 0, 0, []⟩, ⟨4, 4, .ro, 0, 0, 0, []⟩, ⟨0, 4, .ro, 0, 0, 0, []⟩]⟩,
  ⟨0x10, 0x4, 1, [⟨0, 32, .rw, 0, 0, 0, []⟩]⟩,
  ⟨0x40, 0x4, 16, [⟨31, 1, .ro, 1, 0, 0, []⟩, ⟨20, 2, .ro, 0, 0, 0, []⟩, ⟨16, 4, .ro, 0, 0, 0, []⟩, ⟨0, 8, .ro, 0, 0, 0, []⟩]⟩,
  ⟨0x80, 0x4, 1, [⟨0, 32, .st, 0, 0, 0, []⟩]⟩,
  ⟨0x84, 0x4, 1, [⟨28, 4, .ro, 0, 0, 0, []⟩, ⟨8, 8, .ro, 0, 0, 0, []⟩, ⟨0, 7, .ro, 0, 0, 0, []⟩]⟩,
  ⟨0x88, 0x4, 1, [⟨0, 32, .ro, 0, 0, 0, []⟩]⟩,
  ⟨0x8C, 0x4, 1, [⟨0, 32, .ro, 0, 0, 0, []⟩]⟩,
  ⟨0x90, 0x4, 1, [⟨0, 32, .ro, 0, 0, 0, []⟩]⟩,
  ⟨0x94, 0x4, 1, [⟨0, 32, .ro, 0, 0, 0, []⟩]⟩,
  ⟨0x100, 0x20, 16, [⟨0, 32, .st, 0, 0, 0, []⟩]⟩,
  ⟨0x104, 0x20, 16, [⟨0, 32, .ro, 0, 0, 0, []⟩]⟩,
  ⟨0x108, 0x20, 16, [⟨0, 32, .ro, 0, 0, 0, []⟩]⟩,
  ⟨0x10C, 0x20, 16, [⟨0, 32, .ro, 0, 0, 0, []⟩]⟩,
  ⟨0x110, 0x20, 16, [⟨0, 32, .ro, 0, 0, 0, []⟩]⟩,
  ⟨0x114, 0x20, 16, [⟨0, 32, .ro, 0, 0, 0, []⟩]⟩,
  ⟨0x300, 0x4, 1, [⟨0, 32, .w1n, 0, 0, 0, []⟩]⟩,
  ⟨0x304, 0x4, 1, [⟨0, 32, .w1n, 0, 0, 0, []⟩]⟩,
  ⟨0x308, 0x4, 1, [⟨0, 32, .w1n, 0, 0, 0, []⟩]⟩,
  ⟨0x30C, 0x4, 1, [⟨0, 32, .w1n, 0, 0, 0, []⟩]⟩,
  ⟨0x310, 0x4, 1, [⟨0, 32, .w1n, 0, 0, 0, []⟩]⟩,
  ⟨0x314, 0x4, 1, [⟨0, 32, .w1n, 0, 0, 0, []⟩]⟩]

/-- Rows of the block "Housekeeping" (Table 20-1), part 1. -/
def rowsHk1 : List RegRow := [
  ⟨0x380, 0x10, 4, [⟨0, 32, .rw, 0, 0, 0, []⟩]⟩,
  ⟨0x384, 0x10, 4, [⟨0, 32, .rw, 0, 0, 0, []⟩]⟩,
  ⟨0x388, 0x10, 4, [⟨0, 32, .rw, 0, 0, 0, []⟩]⟩,
  ⟨0x600, 0x4, 1, [⟨1, 1, .rw, 1, 0, 0, []⟩, ⟨0, 1, .rw, 0, 0, 0, []⟩]⟩,
  ⟨0x604, 0x4, 1, [⟨0, 16, .rw, 0x14, 1, 1000, []⟩]⟩,
  ⟨0x610, 0x4, 1, [⟨0, 32, .st, 0, 0, 0, []⟩]⟩,
  ⟨0x614, 0x4, 4, [⟨0, 32, .ro, 0, 0, 0, []⟩]⟩,
  ⟨0x630, 0x4, 1, [⟨0, 32, .w1n, 0, 0, 0, []⟩]⟩,
  ⟨0x700, 0x4, 1, [⟨16, 16, .rw, 0, 0, 0, []⟩, ⟨1, 1, .rw, 0, 0, 0, []⟩, ⟨0, 1, .ro, 0, 0, 0, []⟩]⟩,
  ⟨0x704, 0x4, 1, [⟨0, 16, .ro, 0, 0, 0, []⟩]⟩,
  ⟨0x708, 0x4, 1, [⟨0, 1, .w1f, 0, 0, 0, []⟩]⟩,
  ⟨0x400, 0x80, 4, [⟨31, 1, .rw, 1, 0, 0, []⟩, ⟨30, 1, .rw, 1, 0, 0, []⟩, ⟨29, 1, .rw, 1, 0, 0, []⟩, ⟨24, 3, .rw, 2, 0, 5, []⟩, ⟨16, 2, .rw, 1, 0, 0, []⟩]⟩,
  ⟨0x404, 0x80, 4, [⟨0, 32, .rw, 0x7fffff, 0, 0, []⟩]⟩,
  ⟨0x408, 0x80, 4, [⟨0, 32, .rw, 0xff800001, 0, 0, []⟩]⟩,
  ⟨0x40C, 0x80, 4, [⟨31, 1, .rw, 0, 0, 0, []⟩, ⟨30, 1, .rw, 0, 0, 0, []⟩, ⟨8, 16, .rw, 0x40, 0, 0, []⟩, ⟨0, 8, .rw, 4, 1, 255, []⟩]⟩,
  ⟨0x410, 0x80, 4, [⟨4, 1, .ro, 0, 0, 0, []⟩, ⟨3, 1, .ro, 0, 0, 0, []⟩, ⟨2, 1, .ro, 0, 0, 0, []⟩, ⟨1, 1, .ro, 0, 0, 0, []⟩]⟩,
  ⟨0x420, 0x80, 4, [⟨0, 32, .st, 0, 0, 0, []⟩]⟩,
  ⟨0x424, 0x80, 4, [⟨0, 32, .ro, 0, 0, 0, []⟩]⟩,
  ⟨0x428, 0x80, 4, [⟨0, 32, .ro, 0, 0, 0, []⟩]⟩,
  ⟨0x42C, 0x80, 4, [⟨12, 2, .ro, 0, 0, 0, []⟩, ⟨8, 3, .ro, 0, 0, 0, []⟩, ⟨0, 4, .ro, 0, 0, 0, []⟩]⟩,
  ⟨0x430, 0x80, 4, [⟨0, 32, .ro, 0, 0, 0, []⟩]⟩,
  ⟨0x434, 0x80, 4, [⟨0, 32, .ro, 0, 0, 0, []⟩]⟩,
  ⟨0x440, 0x80, 4, [⟨0, 32, .w1n, 0, 0, 0, []⟩]⟩,
  ⟨0x444, 0x80, 4, [⟨0, 32, .w1n, 0, 0, 0, []⟩]⟩]

/-- Rows of the block "Housekeeping" (Table 20-1), part 2. -/
def rowsHk2 : List RegRow := [
  ⟨0x448, 0x80, 4, [⟨0, 32, .w1n, 0, 0, 0, []⟩]⟩]

/-- Housekeeping: base, stride, instances and span of Table 20-1. -/
def blkHk : RegBlk := ⟨0x6000000, 0x1000, 1, 0x1000, rowsHk0 ++ rowsHk1 ++ rowsHk2⟩

/-- Rows of the block "Thermal" (Table 20-1), part 0. -/
def rowsTh0 : List RegRow := [
  ⟨0x0, 0x4, 1, [⟨8, 4, .ro, 0, 0, 0, []⟩, ⟨4, 4, .ro, 0, 0, 0, []⟩, ⟨3, 1, .w1f, 0, 0, 0, []⟩, ⟨2, 1, .ro, 0, 0, 0, []⟩, ⟨0, 2, .ro, 0, 0, 0, []⟩]⟩,
  ⟨0x4, 0x4, 1, [⟨0, 8, .ro, 0xff, 0, 0, []⟩]⟩,
  ⟨0x10, 0x4, 1, [⟨24, 8, .rw, 0x6e, 0, 0, []⟩, ⟨16, 8, .rw, 0x76, 0, 0, []⟩, ⟨8, 8, .rw, 0x7b, 0, 0, []⟩, ⟨0, 8, .rw, 0x82, 0, 0, []⟩]⟩,
  ⟨0x14, 0x4, 1, [⟨16, 16, .rw, 0xa, 1, 600, []⟩, ⟨0, 5, .rw, 5, 1, 20, []⟩]⟩,
  ⟨0x20, 0x4, 4, [⟨24, 1, .rw, 1, 0, 0, []⟩, ⟨16, 8, .rw, 0, 0, 0, []⟩, ⟨8, 8, .rw, 0x69, 0, 0, []⟩, ⟨0, 8, .rw, 0x6e, 0, 0, []⟩]⟩,
  ⟨0x40, 0x4, 1, [⟨0, 32, .st, 0, 0, 0, []⟩]⟩,
  ⟨0x44, 0x4, 1, [⟨0, 32, .ro, 0, 0, 0, []⟩]⟩,
  ⟨0x48, 0x4, 1, [⟨0, 32, .ro, 0, 0, 0, []⟩]⟩,
  ⟨0x4C, 0x4, 1, [⟨0, 32, .ro, 0, 0, 0, []⟩]⟩,
  ⟨0x50, 0x4, 1, [⟨0, 32, .ro, 0, 0, 0, []⟩]⟩,
  ⟨0x54, 0x4, 1, [⟨0, 32, .ro, 0, 0, 0, []⟩]⟩,
  ⟨0x58, 0x4, 1, [⟨0, 32, .ro, 0, 0, 0, []⟩]⟩,
  ⟨0x60, 0x4, 1, [⟨0, 16, .ro, 0, 0, 0, []⟩]⟩,
  ⟨0x64, 0x4, 1, [⟨0, 16, .ro, 0, 0, 0, []⟩]⟩,
  ⟨0x80, 0x4, 1, [⟨0, 32, .w1n, 0, 0, 0, []⟩]⟩,
  ⟨0x84, 0x4, 1, [⟨0, 32, .w1n, 0, 0, 0, []⟩]⟩,
  ⟨0x88, 0x4, 1, [⟨0, 32, .w1n, 0, 0, 0, []⟩]⟩,
  ⟨0x8C, 0x4, 1, [⟨0, 32, .w1n, 0, 0, 0, []⟩]⟩]

/-- Thermal: base, stride, instances and span of Table 20-1. -/
def blkTh : RegBlk := ⟨0x6001000, 0x800, 1, 0x800, rowsTh0⟩

/-- Rows of the block "Calibration" (Table 20-1), part 0. -/
def rowsCal0 : List RegRow := [
  ⟨0x0, 0x4, 1, [⟨8, 8, .rw, 0xa, 2, 10, []⟩, ⟨0, 1, .rw, 1, 0, 0, []⟩]⟩,
  ⟨0x4, 0x4, 1, [⟨8, 4, .ro, 0, 0, 0, []⟩, ⟨3, 1, .w1f, 0, 0, 0, []⟩, ⟨2, 1, .w1f, 0, 0, 0, []⟩, ⟨1, 1, .ro, 0, 0, 0, []⟩, ⟨0, 1, .ro, 0, 0, 0, []⟩]⟩,
  ⟨0x8, 0x4, 1, [⟨0, 32, .ro, 0, 0, 0, []⟩]⟩,
  ⟨0xC, 0x4, 1, [⟨0, 16, .ro, 0, 0, 0, []⟩]⟩,
  ⟨0x10, 0x4, 1, [⟨16, 16, .ro, 0, 0, 0, []⟩]⟩,
  ⟨0x20, 0x4, 1, [⟨0, 32, .st, 0, 0, 0, []⟩]⟩,
  ⟨0x24, 0x4, 1, [⟨24, 8, .ro, 0, 0, 0, []⟩, ⟨16, 8, .ro, 0, 0, 0, []⟩, ⟨0, 16, .ro, 0, 0, 0, []⟩]⟩,
  ⟨0x28, 0x4, 1, [⟨0, 32, .ro, 0, 0, 0, []⟩]⟩,
  ⟨0x2C, 0x4, 1, [⟨0, 32, .ro, 0, 0, 0, []⟩]⟩,
  ⟨0x30, 0x4, 1, [⟨0, 16, .ro, 0, 0, 0, []⟩]⟩,
  ⟨0x40, 0x4, 1, [⟨0, 32, .w1n, 0, 0, 0, []⟩]⟩,
  ⟨0x44, 0x4, 1, [⟨0, 32, .w1n, 0, 0, 0, []⟩]⟩,
  ⟨0x48, 0x4, 1, [⟨0, 32, .w1n, 0, 0, 0, []⟩]⟩,
  ⟨0x4C, 0x4, 1, [⟨0, 32, .w1n, 0, 0, 0, []⟩]⟩]

/-- Calibration: base, stride, instances and span of Table 20-1. -/
def blkCal : RegBlk := ⟨0x6001800, 0x800, 1, 0x800, rowsCal0⟩

/-- Rows of the block "Illuminator" (Table 20-1), part 0. -/
def rowsIll0 : List RegRow := [
  ⟨0x0, 0x4, 1, [⟨22, 10, .rw, 0x32, 0, 1000, []⟩, ⟨12, 10, .rw, 0x32, 0, 1000, []⟩, ⟨0, 6, .rw, 4, 1, 63, []⟩]⟩,
  ⟨0x4, 0x4, 1, [⟨0, 8, .rw, 0x6e, 0, 0, []⟩]⟩,
  ⟨0x8, 0x4, 1, [⟨4, 4, .ro, 0, 0, 0, []⟩, ⟨1, 1, .w1f, 0, 0, 0, []⟩, ⟨0, 1, .ro, 0, 0, 0, []⟩]⟩,
  ⟨0xC, 0x4, 1, [⟨0, 16, .ro, 0xffff, 0, 0, []⟩]⟩,
  ⟨0x100, 0x40, 4, [⟨1, 2, .rw, 0, 0, 0, []⟩, ⟨0, 1, .rw, 0, 0, 0, []⟩]⟩,
  ⟨0x104, 0x40, 4, [⟨0, 16, .rw, 0, 0, 0, []⟩]⟩,
  ⟨0x108, 0x40, 4, [⟨24, 8, .rw, 0x80, 0, 0, []⟩, ⟨12, 12, .rw, 0xbb8, 0, 0, []⟩, ⟨0, 12, .rw, 0x190, 0, 0, []⟩]⟩,
  ⟨0x10C, 0x40, 4, [⟨6, 1, .ro, 0, 0, 0, []⟩, ⟨5, 1, .ro, 0, 0, 0, []⟩, ⟨4, 1, .w1f, 0, 0, 0, []⟩, ⟨3, 1, .w1f, 0, 0, 0, []⟩, ⟨2, 1, .w1f, 0, 0, 0, []⟩, ⟨1, 1, .w1f, 0, 0, 0, []⟩, ⟨0, 1, .ro, 0, 0, 0, []⟩]⟩,
  ⟨0x110, 0x40, 4, [⟨0, 32, .st, 0, 0, 0, []⟩]⟩,
  ⟨0x114, 0x40, 4, [⟨16, 16, .ro, 0, 0, 0, []⟩, ⟨0, 16, .ro, 0, 0, 0, []⟩]⟩,
  ⟨0x118, 0x40, 4, [⟨0, 16, .ro, 0, 0, 0, []⟩]⟩,
  ⟨0x11C, 0x40, 4, [⟨0, 32, .ro, 0, 0, 0, []⟩]⟩,
  ⟨0x120, 0x40, 4, [⟨0, 32, .ro, 0, 0, 0, []⟩]⟩,
  ⟨0x130, 0x40, 4, [⟨0, 32, .w1n, 0, 0, 0, []⟩]⟩,
  ⟨0x134, 0x40, 4, [⟨0, 32, .w1n, 0, 0, 0, []⟩]⟩,
  ⟨0x138, 0x40, 4, [⟨0, 32, .w1n, 0, 0, 0, []⟩]⟩,
  ⟨0x13C, 0x40, 4, [⟨0, 32, .w1n, 0, 0, 0, []⟩]⟩]

/-- Illuminator: base, stride, instances and span of Table 20-1. -/
def blkIll : RegBlk := ⟨0x6100000, 0x400, 1, 0x400, rowsIll0⟩

/-- Rows of the block "Fault manager" (Table 20-1), part 0. -/
def rowsFm0 : List RegRow := [
  ⟨0x0, 0x4, 1, [⟨3, 1, .ro, 0, 0, 0, []⟩, ⟨2, 1, .ro, 0, 0, 0, []⟩, ⟨0, 2, .ro, 0, 0, 0, []⟩]⟩,
  ⟨0x4, 0x4, 1, [⟨0, 14, .rw, 0x64, 10, 10000, []⟩]⟩,
  ⟨0x8, 0x4, 1, [⟨0, 32, .ro, 0, 0, 0, []⟩]⟩,
  ⟨0x10, 0x4, 1, [⟨31, 1, .w1f, 0, 0, 0, []⟩, ⟨16, 2, .ro, 0, 0, 0, []⟩, ⟨0, 8, .ro, 0, 0, 0, []⟩]⟩,
  ⟨0x14, 0x4, 1, [⟨16, 16, .ro, 0, 0, 0, []⟩, ⟨0, 16, .ro, 0, 0, 0, []⟩]⟩,
  ⟨0x18, 0x4, 1, [⟨0, 32, .ro, 0, 0, 0, []⟩]⟩,
  ⟨0x1C, 0x4, 1, [⟨0, 32, .ro, 0, 0, 0, []⟩]⟩,
  ⟨0x20, 0x4, 1, [⟨0, 32, .ro, 0, 0, 0, []⟩]⟩,
  ⟨0x40, 0x4, 8, [⟨0, 32, .ro, 0, 0, 0, []⟩]⟩,
  ⟨0x100, 0x4, 16, [⟨0, 32, .rw, 0, 0, 0, []⟩]⟩,
  ⟨0x300, 0x4, 1, [⟨0, 32, .w1n, 0, 0, 0, []⟩]⟩,
  ⟨0x304, 0x4, 1, [⟨0, 32, .w1n, 0, 0, 0, []⟩]⟩,
  ⟨0x308, 0x4, 1, [⟨0, 32, .w1n, 0, 0, 0, []⟩]⟩,
  ⟨0x30C, 0x4, 1, [⟨0, 32, .w1n, 0, 0, 0, []⟩]⟩,
  ⟨0x310, 0x4, 1, [⟨0, 32, .w1n, 0, 0, 0, []⟩]⟩]

/-- Fault manager: base, stride, instances and span of Table 20-1. -/
def blkFm : RegBlk := ⟨0x7000000, 0x1000, 1, 0x1000, rowsFm0⟩

/-- Rows of the block "Recorder" (Table 20-1), part 0. -/
def rowsRec0 : List RegRow := [
  ⟨0x0, 0x4, 1, [⟨8, 4, .ro, 0, 0, 0, []⟩, ⟨0, 3, .ro, 0, 0, 0, []⟩]⟩,
  ⟨0x4, 0x4, 1, [⟨0, 32, .w1n, 0, 0, 0, []⟩]⟩,
  ⟨0x8, 0x4, 1, [⟨0, 32, .w1n, 0, 0, 0, []⟩]⟩,
  ⟨0xC, 0x4, 1, [⟨0, 32, .ro, 0, 0, 0, []⟩]⟩,
  ⟨0x40, 0x4, 8, [⟨0, 32, .ro, 0, 0, 0, []⟩]⟩]

/-- Recorder: base, stride, instances and span of Table 20-1. -/
def blkRec : RegBlk := ⟨0x7001000, 0x1000, 1, 0x1000, rowsRec0⟩

/-- Rows of the block "Monitor" (Table 20-1), part 0. -/
def rowsMon0 : List RegRow := [
  ⟨0x0, 0x4, 1, [⟨4, 2, .rw, 0, 0, 0, []⟩, ⟨0, 1, .rw, 1, 0, 0, []⟩]⟩,
  ⟨0x4, 0x4, 1, [⟨2, 1, .ro, 0, 0, 0, []⟩, ⟨1, 1, .ro, 0, 0, 0, []⟩, ⟨0, 1, .ro, 0, 0, 0, []⟩]⟩,
  ⟨0x8, 0x4, 1, [⟨0, 32, .w1n, 0, 0, 0, []⟩]⟩,
  ⟨0xC, 0x4, 1, [⟨0, 32, .w1n, 0, 0, 0, []⟩]⟩,
  ⟨0x10, 0x4, 1, [⟨0, 32, .w1n, 0, 0, 0, []⟩]⟩,
  ⟨0x14, 0x4, 1, [⟨0, 32, .w1n, 0, 0, 0, []⟩]⟩]

/-- Monitor: base, stride, instances and span of Table 20-1. -/
def blkMon : RegBlk := ⟨0x7002000, 0x1000, 1, 0x1000, rowsMon0⟩

/-- R446, Table 20-1: the blocks of the address space, and no others. -/
def regBlocks : List RegBlk := [
  blkSys, blkCmd, blkStr, blkBnk, blkSht, blkLim, blkLoop, blkSteer,
  blkTraj, blkRx, blkCh, blkPe, blkSlc, blkPs, blkCam, blkCtx,
  blkPipe, blkFus, blkDsp, blkOz, blkEth, blkTb, blkSyn, blkMem,
  blkSaf, blkHk, blkTh, blkCal, blkIll, blkFm, blkRec, blkMon]

/-- Part 0 of the instance-dependent reset words. -/
def resetOver0 : List (Nat × Nat) := [
  (0x10, 0x1000000), (0x144, 0x6), (0x180, 0x8067), (0x24404, 0x1), (0x30004, 0x100),
  (0x30090, 0x80000000), (0x300A4, 0x7FFFFFFF), (0x300CC, 0x100), (0x300D0, 0x200), (0x300D4, 0x400),
  (0x30418, 0x10), (0x30450, 0x0), (0x304A4, 0x7FFFFFFF), (0x30800, 0x8), (0x30804, 0x100),
  (0x30818, 0x10), (0x30850, 0x0), (0x308A4, 0x7FFFFFFF), (0x30C04, 0x140000), (0x30C18, 0x10),
  (0x30C50, 0x0), (0x30CA4, 0x7FFFFFFF), (0x31004, 0x200), (0x31018, 0x10), (0x31050, 0x0),
  (0x310A4, 0x7FFFFFFF), (0x31400, 0x100), (0x31404, 0x7D00000), (0x31418, 0x10), (0x31450, 0x0),
  (0x314A4, 0x7FFFFFFF), (0x31804, 0x7D00000), (0x31818, 0x10), (0x31850, 0x0), (0x318A4, 0x7FFFFFFF),
  (0x31C04, 0x200), (0x31C18, 0x10), (0x31C50, 0x0), (0x31CA4, 0x7FFFFFFF), (0x40020, 0x11008000)]

/-- Part 1 of the instance-dependent reset words. -/
def resetOver1 : List (Nat × Nat) := [
  (0x40024, 0x28040006), (0x40028, 0x38100030), (0x4002C, 0x482800C0), (0x40030, 0x585001E0), (0x40034, 0x680003C0),
  (0x40080, 0xF0F0F0F), (0x40084, 0xF0F0F0F), (0x40104, 0xFFF), (0x41014, 0x5), (0x41214, 0x5),
  (0x41414, 0x5), (0x41614, 0x5), (0x41814, 0x5), (0x41A14, 0x5), (0x41C14, 0x5),
  (0x41E14, 0x5), (0x42000, 0x9000), (0x42014, 0x5), (0x42200, 0x9000), (0x42214, 0x5),
  (0x42400, 0x9000), (0x42414, 0x5), (0x42600, 0x9000), (0x42614, 0x5), (0x4000400, 0x4030280E),
  (0x4000800, 0x4030280E), (0x400100C, 0xA9FE0100), (0x4001010, 0xFFFF0000), (0x4100004, 0x81), (0x5000400, 0x1),
  (0x5000404, 0x7D0), (0x5000408, 0x2), (0x5000410, 0x3), (0x5000418, 0x4), (0x5000420, 0x10),
  (0x5000428, 0x11), (0x500042C, 0x2), (0x5000430, 0x12), (0x5000434, 0x96), (0x5000438, 0x20)]

/-- Part 2 of the instance-dependent reset words. -/
def resetOver2 : List (Nat × Nat) := [
  (0x500043C, 0x6432), (0x5000440, 0x21), (0x5000444, 0x6432), (0x5000448, 0x22), (0x500044C, 0x6432),
  (0x5000450, 0x23), (0x5000454, 0x6432), (0x5000458, 0x24), (0x500045C, 0x6432), (0x5000460, 0x25),
  (0x5000464, 0x6432), (0x5000468, 0x26), (0x500046C, 0x640A0A), (0x5000470, 0x27), (0x5000474, 0x640A0A),
  (0x5000478, 0x30), (0x500047C, 0x2), (0x5000480, 0x31), (0x5000484, 0x2), (0x5000488, 0x32),
  (0x500048C, 0x2), (0x5000490, 0x33), (0x5000494, 0x2), (0x5000498, 0x40), (0x500049C, 0x3E800C8),
  (0x50004A0, 0x41), (0x50004A4, 0x3E800C8), (0x50004A8, 0x42), (0x50004AC, 0x3E800C8), (0x50004B0, 0x43),
  (0x50004B4, 0x3E800C8), (0x50004B8, 0x50), (0x50004BC, 0x13880064), (0x50004C0, 0x60), (0x50004C8, 0x100),
  (0x50004D0, 0x101), (0x50004D8, 0x102), (0x50004E0, 0x103), (0x50004E8, 0x104), (0x50004F0, 0x105)]

/-- Part 3 of the instance-dependent reset words. -/
def resetOver3 : List (Nat × Nat) := [
  (0x50004F8, 0x106), (0x5000500, 0x107), (0x5000508, 0x108), (0x5000510, 0x600), (0x5000518, 0x601),
  (0x5000520, 0x602), (0x5000528, 0x603), (0x5000530, 0x604), (0x5000538, 0x605), (0x5000540, 0x606),
  (0x5000548, 0x607), (0x6000040, 0x80110000), (0x6000044, 0x80110001), (0x6000048, 0x80110002), (0x600004C, 0x80110003),
  (0x6000050, 0x800E000A), (0x6000054, 0x800E000B), (0x6000058, 0x800E000C), (0x600005C, 0x800E0010), (0x6000060, 0x800E000F),
  (0x6000064, 0x800E000D), (0x6000068, 0x800E000E), (0x600006C, 0x800E0009), (0x6000070, 0x800E0011), (0x6000074, 0x80000012),
  (0x6000078, 0x80000019), (0x600007C, 0x80000018), (0x6000500, 0xA2010000), (0x6000580, 0xA2010000), (0x6001020, 0x15F696E),
  (0x6001024, 0x15F696E), (0x6001028, 0x5F696E), (0x600102C, 0x5A696E), (0x7000100, 0x4F750), (0x7000108, 0x31CA0),
  (0x7000110, 0xF0), (0x7000114, 0x400C), (0x7000118, 0x50D150D1), (0x700011C, 0x50D150D1), (0x7000120, 0x30)]

/-- Part 4 of the instance-dependent reset words. -/
def resetOver4 : List (Nat × Nat) := [
  (0x700012C, 0x100), (0x7000130, 0x40000), (0x7000134, 0xC40), (0x7000138, 0x4110000), (0x700013C, 0x11)]

/-- The words whose reset value depends on the instance or that the boot flow sets (R454): loop table 5-1, ladder table 6-4,
round table 16-2, thresholds 17-2 and 5-6, classes 19-5, parameters 15-9, Ethernet address R311. -/
def resetOver : List (Nat × Nat) := resetOver0 ++ resetOver1 ++ resetOver2 ++ resetOver3 ++ resetOver4

end Sys2Proof.Machine
end

