-- ==== Sys2Proof/Machine/Sparse.lean ====
section
/-! DEFINITION. Sparse maps in one canonical form: a list of key and value pairs, keys strictly rising, no entry equal to what an
unlisted key reads as. Registers, memories and per-instance records are kept so. -/

namespace Sys2Proof.Machine

/-- The value at key `k`; an unlisted key reads `d k`. -/
def spGet {α : Type} (d : Nat → α) : List (Nat × α) → Nat → α
  | [], k => d k
  | (k', v) :: r, k => if k = k' then v else spGet d r k

/-- List `v` at key `k`, before the first greater key. -/
def spPut {α : Type} : List (Nat × α) → Nat → α → List (Nat × α)
  | [], k, v => [(k, v)]
  | (k', v') :: r, k, v =>
    if k < k' then (k, v) :: (k', v') :: r
    else if k = k' then (k, v) :: r
    else (k', v') :: spPut r k v

/-- Store `v` at key `k`, keeping the canonical form: the value that an unlisted key reads is not listed. -/
def spSet {α : Type} [DecidableEq α] (d : Nat → α) (m : List (Nat × α)) (k : Nat) (v : α) : List (Nat × α) :=
  if v = d k then m.filter (fun e => e.1 != k) else spPut m k v

/-- Keys strictly rising. -/
def spRising {α : Type} : List (Nat × α) → Bool
  | [] => true
  | [_] => true
  | (k, _) :: (k', v') :: r => decide (k < k') && spRising ((k', v') :: r)

/-- The canonical form. -/
def spWf {α : Type} [DecidableEq α] (d : Nat → α) (m : List (Nat × α)) : Bool :=
  spRising m && m.all (fun e => decide (e.2 ≠ d e.1))

/-- Keep the entries whose key meets `p`. -/
def spKeep {α : Type} (p : Nat → Bool) (m : List (Nat × α)) : List (Nat × α) :=
  m.filter (fun e => p e.1)

/-- Store a list of values at consecutive keys. -/
def spSetList {α : Type} [DecidableEq α] (d : Nat → α) (m : List (Nat × α)) (k : Nat) : List α → List (Nat × α)
  | [] => m
  | v :: vs => spSetList d (spSet d m k v) (k + 1) vs

/-- Read `n` values at consecutive keys. -/
def spGetList {α : Type} (d : Nat → α) (m : List (Nat × α)) (k : Nat) : Nat → List α
  | 0 => []
  | n + 1 => spGet d m k :: spGetList d m (k + 1) n

end Sys2Proof.Machine
end

