-- ==== Sys2Proof/Config.lean ====
section
/-! DEFINITION. What an implementation fixes and the spec leaves open: free values. Each is an opaque constant without a body, so
no proof can see a value of it; each is named in notes/assumptions. -/

namespace Sys2Proof.Config

/-- A value the spec leaves open, drawn afresh: the model applies it to State's counter `free` and advances the counter. -/
opaque freeNat : Nat → Nat

/-- A byte the spec leaves open, drawn afresh as `freeNat` is. -/
opaque freeByte : Nat → Byte

/-- A choice of DEFLATE data the spec leaves to the engine's match search (R235); the model uses it only where it inflates to the
record it stands for. -/
opaque deflate : Nat → List Byte

/-- What one reference of the housekeeping converter means at the signal of a voltage input, in µV: the divider and the reference are the device's (R369). -/
opaque microvolts : Nat → Int

end Sys2Proof.Config
end

