-- ==== Sys2Proof/Machine/State.lean ====
section
/-! DEFINITION. The state of the block as plain data: the register file, the memories, and for each chapter the state its rules
give the device beside its registers; then the state right after reset. -/

namespace Sys2Proof.Machine

/-! ### Command engine (chapter 2) -/

/-- The prefix and data of a final or ACCEPTED answer (Table 2-4). -/
structure Answer where
  status : Byte
  detail : Byte
  time : BitVec 64
  data : List Byte
  deriving DecidableEq, Repr

/-- How far a consumed command's answer is (R42). -/
inductive AnsState where
  | undecided
  | accepted (a : Answer)
  | final (a : Answer)
  deriving DecidableEq, Repr

/-- One cached answer (R42). -/
structure CacheEnt where
  seq : BitVec 16
  op : Nat
  ans : AnsState
  deriving DecidableEq, Repr

/-- An event entry waiting in a transport's pending list (Table 19-3). -/
structure EvEnt where
  ev : Nat
  cls : Nat
  rep : Nat
  inst : Nat
  dat : Nat
  time : BitVec 64
  deriving DecidableEq, Repr

/-- What the device keeps for one transport or UDP peer (R39, R42, R424, R425). -/
structure Session where
  known : Bool
  expSeq : BitVec 16
  cache : List CacheEnt
  mask : BitVec 256
  evs : List EvEnt
  lost : Nat
  eseq : BitVec 16
  lastHeard : Nat
  deriving DecidableEq, Repr

/-- A transport or peer the device has not heard from since reset. -/
def Session.fresh : Session := ⟨false, 0, [], 0, [], 0, 0, 0⟩

/-- A command that has passed step 6 of Table 2-5 and waits for its execution (R35, R44). -/
structure Held where
  port : Port
  seq : BitVec 16
  op : Nat
  data : List Byte
  deriving DecidableEq, Repr

/-- An ACCEPTED command in progress (R31, R33), with the loop, port, slot, context or capture it names. -/
structure Running where
  op : Nat
  port : Port
  seq : BitVec 16
  tag : Nat
  deriving DecidableEq, Repr

/-- The command engine of domain 66: sessions, the SPI outbound queue, commands consumed and waiting (R35, R44), resends that
wait for an answer (R42), ACCEPTED commands in progress (R31), and commands whose final status is decided at a later boundary
(SCAN_STOP, LOOP_COEF_SET). -/
structure CmdSt where
  spi : Session
  oazil : Session
  udp : List (Peer × Session)
  outq : List (List Byte)
  held : List Held
  resend : List (Port × BitVec 16)
  running : List Running
  deferred : List Running
  deriving DecidableEq, Repr

/-! ### Power, reset and boot (chapters 1 and 3) -/

/-- The power states, with OFF, a boot in progress, and the entry to DORMANT. -/
inductive PowerState where
  | off
  | booting
  | ready
  | scanning
  | safeHold
  | thermalLatch
  | dormantEntry
  | dormant
  deriving DecidableEq, Repr

/-- Reset kinds of Table 3-2. -/
inductive ResetKind where
  | cold
  | warm
  | wake
  deriving DecidableEq, Repr

/-- Where a boot stands. -/
inductive BootPhase where
  | idle
  | rails
  | rom
  | verify
  | download
  | selfTest
  | failed
  deriving DecidableEq, Repr

/-- A boot in progress (R73, R76, R82): phase, kind, slots still to try, the trial slot, the strap, the next group of domains,
the slot under check, the sequence of the record in force and which copy holds it, the CAUSE after boot. -/
structure BootSt where
  phase : BootPhase
  kind : ResetKind
  order : List Nat
  trial : Option Nat
  strap : BitVec 2
  group : Nat
  slot : Nat
  recSeq : Option Nat
  recCopy : Nat
  first : Nat
  causeAfter : Byte
  brownout : Bool
  deriving DecidableEq, Repr

/-- A firmware image update in progress (R80): slot, length, bytes written, whether its erase has finished, whether FW_VERIFY
passed. -/
structure FwUpdate where
  slot : Nat
  len : Nat
  written : Nat
  erased : Bool
  verified : Bool
  deriving DecidableEq, Repr

/-- The power-state controller (domain 64) and what the boot leaves. `holdByCmd`: SAFE_HOLD entered by command; `reload`: domains on since READY whose
"cal" fields are not yet reloaded (R454); `clkBad`: the last comparison of R12 failed. -/
structure PowerSt where
  st : PowerState
  cause : Byte
  holdByCmd : Bool
  latchFlag : Bool
  trialAttempt : Bool
  dormPend : Option Port
  wakeLatched : Option (BitVec 2)
  rebootPend : Bool
  romOnly : Bool
  running : Byte
  boot : BootSt
  fw : Option FwUpdate
  staging : List Byte
  verified0 : Bool
  verified1 : Bool
  reload : List Nat
  clkBad : Bool
  deriving DecidableEq, Repr

/-- One-time programmable memory (R78, R441, R449): unit word, MAC address, monitor key, image keys, revocation bits, security
counter. Nothing but the boot firmware's advance of the counter writes it. -/
structure Otp where
  unitId : BitVec 64
  mac : BitVec 48
  monKey : List Byte
  keys : List (List Byte)
  revoked : BitVec 4
  secCounter : Nat
  deriving DecidableEq, Repr

/-! ### Faults (chapter 19) -/

/-- A fault on its way through the fault manager, and an entry of the fault log (R429, R433). -/
structure FaultRec where
  ev : Nat
  cls : Nat
  inst : Nat
  dat : Nat
  time : BitVec 64
  deriving DecidableEq, Repr

/-- The fault manager beside its registers: faults not yet processed, the log (newest first, at most 64, with indices), and the
events whose last raising had class EMIT_OFF or above (their active causes count toward recovery, R428). -/
structure FmSt where
  queue : List FaultRec
  log : List (Nat × FaultRec)
  counted : BitVec 256
  deriving DecidableEq, Repr

/-- A capture held in a recorder slot (R438, Table 19-11). -/
structure Capture where
  forced : Bool
  preShort : Bool
  trig : Nat
  time : BitVec 64
  num : Nat
  pre : Nat
  preValid : Nat
  src : List Byte
  missed : Nat
  samples : List Byte
  deriving DecidableEq, Repr

/-- The shot-monitor recorder beside its registers (R435 to R439): slots, device time at which PRE_FILL began, and of the capture under way PRE_VALID, FORCED and TIME; the slot a
RECORDER_READ names. -/
structure RecSt where
  slots : List (Nat × Capture)
  fillAt : Nat
  preValid : Nat
  forced : Bool
  trigTime : BitVec 64
  reading : Option Nat
  deriving DecidableEq, Repr

/-- The Brixut monitor beside its registers (R440 to R443): NONCE, device times of failures, output lines waiting, lines lost, and the time (4 ns ticks)
at which the first waiting line began to leave. -/
structure MonSt where
  nonce : BitVec 32
  fails : List Nat
  lines : List (List Byte)
  lostRun : Nat
  since : Nat
  deriving DecidableEq, Repr

/-! ### Time base (chapter 13) -/

/-- Device time in ns, its 32 fraction bits (R313), and TIME ticks since boot. -/
structure TimeSt where
  dev : BitVec 64
  frac : Nat
  tick : Nat
  hiLatch : Word
  deriving DecidableEq, Repr

/-- What left the device: the model's own record of its outputs, newest first. -/
inductive Out where
  | datagram (dst : Peer) (bytes : List Byte)
  | streamDatagram (dst : Peer) (bytes : List Byte)
  | block (port : Nat) (lanes : List (List Byte))
  | spi (bytes : List Byte)
  | ether (kind dst : Nat) (bytes : List Byte)
  | aux (port : Nat) (bytes : List Byte)
  | syncPulse (cls : Nat)
  | shot (bank : Nat) (mask : Nat) (offset : Nat)
  | pixels (disp : Nat) (line : Nat) (bytes : List Byte)
  | uart (line : List Byte)
  deriving DecidableEq, Repr

/-! ### Emitter strings and shots (chapter 4) -/

/-- Outcome of a slot (R97); `consented`: the limiter has consented and the gates have not yet risen. -/
inductive ShotOutcome where
  | none
  | consented
  | fired
  | denied
  | inhibited
  | untriggered
  | empty
  deriving DecidableEq, Repr

/-- A string beside its registers: consecutive skips (R92), the running block of firings and its bad pulses (R110), the figures
of the column for STR_MEAS, STR_DRIVE in force (R95), whether its charge stage runs (R91), whether its gate is up this shot. -/
structure StringSt where
  skips : Nat
  blkN : Nat
  blkBad : Nat
  colFired : Bool
  vRun : Nat
  vLast : Nat
  vMin : Nat
  wMin : Nat
  wMax : Nat
  drive : Word
  charging : Bool
  deriving DecidableEq, Repr

/-- A bank beside its registers: the next slot's column and shot index, the samples for it (R92), the latched angle (R106, R134),
the slot under way with its descriptor (R97) and cost, consecutive shots without a start (R111), the frame of the last denial
event, the charge window (R91), the trigger claim
(R102: 0 none, 1 the next slot, 2 the slot after it) and configuration in force (R101), shots fired this column, and what BANK_LIM publishes. -/
structure BankSt where
  col : Nat
  next : Nat
  v : List Nat
  angleOk : Bool
  cell : Nat
  rxMask : Nat
  curCol : Nat
  curShot : Nat
  offset : Nat
  fireMask : Nat
  curRx : Nat
  outcome : ShotOutcome
  cost : Nat
  noStart : Nat
  denyFrame : Option Nat
  window : Bool
  claimed : Nat
  trig : Word
  firedCol : Nat
  dualCol : Bool
  limCell : Nat
  limCellSum : Nat
  limNoAngle : Bool
  deriving DecidableEq, Repr

/-- Where a scan stands: none; loops settling (R131); the boundary of column 0 fixed (R474); columns running. -/
inductive ScanPhase where
  | idle
  | settling
  | fixed
  | running
  deriving DecidableEq, Repr

/-- The scan: phase, whether it is the settling of a RESTART, the profile it runs, the profile an accepted SCAN_START named last (R6), the column of the profile, SCAN_STOP or
a RESTART wanted at the next boundary, frames since boot, whether the approach of the set-point has ended, the coarse clock of the boundary of column 0,
and the columns begun in earlier scans. -/
structure ScanSt where
  phase : ScanPhase
  restart : Bool
  profile : Nat
  named : Nat
  column : Nat
  stopWanted : Bool
  restartWanted : Bool
  frame : Nat
  approachDone : Bool
  origin : Nat
  base : Nat
  deriving DecidableEq, Repr

/-- The shot scheduler, string and bank control and the energy limiter (domain 68). `cells` and `longs` hold the nine sub-windows
of each sum of R107, current first: key group * 64 + cell, and group. -/
structure ShotSt where
  strings : List (Nat × StringSt)
  banks : List (Nat × BankSt)
  lfsr : Nat
  cells : List (Nat × List Nat)
  longs : List (Nat × List Nat)
  chargeTest : Option (Nat × Nat)
  fForce : Nat
  deratedLast : Bool
  deriving DecidableEq, Repr

/-- A string as its domain switches on. -/
def StringSt.init : StringSt := ⟨0, 0, 0, false, 0, 0, 0, 0, 0, 0x0FA00400, false⟩

/-- A bank as its domain switches on. -/
def BankSt.init : BankSt := ⟨0, 0, [0, 0, 0, 0], false, 0, 0, 0, 0, 0, 0, 0, .none, 0, 0, .none, false, 0, 0, 0, false, 0, 0, false⟩

/-- The scheduler as its domain switches on. -/
def ShotSt.init : ShotSt := ⟨[], [], 1, [], [], .none, 1024, false⟩

/-! ### Loops and steering (chapter 5) -/

/-- A loop beside its registers: the state of R120, its last sample, the value at its destination, the set-point in force, inner
samples since its outer loop ran (R118), samples in band (R130), the latest value of a slow source, the supervisor's counts and
windows (R135), HOLD at Loop 1's next sample (R136), output forced to OFF (R137), and clean and missed results of its source. -/
structure LoopSt where
  integ : Int
  df : Int
  xPrev : Int
  ePrev : Int
  uPrev : Int
  out : Int
  sp : Int
  casc : Nat
  inBand : Nat
  src : Option Int
  fbOut : Nat
  fbAbsent : Nat
  winY : List Int
  winD : List Int
  winR : List Int
  holdPend : Bool
  forced : Bool
  clean : Nat
  missed : Nat
  deriving DecidableEq, Repr

/-- The loop engine beside its registers: the loops, the last four samples of the three converters with the validity of the last,
the absolute angle, the sample nearest the column's centre (distance, angle, validity; R133), the active user table (empty: the
built-in one), whether the last Loop 2 sample was limited (R145), the last HV. -/
structure LoopsSt where
  loops : List (Nat × LoopSt)
  ys : List Int
  yOk : Bool
  isns : List Int
  iOk : Bool
  hv : List Int
  angle : Nat
  best : Option (Nat × Nat × Bool)
  table : List Int
  hvLimited : Bool
  hvSpad : Nat
  deriving DecidableEq, Repr

/-- A loop as domain 67 switches on: OFF; Loop 7 without a ceiling. -/
def LoopSt.init (n : Nat) : LoopSt :=
  ⟨0, 0, 0, 0, 0, if n = 7 then 65536 else 0, 0, 0, 0, .none, 0, 0, [], [], [], false, false, 0, 0⟩

/-- The loop engine as domain 67 switches on. -/
def LoopsSt.init : LoopsSt := ⟨[], [], false, [], false, [], 0, .none, [], false, 0⟩

/-! ### Receiver, time measurement, histograms and return extraction (chapters 6 to 9) -/

/-- What a row knows of a shot's start (R168). -/
inductive StartSt where
  | pending
  | none
  | at (s : Int)
  deriving DecidableEq, Repr

/-- A shot a row is armed for: column, shot index, column mask, start. -/
structure RowShot where
  col : Nat
  j : Nat
  mask : Nat
  start : StartSt
  deriving DecidableEq, Repr

/-- A row event held for a start (R168): its row time and the shots in whose spans it lies. -/
structure HeldEv where
  e : Int
  shots : List (Nat × Nat)
  deriving DecidableEq, Repr

/-- A histogram increment in a lane's queue (R183): column, lane, zoom or coarse, counter. -/
structure HistInc where
  col : Nat
  lane : Nat
  zoom : Bool
  key : Nat
  deriving DecidableEq, Repr

/-- One buffer of a row (Table 8-1): the group's column and direction, frame and swap time, the lane counters that are not 0 (coarse:
lane * 2048 + bin; zoom: (lane * 4 + window) * 64 + bin), the windows placed (start, score, centre), the counters of R155, R181,
R182, R185, the ambient of R156, and the flags of R190. -/
structure RowBuf where
  col : Nat
  frame : Nat
  time : BitVec 64
  coarse : List (Nat × Nat)
  zoom : List (Nat × Nat)
  wins : List (Nat × Nat × Nat)
  prestart : Nat
  window : Nat
  holdHit : Nat
  overSpan : Nat
  zoomOut : Nat
  tailCut : Nat
  trackFull : Nat
  amb : Nat
  ambSat : Bool
  biasOff : Bool
  step : Nat
  dual : Bool
  mask : Nat
  eccCe : Bool
  invalid : Bool
  noCand : Bool
  full : Bool
  deriving DecidableEq, Repr

/-- A row front-end and its histogram memory beside the registers: shots armed for, events held, phase time of the last event,
the two buffers, the lane queues, the tracker (oldest first: bin, score), whether the snapshot is taken, the column's SINGLES,
CELLTIME and armed clocks, the survey per macro-pixel (SINGLES, CELLTIME, cell-time and count of the surveyed cell; R159), columns below LOWER (R157),
corrupted words (buffer column, lane * 128 + word; bits; R184), cells to mask at the next boundary (R160). -/
structure RowSt where
  shots : List RowShot
  held : List HeldEv
  last : Option Int
  acc : RowBuf
  rdg : RowBuf
  queue : List HistInc
  tracker : List (Nat × Nat)
  snap : Bool
  singles : Nat
  cellTime : Nat
  armed : Nat
  survey : List (Nat × Nat × Nat × Nat × Nat)
  below : Nat
  corrupt : List (Nat × Nat × Nat)
  maskPend : List (Nat × Nat)
  deriving DecidableEq, Repr

/-- A bank in the receiver: whether a column accumulates, which, the shots with a start per pass and lane of the accumulating and
of the reading buffers (R190), the shot decided last, and the pick-off figures of the column (Table 7-8). -/
structure BankRx where
  isOpen : Bool
  accCol : Nat
  shotsAcc : List Nat
  shotsRdg : List Nat
  decided : Option (Nat × Nat)
  dMin : Option Int
  dMax : Option Int
  dSum : Int
  dLast : Int
  flags : Nat
  starts : Nat
  noStart : Nat
  deriving DecidableEq, Repr

/-- A reference cell (R147): triggers answered and the sum of swings (6.25 mV) in the current 640 µs, updates excluded in a row. -/
structure RefCell where
  answered : Nat
  total : Nat
  excluded : Nat
  deriving DecidableEq, Repr

/-- An open interval measurement (R175): whether a start opened it, the opening stamp in 1/16 reference unit, device time and
fraction of the opening edge. -/
structure OpenMeas where
  byStart : Bool
  stamp : Int
  cc : Nat
  dev : Nat
  frac : Nat
  deriving DecidableEq, Repr

/-- A queue entry of a TIN channel (R176). -/
structure QEntry where
  frac : Nat
  flags : Nat
  interval : Int
  dev : Nat
  deriving DecidableEq, Repr

/-- A reference channel beside its registers: the last accepted edge of each polarity (R172), the open measurement, the queue,
whether a drop has occurred since the last pop, device times of the last unlocks (R169), and the coarse clock
from which the channel is idle (R175). -/
structure ChSt where
  lastRise : Option Nat
  lastFall : Option Nat
  meas : Option OpenMeas
  queue : List QEntry
  dropped : Bool
  unlocks : List Nat
  idleFrom : Nat
  deriving DecidableEq, Repr

/-- A slice beside its registers: columns of its recent uncorrectable errors (R8) and the pending injection (R184): bits, lane,
row. -/
structure SliceSt where
  ueCols : List Nat
  inject : Option (Nat × Nat × Nat)
  deriving DecidableEq, Repr

/-- A return descriptor (Table 9-1) with the fields of the full format (Table 10-5: C, N_A, EXT, SPLIT, FLOOR); `raw`: the
confidence before its lower bound, `bounded`: RANGE was limited (R204). -/
structure Ret where
  range : Nat
  inten : Nat
  raw : Int
  conf : Nat
  diffuse : Bool
  window : Bool
  precip : Bool
  multi : Bool
  foreign : Bool
  sat : Bool
  low : Bool
  bounded : Bool
  win : Nat
  tau : Int
  cnt : Nat
  nA : Nat
  ext : Nat
  split : Int
  floor : Nat
  deriving DecidableEq, Repr

/-- A row's status and returns in a column (Table 9-2), with PU (R201) and the flags the ambient image needs (R230). -/
structure RowOut where
  row : Nat
  absent : Bool
  invalid : Bool
  noCand : Bool
  lowShot : Bool
  excess : Bool
  track : Bool
  dual : Bool
  sat : Bool
  step : Nat
  amb : Nat
  pu : Nat
  biasOff : Bool
  ambSat : Bool
  rets : List Ret
  deriving DecidableEq, Repr

/-- A region's peak engine beside its registers: the rows of the column read so far, the column and whether it is done, a record
held for the self-check (R216), the frame sums of R218 (rows done, returns, excess, foreign, precip, multipath, window events,
shots), consecutive dirty and clean frames, the frames in which the first corrected error and the first full tracker were
reported. -/
structure RegionSt where
  rows : List RowOut
  col : Nat
  checkPend : Bool
  sums : List Nat
  dirtyN : Nat
  cleanN : Nat
  ceFrame : Option Nat
  trackFrame : Option Nat
  deriving DecidableEq, Repr

/-- A histogram dump (R193, R195). -/
structure Dump where
  first : Nat
  rows : Nat
  columns : Nat
  parts : Nat
  since : BitVec 64
  start : Option Nat
  delivered : Nat
  dropped : Nat
  run : Nat
  cancel : Bool
  deriving DecidableEq, Repr

/-- The receiver, the reference channels, the slices and the peak engines. `biasOff`: bit b set where the HV converter was disabled
at some instant of bank b's column (R156); `suspects`: consecutive disagreeing updates (R150). -/
structure RxSt where
  rows : List (Nat × RowSt)
  banks : List (Nat × BankRx)
  refs : List (Nat × RefCell)
  refDropped : Nat
  suspects : Nat
  gradient : Nat
  biasOff : Nat
  chans : List (Nat × ChSt)
  slices : List (Nat × SliceSt)
  regions : List (Nat × RegionSt)
  dump : Option Dump
  deriving DecidableEq, Repr

/-- An empty buffer for column `c`. -/
def RowBuf.empty (c : Nat) : RowBuf := ⟨c, 0, 0, [], [], [], 0, 0, 0, 0, 0, 0, 0, 0, false, false, 0, false, 0, false, false, false, false⟩

/-- A row as its domain switches on. -/
def RowSt.init : RowSt :=
  ⟨[], [], .none, RowBuf.empty 0, RowBuf.empty 0, [], [], false, 0, 0, 0, [], 0, [], []⟩

/-- A bank in the receiver as domain 69 switches on. -/
def BankRx.init : BankRx := ⟨false, 0, [0, 0, 0, 0], [0, 0, 0, 0], .none, .none, .none, 0, 0, 0, 0, 0⟩

/-- A reference cell at the start of an update. -/
def RefCell.init : RefCell := ⟨0, 0, 0⟩

/-- A channel as domain 69 switches on. -/
def ChSt.init : ChSt := ⟨.none, .none, .none, [], false, [], 0⟩

/-- A slice as its domain switches on. -/
def SliceSt.init : SliceSt := ⟨[], .none⟩

/-- A region as its domain switches on. -/
def RegionSt.init : RegionSt := ⟨[], 0, false, [0, 0, 0, 0, 0, 0, 0, 0], 0, 0, .none, .none⟩

/-- The receiver as it switches on. -/
def RxSt.init : RxSt := ⟨[], [], [], 0, 0, 0, 0, [], [], [], .none⟩

/-! ### Memory arbitration (chapter 14) -/

/-- Requests of one source that wait: class, SOURCE, 64-byte requests left, device time of arrival. -/
structure MemReq where
  cls : Nat
  src : Nat
  n : Nat
  since : Nat
  deriving DecidableEq, Repr

/-- The memory controller beside its registers: requests waiting (oldest first), the class 5 bucket in 1/1,000 byte and the device time
it was brought up to, whether the 1 ms after a class 5 refusal runs, the second of the last event per class (R335), whether an exit from
self-refresh runs, and the device time of the entry. -/
structure MemSt where
  waits : List MemReq
  bucket : Nat
  bucketAt : Nat
  hold : Bool
  refusedAt : List (Nat × Nat)
  exiting : Bool
  srSince : Nat
  deriving DecidableEq, Repr

/-- The memory controller as domain 79 switches on, at device time `t`: a full bucket. -/
def MemSt.init (t : Nat) : MemSt := ⟨[], 65536000, t, false, [], false, 0⟩

/-! ### Streams, point stream and compression (chapters 10 and 13) -/

/-- A stream on its way out: units waiting (oldest first), bytes of the first already sent, payload bytes sent since ACTIVE or the
restart (STREAM_BYTE), whether the next block or datagram carries RESYNC. -/
structure TxStream where
  units : List (List Byte)
  off : Nat
  bytes : Nat
  resync : Bool
  deriving DecidableEq, Repr

/-- What the device knows of a column until its record is built, Region S has judged it and the fusion unit has used it: global
index, time of its boundary, frame, direction, FIRED and STARTED per bank, angle (R133), DUAL, the parts present and those late, LAST, an
overrun of the formatter's queue, and which of the three users is done. -/
structure ColInfo where
  c : Nat
  time : BitVec 64
  frame : Nat
  dir : Bool
  fired : List Nat
  started : List Nat
  angle : Option Nat
  dual : Bool
  parts : List (Nat × List RowOut)
  late : Nat
  last : Bool
  overrun : Bool
  built : Bool
  judged : Bool
  fused : Bool
  deriving DecidableEq, Repr

/-- A frame of stream 1 (R229): number, direction, columns of the profile, first boundary, first column, RESTARTED, whether its start
record is placed, column records created, incomplete ones, the boundary that ends it, closed early, profile, K_BIN, FORMAT, SCALE, the last column, AMB_DEC. -/
structure FrameInfo where
  frame : Nat
  dir : Bool
  cols : Nat
  time : BitVec 64
  c0 : Nat
  restarted : Bool
  placed : Bool
  sent : Nat
  incomplete : Nat
  ends : Option (BitVec 64)
  early : Bool
  profile : Nat
  kBin : Nat
  format : Nat
  scale : Nat
  lastCol : Option Nat
  ambDec : Nat
  deriving DecidableEq, Repr

/-- A run of consecutive drops (Table 10-11). -/
structure DropRun where
  reason : Nat
  time : BitVec 64
  first : Nat
  last : Nat
  count : Nat
  deriving DecidableEq, Repr

/-- The ambient group under way (R230): first scan column, columns so far, time, line number, per row the sum and count of AMB, and
whether any column had BIAS_OFF or AMB_SAT. -/
structure AmbAcc where
  first : Nat
  n : Nat
  time : BitVec 64
  rows : List (Nat × (Nat × Nat × Bool × Bool))
  deriving DecidableEq, Repr

/-- A compression context (R236): history, segments since boot, bytes since the last RESET, the MARK and flags (1 CHECKPOINT, 2 RESTORED) of the
next segment. -/
structure Ctx where
  hist : List Byte
  seg : Nat
  total : Nat
  mark : Nat
  flags : Nat
  deriving DecidableEq, Repr

/-- A decompression under way (R240). -/
structure Decomp where
  src : Nat
  srcLen : Nat
  dst : Nat
  limit : Nat
  deriving DecidableEq, Repr

/-- The point stream and the compressor beside their registers: columns in hand, frames on stream 1, the FORMAT in force, runs of
drops on streams 1 and 2, the overflow chain, the ambient group and its line number, the COMP_CONFIG that waits for a frame start
(level, context), contexts, whether the next segment resets its history (R236), the save that waits (context, address), the image captured for it, the image that waits for a
segment boundary (context, image),
the decompression, and bytes below 1 KiB of RAW_IN and COMP_OUT. -/
structure PsSt where
  cols : List ColInfo
  frames : List FrameInfo
  format : Nat
  run1 : Option DropRun
  run2 : Option DropRun
  chain : List (List Byte)
  amb : Option AmbAcc
  acol : Nat
  compPend : Option (Nat × Nat)
  ctxs : List (Nat × Ctx)
  reset : Bool
  save : Option (Nat × Nat)
  saved : Option (Nat × List Byte)
  restore : Option (Nat × List Byte)
  decomp : Option Decomp
  rawRem : Nat
  outRem : Nat
  deriving DecidableEq, Repr

/-- A stream with nothing waiting. -/
def TxStream.init : TxStream := ⟨[], 0, 0, false⟩

/-- A context without history. -/
def Ctx.init : Ctx := ⟨[], 0, 0, 0, 0⟩

/-- The point stream as domain 74 switches on. -/
def PsSt.init : PsSt := ⟨[], [], 0, .none, .none, [], .none, 0, .none, [], true, .none, .none, .none, .none, 0, 0⟩

/-! ### Camera inputs, pipeline and fusion (chapter 11) -/

/-- A frame open at a camera input (R247): CAM_FRAME, CSI_FRAME, TIME, image packets received, LONG, the raw buffer it is written to (none: live),
whether it is a deferred frame, device times of the first and the newest image packet, embedded data kept. -/
structure OpenFrame where
  frame : Nat
  csi : Nat
  time : BitVec 64
  lines : Nat
  long : Bool
  raw : Option Nat
  deferred : Bool
  first : Nat
  last : Nat
  emb : List Byte
  deriving DecidableEq, Repr

/-- A camera beside its registers: whether it stops when the frame in progress closes, whether the next FS is the first after CAM_RUN, the next
CAM_FRAME, the open frame, device time of the last FS, the last four FS intervals (newest first), the FS-to-close time of the previous frame (D_n),
the line period measured last, and the raw buffers in use. -/
structure CamSt where
  stopping : Bool
  fresh : Bool
  next : Nat
  opened : Option OpenFrame
  lastFs : Option Nat
  gaps : List Nat
  span : Option Nat
  period : Nat
  bufs : List Nat
  deriving DecidableEq, Repr

/-- A context beside its registers: the staged and the active bank (stage number and data), whether its previous frame closed complete, and the
flicker candidate of that frame where it was valid (R261). -/
structure CtxSt where
  staged : List (Nat × List Byte)
  active : List (Nat × List Byte)
  prevOk : Bool
  flk : Option Nat
  deriving DecidableEq, Repr

/-- A frame the pipeline processes or will process (R253 to R257): context, camera, CAM_FRAME, CSI_FRAME, TIME, size, line period, buffer address and
number, live, deferred, host REPROCESS, input closed, taken by the pipeline, LONG, lines at hand, stripes served, strips sent per plane (key 8 for coding, else
the level), the bank it runs under, embedded data, and the display buffer it writes. -/
structure Job where
  ctx : Nat
  cam : Nat
  frame : Nat
  csi : Nat
  time : BitVec 64
  w : Nat
  h : Nat
  period : Nat
  addr : Nat
  buf : Option Nat
  live : Bool
  deferred : Bool
  host : Bool
  closed : Bool
  started : Bool
  long : Bool
  lines : Nat
  served : Nat
  sent : List (Nat × Nat)
  bank : List (Nat × List Byte)
  emb : List Byte
  disp : Nat
  deriving DecidableEq, Repr

/-- A display or overlay buffer handed to the display engine: index, CAM_FRAME, TIME, size and address. -/
structure Handed where
  idx : Nat
  frame : Nat
  time : BitVec 64
  w : Nat
  h : Nat
  addr : Nat
  deriving DecidableEq, Repr

/-- A run of records dropped for want of room in a ring (R265). -/
structure CamDrop where
  cam : Nat
  frame : Nat
  time : BitVec 64
  count : Nat
  deriving DecidableEq, Repr

/-- A depth cell: the return taken (depth, CONF, flags, whether its CONF qualifies, the zone boxes it lies in) and the count. -/
structure DCell where
  depth : Nat
  conf : Nat
  flags : Nat
  strong : Bool
  boxes : Nat
  count : Nat
  deriving DecidableEq, Repr

/-- An open depth map (R268): camera, CAM_FRAME, TIME, the window in ns, the cell edge and grid, its cells, per zone the returns counted, TIME of the oldest and the
newest column used with the newest one's FRAME, and whether one was INCOMPLETE. -/
structure DMap where
  cam : Nat
  frame : Nat
  time : BitVec 64
  start : Int
  stop : Int
  cell : Nat
  w : Nat
  h : Nat
  cells : List (Nat × DCell)
  zones : List (Nat × Nat)
  oldest : Option (BitVec 64)
  newest : BitVec 64
  ptFrame : Nat
  incomplete : Bool
  deriving DecidableEq, Repr

/-- The camera side of Region V beside its registers: cameras, contexts, frames in hand (oldest first), the context that holds the pipeline and the one
served last, the STATS_REQUEST under way (context, and the record once its frame has closed), the REPROCESS under way (context, address, outputs written), the
newest display buffer and overlay per camera, open depth maps (oldest first), columns the fusion unit has used, consecutive maps below MIN per camera and zone,
and the runs of drops on streams 3 and 4. -/
structure VisionSt where
  cams : List (Nat × CamSt)
  ctxs : List (Nat × CtxSt)
  jobs : List Job
  cur : Option Nat
  last : Option Nat
  stats : Option (Nat × Option (List Byte × Job))
  repro : Option (Nat × Nat × Bool)
  bufs : List (Nat × Option Handed)
  ovls : List (Nat × Option Handed)
  maps : List DMap
  past : List ColInfo
  below : List (Nat × Nat)
  runs : List (Nat × Option CamDrop)
  deriving DecidableEq, Repr

/-- A camera as domain 75 switches on. -/
def CamSt.init : CamSt := ⟨false, true, 0, .none, .none, [], .none, 0, []⟩

/-- A context as domain 75 switches on. -/
def CtxSt.init : CtxSt := ⟨[], [], false, .none⟩

/-- Region V's camera side as domain 75 switches on. -/
def VisionSt.init : VisionSt := ⟨[], [], [], .none, .none, .none, .none, [], [], [], [], [], []⟩

/-! ### Display scan-out (chapter 12) -/

/-- A display beside its registers: the staged and pending banks (three layer blocks), whether a commit waits, whether it waits past the next flip, whether
that makes it MISSED, whether the display stops at the end of its frame, whether the next flip is the first, FRAME of the next flip, the camera buffer and overlay shown, the
flip at which this CAM_FRAME was first shown, whether STALE has been reported, whether a LAYER_ERR episode runs, layers 0 and 1 hidden this frame, the line sent last, an underrun since
the last flip, whether this frame is sent, PCLK as trimmed, the flip's device time, consecutive frames within and beyond the lock bounds, device time of the FE being
measured, and whether the lock was lost and PCLK returns. -/
structure DispSt where
  staged : List (List Byte)
  pending : List (List Byte)
  waits : Bool
  skip : Bool
  missed : Bool
  stopping : Bool
  first : Bool
  next : Nat
  shown : Option Handed
  ovl : Option Handed
  since : Nat
  staleSaid : Bool
  errRun : Bool
  hide0 : Bool
  hide1 : Bool
  line : Nat
  under : Bool
  send : Bool
  repeated : Bool
  pclk : Nat
  flip : Nat
  good : Nat
  bad : Nat
  fe : Option Nat
  lost : Bool
  deriving DecidableEq, Repr

/-- A display as domain 76 switches on. -/
def DispSt.init : DispSt :=
  ⟨List.replicate 3 (List.replicate 32 0), List.replicate 3 (List.replicate 32 0), false, false, false, false, true, 0, .none, .none, 0, false, false,
    false, false, 0, false, false, false, 0, 0, 0, 0, .none, false⟩

/-! ### Oazil links, Ethernet, time base and SYNC (chapter 13) -/

/-- A port beside its registers: the rung and phase under way (R303: 1 CLOCK, 2 ALIGN, 3 ADAPT, 4 CONFIRM), the target, the highest rate passed, whether the rung
repeats it (R306), the status and DETAIL that wait for the completion, whether the port has been DOWN since it was up, the settings that passed per rate (R305: rate, code), device time of
ACTIVE, blocks sent, the stream that took the last turn (R300), missing AUX replies, whether a margin episode runs, and on the upstream lane: bytes of the unit in progress, bytes
received, whether the unit is lost until the next UNIT_PTR, consecutive bad blocks, device times of CRC failures. -/
structure LinkSt where
  rung : Option Nat
  phase : Nat
  target : Nat
  good : Option Nat
  again : Bool
  result : Option (Nat × Nat)
  fell : Bool
  eqs : List (Nat × Nat)
  since : Nat
  bseq : Nat
  turn : Nat
  miss : Nat
  margin : Bool
  rxBuf : List Byte
  rxPos : Nat
  rxLost : Bool
  bad : Nat
  crcTimes : List Nat
  deriving DecidableEq, Repr

/-- Ethernet beside its registers: addresses resolved (IPv4, MAC), the routes in force (bit s, R312), device time until which PAUSE holds. -/
structure EthSt where
  arp : List (Nat × Nat)
  route : Nat
  pause : Nat
  deriving DecidableEq, Repr

/-- The time base beside its registers: the state of Table 13-10, ADJ in force (ppb), the RATE last stored, I of R316 in 2^-21 ns, consecutive Syncs within the band and beyond four
bands, the comparison key and the source of the best master (Announce), consecutive peer delay exchanges, and whether one waits for its response with its sequence number. -/
structure TbSt where
  st : Nat
  adj : Int
  rate : Int
  integ : Int
  good : Nat
  bad : Nat
  master : Option (List Nat × List Byte)
  pdOk : Nat
  pdWait : Bool
  pdSeq : Nat
  deriving DecidableEq, Repr

/-- The SYNC block beside its registers: pulses since the last FRAME pulse while column 0 waits (R322), whether column 0 may be fixed, columns in a row with |e| ≤ 4, a FILTER pulse
wanted from the driver, and the shifts of column boundaries a follower has made (column from which one holds, the sum of all up to it in fine LSB; newest first; R321). -/
structure SyncSt where
  count : Option Nat
  ready : Bool
  near : Nat
  filter : Bool
  shifts : List (Nat × Int)
  deriving DecidableEq, Repr

/-- A port as domain 77 switches on. -/
def LinkSt.init : LinkSt := ⟨.none, 0, 0, .none, false, .none, false, [], 0, 0, 1, 0, false, [], 0, false, 0, []⟩

/-- Ethernet as domain 78 switches on. -/
def EthSt.init : EthSt := ⟨[], 0, 0⟩

/-- The time base at boot. -/
def TbSt.init : TbSt := ⟨0, 0, 0, 0, 0, 0, .none, 0, false, 0⟩

/-- The SYNC block at boot. -/
def SyncSt.init : SyncSt := ⟨.none, false, 0, false, []⟩

/-! ### Machine safety (chapter 15) -/

/-- A protective field: its run (R345), whether the run reached MIN_COLS in this frame, consecutive clean frames. -/
structure FieldSt where
  run : Nat
  reached : Bool
  clean : Nat
  deriving DecidableEq, Repr

/-- States of a dual-channel input (Table 15-4). -/
inductive InState where
  | run
  | discStop
  | stop
  | discRun
  | fault
  deriving DecidableEq, Repr

/-- An input: filtered levels (true: run) and samples toward a change per channel, state, the channel that changed first, cycles since then. -/
structure InSt where
  a : Bool
  b : Bool
  na : Nat
  nb : Nat
  st : InState
  first : Bool
  cycles : Nat
  deriving DecidableEq, Repr

/-- States of a safety output (Table 15-5). -/
inductive OutState where
  | off
  | wait
  | on
  | fault
  deriving DecidableEq, Repr

/-- A safety output: state, commands of the channels, cycles since each one's command edge, consecutive mismatches, test pulses under way on A and B (cycles left; 0 none). -/
structure SafeOut where
  st : OutState
  a : Bool
  b : Bool
  sinceA : Nat
  sinceB : Nat
  missA : Nat
  missB : Nat
  pulseA : Nat
  pulseB : Nat
  deriving DecidableEq, Repr

/-- A commissioning session (R356): number, transport and peer, staging copy. -/
structure SafeSession where
  num : Nat
  port : Port
  stage : List Byte
  deriving DecidableEq, Repr

/-- Region S beside its registers: fields, inputs and outputs, SRST_IN (level, cycles high, cycles low), the CRC-valid configuration image in force, whether its GEOM_CRC
matches, the least and greatest EL of the row cells and ANG_ZERO the tables are built from, whether they are built, the CINDEX of the last column, whether every column of the
frame so far was evaluated while ranging was valid, the session, numbers issued since boot, device times of wrong credentials, the
image a commit writes, whether the configuration was loaded in this boot, the copy in force, and columns evaluated since boot. -/
structure SafeSt where
  fields : List (Nat × FieldSt)
  ins : List (Nat × InSt)
  outs : List (Nat × SafeOut)
  srst : Bool
  srstHigh : Nat
  srstLow : Nat
  cfg : Option (List Byte)
  geomOk : Bool
  els : List (Int × Int)
  zero : Int
  built : Bool
  prev : Option Nat
  frameOk : Bool
  session : Option SafeSession
  issued : List Nat
  fails : List Nat
  commit : Option (List Byte)
  loaded : Bool
  copy : Nat
  evals : Nat
  deriving DecidableEq, Repr

/-- A field before any column. -/
def FieldSt.init : FieldSt := ⟨0, false, 0⟩

/-- An input as domain 65 switches on: both levels at stop. -/
def InSt.init : InSt := ⟨false, false, 0, 0, .stop, false, 0⟩

/-- An output as domain 65 switches on: off, its commands long since given. -/
def SafeOut.init : SafeOut := ⟨.off, false, false, 5, 5, 0, 0, 0, 0⟩

/-- Region S as domain 65 switches on. -/
def SafeSt.init : SafeSt := ⟨[], [], [], false, 0, 0, .none, false, [], 0, false, .none, false, .none, [], [], .none, false, 0, 0⟩

/-! ### Housekeeping (chapter 16) -/

/-- An NTC input: RAW of its previous plain conversion, whether that one met no row of Table 16-5, whether it also carried no flag, the last VALUE delivered (none yet:
none), whether that result carried OPEN, SHORT or SUSPECT. -/
structure NtcSt where
  plain : Option Int
  clean : Bool
  unflagged : Bool
  value : Option Int
  bad : Bool
  deriving DecidableEq, Repr

/-- A TIA channel beside its registers: whether it delivers, range and preset in force, words still to suppress, whether the next delivered word carries FIRST, whether that word has
SAMPLE 0, the SAMPLE of the next boundary, a restart wanted at the next boundary and whether it sets SAMPLE to 0, consecutive words with OVL, below 8 %, above THR_HI, below
THR_LO, the last word of the present half of the window monitor, and the last word of the half with the source on. -/
structure TiaSt where
  run : Bool
  range : Nat
  preset : Nat
  left : Nat
  first : Bool
  zero : Bool
  sample : Nat
  pend : Bool
  pendZero : Bool
  ovl : Nat
  small : Nat
  high : Nat
  low : Nat
  half : Option Int
  lit : Option Int
  deriving DecidableEq, Repr

/-- The converter and the TIA channels beside their registers: whether a round has ended and the next not begun, the slot due after an urgent conversion, the urgent slot wanted, whether its conversion is under way, the block that
waits for a round start, whether the comparator has tripped in this conversion, the NTC inputs, whether a check failed in this round, consecutive rounds in
which both passed, the AUXOUT code at the start of the conversion, whether it changed since, consecutive bad readbacks, loops that got a result this round, the
channels, the window-monitor source, and the change of it that waits. -/
structure HkSt where
  between : Bool
  due : Nat
  urgent : Option Nat
  inUrgent : Bool
  block : Option (List Byte)
  trip : Bool
  ntcs : List (Nat × NtcSt)
  checkBad : Bool
  okRounds : Nat
  auxCode : Nat
  auxMoved : Bool
  auxBad : Nat
  served : List Nat
  tias : List (Nat × TiaSt)
  lit : Bool
  litPend : Option Bool
  deriving DecidableEq, Repr

/-- An NTC input as domain 65 switches on. -/
def NtcSt.init : NtcSt := ⟨.none, false, false, .none, false⟩

/-- A TIA channel at its reset settings. -/
def TiaSt.init : TiaSt := ⟨true, 2, 1, 0, false, false, 0, false, false, 0, 0, 0, 0, .none, .none⟩

/-- The converter as domain 65 switches on. -/
def HkSt.init : HkSt := ⟨false, 0, .none, false, .none, false, [], false, 0, 0, false, 0, [], [], false, .none⟩

/-! ### Thermal management and calibration (chapter 17) -/

/-- A sensor of the governor: its level (0 none, 1 WARN, 2 level 1, 3 level 2), consecutive evaluations above WARN, THR1, THR2, and since when it has stayed below each less HYST. -/
structure SensorSt where
  rank : Nat
  up : List Nat
  since : List (Option Nat)
  deriving DecidableEq, Repr

/-- The governor beside its registers: the hubs' readings (none: faulted), T_MEAN (none: invalid), consecutive readings of each diode off the median, the sensors that are not at
rest (0 to 3 hubs, 4 to 7 NTCs), consecutive evaluations of each hub at SHUT, the highest hub reading, ms at level 1 or 2 and throttle restarts since boot,
and the level the scan runs under. -/
structure ThSt where
  hubs : List (Option Int)
  mean : Option Int
  off : List (Nat × Nat)
  sensors : List (Nat × SensorSt)
  shut : List (Nat × Nat)
  jmax : Option Int
  ms : Nat
  steps : Nat
  inForce : Nat
  deriving DecidableEq, Repr

/-- A calibration run: items still to run, started by command, T_MEAN at its start, the first status that was not accepted, the log entries, the bytes of the record to change, and what
follows the record: register words to set at once, values to step (address, lowest bit, width, target), macro-pixels rebuilt (row, q, map), channels whose map is new, whether
CAL_T_TDC follows, whether an item was accepted. -/
structure CalRun where
  items : List Nat
  manual : Bool
  start : Int
  bad : Option (Nat × Nat)
  log : List (List Byte)
  patch : List (Nat × List Byte)
  words : List (Nat × Nat × Nat × Nat)
  steps : List (Nat × Nat × Nat × Int)
  maps : List (Nat × Nat × Nat)
  taps : List Nat
  timing : Bool
  some : Bool
  deriving DecidableEq, Repr

/-- Calibration beside its registers: the run, a manual run that has ended and waits for its completion, values being stepped (address, lowest bit, width, target), T_MEAN
that CAL_T_TDC takes then, whether stepping has begun (the next SCAN_START has come), cells masked under R160 (8 row + q, bits), factory values of ROW_TOFS, and reference cells
dropped since REFCELLS last ran, and the copy of the record in force. -/
structure CalSt where
  run : Option CalRun
  ended : Option (Nat × Nat)
  steps : List (Nat × Nat × Nat × Int)
  stepT : Option Int
  stepping : Bool
  masked : List (Nat × Nat)
  factory : List (Nat × Int)
  dropped : Bool
  copy : Nat
  deriving DecidableEq, Repr

/-- A sensor at rest. -/
def SensorSt.init : SensorSt := ⟨0, [0, 0, 0], [.none, .none, .none]⟩

/-- The governor as domain 65 switches on. -/
def ThSt.init : ThSt := ⟨[.some 0, .some 0, .some 0, .some 0], .some 0, [], [], [], .none, 0, 0, 0⟩

/-- Calibration as domain 65 switches on. -/
def CalSt.init : CalSt := ⟨.none, .none, [], .none, false, [], [], false, 0⟩

/-! ### Illuminator drive (chapter 18) -/

/-- A string's controller beside its registers: acc, whether the slice is lit, ILL_DRV, L_eff and MODE in force, whether a probe is due, whether a window runs and whether it began with a
probe, the sums of V_STR and of the shunt voltage over lit slices and their count, consecutive lit slices that meet each of the first three rows of Table 18-2, consecutive cycles
limited by OC_CYCLES, whether DEGRADED has been reported since boot, and device time of the last result. -/
structure IllSt where
  acc : Nat
  lit : Bool
  drv : Bool
  level : Nat
  mode : Nat
  probe : Bool
  window : Bool
  probed : Bool
  sumV : Nat
  sumI : Nat
  n : Nat
  bad : List Nat
  oc : Nat
  said : Bool
  last : Nat
  deriving DecidableEq, Repr

/-- A string as domain 65 switches on: a probe is due before it is first lit. -/
def IllSt.init : IllSt := ⟨0, false, false, 0, 0, true, false, false, 0, 0, 0, [0, 0, 0], 0, false, 0⟩

/-- The state of the block. -/
structure State where
  regs : List (Nat × Word)
  flash : List Host.Cell
  dram : List Host.Cell
  otp : Otp
  pw : PowerSt
  cmd : CmdSt
  fm : FmSt
  rcd : RecSt
  mon : MonSt
  time : TimeSt
  shot : ShotSt
  scan : ScanSt
  profOver : List (Nat × Nat)
  eng : LoopsSt
  rx : RxSt
  heldRegs : List (Nat × Option Word)
  mem : MemSt
  tx : List (Nat × TxStream)
  ps : PsSt
  vis : VisionSt
  disps : List (Nat × DispSt)
  links : List (Nat × LinkSt)
  eth : EthSt
  tb : TbSt
  sync : SyncSt
  safe : SafeSt
  hk : HkSt
  th : ThSt
  cal : CalSt
  ill : List (Nat × IllSt)
  out : List Out
  free : Nat
  pending : List Instr
  deriving DecidableEq, Repr

/-- Why the block stops in a fault: the spec gives no command a fault, so there is none. -/
inductive Fault where
  deriving DecidableEq, Repr

/-- Why the block refuses a command. -/
inductive Refusal where
  /-- The command has no meaning yet: raised by an arm of `exec` only. Safe. -/
  | notModelled (mnemonic : String)
  deriving DecidableEq, Repr

/-- No boot in progress. -/
def BootSt.none : BootSt := ⟨.idle, .cold, [], .none, 0, 8, 0, .none, 0, 0, 0, false⟩

/-- The state right after reset: READY on leaving a cold boot, every register at its Reset column (notes/assumptions/4.md). -/
def State.reset : State where
  regs := []
  flash := []
  dram := []
  otp := ⟨0, 0, List.replicate 32 0, List.replicate 4 (List.replicate 64 0), 0, 0⟩
  pw := ⟨.ready, 0, false, false, false, .none, .none, false, false, 0, BootSt.none, .none, [], false, false, [], false⟩
  cmd := ⟨Session.fresh, Session.fresh, [], [], [], [], [], []⟩
  fm := ⟨[], [], 0⟩
  rcd := ⟨[], 0, 0, false, 0, .none⟩
  mon := ⟨0, [], [], 0, 0⟩
  time := ⟨0, 0, 0, 0⟩
  shot := ShotSt.init
  scan := ⟨.idle, false, 0, 0, 0, false, false, 0, false, 0, 0⟩
  profOver := []
  eng := LoopsSt.init
  rx := RxSt.init
  heldRegs := []
  mem := MemSt.init 0
  tx := []
  ps := PsSt.init
  vis := VisionSt.init
  disps := []
  links := []
  eth := EthSt.init
  tb := TbSt.init
  sync := SyncSt.init
  safe := SafeSt.init
  hk := HkSt.init
  th := ThSt.init
  cal := CalSt.init
  ill := []
  out := []
  free := 0
  pending := []

end Sys2Proof.Machine
end

