-- ==== Sys2Proof/Machine/Regs.lean ====
section
/-! DEFINITION. The register file: where an address lies (Table 20-1), what a word reads after reset, reading and writing fields,
counters, result groups, and the generic effect of a host write by access type (R2, R451). -/

namespace Sys2Proof.Machine

/-! ### Where an address lies -/

/-- The instance of a block that holds address `a`. -/
def blkInst (b : RegBlk) (a : Nat) : Option (Nat × Nat) :=
  if b.base ≤ a ∧ (a - b.base) / b.str < b.cnt ∧ (a - b.base) % b.str < b.span
  then some ((a - b.base) / b.str, (a - b.base) % b.str) else none

/-- R446, R447: the block of Table 20-1 that holds address `a`, with instance and offset. -/
def findBlkIn (a : Nat) : List RegBlk → Option (RegBlk × Nat × Nat)
  | [] => none
  | b :: bs => match blkInst b a with
    | some (i, o) => some (b, i, o)
    | none => findBlkIn a bs

/-- The block of Table 20-1 that holds address `a`. -/
def findBlk (a : Nat) : Option (RegBlk × Nat × Nat) := findBlkIn a regBlocks

/-- Whether offset `o` is a copy of the row. -/
def rowHas (r : RegRow) (o : Nat) : Bool :=
  decide (r.off ≤ o) && decide ((o - r.off) % r.str = 0) && decide ((o - r.off) / r.str < r.cnt)

/-- The row at offset `o`; R448: none where no chapter defines the offset. -/
def rowAt (o : Nat) (rs : List RegRow) : Option RegRow := rs.find? (fun r => rowHas r o)

/-- The fields an instance of a block has at an address. -/
def fieldsAt (a : Nat) : List RegFld :=
  match findBlk a with
  | some (b, i, o) => match rowAt o b.rows with
    | some r => r.flds.filter (fun f => f.only.isEmpty || f.only.contains i)
    | none => []
  | none => []

/-- R52, R447: whether the `n` words from `a` lie inside one instance of one block. -/
def oneBlock (a n : Nat) : Bool :=
  match findBlk a with
  | some (b, _, o) => decide (o + 4 * n ≤ b.span)
  | none => false

/-- Table 20-1, column Domain: the power domain of the register at address `a`. -/
def domainOf (a : Nat) : Nat :=
  if a < 0x1000 then (if (0x100 ≤ a ∧ a < 0x130) ∨ a = 0x140 then 64 else 66)
  else if a < 0x20000 then 66
  else if a < 0x30000 then 68
  else if a < 0x40000 then 67
  else if a < 0x50000 then 69
  else if a < 0x60000 then 70 + (a - 0x50000) / 0x4000
  else if a < 0x1000000 then 66
  else if a < 0x1800000 then (a - 0x1000000) / 0x10000 / 2
  else if a < 0x3000000 then (if a < 0x2000300 then 74 else 66)
  else if a < 0x3100000 then 75
  else if a < 0x4000000 then 76
  else if a < 0x4001000 then 77
  else if a < 0x4002000 then 78
  else if a < 0x4003000 then (if a < 0x4002010 then 66 else 78)
  else if a < 0x4100000 then 66
  else if a < 0x5000000 then 79
  else if a < 0x7001000 then 65
  else if a < 0x7002000 then 68
  else 66

/-! ### Reset values -/

/-- R266: the reset value of EL[r], round((511.5 - r) * 2,912.7111), halves up. -/
def elReset (r : Nat) : Int := ((1023 - 2 * (r : Int)) * 29127111 + 10000) / 20000

/-- The Reset column of the register tables at an address (R454), instance-dependent words first. -/
def regResetNat (a : Nat) : Nat :=
  match resetOver.find? (fun e => e.1 == a) with
  | some e => e.2
  | none =>
    if 0x3004000 ≤ a ∧ a < 0x3005000 then (elReset ((a - 0x3004000) / 4) % 2 ^ 32).toNat
    else if 0x41100 ≤ a ∧ a < 0x42800 ∧ 0x100 ≤ (a - 0x41000) % 0x200 then 16 * (((a - 0x41000) % 0x200 - 0x100) / 4) + 8
    else (fieldsAt a).foldl (fun acc f => acc + f.rst * 2 ^ f.lo) 0

/-- What an unlisted register word reads. -/
def regReset (a : Nat) : Word := BitVec.ofNat 32 (regResetNat a)

/-! ### Words and fields -/

/-- The stored word at an address. -/
def State.rd (s : State) (a : Nat) : Word := spGet regReset s.regs a

/-- Store a word. -/
def State.wr (s : State) (a : Nat) (v : Word) : State := { s with regs := spSet regReset s.regs a v }

/-- The bits `lo`, width `wd`, of a word. -/
def bitsOf (v : Nat) (lo wd : Nat) : Nat := v / 2 ^ lo % 2 ^ wd

/-- A word with the bits `lo`, width `wd`, replaced by `x`. -/
def withBits (v : Nat) (lo wd x : Nat) : Nat :=
  v - bitsOf v lo wd * 2 ^ lo + x % 2 ^ wd * 2 ^ lo

/-- The value of a field. -/
def State.get (s : State) (f : Fld) : Nat := bitsOf (s.rd f.addr).toNat f.lo f.wd

/-- Write a field. -/
def State.set (s : State) (f : Fld) (x : Nat) : State :=
  s.wr f.addr (BitVec.ofNat 32 (withBits (s.rd f.addr).toNat f.lo f.wd x))

/-- Read a pattern of `wd` bits as a signed number. -/
def signed (wd : Nat) (n : Nat) : Int := if 2 * n < 2 ^ wd then (n : Int) else (n : Int) - 2 ^ wd

/-- The `wd`-bit two's-complement pattern of a number. -/
def unsigned (wd : Nat) (x : Int) : Nat := (x % 2 ^ wd).toNat

/-- The value of a signed field. -/
def State.getI (s : State) (f : Fld) : Int := signed f.wd (s.get f)

/-- Write a signed field. -/
def State.setI (s : State) (f : Fld) (x : Int) : State := s.set f (unsigned f.wd x)

/-- A flag field as a Bool. -/
def State.flag (s : State) (f : Fld) : Bool := s.get f == 1

/-- A Bool as a bit. -/
def bit (b : Bool) : Nat := if b then 1 else 0

/-- Set or clear a flag field. -/
def State.setFlag (s : State) (f : Fld) (b : Bool) : State := s.set f (bit b)

/-- Bit `i` of a field. -/
def State.bitAt (s : State) (f : Fld) (i : Nat) : Bool := s.get f / 2 ^ i % 2 == 1

/-- Set or clear bit `i` of a field. -/
def State.setBitAt (s : State) (f : Fld) (i : Nat) (b : Bool) : State :=
  s.set f (withBits (s.get f) i 1 (bit b))

/-- Add to a counter field, which saturates at its all-ones value (R58 and each chapter's register rule). -/
def State.add (s : State) (f : Fld) (n : Nat) : State := s.set f (min (s.get f + n) (2 ^ f.wd - 1))

/-- Count one. -/
def State.inc (s : State) (f : Fld) : State := s.add f 1

/-- Write a 64-bit value into two 32-bit fields, low word and high word. -/
def State.set64 (s : State) (lo hi : Fld) (x : BitVec 64) : State :=
  (s.set lo (x.toNat % 2 ^ 32)).set hi (x.toNat / 2 ^ 32)

/-- R56: an update of a result group: FRESH reads 1 and SEQ counts up, wrapping. -/
def State.publish (s : State) (st : Fld) : State :=
  (s.set ⟨st.addr, 31, 1⟩ 1).set ⟨st.addr, 0, 16⟩ (s.get ⟨st.addr, 0, 16⟩ + 1)

/-- Drop the stored words of a power domain: its registers hold their reset values (R17). -/
def State.dropDomain (s : State) (p : Nat) : State :=
  { s with regs := spKeep (fun a => domainOf a != p) s.regs }

/-! ### A host write, by access type -/

/-- A value stored at the nearest bound of a field (each chapter's register rule); greatest 0: no bound stated. -/
def clampFld (f : RegFld) (x : Nat) : Nat :=
  if x < f.mn then f.mn else if f.mx ≠ 0 ∧ f.mx < x then f.mx else x

/-- R2, R451: what one field holds after a write of `new` over `old`. -/
def fieldAfter (f : RegFld) (old new : Nat) : Nat :=
  let o := bitsOf old f.lo f.wd
  let n := bitsOf new f.lo f.wd
  match f.acc with
  | .rw => clampFld f n
  | .ro | .wo | .st => o
  | .w1f => o &&& (2 ^ f.wd - 1 - n)
  | .w1n => if n = 2 ^ f.wd - 1 then 0 else o

/-- R2, R451: the word a register holds after a write of `new` over `old`, field by field; bits no field covers are RSV. -/
def wordAfter (fs : List RegFld) (old new : Nat) : Nat :=
  fs.foldl (fun v f => withBits v f.lo f.wd (fieldAfter f old new)) old

/-- The generic effect of a host write of one word. -/
def State.hostWrite (s : State) (a : Nat) (v : Word) : State :=
  s.wr a (BitVec.ofNat 32 (wordAfter (fieldsAt a) (s.rd a).toNat v.toNat))

/-- The WO and RSV bits of a stored word read 0 (Table 0-5): the bits that read back. -/
def readMask (fs : List RegFld) : Nat :=
  fs.foldl (fun v f => match f.acc with | .wo => v | _ => withBits v f.lo f.wd (2 ^ f.wd - 1)) 0

/-- Whether the word at an address is a result status word (R56). -/
def isStatusWord (a : Nat) : Bool := (fieldsAt a).any (fun f => f.acc == .st)

/-- R57: a read that includes a result status word clears FRESH and OVERRUN. -/
def State.clearFresh (s : State) (a : Nat) : State :=
  if isStatusWord a then (s.set ⟨a, 31, 1⟩ 0).set ⟨a, 30, 1⟩ 0 else s

/-! ### Power domains -/

/-- The PWR_DOM_STAT or PWR_DOM_REQ bit of domain `p`, by the first word's address. -/
def domBit (base p : Nat) : Fld := ⟨base + 4 * (p / 32), p % 32, 1⟩

/-- Domain `p` is on and ready (Table 1-10). -/
def State.domOn (s : State) (p : Nat) : Bool := s.flag (domBit 0x120 p)

/-- Domain `p` is requested (Table 1-9); domains 64 to 66 always are. -/
def State.domReq (s : State) (p : Nat) : Bool := decide (64 ≤ p ∧ p ≤ 66) || s.flag (domBit 0x110 p)

end Sys2Proof.Machine
end

