-- ==== Sys2Proof/Machine/Ops.lean ====
section
/-! DEFINITION. The named operations the commands share: device time, sessions of the transports, events and their delivery,
sources of EMIT_INHIBIT, replies and completions, bytes of the flash and of the LPDDR5 memory, free values. -/

namespace Sys2Proof.Machine

/-! ### Outcomes and free values -/

/-- A free value (Config.freeNat) and the state with the counter advanced (notes/assumptions/6.md). -/
def State.freeNat (s : State) : Nat × State := (Config.freeNat s.free, { s with free := s.free + 1 })

/-- A list of free bytes. -/
def State.freeBytes (s : State) (n : Nat) : List Byte × State :=
  ((List.range n).map (fun i => Config.freeByte (s.free + i)), { s with free := s.free + n })

/-- Record an output. -/
def State.emit (s : State) (o : Out) : State := { s with out := o :: s.out }

/-- Repeat a state change over a list. -/
def State.each {α : Type} (s : State) (l : List α) (f : State → α → State) : State := l.foldl f s

/-- Do `f` where `b` holds. -/
def State.when (s : State) (b : Bool) (f : State → State) : State := if b then f s else s

/-! ### Memories -/

/-- What an unlisted flash byte reads: erased (R73; notes/assumptions/5.md). -/
def flashDflt (_ : Nat) : Byte := 0xFF

/-- What an unlisted LPDDR5 byte reads (notes/assumptions/5.md). -/
def dramDflt (_ : Nat) : Byte := 0

/-- `n` bytes of the flash from `a`. -/
def State.flashRead (s : State) (a n : Nat) : List Byte := spGetList flashDflt s.flash a n

/-- Program bytes of the flash. -/
def State.flashWrite (s : State) (a : Nat) (bs : List Byte) : State := { s with flash := spSetList flashDflt s.flash a bs }

/-- Erase the flash from `a`, `n` bytes. -/
def State.flashErase (s : State) (a n : Nat) : State :=
  { s with flash := spKeep (fun k => !(decide (a ≤ k) && decide (k < a + n))) s.flash }

/-- `n` bytes of the LPDDR5 memory from `a`. -/
def State.dramRead (s : State) (a n : Nat) : List Byte := spGetList dramDflt s.dram a n

/-- Store bytes in the LPDDR5 memory. -/
def State.dramWrite (s : State) (a : Nat) (bs : List Byte) : State := { s with dram := spSetList dramDflt s.dram a bs }

/-- Bytes of the fitted LPDDR5 memory (MEM_STAT.SIZE, Table 14-6). -/
def State.dramSize (s : State) : Nat :=
  match s.get F.MEM.MEM_STAT_SIZE with
  | 1 => 2 ^ 30
  | 2 => 2 ^ 31
  | 3 => 2 ^ 32
  | 4 => 2 ^ 33
  | _ => 0

/-! ### Sessions -/

/-- R39: the session of a UDP peer. -/
def peerSession (p : Peer) : List (Peer × Session) → Option Session
  | [] => none
  | (q, x) :: r => if q = p then some x else peerSession p r

/-- The session of a transport or peer; a peer without a place reads as fresh. -/
def State.session (s : State) : Port → Session
  | .spi => s.cmd.spi
  | .oazil => s.cmd.oazil
  | .udp p => (peerSession p s.cmd.udp).getD Session.fresh

/-- Whether the device holds state for the transport or peer. -/
def State.hasPort (s : State) : Port → Bool
  | .udp p => (peerSession p s.cmd.udp).isSome
  | _ => true

/-- Store the session of a transport or of a peer that has a place. -/
def State.setSession (s : State) (port : Port) (x : Session) : State :=
  match port with
  | .spi => { s with cmd := { s.cmd with spi := x } }
  | .oazil => { s with cmd := { s.cmd with oazil := x } }
  | .udp p => { s with cmd := { s.cmd with udp := s.cmd.udp.map (fun e => if e.1 = p then (p, x) else e) } }

/-- The transports and peers in the order of R44. -/
def State.ports (s : State) : List Port := [.spi, .oazil] ++ s.cmd.udp.map (fun e => Port.udp e.1)

/-! ### The SPI outbound queue (R35) and the other ways out -/

/-- Bytes the SPI outbound queue holds. -/
def State.outBytes (s : State) : Nat := (s.cmd.outq.map List.length).sum

/-- R35: bytes free of the 16 KiB. -/
def State.outFree (s : State) : Nat := 16384 - s.outBytes

/-- R36: CMD_IRQ_N is low while the SPI outbound queue is not empty. -/
def State.cmdIrqLow (s : State) : Bool := !s.cmd.outq.isEmpty

/-! Streams: 0 to 7 leave by port H or Ethernet (R5); 8 and 9 stand for stream 0 of ports V0 and V1. -/

/-- Stream `k` on its way out. -/
def State.stream (s : State) (k : Nat) : TxStream := spGet (fun _ => TxStream.init) s.tx k

/-- Replace the record of stream `k`. -/
def State.setStream (s : State) (k : Nat) (x : TxStream) : State :=
  { s with tx := spSet (fun _ => TxStream.init) s.tx k x }

/-- Bytes of stream `k` that wait. -/
def State.streamLevel (s : State) (k : Nat) : Nat := ((s.stream k).units.map List.length).sum - (s.stream k).off

/-- Put a unit at the end of stream `k`. -/
def State.txPut (s : State) (k : Nat) (bytes : List Byte) : State :=
  s.setStream k { s.stream k with units := (s.stream k).units ++ [bytes] }

/-- Hand a packet to its transport: the SPI outbound queue, a datagram, or stream 0 of port H. -/
def State.sendOn (s : State) (port : Port) (bytes : List Byte) : State :=
  match port with
  | .spi => { s with cmd := { s.cmd with outq := s.cmd.outq ++ [bytes] } }
  | .udp p => (s.inc F.ETH.TX_FRAMES).emit (.datagram p bytes)
  | .oazil => s.txPut 0 bytes

/-! ### Events (R422 to R426) -/

/-- The class of an event: FM_CLASS[n] (R428). -/
def State.evClass (s : State) (n : Nat) : Nat := s.get ⟨0x7000100 + 4 * (n / 16), 2 * (n % 16), 2⟩

/-- R425: fold the raising into a pending entry with the same EVENT and INSTANCE. -/
def foldEntry (n i : Nat) : List EvEnt → Option (List EvEnt)
  | [] => none
  | e :: r =>
    if e.ev = n ∧ e.inst = i then some ({ e with rep := min (e.rep + 1) 65535 } :: r)
    else (foldEntry n i r).map (fun r' => e :: r')

/-- R425: one raising at one transport or peer that may subscribe. -/
def State.deliverEvent (s : State) (port : Port) (e : EvEnt) : State :=
  let x := s.session port
  if x.mask.toNat / 2 ^ e.ev % 2 = 1 then
    match foldEntry e.ev e.inst x.evs with
    | some l => s.setSession port { x with evs := l }
    | none =>
      if x.evs.length < 64 then s.setSession port { x with evs := x.evs ++ [e] }
      else (s.setSession port { x with lost := min (x.lost + 1) 65535 }).inc F.CMD.EVT_DROP
  else s

/-- ASCII bytes of a string. -/
def ascii (t : String) : List Byte := t.toList.map (fun c => BitVec.ofNat 8 c.toNat)

/-- A number in decimal digits. -/
def decBytes (n : Nat) : List Byte := (Nat.toDigits 10 n).map (fun c => BitVec.ofNat 8 c.toNat)

/-- One hexadecimal digit, upper case. -/
def hexDigit (n : Nat) : Byte := BitVec.ofNat 8 (if n < 10 then 48 + n else 55 + n)

/-- `k` hexadecimal digits. -/
def hexBytes : Nat → Nat → List Byte
  | 0, _ => []
  | k + 1, n => hexDigit (n / 16 ^ k % 16) :: hexBytes k n

/-- Words of a monitor line, one space between, CR LF at the end (R440). -/
def monLineOf (ws : List (List Byte)) : List Byte := (ws.intersperse [32]).flatten ++ [13, 10]

/-- Bytes waiting in the monitor's output buffer. -/
def State.monBytes (s : State) : Nat := (s.mon.lines.map List.length).sum

/-- R440: ticks of 4 ns that a character of 10 bits takes at MON_CTRL.BAUD. -/
def State.charTicks (s : State) : Nat :=
  match s.get F.MON.MON_CTRL_BAUD with
  | 1 => 2500000000 / 460800
  | 2 => 2500000000 / 921600
  | _ => 2500000000 / 115200

/-- R443: the lines that have left the buffer by now. -/
def State.monSent (s : State) : List (List Byte) → State
  | [] => { s with mon := { s.mon with lines := [], since := s.time.tick } }
  | l :: r =>
    let stop := s.mon.since + l.length * s.charTicks
    if stop ≤ s.time.tick then State.monSent (({ s with mon := { s.mon with since := stop } } : State).emit (.uart l)) r
    else { s with mon := { s.mon with lines := l :: r } }

/-- R443: a line for the 4 KiB output buffer; one that finds it full is discarded and counted, and the next that fits is
preceded by E LOST and the number discarded. -/
def State.monPut (s : State) (line : List Byte) : State :=
  let s := s.monSent s.mon.lines
  let pre := if s.mon.lostRun = 0 then [] else [monLineOf [ascii "E", ascii "LOST", decBytes s.mon.lostRun]]
  let add := pre ++ [line]
  if s.monBytes + (add.map List.length).sum ≤ 4096 then
    { s with mon := { s.mon with lines := s.mon.lines ++ add, lostRun := 0 } }
  else ({ s with mon := { s.mon with lostRun := s.mon.lostRun + 1 } } : State).inc F.MON.EV_LINES_LOST

/-- R443: with EV ON, every raising produces one line. -/
def State.monEvent (s : State) (n inst dat : Nat) : State :=
  if s.flag F.MON.MON_STAT_EV_ON then
    s.monPut (monLineOf [ascii "E", decBytes s.time.dev.toNat, decBytes n, ascii (eventName n), decBytes (inst % 65536),
      decBytes (dat % 65536)])
  else s

/-- The events whose fault has a lasting cause (Table 19-5). -/
def lastingEvents : List Nat := [4, 6, 7, 40, 37, 66, 67, 81, 213, 34, 35]

/-- The FM_ACTIVE bit of an event. -/
def activeBit (n : Nat) : Fld := ⟨0x7000040 + 4 * (n / 32), n % 32, 1⟩

/-- A fault enters the fault manager's queue in order of TIME, equal TIMEs in ascending event number (R429). -/
def queueFault (f : FaultRec) : List FaultRec → List FaultRec
  | [] => [f]
  | g :: r => if f.time = g.time ∧ f.ev < g.ev then f :: g :: r else g :: queueFault f r

/-- R423, R425, R429: an event is raised: EV_RAW, EV_COUNT, an entry at every subscriber, and, with a class of LOG or above,
a fault for the fault manager. -/
def State.raise (s : State) (n inst dat : Nat) : State :=
  let cls := s.evClass n
  let e : EvEnt := ⟨n, cls, 0, inst % 65536, dat % 65536, s.time.dev⟩
  let s := (s.set ⟨0x10100 + 4 * (n / 32), n % 32, 1⟩ 1).inc (F.CMD.EV_COUNT n)
  let s := s.each s.ports (fun s p => s.deliverEvent p e)
  let s := s.monEvent n inst dat
  if 0 < cls then
    let s := s.when (lastingEvents.contains n) (fun s => s.set (activeBit n) 1)
    { s with fm := { s.fm with queue := queueFault ⟨n, cls, inst % 65536, dat % 65536, s.time.dev⟩ s.fm.queue } }
  else s

/-! ### EMIT_INHIBIT (R100) -/

/-- R100: the sources of `mask` assert in one COARSE clock: their bits and latch copies set, and EV_EMITTER_INHIBIT carries the
bits that rose with a latch copy of 0. Domain 68 off: its registers do not hold the bits. -/
def State.inhibitOn (s : State) (mask : Nat) : State :=
  if s.domOn 68 then
    let old := s.get F.SHT.EMIT_INHIBIT_SRC
    let latch := s.get F.SHT.EMIT_INHIBIT_LATCH_SRC
    let rose := mask &&& (4095 - old)
    let fresh := rose &&& (4095 - latch)
    let s := (s.set F.SHT.EMIT_INHIBIT_SRC (old ||| rose)).set F.SHT.EMIT_INHIBIT_LATCH_SRC (latch ||| rose)
    if fresh = 0 then s else s.raise 32 0 fresh
  else s

/-- R100: the sources of `mask` deassert: their bits clear. -/
def State.inhibitOff (s : State) (mask : Nat) : State :=
  if s.domOn 68 then s.set F.SHT.EMIT_INHIBIT_SRC (s.get F.SHT.EMIT_INHIBIT_SRC &&& (4095 - mask)) else s

/-! ### Replies and completions (R29, R31) -/

/-- Table 2-4: the prefix and the data. -/
def answerBytes (a : Answer) : List Byte := [a.status, a.detail, 0, 0] ++ beBytes 8 a.time.toNat ++ a.data

/-- The reply packet of an answer (R29). -/
def replyPacket (port : Port) (op : Nat) (seq : BitVec 16) (a : Answer) : List Byte :=
  packet 0x80 (portTag port) op seq.toNat (answerBytes a)

/-- The completion packet of an answer (R31). -/
def completionPacket (port : Port) (op : Nat) (seq : BitVec 16) (a : Answer) : List Byte :=
  packet 0x40 (portTag port) op seq.toNat (answerBytes a)

/-- Replace the cached answer of a sequence number. -/
def setCached (seq : BitVec 16) (a : AnsState) (l : List CacheEnt) : List CacheEnt :=
  l.map (fun e => if e.seq = seq then { e with ans := a } else e)

/-- An answer decided now. -/
def State.answer (s : State) (status detail : Nat) (data : List Byte) : Answer :=
  ⟨BitVec.ofNat 8 status, BitVec.ofNat 8 detail, s.time.dev, data⟩

/-- Whether a transport can carry a packet: port H up for Oazil, the Ethernet link for UDP. -/
def State.transportUp (s : State) : Port → Bool
  | .spi => true
  | .udp p => s.hasPort (.udp p) && s.domOn 78 && s.flag F.ETH.ETH_STAT_LINK
  | .oazil => s.domOn 77 && s.get (F.OZ.LINK_STAT_STATE 0) == 2

/-- R31: the ACCEPTED command `op` ends: one completion packet to the transport and peer that issued it, discarded where that
transport is down or the peer's place is gone; the cached answer becomes final; EV_CMD_COMPLETE is raised. -/
def State.complete (s : State) (op status detail : Nat) (data : List Byte) : State :=
  match s.cmd.running.find? (fun r => r.op == op) with
  | none => s
  | some r =>
    let a := s.answer status detail data
    let s := { s with cmd := { s.cmd with running := s.cmd.running.filter (fun q => q.op != op) } }
    let x := s.session r.port
    let s := s.setSession r.port { x with cache := setCached r.seq (.final a) x.cache }
    let s := s.when (s.transportUp r.port) (fun s => s.sendOn r.port (completionPacket r.port op r.seq a))
    s.raise 8 op r.seq.toNat

/-- Whether the ACCEPTED command `op` runs. -/
def State.isRunning (s : State) (op : Nat) : Bool := s.cmd.running.any (fun r => r.op == op)

end Sys2Proof.Machine
end

