-- ==== Sys2Proof/Machine/Answers.lean ====
section
/-! DEFINITION. How a command's handler answers (R29 to R33, R41, R48): the checks of steps 9 to 13 in order, final statuses, ACCEPTED,
and statuses decided later. -/

namespace Sys2Proof.Machine

/-- The answer a handler gives: a final status with DETAIL and data; ACCEPTED (R31); BUSY_RETRY, whose suggested wait the spec
leaves open (Table 2-8); or a final status that a later boundary decides. -/
inductive Ans where
  | final (status detail : Nat) (data : List Byte)
  | accepted (tag : Nat)
  | busy
  | later (tag : Nat)
  deriving DecidableEq, Repr

/-- What a handler leaves: the answer, the state before the reply is sent, and what follows the reply (R55, R64). -/
structure Reply where
  ans : Ans
  st : State
  post : State → State

/-- A reply with nothing after it. -/
def State.reply (s : State) (a : Ans) : Reply := ⟨a, s, id⟩

/-- DONE with data. -/
def State.done (s : State) (data : List Byte) : Reply := s.reply (.final 0 0 data)

/-- PWR_STATE.STATE (Table 1-8). -/
def State.stateCode (s : State) : Nat :=
  match s.pw.st with
  | .ready => 1
  | .scanning => 2
  | .safeHold => 3
  | .thermalLatch => 4
  | _ => 0

/-- A check of Table 2-5: failed, status, DETAIL. -/
abbrev Check := Bool × Nat × Nat

/-- A failed state check (step 11). -/
def State.badState (s : State) (failed : Bool) : Check := (failed, 0x13, s.stateCode)

/-- A failed domain check (R473). -/
def State.needDom (s : State) (p : Nat) : Check := s.badState (!s.domOn p)

/-- A failed parameter check (step 12), DETAIL the payload word index. -/
def badParam (failed : Bool) (word : Nat) : Check := (failed, 0x12, min word 0xFD)

/-- The first check that fails decides (R41). -/
def State.guarded (s : State) (cs : List Check) (go : Reply) : Reply :=
  match cs.find? (fun c => c.1) with
  | some c => s.reply (.final c.2.1 c.2.2 [])
  | none => go

/-- Whether `n` payload bytes at `i` are not all 0 (R48). -/
def notZero (p : List Byte) (i n : Nat) : Bool := beAt p i n != 0

/-- R33: an ACCEPTED command of the same opcode range is in progress. -/
def State.rangeBusy (s : State) (op : Nat) : Bool := s.cmd.running.any (fun r => r.op / 256 == op / 256)

/-- Answer ACCEPTED unless the range is busy (step 13). -/
def State.accept (s : State) (op : Nat) (go : State) (tag : Nat := 0) : Reply :=
  if s.rangeBusy op then s.reply .busy else go.reply (.accepted tag)

/-- Note a command as started (R31). -/
def State.start (s : State) (port : Port) (op : Nat) (seq : BitVec 16) (tag : Nat) : State :=
  { s with cmd := { s.cmd with running := s.cmd.running ++ [⟨op, port, seq, tag⟩] } }

/-- Send an answer as a reply, keep it for resends, and serve a resend that waited for it (R42). -/
def State.sendReply (s : State) (port : Port) (op : Nat) (seq : BitVec 16) (a : Answer) (kept : AnsState) : State :=
  let x := s.session port
  let s := s.setSession port { x with cache := setCached seq kept x.cache }
  let s := s.when (s.transportUp port) (fun s => s.sendOn port (replyPacket port op seq a))
  if s.cmd.resend.contains (port, seq) then
    let s : State := { s with cmd := { s.cmd with resend := s.cmd.resend.filter (fun r => r != (port, seq)) } }
    let s := s.when (s.transportUp port) (fun s => s.sendOn port (replyPacket port op seq a))
    s.inc F.CMD.REPLAY
  else s

/-- The commands `op` whose status was left to a later moment are answered now. -/
def State.answerLater (s : State) (op tag status detail : Nat) (data : List Byte) : State :=
  let mine := s.cmd.deferred.filter (fun r => r.op == op && r.tag == tag)
  let rest := s.cmd.deferred.filter (fun r => !(r.op == op && r.tag == tag))
  let s : State := { s with cmd := { s.cmd with deferred := rest } }
  s.each mine (fun s r =>
    let a := s.answer status detail data
    s.sendReply r.port op r.seq a (.final a))

/-- Whether a command waits for its later status. -/
def State.isDeferred (s : State) (op : Nat) : Bool := s.cmd.deferred.any (fun r => r.op == op)

/-- What the running command `op` names. -/
def State.runningTag (s : State) (op : Nat) : Option Nat := (s.cmd.running.find? (fun r => r.op == op)).map (fun r => r.tag)

end Sys2Proof.Machine
end

