-- ==== Sys2Proof/Machine/Mem.lean ====
section
/-! DEFINITION. Memory and service classes (chapter 14): requests, the class 5 bucket and its refusals, grants, self-refresh and deep
sleep. Data moves when its request is made; the queue decides grants, delays and refusals (notes/assumptions/20.md). -/

namespace Sys2Proof.Machine

/-- The bucket brought up to the present, in 1/1,000 byte (R333). -/
def State.bucketNow (s : State) : Nat :=
  min 65536000 (s.mem.bucket + s.get F.MEM.C5_CFG_C5_RATE * (s.time.dev.toNat - s.mem.bucketAt))

/-- Bytes of classes 0, 1 and 2 that wait. -/
def State.backlog (s : State) : Nat := 64 * ((s.mem.waits.filter (fun q => decide (q.cls < 3))).map (fun q => q.n)).sum

/-- Either condition of R333. -/
def State.class5Short (s : State) : Bool :=
  decide (s.bucketNow < 64000) || decide (s.get F.MEM.C5_CFG_C5_BACKLOG * 1024 < s.backlog)

/-- R333: class 5 is refusing. -/
def State.class5Refusing (s : State) : Bool := !s.domOn 79 || s.mem.hold || s.class5Short

/-- R335: a refusal is counted and published. -/
def State.memRefuse (s : State) (cls src n : Nat) : State :=
  let s := s.add (F.MEM.REFUSED cls) n
  let s := (s.set F.MEM.SOURCE src).set F.MEM.CLASS cls
  let s := (s.set64 F.MEM.TIME_LO F.MEM.TIME_HI s.time.dev).publish F.MEM.MEM_REF_ST
  let sec := s.time.dev.toNat / 10 ^ 9 + 1
  let s := s.when (cls == 5) (fun s => { s with mem := { s.mem with hold := true } })
  if spGet (fun _ => 0) s.mem.refusedAt cls = sec then s
  else
    ({ s with mem := { s.mem with refusedAt := spSet (fun _ => 0) s.mem.refusedAt cls sec } } : State).raise EV_MEM_REFUSE cls src

/-- The 64-byte requests of `bytes` bytes. -/
def reqCount (bytes : Nat) : Nat := (bytes + 63) / 64

/-- R328, R333: a source asks for `bytes` bytes; false: class 5 refused it on arrival, or the controller is off. -/
def State.memReq (s : State) (cls src bytes : Nat) : Bool × State :=
  if !s.domOn 79 then (false, s)
  else if cls = 5 ∧ s.class5Short then (false, s.memRefuse cls src (reqCount bytes))
  else (true, { s with mem := { s.mem with waits := s.mem.waits ++ [⟨cls, src, reqCount bytes, s.time.dev.toNat⟩] } })

/-- As `memReq`, for a source that is never refused. -/
def State.memUse (s : State) (cls src bytes : Nat) : State := (s.memReq cls src bytes).2

/-- R333: a command that would start class 5 traffic (step 13). -/
def State.class5Check (s : State) : Check := (s.class5Refusing, 0x21, 5)

/-- LAT_TOL of display `d`. -/
def State.latTol (s : State) (d : Nat) : Nat := s.get (F.DSP.LAT_TOL d)

/-- The first waiting request of the classes in order of R329. -/
def State.nextGrant (s : State) : Option MemReq :=
  let first := fun (p : MemReq → Bool) => s.mem.waits.find? p
  let urgent := fun (d : Nat) =>
    if s.latTol d ≤ s.get F.MEM.LAT_CFG_LAT_URGENT then first (fun q => q.cls == 1 && q.src == 0x10 + d) else none
  let lower := if s.latTol 1 < s.latTol 0 then (urgent 1).or (urgent 0) else (urgent 0).or (urgent 1)
  ((((first (fun q => q.cls == 0)).or lower).or (first (fun q => q.cls == 2))).or (first (fun q => q.cls == 1))).or
    ((first (fun q => q.cls == 4)).or (first (fun q => q.cls == 5)))

/-- A request leaves the queue. -/
def takeReq (q : MemReq) : List MemReq → List MemReq
  | [] => []
  | x :: l => if x = q then (if x.n ≤ 1 then l else { x with n := x.n - 1 } :: l) else x :: takeReq q l

/-- R329, R333, R335: one grant; the SOURCE granted. -/
def State.memGrant (s : State) : Option MemReq × State :=
  if s.domOn 79 && !s.flag F.MEM.MEM_STAT_SR && !s.flag F.MEM.MEM_STAT_DEEP then
    match s.nextGrant with
    | none => (none, s)
    | some q =>
      let now := s.bucketNow
      let s : State := { s with mem := { s.mem with waits := takeReq q s.mem.waits } }
      let s := s.inc (F.MEM.SERVED q.cls)
      let s := s.when (decide (s.get F.MEM.DLY_THR < s.time.dev.toNat - q.since)) (fun s => s.inc (F.MEM.DELAYED q.cls))
      let s := s.when (q.cls == 5) (fun s => { s with mem := { s.mem with bucket := now - 64000, bucketAt := s.time.dev.toNat } })
      (some q, s)
  else (none, s)

/-- R331: the class 2 request that has waited longest is refused; its SOURCE. -/
def State.class2Timeout (s : State) : Option Nat × State :=
  match s.mem.waits.find? (fun q => q.cls == 2) with
  | some q =>
    let s : State := { s with mem := { s.mem with waits := s.mem.waits.erase q } }
    (some q.src, s.memRefuse 2 q.src q.n)
  | none => (none, s)

/-- R333: the 1 ms after a class 5 refusal ends. -/
def State.class5End (s : State) : State := { s with mem := { s.mem with hold := false } }

/-- R336, R338: the channels enter self-refresh, or deep sleep. -/
def State.refreshEntry (s : State) (deep : Bool) : State :=
  let f := if deep then F.MEM.MEM_STAT_DEEP else F.MEM.MEM_STAT_SR
  let lat := min (s.latTol 0) (s.latTol 1)
  let ok :=
    if deep then s.flag F.MEM.MEM_CFG_DEEP_EN && s.latTol 0 == 2 ^ 32 - 1 && s.latTol 1 == 2 ^ 32 - 1 &&
      !s.flag (F.CAM.CSI_STAT_RUN 0) && !s.flag (F.CAM.CSI_STAT_RUN 1) && s.pw.st != .scanning
    else s.flag F.MEM.MEM_CFG_SR_EN && decide (1000 * s.get F.MEM.SR_CFG_SR_ENTER ≤ lat)
  if s.domOn 79 && s.mem.waits.isEmpty && ok && !s.flag F.MEM.MEM_STAT_SR && !s.flag F.MEM.MEM_STAT_DEEP then
    let s := (s.set f 1).inc F.MEM.SR_ENTRIES
    { s with mem := { s.mem with srSince := s.time.dev.toNat, exiting := false } }
  else s

/-- R337, R338: a request, or LAT_TOL at SR_WAKE, starts the exit. A display with demand has a LAT_TOL that falls as time passes: the command says that it has
reached SR_WAKE. -/
def State.refreshExit (s : State) : State :=
  let lat := min (s.latTol 0) (s.latTol 1)
  if (s.flag F.MEM.MEM_STAT_SR || s.flag F.MEM.MEM_STAT_DEEP) && (!s.mem.waits.isEmpty || decide (lat < 2 ^ 32 - 1)) then
    { s with mem := { s.mem with exiting := true } }
  else s

/-- The exit is complete. -/
def State.refreshExitDone (s : State) : State :=
  if s.mem.exiting then
    let s := s.add F.MEM.SR_TIME ((s.time.dev.toNat - s.mem.srSince) / 1000)
    let s := (s.set F.MEM.MEM_STAT_SR 0).set F.MEM.MEM_STAT_DEEP 0
    { s with mem := { s.mem with exiting := false } }
  else s

/-- R337: a write of LAT_CFG. -/
def State.wrLatCfg (s : State) (v : Word) : State :=
  let urgent := min 8000 (max 1000 (bitsOf v.toNat 0 16))
  if bitsOf v.toNat 16 16 < s.get F.MEM.SR_EXIT + urgent + 1000 then s.set F.MEM.MEM_STAT_CFG_ERR 1
  else s.hostWrite F.MEM.LAT_CFG_SR_WAKE.addr v

/-- A write inside the memory controller's block. -/
def State.wrMem (s : State) (a : Nat) (v : Word) : State :=
  if a = F.MEM.LAT_CFG_SR_WAKE.addr then s.wrLatCfg v
  else if a = F.MEM.C5_CFG_C5_RATE.addr then
    let now := s.bucketNow
    ({ s with mem := { s.mem with bucket := now, bucketAt := s.time.dev.toNat } } : State).hostWrite a v
  else s.hostWrite a v

/-- CLASS_COUNTERS_READ (R335). -/
def cmdClassCountersRead (s : State) : Reply :=
  s.guarded [s.needDom 79] (s.done (wordBytes ((List.range 18).map (fun i => s.rd ((F.MEM.SERVED 0).addr + 4 * i)))))

end Sys2Proof.Machine
end

