-- ==== Sys2Proof/Machine/Profile.lean ====
section
/-! DEFINITION. Scan profiles (chapter 0: R1, R6, Tables 0-3, 0-7, 0-8): fixed figures, field defaults, overrides and their limits,
the profile block, and the commands PROFILE_OVERRIDE and PROFILE_READ. -/

namespace Sys2Proof.Machine

/-- Table 0-3: scan columns per frame. -/
def profCols (p : Nat) : Nat := if p = 0 ∨ p = 2 then 2048 else 1024

/-- Table 0-3: frames per second. -/
def profRate (p : Nat) : Nat := match p with | 0 => 20 | 1 => 30 | 2 => 10 | _ => 5

/-- Table 0-3: design range in m. -/
def profRange (p : Nat) : Nat := match p with | 0 => 300 | 1 => 200 | 2 => 500 | _ => 120

/-- Table 0-7: G_MAX. -/
def profGMax (p : Nat) : Nat := match p with | 0 => 14 | 1 => 18 | 2 => 28 | _ => 32

/-- R96: the column duration C in 1/256 fine LSB. -/
def profC (p : Nat) : Nat := 12000000000 * 256 / (profCols p * profRate p)

/-- Table 0-8: the default of field `f`, 0 to 12. -/
def profDefault (p f : Nat) : Nat :=
  let row : List Nat := match f with
    | 0 => [4, 4, 8, 4]
    | 1 => [8, 8, 16, 4]
    | 2 => [4, 3, 5, 3]
    | 3 => [3003, 2002, 5004, 1201]
    | 4 => [8, 8, 12, 16]
    | 5 => [32, 32, 32, 32]
    | 6 => [24, 24, 24, 24]
    | 7 => [1, 1, 1, 1]
    | 8 => [5, 5, 5, 4]
    | 9 => [32, 32, 32, 32]
    | 10 => [1024, 1024, 512, 256]
    | 11 => [256, 256, 128, 64]
    | _ => [512, 512, 512, 512]
  row.getD p 0

/-- The override of a field, if any (kept as value + 1 under key 16 p + f). -/
def State.profOver? (s : State) (p f : Nat) : Option Nat :=
  match spGet (fun _ => 0) s.profOver (16 * p + f) with
  | 0 => none
  | v + 1 => some v

/-- The value of a field in force in its profile (R6). -/
def State.profVal (s : State) (p f : Nat) : Nat := (s.profOver? p f).getD (profDefault p f)

/-- Table 0-8: SHOT_PERIOD, C / group rounded, halves up. -/
def shotPeriod (p group : Nat) : Nat := (2 * profC p + group) / (2 * group)

/-- R139: the trajectory range over `n` samples, round((n - 1) × 0.5 × v), halves up. -/
def trajRange (p n : Nat) : Nat := ((n - 1) * 29127111 * 2048 * profRate p + 10 ^ 10) / (2 * 10 ^ 10)

/-- Table 0-8: MIN and MAX of a field with the others as `v` gives them. -/
def profLimits (p : Nat) (v : Nat → Nat) (f : Nat) : Nat × Nat :=
  match f with
  | 0 | 1 => (2, 16)
  | 2 => (0, 5)
  | 3 => (150, 60000)
  | 4 => (8, 64)
  | 5 => (16, 255)
  | 6 => (0, 255)
  | 7 => (0, 1)
  | 8 => (0, 5)
  | 9 => (4, 32)
  | 10 => (1, trajRange p (v 9))
  | 11 => (1, v 10)
  | _ => (1, 65535)

/-- R180: the conditions on the histogram fields, with R10 on the column duration. -/
def profileRuns (p : Nat) (v : Nat → Nat) : Bool :=
  let group := v 0 + v 1
  decide (v 0 % 2 = 0 ∧ v 1 % 2 = 0 ∧ 2 ≤ v 0 ∧ v 0 ≤ 16 ∧ 2 ≤ v 1 ∧ v 1 ≤ 16 ∧ v 2 ≤ 5 ∧
    (v 5 + v 3 + 176) * 2048 ≤ 2 * shotPeriod p group ∧ 17 * 12000 * 256 ≤ profC p)

/-- R6: whether field `f` of profile `p` may take `x`. -/
def State.overrideOk (s : State) (p f x : Nat) : Bool :=
  let old := s.profVal p
  let new := fun g => if g = f then x else old g
  let lim := profLimits p old f
  decide (lim.1 ≤ x ∧ x ≤ lim.2 ∧ (f ≤ 1 → x % 2 = 0) ∧ new 0 + new 1 ≤ profGMax p) && profileRuns p new &&
    decide (new 10 ≤ (profLimits p new 10).2 ∧ new 11 ≤ (profLimits p new 11).2)

/-- BANK_RATE of the profile block: shots per bank per second at throttle level 0. -/
def State.bankRate (s : State) (p : Nat) : Nat := profCols p * profRate p * (s.profVal p 0 + s.profVal p 1)

/-- One entry of the profile block (Table 0-7). -/
def State.profEntry (s : State) (p e : Nat) : List Byte :=
  if e < 13 then
    let lim := profLimits p (s.profVal p) e
    beBytes 2 e ++ beBytes 1 (if (s.profOver? p e).isSome then 2 else 0) ++ [0] ++ beBytes 4 (s.profVal p e) ++ beBytes 2 lim.1 ++
      beBytes 2 lim.2
  else if e = 13 then beBytes 2 13 ++ [1, 0] ++ beBytes 4 (shotPeriod p (s.profVal p 0 + s.profVal p 1)) ++ zeros 4
  else [0xFF, 0xFF] ++ zeros 10

/-- R6, Table 0-7: the profile block, 256 bytes. -/
def State.profBlock (s : State) (p : Nat) : List Byte :=
  let anyOver := (List.range 13).any (fun f => (s.profOver? p f).isSome)
  beBytes 1 p ++ beBytes 1 (bit (s.scan.named == p) + 2 * bit anyOver) ++ beBytes 2 14 ++ beBytes 2 (profCols p) ++
    beBytes 2 (100 * profRate p) ++ beBytes 2 (profRange p) ++ beBytes 1 (profGMax p) ++ [0] ++ beBytes 4 (s.bankRate p) ++
    (List.range 20).flatMap (fun e => s.profEntry p e)

/-- R1, R6: PROFILE_OVERRIDE. A write of the default clears OVERRIDDEN. -/
def cmdProfileOverride (s : State) (p : List Byte) : Reply :=
  let prof := u8 p 0
  let f := u16 p 2
  let x := u32 p 4
  s.guarded [s.badState (s.pw.st != .ready), badParam (notZero p 1 1) 0, badParam (decide (3 < prof ∨ 12 < f)) 0,
    badParam (!s.overrideOk prof f x) 1]
    (({ s with profOver := spSet (fun _ => 0) s.profOver (16 * prof + f) (if x = profDefault prof f then 0 else x + 1) } : State).done [])

/-- R6: PROFILE_READ; 0xFF reads the selected profile. -/
def cmdProfileRead (s : State) (p : List Byte) : Reply :=
  let prof := u8 p 0
  s.guarded [badParam (decide (3 < prof) && prof != 0xFF) 0, badParam (notZero p 1 3) 0]
    (s.done (s.profBlock (if prof = 0xFF then s.scan.named else prof)))

end Sys2Proof.Machine
end

