-- ==== Sys2Proof/Machine/Shot.lean ====
section
/-! DEFINITION. Emitter strings, the shot scheduler and the eye-safety energy limiter (chapter 4): what happens at each moment of a
slot, the supervision of strings and banks, triggers, derating, and the commands of range 0x02xx. -/

namespace Sys2Proof.Machine

/-! ### Records of strings and banks -/

/-- String `n` beside its registers. -/
def State.str (s : State) (n : Nat) : StringSt := spGet (fun _ => StringSt.init) s.shot.strings n

/-- Replace the record of string `n`. -/
def State.setStr (s : State) (n : Nat) (x : StringSt) : State :=
  { s with shot := { s.shot with strings := spSet (fun _ => StringSt.init) s.shot.strings n x } }

/-- Bank `b` beside its registers. -/
def State.bank (s : State) (b : Nat) : BankSt := spGet (fun _ => BankSt.init) s.shot.banks b

/-- Replace the record of bank `b`. -/
def State.setBank (s : State) (b : Nat) (x : BankSt) : State :=
  { s with shot := { s.shot with banks := spSet (fun _ => BankSt.init) s.shot.banks b x } }

/-- The strings of bank `b`. -/
def bankStrings (b : Nat) : List Nat := [4 * b, 4 * b + 1, 4 * b + 2, 4 * b + 3]

/-! ### Liveness and outputs -/

/-- R109: a live string. -/
def State.live (s : State) (n : Nat) : Bool :=
  s.flag (F.STR.STR_CTRL_EN n) && !s.flag (F.STR.STR_STAT_OVERVOLT n) && !s.flag (F.STR.STR_STAT_WIDE n) &&
    !s.flag (F.STR.STR_STAT_CHARGE n)

/-- BANK_STAT.LIVE: the live strings of bank `b`. -/
def State.liveMask (s : State) (b : Nat) : Nat := (List.range 4).foldl (fun m i => m + bit (s.live (4 * b + i)) * 2 ^ i) 0

/-- R109: the banks without a live string. -/
def State.emptyBanks (s : State) : Nat := (List.range 8).foldl (fun m b => m + bit (s.liveMask b == 0) * 2 ^ b) 0

/-- BANK_STAT.STOPPED: the bank does not fire, for lack of a live string or for its pick-off (R109, R111). -/
def State.bankStopped (s : State) (b : Nat) : Bool := s.flag (F.BNK.BANK_STAT_PICKOFF_LOST b) || s.liveMask b == 0

/-- R91, R100: CHG_DRV_n may run: the string charges and no inhibit holds, or it is under CHARGE_TEST. -/
def State.chgDrv (s : State) (n : Nat) : Bool :=
  (s.str n).charging && (s.get F.SHT.EMIT_INHIBIT_SRC == 0 || s.shot.chargeTest.any (fun c => c.1 == n))

/-- R100: EMIT_EN. -/
def State.emitEn (s : State) : Bool := s.domOn 68 && (s.get F.SHT.EMIT_INHIBIT_SRC == 0 || s.shot.chargeTest.isSome)

/-! ### Targets and drive (R90, R95, R112) -/

/-- STR_DRIVE.TARGET of a drive word. -/
def driveTarget (w : Word) : Nat := bitsOf w.toNat 16 13

/-- R95, R105: WIDTH after the MAX_WIDTH limit. -/
def State.widthEff (s : State) (n : Nat) : Nat := min (bitsOf (s.str n).drive.toNat 8 4) (s.get F.LIM.LIM_MAX_MAX_WIDTH)

/-- R90: the effective target wanted for a drive word under derating factor `f`. -/
def State.targetFor (s : State) (w : Word) (f : Nat) : Nat :=
  max 1000 (min (min (driveTarget w) (s.get F.LIM.LIM_MAX_MAX_TARGET)) (driveTarget w * f / 1024))

/-- R90, R95: STR_DRIVE takes effect at the bank's column boundary; a change of TARGET moves the effective target whole. -/
def State.latchDrive (s : State) (n : Nat) : State :=
  let w := s.rd (F.STR.STR_DRIVE_TARGET n).addr
  let x := s.str n
  let s := s.when (driveTarget w != driveTarget x.drive || s.get (F.STR.STR_STAT_EFF_TARGET n) > s.get F.LIM.LIM_MAX_MAX_TARGET)
    (fun s => s.set (F.STR.STR_STAT_EFF_TARGET n) (s.targetFor w s.shot.fForce))
  s.setStr n { x with drive := w }

/-- R112: at a frame start the factor F in force follows DERATE_ST; an effective target moves by at most 0.50 V, and the first
frame below 1,024 raises EV_EMITTER_DERATE. -/
def State.derateFrame (s : State) : State :=
  let f := s.get F.SHT.DERATE_F
  let was := s.shot.fForce
  let s : State := { s with shot := { s.shot with fForce := f } }
  let s := s.each (List.range 32) (fun s n =>
    let eff := s.get (F.STR.STR_STAT_EFF_TARGET n)
    let want := s.targetFor (s.str n).drive f
    s.set (F.STR.STR_STAT_EFF_TARGET n) (if eff < want then min want (eff + 50) else max want (eff - 50)))
  s.when (decide (f < 1024) && was == 1024) (fun s => s.raise EV_EMITTER_DERATE 0 f)

/-- R112: the derating factor for T_E in 1/16 °C. -/
def State.derateFactor (s : State) (te : Int) : Nat :=
  let start : Int := 16 * s.get F.SHT.DERATE_CFG_START
  let stop : Int := 16 * s.get F.SHT.DERATE_CFG_END
  let floor := s.get F.SHT.DERATE_CFG_FLOOR
  if te ≤ start then 1024
  else if te < stop then ((102400 * (stop - start) - (102400 - 1024 * floor) * (te - start)) / (100 * (stop - start))).toNat
  else 1024 * floor / 100

/-- R112, R113: the round's evaluation of T_E: DERATE_ST, and THERMAL_EMITTER with its hysteresis. -/
def State.derateRound (s : State) (te : Int) : State :=
  if s.domOn 68 then
    let s := ((s.setI F.SHT.T_E te).set F.SHT.DERATE_F (s.derateFactor te)).publish F.SHT.DERATE_ST
    let off : Int := 16 * s.get F.SHT.DERATE_CFG_OFF
    if off < te then
      if s.bitAt F.SHT.EMIT_INHIBIT_SRC 7 then s else (s.inhibitOn (2 ^ 7)).raise EV_EMITTER_THERMAL 0 (unsigned 16 te)
    else s.when (decide (te < off - 80)) (fun s => s.inhibitOff (2 ^ 7))
  else s

/-- R113: a DERATE_CFG write is checked whole. -/
def State.wrDerateCfg (s : State) (v : Word) : State :=
  let off := bitsOf v.toNat 24 8
  let stop := bitsOf v.toNat 16 8
  let start := bitsOf v.toNat 8 8
  let floor := bitsOf v.toNat 0 8
  if start < stop ∧ stop < off ∧ off ≤ 125 ∧ 25 ≤ floor ∧ floor ≤ 100 then s.wr F.SHT.DERATE_CFG_OFF.addr v
  else s.set F.SHT.CFG_ERR 1

/-! ### The LFSR and the offset (R98) -/

/-- One step of the 31-bit Fibonacci LFSR. -/
def lfsrStep (x : Nat) : Nat := (2 * x + (bitsOf x 30 1 ^^^ bitsOf x 27 1)) % 2 ^ 31

/-- Ten steps, one scheduled slot. -/
def lfsrSlot (x : Nat) : Nat := lfsrStep (lfsrStep (lfsrStep (lfsrStep (lfsrStep (lfsrStep (lfsrStep (lfsrStep (lfsrStep (lfsrStep x)))))))))

/-- The offset code of the LFSR state. -/
def State.offsetCode (s : State) (x : Nat) : Nat := bitsOf x 0 10 / 2 ^ (10 - s.get F.SHT.SHOT_CTRL_OFFSET_BITS)

/-! ### The limiter (R105 to R108) -/

/-- The accounting group of bank `b` under POOL. -/
def State.limGroup (s : State) (b : Nat) : Nat :=
  match s.get F.LIM.LIM_CFG_POOL with
  | 0 => b
  | 1 => b / 2
  | 2 => b / 4
  | _ => 0

/-- Nine empty sub-windows. -/
def noEnergy : List Nat := [0, 0, 0, 0, 0, 0, 0, 0, 0]

/-- The CELL sum of a group's cell. -/
def State.cellSum (s : State) (g c : Nat) : Nat := (spGet (fun _ => noEnergy) s.shot.cells (64 * g + c)).sum

/-- The LONG sum of a group. -/
def State.longSum (s : State) (g : Nat) : Nat := (spGet (fun _ => noEnergy) s.shot.longs g).sum

/-- Add to the current sub-window. -/
def addNow (x : Nat) : List Nat → List Nat
  | [] => [x]
  | a :: r => (a + x) :: r

/-- R107: add the cost of a fired shot to both sums. -/
def State.addCost (s : State) (g c x : Nat) : State :=
  { s with shot := { s.shot with
      cells := spSet (fun _ => noEnergy) s.shot.cells (64 * g + c) (addNow x (spGet (fun _ => noEnergy) s.shot.cells (64 * g + c))),
      longs := spSet (fun _ => noEnergy) s.shot.longs g (addNow x (spGet (fun _ => noEnergy) s.shot.longs g)) } }

/-- A sub-window ends: the window slides. -/
def slideWindow (m : List (Nat × List Nat)) : List (Nat × List Nat) :=
  (m.map (fun e => (e.1, 0 :: e.2.take 8))).filter (fun e => e.2 != noEnergy)

/-- CELL_LIMIT. -/
def State.cellLimit (s : State) : Nat := s.get F.LIM.CELL_LIMIT_HI * 2 ^ 32 + s.get F.LIM.CELL_LIMIT_LO

/-- LONG_LIMIT. -/
def State.longLimit (s : State) : Nat := s.get F.LIM.LONG_LIMIT_HI * 2 ^ 32 + s.get F.LIM.LONG_LIMIT_LO

/-- R106: the cell of the beam angle `a` in 1/65,536 turn. -/
def State.limCell (s : State) (a : Nat) : Nat :=
  let d := signed 16 ((a + 65536 - s.get F.LIM.LIM_ANGLE_BASE_BASE) % 65536)
  (max 0 (min 63 (d / (s.get F.LIM.LIM_CFG_CELL_WIDTH : Int)))).toNat

/-- R105: the cost of firing the strings of `mask` of bank `b`. -/
def State.shotCost (s : State) (b mask : Nat) : Nat :=
  ((List.range 4).map (fun i =>
    if mask / 2 ^ i % 2 = 1 then
      max ((s.bank b).v.getD i 0) (s.get (F.STR.STR_STAT_EFF_TARGET (4 * b + i))) * (4 + s.widthEff (4 * b + i))
    else 0)).sum

/-- R108: the lanes disagree. -/
def State.laneMismatch (s : State) : State :=
  ((s.inhibitOn (2 ^ 4)).set F.LIM.LIM_CFG_LANE_FAULT 1).raise EV_LIMITER_FAULT 0 0

/-! ### Scan geometry the slots need -/

/-- The shot group G in force (R96). -/
def State.group (s : State) : Nat := s.get F.RX.HIST_CFG_COARSE_N + s.get F.RX.HIST_CFG_ZOOM_N

/-- The scan's columns per frame. -/
def State.nCol (s : State) : Nat := profCols s.scan.profile

/-- R321: what a follower has added to the boundary of column `c`, in fine LSB. -/
def State.columnShift (s : State) (c : Nat) : Int :=
  match s.sync.shifts.find? (fun e => decide (e.1 ≤ c)) with
  | some e => e.2
  | none => 0

/-- R96: the nominal firing time of shot `j` of bank `b` in column `c`, in fine LSB, halves up; a follower's boundaries are the adjusted ones (R321). -/
def State.nominalTime (s : State) (c j b : Nat) : Nat :=
  let p := s.get F.SHT.SHOT_PERIOD_PERIOD
  ((((8 * c * profC s.scan.profile + 8 * j * p + b * p) + 1024) / 2048 : Nat) + s.columnShift c).toNat

/-- Slots run: the boundary of column 0 is fixed or the columns run. -/
def State.slotsRun (s : State) : Bool := s.domOn 68 && (s.scan.phase == .fixed || s.scan.phase == .running)

/-! ### The moments of a slot -/

/-- R92: the VSTR samples of the bank at T_N - 160 ns. -/
def State.vstrSample (s : State) (b : Nat) (v : List Nat) : State :=
  if s.slotsRun then
    let s := s.setBank b { s.bank b with v := v.take 4 }
    s.each (List.range 4) (fun s i =>
      let x := s.str (4 * b + i)
      let y := v.getD i 0
      s.setStr (4 * b + i) { x with vRun := if x.vRun = 0 then y else min x.vRun y })
  else s

/-- R92: the judgement of a string's sample at step 3: fired (true) or skipped. -/
def State.judgeSample (s : State) (b i : Nat) : Bool × State :=
  let n := 4 * b + i
  let x := s.str n
  if !s.live n then (false, s)
  else if 10 * (s.bank b).v.getD i 0 < 9 * s.get (F.STR.STR_STAT_EFF_TARGET n) then
    let s := (s.setStr n { x with skips := x.skips + 1 }).inc (F.STR.CHG_SKIP n)
    if x.skips + 1 = 64 then (false, (s.set (F.STR.STR_STAT_CHARGE n) 1).raise EV_STRING_CHARGE n 0) else (false, s)
  else (true, s.setStr n { x with skips := 0 })

/-- The strings of a bank that can fire, all samples judged. -/
def State.judgeBank (s : State) (b : Nat) : Nat × State :=
  (List.range 4).foldl (fun (acc : Nat × State) i =>
    let r := acc.2.judgeSample b i
    (acc.1 + bit r.1 * 2 ^ i, r.2)) (0, s)

/-- R97: the LFSR steps and the slot's descriptor is opened. -/
def State.openSlot (s : State) (b : Nat) : State :=
  let x := s.bank b
  let s : State := { s with shot := { s.shot with lfsr := lfsrSlot s.shot.lfsr } }
  let s := s.when (x.next == 0) (fun s => s.each (bankStrings b) State.latchDrive)
  let last := decide (s.group ≤ x.next + 1)
  let s := s.setBank b { x with
    curCol := x.col, curShot := x.next, offset := s.offsetCode s.shot.lfsr, curRx := x.rxMask, fireMask := 0,
    outcome := .none, cost := 0, col := if last then x.col + 1 else x.col, next := if last then 0 else x.next + 1,
    claimed := x.claimed - 1 }
  s.when (b == 0) (fun s => s.set F.SHT.SHOT_STATE_SHOT x.next)

/-- R107, R108: the limiter denies: the counters, and EV_LIMITER_DENY once per bank and frame. -/
def State.denySlot (s : State) (b : Nat) : State :=
  let frame := (s.bank b).curCol / s.nCol
  let first := (s.bank b).denyFrame != some frame
  let s := ((s.setBank b { s.bank b with outcome := .denied, denyFrame := some frame }).inc (F.BNK.DENIED b)).inc F.LIM.DENY_TOTAL
  s.when first (fun s => s.raise EV_LIMITER_DENY b (frame % 65536))

/-- R97: step 4 and 5: the limiter decides. -/
def State.limitSlot (s : State) (b mask : Nat) (laneFault : Bool) : State :=
  let x := s.bank b
  let g := s.limGroup b
  let cost := s.shotCost b mask
  if laneFault then (s.denySlot b).laneMismatch
  else if !x.angleOk || decide (s.cellLimit < s.cellSum g x.cell + cost) || decide (s.longLimit < s.longSum g + cost) then s.denySlot b
  else s.setBank b { x with outcome := .consented, fireMask := mask, cost := cost }

/-- Table 4-9: BANK_LIM, noted at every slot with a valid angle and published at the last slot of a column. -/
def State.noteLimiter (s : State) (b : Nat) : State :=
  let x := s.bank b
  let g := s.limGroup b
  let s := if x.angleOk then s.setBank b { x with limCell := x.cell, limCellSum := s.cellSum g x.cell } else s
  if x.curShot + 1 = s.group then
    let y := s.bank b
    let long := s.longSum g
    let s := (s.setFlag (F.BNK.NO_ANGLE b) (!x.angleOk)).set (F.BNK.CELL b) y.limCell
    let s := (s.set (F.BNK.CELL_SUM_LO b) y.limCellSum).set (F.BNK.CELL_SUM_HI b) (y.limCellSum / 2 ^ 32)
    let s := (s.set (F.BNK.LONG_SUM_LO b) long).set (F.BNK.LONG_SUM_HI b) (long / 2 ^ 32)
    s.publish (F.BNK.BANK_LIM_ST b)
  else s

/-- R97: the outcome of a slot at its consent time. -/
def State.shotConsent (s : State) (b : Nat) (laneFault : Bool) : State :=
  if s.slotsRun then
    let trig := bitsOf (s.bank b).trig.toNat 0 1 == 1
    let claimed := (s.bank b).claimed == 1
    let s := s.openSlot b
    let s :=
      if s.get F.SHT.EMIT_INHIBIT_SRC ≠ 0 then
        (s.setBank b { s.bank b with outcome := .inhibited }).inc (F.BNK.INHIBITED b)
      else if trig && !claimed then s.setBank b { s.bank b with outcome := .untriggered }
      else
        let r := s.judgeBank b
        if r.1 = 0 ∨ r.2.flag (F.BNK.BANK_STAT_PICKOFF_LOST b) then r.2.setBank b { r.2.bank b with outcome := .empty }
        else r.2.limitSlot b r.1 laneFault
    s.noteLimiter b
  else s

/-- A fired string: its counters and its block of 1,024 firings (R110), and the figures of its last firing. -/
def State.stringFired (s : State) (n v : Nat) : State :=
  let x := s.str n
  let x := if x.blkN = 1024 then { x with blkN := 0, blkBad := 0 } else x
  (s.setStr n { x with blkN := x.blkN + 1, colFired := true, vLast := v, vMin := x.vRun }).inc (F.STR.FIRED n)

/-- R95, R107: gate rise of a consented slot. A source of EMIT_INHIBIT that rose since makes it INHIBITED. -/
def State.shotFire (s : State) (b : Nat) (laneFault : Bool) : State :=
  if s.slotsRun then
    let x := s.bank b
    let s :=
      if x.outcome = .consented then
        if s.get F.SHT.EMIT_INHIBIT_SRC ≠ 0 then
          (s.setBank b { x with outcome := .inhibited, fireMask := 0 }).inc (F.BNK.INHIBITED b)
        else
          let s := (s.addCost (s.limGroup b) x.cell x.cost).inc (F.BNK.FIRED b)
          let dual := x.curRx &&& (x.curRx - 1) != 0
          let s := s.setBank b { x with outcome := .fired, firedCol := x.firedCol + 1, dualCol := x.dualCol || dual, window := false }
          let s := s.each ((List.range 4).filter (fun i => x.fireMask / 2 ^ i % 2 = 1))
            (fun s i => s.stringFired (4 * b + i) (x.v.getD i 0))
          (s.emit (.shot b x.fireMask x.offset)).when laneFault State.laneMismatch
      else s
    s.when (b == 0 && x.curCol == 0 && x.curShot == 0) (fun s => s.complete 0x0100 0 0 [])
  else s

/-- R107: a sub-window ends. -/
def State.subwindow (s : State) (long : Bool) : State :=
  if s.domOn 68 then
    { s with shot := { s.shot with
        cells := if long then s.shot.cells else slideWindow s.shot.cells,
        longs := if long then slideWindow s.shot.longs else s.shot.longs } }
  else s

/-! ### Supervision of strings and banks -/

/-- R110: a NARROW or MISSING pulse counts in the block of 1,024 firings. -/
def State.badPulse (s : State) (n : Nat) : State :=
  let x := s.str n
  let s := s.setStr n { x with blkBad := x.blkBad + 1 }
  s.when (x.blkBad + 1 == 16) (fun s => (s.set (F.STR.STR_STAT_DEGRADED n) 1).raise EV_STRING_DEGRADED n 0)

/-- R110, Table 4-6: the class of a fired string's pulse, times in fine LSB from gate rise. -/
def State.classifyPulse (s : State) (n : Nat) (rise : Option Int) (width : Nat) (highAfter20 : Bool) : State :=
  let b := n / 4
  if s.domOn 68 && (s.bank b).outcome == .fired && (s.bank b).fireMask / 2 ^ (n % 4) % 2 == 1 then
    let w := 24 + 6 * s.widthEff n
    let seen := rise.any (fun r => decide (0 ≤ r ∧ r ≤ 240))
    let x := s.str n
    let s := if seen then s.setStr n { x with wMin := if x.wMax = 0 then width else min x.wMin width, wMax := max x.wMax width } else s
    if highAfter20 || (seen && decide (w + 12 < width)) then (s.set (F.STR.STR_STAT_WIDE n) 1).raise EV_STRING_WIDTH n 0
    else if !seen then (s.inc (F.STR.MISSING n)).badPulse n
    else if width + 12 < w then (s.inc (F.STR.NARROW n)).badPulse n
    else s
  else s

/-- R110: a stray current latches EMIT_INHIBIT.STRAY; SAFE_HOLD is the reaction of EV_EMITTER_STRAY. -/
def State.strayCurrent (s : State) (n : Nat) : State :=
  if s.domOn 68 then (s.inhibitOn (2 ^ 11)).raise EV_EMITTER_STRAY n 0 else s

/-- R93: VSTR reaches 2.440 V. -/
def State.overvolt (s : State) (n : Nat) : State :=
  if s.domOn 68 then
    ((s.setStr n { s.str n with charging := false }).set (F.STR.STR_STAT_OVERVOLT n) 1).raise EV_STRING_OVERVOLT n 0
  else s

/-- R91: the charge window opens; a live string below its target minus 0.20 V charges. -/
def State.openWindow (s : State) (b : Nat) (v : List Nat) : State :=
  if s.slotsRun then
    let s := s.setBank b { s.bank b with window := true }
    s.each (List.range 4) (fun s i =>
      let n := 4 * b + i
      let low := decide (v.getD i 0 + 20 < s.get (F.STR.STR_STAT_EFF_TARGET n))
      s.setStr n { s.str n with charging := s.live n && !s.flag (F.BNK.BANK_STAT_PICKOFF_LOST b) && low })
  else s

/-- R91: the charge window closes. -/
def State.closeWindow (s : State) (b : Nat) : State :=
  if s.domOn 68 then
    (s.setBank b { s.bank b with window := false }).each (bankStrings b) (fun s n => s.setStr n { s.str n with charging := false })
  else s

/-- R91: VSTR has reached the effective target. -/
def State.targetReached (s : State) (n : Nat) : State :=
  if s.domOn 68 then s.setStr n { s.str n with charging := false } else s

/-- R111: a FIRED shot whose reference channel reports no start. -/
def State.shotWithoutStart (s : State) (b : Nat) : State :=
  let x := s.bank b
  let s := (s.setBank b { x with noStart := x.noStart + 1 }).inc (F.BNK.PICK_MISS b)
  s.when (x.noStart + 1 == 8) (fun s => (s.set (F.BNK.BANK_STAT_PICKOFF_LOST b) 1).raise EV_PICKOFF_LOST b 0)

/-- A FIRED shot with a start ends the run of R111. -/
def State.shotWithStart (s : State) (b : Nat) : State := s.setBank b { s.bank b with noStart := 0 }

/-- A start of scanning: the seed is loaded (R98), blocks and claims begin anew (R101, R110), and slots count from column 0. -/
def State.armScheduler (s : State) : State :=
  let s : State := { s with shot := { s.shot with lfsr := s.get F.SHT.SHOT_SEED_SEED } }
  let s := s.each (List.range 32) (fun s n => s.setStr n { s.str n with blkN := 0, blkBad := 0 })
  s.each (List.range 8) (fun s b => s.setBank b { s.bank b with
    col := 0, next := 0, claimed := 0, outcome := .none, fireMask := 0, trig := s.rd (F.BNK.BANK_CTRL_TRIG b).addr,
    firedCol := 0, dualCol := false, denyFrame := none })

/-- R474, R91: from the clear of EMIT_INHIBIT every bank's window is open for its first firing. -/
def State.firstWindows (s : State) : State :=
  s.each (List.range 8) (fun s b =>
    (s.setBank b { s.bank b with window := true }).each (bankStrings b) (fun s n =>
      s.setStr n { s.str n with charging := s.live n && !s.flag (F.BNK.BANK_STAT_PICKOFF_LOST b) }))

/-- The figures of column `c`: STR_MEAS of every string that fired in it (Table 4-8), and the banks' counts begin anew; a sample already taken for the next column counts
there. -/
def State.closeShotColumn (s : State) (c : Nat) : State :=
  let s := s.each (List.range 32) (fun s n =>
    let x := s.str n
    let b := s.bank (n / 4)
    let s := s.when x.colFired (fun s =>
      let s := (s.set (F.STR.STR_MEAS_V_V_LAST n) x.vLast).set (F.STR.STR_MEAS_V_V_MIN n) x.vMin
      let s := (s.set (F.STR.STR_MEAS_W_W_MAX n) x.wMax).set (F.STR.STR_MEAS_W_W_MIN n) x.wMin
      s.publish (F.STR.STR_MEAS_ST n))
    s.setStr n { x with colFired := false, vRun := if b.curCol = c + 1 then b.v.getD (n % 4) 0 else 0, vLast := 0, vMin := 0, wMin := 0, wMax := 0 })
  s.each (List.range 8) (fun s b => s.setBank b { s.bank b with firedCol := 0, dualCol := false })

/-! ### EMIT_INHIBIT sources from outside (R100, Table 4-3) -/

/-- Sources that a latch or the host holds: they fall by their own rules only. -/
def heldSources : List Nat := [1, 4, 5, 11]

/-- Sources that the model's own state shows to assert: not SCANNING before the boundary is fixed, the mirror and bias latches,
an unconfigured or faulted limiter, an episode of the fault manager, THERMAL_LATCH. -/
def State.stateSources (s : State) : Nat :=
  let fb := fun f => s.domOn 67 && s.flag f
  bit (!(s.pw.st == .scanning || s.scan.phase == .fixed)) +
  2 ^ 2 * bit (fb (F.LOOP.LOOP_STAT_FB_LOST 0) || fb (F.LOOP.LOOP_STAT_FB_FROZEN 0) || fb (F.LOOP.LOOP_STAT_FB_LOST 1) ||
    fb (F.LOOP.LOOP_STAT_FB_FROZEN 1)) +
  2 ^ 3 * bit (fb (F.LOOP.LOOP_STAT_FB_FROZEN 2) || fb (F.LOOP.LOOP_STAT_FB_FROZEN 3)) +
  2 ^ 4 * bit (s.flag F.LIM.LIM_CFG_LANE_FAULT) + 2 ^ 5 * bit (!s.flag F.LIM.LIM_CFG_CONFIGURED) +
  2 ^ 6 * bit (decide (2 ≤ s.get F.FM.FM_STAT_CLASS)) + 2 ^ 8 * bit (s.pw.st == .thermalLatch || s.pw.latchFlag)

/-- R100: a source deasserts, unless the state still shows it. -/
def State.sourceRelease (s : State) (src : Nat) : State :=
  if heldSources.contains src || s.stateSources / 2 ^ src % 2 == 1 then s else s.inhibitOff (2 ^ src)

/-! ### Triggers (R101 to R104) -/

/-- R102, R103: an accepted edge of TIN input `i`. Bit b of `late`: the edge comes after the consent time of bank b's current
slot; bit b of `tight`: the bank's next consent time comes less than 20 ns after the edge. -/
def State.triggerEdge (s : State) (i : Nat) (falling : Bool) (late tight : Nat) : State :=
  if s.slotsRun && s.pw.st == .scanning then
    s.each (List.range 8) (fun s b =>
      let x := s.bank b
      let w := x.trig.toNat
      if bitsOf w 0 1 = 1 ∧ bitsOf w 4 2 = i ∧ bitsOf w 1 1 = bit falling then
        if x.claimed ≠ 0 then s.inc (F.BNK.TRIG_MERGED b)
        else
          let s := s.setBank b { x with claimed := if tight / 2 ^ b % 2 = 1 then 2 else 1 }
          s.when (late / 2 ^ b % 2 == 1) (fun s => s.inc (F.BNK.TRIG_DEFER b))
      else s)
  else s

/-! ### Register writes with rules of their own -/

/-- R109, R115: a write inside a string block; clearing CHARGE begins the count of R92 anew. -/
def State.wrStr (s : State) (a : Nat) (v : Word) : State :=
  let o := a % 0x100
  if o = 0x00 then (if s.pw.st = .scanning then s else s.hostWrite a v)
  else if o = 0x10 then
    if s.pw.st = .ready ∨ s.pw.st = .safeHold then
      let n := (a - 0x20000) / 0x100
      let was := s.flag (F.STR.STR_STAT_CHARGE n)
      let s := s.hostWrite a v
      s.when (was && !s.flag (F.STR.STR_STAT_CHARGE n)) (fun s => s.setStr n { s.str n with skips := 0 })
    else s
  else s.hostWrite a v

/-- R111: a write inside a bank block. -/
def State.wrBank (s : State) (a : Nat) (v : Word) : State :=
  if a % 0x80 = 0x04 then
    if s.pw.st = .ready ∨ s.pw.st = .safeHold then
      let b := (a - 0x24000) / 0x80
      let was := s.flag (F.BNK.BANK_STAT_PICKOFF_LOST b)
      let s := s.hostWrite a v
      s.when (was && !s.flag (F.BNK.BANK_STAT_PICKOFF_LOST b)) (fun s => s.shotWithStart b)
    else s
  else s.hostWrite a v

/-- R99, R100, R113: a write inside the scheduler block. -/
def State.wrSht (s : State) (a : Nat) (v : Word) : State :=
  if a = F.SHT.SHOT_CTRL_OFFSET_BITS.addr then (if s.pw.st = .scanning then s else s.hostWrite a v)
  else if a = F.SHT.SHOT_SEED_SEED.addr then
    (if s.pw.st = .scanning then s else s.set F.SHT.SHOT_SEED_SEED (if v.toNat % 2 ^ 31 = 0 then 1 else v.toNat))
  else if a = F.SHT.DERATE_CFG_OFF.addr then s.wrDerateCfg v
  else s.hostWrite a v

/-! ### Commands of range 0x02xx -/

/-- EMITTER_INHIBIT (Table 2-10): the host's source of EMIT_INHIBIT. -/
def cmdEmitterInhibit (s : State) (p : List Byte) : Reply :=
  s.guarded [s.needDom 68, badParam (decide (1 < u8 p 0)) 0, badParam (notZero p 1 3) 0]
    ((if u8 p 0 = 1 then s.inhibitOn 2 else s.inhibitOff 2).done [])

/-- STRING_ENABLE: EN of all 32 strings (R115). -/
def cmdStringEnable (s : State) (p : List Byte) : Reply :=
  s.guarded [s.badState (s.pw.st != .ready), s.needDom 68]
    ((s.each (List.range 32) (fun s n => s.set (F.STR.STR_CTRL_EN n) (bitsOf (u32 p 0) n 1))).done [])

/-- R94: CHARGE_TEST. -/
def cmdChargeTest (s : State) (p : List Byte) : Reply :=
  let n := u8 p 0
  let t := u16 p 2
  s.guarded [s.badState (s.pw.st != .ready), s.needDom 68, (decide (n < 32) && !s.live n, 0x52, n), badParam (decide (31 < n)) 0,
    badParam (notZero p 1 1) 0, badParam (decide (t < 1000 ∨ s.get F.LIM.LIM_MAX_MAX_TARGET < t)) 0]
    (s.accept 0x0202 (({ s with shot := { s.shot with chargeTest := some (n, t) } } : State).setStr n { s.str n with charging := true }))

/-- R94: the test ends. -/
def State.endChargeTest (s : State) : State :=
  let s := match s.shot.chargeTest with
    | some (n, _) => s.setStr n { s.str n with charging := false }
    | none => s
  { s with shot := { s.shot with chargeTest := .none } }

/-- R94: CHARGE_TEST completes. -/
def State.chargeTestComplete (s : State) (reachedTarget : Bool) (ns reached : Nat) : State :=
  if s.isRunning 0x0202 then
    s.endChargeTest.complete 0x0202 0 0 (beBytes 4 (if reachedTarget then ns else 0xFFFFFFFF) ++ beBytes 2 reached ++ zeros 2)
  else s

/-- LIMITER_READ: offsets 0x00 to 0x3C of the limiter block. -/
def cmdLimiterRead (s : State) : Reply :=
  s.guarded [s.needDom 68] (s.done (wordBytes ((List.range 16).map (fun i => s.rd (0x24600 + 4 * i)))))

/-- R101: TRIGGER_CONFIG. -/
def cmdTriggerConfig (s : State) (p : List Byte) : Reply :=
  let i := u8 p 0
  let m := u8 p 1
  s.guarded [s.badState (s.pw.st != .ready), s.needDom 68, badParam (decide (3 < i ∨ 1 < u8 p 2)) 0, badParam (notZero p 3 1) 0]
    ((s.each (List.range 8) (fun s b =>
      if m / 2 ^ b % 2 = 1 then
        ((s.set (F.BNK.BANK_CTRL_TRIG b) 1).set (F.BNK.BANK_CTRL_TRIG_SRC b) i).set (F.BNK.BANK_CTRL_EDGE b) (u8 p 2)
      else if s.flag (F.BNK.BANK_CTRL_TRIG b) && s.get (F.BNK.BANK_CTRL_TRIG_SRC b) == i then
        ((s.set (F.BNK.BANK_CTRL_TRIG b) 0).set (F.BNK.BANK_CTRL_TRIG_SRC b) 0).set (F.BNK.BANK_CTRL_EDGE b) 0
      else s)).done [])

end Sys2Proof.Machine
end

