-- ==== Sys2Proof/Machine/Loops.lean ====
section
/-! DEFINITION. The loop engine and beam steering (chapter 5): the PID sample, modes, coefficient swaps, the angle, the trajectory,
receive-column selection, feedback supervision, and the commands of range 0x03xx. -/

namespace Sys2Proof.Machine

/-! ### Arithmetic of R120 -/

/-- rnd(v, s): round half up at bit `s`. -/
def rnd (v : Int) (s : Nat) : Int := if s = 0 then v else (v + 2 ^ (s - 1)) / 2 ^ s

/-- clamp(v, a, b). -/
def clampI (v a b : Int) : Int := if v < a then a else if b < v then b else v

/-- A 32-bit value that saturates. -/
def sat32 (v : Int) : Int := clampI v (-(2 ^ 31)) (2 ^ 31 - 1)

/-- One step of at most `r` from `v` toward `t`. -/
def moveToward (v t : Int) (r : Nat) : Int := if v < t then min t (v + r) else max t (v - r)

/-- Largest less smallest. -/
def spread : List Int → Int
  | [] => 0
  | a :: l => l.foldl max a - l.foldl min a

/-! ### Loop records -/

/-- Loop `n` beside its registers. -/
def State.loop (s : State) (n : Nat) : LoopSt := spGet LoopSt.init s.eng.loops n

/-- Replace the record of loop `n`. -/
def State.setLoop (s : State) (n : Nat) (x : LoopSt) : State :=
  { s with eng := { s.eng with loops := spSet LoopSt.init s.eng.loops n x } }

/-- LOOP_CTRL.MODE: 0 OFF, 1 OPEN, 2 CLOSED, 3 HOLD. -/
def State.mode (s : State) (n : Nat) : Nat := s.get (F.LOOP.LOOP_CTRL_MODE n)

/-- R118: the inner loop of an outer loop. -/
def State.innerOf (s : State) (n : Nat) : Option Nat :=
  if n = 0 then some 1 else if n = 2 then some 3
  else if n = 5 ∧ s.get (F.LOOP.LOOP_RATE_DEST 5) = 2 then some 6 else none

/-- R118: the outer loop of an inner loop. -/
def State.outerOf (s : State) (n : Nat) : Option Nat :=
  if n = 1 then some 0 else if n = 3 then some 2
  else if n = 6 ∧ s.get (F.LOOP.LOOP_RATE_DEST 5) = 2 then some 5 else none

/-- CASC_N, code 0 standing for 64. -/
def State.cascN (s : State) (n : Nat) : Nat :=
  let c := s.get (F.LOOP.LOOP_CTRL_CASC_N n)
  if c = 0 then 64 else c

/-- The coefficients in force (ACT bank). -/
structure Coef where
  kp : Int
  ki : Int
  kd : Int
  sp : Nat
  si : Nat
  sd : Nat
  dsrc : Bool
  kf : Nat
  imin : Int
  imax : Int
  outmin : Int
  outmax : Int
  elim : Int
  deriving DecidableEq, Repr

/-- The coefficients in ten words laid out as offsets 0x40 to 0x64. -/
def coefOf (w : Nat → Nat) : Coef :=
  ⟨signed 32 (w 0), signed 32 (w 1), signed 32 (w 2), bitsOf (w 3) 0 5, bitsOf (w 3) 8 5, bitsOf (w 3) 16 5, bitsOf (w 4) 31 1 == 1,
    bitsOf (w 4) 0 16, signed 32 (w 5), signed 32 (w 6), signed 32 (w 7), signed 32 (w 8), signed 32 (w 9)⟩

/-- The coefficients of loop `n` in force. -/
def State.coef (s : State) (n : Nat) : Coef := coefOf (fun i => s.get (F.LOOP.ACT n i))

/-- Word `i` of the shadow bank. -/
def shadowFld (n i : Nat) : Fld := ⟨0x30040 + 0x400 * n + 4 * i, 0, 32⟩

/-- R124, R125: the payload word of the first field of ten coefficient words that fails. -/
def coefBad (w : Nat → Nat) : Option Nat :=
  let c := coefOf w
  if c.imax < c.imin then some 7 else if c.outmax < c.outmin then some 9 else if c.elim < 0 then some 10 else none

/-- R116: the OFF value of a loop. -/
def loopOffValue (n : Nat) : Int := if n = 7 then 65536 else 0

/-- The mean of the last four samples, rnd(sum, 2); none with fewer. -/
def mean4 (l : List Int) : Option Int := if l.length = 4 then some (rnd l.sum 2) else none

/-- R116, Table 5-1: the measurement of loop `n`. -/
def State.measOf (s : State) (n : Nat) : Option Int :=
  match n with
  | 0 => mean4 s.eng.ys
  | 1 => mean4 s.eng.isns
  | 3 => mean4 s.eng.hv
  | 5 | 6 => if s.get (F.LOOP.LOOP_RATE_SRC n) ≤ 1 then some (s.getI (F.LOOP.MEAS_IN n)) else (s.loop n).src
  | _ => (s.loop n).src

/-- R145: the limit on Loop 3's set-point. -/
def State.hvLimit (s : State) : Int := min (s.coef 2).outmax (s.get F.RX.BIAS_CFG_HV_MAX)

/-- The set-point loop `n` uses. -/
def State.spOf (s : State) (n : Nat) : Int := if n = 3 then min (s.loop 3).sp s.hvLimit else (s.loop n).sp

/-- R123: the value at a loop's destination: an outer loop's is its inner loop's set-point in force. -/
def State.present (s : State) (n : Nat) : Int :=
  match s.innerOf n with
  | some m => s.spOf m
  | none => (s.loop n).out

/-! ### The integrator limits and the event of ICLAMP -/

/-- ICLAMP is set; its rise raises EV_LOOP_CLAMP (R120). -/
def State.iclamp (s : State) (n : Nat) : State :=
  if s.flag (F.LOOP.LOOP_STAT_ICLAMP n) then s else (s.set (F.LOOP.LOOP_STAT_ICLAMP n) 1).raise EV_LOOP_CLAMP n 0

/-- The integrator after the limits IMIN and IMAX of R120: I, i_term, clamped. -/
def clampInteg (c : Coef) (i : Int) : Int × Int × Bool :=
  let t := rnd i c.si
  if c.imax < t then (c.imax * 2 ^ c.si, c.imax, true)
  else if t < c.imin then (c.imin * 2 ^ c.si, c.imin, true)
  else (i, t, false)

/-- R123, R124: set the integrator so that error `e` and derivative state `df` give the output `u`. -/
def State.rescale (s : State) (n : Nat) (e df u : Int) : State :=
  let c := s.coef n
  let t := u - rnd (c.kp * e) c.sp - rnd (c.kd * df) c.sd
  let r := clampInteg c (t * 2 ^ c.si)
  let s := s.setLoop n { s.loop n with integ := r.1 }
  if r.2.2 then s.iclamp n else s

/-- R120: x, the source of the derivative. -/
def derivX (c : Coef) (e y : Int) : Int := if c.dsrc then sat32 (-y) else e

/-- R124 step 2: the shadow bank is copied whole. -/
def State.copyBank (s : State) (n : Nat) : State :=
  let s := s.each (List.range 10) (fun s i => s.set (F.LOOP.ACT n i) (s.get (shadowFld n i)))
  (s.set (F.LOOP.LOOP_STAT_SWAP_PEND n) 0).inc (F.LOOP.SWAPS n)

/-- R124: the swap of loop `n`: checked, copied, and rescaled where the loop is CLOSED. -/
def State.swapNow (s : State) (n : Nat) : State :=
  if !s.flag (F.LOOP.LOOP_STAT_SWAP_PEND n) then s
  else
    let s := if (coefBad (fun i => s.get (shadowFld n i))).isSome then
        (s.set (F.LOOP.LOOP_STAT_SWAP_PEND n) 0).set (F.LOOP.LOOP_STAT_SWAP_ERR n) 1
      else
        let s := s.copyBank n
        if s.mode n = 2 then s.rescale n (s.loop n).ePrev (s.loop n).df (s.loop n).uPrev else s
    s.answerLater 0x0301 n 0 0 []

/-! ### Modes (R121 to R123) -/

/-- The supervisor starts anew. -/
def LoopSt.freshWindows (x : LoopSt) : LoopSt := { x with fbOut := 0, fbAbsent := 0, winY := [], winD := [], winR := [] }

/-- Enter OFF. -/
def State.loopToOff (s : State) (n : Nat) : State :=
  let s := s.setLoop n { (s.loop n).freshWindows with integ := 0, df := 0, out := loopOffValue n, inBand := 0, holdPend := false, forced := false }
  (((s.set (F.LOOP.LOOP_CTRL_MODE n) 0).set (F.LOOP.LOOP_STAT_SETTLED n) 0).set (F.LOOP.LOOP_STAT_SAT_OUT n) 0).swapNow n

/-- Enter OPEN or HOLD: the output goes on from its present value. -/
def State.loopToRamp (s : State) (n m : Nat) : State :=
  let u := s.present n
  let s := s.setLoop n { (s.loop n).freshWindows with out := u, inBand := 0, holdPend := false }
  ((s.set (F.LOOP.LOOP_CTRL_MODE n) m).set (F.LOOP.LOOP_STAT_SETTLED n) 0).swapNow n

/-- R123: enter CLOSED. -/
def State.loopToClosed (s : State) (n : Nat) : State :=
  let s := s.swapNow n
  let c := s.coef n
  let y := (s.measOf n).getD (s.getI (F.LOOP.MEAS n))
  let e := sat32 (clampI (s.spOf n - y) (-c.elim) c.elim)
  let u := s.present n
  let s := s.setLoop n { (s.loop n).freshWindows with
    xPrev := derivX c e y, df := 0, ePrev := e, uPrev := u, inBand := 0, holdPend := false, forced := false }
  (s.set (F.LOOP.LOOP_CTRL_MODE n) 2).rescale n e 0 u

/-- R118: an inner loop that has left CLOSED takes its outer loop to HOLD. -/
def State.holdOuter (s : State) (n : Nat) : State :=
  match s.outerOf n with
  | some o => if s.mode o = 2 then s.loopToRamp o 3 else s
  | none => s

/-- Take loop `n` to mode `m`. -/
def State.setMode (s : State) (n m : Nat) : State :=
  let was := s.mode n
  let s := match m with
    | 0 => s.loopToOff n
    | 2 => if was = 2 then s else s.loopToClosed n
    | _ => s.loopToRamp n m
  if was = 2 ∧ m ≠ 2 then s.holdOuter n else s

/-! ### The angle and the trajectory -/

/-- R127: the beam angle of a converter code. -/
def State.beamAngle (s : State) (code : Nat) : Int :=
  let x : Int := code - 32768
  s.getI F.STEER.ANG_A0 + rnd (s.getI F.STEER.ANG_A1 * x) 16 + rnd (s.getI F.STEER.ANG_A2 * x * x) 32

/-- R127: the absolute angle in 1/65,536 turn. -/
def State.absAngle (s : State) (y : Int) : Nat := ((s.get F.STEER.ANG_ZERO + rnd y 8) % 65536).toNat

/-- A feedback latch of loop `n`. -/
def State.fbLatched (s : State) (n : Nat) : Bool := s.flag (F.LOOP.LOOP_STAT_FB_LOST n) || s.flag (F.LOOP.LOOP_STAT_FB_FROZEN n)

/-- R127, R136: whether the latest angle sample is valid. -/
def State.angleValid (s : State) : Bool := s.domOn 67 && s.eng.yOk && !s.fbLatched 0 && !s.fbLatched 1

/-- R128: the built-in table, halves away from zero. -/
def builtinEntry (k : Nat) : Int :=
  let d : Int := 2 * k - 2047
  let m : Int := (d.natAbs * 29127111 + 10000) / 20000
  if d < 0 then -m else m

/-- Entry `k` of the active table. -/
def State.trajEntry (s : State) (k : Nat) : Int := if s.eng.table.isEmpty then builtinEntry k else s.eng.table.getD k 0

/-- R129: the reference for position P of a frame of direction `dir`. -/
def State.trajAt (s : State) (p : Int) (dir : Nat) : Int :=
  let i := (clampI (p / 65536) 0 2046).toNat
  let g := p - i * 65536
  let a := s.trajEntry (if dir = 0 then i else 2047 - i)
  let b := s.trajEntry (if dir = 0 then i + 1 else 2046 - i)
  a + rnd ((b - a) * g) 16

/-- R129: the reference in column `c` at `tau` (1/256 fine LSB) after its boundary. -/
def State.trajRef (s : State) (c tau : Nat) : Int :=
  let n := s.nCol
  let p : Int := ((c % n * 65536 + tau * 65536 / profC s.scan.profile) * 2048 / n : Nat)
  s.trajAt (p - 32768) (c / n % 2)

/-- R131: the set-point at the start of forward frame 0. -/
def State.trajStart (s : State) : Int := s.trajAt (-32768) 0

/-- R129: the trajectory engine evaluates while columns run. -/
def State.trajRuns (s : State) : Bool := s.scan.phase == .running

/-- R128: the fault of the user table: entry and kind. -/
def trajFault (lo hi step : Int) : Nat → List Int → Option (Nat × Nat)
  | _, [] => none
  | k, a :: l =>
    if a < lo ∨ hi < a then some (k, 1)
    else match l with
      | [] => none
      | b :: _ => if step < b - a ∨ step < a - b then some (k, 2) else trajFault lo hi step (k + 1) l

/-- The user table (R128). -/
def State.userTable (s : State) : List Int := (List.range 2048).map (fun k => signed 32 (s.rd (0x34000 + 4 * k)).toNat)

/-- R128: what SCAN_START finds wrong with the user table, if it selects it. -/
def State.trajCheck (s : State) : Option (Nat × Nat) :=
  if s.get F.STEER.TRAJ_CTRL_SRC = 1 then
    trajFault (s.getI F.STEER.TRAJ_MIN) (s.getI F.STEER.TRAJ_MAX) (s.get F.STEER.TRAJ_STEP_MAX) 0 s.userTable
  else none

/-- R128: SCAN_START copies the selected table. -/
def State.copyTable (s : State) : State :=
  { s with eng := { s.eng with table := if s.get F.STEER.TRAJ_CTRL_SRC = 1 then s.userTable else [] } }

/-! ### Receive-column selection and the limiter's angle (R106, R134) -/

/-- The seven edges. -/
def State.edges (s : State) : List Int :=
  [s.getI F.STEER.EDGE_1, s.getI F.STEER.EDGE_2, s.getI F.STEER.EDGE_3, s.getI F.STEER.EDGE_4, s.getI F.STEER.EDGE_5,
    s.getI F.STEER.EDGE_6, s.getI F.STEER.EDGE_7]

/-- R134: the column mask for an absolute angle. -/
def State.columnMask (s : State) (a : Nat) : Nat :=
  let d := signed 16 ((a + 65536 - s.get F.STEER.ANG_ZERO) % 65536)
  let near := fun (e : Int) => decide ((d - e).natAbs < s.get F.STEER.DUAL_MARGIN)
  match s.edges.findIdx? near with
  | some m => 3 * 2 ^ m
  | none => 2 ^ (s.edges.filter (fun e => decide (e ≤ d))).length

/-- R106, R134: the angle latch of a slot. -/
def State.angleLatch (s : State) (b : Nat) : State :=
  if s.slotsRun then
    let ok := s.angleValid
    s.setBank b { s.bank b with
      angleOk := ok, cell := if ok then s.limCell s.eng.angle else (s.bank b).cell, rxMask := if ok then s.columnMask s.eng.angle else 0 }
  else s

/-! ### Feedback supervision (R135 to R137) -/

/-- R136: Loop 0 or 1 latches. -/
def State.mirrorReaction (s : State) (n dat : Nat) : State :=
  let s := (s.inhibitOn (2 ^ 2)).raise EV_MIRROR_FEEDBACK n dat
  s.setLoop 1 { s.loop 1 with holdPend := true }

/-- R137, R146: the HV converter is disabled: Loop 3 forced to its OFF value, Loops 2 and 3 in HOLD with PARK ignored. -/
def State.biasOff (s : State) : State :=
  let s := (s.loopToRamp 3 3).loopToRamp 2 3
  (s.setLoop 3 { s.loop 3 with out := 0, forced := true }).setLoop 2 { s.loop 2 with forced := true }

/-- R137: Loop 2 or 3 latches. -/
def State.biasReaction (s : State) (n dat : Nat) : State :=
  let s := s.biasOff
  let s := s.when (dat == 2) (fun s => s.inhibitOn (2 ^ 3))
  s.raise EV_BIAS_FEEDBACK n dat

/-- A latch rises: `dat` is 1 LOST, 2 FROZEN. -/
def State.latchFb (s : State) (n dat : Nat) : State :=
  let f := if dat = 1 then F.LOOP.LOOP_STAT_FB_LOST n else F.LOOP.LOOP_STAT_FB_FROZEN n
  if s.flag f then s
  else if n ≤ 1 then (s.set f 1).mirrorReaction n dat else (s.set f 1).biasReaction n dat

/-- R135: the supervisor takes one sample period of loop `n`: the sample (none: none delivered), whether its code counts as
outside, the drive and the reference. -/
def State.supervise (s : State) (n : Nat) (y : Option Int) (badCode : Bool) (drive ref : Int) : State :=
  if s.flag (F.LOOP.LOOP_CTRL_FB_EN n) && (s.mode n == 1 || s.mode n == 2) then
    let x := s.loop n
    match y with
    | none =>
      let s := s.setLoop n { x with fbAbsent := x.fbAbsent + 1 }
      if 2 ≤ x.fbAbsent + 1 then s.latchFb n 1 else s
    | some v =>
      let outside := badCode || decide (v < s.getI (F.LOOP.FB_LO n) ∨ s.getI (F.LOOP.FB_HI n) < v)
      let k := s.get (F.LOOP.FB_CFG_FB_N n)
      let out := if outside then x.fbOut + 1 else 0
      let wy := (v :: x.winY).take k
      let wd := (drive :: x.winD).take k
      let wr := (ref :: x.winR).take k
      let s := s.setLoop n { x with fbAbsent := 0, fbOut := out, winY := wy, winD := wd, winR := wr }
      if 2 ≤ out then s.latchFb n 1
      else if wy.length = k ∧ spread wy < (s.get (F.LOOP.MEAS_DELTA n) : Int) ∧
          ((s.get (F.LOOP.DRIVE_DELTA n) : Int) ≤ spread wd ∨ (s.get (F.LOOP.REF_DELTA n) : Int) ≤ spread wr) then s.latchFb n 2
      else s
  else s

/-- R127, R133, R135: one period of the angle and current converters; none: no sample delivered. `tau`: time since the column
boundary in 1/256 fine LSB. -/
def State.angleSample (s : State) (code isns : Option (BitVec 16)) (tau : Nat) : State :=
  if s.domOn 67 then
    let bad := fun (c : BitVec 16) => c == 0 || c == 0xFFFF
    let y := code.map (fun c => s.beamAngle c.toNat)
    let i := isns.map (fun c => (c.toNat : Int) - 32768)
    let s : State := match code, y with
      | some c, some v => { s with eng := { s.eng with ys := (v :: s.eng.ys).take 4, yOk := !bad c, angle := s.absAngle v } }
      | _, _ => { s with eng := { s.eng with yOk := false } }
    let s : State := match isns, i with
      | some c, some v => { s with eng := { s.eng with isns := (v :: s.eng.isns).take 4, iOk := !bad c } }
      | _, _ => { s with eng := { s.eng with iOk := false } }
    let ref := if s.trajRuns then s.trajRef s.scan.column tau else (s.loop 0).sp
    let s := s.supervise 0 y (code.any bad) (s.loop 1).out ref
    let s := s.supervise 1 i (isns.any bad) (s.loop 1).out (s.spOf 1)
    if s.trajRuns && code.isSome then
      let dist := (2 * (tau : Int) - profC s.scan.profile).natAbs
      if s.eng.best.all (fun b => decide (dist < b.1)) then
        { s with eng := { s.eng with best := some (dist, s.eng.angle, s.angleValid) } }
      else s
    else s
  else s

/-- R116: one HV-sense period of Loop 3's converter. -/
def State.hvSample (s : State) (code : Option (BitVec 16)) : State :=
  let v : Option Nat := code.map (fun c => (c.toNat * 40000 + 32768) / 65536)
  let s : State := match v with
    | some mv => { s with eng := { s.eng with hv := ((mv : Int) :: s.eng.hv).take 4, hvSpad := mv } }
    | none => s
  s.supervise 3 (v.map (fun x => (x : Int))) false (s.loop 3).out (s.spOf 3)

/-! ### One sample (R117 to R131) -/

/-- An output reaches its destination: an outer loop's becomes its inner loop's set-point; R145 counts a limited Loop 2 sample. -/
def State.deliver (s : State) (n : Nat) (u : Int) : State :=
  let s := s.setLoop n { s.loop n with out := u }
  match s.innerOf n with
  | some m =>
    let s := s.setLoop m { s.loop m with sp := u }
    if n = 2 then
      let lim := decide (s.hvLimit < u)
      let was := s.eng.hvLimited
      let s : State := { s with eng := { s.eng with hvLimited := lim } }
      let s := (s.setFlag F.RX.RX_STAT_HV_LIMIT lim).when lim (fun s => s.inc F.RX.HV_CLAMP)
      s.when (lim && !was) (fun s => s.raise EV_HV_LIMIT 0 (s.eng.hvSpad / 10))
    else s
  | none => s

/-- The result group of a sample (Table 5-9). -/
def State.loopResult (s : State) (n : Nat) (r y e t u : Int) : State :=
  let s := ((((s.setI (F.LOOP.SP_ACT n) r).setI (F.LOOP.MEAS n) y).setI (F.LOOP.ERR n) e).setI (F.LOOP.ITERM n) t).setI (F.LOOP.OUT n) u
  (s.set64 (F.LOOP.TIME_LO n) (F.LOOP.TIME_HI n) s.time.dev).publish (F.LOOP.LOOP_RES_ST n)

/-- R120, R130: a CLOSED sample. -/
def State.closedSample (s : State) (n : Nat) (y : Int) : State :=
  let c := s.coef n
  let x := s.loop n
  let r := s.spOf n
  let e := sat32 (clampI (r - y) (-c.elim) c.elim)
  let p := rnd (c.kp * e) c.sp
  let i := clampInteg c (x.integ + c.ki * e)
  let xs := derivX c e y
  let df := sat32 (x.df + rnd (c.kf * (xs - x.xPrev - x.df)) 16)
  let d := rnd (c.kd * df) c.sd
  let u := clampI (p + i.2.1 + d) c.outmin c.outmax
  let inBand := if e.natAbs ≤ s.get (F.LOOP.LOOP_SETTLE_BAND n) then x.inBand + 1 else 0
  let s := s.setLoop n { x with integ := i.1, df := df, xPrev := xs, ePrev := e, uPrev := u, inBand := inBand }
  let s := if i.2.2 then (s.iclamp n).inc (F.LOOP.CLAMP n) else s
  let s := s.setFlag (F.LOOP.LOOP_STAT_SAT_OUT n) (u != p + i.2.1 + d)
  let s := s.setFlag (F.LOOP.LOOP_STAT_SETTLED n) (decide (s.get (F.LOOP.LOOP_SETTLE_N n) ≤ inBand))
  (s.deliver n u).loopResult n r y e i.2.1 u

/-- A sample in OFF, OPEN or HOLD (Table 5-2). -/
def State.rampSample (s : State) (n : Nat) (y : Int) : State :=
  let c := s.coef n
  let r := s.spOf n
  let e := sat32 (clampI (r - y) (-c.elim) c.elim)
  let ramp := s.get (F.LOOP.LOOP_RAMP_RAMP n)
  let u := if s.mode n = 0 then loopOffValue n
    else if (s.loop n).forced then (s.loop n).out
    else if s.mode n = 1 then moveToward (s.present n) (s.getI (F.LOOP.LOOP_OPEN_OUT_OPEN_OUT n)) ramp
    else moveToward (s.present n) (s.getI (F.LOOP.LOOP_PARK_PARK n)) ramp
  let s := if s.mode n = 0 then s else s.deliver n u
  s.loopResult n r y e (rnd (s.loop n).integ c.si) u

/-- R129, R131: the trajectory engine's write of Loop 0's set-point before its sample. -/
def State.steerSetpoint (s : State) (tau : Nat) : State :=
  match s.scan.phase with
  | .running => s.setLoop 0 { s.loop 0 with sp := s.trajRef s.scan.column tau }
  | .settling | .fixed =>
    let v := moveToward (s.loop 0).sp s.trajStart (s.get F.STEER.TRAJ_CTRL_APPROACH)
    let s := s.setLoop 0 { s.loop 0 with sp := v }
    { s with scan := { s.scan with approachDone := decide (v = s.trajStart) } }
  | _ => s

/-- R118: whether an outer loop is due with its inner loop's coming sample. -/
def State.loopDue (s : State) (n : Nat) : Bool :=
  match s.innerOf n with
  | some m => decide (s.cascN n ≤ (s.loop m).casc + 1)
  | none => true

/-- R117, R118: the inner loop counts its samples for its outer loop. -/
def State.countCascade (s : State) (n : Nat) : State :=
  match s.outerOf n with
  | some o => s.setLoop n { s.loop n with casc := if s.cascN o ≤ (s.loop n).casc + 1 then 0 else (s.loop n).casc + 1 }
  | none => s

/-- R136: Loops 0 and 1 enter HOLD at Loop 1's next sample. -/
def State.pendingHold (s : State) (n : Nat) : State :=
  if n = 1 ∧ (s.loop 1).holdPend then
    let s := s.when (s.mode 1 != 0) (fun s => s.loopToRamp 1 3)
    let s := s.when (s.mode 0 != 0) (fun s => s.loopToRamp 0 3)
    s.setLoop 1 { s.loop 1 with holdPend := false }
  else s

/-- R117 to R124: loop `n` samples on its engine tick. `hv`: the periods of Loop 3's converter since its last sample. -/
def State.loopSample (s : State) (n : Nat) (tau : Nat) (hv : List (Option (BitVec 16))) : State :=
  if s.domOn 67 && s.loopDue n then
    let s := if n = 3 then hv.foldl State.hvSample s else s
    let s := if n = 0 then s.steerSetpoint tau else s
    let s := (s.countCascade n).pendingHold n
    match s.measOf n with
    | none => s
    | some y =>
      let s := s.swapNow n
      if s.mode n = 2 then s.closedSample n y else s.rampSample n y
  else s

/-! ### Slow sources of Loops 4 to 7 (R137) -/

/-- A result for a loop without supervisor: flagged, it is a source fault; after two consecutive unflagged ones the loop returns. -/
def State.loopSource (s : State) (n : Nat) (v : Int) (flagged : Bool) : State :=
  if !s.domOn 67 then s
  else
    let x := s.loop n
    if flagged then
      let s := s.setLoop n { x with clean := 0, missed := 0 }
      if s.mode n = 0 ∨ s.flag (F.LOOP.LOOP_STAT_SRC_FAULT n) then s
      else ((s.set (F.LOOP.LOOP_STAT_SRC_FAULT n) 1).setMode n 3).raise EV_LOOP_SOURCE n 0
    else
      let s := s.setLoop n { x with src := some v, clean := x.clean + 1, missed := 0 }
      if s.flag (F.LOOP.LOOP_STAT_SRC_FAULT n) && decide (2 ≤ x.clean + 1) then
        let s := s.set (F.LOOP.LOOP_STAT_SRC_FAULT n) 0
        if s.mode n = 3 then s.setMode n 2 else s
      else s

/-- A round without a result for the loop; the third is a source fault (R137). -/
def State.loopMissed (s : State) (n : Nat) : State :=
  if !s.domOn 67 then s
  else
    let x := s.loop n
    let s := s.setLoop n { x with missed := x.missed + 1, clean := 0 }
    if 3 ≤ x.missed + 1 ∧ s.mode n ≠ 0 ∧ !s.flag (F.LOOP.LOOP_STAT_SRC_FAULT n) then
      ((s.set (F.LOOP.LOOP_STAT_SRC_FAULT n) 1).setMode n 3).raise EV_LOOP_SOURCE n 0
    else s

/-! ### Clearing of latches (R138) -/

/-- Whether the latest sample of a supervised loop's source lies in its band. -/
def State.sourceInBand (s : State) (n : Nat) : Bool :=
  let v : Option Int := match n with
    | 0 => if s.eng.yOk then s.eng.ys.head? else none
    | 1 => if s.eng.iOk then s.eng.isns.head? else none
    | 2 => (s.loop 2).src
    | _ => s.eng.hv.head?
  v.any (fun x => decide (s.getI (F.LOOP.FB_LO n) ≤ x ∧ x ≤ s.getI (F.LOOP.FB_HI n)))

/-- R138: MIRROR and BIAS stay asserted while a latch of theirs is set. -/
def State.releaseFb (s : State) : State :=
  let s := s.when (!(s.fbLatched 0 || s.fbLatched 1)) (fun s => s.inhibitOff (2 ^ 2))
  s.when (!(s.flag (F.LOOP.LOOP_STAT_FB_FROZEN 2) || s.flag (F.LOOP.LOOP_STAT_FB_FROZEN 3))) (fun s => s.inhibitOff (2 ^ 3))

/-- A LOOP_STAT write: FB_LOST and FB_FROZEN clear only in HOLD or OFF with the source in band. -/
def State.wrLoopStat (s : State) (n : Nat) (v : Word) : State :=
  let can := (s.mode n == 0 || s.mode n == 3) && s.sourceInBand n
  let v := if can then v.toNat else v.toNat - bitsOf v.toNat 4 2 * 16
  (s.hostWrite (F.LOOP.LOOP_STAT_ICLAMP n).addr (BitVec.ofNat 32 v)).releaseFb

/-! ### Register writes with rules of their own -/

/-- R124: a swap is scheduled; a loop that is not CLOSED takes the copy at once. -/
def State.scheduleSwap (s : State) (n : Nat) : State :=
  let s := s.set (F.LOOP.LOOP_STAT_SWAP_PEND n) 1
  if s.mode n = 2 then s else s.swapNow n

/-- R119: host set-points of loop `n` are refused. -/
def State.spRefused (s : State) (n : Nat) : Bool :=
  (n == 0 && s.flag F.STEER.TRAJ_STAT_RUN) || (s.outerOf n).any (fun o => s.mode o == 2)

/-- A host set-point. -/
def State.hostSetpoint (s : State) (n : Nat) (v : Word) : State :=
  (s.wr (F.LOOP.LOOP_SP_SP n).addr v).setLoop n { s.loop n with sp := signed 32 v.toNat }

/-- A write inside a loop block, LOOP_RATE apart (R119, R124, R135, R138, R139). -/
def State.wrLoop (s : State) (a : Nat) (v : Word) : State :=
  let n := (a - 0x30000) / 0x400
  let o := a % 0x400
  if o = 0x00 then
    let s := s.hostWrite a v
    if bitsOf v.toNat 4 1 = 1 then s.scheduleSwap n else s
  else if o = 0x08 then (if s.spRefused n then s else s.hostSetpoint n v)
  else if o = 0x1C then s.wrLoopStat n v
  else if o = 0x64 then s.wr a (if 2 ^ 31 ≤ v.toNat then 0 else v)
  else if o = 0xC0 then s.wr a (BitVec.ofNat 32 (max 4 (min (if n = 2 then 64 else 32) (bitsOf v.toNat 0 7))))
  else if o = 0xD4 ∧ n = 0 then
    s.wr a (BitVec.ofNat 32 (max 1 (min v.toNat (trajRange s.scan.profile (s.get (F.LOOP.FB_CFG_FB_N 0))))))
  else s.hostWrite a v

/-! ### Commands of range 0x03xx -/

/-- LOOP_MODE (R122). -/
def cmdLoopMode (s : State) (p : List Byte) : Reply :=
  let n := u8 p 0
  let m := u8 p 1
  s.guarded [s.needDom 67, s.badState (decide (n ≤ 3 ∧ m ≠ 2) && s.pw.st == .scanning),
    s.badState (decide (n < 8 ∧ m = 2) && (s.innerOf n).any (fun i => s.mode i != 2)),
    (decide (n < 8 ∧ m = 2) && s.fbLatched n, 0x5A, n), badParam (decide (7 < n ∨ 3 < m)) 0, badParam (notZero p 2 2) 0]
    ((s.setMode n m).done [])

/-- R125: the period of loop `n` is at most 8 ms, so that its next boundary lies within 8 ms. -/
def State.fastLoop (s : State) (n : Nat) : Bool :=
  if n ≤ 3 then true
  else if n = 5 ∨ n = 6 then
    let m := if n = 5 ∧ s.get (F.LOOP.LOOP_RATE_SRC 5) = 1 then 6 else n
    let k := if m = n then 1 else s.cascN 5
    s.get (F.LOOP.LOOP_RATE_SRC m) == 0 && decide (s.get (F.LOOP.LOOP_RATE_DIV m) * k ≤ 16000)
  else false

/-- LOOP_COEF_SET (R125): DONE after the boundary, or ACCEPTED. -/
def cmdLoopCoefSet (s : State) (p : List Byte) : Reply :=
  let n := u8 p 0
  let w := fun i => u32 p (4 + 4 * i)
  let bad := coefBad w
  s.guarded [s.needDom 67, badParam (decide (7 < n)) 0, badParam (notZero p 1 3) 0,
    badParam (bitsOf (w 3) 21 11 != 0 || bitsOf (w 3) 13 3 != 0 || bitsOf (w 3) 5 3 != 0) 4, badParam (bitsOf (w 4) 16 15 != 0) 5,
    badParam bad.isSome (bad.getD 0)]
    (let staged := (s.each (List.range 10) (fun s i => s.set (shadowFld n i) (w i))).set (F.LOOP.LOOP_STAT_SWAP_PEND n) 1
    if s.mode n ≠ 2 then (staged.swapNow n).done []
    else if s.fastLoop n then staged.reply (.later n)
    else s.accept 0x0301 staged n)

/-- R125: an ACCEPTED LOOP_COEF_SET completes once the boundary has taken its coefficients. -/
def State.loopCoefComplete (s : State) (n : Nat) : State :=
  if s.runningTag 0x0301 = some n ∧ !s.flag (F.LOOP.LOOP_STAT_SWAP_PEND n) then s.complete 0x0301 0 0 [] else s

/-- LOOP_SETPOINT (R119). -/
def cmdLoopSetpoint (s : State) (p : List Byte) : Reply :=
  let n := u8 p 0
  s.guarded [s.needDom 67, s.badState (decide (n < 8) && s.spRefused n), badParam (decide (7 < n)) 0, badParam (notZero p 1 3) 0]
    ((s.hostSetpoint n (BitVec.ofNat 32 (u32 p 4))).done [])

/-- LOOP_READ (R141): the first word rebuilt, FRESH untouched. -/
def cmdLoopRead (s : State) (p : List Byte) : Reply :=
  let n := u8 p 0
  let first := s.mode n * 2 ^ 24 + bitsOf (s.rd (F.LOOP.LOOP_STAT_SETTLED n).addr).toNat 0 8 * 2 ^ 16 +
    bitsOf (s.get (F.LOOP.LOOP_RES_ST n)) 0 16
  s.guarded [s.needDom 67, badParam (decide (7 < n)) 0, badParam (notZero p 1 3) 0]
    (s.done (beBytes 4 first ++ wordBytes ((List.range 7).map (fun i => s.rd (0x30024 + 0x400 * n + 4 * i)))))

/-- TRAJECTORY_LOAD (R128). -/
def cmdTrajectoryLoad (s : State) (p : List Byte) : Reply :=
  let first := u16 p 0
  let count := u16 p 2
  s.guarded [s.badState (s.pw.st != .ready), s.needDom 67, badParam (decide (count = 0 ∨ 256 < count ∨ 2048 < first + count)) 0]
    ((s.each (List.range count) (fun s i => s.wr (0x34000 + 4 * (first + i)) (BitVec.ofNat 32 (u32 p (4 + 4 * i))))).done [])

end Sys2Proof.Machine
end

