-- ==== Sys2Proof/Machine/InForce.lean ====
section
/-! DEFINITION. Register changes that wait for a boundary (R162, R169, R175, R187, R219): the word in force is kept until then.
Groups: 0 to 7 the banks' column boundaries, 8 the swap of bank 0's rows, 16 + c the next idle moment of reference channel c. -/

namespace Sys2Proof.Machine

/-- The key of a held word. -/
def heldKey (g a : Nat) : Nat := g * 2 ^ 32 + a

/-- The word in force for group `g`. -/
def State.rdAt (s : State) (g a : Nat) : Word := (spGet (fun _ => none) s.heldRegs (heldKey g a)).getD (s.rd a)

/-- A field in force for group `g`. -/
def State.getAt (s : State) (g : Nat) (f : Fld) : Nat := bitsOf (s.rdAt g f.addr).toNat f.lo f.wd

/-- A signed field in force for group `g`. -/
def State.getIAt (s : State) (g : Nat) (f : Fld) : Int := signed f.wd (s.getAt g f)

/-- Keep the word at `a` in force for the groups, unless one is kept already. -/
def State.holdWord (s : State) (gs : List Nat) (a : Nat) : State :=
  s.each gs (fun s g =>
    match spGet (fun _ => none) s.heldRegs (heldKey g a) with
    | some _ => s
    | none => { s with heldRegs := spSet (fun _ => none) s.heldRegs (heldKey g a) (some (s.rd a)) })

/-- The boundary of group `g`: what was written since takes effect. -/
def State.letGo (s : State) (g : Nat) : State :=
  { s with heldRegs := spKeep (fun k => k / 2 ^ 32 != g) s.heldRegs }

/-- All eight banks. -/
def allBanks : List Nat := [0, 1, 2, 3, 4, 5, 6, 7]

/-- A write while SCANNING whose effect waits for the groups' boundaries. -/
def State.holdScanning (s : State) (gs : List Nat) (a : Nat) : State :=
  if s.pw.st = .scanning then s.holdWord gs a else s

end Sys2Proof.Machine
end

