-- ==== Sys2Proof/Machine/Rx.lean ====
section
/-! DEFINITION. The receiver array and the row front-ends (chapter 6): reference cells and VEX, the bias limits, arming, coincidence
and hold-off, ambient light, the adaptive step, hot and dead cells, and the register writes of the chapter. -/

namespace Sys2Proof.Machine

/-! ### Records -/

/-- Row `r` beside its registers. -/
def State.row (s : State) (r : Nat) : RowSt := spGet (fun _ => RowSt.init) s.rx.rows r

/-- Replace the record of row `r`. -/
def State.setRow (s : State) (r : Nat) (x : RowSt) : State :=
  { s with rx := { s.rx with rows := spSet (fun _ => RowSt.init) s.rx.rows r x } }

/-- Bank `b` in the receiver. -/
def State.rxBank (s : State) (b : Nat) : BankRx := spGet (fun _ => BankRx.init) s.rx.banks b

/-- Replace the receiver record of bank `b`. -/
def State.setRxBank (s : State) (b : Nat) (x : BankRx) : State :=
  { s with rx := { s.rx with banks := spSet (fun _ => BankRx.init) s.rx.banks b x } }

/-- The 128 rows of bank `b`. -/
def bankRows (b : Nat) : List Nat := (List.range 128).map (fun i => 128 * b + i)

/-- The slice of a row. -/
def rowSlice (r : Nat) : Nat := r % 128

/-- The region of a row. -/
def rowRegion (r : Nat) : Nat := r % 128 / 32

/-- The power domain of a row's slice. -/
def rowDom (r : Nat) : Nat := r % 128 / 2

/-- R163: the row can listen: its domains are on and it is enabled. -/
def State.rowOn (s : State) (r : Nat) : Bool := s.domOn 69 && s.domOn (rowDom r) && s.flag (F.ROW.ROW_CTRL_EN r)

/-! ### Cell maps (R142) -/

/-- The 36-bit cell map of macro-pixel `q` of row `r`, in force for its bank. -/
def State.cellMap (s : State) (r q : Nat) : Nat :=
  s.getAt (r / 128) (F.ROW.EN_LO r q) + 2 ^ 32 * s.getAt (r / 128) (F.ROW.EN_HI r q)

/-- The number of 1 bits among the low `n`. -/
def popCount : Nat → Nat → Nat
  | 0, _ => 0
  | n + 1, v => v % 2 + popCount n (v / 2)

/-- Active cells of a macro-pixel. -/
def State.activeCells (s : State) (r q : Nat) : Nat := popCount 36 (s.cellMap r q)

/-- The macro-pixels of a column mask. -/
def maskCols (m : Nat) : List Nat := (List.range 8).filter (fun q => m / 2 ^ q % 2 = 1)

/-- R142: a map judged whole at the end of the write: more than 32 cells, it is discarded. -/
def State.endCellMap (s old : State) (r q : Nat) : State :=
  let m := s.get (F.ROW.EN_LO r q) + 2 ^ 32 * s.get (F.ROW.EN_HI r q)
  if 32 < popCount 36 m then
    ((s.wr (F.ROW.EN_LO r q).addr (old.rd (F.ROW.EN_LO r q).addr)).wr (F.ROW.EN_HI r q).addr (old.rd (F.ROW.EN_HI r q).addr)).set
      (F.ROW.ROW_STAT_MAP_ERR r) 1
  else s

/-- ROW_ACT0 and ROW_ACT1 (Table 6-7). -/
def State.rowAct (s : State) (r i : Nat) : Nat :=
  (List.range 4).foldl (fun v k => v + s.activeCells r (4 * i + k) * 2 ^ (8 * k)) 0

/-! ### Bias (R145 to R150) -/

/-- R156: the HV converter counts as disabled. -/
def State.converterOff (s : State) : Bool := s.mode 3 == 0 || (s.loop 3).forced || s.flag F.RX.RX_STAT_HV_OVP || !s.domOn 67

/-- R156: note, for every bank's column, that the converter is disabled at this instant. -/
def State.noteBias (s : State) : State :=
  if s.domOn 69 && s.converterOff && s.rx.biasOff != 255 then { s with rx := { s.rx with biasOff := 255 } } else s

/-- R146: HVB_SNS reaches 2.0625 V. -/
def State.hvOvervolt (s : State) (hv : Nat) : State :=
  if s.domOn 69 then
    let s : State := { s with eng := { s.eng with hvSpad := hv } }
    let s := s.set F.RX.RX_STAT_HV_OVP 1
    let s := s.when (s.domOn 67) State.biasOff
    s.raise EV_HV_OVERVOLT 0 (hv / 10)
  else s

/-- R138, R146, R158: an RX_STAT write. -/
def State.wrRxStat (s : State) (v : Word) : State :=
  let can := (s.pw.st == .ready || s.pw.st == .safeHold) && decide (s.eng.hvSpad < 30000)
  let v := if can then v.toNat else v.toNat - bitsOf v.toNat 5 1 * 32
  s.hostWrite F.RX.RX_STAT_CFG_ERR.addr (BitVec.ofNat 32 v)

/-- The bit of reference cell (b, i) in REF_SEL and REF_LIVE. -/
def refBit (base b i : Nat) : Fld := ⟨base + 4 * (b / 4), 8 * (b % 4) + i, 1⟩

/-- A reference cell's record. -/
def State.refCell (s : State) (k : Nat) : RefCell := spGet (fun _ => RefCell.init) s.rx.refs k

/-- Replace a reference cell's record. -/
def State.setRefCell (s : State) (k : Nat) (x : RefCell) : State :=
  { s with rx := { s.rx with refs := spSet (fun _ => RefCell.init) s.rx.refs k x } }

/-- R147: the selected reference cells are triggered; `swings`: per bank and cell (6 b + i) the swing in 6.25 mV, none: no answer. -/
def State.refTrigger (s : State) (swings : List (Option Nat)) : State :=
  if s.domOn 69 then
    s.each (List.range 48) (fun s k =>
      if s.flag (refBit 0x4004C (k / 6) (k % 6)) then
        match swings.getD k none with
        | some v => s.setRefCell k { s.refCell k with answered := (s.refCell k).answered + 1, total := (s.refCell k).total + v }
        | none => s
      else s)
  else s

/-- Insert in rising order. -/
def insertRat (x : Rat) : List Rat → List Rat
  | [] => [x]
  | y :: l => if x ≤ y then x :: y :: l else y :: insertRat x l

/-- R147: the median, the mean of the middle two when even. -/
def medianRat (l : List Rat) : Rat :=
  let o := l.foldr insertRat []
  let n := o.length
  if n % 2 = 1 then o.getD (n / 2) 0 else (o.getD (n / 2 - 1) 0 + o.getD (n / 2) 0) / 2

/-- Truncation toward zero to a whole number. -/
def truncRat (x : Rat) : Int := if x < 0 then -(-x).floor else x.floor

/-- R147: the mean swing of a cell over the triggers it answered, less SWING_OFS, in mV. -/
def State.swingOf (s : State) (k : Nat) : Rat :=
  (25 * (s.refCell k).total : Nat) / (4 * (s.refCell k).answered : Nat) - s.getI F.RX.SWING_OFS_OFS

/-- R147: bank b's excess bias and the cells it excludes among the selected, not dropped ones. -/
def State.vexBank (s : State) (b : Nat) : Option Int × List Nat :=
  let cells := (List.range 6).filter (fun i => s.flag (refBit 0x40080 b i))
  let poor := cells.filter (fun i => decide ((s.refCell (6 * b + i)).answered < 56))
  let good := cells.filter (fun i => decide (56 ≤ (s.refCell (6 * b + i)).answered))
  if good.isEmpty then (none, poor)
  else
    let v := truncRat (medianRat (good.map (fun i => s.swingOf (6 * b + i))))
    let far := good.filter (fun i => decide ((200 : Rat) < |s.swingOf (6 * b + i) - v|))
    let near := good.filter (fun i => decide (|s.swingOf (6 * b + i) - v| ≤ (200 : Rat)))
    if near.length < 2 then (none, poor ++ far)
    else (some (truncRat (medianRat (near.map (fun i => s.swingOf (6 * b + i))))), poor ++ far)

/-- R147: a cell excluded in this update, or not; the sixteenth exclusion in a row drops it. -/
def State.refJudge (s : State) (b i : Nat) (excluded : Bool) : State :=
  let k := 6 * b + i
  if excluded then
    let n := (s.refCell k).excluded + 1
    let s := s.setRefCell k ⟨0, 0, n⟩
    if n = 16 then
      let s : State := { s with
        rx := { s.rx with refDropped := s.rx.refDropped ||| 2 ^ k }, cal := { s.cal with dropped := true } }
      ((s.set (refBit 0x40080 b i) 0).inc F.RX.REF_DROP).raise EV_BIAS_REFERENCE b i
    else s
  else s.setRefCell k RefCell.init

/-- R150: VBD_MODEL at hub mean `t16` in 1/16 °C, in mV, rounded down. -/
def State.vbdModel (s : State) (t16 : Int) : Int :=
  s.get F.RX.VBD_MODEL_VBD25 + ((s.get F.RX.VBD_MODEL_TC : Int) * (t16 - 400)) / 16000

/-- R150, R388: T_MEAN in 1/16 °C; free where every hub is faulted. -/
def State.hubMean (s : State) : Int × State :=
  match s.th.mean with
  | some t => (t, s)
  | none => let f := s.freeNat; (signed 16 (f.1 % 65536), f.2)

/-- R147, R148, R150: the update of VEX every 640 µs. -/
def State.vexUpdate (s : State) : State :=
  if s.domOn 69 then
    let t := s.hubMean
    let t16 := t.1
    let s := t.2
    let vs := allBanks.map (fun b => (b, s.vexBank b))
    let s := s.each vs (fun s e =>
      s.each ((List.range 6).filter (fun i => s.flag (refBit 0x40080 e.1 i))) (fun s i => s.refJudge e.1 i (e.2.2.contains i)))
    let good := vs.filterMap (fun e => e.2.1)
    if 4 ≤ good.length then
      let vex := truncRat ((good.sum : Int) / (good.length : Int))
      let hv : Int := s.eng.hvSpad
      let est := hv - vex
      let model := s.vbdModel t16
      let s := (s.setI F.RX.HV hv).setI F.RX.VEX vex
      let s := s.each vs (fun s e => s.set ⟨0x40068 + 4 * (e.1 / 2), 16 * (e.1 % 2), 16⟩ (match e.2.1 with | some v => unsigned 16 v | none => 65535))
      let s := ((s.setI F.RX.VBD_EST est).setI F.RX.VBD_MOD model).publish F.RX.VEX_ST
      let n := if 1000 < (est - model).natAbs then s.rx.suspects + 1 else 0
      let s : State := { s with rx := { s.rx with suspects := n } }
      let s := s.set F.RX.RX_STAT_VEX_VALID 1
      let s := s.when (decide (16 ≤ n) && !s.flag F.RX.RX_STAT_REF_SUSPECT)
        (fun s => (s.set F.RX.RX_STAT_REF_SUSPECT 1).raise EV_BIAS_REFERENCE 0xFFFF 0)
      if s.domOn 67 then
        (s.setLoop 2 { s.loop 2 with src := some vex }).supervise 2 (some vex) false (s.loop 2).out (s.loop 2).sp
      else s
    else
      let s := s.set F.RX.RX_STAT_VEX_VALID 0
      if s.domOn 67 then s.supervise 2 none false (s.loop 2).out (s.loop 2).sp else s
  else s

/-- Rounding halves away from zero of a quotient with positive divisor. -/
def roundAway (n : Int) (d : Nat) : Int :=
  let m : Int := (2 * n.natAbs + d) / (2 * d)
  if n < 0 then -m else m

/-- R149: at a frame start each bank trim moves one step toward its target. -/
def State.trimStep (s : State) : State :=
  if s.domOn 69 && s.flag F.RX.BIAS_TRIM_CFG_BANK_TRIM_EN && s.get F.RX.VEX_ST != 0 then
    let vex : Int := signed 16 (s.get F.RX.VEX)
    let target := fun (b : Nat) =>
      let v := s.get ⟨0x40068 + 4 * (b / 2), 16 * (b % 2), 16⟩
      if v = 65535 then none else some (roundAway (2 * (vex - signed 16 v)) 125)
    let overs := (allBanks.filter (fun b => (target b).any (fun t => decide (t < -4 ∨ 4 < t)))).foldl (fun m b => m + 2 ^ b) 0
    let newly := overs &&& (255 - s.rx.gradient)
    let s : State := { s with rx := { s.rx with gradient := overs } }
    let s := s.setFlag F.RX.RX_STAT_TRIM_LIMIT (overs != 0)
    let s := s.each allBanks (fun s b =>
      let f : Fld := ⟨F.RX.BANK_TRIM_TRIM.addr, 4 * b, 4⟩
      match target b with
      | some t => s.setI f (moveToward (s.getI f) (clampI t (-4) 4) 1)
      | none => s)
    s.each (allBanks.filter (fun b => newly / 2 ^ b % 2 = 1)) (fun s b => s.raise EV_BIAS_GRADIENT b (unsigned 16 ((target b).getD 0)))
  else s

/-- REF_SEL written: REF_LIVE is the selected cells not dropped. -/
def State.wrRefSel (s : State) (a : Nat) (v : Word) : State :=
  let s := s.hostWrite a v
  s.each (List.range 48) (fun s k =>
    s.setFlag (refBit 0x40080 (k / 6) (k % 6)) (s.flag (refBit 0x4004C (k / 6) (k % 6)) && s.rx.refDropped / 2 ^ k % 2 == 0))

/-! ### Arming (R151, R152) -/

/-- The rows' view of a bank's current slot: a FIRED shot, or one about to fire. -/
def State.shotInAir (s : State) (b : Nat) : Bool := (s.bank b).outcome == .fired || (s.bank b).outcome == .consented

/-- R151: the row arms for its bank's current shot. -/
def State.rowArm (s : State) (r : Nat) : State :=
  let b := r / 128
  if s.rowOn r && s.shotInAir b && (s.rxBank b).isOpen then
    let x := s.row r
    let k := s.bank b
    if x.shots.any (fun q => q.col == k.curCol && q.j == k.curShot) then s
    else
      let acc := { x.acc with dual := x.acc.dual || (k.curRx &&& (k.curRx - 1)) != 0, mask := x.acc.mask ||| k.curRx }
      s.setRow r { x with shots := x.shots ++ [⟨k.curCol, k.curShot, k.curRx, .pending⟩], acc := acc }
  else s

/-- The survey cell of the current frame (R159). -/
def State.surveyCell (s : State) : Nat := s.scan.column / s.nCol % 36

/-- The survey record of macro-pixel `q`. -/
def surveyOf (l : List (Nat × Nat × Nat × Nat × Nat)) (q : Nat) : Nat × Nat × Nat × Nat := spGet (fun _ => (0, 0, 0, 0)) l q

/-- R151, R156: the row disarms from its oldest shot. `armed`: coarse clocks armed for it; `clocks`: per macro-pixel, the coarse
clocks it was released, each counted once where spans overlap. -/
def State.rowDisarm (s : State) (r armed : Nat) (clocks : List Nat) : State :=
  let x := s.row r
  if x.shots.isEmpty then s
  else
    let cell := s.surveyCell
    let cells := (List.range 8).map (fun q => clocks.getD q 0 * s.activeCells r q)
    let survey := (List.range 8).foldl (fun l q =>
      let t := clocks.getD q 0
      if t = 0 ∨ s.cellMap r q / 2 ^ cell % 2 = 0 then l
      else
        let v := surveyOf l q
        spSet (fun _ => (0, 0, 0, 0)) l q (v.1, v.2.1 + t * s.activeCells r q, v.2.2.1 + t, v.2.2.2)) x.survey
    s.setRow r { x with shots := x.shots.drop 1, armed := x.armed + armed, cellTime := x.cellTime + cells.sum, survey := survey }

/-- R156, R159: a released cell avalanches. -/
def State.cellFiring (s : State) (r q cell : Nat) : State :=
  let x := s.row r
  let released := x.shots.any (fun k => k.mask / 2 ^ q % 2 == 1)
  if released && s.cellMap r q / 2 ^ cell % 2 == 1 then
    let on := s.cellMap r q / 2 ^ s.surveyCell % 2 == 1
    let v := surveyOf x.survey q
    let survey := if on then
        spSet (fun _ => (0, 0, 0, 0)) x.survey q (v.1 + 1, v.2.1, v.2.2.1, v.2.2.2 + bit (cell == s.surveyCell))
      else x.survey
    s.setRow r { x with singles := x.singles + 1, survey := survey }
  else s

/-! ### Coincidence and hold-off (R153, R154) -/

/-- Register RX_CTRL.ADAPT in force for a bank. -/
def State.adapts (s : State) (b : Nat) : Bool := s.getAt b F.RX.RX_CTRL_ADAPT == 1

/-- The step a row reports: 7 while COINC_FIX runs (R475). -/
def State.rowStep (s : State) (r : Nat) : Nat := if s.adapts (r / 128) then s.get (F.ROW.ROW_STAT_STEP r) else 7

/-- k and w of a step, in force for bank b. -/
def State.stepKW (s : State) (b step : Nat) : Nat × Nat :=
  if step = 7 then (s.getAt b F.RX.COINC_FIX_K_FIX, s.getAt b F.RX.COINC_FIX_W_FIX)
  else (s.getAt b (F.RX.LADDER_K step), s.getAt b (F.RX.LADDER_W step))

/-- R153: the cells an event needs in row `r`. -/
def State.needCells (s : State) (r : Nat) : Nat :=
  let b := r / 128
  let k := (s.stepKW b (s.rowStep r)).1
  let m : Nat := (s.row r).shots.foldl (fun m q => m ||| q.mask) 0
  if (m &&& (m - 1)) ≠ 0 then min 8 (k + s.getAt b F.RX.COINC_FIX_KDUAL) else k

/-- R165: the row time of an event on phase `p` of coarse clock `cc`. -/
def State.rowTime (s : State) (r cc p : Nat) : Int :=
  let b := r / 128
  let corr : Int := if s.flag F.RX.TDC_CTRL_PHASE_CORR_EN then s.getIAt b ⟨0x40108 + 4 * (p / 4), 8 * (p % 4), 8⟩ else 0
  64 * cc + 8 * p + corr - s.getIAt b (F.ROW.ROW_TOFS_TOFS r)

/-- R153, R154: a group of `cells` distinct cells whose earliest firing is on phase `p` of coarse clock `cc`; the answer is the
event to classify, if any. -/
def State.coincide (s : State) (r cc p cells : Nat) : Option HeldEv × State :=
  let x := s.row r
  if x.shots.isEmpty || decide (cells < s.needCells r) then (none, s)
  else
    let t : Int := 8 * cc + p
    if x.last.any (fun u => decide (u ≤ t ∧ t < u + 8 * s.getAt (r / 128) F.RX.RX_TIME_HOLDOFF)) then
      (none, s.setRow r { x with acc := { x.acc with holdHit := min 65535 (x.acc.holdHit + 1) } })
    else (some ⟨s.rowTime r cc p, x.shots.map (fun q => (q.col, q.j))⟩, s.setRow r { x with last := some t })

/-! ### Column boundary of a bank (R156 to R160) -/

/-- R156: AMB and AMB_SAT of a column. -/
def ambient (singles cellTime recharge : Nat) : Nat × Bool :=
  let tau4 := 24 + 3 * recharge
  if cellTime = 0 then (0, false)
  else
    let satd := decide (4 * cellTime < 2 * (singles * tau4))
    let den := 4 * cellTime - singles * tau4
    if den = 0 then (65535, satd) else (min 65535 ((2 * 768000 * 4 * singles + den) / (2 * den)), satd)

/-- R157: the lowest step above `t` that holds A, or STEP_MAX. -/
def climb (raise : Nat → Nat) (a stepMax : Nat) : Nat → Nat → Nat
  | 0, t => t
  | n + 1, t => if t ≥ stepMax then stepMax else if raise t ≠ 0 ∧ raise t < a then climb raise a stepMax n (t + 1) else t

/-- R157: the adaptive step after a column: step and count below. -/
def State.nextStep (s : State) (b step below a : Nat) (satd : Bool) : Nat × Nat :=
  let mx := s.getAt b F.RX.ADAPT_CFG_STEP_MAX
  let raise := fun t => s.getAt b (F.RX.LADDER_RAISE t)
  if mx < step then (mx, 0)
  else if (satd || (raise step != 0 && decide (raise step < a))) && decide (step < mx) then
    (if satd then mx else climb raise a mx 6 (step + 1), 0)
  else if 0 < step ∧ a < s.getAt b (F.RX.LADDER_LOWER step) then
    (if below + 1 = s.getAt b F.RX.ADAPT_CFG_LOWER_N then (step - 1, 0) else (step, below + 1))
  else (step, 0)

/-- R160: a cell is cleared from the map. -/
def State.maskCell (s : State) (r : Nat) (e : Nat × Nat) : State :=
  let f := if e.2 < 32 then F.ROW.EN_LO r e.1 else F.ROW.EN_HI r e.1
  let k := 8 * r + e.1
  let s : State := { s with cal := { s.cal with
    masked := spSet (fun _ => 0) s.cal.masked k (spGet (fun _ => 0) s.cal.masked k ||| 2 ^ e.2) } }
  (s.setBitAt f (e.2 % 32) false).setBitAt (F.ROW.ROW_STAT_PENDING_CAL r) e.1 true

/-- The row's own part of its bank's column boundary: ambient, result group, step, masks. `off`: BIAS_OFF of the column; `recharge`
and `was`: RECHARGE and ADAPT of the column just closed. -/
def State.rowBoundary (s : State) (r : Nat) (off : Bool) (recharge : Nat) (was : Bool) (step : Nat) : State :=
  let x := s.row r
  let b := r / 128
  let am := ambient x.singles x.cellTime recharge
  let amb := if off then 0 else am.1
  let satd := am.2 && !off
  let s := (((s.set (F.ROW.AMB r) amb).setFlag (F.ROW.AMB_SAT r) satd).setFlag (F.ROW.BIAS_OFF r) off).setFlag (F.ROW.DUAL r) x.acc.dual
  let s := (((s.set (F.ROW.STEP r) step).set (F.ROW.SINGLES r) x.singles).set (F.ROW.CELLTIME r) x.cellTime).set (F.ROW.ARMED r) x.armed
  let s := ((s.set (F.ROW.PRESTART r) x.acc.prestart).set (F.ROW.WINDOW r) x.acc.window).set (F.ROW.HOLD_HIT r) x.acc.holdHit
  let s := s.publish (F.ROW.ROW_RES_ST r)
  let n := if !s.adapts b then (min 1 (s.getAt b F.RX.ADAPT_CFG_STEP_MAX), 0)
    else if !was then (min 1 (s.getAt b F.RX.ADAPT_CFG_STEP_MAX), 0)
    else if x.armed = 0 ∧ s.get (F.ROW.ROW_STAT_STEP r) ≤ s.getAt b F.RX.ADAPT_CFG_STEP_MAX then (s.get (F.ROW.ROW_STAT_STEP r), x.below)
    else s.nextStep b (s.get (F.ROW.ROW_STAT_STEP r)) x.below (amb / 4) satd
  let s := s.set (F.ROW.ROW_STAT_STEP r) n.1
  let s := s.each x.maskPend (fun s e => s.maskCell r e)
  s.setRow r { s.row r with
    acc := { x.acc with amb := amb, ambSat := satd, biasOff := off, step := step }, singles := 0, cellTime := 0, armed := 0, below := n.2, maskPend := [] }

/-! ### Hot and dead cells (R159) -/

/-- R159: the verdict on a surveyed cell of a macro-pixel: some false hot, some true dead. -/
def surveyVerdict (v : Nat × Nat × Nat × Nat) : Option Bool :=
  if v.2.1 = 0 then none
  else
    let e := v.1 * v.2.2.1
    if 8 * e < v.2.2.2 * v.2.1 ∧ e + 64 * v.2.1 < v.2.2.2 * v.2.1 then some false
    else if 256 * v.2.1 ≤ e ∧ v.2.2.2 = 0 then some true
    else none

/-- R159, R160: the surveyed cells of a frame are judged; the first finding of the frame raises EV_HOT_CELL. -/
def State.surveyJudge (s : State) : State :=
  let cell := s.surveyCell
  let finds := s.rx.rows.flatMap (fun e => (List.range 8).filterMap (fun q =>
    (surveyVerdict (surveyOf e.2.survey q)).map (fun d => (e.1, q, d))))
  let s := s.each finds (fun s f =>
    let r := f.1
    let s := (((s.set (F.ROW.ROW_HOT_VALID r) 1).setFlag (F.ROW.ROW_HOT_DEAD r) f.2.2).set (F.ROW.ROW_HOT_Q r) f.2.1).set (F.ROW.ROW_HOT_CELL r) cell
    let s := s.inc (if f.2.2 then F.RX.DEAD_FOUND else F.RX.HOT_FOUND)
    s.when (s.flag F.RX.RX_CTRL_AUTO_MASK) (fun s => s.setRow r { s.row r with maskPend := (s.row r).maskPend ++ [(f.2.1, cell)] }))
  match finds with
  | f :: _ => s.raise EV_HOT_CELL f.1 (32768 * bit f.2.2 + 256 * f.2.1 + cell)
  | [] => s

/-- R159: a frame's end: every row judges the surveyed cell, and the next frame's survey begins. -/
def State.surveyEnd (s : State) : State :=
  let s := s.when (s.domOn 69 && s.flag F.RX.RX_CTRL_SURVEY_EN) State.surveyJudge
  s.each (s.rx.rows.map (fun e => e.1)) (fun s r => s.setRow r { s.row r with survey := [] })

/-! ### Ladder writes (R158) -/

/-- R158: whether a ladder of six words stands up to `mx`. -/
def ladderOk (l : Nat → Nat) (mx : Nat) : Bool :=
  (List.range (mx + 1)).all (fun i => decide (1 ≤ bitsOf (l i) 28 4 ∧ bitsOf (l i) 28 4 ≤ 8 ∧ 1 ≤ bitsOf (l i) 24 4 ∧ bitsOf (l i) 24 4 ≤ 8)) &&
  (List.range mx).all (fun i =>
    decide ((bitsOf (l i) 12 12 < bitsOf (l (i + 1)) 12 12 ∨ bitsOf (l (i + 1)) 12 12 = 0) ∧ bitsOf (l i) 12 12 ≠ 0 ∧
      bitsOf (l (i + 1)) 0 12 < bitsOf (l i) 12 12))

/-- R158: a write of one ladder word. -/
def State.wrLadder (s : State) (a : Nat) (v : Word) : State :=
  let i := (a - 0x40020) / 4
  let l := fun j => if j = i then v.toNat else (s.rd (0x40020 + 4 * j)).toNat
  if ladderOk l (s.get F.RX.ADAPT_CFG_STEP_MAX) then (s.holdScanning allBanks a).wr a v else s.set F.RX.RX_STAT_CFG_ERR 1

/-- A write inside offsets 0x000 to 0x0FF of the receiver block. -/
def State.wrRx (s : State) (a : Nat) (v : Word) : State :=
  if a = F.RX.RX_STAT_CFG_ERR.addr then s.wrRxStat v
  else if 0x40020 ≤ a ∧ a < 0x40038 then s.wrLadder a v
  else if a = 0x4004C ∨ a = 0x40050 then s.wrRefSel a v
  else if a ≤ 0x40010 ∨ a = 0x40108 ∨ a = 0x4010C ∨ a = 0x40204 then (s.holdScanning allBanks a).hostWrite a v
  else s.hostWrite a v

/-- A write inside a row sub-block (R162, R163). -/
def State.wrRow (s : State) (a : Nat) (v : Word) : State :=
  let o := a % 0x100
  let b := a % 0x1000 / 0x100
  if o = 0 then (if s.pw.st = .scanning then s else s.hostWrite a v)
  else if o = 0x80 ∨ (0x40 ≤ o ∧ o < 0x80) then (s.holdScanning [b] a).hostWrite a v
  else s.hostWrite a v

end Sys2Proof.Machine
end

