-- ==== Sys2Proof/Machine/Hist.lean ====
section
/-! DEFINITION. Histogram slices (chapter 8): classification of row events, the lanes and their queues, ECC findings, slice isolation
and region fences (R8, R9), the candidate tracker, zoom windows, and the buffer swap. -/

namespace Sys2Proof.Machine

/-! ### Records -/

/-- Slice `i` beside its registers. -/
def State.slice (s : State) (i : Nat) : SliceSt := spGet (fun _ => SliceSt.init) s.rx.slices i

/-- Replace the record of slice `i`. -/
def State.setSlice (s : State) (i : Nat) (x : SliceSt) : State :=
  { s with rx := { s.rx with slices := spSet (fun _ => SliceSt.init) s.rx.slices i x } }

/-- Region `g` beside its registers. -/
def State.region (s : State) (g : Nat) : RegionSt := spGet (fun _ => RegionSt.init) s.rx.regions g

/-- Replace the record of region `g`. -/
def State.setRegion (s : State) (g : Nat) (x : RegionSt) : State :=
  { s with rx := { s.rx with regions := spSet (fun _ => RegionSt.init) s.rx.regions g x } }

/-- K_BIN in force. -/
def State.kBin (s : State) : Nat := s.get F.RX.HIST_CFG_K_BIN

/-- B_eff of bank `b` (R155). -/
def State.bEff (s : State) (b : Nat) : Nat := max (s.getAt b F.RX.RX_TIME_BLANK) (2 ^ s.kBin)

/-- Coarse shots per group. -/
def State.coarseN (s : State) : Nat := s.get F.RX.HIST_CFG_COARSE_N

/-! ### Isolation and fences (R8, R9) -/

/-- The isolation bit of slice `i` (SLICE_ISO). -/
def State.isolated (s : State) (i : Nat) : Bool := s.bitAt (F.RX.SLICE_ISO_ISO (i / 32)) (i % 32)

/-- The region is fenced. -/
def State.fenced (s : State) (g : Nat) : Bool := s.flag (F.PE.PE_STAT_FENCED g)

/-- R9: a region is fenced until the next boot. -/
def State.fence (s : State) (g : Nat) : State :=
  if s.fenced g then s else (s.set (F.PE.PE_STAT_FENCED g) 1).raise (EV_REGION_FENCE g) 0 0

/-- Isolated slices of region `g` whose pairs are on (R9). -/
def State.isolatedCount (s : State) (g : Nat) : Nat :=
  ((List.range 32).filter (fun i => s.isolated (32 * g + i) && s.domOn ((32 * g + i) / 2))).length

/-- R8: a slice is isolated; `post`: by the power-on self-test. Eight in a region fence it. -/
def State.isolate (s : State) (i : Nat) (post : Bool) : State :=
  if s.isolated i then s
  else
    let s := s.setBitAt (F.RX.SLICE_ISO_ISO (i / 32)) (i % 32) true
    let s := (s.set (F.SLC.SLC_STAT_ISOLATED i) 1).set (if post then F.SLC.SLC_STAT_POST_ISO i else F.SLC.SLC_STAT_ECC_ISO i) 1
    let s := s.raise (EV_SLICE_ISOLATED (i / 32)) i 0
    if 8 ≤ s.isolatedCount (i / 32) then s.fence (i / 32) else s

/-- UE_RECENT: uncorrectable errors in the last 1,000 columns, at most 3. -/
def State.ueRecent (s : State) (i : Nat) : Nat :=
  min 3 ((s.slice i).ueCols.filter (fun c => decide (s.scan.base + s.scan.column < c + 1000))).length

/-! ### ECC findings (R184) -/

/-- Change the buffer of row `r` that holds column `c`. -/
def RowSt.onBuf (x : RowSt) (c : Nat) (f : RowBuf → RowBuf) : RowSt :=
  if x.acc.col = c then { x with acc := f x.acc } else { x with rdg := f x.rdg }

/-- Set the 32 counters of word `w` of a lane to 0: words 0 to 63 coarse, 64 to 71 zoom. -/
def RowBuf.clearWord (b : RowBuf) (lane w : Nat) : RowBuf :=
  if w < 64 then { b with coarse := spKeep (fun k => k / 32 != lane * 64 + w) b.coarse }
  else { b with zoom := spKeep (fun k => k / 32 != lane * 8 + (w - 64)) b.zoom }

/-- R184: what a read of word `w` of a lane of row `r`, written for column `c`, finds: 0 nothing, 1 one bit, 2 two. -/
def State.eccFinding (s : State) (r c lane w bits : Nat) : State :=
  let i := rowSlice r
  let g := rowRegion r
  if bits = 0 then s
  else if bits = 1 then
    let s := s.inc (F.SLC.ECC_CE i)
    let s := s.setRow r ((s.row r).onBuf c (fun b => { b with eccCe := true }))
    let x := s.region g
    if x.ceFrame = some s.scan.frame then s
    else (s.setRegion g { x with ceFrame := some s.scan.frame }).raise (EV_HIST_ECC_CORR g) i r
  else
    let s := s.inc (F.SLC.ECC_UE i)
    let s := s.setRow r ((s.row r).onBuf c (fun b => { b.clearWord lane w with invalid := true }))
    let col := s.scan.base + c
    let near := (col :: (s.slice i).ueCols).filter (fun k => decide (col < k + 1000))
    let s := s.setSlice i { s.slice i with ueCols := near.take 4 }
    let s := s.raise (EV_HIST_ECC_UNCORR g) i r
    if 3 ≤ near.length then s.isolate i false else s

/-- A write of SLC_ECC_INJ: an injection of one or two bits waits for its write (R184). -/
def State.wrEccInj (s : State) (i : Nat) (v : Word) : State :=
  let bits := bitsOf v.toNat 6 2
  if bits = 1 ∨ bits = 2 then s.setSlice i { s.slice i with inject := some (bits, bitsOf v.toNat 5 1, bitsOf v.toNat 0 3) } else s

/-! ### Increments (R182, R183, R185) -/

/-- R183: an increment enters its lane's queue. -/
def State.enqueue (s : State) (r : Nat) (i : HistInc) : State :=
  let x := s.row r
  if 4 ≤ (x.queue.filter (fun q => q.lane == i.lane)).length then
    let s := s.setRow r (x.onBuf i.col (fun b => { b with invalid := true }))
    (s.inc (F.SLC.QFAULT (rowSlice r))).raise (EV_HIST_QUEUE_FAULT (rowRegion r)) (rowSlice r) r
  else s.setRow r { x with queue := x.queue ++ [i] }

/-- R185: the oldest entry of score 1 is taken over by bin `n`. -/
def takeOldest (n : Nat) : List (Nat × Nat) → Option (List (Nat × Nat))
  | [] => none
  | e :: r => if e.2 = 1 then some (r ++ [(n, 1)]) else (takeOldest n r).map (fun l => e :: l)

/-- R185: a coarse increment of bin `n` at the tracker; none where it counts in TRACK_FULL. -/
def track (n : Nat) (l : List (Nat × Nat)) : Option (List (Nat × Nat)) :=
  if l.any (fun e => e.1 == n) then some (l.map (fun e => if e.1 = n then (n, min 255 (e.2 + 1)) else e))
  else if l.length < 16 then some (l ++ [(n, 1)])
  else takeOldest n l

/-- A 16-bit counter of a column saturates. -/
def up16 (n : Nat) : Nat := min 65535 (n + 1)

/-- R185: the tracker of row `r` sees bin `n`. -/
def State.trackBin (s : State) (r n : Nat) : State :=
  let x := s.row r
  if x.snap then s
  else
    match track n x.tracker with
    | some l => s.setRow r { x with tracker := l }
    | none =>
      let s := s.setRow r { x with acc := { x.acc with trackFull := up16 x.acc.trackFull } }
      let g := rowRegion r
      let y := s.region g
      if y.trackFrame = some s.scan.frame then s
      else (s.setRegion g { y with trackFrame := some s.scan.frame }).raise (EV_HIST_TRACK_FULL g) r 0

/-- The placed window that catches `t`: its number and the bin in it. -/
def windowOf (t : Nat) : Nat → List (Nat × Nat × Nat) → Option (Nat × Nat)
  | _, [] => none
  | i, w :: l => if w.1 ≤ t ∧ t < w.1 + 64 then some (i, t - w.1) else windowOf t (i + 1) l

/-- R182: histogram an event at interval `t` for shot `j` of column `c`. -/
def State.histogram (s : State) (r c j t : Nat) : State :=
  let x := s.row r
  let lane := j % 2
  let live := !s.isolated (rowSlice r)
  if j < s.coarseN then
    let n := t / 2 ^ s.kBin
    if 2048 ≤ n then s.setRow r { x with acc := { x.acc with overSpan := up16 x.acc.overSpan } }
    else if live then (s.enqueue r ⟨c, lane, false, lane * 2048 + n⟩).trackBin r n
    else s
  else
    match windowOf t 0 x.acc.wins with
    | none => s.setRow r { x with acc := { x.acc with zoomOut := up16 x.acc.zoomOut } }
    | some w => if live then s.enqueue r ⟨c, lane, true, (lane * 4 + w.1) * 64 + w.2⟩ else s

/-! ### Classification (R167, R168, R181) -/

/-- R167: the interval of row time `e` against start `st`, in fine LSB. -/
def rowInterval (e st : Int) : Int :=
  let d := (e - st) % 2 ^ 22
  let d := if 65280 * 64 ≤ d then d - 2 ^ 22 else d
  Int.tdiv d 8

/-- R181: the event as one of its live shots sees it. -/
def State.classifyFor (s : State) (r c j : Nat) (t : Int) : State :=
  let x := s.row r
  if t < 0 then s
  else if c < (s.rxBank (r / 128)).accCol then s.setRow r { x with acc := { x.acc with tailCut := up16 x.acc.tailCut } }
  else if t < s.bEff (r / 128) then s.setRow r { x with acc := { x.acc with window := up16 x.acc.window } }
  else s.histogram r c j t.toNat

/-- The shots of an event whose start is reported. -/
def liveShots (shots : List RowShot) (e : HeldEv) : List (Nat × Nat × Int) :=
  e.shots.filterMap (fun k =>
    match (shots.find? (fun q => q.col == k.1 && q.j == k.2)).map (fun q => q.start) with
    | some (StartSt.at st) => some (k.1, k.2, rowInterval e.e st)
    | _ => none)

/-- R181: a row event is classified. -/
def State.classify (s : State) (r : Nat) (e : HeldEv) : State :=
  let x := s.row r
  let live := liveShots x.shots e
  if live.isEmpty then s
  else if live.all (fun k => decide (k.2.2 < 0)) then s.setRow r { x with acc := { x.acc with prestart := up16 x.acc.prestart } }
  else s.each live (fun s k => s.classifyFor r k.1 k.2.1 k.2.2)

/-- Whether every shot of an event has its start or its no-start decision. -/
def decidedAll (shots : List RowShot) (e : HeldEv) : Bool :=
  e.shots.all (fun k => shots.all (fun q => !(q.col == k.1 && q.j == k.2) || q.start != .pending))

/-- R168: the events of row `r` whose shots are all decided are classified, in order. -/
def State.releaseHeld (s : State) (r : Nat) : State :=
  let x := s.row r
  let s := s.setRow r { x with held := x.held.filter (fun e => !decidedAll x.shots e) }
  s.each (x.held.filter (decidedAll x.shots)) (fun s e => s.classify r e)

/-- A coincidence of row `r`: the event is held until every shot in whose span it lies is decided (R153, R168, R181). -/
def State.rowEvent (s : State) (r cc p cells : Nat) : State :=
  if s.rowOn r && (s.rxBank (r / 128)).isOpen then
    match s.coincide r cc p cells with
    | (none, s) => s
    | (some e, s) =>
      if decidedAll (s.row r).shots e then s.classify r e
      else s.setRow r { s.row r with held := (s.row r).held ++ [e] }
  else s

/-- R168: the start of shot `j` of column `c`, or the no-start decision, reaches the rows of bank `b`. -/
def State.startToRows (s : State) (b c j : Nat) (st : StartSt) : State :=
  let s := match st with
    | StartSt.at _ =>
      let x := s.rxBank b
      let k := (if j < s.coarseN then 0 else 2) + j % 2
      s.setRxBank b { x with shotsAcc := x.shotsAcc.set k (x.shotsAcc.getD k 0 + 1) }
    | _ => s
  s.each ((s.rx.rows.map (fun e => e.1)).filter (fun r => r / 128 == b)) (fun s r =>
    let x := s.row r
    (s.setRow r { x with shots := x.shots.map (fun q => if q.col = c ∧ q.j = j then { q with start := st } else q) }).releaseHeld r)

/-! ### Memory cycles (R183, R184) -/

/-- The word of an increment: 0 to 63 coarse, 64 to 71 zoom. -/
def HistInc.word (i : HistInc) : Nat := if i.zoom then 64 + i.key % 256 / 32 else i.key % 2048 / 32

/-- A lane counter counts one, saturating at 255. -/
def RowBuf.count (b : RowBuf) (i : HistInc) : RowBuf :=
  if i.zoom then { b with zoom := spSet (fun _ => 0) b.zoom i.key (min 255 (spGet (fun _ => 0) b.zoom i.key + 1)) }
  else { b with coarse := spSet (fun _ => 0) b.coarse i.key (min 255 (spGet (fun _ => 0) b.coarse i.key + 1)) }

/-- Take the corruption of a word of a row out of the list: bits found, and the list without it. -/
def takeCorrupt (col key : Nat) (l : List (Nat × Nat × Nat)) : Nat × List (Nat × Nat × Nat) :=
  (((l.filter (fun e => e.1 == col && e.2.1 == key)).map (fun e => e.2.2)).foldl max 0,
    l.filter (fun e => !(e.1 == col && e.2.1 == key)))

/-- R183: a lane of row `r` performs a cycle; `bits`: what the check of the word read shows. -/
def State.laneCycle (s : State) (r lane bits : Nat) : State :=
  let x := s.row r
  match x.queue.find? (fun q => q.lane == lane) with
  | none => s
  | some i =>
    let key := lane * 128 + i.word
    let was := takeCorrupt i.col key x.corrupt
    let s := s.setRow r { x with queue := x.queue.erase i, corrupt := was.2 }
    let s := s.eccFinding r i.col lane i.word (max bits was.1)
    let s := s.setRow r ((s.row r).onBuf i.col (fun b => b.count i))
    let y := s.slice (rowSlice r)
    match y.inject with
    | some (n, l, j) =>
      if l = lane ∧ j = r / 128 then
        (s.setSlice (rowSlice r) { y with inject := none }).setRow r
          { s.row r with corrupt := (s.row r).corrupt ++ [(i.col, key, n)] }
      else s
    | none => s

/-! ### Windows (R186) -/

/-- The score of the entry that holds bin `n`. -/
def scoreOf (l : List (Nat × Nat)) (n : Nat) : Nat := ((l.find? (fun e => e.1 == n)).map (fun e => e.2)).getD 0

/-- C(n). -/
def clusterOf (l : List (Nat × Nat)) (n : Nat) : Nat :=
  scoreOf l n + max (if n = 0 then 0 else scoreOf l (n - 1)) (scoreOf l (n + 1))

/-- The held bin with the largest C, lowest bin on a tie. -/
def bestBin (l : List (Nat × Nat)) : Option Nat :=
  l.foldl (fun o e =>
    match o with
    | none => some e.1
    | some n =>
      if clusterOf l n < clusterOf l e.1 ∨ (clusterOf l n = clusterOf l e.1 ∧ e.1 < n) then some e.1 else some n) none

/-- R186: the selection. `wins`: windows placed so far (start, score, centre). -/
def selectWindows (k bEff winMax sep candMin : Nat) : Nat → List (Nat × Nat) → List (Nat × Nat × Nat) → List (Nat × Nat × Nat)
  | 0, _, wins => wins
  | fuel + 1, l, wins =>
    if winMax ≤ wins.length then wins
    else
      match bestBin l with
      | none => wins
      | some n =>
        if clusterOf l n < candMin then wins
        else
          let m := if (if n = 0 then 0 else scoreOf l (n - 1)) < scoreOf l (n + 1) then n else n - 1
          let lo := scoreOf l m
          let hi := scoreOf l (m + 1)
          let centre := m * 2 ^ k + 2 ^ k * (lo + 3 * hi) / (2 * (lo + hi))
          let l := l.map (fun e => if e.1 = m ∨ e.1 = m + 1 then (e.1, 0) else e)
          if wins.any (fun w => decide (centre < w.2.2 + sep ∧ w.2.2 < centre + sep)) then
            selectWindows k bEff winMax sep candMin fuel l wins
          else
            let start := min (max (centre - 32) bEff) (2048 * 2 ^ k - 64)
            selectWindows k bEff winMax sep candMin fuel l (wins ++ [(start, lo + hi, centre)])

/-- R186, R187: the snapshot of row `r` and the windows of its zoom pass. -/
def State.zoomSnapshot (s : State) (r : Nat) : State :=
  let x := s.row r
  let b := r / 128
  if s.rowOn r && s.slotsRun && !x.snap then
    let wins := selectWindows s.kBin (s.bEff b) (s.getAt b F.RX.CAND_CFG_WIN_MAX) (s.getAt b F.RX.CAND_CFG_SEP)
      (s.getAt b F.RX.CAND_CFG_CAND_MIN) 40 x.tracker []
    s.setRow r { x with snap := true, acc := { x.acc with wins := wins, noCand := wins.isEmpty } }
  else s

/-! ### Swap (R188) -/

/-- R188: row `r` swaps: the accumulating buffer is read next. -/
def State.rowSwap (s : State) (r c : Nat) : State :=
  let x := s.row r
  let rdg := { x.acc with frame := c / s.nCol, time := s.time.dev, col := c }
  let acc := { RowBuf.empty (c + 1) with coarse := x.rdg.coarse, zoom := x.rdg.zoom }
  s.setRow r { x with rdg := rdg, acc := acc, tracker := [], snap := false }

/-- R162, R188: the swap of bank `b`: its rows' columns close, new words take effect, and the buffers change. -/
def State.bufferSwap (s : State) (b : Nat) : State :=
  let x := s.rxBank b
  if s.domOn 69 && x.isOpen then
    let off := s.rx.biasOff / 2 ^ b % 2 == 1
    let recharge := s.getAt b F.RX.RX_TIME_RECHARGE
    let was := s.adapts b
    let rows := (bankRows b).filter (fun r => s.domOn (rowDom r))
    let steps := rows.map (fun r => (r, s.rowStep r))
    let s := s.letGo b
    let s := s.when (b == 0) (fun s => s.letGo 8)
    let s := s.each steps (fun s e => (s.rowBoundary e.1 off recharge was e.2).rowSwap e.1 x.accCol)
    let s : State := { s with rx := { s.rx with biasOff := s.rx.biasOff - bit off * 2 ^ b } }
    let s := s.noteBias
    s.setRxBank b { s.rxBank b with
      isOpen := s.slotsRun, accCol := x.accCol + 1, shotsRdg := x.shotsAcc, shotsAcc := [0, 0, 0, 0] }
  else s

/-- R180: what a profile's field values must meet; `period` SHOT_PERIOD. -/
def histCfgBad (coarse zoom k preSpan listen period : Nat) : Bool :=
  !(coarse % 2 == 0 && zoom % 2 == 0 && decide (2 ≤ coarse ∧ coarse ≤ 16 ∧ 2 ≤ zoom ∧ zoom ≤ 16 ∧ k ≤ 5) &&
    decide ((preSpan + listen + 176) * 2048 ≤ 2 * period))

/-- A write inside a slice block. -/
def State.wrSlice (s : State) (a : Nat) (v : Word) : State :=
  if a % 0x10000 = 0x14 then s.wrEccInj ((a - 0x1000000) / 0x10000) v else s.hostWrite a v

end Sys2Proof.Machine
end

