-- ==== Sys2Proof/Machine/Tdc.lean ====
section
/-! DEFINITION. Time measurement (chapter 7): reference channels, the pick-off and a shot's start, delay lines and their tables, and the
TIN channels with their queues. -/

namespace Sys2Proof.Machine

/-! ### Channels and stamps -/

/-- Channel `c` beside its registers. -/
def State.ch (s : State) (c : Nat) : ChSt := spGet (fun _ => ChSt.init) s.rx.chans c

/-- Replace the record of channel `c`. -/
def State.setCh (s : State) (c : Nat) (x : ChSt) : State :=
  { s with rx := { s.rx with chans := spSet (fun _ => ChSt.init) s.rx.chans c x } }

/-- The group whose boundary puts a channel's new words in force: its bank, or the channel's next idle moment (R169, R175). -/
def chGroup (c : Nat) : Nat := if c < 8 then c else 16 + c

/-- A linearisation table is valid: every entry greater than the one before it (R169). -/
def linRising : List Nat → Bool
  | a :: b :: l => decide (a < b) && linRising (b :: l)
  | _ => true

/-- The table in force of channel `c`. -/
def State.linTable (s : State) (c : Nat) : List Nat := (List.range 64).map (fun i => s.getAt (chGroup c) (F.CH.LIN c i))

/-- R166: LIN[i], or the ideal table where the channel's is not valid. -/
def State.linAt (s : State) (c i : Nat) : Nat :=
  let t := s.linTable c
  if linRising t then t.getD i 0 else 16 * i + 8

/-- R166: the stamp of an edge on channel `c`, in 1/16 reference unit. -/
def State.stamp16 (s : State) (c cc tap : Nat) : Int := 1024 * cc + s.linAt c tap

/-- CH_TOFS of channel `c`, in force. -/
def State.chTofs (s : State) (c : Nat) : Int := s.getIAt (chGroup c) (F.CH.CH_TOFS_TOFS c)

/-- R169: the channel can stamp. -/
def State.chStamps (s : State) (c : Nat) : Bool :=
  s.domOn 69 && s.flag (F.CH.CH_STAT_LOCKED c) && !s.flag (F.CH.CH_STAT_FAULT c)

/-- LOCKED of channel `c` in both places. -/
def State.setLocked (s : State) (c : Nat) (b : Bool) : State :=
  (s.setFlag (F.CH.CH_STAT_LOCKED c) b).setBitAt F.RX.TDC_STAT_LOCKED c b

/-- R169: the channel is stopped. -/
def State.chFault (s : State) (c : Nat) : State :=
  if s.flag (F.CH.CH_STAT_FAULT c) then s
  else ((s.set (F.CH.CH_STAT_FAULT c) 1).setBitAt F.RX.TDC_STAT_FAULT c true).raise EV_REFTDC_FAULT c 0

/-- R169: a DLL is declared unlocked. -/
def State.dllUnlock (s : State) (c : Nat) : State :=
  if s.chStamps c then
    let s := (s.setLocked c false).inc F.RX.DLL_UNLOCKS
    let s := if s.flag (F.CH.CH_STAT_UNLOCK c) then s else (s.set (F.CH.CH_STAT_UNLOCK c) 1).raise EV_DLL_UNLOCK c 0
    let now := s.time.dev.toNat
    let recent := (now :: (s.ch c).unlocks).filter (fun t => decide (now < t + 10 ^ 9))
    let s := s.setCh c { s.ch c with unlocks := recent.take 3 }
    if 3 ≤ recent.length then s.chFault c else s
  else s

/-- R169: a DLL locks. -/
def State.dllLock (s : State) (c : Nat) : State :=
  if s.domOn 69 && !s.flag (F.CH.CH_STAT_FAULT c) then s.setLocked c true else s

/-- R169: a channel failed to relock within 100 µs. -/
def State.dllRelockTimeout (s : State) (c : Nat) : State :=
  if s.domOn 69 && !s.flag (F.CH.CH_STAT_LOCKED c) then s.chFault c else s

/-! ### Interval measurement on the TIN channels (R173 to R176) -/

/-- Rounding to the nearest of a quotient of integers, halves away from zero. -/
def nearest (n : Int) (d : Nat) : Int :=
  let m : Int := (2 * n.natAbs + d) / (2 * d)
  if n < 0 then -m else m

/-- R173: device time of a stamp at 1/16 reference unit, in 1/65,536 ns: the device time of the latest TIME advance, at coarse clock
6 × ticks, and the rest at 1/1,536 ns per 1/16 reference unit, rounded down (notes/assumptions/21.md). -/
def State.stampTime (s : State) (p : Int) : Nat :=
  let rest := p - 1024 * (6 * s.time.tick : Nat)
  ((s.time.dev.toNat : Int) * 65536 + (s.time.frac / 65536 : Nat) + (rest * 128) / 3).toNat

/-- Q_HEAD words and COUNT show the oldest entry (R176). -/
def State.showQueue (s : State) (c : Nat) : State :=
  let q := (s.ch c).queue
  let s := s.set (F.CH.Q_STAT_COUNT c) q.length
  match q with
  | [] => s
  | e :: _ =>
    let s := (s.set (F.CH.Q_HEAD0_FRAC c) e.frac).set (F.CH.Q_HEAD0_FLAGS c) e.flags
    let s := s.setI (F.CH.Q_HEAD1_INTERVAL c) e.interval
    (s.set (F.CH.T_LO c) e.dev).set (F.CH.T_HI c) (e.dev / 2 ^ 32)

/-- R174, R176: a result of TIN channel `c`: flags as offset 0x48, opening and closing times in 1/65,536 ns (closing none: 0). -/
def State.tinResult (s : State) (c flags : Nat) (interval : Int) (tOpen : Nat) (tClose : Option Nat) : State :=
  let close := tClose.getD 0
  let s := s.setI (F.CH.INTERVAL c) interval
  let s := s.set ⟨(F.CH.TIE c).addr, 0, 6⟩ flags
  let s := (s.set (F.CH.T_OPEN_LO c) (tOpen / 65536)).set (F.CH.T_OPEN_HI c) (tOpen / 2 ^ 48)
  let s := (s.set (F.CH.T_OPEN_FRAC c) tOpen).set (F.CH.T_CLOSE_FRAC c) close
  let s := (s.set (F.CH.T_CLOSE_LO c) (close / 65536)).set (F.CH.T_CLOSE_HI c) (close / 2 ^ 48)
  let s := s.publish (F.CH.CH_RES_ST c)
  if s.getAt (16 + c) (F.CH.CH_CTRL_QUEUE_EN c) = 1 then
    let x := s.ch c
    if x.queue.length < 64 then
      (s.setCh c { x with queue := x.queue ++ [⟨tOpen % 65536, flags, interval, tOpen / 65536⟩] }).showQueue c
    else
      let s := (s.inc (F.CH.Q_DROP c)).setCh c { x with dropped := true }
      if x.dropped then s else s.raise EV_TIN_QUEUE_FULL c 0
  else s

/-- R175: the measurement of channel `c` ends at coarse clock `cc`, and waiting configuration takes effect. -/
def State.endMeasure (s : State) (c cc : Nat) : State := (s.setCh c { s.ch c with meas := none, idleFrom := cc + 1 }).letGo (16 + c)

/-- TIMEOUT of channel `c` in force. -/
def State.chTimeout (s : State) (c : Nat) : Nat := s.getAt (16 + c) (F.CH.CH_TIMEOUT_TIMEOUT c)

/-- R175: no closing edge arrived in time. -/
def State.tinTimeout (s : State) (c : Nat) : State :=
  match (s.ch c).meas with
  | none => s
  | some m =>
    let s := (s.tinResult c (32 + 4) 0 (m.dev * 65536 + m.frac) none).inc (F.CH.PICK_LATE_TIMEOUTS c)
    s.endMeasure c (m.cc + s.chTimeout c)

/-- R175: an open measurement ends with INVALID. -/
def State.tinInvalid (s : State) (c cc : Nat) : State :=
  let t := match (s.ch c).meas with
    | some m => m.dev * 65536 + m.frac
    | none => 0
  (s.tinResult c (32 + 16) 0 t none).endMeasure c cc

/-- R175: a closing edge. -/
def State.tinClose (s : State) (c : Nat) (m : OpenMeas) (cc : Nat) (p : Int) : State :=
  let d := if m.byStart then p - m.stamp else m.stamp - p
  let covf := decide (m.cc + 65536 ≤ cc)
  let iv := if covf || decide (d.natAbs < 16) then 0 else nearest d 16
  let flags := 32 + 8 * bit covf + 2 * bit (decide (iv < 0)) + bit (!covf && decide (d.natAbs < 16))
  (s.tinResult c flags iv (m.dev * 65536 + m.frac) (some (s.stampTime p))).endMeasure c cc

/-- R175: an edge with stamp `p` (none: its channel is unlocked) that is the start, or the stop, of channel `c`. -/
def State.tinInterval (s : State) (c cc : Nat) (p : Option Int) (start : Bool) : State :=
  let s := match (s.ch c).meas with
    | some m => if m.cc + s.chTimeout c ≤ cc then s.tinTimeout c else s
    | none => s
  let x := s.ch c
  match x.meas with
  | none =>
    if cc < x.idleFrom then s
    else if !start && s.getAt (16 + c) (F.CH.CH_CTRL_ORDER_EN c) == 0 then s.inc (F.CH.PICK_STRAY_STRAY_STOP c)
    else
      match p with
      | none => s.tinInvalid c cc
      | some p => s.setCh c { x with meas := some ⟨start, p, cc, s.stampTime p / 65536, s.stampTime p % 65536⟩ }
  | some m =>
    if m.byStart == start then s.inc (F.CH.PICK_EXTRA_EXTRA c)
    else
      match p with
      | none => s.tinInvalid c cc
      | some p => s.tinClose c m cc p

/-- A field of CH_CTRL of TIN channel `c` in force. -/
def State.tinCtrl (s : State) (f : Nat → Fld) (c : Nat) : Nat := s.getAt (16 + c) (f c)

/-- R175: the TIN channels in interval mode that name source `src` (0 to 3 TIN inputs, 8 to 15 bank starts) see an edge. -/
def State.tinUsers (s : State) (src : Nat) (falling : Bool) (cc : Nat) (p : Option Int) : State :=
  s.each [8, 9, 10, 11] (fun s c =>
    if s.tinCtrl F.CH.CH_CTRL_EN c = 1 ∧ s.tinCtrl F.CH.CH_CTRL_MODE c = 1 then
      let isStart := s.tinCtrl F.CH.CH_CTRL_START_SRC c == src &&
        (decide (8 ≤ src) || s.tinCtrl F.CH.CH_CTRL_START_EDGE c == bit falling)
      let isStop := s.tinCtrl F.CH.CH_CTRL_STOP_SRC c == src && s.tinCtrl F.CH.CH_CTRL_STOP_EDGE c == bit falling
      let byStart := match (s.ch c).meas with
        | some m => m.byStart
        | none => true
      if isStart && (byStart || !isStop) then s.tinInterval c cc p true
      else if isStop then s.tinInterval c cc p false
      else s
    else s)

/-- R172: whether TIN input `i` accepts the edge, HOLD_HIT counted where it does not. -/
def State.tinAccept (s : State) (i : Nat) (falling : Bool) (cc : Nat) : Bool × State :=
  let c := 8 + i
  let x := s.ch c
  let last := if falling then x.lastFall else x.lastRise
  if last.any (fun t => decide (cc < t + s.getAt (16 + c) (F.CH.CH_TIN_HOLDOFF c))) then (false, s.inc (F.CH.PICK_EARLY_HOLD_HIT c))
  else (true, s.setCh c (if falling then { x with lastFall := some cc } else { x with lastRise := some cc }))

/-- R172, R174, R175: an edge on a TIN input. -/
def State.tinEdge (s : State) (i : Nat) (falling : Bool) (cc tap : Nat) : State :=
  if s.domOn 69 then
    let a := s.tinAccept i falling cc
    if a.1 then
      let s := a.2
      let c := 8 + i
      let p : Option Int := if s.chStamps c then some (s.stamp16 c cc tap - 16 * s.chTofs c) else none
      let s :=
        if s.tinCtrl F.CH.CH_CTRL_EN c = 1 ∧ s.tinCtrl F.CH.CH_CTRL_MODE c = 0 ∧
            s.tinCtrl F.CH.CH_CTRL_TS_EDGES c / (if falling then 2 else 1) % 2 = 1 then
          match p with
          | some p => s.tinResult c 0 0 (s.stampTime p) none
          | none => s
        else s
      s.tinUsers i falling cc p
    else a.2
  else s

/-- R176: a Q_POP. -/
def State.qPop (s : State) (c : Nat) (v : Word) : State :=
  if 8 ≤ c ∧ v.toNat % 2 = 1 ∧ (s.ch c).queue ≠ [] then
    (s.setCh c { s.ch c with queue := (s.ch c).queue.drop 1, dropped := false }).showQueue c
  else s

/-! ### The pick-off (R171) -/

/-- The earliest gate rise of the slot under way of bank `b`, in reference units. -/
def State.gateTime (s : State) (b : Nat) : Int :=
  let x := s.bank b
  let delays := ((List.range 4).filter (fun i => x.fireMask / 2 ^ i % 2 = 1)).map (fun i => bitsOf (s.str (4 * b + i)).drive.toNat 0 5)
  let d := match delays with
    | [] => 0
    | a :: l => l.foldl min a
  64 * (s.scan.origin : Int) + 8 * (s.nominalTime x.curCol x.curShot b + x.offset + d : Nat)

/-- Table 7-8: the pick-off group of bank `b`, at its last slot in a column. -/
def State.pickPublish (s : State) (b : Nat) : State :=
  let x := s.rxBank b
  let s := (s.setI (F.CH.D_MAX b) (x.dMax.getD 0)).setI (F.CH.D_MIN b) (x.dMin.getD 0)
  let s := (s.setI (F.CH.D_LAST b) x.dLast).set (F.CH.FLAGS_LAST b) x.flags
  let s := (s.setI (F.CH.D_SUM b) x.dSum).set (F.CH.STARTS b) x.starts
  let s := (s.set (F.CH.NOSTART b) x.noStart).publish (F.CH.CH_RES_ST b)
  s.setRxBank b { x with dMin := none, dMax := none, dSum := 0, starts := 0, noStart := 0 }

/-- At the last slot of a column the group is published. -/
def State.pickLast (s : State) (b : Nat) : State := if (s.bank b).curShot + 1 = s.group then s.pickPublish b else s

/-- R171: no start for the slot under way: `d` and the flags of the last armed shot. -/
def State.pickRefuse (s : State) (b : Nat) (d : Int) (flags : Nat) : State :=
  let k := s.bank b
  let x := s.rxBank b
  let s := s.setRxBank b { x with decided := some (k.curCol, k.curShot), dLast := d, flags := flags, noStart := x.noStart + 1 }
  (((s.startToRows b k.curCol k.curShot .none).shotWithoutStart b).pickLast b)

/-- R167, R171: the start of the slot under way. -/
def State.pickStart (s : State) (b cc : Nat) (p d : Int) : State :=
  let k := s.bank b
  let x := s.rxBank b
  let lo := match x.dMin with | some m => min m d | none => d
  let hi := match x.dMax with | some m => max m d | none => d
  let s := s.setRxBank b { x with
    decided := some (k.curCol, k.curShot), dLast := d, flags := 0, dMin := some lo, dMax := some hi, dSum := x.dSum + d,
    starts := x.starts + 1 }
  let start := (p - 16 * s.chTofs b + 8) / 16
  let s := (s.startToRows b k.curCol k.curShot (.at start)).shotWithStart b
  (s.tinUsers (8 + b) false cc (some (p - 16 * s.chTofs b))).pickLast b

/-- R171: an edge on the pick-off of bank `b`. -/
def State.pickoffEdge (s : State) (b cc tap : Nat) : State :=
  if s.chStamps b && s.flag (F.CH.CH_CTRL_EN b) then
    let k := s.bank b
    let p := s.stamp16 b cc tap
    let g := s.gateTime b
    let mx := s.get (F.CH.CH_WINDOW_PICK_MAX b)
    if (s.rxBank b).isOpen && s.shotInAir b && decide (16 * (g - 1920) ≤ p ∧ p ≤ 16 * (g + mx)) then
      if (s.rxBank b).decided = some (k.curCol, k.curShot) then s.inc (F.CH.PICK_EXTRA_EXTRA b)
      else
        let tie := decide ((p - 16 * g).natAbs < 16)
        let d := if tie then 0 else nearest (p - 16 * g) 16
        if d < s.get (F.CH.CH_WINDOW_PICK_MIN b) then
          (s.inc (F.CH.PICK_EARLY_HOLD_HIT b)).pickRefuse b d (bit tie + 2 * bit (decide (d < 0)))
        else s.pickStart b cc p d
    else s.inc (F.CH.PICK_STRAY_STRAY_STOP b)
  else s

/-- R171: the armed span of the slot under way ends. -/
def State.pickoffWindowEnd (s : State) (b : Nat) : State :=
  let k := s.bank b
  if s.domOn 69 && (s.rxBank b).isOpen && k.outcome == .fired && (s.rxBank b).decided != some (k.curCol, k.curShot) then
    (s.inc (F.CH.PICK_LATE_TIMEOUTS b)).pickRefuse b 0 (4 + 8 * bit (!s.chStamps b))
  else s

/-- A slot that will not fire arms nothing; at the last slot of a column the pick-off group is published (Table 7-8). -/
def State.pickIdleSlot (s : State) (b : Nat) : State :=
  if s.domOn 69 && (s.bank b).curShot + 1 == s.group && !s.shotInAir b then s.pickPublish b else s

/-! ### Register writes (R169, R175, R178) -/

/-- R169: the tap map is judged whole at the end of a REG_WRITE that touched it. -/
def State.endTapMap (s old : State) (c : Nat) : State :=
  let map := s.get (F.CH.CH_TAPMAP0_MAP c) + 2 ^ 32 * s.get (F.CH.CH_TAPMAP1_MAP c) + 2 ^ 64 * s.get (F.CH.CH_TAPMAP2_MAP c)
  let back := ((s.wr (F.CH.CH_TAPMAP0_MAP c).addr (old.rd (F.CH.CH_TAPMAP0_MAP c).addr)).wr (F.CH.CH_TAPMAP1_MAP c).addr
    (old.rd (F.CH.CH_TAPMAP1_MAP c).addr)).wr (F.CH.CH_TAPMAP2_MAP c).addr (old.rd (F.CH.CH_TAPMAP2_MAP c).addr)
  if c < 8 ∧ s.pw.st = .scanning then back
  else if popCount 72 map ≠ 64 then back.set (F.CH.CH_STAT_MAP_ERR c) 1
  else s.setLocked c false

/-- R169: the table is checked after every write that touches it. -/
def State.endLin (s : State) (c : Nat) : State :=
  s.setFlag (F.CH.CH_STAT_LIN_VALID c) (linRising ((List.range 64).map (fun i => s.get (F.CH.LIN c i))))

/-- A write whose effect waits for the channel's next idle moment while a measurement is open (R175). -/
def State.holdOpen (s : State) (c a : Nat) : State := if (s.ch c).meas.isSome then s.holdWord [16 + c] a else s

/-- CH_WINDOW: PICK_MAX 96 to 3,072, PICK_MIN 1 to PICK_MAX - 1. -/
def State.wrChWindow (s : State) (c : Nat) (v : Word) : State :=
  if c < 8 then
    let mx := min 3072 (max 96 (bitsOf v.toNat 16 16))
    (s.set (F.CH.CH_WINDOW_PICK_MAX c) mx).set (F.CH.CH_WINDOW_PICK_MIN c) (min (mx - 1) (max 1 (bitsOf v.toNat 0 16)))
  else s

/-- A write inside a reference channel's block. -/
def State.wrCh (s : State) (a : Nat) (v : Word) : State :=
  let c := (a - 0x41000) / 0x200
  let o := (a - 0x41000) % 0x200
  let pick := decide (c < 8)
  if o = 0 then
    if pick then (if s.pw.st = .scanning then s else s.hostWrite a v)
    else
      let was := s.flag (F.CH.CH_CTRL_EN c)
      let s := (s.holdOpen c a).hostWrite a v
      if !was && s.flag (F.CH.CH_CTRL_EN c) then (s.setCh c { s.ch c with queue := [], dropped := false }).showQueue c else s
  else if o = 0x04 ∨ o = 0x0C then (s.holdOpen c a).hostWrite a v
  else if o = 0x08 then s.wrChWindow c v
  else if o = 0x10 ∨ 0x100 ≤ o then (if pick then s.holdScanning [c] a else s.holdOpen c a).hostWrite a v
  else if o = 0x94 then s.qPop c v
  else s.hostWrite a v

end Sys2Proof.Machine
end

