-- ==== Sys2Proof/Machine/Peak.lean ====
section
/-! DEFINITION. Return extraction and rejection (chapter 9), the row histogram result (R192) and histogram dumps (R193 to R195). -/

namespace Sys2Proof.Machine

/-! ### The row as received (R190) -/

/-- N_CA, N_CB, N_ZA or N_ZB of bank `b`. -/
def State.shotsOf (s : State) (b k : Nat) : Nat := (s.rxBank b).shotsRdg.getD k 0

/-- Count of coarse bin `n` in a lane. -/
def RowBuf.coarseAt (x : RowBuf) (lane n : Nat) : Nat := spGet (fun _ => 0) x.coarse (lane * 2048 + n)

/-- Count of bin `n` of zoom window `w` in a lane. -/
def RowBuf.zoomAt (x : RowBuf) (lane w n : Nat) : Nat := spGet (fun _ => 0) x.zoom ((lane * 4 + w) * 64 + n)

/-- Both lanes of a coarse bin. -/
def RowBuf.coarseSum (x : RowBuf) (n : Nat) : Nat := x.coarseAt 0 n + x.coarseAt 1 n

/-- Coarse bins with a count, each once. -/
def RowBuf.coarseBins (x : RowBuf) : List Nat := (x.coarse.map (fun e => e.1 % 2048)).eraseDups

/-- R191: a coarse bin that every coarse shot with a start filled. -/
def State.binSat (s : State) (b : Nat) (x : RowBuf) (n : Nat) : Bool :=
  x.coarseAt 0 n == s.shotsOf b 0 && x.coarseAt 1 n == s.shotsOf b 1 && decide (2 ≤ s.shotsOf b 0 + s.shotsOf b 1)

/-- R191: SAT of the row's group. -/
def State.rowSat (s : State) (b : Nat) (x : RowBuf) : Bool := x.coarseBins.any (s.binSat b x)

/-- R199, R160: row `r` is absent. -/
def State.rowAbsent (s : State) (r : Nat) (x : RowBuf) : Bool :=
  s.isolated (rowSlice r) || s.fenced (rowRegion r) || !s.domOn (rowDom r) || !s.flag (F.ROW.ROW_CTRL_EN r) ||
    (maskCols x.mask).any (fun q => decide (s.activeCells r q < 16))

/-! ### The floor (R200, R201, R217) -/

/-- What the floor and pile-up of a row come to: F, L, B in 1/65,536, PU. -/
structure Floor where
  f : Nat
  l : Nat
  b : Nat
  pu : Nat
  deriving DecidableEq, Repr

/-- R200: whether a span bin is excluded by a placed window. -/
def excluded (k guard n : Nat) (wins : List (Nat × Nat × Nat)) : Bool :=
  wins.any (fun w => decide (w.1 / 2 ^ k ≤ n + guard ∧ n ≤ (w.1 + 63) / 2 ^ k + guard))

/-- R200, R201: the floor of row `r`. -/
def State.rowFloor (s : State) (r : Nat) (x : RowBuf) : Floor :=
  let b := r / 128
  let g := rowRegion r
  let k := s.kBin
  let n0 := (s.bEff b + 2 ^ k - 1) / 2 ^ k
  let n1 := min 2047 ((8 * s.getAt b F.RX.RX_LISTEN_LISTEN - 1) / 2 ^ k)
  let guard := s.getAt 8 (F.PE.PE_FLOOR_GUARD g)
  let keep := fun n => decide (n0 ≤ n ∧ n ≤ n1) && !excluded k guard n x.wins
  let l := max 1 ((List.range 2048).filter keep).length
  let f := ((x.coarseBins.filter keep).map x.coarseSum).sum
  let nc := s.shotsOf b 0 + s.shotsOf b 1
  let nz := s.shotsOf b 2 + s.shotsOf b 3
  let e := (x.coarse.map (fun c => c.2)).sum + (x.zoom.map (fun c => c.2)).sum + x.zoomOut + x.overSpan + x.prestart + x.window
  { f := f, l := l, b := if nc = 0 then 0 else 65536 * f * 16 * nz / (nc * l * 2 ^ k),
    pu := if e = 0 then 256 else min 1024 (256 * (e + x.holdHit) / e) }

/-- Factorial. -/
def fact : Nat → Nat
  | 0 => 1
  | n + 1 => (n + 1) * fact n

/-- R217: EXCESS, both sides compared exactly. -/
def State.rowExcess (s : State) (r : Nat) (x : RowBuf) (fl : Floor) : Bool :=
  let b := r / 128
  let g := rowRegion r
  let kw := s.stepKW b x.step
  let k := if x.dual then min 8 (kw.1 + s.getAt b F.RX.COINC_FIX_KDUAL) else kw.1
  let a := if x.dual then 2 * x.amb else x.amb
  let nc := s.shotsOf b 0 + s.shotsOf b 1
  decide (s.getAt 8 (F.PE.PE_FLOOR_FX_CNT g) ≤ fl.f) && nc != 0 &&
    decide (s.getAt 8 (F.PE.PE_FLOOR_FX g) * a ^ k * kw.2 ^ (k - 1) * (nc * fl.l * 2 ^ s.kBin) < fl.f * 192000 ^ k * fact (k - 1))

/-! ### Finding a return (R202 to R207) -/

/-- The kernel of bank `b` in region `g`, as PE_KSEL shows it. -/
def State.kernelOf (s : State) (g b : Nat) : Nat := s.get (F.PE.PE_KSEL_KSEL g) / 4 ^ b % 4

/-- R202: the kernel choice of bank `b`, kept where no string lives. -/
def State.chooseKernel (s : State) (g b : Nat) : State :=
  match (bankStrings b).find? s.live with
  | none => s
  | some n =>
    let f : Fld := ⟨(F.PE.PE_KSEL_KSEL g).addr, 2 * b, 2⟩
    s.set f (min 3 (s.widthEff n / 3))

/-- Tap `j` of kernel `k` of region `g`. -/
def State.tap (s : State) (g k j : Nat) : Nat := bitsOf (s.rd ((F.KER.KTAP0_TAPS g k).addr + 4 * (j / 4))).toNat (8 * (j % 4)) 8

/-- The first index of the largest value. -/
def argMax (l : List Nat) : Nat := l.findIdx (fun v => v == l.foldl max 0)

/-- R203: OFS of a return of window start `w`. -/
def State.timeOffset (s : State) (r : Nat) (x : RowBuf) (w : Nat) : Int :=
  let g := rowRegion r
  let k := s.kBin
  if x.coarseBins.any (fun n => decide (w / 2 ^ k ≤ n ∧ n ≤ (w + 63) / 2 ^ k) && s.binSat (r / 128) x n) then
    s.getI (F.PE.PE_SAT_OFS_SAT_OFS g)
  else if x.step = 7 then s.getI (F.PE.PE_SAT_OFS_FIX_OFS g)
  else s.getI ⟨(F.PE.PE_STEP_OFS0_STEP_OFS0 g).addr + 4 * (x.step / 2), 16 * (x.step % 2), 16⟩

/-- SCALE in force: region A's (R204, R221). -/
def State.scale (s : State) : Nat := s.get (F.PE.PE_SCALE_SCALE 0)

/-- Rounding to the nearest, halves up, of a quotient with positive divisor. -/
def nearUp (n : Int) (d : Nat) : Int := (2 * n + d) / (2 * d : Nat)

/-- R207: events of a lane in the span and 16 × their mean bin index, rounded to nearest with halves up (R228). -/
def RowBuf.half (x : RowBuf) (lane w m : Nat) : Nat × Int :=
  let n := ((List.range 16).map (fun i => x.zoomAt lane w (m + i))).sum
  let t := ((List.range 16).map (fun i => (m + i) * x.zoomAt lane w (m + i))).sum
  (n, if n = 0 then 0 else nearUp (16 * t) n)

/-- R202 to R205, R207, R208, R210, R211, R213: the return of window `w`, if it yields one; PRECIP, echoes and confidence follow. -/
def State.windowReturn (s : State) (r : Nat) (x : RowBuf) (fl : Floor) (w start : Nat) : Option Ret :=
  let g := rowRegion r
  let b := r / 128
  let kn := s.kernelOf g b
  let taps := (List.range 16).map (s.tap g kn)
  let z := (List.range 64).map (fun i => x.zoomAt 0 w i + x.zoomAt 1 w i)
  let y := (List.range 49).map (fun m => ((List.range 16).map (fun j => taps.getD j 0 * z.getD (m + j) 0)).sum)
  let m := argMax y
  let c := ((List.range 16).map (fun i => z.getD (m + i) 0)).sum
  let root := Nat.sqrt (fl.b * 65536)
  let t := max (s.getAt 8 (F.PE.PE_THR_MIN_CNT g)) ((16 * fl.b + s.getAt 8 (F.PE.PE_THR_SIGMA g) * root + 1048575) / 1048576)
  if c < t then none
  else
    let y0 : Int := y.getD m 0
    let yl : Int := if m = 0 then 0 else y.getD (m - 1) 0
    let yr : Int := y.getD (m + 1) 0
    let den := 2 * (2 * y0 - yl - yr)
    let d := if m = 0 ∨ m = 48 ∨ den ≤ 0 then 0 else clampI (nearest (256 * (yr - yl)) den.toNat) (-128) 128
    let tau := 256 * (start + m : Nat) + d + s.get (F.KER.KREF g kn) + s.timeOffset r x start
    let raw := (tau * s.scale + 2 ^ 23) / 2 ^ 24 + s.getI (F.PE.PE_RANGE_OFS_OFS g)
    let nz := s.shotsOf b 2 + s.shotsOf b 3
    let inten := nearUp (16 * (65536 * (c : Int) - fl.b) * fl.pu) (65536 * nz)
    let ha := x.half 0 w m
    let hb := x.half 1 w m
    let tol := s.getAt 8 (F.PE.PE_SPLIT_SPLIT_TOL g)
    let both := decide (1 ≤ ha.1 ∧ 1 ≤ hb.1)
    let diff := (ha.2 - hb.2).natAbs
    let foreign := if both then decide (16 * tol < diff) else decide (s.getAt 8 (F.PE.PE_SPLIT_SPLIT_N g) ≤ c)
    let nr := tau / (256 * 2 ^ s.kBin : Nat)
    let span : Int := s.getAt 8 (F.PE.PE_CLASS_EXT_SPAN g)
    let ext := (x.coarseBins.filter (fun n => decide (nr - span ≤ n ∧ (n : Int) ≤ nr + span))).length
    let nc := s.shotsOf b 0 + s.shotsOf b 1
    let base : Int := min 15 (2 * (65536 * (c : Int) - fl.b) / (Nat.sqrt ((65536 + fl.b) * 65536) : Nat))
    let pen : Int := 2 * bit (both && decide (8 * tol < diff)) + 2 * bit (!both && decide (c < s.getAt 8 (F.PE.PE_SPLIT_SPLIT_N g))) +
      2 * bit (decide (0 < x.trackFull)) + 2 * bit (decide (nz < s.get F.RX.HIST_CFG_ZOOM_N))
    some {
      range := (clampI raw 0 4194303).toNat, inten := (clampI inten 0 65535).toNat, raw := base - pen, conf := 0,
      diffuse := decide (s.getAt 8 (F.PE.PE_CLASS_EXT_MIN g) ≤ ext),
      window := decide (s.getAt 8 (F.PE.PE_WIN_WIN_FRAC g) * (nc + nz) ≤ 256 * x.window),
      precip := false, multi := false, foreign := foreign, sat := s.rowSat b x, low := false,
      bounded := decide (raw < 0 ∨ 4194303 < raw), win := w, tau := tau, cnt := c, nA := ha.1, ext := ext,
      split := if both then ha.2 - hb.2 else 0, floor := min 65535 fl.b }

/-- Insert by descending INTENSITY, lower WIN first on a tie. -/
def insertRet (x : Ret) : List Ret → List Ret
  | [] => [x]
  | y :: l => if y.inten < x.inten ∨ (y.inten = x.inten ∧ x.win < y.win) then x :: y :: l else y :: insertRet x l

/-- R206: the returns kept when those closer than `sep` are merged, strongest first. -/
def mergeRets (sep : Nat) (l : List Ret) : List Ret :=
  (l.foldr insertRet []).foldl (fun kept x => if kept.any (fun k => decide ((k.tau - x.tau).natAbs < 256 * sep)) then kept else kept ++ [x]) []

/-- Insert by ascending RANGE. -/
def insertRange (x : Ret) : List Ret → List Ret
  | [] => [x]
  | y :: l => if x.range < y.range ∨ (x.range = y.range ∧ x.win < y.win) then x :: y :: l else y :: insertRange x l

/-- R209: PRECIP of a return of a row. -/
def State.isPrecip (s : State) (g : Nat) (rets : List Ret) (x : Ret) : Bool :=
  s.getAt 8 (F.PE.PE_CTRL_PRECIP_EN g) == 1 &&
    ((x.diffuse && decide (x.range ≤ 400 * s.getAt 8 (F.PE.PE_CLASS_PRECIP_MAX g))) ||
      (decide (x.range ≤ 400 * s.getAt 8 (F.PE.PE_CLASS_DROP_MAX g) ∧ x.inten < s.getAt 8 (F.PE.PE_DROP_DROP_INT g)) &&
        rets.any (fun y => decide (x.range < y.range ∧ 2 * x.inten ≤ y.inten))))

/-- R212: an echo of another return of the row. -/
def State.isEcho (s : State) (g : Nat) (rets : List Ret) (x : Ret) : Bool :=
  s.getAt 8 (F.PE.PE_CTRL_ECHO_EN g) == 1 &&
    rets.any (fun q => decide (4 * x.inten ≤ q.inten ∧
      1024 * ((x.range : Int) - 2 * q.range).natAbs ≤ s.getAt 8 (F.PE.PE_MP_MP_TOL g) * (2 * q.range)))

/-- R213: CONF and LOW_CONF from the confidence before its bound. -/
def State.settleConf (s : State) (g : Nat) (x : Ret) : Ret :=
  let conf := if x.foreign || x.bounded then 0 else x.raw.toNat
  { x with conf := conf, low := decide (conf < s.getAt 8 (F.PE.PE_CONF_CONF_MIN g)) }

/-- R198 to R213: the row's status and returns, before the bloom test. -/
def State.extractRow (s : State) (r : Nat) (x : RowBuf) : RowOut × Nat :=
  let b := r / 128
  let g := rowRegion r
  let absent := s.rowAbsent r x
  let lowShot := decide (s.shotsOf b 2 + s.shotsOf b 3 < 2)
  let fl := s.rowFloor r x
  let excess := s.rowExcess r x fl
  let bare := absent || x.invalid || x.noCand || lowShot
  let found := if bare then [] else
    (List.range x.wins.length).filterMap (fun w => s.windowReturn r x fl w ((x.wins.getD w (0, 0, 0)).1))
  let kept := (mergeRets (s.getAt 8 (F.PE.PE_FLOOR_DUP_SEP g)) found).foldr insertRange []
  let rets := kept.map (fun q =>
    let p := s.isPrecip g kept q
    let m := s.isEcho g kept q
    s.settleConf g { q with
      precip := p, multi := m, raw := q.raw - 4 * bit p - 6 * bit m - 4 * bit q.window - 4 * bit excess })
  ({ row := r, absent := absent, invalid := x.invalid, noCand := x.noCand, lowShot := lowShot, excess := !(absent || x.invalid) && excess,
     track := decide (0 < x.trackFull), dual := x.dual, sat := !bare && s.rowSat b x, step := x.step, amb := x.amb, pu := fl.pu,
     biasOff := x.biasOff, ambSat := x.ambSat, rets := rets }, found.length - kept.length)

/-! ### Histogram dumps (R193 to R195) -/

/-- Row histogram record (Table 8-6). -/
def State.histRecord (s : State) (r parts : Nat) (absent afterDrop : Bool) (dropped : Nat) (x : RowBuf) : List Byte :=
  let b := r / 128
  let parts := if absent then 0 else parts
  let len := 48 + 4096 * (parts % 2) + 528 * (parts / 2 % 2)
  let flags := bit (decide (x.frame % 2 = 1)) + 2 * bit absent + 4 * bit x.invalid + 8 * bit (s.rowSat b x) + 16 * bit x.noCand +
    32 * bit afterDrop + 64 * bit x.dual + 128 * bit x.eccCe
  let lane := fun h => (List.range 2048).map (fun n => (BitVec.ofNat 8 (x.coarseAt h n) : Byte))
  let zoom := fun (w : Nat) =>
    let k := x.wins.getD w (65535, 0, 0)
    beBytes 2 k.1 ++ beBytes 1 k.2.1 ++ zeros 1 ++ (List.range 64).map (fun n => (BitVec.ofNat 8 (x.zoomAt 0 w n) : Byte)) ++
      (List.range 64).map (fun n => (BitVec.ofNat 8 (x.zoomAt 1 w n) : Byte))
  [1, BitVec.ofNat 8 parts] ++ beBytes 2 r ++ beBytes 2 (x.col % s.nCol) ++ beBytes 2 flags ++ beBytes 8 x.time.toNat ++
    beBytes 4 x.frame ++ beBytes 1 s.kBin ++ beBytes 1 x.step ++ beBytes 1 x.wins.length ++ beBytes 1 (min 255 dropped) ++
    (List.range 4).flatMap (fun i => beBytes 1 (s.shotsOf b i)) ++ beBytes 4 len ++ beBytes 2 x.prestart ++ beBytes 2 x.window ++
    beBytes 2 x.holdHit ++ beBytes 2 x.zoomOut ++ beBytes 2 x.overSpan ++ beBytes 2 x.tailCut ++ beBytes 2 x.trackFull ++ zeros 2 ++
    (if parts % 2 = 1 then lane 0 ++ lane 1 else []) ++ (if parts / 2 % 2 = 1 then (List.range 4).flatMap zoom else [])

/-- R193, R195: a row of a running dump is copied, or dropped where class 5 refuses it. -/
def State.dumpRow (s : State) (r : Nat) (absent : Bool) (x : RowBuf) : State :=
  match s.rx.dump with
  | none => s
  | some d =>
    let mine := match d.start with
      | none => false
      | some c0 => decide (c0 ≤ s.scan.base + x.col ∧ s.scan.base + x.col < c0 + d.columns ∧ d.first ≤ r ∧ r < d.first + d.rows)
    if mine then
      let rec0 := s.histRecord r d.parts absent (decide (0 < d.run)) d.run x
      let q := s.memReq 5 0x40 rec0.length
      if q.1 then
        let s := q.2.txPut 5 rec0
        ({ s with rx := { s.rx with dump := some { d with delivered := d.delivered + 1, run := 0 } } } : State).inc F.RX.DUMP_REC
      else
        let s := q.2
        let s := ({ s with rx := { s.rx with dump := some { d with dropped := d.dropped + 1, run := d.run + 1 } } } : State).inc F.RX.DUMP_DROP
        s.when (d.dropped == 0) (fun s => s.raise (EV_HIST_DUMP_DROP (rowRegion r)) r 0)
    else s

/-- Columns per second of the profile in force. -/
def State.colRate (s : State) : Nat := profRate s.scan.profile * profCols s.scan.profile

/-- HIST_DUMP (R193). -/
def cmdHistDump (s : State) (p : List Byte) : Reply :=
  let first := u16 p 0
  let rows := u16 p 2
  let cols := u16 p 4
  let parts := u8 p 6
  let len := 48 + 4096 * (parts % 2) + 528 * (parts / 2 % 2)
  let rate := rows * len * s.colRate
  s.guarded [s.badState (s.pw.st != .scanning), s.needDom 69, badParam (decide (1024 < first + rows ∨ rows = 0)) 0,
      badParam (decide (parts = 0 ∨ 3 < parts ∨ cols = 0 ∨ 2048 < cols) || notZero p 7 1) 1,
      (!s.rangeBusy 0x0108 && decide (s.get F.RX.DUMP_CFG_RATE_MAX * 10 ^ 6 < rate), 0x21, 5),
      (!s.rangeBusy 0x0108 && s.class5Refusing, 0x21, 5)]
    (s.accept 0x0108 (({ s with rx := { s.rx with
      dump := some ⟨first, rows, cols, parts, s.time.dev, none, 0, 0, 0, false⟩ } } : State).set F.RX.DUMP_STAT_ACTIVE 1
        |>.set F.RX.DUMP_STAT_COL_LEFT (min cols 4095)))

/-- HIST_DUMP_CANCEL: the dump stops at the next column boundary. -/
def cmdHistDumpCancel (s : State) : Reply :=
  (match s.rx.dump with
    | some d => ({ s with rx := { s.rx with dump := some { d with cancel := true } } } : State)
    | none => s).done []

/-- R195: the end record is queued, and the command completes. -/
def State.dumpEnd (s : State) (cancelled : Bool) : State :=
  match s.rx.dump with
  | none => s
  | some d =>
    let bytes : List Byte := [2, 0] ++ beBytes 2 0xFFFF ++ zeros 4 ++ beBytes 8 s.time.dev.toNat ++ zeros 12 ++ beBytes 4 48 ++
      beBytes 4 d.delivered ++ beBytes 4 d.dropped ++ zeros 8
    let s := s.txPut 5 bytes
    let s : State := { s with rx := { s.rx with dump := none } }
    let s := (s.set F.RX.DUMP_STAT_ACTIVE 0).set F.RX.DUMP_STAT_COL_LEFT 0
    if cancelled then s.complete 0x0108 0x61 0 []
    else if d.dropped = 0 then s.complete 0x0108 0 0 []
    else s.complete 0x0108 0x60 (min 255 d.dropped) []

/-- R193, R195: what a column boundary does to a dump; `c` the column that begins, counted on across restarts. -/
def State.dumpBoundary (s : State) (c : Nat) : State :=
  match s.rx.dump with
  | none => s
  | some d =>
    if d.cancel then s.dumpEnd true
    else
      match d.start with
      | none =>
        if d.since.toNat + 100000 ≤ s.time.dev.toNat then { s with rx := { s.rx with dump := some { d with start := some c } } } else s
      | some c0 => s.set F.RX.DUMP_STAT_COL_LEFT (min 4095 (d.columns - (c - c0)))

/-- R195: the last column has been read out. -/
def State.dumpComplete (s : State) : State :=
  match s.rx.dump with
  | some d =>
    if d.start.any (fun c0 => decide (c0 + d.columns ≤ s.scan.base + s.scan.column)) || s.pw.st != .scanning then s.dumpEnd false else s
  | none => s

/-- R32: a change of power state ends the dump without an end record. -/
def State.dumpDrop (s : State) : State :=
  (({ s with rx := { s.rx with dump := none } } : State).set F.RX.DUMP_STAT_ACTIVE 0).set F.RX.DUMP_STAT_COL_LEFT 0

/-! ### Read-out (R189 to R192) -/

/-- R192: the row histogram result group. -/
def State.histResult (s : State) (r : Nat) (x : RowBuf) : State :=
  let b := r / 128
  let w := fun i => (x.wins.getD i (65535, 0, 0)).1
  let s := ((s.set (F.ROW.N_CA r) (s.shotsOf b 0)).set (F.ROW.N_CB r) (s.shotsOf b 1)).set (F.ROW.N_ZA r) (s.shotsOf b 2)
  let s := ((s.set (F.ROW.N_ZB r) (s.shotsOf b 3)).set (F.ROW.ZOOM_OUT r) x.zoomOut).set (F.ROW.OVER_SPAN r) x.overSpan
  let s := ((s.set (F.ROW.TAIL_CUT r) x.tailCut).set (F.ROW.TRACK_FULL r) x.trackFull).set (F.ROW.WSTART0 r) (w 0)
  let s := ((s.set (F.ROW.WSTART1 r) (w 1)).set (F.ROW.WSTART2 r) (w 2)).set (F.ROW.WSTART3 r) (w 3)
  let score := (List.range 4).foldl (fun v i => v + (x.wins.getD i (0, 0, 0)).2.1 * 2 ^ (8 * i)) 0
  let s := ((s.set (F.ROW.SCORE r) score).set (F.ROW.WINDOWS r) x.wins.length).setFlag (F.ROW.NO_CAND r) x.noCand
  let s := ((s.setFlag (F.ROW.SAT r) (s.rowSat b x)).setFlag (F.ROW.ECC_CE r) x.eccCe).setFlag (F.ROW.INVALID r) x.invalid
  s.publish (F.ROW.HROW_ST r)

/-- The corrupted words of a row that belong to the column read: findings of R184. -/
def State.readFindings (s : State) (r c : Nat) : State :=
  let mine := (s.row r).corrupt.filter (fun e => e.1 == c)
  let s := s.setRow r { s.row r with corrupt := (s.row r).corrupt.filter (fun e => e.1 != c) }
  s.each mine (fun s e => s.eccFinding r c (e.2.1 / 128) (e.2.1 % 128) e.2.2)

/-- Add to the frame sums of a region: 0 rows done, 1 returns, 2 excess, 3 foreign, 4 precip, 5 multipath, 6 window events, 7 shots. -/
def RegionSt.addSum (x : RegionSt) (i n : Nat) : RegionSt := { x with sums := x.sums.set i (x.sums.getD i 0 + n) }

/-- R189: the peak engine reads and clears row `r`; `bits`, `word`: what the check of one word read shows. -/
def State.rowReadout (s : State) (r bits word : Nat) : State :=
  let b := r / 128
  let g := rowRegion r
  if s.domOn 69 && s.domOn (70 + g) then
    let c := (s.row r).rdg.col
    let on := s.domOn (rowDom r)
    let s := s.when on (fun s => (s.readFindings r c).eccFinding r c (word / 72) (word % 72) bits)
    let s := s.chooseKernel g b
    let x := (s.row r).rdg
    let e := s.extractRow r x
    let s := s.when on (fun s => s.histResult r x)
    let s := s.dumpRow r e.1.absent x
    let s := s.setRow r { s.row r with rdg := { x with coarse := [], zoom := [] } }
    let y := s.region g
    let y := if y.col = c then y else { y with col := c, rows := [] }
    let y := if e.1.absent then y else (y.addSum 6 x.window).addSum 7 ((List.range 4).map (s.shotsOf b)).sum
    (s.setRegion g { y with rows := y.rows ++ [e.1] }).add (F.PE.MERGED g) e.2
  else s

/-! ### The region's part (R212, R215, R216, R218) -/

/-- R212: a return flooded by a saturated neighbour. -/
def State.isBloom (s : State) (g : Nat) (rows : List RowOut) (o : RowOut) (x : Ret) : Bool :=
  s.getAt 8 (F.PE.PE_CTRL_BLOOM_EN g) == 1 &&
    rows.any (fun n => n.row / 128 == o.row / 128 && n.row != o.row && n.sat &&
      decide (((n.row : Int) - o.row).natAbs ≤ s.getAt 8 (F.PE.PE_MP_BLOOM_ROWS g)) &&
      n.rets.any (fun q => decide (((x.range : Int) - q.range).natAbs ≤ s.getAt 8 (F.PE.PE_MP_BLOOM_TOL g) ∧ 8 * x.inten < q.inten)))

/-- R212: the bloom test over a region's rows. -/
def State.bloom (s : State) (g : Nat) (rows : List RowOut) : List RowOut :=
  rows.map (fun o => { o with rets := o.rets.map (fun x =>
    if s.isBloom g rows o x && !x.multi then s.settleConf g { x with multi := true, raw := x.raw - 6 } else x) })

/-- Returns of a list of rows that meet `p`. -/
def countRets (rows : List RowOut) (p : Ret → Bool) : Nat := (rows.map (fun o => (o.rets.filter p).length)).sum

/-- The counters of a part released (Table 9-10, R218). -/
def State.partSums (s : State) (g : Nat) (rows : List RowOut) : State :=
  let all := countRets rows (fun _ => true)
  let y := s.region g
  let y := (((((y.addSum 0 (rows.filter (fun o => !o.absent)).length).addSum 1 all).addSum 2
    (rows.filter (fun o => o.excess && !o.absent)).length).addSum 3 (countRets rows (fun x => x.foreign))).addSum 4
    (countRets rows (fun x => x.precip))).addSum 5 (countRets rows (fun x => x.multi))
  let s := s.setRegion g y
  ((s.add (F.PE.RET_TOTAL g) all).add (F.PE.FOREIGN_TOTAL g) (countRets rows (fun x => x.foreign))).add (F.PE.LOWCONF_TOTAL g)
    (countRets rows (fun x => x.low))

/-- Table 9-4: the interference level. -/
def State.interference (s : State) (g done excess foreign : Nat) : Nat :=
  if done = 0 then 0
  else if s.getAt 8 (F.PE.PE_IL1_IL_T3 g) * done ≤ 65536 * excess then 3
  else if s.getAt 8 (F.PE.PE_IL0_IL_T2 g) * done ≤ 65536 * excess then 2
  else if s.getAt 8 (F.PE.PE_IL0_IL_T1 g) * done ≤ 65536 * excess ∨ s.getAt 8 (F.PE.PE_IL1_IL_FRET g) ≤ foreign then 1
  else 0

/-- R218: the frame result group of region `g`. -/
def State.frameResult (s : State) (g : Nat) : State :=
  let y := s.region g
  let v := fun i => y.sums.getD i 0
  let level := if v 0 = 0 ∨ v 7 = 0 then 0 else min 65535 (65536 * v 6 / v 7)
  let il := s.interference g (v 0) (v 2) (v 3)
  let was := s.get (F.PE.PE_STAT_IL g)
  let s := ((s.set (F.PE.ROWS_DONE g) (v 0)).set (F.PE.RETURNS g) (v 1)).set (F.PE.EXCESS_ROWS g) (v 2)
  let s := ((s.set (F.PE.FOREIGN_RET g) (v 3)).set (F.PE.PRECIP_RET g) (v 4)).set (F.PE.MP_RET g) (v 5)
  let s := ((s.set (F.PE.WIN_LEVEL g) level).set (F.PE.IL g) il).set (F.PE.PE_STAT_IL g) il
  let s := s.publish (F.PE.PE_FRAME_ST g)
  let s := s.when (decide (was < il)) (fun s => s.raise EV_FOREIGN_SCANNER g il)
  let dirty := s.getAt 8 (F.PE.PE_WIN_WIN_DIRTY g)
  let n := s.getAt 8 (F.PE.PE_WIN_WIN_FRAMES g)
  let dn := if dirty ≤ level then y.dirtyN + 1 else 0
  let cn := if level < 3 * dirty / 4 then y.cleanN + 1 else 0
  let s := s.setRegion g { y with sums := [0, 0, 0, 0, 0, 0, 0, 0], dirtyN := dn, cleanN := cn }
  if n ≤ dn && !s.flag (F.PE.PE_STAT_DIRTY g) then (s.set (F.PE.PE_STAT_DIRTY g) 1).raise EV_WINDOW_DIRTY g level
  else s.when (decide (n ≤ cn)) (fun s => s.set (F.PE.PE_STAT_DIRTY g) 0)

/-- The part of region `g` of column `c` reaches the formatters; a part of a column already given up is discarded (R224). The queue holds two
columns, one while FORMAT is 1; one more marks its column incomplete (Table 1-7). -/
def State.givePart (s : State) (g c : Nat) (rows : List RowOut) : State :=
  let waiting := (s.ps.cols.filter (fun k => !k.built && k.parts.any (fun e => e.1 == g))).length
  let full := decide ((if s.ps.format = 1 then 1 else 2) ≤ waiting)
  let s : State := { s with ps := { s.ps with cols := s.ps.cols.map (fun k =>
      if k.c = c ∧ k.parts.all (fun e => e.1 != g) ∧ k.late / 2 ^ g % 2 = 0 then
        { k with parts := k.parts ++ [(g, rows)], overrun := k.overrun || full } else k) } }
  s.when full (fun s => s.raise EV_POINT_QUEUE_FULL g c)

/-- R216: every row of a part absent. -/
def allAbsent (rows : List RowOut) : List RowOut := rows.map (fun o => { o with absent := true, rets := [] })

/-- R218, R229: column `c` is the last of its frame, or of a frame that was closed early. -/
def State.endsFrame (s : State) (c : Nat) : Bool := c % s.nCol + 1 == s.nCol || s.ps.frames.any (fun f => f.lastCol == some c)

/-- R215: after the last row of a column the region's part is released; in a frame's first column it waits for the self-check. -/
def State.columnRelease (s : State) (g : Nat) : State :=
  let y := s.region g
  if s.domOn (70 + g) && !y.rows.isEmpty && !y.checkPend then
    let rows := if s.fenced g then allAbsent y.rows else s.bloom g y.rows
    let s := s.setRegion g { y with rows := rows }
    if y.col % s.nCol = 0 then s.setRegion g { s.region g with checkPend := true }
    else
      let s := ((s.partSums g rows).givePart g y.col rows).setRegion g { (s.partSums g rows).region g with rows := [] }
      s.when (s.endsFrame y.col) (fun s => s.frameResult g)
  else s

/-- R216, R9: the self-check of a frame's first column ends. -/
def State.selfCheck (s : State) (g : Nat) (matched : Bool) : State :=
  let y := s.region g
  if s.domOn (70 + g) && y.checkPend then
    let rows := if matched then y.rows else allAbsent y.rows
    let s := if matched then s else (s.set (F.PE.PE_STAT_SELFCHECK_FAIL g) 1).raise (EV_PEAK_SELFCHECK g) 0 0
    let s := s.partSums g rows
    let s := (s.givePart g y.col rows).setRegion g { s.region g with rows := [], checkPend := false }
    let s := if matched then s else s.fence g
    s.when (s.endsFrame y.col) (fun s => s.frameResult g)
  else s

/-! ### Register writes (R219) -/

/-- KSUM of a kernel: the sum of its taps. -/
def State.kernelSum (s : State) (g k : Nat) : Nat := ((List.range 16).map (s.tap g k)).sum

/-- R220: the first kernel below 64 of a region that is not fenced. -/
def State.badKernel (s : State) : Option Nat :=
  (List.range 16).find? (fun i => !s.fenced (i / 4) && decide (s.kernelSum (i / 4) (i % 4) < 64))

/-- A write inside a region block. -/
def State.wrRegion (s : State) (a : Nat) (v : Word) : State :=
  let g := (a - 0x50000) / 0x4000
  let o := (a - 0x50000) % 0x4000
  if o ≤ 0x28 then (s.holdScanning [8] a).hostWrite a v
  else if (0x40 ≤ o ∧ o < 0x58) ∨ 0x100 ≤ o then
    if s.pw.st = .scanning then s.set (F.PE.PE_STAT_CFG_ERR g) 1
    else if o = 0x40 ∧ g ≠ 0 then s
    else s.hostWrite a v
  else s.hostWrite a v

end Sys2Proof.Machine
end

