-- ==== Sys2Proof/Machine/Points.lean ====
section
/-! DEFINITION. Point stream and compression (chapter 10): column, frame, drop and ambient records, the output rings and the overflow chain,
the compressor and its contexts, and the decompressor's command. -/

namespace Sys2Proof.Machine

/-! ### Records (R222) -/

/-- A record closed by its CRC. -/
def withCrc (body : List Byte) : List Byte := body ++ beBytes 4 (crc32c body)

/-- A row that no part gives. -/
def RowOut.missing (r : Nat) : RowOut := ⟨r, true, false, false, false, false, false, false, false, 0, 0, 256, false, false, []⟩

/-- Row `r` of a column. -/
def ColInfo.row (k : ColInfo) (r : Nat) : RowOut :=
  match k.parts.find? (fun e => e.1 == rowRegion r) with
  | some e => (e.2.find? (fun o => o.row == r)).getD (RowOut.missing r)
  | none => RowOut.missing r

/-- R226: the row code. -/
def RowOut.code (o : RowOut) : Nat := if o.absent then 3 else if o.invalid then 2 else if o.lowShot then 1 else 0

/-- R214, R226: the returns of a row that the point stream carries. -/
def State.carried (s : State) (o : RowOut) : List Ret :=
  if o.code ≠ 0 then []
  else if s.getAt 8 (F.PE.PE_CTRL_FOREIGN_DROP (rowRegion o.row)) = 1 then o.rets.filter (fun x => !x.foreign) else o.rets

/-- The six flags of a return, WINDOW lowest. -/
def Ret.flags (x : Ret) : Nat :=
  bit x.window + 2 * bit x.precip + 4 * bit x.multi + 8 * bit x.foreign + 16 * bit x.sat + 32 * bit x.low

/-- Table 10-3. -/
def compactEntry (row i : Nat) (x : Ret) : List Byte :=
  beBytes 8 (row * 2 ^ 54 + x.range * 2 ^ 32 + x.inten * 2 ^ 16 + x.conf * 2 ^ 12 + bit x.diffuse * 2 ^ 11 + x.win * 2 ^ 9 +
    x.flags * 8 + i * 2)

/-- Table 10-5. -/
def fullEntry (x : Ret) : List Byte :=
  beBytes 4 x.range ++ beBytes 2 x.inten ++ beBytes 1 (16 * x.conf + 8 * bit x.diffuse + 2 * x.win) ++ beBytes 1 x.flags ++
    beBytes 1 x.cnt ++ beBytes 1 x.nA ++ beBytes 1 x.ext ++ zeros 1 ++ beInt 2 x.split ++ beBytes 2 x.floor

/-- Table 10-4. -/
def fullRow (o : RowOut) (n : Nat) : List Byte :=
  beBytes 2 (n * 2 ^ 13 + o.row) ++
    beBytes 1 (bit o.absent + 2 * bit o.invalid + 4 * bit o.noCand + 8 * bit o.lowShot + 16 * bit o.excess + 32 * bit o.track + 64 * bit o.dual) ++
    beBytes 1 o.step ++ beBytes 2 o.amb ++ beBytes 2 o.pu

/-- Fenced regions as bits. -/
def State.fencedMask (s : State) : Nat := (List.range 4).foldl (fun m g => m + bit (s.fenced g) * 2 ^ g) 0

/-- INCOMPLETE of a column (R224, Table 1-7). -/
def ColInfo.incomplete (k : ColInfo) : Bool := k.late != 0 || k.overrun

/-- R225 to R228: the record of a column, with N_RET and ROWS_VALID. -/
def State.columnRecord (s : State) (f : FrameInfo) (k : ColInfo) : List Byte × Nat × Nat :=
  let rows := (List.range 1024).map (fun r => let o := k.row r; (o, s.carried o))
  let n := (rows.map (fun e => e.2.length)).sum
  let valid := (rows.filter (fun e => e.1.code == 0)).length
  let len := if f.format = 1 then 8260 + 16 * n else 324 + 8 * n
  let flags := bit k.dir + 2 * bit k.dual + 4 * bit k.incomplete + 8 * bit k.angle.isNone + 16 * bit k.last
  let head := beBytes 1 (0x10 + f.format) ++ beBytes 1 flags ++ beBytes 2 (k.c % f.cols) ++ beBytes 4 len ++ beBytes 8 k.time.toNat ++
    beBytes 4 k.frame ++ beBytes 4 k.c ++ beBytes 2 (k.angle.getD 0) ++ beBytes 1 f.profile ++ beBytes 1 f.kBin ++ beBytes 2 n ++
    beBytes 2 valid ++ (List.range 8).flatMap (fun b => beBytes 1 (k.fired.getD b 0)) ++
    (List.range 8).flatMap (fun b => beBytes 1 (k.started.getD b 0)) ++ beBytes 1 (s.fencedMask + 16 * k.late) ++ zeros 3 ++
    beBytes 4 f.scale ++ zeros 8
  let body := if f.format = 1 then rows.flatMap (fun e => fullRow e.1 e.2.length ++ e.2.flatMap fullEntry)
    else
      (List.range 256).map (fun i => BitVec.ofNat 8 ((List.range 4).foldl (fun v j =>
        v + ((rows.getD (4 * i + j) (RowOut.missing 0, [])).1).code * 4 ^ j) 0)) ++
      rows.flatMap (fun e => (List.range e.2.length).flatMap (fun i =>
        match e.2[i]? with
        | some x => compactEntry e.1.row i x
        | none => []))
  (withCrc (head ++ body), n, valid)

/-- Table 10-6. -/
def frameStartRecord (f : FrameInfo) : List Byte :=
  withCrc (beBytes 1 0x20 ++ beBytes 1 (bit f.dir + 2 * bit f.restarted) ++ beBytes 2 f.cols ++ beBytes 4 32 ++ beBytes 8 f.time.toNat ++
    beBytes 4 f.frame ++ beBytes 1 f.profile ++ beBytes 1 f.kBin ++ beBytes 1 f.format ++ zeros 1 ++ beBytes 4 f.scale)

/-- Table 10-7. -/
def State.frameEndRecord (s : State) (f : FrameInfo) : List Byte :=
  withCrc (beBytes 1 0x21 ++ beBytes 1 (bit f.dir + 2 * bit f.early) ++ beBytes 2 f.sent ++ beBytes 4 96 ++
    beBytes 8 (f.ends.getD 0).toNat ++ beBytes 4 f.frame ++ beBytes 2 f.incomplete ++ zeros 2 ++
    (List.range 4).flatMap (fun g => beBytes 4 (s.get (F.PE.ROWS_DONE g)) ++ beBytes 4 (s.get (F.PE.EXCESS_ROWS g)) ++
      beBytes 4 (s.get (F.PE.FOREIGN_RET g)) ++ beBytes 2 (s.get (F.PE.WIN_LEVEL g)) ++ beBytes 1 (s.get (F.PE.IL g)) ++
      beBytes 1 (bit (s.fenced g) + 2 * s.get (F.PE.PE_STAT_DIRTY g))) ++ zeros 4)

/-- Table 10-11. -/
def dropRecord (d : DropRun) : List Byte :=
  withCrc (beBytes 1 0x22 ++ beBytes 1 d.reason ++ zeros 2 ++ beBytes 4 32 ++ beBytes 8 d.time.toNat ++ beBytes 4 d.first ++
    beBytes 4 d.last ++ beBytes 4 d.count)

/-! ### Rings, chain and drops (R232, R233) -/

/-- Bytes the overflow chain can hold. -/
def State.chainRoom (s : State) : Nat :=
  ((List.range (s.get F.PS.OVF_CFG_COUNT)).map (fun i => s.get (F.PS.OVF_LEN i))).sum

/-- Bytes the chain holds. -/
def State.chainLevel (s : State) : Nat := (s.ps.chain.map List.length).sum

/-- A run of drops grows. -/
def growRun (reason : Nat) (time : BitVec 64) (c : Nat) : Option DropRun → DropRun
  | none => ⟨reason, time, c, c, 1⟩
  | some d => { d with last := c, count := d.count + 1 }

/-- R232: a unit of stream 1 is placed in the ring, sent to the chain, or dropped; `c`: the CINDEX a drop names. Whether it was delivered. -/
def State.ringPlace (s : State) (bytes : List Byte) (time : BitVec 64) (c : Nat) : Bool × State :=
  let pre := match s.ps.run1 with
    | some d => [dropRecord d]
    | none => []
  let size := ((pre ++ [bytes]).map List.length).sum
  let ovf := s.flag F.PS.PS_CTRL_OVF_EN
  let toRing := s.ps.chain.isEmpty && decide (s.streamLevel 1 + bytes.length + 64 ≤ 262144)
  if toRing then
    let s := s.each (pre ++ [bytes]) (fun s u => s.txPut 1 u)
    (true, { s with ps := { s.ps with run1 := none } })
  else if ovf && decide (s.chainLevel + size ≤ s.chainRoom) then
    let first := s.ps.chain.isEmpty
    let s := s.memUse 4 0x30 size
    let s : State := { s with ps := { s.ps with chain := s.ps.chain ++ pre ++ [bytes], run1 := none } }
    (true, s.when first (fun s => s.raise EV_COMP_OVERFLOW 0 0))
  else
    let first := s.ps.run1.isNone
    let s : State := { s with ps := { s.ps with run1 := some (growRun (if ovf then 1 else 2) time c s.ps.run1), reset := true } }
    (false, (s.inc F.PS.REC_DROPPED).when first (fun s => s.raise EV_POINT_DROP 1 0))

/-- R232: the ring refills from the chain in order. -/
def State.chainRefill (s : State) : State :=
  match s.ps.chain with
  | u :: l =>
    if s.domOn 74 && decide (s.streamLevel 1 + u.length + 64 ≤ 262144) then
      (({ s with ps := { s.ps with chain := l } } : State).memUse 4 0x30 u.length).txPut 1 u
    else s
  | [] => s

/-- R232: a unit of stream 2. -/
def State.ambPlace (s : State) (bytes : List Byte) (time : BitVec 64) (c : Nat) : State :=
  if s.streamLevel 2 + bytes.length + 64 ≤ 32768 then
    let s := match s.ps.run2 with
      | some d => s.txPut 2 (dropRecord d)
      | none => s
    ({ s with ps := { s.ps with run2 := none } } : State).txPut 2 bytes
  else
    let first := s.ps.run2.isNone
    let s : State := { s with ps := { s.ps with run2 := some (growRun 2 time c s.ps.run2) } }
    (s.inc F.PS.AMB_DROPPED).when first (fun s => s.raise EV_POINT_DROP 2 0)

/-! ### The compressor (R235 to R239) -/

/-- Context `n`. -/
def State.ctx (s : State) (n : Nat) : Ctx := spGet (fun _ => Ctx.init) s.ps.ctxs n

/-- Replace context `n`. -/
def State.setCtx (s : State) (n : Nat) (x : Ctx) : State :=
  { s with ps := { s.ps with ctxs := spSet (fun _ => Ctx.init) s.ps.ctxs n x } }

/-- The level in force. -/
def State.level (s : State) : Nat := s.get F.PS.COMP_CTRL_LEVEL

/-- The context bound to stream 1. -/
def State.bound (s : State) : Nat := s.get F.PS.COMP_CTRL_CONTEXT

/-- Whether context `n` is bound and compressing. -/
def State.compressing (s : State) (n : Nat) : Bool := s.level != 0 && s.bound == n && s.pw.st == .scanning

/-- Table 10-15: the image of context `n`. -/
def State.contextImage (s : State) (n mark : Nat) : List Byte :=
  let x := s.ctx n
  let head := beBytes 4 0x43585431 ++ beBytes 1 n ++ beBytes 1 s.level ++ zeros 2 ++ beBytes 4 x.hist.length ++ beBytes 4 mark ++
    beBytes 8 x.total ++ zeros 36
  let hist := zeros (32768 - x.hist.length) ++ x.hist
  head ++ beBytes 4 (crc32c (head ++ hist)) ++ hist

/-- R238: the capture of context `n`: the next checkpoint number, and CHECKPOINT on the segment that follows. -/
def State.capture (s : State) (n : Nat) : State :=
  let s := s.set F.PS.CTX_MARK (s.get F.PS.CTX_MARK + 1)
  let mark := s.get F.PS.CTX_MARK
  let s : State := { s with ps := { s.ps with saved := some (n, s.contextImage n mark) } }
  s.setCtx n { s.ctx n with mark := mark, flags := 1 }

/-- R239: an image replaces context `n`. -/
def State.replaceCtx (s : State) (n : Nat) (img : List Byte) : State :=
  let len := u32 img 8
  let s := s.setCtx n { s.ctx n with
    hist := (img.drop 64).drop (32768 - len), total := u64 img 16, mark := u32 img 12, flags := 2 }
  let s := s.setBitAt F.PS.CTX_STAT_VALID n true
  if s.bound = n then { s with ps := { s.ps with reset := false } } else s

/-- What waits for a segment boundary of context `n` (R238, R239). -/
def State.segmentBoundary (s : State) (n : Nat) : State :=
  let s := match s.ps.restore with
    | some (m, img) => if m = n then { s with ps := { s.ps with restore := none } }.replaceCtx n img else s
    | none => s
  match s.ps.save with
  | some (m, _) => if m = n ∧ s.ps.saved.isNone ∧ s.bitAt F.PS.CTX_STAT_VALID n then s.capture n else s
  | none => s

/-- Add to a counter in units of 1 KiB; what stays below it is kept. -/
def kib (rem n : Nat) : Nat × Nat := ((rem + n) / 1024, (rem + n) % 1024)

/-- R236: a record becomes a compressed segment of context `n`. -/
def State.segment (s : State) (n : Nat) (record : List Byte) (time : BitVec 64) (frameReset : Bool) : List Byte × State :=
  let s := s.segmentBoundary n
  let x := s.ctx n
  let valid := s.bitAt F.PS.CTX_STAT_VALID n
  let reset := x.flags != 2 && (s.ps.reset || frameReset || !valid)
  let hist := if reset then [] else x.hist
  let d := segmentData (Config.deflate s.free) hist record
  let pad := pad4 d.1.length - d.1.length
  let flags := bit reset + 2 * bit (x.flags == 1) + 4 * bit (x.flags == 2)
  let seg := withCrc (beBytes 1 0x50 ++ beBytes 1 flags ++ beBytes 1 n ++ beBytes 1 s.level ++ beBytes 4 (36 + d.1.length + pad) ++
    beBytes 4 record.length ++ beBytes 4 x.seg ++ beBytes 4 (if x.flags = 0 then 0 else x.mark) ++ record.take 1 ++ beBytes 1 pad ++ zeros 2 ++
    beBytes 8 time.toNat ++ d.1 ++ zeros pad)
  let all := hist ++ record
  let s := s.setCtx n ⟨all.drop (all.length - 32768), (x.seg + 1) % 2 ^ 32, (if reset then 0 else x.total) + record.length, 0, 0⟩
  let s := s.setBitAt F.PS.CTX_STAT_VALID n true
  let raw := kib s.ps.rawRem record.length
  let out := kib s.ps.outRem seg.length
  let s : State := { s with free := s.free + 1, ps := { s.ps with reset := false, rawRem := raw.2, outRem := out.2 } }
  let s := ((s.add F.PS.RAW_IN raw.1).add F.PS.COMP_OUT out.1).when reset (fun s => s.inc F.PS.RESETS)
  (seg, ((s.add F.PS.BLK_STORED d.2.1).add F.PS.BLK_FIXED d.2.2.1).add F.PS.BLK_DYN d.2.2.2)

/-- A record of stream 1 leaves, compressed or not; whether it was delivered. -/
def State.putRecord (s : State) (record : List Byte) (time : BitVec 64) (c : Nat) (frameReset : Bool) : Bool × State :=
  if s.level = 0 then s.ringPlace record time c
  else
    let r := s.segment s.bound record time frameReset
    r.2.ringPlace r.1 time c

/-- Table 10-13: the guaranteed rate of a level, in MB/s. -/
def levelRate (l : Nat) : Nat := [0, 2000, 2000, 1600, 1400, 1000, 700, 400, 200].getD l 0

/-- R234: the worst-case rate of stream 1 for a profile and format, in B/s. -/
def worstRate (p format : Nat) : Nat :=
  profRate p * profCols p * (if format = 1 then 8260 + 16 * 4096 else 324 + 8 * 4096) + profRate p * 128

/-- R237: a level that does not carry a profile and format. -/
def levelShort (level p format : Nat) : Bool := level != 0 && decide (levelRate level * 10 ^ 6 < worstRate p format)

/-- The level that will be bound at the next frame start. -/
def State.boundLevel (s : State) : Nat := match s.ps.compPend with
  | some (l, _) => l
  | none => s.level

/-- R237: a COMP_CONFIG takes effect. -/
def State.bindComp (s : State) : State :=
  match s.ps.compPend with
  | some (l, n) =>
    ({ s with ps := { s.ps with compPend := none } } : State).set F.PS.COMP_CTRL_LEVEL l |>.set F.PS.COMP_CTRL_CONTEXT n
  | none => s

/-- The profile that runs, or the one selected (R6). -/
def State.profileNow (s : State) : Nat := if s.pw.st = .scanning then s.scan.profile else s.scan.named

/-- COMP_CONFIG (R237). -/
def cmdCompConfig (s : State) (p : List Byte) : Reply :=
  let l := u8 p 0
  s.guarded [s.needDom 74, badParam (decide (8 < l ∨ 7 < u8 p 1) || notZero p 2 2) 0,
      (!s.rangeBusy 0x0A00 && levelShort l s.profileNow (if s.pw.st = .scanning then s.ps.format else s.get F.PS.PS_CTRL_FORMAT), 0x21, 4)]
    (let t : State := { s with ps := { s.ps with compPend := some (l, u8 p 1) } }
     (if s.pw.st = .scanning then t else t.bindComp).done [])

/-- COMP_CONTEXT_SAVE (R238). -/
def cmdContextSave (s : State) (p : List Byte) : Reply :=
  let n := u8 p 0
  let a := u64 p 4
  s.guarded [s.needDom 74, s.needDom 79, s.badState (decide (n < 8) && !s.bitAt F.PS.CTX_STAT_VALID n),
      badParam (decide (7 < n) || notZero p 1 3) 0, badParam (decide (a % 64 ≠ 0 ∨ s.dramSize < a + 32832)) 1]
    (let t : State := { s with ps := { s.ps with save := some (n, a), saved := none } }
     s.accept 0x0A01 (if s.compressing n then t else t.capture n))

/-- R238: the image is written, and the save completes. -/
def State.contextSaveComplete (s : State) : State :=
  match s.ps.save, s.ps.saved with
  | some (_, a), some (_, img) =>
    if s.isRunning 0x0A01 then
      let s := (s.memUse 4 0x31 img.length).dramWrite a img
      ({ s with ps := { s.ps with save := none, saved := none } } : State).complete 0x0A01 0 0 []
    else s
  | _, _ => s

/-- COMP_CONTEXT_RESTORE (R239); the tag is the context, the address waits in `save`'s place. -/
def cmdContextRestore (s : State) (p : List Byte) : Reply :=
  let n := u8 p 0
  let a := u64 p 4
  s.guarded [s.needDom 74, s.needDom 79, badParam (decide (7 < n) || notZero p 1 3) 0,
      badParam (decide (a % 64 ≠ 0 ∨ s.dramSize < a + 32832)) 1]
    (s.accept 0x0A02 { s with ps := { s.ps with save := some (n, a), saved := none } })

/-- R239: whether an image passes its check. -/
def imageOk (img : List Byte) : Bool :=
  u32 img 0 == 0x43585431 && decide (1 ≤ u32 img 8 ∧ u32 img 8 ≤ 32768) && u32 img 60 == crc32c (img.take 60 ++ img.drop 64)

/-- R239: the image is read and checked, and the restore completes. -/
def State.contextRestoreComplete (s : State) : State :=
  match s.ps.save with
  | some (n, a) =>
    if s.isRunning 0x0A02 then
      let s := s.memUse 4 0x31 32832
      let img := s.dramRead a 32832
      let s : State := { s with ps := { s.ps with save := none } }
      if imageOk img then
        (if s.compressing n then { s with ps := { s.ps with restore := some (n, img) } } else s.replaceCtx n img).complete 0x0A02 0 0 []
      else s.complete 0x0A02 0x12 1 []
    else s
  | none => s

/-! ### The decompressor (R240 to R242) -/

/-- Whether a range lies within the installed LPDDR5. -/
def State.dramHas (s : State) (a n : Nat) : Bool := decide (a + n ≤ s.dramSize)

/-- DECOMPRESS (R240). -/
def cmdDecompress (s : State) (p : List Byte) : Reply :=
  let src := u64 p 0
  let len := u32 p 8
  let dst := u64 p 12
  let lim := u32 p 20
  s.guarded [s.needDom 79, badParam (!s.dramHas src 0 || (len != 0 && !s.dramHas src len)) 0, badParam (decide (len = 0)) 2,
      badParam (!s.dramHas dst 0 || (lim != 0 && !s.dramHas dst lim) || decide (src < dst + lim ∧ dst < src + len)) 3, badParam (decide (lim = 0)) 5]
    (s.accept 0x0A03 { s with ps := { s.ps with decomp := some ⟨src, len, dst, lim⟩ } })

/-- Table 10-17: the result group of a decompression, and EV_DECOMP_ERROR. -/
def State.decompResult (s : State) (r : Inflated) : State :=
  let s := ((s.setFlag F.PS.CLIPPED r.clipped).set F.PS.DETAIL r.detail).set F.PS.CODE r.code
  let s := (((s.set F.PS.OUT_LEN r.len).set F.PS.IN_POS r.inPos).set F.PS.BLOCKS r.blocks).publish F.PS.DECOMP_RES_ST
  if r.code = 0 then s else (s.inc F.PS.DECOMP_ERRORS).raise EV_DECOMP_ERROR 0 r.code

/-- R241: the decompression ends. -/
def State.decompressComplete (s : State) : State :=
  match s.ps.decomp with
  | some d =>
    if s.isRunning 0x0A03 then
      let r := inflate (s.dramRead d.src d.srcLen) d.limit (s.get F.PS.DECOMP_CFG_GUARD % 3) (s.flag F.PS.DECOMP_CFG_TRAILING)
      let s := ((s.memUse 4 0x32 d.srcLen).memUse 4 0x32 r.bytes.length).dramWrite d.dst r.bytes
      let s : State := { s with ps := { s.ps with decomp := none } }
      (s.decompResult r).complete 0x0A03 r.code r.detail (beBytes 4 r.len)
    else s
  | none => s

/-! ### Frames and columns (R223, R224, R229, R230) -/

/-- PS_CTRL.EN. -/
def State.psEn (s : State) : Bool := s.domOn 74 && s.flag F.PS.PS_CTRL_EN

/-- R236: the first segment of a frame resets its history. -/
def State.frameReset (s : State) (f : FrameInfo) : Bool :=
  let n := s.get F.PS.COMP_CFG_RESET_FRAMES
  n != 0 && f.frame != 0 && f.frame % n == 0

/-- R229: the frame start record of the oldest frame is placed. -/
def State.placeStart (s : State) : State :=
  match s.ps.frames with
  | f :: l =>
    if f.placed then s
    else
      let s := s.bindComp
      let s : State := { s with ps := { s.ps with frames := { f with placed := true } :: l } }
      if s.psEn then (s.putRecord (frameStartRecord f) f.time f.c0 (s.frameReset f)).2 else s
  | [] => s

/-- R229, R243: the first column boundary of a frame: FORMAT and AMB_DEC take effect, and the start record is formed. -/
def State.openFrame (s : State) (c : Nat) (restarted : Bool) : State :=
  let s : State := { s with ps := { s.ps with
    format := s.get F.PS.PS_CTRL_FORMAT } }
  let frame := c / s.nCol
  let f : FrameInfo := ⟨frame, decide (frame % 2 = 1), s.nCol, s.time.dev, c, restarted, false, 0, 0, none, false, s.scan.profile, s.kBin,
    s.ps.format, s.scale, none, s.get F.PS.PS_CTRL_AMB_DEC⟩
  let first := s.ps.frames.isEmpty
  let s : State := { s with ps := { s.ps with frames := s.ps.frames ++ [f] } }
  s.when first State.placeStart

/-- Change the newest frame. -/
def onLastFrame (f : FrameInfo → FrameInfo) : List FrameInfo → List FrameInfo
  | [] => []
  | [x] => [f x]
  | x :: l => x :: onLastFrame f l

/-- R229: the frame under way is closed at this boundary; `last` its last column, `early` before its end. -/
def State.closeFrame (s : State) (last : Nat) (early : Bool) : State :=
  { s with ps := { s.ps with
      frames := onLastFrame (fun f => if f.ends.isNone then { f with ends := some s.time.dev, early := early, lastCol := some last } else f) s.ps.frames,
      cols := s.ps.cols.map (fun k => if k.c = last then { k with last := true } else k) } }

/-- A column begins: what its record will need is noted, and what the three users have done with is dropped. -/
def State.openColumn (s : State) (c : Nat) : State :=
  let frame := c / s.nCol
  let keep := fun (k : ColInfo) => !(k.judged && k.fused && k.built) && (!k.built || decide (c < k.c + 8))
  { s with ps := { s.ps with cols := s.ps.cols.filter keep ++
      [⟨c, s.time.dev, frame, decide (frame % 2 = 1), [], [], none, false, [], 0, false, false, false, false, false⟩] } }

/-- Change what is noted of column `c`. -/
def State.onCol (s : State) (c : Nat) (f : ColInfo → ColInfo) : State :=
  { s with ps := { s.ps with cols := s.ps.cols.map (fun k => if k.c = c then f k else k) } }

/-- The swap of bank `b` that closes column `c`: STARTED of the bank (R171). -/
def State.noteStarted (s : State) (b c : Nat) : State :=
  s.onCol c (fun k => { k with started := (List.range 8).map (fun i =>
    if i = b then (s.rxBank b).shotsRdg.sum else k.started.getD i 0) })

/-- Parts still wanted of a column: regions neither present, nor fenced, nor given up. -/
def State.partsMissing (s : State) (k : ColInfo) : List Nat :=
  (List.range 4).filter (fun g => !(k.parts.any (fun e => e.1 == g) || s.fenced g || k.late / 2 ^ g % 2 == 1))

/-- R230: the value of a row's pixel. -/
def ambPixel (v : Nat × Nat × Bool × Bool) : Nat :=
  if v.2.2.1 then 0xFFFD else if v.2.2.2 then 0xFFFE else if v.2.1 = 0 then 0xFFFF else min 65532 ((2 * v.1 + v.2.1) / (2 * v.2.1))

/-- R230: a column joins the ambient line, which leaves with the last column of its group; lines count from a frame's first column. -/
def State.ambColumn (s : State) (f : FrameInfo) (k : ColInfo) : State :=
  let col := k.c % f.cols
  let s : State := if col = 0 then { s with ps := { s.ps with amb := none, acol := 0 } } else s
  if s.flag F.PS.PS_CTRL_AMB_EN then
    let a := s.ps.amb.getD ⟨col, 0, k.time, []⟩
    let rows := (List.range 1024).foldl (fun l r =>
      let o := k.row r
      if o.absent then l
      else
        let v := spGet (fun _ => (0, 0, false, false)) l r
        spSet (fun _ => (0, 0, false, false)) l r (v.1 + o.amb, v.2.1 + 1, v.2.2.1 || o.biasOff, v.2.2.2 || o.ambSat)) a.rows
    let a := { a with n := a.n + 1, rows := rows }
    if a.n = 2 ^ f.ambDec ∨ col + 1 = f.cols ∨ k.last then
      let line := withCrc (beBytes 1 0x30 ++ beBytes 1 (bit k.dir) ++ beBytes 2 s.ps.acol ++ beBytes 4 2084 ++ beBytes 8 a.time.toNat ++
        beBytes 4 k.frame ++ beBytes 2 a.first ++ beBytes 1 a.n ++ zeros 9 ++
        (List.range 1024).flatMap (fun r => beBytes 2 (ambPixel (spGet (fun _ => (0, 0, false, false)) a.rows r))))
      let s : State := { s with ps := { s.ps with amb := none, acol := s.ps.acol + 1 } }
      s.ambPlace line a.time (k.c + 1 - a.n)
    else { s with ps := { s.ps with amb := some a } }
  else { s with ps := { s.ps with amb := none } }

/-- R224: the record of the oldest column whose parts are all present. -/
def State.recordBuild (s : State) : State :=
  match s.ps.frames, s.ps.cols.find? (fun k => !k.built) with
  | f :: l, some k =>
    if s.domOn 74 && f.placed && decide (f.c0 ≤ k.c ∧ k.c < f.c0 + f.cols) && (s.partsMissing k).isEmpty then
      let s := s.onCol k.c (fun k => { k with built := true })
      let s := s.ambColumn f k
      if s.psEn then
        let r := s.columnRecord f k
        let s : State := { s with ps := { s.ps with
          frames := { f with sent := f.sent + 1, incomplete := f.incomplete + bit k.incomplete } :: l } }
        let s := (((s.set F.PS.CINDEX k.c).set F.PS.RETURNS r.2.1).set F.PS.ROWS_VALID r.2.2).publish F.PS.PS_RES_ST
        let d := s.putRecord r.1 k.time k.c false
        d.2.when d.1 (fun s => s.inc F.PS.COL_DELIVERED)
      else s
    else s
  | _, _ => s

/-- R224: at the swap of bank 0's rows for column c + 2 the parts of column c that are missing are given up. -/
def State.partLate (s : State) : State :=
  match s.ps.cols.find? (fun k => !k.built) with
  | some k =>
    let miss := s.partsMissing k
    if s.domOn 74 && decide (k.c + 2 ≤ (s.rxBank 0).accCol) && !miss.isEmpty then
      let s := s.onCol k.c (fun k => { k with late := miss.foldl (fun m g => m + 2 ^ g) k.late })
      s.each miss (fun s g => (s.inc F.PS.REGION_LATE).raise EV_POINT_REGION_LATE g (k.c % 65536))
    else s
  | none => s

/-- R229: the frame end record of the oldest frame, and the start record that waits behind it. -/
def State.frameEnd (s : State) : State :=
  match s.ps.frames with
  | f :: l =>
    if s.domOn 74 && f.placed && f.ends.isSome && s.ps.cols.all (fun k => k.built || !decide (f.c0 ≤ k.c ∧ k.c < f.c0 + f.cols)) then
      let s : State := { s with ps := { s.ps with frames := l } }
      let s := if s.psEn then (s.putRecord (s.frameEndRecord f) (f.ends.getD 0) ((f.lastCol.getD f.c0) + 1) false).2 else s
      s.placeStart
    else s
  | [] => s

/-! ### Register writes (R233, R237, R243) -/

/-- R237: a PS_CTRL write that breaks the rate test is discarded. -/
def State.wrPsCtrl (s : State) (v : Word) : State :=
  let fmt := bitsOf v.toNat 2 1
  if fmt ≠ s.get F.PS.PS_CTRL_FORMAT ∧ levelShort s.boundLevel s.profileNow fmt then s.set F.PS.PS_STAT_CFG_ERR 1
  else s.hostWrite F.PS.PS_CTRL_EN.addr v

/-- R233: an invalid overflow buffer among the first COUNT. -/
def State.chainBad (s : State) : Bool :=
  (List.range (s.get F.PS.OVF_CFG_COUNT)).any (fun i =>
    let a := s.get (F.PS.OVF_ADDR_HI i) * 2 ^ 32 + s.get (F.PS.OVF_ADDR_LO i)
    let n := s.get (F.PS.OVF_LEN i)
    decide (a % 64 ≠ 0 ∨ n % 65536 ≠ 0) || !s.dramHas a n)

/-- R233: a write to an overflow register. -/
def State.wrOvf (s : State) (a : Nat) (v : Word) : State :=
  let t := s.hostWrite a v
  if !s.ps.chain.isEmpty || t.chainBad then s.set F.PS.PS_STAT_CFG_ERR 1 else t

/-- A write inside the point stream's block. -/
def State.wrPoints (s : State) (a : Nat) (v : Word) : State :=
  if a = F.PS.PS_CTRL_EN.addr then s.wrPsCtrl v
  else if 0x2000040 ≤ a ∧ a < 0x2000180 then s.wrOvf a v
  else s.hostWrite a v

end Sys2Proof.Machine
end

