-- ==== Sys2Proof/Machine/CamRing.lean ====
section
/-! DEFINITION. What the parts of chapter 11 share: the camera block, the records of streams 3 and 4 and their rings, the banks of a context. -/

namespace Sys2Proof.Machine

/-! ### Camera block (Table 11-2) -/

/-- Camera `n`. -/
def State.cam (s : State) (n : Nat) : CamSt := spGet (fun _ => CamSt.init) s.vis.cams n

/-- Replace camera `n`. -/
def State.setCam (s : State) (n : Nat) (x : CamSt) : State :=
  { s with vis := { s.vis with cams := spSet (fun _ => CamSt.init) s.vis.cams n x } }

/-- Context `n` of the pipeline. -/
def State.pctx (s : State) (n : Nat) : CtxSt := spGet (fun _ => CtxSt.init) s.vis.ctxs n

/-- Replace context `n` of the pipeline. -/
def State.setPctx (s : State) (n : Nat) (x : CtxSt) : State :=
  { s with vis := { s.vis with ctxs := spSet (fun _ => CtxSt.init) s.vis.ctxs n x } }

/-- The camera block as last accepted. -/
def State.camBlock (s : State) (n : Nat) : List Byte := (List.range 16).flatMap (fun i => beBytes 4 (s.get (F.CAM.CAM_BLOCK n i)))

/-- WIDTH of camera `n`. -/
def State.camW (s : State) (n : Nat) : Nat := u16 (s.camBlock n) 8

/-- HEIGHT of camera `n`. -/
def State.camH (s : State) (n : Nat) : Nat := u16 (s.camBlock n) 10

/-- FPS_MAX of camera `n`. -/
def State.camFps (s : State) (n : Nat) : Nat := u16 (s.camBlock n) 12

/-- Camera `n` runs. -/
def State.camRuns (s : State) (n : Nat) : Bool := s.flag (F.CAM.CSI_STAT_RUN n)

/-- The line period of camera `n`: configured, or measured last (R247, Table 11-2). -/
def State.linePeriod (s : State) (n : Nat) : Nat :=
  let p := u32 (s.camBlock n) 32
  if p = 0 then (s.cam n).period else p

/-- Bits per pixel of a data type of Table 11-1. -/
def dtBits (dt : Nat) : Nat := if dt = 0x2B then 10 else if dt = 0x2C then 12 else 14

/-- RAW_STRIDE. -/
def rawStride (w h : Nat) : Nat := (64 + w * h * 2 + 4095) / 4096 * 4096

/-- The exposure window of a frame of camera `n` (R268), in ns of device time. -/
def State.exposure (s : State) (n : Nat) (fs : Nat) : Int × Int :=
  let b := s.camBlock n
  let a : Int := fs + intAt b 24 4
  (a, a + ((s.camH n - 1) * s.linePeriod n : Nat) + u32 b 28)

/-! ### Banks and branches (Table 11-8) -/

/-- The data of a stage in a bank. -/
def stageOf (bank : List (Nat × List Byte)) (k : Nat) : List Byte := spGet (fun _ => []) bank k

/-- A branch of stage 0x0E to 0x10. -/
structure Branch where
  w : Nat
  h : Nat
  cx : Nat
  cy : Nat
  cw : Nat
  ch : Nat
  flags : Nat
  deriving DecidableEq, Repr

/-- The branch at stage `k`; a branch that nothing has set is off. -/
def branch (bank : List (Nat × List Byte)) (k : Nat) : Branch :=
  let d := stageOf bank k
  ⟨u16 d 0, u16 d 2, u16 d 4, u16 d 6, u16 d 8, u16 d 10, u8 d 12⟩

/-- EN of a branch. -/
def Branch.en (b : Branch) : Bool := b.flags % 2 == 1

/-- H_FLIP of the display branch. -/
def Branch.flip (b : Branch) : Bool := b.flags / 2 % 2 == 1

/-! ### Rings of streams 3 and 4 (R265) -/

/-- Table 11-4. -/
def camDropRecord (reason cam : Nat) (whole : Bool) (time : BitVec 64) (frame line count : Nat) : List Byte :=
  withCrc (beBytes 1 0x63 ++ beBytes 1 reason ++ beBytes 1 (cam + 2 * bit whole) ++ zeros 1 ++ beBytes 4 32 ++ beBytes 8 time.toNat ++
    beBytes 4 frame ++ beBytes 2 line ++ zeros 2 ++ beBytes 4 count)

/-- Length of the ring of stream `k`. -/
def State.camRing (s : State) (k : Nat) : Nat := if k = 3 then s.get F.PIPE.S3_LEN else s.get F.PIPE.S4_LEN

/-- The run of drops on stream `k`. -/
def State.camRun (s : State) (k : Nat) : Option CamDrop := spGet (fun _ => none) s.vis.runs k

/-- Replace the run of drops on stream `k`. -/
def State.setCamRun (s : State) (k : Nat) (x : Option CamDrop) : State :=
  { s with vis := { s.vis with runs := spSet (fun _ => none) s.vis.runs k x } }

/-- R265: a record of camera `cam` for the ring of stream `k`; whether it was placed. The drop record of a run goes before it. -/
def State.camPut (s : State) (k cam frame : Nat) (time : BitVec 64) (bytes : List Byte) : Bool × State :=
  let pre := match s.camRun k with
    | some d => [camDropRecord 6 d.cam false d.time d.frame 0 d.count]
    | none => []
  let size := ((pre ++ [bytes]).map List.length).sum
  if s.streamLevel k + size + 64 ≤ s.camRing k then (true, (s.each (pre ++ [bytes]) (fun s u => s.txPut k u)).setCamRun k none)
  else
    let d : CamDrop := match s.camRun k with
      | some d => { d with count := d.count + 1 }
      | none => ⟨cam, frame, time, 1⟩
    (false, (s.setCamRun k (some d)).inc (if k = 3 then F.PIPE.S3_DROPPED else F.PIPE.S4_DROPPED))

/-- R265: as `camPut`, through class 2 (SOURCE 0x22). -/
def State.camPlace (s : State) (k cam frame : Nat) (time : BitVec 64) (bytes : List Byte) : Bool × State :=
  (s.memUse 2 0x22 bytes.length).camPut k cam frame time bytes

/-- Store bytes at an LPDDR5 address that lies within the installed memory; what does not is not stored (R326). -/
def State.dramPut (s : State) (a : Nat) (bs : List Byte) : State := if s.dramHas a bs.length then s.dramWrite a bs else s

/-- Set SHORT in a strip record (Table 11-10), with its CRC. -/
def markShort (u : List Byte) : List Byte :=
  let b := u.take (u.length - 4)
  withCrc (b.take 1 ++ beBytes 1 (u8 b 1 ||| 8) ++ b.drop 2)

/-- Whether a unit is a strip record of a frame. -/
def isStrip (cam frame ctx : Nat) (u : List Byte) : Bool :=
  (u8 u 0 == 0x60 || u8 u 0 == 0x61) && u8 u 1 % 2 == cam && u8 u 3 == ctx && u32 u 16 == frame

/-- Change the last unit that meets `p`; `whole`: the first unit is still whole. -/
def onLastUnit (p : List Byte → Bool) (f : List Byte → List Byte) (us : List (List Byte)) : List (List Byte) :=
  let r := us.reverse
  let n := r.findIdx p
  (r.mapIdx (fun i u => if i = n then f u else u)).reverse

/-- R249: SHORT on the last strip record of a frame in the ring of stream `k`; one already on its way out stays as it is. -/
def State.shortStrip (s : State) (k cam frame ctx : Nat) : State :=
  let t := s.stream k
  let n := if t.off = 0 then 0 else 1
  s.setStream k { t with units := t.units.take n ++ onLastUnit (isStrip cam frame ctx) markShort (t.units.drop n) }

end Sys2Proof.Machine
end

