-- ==== Sys2Proof/Machine/Fusion.lean ====
section
/-! DEFINITION. Fusion (R266 to R270, R231): projection of returns, depth maps, warning zones, the overlay, and the FUS_CTRL and calibration writes. -/

namespace Sys2Proof.Machine

/-! ### Projection -/

/-- A binary32 register word. -/
def State.getF (s : State) (f : Fld) : F32 := F32.ofBits (s.get f)

/-- FUS_CTRL.EN and CAL_VALID of camera `n`. -/
def State.fuses (s : State) (n : Nat) : Bool := s.bitAt F.FUS.FUS_CTRL_EN n && s.bitAt F.FUS.FUS_STAT_CAL_VALID n

/-- CELL of camera `n`. -/
def State.cellLog (s : State) (n : Nat) : Nat := if n = 0 then s.get F.FUS.FUS_CTRL_CELL0 else s.get F.FUS.FUS_CTRL_CELL1

/-- A rational from fixed point in 2^-96. -/
def fix96 (x : Int) : Rat := mkRat x (2 ^ 96)

/-- R266: the point of a return in the sensor frame, each coordinate rounded to binary32. -/
def State.point (s : State) (row angle range : Nat) : F32 × F32 × F32 :=
  let da := signed 16 ((angle + 65536 - s.get F.STEER.ANG_ZERO) % 65536)
  let el := s.getI (F.FUS.EL row)
  let ct := fix96 (cosTurn el (2 ^ 24))
  let rho := mkRat range 4
  (round32 (rho * ct * fix96 (cosTurn da 65536)), round32 (rho * ct * fix96 (sinTurn da 65536)), round32 (rho * fix96 (sinTurn el (2 ^ 24))))

/-- One row of R × p + T. -/
def affine (a b c t x y z : F32) : F32 := (((a.mul x).add (b.mul y)).add (c.mul z)).add t

/-- R267: the cell and DEPTH of a point in camera `n`, where it falls in the image. -/
def State.project (s : State) (n : Nat) (p : F32 × F32 × F32) : Option (Nat × Nat × Nat) :=
  let g := fun (f : Nat → Fld) => s.getF (f n)
  let X := affine (g F.FUS.R00) (g F.FUS.R01) (g F.FUS.R02) (g F.FUS.T0) p.1 p.2.1 p.2.2
  let Y := affine (g F.FUS.R10) (g F.FUS.R11) (g F.FUS.R12) (g F.FUS.T1) p.1 p.2.1 p.2.2
  let Z := affine (g F.FUS.R20) (g F.FUS.R21) (g F.FUS.R22) (g F.FUS.T2) p.1 p.2.1 p.2.2
  if !Z.ge 100 then none
  else
    let x := X.div Z
    let y := Y.div Z
    let q := (x.mul x).add (y.mul y)
    let k1 := (g F.FUS.K1).mul q
    let k2 := ((g F.FUS.K2).mul q).mul q
    let k3 := (((g F.FUS.K3).mul q).mul q).mul q
    let d := (((F32.fin 1).add k1).add k2).add k3
    let p1 := g F.FUS.P1
    let p2 := g F.FUS.P2
    let two := F32.fin 2
    let u := ((g F.FUS.FX).mul (((x.mul d).add (((two.mul p1).mul x).mul y)).add (p2.mul (q.add ((two.mul x).mul x))))).add (g F.FUS.CX)
    let v := ((g F.FUS.FY).mul (((y.mul d).add (p1.mul (q.add ((two.mul y).mul y)))).add (((two.mul p2).mul x).mul y))).add (g F.FUS.CY)
    if u.ge 0 && u.lt (s.camW n) && v.ge 0 && v.lt (s.camH n) then
      let depth := match Z with
        | .fin z => min 0xFFFFE (z + mkRat 1 2).floor.toNat
        | _ => 0xFFFFE
      match u.rat, v.rat with
      | some a, some b => some (a.floor.toNat / 2 ^ s.cellLog n, b.floor.toNat / 2 ^ s.cellLog n, depth)
      | _, _ => none
    else none

/-- A signed half of a zone word, in mm. -/
def halfMm (x : Nat) (high : Bool) : Rat := ((10 * signed 16 (if high then x / 65536 else x % 65536) : Int) : Rat)

/-- R269: whether a point lies in the box of zone `z`. -/
def State.inBox (s : State) (z : Nat) (p : F32 × F32 × F32) : Bool :=
  let within := fun (x : F32) (w : Nat) => match x with
    | .fin q => decide (halfMm w false ≤ q ∧ q ≤ halfMm w true)
    | _ => false
  within p.1 (s.get (F.FUS.X z)) && within p.2.1 (s.get (F.FUS.Y z)) && within p.2.2 (s.get (F.FUS.Z z))

/-! ### Depth maps -/

/-- An empty cell. -/
def DCell.empty : DCell := ⟨0xFFFFF, 0, 0, false, 0, 0⟩

/-- R267: a return falls in a cell. -/
def DCell.take (x : DCell) (depth conf flags boxes : Nat) (strong : Bool) : DCell :=
  let better := x.count == 0 || (strong && !x.strong) || (strong == x.strong && decide (depth < x.depth))
  if better then ⟨depth, conf, flags, strong, boxes, x.count + 1⟩ else { x with count := x.count + 1 }

/-- Zone `z` counts for camera `n`. -/
def State.zoneOn (s : State) (n z : Nat) : Bool := s.flag (F.FUS.ZONE_CFG_EN z) && s.bitAt (F.FUS.ZONE_CFG_CAMS z) n

/-- R266, R267, R269: a return of a row enters a map. -/
def State.mapReturn (s : State) (m : DMap) (row angle : Nat) (x : Ret) : DMap :=
  let p := s.point row angle x.range
  match s.project m.cam p with
  | none => m
  | some (cx, cy, depth) =>
    let boxes := (List.range 8).foldl (fun b z => b + bit (s.zoneOn m.cam z && s.inBox z p) * 2 ^ z) 0
    let flags := 8 * bit x.precip + 4 * bit x.multi + 2 * bit x.window + bit x.low
    let strong := decide (s.get F.FUS.FUS_CTRL_DM_CONF ≤ x.conf)
    let k := cy * m.w + cx
    let cells := spSet (fun _ => DCell.empty) m.cells k ((spGet (fun _ => DCell.empty) m.cells k).take depth x.conf flags boxes strong)
    let zones := (List.range 8).foldl (fun l z =>
      if boxes / 2 ^ z % 2 = 1 ∧ s.get (F.FUS.ZONE_CFG_CONF z) ≤ x.conf ∧ !(x.precip && s.flag (F.FUS.ZONE_CFG_PRECIP_IGN z)) then
        spSet (fun _ => 0) l z (spGet (fun _ => 0) l z + 1)
      else l) m.zones
    { m with cells := cells, zones := zones }

/-- Whether a column's centre, TIME + C / 2, lies after `t` (ns). -/
def State.centreAfter (s : State) (k : ColInfo) (t : Int) : Bool :=
  decide (2 * t * s.colRate < 2 * k.time.toNat * s.colRate + 10 ^ 9)

/-- R268: whether a column enters a map. -/
def State.enters (s : State) (m : DMap) (k : ColInfo) : Bool :=
  !s.centreAfter k m.stop && s.centreAfter k (m.start - 1000 * s.get F.FUS.FUS_WIN_FUSE_PRE)

/-- R266, R268: a column's returns enter a map. -/
def State.mapColumn (s : State) (m : DMap) (k : ColInfo) : DMap :=
  match k.angle with
  | none => m
  | some a =>
    let m := (List.range 1024).foldl (fun m r =>
      let o := k.row r
      if o.code = 0 then (o.rets.filter (fun x => !x.foreign)).foldl (fun m x => s.mapReturn m r a x) m else m) m
    let newer := m.oldest.isNone || decide (m.newest.toNat ≤ k.time.toNat)
    { m with
      oldest := some (match m.oldest with
        | some t => if k.time.toNat < t.toNat then k.time else t
        | none => k.time)
      newest := if newer then k.time else m.newest
      ptFrame := if newer then k.frame else m.ptFrame
      incomplete := m.incomplete || k.incomplete }

/-- R269: the zones of a map whose count has reached MIN become active. -/
def State.zonesRise (s : State) (m : DMap) : State :=
  s.each (List.range 8) (fun s z =>
    let i := 8 * m.cam + z
    if decide (s.get (F.FUS.ZONE_CFG_MIN z) ≤ spGet (fun _ => 0) m.zones z) && s.zoneOn m.cam z && !s.bitAt F.FUS.ZONE_ACT_ACT i then
      (s.setBitAt F.FUS.ZONE_ACT_ACT i true).raise EV_FUSION_WARNING m.cam z
    else s)

/-- R269: at a map's close, each zone's run of maps below MIN. -/
def State.zonesFall (s : State) (m : DMap) : State :=
  s.each (List.range 8) (fun s z =>
    let i := 8 * m.cam + z
    let met := decide (s.get (F.FUS.ZONE_CFG_MIN z) ≤ spGet (fun _ => 0) m.zones z) && s.zoneOn m.cam z
    let n := if met then 0 else spGet (fun _ => 0) s.vis.below i + 1
    let s : State := { s with vis := { s.vis with below := spSet (fun _ => 0) s.vis.below i (min n 15) } }
    s.when (decide (s.get (F.FUS.ZONE_CFG_HOLD z) ≤ n)) (fun s => s.setBitAt F.FUS.ZONE_ACT_ACT i false))

/-- R231: a depth map record. -/
def depthRecord (m : DMap) : List Byte :=
  let cell := fun (x : DCell) => x.depth * 2 ^ 12 + x.conf * 2 ^ 8 + x.flags * 2 ^ 4 + min x.count 15
  withCrc (beBytes 1 0x40 ++ beBytes 1 (m.cam + 2 * bit m.incomplete) ++ beBytes 2 m.w ++ beBytes 4 (52 + 4 * m.w * m.h) ++
    beBytes 8 m.time.toNat ++ beBytes 4 m.frame ++ beBytes 4 m.ptFrame ++ beBytes 2 m.h ++ beBytes 1 m.cell ++ zeros 1 ++
    beBytes 8 (m.oldest.getD 0).toNat ++ beBytes 8 m.newest.toNat ++ zeros 4 ++
    (List.range (m.w * m.h)).flatMap (fun k => beBytes 4 (cell (spGet (fun _ => DCell.empty) m.cells k))))

/-- R270: the colour of a camera pixel. -/
def State.overlayColour (s : State) (m : DMap) (x y : Nat) : Nat :=
  let c := spGet (fun _ => DCell.empty) m.cells (y / 2 ^ m.cell * m.w + x / 2 ^ m.cell)
  if c.count = 0 then 0
  else if (c.boxes &&& (s.get F.FUS.ZONE_ACT_ACT / 2 ^ (8 * m.cam) % 256)) ≠ 0 then s.get F.FUS.ZONE_COL
  else if c.depth < 100 * s.get F.FUS.BAND_LIM_LIM0 then s.get F.FUS.BAND_COL0
  else if c.depth < 100 * s.get F.FUS.BAND_LIM_LIM1 then s.get F.FUS.BAND_COL1
  else if c.depth < 100 * s.get F.FUS.BAND_LIM_LIM2 then s.get F.FUS.BAND_COL2
  else s.get F.FUS.BAND_COL3

/-- R270: the overlay of a camera is drawn at a map's close and handed over. -/
def State.overlay (s : State) (m : DMap) : State :=
  let b := branch (s.pctx m.cam).active 0x0E
  if s.bitAt F.FUS.FUS_CTRL_OVL m.cam && b.en then
    let idx := match spGet (fun _ => none) s.vis.ovls m.cam with
      | some (h : Handed) => 1 - h.idx
      | none => 0
    let a := s.get (F.FUS.OVL_BASE_HI m.cam) * 2 ^ 32 + s.get (F.FUS.OVL_BASE_LO m.cam) + idx * b.w * b.h * 4
    let pix := (List.range (b.w * b.h)).flatMap (fun i =>
      let col := if b.flip then b.w - 1 - i % b.w else i % b.w
      beBytes 4 (s.overlayColour m (b.cx + col * b.cw / b.w) (b.cy + i / b.w * b.ch / b.h)))
    let s := (s.memUse 2 0x22 pix.length).dramPut a pix
    { s with vis := { s.vis with ovls := spSet (fun _ => none) s.vis.ovls m.cam (some ⟨idx, m.frame, m.time, b.w, b.h, a⟩) } }
  else s

/-- R268: a map closes and leaves on stream 3. -/
def State.closeMap (s : State) (m : DMap) (stale : Bool) : State :=
  let s : State := { s with vis := { s.vis with maps := s.vis.maps.filter (fun x => !(x.cam == m.cam && x.frame == m.frame)) } }
  let s := s.when stale (fun s => (s.inc F.FUS.MAPS_STALE).raise EV_FUSION_STALE m.cam 0)
  let s := s.zonesFall m
  let r := s.camPlace 3 m.cam m.frame m.time (depthRecord m)
  (r.2.when r.1 (fun s => s.inc F.FUS.MAPS_SENT)).overlay m

/-- The oldest open map of camera `n`. -/
def State.oldestMap (s : State) (n : Nat) : Option DMap := s.vis.maps.find? (fun m => m.cam == n)

/-- Replace a map. -/
def State.putMap (s : State) (m : DMap) : State :=
  { s with vis := { s.vis with maps := s.vis.maps.map (fun x => if x.cam = m.cam ∧ x.frame = m.frame then m else x) } }

/-- R268: a column meets one open map: it closes the map, or enters it, or does nothing. -/
def State.meet (s : State) (k : ColInfo) (m : DMap) : State :=
  if s.centreAfter k m.stop then s.closeMap m false
  else if s.enters m k then
    let m := s.mapColumn m k
    (s.putMap m).zonesRise m
  else s

/-- The column the fusion unit takes next: the oldest record built that it has not used. -/
def State.nextFusion (s : State) : Option ColInfo := s.ps.cols.find? (fun k => k.built && !k.fused)

/-- The length of the past that a window can reach back to: FUSE_PRE and EXP_OFS at their greatest, in ns. -/
def fusionPast : Nat := 65535000 + 2 ^ 31

/-- R266 to R269: the fusion unit takes a column record. -/
def State.fusionColumn (s : State) : State :=
  match s.nextFusion with
  | none => s
  | some k =>
    let s := s.onCol k.c (fun k => { k with fused := true })
    if s.domOn 75 then
      let n := (s.vis.maps.filter (fun m => s.enters m k)).length
      let s := if n = 0 then s else s.memUse 2 0x23 64
      let s := s.each s.vis.maps (fun s m => s.meet k m)
      { s with vis := { s.vis with past := s.vis.past.filter (fun j => decide (k.time.toNat ≤ j.time.toNat + fusionPast)) ++ [k] } }
    else s

/-- R268: the window of a camera frame opens a map, which takes the columns already seen that lie in it. -/
def State.openMap (s : State) (n frame : Nat) (time : BitVec 64) : State :=
  if s.fuses n && s.pw.st == .scanning then
    let s := match s.vis.maps.filter (fun m => m.cam == n) with
      | m :: _ :: _ => s.closeMap m true
      | _ => s
    let c := s.cellLog n
    let w := s.exposure n time.toNat
    let m : DMap := ⟨n, frame, time, w.1, w.2, c, (s.camW n + 2 ^ c - 1) / 2 ^ c, (s.camH n + 2 ^ c - 1) / 2 ^ c, [], [], none, 0, 0, false⟩
    let m := s.vis.past.foldl (fun m k => if s.enters m k then s.mapColumn m k else m) m
    ({ s with vis := { s.vis with maps := s.vis.maps ++ [m] } } : State).zonesRise m
  else s

/-- R251: the map of a dropped frame is discarded. -/
def State.discardMap (s : State) (n frame : Nat) : State :=
  { s with vis := { s.vis with maps := s.vis.maps.filter (fun m => !(m.cam == n && m.frame == frame)) } }

/-- R268: the next column's centre lies after the window of the oldest map. -/
def State.depthMapClose (s : State) (n : Nat) : State :=
  match s.oldestMap n, s.nextFusion with
  | some m, some k => if s.domOn 75 && s.centreAfter k m.stop then s.closeMap m false else s
  | _, _ => s

/-- R268: 50 ms after the window end. -/
def State.depthMapStale (s : State) (n : Nat) : State :=
  match s.oldestMap n with
  | some m => if s.domOn 75 then s.closeMap m true else s
  | none => s

/-! ### FUS_CTRL and calibration (R267, R272) -/

/-- The nine words of R. -/
def State.rotation (s : State) (n : Nat) : List F32 := (List.range 9).map (fun i => s.getF ⟨(F.FUS.R00 n).addr + 4 * i, 0, 32⟩)

/-- R267: the calibration check. -/
def State.calOk (s : State) (n : Nat) : Bool :=
  let all := (List.range 21).map (fun i => (s.getF ⟨(F.FUS.FX n).addr + 4 * i, 0, 32⟩).rat)
  if all.any Option.isNone then false
  else
    let v := all.map (fun x => x.getD 0)
    let r := fun i j => v.getD (9 + 3 * i + j) 0
    let near := fun i j =>
      let d := r i 0 * r j 0 + r i 1 * r j 1 + r i 2 * r j 2 - (if i = j then 1 else 0)
      decide (-(mkRat 1 1000) ≤ d ∧ d ≤ mkRat 1 1000)
    decide (0 < v.getD 0 0 ∧ 0 < v.getD 1 0 ∧ 0 ≤ v.getD 2 0 ∧ v.getD 2 0 < s.camW n ∧ 0 ≤ v.getD 3 0 ∧ v.getD 3 0 < s.camH n) &&
      (List.range 3).all (fun i => (List.range 3).all (fun j => near i j))

/-- Cells of camera `n`. -/
def State.cellCount (s : State) (n : Nat) : Nat :=
  let e := 2 ^ s.cellLog n
  ((s.camW n + e - 1) / e) * ((s.camH n + e - 1) / e)

/-- R267: a write of FUS_CTRL. -/
def State.wrFusCtrl (s : State) (v : Word) : State :=
  let t := s.hostWrite F.FUS.FUS_CTRL_EN.addr v
  if (List.range 2).any (fun n => s.camRuns n && decide (65536 < t.cellCount n)) then s.set F.FUS.FUS_STAT_CFG_ERR 1
  else
    t.each (List.range 2) (fun u n =>
      u.when (t.bitAt F.FUS.FUS_CTRL_EN n && !s.bitAt F.FUS.FUS_CTRL_EN n) (fun u => u.setBitAt F.FUS.FUS_STAT_CAL_VALID n (u.calOk n)))

/-- A write inside the fusion block (R272). -/
def State.wrFusion (s : State) (a : Nat) (v : Word) : State :=
  if a = F.FUS.FUS_CTRL_EN.addr then s.wrFusCtrl v
  else if (List.range 2).any (fun n => s.bitAt F.FUS.FUS_CTRL_EN n && decide ((F.FUS.FX n).addr ≤ a ∧ a ≤ (F.FUS.T2 n).addr)) then s
  else s.hostWrite a v

end Sys2Proof.Machine
end

