-- ==== Sys2Proof/Machine/Camera.lean ====
section
/-! DEFINITION. Camera inputs and the image pipeline (R244 to R265): CAM_CONFIG and CAM_RUN, frames at the inputs, contexts and their banks, frame and stripe
mode, reprocessing, statistics, strip records. -/

namespace Sys2Proof.Machine

/-! ### CAM_CONFIG and CAM_RUN (R246) -/

/-- WIDTH × HEIGHT × FPS_MAX of the cameras that run, and of camera `m` where it is one of the two. -/
def State.camLoad (s : State) (m : Nat) : Nat :=
  ((List.range 2).map (fun n => if s.camRuns n || n == m then s.camW n * s.camH n * s.camFps n else 0)).sum

/-- PIPE_STAT.LOAD: the load of the running cameras in Mpixel/s. -/
def State.publishLoad (s : State) : State := s.set F.PIPE.PIPE_STAT_LOAD (s.camLoad 2 / 10 ^ 8)

/-- R246, Table 11-2: the first offending payload word of a CAM_CONFIG. -/
def camBlockBad (b : List Byte) (installed : Nat) : List (Bool × Nat) :=
  let w := u16 b 8
  let h := u16 b 10
  [(!([1, 2, 4].contains (u8 b 0)) || decide (3 < u8 b 1) || !([0x2B, 0x2C, 0x2D].contains (u8 b 2)) || decide (1 < u8 b 3), 1),
   (decide (u16 b 4 < 80 ∨ 2500 < u16 b 4 ∨ 3 < u8 b 6 ∨ 4 < u8 b 7), 2),
   (decide (w < 256 ∨ 4096 < w ∨ w % 16 ≠ 0 ∨ h < 128 ∨ 2304 < h ∨ h % 2 ≠ 0 ∨ 8294400 < w * h), 3),
   (decide (u16 b 12 < 100 ∨ 12000 < u16 b 12 ∨ u16 b 14 < 10), 4),
   (decide (u64 b 16 % 4096 ≠ 0) || (u8 b 7 != 0 && decide (installed < u64 b 16 + u8 b 7 * rawStride w h)), 5)] ++
  (List.range 7).map (fun i => (notZero b (36 + 4 * i) 4, 10 + i))

/-- CAM_CONFIG (R246). -/
def cmdCamConfig (s : State) (p : List Byte) : Reply :=
  let n := u8 p 0
  let b := p.drop 4
  s.guarded ([s.needDom 75, s.badState (decide (n < 2) && s.camRuns n), badParam (decide (1 < n) || notZero p 1 3) 0] ++
      (camBlockBad b s.dramSize).map (fun e => badParam e.1 e.2))
    (let s := s.each (List.range 16) (fun s i => s.set (F.CAM.CAM_BLOCK n i) (u32 b (4 * i)))
     ((s.setFlag (F.CAM.CSI_STAT_CONFIGURED n) true).setCam n CamSt.init).done [])

/-- CAM_RUN (R246). -/
def cmdCamRun (s : State) (p : List Byte) : Reply :=
  let n := u8 p 0
  let run := u8 p 1
  let start := decide (n < 2 ∧ run = 1)
  s.guarded [s.needDom 75, (start && !s.flag (F.CAM.CSI_STAT_CONFIGURED n), 0x70, 1),
      (start && s.flag F.PIPE.PIPE_CFG_MODE && decide (u8 (s.camBlock n) 7 < 2), 0x70, 2),
      (start && decide (115000000000 < s.camLoad n), 0x72, n), badParam (decide (1 < n ∨ 1 < run) || notZero p 2 2) 0]
    (let c := s.cam n
     let s :=
       if run = 1 then
         if s.camRuns n && !c.stopping then s
         else (s.set (F.CAM.CSI_STAT_RUN n) 1).setCam n { c with stopping := false, fresh := true, lastFs := none, gaps := [], span := none }
       else if c.opened.isSome then s.setCam n { c with stopping := true }
       else s.set (F.CAM.CSI_STAT_RUN n) 0
     s.publishLoad.done [])

/-- R246: a camera asked to stop does so when its frame has closed. -/
def State.stopCamera (s : State) (n : Nat) : State :=
  if (s.cam n).stopping then ((s.set (F.CAM.CSI_STAT_RUN n) 0).setCam n { s.cam n with stopping := false }).publishLoad else s

/-! ### Frames in hand -/

/-- Two records of the same frame. -/
def Job.same (a b : Job) : Bool := a.cam == b.cam && a.frame == b.frame && a.host == b.host

/-- Replace a frame's record. -/
def State.putJob (s : State) (j : Job) : State :=
  { s with vis := { s.vis with jobs := s.vis.jobs.map (fun x => if x.same j then j else x) } }

/-- The frame of camera `n` with CAM_FRAME `frame`. -/
def State.camJob (s : State) (n frame : Nat) : Option Job := s.vis.jobs.find? (fun j => j.cam == n && j.frame == frame && !j.host)

/-- The frame under way in context `x`. -/
def State.ctxJob (s : State) (x : Nat) : Option Job := s.vis.jobs.find? (fun j => j.ctx == x && j.started)

/-- R252, Table 11-5: context `x` takes the pipeline; a switch into it is counted. -/
def State.takePipe (s : State) (x : Nat) : State :=
  let s := if s.vis.last = some x then s else s.inc (F.CTX.SWITCHES x)
  let s := s.each (List.range 4) (fun s i => s.setFlag (F.CTX.CTX_STAT_BUSY i) (i == x))
  { s with vis := { s.vis with cur := some x, last := some x } }

/-- R254: the pipeline is idle again; in frame mode a suspended frame resumes. -/
def State.freePipe (s : State) : State :=
  let s := s.each (List.range 4) (fun s i => s.setFlag (F.CTX.CTX_STAT_BUSY i) false)
  let s : State := { s with vis := { s.vis with cur := none } }
  if s.flag F.PIPE.PIPE_CFG_MODE then s
  else match s.vis.jobs.find? (fun j => j.started) with
    | some j => s.takePipe j.ctx
    | none => s

/-- A frame leaves the pipeline; its raw buffer is free, and so is the pipeline where it held it. -/
def State.endJob (s : State) (j : Job) : State :=
  let s : State := { s with vis := { s.vis with jobs := s.vis.jobs.filter (fun x => !x.same j) } }
  let s := match j.buf with
    | some b => s.setCam j.cam { s.cam j.cam with bufs := (s.cam j.cam).bufs.filter (fun i => i != b) }
    | none => s
  s.when (j.started && s.vis.cur == some j.ctx) State.freePipe

/-- R252: the staged stages of context `x` apply at the start of a frame. -/
def State.applyBank (s : State) (x frame : Nat) : State :=
  let c := s.pctx x
  if s.flag (F.CTX.CTX_CTRL_HOLD x) || c.staged.isEmpty then s
  else
    let s := s.setPctx x { c with staged := [], active := c.staged.foldl (fun l e => spSet (fun _ => []) l e.1 e.2) c.active }
    (s.set (F.CTX.APPLIED_FRAME x) frame).set (F.CTX.CTX_STAT_PENDING x) 0

/-- Bytes of a display buffer. -/
def Branch.bytes (b : Branch) : Nat := b.w * b.h * 4

/-- The address of display buffer `i` of camera `n`. -/
def State.dispAddr (s : State) (n i : Nat) (b : Branch) : Nat :=
  s.get (F.CTX.DISP_BASE_HI n) * 2 ^ 32 + s.get (F.CTX.DISP_BASE_LO n) + i * b.bytes

/-- The newest complete display buffer of camera `n`. -/
def State.newest (s : State) (n : Nat) : Option Handed := spGet (fun _ => none) s.vis.bufs n

/-- R263: the buffer the next frame of camera `n` is written to: neither being scanned nor the newest; a choice between two is left open. -/
def State.pickBuffer (s : State) (n : Nat) (b : Branch) : Nat × State :=
  let scanned := fun i => s.disps.any (fun d => match d.2.shown with
    | some h => h.addr == s.dispAddr n i b
    | none => false)
  let fresh := (List.range 3).filter (fun i => (s.newest n).map Handed.idx != some i)
  let can := fresh.filter (fun i => !scanned i)
  let can := if can.isEmpty then fresh else can
  let r := s.freeNat
  (can.getD (r.1 % can.length) 0, r.2)

/-! ### Statistics and flicker (R260 to R262) -/

/-- R261: the candidates for a frame. -/
def flkCandidates (h period : Nat) : List Nat := (List.range 80).filter (fun i => decide (10 ^ 144 ≤ (50 * h * period) ^ 16 * 2 ^ i))

/-- R261: f_i in Hz, rounded. -/
def flkFreq (i : Nat) : Nat := ((List.range 1600).find? (fun n => decide (100 ^ 16 * 2 ^ i < (2 * n + 1) ^ 16))).getD 0

/-- R261: the flicker result of a frame; the spectrum is a free value. -/
def State.flicker (s : State) (j : Job) : State :=
  let x := j.ctx
  let d := stageOf j.bank 6
  let c := s.pctx x
  let can := flkCandidates j.h j.period
  if u8 d 8 = 1 && c.prevOk && !can.isEmpty then
    let a := s.freeNat
    let b := a.2.freeNat
    let p := b.2.freeNat
    let i := can.getD (a.1 % can.length) 0
    let depth := b.1 % 65536
    let valid := decide (u16 d 10 ≤ depth)
    let s := ((p.2.set (F.CTX.FLK_FREQ x) (flkFreq i)).set (F.CTX.FLK_DEPTH x) depth).set (F.CTX.FLK_PHASE x) (p.1 % 65536)
    let near := match c.flk with
      | some k => decide (k ≤ i + 1 ∧ i ≤ k + 1)
      | none => false
    let s := (s.setFlag (F.CTX.FLK_VALID x) valid).setPctx x { c with flk := if valid then some i else none }
    s.when (valid && near) (fun s => s.raise EV_CAM_FLICKER x (flkFreq i))
  else (s.set (F.CTX.FLK_VALID x) 0).setPctx x { c with flk := none }

/-- R260: the summary result group of the frame's context; MEAN_G and CLIP are free values. -/
def State.summary (s : State) (j : Job) (short : Bool) : State :=
  let x := j.ctx
  let a := s.freeNat
  let b := a.2.freeNat
  let s := b.2.flicker j
  let s := ((s.set (F.CTX.CAM_FRAME x) j.frame).set (F.CTX.MEAN_G x) (a.1 % 65536)).set (F.CTX.CLIP x) (b.1 % 65536)
  (((s.setFlag (F.CTX.STATS_VALID x) (!short)).setFlag (F.CTX.LONG x) j.long).setFlag (F.CTX.SHORT x) short).publish (F.CTX.STAT_SUM_ST x)

/-- Table 11-9: the statistics record of a frame that has just closed; zones and histogram are free values. -/
def State.statsRecord (s : State) (j : Job) (short : Bool) : List Byte × State :=
  let x := j.ctx
  let g := fun f => s.get (f x)
  let r := s.freeBytes 7168
  let d := stageOf j.bank 6
  (withCrc (beBytes 1 0x62 ++ beBytes 1 (j.cam + 2 * bit short + 4 * bit short + 8 * bit j.long + 16 * g F.CTX.FLK_VALID) ++ beBytes 1 x ++ zeros 1 ++
    beBytes 4 7476 ++ beBytes 8 j.time.toNat ++ beBytes 4 j.frame ++ beBytes 2 j.csi ++ beBytes 2 (u16 d 4 / 32) ++ beBytes 2 (u16 d 6 / 24) ++
    beBytes 2 j.emb.length ++ beBytes 2 (g F.CTX.FLK_FREQ) ++ beBytes 2 (g F.CTX.FLK_DEPTH) ++ beBytes 2 (g F.CTX.FLK_PHASE) ++
    beBytes 2 (g F.CTX.MEAN_G) ++ beBytes 4 (g F.CTX.CLIP) ++ beBytes 4 j.period ++ zeros 4 ++ j.emb ++ zeros (256 - j.emb.length) ++ r.1), r.2)

/-- R262: a STATS_REQUEST of the context takes the frame that closes. -/
def State.statsTake (s : State) (j : Job) (short : Bool) : State :=
  match s.vis.stats with
  | some (x, none) =>
    if x = j.ctx then
      let r := s.statsRecord j short
      { r.2 with vis := { r.2.vis with stats := some (x, some (r.1, j)) } }
    else s
  | _ => s

/-- STATS_REQUEST (R262). -/
def cmdStatsRequest (s : State) (p : List Byte) : Reply :=
  s.guarded [s.needDom 75, badParam (decide (3 < u8 p 0) || notZero p 1 3) 0, (!s.rangeBusy 0x0403 && s.class5Refusing, 0x21, 5)]
    (s.accept 0x0403 { s with vis := { s.vis with stats := some (u8 p 0, none) } } (u8 p 0))

/-- R262: the record is placed or refused, or no frame has closed within 1 s. -/
def State.statsComplete (s : State) (x : Nat) (closed : Bool) : State :=
  if !(s.isRunning 0x0403 && s.runningTag 0x0403 == some x) then s
  else match s.vis.stats with
    | some (_, some (bytes, j)) =>
      let s : State := { s with vis := { s.vis with stats := none } }
      let r := s.memReq 5 0x41 bytes.length
      if !r.1 then ((r.2.inc (F.CTX.STATS_REFUSED x)).raise EV_STATS_REFUSED x 0).complete 0x0403 0x21 5 []
      else
        let q := r.2.camPut 3 j.cam j.frame j.time bytes
        if q.1 then (q.2.inc (F.CTX.STATS_SENT x)).complete 0x0403 0 0 []
        else { q.2 with vis := { q.2.vis with stats := some (x, none) } }
    | _ =>
      if closed then s
      else ({ s with vis := { s.vis with stats := none } } : State).complete 0x0403 0x13 s.stateCode []

/-! ### The close of a processed frame (R249, R260, R263) -/

/-- R263: a complete frame's display buffer is written (free values, X 0) and handed over. -/
def State.handOver (s : State) (j : Job) : State :=
  let b := branch j.bank 0x0E
  if b.en && !j.host then
    let a := s.dispAddr j.cam j.disp b
    let r := s.freeBytes (3 * b.w * b.h)
    let pix := (List.range (b.w * b.h)).flatMap (fun i => 0 :: (r.1.drop (3 * i)).take 3)
    let s := (r.2.memUse 2 0x22 pix.length).dramPut a pix
    { s with vis := { s.vis with bufs := spSet (fun _ => none) s.vis.bufs j.cam (some ⟨j.disp, j.frame, j.time, b.w, b.h, a⟩) } }
  else s

/-- A frame of a context closes. -/
def State.closeJob (s : State) (j : Job) (short : Bool) : State :=
  let s := if short then s else s.handOver j
  let s := ((s.summary j short).inc (F.CTX.FRAMES_DONE j.ctx)).statsTake j short
  let s := s.setPctx j.ctx { s.pctx j.ctx with prevOk := !short }
  let s := if j.host then { s with vis := { s.vis with repro := s.vis.repro.map (fun r => (r.1, r.2.1, true)) } } else s
  s.endJob j

/-- Lines of a stripe (R255). -/
def State.stripeLines (s : State) : Nat := 32 * 2 ^ s.get F.PIPE.PIPE_CFG_STRIPE_LINES

/-- PIPELINE_FRAME_CLOSE: the last output lines of context `x`'s frame are written. -/
def State.frameClose (s : State) (x : Nat) : State :=
  match s.ctxJob x with
  | some j =>
    let whole := j.live || !s.flag F.PIPE.PIPE_CFG_MODE || decide (j.h ≤ j.served * s.stripeLines)
    if s.domOn 75 && j.closed && whole then s.closeJob j false else s
  | none => s

/-! ### Frames at the input (R247 to R251) -/

/-- The result group of an input (Table 11-13). -/
def State.camResult (s : State) (n frame csi : Nat) (time : BitVec 64) (flags lines reason : Nat) : State :=
  let s := ((s.set (F.CAM.CAM_FRAME n) frame).set (F.CAM.CSI_FRAME n) csi).set (F.CAM.FLAGS n) flags
  let s := ((s.set64 (F.CAM.TIME_LO n) (F.CAM.TIME_HI n) time).set (F.CAM.LINES n) lines).set (F.CAM.REASON n) reason
  (s.set (F.CAM.LINE_PERIOD n) (s.cam n).period).publish (F.CAM.CAM_RES_ST n)

/-- R251: a frame or its remainder is dropped: the records on streams 3 and 4, the count, the result group, the event. -/
def State.dropFrame (s : State) (n frame csi : Nat) (time : BitVec 64) (flags lines reason : Nat) (whole : Bool) : State :=
  let s := s.each [3, 4] (fun s k => (s.camPlace k n frame time (camDropRecord reason n whole time frame (if whole then 0 else lines) 0)).2)
  let s := (s.inc (F.CAM.FRAMES_DROPPED n)).camResult n frame csi time (flags + 8) lines reason
  s.raise EV_CAM_FRAME_DROP n (frame % 256 * 256 + reason)

/-- R251: the remainder of the open frame of camera `n` is dropped. -/
def State.dropRest (s : State) (n reason : Nat) : State :=
  match (s.cam n).opened with
  | none => s
  | some f =>
    let s := (s.setCam n { s.cam n with opened := none }).set (F.CAM.CSI_STAT_FRAME_OPEN n) 0
    let x := ((s.camJob n f.frame).map Job.ctx).getD n
    let s := match s.camJob n f.frame with
      | some j => s.endJob j
      | none => s
    let s := (s.setPctx x { s.pctx x with prevOk := false }).discardMap n f.frame
    let s := s.dropFrame n f.frame f.csi f.time (bit f.deferred + 4 * bit f.long) (min f.lines (s.camH n)) reason false
    s.stopCamera n

/-- Table 11-7: the header of a raw buffer. -/
def State.rawHeader (s : State) (n : Nat) (f : OpenFrame) (short : Bool) : List Byte :=
  let b := s.camBlock n
  let h := beBytes 4 0x52415746 ++ beBytes 1 n ++ (b.drop 2).take 1 ++ (b.drop 6).take 1 ++
    beBytes 1 (bit short + 2 * bit f.long + 4 * bit (!short)) ++ beBytes 2 (s.camW n) ++ beBytes 2 (min f.lines (s.camH n)) ++
    beBytes 4 f.frame ++ beBytes 8 f.time.toNat ++ beBytes 4 (s.linePeriod n) ++ (b.drop 24).take 8 ++ zeros 24
  h ++ beBytes 4 (crc32c h)

/-- The address of raw buffer `i` of camera `n`. -/
def State.rawAddr (s : State) (n i : Nat) : Nat := u64 (s.camBlock n) 16 + i * rawStride (s.camW n) (s.camH n)

/-- R248 to R250: the open frame of camera `n` closes, complete or SHORT. -/
def State.closeInput (s : State) (n : Nat) : State :=
  match (s.cam n).opened with
  | none => s
  | some f =>
    let short := decide (f.lines < s.camH n)
    let c := s.cam n
    let period := if 2 ≤ f.lines then (f.last - f.first) / (f.lines - 1) else c.period
    let s := (s.setCam n { c with opened := none, span := some (s.time.dev.toNat - f.time.toNat), period := period }).set (F.CAM.CSI_STAT_FRAME_OPEN n) 0
    let s := s.camResult n f.frame f.csi f.time (bit f.deferred + 2 * bit short + 4 * bit f.long) f.lines 0
    let s := match f.raw with
      | some i => (s.memUse 2 (0x20 + n) 64).dramPut (s.rawAddr n i) (s.rawHeader n f short)
      | none => s
    let s := s.when short (fun s => s.raise EV_CAM_FRAME_SHORT n (f.frame % 256 * 256))
    let s := match s.camJob n f.frame with
      | none => s
      | some j =>
        let j := { j with closed := true, long := f.long, lines := min f.lines j.h, emb := f.emb, period := s.linePeriod n }
        let s := s.putJob j
        if short then ((s.shortStrip 3 n f.frame j.ctx).shortStrip 4 n f.frame j.ctx).closeJob j true else s
    s.stopCamera n

/-- F_p of the section Frame mode: the PRIO camera's predicted next FS; none: unbounded. -/
def State.predictedFs (s : State) : Option Nat :=
  let n := s.get F.PIPE.PIPE_CFG_PRIO
  let c := s.cam n
  match c.lastFs with
  | some t => if s.camRuns n && decide (5 ≤ c.next) && !c.fresh then some (t + c.gaps.sum / c.gaps.length) else none
  | none => none

/-- D_n: the FS-to-close time of the previous frame, or HEIGHT × line period for the first. -/
def State.inputSpan (s : State) (n : Nat) : Nat := (s.cam n).span.getD (s.camH n * s.linePeriod n)

/-- The next free raw buffer of camera `n`. -/
def State.freeRaw (s : State) (n : Nat) : Option Nat :=
  (List.range (u8 (s.camBlock n) 7)).find? (fun i => !(s.cam n).bufs.contains i)

/-- The record of a frame that begins. -/
def State.newJob (s : State) (n x frame csi : Nat) (buf : Option Nat) (live deferred : Bool) : Job :=
  ⟨x, n, frame, csi, s.time.dev, s.camW n, s.camH n, s.linePeriod n, (buf.map (s.rawAddr n)).getD 0, buf, live, deferred, false, false, live, false, 0, 0, [],
    (s.pctx n).active, [], 0⟩

/-- A frame opens at input `n`, live or written to raw buffer `raw`; its depth map opens with it. -/
def State.openInput (s : State) (n frame csi : Nat) (raw : Option Nat) (deferred : Bool) : State :=
  let c := s.cam n
  let s := s.setCam n { c with opened := some ⟨frame, csi, s.time.dev, 0, false, raw, deferred, 0, 0, []⟩, bufs := c.bufs ++ raw.toList }
  (s.set (F.CAM.CSI_STAT_FRAME_OPEN n) 1).openMap n frame s.time.dev

/-- R253: a frame is processed live. -/
def State.goLive (s : State) (n frame csi : Nat) : State :=
  let j := s.newJob n n frame csi none true false
  let r := s.pickBuffer n (branch j.bank 0x0E)
  let s := r.2
  let s : State := { s with vis := { s.vis with jobs := s.vis.jobs ++ [{ j with disp := r.1 }] } }
  (s.takePipe n).openInput n frame csi none false

/-- R253, R255: a frame is written raw, deferred or for stripes; without a free buffer it is dropped whole. -/
def State.goRaw (s : State) (n frame csi : Nat) (deferred : Bool) : State :=
  match s.freeRaw n with
  | none =>
    let s := (s.inc F.PIPE.RAW_FULL_DROP).setPctx n { s.pctx n with prevOk := false }
    s.dropFrame n frame csi s.time.dev 0 0 4 true
  | some i =>
    let x := if deferred then 2 + (if n = 0 then s.get F.PIPE.PIPE_CFG_DEFER_CTX0 else s.get F.PIPE.PIPE_CFG_DEFER_CTX1) else n
    let j := s.newJob n x frame csi (some i) false deferred
    let s : State := { s with vis := { s.vis with jobs := s.vis.jobs ++ [j] } }
    (s.when deferred (fun s => s.inc F.PIPE.DEFERRED)).openInput n frame csi (some i) deferred

/-- R253, R255: what becomes of the frame whose FS has just been decoded. -/
def State.frameDecision (s : State) (n frame csi : Nat) : State :=
  let prio := s.get F.PIPE.PIPE_CFG_PRIO
  let idle := s.vis.cur.isNone
  let repro := match s.vis.cur with
    | some x => decide (2 ≤ x)
    | none => false
  if s.flag F.PIPE.PIPE_CFG_MODE then s.goRaw n frame csi false
  else if n = prio || !s.camRuns prio then
    if idle || repro then s.goLive n frame csi else (s.inc F.PIPE.PRIO_DEFER).goRaw n frame csi true
  else
    let fits := match s.predictedFs with
      | some f => decide (s.time.dev.toNat + s.inputSpan n + 1000 * s.get F.PIPE.PIPE_CFG_DEFER_GUARD ≤ f)
      | none => true
    if idle && fits then s.goLive n frame csi else s.goRaw n frame csi true

/-- CSI_FRAME_START (R247, R253). -/
def State.csiFs (s : State) (n csi : Nat) : State :=
  if !(s.domOn 75 && s.camRuns n) then s
  else
    let s := if (s.cam n).opened.isSome then (s.inc (F.CAM.FE_MISSING n)).closeInput n else s
    if !s.camRuns n then s
    else
      let c := s.cam n
      let now := s.time.dev.toNat
      let frame := if c.fresh then 0 else c.next
      let early := match c.lastFs with
        | some t => decide ((now - t) * s.camFps n < 95 * 10 ^ 9)
        | none => false
      let gaps := match c.lastFs with
        | some t => ((now - t) :: c.gaps).take 4
        | none => []
      let s := (s.inc (F.CAM.FRAMES_IN n)).setCam n { c with fresh := false, next := (frame + 1) % 2 ^ 32, lastFs := some now, gaps := gaps }
      if early then
        (s.setPctx n { s.pctx n with prevOk := false }).dropFrame n frame csi s.time.dev 0 0 5 true
      else (s.applyBank n frame).frameDecision n frame csi

/-- Pixels of a RAW10, RAW12 or RAW14 packet (notes/assumptions/40.md). -/
def unpackRaw (dt : Nat) : List Byte → List Nat
  | a :: b :: c :: d :: e :: f :: g :: r =>
    if dt = 0x2B then
      [a.toNat * 4 + e.toNat % 4, b.toNat * 4 + e.toNat / 4 % 4, c.toNat * 4 + e.toNat / 16 % 4, d.toNat * 4 + e.toNat / 64] ++ unpackRaw dt (f :: g :: r)
    else if dt = 0x2C then [a.toNat * 16 + c.toNat % 16, b.toNat * 16 + c.toNat / 16] ++ unpackRaw dt (d :: e :: f :: g :: r)
    else
      [a.toNat * 64 + e.toNat % 64, b.toNat * 64 + (e.toNat / 64 + f.toNat % 16 * 4), c.toNat * 64 + (f.toNat / 16 + g.toNat % 4 * 16),
        d.toNat * 64 + g.toNat / 4] ++ unpackRaw dt r
  | [a, b, c, d, e, f] =>
    if dt = 0x2B then [a.toNat * 4 + e.toNat % 4, b.toNat * 4 + e.toNat / 4 % 4, c.toNat * 4 + e.toNat / 16 % 4, d.toNat * 4 + e.toNat / 64]
    else if dt = 0x2C then
      [a.toNat * 16 + c.toNat % 16, b.toNat * 16 + c.toNat / 16, d.toNat * 16 + f.toNat % 16, e.toNat * 16 + f.toNat / 16]
    else []
  | a :: b :: c :: d :: e :: r =>
    if dt = 0x2B then [a.toNat * 4 + e.toNat % 4, b.toNat * 4 + e.toNat / 4 % 4, c.toNat * 4 + e.toNat / 16 % 4, d.toNat * 4 + e.toNat / 64]
    else if dt = 0x2C then [a.toNat * 16 + c.toNat % 16, b.toNat * 16 + c.toNat / 16] ++ unpackRaw dt (d :: e :: r)
    else []
  | a :: b :: c :: _ => if dt = 0x2C then [a.toNat * 16 + c.toNat % 16, b.toNat * 16 + c.toNat / 16] else []
  | _ => []

/-- R248: an image packet that nothing is wrong with. -/
def State.takeLine (s : State) (n : Nat) (f : OpenFrame) (pixels : List Byte) : State :=
  let now := s.time.dev.toNat
  let h := s.camH n
  let g := { f with lines := f.lines + 1, first := if f.lines = 0 then now else f.first, last := now }
  if f.lines < h then
    let s := match f.raw with
      | some i =>
        let pix := (unpackRaw (u8 (s.camBlock n) 2) pixels).flatMap (fun v => beBytes 2 v)
        (s.memUse 2 (0x20 + n) pix.length).dramPut (s.rawAddr n i + 64 + f.lines * s.camW n * 2) pix
      | none => s
    let s := match s.camJob n f.frame with
      | some j => s.putJob { j with lines := f.lines + 1 }
      | none => s
    s.setCam n { s.cam n with opened := some g }
  else
    let s := s.setCam n { s.cam n with opened := some { g with long := true } }
    if f.long then s
    else
      let s := match s.camJob n f.frame with
        | some j => s.putJob { j with long := true }
        | none => s
      (s.inc (F.CAM.LONG n)).raise EV_CAM_FRAME_LONG n (f.frame % 256 * 256)

/-- CSI_LINE_PACKET: Table 11-3, the uppermost condition first. `hdr`: 0 clean, 1 corrected, 2 uncorrectable. -/
def State.csiLine (s : State) (n wc : Nat) (crcOk : Bool) (pixels : List Byte) (hdr : Nat) (overflow : Bool) : State :=
  if !(s.domOn 75 && s.camRuns n) then s
  else match (s.cam n).opened with
    | none => s.inc (F.CAM.IGNORED n)
    | some f =>
      if overflow || (f.raw.isSome && decide (f.lines < s.camH n) && !s.domOn 79) then (s.inc (F.CAM.OVERFLOW n)).dropRest n 3
      else if hdr = 2 then (s.inc (F.CAM.HDR_ERR n)).dropRest n 1
      else if !crcOk then (s.inc (F.CAM.CRC_ERR n)).dropRest n 1
      else if wc * 8 ≠ s.camW n * dtBits (u8 (s.camBlock n) 2) then (s.inc (F.CAM.WC_ERR n)).dropRest n 1
      else (s.when (hdr == 1) (fun s => s.inc (F.CAM.HDR_CORR n))).takeLine n f pixels

/-- CSI_FRAME_END (R248). -/
def State.csiFe (s : State) (n : Nat) : State :=
  match (s.cam n).opened with
  | some f =>
    if s.domOn 75 then (s.when (decide (f.lines < s.camH n)) (fun s => s.inc (F.CAM.SHORT n))).closeInput n else s
  | none => s

/-- CSI_LINE_TIMEOUT (R248). -/
def State.csiTimeout (s : State) (n : Nat) : State :=
  match (s.cam n).opened with
  | some f =>
    if !s.domOn 75 then s
    else if f.lines < s.camH n then (s.inc (F.CAM.LATE n)).dropRest n 2
    else (s.inc (F.CAM.FE_MISSING n)).closeInput n
  | none => s

/-- CSI_NON_IMAGE_PACKET (R245). -/
def State.csiOther (s : State) (n vc dt : Nat) (bytes : List Byte) : State :=
  let b := s.camBlock n
  let mine := vc == u8 b 1
  if !(s.domOn 75 && s.camRuns n) || decide (dt < 8) || (mine && dt == u8 b 2) then s
  else match (s.cam n).opened with
    | some f =>
      if mine && dt == 0x12 && u8 b 3 == 1 then
        s.setCam n { s.cam n with opened := some { f with emb := (f.emb ++ bytes).take 256 } }
      else s.inc (F.CAM.IGNORED n)
    | none => s.inc (F.CAM.IGNORED n)

/-! ### Contexts (R252, R258, R259) -/

/-- Table 11-8: the length of a stage's data; none where the stage is undefined. -/
def stageLength (stage n : Nat) : Option Bool :=
  if stage = 0 ∨ 16 < stage then none
  else if stage = 4 then some (decide (8 ≤ n ∧ n ≤ 520 ∧ n % 4 = 0))
  else some (n == [0, 108, 72, 4, 0, 940, 16, 8, 4, 24, 36, 132, 132, 24, 16, 16, 16].getD stage 0)

/-- Whether a branch is outside its bounds: `least` the least factor's inverse, `most` the greatest factor. -/
def branchBad (stage : Nat) (d : List Byte) : List (Bool × Nat) :=
  let b := branch [(stage, d)] stage
  let most := if stage = 0x0E then 2 else 1
  let fit := fun (out inn : Nat) => decide (inn = 0 ∨ out = 0 ∨ 8 * out < inn ∨ most * inn < out)
  let en := b.en
  let flags := if stage = 0x0E then decide (3 < b.flags) else if stage = 0x0F then decide (1 < b.flags)
    else decide (15 < b.flags ∨ (en ∧ b.flags / 4 = 0))
  let size := if stage = 0x0E then decide (3840 < b.w ∨ 1080 < b.h)
    else decide (b.w % 16 ≠ 0 ∨ b.h % (if stage = 0x0F then 2 else 4) ≠ 0)
  [(en && size, 0), (en && (fit b.w b.cw || fit b.h b.ch), 2), (flags || notZero d 13 3, 3)]

/-- R259: values out of range in a stage's data, with the data word of each. -/
def stageBad (stage : Nat) (d : List Byte) : List (Bool × Nat) :=
  match stage with
  | 1 => (decide (u8 d 8 = 0 ∨ 16 < u8 d 8) || notZero d 9 3, 2) :: (List.range 16).map (fun i => (decide (2 ^ 20 ≤ u32 d (14 + 6 * i)), (14 + 6 * i) / 4))
  | 4 => [(notZero d 3 1, 0), (decide (128 < u16 d 4 ∨ 4 * u16 d 4 + 8 ≠ d.length) || notZero d 6 2, 1)]
  | 6 => [(decide (1 < u8 d 8) || notZero d 9 1, 2), (notZero d 14 2, 3)]
  | 8 => [(notZero d 2 2, 0)]
  | 12 => [(notZero d 130 2, 32)]
  | 14 | 15 | 16 => branchBad stage d
  | _ => []

/-- PIPE_CONTEXT_SET (R252, R259). -/
def cmdPipeContextSet (s : State) (p : List Byte) : Reply :=
  let x := u8 p 0
  let stage := u8 p 1
  let d := p.drop 4
  s.guarded ([s.needDom 75, badParam (decide (3 < x)) 0, badParam ((stageLength stage (u16 p 2)).isNone) 0,
      (stageLength stage (u16 p 2) != some true, 0x11, 2)] ++ (stageBad stage d).map (fun e => badParam e.1 (e.2 + 1)))
    (let c := s.pctx x
     ((s.setPctx x { c with staged := spSet (fun _ => []) c.staged stage d }).set (F.CTX.CTX_STAT_PENDING x) 1).done [])

/-! ### Deferred frames, stripes, reprocessing (R254, R255, R257) -/

/-- R257, Table 11-7: 0 where the header at an address passes, else DETAIL of FRAME_FORMAT. -/
def State.rawCheck (s : State) (a : Nat) : Nat :=
  let h := s.dramRead a 64
  let w := u16 h 8
  let n := u16 h 10
  if u32 h 0 ≠ 0x52415746 ∨ u32 h 60 ≠ crc32c (h.take 60) then 1
  else if w < 256 ∨ 4096 < w ∨ w % 16 ≠ 0 ∨ n < 128 ∨ 2304 < n ∨ n % 2 ≠ 0 ∨ 8294400 < w * n ∨ !s.dramHas a (64 + w * n * 2) then 2 else 0

/-- REPROCESS (R257). -/
def cmdReprocess (s : State) (p : List Byte) : Reply :=
  let x := u8 p 0
  let a := u64 p 4
  s.guarded [s.needDom 75, s.needDom 79, badParam (decide (x < 2 ∨ 3 < x) || notZero p 1 3) 0, badParam (decide (a % 64 ≠ 0) || !s.dramHas a 64) 1]
    (if s.vis.jobs.any (fun j => j.ctx == x && j.deferred) then s.reply .busy
     else s.accept 0x0404 { s with vis := { s.vis with repro := some (x, a, false) } } x)

/-- The frame of a raw buffer for host REPROCESS (R257), under the context's own active bank. -/
def State.hostJob (s : State) (x a : Nat) : Job :=
  let h := s.dramRead a 64
  ⟨x, u8 h 4 % 2, u32 h 12, 0, BitVec.ofNat 64 (u64 h 16), u16 h 8, u16 h 10, u32 h 24, a, none, false, false, true, true, true, u8 h 7 / 2 % 2 == 1, u16 h 10, 0, [],
    (s.pctx x).active, [], 0⟩

/-- A host REPROCESS frame that may start. -/
def State.hostReady (s : State) : Option (Nat × Nat) :=
  match s.vis.repro with
  | some (x, a, done) => if !done && s.rawCheck a == 0 && !s.vis.jobs.any (fun j => j.host) then some (x, a) else none
  | none => none

/-- A host REPROCESS frame starts. -/
def State.startHost (s : State) (x a : Nat) : State :=
  let s := s.applyBank x (u32 (s.dramRead a 64) 12)
  let j := s.hostJob x a
  let s := s.memUse 4 0x33 (j.w * j.h * 2)
  { s with vis := { s.vis with jobs := s.vis.jobs ++ [j] } }

/-- R254: whether `pixels` fit before the PRIO camera's next FS. -/
def State.fitsBefore (s : State) (pixels : Nat) : Bool :=
  match s.predictedFs with
  | some f => decide (6 * (s.time.dev.toNat + 427 + 1000 * s.get F.PIPE.PIPE_CFG_DEFER_GUARD) + 5 * pixels ≤ 6 * f)
  | none => true

/-- DEFERRED_FRAME_START (R254): the idle pipeline takes the oldest deferred frame whose input has closed, then host REPROCESS. -/
def State.deferredStart (s : State) : State :=
  if !s.domOn 75 || s.flag F.PIPE.PIPE_CFG_MODE || s.vis.cur.isSome then s
  else match s.vis.jobs.find? (fun j => j.deferred && j.closed && !j.started) with
    | some j =>
      if j.cam == s.get F.PIPE.PIPE_CFG_PRIO || s.fitsBefore (j.w * j.h) then
        let r := s.pickBuffer j.cam (branch j.bank 0x0E)
        ((r.2.memUse 4 0x33 (j.w * j.h * 2)).putJob { j with started := true, disp := r.1 }).takePipe j.ctx
      else s
    | none =>
      match s.hostReady with
      | some (x, a) => if s.fitsBefore (u16 (s.dramRead a 64) 8 * u16 (s.dramRead a 64) 10) then (s.startHost x a).takePipe x else s
      | none => s

/-- Whether a stripe of a frame is ready (R255). -/
def State.stripeOf (s : State) (j : Job) : Bool :=
  decide (j.served * s.stripeLines < j.h) && (j.closed || decide ((j.served + 1) * s.stripeLines ≤ j.lines))

/-- R255: a switch into context `x` for a stripe. -/
def State.serveCtx (s : State) (x : Nat) : State :=
  let s := if s.vis.last = some x then s else s.inc (F.CTX.SWITCHES x)
  { s with vis := { s.vis with last := some x } }

/-- STRIPE_READY (R255): the next stripe of context `x` is served; reprocess stripes only while no live stripe is ready. -/
def State.stripe (s : State) (x : Nat) : State :=
  if !s.domOn 75 || !s.flag F.PIPE.PIPE_CFG_MODE then s
  else if x < 2 then
    match s.vis.jobs.find? (fun j => j.ctx == x && !j.live && s.stripeOf j) with
    | some j =>
      let s := s.memUse 2 0x22 (j.w * s.stripeLines * 2)
      if j.started then (s.putJob { j with served := j.served + 1 }).serveCtx x
      else
        let r := s.pickBuffer j.cam (branch j.bank 0x0E)
        (r.2.putJob { j with started := true, served := j.served + 1, disp := r.1 }).serveCtx x
    | none => s
  else if s.vis.jobs.any (fun j => decide (j.ctx < 2) && s.stripeOf j) then s
  else
    let s := match s.hostReady with
      | some (y, a) => if y = x then s.startHost y a else s
      | none => s
    match s.vis.jobs.find? (fun j => j.ctx == x && j.closed && s.stripeOf j) with
    | some j => (s.putJob { j with started := true, served := j.served + 1 }).serveCtx x
    | none => s

/-- R257: REPROCESS ends. -/
def State.reprocessComplete (s : State) (x : Nat) : State :=
  match s.vis.repro with
  | some (y, a, done) =>
    if s.isRunning 0x0404 && x == y then
      let t : State := { s with vis := { s.vis with repro := none } }
      if done then (t.inc F.PIPE.REPROC_DONE).complete 0x0404 0 0 []
      else if s.vis.jobs.any (fun j => j.host) || s.rawCheck a == 0 then s
      else t.complete 0x0404 0x71 (s.rawCheck a) []
    else s
  | none => s

/-! ### Strip records (R264) -/

/-- STRIP_RECORD_SEND: the next strip of a plane of context `x`'s frame. -/
def State.strip (s : State) (x : Nat) (coding : Bool) (level : Nat) : State :=
  match s.ctxJob x with
  | none => s
  | some j =>
    let b := branch j.bank (if coding then 0x0F else 0x10)
    let w := b.w / 2 ^ level
    let h := b.h / 2 ^ level
    let key := if coding then 8 else level
    let first := spGet (fun _ => 0) j.sent key
    if s.domOn 75 && b.en && (if coding then level == 0 else decide (level < b.flags / 4 % 4)) && decide (first < h) then
      let lines := min (64 / 2 ^ level) (h - first)
      let r := s.freeBytes (if coding then lines * w * 3 / 2 else lines * w)
      let flags := j.cam + 2 * bit (first == 0) + 4 * bit (first + lines == h) + 16 * bit j.long + 32 * bit j.host + 64 * bit j.deferred
      let rec_ := withCrc (beBytes 1 (if coding then 0x61 else 0x60) ++ beBytes 1 flags ++ beBytes 1 level ++ beBytes 1 x ++
        beBytes 4 (36 + r.1.length) ++ beBytes 8 j.time.toNat ++ beBytes 4 j.frame ++ beBytes 2 w ++ beBytes 2 h ++ beBytes 2 first ++
        beBytes 2 lines ++ zeros 4 ++ r.1)
      let s := r.2.putJob { j with sent := spSet (fun _ => 0) j.sent key (first + lines) }
      (s.camPlace (if coding then 4 else 3) j.cam j.frame j.time rec_).2
    else s

/-! ### Register writes and refused memory requests -/

/-- R272: PIPE_CFG and the ring registers. -/
def State.wrPipe (s : State) (a : Nat) (v : Word) : State :=
  let held := a == F.PIPE.PIPE_CFG_MODE.addr || decide (F.PIPE.S3_BASE_LO.addr ≤ a ∧ a ≤ F.PIPE.S4_LEN.addr)
  if held && (s.camRuns 0 || s.camRuns 1) then s.set F.PIPE.PIPE_STAT_CFG_ERR 1 else s.hostWrite a v

/-- R331: a class 2 request of Region V is refused: its requester drops the rest of its frame. -/
def State.visionRefused (s : State) (src : Nat) : State :=
  if src = 0x20 ∨ src = 0x21 then
    match (s.cam (src - 0x20)).opened with
    | some _ => (s.inc (F.CAM.OVERFLOW (src - 0x20))).dropRest (src - 0x20) 3
    | none => s
  else if src = 0x22 then
    match s.vis.jobs.find? (fun j => j.started) with
    | some j =>
      if ((s.cam j.cam).opened.map OpenFrame.frame) == some j.frame && !j.host then s.dropRest j.cam 6
      else
        let s := (s.endJob j).setPctx j.ctx { s.pctx j.ctx with prevOk := false }
        let s := if j.host then { s with vis := { s.vis with repro := s.vis.repro.map (fun r => (r.1, r.2.1, true)) } } else s.discardMap j.cam j.frame
        s.dropFrame j.cam j.frame j.csi j.time (bit j.deferred + 4 * bit j.long) j.lines 6 false
    | none => s
  else if src = 0x23 then
    match s.vis.maps with
    | m :: _ => s.discardMap m.cam m.frame
    | [] => s
  else s

end Sys2Proof.Machine
end

