-- ==== Sys2Proof/Machine/Display.lean ====
section
/-! DEFINITION. Display scan-out (chapter 12): timing blocks, layers and banks, flips, composition of lines, frame lock, latency tolerance and underrun. -/

namespace Sys2Proof.Machine

/-! ### Timing (R273, R274) -/

/-- Display `d`. -/
def State.disp (s : State) (d : Nat) : DispSt := spGet (fun _ => DispSt.init) s.disps d

/-- Replace display `d`. -/
def State.setDisp (s : State) (d : Nat) (x : DispSt) : State := { s with disps := spSet (fun _ => DispSt.init) s.disps d x }

/-- The timing block as accepted. -/
def State.timing (s : State) (d : Nat) : List Byte := (List.range 8).flatMap (fun i => beBytes 4 (s.get (F.DSP.TIMING d i)))

/-- HTOTAL of a timing block. -/
def hTotal (t : List Byte) : Nat := u16 t 4 + u16 t 6 + u16 t 8 + u16 t 10

/-- VTOTAL of a timing block. -/
def vTotal (t : List Byte) : Nat := u16 t 12 + u16 t 14 + u16 t 16 + u16 t 18

/-- R273: the conditions of a timing block, with the payload word of each. -/
def timingBad (t : List Byte) : List (Bool × Nat) :=
  let px := fun i => decide (u16 t i = 0 ∨ 1024 < u16 t i)
  let ln := fun i => decide (u16 t i = 0 ∨ 255 < u16 t i)
  [(decide (u32 t 0 < 25000000 ∨ 300000000 < u32 t 0), 1),
   (decide (u16 t 4 < 320 ∨ 3840 < u16 t 4 ∨ u16 t 4 % 2 ≠ 0) || px 6, 2),
   (px 8 || px 10 || decide (8192 < hTotal t), 3),
   (decide (u16 t 12 < 240 ∨ 1080 < u16 t 12) || ln 14, 4),
   (ln 16 || ln 18 || decide (u16 t 16 + u16 t 18 < 4 ∨ 4095 < vTotal t), 5),
   (decide (7 < u8 t 20 ∨ 1 < u8 t 21 ∨ u16 t 22 = 0 ∨ 255 < u16 t 22), 6),
   (decide (u32 t 24 < 100 ∨ 10000 < u32 t 24), 7),
   (decide (605 * (hTotal t * vTotal t) < 10 * u32 t 0), 1)]

/-- DISP_MODE (R273). -/
def cmdDispMode (s : State) (p : List Byte) : Reply :=
  let d := u8 p 0
  let t := p.drop 4
  s.guarded ([s.needDom 76, s.badState (decide (d < 2) && s.flag (F.DSP.DISP_STAT_RUNNING d)), badParam (decide (1 < d) || notZero p 1 3) 0] ++
      (timingBad t).map (fun e => badParam e.1 e.2))
    (let s := s.each (List.range 8) (fun s i => s.set (F.DSP.TIMING d i) (u32 t (4 * i)))
     ((s.set (F.DSP.DISP_STAT_CONFIGURED d) 1).setDisp d { s.disp d with pclk := u32 t 0 }).done [])

/-- Port Vn is up. -/
def State.vUp (s : State) (d : Nat) : Bool := s.domOn 77 && s.get (F.OZ.LINK_STAT_STATE (1 + d)) == 2

/-- R287: lane rate of a rate code, in Mb/s. -/
def laneRate (code : Nat) : Nat := 1500 * 2 ^ code

/-- R287: whether a lane rate carries a timing. -/
def rateCarries (t : List Byte) (code : Nat) : Bool := decide ((24 * u16 t 4 + 64) * u32 t 0 ≤ hTotal t * (laneRate code * 1875000))

/-- R287: the lowest rate code that carries a timing. -/
def leastRate (t : List Byte) : Nat := ((List.range 4).find? (fun c => rateCarries t c)).getD 3

/-- The running COMMIT of display `d` ends. -/
def State.endCommit (s : State) (d status detail : Nat) (data : List Byte) : State :=
  if s.runningTag 0x0502 = some d then s.complete 0x0502 status detail data else s

/-- R285: no demand. -/
def State.noDemand (s : State) (d : Nat) : State := s.set (F.DSP.LAT_TOL d) (2 ^ 32 - 1)

/-- R275: the display stops. -/
def State.dispStop (s : State) (d : Nat) : State :=
  let s := (s.setDisp d { s.disp d with stopping := false, waits := false, skip := false, missed := false, send := false, shown := none, ovl := none }).noDemand d
  ((s.set (F.DSP.DISP_STAT_RUNNING d) 0).setBitAt F.SYS.CLK_STAT_LOCKED (3 + d) false).endCommit d 0x13 s.stateCode []

/-- DISP_RUN (R275, R287). -/
def cmdDispRun (s : State) (p : List Byte) : Reply :=
  let d := u8 p 0
  let run := u8 p 1
  let runs := s.flag (F.DSP.DISP_STAT_RUNNING d)
  let start := decide (d < 2 ∧ run = 1) && !runs
  let t := s.timing d
  s.guarded [s.needDom 76, (start && !s.flag (F.DSP.DISP_STAT_CONFIGURED d), 0x75, 0),
      (start && !(s.vUp d && rateCarries t (s.get (F.OZ.LINK_STAT_RATE (1 + d)))), 0x74, leastRate t),
      badParam (decide (1 < d ∨ 1 < run) || notZero p 2 2) 0]
    (let x := s.disp d
     let s :=
       if start then
         ((s.set (F.DSP.DISP_STAT_RUNNING d) 1).setBitAt F.SYS.CLK_STAT_LOCKED (3 + d) true).setDisp d { x with
           stopping := false, first := true, next := 0, shown := none, ovl := none, staleSaid := false, errRun := false, under := false, send := false, pclk := u32 t 0, good := 0,
           bad := 0, fe := none, lost := false }
       else if run = 0 ∧ runs then
         if x.first then s.dispStop d else s.setDisp d { x with stopping := true }
       else s
     s.done [])

/-! ### Layers (R276) -/

/-- Bytes per pixel of a format of Table 12-2. -/
def fmtBytes (f : Nat) : Nat := match f with | 0 => 2 | 1 => 3 | _ => 4

/-- Layer `l` of the active bank. -/
def State.layer (s : State) (d l : Nat) : List Byte := (List.range 8).flatMap (fun i => beBytes 4 (s.get ⟨(F.DSP.LAYER d (8 * l + i)).addr, 0, 32⟩))

/-- SOURCE of a layer block. -/
def layerSource (b : List Byte) : Nat := u8 b 0

/-- Whether any bank of display `d` uses a camera or overlay source. -/
def State.usesSource (s : State) (d src : Nat) : Bool :=
  (s.disp d).staged.any (fun b => layerSource b == src) || (s.disp d).pending.any (fun b => layerSource b == src) ||
    (List.range 3).any (fun l => layerSource (s.layer d l) == src)

/-- R276: the conditions of a layer block, with the payload word of each. -/
def State.layerBad (s : State) (d l : Nat) (b : List Byte) : List (Bool × Nat) :=
  let src := u8 b 0
  let fmt := u8 b 1
  let t := s.timing d
  let bpp := fmtBytes fmt
  let host := src == 5
  let a := u64 b 16
  let stride := u32 b 24
  let allowed := [[0, 1, 2], [0, 3, 4], [0, 5]].getD l []
  let rect := decide (u16 t 4 < u16 b 12 + u16 b 8 ∨ u16 t 12 < u16 b 14 + u16 b 10)
  [(!allowed.contains src || decide (3 < fmt) || ((src == 1 || src == 2) && fmt != 2) || ((src == 3 || src == 4) && fmt != 3) || notZero b 3 1 ||
      (decide (1 ≤ src ∧ src ≤ 4) && s.usesSource (1 - d) src), 1),
   (decide (u16 b 8 = 0 ∨ u16 b 10 = 0), 3), (rect, 4),
   (if host then decide (a % 64 ≠ 0) || !s.dramHas a ((u16 b 6 + u16 b 10 - 1) * stride + (u16 b 4 + u16 b 8) * bpp) else a != 0, 5),
   (if host then decide (stride % 64 ≠ 0 ∨ stride < u16 b 8 * bpp) else stride != 0, 7), (notZero b 28 4, 8)]

/-- LAYER_SET (R276). -/
def cmdLayerSet (s : State) (p : List Byte) : Reply :=
  let d := u8 p 0
  let l := u8 p 1
  let b := p.drop 4
  s.guarded ([s.needDom 76, badParam (decide (1 < d ∨ 2 < l) || notZero p 2 2) 0] ++ (s.layerBad d l b).map (fun e => badParam e.1 e.2))
    ((s.setDisp d { s.disp d with staged := (s.disp d).staged.set l b }).done [])

/-! ### Commits (R278, R279) -/

/-- A bank becomes the active bank. -/
def State.activate (s : State) (d : Nat) (bank : List (List Byte)) : State :=
  s.each (List.range 24) (fun s i => s.set ⟨(F.DSP.LAYER d i).addr, 0, 32⟩ (u32 (bank.getD (i / 8) []) (4 * (i % 8))))

/-- R278: the commit window of the next flip point has closed: COMMIT_LEAD lines or fewer are left. -/
def State.windowClosed (s : State) (d : Nat) : Bool :=
  let x := s.disp d
  let t := s.timing d
  !x.first && decide ((vTotal t - u16 t 22) * hTotal t * 10 ^ 9 ≤ (s.time.dev.toNat - x.flip) * x.pclk)

/-- R278: a commit executes. -/
def State.commit (s : State) (d : Nat) : State :=
  let x := s.disp d
  if s.flag (F.DSP.DISP_STAT_RUNNING d) then
    let closed := s.windowClosed d
    let s := s.when x.waits (fun s => s.inc (F.DSP.SUPERSEDED d))
    s.setDisp d { x with pending := x.staged, waits := true, skip := closed, missed := closed }
  else (s.setDisp d { x with pending := x.staged }).activate d x.staged

/-- FRAME and flip time of the last flip. -/
def State.flipData (s : State) (d : Nat) : List Byte :=
  beBytes 4 (s.get (F.DSP.FRAME d)) ++ beBytes 4 (s.get (F.DSP.FLIP_TIME_HI d)) ++ beBytes 4 (s.get (F.DSP.FLIP_TIME_LO d))

/-- COMMIT (R279). -/
def cmdCommit (s : State) (p : List Byte) : Reply :=
  let d := u8 p 0
  s.guarded [s.needDom 76, badParam (decide (1 < d) || notZero p 1 3) 0]
    (if s.rangeBusy 0x0502 then s.reply .busy
     else ⟨.accepted d, s.commit d, fun t => if t.flag (F.DSP.DISP_STAT_RUNNING d) then t else t.complete 0x0502 0 0 (t.flipData d)⟩)

/-- A write inside a display's block (R278, R291). -/
def State.wrDisplay (s : State) (a : Nat) (v : Word) : State :=
  let d := (a - 0x3100000) / 0x400
  if a = (F.DSP.DISP_CTRL_COMMIT_REQ d).addr then (if v.toNat % 2 = 1 then s.commit d else s) else s.hostWrite a v

/-! ### Flip points (R280 to R284, R289) -/

/-- LAT_TOL of display `d` from a time in 1/PCLK: less the 2 µs allowance (R285). -/
def State.setLatTol (s : State) (d clocks : Nat) : State :=
  s.set (F.DSP.LAT_TOL d) (min (2 ^ 32 - 2) (clocks * 10 ^ 9 / max 1 (s.disp d).pclk - 2000))

/-- Bytes per output pixel of the layers enabled in the active bank. -/
def State.dispBytes (s : State) (d : Nat) : Nat :=
  ((List.range 3).map (fun l => if layerSource (s.layer d l) = 0 then 0 else fmtBytes (u8 (s.layer d l) 1))).sum

/-- R284: PCLK moves toward a value by at most 100 ppm of the value set. -/
def pclkToward (set now goal : Nat) : Nat :=
  let step := set / 10000
  if now < goal then min goal (now + step) else max goal (now - step)

/-- R284: the error of the frame start that begins now, and what follows from it. The size of the trim is a free value up to 100 ppm. -/
def State.lockStep (s : State) (d : Nat) : State :=
  let x := s.disp d
  let t := s.timing d
  let set := u32 t 0
  match x.fe with
  | none => if x.lost then s.setDisp d { x with pclk := pclkToward set x.pclk set } else s
  | some fe =>
    let e : Int := (s.time.dev.toNat : Int) - fe - 1000 * u32 t 24
    let r := s.freeNat
    let step := r.1 % (set / 10000 + 1)
    let pclk := if e = 0 then x.pclk else if 0 < e then min (set + set / 200) (x.pclk + step) else max (set - set / 200) (x.pclk - step)
    let good := if e.natAbs ≤ 20000 then min 8 (x.good + 1) else 0
    let bad := if 200000 < e.natAbs then min 8 (x.bad + 1) else 0
    let lost := decide (bad = 8) && s.flag (F.DSP.DISP_STAT_LOCKED d)
    let s := (r.2.setI (F.DSP.LOCK_ERR d) e).setDisp d { x with pclk := pclk, good := good, bad := bad, fe := none, lost := lost }
    if lost then (s.set (F.DSP.DISP_STAT_LOCKED d) 0).raise EV_DISP_LOCK_LOST d 0
    else s.when (decide (good = 8)) (fun s => s.set (F.DSP.DISP_STAT_LOCKED d) 1)

/-- R284: an FE of camera `n`. -/
def State.lockFe (s : State) (n : Nat) : State :=
  s.each (List.range 2) (fun s d =>
    let t := s.timing d
    if s.domOn 76 && s.flag (F.DSP.DISP_STAT_RUNNING d) && u8 t 20 / 4 % 2 == 1 && u8 t 21 == n then
      s.setDisp d { s.disp d with fe := some s.time.dev.toNat, lost := false }
    else s)

/-- FRAME_LOCK_LOST_TIMEOUT (R284). -/
def State.lockTimeout (s : State) (d : Nat) : State :=
  if s.domOn 76 && s.flag (F.DSP.DISP_STAT_LOCKED d) then
    ((s.setDisp d { s.disp d with good := 0, bad := 0, lost := true }).set (F.DSP.DISP_STAT_LOCKED d) 0).raise EV_DISP_LOCK_LOST d 0
  else s

/-- R278: the pending bank applies at this flip if a commit waits for it; whether it did and whether it was MISSED. -/
def State.flipBank (s : State) (d : Nat) : Bool × Bool × State :=
  let x := s.disp d
  if !x.waits then (false, false, s)
  else if x.skip then (false, false, s.setDisp d { x with skip := false })
  else
    let s := (s.setDisp d { x with waits := false, missed := false }).activate d x.pending
    let s := s.when x.missed (fun s => (s.inc (F.DSP.MISSED_COMMITS d)).raise EV_DISP_COMMIT_MISSED d 0)
    (true, x.missed, s)

/-- The camera buffer of layer 0 (R280). -/
def State.flipCamera (s : State) (d : Nat) : Option Handed :=
  match layerSource (s.layer d 0) with
  | 1 => s.newest 0
  | 2 => s.newest 1
  | _ => none

/-- The overlay of layer 1 (R281). -/
def State.flipOverlay (s : State) (d : Nat) : Option Handed :=
  match layerSource (s.layer d 1) with
  | 3 => spGet (fun _ => none) s.vis.ovls 0
  | 4 => spGet (fun _ => none) s.vis.ovls 1
  | _ => none

/-- FLIP_POINT: every choice of a frame (R274, R278 to R284, R288, R289). -/
def State.flipPoint (s : State) (d : Nat) : State :=
  if !(s.domOn 76 && s.flag (F.DSP.DISP_STAT_RUNNING d)) then s
  else if (s.disp d).stopping then s.dispStop d
  else
    let s := s.when (u8 (s.timing d) 20 / 4 % 2 == 1) (fun s => s.lockStep d)
    let b := s.flipBank d
    let s := b.2.2
    let x := s.disp d
    let now := s.time.dev.toNat
    let up := s.vUp d
    let cam := s.flipCamera d
    let rep := cam.isSome && cam == x.shown
    let same := cam.isSome && cam.map Handed.frame == x.shown.map Handed.frame
    let since := if same then x.since else now
    let stale := same && decide (1000000 * s.get (F.DSP.DISP_CFG_STALE_MS d) < now - since)
    let l0 := s.layer d 0
    let err := match cam with
      | some h => decide (h.w < u16 l0 4 + u16 l0 8 ∨ h.h < u16 l0 6 + u16 l0 10)
      | none => false
    let ov := s.flipOverlay d
    let hidden := match ov, cam with
      | some o, some h => decide (s.get (F.DSP.DISP_CFG_OVL_AGE d) < (h.frame + 2 ^ 32 - o.frame) % 2 ^ 32 ∧ (h.frame + 2 ^ 32 - o.frame) % 2 ^ 32 < 2 ^ 31)
      | some _, none => true
      | none, _ => false
    let frame := x.next
    let s := s.setDisp d { x with
      first := false, next := (frame + 1) % 2 ^ 32, shown := cam, ovl := ov, since := since, staleSaid := stale, errRun := err, hide0 := err,
      hide1 := err || hidden, under := false, send := up, repeated := rep, flip := now }
    let s := (s.inc (F.DSP.FRAMES d)).when rep (fun s => s.inc (F.DSP.REPEATS d))
    let s := s.when hidden (fun s => s.inc (F.DSP.OVL_HIDDEN d))
    let s := s.when (!up) (fun s => s.inc (F.DSP.LINK_DOWN d))
    let s := s.when stale (fun s => s.inc (F.DSP.STALE_FLIPS d))
    let s := s.when (stale && !x.staleSaid) (fun s => s.raise EV_DISP_CAMERA_STALE d 0)
    let s := s.when err (fun s => s.set (F.DSP.DISP_STAT_LAYER_ERR d) 1)
    let s := s.when (err && !x.errRun) (fun s => s.raise EV_DISP_LAYER_ERROR d 0)
    let s := (s.set (F.DSP.FRAME d) frame).set64 (F.DSP.FLIP_TIME_LO d) (F.DSP.FLIP_TIME_HI d) s.time.dev
    let s := (s.set (F.DSP.CAM_FRAME d) ((cam.map Handed.frame).getD 0)).set (F.DSP.OVL_FRAME d) ((ov.map Handed.frame).getD 0)
    let s := ((s.setFlag (F.DSP.COMMITTED d) b.1).setFlag (F.DSP.STALE d) stale).setFlag (F.DSP.LINK_DOWN_58 d) (!up)
    let s := ((s.setFlag (F.DSP.LAYER_ERR d) err).setFlag (F.DSP.OVL_HIDDEN_58 d) hidden).setFlag (F.DSP.PREV_UNDERRUN d) x.under
    let s := ((s.setFlag (F.DSP.MISSED d) b.2.1).setFlag (F.DSP.REPEAT d) rep).publish (F.DSP.DISP_FLIP_ST d)
    let t := s.timing d
    let s := if up then
        let s := s.txPut (8 + d) (beBytes 1 0x71 ++ beBytes 1 (bit rep + 2 * s.get (F.DSP.DISP_STAT_LOCKED d)) ++ beBytes 2 frame ++ beBytes 4 48 ++
          beBytes 8 s.time.dev.toNat ++ beBytes 4 x.pclk ++ t.drop 4)
        if s.dispBytes d = 0 then s.noDemand d else s.setLatTol d ((u16 t 16 + u16 t 18) * hTotal t)
      else s.noDemand d
    s.when b.1 (fun s => s.endCommit d 0 0 (s.flipData d))

/-! ### Composition (R277) -/

/-- One 8-bit channel. -/
def blend (a src out : Nat) : Nat := (a * src + (65025 - a) * out + 32512) / 65025

/-- A source pixel: A, R, G, B. -/
def pixelOf (fmt : Nat) (b : List Byte) : Nat × Nat × Nat × Nat :=
  match fmt with
  | 0 =>
    let v := u16 b 0
    let r := v / 2048
    let g := v / 32 % 64
    let c := v % 32
    (255, r * 8 + r / 4, g * 4 + g / 16, c * 8 + c / 4)
  | 1 => (255, u8 b 0, u8 b 1, u8 b 2)
  | 2 => (255, u8 b 1, u8 b 2, u8 b 3)
  | _ => (u8 b 0, u8 b 1, u8 b 2, u8 b 3)

/-- A layer over what lies below it. -/
def blendOver (alpha : Nat) (p : Nat × Nat × Nat × Nat) (out : Nat × Nat × Nat) : Nat × Nat × Nat :=
  let a := alpha * p.1
  (blend a p.2.1 out.1, blend a p.2.2.1 out.2.1, blend a p.2.2.2 out.2.2)

/-- Where a pixel of a layer lies in memory: its format and address; none where the layer does not cover the pixel. -/
def State.layerPixel (s : State) (d l x y : Nat) : Option (Nat × Nat) :=
  let k := s.disp d
  let b := s.layer d l
  let g := s.layer d (if l = 1 then 0 else l)
  let inside := decide (u16 g 12 ≤ x ∧ x < u16 g 12 + u16 g 8 ∧ u16 g 14 ≤ y ∧ y < u16 g 14 + u16 g 10)
  let sx := u16 g 4 + (x - u16 g 12)
  let sy := u16 g 6 + (y - u16 g 14)
  let image := fun (h : Option Handed) (hide : Bool) => match h with
    | some h => if !hide && inside && decide (sx < h.w ∧ sy < h.h) then some (u8 b 1, h.addr + 4 * (sy * h.w + sx)) else none
    | none => none
  match layerSource b with
  | 1 | 2 => image k.shown k.hide0
  | 3 | 4 => image k.ovl k.hide1
  | 5 => if inside then some (u8 b 1, u64 b 16 + sy * u32 b 24 + sx * fmtBytes (u8 b 1)) else none
  | _ => none

/-- The background colour. -/
def State.backColour (s : State) (d : Nat) : Nat × Nat × Nat := (u8 (s.timing d) 29, u8 (s.timing d) 30, u8 (s.timing d) 31)

/-- R277: one output pixel. -/
def State.outPixel (s : State) (d x y : Nat) : Nat × Nat × Nat :=
  (List.range 3).foldl (fun out l =>
    match s.layerPixel d l x y with
    | some (f, a) => blendOver (u8 (s.layer d l) 2) (pixelOf f (s.dramRead a (fmtBytes f))) out
    | none => out) (s.backColour d)

/-- Three bytes of a pixel. -/
def rgb (p : Nat × Nat × Nat) : List Byte := beBytes 1 p.1 ++ beBytes 1 p.2.1 ++ beBytes 1 p.2.2

/-! ### Lines (R285, R286, R288) -/

/-- R285: LAT_TOL at the start of active line `k`, the queue full. -/
def State.lineLatTol (s : State) (d k : Nat) : State :=
  let t := s.timing d
  let n := s.dispBytes d
  if n = 0 then s.noDemand d
  else
    let w := u16 t 4
    let i := k * w + 32768 / n
    s.setLatTol d (if i < u16 t 12 * w then (i / w - k) * hTotal t + i % w else (vTotal t - k) * hTotal t)

/-- R286: an underrun is counted and raised. -/
def State.underrun (s : State) (d k : Nat) : State :=
  ((s.setDisp d { s.disp d with under := true }).inc (F.DSP.UNDERRUNS d)).raise EV_DISP_UNDERRUN d k

/-- DISPLAY_LINE_START: the line unit of active line `k` is composed and handed to the port. -/
def State.lineStart (s : State) (d k : Nat) : State :=
  let x := s.disp d
  let t := s.timing d
  if s.domOn 76 && s.flag (F.DSP.DISP_STAT_RUNNING d) && x.send && s.vUp d && decide (k < u16 t 12) then
    let w := u16 t 4
    let bytes := (List.range 3).foldl (fun n l => n + ((List.range w).filter (fun i => (s.layerPixel d l i k).isSome)).length * fmtBytes (u8 (s.layer d l) 1)) 0
    let r := if bytes = 0 then (true, s) else s.memReq 1 (0x10 + d) bytes
    let pix := (List.range w).flatMap (fun i => rgb (if r.1 then s.outPixel d i k else s.backColour d))
    let flags := bit x.repeated + 2 * bit (!r.1) + 4 * bit (k + 1 == u16 t 12)
    let s := r.2.txPut (8 + d) (beBytes 1 0x70 ++ beBytes 1 flags ++ beBytes 2 k ++ beBytes 4 (8 + 3 * w) ++ pix)
    let s := (s.setDisp d { s.disp d with line := k }).when (!r.1) (fun s => s.underrun d k)
    s.lineLatTol d k
  else s

/-- R327, R286: poisoned data for display `d`: from a pixel the spec does not name, the line under way is BG. -/
def State.poisonLine (s : State) (d : Nat) : State :=
  let x := s.disp d
  let w := u16 (s.timing d) 4
  let r := s.freeNat
  let at_ := r.1 % (w + 1)
  let mark := fun (u : List Byte) =>
    (u.take 1 ++ beBytes 1 (u8 u 1 ||| 2) ++ (u.drop 2).take (6 + 3 * at_)) ++ (List.range (w - at_)).flatMap (fun _ => rgb (s.backColour d))
  let st := r.2.stream (8 + d)
  let n := if st.off = 0 then 0 else 1
  let s := r.2.setStream (8 + d) { st with
    units := st.units.take n ++ onLastUnit (fun u => u8 u 0 == 0x70 && u16 u 2 == x.line) mark (st.units.drop n) }
  s.underrun d x.line

/-- R285, R289: port Vn goes down; sending resumes at the first flip point after it is up. -/
def State.portDown (s : State) (d : Nat) : State := if s.domOn 76 then (s.setDisp d { s.disp d with send := false }).noDemand d else s

end Sys2Proof.Machine
end

