-- ==== Sys2Proof/Machine/Hk.lean ====
section
/-! DEFINITION. Housekeeping measurement (chapter 16): the converter's rounds, linearisation, sensor judgement, urgent conversions, TIA channels, the
window monitor, AUXOUT. -/

namespace Sys2Proof.Machine

/-! ### Linearisation (R369, Table 16-4) -/

/-- One in fixed point, 2^-96. -/
def one96 : Int := 2 ^ 96

/-- The odd powers of `y` over the odd numbers from `k`, in fixed point: `t`, `t y² / 3`, … -/
def atanhSeries (y2 : Int) (k : Nat) (t : Int) : Nat → Int
  | 0 => 0
  | n + 1 => t / (k : Int) + atanhSeries y2 (k + 2) (t * y2 / one96) n

/-- ln of `m` in fixed point, `m` between 1/2 and 2. -/
def lnNear (m : Int) : Int :=
  let y := (m - one96) * one96 / (m + one96)
  2 * atanhSeries (y * y / one96) 1 y 70

/-- ln (n / d) in fixed point. -/
def lnFix (n d : Nat) : Int :=
  let k : Int := (Nat.log2 n : Int) - Nat.log2 d
  let m : Int := if 0 ≤ k then (n : Int) * one96 / (d * 2 ^ k.toNat : Nat) else ((n * 2 ^ (-k).toNat : Nat) : Int) * one96 / (d : Int)
  lnNear m + k * lnNear (2 * one96)

/-- RNOM and B of the β curves. -/
def betaCurve (c : Nat) : Option (Nat × Nat) :=
  match c with
  | 1 => some (10000, 3435)
  | 2 => some (10000, 3380)
  | 3 => some (10000, 3950)
  | 4 => some (47000, 4050)
  | 5 => some (100000, 4250)
  | 6 => some (2200, 3977)
  | 7 => some (5000, 3470)
  | 9 => some (22000, 3740)
  | _ => none

/-- A temperature in fixed point from 1 / T; none where it is not above 0 K. -/
def tempOf (inv : Int) : Option Int := if inv ≤ 0 then none else some (one96 * one96 / inv - 27315 * one96 / 100)

/-- IEC 60751: the resistance of a Pt1000 at `t` in 2^-12 °C, in 10^-15 Ω times 2^48. -/
def ptOhm (t : Int) : Int :=
  let a := 1000 * 10 ^ 15 * 2 ^ 48 + 39083 * 10 ^ 11 * t * 2 ^ 36 - 57750 * 10 ^ 7 * t * t * 2 ^ 24
  if 0 ≤ t then a else a - 4183000 * (t - 100 * 4096) * t * t * t

/-- The greatest `t` below `lo + 2 ^ n` whose resistance is at most `r`, by halving. -/
def ptSearch (r : Int) (lo : Int) : Nat → Int
  | 0 => lo
  | n + 1 => if ptOhm (lo + 2 ^ n) ≤ r then ptSearch r (lo + 2 ^ n) n else ptSearch r lo n

/-- A quotient rounded to the nearest integer, halves away from zero. -/
def awayRound (n : Int) (d : Nat) : Int := if n < 0 then -((2 * (-n) + d) / (2 * d : Nat)) else (2 * n + d) / (2 * d : Nat)

/-- R369: a temperature in fixed point as VALUE. Where the order of the binary32 operations, which the spec does not give, decides the rounding, the choice is free. -/
def State.value16 (s : State) (t : Int) : Int × Bool × State :=
  let lo := awayRound (16 * (t - one96 / 1024)) (2 ^ 96)
  let hi := awayRound (16 * (t + one96 / 1024)) (2 ^ 96)
  let r : Int × State := if lo = hi then (lo, s) else let f := s.freeNat; (if f.1 % 2 = 0 then lo else hi, f.2)
  (clampI r.1 (-880) 2480, decide (r.1 < -880 ∨ 2480 < r.1), r.2)

/-- The reference resistor of a slot, Ω. -/
def refOhms (r : Nat) : Nat := if r = 0 then 1000 else if r = 1 then 10000 else 100000

/-- R369: the resistance at RAW `raw` as numerator and denominator; none where it is not a positive number. -/
def ohmsOf (raw : Int) (ref : Nat) (test : Bool) : Option (Nat × Nat) :=
  let n : Int := 1000 * raw * ref
  let d : Int := (if test then 1016 else 1000) * 2 ^ 22 - 1000 * raw
  if 0 < n ∧ 0 < d then some (n.toNat, d.toNat) else none

/-- R369, Table 16-4: the temperature of a resistance under a curve, in fixed point; `none` at an end of the scale the value does not reach. -/
def State.tempCurve (s : State) (curve n d : Nat) : Option Int :=
  match betaCurve curve with
  | some (rnom, b) => tempOf (one96 * 10000 / 2981500 + lnFix n (d * rnom) / (b : Int))
  | none =>
    if curve = 8 then
      some (ptSearch ((n : Int) * 10 ^ 15 * 2 ^ 48 / (d : Int)) (-262144) 20 * (one96 / 4096))
    else
      let k := curve - 10
      let l := mkRat (lnFix n d) (2 ^ 96)
      match (F32.ofBits (s.get (F.HK.SH_A k))).rat, (F32.ofBits (s.get (F.HK.SH_B k))).rat, (F32.ofBits (s.get (F.HK.SH_C k))).rat with
      | some a, some b, some c => tempOf ((a + b * l + c * l * l * l) * (2 ^ 96 : Nat)).floor
      | _, _, _ => none

/-- R369: VALUE of a sensor that carries no flag, and RANGE. A temperature the curve does not give is free. -/
def State.sensorValue (s : State) (curve ref : Nat) (raw : Int) (test : Bool) : Int × Bool × State :=
  match ohmsOf raw ref test with
  | none => (2400, true, s)
  | some (n, d) =>
    if curve = 15 then (((min 0x7FFFFFFF ((2 * n + d) / (2 * d)) : Nat) : Int), false, s)
    else match s.tempCurve curve n d with
      | some t => s.value16 t
      | none => let f := s.freeNat; (signed 32 (f.1 % 2 ^ 32), true, f.2)

/-! ### Round and slots (R366, R368) -/

/-- NTC input `i`. -/
def State.ntc (s : State) (i : Nat) : NtcSt := spGet (fun _ => NtcSt.init) s.hk.ntcs i

/-- Replace the record of NTC input `i`. -/
def State.setNtc (s : State) (i : Nat) (x : NtcSt) : State := { s with hk := { s.hk with ntcs := spSet (fun _ => NtcSt.init) s.hk.ntcs i x } }

/-- The slot converting. -/
def State.hkSlot (s : State) : Nat := s.get F.HK.HK_STAT_SLOT

/-- A conversion starts: of slot `n`, or of the urgent slot before it. -/
def State.hkBegin (s : State) (n : Nat) (urgent : Bool) : State :=
  let s : State := { s with hk := { s.hk with due := n, inUrgent := urgent, trip := false, auxCode := s.get F.HK.CODE, auxMoved := false } }
  s.set F.HK.HK_STAT_SLOT (if urgent then s.hk.urgent.getD n else n)

/-- R371: an urgent conversion that waits takes the next period; else the slot that is due. -/
def State.hkNext (s : State) (due : Nat) : State :=
  match s.hk.urgent with
  | some _ => s.hkBegin due true
  | none => s.hkBegin due false

/-- R371: the urgent command ends. -/
def State.urgentEnd (s : State) (status detail : Nat) (data : List Byte) : State :=
  let s : State := { s with hk := { s.hk with urgent := none, inUrgent := false } }
  (s.set F.HK.HK_STAT_URGENT_PEND 0).complete 0x0801 status detail data

/-- R367: a block takes effect whole. -/
def State.hkApply (s : State) (b : List Byte) : State :=
  let s := (s.set F.HK.HK_CFG_F_INT (u16 b 0)).set F.HK.HK_CFG_CONV_EN (u8 b 2 % 2)
  let s := s.each (List.range 16) (fun s n =>
    let f := u8 b (9 + 3 * n)
    (((s.set (F.HK.HK_SLOT_CFG_INPUT n) (u8 b (8 + 3 * n))).set (F.HK.HK_SLOT_CFG_EN n) (bitsOf f 7 1)).set (F.HK.HK_SLOT_CFG_REF n)
      (bitsOf f 4 2)).set (F.HK.HK_SLOT_CFG_CURVE n) (bitsOf f 0 4))
  { s with hk := { s.hk with block := none } }

/-- R368: CONV_EN goes to 1: the references settle. -/
def State.hkSettle (s : State) : State := (s.set F.HK.HK_STAT_STARTING 1).set F.HK.HK_STAT_RUNNING 0

/-- R368: the converter stops. -/
def State.hkStop (s : State) : State :=
  let s := (s.set F.HK.HK_STAT_RUNNING 0).set F.HK.HK_STAT_TEST_ROUND 0
  let s : State := { s with hk := { s.hk with between := false } }
  if s.hk.urgent.isSome then s.urgentEnd 0x89 0 [] else s

/-- R368: 20 ms after the start round 0 begins at slot 0. -/
def State.hkStart (s : State) : State :=
  if s.domOn 65 && s.flag F.HK.HK_STAT_STARTING then
    let s := (((s.set F.HK.HK_STAT_STARTING 0).set F.HK.HK_STAT_RUNNING 1).set F.HK.ROUNDS 0).set F.HK.HK_STAT_TEST_ROUND 0
    let s : State := { s with hk := { s.hk with between := false, okRounds := 0, checkBad := false, served := [] } }
    let s := match s.hk.block with
      | some b => s.hkApply b
      | none => s
    if s.flag F.HK.HK_CFG_CONV_EN then s.hkNext 0 else s.hkStop
  else s

/-- Loops that take results of a housekeeping slot (Table 5-1): slot `n`, input `i`. -/
def State.slotLoops (s : State) (n i : Nat) : List Nat :=
  (if i = 3 then [4] else []) ++ (if i = 2 then [7] else []) ++
    [5, 6].filter (fun l => s.get (F.LOOP.LOOP_RATE_SRC l) == 2 && s.get (F.LOOP.LOOP_RATE_HK_SLOT l) == n)

/-- Loops that take any housekeeping result. -/
def State.hkLoops (s : State) : List Nat := [4, 7] ++ [5, 6].filter (fun l => s.get (F.LOOP.LOOP_RATE_SRC l) == 2)

/-- R137: a round without a result for a loop. -/
def State.hkUnserved (s : State) : State :=
  let s := s.each (s.hkLoops.filter (fun l => !s.hk.served.contains l)) State.loopMissed
  { s with hk := { s.hk with served := [] } }

/-- R112: T_E, the higher of NTC0 and NTC1 as delivered. -/
def State.hkEmitter (s : State) : State :=
  match (s.ntc 0).value, (s.ntc 1).value with
  | some a, some b => s.derateRound (max a b)
  | some a, none => s.derateRound a
  | none, some b => s.derateRound b
  | none, none => s

/-- A round is complete: R375's count, the loops' sources, T_E. -/
def State.hkRoundEnd (s : State) : State :=
  let s := s.inc F.HK.ROUNDS
  let n := if s.hk.checkBad then 0 else s.hk.okRounds + 1
  let s : State := { s with hk := { s.hk with between := true, checkBad := false, okRounds := n } }
  (s.when (decide (2 ≤ n)) (fun s => s.set F.HK.HK_STAT_CONV_FAULT 0)).hkUnserved.hkEmitter

/-- R366, R367, R371: a round starts: a new block applies first, then an urgent conversion that waits. A converter that is off gives no round: its period passes. -/
def State.hkRoundStart (s : State) : State :=
  if !s.domOn 65 then s
  else if s.hk.between && s.flag F.HK.HK_STAT_RUNNING then
    let fresh := s.hk.block.isSome
    let s := match s.hk.block with
      | some b => s.hkApply b
      | none => s
    if !s.flag F.HK.HK_CFG_CONV_EN then s.hkStop
    else
      let s := s.set F.HK.HK_STAT_TEST_ROUND (if fresh then 0 else 1 - s.get F.HK.HK_STAT_TEST_ROUND)
      let s : State := { s with hk := { s.hk with between := false } }
      let s := match s.hk.urgent with
        | some n => if s.flag (F.HK.HK_SLOT_CFG_EN n) then s else s.urgentEnd 0x8A n []
        | none => s
      s.hkNext 0
  else if !s.flag F.HK.HK_STAT_RUNNING && !s.flag F.HK.HK_STAT_STARTING then s.hkUnserved
  else s

/-! ### A conversion ends (R369 to R375, R384) -/

/-- Table 16-5: the verdict of an NTC conversion: 1 OPEN, 2 SHORT. -/
def ntcVerdict (x : NtcSt) (raw : Int) (test : Bool) : Option Nat :=
  if 995 * 2 ^ 22 ≤ 1000 * raw then some 1
  else if 1000 * raw ≤ 5 * 2 ^ 22 then some 2
  else if test && x.unflagged then
    match x.plain with
    | some p =>
      if 240 * p + 2 * 2 ^ 22 < 10000 * (raw - p) then some 1
      else if 10000 * (raw - p) < 80 * p - 2 * 2 ^ 22 then some 2 else none
    | none => none
  else none

/-- R373: the verdict sets its flag, or a clean pair clears it. -/
def State.ntcJudge (s : State) (i : Nat) (raw : Int) (test : Bool) : State :=
  let x := s.ntc i
  match ntcVerdict x raw test with
  | some v =>
    let was := s.bitAt F.HK.SENSOR_STAT_OPEN i || s.bitAt F.HK.SENSOR_STAT_SHORT i
    let s := (s.setBitAt F.HK.SENSOR_STAT_OPEN i (v == 1)).setBitAt F.HK.SENSOR_STAT_SHORT i (v == 2)
    let s := s.when (!was) (fun s => (s.inc F.HK.SENSOR_FAULTS).raise EV_HK_SENSOR_FAULT i v)
    if test then s else s.setNtc i { s.ntc i with plain := some raw, clean := false, unflagged := false }
  | none =>
    if test then
      let v := if s.bitAt F.HK.SENSOR_STAT_OPEN i then 1 else if s.bitAt F.HK.SENSOR_STAT_SHORT i then 2 else 0
      if x.clean && decide (0 < v) then
        ((s.setBitAt F.HK.SENSOR_STAT_OPEN i false).setBitAt F.HK.SENSOR_STAT_SHORT i false).raise EV_HK_SENSOR_CLEAR i v
      else s
    else
      let quiet := !s.hk.trip && !s.flag F.HK.HK_STAT_CONV_FAULT
      s.setNtc i { s.ntc i with plain := some raw, clean := true, unflagged := quiet }

/-- R375: the zero or the reference check fails. -/
def State.checkFails (s : State) (kind : Nat) : State :=
  let was := s.flag F.HK.HK_STAT_CONV_FAULT
  let s : State := { s with hk := { s.hk with checkBad := true } }
  (s.set F.HK.HK_STAT_CONV_FAULT 1).when (!was) (fun s => (s.inc F.HK.CONV_FAULTS).raise EV_HK_CONVERTER 0 kind)

/-- R375: the checks. -/
def State.checkSlot (s : State) (input : Nat) (raw : Int) : State :=
  let nom := s.getI F.HK.REF_CHECK_NOM
  if input = 0x18 ∧ 2097 < raw.natAbs then s.checkFails 1
  else if input = 0x19 ∧ nom.natAbs < 500 * (raw - nom).natAbs then s.checkFails 2
  else s

/-- R384: a readback of AUXOUT. -/
def State.auxReadback (s : State) (raw : Int) : State :=
  if s.hk.auxMoved then s
  else
    let n := if 64 * 328 < (raw - 64 * s.hk.auxCode).natAbs then s.hk.auxBad + 1 else 0
    let s : State := { s with hk := { s.hk with auxBad := n } }
    if 2 ≤ n ∧ !s.flag F.HK.AUX_STAT_AUX_FAULT then (s.set F.HK.AUX_STAT_AUX_FAULT 1).raise EV_AUXOUT_FAULT 0 0 else s

/-- R369: VALUE of a voltage input in µV; what one reference means at the signal is the device's (Config.microvolts). -/
def voltageValue (input : Nat) (raw : Int) : Int := rnd (raw * Config.microvolts input) 22

/-- R373 to R375: VALUE, RANGE, OPEN, SHORT and SUSPECT of a result. -/
def State.hkValue (s : State) (input curve ref : Nat) (raw : Int) (test : Bool) : Int × Nat × State :=
  if input < 4 then
    let isOpen := s.bitAt F.HK.SENSOR_STAT_OPEN input
    let isShort := s.bitAt F.HK.SENSOR_STAT_SHORT input
    let suspect := s.hk.trip || s.flag F.HK.HK_STAT_CONV_FAULT
    let fl := bit isOpen + 2 * bit isShort + 4 * bit suspect
    if isOpen then (if curve = 15 then 0x7FFFFFFF else 2400, fl, s)
    else if isShort then (if curve = 15 then 0 else 2400, fl, s)
    else if suspect then (2400, fl, s)
    else if curve = 0 then (raw, 0, s)
    else let v := s.sensorValue curve ref raw test; (v.1, 8 * bit v.2.1, v.2.2)
  else (if curve = 14 then voltageValue input raw else raw, 0, s)

/-- R369 to R375: the result of slot `n` is judged and published; the NTC input it belongs to. -/
def State.hkDeliver (s : State) (n : Nat) (raw : Int) (urgent : Bool) : Option Nat × State :=
  let input := s.get (F.HK.HK_SLOT_CFG_INPUT n)
  let curve := s.get (F.HK.HK_SLOT_CFG_CURVE n)
  let isNtc := decide (input < 4)
  let test := isNtc && !urgent && s.flag F.HK.HK_STAT_TEST_ROUND
  let s := s.checkSlot input raw
  let s := s.when isNtc (fun s => s.ntcJudge input raw test)
  let s := s.when (input == 0x12) (fun s => s.auxReadback raw)
  let v := s.hkValue input curve (refOhms (s.get (F.HK.HK_SLOT_CFG_REF n))) raw test
  let s := v.2.2
  let flags := v.2.1 + 16 * bit test + 32 * bit urgent + 64 * s.get F.HK.HK_STAT_CONV_FAULT
  let info := n * 2 ^ 28 + input * 256 + flags
  let late := s.flag ⟨F.HK.HK_DATA_ST.addr, 31, 1⟩
  let s := s.when late (fun s => (s.set ⟨F.HK.HK_DATA_ST.addr, 30, 1⟩ 1).inc F.HK.OVERRUNS)
  let s := (((s.set ⟨F.HK.HK_DATA_INFO_SLOT.addr, 0, 32⟩ info).setI F.HK.VALUE v.1).setI F.HK.RAW raw).set64 F.HK.TIME_LO F.HK.TIME_HI s.time.dev
  let s := (((s.set (F.HK.SLOT_INFO n) info).setI (F.HK.SLOT_VALUE n) v.1).setI (F.HK.SLOT_RAW n) raw).set64 (F.HK.SLOT_TIME_LO n)
    (F.HK.SLOT_TIME_HI n) s.time.dev
  let s := ((s.publish F.HK.HK_DATA_ST).publish (F.HK.SLOT_ST n)).inc F.HK.CONVERSIONS
  let bad := decide (0 < flags % 8)
  let s := s.when (decide (flags / 4 % 2 = 1)) (fun s => s.inc F.HK.SUSPECTS)
  let s := s.when isNtc (fun s => (s.setBitAt F.HK.SENSOR_STAT_SUSPECT_LAST input (decide (flags / 4 % 2 = 1))).setNtc input
    { s.ntc input with value := some v.1, bad := bad })
  let ls := s.slotLoops n input
  let s := s.each ls (fun s l => s.loopSource l v.1 bad)
  let s : State := { s with hk := { s.hk with served := s.hk.served ++ ls } }
  (if isNtc then some input else none, s)

/-- R366, R369: a slot's integration ends; a disabled slot delivers nothing. -/
def State.hkEnd (s : State) (raw : Int) : Option Nat × State :=
  if s.domOn 65 && s.flag F.HK.HK_STAT_RUNNING && !s.hk.between && !s.hk.inUrgent then
    let n := s.hkSlot
    let r := if s.flag (F.HK.HK_SLOT_CFG_EN n) then s.hkDeliver n raw false else (none, s)
    (r.1, if n = 15 then r.2.hkRoundEnd else r.2.hkNext (n + 1))
  else (none, s)

/-- R371: the urgent conversion ends and the command completes. -/
def State.urgentComplete (s : State) (raw : Int) : Option Nat × State :=
  match s.hk.urgent with
  | some n =>
    if s.domOn 65 && s.hk.inUrgent then
      let r := s.hkDeliver n raw true
      let s := r.2.inc F.HK.URGENT_DONE
      let s := s.urgentEnd 0 0 (wordBytes [s.rd F.HK.VALUE.addr, s.rd F.HK.HK_DATA_INFO_SLOT.addr])
      (r.1, s.hkBegin s.hk.due false)
    else (none, s)
  | none => (none, s)

/-- R374: the comparator trips on the NTC pin under conversion. -/
def State.ntcTrip (s : State) : State :=
  let n := if s.hk.inUrgent then s.hk.urgent.getD 0 else s.hkSlot
  if s.domOn 65 && s.flag F.HK.HK_STAT_RUNNING && !s.hk.between && s.flag (F.HK.HK_SLOT_CFG_EN n) && decide (s.get (F.HK.HK_SLOT_CFG_INPUT n) < 4) then
    { s with hk := { s.hk with trip := true } }
  else s

/-! ### TIA channels (R376 to R382) -/

/-- TIA channel `c`. -/
def State.tia (s : State) (c : Nat) : TiaSt := spGet (fun _ => TiaSt.init) s.hk.tias c

/-- Replace the record of channel `c`. -/
def State.setTia (s : State) (c : Nat) (x : TiaSt) : State := { s with hk := { s.hk with tias := spSet (fun _ => TiaSt.init) s.hk.tias c x } }

/-- Table 16-8: S of a preset. -/
def tiaSettling (p : Nat) : Nat := if p = 0 then 3 else if p = 1 then 13 else 54

/-- R379: channel `c` restarts now, under the settings its registers hold. -/
def State.tiaRestart (s : State) (c : Nat) (zero : Bool) : State :=
  let p := s.get (F.TIA.TIA_CFG_PRESET c)
  let x := s.tia c
  let s := s.setTia c { x with
    run := true, range := s.get (F.TIA.TIA_CFG_RANGE c), preset := p, left := tiaSettling p - 1, first := true,
    zero := zero || x.zero, pend := false, pendZero := false, ovl := 0, small := 0, high := 0, low := 0 }
  (s.set (F.TIA.TIA_STAT_SETTLING c) 1).inc (F.TIA.RESTARTS c)

/-- R379: a restart is wanted at the next boundary of channel `c`. -/
def State.tiaWant (s : State) (c : Nat) (zero : Bool) : State :=
  if s.flag (F.TIA.TIA_CFG_EN c) then s.setTia c { s.tia c with pend := true, pendZero := (s.tia c).pendZero || zero } else s

/-- R382: HIGH and LOW of a delivered word. -/
def State.tiaThreshold (s : State) (c : Nat) (code : Int) : State :=
  let x := s.tia c
  let n := s.get (F.TIA.TIA_THR_CFG_N c)
  let hyst : Int := 256 * s.get (F.TIA.TIA_THR_CFG_HYST c)
  let hi := s.getI (F.TIA.THR_HI c)
  let lo := s.getI (F.TIA.THR_LO c)
  let high := if hi < code then x.high + 1 else 0
  let low := if code < lo then x.low + 1 else 0
  let s := s.setTia c { x with high := high, low := low }
  let s := if !s.flag (F.TIA.TIA_THR_CFG_HI_EN c) then s
    else if s.flag (F.TIA.TIA_STAT_HIGH c) then s.when (decide (code < hi - hyst)) (fun s => s.set (F.TIA.TIA_STAT_HIGH c) 0)
    else s.when (decide (n ≤ high)) (fun s => ((s.set (F.TIA.TIA_STAT_HIGH c) 1).inc (F.TIA.THR_EVENTS c)).raise EV_HK_THRESHOLD c 1)
  if !s.flag (F.TIA.TIA_THR_CFG_LO_EN c) then s
  else if s.flag (F.TIA.TIA_STAT_LOW c) then s.when (decide (lo + hyst < code)) (fun s => s.set (F.TIA.TIA_STAT_LOW c) 0)
  else s.when (decide (n ≤ low)) (fun s => ((s.set (F.TIA.TIA_STAT_LOW c) 1).inc (F.TIA.THR_EVENTS c)).raise EV_HK_THRESHOLD c 2)

/-- R381: runs of overloaded and of small words move the range. -/
def State.tiaAuto (s : State) (c : Nat) (code : Int) (ovl : Bool) : State :=
  let x := s.tia c
  let many := if ovl then x.ovl + 1 else 0
  let small := if code.natAbs < 671089 then x.small + 1 else 0
  let s := s.setTia c { x with ovl := many, small := small }
  if !s.flag (F.TIA.TIA_CFG_AUTO_RANGE c) then s
  else if 8 ≤ many ∧ x.range < 5 ∧ !x.pend then (s.set (F.TIA.TIA_CFG_RANGE c) (x.range + 1)).tiaWant c false
  else if 256 ≤ small ∧ 0 < x.range ∧ !x.pend then (s.set (F.TIA.TIA_CFG_RANGE c) (x.range - 1)).tiaWant c false
  else s

/-- R376, R377: a word is delivered. -/
def State.tiaDeliver (s : State) (c : Nat) (code : Int) : State :=
  let ovl := decide (8220836 ≤ code.natAbs)
  let s := (s.setFlag (F.TIA.TIA_STAT_OVL c) ovl).tiaThreshold c code
  let x := s.tia c
  let k := if x.zero then 0 else x.sample
  let s := (((s.setI (F.TIA.VALUE c) code).set (F.TIA.SAMPLE c) k).set (F.TIA.PRESET c) x.preset).set (F.TIA.RANGE c) x.range
  let s := s.set (F.TIA.FLAGS c) (bit x.first + 2 * bit ovl + 4 * s.get (F.TIA.TIA_STAT_HIGH c) + 8 * s.get (F.TIA.TIA_STAT_LOW c))
  let s := (s.set64 (F.TIA.TIME_LO c) (F.TIA.TIME_HI c) s.time.dev).publish (F.TIA.TIA_RES_ST c)
  let s := s.setTia c { x with first := false, zero := false, sample := k + 1, half := some code }
  let ls := [5, 6].filter (fun l => s.get (F.LOOP.LOOP_RATE_SRC l) == 3 && s.get (F.LOOP.LOOP_RATE_TIA l) == c)
  (s.each ls (fun s l => s.loopSource l code false)).tiaAuto c code ovl

/-- R379: a word is suppressed. -/
def State.tiaSuppress (s : State) (c : Nat) : State :=
  let x := s.tia c
  let s := (s.setTia c { x with left := x.left - 1, sample := x.sample + 1 }).inc (F.TIA.SUPPRESSED c)
  s.when (x.left == 1) (fun s => s.set (F.TIA.TIA_STAT_SETTLING c) 0)

/-! ### Window monitor (R383) -/

/-- The lowest-numbered ROLE 1 channel. -/
def State.wmLead (s : State) : Option Nat := (List.range 4).find? (fun c => s.flag (F.TIA.TIA_CFG_ROLE c))

/-- R383: LEVEL of the ROLE 1 channels at a switch-on. -/
def State.wmLevels (s : State) : State :=
  let s := s.each (List.range 4) (fun s c =>
    if s.flag (F.TIA.TIA_CFG_ROLE c) then
      match (s.tia c).lit, (s.tia c).half with
      | some a, some b => s.setI (F.HK.LEVEL c) (a - b)
      | _, _ => s
    else s.set (F.HK.LEVEL c) 0)
  s.publish F.HK.WM_RES_ST

/-- R383: the source switches at a boundary of the lowest-numbered ROLE 1 channel; every ROLE 1 channel restarts at its own next boundary, the lowest at this one. -/
def State.wmSwitch (s : State) (on auto : Bool) : State :=
  let cs := (List.range 4).filter (fun c => s.flag (F.TIA.TIA_CFG_ROLE c))
  let short := cs.any (fun c => (s.tia c).half.isNone)
  let s := s.when (auto && short) (fun s => s.inc F.HK.WM_SHORT)
  let s := s.when (auto && on) State.wmLevels
  let s := s.each cs (fun s c =>
    let x := s.tia c
    s.setTia c { x with lit := if on then none else x.half, half := none })
  let s : State := (({ s with hk := { s.hk with lit := on, litPend := none } } : State).setFlag F.HK.WM_CTRL_SRC on)
  let s := s.each cs (fun s c => s.tiaWant c false)
  match s.wmLead with
  | some c => s.when (s.tia c).pend (fun s => s.tiaRestart c (s.tia c).pendZero)
  | none => s

/-- R383: the automatic toggle. -/
def State.wmToggle (s : State) : State :=
  if s.domOn 65 && s.flag F.HK.WM_CTRL_AUTO then s.wmSwitch (!s.hk.lit) true else s

/-- R383: a write of WM_CTRL; SRC is read-only while AUTO, and a change waits for the lowest ROLE 1 channel's boundary. -/
def State.wrWmCtrl (s : State) (v : Word) : State :=
  let auto := bitsOf v.toNat 1 1
  let src := bitsOf v.toNat 0 1 == 1
  let s := s.set F.HK.WM_CTRL_AUTO auto
  if auto = 1 then s
  else
    let s := s.setFlag F.HK.WM_CTRL_SRC src
    if s.wmLead.isNone then { s with hk := { s.hk with lit := src, litPend := none } }
    else { s with hk := { s.hk with litPend := if src == s.hk.lit then none else some src } }

/-- R377, R379, R383: a word boundary of channel `c`: the word, then a restart or a change of the source that waited for it. -/
def State.tiaWord (s : State) (c : Nat) (code : Int) : State :=
  if !s.domOn 65 then s
  else
    let x := s.tia c
    let s := if !x.run then s else if 0 < x.left then s.tiaSuppress c else s.tiaDeliver c (clampI code (-(2 ^ 23 - 1)) (2 ^ 23 - 1))
    match s.hk.litPend with
    | some on => if s.wmLead = some c then s.wmSwitch on false else s.when x.pend (fun s => s.tiaRestart c x.pendZero)
    | none => s.when x.pend (fun s => s.tiaRestart c x.pendZero)

/-- R379: a write of TIA_CFG. -/
def State.wrTiaCfg (s : State) (c : Nat) (v : Word) : State :=
  let old := s
  let s := s.hostWrite (F.TIA.TIA_CFG_EN c).addr v
  let rose := s.flag (F.TIA.TIA_CFG_EN c) && !old.flag (F.TIA.TIA_CFG_EN c)
  let zero := rose || s.get (F.TIA.TIA_CFG_PRESET c) != old.get (F.TIA.TIA_CFG_PRESET c)
  if !s.flag (F.TIA.TIA_CFG_EN c) then
    (s.setTia c { s.tia c with run := false, left := 0, pend := false, pendZero := false }).set (F.TIA.TIA_STAT_SETTLING c) 0
  else if zero || s.get (F.TIA.TIA_CFG_RANGE c) != old.get (F.TIA.TIA_CFG_RANGE c) then s.tiaWant c zero
  else s

/-- R320, R380: at a SYNC edge the decimators of all four channels restart together, and SAMPLE begins at 0. -/
def State.hkSyncEdge (s : State) : State :=
  if s.domOn 65 then
    let s := s.each (List.range 4) (fun s c => s.when (s.flag (F.TIA.TIA_CFG_EN c)) (fun s => s.tiaRestart c true))
    s
  else s

/-! ### AUXOUT (R141, R384) -/

/-- A loop that is not OFF drives AUXOUT. -/
def State.auxOwned (s : State) : Bool := s.domOn 67 && [5, 6].any (fun l => s.get (F.LOOP.LOOP_RATE_DEST l) == 1 && s.mode l != 0)

/-- R384: SAFE_CODE is held. -/
def State.auxHeld (s : State) : Bool := s.flag F.HK.AUX_CTRL_SAFE_EN && (s.pw.st == .safeHold || s.pw.st == .thermalLatch)

/-- A new code. -/
def State.setAux (s : State) (code : Nat) : State :=
  let moved := s.hk.auxMoved || code != s.get F.HK.CODE
  ({ s with hk := { s.hk with auxMoved := moved } } : State).set F.HK.CODE code

/-- R384: entry to SAFE_HOLD or THERMAL_LATCH. -/
def State.auxSafe (s : State) : State := if s.flag F.HK.AUX_CTRL_SAFE_EN then s.setAux (s.get F.HK.AUX_CTRL_SAFE_CODE) else s

/-- R384: an output of loop `n` with DEST AUXOUT. -/
def State.auxFromLoop (s : State) (n : Nat) : State :=
  if (n == 5 || n == 6) && s.get (F.LOOP.LOOP_RATE_DEST n) == 1 && s.mode n != 0 && !s.auxHeld then
    s.setAux (clampI (s.loop n).out 0 65535).toNat
  else s

/-! ### Commands (R367, R371, R376, R384) -/

/-- Whether a curve is allowed for an input (Table 16-1); none: no such input. -/
def curveOk (input curve : Nat) : Option Bool :=
  if input < 4 then some (curve != 14)
  else if 8 ≤ input ∧ input ≤ 0x11 then some (curve == 14)
  else if input = 0x12 ∨ input = 0x18 ∨ input = 0x19 then some (curve == 0)
  else if input = 0x13 ∨ input = 0x14 then some (curve == 0 || curve == 14)
  else none

/-- R367: the fields of a housekeeping block that offend, with their byte offsets, in order. -/
def hkBlockBad (b : List Byte) : List (Bool × Nat) :=
  [(decide (u16 b 0 < 100 ∨ 4000 < u16 b 0), 0), (decide (2 ≤ u8 b 2), 2), (notZero b 3 1, 3), (notZero b 4 4, 4)] ++
    (List.range 16).flatMap (fun n =>
      let input := u8 b (8 + 3 * n)
      let f := u8 b (9 + 3 * n)
      [((curveOk input 0).isNone, 8 + 3 * n),
        (curveOk input (f % 16) == some false || bitsOf f 4 2 == 3 || bitsOf f 6 1 == 1, 9 + 3 * n), (notZero b (10 + 3 * n) 1, 10 + 3 * n)]) ++
    [(notZero b 56 4, 56), (notZero b 60 4, 60)]

/-- R367: the input among NTC0 to NTC3, the zero and the reference check that no enabled slot has. -/
def hkMissing (b : List Byte) : Option Nat :=
  [0, 1, 2, 3, 0x18, 0x19].find? (fun i => !(List.range 16).any (fun n => u8 b (8 + 3 * n) == i && bitsOf (u8 b (9 + 3 * n)) 7 1 == 1))

/-- R367: HK_CONFIG. -/
def cmdHkConfig (s : State) (p : List Byte) : Reply :=
  let off := u8 p 2 % 2 == 0
  s.guarded ([s.badState (off && s.pw.st == .scanning)] ++ (hkBlockBad p).map (fun e => badParam e.1 (e.2 / 4)) ++
      [((hkMissing p).isSome, 0x88, (hkMissing p).getD 0)])
    (if s.flag F.HK.HK_STAT_RUNNING || s.flag F.HK.HK_STAT_STARTING then ({ s with hk := { s.hk with block := some p } } : State).done []
     else
      let s := s.hkApply p
      (if off then s else s.hkSettle).done [])

/-- R371: HK_URGENT. -/
def cmdHkUrgent (s : State) (p : List Byte) : Reply :=
  let n := u8 p 0
  s.guarded [badParam (decide (15 < n) || notZero p 1 3) 0, (!s.flag F.HK.HK_CFG_CONV_EN || s.flag F.HK.HK_STAT_STARTING, 0x89, 0),
      (!s.flag (F.HK.HK_SLOT_CFG_EN n), 0x8A, n)]
    (s.accept 0x0801 (({ s with hk := { s.hk with urgent := some n } } : State).set F.HK.HK_STAT_URGENT_PEND 1))

/-- R376, R379: TIA_RANGE. -/
def cmdTiaRange (s : State) (p : List Byte) : Reply :=
  let c := u8 p 0
  s.guarded [badParam (decide (3 < c) || decide (5 < u8 p 1) || notZero p 2 2) 0]
    (((s.set (F.TIA.TIA_CFG_RANGE c) (u8 p 1)).tiaWant c false).done [])

/-- R384: AUXOUT_SET. -/
def cmdAuxoutSet (s : State) (p : List Byte) : Reply :=
  s.guarded [s.badState (s.auxOwned || s.auxHeld), badParam (notZero p 0 2) 0] ((s.setAux (u16 p 2)).done [])

end Sys2Proof.Machine
end

