-- ==== Sys2Proof/Machine/Thermal.lean ====
section
/-! DEFINITION. Thermal management (chapter 17): diodes and hubs, the governor, throttle levels, shutdown, the thermal block. -/

namespace Sys2Proof.Machine

/-! ### Diodes and hubs (R387, R388) -/

/-- Insertion into a rising list. -/
def insertSorted (x : Int) : List Int → List Int
  | [] => [x]
  | y :: l => if x ≤ y then x :: y :: l else y :: insertSorted x l

/-- A list in rising order. -/
def sortInts (l : List Int) : List Int := l.foldr insertSorted []

/-- Twice the median of 16 readings: the sum of the middle two. -/
def median16 (l : List Int) : Int := (sortInts l).getD 7 0 + (sortInts l).getD 8 0

/-- R388: diode `d` is faulted. -/
def State.diodeFails (s : State) (d : Nat) : State :=
  if s.bitAt F.TH.DIODE_FAULT d then s else (s.setBitAt F.TH.DIODE_FAULT d true).raise EV_DIODE_FAULT d 0

/-- R388: a reading of diode `d` against the range and the median. -/
def State.diodeRead (s : State) (med2 : Int) (d : Nat) (t : Int) : State :=
  let n := if 1280 < (2 * t - med2).natAbs then spGet (fun _ => 0) s.th.off d + 1 else 0
  let s : State := { s with th := { s.th with off := spSet (fun _ => 0) s.th.off d (min n 10) } }
  if t < -960 ∨ 2880 < t ∨ 10 ≤ n then s.diodeFails d else s

/-- The hottest of the valid diodes of a hub; none with fewer than two. -/
def State.hubOf (s : State) (codes : List Int) (h : Nat) : Option Int :=
  let ts := ((List.range 4).filter (fun i => !s.bitAt F.TH.DIODE_FAULT (4 * h + i))).map (fun i => codes.getD (4 * h + i) 0)
  match ts with
  | a :: b :: l => some ((b :: l).foldl max a)
  | _ => none

/-- R388: the mean of the valid hubs, rounded to the nearest 1/16 °C. -/
def hubsMean (hubs : List (Option Int)) : Option Int :=
  let ts := hubs.filterMap id
  if ts.isEmpty then none else some ((2 * ts.sum + ts.length) / (2 * ts.length : Nat))

/-- R387, R388: every 1 ms the hubs read their diodes, in 1/16 °C. -/
def State.hubReading (s : State) (codes : List Int) : State :=
  if !s.domOn 65 then s
  else
    let s := s.each (List.range 16) (fun s d => s.diodeRead (median16 codes) d (codes.getD d 0))
    let hubs := (List.range 4).map (s.hubOf codes)
    let s := s.set F.TH.TH_STAT_FAULT_HUB ((List.range 4).foldl (fun m h => m + bit (hubs.getD h none).isNone * 2 ^ h) 0)
    let top := (hubs.filterMap id).foldl (fun (m : Option Int) t => some (max t (m.getD t))) s.th.jmax
    let s : State := { s with th := { s.th with hubs := hubs, mean := hubsMean hubs, jmax := top } }
    match top with
    | some t => s.setI F.TH.JMAX t
    | none => s

/-! ### The governor (R389 to R391) -/

/-- A sensor's thresholds WARN, THR1, THR2 in °C, and whether its throttle is enabled; 0 to 3 hubs, 4 to 7 NTCs. -/
def State.thresholds (s : State) (k : Nat) : List Nat × Bool :=
  if k < 4 then ([s.get F.TH.TH_HUB_WARN, s.get F.TH.TH_HUB_THR1, s.get F.TH.TH_HUB_THR2], true)
  else ([s.get (F.TH.TH_NTC_WARN (k - 4)), s.get (F.TH.TH_NTC_THR1 (k - 4)), s.get (F.TH.TH_NTC_THR2 (k - 4))], s.flag (F.TH.TH_NTC_THR_EN (k - 4)))

/-- Sensor `k` of the governor. -/
def State.sensor (s : State) (k : Nat) : SensorSt := spGet (fun _ => SensorSt.init) s.th.sensors k

/-- R390, R391: an evaluation of sensor `k` at `t` in 1/16 °C. -/
def State.sensorEval (s : State) (k : Nat) (t : Int) (faulted : Bool) : State :=
  let x := s.sensor k
  let th := s.thresholds k
  let now := s.time.dev.toNat
  let temp := if faulted then 2400 else t
  let on := fun (i : Nat) => i == 0 || th.2
  let up := (List.range 3).map (fun i => if on i && decide (16 * (th.1.getD i 0 : Int) < temp) then x.up.getD i 0 + 1 else 0)
  let since := (List.range 3).map (fun i =>
    if !on i || (!faulted && decide (t < 16 * (th.1.getD i 0 : Int) - 16 * s.get F.TH.TH_TIME_HYST)) then some ((x.since.getD i none).getD now) else none)
  let risen := if faulted then (if th.2 then 3 else 1) else (List.range 3).foldl (fun r i => if 2 ≤ up.getD i 0 then i + 1 else r) 0
  let ready := match since.getD (x.rank - 1) none with
    | some t0 => decide (s.get F.TH.TH_TIME_FALL_T * 10 ^ 9 ≤ now - t0)
    | none => false
  let rank := if x.rank < risen then risen else if 0 < x.rank && ready then x.rank - 1 else x.rank
  { s with th := { s.th with sensors := spSet (fun _ => SensorSt.init) s.th.sensors k ⟨rank, up, since⟩ } }

/-- The highest rank of any sensor. -/
def State.topRank (s : State) : Nat := ((List.range 8).map (fun k => (s.sensor k).rank)).foldl max 0

/-- R390: LEVEL, WARN and GOVERN follow the sensors. -/
def State.govern (s : State) : State :=
  let top := s.topRank
  let was := s.get F.TH.TH_STAT_LEVEL
  let warned := s.flag F.TH.TH_STAT_WARN
  let gov := if top < 2 then 0xFF else ((List.range 8).find? (fun k => (s.sensor k).rank == top)).getD 0xFF
  let s := ((s.set F.TH.TH_STAT_LEVEL (top - 1)).setFlag F.TH.TH_STAT_WARN (decide (0 < top))).set F.TH.GOVERN gov
  let s := s.when (decide (0 < top) && !warned) (fun s => (s.inc F.TH.WARN_EPISODES).raise EV_THERMAL_WARNING gov (top - 1))
  if was < top - 1 then (s.inc F.TH.STEPS_UP).raise EV_THERMAL_THROTTLE gov (top - 1)
  else s.when (decide (top - 1 < was)) (fun s => s.inc F.TH.STEPS_DOWN)

/-- R390, R391: a result of NTC `i` is evaluated. -/
def State.ntcEval (s : State) (i : Nat) : State :=
  let x := s.ntc i
  ((s.setBitAt F.TH.TH_STAT_FAULT_NTC i x.bad).sensorEval (4 + i) (x.value.getD 0) x.bad).govern

/-- R395: whether hub `h` lies at SHUT, counted. -/
def State.shutCount (s : State) (h : Nat) : State :=
  let hot := match s.th.hubs.getD h none with
    | some t => decide (16 * (s.get F.TH.TH_HUB_SHUT : Int) ≤ t)
    | none => false
  let n := if hot then min 2 (spGet (fun _ => 0) s.th.shut h + 1) else 0
  { s with th := { s.th with shut := spSet (fun _ => 0) s.th.shut h n } }

/-- The result group of an evaluation. -/
def State.thermalPublish (s : State) : State :=
  let hub := fun (h : Nat) => unsigned 16 ((s.th.hubs.getD h none).getD 2400)
  let ntc := fun (i : Nat) => unsigned 16 ((s.ntc i).value.getD 0)
  let s := (s.set F.TH.HUB1_HUB0 (hub 1 * 65536 + hub 0)).set F.TH.HUB3_HUB2 (hub 3 * 65536 + hub 2)
  let s := (s.set F.TH.NTC1_NTC0 (ntc 1 * 65536 + ntc 0)).set F.TH.NTC3_NTC2 (ntc 3 * 65536 + ntc 2)
  (s.set64 F.TH.TIME_LO F.TH.TIME_HI s.time.dev).publish F.TH.TH_RES_ST

/-- R390, R395: the governor's evaluation of the hubs every 10 ms; whether it shuts down. -/
def State.thermalEval (s : State) : Bool × State :=
  if s.domOn 65 && s.domOn 66 then
    let s := s.when (decide (0 < s.get F.TH.TH_STAT_LEVEL))
      (fun s => ({ s with th := { s.th with ms := s.th.ms + 10 } } : State).add F.TH.THROTTLE_MS 10)
    let s := s.each (List.range 4) (fun s h => s.sensorEval h ((s.th.hubs.getD h none).getD 2400) (s.th.hubs.getD h none).isNone)
    let s := (s.each (List.range 4) State.shutCount).govern.thermalPublish
    if (List.range 4).any (fun h => spGet (fun _ => 0) s.th.shut h == 2) && !s.pw.latchFlag then
      (true, s.raise EV_THERMAL_SHUTDOWN (s.get F.TH.GOVERN) (s.get F.TH.TH_STAT_LEVEL))
    else (false, s)
  else (false, s)

/-! ### Throttling (R392, R393) -/

/-- R392: the effective zoom count at a throttle level. -/
def zoomEff (level zoomN : Nat) : Nat :=
  if level = 0 then zoomN else if level = 1 then min zoomN (max 2 (2 * (zoomN / 4))) else min zoomN (max 2 (2 * (zoomN / 8)))

/-- R393: a throttle restart is pending. -/
def State.throttlePending (s : State) : Bool := s.pw.st == .scanning && s.get F.TH.TH_STAT_LEVEL != s.th.inForce

/-! ### Registers and commands (R389, R407) -/

/-- R389: a write of TH_HUB or TH_NTC that breaks the order is discarded whole. -/
def State.wrThermal (s : State) (a : Nat) (v : Word) : State :=
  let b := fun (lo : Nat) => bitsOf v.toNat lo 8
  if a = F.TH.TH_HUB_WARN.addr then
    if b 24 < b 16 ∧ b 16 < b 8 ∧ b 8 < b 0 ∧ b 0 ≤ 135 then s.hostWrite a v else s.set F.TH.TH_STAT_CFG_ERR 1
  else if (List.range 4).any (fun i => a == (F.TH.TH_NTC_WARN i).addr) then
    if bitsOf v.toNat 24 1 = 0 ∨ (b 16 < b 8 ∧ b 8 < b 0) then s.hostWrite a v else s.set F.TH.TH_STAT_CFG_ERR 1
  else s.hostWrite a v

/-- Table 17-8. -/
def State.thermalBlock (s : State) : List Byte :=
  let words := fun (f : Fld) => beBytes 2 (s.get f % 65536) ++ beBytes 2 (s.get f / 65536)
  beBytes 1 (s.get F.TH.TH_STAT_LEVEL + 4 * s.get F.TH.TH_STAT_WARN + 8 * bit s.throttlePending) ++ beBytes 1 (s.get F.TH.GOVERN) ++
    beBytes 1 (s.get F.TH.TH_STAT_FAULT_HUB + 16 * s.get F.TH.TH_STAT_FAULT_NTC) ++ zeros 1 ++
    words F.TH.HUB1_HUB0 ++ words F.TH.HUB3_HUB2 ++ words F.TH.NTC1_NTC0 ++ words F.TH.NTC3_NTC2 ++
    beBytes 2 (s.get F.TH.JMAX) ++ beBytes 1 (s.get F.CAL.CAL_STAT_DUE) ++ zeros 1 ++
    beBytes 4 (s.get F.TH.TIME_HI) ++ beBytes 4 (s.get F.TH.TIME_LO) ++
    (match s.th.mean with | some t => beInt 2 t | none => beBytes 2 0x8000) ++ beBytes 2 (s.get F.CAL.CAL_T_TDC) ++
    beBytes 4 (min s.th.ms (2 ^ 32 - 1)) ++ beBytes 4 (min s.th.steps (2 ^ 32 - 1)) ++ beBytes 4 (s.get F.CAL.CAL_GEN)

/-- R407: THERMAL_READ. -/
def cmdThermalRead (s : State) : Reply := s.done s.thermalBlock

end Sys2Proof.Machine
end

