-- ==== Sys2Proof/Machine/Illum.lean ====
section
/-! DEFINITION. Illuminator drive (chapter 18): levels and spread dimming, gating to the cameras, derating from NTC2, probes and string faults. -/

namespace Sys2Proof.Machine

/-- String `n`'s controller. -/
def State.illStr (s : State) (n : Nat) : IllSt := spGet (fun _ => IllSt.init) s.ill n

/-- Replace string `n`'s controller. -/
def State.setIll (s : State) (n : Nat) (x : IllSt) : State := { s with ill := spSet (fun _ => IllSt.init) s.ill n x }

/-- R416: CEIL. -/
def State.illCeil (s : State) : Nat :=
  if s.domOn 67 && s.mode 7 != 0 then (clampI (s.loop 7).out 0 65535).toNat else 65535

/-- The MODE written, 3 acting as 0. -/
def State.illMode (s : State) (n : Nat) : Nat := s.get (F.ILS.ILL_STR_CFG_MODE n) % 3

/-- R414: whether camera `c` gives windows: it runs and has delivered 2 FS since CAM_RUN. -/
def State.illCamera (s : State) (c : Nat) : Bool := s.domOn 75 && s.camRuns c && !(s.cam c).gaps.isEmpty

/-- R414: NO_WINDOW of string `n`. -/
def State.noWindow (s : State) (n : Nat) : Bool := (s.illStr n).mode != 0 && !s.illCamera ((s.illStr n).mode - 1)

/-- OPEN, SHORT and REVERSED of string `n`. -/
def State.illFaulted (s : State) (n : Nat) : Bool := (s.rd (F.ILS.ILL_STR_STAT_OPEN n).addr).toNat / 2 % 8 != 0

/-- R412: L_eff of string `n`. -/
def State.illEff (s : State) (n : Nat) : Nat :=
  if !s.flag (F.ILS.ILL_STR_CFG_EN n) || s.illFaulted n || s.flag F.ILL.ILL_STAT_THERMAL || s.pw.st == .thermalLatch || s.noWindow n then 0
  else (s.illStr n).level

/-- ILL_STAT.LIT. -/
def State.illLit (s : State) : Nat := (List.range 4).foldl (fun m n => m + 2 ^ n * bit (decide (0 < s.illEff n))) 0

/-- R415: what was written takes effect for string `n`. -/
def State.illTake (s : State) (n : Nat) : State :=
  s.setIll n { s.illStr n with level := min (s.get (F.ILS.ILL_LEVEL_LEVEL n)) s.illCeil, mode := s.illMode n }

/-- String `n` goes dark; a probe under way ends without a verdict. -/
def State.illDark (s : State) (n : Nat) : State :=
  (s.setIll n { s.illStr n with lit := false, drv := false }).set (F.ILS.ILL_STR_STAT_PROBING n) 0

/-- Every string goes dark (R417, R396). -/
def State.illDarkAll (s : State) : State := s.each (List.range 4) State.illDark

/-- The result group of string `n`; the means over no lit slice are free. -/
def State.illPublish (s : State) (n : Nat) : State :=
  let x := s.illStr n
  let r := s.freeNat
  let s := if x.n = 0 then r.2 else s
  let v := if x.n = 0 then r.1 else x.sumV / x.n
  let i := if x.n = 0 then r.1 / 65536 else x.sumI / x.n
  let s := ((s.set (F.ILS.L_EFF n) (s.illEff n)).set (F.ILS.V_STR n) v).set (F.ILS.I_MEAN n) i
  let s := (s.set64 (F.ILS.TIME_LO n) (F.ILS.TIME_HI n) s.time.dev).publish (F.ILS.ILL_RES_ST n)
  s.setIll n { s.illStr n with sumV := 0, sumI := 0, n := 0, last := s.time.dev.toNat }

/-- R419: a fault latches; `b`: its bit of ILL_STR_STAT. -/
def State.illFault (s : State) (n b : Nat) : State :=
  let s := s.illDark n
  let s := s.setIll n { s.illStr n with bad := [0, 0, 0], oc := 0 }
  let s := (s.set ⟨(F.ILS.ILL_STR_STAT_OPEN n).addr, b, 1⟩ 1).inc (F.ILS.FAULTS n)
  s.raise EV_ILLUM_FAULT n ((s.rd (F.ILS.ILL_STR_STAT_OPEN n).addr).toNat / 2 % 16)

/-- Table 18-2: the row met: 0 OPEN, 1 SHORT, 2 REVERSED, 3 DEGRADED, 4 GOOD. `v`: V_STR, 10 mV; `i`: the shunt, 10 µV. -/
def State.illVerdict (s : State) (n v i : Nat) : Nat :=
  if i * 2 * 16 * 255 < 20000 * s.get (F.ILS.ILL_DRIVE_IMAX n) ∧ s.get (F.ILS.ILL_DRIVE_VF_MAX n) ≤ v then 0
  else if v < 30 then 1
  else if v < 150 then 2
  else if v < s.get (F.ILS.ILL_DRIVE_VF_MIN n) then 3
  else 4

/-- R419: DEGRADED, reported once per boot. -/
def State.illDegraded (s : State) (n : Nat) : State :=
  let s := s.set (F.ILS.ILL_STR_STAT_DEGRADED n) 1
  if (s.illStr n).said then s
  else (s.setIll n { s.illStr n with said := true }).raise EV_ILLUM_DEGRADED n ((s.rd (F.ILS.ILL_STR_STAT_OPEN n).addr).toNat / 2 % 16)

/-- R418: the probe of string `n` begins. -/
def State.illProbe (s : State) (n : Nat) : State :=
  ((s.setIll n { s.illStr n with lit := true, probed := true }).set (F.ILS.ILL_STR_STAT_PROBING n) 1).inc (F.ILS.PROBES n)

/-- R419: the lit slice that ends is judged and joins the means. -/
def State.illSliceEnd (s : State) (n v i : Nat) : State :=
  let x := s.illStr n
  if x.lit && !s.flag (F.ILS.ILL_STR_STAT_PROBING n) then
    let row := s.illVerdict n v i
    let bad := (List.range 3).map (fun j => if row = j then x.bad.getD j 0 + 1 else 0)
    let s := s.setIll n { x with sumV := x.sumV + v, sumI := x.sumI + i, n := x.n + 1, bad := bad }
    if 8 ≤ bad.foldl max 0 then s.illFault n (row + 1) else s
  else s

/-- R413, R415: a slice of string `n` starts; `v` and `i`: V_STR and shunt voltage of the slice that ends. A gated string that has no window takes changes here too
(notes/assumptions/59.md). -/
def State.illSlice (s : State) (n v i : Nat) : State :=
  if !s.domOn 65 then s
  else
    let s := s.illSliceEnd n v i
    let s := if (s.illStr n).mode = 0 || s.noWindow n then s.illTake n else s
    let x := s.illStr n
    let s := if x.mode = 0 ∧ 10 ^ 7 ≤ s.time.dev.toNat - x.last then s.illPublish n else s
    let x := s.illStr n
    let eff := s.illEff n
    if s.flag (F.ILS.ILL_STR_STAT_PROBING n) then s
    else if x.mode ≠ 0 ∧ !x.window then s.setIll n { x with lit := false, drv := false }
    else if x.probe ∧ 0 < eff ∧ x.mode = 0 then s.illProbe n
    else
      let acc := x.acc + eff
      if 65536 ≤ acc then s.setIll n { x with acc := acc - 65536, lit := true }
      else s.setIll n { x with acc := acc, lit := false, drv := false }

/-- R414, R415: a window of string `n` starts; one that meets a window under way merges with it. -/
def State.illWindow (s : State) (n : Nat) : State :=
  let x := s.illStr n
  if !s.domOn 65 || x.mode == 0 || x.window || s.noWindow n then s
  else
    let s := s.illTake n
    let s := s.setIll n { s.illStr n with acc := 32768, window := true, probed := false, sumV := 0, sumI := 0, n := 0 }
    if x.probe ∧ 0 < s.illEff n then s.illProbe n else s

/-- R414: the window of string `n` ends, a slice in progress with it. -/
def State.illWindowEnd (s : State) (n : Nat) : State :=
  let x := s.illStr n
  if !s.domOn 65 || !x.window then s
  else
    let s := (s.setIll n { x with window := false, lit := false, drv := false }).setFlag (F.ILS.ILL_STR_STAT_PROBE_LAST n) x.probed
    s.illPublish n

/-- R411: the shunt voltage of string `n` crosses 0.9 I_ON falling (0), 1.1 I_ON rising (1), or 300 mV (2). -/
def State.illCross (s : State) (n kind : Nat) : State :=
  let x := s.illStr n
  if !s.domOn 65 || !x.lit then s
  else if kind = 0 then s.setIll n { x with drv := true }
  else if kind = 1 then s.setIll n { x with drv := false, oc := if x.drv then 0 else x.oc }
  else if kind = 2 then
    let oc := x.oc + 1
    let s := (s.setIll n { x with drv := false, oc := oc }).inc (F.ILS.OC_CYCLES n)
    if 64 ≤ oc then s.illFault n 2 else s
  else s

/-- R411: ILL_DRVn has been high for 20 µs. -/
def State.illOnLimit (s : State) (n : Nat) : State :=
  let x := s.illStr n
  if s.domOn 65 && x.drv then s.setIll n { x with drv := false, oc := 0 } else s

/-- R418: the probe of string `n` ends with V_STR `v` and shunt voltage `i`. -/
def State.illProbeEnd (s : State) (n v i : Nat) : State :=
  if s.domOn 65 && s.flag (F.ILS.ILL_STR_STAT_PROBING n) then
    let s := s.illDark n
    let s := s.setIll n { s.illStr n with probe := false }
    let row := s.illVerdict n v i
    if row < 3 then s.illFault n (row + 1) else if row = 3 then s.illDegraded n else s
  else s

/-- R418: READY is entered: every string is probed before it is lit again. -/
def State.illReady (s : State) : State := s.each (List.range 4) (fun s n => s.setIll n { s.illStr n with probe := true })

/-- R417: an NTC result is delivered. -/
def State.illNtc (s : State) (i : Nat) : State :=
  let x := s.ntc i
  if i ≠ 2 ∨ x.bad then s
  else match x.value with
    | none => s
    | some v =>
      let off : Int := s.get F.ILL.ILL_THERM_OFF
      if 16 * off ≤ v then
        if s.flag F.ILL.ILL_STAT_THERMAL then s
        else (s.illDarkAll.set F.ILL.ILL_STAT_THERMAL 1).raise EV_ILLUM_THERMAL 0 (unsigned 16 v)
      else if v < 16 * (off - 5) then s.set F.ILL.ILL_STAT_THERMAL 0
      else s

/-- R414: an FS of camera `c` more than 10 % of the mean interval away from FS_p. -/
def State.illFs (s : State) (c : Nat) : State :=
  let x := s.cam c
  match x.lastFs with
  | some t =>
    let mean := x.gaps.sum / x.gaps.length
    let off := ((s.time.dev.toNat : Int) - (t + mean : Nat)).natAbs
    if s.illCamera c && s.domOn 65 && decide (mean < 10 * off) then
      s.each ((List.range 4).filter (fun n => (s.illStr n).mode == c + 1)) (fun s n => s.inc (F.ILS.MISPREDICT n))
    else s
  | none => s

/-- ILLUM_SET (R420). -/
def cmdIllSet (s : State) (p : List Byte) : Reply :=
  let m := u8 p 0
  let named := (List.range 4).filter (fun n => m / 2 ^ n % 2 == 1)
  let faulted := named.filter s.illFaulted
  s.guarded [s.needDom 65, badParam (m == 0 || decide (16 ≤ m) || notZero p 1 1) 0, (!faulted.isEmpty, 0x8F, (faulted.map (fun n => 2 ^ n)).sum)]
    ((s.each named (fun s n => s.set (F.ILS.ILL_LEVEL_LEVEL n) (u16 p 2))).done [])

/-- R417: a write of ILL_THERM. -/
def State.wrIllTherm (s : State) (v : Word) : State :=
  let off := v.toNat % 256
  if off < 60 ∨ 125 < off then s.set F.ILL.ILL_STAT_CFG_ERR 1 else s.hostWrite F.ILL.ILL_THERM_OFF.addr v

/-- R419: a write of string `n`'s ILL_STR_STAT: a fault bit that clears wants a probe. -/
def State.wrIllStat (s : State) (n : Nat) (v : Word) : State :=
  if s.pw.st = .thermalLatch then s
  else
    let a := (F.ILS.ILL_STR_STAT_OPEN n).addr
    let t := s.hostWrite a v
    if t.rd a = s.rd a then t else t.setIll n { t.illStr n with probe := true }

/-- A write inside the illuminator block. -/
def State.wrIll (s : State) (a : Nat) (v : Word) : State :=
  if a = F.ILL.ILL_THERM_OFF.addr then s.wrIllTherm v
  else if 0x6100100 ≤ a ∧ a < 0x6100200 ∧ a % 0x40 = 0xC then s.wrIllStat ((a - 0x6100100) / 0x40) v
  else s.hostWrite a v

end Sys2Proof.Machine
end

