-- ==== Sys2Proof/Machine/Crypto.lean ====
section
/-! DEFINITION. SHA-256, HMAC-SHA-256 (R356, R442) and ECDSA P-256 verification (R76). The spec names the algorithms; their definitions are those of
FIPS 180-4, FIPS 198-1 and FIPS 186-5 (notes/assumptions/43.md). -/

namespace Sys2Proof.Machine

/-! ### SHA-256 -/

/-- The round constants. -/
def shaK : List Word :=
  [0x428a2f98, 0x71374491, 0xb5c0fbcf, 0xe9b5dba5, 0x3956c25b, 0x59f111f1, 0x923f82a4, 0xab1c5ed5,
    0xd807aa98, 0x12835b01, 0x243185be, 0x550c7dc3, 0x72be5d74, 0x80deb1fe, 0x9bdc06a7, 0xc19bf174] ++
  [0xe49b69c1, 0xefbe4786, 0x0fc19dc6, 0x240ca1cc, 0x2de92c6f, 0x4a7484aa, 0x5cb0a9dc, 0x76f988da,
    0x983e5152, 0xa831c66d, 0xb00327c8, 0xbf597fc7, 0xc6e00bf3, 0xd5a79147, 0x06ca6351, 0x14292967] ++
  [0x27b70a85, 0x2e1b2138, 0x4d2c6dfc, 0x53380d13, 0x650a7354, 0x766a0abb, 0x81c2c92e, 0x92722c85,
    0xa2bfe8a1, 0xa81a664b, 0xc24b8b70, 0xc76c51a3, 0xd192e819, 0xd6990624, 0xf40e3585, 0x106aa070] ++
  [0x19a4c116, 0x1e376c08, 0x2748774c, 0x34b0bcb5, 0x391c0cb3, 0x4ed8aa4a, 0x5b9cca4f, 0x682e6ff3,
    0x748f82ee, 0x78a5636f, 0x84c87814, 0x8cc70208, 0x90befffa, 0xa4506ceb, 0xbef9a3f7, 0xc67178f2]

/-- The initial hash value. -/
def shaInit : List Word := [0x6a09e667, 0xbb67ae85, 0x3c6ef372, 0xa54ff53a, 0x510e527f, 0x9b05688c, 0x1f83d9ab, 0x5be0cd19]

/-- The message padded to whole 64-byte blocks. -/
def shaPad (m : List Byte) : List Byte := m ++ [0x80] ++ zeros ((119 - m.length % 64) % 64) ++ beBytes 8 (8 * m.length)

/-- Rotation right. -/
def rotr (x : Word) (n : Nat) : Word := x.rotateRight n

/-- The next word of the message schedule; the window holds the last 16, oldest first. -/
def shaNext (w : List Word) : Word :=
  let a := w.getD 1 0
  let b := w.getD 14 0
  (rotr b 17 ^^^ rotr b 19 ^^^ (b >>> 10)) + w.getD 9 0 + (rotr a 7 ^^^ rotr a 18 ^^^ (a >>> 3)) + w.getD 0 0

/-- One round: the window of the schedule and the eight working variables. -/
def shaRound (x : List Word × List Word) (k : Word) : List Word × List Word :=
  match x with
  | (w, [a, b, c, d, e, f, g, h]) =>
    let t1 := h + (rotr e 6 ^^^ rotr e 11 ^^^ rotr e 25) + ((e &&& f) ^^^ (~~~e &&& g)) + k + w.getD 0 0
    let t2 := (rotr a 2 ^^^ rotr a 13 ^^^ rotr a 22) + ((a &&& b) ^^^ (a &&& c) ^^^ (b &&& c))
    (w.drop 1 ++ [shaNext w], [t1 + t2, a, b, c, d + t1, e, f, g])
  | y => y

/-- One block. -/
def shaBlock (h : List Word) (block : List Byte) : List Word :=
  (h.zip (shaK.foldl shaRound (bytesWords block, h)).2).map (fun e => e.1 + e.2)

/-- The blocks of a padded message. -/
def shaBlocks : Nat → List Word → List Byte → List Word
  | 0, h, _ => h
  | n + 1, h, m => shaBlocks n (shaBlock h (m.take 64)) (m.drop 64)

/-- SHA-256. -/
def sha256 (m : List Byte) : List Byte :=
  let p := shaPad m
  wordBytes (shaBlocks (p.length / 64) shaInit p)

/-- HMAC-SHA-256. -/
def hmac (key m : List Byte) : List Byte :=
  let k := if 64 < key.length then sha256 key else key
  let k := k ++ zeros (64 - k.length)
  sha256 (k.map (fun b => b ^^^ 0x5C) ++ sha256 (k.map (fun b => b ^^^ 0x36) ++ m))

/-! ### ECDSA P-256 -/

/-- The field prime. -/
def pPrime : Nat := 2 ^ 256 - 2 ^ 224 + 2 ^ 192 + 2 ^ 96 - 1

/-- The group order. -/
def pOrder : Nat := 0xffffffff00000000ffffffffffffffffbce6faada7179e84f3b9cac2fc632551

/-- The curve's coefficient b. -/
def pCurveB : Nat := 0x5ac635d8aa3a93e7b3ebbd55769886bc651d06b0cc53b0f63bce3c3e27d2604b

/-- The base point. -/
def pBase : Option (Nat × Nat) :=
  some (0x6b17d1f2e12c4247f8bce6e563a440f277037d812deb33a0f4a13945d898c296, 0x4fe342e2fe1a7f9b8ee7eb4a7c0f9e162bce33576b315ececbb6406837bf51f5)

/-- `b` to the power `e`, of `n` bits, modulo `m`. -/
def powMod (m b : Nat) : Nat → Nat → Nat
  | 0, _ => 1
  | n + 1, e => let r := powMod m b n (e / 2); if e % 2 = 1 then r * r % m * b % m else r * r % m

/-- Inverse modulo a prime. -/
def invMod (m x : Nat) : Nat := powMod m (x % m) 256 (m - 2)

/-- Sum of two points of the curve; none is the point at infinity. -/
def pAdd : Option (Nat × Nat) → Option (Nat × Nat) → Option (Nat × Nat)
  | none, b => b
  | a, none => a
  | some (x1, y1), some (x2, y2) =>
    if x1 = x2 ∧ (y1 + y2) % pPrime = 0 then none
    else
      let l := if x1 = x2 then (3 * x1 * x1 + (pPrime - 3)) * invMod pPrime (2 * y1) % pPrime
        else (y2 + pPrime - y1) * invMod pPrime (x2 + pPrime - x1) % pPrime
      let x := (l * l + 2 * pPrime - x1 - x2) % pPrime
      some (x, (l * (x1 + pPrime - x) + pPrime - y1) % pPrime)

/-- Multiple of a point; the scalar has `n` bits. -/
def pMul (a : Option (Nat × Nat)) : Nat → Nat → Option (Nat × Nat)
  | 0, _ => none
  | n + 1, k => let r := pMul a n (k / 2); let d := pAdd r r; if k % 2 = 1 then pAdd d a else d

/-- Whether a point lies on the curve. -/
def onCurve (x y : Nat) : Bool :=
  decide (x < pPrime ∧ y < pPrime) && y * y % pPrime == (x * x % pPrime * x + (pPrime - 3) * x + pCurveB) % pPrime

/-- R76, step 6: `r` and `s` verify over a digest under a public key (x, then y, 32 bytes each). -/
def ecdsaOk (key digest sig : List Byte) : Bool :=
  let r := beAt sig 0 32
  let s := beAt sig 32 32
  let x := beAt key 0 32
  let y := beAt key 32 32
  if r = 0 ∨ pOrder ≤ r ∨ s = 0 ∨ pOrder ≤ s ∨ !onCurve x y then false
  else
    let w := invMod pOrder s
    let u1 := beAt digest 0 32 * w % pOrder
    let u2 := r * w % pOrder
    match pAdd (pMul pBase 256 u1) (pMul (some (x, y)) 256 u2) with
    | none => false
    | some (rx, _) => rx % pOrder == r

end Sys2Proof.Machine
end

