-- ==== Sys2Proof/Machine/Cal.lean ====
section
/-! DEFINITION. Calibration (chapter 17): items, acceptance, the substitution of redundant elements, stepping, the calibration record and the fields loaded from it. -/

namespace Sys2Proof.Machine

/-! ### The record (R405) -/

/-- The address of copy `i` of the record. -/
def calAddr (i : Nat) : Nat := 0x00F00000 + 0x10000 * i

/-- Bytes of the record in force. -/
def State.calBytes (s : State) (off n : Nat) : List Byte := s.flashRead (calAddr s.cal.copy + off) n

/-- Whether copy `i` is valid: its CRC matches (Table 17-7). -/
def State.calValid (s : State) (i : Nat) : Bool :=
  let b := s.flashRead (calAddr i) 0x10000
  crc32c (b.take 0xFFFC) == u32 b 0xFFFC

/-- GENERATION of copy `i`. -/
def State.calGenOf (s : State) (i : Nat) : Nat := ofBe (s.flashRead (calAddr i + 8) 4)

/-- R82, R406: the valid copies, and the one with the higher GENERATION. -/
def State.calChoose (s : State) : List Nat × Option Nat :=
  let a := s.calValid 0
  let b := s.calValid 1
  ((if a then [0] else []) ++ (if b then [1] else []),
    if a && b then some (if s.calGenOf 0 < s.calGenOf 1 then 1 else 0) else if a then some 0 else if b then some 1 else none)

/-- A word of the record for a field. -/
abbrev CalWord := Fld × Nat

/-- Words of a section in order. -/
def calRow (rec : List Byte) (off : Nat) (fs : List Fld) : List CalWord := (fs.zip (List.range fs.length)).map (fun e => (e.1, u32 rec (off + 4 * e.2)))

/-- Half-words of a section in order. -/
def calHalf (rec : List Byte) (off : Nat) (fs : List Fld) : List CalWord := (fs.zip (List.range fs.length)).map (fun e => (e.1, u16 rec (off + 2 * e.2)))

/-- A whole word as a field. -/
def wordFld (a : Nat) : Fld := ⟨a, 0, 32⟩

/-- The sections for steering, cameras and loops. -/
def calWords1 (rec : List Byte) : List CalWord :=
  calRow rec 0x100 ((List.range 1024).map (fun r => wordFld (0x3004000 + 4 * r))) ++
    calRow rec 0x1100 [F.STEER.ANG_A0, F.STEER.ANG_A1, F.STEER.ANG_A2, F.STEER.ANG_ZERO, F.STEER.EDGE_1, F.STEER.EDGE_2, F.STEER.EDGE_3,
      F.STEER.EDGE_4, F.STEER.EDGE_5, F.STEER.EDGE_6, F.STEER.EDGE_7, F.STEER.DUAL_MARGIN] ++
    (List.range 2).flatMap (fun n => calRow rec (0x1200 + 84 * n) ((List.range 21).map (fun i => wordFld (0x3003100 + 0x80 * n + 4 * i)))) ++
    (List.range 8).flatMap (fun n =>
      calRow rec (0x1300 + 64 * n) ((List.range 9).map (fun i => wordFld (0x30040 + 0x400 * n + 4 * i)) ++
        [F.LOOP.FB_LO n, F.LOOP.FB_HI n, F.LOOP.MEAS_DELTA n, F.LOOP.DRIVE_DELTA n, F.LOOP.REF_DELTA n, F.LOOP.LOOP_PARK_PARK n,
          wordFld (F.LOOP.LOOP_SETTLE_N n).addr]) ++
      calRow rec (0x1300 + 64 * n) ((List.range 9).map (F.LOOP.ACT n)))

/-- The sections for the receiver, housekeeping, channels and regions. -/
def calWords2 (rec : List Byte) : List CalWord :=
  calRow rec 0x1500 ([F.LOOP.LOOP_SP_SP 2, F.RX.VBD_MODEL_VBD25, F.RX.VBD_MODEL_TC, F.CAL.VBD25_FACTORY, F.RX.SWING_OFS_OFS, F.RX.REF_SEL0_SEL,
      F.RX.REF_SEL1_SEL, F.RX.PHASE_CORR0_CORR, F.RX.PHASE_CORR1_CORR, F.HK.REF_CHECK_NOM] ++
      (List.range 4).flatMap (fun k => [F.HK.SH_A k, F.HK.SH_B k, F.HK.SH_C k]) ++ [wordFld F.ETH.ETH_LAT_LAT_TX.addr, F.OZ.LANE_RX_EQ 0 8]) ++
    [(F.RX.REF_LIVE0_LIVE, u32 rec 0x1514), (F.RX.REF_LIVE1_LIVE, u32 rec 0x1518), (F.CAL.CAL_GEN, u32 rec 8), (F.CAL.CAL_T_TDC, u16 rec 0x160E)] ++
    (List.range 12).flatMap (fun c =>
      calRow rec (0x1600 + 160 * c) [F.CH.CH_TAPMAP0_MAP c, F.CH.CH_TAPMAP1_MAP c, F.CH.CH_TAPMAP2_MAP c] ++
        calHalf rec (0x160C + 160 * c) [F.CH.CH_TOFS_TOFS c] ++ calHalf rec (0x1610 + 160 * c) ((List.range 64).map (F.CH.LIN c))) ++
    (List.range 4).flatMap (fun g =>
      calRow rec (0x1E00 + 128 * g) ((List.range 5).map (fun i => wordFld ((F.PE.PE_RANGE_OFS_OFS g).addr + 4 * i)) ++
        (List.range 4).flatMap (fun m => [F.KER.KTAP0_TAPS g m, F.KER.KTAP1_TAPS g m, F.KER.KTAP2_TAPS g m, F.KER.KTAP3_TAPS g m, F.KER.KREF g m])))

/-- The sections for the rows. -/
def calWords3 (rec : List Byte) : List CalWord :=
  calHalf rec 0x2000 ((List.range 1024).map F.ROW.ROW_TOFS_TOFS) ++ calRow rec 0x2800 ((List.range 1024).map F.ROW.ROW_VTRIM_VTRIM) ++
    (List.range 1024).flatMap (fun r => (List.range 8).flatMap (fun q =>
      let m := beAt rec (0x3800 + 5 * (8 * r + q)) 5
      [(F.ROW.EN_LO r q, m % 2 ^ 32), (F.ROW.EN_HI r q, m / 2 ^ 32)]) ++ [(F.ROW.ROW_STAT_DEGRADED r, u8 rec (0xD800 + r))])

/-- R405, R454: the "cal" fields of the domains in `p` take the record in force. -/
def State.calLoad (s : State) (p : Nat → Bool) : State :=
  let rec_ := s.calBytes 0 0x10000
  let s := s.each ((calWords1 rec_ ++ calWords2 rec_ ++ calWords3 rec_).filter (fun e => p (domainOf e.1.addr))) (fun s e => s.set e.1 e.2)
  let s := if p 67 then s.setLoop 2 { s.loop 2 with sp := s.getI (F.LOOP.LOOP_SP_SP 2) } else s
  if p 69 then s.each (List.range 12) State.endLin else s

/-- EL and ANG_ZERO of the record in force (R360). -/
def State.calGeom (s : State) : List Byte := s.calBytes 0x100 4096 ++ zeros 2 ++ s.calBytes 0x110E 2

/-! ### DUE (R398) -/

/-- A macro-pixel awaits calibration. -/
def State.anyPending (s : State) : Bool :=
  s.regs.any (fun e => decide (0x1000000 ≤ e.1 ∧ e.1 < 0x1800000 ∧ 0x8000 ≤ e.1 % 0x10000 ∧ e.1 % 0x100 = 8) && bitsOf e.2.toNat 16 8 != 0)

/-- The temperature the timing items last ran at. -/
def State.timingT (s : State) : Int := s.cal.stepT.getD (s.getI F.CAL.CAL_T_TDC)

/-- R398: the items that are due. -/
def State.calDueNow (s : State) : Nat :=
  let far := match s.th.mean with
    | some t => decide (16 * s.get F.CAL.CAL_CTRL_CAL_DT ≤ (t - s.timingT).natAbs)
    | none => false
  let timing := far || (s.domOn 69 && (List.range 12).any (fun c => !s.flag (F.CH.CH_STAT_LIN_VALID c)))
  let refs := s.domOn 69 && s.flag F.RX.RX_STAT_REF_SUSPECT || s.cal.dropped
  bit timing * 3 + 4 * bit s.anyPending + 8 * bit refs

/-- R398: DUE follows the conditions; a bit that has set clears only when its item is accepted. -/
def State.calDue (s : State) : State :=
  let now := s.calDueNow
  s.each (List.range 4) (fun s i =>
    if now / 2 ^ i % 2 = 1 ∧ !s.bitAt F.CAL.CAL_STAT_DUE i then
      let s := s.setBitAt F.CAL.CAL_STAT_DUE i true
      s.raise EV_CAL_DUE 0 (s.get F.CAL.CAL_STAT_DUE)
    else s)

/-! ### Items (R400 to R404) -/

/-- What an item leaves: the rows of Table 17-6 that failed, the units applied, the run, the state. -/
structure CalItem where
  fails : List Nat
  units : Nat
  run : CalRun
  st : State

/-- Set a word of the record and of the registers at once. -/
def CalRun.put (r : CalRun) (f : Fld) (v off n : Nat) : CalRun :=
  { r with words := r.words ++ [(f.addr, f.lo, f.wd, v)], patch := r.patch ++ [(off, beBytes n v)] }

/-- R402: the map that leaves out bad cells and takes bypassed ones, lowest first, until it holds 64. -/
def remap (line bad : Nat) : Nat :=
  let keep := (List.range 72).filter (fun i => line / 2 ^ i % 2 == 1 && bad / 2 ^ i % 2 == 0)
  let spare := (List.range 72).filter (fun i => line / 2 ^ i % 2 == 0 && bad / 2 ^ i % 2 == 0)
  ((keep ++ spare.take (64 - keep.length)).map (fun i => 2 ^ i)).sum

/-- R170: LIN from the hits of a code-density test. -/
def linOf (hits : List Nat) : List Nat := (List.range 64).map (fun i => (2 * (hits.take i).sum + hits.getD i 0 + 1024) / 2048)

/-- R402: one channel. -/
def calChannel (a : CalItem) (e : Nat × BitVec 72 × List Nat) : CalItem :=
  let s := a.st
  let c := e.1
  if 12 ≤ c ∨ (8 ≤ c ∧ s.flag (F.CH.CH_CTRL_EN c)) then a
  else
    let line := s.get (F.CH.CH_TAPMAP0_MAP c) + 2 ^ 32 * s.get (F.CH.CH_TAPMAP1_MAP c) + 2 ^ 64 * s.get (F.CH.CH_TAPMAP2_MAP c)
    let map := remap line e.2.1.toNat
    let hits := e.2.2
    let lin := linOf hits
    if popCount 72 map < 64 ∨ hits.length ≠ 64 ∨ hits.any (fun h => decide (h < 4096 ∨ 40960 < h)) then { a with fails := a.fails ++ [1] }
    else if map = line ∧ (List.range 64).any (fun i => decide (64 < ((lin.getD i 0 : Int) - s.get (F.CH.LIN c i)).natAbs)) then { a with fails := a.fails ++ [2] }
    else
      let o := 0x1600 + 160 * c
      let r := ((a.run.put (F.CH.CH_TAPMAP0_MAP c) (map % 2 ^ 32) o 4).put (F.CH.CH_TAPMAP1_MAP c) (map / 2 ^ 32 % 2 ^ 32) (o + 4) 4).put
        (F.CH.CH_TAPMAP2_MAP c) (map / 2 ^ 64) (o + 8) 4
      let r := (List.range 64).foldl (fun r i => r.put (F.CH.LIN c i) (lin.getD i 0) (o + 16 + 2 * i) 2) r
      let r := { r with
        patch := r.patch ++ [(o + 14, beInt 2 (s.th.mean.getD 0))], taps := if map = line then r.taps else r.taps ++ [c] }
      { a with units := a.units + 1, run := r }

/-- R401: a value that differs by more than 2 is stepped, else set. -/
def CalRun.offset (r : CalRun) (f : Fld) (old new : Int) : CalRun :=
  if 2 < (new - old).natAbs then { r with steps := r.steps ++ [(f.addr, f.lo, f.wd, new)] }
  else { r with words := r.words ++ [(f.addr, f.lo, f.wd, unsigned f.wd new)] }

/-- The field of PHASE_CORR of phase `p`. -/
def phaseFld (p : Nat) : Fld := ⟨0x40108 + 4 * (p / 4), 8 * (p % 4), 8⟩

/-- ROWSKEW: judged whole. -/
def calSkew (a : CalItem) (tofs : List (Nat × Int)) (corr : List Int) : CalItem :=
  let s := a.st
  let tofs := tofs.filter (fun e => decide (e.1 < 1024))
  if tofs.any (fun e => decide (96 < (e.2 - spGet (fun _ => 0) s.cal.factory e.1).natAbs)) then { a with fails := a.fails ++ [3] }
  else if corr.any (fun x => decide (16 < x.natAbs)) then { a with fails := a.fails ++ [4] }
  else
    let r := tofs.foldl (fun r e =>
      let r := r.offset (F.ROW.ROW_TOFS_TOFS e.1) (s.getI (F.ROW.ROW_TOFS_TOFS e.1)) e.2
      { r with patch := r.patch ++ [(0x2000 + 2 * e.1, beInt 2 e.2)] }) a.run
    let r := (List.range (min 8 corr.length)).foldl (fun r p =>
      let r := r.offset (phaseFld p) (s.getI (phaseFld p)) (corr.getD p 0)
      { r with patch := r.patch ++ [(0x151C + 4 * (p / 4) + (3 - p % 4), beInt 1 (corr.getD p 0))] }) r
    { a with units := tofs.length, run := r }

/-- The median of counts, the mean of the middle two rounded down where even in number. -/
def medianNat (l : List Nat) : Nat :=
  let m := sortInts (l.map (fun n => (n : Int)))
  if m.isEmpty then 0 else ((m.getD ((m.length - 1) / 2) 0 + m.getD (m.length / 2) 0) / 2).toNat

/-- R403: one macro-pixel. -/
def calSpare (a : CalItem) (e : Nat × Nat × List Nat) : CalItem :=
  let s := a.st
  let r := e.1
  let q := e.2.1
  let n := fun (i : Nat) => e.2.2.getD i 0
  if 1024 ≤ r ∨ 8 ≤ q ∨ !s.bitAt (F.ROW.ROW_STAT_PENDING_CAL r) q then a
  else
    let map := s.get (F.ROW.EN_LO r q) + 2 ^ 32 * s.get (F.ROW.EN_HI r q)
    let on := (List.range 36).filter (fun i => map / 2 ^ i % 2 == 1)
    let m := medianNat (on.map n)
    let out := spGet (fun _ => 0) s.cal.masked (8 * r + q)
    let spare := (List.range 36).filter (fun i => map / 2 ^ i % 2 == 0 && out / 2 ^ i % 2 == 0 && decide (m / 4 ≤ n i ∧ n i ≤ 2 * m + 64))
    if m < 16 then { a with fails := a.fails ++ [5] }
    else
      let new := map + ((spare.take (32 - on.length)).map (fun i => 2 ^ i)).sum
      { a with units := a.units + 1, run := { a.run with
          maps := a.run.maps ++ [(r, q, new)], patch := a.run.patch ++ [(0x3800 + 5 * (8 * r + q), beBytes 5 new)] } }

/-- The DEGRADED bytes of the rows whose macro-pixels were rebuilt. -/
def calDegraded (a : CalItem) : CalItem :=
  let rows := (a.run.maps.map (fun e => e.1)).eraseDups
  { a with run := { a.run with
      patch := a.run.patch ++ rows.map (fun r =>
        (0xD800 + r, beBytes 1 ((a.run.maps.filter (fun e => e.1 == r)).foldl (fun v e => withBits v e.2.1 1 (bit (popCount 36 e.2.2 < 32)))
          (a.st.get (F.ROW.ROW_STAT_DEGRADED r))))) } }

/-- R404: the selection in a bank: the 4 good cells nearest the median, ties to the lower index. -/
def pickRefs (good : List (Nat × Nat)) : List Nat :=
  let m := sortInts (good.map (fun e => (e.2 : Int)))
  let med2 := m.getD ((m.length - 1) / 2) 0 + m.getD (m.length / 2) 0
  let near := sortInts (good.map (fun e => ((2 * (e.2 : Int) - med2).natAbs * 8 + e.1 : Nat)))
  (near.take 4).map (fun x => (x % 8).toNat)

/-- R404: one bank. -/
def calBank (cells : List (Nat × Nat × Nat)) (a : CalItem) (b : Nat) : CalItem :=
  let good := (cells.filter (fun e => e.1 / 6 == b && decide (56 ≤ e.2.1))).map (fun e => (e.1 % 6, e.2.2))
  if good.length < 2 then { a with fails := a.fails ++ [6] }
  else
    let sel := ((pickRefs good).map (fun i => 2 ^ i)).sum
    let r := a.run.put ⟨0x4004C + 4 * (b / 4), 8 * (b % 4), 8⟩ sel (0x1514 + 4 * (b / 4) + (3 - b % 4)) 1
    let r := { r with words := r.words ++ [(0x40080 + 4 * (b / 4), 8 * (b % 4), 8, sel)] }
    { a with units := a.units + 1, run := r }

/-- R404, R401: VBD25 moves toward the mean of the updates by at most 25 mV. -/
def calVbd (updates : List (Int × Int)) (a : CalItem) : CalItem :=
  let s := a.st
  let tc : Int := s.get F.RX.VBD_MODEL_TC
  let n := updates.length
  if n = 0 then a
  else
    let sum := (updates.map (fun e => 16000 * e.1 - tc * (e.2 - 400))).sum
    let new := (2 * sum + 16000 * n) / (32000 * n : Nat)
    let d := new - s.get F.CAL.VBD25_FACTORY
    if d < -200 ∨ 800 < d then { a with fails := a.fails ++ [7] }
    else
      let v := moveToward (s.get F.RX.VBD_MODEL_VBD25) new 25
      { a with run := a.run.put F.RX.VBD_MODEL_VBD25 (unsigned 16 v) 0x1504 4 }

/-- The item a measurement belongs to. -/
def measItem : CalMeas → Nat
  | .refTdc _ => 0
  | .rowSkew _ _ => 1
  | .spares _ => 2
  | .refCells _ _ => 3

/-- R400 to R404: an item's results are judged. -/
def State.calJudge (s : State) (r : CalRun) (m : CalMeas) : CalItem :=
  let a : CalItem := ⟨[], 0, r, s⟩
  match m with
  | .refTdc l => l.foldl calChannel a
  | .rowSkew t c => calSkew a t c
  | .spares l => calDegraded (l.foldl calSpare a)
  | .refCells l u => calVbd u ((List.range 8).foldl (calBank l) { a with st := { s with cal := { s.cal with dropped := false } } })

/-! ### A run (R397 to R401, R406) -/

/-- A log entry (Table 17-7). -/
def State.calLog (s : State) (item status detail units : Nat) : List Byte :=
  beBytes 8 s.time.dev.toNat ++ beBytes 2 (2 ^ item) ++ beBytes 1 status ++ beBytes 1 detail ++ beInt 2 (s.th.mean.getD 0) ++ zeros 2 ++ beBytes 4 units ++
    beBytes 4 (s.get F.CAL.CAL_GEN + 1) ++ zeros 8

/-- The CAL_RES group at an item's end. -/
def State.calResult (s : State) (item status detail : Nat) : State :=
  let s := ((s.set F.CAL.ITEM (2 ^ item)).set F.CAL.STATUS status).set F.CAL.DETAIL detail
  ((s.set64 F.CAL.TIME_LO F.CAL.TIME_HI s.time.dev).setI F.CAL.T_MEAN (s.th.mean.getD 0)).publish F.CAL.CAL_RES_ST

/-- Where the next log entry goes: the entry with the least TIME, empty ones first. -/
def logSlot (rec : List Byte) : Nat :=
  ((List.range 32).foldl (fun (b : Nat × Nat) i => let t := u64 rec (0xDC00 + 32 * i); if t < b.2 then (i, t) else b) (0, 2 ^ 64)).1

/-- Replace bytes of a list. -/
def patchBytes (b : List Byte) (off : Nat) (x : List Byte) : List Byte := b.take off ++ x ++ b.drop (off + x.length)

/-- R406: the record with the run's values. -/
def State.calRecord (s : State) (r : CalRun) : List Byte :=
  let b := s.calBytes 0 0xFFFC
  let b := r.patch.foldl (fun b e => patchBytes b e.1 e.2) b
  let b := patchBytes (patchBytes b 8 (beBytes 4 (s.get F.CAL.CAL_GEN + 1))) 12 (beBytes 8 s.time.dev.toNat)
  let b := r.log.foldl (fun b e => patchBytes b (0xDC00 + 32 * logSlot b) e) b
  b ++ beBytes 4 (crc32c b)

/-- R403: a macro-pixel is rebuilt. -/
def State.rebuild (s : State) (e : Nat × Nat × Nat) : State :=
  let s := ((s.set (F.ROW.EN_LO e.1 e.2.1) (e.2.2 % 2 ^ 32)).set (F.ROW.EN_HI e.1 e.2.1) (e.2.2 / 2 ^ 32)).setBitAt (F.ROW.ROW_STAT_PENDING_CAL e.1) e.2.1 false
  if popCount 36 e.2.2 < 32 then (s.setBitAt (F.ROW.ROW_STAT_DEGRADED e.1) e.2.1 true).raise EV_PIXEL_DEGRADED e.1 e.2.1 else s

/-- R401: what follows the end of stepping. -/
def State.stepsDone (s : State) : State :=
  if s.cal.steps.isEmpty then
    let s := match s.cal.stepT with
      | some t => s.setI F.CAL.CAL_T_TDC t
      | none => s
    ({ s with cal := { s.cal with stepT := none, stepping := false } } : State).set F.CAL.CAL_STAT_STEPPING 0
  else s

/-- R401: accepted results are applied. -/
def State.calApply (s : State) (r : CalRun) : State :=
  let s := s.each r.words (fun s w => s.set ⟨w.1, w.2.1, w.2.2.1⟩ w.2.2.2)
  let s := s.each r.taps (fun s c => s.setLocked c false)
  let s := s.each (List.range 12) State.endLin
  let s := s.each r.maps State.rebuild
  let keep := s.cal.steps.filter (fun x => !r.steps.any (fun y => y.1 == x.1 && y.2.1 == x.2.1))
  let s : State := { s with cal := { s.cal with
    steps := keep ++ r.steps, stepT := if r.timing then s.th.mean else s.cal.stepT } }
  (s.when (!s.cal.steps.isEmpty) (fun s => s.set F.CAL.CAL_STAT_STEPPING 1)).stepsDone

/-- R406: the record is written and the results applied; `copies` were written and read back. A copy whose writing failed holds free bytes. -/
def State.calFinish (s : State) (r : CalRun) (copies : Nat) : Option (Nat × Nat) × State :=
  if !r.some then (r.bad, s)
  else
    let new := s.calRecord r
    let gen := s.get F.CAL.CAL_GEN + 1
    let first := 1 - s.cal.copy
    let lost := s.freeBytes 0x10000
    if copies = 0 then (some (0x8E, 1), (lost.2.flashWrite (calAddr first) lost.1).set F.CAL.CAL_STAT_FLASH_ERR 1)
    else
      let second := s.cal.copy
      let ok := (s.flashWrite (calAddr first) new).set F.CAL.CAL_GEN gen
      let s : State := if copies = 1 then
          let lost := ok.freeBytes 0x10000
          (lost.2.flashWrite (calAddr second) lost.1).set F.CAL.CAL_STAT_FLASH_ERR 1
        else ok.flashWrite (calAddr second) new
      let s : State := { s with cal := { s.cal with copy := first } }
      (if copies = 1 then some (0x8E, 2) else r.bad, s.calApply r)

/-- R397: a run begins. -/
def State.calBegin (s : State) (items : List Nat) (manual : Bool) : State :=
  let r : CalRun := ⟨items, manual, s.th.mean.getD 0, none, [], [], [], [], [], [], false, false⟩
  ({ s with cal := { s.cal with run := some r } } : State).set F.CAL.CAL_STAT_BUSY 1

/-- The run has written its record: a manual run waits for its completion. -/
def State.calEnd (s : State) (r : CalRun) (bad : Option (Nat × Nat)) : State :=
  let s : State := { s with cal := { s.cal with run := none, ended := if r.manual then some (bad.getD (0, 0)) else none } }
  if r.manual then s else s.set F.CAL.CAL_STAT_BUSY 0

/-- R399: the run ends; the item under way gives nothing. -/
def State.calAbort (s : State) (status detail : Nat) : State :=
  match s.cal.run with
  | none => s
  | some r =>
    let item := r.items.head?.getD 0
    let s := ((s.calResult item status detail).inc F.CAL.RUNS).inc F.CAL.ABORTED
    let r := { r with log := r.log ++ [s.calLog item status detail 0], bad := r.bad.or (some (status, detail)) }
    let f := s.calFinish r 2
    let s := f.2.calEnd r f.1
    if status = 0x8C ∧ r.manual then
      let s := s.complete 0x0805 status detail []
      ({ s with cal := { s.cal with ended := none } } : State).set F.CAL.CAL_STAT_BUSY 0
    else s

/-- R399: SCAN_START or a change of power state ends a run; R32 completes a manual one. -/
def State.calByState (s : State) : State :=
  let s := s.calAbort 0x13 s.stateCode
  ({ s with cal := { s.cal with ended := none } } : State).set F.CAL.CAL_STAT_BUSY 0

/-- R399: T_MEAN at each reading; then R398. -/
def State.calWatch (s : State) : State :=
  let s := match s.cal.run, s.th.mean with
    | some r, some t => if 32 < (t - r.start).natAbs then s.calAbort 0x8C 2 else s
    | _, _ => s
  s.calDue

/-- R400: an item ends with a measurement; the last one writes the record. -/
def State.calItemEnd (s : State) (m : CalMeas) (copies : Nat) : State :=
  match s.cal.run with
  | none => s
  | some r =>
    match r.items with
    | [] => s
    | item :: rest =>
      if measItem m ≠ item then s
      else if 2 ≤ item ∧ !(s.flag (F.LOOP.LOOP_STAT_SETTLED 2) && s.flag (F.LOOP.LOOP_STAT_SETTLED 3)) then s.calAbort 0x8C 3
      else
        let a := s.calJudge r m
        let s := a.st
        let r := a.run
        let ok := a.fails.isEmpty
        let row := a.fails.foldl min 7
        let status := if ok then 0 else 0x8B
        let detail := if ok then 0 else row
        let s := (s.calResult item status detail).inc F.CAL.RUNS
        let s := if ok then (s.inc F.CAL.ACCEPTED).setBitAt F.CAL.CAL_STAT_DUE item false
          else ((s.inc F.CAL.REJECTED).set F.CAL.CAL_STAT_REJECTED 1).raise EV_CAL_REJECT (2 ^ item) row
        let s := s.when (ok && item == 3 && s.domOn 69) (fun s => s.set F.RX.RX_STAT_REF_SUSPECT 0)
        let r := { r with
          items := rest, log := r.log ++ [s.calLog item status detail a.units], bad := r.bad.or (if ok then none else some (status, detail)),
          timing := r.timing || (ok && decide (item < 2)), some := r.some || ok || decide (0 < a.units) }
        if rest.isEmpty then
          let f := s.calFinish r copies
          f.2.calEnd r f.1
        else { s with cal := { s.cal with run := some r } }

/-- R397: the command of a run that has ended completes. -/
def State.calComplete (s : State) : State :=
  match s.cal.ended with
  | some e => (({ s with cal := { s.cal with ended := none } } : State).set F.CAL.CAL_STAT_BUSY 0).complete 0x0805 e.1 e.2 []
  | none => s

/-- R398: an automatic run of all due items. -/
def State.calAuto (s : State) : State :=
  let due := (List.range 4).filter (fun i => s.bitAt F.CAL.CAL_STAT_DUE i)
  if s.domOn 65 && s.pw.st == .ready && s.flag F.CAL.CAL_CTRL_AUTO && s.get F.TH.TH_STAT_LEVEL == 0 && !s.rangeBusy 0x0805 &&
      !s.flag F.CAL.CAL_STAT_BUSY && !due.isEmpty && s.th.mean.isSome then s.calBegin due false
  else s

/-! ### Stepping (R401) -/

/-- R401: SCAN_START: stepping goes on from here. -/
def State.calScanStart (s : State) : State := { s with cal := { s.cal with stepping := !s.cal.steps.isEmpty } }

/-- R401: a frame start moves each value by at most 2. -/
def State.calStep (s : State) : State :=
  if !s.cal.stepping then s
  else
    let s := s.each s.cal.steps (fun s e => let f : Fld := ⟨e.1, e.2.1, e.2.2.1⟩; s.setI f (moveToward (s.getI f) e.2.2.2 2))
    let left := s.cal.steps.filter (fun e => s.getI ⟨e.1, e.2.1, e.2.2.1⟩ != e.2.2.2)
    ({ s with cal := { s.cal with steps := left } } : State).stepsDone

/-- R401: a host write ends the stepping of the value. -/
def State.calHostWrite (s : State) (a : Nat) : State :=
  if s.cal.steps.any (fun e => e.1 == a) then ({ s with cal := { s.cal with steps := s.cal.steps.filter (fun e => e.1 != a) } } : State).stepsDone else s

/-! ### Commands (R397, R405) -/

/-- R397: CAL_RUN. -/
def cmdCalRun (s : State) (p : List Byte) : Reply :=
  let m := u16 p 0
  s.guarded [s.badState (s.pw.st != .ready), (s.th.mean.isNone, 0x8D, 0), badParam (m == 0 || decide (16 ≤ m) || notZero p 2 2) 0]
    (if s.flag F.CAL.CAL_STAT_BUSY && !s.rangeBusy 0x0805 then s.reply .busy
     else s.accept 0x0805 (s.calBegin ((List.range 4).filter (fun i => m / 2 ^ i % 2 == 1)) true))

/-- R405: CAL_RECORD_READ. -/
def cmdCalRecordRead (s : State) (p : List Byte) : Reply :=
  s.guarded [badParam (decide (255 < u16 p 0) || notZero p 2 2) 0] (s.done (s.calBytes (256 * u16 p 0) 256))

end Sys2Proof.Machine
end

