-- ==== Sys2Proof/Machine/Diag.lean ====
section
/-! DEFINITION. Events, the fault log and the shot-monitor recorder (chapter 19): subscriptions and event packets, FAULT_LOG_READ, the registers of the fault manager that the
host writes, and captures. -/

namespace Sys2Proof.Machine

/-! ### Events (R424 to R426) -/

/-- Table 19-3. -/
def eventEntry (e : EvEnt) : List Byte :=
  beBytes 1 e.ev ++ beBytes 1 e.cls ++ beBytes 2 e.rep ++ beBytes 2 e.inst ++ beBytes 2 e.dat ++ beBytes 8 e.time.toNat

/-- EVENT_SUBSCRIBE (R425). -/
def cmdEventSubscribe (via : Port) (s : State) (p : List Byte) : Reply :=
  let m := (List.range 32).foldl (fun v i => v + u8 p i * 256 ^ i) 0
  let x := s.session via
  (s.setSession via { x with mask := BitVec.ofNat 256 m, evs := x.evs.filter (fun e => m / 2 ^ e.ev % 2 == 1), eseq := 0 }).done []

/-- R424 to R426: pending entries of a transport leave as one packet. -/
def State.eventPacket (s : State) (via : Port) : State :=
  let x := s.session via
  let es := x.evs.take 32
  let n := es.length
  let keep := { x with evs := x.evs.drop 32 }
  let bytes := packet 0x20 (portTag via) 0 x.eseq.toNat (beBytes 2 n ++ beBytes 2 x.lost ++ zeros 4 ++ es.flatMap eventEntry)
  let sent := { keep with lost := 0, eseq := x.eseq + 1 }
  if es.isEmpty then s
  else match via with
    | .spi =>
      if bytes.length ≤ s.outFree then (s.setSession via sent).sendOn via bytes
      else (s.setSession via { keep with lost := min (x.lost + n) 65535 }).add F.CMD.EVT_DROP n
    | .udp _ => (s.setSession via sent).when (s.transportUp via) (fun s => s.sendOn via bytes)
    | .oazil => if s.transportUp via then (s.setSession via sent).sendOn via bytes else s

/-! ### The fault log (R433) and host writes (R428, R432) -/

/-- An entry of the log, or 16 bytes of 0xFF. -/
def State.logEntry (s : State) (i : Nat) : List Byte :=
  match s.fm.log.find? (fun e => e.1 == i) with
  | some (_, f) => beBytes 1 f.ev ++ beBytes 1 f.cls ++ beBytes 2 i ++ beBytes 2 f.inst ++ beBytes 2 f.dat ++ beBytes 8 f.time.toNat
  | none => List.replicate 16 0xFF

/-- R433: the index a 16-bit name stands for. -/
def State.logIndex (s : State) (low : Nat) : Nat :=
  let n := s.get F.FM.FL_COUNT
  if n ≤ low then low else low + (n - 1 - low) / 65536 * 65536

/-- FAULT_LOG_READ (R433). -/
def cmdFaultLogRead (s : State) (p : List Byte) : Reply :=
  let n := u16 p 2
  s.guarded [badParam (decide (n = 0 ∨ 32 < n)) 0] (s.done ((List.range n).flatMap (fun i => s.logEntry (s.logIndex (u16 p 0) + i))))

/-- R428: a class below the minimum is stored as the minimum; the Reset column holds the minima. -/
def State.wrFmClass (s : State) (a : Nat) (v : Word) : State :=
  let least := (regReset a).toNat
  s.wr a (BitVec.ofNat 32 ((List.range 16).foldl (fun w i => w + max (bitsOf v.toNat (2 * i) 2) (bitsOf least (2 * i) 2) * 2 ^ (2 * i)) 0))

/-- R432: FM_FIRST empties. -/
def State.fmFirstEmpty (s : State) : State := s.each [0x10, 0x14, 0x18, 0x1C, 0x20] (fun s o => s.wr (0x7000000 + o) 0)

/-- A write inside the fault manager's block. -/
def State.wrFm (s : State) (a : Nat) (v : Word) : State :=
  if 0x7000100 ≤ a ∧ a < 0x7000140 then s.wrFmClass a v
  else if a = F.FM.FM_FIRST_VALID.addr then (if v.toNat / 2 ^ 31 = 1 then s.fmFirstEmpty else s)
  else s.hostWrite a v

/-! ### The recorder (R434 to R439) -/

/-- STATE of the recorder: 0 IDLE, 1 PRE_FILL, 2 ARMED, 3 POST_FILL, 4 FULL. -/
def State.recState (s : State) : Nat := s.get F.REC.REC_STAT_STATE

/-- The trigger block as accepted. -/
def State.recBlock (s : State) : List Byte := wordBytes ((List.range 8).map (fun i => s.rd (F.REC.REC_ARM i).addr))

/-- SLOTS. -/
def State.recSlots (s : State) : Nat := (s.rcd.slots.map (fun e => 2 ^ e.1)).sum

/-- The lowest free slot. -/
def State.recFree (s : State) : Option Nat := (List.range 4).find? (fun k => !s.rcd.slots.any (fun e => e.1 == k))

/-- A state of the recorder is entered. -/
def State.recTo (s : State) (st : Nat) : State :=
  let s := (s.set F.REC.REC_STAT_STATE st).set F.REC.REC_STAT_SLOTS s.recSlots
  if st = 1 then { s with rcd := { s.rcd with fillAt := s.time.dev.toNat } } else s

/-- Table 19-7: a source code of an analogue or a digital channel. -/
def srcOk (digital : Bool) (c : Nat) : Bool := decide (c = 0xFF ∨ c ≤ if digital then 0x51 else 0x29)

/-- R436: the payload word of the first field of a trigger block outside Table 19-9. -/
def blockFault (b : List Byte) : Option Nat :=
  let t := u8 b 0
  let ch := u8 b 1
  let a := u32 b 8
  let lim := u32 b 12
  let dig := t == 1 || t == 3
  let ana := t == 2 || t == 4
  let off := (dig && (decide (7 < ch) || u8 b (24 + ch) == 0xFF)) || (ana && (decide (3 < ch) || u8 b (20 + ch) == 0xFF))
  if 5 < t ∨ off ∨ 1 < u8 b 2 ∨ 3 < u8 b 3 then some 0
  else if 8191 < u16 b 4 ∨ u16 b 6 ≠ 0 then some 1
  else if (t = 3 ∧ (a = 0 ∨ 2 ^ 24 < a)) ∨ (ana ∧ 4095 < a) then some 2
  else if ana ∧ (lim ≤ a ∨ 4095 < lim) then some 3
  else if (List.range 4).any (fun i => !srcOk false (u8 b (20 + i))) then some 5
  else if (List.range 4).any (fun i => !srcOk true (u8 b (24 + i))) then some 6
  else if (List.range 4).any (fun i => !srcOk true (u8 b (28 + i))) then some 7
  else none

/-- RECORDER_ARM (R436). -/
def cmdRecorderArm (s : State) (p : List Byte) : Reply :=
  let clear := u8 p 3 / 2 % 2 == 1
  s.guarded [s.needDom 68, badParam (blockFault p).isSome ((blockFault p).getD 0), (s.recState == 3, 0x20, 1), (s.recState == 4 && !clear, 0x90, 0)]
    (let s := s.each (List.range 8) (fun s i => s.set (F.REC.REC_ARM i) (u32 p (4 * i)))
     let s : State := if clear then { s with rcd := { s.rcd with slots := [] } } else s
     (s.recTo 1).done [])

/-- A trigger is taken: POST_FILL begins. -/
def State.recFire (s : State) (valid : Nat) (forced : Bool) : State :=
  ({ s with rcd := { s.rcd with preValid := valid, forced := forced, trigTime := s.time.dev } } : State).recTo 3

/-- The pre-trigger samples held now. -/
def State.recHeld (s : State) : Nat :=
  let pre := u16 s.recBlock 4
  if s.recState = 2 then pre else if s.recState = 1 then min pre ((s.time.dev.toNat - s.rcd.fillAt) / 8) else 0

/-- R435, R437: a trigger condition is decided. -/
def State.recTrigger (s : State) : State :=
  if !s.domOn 68 || u8 s.recBlock 0 == 0 then s
  else match s.recState with
    | 1 | 2 => s.recFire s.recHeld false
    | 3 => s.inc F.REC.MISSED
    | 4 => s.inc F.REC.NO_SLOT
    | _ => s

/-- RECORDER_FORCE (R437). -/
def cmdRecorderForce (s : State) (_ : List Byte) : Reply :=
  s.guarded [s.needDom 68, (s.recState == 4, 0x90, 0)]
    (if s.recState = 3 then (s.inc F.REC.MISSED).reply (.final 0 1 []) else (s.recFire s.recHeld true).done [])

/-- R435: PRE samples are held. -/
def State.recPreDone (s : State) : State := if s.domOn 68 && s.recState == 1 then s.recTo 2 else s

/-- R434, Table 19-11: a byte of the samples as a capture holds it: 0 before PRE - PRE_VALID and for a channel that is off. -/
def sampleByte (b : List Byte) (gap i : Nat) (x : Byte) : Byte :=
  if i < 65536 then
    if i / 8 < gap ∨ u8 b (20 + i % 8 / 2) = 0xFF then 0 else if i % 2 = 0 then x &&& 0x0F else x
  else if i - 65536 < 12 * gap then 0
  else x &&& BitVec.ofNat 8 ((List.range 8).foldl (fun m c => m + bit (u8 b (24 + c) != 0xFF) * 2 ^ c) 0)

/-- R438: the fill is complete: the capture goes to the lowest free slot. -/
def State.recStore (s : State) (samples : List Byte) : State :=
  match s.recFree with
  | none => s
  | some k =>
    if !s.domOn 68 || s.recState != 3 then s
    else
      let b := s.recBlock
      let pre := u16 b 4
      let gap := pre - s.rcd.preValid
      let full := (samples ++ zeros (163840 - samples.length)).take 163840
      let bytes := (full.zip (List.range 163840)).map (fun e => sampleByte b gap e.2 e.1)
      let s := s.inc F.REC.CAPTURES
      let c : Capture := ⟨s.rcd.forced, decide (s.rcd.preValid < pre), u8 b 0, s.rcd.trigTime, s.get F.REC.CAPTURES, pre, s.rcd.preValid, b.drop 20,
        s.get F.REC.MISSED, bytes⟩
      let s : State := { s with rcd := { s.rcd with slots := s.rcd.slots ++ [(k, c)] } }
      let s := s.raise EV_RECORDER_CAPTURE c.trig k
      if s.recFree.isNone then (s.recTo 4).raise EV_RECORDER_FULL 0 0 else s.recTo (if u8 b 3 % 2 = 1 then 1 else 0)

/-- Table 19-11. -/
def captureRecord (k : Nat) (c : Capture) : List Byte :=
  let body := beBytes 1 0x90 ++ beBytes 1 (bit c.forced + 2 * bit c.preShort) ++ beBytes 1 k ++ beBytes 1 c.trig ++ beBytes 4 163908 ++
    beBytes 8 c.time.toNat ++ beBytes 4 c.num ++ beBytes 2 c.pre ++ beBytes 2 c.preValid ++ c.src ++ beBytes 4 c.missed ++ zeros 24 ++ c.samples
  body ++ beBytes 4 (crc32c body)

/-- RECORDER_READ (R439). -/
def cmdRecorderRead (s : State) (p : List Byte) : Reply :=
  let k := u8 p 0
  s.guarded [s.needDom 68, badParam (decide (3 < k) || notZero p 1 3) 0, (!s.rcd.slots.any (fun e => e.1 == k), 0x91, k)]
    (s.accept 0x0902 { s with rcd := { s.rcd with reading := some k } })

/-- R439: the record is placed, or class 5 refuses it. -/
def State.recReadEnd (s : State) (refused : Bool) : State :=
  match s.rcd.reading with
  | none => s
  | some k =>
    let s : State := { s with rcd := { s.rcd with reading := none } }
    match s.rcd.slots.find? (fun e => e.1 == k) with
    | none => s
    | some e =>
      let r := if refused then (false, s.memRefuse 5 0x42 (reqCount 163908)) else s.memReq 5 0x42 163908
      let s := r.2
      if !r.1 then s.complete 0x0902 0x21 5 []
      else
        let s := s.txPut 6 (captureRecord k e.2)
        let s : State := { s with rcd := { s.rcd with slots := s.rcd.slots.filter (fun e => e.1 != k) } }
        let s := if s.recState = 4 then s.recTo 1 else s.set F.REC.REC_STAT_SLOTS s.recSlots
        s.complete 0x0902 0 0 []

/-- R435: domain 68 is off: every slot is lost. -/
def State.recLost (s : State) : State := { s with rcd := ⟨[], 0, 0, false, 0, none⟩ }

/-! ### Sessions of the Brixut monitor (R441) -/

/-- R441: NONCE is drawn anew. -/
def State.monNonce (s : State) : State :=
  let r := s.freeNat
  { r.2 with mon := { r.2.mon with nonce := BitVec.ofNat 32 r.1 } }

/-- R441: an open session closes, its event lines with it. -/
def State.monClose (s : State) : State :=
  if s.flag F.MON.MON_STAT_SESSION then ((s.set F.MON.MON_STAT_SESSION 0).set F.MON.MON_STAT_EV_ON 0).raise EV_MONITOR_SESSION 0 0 else s

/-- R440: a write of MON_CTRL; EN 0 closes the session, and what waits in the output buffer does not leave. -/
def State.wrMonCtrl (s : State) (v : Word) : State :=
  let s := s.hostWrite F.MON.MON_CTRL_EN.addr v
  if s.flag F.MON.MON_CTRL_EN then s else { s.monClose with mon := { s.monClose.mon with lines := [] } }

end Sys2Proof.Machine
end

