-- ==== Sys2Proof/Machine/Field.lean ====
section
/-! DEFINITION. The geometry of a protective field (R342, R344, R357): the polygon's checks in exact integers, and the largest range at which a direction of a cell lies
inside the field's prism, in fixed point of 2^-40 (notes/assumptions/42.md). -/

namespace Sys2Proof.Machine

/-! ### Polygons (R357) -/

/-- A point of the horizontal plane, mm. -/
abbrev Pt := Int × Int

/-- Twice the signed area of a triangle. -/
def cross (a b c : Pt) : Int := (b.1 - a.1) * (c.2 - a.2) - (b.2 - a.2) * (c.1 - a.1)

/-- Sign of a number. -/
def sgn (x : Int) : Int := if 0 < x then 1 else if x < 0 then -1 else 0

/-- `p` lies on the segment `a b`. -/
def onSegment (a b p : Pt) : Bool :=
  cross a b p == 0 && decide (min a.1 b.1 ≤ p.1 ∧ p.1 ≤ max a.1 b.1 ∧ min a.2 b.2 ≤ p.2 ∧ p.2 ≤ max a.2 b.2)

/-- Two segments have a point in common. -/
def segmentsMeet (a b c d : Pt) : Bool :=
  (sgn (cross a b c) * sgn (cross a b d) == -1 && sgn (cross c d a) * sgn (cross c d b) == -1) ||
    onSegment a b c || onSegment a b d || onSegment c d a || onSegment c d b

/-- The edges of a polygon. -/
def polyEdges (ps : List Pt) : List (Pt × Pt) := ps.zip (ps.drop 1 ++ ps.take 1)

/-- R357: the polygon intersects itself: two edges that are not neighbours meet, neighbours overlap, or an edge has no length. -/
def selfIntersects (ps : List Pt) : Bool :=
  let es := polyEdges ps
  let n := es.length
  es.any (fun e => e.1 == e.2) ||
    (List.range n).any (fun i => (List.range n).any (fun j =>
      let e := es.getD i ((0, 0), (0, 0))
      let f := es.getD j ((0, 0), (0, 0))
      if j = (i + 1) % n then cross e.1 e.2 f.2 == 0 && (onSegment e.1 e.2 f.2 || onSegment f.1 f.2 e.1)
      else if i < j && i ≠ (j + 1) % n then segmentsMeet e.1 e.2 f.1 f.2
      else false))

/-- Whether the origin lies inside a polygon (crossings of a half-line). -/
def coversOrigin (ps : List Pt) : Bool :=
  (polyEdges ps).foldl (fun odd e =>
    if (decide (0 < e.1.2) != decide (0 < e.2.2)) &&
        decide (0 < cross e.1 e.2 (0, 0) * (if e.1.2 < e.2.2 then 1 else -1)) then !odd else odd) false

/-- Whether a segment comes within `r` of the origin. -/
def segmentNear (r : Int) (a b : Pt) : Bool :=
  let dx := b.1 - a.1
  let dy := b.2 - a.2
  let t := -(a.1 * dx + a.2 * dy)
  let l := dx * dx + dy * dy
  if t ≤ 0 then decide (a.1 * a.1 + a.2 * a.2 ≤ r * r)
  else if l ≤ t then decide (b.1 * b.1 + b.2 * b.2 ≤ r * r)
  else decide (cross a b (0, 0) * cross a b (0, 0) ≤ r * r * l)

/-! ### Fixed point -/

/-- One in fixed point. -/
def fx1 : Int := 2 ^ 40

/-- Product in fixed point. -/
def fxMul (a b : Int) : Int := a * b / fx1

/-- A sine or cosine of 2^-96 in fixed point. -/
def fxTrig (x : Int) : Int := x / 2 ^ 56

/-- A vector. -/
structure V3 where
  x : Int
  y : Int
  z : Int
  deriving DecidableEq, Repr

/-- Scalar product. -/
def V3.dot (a b : V3) : Int := (a.x * b.x + a.y * b.y + a.z * b.z) / fx1

/-- A vector by a scalar `n / d`. -/
def V3.scale (a : V3) (n d : Int) : V3 := ⟨a.x * n / d, a.y * n / d, a.z * n / d⟩

/-- Sum. -/
def V3.add (a b : V3) : V3 := ⟨a.x + b.x, a.y + b.y, a.z + b.z⟩

/-- Difference. -/
def V3.sub (a b : V3) : V3 := ⟨a.x - b.x, a.y - b.y, a.z - b.z⟩

/-- Where a sensor stands (R342): the rows of Rz(YAW) · Ry(PITCH) · Rx(ROLL) and MOUNT_H. -/
structure Mount where
  r0 : V3
  r1 : V3
  r2 : V3
  h : Int
  deriving DecidableEq, Repr

/-- R342: the mount of committed angles (1/65,536 turn) and height (mm). -/
def mountOf (pitch roll yaw h : Int) : Mount :=
  let c := fun (a : Int) => fxTrig (cosTurn a 65536)
  let s := fun (a : Int) => fxTrig (sinTurn a 65536)
  let m := fun a b => fxMul a b
  let cy := c yaw
  let sy := s yaw
  let cp := c pitch
  let sp := s pitch
  let cr := c roll
  let sr := s roll
  ⟨⟨m cy cp, m (m cy sp) sr - m sy cr, m (m cy sp) cr + m sy sr⟩, ⟨m sy cp, m (m sy sp) sr + m cy cr, m (m sy sp) cr - m cy sr⟩, ⟨-sp, m cp sr, m cp cr⟩,
    h * fx1⟩

/-- A direction of the sensor frame in the safety frame. -/
def Mount.turn (m : Mount) (p : V3) : V3 := ⟨m.r0.dot p, m.r1.dot p, m.r2.dot p⟩

/-- A direction of the safety frame in the sensor frame. -/
def Mount.back (m : Mount) (p : V3) : V3 :=
  ⟨fxMul m.r0.x p.x + fxMul m.r1.x p.y + fxMul m.r2.x p.z, fxMul m.r0.y p.x + fxMul m.r1.y p.y + fxMul m.r2.y p.z,
    fxMul m.r0.z p.x + fxMul m.r1.z p.y + fxMul m.r2.z p.z⟩

/-- A field's prism: the polygon and the heights, mm. -/
structure Prism where
  poly : List Pt
  zmin : Int
  zmax : Int
  deriving DecidableEq, Repr

/-- A cell of directions: azimuths (1/65,536 turn) and elevations (2^-24 turn), as the sines and cosines of their ends. -/
structure Cell where
  c0 : Int
  s0 : Int
  c1 : Int
  s1 : Int
  ce0 : Int
  se0 : Int
  ce1 : Int
  se1 : Int
  deriving DecidableEq, Repr

/-- R344: the cell of azimuths `a0` to `a1` and elevations `e0` to `e1`. -/
def cellOf (a0 a1 e0 e1 : Int) : Cell :=
  let c := fun (a : Int) (d : Nat) => fxTrig (cosTurn a d)
  let s := fun (a : Int) (d : Nat) => fxTrig (sinTurn a d)
  ⟨c a0 65536, s a0 65536, c a1 65536, s a1 65536, c e0 (2 ^ 24), s e0 (2 ^ 24), c e1 (2 ^ 24), s e1 (2 ^ 24)⟩

/-- Which side of the half-plane of an azimuth a point lies on. -/
def azSide (c s : Int) (p : V3) : Int := c * p.y - s * p.x

/-- The azimuth of a point lies in the cell. -/
def Cell.azIn (k : Cell) (p : V3) : Bool :=
  decide (0 ≤ azSide k.c0 k.s0 p ∧ azSide k.c1 k.s1 p ≤ 0 ∧ 0 < (k.c0 + k.c1) * p.x + (k.s0 + k.s1) * p.y)

/-- Horizontal distance. -/
def V3.rho (p : V3) : Int := (Nat.sqrt (p.x * p.x + p.y * p.y).toNat : Nat)

/-- The elevation of a point lies in the cell. -/
def Cell.elIn (k : Cell) (p : V3) : Bool := decide (k.se0 * p.rho ≤ k.ce0 * p.z ∧ k.ce1 * p.z ≤ k.se1 * p.rho)

/-- The corners of a prism in the sensor frame: lower and upper, in order. -/
def Prism.corners (f : Prism) (m : Mount) : List (V3 × V3) :=
  f.poly.map (fun q =>
    let at_ := fun (z : Int) => m.back ⟨q.1 * fx1, q.2 * fx1, z * fx1 - m.h⟩
    (at_ f.zmin, at_ f.zmax))

/-- The edges of a prism in the sensor frame. -/
def Prism.edges (f : Prism) (m : Mount) : List (V3 × V3) :=
  let cs := f.corners m
  let ring := cs.zip (cs.drop 1 ++ cs.take 1)
  ring.map (fun e => (e.1.1, e.2.1)) ++ ring.map (fun e => (e.1.2, e.2.2)) ++ cs

/-- Where an edge crosses the half-plane of an azimuth. -/
def edgeAz (c s : Int) (e : V3 × V3) : List V3 :=
  let a := azSide c s e.1
  let b := azSide c s e.2
  if a = b ∨ (0 < a ∧ 0 < b) ∨ (a < 0 ∧ b < 0) then [] else [e.1.add ((e.2.sub e.1).scale a (a - b))]

/-- Where an edge crosses the cone of an elevation. -/
def edgeCone (ce se : Int) (e : V3 × V3) : List V3 :=
  let p := e.1
  let d := e.2.sub e.1
  let c2 := fxMul ce ce
  let s2 := fxMul se se
  let a := c2 * (d.z * d.z) - s2 * (d.x * d.x + d.y * d.y)
  let b := 2 * (c2 * (p.z * d.z) - s2 * (p.x * d.x + p.y * d.y))
  let c := c2 * (p.z * p.z) - s2 * (p.x * p.x + p.y * p.y)
  let disc := b * b - 4 * a * c
  let ok := fun (n den : Int) =>
    let n := if den < 0 then -n else n
    let den : Int := den.natAbs
    if den = 0 ∨ n < 0 ∨ den < n then [] else
      let q := p.add (d.scale n den)
      if 0 ≤ sgn q.z * sgn se ∨ q.z.natAbs < 2 ^ 30 then [q] else []
  if a = 0 then ok (-c) b
  else if disc < 0 then []
  else
    let r : Int := (Nat.sqrt disc.toNat : Nat)
    ok (-b + r) (2 * a) ++ ok (-b - r) (2 * a)

/-- Whether a point of the horizontal plane lies inside a polygon; the edge counts where `edge`. -/
def inPoly (ps : List Pt) (x y : Int) : Bool :=
  (polyEdges ps).foldl (fun odd e =>
    let ay := e.1.2 * fx1 - y
    let bY := e.2.2 * fx1 - y
    let ax := e.1.1 * fx1 - x
    let bx := e.2.1 * fx1 - x
    if (decide (0 < ay) != decide (0 < bY)) && decide (0 < (ax * bY - ay * bx) * (if ay < bY then 1 else -1)) then !odd else odd) false

/-- Where a ray meets the faces of a prism: distances. -/
def rayHits (f : Prism) (m : Mount) (dir : V3) : List Int :=
  let u := m.turn dir
  let level := fun (z : Int) =>
    let n := (z * fx1 - m.h) * fx1
    if u.z = 0 then [] else
      let t := n / u.z
      if 0 < t && inPoly f.poly (fxMul t u.x) (fxMul t u.y) then [t] else []
  let side := fun (e : Pt × Pt) =>
    let dx := e.2.1 - e.1.1
    let dy := e.2.2 - e.1.2
    let den := dy * u.x - dx * u.y
    if den = 0 then [] else
      let t := (dy * e.1.1 - dx * e.1.2) * fx1 * fx1 / den
      let z := fxMul t u.z + m.h
      let w := dx * (fxMul t u.x - e.1.1 * fx1) + dy * (fxMul t u.y - e.1.2 * fx1)
      if 0 < t ∧ f.zmin * fx1 ≤ z ∧ z ≤ f.zmax * fx1 ∧ 0 ≤ w ∧ w ≤ (dx * dx + dy * dy) * fx1 then [t] else []
  level f.zmin ++ level f.zmax ++ (polyEdges f.poly).flatMap side

/-- The normals of a prism's faces in the sensor frame. -/
def Prism.normals (f : Prism) (m : Mount) : List V3 :=
  m.r2 :: (polyEdges f.poly).map (fun e => m.back ⟨(e.2.2 - e.1.2) * fx1, (e.1.1 - e.2.1) * fx1, 0⟩)

/-- The directions on a cone of elevation at which the distance to a plane is stationary. -/
def stationary (ce se : Int) (n : V3) : List V3 :=
  let r := n.rho
  if r = 0 then [] else [⟨ce * n.x / r, ce * n.y / r, se⟩, ⟨-(ce * n.x / r), -(ce * n.y / r), se⟩]

/-- R344: the largest distance (fixed point, mm) at which a direction of the cell lies inside the prism; 0 where none does. The set's farthest point is a corner of the
prism, a crossing of an edge with the cell's boundary, or a point of a face on a corner ray or at a stationary direction of a bounding cone. -/
def farthest (f : Prism) (m : Mount) (k : Cell) : Int :=
  let es := f.edges m
  let vs := (f.corners m).flatMap (fun c => [c.1, c.2])
  let pts := vs.filter (fun p => k.azIn p && k.elIn p) ++
    (es.flatMap (fun e => edgeAz k.c0 k.s0 e ++ edgeAz k.c1 k.s1 e)).filter (fun p => decide (0 < (k.c0 + k.c1) * p.x + (k.s0 + k.s1) * p.y) && k.elIn p) ++
    (es.flatMap (fun e => edgeCone k.ce0 k.se0 e ++ edgeCone k.ce1 k.se1 e)).filter k.azIn
  let ray := fun (c s ce se : Int) => (⟨fxMul ce c, fxMul ce s, se⟩ : V3)
  let rays := [ray k.c0 k.s0 k.ce0 k.se0, ray k.c0 k.s0 k.ce1 k.se1, ray k.c1 k.s1 k.ce0 k.se0, ray k.c1 k.s1 k.ce1 k.se1] ++
    ((f.normals m).flatMap (fun n => stationary k.ce0 k.se0 n ++ stationary k.ce1 k.se1 n)).filter k.azIn
  let far := pts.map (fun p => ((Nat.sqrt (p.x * p.x + p.y * p.y + p.z * p.z).toNat : Nat) : Int)) ++ rays.flatMap (rayHits f m)
  far.foldl max 0

/-- R344: a distance rounded up to whole cm, limited to 65,534. -/
def upToCm (d : Int) : Nat := if d ≤ 0 then 0 else min 65534 ((d - 2 ^ 20 + 10 * fx1 - 1) / (10 * fx1)).toNat

end Sys2Proof.Machine
end

