-- ==== Sys2Proof/Machine/RegionS.lean ====
section
/-! DEFINITION. Machine safety (chapter 15): the locked configuration, protective fields and ranging validity, dual-channel inputs, safety outputs with their reset, and
commissioning. -/

namespace Sys2Proof.Machine

/-! ### The configuration image (Tables 15-9 and 15-10) -/

/-- The parameters of Table 15-9 in ascending number. -/
def safeParams : List Nat :=
  [0x01, 0x02, 0x03, 0x04, 0x10, 0x11, 0x12] ++ (List.range 8).map (fun i => 0x20 + i) ++ (List.range 4).map (fun o => 0x30 + o) ++
    (List.range 4).map (fun o => 0x40 + o) ++ [0x50, 0x60] ++ (List.range 9).map (fun i => 0x100 + i) ++ (List.range 8).map (fun i => 0x600 + i)

/-- The default of a parameter. -/
def safeDefault (n : Nat) : Nat :=
  if n = 1 then 2000
  else if n = 0x11 then 2
  else if n = 0x12 then 150
  else if 0x20 ≤ n ∧ n < 0x26 then 0x6432
  else if n = 0x26 ∨ n = 0x27 then 0x640A0A
  else if 0x30 ≤ n ∧ n < 0x34 then 2
  else if 0x40 ≤ n ∧ n < 0x44 then 0x3E800C8
  else if n = 0x50 then 0x13880064
  else 0

/-- The image of an unconfigured unit: every parameter at its default, no field written. -/
def safeBlank : List Byte :=
  beBytes 4 0x53464347 ++ beBytes 2 1 ++ beBytes 2 42 ++ beBytes 4 4652 ++ zeros 12 ++
    safeParams.flatMap (fun n => beBytes 2 n ++ zeros 2 ++ beBytes 4 (safeDefault n)) ++ zeros 4288 ++ zeros 4

/-- The entry of a parameter. -/
def paramEntry (n : Nat) : Nat := safeParams.findIdx (fun k => k == n)

/-- The value of a parameter in an image. -/
def imgParam (img : List Byte) (n : Nat) : Nat := u32 img (28 + 8 * paramEntry n)

/-- A signed parameter. -/
def imgParamI (img : List Byte) (n : Nat) : Int := signed 32 (imgParam img n)

/-- The CRC of R359 over bytes 24 to 4,647. -/
def imgCrc (img : List Byte) : Nat := crc32c ((img.drop 24).take 4624)

/-- Where field `f` lies in an image: VERTICES, and the block after it. -/
def fieldOff (f : Nat) : Nat := 360 + 268 * f

/-- Field `f` of an image is written and has EN. -/
def imgFieldEn (img : List Byte) (f : Nat) : Bool := u8 img (fieldOff f) != 0 && u8 img (fieldOff f + 4) % 2 == 1

/-- The vertices of a field block. -/
def blockPoly (b : List Byte) (n : Nat) : List Pt := (List.range n).map (fun v => (intAt b (8 + 8 * v) 4, intAt b (12 + 8 * v) 4))

/-- The prism of field `f`, mm. -/
def imgPrism (img : List Byte) (f : Nat) : Prism :=
  let b := (img.drop (fieldOff f + 4)).take 264
  ⟨blockPoly b (u8 img (fieldOff f)), 10 * intAt b 4 2, 10 * intAt b 6 2⟩

/-- The flash address of copy `i`. -/
def safeAddr (i : Nat) : Nat := 0x00F20000 + 0x10000 * i

/-- Copy `i` as the flash holds it. -/
def State.safeCopy (s : State) (i : Nat) : List Byte := s.flashRead (safeAddr i) 4652

/-- A copy with a valid CRC. -/
def safeCopyOk (img : List Byte) : Bool := crc32c (img.take 4648) == u32 img 4648

/-- GENERATION of an image. -/
def imgGen (img : List Byte) : Nat := u32 img 12

/-- R360: the copies with a valid CRC, and the one with the higher GENERATION. -/
def State.safeChoose (s : State) : List Nat × Option Nat :=
  let a := safeCopyOk (s.safeCopy 0)
  let b := safeCopyOk (s.safeCopy 1)
  ((if a then [0] else []) ++ (if b then [1] else []),
    if a && b then some (if imgGen (s.safeCopy 0) < imgGen (s.safeCopy 1) then 1 else 0) else if a then some 0 else if b then some 1 else none)

/-- The image in force, the defaults where none is. -/
def State.safeImg (s : State) : List Byte := s.safe.cfg.getD safeBlank

/-- A copy is loaded and its GEOM_CRC matches. -/
def State.safeConf (s : State) : Bool := s.safe.cfg.isSome && s.safe.geomOk

/-- The value of a parameter in force. -/
def State.safeParam (s : State) (n : Nat) : Nat := imgParam s.safeImg n

/-- Field `f` is enabled; no field is before a configuration is loaded. -/
def State.fieldOn (s : State) (f : Nat) : Bool := s.safeConf && imgFieldEn s.safeImg f

/-- The enabled fields. -/
def State.fieldsOn (s : State) : List Nat := (List.range 16).filter s.fieldOn

/-! ### SAFE_STAT.STATE (R348) -/

/-- R348: HALT: a cause other than OUT0 to OUT3 and INPUT, or SAFE_HOLD or THERMAL_LATCH. -/
def State.safeHalt (s : State) : Bool :=
  decide (32 ≤ s.get F.SAF.SAFE_FAULT_CAUSE) || s.pw.st == .safeHold || s.pw.st == .thermalLatch

/-- R348: the four values of STATE. -/
def State.safeState (s : State) : Nat :=
  if !s.safeConf then 0 else if !s.safe.built then 1 else if s.safeHalt then 3 else 2

/-! ### Causes (R354) -/

/-- R354: cause bits rise; the first one since CAUSE was 0 goes to FIRST. -/
def State.safeLatch (s : State) (mask : Nat) : State :=
  let old := s.get F.SAF.SAFE_FAULT_CAUSE
  let rose := mask &&& (65535 - old)
  if rose = 0 then s
  else
    let s := s.set F.SAF.SAFE_FAULT_CAUSE (old ||| rose)
    if old = 0 then s.set F.SAF.SAFE_FAULT_FIRST ((List.range 16).findIdx (fun i => rose / 2 ^ i % 2 == 1)) else s

/-- Cause bits clear; FIRST reads 0xFF when none is left. -/
def State.safeClear (s : State) (mask : Nat) : State :=
  let new := s.get F.SAF.SAFE_FAULT_CAUSE &&& (65535 - mask)
  let s := s.set F.SAF.SAFE_FAULT_CAUSE new
  if new = 0 then s.set F.SAF.SAFE_FAULT_FIRST 0xFF else s

/-! ### Ranging validity (R346, Table 15-3) -/

/-- R346: a field becomes VIOLATED. -/
def State.fieldViolate (s : State) (f : Nat) : State :=
  let s : State := { s with safe := { s.safe with
    fields := spSet (fun _ => FieldSt.init) s.safe.fields f { spGet (fun _ => FieldSt.init) s.safe.fields f with clean := 0 } } }
  s.setBitAt F.SAF.SAFE_FIELD_VIOL f true

/-- R346: the causes of Table 15-3 become `c`: one that rises violates every enabled field and is reported. -/
def State.setInvalid (s : State) (c : Nat) : State :=
  let old := s.get F.SAF.SAFE_INVALID_CAUSE
  let s := s.set F.SAF.SAFE_INVALID_CAUSE c
  if c &&& (255 - old) = 0 then s
  else
    let s := s.when (old == 0) (fun s => s.inc F.SAF.INVALID_EPISODES)
    let s := s.each s.fieldsOn State.fieldViolate
    ({ s with safe := { s.safe with frameOk := false } } : State).raise EV_SAFETY_RANGING 0 c

/-- Set or clear one cause. -/
def State.invalidBit (s : State) (i : Nat) (b : Bool) : State :=
  s.setInvalid (withBits (s.get F.SAF.SAFE_INVALID_CAUSE) i 1 (bit b))

/-- The causes that the device's own state shows: NOT_SCANNING, MIRROR, BIAS, EMITTER. -/
def State.invalidNow (s : State) : Nat :=
  let m := s.stateSources
  bit (s.pw.st != .scanning) + 2 * bit (m / 4 % 2 == 1) + 4 * bit (m / 8 % 2 == 1) + 8 * bit (s.get F.SHT.EMIT_INHIBIT_SRC != 0)

/-- R346: the first four causes follow the device's state. -/
def State.invalidFollow (s : State) : State := s.setInvalid (s.get F.SAF.SAFE_INVALID_CAUSE / 16 * 16 + s.invalidNow)

/-! ### Columns against fields (R343 to R345) -/

/-- R344: the mount of the image. -/
def imgMount (img : List Byte) : Mount := mountOf (imgParamI img 2) (imgParamI img 3) (imgParamI img 4) (imgParam img 1)

/-- R344: L_f(n, m) of the configuration in force, cm. -/
def State.limit (s : State) (f n m : Nat) : Nat :=
  let el := s.safe.els.getD m (0, 0)
  upToCm (farthest (imgPrism s.safeImg f) (imgMount s.safeImg) (cellOf (64 * n - 16384) (64 * n - 16321) (el.1 - 1456) (el.2 + 1456)))

/-- R343: whether POLICY skips a return; a FOREIGN one is always counted. -/
def policySkips (policy : Nat) (x : Ret) : Bool :=
  !x.foreign && ((policy % 2 == 1 && x.precip) || (policy / 2 % 2 == 1 && x.multi) || (policy / 4 % 2 == 1 && x.low))

/-- R343: RANGE_CM of the counted return; none: no counted return. -/
def rangeCm (policy : Nat) (o : RowOut) : Option Nat :=
  let l := (o.rets.filter (fun x => !policySkips policy x)).map (fun x => x.range)
  if l.isEmpty then none else some (min (l.foldl min (l.getD 0 0) / 40) 65534)

/-- R345: every row of a region with DIRTY set counts as CODE 3. -/
def State.safeCode (s : State) (o : RowOut) : Nat := if s.flag (F.PE.PE_STAT_DIRTY (rowRegion o.row)) then 3 else o.code

/-- R345: whether a row hits where its cell's limit is `l`. -/
def State.rowHits (s : State) (l : Nat) (o : RowOut) : Bool :=
  decide (0 < l) && (s.safeCode o != 0 || match rangeCm (s.safeParam 0x10) o with
    | some r => decide (r ≤ l)
    | none => false)

/-- Whether `need` consecutive values are true. -/
def consecutive (need : Nat) : Nat → List Bool → Bool
  | n, [] => decide (need ≤ n)
  | n, b :: r => if need ≤ n then true else consecutive need (if b then n + 1 else 0) r

/-- R345: column `k` in angle cell `n` hits field `f`. -/
def State.columnHits (s : State) (f n : Nat) (k : ColInfo) : Bool :=
  let need := u8 s.safeImg (fieldOff f + 5)
  let lim := (List.range 128).map (fun m => s.limit f n m)
  consecutive need 0 ((List.range 1024).map (fun r => s.rowHits (lim.getD (r / 8) 0) (k.row r)))

/-- R344: the angle cell of a column; none outside the 512 cells. -/
def State.angleCell (s : State) (k : ColInfo) : Option Nat :=
  match k.angle with
  | none => none
  | some a =>
    let d := signed 16 (((a : Int) - s.safe.zero) % 65536).toNat
    if -16384 ≤ d ∧ d < 16384 then some ((d + 16384) / 64).toNat else none

/-- R345: field `f` takes a column that hit it or did not; `first` and `last`: of its frame. -/
def State.fieldColumn (s : State) (first last valid hit : Bool) (f : Nat) : State :=
  let x := spGet (fun _ => FieldSt.init) s.safe.fields f
  let run := if hit then x.run + 1 else 0
  let full := decide (u8 s.safeImg (fieldOff f + 6) ≤ run)
  let reached := full || (x.reached && !first)
  let clean := if last then (if valid && !reached then x.clean + 1 else 0) else x.clean
  let put := fun (s : State) (c : Nat) => { s with safe := { s.safe with
    fields := spSet (fun _ => FieldSt.init) s.safe.fields f ⟨run, reached, c⟩ } }
  if full then
    if s.bitAt F.SAF.SAFE_FIELD_VIOL f then put s 0
    else (((put s 0).setBitAt F.SAF.SAFE_FIELD_VIOL f true).inc F.SAF.FIELD_TRIPS).raise EV_SAFETY_FIELD f 0
  else if s.safeParam 0x11 ≤ clean then (put s clean).setBitAt F.SAF.SAFE_FIELD_VIOL f false
  else put s clean

/-- R345, R346: Region S evaluates the oldest column whose parts have all arrived. -/
def State.safetyColumn (s : State) : State :=
  match s.ps.cols.find? (fun k => !k.judged && (s.partsMissing k).isEmpty) with
  | none => s
  | some k =>
    if !s.safe.built then s.onCol k.c (fun k => { k with judged := true })
    else
      let s := s.onCol k.c (fun k => { k with judged := true })
      let gap := match s.safe.prev with
        | some p => k.c != p + 1
        | none => false
      let cell := s.angleCell k
      let old := s.get F.SAF.SAFE_INVALID_CAUSE
      let s := s.setInvalid (old &&& (255 - 112) ||| 32 * bit gap ||| 64 * bit cell.isNone)
      let first := k.c % s.nCol == 0
      let ok := s.get F.SAF.SAFE_INVALID_CAUSE == 0
      let valid := ok && (s.safe.frameOk || first)
      let s : State := { s with safe := { s.safe with prev := some k.c, frameOk := valid, evals := s.safe.evals + 1 } }
      let s := s.inc F.SAF.COLS_EVAL
      s.each s.fieldsOn (fun s f =>
        s.fieldColumn first (k.c % s.nCol + 1 == s.nCol) valid (match cell with
          | some n => s.columnHits f n k
          | none => false) f)

/-- R346: no complete column for 3 C. -/
def State.columnTimeout (s : State) : State := if s.pw.st = .scanning then s.invalidBit 4 true else s

/-- R346, Table 15-3: the cause named has arisen; one that shows in the device's state does so by that state. -/
def State.invalidCause (s : State) (i : Nat) : State :=
  if i < 4 then (if s.invalidNow / 2 ^ i % 2 = 1 then s.invalidBit i true else s)
  else if i = 4 then s.columnTimeout
  else if i = 7 then
    (if s.pw.st = .scanning then (s.invalidBit 7 true).onCol s.scan.column (fun k => { k with overrun := true }) else s)
  else s

/-! ### Response times (R355) -/

/-- R355: the angle units from ANG_ZERO of a reference. -/
def State.relAngle (s : State) (y : Int) : Int := rnd y 8 + signed 16 ((s.get F.STEER.ANG_ZERO + 65536 - s.safe.zero % 65536) % 65536).toNat

/-- R355: the angle cells of forward column `k` of `n`. -/
def State.columnCells (s : State) (n k : Nat) : List Nat :=
  let p := fun (j : Nat) => ((j * 65536 * 2048 / n : Nat) : Int) - 32768
  let inner := (List.range 2048).filter (fun i => decide (p k < 65536 * (i : Int) ∧ 65536 * (i : Int) < p (k + 1)))
  let ds := ([p k, p (k + 1)] ++ inner.map (fun i => 65536 * (i : Int))).map (fun q => s.relAngle (s.trajAt q 0))
  let lo := ds.foldl min (ds.getD 0 0)
  let hi := ds.foldl max (ds.getD 0 0)
  (List.range 512).filter (fun c => decide ((lo + 16384) / 64 ≤ c ∧ (c : Int) ≤ (hi + 16384) / 64))

/-- R355: k_lo and k_hi of field `f`; none where no forward column meets it. -/
def State.fieldCols (s : State) (p f : Nat) : Option (Nat × Nat) :=
  let n := profCols p
  let seen := (List.range 512).map (fun c => (List.range 128).any (fun m => decide (0 < s.limit f c m)))
  let ks := (List.range n).filter (fun k => (s.columnCells n k).any (fun c => seen.getD c false))
  match ks.head?, ks.getLast? with
  | some a, some b => some (a, b)
  | _, _ => none

/-- Table 15-7: the response of field `f` in units of 1/3,072 ns. -/
def State.fieldResponse (s : State) (p f : Nat) (k : Nat × Nat) : Nat :=
  let n : Nat := profCols p
  (max (2 * n - 1 - 2 * k.1) (2 * k.2 + 1) + u8 s.safeImg (fieldOff f + 6)) * profC p + 47200 * 3072

/-- R355: SCAN_START publishes the responses under profile `p`; the first field that exceeds RESP_MAX. -/
def State.responses (s : State) (p : Nat) : Option Nat × State :=
  let t := s.copyTable
  (List.range 16).foldl (fun (a : Option Nat × State) f =>
    let s := a.2
    if !s.fieldOn f then (a.1, ((s.set (F.SAF.FIELD_RESP f) (2 ^ 32 - 1)).set (F.SAF.FIELD_COLS_K_HI f) 0).set (F.SAF.FIELD_COLS_K_LO f) 0)
    else match t.fieldCols p f with
      | none => (a.1.or (some f), ((s.set (F.SAF.FIELD_RESP f) (2 ^ 32 - 1)).set (F.SAF.FIELD_COLS_K_HI f) 0).set (F.SAF.FIELD_COLS_K_LO f) 0)
      | some k =>
        let r := s.fieldResponse p f k
        (if s.safeParam 0x12 * 1000000 * 3072 < r then a.1.or (some f) else a.1,
          ((s.set (F.SAF.FIELD_RESP f) ((r + 3071999) / 3072000)).set (F.SAF.FIELD_COLS_K_HI f) k.2).set (F.SAF.FIELD_COLS_K_LO f) k.1)) (none, s)

/-! ### Inputs (R347, Table 15-4) -/

/-- The configuration of input `i`. -/
def State.inCfg (s : State) (i : Nat) : Nat := s.safeParam (0x20 + i)

/-- Input `i` is enabled. -/
def State.inOn (s : State) (i : Nat) : Bool := s.safeConf && s.inCfg i / 2 ^ 31 % 2 == 1

/-- Input `i` of the machine. -/
def State.safeIn (s : State) (i : Nat) : InSt := spGet (fun _ => InSt.init) s.safe.ins i

/-- R347: one channel's filter: its level and samples toward a change. -/
def filterStep (cfg : Nat) (level : Bool) (n : Nat) (sample : Bool) : Bool × Nat :=
  let filt := bitsOf cfg 8 8
  let need := if sample then filt else max filt (bitsOf cfg 16 8 + 1)
  if sample = level then (level, 0) else if need ≤ n + 1 then (sample, 0) else (level, n + 1)

/-- Table 15-4 on filtered levels; `t`: DISC_T in cycles. -/
def inputNext (t : Nat) (x : InSt) : InSt :=
  let here := if x.first then x.a else x.b
  let other := if x.first then x.b else x.a
  let n := x.cycles + 1
  match x.st with
  | .run =>
    if x.a && x.b then x else if x.a || x.b then { x with st := .discStop, first := !x.a, cycles := 0 } else { x with st := .stop }
  | .discStop =>
    if here then { x with st := .fault }
    else if !other && decide (n ≤ t) then { x with st := .stop }
    else if t ≤ n then { x with st := .fault } else { x with cycles := n }
  | .stop =>
    if x.a && x.b then { x with st := .run } else if x.a || x.b then { x with st := .discRun, first := x.a, cycles := 0 } else x
  | .discRun =>
    if !here then { x with st := .stop }
    else if other && decide (n ≤ t) then { x with st := .run }
    else if t ≤ n then { x with st := .fault } else { x with cycles := n }
  | .fault => if x.a || x.b then x else { x with st := .stop }

/-- Outputs whose INPUT_MASK names input `i`. -/
def State.outsOf (s : State) (i : Nat) : List Nat := (List.range 4).filter (fun o => s.safeParam (0x30 + o) / 2 ^ (8 + i) % 2 == 1)

/-- R347: input `i` samples its channels; what it latches on entry to FAULT. -/
def State.inputCycle (s : State) (pins i : Nat) : State :=
  let put := fun (s : State) (x : InSt) => { s with safe := { s.safe with ins := spSet (fun _ => InSt.init) s.safe.ins i x } }
  if !s.inOn i then put s InSt.init
  else
    let cfg := s.inCfg i
    let x := s.safeIn i
    let pa := pins / 2 ^ (2 * i) % 2 == 1
    let pb := (pins / 2 ^ (2 * i + 1) % 2 == 1) != (cfg / 2 ^ 30 % 2 == 1)
    let a := filterStep cfg x.a x.na pa
    let b := filterStep cfg x.b x.nb pb
    let y := inputNext (1000 * (cfg % 256)) { x with a := a.1, na := a.2, b := b.1, nb := b.2 }
    let s := put s y
    if y.st = .fault ∧ x.st ≠ .fault then
      ((s.each (s.outsOf i) (fun s o => s.setBitAt F.SAF.SAFE_OUT_RESET_REQ o true)).safeLatch 16).raise EV_SAFETY_INPUT i 0
    else s

/-! ### Outputs (R349 to R353) -/

/-- The configuration of output `o`. -/
def State.outCfg (s : State) (o : Nat) : Nat := s.safeParam (0x30 + o)

/-- Output `o` of the machine. -/
def State.safeOut (s : State) (o : Nat) : SafeOut := spGet (fun _ => SafeOut.init) s.safe.outs o

/-- Replace output `o`. -/
def State.setSafeOut (s : State) (o : Nat) (x : SafeOut) : State :=
  { s with safe := { s.safe with outs := spSet (fun _ => SafeOut.init) s.safe.outs o x } }

/-- R349: COND_o. -/
def State.cond (s : State) (o : Nat) : Bool :=
  let cfg := s.outCfg o
  s.safeConf && cfg % 2 == 1 && s.safeState == 2 &&
    (List.range 16).all (fun f => cfg / 2 ^ (16 + f) % 2 == 0 || !s.bitAt F.SAF.SAFE_FIELD_VIOL f) &&
    (List.range 8).all (fun i => cfg / 2 ^ (8 + i) % 2 == 0 || (s.safeIn i).st == .run) && !s.bitAt F.SAF.SAFE_FAULT_CAUSE o

/-- The readbacks of output `o` on the pins. -/
def readbacks (pins o : Nat) : Bool × Bool := (pins / 2 ^ (24 + 2 * o) % 2 == 1, pins / 2 ^ (25 + 2 * o) % 2 == 1)

/-- Consecutive mismatches of a channel, checked from 50 µs after its command edge. -/
def missStep (since miss : Nat) (command readback : Bool) : Nat :=
  if 5 ≤ since ∧ command ≠ readback then miss + 1 else 0

/-- R350: the readback check of output `o`. -/
def State.readbackCheck (s : State) (pins o : Nat) : State :=
  let x := s.safeOut o
  let rb := readbacks pins o
  let sa := min (x.sinceA + 1) 5
  let sb := min (x.sinceB + 1) 5
  let y := { x with
    sinceA := sa, sinceB := sb, missA := missStep sa x.missA x.a rb.1, missB := missStep sb x.missB x.b rb.2 }
  if x.st ≠ .fault ∧ (3 ≤ y.missA ∨ 3 ≤ y.missB) then
    ((s.setSafeOut o { y with st := .fault, missA := 0, missB := 0 }).safeLatch (2 ^ o)).raise EV_SAFETY_OUTPUT o 0
  else s.setSafeOut o (if x.st = .fault then { y with missA := 0, missB := 0 } else y)

/-- Table 15-5 for output `o`: an edge was accepted or not. -/
def State.outNext (s : State) (pins : Nat) (edge : Bool) (o : Nat) : State :=
  let x := s.safeOut o
  let rb := readbacks pins o
  let c := s.cond o
  match x.st with
  | .fault => if edge && !rb.1 && !rb.2 then (s.setSafeOut o { x with st := .off }).setBitAt F.SAF.SAFE_OUT_RESET_REQ o true else s
  | .wait =>
    if edge && c then (s.setSafeOut o { x with st := .on }).setBitAt F.SAF.SAFE_OUT_RESET_REQ o false
    else if c then s else s.setSafeOut o { x with st := .off }
  | .on => if c then s else s.setSafeOut o { x with st := .off }
  | .off =>
    if !c then s
    else if s.outCfg o / 2 % 2 == 1 || s.bitAt F.SAF.SAFE_OUT_RESET_REQ o then s.setSafeOut o { x with st := .wait }
    else s.setSafeOut o { x with st := .on }

/-- R350, R351: the channels of output `o` follow its state and its test pulses. -/
def State.outDrive (s : State) (o : Nat) : State :=
  let x := s.safeOut o
  let pa := x.pulseA - 1
  let pb := x.pulseB - 1
  let s := s.add F.SAF.TP_DONE (bit (x.pulseA == 1) + bit (x.pulseB == 1))
  let a := x.st == .on && pa == 0
  let b := x.st == .on && pb == 0
  let edgeA := a != x.a
  let edgeB := b != x.b
  s.setSafeOut o { x with
    a := a, b := b, pulseA := pa, pulseB := pb, sinceA := if edgeA then 0 else x.sinceA, sinceB := if edgeB then 0 else x.sinceB,
    missA := if edgeA then 0 else x.missA, missB := if edgeB then 0 else x.missB }

/-- R352: SRST_IN is sampled; whether an edge was accepted. -/
def State.srstCycle (s : State) (high : Bool) : Bool × State :=
  let cfg := s.safeParam 0x50
  let most := 100 * (cfg / 65536)
  let least := 100 * (cfg % 65536)
  let was := s.safe
  let h := if high then min (was.srstHigh + 1) (most + 1) else 0
  let l := if high then 0 else min (was.srstLow + 1) 100000
  let fell := was.srst && !high
  let ok := fell && decide (least ≤ was.srstHigh ∧ was.srstHigh ≤ most)
  let s : State := { s with safe := { s.safe with srst := high, srstHigh := h, srstLow := l } }
  let s := s.when (high && decide (most < h)) (fun s => s.safeLatch 32)
  let s := s.when (l == 100000) (fun s => s.safeClear 32)
  (ok, s.when (fell && !ok) (fun s => s.inc F.SAF.RESETS_REJECTED))

/-- R352: the cause bits whose condition still holds. -/
def State.causesHolding (s : State) (pins : Nat) (lane : Bool) : Nat :=
  let out := fun (o : Nat) => let rb := readbacks pins o; (s.safeOut o).st == .fault && (rb.1 || rb.2)
  (List.range 4).foldl (fun m o => m + 2 ^ o * bit (out o)) 0 + 16 * bit ((List.range 8).any (fun i => (s.safeIn i).st == .fault)) + 32 + 64 * bit lane +
    128 * bit (s.flag (activeBit EV_CLOCK_MONITOR)) + 256 + 512

/-- R353: one Region S cycle. `lane`: the lanes disagree (R341); `table`: an uncorrectable error in a limit table (R344). -/
def State.regionCycle (s : State) (pins : Nat) (lane table : Bool) : State :=
  let was := s.get F.SAF.SAFE_FAULT_CAUSE
  let r := s.srstCycle (pins / 2 ^ 16 % 2 == 1)
  let s := r.2.each (List.range 8) (fun s i => s.inputCycle pins i)
  let s := s.invalidFollow
  let s := s.when lane (fun s => (s.safeLatch 64).raise EV_SAFETY_LANE 0 0)
  let s := s.when (table && s.safe.built) (fun s => s.safeLatch 256)
  let s := s.when (s.flag (activeBit EV_CLOCK_MONITOR)) (fun s => s.safeLatch 128)
  let s := s.when (s.safe.loaded && !s.safeConf) (fun s => s.safeLatch 512)
  let s := s.each (List.range 4) (fun s o => s.readbackCheck pins o)
  let s := if r.1 then
      ((s.safeClear (was &&& (65535 - s.causesHolding pins lane))).inc F.SAF.RESETS_ACCEPTED).raise EV_SAFETY_RESET 0 0
    else s
  let s := s.each (List.range 4) (fun s o => s.outNext pins r.1 o)
  s.each (List.range 4) State.outDrive

/-- R351: a transition is pending for output `o`. -/
def State.pendingFor (s : State) (o : Nat) : Bool :=
  (List.range 8).any (fun i => s.outCfg o / 2 ^ (8 + i) % 2 == 1 &&
    ((s.safeIn i).st == .discStop || (s.safeIn i).st == .discRun || (s.safeIn i).na != 0 || (s.safeIn i).nb != 0))

/-- R350, R351: a test pulse of a channel of output `o` starts, or is skipped. -/
def State.testPulse (s : State) (o : Nat) (chB : Bool) : State :=
  let x := s.safeOut o
  if x.st ≠ .on ∨ (if chB then x.pulseB else x.pulseA) ≠ 0 then s
  else if s.pendingFor o then s.inc F.SAF.TP_SKIPPED
  else
    let n := (s.safeParam (0x40 + o) % 65536 + 9) / 10
    s.setSafeOut o (if chB then { x with b := false, sinceB := 0, missB := 0, pulseB := n } else { x with a := false, sinceA := 0, missA := 0, pulseA := n })

/-- R349: an exit from SAFE_HOLD sets RESET_REQ. -/
def State.safeRelease (s : State) : State := s.set F.SAF.SAFE_OUT_RESET_REQ 15

/-! ### Loading (R344, R360, R108) -/

/-- Table 4-5: the limiter parameters in range, with four of them not 0. -/
def limiterOk (img : List Byte) : Bool :=
  let p := fun n => imgParam img (0x100 + n)
  decide (p 0 ≤ 3 ∧ 64 ≤ p 1 ∧ p 1 ≤ 4096 ∧ p 2 ≤ 65535 ∧ 1000 ≤ p 3 ∧ p 3 ≤ 6000 ∧ p 4 ≤ 12 ∧ p 5 ≤ 255 ∧ p 7 ≤ 65535 ∧ 0 < p 5 + p 6 ∧ 0 < p 7 + p 8)

/-- R108: the limiter is loaded, if domain 68 is on to receive it. -/
def State.limiterLoad (s : State) (img : Option (List Byte)) : State :=
  if !s.domOn 68 then s
  else match img with
    | none => s.inhibitOn 32
    | some img =>
      if !limiterOk img then s.inhibitOn 32
      else
        let p := fun n => imgParam img (0x100 + n)
        let s := (((s.set F.LIM.LIM_CFG_POOL (p 0)).set F.LIM.LIM_CFG_CELL_WIDTH (p 1)).set F.LIM.LIM_ANGLE_BASE_BASE (p 2)).set F.LIM.LIM_MAX_MAX_TARGET (p 3)
        let s := (((s.set F.LIM.LIM_MAX_MAX_WIDTH (p 4)).set F.LIM.CELL_LIMIT_HI (p 5)).set F.LIM.CELL_LIMIT_LO (p 6)).set F.LIM.LONG_LIMIT_HI (p 7)
        let s := s.set F.LIM.LONG_LIMIT_LO (p 8)
        let words := (List.range 7).map (fun i => let w := (s.rd (F.LIM.LIM_CFG_POOL.addr + 4 * i)).toNat; if i = 0 then w % 2 ^ 30 else w)
        let s := (s.set F.LIM.LIM_CRC_CRC (crc32c (words.flatMap (beBytes 4)))).setFlag F.LIM.LIM_CFG_CONFIGURED true
        s.inhibitOff 32

/-- R360: Region S loads its configuration, once in a boot. -/
def State.safeLoad (s : State) : State :=
  if s.safe.loaded then s
  else
    let ch := s.safeChoose
    let img := ch.2.map s.safeCopy
    let geom := s.calGeom
    let geomOk := match img with
      | some b => imgParam b 0x60 == crc32c geom
      | none => false
    let el := fun (r : Nat) => intAt geom (4 * r) 4
    let cells := (List.range 128).map (fun m => (List.range 8).foldl (fun (a : Int × Int) i => (min a.1 (el (8 * m + i)), max a.2 (el (8 * m + i)))) (el (8 * m), el (8 * m)))
    let s : State := { s with safe := { s.safe with
      loaded := true, cfg := img, copy := ch.2.getD 0, geomOk := geomOk, els := cells, zero := (u32 geom 4096 : Nat), built := false } }
    let s := s.setFlag F.SAF.SAFE_STAT_CFG_COPY (ch.1.length == 1)
    let s := s.when (!s.safeConf) (fun s => s.safeLatch 512)
    s.limiterLoad img

/-- R344: the limit tables are built. -/
def State.tablesBuilt (s : State) : State := if s.safeConf then { s with safe := { s.safe with built := true } } else s

/-! ### Status (R361) -/

/-- Outputs in a state, as bits. -/
def State.outMask (s : State) (x : OutState) : Nat := (List.range 4).foldl (fun m o => m + 2 ^ o * bit ((s.safeOut o).st == x)) 0

/-- Inputs in a state, as bits. -/
def State.inMask (s : State) (x : InState) : Nat := (List.range 8).foldl (fun m i => m + 2 ^ i * bit ((s.safeIn i).st == x)) 0

/-- CRC and GENERATION of the image in force; 0 without one. -/
def State.cfgCrc (s : State) : Nat × Nat := match s.safe.cfg with
  | some b => (imgCrc b, imgGen b)
  | none => (0, 0)

/-- Table 15-11. -/
def State.safetyBlock (s : State) : List Byte :=
  let cause := s.get F.SAF.SAFE_INVALID_CAUSE
  beBytes 1 s.safeState ++
    beBytes 1 (bit (cause == 0) + 2 * s.get F.SAF.SAFE_STAT_CFG_COPY + 4 * bit s.safe.session.isSome + 8 * s.get F.SAF.SAFE_STAT_PENDING_REBOOT +
      16 * s.get F.SAF.SAFE_STAT_LOCKOUT) ++
    beBytes 1 (s.outMask .on + 16 * s.outMask .fault) ++ beBytes 1 (s.outMask .wait + 16 * s.get F.SAF.SAFE_OUT_RESET_REQ) ++
    beBytes 2 (s.get F.SAF.SAFE_FIELD_VIOL) ++ beBytes 1 (s.inMask .run) ++ beBytes 1 (s.inMask .fault) ++ beBytes 2 (s.get F.SAF.SAFE_FAULT_CAUSE) ++
    beBytes 1 (s.get F.SAF.SAFE_FAULT_FIRST) ++ beBytes 1 cause ++ beBytes 4 s.cfgCrc.1 ++ beBytes 4 s.cfgCrc.2 ++ beBytes 4 (s.get F.SAF.NONCE) ++
    beBytes 4 s.safe.evals ++ zeros 4

/-- SAFETY_STATUS. -/
def cmdSafetyStatus (s : State) (_ : List Byte) : Reply := s.done s.safetyBlock

/-- R361: the status record on stream 7. -/
def State.safetyRecord (s : State) : State :=
  let body := beBytes 1 0x80 ++ zeros 3 ++ beBytes 4 52 ++ beBytes 8 s.time.dev.toNat ++ s.safetyBlock
  (s.memUse 0 0 52).txPut 7 (body ++ beBytes 4 (crc32c body))

/-! ### Commissioning (R356 to R359) -/

/-- Region S draws a new NONCE. -/
def State.newNonce (s : State) : State :=
  let r := s.freeNat
  r.2.set F.SAF.NONCE r.1

/-- A session number that is not 0 and has not been issued: a free one where it is fresh, else the least. -/
def State.sessionNumber (s : State) : Nat × State :=
  let r := s.freeNat
  let fresh := fun n => n != 0 && !s.safe.issued.contains n
  let n := r.1 % 2 ^ 32
  (if fresh n then n else ((List.range (s.safe.issued.length + 2)).find? fresh).getD 1, r.2)

/-- R356: the session closes. -/
def State.closeCommissioning (s : State) : State := { s with safe := { s.safe with session := none } }

/-- R356: a wrong credential. -/
def State.credFail (s : State) : State :=
  let now := s.time.dev.toNat
  let l := now :: s.safe.fails.filter (fun t => decide (now < t + 60 * 10 ^ 9))
  let s := (({ s with safe := { s.safe with fails := l } } : State).inc F.SAF.CRED_FAIL).raise EV_SAFETY_CREDENTIAL 0 0
  if 3 ≤ l.length then ({ s with safe := { s.safe with fails := [] } } : State).set F.SAF.SAFE_STAT_LOCKOUT 1 else s

/-- The credential of R356. -/
def State.credential (s : State) : List Byte :=
  let key := match s.safe.cfg with
    | some b => (List.range 8).flatMap (fun w => beBytes 4 (imgParam b (0x600 + w)))
    | none => zeros 32
  hmac key (ascii "BXTC" ++ beBytes 4 (s.get F.SAF.NONCE) ++ beBytes 6 s.otp.mac.toNat)

/-- COMMISSION_OPEN (R356). -/
def cmdCommissionOpen (via : Port) (s : State) (p : List Byte) : Reply :=
  let t := s.newNonce
  if s.pw.st ≠ .ready ∧ s.pw.st ≠ .safeHold then t.reply (.final 0x13 s.stateCode [])
  else if s.safe.session.isSome then t.reply (.final 0x80 0 [])
  else if s.flag F.SAF.SAFE_STAT_LOCKOUT then t.reply (.final 0x14 2 [])
  else if p.take 32 ≠ s.credential then t.credFail.reply (.final 0x14 2 [])
  else
    let n := t.sessionNumber
    let t := n.2
    ({ t with safe := { t.safe with
        session := some ⟨n.1, via, t.safe.cfg.getD safeBlank⟩, issued := t.safe.issued ++ [n.1] } } : State).done (beBytes 4 n.1)

/-- R356: the lockout ends. -/
def State.lockoutEnd (s : State) : State := s.set F.SAF.SAFE_STAT_LOCKOUT 0

/-- R50: the session of a command of the locked set. -/
def State.sessionOf (s : State) (via : Port) (p : List Byte) : Option SafeSession :=
  match s.safe.session with
  | some x => if x.port = via ∧ x.num = u32 p 0 then some x else none
  | none => none

/-- R50: run a command of the locked set in its session. -/
def State.locked (s : State) (via : Port) (p : List Byte) (go : SafeSession → Reply) : Reply :=
  match s.sessionOf via p with
  | some x => go x
  | none => s.reply (.final 0x14 1 [])

/-- R357: the first fault of a field block. -/
def fieldFault (b : List Byte) (n : Nat) : Nat :=
  let ps := blockPoly b n
  let c := fun (i : Nat) => u8 b i
  if selfIntersects ps then 1
  else if ps.any (fun q => decide (60000 * 60000 < q.1 * q.1 + q.2 * q.2)) then 2
  else if coversOrigin ps || (polyEdges ps).any (fun e => segmentNear 500 e.1 e.2) then 3
  else if intAt b 6 2 ≤ intAt b 4 2 then 4
  else if c 1 = 0 ∨ 16 < c 1 ∨ c 2 = 0 ∨ 16 < c 2 then 5
  else 0

/-- The session with a new staging copy. -/
def State.stage (s : State) (x : SafeSession) (img : List Byte) : State :=
  { s with safe := { s.safe with session := some { x with stage := img } } }

/-- FIELD_WRITE (R357). -/
def cmdFieldWrite (via : Port) (s : State) (p : List Byte) : Reply :=
  s.locked via p (fun x =>
    let f := u8 p 4
    let n := u8 p 5
    let b := p.drop 8
    s.guarded [badParam (decide (15 < f ∨ n < 3 ∨ 32 < n) || notZero p 6 2) 1, badParam (decide (2 ≤ u8 b 0) || notZero b 3 1) 2,
        (fieldFault b n != 0, 0x81, fieldFault b n)]
      ((s.stage x (patchBytes x.stage (fieldOff f) (beBytes 1 n ++ zeros 3 ++ b.take (8 + 8 * n) ++ zeros (256 - 8 * n)))).done []))

/-- R358: the range of a parameter. -/
def safeParamOk (n v : Nat) : Bool :=
  let i := signed 32 v
  if n = 1 then decide (v ≤ 5000)
  else if n ≤ 4 then decide (-16384 ≤ i ∧ i ≤ 16384)
  else if n = 0x10 then decide (v ≤ 7)
  else if n = 0x11 then decide (1 ≤ v ∧ v ≤ 15)
  else if n = 0x12 then decide (20 ≤ v ∧ v ≤ 2000)
  else if n < 0x28 then decide (bitsOf v 24 6 = 0 ∧ bitsOf v 16 8 ≤ 100 ∧ 1 ≤ bitsOf v 8 8 ∧ 1 ≤ v % 256)
  else if n < 0x34 then bitsOf v 2 6 == 0
  else if n < 0x44 then decide (100 ≤ v / 65536 ∧ v / 65536 ≤ 60000 ∧ 100 ≤ v % 65536 ∧ v % 65536 ≤ 400)
  else if n = 0x50 then decide (500 ≤ v / 65536 ∧ v / 65536 ≤ 10000 ∧ 20 ≤ v % 65536 ∧ v % 65536 ≤ 1000)
  else if n = 0x100 then decide (v ≤ 3)
  else if n = 0x101 then decide (64 ≤ v ∧ v ≤ 4096)
  else if n = 0x102 ∨ n = 0x107 then decide (v ≤ 65535)
  else if n = 0x103 then decide (1000 ≤ v ∧ v ≤ 6000)
  else if n = 0x104 then decide (v ≤ 12)
  else if n = 0x105 then decide (v ≤ 255)
  else true

/-- SAFETY_PARAM_WRITE (R358). -/
def cmdSafetyParamWrite (via : Port) (s : State) (p : List Byte) : Reply :=
  s.locked via p (fun x =>
    let n := u16 p 4
    let v := u32 p 8
    s.guarded [badParam (!safeParams.contains n || notZero p 6 2) 1, badParam (!safeParamOk n v) 2]
      ((s.stage x (patchBytes x.stage (28 + 8 * paramEntry n) (beBytes 4 v))).done []))

/-- R359: what refuses a staging image. -/
def State.commitFault (s : State) (img : List Byte) : Nat :=
  let cfg := fun (o : Nat) => imgParam img (0x30 + o)
  let on := (List.range 4).filter (fun o => cfg o % 2 == 1)
  let p := fun n => imgParam img n
  if on.any (fun o => (List.range 16).any (fun f => cfg o / 2 ^ (16 + f) % 2 == 1 && !imgFieldEn img f)) then 1
  else if on.any (fun o => (List.range 8).any (fun i => cfg o / 2 ^ (8 + i) % 2 == 1 && p (0x20 + i) / 2 ^ 31 % 2 == 0)) then 2
  else if (List.range 8).all (fun w => p (0x600 + w) == 0) then 3
  else if (p 0x105 = 0 ∧ p 0x106 = 0) ∨ (p 0x107 = 0 ∧ p 0x108 = 0) then 4
  else if p 0x60 ≠ crc32c s.calGeom then 5
  else 0

/-- GENERATION of the copies, 0 for one that is not valid. -/
def State.safeGens (s : State) : Nat × Nat :=
  let g := fun (i : Nat) => if safeCopyOk (s.safeCopy i) then imgGen (s.safeCopy i) else 0
  (g 0, g 1)

/-- COMMISSION_COMMIT (R359). -/
def cmdCommissionCommit (via : Port) (s : State) (p : List Byte) : Reply :=
  s.locked via p (fun x =>
    let g := s.safeGens
    let img := patchBytes (x.stage.take 4648) 12 (beBytes 4 (max g.1 g.2 + 1) ++ beBytes 8 s.time.dev.toNat)
    s.guarded [badParam (u32 p 4 != imgCrc x.stage) 1, (s.commitFault x.stage != 0, 0x82, s.commitFault x.stage)]
      (s.accept 0x0704 { s with safe := { s.safe with commit := some (img ++ beBytes 4 (crc32c img)) } }))

/-- R359: the writing ends with `copies` copies new; one whose writing failed holds free bytes. -/
def State.commitEnd (s : State) (copies : Nat) : State :=
  match s.safe.commit with
  | none => s
  | some img =>
    let g := s.safeGens
    let ok := fun (i : Nat) => safeCopyOk (s.safeCopy i)
    let first := if !ok 0 then 0 else if !ok 1 then 1 else if g.1 ≤ g.2 then 0 else 1
    let lost := fun (s : State) (i : Nat) => let r := s.freeBytes 4652; r.2.flashWrite (safeAddr i) r.1
    let s := if copies = 0 then lost s first
      else if copies = 1 then lost (s.flashWrite (safeAddr first) img) (1 - first)
      else (s.flashWrite (safeAddr first) img).flashWrite (safeAddr (1 - first)) img
    let s := ({ s with safe := { s.safe with commit := none } } : State).closeCommissioning
    let status := if copies = 2 then 0 else 0x84
    let s := s.when (copies == 2) (fun s => s.set F.SAF.SAFE_STAT_PENDING_REBOOT 1)
    (s.complete 0x0704 status (if copies = 2 then 0 else copies + 1) []).raise EV_SAFETY_COMMIT 0 status

/-- COMMISSION_ABORT (R356). -/
def cmdCommissionAbort (via : Port) (s : State) (p : List Byte) : Reply :=
  s.locked via p (fun _ => s.closeCommissioning.done [])

end Sys2Proof.Machine
end

