-- ==== Sys2Proof/Machine/Links.lean ====
section
/-! DEFINITION. Oazil links and Ethernet (R292 to R312): blocks and their scrambling, flow, the training ladder, VnAUX, loss and retrain, the MAC and IP layer, stream datagrams. -/

namespace Sys2Proof.Machine

/-! ### Scrambling and lanes (R295) -/

/-- One step of the scrambler's register. -/
def scrStep (r : Nat) : Nat := (2 * r + (r / 2 ^ 22 + r / 2 ^ 17) % 2) % 2 ^ 23

/-- The register and the eight bits it gives for one byte, first bit in bit 0. -/
def scrKey : Nat → Nat × Nat → Nat × Nat
  | 0, x => x
  | n + 1, (r, k) => scrKey n (scrStep r, k + r / 2 ^ 22 % 2 * 2 ^ (7 - n))

/-- R295: the bytes a lane sends or receives, scrambled or, what is the same, descrambled. -/
def scramble : Nat → List Byte → List Byte
  | _, [] => []
  | r, b :: l => let k := scrKey 8 (r, 0); (b ^^^ BitVec.ofNat 8 k.2) :: scramble k.1 l

/-- Words of 4 bytes. -/
def fours : List Byte → List (List Byte)
  | a :: b :: c :: d :: r => [a, b, c, d] :: fours r
  | _ => []

/-- R295: a block on `n` lanes: word w on lane w mod n, each lane scrambled from 0x7F_FFFF XOR its number. -/
def onLanes (n : Nat) (block : List Byte) : List (List Byte) :=
  let ws := fours block
  (List.range n).map (fun l => scramble (0x7FFFFF ^^^ l) ((List.range (128 / n)).flatMap (fun i => ws.getD (i * n + l) [])))

/-- Table 13-3: a block, closed by its CRC. -/
def oazilBlock (btype stream hflags bseq : Nat) (time : BitVec 64) (sbyte ptr : Nat) (payload : List Byte) : List Byte :=
  withCrc (beBytes 1 btype ++ beBytes 1 stream ++ beBytes 1 hflags ++ zeros 1 ++ beBytes 4 bseq ++ beBytes 8 time.toNat ++ beBytes 4 sbyte ++
    beBytes 2 payload.length ++ beBytes 2 ptr ++ zeros 4 ++ payload ++ zeros (480 - payload.length))

/-! ### Ports -/

/-- Port `p`. -/
def State.link (s : State) (p : Nat) : LinkSt := spGet (fun _ => LinkSt.init) s.links p

/-- Replace port `p`. -/
def State.setLink (s : State) (p : Nat) (x : LinkSt) : State := { s with links := spSet (fun _ => LinkSt.init) s.links p x }

/-- Port `p` is ACTIVE. -/
def State.linkUp (s : State) (p : Nat) : Bool := s.domOn 77 && s.get (F.OZ.LINK_STAT_STATE p) == 2

/-- Data lanes of port `p` (Table 13-1). -/
def lanesOf (p : Nat) : Nat := if p = 0 then 8 else 2

/-- R312: stream `k` leaves by Ethernet. -/
def State.routed (s : State) (k : Nat) : Bool := k != 0 && s.eth.route / 2 ^ k % 2 == 1

/-- The stream of the model's record that carries stream `k` of port `p`. -/
def portStreams (p : Nat) : List Nat := if p = 0 then List.range 8 else [7 + p]

/-- R309: the link status block. -/
def State.linkBlock (s : State) (p : Nat) : List Byte :=
  let rate := s.get (F.OZ.LINK_STAT_RATE p)
  let up := s.get (F.OZ.LINK_STAT_STATE p) == 2
  beBytes 1 (s.get (F.OZ.LINK_STAT_STATE p)) ++ beBytes 1 (if rate = 15 then 255 else rate) ++ beBytes 1 (s.get (F.OZ.LINK_CTRL_TARGET p)) ++
    beBytes 1 (s.get (F.OZ.LINK_STAT_LAST_FAIL p)) ++ beBytes 1 (s.get (F.OZ.LINK_STAT_FOM_TX p)) ++ beBytes 1 (s.get (F.OZ.LINK_STAT_FOM_RX p)) ++
    beBytes 2 (min 65535 (s.get (F.OZ.RETRAINS p))) ++ beBytes 4 (s.get (F.OZ.CRC_RX p)) ++
    beBytes 4 (if up then min (2 ^ 32 - 1) ((s.time.dev.toNat - (s.link p).since) / 10 ^ 6) else 0)

/-! ### Loss (R308) -/

/-- R308: what a stream keeps when its way out is lost: its source's whole units, or nothing where the port's transmit queue was their only place. -/
def State.flushStream (s : State) (p k : Nat) : State :=
  let x := s.stream k
  let cut := decide (0 < x.off)
  let keep := decide (0 < k ∧ k < 8)
  let s := s.setStream k { x with units := if keep then (if cut then x.units.drop 1 else x.units) else [], off := 0, bytes := 0, resync := true }
  let s := s.when (k == 1) (fun s => { s with ps := { s.ps with reset := true } })
  s.when cut (fun s => s.inc (F.OZ.FLUSHED p))

/-- R308: a port that is ACTIVE goes DOWN. -/
def State.linkDown (s : State) (p : Nat) : State :=
  if s.get (F.OZ.LINK_STAT_STATE p) ≠ 2 then s
  else
    let rate := s.get (F.OZ.LINK_STAT_RATE p)
    let s := ((s.set (F.OZ.LINK_STAT_STATE p) 0).set (F.OZ.LINK_STAT_RATE p) 15).inc (F.OZ.RETRAINS p)
    let s := (s.set (F.OZ.LINK_STAT_FOM_TX p) 255).set (F.OZ.LINK_STAT_FOM_RX p) 255
    let held := if s.runningTag 0x0600 = some p then (s.link p).result else none
    let s := s.setLink p { s.link p with fell := true, result := held, margin := false, rxBuf := [], rxPos := 0, rxLost := false, bad := 0, crcTimes := [], miss := 0 }
    let s := s.each ((portStreams p).filter (fun k => !(p == 0 && s.routed k))) (fun s k => s.flushStream p k)
    let s := s.when (decide (0 < p)) (fun s => s.portDown (p - 1))
    s.raise EV_LINK_DOWN p rate

/-! ### Training (R302 to R306) -/

/-- R305: a rung starts from the settings that passed the last time its rate passed. -/
def State.rungStart (s : State) (p r : Nat) : State :=
  let x := s.link p
  let e := spGet (fun _ => 0) x.eqs r
  let s := if p = 0 ∧ e ≠ 0 then (s.set (F.OZ.LANE_RX_EQ 0 8) (e / 8 % 16)).set (F.OZ.LANE_TX_EQ 0 8) (e % 8) else s
  (s.setLink p { x with rung := some r, phase := 1, miss := 0 }).set (F.OZ.LINK_STAT_STATE p) 1

/-- R306: the ladder begins. -/
def State.beginLadder (s : State) (p target : Nat) : State :=
  let s := (s.linkDown p).inc (F.OZ.TRAINS p)
  (s.setLink p { s.link p with target := target, good := none, again := false, result := none }).rungStart p 0

/-- The ladder ends with a status for its LINK_TRAIN. -/
def State.endLadder (s : State) (p status detail : Nat) : State :=
  s.setLink p { s.link p with rung := none, phase := 0, result := some (status, detail) }

/-- R299, R306: the port becomes ACTIVE at rate `r`. -/
def State.linkActive (s : State) (p r : Nat) : State :=
  let s := (s.set (F.OZ.LINK_STAT_STATE p) 2).set (F.OZ.LINK_STAT_RATE p) r
  let s := s.setLink p { s.link p with since := s.time.dev.toNat, bseq := 0, rxBuf := [], rxPos := 0, rxLost := false, bad := 0, crcTimes := [], miss := 0, margin := false }
  let s := s.each ((portStreams p).filter (fun k => !(p == 0 && s.routed k))) (fun s k => s.setStream k { s.stream k with bytes := 0 })
  let s := s.when (p == 0) (fun s => s.each (List.range 8) (fun s k =>
    (s.set (F.OZ.CREDIT_LIMIT 0 k) (if k = 0 ∨ k = 7 then 64 else 0)).set (F.OZ.BLOCKS_SENT 0 k) 0))
  s.raise EV_LINK_UP p r

/-- R306: a rung fails. `detail`: 1 CLOCK or ALIGN, 2 ADAPT, 3 CONFIRM. -/
def State.rungFail (s : State) (p r detail : Nat) : State :=
  let x := s.link p
  let s := ((s.set (F.OZ.LINK_STAT_LAST_FAIL p) r).inc (F.OZ.TRAIN_FAILS p)).raise EV_LINK_TRAIN_FAIL p r
  match x.again, x.good with
  | true, _ => (s.set (F.OZ.LINK_STAT_STATE p) 0).endLadder p 0x79 3
  | false, none => (s.set (F.OZ.LINK_STAT_STATE p) 0).endLadder p 0x79 detail
  | false, some g => (s.setLink p { s.link p with again := true }).rungStart p g

/-- R305, R303: ADAPT is done: the settings it leaves (free values) and the lowest figures of merit. -/
def State.adapted (s : State) (p fomTx fomRx : Nat) : State :=
  let a := s.freeNat
  let s := a.2.each (List.range (lanesOf p)) (fun s l =>
    let b := s.freeNat
    (b.2.set (F.OZ.LANE_TX_EQ p l) (b.1 % 8)).set (F.OZ.LANE_FOM p l) fomTx)
  let s := s.set (F.OZ.LINK_STAT_FOM_TX p) fomTx
  if p = 0 then
    let s := ((s.set (F.OZ.LINK_STAT_FOM_RX 0) fomRx).set (F.OZ.LANE_FOM 0 8) fomRx).set (F.OZ.LANE_RX_EQ 0 8) (a.1 / 8 % 16)
    s.set (F.OZ.LANE_TX_EQ 0 8) (a.1 % 8)
  else s

/-- R305: CONFIRM has passed at rate `r`: the upstream lane's settings are kept, 128 added so that none is 0. -/
def State.keepEqs (s : State) (p r : Nat) : State :=
  if p = 0 then
    s.setLink 0 { s.link 0 with eqs := spSet (fun _ => 0) (s.link 0).eqs r (128 + 8 * (s.get (F.OZ.LANE_RX_EQ 0 8) % 16) + s.get (F.OZ.LANE_TX_EQ 0 8) % 8) }
  else s

/-- R303: every lane's figure of merit reaches FOM_MIN. -/
def State.fomOk (s : State) (p fomTx fomRx : Nat) : Bool :=
  let least := s.get (F.OZ.LINK_CTRL_FOM_MIN p)
  decide (least ≤ fomTx) && (p != 0 || decide (least ≤ fomRx))

/-- TRAINING_PHASE_END (R303, R306). -/
def State.phaseEnd (s : State) (p : Nat) (pass : Bool) (fomTx fomRx : Nat) : State :=
  let x := s.link p
  match x.rung with
  | none => s
  | some r =>
    let detail := max 1 (x.phase - 1)
    if !s.domOn 77 then s
    else if !pass then s.rungFail p r detail
    else if x.phase < 3 then s.setLink p { x with phase := x.phase + 1 }
    else if !s.fomOk p fomTx fomRx then s.rungFail p r detail
    else if x.phase = 3 then (s.adapted p fomTx fomRx).setLink p { (s.adapted p fomTx fomRx).link p with phase := 4 }
    else if x.again || r == x.target then
      ((s.keepEqs p r).linkActive p r).endLadder p (if r = x.target then 0 else 0x78) (if r = x.target then 0 else r)
    else ((s.keepEqs p r).setLink p { (s.keepEqs p r).link p with good := some r }).rungStart p (r + 1)

/-- LINK_TRAIN (R306, R55): the ladder begins after the reply. -/
def cmdLinkTrain (s : State) (p : List Byte) : Reply :=
  let n := u8 p 0
  let r := u8 p 1
  s.guarded [s.needDom 77, badParam (decide (2 < n ∨ 3 < r) || notZero p 2 2) 0]
    (if s.rangeBusy 0x0600 then s.reply .busy
     else ⟨.accepted n, s, fun t => (t.set (F.OZ.LINK_CTRL_TARGET n) r).beginLadder n r⟩)

/-- LINK_TRAIN_COMPLETE (R306). -/
def State.trainComplete (s : State) (p : Nat) : State :=
  match (s.link p).result with
  | some (st, d) => if s.runningTag 0x0600 = some p then (s.setLink p { s.link p with result := none }).complete 0x0600 st d (s.linkBlock p) else s
  | none => s

/-- LINK_STATUS (R309). -/
def cmdLinkStatus (s : State) (p : List Byte) : Reply :=
  s.guarded [s.needDom 77, badParam (decide (2 < u8 p 0) || notZero p 1 3) 0] (s.done (s.linkBlock (u8 p 0)))

/-- AUTO_RETRAIN (R308): a port that has fallen climbs again, or one with AUTO_START climbs at READY. -/
def State.autoRetrain (s : State) (p : Nat) : State :=
  let x := s.link p
  let want := if x.fell then s.flag (F.OZ.LINK_CTRL_AUTO_RETRAIN p) else s.flag (F.OZ.LINK_CTRL_AUTO_START p)
  if s.domOn 77 && s.get (F.OZ.LINK_STAT_STATE p) == 0 && want && x.result.isNone then s.beginLadder p (s.get (F.OZ.LINK_CTRL_TARGET p)) else s

/-- UPSTREAM_CLOCK_LOSS (R308). -/
def State.clockLoss (s : State) : State := if s.domOn 77 then s.linkDown 0 else s

/-! ### Figures of merit while ACTIVE (R308) -/

/-- R308: the first report below FOM_WARN in an episode. -/
def State.marginCheck (s : State) (p fom : Nat) : State :=
  let low := decide (min (s.get (F.OZ.LINK_STAT_FOM_TX p)) (s.get (F.OZ.LINK_STAT_FOM_RX p)) < s.get (F.OZ.LINK_CTRL_FOM_WARN p))
  let x := s.link p
  (s.setLink p { x with margin := low }).when (low && !x.margin) (fun s => s.raise EV_LINK_MARGIN p fom)

/-- FOM_PUBLISH (R308): the receiver of port H; the other ports have none. -/
def State.fomPublish (s : State) (p fom : Nat) : State :=
  if p = 0 && s.linkUp 0 then ((s.set (F.OZ.LINK_STAT_FOM_RX 0) fom).set (F.OZ.LANE_FOM 0 8) fom).marginCheck 0 fom else s

/-! ### Sending (R294 to R300) -/

/-- Go on by `k` bytes from offset `off` of the first unit. -/
def advance : Nat → Nat → List (List Byte) → Nat × List (List Byte)
  | _, _, [] => (0, [])
  | off, k, u :: r => if u.length - off ≤ k then advance 0 (k - (u.length - off)) r else (off + k, u :: r)

/-- Up to `n` bytes of a stream, UNIT_PTR, and what remains. -/
def takeBytes (x : TxStream) (n : Nat) : List Byte × Nat × TxStream :=
  let bs := (x.units.flatten.drop x.off).take n
  let rest := (x.units.headD []).length - x.off
  let ptr := if x.off = 0 then 0 else if rest < bs.length then rest else 0xFFFF
  let a := advance x.off bs.length x.units
  (bs, ptr, { units := a.2, off := a.1, bytes := (x.bytes + bs.length) % 2 ^ 32, resync := false })

/-- A block leaves port `p`. -/
def State.putBlock (s : State) (p : Nat) (block : List Byte) : State :=
  ((s.setLink p { s.link p with bseq := ((s.link p).bseq + 1) % 2 ^ 32 }).inc (F.OZ.BLOCKS_TX p)).emit (.block p (onLanes (lanesOf p) block))

/-- R299: stream `k` of port H has data and credit. -/
def State.maySend (s : State) (k : Nat) : Bool :=
  let c := (s.get (F.OZ.CREDIT_LIMIT 0 k) + 2 ^ 32 - s.get (F.OZ.BLOCKS_SENT 0 k)) % 2 ^ 32
  decide (0 < s.streamLevel k) && !s.routed k && decide (1 ≤ c ∧ c ≤ 2 ^ 31)

/-- R300: the stream whose block goes next. -/
def State.nextStream (s : State) : Option Nat :=
  let turn := (s.link 0).turn
  ([0, 7] ++ (List.range 6).map (fun i => (turn + i) % 6 + 1)).find? s.maySend

/-- A DATA block of stream `k` of the model's record, sent as stream `n` of port `p`. -/
def State.sendData (s : State) (p k n : Nat) : State :=
  let x := s.stream k
  let t := takeBytes x 480
  let b := oazilBlock 0xD2 n (bit x.resync) (s.link p).bseq s.time.dev (x.bytes % 2 ^ 32) t.2.1 t.1
  (s.setStream k t.2.2).putBlock p b

/-- An IDLE block. -/
def State.sendIdle (s : State) (p : Nat) : State := s.putBlock p (oazilBlock 0x2D 0 0 (s.link p).bseq s.time.dev 0 0xFFFF [])

/-- BLOCK_SEND (R296, R299 to R301). -/
def State.blockSend (s : State) (p : Nat) : State :=
  if !s.linkUp p then s
  else if p = 0 then
    match s.nextStream with
    | some k =>
      let s := s.sendData 0 k k
      let s := s.set (F.OZ.BLOCKS_SENT 0 k) (s.get (F.OZ.BLOCKS_SENT 0 k) + 1)
      s.when (decide (1 ≤ k ∧ k ≤ 6)) (fun s => s.setLink 0 { s.link 0 with turn := k })
    | none => s.sendIdle 0
  else if 0 < s.streamLevel (7 + p) then s.sendData p (7 + p) 0
  else s.sendIdle p

/-- CONTROL_BLOCK_SEND (R298). -/
def State.controlSend (s : State) : State :=
  if s.linkUp 0 then
    let fom := s.get (F.OZ.LINK_STAT_FOM_RX 0)
    let pay := beBytes 1 (4 + 2 * bit (fom != 255)) ++ zeros 35 ++ beBytes 1 (if fom = 255 then 0 else fom) ++ zeros 7 ++
      (List.range 8).flatMap (fun k => beBytes 4 (s.get (F.OZ.BLOCKS_SENT 0 k)))
    s.putBlock 0 (oazilBlock 0xB4 0 0 (s.link 0).bseq s.time.dev 0 0xFFFF pay)
  else s

/-! ### The upstream lane (R297, R298, R308) -/

/-- Whole packets at the front of a buffer, what remains, and whether a header failed its check (R26). -/
def splitPackets : Nat → List Byte → List (List Byte) × List Byte × Bool
  | 0, bs => ([], bs, false)
  | n + 1, bs =>
    if bs.length < 12 then ([], bs, false)
    else if u16 bs 10 ≠ hcheck bs then ([bs], [], true)
    else
      let k := 16 + pad4 (u16 bs 8)
      if bs.length < k then ([], bs, false)
      else
        let r := splitPackets n (bs.drop k)
        (bs.take k :: r.1, r.2)

/-- R297: the payload of a good upstream DATA block of stream 0; the packets it completes. -/
def State.upData (s : State) (b : List Byte) : List (List Byte) × State :=
  let x := s.link 0
  let pay := (b.drop 28).take (u16 b 20)
  let ptr := u16 b 22
  let lost := x.rxLost || u32 b 16 != x.rxPos
  let pos := (u32 b 16 + pay.length) % 2 ^ 32
  if lost && ptr == 0xFFFF then ([], s.setLink 0 { x with rxBuf := [], rxLost := true, rxPos := pos })
  else
    let buf := if lost then pay.drop ptr else x.rxBuf ++ pay
    let r := splitPackets (buf.length + 1) buf
    (r.1, s.setLink 0 { x with rxBuf := r.2.1, rxLost := r.2.2, rxPos := pos })

/-- R298, R308: a good CONTROL block from the host. -/
def State.upControl (s : State) (b : List Byte) : State :=
  let pay := b.drop 28
  let f := u8 pay 0
  let s := s.when (f % 2 == 1) (fun s => s.each (List.range 8) (fun s k => s.set (F.OZ.CREDIT_LIMIT 0 k) (u32 pay (4 + 4 * k))))
  if f / 2 % 2 = 1 then
    let foms := (List.range 8).map (fun l => u8 pay (36 + l))
    let s := s.each (List.range 8) (fun s l => s.set (F.OZ.LANE_FOM 0 l) (foms.getD l 0))
    let least := foms.foldl min 255
    (s.set (F.OZ.LINK_STAT_FOM_TX 0) least).marginCheck 0 least
  else s

/-- A block that fails its CRC or whose BTYPE is invalid. -/
def State.upBad (s : State) (crc : Bool) : State :=
  let x := s.link 0
  let now := s.time.dev.toNat
  let times := if crc then now :: x.crcTimes.filter (fun t => decide (now ≤ t + 1000000)) else x.crcTimes
  let s := (s.setLink 0 { x with bad := x.bad + 1, crcTimes := times }).when crc (fun s => s.inc (F.OZ.CRC_RX 0))
  s.when (decide (8 ≤ x.bad + 1 ∨ 16 ≤ times.length)) (fun s => s.linkDown 0)

/-- A block of the upstream lane, as the lane carries it: the packets it completes. -/
def State.upBlock (s : State) (lane : List Byte) : List (List Byte) × State :=
  if !s.linkUp 0 then ([], s)
  else if u32 lane 0 = 0x4F415A54 ∧ u8 lane 4 = 0x87 then ([], s.linkDown 0)
  else
    let b := scramble 0x7FFFFF lane
    let t := u8 b 0
    if b.length ≠ 512 ∨ u32 b 508 ≠ crc32c (b.take 508) then ([], s.upBad true)
    else if t ≠ 0xD2 ∧ t ≠ 0x2D ∧ t ≠ 0xB4 then ([], s.upBad false)
    else
      let s := (s.setLink 0 { s.link 0 with bad := 0 }).inc (F.OZ.BLOCKS_RX 0)
      if t = 0xD2 ∧ u8 b 1 % 16 = 0 then s.upData b else if t = 0xB4 then ([], s.upControl b) else ([], s)

/-! ### VnAUX (R307) -/

/-- VNAUX_FRAME_SEND: bytes 4 to 43 of Table 13-5 and their CRC; the block count of the rung is a free value. -/
def State.auxSend (s : State) (p : Nat) : State :=
  let x := s.link p
  let st := s.get (F.OZ.LINK_STAT_STATE p)
  if p ≠ 0 && s.domOn 77 && st != 0 then
    let r := s.freeBytes 4
    let rate := x.rung.getD (s.get (F.OZ.LINK_STAT_RATE p))
    let body := beBytes 1 0x87 ++ zeros 1 ++ beBytes 1 rate ++ beBytes 1 (if st = 2 then 3 else max 1 (x.phase - 1)) ++ zeros 32 ++ r.1
    r.2.emit (.aux (p - 1) ([0x55] ++ body ++ beBytes 4 (crc32c body)))
  else s

/-- A reply that is missing or fails its CRC. -/
def State.auxMiss (s : State) (p : Nat) : State :=
  let x := s.link p
  let s := (s.setLink p { x with miss := x.miss + 1 }).inc (F.OZ.AUX_ERR p)
  match x.rung with
  | some r => if 3 ≤ x.miss + 1 then s.rungFail p r (max 1 (x.phase - 1)) else s
  | none => s

/-- VNAUX_REPLY (R307, R308). -/
def State.auxReply (s : State) (p : Nat) (reply : Option (List Byte)) : State :=
  let st := s.get (F.OZ.LINK_STAT_STATE p)
  if p = 0 || !s.domOn 77 || st == 0 then s
  else match reply with
    | none => s.auxMiss p
    | some b =>
      let body := (b.drop 1).take 40
      if b.length ≠ 45 ∨ u8 b 0 ≠ 0x55 ∨ u32 b 41 ≠ crc32c body then s.auxMiss p
      else
        let rep := body.drop 4
        let flags := u8 rep 3 ||| u8 rep 7
        let s := s.setLink p { s.link p with miss := 0 }
        let s := s.each (List.range 2) (fun s l => (s.set (F.OZ.LANE_FOM p l) (u8 rep (4 * l))).set (F.OZ.LANE_TX_EQ p l) (u8 rep (4 * l + 1)))
        let least := min (u8 rep 0) (u8 rep 4)
        let s := (s.set (F.OZ.LINK_STAT_FOM_TX p) least).set (F.OZ.CRC_RX p) (u32 rep 24)
        if st = 2 then (if flags / 16 % 2 = 1 then s.linkDown p else s.marginCheck p least)
        else match (s.link p).rung with
          | some r => if flags / 4 % 2 = 1 then s.rungFail p r (max 1 ((s.link p).phase - 1)) else s
          | none => s

/-! ### Ethernet (R310 to R312) -/

/-- The device's MAC address. -/
def State.mac (s : State) : Nat := s.otp.mac.toNat

/-- The Ethernet link is up. -/
def State.ethUp (s : State) : Bool := s.domOn 78 && s.flag F.ETH.ETH_STAT_LINK

/-- Restart stream `k` on its way out: DSEQ, DCREDIT and byte count from 0, RESYNC set (R312). -/
def State.restartStream (s : State) (k : Nat) : State :=
  ((s.setStream k { s.stream k with bytes := 0, resync := true }).set (F.ETH.DGRAM_SENT k) 0).set (F.ETH.DCREDIT k) 0

/-- R312: routes change at the next unit boundary of their stream. -/
def State.routeSync (s : State) : State :=
  if s.domOn 78 then
    let want := s.get F.ETH.STREAM_ROUTE * 2
    s.each (List.range 8) (fun s k =>
      if want / 2 ^ k % 2 ≠ s.eth.route / 2 ^ k % 2 ∧ (s.stream k).off = 0 then
        ({ s with eth := { s.eth with route := withBits s.eth.route k 1 (want / 2 ^ k) } } : State).restartStream k
      else s)
  else s

/-- ETH_LINK_CHANGE (R310, R312). -/
def State.ethLink (s : State) (up gigabit : Bool) : State :=
  if !s.domOn 78 then s
  else
    let was := s.ethUp
    let now := up && gigabit
    let err := up && !gigabit
    let s := ((s.setFlag F.ETH.ETH_STAT_AN_DONE up).setFlag F.ETH.ETH_STAT_LINK now).setFlag F.ETH.ETH_STAT_SPEED_ERR err
    let s := if now && !was then s.each ((List.range 8).filter s.routed) (fun s k => s.restartStream k) else s
    let s : State := if now then s else { s with eth := { s.eth with arp := [], pause := 0 } }
    s.when (now != was || err) (fun s => s.raise EV_ETH_LINK 0 (bit now + 2 * bit err))

/-- A frame leaves the MAC. -/
def State.ethSend (s : State) (kind dst : Nat) (bytes : List Byte) : State := (s.inc F.ETH.TX_FRAMES).emit (.ether kind dst bytes)

/-- The body of an ARP message for IPv4 over Ethernet. -/
def arpBody (op smac sip tmac tip : Nat) : List Byte :=
  beBytes 2 1 ++ beBytes 2 0x0800 ++ beBytes 1 6 ++ beBytes 1 4 ++ beBytes 2 op ++ beBytes 6 smac ++ beBytes 4 sip ++ beBytes 6 tmac ++ beBytes 4 tip

/-- ARP_REQUEST (R311). -/
def State.arpRequest (s : State) (sip smac target : Nat) : State :=
  if !s.ethUp then s
  else
    let s := s.inc F.ETH.RX_FRAMES
    let ip := s.get F.ETH.IP_ADDR
    if target = ip then s.ethSend 1 smac (arpBody 2 s.mac ip smac sip) else s

/-- The address ARP resolves for a destination: itself, or the gateway where it lies outside the network. -/
def State.nextHop (s : State) (ip : Nat) : Nat :=
  let m := s.get F.ETH.IP_MASK
  if (ip &&& m) = (s.get F.ETH.IP_ADDR &&& m) then ip else s.get F.ETH.IP_GW

/-- ARP_REPLY_RX (R311). -/
def State.arpReply (s : State) (ip mac : Nat) : State :=
  if !s.ethUp then s
  else
    let s := s.inc F.ETH.RX_FRAMES
    if ip = s.get F.ETH.IP_GW ∨ ip = s.nextHop (s.get F.ETH.STREAM_DEST_IP) then
      { s with eth := { s.eth with arp := spSet (fun _ => 0) s.eth.arp ip mac } }
    else s

/-- The Internet checksum of a message. -/
def inetSum (bs : List Byte) : Nat := 65535 - onesSum (if bs.length % 2 = 0 then bs else bs ++ [0])

/-- ICMP_ECHO_REQUEST (R311): identifier, sequence number and payload come back. -/
def State.icmpEcho (s : State) (sip id seq : Nat) (payload : List Byte) : State :=
  if !s.ethUp then s
  else
    let s := s.inc F.ETH.RX_FRAMES
    if 1472 < payload.length then s.inc F.ETH.RX_DISCARD
    else
      let tail := beBytes 2 id ++ beBytes 2 seq ++ payload
      (s.inc F.ETH.ICMP_ECHO).ethSend 2 sip (zeros 2 ++ beBytes 2 (inetSum (zeros 4 ++ tail)) ++ tail)

/-- PAUSE_FRAME_RX (R310): no frame starts for that many times 512 bit times. -/
def State.pauseFrame (s : State) (quanta : Nat) : State :=
  if !s.ethUp then s
  else
    let s := (s.inc F.ETH.RX_FRAMES).inc F.ETH.PAUSE_RX
    { s with eth := { s.eth with pause := s.time.dev.toNat + 512 * quanta } }

/-- ETH_FRAME_DISCARD (R310, R311). -/
def State.ethDiscard (s : State) (fcsBad : Bool) : State :=
  if !s.ethUp then s
  else if fcsBad then s.inc F.ETH.RX_FCS_ERR
  else (s.inc F.ETH.RX_FRAMES).inc F.ETH.RX_DISCARD

/-- STREAM_DATAGRAM_SEND (R312); an unresolved next hop is asked for first (R311). -/
def State.streamDatagram (s : State) (k : Nat) : State :=
  let s := s.routeSync
  let n := s.get (F.ETH.DGRAM_SENT k)
  let c := (s.get (F.ETH.DCREDIT k) + 2 ^ 32 - n) % 2 ^ 32
  if s.ethUp && s.routed k && decide (0 < s.streamLevel k ∧ 1 ≤ c ∧ c ≤ 2 ^ 31 ∧ s.eth.pause ≤ s.time.dev.toNat) then
    let ip := s.get F.ETH.STREAM_DEST_IP
    let hop := s.nextHop ip
    if spGet (fun _ => 0) s.eth.arp hop = 0 then s.ethSend 1 (2 ^ 48 - 1) (arpBody 1 s.mac (s.get F.ETH.IP_ADDR) 0 hop)
    else
      let x := s.stream k
      let t := takeBytes x 1432
      let d := beBytes 1 1 ++ beBytes 1 k ++ beBytes 1 (bit x.resync) ++ zeros 1 ++ beBytes 4 n ++ beBytes 4 x.bytes ++ beBytes 2 t.1.length ++
        beBytes 2 t.2.1 ++ beBytes 8 s.time.dev.toNat ++ t.1
      let s := ((s.setStream k t.2.2).set (F.ETH.DGRAM_SENT k) (n + 1)).inc F.ETH.DGRAM_TX
      ((s.inc F.ETH.TX_FRAMES).emit (.streamDatagram ⟨BitVec.ofNat 32 ip, BitVec.ofNat 16 (s.get F.ETH.STREAM_DEST_PORT)⟩ d)).routeSync
  else s

/-- CREDIT_DATAGRAM (R312). -/
def State.creditDatagram (s : State) (src : Peer) (b : List Byte) : State :=
  if !s.ethUp then s
  else
    let s := s.inc F.ETH.RX_FRAMES
    if src.ip.toNat = s.get F.ETH.STREAM_DEST_IP ∧ u8 b 0 = 2 ∧ b.length = 32 then
      (s.inc F.ETH.CREDIT_RX).each (List.range 7) (fun s i => s.set (F.ETH.DCREDIT (i + 1)) (u32 b (4 + 4 * i)))
    else s

/-- NET_CONFIG (R311, R55): the addresses change after the reply, and UDP peer state is cleared. -/
def cmdNetConfig (s : State) (p : List Byte) : Reply :=
  s.guarded [s.needDom 78, badParam (notZero p 14 2) 3]
    ⟨.final 0 0 [], s, fun t =>
      let t := ((t.set F.ETH.IP_ADDR (u32 p 0)).set F.ETH.IP_MASK (u32 p 4)).set F.ETH.IP_GW (u32 p 8)
      let t := t.set F.ETH.VLAN (u16 p 12)
      { t with cmd := { t.cmd with udp := [], held := t.cmd.held.filter (fun h => match h.port with | .udp _ => false | _ => true) },
               eth := { t.eth with arp := [] } }⟩

/-- A write inside the Ethernet block. -/
def State.wrEth (s : State) (a : Nat) (v : Word) : State := (s.hostWrite a v).routeSync

end Sys2Proof.Machine
end

