-- ==== Sys2Proof/Machine/TimeBase.lean ====
section
/-! DEFINITION. The device clock (R313 to R318): the tick, the discipline states, IEEE 802.1AS, the servo, TIME_CONFIG and TIME_READ. -/

namespace Sys2Proof.Machine

/-! ### The counter (R313) -/

/-- R313: units of 2^-32 ns per TIME tick for an adjustment in ppb. -/
def tickInc (adj : Int) : Nat := (4 * 2 ^ 32 * (10 ^ 9 + adj) / 10 ^ 9).toNat

/-- Device time with its 32 fraction bits. -/
def TimeSt.fine (t : TimeSt) : Nat := t.dev.toNat * 2 ^ 32 + t.frac

/-- Replace device time and fraction. -/
def TimeSt.ofFine (t : TimeSt) (x : Int) : TimeSt :=
  { t with dev := BitVec.ofInt 64 (x / 2 ^ 32), frac := (x % 2 ^ 32).toNat }

/-- One TIME tick. -/
def State.timeTick (s : State) : State :=
  let t := s.time.ofFine (s.time.fine + tickInc s.tb.adj)
  { s with time := { t with tick := s.time.tick + 1 } }

/-- TB_TIME_LO_READ: the whole value is latched. -/
def State.latchTime (s : State) : State := { s with time := { s.time with hiLatch := BitVec.ofNat 32 (s.time.dev.toNat / 2 ^ 32) } }

/-! ### Discipline states (R314) -/

/-- R314: a change of state raises EV_TIME_STATE. -/
def State.tbState (s : State) (n : Nat) : State :=
  if s.tb.st = n then s
  else
    let s : State := { s with tb := { s.tb with st := n, good := 0, bad := 0 } }
    (s.when (s.domOn 78) (fun s => s.set F.TB.TB_STAT_STATE n)).raise EV_TIME_STATE 0 n

/-- The adjustment in force. -/
def State.tbAdj (s : State) (adj : Int) : State :=
  ({ s with tb := { s.tb with adj := adj } } : State).when (s.domOn 78) (fun s => s.setI F.TB.ADJ adj)

/-- R314: MODE changes. -/
def State.tbMode (s : State) (m : Nat) : State :=
  let was := s.get F.TB.TB_CTRL_MODE
  let s := s.set F.TB.TB_CTRL_MODE m
  if m = 0 then (s.tbAdj 0).tbState 0
  else if m = 1 then (if was = 1 then s else { s with tb := { s.tb with integ := 0, good := 0, bad := 0 } })
  else (s.tbAdj s.tb.rate).tbState 3

/-- R314: the discipline is lost in MODE 1. -/
def State.holdover (s : State) : State :=
  if s.get F.TB.TB_CTRL_MODE = 1 ∧ (s.tb.st = 1 ∨ s.tb.st = 2) then s.tbState 3 else s

/-- R314: domain 78 goes off: the counter runs on at its last ADJ. -/
def State.tbDomainOff (s : State) : State :=
  let s : State := { s with tb := { s.tb with master := none, pdOk := 0, pdWait := false, integ := 0 } }
  if s.tb.st = 0 then s else s.tbState 3

/-- Domain 78 comes on: its registers show the state and ADJ in force. -/
def State.tbDomainOn (s : State) : State := (s.set F.TB.TB_STAT_STATE s.tb.st).setI F.TB.ADJ s.tb.adj

/-! ### Steps and the servo (R316, R317) -/

/-- R317: device time steps by an amount in 2^-32 ns. -/
def State.timeStep (s : State) (d : Int) : State :=
  let s : State := { s with time := s.time.ofFine (s.time.fine + d) }
  let ns := Int.tdiv d (2 ^ 32)
  let s := (s.inc F.TB.STEPS).setI F.TB.STEP_LAST (sat32 ns)
  s.raise EV_TIME_STEP 0 (unsigned 16 (max (-32768) (min 32767 (Int.tdiv ns 1000))))

/-- R316: I and ADJ from the offset (2^-16 ns), the rate ratio less 1 (2^-41) and the logarithm of the Sync interval. -/
def servo (integ o ratio log : Int) : Int × Int :=
  let t : Rat := if 0 ≤ log then ((2 ^ log.toNat : Nat) : Rat) else mkRat 1 (2 ^ (-log).toNat)
  let lim : Rat := 500000 * t * (2 ^ 21 : Nat)
  let i := max (-lim.floor) (min lim.floor (integ + o))
  let adj : Rat := mkRat (ratio * 10 ^ 9) (2 ^ 41) - (mkRat o (2 ^ 18) + mkRat i (2 ^ 21)) / t
  (i, clampI (adj + mkRat 1 2).floor (-500000) 500000)

/-- R314: the counts that take ACQUIRE to LOCKED and LOCKED to ACQUIRE. -/
def State.lockCount (s : State) (o : Int) : State :=
  let band : Int := s.get F.TB.LOCK_BAND * 2 ^ 16
  let a : Int := o.natAbs
  let good := if a ≤ band then s.tb.good + 1 else 0
  let bad := if 4 * band < a then s.tb.bad + 1 else 0
  let s : State := { s with tb := { s.tb with good := good, bad := bad } }
  if s.tb.st = 1 ∧ 16 ≤ good then s.tbState 2 else if s.tb.st = 2 ∧ 4 ≤ bad then s.tbState 1 else s

/-- R316: the offset of a Sync acts. -/
def State.discipline (s : State) (o ratio log : Int) : State :=
  let big := decide ((s.get F.TB.TB_CTRL_STEP_THRESH : Int) * 1000 * 2 ^ 16 < o.natAbs)
  let allowed := decide (o < 0) || s.pw.st != .scanning
  if big && allowed then
    let s : State := { s with tb := { s.tb with integ := 0 } }
    (s.timeStep (-o * 2 ^ 16)).tbState 1
  else
    let v := servo (if big then 0 else s.tb.integ) o ratio log
    let s : State := { s with tb := { s.tb with integ := if big then 0 else v.1 } }
    let s := s.tbAdj v.2
    if big then s.tbState 1 else s.lockCount o

/-- GPTP_SYNC (R316): ingress device time, origin, correction (2^-16 ns), rate ratio less 1 (2^-41), interval; `followUp` false: it was missing. -/
def State.gptpSync (s : State) (rx origin : Nat) (corr ratio log : Int) (followUp : Bool) : State :=
  if !s.ethUp then s
  else
    let s := (s.inc F.ETH.RX_FRAMES).inc F.TB.SYNC_RX
    if !followUp then s.inc F.TB.FOLLOWUP_MISS
    else if s.get F.TB.TB_CTRL_MODE ≠ 1 || !s.flag F.TB.TB_STAT_GM_PRESENT || !s.flag F.TB.TB_STAT_AS_CAPABLE then s
    else
      let rx := rx - s.get F.ETH.ETH_LAT_LAT_RX
      let o : Int := (rx : Int) * 2 ^ 16 - ((origin : Int) * 2 ^ 16 + corr + s.get F.TB.MEAN_LINK_DELAY * 2 ^ 16)
      let s := if s.tb.st = 0 ∨ s.tb.st = 3 then s.tbState 1 else s
      let s := s.discipline o ratio log
      let s := (s.setI F.TB.OFFSET (sat32 (o / 2 ^ 16))).set64 F.TB.SYNC_RX_LO F.TB.SYNC_RX_HI (BitVec.ofNat 64 rx)
      s.publish F.TB.TB_RES_ST

/-! ### Announce and peer delay (R315) -/

/-- The comparison key of an Announce message, by the places IEEE 802.1AS gives its fields (notes/assumptions/41.md). -/
def announceKey (b : List Byte) : List Nat := [u8 b 47, u8 b 48, u8 b 49, u16 b 50, u8 b 52, u64 b 53, u16 b 61, beAt b 20 10]

/-- Lexicographic comparison. -/
def keyLess : List Nat → List Nat → Bool
  | a :: r, b :: t => if a < b then true else if b < a then false else keyLess r t
  | _, _ => false

/-- GPTP_ANNOUNCE (R315): the best master is the least key; a message from its source renews it. -/
def State.gptpAnnounce (s : State) (b : List Byte) : State :=
  if !s.ethUp then s
  else
    let s := s.inc F.ETH.RX_FRAMES
    if u8 b 0 % 16 ≠ 0xB ∨ u8 b 4 ≠ 0 ∨ b.length < 64 then s
    else
      let src := (b.drop 20).take 10
      let key := announceKey b
      let take := match s.tb.master with
        | none => true
        | some (k, from_) => from_ == src || keyLess key k
      if take then
        let s : State := { s with tb := { s.tb with master := some (key, src) } }
        ((s.set F.TB.GM_ID_HI (u32 b 53)).set F.TB.GM_ID_LO (u32 b 57)).set F.TB.TB_STAT_GM_PRESENT 1
      else s

/-- A PTP message header, by IEEE 802.1AS (notes/assumptions/41.md). -/
def State.ptpHeader (s : State) (kind flags seq log : Nat) : List Byte :=
  let m := beBytes 6 s.mac
  beBytes 1 (0x10 + kind) ++ beBytes 1 2 ++ beBytes 2 54 ++ zeros 2 ++ beBytes 2 flags ++ zeros 12 ++ m.take 3 ++ [0xFF, 0xFE] ++ m.drop 3 ++ beBytes 2 1 ++
    beBytes 2 seq ++ beBytes 1 5 ++ beBytes 1 log

/-- The multicast address of gPTP. -/
def ptpDst : Nat := 0x0180C200000E

/-- A PTP time stamp: seconds and nanoseconds. -/
def ptpStamp (t : Nat) : List Byte := beBytes 6 (t / 10 ^ 9) ++ beBytes 4 (t % 10 ^ 9)

/-- asCapable. -/
def State.asCapable (s : State) (b : Bool) : State :=
  let s := s.setFlag F.TB.TB_STAT_AS_CAPABLE b
  if b then s else s.holdover

/-- PDELAY_EXCHANGE (R315): every 1 s; an exchange without its response has failed. -/
def State.pdelayExchange (s : State) : State :=
  if !s.ethUp then s
  else
    let s := if s.tb.pdWait then (({ s with tb := { s.tb with pdOk := 0 } } : State).inc F.TB.PDELAY_FAIL).asCapable false else s
    let seq := (s.tb.pdSeq + 1) % 65536
    let s : State := { s with tb := { s.tb with pdWait := true, pdSeq := seq } }
    (s.inc F.TB.PDELAY_TX).ethSend 3 ptpDst (s.ptpHeader 2 0 seq 0 ++ zeros 20)

/-- PDELAY_RESP_RX (R315): meanLinkDelay from the four time stamps, and asCapable. -/
def State.pdelayResp (s : State) (t1 t2 t3 t4 : Nat) : State :=
  if !(s.ethUp && s.tb.pdWait) then s
  else
    let s := s.inc F.ETH.RX_FRAMES
    let a := t1 + s.get F.ETH.ETH_LAT_LAT_TX
    let b := t4 - s.get F.ETH.ETH_LAT_LAT_RX
    let d := ((b - a) - (t3 - t2)) / 2
    let ok := s.tb.pdOk + 1
    let s : State := { s with tb := { s.tb with pdWait := false, pdOk := min ok 3 } }
    let s := s.set F.TB.MEAN_LINK_DELAY d
    if s.get F.TB.PDELAY_THRESH < d then s.asCapable false else if 3 ≤ ok then s.asCapable true else s

/-- PDELAY_REQ_RX (R315): the two-step answer of the responder to a request message. -/
def State.pdelayReq (s : State) (req : List Byte) : State :=
  if !s.ethUp then s
  else
    let s := s.inc F.ETH.RX_FRAMES
    let who := (req.drop 20).take 10
    let seq := u16 req 30
    let now := s.time.dev.toNat
    let s := s.ethSend 3 ptpDst (s.ptpHeader 3 0x0200 seq 0x7F ++ ptpStamp (now - s.get F.ETH.ETH_LAT_LAT_RX) ++ who)
    s.ethSend 3 ptpDst (s.ptpHeader 0xA 0 seq 0x7F ++ ptpStamp (now + s.get F.ETH.ETH_LAT_LAT_TX) ++ who)

/-- HOLDOVER_TIMEOUT (R314): no Sync, or no Announce, for 3 intervals. -/
def State.holdoverTimeout (s : State) (announce : Bool) : State :=
  if !s.domOn 78 then s
  else
    let s := if announce then ({ s with tb := { s.tb with master := none } } : State).set F.TB.TB_STAT_GM_PRESENT 0 else s
    s.holdover

/-! ### Commands (R318) -/

/-- TIME_READ (R318). -/
def cmdTimeRead (s : State) : Reply :=
  s.guarded [s.needDom 78]
    (let m := s.get F.TB.TB_CTRL_MODE
     let word := s.tb.st + 16 * m + 64 * s.get F.TB.TB_STAT_AS_CAPABLE + 128 * s.get F.TB.TB_STAT_GM_PRESENT
     s.done (beBytes 8 s.time.dev.toNat ++ beBytes 4 word ++ beBytes 4 (if m = 1 ∧ s.tb.st ≠ 0 then s.get F.TB.OFFSET else 0)))

/-- TIME_CONFIG (R318). -/
def cmdTimeConfig (s : State) (p : List Byte) : Reply :=
  let m := u8 p 0
  let f := u8 p 1
  let set := f % 2 == 1
  let rate := f / 2 % 2 == 1
  let t := u64 p 4
  let r := intAt p 12 4
  s.guarded [s.needDom 78, s.badState (set && s.pw.st == .scanning && decide (t < s.time.dev.toNat)),
      badParam (decide (2 < m ∨ 3 < f ∨ u16 p 2 = 0) || (m == 1 && f != 0)) 0, badParam (rate && decide (500000 < r.natAbs)) 3]
    (let s := s.set F.TB.TB_CTRL_STEP_THRESH (u16 p 2)
     let s : State := if rate then { s with tb := { s.tb with rate := r } } else s
     let s := s.tbMode m
     (if set then s.timeStep ((t : Int) * 2 ^ 32 - s.time.fine) else s).done [])

/-- A write inside the time base block. -/
def State.wrTimeBase (s : State) (a : Nat) (v : Word) : State :=
  if a = F.TB.TB_CTRL_MODE.addr then
    let m := min 2 (v.toNat % 4)
    let s := s.set F.TB.TB_CTRL_STEP_THRESH (max 1 (v.toNat / 65536))
    if m = s.get F.TB.TB_CTRL_MODE then s else s.tbMode m
  else s.hostWrite a v

end Sys2Proof.Machine
end

