-- ==== Sys2Proof/Machine/States.lean ====
section
/-! DEFINITION. Power domains going off and coming on (R17, R22), the abrupt end of a scan, and the entry to a power state with the commands it
ends (R20, R32). -/

namespace Sys2Proof.Machine

/-! ### Power domains -/

/-- The PLL of a domain: bit of CLK_STAT.LOCKED (Table 1-5). -/
def domainPll (p : Nat) : Option Nat :=
  match p with
  | 69 => some 0
  | 75 => some 2
  | 79 => some 5
  | 77 => some 6
  | _ => none

/-- The ACCEPTED commands whose work lies in a domain; they cannot go on without it. -/
def domainOps (p : Nat) : List Nat :=
  match p with
  | 67 => [0x0301]
  | 68 => [0x0202, 0x0902]
  | 69 => [0x0108]
  | 74 => [0x0A01, 0x0A02, 0x0A03]
  | 75 => [0x0403, 0x0404]
  | 76 => [0x0502]
  | 77 => [0x0600]
  | 79 => [0x0108, 0x0403, 0x0404, 0x0902, 0x0A01, 0x0A02, 0x0A03]
  | _ => []

/-- Units of a stream whose store is lost; a unit partly sent is cut. -/
def State.dropStream (s : State) (k : Nat) : State :=
  s.setStream k { s.stream k with units := [], off := 0, resync := true }

/-- The rows of a slice pair. -/
def pairRows (p : Nat) : List Nat := (List.range 8).flatMap (fun j => [2 * p + 128 * j, 2 * p + 1 + 128 * j])

/-- R17: what domain `p` holds beside its registers is lost. -/
def State.loseDomain (s : State) (p : Nat) : State :=
  if p < 64 then
    let s := s.each (pairRows p) (fun s r => s.setRow r RowSt.init)
    (s.setSlice (2 * p) SliceSt.init).setSlice (2 * p + 1) SliceSt.init
  else match p with
  | 67 => { s with eng := LoopsSt.init }
  | 68 => { s with shot := ShotSt.init }.recLost
  | 69 => { s with rx := { s.rx with
      banks := [], refs := [], refDropped := 0, suspects := 0, gradient := 0, biasOff := 0, chans := [], dump := none } }
  | 70 | 71 | 72 | 73 => s.setRegion (p - 70) RegionSt.init
  | 74 => (({ s with ps := PsSt.init } : State).dropStream 1).dropStream 2
  | 75 => (({ s with vis := VisionSt.init } : State).dropStream 3).dropStream 4
  | 76 => { s with disps := [] }
  | 77 => { s with links := [] }
  | 78 => { s with eth := EthSt.init }.tbDomainOff
  | 79 =>
    let s : State := { s with
      mem := MemSt.init s.time.dev.toNat, dram := [],
      ps := { s.ps with chain := [], save := none, saved := none, restore := none, decomp := none },
      vis := { s.vis with jobs := [], cur := none, stats := none, repro := none, bufs := [], ovls := [] } }
    s.each [1, 2, 3, 4, 5, 6] State.dropStream
  | _ => s

/-- The registers of domain `p` at their reset values; isolation and fences last until the next boot (R8, R9). -/
def State.dropWords (s : State) (p : Nat) : State :=
  let iso := (List.range 4).map (fun k => s.get (F.RX.SLICE_ISO_ISO k))
  let fence := decide (70 ≤ p ∧ p ≤ 73) && s.fenced (p - 70)
  let s := s.dropDomain p
  let s : State := { s with heldRegs := spKeep (fun k => domainOf (k % 2 ^ 32) != p) s.heldRegs }
  if p = 69 then s.each (List.range 4) (fun s k => s.set (F.RX.SLICE_ISO_ISO k) (iso.getD k 0))
  else if fence then s.set (F.PE.PE_STAT_FENCED (p - 70)) 1 else s

/-- R17: domain `p` goes off. Commands that work in it end with BAD_STATE, for the status of R473 is the one the spec gives such a command. -/
def State.domainOff (s : State) (p : Nat) : State :=
  if !s.domOn p then s
  else
    let s := s.when (p == 77) (fun s => s.each [0, 1, 2] State.linkDown)
    let s := s.each (domainOps p) (fun s op => s.complete op 0x13 s.stateCode [])
    let s := s.when (p == 67) (fun s => s.each (List.range 8) (fun s n => s.answerLater 0x0301 n 0x13 s.stateCode []))
    let s := (s.loseDomain p).dropWords p
    let s := s.set (domBit 0x120 p) 0
    let s : State := { s with pw := { s.pw with reload := s.pw.reload.filter (fun q => q != p) } }
    match domainPll p with
    | some k => s.setBitAt F.SYS.CLK_STAT_LOCKED k false
    | none => if p = 76 then (s.setBitAt F.SYS.CLK_STAT_LOCKED 3 false).setBitAt F.SYS.CLK_STAT_LOCKED 4 false else s

/-- R17: domain `p` is on and ready, its registers at their reset values; what other domains know of it shows again. -/
def State.domainOn (s : State) (p : Nat) : State :=
  if s.domOn p then s
  else
    let s := s.set (domBit 0x120 p) 1
    let s := match domainPll p with
      | some k => s.setBitAt F.SYS.CLK_STAT_LOCKED k true
      | none => s
    if p < 64 then s.each [2 * p, 2 * p + 1] (fun s i => s.when (s.isolated i) (fun s => (s.set (F.SLC.SLC_STAT_ISOLATED i) 1).set (F.SLC.SLC_STAT_ECC_ISO i) 1))
    else match p with
    | 68 => s.inhibitOn s.stateSources
    | 78 => s.tbDomainOn
    | 79 => { s with mem := MemSt.init s.time.dev.toNat }
    | _ => s

/-- Table 1-12: the domains that DORMANT and THERMAL_LATCH switch off. -/
def switchedDomains : List Nat := (List.range 13).map (fun i => 67 + i) ++ List.range 64

/-- Domains whose registers hold "cal" or OTP fields (R454). -/
def reloads (p : Nat) : Bool := decide (p < 64) || [67, 69, 70, 71, 72, 73, 75, 78].contains p

/-! ### The end of a scan -/

/-- No column runs and none is wanted; EMIT_INHIBIT.STATE sets (R100, R474). -/
def State.scanOff (s : State) : State :=
  ({ s with scan := { s.scan with phase := .idle, restart := false, stopWanted := false, restartWanted := false } } : State).inhibitOn 1

/-- R218, R229: a frame is closed with column `c`, the last delivered: the regions that have released it update their frame result groups. -/
def State.closeResults (s : State) (c : Nat) : State :=
  if (c + 1) % s.nCol = 0 then s
  else
    s.each ((List.range 4).filter (fun g => s.domOn (70 + g) && (s.region g).rows.isEmpty &&
      s.ps.cols.all (fun k => k.c != c || k.built || k.parts.any (fun e => e.1 == g)))) State.frameResult

/-- R229: the scan ends at this moment: the frame is closed with the last column delivered, and the column under way is not delivered. -/
def State.abandonScan (s : State) : State :=
  if s.scan.phase = .idle then s
  else
    let c := s.scan.column
    let s :=
      if s.scan.phase = .running then
        ({ s with ps := { s.ps with cols := s.ps.cols.filter (fun k => k.c != c) } } : State).closeFrame (c - 1) true |>.closeResults (c - 1)
      else s
    (s.each (List.range 8) (fun s b => s.setRxBank b { s.rxBank b with isOpen := false })).scanOff

/-! ### Entry to a power state -/

/-- PWR_STATE.STATE of a state. -/
def stateCodeOf : PowerState → Nat
  | .ready => 1
  | .scanning => 2
  | .safeHold => 3
  | .thermalLatch => 4
  | _ => 0

/-- R32: the ACCEPTED commands that the new state ends. -/
def endedBy (new : PowerState) (op : Nat) : Bool :=
  match new with
  | .scanning => op == 0x0202
  | .ready => op == 0x0100 || op == 0x0108
  | .safeHold => op == 0x0100 || op == 0x0108 || op == 0x0202
  | .thermalLatch => true
  | _ => false

/-- R32: commands that the change ends complete BAD_STATE with the new state; a SCAN_STOP that waits for its boundary is superseded (R21). -/
def State.endCommands (s : State) (new : PowerState) : State :=
  let code := stateCodeOf new
  let ends := (s.cmd.running.map (fun r => r.op)).filter (endedBy new)
  let s := s.when (ends.contains 0x0202) State.endChargeTest
  let s := s.when (ends.contains 0x0108) State.dumpDrop
  let s := s.calByState
  let s := s.each ends (fun s op => s.complete op 0x13 code [])
  let s := s.when (new == .safeHold || new == .thermalLatch) (fun s => s.answerLater 0x0101 0 0x13 code [])
  s.when (new == .thermalLatch) (fun s => s.each (List.range 8) (fun s n => s.answerLater 0x0301 n 0x13 code []))

/-- R20: READY, SCANNING, SAFE_HOLD or THERMAL_LATCH is entered with a CAUSE. -/
def State.enterState (s : State) (new : PowerState) (cause : Nat) : State :=
  let old := s.pw.st
  let s : State := { s with pw := { s.pw with st := new, cause := BitVec.ofNat 8 cause, dormPend := none, holdByCmd := new == .safeHold && cause == 1 } }
  let s := s.when (new != .scanning) State.abandonScan
  let s := s.raise EV_STATE_CHANGE 0 (256 * cause + stateCodeOf new)
  let s := s.endCommands new
  let s := s.when (old == .safeHold && new != .safeHold) State.safeRelease
  match new with
  | .ready => s.illReady
  | .scanning => s.closeCommissioning
  | .safeHold => s.auxSafe
  | .thermalLatch =>
    let s : State := { s with pw := { s.pw with latchFlag := true, rebootPend := false } }
    let s := (s.auxSafe.illDarkAll.inhibitOn (2 ^ 8)).each switchedDomains State.domainOff
    s
  | _ => s

end Sys2Proof.Machine
end

