-- ==== Sys2Proof/Machine/Scan.lean ====
section
/-! DEFINITION. The scan: SCAN_START and SCAN_STOP (R51, R131), the settling of the loops, the boundary of column 0 (R474), and what happens at each
column boundary (R96, R229, R393). -/

namespace Sys2Proof.Machine

/-! ### Loading a profile (R1, R6, R139, R161, R392) -/

/-- Table 0-8: the receiver and scheduler registers of the selected profile, ZOOM_N as the throttle level in force leaves it. -/
def State.loadReceiver (s : State) : State :=
  let p := s.scan.named
  let v := s.profVal p
  let zoom := zoomEff s.th.inForce (v 1)
  let s := ((s.set F.RX.HIST_CFG_COARSE_N (v 0)).set F.RX.HIST_CFG_ZOOM_N zoom).set F.RX.HIST_CFG_K_BIN (v 2)
  let s := ((s.set F.RX.RX_LISTEN_LISTEN (v 3)).set F.RX.RX_TIME_HOLDOFF (v 4)).set F.RX.RX_TIME_PRE_SPAN (v 5)
  let s := ((s.set F.RX.RX_TIME_BLANK (v 6)).set F.RX.RX_CTRL_ADAPT (v 7)).set F.RX.ADAPT_CFG_STEP_MAX (v 8)
  let s := s.set F.SHT.SHOT_PERIOD_PERIOD (shotPeriod p (v 0 + zoom))
  { s with scan := { s.scan with profile := p } }

/-- Table 0-8: the Loop 0 supervisor thresholds of the selected profile. -/
def State.loadThresholds (s : State) : State :=
  let v := s.profVal s.scan.named
  (((s.set (F.LOOP.FB_CFG_FB_N 0) (v 9)).set (F.LOOP.REF_DELTA 0) (v 10)).set (F.LOOP.MEAS_DELTA 0) (v 11)).set (F.LOOP.DRIVE_DELTA 0) (v 12)

/-! ### Settling (R131) -/

/-- Loops 0 to 3 are all SETTLED. -/
def State.allSettled (s : State) : Bool := [0, 1, 2, 3].all (fun n => s.flag (F.LOOP.LOOP_STAT_SETTLED n))

/-- R131: the selected profile is loaded, the table copied, and Loops 3, 2, 1 and 0 are closed. A RESTART takes the receiver's fields when its boundary is fixed, for the
last column of the old scan is still read out under the old ones. -/
def State.beginSettle (s : State) (restart : Bool) : State :=
  let s : State := { s with
    scan := { s.scan with phase := .settling, restart := restart, stopWanted := false, restartWanted := false, approachDone := false },
    th := { s.th with inForce := s.get F.TH.TH_STAT_LEVEL },
    sync := { s.sync with count := none, ready := false },
    eng := { s.eng with best := none } }
  let s := (s.when (!restart) State.loadReceiver).loadThresholds.copyTable
  let s := s.each [3, 2, 1, 0] (fun s n => if s.mode n = 2 then s else s.setMode n 2)
  s.calScanStart.calByState

/-- R131, R322: the settling fails: SCAN_START completes, and a RESTART takes the device to READY. -/
def State.settleFail (s : State) (status detail : Nat) : State :=
  let restart := s.scan.restart
  let s := s.complete 0x0100 status detail []
  if restart then s.loadReceiver.enterState .ready 1 else s.scanOff

/-- SETTLE_TIMEOUT (R131): 500 ms have passed since acceptance. -/
def State.settleTimeout (s : State) : State :=
  if s.scan.phase = .settling ∧ !(s.scan.approachDone && s.allSettled) then
    let d := ([0, 1, 2, 3].find? (fun n => !s.flag (F.LOOP.LOOP_STAT_SETTLED n))).getD 255
    s.settleFail 0x58 d
  else s

/-! ### Column 0 (R474) -/

/-- What is left of the columns and frames of the scan before is used up, for CINDEX begins anew: a part that has not come is given up (R224). -/
def State.flushScan (s : State) : State :=
  let s := s.each s.ps.cols (fun s _ =>
    let s := match s.ps.cols.find? (fun k => !k.built) with
      | some k =>
        let miss := s.partsMissing k
        let s := s.onCol k.c (fun k => { k with late := miss.foldl (fun m g => m + 2 ^ g) k.late })
        s.each miss (fun s g => (s.inc F.PS.REGION_LATE).raise EV_POINT_REGION_LATE g (k.c % 65536))
      | none => s
    s.recordBuild.safetyColumn.fusionColumn)
  let s := s.each s.ps.frames (fun s _ => s.frameEnd)
  { s with ps := { s.ps with cols := [], frames := [] } }

/-- R157, R188: a row begins a scan: no shot, no event, a first column, the adaptive step at 1. -/
def State.rowBegin (s : State) (r : Nat) : State :=
  let x := s.row r
  s.setRow r { x with
    shots := [], held := [], acc := { RowBuf.empty 0 with coarse := x.acc.coarse, zoom := x.acc.zoom }, tracker := [], snap := false,
    singles := 0, cellTime := 0, armed := 0, survey := [], below := 0 }

/-- A region begins a scan: no row read, no self-check pending, nothing summed (R216, R218). -/
def State.regionBegin (s : State) (g : Nat) : State :=
  s.setRegion g { s.region g with rows := [], col := 0, checkPend := false, sums := [0, 0, 0, 0, 0, 0, 0, 0] }

/-- Every row that can listen starts at step 1, or at 0 where STEP_MAX is 0 (R157). -/
def State.stepsBegin (s : State) : State :=
  let t := min 1 (s.get F.RX.ADAPT_CFG_STEP_MAX)
  s.each ((List.range 1024).filter (fun r => s.domOn (rowDom r) && s.get (F.ROW.ROW_STAT_STEP r) != t)) (fun s r => s.set (F.ROW.ROW_STAT_STEP r) t)

/-- COLUMN0_BOUNDARY_FIX (R131, R322, R474): the boundary of column 0 is fixed at coarse clock `cc`; EMIT_INHIBIT.STATE clears and the first charge windows open. -/
def State.column0Fix (s : State) (cc : Nat) : State :=
  let due := if s.get F.SYN.SYNC_CTRL_ROLE = 2 then s.sync.ready else s.scan.approachDone && s.allSettled
  if s.scan.phase = .settling ∧ due = true ∧ s.domOn 68 = true then
    let s := s.flushScan
    let s := s.when s.scan.restart State.loadReceiver
    let s : State := { s with
      scan := { s.scan with phase := .fixed, origin := cc, base := s.scan.base + s.scan.column + 1, column := 0 },
      sync := { s.sync with count := none, ready := false, shifts := [] },
      ps := { s.ps with reset := true },
      heldRegs := spKeep (fun k => decide (8 < k / 2 ^ 32)) s.heldRegs }
    let s := s.each (s.rx.rows.map (fun e => e.1)) State.rowBegin
    let s := (s.each (List.range 4) State.regionBegin).stepsBegin
    let s := s.each allBanks (fun s b => s.setRxBank b { BankRx.init with isOpen := s.domOn 69 })
    (s.inhibitOff 1).armScheduler.firstWindows
  else s

/-! ### Column boundaries (R96) -/

/-- R319: a SYNC pulse leaves a driver. -/
def State.syncOut (s : State) (first : Bool) : State :=
  if s.get F.SYN.SYNC_CTRL_ROLE = 1 then
    if first then s.emit (.syncPulse 1)
    else if s.sync.filter then ({ s with sync := { s.sync with filter := false } } : State).emit (.syncPulse 2)
    else s.emit (.syncPulse 0)
  else s

/-- R229, R112, R149, R401: what a frame start does. -/
def State.beginFrame (s : State) (c : Nat) : State :=
  let restarted := decide (c = 0) && s.scan.restart
  let s : State := { s with scan := { s.scan with frame := s.scan.frame + 1, restart := false } }
  ((s.openFrame c restarted).derateFrame.trimStep).calStep

/-- The boundary at which column `c` begins. -/
def State.beginColumn (s : State) (c : Nat) : State :=
  let first := decide (c % s.nCol = 0)
  let s : State := { s with scan := { s.scan with column := c } }
  let s := s.set F.SHT.SHOT_STATE_COLUMN (c % s.nCol)
  let s := s.when first (fun s => s.beginFrame c)
  let s := (s.syncOut first).openColumn c
  (s.dumpBoundary (s.scan.base + c)).invalidBit 7 false

/-- R133: what the loop engine and the scheduler know of column `c` at its end. -/
def State.endColumn (s : State) (c : Nat) : State :=
  let dual := (List.range 8).any (fun b => (s.bank b).dualCol)
  let fired := (List.range 8).map (fun b => (s.bank b).firedCol)
  let best := s.eng.best
  let s := s.onCol c (fun k => { k with
    fired := fired, dual := dual, angle := match best with | some (_, a, true) => some a | _ => none })
  let s := match best with
    | some (_, a, _) => s.set F.STEER.ANGLE a
    | none => s
  let s := ((s.setFlag F.STEER.DUAL dual).set F.STEER.DIR (c / s.nCol % 2)).set F.STEER.COLUMN (c % s.nCol)
  let s := s.publish F.STEER.COL_ANG_ST
  ({ s with eng := { s.eng with best := none } } : State).closeShotColumn c

/-- Table 1-11: the boundary that ends column `c` under a SCAN_STOP. -/
def State.stopHere (s : State) (c : Nat) (last : Bool) : State :=
  let s := (s.closeFrame c (!last)).scanOff
  (s.answerLater 0x0101 0 0 0 []).enterState .ready 1

/-- COLUMN_BOUNDARY: the next boundary of the schedule: SCANNING begins with column 0; a stop, a RESTART or a throttle restart takes effect (R393); else the next
column begins. -/
def State.columnBoundary (s : State) : State :=
  match s.scan.phase with
  | .fixed =>
    let s : State := { s with scan := { s.scan with phase := .running } }
    (s.when (s.pw.st == .ready) (fun s => s.enterState .scanning 1)).beginColumn 0
  | .running =>
    let c := s.scan.column
    let last := decide ((c + 1) % s.nCol = 0)
    let s := (s.endColumn c).when last State.surveyEnd
    if s.scan.stopWanted then s.stopHere c last
    else if s.scan.restartWanted then (s.closeFrame c (!last)).beginSettle true
    else if last && decide (c / s.nCol % 2 = 1) && s.throttlePending then
      let s := s.closeFrame c false
      ({ s with th := { s.th with steps := s.th.steps + 1 } } : State).beginSettle true
    else (s.when last (fun s => s.closeFrame c false)).beginColumn (c + 1)
  | _ => s

/-- THROTTLE_RESTART (R393): the boundary at which a reverse frame ends while a change of level is pending. -/
def State.throttleRestart (s : State) : State :=
  let c := s.scan.column
  if s.scan.phase = .running ∧ (c + 1) % s.nCol = 0 ∧ c / s.nCol % 2 = 1 ∧ s.throttlePending = true then s.columnBoundary else s

/-! ### Commands -/

/-- R51: the checks of step 11 up to FEEDBACK_FAULT. -/
def State.scanChecks (s : State) (restart : Bool) : List Check :=
  let fb := [0, 1, 2, 3].find? s.fbLatched
  [s.badState (!(s.pw.st == .ready || s.pw.st == .scanning) || (s.pw.st == .scanning && !restart) ||
      [67, 68, 69, 70, 71, 72, 73, 74, 79].any (fun p => !s.domOn p)),
    (!s.flag F.LIM.LIM_CFG_CONFIGURED, 0x50, 0), (s.emptyBanks != 0, 0x51, s.emptyBanks), (fb.isSome, 0x5A, fb.getD 0)]

/-- Acceptance: READY begins to settle; SCANNING restarts at the next column boundary. -/
def State.scanAccepted (s : State) (p : Nat) : State :=
  let s : State := { s with scan := { s.scan with named := p } }
  if s.pw.st = .scanning then { s with scan := { s.scan with restartWanted := true } } else s.beginSettle false

/-- SCAN_START after FEEDBACK_FAULT: the user table (R128), the kernels (R220), the responses (R355), then steps 12 and 13. -/
def State.scanStartRest (s : State) (p : List Byte) : Reply :=
  match s.trajCheck with
  | some (k, kind) => ((s.set F.STEER.TRAJ_STAT_BAD_INDEX k).set F.STEER.TRAJ_STAT_BAD kind).reply (.final 0x59 kind [])
  | none =>
    let s := s.set F.STEER.TRAJ_STAT_BAD 0
    let b := u8 p 0
    let known := decide (b ≤ 3 ∨ b = 255)
    let prof := if b = 255 then s.scan.named else b
    match s.badKernel with
    | some k => s.reply (.final 0x64 k [])
    | none =>
      let r := if known then s.responses prof else (none, s)
      let s := r.2
      s.guarded [(r.1.isSome, 0x83, r.1.getD 0), badParam (!known || decide (1 < u8 p 1) || notZero p 2 2) 0]
        (if s.rangeBusy 0x0100 then s.reply .busy
         else s.guarded [(!s.pw.reload.isEmpty, 0x20, 2), (levelShort s.boundLevel prof (s.get F.PS.PS_CTRL_FORMAT), 0x21, 4)]
           ((s.scanAccepted prof).reply (.accepted 0)))

/-- SCAN_START (R51). -/
def cmdScanStart (s : State) (p : List Byte) : Reply :=
  s.guarded (s.scanChecks (u8 p 1 % 2 == 1)) (s.scanStartRest p)

/-- SCAN_STOP (Table 1-11): the last shot of the column under way is waited for; during the settling of a RESTART the scan ends at once. -/
def cmdScanStop (s : State) : Reply :=
  s.guarded [s.badState (s.pw.st != .scanning)]
    (if s.scan.phase = .running then ({ s with scan := { s.scan with stopWanted := true } } : State).reply (.later 0)
     else ⟨.final 0 0 [], s, fun t => t.enterState .ready 1⟩)

end Sys2Proof.Machine
end

