-- ==== Sys2Proof/Machine/Faults.lean ====
section
/-! DEFINITION. The fault manager at work (R427 to R433): each fault is logged, latched and answered with its reaction; causes, the recovery timer and recovery;
and the commands SAFE_HOLD and FAULT_CLEAR. -/

namespace Sys2Proof.Machine

/-! ### Causes (R428, Table 19-5) -/

/-- PLLs that ought to be locked: bit k of the word, by the domains that are on and the displays that run (Table 20-3). -/
def State.pllsWanted (s : State) : Nat :=
  2 + bit (s.domOn 69) + 4 * bit (s.domOn 75) + 8 * bit (s.domOn 76 && s.flag (F.DSP.DISP_STAT_RUNNING 0)) +
    16 * bit (s.domOn 76 && s.flag (F.DSP.DISP_STAT_RUNNING 1)) + 32 * bit (s.domOn 79) + 64 * bit (s.domOn 77)

/-- Whether the cause of an event's fault is active now (Table 19-5); a failed self-test stays until a later one passes. -/
def State.causeNow (s : State) (n : Nat) : Bool :=
  let fb := fun (i : Nat) => s.domOn 67 && s.fbLatched i
  let strings := fun (f : Nat → Fld) => s.domOn 68 && (List.range 32).any (fun i => s.flag (f i))
  if n = EV_POST_FAILURE then true
  else if n = EV_CLOCK_MONITOR then s.pw.clkBad
  else if n = EV_PLL_UNLOCK then s.pllsWanted &&& (127 - s.get F.SYS.CLK_STAT_LOCKED) != 0
  else if n = EV_LIMITER_FAULT then s.domOn 68 && s.flag F.LIM.LIM_CFG_LANE_FAULT
  else if n = EV_EMITTER_STRAY then s.domOn 68 && s.bitAt F.SHT.EMIT_INHIBIT_SRC 11
  else if n = EV_MIRROR_FEEDBACK then fb 0 || fb 1
  else if n = EV_BIAS_FEEDBACK then fb 2 || fb 3
  else if n = EV_HV_OVERVOLT then s.domOn 69 && s.flag F.RX.RX_STAT_HV_OVP
  else if n = EV_SAFETY_LANE then s.bitAt F.SAF.SAFE_FAULT_CAUSE 6
  else if n = EV_STRING_OVERVOLT then strings F.STR.STR_STAT_OVERVOLT
  else if n = EV_STRING_WIDTH then strings F.STR.STR_STAT_WIDE
  else false

/-- FM_ACTIVE of an event. -/
def State.causeActive (s : State) (n : Nat) : Bool := s.flag (activeBit n)

/-- FM_ACTIVE follows the causes: one that no longer holds clears. -/
def State.causesFollow (s : State) : State :=
  s.each (lastingEvents.filter (fun n => s.causeActive n && !s.causeNow n)) (fun s n => s.set (activeBit n) 0)

/-! ### Processing (R429, R430) -/

/-- R433: a fault is logged. -/
def State.logFault (s : State) (f : FaultRec) : State :=
  let i := s.get F.FM.FL_COUNT
  ({ s with fm := { s.fm with log := (i, f) :: s.fm.log.take 63 } } : State).inc F.FM.FL_COUNT

/-- R432: the first-fault register takes a fault if it is empty; `i`: the index of its log entry. -/
def State.firstFault (s : State) (f : FaultRec) (i : Nat) : State :=
  if s.flag F.FM.FM_FIRST_VALID then s
  else
    let s := ((s.set F.FM.FM_FIRST_EVENT f.ev).set F.FM.FM_FIRST_CLASS f.cls).set F.FM.FM_FIRST_VALID 1
    let s := (s.set F.FM.INSTANCE f.inst).set F.FM.DATA f.dat
    (s.set64 F.FM.TIME_LO F.FM.TIME_HI f.time).set F.FM.INDEX i

/-- R430: the reaction of a fault of class EMIT_OFF or SAFE_HOLD. -/
def State.react (s : State) (f : FaultRec) : State :=
  let was := s.get F.FM.FM_STAT_CLASS
  let s := s.when (decide (was < 2) && f.cls == 2) (fun s => s.inc F.FM.EMIT_OFF_EPISODES)
  let s := s.when (decide (was < 3) && f.cls == 3) (fun s => s.inc F.FM.SAFE_HOLD_EPISODES)
  let s := ((s.set F.FM.FM_STAT_CLASS (max was f.cls)).set F.FM.FM_STAT_TIMER 1).set F.FM.FM_STAT_RECOVERED 0
  let s : State := { s with fm := { s.fm with counted := s.fm.counted ||| BitVec.ofNat 256 (2 ^ f.ev) } }
  let s := s.inhibitOn (2 ^ 6)
  if f.cls = 3 ∧ (s.pw.st = .ready ∨ s.pw.st = .scanning) then s.enterState .safeHold 2 else s

/-- R429: one fault is processed. -/
def State.processFault (s : State) (f : FaultRec) : State :=
  let i := s.get F.FM.FL_COUNT
  let s := ((s.logFault f).firstFault f i).inc F.FM.FAULTS
  if 2 ≤ f.cls then s.react f else s

/-- R429: the faults that wait are processed in order; a reaction may raise more of them. The fault manager does not run in DORMANT and OFF. -/
def State.fmRun (s : State) : Nat → State
  | 0 => s
  | n + 1 => match s.fm.queue with
    | [] => s
    | f :: r => (({ s with fm := { s.fm with queue := r } } : State).processFault f).fmRun n

/-- R430: recovery completes once the timer has expired and no counted cause is active; an EMIT_OFF episode ends with it. -/
def State.checkRecovery (s : State) : State :=
  let cls := s.get F.FM.FM_STAT_CLASS
  let holds := lastingEvents.any (fun n => s.fm.counted.toNat / 2 ^ n % 2 == 1 && s.causeActive n)
  if cls < 2 ∨ s.flag F.FM.FM_STAT_TIMER ∨ s.flag F.FM.FM_STAT_RECOVERED ∨ holds then s
  else
    let s := s.inc F.FM.RECOVERIES
    let s :=
      if cls = 2 then ({ s with fm := { s.fm with counted := 0 } } : State).set F.FM.FM_STAT_CLASS 0 |>.inhibitOff (2 ^ 6)
      else s.set F.FM.FM_STAT_RECOVERED 1
    s.raise EV_FAULT_RECOVERED 0 cls

/-- The fault manager's share of any moment: the receiver notes an off converter (R156), causes follow, faults are processed, recovery is decided. -/
def State.calm (s : State) : State :=
  let s := s.noteBias
  let s := (s.causesFollow.fmRun 512).causesFollow
  (s.checkRecovery).fmRun 512

/-- RECOVERY_TIMER_EXPIRY (R430). -/
def State.timerExpiry (s : State) : State := s.set F.FM.FM_STAT_TIMER 0

/-- FAULT_CAUSE_CLEARED (R430): the cause of an event, which the device's own state shows to have ended, is no longer active. -/
def State.causeCleared (s : State) (n : Nat) : State :=
  if lastingEvents.contains n && s.causeActive n && !s.causeNow n then s.set (activeBit n) 0 else s

/-! ### Commands (R20, R431) -/

/-- SAFE_HOLD. -/
def cmdSafeHold (s : State) : Reply :=
  s.guarded [s.badState (!(s.pw.st == .ready || s.pw.st == .scanning))] ((s.enterState .safeHold 1).done [])

/-- R431: FAULT_CLEAR is acceptable: recovery of the open episode is complete, or SAFE_HOLD was entered by command and no episode is open. -/
def State.clearable (s : State) : Bool :=
  if 2 ≤ s.get F.FM.FM_STAT_CLASS then s.flag F.FM.FM_STAT_RECOVERED else s.pw.holdByCmd

/-- FAULT_CLEAR (R431). -/
def cmdFaultClear (s : State) : Reply :=
  if s.pw.st = .safeHold ∧ !s.clearable then (s.inc F.FM.CLEAR_REFUSED).reply (.final 0x13 s.stateCode [])
  else s.guarded [s.badState (s.pw.st != .safeHold)]
    (let s := ((s.set F.FM.FM_STAT_CLASS 0).set F.FM.FM_STAT_RECOVERED 0).set F.FM.FM_STAT_TIMER 0
     let s := ({ s with fm := { s.fm with counted := 0 } } : State).inhibitOff (2 ^ 6)
     (s.enterState .ready 1).done [])

/-! ### Clocks (R12, R450) -/

/-- PLL_UNLOCK (R12): a PLL that ought to be locked loses lock. -/
def State.pllUnlock (s : State) (k : Nat) : State :=
  if s.bitAt F.SYS.CLK_STAT_LOCKED k then (s.setBitAt F.SYS.CLK_STAT_LOCKED k false).raise EV_PLL_UNLOCK k 0 else s

/-- PLL_LOCK (R450): a PLL that is wanted regains lock. -/
def State.pllLock (s : State) (k : Nat) : State :=
  if s.pllsWanted / 2 ^ k % 2 = 1 then s.setBitAt F.SYS.CLK_STAT_LOCKED k true else s

/-- CLOCK_MONITOR_COMPARE (R12): SAFE against COARSE in 0.01 %; the second comparison in a row above 3 % is the fault. -/
def State.clockCompare (s : State) (dev : Int) : State :=
  let s := s.setI F.SYS.CLK_MON_SAFE_DEV dev
  let bad := decide (300 < dev.natAbs)
  let twice := bad && s.pw.clkBad
  let s := s.when bad (fun s => s.inc F.SYS.CLK_MON_FAIL)
  let s : State := { s with pw := { s.pw with clkBad := bad } }
  s.when (twice && !s.causeActive EV_CLOCK_MONITOR) (fun s => s.raise EV_CLOCK_MONITOR 0 0)

/-- CLOCK_STOP_DETECT (R12): SAFE or COARSE has stopped for 10 µs. -/
def State.clockStop (s : State) (coarse : Bool) : State :=
  ({ s with pw := { s.pw with clkBad := true } } : State).raise EV_CLOCK_MONITOR 0 (if coarse then 2 else 1)

end Sys2Proof.Machine
end

