-- ==== Sys2Proof/Machine/Power.lean ====
section
/-! DEFINITION. Power, reset and boot (chapter 3): what each reset keeps, the boot ROM with its slots and image checks, the self-test, DORMANT, THERMAL_LATCH,
and the commands of range 0x0Fxx and FLASH_READ. -/

namespace Sys2Proof.Machine

/-! ### What a reset clears (Table 3-4) -/

/-- Words of the fault manager that a warm reset keeps: FL_COUNT and the first-fault latch. -/
def keptByWarm (a : Nat) : Bool := a == 0x7000008 || (decide (0x7000010 ≤ a) && decide (a < 0x7000024))

/-- R17, R68: everything outside domain 64 at its reset values. `keepLog`: the fault log and the first-fault latch stay. -/
def State.clearForReset (s : State) (keepLog : Bool) : State :=
  { State.reset with
    regs := spKeep (fun a => domainOf a == 64 || (keepLog && keptByWarm a)) s.regs
    flash := s.flash, otp := s.otp, out := s.out, free := s.free, pending := s.pending
    fm := ⟨[], if keepLog then s.fm.log else [], 0⟩
    pw := { State.reset.pw with
      st := s.pw.st, cause := s.pw.cause, latchFlag := s.pw.latchFlag, trialAttempt := s.pw.trialAttempt, romOnly := true, running := 0xFF } }

/-- Only the always-on domain, and with `core` domains 65 and 66, are on. -/
def State.domainsFixed (s : State) (core : Bool) : State :=
  ((s.set F.SYS.PWR_DOM_STAT0_ON 0).set F.SYS.PWR_DOM_STAT1_ON 0).set F.SYS.PWR_DOM_STAT2_ON (if core then 7 else 1)

/-- A boot begins: its kind, the CAUSE it ends with, and whether the rails are good already. -/
def State.startBoot (s : State) (kind : ResetKind) (causeAfter : Nat) (keepLog railsGood brownout : Bool) : State :=
  let strap := s.get F.SYS.BOOT_STATUS_STRAP
  let s := (s.clearForReset keepLog).domainsFixed true
  let s := s.wr F.SYS.BOOT_STATUS_STAGE.addr (BitVec.ofNat 32 (0x340 + 8 * strap))
  let s := ((s.wr F.SYS.CLK_STAT_LOCKED.addr 0).wr F.SYS.FW_VERSION_MAJOR.addr 0)
  { s with pw := { s.pw with
      st := .booting
      boot := { BootSt.none with
        phase := if railsGood then .rom else .rails, kind := kind, strap := BitVec.ofNat 2 strap,
        causeAfter := BitVec.ofNat 8 causeAfter, brownout := brownout } } }

/-! ### Reset sources (R61 to R65, R84, R85) -/

/-- VDD_AON_RISE (R61, R64): the cold boot begins; the rails are waited for. -/
def State.aonRise (s : State) : State :=
  if s.pw.st = .off then (({ s with regs := [] } : State).startBoot .cold 0 false false false) else s

/-- VDD_AON_LOSS (R63): all state is lost. -/
def State.aonLoss (s : State) : State :=
  if s.pw.st = .off then s
  else
    let s := (({ s with regs := [], pw := State.reset.pw } : State).clearForReset false).domainsFixed false
    let s := s.set (domBit 0x120 64) 0
    { s with pw := { s.pw with st := .off } }

/-- R62: the domain-64 record of a brown-out; a boot is under way until the rails are good again. -/
def State.railBrownout (s : State) (rail : Nat) : State :=
  if rail = 0 then s.aonLoss
  else if s.pw.st = .off ∨ s.pw.st = .dormant then s
  else
    let s := (s.set F.SYS.RST_CAUSE_BROWNOUT 1).set F.SYS.RST_CAUSE_RAIL rail
    s.startBoot .warm 0 (rail != 1) false true

/-- RAILS_GOOD (R61, R62, R71): every rail is good; the straps are sampled. -/
def State.railsGood (s : State) (bootSel : BitVec 2) : State :=
  if s.pw.st = .booting ∧ s.pw.boot.phase = .rails then
    ({ s with pw := { s.pw with boot := { s.pw.boot with phase := .rom, strap := bootSel } } } : State).set F.SYS.BOOT_STATUS_STRAP bootSel.toNat
  else s

/-- R65: the reset pin takes effect. -/
def State.pinReset (s : State) : State :=
  match s.pw.st with
  | .off => s
  | .thermalLatch => s.set F.SYS.RST_CAUSE_PIN_IGNORED 1
  | .dormant => (s.set F.SYS.RST_CAUSE_PIN 1).startBoot .warm 0 false false false
  | .booting =>
    (s.set F.SYS.RST_CAUSE_PIN 1).startBoot .warm 0 true (s.pw.boot.phase != .rails) s.pw.boot.brownout
  | _ => (s.set F.SYS.RST_CAUSE_PIN 1).startBoot .warm 0 true true false

/-- RESET_N_PULSE (R65): a low pulse of `ns`; between 200 ns and 1 µs the reset is left open. -/
def State.resetPulse (s : State) (ns : Nat) : State :=
  if ns < 200 then s
  else if 1000 ≤ ns then s.pinReset
  else
    let r := s.freeNat
    if r.1 % 2 = 1 then r.2.pinReset else r.2

/-- Firmware runs: the watchdog is armed (R84). -/
def State.firmwareRuns (s : State) : Bool :=
  match s.pw.st with
  | .off | .dormant => false
  | .booting => s.pw.boot.phase == .selfTest
  | _ => !s.pw.romOnly

/-- WATCHDOG_EXPIRY (R84): the expiry is logged and a warm reset starts. -/
def State.watchdogExpiry (s : State) : State :=
  if s.firmwareRuns then
    let s := ((s.inhibitOn (2 ^ 10)).safeLatch (2 ^ 10)).raise EV_WATCHDOG 0 0
    (s.calm.set F.SYS.RST_CAUSE_WATCHDOG 1).startBoot .warm 0 true true false
  else s

/-- R85: a wake: 0 WAKE_N, 1 SPI, 2 Ethernet. -/
def State.wake (s : State) (src : Nat) : State := (s.set F.SYS.RST_CAUSE_WAKE 1).startBoot .wake (3 + src) false false false

/-- WAKE_SOURCE (R85): the first source during the entry is latched; in DORMANT it wakes the device. -/
def State.wakeSource (s : State) (src : BitVec 2) : State :=
  if src = 3 then s
  else match s.pw.st with
  | .dormant => s.wake src.toNat
  | .dormantEntry => if s.pw.wakeLatched.isSome then s else { s with pw := { s.pw with wakeLatched := some src } }
  | _ => s

/-- REBOOT_START (R64): 1 ms after the reply of REBOOT. -/
def State.rebootStart (s : State) : State :=
  if s.pw.rebootPend then (s.set F.SYS.RST_CAUSE_FW_REQUEST 1).startBoot .warm 0 true true false else s

/-! ### Images (R74 to R77) -/

/-- The flash address of an image slot (Table 3-7). -/
def slotBase (slot : Nat) : Nat := if slot = 0 then 0x100000 else 0x800000

/-- `n` bytes from `off` of an image: a flash slot, or the staging buffer (2). -/
def State.imageRead (s : State) (slot off n : Nat) : List Byte :=
  if slot < 2 then s.flashRead (slotBase slot + off) n
  else (s.pw.staging.drop off).take n ++ zeros (n - (s.pw.staging.length - off))

/-- A section of the table: TYPE, COMP, the two zero bytes, OFFSET, STORED_LEN, LOADED_LEN. -/
structure Section where
  kind : Nat
  comp : Nat
  zero : Nat
  off : Nat
  stored : Nat
  loaded : Nat
  deriving DecidableEq, Repr

/-- Entry `i` of the section table. -/
def sectionAt (hdr : List Byte) (i : Nat) : Section :=
  let o := 64 + 16 * i
  ⟨u8 hdr o, u8 hdr (o + 1), u16 hdr (o + 2), u32 hdr (o + 4), u32 hdr (o + 8), u32 hdr (o + 12)⟩

/-- Table 3-9: the capacity of a section type in KiB. -/
def sectionCap (kind : Nat) : Nat := match kind with | 1 => 1024 | 2 => 512 | 3 => 64 | 4 => 32 | 5 => 256 | 6 => 128 | _ => 0

/-- R74, R75: whether entry `i` of a header stands, given IMAGE_LEN and SECTIONS. -/
def sectionOk (hdr : List Byte) (len n i : Nat) : Bool :=
  let x := sectionAt hdr i
  if n ≤ i then x == ⟨0, 0, 0, 0, 0, 0⟩
  else
    decide (1 ≤ x.kind ∧ x.kind ≤ 6 ∧ x.comp ≤ 1 ∧ x.zero = 0 ∧ x.off % 4 = 0 ∧ 256 ≤ x.off ∧ x.off + x.stored + 64 ≤ len ∧
      x.loaded ≤ 1024 * sectionCap x.kind ∧ (x.comp = 0 → x.stored = x.loaded)) &&
    (List.range i).all (fun j =>
      let y := sectionAt hdr j
      decide (y.kind ≠ x.kind ∧ (y.off + y.stored ≤ x.off ∨ x.off + x.stored ≤ y.off)))

/-- Step 1 of R76: the header of Table 3-8 and the section rules of R75; the DETAIL of IMAGE_FORMAT where it fails. -/
def headerFault (hdr : List Byte) : Option Nat :=
  let len := u32 hdr 8
  let n := u8 hdr 37
  if u32 hdr 0 ≠ 0x42584657 ∨ u16 hdr 4 ≠ 1 ∨ u16 hdr 6 ≠ 256 ∨ len % 4 ≠ 0 ∨ len < 576 ∨ 7340032 < len ∨ 64 < u32 hdr 16 ∨ 3 < u8 hdr 36 ∨
      n = 0 ∨ 12 < n ∨ notZero hdr 38 26 then some 255
  else match (List.range 12).find? (fun i => !sectionOk hdr len n i) with
    | some i => some i
    | none => if (List.range n).any (fun i => (sectionAt hdr i).kind == 1) then none else some 255

/-- Step 5 of R76 and R77: the first section that does not inflate to its LOADED_LEN: code and section. -/
def State.sectionFault (s : State) (slot : Nat) (hdr : List Byte) : Option (Nat × Nat) :=
  (List.range (u8 hdr 37)).findSome? (fun i =>
    let x := sectionAt hdr i
    if x.comp = 0 then none
    else
      let r := inflate (s.imageRead slot x.off x.stored) x.loaded 0 false
      if r.code ≠ 0 then some (r.code, i) else if r.len ≠ x.loaded then some (0x9A, i) else none)

/-- R76, R77: what refuses the image of a slot: code and DETAIL of Table 3-5 or 10-16. -/
def State.imageFault (s : State) (slot : Nat) : Option (Nat × Nat) :=
  let hdr := s.imageRead slot 0 256
  let len := u32 hdr 8
  let key := u8 hdr 36
  let mask := u32 hdr 24
  match headerFault hdr with
  | some d => some (0x9A, d)
  | none =>
    if u32 hdr 20 &&& mask ≠ (s.rd 0).toNat &&& mask then some (0x9A, 255)
    else if s.otp.revoked.toNat / 2 ^ key % 2 = 1 then some (0x99, key)
    else if u32 hdr 16 < s.otp.secCounter then some (0x9B, 0)
    else match s.sectionFault slot hdr with
      | some f => some f
      | none =>
        if ecdsaOk (s.otp.keys.getD key []) (sha256 (s.imageRead slot 0 (len - 64))) (s.imageRead slot (len - 64) 64) then none
        else some (0x99, key)

/-! ### Boot control records (R73) -/

/-- A boot control record: sequence, active slot, TRIAL; none where its magic or CRC does not match. -/
def State.bootRec (s : State) (copy : Nat) : Option (Nat × Nat × Bool) :=
  let b := s.flashRead (0x1000 * copy) 16
  if u32 b 0 = 0x42435452 ∧ u32 b 12 = crc32c (b.take 12) then some (u32 b 4, if u8 b 8 = 0 then 0 else 1, u8 b 9 == 1) else none

/-- R73: the record in force and the copy that holds it. -/
def State.bootRecord (s : State) : Option (Nat × Nat × Nat × Bool) :=
  match s.bootRec 0, s.bootRec 1 with
  | some a, some b => if a.1 < b.1 then some (1, b) else some (0, a)
  | some a, none => some (0, a)
  | none, some b => some (1, b)
  | none, none => none

/-- R73: a record is written into the copy that does not hold the one in force; the rest of its sector is erased. -/
def State.writeBootRecord (s : State) (slot : Nat) (trial : Bool) : State :=
  let now := s.bootRecord
  let seq := match now with | some r => r.2.1 + 1 | none => 1
  let copy := match now with | some r => 1 - r.1 | none => 0
  let b := beBytes 4 0x42435452 ++ beBytes 4 seq ++ beBytes 1 slot ++ beBytes 1 (bit trial) ++ zeros 2
  (s.flashErase (0x1000 * copy) 0x1000).flashWrite (0x1000 * copy) (b ++ beBytes 4 (crc32c b))

/-! ### The boot ROM (R69, R71, R73, R79, R86) -/

/-- The ROM serves commands in a power state, no firmware running. -/
def State.romState (s : State) (st : PowerState) (cause : Nat) (phase : BootPhase) : State :=
  let s := s.set F.SYS.BOOT_STATUS_ROM_ONLY 1
  let s : State := { s with pw := { s.pw with
    st := st, cause := BitVec.ofNat 8 cause, romOnly := true, running := 0xFF, boot := { s.pw.boot with phase := phase, brownout := false } } }
  let s := s.newNonce
  s.raise EV_STATE_CHANGE 0 (256 * cause + stateCodeOf st)

/-- R83: a boot after a brown-out also raises EV_BROWNOUT. -/
def State.noteBrownout (s : State) : State := s.when s.pw.boot.brownout (fun s => s.raise EV_BROWNOUT 0 (s.get F.SYS.RST_CAUSE_RAIL))

/-- R79: the ROM waits for a download, the histogram SRAM of all slices as its staging buffer. -/
def State.awaitDownload (s : State) : State := (s.each (List.range 64) State.domainOn).romState .safeHold 8 .download

/-- R71: no slot verifies. -/
def State.bootFailure (s : State) : State :=
  let s := s.noteBrownout
  let s := (s.set F.SYS.BOOT_STATUS_STAGE 7).raise EV_BOOT_FAILURE 0 (s.get F.SYS.BOOT_STATUS_CODE)
  if s.pw.boot.strap = 2 then s.awaitDownload else s.romState .safeHold 8 .failed

/-- R73: a slot is checked next; a trial slot is noted as attempted. -/
def State.trySlot (s : State) (slot : Nat) (rest : List Nat) : State :=
  let trial := s.pw.boot.trial == some slot
  ({ s with pw := { s.pw with
      trialAttempt := s.pw.trialAttempt || trial, boot := { s.pw.boot with phase := .verify, slot := slot, order := rest } } } : State).set F.SYS.BOOT_STATUS_STAGE 2

/-- BOOT_ROM_START (R71, R73, R86): PLL B is locked and the boot ROM runs. -/
def State.bootRom (s : State) : State :=
  if s.pw.st = .booting ∧ s.pw.boot.phase = .rom then
    let s := ((s.set F.SYS.CLK_STAT_XTAL_OK 1).setBitAt F.SYS.CLK_STAT_LOCKED 1 true).set F.SYS.BOOT_STATUS_STAGE 1
    if s.pw.latchFlag then ((s.set F.SYS.RST_CAUSE_THERMAL 1).noteBrownout).romState .thermalLatch s.pw.cause.toNat .failed
    else if s.pw.boot.strap = 1 then s.noteBrownout.awaitDownload
    else
      let r := s.bootRecord
      let active := match r with | some x => x.2.2.1 | none => 0
      let trial := match r with | some x => x.2.2.2 | none => false
      let first := if trial && s.pw.trialAttempt && s.pw.boot.kind == .warm then 1 - active else active
      let b := { s.pw.boot with
        trial := if trial then some active else none, first := first, recSeq := r.map (fun x => x.2.1), recCopy := match r with | some x => x.1 | none => 0 }
      ({ s with pw := { s.pw with boot := b } } : State).trySlot first [1 - first]
  else s

/-- R76: a slot passes: the firmware is released. -/
def State.releaseFirmware (s : State) (slot : Nat) : State :=
  let hdr := s.imageRead slot 0 256
  let s := s.each (List.range 64) State.domainOff
  let s := ((s.set F.SYS.BOOT_STATUS_SLOT slot).set F.SYS.BOOT_STATUS_SOURCE (bit (slot == 2))).set F.SYS.BOOT_STATUS_ROM_ONLY 0
  let s := (s.setFlag F.SYS.BOOT_STATUS_FALLBACK (slot != 2 && slot != s.pw.boot.first)).set F.SYS.BOOT_STATUS_STAGE 5
  let s := (s.wr F.SYS.FW_VERSION_MAJOR.addr (BitVec.ofNat 32 (u32 hdr 12))).monNonce
  { s with pw := { s.pw with
      st := .booting, romOnly := false, running := BitVec.ofNat 8 slot, fw := none, boot := { s.pw.boot with phase := .selfTest, group := 0, slot := slot } } }

/-- IMAGE_VERIFY_DONE (R76): the check of a slot ends. -/
def State.verifyDone (s : State) (flashError : Bool) : State :=
  if s.pw.boot.phase = .verify then
    let slot := s.pw.boot.slot
    let fault := if flashError && slot != 2 then some (0x9C, 0) else s.imageFault slot
    match fault with
    | none => s.releaseFirmware slot
    | some f =>
      let s := (s.set F.SYS.BOOT_STATUS_CODE f.1).set F.SYS.BOOT_STATUS_DETAIL f.2
      if slot = 2 then { s with pw := { s.pw with boot := { s.pw.boot with phase := .download } } }
      else match s.pw.boot.order with
        | n :: rest => s.trySlot n rest
        | [] => s.bootFailure
  else s

/-! ### Self-test and READY (R82, R83) -/

/-- R82: the domains in the order of their groups. -/
def domainOrder : List Nat := (List.range 13).map (fun i => 67 + i) ++ List.range 64

/-- DOMAIN_GROUP_SWITCH_ON (R82): the next ten domains, where they are requested. -/
def State.domainGroup (s : State) : State :=
  if s.pw.st = .booting ∧ s.pw.boot.phase = .selfTest ∧ s.pw.boot.group < 8 then
    let g := s.pw.boot.group
    let s := s.each (((domainOrder.drop (10 * g)).take 10).filter s.domReq) State.domainOn
    { s with pw := { s.pw with boot := { s.pw.boot with group := g + 1 } } }
  else s

/-- R73, R78: what the firmware writes on reaching READY: the record, and the security counter of an image that is not on trial. -/
def State.firmwareReady (s : State) : State :=
  let b := s.pw.boot
  let sec := u32 (s.imageRead b.slot 0 256) 16
  let onTrial := b.trial == some b.slot
  let s := s.when (decide (b.slot < 2) && (b.trial.isSome || b.recSeq.isNone)) (fun s => s.writeBootRecord b.slot false)
  let s := if b.slot < 2 ∧ !onTrial then { s with otp := { s.otp with secCounter := max s.otp.secCounter sec } } else s
  { s with pw := { s.pw with trialAttempt := false } }

/-- R82: the slices and regions that failed; 8 isolated slices fence a region. -/
def State.postArray (s : State) (sliceFail : BitVec 128) (regionFail : BitVec 4) : State :=
  let bad := (List.range 128).filter (fun i => s.domOn (i / 2) && sliceFail.toNat / 2 ^ i % 2 == 1)
  let s := s.each bad (fun s i => s.isolate i true)
  let s := s.setFlag F.SYS.POST_RESULT_SLICE (!bad.isEmpty)
  let s := s.each ((List.range 4).filter (fun g => s.domOn (70 + g) && regionFail.toNat / 2 ^ g % 2 == 1)) State.fence
  s.setFlag F.SYS.POST_RESULT_REGION ((List.range 4).any s.fenced)

/-- The bits of POST_RESULT whose failure is SAFE_HOLD (Table 3-11). -/
def postHold : Nat := 0x17C

/-- R82: POST_RESULT from the tests of the domains that are on, and from the flash copies of the calibration record and the safety configuration. -/
def State.postBits (s : State) (fail : BitVec 10) : State :=
  let on := fun (i p : Nat) => s.domOn p && fail.toNat / 2 ^ i % 2 == 1
  let cal := s.calChoose.1.length
  let s := ((s.setFlag F.SYS.POST_RESULT_REFTDC (on 2 69)).setFlag F.SYS.POST_RESULT_LOOP (on 3 67)).setFlag F.SYS.POST_RESULT_LIMITER (on 4 68)
  let s := (s.setFlag F.SYS.POST_RESULT_MEMORY (on 5 79)).setFlag F.SYS.POST_RESULT_SAFETY_REGION (on 6 65)
  let s := (s.setFlag F.SYS.POST_RESULT_CAL_COPY (cal == 1)).setFlag F.SYS.POST_RESULT_CAL (cal == 0)
  s.setFlag F.SYS.POST_RESULT_SAFETY_CONFIG s.safeChoose.1.isEmpty

/-- R405, R454: the firmware loads the calibration record in force. -/
def State.loadCal (s : State) (p : Nat → Bool) : State :=
  match s.calChoose.2 with
  | some i => ({ s with cal := { s.cal with copy := i } } : State).calLoad p
  | none => s

/-- POWER_ON_SELF_TEST_DONE (R82, R83): the device reaches READY, or SAFE_HOLD. -/
def State.selfTestDone (s : State) (sliceFail : BitVec 128) (regionFail : BitVec 4) (fail : BitVec 10) (bootUs : Nat) : State :=
  if s.pw.st = .booting ∧ s.pw.boot.phase = .selfTest ∧ s.pw.boot.group = 8 then
    let s := (s.postArray sliceFail regionFail).postBits fail
    let post := (s.rd F.SYS.POST_RESULT_CAL.addr).toNat
    let s := (s.loadCal s.domOn).newNonce.noteBrownout
    let s := s.set F.SYS.BOOT_STATUS_STAGE 6
    if post &&& postHold ≠ 0 then
      let s : State := { s with pw := { s.pw with st := .safeHold, cause := 2, boot := { s.pw.boot with phase := .idle } } }
      (s.raise EV_STATE_CHANGE 0 0x203).raise EV_POST_FAILURE 0 post
    else
      let c := s.pw.boot.causeAfter
      let s := s.firmwareReady.set F.SYS.BOOT_TIME_TIME bootUs
      let s : State := { s with pw := { s.pw with st := .ready, cause := c, boot := { s.pw.boot with phase := .idle } } }
      (s.raise EV_BOOT_COMPLETE 0 (min 65535 (bootUs / 1000))).raise EV_STATE_CHANGE 0 (256 * c.toNat + 1)
  else s

/-! ### DORMANT (R37) -/

/-- DORMANT: READY only; the entry follows the reply. -/
def cmdDormant (via : Port) (s : State) : Reply :=
  s.guarded [s.badState (s.pw.st != .ready)] ⟨.final 0 0 [], s, fun t => { t with pw := { t.pw with dormPend := some via } }⟩

/-- DORMANT_ENTRY_BEGIN (R37): the reply has been read or handed over, or 100 ms have passed; what is queued is discarded, and every command ends without a packet (R32). -/
def State.dormantBegin (s : State) : State :=
  if s.pw.st = .ready ∧ s.pw.dormPend.isSome = true then
    let s := s.abandonScan.closeCommissioning.monClose
    { s with
      pw := { s.pw with st := .dormantEntry, cause := 1, dormPend := none, wakeLatched := none, rebootPend := false }
      cmd := { s.cmd with outq := [], held := [], resend := [], running := [], deferred := [] } }
  else s

/-- DORMANT_ENTRY_COMPLETE (R22, R85): only domain 64 is on; a latched wake acts at once. -/
def State.dormantEnd (s : State) : State :=
  if s.pw.st = .dormantEntry then
    let w := s.pw.wakeLatched
    let s := (s.clearForReset false).domainsFixed false
    let s : State := { s with pw := { s.pw with st := .dormant } }
    match w with
    | some src => s.wake src.toNat
    | none => s
  else s

/-! ### THERMAL_LATCH (R395, R396) -/

/-- THERMAL_EVALUATION (R390, R395): the governor evaluates; two evaluations at SHUT end in THERMAL_LATCH. -/
def State.thermalRound (s : State) : State :=
  let r := s.thermalEval
  if r.1 && s.pw.st != .thermalLatch then r.2.enterState .thermalLatch 6 else r.2

/-- ANALOGUE_THERMAL_TRIP (R396): from any state but OFF. Where no firmware has come up, the ROM finds the flag (R86). -/
def State.analogueTrip (s : State) : State :=
  match s.pw.st with
  | .off => s
  | .ready | .scanning | .safeHold =>
    if s.pw.romOnly then
      ((({ s with pw := { s.pw with latchFlag := true } } : State).inhibitOn (2 ^ 8)).each switchedDomains State.domainOff).romState .thermalLatch 7 .failed
    else s.enterState .thermalLatch 7
  | .thermalLatch => s
  | .booting | .dormant | .dormantEntry =>
    let s := ((({ s with pw := { s.pw with latchFlag := true } } : State).set F.SYS.RST_CAUSE_THERMAL 1).clearForReset (s.pw.st == .booting)).domainsFixed true
    s.romState .thermalLatch 7 .failed

/-! ### Domains on request (R17, R18, R454) -/

/-- R18: whether a write of PWR_DOM_REQ word `i` is refused. -/
def State.domReqRefused (s : State) (i : Nat) (v : Word) : Bool :=
  let busy := s.pw.st == .scanning || s.scan.phase == .settling || s.scan.phase == .fixed
  let old := (s.rd (0x110 + 4 * i)).toNat
  let clears := old &&& (2 ^ 32 - 1 - v.toNat)
  let sets := v.toNat &&& (2 ^ 32 - 1 - old)
  busy && (if i < 2 then clears != 0 || sets != 0 else clears &&& 0x87F8 != 0)

/-- PWR_DOM_REQ_WRITE (R17): domains no longer requested go off. -/
def State.wrDomReq (s : State) (a : Nat) (v : Word) : State :=
  let i := (a - 0x110) / 4
  let s := s.hostWrite a v
  let off := (List.range 32).filter (fun k => decide (32 * i + k < 80) && !s.domReq (32 * i + k))
  s.each (off.map (fun k => 32 * i + k)) State.domainOff

/-- Table 1-12: whether the state lets a requested domain be on. -/
def State.domainMay (s : State) (p : Nat) : Bool :=
  s.domReq p && (s.pw.st == .ready || s.pw.st == .scanning || s.pw.st == .safeHold) && !s.pw.romOnly

/-- DOMAIN_READY (R17): 50 µs after its request a domain is on and ready. -/
def State.domainReady (s : State) (p : Nat) : State :=
  if s.domainMay p && !s.domOn p then
    let s := s.domainOn p
    if reloads p then { s with pw := { s.pw with reload := s.pw.reload ++ [p] } } else s
  else s

/-- CAL_FIELD_RELOAD (R454): the firmware reloads the "cal" fields of a domain switched on after READY. -/
def State.calReload (s : State) (p : Nat) : State :=
  if s.pw.reload.contains p then
    ({ s with pw := { s.pw with reload := s.pw.reload.filter (fun q => q != p) } } : State).calLoad (fun q => q == p)
  else s

/-! ### Firmware update (R70, R79 to R81) and FLASH_READ -/

/-- The ROM waits for a download: slot 0 stands for the staging buffer. -/
def State.downloading (s : State) : Bool := s.pw.boot.phase == .download || (s.pw.boot.phase == .verify && s.pw.boot.slot == 2)

/-- FW_BEGIN (R79, R80). -/
def cmdFwBegin (s : State) (p : List Byte) : Reply :=
  let slot := u8 p 0
  let len := u32 p 4
  let dl := s.downloading
  s.guarded [s.badState (!(s.pw.st == .ready || s.pw.st == .safeHold)), s.badState (!dl && !s.pw.romOnly && decide (slot < 2) && s.pw.running.toNat == slot),
      badParam (decide (1 < slot) || (dl && slot != 0) || notZero p 1 3) 0, badParam (decide (len % 4 ≠ 0 ∨ len < 576 ∨ 7340032 < len)) 1]
    (let target := if dl then 2 else slot
     ({ s with pw := { s.pw with
         fw := some ⟨target, len, 0, dl, false⟩, staging := if dl then [] else s.pw.staging
         verified0 := s.pw.verified0 && target == 1, verified1 := s.pw.verified1 && target == 0 } } : State).done [])

/-- FLASH_ERASE_COMPLETE (R80): IMAGE_LEN rounded up to 64 KiB is erased. -/
def State.eraseComplete (s : State) : State :=
  match s.pw.fw with
  | some f =>
    if f.erased then s
    else ({ s with pw := { s.pw with fw := some { f with erased := true } } } : State).flashErase (slotBase f.slot) ((f.len + 65535) / 65536 * 65536)
  | none => s

/-- FW_WRITE (R80). -/
def cmdFwWrite (s : State) (p : List Byte) : Reply :=
  let off := u32 p 0
  let n := u16 p 4
  match s.pw.fw with
  | none => s.guarded [s.badState true] (s.done [])
  | some f =>
    s.guarded [badParam (off != f.written) 0, badParam (decide (n < 4 ∨ 1024 < n ∨ n % 4 ≠ 0 ∨ f.len < off + n) || notZero p 6 2) 1]
      (if !f.erased then s.reply .busy
       else
        let data := (p.drop 8).take n
        let s : State := { s with pw := { s.pw with
          fw := some { f with written := f.written + n, verified := false }, staging := if f.slot = 2 then s.pw.staging ++ data else s.pw.staging
          verified0 := s.pw.verified0 && f.slot != 0, verified1 := s.pw.verified1 && f.slot != 1 } }
        (s.when (decide (f.slot < 2)) (fun s => s.flashWrite (slotBase f.slot + off) data)).done [])

/-- FW_VERIFY (R80): after FW_BEGIN. -/
def cmdFwVerify (s : State) : Reply :=
  s.guarded [s.badState s.pw.fw.isNone] (s.accept 0x0F03 s)

/-- FW_VERIFY_COMPLETE (R80): the written slot has been checked, its output discarded. -/
def State.fwVerifyComplete (s : State) (flashError : Bool) : State :=
  match s.pw.fw with
  | some f =>
    if s.isRunning 0x0F03 then
      let fault := if flashError && f.slot != 2 then some (0x9C, 0) else s.imageFault f.slot
      let ok := fault.isNone
      let s : State := { s with pw := { s.pw with
        fw := some { f with verified := ok }
        verified0 := if f.slot = 0 then ok else s.pw.verified0, verified1 := if f.slot = 1 then ok else s.pw.verified1 } }
      let r := fault.getD (0, 0)
      s.complete 0x0F03 r.1 r.2 []
    else s
  | none => s

/-- FW_ACTIVATE (R70, R79, R80): the slot must have passed FW_VERIFY; it is checked once more, and a record names it with TRIAL 1; the staging buffer boots. -/
def cmdFwActivate (s : State) (p : List Byte) : Reply :=
  let slot := u8 p 0
  let dl := s.downloading
  let passed := if dl then s.pw.fw.any (fun f => f.slot == 2 && f.verified) else if slot = 0 then s.pw.verified0 else s.pw.verified1
  s.guarded [s.badState (decide (slot < 2) && !(dl && slot == 1) && !passed), badParam (decide (1 < slot) || (dl && slot != 0) || notZero p 1 3) 0]
    (if dl then ⟨.final 0 0 [], s, fun t => { t with pw := { t.pw with boot := { t.pw.boot with phase := .verify, slot := 2, order := [] } } }⟩
     else match s.imageFault slot with
      | some f => s.reply (.final f.1 f.2 [])
      | none => (s.writeBootRecord slot true).done [])

/-- Table 3-10: the entry of a slot. A slot whose header does not stand is invalid; one that passed FW_VERIFY or that runs is verified. -/
def State.slotEntry (s : State) (slot : Nat) : List Byte :=
  let hdr := s.imageRead slot 0 256
  let empty := u32 hdr 0 == 0xFFFFFFFF
  let ok := (if slot = 0 then s.pw.verified0 else s.pw.verified1) || s.pw.running.toNat == slot
  let st := if empty then 0 else if ok then 2 else if (headerFault hdr).isSome then 3 else 1
  let trial := match s.bootRecord with | some r => r.2.2.1 == slot && r.2.2.2 | none => false
  beBytes 1 st ++ beBytes 1 (bit trial) ++ zeros 2 ++ (if empty then zeros 20 else beBytes 4 (u32 hdr 12) ++ beBytes 4 (u32 hdr 16) ++ beBytes 4 (u32 hdr 8) ++ (hdr.drop 28).take 8)

/-- FW_INFO (Table 3-10). -/
def cmdFwInfo (s : State) : Reply :=
  s.done ([s.pw.running] ++ beBytes 1 (s.get F.SYS.BOOT_STATUS_SOURCE) ++ zeros 2 ++ beBytes 4 s.otp.secCounter ++ s.slotEntry 0 ++ s.slotEntry 1 ++ zeros 8)

/-- REBOOT (R64): a warm reset follows 1 ms after the reply. -/
def cmdReboot (s : State) : Reply := ⟨.final 0 0 [], s, fun t => { t with pw := { t.pw with rebootPend := true } }⟩

/-- FLASH_READ (R48, R360): a range that meets the safety configuration is locked; one that leaves the 16 MiB is out of range. -/
def cmdFlashRead (s : State) (p : List Byte) : Reply :=
  let a := u32 p 0
  let n := u16 p 4
  s.guarded [(decide (a < 0xF40000 ∧ 0xF20000 < a + n), 0x14, 1), badParam (decide (0x1000000 < a + n)) 0,
      badParam (decide (n = 0 ∨ 1024 < n) || notZero p 6 2) 1]
    (s.done (s.flashRead a n))

end Sys2Proof.Machine
end

