-- ==== Sys2Proof/Machine/Sync.lean ====
section
/-! DEFINITION. The SYNC pin (R319 to R322): its role, the follower's counting and alignment, and FILTER_SYNC. -/

namespace Sys2Proof.Machine

/-- SYNC_CONFIG (R319). -/
def cmdSyncConfig (s : State) (p : List Byte) : Reply :=
  s.guarded [s.badState (s.pw.st != .ready), badParam (decide (2 < u8 p 0) || notZero p 1 3) 0]
    (let s := (s.set F.SYN.SYNC_CTRL_ROLE (u8 p 0)).set F.SYN.SLOT_OFFSET (u32 p 4)
     ({ s with sync := { s.sync with near := 0 } } : State).set F.SYN.SYNC_STAT_LOCKED 0 |>.done [])

/-- R320: a SYNC edge: the decimators restart, and FILTER_SYNC completes. -/
def State.syncEdge (s : State) : State :=
  if s.get F.SYN.SYNC_CTRL_ROLE = 0 then s else s.hkSyncEdge.complete 0x0802 0 0 []

/-- FILTER_SYNC (R320): in role 0 the decimators restart at once; a driver sends a FILTER pulse, in place of the next COLUMN pulse while SCANNING. -/
def cmdFilterSync (s : State) : Reply :=
  match s.get F.SYN.SYNC_CTRL_ROLE with
  | 0 => if s.rangeBusy 0x0802 then s.reply .busy else ⟨.accepted 0, s, fun t => t.hkSyncEdge.complete 0x0802 0 0 []⟩
  | 1 => s.accept 0x0802 (if s.scan.phase = .running then { s with sync := { s.sync with filter := true } } else s.emit (.syncPulse 2))
  | _ => s.accept 0x0802 s

/-- FILTER_SYNC_TIMEOUT (R320): no SYNC edge within 1 s. -/
def State.filterTimeout (s : State) : State :=
  ({ s with sync := { s.sync with filter := false } } : State).complete 0x0802 0x7A 0 []

/-- Table 13-13: the class of a pulse by its width in ns: 0 COLUMN, 1 FRAME, 2 FILTER. A width on the bound of two ranges is the shorter class. -/
def pulseClass (width : Nat) : Option Nat :=
  if 50 ≤ width ∧ width ≤ 150 then some 0
  else if 150 < width ∧ width ≤ 300 then some 1
  else if 300 < width ∧ width ≤ 600 then some 2
  else none

/-- The slot offset in fine LSB: 1 ns is 12 of them. -/
def State.slotOffset (s : State) : Int := 12 * (s.get F.SYN.SLOT_OFFSET : Int)

/-- R322: while a follower waits for column 0 it counts the pulses after a FRAME pulse; the last before the next frame start makes the boundary ready, or drops it
where the interval to the edge before differs from C by more than 1 %. -/
def State.followWait (s : State) (cls gap : Nat) : State :=
  if !(s.scan.approachDone && s.allSettled) then s
  else
    let put := fun (n : Option Nat) => ({ s with sync := { s.sync with count := n } } : State)
    if cls = 1 then put (some 0)
    else match s.sync.count with
      | none => s
      | some n =>
        if n + 1 < profCols s.scan.named - 1 then put (some (n + 1))
        else
          let c := profC s.scan.named
          if c < 100 * ((256 * gap - c) + (c - 256 * gap)) then (put none).settleFail 0x7B 0
          else { s with sync := { s.sync with count := some (n + 1), ready := true } }

/-- R321: the rounding of e / 2 + f, f in 1/16 fine LSB, halves up. -/
def adjRound (e f : Int) : Int := (8 * e + f + 8) / 16

/-- R321: a pulse is paired with the follower's nearest boundary, whose error is `e`; the duration of the column that begins there follows. -/
def State.followAlign (s : State) (cls : Nat) (e : Int) : State :=
  let m : Int := s.get F.SYN.SYNC_TUNE_ADJ_MAX
  let f := clampI (s.getI F.SYN.FREQ_F + e) (-16 * m) (16 * m)
  let adj := clampI (adjRound e f) (-m) m
  let ahead := decide (0 < (s.get F.SYN.SYNC_TUNE_SYNC_DELAY : Int) + s.slotOffset + e)
  let c := if s.scan.phase = .fixed then 0 else if ahead then s.scan.column + 1 else s.scan.column
  let near := if e.natAbs ≤ 4 then s.sync.near + 1 else 0
  let s : State := { s with sync := { s.sync with near := near, shifts := (c + 1, s.columnShift (c + 1) - adj) :: s.sync.shifts } }
  let s := (s.setI F.SYN.ERR_E e).setI F.SYN.FREQ_F f
  let s := if near = 0 then s.set F.SYN.SYNC_STAT_LOCKED 0 else s.when (decide (64 ≤ near)) (fun s => s.set F.SYN.SYNC_STAT_LOCKED 1)
  let s := s.publish F.SYN.SYNC_RES_ST
  if cls = 1 ∧ c % s.nCol ≠ 0 then (s.set F.SYN.SYNC_STAT_FRAME_ERR 1).raise EV_SYNC_MISMATCH 0 0 else s

/-- SYNC_PULSE_RX (R319, R321, R322): `width` in ns, `e` the error of the boundary paired with it and `gap` the time since the edge before, in fine LSB. -/
def State.syncPulse (s : State) (width : Nat) (e : Int) (gap : Nat) : State :=
  if s.get F.SYN.SYNC_CTRL_ROLE ≠ 2 then s
  else match pulseClass width with
    | none => s.inc F.SYN.PULSES_BAD
    | some cls =>
      let s := s.inc (match cls with | 0 => F.SYN.PULSES_COLUMN | 1 => F.SYN.PULSES_FRAME | _ => F.SYN.PULSES_FILTER)
      let s := s.set F.SYN.SYNC_STAT_SEEN 1
      match s.scan.phase with
      | .settling => s.followWait cls gap
      | .fixed | .running => s.followAlign cls e
      | .idle => s

/-- SYNC_LOST (R321): no pulse for 3 column durations. -/
def State.syncLost (s : State) : State :=
  if s.get F.SYN.SYNC_CTRL_ROLE ≠ 2 then s
  else
    let fresh := s.flag F.SYN.SYNC_STAT_SEEN || !s.flag F.SYN.SYNC_STAT_LOST
    let s := s.set F.SYN.SYNC_STAT_SEEN 0
    if s.scan.phase = .running ∧ fresh = true then
      let s := ({ s with sync := { s.sync with near := 0 } } : State).set F.SYN.SYNC_STAT_LOCKED 0
      (s.set F.SYN.SYNC_STAT_LOST 1).raise EV_SYNC_LOST 0 0
    else s

/-- SYNC_ABSENT_TIMEOUT (R322): no FRAME pulse within 500 ms of settling, or the pulses have stopped. -/
def State.syncAbsent (s : State) : State :=
  if s.get F.SYN.SYNC_CTRL_ROLE = 2 ∧ s.scan.phase = .settling ∧ (s.sync.count.isSome || (s.scan.approachDone && s.allSettled)) = true then
    s.settleFail 0x7A 0
  else s

end Sys2Proof.Machine
end

