-- ==== Sys2Proof/Machine/RegAccess.lean ====
section
/-! DEFINITION. Register access (R52 to R54, R447, R448, R453): what each word shows, what a host write does in each block, and REG_READ, REG_WRITE and REG_RMW. -/

namespace Sys2Proof.Machine

/-! ### The engine's budget (R117) -/

/-- Results per second of a housekeeping slot: F_INT in 0.1 Hz over a round of 16 slots. -/
def State.hkRate (s : State) : Rat := mkRat (s.get F.HK.HK_CFG_F_INT) 160

/-- Table 16-8: words per second of a preset. -/
def tiaRate (p : Nat) : Rat := if p = 0 then 187500 else if p = 1 then 46875 else if p = 2 then mkRat 5859375 1000 else mkRat 732421875 1000000

/-- Samples per second of a loop that the tick or a result paces (Table 5-1). -/
def State.pacedRate (s : State) (n : Nat) : Rat :=
  let tick := mkRat 2000000 (max 1 (s.get (F.LOOP.LOOP_RATE_DIV n)))
  if n = 1 ∨ n = 3 then tick
  else if n = 4 ∨ n = 7 then s.hkRate
  else match s.get (F.LOOP.LOOP_RATE_SRC n) with
    | 0 => tick
    | 2 => s.hkRate
    | 3 => tiaRate (s.get (F.TIA.TIA_CFG_PRESET (s.get (F.LOOP.LOOP_RATE_TIA n))))
    | _ => 0

/-- Samples per second at a loop's configured rate. -/
def State.loopRate (s : State) (n : Nat) : Rat :=
  if n = 0 then s.pacedRate 1 / (s.cascN 0 : Nat)
  else if n = 2 then s.pacedRate 3 / (s.cascN 2 : Nat)
  else if n = 5 ∧ s.get (F.LOOP.LOOP_RATE_SRC 5) = 1 then s.pacedRate 6 / (s.cascN 5 : Nat)
  else s.pacedRate n

/-- The configured total of the eight loops. -/
def State.engineRate (s : State) : Rat := (List.range 8).foldl (fun r n => r + s.loopRate n) 0

/-- LOOP_RATE_WRITE (R117): a write made while the loop is not OFF, or that exceeds the budget, is discarded. -/
def State.wrLoopRate (s : State) (n : Nat) (v : Word) : State :=
  let t := s.hostWrite (F.LOOP.LOOP_RATE_DIV n).addr v
  if s.mode n ≠ 0 ∨ 500000 < t.engineRate then s.set F.STEER.ENG_STAT_RATE_ERR 1 else t

/-! ### What a word shows -/

/-- A word with a field shown as `x`. -/
def showAs (w : Nat) (f : Fld) (x : Nat) : Nat := withBits w f.lo f.wd x

/-- The identity and power block (Tables 1-8 and 20-2). -/
def State.viewSys (s : State) (a w : Nat) : Nat :=
  if a = 0x08 then s.otp.unitId.toNat % 2 ^ 32
  else if a = 0x0C then s.otp.unitId.toNat / 2 ^ 32
  else if a = 0x1C then s.otp.revoked.toNat * 256 + s.otp.secCounter % 128
  else if a = 0x100 then s.pw.cause.toNat * 256 + s.stateCode
  else w

/-- The string and bank blocks (Tables 4-8 and 4-9). -/
def State.viewEmitter (s : State) (a w : Nat) : Nat :=
  if a < 0x22000 then
    let n := (a - 0x20000) / 0x100
    if a % 0x100 = 0x10 then showAs w (F.STR.STR_STAT_LIVE n) (bit (s.live n)) else w
  else if 0x24000 ≤ a ∧ a < 0x24400 ∧ a % 0x80 = 0x04 then
    let b := (a - 0x24000) / 0x80
    showAs (showAs (showAs w (F.BNK.BANK_STAT_LIVE b) (s.liveMask b)) (F.BNK.BANK_STAT_PENDING b) (bit ((s.bank b).claimed != 0)))
      (F.BNK.BANK_STAT_STOPPED b) (bit (s.bankStopped b))
  else w

/-- A region block: SCALE is region A's (R221), and KSUM is computed (Table 9-11). -/
def State.viewRegion (s : State) (a w : Nat) : Nat :=
  let g := (a - 0x50000) / 0x4000
  let o := (a - 0x50000) % 0x4000
  if o = 0x40 then (s.rd 0x50040).toNat
  else if 0x100 ≤ o ∧ o < 0x180 ∧ o % 0x20 = 0x14 then s.kernelSum g ((o - 0x100) / 0x20)
  else w

/-- A slice block (Tables 6-7 and 8-9). -/
def State.viewSlice (s : State) (a w : Nat) : Nat :=
  let i := (a - 0x1000000) / 0x10000
  let o := a % 0x10000
  if o = 0x10 then min 3 (((s.slice i).ueCols.filter (fun c => decide (s.scan.base + s.scan.column < c + 1000))).length)
  else if 0x8000 ≤ o ∧ o < 0x8800 then
    let r := i + 128 * ((o - 0x8000) / 0x100)
    if o % 0x100 = 0x08 then showAs w (F.ROW.ROW_STAT_STEP r) (s.rowStep r)
    else if o % 0x100 = 0x0C then s.rowAct r 0
    else if o % 0x100 = 0x10 then s.rowAct r 1
    else w
  else w

/-- The point stream block (Table 10-17). -/
def State.viewPoints (s : State) (a w : Nat) : Nat :=
  if a = F.PS.PS_STAT_CFG_ERR.addr then
    showAs (showAs w F.PS.PS_STAT_DROPPING (bit s.ps.run1.isSome)) F.PS.PS_STAT_OVF_ACTIVE (bit (!s.ps.chain.isEmpty))
  else if a = F.PS.RING_LEVEL.addr then s.streamLevel 1
  else if a = F.PS.OVF_LEVEL.addr then s.chainLevel / 64
  else w

/-- The safety block (Table 15-13). -/
def State.viewSafety (s : State) (a w : Nat) : Nat :=
  let o := a - 0x5000000
  let img := s.safe.cfg.getD safeBlank
  if o = 0x000 then
    showAs (showAs (showAs w F.SAF.SAFE_STAT_SESSION (bit s.safe.session.isSome)) F.SAF.SAFE_STAT_RANGING_VALID
      (bit (s.get F.SAF.SAFE_INVALID_CAUSE == 0))) F.SAF.SAFE_STAT_STATE s.safeState
  else if o = 0x004 then
    showAs (showAs (showAs w F.SAF.SAFE_OUT_FAULT (s.outMask .fault)) F.SAF.SAFE_OUT_WAIT (s.outMask .wait)) F.SAF.SAFE_OUT_ON (s.outMask .on)
  else if o = 0x008 then showAs w F.SAF.SAFE_FIELD_EN ((s.fieldsOn.map (fun f => 2 ^ f)).sum)
  else if o = 0x00C then s.inMask .fault * 65536 + (s.inMask .discStop + s.inMask .discRun) * 256 + s.inMask .run
  else if o = 0x01C then s.cfgCrc.1
  else if o = 0x020 then s.cfgCrc.2
  else if o = 0x024 then (match s.safe.session with
    | some x => imgCrc x.stage
    | none => 0)
  else if 0x400 ≤ o ∧ o < 0x550 then
    let n := safeParams.getD ((o - 0x400) / 8) 0
    if o % 8 = 0 then n else if 0x600 ≤ n then 0 else imgParam img n
  else if 0x1000 ≤ o ∧ o < 0x2100 ∧ (o - 0x1000) % 0x110 < 268 then u32 img (fieldOff ((o - 0x1000) / 0x110) + (o - 0x1000) % 0x110)
  else w

/-- The housekeeping and illuminator blocks (Tables 16-13, 18-3, 18-4). -/
def State.viewHk (s : State) (a w : Nat) : Nat :=
  if a = F.HK.AUX_CTRL_SRC.addr then showAs w F.HK.AUX_CTRL_SRC (bit s.auxOwned)
  else if a = F.ILL.ILL_STAT_LIT.addr then showAs w F.ILL.ILL_STAT_LIT s.illLit
  else if a = F.ILL.CEIL.addr then s.illCeil
  else if 0x6100100 ≤ a ∧ a < 0x6100200 ∧ a % 0x40 = 0x0C then
    let n := (a - 0x6100100) / 0x40
    showAs w (F.ILS.ILL_STR_STAT_NO_WINDOW n) (bit (s.noWindow n))
  else w

/-- What the word at an address reads (R448: 0 where no chapter defines the offset). Whether a camera's lanes are in high-speed receive at this instant is a free value. -/
def State.view (s : State) (a : Nat) : Nat :=
  let w := (s.rd a).toNat
  if a < 0x1000 then s.viewSys a w
  else if a < 0x20000 then w
  else if a < 0x24400 then s.viewEmitter a w
  else if a = F.STEER.ENG_STAT_LOAD.addr then showAs w F.STEER.ENG_STAT_LOAD (s.engineRate / 1000).floor.toNat
  else if a = F.RX.TDC_CC_CC.addr then 6 * s.time.tick % 65536
  else if 0x50000 ≤ a ∧ a < 0x60000 then s.viewRegion a w
  else if 0x1000000 ≤ a ∧ a < 0x1800000 then s.viewSlice a w
  else if 0x2000000 ≤ a ∧ a < 0x2000400 then s.viewPoints a w
  else if a = (F.CAM.CSI_STAT_PHY_HS 0).addr ∨ a = (F.CAM.CSI_STAT_PHY_HS 1).addr then showAs w (F.CAM.CSI_STAT_PHY_HS 0) (Config.freeNat s.free)
  else if a = (F.DSP.DISP_STAT_LINK_OK 0).addr then showAs w (F.DSP.DISP_STAT_LINK_OK 0) (bit (s.vUp 0))
  else if a = (F.DSP.DISP_STAT_LINK_OK 1).addr then showAs w (F.DSP.DISP_STAT_LINK_OK 1) (bit (s.vUp 1))
  else if a = F.ETH.MAC_HI.addr then s.mac / 2 ^ 32
  else if a = F.ETH.MAC_LO.addr then s.mac % 2 ^ 32
  else if a = F.TB.TB_TIME_LO.addr then s.time.dev.toNat % 2 ^ 32
  else if a = F.TB.TB_TIME_HI.addr then s.time.hiLatch.toNat
  else if a = F.MEM.MEM_STAT_REFUSING.addr then showAs w F.MEM.MEM_STAT_REFUSING (bit s.class5Refusing)
  else if 0x5000000 ≤ a ∧ a < 0x5004000 then s.viewSafety a w
  else if 0x6000000 ≤ a ∧ a < 0x7000000 then s.viewHk a w
  else w

/-- What follows the reading of a word: TB_TIME_LO latches the whole value, and a free value is used up. -/
def State.afterView (s : State) (a : Nat) : State :=
  if a = F.TB.TB_TIME_LO.addr then s.latchTime
  else if a = (F.CAM.CSI_STAT_PHY_HS 0).addr ∨ a = (F.CAM.CSI_STAT_PHY_HS 1).addr then { s with free := s.free + 1 }
  else s

/-- R52, R57: `n` words from `a`, in address order; `clears`: FRESH and OVERRUN of the status words among them clear. -/
def State.readWords (s : State) (clears : Bool) (a : Nat) : Nat → List Word × State
  | 0 => ([], s)
  | n + 1 =>
    let v := BitVec.ofNat 32 (s.view a)
    let r := State.readWords ((s.afterView a).when clears (fun s => s.clearFresh a)) clears (a + 4) n
    (v :: r.1, r.2)

/-! ### What a host write does -/

/-- A write inside the emitter's blocks. -/
def State.wrEmitter (s : State) (a : Nat) (v : Word) : State :=
  if a < 0x22000 then s.wrStr a v
  else if a < 0x24400 then s.wrBank a v
  else s.wrSht a v

/-- A write inside domain 69's blocks, and the regions. -/
def State.wrRanging (s : State) (a : Nat) (v : Word) : State :=
  if a < 0x41000 then s.wrRx a v
  else if a < 0x42800 then s.wrCh a v
  else s.wrRegion a v

/-- A write inside Region V's blocks. -/
def State.wrVision (s : State) (a : Nat) (v : Word) : State :=
  if a < 0x3002000 then s.hostWrite a v
  else if a < 0x3003000 then s.wrPipe a v
  else if a < 0x3100000 then s.wrFusion a v
  else s.wrDisplay a v

/-- A write inside the link, time and memory blocks. -/
def State.wrLinks (s : State) (a : Nat) (v : Word) : State :=
  if 0x4001000 ≤ a ∧ a < 0x4002000 then s.wrEth a v
  else if 0x4002000 ≤ a ∧ a < 0x4003000 then s.wrTimeBase a v
  else if 0x4100000 ≤ a ∧ a < 0x4101000 then s.wrMem a v
  else s.hostWrite a v

/-- A write inside the housekeeping, thermal, calibration and illuminator blocks. -/
def State.wrHk (s : State) (a : Nat) (v : Word) : State :=
  if 0x6000400 ≤ a ∧ a < 0x6000600 ∧ a % 0x80 = 0 then s.wrTiaCfg ((a - 0x6000400) / 0x80) v
  else if a = F.HK.WM_CTRL_SRC.addr then s.wrWmCtrl v
  else if 0x6001000 ≤ a ∧ a < 0x6001800 then s.wrThermal a v
  else if 0x6100000 ≤ a then s.wrIll a v
  else s.hostWrite a v

/-- The effect of a host write of one word, by the rules of its block (Table 20-4). -/
def State.hostStore (s : State) (a : Nat) (v : Word) : State :=
  let s := s.calHostWrite a
  if 0x110 ≤ a ∧ a < 0x11C then s.wrDomReq a v
  else if 0x20000 ≤ a ∧ a < 0x24600 then s.wrEmitter a v
  else if 0x30000 ≤ a ∧ a < 0x32000 then (if a % 0x400 = 0x04 then s.wrLoopRate ((a - 0x30000) / 0x400) v else s.wrLoop a v)
  else if 0x40000 ≤ a ∧ a < 0x60000 then s.wrRanging a v
  else if 0x1000000 ≤ a ∧ a < 0x1800000 then (if 0x8000 ≤ a % 0x10000 ∧ a % 0x10000 < 0x8800 then s.wrRow a v else s.wrSlice a v)
  else if 0x2000000 ≤ a ∧ a < 0x2000400 then s.wrPoints a v
  else if 0x3000000 ≤ a ∧ a < 0x4000000 then s.wrVision a v
  else if 0x4000000 ≤ a ∧ a < 0x5000000 then s.wrLinks a v
  else if 0x6000000 ≤ a ∧ a < 0x7000000 then s.wrHk a v
  else if 0x7000000 ≤ a ∧ a < 0x7001000 then s.wrFm a v
  else if a = F.MON.MON_CTRL_EN.addr then s.wrMonCtrl v
  else s.hostWrite a v

/-- Words stored in address order. -/
def State.storeWords (s : State) (a : Nat) : List Word → State
  | [] => s
  | v :: vs => State.storeWords (s.hostStore a v) (a + 4) vs

/-- The macro-pixel whose CELL_MAP holds the word at `a`: 8 row + q. -/
def cellMapAt (a : Nat) : Option Nat :=
  let o := a % 0x10000
  if 0x1000000 ≤ a ∧ a < 0x1800000 ∧ 0x8000 ≤ o ∧ o < 0x8800 ∧ 0x40 ≤ o % 0x100 ∧ o % 0x100 < 0x80 then
    some (8 * ((a - 0x1000000) / 0x10000 + 128 * ((o - 0x8000) / 0x100)) + (o % 0x100 - 0x40) / 8)
  else none

/-- The channel whose tap map holds the word at `a`. -/
def tapMapAt (a : Nat) : Option Nat :=
  let o := (a - 0x41000) % 0x200
  if 0x41000 ≤ a ∧ a < 0x42800 ∧ 0x18 ≤ o ∧ o < 0x24 then some ((a - 0x41000) / 0x200) else none

/-- The channel whose LIN table holds the word at `a`. -/
def linAddr (a : Nat) : Option Nat :=
  if 0x41000 ≤ a ∧ a < 0x42800 ∧ 0x100 ≤ (a - 0x41000) % 0x200 then some ((a - 0x41000) / 0x200) else none

/-- R453 with R169 and the note of Table 6-7: values judged whole at the end of the write of the words at `as`; `old` is the state before it. -/
def State.endWrite (s old : State) (as : List Nat) : State :=
  let s := s.each (as.filterMap cellMapAt).dedup (fun s k => s.endCellMap old (k / 8) (k % 8))
  let s := s.each (as.filterMap tapMapAt).dedup (fun s c => s.endTapMap old c)
  s.each (as.filterMap linAddr).dedup (fun s c => s.endLin c)

/-- The addresses of `n` words from `a`. -/
def wordAddrs (a n : Nat) : List Nat := (List.range n).map (fun i => a + 4 * i)

/-- R53: a REG_WRITE that has passed its checks. -/
def State.hostWrites (s : State) (a : Nat) (vs : List Word) : State := (s.storeWords a vs).endWrite s (wordAddrs a vs.length)

/-! ### The commands -/

/-- R455: a word that a write may not touch: the limiter block (R108), and the safety block but for its counters (R363). -/
def lockedWord (a : Nat) : Bool :=
  (decide (0x24600 ≤ a) && decide (a < 0x24640)) ||
    (decide (0x5000000 ≤ a) && decide (a < 0x5004000) && !(decide (0x5000100 ≤ a) && decide (a < 0x5000120)))

/-- Whether an access of `n` words from `a` touches a domain that is off (R15, R52). -/
def State.touchesOff (s : State) (a n : Nat) : Bool := (wordAddrs a (min n 256)).any (fun w => (findBlk w).isSome && !s.domOn (domainOf w))

/-- R52: the parameter checks of an access: alignment and block, the count, the end of the range. -/
def rangeChecks (a n : Nat) : List Check :=
  [badParam (decide (a % 4 ≠ 0) || (findBlk a).isNone) 0, badParam (n == 0 || decide (256 < n)) 1, badParam (!oneBlock a n) 0]

/-- R49: whether a REG_READ stays in domains 64 to 66. -/
def coreRead (a n : Nat) : Bool :=
  decide (a % 4 = 0) && decide (n ≤ 256) && oneBlock a n && (wordAddrs a n).all (fun w => decide (64 ≤ domainOf w ∧ domainOf w ≤ 66))

/-- REG_READ (R52). -/
def cmdRegRead (s : State) (p : List Byte) : Reply :=
  let a := u32 p 0
  let n := u16 p 4
  s.guarded (s.badState (s.touchesOff a n) :: rangeChecks a n ++ [badParam (notZero p 6 2) 1])
    (let r := s.readWords true a n
     ⟨.final 0 0 (wordBytes r.1), r.2, id⟩)

/-- R18: whether a write of words from `a` clears or sets a domain request it may not. -/
def State.writeRefused (s : State) (a : Nat) (vs : List Word) : Bool :=
  ((wordAddrs a vs.length).zip vs).any (fun e => decide (0x110 ≤ e.1) && decide (e.1 < 0x11C) && s.domReqRefused ((e.1 - 0x110) / 4) e.2)

/-- The checks of a write before its parameters (R53). -/
def State.writeChecks (s : State) (a : Nat) (vs : List Word) : List Check :=
  [((wordAddrs a vs.length).any lockedWord, 0x14, 1), s.badState (s.touchesOff a vs.length || s.writeRefused a vs)]

/-- REG_WRITE (R53). -/
def cmdRegWrite (s : State) (p : List Byte) : Reply :=
  let a := u32 p 0
  let n := u16 p 4
  let vs := bytesWords (p.drop 8)
  s.guarded (s.writeChecks a vs ++ rangeChecks a n ++ [badParam (notZero p 6 2) 1]) ((s.hostWrites a vs).done [])

/-- The W1C bits of a word. -/
def clearBits (fs : List RegFld) : Nat :=
  fs.foldl (fun v f => match f.acc with
    | .w1f | .w1n => withBits v f.lo f.wd (2 ^ f.wd - 1)
    | _ => v) 0

/-- R54: the word a REG_RMW writes over `old`. -/
def rmwWord (fs : List RegFld) (old mask value : Nat) : Nat :=
  let keep := 2 ^ 32 - 1 - mask
  ((old &&& keep) &&& (2 ^ 32 - 1 - clearBits fs)) ||| (value &&& mask)

/-- REG_RMW (R54). -/
def cmdRegRmw (s : State) (p : List Byte) : Reply :=
  let a := u32 p 0
  let old := s.view a
  let new := BitVec.ofNat 32 (rmwWord (fieldsAt a) old (u32 p 4) (u32 p 8))
  s.guarded (s.writeChecks a [new] ++ rangeChecks a 1)
    (((s.afterView a).hostWrites a [new]).done (beBytes 4 old ++ beBytes 4 new.toNat))

end Sys2Proof.Machine
end

