-- ==== Sys2Proof/Machine/Commands.lean ====
section
/-! DEFINITION. The command engine (chapter 2): the opcodes with their lengths, steps 6 to 13 of the acceptance order, the order of execution, replies, and what
the fault manager does between commands. -/

namespace Sys2Proof.Machine

/-! ### General commands (Table 2-10, range 0x00xx) -/

/-- The `n` words from `a` as they show, without an effect on them. -/
def State.viewBytes (s : State) (a n : Nat) : List Byte := (wordAddrs a n).flatMap (fun w => beBytes 4 (s.view w))

/-- IDENTIFY: the eight identity registers. -/
def cmdIdentify (s : State) : Reply := s.done (s.viewBytes 0 8)

/-- STATUS. -/
def cmdStatus (via : Port) (s : State) : Reply :=
  s.done (s.viewBytes 0x100 1 ++ s.viewBytes 0x120 3 ++ beBytes 1 s.profileNow ++ zeros 1 ++ beBytes 2 (s.session via).expSeq.toNat)

/-- CMD_STATUS; the fields that the spec gives no value, the final status before there is one and the opcode of an unknown number, are free values. -/
def cmdCmdStatus (via : Port) (s : State) (p : List Byte) : Reply :=
  let free := s.freeBytes 3
  s.guarded [badParam (notZero p 2 2) 0]
    (match (s.session via).cache.find? (fun e => e.seq.toNat == u16 p 0) with
      | none => ⟨.final 0 0 (beBytes 1 0 ++ free.1), free.2, id⟩
      | some e => match e.ans with
        | .final a => s.done ([2, a.status] ++ beBytes 2 e.op)
        | _ => ⟨.final 0 0 (beBytes 1 1 ++ free.1.take 1 ++ beBytes 2 e.op), free.2, id⟩)

/-- MONITOR_CONTROL (R440). -/
def cmdMonitorControl (s : State) (p : List Byte) : Reply :=
  s.guarded [badParam (decide (1 < u8 p 0) || notZero p 1 3) 0]
    ((s.wrMonCtrl (BitVec.ofNat 32 (withBits (s.rd F.MON.MON_CTRL_EN.addr).toNat 0 1 (u8 p 0)))).done [])

/-! ### UDP peers (R39) -/

/-- The port of a command whose peer has lost its place: answers to it reach nobody. -/
def nobody : Port := .udp ⟨0, 0⟩

/-- R39: what ends with a peer that loses its place. -/
def State.forgetPeer (s : State) (p : Peer) : State :=
  let swap := fun (q : Port) => if q = Port.udp p then nobody else q
  let s := match s.safe.session with
    | some x => s.when (x.port == Port.udp p) State.closeCommissioning
    | none => s
  { s with cmd := { s.cmd with
      udp := s.cmd.udp.filter (fun e => e.1 != p)
      held := s.cmd.held.map (fun h => { h with port := swap h.port })
      resend := s.cmd.resend.filter (fun r => r.1 != Port.udp p)
      running := s.cmd.running.map (fun r => { r with port := swap r.port })
      deferred := s.cmd.deferred.map (fun r => { r with port := swap r.port }) } }

/-- The peer that has been silent longest. -/
def silentLongest : List (Peer × Session) → Option (Peer × Session)
  | [] => none
  | e :: r => match silentLongest r with
    | some f => if f.2.lastHeard < e.2.lastHeard then some f else some e
    | none => some e

/-- R39: whether a packet of a UDP peer finds a place, and the state with the place taken. -/
def State.takePlace (s : State) (p : Peer) : Bool × State :=
  let now := s.time.dev.toNat
  match peerSession p s.cmd.udp with
  | some x => (true, s.setSession (.udp p) { x with lastHeard := now })
  | none =>
    let add := fun (t : State) => { t with cmd := { t.cmd with udp := t.cmd.udp ++ [(p, { Session.fresh with lastHeard := now })] } }
    if s.cmd.udp.length < 4 then (true, add s)
    else match silentLongest s.cmd.udp with
      | some old => if old.2.lastHeard + 10 ^ 10 ≤ now then (true, add (s.forgetPeer old.1)) else (false, s.inc F.CMD.PEER_DROP)
      | none => (false, s)

/-! ### Steps 7 to 11 -/

/-- R394: what a throttle level refuses. -/
def State.throttleRefuses (s : State) (op : Nat) (p : List Byte) : Bool :=
  let level := s.get F.TH.TH_STAT_LEVEL
  let raises := decide (u8 p 0 < 4) && decide (u16 p 2 < 2) && decide (s.profVal (u8 p 0) (u16 p 2) < u32 p 4)
  if level = 0 then false
  else if op = 0x0108 then true
  else if op = 0x0600 then decide (u8 p 0 < 3) && decide (s.get (F.OZ.LINK_STAT_RATE (u8 p 0)) < u8 p 1)
  else if op = 0x0102 then raises
  else if level = 2 then (op == 0x0401 && u8 p 1 == 1) || op == 0x0404 || (op == 0x0A00 && decide (s.level < u8 p 0))
  else false

/-- R49: the status set. -/
def statusSet (op : Nat) : Bool := [0x0001, 0x0002, 0x0003, 0x0004, 0x0005, 0x0700, 0x0903].contains op

/-- Step 9 (R23, R394). -/
def State.thermalRefuses (s : State) (op : Nat) (p : List Byte) : Bool :=
  if s.pw.st = .thermalLatch then !(statusSet op || (op == 0x0008 && coreRead (u32 p 0) (u16 p 4))) else s.throttleRefuses op p

/-- R69: what the ROM serves without firmware. -/
def romServes (op : Nat) : Bool := statusSet op || [0x0008, 0x0A04, 0x0F00, 0x0F01, 0x0F02, 0x0F03, 0x0F04, 0x0F05].contains op

/-- Step 10 where no firmware runs: no session is open, and locked words stay locked. -/
def romLocked (op : Nat) (p : List Byte) : Bool :=
  (decide (0x0702 ≤ op) && decide (op ≤ 0x0705)) ||
    (op == 0x0009 && (wordAddrs (u32 p 0) (min 256 (u16 p 4))).any lockedWord) || (op == 0x000A && lockedWord (u32 p 0))

/-- Table 2-10: opcodes of fixed payload length. -/
def opLengths : List (Nat × Nat) :=
  [(0x0001, 0), (0x0002, 0), (0x0003, 0), (0x0004, 0), (0x0005, 4), (0x0008, 8), (0x000A, 12), (0x0010, 0), (0x0011, 0), (0x0012, 0), (0x0014, 32),
   (0x0100, 4), (0x0101, 0), (0x0102, 8), (0x0103, 4), (0x0108, 8), (0x0109, 0), (0x0200, 4), (0x0201, 4), (0x0202, 4), (0x0203, 0), (0x0204, 4)] ++
  [(0x0300, 4), (0x0301, 44), (0x0302, 8), (0x0303, 4), (0x0400, 68), (0x0401, 4), (0x0403, 4), (0x0404, 12), (0x0500, 36), (0x0501, 36), (0x0502, 4),
   (0x0503, 4), (0x0600, 4), (0x0601, 4), (0x0602, 0), (0x0603, 16), (0x0604, 16), (0x0605, 8), (0x0700, 0), (0x0701, 32), (0x0703, 12), (0x0704, 8),
   (0x0705, 4)] ++
  [(0x0800, 64), (0x0801, 4), (0x0802, 0), (0x0803, 4), (0x0804, 0), (0x0805, 4), (0x0806, 4), (0x0807, 4), (0x0808, 4), (0x0900, 32), (0x0901, 0),
   (0x0902, 4), (0x0903, 4), (0x0904, 0), (0x0905, 4), (0x0A00, 4), (0x0A01, 12), (0x0A02, 12), (0x0A03, 24), (0x0A04, 8), (0x0F00, 0), (0x0F01, 8),
   (0x0F03, 0), (0x0F04, 4), (0x0F05, 0)]

/-- Table 2-10: opcodes whose length a payload field gives: bytes before the list, place and width of the count, bytes per item. -/
def opVariable : List (Nat × Nat × Nat × Nat × Nat) :=
  [(0x0009, 8, 4, 2, 4), (0x0304, 4, 2, 2, 4), (0x0402, 4, 2, 2, 1), (0x0702, 16, 5, 1, 8), (0x0F02, 8, 4, 2, 1)]

/-- Steps 7 and 8: none: not an opcode; else whether the payload has the opcode's length. -/
def lengthOk (op : Nat) (p : List Byte) : Option Bool :=
  match opLengths.find? (fun e => e.1 == op) with
  | some e => some (p.length == e.2)
  | none => (opVariable.find? (fun e => e.1 == op)).map (fun e =>
      decide (e.2.1 ≤ p.length) && p.length == e.2.1 + beAt p e.2.2.1 e.2.2.2.1 * e.2.2.2.2)

/-- R454: CAL_RUN and LINK_TRAIN during a reload. -/
def State.afterReload (s : State) (r : Reply) : Reply :=
  if s.pw.reload.isEmpty then r
  else match r.ans with
    | .accepted _ | .busy => s.reply (.final 0x20 2 [])
    | _ => r

/-! ### The opcodes (Table 2-10) -/

/-- Opcodes of ranges 0x00xx to 0x02xx. -/
def runLow (via : Port) (s : State) (op : Nat) (p : List Byte) : Reply :=
  match op with
  | 0x0002 => cmdIdentify s
  | 0x0003 => cmdStatus via s
  | 0x0005 => cmdCmdStatus via s p
  | 0x0008 => cmdRegRead s p
  | 0x0009 => cmdRegWrite s p
  | 0x000A => cmdRegRmw s p
  | 0x0010 => cmdDormant via s
  | 0x0011 => cmdSafeHold s
  | 0x0012 => cmdFaultClear s
  | 0x0014 => cmdEventSubscribe via s p
  | 0x0100 => cmdScanStart s p
  | 0x0101 => cmdScanStop s
  | 0x0102 => cmdProfileOverride s p
  | 0x0103 => cmdProfileRead s p
  | 0x0108 => cmdHistDump s p
  | 0x0109 => cmdHistDumpCancel s
  | 0x0200 => cmdEmitterInhibit s p
  | 0x0201 => cmdStringEnable s p
  | 0x0202 => cmdChargeTest s p
  | 0x0203 => cmdLimiterRead s
  | 0x0204 => cmdTriggerConfig s p
  | _ => s.done []

/-- Opcodes of ranges 0x03xx to 0x06xx. -/
def runMid (s : State) (op : Nat) (p : List Byte) : Reply :=
  match op with
  | 0x0300 => cmdLoopMode s p
  | 0x0301 => cmdLoopCoefSet s p
  | 0x0302 => cmdLoopSetpoint s p
  | 0x0303 => cmdLoopRead s p
  | 0x0304 => cmdTrajectoryLoad s p
  | 0x0400 => cmdCamConfig s p
  | 0x0401 => cmdCamRun s p
  | 0x0402 => cmdPipeContextSet s p
  | 0x0403 => cmdStatsRequest s p
  | 0x0404 => cmdReprocess s p
  | 0x0500 => cmdDispMode s p
  | 0x0501 => cmdLayerSet s p
  | 0x0502 => cmdCommit s p
  | 0x0503 => cmdDispRun s p
  | 0x0600 => s.afterReload (cmdLinkTrain s p)
  | 0x0601 => cmdLinkStatus s p
  | 0x0602 => cmdTimeRead s
  | 0x0603 => cmdTimeConfig s p
  | 0x0604 => let r := cmdNetConfig s p
              { r with post := fun t => r.post (t.each (t.cmd.udp.map Prod.fst) State.forgetPeer) }
  | 0x0605 => cmdSyncConfig s p
  | _ => s.done []

/-- Opcodes of ranges 0x07xx to 0x0Fxx. -/
def runHigh (via : Port) (s : State) (op : Nat) (p : List Byte) : Reply :=
  match op with
  | 0x0700 => cmdSafetyStatus s p
  | 0x0701 => cmdCommissionOpen via s p
  | 0x0702 => cmdFieldWrite via s p
  | 0x0703 => cmdSafetyParamWrite via s p
  | 0x0704 => cmdCommissionCommit via s p
  | 0x0705 => cmdCommissionAbort via s p
  | 0x0800 => cmdHkConfig s p
  | 0x0801 => cmdHkUrgent s p
  | 0x0802 => cmdFilterSync s
  | 0x0803 => cmdTiaRange s p
  | 0x0804 => cmdThermalRead s
  | 0x0805 => s.afterReload (cmdCalRun s p)
  | 0x0806 => cmdCalRecordRead s p
  | 0x0807 => cmdAuxoutSet s p
  | 0x0808 => cmdIllSet s p
  | 0x0900 => cmdRecorderArm s p
  | 0x0901 => cmdRecorderForce s p
  | 0x0902 => cmdRecorderRead s p
  | 0x0903 => cmdFaultLogRead s p
  | 0x0904 => cmdClassCountersRead s
  | 0x0905 => cmdMonitorControl s p
  | 0x0A00 => cmdCompConfig s p
  | 0x0A01 => cmdContextSave s p
  | 0x0A02 => cmdContextRestore s p
  | 0x0A03 => cmdDecompress s p
  | 0x0A04 => cmdFlashRead s p
  | 0x0F00 => cmdFwInfo s
  | 0x0F01 => cmdFwBegin s p
  | 0x0F02 => cmdFwWrite s p
  | 0x0F03 => cmdFwVerify s
  | 0x0F04 => cmdFwActivate s p
  | 0x0F05 => cmdReboot s
  | _ => s.done []

/-- A defined opcode of the right length: its handler. PING and SESSION_RESET only answer. -/
def runOp (via : Port) (s : State) (op : Nat) (p : List Byte) : Reply :=
  if op < 0x0300 then runLow via s op p else if op < 0x0700 then runMid s op p else runHigh via s op p

/-- Steps 7 to 13 of Table 2-5. -/
def runCommand (via : Port) (s : State) (op : Nat) (p : List Byte) : Reply :=
  match lengthOk op p with
  | none => s.reply (.final 0x10 0 [])
  | some false => s.reply (.final 0x11 2 [])
  | some true =>
    s.guarded [(s.thermalRefuses op p, 0x22, 0), (s.pw.romOnly && romLocked op p, 0x14, 1), (s.pw.romOnly && !romServes op, 0x98, 0)] (runOp via s op p)

/-! ### Answers (R29 to R31, R35, R44) -/

/-- The answer of a handler reaches its port, and what follows the reply happens. -/
def State.finish (r : Reply) (port : Port) (op : Nat) (seq : BitVec 16) : State :=
  let s := r.st
  match r.ans with
  | .final status detail data =>
    let a := s.answer status detail data
    r.post (s.sendReply port op seq a (.final a))
  | .accepted tag =>
    let a := s.answer 1 0 []
    r.post ((s.start port op seq tag).sendReply port op seq a (.accepted a))
  | .busy =>
    let f := s.freeNat
    let a := f.2.answer 0x20 (f.1 % 255 + 1) []
    r.post (f.2.sendReply port op seq a (.final a))
  | .later tag => r.post { s with cmd := { s.cmd with deferred := s.cmd.deferred ++ [⟨op, port, seq, tag⟩] } }

/-- One command leaves the queue and is executed; faults it raised are processed before the next. -/
def State.runHeld (s : State) (h : Held) : State := (State.finish (runCommand h.port s h.op h.data) h.port h.op h.seq).calm

/-- R35: whether the command at the head may start. -/
def State.mayRun (s : State) (h : Held) : Bool := h.port != .spi || decide (2064 ≤ s.outFree)

/-- R35, R44: consumed commands are executed in order of arrival; one that waits for room in the SPI outbound queue holds up those behind it. -/
def State.drain (s : State) : Nat → State
  | 0 => s
  | n + 1 => match s.cmd.held with
    | [] => s
    | h :: r => if s.mayRun h then State.drain (({ s with cmd := { s.cmd with held := r } } : State).runHeld h) n else s

/-- What follows every event: the fault manager's share, then the commands that can now run. -/
def State.settle (s : State) : State :=
  let s := s.calm
  s.drain s.cmd.held.length

/-! ### Step 6 (R42, R43, R45) -/

/-- Whether a transport brings commands in now (R23, R69): SPI, an Ethernet link, port H. -/
def State.hears (s : State) (via : Port) : Bool :=
  let served := match s.pw.st with
    | .ready | .scanning | .safeHold => !s.pw.romOnly || via == .spi
    | .thermalLatch => via == .spi
    | _ => false
  served && (match via with
    | .spi => true
    | .udp _ => s.ethUp
    | .oazil => s.domOn 77 && s.linkUp 0)

/-- R43: commands of a transport or peer whose answer is still due. -/
def State.unanswered (s : State) (via : Port) : Nat :=
  (s.cmd.held.filter (fun h => h.port == via)).length + (s.cmd.deferred.filter (fun r => r.port == via)).length +
    (s.cmd.resend.filter (fun r => r.1 == via)).length

/-- A packet reaches the command engine: the place of its peer (R39) and the limit of R43; false: it is discarded. -/
def State.intake (s : State) (via : Port) : Bool × State :=
  let r := match via with
    | .udp p => s.takePlace p
    | _ => (true, s)
  if !r.1 then r
  else if 16 ≤ r.2.unanswered via then (false, r.2.inc F.CMD.OVERFLOW)
  else r

/-- A reply decided at steps 2 to 6, which no cache keeps. -/
def State.refuse (s : State) (via : Port) (op : Nat) (seq : BitVec 16) (status detail : Nat) (data : List Byte) : State :=
  s.when (s.transportUp via) (fun s => s.sendOn via (replyPacket via op seq (s.answer status detail data)))

/-- R41: the packet is consumed: E advances, its answer will be cached, and the command waits for its turn. -/
def State.consume (s : State) (via : Port) (seq : BitVec 16) (op : Nat) (p : List Byte) (clear : Bool) : State :=
  let x := s.session via
  let old := if clear then [] else x.cache.filter (fun e => e.seq != seq)
  let cache := (old ++ [(⟨seq, op, .undecided⟩ : CacheEnt)]).drop (old.length - 15)
  let s := s.setSession via { x with known := true, expSeq := seq + 1, cache := cache }
  { s with cmd := { s.cmd with held := s.cmd.held ++ [⟨via, seq, op, p⟩] } }

/-- SEQ_GAP. -/
def State.seqGap (s : State) (via : Port) (op : Nat) (seq : BitVec 16) (detail : Nat) : State :=
  (s.inc F.CMD.SEQ_GAP).refuse via op seq 0x31 detail (beBytes 2 (s.session via).expSeq.toNat ++ zeros 2)

/-- R42: a packet of the last 16 numbers: the cached answer again, or SEQ_GAP. -/
def State.replay (s : State) (via : Port) (seq : BitVec 16) (op : Nat) : State :=
  match (s.session via).cache.find? (fun e => e.seq == seq) with
  | none => s.seqGap via op seq 2
  | some e =>
    if e.op ≠ op then s.seqGap via op seq 3
    else match e.ans with
      | .undecided => { s with cmd := { s.cmd with resend := s.cmd.resend ++ [(via, seq)] } }
      | .accepted a | .final a => (s.when (s.transportUp via) (fun s => s.sendOn via (replyPacket via op seq a))).inc F.CMD.REPLAY

/-- Step 6 of Table 2-5: Table 2-6, and SESSION_RESET (R45). -/
def State.sequence (s : State) (via : Port) (seq : BitVec 16) (op : Nat) (p : List Byte) : State :=
  let x := s.session via
  let d := (seq - x.expSeq).toNat
  if op = 0x0004 then s.consume via seq op p true
  else if !x.known ∨ d = 0 then s.consume via seq op p false
  else if 65520 ≤ d then s.replay via seq op
  else if d ≤ 32767 then s.seqGap via op seq 1
  else s.seqGap via op seq 2

/-- A packet that has passed steps 1 to 5 arrives on a transport. -/
def State.packetIn (s : State) (via : Port) (seq : BitVec 16) (op : Nat) (p : List Byte) : State :=
  if s.hears via then
    let r := s.intake via
    if r.1 then (r.2.sequence via seq op p).settle else r.2.settle
  else s

/-! ### Payloads of register commands -/

/-- The payload of a REG_WRITE of words from `a`. -/
def regWritePayload (a : Nat) (vs : List Word) : List Byte := beBytes 4 a ++ beBytes 2 vs.length ++ zeros 2 ++ wordBytes vs

/-- The payload of a REG_READ of `n` words from `a`. -/
def regReadPayload (a n : Nat) : List Byte := beBytes 4 a ++ beBytes 2 n ++ zeros 2

/-- A REG_WRITE of one word. -/
def State.write1 (s : State) (via : Port) (seq : BitVec 16) (a : Nat) (v : Word) : State := s.packetIn via seq 0x0009 (regWritePayload a [v])

end Sys2Proof.Machine
end

