-- ==== Sys2Proof/Machine/ExecCommands.lean ====
section
/-! DEFINITION. The rows of Table 2-10: each is the command packet of its opcode and payload, past steps 1 to 5 (notes/assumptions/2.md). -/

namespace Sys2Proof.Machine

/-- Table 2-10: an event mask as EVENT_SUBSCRIBE carries it: byte i bit j selects event 8 i + j. -/
def maskBytes (m : BitVec 256) : List Byte := (List.range 32).map (fun i => BitVec.ofNat 8 (m.toNat / 256 ^ i))

/-- PING (R48). -/
def execPing (via : Port) (seq : BitVec 16) (s : State) : Host.Outcome State Fault Refusal := .next (s.packetIn via seq 0x0001 ([]))

/-- IDENTIFY (R449). -/
def execIdentify (via : Port) (seq : BitVec 16) (s : State) : Host.Outcome State Fault Refusal := .next (s.packetIn via seq 0x0002 ([]))

/-- STATUS (R48). -/
def execStatus (via : Port) (seq : BitVec 16) (s : State) : Host.Outcome State Fault Refusal := .next (s.packetIn via seq 0x0003 ([]))

/-- SESSION_RESET (R45). -/
def execSessionReset (via : Port) (seq : BitVec 16) (s : State) : Host.Outcome State Fault Refusal := .next (s.packetIn via seq 0x0004 ([]))

/-- CMD_STATUS (R48). -/
def execCmdStatus (via : Port) (seq : BitVec 16) (target : BitVec 16) (s : State) : Host.Outcome State Fault Refusal :=
  .next (s.packetIn via seq 0x0005 (beBytes 2 target.toNat ++ zeros 2))

/-- REG_READ (R52). -/
def execRegRead (via : Port) (seq : BitVec 16) (addr : BitVec 32) (count : BitVec 16) (s : State) : Host.Outcome State Fault Refusal :=
  .next (s.packetIn via seq 0x0008 (regReadPayload addr.toNat count.toNat))

/-- REG_WRITE (R53). -/
def execRegWrite (via : Port) (seq : BitVec 16) (addr : BitVec 32) (values : List Word) (s : State) : Host.Outcome State Fault Refusal :=
  .next (s.packetIn via seq 0x0009 (regWritePayload addr.toNat values))

/-- REG_RMW (R54). -/
def execRegRmw (via : Port) (seq : BitVec 16) (addr mask value : BitVec 32) (s : State) : Host.Outcome State Fault Refusal :=
  .next (s.packetIn via seq 0x000A (beBytes 4 addr.toNat ++ beBytes 4 mask.toNat ++ beBytes 4 value.toNat))

/-- DORMANT (R37). -/
def execDormant (via : Port) (seq : BitVec 16) (s : State) : Host.Outcome State Fault Refusal := .next (s.packetIn via seq 0x0010 ([]))

/-- SAFE_HOLD (R20). -/
def execSafeHold (via : Port) (seq : BitVec 16) (s : State) : Host.Outcome State Fault Refusal := .next (s.packetIn via seq 0x0011 ([]))

/-- FAULT_CLEAR (R431). -/
def execFaultClear (via : Port) (seq : BitVec 16) (s : State) : Host.Outcome State Fault Refusal := .next (s.packetIn via seq 0x0012 ([]))

/-- EVENT_SUBSCRIBE (R425). -/
def execEventSubscribe (via : Port) (seq : BitVec 16) (mask : BitVec 256) (s : State) : Host.Outcome State Fault Refusal :=
  .next (s.packetIn via seq 0x0014 (maskBytes mask))

/-- SCAN_START (R51). -/
def execScanStart (via : Port) (seq : BitVec 16) (profile flags : Byte) (s : State) : Host.Outcome State Fault Refusal :=
  .next (s.packetIn via seq 0x0100 ([profile, flags] ++ zeros 2))

/-- SCAN_STOP (R20). -/
def execScanStop (via : Port) (seq : BitVec 16) (s : State) : Host.Outcome State Fault Refusal := .next (s.packetIn via seq 0x0101 ([]))

/-- PROFILE_OVERRIDE (R6). -/
def execProfileOverride (via : Port) (seq : BitVec 16) (profile : Byte) (field : BitVec 16) (value : BitVec 32) (s : State) : Host.Outcome State Fault Refusal :=
  .next (s.packetIn via seq 0x0102 ([profile, 0] ++ beBytes 2 field.toNat ++ beBytes 4 value.toNat))

/-- PROFILE_READ (R6). -/
def execProfileRead (via : Port) (seq : BitVec 16) (profile : Byte) (s : State) : Host.Outcome State Fault Refusal :=
  .next (s.packetIn via seq 0x0103 ([profile] ++ zeros 3))

/-- HIST_DUMP (R193). -/
def execHistDump (via : Port) (seq : BitVec 16) (firstRow rows columns : BitVec 16) (parts : Byte) (s : State) : Host.Outcome State Fault Refusal :=
  .next (s.packetIn via seq 0x0108 (beBytes 2 firstRow.toNat ++ beBytes 2 rows.toNat ++ beBytes 2 columns.toNat ++ [parts, 0]))

/-- HIST_DUMP_CANCEL (R195). -/
def execHistDumpCancel (via : Port) (seq : BitVec 16) (s : State) : Host.Outcome State Fault Refusal := .next (s.packetIn via seq 0x0109 ([]))

/-- EMITTER_INHIBIT (R100). -/
def execEmitterInhibit (via : Port) (seq : BitVec 16) (inhibit : Byte) (s : State) : Host.Outcome State Fault Refusal :=
  .next (s.packetIn via seq 0x0200 ([inhibit] ++ zeros 3))

/-- STRING_ENABLE (R115). -/
def execStringEnable (via : Port) (seq : BitVec 16) (mask : BitVec 32) (s : State) : Host.Outcome State Fault Refusal :=
  .next (s.packetIn via seq 0x0201 (beBytes 4 mask.toNat))

/-- CHARGE_TEST (R94). -/
def execChargeTest (via : Port) (seq : BitVec 16) (string : Byte) (target : BitVec 16) (s : State) : Host.Outcome State Fault Refusal :=
  .next (s.packetIn via seq 0x0202 ([string, 0] ++ beBytes 2 target.toNat))

/-- LIMITER_READ (R108). -/
def execLimiterRead (via : Port) (seq : BitVec 16) (s : State) : Host.Outcome State Fault Refusal := .next (s.packetIn via seq 0x0203 ([]))

/-- TRIGGER_CONFIG (R101). -/
def execTriggerConfig (via : Port) (seq : BitVec 16) (input bankMask edge : Byte) (s : State) : Host.Outcome State Fault Refusal :=
  .next (s.packetIn via seq 0x0204 ([input, bankMask, edge, 0]))

/-- LOOP_MODE (R122). -/
def execLoopMode (via : Port) (seq : BitVec 16) (loop mode : Byte) (s : State) : Host.Outcome State Fault Refusal :=
  .next (s.packetIn via seq 0x0300 ([loop, mode] ++ zeros 2))

/-- LOOP_COEF_SET (R125). -/
def execLoopCoefSet (via : Port) (seq : BitVec 16) (loop : Byte) (coef : List Word) (s : State) : Host.Outcome State Fault Refusal :=
  .next (s.packetIn via seq 0x0301 ([loop] ++ zeros 3 ++ wordBytes coef))

/-- LOOP_SETPOINT (R119). -/
def execLoopSetpoint (via : Port) (seq : BitVec 16) (loop : Byte) (sp : BitVec 32) (s : State) : Host.Outcome State Fault Refusal :=
  .next (s.packetIn via seq 0x0302 ([loop] ++ zeros 3 ++ beBytes 4 sp.toNat))

/-- LOOP_READ (R141). -/
def execLoopRead (via : Port) (seq : BitVec 16) (loop : Byte) (s : State) : Host.Outcome State Fault Refusal :=
  .next (s.packetIn via seq 0x0303 ([loop] ++ zeros 3))

/-- TRAJECTORY_LOAD (R128). -/
def execTrajectoryLoad (via : Port) (seq : BitVec 16) (first : BitVec 16) (entries : List Word) (s : State) : Host.Outcome State Fault Refusal :=
  .next (s.packetIn via seq 0x0304 (beBytes 2 first.toNat ++ beBytes 2 entries.length ++ wordBytes entries))

/-- CAM_CONFIG (R246). -/
def execCamConfig (via : Port) (seq : BitVec 16) (camera : Byte) (block : List Byte) (s : State) : Host.Outcome State Fault Refusal :=
  .next (s.packetIn via seq 0x0400 ([camera] ++ zeros 3 ++ block))

/-- CAM_RUN (R246). -/
def execCamRun (via : Port) (seq : BitVec 16) (camera run : Byte) (s : State) : Host.Outcome State Fault Refusal :=
  .next (s.packetIn via seq 0x0401 ([camera, run] ++ zeros 2))

/-- PIPE_CONTEXT_SET (R252). -/
def execPipeContextSet (via : Port) (seq : BitVec 16) (context stage : Byte) (data : List Byte) (s : State) : Host.Outcome State Fault Refusal :=
  .next (s.packetIn via seq 0x0402 ([context, stage] ++ beBytes 2 data.length ++ data))

/-- STATS_REQUEST (R262). -/
def execStatsRequest (via : Port) (seq : BitVec 16) (context : Byte) (s : State) : Host.Outcome State Fault Refusal :=
  .next (s.packetIn via seq 0x0403 ([context] ++ zeros 3))

/-- REPROCESS (R257). -/
def execReprocess (via : Port) (seq : BitVec 16) (context : Byte) (addr : BitVec 64) (s : State) : Host.Outcome State Fault Refusal :=
  .next (s.packetIn via seq 0x0404 ([context] ++ zeros 3 ++ beBytes 8 addr.toNat))

/-- DISP_MODE (R273). -/
def execDispMode (via : Port) (seq : BitVec 16) (display : Byte) (block : List Byte) (s : State) : Host.Outcome State Fault Refusal :=
  .next (s.packetIn via seq 0x0500 ([display] ++ zeros 3 ++ block))

/-- LAYER_SET (R276). -/
def execLayerSet (via : Port) (seq : BitVec 16) (display layer : Byte) (block : List Byte) (s : State) : Host.Outcome State Fault Refusal :=
  .next (s.packetIn via seq 0x0501 ([display, layer] ++ zeros 2 ++ block))

/-- COMMIT (R279). -/
def execCommit (via : Port) (seq : BitVec 16) (display : Byte) (s : State) : Host.Outcome State Fault Refusal :=
  .next (s.packetIn via seq 0x0502 ([display] ++ zeros 3))

/-- DISP_RUN (R275). -/
def execDispRun (via : Port) (seq : BitVec 16) (display run : Byte) (s : State) : Host.Outcome State Fault Refusal :=
  .next (s.packetIn via seq 0x0503 ([display, run] ++ zeros 2))

/-- LINK_TRAIN (R306). -/
def execLinkTrain (via : Port) (seq : BitVec 16) (port rate : Byte) (s : State) : Host.Outcome State Fault Refusal :=
  .next (s.packetIn via seq 0x0600 ([port, rate] ++ zeros 2))

/-- LINK_STATUS (R309). -/
def execLinkStatus (via : Port) (seq : BitVec 16) (port : Byte) (s : State) : Host.Outcome State Fault Refusal :=
  .next (s.packetIn via seq 0x0601 ([port] ++ zeros 3))

/-- TIME_READ (R318). -/
def execTimeRead (via : Port) (seq : BitVec 16) (s : State) : Host.Outcome State Fault Refusal := .next (s.packetIn via seq 0x0602 ([]))

/-- TIME_CONFIG (R318). -/
def execTimeConfig (via : Port) (seq : BitVec 16) (block : List Byte) (s : State) : Host.Outcome State Fault Refusal :=
  .next (s.packetIn via seq 0x0603 (block))

/-- NET_CONFIG (R311). -/
def execNetConfig (via : Port) (seq : BitVec 16) (ip mask gw : BitVec 32) (vlan : BitVec 16) (s : State) : Host.Outcome State Fault Refusal :=
  .next (s.packetIn via seq 0x0604 (beBytes 4 ip.toNat ++ beBytes 4 mask.toNat ++ beBytes 4 gw.toNat ++ beBytes 2 vlan.toNat ++ zeros 2))

/-- SYNC_CONFIG (R319). -/
def execSyncConfig (via : Port) (seq : BitVec 16) (role : Byte) (slotOffset : BitVec 32) (s : State) : Host.Outcome State Fault Refusal :=
  .next (s.packetIn via seq 0x0605 ([role] ++ zeros 3 ++ beBytes 4 slotOffset.toNat))

/-- SAFETY_STATUS (R361). -/
def execSafetyStatus (via : Port) (seq : BitVec 16) (s : State) : Host.Outcome State Fault Refusal := .next (s.packetIn via seq 0x0700 ([]))

/-- COMMISSION_OPEN (R356). -/
def execCommissionOpen (via : Port) (seq : BitVec 16) (credential : List Byte) (s : State) : Host.Outcome State Fault Refusal :=
  .next (s.packetIn via seq 0x0701 (credential))

/-- FIELD_WRITE (R357). -/
def execFieldWrite (via : Port) (seq : BitVec 16) (session : BitVec 32) (field vertices : Byte) (block : List Byte) (s : State) : Host.Outcome State Fault Refusal :=
  .next (s.packetIn via seq 0x0702 (beBytes 4 session.toNat ++ [field, vertices] ++ zeros 2 ++ block))

/-- SAFETY_PARAM_WRITE (R358). -/
def execSafetyParamWrite (via : Port) (seq : BitVec 16) (session : BitVec 32) (param : BitVec 16) (value : BitVec 32) (s : State) : Host.Outcome State Fault Refusal :=
  .next (s.packetIn via seq 0x0703 (beBytes 4 session.toNat ++ beBytes 2 param.toNat ++ zeros 2 ++ beBytes 4 value.toNat))

/-- COMMISSION_COMMIT (R359). -/
def execCommissionCommit (via : Port) (seq : BitVec 16) (session crc : BitVec 32) (s : State) : Host.Outcome State Fault Refusal :=
  .next (s.packetIn via seq 0x0704 (beBytes 4 session.toNat ++ beBytes 4 crc.toNat))

/-- COMMISSION_ABORT (R356). -/
def execCommissionAbort (via : Port) (seq : BitVec 16) (session : BitVec 32) (s : State) : Host.Outcome State Fault Refusal :=
  .next (s.packetIn via seq 0x0705 (beBytes 4 session.toNat))

/-- HK_CONFIG (R367). -/
def execHkConfig (via : Port) (seq : BitVec 16) (block : List Byte) (s : State) : Host.Outcome State Fault Refusal :=
  .next (s.packetIn via seq 0x0800 (block))

/-- HK_URGENT (R371). -/
def execHkUrgent (via : Port) (seq : BitVec 16) (slot : Byte) (s : State) : Host.Outcome State Fault Refusal :=
  .next (s.packetIn via seq 0x0801 ([slot] ++ zeros 3))

/-- FILTER_SYNC (R320). -/
def execFilterSync (via : Port) (seq : BitVec 16) (s : State) : Host.Outcome State Fault Refusal := .next (s.packetIn via seq 0x0802 ([]))

/-- TIA_RANGE (R376). -/
def execTiaRange (via : Port) (seq : BitVec 16) (channel range : Byte) (s : State) : Host.Outcome State Fault Refusal :=
  .next (s.packetIn via seq 0x0803 ([channel, range] ++ zeros 2))

/-- THERMAL_READ (R407). -/
def execThermalRead (via : Port) (seq : BitVec 16) (s : State) : Host.Outcome State Fault Refusal := .next (s.packetIn via seq 0x0804 ([]))

/-- CAL_RUN (R397). -/
def execCalRun (via : Port) (seq : BitVec 16) (items : BitVec 16) (s : State) : Host.Outcome State Fault Refusal :=
  .next (s.packetIn via seq 0x0805 (beBytes 2 items.toNat ++ zeros 2))

/-- CAL_RECORD_READ (R405). -/
def execCalRecordRead (via : Port) (seq : BitVec 16) (record : BitVec 16) (s : State) : Host.Outcome State Fault Refusal :=
  .next (s.packetIn via seq 0x0806 (beBytes 2 record.toNat ++ zeros 2))

/-- AUXOUT_SET (R384). -/
def execAuxoutSet (via : Port) (seq : BitVec 16) (value : BitVec 32) (s : State) : Host.Outcome State Fault Refusal :=
  .next (s.packetIn via seq 0x0807 (beBytes 4 value.toNat))

/-- ILL_SET (R420). -/
def execIllSet (via : Port) (seq : BitVec 16) (mask : Byte) (level : BitVec 16) (s : State) : Host.Outcome State Fault Refusal :=
  .next (s.packetIn via seq 0x0808 ([mask, 0] ++ beBytes 2 level.toNat))

/-- RECORDER_ARM (R436). -/
def execRecorderArm (via : Port) (seq : BitVec 16) (block : List Byte) (s : State) : Host.Outcome State Fault Refusal :=
  .next (s.packetIn via seq 0x0900 (block))

/-- RECORDER_FORCE (R437). -/
def execRecorderForce (via : Port) (seq : BitVec 16) (s : State) : Host.Outcome State Fault Refusal := .next (s.packetIn via seq 0x0901 ([]))

/-- RECORDER_READ (R439). -/
def execRecorderRead (via : Port) (seq : BitVec 16) (capture : Byte) (s : State) : Host.Outcome State Fault Refusal :=
  .next (s.packetIn via seq 0x0902 ([capture] ++ zeros 3))

/-- FAULT_LOG_READ (R433). -/
def execFaultLogRead (via : Port) (seq : BitVec 16) (first count : BitVec 16) (s : State) : Host.Outcome State Fault Refusal :=
  .next (s.packetIn via seq 0x0903 (beBytes 2 first.toNat ++ beBytes 2 count.toNat))

/-- CLASS_COUNTERS_READ (R335). -/
def execClassCountersRead (via : Port) (seq : BitVec 16) (s : State) : Host.Outcome State Fault Refusal := .next (s.packetIn via seq 0x0904 ([]))

/-- MONITOR_CONTROL (R440). -/
def execMonitorControl (via : Port) (seq : BitVec 16) (enable : Byte) (s : State) : Host.Outcome State Fault Refusal :=
  .next (s.packetIn via seq 0x0905 ([enable] ++ zeros 3))

/-- COMP_CONFIG (R237). -/
def execCompConfig (via : Port) (seq : BitVec 16) (level context : Byte) (s : State) : Host.Outcome State Fault Refusal :=
  .next (s.packetIn via seq 0x0A00 ([level, context] ++ zeros 2))

/-- COMP_CONTEXT_SAVE (R238). -/
def execCompContextSave (via : Port) (seq : BitVec 16) (context : Byte) (addr : BitVec 64) (s : State) : Host.Outcome State Fault Refusal :=
  .next (s.packetIn via seq 0x0A01 ([context] ++ zeros 3 ++ beBytes 8 addr.toNat))

/-- COMP_CONTEXT_RESTORE (R239). -/
def execCompContextRestore (via : Port) (seq : BitVec 16) (context : Byte) (addr : BitVec 64) (s : State) : Host.Outcome State Fault Refusal :=
  .next (s.packetIn via seq 0x0A02 ([context] ++ zeros 3 ++ beBytes 8 addr.toNat))

/-- DECOMPRESS (R240). -/
def execDecompress (via : Port) (seq : BitVec 16) (src : BitVec 64) (srcLen : BitVec 32) (dst : BitVec 64) (limit : BitVec 32) (s : State) : Host.Outcome State Fault Refusal :=
  .next (s.packetIn via seq 0x0A03 (beBytes 8 src.toNat ++ beBytes 4 srcLen.toNat ++ beBytes 8 dst.toNat ++ beBytes 4 limit.toNat))

/-- FLASH_READ (R360). -/
def execFlashRead (via : Port) (seq : BitVec 16) (addr : BitVec 32) (length : BitVec 16) (s : State) : Host.Outcome State Fault Refusal :=
  .next (s.packetIn via seq 0x0A04 (beBytes 4 addr.toNat ++ beBytes 2 length.toNat ++ zeros 2))

/-- FW_INFO (R81). -/
def execFwInfo (via : Port) (seq : BitVec 16) (s : State) : Host.Outcome State Fault Refusal := .next (s.packetIn via seq 0x0F00 ([]))

/-- FW_BEGIN (R80). -/
def execFwBegin (via : Port) (seq : BitVec 16) (slot : Byte) (length : BitVec 32) (s : State) : Host.Outcome State Fault Refusal :=
  .next (s.packetIn via seq 0x0F01 ([slot] ++ zeros 3 ++ beBytes 4 length.toNat))

/-- FW_WRITE (R80). -/
def execFwWrite (via : Port) (seq : BitVec 16) (offset : BitVec 32) (data : List Byte) (s : State) : Host.Outcome State Fault Refusal :=
  .next (s.packetIn via seq 0x0F02 (beBytes 4 offset.toNat ++ beBytes 2 data.length ++ zeros 2 ++ data))

/-- FW_VERIFY (R80). -/
def execFwVerify (via : Port) (seq : BitVec 16) (s : State) : Host.Outcome State Fault Refusal := .next (s.packetIn via seq 0x0F03 ([]))

/-- FW_ACTIVATE (R80). -/
def execFwActivate (via : Port) (seq : BitVec 16) (slot : Byte) (s : State) : Host.Outcome State Fault Refusal :=
  .next (s.packetIn via seq 0x0F04 ([slot] ++ zeros 3))

/-- REBOOT (R64). -/
def execReboot (via : Port) (seq : BitVec 16) (s : State) : Host.Outcome State Fault Refusal := .next (s.packetIn via seq 0x0F05 ([]))

end Sys2Proof.Machine
end

