-- ==== Sys2Proof/Machine/Monitor.lean ====
section
/-! DEFINITION. The Brixut monitor (R440 to R443): its lines, its session and its answers. -/

namespace Sys2Proof.Machine

/-- An answer line of words. -/
def State.monAnswer (s : State) (ws : List (List Byte)) : State := s.monPut (monLineOf ws)

/-- ERR and its reason. -/
def State.monErr (s : State) (why : String) : State := s.monAnswer [ascii "ERR", ascii why]

/-- OK alone. -/
def State.monOk (s : State) : State := s.monAnswer [ascii "OK"]

/-- R440: the monitor is served: MON_CTRL.EN, and firmware runs. -/
def State.monServes (s : State) : Bool := s.flag F.MON.MON_CTRL_EN && s.firmwareRuns

/-- R441, R442: a command that wants an open session. -/
def State.inSession (s : State) (go : State → State) : State := if s.flag F.MON.MON_STAT_SESSION then go s else s.monErr "AUTH"

/-- A line comes in and is answered. -/
def State.monInput (s : State) (go : State → State) : State := if s.monServes then go (s.inc F.MON.LINES_RX) else s

/-! ### The commands (Table 19-13) -/

/-- ID. -/
def State.monId (s : State) : State :=
  let v := s.view 0x10
  let ver := decBytes (v / 2 ^ 24) ++ ascii "." ++ decBytes (v / 2 ^ 16 % 256) ++ ascii "." ++ decBytes (v % 65536)
  s.monAnswer [ascii "OK", hexBytes 8 (s.view 0), ver, hexBytes 12 s.otp.mac.toNat]

/-- NONCE. -/
def State.monTellNonce (s : State) : State := s.monAnswer [ascii "OK", hexBytes 8 s.mon.nonce.toNat]

/-- R441: the credential of the NONCE now. -/
def State.monCredential (s : State) : List Byte :=
  (hmac s.otp.monKey (ascii "BXTM" ++ beBytes 4 s.mon.nonce.toNat ++ beBytes 6 s.otp.mac.toNat)).take 16

/-- R441: a wrong credential; the third within 60 s locks AUTH out. -/
def State.monAuthFail (s : State) : State :=
  let now := s.time.dev.toNat
  let l := now :: s.mon.fails.filter (fun t => decide (now < t + 60 * 10 ^ 9))
  let s := ((({ s with mon := { s.mon with fails := l } } : State).inc F.MON.AUTH_FAIL).monErr "AUTH").raise EV_MONITOR_AUTH_FAIL 0 0
  if 3 ≤ l.length then ({ s with mon := { s.mon with fails := [] } } : State).set F.MON.MON_STAT_LOCKOUT 1 else s

/-- AUTH (R441); NONCE is drawn anew whatever the answer. -/
def State.monAuth (s : State) (credential : List Byte) : State :=
  if s.flag F.MON.MON_STAT_LOCKOUT then s.monNonce.monErr "LOCKOUT"
  else if s.otp.monKey.all (fun b => b == 0) || credential != s.monCredential then s.monNonce.monAuthFail
  else
    let s := s.monNonce.monOk
    if s.flag F.MON.MON_STAT_SESSION then s else ((s.set F.MON.MON_STAT_SESSION 1).inc F.MON.SESSIONS).raise EV_MONITOR_SESSION 0 1

/-- RD (R442, R52). -/
def State.monRead (s : State) (a n : Nat) : State :=
  s.inSession (fun s =>
    if s.touchesOff a n then s.monErr "STATE"
    else if a % 4 ≠ 0 ∨ n = 0 ∨ 64 < n ∨ oneBlock a n = false then s.monErr "PARAM"
    else
      let r := s.readWords false a n
      r.2.monAnswer (ascii "OK" :: r.1.map (fun w => hexBytes 8 w.toNat)))

/-- ST. -/
def State.monStatus (s : State) : State :=
  s.inSession (fun s => s.monAnswer (ascii "OK" :: [0x100, 0x5000000, 0x6001000, 0x7000000].map (fun a => hexBytes 8 (s.view a))))

/-- The line of a fault log entry (R442), an entry that is not held as its 16 bytes of 0xFF read (R433). -/
def State.monLogLine (s : State) (i : Nat) : List (List Byte) :=
  let b := s.logEntry i
  let n := u8 b 0
  [ascii "E", decBytes i, decBytes (u64 b 8), decBytes n, ascii (eventName n), decBytes (u8 b 1), decBytes (u16 b 4), decBytes (u16 b 6)]

/-- LOG. -/
def State.monLog (s : State) (i n : Nat) : State :=
  s.inSession (fun s =>
    if n = 0 ∨ 16 < n then s.monErr "PARAM"
    else (s.each (List.range n) (fun s k => s.monAnswer (s.monLogLine (s.logIndex (i % 65536) + k)))).monOk)

/-- EV ON and EV OFF. -/
def State.monEv (s : State) (on : Bool) : State := s.inSession (fun s => (s.setFlag F.MON.MON_STAT_EV_ON on).monOk)

/-- BYE. -/
def State.monBye (s : State) : State := s.monOk.monClose

/-! ### Lines (R440) -/

/-- Words between spaces. -/
def wordsOf : List Byte → List (List Byte)
  | [] => []
  | c :: r =>
    if c = 32 then [] :: wordsOf r
    else match wordsOf r with
      | [] => [[c]]
      | w :: ws => (c :: w) :: ws

/-- The value of a hexadecimal digit. -/
def hexValue (c : Byte) : Option Nat :=
  let n := c.toNat
  if 48 ≤ n ∧ n ≤ 57 then some (n - 48) else if 65 ≤ n ∧ n ≤ 70 then some (n - 55) else if 97 ≤ n ∧ n ≤ 102 then some (n - 87) else none

/-- A number of exactly `k` hexadecimal digits. -/
def hexOf (k : Nat) (w : List Byte) : Option Nat :=
  if w.length = k then w.foldlM (fun v c => (hexValue c).map (fun d => 16 * v + d)) 0 else none

/-- A decimal number. -/
def decOf (w : List Byte) : Option Nat :=
  if w.isEmpty then none else w.foldlM (fun v c => if 48 ≤ c.toNat ∧ c.toNat ≤ 57 then some (10 * v + (c.toNat - 48)) else none) 0

/-- A number and an optional count, by their words; none where one does not parse. -/
def numAndCount (num : List Byte → Option Nat) : List (List Byte) → Option (Nat × Nat)
  | [a] => (num a).map (fun x => (x, 1))
  | [a, n] => (num a).bind (fun x => (decOf n).map (fun k => (x, k)))
  | _ => none

/-- R442: a line is parsed; an argument that does not parse is answered ERR PARAM, for AUTH as a wrong credential. -/
def State.monParse (s : State) (line : List Byte) : State :=
  match (wordsOf line).filter (fun w => !w.isEmpty) with
  | [] => s.inSession (fun s => s.monErr "CMD")
  | c :: args =>
    if c = ascii "ID" then s.monId
    else if c = ascii "NONCE" then s.monTellNonce
    else if c = ascii "AUTH" then s.monAuth (match (args.head?).bind (hexOf 32) with
      | some v => beBytes 16 v
      | none => [])
    else if c = ascii "BYE" then s.monBye
    else if c = ascii "ST" then s.monStatus
    else if c = ascii "EV" ∧ args = [ascii "ON"] then s.monEv true
    else if c = ascii "EV" ∧ args = [ascii "OFF"] then s.monEv false
    else if c = ascii "RD" then (match numAndCount (hexOf 8) args with
      | some (a, n) => s.monRead a n
      | none => s.inSession (fun s => s.monErr "PARAM"))
    else if c = ascii "LOG" then (match numAndCount decOf args with
      | some (i, n) => s.monLog i n
      | none => s.inSession (fun s => s.monErr "PARAM"))
    else s.inSession (fun s => s.monErr "CMD")

/-- MONITOR_LINE (R440): a line of more than 80 characters is discarded. -/
def State.monLine (s : State) (line : List Byte) : State :=
  if 80 < line.length then s.monErr "LINE" else s.monParse line

/-- MON_SESSION_TIMEOUT (R441). -/
def State.monTimeout (s : State) : State := s.monClose

/-- MON_LOCKOUT_END (R441). -/
def State.monLockoutEnd (s : State) : State := s.set F.MON.MON_STAT_LOCKOUT 0

end Sys2Proof.Machine
end

