-- ==== Sys2Proof/Machine/ExecDiag.lean ====
section
/-! DEFINITION. Events of the recorder and the lines of the monitor UART. -/

namespace Sys2Proof.Machine

/-- RECORDER_TRIGGER (R436). -/
def execRecorderTrigger (s : State) : Host.Outcome State Fault Refusal := .next (State.settle (s.recTrigger))

/-- RECORDER_PRE_FILL_DONE (R435). -/
def execRecorderPreFillDone (s : State) : Host.Outcome State Fault Refusal := .next (State.settle (s.recPreDone))

/-- RECORDER_POST_FILL_DONE (R438). -/
def execRecorderPostFillDone (samples : List Byte) (s : State) : Host.Outcome State Fault Refusal := .next (State.settle (s.recStore samples))

/-- RECORDER_READ_COMPLETE (R439). -/
def execRecorderReadComplete (refused : Bool) (s : State) : Host.Outcome State Fault Refusal := .next (State.settle (s.recReadEnd refused))

/-- MONITOR_LINE (R440). -/
def execMonitorLine (line : List Byte) (s : State) : Host.Outcome State Fault Refusal := .next (State.settle (s.monInput (fun t => t.monLine line)))

/-- MON_ID (R442). -/
def execMonId (s : State) : Host.Outcome State Fault Refusal := .next (State.settle (s.monInput State.monId))

/-- MON_NONCE (R442). -/
def execMonNonce (s : State) : Host.Outcome State Fault Refusal := .next (State.settle (s.monInput State.monTellNonce))

/-- MON_AUTH (R441). -/
def execMonAuth (credential : List Byte) (s : State) : Host.Outcome State Fault Refusal :=
  .next (State.settle (s.monInput (fun t => t.monAuth credential)))

/-- MON_RD (R442). -/
def execMonRd (addr : BitVec 32) (count : Nat) (s : State) : Host.Outcome State Fault Refusal :=
  .next (State.settle (s.monInput (fun t => t.monRead addr.toNat count)))

/-- MON_ST (R442). -/
def execMonSt (s : State) : Host.Outcome State Fault Refusal := .next (State.settle (s.monInput State.monStatus))

/-- MON_LOG (R442). -/
def execMonLog (index : Nat) (count : Nat) (s : State) : Host.Outcome State Fault Refusal :=
  .next (State.settle (s.monInput (fun t => t.monLog index count)))

/-- MON_EV (R443). -/
def execMonEv (on : Bool) (s : State) : Host.Outcome State Fault Refusal := .next (State.settle (s.monInput (fun t => t.monEv on)))

/-- MON_BYE (R441). -/
def execMonBye (s : State) : Host.Outcome State Fault Refusal := .next (State.settle (s.monInput State.monBye))

/-- MON_SESSION_TIMEOUT (R441). -/
def execMonSessionTimeout (s : State) : Host.Outcome State Fault Refusal := .next (State.settle (s.monTimeout))

/-- MON_LOCKOUT_END (R441). -/
def execMonLockoutEnd (s : State) : Host.Outcome State Fault Refusal := .next (State.settle (s.monLockoutEnd))

end Sys2Proof.Machine
end

