-- ==== Sys2Proof/Machine/ExecEmitter.lean ====
section
/-! DEFINITION. Events of the emitter, the limiter and the loops. -/

namespace Sys2Proof.Machine

/-- CHARGE_TEST_COMPLETE (R94). -/
def execChargeTestComplete (reachedTarget : Bool) (timeNs : BitVec 32) (reached : BitVec 16) (s : State) : Host.Outcome State Fault Refusal :=
  .next (State.settle (s.chargeTestComplete reachedTarget timeNs.toNat reached.toNat))

/-- VSTR_SAMPLE (R92). -/
def execVstrSample (bank : Fin 8) (v : List Nat) (s : State) : Host.Outcome State Fault Refusal := .next (State.settle (s.vstrSample bank v))

/-- ANGLE_LATCH (R134). -/
def execAngleLatch (bank : Fin 8) (s : State) : Host.Outcome State Fault Refusal := .next (State.settle (s.angleLatch bank))

/-- SHOT_CONSENT (R97). -/
def execShotConsent (bank : Fin 8) (laneFault : Bool) (s : State) : Host.Outcome State Fault Refusal :=
  .next (State.settle ((s.shotConsent bank laneFault).pickIdleSlot bank))

/-- SHOT_FIRE (R95). -/
def execShotFire (bank : Fin 8) (laneFault : Bool) (s : State) : Host.Outcome State Fault Refusal := .next (State.settle (s.shotFire bank laneFault))

/-- LIMITER_SUBWINDOW_ADVANCE (R107). -/
def execLimiterSubwindowAdvance (long : Bool) (s : State) : Host.Outcome State Fault Refusal := .next (State.settle (s.subwindow long))

/-- PULSE_WIDTH_CLASSIFY (R110). -/
def execPulseWidthClassify (string : Fin 32) (rise : Option Int) (width : Nat) (highAfter20 : Bool) (s : State) : Host.Outcome State Fault Refusal :=
  .next (State.settle (s.classifyPulse string rise width highAfter20))

/-- STRAY_CURRENT (R110). -/
def execStrayCurrent (string : Fin 32) (s : State) : Host.Outcome State Fault Refusal := .next (State.settle (s.strayCurrent string))

/-- CHARGE_WINDOW_OPEN (R91). -/
def execChargeWindowOpen (bank : Fin 8) (v : List Nat) (s : State) : Host.Outcome State Fault Refusal := .next (State.settle (s.openWindow bank v))

/-- CHARGE_WINDOW_CLOSE (R91). -/
def execChargeWindowClose (bank : Fin 8) (s : State) : Host.Outcome State Fault Refusal := .next (State.settle (s.closeWindow bank))

/-- CHARGE_TARGET_REACHED (R91). -/
def execChargeTargetReached (string : Fin 32) (s : State) : Host.Outcome State Fault Refusal := .next (State.settle (s.targetReached string))

/-- STRING_OVERVOLT (R93). -/
def execStringOvervolt (string : Fin 32) (s : State) : Host.Outcome State Fault Refusal := .next (State.settle (s.overvolt string))

/-- INHIBIT_SOURCE_ASSERT (R100). -/
def execInhibitSourceAssert (srcs : BitVec 12) (s : State) : Host.Outcome State Fault Refusal := .next (State.settle (s.inhibitOn srcs.toNat))

/-- INHIBIT_SOURCE_RELEASE (R100). -/
def execInhibitSourceRelease (src : Fin 12) (s : State) : Host.Outcome State Fault Refusal := .next (State.settle (s.sourceRelease src))

/-- SHOT_TRIGGER_EDGE (R102). -/
def execShotTriggerEdge (input : Fin 4) (falling : Bool) (late tight : BitVec 8) (s : State) : Host.Outcome State Fault Refusal :=
  .next (State.settle (s.triggerEdge input falling late.toNat tight.toNat))

/-- ANGLE_SAMPLE (R127). -/
def execAngleSample (code isns : Option (BitVec 16)) (tau : Nat) (s : State) : Host.Outcome State Fault Refusal :=
  .next (State.settle (s.angleSample code isns tau))

/-- LOOP_SAMPLE (R120). -/
def execLoopSample (loop : Fin 8) (tau : Nat) (hv : List (Option (BitVec 16))) (s : State) : Host.Outcome State Fault Refusal :=
  .next (State.settle ((s.loopSample loop tau hv).auxFromLoop loop))

/-- LOOP_COEF_SET_COMPLETE (R125). -/
def execLoopCoefSetComplete (loop : Fin 8) (s : State) : Host.Outcome State Fault Refusal := .next (State.settle (s.loopCoefComplete loop))

end Sys2Proof.Machine
end

