-- ==== Sys2Proof/Machine/Transports.lean ====
section
/-! DEFINITION. The three ways a packet comes in (R34 to R40) with steps 1 to 5 of Table 2-5, and the SPI READ frame. -/

namespace Sys2Proof.Machine

/-! ### Steps 1 to 5 (R41) -/

/-- Step 1: SYNC, FLAGS bits 7:5, HCHECK (R26, R28). -/
def headerOk (b : List Byte) : Bool :=
  decide (12 ≤ b.length) && u8 b 0 == 0xB7 && u8 b 2 / 32 == 0 && u16 b 10 == hcheck b

/-- R25: the largest LENGTH on a transport. -/
def lengthLimit : Port → Nat
  | .udp _ => 1456
  | _ => 2048

/-- Bytes of a packet from SYNC to its CRC. -/
def packetBytes (b : List Byte) : Nat := 16 + pad4 (u16 b 8)

/-- Steps 3 to 5, then step 6: a packet whose header and length stand. -/
def State.checkPacket (s : State) (via : Port) (b : List Byte) : State :=
  let op := u16 b 4
  let seq := BitVec.ofNat 16 (u16 b 6)
  let n := packetBytes b - 4
  if beAt b n 4 ≠ crc32c (b.take n) then (s.inc F.CMD.CRC_ERR).refuse via op seq 0x30 0 []
  else if u8 b 3 ≠ portTag via then s.refuse via op seq 0x12 0xFE []
  else if u8 b 1 ≠ 1 then s.refuse via op seq 0x10 0xFF []
  else s.sequence via seq op ((b.drop 12).take (u16 b 8))

/-- BAD_LENGTH of step 2. -/
def State.badLength (s : State) (via : Port) (b : List Byte) : State :=
  s.refuse via (u16 b 4) (BitVec.ofNat 16 (u16 b 6)) 0x11 1 []

/-- A packet whose header passes step 1 comes in; `whole`: its transport delimits it as its LENGTH says. -/
def State.packetAt (s : State) (via : Port) (b : List Byte) (whole : Bool) : State :=
  let r := s.intake via
  if !r.1 then r.2
  else if !whole || decide (lengthLimit via < u16 b 8) then r.2.badLength via b
  else r.2.checkPacket via b

/-! ### SPI (R34, R35) -/

/-- Whether chip select wakes the device: it is in DORMANT or on its way there (R37). -/
def State.sleeps (s : State) : Bool := s.pw.st == .dormant || s.pw.st == .dormantEntry

/-- A WRITE frame (R34): `b` follows the frame byte. -/
def State.spiWrite (s : State) (b : List Byte) : State :=
  if s.sleeps then s.wakeSource 1
  else if !s.hears .spi then s
  else if b.length < 12 then (s.inc F.CMD.SPI_FRAME_ERR).settle
  else if !headerOk b then (s.inc F.CMD.HDR_ERR).settle
  else if decide (2048 < u16 b 8) then (s.packetAt .spi b true).settle
  else if b.length < packetBytes b then (s.inc F.CMD.SPI_FRAME_ERR).settle
  else (s.packetAt .spi b true).settle

/-- What a READ frame shifts out after the frame byte: the length of the packet at the head of the queue, the packet, zeros. -/
def State.spiShift (s : State) : List Byte :=
  match s.cmd.outq with
  | [] => beBytes 2 0
  | p :: _ => beBytes 2 p.length ++ p

/-- A READ frame of `n` clocked bytes (R35): a packet read to its last byte leaves the queue. -/
def State.spiRead (s : State) (n : Nat) : State :=
  if s.sleeps then s.wakeSource 1
  else if s.pw.st = .off then s
  else
    let w := s.spiShift
    let s := s.emit (.spi ((w ++ zeros (n - w.length)).take n))
    let s : State := if w.length ≤ n then { s with cmd := { s.cmd with outq := s.cmd.outq.drop 1 } } else s
    s.settle

/-- A frame whose first byte is neither 0x5A nor 0xA5 (R34). -/
def State.spiOther (s : State) (first : Byte) : State :=
  if first = 0x5A then s.spiWrite []
  else if first = 0xA5 then s.spiRead 0
  else if s.sleeps then s.wakeSource 1
  else if s.hears .spi then (s.inc F.CMD.SPI_FRAME_ERR).settle
  else s

/-! ### Ethernet and Oazil (R38, R40) -/

/-- A datagram on port 47057 (R38). -/
def State.udpIn (s : State) (src : Peer) (b : List Byte) : State :=
  if !s.hears (.udp src) then s
  else
    let s := s.inc F.ETH.RX_FRAMES
    if !headerOk b then (s.inc F.CMD.HDR_ERR).settle
    else (s.packetAt (.udp src) b (b.length == packetBytes b)).settle

/-- A packet of the upstream lane's stream 0 (R40). -/
def State.oazilPacket (s : State) (b : List Byte) : State :=
  if !s.hears .oazil then s
  else if !headerOk b then (s.inc F.CMD.HDR_ERR).settle
  else (s.packetAt .oazil b true).settle

/-- A block of the upstream lane: the packets it completes, in order. -/
def State.oazilIn (s : State) (lane : List Byte) : State :=
  let r := s.upBlock lane
  (r.1.foldl State.oazilPacket r.2).settle

end Sys2Proof.Machine
end

