-- ==== Sys2Proof/Machine/ExecFrames.lean ====
section
/-! DEFINITION. The rows that carry packets and event packets as their transports do (R34 to R40, R425). -/

namespace Sys2Proof.Machine

/-- SPI_WRITE_FRAME (R34). -/
def execSpiWriteFrame (bytes : List Byte) (s : State) : Host.Outcome State Fault Refusal := .next (s.spiWrite bytes)

/-- SPI_READ_FRAME (R35). -/
def execSpiReadFrame (clocked : Nat) (s : State) : Host.Outcome State Fault Refusal := .next (s.spiRead clocked)

/-- SPI_IGNORED_FRAME (R34). -/
def execSpiIgnoredFrame (first : Byte) (s : State) : Host.Outcome State Fault Refusal := .next (s.spiOther first)

/-- UDP_COMMAND_DATAGRAM (R38). -/
def execUdpCommandDatagram (src : Peer) (bytes : List Byte) (s : State) : Host.Outcome State Fault Refusal := .next (s.udpIn src bytes)

/-- OAZIL_UPSTREAM_BLOCK (R297). -/
def execOazilUpstreamBlock (bytes : List Byte) (s : State) : Host.Outcome State Fault Refusal := .next (s.oazilIn bytes)

/-- CONTROL_BLOCK_RECEIVED (R298). -/
def execControlBlockReceived (bytes : List Byte) (s : State) : Host.Outcome State Fault Refusal := .next (s.oazilIn bytes)

/-- EVENT_PACKET_SEND (R425). -/
def execEventPacketSend (via : Port) (s : State) : Host.Outcome State Fault Refusal := .next (State.settle (s.eventPacket via))

end Sys2Proof.Machine
end

