-- ==== Sys2Proof/Machine/ExecHk.lean ====
section
/-! DEFINITION. Events of housekeeping, the thermal hubs, calibration and the illuminators. -/

namespace Sys2Proof.Machine

/-- The result of an NTC input, if the conversion gave one, reaches the governor and the illuminators (R390, R417). -/
def ntcResult (r : Option Nat × State) : State :=
  match r.1 with
  | some i => (r.2.ntcEval i).illNtc i
  | none => r.2

/-- HK_CONVERTER_START (R368). -/
def execHkConverterStart (s : State) : Host.Outcome State Fault Refusal := .next (State.settle (s.hkStart))

/-- HK_ROUND_START (R366). -/
def execHkRoundStart (s : State) : Host.Outcome State Fault Refusal := .next (State.settle (s.hkRoundStart))

/-- HK_CONVERSION_END (R369). -/
def execHkConversionEnd (code : Int) (s : State) : Host.Outcome State Fault Refusal := .next (State.settle (ntcResult (s.hkEnd code)))

/-- HK_URGENT_COMPLETE (R371). -/
def execHkUrgentComplete (code : Int) (s : State) : Host.Outcome State Fault Refusal := .next (State.settle (ntcResult (s.urgentComplete code)))

/-- NTC_COMPARATOR_TRIP (R374). -/
def execNtcComparatorTrip (s : State) : Host.Outcome State Fault Refusal := .next (State.settle (s.ntcTrip))

/-- TIA_WORD (R377). -/
def execTiaWord (ch : Fin 4) (code : Int) (s : State) : Host.Outcome State Fault Refusal := .next (State.settle (s.tiaWord ch code))

/-- WM_SOURCE_TOGGLE (R383). -/
def execWmSourceToggle (s : State) : Host.Outcome State Fault Refusal := .next (State.settle (s.wmToggle))

/-- HUB_READING (R388). -/
def execHubReading (codes : List Int) (s : State) : Host.Outcome State Fault Refusal := .next (State.settle ((s.hubReading codes).calWatch))

/-- THERMAL_EVALUATION (R390). -/
def execThermalEvaluation (s : State) : Host.Outcome State Fault Refusal := .next (State.settle (s.thermalRound))

/-- ANALOGUE_THERMAL_TRIP (R396). -/
def execAnalogueThermalTrip (s : State) : Host.Outcome State Fault Refusal := .next (State.settle (s.analogueTrip))

/-- CAL_AUTO_RUN (R398). -/
def execCalAutoRun (s : State) : Host.Outcome State Fault Refusal := .next (State.settle (s.calAuto))

/-- CAL_ITEM_END (R400). -/
def execCalItemEnd (meas : CalMeas) (copiesWritten : Fin 3) (s : State) : Host.Outcome State Fault Refusal :=
  .next (State.settle (s.calItemEnd meas copiesWritten))

/-- CAL_RUN_COMPLETE (R397). -/
def execCalRunComplete (s : State) : Host.Outcome State Fault Refusal := .next (State.settle (s.calComplete))

/-- ILLUM_SLICE_START (R413). -/
def execIllumSliceStart (string : Fin 4) (v i : Nat) (s : State) : Host.Outcome State Fault Refusal := .next (State.settle (s.illSlice string v i))

/-- ILLUM_WINDOW_START (R414). -/
def execIllumWindowStart (string : Fin 4) (s : State) : Host.Outcome State Fault Refusal := .next (State.settle (s.illWindow string))

/-- ILLUM_WINDOW_END (R414). -/
def execIllumWindowEnd (string : Fin 4) (s : State) : Host.Outcome State Fault Refusal := .next (State.settle (s.illWindowEnd string))

/-- ILLUM_SHUNT_CROSSING (R411). -/
def execIllumShuntCrossing (string : Fin 4) (kind : BitVec 2) (s : State) : Host.Outcome State Fault Refusal :=
  .next (State.settle (s.illCross string kind.toNat))

/-- ILLUM_PROBE_END (R418). -/
def execIllumProbeEnd (string : Fin 4) (v i : Nat) (s : State) : Host.Outcome State Fault Refusal := .next (State.settle (s.illProbeEnd string v i))

/-- ILL_DRV_ON_LIMIT (R411). -/
def execIllDrvOnLimit (string : Fin 4) (s : State) : Host.Outcome State Fault Refusal := .next (State.settle (s.illOnLimit string))

end Sys2Proof.Machine
end

