-- ==== Sys2Proof/Machine/ExecLinks.lean ====
section
/-! DEFINITION. Events of the links, the network, the time base and the memory. -/

namespace Sys2Proof.Machine

/-- R327: a request whose data come back poisoned is refused: an underrun for class 1, the rules of Table 14-2 for classes 2 and 5. -/
def State.poisoned (s : State) (q : MemReq) : State :=
  if q.cls = 1 then s.poisonLine (q.src - 0x10)
  else if q.cls = 2 then (s.memRefuse 2 q.src q.n).visionRefused q.src
  else if q.cls = 5 then s.memRefuse 5 q.src q.n
  else s

/-- MEM_GRANT (R327, R329): a grant; `ecc`: 0 no link ECC error, 1 corrected, 2 uncorrectable after the retry. -/
def State.grantTo (s : State) (ecc channel : Nat) : State :=
  match s.memGrant with
  | (some q, t) =>
    if ecc = 0 then t
    else if ecc = 1 then t.inc F.MEM.LECC_CE
    else ((t.inc F.MEM.LECC_UE).raise EV_MEM_ECC channel 0).poisoned q
  | (none, t) => t

/-- CLASS2_WAIT_TIMEOUT (R331): the refused request's source drops the rest of its frame. -/
def State.class2Waited (s : State) : State :=
  match s.class2Timeout with
  | (some src, t) => t.visionRefused src
  | (none, t) => t

/-- LINK_TRAIN_COMPLETE (R306). -/
def execLinkTrainComplete (port : Fin 3) (s : State) : Host.Outcome State Fault Refusal := .next (State.settle (s.trainComplete port))

/-- TRAINING_PHASE_END (R303). -/
def execTrainingPhaseEnd (port : Fin 3) (pass : Bool) (fomTx fomRx : Byte) (s : State) : Host.Outcome State Fault Refusal :=
  .next (State.settle (s.phaseEnd port pass fomTx.toNat fomRx.toNat))

/-- CONTROL_BLOCK_SEND (R298). -/
def execControlBlockSend (s : State) : Host.Outcome State Fault Refusal := .next (State.settle (s.controlSend))

/-- BLOCK_SEND (R300). -/
def execBlockSend (port : Fin 3) (s : State) : Host.Outcome State Fault Refusal := .next (State.settle (s.blockSend port))

/-- UPSTREAM_CLOCK_LOSS (R308). -/
def execUpstreamClockLoss (s : State) : Host.Outcome State Fault Refusal := .next (State.settle (s.clockLoss))

/-- AUTO_RETRAIN (R308). -/
def execAutoRetrain (port : Fin 3) (s : State) : Host.Outcome State Fault Refusal := .next (State.settle (s.autoRetrain port))

/-- FOM_PUBLISH (R308). -/
def execFomPublish (port : Fin 3) (fom : Byte) (s : State) : Host.Outcome State Fault Refusal := .next (State.settle (s.fomPublish port fom.toNat))

/-- VNAUX_FRAME_SEND (R307). -/
def execVnauxFrameSend (port : Fin 3) (s : State) : Host.Outcome State Fault Refusal := .next (State.settle (s.auxSend port))

/-- VNAUX_REPLY (R307). -/
def execVnauxReply (port : Fin 3) (reply : Option (List Byte)) (s : State) : Host.Outcome State Fault Refusal :=
  .next (State.settle (s.auxReply port reply))

/-- ETH_LINK_CHANGE (R310). -/
def execEthLinkChange (up gigabit : Bool) (s : State) : Host.Outcome State Fault Refusal := .next (State.settle (s.ethLink up gigabit))

/-- ARP_REQUEST (R311). -/
def execArpRequest (sender : BitVec 32) (senderMac : BitVec 48) (target : BitVec 32) (s : State) : Host.Outcome State Fault Refusal :=
  .next (State.settle (s.arpRequest sender.toNat senderMac.toNat target.toNat))

/-- ARP_REPLY_RX (R311). -/
def execArpReplyRx (ip : BitVec 32) (mac : BitVec 48) (s : State) : Host.Outcome State Fault Refusal :=
  .next (State.settle (s.arpReply ip.toNat mac.toNat))

/-- ICMP_ECHO_REQUEST (R311). -/
def execIcmpEchoRequest (sender : BitVec 32) (ident seq : BitVec 16) (payload : List Byte) (s : State) : Host.Outcome State Fault Refusal :=
  .next (State.settle (s.icmpEcho sender.toNat ident.toNat seq.toNat payload))

/-- PAUSE_FRAME_RX (R310). -/
def execPauseFrameRx (quanta : BitVec 16) (s : State) : Host.Outcome State Fault Refusal := .next (State.settle (s.pauseFrame quanta.toNat))

/-- ETH_FRAME_DISCARD (R311). -/
def execEthFrameDiscard (fcsBad : Bool) (s : State) : Host.Outcome State Fault Refusal := .next (State.settle (s.ethDiscard fcsBad))

/-- STREAM_DATAGRAM_SEND (R312). -/
def execStreamDatagramSend (stream : Fin 8) (s : State) : Host.Outcome State Fault Refusal := .next (State.settle (s.streamDatagram stream))

/-- CREDIT_DATAGRAM (R312). -/
def execCreditDatagram (src : Peer) (bytes : List Byte) (s : State) : Host.Outcome State Fault Refusal :=
  .next (State.settle (s.creditDatagram src bytes))

/-- GPTP_SYNC (R316). -/
def execGptpSync (rx origin : BitVec 64) (correction ratio logInterval : Int) (followUp : Bool) (s : State) : Host.Outcome State Fault Refusal :=
  .next (State.settle (s.gptpSync rx.toNat origin.toNat correction ratio logInterval followUp))

/-- GPTP_ANNOUNCE (R315). -/
def execGptpAnnounce (bytes : List Byte) (s : State) : Host.Outcome State Fault Refusal := .next (State.settle (s.gptpAnnounce bytes))

/-- PDELAY_EXCHANGE (R315). -/
def execPdelayExchange (s : State) : Host.Outcome State Fault Refusal := .next (State.settle (s.pdelayExchange))

/-- PDELAY_REQ_RX (R315). -/
def execPdelayReqRx (request : List Byte) (s : State) : Host.Outcome State Fault Refusal := .next (State.settle (s.pdelayReq request))

/-- PDELAY_RESP_RX (R315). -/
def execPdelayRespRx (t1 t2 t3 t4 : BitVec 64) (s : State) : Host.Outcome State Fault Refusal :=
  .next (State.settle (s.pdelayResp t1.toNat t2.toNat t3.toNat t4.toNat))

/-- HOLDOVER_TIMEOUT (R314). -/
def execHoldoverTimeout (announce : Bool) (s : State) : Host.Outcome State Fault Refusal := .next (State.settle (s.holdoverTimeout announce))

/-- MEM_GRANT (R329). -/
def execMemGrant (ecc : Fin 3) (channel : Fin 2) (s : State) : Host.Outcome State Fault Refusal := .next (State.settle (s.grantTo ecc channel))

/-- CLASS2_WAIT_TIMEOUT (R331). -/
def execClass2WaitTimeout (s : State) : Host.Outcome State Fault Refusal := .next (State.settle (s.class2Waited))

/-- CLASS5_REFUSING_END (R333). -/
def execClass5RefusingEnd (s : State) : Host.Outcome State Fault Refusal := .next (State.settle (s.class5End))

/-- SELF_REFRESH_ENTRY (R336). -/
def execSelfRefreshEntry (s : State) : Host.Outcome State Fault Refusal := .next (State.settle (s.refreshEntry false))

/-- DEEP_SLEEP_ENTRY (R338). -/
def execDeepSleepEntry (s : State) : Host.Outcome State Fault Refusal := .next (State.settle (s.refreshEntry true))

/-- SELF_REFRESH_EXIT (R337). -/
def execSelfRefreshExit (s : State) : Host.Outcome State Fault Refusal := .next (State.settle (s.refreshExit))

/-- SELF_REFRESH_EXIT_DONE (R337). -/
def execSelfRefreshExitDone (s : State) : Host.Outcome State Fault Refusal := .next (State.settle (s.refreshExitDone))

end Sys2Proof.Machine
end

