-- ==== Sys2Proof/Machine/ExecPower.lean ====
section
/-! DEFINITION. Events of power, reset, boot, clocks, scan control and the fault manager. -/

namespace Sys2Proof.Machine

/-- DORMANT_ENTRY_BEGIN (R37). -/
def execDormantEntryBegin (s : State) : Host.Outcome State Fault Refusal := .next (State.settle (s.dormantBegin))

/-- DORMANT_ENTRY_COMPLETE (R22). -/
def execDormantEntryComplete (s : State) : Host.Outcome State Fault Refusal := .next (State.settle (s.dormantEnd))

/-- VDD_AON_RISE (R61). -/
def execVddAonRise (s : State) : Host.Outcome State Fault Refusal := .next (State.settle (s.aonRise))

/-- VDD_AON_LOSS (R63). -/
def execVddAonLoss (s : State) : Host.Outcome State Fault Refusal := .next (State.settle (s.aonLoss))

/-- RAIL_BROWNOUT (R62). -/
def execRailBrownout (rail : Fin 9) (s : State) : Host.Outcome State Fault Refusal := .next (State.settle (s.railBrownout rail))

/-- RAILS_GOOD (R62). -/
def execRailsGood (bootSel : BitVec 2) (s : State) : Host.Outcome State Fault Refusal := .next (State.settle (s.railsGood bootSel))

/-- RESET_N_PULSE (R65). -/
def execResetNPulse (ns : Nat) (s : State) : Host.Outcome State Fault Refusal := .next (State.settle (s.resetPulse ns))

/-- WATCHDOG_EXPIRY (R84). -/
def execWatchdogExpiry (s : State) : Host.Outcome State Fault Refusal := .next (State.settle (s.watchdogExpiry))

/-- WAKE_SOURCE (R85). -/
def execWakeSource (src : BitVec 2) (s : State) : Host.Outcome State Fault Refusal := .next (State.settle (s.wakeSource src))

/-- BOOT_ROM_START (R73). -/
def execBootRomStart (s : State) : Host.Outcome State Fault Refusal := .next (State.settle (s.bootRom))

/-- IMAGE_VERIFY_DONE (R76). -/
def execImageVerifyDone (flashError : Bool) (s : State) : Host.Outcome State Fault Refusal := .next (State.settle (s.verifyDone flashError))

/-- DOMAIN_GROUP_SWITCH_ON (R82). -/
def execDomainGroupSwitchOn (s : State) : Host.Outcome State Fault Refusal := .next (State.settle (s.domainGroup))

/-- POWER_ON_SELF_TEST_DONE (R82). -/
def execPowerOnSelfTestDone (sliceFail : BitVec 128) (regionFail : BitVec 4) (fail : BitVec 10) (bootUs : BitVec 32) (s : State) : Host.Outcome State Fault Refusal :=
  .next (State.settle (s.selfTestDone sliceFail regionFail fail bootUs.toNat))

/-- REBOOT_START (R64). -/
def execRebootStart (s : State) : Host.Outcome State Fault Refusal := .next (State.settle (s.rebootStart))

/-- PLL_UNLOCK (R12). -/
def execPllUnlock (pll : Fin 7) (s : State) : Host.Outcome State Fault Refusal := .next (State.settle (s.pllUnlock pll))

/-- PLL_LOCK (R450). -/
def execPllLock (pll : Fin 7) (s : State) : Host.Outcome State Fault Refusal := .next (State.settle (s.pllLock pll))

/-- CLOCK_MONITOR_COMPARE (R12). -/
def execClockMonitorCompare (dev : BitVec 16) (s : State) : Host.Outcome State Fault Refusal := .next (State.settle (s.clockCompare dev.toInt))

/-- CLOCK_STOP_DETECT (R12). -/
def execClockStopDetect (coarse : Bool) (s : State) : Host.Outcome State Fault Refusal := .next (State.settle (s.clockStop coarse))

/-- DOMAIN_READY (R17). -/
def execDomainReady (dom : Fin 80) (s : State) : Host.Outcome State Fault Refusal := .next (State.settle (s.domainReady dom))

/-- CAL_FIELD_RELOAD (R454). -/
def execCalFieldReload (dom : Fin 80) (s : State) : Host.Outcome State Fault Refusal := .next (State.settle (s.calReload dom))

/-- FLASH_ERASE_COMPLETE (R80). -/
def execFlashEraseComplete (s : State) : Host.Outcome State Fault Refusal := .next (State.settle (s.eraseComplete))

/-- FW_VERIFY_COMPLETE (R80). -/
def execFwVerifyComplete (flashError : Bool) (s : State) : Host.Outcome State Fault Refusal := .next (State.settle (s.fwVerifyComplete flashError))

/-- RECOVERY_TIMER_EXPIRY (R430). -/
def execRecoveryTimerExpiry (s : State) : Host.Outcome State Fault Refusal := .next (State.settle (s.timerExpiry))

/-- FAULT_CAUSE_CLEARED (R430). -/
def execFaultCauseCleared (event : BitVec 8) (s : State) : Host.Outcome State Fault Refusal := .next (State.settle (s.causeCleared event.toNat))

/-- SETTLE_TIMEOUT (R131). -/
def execSettleTimeout (s : State) : Host.Outcome State Fault Refusal := .next (State.settle (s.settleTimeout))

/-- COLUMN0_BOUNDARY_FIX (R474). -/
def execColumn0BoundaryFix (cc : Nat) (s : State) : Host.Outcome State Fault Refusal := .next (State.settle (s.column0Fix cc))

/-- COLUMN_BOUNDARY (R96). -/
def execColumnBoundary (s : State) : Host.Outcome State Fault Refusal := .next (State.settle (s.columnBoundary))

/-- THROTTLE_RESTART (R393). -/
def execThrottleRestart (s : State) : Host.Outcome State Fault Refusal := .next (State.settle (s.throttleRestart))

/-- SYNC_PULSE_RX (R321). -/
def execSyncPulseRx (width : Nat) (err : Int) (gap : Nat) (s : State) : Host.Outcome State Fault Refusal :=
  .next (State.settle (s.syncPulse width err gap))

/-- SYNC_LOST (R321). -/
def execSyncLost (s : State) : Host.Outcome State Fault Refusal := .next (State.settle (s.syncLost))

/-- SYNC_ABSENT_TIMEOUT (R322). -/
def execSyncAbsentTimeout (s : State) : Host.Outcome State Fault Refusal := .next (State.settle (s.syncAbsent))

/-- FILTER_SYNC_TIMEOUT (R320). -/
def execFilterSyncTimeout (s : State) : Host.Outcome State Fault Refusal := .next (State.settle (s.filterTimeout))

/-- HK_SYNC_EDGE (R320). -/
def execHkSyncEdge (s : State) : Host.Outcome State Fault Refusal := .next (State.settle (s.syncEdge))

end Sys2Proof.Machine
end

