-- ==== Sys2Proof/Machine/ExecRanging.lean ====
section
/-! DEFINITION. Events of the receiver, time measurement, the histograms, the peak engine and the point stream. -/

namespace Sys2Proof.Machine

/-- BUFFER_SWAP (R188): the swap of a bank, and STARTED of the column that it closes (R171). -/
def State.swapBank (s : State) (b : Nat) : State :=
  let x := s.rxBank b
  let s' := s.bufferSwap b
  s'.when (s.domOn 69 && x.isOpen) (fun t => t.noteStarted b x.accCol)

/-- PICKOFF_EDGE (R171). -/
def execPickoffEdge (bank : Fin 8) (cc : Nat) (tap : Fin 64) (s : State) : Host.Outcome State Fault Refusal :=
  .next (State.settle (s.pickoffEdge bank cc tap))

/-- PICKOFF_WINDOW_END (R171). -/
def execPickoffWindowEnd (bank : Fin 8) (s : State) : Host.Outcome State Fault Refusal := .next (State.settle (s.pickoffWindowEnd bank))

/-- HV_OVERVOLT (R146). -/
def execHvOvervolt (hv : BitVec 16) (s : State) : Host.Outcome State Fault Refusal := .next (State.settle (s.hvOvervolt hv.toNat))

/-- REF_CELL_TRIGGER (R147). -/
def execRefCellTrigger (swings : List (Option Nat)) (s : State) : Host.Outcome State Fault Refusal := .next (State.settle (s.refTrigger swings))

/-- VEX_UPDATE (R147). -/
def execVexUpdate (s : State) : Host.Outcome State Fault Refusal := .next (State.settle (s.vexUpdate))

/-- ROW_ARM (R151). -/
def execRowArm (row : Fin 1024) (s : State) : Host.Outcome State Fault Refusal := .next (State.settle (s.rowArm row))

/-- ROW_DISARM (R151). -/
def execRowDisarm (row : Fin 1024) (armed : Nat) (clocks : List Nat) (s : State) : Host.Outcome State Fault Refusal :=
  .next (State.settle (s.rowDisarm row armed clocks))

/-- COINCIDENCE_EVENT (R153). -/
def execCoincidenceEvent (row : Fin 1024) (cc : Nat) (phase : Fin 8) (cells : Nat) (s : State) : Host.Outcome State Fault Refusal :=
  .next (State.settle (s.rowEvent row cc phase cells))

/-- CELL_FIRING (R156). -/
def execCellFiring (row : Fin 1024) (q : Fin 8) (cell : Fin 36) (s : State) : Host.Outcome State Fault Refusal :=
  .next (State.settle (s.cellFiring row q cell))

/-- LANE_RMW_CYCLE (R183). -/
def execLaneRmwCycle (row : Fin 1024) (lane : Bool) (ecc : Fin 3) (s : State) : Host.Outcome State Fault Refusal :=
  .next (State.settle (s.laneCycle row (bit lane) ecc))

/-- ZOOM_SNAPSHOT (R186). -/
def execZoomSnapshot (row : Fin 1024) (s : State) : Host.Outcome State Fault Refusal := .next (State.settle (s.zoomSnapshot row))

/-- BUFFER_SWAP (R188). -/
def execBufferSwap (bank : Fin 8) (s : State) : Host.Outcome State Fault Refusal := .next (State.settle (s.swapBank bank))

/-- ROW_READOUT (R189). -/
def execRowReadout (row : Fin 1024) (ecc : Fin 3) (word : Fin 144) (s : State) : Host.Outcome State Fault Refusal :=
  .next (State.settle (s.rowReadout row ecc word))

/-- REGION_COLUMN_RELEASE (R215). -/
def execRegionColumnRelease (region : Fin 4) (s : State) : Host.Outcome State Fault Refusal := .next (State.settle (s.columnRelease region))

/-- PEAK_SELFCHECK (R216). -/
def execPeakSelfcheck (region : Fin 4) (matched : Bool) (s : State) : Host.Outcome State Fault Refusal :=
  .next (State.settle (s.selfCheck region matched))

/-- DLL_UNLOCK (R169). -/
def execDllUnlock (ch : Fin 12) (s : State) : Host.Outcome State Fault Refusal := .next (State.settle (s.dllUnlock ch))

/-- DLL_LOCK (R169). -/
def execDllLock (ch : Fin 12) (s : State) : Host.Outcome State Fault Refusal := .next (State.settle (s.dllLock ch))

/-- DLL_RELOCK_TIMEOUT (R169). -/
def execDllRelockTimeout (ch : Fin 12) (s : State) : Host.Outcome State Fault Refusal := .next (State.settle (s.dllRelockTimeout ch))

/-- TIN_EDGE (R172). -/
def execTinEdge (input : Fin 4) (falling : Bool) (cc : Nat) (tap : Fin 64) (s : State) : Host.Outcome State Fault Refusal :=
  .next (State.settle (s.tinEdge input falling cc tap))

/-- TIN_INTERVAL_TIMEOUT (R175). -/
def execTinIntervalTimeout (ch : Fin 4) (s : State) : Host.Outcome State Fault Refusal := .next (State.settle (s.tinTimeout (8 + ch)))

/-- HIST_DUMP_COMPLETE (R195). -/
def execHistDumpComplete (s : State) : Host.Outcome State Fault Refusal := .next (State.settle (s.dumpComplete))

/-- COLUMN_RECORD_BUILD (R224). -/
def execColumnRecordBuild (s : State) : Host.Outcome State Fault Refusal := .next (State.settle (s.recordBuild))

/-- REGION_PART_LATE (R224). -/
def execRegionPartLate (s : State) : Host.Outcome State Fault Refusal := .next (State.settle (s.partLate))

/-- FRAME_END_RECORD (R229). -/
def execFrameEndRecord (s : State) : Host.Outcome State Fault Refusal := .next (State.settle (s.frameEnd))

/-- OVERFLOW_CHAIN_REFILL (R233). -/
def execOverflowChainRefill (s : State) : Host.Outcome State Fault Refusal := .next (State.settle (s.chainRefill))

/-- CONTEXT_SAVE_COMPLETE (R238). -/
def execContextSaveComplete (s : State) : Host.Outcome State Fault Refusal := .next (State.settle (s.contextSaveComplete))

/-- CONTEXT_RESTORE_COMPLETE (R239). -/
def execContextRestoreComplete (s : State) : Host.Outcome State Fault Refusal := .next (State.settle (s.contextRestoreComplete))

/-- DECOMPRESS_COMPLETE (R241). -/
def execDecompressComplete (s : State) : Host.Outcome State Fault Refusal := .next (State.settle (s.decompressComplete))

end Sys2Proof.Machine
end

