-- ==== Sys2Proof/Machine/ExecRegisters.lean ====
section
/-! DEFINITION. The rows of register writes: each is the REG_WRITE of its words (R53), TB_TIME_LO_READ the REG_READ. -/

namespace Sys2Proof.Machine

/-- The address of entry `i` of a channel's LIN table. -/
def linWord (c i : Nat) : Nat := (F.CH.LIN c i).addr

/-- PWR_DOM_REQ_WRITE (R18). -/
def execPwrDomReqWrite (via : Port) (seq : BitVec 16) (index : Fin 3) (value : BitVec 32) (s : State) : Host.Outcome State Fault Refusal :=
  .next (s.write1 via seq (F.SYS.PWR_DOM_REQ0_REQ.addr + 4 * index.val) (value))

/-- EMIT_INHIBIT_LATCH_WRITE (R100). -/
def execEmitInhibitLatchWrite (via : Port) (seq : BitVec 16) (value : BitVec 32) (s : State) : Host.Outcome State Fault Refusal :=
  .next (s.write1 via seq (F.SHT.EMIT_INHIBIT_LATCH_SRC.addr) (value))

/-- STRING_FAULT_CLEAR (R109). -/
def execStringFaultClear (via : Port) (seq : BitVec 16) (string : Fin 32) (value : BitVec 32) (s : State) : Host.Outcome State Fault Refusal :=
  .next (s.write1 via seq ((F.STR.STR_STAT_LIVE string).addr) (value))

/-- PICKOFF_LOST_CLEAR (R111). -/
def execPickoffLostClear (via : Port) (seq : BitVec 16) (bank : Fin 8) (value : BitVec 32) (s : State) : Host.Outcome State Fault Refusal :=
  .next (s.write1 via seq ((F.BNK.BANK_STAT_PICKOFF_LOST bank).addr) (value))

/-- DERATE_CFG_WRITE (R113). -/
def execDerateCfgWrite (via : Port) (seq : BitVec 16) (value : BitVec 32) (s : State) : Host.Outcome State Fault Refusal :=
  .next (s.write1 via seq (F.SHT.DERATE_CFG_FLOOR.addr) (value))

/-- LOOP_SWAP_WRITE (R124). -/
def execLoopSwapWrite (via : Port) (seq : BitVec 16) (loop : Fin 8) (s : State) : Host.Outcome State Fault Refusal :=
  .next (s.write1 via seq ((F.LOOP.LOOP_CTRL_SWAP loop).addr) (BitVec.ofNat 32 (s.view (F.LOOP.LOOP_CTRL_SWAP loop).addr) ||| 0x10))

/-- LOOP_RATE_WRITE (R117). -/
def execLoopRateWrite (via : Port) (seq : BitVec 16) (loop : Fin 8) (value : BitVec 32) (s : State) : Host.Outcome State Fault Refusal :=
  .next (s.write1 via seq ((F.LOOP.LOOP_RATE_DIV loop).addr) (value))

/-- FB_LATCH_CLEAR (R138). -/
def execFbLatchClear (via : Port) (seq : BitVec 16) (loop : Fin 8) (value : BitVec 32) (s : State) : Host.Outcome State Fault Refusal :=
  .next (s.write1 via seq ((F.LOOP.LOOP_STAT_FB_LOST loop).addr) (value))

/-- HV_OVP_CLEAR (R146). -/
def execHvOvpClear (via : Port) (seq : BitVec 16) (s : State) : Host.Outcome State Fault Refusal :=
  .next (s.write1 via seq (F.RX.RX_STAT_HV_OVP.addr) (0x20))

/-- CELL_MAP_WRITE (R142). -/
def execCellMapWrite (via : Port) (seq : BitVec 16) (row : Fin 1024) (q : Fin 8) (lo hi : BitVec 32) (s : State) : Host.Outcome State Fault Refusal :=
  .next (s.packetIn via seq 0x0009 (regWritePayload ((F.ROW.EN_LO row q).addr) [lo, hi]))

/-- LADDER_WRITE (R158). -/
def execLadderWrite (via : Port) (seq : BitVec 16) (step : Fin 6) (value : BitVec 32) (s : State) : Host.Outcome State Fault Refusal :=
  .next (s.write1 via seq ((F.RX.LADDER_K step).addr) (value))

/-- SLC_ECC_INJ_WRITE (R184). -/
def execSlcEccInjWrite (via : Port) (seq : BitVec 16) (slice : Fin 128) (value : BitVec 32) (s : State) : Host.Outcome State Fault Refusal :=
  .next (s.write1 via seq ((F.SLC.SLC_ECC_INJ_BITS slice).addr) (value))

/-- TAP_MAP_WRITE (R169). -/
def execTapMapWrite (via : Port) (seq : BitVec 16) (ch : Fin 12) (w0 w1 w2 : BitVec 32) (s : State) : Host.Outcome State Fault Refusal :=
  .next (s.packetIn via seq 0x0009 (regWritePayload ((F.CH.CH_TAPMAP0_MAP ch).addr) [w0, w1, w2]))

/-- LIN_TABLE_WRITE (R169). -/
def execLinTableWrite (via : Port) (seq : BitVec 16) (ch : Fin 12) (first : Fin 64) (values : List Word) (s : State) : Host.Outcome State Fault Refusal :=
  .next (s.packetIn via seq 0x0009 (regWritePayload (linWord ch first) values))

/-- Q_POP_WRITE (R176). -/
def execQPopWrite (via : Port) (seq : BitVec 16) (ch : Fin 12) (s : State) : Host.Outcome State Fault Refusal :=
  .next (s.write1 via seq ((F.CH.Q_POP_POP ch).addr) (1))

/-- PS_CTRL_WRITE (R237). -/
def execPsCtrlWrite (via : Port) (seq : BitVec 16) (value : BitVec 32) (s : State) : Host.Outcome State Fault Refusal :=
  .next (s.write1 via seq (F.PS.PS_CTRL_EN.addr) (value))

/-- OVF_CONFIG_WRITE (R233). -/
def execOvfConfigWrite (via : Port) (seq : BitVec 16) (addr : BitVec 32) (values : List Word) (s : State) : Host.Outcome State Fault Refusal :=
  .next (s.packetIn via seq 0x0009 (regWritePayload (addr.toNat) values))

/-- FUS_CTRL_WRITE (R267). -/
def execFusCtrlWrite (via : Port) (seq : BitVec 16) (value : BitVec 32) (s : State) : Host.Outcome State Fault Refusal :=
  .next (s.write1 via seq (F.FUS.FUS_CTRL_EN.addr) (value))

/-- COMMIT_REQ_WRITE (R278). -/
def execCommitReqWrite (via : Port) (seq : BitVec 16) (disp : Fin 2) (s : State) : Host.Outcome State Fault Refusal :=
  .next (s.write1 via seq ((F.DSP.DISP_CTRL_COMMIT_REQ disp).addr) (1))

/-- TB_TIME_LO_READ (R313). -/
def execTbTimeLoRead (via : Port) (seq : BitVec 16) (s : State) : Host.Outcome State Fault Refusal :=
  .next (s.packetIn via seq 0x0008 (regReadPayload F.TB.TB_TIME_LO.addr 1))

/-- ILL_FAULT_CLEAR (R419). -/
def execIllFaultClear (via : Port) (seq : BitVec 16) (string : Fin 4) (value : BitVec 32) (s : State) : Host.Outcome State Fault Refusal :=
  .next (s.write1 via seq ((F.ILS.ILL_STR_STAT_OPEN string).addr) (value))

/-- ILL_THERM_WRITE (R417). -/
def execIllThermWrite (via : Port) (seq : BitVec 16) (value : BitVec 32) (s : State) : Host.Outcome State Fault Refusal :=
  .next (s.write1 via seq (F.ILL.ILL_THERM_OFF.addr) (value))

/-- FM_FIRST_CLEAR (R432). -/
def execFmFirstClear (via : Port) (seq : BitVec 16) (s : State) : Host.Outcome State Fault Refusal :=
  .next (s.write1 via seq (F.FM.FM_FIRST_VALID.addr) (0x80000000))

/-- FM_CLASS_WRITE (R428). -/
def execFmClassWrite (via : Port) (seq : BitVec 16) (index : Fin 16) (value : BitVec 32) (s : State) : Host.Outcome State Fault Refusal :=
  .next (s.write1 via seq ((F.FM.FM_CLASS_CLASS index).addr) (value))

/-- PE_CONFIG_WRITE (R219). -/
def execPeConfigWrite (via : Port) (seq : BitVec 16) (addr : BitVec 32) (values : List Word) (s : State) : Host.Outcome State Fault Refusal :=
  .next (s.packetIn via seq 0x0009 (regWritePayload (addr.toNat) values))

/-- PIPE_CFG_WRITE (R272). -/
def execPipeCfgWrite (via : Port) (seq : BitVec 16) (addr : BitVec 32) (values : List Word) (s : State) : Host.Outcome State Fault Refusal :=
  .next (s.packetIn via seq 0x0009 (regWritePayload (addr.toNat) values))

/-- LAT_CFG_WRITE (R337). -/
def execLatCfgWrite (via : Port) (seq : BitVec 16) (value : BitVec 32) (s : State) : Host.Outcome State Fault Refusal :=
  .next (s.write1 via seq (F.MEM.LAT_CFG_SR_WAKE.addr) (value))

/-- THERMAL_THRESHOLD_WRITE (R389). -/
def execThermalThresholdWrite (via : Port) (seq : BitVec 16) (addr : BitVec 32) (value : BitVec 32) (s : State) : Host.Outcome State Fault Refusal :=
  .next (s.write1 via seq (addr.toNat) (value))

/-- TIA_CFG_WRITE (R379). -/
def execTiaCfgWrite (via : Port) (seq : BitVec 16) (ch : Fin 4) (value : BitVec 32) (s : State) : Host.Outcome State Fault Refusal :=
  .next (s.write1 via seq ((F.TIA.TIA_CFG_EN ch).addr) (value))

/-- WM_CTRL_WRITE (R383). -/
def execWmCtrlWrite (via : Port) (seq : BitVec 16) (value : BitVec 32) (s : State) : Host.Outcome State Fault Refusal :=
  .next (s.write1 via seq (F.HK.WM_CTRL_AUTO.addr) (value))

end Sys2Proof.Machine
end

