-- ==== Sys2Proof/Machine/ExecSafety.lean ====
section
/-! DEFINITION. Events of Region S and of commissioning. -/

namespace Sys2Proof.Machine

/-- REGION_S_CYCLE (R353). -/
def execRegionSCycle (pins : BitVec 32) (laneFault tableUe : Bool) (s : State) : Host.Outcome State Fault Refusal :=
  .next (State.settle (s.regionCycle pins.toNat laneFault tableUe))

/-- TEST_PULSE (R350). -/
def execTestPulse (out : Fin 4) (channelB : Bool) (s : State) : Host.Outcome State Fault Refusal := .next (State.settle (s.testPulse out channelB))

/-- SAFETY_COLUMN_EVAL (R346). -/
def execSafetyColumnEval (s : State) : Host.Outcome State Fault Refusal := .next (State.settle (s.safetyColumn))

/-- COLUMN_TIMEOUT (R346). -/
def execColumnTimeout (s : State) : Host.Outcome State Fault Refusal := .next (State.settle (s.columnTimeout))

/-- RANGING_INVALID_CAUSE (R346). -/
def execRangingInvalidCause (cause : Fin 8) (s : State) : Host.Outcome State Fault Refusal := .next (State.settle (s.invalidCause cause))

/-- REGION_S_CONFIG_LOAD (R360). -/
def execRegionSConfigLoad (s : State) : Host.Outcome State Fault Refusal := .next (State.settle (s.safeLoad))

/-- LIMIT_TABLE_BUILT (R344). -/
def execLimitTableBuilt (s : State) : Host.Outcome State Fault Refusal := .next (State.settle (s.tablesBuilt))

/-- COMMISSION_COMMIT_COMPLETE (R359). -/
def execCommissionCommitComplete (copiesWritten : Fin 3) (s : State) : Host.Outcome State Fault Refusal :=
  .next (State.settle (s.commitEnd copiesWritten))

/-- SESSION_TIMEOUT (R356). -/
def execSessionTimeout (s : State) : Host.Outcome State Fault Refusal := .next (State.settle (s.closeCommissioning))

/-- CREDENTIAL_LOCKOUT_END (R356). -/
def execCredentialLockoutEnd (s : State) : Host.Outcome State Fault Refusal := .next (State.settle (s.lockoutEnd))

/-- SAFETY_STATUS_RECORD (R361). -/
def execSafetyStatusRecord (s : State) : Host.Outcome State Fault Refusal := .next (State.settle (s.safetyRecord))

end Sys2Proof.Machine
end

