-- ==== Sys2Proof/Machine/ExecVision.lean ====
section
/-! DEFINITION. Events of the cameras, the pipeline, fusion and the displays. -/

namespace Sys2Proof.Machine

/-- CSI_FRAME_START (R247). -/
def execCsiFrameStart (cam : Fin 2) (frame : BitVec 16) (s : State) : Host.Outcome State Fault Refusal :=
  .next (State.settle ((s.illFs cam).csiFs cam frame.toNat))

/-- CSI_LINE_PACKET (R248). -/
def execCsiLinePacket (cam : Fin 2) (wordCount : BitVec 16) (crcOk : Bool) (pixels : List Byte) (hdr : Fin 3) (overflow : Bool) (s : State) : Host.Outcome State Fault Refusal :=
  .next (State.settle (s.csiLine cam wordCount.toNat crcOk pixels hdr overflow))

/-- CSI_FRAME_END (R248). -/
def execCsiFrameEnd (cam : Fin 2) (_frame : BitVec 16) (s : State) : Host.Outcome State Fault Refusal :=
  .next (State.settle ((s.csiFe cam).lockFe cam))

/-- CSI_LINE_TIMEOUT (R248). -/
def execCsiLineTimeout (cam : Fin 2) (s : State) : Host.Outcome State Fault Refusal := .next (State.settle (s.csiTimeout cam))

/-- CSI_NON_IMAGE_PACKET (R245). -/
def execCsiNonImagePacket (cam : Fin 2) (vc : BitVec 4) (dt : BitVec 6) (bytes : List Byte) (s : State) : Host.Outcome State Fault Refusal :=
  .next (State.settle (s.csiOther cam vc.toNat dt.toNat bytes))

/-- DEFERRED_FRAME_START (R254). -/
def execDeferredFrameStart (s : State) : Host.Outcome State Fault Refusal := .next (State.settle (s.deferredStart))

/-- STRIPE_READY (R255). -/
def execStripeReady (ctx : Fin 4) (s : State) : Host.Outcome State Fault Refusal := .next (State.settle (s.stripe ctx))

/-- STRIP_RECORD_SEND (R264). -/
def execStripRecordSend (ctx : Fin 4) (coding : Bool) (level : Fin 3) (s : State) : Host.Outcome State Fault Refusal :=
  .next (State.settle (s.strip ctx coding level))

/-- PIPELINE_FRAME_CLOSE (R263). -/
def execPipelineFrameClose (ctx : Fin 4) (s : State) : Host.Outcome State Fault Refusal := .next (State.settle (s.frameClose ctx))

/-- STATS_REQUEST_COMPLETE (R262). -/
def execStatsRequestComplete (context : Fin 4) (frameClosed : Bool) (s : State) : Host.Outcome State Fault Refusal :=
  .next (State.settle (s.statsComplete context frameClosed))

/-- REPROCESS_COMPLETE (R257). -/
def execReprocessComplete (context : Fin 4) (s : State) : Host.Outcome State Fault Refusal := .next (State.settle (s.reprocessComplete context))

/-- FUSION_COLUMN (R266). -/
def execFusionColumn (s : State) : Host.Outcome State Fault Refusal := .next (State.settle (s.fusionColumn))

/-- DEPTH_MAP_CLOSE (R268). -/
def execDepthMapClose (cam : Fin 2) (s : State) : Host.Outcome State Fault Refusal := .next (State.settle (s.depthMapClose cam))

/-- DEPTH_MAP_STALE (R268). -/
def execDepthMapStale (cam : Fin 2) (s : State) : Host.Outcome State Fault Refusal := .next (State.settle (s.depthMapStale cam))

/-- FLIP_POINT (R274). -/
def execFlipPoint (disp : Fin 2) (s : State) : Host.Outcome State Fault Refusal := .next (State.settle (s.flipPoint disp))

/-- DISPLAY_LINE_START (R288). -/
def execDisplayLineStart (disp : Fin 2) (line : Nat) (s : State) : Host.Outcome State Fault Refusal := .next (State.settle (s.lineStart disp line))

/-- FRAME_LOCK_LOST_TIMEOUT (R284). -/
def execFrameLockLostTimeout (disp : Fin 2) (s : State) : Host.Outcome State Fault Refusal := .next (State.settle (s.lockTimeout disp))

end Sys2Proof.Machine
end

