-- ==== Sys2Proof/Machine/Dispatch.lean ====
section
/-! DEFINITION. One arm per command: each a direct call of its meaning. -/

namespace Sys2Proof.Machine

/-- The effect of one command or event on everything but the queue. -/
def exec (i : Instr) (s : State) : Host.Outcome State Fault Refusal :=
  match i with
  | .spiWriteFrame bytes => Sys2Proof.Machine.execSpiWriteFrame bytes s
  | .spiReadFrame clocked => Sys2Proof.Machine.execSpiReadFrame clocked s
  | .udpCommandDatagram src bytes => Sys2Proof.Machine.execUdpCommandDatagram src bytes s
  | .oazilUpstreamBlock bytes => Sys2Proof.Machine.execOazilUpstreamBlock bytes s
  | .eventPacketSend via => Sys2Proof.Machine.execEventPacketSend via s
  | .ping via seq => Sys2Proof.Machine.execPing via seq s
  | .identify via seq => Sys2Proof.Machine.execIdentify via seq s
  | .status via seq => Sys2Proof.Machine.execStatus via seq s
  | .sessionReset via seq => Sys2Proof.Machine.execSessionReset via seq s
  | .cmdStatus via seq target => Sys2Proof.Machine.execCmdStatus via seq target s
  | .regRead via seq addr count => Sys2Proof.Machine.execRegRead via seq addr count s
  | .regWrite via seq addr values => Sys2Proof.Machine.execRegWrite via seq addr values s
  | .regRmw via seq addr mask value => Sys2Proof.Machine.execRegRmw via seq addr mask value s
  | .dormant via seq => Sys2Proof.Machine.execDormant via seq s
  | .dormantEntryBegin => Sys2Proof.Machine.execDormantEntryBegin s
  | .dormantEntryComplete => Sys2Proof.Machine.execDormantEntryComplete s
  | .safeHold via seq => Sys2Proof.Machine.execSafeHold via seq s
  | .faultClear via seq => Sys2Proof.Machine.execFaultClear via seq s
  | .eventSubscribe via seq mask => Sys2Proof.Machine.execEventSubscribe via seq mask s
  | .scanStart via seq profile flags => Sys2Proof.Machine.execScanStart via seq profile flags s
  | .settleTimeout => Sys2Proof.Machine.execSettleTimeout s
  | .scanStop via seq => Sys2Proof.Machine.execScanStop via seq s
  | .profileOverride via seq profile field value => Sys2Proof.Machine.execProfileOverride via seq profile field value s
  | .profileRead via seq profile => Sys2Proof.Machine.execProfileRead via seq profile s
  | .histDump via seq firstRow rows columns parts => Sys2Proof.Machine.execHistDump via seq firstRow rows columns parts s
  | .histDumpComplete => Sys2Proof.Machine.execHistDumpComplete s
  | .histDumpCancel via seq => Sys2Proof.Machine.execHistDumpCancel via seq s
  | .emitterInhibit via seq inhibit => Sys2Proof.Machine.execEmitterInhibit via seq inhibit s
  | .stringEnable via seq mask => Sys2Proof.Machine.execStringEnable via seq mask s
  | .chargeTest via seq string target => Sys2Proof.Machine.execChargeTest via seq string target s
  | .chargeTestComplete reachedTarget timeNs reached => Sys2Proof.Machine.execChargeTestComplete reachedTarget timeNs reached s
  | .limiterRead via seq => Sys2Proof.Machine.execLimiterRead via seq s
  | .triggerConfig via seq input bankMask edge => Sys2Proof.Machine.execTriggerConfig via seq input bankMask edge s
  | .loopMode via seq loop mode => Sys2Proof.Machine.execLoopMode via seq loop mode s
  | .loopCoefSet via seq loop coef => Sys2Proof.Machine.execLoopCoefSet via seq loop coef s
  | .loopCoefSetComplete loop => Sys2Proof.Machine.execLoopCoefSetComplete loop s
  | .loopSetpoint via seq loop sp => Sys2Proof.Machine.execLoopSetpoint via seq loop sp s
  | .loopRead via seq loop => Sys2Proof.Machine.execLoopRead via seq loop s
  | .trajectoryLoad via seq first entries => Sys2Proof.Machine.execTrajectoryLoad via seq first entries s
  | .camConfig via seq camera block => Sys2Proof.Machine.execCamConfig via seq camera block s
  | .camRun via seq camera run => Sys2Proof.Machine.execCamRun via seq camera run s
  | .pipeContextSet via seq context stage data => Sys2Proof.Machine.execPipeContextSet via seq context stage data s
  | .statsRequest via seq context => Sys2Proof.Machine.execStatsRequest via seq context s
  | .statsRequestComplete context frameClosed => Sys2Proof.Machine.execStatsRequestComplete context frameClosed s
  | .reprocess via seq context addr => Sys2Proof.Machine.execReprocess via seq context addr s
  | .reprocessComplete context => Sys2Proof.Machine.execReprocessComplete context s
  | .dispMode via seq display block => Sys2Proof.Machine.execDispMode via seq display block s
  | .layerSet via seq display layer block => Sys2Proof.Machine.execLayerSet via seq display layer block s
  | .commit via seq display => Sys2Proof.Machine.execCommit via seq display s
  | .dispRun via seq display run => Sys2Proof.Machine.execDispRun via seq display run s
  | .linkTrain via seq port rate => Sys2Proof.Machine.execLinkTrain via seq port rate s
  | .linkTrainComplete port => Sys2Proof.Machine.execLinkTrainComplete port s
  | .linkStatus via seq port => Sys2Proof.Machine.execLinkStatus via seq port s
  | .timeRead via seq => Sys2Proof.Machine.execTimeRead via seq s
  | .timeConfig via seq block => Sys2Proof.Machine.execTimeConfig via seq block s
  | .netConfig via seq ip mask gw vlan => Sys2Proof.Machine.execNetConfig via seq ip mask gw vlan s
  | .syncConfig via seq role slotOffset => Sys2Proof.Machine.execSyncConfig via seq role slotOffset s
  | .safetyStatus via seq => Sys2Proof.Machine.execSafetyStatus via seq s
  | .commissionOpen via seq credential => Sys2Proof.Machine.execCommissionOpen via seq credential s
  | .fieldWrite via seq session field vertices block => Sys2Proof.Machine.execFieldWrite via seq session field vertices block s
  | .safetyParamWrite via seq session param value => Sys2Proof.Machine.execSafetyParamWrite via seq session param value s
  | .commissionCommit via seq session crc => Sys2Proof.Machine.execCommissionCommit via seq session crc s
  | .commissionCommitComplete copiesWritten => Sys2Proof.Machine.execCommissionCommitComplete copiesWritten s
  | .commissionAbort via seq session => Sys2Proof.Machine.execCommissionAbort via seq session s
  | .hkConfig via seq block => Sys2Proof.Machine.execHkConfig via seq block s
  | .hkUrgent via seq slot => Sys2Proof.Machine.execHkUrgent via seq slot s
  | .hkUrgentComplete code => Sys2Proof.Machine.execHkUrgentComplete code s
  | .filterSync via seq => Sys2Proof.Machine.execFilterSync via seq s
  | .filterSyncTimeout => Sys2Proof.Machine.execFilterSyncTimeout s
  | .tiaRange via seq channel range => Sys2Proof.Machine.execTiaRange via seq channel range s
  | .thermalRead via seq => Sys2Proof.Machine.execThermalRead via seq s
  | .calRun via seq items => Sys2Proof.Machine.execCalRun via seq items s
  | .calRunComplete => Sys2Proof.Machine.execCalRunComplete s
  | .calRecordRead via seq record => Sys2Proof.Machine.execCalRecordRead via seq record s
  | .auxoutSet via seq value => Sys2Proof.Machine.execAuxoutSet via seq value s
  | .illSet via seq mask level => Sys2Proof.Machine.execIllSet via seq mask level s
  | .recorderArm via seq block => Sys2Proof.Machine.execRecorderArm via seq block s
  | .recorderForce via seq => Sys2Proof.Machine.execRecorderForce via seq s
  | .recorderRead via seq capture => Sys2Proof.Machine.execRecorderRead via seq capture s
  | .recorderReadComplete refused => Sys2Proof.Machine.execRecorderReadComplete refused s
  | .faultLogRead via seq first count => Sys2Proof.Machine.execFaultLogRead via seq first count s
  | .classCountersRead via seq => Sys2Proof.Machine.execClassCountersRead via seq s
  | .monitorControl via seq enable => Sys2Proof.Machine.execMonitorControl via seq enable s
  | .compConfig via seq level context => Sys2Proof.Machine.execCompConfig via seq level context s
  | .compContextSave via seq context addr => Sys2Proof.Machine.execCompContextSave via seq context addr s
  | .contextSaveComplete => Sys2Proof.Machine.execContextSaveComplete s
  | .compContextRestore via seq context addr => Sys2Proof.Machine.execCompContextRestore via seq context addr s
  | .contextRestoreComplete => Sys2Proof.Machine.execContextRestoreComplete s
  | .decompress via seq src srcLen dst limit => Sys2Proof.Machine.execDecompress via seq src srcLen dst limit s
  | .decompressComplete => Sys2Proof.Machine.execDecompressComplete s
  | .flashRead via seq addr length => Sys2Proof.Machine.execFlashRead via seq addr length s
  | .fwInfo via seq => Sys2Proof.Machine.execFwInfo via seq s
  | .fwBegin via seq slot length => Sys2Proof.Machine.execFwBegin via seq slot length s
  | .flashEraseComplete => Sys2Proof.Machine.execFlashEraseComplete s
  | .fwWrite via seq offset data => Sys2Proof.Machine.execFwWrite via seq offset data s
  | .fwVerify via seq => Sys2Proof.Machine.execFwVerify via seq s
  | .fwVerifyComplete flashError => Sys2Proof.Machine.execFwVerifyComplete flashError s
  | .fwActivate via seq slot => Sys2Proof.Machine.execFwActivate via seq slot s
  | .reboot via seq => Sys2Proof.Machine.execReboot via seq s
  | .vddAonRise => Sys2Proof.Machine.execVddAonRise s
  | .vddAonLoss => Sys2Proof.Machine.execVddAonLoss s
  | .railBrownout rail => Sys2Proof.Machine.execRailBrownout rail s
  | .railsGood bootSel => Sys2Proof.Machine.execRailsGood bootSel s
  | .resetNPulse ns => Sys2Proof.Machine.execResetNPulse ns s
  | .watchdogExpiry => Sys2Proof.Machine.execWatchdogExpiry s
  | .wakeSource src => Sys2Proof.Machine.execWakeSource src s
  | .bootRomStart => Sys2Proof.Machine.execBootRomStart s
  | .imageVerifyDone flashError => Sys2Proof.Machine.execImageVerifyDone flashError s
  | .domainGroupSwitchOn => Sys2Proof.Machine.execDomainGroupSwitchOn s
  | .powerOnSelfTestDone sliceFail regionFail fail bootUs => Sys2Proof.Machine.execPowerOnSelfTestDone sliceFail regionFail fail bootUs s
  | .pllUnlock pll => Sys2Proof.Machine.execPllUnlock pll s
  | .clockMonitorCompare dev => Sys2Proof.Machine.execClockMonitorCompare dev s
  | .clockStopDetect coarse => Sys2Proof.Machine.execClockStopDetect coarse s
  | .pwrDomReqWrite via seq index value => Sys2Proof.Machine.execPwrDomReqWrite via seq index value s
  | .domainReady dom => Sys2Proof.Machine.execDomainReady dom s
  | .calFieldReload dom => Sys2Proof.Machine.execCalFieldReload dom s
  | .column0BoundaryFix cc => Sys2Proof.Machine.execColumn0BoundaryFix cc s
  | .columnBoundary => Sys2Proof.Machine.execColumnBoundary s
  | .throttleRestart => Sys2Proof.Machine.execThrottleRestart s
  | .vstrSample bank v => Sys2Proof.Machine.execVstrSample bank v s
  | .angleLatch bank => Sys2Proof.Machine.execAngleLatch bank s
  | .shotConsent bank laneFault => Sys2Proof.Machine.execShotConsent bank laneFault s
  | .shotFire bank laneFault => Sys2Proof.Machine.execShotFire bank laneFault s
  | .limiterSubwindowAdvance long => Sys2Proof.Machine.execLimiterSubwindowAdvance long s
  | .pulseWidthClassify string rise width highAfter20 => Sys2Proof.Machine.execPulseWidthClassify string rise width highAfter20 s
  | .strayCurrent string => Sys2Proof.Machine.execStrayCurrent string s
  | .chargeWindowOpen bank v => Sys2Proof.Machine.execChargeWindowOpen bank v s
  | .chargeWindowClose bank => Sys2Proof.Machine.execChargeWindowClose bank s
  | .chargeTargetReached string => Sys2Proof.Machine.execChargeTargetReached string s
  | .stringOvervolt string => Sys2Proof.Machine.execStringOvervolt string s
  | .inhibitSourceAssert srcs => Sys2Proof.Machine.execInhibitSourceAssert srcs s
  | .inhibitSourceRelease src => Sys2Proof.Machine.execInhibitSourceRelease src s
  | .emitInhibitLatchWrite via seq value => Sys2Proof.Machine.execEmitInhibitLatchWrite via seq value s
  | .shotTriggerEdge input falling late tight => Sys2Proof.Machine.execShotTriggerEdge input falling late tight s
  | .stringFaultClear via seq string value => Sys2Proof.Machine.execStringFaultClear via seq string value s
  | .pickoffLostClear via seq bank value => Sys2Proof.Machine.execPickoffLostClear via seq bank value s
  | .derateCfgWrite via seq value => Sys2Proof.Machine.execDerateCfgWrite via seq value s
  | .pickoffEdge bank cc tap => Sys2Proof.Machine.execPickoffEdge bank cc tap s
  | .pickoffWindowEnd bank => Sys2Proof.Machine.execPickoffWindowEnd bank s
  | .angleSample code isns tau => Sys2Proof.Machine.execAngleSample code isns tau s
  | .loopSample loop tau hv => Sys2Proof.Machine.execLoopSample loop tau hv s
  | .loopSwapWrite via seq loop => Sys2Proof.Machine.execLoopSwapWrite via seq loop s
  | .loopRateWrite via seq loop value => Sys2Proof.Machine.execLoopRateWrite via seq loop value s
  | .fbLatchClear via seq loop value => Sys2Proof.Machine.execFbLatchClear via seq loop value s
  | .hvOvervolt hv => Sys2Proof.Machine.execHvOvervolt hv s
  | .hvOvpClear via seq => Sys2Proof.Machine.execHvOvpClear via seq s
  | .refCellTrigger swings => Sys2Proof.Machine.execRefCellTrigger swings s
  | .vexUpdate => Sys2Proof.Machine.execVexUpdate s
  | .rowArm row => Sys2Proof.Machine.execRowArm row s
  | .rowDisarm row armed clocks => Sys2Proof.Machine.execRowDisarm row armed clocks s
  | .coincidenceEvent row cc phase cells => Sys2Proof.Machine.execCoincidenceEvent row cc phase cells s
  | .cellMapWrite via seq row q lo hi => Sys2Proof.Machine.execCellMapWrite via seq row q lo hi s
  | .ladderWrite via seq step value => Sys2Proof.Machine.execLadderWrite via seq step value s
  | .laneRmwCycle row lane ecc => Sys2Proof.Machine.execLaneRmwCycle row lane ecc s
  | .slcEccInjWrite via seq slice value => Sys2Proof.Machine.execSlcEccInjWrite via seq slice value s
  | .zoomSnapshot row => Sys2Proof.Machine.execZoomSnapshot row s
  | .bufferSwap bank => Sys2Proof.Machine.execBufferSwap bank s
  | .rowReadout row ecc word => Sys2Proof.Machine.execRowReadout row ecc word s
  | .regionColumnRelease region => Sys2Proof.Machine.execRegionColumnRelease region s
  | .peakSelfcheck region matched => Sys2Proof.Machine.execPeakSelfcheck region matched s
  | .dllUnlock ch => Sys2Proof.Machine.execDllUnlock ch s
  | .dllLock ch => Sys2Proof.Machine.execDllLock ch s
  | .dllRelockTimeout ch => Sys2Proof.Machine.execDllRelockTimeout ch s
  | .tapMapWrite via seq ch w0 w1 w2 => Sys2Proof.Machine.execTapMapWrite via seq ch w0 w1 w2 s
  | .linTableWrite via seq ch first values => Sys2Proof.Machine.execLinTableWrite via seq ch first values s
  | .tinEdge input falling cc tap => Sys2Proof.Machine.execTinEdge input falling cc tap s
  | .tinIntervalTimeout ch => Sys2Proof.Machine.execTinIntervalTimeout ch s
  | .qPopWrite via seq ch => Sys2Proof.Machine.execQPopWrite via seq ch s
  | .columnRecordBuild => Sys2Proof.Machine.execColumnRecordBuild s
  | .regionPartLate => Sys2Proof.Machine.execRegionPartLate s
  | .frameEndRecord => Sys2Proof.Machine.execFrameEndRecord s
  | .overflowChainRefill => Sys2Proof.Machine.execOverflowChainRefill s
  | .psCtrlWrite via seq value => Sys2Proof.Machine.execPsCtrlWrite via seq value s
  | .ovfConfigWrite via seq addr values => Sys2Proof.Machine.execOvfConfigWrite via seq addr values s
  | .csiFrameStart cam frame => Sys2Proof.Machine.execCsiFrameStart cam frame s
  | .csiLinePacket cam wordCount crcOk pixels hdr overflow => Sys2Proof.Machine.execCsiLinePacket cam wordCount crcOk pixels hdr overflow s
  | .csiFrameEnd cam frame => Sys2Proof.Machine.execCsiFrameEnd cam frame s
  | .csiLineTimeout cam => Sys2Proof.Machine.execCsiLineTimeout cam s
  | .deferredFrameStart => Sys2Proof.Machine.execDeferredFrameStart s
  | .stripeReady ctx => Sys2Proof.Machine.execStripeReady ctx s
  | .stripRecordSend ctx coding level => Sys2Proof.Machine.execStripRecordSend ctx coding level s
  | .pipelineFrameClose ctx => Sys2Proof.Machine.execPipelineFrameClose ctx s
  | .fusionColumn => Sys2Proof.Machine.execFusionColumn s
  | .depthMapClose cam => Sys2Proof.Machine.execDepthMapClose cam s
  | .depthMapStale cam => Sys2Proof.Machine.execDepthMapStale cam s
  | .fusCtrlWrite via seq value => Sys2Proof.Machine.execFusCtrlWrite via seq value s
  | .flipPoint disp => Sys2Proof.Machine.execFlipPoint disp s
  | .commitReqWrite via seq disp => Sys2Proof.Machine.execCommitReqWrite via seq disp s
  | .displayLineStart disp line => Sys2Proof.Machine.execDisplayLineStart disp line s
  | .frameLockLostTimeout disp => Sys2Proof.Machine.execFrameLockLostTimeout disp s
  | .trainingPhaseEnd port pass fomTx fomRx => Sys2Proof.Machine.execTrainingPhaseEnd port pass fomTx fomRx s
  | .controlBlockReceived bytes => Sys2Proof.Machine.execControlBlockReceived bytes s
  | .controlBlockSend => Sys2Proof.Machine.execControlBlockSend s
  | .blockSend port => Sys2Proof.Machine.execBlockSend port s
  | .upstreamClockLoss => Sys2Proof.Machine.execUpstreamClockLoss s
  | .autoRetrain port => Sys2Proof.Machine.execAutoRetrain port s
  | .fomPublish port fom => Sys2Proof.Machine.execFomPublish port fom s
  | .vnauxFrameSend port => Sys2Proof.Machine.execVnauxFrameSend port s
  | .vnauxReply port reply => Sys2Proof.Machine.execVnauxReply port reply s
  | .ethLinkChange up gigabit => Sys2Proof.Machine.execEthLinkChange up gigabit s
  | .arpRequest sender senderMac target => Sys2Proof.Machine.execArpRequest sender senderMac target s
  | .icmpEchoRequest sender ident seq payload => Sys2Proof.Machine.execIcmpEchoRequest sender ident seq payload s
  | .streamDatagramSend stream => Sys2Proof.Machine.execStreamDatagramSend stream s
  | .creditDatagram src bytes => Sys2Proof.Machine.execCreditDatagram src bytes s
  | .gptpSync rx origin correction ratio logInterval followUp => Sys2Proof.Machine.execGptpSync rx origin correction ratio logInterval followUp s
  | .gptpAnnounce bytes => Sys2Proof.Machine.execGptpAnnounce bytes s
  | .pdelayExchange => Sys2Proof.Machine.execPdelayExchange s
  | .pdelayReqRx request => Sys2Proof.Machine.execPdelayReqRx request s
  | .holdoverTimeout announce => Sys2Proof.Machine.execHoldoverTimeout announce s
  | .tbTimeLoRead via seq => Sys2Proof.Machine.execTbTimeLoRead via seq s
  | .syncPulseRx width err gap => Sys2Proof.Machine.execSyncPulseRx width err gap s
  | .syncLost => Sys2Proof.Machine.execSyncLost s
  | .syncAbsentTimeout => Sys2Proof.Machine.execSyncAbsentTimeout s
  | .hkSyncEdge => Sys2Proof.Machine.execHkSyncEdge s
  | .memGrant ecc channel => Sys2Proof.Machine.execMemGrant ecc channel s
  | .class2WaitTimeout => Sys2Proof.Machine.execClass2WaitTimeout s
  | .selfRefreshEntry => Sys2Proof.Machine.execSelfRefreshEntry s
  | .selfRefreshExit => Sys2Proof.Machine.execSelfRefreshExit s
  | .deepSleepEntry => Sys2Proof.Machine.execDeepSleepEntry s
  | .regionSCycle pins laneFault tableUe => Sys2Proof.Machine.execRegionSCycle pins laneFault tableUe s
  | .testPulse out channelB => Sys2Proof.Machine.execTestPulse out channelB s
  | .safetyColumnEval => Sys2Proof.Machine.execSafetyColumnEval s
  | .columnTimeout => Sys2Proof.Machine.execColumnTimeout s
  | .rangingInvalidCause cause => Sys2Proof.Machine.execRangingInvalidCause cause s
  | .regionSConfigLoad => Sys2Proof.Machine.execRegionSConfigLoad s
  | .limitTableBuilt => Sys2Proof.Machine.execLimitTableBuilt s
  | .sessionTimeout => Sys2Proof.Machine.execSessionTimeout s
  | .credentialLockoutEnd => Sys2Proof.Machine.execCredentialLockoutEnd s
  | .safetyStatusRecord => Sys2Proof.Machine.execSafetyStatusRecord s
  | .hkConverterStart => Sys2Proof.Machine.execHkConverterStart s
  | .hkRoundStart => Sys2Proof.Machine.execHkRoundStart s
  | .hkConversionEnd code => Sys2Proof.Machine.execHkConversionEnd code s
  | .ntcComparatorTrip => Sys2Proof.Machine.execNtcComparatorTrip s
  | .tiaWord ch code => Sys2Proof.Machine.execTiaWord ch code s
  | .wmSourceToggle => Sys2Proof.Machine.execWmSourceToggle s
  | .hubReading codes => Sys2Proof.Machine.execHubReading codes s
  | .thermalEvaluation => Sys2Proof.Machine.execThermalEvaluation s
  | .analogueThermalTrip => Sys2Proof.Machine.execAnalogueThermalTrip s
  | .calAutoRun => Sys2Proof.Machine.execCalAutoRun s
  | .calItemEnd meas copiesWritten => Sys2Proof.Machine.execCalItemEnd meas copiesWritten s
  | .illumSliceStart string v shunt => Sys2Proof.Machine.execIllumSliceStart string v shunt s
  | .illumWindowStart string => Sys2Proof.Machine.execIllumWindowStart string s
  | .illumWindowEnd string => Sys2Proof.Machine.execIllumWindowEnd string s
  | .illumShuntCrossing string kind => Sys2Proof.Machine.execIllumShuntCrossing string kind s
  | .illumProbeEnd string v shunt => Sys2Proof.Machine.execIllumProbeEnd string v shunt s
  | .illFaultClear via seq string value => Sys2Proof.Machine.execIllFaultClear via seq string value s
  | .illThermWrite via seq value => Sys2Proof.Machine.execIllThermWrite via seq value s
  | .recoveryTimerExpiry => Sys2Proof.Machine.execRecoveryTimerExpiry s
  | .faultCauseCleared event => Sys2Proof.Machine.execFaultCauseCleared event s
  | .fmFirstClear via seq => Sys2Proof.Machine.execFmFirstClear via seq s
  | .fmClassWrite via seq index value => Sys2Proof.Machine.execFmClassWrite via seq index value s
  | .recorderTrigger => Sys2Proof.Machine.execRecorderTrigger s
  | .recorderPreFillDone => Sys2Proof.Machine.execRecorderPreFillDone s
  | .recorderPostFillDone samples => Sys2Proof.Machine.execRecorderPostFillDone samples s
  | .monitorLine line => Sys2Proof.Machine.execMonitorLine line s
  | .monId => Sys2Proof.Machine.execMonId s
  | .monNonce => Sys2Proof.Machine.execMonNonce s
  | .monAuth credential => Sys2Proof.Machine.execMonAuth credential s
  | .monRd addr count => Sys2Proof.Machine.execMonRd addr count s
  | .monSt => Sys2Proof.Machine.execMonSt s
  | .monLog index count => Sys2Proof.Machine.execMonLog index count s
  | .monEv on => Sys2Proof.Machine.execMonEv on s
  | .monBye => Sys2Proof.Machine.execMonBye s
  | .monSessionTimeout => Sys2Proof.Machine.execMonSessionTimeout s
  | .rebootStart => Sys2Proof.Machine.execRebootStart s
  | .pllLock pll => Sys2Proof.Machine.execPllLock pll s
  | .cellFiring row q cell => Sys2Proof.Machine.execCellFiring row q cell s
  | .csiNonImagePacket cam vc dt bytes => Sys2Proof.Machine.execCsiNonImagePacket cam vc dt bytes s
  | .pauseFrameRx quanta => Sys2Proof.Machine.execPauseFrameRx quanta s
  | .ethFrameDiscard fcsBad => Sys2Proof.Machine.execEthFrameDiscard fcsBad s
  | .arpReplyRx ip mac => Sys2Proof.Machine.execArpReplyRx ip mac s
  | .pdelayRespRx t1 t2 t3 t4 => Sys2Proof.Machine.execPdelayRespRx t1 t2 t3 t4 s
  | .class5RefusingEnd => Sys2Proof.Machine.execClass5RefusingEnd s
  | .selfRefreshExitDone => Sys2Proof.Machine.execSelfRefreshExitDone s
  | .monLockoutEnd => Sys2Proof.Machine.execMonLockoutEnd s
  | .spiIgnoredFrame first => Sys2Proof.Machine.execSpiIgnoredFrame first s
  | .peConfigWrite via seq addr values => Sys2Proof.Machine.execPeConfigWrite via seq addr values s
  | .pipeCfgWrite via seq addr values => Sys2Proof.Machine.execPipeCfgWrite via seq addr values s
  | .latCfgWrite via seq value => Sys2Proof.Machine.execLatCfgWrite via seq value s
  | .thermalThresholdWrite via seq addr value => Sys2Proof.Machine.execThermalThresholdWrite via seq addr value s
  | .tiaCfgWrite via seq ch value => Sys2Proof.Machine.execTiaCfgWrite via seq ch value s
  | .wmCtrlWrite via seq value => Sys2Proof.Machine.execWmCtrlWrite via seq value s
  | .illDrvOnLimit string => Sys2Proof.Machine.execIllDrvOnLimit string s

end Sys2Proof.Machine
end

