-- ==== Sys2Proof/Machine/Step.lean ====
section
/-! DEFINITION. One step: the command at the front of the queue, or one tick of device time while the queue is empty. -/

namespace Sys2Proof.Machine

/-- One step of the block (notes/assumptions/7.md): an empty queue lets one TIME tick pass. -/
def step (s : State) : Host.Outcome State Fault Refusal :=
  match s.pending with
  | [] => .next s.timeTick
  | c :: rest => exec c { s with pending := rest }

/-- The command that a table word spells, put at the front of the queue: no word spells one. -/
def State.withFetchWord (s : State) (nbits w : Nat) : State :=
  match decodeTableWord nbits w with
  | some c => { s with pending := c :: s.pending }
  | none => s

end Sys2Proof.Machine
end

