-- ==== Sys2Proof/WellFormed.lean ====
section
/-! DEFINITION. When a command's operands spell its row: payload lists of the lengths that Table 2-10 gives, packets no longer than
their transport takes (R25), register-write rows that write their own registers, event rows whose measurements are complete.
The device itself answers whatever arrives; these are checks on the model's terms, none of the device's. -/

namespace Sys2Proof

/-- R25: the largest payload on a transport. -/
def payloadLimit : Port → Nat
  | .udp _ => 1456
  | _ => 2048

/-- A register-write row: 1 to 256 words (R53) from an address in `lo` up to `hi`, not leaving it. -/
def writesIn (lo hi a n : Nat) : Bool := decide (1 ≤ n) && decide (n ≤ 256) && decide (lo ≤ a) && decide (a + 4 * n ≤ hi) && decide (a % 4 = 0)

/-- The operands spell the row. -/
def Instr.wellFormed : Instr → Bool
  | .udpCommandDatagram _ bytes => decide (bytes.length ≤ 1472)
  | .oazilUpstreamBlock bytes => decide (bytes.length = 512)
  | .controlBlockReceived bytes => decide (bytes.length = 512)
  | .regWrite via _ _ values => decide (8 + 4 * values.length ≤ payloadLimit via)
  | .loopCoefSet _ _ _ coef => decide (coef.length = 10)
  | .trajectoryLoad via _ _ entries => decide (4 + 4 * entries.length ≤ payloadLimit via)
  | .camConfig _ _ _ block => decide (block.length = 64)
  | .pipeContextSet via _ _ _ data => decide (4 + data.length ≤ payloadLimit via)
  | .dispMode _ _ _ block => decide (block.length = 32)
  | .layerSet _ _ _ _ block => decide (block.length = 32)
  | .timeConfig _ _ block => decide (block.length = 16)
  | .commissionOpen _ _ credential => decide (credential.length = 32)
  | .fieldWrite via _ _ _ vertices block => decide (block.length = 8 + 8 * vertices.toNat) && decide (16 + 8 * vertices.toNat ≤ payloadLimit via)
  | .hkConfig _ _ block => decide (block.length = 64)
  | .recorderArm _ _ block => decide (block.length = 32)
  | .fwWrite via _ _ data => decide (8 + data.length ≤ payloadLimit via)
  | .wakeSource src => decide (src.toNat ≤ 2)
  | .vstrSample _ v => decide (v.length = 4)
  | .chargeWindowOpen _ v => decide (v.length = 4)
  | .refCellTrigger swings => decide (swings.length = 48)
  | .rowDisarm _ _ clocks => decide (clocks.length = 8)
  | .hubReading codes => decide (codes.length = 16)
  | .linTableWrite _ _ _ first values => decide (1 ≤ values.length) && decide (first.val + values.length ≤ 64)
  | .ovfConfigWrite _ _ addr values => writesIn 0x2000040 0x2000180 addr.toNat values.length
  | .peConfigWrite _ _ addr values => writesIn 0x50000 0x60000 addr.toNat values.length
  | .pipeCfgWrite _ _ addr values => writesIn 0x3002000 0x3003000 addr.toNat values.length
  | .thermalThresholdWrite _ _ addr _ => writesIn 0x6001000 0x6001800 addr.toNat 1
  | .illumShuntCrossing _ kind => decide (kind.toNat ≤ 2)
  | .recorderPostFillDone samples => decide (samples.length ≤ 163840)
  | .monAuth credential => decide (credential.length = 16)
  | _ => true

end Sys2Proof
end

