-- ==== Sys2Proof/Safety.lean ====
section
/-! DEFINITION. The terms that claims use: the packet a command row stands for, when a command is executed at once and what its
execution leaves, what a command leaves unchanged, and the canonical form of the state. -/

namespace Sys2Proof.Machine

/-! ### Command rows as packets -/

/-- A command packet past steps 1 to 5: transport, sequence number, opcode, payload. -/
structure Pkt where
  via : Port
  seq : BitVec 16
  op : Nat
  data : List Byte
  deriving DecidableEq, Repr

/-- The packet that a row of Table 2-10, or a register-write row, stands for. LOOP_SWAP_WRITE is none of them: its word keeps the other bits of LOOP_CTRL. -/
def asPacket : Instr → Option Pkt
  | .ping via seq => some ⟨via, seq, 0x0001, []⟩
  | .identify via seq => some ⟨via, seq, 0x0002, []⟩
  | .status via seq => some ⟨via, seq, 0x0003, []⟩
  | .sessionReset via seq => some ⟨via, seq, 0x0004, []⟩
  | .cmdStatus via seq target => some ⟨via, seq, 0x0005, beBytes 2 target.toNat ++ zeros 2⟩
  | .regRead via seq addr count => some ⟨via, seq, 0x0008, regReadPayload addr.toNat count.toNat⟩
  | .regWrite via seq addr values => some ⟨via, seq, 0x0009, regWritePayload addr.toNat values⟩
  | .regRmw via seq addr mask value => some ⟨via, seq, 0x000A, beBytes 4 addr.toNat ++ beBytes 4 mask.toNat ++ beBytes 4 value.toNat⟩
  | .dormant via seq => some ⟨via, seq, 0x0010, []⟩
  | .safeHold via seq => some ⟨via, seq, 0x0011, []⟩
  | .faultClear via seq => some ⟨via, seq, 0x0012, []⟩
  | .eventSubscribe via seq mask => some ⟨via, seq, 0x0014, maskBytes mask⟩
  | .scanStart via seq profile flags => some ⟨via, seq, 0x0100, [profile, flags] ++ zeros 2⟩
  | .scanStop via seq => some ⟨via, seq, 0x0101, []⟩
  | .profileOverride via seq profile field value => some ⟨via, seq, 0x0102, [profile, 0] ++ beBytes 2 field.toNat ++ beBytes 4 value.toNat⟩
  | .profileRead via seq profile => some ⟨via, seq, 0x0103, [profile] ++ zeros 3⟩
  | .histDump via seq firstRow rows columns parts => some ⟨via, seq, 0x0108, beBytes 2 firstRow.toNat ++ beBytes 2 rows.toNat ++ beBytes 2 columns.toNat ++ [parts, 0]⟩
  | .histDumpCancel via seq => some ⟨via, seq, 0x0109, []⟩
  | .emitterInhibit via seq inhibit => some ⟨via, seq, 0x0200, [inhibit] ++ zeros 3⟩
  | .stringEnable via seq mask => some ⟨via, seq, 0x0201, beBytes 4 mask.toNat⟩
  | .chargeTest via seq string target => some ⟨via, seq, 0x0202, [string, 0] ++ beBytes 2 target.toNat⟩
  | .limiterRead via seq => some ⟨via, seq, 0x0203, []⟩
  | .triggerConfig via seq input bankMask edge => some ⟨via, seq, 0x0204, [input, bankMask, edge, 0]⟩
  | .loopMode via seq loop mode => some ⟨via, seq, 0x0300, [loop, mode] ++ zeros 2⟩
  | .loopCoefSet via seq loop coef => some ⟨via, seq, 0x0301, [loop] ++ zeros 3 ++ wordBytes coef⟩
  | .loopSetpoint via seq loop sp => some ⟨via, seq, 0x0302, [loop] ++ zeros 3 ++ beBytes 4 sp.toNat⟩
  | .loopRead via seq loop => some ⟨via, seq, 0x0303, [loop] ++ zeros 3⟩
  | .trajectoryLoad via seq first entries => some ⟨via, seq, 0x0304, beBytes 2 first.toNat ++ beBytes 2 entries.length ++ wordBytes entries⟩
  | .camConfig via seq camera block => some ⟨via, seq, 0x0400, [camera] ++ zeros 3 ++ block⟩
  | .camRun via seq camera run => some ⟨via, seq, 0x0401, [camera, run] ++ zeros 2⟩
  | .pipeContextSet via seq context stage data => some ⟨via, seq, 0x0402, [context, stage] ++ beBytes 2 data.length ++ data⟩
  | .statsRequest via seq context => some ⟨via, seq, 0x0403, [context] ++ zeros 3⟩
  | .reprocess via seq context addr => some ⟨via, seq, 0x0404, [context] ++ zeros 3 ++ beBytes 8 addr.toNat⟩
  | .dispMode via seq display block => some ⟨via, seq, 0x0500, [display] ++ zeros 3 ++ block⟩
  | .layerSet via seq display layer block => some ⟨via, seq, 0x0501, [display, layer] ++ zeros 2 ++ block⟩
  | .commit via seq display => some ⟨via, seq, 0x0502, [display] ++ zeros 3⟩
  | .dispRun via seq display run => some ⟨via, seq, 0x0503, [display, run] ++ zeros 2⟩
  | .linkTrain via seq port rate => some ⟨via, seq, 0x0600, [port, rate] ++ zeros 2⟩
  | .linkStatus via seq port => some ⟨via, seq, 0x0601, [port] ++ zeros 3⟩
  | .timeRead via seq => some ⟨via, seq, 0x0602, []⟩
  | .timeConfig via seq block => some ⟨via, seq, 0x0603, block⟩
  | .netConfig via seq ip mask gw vlan => some ⟨via, seq, 0x0604, beBytes 4 ip.toNat ++ beBytes 4 mask.toNat ++ beBytes 4 gw.toNat ++ beBytes 2 vlan.toNat ++ zeros 2⟩
  | .syncConfig via seq role slotOffset => some ⟨via, seq, 0x0605, [role] ++ zeros 3 ++ beBytes 4 slotOffset.toNat⟩
  | .safetyStatus via seq => some ⟨via, seq, 0x0700, []⟩
  | .commissionOpen via seq credential => some ⟨via, seq, 0x0701, credential⟩
  | .fieldWrite via seq session field vertices block => some ⟨via, seq, 0x0702, beBytes 4 session.toNat ++ [field, vertices] ++ zeros 2 ++ block⟩
  | .safetyParamWrite via seq session param value => some ⟨via, seq, 0x0703, beBytes 4 session.toNat ++ beBytes 2 param.toNat ++ zeros 2 ++ beBytes 4 value.toNat⟩
  | .commissionCommit via seq session crc => some ⟨via, seq, 0x0704, beBytes 4 session.toNat ++ beBytes 4 crc.toNat⟩
  | .commissionAbort via seq session => some ⟨via, seq, 0x0705, beBytes 4 session.toNat⟩
  | .hkConfig via seq block => some ⟨via, seq, 0x0800, block⟩
  | .hkUrgent via seq slot => some ⟨via, seq, 0x0801, [slot] ++ zeros 3⟩
  | .filterSync via seq => some ⟨via, seq, 0x0802, []⟩
  | .tiaRange via seq channel range => some ⟨via, seq, 0x0803, [channel, range] ++ zeros 2⟩
  | .thermalRead via seq => some ⟨via, seq, 0x0804, []⟩
  | .calRun via seq items => some ⟨via, seq, 0x0805, beBytes 2 items.toNat ++ zeros 2⟩
  | .calRecordRead via seq record => some ⟨via, seq, 0x0806, beBytes 2 record.toNat ++ zeros 2⟩
  | .auxoutSet via seq value => some ⟨via, seq, 0x0807, beBytes 4 value.toNat⟩
  | .illSet via seq mask level => some ⟨via, seq, 0x0808, [mask, 0] ++ beBytes 2 level.toNat⟩
  | .recorderArm via seq block => some ⟨via, seq, 0x0900, block⟩
  | .recorderForce via seq => some ⟨via, seq, 0x0901, []⟩
  | .recorderRead via seq capture => some ⟨via, seq, 0x0902, [capture] ++ zeros 3⟩
  | .faultLogRead via seq first count => some ⟨via, seq, 0x0903, beBytes 2 first.toNat ++ beBytes 2 count.toNat⟩
  | .classCountersRead via seq => some ⟨via, seq, 0x0904, []⟩
  | .monitorControl via seq enable => some ⟨via, seq, 0x0905, [enable] ++ zeros 3⟩
  | .compConfig via seq level context => some ⟨via, seq, 0x0A00, [level, context] ++ zeros 2⟩
  | .compContextSave via seq context addr => some ⟨via, seq, 0x0A01, [context] ++ zeros 3 ++ beBytes 8 addr.toNat⟩
  | .compContextRestore via seq context addr => some ⟨via, seq, 0x0A02, [context] ++ zeros 3 ++ beBytes 8 addr.toNat⟩
  | .decompress via seq src srcLen dst limit => some ⟨via, seq, 0x0A03, beBytes 8 src.toNat ++ beBytes 4 srcLen.toNat ++ beBytes 8 dst.toNat ++ beBytes 4 limit.toNat⟩
  | .flashRead via seq addr length => some ⟨via, seq, 0x0A04, beBytes 4 addr.toNat ++ beBytes 2 length.toNat ++ zeros 2⟩
  | .fwInfo via seq => some ⟨via, seq, 0x0F00, []⟩
  | .fwBegin via seq slot length => some ⟨via, seq, 0x0F01, [slot] ++ zeros 3 ++ beBytes 4 length.toNat⟩
  | .fwWrite via seq offset data => some ⟨via, seq, 0x0F02, beBytes 4 offset.toNat ++ beBytes 2 data.length ++ zeros 2 ++ data⟩
  | .fwVerify via seq => some ⟨via, seq, 0x0F03, []⟩
  | .fwActivate via seq slot => some ⟨via, seq, 0x0F04, [slot] ++ zeros 3⟩
  | .reboot via seq => some ⟨via, seq, 0x0F05, []⟩
  | .pwrDomReqWrite via seq index value => some ⟨via, seq, 0x0009, regWritePayload (F.SYS.PWR_DOM_REQ0_REQ.addr + 4 * index.val) [value]⟩
  | .emitInhibitLatchWrite via seq value => some ⟨via, seq, 0x0009, regWritePayload (F.SHT.EMIT_INHIBIT_LATCH_SRC.addr) [value]⟩
  | .stringFaultClear via seq string value => some ⟨via, seq, 0x0009, regWritePayload ((F.STR.STR_STAT_LIVE string).addr) [value]⟩
  | .pickoffLostClear via seq bank value => some ⟨via, seq, 0x0009, regWritePayload ((F.BNK.BANK_STAT_PICKOFF_LOST bank).addr) [value]⟩
  | .derateCfgWrite via seq value => some ⟨via, seq, 0x0009, regWritePayload (F.SHT.DERATE_CFG_FLOOR.addr) [value]⟩
  | .loopRateWrite via seq loop value => some ⟨via, seq, 0x0009, regWritePayload ((F.LOOP.LOOP_RATE_DIV loop).addr) [value]⟩
  | .fbLatchClear via seq loop value => some ⟨via, seq, 0x0009, regWritePayload ((F.LOOP.LOOP_STAT_FB_LOST loop).addr) [value]⟩
  | .hvOvpClear via seq => some ⟨via, seq, 0x0009, regWritePayload (F.RX.RX_STAT_HV_OVP.addr) [0x20]⟩
  | .cellMapWrite via seq row q lo hi => some ⟨via, seq, 0x0009, regWritePayload ((F.ROW.EN_LO row q).addr) [lo, hi]⟩
  | .ladderWrite via seq step value => some ⟨via, seq, 0x0009, regWritePayload ((F.RX.LADDER_K step).addr) [value]⟩
  | .slcEccInjWrite via seq slice value => some ⟨via, seq, 0x0009, regWritePayload ((F.SLC.SLC_ECC_INJ_BITS slice).addr) [value]⟩
  | .tapMapWrite via seq ch w0 w1 w2 => some ⟨via, seq, 0x0009, regWritePayload ((F.CH.CH_TAPMAP0_MAP ch).addr) [w0, w1, w2]⟩
  | .linTableWrite via seq ch first values => some ⟨via, seq, 0x0009, regWritePayload (linWord ch first) values⟩
  | .qPopWrite via seq ch => some ⟨via, seq, 0x0009, regWritePayload ((F.CH.Q_POP_POP ch).addr) [1]⟩
  | .psCtrlWrite via seq value => some ⟨via, seq, 0x0009, regWritePayload (F.PS.PS_CTRL_EN.addr) [value]⟩
  | .ovfConfigWrite via seq addr values => some ⟨via, seq, 0x0009, regWritePayload (addr.toNat) values⟩
  | .fusCtrlWrite via seq value => some ⟨via, seq, 0x0009, regWritePayload (F.FUS.FUS_CTRL_EN.addr) [value]⟩
  | .commitReqWrite via seq disp => some ⟨via, seq, 0x0009, regWritePayload ((F.DSP.DISP_CTRL_COMMIT_REQ disp).addr) [1]⟩
  | .tbTimeLoRead via seq => some ⟨via, seq, 0x0008, regReadPayload F.TB.TB_TIME_LO.addr 1⟩
  | .illFaultClear via seq string value => some ⟨via, seq, 0x0009, regWritePayload ((F.ILS.ILL_STR_STAT_OPEN string).addr) [value]⟩
  | .illThermWrite via seq value => some ⟨via, seq, 0x0009, regWritePayload (F.ILL.ILL_THERM_OFF.addr) [value]⟩
  | .fmFirstClear via seq => some ⟨via, seq, 0x0009, regWritePayload (F.FM.FM_FIRST_VALID.addr) [0x80000000]⟩
  | .fmClassWrite via seq index value => some ⟨via, seq, 0x0009, regWritePayload ((F.FM.FM_CLASS_CLASS index).addr) [value]⟩
  | .peConfigWrite via seq addr values => some ⟨via, seq, 0x0009, regWritePayload (addr.toNat) values⟩
  | .pipeCfgWrite via seq addr values => some ⟨via, seq, 0x0009, regWritePayload (addr.toNat) values⟩
  | .latCfgWrite via seq value => some ⟨via, seq, 0x0009, regWritePayload (F.MEM.LAT_CFG_SR_WAKE.addr) [value]⟩
  | .thermalThresholdWrite via seq addr value => some ⟨via, seq, 0x0009, regWritePayload (addr.toNat) [value]⟩
  | .tiaCfgWrite via seq ch value => some ⟨via, seq, 0x0009, regWritePayload ((F.TIA.TIA_CFG_EN ch).addr) [value]⟩
  | .wmCtrlWrite via seq value => some ⟨via, seq, 0x0009, regWritePayload (F.HK.WM_CTRL_AUTO.addr) [value]⟩
  | _ => none

/-- A packet as bytes on its transport (Table 2-1). -/
def Pkt.bytes (p : Pkt) : List Byte := packet 0 (portTag p.via) p.op p.seq.toNat p.data

/-! ### A command executed at once -/

/-- The state right after a packet has been consumed. -/
def State.consumed (s : State) (p : Pkt) : State := ((s.intake p.via).2.sequence p.via p.seq p.op p.data).calm

/-- The state in which the handler of a command runs. -/
def State.seen (s : State) (p : Pkt) : State :=
  let u := s.consumed p
  { u with cmd := { u.cmd with held := [] } }

/-- The packet is consumed and its command executed at once, and no step before its own checks refuses it: its transport serves it, its sequence number is the
expected one, no command waits, and steps 7 to 10 pass. -/
def State.takes (s : State) (p : Pkt) : Bool :=
  let x := (s.intake p.via).2.session p.via
  s.hears p.via && (s.intake p.via).1 && s.cmd.held.isEmpty && (p.op == 4 || !x.known || p.seq == x.expSeq) &&
    (s.consumed p).cmd.held == [⟨p.via, p.seq, p.op, p.data⟩] && (s.seen p).mayRun ⟨p.via, p.seq, p.op, p.data⟩ &&
    lengthOk p.op p.data == some true && !(s.seen p).thermalRefuses p.op p.data && !(s.seen p).pw.romOnly

/-- What is left when a handler that left `t` answers with a final status. -/
def State.replied (t : State) (p : Pkt) (status detail : Nat) (data : List Byte) : State :=
  let a := t.answer status detail data
  (t.sendReply p.via p.op p.seq a (.final a)).calm

/-- What is left when a handler that left `t` answers ACCEPTED. -/
def State.begun (t : State) (p : Pkt) (tag : Nat) : State :=
  let a := t.answer 1 0 []
  ((t.start p.via p.op p.seq tag).sendReply p.via p.op p.seq a (.accepted a)).calm

/-- `c` runs in `s` as the packet `p`: `u` is the state its handler finds. -/
def Runs (c : Instr) (s : State) (p : Pkt) (u : State) : Prop := asPacket c = some p ∧ s.takes p = true ∧ u = s.seen p

/-- `c` is answered DONE with `data`; its own effect leaves `t`. -/
def Done (c : Instr) (s : State) (p : Pkt) (t : State) (data : List Byte) : Prop := exec c s = .next (t.replied p 0 0 data)

/-- As `Done`, where `f` follows the reply. -/
def DoneThen (c : Instr) (s : State) (p : Pkt) (t : State) (data : List Byte) (f : State → State) : Prop :=
  exec c s = .next (f (t.sendReply p.via p.op p.seq (t.answer 0 0 data) (.final (t.answer 0 0 data)))).calm

/-- `c` is turned away with a status and DETAIL, and the handler leaves `t`. -/
def Refused (c : Instr) (s : State) (p : Pkt) (t : State) (status detail : Nat) : Prop := exec c s = .next (t.replied p status detail [])

/-- Wherever `c` is taken and its handler finds a state that meets `h`, it is turned away with a status and a DETAIL of that state, and nothing changes. -/
def TurnsAway (c : Instr) (h : State → Prop) (status : Nat) (detail : State → Nat) : Prop := ∀ s p u, Runs c s p u → h u → Refused c s p u status (detail u)

/-- `c` is answered ACCEPTED; its own effect so far leaves `t`. -/
def Begun (c : Instr) (s : State) (p : Pkt) (t : State) (tag : Nat) : Prop := exec c s = .next (t.begun p tag)

/-- The event `c` happens: its own effect leaves `t`; the fault manager's share and the commands that wait follow. -/
def Event (c : Instr) (s t : State) : Prop := exec c s = .next t.settle

/-- Wherever `c` is taken and its handler finds a state that meets `h`, it is answered DONE with `data` of that state, and its own effect relates the states by `e`. -/
def Does (c : Instr) (h : State → Prop) (data : State → List Byte) (e : State → State → Prop) : Prop :=
  ∀ s p u, Runs c s p u → h u → ∃ t, Done c s p t (data u) ∧ e u t

/-- As `Does`, for a command that is answered ACCEPTED and noted as running with `tag`. -/
def Starts (c : Instr) (h : State → Prop) (tag : Nat) (e : State → State → Prop) : Prop :=
  ∀ s p u, Runs c s p u → h u → ∃ t, Begun c s p t tag ∧ e u t

/-- From every state that meets `h` the event happens, and its own effect relates the states by `e`. -/
def Happens (c : Instr) (h : State → Prop) (e : State → State → Prop) : Prop := ∀ s, h s → ∃ t, Event c s t ∧ e s t

/-- No value that a calibration steps lies in the words (R401). -/
def State.noStep (s : State) (ws : List Nat) : Bool := !s.cal.steps.any (fun e => ws.contains e.1)

/-- Wherever the register-write row `c`, of `n` words from `a`, is taken and finds a state that meets `h` with the domain of the words on and no stepped value in them, it is answered DONE,
and its effect relates the states by `e`. -/
def Writes (c : Instr) (a n : Nat) (h : State → Prop) (e : State → State → Prop) : Prop :=
  Does c (fun u => u.touchesOff a n = false ∧ u.noStep (wordAddrs a n) = true ∧ h u) (fun _ => []) e

/-! ### Frames -/

/-- The flash and the LPDDR5 memory read as before at every address. -/
def SameMem (s t : State) : Prop :=
  ∀ a, spGet flashDflt t.flash a = spGet flashDflt s.flash a ∧ spGet dramDflt t.dram a = spGet dramDflt s.dram a

/-- Every register word outside `ws` reads as before. -/
def SameRegs (s t : State) (ws : List Nat) : Prop := ∀ a, a ∉ ws → t.rd a = s.rd a

/-- Nothing changes but register words among `ws`. -/
def OnlyRegs (s t : State) (ws : List Nat) : Prop := t = { s with regs := t.regs } ∧ SameRegs s t ws

/-- Nothing changes. -/
def Nothing (s t : State) : Prop := t = s

/-- A boot of a kind has begun: the ROM is about to run in a phase, only domains 64 to 66 are on, and nothing of the command engine, the scan, the LPDDR5 memory or the device time is
left (R17, R68). -/
def BootBegun (t : State) (kind : ResetKind) (phase : BootPhase) (causeAfter : Nat) : Prop :=
  t.pw.st = .booting ∧ t.pw.boot.kind = kind ∧ t.pw.boot.phase = phase ∧ t.pw.boot.causeAfter = BitVec.ofNat 8 causeAfter ∧ t.pw.romOnly = true ∧
    t.cmd = State.reset.cmd ∧ t.time = State.reset.time ∧ t.scan = State.reset.scan ∧ t.dram = [] ∧ ∀ p : Fin 80, t.domOn p = decide (64 ≤ p.val ∧ p.val ≤ 66)

/-! ### The canonical form -/

/-- The canonical form of a memory whose unlisted bytes read `dflt`: addresses strictly rising, no byte listed that reads so anyway. -/
abbrev Memory.wf (dflt : Nat → Byte) (m : List Host.Cell) : Bool := spWf dflt m

/-- Registers, flash and LPDDR5 memory are in canonical form. -/
def State.canonical (s : State) : Bool := spWf regReset s.regs && Memory.wf flashDflt s.flash && Memory.wf dramDflt s.dram

end Sys2Proof.Machine
end

