-- ==== Sys2Proof/Certificates/Slice0/Obligations.lean ====
section
/-! DEFINITION. The statements for the provers. -/

open Sys2Proof Sys2Proof.Machine

/-! ### The machine -/

/-- One step runs the command at the front of the queue on the state with the rest of the queue. -/
def Obligations.StepRunsFront : Prop :=
  ∀ (s : State) (c : Instr) (rest : List Instr), s.pending = c :: rest → step s = exec c { s with pending := rest }

/-- An empty queue lets one tick of device time pass (the model's choice, notes/assumptions/7.md): the tick counter counts one and nothing but the time changes. -/
def Obligations.StepTicksTime : Prop :=
  ∀ s : State, s.pending = [] → ∃ t, step s = .next t ∧ t.time.tick = s.time.tick + 1 ∧ t = { s with time := t.time }

/-- State.reset is in canonical form, READY with cause COMMAND 0 and nothing waiting, and shows the reset values that the spec gives: every domain on, the emitters
inhibited by STATE and by the unconfigured limiter, Region S unconfigured, every PWR_DOM_STAT bit set, the identity words of Table 20-2. -/
def Obligations.ResetValues : Prop :=
  State.reset.canonical = true ∧ State.reset.pw.st = .ready ∧ State.reset.pending = [] ∧ State.reset.out = [] ∧
    (∀ p : Fin 80, State.reset.domOn p = true) ∧ State.reset.get F.SHT.EMIT_INHIBIT_SRC = 0x021 ∧ State.reset.get F.SAF.SAFE_STAT_STATE = 0 ∧
    State.reset.view 0 = 0x485A4001 ∧ State.reset.view 4 = 0x00800822 ∧ State.reset.view 0x100 = 1

/-! ### Commands arrive (chapter 2) -/

/-- A command that is taken at once runs its handler, sends the reply or notes the command as running, and nothing else runs: CommandTaken covers every row of
Table 2-10 and every register-write row. -/
def Obligations.CommandTaken : Prop :=
  ∀ (c : Instr) (s : State) (p : Pkt) (u : State), Runs c s p u →
    exec c s = .next (State.finish (runOp p.via u p.op p.data) p.via p.op p.seq).calm

/-- R24, R26, R27, R34: for every well-formed command row, the bytes of its packet in an SPI WRITE frame, whatever follows them there, do what the row does, where the device serves its
command port: the header check, LENGTH, CRC, tag and version of the packet pass, and its opcode, sequence number and payload come out as they went in. R38: the bytes of a command row's packet in a datagram of its own length do what the row does; the frame is counted in RX_FRAMES. -/
def Obligations.PacketIsCommand : Prop :=
  (
    ∀ (c : Instr) (p : Pkt) (s : State) (junk : List Byte), c.wellFormed = true → asPacket c = some p → p.via = .spi → s.hears .spi = true →
      exec (.spiWriteFrame (p.bytes ++ junk)) s = exec c s) ∧
  (
    ∀ (c : Instr) (p : Pkt) (q : Peer) (s : State), c.wellFormed = true → asPacket c = some p → p.via = .udp q → s.hears (.udp q) = true → exec (.udpCommandDatagram q p.bytes) s = exec c (s.inc F.ETH.RX_FRAMES))


/-- Step 6 of Table 2-5 (R42, R43, R45), over the session of a transport: an expected or first number is consumed, E becomes SEQ + 1 and the answer will be cached; a number of the
last 16 whose opcode is the cached one and whose answer is known is answered from the cache and counted in REPLAY, and nothing is executed; a number ahead of E is counted in
SEQ_GAP and not executed; SESSION_RESET is consumed whatever its number and leaves itself alone in the cache. -/
def Obligations.SequenceRules : Prop :=
  ∀ (s : State) (via : Port) (seq : BitVec 16) (op : Nat) (d : List Byte), s.hasPort via = true →
    (op ≠ 0x0004 → ((s.session via).known = false ∨ seq = (s.session via).expSeq) →
      ((s.sequence via seq op d).session via).expSeq = seq + 1 ∧ (s.sequence via seq op d).cmd.held = s.cmd.held ++ [⟨via, seq, op, d⟩] ∧
        (⟨seq, op, .undecided⟩ : CacheEnt) ∈ ((s.sequence via seq op d).session via).cache) ∧
    (op ≠ 0x0004 → (s.session via).known = true → 65520 ≤ (seq - (s.session via).expSeq).toNat →
      (s.sequence via seq op d).cmd.held = s.cmd.held ∧ (s.sequence via seq op d).pw = s.pw ∧
        (∀ e a, (s.session via).cache.find? (fun x => x.seq == seq) = some e → e.op = op → e.ans = .final a →
          (s.sequence via seq op d).get F.CMD.REPLAY = min (s.get F.CMD.REPLAY + 1) (2 ^ F.CMD.REPLAY.wd - 1))) ∧
    (op ≠ 0x0004 → (s.session via).known = true → 0 < (seq - (s.session via).expSeq).toNat → (seq - (s.session via).expSeq).toNat ≤ 32767 →
      (s.sequence via seq op d).cmd.held = s.cmd.held ∧
        (s.sequence via seq op d).get F.CMD.SEQ_GAP = min (s.get F.CMD.SEQ_GAP + 1) (2 ^ F.CMD.SEQ_GAP.wd - 1)) ∧
    (op = 0x0004 → ((s.sequence via seq op d).session via).expSeq = seq + 1 ∧
      ((s.sequence via seq op d).session via).cache = [⟨seq, op, .undecided⟩] ∧ (s.sequence via seq op d).cmd.held = s.cmd.held ++ [⟨via, seq, op, d⟩])

/-- R29, R35: an answer over SPI puts its reply packet at the end of the outbound queue, REPLY set and the prefix of Table 2-4 in front of the data, and keeps the answer in the
cache; where no resend waits for it, nothing else changes. R31: the end of an ACCEPTED command sends one completion packet likewise, COMPLETION set. -/
def Obligations.ReplyForm : Prop :=
  (∀ (s : State) (op : Nat) (seq : BitVec 16) (a : Answer), s.cmd.resend = [] →
    ∃ x, s.sendReply .spi op seq a (.final a) =
        { s with cmd := { s.cmd with spi := x, outq := s.cmd.outq ++ [packet 0x80 1 op seq.toNat (answerBytes a)] } } ∧
      x = { s.cmd.spi with cache := setCached seq (.final a) s.cmd.spi.cache }) ∧
  (∀ (s : State) (op st dt : Nat) (data : List Byte) (r : Running), s.cmd.running.find? (fun r => r.op == op) = some r → r.port = .spi →
    packet 0x40 1 op r.seq.toNat (answerBytes (s.answer st dt data)) ∈ (s.complete op st dt data).cmd.outq ∧
      (s.complete op st dt data).isRunning op = false ∧ (s.complete op st dt data).flag ⟨0x10100, 8, 1⟩ = true)

/-! ### Table 2-10: status and reading -/

/-- R48, R449: PING, IDENTIFY, STATUS, SAFETY_STATUS, FAULT_LOG_READ and CMD_STATUS (of a command whose final status is known) are answered DONE with the data of Table 2-10 and
change nothing; SESSION_RESET is answered DONE without data and its handler changes nothing more. -/
def Obligations.StatusSet : Prop :=
  (∀ via seq, Does (.ping via seq) (fun _ => True) (fun _ => []) Nothing) ∧
  (∀ via seq, Does (.identify via seq) (fun _ => True) (fun u => (List.range 8).flatMap (fun i => beBytes 4 (u.view (4 * i)))) Nothing) ∧
  (∀ via seq, Does (.status via seq) (fun _ => True)
    (fun u => beBytes 4 (u.view 0x100) ++ beBytes 4 (u.view 0x120) ++ beBytes 4 (u.view 0x124) ++ beBytes 4 (u.view 0x128) ++ beBytes 1 u.profileNow ++ [0] ++
      beBytes 2 (u.session via).expSeq.toNat) Nothing) ∧
  (∀ via seq, Does (.sessionReset via seq) (fun _ => True) (fun _ => []) Nothing) ∧
  (∀ via seq (target : BitVec 16) (e : CacheEnt) (a : Answer), Does (.cmdStatus via seq target)
    (fun u => (u.session via).cache.find? (fun x => x.seq.toNat == target.toNat) = some e ∧ e.ans = .final a) (fun _ => [2, a.status] ++ beBytes 2 e.op) Nothing) ∧
  (∀ via seq, Does (.safetyStatus via seq) (fun _ => True) State.safetyBlock Nothing) ∧
  (∀ s : State, s.safetyBlock.length = 32) ∧
  (∀ via seq (first count : BitVec 16), 1 ≤ count.toNat → count.toNat ≤ 32 →
    Does (.faultLogRead via seq first count) (fun _ => True)
      (fun u => (List.range count.toNat).flatMap (fun i => u.logEntry (u.logIndex first.toNat + i))) Nothing) ∧
  (∀ (s : State) (i : Nat), (s.logEntry i).length = 16)

/-- The commands that read a block of Table 2-10 (PROFILE_READ, LIMITER_READ, LOOP_READ, LINK_STATUS, TIME_READ, THERMAL_READ, CAL_RECORD_READ, CLASS_COUNTERS_READ, FLASH_READ,
FW_INFO) are answered DONE, with a block of the table's length, wherever the domain they read is on (R473) and their operands are in range, and change nothing: no FRESH bit (R141). -/
def Obligations.BlockReads : Prop :=
  (∀ via seq (profile : Byte), profile.toNat ≤ 3 ∨ profile = 0xFF → Does (.profileRead via seq profile) (fun _ => True)
    (fun u => u.profBlock (if profile = 0xFF then u.scan.named else profile.toNat)) Nothing) ∧
  (∀ via seq, Does (.limiterRead via seq) (fun u => u.domOn 68 = true)
    (fun u => (List.range 16).flatMap (fun i => beBytes 4 (u.rd (0x24600 + 4 * i)).toNat)) Nothing) ∧
  (∀ via seq (loop : Byte), loop.toNat ≤ 7 → Does (.loopRead via seq loop) (fun u => u.domOn 67 = true)
    (fun u => beBytes 4 (u.mode loop.toNat * 2 ^ 24 + bitsOf (u.rd (0x3001C + 0x400 * loop.toNat)).toNat 0 8 * 2 ^ 16 + bitsOf (u.get (F.LOOP.LOOP_RES_ST loop.toNat)) 0 16) ++
      (List.range 7).flatMap (fun i => beBytes 4 (u.rd (0x30024 + 0x400 * loop.toNat + 4 * i)).toNat)) Nothing) ∧
  (∀ via seq (port : Byte), port.toNat ≤ 2 → Does (.linkStatus via seq port) (fun u => u.domOn 77 = true) (fun u => u.linkBlock port.toNat) Nothing) ∧
  (∀ (s : State) (n : Nat), (s.linkBlock n).length = 16) ∧
  (∀ via seq, Does (.timeRead via seq) (fun u => u.domOn 78 = true)
    (fun u => beBytes 8 u.time.dev.toNat ++ beBytes 4 (u.tb.st + 16 * u.get F.TB.TB_CTRL_MODE + 64 * u.get F.TB.TB_STAT_AS_CAPABLE + 128 * u.get F.TB.TB_STAT_GM_PRESENT) ++
      beBytes 4 (if u.get F.TB.TB_CTRL_MODE = 1 ∧ u.tb.st ≠ 0 then u.get F.TB.OFFSET else 0)) Nothing) ∧
  (∀ via seq, Does (.thermalRead via seq) (fun _ => True) State.thermalBlock Nothing) ∧
  (∀ s : State, s.thermalBlock.length = 48) ∧
  (∀ via seq (record : BitVec 16), record.toNat ≤ 255 → Does (.calRecordRead via seq record) (fun _ => True)
    (fun u => u.flashRead (0x00F00000 + 0x10000 * u.cal.copy + 256 * record.toNat) 256) Nothing) ∧
  (∀ via seq, Does (.classCountersRead via seq) (fun u => u.domOn 79 = true)
    (fun u => (List.range 18).flatMap (fun i => beBytes 4 (u.rd ((F.MEM.SERVED 0).addr + 4 * i)).toNat)) Nothing) ∧
  (∀ via seq (addr : BitVec 32) (n : BitVec 16), 1 ≤ n.toNat → n.toNat ≤ 1024 → addr.toNat + n.toNat ≤ 0x1000000 →
    (addr.toNat + n.toNat ≤ 0xF20000 ∨ 0xF40000 ≤ addr.toNat) → Does (.flashRead via seq addr n) (fun _ => True) (fun u => u.flashRead addr.toNat n.toNat) Nothing) ∧
  (∀ via seq, Does (.fwInfo via seq) (fun _ => True)
    (fun u => [u.pw.running] ++ beBytes 1 (u.get F.SYS.BOOT_STATUS_SOURCE) ++ [0, 0] ++ beBytes 4 u.otp.secCounter ++ u.slotEntry 0 ++ u.slotEntry 1 ++ zeros 8) Nothing) ∧
  (∀ (s : State) (slot : Nat), (s.slotEntry slot).length = 24)

/-! ### Registers -/

/-- R52, R54, R57: REG_READ returns the words of one block in address order as they show, and clears FRESH and OVERRUN of a result status word, of nothing else: a word that is no
status word reads without any change (TB_TIME_LO latches the whole time; the words that show a free value use it up). A misaligned address, one outside every block, a count of 0
or above 256, and a range that leaves its block are BAD_PARAM with nothing read. -/
def Obligations.RegisterReads : Prop :=
  (∀ via seq (a : BitVec 32), a.toNat % 4 = 0 → oneBlock a.toNat 1 = true → isStatusWord a.toNat = false →
    a.toNat ≠ F.TB.TB_TIME_LO.addr → a.toNat ≠ (F.CAM.CSI_STAT_PHY_HS 0).addr → a.toNat ≠ (F.CAM.CSI_STAT_PHY_HS 1).addr →
    Does (.regRead via seq a 1) (fun u => u.touchesOff a.toNat 1 = false) (fun u => beBytes 4 (u.view a.toNat)) Nothing) ∧
  (∀ via seq (a : BitVec 32), a.toNat % 4 = 0 → oneBlock a.toNat 1 = true → isStatusWord a.toNat = true →
    Does (.regRead via seq a 1) (fun u => u.touchesOff a.toNat 1 = false) (fun u => beBytes 4 (u.view a.toNat))
      (fun u t => OnlyRegs u t [a.toNat] ∧ t.get ⟨a.toNat, 31, 1⟩ = 0 ∧ t.get ⟨a.toNat, 30, 1⟩ = 0 ∧ ∀ i < 30, (t.rd a.toNat).getLsbD i = (u.rd a.toNat).getLsbD i)) ∧
  (∀ via seq (a : BitVec 32) (n : BitVec 16), a.toNat % 4 = 0 → 1 ≤ n.toNat → n.toNat ≤ 256 → oneBlock a.toNat n.toNat = true →
    Does (.regRead via seq a n) (fun u => u.touchesOff a.toNat n.toNat = false) (fun u => wordBytes (u.readWords true a.toNat n.toNat).1)
      (fun u t => t = (u.readWords true a.toNat n.toNat).2)) ∧
  (∀ via seq, Does (.tbTimeLoRead via seq) (fun u => u.domOn 66 = true) (fun u => beBytes 4 (u.time.dev.toNat % 2 ^ 32))
    (fun u t => t = { u with time := { u.time with hiLatch := BitVec.ofNat 32 (u.time.dev.toNat / 2 ^ 32) } }))

/-- R2, R53, R451, R453: REG_WRITE stores its words in address order by the rules of their block; within a block without rules of its own every field takes what its access type
gives it, RO, WO and reserved bits keep their value, and no other word changes. R455: a word of the limiter block or of the safety block is locked. -/
def Obligations.RegisterWrites : Prop :=
  (∀ via seq (a : BitVec 32) (vs : List Word), a.toNat % 4 = 0 → 1 ≤ vs.length → vs.length ≤ 256 → oneBlock a.toNat vs.length = true →
    (wordAddrs a.toNat vs.length).any lockedWord = false →
    Does (.regWrite via seq a vs) (fun u => u.touchesOff a.toNat vs.length = false ∧ u.writeRefused a.toNat vs = false) (fun _ => []) (fun u t => t = u.hostWrites a.toNat vs)) ∧
  (∀ (s : State) (a : Nat) (v : Word), s.hostWrite a v = s.wr a (BitVec.ofNat 32 (wordAfter (fieldsAt a) (s.rd a).toNat v.toNat))) ∧
  (∀ (s : State) (a : Nat) (v : Word) (f : RegFld), f ∈ fieldsAt a → f.acc = .rw →
    (s.hostWrite a v).get ⟨a, f.lo, f.wd⟩ = clampFld f (bitsOf v.toNat f.lo f.wd)) ∧
  (∀ (s : State) (a : Nat) (v : Word) (f : RegFld), f ∈ fieldsAt a → f.acc = .ro ∨ f.acc = .wo ∨ f.acc = .st →
    (s.hostWrite a v).get ⟨a, f.lo, f.wd⟩ = s.get ⟨a, f.lo, f.wd⟩) ∧
  (∀ (s : State) (a : Nat) (v : Word), OnlyRegs s (s.hostWrite a v) [a]) ∧
  (∀ (c : Instr) (s : State) (p : Pkt) (u : State) (a : BitVec 32) (vs : List Word), c = .regWrite p.via p.seq a vs → Runs c s p u →
    (wordAddrs a.toNat vs.length).any lockedWord = true → exec c s = .next (u.replied p 0x14 1 []))

/-- R54: REG_RMW of one word reads it, writes (old AND NOT mask) OR (value AND mask) with the W1C bits outside the mask as 0, and returns the old word and the word written. -/
def Obligations.RegisterRmw : Prop :=
  (∀ via seq (a mask value : BitVec 32), a.toNat % 4 = 0 → oneBlock a.toNat 1 = true → lockedWord a.toNat = false →
    Does (.regRmw via seq a mask value)
      (fun u => u.touchesOff a.toNat 1 = false ∧ u.writeRefused a.toNat [BitVec.ofNat 32 (rmwWord (fieldsAt a.toNat) (u.view a.toNat) mask.toNat value.toNat)] = false)
      (fun u => beBytes 4 (u.view a.toNat) ++ beBytes 4 (rmwWord (fieldsAt a.toNat) (u.view a.toNat) mask.toNat value.toNat))
      (fun u t => t = (u.afterView a.toNat).hostWrites a.toNat [BitVec.ofNat 32 (rmwWord (fieldsAt a.toNat) (u.view a.toNat) mask.toNat value.toNat)])) ∧
  (∀ (fs : List RegFld) (old mask value : Nat), clearBits fs = 0 → old < 2 ^ 32 →
    rmwWord fs old mask value = (old &&& (2 ^ 32 - 1 - mask)) ||| (value &&& mask)) ∧
  (∀ (fs : List RegFld) (old mask value i : Nat), clearBits fs < 2 ^ 32 → i < 32 → (clearBits fs).testBit i = true → mask.testBit i = false →
    (rmwWord fs old mask value).testBit i = false)

/-! ### Events and transports -/

/-- R423, R425, R429: an event that is raised sets its EV_RAW bit, counts in EV_COUNT (which stays at its greatest value), and, with a class of LOG or above, waits as a fault for the
fault manager; no register of the scan, of the loops or of the power states changes. R424, R425: EVENT_SUBSCRIBE stores the mask of its own transport, drops the entries it no longer selects and sets ESEQ to 0; nothing else changes. -/
def Obligations.EventRaising : Prop :=
  (
    ∀ (s : State) (n inst dat : Nat), n < 256 →
      (s.raise n inst dat).flag ⟨0x10100 + 4 * (n / 32), n % 32, 1⟩ = true ∧
      (s.raise n inst dat).get (F.CMD.EV_COUNT n) = min (s.get (F.CMD.EV_COUNT n) + 1) (2 ^ (F.CMD.EV_COUNT n).wd - 1) ∧
      (0 < s.evClass n → (⟨n, s.evClass n, inst % 65536, dat % 65536, s.time.dev⟩ : FaultRec) ∈ (s.raise n inst dat).fm.queue) ∧
      (s.evClass n = 0 → (s.raise n inst dat).fm = s.fm) ∧
      (s.raise n inst dat).pw = s.pw ∧ (s.raise n inst dat).scan = s.scan ∧ (s.raise n inst dat).eng = s.eng ∧ SameMem s (s.raise n inst dat)) ∧
  (
    ∀ (c : Instr) (s : State) (p : Pkt) (u : State) (mask : BitVec 256), c = .eventSubscribe p.via p.seq mask → Runs c s p u →
      ∃ t, Done c s p t [] ∧
        t = u.setSession p.via { u.session p.via with
          mask := mask, evs := (u.session p.via).evs.filter (fun e => mask.toNat / 2 ^ e.ev % 2 == 1), eseq := 0 })


/-- R424 to R426, Table 19-3: the oldest pending entries of SPI, at most 32, leave as one event packet with ESEQ, EVENT set, their number, the number lost, and 16 bytes each;
ESEQ counts up and the lost count returns to 0. Where no entry is pending nothing happens. R40, R36: the entries of Oazil go onto stream 0. -/
def Obligations.EventPackets : Prop :=
  (Happens (.eventPacketSend .spi) (fun s => s.cmd.spi.evs.isEmpty = false ∧ 24 + 16 * (s.cmd.spi.evs.take 32).length ≤ s.outFree)
    (fun s t => t = { s with cmd := { s.cmd with
      spi := { s.cmd.spi with evs := s.cmd.spi.evs.drop 32, lost := 0, eseq := s.cmd.spi.eseq + 1 }
      outq := s.cmd.outq ++ [packet 0x20 1 0 s.cmd.spi.eseq.toNat (beBytes 2 (s.cmd.spi.evs.take 32).length ++ beBytes 2 s.cmd.spi.lost ++ zeros 4 ++
        (s.cmd.spi.evs.take 32).flatMap eventEntry)] } })) ∧
  (Happens (.eventPacketSend .spi) (fun s => s.cmd.spi.evs.isEmpty = false ∧ s.outFree < 24 + 16 * (s.cmd.spi.evs.take 32).length)
    (fun s t => t.cmd = { s.cmd with spi := { s.cmd.spi with evs := s.cmd.spi.evs.drop 32, lost := min (s.cmd.spi.lost + (s.cmd.spi.evs.take 32).length) 65535 } } ∧
      t.get F.CMD.EVT_DROP = min (s.get F.CMD.EVT_DROP + (s.cmd.spi.evs.take 32).length) (2 ^ F.CMD.EVT_DROP.wd - 1))) ∧
  (∀ e : EvEnt, (eventEntry e).length = 16) ∧
  (∀ via, Happens (.eventPacketSend via) (fun s => (s.session via).evs.isEmpty = true) Nothing) ∧
  (Happens (.eventPacketSend .oazil) (fun s => s.cmd.oazil.evs.isEmpty = false ∧ s.transportUp .oazil = true)
    (fun s t => t.cmd = { s.cmd with oazil := { s.cmd.oazil with evs := s.cmd.oazil.evs.drop 32, lost := 0, eseq := s.cmd.oazil.eseq + 1 } } ∧
      (t.stream 0).units = (s.stream 0).units ++ [packet 0x20 3 0 s.cmd.oazil.eseq.toNat (beBytes 2 (s.cmd.oazil.evs.take 32).length ++
        beBytes 2 s.cmd.oazil.lost ++ zeros 4 ++ (s.cmd.oazil.evs.take 32).flatMap eventEntry)] ∧ t.regs = s.regs)) ∧
  (∀ q : Peer, Happens (.eventPacketSend (.udp q)) (fun s => (s.session (.udp q)).evs.isEmpty = false ∧ s.transportUp (.udp q) = true)
    (fun s t => t.out = .datagram q (packet 0x20 2 0 (s.session (.udp q)).eseq.toNat (beBytes 2 ((s.session (.udp q)).evs.take 32).length ++
        beBytes 2 (s.session (.udp q)).lost ++ zeros 4 ++ ((s.session (.udp q)).evs.take 32).flatMap eventEntry)) :: s.out ∧
      t.get F.ETH.TX_FRAMES = min (s.get F.ETH.TX_FRAMES + 1) (2 ^ F.ETH.TX_FRAMES.wd - 1) ∧
      t.session (.udp q) = { s.session (.udp q) with evs := (s.session (.udp q)).evs.drop 32, lost := 0, eseq := (s.session (.udp q)).eseq + 1 }))

/-- R34, R35: a READ frame shifts out the length of the packet at the head of the outbound queue, the packet, then zeros, as many bytes as are clocked; a packet read to its last byte
leaves the queue. A READ frame of an empty queue shifts out zeros. R34, R41: a frame of any other first byte, a WRITE frame shorter than a header or than its packet, and a header that fails step 1 are counted in SPI_FRAME_ERR or HDR_ERR, no
command of theirs runs and nothing answers them. -/
def Obligations.SpiFrames : Prop :=
  (
    (∀ n, Happens (.spiReadFrame n) (fun s => s.sleeps = false ∧ s.pw.st ≠ .off)
      (fun s t => t.out = .spi ((s.spiShift ++ zeros (n - s.spiShift.length)).take n) :: s.out ∧
        t.cmd.outq = (if s.spiShift.length ≤ n then s.cmd.outq.drop 1 else s.cmd.outq) ∧
        t = { s with out := t.out, cmd := { s.cmd with outq := t.cmd.outq } })) ∧
    (∀ s : State, s.cmd.outq = [] → s.spiShift = [0, 0]) ∧
    (∀ (s : State) (p : List Byte) (r : List (List Byte)), s.cmd.outq = p :: r → s.spiShift = beBytes 2 p.length ++ p)) ∧
  (
    (∀ b : Byte, b ≠ 0x5A → b ≠ 0xA5 → Happens (.spiIgnoredFrame b) (fun s => s.sleeps = false ∧ s.hears .spi = true) (fun s t => t = s.inc F.CMD.SPI_FRAME_ERR)) ∧
    (∀ bytes : List Byte, bytes.length < 12 → Happens (.spiWriteFrame bytes) (fun s => s.sleeps = false ∧ s.hears .spi = true) (fun s t => t = s.inc F.CMD.SPI_FRAME_ERR)) ∧
    (∀ bytes : List Byte, 12 ≤ bytes.length → headerOk bytes = false → Happens (.spiWriteFrame bytes) (fun s => s.sleeps = false ∧ s.hears .spi = true) (fun s t => t = s.inc F.CMD.HDR_ERR)) ∧
    (∀ bytes : List Byte, headerOk bytes = true → u16 bytes 8 ≤ 2048 → bytes.length < packetBytes bytes →
      Happens (.spiWriteFrame bytes) (fun s => s.sleeps = false ∧ s.hears .spi = true) (fun s t => t = s.inc F.CMD.SPI_FRAME_ERR)) ∧
    (∀ (q : Peer) (bytes : List Byte), headerOk bytes = false → Happens (.udpCommandDatagram q bytes) (fun s => s.hears (.udp q) = true)
      (fun s t => t = (s.inc F.ETH.RX_FRAMES).inc F.CMD.HDR_ERR)) ∧
    (∀ f : Fld, f = F.CMD.SPI_FRAME_ERR ∨ f = F.CMD.HDR_ERR ∨ f = F.CMD.CRC_ERR →
      ∀ s : State, OnlyRegs s (s.inc f) [f.addr] ∧ (s.inc f).get f = min (s.get f + 1) (2 ^ f.wd - 1)))


/-- R28, R41, steps 2 to 5 of Table 2-5 over SPI, where the command engine takes the packet (R43): LENGTH above 2,048 is answered BAD_LENGTH 1; a wrong CRC is counted in CRC_ERR and
answered CRC_ERROR; then a TRANSPORT other than 0x01 is answered BAD_PARAM 0xFE and a VERSION other than 1 UNKNOWN_OPCODE 0xFF. Nothing else happens; the number is not consumed. -/
def Obligations.PacketSteps : Prop :=
  (∀ bytes : List Byte, headerOk bytes = true → 2048 < u16 bytes 8 →
    Happens (.spiWriteFrame bytes) (fun s => s.sleeps = false ∧ s.hears .spi = true ∧ s.unanswered .spi < 16)
      (fun s t => t = s.refuse .spi (u16 bytes 4) (BitVec.ofNat 16 (u16 bytes 6)) 0x11 1 [])) ∧
  (∀ bytes : List Byte, headerOk bytes = true → u16 bytes 8 ≤ 2048 → packetBytes bytes ≤ bytes.length →
    Happens (.spiWriteFrame bytes) (fun s => s.sleeps = false ∧ s.hears .spi = true ∧ s.unanswered .spi < 16 ∧
        beAt bytes (packetBytes bytes - 4) 4 ≠ crc32c (bytes.take (packetBytes bytes - 4)))
      (fun s t => t = (s.inc F.CMD.CRC_ERR).refuse .spi (u16 bytes 4) (BitVec.ofNat 16 (u16 bytes 6)) 0x30 0 []) ∧
    Happens (.spiWriteFrame bytes) (fun s => s.sleeps = false ∧ s.hears .spi = true ∧ s.unanswered .spi < 16 ∧
        beAt bytes (packetBytes bytes - 4) 4 = crc32c (bytes.take (packetBytes bytes - 4)) ∧ u8 bytes 3 ≠ 1)
      (fun s t => t = s.refuse .spi (u16 bytes 4) (BitVec.ofNat 16 (u16 bytes 6)) 0x12 0xFE []) ∧
    Happens (.spiWriteFrame bytes) (fun s => s.sleeps = false ∧ s.hears .spi = true ∧ s.unanswered .spi < 16 ∧
        beAt bytes (packetBytes bytes - 4) 4 = crc32c (bytes.take (packetBytes bytes - 4)) ∧ u8 bytes 3 = 1 ∧ u8 bytes 1 ≠ 1)
      (fun s t => t = s.refuse .spi (u16 bytes 4) (BitVec.ofNat 16 (u16 bytes 6)) 0x10 0xFF [])) ∧
  (∀ (s : State) (op st dt : Nat) (seq : BitVec 16), s.refuse .spi op seq st dt [] =
    { s with cmd := { s.cmd with outq := s.cmd.outq ++ [packet 0x80 1 op seq.toNat ([BitVec.ofNat 8 st, BitVec.ofNat 8 dt, 0, 0] ++ beBytes 8 s.time.dev.toNat)] } })

/-! ### Power, reset and boot (chapters 1 and 3) -/

/-- R61 to R65, R84: what each reset source does. VDD_AON coming up starts the cold boot; its loss ends in OFF with every domain off; a lost rail is recorded in RST_CAUSE and a boot waits for
the rails; RAILS_GOOD samples the straps; a low pulse of RESET_N of 1 µs or more starts a warm reset, is only noted in THERMAL_LATCH, and is nothing below 200 ns (between the two the
model lets either happen, notes/assumptions/6.md); the watchdog and a reboot that is due start a warm reset. The flash, the OTP and, in a warm reset, the fault log stay. -/
def Obligations.ResetSources : Prop :=
  Happens .vddAonRise (fun s => s.pw.st = .off) (fun s t => BootBegun t .cold .rails 0 ∧ t.flash = s.flash ∧ t.otp = s.otp ∧ t.fm.log = []) ∧
  Happens .vddAonLoss (fun s => s.pw.st ≠ .off) (fun s t => t.pw.st = .off ∧ (∀ p : Fin 80, t.domOn p = false) ∧ t.flash = s.flash ∧ t.otp = s.otp ∧ t.fm.log = [] ∧ t.dram = []) ∧
  (∀ r : Fin 9, r ≠ 0 → Happens (.railBrownout r) (fun s => s.pw.st ≠ .off ∧ s.pw.st ≠ .dormant)
    (fun s t => BootBegun t .warm .rails 0 ∧ t.get F.SYS.RST_CAUSE_BROWNOUT = 1 ∧ t.get F.SYS.RST_CAUSE_RAIL = r.val ∧ t.flash = s.flash ∧ t.otp = s.otp)) ∧
  (∀ b : BitVec 2, Happens (.railsGood b) (fun s => s.pw.st = .booting ∧ s.pw.boot.phase = .rails)
    (fun s t => t = { s with regs := t.regs, pw := { s.pw with boot := { s.pw.boot with phase := .rom, strap := b } } } ∧ SameRegs s t [F.SYS.BOOT_STATUS_STRAP.addr] ∧
      t.get F.SYS.BOOT_STATUS_STRAP = b.toNat)) ∧
  (∀ ns : Nat, 1000 ≤ ns → Happens (.resetNPulse ns) (fun s => s.pw.st = .ready ∨ s.pw.st = .scanning ∨ s.pw.st = .safeHold)
    (fun s t => BootBegun t .warm .rom 0 ∧ t.get F.SYS.RST_CAUSE_PIN = 1 ∧ t.flash = s.flash ∧ t.otp = s.otp ∧ t.fm.log = s.fm.log)) ∧
  (∀ ns : Nat, 1000 ≤ ns → Happens (.resetNPulse ns) (fun s => s.pw.st = .thermalLatch)
    (fun s t => OnlyRegs s t [F.SYS.RST_CAUSE_PIN_IGNORED.addr] ∧ t.get F.SYS.RST_CAUSE_PIN_IGNORED = 1)) ∧
  (∀ ns : Nat, ns < 200 → Happens (.resetNPulse ns) (fun _ => True) Nothing) ∧
  (∀ ns : Nat, 200 ≤ ns → ns < 1000 → Happens (.resetNPulse ns) (fun s => s.pw.st = .ready)
    (fun s t => t = { s with free := s.free + 1 } ∨ (BootBegun t .warm .rom 0 ∧ t.get F.SYS.RST_CAUSE_PIN = 1))) ∧
  Happens .watchdogExpiry (fun s => s.firmwareRuns = true) (fun s t => BootBegun t .warm .rom 0 ∧ t.get F.SYS.RST_CAUSE_WATCHDOG = 1) ∧
  Happens .rebootStart (fun s => s.pw.rebootPend = true)
    (fun s t => BootBegun t .warm .rom 0 ∧ t.get F.SYS.RST_CAUSE_FW_REQUEST = 1 ∧ t.flash = s.flash ∧ t.otp = s.otp ∧ t.fm.log = s.fm.log) ∧
  Happens .rebootStart (fun s => s.pw.rebootPend = false) Nothing

/-- R22, R37, R85: DORMANT is answered DONE in READY and noted; its entry drops what is queued, held or running without a packet; at its end only domain 64 is on; a wake source then, or
one latched during the entry, starts the wake boot with its CAUSE (3 WAKE_N, 4 SPI, 5 Ethernet). R64: REBOOT is answered DONE and noted. -/
def Obligations.DormantAndWake : Prop :=
  (∀ (c : Instr) (s : State) (p : Pkt) (u : State), c = .dormant p.via p.seq → Runs c s p u → u.pw.st = .ready →
    DoneThen c s p u [] (fun t => { t with pw := { t.pw with dormPend := some p.via } })) ∧
  (∀ via seq, TurnsAway (.dormant via seq) (fun u => u.pw.st ≠ .ready) 0x13 State.stateCode) ∧
  (∀ (c : Instr) (s : State) (p : Pkt) (u : State), c = .reboot p.via p.seq → Runs c s p u →
    DoneThen c s p u [] (fun t => { t with pw := { t.pw with rebootPend := true } })) ∧
  Happens .dormantEntryBegin (fun s => s.pw.st = .ready ∧ s.pw.dormPend.isSome = true)
    (fun s t => t.pw.st = .dormantEntry ∧ t.pw.cause = 1 ∧ t.pw.dormPend = none ∧ t.pw.wakeLatched = none ∧ t.pw.rebootPend = false ∧
      t.cmd.outq = [] ∧ t.cmd.held = [] ∧ t.cmd.running = [] ∧ t.cmd.deferred = [] ∧ t.cmd.resend = [] ∧ t.scan.phase = .idle) ∧
  Happens .dormantEntryBegin (fun s => s.pw.st ≠ .ready ∨ s.pw.dormPend = none) Nothing ∧
  Happens .dormantEntryComplete (fun s => s.pw.st = .dormantEntry ∧ s.pw.wakeLatched = none)
    (fun s t => t.pw.st = .dormant ∧ (∀ p : Fin 80, t.domOn p = (p == 64)) ∧ t.flash = s.flash ∧ t.otp = s.otp ∧ t.cmd = State.reset.cmd ∧ t.fm.log = []) ∧
  (∀ src : BitVec 2, Happens .dormantEntryComplete (fun s => s.pw.st = .dormantEntry ∧ s.pw.wakeLatched = some src)
    (fun s t => BootBegun t .wake .rails (3 + src.toNat) ∧ t.get F.SYS.RST_CAUSE_WAKE = 1 ∧ t.flash = s.flash ∧ t.otp = s.otp)) ∧
  (∀ src : BitVec 2, src ≠ 3 →
    Happens (.wakeSource src) (fun s => s.pw.st = .dormant) (fun s t => BootBegun t .wake .rails (3 + src.toNat) ∧ t.get F.SYS.RST_CAUSE_WAKE = 1 ∧ t.flash = s.flash ∧ t.otp = s.otp) ∧
    Happens (.wakeSource src) (fun s => s.pw.st = .dormantEntry ∧ s.pw.wakeLatched = none) (fun s t => t = { s with pw := { s.pw with wakeLatched := some src } }) ∧
    Happens (.wakeSource src) (fun s => s.pw.st = .dormantEntry ∧ s.pw.wakeLatched ≠ none) Nothing ∧
    Happens (.wakeSource src) (fun s => s.pw.st = .ready ∨ s.pw.st = .scanning ∨ s.pw.st = .safeHold ∨ s.pw.st = .thermalLatch) Nothing)

/-- R69, R71, R73, R76, R79, R82, R83, R86: the boot. The ROM goes to THERMAL_LATCH where the latch flag stands, to a download where the strap says so, else checks the active slot, or the other
one in a warm boot after an attempted trial; a slot that passes runs the firmware, one that does not is followed by the next, the last by SAFE_HOLD with CAUSE 8; the domains come
on ten at a time; the self-test ends in READY with the CAUSE of the boot, or in SAFE_HOLD with CAUSE 2 where no copy of the calibration record stands. -/
def Obligations.BootSequence : Prop :=
  Happens .bootRomStart (fun s => s.pw.st = .booting ∧ s.pw.boot.phase = .rom ∧ s.pw.latchFlag = true)
    (fun s t => t.pw.st = .thermalLatch ∧ t.pw.cause = s.pw.cause ∧ t.pw.romOnly = true ∧ t.get F.SYS.RST_CAUSE_THERMAL = 1 ∧ t.get F.SYS.BOOT_STATUS_ROM_ONLY = 1) ∧
  Happens .bootRomStart (fun s => s.pw.st = .booting ∧ s.pw.boot.phase = .rom ∧ s.pw.latchFlag = false ∧ s.pw.boot.strap = 1)
    (fun _ t => t.pw.st = .safeHold ∧ t.pw.cause = 8 ∧ t.pw.boot.phase = .download ∧ t.pw.romOnly = true) ∧
  (∀ (copy seq active : Nat) (trial : Bool), Happens .bootRomStart
    (fun s => s.pw.st = .booting ∧ s.pw.boot.phase = .rom ∧ s.pw.latchFlag = false ∧ s.pw.boot.strap ≠ 1 ∧ s.bootRecord = some (copy, seq, active, trial))
    (fun s t => t.pw.st = .booting ∧ t.pw.boot.phase = .verify ∧ t.get F.SYS.BOOT_STATUS_STAGE = 2 ∧ t.get F.SYS.CLK_STAT_XTAL_OK = 1 ∧ t.bitAt F.SYS.CLK_STAT_LOCKED 1 = true ∧
      t.pw.boot.slot = (if trial = true ∧ s.pw.trialAttempt = true ∧ s.pw.boot.kind = .warm then 1 - active else active) ∧ t.pw.boot.order = [1 - t.pw.boot.slot])) ∧
  (∀ fe : Bool,
    Happens (.imageVerifyDone fe) (fun s => s.pw.boot.phase = .verify ∧ (fe = false ∨ s.pw.boot.slot = 2) ∧ s.imageFault s.pw.boot.slot = none)
      (fun s t => t.pw.st = .booting ∧ t.pw.romOnly = false ∧ t.pw.running = BitVec.ofNat 8 s.pw.boot.slot ∧ t.pw.boot.phase = .selfTest ∧ t.pw.boot.group = 0 ∧
        t.get F.SYS.BOOT_STATUS_STAGE = 5 ∧ t.get F.SYS.BOOT_STATUS_ROM_ONLY = 0) ∧
    (∀ (f : Nat × Nat) (n : Nat) (rest : List Nat), Happens (.imageVerifyDone fe)
      (fun s => s.pw.boot.phase = .verify ∧ s.pw.boot.slot ≠ 2 ∧ (if fe = true then some (0x9C, 0) else s.imageFault s.pw.boot.slot) = some f ∧ s.pw.boot.order = n :: rest)
      (fun s t => t.pw.boot.phase = .verify ∧ t.pw.boot.slot = n ∧ t.pw.boot.order = rest ∧ t.get F.SYS.BOOT_STATUS_CODE = f.1 % 256 ∧ t.pw.st = s.pw.st)) ∧
    (∀ f : Nat × Nat, Happens (.imageVerifyDone fe)
      (fun s => s.pw.boot.phase = .verify ∧ s.pw.boot.slot ≠ 2 ∧ (if fe = true then some (0x9C, 0) else s.imageFault s.pw.boot.slot) = some f ∧ s.pw.boot.order = [])
      (fun _ t => t.pw.st = .safeHold ∧ t.pw.cause = 8 ∧ t.pw.romOnly = true))) ∧
  Happens .domainGroupSwitchOn (fun s => s.pw.st = .booting ∧ s.pw.boot.phase = .selfTest ∧ s.pw.boot.group < 8)
    (fun s t => t.pw.boot.group = s.pw.boot.group + 1 ∧ ∀ p ∈ (domainOrder.drop (10 * s.pw.boot.group)).take 10, s.domReq p = true → t.domOn p = true) ∧
  (∀ (sl : BitVec 128) (rg : BitVec 4) (us : BitVec 32),
    Happens (.powerOnSelfTestDone sl rg 0 us) (fun s => s.pw.st = .booting ∧ s.pw.boot.phase = .selfTest ∧ s.pw.boot.group = 8 ∧ s.calChoose.1 ≠ [])
      (fun s t => t.pw.st = .ready ∧ t.pw.cause = s.pw.boot.causeAfter ∧ t.pw.boot.phase = .idle ∧ t.get F.SYS.BOOT_STATUS_STAGE = 6 ∧ t.get F.SYS.BOOT_TIME_TIME = us.toNat) ∧
    ∀ fail : BitVec 10, Happens (.powerOnSelfTestDone sl rg fail us) (fun s => s.pw.st = .booting ∧ s.pw.boot.phase = .selfTest ∧ s.pw.boot.group = 8 ∧ s.calChoose.1 = [])
      (fun _ t => t.pw.st = .safeHold ∧ t.pw.cause = 2 ∧ t.pw.boot.phase = .idle ∧ t.get F.SYS.POST_RESULT_CAL = 1))

/-! ### Clocks, domains, firmware update, faults -/

/-- R12, R450: a PLL that has lock and loses it clears its LOCKED bit and raises EV_PLL_UNLOCK with its number; one that is wanted regains it. Each comparison of the monitors stores SAFE_DEV;
one beyond 3 % counts in FAIL, and the second in a row raises EV_CLOCK_MONITOR; a stopped clock raises it at once, DATA 1 for SAFE and 2 for COARSE. -/
def Obligations.ClockMonitoring : Prop :=
  (∀ k : Fin 7, Happens (.pllUnlock k) (fun s => s.bitAt F.SYS.CLK_STAT_LOCKED k = true)
    (fun s t => ∃ x : State, t = x.raise EV_PLL_UNLOCK k 0 ∧ OnlyRegs s x [0x180] ∧ x.bitAt F.SYS.CLK_STAT_LOCKED k = false ∧
      ∀ j : Fin 7, j ≠ k → x.bitAt F.SYS.CLK_STAT_LOCKED j = s.bitAt F.SYS.CLK_STAT_LOCKED j)) ∧
  (∀ k : Fin 7, Happens (.pllUnlock k) (fun s => s.bitAt F.SYS.CLK_STAT_LOCKED k = false) Nothing) ∧
  (∀ k : Fin 7, Happens (.pllLock k) (fun s => s.pllsWanted.testBit k = true) (fun s t => OnlyRegs s t [0x180] ∧ t.bitAt F.SYS.CLK_STAT_LOCKED k = true)) ∧
  (∀ dev : BitVec 16, dev.toInt.natAbs ≤ 300 → Happens (.clockMonitorCompare dev) (fun _ => True)
    (fun s t => t = { s with regs := t.regs, pw := { s.pw with clkBad := false } } ∧ SameRegs s t [0x184] ∧ t.getI F.SYS.CLK_MON_SAFE_DEV = dev.toInt)) ∧
  (∀ dev : BitVec 16, 300 < dev.toInt.natAbs → Happens (.clockMonitorCompare dev) (fun s => s.pw.clkBad = false)
    (fun s t => t = { s with regs := t.regs, pw := { s.pw with clkBad := true } } ∧ SameRegs s t [0x184, 0x188] ∧ t.getI F.SYS.CLK_MON_SAFE_DEV = dev.toInt ∧
      t.get F.SYS.CLK_MON_FAIL = min (s.get F.SYS.CLK_MON_FAIL + 1) (2 ^ 32 - 1))) ∧
  (∀ dev : BitVec 16, 300 < dev.toInt.natAbs → Happens (.clockMonitorCompare dev) (fun s => s.pw.clkBad = true ∧ s.causeActive EV_CLOCK_MONITOR = false)
    (fun s t => ∃ x : State, t = x.raise EV_CLOCK_MONITOR 0 0 ∧ OnlyRegs s x [0x184, 0x188] ∧ x.getI F.SYS.CLK_MON_SAFE_DEV = dev.toInt)) ∧
  (∀ coarse : Bool, Happens (.clockStopDetect coarse) (fun _ => True)
    (fun s t => t = State.raise { s with pw := { s.pw with clkBad := true } } EV_CLOCK_MONITOR 0 (if coarse then 2 else 1)))

/-- R17, R18, R454: a write of a PWR_DOM_REQ word switches off at once the domains it no longer requests and leaves those of the other words as they are; none comes on by the write.
DOMAIN_READY brings a requested domain on, noted for the reload of its "cal" fields where it has some, and no other domain changes; the reload touches registers of its own domain only. -/
def Obligations.DomainSwitching : Prop :=
  (∀ via seq (i : Fin 3) (v : BitVec 32),
    Writes (.pwrDomReqWrite via seq i v) (0x110 + 4 * i.val) 1 (fun u => u.writeRefused (0x110 + 4 * i.val) [v] = false)
      (fun u t => (∀ p : Fin 80, p.val / 32 = i.val → t.domOn p = (u.domOn p && t.domReq p)) ∧ (∀ p : Fin 80, p.val / 32 ≠ i.val → t.domOn p = u.domOn p ∧ t.domReq p = u.domReq p) ∧
        ∀ p : Fin 80, p.val / 32 = i.val → p.val < 64 ∨ 67 ≤ p.val → t.domReq p = v.getLsbD (p.val % 32))) ∧
  (∀ d : Fin 80, Happens (.domainReady d) (fun s => s.domainMay d = true ∧ s.domOn d = false)
    (fun s t => t.domOn d = true ∧ (∀ p : Fin 80, p ≠ d → t.domOn p = s.domOn p) ∧ t.pw = { s.pw with reload := if reloads d then s.pw.reload ++ [d.val] else s.pw.reload })) ∧
  (∀ d : Fin 80, Happens (.domainReady d) (fun s => s.domainMay d = false ∨ s.domOn d = true) Nothing) ∧
  (∀ d : Fin 80, Happens (.calFieldReload d) (fun s => s.pw.reload.contains d.val = true)
    (fun s t => t.pw = { s.pw with reload := s.pw.reload.filter (fun q => q != d.val) } ∧ (∀ a, domainOf a ≠ d.val → t.rd a = s.rd a) ∧
      t = { s with pw := t.pw, regs := t.regs, eng := t.eng })) ∧
  (∀ d : Fin 80, Happens (.calFieldReload d) (fun s => s.pw.reload.contains d.val = false) Nothing)

/-- R70, R79, R80: an update. FW_BEGIN names a slot that does not run and starts its erase, which leaves 0xFF over IMAGE_LEN rounded up to 64 KiB; FW_WRITE in order stores its bytes and nothing else
of the flash; FW_VERIFY is ACCEPTED and its end notes whether the image stands, with the code of R76 where it does not; FW_ACTIVATE of a slot that passed writes a boot control record of the next sequence
number, TRIAL 1, into the other copy. -/
def Obligations.FirmwareUpdate : Prop :=
  (∀ via seq (slot : Byte) (len : BitVec 32), slot.toNat ≤ 1 → len.toNat % 4 = 0 → 576 ≤ len.toNat → len.toNat ≤ 7340032 →
    Does (.fwBegin via seq slot len) (fun u => (u.pw.st = .ready ∨ u.pw.st = .safeHold) ∧ u.downloading = false ∧ (u.pw.romOnly = true ∨ u.pw.running ≠ slot)) (fun _ => [])
      (fun u t => t = { u with pw := { u.pw with
        fw := some ⟨slot.toNat, len.toNat, 0, false, false⟩, verified0 := u.pw.verified0 && slot.toNat == 1, verified1 := u.pw.verified1 && slot.toNat == 0 } })) ∧
  (∀ via seq (len : BitVec 32), len.toNat % 4 = 0 → 576 ≤ len.toNat → len.toNat ≤ 7340032 →
    Does (.fwBegin via seq 0 len) (fun u => u.pw.st = .safeHold ∧ u.downloading = true) (fun _ => [])
      (fun u t => t = { u with pw := { u.pw with fw := some ⟨2, len.toNat, 0, true, false⟩, staging := [], verified0 := false, verified1 := false } })) ∧
  (∀ f : FwUpdate, f.slot < 2 → f.erased = false → Happens .flashEraseComplete (fun s => s.pw.fw = some f)
    (fun s t => t = { s with flash := t.flash, pw := { s.pw with fw := some { f with erased := true } } } ∧
      ∀ a, spGet flashDflt t.flash a =
        if slotBase f.slot ≤ a ∧ a < slotBase f.slot + (f.len + 65535) / 65536 * 65536 then 0xFF else spGet flashDflt s.flash a)) ∧
  (∀ via seq (off : BitVec 32) (data : List Byte) (f : FwUpdate), 4 ≤ data.length → data.length ≤ 1024 → data.length % 4 = 0 → off.toNat = f.written → f.written + data.length ≤ f.len →
    f.slot < 2 → f.erased = true →
    Does (.fwWrite via seq off data) (fun u => u.pw.fw = some f) (fun _ => [])
      (fun u t => t.pw.fw = some { f with written := f.written + data.length, verified := false } ∧ t.flashRead (slotBase f.slot + f.written) data.length = data ∧
        (∀ a, a < slotBase f.slot + f.written ∨ slotBase f.slot + f.written + data.length ≤ a → spGet flashDflt t.flash a = spGet flashDflt u.flash a) ∧
        t = { u with pw := t.pw, flash := t.flash })) ∧
  (∀ via seq, Starts (.fwVerify via seq) (fun u => u.pw.fw.isSome = true ∧ u.rangeBusy 0x0F03 = false) 0 Nothing) ∧
  (∀ via seq, TurnsAway (.fwVerify via seq) (fun u => u.pw.fw = none) 0x13 State.stateCode) ∧
  (∀ (fe : Bool) (f : FwUpdate), Happens (.fwVerifyComplete fe) (fun s => s.pw.fw = some f ∧ s.isRunning 0x0F03 = true ∧ (fe = false ∨ f.slot = 2) ∧ s.imageFault f.slot = none)
    (fun s t => ∃ x : State, t = x.complete 0x0F03 0 0 [] ∧ x = { s with pw := x.pw } ∧ x.pw.fw = some { f with verified := true } ∧
      (f.slot = 0 → x.pw.verified0 = true) ∧ (f.slot = 1 → x.pw.verified1 = true))) ∧
  (∀ (fe : Bool) (f : FwUpdate) (e : Nat × Nat), Happens (.fwVerifyComplete fe)
    (fun s => s.pw.fw = some f ∧ s.isRunning 0x0F03 = true ∧ (if fe && f.slot != 2 then some (0x9C, 0) else s.imageFault f.slot) = some e)
    (fun s t => ∃ x : State, t = x.complete 0x0F03 e.1 e.2 [] ∧ x = { s with pw := x.pw } ∧ x.pw.fw = some { f with verified := false } ∧
      (f.slot = 0 → x.pw.verified0 = false) ∧ (f.slot = 1 → x.pw.verified1 = false))) ∧
  (∀ via seq (slot : Byte), slot.toNat ≤ 1 → Does (.fwActivate via seq slot)
    (fun u => u.downloading = false ∧ (if slot.toNat = 0 then u.pw.verified0 else u.pw.verified1) = true ∧ u.imageFault slot.toNat = none) (fun _ => [])
    (fun u t => t = { u with flash := t.flash } ∧ (∀ copy n a tr, u.bootRecord = some (copy, n, a, tr) → n + 1 < 2 ^ 32 → t.bootRecord = some (1 - copy, n + 1, slot.toNat, true)) ∧
      (u.bootRecord = none → t.bootRecord = some (0, 1, slot.toNat, true)) ∧ ∀ a, 0x2000 ≤ a → spGet flashDflt t.flash a = spGet flashDflt u.flash a))

/-- R429 to R433: a fault that is processed is counted in FAULTS and logged with the index that FL_COUNT showed, which counts up; it fills FM_FIRST where that is empty and leaves it otherwise; at class
EMIT_OFF or above FM_STAT shows the greatest class of the episode, the timer runs, and source 6 of EMIT_INHIBIT sets; class SAFE_HOLD enters SAFE_HOLD from READY or SCANNING with CAUSE 2. R20, R428, R430 to R432: SAFE_HOLD enters SAFE_HOLD with CAUSE 1 and is refused outside READY and SCANNING; FAULT_CLEAR in SAFE_HOLD ends the episode and enters READY once recovery is complete, or the
hold was a command's, else it is counted in CLEAR_REFUSED and answered BAD_STATE; the recovery timer expires; a cause that has ended is no longer active; FM_FIRST clears whole; FM_CLASS takes no
class below the minimum of its event. -/
def Obligations.FaultHandling : Prop :=
  (
    (∀ (s : State) (f : FaultRec), f.cls < 2 → s.flag F.FM.FM_FIRST_VALID = true →
      s.processFault f = ((({ s with fm := { s.fm with log := (s.get F.FM.FL_COUNT, f) :: s.fm.log.take 63 } } : State).inc F.FM.FL_COUNT).inc F.FM.FAULTS)) ∧
    (∀ (s : State) (f : FaultRec), f.cls < 2 → f.ev < 256 → s.flag F.FM.FM_FIRST_VALID = false →
      (s.processFault f).get F.FM.FM_FIRST_EVENT = f.ev ∧ (s.processFault f).get F.FM.FM_FIRST_CLASS = f.cls ∧ (s.processFault f).flag F.FM.FM_FIRST_VALID = true ∧
        (s.processFault f).get F.FM.INDEX = s.get F.FM.FL_COUNT % 2 ^ F.FM.INDEX.wd ∧ (s.processFault f).fm.log.head? = some (s.get F.FM.FL_COUNT, f)) ∧
    (∀ (s : State) (f : FaultRec), f.cls = 2 → ∃ x : State,
      s.processFault f = x.inhibitOn (2 ^ 6) ∧ x.get F.FM.FM_STAT_CLASS = max (s.get F.FM.FM_STAT_CLASS) 2 ∧ x.get F.FM.FM_STAT_TIMER = 1 ∧ x.get F.FM.FM_STAT_RECOVERED = 0 ∧
        x.fm.counted = s.fm.counted ||| BitVec.ofNat 256 (2 ^ f.ev) ∧ x.fm.log.head? = some (s.get F.FM.FL_COUNT, f)) ∧
    (∀ (s : State) (f : FaultRec), f.cls = 3 → s.pw.st = .ready ∨ s.pw.st = .scanning → ∃ x : State,
      s.processFault f = (x.inhibitOn (2 ^ 6)).enterState .safeHold 2 ∧ x.get F.FM.FM_STAT_CLASS = 3) ∧
    (∀ (s : State) (f : FaultRec), f.cls = 3 → s.pw.st = .ready ∨ s.pw.st = .scanning → (s.processFault f).pw.st = .safeHold ∧ (s.processFault f).pw.cause = 2)) ∧
  (
    (∀ via seq, Does (.safeHold via seq) (fun u => u.pw.st = .ready ∨ u.pw.st = .scanning) (fun _ => [])
      (fun u t => t.pw = { u.pw with st := .safeHold, cause := 1, dormPend := none, holdByCmd := true } ∧ t.scan.phase = .idle)) ∧
    (∀ via seq, TurnsAway (.safeHold via seq) (fun u => u.pw.st ≠ .ready ∧ u.pw.st ≠ .scanning) 0x13 State.stateCode) ∧
    (∀ via seq, Does (.faultClear via seq) (fun u => u.pw.st = .safeHold ∧ u.clearable = true) (fun _ => [])
      (fun u t => t.pw = { u.pw with st := .ready, cause := 1, dormPend := none, holdByCmd := false } ∧ t.fm.counted = 0 ∧
        ∃ x : State, t = x.enterState .ready 1 ∧ x.get F.FM.FM_STAT_CLASS = 0 ∧ x.get F.FM.FM_STAT_TIMER = 0 ∧ (u.domOn 68 = true → x.bitAt F.SHT.EMIT_INHIBIT_SRC 6 = false))) ∧
    (∀ (c : Instr) (s : State) (p : Pkt) (u : State), c = .faultClear p.via p.seq → Runs c s p u → u.pw.st = .safeHold → u.clearable = false →
      Refused c s p (u.inc F.FM.CLEAR_REFUSED) 0x13 3) ∧
    (∀ via seq, TurnsAway (.faultClear via seq) (fun u => u.pw.st ≠ .safeHold) 0x13 State.stateCode) ∧
    Happens .recoveryTimerExpiry (fun _ => True) (fun s t => OnlyRegs s t [F.FM.FM_STAT_TIMER.addr] ∧ t.get F.FM.FM_STAT_TIMER = 0 ∧ t.get F.FM.FM_STAT_CLASS = s.get F.FM.FM_STAT_CLASS) ∧
    (∀ n : BitVec 8, Happens (.faultCauseCleared n) (fun s => lastingEvents.contains n.toNat = true ∧ s.causeActive n.toNat = true ∧ s.causeNow n.toNat = false)
      (fun s t => OnlyRegs s t [(activeBit n.toNat).addr] ∧ t.causeActive n.toNat = false)) ∧
    (∀ n : BitVec 8, Happens (.faultCauseCleared n) (fun s => lastingEvents.contains n.toNat = false ∨ s.causeActive n.toNat = false ∨ s.causeNow n.toNat = true) Nothing) ∧
    (∀ via seq, Writes (.fmFirstClear via seq) F.FM.FM_FIRST_VALID.addr 1 (fun _ => True)
      (fun u t => OnlyRegs u t [0x7000010, 0x7000014, 0x7000018, 0x700001C, 0x7000020] ∧ ∀ a ∈ [0x7000010, 0x7000014, 0x7000018, 0x700001C, 0x7000020], t.rd a = 0)) ∧
    (∀ via seq (i : Fin 16) (v : BitVec 32), Writes (.fmClassWrite via seq i v) (0x7000100 + 4 * i.val) 1 (fun _ => True)
      (fun u t => OnlyRegs u t [0x7000100 + 4 * i.val] ∧ ∀ k : Fin 16, t.evClass (16 * i.val + k.val) =
        max (bitsOf v.toNat (2 * k.val) 2) (bitsOf (regReset (0x7000100 + 4 * i.val)).toNat (2 * k.val) 2))))


/-! ### Scan control and dumps (chapters 0, 1, 8) -/

/-- R1, R6, R51, R131: SCAN_START in READY, every check of R51 passed, is ACCEPTED: the selected profile is loaded and Loops 0 to 3 are closed; in SCANNING with RESTART it is ACCEPTED and waits for the
next column boundary. SETTLE_TIMEOUT ends a start whose loops have not settled with NOT_SETTLED and the first such loop. PROFILE_OVERRIDE changes one field of one profile, refused outside READY. -/
def Obligations.ScanStart : Prop :=
  (∀ via seq (prof flags : Byte), prof.toNat ≤ 3 → flags.toNat ≤ 1 → Starts (.scanStart via seq prof flags)
    (fun u => u.pw.st = .ready ∧ ((u.scanChecks (flags.toNat % 2 == 1)).all (fun c => !c.1)) = true ∧ u.trajCheck = none ∧ (u.set F.STEER.TRAJ_STAT_BAD 0).badKernel = none ∧
      ((u.set F.STEER.TRAJ_STAT_BAD 0).responses prof.toNat).1 = none ∧ u.rangeBusy 0x0100 = false ∧ u.pw.reload = [] ∧
      levelShort ((u.set F.STEER.TRAJ_STAT_BAD 0).responses prof.toNat).2.boundLevel prof.toNat (((u.set F.STEER.TRAJ_STAT_BAD 0).responses prof.toNat).2.get F.PS.PS_CTRL_FORMAT) = false) 0
    (fun u t => t.scan = { u.scan with
        phase := .settling, restart := false, profile := prof.toNat, named := prof.toNat, stopWanted := false, restartWanted := false, approachDone := false } ∧ t.pw = u.pw ∧
      ∃ x : State, t = x.calScanStart.calByState ∧ ∀ n : Fin 4, x.mode n = 2)) ∧
  (∀ via seq (prof flags : Byte), prof.toNat ≤ 3 → flags = 1 → Starts (.scanStart via seq prof flags)
    (fun u => u.pw.st = .scanning ∧ ((u.scanChecks true).all (fun c => !c.1)) = true ∧ u.trajCheck = none ∧ (u.set F.STEER.TRAJ_STAT_BAD 0).badKernel = none ∧
      ((u.set F.STEER.TRAJ_STAT_BAD 0).responses prof.toNat).1 = none ∧ u.rangeBusy 0x0100 = false ∧ u.pw.reload = [] ∧
      levelShort ((u.set F.STEER.TRAJ_STAT_BAD 0).responses prof.toNat).2.boundLevel prof.toNat (((u.set F.STEER.TRAJ_STAT_BAD 0).responses prof.toNat).2.get F.PS.PS_CTRL_FORMAT) = false) 0
    (fun u t => t.scan = { u.scan with named := prof.toNat, restartWanted := true } ∧ t.pw = u.pw ∧ t.eng = u.eng)) ∧
  (∀ via seq (prof flags : Byte), TurnsAway (.scanStart via seq prof flags) (fun u => u.pw.st = .safeHold ∨ (u.pw.st = .scanning ∧ flags.toNat % 2 = 0)) 0x13 State.stateCode) ∧
  Happens .settleTimeout (fun s => s.scan.phase = .settling ∧ s.scan.restart = false ∧ s.flag (F.LOOP.LOOP_STAT_SETTLED 0) = false)
    (fun s t => t = (s.complete 0x0100 0x58 0 []).scanOff) ∧
  Happens .settleTimeout (fun s => s.scan.phase ≠ .settling ∨ (s.scan.approachDone && s.allSettled) = true) Nothing ∧
  (∀ via seq (prof : Byte) (f : BitVec 16) (x : BitVec 32), prof.toNat ≤ 3 → f.toNat ≤ 12 →
    Does (.profileOverride via seq prof f x) (fun u => u.pw.st = .ready ∧ u.overrideOk prof.toNat f.toNat x.toNat = true) (fun _ => [])
      (fun u t => t = { u with profOver := t.profOver } ∧ t.profVal prof.toNat f.toNat = x.toNat ∧
        (t.profOver? prof.toNat f.toNat = none ↔ x.toNat = profDefault prof.toNat f.toNat) ∧
        ∀ p g, p ≤ 3 → g ≤ 12 → (p, g) ≠ (prof.toNat, f.toNat) → t.profVal p g = u.profVal p g) ∧
    TurnsAway (.profileOverride via seq prof f x) (fun u => u.pw.st = .ready ∧ u.overrideOk prof.toNat f.toNat x.toNat = false) 0x12 (fun _ => 1))

/-- R20, R21, R96, R229, R393, R474: the boundary of column 0 is fixed once the loops have settled and EMIT_INHIBIT.STATE clears there; the first boundary enters SCANNING with CAUSE 1; each later one
begins the next column, or ends the scan where a SCAN_STOP waits, or begins the settling of a RESTART or, at the end of a reverse frame, of a throttle restart. SCAN_STOP waits for that boundary, or
ends a RESTART's settling at once. -/
def Obligations.ColumnSchedule : Prop :=
  (∀ cc : Nat, Happens (.column0BoundaryFix cc) (fun s => s.scan.phase = .settling ∧ s.domOn 68 = true ∧
      (if s.get F.SYN.SYNC_CTRL_ROLE = 2 then s.sync.ready else s.scan.approachDone && s.allSettled) = true)
    (fun s t => t.scan.phase = .fixed ∧ t.scan.origin = cc ∧ t.scan.column = 0 ∧ t.scan.base = s.scan.base + s.scan.column + 1 ∧
      ∃ x : State, t = (x.inhibitOff 1).armScheduler.firstWindows)) ∧
  (∀ cc : Nat, Happens (.column0BoundaryFix cc) (fun s => s.scan.phase ≠ .settling ∨ s.domOn 68 = false) Nothing) ∧
  (∀ s : State, s.domOn 68 = true → (s.inhibitOff 1).bitAt F.SHT.EMIT_INHIBIT_SRC 0 = false) ∧
  (∀ s : State, s.armScheduler.shot.lfsr = s.get F.SHT.SHOT_SEED_SEED ∧ ∀ b : Fin 8, (s.armScheduler.bank b).next = 0 ∧ (s.armScheduler.bank b).col = 0) ∧
  Happens .columnBoundary (fun s => s.scan.phase = .fixed ∧ s.pw.st = .ready)
    (fun _ t => t.pw.st = .scanning ∧ t.pw.cause = 1 ∧ t.scan.phase = .running ∧ t.scan.column = 0) ∧
  Happens .columnBoundary (fun s => s.scan.phase = .fixed ∧ s.pw.st = .scanning) (fun s t => t.pw = s.pw ∧ t.scan.phase = .running ∧ t.scan.column = 0) ∧
  Happens .columnBoundary (fun s => s.scan.phase = .running ∧ s.scan.stopWanted = false ∧ s.scan.restartWanted = false ∧ (s.scan.column + 1) % s.nCol ≠ 0)
    (fun s t => t.scan.phase = .running ∧ t.scan.column = s.scan.column + 1 ∧ t.scan.frame = s.scan.frame ∧ t.pw = s.pw) ∧
  Happens .columnBoundary (fun s => s.scan.phase = .running ∧ s.scan.stopWanted = false ∧ s.scan.restartWanted = false ∧ (s.scan.column + 1) % s.nCol = 0 ∧ s.scan.column / s.nCol % 2 = 0)
    (fun s t => t.scan.phase = .running ∧ t.scan.column = s.scan.column + 1 ∧ t.scan.frame = s.scan.frame + 1 ∧ t.pw = s.pw) ∧
  Happens .columnBoundary (fun s => s.scan.phase = .running ∧ s.scan.stopWanted = true) (fun _ t => t.pw.st = .ready ∧ t.pw.cause = 1 ∧ t.scan.phase = .idle) ∧
  Happens .columnBoundary (fun s => s.scan.phase = .running ∧ s.scan.stopWanted = false ∧ s.scan.restartWanted = true)
    (fun s t => t.scan.phase = .settling ∧ t.scan.restart = true ∧ t.pw = s.pw) ∧
  Happens .columnBoundary (fun s => s.scan.phase = .idle ∨ s.scan.phase = .settling) Nothing ∧
  Happens .throttleRestart (fun s => s.scan.phase = .running ∧ s.scan.stopWanted = false ∧ s.scan.restartWanted = false ∧ (s.scan.column + 1) % s.nCol = 0 ∧
      s.scan.column / s.nCol % 2 = 1 ∧ s.throttlePending = true)
    (fun s t => t.scan.phase = .settling ∧ t.scan.restart = true ∧ t.th.steps = s.th.steps + 1 ∧ t.pw = s.pw) ∧
  Happens .throttleRestart (fun s => s.scan.phase ≠ .running ∨ s.throttlePending = false) Nothing ∧
  (∀ (c : Instr) (s : State) (p : Pkt) (u : State), c = .scanStop p.via p.seq → Runs c s p u → u.pw.st = .scanning → u.scan.phase = .running →
    exec c s = .next (State.calm { u with
      scan := { u.scan with stopWanted := true }, cmd := { u.cmd with deferred := u.cmd.deferred ++ [⟨0x0101, p.via, p.seq, 0⟩] } })) ∧
  (∀ (c : Instr) (s : State) (p : Pkt) (u : State), c = .scanStop p.via p.seq → Runs c s p u → u.pw.st = .scanning → u.scan.phase ≠ .running →
    DoneThen c s p u [] (fun t => t.enterState .ready 1)) ∧
  (∀ via seq, TurnsAway (.scanStop via seq) (fun u => u.pw.st ≠ .scanning) 0x13 State.stateCode)

/-- R193, R195: HIST_DUMP is ACCEPTED in SCANNING where its stream fits RATE_MAX and class 5 does not refuse; its cancel is DONE and noted; its end queues a 48-byte end record on stream 5 and completes DONE, or
with the number of dropped records. -/
def Obligations.HistogramDump : Prop :=
  (∀ via seq (first rows cols : BitVec 16) (parts : Byte), first.toNat + rows.toNat ≤ 1024 → rows ≠ 0 → 1 ≤ parts.toNat → parts.toNat ≤ 3 → 1 ≤ cols.toNat → cols.toNat ≤ 2048 →
    Starts (.histDump via seq first rows cols parts) (fun u => u.pw.st = .scanning ∧ u.domOn 69 = true ∧ u.rangeBusy 0x0108 = false ∧ u.class5Refusing = false ∧
        rows.toNat * (48 + 4096 * (parts.toNat % 2) + 528 * (parts.toNat / 2 % 2)) * u.colRate ≤ u.get F.RX.DUMP_CFG_RATE_MAX * 10 ^ 6) 0
      (fun u t => t = { u with regs := t.regs, rx := { u.rx with dump := some ⟨first.toNat, rows.toNat, cols.toNat, parts.toNat, u.time.dev, none, 0, 0, 0, false⟩ } } ∧
        t.get F.RX.DUMP_STAT_ACTIVE = 1 ∧ t.get F.RX.DUMP_STAT_COL_LEFT = cols.toNat ∧ SameRegs u t [F.RX.DUMP_STAT_ACTIVE.addr])) ∧
  (∀ via seq (first rows cols : BitVec 16) (parts : Byte), TurnsAway (.histDump via seq first rows cols parts) (fun u => u.pw.st ≠ .scanning) 0x13 State.stateCode) ∧
  (∀ via seq (d : Dump), Does (.histDumpCancel via seq) (fun u => u.rx.dump = some d) (fun _ => []) (fun u t => t = { u with rx := { u.rx with dump := some { d with cancel := true } } })) ∧
  (∀ via seq, Does (.histDumpCancel via seq) (fun u => u.rx.dump = none) (fun _ => []) Nothing) ∧
  (∀ (d : Dump) (c0 : Nat), d.start = some c0 → Happens .histDumpComplete (fun s => s.rx.dump = some d ∧ c0 + d.columns ≤ s.scan.base + s.scan.column)
    (fun s t => ∃ x : State, t = (if d.dropped = 0 then x.complete 0x0108 0 0 [] else x.complete 0x0108 0x60 (min 255 d.dropped) []) ∧ x.rx.dump = none ∧
      x.get F.RX.DUMP_STAT_ACTIVE = 0 ∧ ∃ bytes : List Byte, (x.stream 5).units = (s.stream 5).units ++ [bytes] ∧ bytes.length = 48 ∧
        u32 bytes 32 = d.delivered % 2 ^ 32 ∧ u32 bytes 36 = d.dropped % 2 ^ 32)) ∧
  Happens .histDumpComplete (fun s => s.rx.dump = none) Nothing


/-! ### Emitters (chapter 4) -/

/-- R94, R100, R101, R109, R111, R113, R115: the emitter commands and the writes that clear latches. EMITTER_INHIBIT asserts or deasserts the host's source; STRING_ENABLE sets EN of all 32 strings;
CHARGE_TEST of a live string is ACCEPTED and charges it; TRIGGER_CONFIG arms the named banks and disarms those that had its input; latch bits clear where 1 is written, string and pick-off
latches in READY and SAFE_HOLD only; a DERATE_CFG that breaks its order is discarded with CFG_ERR. -/
def Obligations.EmitterCommands : Prop :=
  (∀ via seq, Does (.emitterInhibit via seq 1) (fun u => u.domOn 68 = true) (fun _ => []) (fun u t => t = u.inhibitOn 2)) ∧
  (∀ via seq, Does (.emitterInhibit via seq 0) (fun u => u.domOn 68 = true) (fun _ => []) (fun u t => t = u.inhibitOff 2)) ∧
  (∀ via seq (mask : BitVec 32), Does (.stringEnable via seq mask) (fun u => u.pw.st = .ready ∧ u.domOn 68 = true) (fun _ => [])
    (fun u t => OnlyRegs u t ((List.range 32).map (fun n => 0x20000 + 0x100 * n)) ∧ ∀ n : Fin 32, t.flag (F.STR.STR_CTRL_EN n) = mask.getLsbD n)) ∧
  (∀ via seq (n : Byte) (target : BitVec 16), n.toNat ≤ 31 → 1000 ≤ target.toNat → Starts (.chargeTest via seq n target)
    (fun u => u.pw.st = .ready ∧ u.domOn 68 = true ∧ u.live n.toNat = true ∧ target.toNat ≤ u.get F.LIM.LIM_MAX_MAX_TARGET ∧ u.rangeBusy 0x0202 = false) 0
    (fun u t => t = { u with shot := t.shot } ∧ t.shot.chargeTest = some (n.toNat, target.toNat) ∧ (t.str n.toNat).charging = true)) ∧
  (∀ (ok : Bool) (ns : BitVec 32) (v : BitVec 16) (n g : Nat), Happens (.chargeTestComplete ok ns v) (fun s => s.isRunning 0x0202 = true ∧ s.shot.chargeTest = some (n, g))
    (fun s t => ∃ x : State, t = x.complete 0x0202 0 0 (beBytes 4 (if ok then ns.toNat else 0xFFFFFFFF) ++ beBytes 2 v.toNat ++ [0, 0]) ∧
      x = { s with shot := x.shot } ∧ x.shot.chargeTest = none ∧ (x.str n).charging = false)) ∧
  (∀ via seq (i m e : Byte), i.toNat ≤ 3 → e.toNat ≤ 1 → Does (.triggerConfig via seq i m e) (fun u => u.pw.st = .ready ∧ u.domOn 68 = true) (fun _ => [])
    (fun u t => OnlyRegs u t ((List.range 8).map (fun b => 0x24000 + 0x80 * b)) ∧ ∀ b : Fin 8,
      (m.getLsbD b = true → t.get (F.BNK.BANK_CTRL_TRIG b) = 1 ∧ t.get (F.BNK.BANK_CTRL_TRIG_SRC b) = i.toNat ∧ t.get (F.BNK.BANK_CTRL_EDGE b) = e.toNat) ∧
      (m.getLsbD b = false → u.flag (F.BNK.BANK_CTRL_TRIG b) = true → u.get (F.BNK.BANK_CTRL_TRIG_SRC b) = i.toNat → t.get (F.BNK.BANK_CTRL_TRIG b) = 0) ∧
      (m.getLsbD b = false → u.flag (F.BNK.BANK_CTRL_TRIG b) = false ∨ u.get (F.BNK.BANK_CTRL_TRIG_SRC b) ≠ i.toNat → t.rd (0x24000 + 0x80 * b.val) = u.rd (0x24000 + 0x80 * b.val)))) ∧
  (∀ via seq (v : BitVec 32), Writes (.emitInhibitLatchWrite via seq v) 0x24414 1 (fun _ => True)
    (fun u t => OnlyRegs u t [0x24414] ∧ ∀ i : Fin 12, t.bitAt F.SHT.EMIT_INHIBIT_LATCH_SRC i = (u.bitAt F.SHT.EMIT_INHIBIT_LATCH_SRC i && !v.getLsbD i))) ∧
  (∀ via seq (n : Fin 32) (v : BitVec 32), Writes (.stringFaultClear via seq n v) (0x20010 + 0x100 * n.val) 1 (fun u => u.pw.st = .ready ∨ u.pw.st = .safeHold)
    (fun u t => OnlyRegs u t [0x20010 + 0x100 * n.val] ∧ t.flag (F.STR.STR_STAT_OVERVOLT n) = (u.flag (F.STR.STR_STAT_OVERVOLT n) && !v.getLsbD 1) ∧
      t.flag (F.STR.STR_STAT_WIDE n) = (u.flag (F.STR.STR_STAT_WIDE n) && !v.getLsbD 2) ∧ t.flag (F.STR.STR_STAT_CHARGE n) = (u.flag (F.STR.STR_STAT_CHARGE n) && !v.getLsbD 3) ∧
      t.flag (F.STR.STR_STAT_DEGRADED n) = (u.flag (F.STR.STR_STAT_DEGRADED n) && !v.getLsbD 4) ∧ t.get (F.STR.STR_STAT_EFF_TARGET n) = u.get (F.STR.STR_STAT_EFF_TARGET n))) ∧
  (∀ via seq (n : Fin 32) (v : BitVec 32), Writes (.stringFaultClear via seq n v) (0x20010 + 0x100 * n.val) 1 (fun u => u.pw.st = .scanning) Nothing) ∧
  (∀ via seq (b : Fin 8) (v : BitVec 32), Writes (.pickoffLostClear via seq b v) (0x24004 + 0x80 * b.val) 1 (fun u => (u.pw.st = .ready ∨ u.pw.st = .safeHold) ∧ v.getLsbD 1 = true)
    (fun u t => t = { u with regs := t.regs, shot := t.shot } ∧ SameRegs u t [0x24004 + 0x80 * b.val] ∧ t.flag (F.BNK.BANK_STAT_PICKOFF_LOST b) = false ∧ (t.bank b).noStart = 0)) ∧
  (∀ via seq (b : Fin 8) (v : BitVec 32), Writes (.pickoffLostClear via seq b v) (0x24004 + 0x80 * b.val) 1 (fun u => u.pw.st = .scanning) Nothing) ∧
  (∀ via seq (v : BitVec 32), let ok := decide (bitsOf v.toNat 8 8 < bitsOf v.toNat 16 8 ∧ bitsOf v.toNat 16 8 < bitsOf v.toNat 24 8 ∧ bitsOf v.toNat 24 8 ≤ 125 ∧
      25 ≤ bitsOf v.toNat 0 8 ∧ bitsOf v.toNat 0 8 ≤ 100)
    (ok = true → Writes (.derateCfgWrite via seq v) 0x24420 1 (fun _ => True) (fun u t => OnlyRegs u t [0x24420] ∧ t.rd 0x24420 = v)) ∧
    (ok = false → Writes (.derateCfgWrite via seq v) 0x24420 1 (fun _ => True) (fun u t => OnlyRegs u t [F.SHT.CFG_ERR.addr] ∧ t.get F.SHT.CFG_ERR = 1)))

/-- R100: sources that assert set their bits of EMIT_INHIBIT and, where those were 0, of its latch; EV_EMITTER_INHIBIT carries the bits that rose with a latch copy of 0 and is raised for no others. A source
releases its bit alone, unless a latch, the host or the state still holds it. -/
def Obligations.InhibitSources : Prop :=
  (∀ m : BitVec 12, Happens (.inhibitSourceAssert m) (fun s => s.domOn 68 = true) (fun s t => ∃ x : State, OnlyRegs s x [0x24410, 0x24414] ∧
      x.get F.SHT.EMIT_INHIBIT_SRC = s.get F.SHT.EMIT_INHIBIT_SRC ||| m.toNat ∧
      x.get F.SHT.EMIT_INHIBIT_LATCH_SRC = s.get F.SHT.EMIT_INHIBIT_LATCH_SRC ||| (m.toNat &&& (4095 - s.get F.SHT.EMIT_INHIBIT_SRC)) ∧
      (let fresh := m.toNat &&& (4095 - s.get F.SHT.EMIT_INHIBIT_SRC) &&& (4095 - s.get F.SHT.EMIT_INHIBIT_LATCH_SRC)
       t = if fresh = 0 then x else x.raise EV_EMITTER_INHIBIT 0 fresh))) ∧
  (∀ i : Fin 12, Happens (.inhibitSourceRelease i) (fun s => s.domOn 68 = true ∧ heldSources.contains i.val = false ∧ s.stateSources / 2 ^ i.val % 2 = 0)
    (fun s t => OnlyRegs s t [0x24410] ∧ t.bitAt F.SHT.EMIT_INHIBIT_SRC i = false ∧ ∀ j : Fin 12, j ≠ i → t.bitAt F.SHT.EMIT_INHIBIT_SRC j = s.bitAt F.SHT.EMIT_INHIBIT_SRC j)) ∧
  (∀ i : Fin 12, Happens (.inhibitSourceRelease i) (fun s => heldSources.contains i.val = true ∨ s.stateSources / 2 ^ i.val % 2 = 1) Nothing) ∧
  (∀ n : Fin 32, Happens (.strayCurrent n) (fun s => s.domOn 68 = true) (fun s t => t = (s.inhibitOn (2 ^ 11)).raise EV_EMITTER_STRAY n 0)) ∧
  (∀ s : State, s.emitEn = true → s.shot.chargeTest = none → s.get F.SHT.EMIT_INHIBIT_SRC = 0)

/-- R92, R97, R98, R102, R106, R134: the moments of a slot before it fires. The VSTR samples and the angle are kept; consent steps the LFSR ten times and gives the slot its outcome: INHIBITED while a source of EMIT_INHIBIT
stands, UNTRIGGERED without a claimed trigger, EMPTY without a live string, else what the limiter says. A trigger edge claims a slot of each bank armed for it, or counts as merged. -/
def Obligations.SlotDecision : Prop :=
  (∀ (b : Fin 8) (v : List Nat), v.length = 4 → Happens (.vstrSample b v) (fun s => s.slotsRun = true) (fun s t => t = { s with shot := t.shot } ∧ (t.bank b).v = v)) ∧
  (∀ (b : Fin 8) (v : List Nat), Happens (.vstrSample b v) (fun s => s.slotsRun = false) Nothing) ∧
  (∀ b : Fin 8, Happens (.angleLatch b) (fun s => s.slotsRun = true ∧ s.angleValid = true)
    (fun s t => t = { s with shot := t.shot } ∧ (t.bank b).angleOk = true ∧ (t.bank b).cell = s.limCell s.eng.angle ∧ (t.bank b).rxMask = s.columnMask s.eng.angle)) ∧
  (∀ b : Fin 8, Happens (.angleLatch b) (fun s => s.slotsRun = true ∧ s.angleValid = false)
    (fun s t => t = { s with shot := t.shot } ∧ (t.bank b).angleOk = false ∧ (t.bank b).rxMask = 0 ∧ (t.bank b).cell = (s.bank b).cell)) ∧
  (∀ (b : Fin 8) (lf : Bool),
    Happens (.shotConsent b lf) (fun s => s.slotsRun = true ∧ s.get F.SHT.EMIT_INHIBIT_SRC ≠ 0)
      (fun s t => (t.bank b).outcome = .inhibited ∧ (t.bank b).fireMask = 0 ∧ t.shot.lfsr = lfsrSlot s.shot.lfsr ∧ t.shot.cells = s.shot.cells ∧ t.shot.longs = s.shot.longs ∧
        t.get (F.BNK.INHIBITED b) = min (s.get (F.BNK.INHIBITED b) + 1) (2 ^ (F.BNK.INHIBITED b).wd - 1)) ∧
    Happens (.shotConsent b lf) (fun s => s.slotsRun = true ∧ s.get F.SHT.EMIT_INHIBIT_SRC = 0 ∧ (s.bank b).trig.getLsbD 0 = true ∧ (s.bank b).claimed ≠ 1)
      (fun s t => (t.bank b).outcome = .untriggered ∧ (t.bank b).fireMask = 0 ∧ t.shot.lfsr = lfsrSlot s.shot.lfsr ∧ t.shot.cells = s.shot.cells) ∧
    Happens (.shotConsent b lf) (fun s => s.slotsRun = true ∧ s.get F.SHT.EMIT_INHIBIT_SRC = 0 ∧ (s.bank b).trig.getLsbD 0 = false ∧ s.liveMask b = 0)
      (fun s t => (t.bank b).outcome = .empty ∧ (t.bank b).fireMask = 0 ∧ t.shot.lfsr = lfsrSlot s.shot.lfsr ∧ t.shot.cells = s.shot.cells) ∧
    Happens (.shotConsent b lf) (fun s => s.slotsRun = true ∧ s.get F.SHT.EMIT_INHIBIT_SRC = 0 ∧ (s.bank b).trig.getLsbD 0 = false ∧ (s.bank b).next ≠ 0 ∧
        s.flag (F.BNK.BANK_STAT_PICKOFF_LOST b) = false ∧
        ∃ i : Fin 4, s.live (4 * b.val + i.val) = true ∧ 9 * s.get (F.STR.STR_STAT_EFF_TARGET (4 * b.val + i.val)) ≤ 10 * (s.bank b).v.getD i 0)
      (fun s t => t.shot.lfsr = lfsrSlot s.shot.lfsr ∧ ∃ (x : State) (mask : Nat), mask ≠ 0 ∧ x.shot.cells = s.shot.cells ∧ x.shot.longs = s.shot.longs ∧
        t = ((x.limitSlot b mask lf).noteLimiter b).pickIdleSlot b)) ∧
  (∀ (b : Fin 8) (lf : Bool), Happens (.shotConsent b lf) (fun s => s.slotsRun = false) (fun s t => t = s.pickIdleSlot b)) ∧
  (∀ (i : Fin 4) (falling : Bool) (late tight : BitVec 8), Happens (.shotTriggerEdge i falling late tight) (fun s => s.slotsRun = true ∧ s.pw.st = .scanning)
    (fun s t => ∀ b : Fin 8, (s.bank b).trig.getLsbD 0 = true → bitsOf (s.bank b).trig.toNat 4 2 = i.val → (s.bank b).trig.getLsbD 1 = falling →
      ((s.bank b).claimed = 0 → (t.bank b).claimed = if tight.getLsbD b then 2 else 1) ∧
      ((s.bank b).claimed ≠ 0 → (t.bank b).claimed = (s.bank b).claimed ∧ t.get (F.BNK.TRIG_MERGED b) = min (s.get (F.BNK.TRIG_MERGED b) + 1) (2 ^ (F.BNK.TRIG_MERGED b).wd - 1))))

/-- R105 to R108: the limiter consents where the latched angle is valid, the lanes agree and the cost keeps both sums of the bank's group within their limits, and nowhere else; a denial counts in DENIED and DENY_TOTAL
and leaves the sums. A consented slot fires and adds its cost to both sums, or turns INHIBITED where a source rose since; the first slot of a scan completes SCAN_START. A sub-window that ends slides its sums. -/
def Obligations.EnergyLimiter : Prop :=
  (∀ (s : State) (b mask : Nat) (lf : Bool), ((s.limitSlot b mask lf).bank b).outcome = .consented ↔
    (lf = false ∧ (s.bank b).angleOk = true ∧ s.cellSum (s.limGroup b) (s.bank b).cell + s.shotCost b mask ≤ s.cellLimit ∧
      s.longSum (s.limGroup b) + s.shotCost b mask ≤ s.longLimit)) ∧
  (∀ (s : State) (b mask : Nat) (lf : Bool), b < 8 → ((s.limitSlot b mask lf).bank b).outcome ≠ .consented →
    ((s.limitSlot b mask lf).bank b).outcome = .denied ∧ (s.limitSlot b mask lf).shot.cells = s.shot.cells ∧ (s.limitSlot b mask lf).shot.longs = s.shot.longs ∧
      (s.limitSlot b mask lf).get (F.BNK.DENIED b) = min (s.get (F.BNK.DENIED b) + 1) (2 ^ (F.BNK.DENIED b).wd - 1)) ∧
  (∀ (b : Fin 8), Happens (.shotFire b false)
    (fun s => s.slotsRun = true ∧ (s.bank b).outcome = .consented ∧ s.get F.SHT.EMIT_INHIBIT_SRC = 0 ∧ ¬ (b = 0 ∧ (s.bank b).curCol = 0 ∧ (s.bank b).curShot = 0))
    (fun s t => (t.bank b).outcome = .fired ∧ t.cellSum (s.limGroup b) (s.bank b).cell = s.cellSum (s.limGroup b) (s.bank b).cell + (s.bank b).cost ∧
      t.longSum (s.limGroup b) = s.longSum (s.limGroup b) + (s.bank b).cost ∧ t.get (F.BNK.FIRED b) = min (s.get (F.BNK.FIRED b) + 1) (2 ^ (F.BNK.FIRED b).wd - 1) ∧
      t.out = .shot b (s.bank b).fireMask (s.bank b).offset :: s.out)) ∧
  (∀ (b : Fin 8) (lf : Bool), Happens (.shotFire b lf)
    (fun s => s.slotsRun = true ∧ (s.bank b).outcome = .consented ∧ s.get F.SHT.EMIT_INHIBIT_SRC ≠ 0 ∧ ¬ (b = 0 ∧ (s.bank b).curCol = 0 ∧ (s.bank b).curShot = 0))
    (fun s t => (t.bank b).outcome = .inhibited ∧ t.shot.cells = s.shot.cells ∧ t.shot.longs = s.shot.longs ∧ t.out = s.out)) ∧
  (∀ (b : Fin 8) (lf : Bool), Happens (.shotFire b lf)
    (fun s => s.slotsRun = true ∧ (s.bank b).outcome ≠ .consented ∧ ¬ (b = 0 ∧ (s.bank b).curCol = 0 ∧ (s.bank b).curShot = 0)) Nothing) ∧
  Happens (.shotFire 0 false) (fun s => s.slotsRun = true ∧ (s.bank 0).outcome ≠ .consented ∧ (s.bank 0).curCol = 0 ∧ (s.bank 0).curShot = 0) (fun s t => t = s.complete 0x0100 0 0 []) ∧
  (∀ long : Bool, Happens (.limiterSubwindowAdvance long) (fun s => s.domOn 68 = true)
    (fun s t => t = { s with shot := t.shot } ∧
      (long = false → t.shot.longs = s.shot.longs ∧ (spWf (fun _ => noEnergy) s.shot.cells = true → ∀ k, spGet (fun _ => noEnergy) t.shot.cells k = 0 :: (spGet (fun _ => noEnergy) s.shot.cells k).take 8)) ∧
      (long = true → t.shot.cells = s.shot.cells ∧ (spWf (fun _ => noEnergy) s.shot.longs = true → ∀ k, spGet (fun _ => noEnergy) t.shot.longs k = 0 :: (spGet (fun _ => noEnergy) s.shot.longs k).take 8))))

/-- R91, R93, R110: charging and the pulse monitor. A window charges the live strings below their targets by more than 0.20 V and ends; a string that reaches its target or 2.440 V stops, the second latched OVERVOLT;
a fired string's pulse is WIDE (latched, its event raised), MISSING or NARROW (counted), or normal. -/
def Obligations.StringSupervision : Prop :=
  (∀ (b : Fin 8) (v : List Nat), Happens (.chargeWindowOpen b v) (fun s => s.slotsRun = true)
    (fun s t => t = { s with shot := t.shot } ∧ (t.bank b).window = true ∧ ∀ i : Fin 4, (t.str (4 * b.val + i.val)).charging =
      (s.live (4 * b.val + i.val) && !s.flag (F.BNK.BANK_STAT_PICKOFF_LOST b) && decide (v.getD i 0 + 20 < s.get (F.STR.STR_STAT_EFF_TARGET (4 * b.val + i.val)))))) ∧
  (∀ b : Fin 8, Happens (.chargeWindowClose b) (fun s => s.domOn 68 = true)
    (fun s t => t = { s with shot := t.shot } ∧ (t.bank b).window = false ∧ ∀ i : Fin 4, (t.str (4 * b.val + i.val)).charging = false)) ∧
  (∀ n : Fin 32, Happens (.chargeTargetReached n) (fun s => s.domOn 68 = true)
    (fun s t => t = { s with shot := t.shot } ∧ t.str n = { s.str n with charging := false } ∧ ∀ m, m ≠ n.val → t.str m = s.str m)) ∧
  (∀ n : Fin 32, Happens (.stringOvervolt n) (fun s => s.domOn 68 = true)
    (fun s t => ∃ x : State, t = x.raise EV_STRING_OVERVOLT n 0 ∧ x = { s with regs := x.regs, shot := x.shot } ∧ SameRegs s x [0x20010 + 0x100 * n.val] ∧
      x.flag (F.STR.STR_STAT_OVERVOLT n) = true ∧ x.live n = false ∧ (x.str n).charging = false)) ∧
  (∀ (n : Fin 32) (rise : Option Int) (w : Nat) (high : Bool),
    Happens (.pulseWidthClassify n rise w high) (fun s => s.domOn 68 = true ∧ (s.bank (n / 4)).outcome = .fired ∧ (s.bank (n / 4)).fireMask / 2 ^ (n.val % 4) % 2 = 1 ∧
        (high = true ∨ (rise.any (fun r => decide (0 ≤ r ∧ r ≤ 240)) = true ∧ 24 + 6 * s.widthEff n + 12 < w)))
      (fun s t => ∃ x : State, t = x.raise EV_STRING_WIDTH n 0 ∧ x.flag (F.STR.STR_STAT_WIDE n) = true ∧ SameRegs s x [0x20010 + 0x100 * n.val]) ∧
    Happens (.pulseWidthClassify n rise w high) (fun s => s.domOn 68 = true ∧ (s.bank (n / 4)).outcome = .fired ∧ (s.bank (n / 4)).fireMask / 2 ^ (n.val % 4) % 2 = 1 ∧
        high = false ∧ rise.any (fun r => decide (0 ≤ r ∧ r ≤ 240)) = false)
      (fun s t => t.get (F.STR.MISSING n) = min (s.get (F.STR.MISSING n) + 1) (2 ^ (F.STR.MISSING n).wd - 1) ∧ (t.str n).blkBad = (s.str n).blkBad + 1) ∧
    Happens (.pulseWidthClassify n rise w high) (fun s => s.domOn 68 = true ∧ (s.bank (n / 4)).outcome = .fired ∧ (s.bank (n / 4)).fireMask / 2 ^ (n.val % 4) % 2 = 1 ∧
        high = false ∧ rise.any (fun r => decide (0 ≤ r ∧ r ≤ 240)) = true ∧ w + 12 < 24 + 6 * s.widthEff n)
      (fun s t => t.get (F.STR.NARROW n) = min (s.get (F.STR.NARROW n) + 1) (2 ^ (F.STR.NARROW n).wd - 1) ∧ (t.str n).blkBad = (s.str n).blkBad + 1) ∧
    Happens (.pulseWidthClassify n rise w high) (fun s => s.domOn 68 = true ∧ (s.bank (n / 4)).outcome = .fired ∧ (s.bank (n / 4)).fireMask / 2 ^ (n.val % 4) % 2 = 1 ∧
        high = false ∧ rise.any (fun r => decide (0 ≤ r ∧ r ≤ 240)) = true ∧ 24 + 6 * s.widthEff n ≤ w + 12 ∧ w ≤ 24 + 6 * s.widthEff n + 12)
      (fun s t => t = { s with shot := t.shot } ∧ (t.str n).blkBad = (s.str n).blkBad))

/-! ### Time measurement (chapter 7) -/

/-- R169: the delay lines. A DLL declared unlocked clears LOCKED in both places, sets UNLOCK and counts; the third within 1 s stops the channel with FAULT; a relock that fails stops it too. A tap map of other than 64
taps, or one for a pick-off channel while SCANNING, is discarded, the first with MAP_ERR; a valid one unlocks the channel. The linearisation table is stored and LIN_VALID says whether it rises strictly. -/
def Obligations.DelayLines : Prop :=
  (∀ c : Fin 12, Happens (.dllUnlock c) (fun s => s.chStamps c = true) (fun s t =>
    t.flag (F.CH.CH_STAT_LOCKED c) = false ∧ t.bitAt F.RX.TDC_STAT_LOCKED c = false ∧ t.flag (F.CH.CH_STAT_UNLOCK c) = true ∧
      (t.flag (F.CH.CH_STAT_FAULT c) = true ↔ 2 ≤ ((s.ch c).unlocks.filter (fun k => decide (s.time.dev.toNat < k + 10 ^ 9))).length) ∧
      t.get F.RX.DLL_UNLOCKS = min (s.get F.RX.DLL_UNLOCKS + 1) (2 ^ F.RX.DLL_UNLOCKS.wd - 1))) ∧
  (∀ c : Fin 12, Happens (.dllUnlock c) (fun s => s.chStamps c = false) Nothing) ∧
  (∀ c : Fin 12, Happens (.dllLock c) (fun s => s.domOn 69 = true ∧ s.flag (F.CH.CH_STAT_FAULT c) = false)
    (fun s t => OnlyRegs s t [(F.CH.CH_STAT_LOCKED c).addr, F.RX.TDC_STAT_LOCKED.addr] ∧ t.flag (F.CH.CH_STAT_LOCKED c) = true ∧ t.bitAt F.RX.TDC_STAT_LOCKED c = true)) ∧
  (∀ c : Fin 12, Happens (.dllLock c) (fun s => s.domOn 69 = false ∨ s.flag (F.CH.CH_STAT_FAULT c) = true) Nothing) ∧
  (∀ c : Fin 12, Happens (.dllRelockTimeout c) (fun s => s.domOn 69 = true ∧ s.flag (F.CH.CH_STAT_LOCKED c) = false ∧ s.flag (F.CH.CH_STAT_FAULT c) = false)
    (fun s t => ∃ x : State, t = x.raise EV_REFTDC_FAULT c 0 ∧ OnlyRegs s x [(F.CH.CH_STAT_FAULT c).addr, F.RX.TDC_STAT_FAULT.addr] ∧
      x.flag (F.CH.CH_STAT_FAULT c) = true ∧ x.bitAt F.RX.TDC_STAT_FAULT c = true)) ∧
  (∀ c : Fin 12, Happens (.dllRelockTimeout c) (fun s => s.domOn 69 = false ∨ s.flag (F.CH.CH_STAT_LOCKED c) = true ∨ s.flag (F.CH.CH_STAT_FAULT c) = true) Nothing) ∧
  (∀ via seq (c : Fin 12) (a b d : BitVec 32), let n := popCount 72 (a.toNat + 2 ^ 32 * b.toNat + 2 ^ 64 * bitsOf d.toNat 0 8)
    (n = 64 → Writes (.tapMapWrite via seq c a b d) (0x41018 + 0x200 * c.val) 3 (fun u => 8 ≤ c.val ∨ u.pw.st ≠ .scanning)
      (fun u t => OnlyRegs u t [0x41018 + 0x200 * c.val, 0x4101C + 0x200 * c.val, 0x41020 + 0x200 * c.val, 0x41014 + 0x200 * c.val, 0x40104] ∧
        t.get (F.CH.CH_TAPMAP0_MAP c) = a.toNat ∧ t.get (F.CH.CH_TAPMAP1_MAP c) = b.toNat ∧ t.get (F.CH.CH_TAPMAP2_MAP c) = bitsOf d.toNat 0 8 ∧
        t.flag (F.CH.CH_STAT_LOCKED c) = false ∧ t.flag (F.CH.CH_STAT_MAP_ERR c) = u.flag (F.CH.CH_STAT_MAP_ERR c))) ∧
    (n ≠ 64 → Writes (.tapMapWrite via seq c a b d) (0x41018 + 0x200 * c.val) 3 (fun u => 8 ≤ c.val ∨ u.pw.st ≠ .scanning)
      (fun u t => OnlyRegs u t [0x41014 + 0x200 * c.val] ∧ t.flag (F.CH.CH_STAT_MAP_ERR c) = true ∧ t.flag (F.CH.CH_STAT_LOCKED c) = u.flag (F.CH.CH_STAT_LOCKED c)))) ∧
  (∀ via seq (c : Fin 12) (a b d : BitVec 32), Writes (.tapMapWrite via seq c a b d) (0x41018 + 0x200 * c.val) 3 (fun u => c.val < 8 ∧ u.pw.st = .scanning)
    (fun u t => OnlyRegs u t [])) ∧
  (∀ via seq (c : Fin 12) (first : Fin 64) (vs : List Word), vs ≠ [] → first.val + vs.length ≤ 64 →
    Writes (.linTableWrite via seq c first vs) (0x41100 + 0x200 * c.val + 4 * first.val) vs.length (fun u => (8 ≤ c.val ∧ (u.ch c).meas = none) ∨ (c.val < 8 ∧ u.pw.st ≠ .scanning))
      (fun u t => OnlyRegs u t ((0x41014 + 0x200 * c.val) :: (List.range 64).map (fun i => 0x41100 + 0x200 * c.val + 4 * i)) ∧
        (∀ i : Fin 64, t.get (F.CH.LIN c i) = if first.val ≤ i.val ∧ i.val < first.val + vs.length then bitsOf (vs.getD (i.val - first.val) 0).toNat 0 10 else u.get (F.CH.LIN c i)) ∧
        t.flag (F.CH.CH_STAT_LIN_VALID c) = linRising ((List.range 64).map (fun i => t.get (F.CH.LIN c i)))))

/-- R166, R167, R171: the pick-off decides a shot's start. An edge outside the armed span is stray and a second one extra, and both count alone. The first edge in the span, at D from the gate rise, is refused as early
below PICK_MIN, with the figures of the last armed shot kept; from PICK_MIN on it is the start and enters the column's figures. A span that ends undecided is late and gives no start. -/
def Obligations.PickoffStart : Prop :=
  (∀ (b : Fin 8) (cc : Nat) (tap : Fin 64),
    let within := fun (s : State) => (s.rxBank b).isOpen && s.shotInAir b &&
      decide (16 * (s.gateTime b - 1920) ≤ s.stamp16 b cc tap ∧ s.stamp16 b cc tap ≤ 16 * (s.gateTime b + s.get (F.CH.CH_WINDOW_PICK_MAX b)))
    let tie := fun (s : State) => decide ((s.stamp16 b cc tap - 16 * s.gateTime b).natAbs < 16)
    let d := fun (s : State) => if tie s then 0 else nearest (s.stamp16 b cc tap - 16 * s.gateTime b) 16
    let slot := fun (s : State) => some ((s.bank b).curCol, (s.bank b).curShot)
    Happens (.pickoffEdge b cc tap) (fun s => s.chStamps b = false ∨ s.flag (F.CH.CH_CTRL_EN b) = false) Nothing ∧
    Happens (.pickoffEdge b cc tap) (fun s => s.chStamps b = true ∧ s.flag (F.CH.CH_CTRL_EN b) = true ∧ within s = false) (fun s t => t = s.inc (F.CH.PICK_STRAY_STRAY_STOP b)) ∧
    Happens (.pickoffEdge b cc tap) (fun s => s.chStamps b = true ∧ s.flag (F.CH.CH_CTRL_EN b) = true ∧ within s = true ∧ (s.rxBank b).decided = slot s)
      (fun s t => t = s.inc (F.CH.PICK_EXTRA_EXTRA b)) ∧
    Happens (.pickoffEdge b cc tap) (fun s => s.chStamps b = true ∧ s.flag (F.CH.CH_CTRL_EN b) = true ∧ within s = true ∧ (s.rxBank b).decided ≠ slot s ∧
        d s < s.get (F.CH.CH_WINDOW_PICK_MIN b) ∧ (s.bank b).curShot + 1 ≠ s.group)
      (fun s t => t.rxBank b = { s.rxBank b with decided := slot s, dLast := d s, flags := bit (tie s) + 2 * bit (decide (d s < 0)), noStart := (s.rxBank b).noStart + 1 } ∧
        (t.bank b).noStart = (s.bank b).noStart + 1 ∧
        t.get (F.CH.PICK_EARLY_HOLD_HIT b) = min (s.get (F.CH.PICK_EARLY_HOLD_HIT b) + 1) (2 ^ (F.CH.PICK_EARLY_HOLD_HIT b).wd - 1)) ∧
    Happens (.pickoffEdge b cc tap) (fun s => s.chStamps b = true ∧ s.flag (F.CH.CH_CTRL_EN b) = true ∧ within s = true ∧ (s.rxBank b).decided ≠ slot s ∧
        s.get (F.CH.CH_WINDOW_PICK_MIN b) ≤ d s ∧ (s.bank b).curShot + 1 ≠ s.group)
      (fun s t => (t.rxBank b).decided = slot s ∧ (t.rxBank b).dLast = d s ∧ (t.rxBank b).flags = 0 ∧ (t.rxBank b).starts = (s.rxBank b).starts + 1 ∧
        (t.rxBank b).noStart = (s.rxBank b).noStart ∧ (t.rxBank b).dSum = (s.rxBank b).dSum + d s ∧ (t.bank b).noStart = 0)) ∧
  (∀ b : Fin 8, Happens (.pickoffWindowEnd b) (fun s => s.domOn 69 = true ∧ (s.rxBank b).isOpen = true ∧ (s.bank b).outcome = .fired ∧
      (s.rxBank b).decided ≠ some ((s.bank b).curCol, (s.bank b).curShot) ∧ (s.bank b).curShot + 1 ≠ s.group)
    (fun s t => t.rxBank b = { s.rxBank b with
        decided := some ((s.bank b).curCol, (s.bank b).curShot), dLast := 0, flags := 4 + 8 * bit (!s.chStamps b), noStart := (s.rxBank b).noStart + 1 } ∧
      (t.bank b).noStart = (s.bank b).noStart + 1 ∧ t.get (F.BNK.PICK_MISS b) = min (s.get (F.BNK.PICK_MISS b) + 1) (2 ^ (F.BNK.PICK_MISS b).wd - 1) ∧
      t.get (F.CH.PICK_LATE_TIMEOUTS b) = min (s.get (F.CH.PICK_LATE_TIMEOUTS b) + 1) (2 ^ (F.CH.PICK_LATE_TIMEOUTS b).wd - 1))) ∧
  (∀ b : Fin 8, Happens (.pickoffWindowEnd b) (fun s => s.domOn 69 = false ∨ (s.rxBank b).isOpen = false ∨ (s.bank b).outcome ≠ .fired ∨
      (s.rxBank b).decided = some ((s.bank b).curCol, (s.bank b).curShot)) Nothing)

/-- R172 to R176: the TIN channels. An edge within the hold-off of the last one of its polarity counts alone. In TIMESTAMP mode an accepted edge that TS_EDGES selects is a result; in INTERVAL mode a start opens a measurement and the
stop closes it with stop less start to a whole reference unit; one that is not closed in time ends with TIMEOUT. Q_POP removes the oldest queue entry, where there is one. -/
def Obligations.IntervalChannels : Prop :=
  (∀ (i : Fin 4) (falling : Bool) (cc : Nat) (tap : Fin 64),
    Happens (.tinEdge i falling cc tap) (fun s => s.domOn 69 = true ∧
        ∃ k, (if falling then (s.ch (8 + i)).lastFall else (s.ch (8 + i)).lastRise) = some k ∧ cc < k + s.getAt (24 + i.val) (F.CH.CH_TIN_HOLDOFF (8 + i)))
      (fun s t => t = s.inc (F.CH.PICK_EARLY_HOLD_HIT (8 + i))) ∧
    Happens (.tinEdge i falling cc tap) (fun s => s.domOn 69 = false) Nothing ∧
    Happens (.tinEdge i falling cc tap) (fun s => s.domOn 69 = true ∧ (if falling then (s.ch (8 + i)).lastFall else (s.ch (8 + i)).lastRise) = none ∧
        s.chStamps (8 + i) = true ∧ s.tinCtrl F.CH.CH_CTRL_EN (8 + i) = 1 ∧ s.tinCtrl F.CH.CH_CTRL_MODE (8 + i) = 0 ∧
        s.tinCtrl F.CH.CH_CTRL_TS_EDGES (8 + i) / (if falling then 2 else 1) % 2 = 1 ∧ ∀ c : Fin 4, s.tinCtrl F.CH.CH_CTRL_MODE (8 + c) = 0)
      (fun s t => let at16 := s.stamp16 (8 + i) cc tap - 16 * s.chTofs (8 + i)
        ∃ x : State, t = x.tinResult (8 + i) 0 0 (s.stampTime at16) none ∧ x = { s with rx := x.rx } ∧
          (x.ch (8 + i)) = (if falling then { s.ch (8 + i) with lastFall := some cc } else { s.ch (8 + i) with lastRise := some cc })) ∧
    (∀ c : Fin 4, Happens (.tinEdge i falling cc tap) (fun s => s.domOn 69 = true ∧ (if falling then (s.ch (8 + i)).lastFall else (s.ch (8 + i)).lastRise) = none ∧
        s.chStamps (8 + i) = true ∧ s.tinCtrl F.CH.CH_CTRL_EN (8 + c) = 1 ∧ s.tinCtrl F.CH.CH_CTRL_MODE (8 + c) = 1 ∧ (∀ k : Fin 4, k ≠ c → s.tinCtrl F.CH.CH_CTRL_EN (8 + k) = 0) ∧
        s.tinCtrl F.CH.CH_CTRL_START_SRC (8 + c) = i.val ∧ s.tinCtrl F.CH.CH_CTRL_START_EDGE (8 + c) = bit falling ∧ (s.ch (8 + c)).meas = none ∧ (s.ch (8 + c)).idleFrom ≤ cc)
      (fun s t => let at16 := s.stamp16 (8 + i) cc tap - 16 * s.chTofs (8 + i)
        (t.ch (8 + c)).meas = some ⟨true, at16, cc, s.stampTime at16 / 65536, s.stampTime at16 % 65536⟩ ∧ t = { s with rx := t.rx })) ∧
    (∀ (c : Fin 4) (m : OpenMeas), m.byStart = true → Happens (.tinEdge i falling cc tap) (fun s => s.domOn 69 = true ∧
        (if falling then (s.ch (8 + i)).lastFall else (s.ch (8 + i)).lastRise) = none ∧
        s.chStamps (8 + i) = true ∧ s.tinCtrl F.CH.CH_CTRL_EN (8 + c) = 1 ∧ s.tinCtrl F.CH.CH_CTRL_MODE (8 + c) = 1 ∧ (∀ k : Fin 4, k ≠ c → s.tinCtrl F.CH.CH_CTRL_EN (8 + k) = 0) ∧
        s.tinCtrl F.CH.CH_CTRL_START_SRC (8 + c) ≠ i.val ∧ s.tinCtrl F.CH.CH_CTRL_STOP_SRC (8 + c) = i.val ∧ s.tinCtrl F.CH.CH_CTRL_STOP_EDGE (8 + c) = bit falling ∧
        (s.ch (8 + c)).meas = some m ∧ cc < m.cc + s.chTimeout (8 + c))
      (fun s t => ∃ x : State, t = x.tinClose (8 + c) m cc (s.stamp16 (8 + i) cc tap - 16 * s.chTofs (8 + i)) ∧ x = { s with rx := x.rx }))) ∧
  (∀ (s : State) (c : Nat) (m : OpenMeas) (cc : Nat) (p : Int), m.byStart = true → cc < m.cc + 65536 → 16 ≤ (p - m.stamp).natAbs →
    (s.tinClose c m cc p).get (F.CH.INTERVAL c) = unsigned 32 (nearest (p - m.stamp) 16) ∧ ((s.tinClose c m cc p).ch c).meas = none ∧
      ((s.tinClose c m cc p).ch c).idleFrom = cc + 1) ∧
  (∀ (c : Fin 4) (m : OpenMeas), Happens (.tinIntervalTimeout c) (fun s => (s.ch (8 + c)).meas = some m)
    (fun s t => (t.ch (8 + c)).meas = none ∧ t.get (F.CH.INTERVAL (8 + c)) = 0 ∧ t.get ⟨(F.CH.TIE (8 + c)).addr, 0, 6⟩ = 36 ∧
      t.get (F.CH.PICK_LATE_TIMEOUTS (8 + c)) = min (s.get (F.CH.PICK_LATE_TIMEOUTS (8 + c)) + 1) (2 ^ (F.CH.PICK_LATE_TIMEOUTS (8 + c)).wd - 1))) ∧
  (∀ c : Fin 4, Happens (.tinIntervalTimeout c) (fun s => (s.ch (8 + c)).meas = none) Nothing) ∧
  (∀ via seq (c : Fin 12), Writes (.qPopWrite via seq c) (0x41094 + 0x200 * c.val) 1 (fun u => c.val < 8 ∨ (u.ch c).queue = []) Nothing) ∧
  (∀ via seq (c : Fin 12), 8 ≤ c.val → Writes (.qPopWrite via seq c) (0x41094 + 0x200 * c.val) 1 (fun u => (u.ch c).queue ≠ [])
    (fun u t => (t.ch c).queue = (u.ch c).queue.drop 1 ∧ t.get (F.CH.Q_STAT_COUNT c) = ((u.ch c).queue.length - 1) % 128 ∧ t = { u with rx := t.rx, regs := t.regs }))

/-! ### Loops and steering (chapter 5) -/

/-- R119, R122 to R125, R128: the loop commands. LOOP_MODE takes the loop to its mode, from OPEN, CLOSED or HOLD without a step at its destination, an outer loop to HOLD where its inner loop leaves CLOSED; the three cases of R122 are
refused. LOOP_COEF_SET stores the ten words and takes them at once outside CLOSED, else after the boundary; an offending word is named. A swap copies the shadow bank. A set-point takes effect whole. A trajectory is stored entry by entry. -/
def Obligations.LoopCommands : Prop :=
  (∀ via seq (n m : Byte), n.toNat ≤ 7 → m.toNat ≤ 3 →
    Does (.loopMode via seq n m) (fun u => u.domOn 67 = true ∧ (n.toNat ≤ 3 → m ≠ 2 → u.pw.st ≠ .scanning) ∧
        (m = 2 → u.fbLatched n.toNat = false ∧ ∀ i, u.innerOf n.toNat = some i → u.mode i = 2)) (fun _ => [])
      (fun u t => t = u.setMode n.toNat m.toNat ∧ t.mode n.toNat = m.toNat ∧ (m = 0 → (t.loop n.toNat).out = loopOffValue n.toNat ∧ (t.loop n.toNat).integ = 0) ∧
        (m = 1 ∨ m = 3 → (t.loop n.toNat).out = u.present n.toNat) ∧ (m = 2 → (t.loop n.toNat).out = (u.loop n.toNat).out) ∧
        (∀ o, u.mode n.toNat = 2 → m ≠ 2 → u.outerOf n.toNat = some o → u.mode o = 2 → t.mode o = 3)) ∧
    (n.toNat ≤ 3 → m ≠ 2 → TurnsAway (.loopMode via seq n m) (fun u => u.domOn 67 = true ∧ u.pw.st = .scanning) 0x13 State.stateCode) ∧
    (m = 2 → TurnsAway (.loopMode via seq n m) (fun u => u.domOn 67 = true ∧ ∃ i, u.innerOf n.toNat = some i ∧ u.mode i ≠ 2) 0x13 State.stateCode) ∧
    (m = 2 → TurnsAway (.loopMode via seq n m) (fun u => u.domOn 67 = true ∧ u.fbLatched n.toNat = true ∧ ∀ i, u.innerOf n.toNat = some i → u.mode i = 2) 0x5A (fun _ => n.toNat))) ∧
  (∀ via seq (n : Byte) (w : List Word), n.toNat ≤ 7 → w.length = 10 → bitsOf (w.getD 3 0).toNat 21 11 = 0 → bitsOf (w.getD 3 0).toNat 13 3 = 0 → bitsOf (w.getD 3 0).toNat 5 3 = 0 →
      bitsOf (w.getD 4 0).toNat 16 15 = 0 →
    (coefBad (fun i => (w.getD i 0).toNat) = none →
      Does (.loopCoefSet via seq n w) (fun u => u.domOn 67 = true ∧ u.mode n.toNat ≠ 2) (fun _ => [])
        (fun u t => (∀ i < 10, t.get (F.LOOP.ACT n.toNat i) = (w.getD i 0).toNat ∧ t.get (shadowFld n.toNat i) = (w.getD i 0).toNat) ∧
          t.flag (F.LOOP.LOOP_STAT_SWAP_PEND n.toNat) = false ∧ t.eng = u.eng) ∧
      Starts (.loopCoefSet via seq n w) (fun u => u.domOn 67 = true ∧ u.mode n.toNat = 2 ∧ u.fastLoop n.toNat = false ∧ u.rangeBusy 0x0301 = false) n.toNat
        (fun u t => t = { u with regs := t.regs } ∧ (∀ i < 10, t.get (shadowFld n.toNat i) = (w.getD i 0).toNat ∧ t.get (F.LOOP.ACT n.toNat i) = u.get (F.LOOP.ACT n.toNat i)) ∧
          t.flag (F.LOOP.LOOP_STAT_SWAP_PEND n.toNat) = true) ∧
      (∀ s p u, Runs (.loopCoefSet via seq n w) s p u → u.domOn 67 = true → u.mode n.toNat = 2 → u.fastLoop n.toNat = true →
        ∃ t : State, t = { u with regs := t.regs } ∧ t.flag (F.LOOP.LOOP_STAT_SWAP_PEND n.toNat) = true ∧ (∀ i < 10, t.get (shadowFld n.toNat i) = (w.getD i 0).toNat) ∧
          exec (.loopCoefSet via seq n w) s = .next (State.calm { t with cmd := { t.cmd with deferred := t.cmd.deferred ++ [⟨0x0301, p.via, p.seq, n.toNat⟩] } }))) ∧
    (∀ k, coefBad (fun i => (w.getD i 0).toNat) = some k → TurnsAway (.loopCoefSet via seq n w) (fun u => u.domOn 67 = true) 0x12 (fun _ => k))) ∧
  (∀ n : Fin 8, Happens (.loopCoefSetComplete n) (fun s => s.runningTag 0x0301 = some n.val ∧ s.flag (F.LOOP.LOOP_STAT_SWAP_PEND n) = false) (fun s t => t = s.complete 0x0301 0 0 []) ∧
    Happens (.loopCoefSetComplete n) (fun s => s.runningTag 0x0301 ≠ some n.val ∨ s.flag (F.LOOP.LOOP_STAT_SWAP_PEND n) = true) Nothing) ∧
  (∀ via seq (n : Byte) (v : BitVec 32), n.toNat ≤ 7 →
    Does (.loopSetpoint via seq n v) (fun u => u.domOn 67 = true ∧ u.spRefused n.toNat = false) (fun _ => [])
      (fun u t => t = { u with regs := t.regs, eng := t.eng } ∧ SameRegs u t [(F.LOOP.LOOP_SP_SP n.toNat).addr] ∧ t.rd (F.LOOP.LOOP_SP_SP n.toNat).addr = v ∧
        t.loop n.toNat = { u.loop n.toNat with sp := v.toInt } ∧ ∀ m, m ≠ n.toNat → t.loop m = u.loop m) ∧
    TurnsAway (.loopSetpoint via seq n v) (fun u => u.domOn 67 = true ∧ u.spRefused n.toNat = true) 0x13 State.stateCode) ∧
  (∀ via seq (first : BitVec 16) (l : List Word), 1 ≤ l.length → l.length ≤ 256 → first.toNat + l.length ≤ 2048 →
    Does (.trajectoryLoad via seq first l) (fun u => u.pw.st = .ready ∧ u.domOn 67 = true) (fun _ => [])
      (fun u t => OnlyRegs u t ((List.range l.length).map (fun i => 0x34000 + 4 * (first.toNat + i))) ∧ ∀ i < l.length, t.rd (0x34000 + 4 * (first.toNat + i)) = l.getD i 0)) ∧
  (∀ via seq (n : Fin 8) (s : State), let a := 0x30000 + 0x400 * n.val
    let p : Pkt := ⟨via, seq, 0x0009, regWritePayload a [BitVec.ofNat 32 (s.view a) ||| 0x10]⟩
    s.takes p = true → (s.seen p).touchesOff a 1 = false → (s.seen p).noStep [a] = true →
      ((s.seen p).mode n ≠ 2 → coefBad (fun i => (s.seen p).get (shadowFld n i)) = none →
        ∃ t : State, exec (.loopSwapWrite via seq n) s = .next (t.replied p 0 0 []) ∧ t.flag (F.LOOP.LOOP_STAT_SWAP_PEND n) = false ∧
          t.get (F.LOOP.SWAPS n) = min ((s.seen p).get (F.LOOP.SWAPS n) + 1) (2 ^ (F.LOOP.SWAPS n).wd - 1) ∧ ∀ i < 10, t.get (F.LOOP.ACT n i) = (s.seen p).get (shadowFld n i)) ∧
      ((s.seen p).mode n = 2 → s.mode n = 2 → ∃ t : State, exec (.loopSwapWrite via seq n) s = .next (t.replied p 0 0 []) ∧ t.flag (F.LOOP.LOOP_STAT_SWAP_PEND n) = true ∧
        ∀ i < 10, t.get (F.LOOP.ACT n i) = (s.seen p).get (F.LOOP.ACT n i))) ∧
  (∀ via seq (n : Fin 8) (v : BitVec 32),
    Writes (.loopRateWrite via seq n v) (0x30004 + 0x400 * n.val) 1 (fun u => u.mode n = 0 ∧ (u.hostWrite (0x30004 + 0x400 * n.val) v).engineRate ≤ 500000)
      (fun u t => t = u.hostWrite (0x30004 + 0x400 * n.val) v) ∧
    Writes (.loopRateWrite via seq n v) (0x30004 + 0x400 * n.val) 1 (fun u => u.mode n ≠ 0 ∨ 500000 < (u.hostWrite (0x30004 + 0x400 * n.val) v).engineRate)
      (fun u t => OnlyRegs u t [F.STEER.ENG_STAT_RATE_ERR.addr] ∧ t.get F.STEER.ENG_STAT_RATE_ERR = 1)) ∧
  (∀ via seq (n : Fin 8) (v : BitVec 32),
    Writes (.fbLatchClear via seq n v) (0x3001C + 0x400 * n.val) 1 (fun u => (u.mode n = 0 ∨ u.mode n = 3) ∧ u.sourceInBand n = true)
      (fun u t => OnlyRegs u t [0x3001C + 0x400 * n.val, F.SHT.EMIT_INHIBIT_SRC.addr] ∧ t.flag (F.LOOP.LOOP_STAT_FB_LOST n) = (u.flag (F.LOOP.LOOP_STAT_FB_LOST n) && !v.getLsbD 4) ∧
        t.flag (F.LOOP.LOOP_STAT_FB_FROZEN n) = (u.flag (F.LOOP.LOOP_STAT_FB_FROZEN n) && !v.getLsbD 5) ∧
        (t.domOn 68 = true → t.fbLatched 0 = false → t.fbLatched 1 = false → t.bitAt F.SHT.EMIT_INHIBIT_SRC 2 = false)) ∧
    Writes (.fbLatchClear via seq n v) (0x3001C + 0x400 * n.val) 1 (fun u => (u.mode n ≠ 0 ∧ u.mode n ≠ 3) ∨ u.sourceInBand n = false)
      (fun u t => t.flag (F.LOOP.LOOP_STAT_FB_LOST n) = u.flag (F.LOOP.LOOP_STAT_FB_LOST n) ∧ t.flag (F.LOOP.LOOP_STAT_FB_FROZEN n) = u.flag (F.LOOP.LOOP_STAT_FB_FROZEN n)))

/-- R116 to R118, R120, R127, R135, R136: samples. An angle sample gives the beam angle and the absolute angle, valid unless its code is 0 or 0xFFFF; the second period without one latches FB_LOST of Loop 0, asserts MIRROR and lets
Loop 1 hold. A CLOSED loop that is due computes R120 from its measurement and drives its destination; a loop that is not due, or has no measurement yet, changes nothing of its output. -/
def Obligations.LoopSamples : Prop :=
  (∀ (c : BitVec 16) (i : Option (BitVec 16)) (tau : Nat), Happens (.angleSample (some c) i tau)
      (fun s => s.domOn 67 = true ∧ s.flag (F.LOOP.LOOP_CTRL_FB_EN 0) = false ∧ s.flag (F.LOOP.LOOP_CTRL_FB_EN 1) = false)
    (fun s t => t = { s with eng := t.eng } ∧ t.eng.ys = (s.beamAngle c.toNat :: s.eng.ys).take 4 ∧ t.eng.angle = s.absAngle (s.beamAngle c.toNat) ∧
      t.eng.yOk = (c != 0 && c != 0xFFFF) ∧ t.eng.loops = s.eng.loops)) ∧
  (∀ (i : Option (BitVec 16)) (tau : Nat), Happens (.angleSample none i tau)
      (fun s => s.domOn 67 = true ∧ s.domOn 68 = true ∧ s.flag (F.LOOP.LOOP_CTRL_FB_EN 0) = true ∧ (s.mode 0 = 1 ∨ s.mode 0 = 2) ∧ s.flag (F.LOOP.LOOP_STAT_FB_LOST 0) = false ∧
        1 ≤ (s.loop 0).fbAbsent ∧ s.flag (F.LOOP.LOOP_CTRL_FB_EN 1) = false)
    (fun _ t => t.flag (F.LOOP.LOOP_STAT_FB_LOST 0) = true ∧ (t.loop 1).holdPend = true ∧ t.bitAt F.SHT.EMIT_INHIBIT_SRC 2 = true ∧ t.eng.yOk = false)) ∧
  (∀ (c i : Option (BitVec 16)) (tau : Nat), Happens (.angleSample c i tau) (fun s => s.domOn 67 = false) Nothing) ∧
  (∀ (n : Fin 8) (tau : Nat) (hv : List (Option (BitVec 16))) (y : Int), (n = 3 → hv = []) →
    Happens (.loopSample n tau hv) (fun s => s.domOn 67 = true ∧ s.loopDue n = true ∧ (n = 1 → (s.loop 1).holdPend = false) ∧ s.flag (F.LOOP.LOOP_STAT_SWAP_PEND n) = false ∧ s.mode n = 2 ∧
        s.measOf n = some y)
      (fun s t => t = (((if n = 0 then s.steerSetpoint tau else s).countCascade n).closedSample n y).auxFromLoop n)) ∧
  (∀ (n : Fin 8) (tau : Nat) (hv : List (Option (BitVec 16))), n ≠ 5 → n ≠ 6 → Happens (.loopSample n tau hv) (fun s => s.domOn 67 = false ∨ s.loopDue n = false) Nothing) ∧
  (∀ (s : State) (n : Nat) (y : Int), n ≤ 7 →
    let c := s.coef n
    let x := s.loop n
    let e := sat32 (clampI (s.spOf n - y) (-c.elim) c.elim)
    let i := clampInteg c (x.integ + c.ki * e)
    let xs := if c.dsrc then sat32 (-y) else e
    let df := sat32 (x.df + rnd (c.kf * (xs - x.xPrev - x.df)) 16)
    let u := clampI (rnd (c.kp * e) c.sp + i.2.1 + rnd (c.kd * df) c.sd) c.outmin c.outmax
    ((s.closedSample n y).loop n).out = u ∧ ((s.closedSample n y).loop n).integ = i.1 ∧ ((s.closedSample n y).loop n).df = df ∧
      (∀ m, s.innerOf n = some m → ((s.closedSample n y).loop m).sp = u) ∧ (s.closedSample n y).get (F.LOOP.OUT n) = unsigned 32 u ∧ (s.closedSample n y).get (F.LOOP.ERR n) = unsigned 32 e ∧
      (s.closedSample n y).flag (F.LOOP.LOOP_STAT_SAT_OUT n) = (u != rnd (c.kp * e) c.sp + i.2.1 + rnd (c.kd * df) c.sd)) ∧
  (∀ v : Int, rnd v 0 = v ∧ ∀ k, 0 < k → 2 ^ k * rnd v k ≤ v + 2 ^ (k - 1) ∧ v + 2 ^ (k - 1) < 2 ^ k * (rnd v k + 1))

/-! ### Receiver array and histograms (chapters 6 and 8) -/

/-- R145 to R148, R150, R158: the bias. HVB_SNS at its limit sets HV_OVP, forces Loop 3 off with Loops 2 and 3 in HOLD and raises EV_HV_OVERVOLT; the latch clears in READY and SAFE_HOLD below 30.0 V only. A trigger of the reference cells
adds the swing of each selected cell that answered. VEX is the mean of the valid banks, where there are four or more. -/
def Obligations.ReceiverBias : Prop :=
  (∀ hv : BitVec 16, Happens (.hvOvervolt hv) (fun s => s.domOn 69 = true) (fun s t => ∃ x : State, t = x.raise EV_HV_OVERVOLT 0 (hv.toNat / 10) ∧ x.flag F.RX.RX_STAT_HV_OVP = true ∧
      x.eng.hvSpad = hv.toNat ∧ (s.domOn 67 = true → x.mode 3 = 3 ∧ x.mode 2 = 3 ∧ (x.loop 3).out = 0 ∧ (x.loop 3).forced = true ∧ (x.loop 2).forced = true))) ∧
  (∀ hv : BitVec 16, Happens (.hvOvervolt hv) (fun s => s.domOn 69 = false) Nothing) ∧
  (∀ via seq, Writes (.hvOvpClear via seq) F.RX.RX_STAT_HV_OVP.addr 1 (fun u => (u.pw.st = .ready ∨ u.pw.st = .safeHold) ∧ u.eng.hvSpad < 30000)
    (fun u t => OnlyRegs u t [F.RX.RX_STAT_HV_OVP.addr] ∧ t.flag F.RX.RX_STAT_HV_OVP = false)) ∧
  (∀ via seq, Writes (.hvOvpClear via seq) F.RX.RX_STAT_HV_OVP.addr 1 (fun u => (u.pw.st ≠ .ready ∧ u.pw.st ≠ .safeHold) ∨ 30000 ≤ u.eng.hvSpad)
    (fun u t => OnlyRegs u t [])) ∧
  (∀ l : List (Option Nat), Happens (.refCellTrigger l) (fun s => s.domOn 69 = true) (fun s t => t = { s with rx := t.rx } ∧ ∀ k : Fin 48, t.refCell k =
      (if s.flag (refBit 0x4004C (k.val / 6) (k.val % 6)) then
        (match l.getD k none with
          | some v => { s.refCell k with answered := (s.refCell k).answered + 1, total := (s.refCell k).total + v }
          | none => s.refCell k) else s.refCell k))) ∧
  (∀ l : List (Option Nat), Happens (.refCellTrigger l) (fun s => s.domOn 69 = false) Nothing) ∧
  Happens .vexUpdate (fun s => s.domOn 69 = true ∧ 4 ≤ (allBanks.filterMap (fun b => (s.vexBank b).1)).length)
    (fun s t => let l := allBanks.filterMap (fun b => (s.vexBank b).1)
      let vex := truncRat ((l.sum : Int) / (l.length : Int))
      t.flag F.RX.RX_STAT_VEX_VALID = true ∧ t.get F.RX.VEX = unsigned F.RX.VEX.wd vex ∧ t.get F.RX.HV = unsigned F.RX.HV.wd (s.eng.hvSpad : Int) ∧
        t.get F.RX.VBD_EST = unsigned F.RX.VBD_EST.wd ((s.eng.hvSpad : Int) - vex) ∧ t.get F.RX.VBD_MOD = unsigned F.RX.VBD_MOD.wd (s.vbdModel s.hubMean.1) ∧
        (s.domOn 67 = true → (t.loop 2).src = some vex)) ∧
  Happens .vexUpdate (fun s => s.domOn 69 = true ∧ (allBanks.filterMap (fun b => (s.vexBank b).1)).length < 4)
    (fun s t => t.flag F.RX.RX_STAT_VEX_VALID = false ∧ t.get F.RX.VEX = s.get F.RX.VEX ∧ (t.loop 2).src = (s.loop 2).src) ∧
  Happens .vexUpdate (fun s => s.domOn 69 = false) Nothing

/-- R142, R151 to R154, R156, R158: the rows. A row that can listen arms for a shot in the air once, and disarms from its oldest shot. A firing of a released active cell counts in SINGLES. A group of enough cells outside the hold-off is an
event: classified, or held while a start is pending; inside it counts in HOLD_HIT. A cell map of more than 32 cells, and a ladder that breaks its order, are discarded with MAP_ERR and CFG_ERR. -/
def Obligations.RowFrontEnds : Prop :=
  (∀ r : Fin 1024, Happens (.rowArm r) (fun s => s.rowOn r = true ∧ s.shotInAir (r / 128) = true ∧ (s.rxBank (r / 128)).isOpen = true ∧
      (s.row r).shots.all (fun q => !(q.col == (s.bank (r / 128)).curCol && q.j == (s.bank (r / 128)).curShot)) = true)
    (fun s t => t = { s with rx := t.rx } ∧ (t.row r).shots = (s.row r).shots ++ [⟨(s.bank (r / 128)).curCol, (s.bank (r / 128)).curShot, (s.bank (r / 128)).curRx, .pending⟩] ∧
      ∀ k, k ≠ r.val → t.row k = s.row k)) ∧
  (∀ r : Fin 1024, Happens (.rowArm r) (fun s => s.rowOn r = false ∨ s.shotInAir (r / 128) = false ∨ (s.rxBank (r / 128)).isOpen = false) Nothing) ∧
  (∀ (r : Fin 1024) (n : Nat) (l : List Nat) (q : RowShot) (rest : List RowShot), Happens (.rowDisarm r n l) (fun s => (s.row r).shots = q :: rest)
    (fun s t => t = { s with rx := t.rx } ∧ (t.row r).shots = rest ∧ (t.row r).armed = (s.row r).armed + n ∧
      (t.row r).cellTime = (s.row r).cellTime + ((List.range 8).map (fun k => l.getD k 0 * s.activeCells r k)).sum ∧ ∀ k, k ≠ r.val → t.row k = s.row k)) ∧
  (∀ (r : Fin 1024) (n : Nat) (l : List Nat), Happens (.rowDisarm r n l) (fun s => (s.row r).shots = []) Nothing) ∧
  (∀ (r : Fin 1024) (q : Fin 8) (c : Fin 36),
    Happens (.cellFiring r q c) (fun s => (s.row r).shots.any (fun k => k.mask / 2 ^ q.val % 2 == 1) = true ∧ s.cellMap r q / 2 ^ c.val % 2 = 1)
      (fun s t => t = { s with rx := t.rx } ∧ (t.row r).singles = (s.row r).singles + 1 ∧ ∀ k, k ≠ r.val → t.row k = s.row k) ∧
    Happens (.cellFiring r q c) (fun s => (s.row r).shots.any (fun k => k.mask / 2 ^ q.val % 2 == 1) = false ∨ s.cellMap r q / 2 ^ c.val % 2 = 0) Nothing) ∧
  (∀ (r : Fin 1024) (cc : Nat) (p : Fin 8) (n : Nat),
    Happens (.coincidenceEvent r cc p n) (fun s => s.rowOn r = false ∨ (s.rxBank (r / 128)).isOpen = false ∨ (s.row r).shots = [] ∨ n < s.needCells r) Nothing ∧
    Happens (.coincidenceEvent r cc p n) (fun s => s.rowOn r = true ∧ (s.rxBank (r / 128)).isOpen = true ∧ (s.row r).shots ≠ [] ∧ s.needCells r ≤ n ∧
        (s.row r).last.any (fun u : Int => decide (u ≤ 8 * cc + p.val ∧ (8 * cc + p.val : Int) < u + 8 * s.getAt (r / 128) F.RX.RX_TIME_HOLDOFF)) = true)
      (fun s t => t = { s with rx := t.rx } ∧ (t.row r).acc.holdHit = min 65535 ((s.row r).acc.holdHit + 1) ∧ (t.row r).held = (s.row r).held ∧ (t.row r).last = (s.row r).last ∧
        ∀ k, k ≠ r.val → t.row k = s.row k) ∧
    Happens (.coincidenceEvent r cc p n) (fun s => s.rowOn r = true ∧ (s.rxBank (r / 128)).isOpen = true ∧ (s.row r).shots ≠ [] ∧ s.needCells r ≤ n ∧
        (s.row r).last.any (fun u : Int => decide (u ≤ 8 * cc + p.val ∧ (8 * cc + p.val : Int) < u + 8 * s.getAt (r / 128) F.RX.RX_TIME_HOLDOFF)) = false)
      (fun s t => let e : HeldEv := ⟨s.rowTime r cc p, (s.row r).shots.map (fun q => (q.col, q.j))⟩
        let x := s.setRow r { s.row r with last := some (8 * cc + p.val) }
        t = if decidedAll (s.row r).shots e then x.classify r e else s.setRow r { s.row r with last := some (8 * cc + p.val), held := (s.row r).held ++ [e] })) ∧
  (∀ via seq (r : Fin 1024) (q : Fin 8) (lo hi : BitVec 32), let n := popCount 36 (lo.toNat + 2 ^ 32 * bitsOf hi.toNat 0 4)
    (n ≤ 32 → Writes (.cellMapWrite via seq r q lo hi) (F.ROW.EN_LO r q).addr 2 (fun u => u.pw.st ≠ .scanning)
      (fun u t => OnlyRegs u t [(F.ROW.EN_LO r q).addr, (F.ROW.EN_HI r q).addr] ∧ t.get (F.ROW.EN_LO r q) = lo.toNat ∧ t.get (F.ROW.EN_HI r q) = bitsOf hi.toNat 0 4)) ∧
    (n ≤ 32 → Writes (.cellMapWrite via seq r q lo hi) (F.ROW.EN_LO r q).addr 2 (fun u => u.pw.st = .scanning)
      (fun u t => t.cellMap r q = u.cellMap r q ∧ t.get (F.ROW.EN_LO r q) = lo.toNat ∧ t.get (F.ROW.EN_HI r q) = bitsOf hi.toNat 0 4)) ∧
    (32 < n → Writes (.cellMapWrite via seq r q lo hi) (F.ROW.EN_LO r q).addr 2 (fun u => u.pw.st ≠ .scanning)
      (fun u t => OnlyRegs u t [(F.ROW.ROW_STAT_MAP_ERR r).addr] ∧ t.flag (F.ROW.ROW_STAT_MAP_ERR r) = true))) ∧
  (∀ via seq (k : Fin 6) (v : BitVec 32), let ok := fun (u : State) => ladderOk (fun j => if j = k.val then v.toNat else (u.rd (0x40020 + 4 * j)).toNat) (u.get F.RX.ADAPT_CFG_STEP_MAX)
    Writes (.ladderWrite via seq k v) (0x40020 + 4 * k.val) 1 (fun u => ok u = true ∧ u.pw.st ≠ .scanning) (fun u t => OnlyRegs u t [0x40020 + 4 * k.val] ∧ t.rd (0x40020 + 4 * k.val) = v) ∧
    Writes (.ladderWrite via seq k v) (0x40020 + 4 * k.val) 1 (fun u => ok u = true ∧ u.pw.st = .scanning)
      (fun u t => t.rd (0x40020 + 4 * k.val) = v ∧ ∀ (b : Fin 8) (i : Fin 6), t.stepKW b i = u.stepKW b i) ∧
    Writes (.ladderWrite via seq k v) (0x40020 + 4 * k.val) 1 (fun u => ok u = false) (fun u t => OnlyRegs u t [F.RX.RX_STAT_CFG_ERR.addr] ∧ t.get F.RX.RX_STAT_CFG_ERR = 1))

/-- R183 to R188: the histogram slices. A lane's cycle takes its oldest increment and counts it, with 255 as the bound; one bit wrong counts in ECC_CE, two in ECC_UE. An injection waits for its write. The snapshot selects the windows once. The
swap of a bank hands each of its rows' columns to the peak engine and begins the next column. -/
def Obligations.HistogramSlices : Prop :=
  (∀ (r : Fin 1024) (lane : Bool) (i : HistInc), Happens (.laneRmwCycle r lane 0)
      (fun s => (s.row r).queue.find? (fun q => q.lane == bit lane) = some i ∧ (s.row r).corrupt = [] ∧ (s.slice (rowSlice r)).inject = none ∧ i.col = (s.row r).acc.col)
    (fun s t => t = { s with rx := t.rx } ∧ (t.row r).queue = (s.row r).queue.erase i ∧ (t.row r).acc = (s.row r).acc.count i ∧ ∀ k, k ≠ r.val → t.row k = s.row k)) ∧
  (∀ (r : Fin 1024) (lane : Bool) (i : HistInc), Happens (.laneRmwCycle r lane 1)
      (fun s => (s.row r).queue.find? (fun q => q.lane == bit lane) = some i ∧ (s.row r).corrupt = [])
    (fun s t => (t.row r).queue = (s.row r).queue.erase i ∧ t.get (F.SLC.ECC_CE (rowSlice r)) = min (s.get (F.SLC.ECC_CE (rowSlice r)) + 1) (2 ^ (F.SLC.ECC_CE (rowSlice r)).wd - 1))) ∧
  (∀ (r : Fin 1024) (lane : Bool) (i : HistInc), Happens (.laneRmwCycle r lane 2)
      (fun s => (s.row r).queue.find? (fun q => q.lane == bit lane) = some i ∧ (s.row r).corrupt = [] ∧ i.col = (s.row r).acc.col)
    (fun s t => (t.row r).queue = (s.row r).queue.erase i ∧ (t.row r).acc.invalid = true ∧
      t.get (F.SLC.ECC_UE (rowSlice r)) = min (s.get (F.SLC.ECC_UE (rowSlice r)) + 1) (2 ^ (F.SLC.ECC_UE (rowSlice r)).wd - 1))) ∧
  (∀ (r : Fin 1024) (lane : Bool) (e : Fin 3), Happens (.laneRmwCycle r lane e) (fun s => (s.row r).queue.find? (fun q => q.lane == bit lane) = none) Nothing) ∧
  (∀ (b : RowBuf) (i : HistInc), i.zoom = false → spWf (fun _ => 0) b.coarse = true → spGet (fun _ => 0) (b.count i).coarse i.key = min 255 (spGet (fun _ => 0) b.coarse i.key + 1) ∧
    (b.count i).zoom = b.zoom ∧ ∀ k, k ≠ i.key → spGet (fun _ => 0) (b.count i).coarse k = spGet (fun _ => 0) b.coarse k) ∧
  (∀ via seq (i : Fin 128) (v : BitVec 32),
    (bitsOf v.toNat 6 2 = 1 ∨ bitsOf v.toNat 6 2 = 2 → Writes (.slcEccInjWrite via seq i v) (F.SLC.SLC_ECC_INJ_BITS i).addr 1 (fun _ => True)
      (fun u t => t = { u with rx := t.rx } ∧ (t.slice i).inject = some (bitsOf v.toNat 6 2, bitsOf v.toNat 5 1, bitsOf v.toNat 0 3) ∧ ∀ k, k ≠ i.val → t.slice k = u.slice k)) ∧
    (bitsOf v.toNat 6 2 = 0 ∨ bitsOf v.toNat 6 2 = 3 → Writes (.slcEccInjWrite via seq i v) (F.SLC.SLC_ECC_INJ_BITS i).addr 1 (fun _ => True) Nothing)) ∧
  (∀ r : Fin 1024, Happens (.zoomSnapshot r) (fun s => s.rowOn r = true ∧ s.slotsRun = true ∧ (s.row r).snap = false)
    (fun s t => t = { s with rx := t.rx } ∧ (t.row r).snap = true ∧ (t.row r).acc.wins = selectWindows s.kBin (s.bEff (r / 128)) (s.getAt (r / 128) F.RX.CAND_CFG_WIN_MAX)
        (s.getAt (r / 128) F.RX.CAND_CFG_SEP) (s.getAt (r / 128) F.RX.CAND_CFG_CAND_MIN) 40 (s.row r).tracker [] ∧
      (t.row r).acc.noCand = (t.row r).acc.wins.isEmpty ∧ (t.row r).tracker = (s.row r).tracker ∧ ∀ k, k ≠ r.val → t.row k = s.row k)) ∧
  (∀ r : Fin 1024, Happens (.zoomSnapshot r) (fun s => s.rowOn r = false ∨ s.slotsRun = false ∨ (s.row r).snap = true) Nothing) ∧
  (∀ b : Fin 8, Happens (.bufferSwap b) (fun s => s.domOn 69 = true ∧ (s.rxBank b).isOpen = true)
    (fun s t => (t.rxBank b).accCol = (s.rxBank b).accCol + 1 ∧ (t.rxBank b).shotsRdg = (s.rxBank b).shotsAcc ∧ (t.rxBank b).shotsAcc = [0, 0, 0, 0] ∧ (t.rxBank b).isOpen = s.slotsRun ∧
      ∀ i : Fin 128, s.domOn (rowDom (128 * b.val + i.val)) = true →
        (t.row (128 * b.val + i.val)).rdg.col = (s.rxBank b).accCol ∧ (t.row (128 * b.val + i.val)).acc.col = (s.rxBank b).accCol + 1 ∧
        (t.row (128 * b.val + i.val)).rdg.coarse = (s.row (128 * b.val + i.val)).acc.coarse ∧ (t.row (128 * b.val + i.val)).tracker = [] ∧
        (t.row (128 * b.val + i.val)).snap = false ∧ (t.row (128 * b.val + i.val)).singles = 0 ∧
        t.get (F.ROW.SINGLES (128 * b.val + i.val)) = (s.row (128 * b.val + i.val)).singles % 2 ^ (F.ROW.SINGLES (128 * b.val + i.val)).wd)) ∧
  (∀ b : Fin 8, Happens (.bufferSwap b) (fun s => s.domOn 69 = false ∨ (s.rxBank b).isOpen = false) Nothing)

/-- R189, R215, R216, R219: the peak engine. A row read out is cleared and joins its region's part. A part of another than a frame's first column is released at once, all its rows absent where the region is fenced; that of a frame's first column waits
for the self-check, which releases it, and where it fails marks every row absent, raises its event and fences the region. A write of the staged words stores; one of the table words while SCANNING is discarded with CFG_ERR. -/
def Obligations.PeakEngine : Prop :=
  (∀ (r : Fin 1024) (w : Fin 144), Happens (.rowReadout r 0 w) (fun s => s.domOn 69 = true ∧ s.domOn (70 + rowRegion r) = true ∧ (s.row r).corrupt = [] ∧ s.rx.dump = none)
    (fun s t => (t.row r).rdg.coarse = [] ∧ (t.row r).rdg.zoom = [] ∧ (t.region (rowRegion r)).col = (s.row r).rdg.col ∧
      ∃ o : RowOut, o.row = r.val ∧ (o.absent = true ↔ s.rowAbsent r (s.row r).rdg = true) ∧
        (t.region (rowRegion r)).rows = (if (s.region (rowRegion r)).col = (s.row r).rdg.col then (s.region (rowRegion r)).rows else []) ++ [o])) ∧
  (∀ (r : Fin 1024) (e : Fin 3) (w : Fin 144), Happens (.rowReadout r e w) (fun s => s.domOn 69 = false ∨ s.domOn (70 + rowRegion r) = false) Nothing) ∧
  (∀ g : Fin 4, Happens (.regionColumnRelease g) (fun s => s.domOn (70 + g) = true ∧ (s.region g).rows ≠ [] ∧ (s.region g).checkPend = false ∧ (s.region g).col % s.nCol = 0 ∧ s.fenced g = false)
    (fun s t => t = { s with rx := t.rx } ∧ (t.region g).checkPend = true ∧ (t.region g).rows = s.bloom g (s.region g).rows)) ∧
  (∀ g : Fin 4, Happens (.regionColumnRelease g) (fun s => s.domOn (70 + g) = true ∧ (s.region g).rows ≠ [] ∧ (s.region g).checkPend = false ∧ (s.region g).col % s.nCol ≠ 0)
    (fun s t => (t.region g).rows = [] ∧ (t.region g).checkPend = false ∧
      let rows := if s.fenced g then allAbsent (s.region g).rows else s.bloom g (s.region g).rows
      ∀ k ∈ s.ps.cols, k.c = (s.region g).col → k.parts.all (fun e => e.1 != g.val) = true → k.late / 2 ^ g.val % 2 = 0 → ∃ k' ∈ t.ps.cols, k'.c = k.c ∧ k'.parts = k.parts ++ [(g.val, rows)])) ∧
  (∀ g : Fin 4, Happens (.regionColumnRelease g) (fun s => s.domOn (70 + g) = false ∨ (s.region g).rows = [] ∨ (s.region g).checkPend = true) Nothing) ∧
  (∀ g : Fin 4, Happens (.peakSelfcheck g false) (fun s => s.domOn (70 + g) = true ∧ (s.region g).checkPend = true)
    (fun s t => t.flag (F.PE.PE_STAT_SELFCHECK_FAIL g) = true ∧ t.fenced g = true ∧ (t.region g).rows = [] ∧ (t.region g).checkPend = false ∧
      ∀ k ∈ s.ps.cols, k.c = (s.region g).col → k.parts.all (fun e => e.1 != g.val) = true → k.late / 2 ^ g.val % 2 = 0 →
        ∃ k' ∈ t.ps.cols, k'.c = k.c ∧ k'.parts = k.parts ++ [(g.val, allAbsent (s.region g).rows)])) ∧
  (∀ g : Fin 4, Happens (.peakSelfcheck g true) (fun s => s.domOn (70 + g) = true ∧ (s.region g).checkPend = true)
    (fun s t => t.fenced g = s.fenced g ∧ (t.region g).rows = [] ∧ (t.region g).checkPend = false)) ∧
  (∀ (g : Fin 4) (m : Bool), Happens (.peakSelfcheck g m) (fun s => s.domOn (70 + g) = false ∨ (s.region g).checkPend = false) Nothing) ∧
  (∀ via seq (a : BitVec 32) (v : Word) (g : Fin 4), a.toNat % 4 = 0 →
    (0x50000 + 0x4000 * g.val ≤ a.toNat → a.toNat ≤ 0x50028 + 0x4000 * g.val →
      Writes (.peConfigWrite via seq a [v]) a.toNat 1 (fun u => u.pw.st ≠ .scanning) (fun u t => t = u.hostWrite a.toNat v) ∧
      Writes (.peConfigWrite via seq a [v]) a.toNat 1 (fun u => u.pw.st = .scanning) (fun u t => t.rd a.toNat = (u.hostWrite a.toNat v).rd a.toNat ∧
        ∀ f : Fld, f.addr = a.toNat → t.getAt 8 f = u.getAt 8 f)) ∧
    (0x50100 + 0x4000 * g.val ≤ a.toNat → a.toNat < 0x50180 + 0x4000 * g.val →
      Writes (.peConfigWrite via seq a [v]) a.toNat 1 (fun u => u.pw.st ≠ .scanning) (fun u t => t = u.hostWrite a.toNat v) ∧
      Writes (.peConfigWrite via seq a [v]) a.toNat 1 (fun u => u.pw.st = .scanning) (fun u t => OnlyRegs u t [(F.PE.PE_STAT_CFG_ERR g).addr] ∧ t.flag (F.PE.PE_STAT_CFG_ERR g) = true)))

/-! ### Point stream and compression (chapter 10) -/

/-- R224, R229, R232, R233, R237: the point stream. With every part present the oldest column's record is built and placed in the ring, where there is room behind nothing else; a part still missing two columns later is given up and counted. The frame end
record follows the last column. The ring refills from the overflow chain in order. Writes that break the rate test or leave an invalid or busy chain are discarded with CFG_ERR. -/
def Obligations.PointStream : Prop :=
  (∀ (f : FrameInfo) (l : List FrameInfo) (k : ColInfo), Happens .columnRecordBuild
      (fun s => s.ps.frames = f :: l ∧ s.ps.cols.find? (fun k => !k.built) = some k ∧ s.domOn 74 = true ∧ f.placed = true ∧ f.c0 ≤ k.c ∧ k.c < f.c0 + f.cols ∧ s.partsMissing k = [] ∧
        s.flag F.PS.PS_CTRL_AMB_EN = false ∧ s.psEn = true ∧ s.level = 0 ∧ s.ps.chain = [] ∧ s.ps.run1 = none ∧ s.streamLevel 1 + (s.columnRecord f k).1.length + 64 ≤ 262144)
    (fun s t => (t.stream 1).units = (s.stream 1).units ++ [(s.columnRecord f k).1] ∧ t.ps.frames = { f with sent := f.sent + 1, incomplete := f.incomplete + bit k.incomplete } :: l ∧
      t.ps.cols = s.ps.cols.map (fun q => if q.c = k.c then { q with built := true } else q) ∧ t.get F.PS.CINDEX = k.c % 2 ^ F.PS.CINDEX.wd ∧
      t.get F.PS.RETURNS = (s.columnRecord f k).2.1 % 2 ^ F.PS.RETURNS.wd ∧ t.get F.PS.COL_DELIVERED = min (s.get F.PS.COL_DELIVERED + 1) (2 ^ F.PS.COL_DELIVERED.wd - 1))) ∧
  (∀ k : ColInfo, Happens .columnRecordBuild (fun s => s.ps.frames = [] ∨ (s.ps.cols.find? (fun k => !k.built) = some k ∧ s.partsMissing k ≠ []) ∨ s.domOn 74 = false) Nothing) ∧
  (∀ k : ColInfo, Happens .regionPartLate (fun s => s.ps.cols.find? (fun k => !k.built) = some k ∧ s.domOn 74 = true ∧ k.c + 2 ≤ (s.rxBank 0).accCol ∧ s.partsMissing k ≠ [])
    (fun s t => t.ps = { s.ps with cols := s.ps.cols.map (fun q => if q.c = k.c then { q with late := (s.partsMissing k).foldl (fun m g => m + 2 ^ g) q.late } else q) } ∧
      t.get F.PS.REGION_LATE = min (s.get F.PS.REGION_LATE + (s.partsMissing k).length) (2 ^ F.PS.REGION_LATE.wd - 1))) ∧
  (∀ k : ColInfo, Happens .regionPartLate (fun s => s.ps.cols.find? (fun k => !k.built) = some k ∧ (s.domOn 74 = false ∨ (s.rxBank 0).accCol < k.c + 2 ∨ s.partsMissing k = [])) Nothing) ∧
  (∀ f : FrameInfo, Happens .frameEndRecord (fun s => s.ps.frames = [f] ∧ s.domOn 74 = true ∧ f.placed = true ∧ f.ends.isSome = true ∧
        s.ps.cols.all (fun k => k.built || !decide (f.c0 ≤ k.c ∧ k.c < f.c0 + f.cols)) = true ∧ s.psEn = true ∧ s.level = 0 ∧ s.ps.chain = [] ∧ s.ps.run1 = none ∧
        s.streamLevel 1 + (s.frameEndRecord f).length + 64 ≤ 262144)
    (fun s t => t.ps.frames = [] ∧ (t.stream 1).units = (s.stream 1).units ++ [s.frameEndRecord f] ∧ t.regs = s.regs)) ∧
  Happens .frameEndRecord (fun s => s.ps.frames = [] ∨ s.domOn 74 = false) Nothing ∧
  (∀ (u : List Byte) (l : List (List Byte)), Happens .overflowChainRefill (fun s => s.ps.chain = u :: l ∧ s.domOn 74 = true ∧ s.streamLevel 1 + u.length + 64 ≤ 262144)
    (fun s t => t.ps = { s.ps with chain := l } ∧ (t.stream 1).units = (s.stream 1).units ++ [u])) ∧
  Happens .overflowChainRefill (fun s => s.ps.chain = [] ∨ s.domOn 74 = false) Nothing ∧
  (∀ via seq (v : BitVec 32), let bad := fun (u : State) => decide (bitsOf v.toNat 2 1 ≠ u.get F.PS.PS_CTRL_FORMAT) && levelShort u.boundLevel u.profileNow (bitsOf v.toNat 2 1)
    Writes (.psCtrlWrite via seq v) F.PS.PS_CTRL_EN.addr 1 (fun u => bad u = true) (fun u t => OnlyRegs u t [F.PS.PS_STAT_CFG_ERR.addr] ∧ t.get F.PS.PS_STAT_CFG_ERR = 1) ∧
    Writes (.psCtrlWrite via seq v) F.PS.PS_CTRL_EN.addr 1 (fun u => bad u = false) (fun u t => t = u.hostWrite F.PS.PS_CTRL_EN.addr v)) ∧
  (∀ via seq (a : BitVec 32) (v : Word), 0x2000040 ≤ a.toNat → a.toNat < 0x2000180 →
    Writes (.ovfConfigWrite via seq a [v]) a.toNat 1 (fun u => u.ps.chain ≠ [] ∨ (u.hostWrite a.toNat v).chainBad = true)
      (fun u t => OnlyRegs u t [F.PS.PS_STAT_CFG_ERR.addr] ∧ t.get F.PS.PS_STAT_CFG_ERR = 1) ∧
    Writes (.ovfConfigWrite via seq a [v]) a.toNat 1 (fun u => u.ps.chain = [] ∧ (u.hostWrite a.toNat v).chainBad = false) (fun u t => t = u.hostWrite a.toNat v))

/-- R237 to R242: compression contexts and the decompressor. COMP_CONFIG binds at once outside SCANNING, else waits for the next frame start; a level too slow is refused. A save captures its context at once where that is not compressing, and completes once
its image is written; a restore completes once its image has been read, and replaces the context or ends with BAD_PARAM. DECOMPRESS ends with the inflation's status, its bytes written and the result group updated. -/
def Obligations.Compression : Prop :=
  (∀ via seq (l n : Byte), l.toNat ≤ 8 → n.toNat ≤ 7 →
    Does (.compConfig via seq l n) (fun u => u.domOn 74 = true ∧ u.pw.st ≠ .scanning ∧ levelShort l.toNat u.profileNow (u.get F.PS.PS_CTRL_FORMAT) = false) (fun _ => [])
      (fun u t => t = { u with regs := t.regs, ps := { u.ps with compPend := none } } ∧ SameRegs u t [F.PS.COMP_CTRL_LEVEL.addr, F.PS.COMP_CTRL_CONTEXT.addr] ∧ t.level = l.toNat ∧ t.bound = n.toNat) ∧
    Does (.compConfig via seq l n) (fun u => u.domOn 74 = true ∧ u.pw.st = .scanning ∧ levelShort l.toNat u.profileNow u.ps.format = false) (fun _ => [])
      (fun u t => t = { u with ps := { u.ps with compPend := some (l.toNat, n.toNat) } }) ∧
    TurnsAway (.compConfig via seq l n) (fun u => u.domOn 74 = true ∧ u.rangeBusy 0x0A00 = false ∧ u.pw.st = .scanning ∧ levelShort l.toNat u.profileNow u.ps.format = true) 0x21 (fun _ => 4)) ∧
  (∀ via seq (n : Byte) (a : BitVec 64), n.toNat ≤ 7 → a.toNat % 64 = 0 →
    Starts (.compContextSave via seq n a) (fun u => u.domOn 74 = true ∧ u.domOn 79 = true ∧ u.bitAt F.PS.CTX_STAT_VALID n.toNat = true ∧ a.toNat + 32832 ≤ u.dramSize ∧ u.rangeBusy 0x0A01 = false ∧
        u.compressing n.toNat = true) 0 (fun u t => t = { u with ps := { u.ps with save := some (n.toNat, a.toNat), saved := none } }) ∧
    Starts (.compContextSave via seq n a) (fun u => u.domOn 74 = true ∧ u.domOn 79 = true ∧ u.bitAt F.PS.CTX_STAT_VALID n.toNat = true ∧ a.toNat + 32832 ≤ u.dramSize ∧ u.rangeBusy 0x0A01 = false ∧
        u.compressing n.toNat = false) 0 (fun u t => t.ps.save = some (n.toNat, a.toNat) ∧ ∃ img : List Byte, t.ps.saved = some (n.toNat, img) ∧
          u32 img 12 = t.get F.PS.CTX_MARK ∧ t.get F.PS.CTX_MARK = (u.get F.PS.CTX_MARK + 1) % 2 ^ F.PS.CTX_MARK.wd) ∧
    TurnsAway (.compContextSave via seq n a) (fun u => u.domOn 74 = true ∧ u.domOn 79 = true ∧ u.bitAt F.PS.CTX_STAT_VALID n.toNat = false) 0x13 State.stateCode ∧
    Starts (.compContextRestore via seq n a) (fun u => u.domOn 74 = true ∧ u.domOn 79 = true ∧ a.toNat + 32832 ≤ u.dramSize ∧ u.rangeBusy 0x0A02 = false) 0
      (fun u t => t = { u with ps := { u.ps with save := some (n.toNat, a.toNat), saved := none } })) ∧
  (∀ (n m a : Nat) (img : List Byte), Happens .contextSaveComplete (fun s => s.ps.save = some (n, a) ∧ s.ps.saved = some (m, img) ∧ s.isRunning 0x0A01 = true)
    (fun s t => ∃ x : State, t = x.complete 0x0A01 0 0 [] ∧ x.dram = spSetList dramDflt s.dram a img ∧ x.ps = { s.ps with save := none, saved := none })) ∧
  Happens .contextSaveComplete (fun s => s.ps.save = none ∨ s.ps.saved = none ∨ s.isRunning 0x0A01 = false) Nothing ∧
  (∀ n a : Nat, Happens .contextRestoreComplete (fun s => s.ps.save = some (n, a) ∧ s.isRunning 0x0A02 = true ∧ imageOk (s.dramRead a 32832) = true ∧ s.compressing n = false)
      (fun s t => ∃ x : State, t = x.complete 0x0A02 0 0 [] ∧ x.ps.save = none ∧ (x.ctx n).flags = 2 ∧ (x.ctx n).total = u64 (s.dramRead a 32832) 16 ∧ (x.ctx n).mark = u32 (s.dramRead a 32832) 12 ∧
        (x.ctx n).hist = ((s.dramRead a 32832).drop 64).drop (32768 - u32 (s.dramRead a 32832) 8) ∧ ∀ k, k ≠ n → x.ctx k = s.ctx k) ∧
    Happens .contextRestoreComplete (fun s => s.ps.save = some (n, a) ∧ s.isRunning 0x0A02 = true ∧ imageOk (s.dramRead a 32832) = false)
      (fun s t => ∃ x : State, t = x.complete 0x0A02 0x12 1 [] ∧ x.ps = { s.ps with save := none })) ∧
  Happens .contextRestoreComplete (fun s => s.ps.save = none ∨ s.isRunning 0x0A02 = false) Nothing ∧
  (∀ via seq (src dst : BitVec 64) (len lim : BitVec 32), len ≠ 0 → lim ≠ 0 → (src.toNat + len.toNat ≤ dst.toNat ∨ dst.toNat + lim.toNat ≤ src.toNat) →
    Starts (.decompress via seq src len dst lim) (fun u => u.domOn 79 = true ∧ src.toNat + len.toNat ≤ u.dramSize ∧ dst.toNat + lim.toNat ≤ u.dramSize ∧ u.rangeBusy 0x0A03 = false) 0
      (fun u t => t = { u with ps := { u.ps with decomp := some ⟨src.toNat, len.toNat, dst.toNat, lim.toNat⟩ } })) ∧
  (∀ d : Decomp, Happens .decompressComplete (fun s => s.ps.decomp = some d ∧ s.isRunning 0x0A03 = true)
    (fun s t => let r := inflate (s.dramRead d.src d.srcLen) d.limit (s.get F.PS.DECOMP_CFG_GUARD % 3) (s.flag F.PS.DECOMP_CFG_TRAILING)
      ∃ x : State, t = x.complete 0x0A03 r.code r.detail (beBytes 4 r.len) ∧ x.dram = spSetList dramDflt s.dram d.dst r.bytes ∧ x.ps.decomp = none ∧
        x.get F.PS.OUT_LEN = r.len % 2 ^ F.PS.OUT_LEN.wd ∧ x.get F.PS.CODE = r.code % 2 ^ F.PS.CODE.wd)) ∧
  Happens .decompressComplete (fun s => s.ps.decomp = none ∨ s.isRunning 0x0A03 = false) Nothing

/-! ### Cameras, the pipeline and fusion (chapter 11) -/

/-- R246, R252, R257, R259, R262, R272: the camera and pipeline commands. CAM_CONFIG stores its block where every field is in range and the camera stands still; CAM_RUN starts a configured camera within the pipeline's load and stops one at the close of its frame; PIPE_CONTEXT_SET
stages a stage of the right length; STATS_REQUEST and REPROCESS run to the completions of R262 and R257. PIPE_CFG and the rings keep still while a camera runs. -/
def Obligations.CameraCommands : Prop :=
  (∀ via seq (n : Byte) (b : List Byte), n.toNat ≤ 1 → b.length = 64 →
    Does (.camConfig via seq n b) (fun u => u.domOn 75 = true ∧ u.camRuns n.toNat = false ∧ (camBlockBad b u.dramSize).all (fun e => !e.1) = true) (fun _ => [])
      (fun u t => t = { u with regs := t.regs, vis := t.vis } ∧ (∀ i < 16, t.get (F.CAM.CAM_BLOCK n.toNat i) = u32 b (4 * i)) ∧ t.flag (F.CAM.CSI_STAT_CONFIGURED n.toNat) = true ∧
        t.cam n.toNat = CamSt.init ∧ ∀ m, m ≠ n.toNat → t.cam m = u.cam m) ∧
    TurnsAway (.camConfig via seq n b) (fun u => u.domOn 75 = true ∧ u.camRuns n.toNat = true) 0x13 State.stateCode ∧
    (∀ k, TurnsAway (.camConfig via seq n b) (fun u => u.domOn 75 = true ∧ u.camRuns n.toNat = false ∧ (camBlockBad b u.dramSize).find? (fun e => e.1) = some (true, k)) 0x12 (fun _ => k))) ∧
  (∀ via seq (n : Byte), n.toNat ≤ 1 →
    Does (.camRun via seq n 1) (fun u => u.domOn 75 = true ∧ u.flag (F.CAM.CSI_STAT_CONFIGURED n.toNat) = true ∧ (u.flag F.PIPE.PIPE_CFG_MODE = true → 2 ≤ u8 (u.camBlock n.toNat) 7) ∧
        u.camLoad n.toNat ≤ 115000000000) (fun _ => []) (fun u t => t.camRuns n.toNat = true ∧ (t.cam n.toNat).stopping = false ∧ (u.camRuns n.toNat = false → (t.cam n.toNat).fresh = true)) ∧
    TurnsAway (.camRun via seq n 1) (fun u => u.domOn 75 = true ∧ u.flag (F.CAM.CSI_STAT_CONFIGURED n.toNat) = false) 0x70 (fun _ => 1) ∧
    TurnsAway (.camRun via seq n 1) (fun u => u.domOn 75 = true ∧ u.flag (F.CAM.CSI_STAT_CONFIGURED n.toNat) = true ∧ u.flag F.PIPE.PIPE_CFG_MODE = false ∧ 115000000000 < u.camLoad n.toNat)
      0x72 (fun _ => n.toNat) ∧
    Does (.camRun via seq n 0) (fun u => u.domOn 75 = true ∧ (u.cam n.toNat).opened = none) (fun _ => []) (fun _ t => t.camRuns n.toNat = false) ∧
    Does (.camRun via seq n 0) (fun u => u.domOn 75 = true ∧ (u.cam n.toNat).opened ≠ none) (fun _ => [])
      (fun u t => (t.cam n.toNat) = { u.cam n.toNat with stopping := true } ∧ t.camRuns n.toNat = u.camRuns n.toNat)) ∧
  (∀ via seq (x k : Byte) (d : List Byte), x.toNat ≤ 3 →
    (stageLength k.toNat d.length = some true → (stageBad k.toNat d).all (fun e => !e.1) = true →
      Does (.pipeContextSet via seq x k d) (fun u => u.domOn 75 = true) (fun _ => [])
        (fun u t => t = { u with regs := t.regs, vis := t.vis } ∧ t.pctx x.toNat = { u.pctx x.toNat with staged := spSet (fun _ => []) (u.pctx x.toNat).staged k.toNat d } ∧
          t.flag (F.CTX.CTX_STAT_PENDING x.toNat) = true ∧ SameRegs u t [(F.CTX.CTX_STAT_PENDING x.toNat).addr])) ∧
    (stageLength k.toNat d.length = some false → d.length < 65536 → TurnsAway (.pipeContextSet via seq x k d) (fun u => u.domOn 75 = true) 0x11 (fun _ => 2))) ∧
  (∀ via seq (x : Byte), x.toNat ≤ 3 → Starts (.statsRequest via seq x) (fun u => u.domOn 75 = true ∧ u.rangeBusy 0x0403 = false ∧ u.class5Refusing = false) x.toNat
    (fun u t => t = { u with vis := { u.vis with stats := some (x.toNat, none) } })) ∧
  (∀ (x : Fin 4) (closed : Bool),
    Happens (.statsRequestComplete x closed) (fun s => s.isRunning 0x0403 = false ∨ s.runningTag 0x0403 ≠ some x.val) Nothing ∧
    (∀ (y : Nat) (bytes : List Byte) (j : Job), Happens (.statsRequestComplete x closed)
      (fun s => s.isRunning 0x0403 = true ∧ s.runningTag 0x0403 = some x.val ∧ s.vis.stats = some (y, some (bytes, j)))
      (fun s t => let r := ({ s with vis := { s.vis with stats := none } } : State).memReq 5 0x41 bytes.length
        let q := r.2.camPut 3 j.cam j.frame j.time bytes
        (r.1 = false → t = ((r.2.inc (F.CTX.STATS_REFUSED x)).raise EV_STATS_REFUSED x 0).complete 0x0403 0x21 5 []) ∧
        (r.1 = true → q.1 = true → t = (q.2.inc (F.CTX.STATS_SENT x)).complete 0x0403 0 0 []))) ∧
    (∀ y : Nat, Happens (.statsRequestComplete x false) (fun s => s.isRunning 0x0403 = true ∧ s.runningTag 0x0403 = some x.val ∧ s.vis.stats = some (y, none))
      (fun s t => t = ({ s with vis := { s.vis with stats := none } } : State).complete 0x0403 0x13 s.stateCode []))) ∧
  (∀ via seq (x : Byte) (a : BitVec 64), 2 ≤ x.toNat → x.toNat ≤ 3 → a.toNat % 64 = 0 →
    Starts (.reprocess via seq x a) (fun u => u.domOn 75 = true ∧ u.domOn 79 = true ∧ a.toNat + 64 ≤ u.dramSize ∧ u.rangeBusy 0x0404 = false ∧
        u.vis.jobs.any (fun j => j.ctx == x.toNat && j.deferred) = false) x.toNat (fun u t => t = { u with vis := { u.vis with repro := some (x.toNat, a.toNat, false) } })) ∧
  (∀ (x : Fin 4) (a : Nat),
    Happens (.reprocessComplete x) (fun s => s.vis.repro = none ∨ s.isRunning 0x0404 = false) Nothing ∧
    Happens (.reprocessComplete x) (fun s => s.vis.repro = some (x.val, a, true) ∧ s.isRunning 0x0404 = true)
      (fun s t => t = (({ s with vis := { s.vis with repro := none } } : State).inc F.PIPE.REPROC_DONE).complete 0x0404 0 0 []) ∧
    Happens (.reprocessComplete x) (fun s => s.vis.repro = some (x.val, a, false) ∧ s.isRunning 0x0404 = true ∧ s.vis.jobs.any (fun j => j.host) = false ∧ s.rawCheck a ≠ 0)
      (fun s t => t = ({ s with vis := { s.vis with repro := none } } : State).complete 0x0404 0x71 (s.rawCheck a) [])) ∧
  (∀ via seq (a : BitVec 32) (v : Word), 0x3002000 ≤ a.toNat → a.toNat < 0x3003000 →
    let held := decide (a.toNat = F.PIPE.PIPE_CFG_MODE.addr) || decide (F.PIPE.S3_BASE_LO.addr ≤ a.toNat ∧ a.toNat ≤ F.PIPE.S4_LEN.addr)
    Writes (.pipeCfgWrite via seq a [v]) a.toNat 1 (fun u => held = true ∧ (u.camRuns 0 = true ∨ u.camRuns 1 = true))
      (fun u t => OnlyRegs u t [F.PIPE.PIPE_STAT_CFG_ERR.addr] ∧ t.get F.PIPE.PIPE_STAT_CFG_ERR = 1) ∧
    Writes (.pipeCfgWrite via seq a [v]) a.toNat 1 (fun u => held = false ∨ (u.camRuns 0 = false ∧ u.camRuns 1 = false)) (fun u t => t = u.hostWrite a.toNat v))

/-- R245, R247 to R251, R253, R254, R264: frames. An FS of a running camera opens its next frame, taken live by an idle pipeline in frame mode for the PRIO camera. A packet without an open frame is ignored and counted; the uppermost fault of Table 11-3 is counted and drops the rest
of the frame; a good line joins it. An FE closes the frame and publishes it. A strip of an enabled plane is placed in its ring where there is room; the last line of a whole frame closes it in its context. -/
def Obligations.CameraFrames : Prop :=
  (∀ (n : Fin 2) (k : BitVec 16), Happens (.csiFrameStart n k) (fun s => s.domOn 75 = false ∨ s.camRuns n = false) (fun s t => t = s.illFs n)) ∧
  (∀ (n : Fin 2) (k : BitVec 16), Happens (.csiFrameStart n k) (fun s => s.domOn 75 = true ∧ s.camRuns n = true ∧ (s.cam n).opened = none ∧ (s.cam n).lastFs = none ∧
        s.flag F.PIPE.PIPE_CFG_MODE = false ∧ s.get F.PIPE.PIPE_CFG_PRIO = n.val ∧ s.vis.cur = none)
      (fun s t => let frame := if (s.cam n).fresh then 0 else (s.cam n).next
        (t.cam n).opened.map OpenFrame.frame = some frame ∧ (t.cam n).next = (frame + 1) % 2 ^ 32 ∧ (t.cam n).fresh = false ∧ (t.cam n).lastFs = some s.time.dev.toNat ∧ t.vis.cur = some n.val ∧
          t.flag (F.CAM.CSI_STAT_FRAME_OPEN n) = true ∧ t.get (F.CAM.FRAMES_IN n) = min (s.get (F.CAM.FRAMES_IN n) + 1) (2 ^ (F.CAM.FRAMES_IN n).wd - 1))) ∧
  (∀ (n : Fin 2) (wc : BitVec 16) (crc : Bool) (px : List Byte) (hdr : Fin 3) (ovf : Bool),
    Happens (.csiLinePacket n wc crc px hdr ovf) (fun s => s.domOn 75 = false ∨ s.camRuns n = false) Nothing ∧
    Happens (.csiLinePacket n wc crc px hdr ovf) (fun s => s.domOn 75 = true ∧ s.camRuns n = true ∧ (s.cam n).opened = none) (fun s t => t = s.inc (F.CAM.IGNORED n)) ∧
    (∀ f : OpenFrame,
      (ovf = true → Happens (.csiLinePacket n wc crc px hdr ovf) (fun s => s.domOn 75 = true ∧ s.camRuns n = true ∧ (s.cam n).opened = some f) (fun s t => t = (s.inc (F.CAM.OVERFLOW n)).dropRest n 3)) ∧
      (ovf = false → hdr = 2 → Happens (.csiLinePacket n wc crc px hdr ovf) (fun s => s.domOn 75 = true ∧ s.domOn 79 = true ∧ s.camRuns n = true ∧ (s.cam n).opened = some f)
        (fun s t => t = (s.inc (F.CAM.HDR_ERR n)).dropRest n 1)) ∧
      (ovf = false → hdr ≠ 2 → crc = false → Happens (.csiLinePacket n wc crc px hdr ovf) (fun s => s.domOn 75 = true ∧ s.domOn 79 = true ∧ s.camRuns n = true ∧ (s.cam n).opened = some f)
        (fun s t => t = (s.inc (F.CAM.CRC_ERR n)).dropRest n 1)) ∧
      (ovf = false → hdr ≠ 2 → crc = true → Happens (.csiLinePacket n wc crc px hdr ovf) (fun s => s.domOn 75 = true ∧ s.domOn 79 = true ∧ s.camRuns n = true ∧ (s.cam n).opened = some f ∧
          wc.toNat * 8 ≠ s.camW n * dtBits (u8 (s.camBlock n) 2)) (fun s t => t = (s.inc (F.CAM.WC_ERR n)).dropRest n 1)) ∧
      (ovf = false → hdr = 0 → crc = true → Happens (.csiLinePacket n wc crc px hdr ovf) (fun s => s.domOn 75 = true ∧ s.domOn 79 = true ∧ s.camRuns n = true ∧ (s.cam n).opened = some f ∧
          wc.toNat * 8 = s.camW n * dtBits (u8 (s.camBlock n) 2) ∧ f.lines < s.camH n ∧ f.raw = none)
        (fun s t => t = { s with vis := t.vis } ∧ (t.cam n).opened = some { f with
          lines := f.lines + 1, first := if f.lines = 0 then s.time.dev.toNat else f.first, last := s.time.dev.toNat })))) ∧
  (∀ (s : State) (n r : Nat) (f : OpenFrame), n ≤ 1 → (s.cam n).opened = some f → ((s.dropRest n r).cam n).opened = none ∧ (s.dropRest n r).flag (F.CAM.CSI_STAT_FRAME_OPEN n) = false ∧
    (s.dropRest n r).get (F.CAM.FRAMES_DROPPED n) = min (s.get (F.CAM.FRAMES_DROPPED n) + 1) (2 ^ (F.CAM.FRAMES_DROPPED n).wd - 1)) ∧
  (∀ (n : Fin 2) (k : BitVec 16) (f : OpenFrame),
    Happens (.csiFrameEnd n k) (fun s => (s.cam n).opened = none) (fun s t => t = s.lockFe n) ∧
    Happens (.csiFrameEnd n k) (fun s => s.domOn 75 = true ∧ (s.cam n).opened = some f ∧ s.camH n ≤ f.lines)
      (fun _ t => (t.cam n).opened = none ∧ t.flag (F.CAM.CSI_STAT_FRAME_OPEN n) = false ∧ t.get (F.CAM.CAM_FRAME n) = f.frame % 2 ^ (F.CAM.CAM_FRAME n).wd ∧
        t.get (F.CAM.LINES n) = f.lines % 2 ^ (F.CAM.LINES n).wd ∧ t.get (F.CAM.REASON n) = 0) ∧
    Happens (.csiLineTimeout n) (fun s => (s.cam n).opened = none ∨ s.domOn 75 = false) Nothing ∧
    Happens (.csiLineTimeout n) (fun s => s.domOn 75 = true ∧ (s.cam n).opened = some f ∧ f.lines < s.camH n) (fun s t => t = (s.inc (F.CAM.LATE n)).dropRest n 2) ∧
    Happens (.csiLineTimeout n) (fun s => s.domOn 75 = true ∧ (s.cam n).opened = some f ∧ s.camH n ≤ f.lines) (fun s t => t = (s.inc (F.CAM.FE_MISSING n)).closeInput n)) ∧
  (∀ (n : Fin 2) (vc : BitVec 4) (dt : BitVec 6) (px : List Byte) (f : OpenFrame),
    Happens (.csiNonImagePacket n vc dt px) (fun s => s.domOn 75 = false ∨ s.camRuns n = false ∨ dt.toNat < 8) Nothing ∧
    Happens (.csiNonImagePacket n vc dt px) (fun s => s.domOn 75 = true ∧ s.camRuns n = true ∧ 8 ≤ dt.toNat ∧ (s.cam n).opened = none ∧
        (vc.toNat ≠ u8 (s.camBlock n) 1 ∨ dt.toNat ≠ u8 (s.camBlock n) 2)) (fun s t => t = s.inc (F.CAM.IGNORED n)) ∧
    Happens (.csiNonImagePacket n vc 0x12 px) (fun s => s.domOn 75 = true ∧ s.camRuns n = true ∧ (s.cam n).opened = some f ∧ vc.toNat = u8 (s.camBlock n) 1 ∧ u8 (s.camBlock n) 2 ≠ 0x12 ∧
        u8 (s.camBlock n) 3 = 1) (fun s t => t = s.setCam n { s.cam n with opened := some { f with emb := (f.emb ++ px).take 256 } })) ∧
  Happens .deferredFrameStart (fun s => s.domOn 75 = false ∨ s.flag F.PIPE.PIPE_CFG_MODE = true ∨ s.vis.cur ≠ none) Nothing ∧
  (∀ j : Job, Happens .deferredFrameStart (fun s => s.domOn 75 = true ∧ s.flag F.PIPE.PIPE_CFG_MODE = false ∧ s.vis.cur = none ∧
      s.vis.jobs.find? (fun j => j.deferred && j.closed && !j.started) = some j ∧ s.get F.PIPE.PIPE_CFG_PRIO = j.cam)
    (fun _ t => t.vis.cur = some j.ctx ∧ ∃ k ∈ t.vis.jobs, k.same j = true ∧ k.started = true)) ∧
  (∀ x : Fin 4, Happens (.stripeReady x) (fun s => s.domOn 75 = false ∨ s.flag F.PIPE.PIPE_CFG_MODE = false) Nothing) ∧
  (∀ (x : Fin 4) (j : Job), x.val < 2 → Happens (.stripeReady x) (fun s => s.domOn 75 = true ∧ s.flag F.PIPE.PIPE_CFG_MODE = true ∧
      s.vis.jobs.find? (fun j => j.ctx == x.val && !j.live && s.stripeOf j) = some j)
    (fun _ t => t.vis.last = some x.val ∧ ∃ k ∈ t.vis.jobs, k.same j = true ∧ k.started = true ∧ k.served = j.served + 1)) ∧
  (∀ (x : Fin 4) (coding : Bool) (level : Fin 3) (j : Job),
    Happens (.stripRecordSend x coding level) (fun s => s.ctxJob x = none) Nothing ∧
    (let b := branch j.bank (if coding then 0x0F else 0x10)
     let key := if coding then 8 else level.val
     let first := spGet (fun _ => 0) j.sent key
     let w := b.w / 2 ^ level.val
     let lines := min (64 / 2 ^ level.val) (b.h / 2 ^ level.val - first)
     let k := if coding then 4 else 3
     b.en = true → (if coding then level = 0 else level.val < b.flags / 4 % 4) → first < b.h / 2 ^ level.val →
     Happens (.stripRecordSend x coding level) (fun s => s.domOn 75 = true ∧ s.ctxJob x = some j ∧ s.camRun k = none ∧
         s.streamLevel k + (36 + if coding then lines * w * 3 / 2 else lines * w) + 64 ≤ s.camRing k)
       (fun s t => ∃ r : List Byte, (t.stream k).units = (s.stream k).units ++ [r] ∧ u8 r 0 = (if coding then 0x61 else 0x60) ∧ u8 r 2 = level.val ∧ u8 r 3 = x.val ∧
         r.length = 36 + (if coding then lines * w * 3 / 2 else lines * w)))) ∧
  (∀ (x : Fin 4) (j : Job),
    Happens (.pipelineFrameClose x) (fun s => s.ctxJob x = none ∨ s.domOn 75 = false) Nothing ∧
    Happens (.pipelineFrameClose x) (fun s => s.domOn 75 = true ∧ s.ctxJob x = some j ∧ j.closed = true ∧ (j.live = true ∨ s.flag F.PIPE.PIPE_CFG_MODE = false))
      (fun s t => t.vis.jobs = s.vis.jobs.filter (fun q => !q.same j) ∧ t.get (F.CTX.CAM_FRAME x) = j.frame % 2 ^ (F.CTX.CAM_FRAME x).wd ∧ t.flag (F.CTX.STATS_VALID x) = true ∧
        t.flag (F.CTX.SHORT x) = false ∧ t.get (F.CTX.FRAMES_DONE x) = min (s.get (F.CTX.FRAMES_DONE x) + 1) (2 ^ (F.CTX.FRAMES_DONE x).wd - 1)))

/-- R266 to R269, R272: fusion. A built column is used once; where no map is open it is only kept for windows that reach back; a map whose window it passes closes, and one whose window it lies in takes it. A map that closes leaves on stream 3 where its ring has room; one closed 50 ms after
its window counts as stale. FUS_CTRL is refused with too many cells for a running camera, and setting an EN bit judges that camera's calibration. -/
def Obligations.FusionMaps : Prop :=
  Happens .fusionColumn (fun s => s.nextFusion = none) Nothing ∧
  (∀ k : ColInfo, Happens .fusionColumn (fun s => s.nextFusion = some k ∧ s.domOn 75 = true ∧ s.vis.maps = [])
    (fun s t => t.ps.cols = s.ps.cols.map (fun q => if q.c = k.c then { q with fused := true } else q) ∧
      t.vis = { s.vis with past := s.vis.past.filter (fun j => decide (k.time.toNat ≤ j.time.toNat + fusionPast)) ++ [k] } ∧ t.regs = s.regs)) ∧
  (∀ (k : ColInfo) (m : DMap), Happens .fusionColumn (fun s => s.nextFusion = some k ∧ s.domOn 75 = true ∧ s.vis.maps = [m] ∧ s.centreAfter k m.stop = true)
    (fun s t => t.vis.maps = [] ∧ t.ps.cols = s.ps.cols.map (fun q => if q.c = k.c then { q with fused := true } else q))) ∧
  (∀ (n : Fin 2) (m : DMap) (k : ColInfo), Happens (.depthMapClose n) (fun s => s.oldestMap n = some m ∧ s.nextFusion = some k ∧ s.domOn 75 = true ∧ s.centreAfter k m.stop = true ∧
      s.camRun 3 = none ∧ s.streamLevel 3 + (depthRecord m).length + 64 ≤ s.camRing 3)
    (fun s t => t.vis.maps = s.vis.maps.filter (fun q => !(q.cam == m.cam && q.frame == m.frame)) ∧ (t.stream 3).units = (s.stream 3).units ++ [depthRecord m] ∧
      t.get F.FUS.MAPS_SENT = min (s.get F.FUS.MAPS_SENT + 1) (2 ^ F.FUS.MAPS_SENT.wd - 1))) ∧
  (∀ (n : Fin 2) (m : DMap) (k : ColInfo), Happens (.depthMapClose n) (fun s => s.oldestMap n = none ∨ s.nextFusion = none ∨ s.domOn 75 = false ∨
      (s.nextFusion = some k ∧ s.oldestMap n = some m ∧ s.centreAfter k m.stop = false)) Nothing) ∧
  (∀ (n : Fin 2) (m : DMap), Happens (.depthMapStale n) (fun s => s.oldestMap n = some m ∧ s.domOn 75 = true)
    (fun s t => t.vis.maps = s.vis.maps.filter (fun q => !(q.cam == m.cam && q.frame == m.frame)) ∧
      t.get F.FUS.MAPS_STALE = min (s.get F.FUS.MAPS_STALE + 1) (2 ^ F.FUS.MAPS_STALE.wd - 1))) ∧
  (∀ n : Fin 2, Happens (.depthMapStale n) (fun s => s.oldestMap n = none ∨ s.domOn 75 = false) Nothing) ∧
  (∀ (m : DMap) (k : ColInfo) (s : State), (∃ a, k.angle = some a) → (s.mapColumn m k).incomplete = (m.incomplete || k.incomplete) ∧ (s.mapColumn m k).oldest ≠ none ∧
    (s.mapColumn m k).cam = m.cam ∧ (s.mapColumn m k).frame = m.frame) ∧
  (∀ via seq (v : BitVec 32), let tooMany := fun (u : State) => (List.range 2).any (fun n => u.camRuns n && decide (65536 < (u.hostWrite F.FUS.FUS_CTRL_EN.addr v).cellCount n))
    Writes (.fusCtrlWrite via seq v) F.FUS.FUS_CTRL_EN.addr 1 (fun u => tooMany u = true) (fun u t => OnlyRegs u t [F.FUS.FUS_STAT_CFG_ERR.addr] ∧ t.get F.FUS.FUS_STAT_CFG_ERR = 1) ∧
    Writes (.fusCtrlWrite via seq v) F.FUS.FUS_CTRL_EN.addr 1 (fun u => tooMany u = false)
      (fun u t => OnlyRegs u t [F.FUS.FUS_CTRL_EN.addr, F.FUS.FUS_STAT_CAL_VALID.addr] ∧ t.rd F.FUS.FUS_CTRL_EN.addr = (u.hostWrite F.FUS.FUS_CTRL_EN.addr v).rd F.FUS.FUS_CTRL_EN.addr ∧
        ∀ n : Fin 2, t.bitAt F.FUS.FUS_STAT_CAL_VALID n =
          if t.bitAt F.FUS.FUS_CTRL_EN n && !u.bitAt F.FUS.FUS_CTRL_EN n then (u.hostWrite F.FUS.FUS_CTRL_EN.addr v).calOk n else u.bitAt F.FUS.FUS_STAT_CAL_VALID n))

/-! ### Displays (chapter 12) -/

/-- R273 to R276, R278 to R280, R284, R287 to R289: the displays. DISP_MODE takes a timing whose every field is in range; DISP_RUN starts a configured display whose port is up at a rate that carries it; LAYER_SET stages a layer; COMMIT hands the staged bank to the next flip
point, or makes it active at once while the display stands still. A flip numbers the frame, makes a waiting bank active, and sends the frame's start; each active line leaves as one unit; a stop ends at the flip point. -/
def Obligations.Displays : Prop :=
  (∀ via seq (d : Byte) (b : List Byte), d.toNat ≤ 1 → b.length = 32 →
    ((timingBad b).all (fun e => !e.1) = true →
      Does (.dispMode via seq d b) (fun u => u.domOn 76 = true ∧ u.flag (F.DSP.DISP_STAT_RUNNING d.toNat) = false) (fun _ => [])
        (fun u t => t = { u with regs := t.regs, disps := t.disps } ∧ (∀ i < 8, t.get (F.DSP.TIMING d.toNat i) = u32 b (4 * i)) ∧ t.flag (F.DSP.DISP_STAT_CONFIGURED d.toNat) = true ∧
          t.disp d.toNat = { u.disp d.toNat with pclk := u32 b 0 })) ∧
    (∀ k, (timingBad b).find? (fun e => e.1) = some (true, k) →
      TurnsAway (.dispMode via seq d b) (fun u => u.domOn 76 = true ∧ u.flag (F.DSP.DISP_STAT_RUNNING d.toNat) = false) 0x12 (fun _ => k)) ∧
    TurnsAway (.dispMode via seq d b) (fun u => u.domOn 76 = true ∧ u.flag (F.DSP.DISP_STAT_RUNNING d.toNat) = true) 0x13 State.stateCode) ∧
  (∀ via seq (d : Byte), d.toNat ≤ 1 →
    Does (.dispRun via seq d 1) (fun u => u.domOn 76 = true ∧ u.flag (F.DSP.DISP_STAT_RUNNING d.toNat) = false ∧ u.flag (F.DSP.DISP_STAT_CONFIGURED d.toNat) = true ∧ u.vUp d.toNat = true ∧
        rateCarries (u.timing d.toNat) (u.get (F.OZ.LINK_STAT_RATE (1 + d.toNat))) = true) (fun _ => [])
      (fun u t => t = { u with regs := t.regs, disps := t.disps } ∧ t.flag (F.DSP.DISP_STAT_RUNNING d.toNat) = true ∧ (t.disp d.toNat).next = 0 ∧ (t.disp d.toNat).first = true ∧
        (t.disp d.toNat).pclk = u32 (u.timing d.toNat) 0) ∧
    TurnsAway (.dispRun via seq d 1) (fun u => u.domOn 76 = true ∧ u.flag (F.DSP.DISP_STAT_RUNNING d.toNat) = false ∧ u.flag (F.DSP.DISP_STAT_CONFIGURED d.toNat) = false) 0x75 (fun _ => 0) ∧
    TurnsAway (.dispRun via seq d 1) (fun u => u.domOn 76 = true ∧ u.flag (F.DSP.DISP_STAT_RUNNING d.toNat) = false ∧ u.flag (F.DSP.DISP_STAT_CONFIGURED d.toNat) = true ∧ u.vUp d.toNat = false)
      0x74 (fun u => leastRate (u.timing d.toNat)) ∧
    Does (.dispRun via seq d 1) (fun u => u.domOn 76 = true ∧ u.flag (F.DSP.DISP_STAT_RUNNING d.toNat) = true) (fun _ => []) Nothing ∧
    Does (.dispRun via seq d 0) (fun u => u.domOn 76 = true ∧ u.flag (F.DSP.DISP_STAT_RUNNING d.toNat) = true ∧ (u.disp d.toNat).first = false) (fun _ => [])
      (fun u t => t = u.setDisp d.toNat { u.disp d.toNat with stopping := true }) ∧
    Does (.dispRun via seq d 0) (fun u => u.domOn 76 = true ∧ u.flag (F.DSP.DISP_STAT_RUNNING d.toNat) = false) (fun _ => []) Nothing) ∧
  (∀ via seq (d l : Byte) (b : List Byte), d.toNat ≤ 1 → l.toNat ≤ 2 → b.length = 32 →
    Does (.layerSet via seq d l b) (fun u => u.domOn 76 = true ∧ (u.layerBad d.toNat l.toNat b).all (fun e => !e.1) = true) (fun _ => [])
      (fun u t => t = u.setDisp d.toNat { u.disp d.toNat with staged := (u.disp d.toNat).staged.set l.toNat b }) ∧
    (∀ k, TurnsAway (.layerSet via seq d l b) (fun u => u.domOn 76 = true ∧ (u.layerBad d.toNat l.toNat b).find? (fun e => e.1) = some (true, k)) 0x12 (fun _ => k))) ∧
  (∀ via seq (d : Byte), d.toNat ≤ 1 →
    Starts (.commit via seq d) (fun u => u.domOn 76 = true ∧ u.rangeBusy 0x0502 = false ∧ u.flag (F.DSP.DISP_STAT_RUNNING d.toNat) = true) d.toNat
      (fun u t => t = u.commit d.toNat ∧ (t.disp d.toNat).pending = (u.disp d.toNat).staged ∧ (t.disp d.toNat).waits = true ∧ (t.disp d.toNat).skip = u.windowClosed d.toNat) ∧
    (∀ s p u, Runs (.commit via seq d) s p u → u.domOn 76 = true → u.rangeBusy 0x0502 = false → u.flag (F.DSP.DISP_STAT_RUNNING d.toNat) = false →
      let t := u.commit d.toNat
      let x := (t.start p.via p.op p.seq d.toNat).sendReply p.via p.op p.seq (t.answer 1 0 []) (.accepted (t.answer 1 0 []))
      exec (.commit via seq d) s = .next (x.complete 0x0502 0 0 (x.flipData d.toNat)).calm ∧
        ∀ i < 24, t.get ⟨(F.DSP.LAYER d.toNat i).addr, 0, 32⟩ = u32 ((u.disp d.toNat).staged.getD (i / 8) []) (4 * (i % 8)))) ∧
  (∀ via seq (d : Fin 2), Writes (.commitReqWrite via seq d) (F.DSP.DISP_CTRL_COMMIT_REQ d).addr 1 (fun _ => True) (fun u t => t = u.commit d)) ∧
  (∀ d : Fin 2, Happens (.flipPoint d) (fun s => s.domOn 76 = false ∨ s.flag (F.DSP.DISP_STAT_RUNNING d) = false) Nothing) ∧
  (∀ d : Fin 2, Happens (.flipPoint d) (fun s => s.domOn 76 = true ∧ s.flag (F.DSP.DISP_STAT_RUNNING d) = true ∧ (s.disp d).stopping = true)
    (fun s t => t.flag (F.DSP.DISP_STAT_RUNNING d) = false ∧ t.bitAt F.SYS.CLK_STAT_LOCKED (3 + d) = false ∧ (t.disp d).stopping = false ∧ (t.disp d).waits = false ∧ t.stream (8 + d) = s.stream (8 + d))) ∧
  (∀ d : Fin 2, Happens (.flipPoint d) (fun s => s.domOn 76 = true ∧ s.flag (F.DSP.DISP_STAT_RUNNING d) = true ∧ (s.disp d).stopping = false ∧ u8 (s.timing d) 20 / 4 % 2 = 0)
    (fun s t => (t.disp d).next = ((s.disp d).next + 1) % 2 ^ 32 ∧ t.get (F.DSP.FRAME d) = (s.disp d).next % 2 ^ (F.DSP.FRAME d).wd ∧
      t.get (F.DSP.FRAMES d) = min (s.get (F.DSP.FRAMES d) + 1) (2 ^ (F.DSP.FRAMES d).wd - 1) ∧ (t.disp d).flip = s.time.dev.toNat ∧
      (t.flag (F.DSP.COMMITTED d) = ((s.disp d).waits && !(s.disp d).skip)) ∧
      ((s.disp d).waits = true → (s.disp d).skip = false → (t.disp d).waits = false ∧
        ∀ i < 24, t.get ⟨(F.DSP.LAYER d i).addr, 0, 32⟩ = u32 ((s.disp d).pending.getD (i / 8) []) (4 * (i % 8))) ∧
      ((s.disp d).waits = false → ∀ i < 24, t.get ⟨(F.DSP.LAYER d i).addr, 0, 32⟩ = s.get ⟨(F.DSP.LAYER d i).addr, 0, 32⟩) ∧
      (s.vUp d = false → t.stream (8 + d) = s.stream (8 + d)) ∧
      (s.vUp d = true → ∃ r : List Byte, r.length = 48 ∧ u8 r 0 = 0x71 ∧ u16 r 2 = (s.disp d).next % 2 ^ 16 ∧ (t.stream (8 + d)).units = (s.stream (8 + d)).units ++ [r]))) ∧
  (∀ (d : Fin 2) (k : Nat), Happens (.displayLineStart d k) (fun s => s.domOn 76 = true ∧ s.flag (F.DSP.DISP_STAT_RUNNING d) = true ∧ (s.disp d).send = true ∧ s.vUp d = true ∧ k < u16 (s.timing d) 12)
    (fun s t => (t.disp d).line = k ∧ ∃ r : List Byte, r.length = 8 + 3 * u16 (s.timing d) 4 ∧ u8 r 0 = 0x70 ∧ u16 r 2 = k ∧ (t.stream (8 + d)).units = (s.stream (8 + d)).units ++ [r])) ∧
  (∀ (d : Fin 2) (k : Nat), Happens (.displayLineStart d k) (fun s => s.domOn 76 = false ∨ s.flag (F.DSP.DISP_STAT_RUNNING d) = false ∨ (s.disp d).send = false ∨ s.vUp d = false ∨
      u16 (s.timing d) 12 ≤ k) Nothing) ∧
  (∀ d : Fin 2, Happens (.frameLockLostTimeout d) (fun s => s.domOn 76 = true ∧ s.flag (F.DSP.DISP_STAT_LOCKED d) = true)
    (fun s t => ∃ x : State, t = x.raise EV_DISP_LOCK_LOST d 0 ∧ x = { s with regs := x.regs, disps := x.disps } ∧ SameRegs s x [(F.DSP.DISP_STAT_LOCKED d).addr] ∧
      x.flag (F.DSP.DISP_STAT_LOCKED d) = false ∧ x.disp d = { s.disp d with good := 0, bad := 0, lost := true })) ∧
  (∀ d : Fin 2, Happens (.frameLockLostTimeout d) (fun s => s.domOn 76 = false ∨ s.flag (F.DSP.DISP_STAT_LOCKED d) = false) Nothing)

/-! ### Links and Ethernet (chapter 13) -/

/-- R302 to R308: training and loss. LINK_TRAIN starts the ladder after its reply; a phase that passes leads to the next, the last phase of the target's rung makes the port ACTIVE, one below it climbs on; a rung that fails with none good below it ends the ladder with TRAIN_FAILED, else the port
returns to the best rate. The end of the ladder completes the command with the link status block. Loss of the upstream clock takes port H DOWN; a fallen port climbs again where it may. Figures of merit and VnAUX replies are published; replies that fail count in AUX_ERR. -/
def Obligations.LinkTraining : Prop :=
  (∀ via seq (n r : Byte), n.toNat ≤ 2 → r.toNat ≤ 3 → ∀ s p u, Runs (.linkTrain via seq n r) s p u → u.domOn 77 = true → u.rangeBusy 0x0600 = false →
    let a := u.answer 1 0 []
    let t := (((u.start p.via p.op p.seq n.toNat).sendReply p.via p.op p.seq a (.accepted a)).set (F.OZ.LINK_CTRL_TARGET n.toNat) r.toNat).beginLadder n.toNat r.toNat
    exec (.linkTrain via seq n r) s = .next t.calm ∧ (t.link n.toNat).rung = some 0 ∧ (t.link n.toNat).phase = 1 ∧ (t.link n.toNat).target = r.toNat ∧ t.get (F.OZ.LINK_STAT_STATE n.toNat) = 1 ∧
      t.get (F.OZ.LINK_CTRL_TARGET n.toNat) = r.toNat) ∧
  (∀ (p : Fin 3) (pass : Bool) (a b : Byte) (r : Nat),
    Happens (.trainingPhaseEnd p pass a b) (fun s => (s.link p).rung = none ∨ s.domOn 77 = false) Nothing ∧
    Happens (.trainingPhaseEnd p false a b) (fun s => s.domOn 77 = true ∧ (s.link p).rung = some r ∧ (s.link p).again = false ∧ (s.link p).good = none)
      (fun s t => (t.link p).rung = none ∧ (t.link p).result = some (0x79, max 1 ((s.link p).phase - 1)) ∧ t.get (F.OZ.LINK_STAT_STATE p) = 0 ∧
        t.get (F.OZ.LINK_STAT_LAST_FAIL p) = r % 2 ^ (F.OZ.LINK_STAT_LAST_FAIL p).wd ∧ t.get (F.OZ.TRAIN_FAILS p) = min (s.get (F.OZ.TRAIN_FAILS p) + 1) (2 ^ (F.OZ.TRAIN_FAILS p).wd - 1)) ∧
    (∀ g, Happens (.trainingPhaseEnd p false a b) (fun s => s.domOn 77 = true ∧ (s.link p).rung = some r ∧ (s.link p).again = false ∧ (s.link p).good = some g)
      (fun _ t => (t.link p).rung = some g ∧ (t.link p).again = true ∧ (t.link p).phase = 1)) ∧
    Happens (.trainingPhaseEnd p true a b) (fun s => s.domOn 77 = true ∧ (s.link p).rung = some r ∧ (s.link p).phase < 3) (fun s t => t = s.setLink p { s.link p with phase := (s.link p).phase + 1 }) ∧
    Happens (.trainingPhaseEnd p true a b) (fun s => s.domOn 77 = true ∧ (s.link p).rung = some r ∧ (s.link p).phase = 3 ∧ s.fomOk p a.toNat b.toNat = true)
      (fun s t => (t.link p).phase = 4 ∧ (t.link p).rung = some r ∧ t.get (F.OZ.LINK_STAT_FOM_TX p) = a.toNat ∧ t.get (F.OZ.LINK_STAT_STATE p) = s.get (F.OZ.LINK_STAT_STATE p)) ∧
    Happens (.trainingPhaseEnd p true a b) (fun s => s.domOn 77 = true ∧ (s.link p).rung = some r ∧ 3 < (s.link p).phase ∧ s.fomOk p a.toNat b.toNat = true ∧ (s.link p).target = r)
      (fun s t => (t.link p).rung = none ∧ (t.link p).result = some (0, 0) ∧ t.get (F.OZ.LINK_STAT_STATE p) = 2 ∧ t.get (F.OZ.LINK_STAT_RATE p) = r % 2 ^ (F.OZ.LINK_STAT_RATE p).wd ∧
        (t.link p).since = s.time.dev.toNat) ∧
    Happens (.trainingPhaseEnd p true a b) (fun s => s.domOn 77 = true ∧ (s.link p).rung = some r ∧ 3 < (s.link p).phase ∧ s.fomOk p a.toNat b.toNat = true ∧ (s.link p).target ≠ r ∧ (s.link p).again = false)
      (fun _ t => (t.link p).rung = some (r + 1) ∧ (t.link p).good = some r ∧ (t.link p).phase = 1)) ∧
  (∀ (p : Fin 3) (st d : Nat), Happens (.linkTrainComplete p) (fun s => (s.link p).result = some (st, d) ∧ s.runningTag 0x0600 = some p.val)
    (fun s t => t = (s.setLink p { s.link p with result := none }).complete 0x0600 st d (s.linkBlock p))) ∧
  (∀ p : Fin 3, Happens (.linkTrainComplete p) (fun s => (s.link p).result = none ∨ s.runningTag 0x0600 ≠ some p.val) Nothing) ∧
  (∀ p : Fin 3, let want := fun (s : State) => if (s.link p).fell then s.flag (F.OZ.LINK_CTRL_AUTO_RETRAIN p) else s.flag (F.OZ.LINK_CTRL_AUTO_START p)
    Happens (.autoRetrain p) (fun s => s.domOn 77 = true ∧ s.get (F.OZ.LINK_STAT_STATE p) = 0 ∧ want s = true ∧ (s.link p).result = none)
      (fun s t => t = s.beginLadder p (s.get (F.OZ.LINK_CTRL_TARGET p)) ∧ (t.link p).rung = some 0 ∧ t.get (F.OZ.LINK_STAT_STATE p) = 1) ∧
    Happens (.autoRetrain p) (fun s => s.domOn 77 = false ∨ s.get (F.OZ.LINK_STAT_STATE p) ≠ 0 ∨ want s = false ∨ (s.link p).result ≠ none) Nothing) ∧
  Happens .upstreamClockLoss (fun s => s.domOn 77 = true ∧ s.get (F.OZ.LINK_STAT_STATE 0) = 2)
    (fun s t => t.get (F.OZ.LINK_STAT_STATE 0) = 0 ∧ t.get (F.OZ.LINK_STAT_RATE 0) = 15 ∧ (t.link 0).fell = true ∧ t.get (F.OZ.LINK_STAT_FOM_RX 0) = 255 ∧
      t.get (F.OZ.RETRAINS 0) = min (s.get (F.OZ.RETRAINS 0) + 1) (2 ^ (F.OZ.RETRAINS 0).wd - 1) ∧ ∀ p : Fin 3, p ≠ 0 → t.link p = s.link p) ∧
  Happens .upstreamClockLoss (fun s => s.domOn 77 = false ∨ s.get (F.OZ.LINK_STAT_STATE 0) ≠ 2) Nothing ∧
  (∀ (p : Fin 3) (f : Byte), (p = 0 → Happens (.fomPublish p f) (fun s => s.linkUp 0 = true) (fun s t => t.get (F.OZ.LINK_STAT_FOM_RX 0) = f.toNat ∧ t.get (F.OZ.LANE_FOM 0 8) = f.toNat ∧
      (t.link 0).margin = decide (min (s.get (F.OZ.LINK_STAT_FOM_TX 0)) f.toNat < s.get (F.OZ.LINK_CTRL_FOM_WARN 0)))) ∧
    Happens (.fomPublish p f) (fun s => p ≠ 0 ∨ s.linkUp 0 = false) Nothing) ∧
  (∀ p : Fin 3, Happens (.vnauxFrameSend p) (fun s => p ≠ 0 ∧ s.domOn 77 = true ∧ s.get (F.OZ.LINK_STAT_STATE p) ≠ 0)
      (fun s t => ∃ r : List Byte, r.length = 45 ∧ u8 r 0 = 0x55 ∧ u32 r 41 = crc32c ((r.drop 1).take 40) ∧ t.out = .aux (p.val - 1) r :: s.out ∧ t.regs = s.regs ∧ t.links = s.links) ∧
    Happens (.vnauxFrameSend p) (fun s => p = 0 ∨ s.domOn 77 = false ∨ s.get (F.OZ.LINK_STAT_STATE p) = 0) Nothing) ∧
  (∀ (p : Fin 3) (b : Option (List Byte)), Happens (.vnauxReply p b) (fun s => p = 0 ∨ s.domOn 77 = false ∨ s.get (F.OZ.LINK_STAT_STATE p) = 0) Nothing ∧
    Happens (.vnauxReply p none) (fun s => p ≠ 0 ∧ s.domOn 77 = true ∧ s.get (F.OZ.LINK_STAT_STATE p) ≠ 0 ∧ (s.link p).rung = none)
      (fun s t => t = (s.setLink p { s.link p with miss := (s.link p).miss + 1 }).inc (F.OZ.AUX_ERR p))) ∧
  (∀ (p : Fin 3) (b : List Byte), b.length = 45 → u8 b 0 = 0x55 → u32 b 41 = crc32c ((b.drop 1).take 40) → (u8 b 8 ||| u8 b 12) / 16 % 2 = 0 →
    Happens (.vnauxReply p (some b)) (fun s => p ≠ 0 ∧ s.domOn 77 = true ∧ s.get (F.OZ.LINK_STAT_STATE p) = 2)
      (fun _ t => t.get (F.OZ.LINK_STAT_FOM_TX p) = min (u8 b 5) (u8 b 9) ∧ t.get (F.OZ.CRC_RX p) = u32 b 29 ∧ (t.link p).miss = 0 ∧ t.get (F.OZ.LINK_STAT_STATE p) = 2))

/-- R295 to R301, R308: blocks. Port H sends a DATA block of the stream whose turn it is, with data and credit, else IDLE; ports V their one stream. A CONTROL block carries the blocks sent of every stream. Of the upstream lane, a block that fails its CRC counts in CRC_RX and is otherwise
lost, a CONTROL block sets the credits, an IDLE block counts alone, and the packets that a DATA block completes are executed in order. A lane descrambles to what was scrambled. -/
def Obligations.OazilBlocks : Prop :=
  (∀ (r : Nat) (l : List Byte), scramble r (scramble r l) = l) ∧
  (∀ p : Fin 3, Happens (.blockSend p) (fun s => s.linkUp p = false) Nothing) ∧
  (∀ k : Nat, Happens (.blockSend 0) (fun s => s.linkUp 0 = true ∧ s.nextStream = some k)
    (fun s t => t.get (F.OZ.BLOCKS_SENT 0 k) = (s.get (F.OZ.BLOCKS_SENT 0 k) + 1) % 2 ^ 32 ∧ t.stream k = (takeBytes (s.stream k) 480).2.2 ∧ (t.link 0).bseq = ((s.link 0).bseq + 1) % 2 ^ 32 ∧
      t.out = .block 0 (onLanes 8 (oazilBlock 0xD2 k (bit (s.stream k).resync) (s.link 0).bseq s.time.dev ((s.stream k).bytes % 2 ^ 32) (takeBytes (s.stream k) 480).2.1 (takeBytes (s.stream k) 480).1)) :: s.out ∧
      ∀ j, j ≠ k → t.stream j = s.stream j)) ∧
  Happens (.blockSend 0) (fun s => s.linkUp 0 = true ∧ s.nextStream = none)
    (fun s t => t.out = .block 0 (onLanes 8 (oazilBlock 0x2D 0 0 (s.link 0).bseq s.time.dev 0 0xFFFF [])) :: s.out ∧ t.tx = s.tx ∧ (t.link 0).bseq = ((s.link 0).bseq + 1) % 2 ^ 32) ∧
  (∀ p : Fin 3, p ≠ 0 → Happens (.blockSend p) (fun s => s.linkUp p = true ∧ 0 < s.streamLevel (7 + p))
      (fun s t => t.stream (7 + p) = (takeBytes (s.stream (7 + p)) 480).2.2 ∧ (∃ b : List (List Byte), b.length = 2 ∧ t.out = .block p b :: s.out) ∧ ∀ j, j ≠ 7 + p.val → t.stream j = s.stream j) ∧
    Happens (.blockSend p) (fun s => s.linkUp p = true ∧ s.streamLevel (7 + p) = 0) (fun s t => (∃ b : List (List Byte), b.length = 2 ∧ t.out = .block p b :: s.out) ∧ t.tx = s.tx)) ∧
  (∀ k : Nat, ∀ s : State, s.nextStream = some k → k < 8 ∧ 0 < s.streamLevel k ∧ s.routed k = false ∧ s.get (F.OZ.CREDIT_LIMIT 0 k) ≠ s.get (F.OZ.BLOCKS_SENT 0 k)) ∧
  Happens .controlBlockSend (fun s => s.linkUp 0 = true) (fun s t => ∃ pay : List Byte, pay.length = 76 ∧ (∀ k : Fin 8, u32 pay (44 + 4 * k) = s.get (F.OZ.BLOCKS_SENT 0 k)) ∧
    t.out = .block 0 (onLanes 8 (oazilBlock 0xB4 0 0 (s.link 0).bseq s.time.dev 0 0xFFFF pay)) :: s.out ∧ t.tx = s.tx) ∧
  Happens .controlBlockSend (fun s => s.linkUp 0 = false) Nothing ∧
  (∀ (c : Instr) (lane : List Byte), c = .oazilUpstreamBlock lane ∨ c = .controlBlockReceived lane →
    Happens c (fun _ => True) (fun s t => t = (s.upBlock lane).1.foldl State.oazilPacket (s.upBlock lane).2) ∧
    Happens c (fun s => s.linkUp 0 = false) Nothing ∧
    (¬ (u32 lane 0 = 0x4F415A54 ∧ u8 lane 4 = 0x87) →
      (lane.length ≠ 512 ∨ u32 (scramble 0x7FFFFF lane) 508 ≠ crc32c ((scramble 0x7FFFFF lane).take 508) → Happens c (fun s => s.linkUp 0 = true ∧ (s.link 0).bad < 7 ∧ (s.link 0).crcTimes = [])
        (fun s t => (t.link 0).bad = (s.link 0).bad + 1 ∧ t.get (F.OZ.CRC_RX 0) = min (s.get (F.OZ.CRC_RX 0) + 1) (2 ^ (F.OZ.CRC_RX 0).wd - 1) ∧ t.cmd = s.cmd ∧ t.get (F.OZ.LINK_STAT_STATE 0) = 2)) ∧
      (lane.length = 512 → u32 (scramble 0x7FFFFF lane) 508 = crc32c ((scramble 0x7FFFFF lane).take 508) →
        (u8 (scramble 0x7FFFFF lane) 0 = 0x2D → Happens c (fun s => s.linkUp 0 = true) (fun s t => t = (s.setLink 0 { s.link 0 with bad := 0 }).inc (F.OZ.BLOCKS_RX 0))) ∧
        (u8 (scramble 0x7FFFFF lane) 0 = 0xB4 → u8 (scramble 0x7FFFFF lane) 28 % 4 = 1 → Happens c (fun s => s.linkUp 0 = true)
          (fun s t => t.cmd = s.cmd ∧ ∀ k : Fin 8, t.get (F.OZ.CREDIT_LIMIT 0 k) = u32 (scramble 0x7FFFFF lane) (32 + 4 * k)))))) ∧
  (∀ (s : State) (b : List Byte), s.hears .oazil = true → headerOk b = false → s.oazilPacket b = (s.inc F.CMD.HDR_ERR).settle)

/-- R310 to R312: Ethernet. NET_CONFIG sets the addresses after its reply and forgets the peers. A link at 1 Gb/s sets LINK; a change raises EV_ETH_LINK. ARP and ICMP echo requests for the device are answered, an ARP reply for the next hop is kept, a PAUSE holds the stream datagrams, a discarded frame
counts. A credit datagram from the stream destination sets the credits; a stream with data, credit and a resolved hop sends a datagram. -/
def Obligations.Ethernet : Prop :=
  (∀ via seq (ip mask gw : BitVec 32) (vlan : BitVec 16), ∀ s p u, Runs (.netConfig via seq ip mask gw vlan) s p u → u.domOn 78 = true →
    ∃ f : State → State, DoneThen (.netConfig via seq ip mask gw vlan) s p u [] f ∧ ∀ t : State, (f t).get F.ETH.IP_ADDR = ip.toNat ∧ (f t).get F.ETH.IP_MASK = mask.toNat ∧ (f t).get F.ETH.IP_GW = gw.toNat ∧
      (f t).get F.ETH.VLAN = vlan.toNat % 2 ^ F.ETH.VLAN.wd ∧ (f t).cmd.udp = [] ∧ (f t).cmd.spi = t.cmd.spi ∧ (f t).cmd.oazil = t.cmd.oazil ∧ (f t).eth.arp = [] ∧ (f t).cmd.outq = t.cmd.outq) ∧
  (∀ up gig : Bool, Happens (.ethLinkChange up gig) (fun s => s.domOn 78 = true)
    (fun s t => t.flag F.ETH.ETH_STAT_LINK = (up && gig) ∧ t.flag F.ETH.ETH_STAT_AN_DONE = up ∧ t.flag F.ETH.ETH_STAT_SPEED_ERR = (up && !gig) ∧
      ((up && gig) = false → t.eth = { s.eth with arp := [], pause := 0 }) ∧
      (s.flag F.ETH.ETH_STAT_LINK = true → up = true → gig = true → t.cmd = s.cmd))) ∧
  (∀ up gig : Bool, Happens (.ethLinkChange up gig) (fun s => s.domOn 78 = false) Nothing) ∧
  (∀ (ip target : BitVec 32) (mac : BitVec 48), Happens (.arpRequest ip mac target) (fun s => s.ethUp = true ∧ target.toNat = s.get F.ETH.IP_ADDR)
      (fun s t => t.out = .ether 1 mac.toNat (arpBody 2 s.mac target.toNat mac.toNat ip.toNat) :: s.out ∧ t.eth = s.eth ∧
        t.get F.ETH.RX_FRAMES = min (s.get F.ETH.RX_FRAMES + 1) (2 ^ F.ETH.RX_FRAMES.wd - 1) ∧ t.get F.ETH.TX_FRAMES = min (s.get F.ETH.TX_FRAMES + 1) (2 ^ F.ETH.TX_FRAMES.wd - 1)) ∧
    Happens (.arpRequest ip mac target) (fun s => s.ethUp = true ∧ target.toNat ≠ s.get F.ETH.IP_ADDR) (fun s t => t = s.inc F.ETH.RX_FRAMES) ∧
    Happens (.arpReplyRx ip mac) (fun s => s.ethUp = true ∧ ip.toNat = s.nextHop (s.get F.ETH.STREAM_DEST_IP))
      (fun s t => t = { s.inc F.ETH.RX_FRAMES with eth := { s.eth with arp := spSet (fun _ => 0) s.eth.arp ip.toNat mac.toNat } }) ∧
    Happens (.arpReplyRx ip mac) (fun s => s.ethUp = true ∧ ip.toNat ≠ s.nextHop (s.get F.ETH.STREAM_DEST_IP) ∧ ip.toNat ≠ s.get F.ETH.IP_GW) (fun s t => t = s.inc F.ETH.RX_FRAMES)) ∧
  (∀ (ip : BitVec 32) (i q : BitVec 16) (pay : List Byte),
    (pay.length ≤ 1472 → Happens (.icmpEchoRequest ip i q pay) (fun s => s.ethUp = true)
      (fun s t => t.eth = s.eth ∧ t.get F.ETH.ICMP_ECHO = min (s.get F.ETH.ICMP_ECHO + 1) (2 ^ F.ETH.ICMP_ECHO.wd - 1) ∧
        t.out = .ether 2 ip.toNat (zeros 2 ++ beBytes 2 (inetSum (zeros 4 ++ (beBytes 2 i.toNat ++ beBytes 2 q.toNat ++ pay))) ++ (beBytes 2 i.toNat ++ beBytes 2 q.toNat ++ pay)) :: s.out)) ∧
    (1472 < pay.length → Happens (.icmpEchoRequest ip i q pay) (fun s => s.ethUp = true) (fun s t => t = (s.inc F.ETH.RX_FRAMES).inc F.ETH.RX_DISCARD))) ∧
  (∀ q : BitVec 16, Happens (.pauseFrameRx q) (fun s => s.ethUp = true) (fun s t => t = { (s.inc F.ETH.RX_FRAMES).inc F.ETH.PAUSE_RX with eth := { s.eth with pause := s.time.dev.toNat + 512 * q.toNat } })) ∧
  Happens (.ethFrameDiscard true) (fun s => s.ethUp = true) (fun s t => t = s.inc F.ETH.RX_FCS_ERR) ∧
  Happens (.ethFrameDiscard false) (fun s => s.ethUp = true) (fun s t => t = (s.inc F.ETH.RX_FRAMES).inc F.ETH.RX_DISCARD) ∧
  (∀ (p : Peer) (b : List Byte), b.length = 32 → u8 b 0 = 2 → Happens (.creditDatagram p b) (fun s => s.ethUp = true ∧ p.ip.toNat = s.get F.ETH.STREAM_DEST_IP)
    (fun s t => t = { s with regs := t.regs } ∧ t.get F.ETH.CREDIT_RX = min (s.get F.ETH.CREDIT_RX + 1) (2 ^ F.ETH.CREDIT_RX.wd - 1) ∧ ∀ i : Fin 7, t.get (F.ETH.DCREDIT (i + 1)) = u32 b (4 + 4 * i))) ∧
  (∀ (p : Peer) (b : List Byte), Happens (.creditDatagram p b) (fun s => s.ethUp = true ∧ (b.length ≠ 32 ∨ u8 b 0 ≠ 2 ∨ p.ip.toNat ≠ s.get F.ETH.STREAM_DEST_IP)) (fun s t => t = s.inc F.ETH.RX_FRAMES)) ∧
  (∀ k : Fin 8, Happens (.streamDatagramSend k) (fun s => s.routeSync = s ∧ s.ethUp = true ∧ s.routed k = true ∧ 0 < s.streamLevel k ∧
      (let c := (s.get (F.ETH.DCREDIT k) + 2 ^ 32 - s.get (F.ETH.DGRAM_SENT k)) % 2 ^ 32
       1 ≤ c ∧ c ≤ 2 ^ 31) ∧ s.eth.pause ≤ s.time.dev.toNat ∧ spGet (fun _ => 0) s.eth.arp (s.nextHop (s.get F.ETH.STREAM_DEST_IP)) = 0)
    (fun s t => t = s.ethSend 1 (2 ^ 48 - 1) (arpBody 1 s.mac (s.get F.ETH.IP_ADDR) 0 (s.nextHop (s.get F.ETH.STREAM_DEST_IP))))) ∧
  (∀ k : Fin 8, Happens (.streamDatagramSend k) (fun s => s.routeSync = s ∧ s.ethUp = true ∧ s.routed k = true ∧ 0 < s.streamLevel k ∧
      (let c := (s.get (F.ETH.DCREDIT k) + 2 ^ 32 - s.get (F.ETH.DGRAM_SENT k)) % 2 ^ 32
       1 ≤ c ∧ c ≤ 2 ^ 31) ∧ s.eth.pause ≤ s.time.dev.toNat ∧ spGet (fun _ => 0) s.eth.arp (s.nextHop (s.get F.ETH.STREAM_DEST_IP)) ≠ 0)
    (fun s t => t.get F.ETH.DGRAM_TX = min (s.get F.ETH.DGRAM_TX + 1) (2 ^ F.ETH.DGRAM_TX.wd - 1) ∧
      ∃ d : List Byte, u8 d 0 = 1 ∧ u8 d 1 = k.val ∧ u32 d 4 = s.get (F.ETH.DGRAM_SENT k) ∧ d.drop 24 = (takeBytes (s.stream k) 1432).1 ∧
        t.out = .streamDatagram ⟨BitVec.ofNat 32 (s.get F.ETH.STREAM_DEST_IP), BitVec.ofNat 16 (s.get F.ETH.STREAM_DEST_PORT)⟩ d :: s.out)) ∧
  (∀ k : Fin 8, Happens (.streamDatagramSend k) (fun s => s.routeSync = s ∧ (s.ethUp = false ∨ s.routed k = false ∨ s.streamLevel k = 0)) Nothing)

/-! ### Time and the SYNC pin (chapter 13) -/

/-- R313 to R322: time and the SYNC pin. TIME_CONFIG sets the mode and, with SET, device time. A usable Sync disciplines the clock: within STEP_THRESH by the servo, above it by a step where time may step; Announce sets the grandmaster, peer delay the link delay and AS_CAPABLE; a missing Sync or Announce
leads to HOLDOVER. SYNC_CONFIG sets the role in READY; FILTER_SYNC restarts the decimators at an edge and completes; a follower counts pulses by their class and takes the error of each boundary while columns run. -/
def Obligations.TimeAndSync : Prop :=
  (∀ via seq (b : List Byte), b.length = 16 → u8 b 0 ≤ 2 → u8 b 1 ≤ 3 → u16 b 2 ≠ 0 → (u8 b 0 = 1 → u8 b 1 = 0) → (u8 b 1 / 2 % 2 = 1 → (intAt b 12 4).natAbs ≤ 500000) →
    Does (.timeConfig via seq b) (fun u => u.domOn 78 = true ∧ (u8 b 1 % 2 = 1 → u.pw.st = .scanning → u.time.dev.toNat ≤ u64 b 4)) (fun _ => [])
      (fun u t => t.get F.TB.TB_CTRL_MODE = u8 b 0 ∧ t.get F.TB.TB_CTRL_STEP_THRESH = u16 b 2 ∧ (u8 b 1 % 2 = 0 → t.time = u.time) ∧
        (u8 b 1 % 2 = 1 → t.time.dev = BitVec.ofNat 64 (u64 b 4) ∧ t.time.frac = 0) ∧ (u8 b 0 = 0 → t.tb.st = 0 ∧ t.tb.adj = 0) ∧ (u8 b 0 = 2 → t.tb.st = 3)) ∧
    (u8 b 1 % 2 = 1 → TurnsAway (.timeConfig via seq b) (fun u => u.domOn 78 = true ∧ u.pw.st = .scanning ∧ u64 b 4 < u.time.dev.toNat) 0x13 State.stateCode)) ∧
  (∀ (rx org : BitVec 64) (corr ratio log : Int),
    let o : State → Int := fun s => ((rx.toNat - s.get F.ETH.ETH_LAT_LAT_RX : Nat) : Int) * 2 ^ 16 - ((org.toNat : Int) * 2 ^ 16 + corr + s.get F.TB.MEAN_LINK_DELAY * 2 ^ 16)
    let big := fun (s : State) => decide ((s.get F.TB.TB_CTRL_STEP_THRESH : Int) * 1000 * 2 ^ 16 < (o s).natAbs)
    let ready := fun (s : State) => s.ethUp = true ∧ s.get F.TB.TB_CTRL_MODE = 1 ∧ s.flag F.TB.TB_STAT_GM_PRESENT = true ∧ s.flag F.TB.TB_STAT_AS_CAPABLE = true
    Happens (.gptpSync rx org corr ratio log true) (fun s => s.ethUp = false) Nothing ∧
    Happens (.gptpSync rx org corr ratio log false) (fun s => s.ethUp = true) (fun s t => t = ((s.inc F.ETH.RX_FRAMES).inc F.TB.SYNC_RX).inc F.TB.FOLLOWUP_MISS) ∧
    Happens (.gptpSync rx org corr ratio log true) (fun s => s.ethUp = true ∧ (s.get F.TB.TB_CTRL_MODE ≠ 1 ∨ s.flag F.TB.TB_STAT_GM_PRESENT = false ∨ s.flag F.TB.TB_STAT_AS_CAPABLE = false))
      (fun s t => t = (s.inc F.ETH.RX_FRAMES).inc F.TB.SYNC_RX) ∧
    Happens (.gptpSync rx org corr ratio log true) (fun s => ready s ∧ big s = false ∧ s.tb.st = 2)
      (fun s t => t.time = s.time ∧ t.tb.integ = (servo s.tb.integ (o s) ratio log).1 ∧ t.tb.adj = (servo s.tb.integ (o s) ratio log).2 ∧ t.get F.TB.OFFSET = unsigned 32 (sat32 (o s / 2 ^ 16))) ∧
    Happens (.gptpSync rx org corr ratio log true) (fun s => ready s ∧ big s = true ∧ (o s < 0 ∨ s.pw.st ≠ .scanning))
      (fun s t => t.time = s.time.ofFine (s.time.fine + -(o s) * 2 ^ 16) ∧ t.tb.st = 1 ∧ t.tb.integ = 0 ∧ t.get F.TB.STEPS = min (s.get F.TB.STEPS + 1) (2 ^ F.TB.STEPS.wd - 1)) ∧
    Happens (.gptpSync rx org corr ratio log true) (fun s => ready s ∧ big s = true ∧ 0 ≤ o s ∧ s.pw.st = .scanning)
      (fun s t => t.time = s.time ∧ t.tb.st = 1 ∧ t.tb.integ = 0 ∧ t.tb.adj = (servo 0 (o s) ratio log).2)) ∧
  (∀ (i o r l : Int), -500000 ≤ (servo i o r l).2 ∧ (servo i o r l).2 ≤ 500000) ∧
  (∀ b : List Byte, Happens (.gptpAnnounce b) (fun s => s.ethUp = true ∧ (b.length < 64 ∨ u8 b 0 % 16 ≠ 0xB ∨ u8 b 4 ≠ 0)) (fun s t => t = s.inc F.ETH.RX_FRAMES) ∧
    (64 ≤ b.length → u8 b 0 % 16 = 0xB → u8 b 4 = 0 →
      Happens (.gptpAnnounce b) (fun s => s.ethUp = true ∧ (s.tb.master = none ∨ ∃ k q, s.tb.master = some (k, q) ∧ (q = (b.drop 20).take 10 ∨ keyLess (announceKey b) k = true)))
        (fun s t => t.tb = { s.tb with master := some (announceKey b, (b.drop 20).take 10) } ∧ t.get F.TB.GM_ID_HI = u32 b 53 ∧ t.get F.TB.GM_ID_LO = u32 b 57 ∧ t.flag F.TB.TB_STAT_GM_PRESENT = true))) ∧
  Happens .pdelayExchange (fun s => s.ethUp = true ∧ s.tb.pdWait = false)
    (fun s t => t.tb = { s.tb with pdWait := true, pdSeq := (s.tb.pdSeq + 1) % 65536 } ∧ t.get F.TB.PDELAY_TX = min (s.get F.TB.PDELAY_TX + 1) (2 ^ F.TB.PDELAY_TX.wd - 1) ∧
      t.out = .ether 3 ptpDst (s.ptpHeader 2 0 ((s.tb.pdSeq + 1) % 65536) 0 ++ zeros 20) :: s.out) ∧
  Happens .pdelayExchange (fun s => s.ethUp = true ∧ s.tb.pdWait = true)
    (fun s t => t.flag F.TB.TB_STAT_AS_CAPABLE = false ∧ t.tb.pdOk = 0 ∧ t.tb.pdWait = true ∧ t.get F.TB.PDELAY_FAIL = min (s.get F.TB.PDELAY_FAIL + 1) (2 ^ F.TB.PDELAY_FAIL.wd - 1)) ∧
  (∀ q : List Byte, 34 ≤ q.length → Happens (.pdelayReqRx q) (fun s => s.ethUp = true)
    (fun s t => ∃ a b : List Byte, t.out = .ether 3 ptpDst b :: .ether 3 ptpDst a :: s.out ∧ a.length = 54 ∧ b.length = 54 ∧ u16 a 30 = u16 q 30 ∧ u16 b 30 = u16 q 30 ∧
      a.drop 44 = (q.drop 20).take 10 ∧ b.drop 44 = (q.drop 20).take 10 ∧ t.tb = s.tb)) ∧
  (∀ t1 t2 t3 t4 : BitVec 64, let d := fun (s : State) => ((t4.toNat - s.get F.ETH.ETH_LAT_LAT_RX - (t1.toNat + s.get F.ETH.ETH_LAT_LAT_TX)) - (t3.toNat - t2.toNat)) / 2
    Happens (.pdelayRespRx t1 t2 t3 t4) (fun s => s.ethUp = true ∧ s.tb.pdWait = true)
      (fun s t => t.tb.pdWait = false ∧ t.get F.TB.MEAN_LINK_DELAY = d s % 2 ^ F.TB.MEAN_LINK_DELAY.wd ∧ (s.get F.TB.PDELAY_THRESH < d s → t.flag F.TB.TB_STAT_AS_CAPABLE = false) ∧
        (d s ≤ s.get F.TB.PDELAY_THRESH → 2 ≤ s.tb.pdOk → t.flag F.TB.TB_STAT_AS_CAPABLE = true) ∧
        (d s ≤ s.get F.TB.PDELAY_THRESH → s.tb.pdOk < 2 → t.flag F.TB.TB_STAT_AS_CAPABLE = s.flag F.TB.TB_STAT_AS_CAPABLE)) ∧
    Happens (.pdelayRespRx t1 t2 t3 t4) (fun s => s.ethUp = false ∨ s.tb.pdWait = false) Nothing) ∧
  (∀ ann : Bool, Happens (.holdoverTimeout ann) (fun s => s.domOn 78 = true ∧ s.get F.TB.TB_CTRL_MODE = 1 ∧ (s.tb.st = 1 ∨ s.tb.st = 2))
      (fun _ t => t.tb.st = 3 ∧ t.get F.TB.TB_STAT_STATE = 3 ∧ (ann = true → t.tb.master = none ∧ t.flag F.TB.TB_STAT_GM_PRESENT = false)) ∧
    Happens (.holdoverTimeout ann) (fun s => s.domOn 78 = false) Nothing) ∧
  (∀ via seq (role : Byte) (ofs : BitVec 32), role.toNat ≤ 2 → Does (.syncConfig via seq role ofs) (fun u => u.pw.st = .ready) (fun _ => [])
      (fun u t => t.get F.SYN.SYNC_CTRL_ROLE = role.toNat ∧ t.get F.SYN.SLOT_OFFSET = ofs.toNat ∧ t.flag F.SYN.SYNC_STAT_LOCKED = false ∧ t = { u with regs := t.regs, sync := { u.sync with near := 0 } }) ∧
    TurnsAway (.syncConfig via seq role ofs) (fun u => u.pw.st ≠ .ready) 0x13 State.stateCode) ∧
  (∀ via seq, Starts (.filterSync via seq) (fun u => u.rangeBusy 0x0802 = false ∧ u.get F.SYN.SYNC_CTRL_ROLE = 2) 0 Nothing ∧
    Starts (.filterSync via seq) (fun u => u.rangeBusy 0x0802 = false ∧ u.get F.SYN.SYNC_CTRL_ROLE = 1 ∧ u.scan.phase = .running) 0 (fun u t => t = { u with sync := { u.sync with filter := true } }) ∧
    Starts (.filterSync via seq) (fun u => u.rangeBusy 0x0802 = false ∧ u.get F.SYN.SYNC_CTRL_ROLE = 1 ∧ u.scan.phase ≠ .running) 0 (fun u t => t = u.emit (.syncPulse 2)) ∧
    (∀ s p u, Runs (.filterSync via seq) s p u → u.rangeBusy 0x0802 = false → u.get F.SYN.SYNC_CTRL_ROLE = 0 →
      exec (.filterSync via seq) s = .next ((((u.start p.via p.op p.seq 0).sendReply p.via p.op p.seq (u.answer 1 0 []) (.accepted (u.answer 1 0 []))).hkSyncEdge).complete 0x0802 0 0 []).calm)) ∧
  Happens .filterSyncTimeout (fun _ => True) (fun s t => t = ({ s with sync := { s.sync with filter := false } } : State).complete 0x0802 0x7A 0 []) ∧
  Happens .hkSyncEdge (fun s => s.get F.SYN.SYNC_CTRL_ROLE ≠ 0) (fun s t => t = (s.hkSyncEdge).complete 0x0802 0 0 []) ∧
  Happens .hkSyncEdge (fun s => s.get F.SYN.SYNC_CTRL_ROLE = 0) Nothing ∧
  (∀ (w gap : Nat) (e : Int), Happens (.syncPulseRx w e gap) (fun s => s.get F.SYN.SYNC_CTRL_ROLE ≠ 2) Nothing ∧
    (w < 50 ∨ 600 < w → Happens (.syncPulseRx w e gap) (fun s => s.get F.SYN.SYNC_CTRL_ROLE = 2) (fun s t => t = s.inc F.SYN.PULSES_BAD)) ∧
    (50 ≤ w → w ≤ 150 → Happens (.syncPulseRx w e gap) (fun s => s.get F.SYN.SYNC_CTRL_ROLE = 2 ∧ s.scan.phase = .idle) (fun s t => t = (s.inc F.SYN.PULSES_COLUMN).set F.SYN.SYNC_STAT_SEEN 1)) ∧
    (50 ≤ w → w ≤ 150 → Happens (.syncPulseRx w e gap) (fun s => s.get F.SYN.SYNC_CTRL_ROLE = 2 ∧ s.scan.phase = .running)
      (fun s t => t.get F.SYN.ERR_E = unsigned 32 e ∧ t.sync.near = (if e.natAbs ≤ 4 then s.sync.near + 1 else 0) ∧ (4 < e.natAbs → t.flag F.SYN.SYNC_STAT_LOCKED = false) ∧
        (e.natAbs ≤ 4 → 63 ≤ s.sync.near → t.flag F.SYN.SYNC_STAT_LOCKED = true) ∧ t.get F.SYN.PULSES_COLUMN = min (s.get F.SYN.PULSES_COLUMN + 1) (2 ^ F.SYN.PULSES_COLUMN.wd - 1)))) ∧
  Happens .syncLost (fun s => s.get F.SYN.SYNC_CTRL_ROLE = 2 ∧ s.scan.phase = .running ∧ s.flag F.SYN.SYNC_STAT_LOST = false)
    (fun s t => ∃ x : State, t = x.raise EV_SYNC_LOST 0 0 ∧ x.flag F.SYN.SYNC_STAT_LOST = true ∧ x.flag F.SYN.SYNC_STAT_LOCKED = false ∧ SameRegs s x [F.SYN.SYNC_STAT_LOST.addr] ∧ x.sync.near = 0) ∧
  Happens .syncLost (fun s => s.get F.SYN.SYNC_CTRL_ROLE ≠ 2) Nothing ∧
  Happens .syncAbsentTimeout (fun s => s.get F.SYN.SYNC_CTRL_ROLE = 2 ∧ s.scan.phase = .settling ∧ s.sync.count ≠ none) (fun s t => t = s.settleFail 0x7A 0) ∧
  Happens .syncAbsentTimeout (fun s => s.get F.SYN.SYNC_CTRL_ROLE ≠ 2 ∨ s.scan.phase ≠ .settling) Nothing

/-! ### Memory (chapter 14) -/

/-- R327, R329, R331, R333, R335 to R338: the memory controller. A grant serves the first request of the order of R329, counts it, counts it as delayed past DLY_THR, and takes 64 bytes from the class 5 bucket for class 5; a link ECC error on it is
counted, and one that stays after the retry raises EV_MEM_ECC. A class 2 request that waited C2_WAIT is refused, counted and published. Self-refresh and deep sleep begin with no request waiting, and end with the time added; a LAT_CFG write that would let a request become urgent while the memory sleeps sets CFG_ERR alone. -/
def Obligations.Memory : Prop :=
  let awake := fun (s : State) => s.domOn 79 = true ∧ s.flag F.MEM.MEM_STAT_SR = false ∧ s.flag F.MEM.MEM_STAT_DEEP = false
  let counters := fun (c : Nat) => [(F.MEM.SERVED c).addr, (F.MEM.DELAYED c).addr]
  let served := fun (q : MemReq) (s t : State) =>
    t = { s with regs := t.regs, mem := t.mem } ∧ SameRegs s t (counters q.cls) ∧ t.mem.waits = takeReq q s.mem.waits ∧ t.get (F.MEM.SERVED q.cls) = min (s.get (F.MEM.SERVED q.cls) + 1) (2 ^ 32 - 1) ∧
      t.get (F.MEM.DELAYED q.cls) = (if s.get F.MEM.DLY_THR < s.time.dev.toNat - q.since then min (s.get (F.MEM.DELAYED q.cls) + 1) (2 ^ 32 - 1) else s.get (F.MEM.DELAYED q.cls)) ∧
      (q.cls ≠ 5 → t.mem.bucket = s.mem.bucket) ∧ (q.cls = 5 → t.mem.bucket = s.bucketNow - 64000)
  (∀ (ecc : Fin 3) (ch : Fin 2), Happens (.memGrant ecc ch) (fun s => s.domOn 79 = false ∨ s.flag F.MEM.MEM_STAT_SR = true ∨ s.flag F.MEM.MEM_STAT_DEEP = true ∨ s.nextGrant = none) Nothing) ∧
  (∀ (q : MemReq) (ch : Fin 2), q.cls ≤ 5 →
    Happens (.memGrant 0 ch) (fun s => awake s ∧ s.nextGrant = some q) (served q) ∧
    Happens (.memGrant 1 ch) (fun s => awake s ∧ s.nextGrant = some q) (fun s t => ∃ x : State, served q s x ∧ t = x.inc F.MEM.LECC_CE) ∧
    (q.cls = 0 ∨ q.cls = 3 ∨ q.cls = 4 →
      Happens (.memGrant 2 ch) (fun s => awake s ∧ s.nextGrant = some q) (fun s t => ∃ x : State, served q s x ∧ t = (x.inc F.MEM.LECC_UE).raise EV_MEM_ECC ch 0)) ∧
    (q.cls = 5 → Happens (.memGrant 2 ch) (fun s => awake s ∧ s.nextGrant = some q)
      (fun s t => ∃ x : State, served q s x ∧ t = ((x.inc F.MEM.LECC_UE).raise EV_MEM_ECC ch 0).memRefuse 5 q.src q.n)) ∧
    (q.cls = 1 → 0x10 ≤ q.src → q.src ≤ 0x11 → Happens (.memGrant 2 ch) (fun s => awake s ∧ s.nextGrant = some q)
      (fun s t => ∃ x : State, served q s x ∧ t = ((x.inc F.MEM.LECC_UE).raise EV_MEM_ECC ch 0).poisonLine (q.src - 0x10)))) ∧
  (∀ (s : State) (q : MemReq), s.mem.waits.find? (fun x => x.cls == 0) = some q → s.nextGrant = some q) ∧
  (∀ (s : State) (q : MemReq), s.mem.waits.all (fun x => 4 ≤ x.cls) = true → s.mem.waits.find? (fun x => x.cls == 4) = some q → s.nextGrant = some q) ∧
  (∀ q : MemReq, q.src < 0x20 ∨ 0x23 < q.src →
    Happens .class2WaitTimeout (fun s => s.mem.waits.find? (fun x => x.cls == 2) = some q)
      (fun s t => t = ({ s with mem := { s.mem with waits := s.mem.waits.erase q } } : State).memRefuse 2 q.src q.n)) ∧
  (∀ (q : MemReq) (k : Fin 2), q.src = 0x20 + k →
    Happens .class2WaitTimeout (fun s => s.mem.waits.find? (fun x => x.cls == 2) = some q ∧ (s.cam k).opened.isSome = true)
      (fun s t => ∃ x : State, x = ({ s with mem := { s.mem with waits := s.mem.waits.erase q } } : State).memRefuse 2 q.src q.n ∧ t = (x.inc (F.CAM.OVERFLOW k)).dropRest k 3)) ∧
  Happens .class2WaitTimeout (fun s => s.mem.waits.all (fun x => x.cls != 2) = true) Nothing ∧
  (∀ (s : State) (c src n : Nat), c ≤ 5 →
    (s.memRefuse c src n).get (F.MEM.REFUSED c) = min (s.get (F.MEM.REFUSED c) + n) (2 ^ 32 - 1) ∧ (s.memRefuse c src n).get F.MEM.SOURCE = src % 2 ^ F.MEM.SOURCE.wd ∧
      (s.memRefuse c src n).get F.MEM.CLASS = c ∧ (s.memRefuse c src n).mem.hold = (s.mem.hold || c == 5) ∧ (s.memRefuse c src n).dram = s.dram ∧ (s.memRefuse c src n).mem.waits = s.mem.waits) ∧
  Happens .class5RefusingEnd (fun _ => True) (fun s t => t = { s with mem := { s.mem with hold := false } }) ∧
  Happens .selfRefreshEntry (fun s => awake s ∧ s.mem.waits = [] ∧ s.flag F.MEM.MEM_CFG_SR_EN = true ∧ 1000 * s.get F.MEM.SR_CFG_SR_ENTER ≤ min (s.latTol 0) (s.latTol 1))
    (fun s t => t = { (s.set F.MEM.MEM_STAT_SR 1).inc F.MEM.SR_ENTRIES with mem := { s.mem with srSince := s.time.dev.toNat, exiting := false } }) ∧
  Happens .selfRefreshEntry (fun s => ¬ awake s ∨ s.mem.waits ≠ [] ∨ s.flag F.MEM.MEM_CFG_SR_EN = false ∨ min (s.latTol 0) (s.latTol 1) < 1000 * s.get F.MEM.SR_CFG_SR_ENTER) Nothing ∧
  Happens .deepSleepEntry (fun s => awake s ∧ s.mem.waits = [] ∧ s.flag F.MEM.MEM_CFG_DEEP_EN = true ∧ (∀ d : Fin 2, s.latTol d = 2 ^ 32 - 1 ∧ s.flag (F.CAM.CSI_STAT_RUN d) = false) ∧ s.pw.st ≠ .scanning)
    (fun s t => t = { (s.set F.MEM.MEM_STAT_DEEP 1).inc F.MEM.SR_ENTRIES with mem := { s.mem with srSince := s.time.dev.toNat, exiting := false } }) ∧
  Happens .deepSleepEntry (fun s => ¬ awake s ∨ s.mem.waits ≠ [] ∨ s.flag F.MEM.MEM_CFG_DEEP_EN = false ∨ (∃ d : Fin 2, s.latTol d ≠ 2 ^ 32 - 1 ∨ s.flag (F.CAM.CSI_STAT_RUN d) = true) ∨ s.pw.st = .scanning) Nothing ∧
  Happens .selfRefreshExit (fun s => (s.flag F.MEM.MEM_STAT_SR = true ∨ s.flag F.MEM.MEM_STAT_DEEP = true) ∧ (s.mem.waits ≠ [] ∨ min (s.latTol 0) (s.latTol 1) ≤ s.get F.MEM.LAT_CFG_SR_WAKE))
    (fun s t => t = { s with mem := { s.mem with exiting := true } }) ∧
  Happens .selfRefreshExit (fun s => (s.flag F.MEM.MEM_STAT_SR = false ∧ s.flag F.MEM.MEM_STAT_DEEP = false) ∨ (s.mem.waits = [] ∧ s.get F.MEM.LAT_CFG_SR_WAKE < min (s.latTol 0) (s.latTol 1))) Nothing ∧
  Happens .selfRefreshExitDone (fun s => s.mem.exiting = true)
    (fun s t => t = { s with regs := t.regs, mem := { s.mem with exiting := false } } ∧ SameRegs s t [F.MEM.MEM_STAT_SR.addr, F.MEM.SR_TIME.addr] ∧ t.flag F.MEM.MEM_STAT_SR = false ∧ t.flag F.MEM.MEM_STAT_DEEP = false ∧
      t.get F.MEM.SR_TIME = min (s.get F.MEM.SR_TIME + (s.time.dev.toNat - s.mem.srSince) / 1000) (2 ^ 32 - 1)) ∧
  Happens .selfRefreshExitDone (fun s => s.mem.exiting = false) Nothing ∧
  (∀ via seq (v : Word), let urgent := min 8000 (max 1000 (v.toNat % 65536))
    Writes (.latCfgWrite via seq v) F.MEM.LAT_CFG_SR_WAKE.addr 1 (fun u => v.toNat / 65536 < u.get F.MEM.SR_EXIT + urgent + 1000) (fun u t => t = u.set F.MEM.MEM_STAT_CFG_ERR 1) ∧
    Writes (.latCfgWrite via seq v) F.MEM.LAT_CFG_SR_WAKE.addr 1 (fun u => u.get F.MEM.SR_EXIT + urgent + 1000 ≤ v.toNat / 65536)
      (fun u t => OnlyRegs u t [F.MEM.LAT_CFG_SR_WAKE.addr] ∧ t.get F.MEM.LAT_CFG_LAT_URGENT = urgent))

/-! ### Commissioning (chapter 15) -/

/-- R50, R344, R356 to R360, R108: the locked configuration. COMMISSION_OPEN with the right credential opens the one session, under a number not 0 and not issued before; every try draws a new NONCE, and the third wrong credential within 60 s sets LOCKOUT.
The locked set runs only in its session: FIELD_WRITE and SAFETY_PARAM_WRITE change the staging copy alone, COMMISSION_COMMIT checks it and writes both flash copies, COMMISSION_ABORT and the timeout close the session. Region S loads its configuration once in a boot. -/
def Obligations.Commissioning : Prop :=
  let free := fun (u : State) => (u.pw.st = .ready ∨ u.pw.st = .safeHold) ∧ u.safe.session = none
  let mine := fun (u : State) (via : Port) (ses : Word) (x : SafeSession) => u.safe.session = some x ∧ x.port = via ∧ x.num = ses.toNat
  let staged := fun (u t : State) (x : SafeSession) (off : Nat) (b : List Byte) =>
    t = { u with safe := { u.safe with session := some { x with stage := x.stage.take off ++ b ++ x.stage.drop (off + b.length) } } }
  (∀ u : State, u.newNonce = { u with regs := u.newNonce.regs, free := u.free + 1 } ∧ SameRegs u u.newNonce [F.SAF.NONCE.addr] ∧ u.newNonce.get F.SAF.NONCE = Config.freeNat u.free % 2 ^ 32) ∧
  (∀ u : State, u.sessionNumber.1 ≠ 0 ∧ u.sessionNumber.1 ∉ u.safe.issued ∧ u.sessionNumber.2 = { u with free := u.free + 1 }) ∧
  (∀ via seq (cred : List Byte),
    Does (.commissionOpen via seq cred) (fun u => free u ∧ u.flag F.SAF.SAFE_STAT_LOCKOUT = false ∧ cred = u.credential) (fun u => beBytes 4 u.newNonce.sessionNumber.1)
      (fun u t => t = { u.newNonce.sessionNumber.2 with safe := { u.safe with
        session := some ⟨u.newNonce.sessionNumber.1, via, u.safe.cfg.getD safeBlank⟩, issued := u.safe.issued ++ [u.newNonce.sessionNumber.1] } }) ∧
    (∀ s p u, Runs (.commissionOpen via seq cred) s p u →
      (u.pw.st ≠ .ready → u.pw.st ≠ .safeHold → Refused (.commissionOpen via seq cred) s p u.newNonce 0x13 u.stateCode) ∧
      (u.pw.st = .ready ∨ u.pw.st = .safeHold → u.safe.session ≠ none → Refused (.commissionOpen via seq cred) s p u.newNonce 0x80 0) ∧
      (free u → u.flag F.SAF.SAFE_STAT_LOCKOUT = true → Refused (.commissionOpen via seq cred) s p u.newNonce 0x14 2) ∧
      (free u → u.flag F.SAF.SAFE_STAT_LOCKOUT = false → cred ≠ u.credential → Refused (.commissionOpen via seq cred) s p u.newNonce.credFail 0x14 2))) ∧
  (∀ s : State, let recent := (s.safe.fails.filter (fun f => decide (s.time.dev.toNat < f + 60 * 10 ^ 9))).length
    s.credFail.get F.SAF.CRED_FAIL = min (s.get F.SAF.CRED_FAIL + 1) (2 ^ 32 - 1) ∧ s.credFail.safe.session = s.safe.session ∧
      s.credFail.get F.SAF.SAFE_STAT_LOCKOUT = (if 2 ≤ recent then 1 else s.get F.SAF.SAFE_STAT_LOCKOUT)) ∧
  Happens .credentialLockoutEnd (fun _ => True) (fun s t => OnlyRegs s t [F.SAF.SAFE_STAT_LOCKOUT.addr] ∧ t.flag F.SAF.SAFE_STAT_LOCKOUT = false) ∧
  Happens .sessionTimeout (fun _ => True) (fun s t => t = { s with safe := { s.safe with session := none } }) ∧
  (∀ via seq (ses : Word), (∀ x, Does (.commissionAbort via seq ses) (fun u => mine u via ses x) (fun _ => []) (fun u t => t = { u with safe := { u.safe with session := none } })) ∧
    TurnsAway (.commissionAbort via seq ses) (fun u => ∀ x, ¬ mine u via ses x) 0x14 (fun _ => 1)) ∧
  (∀ via seq (ses : Word) (f n : Byte) (b : List Byte), b.length = 8 + 8 * n.toNat →
    (f.toNat ≤ 15 → 3 ≤ n.toNat → n.toNat ≤ 32 → u8 b 0 ≤ 1 → u8 b 3 = 0 →
      (fieldFault b n.toNat = 0 → ∀ x, Does (.fieldWrite via seq ses f n b) (fun u => mine u via ses x) (fun _ => [])
        (fun u t => staged u t x (360 + 268 * f.toNat) ([n, 0, 0, 0] ++ b ++ zeros (256 - 8 * n.toNat)))) ∧
      (fieldFault b n.toNat ≠ 0 → ∀ x, TurnsAway (.fieldWrite via seq ses f n b) (fun u => mine u via ses x) 0x81 (fun _ => fieldFault b n.toNat))) ∧
    (15 < f.toNat ∨ n.toNat < 3 ∨ 32 < n.toNat → ∀ x, TurnsAway (.fieldWrite via seq ses f n b) (fun u => mine u via ses x) 0x12 (fun _ => 1)) ∧
    TurnsAway (.fieldWrite via seq ses f n b) (fun u => ∀ x, ¬ mine u via ses x) 0x14 (fun _ => 1)) ∧
  (∀ via seq (ses v : Word) (k : BitVec 16),
    (k.toNat ∈ safeParams → safeParamOk k.toNat v.toNat = true → ∀ x, Does (.safetyParamWrite via seq ses k v) (fun u => mine u via ses x) (fun _ => [])
      (fun u t => staged u t x (28 + 8 * paramEntry k.toNat) (beBytes 4 v.toNat))) ∧
    (k.toNat ∉ safeParams → ∀ x, TurnsAway (.safetyParamWrite via seq ses k v) (fun u => mine u via ses x) 0x12 (fun _ => 1)) ∧
    (k.toNat ∈ safeParams → safeParamOk k.toNat v.toNat = false → ∀ x, TurnsAway (.safetyParamWrite via seq ses k v) (fun u => mine u via ses x) 0x12 (fun _ => 2)) ∧
    TurnsAway (.safetyParamWrite via seq ses k v) (fun u => ∀ x, ¬ mine u via ses x) 0x14 (fun _ => 1)) ∧
  (∀ via seq (ses crc : Word) (x : SafeSession),
    Starts (.commissionCommit via seq ses crc) (fun u => mine u via ses x ∧ crc.toNat = imgCrc x.stage ∧ u.commitFault x.stage = 0 ∧ u.rangeBusy 0x0704 = false) 0
      (fun u t => ∃ img : List Byte, t = { u with safe := { u.safe with commit := some img } } ∧
        (4648 ≤ x.stage.length → img.length = 4652 ∧ safeCopyOk img = true ∧ imgGen img = (max u.safeGens.1 u.safeGens.2 + 1) % 2 ^ 32 ∧ u64 img 16 = u.time.dev.toNat ∧ img.take 12 = x.stage.take 12 ∧
          (img.drop 24).take 4624 = (x.stage.drop 24).take 4624)) ∧
    TurnsAway (.commissionCommit via seq ses crc) (fun u => mine u via ses x ∧ crc.toNat ≠ imgCrc x.stage) 0x12 (fun _ => 1) ∧
    TurnsAway (.commissionCommit via seq ses crc) (fun u => mine u via ses x ∧ crc.toNat = imgCrc x.stage ∧ u.commitFault x.stage ≠ 0) 0x82 (fun u => u.commitFault x.stage) ∧
    TurnsAway (.commissionCommit via seq ses crc) (fun u => ∀ y, ¬ mine u via ses y) 0x14 (fun _ => 1)) ∧
  (∀ (copies : Fin 3) (img : List Byte), img.length = 4652 → Happens (.commissionCommitComplete copies) (fun s => s.safe.commit = some img)
    (fun s t => ∃ x : State, x = { s with regs := x.regs, flash := x.flash, free := x.free, safe := { s.safe with commit := none, session := none } } ∧
      t = (x.complete 0x0704 (if copies.val = 2 then 0 else 0x84) (if copies.val = 2 then 0 else copies.val + 1) []).raise EV_SAFETY_COMMIT 0 (if copies.val = 2 then 0 else 0x84) ∧
      SameRegs s x [F.SAF.SAFE_STAT_PENDING_REBOOT.addr] ∧ x.get F.SAF.SAFE_STAT_PENDING_REBOOT = (if copies.val = 2 then 1 else s.get F.SAF.SAFE_STAT_PENDING_REBOOT) ∧
      (∀ a, (a < safeAddr 0 ∨ safeAddr 0 + 4652 ≤ a) → (a < safeAddr 1 ∨ safeAddr 1 + 4652 ≤ a) → spGet flashDflt x.flash a = spGet flashDflt s.flash a) ∧
      (copies.val = 2 → x.safeCopy 0 = img ∧ x.safeCopy 1 = img) ∧ (copies.val = 1 → x.safeCopy 0 = img ∨ x.safeCopy 1 = img) ∧
      (copies.val = 0 → x.safeCopy 0 = s.safeCopy 0 ∨ x.safeCopy 1 = s.safeCopy 1))) ∧
  (∀ copies : Fin 3, Happens (.commissionCommitComplete copies) (fun s => s.safe.commit = none) Nothing) ∧
  Happens .regionSConfigLoad (fun s => s.safe.loaded = true) Nothing ∧
  Happens .regionSConfigLoad (fun s => s.safe.loaded = false ∧ safeCopyOk (s.safeCopy 0) = false ∧ safeCopyOk (s.safeCopy 1) = false)
    (fun s t => t.safe.loaded = true ∧ t.safe.cfg = none ∧ t.safe.built = false ∧ t.flag F.SAF.SAFE_STAT_CFG_COPY = false ∧ t.bitAt F.SAF.SAFE_FAULT_CAUSE 9 = true ∧
      (s.domOn 68 = true → t.bitAt F.SHT.EMIT_INHIBIT_SRC 5 = true)) ∧
  (∀ i : Fin 2, Happens .regionSConfigLoad (fun s => s.safe.loaded = false ∧ s.domOn 68 = true ∧ safeCopyOk (s.safeCopy i) = true ∧ limiterOk (s.safeCopy i) = true ∧
      (safeCopyOk (s.safeCopy (1 - i.val)) = false ∨ imgGen (s.safeCopy (1 - i.val)) < imgGen (s.safeCopy i)))
    (fun s t => t.safe.loaded = true ∧ t.safe.cfg = some (s.safeCopy i) ∧ t.safe.built = false ∧ t.flag F.SAF.SAFE_STAT_CFG_COPY = !safeCopyOk (s.safeCopy (1 - i.val)) ∧
      t.safe.geomOk = (imgParam (s.safeCopy i) 0x60 == crc32c s.calGeom) ∧ (t.safe.geomOk = false → t.bitAt F.SAF.SAFE_FAULT_CAUSE 9 = true) ∧ t.bitAt F.SHT.EMIT_INHIBIT_SRC 5 = false ∧
      t.flag F.LIM.LIM_CFG_CONFIGURED = true ∧ t.get F.LIM.LIM_MAX_MAX_TARGET = imgParam (s.safeCopy i) 0x103 ∧ t.get F.LIM.CELL_LIMIT_LO = imgParam (s.safeCopy i) 0x106)) ∧
  Happens .limitTableBuilt (fun s => s.safeConf = true) (fun s t => t = { s with safe := { s.safe with built := true } }) ∧
  Happens .limitTableBuilt (fun s => s.safeConf = false) Nothing

/-! ### Region S (chapter 15) -/

/-- R345 to R347, R349 to R354, R361: the cycle of Region S, the columns it judges and its record. After any cycle an output is ON or WAIT only with COND true, and drives a channel HIGH only in ON and outside that channel's test pulse; FAULT leads to OFF only by an accepted reset edge with
both readbacks low, and from WAIT an output switches ON only at such an edge. A reset edge is accepted only at the end of a high period of RST_MIN to RST_MAX. An input runs only with both channels HIGH. A test pulse waits behind a pending demand. A cause of invalid ranging violates every enabled field. -/
def Obligations.SafetyOutputs : Prop :=
  (∀ (pins : BitVec 32) (lane table : Bool),
    let accepted := fun (s : State) => decide (s.safe.srst = true ∧ pins.getLsbD 16 = false ∧ 100 * (s.safeParam 0x50 % 65536) ≤ s.safe.srstHigh ∧ s.safe.srstHigh ≤ 100 * (s.safeParam 0x50 / 65536))
    Happens (.regionSCycle pins lane table) (fun _ => True) (fun s t => SameMem s t ∧ t.shot = s.shot ∧ t.pw = s.pw ∧ t.safe.cfg = s.safe.cfg ∧ t.safe.built = s.safe.built ∧
      (lane = true → t.bitAt F.SAF.SAFE_FAULT_CAUSE 6 = true) ∧ (table = true → s.safe.built = true → t.bitAt F.SAF.SAFE_FAULT_CAUSE 8 = true) ∧
      t.safe.srst = pins.getLsbD 16 ∧
      t.get F.SAF.RESETS_ACCEPTED = (if accepted s then min (s.get F.SAF.RESETS_ACCEPTED + 1) (2 ^ 32 - 1) else s.get F.SAF.RESETS_ACCEPTED) ∧
      t.get F.SAF.RESETS_REJECTED = (if s.safe.srst = true ∧ pins.getLsbD 16 = false ∧ accepted s = false then min (s.get F.SAF.RESETS_REJECTED + 1) (2 ^ 32 - 1) else s.get F.SAF.RESETS_REJECTED) ∧
      (∀ o : Fin 4,
        (((t.safeOut o).st = .on ∨ (t.safeOut o).st = .wait) → t.cond o = true) ∧
        (t.safeOut o).a = ((t.safeOut o).st == .on && (t.safeOut o).pulseA == 0) ∧ (t.safeOut o).b = ((t.safeOut o).st == .on && (t.safeOut o).pulseB == 0) ∧
        ((s.safeOut o).st = .fault → (t.safeOut o).st = .fault ∨
          ((t.safeOut o).st = .off ∧ accepted s = true ∧ pins.getLsbD (24 + 2 * o.val) = false ∧ pins.getLsbD (25 + 2 * o.val) = false ∧ t.bitAt F.SAF.SAFE_OUT_RESET_REQ o = true)) ∧
        ((s.safeOut o).st = .wait → (t.safeOut o).st = .on → accepted s = true) ∧
        ((s.safeOut o).st = .off → (t.safeOut o).st = .on → (s.outCfg o).testBit 1 = false ∧ s.bitAt F.SAF.SAFE_OUT_RESET_REQ o = false)))) ∧
  (∀ (t : Nat) (x : InSt), ((inputNext t x).st = .run → x.a = true ∧ x.b = true) ∧ ((inputNext t x).a = x.a ∧ (inputNext t x).b = x.b) ∧
    (x.st = .fault → (inputNext t x).st = (if x.a = true ∨ x.b = true then .fault else .stop)) ∧
    (x.st = .run → x.a ≠ x.b → (inputNext t x).st = .discStop ∧ (inputNext t x).cycles = 0) ∧
    (x.st = .discStop ∨ x.st = .discRun → x.a ≠ x.b → t ≤ x.cycles + 1 → (inputNext t x).st = .fault ∨ (inputNext t x).st = .stop)) ∧
  (∀ (cfg n : Nat) (lv smp : Bool), (filterStep cfg lv n smp).1 ≠ lv → smp ≠ lv ∧ bitsOf cfg 8 8 ≤ n + 1 ∧ (lv = true → bitsOf cfg 16 8 ≤ n)) ∧
  (∀ (o : Fin 4) (chB : Bool), let left := fun (s : State) => if chB then (s.safeOut o).pulseB else (s.safeOut o).pulseA
    Happens (.testPulse o chB) (fun s => (s.safeOut o).st ≠ .on ∨ left s ≠ 0) Nothing ∧
    Happens (.testPulse o chB) (fun s => (s.safeOut o).st = .on ∧ left s = 0 ∧ s.pendingFor o = true) (fun s t => t = s.inc F.SAF.TP_SKIPPED) ∧
    Happens (.testPulse o chB) (fun s => (s.safeOut o).st = .on ∧ left s = 0 ∧ s.pendingFor o = false)
      (fun s t => t = { s with safe := { s.safe with outs := t.safe.outs } } ∧ (∀ j : Fin 4, j ≠ o → t.safeOut j = s.safeOut j) ∧ (t.safeOut o).st = .on ∧
        (if chB then (t.safeOut o).b = false ∧ (t.safeOut o).a = (s.safeOut o).a ∧ (t.safeOut o).pulseB = (s.safeParam (0x40 + o) % 65536 + 9) / 10
          else (t.safeOut o).a = false ∧ (t.safeOut o).b = (s.safeOut o).b ∧ (t.safeOut o).pulseA = (s.safeParam (0x40 + o) % 65536 + 9) / 10))) ∧
  Happens .columnTimeout (fun s => s.pw.st = .scanning) (fun s t => t = s.setInvalid (s.get F.SAF.SAFE_INVALID_CAUSE ||| 16)) ∧
  Happens .columnTimeout (fun s => s.pw.st ≠ .scanning) Nothing ∧
  (∀ i : Fin 8, (i.val < 4 → Happens (.rangingInvalidCause i) (fun s => s.invalidNow.testBit i = true) (fun s t => t = s.setInvalid (s.get F.SAF.SAFE_INVALID_CAUSE ||| 2 ^ i.val)) ∧
      Happens (.rangingInvalidCause i) (fun s => s.invalidNow.testBit i = false) Nothing) ∧
    (i.val = 5 ∨ i.val = 6 → Happens (.rangingInvalidCause i) (fun _ => True) Nothing) ∧
    (4 ≤ i.val → Happens (.rangingInvalidCause i) (fun s => s.pw.st ≠ .scanning) Nothing)) ∧
  (∀ (s : State) (c : Nat), c < 256 → (s.setInvalid c).get F.SAF.SAFE_INVALID_CAUSE = c ∧
    ((∃ i < 8, c.testBit i = true ∧ (s.get F.SAF.SAFE_INVALID_CAUSE).testBit i = false) → (s.setInvalid c).safe.frameOk = false ∧ ∀ f : Fin 16, s.fieldOn f = true → (s.setInvalid c).bitAt F.SAF.SAFE_FIELD_VIOL f = true) ∧
    ((∀ i < 8, c.testBit i = true → (s.get F.SAF.SAFE_INVALID_CAUSE).testBit i = true) → OnlyRegs s (s.setInvalid c) [F.SAF.SAFE_INVALID_CAUSE.addr])) ∧
  Happens .safetyColumnEval (fun s => s.ps.cols.all (fun k => k.judged || !(s.partsMissing k).isEmpty) = true) Nothing ∧
  (∀ k : ColInfo, Happens .safetyColumnEval (fun s => s.ps.cols.find? (fun j => !j.judged && (s.partsMissing j).isEmpty) = some k ∧ s.safe.built = false)
    (fun s t => t = s.onCol k.c (fun j => { j with judged := true }))) ∧
  (∀ k : ColInfo, Happens .safetyColumnEval (fun s => s.ps.cols.find? (fun j => !j.judged && (s.partsMissing j).isEmpty) = some k ∧ s.safe.built = true)
    (fun s t => t.safe.prev = some k.c ∧ t.safe.evals = s.safe.evals + 1 ∧ t.get F.SAF.COLS_EVAL = min (s.get F.SAF.COLS_EVAL + 1) (2 ^ 32 - 1) ∧
      t.get F.SAF.SAFE_INVALID_CAUSE = (s.get F.SAF.SAFE_INVALID_CAUSE &&& 0x8F) ||| (if ∃ p, s.safe.prev = some p ∧ k.c ≠ p + 1 then 32 else 0) ||| (if s.angleCell k = none then 64 else 0) ∧
      (∀ f : Fin 16, s.fieldOn f = false → t.bitAt F.SAF.SAFE_FIELD_VIOL f = s.bitAt F.SAF.SAFE_FIELD_VIOL f) ∧
      (∀ f : Fin 16, s.fieldOn f = true → ∀ n, s.angleCell k = some n → s.columnHits f n k = true →
        u8 s.safeImg (fieldOff f + 6) ≤ (spGet (fun _ => FieldSt.init) s.safe.fields f).run + 1 → t.bitAt F.SAF.SAFE_FIELD_VIOL f = true) ∧ SameMem s t)) ∧
  Happens .safetyStatusRecord (fun _ => True)
    (fun s t => ∃ x : State, ∃ r : List Byte, x = s.memUse 0 0 52 ∧ t = x.txPut 7 r ∧ r.length = 52 ∧ u8 r 0 = 0x80 ∧ u32 r 4 = 52 ∧ u64 r 8 = s.time.dev.toNat ∧
      (r.drop 16).take 32 = s.safetyBlock ∧ u32 r 48 = crc32c (r.take 48))

/-! ### Housekeeping (chapter 16) -/

/-- R141, R366 to R371, R373 to R376, R379, R381, R383, R384: housekeeping. A converter start leads to round 0 at slot 0; rounds alternate plain and test; each enabled slot's conversion is published under its slot, and an NTC result then reaches the governor; an open NTC or a failed check shows in its result; an urgent conversion completes
HK_URGENT with VALUE and INFO. HK_CONFIG is judged field by field and for its six inputs, AUXOUT_SET and TIA_RANGE as they say; a TIA word is suppressed while the channel settles, delivered limited to 24 bits otherwise; a restart begins at a boundary; the window monitor's source toggles with LEVEL taken. -/
def Obligations.Housekeeping : Prop :=
  let count := fun (s t : State) (f : Fld) => t.get f = min (s.get f + 1) (2 ^ f.wd - 1)
  Happens .hkConverterStart (fun s => s.domOn 65 = true ∧ s.flag F.HK.HK_STAT_STARTING = true ∧ s.hk.block = none ∧ s.hk.urgent = none ∧ s.flag F.HK.HK_CFG_CONV_EN = true)
    (fun s t => t.flag F.HK.HK_STAT_STARTING = false ∧ t.flag F.HK.HK_STAT_RUNNING = true ∧ t.get F.HK.ROUNDS = 0 ∧ t.flag F.HK.HK_STAT_TEST_ROUND = false ∧ t.hkSlot = 0 ∧ t.hk.between = false ∧
      SameRegs s t [F.HK.HK_STAT_SLOT.addr, F.HK.ROUNDS.addr] ∧ t = { s with regs := t.regs, hk := t.hk }) ∧
  Happens .hkConverterStart (fun s => s.domOn 65 = false ∨ s.flag F.HK.HK_STAT_STARTING = false) Nothing ∧
  Happens .hkRoundStart (fun s => s.domOn 65 = true ∧ s.hk.between = true ∧ s.flag F.HK.HK_STAT_RUNNING = true ∧ s.hk.block = none ∧ s.hk.urgent = none ∧ s.flag F.HK.HK_CFG_CONV_EN = true)
    (fun s t => t.flag F.HK.HK_STAT_TEST_ROUND = !s.flag F.HK.HK_STAT_TEST_ROUND ∧ t.hkSlot = 0 ∧ t.hk.between = false ∧ SameRegs s t [F.HK.HK_STAT_SLOT.addr] ∧ t = { s with regs := t.regs, hk := t.hk }) ∧
  (∀ b : List Byte, b.length = 64 → Happens .hkRoundStart (fun s => s.domOn 65 = true ∧ s.hk.between = true ∧ s.flag F.HK.HK_STAT_RUNNING = true ∧ s.hk.block = some b ∧ s.hk.urgent = none ∧ u8 b 2 % 2 = 1)
    (fun _ t => t.hk.block = none ∧ t.get F.HK.HK_CFG_F_INT = u16 b 0 ∧ t.flag F.HK.HK_STAT_TEST_ROUND = false ∧ t.hkSlot = 0 ∧
      ∀ n : Fin 16, t.get (F.HK.HK_SLOT_CFG_INPUT n) = u8 b (8 + 3 * n) ∧ t.flag (F.HK.HK_SLOT_CFG_EN n) = (u8 b (9 + 3 * n)).testBit 7 ∧ t.get (F.HK.HK_SLOT_CFG_CURVE n) = u8 b (9 + 3 * n) % 16)) ∧
  Happens .hkRoundStart (fun s => s.domOn 65 = false ∨ (s.hk.between = false ∧ (s.flag F.HK.HK_STAT_RUNNING = true ∨ s.flag F.HK.HK_STAT_STARTING = true))) Nothing ∧
  Happens .hkRoundStart (fun s => s.domOn 65 = true ∧ s.flag F.HK.HK_STAT_RUNNING = false ∧ s.flag F.HK.HK_STAT_STARTING = false) (fun s t => t = s.hkUnserved) ∧
  (∀ code : Int, -2 ^ 31 ≤ code → code < 2 ^ 31 → let going := fun (s : State) => s.domOn 65 = true ∧ s.flag F.HK.HK_STAT_RUNNING = true ∧ s.hk.between = false ∧ s.hk.inUrgent = false
    Happens (.hkConversionEnd code) (fun s => ¬ going s) Nothing ∧
    Happens (.hkConversionEnd code) (fun s => going s ∧ s.hkSlot < 15 ∧ s.flag (F.HK.HK_SLOT_CFG_EN s.hkSlot) = false) (fun s t => t = s.hkNext (s.hkSlot + 1)) ∧
    Happens (.hkConversionEnd code) (fun s => going s ∧ s.flag (F.HK.HK_SLOT_CFG_EN s.hkSlot) = true) (fun s t =>
      let n := s.hkSlot
      let i := s.get (F.HK.HK_SLOT_CFG_INPUT n)
      ∃ x : State, t = (if i < 4 then (x.ntcEval i).illNtc i else x) ∧ x.getI (F.HK.SLOT_RAW n) = code ∧ x.getI F.HK.RAW = code ∧ x.getI (F.HK.SLOT_VALUE n) = x.getI F.HK.VALUE ∧
        x.get (F.HK.SLOT_TIME_LO n) = s.time.dev.toNat % 2 ^ 32 ∧ x.get F.HK.HK_DATA_INFO_SLOT = n ∧ x.get F.HK.HK_DATA_INFO_INPUT = i ∧ count s x F.HK.CONVERSIONS ∧ x.hk.between = (n == 15) ∧
        (n < 15 → s.hk.urgent = none → x.hkSlot = n + 1) ∧ (n = 15 → count s x F.HK.ROUNDS) ∧ (∀ m : Fin 16, m.val ≠ n → x.rd (F.HK.SLOT_RAW m).addr = s.rd (F.HK.SLOT_RAW m).addr) ∧
        (i < 4 → 995 * 2 ^ 22 ≤ 1000 * code → x.bitAt F.HK.SENSOR_STAT_OPEN i = true ∧ (s.get (F.HK.HK_SLOT_CFG_CURVE n) ≠ 15 → x.getI F.HK.VALUE = 2400)) ∧
        (i = 0x18 → 2097 < code.natAbs → x.flag F.HK.HK_STAT_CONV_FAULT = true ∧ (s.flag F.HK.HK_STAT_CONV_FAULT = false → count s x F.HK.CONV_FAULTS)) ∧
        (4 ≤ i → s.get (F.HK.HK_SLOT_CFG_CURVE n) ≠ 14 → x.getI F.HK.VALUE = code)) ∧
    Happens (.hkUrgentComplete code) (fun s => s.domOn 65 = false ∨ s.hk.urgent = none ∨ s.hk.inUrgent = false) Nothing ∧
    (∀ n < 16, Happens (.hkUrgentComplete code) (fun s => s.domOn 65 = true ∧ s.hk.urgent = some n ∧ s.hk.inUrgent = true) (fun s t => ∃ x y : State,
      y = (x.complete 0x0801 0 0 (wordBytes [x.rd F.HK.VALUE.addr, x.rd F.HK.HK_DATA_INFO_SLOT.addr])).hkBegin s.hk.due false ∧
      t = (if s.get (F.HK.HK_SLOT_CFG_INPUT n) < 4 then (y.ntcEval (s.get (F.HK.HK_SLOT_CFG_INPUT n))).illNtc (s.get (F.HK.HK_SLOT_CFG_INPUT n)) else y) ∧
      x.hk.urgent = none ∧ x.flag F.HK.HK_STAT_URGENT_PEND = false ∧ x.getI (F.HK.SLOT_RAW n) = code ∧ x.get F.HK.HK_DATA_INFO_SLOT = n ∧ count s x F.HK.URGENT_DONE))) ∧
  Happens .ntcComparatorTrip (fun s => s.domOn 65 = true ∧ s.flag F.HK.HK_STAT_RUNNING = true ∧ s.hk.between = false ∧ s.hk.inUrgent = false ∧ s.flag (F.HK.HK_SLOT_CFG_EN s.hkSlot) = true ∧
      s.get (F.HK.HK_SLOT_CFG_INPUT s.hkSlot) < 4) (fun s t => t = { s with hk := { s.hk with trip := true } }) ∧
  Happens .ntcComparatorTrip (fun s => s.flag F.HK.HK_STAT_RUNNING = false ∨ s.hk.between = true ∨ (s.hk.inUrgent = false ∧ 4 ≤ s.get (F.HK.HK_SLOT_CFG_INPUT s.hkSlot))) Nothing ∧
  (∀ via seq (b : List Byte), b.length = 64 →
    ((hkBlockBad b).all (fun e => !e.1) = true → hkMissing b = none →
      Does (.hkConfig via seq b) (fun u => (u8 b 2 = 1 ∨ u.pw.st ≠ .scanning) ∧ (u.flag F.HK.HK_STAT_RUNNING = true ∨ u.flag F.HK.HK_STAT_STARTING = true)) (fun _ => [])
        (fun u t => t = { u with hk := { u.hk with block := some b } }) ∧
      (u8 b 2 = 1 → Does (.hkConfig via seq b) (fun u => u.flag F.HK.HK_STAT_RUNNING = false ∧ u.flag F.HK.HK_STAT_STARTING = false) (fun _ => [])
        (fun u t => t = { u with regs := t.regs, hk := { u.hk with block := none } } ∧ t.get F.HK.HK_CFG_F_INT = u16 b 0 ∧ t.flag F.HK.HK_CFG_CONV_EN = true ∧ t.flag F.HK.HK_STAT_STARTING = true)) ∧
      (u8 b 2 = 0 → TurnsAway (.hkConfig via seq b) (fun u => u.pw.st = .scanning) 0x13 State.stateCode)) ∧
    (∀ i, (hkBlockBad b).all (fun e => !e.1) = true → hkMissing b = some i → TurnsAway (.hkConfig via seq b) (fun u => u.pw.st ≠ .scanning) 0x88 (fun _ => i)) ∧
    (∀ o, (hkBlockBad b).find? (fun e => e.1) = some (true, o) → TurnsAway (.hkConfig via seq b) (fun u => u.pw.st ≠ .scanning) 0x12 (fun _ => o / 4))) ∧
  (∀ via seq (n : Byte), n.toNat ≤ 15 →
    Starts (.hkUrgent via seq n) (fun u => u.flag F.HK.HK_CFG_CONV_EN = true ∧ u.flag F.HK.HK_STAT_STARTING = false ∧ u.flag (F.HK.HK_SLOT_CFG_EN n.toNat) = true ∧ u.rangeBusy 0x0801 = false) 0
      (fun u t => t = ({ u with hk := { u.hk with urgent := some n.toNat } } : State).set F.HK.HK_STAT_URGENT_PEND 1) ∧
    TurnsAway (.hkUrgent via seq n) (fun u => u.flag F.HK.HK_CFG_CONV_EN = false ∨ u.flag F.HK.HK_STAT_STARTING = true) 0x89 (fun _ => 0) ∧
    TurnsAway (.hkUrgent via seq n) (fun u => u.flag F.HK.HK_CFG_CONV_EN = true ∧ u.flag F.HK.HK_STAT_STARTING = false ∧ u.flag (F.HK.HK_SLOT_CFG_EN n.toNat) = false) 0x8A (fun _ => n.toNat)) ∧
  (∀ via seq (v : Word), v.toNat < 65536 → Does (.auxoutSet via seq v) (fun u => u.auxOwned = false ∧ u.auxHeld = false) (fun _ => [])
      (fun u t => t = { u with regs := t.regs, hk := { u.hk with auxMoved := u.hk.auxMoved || v.toNat != u.get F.HK.CODE } } ∧ SameRegs u t [F.HK.CODE.addr] ∧ t.get F.HK.CODE = v.toNat) ∧
    TurnsAway (.auxoutSet via seq v) (fun u => u.auxOwned = true ∨ u.auxHeld = true) 0x13 State.stateCode) ∧
  (∀ via seq (c r : Byte), (c.toNat ≤ 3 → r.toNat ≤ 5 → Does (.tiaRange via seq c r) (fun _ => True) (fun _ => [])
      (fun u t => t.get (F.TIA.TIA_CFG_RANGE c.toNat) = r.toNat ∧ SameRegs u t [(F.TIA.TIA_CFG_RANGE c.toNat).addr] ∧
        t.tia c.toNat = (if u.flag (F.TIA.TIA_CFG_EN c.toNat) = true then { u.tia c.toNat with pend := true } else u.tia c.toNat) ∧ t = { u with regs := t.regs, hk := { u.hk with tias := t.hk.tias } })) ∧
    (3 < c.toNat ∨ 5 < r.toNat → TurnsAway (.tiaRange via seq c r) (fun _ => True) 0x12 (fun _ => 0))) ∧
  (∀ (c : Fin 4) (code : Int), let calm := fun (s : State) => s.hk.litPend = none ∧ (s.tia c).pend = false
    Happens (.tiaWord c code) (fun s => s.domOn 65 = false ∨ (calm s ∧ (s.tia c).run = false)) Nothing ∧
    Happens (.tiaWord c code) (fun s => s.domOn 65 = true ∧ calm s ∧ (s.tia c).run = true ∧ 0 < (s.tia c).left)
      (fun s t => t = { s with regs := t.regs, hk := { s.hk with tias := t.hk.tias } } ∧ t.tia c = { s.tia c with left := (s.tia c).left - 1, sample := (s.tia c).sample + 1 } ∧
        SameRegs s t [(F.TIA.SUPPRESSED c).addr, (F.TIA.TIA_STAT_SETTLING c).addr] ∧ count s t (F.TIA.SUPPRESSED c) ∧ ((s.tia c).left = 1 → t.flag (F.TIA.TIA_STAT_SETTLING c) = false)) ∧
    Happens (.tiaWord c code) (fun s => s.domOn 65 = true ∧ calm s ∧ (s.tia c).run = true ∧ (s.tia c).left = 0)
      (fun s t => let v := max (-(2 ^ 23 - 1)) (min code (2 ^ 23 - 1))
        t.getI (F.TIA.VALUE c) = v ∧ t.flag (F.TIA.TIA_STAT_OVL c) = decide (8220836 ≤ v.natAbs) ∧ t.get (F.TIA.SAMPLE c) = (if (s.tia c).zero then 0 else (s.tia c).sample) % 2 ^ 32 ∧
        (t.get (F.TIA.FLAGS c)).testBit 0 = (s.tia c).first ∧ (t.tia c).first = false ∧ (t.tia c).half = some v ∧ t.get (F.TIA.TIME_LO c) = s.time.dev.toNat % 2 ^ 32 ∧
        (s.flag (F.TIA.TIA_CFG_AUTO_RANGE c) = true → 8220836 ≤ v.natAbs → 7 ≤ (s.tia c).ovl → (s.tia c).range < 5 → s.flag (F.TIA.TIA_CFG_EN c) = true →
          t.get (F.TIA.TIA_CFG_RANGE c) = (s.tia c).range + 1 ∧ (t.tia c).pend = true)) ∧
    Happens (.tiaWord c code) (fun s => s.domOn 65 = true ∧ s.hk.litPend = none ∧ (s.tia c).run = false ∧ (s.tia c).pend = true)
      (fun s t => (t.tia c).run = true ∧ (t.tia c).left = tiaSettling (s.get (F.TIA.TIA_CFG_PRESET c)) - 1 ∧ (t.tia c).first = true ∧ (t.tia c).pend = false ∧ (t.tia c).range = s.get (F.TIA.TIA_CFG_RANGE c) ∧
        t.flag (F.TIA.TIA_STAT_SETTLING c) = true ∧ count s t (F.TIA.RESTARTS c) ∧ SameRegs s t [(F.TIA.RESTARTS c).addr, (F.TIA.TIA_STAT_SETTLING c).addr])) ∧
  Happens .wmSourceToggle (fun s => s.domOn 65 = true ∧ s.flag F.HK.WM_CTRL_AUTO = true)
    (fun s t => t.hk.lit = !s.hk.lit ∧ t.flag F.HK.WM_CTRL_SRC = !s.hk.lit ∧ t.hk.litPend = none ∧
      ∀ c : Fin 4, s.flag (F.TIA.TIA_CFG_ROLE c) = true → (t.tia c).half = none ∧ (s.hk.lit = true → (t.tia c).lit = (s.tia c).half) ∧
        (s.hk.lit = false → ∀ a b : Int, (s.tia c).lit = some a → (s.tia c).half = some b → t.get (F.HK.LEVEL c) = unsigned 32 (a - b)) ∧
        (s.flag (F.TIA.TIA_CFG_EN c) = true → (t.tia c).pend = true ∨ ((t.tia c).left = tiaSettling (s.get (F.TIA.TIA_CFG_PRESET c)) - 1 ∧ s.wmLead = some c.val))) ∧
  Happens .wmSourceToggle (fun s => s.domOn 65 = false ∨ s.flag F.HK.WM_CTRL_AUTO = false) Nothing ∧
  (∀ via seq (c : Fin 4) (v : Word), (v.toNat.testBit 31 = false → Writes (.tiaCfgWrite via seq c v) (F.TIA.TIA_CFG_EN c).addr 1 (fun _ => True)
      (fun _ t => t.flag (F.TIA.TIA_CFG_EN c) = false ∧ (t.tia c).run = false ∧ (t.tia c).pend = false ∧ t.flag (F.TIA.TIA_STAT_SETTLING c) = false)) ∧
    (v.toNat.testBit 31 = true → Writes (.tiaCfgWrite via seq c v) (F.TIA.TIA_CFG_EN c).addr 1 (fun u => u.flag (F.TIA.TIA_CFG_EN c) = false)
      (fun u t => t.flag (F.TIA.TIA_CFG_EN c) = true ∧ t.tia c = { u.tia c with pend := true, pendZero := true }))) ∧
  (∀ via seq (v : Word), (v.toNat.testBit 1 = true → Writes (.wmCtrlWrite via seq v) F.HK.WM_CTRL_AUTO.addr 1 (fun _ => True)
      (fun u t => OnlyRegs u t [F.HK.WM_CTRL_AUTO.addr] ∧ t.flag F.HK.WM_CTRL_AUTO = true ∧ t.get F.HK.WM_CTRL_SRC = u.get F.HK.WM_CTRL_SRC)) ∧
    (v.toNat.testBit 1 = false → Writes (.wmCtrlWrite via seq v) F.HK.WM_CTRL_AUTO.addr 1 (fun u => u.wmLead ≠ none)
      (fun u t => t.flag F.HK.WM_CTRL_AUTO = false ∧ t.flag F.HK.WM_CTRL_SRC = v.toNat.testBit 0 ∧ t.hk.lit = u.hk.lit ∧ t.hk.litPend = (if v.toNat.testBit 0 = u.hk.lit then none else some (v.toNat.testBit 0)))))

/-! ### Thermal management and calibration (chapter 17) -/

/-- R387 to R391, R395, R396: the hubs read their diodes, leave faulted ones out and publish the hottest; a sensor's rank rises when two evaluations running lie above a threshold and falls by at most one an evaluation; LEVEL, WARN and GOVERN follow the highest rank; a hub at SHUT
in two evaluations, or the analogue trip, ends in THERMAL_LATCH. A threshold write that breaks the order sets CFG_ERR alone. -/
def Obligations.Thermal : Prop :=
  (∀ codes : List Int, Happens (.hubReading codes) (fun s => s.domOn 65 = false) (fun s t => t = s.calWatch)) ∧
  (∀ codes : List Int, codes.length = 16 → Happens (.hubReading codes) (fun s => s.domOn 65 = true) (fun s t => ∃ x : State, t = x.calWatch ∧ x.th.hubs = (List.range 4).map (x.hubOf codes) ∧
    x.th.mean = hubsMean x.th.hubs ∧ (∀ h : Fin 4, x.bitAt F.TH.TH_STAT_FAULT_HUB h = (x.hubOf codes h).isNone) ∧ x.get F.TH.TH_STAT_LEVEL = s.get F.TH.TH_STAT_LEVEL ∧
    (∀ d : Fin 16, (s.bitAt F.TH.DIODE_FAULT d = true ∨ codes.getD d 0 < -960 ∨ 2880 < codes.getD d 0 → x.bitAt F.TH.DIODE_FAULT d = true) ∧
      (s.bitAt F.TH.DIODE_FAULT d = false → -960 ≤ codes.getD d 0 → codes.getD d 0 ≤ 2880 → (2 * codes.getD d 0 - median16 codes).natAbs ≤ 1280 → x.bitAt F.TH.DIODE_FAULT d = false)))) ∧
  (∀ (s : State) (codes : List Int) (h : Fin 4) (i : Fin 4) (v : Int), s.hubOf codes h = some v → s.bitAt F.TH.DIODE_FAULT (4 * h + i) = false → codes.getD (4 * h + i) 0 ≤ v) ∧
  (∀ (s : State) (k : Nat) (t : Int), let x := s.sensor k
    let y := (s.sensorEval k t false).sensor k
    (∀ i < 3, (i = 0 ∨ (s.thresholds k).2 = true) → 16 * ((s.thresholds k).1.getD i 0 : Int) < t → 1 ≤ x.up.getD i 0 → i + 1 ≤ y.rank) ∧ x.rank ≤ y.rank + 1 ∧ (x.rank < y.rank → y.rank ≤ 3) ∧
      ((∀ i < 3, t ≤ 16 * ((s.thresholds k).1.getD i 0 : Int)) → y.rank ≤ x.rank) ∧ ((s.sensorEval k t true).sensor k).rank ≥ (if (s.thresholds k).2 = true then 3 else 1)) ∧
  Happens .thermalEvaluation (fun s => s.domOn 65 = false ∨ s.domOn 66 = false) Nothing ∧
  Happens .thermalEvaluation (fun s => s.domOn 65 = true ∧ s.domOn 66 = true ∧ ∀ h : Fin 4, ∀ t, s.th.hubs.getD h none = some t → t < 16 * (s.get F.TH.TH_HUB_SHUT : Int))
    (fun s t => t.pw = s.pw ∧ t.get F.TH.TH_STAT_LEVEL = (t.topRank - 1) % 4 ∧ t.flag F.TH.TH_STAT_WARN = decide (0 < t.topRank) ∧ (t.topRank < 2 → t.get F.TH.GOVERN = 0xFF) ∧
      t.get F.TH.HUB1_HUB0 % 65536 = unsigned 16 ((s.th.hubs.getD 0 none).getD 2400) ∧ t.get F.TH.TIME_LO = s.time.dev.toNat % 2 ^ 32 ∧
      t.get F.TH.THROTTLE_MS = (if 0 < s.get F.TH.TH_STAT_LEVEL then min (s.get F.TH.THROTTLE_MS + 10) (2 ^ 32 - 1) else s.get F.TH.THROTTLE_MS)) ∧
  (∀ (h : Fin 4) (v : Int), Happens .thermalEvaluation (fun s => s.domOn 65 = true ∧ s.domOn 66 = true ∧ s.pw.latchFlag = false ∧ s.pw.st ≠ .thermalLatch ∧ s.th.hubs.getD h none = some v ∧
      16 * (s.get F.TH.TH_HUB_SHUT : Int) ≤ v ∧ 1 ≤ spGet (fun _ => 0) s.th.shut h)
    (fun _ t => ∃ x : State, t = x.enterState .thermalLatch 6 ∧ t.pw.st = .thermalLatch ∧ t.pw.latchFlag = true ∧ t.pw.cause = 6)) ∧
  Happens .analogueThermalTrip (fun s => s.pw.st = .off ∨ s.pw.st = .thermalLatch) Nothing ∧
  Happens .analogueThermalTrip (fun s => (s.pw.st = .ready ∨ s.pw.st = .scanning ∨ s.pw.st = .safeHold) ∧ s.pw.romOnly = false)
    (fun s t => t = s.enterState .thermalLatch 7 ∧ t.pw.st = .thermalLatch ∧ t.pw.latchFlag = true ∧ t.pw.cause = 7) ∧
  Happens .analogueThermalTrip (fun s => s.pw.st = .booting ∨ s.pw.st = .dormant ∨ s.pw.st = .dormantEntry) (fun _ t => t.pw.st = .thermalLatch ∧ t.pw.romOnly = true ∧ t.pw.cause = 7) ∧
  (∀ via seq (a v : Word), let b := fun (lo : Nat) => bitsOf v.toNat lo 8
    (a.toNat = F.TH.TH_HUB_WARN.addr → b 24 < b 16 → b 16 < b 8 → b 8 < b 0 → b 0 ≤ 135 → Writes (.thermalThresholdWrite via seq a v) a.toNat 1 (fun _ => True) (fun u t => OnlyRegs u t [a.toNat] ∧ t.rd a.toNat = v)) ∧
    (a.toNat = F.TH.TH_HUB_WARN.addr → b 16 ≤ b 24 ∨ b 8 ≤ b 16 ∨ b 0 ≤ b 8 ∨ 135 < b 0 → Writes (.thermalThresholdWrite via seq a v) a.toNat 1 (fun _ => True) (fun u t => t = u.set F.TH.TH_STAT_CFG_ERR 1)) ∧
    (∀ i : Fin 4, a.toNat = (F.TH.TH_NTC_WARN i).addr →
      (v.toNat.testBit 24 = false ∨ (b 16 < b 8 ∧ b 8 < b 0) → Writes (.thermalThresholdWrite via seq a v) a.toNat 1 (fun _ => True)
        (fun u t => OnlyRegs u t [a.toNat] ∧ t.get (F.TH.TH_NTC_THR1 i) = b 8 ∧ t.flag (F.TH.TH_NTC_THR_EN i) = v.toNat.testBit 24)) ∧
      (v.toNat.testBit 24 = true → b 8 ≤ b 16 ∨ b 0 ≤ b 8 → Writes (.thermalThresholdWrite via seq a v) a.toNat 1 (fun _ => True) (fun u t => t = u.set F.TH.TH_STAT_CFG_ERR 1))))

/-- R397, R398, R400, R406: calibration runs. CAL_RUN is ACCEPTED in READY with T_MEAN valid, and its items run in order; an item ends by a measurement of its own: accepted, it clears its DUE bit; rejected, EV_CAL_REJECT names the lowest row of Table 17-6; the reference items want loops 2 and 3 settled.
The last item's record goes to both copies with the next GENERATION, and the command completes. An automatic run starts in READY with AUTO, level 0 and an item due. -/
def Obligations.Calibration : Prop :=
  (∀ via seq (m : BitVec 16), let items := (List.range 4).filter (fun i => m.getLsbD i)
    (m.toNat ≠ 0 → m.toNat < 16 →
      Starts (.calRun via seq m) (fun u => u.pw.st = .ready ∧ u.th.mean.isSome = true ∧ u.rangeBusy 0x0805 = false ∧ u.flag F.CAL.CAL_STAT_BUSY = false ∧ u.pw.reload = []) 0
        (fun u t => t = { u with regs := t.regs, cal := { u.cal with run := t.cal.run } } ∧ SameRegs u t [F.CAL.CAL_STAT_BUSY.addr] ∧ t.flag F.CAL.CAL_STAT_BUSY = true ∧
          ∃ r, t.cal.run = some r ∧ r.items = items ∧ r.manual = true ∧ some r.start = u.th.mean)) ∧
    (m.toNat = 0 ∨ 16 ≤ m.toNat → TurnsAway (.calRun via seq m) (fun u => u.pw.st = .ready ∧ u.th.mean.isSome = true) 0x12 (fun _ => 0)) ∧
    TurnsAway (.calRun via seq m) (fun u => u.pw.st ≠ .ready) 0x13 State.stateCode ∧ TurnsAway (.calRun via seq m) (fun u => u.pw.st = .ready ∧ u.th.mean = none) 0x8D (fun _ => 0)) ∧
  (∀ st dt : Nat, Happens .calRunComplete (fun s => s.cal.ended = some (st, dt)) (fun s t => ∃ x : State, t = x.complete 0x0805 st dt [] ∧
      x = ({ s with cal := { s.cal with ended := none } } : State).set F.CAL.CAL_STAT_BUSY 0)) ∧
  Happens .calRunComplete (fun s => s.cal.ended = none) Nothing ∧
  (let may : State → Prop := fun s => s.domOn 65 = true ∧ s.pw.st = .ready ∧ s.flag F.CAL.CAL_CTRL_AUTO = true ∧ s.get F.TH.TH_STAT_LEVEL = 0 ∧ s.rangeBusy 0x0805 = false ∧ s.flag F.CAL.CAL_STAT_BUSY = false ∧
      s.get F.CAL.CAL_STAT_DUE ≠ 0 ∧ s.th.mean.isSome = true
   Happens .calAutoRun may (fun s t => t.flag F.CAL.CAL_STAT_BUSY = true ∧ SameRegs s t [F.CAL.CAL_STAT_BUSY.addr] ∧
      ∃ r, t.cal.run = some r ∧ r.items = (List.range 4).filter (fun i => s.bitAt F.CAL.CAL_STAT_DUE i) ∧ r.manual = false ∧ some r.start = s.th.mean) ∧
    Happens .calAutoRun (fun s => ¬ may s) Nothing) ∧
  (∀ (m : CalMeas) (copies : Fin 3),
    Happens (.calItemEnd m copies) (fun s => s.cal.run = none) Nothing ∧
    (∀ (r : CalRun) (i : Nat) (rest : List Nat), r.items = i :: rest →
      (measItem m ≠ i → Happens (.calItemEnd m copies) (fun s => s.cal.run = some r) Nothing) ∧
      (measItem m = i → 2 ≤ i → Happens (.calItemEnd m copies) (fun s => s.cal.run = some r ∧ (s.flag (F.LOOP.LOOP_STAT_SETTLED 2) = false ∨ s.flag (F.LOOP.LOOP_STAT_SETTLED 3) = false))
        (fun s t => t = s.calAbort 0x8C 3)) ∧
      (let go := fun (s : State) => s.cal.run = some r ∧ (i < 2 ∨ (s.flag (F.LOOP.LOOP_STAT_SETTLED 2) = true ∧ s.flag (F.LOOP.LOOP_STAT_SETTLED 3) = true))
       measItem m = i → rest ≠ [] →
        Happens (.calItemEnd m copies) (fun s => go s ∧ (s.calJudge r m).fails = [])
          (fun s t => t.get F.CAL.ACCEPTED = min (s.get F.CAL.ACCEPTED + 1) (2 ^ 32 - 1) ∧ t.get F.CAL.RUNS = min (s.get F.CAL.RUNS + 1) (2 ^ 32 - 1) ∧ t.bitAt F.CAL.CAL_STAT_DUE i = false ∧
            t.get F.CAL.STATUS = 0 ∧ t.get F.CAL.ITEM = 2 ^ i ∧ t.flash = s.flash ∧ ∃ q, t.cal.run = some q ∧ q.items = rest) ∧
        Happens (.calItemEnd m copies) (fun s => go s ∧ (s.calJudge r m).fails ≠ [])
          (fun s t => t.get F.CAL.REJECTED = min (s.get F.CAL.REJECTED + 1) (2 ^ 32 - 1) ∧ t.flag F.CAL.CAL_STAT_REJECTED = true ∧ t.get F.CAL.STATUS = 0x8B ∧ t.get F.CAL.DETAIL = (s.calJudge r m).fails.foldl min 7 ∧
            t.bitAt F.CAL.CAL_STAT_DUE i = s.bitAt F.CAL.CAL_STAT_DUE i ∧ (∃ q, t.cal.run = some q ∧ q.items = rest) ∧ ∃ x : State, ∃ q : CalRun, t = { x.raise EV_CAL_REJECT (2 ^ i) (t.get F.CAL.DETAIL) with cal := { x.cal with run := some q } })) ∧
      (measItem m = i → rest = [] → r = ⟨[i], r.manual, r.start, none, [], [], [], [], [], [], false, false⟩ →
        Happens (.calItemEnd m 2) (fun s => s.cal.run = some r ∧ s.cal.copy ≤ 1 ∧ (s.calJudge r m).fails = [] ∧
            (i < 2 ∨ (s.flag (F.LOOP.LOOP_STAT_SETTLED 2) = true ∧ s.flag (F.LOOP.LOOP_STAT_SETTLED 3) = true)))
          (fun s t => t.cal.run = none ∧ t.cal.ended = (if r.manual = true then some (0, 0) else none) ∧ t.get F.CAL.CAL_GEN = (s.get F.CAL.CAL_GEN + 1) % 2 ^ 32 ∧ t.cal.copy = 1 - s.cal.copy ∧
            t.flashRead (calAddr 0) 0x10000 = t.flashRead (calAddr 1) 0x10000 ∧ t.calValid 0 = true ∧ t.calGenOf 0 = (s.get F.CAL.CAL_GEN + 1) % 2 ^ 32 ∧
            (∀ a, a < calAddr 0 ∨ calAddr 1 + 0x10000 ≤ a → spGet flashDflt t.flash a = spGet flashDflt s.flash a) ∧ t.bitAt F.CAL.CAL_STAT_DUE i = false))))

/-! ### Illuminators (chapter 18) -/

/-- R411 to R420: the illuminator strings. ILL_SET writes LEVEL of the named strings, none of which may be faulted; a REG_WRITE of ILL_LEVEL is stored whatever the fault state. A slice of a free string takes what was written and is lit when the sum of the levels passes 65,536; a window of a gated string starts its sum at 32,768, and its end darkens the string and publishes the means; a condition of Table 18-2
that holds in 8 lit slices running, or 64 cycles over 300 mV, latches its fault and darkens the string; a probe ends with the verdict of Table 18-2; the controller follows the shunt; a fault bit that clears wants a probe. -/
def Obligations.Illuminators : Prop :=
  (∀ via seq (m : Byte) (lv : BitVec 16), m.toNat ≠ 0 → m.toNat < 16 →
    Does (.illSet via seq m lv) (fun u => u.domOn 65 = true ∧ ∀ n : Fin 4, m.getLsbD n = true → u.illFaulted n = false) (fun _ => [])
      (fun u t => OnlyRegs u t ((List.range 4).map (fun n => (F.ILS.ILL_LEVEL_LEVEL n).addr)) ∧
        ∀ n : Fin 4, t.get (F.ILS.ILL_LEVEL_LEVEL n) = (if m.getLsbD n = true then lv.toNat else u.get (F.ILS.ILL_LEVEL_LEVEL n))) ∧
    TurnsAway (.illSet via seq m lv) (fun u => u.domOn 65 = true ∧ ∃ n : Fin 4, m.getLsbD n = true ∧ u.illFaulted n = true) 0x8F
      (fun u => ((List.range 4).map (fun n => bit (m.getLsbD n && u.illFaulted n) * 2 ^ n)).sum)) ∧
  (∀ via seq (m : Byte) (lv : BitVec 16), m.toNat = 0 ∨ 16 ≤ m.toNat → TurnsAway (.illSet via seq m lv) (fun u => u.domOn 65 = true) 0x12 (fun _ => 0)) ∧
  (∀ (n : Fin 4) (v i : Nat), let calm := fun (s : State) => s.domOn 65 = true ∧ s.flag (F.ILS.ILL_STR_STAT_PROBING n) = false
    let free := fun (s : State) => calm s ∧ (s.illStr n).lit = false ∧ (s.illStr n).mode = 0 ∧ s.illMode n = 0 ∧ (s.illStr n).probe = false ∧ s.time.dev.toNat - (s.illStr n).last < 10 ^ 7
    Happens (.illumSliceStart n v i) (fun s => s.domOn 65 = false ∨ (s.flag (F.ILS.ILL_STR_STAT_PROBING n) = true ∧ (s.illStr n).mode ≠ 0)) Nothing ∧
    Happens (.illumSliceStart n v i) free (fun s t => t = { s with ill := t.ill } ∧ (∀ m : Fin 4, m ≠ n → t.illStr m = s.illStr m) ∧
      (t.illStr n).level = min (s.get (F.ILS.ILL_LEVEL_LEVEL n)) s.illCeil ∧ (t.illStr n).mode = 0 ∧ (t.illStr n).lit = decide (65536 ≤ (s.illStr n).acc + t.illEff n) ∧
      (t.illStr n).acc = (s.illStr n).acc + t.illEff n - (if 65536 ≤ (s.illStr n).acc + t.illEff n then 65536 else 0)) ∧
    Happens (.illumSliceStart n v i) (fun s => calm s ∧ (s.illStr n).lit = true ∧ (s.illStr n).acc < 65536 ∧ s.illVerdict n v i < 3 ∧ (s.illStr n).bad.getD (s.illVerdict n v i) 0 = 7)
      (fun s t => (t.illStr n).lit = false ∧ (t.illStr n).drv = false ∧ (t.rd (F.ILS.ILL_STR_STAT_OPEN n).addr).getLsbD (s.illVerdict n v i + 1) = true ∧
        t.get (F.ILS.FAULTS n) = min (s.get (F.ILS.FAULTS n) + 1) (2 ^ 32 - 1)) ∧
    Happens (.illumSliceStart n v i) (fun s => calm s ∧ (s.illStr n).lit = true ∧ (s.illStr n).mode ≠ 0 ∧ (s.illStr n).window = false ∧ 3 ≤ s.illVerdict n v i)
      (fun s t => t = { s with ill := t.ill } ∧ t.illStr n = { s.illStr n with lit := false, drv := false, sumV := (s.illStr n).sumV + v, sumI := (s.illStr n).sumI + i, n := (s.illStr n).n + 1, bad := [0, 0, 0] })) ∧
  (∀ (s : State) (n : Fin 4), (s.illEff n = 0 ∨ s.illEff n = (s.illStr n).level) ∧
    (s.flag (F.ILS.ILL_STR_CFG_EN n) = false ∨ s.illFaulted n = true ∨ s.flag F.ILL.ILL_STAT_THERMAL = true ∨ s.pw.st = .thermalLatch ∨ s.noWindow n = true → s.illEff n = 0)) ∧
  (∀ n : Fin 4, let able := fun (s : State) => s.domOn 65 = true ∧ (s.illStr n).mode ≠ 0 ∧ (s.illStr n).window = false ∧ s.noWindow n = false
    Happens (.illumWindowStart n) (fun s => ¬ able s) Nothing ∧
    Happens (.illumWindowStart n) (fun s => able s ∧ (s.illStr n).probe = false) (fun s t => t = { s with ill := t.ill } ∧
      t.illStr n = { s.illStr n with level := min (s.get (F.ILS.ILL_LEVEL_LEVEL n)) s.illCeil, mode := s.illMode n, acc := 32768, window := true, probed := false, sumV := 0, sumI := 0, n := 0 }) ∧
    Happens (.illumWindowStart n) (fun s => able s ∧ (s.illStr n).probe = true ∧ s.flag (F.ILS.ILL_STR_CFG_EN n) = true ∧ s.illFaulted n = false ∧ s.flag F.ILL.ILL_STAT_THERMAL = false ∧ s.pw.st ≠ .thermalLatch ∧
        s.illMode n = (s.illStr n).mode ∧ 0 < min (s.get (F.ILS.ILL_LEVEL_LEVEL n)) s.illCeil)
      (fun s t => (t.illStr n).lit = true ∧ (t.illStr n).probed = true ∧ t.flag (F.ILS.ILL_STR_STAT_PROBING n) = true ∧ t.get (F.ILS.PROBES n) = min (s.get (F.ILS.PROBES n) + 1) (2 ^ 32 - 1))) ∧
  (∀ n : Fin 4, Happens (.illumWindowEnd n) (fun s => s.domOn 65 = false ∨ (s.illStr n).window = false) Nothing ∧
    Happens (.illumWindowEnd n) (fun s => s.domOn 65 = true ∧ (s.illStr n).window = true ∧ 0 < (s.illStr n).n)
      (fun s t => (t.illStr n).window = false ∧ (t.illStr n).lit = false ∧ (t.illStr n).drv = false ∧ (t.illStr n).n = 0 ∧ t.flag (F.ILS.ILL_STR_STAT_PROBE_LAST n) = (s.illStr n).probed ∧
        t.get (F.ILS.V_STR n) = (s.illStr n).sumV / (s.illStr n).n % 2 ^ 16 ∧ t.get (F.ILS.I_MEAN n) = (s.illStr n).sumI / (s.illStr n).n % 2 ^ 16 ∧ t.get (F.ILS.TIME_LO n) = s.time.dev.toNat % 2 ^ 32 ∧
        t = { s with regs := t.regs, ill := t.ill })) ∧
  (∀ (n : Fin 4) (k : BitVec 2), let x := fun (s : State) => s.illStr n
    Happens (.illumShuntCrossing n k) (fun s => s.domOn 65 = false ∨ (x s).lit = false) Nothing ∧
    (k = 0 → Happens (.illumShuntCrossing n k) (fun s => s.domOn 65 = true ∧ (x s).lit = true) (fun s t => t = s.setIll n { x s with drv := true })) ∧
    (k = 1 → Happens (.illumShuntCrossing n k) (fun s => s.domOn 65 = true ∧ (x s).lit = true) (fun s t => t = s.setIll n { x s with drv := false, oc := if (x s).drv then 0 else (x s).oc })) ∧
    (k = 2 → Happens (.illumShuntCrossing n k) (fun s => s.domOn 65 = true ∧ (x s).lit = true ∧ (x s).oc < 63)
      (fun s t => t = (s.setIll n { x s with drv := false, oc := (x s).oc + 1 }).inc (F.ILS.OC_CYCLES n))) ∧
    (k = 2 → Happens (.illumShuntCrossing n k) (fun s => s.domOn 65 = true ∧ (x s).lit = true ∧ (x s).oc = 63)
      (fun s t => t.flag (F.ILS.ILL_STR_STAT_SHORT n) = true ∧ (t.illStr n).lit = false ∧ (t.illStr n).drv = false ∧ t.get (F.ILS.OC_CYCLES n) = min (s.get (F.ILS.OC_CYCLES n) + 1) (2 ^ 32 - 1)))) ∧
  (∀ n : Fin 4, Happens (.illDrvOnLimit n) (fun s => s.domOn 65 = true ∧ (s.illStr n).drv = true) (fun s t => t = s.setIll n { s.illStr n with drv := false, oc := 0 }) ∧
    Happens (.illDrvOnLimit n) (fun s => s.domOn 65 = false ∨ (s.illStr n).drv = false) Nothing) ∧
  (∀ (n : Fin 4) (v i : Nat), let on := fun (s : State) => s.domOn 65 = true ∧ s.flag (F.ILS.ILL_STR_STAT_PROBING n) = true
    Happens (.illumProbeEnd n v i) (fun s => ¬ on s) Nothing ∧
    Happens (.illumProbeEnd n v i) (fun s => on s ∧ s.illVerdict n v i = 4)
      (fun s t => t = { s with regs := t.regs, ill := t.ill } ∧ SameRegs s t [(F.ILS.ILL_STR_STAT_PROBING n).addr] ∧ t.flag (F.ILS.ILL_STR_STAT_PROBING n) = false ∧
        t.illStr n = { s.illStr n with lit := false, drv := false, probe := false } ∧ t.illFaulted n = s.illFaulted n) ∧
    Happens (.illumProbeEnd n v i) (fun s => on s ∧ s.illVerdict n v i = 3)
      (fun _ t => t.flag (F.ILS.ILL_STR_STAT_DEGRADED n) = true ∧ (t.illStr n).probe = false ∧ (t.illStr n).said = true ∧ t.flag (F.ILS.ILL_STR_STAT_PROBING n) = false) ∧
    Happens (.illumProbeEnd n v i) (fun s => on s ∧ s.illVerdict n v i < 3)
      (fun s t => (t.rd (F.ILS.ILL_STR_STAT_OPEN n).addr).getLsbD (s.illVerdict n v i + 1) = true ∧ t.illFaulted n = true ∧ (t.illStr n).probe = false ∧ (t.illStr n).lit = false)) ∧
  (∀ (s : State) (n v i : Nat), v < s.get (F.ILS.ILL_DRIVE_VF_MAX n) → s.illVerdict n v i = (if v < 30 then 1 else if v < 150 then 2 else if v < s.get (F.ILS.ILL_DRIVE_VF_MIN n) then 3 else 4)) ∧
  (∀ via seq (n : Fin 4) (v : Word), let a := (F.ILS.ILL_STR_STAT_OPEN n).addr
    Writes (.illFaultClear via seq n v) a 1 (fun u => u.pw.st ≠ .thermalLatch ∧ (v &&& u.rd a).toNat / 2 % 16 ≠ 0)
      (fun u t => t = { u with regs := t.regs, ill := t.ill } ∧ SameRegs u t [a] ∧ (∀ k : Fin 5, 1 ≤ k.val → (t.rd a).getLsbD k = ((u.rd a).getLsbD k && !v.getLsbD k)) ∧ t.illStr n = { u.illStr n with probe := true }) ∧
    Writes (.illFaultClear via seq n v) a 1 (fun u => u.pw.st ≠ .thermalLatch ∧ (v &&& u.rd a).toNat / 2 % 16 = 0) (fun u t => OnlyRegs u t [a] ∧ t.rd a = u.rd a)) ∧
  (∀ via seq (n : Fin 4) (v : Word), Writes (.regWrite via seq (BitVec.ofNat 32 (F.ILS.ILL_LEVEL_LEVEL n).addr) [v]) (F.ILS.ILL_LEVEL_LEVEL n).addr 1 (fun _ => True)
    (fun u t => OnlyRegs u t [(F.ILS.ILL_LEVEL_LEVEL n).addr] ∧ t.get (F.ILS.ILL_LEVEL_LEVEL n) = v.toNat % 65536)) ∧
  (∀ via seq (v : Word), (60 ≤ v.toNat % 256 ∧ v.toNat % 256 ≤ 125 → Writes (.illThermWrite via seq v) F.ILL.ILL_THERM_OFF.addr 1 (fun _ => True)
      (fun u t => OnlyRegs u t [F.ILL.ILL_THERM_OFF.addr] ∧ t.get F.ILL.ILL_THERM_OFF = v.toNat % 256)) ∧
    (v.toNat % 256 < 60 ∨ 125 < v.toNat % 256 → Writes (.illThermWrite via seq v) F.ILL.ILL_THERM_OFF.addr 1 (fun _ => True) (fun u t => t = u.set F.ILL.ILL_STAT_CFG_ERR 1)))

/-! ### The recorder and the monitor (chapter 19) -/

/-- R434 to R443: the recorder and the Brixut monitor. RECORDER_ARM stores a block whose fields are in range and begins PRE_FILL; a trigger or RECORDER_FORCE begins POST_FILL with the samples held; the fill's end stores the capture in the lowest free slot; RECORDER_READ is ACCEPTED for a slot that holds one, and the record leaves on stream 6 or
class 5 refuses it. While the monitor is served each line counts and is answered; AUTH draws a new NONCE and opens the session for the right credential; commands but ID, NONCE, AUTH and BYE want a session; the timeout and EN 0 close it. -/
def Obligations.Diagnostics : Prop :=
  let recorder := fun (s : State) (n : Nat) => s.domOn 68 = true ∧ s.recState = n
  (∀ via seq (b : List Byte), blockFault b = none →
    Does (.recorderArm via seq b) (fun u => u.domOn 68 = true ∧ u.recState ≠ 3 ∧ (u.recState ≠ 4 ∨ (u8 b 3).testBit 1 = true)) (fun _ => [])
      (fun u t => t = { u with regs := t.regs, rcd := { u.rcd with slots := if (u8 b 3).testBit 1 = true then [] else u.rcd.slots, fillAt := u.time.dev.toNat } } ∧ t.recState = 1 ∧ t.recBlock = b ∧
        t.get F.REC.REC_STAT_SLOTS = t.recSlots % 16 ∧ SameRegs u t (F.REC.REC_STAT_STATE.addr :: (List.range 8).map (fun i => (F.REC.REC_ARM i).addr))) ∧
    TurnsAway (.recorderArm via seq b) (fun u => recorder u 3) 0x20 (fun _ => 1) ∧
    TurnsAway (.recorderArm via seq b) (fun u => recorder u 4 ∧ (u8 b 3).testBit 1 = false) 0x90 (fun _ => 0)) ∧
  (∀ via seq (b : List Byte) (w : Nat), blockFault b = some w → TurnsAway (.recorderArm via seq b) (fun u => u.domOn 68 = true) 0x12 (fun _ => w)) ∧
  (let fired := fun (forced : Bool) (s t : State) => t = { s with regs := t.regs, rcd := { s.rcd with preValid := s.recHeld, forced := forced, trigTime := s.time.dev } } ∧ t.recState = 3 ∧ SameRegs s t [F.REC.REC_STAT_STATE.addr]
   (∀ via seq, Does (.recorderForce via seq) (fun u => u.domOn 68 = true ∧ u.recState ≤ 2) (fun _ => []) (fired true) ∧
      (∀ s p u, Runs (.recorderForce via seq) s p u → recorder u 3 → Refused (.recorderForce via seq) s p (u.inc F.REC.MISSED) 0 1) ∧
      TurnsAway (.recorderForce via seq) (fun u => recorder u 4) 0x90 (fun _ => 0)) ∧
   Happens .recorderTrigger (fun s => s.domOn 68 = false ∨ u8 s.recBlock 0 = 0 ∨ s.recState = 0) Nothing ∧
   Happens .recorderTrigger (fun s => s.domOn 68 = true ∧ u8 s.recBlock 0 ≠ 0 ∧ (s.recState = 1 ∨ s.recState = 2)) (fired false) ∧
   Happens .recorderTrigger (fun s => recorder s 3 ∧ u8 s.recBlock 0 ≠ 0) (fun s t => t = s.inc F.REC.MISSED) ∧
   Happens .recorderTrigger (fun s => recorder s 4 ∧ u8 s.recBlock 0 ≠ 0) (fun s t => t = s.inc F.REC.NO_SLOT)) ∧
  (∀ s : State, s.recHeld ≤ u16 s.recBlock 4 ∧ (s.recState = 2 → s.recHeld = u16 s.recBlock 4) ∧ (s.recState = 0 → s.recHeld = 0)) ∧
  Happens .recorderPreFillDone (fun s => recorder s 1) (fun s t => OnlyRegs s t [F.REC.REC_STAT_STATE.addr] ∧ t.recState = 2) ∧
  Happens .recorderPreFillDone (fun s => ¬ recorder s 1) Nothing ∧
  (∀ smp : List Byte, Happens (.recorderPostFillDone smp) (fun s => ¬ recorder s 3 ∨ s.recFree = none) Nothing ∧
    (∀ k : Nat, Happens (.recorderPostFillDone smp) (fun s => recorder s 3 ∧ s.recFree = some k) (fun s t => ∃ c : Capture, t.rcd.slots = s.rcd.slots ++ [(k, c)] ∧ c.forced = s.rcd.forced ∧
      c.trig = u8 s.recBlock 0 ∧ c.time = s.rcd.trigTime ∧ c.pre = u16 s.recBlock 4 ∧ c.preValid = s.rcd.preValid ∧ c.preShort = decide (s.rcd.preValid < u16 s.recBlock 4) ∧ c.missed = s.get F.REC.MISSED ∧
      c.samples.length = 163840 ∧ (s.rcd.preValid = 0 → ∀ i < 8 * u16 s.recBlock 4, i < 65536 → u8 c.samples i = 0) ∧
      t.get F.REC.CAPTURES = min (s.get F.REC.CAPTURES + 1) (2 ^ 32 - 1) ∧ c.num = t.get F.REC.CAPTURES ∧ t.recState = (if t.recFree = none then 4 else if (u8 s.recBlock 3).testBit 0 = true then 1 else 0) ∧ SameMem s t))) ∧
  (∀ via seq (k : Byte), k.toNat ≤ 3 →
    Starts (.recorderRead via seq k) (fun u => u.domOn 68 = true ∧ (∃ c, (k.toNat, c) ∈ u.rcd.slots) ∧ u.rangeBusy 0x0902 = false) 0 (fun u t => t = { u with rcd := { u.rcd with reading := some k.toNat } }) ∧
    TurnsAway (.recorderRead via seq k) (fun u => u.domOn 68 = true ∧ ∀ c, (k.toNat, c) ∉ u.rcd.slots) 0x91 (fun _ => k.toNat)) ∧
  (∀ r : Bool, Happens (.recorderReadComplete r) (fun s => s.rcd.reading = none) Nothing) ∧
  (∀ (k : Nat) (c : Capture),
    let mine := fun (s : State) => s.rcd.reading = some k ∧ s.rcd.slots.find? (fun e => e.1 == k) = some (k, c)
    Happens (.recorderReadComplete true) mine (fun s t => t = (({ s with rcd := { s.rcd with reading := none } } : State).memRefuse 5 0x42 2562).complete 0x0902 0x21 5 []) ∧
    Happens (.recorderReadComplete false) mine (fun s t => ∃ x : State, t = x.complete 0x0902 0 0 [] ∧ x.rcd.reading = none ∧ x.rcd.slots = s.rcd.slots.filter (fun e => e.1 != k) ∧
      (x.stream 6).units = (s.stream 6).units ++ [captureRecord k c] ∧ (s.recState = 4 → x.recState = 1) ∧ (s.recState ≠ 4 → x.recState = s.recState ∧ x.rcd.fillAt = s.rcd.fillAt) ∧ x.recBlock = s.recBlock)) ∧
  (∀ (k : Nat) (c : Capture), c.src.length = 12 → c.samples.length = 163840 → (captureRecord k c).length = 163908 ∧ u8 (captureRecord k c) 0 = 0x90 ∧ u32 (captureRecord k c) 4 = 163908 ∧ u64 (captureRecord k c) 8 = c.time.toNat) ∧
  (let line := fun (s : State) (ws : List (List Byte)) => (s.inc F.MON.LINES_RX).monPut (monLineOf ws)
   let err := fun (s : State) (why : String) => line s [ascii "ERR", ascii why]
   let on := fun (s : State) => s.flag F.MON.MON_CTRL_EN = true ∧ s.firmwareRuns = true
   let ses := fun (s : State) => on s ∧ s.flag F.MON.MON_STAT_SESSION = true
   let out := fun (s : State) => on s ∧ s.flag F.MON.MON_STAT_SESSION = false
   let key := fun (s : State) (cred : List Byte) => s.otp.monKey.all (fun b => b == 0) = false ∧ cred = s.monCredential
   (∀ c : Instr, (c = .monId ∨ c = .monNonce ∨ c = .monSt ∨ c = .monBye ∨ (∃ l, c = .monitorLine l) ∨ (∃ l, c = .monAuth l) ∨ (∃ a n, c = .monRd a n) ∨ (∃ a n, c = .monLog a n) ∨ (∃ b, c = .monEv b)) →
      Happens c (fun s => ¬ on s) Nothing) ∧
   Happens .monId on (fun s t => t = line s [ascii "OK", hexBytes 8 (s.view 0), decBytes (s.view 0x10 / 2 ^ 24) ++ ascii "." ++ decBytes (s.view 0x10 / 2 ^ 16 % 256) ++ ascii "." ++ decBytes (s.view 0x10 % 65536),
      hexBytes 12 s.otp.mac.toNat]) ∧
   Happens .monNonce on (fun s t => t = line s [ascii "OK", hexBytes 8 s.mon.nonce.toNat]) ∧
   (∀ cred : List Byte,
      Happens (.monAuth cred) (fun s => out s ∧ s.flag F.MON.MON_STAT_LOCKOUT = false ∧ key s cred)
        (fun s t => ∃ x : State, t = ((x.set F.MON.MON_STAT_SESSION 1).inc F.MON.SESSIONS).raise EV_MONITOR_SESSION 0 1 ∧ x = (s.inc F.MON.LINES_RX).monNonce.monPut (monLineOf [ascii "OK"]) ∧ t.flag F.MON.MON_STAT_SESSION = true) ∧
      Happens (.monAuth cred) (fun s => on s ∧ s.flag F.MON.MON_STAT_LOCKOUT = true) (fun s t => t = (s.inc F.MON.LINES_RX).monNonce.monPut (monLineOf [ascii "ERR", ascii "LOCKOUT"])) ∧
      Happens (.monAuth cred) (fun s => on s ∧ s.flag F.MON.MON_STAT_LOCKOUT = false ∧ ¬ key s cred)
        (fun s t => t = (s.inc F.MON.LINES_RX).monNonce.monAuthFail ∧ t.flag F.MON.MON_STAT_SESSION = s.flag F.MON.MON_STAT_SESSION ∧ t.get F.MON.AUTH_FAIL = min (s.get F.MON.AUTH_FAIL + 1) (2 ^ 32 - 1) ∧
          t.flag F.MON.MON_STAT_LOCKOUT = decide (2 ≤ (s.mon.fails.filter (fun f => decide (s.time.dev.toNat < f + 60 * 10 ^ 9))).length))) ∧
   (∀ s : State, s.monNonce = { s with free := s.free + 1, mon := { s.mon with nonce := BitVec.ofNat 32 (Config.freeNat s.free) } }) ∧
   (∀ c : Instr, (c = .monSt ∨ (∃ a n, c = .monRd a n) ∨ (∃ a n, c = .monLog a n) ∨ (∃ b, c = .monEv b)) → Happens c out (fun s t => t = err s "AUTH")) ∧
   Happens .monSt ses (fun s t => t = line s (ascii "OK" :: [0x100, 0x5000000, 0x6001000, 0x7000000].map (fun a => hexBytes 8 ((s.inc F.MON.LINES_RX).view a)))) ∧
   (∀ (a : Word) (n : Nat),
      Happens (.monRd a n) (fun s => ses s ∧ (s.inc F.MON.LINES_RX).touchesOff a.toNat n = true) (fun s t => t = err s "STATE") ∧
      Happens (.monRd a n) (fun s => ses s ∧ (s.inc F.MON.LINES_RX).touchesOff a.toNat n = false ∧ (a.toNat % 4 ≠ 0 ∨ n = 0 ∨ 64 < n ∨ oneBlock a.toNat n = false)) (fun s t => t = err s "PARAM") ∧
      Happens (.monRd a n) (fun s => ses s ∧ (s.inc F.MON.LINES_RX).touchesOff a.toNat n = false ∧ a.toNat % 4 = 0 ∧ 1 ≤ n ∧ n ≤ 64 ∧ oneBlock a.toNat n = true)
        (fun s t => let r := (s.inc F.MON.LINES_RX).readWords false a.toNat n
          t = r.2.monPut (monLineOf (ascii "OK" :: r.1.map (fun w => hexBytes 8 w.toNat))))) ∧
   (∀ i n : Nat, (n = 0 ∨ 16 < n → Happens (.monLog i n) ses (fun s t => t = err s "PARAM")) ∧
      (1 ≤ n → n ≤ 16 → Happens (.monLog i n) ses (fun s t =>
        t = (((s.inc F.MON.LINES_RX).each (List.range n) (fun s k => s.monPut (monLineOf (s.monLogLine (s.logIndex (i % 65536) + k))))).monPut (monLineOf [ascii "OK"]))))) ∧
   (∀ b : Bool, Happens (.monEv b) ses (fun s t => t = ((s.inc F.MON.LINES_RX).setFlag F.MON.MON_STAT_EV_ON b).monPut (monLineOf [ascii "OK"]))) ∧
   Happens .monBye out (fun s t => t = line s [ascii "OK"]) ∧
   Happens .monBye ses (fun s t => t = (((line s [ascii "OK"]).set F.MON.MON_STAT_SESSION 0).set F.MON.MON_STAT_EV_ON 0).raise EV_MONITOR_SESSION 0 0) ∧
   (∀ l : List Byte, 80 < l.length → Happens (.monitorLine l) on (fun s t => t = err s "LINE")) ∧
   (∀ s : State, exec (.monitorLine (ascii "ID")) s = exec .monId s ∧ exec (.monitorLine (ascii "NONCE")) s = exec .monNonce s ∧ exec (.monitorLine (ascii "ST")) s = exec .monSt s ∧
      exec (.monitorLine (ascii "BYE")) s = exec .monBye s ∧ exec (.monitorLine (ascii "EV ON")) s = exec (.monEv true) s ∧ exec (.monitorLine (ascii "RD 00000000 8")) s = exec (.monRd 0 8) s ∧
      exec (.monitorLine (ascii "LOG 12")) s = exec (.monLog 12 1) s) ∧
   Happens (.monitorLine (ascii "XYZ")) ses (fun s t => t = err s "CMD")) ∧
  Happens .monSessionTimeout (fun s => s.flag F.MON.MON_STAT_SESSION = true) (fun s t => t = ((s.set F.MON.MON_STAT_SESSION 0).set F.MON.MON_STAT_EV_ON 0).raise EV_MONITOR_SESSION 0 0) ∧
  Happens .monSessionTimeout (fun s => s.flag F.MON.MON_STAT_SESSION = false) Nothing ∧
  Happens .monLockoutEnd (fun _ => True) (fun s t => t = s.set F.MON.MON_STAT_LOCKOUT 0) ∧
  (∀ via seq, Does (.monitorControl via seq 1) (fun u => u.get F.MON.MON_CTRL_BAUD ≤ 2) (fun _ => []) (fun u t => OnlyRegs u t [F.MON.MON_CTRL_EN.addr] ∧ t.flag F.MON.MON_CTRL_EN = true ∧ t.get F.MON.MON_CTRL_BAUD = u.get F.MON.MON_CTRL_BAUD) ∧
    Does (.monitorControl via seq 0) (fun _ => True) (fun _ => []) (fun _ t => t.flag F.MON.MON_CTRL_EN = false ∧ t.flag F.MON.MON_STAT_SESSION = false ∧ t.mon.lines = [])) ∧
  (∀ via seq (e : Byte), 1 < e.toNat → TurnsAway (.monitorControl via seq e) (fun _ => True) 0x12 (fun _ => 0)) ∧
  (∀ (s : State) (l : List Byte), (s.monPut l).mon.lines.flatten.length ≤ max 4096 (s.mon.lines.flatten.length))

/-! ### Packets and returns (chapters 2 and 9) -/

/-- R26: HCHECK of a header is the ones'-complement of the 16-bit ones'-complement sum, with end-around carry, of its first ten bytes taken as five big-endian words, whatever they hold; the six words of a header that carries it sum to 0xFFFF. A
header built by the device passes its own check, and one that differs from a correct header in a single bit of its twelve bytes does not. -/
def Obligations.HeaderCheck : Prop :=
  (∀ w : Fin 5 → BitVec 16, let h := (List.finRange 5).flatMap (fun i => beBytes 2 (w i).toNat)
    let total := ((List.finRange 5).map (fun i => (w i).toNat)).sum
    (hcheck h < 65536 ∧ (0 < total → (hcheck h + total) % 65535 = 0 ∧ hcheck h ≠ 65535) ∧ (total = 0 → hcheck h = 65535)) ∧ onesSum (h ++ beBytes 2 (hcheck h)) = 65535) ∧
  (∀ flags tag op seq len : Nat, onesSum (packetHeader flags tag op seq len) = 65535) ∧
  (∀ (h : List Byte) (i : Fin 12) (b : Fin 8), h.length = 12 → onesSum h = 65535 → onesSum (h.set i (h.getD i 0 ^^^ BitVec.twoPow 8 b)) ≠ 65535)

/-- R199: a row that is absent, INVALID, NO_CAND or LOWSHOT yields no returns, and its row status is delivered with STEP, AMB and DUAL all the same. R206: of the returns of one row, those that stay lie apart by at least 256 DUP_SEP; each return that
goes is merged with one that stays, of the larger INTENSITY, or on a tie of no higher WIN. R210, R211: WINDOW and SAT are the row's. The returns stand by ascending RANGE. -/
def Obligations.RowReturns : Prop :=
  (∀ (s : State) (r : Nat) (x : RowBuf), let o := (s.extractRow r x).1
    (o.absent = true ↔ s.isolated (rowSlice r) = true ∨ s.fenced (rowRegion r) = true ∨ s.domOn (rowDom r) = false ∨ s.flag (F.ROW.ROW_CTRL_EN r) = false ∨ ∃ q ∈ maskCols x.mask, s.activeCells r q < 16) ∧
    (o.lowShot = true ↔ s.shotsOf (r / 128) 2 + s.shotsOf (r / 128) 3 < 2) ∧ o.invalid = x.invalid ∧ o.noCand = x.noCand ∧ o.row = r ∧ o.step = x.step ∧ o.amb = x.amb ∧ o.dual = x.dual ∧
    (o.absent = true ∨ o.invalid = true ∨ o.noCand = true ∨ o.lowShot = true → o.rets = [] ∧ (s.extractRow r x).2 = 0) ∧
    o.rets.length + (s.extractRow r x).2 ≤ x.wins.length ∧ o.rets.Pairwise (fun a b => a.range ≤ b.range) ∧
    ∀ q ∈ o.rets, q.sat = s.rowSat (r / 128) x ∧ q.win < x.wins.length ∧ q.range ≤ 4194303 ∧ q.inten ≤ 65535 ∧ q.conf ≤ 15 ∧
      q.window = decide (s.getAt 8 (F.PE.PE_WIN_WIN_FRAC (rowRegion r)) * (s.shotsOf (r / 128) 0 + s.shotsOf (r / 128) 1 + (s.shotsOf (r / 128) 2 + s.shotsOf (r / 128) 3)) ≤ 256 * x.window)) ∧
  (∀ (sep : Nat) (l : List Ret), (mergeRets sep l).Pairwise (fun a b => 256 * sep ≤ (a.tau - b.tau).natAbs) ∧ (∀ a ∈ mergeRets sep l, a ∈ l) ∧
    ∀ a ∈ l, a ∈ mergeRets sep l ∨ ∃ b ∈ mergeRets sep l, (b.tau - a.tau).natAbs < 256 * sep ∧ (a.inten < b.inten ∨ (a.inten = b.inten ∧ b.win ≤ a.win)))
end

