-- ==== Sys2Proof/Laws/Codec.lean ====
section
/-! SUPPORT. Lengths and values of big-endian fields, the range of the CRC-32C, and what runs of memory read as. -/

namespace Sys2Proof.Machine

/-! ### Big-endian fields -/

@[simp] theorem beBytes_length (n x : Nat) : (beBytes n x).length = n := by
  induction n with
  | zero => rfl
  | succ n ih => simp [beBytes, ih]

@[simp] theorem zeros_length (n : Nat) : (zeros n).length = n := by simp [zeros]

theorem ofBe_foldl (l : List Byte) (a : Nat) :
    l.foldl (fun a b => a * 256 + b.toNat) a = a * 256 ^ l.length + ofBe l := by
  induction l generalizing a with
  | nil => simp [ofBe]
  | cons b l ih =>
    rw [ofBe, List.foldl_cons, List.foldl_cons, ih, ih (0 * 256 + b.toNat), List.length_cons, Nat.pow_succ, ofBe]
    simp only [Nat.add_mul, Nat.zero_mul, Nat.zero_add, Nat.mul_assoc, Nat.mul_comm 256, Nat.add_assoc]

theorem ofBe_cons (b : Byte) (l : List Byte) : ofBe (b :: l) = b.toNat * 256 ^ l.length + ofBe l := by
  rw [ofBe, List.foldl_cons, ofBe_foldl]; simp [ofBe]

/-- A field reads back what it was given, modulo its width. -/
theorem ofBe_beBytes (n x : Nat) : ofBe (beBytes n x) = x % 256 ^ n := by
  induction n with
  | zero => simp [beBytes, ofBe, Nat.mod_one]
  | succ n ih =>
    rw [beBytes, ofBe_cons, ih, beBytes_length, BitVec.toNat_ofNat, show (2 : Nat) ^ 8 = 256 from rfl, Nat.pow_succ, Nat.mod_mul (x := x),
      Nat.mul_comm, Nat.add_comm]

/-! ### The CRC-32C -/

theorem crcBit_lt (c : Nat) (h : c < 2 ^ 32) : crcBit c < 2 ^ 32 := by
  rw [crcBit]
  split
  · exact Nat.xor_lt_two_pow (by omega) (by omega)
  · omega

theorem crcByte_lt (c : Nat) (b : Byte) (h : c < 2 ^ 32) : crcByte c b < 2 ^ 32 := by
  have hb : c ^^^ b.toNat < 2 ^ 32 := Nat.xor_lt_two_pow h (Nat.lt_trans b.isLt (by decide))
  rw [crcByte]
  iterate 8 apply crcBit_lt
  exact hb

/-- R27: a CRC has 32 bits. -/
theorem crc32c_lt (l : List Byte) : crc32c l < 2 ^ 32 := by
  have fold : ∀ (l : List Byte) (c : Nat), c < 2 ^ 32 → l.foldl crcByte c < 2 ^ 32 := by
    intro l
    induction l with
    | nil => intro c h; exact h
    | cons b l ih => intro c h; exact ih _ (crcByte_lt c b h)
  exact Nat.xor_lt_two_pow (fold l _ (by decide)) (by decide)

/-! ### Runs of memory -/

theorem spGetList_append {α : Type} (d : Nat → α) (m : List (Nat × α)) (k a b : Nat) :
    spGetList d m k (a + b) = spGetList d m k a ++ spGetList d m (k + a) b := by
  induction a generalizing k with
  | zero => simp [spGetList]
  | succ a ih => rw [Nat.add_right_comm, spGetList, ih, spGetList, List.cons_append, Nat.add_right_comm k 1 a, Nat.add_assoc k a 1]

@[simp] theorem spGetList_length {α : Type} (d : Nat → α) (m : List (Nat × α)) (k n : Nat) : (spGetList d m k n).length = n := by
  induction n generalizing k with
  | zero => rfl
  | succ n ih => simp [spGetList, ih]

theorem spGet_unlisted {α : Type} (d : Nat → α) (m : List (Nat × α)) (k : Nat) (h : ∀ e ∈ m, e.1 ≠ k) : spGet d m k = d k := by
  induction m with
  | nil => rfl
  | cons e m ih =>
    rw [spGet, if_neg (fun hk => h e (by simp) hk.symm)]
    exact ih (fun e' h' => h e' (by simp [h']))

/-- A run that no entry lies in reads the value of unlisted keys. -/
theorem spGetList_unlisted {α : Type} (v : α) (m : List (Nat × α)) (k n : Nat) (h : ∀ e ∈ m, e.1 < k ∨ k + n ≤ e.1) :
    spGetList (fun _ => v) m k n = List.replicate n v := by
  induction n generalizing k with
  | zero => rfl
  | succ n ih =>
    rw [spGetList, spGet_unlisted _ _ _ (fun e he => by have := h e he; omega), List.replicate_succ, ih]
    intro e he
    have := h e he
    omega

/-- Entries for the values of a list at consecutive keys. -/
def cellsAt {α : Type} (k : Nat) : List α → List (Nat × α)
  | [] => []
  | v :: l => (k, v) :: cellsAt (k + 1) l

theorem mem_cellsAt {α : Type} (l : List α) (k : Nat) (e : Nat × α) (h : e ∈ cellsAt k l) : k ≤ e.1 ∧ e.1 < k + l.length := by
  induction l generalizing k with
  | nil => simp [cellsAt] at h
  | cons v l ih =>
    simp only [cellsAt, List.mem_cons] at h
    rcases h with rfl | h
    · simp
    · have := ih (k + 1) h
      simp only [List.length_cons]
      omega

/-- Entries below a run do not show in it. -/
theorem spGetList_skip {α : Type} (d : Nat → α) (m r : List (Nat × α)) (k n : Nat) (h : ∀ e ∈ m, e.1 < k) :
    spGetList d (m ++ r) k n = spGetList d r k n := by
  have one : ∀ k, (∀ e ∈ m, e.1 < k) → spGet d (m ++ r) k = spGet d r k := by
    clear h
    intro k h
    induction m with
    | nil => rfl
    | cons e m ih =>
      have := h e (by simp)
      rw [List.cons_append, spGet, if_neg (by omega)]
      exact ih (fun e' h' => h e' (by simp [h']))
  induction n generalizing k with
  | zero => rfl
  | succ n ih => rw [spGetList, spGetList, one k h, ih (k + 1) (fun e he => by have := h e he; omega)]

/-- A part of a run of listed values, whatever lies after it. -/
theorem spGetList_cellsAt {α : Type} (d : Nat → α) (l : List α) (r : List (Nat × α)) (k off n : Nat) (h : off + n ≤ l.length) :
    spGetList d (cellsAt k l ++ r) (k + off) n = (l.drop off).take n := by
  induction off generalizing k l with
  | zero =>
    induction n generalizing k l with
    | zero => simp [spGetList]
    | succ n ih =>
      match l, h with
      | v :: l, h =>
        rw [spGetList, cellsAt, List.cons_append, spGet, Nat.add_zero, if_pos rfl,
          show (k, v) :: (cellsAt (k + 1) l ++ r) = [(k, v)] ++ (cellsAt (k + 1) l ++ r) from rfl, spGetList_skip _ _ _ _ _ (by simp)]
        have := ih l (k + 1) (by simp only [List.length_cons] at h; omega)
        rw [Nat.add_zero] at this
        rw [this]
        simp
  | succ off ih =>
    match l, h with
    | v :: l, h =>
      rw [cellsAt, List.cons_append, show (k, v) :: (cellsAt (k + 1) l ++ r) = [(k, v)] ++ (cellsAt (k + 1) l ++ r) from rfl,
        spGetList_skip _ _ _ _ _ (by simp), show k + (off + 1) = k + 1 + off from by omega,
        ih l (k + 1) (by simp only [List.length_cons] at h; omega)]
      simp
    | [], h => simp at h

end Sys2Proof.Machine
end

