-- ==== Sys2Proof/Laws/Exec.lean ====
section
/-! SUPPORT. One equation per arm of `exec`: what each command row answers, so that no proof unfolds the dispatch; the packet rows as packets. -/

namespace Sys2Proof.Machine

@[simp] theorem exec_spiWriteFrame (s : State) (bytes : List Byte) : exec (.spiWriteFrame bytes) s = .next (s.spiWrite bytes) := by rfl
@[simp] theorem exec_spiReadFrame (s : State) (clocked : Nat) : exec (.spiReadFrame clocked) s = .next (s.spiRead clocked) := by rfl
@[simp] theorem exec_spiIgnoredFrame (s : State) (first : Byte) : exec (.spiIgnoredFrame first) s = .next (s.spiOther first) := by rfl
@[simp] theorem exec_udpCommandDatagram (s : State) (src : Peer) (bytes : List Byte) : exec (.udpCommandDatagram src bytes) s = .next (s.udpIn src bytes) := by rfl
@[simp] theorem exec_oazilUpstreamBlock (s : State) (bytes : List Byte) : exec (.oazilUpstreamBlock bytes) s = .next (s.oazilIn bytes) := by rfl
@[simp] theorem exec_controlBlockReceived (s : State) (bytes : List Byte) : exec (.controlBlockReceived bytes) s = .next (s.oazilIn bytes) := by rfl
@[simp] theorem exec_eventPacketSend (s : State) (via : Port) : exec (.eventPacketSend via) s = .next (State.settle (s.eventPacket via)) := by rfl
@[simp] theorem exec_ping (s : State) (via : Port) (seq : BitVec 16) : exec (.ping via seq) s = .next (s.packetIn via seq 0x0001 ([])) := by rfl
@[simp] theorem exec_identify (s : State) (via : Port) (seq : BitVec 16) : exec (.identify via seq) s = .next (s.packetIn via seq 0x0002 ([])) := by rfl
@[simp] theorem exec_status (s : State) (via : Port) (seq : BitVec 16) : exec (.status via seq) s = .next (s.packetIn via seq 0x0003 ([])) := by rfl
@[simp] theorem exec_sessionReset (s : State) (via : Port) (seq : BitVec 16) : exec (.sessionReset via seq) s = .next (s.packetIn via seq 0x0004 ([])) := by rfl
@[simp] theorem exec_cmdStatus (s : State) (via : Port) (seq : BitVec 16) (target : BitVec 16) : exec (.cmdStatus via seq target) s = .next (s.packetIn via seq 0x0005 (beBytes 2 target.toNat ++ zeros 2)) := by rfl
@[simp] theorem exec_regRead (s : State) (via : Port) (seq : BitVec 16) (addr : BitVec 32) (count : BitVec 16) : exec (.regRead via seq addr count) s = .next (s.packetIn via seq 0x0008 (regReadPayload addr.toNat count.toNat)) := by rfl
@[simp] theorem exec_regWrite (s : State) (via : Port) (seq : BitVec 16) (addr : BitVec 32) (values : List Word) : exec (.regWrite via seq addr values) s = .next (s.packetIn via seq 0x0009 (regWritePayload addr.toNat values)) := by rfl
@[simp] theorem exec_regRmw (s : State) (via : Port) (seq : BitVec 16) (addr mask value : BitVec 32) : exec (.regRmw via seq addr mask value) s = .next (s.packetIn via seq 0x000A (beBytes 4 addr.toNat ++ beBytes 4 mask.toNat ++ beBytes 4 value.toNat)) := by rfl
@[simp] theorem exec_dormant (s : State) (via : Port) (seq : BitVec 16) : exec (.dormant via seq) s = .next (s.packetIn via seq 0x0010 ([])) := by rfl
@[simp] theorem exec_safeHold (s : State) (via : Port) (seq : BitVec 16) : exec (.safeHold via seq) s = .next (s.packetIn via seq 0x0011 ([])) := by rfl
@[simp] theorem exec_faultClear (s : State) (via : Port) (seq : BitVec 16) : exec (.faultClear via seq) s = .next (s.packetIn via seq 0x0012 ([])) := by rfl
@[simp] theorem exec_eventSubscribe (s : State) (via : Port) (seq : BitVec 16) (mask : BitVec 256) : exec (.eventSubscribe via seq mask) s = .next (s.packetIn via seq 0x0014 (maskBytes mask)) := by rfl
@[simp] theorem exec_scanStart (s : State) (via : Port) (seq : BitVec 16) (profile flags : Byte) : exec (.scanStart via seq profile flags) s = .next (s.packetIn via seq 0x0100 ([profile, flags] ++ zeros 2)) := by rfl
@[simp] theorem exec_scanStop (s : State) (via : Port) (seq : BitVec 16) : exec (.scanStop via seq) s = .next (s.packetIn via seq 0x0101 ([])) := by rfl
@[simp] theorem exec_profileOverride (s : State) (via : Port) (seq : BitVec 16) (profile : Byte) (field : BitVec 16) (value : BitVec 32) : exec (.profileOverride via seq profile field value) s = .next (s.packetIn via seq 0x0102 ([profile, 0] ++ beBytes 2 field.toNat ++ beBytes 4 value.toNat)) := by rfl
@[simp] theorem exec_profileRead (s : State) (via : Port) (seq : BitVec 16) (profile : Byte) : exec (.profileRead via seq profile) s = .next (s.packetIn via seq 0x0103 ([profile] ++ zeros 3)) := by rfl
@[simp] theorem exec_histDump (s : State) (via : Port) (seq : BitVec 16) (firstRow rows columns : BitVec 16) (parts : Byte) : exec (.histDump via seq firstRow rows columns parts) s = .next (s.packetIn via seq 0x0108 (beBytes 2 firstRow.toNat ++ beBytes 2 rows.toNat ++ beBytes 2 columns.toNat ++ [parts, 0])) := by rfl
@[simp] theorem exec_histDumpCancel (s : State) (via : Port) (seq : BitVec 16) : exec (.histDumpCancel via seq) s = .next (s.packetIn via seq 0x0109 ([])) := by rfl
@[simp] theorem exec_emitterInhibit (s : State) (via : Port) (seq : BitVec 16) (inhibit : Byte) : exec (.emitterInhibit via seq inhibit) s = .next (s.packetIn via seq 0x0200 ([inhibit] ++ zeros 3)) := by rfl
@[simp] theorem exec_stringEnable (s : State) (via : Port) (seq : BitVec 16) (mask : BitVec 32) : exec (.stringEnable via seq mask) s = .next (s.packetIn via seq 0x0201 (beBytes 4 mask.toNat)) := by rfl
@[simp] theorem exec_chargeTest (s : State) (via : Port) (seq : BitVec 16) (string : Byte) (target : BitVec 16) : exec (.chargeTest via seq string target) s = .next (s.packetIn via seq 0x0202 ([string, 0] ++ beBytes 2 target.toNat)) := by rfl
@[simp] theorem exec_limiterRead (s : State) (via : Port) (seq : BitVec 16) : exec (.limiterRead via seq) s = .next (s.packetIn via seq 0x0203 ([])) := by rfl
@[simp] theorem exec_triggerConfig (s : State) (via : Port) (seq : BitVec 16) (input bankMask edge : Byte) : exec (.triggerConfig via seq input bankMask edge) s = .next (s.packetIn via seq 0x0204 ([input, bankMask, edge, 0])) := by rfl
@[simp] theorem exec_loopMode (s : State) (via : Port) (seq : BitVec 16) (loop mode : Byte) : exec (.loopMode via seq loop mode) s = .next (s.packetIn via seq 0x0300 ([loop, mode] ++ zeros 2)) := by rfl
@[simp] theorem exec_loopCoefSet (s : State) (via : Port) (seq : BitVec 16) (loop : Byte) (coef : List Word) : exec (.loopCoefSet via seq loop coef) s = .next (s.packetIn via seq 0x0301 ([loop] ++ zeros 3 ++ wordBytes coef)) := by rfl
@[simp] theorem exec_loopSetpoint (s : State) (via : Port) (seq : BitVec 16) (loop : Byte) (sp : BitVec 32) : exec (.loopSetpoint via seq loop sp) s = .next (s.packetIn via seq 0x0302 ([loop] ++ zeros 3 ++ beBytes 4 sp.toNat)) := by rfl
@[simp] theorem exec_loopRead (s : State) (via : Port) (seq : BitVec 16) (loop : Byte) : exec (.loopRead via seq loop) s = .next (s.packetIn via seq 0x0303 ([loop] ++ zeros 3)) := by rfl
@[simp] theorem exec_trajectoryLoad (s : State) (via : Port) (seq : BitVec 16) (first : BitVec 16) (entries : List Word) : exec (.trajectoryLoad via seq first entries) s = .next (s.packetIn via seq 0x0304 (beBytes 2 first.toNat ++ beBytes 2 entries.length ++ wordBytes entries)) := by rfl
@[simp] theorem exec_camConfig (s : State) (via : Port) (seq : BitVec 16) (camera : Byte) (block : List Byte) : exec (.camConfig via seq camera block) s = .next (s.packetIn via seq 0x0400 ([camera] ++ zeros 3 ++ block)) := by rfl
@[simp] theorem exec_camRun (s : State) (via : Port) (seq : BitVec 16) (camera run : Byte) : exec (.camRun via seq camera run) s = .next (s.packetIn via seq 0x0401 ([camera, run] ++ zeros 2)) := by rfl
@[simp] theorem exec_pipeContextSet (s : State) (via : Port) (seq : BitVec 16) (context stage : Byte) (data : List Byte) : exec (.pipeContextSet via seq context stage data) s = .next (s.packetIn via seq 0x0402 ([context, stage] ++ beBytes 2 data.length ++ data)) := by rfl
@[simp] theorem exec_statsRequest (s : State) (via : Port) (seq : BitVec 16) (context : Byte) : exec (.statsRequest via seq context) s = .next (s.packetIn via seq 0x0403 ([context] ++ zeros 3)) := by rfl
@[simp] theorem exec_reprocess (s : State) (via : Port) (seq : BitVec 16) (context : Byte) (addr : BitVec 64) : exec (.reprocess via seq context addr) s = .next (s.packetIn via seq 0x0404 ([context] ++ zeros 3 ++ beBytes 8 addr.toNat)) := by rfl
@[simp] theorem exec_dispMode (s : State) (via : Port) (seq : BitVec 16) (display : Byte) (block : List Byte) : exec (.dispMode via seq display block) s = .next (s.packetIn via seq 0x0500 ([display] ++ zeros 3 ++ block)) := by rfl
@[simp] theorem exec_layerSet (s : State) (via : Port) (seq : BitVec 16) (display layer : Byte) (block : List Byte) : exec (.layerSet via seq display layer block) s = .next (s.packetIn via seq 0x0501 ([display, layer] ++ zeros 2 ++ block)) := by rfl
@[simp] theorem exec_commit (s : State) (via : Port) (seq : BitVec 16) (display : Byte) : exec (.commit via seq display) s = .next (s.packetIn via seq 0x0502 ([display] ++ zeros 3)) := by rfl
@[simp] theorem exec_dispRun (s : State) (via : Port) (seq : BitVec 16) (display run : Byte) : exec (.dispRun via seq display run) s = .next (s.packetIn via seq 0x0503 ([display, run] ++ zeros 2)) := by rfl
@[simp] theorem exec_linkTrain (s : State) (via : Port) (seq : BitVec 16) (port rate : Byte) : exec (.linkTrain via seq port rate) s = .next (s.packetIn via seq 0x0600 ([port, rate] ++ zeros 2)) := by rfl
@[simp] theorem exec_linkStatus (s : State) (via : Port) (seq : BitVec 16) (port : Byte) : exec (.linkStatus via seq port) s = .next (s.packetIn via seq 0x0601 ([port] ++ zeros 3)) := by rfl
@[simp] theorem exec_timeRead (s : State) (via : Port) (seq : BitVec 16) : exec (.timeRead via seq) s = .next (s.packetIn via seq 0x0602 ([])) := by rfl
@[simp] theorem exec_timeConfig (s : State) (via : Port) (seq : BitVec 16) (block : List Byte) : exec (.timeConfig via seq block) s = .next (s.packetIn via seq 0x0603 (block)) := by rfl
@[simp] theorem exec_netConfig (s : State) (via : Port) (seq : BitVec 16) (ip mask gw : BitVec 32) (vlan : BitVec 16) : exec (.netConfig via seq ip mask gw vlan) s = .next (s.packetIn via seq 0x0604 (beBytes 4 ip.toNat ++ beBytes 4 mask.toNat ++ beBytes 4 gw.toNat ++ beBytes 2 vlan.toNat ++ zeros 2)) := by rfl
@[simp] theorem exec_syncConfig (s : State) (via : Port) (seq : BitVec 16) (role : Byte) (slotOffset : BitVec 32) : exec (.syncConfig via seq role slotOffset) s = .next (s.packetIn via seq 0x0605 ([role] ++ zeros 3 ++ beBytes 4 slotOffset.toNat)) := by rfl
@[simp] theorem exec_safetyStatus (s : State) (via : Port) (seq : BitVec 16) : exec (.safetyStatus via seq) s = .next (s.packetIn via seq 0x0700 ([])) := by rfl
@[simp] theorem exec_commissionOpen (s : State) (via : Port) (seq : BitVec 16) (credential : List Byte) : exec (.commissionOpen via seq credential) s = .next (s.packetIn via seq 0x0701 (credential)) := by rfl
@[simp] theorem exec_fieldWrite (s : State) (via : Port) (seq : BitVec 16) (session : BitVec 32) (field vertices : Byte) (block : List Byte) : exec (.fieldWrite via seq session field vertices block) s = .next (s.packetIn via seq 0x0702 (beBytes 4 session.toNat ++ [field, vertices] ++ zeros 2 ++ block)) := by rfl
@[simp] theorem exec_safetyParamWrite (s : State) (via : Port) (seq : BitVec 16) (session : BitVec 32) (param : BitVec 16) (value : BitVec 32) : exec (.safetyParamWrite via seq session param value) s = .next (s.packetIn via seq 0x0703 (beBytes 4 session.toNat ++ beBytes 2 param.toNat ++ zeros 2 ++ beBytes 4 value.toNat)) := by rfl
@[simp] theorem exec_commissionCommit (s : State) (via : Port) (seq : BitVec 16) (session crc : BitVec 32) : exec (.commissionCommit via seq session crc) s = .next (s.packetIn via seq 0x0704 (beBytes 4 session.toNat ++ beBytes 4 crc.toNat)) := by rfl
@[simp] theorem exec_commissionAbort (s : State) (via : Port) (seq : BitVec 16) (session : BitVec 32) : exec (.commissionAbort via seq session) s = .next (s.packetIn via seq 0x0705 (beBytes 4 session.toNat)) := by rfl
@[simp] theorem exec_hkConfig (s : State) (via : Port) (seq : BitVec 16) (block : List Byte) : exec (.hkConfig via seq block) s = .next (s.packetIn via seq 0x0800 (block)) := by rfl
@[simp] theorem exec_hkUrgent (s : State) (via : Port) (seq : BitVec 16) (slot : Byte) : exec (.hkUrgent via seq slot) s = .next (s.packetIn via seq 0x0801 ([slot] ++ zeros 3)) := by rfl
@[simp] theorem exec_filterSync (s : State) (via : Port) (seq : BitVec 16) : exec (.filterSync via seq) s = .next (s.packetIn via seq 0x0802 ([])) := by rfl
@[simp] theorem exec_tiaRange (s : State) (via : Port) (seq : BitVec 16) (channel range : Byte) : exec (.tiaRange via seq channel range) s = .next (s.packetIn via seq 0x0803 ([channel, range] ++ zeros 2)) := by rfl
@[simp] theorem exec_thermalRead (s : State) (via : Port) (seq : BitVec 16) : exec (.thermalRead via seq) s = .next (s.packetIn via seq 0x0804 ([])) := by rfl
@[simp] theorem exec_calRun (s : State) (via : Port) (seq : BitVec 16) (items : BitVec 16) : exec (.calRun via seq items) s = .next (s.packetIn via seq 0x0805 (beBytes 2 items.toNat ++ zeros 2)) := by rfl
@[simp] theorem exec_calRecordRead (s : State) (via : Port) (seq : BitVec 16) (record : BitVec 16) : exec (.calRecordRead via seq record) s = .next (s.packetIn via seq 0x0806 (beBytes 2 record.toNat ++ zeros 2)) := by rfl
@[simp] theorem exec_auxoutSet (s : State) (via : Port) (seq : BitVec 16) (value : BitVec 32) : exec (.auxoutSet via seq value) s = .next (s.packetIn via seq 0x0807 (beBytes 4 value.toNat)) := by rfl
@[simp] theorem exec_illSet (s : State) (via : Port) (seq : BitVec 16) (mask : Byte) (level : BitVec 16) : exec (.illSet via seq mask level) s = .next (s.packetIn via seq 0x0808 ([mask, 0] ++ beBytes 2 level.toNat)) := by rfl
@[simp] theorem exec_recorderArm (s : State) (via : Port) (seq : BitVec 16) (block : List Byte) : exec (.recorderArm via seq block) s = .next (s.packetIn via seq 0x0900 (block)) := by rfl
@[simp] theorem exec_recorderForce (s : State) (via : Port) (seq : BitVec 16) : exec (.recorderForce via seq) s = .next (s.packetIn via seq 0x0901 ([])) := by rfl
@[simp] theorem exec_recorderRead (s : State) (via : Port) (seq : BitVec 16) (capture : Byte) : exec (.recorderRead via seq capture) s = .next (s.packetIn via seq 0x0902 ([capture] ++ zeros 3)) := by rfl
@[simp] theorem exec_faultLogRead (s : State) (via : Port) (seq : BitVec 16) (first count : BitVec 16) : exec (.faultLogRead via seq first count) s = .next (s.packetIn via seq 0x0903 (beBytes 2 first.toNat ++ beBytes 2 count.toNat)) := by rfl
@[simp] theorem exec_classCountersRead (s : State) (via : Port) (seq : BitVec 16) : exec (.classCountersRead via seq) s = .next (s.packetIn via seq 0x0904 ([])) := by rfl
@[simp] theorem exec_monitorControl (s : State) (via : Port) (seq : BitVec 16) (enable : Byte) : exec (.monitorControl via seq enable) s = .next (s.packetIn via seq 0x0905 ([enable] ++ zeros 3)) := by rfl
@[simp] theorem exec_compConfig (s : State) (via : Port) (seq : BitVec 16) (level context : Byte) : exec (.compConfig via seq level context) s = .next (s.packetIn via seq 0x0A00 ([level, context] ++ zeros 2)) := by rfl
@[simp] theorem exec_compContextSave (s : State) (via : Port) (seq : BitVec 16) (context : Byte) (addr : BitVec 64) : exec (.compContextSave via seq context addr) s = .next (s.packetIn via seq 0x0A01 ([context] ++ zeros 3 ++ beBytes 8 addr.toNat)) := by rfl
@[simp] theorem exec_compContextRestore (s : State) (via : Port) (seq : BitVec 16) (context : Byte) (addr : BitVec 64) : exec (.compContextRestore via seq context addr) s = .next (s.packetIn via seq 0x0A02 ([context] ++ zeros 3 ++ beBytes 8 addr.toNat)) := by rfl
@[simp] theorem exec_decompress (s : State) (via : Port) (seq : BitVec 16) (src : BitVec 64) (srcLen : BitVec 32) (dst : BitVec 64) (limit : BitVec 32) : exec (.decompress via seq src srcLen dst limit) s = .next (s.packetIn via seq 0x0A03 (beBytes 8 src.toNat ++ beBytes 4 srcLen.toNat ++ beBytes 8 dst.toNat ++ beBytes 4 limit.toNat)) := by rfl
@[simp] theorem exec_flashRead (s : State) (via : Port) (seq : BitVec 16) (addr : BitVec 32) (length : BitVec 16) : exec (.flashRead via seq addr length) s = .next (s.packetIn via seq 0x0A04 (beBytes 4 addr.toNat ++ beBytes 2 length.toNat ++ zeros 2)) := by rfl
@[simp] theorem exec_fwInfo (s : State) (via : Port) (seq : BitVec 16) : exec (.fwInfo via seq) s = .next (s.packetIn via seq 0x0F00 ([])) := by rfl
@[simp] theorem exec_fwBegin (s : State) (via : Port) (seq : BitVec 16) (slot : Byte) (length : BitVec 32) : exec (.fwBegin via seq slot length) s = .next (s.packetIn via seq 0x0F01 ([slot] ++ zeros 3 ++ beBytes 4 length.toNat)) := by rfl
@[simp] theorem exec_fwWrite (s : State) (via : Port) (seq : BitVec 16) (offset : BitVec 32) (data : List Byte) : exec (.fwWrite via seq offset data) s = .next (s.packetIn via seq 0x0F02 (beBytes 4 offset.toNat ++ beBytes 2 data.length ++ zeros 2 ++ data)) := by rfl
@[simp] theorem exec_fwVerify (s : State) (via : Port) (seq : BitVec 16) : exec (.fwVerify via seq) s = .next (s.packetIn via seq 0x0F03 ([])) := by rfl
@[simp] theorem exec_fwActivate (s : State) (via : Port) (seq : BitVec 16) (slot : Byte) : exec (.fwActivate via seq slot) s = .next (s.packetIn via seq 0x0F04 ([slot] ++ zeros 3)) := by rfl
@[simp] theorem exec_reboot (s : State) (via : Port) (seq : BitVec 16) : exec (.reboot via seq) s = .next (s.packetIn via seq 0x0F05 ([])) := by rfl
@[simp] theorem exec_pwrDomReqWrite (s : State) (via : Port) (seq : BitVec 16) (index : Fin 3) (value : BitVec 32) : exec (.pwrDomReqWrite via seq index value) s = .next (s.write1 via seq (F.SYS.PWR_DOM_REQ0_REQ.addr + 4 * index.val) (value)) := by rfl
@[simp] theorem exec_emitInhibitLatchWrite (s : State) (via : Port) (seq : BitVec 16) (value : BitVec 32) : exec (.emitInhibitLatchWrite via seq value) s = .next (s.write1 via seq (F.SHT.EMIT_INHIBIT_LATCH_SRC.addr) (value)) := by rfl
@[simp] theorem exec_stringFaultClear (s : State) (via : Port) (seq : BitVec 16) (string : Fin 32) (value : BitVec 32) : exec (.stringFaultClear via seq string value) s = .next (s.write1 via seq ((F.STR.STR_STAT_LIVE string).addr) (value)) := by rfl
@[simp] theorem exec_pickoffLostClear (s : State) (via : Port) (seq : BitVec 16) (bank : Fin 8) (value : BitVec 32) : exec (.pickoffLostClear via seq bank value) s = .next (s.write1 via seq ((F.BNK.BANK_STAT_PICKOFF_LOST bank).addr) (value)) := by rfl
@[simp] theorem exec_derateCfgWrite (s : State) (via : Port) (seq : BitVec 16) (value : BitVec 32) : exec (.derateCfgWrite via seq value) s = .next (s.write1 via seq (F.SHT.DERATE_CFG_FLOOR.addr) (value)) := by rfl
@[simp] theorem exec_loopSwapWrite (s : State) (via : Port) (seq : BitVec 16) (loop : Fin 8) : exec (.loopSwapWrite via seq loop) s = .next (s.write1 via seq ((F.LOOP.LOOP_CTRL_SWAP loop).addr) (BitVec.ofNat 32 (s.view (F.LOOP.LOOP_CTRL_SWAP loop).addr) ||| 0x10)) := by rfl
@[simp] theorem exec_loopRateWrite (s : State) (via : Port) (seq : BitVec 16) (loop : Fin 8) (value : BitVec 32) : exec (.loopRateWrite via seq loop value) s = .next (s.write1 via seq ((F.LOOP.LOOP_RATE_DIV loop).addr) (value)) := by rfl
@[simp] theorem exec_fbLatchClear (s : State) (via : Port) (seq : BitVec 16) (loop : Fin 8) (value : BitVec 32) : exec (.fbLatchClear via seq loop value) s = .next (s.write1 via seq ((F.LOOP.LOOP_STAT_FB_LOST loop).addr) (value)) := by rfl
@[simp] theorem exec_hvOvpClear (s : State) (via : Port) (seq : BitVec 16) : exec (.hvOvpClear via seq) s = .next (s.write1 via seq (F.RX.RX_STAT_HV_OVP.addr) (0x20)) := by rfl
@[simp] theorem exec_cellMapWrite (s : State) (via : Port) (seq : BitVec 16) (row : Fin 1024) (q : Fin 8) (lo hi : BitVec 32) : exec (.cellMapWrite via seq row q lo hi) s = .next (s.packetIn via seq 0x0009 (regWritePayload ((F.ROW.EN_LO row q).addr) [lo, hi])) := by rfl
@[simp] theorem exec_ladderWrite (s : State) (via : Port) (seq : BitVec 16) (step : Fin 6) (value : BitVec 32) : exec (.ladderWrite via seq step value) s = .next (s.write1 via seq ((F.RX.LADDER_K step).addr) (value)) := by rfl
@[simp] theorem exec_slcEccInjWrite (s : State) (via : Port) (seq : BitVec 16) (slice : Fin 128) (value : BitVec 32) : exec (.slcEccInjWrite via seq slice value) s = .next (s.write1 via seq ((F.SLC.SLC_ECC_INJ_BITS slice).addr) (value)) := by rfl
@[simp] theorem exec_tapMapWrite (s : State) (via : Port) (seq : BitVec 16) (ch : Fin 12) (w0 w1 w2 : BitVec 32) : exec (.tapMapWrite via seq ch w0 w1 w2) s = .next (s.packetIn via seq 0x0009 (regWritePayload ((F.CH.CH_TAPMAP0_MAP ch).addr) [w0, w1, w2])) := by rfl
@[simp] theorem exec_linTableWrite (s : State) (via : Port) (seq : BitVec 16) (ch : Fin 12) (first : Fin 64) (values : List Word) : exec (.linTableWrite via seq ch first values) s = .next (s.packetIn via seq 0x0009 (regWritePayload (linWord ch first) values)) := by rfl
@[simp] theorem exec_qPopWrite (s : State) (via : Port) (seq : BitVec 16) (ch : Fin 12) : exec (.qPopWrite via seq ch) s = .next (s.write1 via seq ((F.CH.Q_POP_POP ch).addr) (1)) := by rfl
@[simp] theorem exec_psCtrlWrite (s : State) (via : Port) (seq : BitVec 16) (value : BitVec 32) : exec (.psCtrlWrite via seq value) s = .next (s.write1 via seq (F.PS.PS_CTRL_EN.addr) (value)) := by rfl
@[simp] theorem exec_ovfConfigWrite (s : State) (via : Port) (seq : BitVec 16) (addr : BitVec 32) (values : List Word) : exec (.ovfConfigWrite via seq addr values) s = .next (s.packetIn via seq 0x0009 (regWritePayload (addr.toNat) values)) := by rfl
@[simp] theorem exec_fusCtrlWrite (s : State) (via : Port) (seq : BitVec 16) (value : BitVec 32) : exec (.fusCtrlWrite via seq value) s = .next (s.write1 via seq (F.FUS.FUS_CTRL_EN.addr) (value)) := by rfl
@[simp] theorem exec_commitReqWrite (s : State) (via : Port) (seq : BitVec 16) (disp : Fin 2) : exec (.commitReqWrite via seq disp) s = .next (s.write1 via seq ((F.DSP.DISP_CTRL_COMMIT_REQ disp).addr) (1)) := by rfl
@[simp] theorem exec_tbTimeLoRead (s : State) (via : Port) (seq : BitVec 16) : exec (.tbTimeLoRead via seq) s = .next (s.packetIn via seq 0x0008 (regReadPayload F.TB.TB_TIME_LO.addr 1)) := by rfl
@[simp] theorem exec_illFaultClear (s : State) (via : Port) (seq : BitVec 16) (string : Fin 4) (value : BitVec 32) : exec (.illFaultClear via seq string value) s = .next (s.write1 via seq ((F.ILS.ILL_STR_STAT_OPEN string).addr) (value)) := by rfl
@[simp] theorem exec_illThermWrite (s : State) (via : Port) (seq : BitVec 16) (value : BitVec 32) : exec (.illThermWrite via seq value) s = .next (s.write1 via seq (F.ILL.ILL_THERM_OFF.addr) (value)) := by rfl
@[simp] theorem exec_fmFirstClear (s : State) (via : Port) (seq : BitVec 16) : exec (.fmFirstClear via seq) s = .next (s.write1 via seq (F.FM.FM_FIRST_VALID.addr) (0x80000000)) := by rfl
@[simp] theorem exec_fmClassWrite (s : State) (via : Port) (seq : BitVec 16) (index : Fin 16) (value : BitVec 32) : exec (.fmClassWrite via seq index value) s = .next (s.write1 via seq ((F.FM.FM_CLASS_CLASS index).addr) (value)) := by rfl
@[simp] theorem exec_peConfigWrite (s : State) (via : Port) (seq : BitVec 16) (addr : BitVec 32) (values : List Word) : exec (.peConfigWrite via seq addr values) s = .next (s.packetIn via seq 0x0009 (regWritePayload (addr.toNat) values)) := by rfl
@[simp] theorem exec_pipeCfgWrite (s : State) (via : Port) (seq : BitVec 16) (addr : BitVec 32) (values : List Word) : exec (.pipeCfgWrite via seq addr values) s = .next (s.packetIn via seq 0x0009 (regWritePayload (addr.toNat) values)) := by rfl
@[simp] theorem exec_latCfgWrite (s : State) (via : Port) (seq : BitVec 16) (value : BitVec 32) : exec (.latCfgWrite via seq value) s = .next (s.write1 via seq (F.MEM.LAT_CFG_SR_WAKE.addr) (value)) := by rfl
@[simp] theorem exec_thermalThresholdWrite (s : State) (via : Port) (seq : BitVec 16) (addr : BitVec 32) (value : BitVec 32) : exec (.thermalThresholdWrite via seq addr value) s = .next (s.write1 via seq (addr.toNat) (value)) := by rfl
@[simp] theorem exec_tiaCfgWrite (s : State) (via : Port) (seq : BitVec 16) (ch : Fin 4) (value : BitVec 32) : exec (.tiaCfgWrite via seq ch value) s = .next (s.write1 via seq ((F.TIA.TIA_CFG_EN ch).addr) (value)) := by rfl
@[simp] theorem exec_wmCtrlWrite (s : State) (via : Port) (seq : BitVec 16) (value : BitVec 32) : exec (.wmCtrlWrite via seq value) s = .next (s.write1 via seq (F.HK.WM_CTRL_AUTO.addr) (value)) := by rfl
@[simp] theorem exec_dormantEntryBegin (s : State) : exec (.dormantEntryBegin) s = .next (State.settle (s.dormantBegin)) := by rfl
@[simp] theorem exec_dormantEntryComplete (s : State) : exec (.dormantEntryComplete) s = .next (State.settle (s.dormantEnd)) := by rfl
@[simp] theorem exec_vddAonRise (s : State) : exec (.vddAonRise) s = .next (State.settle (s.aonRise)) := by rfl
@[simp] theorem exec_vddAonLoss (s : State) : exec (.vddAonLoss) s = .next (State.settle (s.aonLoss)) := by rfl
@[simp] theorem exec_railBrownout (s : State) (rail : Fin 9) : exec (.railBrownout rail) s = .next (State.settle (s.railBrownout rail)) := by rfl
@[simp] theorem exec_railsGood (s : State) (bootSel : BitVec 2) : exec (.railsGood bootSel) s = .next (State.settle (s.railsGood bootSel)) := by rfl
@[simp] theorem exec_resetNPulse (s : State) (ns : Nat) : exec (.resetNPulse ns) s = .next (State.settle (s.resetPulse ns)) := by rfl
@[simp] theorem exec_watchdogExpiry (s : State) : exec (.watchdogExpiry) s = .next (State.settle (s.watchdogExpiry)) := by rfl
@[simp] theorem exec_wakeSource (s : State) (src : BitVec 2) : exec (.wakeSource src) s = .next (State.settle (s.wakeSource src)) := by rfl
@[simp] theorem exec_bootRomStart (s : State) : exec (.bootRomStart) s = .next (State.settle (s.bootRom)) := by rfl
@[simp] theorem exec_imageVerifyDone (s : State) (flashError : Bool) : exec (.imageVerifyDone flashError) s = .next (State.settle (s.verifyDone flashError)) := by rfl
@[simp] theorem exec_domainGroupSwitchOn (s : State) : exec (.domainGroupSwitchOn) s = .next (State.settle (s.domainGroup)) := by rfl
@[simp] theorem exec_powerOnSelfTestDone (s : State) (sliceFail : BitVec 128) (regionFail : BitVec 4) (fail : BitVec 10) (bootUs : BitVec 32) : exec (.powerOnSelfTestDone sliceFail regionFail fail bootUs) s = .next (State.settle (s.selfTestDone sliceFail regionFail fail bootUs.toNat)) := by rfl
@[simp] theorem exec_rebootStart (s : State) : exec (.rebootStart) s = .next (State.settle (s.rebootStart)) := by rfl
@[simp] theorem exec_pllUnlock (s : State) (pll : Fin 7) : exec (.pllUnlock pll) s = .next (State.settle (s.pllUnlock pll)) := by rfl
@[simp] theorem exec_pllLock (s : State) (pll : Fin 7) : exec (.pllLock pll) s = .next (State.settle (s.pllLock pll)) := by rfl
@[simp] theorem exec_clockMonitorCompare (s : State) (dev : BitVec 16) : exec (.clockMonitorCompare dev) s = .next (State.settle (s.clockCompare dev.toInt)) := by rfl
@[simp] theorem exec_clockStopDetect (s : State) (coarse : Bool) : exec (.clockStopDetect coarse) s = .next (State.settle (s.clockStop coarse)) := by rfl
@[simp] theorem exec_domainReady (s : State) (dom : Fin 80) : exec (.domainReady dom) s = .next (State.settle (s.domainReady dom)) := by rfl
@[simp] theorem exec_calFieldReload (s : State) (dom : Fin 80) : exec (.calFieldReload dom) s = .next (State.settle (s.calReload dom)) := by rfl
@[simp] theorem exec_flashEraseComplete (s : State) : exec (.flashEraseComplete) s = .next (State.settle (s.eraseComplete)) := by rfl
@[simp] theorem exec_fwVerifyComplete (s : State) (flashError : Bool) : exec (.fwVerifyComplete flashError) s = .next (State.settle (s.fwVerifyComplete flashError)) := by rfl
@[simp] theorem exec_recoveryTimerExpiry (s : State) : exec (.recoveryTimerExpiry) s = .next (State.settle (s.timerExpiry)) := by rfl
@[simp] theorem exec_faultCauseCleared (s : State) (event : BitVec 8) : exec (.faultCauseCleared event) s = .next (State.settle (s.causeCleared event.toNat)) := by rfl
@[simp] theorem exec_settleTimeout (s : State) : exec (.settleTimeout) s = .next (State.settle (s.settleTimeout)) := by rfl
@[simp] theorem exec_column0BoundaryFix (s : State) (cc : Nat) : exec (.column0BoundaryFix cc) s = .next (State.settle (s.column0Fix cc)) := by rfl
@[simp] theorem exec_columnBoundary (s : State) : exec (.columnBoundary) s = .next (State.settle (s.columnBoundary)) := by rfl
@[simp] theorem exec_throttleRestart (s : State) : exec (.throttleRestart) s = .next (State.settle (s.throttleRestart)) := by rfl
@[simp] theorem exec_syncPulseRx (s : State) (width : Nat) (err : Int) (gap : Nat) : exec (.syncPulseRx width err gap) s = .next (State.settle (s.syncPulse width err gap)) := by rfl
@[simp] theorem exec_syncLost (s : State) : exec (.syncLost) s = .next (State.settle (s.syncLost)) := by rfl
@[simp] theorem exec_syncAbsentTimeout (s : State) : exec (.syncAbsentTimeout) s = .next (State.settle (s.syncAbsent)) := by rfl
@[simp] theorem exec_filterSyncTimeout (s : State) : exec (.filterSyncTimeout) s = .next (State.settle (s.filterTimeout)) := by rfl
@[simp] theorem exec_hkSyncEdge (s : State) : exec (.hkSyncEdge) s = .next (State.settle (s.syncEdge)) := by rfl
@[simp] theorem exec_chargeTestComplete (s : State) (reachedTarget : Bool) (timeNs : BitVec 32) (reached : BitVec 16) : exec (.chargeTestComplete reachedTarget timeNs reached) s = .next (State.settle (s.chargeTestComplete reachedTarget timeNs.toNat reached.toNat)) := by rfl
@[simp] theorem exec_vstrSample (s : State) (bank : Fin 8) (v : List Nat) : exec (.vstrSample bank v) s = .next (State.settle (s.vstrSample bank v)) := by rfl
@[simp] theorem exec_angleLatch (s : State) (bank : Fin 8) : exec (.angleLatch bank) s = .next (State.settle (s.angleLatch bank)) := by rfl
@[simp] theorem exec_shotConsent (s : State) (bank : Fin 8) (laneFault : Bool) : exec (.shotConsent bank laneFault) s = .next (State.settle ((s.shotConsent bank laneFault).pickIdleSlot bank)) := by rfl
@[simp] theorem exec_shotFire (s : State) (bank : Fin 8) (laneFault : Bool) : exec (.shotFire bank laneFault) s = .next (State.settle (s.shotFire bank laneFault)) := by rfl
@[simp] theorem exec_limiterSubwindowAdvance (s : State) (long : Bool) : exec (.limiterSubwindowAdvance long) s = .next (State.settle (s.subwindow long)) := by rfl
@[simp] theorem exec_pulseWidthClassify (s : State) (string : Fin 32) (rise : Option Int) (width : Nat) (highAfter20 : Bool) : exec (.pulseWidthClassify string rise width highAfter20) s = .next (State.settle (s.classifyPulse string rise width highAfter20)) := by rfl
@[simp] theorem exec_strayCurrent (s : State) (string : Fin 32) : exec (.strayCurrent string) s = .next (State.settle (s.strayCurrent string)) := by rfl
@[simp] theorem exec_chargeWindowOpen (s : State) (bank : Fin 8) (v : List Nat) : exec (.chargeWindowOpen bank v) s = .next (State.settle (s.openWindow bank v)) := by rfl
@[simp] theorem exec_chargeWindowClose (s : State) (bank : Fin 8) : exec (.chargeWindowClose bank) s = .next (State.settle (s.closeWindow bank)) := by rfl
@[simp] theorem exec_chargeTargetReached (s : State) (string : Fin 32) : exec (.chargeTargetReached string) s = .next (State.settle (s.targetReached string)) := by rfl
@[simp] theorem exec_stringOvervolt (s : State) (string : Fin 32) : exec (.stringOvervolt string) s = .next (State.settle (s.overvolt string)) := by rfl
@[simp] theorem exec_inhibitSourceAssert (s : State) (srcs : BitVec 12) : exec (.inhibitSourceAssert srcs) s = .next (State.settle (s.inhibitOn srcs.toNat)) := by rfl
@[simp] theorem exec_inhibitSourceRelease (s : State) (src : Fin 12) : exec (.inhibitSourceRelease src) s = .next (State.settle (s.sourceRelease src)) := by rfl
@[simp] theorem exec_shotTriggerEdge (s : State) (input : Fin 4) (falling : Bool) (late tight : BitVec 8) : exec (.shotTriggerEdge input falling late tight) s = .next (State.settle (s.triggerEdge input falling late.toNat tight.toNat)) := by rfl
@[simp] theorem exec_angleSample (s : State) (code isns : Option (BitVec 16)) (tau : Nat) : exec (.angleSample code isns tau) s = .next (State.settle (s.angleSample code isns tau)) := by rfl
@[simp] theorem exec_loopSample (s : State) (loop : Fin 8) (tau : Nat) (hv : List (Option (BitVec 16))) : exec (.loopSample loop tau hv) s = .next (State.settle ((s.loopSample loop tau hv).auxFromLoop loop)) := by rfl
@[simp] theorem exec_loopCoefSetComplete (s : State) (loop : Fin 8) : exec (.loopCoefSetComplete loop) s = .next (State.settle (s.loopCoefComplete loop)) := by rfl
@[simp] theorem exec_pickoffEdge (s : State) (bank : Fin 8) (cc : Nat) (tap : Fin 64) : exec (.pickoffEdge bank cc tap) s = .next (State.settle (s.pickoffEdge bank cc tap)) := by rfl
@[simp] theorem exec_pickoffWindowEnd (s : State) (bank : Fin 8) : exec (.pickoffWindowEnd bank) s = .next (State.settle (s.pickoffWindowEnd bank)) := by rfl
@[simp] theorem exec_hvOvervolt (s : State) (hv : BitVec 16) : exec (.hvOvervolt hv) s = .next (State.settle (s.hvOvervolt hv.toNat)) := by rfl
@[simp] theorem exec_refCellTrigger (s : State) (swings : List (Option Nat)) : exec (.refCellTrigger swings) s = .next (State.settle (s.refTrigger swings)) := by rfl
@[simp] theorem exec_vexUpdate (s : State) : exec (.vexUpdate) s = .next (State.settle (s.vexUpdate)) := by rfl
@[simp] theorem exec_rowArm (s : State) (row : Fin 1024) : exec (.rowArm row) s = .next (State.settle (s.rowArm row)) := by rfl
@[simp] theorem exec_rowDisarm (s : State) (row : Fin 1024) (armed : Nat) (clocks : List Nat) : exec (.rowDisarm row armed clocks) s = .next (State.settle (s.rowDisarm row armed clocks)) := by rfl
@[simp] theorem exec_coincidenceEvent (s : State) (row : Fin 1024) (cc : Nat) (phase : Fin 8) (cells : Nat) : exec (.coincidenceEvent row cc phase cells) s = .next (State.settle (s.rowEvent row cc phase cells)) := by rfl
@[simp] theorem exec_cellFiring (s : State) (row : Fin 1024) (q : Fin 8) (cell : Fin 36) : exec (.cellFiring row q cell) s = .next (State.settle (s.cellFiring row q cell)) := by rfl
@[simp] theorem exec_laneRmwCycle (s : State) (row : Fin 1024) (lane : Bool) (ecc : Fin 3) : exec (.laneRmwCycle row lane ecc) s = .next (State.settle (s.laneCycle row (bit lane) ecc)) := by rfl
@[simp] theorem exec_zoomSnapshot (s : State) (row : Fin 1024) : exec (.zoomSnapshot row) s = .next (State.settle (s.zoomSnapshot row)) := by rfl
@[simp] theorem exec_bufferSwap (s : State) (bank : Fin 8) : exec (.bufferSwap bank) s = .next (State.settle (s.swapBank bank)) := by rfl
@[simp] theorem exec_rowReadout (s : State) (row : Fin 1024) (ecc : Fin 3) (word : Fin 144) : exec (.rowReadout row ecc word) s = .next (State.settle (s.rowReadout row ecc word)) := by rfl
@[simp] theorem exec_regionColumnRelease (s : State) (region : Fin 4) : exec (.regionColumnRelease region) s = .next (State.settle (s.columnRelease region)) := by rfl
@[simp] theorem exec_peakSelfcheck (s : State) (region : Fin 4) (matched : Bool) : exec (.peakSelfcheck region matched) s = .next (State.settle (s.selfCheck region matched)) := by rfl
@[simp] theorem exec_dllUnlock (s : State) (ch : Fin 12) : exec (.dllUnlock ch) s = .next (State.settle (s.dllUnlock ch)) := by rfl
@[simp] theorem exec_dllLock (s : State) (ch : Fin 12) : exec (.dllLock ch) s = .next (State.settle (s.dllLock ch)) := by rfl
@[simp] theorem exec_dllRelockTimeout (s : State) (ch : Fin 12) : exec (.dllRelockTimeout ch) s = .next (State.settle (s.dllRelockTimeout ch)) := by rfl
@[simp] theorem exec_tinEdge (s : State) (input : Fin 4) (falling : Bool) (cc : Nat) (tap : Fin 64) : exec (.tinEdge input falling cc tap) s = .next (State.settle (s.tinEdge input falling cc tap)) := by rfl
@[simp] theorem exec_tinIntervalTimeout (s : State) (ch : Fin 4) : exec (.tinIntervalTimeout ch) s = .next (State.settle (s.tinTimeout (8 + ch))) := by rfl
@[simp] theorem exec_histDumpComplete (s : State) : exec (.histDumpComplete) s = .next (State.settle (s.dumpComplete)) := by rfl
@[simp] theorem exec_columnRecordBuild (s : State) : exec (.columnRecordBuild) s = .next (State.settle (s.recordBuild)) := by rfl
@[simp] theorem exec_regionPartLate (s : State) : exec (.regionPartLate) s = .next (State.settle (s.partLate)) := by rfl
@[simp] theorem exec_frameEndRecord (s : State) : exec (.frameEndRecord) s = .next (State.settle (s.frameEnd)) := by rfl
@[simp] theorem exec_overflowChainRefill (s : State) : exec (.overflowChainRefill) s = .next (State.settle (s.chainRefill)) := by rfl
@[simp] theorem exec_contextSaveComplete (s : State) : exec (.contextSaveComplete) s = .next (State.settle (s.contextSaveComplete)) := by rfl
@[simp] theorem exec_contextRestoreComplete (s : State) : exec (.contextRestoreComplete) s = .next (State.settle (s.contextRestoreComplete)) := by rfl
@[simp] theorem exec_decompressComplete (s : State) : exec (.decompressComplete) s = .next (State.settle (s.decompressComplete)) := by rfl
@[simp] theorem exec_csiFrameStart (s : State) (cam : Fin 2) (frame : BitVec 16) : exec (.csiFrameStart cam frame) s = .next (State.settle ((s.illFs cam).csiFs cam frame.toNat)) := by rfl
@[simp] theorem exec_csiLinePacket (s : State) (cam : Fin 2) (wordCount : BitVec 16) (crcOk : Bool) (pixels : List Byte) (hdr : Fin 3) (overflow : Bool) : exec (.csiLinePacket cam wordCount crcOk pixels hdr overflow) s = .next (State.settle (s.csiLine cam wordCount.toNat crcOk pixels hdr overflow)) := by rfl
@[simp] theorem exec_csiFrameEnd (s : State) (cam : Fin 2) (frame : BitVec 16) : exec (.csiFrameEnd cam frame) s = .next (State.settle ((s.csiFe cam).lockFe cam)) := by rfl
@[simp] theorem exec_csiLineTimeout (s : State) (cam : Fin 2) : exec (.csiLineTimeout cam) s = .next (State.settle (s.csiTimeout cam)) := by rfl
@[simp] theorem exec_csiNonImagePacket (s : State) (cam : Fin 2) (vc : BitVec 4) (dt : BitVec 6) (bytes : List Byte) : exec (.csiNonImagePacket cam vc dt bytes) s = .next (State.settle (s.csiOther cam vc.toNat dt.toNat bytes)) := by rfl
@[simp] theorem exec_deferredFrameStart (s : State) : exec (.deferredFrameStart) s = .next (State.settle (s.deferredStart)) := by rfl
@[simp] theorem exec_stripeReady (s : State) (ctx : Fin 4) : exec (.stripeReady ctx) s = .next (State.settle (s.stripe ctx)) := by rfl
@[simp] theorem exec_stripRecordSend (s : State) (ctx : Fin 4) (coding : Bool) (level : Fin 3) : exec (.stripRecordSend ctx coding level) s = .next (State.settle (s.strip ctx coding level)) := by rfl
@[simp] theorem exec_pipelineFrameClose (s : State) (ctx : Fin 4) : exec (.pipelineFrameClose ctx) s = .next (State.settle (s.frameClose ctx)) := by rfl
@[simp] theorem exec_statsRequestComplete (s : State) (context : Fin 4) (frameClosed : Bool) : exec (.statsRequestComplete context frameClosed) s = .next (State.settle (s.statsComplete context frameClosed)) := by rfl
@[simp] theorem exec_reprocessComplete (s : State) (context : Fin 4) : exec (.reprocessComplete context) s = .next (State.settle (s.reprocessComplete context)) := by rfl
@[simp] theorem exec_fusionColumn (s : State) : exec (.fusionColumn) s = .next (State.settle (s.fusionColumn)) := by rfl
@[simp] theorem exec_depthMapClose (s : State) (cam : Fin 2) : exec (.depthMapClose cam) s = .next (State.settle (s.depthMapClose cam)) := by rfl
@[simp] theorem exec_depthMapStale (s : State) (cam : Fin 2) : exec (.depthMapStale cam) s = .next (State.settle (s.depthMapStale cam)) := by rfl
@[simp] theorem exec_flipPoint (s : State) (disp : Fin 2) : exec (.flipPoint disp) s = .next (State.settle (s.flipPoint disp)) := by rfl
@[simp] theorem exec_displayLineStart (s : State) (disp : Fin 2) (line : Nat) : exec (.displayLineStart disp line) s = .next (State.settle (s.lineStart disp line)) := by rfl
@[simp] theorem exec_frameLockLostTimeout (s : State) (disp : Fin 2) : exec (.frameLockLostTimeout disp) s = .next (State.settle (s.lockTimeout disp)) := by rfl
@[simp] theorem exec_linkTrainComplete (s : State) (port : Fin 3) : exec (.linkTrainComplete port) s = .next (State.settle (s.trainComplete port)) := by rfl
@[simp] theorem exec_trainingPhaseEnd (s : State) (port : Fin 3) (pass : Bool) (fomTx fomRx : Byte) : exec (.trainingPhaseEnd port pass fomTx fomRx) s = .next (State.settle (s.phaseEnd port pass fomTx.toNat fomRx.toNat)) := by rfl
@[simp] theorem exec_controlBlockSend (s : State) : exec (.controlBlockSend) s = .next (State.settle (s.controlSend)) := by rfl
@[simp] theorem exec_blockSend (s : State) (port : Fin 3) : exec (.blockSend port) s = .next (State.settle (s.blockSend port)) := by rfl
@[simp] theorem exec_upstreamClockLoss (s : State) : exec (.upstreamClockLoss) s = .next (State.settle (s.clockLoss)) := by rfl
@[simp] theorem exec_autoRetrain (s : State) (port : Fin 3) : exec (.autoRetrain port) s = .next (State.settle (s.autoRetrain port)) := by rfl
@[simp] theorem exec_fomPublish (s : State) (port : Fin 3) (fom : Byte) : exec (.fomPublish port fom) s = .next (State.settle (s.fomPublish port fom.toNat)) := by rfl
@[simp] theorem exec_vnauxFrameSend (s : State) (port : Fin 3) : exec (.vnauxFrameSend port) s = .next (State.settle (s.auxSend port)) := by rfl
@[simp] theorem exec_vnauxReply (s : State) (port : Fin 3) (reply : Option (List Byte)) : exec (.vnauxReply port reply) s = .next (State.settle (s.auxReply port reply)) := by rfl
@[simp] theorem exec_ethLinkChange (s : State) (up gigabit : Bool) : exec (.ethLinkChange up gigabit) s = .next (State.settle (s.ethLink up gigabit)) := by rfl
@[simp] theorem exec_arpRequest (s : State) (sender : BitVec 32) (senderMac : BitVec 48) (target : BitVec 32) : exec (.arpRequest sender senderMac target) s = .next (State.settle (s.arpRequest sender.toNat senderMac.toNat target.toNat)) := by rfl
@[simp] theorem exec_arpReplyRx (s : State) (ip : BitVec 32) (mac : BitVec 48) : exec (.arpReplyRx ip mac) s = .next (State.settle (s.arpReply ip.toNat mac.toNat)) := by rfl
@[simp] theorem exec_icmpEchoRequest (s : State) (sender : BitVec 32) (ident seq : BitVec 16) (payload : List Byte) : exec (.icmpEchoRequest sender ident seq payload) s = .next (State.settle (s.icmpEcho sender.toNat ident.toNat seq.toNat payload)) := by rfl
@[simp] theorem exec_pauseFrameRx (s : State) (quanta : BitVec 16) : exec (.pauseFrameRx quanta) s = .next (State.settle (s.pauseFrame quanta.toNat)) := by rfl
@[simp] theorem exec_ethFrameDiscard (s : State) (fcsBad : Bool) : exec (.ethFrameDiscard fcsBad) s = .next (State.settle (s.ethDiscard fcsBad)) := by rfl
@[simp] theorem exec_streamDatagramSend (s : State) (stream : Fin 8) : exec (.streamDatagramSend stream) s = .next (State.settle (s.streamDatagram stream)) := by rfl
@[simp] theorem exec_creditDatagram (s : State) (src : Peer) (bytes : List Byte) : exec (.creditDatagram src bytes) s = .next (State.settle (s.creditDatagram src bytes)) := by rfl
@[simp] theorem exec_gptpSync (s : State) (rx origin : BitVec 64) (correction ratio logInterval : Int) (followUp : Bool) : exec (.gptpSync rx origin correction ratio logInterval followUp) s = .next (State.settle (s.gptpSync rx.toNat origin.toNat correction ratio logInterval followUp)) := by rfl
@[simp] theorem exec_gptpAnnounce (s : State) (bytes : List Byte) : exec (.gptpAnnounce bytes) s = .next (State.settle (s.gptpAnnounce bytes)) := by rfl
@[simp] theorem exec_pdelayExchange (s : State) : exec (.pdelayExchange) s = .next (State.settle (s.pdelayExchange)) := by rfl
@[simp] theorem exec_pdelayReqRx (s : State) (request : List Byte) : exec (.pdelayReqRx request) s = .next (State.settle (s.pdelayReq request)) := by rfl
@[simp] theorem exec_pdelayRespRx (s : State) (t1 t2 t3 t4 : BitVec 64) : exec (.pdelayRespRx t1 t2 t3 t4) s = .next (State.settle (s.pdelayResp t1.toNat t2.toNat t3.toNat t4.toNat)) := by rfl
@[simp] theorem exec_holdoverTimeout (s : State) (announce : Bool) : exec (.holdoverTimeout announce) s = .next (State.settle (s.holdoverTimeout announce)) := by rfl
@[simp] theorem exec_memGrant (s : State) (ecc : Fin 3) (channel : Fin 2) : exec (.memGrant ecc channel) s = .next (State.settle (s.grantTo ecc channel)) := by rfl
@[simp] theorem exec_class2WaitTimeout (s : State) : exec (.class2WaitTimeout) s = .next (State.settle (s.class2Waited)) := by rfl
@[simp] theorem exec_class5RefusingEnd (s : State) : exec (.class5RefusingEnd) s = .next (State.settle (s.class5End)) := by rfl
@[simp] theorem exec_selfRefreshEntry (s : State) : exec (.selfRefreshEntry) s = .next (State.settle (s.refreshEntry false)) := by rfl
@[simp] theorem exec_deepSleepEntry (s : State) : exec (.deepSleepEntry) s = .next (State.settle (s.refreshEntry true)) := by rfl
@[simp] theorem exec_selfRefreshExit (s : State) : exec (.selfRefreshExit) s = .next (State.settle (s.refreshExit)) := by rfl
@[simp] theorem exec_selfRefreshExitDone (s : State) : exec (.selfRefreshExitDone) s = .next (State.settle (s.refreshExitDone)) := by rfl
@[simp] theorem exec_regionSCycle (s : State) (pins : BitVec 32) (laneFault tableUe : Bool) : exec (.regionSCycle pins laneFault tableUe) s = .next (State.settle (s.regionCycle pins.toNat laneFault tableUe)) := by rfl
@[simp] theorem exec_testPulse (s : State) (out : Fin 4) (channelB : Bool) : exec (.testPulse out channelB) s = .next (State.settle (s.testPulse out channelB)) := by rfl
@[simp] theorem exec_safetyColumnEval (s : State) : exec (.safetyColumnEval) s = .next (State.settle (s.safetyColumn)) := by rfl
@[simp] theorem exec_columnTimeout (s : State) : exec (.columnTimeout) s = .next (State.settle (s.columnTimeout)) := by rfl
@[simp] theorem exec_rangingInvalidCause (s : State) (cause : Fin 8) : exec (.rangingInvalidCause cause) s = .next (State.settle (s.invalidCause cause)) := by rfl
@[simp] theorem exec_regionSConfigLoad (s : State) : exec (.regionSConfigLoad) s = .next (State.settle (s.safeLoad)) := by rfl
@[simp] theorem exec_limitTableBuilt (s : State) : exec (.limitTableBuilt) s = .next (State.settle (s.tablesBuilt)) := by rfl
@[simp] theorem exec_commissionCommitComplete (s : State) (copiesWritten : Fin 3) : exec (.commissionCommitComplete copiesWritten) s = .next (State.settle (s.commitEnd copiesWritten)) := by rfl
@[simp] theorem exec_sessionTimeout (s : State) : exec (.sessionTimeout) s = .next (State.settle (s.closeCommissioning)) := by rfl
@[simp] theorem exec_credentialLockoutEnd (s : State) : exec (.credentialLockoutEnd) s = .next (State.settle (s.lockoutEnd)) := by rfl
@[simp] theorem exec_safetyStatusRecord (s : State) : exec (.safetyStatusRecord) s = .next (State.settle (s.safetyRecord)) := by rfl
@[simp] theorem exec_hkConverterStart (s : State) : exec (.hkConverterStart) s = .next (State.settle (s.hkStart)) := by rfl
@[simp] theorem exec_hkRoundStart (s : State) : exec (.hkRoundStart) s = .next (State.settle (s.hkRoundStart)) := by rfl
@[simp] theorem exec_hkConversionEnd (s : State) (code : Int) : exec (.hkConversionEnd code) s = .next (State.settle (ntcResult (s.hkEnd code))) := by rfl
@[simp] theorem exec_hkUrgentComplete (s : State) (code : Int) : exec (.hkUrgentComplete code) s = .next (State.settle (ntcResult (s.urgentComplete code))) := by rfl
@[simp] theorem exec_ntcComparatorTrip (s : State) : exec (.ntcComparatorTrip) s = .next (State.settle (s.ntcTrip)) := by rfl
@[simp] theorem exec_tiaWord (s : State) (ch : Fin 4) (code : Int) : exec (.tiaWord ch code) s = .next (State.settle (s.tiaWord ch code)) := by rfl
@[simp] theorem exec_wmSourceToggle (s : State) : exec (.wmSourceToggle) s = .next (State.settle (s.wmToggle)) := by rfl
@[simp] theorem exec_hubReading (s : State) (codes : List Int) : exec (.hubReading codes) s = .next (State.settle ((s.hubReading codes).calWatch)) := by rfl
@[simp] theorem exec_thermalEvaluation (s : State) : exec (.thermalEvaluation) s = .next (State.settle (s.thermalRound)) := by rfl
@[simp] theorem exec_analogueThermalTrip (s : State) : exec (.analogueThermalTrip) s = .next (State.settle (s.analogueTrip)) := by rfl
@[simp] theorem exec_calAutoRun (s : State) : exec (.calAutoRun) s = .next (State.settle (s.calAuto)) := by rfl
@[simp] theorem exec_calItemEnd (s : State) (meas : CalMeas) (copiesWritten : Fin 3) : exec (.calItemEnd meas copiesWritten) s = .next (State.settle (s.calItemEnd meas copiesWritten)) := by rfl
@[simp] theorem exec_calRunComplete (s : State) : exec (.calRunComplete) s = .next (State.settle (s.calComplete)) := by rfl
@[simp] theorem exec_illumSliceStart (s : State) (string : Fin 4) (v i : Nat) : exec (.illumSliceStart string v i) s = .next (State.settle (s.illSlice string v i)) := by rfl
@[simp] theorem exec_illumWindowStart (s : State) (string : Fin 4) : exec (.illumWindowStart string) s = .next (State.settle (s.illWindow string)) := by rfl
@[simp] theorem exec_illumWindowEnd (s : State) (string : Fin 4) : exec (.illumWindowEnd string) s = .next (State.settle (s.illWindowEnd string)) := by rfl
@[simp] theorem exec_illumShuntCrossing (s : State) (string : Fin 4) (kind : BitVec 2) : exec (.illumShuntCrossing string kind) s = .next (State.settle (s.illCross string kind.toNat)) := by rfl
@[simp] theorem exec_illumProbeEnd (s : State) (string : Fin 4) (v i : Nat) : exec (.illumProbeEnd string v i) s = .next (State.settle (s.illProbeEnd string v i)) := by rfl
@[simp] theorem exec_illDrvOnLimit (s : State) (string : Fin 4) : exec (.illDrvOnLimit string) s = .next (State.settle (s.illOnLimit string)) := by rfl
@[simp] theorem exec_recorderTrigger (s : State) : exec (.recorderTrigger) s = .next (State.settle (s.recTrigger)) := by rfl
@[simp] theorem exec_recorderPreFillDone (s : State) : exec (.recorderPreFillDone) s = .next (State.settle (s.recPreDone)) := by rfl
@[simp] theorem exec_recorderPostFillDone (s : State) (samples : List Byte) : exec (.recorderPostFillDone samples) s = .next (State.settle (s.recStore samples)) := by rfl
@[simp] theorem exec_recorderReadComplete (s : State) (refused : Bool) : exec (.recorderReadComplete refused) s = .next (State.settle (s.recReadEnd refused)) := by rfl
@[simp] theorem exec_monitorLine (s : State) (line : List Byte) : exec (.monitorLine line) s = .next (State.settle (s.monInput (fun t => t.monLine line))) := by rfl
@[simp] theorem exec_monId (s : State) : exec (.monId) s = .next (State.settle (s.monInput State.monId)) := by rfl
@[simp] theorem exec_monNonce (s : State) : exec (.monNonce) s = .next (State.settle (s.monInput State.monTellNonce)) := by rfl
@[simp] theorem exec_monAuth (s : State) (credential : List Byte) : exec (.monAuth credential) s = .next (State.settle (s.monInput (fun t => t.monAuth credential))) := by rfl
@[simp] theorem exec_monRd (s : State) (addr : BitVec 32) (count : Nat) : exec (.monRd addr count) s = .next (State.settle (s.monInput (fun t => t.monRead addr.toNat count))) := by rfl
@[simp] theorem exec_monSt (s : State) : exec (.monSt) s = .next (State.settle (s.monInput State.monStatus)) := by rfl
@[simp] theorem exec_monLog (s : State) (index : Nat) (count : Nat) : exec (.monLog index count) s = .next (State.settle (s.monInput (fun t => t.monLog index count))) := by rfl
@[simp] theorem exec_monEv (s : State) (on : Bool) : exec (.monEv on) s = .next (State.settle (s.monInput (fun t => t.monEv on))) := by rfl
@[simp] theorem exec_monBye (s : State) : exec (.monBye) s = .next (State.settle (s.monInput State.monBye)) := by rfl
@[simp] theorem exec_monSessionTimeout (s : State) : exec (.monSessionTimeout) s = .next (State.settle (s.monTimeout)) := by rfl
@[simp] theorem exec_monLockoutEnd (s : State) : exec (.monLockoutEnd) s = .next (State.settle (s.monLockoutEnd)) := by rfl

/-- A packet row is its packet, past steps 1 to 5. -/
theorem exec_asPacket (i : Instr) (p : Pkt) (s : State) (h : asPacket i = some p) : exec i s = .next (s.packetIn p.via p.seq p.op p.data) := by
  cases i <;> first | (cases h; rfl) | cases h

end Sys2Proof.Machine
end

