-- ==== Sys2Proof/Laws/Commands.lean ====
section
/-! SUPPORT. A command that is taken at once: its packet runs its handler in the state that `seen` names, and the answer follows. -/

namespace Sys2Proof.Machine

theorem State.thermal_guard (u : State) (op : Nat) (p : List Byte) (via : Port) (hl : lengthOk op p = some true)
    (ht : u.thermalRefuses op p = false) (hr : u.pw.romOnly = false) : runCommand via u op p = runOp via u op p := by
  unfold runCommand
  rw [hl]
  simp [State.guarded, ht, hr]

/-- A packet that is taken at once runs its handler in `seen`, is answered, and nothing else runs. -/
theorem State.packetIn_takes (s : State) (p : Pkt) (h : s.takes p = true) :
    s.packetIn p.via p.seq p.op p.data = (State.finish (runOp p.via (s.seen p) p.op p.data) p.via p.op p.seq).calm := by
  unfold State.takes at h
  simp only [Bool.and_eq_true, beq_iff_eq, Bool.not_eq_true'] at h
  obtain ⟨⟨⟨⟨⟨⟨⟨⟨h1, h2⟩, _⟩, _⟩, h5⟩, h6⟩, h7⟩, h8⟩, h9⟩ := h
  rw [State.packetIn, if_pos h1]
  simp only [h2, if_true]
  show (State.settle _) = _
  rw [State.settle]
  change ((s.consumed p).drain (s.consumed p).cmd.held.length) = _
  rw [h5]
  simp only [List.length_cons, List.length_nil, Nat.zero_add, State.drain, h5]
  have e : ({ s.consumed p with cmd := { (s.consumed p).cmd with held := [] } } : State) = s.seen p := rfl
  have m : (s.consumed p).mayRun ⟨p.via, p.seq, p.op, p.data⟩ = true := h6
  rw [if_pos m, e, State.runHeld, State.thermal_guard _ _ _ _ h7 h8 h9]

/-- A handler that answers with a final status and nothing after the reply. -/
theorem State.finish_final (t : State) (p : Pkt) (status detail : Nat) (data : List Byte) :
    (State.finish ⟨.final status detail data, t, id⟩ p.via p.op p.seq).calm = t.replied p status detail data := rfl

/-- A handler that answers ACCEPTED with nothing after the reply. -/
theorem State.finish_accepted (t : State) (p : Pkt) (tag : Nat) :
    (State.finish ⟨.accepted tag, t, id⟩ p.via p.op p.seq).calm = t.begun p tag := rfl

/-- A command that is taken runs its handler. -/
theorem Runs.exec_eq {c : Instr} {s : State} {p : Pkt} {u : State} (h : Runs c s p u) :
    exec c s = .next (State.finish (runOp p.via u p.op p.data) p.via p.op p.seq).calm := by
  obtain ⟨h1, h2, rfl⟩ := h
  rw [exec_asPacket c p s h1, State.packetIn_takes s p h2]

/-- A taken command whose handler answers DONE. -/
theorem Runs.done {c : Instr} {s : State} {p : Pkt} {u t : State} {data : List Byte} (h : Runs c s p u)
    (hr : runOp p.via u p.op p.data = ⟨.final 0 0 data, t, id⟩) : Done c s p t data := by
  rw [Done, h.exec_eq, hr]; rfl

/-- A taken command whose handler answers ACCEPTED. -/
theorem Runs.begun {c : Instr} {s : State} {p : Pkt} {u t : State} {tag : Nat} (h : Runs c s p u)
    (hr : runOp p.via u p.op p.data = ⟨.accepted tag, t, id⟩) : Begun c s p t tag := by
  rw [Begun, h.exec_eq, hr]; rfl

end Sys2Proof.Machine
end

