-- ==== Sys2Proof/Laws/Sparse.lean ====
section
/-! SUPPORT. Laws of the sparse maps: reading after storing, and the canonical form that every operation keeps. -/

namespace Sys2Proof.Machine

theorem spGet_spPut {α : Type} (d : Nat → α) (m : List (Nat × α)) (k : Nat) (v : α) (j : Nat) :
    spGet d (spPut m k v) j = if j = k then v else spGet d m j := by
  induction m with
  | nil => rfl
  | cons e r ih =>
    obtain ⟨a, b⟩ := e
    unfold spPut
    split_ifs with h1 h2 h3 h3 h3 <;> simp_all [spGet]

theorem spGet_drop {α : Type} (d : Nat → α) (m : List (Nat × α)) (k j : Nat) :
    spGet d (m.filter (fun e => e.1 != k)) j = if j = k then d k else spGet d m j := by
  induction m with
  | nil => by_cases h : j = k <;> simp [spGet, h]
  | cons e r ih =>
    obtain ⟨a, b⟩ := e
    by_cases h1 : a = k
    · subst h1; by_cases h2 : j = a <;> simp_all [spGet]
    · by_cases h2 : j = a
      · subst h2; simp_all [spGet]
      · simp_all [spGet]

/-- What a key reads after a store. -/
theorem spGet_spSet {α : Type} [DecidableEq α] (d : Nat → α) (m : List (Nat × α)) (k : Nat) (v : α) (j : Nat) :
    spGet d (spSet d m k v) j = if j = k then v else spGet d m j := by
  unfold spSet
  split_ifs with h1 h2 h2
  · rw [spGet_drop, if_pos h2, h1]
  · rw [spGet_drop, if_neg h2]
  · rw [spGet_spPut, if_pos h2]
  · rw [spGet_spPut, if_neg h2]

theorem spGet_spKeep {α : Type} (d : Nat → α) (p : Nat → Bool) (m : List (Nat × α)) (j : Nat) :
    spGet d (spKeep p m) j = if p j then spGet d m j else d j := by
  induction m with
  | nil => simp [spGet, spKeep]
  | cons e r ih =>
    obtain ⟨a, b⟩ := e
    unfold spKeep at ih ⊢
    by_cases h1 : p a
    · by_cases h2 : j = a
      · subst h2; simp [spGet, h1]
      · simp [h1, spGet, h2, ih]
    · by_cases h2 : j = a
      · subst h2; simp [h1, ih]
      · simp [h1, spGet, h2, ih]

/-- The keys rise strictly. -/
theorem spRising_cons {α : Type} (a : Nat) (b : α) (r : List (Nat × α)) :
    spRising ((a, b) :: r) = (r.all (fun e => decide (a < e.1)) && spRising r) := by
  induction r generalizing a b with
  | nil => rfl
  | cons e t ih =>
    obtain ⟨c, x⟩ := e
    rw [show spRising ((a, b) :: (c, x) :: t) = (decide (a < c) && spRising ((c, x) :: t)) from rfl, ih c x]
    by_cases h : a < c
    · simp only [h, decide_true, Bool.true_and, List.all_cons]
      by_cases h2 : t.all (fun e => decide (c < e.1))
      · have : t.all (fun e => decide (a < e.1)) = true := by
          simp only [List.all_eq_true, decide_eq_true_eq] at h2 ⊢
          intro e he; have := h2 e he; omega
        simp [h2, this]
      · simp [h2]
    · simp [h]

theorem spRising_filter {α : Type} (p : Nat × α → Bool) (m : List (Nat × α)) (h : spRising m = true) : spRising (m.filter p) = true := by
  induction m with
  | nil => rfl
  | cons e r ih =>
    obtain ⟨a, b⟩ := e
    rw [spRising_cons, Bool.and_eq_true] at h
    by_cases hp : p (a, b)
    · rw [List.filter_cons_of_pos hp, spRising_cons, Bool.and_eq_true]
      refine ⟨?_, ih h.2⟩
      have h1 := h.1
      simp only [List.all_eq_true, decide_eq_true_eq, List.mem_filter] at h1 ⊢
      exact fun e he => h1 e he.1
    · rw [List.filter_cons_of_neg hp]; exact ih h.2

theorem mem_spPut {α : Type} (m : List (Nat × α)) (k : Nat) (v : α) (e : Nat × α) (h : e ∈ spPut m k v) : e = (k, v) ∨ e ∈ m := by
  induction m with
  | nil => simpa [spPut] using h
  | cons c r ih =>
    obtain ⟨a, b⟩ := c
    unfold spPut at h
    split_ifs at h with h1 h2
    · simpa using h
    · rcases List.mem_cons.1 h with h | h
      · exact .inl h
      · exact .inr (List.mem_cons_of_mem _ h)
    · rcases List.mem_cons.1 h with h | h
      · exact .inr (by simp [h])
      · rcases ih h with h | h
        · exact .inl h
        · exact .inr (List.mem_cons_of_mem _ h)

theorem spRising_spPut {α : Type} (m : List (Nat × α)) (k : Nat) (v : α) (h : spRising m = true) : spRising (spPut m k v) = true := by
  induction m with
  | nil => rfl
  | cons c r ih =>
    obtain ⟨a, b⟩ := c
    have h0 := h
    rw [spRising_cons, Bool.and_eq_true] at h
    have h1 := h.1
    simp only [List.all_eq_true, decide_eq_true_eq] at h1
    unfold spPut
    split_ifs with c1 c2
    · rw [spRising_cons, Bool.and_eq_true]
      refine ⟨?_, h0⟩
      simp only [List.all_eq_true, decide_eq_true_eq, List.mem_cons]
      rintro e (rfl | he)
      · exact c1
      · have := h1 e he; omega
    · subst c2
      rw [spRising_cons, Bool.and_eq_true]
      exact ⟨by simpa using h1, h.2⟩
    · rw [spRising_cons, Bool.and_eq_true]
      refine ⟨?_, ih h.2⟩
      simp only [List.all_eq_true, decide_eq_true_eq]
      intro e he
      rcases mem_spPut r k v e he with rfl | he
      · simp only; omega
      · exact h1 e he

/-- A store keeps the canonical form. -/
theorem spWf_spSet {α : Type} [DecidableEq α] (d : Nat → α) (m : List (Nat × α)) (k : Nat) (v : α) (h : spWf d m = true) :
    spWf d (spSet d m k v) = true := by
  unfold spWf at h ⊢
  rw [Bool.and_eq_true] at h ⊢
  have h2 := h.2
  simp only [List.all_eq_true, decide_eq_true_eq] at h2
  unfold spSet
  split_ifs with hv
  · refine ⟨spRising_filter _ m h.1, ?_⟩
    simp only [List.all_eq_true, decide_eq_true_eq, List.mem_filter]
    exact fun e he => h2 e he.1
  · refine ⟨spRising_spPut m k v h.1, ?_⟩
    simp only [List.all_eq_true, decide_eq_true_eq]
    intro e he
    rcases mem_spPut m k v e he with rfl | he
    · exact hv
    · exact h2 e he

/-- Dropping keys keeps the canonical form. -/
theorem spWf_spKeep {α : Type} [DecidableEq α] (d : Nat → α) (p : Nat → Bool) (m : List (Nat × α)) (h : spWf d m = true) :
    spWf d (spKeep p m) = true := by
  unfold spWf spKeep at *
  rw [Bool.and_eq_true] at h ⊢
  refine ⟨spRising_filter _ m h.1, ?_⟩
  have h2 := h.2
  simp only [List.all_eq_true, decide_eq_true_eq, List.mem_filter] at h2 ⊢
  exact fun e he => h2 e he.1

/-- Storing a list keeps the canonical form. -/
theorem spWf_spSetList {α : Type} [DecidableEq α] (d : Nat → α) (m : List (Nat × α)) (k : Nat) (vs : List α) (h : spWf d m = true) :
    spWf d (spSetList d m k vs) = true := by
  induction vs generalizing m k with
  | nil => exact h
  | cons v vs ih => exact ih _ _ (spWf_spSet d m k v h)

/-- What a key reads after a list is stored. -/
theorem spGet_spSetList {α : Type} [DecidableEq α] (d : Nat → α) (m : List (Nat × α)) (k : Nat) (vs : List α) (j : Nat) :
    spGet d (spSetList d m k vs) j = if h : k ≤ j ∧ j < k + vs.length then vs[j - k]'(by omega) else spGet d m j := by
  induction vs generalizing m k with
  | nil =>
    have : ¬ (k ≤ j ∧ j < k + ([] : List α).length) := by simp only [List.length_nil]; omega
    rw [dif_neg this]; rfl
  | cons v vs ih =>
    rw [spSetList, ih, spGet_spSet]
    by_cases h1 : j = k
    · subst h1; simp
    · by_cases h2 : k + 1 ≤ j ∧ j < k + 1 + vs.length
      · have h3 : k ≤ j ∧ j < k + (v :: vs).length := by simp only [List.length_cons]; omega
        rw [dif_pos h2, dif_pos h3]
        have : j - k = (j - (k + 1)) + 1 := by omega
        simp only [this, List.getElem_cons_succ]
      · have h3 : ¬ (k ≤ j ∧ j < k + (v :: vs).length) := by simp only [List.length_cons]; omega
        rw [dif_neg h2, dif_neg h3, if_neg h1]

end Sys2Proof.Machine
end

