-- ==== Sys2Proof/Laws/Regs.lean ====
section
/-! SUPPORT. Laws of the register file: reading a word or a field after a write. -/

namespace Sys2Proof.Machine

/-- A word with a field replaced, as its three parts. -/
theorem withBits_eq (v lo wd x : Nat) : withBits v lo wd x = (v / 2 ^ lo / 2 ^ wd * 2 ^ wd + x % 2 ^ wd) * 2 ^ lo + v % 2 ^ lo := by
  have h1 := Nat.div_add_mod v (2 ^ lo)
  have h2 := Nat.div_add_mod (v / 2 ^ lo) (2 ^ wd)
  have h3 : v = (2 ^ wd * (v / 2 ^ lo / 2 ^ wd) + v / 2 ^ lo % 2 ^ wd) * 2 ^ lo + v % 2 ^ lo := by
    rw [h2]; rw [Nat.mul_comm] at h1; exact h1.symm
  unfold withBits bitsOf
  generalize v / 2 ^ lo / 2 ^ wd = h at *
  generalize hm : v / 2 ^ lo % 2 ^ wd = m at *
  generalize v % 2 ^ lo = l at *
  rw [Nat.add_mul] at h3
  rw [Nat.add_mul, Nat.mul_comm h (2 ^ wd)]
  omega

theorem bitsOf_withBits_same (v lo wd x : Nat) : bitsOf (withBits v lo wd x) lo wd = x % 2 ^ wd := by
  rw [withBits_eq, bitsOf, Nat.add_comm, Nat.add_mul_div_right _ _ (Nat.two_pow_pos lo), Nat.div_eq_of_lt (Nat.mod_lt _ (Nat.two_pow_pos lo)),
    Nat.zero_add, Nat.mul_add_mod_self_right, Nat.mod_mod]

theorem bitsOf_withBits_ne (v lo wd x lo' wd' : Nat) (h : lo + wd ≤ lo' ∨ lo' + wd' ≤ lo) :
    bitsOf (withBits v lo wd x) lo' wd' = bitsOf v lo' wd' := by
  rw [withBits_eq]
  unfold bitsOf
  rcases h with h | h
  · obtain ⟨k, rfl⟩ := Nat.exists_eq_add_of_le h
    have e : ∀ w : Nat, w / 2 ^ (lo + wd + k) = w / 2 ^ lo / 2 ^ wd / 2 ^ k := by
      intro w; rw [Nat.pow_add, Nat.pow_add, ← Nat.div_div_eq_div_mul, ← Nat.div_div_eq_div_mul]
    rw [e, e]
    have : ((v / 2 ^ lo / 2 ^ wd * 2 ^ wd + x % 2 ^ wd) * 2 ^ lo + v % 2 ^ lo) / 2 ^ lo = v / 2 ^ lo / 2 ^ wd * 2 ^ wd + x % 2 ^ wd := by
      rw [Nat.add_comm, Nat.add_mul_div_right _ _ (Nat.two_pow_pos lo), Nat.div_eq_of_lt (Nat.mod_lt _ (Nat.two_pow_pos lo)), Nat.zero_add]
    rw [this]
    have : (v / 2 ^ lo / 2 ^ wd * 2 ^ wd + x % 2 ^ wd) / 2 ^ wd = v / 2 ^ lo / 2 ^ wd := by
      rw [Nat.add_comm, Nat.add_mul_div_right _ _ (Nat.two_pow_pos wd), Nat.div_eq_of_lt (Nat.mod_lt _ (Nat.two_pow_pos wd)), Nat.zero_add]
    rw [this]
  · rw [← Nat.mod_mul_right_div_self, ← Nat.mod_mul_right_div_self, ← Nat.pow_add]
    have d : 2 ^ (lo' + wd') ∣ 2 ^ lo := Nat.pow_dvd_pow 2 h
    have e1 : ((v / 2 ^ lo / 2 ^ wd * 2 ^ wd + x % 2 ^ wd) * 2 ^ lo + v % 2 ^ lo) % 2 ^ (lo' + wd') = v % 2 ^ (lo' + wd') := by
      rw [← Nat.mod_mod_of_dvd _ d, Nat.mul_add_mod_self_right, Nat.mod_mod, Nat.mod_mod_of_dvd _ d]
    rw [e1]

theorem withBits_lt (v lo wd x n : Nat) (hv : v < 2 ^ n) (h : lo + wd ≤ n) : withBits v lo wd x < 2 ^ n := by
  rw [withBits_eq]
  obtain ⟨k, rfl⟩ := Nat.exists_eq_add_of_le h
  have h1 : v / 2 ^ lo / 2 ^ wd < 2 ^ k := by
    rw [Nat.div_div_eq_div_mul, ← Nat.pow_add, Nat.div_lt_iff_lt_mul (Nat.two_pow_pos _), ← Nat.pow_add, Nat.add_comm k]; exact hv
  have h2 : x % 2 ^ wd < 2 ^ wd := Nat.mod_lt _ (Nat.two_pow_pos wd)
  have h3 : v % 2 ^ lo < 2 ^ lo := Nat.mod_lt _ (Nat.two_pow_pos lo)
  have h4 : v / 2 ^ lo / 2 ^ wd * 2 ^ wd + x % 2 ^ wd < 2 ^ k * 2 ^ wd := by
    calc _ < v / 2 ^ lo / 2 ^ wd * 2 ^ wd + 2 ^ wd := by omega
      _ = (v / 2 ^ lo / 2 ^ wd + 1) * 2 ^ wd := by ring
      _ ≤ 2 ^ k * 2 ^ wd := Nat.mul_le_mul_right _ h1
  calc _ < (v / 2 ^ lo / 2 ^ wd * 2 ^ wd + x % 2 ^ wd) * 2 ^ lo + 2 ^ lo := by omega
    _ = (v / 2 ^ lo / 2 ^ wd * 2 ^ wd + x % 2 ^ wd + 1) * 2 ^ lo := by ring
    _ ≤ 2 ^ k * 2 ^ wd * 2 ^ lo := Nat.mul_le_mul_right _ h4
    _ = 2 ^ (lo + wd + k) := by rw [Nat.pow_add, Nat.pow_add]; ring

theorem withBits_mod (v lo wd x n : Nat) (hv : v < 2 ^ n) (h : lo + wd ≤ n) : withBits v lo wd x % 2 ^ n = withBits v lo wd x :=
  Nat.mod_eq_of_lt (withBits_lt v lo wd x n hv h)

theorem bitsOf_lt (v lo wd : Nat) : bitsOf v lo wd < 2 ^ wd := Nat.mod_lt _ (Nat.two_pow_pos wd)

/-! ### Words -/

@[simp] theorem State.rd_wr (s : State) (a : Nat) (v : Word) (b : Nat) : (s.wr a v).rd b = if b = a then v else s.rd b := spGet_spSet _ _ _ _ _

theorem State.rd_wr_same (s : State) (a : Nat) (v : Word) : (s.wr a v).rd a = v := by simp

theorem State.rd_wr_ne (s : State) (a : Nat) (v : Word) (b : Nat) (h : b ≠ a) : (s.wr a v).rd b = s.rd b := by simp [h]

theorem State.rd_set_ne (s : State) (f : Fld) (x b : Nat) (h : b ≠ f.addr) : (s.set f x).rd b = s.rd b := by simp [State.set, h]

theorem State.rd_add_ne (s : State) (f : Fld) (x b : Nat) (h : b ≠ f.addr) : (s.add f x).rd b = s.rd b := State.rd_set_ne _ _ _ _ h

theorem State.rd_inc_ne (s : State) (f : Fld) (b : Nat) (h : b ≠ f.addr) : (s.inc f).rd b = s.rd b := State.rd_set_ne _ _ _ _ h

theorem State.rd_setI_ne (s : State) (f : Fld) (x : Int) (b : Nat) (h : b ≠ f.addr) : (s.setI f x).rd b = s.rd b := State.rd_set_ne _ _ _ _ h

theorem State.rd_setFlag_ne (s : State) (f : Fld) (x : Bool) (b : Nat) (h : b ≠ f.addr) : (s.setFlag f x).rd b = s.rd b := State.rd_set_ne _ _ _ _ h

theorem State.rd_setBitAt_ne (s : State) (f : Fld) (i : Nat) (x : Bool) (b : Nat) (h : b ≠ f.addr) : (s.setBitAt f i x).rd b = s.rd b :=
  State.rd_set_ne _ _ _ _ h

/-! ### Fields -/

/-- A field that lies in its word. -/
def Fld.fits (f : Fld) : Bool := decide (f.lo + f.wd ≤ 32)

theorem State.rd_set_same (s : State) (f : Fld) (x : Nat) (h : f.fits = true) :
    ((s.set f x).rd f.addr).toNat = withBits (s.rd f.addr).toNat f.lo f.wd x := by
  unfold State.set
  rw [State.rd_wr_same, BitVec.toNat_ofNat]
  exact withBits_mod _ _ _ _ _ (s.rd f.addr).isLt (by simpa [Fld.fits] using h)

/-- A field reads what was written to it. -/
theorem State.get_set_same (s : State) (f : Fld) (x : Nat) (h : f.fits = true) : (s.set f x).get f = x % 2 ^ f.wd := by
  unfold State.get
  rw [State.rd_set_same s f x h, bitsOf_withBits_same]

/-- A field of another word is not touched. -/
theorem State.get_set_addr (s : State) (f g : Fld) (x : Nat) (h : g.addr ≠ f.addr) : (s.set f x).get g = s.get g := by
  unfold State.get
  rw [State.rd_set_ne s f x g.addr h]

/-- Another field of the same word is not touched. -/
theorem State.get_set_bits (s : State) (f g : Fld) (x : Nat) (hf : f.fits = true) (h : f.lo + f.wd ≤ g.lo ∨ g.lo + g.wd ≤ f.lo) :
    (s.set f x).get g = s.get g := by
  by_cases ha : g.addr = f.addr
  · unfold State.get
    rw [ha, State.rd_set_same s f x hf, bitsOf_withBits_ne _ _ _ _ _ _ h]
  · exact State.get_set_addr s f g x ha

/-- A flag reads what was written to it. -/
theorem State.flag_setFlag_same (s : State) (f : Fld) (b : Bool) (h : f.fits = true) (hw : 1 ≤ f.wd) : (s.setFlag f b).flag f = b := by
  unfold State.setFlag State.flag
  rw [State.get_set_same s f _ h]
  have : 1 < 2 ^ f.wd := Nat.one_lt_two_pow (by omega)
  cases b
  · simp [bit]
  · simp [bit, Nat.mod_eq_of_lt this]

/-- A field is less than its width allows. -/
theorem State.get_lt (s : State) (f : Fld) : s.get f < 2 ^ f.wd := bitsOf_lt _ _ _

/-- A counter counts, and saturates. -/
theorem State.get_add_same (s : State) (f : Fld) (n : Nat) (h : f.fits = true) : (s.add f n).get f = min (s.get f + n) (2 ^ f.wd - 1) := by
  unfold State.add
  rw [State.get_set_same s f _ h, Nat.mod_eq_of_lt]
  have := Nat.two_pow_pos f.wd
  omega

end Sys2Proof.Machine
end

