-- ==== Sys2Proof/Laws/Ops.lean ====
section
/-! SUPPORT. What each shared operation can do, said once: the fields that raising an event, a source of EMIT_INHIBIT and a completion can change, the
registers that raising an event writes, and the canonical form that writes to registers and memories keep. -/

namespace Sys2Proof.Machine

/-! ### The canonical form -/

theorem State.canonical_iff (s : State) :
    s.canonical = true ↔ spWf regReset s.regs = true ∧ Memory.wf flashDflt s.flash = true ∧ Memory.wf dramDflt s.dram = true := by
  simp [State.canonical, and_assoc]

theorem State.canonical_wr (s : State) (a : Nat) (v : Word) (h : s.canonical = true) : (s.wr a v).canonical = true := by
  rw [State.canonical_iff] at h ⊢
  exact ⟨spWf_spSet _ _ _ _ h.1, h.2⟩

theorem State.canonical_set (s : State) (f : Fld) (x : Nat) (h : s.canonical = true) : (s.set f x).canonical = true := State.canonical_wr _ _ _ h

theorem State.canonical_inc (s : State) (f : Fld) (h : s.canonical = true) : (s.inc f).canonical = true := State.canonical_wr _ _ _ h

theorem Memory.wf_flashWrite (s : State) (a : Nat) (b : List Byte) (h : Memory.wf flashDflt s.flash = true) :
    Memory.wf flashDflt (s.flashWrite a b).flash = true := spWf_spSetList _ _ _ _ h

theorem Memory.wf_flashErase (s : State) (a n : Nat) (h : Memory.wf flashDflt s.flash = true) :
    Memory.wf flashDflt (s.flashErase a n).flash = true :=
  spWf_spKeep flashDflt (fun k => !(decide (a ≤ k) && decide (k < a + n))) s.flash h

theorem Memory.wf_dramWrite (s : State) (a : Nat) (b : List Byte) (h : Memory.wf dramDflt s.dram = true) :
    Memory.wf dramDflt (s.dramWrite a b).dram = true := spWf_spSetList _ _ _ _ h

theorem State.canonical_flashWrite (s : State) (a : Nat) (b : List Byte) (h : s.canonical = true) : (s.flashWrite a b).canonical = true := by
  rw [State.canonical_iff] at h ⊢
  exact ⟨h.1, Memory.wf_flashWrite s a b h.2.1, h.2.2⟩

theorem State.canonical_flashErase (s : State) (a n : Nat) (h : s.canonical = true) : (s.flashErase a n).canonical = true := by
  rw [State.canonical_iff] at h ⊢
  exact ⟨h.1, Memory.wf_flashErase s a n h.2.1, h.2.2⟩

theorem State.canonical_dramWrite (s : State) (a : Nat) (b : List Byte) (h : s.canonical = true) : (s.dramWrite a b).canonical = true := by
  rw [State.canonical_iff] at h ⊢
  exact ⟨h.1, h.2.1, Memory.wf_dramWrite s a b h.2.2⟩

theorem State.canonical_reset : State.reset.canonical = true := by decide

/-! ### Memories: what a byte reads after a write -/

/-- A byte of flash after a write. -/
theorem State.flashWrite_byte (s : State) (a : Nat) (b : List Byte) (k : Nat) (h : k < a ∨ a + b.length ≤ k) :
    spGet flashDflt (s.flashWrite a b).flash k = spGet flashDflt s.flash k := by
  rw [State.flashWrite, spGet_spSetList, dif_neg (by omega)]

/-- A byte of LPDDR5 after a write. -/
theorem State.dramWrite_byte (s : State) (a : Nat) (b : List Byte) (k : Nat) (h : k < a ∨ a + b.length ≤ k) :
    spGet dramDflt (s.dramWrite a b).dram k = spGet dramDflt s.dram k := by
  rw [State.dramWrite, spGet_spSetList, dif_neg (by omega)]

/-- A byte of flash after an erase: 0xFF inside, as before outside. -/
theorem State.flashErase_byte (s : State) (a n k : Nat) :
    spGet flashDflt (s.flashErase a n).flash k = if a ≤ k ∧ k < a + n then 0xFF else spGet flashDflt s.flash k := by
  rw [State.flashErase, spGet_spKeep]
  by_cases h : a ≤ k ∧ k < a + n <;> simp [h, flashDflt]

/-! ### What answering and raising can change -/

/-- `t` differs from `s` in registers, command sessions and queues, streams, faults, the monitor's lines and outputs only. -/
def Answering (s t : State) : Prop :=
  t = { s with regs := t.regs, cmd := t.cmd, fm := t.fm, mon := t.mon, tx := t.tx, out := t.out }

theorem Answering.refl (s : State) : Answering s s := rfl

theorem Answering.trans {s t u : State} (h : Answering s t) (g : Answering t u) : Answering s u := by
  have e := congrArg (fun x : State => { x with regs := u.regs, cmd := u.cmd, fm := u.fm, mon := u.mon, tx := u.tx, out := u.out }) h
  exact Eq.trans g e

theorem Answering.set (s : State) (f : Fld) (x : Nat) : Answering s (s.set f x) := rfl

theorem Answering.inc (s : State) (f : Fld) : Answering s (s.inc f) := rfl

theorem Answering.setSession (s : State) (p : Port) (x : Session) : Answering s (s.setSession p x) := by cases p <;> rfl

theorem Answering.when {s : State} (b : Bool) {f : State → State} (h : Answering s (f s)) : Answering s (s.when b f) := by
  cases b
  · rfl
  · exact h

theorem Answering.each {α : Type} (l : List α) (f : State → α → State) (h : ∀ s a, Answering s (f s a)) (s : State) : Answering s (s.each l f) := by
  induction l generalizing s with
  | nil => rfl
  | cons a l ih => exact (h s a).trans (ih _)

theorem Answering.deliverEvent (s : State) (p : Port) (e : EvEnt) : Answering s (s.deliverEvent p e) := by
  unfold State.deliverEvent
  dsimp only
  split
  · split
    · exact .setSession _ _ _
    · split
      · exact .setSession _ _ _
      · exact (Answering.setSession _ _ _).trans (.inc _ _)
  · rfl

theorem Answering.monSent (l : List (List Byte)) (s : State) : Answering s (s.monSent l) := by
  induction l generalizing s with
  | nil => rfl
  | cons x l ih =>
    unfold State.monSent
    dsimp only
    split
    · refine Answering.trans ?_ (ih _)
      rfl
    · rfl

theorem Answering.monPut (s : State) (l : List Byte) : Answering s (s.monPut l) := by
  unfold State.monPut
  dsimp only
  refine (Answering.monSent s.mon.lines s).trans ?_
  generalize s.monSent s.mon.lines = u
  generalize (if u.mon.lostRun = 0 then _ else _) ++ [l] = add
  split <;> rfl

theorem Answering.monEvent (s : State) (n i d : Nat) : Answering s (s.monEvent n i d) := by
  unfold State.monEvent
  split
  · exact .monPut _ _
  · rfl

/-- Raising an event. -/
theorem Answering.raise (s : State) (n i d : Nat) : Answering s (s.raise n i d) := by
  unfold State.raise
  dsimp only
  have a : ∀ e l, Answering s ((((s.set ⟨0x10100 + 4 * (n / 32), n % 32, 1⟩ 1).inc (F.CMD.EV_COUNT n)).each l (fun s p => s.deliverEvent p e)).monEvent n i d) :=
    fun e l => (((Answering.set _ _ _).trans (.inc _ _)).trans (Answering.each l _ (fun s p => .deliverEvent s p e) _)).trans (.monEvent _ _ _ _)
  split
  · exact ((a _ _).trans (.when _ (.set _ _ _))).trans rfl
  · exact a _ _

/-- A source of EMIT_INHIBIT asserts. -/
theorem Answering.inhibitOn (s : State) (m : Nat) : Answering s (s.inhibitOn m) := by
  unfold State.inhibitOn
  dsimp only
  split
  · split
    · exact (Answering.set _ _ _).trans (.set _ _ _)
    · exact ((Answering.set _ _ _).trans (.set _ _ _)).trans (.raise _ _ _ _)
  · rfl

/-- A source of EMIT_INHIBIT deasserts. -/
theorem Answering.inhibitOff (s : State) (m : Nat) : Answering s (s.inhibitOff m) := by
  unfold State.inhibitOff
  split
  · exact .set _ _ _
  · rfl

theorem Answering.sendOn (s : State) (p : Port) (b : List Byte) : Answering s (s.sendOn p b) := by
  cases p
  · rfl
  · exact (Answering.inc _ _).trans rfl
  · rfl

/-- The completion of an ACCEPTED command. -/
theorem Answering.complete (s : State) (op st d : Nat) (b : List Byte) : Answering s (s.complete op st d b) := by
  unfold State.complete
  split
  · rfl
  · refine Answering.trans ?_ (.raise _ _ _ _)
    refine Answering.trans ?_ (.when _ (.sendOn _ _ _))
    refine Answering.trans ?_ (.setSession _ _ _)
    rfl

/-- A completion of a command that does not run does nothing. -/
theorem State.complete_none (s : State) (op st d : Nat) (b : List Byte) (h : s.isRunning op = false) : s.complete op st d b = s := by
  unfold State.complete
  split
  · rfl
  · rename_i r hr
    have := List.find?_some hr
    have hm := List.mem_of_find?_eq_some hr
    rw [State.isRunning, List.any_eq_false] at h
    exact absurd this (by simpa using h r hm)

/-! ### Which registers raising an event writes -/

/-- The words that raising event `n` can write. -/
def eventWords (n : Nat) : List Nat :=
  [0x10100 + 4 * (n / 32), (F.CMD.EV_COUNT n).addr, F.CMD.EVT_DROP.addr, F.MON.EV_LINES_LOST.addr, (activeBit n).addr]

theorem State.deliverEvent_rd (s : State) (p : Port) (e : EvEnt) (a : Nat) (h : a ≠ F.CMD.EVT_DROP.addr) : (s.deliverEvent p e).rd a = s.rd a := by
  have x : ∀ y : Session, (s.setSession p y).rd a = s.rd a := fun y => by cases p <;> rfl
  unfold State.deliverEvent
  dsimp only
  split
  · split
    · exact x _
    · split
      · exact x _
      · rw [State.rd_inc_ne _ _ _ h, x]
  · rfl

theorem State.monSent_rd (l : List (List Byte)) (s : State) (a : Nat) : (s.monSent l).rd a = s.rd a := by
  induction l generalizing s with
  | nil => rfl
  | cons x l ih =>
    unfold State.monSent
    dsimp only
    split
    · rw [ih]; rfl
    · rfl

theorem State.monPut_rd (s : State) (l : List Byte) (a : Nat) (h : a ≠ F.MON.EV_LINES_LOST.addr) : (s.monPut l).rd a = s.rd a := by
  rw [← State.monSent_rd s.mon.lines s a]
  unfold State.monPut
  dsimp only
  generalize s.monSent s.mon.lines = u
  generalize (if u.mon.lostRun = 0 then _ else _) ++ [l] = add
  split
  · rfl
  · rw [State.rd_inc_ne _ _ _ h]
    rfl

theorem State.monEvent_rd (s : State) (n i d a : Nat) (h : a ≠ F.MON.EV_LINES_LOST.addr) : (s.monEvent n i d).rd a = s.rd a := by
  unfold State.monEvent
  split
  · exact State.monPut_rd _ _ _ h
  · rfl

/-- Raising an event writes no register but those of `eventWords`. -/
theorem State.raise_rd (s : State) (n i d a : Nat) (h : a ∉ eventWords n) : (s.raise n i d).rd a = s.rd a := by
  simp only [eventWords, List.mem_cons, List.not_mem_nil, or_false, not_or] at h
  obtain ⟨h1, h2, h3, h4, h5⟩ := h
  have each : ∀ (l : List Port) (e : EvEnt) (u : State), (u.each l (fun s p => s.deliverEvent p e)).rd a = u.rd a := by
    intro l e
    induction l with
    | nil => intro u; rfl
    | cons p l ih => intro u; exact (ih _).trans (State.deliverEvent_rd _ _ _ _ h3)
  unfold State.raise
  dsimp only
  split
  · show ((State.when _ _ _).rd a) = _
    unfold State.when
    split
    · rw [State.rd_set_ne _ _ _ _ h5, State.monEvent_rd _ _ _ _ _ h4, each, State.rd_inc_ne _ _ _ h2, State.rd_set_ne _ _ _ _ h1]
    · rw [State.monEvent_rd _ _ _ _ _ h4, each, State.rd_inc_ne _ _ _ h2, State.rd_set_ne _ _ _ _ h1]
  · rw [State.monEvent_rd _ _ _ _ _ h4, each, State.rd_inc_ne _ _ _ h2, State.rd_set_ne _ _ _ _ h1]

end Sys2Proof.Machine
end

