-- ==== Sys2Proof/Laws/PerInstr.lean ====
section
/-! SUPPORT. Laws of every command as syntax: a well-formed command row stands for a packet whose payload has its opcode's length and
fits its transport. -/

namespace Sys2Proof.Machine

@[simp] theorem length_beBytes (n x : Nat) : (beBytes n x).length = n := by
  induction n generalizing x with
  | zero => rfl
  | succ n ih => simp [beBytes, ih]

@[simp] theorem length_zeros (n : Nat) : (zeros n).length = n := by simp [zeros]

@[simp] theorem length_wordBytes (ws : List Word) : (wordBytes ws).length = 4 * ws.length := by
  induction ws with
  | nil => rfl
  | cons w r ih => simp only [wordBytes, List.flatMap_cons, List.length_append, length_beBytes, List.length_cons] at ih ⊢; omega

@[simp] theorem length_maskBytes (m : BitVec 256) : (maskBytes m).length = 32 := by simp [maskBytes]

theorem beAt_append_left (p q : List Byte) (i n : Nat) (h : i + n ≤ p.length) : beAt (p ++ q) i n = beAt p i n := by
  unfold beAt
  rw [List.drop_append_of_le_length (by omega), List.take_append_of_le_length (by simp; omega)]

theorem beAt_append_right (p q : List Byte) (i n : Nat) (h : p.length ≤ i) : beAt (p ++ q) i n = beAt q (i - p.length) n := by
  unfold beAt
  rw [List.drop_append]
  have : p.drop i = [] := List.drop_eq_nil_of_le h
  rw [this, List.nil_append]

theorem ofBe_beBytes2 (x : Nat) : ofBe (beBytes 2 x) = x % 65536 := by
  simp only [beBytes, ofBe, List.foldl_cons, List.foldl_nil, BitVec.toNat_ofNat]
  omega

theorem ofBe_beBytes4 (x : Nat) : ofBe (beBytes 4 x) = x % 2 ^ 32 := by
  simp only [beBytes, ofBe, List.foldl_cons, List.foldl_nil, BitVec.toNat_ofNat]
  omega

theorem beAt_beBytes (n x : Nat) (q : List Byte) : beAt (beBytes n x ++ q) 0 n = ofBe (beBytes n x) := by
  rw [beAt_append_left _ _ _ _ (by simp)]
  simp [beAt, List.take_of_length_le]

/-- A REG_WRITE's count is the number of its words. -/
theorem count_regWritePayload (a : Nat) (vs : List Word) (h : vs.length < 65536) : beAt (regWritePayload a vs) 4 2 = vs.length := by
  unfold regWritePayload
  rw [List.append_assoc, List.append_assoc, beAt_append_right _ _ _ _ (by simp)]
  simp only [length_beBytes, Nat.sub_self]
  rw [beAt_beBytes, ofBe_beBytes2, Nat.mod_eq_of_lt h]

@[simp] theorem length_regWritePayload (a : Nat) (vs : List Word) : (regWritePayload a vs).length = 8 + 4 * vs.length := by
  unfold regWritePayload
  simp only [List.length_append, length_beBytes, length_zeros, length_wordBytes]

@[simp] theorem length_regReadPayload (a n : Nat) : (regReadPayload a n).length = 8 := by
  unfold regReadPayload
  simp

theorem lengthOk_regWrite (a : Nat) (vs : List Word) (h : vs.length < 65536) : lengthOk 9 (regWritePayload a vs) = some true := by
  have h1 : opLengths.find? (fun e => e.1 == 9) = none := by decide
  have h2 : opVariable.find? (fun e => e.1 == 9) = some (9, 8, 4, 2, 4) := by decide
  unfold lengthOk
  rw [h1, h2]
  simp only [Option.map_some, length_regWritePayload, count_regWritePayload a vs h]
  simp [Nat.mul_comm]

theorem lengthOk_fixed (op n : Nat) (p : List Byte) (h1 : opLengths.find? (fun e => e.1 == op) = some (op, n)) (h2 : p.length = n) :
    lengthOk op p = some true := by
  unfold lengthOk
  rw [h1]
  simp [h2]

theorem lengthOk_variable (op a b c d : Nat) (p : List Byte) (h0 : opLengths.find? (fun e => e.1 == op) = none)
    (h1 : opVariable.find? (fun e => e.1 == op) = some (op, a, b, c, d)) (h2 : p.length = a + beAt p b c * d) : lengthOk op p = some true := by
  unfold lengthOk
  rw [h0, h1]
  simp only [Option.map_some, Option.some.injEq, Bool.and_eq_true, decide_eq_true_eq, beq_iff_eq]
  omega

theorem payloadLimit_ge (via : Port) : 1456 ≤ payloadLimit via := by cases via <;> simp [payloadLimit]

theorem fixedRow (via : Port) (op n : Nat) (p : List Byte) (h1 : opLengths.find? (fun e => e.1 == op) = some (op, n)) (h2 : p.length = n) (h3 : n ≤ 1456) :
    lengthOk op p = some true ∧ p.length ≤ payloadLimit via :=
  ⟨lengthOk_fixed op n p h1 h2, by have := payloadLimit_ge via; omega⟩

theorem writeRow (via : Port) (a : Nat) (vs : List Word) (h : vs.length ≤ 256) :
    lengthOk 9 (regWritePayload a vs) = some true ∧ (regWritePayload a vs).length ≤ payloadLimit via :=
  ⟨lengthOk_regWrite a vs (by omega), by have := payloadLimit_ge via; simp only [length_regWritePayload]; omega⟩

theorem payloadLimit_le (via : Port) : payloadLimit via ≤ 2048 := by cases via <;> simp [payloadLimit]

end Sys2Proof.Machine

set_option Elab.async false

namespace Sys2Proof.Laws.PacketLength

open Sys2Proof.Machine

/-- A well-formed command row stands for a packet whose payload has the length of its opcode and fits its transport. -/
def Statement (i : Instr) : Prop :=
  i.wellFormed = true → ∀ p, asPacket i = some p → lengthOk p.op p.data = some true ∧ p.data.length ≤ payloadLimit p.via


theorem spiWriteFrame (bytes : List Byte) : Statement (.spiWriteFrame bytes) := by
  intro _ p hp; cases hp

theorem spiReadFrame (clocked : Nat) : Statement (.spiReadFrame clocked) := by
  intro _ p hp; cases hp

theorem udpCommandDatagram (src : Peer) (bytes : List Byte) : Statement (.udpCommandDatagram src bytes) := by
  intro _ p hp; cases hp

theorem oazilUpstreamBlock (bytes : List Byte) : Statement (.oazilUpstreamBlock bytes) := by
  intro _ p hp; cases hp

theorem eventPacketSend (via : Port) : Statement (.eventPacketSend via) := by
  intro _ p hp; cases hp

theorem ping (via : Port) (seq : BitVec 16) : Statement (.ping via seq) := by
  intro _ p hp; cases hp; exact fixedRow via 1 0 _ (by decide) (by simp) (by decide)

theorem identify (via : Port) (seq : BitVec 16) : Statement (.identify via seq) := by
  intro _ p hp; cases hp; exact fixedRow via 2 0 _ (by decide) (by simp) (by decide)

theorem status (via : Port) (seq : BitVec 16) : Statement (.status via seq) := by
  intro _ p hp; cases hp; exact fixedRow via 3 0 _ (by decide) (by simp) (by decide)

theorem sessionReset (via : Port) (seq : BitVec 16) : Statement (.sessionReset via seq) := by
  intro _ p hp; cases hp; exact fixedRow via 4 0 _ (by decide) (by simp) (by decide)

theorem cmdStatus (via : Port) (seq : BitVec 16) (target : BitVec 16) : Statement (.cmdStatus via seq target) := by
  intro _ p hp; cases hp; exact fixedRow via 5 4 _ (by decide) (by simp) (by decide)

theorem regRead (via : Port) (seq : BitVec 16) (addr : BitVec 32) (count : BitVec 16) : Statement (.regRead via seq addr count) := by
  intro _ p hp; cases hp; exact fixedRow via 8 8 _ (by decide) (by simp) (by decide)

theorem regWrite (via : Port) (seq : BitVec 16) (addr : BitVec 32) (values : List Word) : Statement (.regWrite via seq addr values) := by
  intro hw p hp
  cases hp
  have hl := payloadLimit_le via
  simp only [Instr.wellFormed, decide_eq_true_eq] at hw
  exact ⟨lengthOk_regWrite _ _ (by omega), by simpa using hw⟩

theorem regRmw (via : Port) (seq : BitVec 16) (addr mask value : BitVec 32) : Statement (.regRmw via seq addr mask value) := by
  intro _ p hp; cases hp; exact fixedRow via 10 12 _ (by decide) (by simp) (by decide)

theorem dormant (via : Port) (seq : BitVec 16) : Statement (.dormant via seq) := by
  intro _ p hp; cases hp; exact fixedRow via 16 0 _ (by decide) (by simp) (by decide)

theorem dormantEntryBegin : Statement (.dormantEntryBegin) := by
  intro _ p hp; cases hp

theorem dormantEntryComplete : Statement (.dormantEntryComplete) := by
  intro _ p hp; cases hp

theorem safeHold (via : Port) (seq : BitVec 16) : Statement (.safeHold via seq) := by
  intro _ p hp; cases hp; exact fixedRow via 17 0 _ (by decide) (by simp) (by decide)

theorem faultClear (via : Port) (seq : BitVec 16) : Statement (.faultClear via seq) := by
  intro _ p hp; cases hp; exact fixedRow via 18 0 _ (by decide) (by simp) (by decide)

theorem eventSubscribe (via : Port) (seq : BitVec 16) (mask : BitVec 256) : Statement (.eventSubscribe via seq mask) := by
  intro _ p hp; cases hp; exact fixedRow via 20 32 _ (by decide) (by simp) (by decide)

theorem scanStart (via : Port) (seq : BitVec 16) (profile flags : Byte) : Statement (.scanStart via seq profile flags) := by
  intro _ p hp; cases hp; exact fixedRow via 256 4 _ (by decide) (by simp) (by decide)

theorem settleTimeout : Statement (.settleTimeout) := by
  intro _ p hp; cases hp

theorem scanStop (via : Port) (seq : BitVec 16) : Statement (.scanStop via seq) := by
  intro _ p hp; cases hp; exact fixedRow via 257 0 _ (by decide) (by simp) (by decide)

theorem profileOverride (via : Port) (seq : BitVec 16) (profile : Byte) (field : BitVec 16) (value : BitVec 32) : Statement (.profileOverride via seq profile field value) := by
  intro _ p hp; cases hp; exact fixedRow via 258 8 _ (by decide) (by simp) (by decide)

theorem profileRead (via : Port) (seq : BitVec 16) (profile : Byte) : Statement (.profileRead via seq profile) := by
  intro _ p hp; cases hp; exact fixedRow via 259 4 _ (by decide) (by simp) (by decide)

theorem histDump (via : Port) (seq : BitVec 16) (firstRow rows columns : BitVec 16) (parts : Byte) : Statement (.histDump via seq firstRow rows columns parts) := by
  intro _ p hp; cases hp; exact fixedRow via 264 8 _ (by decide) (by simp) (by decide)

theorem histDumpComplete : Statement (.histDumpComplete) := by
  intro _ p hp; cases hp

theorem histDumpCancel (via : Port) (seq : BitVec 16) : Statement (.histDumpCancel via seq) := by
  intro _ p hp; cases hp; exact fixedRow via 265 0 _ (by decide) (by simp) (by decide)

theorem emitterInhibit (via : Port) (seq : BitVec 16) (inhibit : Byte) : Statement (.emitterInhibit via seq inhibit) := by
  intro _ p hp; cases hp; exact fixedRow via 512 4 _ (by decide) (by simp) (by decide)

theorem stringEnable (via : Port) (seq : BitVec 16) (mask : BitVec 32) : Statement (.stringEnable via seq mask) := by
  intro _ p hp; cases hp; exact fixedRow via 513 4 _ (by decide) (by simp) (by decide)

theorem chargeTest (via : Port) (seq : BitVec 16) (string : Byte) (target : BitVec 16) : Statement (.chargeTest via seq string target) := by
  intro _ p hp; cases hp; exact fixedRow via 514 4 _ (by decide) (by simp) (by decide)

theorem chargeTestComplete (reachedTarget : Bool) (timeNs : BitVec 32) (reached : BitVec 16) : Statement (.chargeTestComplete reachedTarget timeNs reached) := by
  intro _ p hp; cases hp

theorem limiterRead (via : Port) (seq : BitVec 16) : Statement (.limiterRead via seq) := by
  intro _ p hp; cases hp; exact fixedRow via 515 0 _ (by decide) (by simp) (by decide)

theorem triggerConfig (via : Port) (seq : BitVec 16) (input bankMask edge : Byte) : Statement (.triggerConfig via seq input bankMask edge) := by
  intro _ p hp; cases hp; exact fixedRow via 516 4 _ (by decide) (by simp) (by decide)

theorem loopMode (via : Port) (seq : BitVec 16) (loop mode : Byte) : Statement (.loopMode via seq loop mode) := by
  intro _ p hp; cases hp; exact fixedRow via 768 4 _ (by decide) (by simp) (by decide)

theorem loopCoefSet (via : Port) (seq : BitVec 16) (loop : Byte) (coef : List Word) : Statement (.loopCoefSet via seq loop coef) := by
  intro hw p hp; cases hp
  simp [Instr.wellFormed] at hw
  exact fixedRow via 769 44 _ (by decide) (by simp [hw]) (by decide)

theorem loopCoefSetComplete (loop : Fin 8) : Statement (.loopCoefSetComplete loop) := by
  intro _ p hp; cases hp

theorem loopSetpoint (via : Port) (seq : BitVec 16) (loop : Byte) (sp : BitVec 32) : Statement (.loopSetpoint via seq loop sp) := by
  intro _ p hp; cases hp; exact fixedRow via 770 8 _ (by decide) (by simp) (by decide)

theorem loopRead (via : Port) (seq : BitVec 16) (loop : Byte) : Statement (.loopRead via seq loop) := by
  intro _ p hp; cases hp; exact fixedRow via 771 4 _ (by decide) (by simp) (by decide)

theorem trajectoryLoad (via : Port) (seq : BitVec 16) (first : BitVec 16) (entries : List Word) : Statement (.trajectoryLoad via seq first entries) := by
  intro hw p hp
  cases hp
  have hl := payloadLimit_le via
  simp only [Instr.wellFormed, decide_eq_true_eq] at hw
  refine ⟨lengthOk_variable 772 4 2 2 4 _ (by decide) (by decide) ?_, by simp; omega⟩
  rw [List.append_assoc, beAt_append_right _ _ _ _ (by simp)]
  simp only [length_beBytes, Nat.sub_self]
  rw [beAt_beBytes, ofBe_beBytes2, Nat.mod_eq_of_lt (by omega)]
  simp; omega

theorem camConfig (via : Port) (seq : BitVec 16) (camera : Byte) (block : List Byte) : Statement (.camConfig via seq camera block) := by
  intro hw p hp; cases hp
  simp [Instr.wellFormed] at hw
  exact fixedRow via 1024 68 _ (by decide) (by simp [hw]) (by decide)

theorem camRun (via : Port) (seq : BitVec 16) (camera run : Byte) : Statement (.camRun via seq camera run) := by
  intro _ p hp; cases hp; exact fixedRow via 1025 4 _ (by decide) (by simp) (by decide)

theorem pipeContextSet (via : Port) (seq : BitVec 16) (context stage : Byte) (data : List Byte) : Statement (.pipeContextSet via seq context stage data) := by
  intro hw p hp
  cases hp
  have hl := payloadLimit_le via
  simp only [Instr.wellFormed, decide_eq_true_eq] at hw
  refine ⟨lengthOk_variable 1026 4 2 2 1 _ (by decide) (by decide) ?_, by simp; omega⟩
  rw [List.append_assoc, beAt_append_right _ _ _ _ (by simp)]
  simp only [List.length_cons, List.length_nil, Nat.sub_self]
  rw [beAt_beBytes, ofBe_beBytes2, Nat.mod_eq_of_lt (by omega)]
  simp; omega

theorem statsRequest (via : Port) (seq : BitVec 16) (context : Byte) : Statement (.statsRequest via seq context) := by
  intro _ p hp; cases hp; exact fixedRow via 1027 4 _ (by decide) (by simp) (by decide)

theorem statsRequestComplete (context : Fin 4) (frameClosed : Bool) : Statement (.statsRequestComplete context frameClosed) := by
  intro _ p hp; cases hp

theorem reprocess (via : Port) (seq : BitVec 16) (context : Byte) (addr : BitVec 64) : Statement (.reprocess via seq context addr) := by
  intro _ p hp; cases hp; exact fixedRow via 1028 12 _ (by decide) (by simp) (by decide)

theorem reprocessComplete (context : Fin 4) : Statement (.reprocessComplete context) := by
  intro _ p hp; cases hp

theorem dispMode (via : Port) (seq : BitVec 16) (display : Byte) (block : List Byte) : Statement (.dispMode via seq display block) := by
  intro hw p hp; cases hp
  simp [Instr.wellFormed] at hw
  exact fixedRow via 1280 36 _ (by decide) (by simp [hw]) (by decide)

theorem layerSet (via : Port) (seq : BitVec 16) (display layer : Byte) (block : List Byte) : Statement (.layerSet via seq display layer block) := by
  intro hw p hp; cases hp
  simp [Instr.wellFormed] at hw
  exact fixedRow via 1281 36 _ (by decide) (by simp [hw]) (by decide)

theorem commit (via : Port) (seq : BitVec 16) (display : Byte) : Statement (.commit via seq display) := by
  intro _ p hp; cases hp; exact fixedRow via 1282 4 _ (by decide) (by simp) (by decide)

theorem dispRun (via : Port) (seq : BitVec 16) (display run : Byte) : Statement (.dispRun via seq display run) := by
  intro _ p hp; cases hp; exact fixedRow via 1283 4 _ (by decide) (by simp) (by decide)

theorem linkTrain (via : Port) (seq : BitVec 16) (port rate : Byte) : Statement (.linkTrain via seq port rate) := by
  intro _ p hp; cases hp; exact fixedRow via 1536 4 _ (by decide) (by simp) (by decide)

theorem linkTrainComplete (port : Fin 3) : Statement (.linkTrainComplete port) := by
  intro _ p hp; cases hp

theorem linkStatus (via : Port) (seq : BitVec 16) (port : Byte) : Statement (.linkStatus via seq port) := by
  intro _ p hp; cases hp; exact fixedRow via 1537 4 _ (by decide) (by simp) (by decide)

theorem timeRead (via : Port) (seq : BitVec 16) : Statement (.timeRead via seq) := by
  intro _ p hp; cases hp; exact fixedRow via 1538 0 _ (by decide) (by simp) (by decide)

theorem timeConfig (via : Port) (seq : BitVec 16) (block : List Byte) : Statement (.timeConfig via seq block) := by
  intro hw p hp; cases hp
  simp [Instr.wellFormed] at hw
  exact fixedRow via 1539 16 _ (by decide) (by simp [hw]) (by decide)

theorem netConfig (via : Port) (seq : BitVec 16) (ip mask gw : BitVec 32) (vlan : BitVec 16) : Statement (.netConfig via seq ip mask gw vlan) := by
  intro _ p hp; cases hp; exact fixedRow via 1540 16 _ (by decide) (by simp) (by decide)

theorem syncConfig (via : Port) (seq : BitVec 16) (role : Byte) (slotOffset : BitVec 32) : Statement (.syncConfig via seq role slotOffset) := by
  intro _ p hp; cases hp; exact fixedRow via 1541 8 _ (by decide) (by simp) (by decide)

theorem safetyStatus (via : Port) (seq : BitVec 16) : Statement (.safetyStatus via seq) := by
  intro _ p hp; cases hp; exact fixedRow via 1792 0 _ (by decide) (by simp) (by decide)

theorem commissionOpen (via : Port) (seq : BitVec 16) (credential : List Byte) : Statement (.commissionOpen via seq credential) := by
  intro hw p hp; cases hp
  simp [Instr.wellFormed] at hw
  exact fixedRow via 1793 32 _ (by decide) (by simp [hw]) (by decide)

theorem fieldWrite (via : Port) (seq : BitVec 16) (session : BitVec 32) (field vertices : Byte) (block : List Byte) : Statement (.fieldWrite via seq session field vertices block) := by
  intro hw p hp
  cases hp
  simp only [Instr.wellFormed, Bool.and_eq_true, decide_eq_true_eq] at hw
  refine ⟨lengthOk_variable 1794 16 5 1 8 _ (by decide) (by decide) ?_, by simp; omega⟩
  rw [List.append_assoc, List.append_assoc, beAt_append_right _ _ _ _ (by simp)]
  simp [beAt, ofBe]
  omega

theorem safetyParamWrite (via : Port) (seq : BitVec 16) (session : BitVec 32) (param : BitVec 16) (value : BitVec 32) : Statement (.safetyParamWrite via seq session param value) := by
  intro _ p hp; cases hp; exact fixedRow via 1795 12 _ (by decide) (by simp) (by decide)

theorem commissionCommit (via : Port) (seq : BitVec 16) (session crc : BitVec 32) : Statement (.commissionCommit via seq session crc) := by
  intro _ p hp; cases hp; exact fixedRow via 1796 8 _ (by decide) (by simp) (by decide)

theorem commissionCommitComplete (copiesWritten : Fin 3) : Statement (.commissionCommitComplete copiesWritten) := by
  intro _ p hp; cases hp

theorem commissionAbort (via : Port) (seq : BitVec 16) (session : BitVec 32) : Statement (.commissionAbort via seq session) := by
  intro _ p hp; cases hp; exact fixedRow via 1797 4 _ (by decide) (by simp) (by decide)

theorem hkConfig (via : Port) (seq : BitVec 16) (block : List Byte) : Statement (.hkConfig via seq block) := by
  intro hw p hp; cases hp
  simp [Instr.wellFormed] at hw
  exact fixedRow via 2048 64 _ (by decide) (by simp [hw]) (by decide)

theorem hkUrgent (via : Port) (seq : BitVec 16) (slot : Byte) : Statement (.hkUrgent via seq slot) := by
  intro _ p hp; cases hp; exact fixedRow via 2049 4 _ (by decide) (by simp) (by decide)

theorem hkUrgentComplete (code : Int) : Statement (.hkUrgentComplete code) := by
  intro _ p hp; cases hp

theorem filterSync (via : Port) (seq : BitVec 16) : Statement (.filterSync via seq) := by
  intro _ p hp; cases hp; exact fixedRow via 2050 0 _ (by decide) (by simp) (by decide)

theorem filterSyncTimeout : Statement (.filterSyncTimeout) := by
  intro _ p hp; cases hp

theorem tiaRange (via : Port) (seq : BitVec 16) (channel range : Byte) : Statement (.tiaRange via seq channel range) := by
  intro _ p hp; cases hp; exact fixedRow via 2051 4 _ (by decide) (by simp) (by decide)

theorem thermalRead (via : Port) (seq : BitVec 16) : Statement (.thermalRead via seq) := by
  intro _ p hp; cases hp; exact fixedRow via 2052 0 _ (by decide) (by simp) (by decide)

theorem calRun (via : Port) (seq : BitVec 16) (items : BitVec 16) : Statement (.calRun via seq items) := by
  intro _ p hp; cases hp; exact fixedRow via 2053 4 _ (by decide) (by simp) (by decide)

theorem calRunComplete : Statement (.calRunComplete) := by
  intro _ p hp; cases hp

theorem calRecordRead (via : Port) (seq : BitVec 16) (record : BitVec 16) : Statement (.calRecordRead via seq record) := by
  intro _ p hp; cases hp; exact fixedRow via 2054 4 _ (by decide) (by simp) (by decide)

theorem auxoutSet (via : Port) (seq : BitVec 16) (value : BitVec 32) : Statement (.auxoutSet via seq value) := by
  intro _ p hp; cases hp; exact fixedRow via 2055 4 _ (by decide) (by simp) (by decide)

theorem illSet (via : Port) (seq : BitVec 16) (mask : Byte) (level : BitVec 16) : Statement (.illSet via seq mask level) := by
  intro _ p hp; cases hp; exact fixedRow via 2056 4 _ (by decide) (by simp) (by decide)

theorem recorderArm (via : Port) (seq : BitVec 16) (block : List Byte) : Statement (.recorderArm via seq block) := by
  intro hw p hp; cases hp
  simp [Instr.wellFormed] at hw
  exact fixedRow via 2304 32 _ (by decide) (by simp [hw]) (by decide)

theorem recorderForce (via : Port) (seq : BitVec 16) : Statement (.recorderForce via seq) := by
  intro _ p hp; cases hp; exact fixedRow via 2305 0 _ (by decide) (by simp) (by decide)

theorem recorderRead (via : Port) (seq : BitVec 16) (capture : Byte) : Statement (.recorderRead via seq capture) := by
  intro _ p hp; cases hp; exact fixedRow via 2306 4 _ (by decide) (by simp) (by decide)

theorem recorderReadComplete (refused : Bool) : Statement (.recorderReadComplete refused) := by
  intro _ p hp; cases hp

theorem faultLogRead (via : Port) (seq : BitVec 16) (first count : BitVec 16) : Statement (.faultLogRead via seq first count) := by
  intro _ p hp; cases hp; exact fixedRow via 2307 4 _ (by decide) (by simp) (by decide)

theorem classCountersRead (via : Port) (seq : BitVec 16) : Statement (.classCountersRead via seq) := by
  intro _ p hp; cases hp; exact fixedRow via 2308 0 _ (by decide) (by simp) (by decide)

theorem monitorControl (via : Port) (seq : BitVec 16) (enable : Byte) : Statement (.monitorControl via seq enable) := by
  intro _ p hp; cases hp; exact fixedRow via 2309 4 _ (by decide) (by simp) (by decide)

theorem compConfig (via : Port) (seq : BitVec 16) (level context : Byte) : Statement (.compConfig via seq level context) := by
  intro _ p hp; cases hp; exact fixedRow via 2560 4 _ (by decide) (by simp) (by decide)

theorem compContextSave (via : Port) (seq : BitVec 16) (context : Byte) (addr : BitVec 64) : Statement (.compContextSave via seq context addr) := by
  intro _ p hp; cases hp; exact fixedRow via 2561 12 _ (by decide) (by simp) (by decide)

theorem contextSaveComplete : Statement (.contextSaveComplete) := by
  intro _ p hp; cases hp

theorem compContextRestore (via : Port) (seq : BitVec 16) (context : Byte) (addr : BitVec 64) : Statement (.compContextRestore via seq context addr) := by
  intro _ p hp; cases hp; exact fixedRow via 2562 12 _ (by decide) (by simp) (by decide)

theorem contextRestoreComplete : Statement (.contextRestoreComplete) := by
  intro _ p hp; cases hp

theorem decompress (via : Port) (seq : BitVec 16) (src : BitVec 64) (srcLen : BitVec 32) (dst : BitVec 64) (limit : BitVec 32) : Statement (.decompress via seq src srcLen dst limit) := by
  intro _ p hp; cases hp; exact fixedRow via 2563 24 _ (by decide) (by simp) (by decide)

theorem decompressComplete : Statement (.decompressComplete) := by
  intro _ p hp; cases hp

theorem flashRead (via : Port) (seq : BitVec 16) (addr : BitVec 32) (length : BitVec 16) : Statement (.flashRead via seq addr length) := by
  intro _ p hp; cases hp; exact fixedRow via 2564 8 _ (by decide) (by simp) (by decide)

theorem fwInfo (via : Port) (seq : BitVec 16) : Statement (.fwInfo via seq) := by
  intro _ p hp; cases hp; exact fixedRow via 3840 0 _ (by decide) (by simp) (by decide)

theorem fwBegin (via : Port) (seq : BitVec 16) (slot : Byte) (length : BitVec 32) : Statement (.fwBegin via seq slot length) := by
  intro _ p hp; cases hp; exact fixedRow via 3841 8 _ (by decide) (by simp) (by decide)

theorem flashEraseComplete : Statement (.flashEraseComplete) := by
  intro _ p hp; cases hp

theorem fwWrite (via : Port) (seq : BitVec 16) (offset : BitVec 32) (data : List Byte) : Statement (.fwWrite via seq offset data) := by
  intro hw p hp
  cases hp
  have hl := payloadLimit_le via
  simp only [Instr.wellFormed, decide_eq_true_eq] at hw
  refine ⟨lengthOk_variable 3842 8 4 2 1 _ (by decide) (by decide) ?_, by simp; omega⟩
  rw [List.append_assoc, List.append_assoc, beAt_append_right _ _ _ _ (by simp)]
  simp only [length_beBytes, Nat.sub_self]
  rw [beAt_beBytes, ofBe_beBytes2, Nat.mod_eq_of_lt (by omega)]
  simp; omega

theorem fwVerify (via : Port) (seq : BitVec 16) : Statement (.fwVerify via seq) := by
  intro _ p hp; cases hp; exact fixedRow via 3843 0 _ (by decide) (by simp) (by decide)

theorem fwVerifyComplete (flashError : Bool) : Statement (.fwVerifyComplete flashError) := by
  intro _ p hp; cases hp

theorem fwActivate (via : Port) (seq : BitVec 16) (slot : Byte) : Statement (.fwActivate via seq slot) := by
  intro _ p hp; cases hp; exact fixedRow via 3844 4 _ (by decide) (by simp) (by decide)

theorem reboot (via : Port) (seq : BitVec 16) : Statement (.reboot via seq) := by
  intro _ p hp; cases hp; exact fixedRow via 3845 0 _ (by decide) (by simp) (by decide)

theorem vddAonRise : Statement (.vddAonRise) := by
  intro _ p hp; cases hp

theorem vddAonLoss : Statement (.vddAonLoss) := by
  intro _ p hp; cases hp

theorem railBrownout (rail : Fin 9) : Statement (.railBrownout rail) := by
  intro _ p hp; cases hp

theorem railsGood (bootSel : BitVec 2) : Statement (.railsGood bootSel) := by
  intro _ p hp; cases hp

theorem resetNPulse (ns : Nat) : Statement (.resetNPulse ns) := by
  intro _ p hp; cases hp

theorem watchdogExpiry : Statement (.watchdogExpiry) := by
  intro _ p hp; cases hp

theorem wakeSource (src : BitVec 2) : Statement (.wakeSource src) := by
  intro _ p hp; cases hp

theorem bootRomStart : Statement (.bootRomStart) := by
  intro _ p hp; cases hp

theorem imageVerifyDone (flashError : Bool) : Statement (.imageVerifyDone flashError) := by
  intro _ p hp; cases hp

theorem domainGroupSwitchOn : Statement (.domainGroupSwitchOn) := by
  intro _ p hp; cases hp

theorem powerOnSelfTestDone (sliceFail : BitVec 128) (regionFail : BitVec 4) (fail : BitVec 10) (bootUs : BitVec 32) : Statement (.powerOnSelfTestDone sliceFail regionFail fail bootUs) := by
  intro _ p hp; cases hp

theorem pllUnlock (pll : Fin 7) : Statement (.pllUnlock pll) := by
  intro _ p hp; cases hp

theorem clockMonitorCompare (dev : BitVec 16) : Statement (.clockMonitorCompare dev) := by
  intro _ p hp; cases hp

theorem clockStopDetect (coarse : Bool) : Statement (.clockStopDetect coarse) := by
  intro _ p hp; cases hp

theorem pwrDomReqWrite (via : Port) (seq : BitVec 16) (index : Fin 3) (value : BitVec 32) : Statement (.pwrDomReqWrite via seq index value) := by
  intro _ p hp; cases hp; exact writeRow via _ _ (by simp)

theorem domainReady (dom : Fin 80) : Statement (.domainReady dom) := by
  intro _ p hp; cases hp

theorem calFieldReload (dom : Fin 80) : Statement (.calFieldReload dom) := by
  intro _ p hp; cases hp

theorem column0BoundaryFix (cc : Nat) : Statement (.column0BoundaryFix cc) := by
  intro _ p hp; cases hp

theorem columnBoundary : Statement (.columnBoundary) := by
  intro _ p hp; cases hp

theorem throttleRestart : Statement (.throttleRestart) := by
  intro _ p hp; cases hp

theorem vstrSample (bank : Fin 8) (v : List Nat) : Statement (.vstrSample bank v) := by
  intro _ p hp; cases hp

theorem angleLatch (bank : Fin 8) : Statement (.angleLatch bank) := by
  intro _ p hp; cases hp

theorem shotConsent (bank : Fin 8) (laneFault : Bool) : Statement (.shotConsent bank laneFault) := by
  intro _ p hp; cases hp

theorem shotFire (bank : Fin 8) (laneFault : Bool) : Statement (.shotFire bank laneFault) := by
  intro _ p hp; cases hp

theorem limiterSubwindowAdvance (long : Bool) : Statement (.limiterSubwindowAdvance long) := by
  intro _ p hp; cases hp

theorem pulseWidthClassify (string : Fin 32) (rise : Option Int) (width : Nat) (highAfter20 : Bool) : Statement (.pulseWidthClassify string rise width highAfter20) := by
  intro _ p hp; cases hp

theorem strayCurrent (string : Fin 32) : Statement (.strayCurrent string) := by
  intro _ p hp; cases hp

theorem chargeWindowOpen (bank : Fin 8) (v : List Nat) : Statement (.chargeWindowOpen bank v) := by
  intro _ p hp; cases hp

theorem chargeWindowClose (bank : Fin 8) : Statement (.chargeWindowClose bank) := by
  intro _ p hp; cases hp

theorem chargeTargetReached (string : Fin 32) : Statement (.chargeTargetReached string) := by
  intro _ p hp; cases hp

theorem stringOvervolt (string : Fin 32) : Statement (.stringOvervolt string) := by
  intro _ p hp; cases hp

theorem inhibitSourceAssert (srcs : BitVec 12) : Statement (.inhibitSourceAssert srcs) := by
  intro _ p hp; cases hp

theorem inhibitSourceRelease (src : Fin 12) : Statement (.inhibitSourceRelease src) := by
  intro _ p hp; cases hp

theorem emitInhibitLatchWrite (via : Port) (seq : BitVec 16) (value : BitVec 32) : Statement (.emitInhibitLatchWrite via seq value) := by
  intro _ p hp; cases hp; exact writeRow via _ _ (by simp)

theorem shotTriggerEdge (input : Fin 4) (falling : Bool) (late tight : BitVec 8) : Statement (.shotTriggerEdge input falling late tight) := by
  intro _ p hp; cases hp

theorem stringFaultClear (via : Port) (seq : BitVec 16) (string : Fin 32) (value : BitVec 32) : Statement (.stringFaultClear via seq string value) := by
  intro _ p hp; cases hp; exact writeRow via _ _ (by simp)

theorem pickoffLostClear (via : Port) (seq : BitVec 16) (bank : Fin 8) (value : BitVec 32) : Statement (.pickoffLostClear via seq bank value) := by
  intro _ p hp; cases hp; exact writeRow via _ _ (by simp)

theorem derateCfgWrite (via : Port) (seq : BitVec 16) (value : BitVec 32) : Statement (.derateCfgWrite via seq value) := by
  intro _ p hp; cases hp; exact writeRow via _ _ (by simp)

theorem pickoffEdge (bank : Fin 8) (cc : Nat) (tap : Fin 64) : Statement (.pickoffEdge bank cc tap) := by
  intro _ p hp; cases hp

theorem pickoffWindowEnd (bank : Fin 8) : Statement (.pickoffWindowEnd bank) := by
  intro _ p hp; cases hp

theorem angleSample (code isns : Option (BitVec 16)) (tau : Nat) : Statement (.angleSample code isns tau) := by
  intro _ p hp; cases hp

theorem loopSample (loop : Fin 8) (tau : Nat) (hv : List (Option (BitVec 16))) : Statement (.loopSample loop tau hv) := by
  intro _ p hp; cases hp

theorem loopSwapWrite (via : Port) (seq : BitVec 16) (loop : Fin 8) : Statement (.loopSwapWrite via seq loop) := by
  intro _ p hp; cases hp

theorem loopRateWrite (via : Port) (seq : BitVec 16) (loop : Fin 8) (value : BitVec 32) : Statement (.loopRateWrite via seq loop value) := by
  intro _ p hp; cases hp; exact writeRow via _ _ (by simp)

theorem fbLatchClear (via : Port) (seq : BitVec 16) (loop : Fin 8) (value : BitVec 32) : Statement (.fbLatchClear via seq loop value) := by
  intro _ p hp; cases hp; exact writeRow via _ _ (by simp)

theorem hvOvervolt (hv : BitVec 16) : Statement (.hvOvervolt hv) := by
  intro _ p hp; cases hp

theorem hvOvpClear (via : Port) (seq : BitVec 16) : Statement (.hvOvpClear via seq) := by
  intro _ p hp; cases hp; exact writeRow via _ _ (by simp)

theorem refCellTrigger (swings : List (Option Nat)) : Statement (.refCellTrigger swings) := by
  intro _ p hp; cases hp

theorem vexUpdate : Statement (.vexUpdate) := by
  intro _ p hp; cases hp

theorem rowArm (row : Fin 1024) : Statement (.rowArm row) := by
  intro _ p hp; cases hp

theorem rowDisarm (row : Fin 1024) (armed : Nat) (clocks : List Nat) : Statement (.rowDisarm row armed clocks) := by
  intro _ p hp; cases hp

theorem coincidenceEvent (row : Fin 1024) (cc : Nat) (phase : Fin 8) (cells : Nat) : Statement (.coincidenceEvent row cc phase cells) := by
  intro _ p hp; cases hp

theorem cellMapWrite (via : Port) (seq : BitVec 16) (row : Fin 1024) (q : Fin 8) (lo hi : BitVec 32) : Statement (.cellMapWrite via seq row q lo hi) := by
  intro _ p hp; cases hp; exact writeRow via _ _ (by simp)

theorem ladderWrite (via : Port) (seq : BitVec 16) (step : Fin 6) (value : BitVec 32) : Statement (.ladderWrite via seq step value) := by
  intro _ p hp; cases hp; exact writeRow via _ _ (by simp)

theorem laneRmwCycle (row : Fin 1024) (lane : Bool) (ecc : Fin 3) : Statement (.laneRmwCycle row lane ecc) := by
  intro _ p hp; cases hp

theorem slcEccInjWrite (via : Port) (seq : BitVec 16) (slice : Fin 128) (value : BitVec 32) : Statement (.slcEccInjWrite via seq slice value) := by
  intro _ p hp; cases hp; exact writeRow via _ _ (by simp)

theorem zoomSnapshot (row : Fin 1024) : Statement (.zoomSnapshot row) := by
  intro _ p hp; cases hp

theorem bufferSwap (bank : Fin 8) : Statement (.bufferSwap bank) := by
  intro _ p hp; cases hp

theorem rowReadout (row : Fin 1024) (ecc : Fin 3) (word : Fin 144) : Statement (.rowReadout row ecc word) := by
  intro _ p hp; cases hp

theorem regionColumnRelease (region : Fin 4) : Statement (.regionColumnRelease region) := by
  intro _ p hp; cases hp

theorem peakSelfcheck (region : Fin 4) (matched : Bool) : Statement (.peakSelfcheck region matched) := by
  intro _ p hp; cases hp

theorem dllUnlock (ch : Fin 12) : Statement (.dllUnlock ch) := by
  intro _ p hp; cases hp

theorem dllLock (ch : Fin 12) : Statement (.dllLock ch) := by
  intro _ p hp; cases hp

theorem dllRelockTimeout (ch : Fin 12) : Statement (.dllRelockTimeout ch) := by
  intro _ p hp; cases hp

theorem tapMapWrite (via : Port) (seq : BitVec 16) (ch : Fin 12) (w0 w1 w2 : BitVec 32) : Statement (.tapMapWrite via seq ch w0 w1 w2) := by
  intro _ p hp; cases hp; exact writeRow via _ _ (by simp)

theorem linTableWrite (via : Port) (seq : BitVec 16) (ch : Fin 12) (first : Fin 64) (values : List Word) : Statement (.linTableWrite via seq ch first values) := by
  intro hw p hp
  cases hp
  simp [Instr.wellFormed] at hw
  exact writeRow via _ _ (by omega)

theorem tinEdge (input : Fin 4) (falling : Bool) (cc : Nat) (tap : Fin 64) : Statement (.tinEdge input falling cc tap) := by
  intro _ p hp; cases hp

theorem tinIntervalTimeout (ch : Fin 4) : Statement (.tinIntervalTimeout ch) := by
  intro _ p hp; cases hp

theorem qPopWrite (via : Port) (seq : BitVec 16) (ch : Fin 12) : Statement (.qPopWrite via seq ch) := by
  intro _ p hp; cases hp; exact writeRow via _ _ (by simp)

theorem columnRecordBuild : Statement (.columnRecordBuild) := by
  intro _ p hp; cases hp

theorem regionPartLate : Statement (.regionPartLate) := by
  intro _ p hp; cases hp

theorem frameEndRecord : Statement (.frameEndRecord) := by
  intro _ p hp; cases hp

theorem overflowChainRefill : Statement (.overflowChainRefill) := by
  intro _ p hp; cases hp

theorem psCtrlWrite (via : Port) (seq : BitVec 16) (value : BitVec 32) : Statement (.psCtrlWrite via seq value) := by
  intro _ p hp; cases hp; exact writeRow via _ _ (by simp)

theorem ovfConfigWrite (via : Port) (seq : BitVec 16) (addr : BitVec 32) (values : List Word) : Statement (.ovfConfigWrite via seq addr values) := by
  intro hw p hp
  cases hp
  simp [Instr.wellFormed, writesIn] at hw
  exact writeRow via _ _ (by omega)

theorem csiFrameStart (cam : Fin 2) (frame : BitVec 16) : Statement (.csiFrameStart cam frame) := by
  intro _ p hp; cases hp

theorem csiLinePacket (cam : Fin 2) (wordCount : BitVec 16) (crcOk : Bool) (pixels : List Byte) (hdr : Fin 3) (overflow : Bool) : Statement (.csiLinePacket cam wordCount crcOk pixels hdr overflow) := by
  intro _ p hp; cases hp

theorem csiFrameEnd (cam : Fin 2) (frame : BitVec 16) : Statement (.csiFrameEnd cam frame) := by
  intro _ p hp; cases hp

theorem csiLineTimeout (cam : Fin 2) : Statement (.csiLineTimeout cam) := by
  intro _ p hp; cases hp

theorem deferredFrameStart : Statement (.deferredFrameStart) := by
  intro _ p hp; cases hp

theorem stripeReady (ctx : Fin 4) : Statement (.stripeReady ctx) := by
  intro _ p hp; cases hp

theorem stripRecordSend (ctx : Fin 4) (coding : Bool) (level : Fin 3) : Statement (.stripRecordSend ctx coding level) := by
  intro _ p hp; cases hp

theorem pipelineFrameClose (ctx : Fin 4) : Statement (.pipelineFrameClose ctx) := by
  intro _ p hp; cases hp

theorem fusionColumn : Statement (.fusionColumn) := by
  intro _ p hp; cases hp

theorem depthMapClose (cam : Fin 2) : Statement (.depthMapClose cam) := by
  intro _ p hp; cases hp

theorem depthMapStale (cam : Fin 2) : Statement (.depthMapStale cam) := by
  intro _ p hp; cases hp

theorem fusCtrlWrite (via : Port) (seq : BitVec 16) (value : BitVec 32) : Statement (.fusCtrlWrite via seq value) := by
  intro _ p hp; cases hp; exact writeRow via _ _ (by simp)

theorem flipPoint (disp : Fin 2) : Statement (.flipPoint disp) := by
  intro _ p hp; cases hp

theorem commitReqWrite (via : Port) (seq : BitVec 16) (disp : Fin 2) : Statement (.commitReqWrite via seq disp) := by
  intro _ p hp; cases hp; exact writeRow via _ _ (by simp)

theorem displayLineStart (disp : Fin 2) (line : Nat) : Statement (.displayLineStart disp line) := by
  intro _ p hp; cases hp

theorem frameLockLostTimeout (disp : Fin 2) : Statement (.frameLockLostTimeout disp) := by
  intro _ p hp; cases hp

theorem trainingPhaseEnd (port : Fin 3) (pass : Bool) (fomTx fomRx : Byte) : Statement (.trainingPhaseEnd port pass fomTx fomRx) := by
  intro _ p hp; cases hp

theorem controlBlockReceived (bytes : List Byte) : Statement (.controlBlockReceived bytes) := by
  intro _ p hp; cases hp

theorem controlBlockSend : Statement (.controlBlockSend) := by
  intro _ p hp; cases hp

theorem blockSend (port : Fin 3) : Statement (.blockSend port) := by
  intro _ p hp; cases hp

theorem upstreamClockLoss : Statement (.upstreamClockLoss) := by
  intro _ p hp; cases hp

theorem autoRetrain (port : Fin 3) : Statement (.autoRetrain port) := by
  intro _ p hp; cases hp

theorem fomPublish (port : Fin 3) (fom : Byte) : Statement (.fomPublish port fom) := by
  intro _ p hp; cases hp

theorem vnauxFrameSend (port : Fin 3) : Statement (.vnauxFrameSend port) := by
  intro _ p hp; cases hp

theorem vnauxReply (port : Fin 3) (reply : Option (List Byte)) : Statement (.vnauxReply port reply) := by
  intro _ p hp; cases hp

theorem ethLinkChange (up gigabit : Bool) : Statement (.ethLinkChange up gigabit) := by
  intro _ p hp; cases hp

theorem arpRequest (sender : BitVec 32) (senderMac : BitVec 48) (target : BitVec 32) : Statement (.arpRequest sender senderMac target) := by
  intro _ p hp; cases hp

theorem icmpEchoRequest (sender : BitVec 32) (ident seq : BitVec 16) (payload : List Byte) : Statement (.icmpEchoRequest sender ident seq payload) := by
  intro _ p hp; cases hp

theorem streamDatagramSend (stream : Fin 8) : Statement (.streamDatagramSend stream) := by
  intro _ p hp; cases hp

theorem creditDatagram (src : Peer) (bytes : List Byte) : Statement (.creditDatagram src bytes) := by
  intro _ p hp; cases hp

theorem gptpSync (rx origin : BitVec 64) (correction ratio logInterval : Int) (followUp : Bool) : Statement (.gptpSync rx origin correction ratio logInterval followUp) := by
  intro _ p hp; cases hp

theorem gptpAnnounce (bytes : List Byte) : Statement (.gptpAnnounce bytes) := by
  intro _ p hp; cases hp

theorem pdelayExchange : Statement (.pdelayExchange) := by
  intro _ p hp; cases hp

theorem pdelayReqRx (request : List Byte) : Statement (.pdelayReqRx request) := by
  intro _ p hp; cases hp

theorem holdoverTimeout (announce : Bool) : Statement (.holdoverTimeout announce) := by
  intro _ p hp; cases hp

theorem tbTimeLoRead (via : Port) (seq : BitVec 16) : Statement (.tbTimeLoRead via seq) := by
  intro _ p hp; cases hp; exact fixedRow via 8 8 _ (by decide) (by simp) (by decide)

theorem syncPulseRx (width : Nat) (err : Int) (gap : Nat) : Statement (.syncPulseRx width err gap) := by
  intro _ p hp; cases hp

theorem syncLost : Statement (.syncLost) := by
  intro _ p hp; cases hp

theorem syncAbsentTimeout : Statement (.syncAbsentTimeout) := by
  intro _ p hp; cases hp

theorem hkSyncEdge : Statement (.hkSyncEdge) := by
  intro _ p hp; cases hp

theorem memGrant (ecc : Fin 3) (channel : Fin 2) : Statement (.memGrant ecc channel) := by
  intro _ p hp; cases hp

theorem class2WaitTimeout : Statement (.class2WaitTimeout) := by
  intro _ p hp; cases hp

theorem selfRefreshEntry : Statement (.selfRefreshEntry) := by
  intro _ p hp; cases hp

theorem selfRefreshExit : Statement (.selfRefreshExit) := by
  intro _ p hp; cases hp

theorem deepSleepEntry : Statement (.deepSleepEntry) := by
  intro _ p hp; cases hp

theorem regionSCycle (pins : BitVec 32) (laneFault tableUe : Bool) : Statement (.regionSCycle pins laneFault tableUe) := by
  intro _ p hp; cases hp

theorem testPulse (out : Fin 4) (channelB : Bool) : Statement (.testPulse out channelB) := by
  intro _ p hp; cases hp

theorem safetyColumnEval : Statement (.safetyColumnEval) := by
  intro _ p hp; cases hp

theorem columnTimeout : Statement (.columnTimeout) := by
  intro _ p hp; cases hp

theorem rangingInvalidCause (cause : Fin 8) : Statement (.rangingInvalidCause cause) := by
  intro _ p hp; cases hp

theorem regionSConfigLoad : Statement (.regionSConfigLoad) := by
  intro _ p hp; cases hp

theorem limitTableBuilt : Statement (.limitTableBuilt) := by
  intro _ p hp; cases hp

theorem sessionTimeout : Statement (.sessionTimeout) := by
  intro _ p hp; cases hp

theorem credentialLockoutEnd : Statement (.credentialLockoutEnd) := by
  intro _ p hp; cases hp

theorem safetyStatusRecord : Statement (.safetyStatusRecord) := by
  intro _ p hp; cases hp

theorem hkConverterStart : Statement (.hkConverterStart) := by
  intro _ p hp; cases hp

theorem hkRoundStart : Statement (.hkRoundStart) := by
  intro _ p hp; cases hp

theorem hkConversionEnd (code : Int) : Statement (.hkConversionEnd code) := by
  intro _ p hp; cases hp

theorem ntcComparatorTrip : Statement (.ntcComparatorTrip) := by
  intro _ p hp; cases hp

theorem tiaWord (ch : Fin 4) (code : Int) : Statement (.tiaWord ch code) := by
  intro _ p hp; cases hp

theorem wmSourceToggle : Statement (.wmSourceToggle) := by
  intro _ p hp; cases hp

theorem hubReading (codes : List Int) : Statement (.hubReading codes) := by
  intro _ p hp; cases hp

theorem thermalEvaluation : Statement (.thermalEvaluation) := by
  intro _ p hp; cases hp

theorem analogueThermalTrip : Statement (.analogueThermalTrip) := by
  intro _ p hp; cases hp

theorem calAutoRun : Statement (.calAutoRun) := by
  intro _ p hp; cases hp

theorem calItemEnd (meas : CalMeas) (copiesWritten : Fin 3) : Statement (.calItemEnd meas copiesWritten) := by
  intro _ p hp; cases hp

theorem illumSliceStart (string : Fin 4) (v i : Nat) : Statement (.illumSliceStart string v i) := by
  intro _ p hp; cases hp

theorem illumWindowStart (string : Fin 4) : Statement (.illumWindowStart string) := by
  intro _ p hp; cases hp

theorem illumWindowEnd (string : Fin 4) : Statement (.illumWindowEnd string) := by
  intro _ p hp; cases hp

theorem illumShuntCrossing (string : Fin 4) (kind : BitVec 2) : Statement (.illumShuntCrossing string kind) := by
  intro _ p hp; cases hp

theorem illumProbeEnd (string : Fin 4) (v i : Nat) : Statement (.illumProbeEnd string v i) := by
  intro _ p hp; cases hp

theorem illFaultClear (via : Port) (seq : BitVec 16) (string : Fin 4) (value : BitVec 32) : Statement (.illFaultClear via seq string value) := by
  intro _ p hp; cases hp; exact writeRow via _ _ (by simp)

theorem illThermWrite (via : Port) (seq : BitVec 16) (value : BitVec 32) : Statement (.illThermWrite via seq value) := by
  intro _ p hp; cases hp; exact writeRow via _ _ (by simp)

theorem recoveryTimerExpiry : Statement (.recoveryTimerExpiry) := by
  intro _ p hp; cases hp

theorem faultCauseCleared (event : BitVec 8) : Statement (.faultCauseCleared event) := by
  intro _ p hp; cases hp

theorem fmFirstClear (via : Port) (seq : BitVec 16) : Statement (.fmFirstClear via seq) := by
  intro _ p hp; cases hp; exact writeRow via _ _ (by simp)

theorem fmClassWrite (via : Port) (seq : BitVec 16) (index : Fin 16) (value : BitVec 32) : Statement (.fmClassWrite via seq index value) := by
  intro _ p hp; cases hp; exact writeRow via _ _ (by simp)

theorem recorderTrigger : Statement (.recorderTrigger) := by
  intro _ p hp; cases hp

theorem recorderPreFillDone : Statement (.recorderPreFillDone) := by
  intro _ p hp; cases hp

theorem recorderPostFillDone (samples : List Byte) : Statement (.recorderPostFillDone samples) := by
  intro _ p hp; cases hp

theorem monitorLine (line : List Byte) : Statement (.monitorLine line) := by
  intro _ p hp; cases hp

theorem monId : Statement (.monId) := by
  intro _ p hp; cases hp

theorem monNonce : Statement (.monNonce) := by
  intro _ p hp; cases hp

theorem monAuth (credential : List Byte) : Statement (.monAuth credential) := by
  intro _ p hp; cases hp

theorem monRd (addr : BitVec 32) (count : Nat) : Statement (.monRd addr count) := by
  intro _ p hp; cases hp

theorem monSt : Statement (.monSt) := by
  intro _ p hp; cases hp

theorem monLog (index : Nat) (count : Nat) : Statement (.monLog index count) := by
  intro _ p hp; cases hp

theorem monEv (on : Bool) : Statement (.monEv on) := by
  intro _ p hp; cases hp

theorem monBye : Statement (.monBye) := by
  intro _ p hp; cases hp

theorem monSessionTimeout : Statement (.monSessionTimeout) := by
  intro _ p hp; cases hp

theorem rebootStart : Statement (.rebootStart) := by
  intro _ p hp; cases hp

theorem pllLock (pll : Fin 7) : Statement (.pllLock pll) := by
  intro _ p hp; cases hp

theorem cellFiring (row : Fin 1024) (q : Fin 8) (cell : Fin 36) : Statement (.cellFiring row q cell) := by
  intro _ p hp; cases hp

theorem csiNonImagePacket (cam : Fin 2) (vc : BitVec 4) (dt : BitVec 6) (bytes : List Byte) : Statement (.csiNonImagePacket cam vc dt bytes) := by
  intro _ p hp; cases hp

theorem pauseFrameRx (quanta : BitVec 16) : Statement (.pauseFrameRx quanta) := by
  intro _ p hp; cases hp

theorem ethFrameDiscard (fcsBad : Bool) : Statement (.ethFrameDiscard fcsBad) := by
  intro _ p hp; cases hp

theorem arpReplyRx (ip : BitVec 32) (mac : BitVec 48) : Statement (.arpReplyRx ip mac) := by
  intro _ p hp; cases hp

theorem pdelayRespRx (t1 t2 t3 t4 : BitVec 64) : Statement (.pdelayRespRx t1 t2 t3 t4) := by
  intro _ p hp; cases hp

theorem class5RefusingEnd : Statement (.class5RefusingEnd) := by
  intro _ p hp; cases hp

theorem selfRefreshExitDone : Statement (.selfRefreshExitDone) := by
  intro _ p hp; cases hp

theorem monLockoutEnd : Statement (.monLockoutEnd) := by
  intro _ p hp; cases hp

theorem spiIgnoredFrame (first : Byte) : Statement (.spiIgnoredFrame first) := by
  intro _ p hp; cases hp

theorem peConfigWrite (via : Port) (seq : BitVec 16) (addr : BitVec 32) (values : List Word) : Statement (.peConfigWrite via seq addr values) := by
  intro hw p hp
  cases hp
  simp [Instr.wellFormed, writesIn] at hw
  exact writeRow via _ _ (by omega)

theorem pipeCfgWrite (via : Port) (seq : BitVec 16) (addr : BitVec 32) (values : List Word) : Statement (.pipeCfgWrite via seq addr values) := by
  intro hw p hp
  cases hp
  simp [Instr.wellFormed, writesIn] at hw
  exact writeRow via _ _ (by omega)

theorem latCfgWrite (via : Port) (seq : BitVec 16) (value : BitVec 32) : Statement (.latCfgWrite via seq value) := by
  intro _ p hp; cases hp; exact writeRow via _ _ (by simp)

theorem thermalThresholdWrite (via : Port) (seq : BitVec 16) (addr : BitVec 32) (value : BitVec 32) : Statement (.thermalThresholdWrite via seq addr value) := by
  intro _ p hp; cases hp; exact writeRow via _ _ (by simp)

theorem tiaCfgWrite (via : Port) (seq : BitVec 16) (ch : Fin 4) (value : BitVec 32) : Statement (.tiaCfgWrite via seq ch value) := by
  intro _ p hp; cases hp; exact writeRow via _ _ (by simp)

theorem wmCtrlWrite (via : Port) (seq : BitVec 16) (value : BitVec 32) : Statement (.wmCtrlWrite via seq value) := by
  intro _ p hp; cases hp; exact writeRow via _ _ (by simp)

theorem illDrvOnLimit (string : Fin 4) : Statement (.illDrvOnLimit string) := by
  intro _ p hp; cases hp


end Sys2Proof.Laws.PacketLength
end

