-- ==== Sys2Proof/Laws/State.lean ====
section
/-! SUPPORT. The fields of the state after each update: register writes change `regs` alone, an output `out` alone. -/

namespace Sys2Proof.Machine

/-! ### wr -/

@[simp] theorem State.wr_flash (s : State) (a : Nat) (v : Word) : (s.wr a v).flash = s.flash := by rfl
@[simp] theorem State.wr_dram (s : State) (a : Nat) (v : Word) : (s.wr a v).dram = s.dram := by rfl
@[simp] theorem State.wr_otp (s : State) (a : Nat) (v : Word) : (s.wr a v).otp = s.otp := by rfl
@[simp] theorem State.wr_pw (s : State) (a : Nat) (v : Word) : (s.wr a v).pw = s.pw := by rfl
@[simp] theorem State.wr_cmd (s : State) (a : Nat) (v : Word) : (s.wr a v).cmd = s.cmd := by rfl
@[simp] theorem State.wr_fm (s : State) (a : Nat) (v : Word) : (s.wr a v).fm = s.fm := by rfl
@[simp] theorem State.wr_rcd (s : State) (a : Nat) (v : Word) : (s.wr a v).rcd = s.rcd := by rfl
@[simp] theorem State.wr_mon (s : State) (a : Nat) (v : Word) : (s.wr a v).mon = s.mon := by rfl
@[simp] theorem State.wr_time (s : State) (a : Nat) (v : Word) : (s.wr a v).time = s.time := by rfl
@[simp] theorem State.wr_shot (s : State) (a : Nat) (v : Word) : (s.wr a v).shot = s.shot := by rfl
@[simp] theorem State.wr_scan (s : State) (a : Nat) (v : Word) : (s.wr a v).scan = s.scan := by rfl
@[simp] theorem State.wr_profOver (s : State) (a : Nat) (v : Word) : (s.wr a v).profOver = s.profOver := by rfl
@[simp] theorem State.wr_eng (s : State) (a : Nat) (v : Word) : (s.wr a v).eng = s.eng := by rfl
@[simp] theorem State.wr_rx (s : State) (a : Nat) (v : Word) : (s.wr a v).rx = s.rx := by rfl
@[simp] theorem State.wr_heldRegs (s : State) (a : Nat) (v : Word) : (s.wr a v).heldRegs = s.heldRegs := by rfl
@[simp] theorem State.wr_mem (s : State) (a : Nat) (v : Word) : (s.wr a v).mem = s.mem := by rfl
@[simp] theorem State.wr_tx (s : State) (a : Nat) (v : Word) : (s.wr a v).tx = s.tx := by rfl
@[simp] theorem State.wr_ps (s : State) (a : Nat) (v : Word) : (s.wr a v).ps = s.ps := by rfl
@[simp] theorem State.wr_vis (s : State) (a : Nat) (v : Word) : (s.wr a v).vis = s.vis := by rfl
@[simp] theorem State.wr_disps (s : State) (a : Nat) (v : Word) : (s.wr a v).disps = s.disps := by rfl
@[simp] theorem State.wr_links (s : State) (a : Nat) (v : Word) : (s.wr a v).links = s.links := by rfl
@[simp] theorem State.wr_eth (s : State) (a : Nat) (v : Word) : (s.wr a v).eth = s.eth := by rfl
@[simp] theorem State.wr_tb (s : State) (a : Nat) (v : Word) : (s.wr a v).tb = s.tb := by rfl
@[simp] theorem State.wr_sync (s : State) (a : Nat) (v : Word) : (s.wr a v).sync = s.sync := by rfl
@[simp] theorem State.wr_safe (s : State) (a : Nat) (v : Word) : (s.wr a v).safe = s.safe := by rfl
@[simp] theorem State.wr_hk (s : State) (a : Nat) (v : Word) : (s.wr a v).hk = s.hk := by rfl
@[simp] theorem State.wr_th (s : State) (a : Nat) (v : Word) : (s.wr a v).th = s.th := by rfl
@[simp] theorem State.wr_cal (s : State) (a : Nat) (v : Word) : (s.wr a v).cal = s.cal := by rfl
@[simp] theorem State.wr_ill (s : State) (a : Nat) (v : Word) : (s.wr a v).ill = s.ill := by rfl
@[simp] theorem State.wr_out (s : State) (a : Nat) (v : Word) : (s.wr a v).out = s.out := by rfl
@[simp] theorem State.wr_free (s : State) (a : Nat) (v : Word) : (s.wr a v).free = s.free := by rfl
@[simp] theorem State.wr_pending (s : State) (a : Nat) (v : Word) : (s.wr a v).pending = s.pending := by rfl

/-! ### set -/

@[simp] theorem State.set_flash (s : State) (f : Fld) (x : Nat) : (s.set f x).flash = s.flash := by rfl
@[simp] theorem State.set_dram (s : State) (f : Fld) (x : Nat) : (s.set f x).dram = s.dram := by rfl
@[simp] theorem State.set_otp (s : State) (f : Fld) (x : Nat) : (s.set f x).otp = s.otp := by rfl
@[simp] theorem State.set_pw (s : State) (f : Fld) (x : Nat) : (s.set f x).pw = s.pw := by rfl
@[simp] theorem State.set_cmd (s : State) (f : Fld) (x : Nat) : (s.set f x).cmd = s.cmd := by rfl
@[simp] theorem State.set_fm (s : State) (f : Fld) (x : Nat) : (s.set f x).fm = s.fm := by rfl
@[simp] theorem State.set_rcd (s : State) (f : Fld) (x : Nat) : (s.set f x).rcd = s.rcd := by rfl
@[simp] theorem State.set_mon (s : State) (f : Fld) (x : Nat) : (s.set f x).mon = s.mon := by rfl
@[simp] theorem State.set_time (s : State) (f : Fld) (x : Nat) : (s.set f x).time = s.time := by rfl
@[simp] theorem State.set_shot (s : State) (f : Fld) (x : Nat) : (s.set f x).shot = s.shot := by rfl
@[simp] theorem State.set_scan (s : State) (f : Fld) (x : Nat) : (s.set f x).scan = s.scan := by rfl
@[simp] theorem State.set_profOver (s : State) (f : Fld) (x : Nat) : (s.set f x).profOver = s.profOver := by rfl
@[simp] theorem State.set_eng (s : State) (f : Fld) (x : Nat) : (s.set f x).eng = s.eng := by rfl
@[simp] theorem State.set_rx (s : State) (f : Fld) (x : Nat) : (s.set f x).rx = s.rx := by rfl
@[simp] theorem State.set_heldRegs (s : State) (f : Fld) (x : Nat) : (s.set f x).heldRegs = s.heldRegs := by rfl
@[simp] theorem State.set_mem (s : State) (f : Fld) (x : Nat) : (s.set f x).mem = s.mem := by rfl
@[simp] theorem State.set_tx (s : State) (f : Fld) (x : Nat) : (s.set f x).tx = s.tx := by rfl
@[simp] theorem State.set_ps (s : State) (f : Fld) (x : Nat) : (s.set f x).ps = s.ps := by rfl
@[simp] theorem State.set_vis (s : State) (f : Fld) (x : Nat) : (s.set f x).vis = s.vis := by rfl
@[simp] theorem State.set_disps (s : State) (f : Fld) (x : Nat) : (s.set f x).disps = s.disps := by rfl
@[simp] theorem State.set_links (s : State) (f : Fld) (x : Nat) : (s.set f x).links = s.links := by rfl
@[simp] theorem State.set_eth (s : State) (f : Fld) (x : Nat) : (s.set f x).eth = s.eth := by rfl
@[simp] theorem State.set_tb (s : State) (f : Fld) (x : Nat) : (s.set f x).tb = s.tb := by rfl
@[simp] theorem State.set_sync (s : State) (f : Fld) (x : Nat) : (s.set f x).sync = s.sync := by rfl
@[simp] theorem State.set_safe (s : State) (f : Fld) (x : Nat) : (s.set f x).safe = s.safe := by rfl
@[simp] theorem State.set_hk (s : State) (f : Fld) (x : Nat) : (s.set f x).hk = s.hk := by rfl
@[simp] theorem State.set_th (s : State) (f : Fld) (x : Nat) : (s.set f x).th = s.th := by rfl
@[simp] theorem State.set_cal (s : State) (f : Fld) (x : Nat) : (s.set f x).cal = s.cal := by rfl
@[simp] theorem State.set_ill (s : State) (f : Fld) (x : Nat) : (s.set f x).ill = s.ill := by rfl
@[simp] theorem State.set_out (s : State) (f : Fld) (x : Nat) : (s.set f x).out = s.out := by rfl
@[simp] theorem State.set_free (s : State) (f : Fld) (x : Nat) : (s.set f x).free = s.free := by rfl
@[simp] theorem State.set_pending (s : State) (f : Fld) (x : Nat) : (s.set f x).pending = s.pending := by rfl

/-! ### setI -/

@[simp] theorem State.setI_flash (s : State) (f : Fld) (x : Int) : (s.setI f x).flash = s.flash := by rfl
@[simp] theorem State.setI_dram (s : State) (f : Fld) (x : Int) : (s.setI f x).dram = s.dram := by rfl
@[simp] theorem State.setI_otp (s : State) (f : Fld) (x : Int) : (s.setI f x).otp = s.otp := by rfl
@[simp] theorem State.setI_pw (s : State) (f : Fld) (x : Int) : (s.setI f x).pw = s.pw := by rfl
@[simp] theorem State.setI_cmd (s : State) (f : Fld) (x : Int) : (s.setI f x).cmd = s.cmd := by rfl
@[simp] theorem State.setI_fm (s : State) (f : Fld) (x : Int) : (s.setI f x).fm = s.fm := by rfl
@[simp] theorem State.setI_rcd (s : State) (f : Fld) (x : Int) : (s.setI f x).rcd = s.rcd := by rfl
@[simp] theorem State.setI_mon (s : State) (f : Fld) (x : Int) : (s.setI f x).mon = s.mon := by rfl
@[simp] theorem State.setI_time (s : State) (f : Fld) (x : Int) : (s.setI f x).time = s.time := by rfl
@[simp] theorem State.setI_shot (s : State) (f : Fld) (x : Int) : (s.setI f x).shot = s.shot := by rfl
@[simp] theorem State.setI_scan (s : State) (f : Fld) (x : Int) : (s.setI f x).scan = s.scan := by rfl
@[simp] theorem State.setI_profOver (s : State) (f : Fld) (x : Int) : (s.setI f x).profOver = s.profOver := by rfl
@[simp] theorem State.setI_eng (s : State) (f : Fld) (x : Int) : (s.setI f x).eng = s.eng := by rfl
@[simp] theorem State.setI_rx (s : State) (f : Fld) (x : Int) : (s.setI f x).rx = s.rx := by rfl
@[simp] theorem State.setI_heldRegs (s : State) (f : Fld) (x : Int) : (s.setI f x).heldRegs = s.heldRegs := by rfl
@[simp] theorem State.setI_mem (s : State) (f : Fld) (x : Int) : (s.setI f x).mem = s.mem := by rfl
@[simp] theorem State.setI_tx (s : State) (f : Fld) (x : Int) : (s.setI f x).tx = s.tx := by rfl
@[simp] theorem State.setI_ps (s : State) (f : Fld) (x : Int) : (s.setI f x).ps = s.ps := by rfl
@[simp] theorem State.setI_vis (s : State) (f : Fld) (x : Int) : (s.setI f x).vis = s.vis := by rfl
@[simp] theorem State.setI_disps (s : State) (f : Fld) (x : Int) : (s.setI f x).disps = s.disps := by rfl
@[simp] theorem State.setI_links (s : State) (f : Fld) (x : Int) : (s.setI f x).links = s.links := by rfl
@[simp] theorem State.setI_eth (s : State) (f : Fld) (x : Int) : (s.setI f x).eth = s.eth := by rfl
@[simp] theorem State.setI_tb (s : State) (f : Fld) (x : Int) : (s.setI f x).tb = s.tb := by rfl
@[simp] theorem State.setI_sync (s : State) (f : Fld) (x : Int) : (s.setI f x).sync = s.sync := by rfl
@[simp] theorem State.setI_safe (s : State) (f : Fld) (x : Int) : (s.setI f x).safe = s.safe := by rfl
@[simp] theorem State.setI_hk (s : State) (f : Fld) (x : Int) : (s.setI f x).hk = s.hk := by rfl
@[simp] theorem State.setI_th (s : State) (f : Fld) (x : Int) : (s.setI f x).th = s.th := by rfl
@[simp] theorem State.setI_cal (s : State) (f : Fld) (x : Int) : (s.setI f x).cal = s.cal := by rfl
@[simp] theorem State.setI_ill (s : State) (f : Fld) (x : Int) : (s.setI f x).ill = s.ill := by rfl
@[simp] theorem State.setI_out (s : State) (f : Fld) (x : Int) : (s.setI f x).out = s.out := by rfl
@[simp] theorem State.setI_free (s : State) (f : Fld) (x : Int) : (s.setI f x).free = s.free := by rfl
@[simp] theorem State.setI_pending (s : State) (f : Fld) (x : Int) : (s.setI f x).pending = s.pending := by rfl

/-! ### setFlag -/

@[simp] theorem State.setFlag_flash (s : State) (f : Fld) (b : Bool) : (s.setFlag f b).flash = s.flash := by rfl
@[simp] theorem State.setFlag_dram (s : State) (f : Fld) (b : Bool) : (s.setFlag f b).dram = s.dram := by rfl
@[simp] theorem State.setFlag_otp (s : State) (f : Fld) (b : Bool) : (s.setFlag f b).otp = s.otp := by rfl
@[simp] theorem State.setFlag_pw (s : State) (f : Fld) (b : Bool) : (s.setFlag f b).pw = s.pw := by rfl
@[simp] theorem State.setFlag_cmd (s : State) (f : Fld) (b : Bool) : (s.setFlag f b).cmd = s.cmd := by rfl
@[simp] theorem State.setFlag_fm (s : State) (f : Fld) (b : Bool) : (s.setFlag f b).fm = s.fm := by rfl
@[simp] theorem State.setFlag_rcd (s : State) (f : Fld) (b : Bool) : (s.setFlag f b).rcd = s.rcd := by rfl
@[simp] theorem State.setFlag_mon (s : State) (f : Fld) (b : Bool) : (s.setFlag f b).mon = s.mon := by rfl
@[simp] theorem State.setFlag_time (s : State) (f : Fld) (b : Bool) : (s.setFlag f b).time = s.time := by rfl
@[simp] theorem State.setFlag_shot (s : State) (f : Fld) (b : Bool) : (s.setFlag f b).shot = s.shot := by rfl
@[simp] theorem State.setFlag_scan (s : State) (f : Fld) (b : Bool) : (s.setFlag f b).scan = s.scan := by rfl
@[simp] theorem State.setFlag_profOver (s : State) (f : Fld) (b : Bool) : (s.setFlag f b).profOver = s.profOver := by rfl
@[simp] theorem State.setFlag_eng (s : State) (f : Fld) (b : Bool) : (s.setFlag f b).eng = s.eng := by rfl
@[simp] theorem State.setFlag_rx (s : State) (f : Fld) (b : Bool) : (s.setFlag f b).rx = s.rx := by rfl
@[simp] theorem State.setFlag_heldRegs (s : State) (f : Fld) (b : Bool) : (s.setFlag f b).heldRegs = s.heldRegs := by rfl
@[simp] theorem State.setFlag_mem (s : State) (f : Fld) (b : Bool) : (s.setFlag f b).mem = s.mem := by rfl
@[simp] theorem State.setFlag_tx (s : State) (f : Fld) (b : Bool) : (s.setFlag f b).tx = s.tx := by rfl
@[simp] theorem State.setFlag_ps (s : State) (f : Fld) (b : Bool) : (s.setFlag f b).ps = s.ps := by rfl
@[simp] theorem State.setFlag_vis (s : State) (f : Fld) (b : Bool) : (s.setFlag f b).vis = s.vis := by rfl
@[simp] theorem State.setFlag_disps (s : State) (f : Fld) (b : Bool) : (s.setFlag f b).disps = s.disps := by rfl
@[simp] theorem State.setFlag_links (s : State) (f : Fld) (b : Bool) : (s.setFlag f b).links = s.links := by rfl
@[simp] theorem State.setFlag_eth (s : State) (f : Fld) (b : Bool) : (s.setFlag f b).eth = s.eth := by rfl
@[simp] theorem State.setFlag_tb (s : State) (f : Fld) (b : Bool) : (s.setFlag f b).tb = s.tb := by rfl
@[simp] theorem State.setFlag_sync (s : State) (f : Fld) (b : Bool) : (s.setFlag f b).sync = s.sync := by rfl
@[simp] theorem State.setFlag_safe (s : State) (f : Fld) (b : Bool) : (s.setFlag f b).safe = s.safe := by rfl
@[simp] theorem State.setFlag_hk (s : State) (f : Fld) (b : Bool) : (s.setFlag f b).hk = s.hk := by rfl
@[simp] theorem State.setFlag_th (s : State) (f : Fld) (b : Bool) : (s.setFlag f b).th = s.th := by rfl
@[simp] theorem State.setFlag_cal (s : State) (f : Fld) (b : Bool) : (s.setFlag f b).cal = s.cal := by rfl
@[simp] theorem State.setFlag_ill (s : State) (f : Fld) (b : Bool) : (s.setFlag f b).ill = s.ill := by rfl
@[simp] theorem State.setFlag_out (s : State) (f : Fld) (b : Bool) : (s.setFlag f b).out = s.out := by rfl
@[simp] theorem State.setFlag_free (s : State) (f : Fld) (b : Bool) : (s.setFlag f b).free = s.free := by rfl
@[simp] theorem State.setFlag_pending (s : State) (f : Fld) (b : Bool) : (s.setFlag f b).pending = s.pending := by rfl

/-! ### setBitAt -/

@[simp] theorem State.setBitAt_flash (s : State) (f : Fld) (i : Nat) (b : Bool) : (s.setBitAt f i b).flash = s.flash := by rfl
@[simp] theorem State.setBitAt_dram (s : State) (f : Fld) (i : Nat) (b : Bool) : (s.setBitAt f i b).dram = s.dram := by rfl
@[simp] theorem State.setBitAt_otp (s : State) (f : Fld) (i : Nat) (b : Bool) : (s.setBitAt f i b).otp = s.otp := by rfl
@[simp] theorem State.setBitAt_pw (s : State) (f : Fld) (i : Nat) (b : Bool) : (s.setBitAt f i b).pw = s.pw := by rfl
@[simp] theorem State.setBitAt_cmd (s : State) (f : Fld) (i : Nat) (b : Bool) : (s.setBitAt f i b).cmd = s.cmd := by rfl
@[simp] theorem State.setBitAt_fm (s : State) (f : Fld) (i : Nat) (b : Bool) : (s.setBitAt f i b).fm = s.fm := by rfl
@[simp] theorem State.setBitAt_rcd (s : State) (f : Fld) (i : Nat) (b : Bool) : (s.setBitAt f i b).rcd = s.rcd := by rfl
@[simp] theorem State.setBitAt_mon (s : State) (f : Fld) (i : Nat) (b : Bool) : (s.setBitAt f i b).mon = s.mon := by rfl
@[simp] theorem State.setBitAt_time (s : State) (f : Fld) (i : Nat) (b : Bool) : (s.setBitAt f i b).time = s.time := by rfl
@[simp] theorem State.setBitAt_shot (s : State) (f : Fld) (i : Nat) (b : Bool) : (s.setBitAt f i b).shot = s.shot := by rfl
@[simp] theorem State.setBitAt_scan (s : State) (f : Fld) (i : Nat) (b : Bool) : (s.setBitAt f i b).scan = s.scan := by rfl
@[simp] theorem State.setBitAt_profOver (s : State) (f : Fld) (i : Nat) (b : Bool) : (s.setBitAt f i b).profOver = s.profOver := by rfl
@[simp] theorem State.setBitAt_eng (s : State) (f : Fld) (i : Nat) (b : Bool) : (s.setBitAt f i b).eng = s.eng := by rfl
@[simp] theorem State.setBitAt_rx (s : State) (f : Fld) (i : Nat) (b : Bool) : (s.setBitAt f i b).rx = s.rx := by rfl
@[simp] theorem State.setBitAt_heldRegs (s : State) (f : Fld) (i : Nat) (b : Bool) : (s.setBitAt f i b).heldRegs = s.heldRegs := by rfl
@[simp] theorem State.setBitAt_mem (s : State) (f : Fld) (i : Nat) (b : Bool) : (s.setBitAt f i b).mem = s.mem := by rfl
@[simp] theorem State.setBitAt_tx (s : State) (f : Fld) (i : Nat) (b : Bool) : (s.setBitAt f i b).tx = s.tx := by rfl
@[simp] theorem State.setBitAt_ps (s : State) (f : Fld) (i : Nat) (b : Bool) : (s.setBitAt f i b).ps = s.ps := by rfl
@[simp] theorem State.setBitAt_vis (s : State) (f : Fld) (i : Nat) (b : Bool) : (s.setBitAt f i b).vis = s.vis := by rfl
@[simp] theorem State.setBitAt_disps (s : State) (f : Fld) (i : Nat) (b : Bool) : (s.setBitAt f i b).disps = s.disps := by rfl
@[simp] theorem State.setBitAt_links (s : State) (f : Fld) (i : Nat) (b : Bool) : (s.setBitAt f i b).links = s.links := by rfl
@[simp] theorem State.setBitAt_eth (s : State) (f : Fld) (i : Nat) (b : Bool) : (s.setBitAt f i b).eth = s.eth := by rfl
@[simp] theorem State.setBitAt_tb (s : State) (f : Fld) (i : Nat) (b : Bool) : (s.setBitAt f i b).tb = s.tb := by rfl
@[simp] theorem State.setBitAt_sync (s : State) (f : Fld) (i : Nat) (b : Bool) : (s.setBitAt f i b).sync = s.sync := by rfl
@[simp] theorem State.setBitAt_safe (s : State) (f : Fld) (i : Nat) (b : Bool) : (s.setBitAt f i b).safe = s.safe := by rfl
@[simp] theorem State.setBitAt_hk (s : State) (f : Fld) (i : Nat) (b : Bool) : (s.setBitAt f i b).hk = s.hk := by rfl
@[simp] theorem State.setBitAt_th (s : State) (f : Fld) (i : Nat) (b : Bool) : (s.setBitAt f i b).th = s.th := by rfl
@[simp] theorem State.setBitAt_cal (s : State) (f : Fld) (i : Nat) (b : Bool) : (s.setBitAt f i b).cal = s.cal := by rfl
@[simp] theorem State.setBitAt_ill (s : State) (f : Fld) (i : Nat) (b : Bool) : (s.setBitAt f i b).ill = s.ill := by rfl
@[simp] theorem State.setBitAt_out (s : State) (f : Fld) (i : Nat) (b : Bool) : (s.setBitAt f i b).out = s.out := by rfl
@[simp] theorem State.setBitAt_free (s : State) (f : Fld) (i : Nat) (b : Bool) : (s.setBitAt f i b).free = s.free := by rfl
@[simp] theorem State.setBitAt_pending (s : State) (f : Fld) (i : Nat) (b : Bool) : (s.setBitAt f i b).pending = s.pending := by rfl

/-! ### add -/

@[simp] theorem State.add_flash (s : State) (f : Fld) (n : Nat) : (s.add f n).flash = s.flash := by rfl
@[simp] theorem State.add_dram (s : State) (f : Fld) (n : Nat) : (s.add f n).dram = s.dram := by rfl
@[simp] theorem State.add_otp (s : State) (f : Fld) (n : Nat) : (s.add f n).otp = s.otp := by rfl
@[simp] theorem State.add_pw (s : State) (f : Fld) (n : Nat) : (s.add f n).pw = s.pw := by rfl
@[simp] theorem State.add_cmd (s : State) (f : Fld) (n : Nat) : (s.add f n).cmd = s.cmd := by rfl
@[simp] theorem State.add_fm (s : State) (f : Fld) (n : Nat) : (s.add f n).fm = s.fm := by rfl
@[simp] theorem State.add_rcd (s : State) (f : Fld) (n : Nat) : (s.add f n).rcd = s.rcd := by rfl
@[simp] theorem State.add_mon (s : State) (f : Fld) (n : Nat) : (s.add f n).mon = s.mon := by rfl
@[simp] theorem State.add_time (s : State) (f : Fld) (n : Nat) : (s.add f n).time = s.time := by rfl
@[simp] theorem State.add_shot (s : State) (f : Fld) (n : Nat) : (s.add f n).shot = s.shot := by rfl
@[simp] theorem State.add_scan (s : State) (f : Fld) (n : Nat) : (s.add f n).scan = s.scan := by rfl
@[simp] theorem State.add_profOver (s : State) (f : Fld) (n : Nat) : (s.add f n).profOver = s.profOver := by rfl
@[simp] theorem State.add_eng (s : State) (f : Fld) (n : Nat) : (s.add f n).eng = s.eng := by rfl
@[simp] theorem State.add_rx (s : State) (f : Fld) (n : Nat) : (s.add f n).rx = s.rx := by rfl
@[simp] theorem State.add_heldRegs (s : State) (f : Fld) (n : Nat) : (s.add f n).heldRegs = s.heldRegs := by rfl
@[simp] theorem State.add_mem (s : State) (f : Fld) (n : Nat) : (s.add f n).mem = s.mem := by rfl
@[simp] theorem State.add_tx (s : State) (f : Fld) (n : Nat) : (s.add f n).tx = s.tx := by rfl
@[simp] theorem State.add_ps (s : State) (f : Fld) (n : Nat) : (s.add f n).ps = s.ps := by rfl
@[simp] theorem State.add_vis (s : State) (f : Fld) (n : Nat) : (s.add f n).vis = s.vis := by rfl
@[simp] theorem State.add_disps (s : State) (f : Fld) (n : Nat) : (s.add f n).disps = s.disps := by rfl
@[simp] theorem State.add_links (s : State) (f : Fld) (n : Nat) : (s.add f n).links = s.links := by rfl
@[simp] theorem State.add_eth (s : State) (f : Fld) (n : Nat) : (s.add f n).eth = s.eth := by rfl
@[simp] theorem State.add_tb (s : State) (f : Fld) (n : Nat) : (s.add f n).tb = s.tb := by rfl
@[simp] theorem State.add_sync (s : State) (f : Fld) (n : Nat) : (s.add f n).sync = s.sync := by rfl
@[simp] theorem State.add_safe (s : State) (f : Fld) (n : Nat) : (s.add f n).safe = s.safe := by rfl
@[simp] theorem State.add_hk (s : State) (f : Fld) (n : Nat) : (s.add f n).hk = s.hk := by rfl
@[simp] theorem State.add_th (s : State) (f : Fld) (n : Nat) : (s.add f n).th = s.th := by rfl
@[simp] theorem State.add_cal (s : State) (f : Fld) (n : Nat) : (s.add f n).cal = s.cal := by rfl
@[simp] theorem State.add_ill (s : State) (f : Fld) (n : Nat) : (s.add f n).ill = s.ill := by rfl
@[simp] theorem State.add_out (s : State) (f : Fld) (n : Nat) : (s.add f n).out = s.out := by rfl
@[simp] theorem State.add_free (s : State) (f : Fld) (n : Nat) : (s.add f n).free = s.free := by rfl
@[simp] theorem State.add_pending (s : State) (f : Fld) (n : Nat) : (s.add f n).pending = s.pending := by rfl

/-! ### inc -/

@[simp] theorem State.inc_flash (s : State) (f : Fld) : (s.inc f).flash = s.flash := by rfl
@[simp] theorem State.inc_dram (s : State) (f : Fld) : (s.inc f).dram = s.dram := by rfl
@[simp] theorem State.inc_otp (s : State) (f : Fld) : (s.inc f).otp = s.otp := by rfl
@[simp] theorem State.inc_pw (s : State) (f : Fld) : (s.inc f).pw = s.pw := by rfl
@[simp] theorem State.inc_cmd (s : State) (f : Fld) : (s.inc f).cmd = s.cmd := by rfl
@[simp] theorem State.inc_fm (s : State) (f : Fld) : (s.inc f).fm = s.fm := by rfl
@[simp] theorem State.inc_rcd (s : State) (f : Fld) : (s.inc f).rcd = s.rcd := by rfl
@[simp] theorem State.inc_mon (s : State) (f : Fld) : (s.inc f).mon = s.mon := by rfl
@[simp] theorem State.inc_time (s : State) (f : Fld) : (s.inc f).time = s.time := by rfl
@[simp] theorem State.inc_shot (s : State) (f : Fld) : (s.inc f).shot = s.shot := by rfl
@[simp] theorem State.inc_scan (s : State) (f : Fld) : (s.inc f).scan = s.scan := by rfl
@[simp] theorem State.inc_profOver (s : State) (f : Fld) : (s.inc f).profOver = s.profOver := by rfl
@[simp] theorem State.inc_eng (s : State) (f : Fld) : (s.inc f).eng = s.eng := by rfl
@[simp] theorem State.inc_rx (s : State) (f : Fld) : (s.inc f).rx = s.rx := by rfl
@[simp] theorem State.inc_heldRegs (s : State) (f : Fld) : (s.inc f).heldRegs = s.heldRegs := by rfl
@[simp] theorem State.inc_mem (s : State) (f : Fld) : (s.inc f).mem = s.mem := by rfl
@[simp] theorem State.inc_tx (s : State) (f : Fld) : (s.inc f).tx = s.tx := by rfl
@[simp] theorem State.inc_ps (s : State) (f : Fld) : (s.inc f).ps = s.ps := by rfl
@[simp] theorem State.inc_vis (s : State) (f : Fld) : (s.inc f).vis = s.vis := by rfl
@[simp] theorem State.inc_disps (s : State) (f : Fld) : (s.inc f).disps = s.disps := by rfl
@[simp] theorem State.inc_links (s : State) (f : Fld) : (s.inc f).links = s.links := by rfl
@[simp] theorem State.inc_eth (s : State) (f : Fld) : (s.inc f).eth = s.eth := by rfl
@[simp] theorem State.inc_tb (s : State) (f : Fld) : (s.inc f).tb = s.tb := by rfl
@[simp] theorem State.inc_sync (s : State) (f : Fld) : (s.inc f).sync = s.sync := by rfl
@[simp] theorem State.inc_safe (s : State) (f : Fld) : (s.inc f).safe = s.safe := by rfl
@[simp] theorem State.inc_hk (s : State) (f : Fld) : (s.inc f).hk = s.hk := by rfl
@[simp] theorem State.inc_th (s : State) (f : Fld) : (s.inc f).th = s.th := by rfl
@[simp] theorem State.inc_cal (s : State) (f : Fld) : (s.inc f).cal = s.cal := by rfl
@[simp] theorem State.inc_ill (s : State) (f : Fld) : (s.inc f).ill = s.ill := by rfl
@[simp] theorem State.inc_out (s : State) (f : Fld) : (s.inc f).out = s.out := by rfl
@[simp] theorem State.inc_free (s : State) (f : Fld) : (s.inc f).free = s.free := by rfl
@[simp] theorem State.inc_pending (s : State) (f : Fld) : (s.inc f).pending = s.pending := by rfl

/-! ### set64 -/

@[simp] theorem State.set64_flash (s : State) (lo hi : Fld) (x : BitVec 64) : (s.set64 lo hi x).flash = s.flash := by rw [State.set64, State.set_flash, State.set_flash]
@[simp] theorem State.set64_dram (s : State) (lo hi : Fld) (x : BitVec 64) : (s.set64 lo hi x).dram = s.dram := by rw [State.set64, State.set_dram, State.set_dram]
@[simp] theorem State.set64_otp (s : State) (lo hi : Fld) (x : BitVec 64) : (s.set64 lo hi x).otp = s.otp := by rw [State.set64, State.set_otp, State.set_otp]
@[simp] theorem State.set64_pw (s : State) (lo hi : Fld) (x : BitVec 64) : (s.set64 lo hi x).pw = s.pw := by rw [State.set64, State.set_pw, State.set_pw]
@[simp] theorem State.set64_cmd (s : State) (lo hi : Fld) (x : BitVec 64) : (s.set64 lo hi x).cmd = s.cmd := by rw [State.set64, State.set_cmd, State.set_cmd]
@[simp] theorem State.set64_fm (s : State) (lo hi : Fld) (x : BitVec 64) : (s.set64 lo hi x).fm = s.fm := by rw [State.set64, State.set_fm, State.set_fm]
@[simp] theorem State.set64_rcd (s : State) (lo hi : Fld) (x : BitVec 64) : (s.set64 lo hi x).rcd = s.rcd := by rw [State.set64, State.set_rcd, State.set_rcd]
@[simp] theorem State.set64_mon (s : State) (lo hi : Fld) (x : BitVec 64) : (s.set64 lo hi x).mon = s.mon := by rw [State.set64, State.set_mon, State.set_mon]
@[simp] theorem State.set64_time (s : State) (lo hi : Fld) (x : BitVec 64) : (s.set64 lo hi x).time = s.time := by rw [State.set64, State.set_time, State.set_time]
@[simp] theorem State.set64_shot (s : State) (lo hi : Fld) (x : BitVec 64) : (s.set64 lo hi x).shot = s.shot := by rw [State.set64, State.set_shot, State.set_shot]
@[simp] theorem State.set64_scan (s : State) (lo hi : Fld) (x : BitVec 64) : (s.set64 lo hi x).scan = s.scan := by rw [State.set64, State.set_scan, State.set_scan]
@[simp] theorem State.set64_profOver (s : State) (lo hi : Fld) (x : BitVec 64) : (s.set64 lo hi x).profOver = s.profOver := by rw [State.set64, State.set_profOver, State.set_profOver]
@[simp] theorem State.set64_eng (s : State) (lo hi : Fld) (x : BitVec 64) : (s.set64 lo hi x).eng = s.eng := by rw [State.set64, State.set_eng, State.set_eng]
@[simp] theorem State.set64_rx (s : State) (lo hi : Fld) (x : BitVec 64) : (s.set64 lo hi x).rx = s.rx := by rw [State.set64, State.set_rx, State.set_rx]
@[simp] theorem State.set64_heldRegs (s : State) (lo hi : Fld) (x : BitVec 64) : (s.set64 lo hi x).heldRegs = s.heldRegs := by rw [State.set64, State.set_heldRegs, State.set_heldRegs]
@[simp] theorem State.set64_mem (s : State) (lo hi : Fld) (x : BitVec 64) : (s.set64 lo hi x).mem = s.mem := by rw [State.set64, State.set_mem, State.set_mem]
@[simp] theorem State.set64_tx (s : State) (lo hi : Fld) (x : BitVec 64) : (s.set64 lo hi x).tx = s.tx := by rw [State.set64, State.set_tx, State.set_tx]
@[simp] theorem State.set64_ps (s : State) (lo hi : Fld) (x : BitVec 64) : (s.set64 lo hi x).ps = s.ps := by rw [State.set64, State.set_ps, State.set_ps]
@[simp] theorem State.set64_vis (s : State) (lo hi : Fld) (x : BitVec 64) : (s.set64 lo hi x).vis = s.vis := by rw [State.set64, State.set_vis, State.set_vis]
@[simp] theorem State.set64_disps (s : State) (lo hi : Fld) (x : BitVec 64) : (s.set64 lo hi x).disps = s.disps := by rw [State.set64, State.set_disps, State.set_disps]
@[simp] theorem State.set64_links (s : State) (lo hi : Fld) (x : BitVec 64) : (s.set64 lo hi x).links = s.links := by rw [State.set64, State.set_links, State.set_links]
@[simp] theorem State.set64_eth (s : State) (lo hi : Fld) (x : BitVec 64) : (s.set64 lo hi x).eth = s.eth := by rw [State.set64, State.set_eth, State.set_eth]
@[simp] theorem State.set64_tb (s : State) (lo hi : Fld) (x : BitVec 64) : (s.set64 lo hi x).tb = s.tb := by rw [State.set64, State.set_tb, State.set_tb]
@[simp] theorem State.set64_sync (s : State) (lo hi : Fld) (x : BitVec 64) : (s.set64 lo hi x).sync = s.sync := by rw [State.set64, State.set_sync, State.set_sync]
@[simp] theorem State.set64_safe (s : State) (lo hi : Fld) (x : BitVec 64) : (s.set64 lo hi x).safe = s.safe := by rw [State.set64, State.set_safe, State.set_safe]
@[simp] theorem State.set64_hk (s : State) (lo hi : Fld) (x : BitVec 64) : (s.set64 lo hi x).hk = s.hk := by rw [State.set64, State.set_hk, State.set_hk]
@[simp] theorem State.set64_th (s : State) (lo hi : Fld) (x : BitVec 64) : (s.set64 lo hi x).th = s.th := by rw [State.set64, State.set_th, State.set_th]
@[simp] theorem State.set64_cal (s : State) (lo hi : Fld) (x : BitVec 64) : (s.set64 lo hi x).cal = s.cal := by rw [State.set64, State.set_cal, State.set_cal]
@[simp] theorem State.set64_ill (s : State) (lo hi : Fld) (x : BitVec 64) : (s.set64 lo hi x).ill = s.ill := by rw [State.set64, State.set_ill, State.set_ill]
@[simp] theorem State.set64_out (s : State) (lo hi : Fld) (x : BitVec 64) : (s.set64 lo hi x).out = s.out := by rw [State.set64, State.set_out, State.set_out]
@[simp] theorem State.set64_free (s : State) (lo hi : Fld) (x : BitVec 64) : (s.set64 lo hi x).free = s.free := by rw [State.set64, State.set_free, State.set_free]
@[simp] theorem State.set64_pending (s : State) (lo hi : Fld) (x : BitVec 64) : (s.set64 lo hi x).pending = s.pending := by rw [State.set64, State.set_pending, State.set_pending]

/-! ### publish -/

@[simp] theorem State.publish_flash (s : State) (f : Fld) : (s.publish f).flash = s.flash := by rw [State.publish, State.set_flash, State.set_flash]
@[simp] theorem State.publish_dram (s : State) (f : Fld) : (s.publish f).dram = s.dram := by rw [State.publish, State.set_dram, State.set_dram]
@[simp] theorem State.publish_otp (s : State) (f : Fld) : (s.publish f).otp = s.otp := by rw [State.publish, State.set_otp, State.set_otp]
@[simp] theorem State.publish_pw (s : State) (f : Fld) : (s.publish f).pw = s.pw := by rw [State.publish, State.set_pw, State.set_pw]
@[simp] theorem State.publish_cmd (s : State) (f : Fld) : (s.publish f).cmd = s.cmd := by rw [State.publish, State.set_cmd, State.set_cmd]
@[simp] theorem State.publish_fm (s : State) (f : Fld) : (s.publish f).fm = s.fm := by rw [State.publish, State.set_fm, State.set_fm]
@[simp] theorem State.publish_rcd (s : State) (f : Fld) : (s.publish f).rcd = s.rcd := by rw [State.publish, State.set_rcd, State.set_rcd]
@[simp] theorem State.publish_mon (s : State) (f : Fld) : (s.publish f).mon = s.mon := by rw [State.publish, State.set_mon, State.set_mon]
@[simp] theorem State.publish_time (s : State) (f : Fld) : (s.publish f).time = s.time := by rw [State.publish, State.set_time, State.set_time]
@[simp] theorem State.publish_shot (s : State) (f : Fld) : (s.publish f).shot = s.shot := by rw [State.publish, State.set_shot, State.set_shot]
@[simp] theorem State.publish_scan (s : State) (f : Fld) : (s.publish f).scan = s.scan := by rw [State.publish, State.set_scan, State.set_scan]
@[simp] theorem State.publish_profOver (s : State) (f : Fld) : (s.publish f).profOver = s.profOver := by rw [State.publish, State.set_profOver, State.set_profOver]
@[simp] theorem State.publish_eng (s : State) (f : Fld) : (s.publish f).eng = s.eng := by rw [State.publish, State.set_eng, State.set_eng]
@[simp] theorem State.publish_rx (s : State) (f : Fld) : (s.publish f).rx = s.rx := by rw [State.publish, State.set_rx, State.set_rx]
@[simp] theorem State.publish_heldRegs (s : State) (f : Fld) : (s.publish f).heldRegs = s.heldRegs := by rw [State.publish, State.set_heldRegs, State.set_heldRegs]
@[simp] theorem State.publish_mem (s : State) (f : Fld) : (s.publish f).mem = s.mem := by rw [State.publish, State.set_mem, State.set_mem]
@[simp] theorem State.publish_tx (s : State) (f : Fld) : (s.publish f).tx = s.tx := by rw [State.publish, State.set_tx, State.set_tx]
@[simp] theorem State.publish_ps (s : State) (f : Fld) : (s.publish f).ps = s.ps := by rw [State.publish, State.set_ps, State.set_ps]
@[simp] theorem State.publish_vis (s : State) (f : Fld) : (s.publish f).vis = s.vis := by rw [State.publish, State.set_vis, State.set_vis]
@[simp] theorem State.publish_disps (s : State) (f : Fld) : (s.publish f).disps = s.disps := by rw [State.publish, State.set_disps, State.set_disps]
@[simp] theorem State.publish_links (s : State) (f : Fld) : (s.publish f).links = s.links := by rw [State.publish, State.set_links, State.set_links]
@[simp] theorem State.publish_eth (s : State) (f : Fld) : (s.publish f).eth = s.eth := by rw [State.publish, State.set_eth, State.set_eth]
@[simp] theorem State.publish_tb (s : State) (f : Fld) : (s.publish f).tb = s.tb := by rw [State.publish, State.set_tb, State.set_tb]
@[simp] theorem State.publish_sync (s : State) (f : Fld) : (s.publish f).sync = s.sync := by rw [State.publish, State.set_sync, State.set_sync]
@[simp] theorem State.publish_safe (s : State) (f : Fld) : (s.publish f).safe = s.safe := by rw [State.publish, State.set_safe, State.set_safe]
@[simp] theorem State.publish_hk (s : State) (f : Fld) : (s.publish f).hk = s.hk := by rw [State.publish, State.set_hk, State.set_hk]
@[simp] theorem State.publish_th (s : State) (f : Fld) : (s.publish f).th = s.th := by rw [State.publish, State.set_th, State.set_th]
@[simp] theorem State.publish_cal (s : State) (f : Fld) : (s.publish f).cal = s.cal := by rw [State.publish, State.set_cal, State.set_cal]
@[simp] theorem State.publish_ill (s : State) (f : Fld) : (s.publish f).ill = s.ill := by rw [State.publish, State.set_ill, State.set_ill]
@[simp] theorem State.publish_out (s : State) (f : Fld) : (s.publish f).out = s.out := by rw [State.publish, State.set_out, State.set_out]
@[simp] theorem State.publish_free (s : State) (f : Fld) : (s.publish f).free = s.free := by rw [State.publish, State.set_free, State.set_free]
@[simp] theorem State.publish_pending (s : State) (f : Fld) : (s.publish f).pending = s.pending := by rw [State.publish, State.set_pending, State.set_pending]

/-! ### emit -/

@[simp] theorem State.emit_regs (s : State) (x : Out) : (s.emit x).regs = s.regs := by rfl
@[simp] theorem State.emit_flash (s : State) (x : Out) : (s.emit x).flash = s.flash := by rfl
@[simp] theorem State.emit_dram (s : State) (x : Out) : (s.emit x).dram = s.dram := by rfl
@[simp] theorem State.emit_otp (s : State) (x : Out) : (s.emit x).otp = s.otp := by rfl
@[simp] theorem State.emit_pw (s : State) (x : Out) : (s.emit x).pw = s.pw := by rfl
@[simp] theorem State.emit_cmd (s : State) (x : Out) : (s.emit x).cmd = s.cmd := by rfl
@[simp] theorem State.emit_fm (s : State) (x : Out) : (s.emit x).fm = s.fm := by rfl
@[simp] theorem State.emit_rcd (s : State) (x : Out) : (s.emit x).rcd = s.rcd := by rfl
@[simp] theorem State.emit_mon (s : State) (x : Out) : (s.emit x).mon = s.mon := by rfl
@[simp] theorem State.emit_time (s : State) (x : Out) : (s.emit x).time = s.time := by rfl
@[simp] theorem State.emit_shot (s : State) (x : Out) : (s.emit x).shot = s.shot := by rfl
@[simp] theorem State.emit_scan (s : State) (x : Out) : (s.emit x).scan = s.scan := by rfl
@[simp] theorem State.emit_profOver (s : State) (x : Out) : (s.emit x).profOver = s.profOver := by rfl
@[simp] theorem State.emit_eng (s : State) (x : Out) : (s.emit x).eng = s.eng := by rfl
@[simp] theorem State.emit_rx (s : State) (x : Out) : (s.emit x).rx = s.rx := by rfl
@[simp] theorem State.emit_heldRegs (s : State) (x : Out) : (s.emit x).heldRegs = s.heldRegs := by rfl
@[simp] theorem State.emit_mem (s : State) (x : Out) : (s.emit x).mem = s.mem := by rfl
@[simp] theorem State.emit_tx (s : State) (x : Out) : (s.emit x).tx = s.tx := by rfl
@[simp] theorem State.emit_ps (s : State) (x : Out) : (s.emit x).ps = s.ps := by rfl
@[simp] theorem State.emit_vis (s : State) (x : Out) : (s.emit x).vis = s.vis := by rfl
@[simp] theorem State.emit_disps (s : State) (x : Out) : (s.emit x).disps = s.disps := by rfl
@[simp] theorem State.emit_links (s : State) (x : Out) : (s.emit x).links = s.links := by rfl
@[simp] theorem State.emit_eth (s : State) (x : Out) : (s.emit x).eth = s.eth := by rfl
@[simp] theorem State.emit_tb (s : State) (x : Out) : (s.emit x).tb = s.tb := by rfl
@[simp] theorem State.emit_sync (s : State) (x : Out) : (s.emit x).sync = s.sync := by rfl
@[simp] theorem State.emit_safe (s : State) (x : Out) : (s.emit x).safe = s.safe := by rfl
@[simp] theorem State.emit_hk (s : State) (x : Out) : (s.emit x).hk = s.hk := by rfl
@[simp] theorem State.emit_th (s : State) (x : Out) : (s.emit x).th = s.th := by rfl
@[simp] theorem State.emit_cal (s : State) (x : Out) : (s.emit x).cal = s.cal := by rfl
@[simp] theorem State.emit_ill (s : State) (x : Out) : (s.emit x).ill = s.ill := by rfl
@[simp] theorem State.emit_free (s : State) (x : Out) : (s.emit x).free = s.free := by rfl
@[simp] theorem State.emit_pending (s : State) (x : Out) : (s.emit x).pending = s.pending := by rfl
@[simp] theorem State.emit_out (s : State) (x : Out) : (s.emit x).out = x :: s.out := by rfl

end Sys2Proof.Machine
end

