-- ==== Sys2Proof/Tests/Slice0.lean ====
section
/-! SUPPORT. Tests: values that the spec writes out, ill-formed terms that each check refuses, and for every obligation with hypotheses states and operands
that meet them (`hyps_<obligation>`), clause by clause. A clause about a command that is taken evaluates its condition in the state its handler runs in. -/

set_option maxRecDepth 100000
set_option linter.unusedVariables false
set_option Elab.async false

namespace Sys2Proof.Tests

open Sys2Proof Sys2Proof.Machine

/-! ### States -/

/-- A command is taken at once in `s`, and `h` holds of the state its handler runs in. -/
def runsAt (c : Instr) (s : State) (h : State → Bool) : Bool := match asPacket c with
  | some p => s.takes p && h (s.seen p)
  | none => false

/-- The state after reset. -/
def R := State.reset

/-- The state after reset in another power state. -/
def Rst (p : PowerState) : State := { R with pw := { R.pw with st := p } }

/-- A domain switched off. -/
def Roff (d : Nat) : State := R.setFlag (domBit 0x120 d) false

/-- A scan that runs. -/
def Rscan : State := { Rst .scanning with scan := { R.scan with phase := .running } }

/-- Fields set. -/
def upd (s : State) (fs : List (Fld × Nat)) : State := fs.foldl (fun s e => s.set e.1 e.2) s

/-- A firmware image of one section, its signature made with the private key 1. -/
def img : List Byte := (beBytes 4 0x42584657 ++ beBytes 2 1 ++ beBytes 2 256 ++ beBytes 4 576 ++ zeros 24 ++ [0, 1] ++ zeros 26 ++ [1, 0, 0, 0] ++ beBytes 4 256 ++ beBytes 4 256 ++ beBytes 4 256) ++ zeros 432 ++ beBytes 32 0x6b17d1f2e12c4247f8bce6e563a440f277037d812deb33a0f4a13945d898c296 ++ beBytes 32 0xd4808636b070f0599c39ee3e3ad8e1d0d7246d1917c31813f5a1fbe39ff2f083

/-- The public key of the private key 1: the base point. -/
def gkey : List Byte := beBytes 32 0x6b17d1f2e12c4247f8bce6e563a440f277037d812deb33a0f4a13945d898c296 ++ beBytes 32 0x4fe342e2fe1a7f9b8ee7eb4a7c0f9e162bce33576b315ececbb6406837bf51f5

/-- Flash cells of a list of bytes. -/
def flashOf (base : Nat) (b : List Byte) : List Host.Cell := ((List.range b.length).filter (fun i => b.getD i 0 != 0xFF)).map (fun i => (base + i, b.getD i 0))

/-- A boot in a phase. -/
def Rboot (ph : BootPhase) : State := { Rst .booting with pw := { (Rst .booting).pw with boot := { R.pw.boot with phase := ph } } }

/-- A boot with that image staged, its key in the OTP. -/
def Rimg (ph : BootPhase) : State := { Rboot ph with pw := { (Rboot ph).pw with staging := img, boot := { (Rboot ph).pw.boot with slot := 2 } }, otp := { R.otp with keys := [gkey] } }

/-- A camera block of Table 11-1. -/
def camB (w h fps : Nat) : List Byte := [1, 0, 0x2B, 1] ++ beBytes 2 1000 ++ [0, 1] ++ beBytes 2 w ++ beBytes 2 h ++ beBytes 2 fps ++ beBytes 2 10 ++ zeros 48

/-- A camera block in its registers. -/
def putBlock (s : State) (n : Nat) (b : List Byte) : State := (List.range 16).foldl (fun s i => s.set (F.CAM.CAM_BLOCK n i) (u32 b (4 * i))) s

/-- Camera 0 running. -/
def Rcam : State := upd (putBlock R 0 (camB 256 128 3000)) [(F.CAM.CSI_STAT_CONFIGURED 0, 1), (F.CAM.CSI_STAT_RUN 0, 1)]

/-- An open frame. -/
def opF : OpenFrame := ⟨0, 0, 0, 0, false, none, false, 0, 0, []⟩

/-- Camera 0 with an open frame. -/
def Ropen : State := Rcam.setCam 0 { Rcam.cam 0 with opened := some opF }

/-- A frame under way in context 0. -/
def jobA : Job := ⟨0, 0, 0, 0, 0, 256, 128, 0, 0, none, true, false, false, true, true, false, 0, 0, [], [(0x10, beBytes 2 64 ++ beBytes 2 64 ++ zeros 8 ++ [5])], [], 0⟩

/-- An open depth map. -/
def mapA : DMap := ⟨0, 0, 0, 0, 0, 6, 4, 2, [], [], none, 0, 0, false⟩

/-- A column in hand. -/
def colB : ColInfo := ⟨7, 0, 0, true, [], [], some 100, false, [], 0, false, false, true, false, false⟩

/-- A timing block of Table 12-1. -/
def timB : List Byte := beBytes 4 25000000 ++ beBytes 2 640 ++ beBytes 2 16 ++ beBytes 2 96 ++ beBytes 2 48 ++ beBytes 2 480 ++ beBytes 2 10 ++ beBytes 2 2 ++ beBytes 2 33 ++ [0, 0] ++ beBytes 2 1 ++ beBytes 4 100 ++ zeros 4

/-- Display 0 configured. -/
def Rdisp : State := upd ((List.range 8).foldl (fun s i => s.set (F.DSP.TIMING 0 i) (u32 timB (4 * i))) R) [(F.DSP.DISP_STAT_CONFIGURED 0, 1), (F.OZ.LINK_STAT_STATE 1, 2)]

/-- A scan under compression level 3. -/
def Rscanlv : State := upd Rscan [(F.PS.COMP_CTRL_LEVEL, 3)]

/-- A parameter of a safety image. -/
def patchParam (img : List Byte) (n v : Nat) : List Byte := patchBytes img (28 + 8 * paramEntry n) (beBytes 4 v)

/-- A safety image whose parameters pass the commit checks. -/
def simg : List Byte := [(0x600, 7), (0x103, 1000), (0x101, 64), (0x106, 5), (0x108, 9), (0x60, crc32c R.calGeom)].foldl (fun i e => patchParam i e.1 e.2) safeBlank

/-- The same with its CRC. -/
def simgOk : List Byte := simg.take 4648 ++ beBytes 4 (crc32c (simg.take 4648))

/-- A commissioning session that stages it. -/
def ssx : SafeSession := ⟨5, .spi, simg⟩

/-- That session open. -/
def Rses : State := { R with safe := { R.safe with session := some ssx } }

/-- Region S configured with it. -/
def Rconf : State := { R with safe := { R.safe with loaded := true, cfg := some simgOk, geomOk := true } }

/-- A column with all four parts. -/
def colC : ColInfo := { colB with parts := [(0, []), (1, []), (2, []), (3, [])], judged := false }

/-- Sixteen hub codes. -/
def c16 : List Int := [400, 416, 400, 400, 400, 400, 400, 400, 400, 400, 400, 400, 400, 400, 400, 3000]

/-- A calibration run. -/
def calR (items : List Nat) (manual : Bool) : CalRun := ⟨items, manual, 400, none, [], [], [], [], [], [], false, false⟩

/-- A run under way. -/
def Rrun (items : List Nat) : State := upd { R with cal := { R.cal with run := some (calR items true) }, th := { R.th with mean := some 400 } } [(F.LOOP.LOOP_STAT_SETTLED 2, 1), (F.LOOP.LOOP_STAT_SETTLED 3, 1)]

/-- A trigger block of Table 19-9. -/
def recB : List Byte := [5, 0, 0, 0] ++ beBytes 2 16 ++ zeros 26

/-- The recorder in a state. -/
def Rrec (n : Nat) (fs : List (Fld × Nat) := []) : State := upd ((List.range 8).foldl (fun s i => s.set (F.REC.REC_ARM i) (u32 recB (4 * i))) R) ((F.REC.REC_STAT_STATE, n) :: fs)

/-- A capture. -/
def capA : Capture := ⟨true, false, 5, 7, 1, 16, 16, zeros 12, 0, []⟩

/-- The recorder with a capture in slot 1. -/
def Rslot (n : Nat) : State := { Rrec n with rcd := { R.rcd with slots := [(1, capA)], reading := some 1 } }

/-- The monitor enabled. -/
def Rmon : State := upd R [(F.MON.MON_CTRL_EN, 1)]

/-- A monitor session open. -/
def Rses2 : State := upd Rmon [(F.MON.MON_STAT_SESSION, 1)]

/-- A monitor key other than zeros. -/
def Rk : State := { Rmon with otp := { R.otp with monKey := 9 :: zeros 31 } }

/-! ### Values that the spec writes out -/

/-- The state after a row. -/
def after (c : Instr) (s : State) : State := match exec c s with
  | .next t => t
  | _ => s

/-- STATUS and DETAIL of the reply last queued to SPI (Table 2-4). -/
def statusOf (s : State) : Option (Nat × Nat) := s.cmd.outq.getLast?.map (fun p => (u8 p 12, u8 p 13))

/-- Table 2-3: the bytes of PING over SPI, sequence 1. -/
theorem test_ping_packet : packet 0 1 1 1 [] = [0xB7, 0x01, 0x00, 0x01, 0x00, 0x01, 0x00, 0x01, 0x00, 0x00, 0x48, 0xFB, 0x64, 0xB8, 0x92, 0x7F] := by decide +kernel

/-- R27: the check value of the CRC-32C. -/
theorem test_crc_check_value : crc32c [0x31, 0x32, 0x33, 0x34, 0x35, 0x36, 0x37, 0x38, 0x39] = 0xE3069283 := by decide +kernel

/-- FIPS 180-4: the digest of "abc" (log entry 43). -/
theorem test_sha256_abc : ofBe (sha256 [0x61, 0x62, 0x63]) = 0xba7816bf8f01cfea414140de5dae2223b00361a396177a9cb410ff61f20015ad := by decide +kernel

/-- RFC 1951: a block with the fixed code that holds one literal. -/
theorem test_inflate_fixed : (inflate [0x4B, 0x04, 0x00] 10 0 false).bytes = [0x61] := by decide +kernel

/-- Table 2-3 through `step`: the PING at the front of the queue is answered DONE. -/
theorem test_ping_step : (match step { R with pending := [.ping .spi 1] } with
    | .next t => decide (statusOf t = some (0, 0)) && t.pending.isEmpty
    | _ => false) = true := by decide +kernel

/-- Chapter 1, the worked case of the order rule: in SAFE_HOLD a SCAN_STOP is answered BAD_STATE. -/
theorem test_scan_stop_in_safe_hold : (statusOf (after (.scanStop .spi 0) (Rst .safeHold))).map (fun e => e.1) = some 0x13 := by decide +kernel

/-- Chapter 20: row 400's HROW_ST. -/
theorem test_row_address : (F.ROW.HROW_ST 400).addr = 0x011083A0 := by decide

/-- Chapter 20: a read that would leave its slice is answered BAD_PARAM, DETAIL 0; one inside it is answered DONE. -/
theorem test_read_bounds : statusOf (after (.regRead .spi 0 0x0110FFF8 4) R) = some (0x12, 0) ∧ statusOf (after (.regRead .spi 0 0x011083A0 8) R) = some (0, 0) := by decide +kernel

/-- Chapter 5, the worked evaluation at CALDERA: the reference 1,000 µs into forward frame 0 (τ = 23.4375 µs in 1/256 fine LSB), and its absolute angle. -/
theorem test_trajectory : R.trajRef 40 72000000 = -2863312 ∧ R.absAngle (-2863312) = 54351 := by decide +kernel

/-- R105 with Table 4-2: the cost of a shot of bank 3. -/
theorem test_shot_cost : (((upd R [(F.LIM.LIM_MAX_MAX_WIDTH, 12), (F.STR.STR_STAT_EFF_TARGET 12, 4500), (F.STR.STR_STAT_EFF_TARGET 13, 4500),
    (F.STR.STR_STAT_EFF_TARGET 14, 4500), (F.STR.STR_STAT_EFF_TARGET 15, 4500)]).setBank 3 { R.bank 3 with v := [4502, 4498, 4501, 4497] }).shotCost 3 15) = 144024 := by decide +kernel

/-- Chapter 6, the sunlit row: AMB 768, and the step that RAISE 64 and 256 give A = 192. -/
theorem test_sunlit_row : ambient 1151 1161600 4 = (768, false) ∧ climb (fun t => if t = 1 then 64 else 256) 192 6 6 2 = 2 := by decide +kernel

/-- Channel 8 as Table 7-2 sets it. -/
def table72 : State :=
  let s := upd R [(F.CH.CH_CTRL_EN 8, 1), (F.CH.CH_CTRL_MODE 8, 1), (F.CH.CH_CTRL_STOP_SRC 8, 1), (F.CH.CH_CTRL_ORDER_EN 8, 1), (F.CH.CH_TIMEOUT_TIMEOUT 8, 1500),
    (F.CH.LIN 9 10, 166), (F.CH.LIN 9 21, 339), (F.CH.LIN 8 0, 8), (F.CH.LIN 8 20, 331), (F.CH.LIN 8 58, 930)]
  (s.setFlag (F.CH.CH_STAT_LOCKED 8) true).setFlag (F.CH.CH_STAT_LOCKED 9) true

/-- Table 7-2: a stop that comes first gives −112; a start and a stop half a unit apart give 0. -/
theorem test_intervals :
    (let s := after (.tinEdge 0 false 40001 58) (after (.tinEdge 1 false 40000 10) table72)
     let t := after (.tinEdge 1 false 41500 21) (after (.tinEdge 0 false 41500 20) s)
     decide (s.getI (F.CH.INTERVAL 8) = -112) && s.flag (F.CH.ORDER 8) && decide (t.getI (F.CH.INTERVAL 8) = 0) && t.flag (F.CH.TIE 8) && !t.flag (F.CH.ORDER 8)) = true := by
  decide +kernel

/-- Table 8-4: the two windows of row 400. -/
theorem test_windows : selectWindows 4 24 4 48 2 10 [(225, 2), (88, 1), (224, 1), (616, 1), (89, 1), (1253, 1)] [] = [(3570, 3, 3602), (1392, 2, 1424)] := by decide +kernel

/-- Row 400's buffer after Tables 8-4 and 8-5. -/
def row400 : RowBuf := { RowBuf.empty 0 with
  coarse := [(224, 1), (225, 1), (616, 1), (2136, 1), (2137, 1), (2273, 1), (3301, 1)]
  zoom := [(29, 1), (30, 2), (32, 1), (112, 1), (286, 1), (287, 2)]
  wins := [(3570, 3, 3602), (1392, 2, 1424)]
  zoomOut := 3
  prestart := 3
  window := 3
  holdHit := 2 }

/-- Table 9-6: the one return of row 400. -/
theorem test_row400 : (((R.setRxBank 3 { R.rxBank 3 with shotsRdg := [2, 2, 4, 4] }).extractRow 400 row400).1.rets.map
    (fun r => (r.range, r.inten, r.conf, r.win, r.sat || r.diffuse || r.foreign || r.precip || r.multi || r.low))) = [(179825, 3877, 13, 0, false)] := by decide +kernel

/-! ### Ill-formed terms, one for each check of WellFormed.lean -/

/-- Each term breaks the check of its row and no other. -/
theorem smoke_ill_formed : ([
    .udpCommandDatagram ⟨0, 0⟩ (zeros 1473), .oazilUpstreamBlock (zeros 511), .controlBlockReceived (zeros 513), .regWrite (.udp ⟨0, 0⟩) 0 0 (List.replicate 363 0),
    .loopCoefSet .spi 0 0 (List.replicate 9 0), .trajectoryLoad .spi 0 0 (List.replicate 512 0), .camConfig .spi 0 0 (zeros 63), .pipeContextSet .spi 0 0 0 (zeros 2045),
    .dispMode .spi 0 0 (zeros 31), .layerSet .spi 0 0 0 (zeros 33), .timeConfig .spi 0 (zeros 15), .commissionOpen .spi 0 (zeros 31), .fieldWrite .spi 0 0 0 3 (zeros 31),
    .fieldWrite (.udp ⟨0, 0⟩) 0 0 0 255 (zeros 2048), .hkConfig .spi 0 (zeros 63), .recorderArm .spi 0 (zeros 31), .fwWrite .spi 0 0 (zeros 2041), .wakeSource 3, .vstrSample 0 [1, 2, 3],
    .chargeWindowOpen 0 [], .refCellTrigger (List.replicate 47 none), .rowDisarm 0 0 [], .hubReading (List.replicate 15 0), .linTableWrite .spi 0 0 0 [],
    .linTableWrite .spi 0 0 63 [0, 0], .ovfConfigWrite .spi 0 0x2000180 [0], .peConfigWrite .spi 0 0x50000 [], .pipeCfgWrite .spi 0 0x3002002 [0],
    .thermalThresholdWrite .spi 0 0x6001800 0, .illumShuntCrossing 0 3, .monAuth (zeros 15)] : List Instr).all (fun c => !c.wellFormed) = true := by
  decide +kernel

theorem smoke_recorder_samples : (Instr.recorderPostFillDone (zeros 163841)).wellFormed = false := by
  rw [Instr.wellFormed, zeros, List.length_replicate]
  decide

/-- Terms at the bounds of the same checks. -/
theorem smoke_well_formed : ([
    .udpCommandDatagram ⟨0, 0⟩ (zeros 1472), .oazilUpstreamBlock (zeros 512), .regWrite (.udp ⟨0, 0⟩) 0 0 (List.replicate 362 0), .loopCoefSet .spi 0 0 (List.replicate 10 0),
    .trajectoryLoad .spi 0 0 (List.replicate 511 0), .camConfig .spi 0 0 (zeros 64), .pipeContextSet .spi 0 0 0 (zeros 2044), .fieldWrite .spi 0 0 0 3 (zeros 32),
    .fwWrite .spi 0 0 (zeros 2040), .wakeSource 2, .refCellTrigger (List.replicate 48 none), .linTableWrite .spi 0 0 63 [0], .ovfConfigWrite .spi 0 0x200017C [0],
    .thermalThresholdWrite .spi 0 0x60017FC 0, .illumShuntCrossing 0 2, .monAuth (zeros 16)] : List Instr).all Instr.wellFormed = true := by
  decide +kernel


/-! ### Witnesses that rest on a long checksum or a signature: evaluated once or by the lemmas of Laws/Codec.lean -/

/-- The CRC-32C of 65,532 unwritten bytes, which no proof here needs to evaluate. -/
def calCrc : Nat := crc32c (List.replicate 0xFFFC 0xFF)

/-- A record of `n` unwritten bytes and four that hold `c`. -/
theorem tail_read (m r : List Host.Cell) (base n c : Nat) (hm : ∀ e ∈ m, e.1 < base) (hr : ∀ e ∈ r, base + (n + 4) ≤ e.1) :
    spGetList flashDflt (m ++ (cellsAt (base + n) (beBytes 4 c) ++ r)) base (n + 4) = List.replicate n 0xFF ++ beBytes 4 c := by
  rw [spGetList_skip _ _ _ _ _ hm, spGetList_append]
  congr 1
  · refine spGetList_unlisted 0xFF _ _ _ (fun e he => .inr ?_)
    rcases List.mem_append.mp he with he | he
    · exact (mem_cellsAt _ _ _ he).1
    · have := hr e he; omega
  · have := spGetList_cellsAt flashDflt (beBytes 4 c) r (base + n) 0 4 (by simp)
    rw [Nat.add_zero] at this
    rw [this, List.drop_zero, List.take_of_length_le (by simp)]

theorem tail_crc (x : List Byte) (n c : Nat) (hn : x.length = n) :
    (crc32c ((x ++ beBytes 4 c).take n) == u32 (x ++ beBytes 4 c) n) = (crc32c x == c % 2 ^ 32) := by
  rw [List.take_left' hn, u32, beAt, List.drop_left' hn, List.take_of_length_le (by simp), ofBe_beBytes, show (256 : Nat) ^ 4 = 2 ^ 32 from rfl]

theorem calValid_tail (s : State) (i c : Nat) (m r : List Host.Cell) (h : s.flash = m ++ (cellsAt (calAddr i + 0xFFFC) (beBytes 4 c) ++ r))
    (hm : ∀ e ∈ m, e.1 < calAddr i) (hr : ∀ e ∈ r, calAddr i + (0xFFFC + 4) ≤ e.1) : s.calValid i = (calCrc == c % 2 ^ 32) := by
  rw [State.calValid, State.flashRead, h, show (0x10000 : Nat) = 0xFFFC + 4 from rfl, tail_read _ _ _ _ _ hm hr]
  exact tail_crc _ _ _ List.length_replicate

/-- A boot at the end of its self-test with copy 0 of the calibration record valid. -/
def bootCal : State := { Rboot .selfTest with flash := cellsAt (calAddr 0 + 0xFFFC) (beBytes 4 calCrc), pw := { (Rboot .selfTest).pw with boot := { (Rboot .selfTest).pw.boot with group := 8 } } }

/-- The same with neither copy valid. -/
def bootNoCal : State := { bootCal with flash := cellsAt (calAddr 0 + 0xFFFC) (beBytes 4 (calCrc + 1)) ++ cellsAt (calAddr 1 + 0xFFFC) (beBytes 4 (calCrc + 1)) }

theorem hyps_BootSequence_selfTest :
    (bootCal.pw.st = .booting ∧ bootCal.pw.boot.phase = .selfTest ∧ bootCal.pw.boot.group = 8 ∧ bootCal.calChoose.1 ≠ []) ∧
    (bootNoCal.pw.st = .booting ∧ bootNoCal.pw.boot.phase = .selfTest ∧ bootNoCal.pw.boot.group = 8 ∧ bootNoCal.calChoose.1 = []) := by
  refine ⟨⟨by decide +kernel, by decide +kernel, by decide +kernel, ?_⟩, by decide +kernel, by decide +kernel, by decide +kernel, ?_⟩
  · have h : bootCal.calValid 0 = true := by
      rw [calValid_tail bootCal 0 calCrc [] [] (by simp [bootCal]) (by simp) (by simp), beq_iff_eq]
      have := crc32c_lt (List.replicate 0xFFFC 0xFF)
      rw [← calCrc] at this
      exact (Nat.mod_eq_of_lt this).symm
    simp [State.calChoose, h]
  · have hc : (calCrc == (calCrc + 1) % 2 ^ 32) = false := by
      have := crc32c_lt (List.replicate 0xFFFC 0xFF)
      rw [← calCrc] at this
      rw [beq_eq_false_iff_ne]
      omega
    have h0 : bootNoCal.calValid 0 = false := by
      rw [calValid_tail bootNoCal 0 (calCrc + 1) [] _ rfl (by simp) ?_, hc]
      intro e he
      have := (mem_cellsAt _ _ _ he).1
      simp only [calAddr] at this ⊢
      omega
    have h1 : bootNoCal.calValid 1 = false := by
      rw [calValid_tail bootNoCal 1 (calCrc + 1) (cellsAt (calAddr 0 + 0xFFFC) (beBytes 4 (calCrc + 1))) [] (by simp [bootNoCal]) ?_ (by simp), hc]
      intro e he
      have := (mem_cellsAt _ _ _ he).2
      rw [beBytes_length] at this
      simp only [calAddr] at this ⊢
      omega
    simp [State.calChoose, h0, h1]

/-- The image's signature is good under the public key of the private key 1. -/
theorem img_signed : ecdsaOk gkey (sha256 (img.take 512)) (img.drop 512) = true := by decide +kernel

/-- The image stands where a slot reads it and its key is in the OTP. -/
theorem img_stands (s : State) (slot : Nat) (hi : ∀ off n, off + n ≤ 576 → s.imageRead slot off n = (img.drop off).take n)
    (ho : s.otp = { R.otp with keys := [gkey] }) : s.imageFault slot = none := by
  have e0 : headerFault (img.take 256) = none ∧ u32 (img.take 256) 8 = 576 ∧ u8 (img.take 256) 36 = 0 ∧ u32 (img.take 256) 24 = 0 ∧
      u8 (img.take 256) 37 = 1 ∧ (sectionAt (img.take 256) 0).comp = 0 ∧ u32 (img.take 256) 16 = 0 ∧ (img.drop 512).length = 64 := by decide +kernel
  obtain ⟨e1, e2, e3, e4, e5, e6, e7, e8⟩ := e0
  have e9 : s.sectionFault slot (img.take 256) = none := by simp [State.sectionFault, e5, e6]
  have hk : s.otp.revoked = 0 ∧ s.otp.secCounter = 0 ∧ s.otp.keys = [gkey] := by rw [ho]; exact ⟨rfl, rfl, rfl⟩
  have h0 := hi 0 256 (by decide)
  have h1 := hi 0 512 (by decide)
  have h2 := hi 512 64 (by decide)
  rw [List.drop_zero] at h0 h1
  rw [List.take_of_length_le (Nat.le_of_eq e8)] at h2
  rw [State.imageFault, h0, e1, e2, e3, e4, e7, e9, hk.1, hk.2.1, hk.2.2]
  simp [h1, h2, img_signed]

theorem imageRead_staging (s : State) (h : s.pw.staging = img) (off n : Nat) (hn : off + n ≤ 576) : s.imageRead 2 off n = (img.drop off).take n := by
  have hl : img.length = 576 := by decide +kernel
  rw [State.imageRead, if_neg (by decide), h, hl, show n - (576 - off) = 0 by omega]
  simp [zeros]

def bootImg : State := Rimg .verify
def verifyImg : State := { Rimg .idle with cmd := { R.cmd with running := [⟨0x0F03, .spi, 7, 0⟩] }, pw := { (Rimg .idle).pw with st := .safeHold, fw := some ⟨2, 576, 576, true, false⟩ } }
def activateImg : State := { R with flash := cellsAt (slotBase 1) img, otp := { R.otp with keys := [gkey] }, pw := { R.pw with verified1 := true } }

theorem imageRead_slot (s : State) (h : s.flash = cellsAt (slotBase 1) img) (off n : Nat) (hn : off + n ≤ 576) : s.imageRead 1 off n = (img.drop off).take n := by
  have hl : img.length = 576 := by decide +kernel
  have := spGetList_cellsAt flashDflt img [] (slotBase 1) off n (by omega)
  rw [List.append_nil, ← h] at this
  exact this

theorem hyps_BootSequence_verify :
    bootImg.pw.boot.phase = .verify ∧ (false = false ∨ bootImg.pw.boot.slot = 2) ∧ bootImg.imageFault bootImg.pw.boot.slot = none :=
  ⟨rfl, .inl rfl, img_stands _ _ (imageRead_staging _ rfl) rfl⟩

theorem hyps_FirmwareUpdate_verify : verifyImg.pw.fw = some ⟨2, 576, 576, true, false⟩ ∧ verifyImg.isRunning 0x0F03 = true ∧
    (false = false ∨ (2 : Nat) = 2) ∧ verifyImg.imageFault 2 = none :=
  ⟨rfl, by decide +kernel, .inl rfl, img_stands _ _ (imageRead_staging _ rfl) rfl⟩

def activatePkt : Pkt := ⟨.spi, 0, 0x0F04, [1, 0, 0, 0]⟩

theorem hyps_FirmwareUpdate_activate : asPacket (.fwActivate .spi 0 1) = some activatePkt ∧ activateImg.takes activatePkt = true ∧
    (activateImg.seen activatePkt).downloading = false ∧ (activateImg.seen activatePkt).pw.verified1 = true ∧
    (activateImg.seen activatePkt).imageFault 1 = none := by
  have h : (activateImg.seen activatePkt).downloading = false ∧ (activateImg.seen activatePkt).pw.verified1 = true ∧
      (activateImg.seen activatePkt).flash = activateImg.flash ∧ (activateImg.seen activatePkt).otp = activateImg.otp := by decide +kernel
  exact ⟨rfl, by decide +kernel, h.1, h.2.1, img_stands _ _ (imageRead_slot _ h.2.2.1) h.2.2.2⟩

/-- The first 60 bytes of the image of a context with one byte of history. -/
def ctxHead : List Byte := [0x43, 0x58, 0x54, 0x31, 0, 0, 0, 0, 0, 0, 0, 1] ++ zeros 48

/-- The CRC-32C of that image, which no proof here needs to evaluate. -/
def ctxCrc : Nat := crc32c (ctxHead ++ List.replicate 32768 0)

def restoreCtx : State := { R with dram := cellsAt 640 (ctxHead ++ beBytes 4 ctxCrc), ps := { R.ps with save := some (1, 640) }, cmd := { R.cmd with running := [⟨0x0A02, .spi, 7, 0⟩] } }

/-- A run of listed bytes and then of unwritten memory. -/
theorem head_read (x : List Byte) (k n : Nat) : spGetList dramDflt (cellsAt k x) k (x.length + n) = x ++ List.replicate n 0 := by
  rw [spGetList_append]
  congr 1
  · have := spGetList_cellsAt dramDflt x [] k 0 x.length (by omega)
    rw [Nat.add_zero, List.append_nil] at this
    rw [this, List.drop_zero, List.take_length]
  · exact spGetList_unlisted 0 _ _ _ (fun e he => .inl (mem_cellsAt _ _ _ he).2)

theorem image_stands (h y : List Byte) (c : Nat) (hl : h.length = 60) (h0 : u32 h 0 = 0x43585431) (h1 : u32 h 8 = 1)
    (hc : c = crc32c (h ++ y)) : imageOk ((h ++ beBytes 4 c) ++ y) = true := by
  have low : ∀ (i : Nat) (r : List Byte), i + 4 ≤ 60 → u32 (h ++ r) i = u32 h i := by
    intro i r hi
    rw [u32, beAt, u32, beAt, List.drop_append_of_le_length (by omega), List.take_append_of_le_length (by simp; omega)]
  have a : ((h ++ beBytes 4 c) ++ y).take 60 = h := by rw [List.append_assoc]; exact List.take_left' hl
  have b : ((h ++ beBytes 4 c) ++ y).drop 64 = y := List.drop_left' (by simp [hl])
  have d : u32 ((h ++ beBytes 4 c) ++ y) 60 = c := by
    rw [u32, beAt, List.append_assoc, List.drop_left' hl, List.take_left' (beBytes_length 4 c), ofBe_beBytes, hc]
    exact Nat.mod_eq_of_lt (crc32c_lt _)
  rw [imageOk, a, b, d, List.append_assoc, low 0 _ (by decide), low 8 _ (by decide), h0, h1, ← hc]
  simp

theorem hyps_Compression_restore : restoreCtx.ps.save = some (1, 640) ∧ restoreCtx.isRunning 0x0A02 = true ∧
    imageOk (restoreCtx.dramRead 640 32832) = true ∧ restoreCtx.compressing 1 = false := by
  refine ⟨rfl, by decide +kernel, ?_, by decide +kernel⟩
  have hl : ctxHead.length = 60 := by decide +kernel
  have hx : (ctxHead ++ beBytes 4 ctxCrc).length + 32768 = 32832 := by rw [List.length_append, hl, beBytes_length]
  have e : restoreCtx.dramRead 640 32832 = (ctxHead ++ beBytes 4 ctxCrc) ++ List.replicate 32768 0 := by
    rw [← hx]
    exact head_read _ _ _
  rw [e]
  exact image_stands _ _ _ hl (by decide +kernel) (by decide +kernel) rfl

/-- A commissioned image as both of its users see it: a commit that writes it, and Region S that loads its copy 0. -/
def commitS : State := { R with safe := { R.safe with commit := some simgOk } }
def loadS : State := { R with flash := cellsAt (safeAddr 0) simgOk, safe := { R.safe with loaded := false } }

theorem simg_length : simg.length = 4652 := by decide +kernel

theorem simg_take : (simg.take 4648).length = 4648 := by rw [List.length_take, simg_length]; rfl

theorem simgOk_length : simgOk.length = 4652 := by
  rw [simgOk, List.length_append, simg_take, beBytes_length]

theorem hyps_Commissioning_commitEnd : simgOk.length = 4652 ∧ commitS.safe.commit = some simgOk := ⟨simgOk_length, rfl⟩

theorem simgOk_ok : safeCopyOk simgOk = true := by
  have := tail_crc (simg.take 4648) 4648 (crc32c (simg.take 4648)) simg_take
  rw [Nat.mod_eq_of_lt (crc32c_lt _)] at this
  rw [safeCopyOk, simgOk, this]
  simp

theorem loadS_copy0 : loadS.safeCopy 0 = simgOk := by
  have := spGetList_cellsAt flashDflt simgOk [] (safeAddr 0) 0 4652 (by rw [simgOk_length])
  rw [Nat.add_zero, List.append_nil, List.drop_zero, List.take_of_length_le (by rw [simgOk_length])] at this
  exact this

theorem loadS_copy1 : loadS.safeCopy 1 = List.replicate 4652 0xFF := by
  refine spGetList_unlisted 0xFF _ _ _ (fun e he => .inl ?_)
  have := (mem_cellsAt _ _ _ he).2
  rw [simgOk_length] at this
  simp only [safeAddr] at this ⊢
  omega

theorem hyps_Commissioning_load : loadS.safe.loaded = false ∧ loadS.domOn 68 = true ∧ safeCopyOk (loadS.safeCopy 0) = true ∧ limiterOk (loadS.safeCopy 0) = true ∧
    (safeCopyOk (loadS.safeCopy 1) = false ∨ imgGen (loadS.safeCopy 1) < imgGen (loadS.safeCopy 0)) := by
  rw [loadS_copy0, loadS_copy1]
  exact ⟨rfl, by decide +kernel, simgOk_ok, by decide +kernel, .inl (by decide +kernel)⟩

/-! ### Witnesses of conditions that no Boolean decides -/

theorem hyps_Diagnostics_capture : (zeros 12).length = 12 ∧ (List.replicate 163840 (0 : Byte)).length = 163840 :=
  ⟨rfl, List.length_replicate⟩

theorem hyps_Commissioning_noSession (c : Instr)
    (hc : c = .commissionAbort .spi 0 5 ∨ c = .fieldWrite .spi 0 5 16 3 (zeros 32) ∨ c = .safetyParamWrite .spi 0 5 0 0 ∨ c = .commissionCommit .spi 0 5 0) :
    ∃ p, asPacket c = some p ∧ R.takes p = true ∧ ∀ x, ¬ ((R.seen p).safe.session = some x ∧ x.port = .spi ∧ x.num = 5) := by
  have none : ∀ p : Pkt, (R.seen p).safe.session = none → ∀ x, ¬ ((R.seen p).safe.session = some x ∧ x.port = .spi ∧ x.num = 5) := by
    intro p h x hx
    rw [h] at hx
    cases hx.1
  rcases hc with rfl | rfl | rfl | rfl <;> exact ⟨_, rfl, by decide +kernel, none _ (by decide +kernel)⟩

theorem hyps_Diagnostics_read : ∃ p, asPacket (.recorderRead .spi 0 1) = some p ∧ (Rslot 4).takes p = true ∧
    (((Rslot 4).seen p).domOn 68 = true ∧ (∃ c, (1, c) ∈ ((Rslot 4).seen p).rcd.slots) ∧ ((Rslot 4).seen p).rangeBusy 0x0902 = false) :=
  ⟨_, rfl, by decide +kernel, by decide +kernel, ⟨capA, by decide +kernel⟩, by decide +kernel⟩

theorem hyps_Diagnostics_empty : ∃ p, asPacket (.recorderRead .spi 0 0) = some p ∧ R.takes p = true ∧
    ((R.seen p).domOn 68 = true ∧ ∀ c, (0, c) ∉ (R.seen p).rcd.slots) :=
  ⟨_, rfl, by decide +kernel, by decide +kernel, fun _ h => nomatch h⟩

theorem hyps_Diagnostics_monitorOff : (Instr.monRd 0 1 = .monId ∨ ∃ a n, Instr.monRd 0 1 = .monRd a n) ∧ ¬ ((R.setFlag F.MON.MON_CTRL_EN false).flag F.MON.MON_CTRL_EN = true ∧ (R.setFlag F.MON.MON_CTRL_EN false).firmwareRuns = true) :=
  ⟨.inr ⟨0, 1, rfl⟩, by decide +kernel⟩

theorem hyps_Diagnostics_noSession : (∃ a n, Instr.monRd 0 1 = .monRd a n) ∧
    (Rmon.flag F.MON.MON_CTRL_EN = true ∧ Rmon.firmwareRuns = true) ∧ Rmon.flag F.MON.MON_STAT_SESSION = false :=
  ⟨⟨0, 1, rfl⟩, by decide +kernel⟩

theorem hyps_FusionMaps_angle : ∃ a, colB.angle = some a := ⟨_, rfl⟩

theorem hyps_SafetyOutputs_invalid : (∃ i < 8, (16 : Nat).testBit i = true ∧ ((R.set F.SAF.SAFE_INVALID_CAUSE 0).get F.SAF.SAFE_INVALID_CAUSE).testBit i = false) ∧
    (∀ i < 8, (16 : Nat).testBit i = true → ((R.set F.SAF.SAFE_INVALID_CAUSE 16).get F.SAF.SAFE_INVALID_CAUSE).testBit i = true) :=
  ⟨⟨4, by decide, by decide +kernel⟩, by decide +kernel⟩

/-- A state with protective field 3 enabled. -/
def Rfield : State := { Rconf.set F.SAF.SAFE_INVALID_CAUSE 0 with safe := { Rconf.safe with cfg := some (patchBytes simgOk (fieldOff 3) [3, 0, 0, 0, 1]) } }

theorem hyps_SafetyOutputs_field : (∃ i < 8, (16 : Nat).testBit i = true ∧ (Rfield.get F.SAF.SAFE_INVALID_CAUSE).testBit i = false) ∧ Rfield.fieldOn 3 = true :=
  ⟨⟨4, by decide, by decide +kernel⟩, by decide +kernel⟩

theorem hyps_Thermal_rising :
    ∀ i < 3, (0 : Int) ≤ 16 * ((({ R with th := { R.th with sensors := [(0, (⟨2, [1, 1, 1], [none, none, none]⟩ : SensorSt))] } } : State).thresholds 0).1.getD i 0 : Int) := by
  decide +kernel

/-- An Announce of 64 zero bytes, with no master known and with one whose source it names. -/
theorem hyps_TimeAndSync_announce :
    let s := R.setFlag F.ETH.ETH_STAT_LINK true
    let b : List Byte := [0xB] ++ zeros 63
    let t : State := { s with tb := { s.tb with master := some ([], zeros 10) } }
    (64 ≤ b.length ∧ u8 b 0 % 16 = 0xB ∧ u8 b 4 = 0) ∧
    (s.ethUp = true ∧ (s.tb.master = none ∨ ∃ k q, s.tb.master = some (k, q) ∧ (q = (b.drop 20).take 10 ∨ keyLess (announceKey b) k = true))) ∧
    t.ethUp = true ∧ ∃ k q, t.tb.master = some (k, q) ∧ (q = (b.drop 20).take 10 ∨ keyLess (announceKey b) k = true) :=
  ⟨by decide +kernel, ⟨by decide +kernel, .inl rfl⟩, by decide +kernel, _, _, rfl, .inl (by decide +kernel)⟩


/-! ### The hypotheses of each obligation -/

/-- States and operands that meet the hypotheses of the clauses of Obligations.StepRunsFront. -/
theorem hyps_StepRunsFront : [
  (let S : State := { R with pending := [.ping .spi 0] }; let s : State := S; let c : Instr := .ping .spi 0; let rest : List Instr := []; decide ((s.pending = c :: rest)))].all id = true := by decide +kernel

/-- States and operands that meet the hypotheses of the clauses of Obligations.StepTicksTime. -/
theorem hyps_StepTicksTime : [
  (let S : State := R; let s : State := S; decide ((s.pending = [])))].all id = true := by decide +kernel

/-- States and operands that meet the hypotheses of the clauses of Obligations.CommandTaken. -/
theorem hyps_CommandTaken : [
  (let S : State := R; let c : Instr := .ping .spi 0; let s : State := S; let p : Pkt := (asPacket c).getD ⟨.spi, 0, 0, []⟩; let u : State := s.seen p; decide ((asPacket c = some p ∧ s.takes p = true ∧ u = s.seen p)))].all id = true := by decide +kernel

/-- States and operands that meet the hypotheses of the clauses of Obligations.PacketIsCommand. -/
theorem hyps_PacketIsCommand : [
  (let S : State := R; let c : Instr := .ping .spi 0; let p : Pkt := ⟨.spi, 0, 1, []⟩; let s : State := S; let junk : List Byte := []; decide ((c.wellFormed = true) ∧ (asPacket c = some p) ∧ (p.via = .spi) ∧ (s.hears .spi = true))),
  (let S : State := upd (Rst .ready) [(F.ETH.ETH_STAT_LINK, 1)]; let c : Instr := .ping (.udp ⟨0xC0A80002, 5000⟩) 0; let p : Pkt := ⟨.udp ⟨0xC0A80002, 5000⟩, 0, 1, []⟩; let q : Peer := ⟨0xC0A80002, 5000⟩; let s : State := S; decide ((c.wellFormed = true) ∧ (asPacket c = some p) ∧ (p.via = .udp q) ∧ (s.hears (.udp q) = true)))].all id = true := by decide +kernel

/-- States and operands that meet the hypotheses of the clauses of Obligations.SequenceRules. -/
theorem hyps_SequenceRules : [
  (let S : State := R; let s : State := S; let via : Port := .spi; let seq : BitVec 16 := 0; let op : Nat := 1; let d : List Byte := []; decide ((s.hasPort via = true) ∧ (op ≠ 0x0004) ∧ (((s.session via).known = false ∨ seq = (s.session via).expSeq)))),
  (let S : State := { R with cmd := { R.cmd with spi := { R.cmd.spi with known := true, expSeq := 5 } } }; let s : State := S; let via : Port := .spi; let seq : BitVec 16 := 4; let op : Nat := 1; let d : List Byte := []; decide ((s.hasPort via = true) ∧ (op ≠ 0x0004) ∧ ((s.session via).known = true) ∧ (65520 ≤ (seq - (s.session via).expSeq).toNat))),
  (let S : State := { R with cmd := { R.cmd with spi := { R.cmd.spi with known := true, expSeq := 5, cache := [⟨4, 1, .final ⟨0, 0, 0, []⟩⟩] } } }; let s : State := S; let via : Port := .spi; let seq : BitVec 16 := 4; let op : Nat := 1; let d : List Byte := []; let e := (⟨4, 1, .final ⟨0, 0, 0, []⟩⟩ : CacheEnt); let a := (⟨0, 0, 0, []⟩ : Answer); decide ((s.hasPort via = true) ∧ (op ≠ 0x0004) ∧ ((s.session via).known = true) ∧ (65520 ≤ (seq - (s.session via).expSeq).toNat) ∧ ((s.session via).cache.find? (fun x => x.seq == seq) = some e) ∧ (e.op = op) ∧ (e.ans = .final a))),
  (let S : State := { R with cmd := { R.cmd with spi := { R.cmd.spi with known := true, expSeq := 5 } } }; let s : State := S; let via : Port := .spi; let seq : BitVec 16 := 8; let op : Nat := 1; let d : List Byte := []; decide ((s.hasPort via = true) ∧ (op ≠ 0x0004) ∧ ((s.session via).known = true) ∧ (0 < (seq - (s.session via).expSeq).toNat) ∧ ((seq - (s.session via).expSeq).toNat ≤ 32767))),
  (let S : State := R; let s : State := S; let via : Port := .spi; let seq : BitVec 16 := 8; let op : Nat := 4; let d : List Byte := []; decide ((s.hasPort via = true) ∧ (op = 0x0004)))].all id = true := by decide +kernel

/-- States and operands that meet the hypotheses of the clauses of Obligations.ReplyForm. -/
theorem hyps_ReplyForm : [
  (let S : State := R; let s : State := S; let op : Nat := 0; let seq : BitVec 16 := 0; let a : Answer := ⟨0, 0, 0, []⟩; decide ((s.cmd.resend = []))),
  (let S : State := { R with cmd := { R.cmd with running := [⟨0x0805, .spi, 7, 0⟩] } }; let s : State := S; let op : Nat := 0x0805; let st : Nat := 0; let dt : Nat := 0; let data : List Byte := []; let r : Running := ⟨0x0805, .spi, 7, 0⟩; decide ((s.cmd.running.find? (fun r => r.op == op) = some r) ∧ (r.port = .spi)))].all id = true := by decide +kernel

/-- States and operands that meet the hypotheses of the clauses of Obligations.StatusSet. -/
theorem hyps_StatusSet : [
  (let S : State := R; let via : Port := .spi; let seq : BitVec 16 := 0; runsAt ((.ping via seq)) S (fun s => decide (((fun _ => True)) s))),
  (let S : State := R; let via : Port := .spi; let seq : BitVec 16 := 0; runsAt ((.identify via seq)) S (fun s => decide (((fun _ => True)) s))),
  (let S : State := R; let via : Port := .spi; let seq : BitVec 16 := 0; runsAt ((.status via seq)) S (fun s => decide (((fun _ => True)) s))),
  (let S : State := R; let via : Port := .spi; let seq : BitVec 16 := 0; runsAt ((.sessionReset via seq)) S (fun s => decide (((fun _ => True)) s))),
  (let S : State := { R with cmd := { R.cmd with spi := { R.cmd.spi with known := true, expSeq := 5, cache := [⟨4, 1, .final ⟨0, 0, 0, []⟩⟩] } } }; let via : Port := .spi; let seq : BitVec 16 := 5; let target : BitVec 16 := 4; let e : CacheEnt := ⟨4, 1, .final ⟨0, 0, 0, []⟩⟩; let a : Answer := ⟨0, 0, 0, []⟩; runsAt ((.cmdStatus via seq target)) S (fun s => decide (((fun u => (u.session via).cache.find? (fun x => x.seq.toNat == target.toNat) = some e ∧ e.ans = .final a)) s))),
  (let S : State := R; let via : Port := .spi; let seq : BitVec 16 := 0; runsAt ((.safetyStatus via seq)) S (fun s => decide (((fun _ => True)) s))),
  (let S : State := R; let via : Port := .spi; let seq : BitVec 16 := 0; let first : BitVec 16 := 0; let count : BitVec 16 := 32; decide ((1 ≤ count.toNat) ∧ (count.toNat ≤ 32)) && runsAt ((.faultLogRead via seq first count)) S (fun s => decide (((fun _ => True)) s)))].all id = true := by decide +kernel

/-- States and operands that meet the hypotheses of the clauses of Obligations.BlockReads. -/
theorem hyps_BlockReads : [
  (let S : State := R; let via : Port := .spi; let seq : BitVec 16 := 0; let profile : Byte := 0; decide ((profile.toNat ≤ 3 ∨ profile = 0xFF)) && runsAt ((.profileRead via seq profile)) S (fun s => decide (((fun _ => True)) s))),
  (let S : State := R; let S : State := S.setFlag (domBit 0x120 68) true; let via : Port := .spi; let seq : BitVec 16 := 0; runsAt ((.limiterRead via seq)) S (fun s => decide (((fun u => u.domOn 68 = true)) s))),
  (let S : State := R; let S : State := S.setFlag (domBit 0x120 67) true; let via : Port := .spi; let seq : BitVec 16 := 0; let loop : Byte := 0; decide ((loop.toNat ≤ 7)) && runsAt ((.loopRead via seq loop)) S (fun s => decide (((fun u => u.domOn 67 = true)) s))),
  (let S : State := R; let S : State := S.setFlag (domBit 0x120 77) true; let via : Port := .spi; let seq : BitVec 16 := 0; let port : Byte := 0; decide ((port.toNat ≤ 2)) && runsAt ((.linkStatus via seq port)) S (fun s => decide (((fun u => u.domOn 77 = true)) s))),
  (let S : State := R; let S : State := S.setFlag (domBit 0x120 78) true; let via : Port := .spi; let seq : BitVec 16 := 0; runsAt ((.timeRead via seq)) S (fun s => decide (((fun u => u.domOn 78 = true)) s))),
  (let S : State := R; let via : Port := .spi; let seq : BitVec 16 := 0; runsAt ((.thermalRead via seq)) S (fun s => decide (((fun _ => True)) s))),
  (let S : State := R; let via : Port := .spi; let seq : BitVec 16 := 0; let record : BitVec 16 := 0; decide ((record.toNat ≤ 255)) && runsAt ((.calRecordRead via seq record)) S (fun s => decide (((fun _ => True)) s))),
  (let S : State := R; let S : State := S.setFlag (domBit 0x120 79) true; let via : Port := .spi; let seq : BitVec 16 := 0; runsAt ((.classCountersRead via seq)) S (fun s => decide (((fun u => u.domOn 79 = true)) s))),
  (let S : State := R; let via : Port := .spi; let seq : BitVec 16 := 0; let addr : BitVec 32 := 0; let n : BitVec 16 := 1024; decide ((1 ≤ n.toNat) ∧ (n.toNat ≤ 1024) ∧ (addr.toNat + n.toNat ≤ 0x1000000) ∧ ((addr.toNat + n.toNat ≤ 0xF20000 ∨ 0xF40000 ≤ addr.toNat))) && runsAt ((.flashRead via seq addr n)) S (fun s => decide (((fun _ => True)) s))),
  (let S : State := R; let via : Port := .spi; let seq : BitVec 16 := 0; runsAt ((.fwInfo via seq)) S (fun s => decide (((fun _ => True)) s)))].all id = true := by decide +kernel

/-- States and operands that meet the hypotheses of the clauses of Obligations.RegisterReads. -/
theorem hyps_RegisterReads : [
  (let S : State := R; let via : Port := .spi; let seq : BitVec 16 := 0; let a : BitVec 32 := 0; decide ((a.toNat % 4 = 0) ∧ (oneBlock a.toNat 1 = true) ∧ (isStatusWord a.toNat = false) ∧ (a.toNat ≠ F.TB.TB_TIME_LO.addr) ∧ (a.toNat ≠ (F.CAM.CSI_STAT_PHY_HS 0).addr) ∧ (a.toNat ≠ (F.CAM.CSI_STAT_PHY_HS 1).addr)) && runsAt ((.regRead via seq a 1)) S (fun s => decide (((fun u => u.touchesOff a.toNat 1 = false)) s))),
  (let S : State := R; let via : Port := .spi; let seq : BitVec 16 := 0; let a : BitVec 32 := 0x6000080; decide ((a.toNat % 4 = 0) ∧ (oneBlock a.toNat 1 = true) ∧ (isStatusWord a.toNat = true)) && runsAt ((.regRead via seq a 1)) S (fun s => decide (((fun u => u.touchesOff a.toNat 1 = false)) s))),
  (let S : State := R; let via : Port := .spi; let seq : BitVec 16 := 0; let a : BitVec 32 := 0x6000100; let n : BitVec 16 := 8; decide ((a.toNat % 4 = 0) ∧ (1 ≤ n.toNat) ∧ (n.toNat ≤ 256) ∧ (oneBlock a.toNat n.toNat = true)) && runsAt ((.regRead via seq a n)) S (fun s => decide (((fun u => u.touchesOff a.toNat n.toNat = false)) s))),
  (let S : State := R; let S : State := S.setFlag (domBit 0x120 66) true; let via : Port := .spi; let seq : BitVec 16 := 0; runsAt ((.tbTimeLoRead via seq)) S (fun s => decide (((fun u => u.domOn 66 = true)) s)))].all id = true := by decide +kernel

/-- States and operands that meet the hypotheses of the clauses of Obligations.RegisterWrites. -/
theorem hyps_RegisterWrites : [
  (let S : State := R; let via : Port := .spi; let seq : BitVec 16 := 0; let a : BitVec 32 := 0x20000; let vs : List Word := [1]; decide ((a.toNat % 4 = 0) ∧ (1 ≤ vs.length) ∧ (vs.length ≤ 256) ∧ (oneBlock a.toNat vs.length = true) ∧ ((wordAddrs a.toNat vs.length).any lockedWord = false)) && runsAt ((.regWrite via seq a vs)) S (fun s => decide (((fun u => u.touchesOff a.toNat vs.length = false ∧ u.writeRefused a.toNat vs = false)) s))),
  (let S : State := R; let s : State := S; let a : Nat := 0x6000010; let v : Word := 0; let f : RegFld := (fieldsAt 0x6000010).headD ⟨0, 32, .rw, 0, 0, 0, []⟩; decide ((f ∈ fieldsAt a) ∧ (f.acc = .rw))),
  (let S : State := R; let s : State := S; let a : Nat := 0x6000080; let v : Word := 0; let f : RegFld := ⟨0, 32, .st, 0, 0, 0, []⟩; decide ((f ∈ fieldsAt a) ∧ (f.acc = .ro ∨ f.acc = .wo ∨ f.acc = .st))),
  (let S : State := R; let c : Instr := .regWrite .spi 0 0x5000010 [1]; let s : State := S; let p : Pkt := (asPacket c).getD ⟨.spi, 0, 0, []⟩; let u : State := s.seen p; let a : BitVec 32 := 0x5000010; let vs : List Word := [1]; decide ((c = .regWrite p.via p.seq a vs) ∧ (asPacket c = some p ∧ s.takes p = true ∧ u = s.seen p) ∧ ((wordAddrs a.toNat vs.length).any lockedWord = true)))].all id = true := by decide +kernel

/-- States and operands that meet the hypotheses of the clauses of Obligations.RegisterRmw. -/
theorem hyps_RegisterRmw : [
  (let S : State := R; let via : Port := .spi; let seq : BitVec 16 := 0; let a : BitVec 32 := 0; let mask : BitVec 32 := 0; let value : BitVec 32 := 0; decide ((a.toNat % 4 = 0) ∧ (oneBlock a.toNat 1 = true) ∧ (lockedWord a.toNat = false)) && runsAt ((.regRmw via seq a mask value)) S (fun s => decide (((fun u => u.touchesOff a.toNat 1 = false ∧ u.writeRefused a.toNat [BitVec.ofNat 32 (rmwWord (fieldsAt a.toNat) (u.view a.toNat) mask.toNat value.toNat)] = false)) s))),
  (let fs : List RegFld := []; let old : Nat := 0; let mask : Nat := 0; let value : Nat := 0; decide ((clearBits fs = 0) ∧ (old < 2 ^ 32))),
  (let fs : List RegFld := fieldsAt 0x20010; let old : Nat := 0; let mask : Nat := 0; let value : Nat := 0; let i : Nat := 1; decide ((clearBits fs < 2 ^ 32) ∧ (i < 32) ∧ ((clearBits fs).testBit i = true) ∧ (mask.testBit i = false)))].all id = true := by decide +kernel

/-- States and operands that meet the hypotheses of the clauses of Obligations.EventRaising. -/
theorem hyps_EventRaising : [
  (let S : State := R; let s : State := S; let n : Nat := 0; let inst : Nat := 0; let dat : Nat := 0; decide ((n < 256))),
  (let S : State := R; let s : State := S; let n : Nat := ((List.range 256).find? (fun n => 0 < S.evClass n)).getD 0; let inst : Nat := 0; let dat : Nat := 0; decide ((n < 256) ∧ (0 < s.evClass n))),
  (let S : State := R; let s : State := S; let n : Nat := 0; let inst : Nat := 0; let dat : Nat := 0; decide ((n < 256) ∧ (s.evClass n = 0))),
  (let S : State := R; let c : Instr := .eventSubscribe .spi 0 1; let s : State := S; let p : Pkt := (asPacket c).getD ⟨.spi, 0, 0, []⟩; let u : State := s.seen p; let mask : BitVec 256 := 1; decide ((c = .eventSubscribe p.via p.seq mask) ∧ (asPacket c = some p ∧ s.takes p = true ∧ u = s.seen p)))].all id = true := by decide +kernel

/-- States and operands that meet the hypotheses of the clauses of Obligations.EventPackets. -/
theorem hyps_EventPackets : [
  (let S : State := { R with cmd := { R.cmd with spi := { R.cmd.spi with evs := [⟨2, 1, 0, 0, 0, 0⟩] }, oazil := { R.cmd.oazil with evs := [⟨2, 1, 0, 0, 0, 0⟩] }, udp := [⟨⟨0xC0A80002, 5000⟩, { R.cmd.spi with evs := [⟨2, 1, 0, 0, 0, 0⟩] }⟩] } }; decide ((((fun s => s.cmd.spi.evs.isEmpty = false ∧ 24 + 16 * (s.cmd.spi.evs.take 32).length ≤ s.outFree)) S))),
  (let S : State := (let s : State := { R with cmd := { R.cmd with spi := { R.cmd.spi with evs := [⟨2, 1, 0, 0, 0, 0⟩] }, oazil := { R.cmd.oazil with evs := [⟨2, 1, 0, 0, 0, 0⟩] }, udp := [⟨⟨0xC0A80002, 5000⟩, { R.cmd.spi with evs := [⟨2, 1, 0, 0, 0, 0⟩] }⟩] } }; { s with cmd := { s.cmd with outq := List.replicate 9 (zeros 2000) } }); decide ((((fun s => s.cmd.spi.evs.isEmpty = false ∧ s.outFree < 24 + 16 * (s.cmd.spi.evs.take 32).length)) S))),
  (let S : State := R; let via : Port := .spi; let S : State := S.setSession via { S.session via with evs := [] }; decide ((((fun s => (s.session via).evs.isEmpty = true)) S))),
  (let S : State := upd ({ R with cmd := { R.cmd with spi := { R.cmd.spi with evs := [⟨2, 1, 0, 0, 0, 0⟩] }, oazil := { R.cmd.oazil with evs := [⟨2, 1, 0, 0, 0, 0⟩] }, udp := [⟨⟨0xC0A80002, 5000⟩, { R.cmd.spi with evs := [⟨2, 1, 0, 0, 0, 0⟩] }⟩] } }) [(F.OZ.LINK_STAT_STATE 0, 2)]; decide ((((fun s => s.cmd.oazil.evs.isEmpty = false ∧ s.transportUp .oazil = true)) S))),
  (let S : State := upd ({ R with cmd := { R.cmd with spi := { R.cmd.spi with evs := [⟨2, 1, 0, 0, 0, 0⟩] }, oazil := { R.cmd.oazil with evs := [⟨2, 1, 0, 0, 0, 0⟩] }, udp := [⟨⟨0xC0A80002, 5000⟩, { R.cmd.spi with evs := [⟨2, 1, 0, 0, 0, 0⟩] }⟩] } }) [(F.ETH.ETH_STAT_LINK, 1)]; let q : Peer := ⟨0xC0A80002, 5000⟩; decide ((((fun s => (s.session (.udp q)).evs.isEmpty = false ∧ s.transportUp (.udp q) = true)) S)))].all id = true := by decide +kernel

/-- States and operands that meet the hypotheses of the clauses of Obligations.SpiFrames. -/
theorem hyps_SpiFrames : [
  (let S : State := { R with cmd := { R.cmd with outq := [[1, 2, 3]] } }; let n := 5; decide ((((fun s => s.sleeps = false ∧ s.pw.st ≠ .off)) S))),
  (let S : State := R; let s : State := S; decide ((s.cmd.outq = []))),
  (let S : State := { R with cmd := { R.cmd with outq := [[1, 2, 3]] } }; let s : State := S; let p : List Byte := [1, 2, 3]; let r : List (List Byte) := []; decide ((s.cmd.outq = p :: r))),
  (let S : State := R; let b : Byte := 0; decide ((b ≠ 0x5A) ∧ (b ≠ 0xA5) ∧ (((fun s => s.sleeps = false ∧ s.hears .spi = true)) S))),
  (let S : State := R; let bytes : List Byte := []; decide ((bytes.length < 12) ∧ (((fun s => s.sleeps = false ∧ s.hears .spi = true)) S))),
  (let S : State := R; let bytes : List Byte := zeros 12; decide ((12 ≤ bytes.length) ∧ (headerOk bytes = false) ∧ (((fun s => s.sleeps = false ∧ s.hears .spi = true)) S))),
  (let S : State := R; let bytes : List Byte := ((packet 0 1 1 0 (zeros 4)).take 13); decide ((headerOk bytes = true) ∧ (u16 bytes 8 ≤ 2048) ∧ (bytes.length < packetBytes bytes) ∧ (((fun s => s.sleeps = false ∧ s.hears .spi = true)) S))),
  (let S : State := upd R [(F.ETH.ETH_STAT_LINK, 1)]; let q : Peer := ⟨0xC0A80002, 5000⟩; let bytes : List Byte := zeros 12; decide ((headerOk bytes = false) ∧ (((fun s => s.hears (.udp q) = true)) S))),
  (let S : State := R; let f : Fld := F.CMD.HDR_ERR; let s : State := S; decide ((f = F.CMD.SPI_FRAME_ERR ∨ f = F.CMD.HDR_ERR ∨ f = F.CMD.CRC_ERR)))].all id = true := by decide +kernel

/-- States and operands that meet the hypotheses of the clauses of Obligations.PacketSteps. -/
theorem hyps_PacketSteps : [
  (let S : State := R; let bytes : List Byte := (let h : List Byte := [0xB7, 1, 0, 1, 0, 1, 0, 0, 0xFF, 0xFF]; h ++ beBytes 2 (hcheck h)); decide ((headerOk bytes = true) ∧ (2048 < u16 bytes 8) ∧ (((fun s => s.sleeps = false ∧ s.hears .spi = true ∧ s.unanswered .spi < 16)) S))),
  (let S : State := R; let bytes : List Byte := (packet 0 1 1 0 []).take 12 ++ zeros 4; decide ((headerOk bytes = true) ∧ (u16 bytes 8 ≤ 2048) ∧ (packetBytes bytes ≤ bytes.length) ∧ (((fun s => s.sleeps = false ∧ s.hears .spi = true ∧ s.unanswered .spi < 16 ∧ beAt bytes (packetBytes bytes - 4) 4 ≠ crc32c (bytes.take (packetBytes bytes - 4)))) S))),
  (let S : State := R; let bytes : List Byte := packet 0 2 1 0 []; decide ((headerOk bytes = true) ∧ (u16 bytes 8 ≤ 2048) ∧ (packetBytes bytes ≤ bytes.length) ∧ (((fun s => s.sleeps = false ∧ s.hears .spi = true ∧ s.unanswered .spi < 16 ∧ beAt bytes (packetBytes bytes - 4) 4 = crc32c (bytes.take (packetBytes bytes - 4)) ∧ u8 bytes 3 ≠ 1)) S))),
  (let S : State := R; let bytes : List Byte := (let h : List Byte := [0xB7, 2, 0, 1, 0, 1, 0, 0, 0, 0]; let g := h ++ beBytes 2 (hcheck h); g ++ beBytes 4 (crc32c g)); decide ((headerOk bytes = true) ∧ (u16 bytes 8 ≤ 2048) ∧ (packetBytes bytes ≤ bytes.length) ∧ (((fun s => s.sleeps = false ∧ s.hears .spi = true ∧ s.unanswered .spi < 16 ∧ beAt bytes (packetBytes bytes - 4) 4 = crc32c (bytes.take (packetBytes bytes - 4)) ∧ u8 bytes 3 = 1 ∧ u8 bytes 1 ≠ 1)) S)))].all id = true := by decide +kernel

/-- States and operands that meet the hypotheses of the clauses of Obligations.ResetSources. -/
theorem hyps_ResetSources : [
  (let S : State := R; let S : State := { S with pw.st := .off }; decide ((((fun s => s.pw.st = .off)) S))),
  (let S : State := R; decide ((((fun s => s.pw.st ≠ .off)) S))),
  (let S : State := R; let r : Fin 9 := 1; decide ((r ≠ 0) ∧ (((fun s => s.pw.st ≠ .off ∧ s.pw.st ≠ .dormant)) S))),
  (let S : State := R; let S : State := { S with pw.st := .booting }; let S : State := { S with pw.boot.phase := .rails }; let b : BitVec 2 := 0; decide ((((fun s => s.pw.st = .booting ∧ s.pw.boot.phase = .rails)) S))),
  (let S : State := R; let ns : Nat := 1000; decide ((1000 ≤ ns) ∧ (((fun s => s.pw.st = .ready ∨ s.pw.st = .scanning ∨ s.pw.st = .safeHold)) S))),
  (let S : State := R; let S : State := { S with pw.st := .thermalLatch }; let ns : Nat := 1000; decide ((1000 ≤ ns) ∧ (((fun s => s.pw.st = .thermalLatch)) S))),
  (let S : State := R; let ns : Nat := 0; decide ((ns < 200) ∧ (((fun _ => True)) S))),
  (let S : State := R; let S : State := { S with pw.st := .ready }; let ns : Nat := 200; decide ((200 ≤ ns) ∧ (ns < 1000) ∧ (((fun s => s.pw.st = .ready)) S))),
  (let S : State := R; decide ((((fun s => s.firmwareRuns = true)) S))),
  (let S : State := R; let S : State := { S with pw.rebootPend := true }; decide ((((fun s => s.pw.rebootPend = true)) S))),
  (let S : State := R; let S : State := { S with pw.rebootPend := false }; decide ((((fun s => s.pw.rebootPend = false)) S)))].all id = true := by decide +kernel

/-- States and operands that meet the hypotheses of the clauses of Obligations.DormantAndWake. -/
theorem hyps_DormantAndWake : [
  (let S : State := R; let c : Instr := .dormant .spi 0; let s : State := S; let p : Pkt := (asPacket c).getD ⟨.spi, 0, 0, []⟩; let u : State := s.seen p; decide ((c = .dormant p.via p.seq) ∧ (asPacket c = some p ∧ s.takes p = true ∧ u = s.seen p) ∧ (u.pw.st = .ready))),
  (let S : State := Rst .scanning; let via : Port := .spi; let seq : BitVec 16 := 0; runsAt ((.dormant via seq)) S (fun s => decide (((fun u => u.pw.st ≠ .ready)) s))),
  (let S : State := R; let c : Instr := .reboot .spi 0; let s : State := S; let p : Pkt := (asPacket c).getD ⟨.spi, 0, 0, []⟩; let u : State := s.seen p; decide ((c = .reboot p.via p.seq) ∧ (asPacket c = some p ∧ s.takes p = true ∧ u = s.seen p))),
  (let S : State := R; let S : State := { S with pw.st := .ready }; let S : State := { S with pw.dormPend := some .spi }; decide ((((fun s => s.pw.st = .ready ∧ s.pw.dormPend.isSome = true)) S))),
  (let S : State := R; decide ((((fun s => s.pw.st ≠ .ready ∨ s.pw.dormPend = none)) S))),
  (let S : State := R; let S : State := { S with pw.st := .dormantEntry }; let S : State := { S with pw.wakeLatched := none }; decide ((((fun s => s.pw.st = .dormantEntry ∧ s.pw.wakeLatched = none)) S))),
  (let S : State := R; let src : BitVec 2 := 0; let S : State := { S with pw.st := .dormantEntry }; let S : State := { S with pw.wakeLatched := some src }; decide ((((fun s => s.pw.st = .dormantEntry ∧ s.pw.wakeLatched = some src)) S))),
  (let S : State := R; let S : State := { S with pw.st := .dormant }; let src : BitVec 2 := 0; decide ((src ≠ 3) ∧ (((fun s => s.pw.st = .dormant)) S))),
  (let S : State := R; let S : State := { S with pw.st := .dormantEntry }; let S : State := { S with pw.wakeLatched := none }; let src : BitVec 2 := 0; decide ((src ≠ 3) ∧ (((fun s => s.pw.st = .dormantEntry ∧ s.pw.wakeLatched = none)) S))),
  (let S : State := R; let S : State := { S with pw.st := .dormantEntry }; let S : State := { S with pw.wakeLatched := (some 0) }; let src : BitVec 2 := 0; decide ((src ≠ 3) ∧ (((fun s => s.pw.st = .dormantEntry ∧ s.pw.wakeLatched ≠ none)) S))),
  (let S : State := R; let src : BitVec 2 := 0; decide ((src ≠ 3) ∧ (((fun s => s.pw.st = .ready ∨ s.pw.st = .scanning ∨ s.pw.st = .safeHold ∨ s.pw.st = .thermalLatch)) S)))].all id = true := by decide +kernel

/-- States and operands that meet the hypotheses of the clauses of Obligations.BootSequence. -/
theorem hyps_BootSequence : [
  (let S : State := R; let S : State := { S with pw.st := .booting }; let S : State := { S with pw.boot.phase := .rom }; let S : State := { S with pw.latchFlag := true }; decide ((((fun s => s.pw.st = .booting ∧ s.pw.boot.phase = .rom ∧ s.pw.latchFlag = true)) S))),
  (let S : State := R; let S : State := { S with pw.st := .booting }; let S : State := { S with pw.boot.phase := .rom }; let S : State := { S with pw.latchFlag := false }; let S : State := { S with pw.boot.strap := 1 }; decide ((((fun s => s.pw.st = .booting ∧ s.pw.boot.phase = .rom ∧ s.pw.latchFlag = false ∧ s.pw.boot.strap = 1)) S))),
  (let S : State := { Rboot .rom with flash := flashOf 0 (let b : List Byte := beBytes 4 0x42435452 ++ beBytes 4 7 ++ [1, 0, 0, 0]; b ++ beBytes 4 (crc32c b)) }; let copy : Nat := 0; let seq : Nat := 7; let active : Nat := 1; let trial : Bool := false; decide ((((fun s => s.pw.st = .booting ∧ s.pw.boot.phase = .rom ∧ s.pw.latchFlag = false ∧ s.pw.boot.strap ≠ 1 ∧ s.bootRecord = some (copy, seq, active, trial))) S))),
  (let S : State := { Rboot .verify with pw := { (Rboot .verify).pw with boot := { (Rboot .verify).pw.boot with order := [1] } } }; let fe : Bool := true; let f : Nat × Nat := (0x9C, 0); let n : Nat := 1; let rest : List Nat := []; decide ((((fun s => s.pw.boot.phase = .verify ∧ s.pw.boot.slot ≠ 2 ∧ (if fe = true then some (0x9C, 0) else s.imageFault s.pw.boot.slot) = some f ∧ s.pw.boot.order = n :: rest)) S))),
  (let S : State := Rboot .verify; let fe : Bool := true; let f : Nat × Nat := (0x9C, 0); decide ((((fun s => s.pw.boot.phase = .verify ∧ s.pw.boot.slot ≠ 2 ∧ (if fe = true then some (0x9C, 0) else s.imageFault s.pw.boot.slot) = some f ∧ s.pw.boot.order = [])) S))),
  (let S : State := R; let S : State := { S with pw.st := .booting }; let S : State := { S with pw.boot.phase := .selfTest }; let S : State := { S with pw.boot.group := (8) - 1 }; decide ((((fun s => s.pw.st = .booting ∧ s.pw.boot.phase = .selfTest ∧ s.pw.boot.group < 8)) S)))].all id = true := by decide +kernel

/-- States and operands that meet the hypotheses of the clauses of Obligations.ClockMonitoring. -/
theorem hyps_ClockMonitoring : [
  (let S : State := R; let k : Fin 7 := 0; let S : State := S.setBitAt F.SYS.CLK_STAT_LOCKED k true; decide ((((fun s => s.bitAt F.SYS.CLK_STAT_LOCKED k = true)) S))),
  (let S : State := R; let k : Fin 7 := 0; let S : State := S.setBitAt F.SYS.CLK_STAT_LOCKED k false; decide ((((fun s => s.bitAt F.SYS.CLK_STAT_LOCKED k = false)) S))),
  (let S : State := R; let k : Fin 7 := 0; decide ((((fun s => s.pllsWanted.testBit k = true)) S))),
  (let S : State := R; let dev : BitVec 16 := 0; decide ((dev.toInt.natAbs ≤ 300) ∧ (((fun _ => True)) S))),
  (let S : State := R; let S : State := { S with pw.clkBad := false }; let dev : BitVec 16 := 0x1000; decide ((300 < dev.toInt.natAbs) ∧ (((fun s => s.pw.clkBad = false)) S))),
  (let S : State := { R with pw := { R.pw with clkBad := true } }; let dev : BitVec 16 := 0x1000; decide ((300 < dev.toInt.natAbs) ∧ (((fun s => s.pw.clkBad = true ∧ s.causeActive EV_CLOCK_MONITOR = false)) S)))].all id = true := by decide +kernel

/-- States and operands that meet the hypotheses of the clauses of Obligations.DomainSwitching. -/
theorem hyps_DomainSwitching : [
  (let S : State := R; let via : Port := .spi; let seq : BitVec 16 := 0; let i : Fin 3 := 0; let v : BitVec 32 := 0; runsAt ((.pwrDomReqWrite via seq i v)) S (fun s => decide (((fun u => u.touchesOff ((0x110 + 4 * i.val)) (1) = false ∧ u.noStep (wordAddrs ((0x110 + 4 * i.val)) (1)) = true ∧ ((fun u => u.writeRefused (0x110 + 4 * i.val) [v] = false)) u)) s))),
  (let S : State := R; let d : Fin 80 := 0; let S : State := S.setFlag (domBit 0x120 d) false; decide ((((fun s => s.domainMay d = true ∧ s.domOn d = false)) S))),
  (let S : State := R; let d : Fin 80 := 0; decide ((((fun s => s.domainMay d = false ∨ s.domOn d = true)) S))),
  (let S : State := { R with pw := { R.pw with reload := [70] } }; let d : Fin 80 := 70; decide ((((fun s => s.pw.reload.contains d.val = true)) S))),
  (let S : State := R; let d : Fin 80 := 0; decide ((((fun s => s.pw.reload.contains d.val = false)) S)))].all id = true := by decide +kernel

/-- States and operands that meet the hypotheses of the clauses of Obligations.FirmwareUpdate. -/
theorem hyps_FirmwareUpdate : [
  (let S : State := R; let via : Port := .spi; let seq : BitVec 16 := 0; let slot : Byte := 1; let len : BitVec 32 := 576; decide ((slot.toNat ≤ 1) ∧ (len.toNat % 4 = 0) ∧ (576 ≤ len.toNat) ∧ (len.toNat ≤ 7340032)) && runsAt ((.fwBegin via seq slot len)) S (fun s => decide (((fun u => (u.pw.st = .ready ∨ u.pw.st = .safeHold) ∧ u.downloading = false ∧ (u.pw.romOnly = true ∨ u.pw.running ≠ slot))) s))),
  (let S : State := { Rst .safeHold with pw := { (Rst .safeHold).pw with boot := { R.pw.boot with phase := .download } } }; let via : Port := .spi; let seq : BitVec 16 := 0; let len : BitVec 32 := 576; decide ((len.toNat % 4 = 0) ∧ (576 ≤ len.toNat) ∧ (len.toNat ≤ 7340032)) && runsAt ((.fwBegin via seq 0 len)) S (fun s => decide (((fun u => u.pw.st = .safeHold ∧ u.downloading = true)) s))),
  (let S : State := R; let f : FwUpdate := ⟨1, 576, 0, false, false⟩; let S : State := { S with pw.fw := some f }; decide ((f.slot < 2) ∧ (f.erased = false) ∧ (((fun s => s.pw.fw = some f)) S))),
  (let S : State := { R with pw := { R.pw with fw := some ⟨1, 576, 8, true, false⟩ } }; let via : Port := .spi; let seq : BitVec 16 := 0; let off : BitVec 32 := 8; let data : List Byte := [1, 2, 3, 4]; let f : FwUpdate := ⟨1, 576, 8, true, false⟩; decide ((4 ≤ data.length) ∧ (data.length ≤ 1024) ∧ (data.length % 4 = 0) ∧ (off.toNat = f.written) ∧ (f.written + data.length ≤ f.len) ∧ (f.slot < 2) ∧ (f.erased = true)) && runsAt ((.fwWrite via seq off data)) S (fun s => decide (((fun u => u.pw.fw = some f)) s))),
  (let S : State := { R with pw := { R.pw with fw := some ⟨1, 576, 8, true, false⟩ } }; let via : Port := .spi; let seq : BitVec 16 := 0; runsAt ((.fwVerify via seq)) S (fun s => decide (((fun u => u.pw.fw.isSome = true ∧ u.rangeBusy 0x0F03 = false)) s))),
  (let S : State := R; let S : State := { S with pw.fw := none }; let via : Port := .spi; let seq : BitVec 16 := 0; runsAt ((.fwVerify via seq)) S (fun s => decide (((fun u => u.pw.fw = none)) s))),
  (let S : State := { R with cmd := { R.cmd with running := [⟨0x0F03, .spi, 7, 0⟩] }, pw := { R.pw with fw := some ⟨1, 576, 576, true, false⟩ } }; let fe : Bool := true; let f : FwUpdate := ⟨1, 576, 576, true, false⟩; let e : Nat × Nat := (0x9C, 0); decide ((((fun s => s.pw.fw = some f ∧ s.isRunning 0x0F03 = true ∧ (if fe && f.slot != 2 then some (0x9C, 0) else s.imageFault f.slot) = some e)) S)))].all id = true := by decide +kernel

/-- States and operands that meet the hypotheses of the clauses of Obligations.FaultHandling. -/
theorem hyps_FaultHandling : [
  (let S : State := upd R [(F.FM.FM_FIRST_VALID, 1)]; let s : State := S; let f : FaultRec := ⟨2, 1, 0, 0, 0⟩; decide ((f.cls < 2) ∧ (s.flag F.FM.FM_FIRST_VALID = true))),
  (let S : State := R; let s : State := S; let f : FaultRec := ⟨3, 1, 0, 0, 0⟩; decide ((f.cls < 2) ∧ (f.ev < 256) ∧ (s.flag F.FM.FM_FIRST_VALID = false))),
  (let S : State := R; let s : State := S; let f : FaultRec := ⟨2, 2, 0, 0, 0⟩; decide ((f.cls = 2))),
  (let S : State := R; let s : State := S; let f : FaultRec := ⟨2, 3, 0, 0, 0⟩; decide ((f.cls = 3) ∧ (s.pw.st = .ready ∨ s.pw.st = .scanning))),
  (let S : State := R; let via : Port := .spi; let seq : BitVec 16 := 0; runsAt ((.safeHold via seq)) S (fun s => decide (((fun u => u.pw.st = .ready ∨ u.pw.st = .scanning)) s))),
  (let S : State := Rst .safeHold; let via : Port := .spi; let seq : BitVec 16 := 0; runsAt ((.safeHold via seq)) S (fun s => decide (((fun u => u.pw.st ≠ .ready ∧ u.pw.st ≠ .scanning)) s))),
  (let S : State := { upd (Rst .safeHold) [(F.FM.FM_STAT_CLASS, 3), (F.FM.FM_STAT_RECOVERED, 1)] with pw := (Rst .safeHold).pw }; let via : Port := .spi; let seq : BitVec 16 := 0; runsAt ((.faultClear via seq)) S (fun s => decide (((fun u => u.pw.st = .safeHold ∧ u.clearable = true)) s))),
  (let S : State := upd (Rst .safeHold) [(F.FM.FM_STAT_CLASS, 3), (F.FM.FM_STAT_RECOVERED, 0), (F.FM.FM_STAT_TIMER, 1)]; let c : Instr := .faultClear .spi 0; let s : State := S; let p : Pkt := ⟨.spi, 0, 0x0012, []⟩; let u : State := s.seen p; decide ((c = .faultClear p.via p.seq) ∧ (asPacket c = some p ∧ s.takes p = true ∧ u = s.seen p) ∧ (u.pw.st = .safeHold) ∧ (u.clearable = false))),
  (let S : State := R; let via : Port := .spi; let seq : BitVec 16 := 0; runsAt ((.faultClear via seq)) S (fun s => decide (((fun u => u.pw.st ≠ .safeHold)) s))),
  (let S : State := R.set (activeBit 6) 1; let n : BitVec 8 := 6; decide ((((fun s => lastingEvents.contains n.toNat = true ∧ s.causeActive n.toNat = true ∧ s.causeNow n.toNat = false)) S))),
  (let S : State := R; let n : BitVec 8 := 0; decide ((((fun s => lastingEvents.contains n.toNat = false ∨ s.causeActive n.toNat = false ∨ s.causeNow n.toNat = true)) S))),
  (let S : State := R; let via : Port := .spi; let seq : BitVec 16 := 0; runsAt ((.fmFirstClear via seq)) S (fun s => decide (((fun u => u.touchesOff (F.FM.FM_FIRST_VALID.addr) (1) = false ∧ u.noStep (wordAddrs (F.FM.FM_FIRST_VALID.addr) (1)) = true ∧ ((fun _ => True)) u)) s))),
  (let S : State := R; let via : Port := .spi; let seq : BitVec 16 := 0; let i : Fin 16 := 0; let v : BitVec 32 := 0; runsAt ((.fmClassWrite via seq i v)) S (fun s => decide (((fun u => u.touchesOff ((0x7000100 + 4 * i.val)) (1) = false ∧ u.noStep (wordAddrs ((0x7000100 + 4 * i.val)) (1)) = true ∧ ((fun _ => True)) u)) s)))].all id = true := by decide +kernel

/-- States and operands that meet the hypotheses of the clauses of Obligations.ScanStart. -/
theorem hyps_ScanStart : [
  (let S : State := upd R [(F.LIM.LIM_CFG_CONFIGURED, 1)]; let via : Port := .spi; let seq : BitVec 16 := 0; let prof : Byte := 0; let flags : Byte := 0; decide ((prof.toNat ≤ 3) ∧ (flags.toNat ≤ 1)) && runsAt ((.scanStart via seq prof flags)) S (fun s => decide (((fun u => u.pw.st = .ready ∧ ((u.scanChecks (flags.toNat % 2 == 1)).all (fun c => !c.1)) = true ∧ u.trajCheck = none ∧ (u.set F.STEER.TRAJ_STAT_BAD 0).badKernel = none ∧ ((u.set F.STEER.TRAJ_STAT_BAD 0).responses prof.toNat).1 = none ∧ u.rangeBusy 0x0100 = false ∧ u.pw.reload = [] ∧ levelShort ((u.set F.STEER.TRAJ_STAT_BAD 0).responses prof.toNat).2.boundLevel prof.toNat (((u.set F.STEER.TRAJ_STAT_BAD 0).responses prof.toNat).2.get F.PS.PS_CTRL_FORMAT) = false)) s))),
  (let S : State := upd Rscan [(F.LIM.LIM_CFG_CONFIGURED, 1)]; let via : Port := .spi; let seq : BitVec 16 := 0; let prof : Byte := 0; let flags : Byte := 1; decide ((prof.toNat ≤ 3) ∧ (flags = 1)) && runsAt ((.scanStart via seq prof flags)) S (fun s => decide (((fun u => u.pw.st = .scanning ∧ ((u.scanChecks true).all (fun c => !c.1)) = true ∧ u.trajCheck = none ∧ (u.set F.STEER.TRAJ_STAT_BAD 0).badKernel = none ∧ ((u.set F.STEER.TRAJ_STAT_BAD 0).responses prof.toNat).1 = none ∧ u.rangeBusy 0x0100 = false ∧ u.pw.reload = [] ∧ levelShort ((u.set F.STEER.TRAJ_STAT_BAD 0).responses prof.toNat).2.boundLevel prof.toNat (((u.set F.STEER.TRAJ_STAT_BAD 0).responses prof.toNat).2.get F.PS.PS_CTRL_FORMAT) = false)) s))),
  (let S : State := Rst .scanning; let via : Port := .spi; let seq : BitVec 16 := 0; let prof : Byte := 0; let flags : Byte := 0; runsAt ((.scanStart via seq prof flags)) S (fun s => decide (((fun u => u.pw.st = .safeHold ∨ (u.pw.st = .scanning ∧ flags.toNat % 2 = 0))) s))),
  (let S : State := R; let S : State := { S with scan.phase := .settling }; let S : State := { S with scan.restart := false }; let S : State := S.setFlag (F.LOOP.LOOP_STAT_SETTLED 0) false; decide ((((fun s => s.scan.phase = .settling ∧ s.scan.restart = false ∧ s.flag (F.LOOP.LOOP_STAT_SETTLED 0) = false)) S))),
  (let S : State := R; decide ((((fun s => s.scan.phase ≠ .settling ∨ (s.scan.approachDone && s.allSettled) = true)) S))),
  (let S : State := R; let via : Port := .spi; let seq : BitVec 16 := 0; let prof : Byte := 0; let f : BitVec 16 := 6; let x : BitVec 32 := 30; decide ((prof.toNat ≤ 3) ∧ (f.toNat ≤ 12)) && runsAt ((.profileOverride via seq prof f x)) S (fun s => decide (((fun u => u.pw.st = .ready ∧ u.overrideOk prof.toNat f.toNat x.toNat = true)) s))),
  (let S : State := R; let S : State := { S with pw.st := .ready }; let via : Port := .spi; let seq : BitVec 16 := 0; let prof : Byte := 0; let f : BitVec 16 := 0; let x : BitVec 32 := 0; decide ((prof.toNat ≤ 3) ∧ (f.toNat ≤ 12)) && runsAt ((.profileOverride via seq prof f x)) S (fun s => decide (((fun u => u.pw.st = .ready ∧ u.overrideOk prof.toNat f.toNat x.toNat = false)) s)))].all id = true := by decide +kernel

/-- States and operands that meet the hypotheses of the clauses of Obligations.ColumnSchedule. -/
theorem hyps_ColumnSchedule : [
  (let S : State := { Rst .scanning with scan := { R.scan with phase := .settling, approachDone := true } }; let S : State := upd S [(F.LOOP.LOOP_STAT_SETTLED 0, 1), (F.LOOP.LOOP_STAT_SETTLED 1, 1), (F.LOOP.LOOP_STAT_SETTLED 2, 1), (F.LOOP.LOOP_STAT_SETTLED 3, 1)]; let cc : Nat := 5000; decide ((((fun s => s.scan.phase = .settling ∧ s.domOn 68 = true ∧ (if s.get F.SYN.SYNC_CTRL_ROLE = 2 then s.sync.ready else s.scan.approachDone && s.allSettled) = true)) S))),
  (let S : State := R; let cc : Nat := 0; decide ((((fun s => s.scan.phase ≠ .settling ∨ s.domOn 68 = false)) S))),
  (let S : State := R; let s : State := S; decide ((s.domOn 68 = true))),
  (let S : State := R; let S : State := { S with scan.phase := .fixed }; let S : State := { S with pw.st := .ready }; decide ((((fun s => s.scan.phase = .fixed ∧ s.pw.st = .ready)) S))),
  (let S : State := R; let S : State := { S with scan.phase := .fixed }; let S : State := { S with pw.st := .scanning }; decide ((((fun s => s.scan.phase = .fixed ∧ s.pw.st = .scanning)) S))),
  (let S : State := R; let S : State := { S with scan.phase := .running }; let S : State := { S with scan.stopWanted := false }; let S : State := { S with scan.restartWanted := false }; decide ((((fun s => s.scan.phase = .running ∧ s.scan.stopWanted = false ∧ s.scan.restartWanted = false ∧ (s.scan.column + 1) % s.nCol ≠ 0)) S))),
  (let S : State := { Rscan with scan := { Rscan.scan with column := Rscan.nCol - 1 } }; decide ((((fun s => s.scan.phase = .running ∧ s.scan.stopWanted = false ∧ s.scan.restartWanted = false ∧ (s.scan.column + 1) % s.nCol = 0 ∧ s.scan.column / s.nCol % 2 = 0)) S))),
  (let S : State := R; let S : State := { S with scan.phase := .running }; let S : State := { S with scan.stopWanted := true }; decide ((((fun s => s.scan.phase = .running ∧ s.scan.stopWanted = true)) S))),
  (let S : State := R; let S : State := { S with scan.phase := .running }; let S : State := { S with scan.stopWanted := false }; let S : State := { S with scan.restartWanted := true }; decide ((((fun s => s.scan.phase = .running ∧ s.scan.stopWanted = false ∧ s.scan.restartWanted = true)) S))),
  (let S : State := R; decide ((((fun s => s.scan.phase = .idle ∨ s.scan.phase = .settling)) S))),
  (let S : State := upd ({ Rscan with scan := { Rscan.scan with column := 2 * Rscan.nCol - 1 } }) [(F.TH.TH_STAT_LEVEL, 2)]; decide ((((fun s => s.scan.phase = .running ∧ s.scan.stopWanted = false ∧ s.scan.restartWanted = false ∧ (s.scan.column + 1) % s.nCol = 0 ∧ s.scan.column / s.nCol % 2 = 1 ∧ s.throttlePending = true)) S))),
  (let S : State := R; decide ((((fun s => s.scan.phase ≠ .running ∨ s.throttlePending = false)) S))),
  (let S : State := Rscan; let c : Instr := .scanStop .spi 0; let s : State := S; let p : Pkt := (asPacket c).getD ⟨.spi, 0, 0, []⟩; let u : State := s.seen p; decide ((c = .scanStop p.via p.seq) ∧ (asPacket c = some p ∧ s.takes p = true ∧ u = s.seen p) ∧ (u.pw.st = .scanning) ∧ (u.scan.phase = .running))),
  (let S : State := { Rscan with scan := { Rscan.scan with phase := .fixed } }; let c : Instr := .scanStop .spi 0; let s : State := S; let p : Pkt := (asPacket c).getD ⟨.spi, 0, 0, []⟩; let u : State := s.seen p; decide ((c = .scanStop p.via p.seq) ∧ (asPacket c = some p ∧ s.takes p = true ∧ u = s.seen p) ∧ (u.pw.st = .scanning) ∧ (u.scan.phase ≠ .running))),
  (let S : State := R; let via : Port := .spi; let seq : BitVec 16 := 0; runsAt ((.scanStop via seq)) S (fun s => decide (((fun u => u.pw.st ≠ .scanning)) s)))].all id = true := by decide +kernel

/-- States and operands that meet the hypotheses of the clauses of Obligations.HistogramDump. -/
theorem hyps_HistogramDump : [
  (let S : State := R; let S : State := { S with pw.st := .scanning }; let S : State := S.setFlag (domBit 0x120 69) true; let via : Port := .spi; let seq : BitVec 16 := 0; let first : BitVec 16 := 0; let rows : BitVec 16 := 1; let cols : BitVec 16 := 1; let parts : Byte := 1; decide ((first.toNat + rows.toNat ≤ 1024) ∧ (rows ≠ 0) ∧ (1 ≤ parts.toNat) ∧ (parts.toNat ≤ 3) ∧ (1 ≤ cols.toNat) ∧ (cols.toNat ≤ 2048)) && runsAt ((.histDump via seq first rows cols parts)) S (fun s => decide (((fun u => u.pw.st = .scanning ∧ u.domOn 69 = true ∧ u.rangeBusy 0x0108 = false ∧ u.class5Refusing = false ∧ rows.toNat * (48 + 4096 * (parts.toNat % 2) + 528 * (parts.toNat / 2 % 2)) * u.colRate ≤ u.get F.RX.DUMP_CFG_RATE_MAX * 10 ^ 6)) s))),
  (let S : State := R; let via : Port := .spi; let seq : BitVec 16 := 0; let first : BitVec 16 := 0; let rows : BitVec 16 := 0; let cols : BitVec 16 := 0; let parts : Byte := 0; runsAt ((.histDump via seq first rows cols parts)) S (fun s => decide (((fun u => u.pw.st ≠ .scanning)) s))),
  (let S : State := R; let d : Dump := ⟨0, 1, 1, 1, 0, none, 0, 0, 0, false⟩; let S : State := { S with rx.dump := some d }; let via : Port := .spi; let seq : BitVec 16 := 0; runsAt ((.histDumpCancel via seq)) S (fun s => decide (((fun u => u.rx.dump = some d)) s))),
  (let S : State := R; let S : State := { S with rx.dump := none }; let via : Port := .spi; let seq : BitVec 16 := 0; runsAt ((.histDumpCancel via seq)) S (fun s => decide (((fun u => u.rx.dump = none)) s))),
  (let S : State := { Rscan with rx := { R.rx with dump := some ⟨0, 2, 3, 1, 0, some 5, 2, 0, 0, false⟩ }, cmd := { R.cmd with running := [⟨0x0108, .spi, 7, 0⟩] }, scan := { Rscan.scan with base := 100 } }; let d : Dump := ⟨0, 2, 3, 1, 0, some 5, 2, 0, 0, false⟩; let c0 : Nat := 5; decide ((d.start = some c0) ∧ (((fun s => s.rx.dump = some d ∧ c0 + d.columns ≤ s.scan.base + s.scan.column)) S))),
  (let S : State := R; let S : State := { S with rx.dump := none }; decide ((((fun s => s.rx.dump = none)) S)))].all id = true := by decide +kernel

/-- States and operands that meet the hypotheses of the clauses of Obligations.EmitterCommands. -/
theorem hyps_EmitterCommands : [
  (let S : State := R; let S : State := S.setFlag (domBit 0x120 68) true; let via : Port := .spi; let seq : BitVec 16 := 0; runsAt ((.emitterInhibit via seq 1)) S (fun s => decide (((fun u => u.domOn 68 = true)) s))),
  (let S : State := R; let S : State := S.setFlag (domBit 0x120 68) true; let via : Port := .spi; let seq : BitVec 16 := 0; runsAt ((.emitterInhibit via seq 0)) S (fun s => decide (((fun u => u.domOn 68 = true)) s))),
  (let S : State := R; let S : State := { S with pw.st := .ready }; let S : State := S.setFlag (domBit 0x120 68) true; let via : Port := .spi; let seq : BitVec 16 := 0; let mask : BitVec 32 := 0; runsAt ((.stringEnable via seq mask)) S (fun s => decide (((fun u => u.pw.st = .ready ∧ u.domOn 68 = true)) s))),
  (let S : State := R; let target : BitVec 16 := 1000; let S : State := { S with pw.st := .ready }; let S : State := S.setFlag (domBit 0x120 68) true; let S : State := S.set F.LIM.LIM_MAX_MAX_TARGET (target.toNat); let via : Port := .spi; let seq : BitVec 16 := 0; let n : Byte := 0; decide ((n.toNat ≤ 31) ∧ (1000 ≤ target.toNat)) && runsAt ((.chargeTest via seq n target)) S (fun s => decide (((fun u => u.pw.st = .ready ∧ u.domOn 68 = true ∧ u.live n.toNat = true ∧ target.toNat ≤ u.get F.LIM.LIM_MAX_MAX_TARGET ∧ u.rangeBusy 0x0202 = false)) s))),
  (let S : State := { R with shot := { R.shot with chargeTest := some (3, 0) }, cmd := { R.cmd with running := [⟨0x0202, .spi, 7, 0⟩] } }; let ok : Bool := true; let ns : BitVec 32 := 0; let v : BitVec 16 := 0; let n : Nat := 3; let g : Nat := 0; decide ((((fun s => s.isRunning 0x0202 = true ∧ s.shot.chargeTest = some (n, g))) S))),
  (let S : State := R; let S : State := { S with pw.st := .ready }; let S : State := S.setFlag (domBit 0x120 68) true; let via : Port := .spi; let seq : BitVec 16 := 0; let i : Byte := 0; let m : Byte := 0; let e : Byte := 0; decide ((i.toNat ≤ 3) ∧ (e.toNat ≤ 1)) && runsAt ((.triggerConfig via seq i m e)) S (fun s => decide (((fun u => u.pw.st = .ready ∧ u.domOn 68 = true)) s))),
  (let S : State := R; let via : Port := .spi; let seq : BitVec 16 := 0; let v : BitVec 32 := 0; runsAt ((.emitInhibitLatchWrite via seq v)) S (fun s => decide (((fun u => u.touchesOff (0x24414) (1) = false ∧ u.noStep (wordAddrs (0x24414) (1)) = true ∧ ((fun _ => True)) u)) s))),
  (let S : State := R; let via : Port := .spi; let seq : BitVec 16 := 0; let n : Fin 32 := 0; let v : BitVec 32 := 0; runsAt ((.stringFaultClear via seq n v)) S (fun s => decide (((fun u => u.touchesOff ((0x20010 + 0x100 * n.val)) (1) = false ∧ u.noStep (wordAddrs ((0x20010 + 0x100 * n.val)) (1)) = true ∧ ((fun u => u.pw.st = .ready ∨ u.pw.st = .safeHold)) u)) s))),
  (let S : State := R; let S : State := { S with pw.st := .scanning }; let via : Port := .spi; let seq : BitVec 16 := 0; let n : Fin 32 := 0; let v : BitVec 32 := 0; runsAt ((.stringFaultClear via seq n v)) S (fun s => decide (((fun u => u.touchesOff ((0x20010 + 0x100 * n.val)) (1) = false ∧ u.noStep (wordAddrs ((0x20010 + 0x100 * n.val)) (1)) = true ∧ ((fun u => u.pw.st = .scanning)) u)) s))),
  (let S : State := R; let via : Port := .spi; let seq : BitVec 16 := 0; let b : Fin 8 := 0; let v : BitVec 32 := 2; runsAt ((.pickoffLostClear via seq b v)) S (fun s => decide (((fun u => u.touchesOff ((0x24004 + 0x80 * b.val)) (1) = false ∧ u.noStep (wordAddrs ((0x24004 + 0x80 * b.val)) (1)) = true ∧ ((fun u => (u.pw.st = .ready ∨ u.pw.st = .safeHold) ∧ v.getLsbD 1 = true)) u)) s))),
  (let S : State := R; let S : State := { S with pw.st := .scanning }; let via : Port := .spi; let seq : BitVec 16 := 0; let b : Fin 8 := 0; let v : BitVec 32 := 0; runsAt ((.pickoffLostClear via seq b v)) S (fun s => decide (((fun u => u.touchesOff ((0x24004 + 0x80 * b.val)) (1) = false ∧ u.noStep (wordAddrs ((0x24004 + 0x80 * b.val)) (1)) = true ∧ ((fun u => u.pw.st = .scanning)) u)) s))),
  (let S : State := R; let via : Port := .spi; let seq : BitVec 16 := 0; let v : BitVec 32 := 0x7D64321E; let ok := decide (bitsOf v.toNat 8 8 < bitsOf v.toNat 16 8 ∧ bitsOf v.toNat 16 8 < bitsOf v.toNat 24 8 ∧ bitsOf v.toNat 24 8 ≤ 125 ∧ 25 ≤ bitsOf v.toNat 0 8 ∧ bitsOf v.toNat 0 8 ≤ 100); decide ((ok = true)) && runsAt ((.derateCfgWrite via seq v)) S (fun s => decide (((fun u => u.touchesOff (0x24420) (1) = false ∧ u.noStep (wordAddrs (0x24420) (1)) = true ∧ ((fun _ => True)) u)) s))),
  (let S : State := R; let via : Port := .spi; let seq : BitVec 16 := 0; let v : BitVec 32 := 0; let ok := decide (bitsOf v.toNat 8 8 < bitsOf v.toNat 16 8 ∧ bitsOf v.toNat 16 8 < bitsOf v.toNat 24 8 ∧ bitsOf v.toNat 24 8 ≤ 125 ∧ 25 ≤ bitsOf v.toNat 0 8 ∧ bitsOf v.toNat 0 8 ≤ 100); decide ((ok = false)) && runsAt ((.derateCfgWrite via seq v)) S (fun s => decide (((fun u => u.touchesOff (0x24420) (1) = false ∧ u.noStep (wordAddrs (0x24420) (1)) = true ∧ ((fun _ => True)) u)) s)))].all id = true := by decide +kernel

/-- States and operands that meet the hypotheses of the clauses of Obligations.InhibitSources. -/
theorem hyps_InhibitSources : [
  (let S : State := R; let S : State := S.setFlag (domBit 0x120 68) true; let m : BitVec 12 := 0; decide ((((fun s => s.domOn 68 = true)) S))),
  (let S : State := Rst .scanning; let S : State := S.setFlag (domBit 0x120 68) true; let i : Fin 12 := 0; decide ((((fun s => s.domOn 68 = true ∧ heldSources.contains i.val = false ∧ s.stateSources / 2 ^ i.val % 2 = 0)) S))),
  (let S : State := R; let i : Fin 12 := 0; decide ((((fun s => heldSources.contains i.val = true ∨ s.stateSources / 2 ^ i.val % 2 = 1)) S))),
  (let S : State := R; let S : State := S.setFlag (domBit 0x120 68) true; let n : Fin 32 := 0; decide ((((fun s => s.domOn 68 = true)) S))),
  (let S : State := upd R [(F.SHT.EMIT_INHIBIT_SRC, 0)]; let s : State := S; decide ((s.emitEn = true) ∧ (s.shot.chargeTest = none)))].all id = true := by decide +kernel

/-- States and operands that meet the hypotheses of the clauses of Obligations.SlotDecision. -/
theorem hyps_SlotDecision : [
  (let S : State := Rscan; let b : Fin 8 := 0; let v : List Nat := [1, 2, 3, 4]; decide ((v.length = 4) ∧ (((fun s => s.slotsRun = true)) S))),
  (let S : State := R; let b : Fin 8 := 0; let v : List Nat := []; decide ((((fun s => s.slotsRun = false)) S))),
  (let S : State := Rscan; let S : State := { S with eng := { S.eng with yOk := true } }; let b : Fin 8 := 0; decide ((((fun s => s.slotsRun = true ∧ s.angleValid = true)) S))),
  (let S : State := Rscan; let b : Fin 8 := 0; decide ((((fun s => s.slotsRun = true ∧ s.angleValid = false)) S))),
  (let S : State := Rscan; let S : State := S.set F.SHT.EMIT_INHIBIT_SRC ((0) + 1); let b : Fin 8 := 0; let lf : Bool := true; decide ((((fun s => s.slotsRun = true ∧ s.get F.SHT.EMIT_INHIBIT_SRC ≠ 0)) S))),
  (let S : State := Rscan; let b : Fin 8 := 1; let S : State := S.set F.SHT.EMIT_INHIBIT_SRC (0); let S : State := S.setBank b { S.bank b with claimed := (1 + 1) }; let S : State := S.setBank 1 { S.bank 1 with trig := 1, claimed := 0 }; let lf : Bool := true; decide ((((fun s => s.slotsRun = true ∧ s.get F.SHT.EMIT_INHIBIT_SRC = 0 ∧ (s.bank b).trig.getLsbD 0 = true ∧ (s.bank b).claimed ≠ 1)) S))),
  (let S : State := Rscan; let S : State := S.set F.SHT.EMIT_INHIBIT_SRC (0); let S : State := upd S [(F.STR.STR_CTRL_EN 4, 0), (F.STR.STR_CTRL_EN 5, 0), (F.STR.STR_CTRL_EN 6, 0), (F.STR.STR_CTRL_EN 7, 0)]; let b : Fin 8 := 1; let lf : Bool := true; decide ((((fun s => s.slotsRun = true ∧ s.get F.SHT.EMIT_INHIBIT_SRC = 0 ∧ (s.bank b).trig.getLsbD 0 = false ∧ s.liveMask b = 0)) S))),
  (let S : State := Rscan; let b : Fin 8 := 1; let S : State := S.set F.SHT.EMIT_INHIBIT_SRC (0); let S : State := S.setBank b { S.bank b with next := (0 + 1) }; let S : State := S.setFlag (F.BNK.BANK_STAT_PICKOFF_LOST b) false; let S : State := S.setBank 1 { S.bank 1 with trig := 0, next := 1, v := [9000, 9000, 9000, 9000] }; let lf : Bool := true; decide ((((fun s => s.slotsRun = true ∧ s.get F.SHT.EMIT_INHIBIT_SRC = 0 ∧ (s.bank b).trig.getLsbD 0 = false ∧ (s.bank b).next ≠ 0 ∧ s.flag (F.BNK.BANK_STAT_PICKOFF_LOST b) = false ∧ ∃ i : Fin 4, s.live (4 * b.val + i.val) = true ∧ 9 * s.get (F.STR.STR_STAT_EFF_TARGET (4 * b.val + i.val)) ≤ 10 * (s.bank b).v.getD i 0)) S))),
  (let S : State := R; let b : Fin 8 := 0; let lf : Bool := true; decide ((((fun s => s.slotsRun = false)) S))),
  (let S : State := Rscan; let S : State := { S with pw.st := .scanning }; let i : Fin 4 := 0; let falling : Bool := true; let late : BitVec 8 := 0; let tight : BitVec 8 := 0; decide ((((fun s => s.slotsRun = true ∧ s.pw.st = .scanning)) S)))].all id = true := by decide +kernel

/-- States and operands that meet the hypotheses of the clauses of Obligations.EnergyLimiter. -/
theorem hyps_EnergyLimiter : [
  (let S : State := R; let s : State := S; let b : Nat := 0; let mask : Nat := 0; let lf : Bool := true; decide ((b < 8) ∧ (((s.limitSlot b mask lf).bank b).outcome ≠ .consented))),
  (let S : State := Rscan; let b : Fin 8 := 1; let S : State := S.setBank b { S.bank b with outcome := .consented }; let S : State := S.set F.SHT.EMIT_INHIBIT_SRC (0); let S : State := S.setBank 1 { S.bank 1 with outcome := .consented, cost := 5, fireMask := 3 }; decide ((((fun s => s.slotsRun = true ∧ (s.bank b).outcome = .consented ∧ s.get F.SHT.EMIT_INHIBIT_SRC = 0 ∧ ¬ (b = 0 ∧ (s.bank b).curCol = 0 ∧ (s.bank b).curShot = 0))) S))),
  (let S : State := Rscan; let b : Fin 8 := 1; let S : State := S.setBank b { S.bank b with outcome := .consented }; let S : State := S.set F.SHT.EMIT_INHIBIT_SRC ((0) + 1); let S : State := S.setBank 1 { S.bank 1 with outcome := .consented, cost := 5, fireMask := 3 }; let lf : Bool := true; decide ((((fun s => s.slotsRun = true ∧ (s.bank b).outcome = .consented ∧ s.get F.SHT.EMIT_INHIBIT_SRC ≠ 0 ∧ ¬ (b = 0 ∧ (s.bank b).curCol = 0 ∧ (s.bank b).curShot = 0))) S))),
  (let S : State := Rscan; let S : State := S.setBank 1 { S.bank 1 with outcome := .empty, cost := 5, fireMask := 3 }; let b : Fin 8 := 1; let lf : Bool := true; decide ((((fun s => s.slotsRun = true ∧ (s.bank b).outcome ≠ .consented ∧ ¬ (b = 0 ∧ (s.bank b).curCol = 0 ∧ (s.bank b).curShot = 0))) S))),
  (let S : State := Rscan; let S : State := S.setBank 0 { S.bank 0 with curCol := 0 }; let S : State := S.setBank 0 { S.bank 0 with curShot := 0 }; decide ((((fun s => s.slotsRun = true ∧ (s.bank 0).outcome ≠ .consented ∧ (s.bank 0).curCol = 0 ∧ (s.bank 0).curShot = 0)) S))),
  (let S : State := R; let S : State := S.setFlag (domBit 0x120 68) true; let long : Bool := true; decide ((((fun s => s.domOn 68 = true)) S)))].all id = true := by decide +kernel

/-- States and operands that meet the hypotheses of the clauses of Obligations.StringSupervision. -/
theorem hyps_StringSupervision : [
  (let S : State := Rscan; let b : Fin 8 := 0; let v : List Nat := []; decide ((((fun s => s.slotsRun = true)) S))),
  (let S : State := R; let S : State := S.setFlag (domBit 0x120 68) true; let b : Fin 8 := 0; decide ((((fun s => s.domOn 68 = true)) S))),
  (let S : State := R; let S : State := S.setFlag (domBit 0x120 68) true; let n : Fin 32 := 0; decide ((((fun s => s.domOn 68 = true)) S))),
  (let S : State := Rscan; let S : State := S.setBank 1 { S.bank 1 with outcome := .fired, fireMask := 2 }; let n : Fin 32 := 5; let rise : Option Int := some 100; let w : Nat := (24 + 6 * S.widthEff 5); let high : Bool := true; decide ((((fun s => s.domOn 68 = true ∧ (s.bank (n / 4)).outcome = .fired ∧ (s.bank (n / 4)).fireMask / 2 ^ (n.val % 4) % 2 = 1 ∧ (high = true ∨ (rise.any (fun r => decide (0 ≤ r ∧ r ≤ 240)) = true ∧ 24 + 6 * s.widthEff n + 12 < w)))) S))),
  (let S : State := Rscan; let S : State := S.setBank 1 { S.bank 1 with outcome := .fired, fireMask := 2 }; let n : Fin 32 := 5; let rise : Option Int := none; let w : Nat := (24 + 6 * S.widthEff 5); let high : Bool := false; decide ((((fun s => s.domOn 68 = true ∧ (s.bank (n / 4)).outcome = .fired ∧ (s.bank (n / 4)).fireMask / 2 ^ (n.val % 4) % 2 = 1 ∧ high = false ∧ rise.any (fun r => decide (0 ≤ r ∧ r ≤ 240)) = false)) S))),
  (let S : State := Rscan.setStr 5 { Rscan.str 5 with drive := 0x400 }; let S : State := S.setBank 1 { S.bank 1 with outcome := .fired, fireMask := 2 }; let n : Fin 32 := 5; let rise : Option Int := some 100; let w : Nat := 10; let high : Bool := false; decide ((((fun s => s.domOn 68 = true ∧ (s.bank (n / 4)).outcome = .fired ∧ (s.bank (n / 4)).fireMask / 2 ^ (n.val % 4) % 2 = 1 ∧ high = false ∧ rise.any (fun r => decide (0 ≤ r ∧ r ≤ 240)) = true ∧ w + 12 < 24 + 6 * s.widthEff n)) S))),
  (let S : State := Rscan; let S : State := S.setBank 1 { S.bank 1 with outcome := .fired, fireMask := 2 }; let n : Fin 32 := 5; let rise : Option Int := some 100; let w : Nat := (24 + 6 * S.widthEff 5); let high : Bool := false; decide ((((fun s => s.domOn 68 = true ∧ (s.bank (n / 4)).outcome = .fired ∧ (s.bank (n / 4)).fireMask / 2 ^ (n.val % 4) % 2 = 1 ∧ high = false ∧ rise.any (fun r => decide (0 ≤ r ∧ r ≤ 240)) = true ∧ 24 + 6 * s.widthEff n ≤ w + 12 ∧ w ≤ 24 + 6 * s.widthEff n + 12)) S)))].all id = true := by decide +kernel

/-- States and operands that meet the hypotheses of the clauses of Obligations.DelayLines. -/
theorem hyps_DelayLines : [
  (let S : State := R; let c : Fin 12 := 0; decide ((((fun s => s.chStamps c = true)) S))),
  (let S : State := Roff 69; let c : Fin 12 := 0; decide ((((fun s => s.chStamps c = false)) S))),
  (let S : State := R; let c : Fin 12 := 0; let S : State := S.setFlag (domBit 0x120 69) true; let S : State := S.setFlag (F.CH.CH_STAT_FAULT c) false; decide ((((fun s => s.domOn 69 = true ∧ s.flag (F.CH.CH_STAT_FAULT c) = false)) S))),
  (let S : State := Roff 69; let c : Fin 12 := 0; decide ((((fun s => s.domOn 69 = false ∨ s.flag (F.CH.CH_STAT_FAULT c) = true)) S))),
  (let S : State := R; let c : Fin 12 := 0; let S : State := S.setFlag (domBit 0x120 69) true; let S : State := S.setFlag (F.CH.CH_STAT_LOCKED c) false; let S : State := S.setFlag (F.CH.CH_STAT_FAULT c) false; decide ((((fun s => s.domOn 69 = true ∧ s.flag (F.CH.CH_STAT_LOCKED c) = false ∧ s.flag (F.CH.CH_STAT_FAULT c) = false)) S))),
  (let S : State := R; let c : Fin 12 := 0; decide ((((fun s => s.domOn 69 = false ∨ s.flag (F.CH.CH_STAT_LOCKED c) = true ∨ s.flag (F.CH.CH_STAT_FAULT c) = true)) S))),
  (let S : State := R; let via : Port := .spi; let seq : BitVec 16 := 0; let c : Fin 12 := 0; let a : BitVec 32 := 0xFFFFFFFF; let b : BitVec 32 := 0xFFFFFFFF; let d : BitVec 32 := 0; let n := popCount 72 (a.toNat + 2 ^ 32 * b.toNat + 2 ^ 64 * bitsOf d.toNat 0 8); decide ((n = 64)) && runsAt ((.tapMapWrite via seq c a b d)) S (fun s => decide (((fun u => u.touchesOff ((0x41018 + 0x200 * c.val)) (3) = false ∧ u.noStep (wordAddrs ((0x41018 + 0x200 * c.val)) (3)) = true ∧ ((fun u => 8 ≤ c.val ∨ u.pw.st ≠ .scanning)) u)) s))),
  (let S : State := R; let via : Port := .spi; let seq : BitVec 16 := 0; let c : Fin 12 := 0; let a : BitVec 32 := 0; let b : BitVec 32 := 0; let d : BitVec 32 := 0; let n := popCount 72 (a.toNat + 2 ^ 32 * b.toNat + 2 ^ 64 * bitsOf d.toNat 0 8); decide ((n ≠ 64)) && runsAt ((.tapMapWrite via seq c a b d)) S (fun s => decide (((fun u => u.touchesOff ((0x41018 + 0x200 * c.val)) (3) = false ∧ u.noStep (wordAddrs ((0x41018 + 0x200 * c.val)) (3)) = true ∧ ((fun u => 8 ≤ c.val ∨ u.pw.st ≠ .scanning)) u)) s))),
  (let S : State := R; let S : State := { S with pw.st := .scanning }; let via : Port := .spi; let seq : BitVec 16 := 0; let c : Fin 12 := 0; let a : BitVec 32 := 0; let b : BitVec 32 := 0; let d : BitVec 32 := 0; runsAt ((.tapMapWrite via seq c a b d)) S (fun s => decide (((fun u => u.touchesOff ((0x41018 + 0x200 * c.val)) (3) = false ∧ u.noStep (wordAddrs ((0x41018 + 0x200 * c.val)) (3)) = true ∧ ((fun u => c.val < 8 ∧ u.pw.st = .scanning)) u)) s))),
  (let S : State := R; let via : Port := .spi; let seq : BitVec 16 := 0; let c : Fin 12 := 9; let first : Fin 64 := 0; let vs : List Word := [5, 6]; decide ((vs ≠ []) ∧ (first.val + vs.length ≤ 64)) && runsAt ((.linTableWrite via seq c first vs)) S (fun s => decide (((fun u => u.touchesOff ((0x41100 + 0x200 * c.val + 4 * first.val)) (vs.length) = false ∧ u.noStep (wordAddrs ((0x41100 + 0x200 * c.val + 4 * first.val)) (vs.length)) = true ∧ ((fun u => (8 ≤ c.val ∧ (u.ch c).meas = none) ∨ (c.val < 8 ∧ u.pw.st ≠ .scanning))) u)) s)))].all id = true := by decide +kernel

/-- States and operands that meet the hypotheses of the clauses of Obligations.PickoffStart. -/
theorem hyps_PickoffStart : [
  (let S : State := R; let b : Fin 8 := 0; let S : State := S.setFlag (domBit 0x120 69) true; let S : State := S.setRxBank b { S.rxBank b with isOpen := true }; let S : State := S.setBank b { S.bank b with outcome := .fired }; decide ((((fun s => s.domOn 69 = true ∧ (s.rxBank b).isOpen = true ∧ (s.bank b).outcome = .fired ∧ (s.rxBank b).decided ≠ some ((s.bank b).curCol, (s.bank b).curShot) ∧ (s.bank b).curShot + 1 ≠ s.group)) S))),
  (let S : State := R; let b : Fin 8 := 0; decide ((((fun s => s.domOn 69 = false ∨ (s.rxBank b).isOpen = false ∨ (s.bank b).outcome ≠ .fired ∨ (s.rxBank b).decided = some ((s.bank b).curCol, (s.bank b).curShot))) S)))].all id = true := by decide +kernel

/-- States and operands that meet the hypotheses of the clauses of Obligations.IntervalChannels. -/
theorem hyps_IntervalChannels : [
  (let S : State := R.setCh 9 { R.ch 9 with lastFall := some 100 }; let i : Fin 4 := 1; let falling : Bool := true; let cc : Nat := 110; let tap : Fin 64 := 3; decide ((((fun s => s.domOn 69 = true ∧ ∃ k, (if falling then (s.ch (8 + i)).lastFall else (s.ch (8 + i)).lastRise) = some k ∧ cc < k + s.getAt (24 + i.val) (F.CH.CH_TIN_HOLDOFF (8 + i)))) S))),
  (let S : State := R; let S : State := S.setFlag (domBit 0x120 69) false; let i : Fin 4 := 0; let falling : Bool := true; let cc : Nat := 0; let tap : Fin 64 := 0; decide ((((fun s => s.domOn 69 = false)) S))),
  (let S : State := upd R [(F.CH.CH_CTRL_EN 9, 1), (F.CH.CH_STAT_LOCKED 9, 1)]; let i : Fin 4 := 1; let falling : Bool := false; let cc : Nat := 110; let tap : Fin 64 := 3; decide ((((fun s => s.domOn 69 = true ∧ (if falling then (s.ch (8 + i)).lastFall else (s.ch (8 + i)).lastRise) = none ∧ s.chStamps (8 + i) = true ∧ s.tinCtrl F.CH.CH_CTRL_EN (8 + i) = 1 ∧ s.tinCtrl F.CH.CH_CTRL_MODE (8 + i) = 0 ∧ s.tinCtrl F.CH.CH_CTRL_TS_EDGES (8 + i) / (if falling then 2 else 1) % 2 = 1 ∧ ∀ c : Fin 4, s.tinCtrl F.CH.CH_CTRL_MODE (8 + c) = 0)) S))),
  (let S : State := upd R [(F.CH.CH_CTRL_EN 10, 1), (F.CH.CH_CTRL_MODE 10, 1), (F.CH.CH_STAT_LOCKED 9, 1), (F.CH.CH_CTRL_START_SRC 10, 1), (F.CH.CH_CTRL_STOP_SRC 10, 2), (F.CH.CH_CTRL_START_EDGE 10, 0), (F.CH.CH_CTRL_STOP_EDGE 10, 0)]; let i : Fin 4 := 1; let falling : Bool := false; let cc : Nat := 110; let tap : Fin 64 := 3; let c : Fin 4 := 2; decide ((((fun s => s.domOn 69 = true ∧ (if falling then (s.ch (8 + i)).lastFall else (s.ch (8 + i)).lastRise) = none ∧ s.chStamps (8 + i) = true ∧ s.tinCtrl F.CH.CH_CTRL_EN (8 + c) = 1 ∧ s.tinCtrl F.CH.CH_CTRL_MODE (8 + c) = 1 ∧ (∀ k : Fin 4, k ≠ c → s.tinCtrl F.CH.CH_CTRL_EN (8 + k) = 0) ∧ s.tinCtrl F.CH.CH_CTRL_START_SRC (8 + c) = i.val ∧ s.tinCtrl F.CH.CH_CTRL_START_EDGE (8 + c) = bit falling ∧ (s.ch (8 + c)).meas = none ∧ (s.ch (8 + c)).idleFrom ≤ cc)) S))),
  (let S : State := (upd R [(F.CH.CH_CTRL_EN 10, 1), (F.CH.CH_CTRL_MODE 10, 1), (F.CH.CH_STAT_LOCKED 9, 1), (F.CH.CH_CTRL_START_SRC 10, 2), (F.CH.CH_CTRL_STOP_SRC 10, 1), (F.CH.CH_CTRL_START_EDGE 10, 0), (F.CH.CH_CTRL_STOP_EDGE 10, 0)]).setCh 10 { R.ch 10 with meas := some ⟨true, 1000, 10, 3, 4⟩ }; let i : Fin 4 := 1; let falling : Bool := false; let cc : Nat := 110; let tap : Fin 64 := 3; let c : Fin 4 := 2; let m : OpenMeas := ⟨true, 1000, 10, 3, 4⟩; decide ((m.byStart = true) ∧ (((fun s => s.domOn 69 = true ∧ (if falling then (s.ch (8 + i)).lastFall else (s.ch (8 + i)).lastRise) = none ∧ s.chStamps (8 + i) = true ∧ s.tinCtrl F.CH.CH_CTRL_EN (8 + c) = 1 ∧ s.tinCtrl F.CH.CH_CTRL_MODE (8 + c) = 1 ∧ (∀ k : Fin 4, k ≠ c → s.tinCtrl F.CH.CH_CTRL_EN (8 + k) = 0) ∧ s.tinCtrl F.CH.CH_CTRL_START_SRC (8 + c) ≠ i.val ∧ s.tinCtrl F.CH.CH_CTRL_STOP_SRC (8 + c) = i.val ∧ s.tinCtrl F.CH.CH_CTRL_STOP_EDGE (8 + c) = bit falling ∧ (s.ch (8 + c)).meas = some m ∧ cc < m.cc + s.chTimeout (8 + c))) S))),
  (let S : State := R.setCh 10 { R.ch 10 with meas := some ⟨true, 1000, 10, 3, 4⟩ }; let s : State := S; let c : Nat := 10; let m : OpenMeas := ⟨true, 1000, 10, 3, 4⟩; let cc : Nat := 30; let p : Int := 5000; decide ((m.byStart = true) ∧ (cc < m.cc + 65536) ∧ (16 ≤ (p - m.stamp).natAbs))),
  (let S : State := R.setCh 10 { R.ch 10 with meas := some ⟨true, 1000, 10, 3, 4⟩ }; let c : Fin 4 := 2; let m : OpenMeas := ⟨true, 1000, 10, 3, 4⟩; decide ((((fun s => (s.ch (8 + c)).meas = some m)) S))),
  (let S : State := R; let c : Fin 4 := 0; let S : State := S.setCh (8 + c) { S.ch (8 + c) with meas := none }; decide ((((fun s => (s.ch (8 + c)).meas = none)) S))),
  (let S : State := R; let via : Port := .spi; let seq : BitVec 16 := 0; let c : Fin 12 := 0; runsAt ((.qPopWrite via seq c)) S (fun s => decide (((fun u => u.touchesOff ((0x41094 + 0x200 * c.val)) (1) = false ∧ u.noStep (wordAddrs ((0x41094 + 0x200 * c.val)) (1)) = true ∧ ((fun u => c.val < 8 ∨ (u.ch c).queue = [])) u)) s))),
  (let S : State := R.setCh 10 { R.ch 10 with queue := [⟨1, 2, 3, 4⟩, ⟨5, 6, 7, 8⟩] }; let via : Port := .spi; let seq : BitVec 16 := 0; let c : Fin 12 := 10; decide ((8 ≤ c.val)) && runsAt ((.qPopWrite via seq c)) S (fun s => decide (((fun u => u.touchesOff ((0x41094 + 0x200 * c.val)) (1) = false ∧ u.noStep (wordAddrs ((0x41094 + 0x200 * c.val)) (1)) = true ∧ ((fun u => (u.ch c).queue ≠ [])) u)) s)))].all id = true := by decide +kernel

/-- States and operands that meet the hypotheses of the clauses of Obligations.LoopCommands. -/
theorem hyps_LoopCommands : [
  (let S : State := R; let S : State := S.setFlag (domBit 0x120 67) true; let via : Port := .spi; let seq : BitVec 16 := 0; let n : Byte := 0; let m : Byte := 0; decide ((n.toNat ≤ 7) ∧ (m.toNat ≤ 3)) && runsAt ((.loopMode via seq n m)) S (fun s => decide (((fun u => u.domOn 67 = true ∧ (n.toNat ≤ 3 → m ≠ 2 → u.pw.st ≠ .scanning) ∧ (m = 2 → u.fbLatched n.toNat = false ∧ ∀ i, u.innerOf n.toNat = some i → u.mode i = 2))) s))),
  (let S : State := R; let S : State := S.setFlag (domBit 0x120 67) true; let S : State := { S with pw.st := .scanning }; let via : Port := .spi; let seq : BitVec 16 := 0; let n : Byte := 0; let m : Byte := 0; decide ((n.toNat ≤ 7) ∧ (m.toNat ≤ 3) ∧ (n.toNat ≤ 3) ∧ (m ≠ 2)) && runsAt ((.loopMode via seq n m)) S (fun s => decide (((fun u => u.domOn 67 = true ∧ u.pw.st = .scanning)) s))),
  (let S : State := R; let S : State := S.setFlag (domBit 0x120 67) true; let via : Port := .spi; let seq : BitVec 16 := 0; let n : Byte := 0; let m : Byte := 2; decide ((n.toNat ≤ 7) ∧ (m.toNat ≤ 3) ∧ (m = 2)) && runsAt ((.loopMode via seq n m)) S (fun s => decide (((fun u => u.domOn 67 = true ∧ ∃ i, u.innerOf n.toNat = some i ∧ u.mode i ≠ 2)) s))),
  (let S : State := upd R [(F.LOOP.LOOP_STAT_FB_LOST 2, 1), (F.LOOP.LOOP_CTRL_MODE 3, 2)]; let via : Port := .spi; let seq : BitVec 16 := 0; let n : Byte := 2; let m : Byte := 2; decide ((n.toNat ≤ 7) ∧ (m.toNat ≤ 3) ∧ (m = 2)) && runsAt ((.loopMode via seq n m)) S (fun s => decide (((fun u => u.domOn 67 = true ∧ u.fbLatched n.toNat = true ∧ ∀ i, u.innerOf n.toNat = some i → u.mode i = 2)) s))),
  (let S : State := R; let S : State := S.setFlag (domBit 0x120 67) true; let via : Port := .spi; let seq : BitVec 16 := 0; let n : Byte := 4; let w : List Word := ((List.range 10).map (fun i => BitVec.ofNat 32 (R.get (F.LOOP.ACT 4 i)))); decide ((n.toNat ≤ 7) ∧ (w.length = 10) ∧ (bitsOf (w.getD 3 0).toNat 21 11 = 0) ∧ (bitsOf (w.getD 3 0).toNat 13 3 = 0) ∧ (bitsOf (w.getD 3 0).toNat 5 3 = 0) ∧ (bitsOf (w.getD 4 0).toNat 16 15 = 0) ∧ (coefBad (fun i => (w.getD i 0).toNat) = none)) && runsAt ((.loopCoefSet via seq n w)) S (fun s => decide (((fun u => u.domOn 67 = true ∧ u.mode n.toNat ≠ 2)) s))),
  (let S : State := upd R [(F.LOOP.LOOP_CTRL_MODE 4, 2)]; let via : Port := .spi; let seq : BitVec 16 := 0; let n : Byte := 4; let w : List Word := ((List.range 10).map (fun i => BitVec.ofNat 32 (R.get (F.LOOP.ACT 4 i)))); decide ((n.toNat ≤ 7) ∧ (w.length = 10) ∧ (bitsOf (w.getD 3 0).toNat 21 11 = 0) ∧ (bitsOf (w.getD 3 0).toNat 13 3 = 0) ∧ (bitsOf (w.getD 3 0).toNat 5 3 = 0) ∧ (bitsOf (w.getD 4 0).toNat 16 15 = 0) ∧ (coefBad (fun i => (w.getD i 0).toNat) = none)) && runsAt ((.loopCoefSet via seq n w)) S (fun s => decide (((fun u => u.domOn 67 = true ∧ u.mode n.toNat = 2 ∧ u.fastLoop n.toNat = false ∧ u.rangeBusy 0x0301 = false)) s))),
  (let S : State := upd R [(F.LOOP.LOOP_CTRL_MODE 3, 2)]; let via : Port := .spi; let seq : BitVec 16 := 0; let n : Byte := 3; let w : List Word := ((List.range 10).map (fun i => BitVec.ofNat 32 (R.get (F.LOOP.ACT 4 i)))); let s : State := S; let p : Pkt := (asPacket (.loopCoefSet via seq n w)).getD ⟨.spi, 0, 0, []⟩; let u : State := s.seen p; decide ((n.toNat ≤ 7) ∧ (w.length = 10) ∧ (bitsOf (w.getD 3 0).toNat 21 11 = 0) ∧ (bitsOf (w.getD 3 0).toNat 13 3 = 0) ∧ (bitsOf (w.getD 3 0).toNat 5 3 = 0) ∧ (bitsOf (w.getD 4 0).toNat 16 15 = 0) ∧ (coefBad (fun i => (w.getD i 0).toNat) = none) ∧ (asPacket (.loopCoefSet via seq n w) = some p ∧ s.takes p = true ∧ u = s.seen p) ∧ (u.domOn 67 = true) ∧ (u.mode n.toNat = 2) ∧ (u.fastLoop n.toNat = true))),
  (let S : State := R; let S : State := S.setFlag (domBit 0x120 67) true; let via : Port := .spi; let seq : BitVec 16 := 0; let n : Byte := 4; let w : List Word := (((List.range 10).map (fun i => BitVec.ofNat 32 (R.get (F.LOOP.ACT 4 i)))).set 7 1#32); let k := 9; decide ((n.toNat ≤ 7) ∧ (w.length = 10) ∧ (bitsOf (w.getD 3 0).toNat 21 11 = 0) ∧ (bitsOf (w.getD 3 0).toNat 13 3 = 0) ∧ (bitsOf (w.getD 3 0).toNat 5 3 = 0) ∧ (bitsOf (w.getD 4 0).toNat 16 15 = 0) ∧ (coefBad (fun i => (w.getD i 0).toNat) = some k)) && runsAt ((.loopCoefSet via seq n w)) S (fun s => decide (((fun u => u.domOn 67 = true)) s))),
  (let S : State := { R with cmd := { R.cmd with running := [⟨0x0301, .spi, 7, 4⟩] } }; let n : Fin 8 := 4; decide ((((fun s => s.runningTag 0x0301 = some n.val ∧ s.flag (F.LOOP.LOOP_STAT_SWAP_PEND n) = false)) S))),
  (let S : State := R; let n : Fin 8 := 0; decide ((((fun s => s.runningTag 0x0301 ≠ some n.val ∨ s.flag (F.LOOP.LOOP_STAT_SWAP_PEND n) = true)) S))),
  (let S : State := R; let S : State := S.setFlag (domBit 0x120 67) true; let via : Port := .spi; let seq : BitVec 16 := 0; let n : Byte := 0; let v : BitVec 32 := 0; decide ((n.toNat ≤ 7)) && runsAt ((.loopSetpoint via seq n v)) S (fun s => decide (((fun u => u.domOn 67 = true ∧ u.spRefused n.toNat = false)) s))),
  (let S : State := upd R [(F.LOOP.LOOP_CTRL_MODE 2, 2)]; let via : Port := .spi; let seq : BitVec 16 := 0; let n : Byte := 3; let v : BitVec 32 := 0; decide ((n.toNat ≤ 7)) && runsAt ((.loopSetpoint via seq n v)) S (fun s => decide (((fun u => u.domOn 67 = true ∧ u.spRefused n.toNat = true)) s))),
  (let S : State := R; let S : State := { S with pw.st := .ready }; let S : State := S.setFlag (domBit 0x120 67) true; let via : Port := .spi; let seq : BitVec 16 := 0; let first : BitVec 16 := 2045; let l : List Word := [1, 2, 3]; decide ((1 ≤ l.length) ∧ (l.length ≤ 256) ∧ (first.toNat + l.length ≤ 2048)) && runsAt ((.trajectoryLoad via seq first l)) S (fun s => decide (((fun u => u.pw.st = .ready ∧ u.domOn 67 = true)) s))),
  (let S : State := R; let via : Port := .spi; let seq : BitVec 16 := 0; let n : Fin 8 := 4; let s : State := S; let a := 0x30000 + 0x400 * n.val; let p : Pkt := ⟨via, seq, 0x0009, regWritePayload a [BitVec.ofNat 32 (s.view a) ||| 0x10]⟩; decide ((s.takes p = true) ∧ ((s.seen p).touchesOff a 1 = false) ∧ ((s.seen p).noStep [a] = true) ∧ ((s.seen p).mode n ≠ 2) ∧ (coefBad (fun i => (s.seen p).get (shadowFld n i)) = none))),
  (let S : State := upd R [(F.LOOP.LOOP_CTRL_MODE 4, 2)]; let via : Port := .spi; let seq : BitVec 16 := 0; let n : Fin 8 := 4; let s : State := S; let a := 0x30000 + 0x400 * n.val; let p : Pkt := ⟨via, seq, 0x0009, regWritePayload a [BitVec.ofNat 32 (s.view a) ||| 0x10]⟩; decide ((s.takes p = true) ∧ ((s.seen p).touchesOff a 1 = false) ∧ ((s.seen p).noStep [a] = true) ∧ ((s.seen p).mode n = 2) ∧ (s.mode n = 2))),
  (let S : State := R; let via : Port := .spi; let seq : BitVec 16 := 0; let n : Fin 8 := 0; let v : BitVec 32 := 0; runsAt ((.loopRateWrite via seq n v)) S (fun s => decide (((fun u => u.touchesOff ((0x30004 + 0x400 * n.val)) (1) = false ∧ u.noStep (wordAddrs ((0x30004 + 0x400 * n.val)) (1)) = true ∧ ((fun u => u.mode n = 0 ∧ (u.hostWrite (0x30004 + 0x400 * n.val) v).engineRate ≤ 500000)) u)) s))),
  (let S : State := upd R [(F.LOOP.LOOP_CTRL_MODE 4, 1)]; let via : Port := .spi; let seq : BitVec 16 := 0; let n : Fin 8 := 4; let v : BitVec 32 := 0x10; runsAt ((.loopRateWrite via seq n v)) S (fun s => decide (((fun u => u.touchesOff ((0x30004 + 0x400 * n.val)) (1) = false ∧ u.noStep (wordAddrs ((0x30004 + 0x400 * n.val)) (1)) = true ∧ ((fun u => u.mode n ≠ 0 ∨ 500000 < (u.hostWrite (0x30004 + 0x400 * n.val) v).engineRate)) u)) s))),
  (let S : State := (upd R [(F.LOOP.LOOP_STAT_FB_LOST 2, 1)]).setLoop 2 { R.loop 2 with src := some (R.getI (F.LOOP.FB_LO 2)) }; let via : Port := .spi; let seq : BitVec 16 := 0; let n : Fin 8 := 2; let v : BitVec 32 := 0x10; runsAt ((.fbLatchClear via seq n v)) S (fun s => decide (((fun u => u.touchesOff ((0x3001C + 0x400 * n.val)) (1) = false ∧ u.noStep (wordAddrs ((0x3001C + 0x400 * n.val)) (1)) = true ∧ ((fun u => (u.mode n = 0 ∨ u.mode n = 3) ∧ u.sourceInBand n = true)) u)) s))),
  (let S : State := R; let via : Port := .spi; let seq : BitVec 16 := 0; let n : Fin 8 := 0; let v : BitVec 32 := 0; runsAt ((.fbLatchClear via seq n v)) S (fun s => decide (((fun u => u.touchesOff ((0x3001C + 0x400 * n.val)) (1) = false ∧ u.noStep (wordAddrs ((0x3001C + 0x400 * n.val)) (1)) = true ∧ ((fun u => (u.mode n ≠ 0 ∧ u.mode n ≠ 3) ∨ u.sourceInBand n = false)) u)) s)))].all id = true := by decide +kernel

/-- States and operands that meet the hypotheses of the clauses of Obligations.LoopSamples. -/
theorem hyps_LoopSamples : [
  (let S : State := R; let S : State := S.setFlag (domBit 0x120 67) true; let S : State := S.setFlag (F.LOOP.LOOP_CTRL_FB_EN 0) false; let S : State := S.setFlag (F.LOOP.LOOP_CTRL_FB_EN 1) false; let c : BitVec 16 := 0; let i : Option (BitVec 16) := none; let tau : Nat := 0; decide ((((fun s => s.domOn 67 = true ∧ s.flag (F.LOOP.LOOP_CTRL_FB_EN 0) = false ∧ s.flag (F.LOOP.LOOP_CTRL_FB_EN 1) = false)) S))),
  (let S : State := upd R [(F.LOOP.LOOP_CTRL_FB_EN 0, 1), (F.LOOP.LOOP_CTRL_FB_EN 1, 0), (F.LOOP.LOOP_CTRL_MODE 0, 1)]; let S : State := S.setLoop 0 { S.loop 0 with fbAbsent := 1 }; let i : Option (BitVec 16) := none; let tau : Nat := 0; decide ((((fun s => s.domOn 67 = true ∧ s.domOn 68 = true ∧ s.flag (F.LOOP.LOOP_CTRL_FB_EN 0) = true ∧ (s.mode 0 = 1 ∨ s.mode 0 = 2) ∧ s.flag (F.LOOP.LOOP_STAT_FB_LOST 0) = false ∧ 1 ≤ (s.loop 0).fbAbsent ∧ s.flag (F.LOOP.LOOP_CTRL_FB_EN 1) = false)) S))),
  (let S : State := R; let S : State := S.setFlag (domBit 0x120 67) false; let c : Option (BitVec 16) := none; let i : Option (BitVec 16) := none; let tau : Nat := 0; decide ((((fun s => s.domOn 67 = false)) S))),
  (let S : State := (let s := upd R [(F.LOOP.LOOP_CTRL_MODE 3, 2)]; { s with eng := { s.eng with hv := [7, 7, 7, 7] } }); let n : Fin 8 := 3; let tau : Nat := 0; let hv : List (Option (BitVec 16)) := []; let y : Int := 7; decide (((n = 3 → hv = [])) ∧ (((fun s => s.domOn 67 = true ∧ s.loopDue n = true ∧ (n = 1 → (s.loop 1).holdPend = false) ∧ s.flag (F.LOOP.LOOP_STAT_SWAP_PEND n) = false ∧ s.mode n = 2 ∧ s.measOf n = some y)) S))),
  (let S : State := R; let n : Fin 8 := 0; let tau : Nat := 0; let hv : List (Option (BitVec 16)) := []; decide ((n ≠ 5) ∧ (n ≠ 6) ∧ (((fun s => s.domOn 67 = false ∨ s.loopDue n = false)) S))),
  (let S : State := R; let s : State := S; let n : Nat := 0; let y : Int := 0; let c := s.coef n; let x := s.loop n; let e := sat32 (clampI (s.spOf n - y) (-c.elim) c.elim); let i := clampInteg c (x.integ + c.ki * e); let xs := if c.dsrc then sat32 (-y) else e; let df := sat32 (x.df + rnd (c.kf * (xs - x.xPrev - x.df)) 16); let u := clampI (rnd (c.kp * e) c.sp + i.2.1 + rnd (c.kd * df) c.sd) c.outmin c.outmax; decide ((n ≤ 7))),
  (let S : State := R; let s : State := S; let n : Nat := 2; let y : Int := 7; let c := s.coef n; let x := s.loop n; let e := sat32 (clampI (s.spOf n - y) (-c.elim) c.elim); let i := clampInteg c (x.integ + c.ki * e); let xs := if c.dsrc then sat32 (-y) else e; let df := sat32 (x.df + rnd (c.kf * (xs - x.xPrev - x.df)) 16); let u := clampI (rnd (c.kp * e) c.sp + i.2.1 + rnd (c.kd * df) c.sd) c.outmin c.outmax; let m := 3; decide ((n ≤ 7) ∧ (s.innerOf n = some m))),
  (let v : Int := 0; let k := 1; decide ((0 < k)))].all id = true := by decide +kernel

/-- States and operands that meet the hypotheses of the clauses of Obligations.ReceiverBias. -/
theorem hyps_ReceiverBias : [
  (let S : State := R; let S : State := S.setFlag (domBit 0x120 69) true; let hv : BitVec 16 := 0; decide ((((fun s => s.domOn 69 = true)) S))),
  (let S : State := R; let S : State := S.setFlag (domBit 0x120 69) false; let hv : BitVec 16 := 0; decide ((((fun s => s.domOn 69 = false)) S))),
  (let S : State := R; let S : State := { S with eng.hvSpad := (30000) - 1 }; let via : Port := .spi; let seq : BitVec 16 := 0; runsAt ((.hvOvpClear via seq)) S (fun s => decide (((fun u => u.touchesOff (F.RX.RX_STAT_HV_OVP.addr) (1) = false ∧ u.noStep (wordAddrs (F.RX.RX_STAT_HV_OVP.addr) (1)) = true ∧ ((fun u => (u.pw.st = .ready ∨ u.pw.st = .safeHold) ∧ u.eng.hvSpad < 30000)) u)) s))),
  (let S : State := Rst .scanning; let via : Port := .spi; let seq : BitVec 16 := 0; runsAt ((.hvOvpClear via seq)) S (fun s => decide (((fun u => u.touchesOff (F.RX.RX_STAT_HV_OVP.addr) (1) = false ∧ u.noStep (wordAddrs (F.RX.RX_STAT_HV_OVP.addr) (1)) = true ∧ ((fun u => (u.pw.st ≠ .ready ∧ u.pw.st ≠ .safeHold) ∨ 30000 ≤ u.eng.hvSpad)) u)) s))),
  (let S : State := R; let S : State := S.setFlag (domBit 0x120 69) true; let l : List (Option Nat) := []; decide ((((fun s => s.domOn 69 = true)) S))),
  (let S : State := R; let S : State := S.setFlag (domBit 0x120 69) false; let l : List (Option Nat) := []; decide ((((fun s => s.domOn 69 = false)) S))),
  (let S : State := (List.range 48).foldl (fun s k => s.setRefCell k ⟨64, 6400, 0⟩) R; decide ((((fun s => s.domOn 69 = true ∧ 4 ≤ (allBanks.filterMap (fun b => (s.vexBank b).1)).length)) S))),
  (let S : State := R; let S : State := S.setFlag (domBit 0x120 69) true; decide ((((fun s => s.domOn 69 = true ∧ (allBanks.filterMap (fun b => (s.vexBank b).1)).length < 4)) S))),
  (let S : State := R; let S : State := S.setFlag (domBit 0x120 69) false; decide ((((fun s => s.domOn 69 = false)) S)))].all id = true := by decide +kernel

/-- States and operands that meet the hypotheses of the clauses of Obligations.RowFrontEnds. -/
theorem hyps_RowFrontEnds : [
  (let S : State := (R.setRxBank 0 { R.rxBank 0 with isOpen := true }).setBank 0 { R.bank 0 with outcome := .fired, curRx := 3 }; let r : Fin 1024 := 5; decide ((((fun s => s.rowOn r = true ∧ s.shotInAir (r / 128) = true ∧ (s.rxBank (r / 128)).isOpen = true ∧ (s.row r).shots.all (fun q => !(q.col == (s.bank (r / 128)).curCol && q.j == (s.bank (r / 128)).curShot)) = true)) S))),
  (let S : State := R; let r : Fin 1024 := 0; decide ((((fun s => s.rowOn r = false ∨ s.shotInAir (r / 128) = false ∨ (s.rxBank (r / 128)).isOpen = false)) S))),
  (let S : State := R; let r : Fin 1024 := 0; let q : RowShot := ⟨0, 0, 0, .none⟩; let rest : List RowShot := []; let S : State := S.setRow r { S.row r with shots := q :: rest }; let n : Nat := 0; let l : List Nat := []; decide ((((fun s => (s.row r).shots = q :: rest)) S))),
  (let S : State := R; let r : Fin 1024 := 0; let S : State := S.setRow r { S.row r with shots := [] }; let n : Nat := 0; let l : List Nat := []; decide ((((fun s => (s.row r).shots = [])) S))),
  (let S : State := ((R.setRxBank 0 { R.rxBank 0 with isOpen := true }).setRow 5 { R.row 5 with shots := [⟨0, 0, 1, .pending⟩] }).set (F.ROW.EN_LO 5 0) 1; let r : Fin 1024 := 5; let q : Fin 8 := 0; let c : Fin 36 := 0; decide ((((fun s => (s.row r).shots.any (fun k => k.mask / 2 ^ q.val % 2 == 1) = true ∧ s.cellMap r q / 2 ^ c.val % 2 = 1)) S))),
  (let S : State := R; let r : Fin 1024 := 0; let q : Fin 8 := 0; let c : Fin 36 := 0; decide ((((fun s => (s.row r).shots.any (fun k => k.mask / 2 ^ q.val % 2 == 1) = false ∨ s.cellMap r q / 2 ^ c.val % 2 = 0)) S))),
  (let S : State := R; let r : Fin 1024 := 0; let cc : Nat := 0; let p : Fin 8 := 0; let n : Nat := 0; decide ((((fun s => s.rowOn r = false ∨ (s.rxBank (r / 128)).isOpen = false ∨ (s.row r).shots = [] ∨ n < s.needCells r)) S))),
  (let S : State := (R.setRxBank 0 { R.rxBank 0 with isOpen := true }).setRow 5 { R.row 5 with shots := [⟨0, 0, 1, .pending⟩], last := some 80 }; let r : Fin 1024 := 5; let cc : Nat := 10; let p : Fin 8 := 1; let n : Nat := 8; decide ((((fun s => s.rowOn r = true ∧ (s.rxBank (r / 128)).isOpen = true ∧ (s.row r).shots ≠ [] ∧ s.needCells r ≤ n ∧ (s.row r).last.any (fun u : Int => decide (u ≤ 8 * cc + p.val ∧ (8 * cc + p.val : Int) < u + 8 * s.getAt (r / 128) F.RX.RX_TIME_HOLDOFF)) = true)) S))),
  (let S : State := (R.setRxBank 0 { R.rxBank 0 with isOpen := true }).setRow 5 { R.row 5 with shots := [⟨0, 0, 1, .pending⟩] }; let r : Fin 1024 := 5; let cc : Nat := 10; let p : Fin 8 := 1; let n : Nat := 8; decide ((((fun s => s.rowOn r = true ∧ (s.rxBank (r / 128)).isOpen = true ∧ (s.row r).shots ≠ [] ∧ s.needCells r ≤ n ∧ (s.row r).last.any (fun u : Int => decide (u ≤ 8 * cc + p.val ∧ (8 * cc + p.val : Int) < u + 8 * s.getAt (r / 128) F.RX.RX_TIME_HOLDOFF)) = false)) S))),
  (let S : State := R; let via : Port := .spi; let seq : BitVec 16 := 0; let r : Fin 1024 := 0; let q : Fin 8 := 0; let lo : BitVec 32 := 0; let hi : BitVec 32 := 0; let n := popCount 36 (lo.toNat + 2 ^ 32 * bitsOf hi.toNat 0 4); decide ((n ≤ 32)) && runsAt ((.cellMapWrite via seq r q lo hi)) S (fun s => decide (((fun u => u.touchesOff ((F.ROW.EN_LO r q).addr) (2) = false ∧ u.noStep (wordAddrs ((F.ROW.EN_LO r q).addr) (2)) = true ∧ ((fun u => u.pw.st ≠ .scanning)) u)) s))),
  (let S : State := R; let lo : BitVec 32 := 0; let hi : BitVec 32 := 0; let S : State := { S with pw.st := .scanning }; let via : Port := .spi; let seq : BitVec 16 := 0; let r : Fin 1024 := 0; let q : Fin 8 := 0; let n := popCount 36 (lo.toNat + 2 ^ 32 * bitsOf hi.toNat 0 4); decide ((n ≤ 32)) && runsAt ((.cellMapWrite via seq r q lo hi)) S (fun s => decide (((fun u => u.touchesOff ((F.ROW.EN_LO r q).addr) (2) = false ∧ u.noStep (wordAddrs ((F.ROW.EN_LO r q).addr) (2)) = true ∧ ((fun u => u.pw.st = .scanning)) u)) s))),
  (let S : State := R; let via : Port := .spi; let seq : BitVec 16 := 0; let r : Fin 1024 := 0; let q : Fin 8 := 0; let lo : BitVec 32 := 0xFFFFFFFF; let hi : BitVec 32 := 1; let n := popCount 36 (lo.toNat + 2 ^ 32 * bitsOf hi.toNat 0 4); decide ((32 < n)) && runsAt ((.cellMapWrite via seq r q lo hi)) S (fun s => decide (((fun u => u.touchesOff ((F.ROW.EN_LO r q).addr) (2) = false ∧ u.noStep (wordAddrs ((F.ROW.EN_LO r q).addr) (2)) = true ∧ ((fun u => u.pw.st ≠ .scanning)) u)) s))),
  (let S : State := R; let via : Port := .spi; let seq : BitVec 16 := 0; let k : Fin 6 := 0; let v : BitVec 32 := R.rd 0x40020; runsAt ((.ladderWrite via seq k v)) S (fun s => decide (((fun u => u.touchesOff ((0x40020 + 4 * k.val)) (1) = false ∧ u.noStep (wordAddrs ((0x40020 + 4 * k.val)) (1)) = true ∧ ((fun u => (ladderOk (fun j => if j = k.val then v.toNat else (u.rd (0x40020 + 4 * j)).toNat) (u.get F.RX.ADAPT_CFG_STEP_MAX)) = true ∧ u.pw.st ≠ .scanning)) u)) s))),
  (let S : State := R; let S : State := { S with pw.st := .scanning }; let via : Port := .spi; let seq : BitVec 16 := 0; let k : Fin 6 := 0; let v : BitVec 32 := R.rd 0x40020; runsAt ((.ladderWrite via seq k v)) S (fun s => decide (((fun u => u.touchesOff ((0x40020 + 4 * k.val)) (1) = false ∧ u.noStep (wordAddrs ((0x40020 + 4 * k.val)) (1)) = true ∧ ((fun u => (ladderOk (fun j => if j = k.val then v.toNat else (u.rd (0x40020 + 4 * j)).toNat) (u.get F.RX.ADAPT_CFG_STEP_MAX)) = true ∧ u.pw.st = .scanning)) u)) s))),
  (let S : State := R; let via : Port := .spi; let seq : BitVec 16 := 0; let k : Fin 6 := 0; let v : BitVec 32 := 0; runsAt ((.ladderWrite via seq k v)) S (fun s => decide (((fun u => u.touchesOff ((0x40020 + 4 * k.val)) (1) = false ∧ u.noStep (wordAddrs ((0x40020 + 4 * k.val)) (1)) = true ∧ ((fun u => (ladderOk (fun j => if j = k.val then v.toNat else (u.rd (0x40020 + 4 * j)).toNat) (u.get F.RX.ADAPT_CFG_STEP_MAX)) = false)) u)) s)))].all id = true := by decide +kernel

/-- States and operands that meet the hypotheses of the clauses of Obligations.HistogramSlices. -/
theorem hyps_HistogramSlices : [
  (let S : State := R.setRow 5 { R.row 5 with queue := [⟨4, 1, false, 17⟩], acc := { (R.row 5).acc with col := 4 } }; let r : Fin 1024 := 5; let lane : Bool := true; let i : HistInc := ⟨4, 1, false, 17⟩; decide ((((fun s => (s.row r).queue.find? (fun q => q.lane == bit lane) = some i ∧ (s.row r).corrupt = [] ∧ (s.slice (rowSlice r)).inject = none ∧ i.col = (s.row r).acc.col)) S))),
  (let S : State := R.setRow 5 { R.row 5 with queue := [⟨4, 1, false, 17⟩], acc := { (R.row 5).acc with col := 4 } }; let r : Fin 1024 := 5; let lane : Bool := true; let i : HistInc := ⟨4, 1, false, 17⟩; decide ((((fun s => (s.row r).queue.find? (fun q => q.lane == bit lane) = some i ∧ (s.row r).corrupt = [])) S))),
  (let S : State := R.setRow 5 { R.row 5 with queue := [⟨4, 1, false, 17⟩], acc := { (R.row 5).acc with col := 4 } }; let r : Fin 1024 := 5; let lane : Bool := true; let i : HistInc := ⟨4, 1, false, 17⟩; decide ((((fun s => (s.row r).queue.find? (fun q => q.lane == bit lane) = some i ∧ (s.row r).corrupt = [] ∧ i.col = (s.row r).acc.col)) S))),
  (let S : State := R; let r : Fin 1024 := 0; let lane : Bool := true; let e : Fin 3 := 0; decide ((((fun s => (s.row r).queue.find? (fun q => q.lane == bit lane) = none)) S))),
  (let b : RowBuf := RowBuf.empty 0; let i : HistInc := ⟨4, 1, false, 17⟩; decide ((i.zoom = false) ∧ (spWf (fun _ => 0) b.coarse = true))),
  (let b : RowBuf := RowBuf.empty 0; let i : HistInc := ⟨4, 1, false, 17⟩; let k := 18; decide ((i.zoom = false) ∧ (spWf (fun _ => 0) b.coarse = true) ∧ (k ≠ i.key))),
  (let S : State := R; let via : Port := .spi; let seq : BitVec 16 := 0; let i : Fin 128 := 0; let v : BitVec 32 := 0x45; decide ((bitsOf v.toNat 6 2 = 1 ∨ bitsOf v.toNat 6 2 = 2)) && runsAt ((.slcEccInjWrite via seq i v)) S (fun s => decide (((fun u => u.touchesOff ((F.SLC.SLC_ECC_INJ_BITS i).addr) (1) = false ∧ u.noStep (wordAddrs ((F.SLC.SLC_ECC_INJ_BITS i).addr) (1)) = true ∧ ((fun _ => True)) u)) s))),
  (let S : State := R; let via : Port := .spi; let seq : BitVec 16 := 0; let i : Fin 128 := 0; let v : BitVec 32 := 0; decide ((bitsOf v.toNat 6 2 = 0 ∨ bitsOf v.toNat 6 2 = 3)) && runsAt ((.slcEccInjWrite via seq i v)) S (fun s => decide (((fun u => u.touchesOff ((F.SLC.SLC_ECC_INJ_BITS i).addr) (1) = false ∧ u.noStep (wordAddrs ((F.SLC.SLC_ECC_INJ_BITS i).addr) (1)) = true ∧ ((fun _ => True)) u)) s))),
  (let S : State := Rscan; let r : Fin 1024 := 0; let S : State := S.setRow r { S.row r with snap := false }; decide ((((fun s => s.rowOn r = true ∧ s.slotsRun = true ∧ (s.row r).snap = false)) S))),
  (let S : State := R; let r : Fin 1024 := 0; decide ((((fun s => s.rowOn r = false ∨ s.slotsRun = false ∨ (s.row r).snap = true)) S))),
  (let S : State := R; let b : Fin 8 := 0; let S : State := S.setFlag (domBit 0x120 69) true; let S : State := S.setRxBank b { S.rxBank b with isOpen := true }; decide ((((fun s => s.domOn 69 = true ∧ (s.rxBank b).isOpen = true)) S))),
  (let S : State := R; let b : Fin 8 := 0; decide ((((fun s => s.domOn 69 = false ∨ (s.rxBank b).isOpen = false)) S)))].all id = true := by decide +kernel

/-- States and operands that meet the hypotheses of the clauses of Obligations.PeakEngine. -/
theorem hyps_PeakEngine : [
  (let S : State := R; let r : Fin 1024 := 0; let S : State := S.setFlag (domBit 0x120 69) true; let S : State := S.setFlag (domBit 0x120 (70 + rowRegion r)) true; let S : State := S.setRow r { S.row r with corrupt := [] }; let S : State := { S with rx.dump := none }; let w : Fin 144 := 0; decide ((((fun s => s.domOn 69 = true ∧ s.domOn (70 + rowRegion r) = true ∧ (s.row r).corrupt = [] ∧ s.rx.dump = none)) S))),
  (let S : State := Roff 69; let r : Fin 1024 := 0; let e : Fin 3 := 0; let w : Fin 144 := 0; decide ((((fun s => s.domOn 69 = false ∨ s.domOn (70 + rowRegion r) = false)) S))),
  (let S : State := R.setRegion 0 { R.region 0 with rows := [⟨7, false, false, false, false, false, false, false, false, 0, 0, 0, false, false, []⟩], col := 0 }; let g : Fin 4 := 0; decide ((((fun s => s.domOn (70 + g) = true ∧ (s.region g).rows ≠ [] ∧ (s.region g).checkPend = false ∧ (s.region g).col % s.nCol = 0 ∧ s.fenced g = false)) S))),
  (let S : State := (let s : State := R.setRegion 0 { R.region 0 with rows := [⟨7, false, false, false, false, false, false, false, false, 0, 0, 0, false, false, []⟩], col := 7 }; { s with ps := { s.ps with cols := [⟨7, 0, 0, true, [], [], some 100, false, [], 0, false, false, false, false, false⟩] } }); let g : Fin 4 := 0; decide ((((fun s => s.domOn (70 + g) = true ∧ (s.region g).rows ≠ [] ∧ (s.region g).checkPend = false ∧ (s.region g).col % s.nCol ≠ 0)) S))),
  (let S : State := R; let g : Fin 4 := 0; decide ((((fun s => s.domOn (70 + g) = false ∨ (s.region g).rows = [] ∨ (s.region g).checkPend = true)) S))),
  (let S : State := (let s : State := R.setRegion 0 { R.region 0 with rows := [⟨7, false, false, false, false, false, false, false, false, 0, 0, 0, false, false, []⟩], col := 7, checkPend := true }; { s with ps := { s.ps with cols := [⟨7, 0, 0, true, [], [], some 100, false, [], 0, false, false, false, false, false⟩] } }); let g : Fin 4 := 0; decide ((((fun s => s.domOn (70 + g) = true ∧ (s.region g).checkPend = true)) S))),
  (let S : State := R; let g : Fin 4 := 0; let S : State := S.setFlag (domBit 0x120 (70 + g)) true; let S : State := S.setRegion g { S.region g with checkPend := true }; decide ((((fun s => s.domOn (70 + g) = true ∧ (s.region g).checkPend = true)) S))),
  (let S : State := R; let g : Fin 4 := 0; let m : Bool := true; decide ((((fun s => s.domOn (70 + g) = false ∨ (s.region g).checkPend = false)) S))),
  (let S : State := R; let via : Port := .spi; let seq : BitVec 16 := 0; let a : BitVec 32 := 0x50008; let v : Word := 0x12345; let g : Fin 4 := 0; decide ((a.toNat % 4 = 0) ∧ (0x50000 + 0x4000 * g.val ≤ a.toNat) ∧ (a.toNat ≤ 0x50028 + 0x4000 * g.val)) && runsAt ((.peConfigWrite via seq a [v])) S (fun s => decide (((fun u => u.touchesOff (a.toNat) (1) = false ∧ u.noStep (wordAddrs (a.toNat) (1)) = true ∧ ((fun u => u.pw.st ≠ .scanning)) u)) s))),
  (let S : State := R; let S : State := { S with pw.st := .scanning }; let via : Port := .spi; let seq : BitVec 16 := 0; let a : BitVec 32 := 0x50008; let v : Word := 0x12345; let g : Fin 4 := 0; decide ((a.toNat % 4 = 0) ∧ (0x50000 + 0x4000 * g.val ≤ a.toNat) ∧ (a.toNat ≤ 0x50028 + 0x4000 * g.val)) && runsAt ((.peConfigWrite via seq a [v])) S (fun s => decide (((fun u => u.touchesOff (a.toNat) (1) = false ∧ u.noStep (wordAddrs (a.toNat) (1)) = true ∧ ((fun u => u.pw.st = .scanning)) u)) s))),
  (let S : State := R; let via : Port := .spi; let seq : BitVec 16 := 0; let a : BitVec 32 := 0x50100; let v : Word := 0x01010101; let g : Fin 4 := 0; decide ((a.toNat % 4 = 0) ∧ (0x50100 + 0x4000 * g.val ≤ a.toNat) ∧ (a.toNat < 0x50180 + 0x4000 * g.val)) && runsAt ((.peConfigWrite via seq a [v])) S (fun s => decide (((fun u => u.touchesOff (a.toNat) (1) = false ∧ u.noStep (wordAddrs (a.toNat) (1)) = true ∧ ((fun u => u.pw.st ≠ .scanning)) u)) s))),
  (let S : State := R; let S : State := { S with pw.st := .scanning }; let via : Port := .spi; let seq : BitVec 16 := 0; let a : BitVec 32 := 0x50100; let v : Word := 0x01010101; let g : Fin 4 := 0; decide ((a.toNat % 4 = 0) ∧ (0x50100 + 0x4000 * g.val ≤ a.toNat) ∧ (a.toNat < 0x50180 + 0x4000 * g.val)) && runsAt ((.peConfigWrite via seq a [v])) S (fun s => decide (((fun u => u.touchesOff (a.toNat) (1) = false ∧ u.noStep (wordAddrs (a.toNat) (1)) = true ∧ ((fun u => u.pw.st = .scanning)) u)) s)))].all id = true := by decide +kernel

/-- States and operands that meet the hypotheses of the clauses of Obligations.PointStream. -/
theorem hyps_PointStream : [
  (let S : State := R; let f : FrameInfo := ⟨0, true, 3003, 0, 0, false, true, 5, 0, none, false, 0, 4, 0, 0, none, 3⟩; let k : ColInfo := ⟨7, 0, 0, true, [], [], some 100, false, [(0, []), (1, []), (2, []), (3, [])], 0, false, false, false, false, false⟩; let S : State := (let s : State := upd S [(F.PS.PS_CTRL_EN, 1), (F.PS.PS_CTRL_AMB_EN, 0)]; { s with ps := { s.ps with frames := [f], cols := [k] } }); let l : List FrameInfo := []; decide ((((fun s => s.ps.frames = f :: l ∧ s.ps.cols.find? (fun k => !k.built) = some k ∧ s.domOn 74 = true ∧ f.placed = true ∧ f.c0 ≤ k.c ∧ k.c < f.c0 + f.cols ∧ s.partsMissing k = [] ∧ s.flag F.PS.PS_CTRL_AMB_EN = false ∧ s.psEn = true ∧ s.level = 0 ∧ s.ps.chain = [] ∧ s.ps.run1 = none ∧ s.streamLevel 1 + (s.columnRecord f k).1.length + 64 ≤ 262144)) S))),
  (let S : State := R; let k : ColInfo := colB; decide ((((fun s => s.ps.frames = [] ∨ (s.ps.cols.find? (fun k => !k.built) = some k ∧ s.partsMissing k ≠ []) ∨ s.domOn 74 = false)) S))),
  (let S : State := (R.setRxBank 0 { R.rxBank 0 with accCol := 9 }); let S : State := { S with ps := { S.ps with cols := [⟨7, 0, 0, true, [], [], some 100, false, [], 0, false, false, false, false, false⟩] } }; let k : ColInfo := ⟨7, 0, 0, true, [], [], some 100, false, [], 0, false, false, false, false, false⟩; decide ((((fun s => s.ps.cols.find? (fun k => !k.built) = some k ∧ s.domOn 74 = true ∧ k.c + 2 ≤ (s.rxBank 0).accCol ∧ s.partsMissing k ≠ [])) S))),
  (let S : State := { R with ps := { R.ps with cols := [⟨7, 0, 0, true, [], [], some 100, false, [], 0, false, false, false, false, false⟩] } }; let k : ColInfo := ⟨7, 0, 0, true, [], [], some 100, false, [], 0, false, false, false, false, false⟩; decide ((((fun s => s.ps.cols.find? (fun k => !k.built) = some k ∧ (s.domOn 74 = false ∨ (s.rxBank 0).accCol < k.c + 2 ∨ s.partsMissing k = []))) S))),
  (let S : State := (let s : State := upd R [(F.PS.PS_CTRL_EN, 1)]; { s with ps := { s.ps with frames := [⟨0, true, 3003, 0, 0, false, true, 5, 0, some 99, false, 0, 4, 0, 0, none, 3⟩] } }); let f : FrameInfo := ⟨0, true, 3003, 0, 0, false, true, 5, 0, some 99, false, 0, 4, 0, 0, none, 3⟩; decide ((((fun s => s.ps.frames = [f] ∧ s.domOn 74 = true ∧ f.placed = true ∧ f.ends.isSome = true ∧ s.ps.cols.all (fun k => k.built || !decide (f.c0 ≤ k.c ∧ k.c < f.c0 + f.cols)) = true ∧ s.psEn = true ∧ s.level = 0 ∧ s.ps.chain = [] ∧ s.ps.run1 = none ∧ s.streamLevel 1 + (s.frameEndRecord f).length + 64 ≤ 262144)) S))),
  (let S : State := R; decide ((((fun s => s.ps.frames = [] ∨ s.domOn 74 = false)) S))),
  (let S : State := R; let u : List Byte := []; let l : List (List Byte) := []; let S : State := { S with ps.chain := u :: l }; let S : State := S.setFlag (domBit 0x120 74) true; decide ((((fun s => s.ps.chain = u :: l ∧ s.domOn 74 = true ∧ s.streamLevel 1 + u.length + 64 ≤ 262144)) S))),
  (let S : State := R; decide ((((fun s => s.ps.chain = [] ∨ s.domOn 74 = false)) S))),
  (let S : State := (let s : State := upd R [(F.PS.COMP_CTRL_LEVEL, 8)]; { s with ps := { s.ps with compPend := some (8, 0) } }); let via : Port := .spi; let seq : BitVec 16 := 0; let v : BitVec 32 := 4; runsAt ((.psCtrlWrite via seq v)) S (fun s => decide (((fun u => u.touchesOff (F.PS.PS_CTRL_EN.addr) (1) = false ∧ u.noStep (wordAddrs (F.PS.PS_CTRL_EN.addr) (1)) = true ∧ ((fun u => (decide (bitsOf v.toNat 2 1 ≠ u.get F.PS.PS_CTRL_FORMAT) && levelShort u.boundLevel u.profileNow (bitsOf v.toNat 2 1)) = true)) u)) s))),
  (let S : State := R; let via : Port := .spi; let seq : BitVec 16 := 0; let v : BitVec 32 := 0; runsAt ((.psCtrlWrite via seq v)) S (fun s => decide (((fun u => u.touchesOff (F.PS.PS_CTRL_EN.addr) (1) = false ∧ u.noStep (wordAddrs (F.PS.PS_CTRL_EN.addr) (1)) = true ∧ ((fun u => (decide (bitsOf v.toNat 2 1 ≠ u.get F.PS.PS_CTRL_FORMAT) && levelShort u.boundLevel u.profileNow (bitsOf v.toNat 2 1)) = false)) u)) s))),
  (let S : State := { R with ps := { R.ps with chain := [[1]] } }; let via : Port := .spi; let seq : BitVec 16 := 0; let a : BitVec 32 := 0x2000040; let v : Word := 0; decide ((0x2000040 ≤ a.toNat) ∧ (a.toNat < 0x2000180)) && runsAt ((.ovfConfigWrite via seq a [v])) S (fun s => decide (((fun u => u.touchesOff (a.toNat) (1) = false ∧ u.noStep (wordAddrs (a.toNat) (1)) = true ∧ ((fun u => u.ps.chain ≠ [] ∨ (u.hostWrite a.toNat v).chainBad = true)) u)) s))),
  (let S : State := R; let S : State := { S with ps.chain := [] }; let via : Port := .spi; let seq : BitVec 16 := 0; let a : BitVec 32 := 33554496; let v : Word := 0; decide ((0x2000040 ≤ a.toNat) ∧ (a.toNat < 0x2000180)) && runsAt ((.ovfConfigWrite via seq a [v])) S (fun s => decide (((fun u => u.touchesOff (a.toNat) (1) = false ∧ u.noStep (wordAddrs (a.toNat) (1)) = true ∧ ((fun u => u.ps.chain = [] ∧ (u.hostWrite a.toNat v).chainBad = false)) u)) s)))].all id = true := by decide +kernel

/-- States and operands that meet the hypotheses of the clauses of Obligations.Compression. -/
theorem hyps_Compression : [
  (let S : State := R; let S : State := S.setFlag (domBit 0x120 74) true; let via : Port := .spi; let seq : BitVec 16 := 0; let l : Byte := 0; let n : Byte := 0; decide ((l.toNat ≤ 8) ∧ (n.toNat ≤ 7)) && runsAt ((.compConfig via seq l n)) S (fun s => decide (((fun u => u.domOn 74 = true ∧ u.pw.st ≠ .scanning ∧ levelShort l.toNat u.profileNow (u.get F.PS.PS_CTRL_FORMAT) = false)) s))),
  (let S : State := R; let S : State := S.setFlag (domBit 0x120 74) true; let S : State := { S with pw.st := .scanning }; let via : Port := .spi; let seq : BitVec 16 := 0; let l : Byte := 0; let n : Byte := 0; decide ((l.toNat ≤ 8) ∧ (n.toNat ≤ 7)) && runsAt ((.compConfig via seq l n)) S (fun s => decide (((fun u => u.domOn 74 = true ∧ u.pw.st = .scanning ∧ levelShort l.toNat u.profileNow u.ps.format = false)) s))),
  (let S : State := Rscan; let S : State := { S with ps := { S.ps with format := 1 } }; let via : Port := .spi; let seq : BitVec 16 := 0; let l : Byte := 8; let n : Byte := 0; decide ((l.toNat ≤ 8) ∧ (n.toNat ≤ 7)) && runsAt ((.compConfig via seq l n)) S (fun s => decide (((fun u => u.domOn 74 = true ∧ u.rangeBusy 0x0A00 = false ∧ u.pw.st = .scanning ∧ levelShort l.toNat u.profileNow u.ps.format = true)) s))),
  (let S : State := upd Rscanlv [(F.PS.CTX_STAT_VALID, 255)]; let via : Port := .spi; let seq : BitVec 16 := 0; let n : Byte := 0; let a : BitVec 64 := 0; decide ((n.toNat ≤ 7) ∧ (a.toNat % 64 = 0)) && runsAt ((.compContextSave via seq n a)) S (fun s => decide (((fun u => u.domOn 74 = true ∧ u.domOn 79 = true ∧ u.bitAt F.PS.CTX_STAT_VALID n.toNat = true ∧ a.toNat + 32832 ≤ u.dramSize ∧ u.rangeBusy 0x0A01 = false ∧ u.compressing n.toNat = true)) s))),
  (let S : State := R; let n : Byte := 0; let S : State := S.setFlag (domBit 0x120 74) true; let S : State := S.setFlag (domBit 0x120 79) true; let S : State := S.setBitAt F.PS.CTX_STAT_VALID n.toNat true; let via : Port := .spi; let seq : BitVec 16 := 0; let a : BitVec 64 := 0; decide ((n.toNat ≤ 7) ∧ (a.toNat % 64 = 0)) && runsAt ((.compContextSave via seq n a)) S (fun s => decide (((fun u => u.domOn 74 = true ∧ u.domOn 79 = true ∧ u.bitAt F.PS.CTX_STAT_VALID n.toNat = true ∧ a.toNat + 32832 ≤ u.dramSize ∧ u.rangeBusy 0x0A01 = false ∧ u.compressing n.toNat = false)) s))),
  (let S : State := R; let n : Byte := 0; let S : State := S.setFlag (domBit 0x120 74) true; let S : State := S.setFlag (domBit 0x120 79) true; let S : State := S.setBitAt F.PS.CTX_STAT_VALID n.toNat false; let via : Port := .spi; let seq : BitVec 16 := 0; let a : BitVec 64 := 0; decide ((n.toNat ≤ 7) ∧ (a.toNat % 64 = 0)) && runsAt ((.compContextSave via seq n a)) S (fun s => decide (((fun u => u.domOn 74 = true ∧ u.domOn 79 = true ∧ u.bitAt F.PS.CTX_STAT_VALID n.toNat = false)) s))),
  (let S : State := R; let S : State := S.setFlag (domBit 0x120 74) true; let S : State := S.setFlag (domBit 0x120 79) true; let via : Port := .spi; let seq : BitVec 16 := 0; let n : Byte := 0; let a : BitVec 64 := 0; decide ((n.toNat ≤ 7) ∧ (a.toNat % 64 = 0)) && runsAt ((.compContextRestore via seq n a)) S (fun s => decide (((fun u => u.domOn 74 = true ∧ u.domOn 79 = true ∧ a.toNat + 32832 ≤ u.dramSize ∧ u.rangeBusy 0x0A02 = false)) s))),
  (let S : State := { R with ps := { R.ps with save := some (1, 640), saved := some (1, [1, 2, 3]) }, cmd := { R.cmd with running := [⟨0x0A01, .spi, 7, 0⟩] } }; let n : Nat := 1; let m : Nat := 1; let a : Nat := 640; let img : List Byte := [1, 2, 3]; decide ((((fun s => s.ps.save = some (n, a) ∧ s.ps.saved = some (m, img) ∧ s.isRunning 0x0A01 = true)) S))),
  (let S : State := R; decide ((((fun s => s.ps.save = none ∨ s.ps.saved = none ∨ s.isRunning 0x0A01 = false)) S))),
  (let S : State := { R with ps := { R.ps with save := some (1, 640) }, cmd := { R.cmd with running := [⟨0x0A02, .spi, 7, 0⟩] } }; let n : Nat := 1; let a : Nat := 640; decide ((((fun s => s.ps.save = some (n, a) ∧ s.isRunning 0x0A02 = true ∧ imageOk (s.dramRead a 32832) = false)) S))),
  (let S : State := R; decide ((((fun s => s.ps.save = none ∨ s.isRunning 0x0A02 = false)) S))),
  (let S : State := R; let S : State := S.setFlag (domBit 0x120 79) true; let via : Port := .spi; let seq : BitVec 16 := 0; let src : BitVec 64 := 64; let dst : BitVec 64 := 4096; let len : BitVec 32 := 5; let lim : BitVec 32 := 10; decide ((len ≠ 0) ∧ (lim ≠ 0) ∧ ((src.toNat + len.toNat ≤ dst.toNat ∨ dst.toNat + lim.toNat ≤ src.toNat))) && runsAt ((.decompress via seq src len dst lim)) S (fun s => decide (((fun u => u.domOn 79 = true ∧ src.toNat + len.toNat ≤ u.dramSize ∧ dst.toNat + lim.toNat ≤ u.dramSize ∧ u.rangeBusy 0x0A03 = false)) s))),
  (let S : State := { { R with ps := { R.ps with decomp := some ⟨64, 1, 4096, 10⟩ }, cmd := { R.cmd with running := [⟨0x0A03, .spi, 7, 0⟩] } } with dram := [(64, 3), (65, 0)] }; let d : Decomp := ⟨64, 1, 4096, 10⟩; decide ((((fun s => s.ps.decomp = some d ∧ s.isRunning 0x0A03 = true)) S))),
  (let S : State := R; decide ((((fun s => s.ps.decomp = none ∨ s.isRunning 0x0A03 = false)) S)))].all id = true := by decide +kernel

/-- States and operands that meet the hypotheses of the clauses of Obligations.CameraCommands. -/
theorem hyps_CameraCommands : [
  (let S : State := R; let S : State := S.setFlag (domBit 0x120 75) true; let via : Port := .spi; let seq : BitVec 16 := 0; let n : Byte := 0; let b : List Byte := camB 256 128 3000; decide ((n.toNat ≤ 1) ∧ (b.length = 64)) && runsAt ((.camConfig via seq n b)) S (fun s => decide (((fun u => u.domOn 75 = true ∧ u.camRuns n.toNat = false ∧ (camBlockBad b u.dramSize).all (fun e => !e.1) = true)) s))),
  (let S : State := Rcam; let via : Port := .spi; let seq : BitVec 16 := 0; let n : Byte := 0; let b : List Byte := camB 256 128 3000; decide ((n.toNat ≤ 1) ∧ (b.length = 64)) && runsAt ((.camConfig via seq n b)) S (fun s => decide (((fun u => u.domOn 75 = true ∧ u.camRuns n.toNat = true)) s))),
  (let S : State := R; let S : State := S.setFlag (domBit 0x120 75) true; let via : Port := .spi; let seq : BitVec 16 := 0; let n : Byte := 0; let b : List Byte := camB 255 128 3000; let k := 3; decide ((n.toNat ≤ 1) ∧ (b.length = 64)) && runsAt ((.camConfig via seq n b)) S (fun s => decide (((fun u => u.domOn 75 = true ∧ u.camRuns n.toNat = false ∧ (camBlockBad b u.dramSize).find? (fun e => e.1) = some (true, k))) s))),
  (let S : State := R; let n : Byte := 0; let S : State := S.setFlag (domBit 0x120 75) true; let S : State := S.setFlag (F.CAM.CSI_STAT_CONFIGURED n.toNat) true; let via : Port := .spi; let seq : BitVec 16 := 0; decide ((n.toNat ≤ 1)) && runsAt ((.camRun via seq n 1)) S (fun s => decide (((fun u => u.domOn 75 = true ∧ u.flag (F.CAM.CSI_STAT_CONFIGURED n.toNat) = true ∧ (u.flag F.PIPE.PIPE_CFG_MODE = true → 2 ≤ u8 (u.camBlock n.toNat) 7) ∧ u.camLoad n.toNat ≤ 115000000000)) s))),
  (let S : State := R; let n : Byte := 0; let S : State := S.setFlag (domBit 0x120 75) true; let S : State := S.setFlag (F.CAM.CSI_STAT_CONFIGURED n.toNat) false; let via : Port := .spi; let seq : BitVec 16 := 0; decide ((n.toNat ≤ 1)) && runsAt ((.camRun via seq n 1)) S (fun s => decide (((fun u => u.domOn 75 = true ∧ u.flag (F.CAM.CSI_STAT_CONFIGURED n.toNat) = false)) s))),
  (let S : State := upd (putBlock R 0 (camB 4096 2304 65535)) [(F.CAM.CSI_STAT_CONFIGURED 0, 1), (F.PIPE.PIPE_CFG_MODE, 0)]; let via : Port := .spi; let seq : BitVec 16 := 0; let n : Byte := 0; decide ((n.toNat ≤ 1)) && runsAt ((.camRun via seq n 1)) S (fun s => decide (((fun u => u.domOn 75 = true ∧ u.flag (F.CAM.CSI_STAT_CONFIGURED n.toNat) = true ∧ u.flag F.PIPE.PIPE_CFG_MODE = false ∧ 115000000000 < u.camLoad n.toNat)) s))),
  (let S : State := R; let n : Byte := 0; let S : State := S.setFlag (domBit 0x120 75) true; let S : State := S.setCam n.toNat { S.cam n.toNat with opened := none }; let via : Port := .spi; let seq : BitVec 16 := 0; decide ((n.toNat ≤ 1)) && runsAt ((.camRun via seq n 0)) S (fun s => decide (((fun u => u.domOn 75 = true ∧ (u.cam n.toNat).opened = none)) s))),
  (let S : State := Ropen; let via : Port := .spi; let seq : BitVec 16 := 0; let n : Byte := 0; decide ((n.toNat ≤ 1)) && runsAt ((.camRun via seq n 0)) S (fun s => decide (((fun u => u.domOn 75 = true ∧ (u.cam n.toNat).opened ≠ none)) s))),
  (let S : State := R; let S : State := S.setFlag (domBit 0x120 75) true; let via : Port := .spi; let seq : BitVec 16 := 0; let x : Byte := 0; let k : Byte := 3; let d : List Byte := [0, 0, 0, 0]; decide ((x.toNat ≤ 3) ∧ (stageLength k.toNat d.length = some true) ∧ ((stageBad k.toNat d).all (fun e => !e.1) = true)) && runsAt ((.pipeContextSet via seq x k d)) S (fun s => decide (((fun u => u.domOn 75 = true)) s))),
  (let S : State := R; let S : State := S.setFlag (domBit 0x120 75) true; let via : Port := .spi; let seq : BitVec 16 := 0; let x : Byte := 0; let k : Byte := 3; let d : List Byte := []; decide ((x.toNat ≤ 3) ∧ (stageLength k.toNat d.length = some false) ∧ (d.length < 65536)) && runsAt ((.pipeContextSet via seq x k d)) S (fun s => decide (((fun u => u.domOn 75 = true)) s))),
  (let S : State := R; let S : State := S.setFlag (domBit 0x120 75) true; let via : Port := .spi; let seq : BitVec 16 := 0; let x : Byte := 0; decide ((x.toNat ≤ 3)) && runsAt ((.statsRequest via seq x)) S (fun s => decide (((fun u => u.domOn 75 = true ∧ u.rangeBusy 0x0403 = false ∧ u.class5Refusing = false)) s))),
  (let S : State := R; let x : Fin 4 := 0; let closed : Bool := true; decide ((((fun s => s.isRunning 0x0403 = false ∨ s.runningTag 0x0403 ≠ some x.val)) S))),
  (let S : State := { R with vis := { R.vis with stats := some (0, some ([1, 2], jobA)) }, cmd := { R.cmd with running := [⟨0x0403, .spi, 7, 0⟩] } }; let x : Fin 4 := 0; let closed : Bool := true; let y : Nat := 0; let bytes : List Byte := [1, 2]; let j : Job := jobA; decide ((((fun s => s.isRunning 0x0403 = true ∧ s.runningTag 0x0403 = some x.val ∧ s.vis.stats = some (y, some (bytes, j)))) S))),
  (let S : State := { R with vis := { R.vis with stats := some (0, none) }, cmd := { R.cmd with running := [⟨0x0403, .spi, 7, 0⟩] } }; let x : Fin 4 := 0; let closed : Bool := true; let y : Nat := 0; decide ((((fun s => s.isRunning 0x0403 = true ∧ s.runningTag 0x0403 = some x.val ∧ s.vis.stats = some (y, none))) S))),
  (let S : State := R; let S : State := S.setFlag (domBit 0x120 75) true; let S : State := S.setFlag (domBit 0x120 79) true; let via : Port := .spi; let seq : BitVec 16 := 0; let x : Byte := 2; let a : BitVec 64 := 0; decide ((2 ≤ x.toNat) ∧ (x.toNat ≤ 3) ∧ (a.toNat % 64 = 0)) && runsAt ((.reprocess via seq x a)) S (fun s => decide (((fun u => u.domOn 75 = true ∧ u.domOn 79 = true ∧ a.toNat + 64 ≤ u.dramSize ∧ u.rangeBusy 0x0404 = false ∧ u.vis.jobs.any (fun j => j.ctx == x.toNat && j.deferred) = false)) s))),
  (let S : State := R; let x : Fin 4 := 0; let a : Nat := 0; decide ((((fun s => s.vis.repro = none ∨ s.isRunning 0x0404 = false)) S))),
  (let S : State := { R with vis := { R.vis with repro := some (2, 64, true) }, cmd := { R.cmd with running := [⟨0x0404, .spi, 7, 0⟩] } }; let x : Fin 4 := 2; let a : Nat := 64; decide ((((fun s => s.vis.repro = some (x.val, a, true) ∧ s.isRunning 0x0404 = true)) S))),
  (let S : State := { R with vis := { R.vis with repro := some (2, 64, false) }, cmd := { R.cmd with running := [⟨0x0404, .spi, 7, 0⟩] } }; let x : Fin 4 := 2; let a : Nat := 64; decide ((((fun s => s.vis.repro = some (x.val, a, false) ∧ s.isRunning 0x0404 = true ∧ s.vis.jobs.any (fun j => j.host) = false ∧ s.rawCheck a ≠ 0)) S))),
  (let S : State := Rcam; let via : Port := .spi; let seq : BitVec 16 := 0; let a : BitVec 32 := F.PIPE.PIPE_CFG_MODE.addr; let v : Word := 0; let held := decide (a.toNat = F.PIPE.PIPE_CFG_MODE.addr) || decide (F.PIPE.S3_BASE_LO.addr ≤ a.toNat ∧ a.toNat ≤ F.PIPE.S4_LEN.addr); decide ((0x3002000 ≤ a.toNat) ∧ (a.toNat < 0x3003000)) && runsAt ((.pipeCfgWrite via seq a [v])) S (fun s => decide (((fun u => u.touchesOff (a.toNat) (1) = false ∧ u.noStep (wordAddrs (a.toNat) (1)) = true ∧ ((fun u => held = true ∧ (u.camRuns 0 = true ∨ u.camRuns 1 = true))) u)) s))),
  (let S : State := R; let via : Port := .spi; let seq : BitVec 16 := 0; let a : BitVec 32 := 50339840; let v : Word := 0; let held := decide (a.toNat = F.PIPE.PIPE_CFG_MODE.addr) || decide (F.PIPE.S3_BASE_LO.addr ≤ a.toNat ∧ a.toNat ≤ F.PIPE.S4_LEN.addr); decide ((0x3002000 ≤ a.toNat) ∧ (a.toNat < 0x3003000)) && runsAt ((.pipeCfgWrite via seq a [v])) S (fun s => decide (((fun u => u.touchesOff (a.toNat) (1) = false ∧ u.noStep (wordAddrs (a.toNat) (1)) = true ∧ ((fun u => held = false ∨ (u.camRuns 0 = false ∧ u.camRuns 1 = false))) u)) s)))].all id = true := by decide +kernel

/-- States and operands that meet the hypotheses of the clauses of Obligations.CameraFrames. -/
theorem hyps_CameraFrames : [
  (let S : State := R; let n : Fin 2 := 0; let k : BitVec 16 := 0; decide ((((fun s => s.domOn 75 = false ∨ s.camRuns n = false)) S))),
  (let S : State := Rcam; let n : Fin 2 := 0; let k : BitVec 16 := 0; decide ((((fun s => s.domOn 75 = true ∧ s.camRuns n = true ∧ (s.cam n).opened = none ∧ (s.cam n).lastFs = none ∧ s.flag F.PIPE.PIPE_CFG_MODE = false ∧ s.get F.PIPE.PIPE_CFG_PRIO = n.val ∧ s.vis.cur = none)) S))),
  (let S : State := R; let n : Fin 2 := 0; let wc : BitVec 16 := 0; let crc : Bool := true; let px : List Byte := []; let hdr : Fin 3 := 0; let ovf : Bool := true; decide ((((fun s => s.domOn 75 = false ∨ s.camRuns n = false)) S))),
  (let S : State := Rcam; let n : Fin 2 := 0; let wc : BitVec 16 := 0; let crc : Bool := true; let px : List Byte := []; let hdr : Fin 3 := 0; let ovf : Bool := true; decide ((((fun s => s.domOn 75 = true ∧ s.camRuns n = true ∧ (s.cam n).opened = none)) S))),
  (let S : State := Ropen; let n : Fin 2 := 0; let wc : BitVec 16 := 0; let crc : Bool := true; let px : List Byte := []; let hdr : Fin 3 := 0; let ovf : Bool := true; let f : OpenFrame := opF; decide ((ovf = true) ∧ (((fun s => s.domOn 75 = true ∧ s.camRuns n = true ∧ (s.cam n).opened = some f)) S))),
  (let S : State := Ropen; let n : Fin 2 := 0; let wc : BitVec 16 := 0; let crc : Bool := true; let px : List Byte := []; let hdr : Fin 3 := 2; let ovf : Bool := false; let f : OpenFrame := opF; decide ((ovf = false) ∧ (hdr = 2) ∧ (((fun s => s.domOn 75 = true ∧ s.domOn 79 = true ∧ s.camRuns n = true ∧ (s.cam n).opened = some f)) S))),
  (let S : State := Ropen; let n : Fin 2 := 0; let wc : BitVec 16 := 0; let crc : Bool := false; let px : List Byte := []; let hdr : Fin 3 := 0; let ovf : Bool := false; let f : OpenFrame := opF; decide ((ovf = false) ∧ (hdr ≠ 2) ∧ (crc = false) ∧ (((fun s => s.domOn 75 = true ∧ s.domOn 79 = true ∧ s.camRuns n = true ∧ (s.cam n).opened = some f)) S))),
  (let S : State := Ropen; let n : Fin 2 := 0; let wc : BitVec 16 := 0; let crc : Bool := true; let px : List Byte := []; let hdr : Fin 3 := 0; let ovf : Bool := false; let f : OpenFrame := opF; decide ((ovf = false) ∧ (hdr ≠ 2) ∧ (crc = true) ∧ (((fun s => s.domOn 75 = true ∧ s.domOn 79 = true ∧ s.camRuns n = true ∧ (s.cam n).opened = some f ∧ wc.toNat * 8 ≠ s.camW n * dtBits (u8 (s.camBlock n) 2))) S))),
  (let S : State := Ropen; let n : Fin 2 := 0; let wc : BitVec 16 := 320; let crc : Bool := true; let px : List Byte := []; let hdr : Fin 3 := 0; let ovf : Bool := false; let f : OpenFrame := opF; decide ((ovf = false) ∧ (hdr = 0) ∧ (crc = true) ∧ (((fun s => s.domOn 75 = true ∧ s.domOn 79 = true ∧ s.camRuns n = true ∧ (s.cam n).opened = some f ∧ wc.toNat * 8 = s.camW n * dtBits (u8 (s.camBlock n) 2) ∧ f.lines < s.camH n ∧ f.raw = none)) S))),
  (let S : State := Ropen; let s : State := S; let n : Nat := 0; let r : Nat := 0; let f : OpenFrame := opF; decide ((n ≤ 1) ∧ ((s.cam n).opened = some f))),
  (let S : State := R; let n : Fin 2 := 0; let S : State := S.setCam n { S.cam n with opened := none }; let k : BitVec 16 := 0; let f : OpenFrame := opF; decide ((((fun s => (s.cam n).opened = none)) S))),
  (let S : State := R; let n : Fin 2 := 0; let f : OpenFrame := opF; let S : State := S.setFlag (domBit 0x120 75) true; let S : State := S.setCam n { S.cam n with opened := some f }; let k : BitVec 16 := 0; decide ((((fun s => s.domOn 75 = true ∧ (s.cam n).opened = some f ∧ s.camH n ≤ f.lines)) S))),
  (let S : State := R; let n : Fin 2 := 0; let k : BitVec 16 := 0; let f : OpenFrame := opF; decide ((((fun s => (s.cam n).opened = none ∨ s.domOn 75 = false)) S))),
  (let S : State := Ropen; let n : Fin 2 := 0; let k : BitVec 16 := 0; let f : OpenFrame := opF; decide ((((fun s => s.domOn 75 = true ∧ (s.cam n).opened = some f ∧ f.lines < s.camH n)) S))),
  (let S : State := R; let n : Fin 2 := 0; let vc : BitVec 4 := 0; let dt : BitVec 6 := 0; let px : List Byte := []; let f : OpenFrame := opF; decide ((((fun s => s.domOn 75 = false ∨ s.camRuns n = false ∨ dt.toNat < 8)) S))),
  (let S : State := Rcam; let n : Fin 2 := 0; let vc : BitVec 4 := 0; let dt : BitVec 6 := 9; let px : List Byte := []; let f : OpenFrame := opF; decide ((((fun s => s.domOn 75 = true ∧ s.camRuns n = true ∧ 8 ≤ dt.toNat ∧ (s.cam n).opened = none ∧ (vc.toNat ≠ u8 (s.camBlock n) 1 ∨ dt.toNat ≠ u8 (s.camBlock n) 2))) S))),
  (let S : State := Ropen; let n : Fin 2 := 0; let vc : BitVec 4 := 0; let dt : BitVec 6 := 0; let px : List Byte := []; let f : OpenFrame := opF; decide ((((fun s => s.domOn 75 = true ∧ s.camRuns n = true ∧ (s.cam n).opened = some f ∧ vc.toNat = u8 (s.camBlock n) 1 ∧ u8 (s.camBlock n) 2 ≠ 0x12 ∧ u8 (s.camBlock n) 3 = 1)) S))),
  (let S : State := Roff 75; decide ((((fun s => s.domOn 75 = false ∨ s.flag F.PIPE.PIPE_CFG_MODE = true ∨ s.vis.cur ≠ none)) S))),
  (let S : State := { R with vis := { R.vis with jobs := [{ jobA with deferred := true, started := false }] } }; let j : Job := { jobA with deferred := true, started := false }; decide ((((fun s => s.domOn 75 = true ∧ s.flag F.PIPE.PIPE_CFG_MODE = false ∧ s.vis.cur = none ∧ s.vis.jobs.find? (fun j => j.deferred && j.closed && !j.started) = some j ∧ s.get F.PIPE.PIPE_CFG_PRIO = j.cam)) S))),
  (let S : State := R; let x : Fin 4 := 0; decide ((((fun s => s.domOn 75 = false ∨ s.flag F.PIPE.PIPE_CFG_MODE = false)) S))),
  (let S : State := (let s : State := upd R [(F.PIPE.PIPE_CFG_MODE, 1)]; { s with vis := { s.vis with jobs := [{ jobA with live := false, started := false }] } }); let x : Fin 4 := 0; let j : Job := { jobA with live := false, started := false }; decide ((x.val < 2) ∧ (((fun s => s.domOn 75 = true ∧ s.flag F.PIPE.PIPE_CFG_MODE = true ∧ s.vis.jobs.find? (fun j => j.ctx == x.val && !j.live && s.stripeOf j) = some j)) S))),
  (let S : State := R; let x : Fin 4 := 0; let coding : Bool := true; let level : Fin 3 := 0; let j : Job := jobA; decide ((((fun s => s.ctxJob x = none)) S))),
  (let S : State := (let s : State := upd R [(F.PIPE.S3_LEN, 262144)]; { s with vis := { s.vis with jobs := [jobA] } }); let x : Fin 4 := 0; let coding : Bool := false; let level : Fin 3 := 0; let j : Job := jobA; let b := branch j.bank (if coding then 0x0F else 0x10); let key := if coding then 8 else level.val; let first := spGet (fun _ => 0) j.sent key; let w := b.w / 2 ^ level.val; let lines := min (64 / 2 ^ level.val) (b.h / 2 ^ level.val - first); let k := if coding then 4 else 3; decide ((b.en = true) ∧ ((if coding then level = 0 else level.val < b.flags / 4 % 4)) ∧ (first < b.h / 2 ^ level.val) ∧ (((fun s => s.domOn 75 = true ∧ s.ctxJob x = some j ∧ s.camRun k = none ∧ s.streamLevel k + (36 + if coding then lines * w * 3 / 2 else lines * w) + 64 ≤ s.camRing k)) S))),
  (let S : State := R; let x : Fin 4 := 0; let j : Job := jobA; decide ((((fun s => s.ctxJob x = none ∨ s.domOn 75 = false)) S))),
  (let S : State := { R with vis := { R.vis with jobs := [jobA] } }; let x : Fin 4 := 0; let j : Job := jobA; decide ((((fun s => s.domOn 75 = true ∧ s.ctxJob x = some j ∧ j.closed = true ∧ (j.live = true ∨ s.flag F.PIPE.PIPE_CFG_MODE = false))) S)))].all id = true := by decide +kernel

/-- States and operands that meet the hypotheses of the clauses of Obligations.FusionMaps. -/
theorem hyps_FusionMaps : [
  (let S : State := R; decide ((((fun s => s.nextFusion = none)) S))),
  (let S : State := { R with ps := { R.ps with cols := [colB] } }; let k : ColInfo := colB; decide ((((fun s => s.nextFusion = some k ∧ s.domOn 75 = true ∧ s.vis.maps = [])) S))),
  (let S : State := { R with ps := { R.ps with cols := [colB] }, vis := { R.vis with maps := [mapA] } }; let k : ColInfo := colB; let m : DMap := mapA; decide ((((fun s => s.nextFusion = some k ∧ s.domOn 75 = true ∧ s.vis.maps = [m] ∧ s.centreAfter k m.stop = true)) S))),
  (let S : State := (let s : State := upd R [(F.PIPE.S3_LEN, 262144)]; { s with ps := { R.ps with cols := [colB] }, vis := { R.vis with maps := [mapA] } }); let n : Fin 2 := 0; let m : DMap := mapA; let k : ColInfo := colB; decide ((((fun s => s.oldestMap n = some m ∧ s.nextFusion = some k ∧ s.domOn 75 = true ∧ s.centreAfter k m.stop = true ∧ s.camRun 3 = none ∧ s.streamLevel 3 + (depthRecord m).length + 64 ≤ s.camRing 3)) S))),
  (let S : State := R; let n : Fin 2 := 0; let m : DMap := mapA; let k : ColInfo := colB; decide ((((fun s => s.oldestMap n = none ∨ s.nextFusion = none ∨ s.domOn 75 = false ∨ (s.nextFusion = some k ∧ s.oldestMap n = some m ∧ s.centreAfter k m.stop = false))) S))),
  (let S : State := { R with vis := { R.vis with maps := [mapA] } }; let n : Fin 2 := 0; let m : DMap := mapA; decide ((((fun s => s.oldestMap n = some m ∧ s.domOn 75 = true)) S))),
  (let S : State := R; let n : Fin 2 := 0; decide ((((fun s => s.oldestMap n = none ∨ s.domOn 75 = false)) S))),
  (let S : State := upd (putBlock Rcam 0 (camB 4096 2304 3000)) []; let via : Port := .spi; let seq : BitVec 16 := 0; let v : BitVec 32 := 0; runsAt ((.fusCtrlWrite via seq v)) S (fun s => decide (((fun u => u.touchesOff (F.FUS.FUS_CTRL_EN.addr) (1) = false ∧ u.noStep (wordAddrs (F.FUS.FUS_CTRL_EN.addr) (1)) = true ∧ ((fun u => ((List.range 2).any (fun n => u.camRuns n && decide (65536 < (u.hostWrite F.FUS.FUS_CTRL_EN.addr v).cellCount n))) = true)) u)) s))),
  (let S : State := R; let via : Port := .spi; let seq : BitVec 16 := 0; let v : BitVec 32 := 0; runsAt ((.fusCtrlWrite via seq v)) S (fun s => decide (((fun u => u.touchesOff (F.FUS.FUS_CTRL_EN.addr) (1) = false ∧ u.noStep (wordAddrs (F.FUS.FUS_CTRL_EN.addr) (1)) = true ∧ ((fun u => ((List.range 2).any (fun n => u.camRuns n && decide (65536 < (u.hostWrite F.FUS.FUS_CTRL_EN.addr v).cellCount n))) = false)) u)) s)))].all id = true := by decide +kernel

/-- States and operands that meet the hypotheses of the clauses of Obligations.Displays. -/
theorem hyps_Displays : [
  (let S : State := R; let d : Byte := 0; let S : State := S.setFlag (domBit 0x120 76) true; let S : State := S.setFlag (F.DSP.DISP_STAT_RUNNING d.toNat) false; let via : Port := .spi; let seq : BitVec 16 := 0; let b : List Byte := timB; decide ((d.toNat ≤ 1) ∧ (b.length = 32) ∧ ((timingBad b).all (fun e => !e.1) = true)) && runsAt ((.dispMode via seq d b)) S (fun s => decide (((fun u => u.domOn 76 = true ∧ u.flag (F.DSP.DISP_STAT_RUNNING d.toNat) = false)) s))),
  (let S : State := R; let d : Byte := 0; let S : State := S.setFlag (domBit 0x120 76) true; let S : State := S.setFlag (F.DSP.DISP_STAT_RUNNING d.toNat) false; let via : Port := .spi; let seq : BitVec 16 := 0; let b : List Byte := zeros 32; let k := 1; decide ((d.toNat ≤ 1) ∧ (b.length = 32) ∧ ((timingBad b).find? (fun e => e.1) = some (true, k))) && runsAt ((.dispMode via seq d b)) S (fun s => decide (((fun u => u.domOn 76 = true ∧ u.flag (F.DSP.DISP_STAT_RUNNING d.toNat) = false)) s))),
  (let S : State := upd Rdisp [(F.DSP.DISP_STAT_RUNNING 0, 1)]; let via : Port := .spi; let seq : BitVec 16 := 0; let d : Byte := 0; let b : List Byte := timB; decide ((d.toNat ≤ 1) ∧ (b.length = 32)) && runsAt ((.dispMode via seq d b)) S (fun s => decide (((fun u => u.domOn 76 = true ∧ u.flag (F.DSP.DISP_STAT_RUNNING d.toNat) = true)) s))),
  (let S : State := Rdisp; let via : Port := .spi; let seq : BitVec 16 := 0; let d : Byte := 0; decide ((d.toNat ≤ 1)) && runsAt ((.dispRun via seq d 1)) S (fun s => decide (((fun u => u.domOn 76 = true ∧ u.flag (F.DSP.DISP_STAT_RUNNING d.toNat) = false ∧ u.flag (F.DSP.DISP_STAT_CONFIGURED d.toNat) = true ∧ u.vUp d.toNat = true ∧ rateCarries (u.timing d.toNat) (u.get (F.OZ.LINK_STAT_RATE (1 + d.toNat))) = true)) s))),
  (let S : State := R; let d : Byte := 0; let S : State := S.setFlag (domBit 0x120 76) true; let S : State := S.setFlag (F.DSP.DISP_STAT_RUNNING d.toNat) false; let S : State := S.setFlag (F.DSP.DISP_STAT_CONFIGURED d.toNat) false; let via : Port := .spi; let seq : BitVec 16 := 0; decide ((d.toNat ≤ 1)) && runsAt ((.dispRun via seq d 1)) S (fun s => decide (((fun u => u.domOn 76 = true ∧ u.flag (F.DSP.DISP_STAT_RUNNING d.toNat) = false ∧ u.flag (F.DSP.DISP_STAT_CONFIGURED d.toNat) = false)) s))),
  (let S : State := R; let d : Byte := 0; let S : State := S.setFlag (domBit 0x120 76) true; let S : State := S.setFlag (F.DSP.DISP_STAT_RUNNING d.toNat) false; let S : State := S.setFlag (F.DSP.DISP_STAT_CONFIGURED d.toNat) true; let via : Port := .spi; let seq : BitVec 16 := 0; decide ((d.toNat ≤ 1)) && runsAt ((.dispRun via seq d 1)) S (fun s => decide (((fun u => u.domOn 76 = true ∧ u.flag (F.DSP.DISP_STAT_RUNNING d.toNat) = false ∧ u.flag (F.DSP.DISP_STAT_CONFIGURED d.toNat) = true ∧ u.vUp d.toNat = false)) s))),
  (let S : State := R; let d : Byte := 0; let S : State := S.setFlag (domBit 0x120 76) true; let S : State := S.setFlag (F.DSP.DISP_STAT_RUNNING d.toNat) true; let via : Port := .spi; let seq : BitVec 16 := 0; decide ((d.toNat ≤ 1)) && runsAt ((.dispRun via seq d 1)) S (fun s => decide (((fun u => u.domOn 76 = true ∧ u.flag (F.DSP.DISP_STAT_RUNNING d.toNat) = true)) s))),
  (let S : State := R; let d : Byte := 0; let S : State := S.setFlag (domBit 0x120 76) true; let S : State := S.setFlag (F.DSP.DISP_STAT_RUNNING d.toNat) true; let S : State := S.setDisp d.toNat { S.disp d.toNat with first := false }; let via : Port := .spi; let seq : BitVec 16 := 0; decide ((d.toNat ≤ 1)) && runsAt ((.dispRun via seq d 0)) S (fun s => decide (((fun u => u.domOn 76 = true ∧ u.flag (F.DSP.DISP_STAT_RUNNING d.toNat) = true ∧ (u.disp d.toNat).first = false)) s))),
  (let S : State := R; let d : Byte := 0; let S : State := S.setFlag (domBit 0x120 76) true; let S : State := S.setFlag (F.DSP.DISP_STAT_RUNNING d.toNat) false; let via : Port := .spi; let seq : BitVec 16 := 0; decide ((d.toNat ≤ 1)) && runsAt ((.dispRun via seq d 0)) S (fun s => decide (((fun u => u.domOn 76 = true ∧ u.flag (F.DSP.DISP_STAT_RUNNING d.toNat) = false)) s))),
  (let S : State := Rdisp; let via : Port := .spi; let seq : BitVec 16 := 0; let d : Byte := 0; let l : Byte := 0; let b : List Byte := zeros 8 ++ [0, 16, 0, 16] ++ zeros 20; decide ((d.toNat ≤ 1) ∧ (l.toNat ≤ 2) ∧ (b.length = 32)) && runsAt ((.layerSet via seq d l b)) S (fun s => decide (((fun u => u.domOn 76 = true ∧ (u.layerBad d.toNat l.toNat b).all (fun e => !e.1) = true)) s))),
  (let S : State := Rdisp; let via : Port := .spi; let seq : BitVec 16 := 0; let d : Byte := 0; let l : Byte := 0; let b : List Byte := 9 :: zeros 31; let k := 1; decide ((d.toNat ≤ 1) ∧ (l.toNat ≤ 2) ∧ (b.length = 32)) && runsAt ((.layerSet via seq d l b)) S (fun s => decide (((fun u => u.domOn 76 = true ∧ (u.layerBad d.toNat l.toNat b).find? (fun e => e.1) = some (true, k))) s))),
  (let S : State := R; let d : Byte := 0; let S : State := S.setFlag (domBit 0x120 76) true; let S : State := S.setFlag (F.DSP.DISP_STAT_RUNNING d.toNat) true; let via : Port := .spi; let seq : BitVec 16 := 0; decide ((d.toNat ≤ 1)) && runsAt ((.commit via seq d)) S (fun s => decide (((fun u => u.domOn 76 = true ∧ u.rangeBusy 0x0502 = false ∧ u.flag (F.DSP.DISP_STAT_RUNNING d.toNat) = true)) s))),
  (let S : State := R; let via : Port := .spi; let seq : BitVec 16 := 0; let d : Byte := 0; let s : State := S; let p : Pkt := (asPacket (.commit via seq d)).getD ⟨.spi, 0, 0, []⟩; let u : State := s.seen p; let t := u.commit d.toNat; let S : State := S.setFlag (domBit 0x120 76) true; let S : State := S.setFlag (F.DSP.DISP_STAT_RUNNING d.toNat) false; let s : State := S; let x := (t.start p.via p.op p.seq d.toNat).sendReply p.via p.op p.seq (t.answer 1 0 []) (.accepted (t.answer 1 0 [])); decide ((d.toNat ≤ 1) ∧ (asPacket (.commit via seq d) = some p ∧ s.takes p = true ∧ u = s.seen p) ∧ (u.domOn 76 = true) ∧ (u.rangeBusy 0x0502 = false) ∧ (u.flag (F.DSP.DISP_STAT_RUNNING d.toNat) = false))),
  (let S : State := R; let via : Port := .spi; let seq : BitVec 16 := 0; let d : Byte := 0; let s : State := S; let p : Pkt := (asPacket (.commit via seq d)).getD ⟨.spi, 0, 0, []⟩; let u : State := s.seen p; let t := u.commit d.toNat; let S : State := S.setFlag (domBit 0x120 76) true; let S : State := S.setFlag (F.DSP.DISP_STAT_RUNNING d.toNat) false; let s : State := S; let x := (t.start p.via p.op p.seq d.toNat).sendReply p.via p.op p.seq (t.answer 1 0 []) (.accepted (t.answer 1 0 [])); let i : Nat := 0; decide ((d.toNat ≤ 1) ∧ (asPacket (.commit via seq d) = some p ∧ s.takes p = true ∧ u = s.seen p) ∧ (u.domOn 76 = true) ∧ (u.rangeBusy 0x0502 = false) ∧ (u.flag (F.DSP.DISP_STAT_RUNNING d.toNat) = false) ∧ (i < 24))),
  (let S : State := R; let via : Port := .spi; let seq : BitVec 16 := 0; let d : Fin 2 := 0; runsAt ((.commitReqWrite via seq d)) S (fun s => decide (((fun u => u.touchesOff ((F.DSP.DISP_CTRL_COMMIT_REQ d).addr) (1) = false ∧ u.noStep (wordAddrs ((F.DSP.DISP_CTRL_COMMIT_REQ d).addr) (1)) = true ∧ ((fun _ => True)) u)) s))),
  (let S : State := R; let d : Fin 2 := 0; decide ((((fun s => s.domOn 76 = false ∨ s.flag (F.DSP.DISP_STAT_RUNNING d) = false)) S))),
  (let S : State := R; let d : Fin 2 := 0; let S : State := S.setFlag (domBit 0x120 76) true; let S : State := S.setFlag (F.DSP.DISP_STAT_RUNNING d) true; let S : State := S.setDisp d { S.disp d with stopping := true }; decide ((((fun s => s.domOn 76 = true ∧ s.flag (F.DSP.DISP_STAT_RUNNING d) = true ∧ (s.disp d).stopping = true)) S))),
  (let S : State := upd Rdisp [(F.DSP.DISP_STAT_RUNNING 0, 1)]; let d : Fin 2 := 0; decide ((((fun s => s.domOn 76 = true ∧ s.flag (F.DSP.DISP_STAT_RUNNING d) = true ∧ (s.disp d).stopping = false ∧ u8 (s.timing d) 20 / 4 % 2 = 0)) S))),
  (let S : State := (upd Rdisp [(F.DSP.DISP_STAT_RUNNING 0, 1)]).setDisp 0 { Rdisp.disp 0 with send := true }; let d : Fin 2 := 0; let k : Nat := 5; decide ((((fun s => s.domOn 76 = true ∧ s.flag (F.DSP.DISP_STAT_RUNNING d) = true ∧ (s.disp d).send = true ∧ s.vUp d = true ∧ k < u16 (s.timing d) 12)) S))),
  (let S : State := R; let d : Fin 2 := 0; let k : Nat := 0; decide ((((fun s => s.domOn 76 = false ∨ s.flag (F.DSP.DISP_STAT_RUNNING d) = false ∨ (s.disp d).send = false ∨ s.vUp d = false ∨ u16 (s.timing d) 12 ≤ k)) S))),
  (let S : State := R; let d : Fin 2 := 0; let S : State := S.setFlag (domBit 0x120 76) true; let S : State := S.setFlag (F.DSP.DISP_STAT_LOCKED d) true; decide ((((fun s => s.domOn 76 = true ∧ s.flag (F.DSP.DISP_STAT_LOCKED d) = true)) S))),
  (let S : State := R; let d : Fin 2 := 0; decide ((((fun s => s.domOn 76 = false ∨ s.flag (F.DSP.DISP_STAT_LOCKED d) = false)) S)))].all id = true := by decide +kernel

/-- States and operands that meet the hypotheses of the clauses of Obligations.LinkTraining. -/
theorem hyps_LinkTraining : [
  (let S : State := R; let via : Port := .spi; let seq : BitVec 16 := 0; let n : Byte := 0; let r : Byte := 0; let s : State := S; let p : Pkt := (asPacket (.linkTrain via seq n r)).getD ⟨.spi, 0, 0, []⟩; let u : State := s.seen p; let a := u.answer 1 0 []; let S : State := S.setFlag (domBit 0x120 77) true; let s : State := S; let t := (((u.start p.via p.op p.seq n.toNat).sendReply p.via p.op p.seq a (.accepted a)).set (F.OZ.LINK_CTRL_TARGET n.toNat) r.toNat).beginLadder n.toNat r.toNat; decide ((n.toNat ≤ 2) ∧ (r.toNat ≤ 3) ∧ (asPacket (.linkTrain via seq n r) = some p ∧ s.takes p = true ∧ u = s.seen p) ∧ (u.domOn 77 = true) ∧ (u.rangeBusy 0x0600 = false))),
  (let S : State := R; let p : Fin 3 := 0; let pass : Bool := true; let a : Byte := 0; let b : Byte := 0; let r : Nat := 0; decide ((((fun s => (s.link p).rung = none ∨ s.domOn 77 = false)) S))),
  (let S : State := R; let p : Fin 3 := 0; let r : Nat := 0; let S : State := S.setFlag (domBit 0x120 77) true; let S : State := S.setLink p { S.link p with rung := some r }; let S : State := S.setLink p { S.link p with again := false }; let S : State := S.setLink p { S.link p with good := none }; let pass : Bool := true; let a : Byte := 0; let b : Byte := 0; decide ((((fun s => s.domOn 77 = true ∧ (s.link p).rung = some r ∧ (s.link p).again = false ∧ (s.link p).good = none)) S))),
  (let S : State := R; let p : Fin 3 := 0; let r : Nat := 0; let g := default; let S : State := S.setFlag (domBit 0x120 77) true; let S : State := S.setLink p { S.link p with rung := some r }; let S : State := S.setLink p { S.link p with again := false }; let S : State := S.setLink p { S.link p with good := some g }; let pass : Bool := true; let a : Byte := 0; let b : Byte := 0; decide ((((fun s => s.domOn 77 = true ∧ (s.link p).rung = some r ∧ (s.link p).again = false ∧ (s.link p).good = some g)) S))),
  (let S : State := R; let p : Fin 3 := 0; let r : Nat := 0; let S : State := S.setFlag (domBit 0x120 77) true; let S : State := S.setLink p { S.link p with rung := some r }; let S : State := S.setLink p { S.link p with phase := (3) - 1 }; let pass : Bool := true; let a : Byte := 0; let b : Byte := 0; decide ((((fun s => s.domOn 77 = true ∧ (s.link p).rung = some r ∧ (s.link p).phase < 3)) S))),
  (let S : State := (upd R []).setLink 1 { R.link 1 with rung := some 2, phase := 3 }; let p : Fin 3 := 1; let pass : Bool := true; let a : Byte := 255; let b : Byte := 255; let r : Nat := 2; decide ((((fun s => s.domOn 77 = true ∧ (s.link p).rung = some r ∧ (s.link p).phase = 3 ∧ s.fomOk p a.toNat b.toNat = true)) S))),
  (let S : State := (upd R []).setLink 1 { R.link 1 with rung := some 2, phase := 4, target := 2 }; let p : Fin 3 := 1; let pass : Bool := true; let a : Byte := 255; let b : Byte := 255; let r : Nat := 2; decide ((((fun s => s.domOn 77 = true ∧ (s.link p).rung = some r ∧ 3 < (s.link p).phase ∧ s.fomOk p a.toNat b.toNat = true ∧ (s.link p).target = r)) S))),
  (let S : State := (upd R []).setLink 1 { R.link 1 with rung := some 1, phase := 4, target := 2 }; let p : Fin 3 := 1; let pass : Bool := true; let a : Byte := 255; let b : Byte := 255; let r : Nat := 1; decide ((((fun s => s.domOn 77 = true ∧ (s.link p).rung = some r ∧ 3 < (s.link p).phase ∧ s.fomOk p a.toNat b.toNat = true ∧ (s.link p).target ≠ r ∧ (s.link p).again = false)) S))),
  (let S : State := { (upd R []).setLink 1 { R.link 1 with result := some (0, 0) } with cmd := { R.cmd with running := [⟨0x0600, .spi, 7, 1⟩] } }; let p : Fin 3 := 1; let st : Nat := 0; let d : Nat := 0; decide ((((fun s => (s.link p).result = some (st, d) ∧ s.runningTag 0x0600 = some p.val)) S))),
  (let S : State := R; let p : Fin 3 := 0; decide ((((fun s => (s.link p).result = none ∨ s.runningTag 0x0600 ≠ some p.val)) S))),
  (let S : State := R; let p : Fin 3 := 0; let S : State := S.setFlag (domBit 0x120 77) true; let S : State := S.set (F.OZ.LINK_STAT_STATE p) (0); let S : State := S.setLink p { S.link p with result := none }; decide ((((fun s => s.domOn 77 = true ∧ s.get (F.OZ.LINK_STAT_STATE p) = 0 ∧ (if (s.link p).fell then s.flag (F.OZ.LINK_CTRL_AUTO_RETRAIN p) else s.flag (F.OZ.LINK_CTRL_AUTO_START p)) = true ∧ (s.link p).result = none)) S))),
  (let S : State := Roff 77; let p : Fin 3 := 0; decide ((((fun s => s.domOn 77 = false ∨ s.get (F.OZ.LINK_STAT_STATE p) ≠ 0 ∨ (if (s.link p).fell then s.flag (F.OZ.LINK_CTRL_AUTO_RETRAIN p) else s.flag (F.OZ.LINK_CTRL_AUTO_START p)) = false ∨ (s.link p).result ≠ none)) S))),
  (let S : State := R; let S : State := S.setFlag (domBit 0x120 77) true; let S : State := S.set (F.OZ.LINK_STAT_STATE 0) (2); decide ((((fun s => s.domOn 77 = true ∧ s.get (F.OZ.LINK_STAT_STATE 0) = 2)) S))),
  (let S : State := R; decide ((((fun s => s.domOn 77 = false ∨ s.get (F.OZ.LINK_STAT_STATE 0) ≠ 2)) S))),
  (let S : State := upd R [(F.OZ.LINK_STAT_STATE 0, 2)]; let p : Fin 3 := 0; let f : Byte := 77; decide ((p = 0) ∧ (((fun s => s.linkUp 0 = true)) S))),
  (let S : State := R; let p : Fin 3 := 0; let f : Byte := 0; decide ((((fun s => p ≠ 0 ∨ s.linkUp 0 = false)) S))),
  (let S : State := upd R [(F.OZ.LINK_STAT_STATE 1, 2)]; let p : Fin 3 := 1; decide ((((fun s => p ≠ 0 ∧ s.domOn 77 = true ∧ s.get (F.OZ.LINK_STAT_STATE p) ≠ 0)) S))),
  (let S : State := R; let p : Fin 3 := 0; decide ((((fun s => p = 0 ∨ s.domOn 77 = false ∨ s.get (F.OZ.LINK_STAT_STATE p) = 0)) S))),
  (let S : State := R; let p : Fin 3 := 0; let b : Option (List Byte) := none; decide ((((fun s => p = 0 ∨ s.domOn 77 = false ∨ s.get (F.OZ.LINK_STAT_STATE p) = 0)) S))),
  (let S : State := upd R [(F.OZ.LINK_STAT_STATE 1, 1)]; let p : Fin 3 := 1; let b : Option (List Byte) := none; decide ((((fun s => p ≠ 0 ∧ s.domOn 77 = true ∧ s.get (F.OZ.LINK_STAT_STATE p) ≠ 0 ∧ (s.link p).rung = none)) S))),
  (let S : State := upd R [(F.OZ.LINK_STAT_STATE 1, 2)]; let p : Fin 3 := 1; let b : List Byte := [0x55] ++ zeros 40 ++ beBytes 4 (crc32c (zeros 40)); decide ((b.length = 45) ∧ (u8 b 0 = 0x55) ∧ (u32 b 41 = crc32c ((b.drop 1).take 40)) ∧ ((u8 b 8 ||| u8 b 12) / 16 % 2 = 0) ∧ (((fun s => p ≠ 0 ∧ s.domOn 77 = true ∧ s.get (F.OZ.LINK_STAT_STATE p) = 2)) S)))].all id = true := by decide +kernel

/-- States and operands that meet the hypotheses of the clauses of Obligations.OazilBlocks. -/
theorem hyps_OazilBlocks : [
  (let S : State := R; let p : Fin 3 := 0; decide ((((fun s => s.linkUp p = false)) S))),
  (let S : State := ((let s : State := upd R [(F.OZ.LINK_STAT_STATE 0, 2)]; s.setStream 1 { s.stream 1 with units := [[1, 2, 3]] })).set (F.OZ.CREDIT_LIMIT 0 1) 5; let k : Nat := 1; decide ((((fun s => s.linkUp 0 = true ∧ s.nextStream = some k)) S))),
  (let S : State := upd (upd R [(F.OZ.LINK_STAT_STATE 0, 2)]) []; decide ((((fun s => s.linkUp 0 = true ∧ s.nextStream = none)) S))),
  (let S : State := (let s : State := upd R [(F.OZ.LINK_STAT_STATE 1, 2)]; s.setStream 8 { s.stream 8 with units := [[1, 2, 3]] }); let p : Fin 3 := 1; decide ((p ≠ 0) ∧ (((fun s => s.linkUp p = true ∧ 0 < s.streamLevel (7 + p))) S))),
  (let S : State := upd R [(F.OZ.LINK_STAT_STATE 1, 2)]; let p : Fin 3 := 1; decide ((p ≠ 0) ∧ (((fun s => s.linkUp p = true ∧ s.streamLevel (7 + p) = 0)) S))),
  (let S : State := ((let s : State := upd R [(F.OZ.LINK_STAT_STATE 0, 2)]; s.setStream 1 { s.stream 1 with units := [[1, 2, 3]] })).set (F.OZ.CREDIT_LIMIT 0 1) 5; let k : Nat := 1; let s : State := S; decide ((s.nextStream = some k))),
  (let S : State := upd R [(F.OZ.LINK_STAT_STATE 0, 2)]; decide ((((fun s => s.linkUp 0 = true)) S))),
  (let S : State := R; decide ((((fun s => s.linkUp 0 = false)) S))),
  (let S : State := upd R [(F.OZ.LINK_STAT_STATE 0, 2)]; let c : Instr := .oazilUpstreamBlock (zeros 512); let lane : List Byte := zeros 512; decide ((c = .oazilUpstreamBlock lane ∨ c = .controlBlockReceived lane) ∧ (((fun _ => True)) S))),
  (let S : State := R; let c : Instr := .oazilUpstreamBlock (zeros 512); let lane : List Byte := zeros 512; decide ((c = .oazilUpstreamBlock lane ∨ c = .controlBlockReceived lane) ∧ (((fun s => s.linkUp 0 = false)) S))),
  (let S : State := upd R [(F.OZ.LINK_STAT_STATE 0, 2)]; let c : Instr := .oazilUpstreamBlock (zeros 512); let lane : List Byte := zeros 512; decide ((c = .oazilUpstreamBlock lane ∨ c = .controlBlockReceived lane) ∧ (¬ (u32 lane 0 = 0x4F415A54 ∧ u8 lane 4 = 0x87)) ∧ (lane.length ≠ 512 ∨ u32 (scramble 0x7FFFFF lane) 508 ≠ crc32c ((scramble 0x7FFFFF lane).take 508)) ∧ (((fun s => s.linkUp 0 = true ∧ (s.link 0).bad < 7 ∧ (s.link 0).crcTimes = [])) S))),
  (let S : State := upd R [(F.OZ.LINK_STAT_STATE 0, 2)]; let c : Instr := .oazilUpstreamBlock (scramble 0x7FFFFF (oazilBlock 0x2D 0 0 0 0 0 0xFFFF [])); let lane : List Byte := scramble 0x7FFFFF (oazilBlock 0x2D 0 0 0 0 0 0xFFFF []); decide ((c = .oazilUpstreamBlock lane ∨ c = .controlBlockReceived lane) ∧ (¬ (u32 lane 0 = 0x4F415A54 ∧ u8 lane 4 = 0x87)) ∧ (lane.length = 512) ∧ (u32 (scramble 0x7FFFFF lane) 508 = crc32c ((scramble 0x7FFFFF lane).take 508)) ∧ (u8 (scramble 0x7FFFFF lane) 0 = 0x2D) ∧ (((fun s => s.linkUp 0 = true)) S))),
  (let S : State := upd R [(F.OZ.LINK_STAT_STATE 0, 2)]; let c : Instr := .oazilUpstreamBlock (scramble 0x7FFFFF (oazilBlock 0xB4 0 0 0 0 0 0xFFFF ([1, 0, 0, 0] ++ (List.range 32).map (BitVec.ofNat 8)))); let lane : List Byte := scramble 0x7FFFFF (oazilBlock 0xB4 0 0 0 0 0 0xFFFF ([1, 0, 0, 0] ++ (List.range 32).map (BitVec.ofNat 8))); decide ((c = .oazilUpstreamBlock lane ∨ c = .controlBlockReceived lane) ∧ (¬ (u32 lane 0 = 0x4F415A54 ∧ u8 lane 4 = 0x87)) ∧ (lane.length = 512) ∧ (u32 (scramble 0x7FFFFF lane) 508 = crc32c ((scramble 0x7FFFFF lane).take 508)) ∧ (u8 (scramble 0x7FFFFF lane) 0 = 0xB4) ∧ (u8 (scramble 0x7FFFFF lane) 28 % 4 = 1) ∧ (((fun s => s.linkUp 0 = true)) S))),
  (let S : State := upd R [(F.OZ.LINK_STAT_STATE 0, 2)]; let s : State := S; let b : List Byte := zeros 12; decide ((s.hears .oazil = true) ∧ (headerOk b = false)))].all id = true := by decide +kernel

/-- States and operands that meet the hypotheses of the clauses of Obligations.Ethernet. -/
theorem hyps_Ethernet : [
  (let S : State := R; let via : Port := .spi; let seq : BitVec 16 := 0; let ip : BitVec 32 := 0; let mask : BitVec 32 := 0; let gw : BitVec 32 := 0; let vlan : BitVec 16 := 0; let s : State := S; let p : Pkt := (asPacket (.netConfig via seq ip mask gw vlan)).getD ⟨.spi, 0, 0, []⟩; let S : State := S.setFlag (domBit 0x120 78) true; let s : State := S; let u : State := s.seen p; decide ((asPacket (.netConfig via seq ip mask gw vlan) = some p ∧ s.takes p = true ∧ u = s.seen p) ∧ (u.domOn 78 = true))),
  (let S : State := R; let S : State := S.setFlag (domBit 0x120 78) true; let up : Bool := true; let gig : Bool := true; decide ((((fun s => s.domOn 78 = true)) S))),
  (let S : State := R; let S : State := S.setFlag (domBit 0x120 78) false; let up : Bool := true; let gig : Bool := true; decide ((((fun s => s.domOn 78 = false)) S))),
  (let S : State := R; let target : BitVec 32 := 0; let S : State := S.setFlag F.ETH.ETH_STAT_LINK true; let S : State := S.set F.ETH.IP_ADDR (target.toNat); let ip : BitVec 32 := 0; let mac : BitVec 48 := 0; decide ((((fun s => s.ethUp = true ∧ target.toNat = s.get F.ETH.IP_ADDR)) S))),
  (let S : State := R; let S : State := S.setFlag F.ETH.ETH_STAT_LINK true; let ip : BitVec 32 := 0; let target : BitVec 32 := 7; let mac : BitVec 48 := 0; decide ((((fun s => s.ethUp = true ∧ target.toNat ≠ s.get F.ETH.IP_ADDR)) S))),
  (let S : State := R; let S : State := S.setFlag F.ETH.ETH_STAT_LINK true; let ip : BitVec 32 := BitVec.ofNat 32 (S.nextHop (S.get F.ETH.STREAM_DEST_IP)); let target : BitVec 32 := 0; let mac : BitVec 48 := 5; decide ((((fun s => s.ethUp = true ∧ ip.toNat = s.nextHop (s.get F.ETH.STREAM_DEST_IP))) S))),
  (let S : State := R; let S : State := S.setFlag F.ETH.ETH_STAT_LINK true; let ip : BitVec 32 := 9; let target : BitVec 32 := 0; let mac : BitVec 48 := 0; decide ((((fun s => s.ethUp = true ∧ ip.toNat ≠ s.nextHop (s.get F.ETH.STREAM_DEST_IP) ∧ ip.toNat ≠ s.get F.ETH.IP_GW)) S))),
  (let S : State := R; let S : State := S.setFlag F.ETH.ETH_STAT_LINK true; let ip : BitVec 32 := 0; let i : BitVec 16 := 0; let q : BitVec 16 := 0; let pay : List Byte := []; decide ((pay.length ≤ 1472) ∧ (((fun s => s.ethUp = true)) S))),
  (let S : State := R; let S : State := S.setFlag F.ETH.ETH_STAT_LINK true; let ip : BitVec 32 := 0; let i : BitVec 16 := 0; let q : BitVec 16 := 0; let pay : List Byte := zeros 1473; decide ((1472 < pay.length) ∧ (((fun s => s.ethUp = true)) S))),
  (let S : State := R; let S : State := S.setFlag F.ETH.ETH_STAT_LINK true; let q : BitVec 16 := 0; decide ((((fun s => s.ethUp = true)) S))),
  (let S : State := R; let S : State := S.setFlag F.ETH.ETH_STAT_LINK true; decide ((((fun s => s.ethUp = true)) S))),
  (let S : State := R; let p : Peer := ⟨BitVec.ofNat 32 (S.get F.ETH.STREAM_DEST_IP), 5⟩; let S : State := S.setFlag F.ETH.ETH_STAT_LINK true; let S : State := S.set F.ETH.STREAM_DEST_IP (p.ip.toNat); let p : Peer := ⟨BitVec.ofNat 32 (S.get F.ETH.STREAM_DEST_IP), 5⟩; let b : List Byte := 2 :: zeros 31; decide ((b.length = 32) ∧ (u8 b 0 = 2) ∧ (((fun s => s.ethUp = true ∧ p.ip.toNat = s.get F.ETH.STREAM_DEST_IP)) S))),
  (let S : State := R; let S : State := S.setFlag F.ETH.ETH_STAT_LINK true; let p : Peer := ⟨1, 1⟩; let b : List Byte := []; decide ((((fun s => s.ethUp = true ∧ (b.length ≠ 32 ∨ u8 b 0 ≠ 2 ∨ p.ip.toNat ≠ s.get F.ETH.STREAM_DEST_IP))) S))),
  (let S : State := (let s : State := (let s : State := upd R [(F.ETH.ETH_STAT_LINK, 1), (F.ETH.STREAM_ROUTE, 1), (F.ETH.DCREDIT 1, 5)]; s.setStream 1 { s.stream 1 with units := [[1, 2, 3]] }); { s with eth := { s.eth with route := 2, arp := [] } }); let k : Fin 8 := 1; decide ((((fun s => s.routeSync = s ∧ s.ethUp = true ∧ s.routed k = true ∧ 0 < s.streamLevel k ∧ (let c := (s.get (F.ETH.DCREDIT k) + 2 ^ 32 - s.get (F.ETH.DGRAM_SENT k)) % 2 ^ 32; 1 ≤ c ∧ c ≤ 2 ^ 31) ∧ s.eth.pause ≤ s.time.dev.toNat ∧ spGet (fun _ => 0) s.eth.arp (s.nextHop (s.get F.ETH.STREAM_DEST_IP)) = 0)) S))),
  (let S : State := (let s : State := (let s : State := upd R [(F.ETH.ETH_STAT_LINK, 1), (F.ETH.STREAM_ROUTE, 1), (F.ETH.DCREDIT 1, 5)]; s.setStream 1 { s.stream 1 with units := [[1, 2, 3]] }); { s with eth := { s.eth with route := 2, arp := [(R.nextHop (R.get F.ETH.STREAM_DEST_IP), 5)] } }); let k : Fin 8 := 1; decide ((((fun s => s.routeSync = s ∧ s.ethUp = true ∧ s.routed k = true ∧ 0 < s.streamLevel k ∧ (let c := (s.get (F.ETH.DCREDIT k) + 2 ^ 32 - s.get (F.ETH.DGRAM_SENT k)) % 2 ^ 32; 1 ≤ c ∧ c ≤ 2 ^ 31) ∧ s.eth.pause ≤ s.time.dev.toNat ∧ spGet (fun _ => 0) s.eth.arp (s.nextHop (s.get F.ETH.STREAM_DEST_IP)) ≠ 0)) S))),
  (let S : State := R; let k : Fin 8 := 0; decide ((((fun s => s.routeSync = s ∧ (s.ethUp = false ∨ s.routed k = false ∨ s.streamLevel k = 0))) S)))].all id = true := by decide +kernel

/-- States and operands that meet the hypotheses of the clauses of Obligations.TimeAndSync. -/
theorem hyps_TimeAndSync : [
  (let S : State := R; let S : State := S.setFlag (domBit 0x120 78) true; let via : Port := .spi; let seq : BitVec 16 := 0; let b : List Byte := [0, 1] ++ beBytes 2 5 ++ beBytes 8 1000 ++ beBytes 4 0; decide ((b.length = 16) ∧ (u8 b 0 ≤ 2) ∧ (u8 b 1 ≤ 3) ∧ (u16 b 2 ≠ 0) ∧ ((u8 b 0 = 1 → u8 b 1 = 0)) ∧ ((u8 b 1 / 2 % 2 = 1 → (intAt b 12 4).natAbs ≤ 500000))) && runsAt ((.timeConfig via seq b)) S (fun s => decide (((fun u => u.domOn 78 = true ∧ (u8 b 1 % 2 = 1 → u.pw.st = .scanning → u.time.dev.toNat ≤ u64 b 4))) s))),
  (let S : State := { Rscan with time := { R.time with dev := 5000 } }; let via : Port := .spi; let seq : BitVec 16 := 0; let b : List Byte := [0, 1] ++ beBytes 2 5 ++ beBytes 8 1000 ++ beBytes 4 0; decide ((b.length = 16) ∧ (u8 b 0 ≤ 2) ∧ (u8 b 1 ≤ 3) ∧ (u16 b 2 ≠ 0) ∧ ((u8 b 0 = 1 → u8 b 1 = 0)) ∧ ((u8 b 1 / 2 % 2 = 1 → (intAt b 12 4).natAbs ≤ 500000)) ∧ (u8 b 1 % 2 = 1)) && runsAt ((.timeConfig via seq b)) S (fun s => decide (((fun u => u.domOn 78 = true ∧ u.pw.st = .scanning ∧ u64 b 4 < u.time.dev.toNat)) s))),
  (let S : State := R; let rx : BitVec 64 := 0; let org : BitVec 64 := 0; let corr : Int := 0; let ratio : Int := 0; let log : Int := 0; decide ((((fun s => s.ethUp = false)) S))),
  (let S : State := R; let S : State := S.setFlag F.ETH.ETH_STAT_LINK true; let rx : BitVec 64 := 0; let org : BitVec 64 := 0; let corr : Int := 0; let ratio : Int := 0; let log : Int := 0; decide ((((fun s => s.ethUp = true)) S))),
  (let S : State := R; let S : State := S.setFlag F.ETH.ETH_STAT_LINK true; let rx : BitVec 64 := 0; let org : BitVec 64 := 0; let corr : Int := 0; let ratio : Int := 0; let log : Int := 0; decide ((((fun s => s.ethUp = true ∧ (s.get F.TB.TB_CTRL_MODE ≠ 1 ∨ s.flag F.TB.TB_STAT_GM_PRESENT = false ∨ s.flag F.TB.TB_STAT_AS_CAPABLE = false))) S))),
  (let S : State := (let s : State := upd R [(F.ETH.ETH_STAT_LINK, 1), (F.TB.TB_CTRL_MODE, 1), (F.TB.TB_STAT_GM_PRESENT, 1), (F.TB.TB_STAT_AS_CAPABLE, 1)]; { s with tb := { s.tb with st := 2 } }); let rx : BitVec 64 := 1000000; let org : BitVec 64 := 1000000; let corr : Int := 0; let ratio : Int := 0; let log : Int := 0; decide ((((fun s => (s.ethUp = true ∧ s.get F.TB.TB_CTRL_MODE = 1 ∧ s.flag F.TB.TB_STAT_GM_PRESENT = true ∧ s.flag F.TB.TB_STAT_AS_CAPABLE = true) ∧ (decide ((s.get F.TB.TB_CTRL_STEP_THRESH : Int) * 1000 * 2 ^ 16 < ((((rx.toNat - s.get F.ETH.ETH_LAT_LAT_RX : Nat) : Int) * 2 ^ 16 - ((org.toNat : Int) * 2 ^ 16 + corr + s.get F.TB.MEAN_LINK_DELAY * 2 ^ 16))).natAbs)) = false ∧ s.tb.st = 2)) S))),
  (let S : State := upd R [(F.ETH.ETH_STAT_LINK, 1), (F.TB.TB_CTRL_MODE, 1), (F.TB.TB_STAT_GM_PRESENT, 1), (F.TB.TB_STAT_AS_CAPABLE, 1)]; let rx : BitVec 64 := 0; let org : BitVec 64 := 100000000000; let corr : Int := 0; let ratio : Int := 0; let log : Int := 0; decide ((((fun s => (s.ethUp = true ∧ s.get F.TB.TB_CTRL_MODE = 1 ∧ s.flag F.TB.TB_STAT_GM_PRESENT = true ∧ s.flag F.TB.TB_STAT_AS_CAPABLE = true) ∧ (decide ((s.get F.TB.TB_CTRL_STEP_THRESH : Int) * 1000 * 2 ^ 16 < ((((rx.toNat - s.get F.ETH.ETH_LAT_LAT_RX : Nat) : Int) * 2 ^ 16 - ((org.toNat : Int) * 2 ^ 16 + corr + s.get F.TB.MEAN_LINK_DELAY * 2 ^ 16))).natAbs)) = true ∧ ((((rx.toNat - s.get F.ETH.ETH_LAT_LAT_RX : Nat) : Int) * 2 ^ 16 - ((org.toNat : Int) * 2 ^ 16 + corr + s.get F.TB.MEAN_LINK_DELAY * 2 ^ 16)) < 0 ∨ s.pw.st ≠ .scanning))) S))),
  (let S : State := { upd R [(F.ETH.ETH_STAT_LINK, 1), (F.TB.TB_CTRL_MODE, 1), (F.TB.TB_STAT_GM_PRESENT, 1), (F.TB.TB_STAT_AS_CAPABLE, 1)] with pw := { R.pw with st := .scanning } }; let rx : BitVec 64 := 100000000000; let org : BitVec 64 := 0; let corr : Int := 0; let ratio : Int := 0; let log : Int := 0; decide ((((fun s => (s.ethUp = true ∧ s.get F.TB.TB_CTRL_MODE = 1 ∧ s.flag F.TB.TB_STAT_GM_PRESENT = true ∧ s.flag F.TB.TB_STAT_AS_CAPABLE = true) ∧ (decide ((s.get F.TB.TB_CTRL_STEP_THRESH : Int) * 1000 * 2 ^ 16 < ((((rx.toNat - s.get F.ETH.ETH_LAT_LAT_RX : Nat) : Int) * 2 ^ 16 - ((org.toNat : Int) * 2 ^ 16 + corr + s.get F.TB.MEAN_LINK_DELAY * 2 ^ 16))).natAbs)) = true ∧ 0 ≤ (((rx.toNat - s.get F.ETH.ETH_LAT_LAT_RX : Nat) : Int) * 2 ^ 16 - ((org.toNat : Int) * 2 ^ 16 + corr + s.get F.TB.MEAN_LINK_DELAY * 2 ^ 16)) ∧ s.pw.st = .scanning)) S))),
  (let S : State := R; let S : State := S.setFlag F.ETH.ETH_STAT_LINK true; let b : List Byte := []; decide ((((fun s => s.ethUp = true ∧ (b.length < 64 ∨ u8 b 0 % 16 ≠ 0xB ∨ u8 b 4 ≠ 0))) S))),
  (let S : State := R; let S : State := S.setFlag F.ETH.ETH_STAT_LINK true; let S : State := { S with tb.pdWait := false }; decide ((((fun s => s.ethUp = true ∧ s.tb.pdWait = false)) S))),
  (let S : State := R; let S : State := S.setFlag F.ETH.ETH_STAT_LINK true; let S : State := { S with tb.pdWait := true }; decide ((((fun s => s.ethUp = true ∧ s.tb.pdWait = true)) S))),
  (let S : State := R; let S : State := S.setFlag F.ETH.ETH_STAT_LINK true; let q : List Byte := zeros 44; decide ((34 ≤ q.length) ∧ (((fun s => s.ethUp = true)) S))),
  (let S : State := R; let S : State := S.setFlag F.ETH.ETH_STAT_LINK true; let S : State := { S with tb.pdWait := true }; let t1 : BitVec 64 := 0; let t2 : BitVec 64 := 0; let t3 : BitVec 64 := 0; let t4 : BitVec 64 := 0; decide ((((fun s => s.ethUp = true ∧ s.tb.pdWait = true)) S))),
  (let S : State := R; let t1 : BitVec 64 := 0; let t2 : BitVec 64 := 0; let t3 : BitVec 64 := 0; let t4 : BitVec 64 := 0; decide ((((fun s => s.ethUp = false ∨ s.tb.pdWait = false)) S))),
  (let S : State := (let s : State := upd R [(F.TB.TB_CTRL_MODE, 1)]; { s with tb := { s.tb with st := 2 } }); let ann : Bool := true; decide ((((fun s => s.domOn 78 = true ∧ s.get F.TB.TB_CTRL_MODE = 1 ∧ (s.tb.st = 1 ∨ s.tb.st = 2))) S))),
  (let S : State := R; let S : State := S.setFlag (domBit 0x120 78) false; let ann : Bool := true; decide ((((fun s => s.domOn 78 = false)) S))),
  (let S : State := R; let S : State := { S with pw.st := .ready }; let via : Port := .spi; let seq : BitVec 16 := 0; let role : Byte := 0; let ofs : BitVec 32 := 0; decide ((role.toNat ≤ 2)) && runsAt ((.syncConfig via seq role ofs)) S (fun s => decide (((fun u => u.pw.st = .ready)) s))),
  (let S : State := Rst .scanning; let via : Port := .spi; let seq : BitVec 16 := 0; let role : Byte := 0; let ofs : BitVec 32 := 0; decide ((role.toNat ≤ 2)) && runsAt ((.syncConfig via seq role ofs)) S (fun s => decide (((fun u => u.pw.st ≠ .ready)) s))),
  (let S : State := R; let S : State := S.set F.SYN.SYNC_CTRL_ROLE (2); let via : Port := .spi; let seq : BitVec 16 := 0; runsAt ((.filterSync via seq)) S (fun s => decide (((fun u => u.rangeBusy 0x0802 = false ∧ u.get F.SYN.SYNC_CTRL_ROLE = 2)) s))),
  (let S : State := R; let S : State := S.set F.SYN.SYNC_CTRL_ROLE (1); let S : State := { S with scan.phase := .running }; let via : Port := .spi; let seq : BitVec 16 := 0; runsAt ((.filterSync via seq)) S (fun s => decide (((fun u => u.rangeBusy 0x0802 = false ∧ u.get F.SYN.SYNC_CTRL_ROLE = 1 ∧ u.scan.phase = .running)) s))),
  (let S : State := R; let S : State := S.set F.SYN.SYNC_CTRL_ROLE (1); let via : Port := .spi; let seq : BitVec 16 := 0; runsAt ((.filterSync via seq)) S (fun s => decide (((fun u => u.rangeBusy 0x0802 = false ∧ u.get F.SYN.SYNC_CTRL_ROLE = 1 ∧ u.scan.phase ≠ .running)) s))),
  (let S : State := R; let via : Port := .spi; let seq : BitVec 16 := 0; let s : State := S; let p : Pkt := (asPacket (.filterSync via seq)).getD ⟨.spi, 0, 0, []⟩; let S : State := S.set F.SYN.SYNC_CTRL_ROLE (0); let s : State := S; let u : State := s.seen p; decide ((asPacket (.filterSync via seq) = some p ∧ s.takes p = true ∧ u = s.seen p) ∧ (u.rangeBusy 0x0802 = false) ∧ (u.get F.SYN.SYNC_CTRL_ROLE = 0))),
  (let S : State := R; let S : State := S.set F.SYN.SYNC_CTRL_ROLE ((0) + 1); decide ((((fun s => s.get F.SYN.SYNC_CTRL_ROLE ≠ 0)) S))),
  (let S : State := R; let S : State := S.set F.SYN.SYNC_CTRL_ROLE (0); decide ((((fun s => s.get F.SYN.SYNC_CTRL_ROLE = 0)) S))),
  (let S : State := R; let S : State := S.set F.SYN.SYNC_CTRL_ROLE ((2) + 1); let w : Nat := 0; let gap : Nat := 0; let e : Int := 0; decide ((((fun s => s.get F.SYN.SYNC_CTRL_ROLE ≠ 2)) S))),
  (let S : State := R; let S : State := S.set F.SYN.SYNC_CTRL_ROLE (2); let w : Nat := 0; let gap : Nat := 0; let e : Int := 0; decide ((w < 50 ∨ 600 < w) ∧ (((fun s => s.get F.SYN.SYNC_CTRL_ROLE = 2)) S))),
  (let S : State := R; let S : State := S.set F.SYN.SYNC_CTRL_ROLE (2); let S : State := { S with scan.phase := .idle }; let w : Nat := 50; let gap : Nat := 0; let e : Int := 0; decide ((50 ≤ w) ∧ (w ≤ 150) ∧ (((fun s => s.get F.SYN.SYNC_CTRL_ROLE = 2 ∧ s.scan.phase = .idle)) S))),
  (let S : State := R; let S : State := S.set F.SYN.SYNC_CTRL_ROLE (2); let S : State := { S with scan.phase := .running }; let w : Nat := 50; let gap : Nat := 0; let e : Int := 0; decide ((50 ≤ w) ∧ (w ≤ 150) ∧ (((fun s => s.get F.SYN.SYNC_CTRL_ROLE = 2 ∧ s.scan.phase = .running)) S))),
  (let S : State := R; let S : State := S.set F.SYN.SYNC_CTRL_ROLE (2); let S : State := { S with scan.phase := .running }; let S : State := S.setFlag F.SYN.SYNC_STAT_LOST false; decide ((((fun s => s.get F.SYN.SYNC_CTRL_ROLE = 2 ∧ s.scan.phase = .running ∧ s.flag F.SYN.SYNC_STAT_LOST = false)) S))),
  (let S : State := R; let S : State := S.set F.SYN.SYNC_CTRL_ROLE ((2) + 1); decide ((((fun s => s.get F.SYN.SYNC_CTRL_ROLE ≠ 2)) S))),
  (let S : State := R; let S : State := S.set F.SYN.SYNC_CTRL_ROLE (2); let S : State := { S with scan.phase := .settling }; let S : State := { S with sync.count := (some 0) }; decide ((((fun s => s.get F.SYN.SYNC_CTRL_ROLE = 2 ∧ s.scan.phase = .settling ∧ s.sync.count ≠ none)) S))),
  (let S : State := R; decide ((((fun s => s.get F.SYN.SYNC_CTRL_ROLE ≠ 2 ∨ s.scan.phase ≠ .settling)) S)))].all id = true := by decide +kernel

/-- States and operands that meet the hypotheses of the clauses of Obligations.Memory. -/
theorem hyps_Memory : [
  (let S : State := R; let ecc : Fin 3 := 0; let ch : Fin 2 := 0; decide ((((fun s => s.domOn 79 = false ∨ s.flag F.MEM.MEM_STAT_SR = true ∨ s.flag F.MEM.MEM_STAT_DEEP = true ∨ s.nextGrant = none)) S))),
  (let S : State := { R with mem := { R.mem with waits := [(⟨5, 0x50, 1, 0⟩ : MemReq)] } }; let q : MemReq := (⟨5, 0x50, 1, 0⟩ : MemReq); let ch : Fin 2 := 1; decide ((q.cls ≤ 5) ∧ (((fun s => (s.domOn 79 = true ∧ s.flag F.MEM.MEM_STAT_SR = false ∧ s.flag F.MEM.MEM_STAT_DEEP = false) ∧ s.nextGrant = some q)) S))),
  (let S : State := { R with mem := { R.mem with waits := [(⟨4, 0x30, 1, 0⟩ : MemReq)] } }; let q : MemReq := (⟨4, 0x30, 1, 0⟩ : MemReq); let ch : Fin 2 := 1; decide ((q.cls ≤ 5) ∧ (((fun s => (s.domOn 79 = true ∧ s.flag F.MEM.MEM_STAT_SR = false ∧ s.flag F.MEM.MEM_STAT_DEEP = false) ∧ s.nextGrant = some q)) S))),
  (let S : State := { R with mem := { R.mem with waits := [(⟨0, 0, 1, 0⟩ : MemReq)] } }; let q : MemReq := (⟨0, 0, 1, 0⟩ : MemReq); let ch : Fin 2 := 1; decide ((q.cls ≤ 5) ∧ (q.cls = 0 ∨ q.cls = 3 ∨ q.cls = 4) ∧ (((fun s => (s.domOn 79 = true ∧ s.flag F.MEM.MEM_STAT_SR = false ∧ s.flag F.MEM.MEM_STAT_DEEP = false) ∧ s.nextGrant = some q)) S))),
  (let S : State := { R with mem := { R.mem with waits := [(⟨5, 0x50, 3, 0⟩ : MemReq)] } }; let q : MemReq := (⟨5, 0x50, 3, 0⟩ : MemReq); let ch : Fin 2 := 1; decide ((q.cls ≤ 5) ∧ (q.cls = 5) ∧ (((fun s => (s.domOn 79 = true ∧ s.flag F.MEM.MEM_STAT_SR = false ∧ s.flag F.MEM.MEM_STAT_DEEP = false) ∧ s.nextGrant = some q)) S))),
  (let S : State := { R with mem := { R.mem with waits := [(⟨1, 0x11, 1, 0⟩ : MemReq)] } }; let q : MemReq := (⟨1, 0x11, 1, 0⟩ : MemReq); let ch : Fin 2 := 1; decide ((q.cls ≤ 5) ∧ (q.cls = 1) ∧ (0x10 ≤ q.src) ∧ (q.src ≤ 0x11) ∧ (((fun s => (s.domOn 79 = true ∧ s.flag F.MEM.MEM_STAT_SR = false ∧ s.flag F.MEM.MEM_STAT_DEEP = false) ∧ s.nextGrant = some q)) S))),
  (let s : State := { R with mem := { R.mem with waits := [(⟨2, 0x20, 1, 0⟩ : MemReq), (⟨0, 0, 1, 0⟩ : MemReq)] } }; let q : MemReq := (⟨0, 0, 1, 0⟩ : MemReq); decide ((s.mem.waits.find? (fun x => x.cls == 0) = some q))),
  (let s : State := { R with mem := { R.mem with waits := [(⟨5, 0x50, 1, 0⟩ : MemReq), (⟨4, 0x30, 1, 0⟩ : MemReq)] } }; let q : MemReq := (⟨4, 0x30, 1, 0⟩ : MemReq); decide ((s.mem.waits.all (fun x => 4 ≤ x.cls) = true) ∧ (s.mem.waits.find? (fun x => x.cls == 4) = some q))),
  (let S : State := { R with mem := { R.mem with waits := [(⟨2, 0, 1, 0⟩ : MemReq)] } }; let q : MemReq := (⟨2, 0, 1, 0⟩ : MemReq); decide ((q.src < 0x20 ∨ 0x23 < q.src) ∧ (((fun s => s.mem.waits.find? (fun x => x.cls == 2) = some q)) S))),
  (let S : State := (let s : State := upd (Rcam.setCam 1 { Rcam.cam 1 with opened := some opF }) []; { s with mem := { R.mem with waits := [(⟨2, 0x21, 1, 0⟩ : MemReq)] } }); let q : MemReq := (⟨2, 0x21, 1, 0⟩ : MemReq); let k : Fin 2 := 1; decide ((q.src = 0x20 + k) ∧ (((fun s => s.mem.waits.find? (fun x => x.cls == 2) = some q ∧ (s.cam k).opened.isSome = true)) S))),
  (let S : State := R; decide ((((fun s => s.mem.waits.all (fun x => x.cls != 2) = true)) S))),
  (let S : State := R; let s : State := S; let c : Nat := 0; let src : Nat := 0; let n : Nat := 0; decide ((c ≤ 5))),
  (let S : State := R; let S : State := S.setFlag (domBit 0x120 79) true; let S : State := S.setFlag F.MEM.MEM_STAT_SR false; let S : State := S.setFlag F.MEM.MEM_STAT_DEEP false; let S : State := { S with mem.waits := [] }; let S : State := S.setFlag F.MEM.MEM_CFG_SR_EN true; decide ((((fun s => (s.domOn 79 = true ∧ s.flag F.MEM.MEM_STAT_SR = false ∧ s.flag F.MEM.MEM_STAT_DEEP = false) ∧ s.mem.waits = [] ∧ s.flag F.MEM.MEM_CFG_SR_EN = true ∧ 1000 * s.get F.MEM.SR_CFG_SR_ENTER ≤ min (s.latTol 0) (s.latTol 1))) S))),
  (let S : State := Roff 79; decide ((((fun s => ¬ (s.domOn 79 = true ∧ s.flag F.MEM.MEM_STAT_SR = false ∧ s.flag F.MEM.MEM_STAT_DEEP = false) ∨ s.mem.waits ≠ [] ∨ s.flag F.MEM.MEM_CFG_SR_EN = false ∨ min (s.latTol 0) (s.latTol 1) < 1000 * s.get F.MEM.SR_CFG_SR_ENTER)) S))),
  (let S : State := R; let S : State := S.setFlag (domBit 0x120 79) true; let S : State := S.setFlag F.MEM.MEM_STAT_SR false; let S : State := S.setFlag F.MEM.MEM_STAT_DEEP false; let S : State := { S with mem.waits := [] }; let S : State := S.setFlag F.MEM.MEM_CFG_DEEP_EN true; decide ((((fun s => (s.domOn 79 = true ∧ s.flag F.MEM.MEM_STAT_SR = false ∧ s.flag F.MEM.MEM_STAT_DEEP = false) ∧ s.mem.waits = [] ∧ s.flag F.MEM.MEM_CFG_DEEP_EN = true ∧ (∀ d : Fin 2, s.latTol d = 2 ^ 32 - 1 ∧ s.flag (F.CAM.CSI_STAT_RUN d) = false) ∧ s.pw.st ≠ .scanning)) S))),
  (let S : State := R; decide ((((fun s => ¬ (s.domOn 79 = true ∧ s.flag F.MEM.MEM_STAT_SR = false ∧ s.flag F.MEM.MEM_STAT_DEEP = false) ∨ s.mem.waits ≠ [] ∨ s.flag F.MEM.MEM_CFG_DEEP_EN = false ∨ (∃ d : Fin 2, s.latTol d ≠ 2 ^ 32 - 1 ∨ s.flag (F.CAM.CSI_STAT_RUN d) = true) ∨ s.pw.st = .scanning)) S))),
  (let S : State := (let s : State := upd R [(F.MEM.MEM_STAT_SR, 1)]; { s with mem := { R.mem with waits := [(⟨2, 0x21, 1, 0⟩ : MemReq)] } }); decide ((((fun s => (s.flag F.MEM.MEM_STAT_SR = true ∨ s.flag F.MEM.MEM_STAT_DEEP = true) ∧ (s.mem.waits ≠ [] ∨ min (s.latTol 0) (s.latTol 1) ≤ s.get F.MEM.LAT_CFG_SR_WAKE))) S))),
  (let S : State := R; decide ((((fun s => (s.flag F.MEM.MEM_STAT_SR = false ∧ s.flag F.MEM.MEM_STAT_DEEP = false) ∨ (s.mem.waits = [] ∧ s.get F.MEM.LAT_CFG_SR_WAKE < min (s.latTol 0) (s.latTol 1)))) S))),
  (let S : State := R; let S : State := { S with mem.exiting := true }; decide ((((fun s => s.mem.exiting = true)) S))),
  (let S : State := R; let S : State := { S with mem.exiting := false }; decide ((((fun s => s.mem.exiting = false)) S))),
  (let S : State := R; let via : Port := .spi; let seq : BitVec 16 := 0; let v : Word := 0; let urgent := min 8000 (max 1000 (v.toNat % 65536)); runsAt ((.latCfgWrite via seq v)) S (fun s => decide (((fun u => u.touchesOff (F.MEM.LAT_CFG_SR_WAKE.addr) (1) = false ∧ u.noStep (wordAddrs (F.MEM.LAT_CFG_SR_WAKE.addr) (1)) = true ∧ ((fun u => v.toNat / 65536 < u.get F.MEM.SR_EXIT + urgent + 1000)) u)) s))),
  (let S : State := R; let via : Port := .spi; let seq : BitVec 16 := 0; let v : Word := 0x7FFF0400; let urgent := min 8000 (max 1000 (v.toNat % 65536)); runsAt ((.latCfgWrite via seq v)) S (fun s => decide (((fun u => u.touchesOff (F.MEM.LAT_CFG_SR_WAKE.addr) (1) = false ∧ u.noStep (wordAddrs (F.MEM.LAT_CFG_SR_WAKE.addr) (1)) = true ∧ ((fun u => u.get F.MEM.SR_EXIT + urgent + 1000 ≤ v.toNat / 65536)) u)) s)))].all id = true := by decide +kernel

/-- States and operands that meet the hypotheses of the clauses of Obligations.Commissioning. -/
theorem hyps_Commissioning : [
  (let S : State := R; let via : Port := .spi; let seq : BitVec 16 := 0; let cred : List Byte := R.credential; runsAt ((.commissionOpen via seq cred)) S (fun s => decide (((fun u => ((u.pw.st = .ready ∨ u.pw.st = .safeHold) ∧ u.safe.session = none) ∧ u.flag F.SAF.SAFE_STAT_LOCKOUT = false ∧ cred = u.credential)) s))),
  (let via : Port := .spi; let seq : BitVec 16 := 0; let cred : List Byte := zeros 32; let s : State := Rst .scanning; let p : Pkt := (asPacket (.commissionOpen via seq cred)).getD ⟨.spi, 0, 0, []⟩; let u : State := s.seen p; decide ((asPacket (.commissionOpen via seq cred) = some p ∧ s.takes p = true ∧ u = s.seen p) ∧ (u.pw.st ≠ .ready) ∧ (u.pw.st ≠ .safeHold))),
  (let via : Port := .spi; let seq : BitVec 16 := 0; let cred : List Byte := zeros 32; let s : State := (let s : State := R; { s with safe := { s.safe with session := some (⟨5, .spi, safeBlank⟩ : SafeSession) } }); let p : Pkt := (asPacket (.commissionOpen via seq cred)).getD ⟨.spi, 0, 0, []⟩; let u : State := s.seen p; decide ((asPacket (.commissionOpen via seq cred) = some p ∧ s.takes p = true ∧ u = s.seen p) ∧ (u.pw.st = .ready ∨ u.pw.st = .safeHold) ∧ (u.safe.session ≠ none))),
  (let via : Port := .spi; let seq : BitVec 16 := 0; let cred : List Byte := zeros 32; let s : State := R.set F.SAF.SAFE_STAT_LOCKOUT 1; let p : Pkt := (asPacket (.commissionOpen via seq cred)).getD ⟨.spi, 0, 0, []⟩; let u : State := s.seen p; decide ((asPacket (.commissionOpen via seq cred) = some p ∧ s.takes p = true ∧ u = s.seen p) ∧ (((u.pw.st = .ready ∨ u.pw.st = .safeHold) ∧ u.safe.session = none)) ∧ (u.flag F.SAF.SAFE_STAT_LOCKOUT = true))),
  (let via : Port := .spi; let seq : BitVec 16 := 0; let cred : List Byte := zeros 32; let s : State := R; let p : Pkt := (asPacket (.commissionOpen via seq cred)).getD ⟨.spi, 0, 0, []⟩; let u : State := s.seen p; decide ((asPacket (.commissionOpen via seq cred) = some p ∧ s.takes p = true ∧ u = s.seen p) ∧ (((u.pw.st = .ready ∨ u.pw.st = .safeHold) ∧ u.safe.session = none)) ∧ (u.flag F.SAF.SAFE_STAT_LOCKOUT = false) ∧ (cred ≠ u.credential))),
  (let S : State := (let s : State := R; { s with safe := { s.safe with session := some (⟨5, .spi, safeBlank⟩ : SafeSession) } }); let via : Port := .spi; let seq : BitVec 16 := 0; let ses : Word := 5; let x := (⟨5, .spi, safeBlank⟩ : SafeSession); runsAt ((.commissionAbort via seq ses)) S (fun s => decide (((fun u => (u.safe.session = some x ∧ x.port = via ∧ x.num = ses.toNat))) s))),
  (let S : State := (let s : State := R; { s with safe := { s.safe with session := some (⟨5, .spi, safeBlank⟩ : SafeSession) } }); let via : Port := .spi; let seq : BitVec 16 := 0; let ses : Word := 5; let f : Byte := 3; let n : Byte := 3; let b : List Byte := ([1, 3, 3, 0] ++ beBytes 2 0 ++ beBytes 2 100 ++ beBytes 4 1000 ++ beBytes 4 1000 ++ beBytes 4 2000 ++ beBytes 4 1000 ++ beBytes 4 1000 ++ beBytes 4 2000); let x := (⟨5, .spi, safeBlank⟩ : SafeSession); decide ((b.length = 8 + 8 * n.toNat) ∧ (f.toNat ≤ 15) ∧ (3 ≤ n.toNat) ∧ (n.toNat ≤ 32) ∧ (u8 b 0 ≤ 1) ∧ (u8 b 3 = 0) ∧ (fieldFault b n.toNat = 0)) && runsAt ((.fieldWrite via seq ses f n b)) S (fun s => decide (((fun u => (u.safe.session = some x ∧ x.port = via ∧ x.num = ses.toNat))) s))),
  (let S : State := (let s : State := R; { s with safe := { s.safe with session := some (⟨5, .spi, safeBlank⟩ : SafeSession) } }); let via : Port := .spi; let seq : BitVec 16 := 0; let ses : Word := 5; let f : Byte := 3; let n : Byte := 3; let b : List Byte := ([1, 3, 3, 0] ++ beBytes 2 0 ++ beBytes 2 0 ++ beBytes 4 1000 ++ beBytes 4 1000 ++ beBytes 4 2000 ++ beBytes 4 1000 ++ beBytes 4 1000 ++ beBytes 4 2000); let x := (⟨5, .spi, safeBlank⟩ : SafeSession); decide ((b.length = 8 + 8 * n.toNat) ∧ (f.toNat ≤ 15) ∧ (3 ≤ n.toNat) ∧ (n.toNat ≤ 32) ∧ (u8 b 0 ≤ 1) ∧ (u8 b 3 = 0) ∧ (fieldFault b n.toNat ≠ 0)) && runsAt ((.fieldWrite via seq ses f n b)) S (fun s => decide (((fun u => (u.safe.session = some x ∧ x.port = via ∧ x.num = ses.toNat))) s))),
  (let S : State := (let s : State := R; { s with safe := { s.safe with session := some (⟨5, .spi, safeBlank⟩ : SafeSession) } }); let via : Port := .spi; let seq : BitVec 16 := 0; let ses : Word := 5; let f : Byte := 16; let n : Byte := 3; let b : List Byte := ([1, 3, 3, 0] ++ beBytes 2 0 ++ beBytes 2 100 ++ beBytes 4 1000 ++ beBytes 4 1000 ++ beBytes 4 2000 ++ beBytes 4 1000 ++ beBytes 4 1000 ++ beBytes 4 2000); let x := (⟨5, .spi, safeBlank⟩ : SafeSession); decide ((b.length = 8 + 8 * n.toNat) ∧ (15 < f.toNat ∨ n.toNat < 3 ∨ 32 < n.toNat)) && runsAt ((.fieldWrite via seq ses f n b)) S (fun s => decide (((fun u => (u.safe.session = some x ∧ x.port = via ∧ x.num = ses.toNat))) s))),
  (let S : State := (let s : State := R; { s with safe := { s.safe with session := some (⟨5, .spi, safeBlank⟩ : SafeSession) } }); let via : Port := .spi; let seq : BitVec 16 := 0; let ses : Word := 5; let v : Word := 5; let k : BitVec 16 := 0x10; let x := (⟨5, .spi, safeBlank⟩ : SafeSession); decide ((k.toNat ∈ safeParams) ∧ (safeParamOk k.toNat v.toNat = true)) && runsAt ((.safetyParamWrite via seq ses k v)) S (fun s => decide (((fun u => (u.safe.session = some x ∧ x.port = via ∧ x.num = ses.toNat))) s))),
  (let S : State := (let s : State := R; { s with safe := { s.safe with session := some (⟨5, .spi, safeBlank⟩ : SafeSession) } }); let via : Port := .spi; let seq : BitVec 16 := 0; let ses : Word := 5; let v : Word := 0; let k : BitVec 16 := 0; let x := (⟨5, .spi, safeBlank⟩ : SafeSession); decide ((k.toNat ∉ safeParams)) && runsAt ((.safetyParamWrite via seq ses k v)) S (fun s => decide (((fun u => (u.safe.session = some x ∧ x.port = via ∧ x.num = ses.toNat))) s))),
  (let S : State := (let s : State := R; { s with safe := { s.safe with session := some (⟨5, .spi, safeBlank⟩ : SafeSession) } }); let via : Port := .spi; let seq : BitVec 16 := 0; let ses : Word := 5; let v : Word := 9; let k : BitVec 16 := 0x10; let x := (⟨5, .spi, safeBlank⟩ : SafeSession); decide ((k.toNat ∈ safeParams) ∧ (safeParamOk k.toNat v.toNat = false)) && runsAt ((.safetyParamWrite via seq ses k v)) S (fun s => decide (((fun u => (u.safe.session = some x ∧ x.port = via ∧ x.num = ses.toNat))) s))),
  (let S : State := (let s : State := R; { s with safe := { s.safe with session := some (⟨5, .spi, []⟩ : SafeSession) } }); let via : Port := .spi; let seq : BitVec 16 := 0; let ses : Word := 5; let crc : Word := 1; let x : SafeSession := (⟨5, .spi, []⟩ : SafeSession); runsAt ((.commissionCommit via seq ses crc)) S (fun s => decide (((fun u => (u.safe.session = some x ∧ x.port = via ∧ x.num = ses.toNat) ∧ crc.toNat ≠ imgCrc x.stage)) s))),
  (let S : State := (let s : State := R; { s with safe := { s.safe with session := some (⟨5, .spi, []⟩ : SafeSession) } }); let via : Port := .spi; let seq : BitVec 16 := 0; let ses : Word := 5; let crc : Word := BitVec.ofNat 32 (imgCrc []); let x : SafeSession := (⟨5, .spi, []⟩ : SafeSession); runsAt ((.commissionCommit via seq ses crc)) S (fun s => decide (((fun u => (u.safe.session = some x ∧ x.port = via ∧ x.num = ses.toNat) ∧ crc.toNat = imgCrc x.stage ∧ u.commitFault x.stage ≠ 0)) s))),
  (let S : State := (let s : State := R; { s with safe := { s.safe with session := some (⟨5, .spi, safeBlank⟩ : SafeSession) } }); let copies : Fin 3 := 0; decide ((((fun s => s.safe.commit = none)) S))),
  (let S : State := (let s : State := R; { s with safe := { s.safe with session := some (⟨5, .spi, safeBlank⟩ : SafeSession) } }); decide ((((fun s => s.safe.loaded = false ∧ safeCopyOk (s.safeCopy 0) = false ∧ safeCopyOk (s.safeCopy 1) = false)) S))),
  (let S : State := R; decide ((((fun s => s.safeConf = false)) S)))].all id = true := by decide +kernel

/-- States and operands that meet the hypotheses of the clauses of Obligations.SafetyOutputs. -/
theorem hyps_SafetyOutputs : [
  (let t : Nat := 5; let x : InSt := (⟨true, true, 0, 0, .stop, true, 0⟩ : InSt); decide (((inputNext t x).st = .run))),
  (let t : Nat := 5; let x : InSt := (⟨true, false, 0, 0, .fault, true, 0⟩ : InSt); decide ((x.st = .fault))),
  (let t : Nat := 5; let x : InSt := (⟨true, false, 0, 0, .run, true, 0⟩ : InSt); decide ((x.st = .run) ∧ (x.a ≠ x.b))),
  (let t : Nat := 5; let x : InSt := (⟨true, false, 0, 0, .discRun, true, 9⟩ : InSt); decide ((x.st = .discStop ∨ x.st = .discRun) ∧ (x.a ≠ x.b) ∧ (t ≤ x.cycles + 1))),
  (let cfg : Nat := 0x00020300; let n : Nat := 5; let lv : Bool := true; let smp : Bool := false; decide (((filterStep cfg lv n smp).1 ≠ lv))),
  (let cfg : Nat := 0x00020300; let n : Nat := 5; let lv : Bool := true; let smp : Bool := false; decide (((filterStep cfg lv n smp).1 ≠ lv) ∧ (lv = true))),
  (let S : State := R; let o : Fin 4 := 0; let chB : Bool := true; decide ((((fun s => (s.safeOut o).st ≠ .on ∨ (if chB then (s.safeOut o).pulseB else (s.safeOut o).pulseA) ≠ 0)) S))),
  (let S : State := (let s : State := { Rconf with safe := { Rconf.safe with cfg := some (patchParam simgOk 0x30 0x101), ins := [(0, ⟨true, true, 1, 0, .run, true, 0⟩)] } }; s.setSafeOut 0 (⟨.on, true, true, 0, 0, 5, 5, 0, 0⟩ : SafeOut)); let o : Fin 4 := 0; let chB : Bool := true; decide ((((fun s => (s.safeOut o).st = .on ∧ (if chB then (s.safeOut o).pulseB else (s.safeOut o).pulseA) = 0 ∧ s.pendingFor o = true)) S))),
  (let S : State := R; let o : Fin 4 := 0; let S : State := S.setSafeOut o { S.safeOut o with st := .on }; let chB : Bool := true; decide ((((fun s => (s.safeOut o).st = .on ∧ (if chB then (s.safeOut o).pulseB else (s.safeOut o).pulseA) = 0 ∧ s.pendingFor o = false)) S))),
  (let S : State := R; let S : State := { S with pw.st := .scanning }; decide ((((fun s => s.pw.st = .scanning)) S))),
  (let S : State := R; decide ((((fun s => s.pw.st ≠ .scanning)) S))),
  (let S : State := R; let i : Fin 8 := 0; decide ((i.val < 4) ∧ (((fun s => s.invalidNow.testBit i = true)) S))),
  (let S : State := Rst .scanning; let i : Fin 8 := 0; decide ((i.val < 4) ∧ (((fun s => s.invalidNow.testBit i = false)) S))),
  (let S : State := R; let i : Fin 8 := 5; decide ((i.val = 5 ∨ i.val = 6) ∧ (((fun _ => True)) S))),
  (let S : State := R; let i : Fin 8 := 4; decide ((4 ≤ i.val) ∧ (((fun s => s.pw.st ≠ .scanning)) S))),
  (let S : State := R; let s : State := S; let c : Nat := 0; decide ((c < 256))),
  (let S : State := R; decide ((((fun s => s.ps.cols.all (fun k => k.judged || !(s.partsMissing k).isEmpty) = true)) S))),
  (let S : State := { R with ps := { R.ps with cols := [colC] } }; let k : ColInfo := colC; decide ((((fun s => s.ps.cols.find? (fun j => !j.judged && (s.partsMissing j).isEmpty) = some k ∧ s.safe.built = false)) S))),
  (let S : State := { Rconf with ps := { R.ps with cols := [colC] }, safe := { Rconf.safe with built := true } }; let k : ColInfo := colC; decide ((((fun s => s.ps.cols.find? (fun j => !j.judged && (s.partsMissing j).isEmpty) = some k ∧ s.safe.built = true)) S)))].all id = true := by decide +kernel

/-- States and operands that meet the hypotheses of the clauses of Obligations.Housekeeping. -/
theorem hyps_Housekeeping : [
  (let S : State := R; let S : State := S.setFlag (domBit 0x120 65) true; let S : State := S.setFlag F.HK.HK_STAT_STARTING true; let S : State := { S with hk.block := none }; let S : State := { S with hk.urgent := none }; let S : State := S.setFlag F.HK.HK_CFG_CONV_EN true; decide ((((fun s => s.domOn 65 = true ∧ s.flag F.HK.HK_STAT_STARTING = true ∧ s.hk.block = none ∧ s.hk.urgent = none ∧ s.flag F.HK.HK_CFG_CONV_EN = true)) S))),
  (let S : State := R; decide ((((fun s => s.domOn 65 = false ∨ s.flag F.HK.HK_STAT_STARTING = false)) S))),
  (let S : State := R; let S : State := S.setFlag (domBit 0x120 65) true; let S : State := { S with hk.between := true }; let S : State := S.setFlag F.HK.HK_STAT_RUNNING true; let S : State := { S with hk.block := none }; let S : State := { S with hk.urgent := none }; let S : State := S.setFlag F.HK.HK_CFG_CONV_EN true; decide ((((fun s => s.domOn 65 = true ∧ s.hk.between = true ∧ s.flag F.HK.HK_STAT_RUNNING = true ∧ s.hk.block = none ∧ s.hk.urgent = none ∧ s.flag F.HK.HK_CFG_CONV_EN = true)) S))),
  (let S : State := (let s : State := upd R [(F.HK.HK_STAT_RUNNING, 1), (F.HK.HK_SLOT_CFG_EN 0, 1)]; { s with hk := { s.hk with between := true, block := some (beBytes 2 1000 ++ [1, 0, 0, 0, 0, 0] ++ [0, 0x81, 0, 1, 0x81, 0, 2, 0x81, 0, 3, 0x81, 0, 0x18, 0x80, 0, 0x19, 0x80, 0] ++ (List.replicate 10 [(0 : Byte), 0, 0]).flatten ++ zeros 8) } }); let b : List Byte := (beBytes 2 1000 ++ [1, 0, 0, 0, 0, 0] ++ [0, 0x81, 0, 1, 0x81, 0, 2, 0x81, 0, 3, 0x81, 0, 0x18, 0x80, 0, 0x19, 0x80, 0] ++ (List.replicate 10 [(0 : Byte), 0, 0]).flatten ++ zeros 8); decide ((b.length = 64) ∧ (((fun s => s.domOn 65 = true ∧ s.hk.between = true ∧ s.flag F.HK.HK_STAT_RUNNING = true ∧ s.hk.block = some b ∧ s.hk.urgent = none ∧ u8 b 2 % 2 = 1)) S))),
  (let S : State := R; decide ((((fun s => s.domOn 65 = false ∨ (s.hk.between = false ∧ (s.flag F.HK.HK_STAT_RUNNING = true ∨ s.flag F.HK.HK_STAT_STARTING = true)))) S))),
  (let S : State := R; let S : State := S.setFlag (domBit 0x120 65) true; let S : State := S.setFlag F.HK.HK_STAT_RUNNING false; let S : State := S.setFlag F.HK.HK_STAT_STARTING false; decide ((((fun s => s.domOn 65 = true ∧ s.flag F.HK.HK_STAT_RUNNING = false ∧ s.flag F.HK.HK_STAT_STARTING = false)) S))),
  (let S : State := Roff 65; let code : Int := 0; decide ((-2 ^ 31 ≤ code) ∧ (code < 2 ^ 31) ∧ (((fun s => ¬ (s.domOn 65 = true ∧ s.flag F.HK.HK_STAT_RUNNING = true ∧ s.hk.between = false ∧ s.hk.inUrgent = false))) S))),
  (let S : State := R; let S : State := S.setFlag (domBit 0x120 65) true; let S : State := S.setFlag F.HK.HK_STAT_RUNNING true; let S : State := { S with hk.between := false }; let S : State := { S with hk.inUrgent := false }; let S : State := S.setFlag (F.HK.HK_SLOT_CFG_EN S.hkSlot) false; let code : Int := 0; decide ((-2 ^ 31 ≤ code) ∧ (code < 2 ^ 31) ∧ (((fun s => (s.domOn 65 = true ∧ s.flag F.HK.HK_STAT_RUNNING = true ∧ s.hk.between = false ∧ s.hk.inUrgent = false) ∧ s.hkSlot < 15 ∧ s.flag (F.HK.HK_SLOT_CFG_EN s.hkSlot) = false)) S))),
  (let S : State := (let s : State := upd R [(F.HK.HK_STAT_RUNNING, 1), (F.HK.HK_SLOT_CFG_EN 0, 1)]; { s with hk := { s.hk with between := false, inUrgent := false, urgent := none } }); let code : Int := 4194304; decide ((-2 ^ 31 ≤ code) ∧ (code < 2 ^ 31) ∧ (((fun s => (s.domOn 65 = true ∧ s.flag F.HK.HK_STAT_RUNNING = true ∧ s.hk.between = false ∧ s.hk.inUrgent = false) ∧ s.flag (F.HK.HK_SLOT_CFG_EN s.hkSlot) = true)) S))),
  (let S : State := R; let code : Int := 0; decide ((-2 ^ 31 ≤ code) ∧ (code < 2 ^ 31) ∧ (((fun s => s.domOn 65 = false ∨ s.hk.urgent = none ∨ s.hk.inUrgent = false)) S))),
  (let S : State := (let s : State := upd R [(F.HK.HK_STAT_RUNNING, 1), (F.HK.HK_SLOT_CFG_EN 0, 1)]; { s with hk := { s.hk with between := false, inUrgent := true, urgent := some 0 } }); let code : Int := 1000; let n : Nat := 0; decide ((-2 ^ 31 ≤ code) ∧ (code < 2 ^ 31) ∧ (n < 16) ∧ (((fun s => s.domOn 65 = true ∧ s.hk.urgent = some n ∧ s.hk.inUrgent = true)) S))),
  (let S : State := R; let S : State := S.setFlag (domBit 0x120 65) true; let S : State := S.setFlag F.HK.HK_STAT_RUNNING true; let S : State := { S with hk.between := false }; let S : State := { S with hk.inUrgent := false }; let S : State := S.setFlag (F.HK.HK_SLOT_CFG_EN S.hkSlot) true; let S : State := S.set (F.HK.HK_SLOT_CFG_INPUT S.hkSlot) ((4) - 1); decide ((((fun s => s.domOn 65 = true ∧ s.flag F.HK.HK_STAT_RUNNING = true ∧ s.hk.between = false ∧ s.hk.inUrgent = false ∧ s.flag (F.HK.HK_SLOT_CFG_EN s.hkSlot) = true ∧ s.get (F.HK.HK_SLOT_CFG_INPUT s.hkSlot) < 4)) S))),
  (let S : State := R.set F.HK.HK_STAT_RUNNING 0; decide ((((fun s => s.flag F.HK.HK_STAT_RUNNING = false ∨ s.hk.between = true ∨ (s.hk.inUrgent = false ∧ 4 ≤ s.get (F.HK.HK_SLOT_CFG_INPUT s.hkSlot)))) S))),
  (let S : State := R.set F.HK.HK_STAT_RUNNING 1; let via : Port := .spi; let seq : BitVec 16 := 0; let b : List Byte := (beBytes 2 1000 ++ [1, 0, 0, 0, 0, 0] ++ [0, 0x81, 0, 1, 0x81, 0, 2, 0x81, 0, 3, 0x81, 0, 0x18, 0x80, 0, 0x19, 0x80, 0] ++ (List.replicate 10 [(0 : Byte), 0, 0]).flatten ++ zeros 8); decide ((b.length = 64) ∧ ((hkBlockBad b).all (fun e => !e.1) = true) ∧ (hkMissing b = none)) && runsAt ((.hkConfig via seq b)) S (fun s => decide (((fun u => (u8 b 2 = 1 ∨ u.pw.st ≠ .scanning) ∧ (u.flag F.HK.HK_STAT_RUNNING = true ∨ u.flag F.HK.HK_STAT_STARTING = true))) s))),
  (let S : State := R; let S : State := S.setFlag F.HK.HK_STAT_RUNNING false; let S : State := S.setFlag F.HK.HK_STAT_STARTING false; let via : Port := .spi; let seq : BitVec 16 := 0; let b : List Byte := (beBytes 2 1000 ++ [1, 0, 0, 0, 0, 0] ++ [0, 0x81, 0, 1, 0x81, 0, 2, 0x81, 0, 3, 0x81, 0, 0x18, 0x80, 0, 0x19, 0x80, 0] ++ (List.replicate 10 [(0 : Byte), 0, 0]).flatten ++ zeros 8); decide ((b.length = 64) ∧ ((hkBlockBad b).all (fun e => !e.1) = true) ∧ (hkMissing b = none) ∧ (u8 b 2 = 1)) && runsAt ((.hkConfig via seq b)) S (fun s => decide (((fun u => u.flag F.HK.HK_STAT_RUNNING = false ∧ u.flag F.HK.HK_STAT_STARTING = false)) s))),
  (let S : State := Rst .scanning; let via : Port := .spi; let seq : BitVec 16 := 0; let b : List Byte := (beBytes 2 1000 ++ [0, 0, 0, 0, 0, 0] ++ [0, 0x81, 0, 1, 0x81, 0, 2, 0x81, 0, 3, 0x81, 0, 0x18, 0x80, 0, 0x19, 0x80, 0] ++ (List.replicate 10 [(0 : Byte), 0, 0]).flatten ++ zeros 8); decide ((b.length = 64) ∧ ((hkBlockBad b).all (fun e => !e.1) = true) ∧ (hkMissing b = none) ∧ (u8 b 2 = 0)) && runsAt ((.hkConfig via seq b)) S (fun s => decide (((fun u => u.pw.st = .scanning)) s))),
  (let S : State := R; let via : Port := .spi; let seq : BitVec 16 := 0; let b : List Byte := (beBytes 2 1000 ++ [1, 0, 0, 0, 0, 0] ++ [0, 0x81, 0, 1, 0x81, 0, 2, 0x81, 0, 3, 0x81, 0, 0x18, 0x80, 0, 0x19, 0, 0] ++ (List.replicate 10 [(0 : Byte), 0, 0]).flatten ++ zeros 8); let i := 0x19; decide ((b.length = 64) ∧ ((hkBlockBad b).all (fun e => !e.1) = true) ∧ (hkMissing b = some i)) && runsAt ((.hkConfig via seq b)) S (fun s => decide (((fun u => u.pw.st ≠ .scanning)) s))),
  (let S : State := R; let via : Port := .spi; let seq : BitVec 16 := 0; let b : List Byte := (beBytes 2 5 ++ [1, 0, 0, 0, 0, 0] ++ [0, 0x81, 0, 1, 0x81, 0, 2, 0x81, 0, 3, 0x81, 0, 0x18, 0x80, 0, 0x19, 0x80, 0] ++ (List.replicate 10 [(0 : Byte), 0, 0]).flatten ++ zeros 8); let o := 0; decide ((b.length = 64) ∧ ((hkBlockBad b).find? (fun e => e.1) = some (true, o))) && runsAt ((.hkConfig via seq b)) S (fun s => decide (((fun u => u.pw.st ≠ .scanning)) s))),
  (let S : State := R; let n : Byte := 0; let S : State := S.setFlag F.HK.HK_CFG_CONV_EN true; let S : State := S.setFlag F.HK.HK_STAT_STARTING false; let S : State := S.setFlag (F.HK.HK_SLOT_CFG_EN n.toNat) true; let via : Port := .spi; let seq : BitVec 16 := 0; decide ((n.toNat ≤ 15)) && runsAt ((.hkUrgent via seq n)) S (fun s => decide (((fun u => u.flag F.HK.HK_CFG_CONV_EN = true ∧ u.flag F.HK.HK_STAT_STARTING = false ∧ u.flag (F.HK.HK_SLOT_CFG_EN n.toNat) = true ∧ u.rangeBusy 0x0801 = false)) s))),
  (let S : State := R.set F.HK.HK_CFG_CONV_EN 0; let via : Port := .spi; let seq : BitVec 16 := 0; let n : Byte := 3; decide ((n.toNat ≤ 15)) && runsAt ((.hkUrgent via seq n)) S (fun s => decide (((fun u => u.flag F.HK.HK_CFG_CONV_EN = false ∨ u.flag F.HK.HK_STAT_STARTING = true)) s))),
  (let S : State := R; let n : Byte := 0; let S : State := S.setFlag F.HK.HK_CFG_CONV_EN true; let S : State := S.setFlag F.HK.HK_STAT_STARTING false; let S : State := S.setFlag (F.HK.HK_SLOT_CFG_EN n.toNat) false; let via : Port := .spi; let seq : BitVec 16 := 0; decide ((n.toNat ≤ 15)) && runsAt ((.hkUrgent via seq n)) S (fun s => decide (((fun u => u.flag F.HK.HK_CFG_CONV_EN = true ∧ u.flag F.HK.HK_STAT_STARTING = false ∧ u.flag (F.HK.HK_SLOT_CFG_EN n.toNat) = false)) s))),
  (let S : State := R; let via : Port := .spi; let seq : BitVec 16 := 0; let v : Word := 0; decide ((v.toNat < 65536)) && runsAt ((.auxoutSet via seq v)) S (fun s => decide (((fun u => u.auxOwned = false ∧ u.auxHeld = false)) s))),
  (let S : State := upd (Rst .safeHold) [(F.HK.AUX_CTRL_SAFE_EN, 1)]; let via : Port := .spi; let seq : BitVec 16 := 0; let v : Word := 5; decide ((v.toNat < 65536)) && runsAt ((.auxoutSet via seq v)) S (fun s => decide (((fun u => u.auxOwned = true ∨ u.auxHeld = true)) s))),
  (let S : State := R; let via : Port := .spi; let seq : BitVec 16 := 0; let c : Byte := 0; let r : Byte := 0; decide ((c.toNat ≤ 3) ∧ (r.toNat ≤ 5)) && runsAt ((.tiaRange via seq c r)) S (fun s => decide (((fun _ => True)) s))),
  (let S : State := R; let via : Port := .spi; let seq : BitVec 16 := 0; let c : Byte := 4; let r : Byte := 1; decide ((3 < c.toNat ∨ 5 < r.toNat)) && runsAt ((.tiaRange via seq c r)) S (fun s => decide (((fun _ => True)) s))),
  (let S : State := Roff 65; let c : Fin 4 := 0; let code : Int := 0; decide ((((fun s => s.domOn 65 = false ∨ ((s.hk.litPend = none ∧ (s.tia c).pend = false) ∧ (s.tia c).run = false))) S))),
  (let S : State := R; let c : Fin 4 := 0; let S : State := S.setFlag (domBit 0x120 65) true; let S : State := { S with hk.litPend := none }; let S : State := S.setTia c { S.tia c with pend := false }; let S : State := S.setTia c { S.tia c with run := true }; let S : State := S.setTia c { S.tia c with left := (0) + 1 }; let code : Int := 0; decide ((((fun s => s.domOn 65 = true ∧ (s.hk.litPend = none ∧ (s.tia c).pend = false) ∧ (s.tia c).run = true ∧ 0 < (s.tia c).left)) S))),
  (let S : State := R; let c : Fin 4 := 0; let S : State := S.setFlag (domBit 0x120 65) true; let S : State := { S with hk.litPend := none }; let S : State := S.setTia c { S.tia c with pend := false }; let S : State := S.setTia c { S.tia c with run := true }; let S : State := S.setTia c { S.tia c with left := 0 }; let code : Int := 0; decide ((((fun s => s.domOn 65 = true ∧ (s.hk.litPend = none ∧ (s.tia c).pend = false) ∧ (s.tia c).run = true ∧ (s.tia c).left = 0)) S))),
  (let S : State := R; let c : Fin 4 := 0; let S : State := S.setFlag (domBit 0x120 65) true; let S : State := { S with hk.litPend := none }; let S : State := S.setTia c { S.tia c with run := false }; let S : State := S.setTia c { S.tia c with pend := true }; let code : Int := 0; decide ((((fun s => s.domOn 65 = true ∧ s.hk.litPend = none ∧ (s.tia c).run = false ∧ (s.tia c).pend = true)) S))),
  (let S : State := R; let S : State := S.setFlag (domBit 0x120 65) true; let S : State := S.setFlag F.HK.WM_CTRL_AUTO true; decide ((((fun s => s.domOn 65 = true ∧ s.flag F.HK.WM_CTRL_AUTO = true)) S))),
  (let S : State := Roff 65; decide ((((fun s => s.domOn 65 = false ∨ s.flag F.HK.WM_CTRL_AUTO = false)) S))),
  (let S : State := R; let via : Port := .spi; let seq : BitVec 16 := 0; let c : Fin 4 := 0; let v : Word := 0; decide ((v.toNat.testBit 31 = false)) && runsAt ((.tiaCfgWrite via seq c v)) S (fun s => decide (((fun u => u.touchesOff ((F.TIA.TIA_CFG_EN c).addr) (1) = false ∧ u.noStep (wordAddrs ((F.TIA.TIA_CFG_EN c).addr) (1)) = true ∧ ((fun _ => True)) u)) s))),
  (let S : State := R; let c : Fin 4 := 1; let S : State := S.setFlag (F.TIA.TIA_CFG_EN c) false; let via : Port := .spi; let seq : BitVec 16 := 0; let v : Word := 0x80000000; decide ((v.toNat.testBit 31 = true)) && runsAt ((.tiaCfgWrite via seq c v)) S (fun s => decide (((fun u => u.touchesOff ((F.TIA.TIA_CFG_EN c).addr) (1) = false ∧ u.noStep (wordAddrs ((F.TIA.TIA_CFG_EN c).addr) (1)) = true ∧ ((fun u => u.flag (F.TIA.TIA_CFG_EN c) = false)) u)) s))),
  (let S : State := R; let via : Port := .spi; let seq : BitVec 16 := 0; let v : Word := 2; decide ((v.toNat.testBit 1 = true)) && runsAt ((.wmCtrlWrite via seq v)) S (fun s => decide (((fun u => u.touchesOff (F.HK.WM_CTRL_AUTO.addr) (1) = false ∧ u.noStep (wordAddrs (F.HK.WM_CTRL_AUTO.addr) (1)) = true ∧ ((fun _ => True)) u)) s))),
  (let S : State := R; let via : Port := .spi; let seq : BitVec 16 := 0; let v : Word := 0; decide ((v.toNat.testBit 1 = false)) && runsAt ((.wmCtrlWrite via seq v)) S (fun s => decide (((fun u => u.touchesOff (F.HK.WM_CTRL_AUTO.addr) (1) = false ∧ u.noStep (wordAddrs (F.HK.WM_CTRL_AUTO.addr) (1)) = true ∧ ((fun u => u.wmLead ≠ none)) u)) s)))].all id = true := by decide +kernel

/-- States and operands that meet the hypotheses of the clauses of Obligations.Thermal. -/
theorem hyps_Thermal : [
  (let S : State := R; let S : State := S.setFlag (domBit 0x120 65) false; let codes : List Int := []; decide ((((fun s => s.domOn 65 = false)) S))),
  (let S : State := R; let S : State := S.setFlag (domBit 0x120 65) true; let codes : List Int := c16; decide ((codes.length = 16) ∧ (((fun s => s.domOn 65 = true)) S))),
  (let S : State := R; let s : State := S; let codes : List Int := []; let h : Fin 4 := 0; let i : Fin 4 := 0; let v : Int := 0; decide ((s.hubOf codes h = some v) ∧ (s.bitAt F.TH.DIODE_FAULT (4 * h + i) = false))),
  (let s : State := { R with th := { R.th with sensors := [(0, (⟨2, [1, 1, 1], [none, none, none]⟩ : SensorSt))] } }; let k : Nat := 0; let t : Int := 2479; let x := s.sensor k; let y := (s.sensorEval k t false).sensor k; let i : Nat := 2; decide ((i < 3) ∧ ((i = 0 ∨ (s.thresholds k).2 = true)) ∧ (16 * ((s.thresholds k).1.getD i 0 : Int) < t) ∧ (1 ≤ x.up.getD i 0))),
  (let s : State := { R with th := { R.th with sensors := [(0, (⟨2, [1, 1, 1], [none, none, none]⟩ : SensorSt))] } }; let k : Nat := 0; let t : Int := 2479; let x := s.sensor k; let y := (s.sensorEval k t false).sensor k; decide ((x.rank < y.rank))),
  (let S : State := Roff 65; decide ((((fun s => s.domOn 65 = false ∨ s.domOn 66 = false)) S))),
  (let S : State := R; let S : State := S.setFlag (domBit 0x120 65) true; let S : State := S.setFlag (domBit 0x120 66) true; decide ((((fun s => s.domOn 65 = true ∧ s.domOn 66 = true ∧ ∀ h : Fin 4, ∀ t, s.th.hubs.getD h none = some t → t < 16 * (s.get F.TH.TH_HUB_SHUT : Int))) S))),
  (let S : State := { R with th := { R.th with hubs := [none, some 3000, none, none], shut := [(1, 1)] } }; let h : Fin 4 := 1; let v : Int := 3000; decide ((((fun s => s.domOn 65 = true ∧ s.domOn 66 = true ∧ s.pw.latchFlag = false ∧ s.pw.st ≠ .thermalLatch ∧ s.th.hubs.getD h none = some v ∧ 16 * (s.get F.TH.TH_HUB_SHUT : Int) ≤ v ∧ 1 ≤ spGet (fun _ => 0) s.th.shut h)) S))),
  (let S : State := Rst .thermalLatch; decide ((((fun s => s.pw.st = .off ∨ s.pw.st = .thermalLatch)) S))),
  (let S : State := R; let S : State := { S with pw.romOnly := false }; decide ((((fun s => (s.pw.st = .ready ∨ s.pw.st = .scanning ∨ s.pw.st = .safeHold) ∧ s.pw.romOnly = false)) S))),
  (let S : State := Rst .booting; decide ((((fun s => s.pw.st = .booting ∨ s.pw.st = .dormant ∨ s.pw.st = .dormantEntry)) S))),
  (let S : State := R; let via : Port := .spi; let seq : BitVec 16 := 0; let a : Word := BitVec.ofNat 32 F.TH.TH_HUB_WARN.addr; let v : Word := 0x30405060; decide ((a.toNat = F.TH.TH_HUB_WARN.addr) ∧ ((bitsOf v.toNat 24 8) < (bitsOf v.toNat 16 8)) ∧ ((bitsOf v.toNat 16 8) < (bitsOf v.toNat 8 8)) ∧ ((bitsOf v.toNat 8 8) < (bitsOf v.toNat 0 8)) ∧ ((bitsOf v.toNat 0 8) ≤ 135)) && runsAt ((.thermalThresholdWrite via seq a v)) S (fun s => decide (((fun u => u.touchesOff (a.toNat) (1) = false ∧ u.noStep (wordAddrs (a.toNat) (1)) = true ∧ ((fun _ => True)) u)) s))),
  (let S : State := R; let via : Port := .spi; let seq : BitVec 16 := 0; let a : Word := BitVec.ofNat 32 F.TH.TH_HUB_WARN.addr; let v : Word := 0x30403060; decide ((a.toNat = F.TH.TH_HUB_WARN.addr) ∧ ((bitsOf v.toNat 16 8) ≤ (bitsOf v.toNat 24 8) ∨ (bitsOf v.toNat 8 8) ≤ (bitsOf v.toNat 16 8) ∨ (bitsOf v.toNat 0 8) ≤ (bitsOf v.toNat 8 8) ∨ 135 < (bitsOf v.toNat 0 8))) && runsAt ((.thermalThresholdWrite via seq a v)) S (fun s => decide (((fun u => u.touchesOff (a.toNat) (1) = false ∧ u.noStep (wordAddrs (a.toNat) (1)) = true ∧ ((fun _ => True)) u)) s))),
  (let S : State := R; let via : Port := .spi; let seq : BitVec 16 := 0; let a : Word := BitVec.ofNat 32 (F.TH.TH_NTC_WARN 1).addr; let v : Word := 0x01203040; let i : Fin 4 := 1; decide ((a.toNat = (F.TH.TH_NTC_WARN i).addr) ∧ (v.toNat.testBit 24 = false ∨ ((bitsOf v.toNat 16 8) < (bitsOf v.toNat 8 8) ∧ (bitsOf v.toNat 8 8) < (bitsOf v.toNat 0 8)))) && runsAt ((.thermalThresholdWrite via seq a v)) S (fun s => decide (((fun u => u.touchesOff (a.toNat) (1) = false ∧ u.noStep (wordAddrs (a.toNat) (1)) = true ∧ ((fun _ => True)) u)) s))),
  (let S : State := R; let via : Port := .spi; let seq : BitVec 16 := 0; let a : Word := BitVec.ofNat 32 (F.TH.TH_NTC_WARN 1).addr; let v : Word := 0x01404030; let i : Fin 4 := 1; decide ((a.toNat = (F.TH.TH_NTC_WARN i).addr) ∧ (v.toNat.testBit 24 = true) ∧ ((bitsOf v.toNat 8 8) ≤ (bitsOf v.toNat 16 8) ∨ (bitsOf v.toNat 0 8) ≤ (bitsOf v.toNat 8 8))) && runsAt ((.thermalThresholdWrite via seq a v)) S (fun s => decide (((fun u => u.touchesOff (a.toNat) (1) = false ∧ u.noStep (wordAddrs (a.toNat) (1)) = true ∧ ((fun _ => True)) u)) s)))].all id = true := by decide +kernel

/-- States and operands that meet the hypotheses of the clauses of Obligations.Calibration. -/
theorem hyps_Calibration : [
  (let S : State := R; let m : BitVec 16 := 1; let S : State := { S with pw.st := .ready }; let S : State := { S with th.mean := some default }; let S : State := S.setFlag F.CAL.CAL_STAT_BUSY false; let S : State := { S with pw.reload := [] }; let via : Port := .spi; let seq : BitVec 16 := 0; let items := (List.range 4).filter (fun i => m.getLsbD i); decide ((m.toNat ≠ 0) ∧ (m.toNat < 16)) && runsAt ((.calRun via seq m)) S (fun s => decide (((fun u => u.pw.st = .ready ∧ u.th.mean.isSome = true ∧ u.rangeBusy 0x0805 = false ∧ u.flag F.CAL.CAL_STAT_BUSY = false ∧ u.pw.reload = [])) s))),
  (let S : State := R; let m : BitVec 16 := 0; let S : State := { S with pw.st := .ready }; let S : State := { S with th.mean := some default }; let via : Port := .spi; let seq : BitVec 16 := 0; let items := (List.range 4).filter (fun i => m.getLsbD i); decide ((m.toNat = 0 ∨ 16 ≤ m.toNat)) && runsAt ((.calRun via seq m)) S (fun s => decide (((fun u => u.pw.st = .ready ∧ u.th.mean.isSome = true)) s))),
  (let S : State := Rst .scanning; let via : Port := .spi; let seq : BitVec 16 := 0; let m : BitVec 16 := 0; let items := (List.range 4).filter (fun i => m.getLsbD i); runsAt ((.calRun via seq m)) S (fun s => decide (((fun u => u.pw.st ≠ .ready)) s))),
  (let S : State := R; let m : BitVec 16 := 0; let S : State := { S with pw.st := .ready }; let S : State := { S with th.mean := none }; let via : Port := .spi; let seq : BitVec 16 := 0; let items := (List.range 4).filter (fun i => m.getLsbD i); runsAt ((.calRun via seq m)) S (fun s => decide (((fun u => u.pw.st = .ready ∧ u.th.mean = none)) s))),
  (let S : State := R; let st : Nat := 0; let dt : Nat := 0; let S : State := { S with cal.ended := some (st, dt) }; decide ((((fun s => s.cal.ended = some (st, dt))) S))),
  (let S : State := R; let S : State := { S with cal.ended := none }; decide ((((fun s => s.cal.ended = none)) S))),
  (let S : State := R; let S : State := S.setFlag (domBit 0x120 65) true; let S : State := { S with pw.st := .ready }; let S : State := S.setFlag F.CAL.CAL_CTRL_AUTO true; let S : State := S.set F.TH.TH_STAT_LEVEL (0); let S : State := S.setFlag F.CAL.CAL_STAT_BUSY false; let S : State := S.set F.CAL.CAL_STAT_DUE ((0) + 1); let S : State := { S with th.mean := some default }; decide ((((fun s => s.domOn 65 = true ∧ s.pw.st = .ready ∧ s.flag F.CAL.CAL_CTRL_AUTO = true ∧ s.get F.TH.TH_STAT_LEVEL = 0 ∧ s.rangeBusy 0x0805 = false ∧ s.flag F.CAL.CAL_STAT_BUSY = false ∧ s.get F.CAL.CAL_STAT_DUE ≠ 0 ∧ s.th.mean.isSome = true)) S))),
  (let S : State := R; decide ((((fun s => ¬ (s.domOn 65 = true ∧ s.pw.st = .ready ∧ s.flag F.CAL.CAL_CTRL_AUTO = true ∧ s.get F.TH.TH_STAT_LEVEL = 0 ∧ s.rangeBusy 0x0805 = false ∧ s.flag F.CAL.CAL_STAT_BUSY = false ∧ s.get F.CAL.CAL_STAT_DUE ≠ 0 ∧ s.th.mean.isSome = true))) S))),
  (let S : State := R; let S : State := { S with cal.run := none }; let m : CalMeas := .spares []; let copies : Fin 3 := 0; decide ((((fun s => s.cal.run = none)) S))),
  (let S : State := Rrun [1, 2]; let m : CalMeas := .spares []; let copies : Fin 3 := 0; let r : CalRun := (calR [1, 2] true); let i : Nat := 1; let rest : List Nat := [2]; decide ((r.items = i :: rest) ∧ (measItem m ≠ i) ∧ (((fun s => s.cal.run = some r)) S))),
  (let S : State := (Rrun [2]).set (F.LOOP.LOOP_STAT_SETTLED 3) 0; let m : CalMeas := .spares []; let copies : Fin 3 := 0; let r : CalRun := (calR [2] true); let i : Nat := 2; let rest : List Nat := []; decide ((r.items = i :: rest) ∧ (measItem m = i) ∧ (2 ≤ i) ∧ (((fun s => s.cal.run = some r ∧ (s.flag (F.LOOP.LOOP_STAT_SETTLED 2) = false ∨ s.flag (F.LOOP.LOOP_STAT_SETTLED 3) = false))) S))),
  (let S : State := Rrun [2, 3]; let m : CalMeas := .spares []; let copies : Fin 3 := 0; let r : CalRun := (calR [2, 3] true); let i : Nat := 2; let rest : List Nat := [3]; decide ((r.items = i :: rest) ∧ (measItem m = i) ∧ (rest ≠ []) ∧ (((fun s => (s.cal.run = some r ∧ (i < 2 ∨ (s.flag (F.LOOP.LOOP_STAT_SETTLED 2) = true ∧ s.flag (F.LOOP.LOOP_STAT_SETTLED 3) = true))) ∧ (s.calJudge r m).fails = [])) S))),
  (let S : State := Rrun [0, 3]; let m : CalMeas := .refTdc [(0, 0, [])]; let copies : Fin 3 := 0; let r : CalRun := (calR [0, 3] true); let i : Nat := 0; let rest : List Nat := [3]; decide ((r.items = i :: rest) ∧ (measItem m = i) ∧ (rest ≠ []) ∧ (((fun s => (s.cal.run = some r ∧ (i < 2 ∨ (s.flag (F.LOOP.LOOP_STAT_SETTLED 2) = true ∧ s.flag (F.LOOP.LOOP_STAT_SETTLED 3) = true))) ∧ (s.calJudge r m).fails ≠ [])) S))),
  (let S : State := Rrun [2]; let m : CalMeas := .spares []; let copies : Fin 3 := 0; let r : CalRun := (calR [2] true); let i : Nat := 2; let rest : List Nat := []; decide ((r.items = i :: rest) ∧ (measItem m = i) ∧ (rest = []) ∧ (r = ⟨[i], r.manual, r.start, none, [], [], [], [], [], [], false, false⟩) ∧ (((fun s => s.cal.run = some r ∧ s.cal.copy ≤ 1 ∧ (s.calJudge r m).fails = [] ∧ (i < 2 ∨ (s.flag (F.LOOP.LOOP_STAT_SETTLED 2) = true ∧ s.flag (F.LOOP.LOOP_STAT_SETTLED 3) = true)))) S)))].all id = true := by decide +kernel

/-- States and operands that meet the hypotheses of the clauses of Obligations.Illuminators. -/
theorem hyps_Illuminators : [
  (let S : State := R; let S : State := S.setFlag (domBit 0x120 65) true; let via : Port := .spi; let seq : BitVec 16 := 0; let m : Byte := 1; let lv : BitVec 16 := 0; decide ((m.toNat ≠ 0) ∧ (m.toNat < 16)) && runsAt ((.illSet via seq m lv)) S (fun s => decide (((fun u => u.domOn 65 = true ∧ ∀ n : Fin 4, m.getLsbD n = true → u.illFaulted n = false)) s))),
  (let S : State := upd R [(F.ILS.ILL_STR_STAT_OPEN 1, 1)]; let via : Port := .spi; let seq : BitVec 16 := 0; let m : Byte := 2; let lv : BitVec 16 := 5; decide ((m.toNat ≠ 0) ∧ (m.toNat < 16)) && runsAt ((.illSet via seq m lv)) S (fun s => decide (((fun u => u.domOn 65 = true ∧ ∃ n : Fin 4, m.getLsbD n = true ∧ u.illFaulted n = true)) s))),
  (let S : State := R; let S : State := S.setFlag (domBit 0x120 65) true; let via : Port := .spi; let seq : BitVec 16 := 0; let m : Byte := 0; let lv : BitVec 16 := 0; decide ((m.toNat = 0 ∨ 16 ≤ m.toNat)) && runsAt ((.illSet via seq m lv)) S (fun s => decide (((fun u => u.domOn 65 = true)) s))),
  (let S : State := Roff 65; let n : Fin 4 := 0; let v : Nat := 0; let i : Nat := 0; decide ((((fun s => s.domOn 65 = false ∨ (s.flag (F.ILS.ILL_STR_STAT_PROBING n) = true ∧ (s.illStr n).mode ≠ 0))) S))),
  (let S : State := (upd (R) [(F.ILS.ILL_STR_CFG_EN 1, 1), (F.ILS.ILL_LEVEL_LEVEL 1, 40000), (F.ILS.ILL_DRIVE_VF_MIN 1, 200), (F.ILS.ILL_DRIVE_VF_MAX 1, 900), (F.ILS.ILL_DRIVE_IMAX 1, 10)]).setIll 1 (⟨40000, false, false, 0, 0, false, false, false, 0, 0, 0, [0, 0, 0], 0, false, R.time.dev.toNat⟩ : IllSt); let n : Fin 4 := 1; let v : Nat := 0; let i : Nat := 0; decide ((((fun (s : State) => (s.domOn 65 = true ∧ s.flag (F.ILS.ILL_STR_STAT_PROBING n) = false) ∧ (s.illStr n).lit = false ∧ (s.illStr n).mode = 0 ∧ s.illMode n = 0 ∧ (s.illStr n).probe = false ∧ s.time.dev.toNat - (s.illStr n).last < 10 ^ 7)) S))),
  (let S : State := (upd (R) [(F.ILS.ILL_STR_CFG_EN 1, 1), (F.ILS.ILL_LEVEL_LEVEL 1, 40000), (F.ILS.ILL_DRIVE_VF_MIN 1, 200), (F.ILS.ILL_DRIVE_VF_MAX 1, 900), (F.ILS.ILL_DRIVE_IMAX 1, 10)]).setIll 1 (⟨40000, true, false, 0, 0, false, false, false, 0, 0, 0, [0, 7, 0], 0, false, 0⟩ : IllSt); let n : Fin 4 := 1; let v : Nat := 20; let i : Nat := 1000; decide ((((fun s => (s.domOn 65 = true ∧ s.flag (F.ILS.ILL_STR_STAT_PROBING n) = false) ∧ (s.illStr n).lit = true ∧ (s.illStr n).acc < 65536 ∧ s.illVerdict n v i < 3 ∧ (s.illStr n).bad.getD (s.illVerdict n v i) 0 = 7)) S))),
  (let S : State := (upd (R) [(F.ILS.ILL_STR_CFG_EN 1, 1), (F.ILS.ILL_LEVEL_LEVEL 1, 40000), (F.ILS.ILL_DRIVE_VF_MIN 1, 200), (F.ILS.ILL_DRIVE_VF_MAX 1, 900), (F.ILS.ILL_DRIVE_IMAX 1, 10)]).setIll 1 (⟨40000, true, false, 0, 1, false, false, false, 0, 0, 0, [0, 7, 0], 0, false, 0⟩ : IllSt); let n : Fin 4 := 1; let v : Nat := 300; let i : Nat := 1000; decide ((((fun s => (s.domOn 65 = true ∧ s.flag (F.ILS.ILL_STR_STAT_PROBING n) = false) ∧ (s.illStr n).lit = true ∧ (s.illStr n).mode ≠ 0 ∧ (s.illStr n).window = false ∧ 3 ≤ s.illVerdict n v i)) S))),
  (let S : State := R; let s : State := S; let n : Fin 4 := 0; decide ((s.flag (F.ILS.ILL_STR_CFG_EN n) = false ∨ s.illFaulted n = true ∨ s.flag F.ILL.ILL_STAT_THERMAL = true ∨ s.pw.st = .thermalLatch ∨ s.noWindow n = true))),
  (let S : State := R; let n : Fin 4 := 0; decide ((((fun s => ¬ (s.domOn 65 = true ∧ (s.illStr n).mode ≠ 0 ∧ (s.illStr n).window = false ∧ s.noWindow n = false))) S))),
  (let S : State := (upd ((let s : State := Rcam.setCam 0 { Rcam.cam 0 with gaps := [5, 5], lastFs := some 0 }; s)) [(F.ILS.ILL_STR_CFG_EN 1, 1), (F.ILS.ILL_LEVEL_LEVEL 1, 40000), (F.ILS.ILL_DRIVE_VF_MIN 1, 200), (F.ILS.ILL_DRIVE_VF_MAX 1, 900), (F.ILS.ILL_DRIVE_IMAX 1, 10)]).setIll 1 (⟨0, false, false, 0, 1, false, false, false, 0, 0, 0, [0, 0, 0], 0, false, 0⟩ : IllSt); let n : Fin 4 := 1; decide ((((fun s => (s.domOn 65 = true ∧ (s.illStr n).mode ≠ 0 ∧ (s.illStr n).window = false ∧ s.noWindow n = false) ∧ (s.illStr n).probe = false)) S))),
  (let S : State := (upd ((let s : State := Rcam.setCam 0 { Rcam.cam 0 with gaps := [5, 5], lastFs := some 0 }; s)) [(F.ILS.ILL_STR_CFG_EN 1, 1), (F.ILS.ILL_LEVEL_LEVEL 1, 40000), (F.ILS.ILL_DRIVE_VF_MIN 1, 200), (F.ILS.ILL_DRIVE_VF_MAX 1, 900), (F.ILS.ILL_DRIVE_IMAX 1, 10), (F.ILS.ILL_STR_CFG_MODE 1, 1)]).setIll 1 (⟨0, false, false, 0, 1, true, false, false, 0, 0, 0, [0, 0, 0], 0, false, 0⟩ : IllSt); let n : Fin 4 := 1; decide ((((fun s => (s.domOn 65 = true ∧ (s.illStr n).mode ≠ 0 ∧ (s.illStr n).window = false ∧ s.noWindow n = false) ∧ (s.illStr n).probe = true ∧ s.flag (F.ILS.ILL_STR_CFG_EN n) = true ∧ s.illFaulted n = false ∧ s.flag F.ILL.ILL_STAT_THERMAL = false ∧ s.pw.st ≠ .thermalLatch ∧ s.illMode n = (s.illStr n).mode ∧ 0 < min (s.get (F.ILS.ILL_LEVEL_LEVEL n)) s.illCeil)) S))),
  (let S : State := R; let n : Fin 4 := 0; decide ((((fun s => s.domOn 65 = false ∨ (s.illStr n).window = false)) S))),
  (let S : State := ((let s : State := Rcam.setCam 0 { Rcam.cam 0 with gaps := [5, 5], lastFs := some 0 }; s)).setIll 1 { (⟨0, false, false, 0, 1, false, true, false, 0, 0, 0, [0, 0, 0], 0, false, 0⟩ : IllSt) with n := 3, sumV := 700, sumI := 90 }; let n : Fin 4 := 1; decide ((((fun s => s.domOn 65 = true ∧ (s.illStr n).window = true ∧ 0 < (s.illStr n).n)) S))),
  (let S : State := R; let n : Fin 4 := 0; let k : BitVec 2 := 0; decide ((((fun s => s.domOn 65 = false ∨ ((s.illStr n)).lit = false)) S))),
  (let S : State := R.setIll 1 (⟨0, true, false, 0, 0, false, false, false, 0, 0, 0, [0, 0, 0], 0, false, 0⟩ : IllSt); let n : Fin 4 := 1; let k : BitVec 2 := 0; decide ((k = 0) ∧ (((fun s => s.domOn 65 = true ∧ ((s.illStr n)).lit = true)) S))),
  (let S : State := R.setIll 1 (⟨0, true, true, 0, 0, false, false, false, 0, 0, 0, [0, 0, 0], 3, false, 0⟩ : IllSt); let n : Fin 4 := 1; let k : BitVec 2 := 1; decide ((k = 1) ∧ (((fun s => s.domOn 65 = true ∧ ((s.illStr n)).lit = true)) S))),
  (let S : State := R.setIll 1 (⟨0, true, false, 0, 0, false, false, false, 0, 0, 0, [0, 0, 0], 62, false, 0⟩ : IllSt); let n : Fin 4 := 1; let k : BitVec 2 := 2; decide ((k = 2) ∧ (((fun s => s.domOn 65 = true ∧ ((s.illStr n)).lit = true ∧ ((s.illStr n)).oc < 63)) S))),
  (let S : State := R.setIll 1 (⟨0, true, false, 0, 0, false, false, false, 0, 0, 0, [0, 0, 0], 63, false, 0⟩ : IllSt); let n : Fin 4 := 1; let k : BitVec 2 := 2; decide ((k = 2) ∧ (((fun s => s.domOn 65 = true ∧ ((s.illStr n)).lit = true ∧ ((s.illStr n)).oc = 63)) S))),
  (let S : State := R.setIll 1 (⟨0, true, true, 0, 0, false, false, false, 0, 0, 0, [0, 0, 0], 0, false, 0⟩ : IllSt); let n : Fin 4 := 1; decide ((((fun s => s.domOn 65 = true ∧ (s.illStr n).drv = true)) S))),
  (let S : State := R; let n : Fin 4 := 0; decide ((((fun s => s.domOn 65 = false ∨ (s.illStr n).drv = false)) S))),
  (let S : State := R; let n : Fin 4 := 0; let v : Nat := 0; let i : Nat := 0; decide ((((fun s => ¬ (s.domOn 65 = true ∧ s.flag (F.ILS.ILL_STR_STAT_PROBING n) = true))) S))),
  (let S : State := (upd (R) [(F.ILS.ILL_STR_CFG_EN 1, 1), (F.ILS.ILL_LEVEL_LEVEL 1, 40000), (F.ILS.ILL_DRIVE_VF_MIN 1, 200), (F.ILS.ILL_DRIVE_VF_MAX 1, 900), (F.ILS.ILL_DRIVE_IMAX 1, 10), (F.ILS.ILL_STR_STAT_PROBING 1, 1)]).setIll 1 (⟨0, true, false, 0, 0, true, false, false, 0, 0, 0, [0, 0, 0], 0, false, 0⟩ : IllSt); let n : Fin 4 := 1; let v : Nat := 500; let i : Nat := 1000; decide ((((fun s => (s.domOn 65 = true ∧ s.flag (F.ILS.ILL_STR_STAT_PROBING n) = true) ∧ s.illVerdict n v i = 4)) S))),
  (let S : State := (upd (R) [(F.ILS.ILL_STR_CFG_EN 1, 1), (F.ILS.ILL_LEVEL_LEVEL 1, 40000), (F.ILS.ILL_DRIVE_VF_MIN 1, 200), (F.ILS.ILL_DRIVE_VF_MAX 1, 900), (F.ILS.ILL_DRIVE_IMAX 1, 10), (F.ILS.ILL_STR_STAT_PROBING 1, 1)]).setIll 1 (⟨0, true, false, 0, 0, true, false, false, 0, 0, 0, [0, 0, 0], 0, false, 0⟩ : IllSt); let n : Fin 4 := 1; let v : Nat := 180; let i : Nat := 1000; decide ((((fun s => (s.domOn 65 = true ∧ s.flag (F.ILS.ILL_STR_STAT_PROBING n) = true) ∧ s.illVerdict n v i = 3)) S))),
  (let S : State := R; let n : Fin 4 := 0; let S : State := S.setFlag (domBit 0x120 65) true; let S : State := S.setFlag (F.ILS.ILL_STR_STAT_PROBING n) true; let v : Nat := 0; let i : Nat := 0; decide ((((fun s => (s.domOn 65 = true ∧ s.flag (F.ILS.ILL_STR_STAT_PROBING n) = true) ∧ s.illVerdict n v i < 3)) S))),
  (let S : State := R; let s : State := S; let n : Nat := 0; let v : Nat := 0; let i : Nat := 0; decide ((v < s.get (F.ILS.ILL_DRIVE_VF_MAX n)))),
  (let S : State := upd R [(F.ILS.ILL_STR_STAT_OPEN 1, 1)]; let via : Port := .spi; let seq : BitVec 16 := 0; let n : Fin 4 := 1; let v : Word := 2; let a := (F.ILS.ILL_STR_STAT_OPEN n).addr; runsAt ((.illFaultClear via seq n v)) S (fun s => decide (((fun u => u.touchesOff (a) (1) = false ∧ u.noStep (wordAddrs (a) (1)) = true ∧ ((fun u => u.pw.st ≠ .thermalLatch ∧ (v &&& u.rd a).toNat / 2 % 16 ≠ 0)) u)) s))),
  (let S : State := R; let via : Port := .spi; let seq : BitVec 16 := 0; let n : Fin 4 := 0; let v : Word := 0; let a := (F.ILS.ILL_STR_STAT_OPEN n).addr; runsAt ((.illFaultClear via seq n v)) S (fun s => decide (((fun u => u.touchesOff (a) (1) = false ∧ u.noStep (wordAddrs (a) (1)) = true ∧ ((fun u => u.pw.st ≠ .thermalLatch ∧ (v &&& u.rd a).toNat / 2 % 16 = 0)) u)) s))),
  (let S : State := R; let via : Port := .spi; let seq : BitVec 16 := 0; let n : Fin 4 := 0; let v : Word := 0; runsAt ((.regWrite via seq (BitVec.ofNat 32 (F.ILS.ILL_LEVEL_LEVEL n).addr) [v])) S (fun s => decide (((fun u => u.touchesOff ((F.ILS.ILL_LEVEL_LEVEL n).addr) (1) = false ∧ u.noStep (wordAddrs ((F.ILS.ILL_LEVEL_LEVEL n).addr) (1)) = true ∧ ((fun _ => True)) u)) s))),
  (let S : State := R; let via : Port := .spi; let seq : BitVec 16 := 0; let v : Word := 80; decide ((60 ≤ v.toNat % 256 ∧ v.toNat % 256 ≤ 125)) && runsAt ((.illThermWrite via seq v)) S (fun s => decide (((fun u => u.touchesOff (F.ILL.ILL_THERM_OFF.addr) (1) = false ∧ u.noStep (wordAddrs (F.ILL.ILL_THERM_OFF.addr) (1)) = true ∧ ((fun _ => True)) u)) s))),
  (let S : State := R; let via : Port := .spi; let seq : BitVec 16 := 0; let v : Word := 0; decide ((v.toNat % 256 < 60 ∨ 125 < v.toNat % 256)) && runsAt ((.illThermWrite via seq v)) S (fun s => decide (((fun u => u.touchesOff (F.ILL.ILL_THERM_OFF.addr) (1) = false ∧ u.noStep (wordAddrs (F.ILL.ILL_THERM_OFF.addr) (1)) = true ∧ ((fun _ => True)) u)) s)))].all id = true := by decide +kernel

/-- States and operands that meet the hypotheses of the clauses of Obligations.Diagnostics. -/
theorem hyps_Diagnostics : [
  (let S : State := Rrec 1; let via : Port := .spi; let seq : BitVec 16 := 0; let b : List Byte := recB; decide ((blockFault b = none)) && runsAt ((.recorderArm via seq b)) S (fun s => decide (((fun u => u.domOn 68 = true ∧ u.recState ≠ 3 ∧ (u.recState ≠ 4 ∨ (u8 b 3).testBit 1 = true))) s))),
  (let S : State := Rrec 3; let via : Port := .spi; let seq : BitVec 16 := 0; let b : List Byte := recB; decide ((blockFault b = none)) && runsAt ((.recorderArm via seq b)) S (fun s => decide (((fun u => (u.domOn 68 = true ∧ u.recState = 3))) s))),
  (let S : State := Rrec 4; let via : Port := .spi; let seq : BitVec 16 := 0; let b : List Byte := recB; decide ((blockFault b = none)) && runsAt ((.recorderArm via seq b)) S (fun s => decide (((fun u => (u.domOn 68 = true ∧ u.recState = 4) ∧ (u8 b 3).testBit 1 = false)) s))),
  (let S : State := R; let S : State := S.setFlag (domBit 0x120 68) true; let via : Port := .spi; let seq : BitVec 16 := 0; let b : List Byte := 6 :: zeros 31; let w : Nat := 0; decide ((blockFault b = some w)) && runsAt ((.recorderArm via seq b)) S (fun s => decide (((fun u => u.domOn 68 = true)) s))),
  (let S : State := Rrec 1; let via : Port := .spi; let seq : BitVec 16 := 0; runsAt ((.recorderForce via seq)) S (fun s => decide (((fun u => u.domOn 68 = true ∧ u.recState ≤ 2)) s))),
  (let via : Port := .spi; let seq : BitVec 16 := 0; let s : State := Rrec 3; let p : Pkt := (asPacket (.recorderForce via seq)).getD ⟨.spi, 0, 0, []⟩; let u : State := s.seen p; decide ((asPacket (.recorderForce via seq) = some p ∧ s.takes p = true ∧ u = s.seen p) ∧ ((u.domOn 68 = true ∧ u.recState = 3)))),
  (let S : State := Rrec 4; let via : Port := .spi; let seq : BitVec 16 := 0; runsAt ((.recorderForce via seq)) S (fun s => decide (((fun u => (u.domOn 68 = true ∧ u.recState = 4))) s))),
  (let S : State := R; decide ((((fun s => s.domOn 68 = false ∨ u8 s.recBlock 0 = 0 ∨ s.recState = 0)) S))),
  (let S : State := Rrec 1; decide ((((fun s => s.domOn 68 = true ∧ u8 s.recBlock 0 ≠ 0 ∧ (s.recState = 1 ∨ s.recState = 2))) S))),
  (let S : State := Rrec 3; decide ((((fun s => (s.domOn 68 = true ∧ s.recState = 3) ∧ u8 s.recBlock 0 ≠ 0)) S))),
  (let S : State := Rrec 4; decide ((((fun s => (s.domOn 68 = true ∧ s.recState = 4) ∧ u8 s.recBlock 0 ≠ 0)) S))),
  (let s : State := Rrec 2; decide ((s.recState = 2))),
  (let s : State := R; decide ((s.recState = 0))),
  (let S : State := Rrec 1; decide ((((fun s => (s.domOn 68 = true ∧ s.recState = 1))) S))),
  (let S : State := Rrec 2; decide ((((fun s => ¬ (s.domOn 68 = true ∧ s.recState = 1))) S))),
  (let S : State := R; let smp : List Byte := []; decide ((((fun s => ¬ (s.domOn 68 = true ∧ s.recState = 3) ∨ s.recFree = none)) S))),
  (let S : State := Rrec 3; let smp : List Byte := []; let k : Nat := 0; decide ((((fun s => (s.domOn 68 = true ∧ s.recState = 3) ∧ s.recFree = some k)) S))),
  (let S : State := R; let S : State := { S with rcd.reading := none }; let r : Bool := true; decide ((((fun s => s.rcd.reading = none)) S))),
  (let S : State := Rslot 4; let k : Nat := 1; let c : Capture := capA; decide ((((fun (s : State) => s.rcd.reading = some k ∧ s.rcd.slots.find? (fun e => e.1 == k) = some (k, c))) S))),
  (let S : State := R; decide ((((fun (s : State) => s.flag F.MON.MON_CTRL_EN = true ∧ s.firmwareRuns = true)) S))),
  (let S : State := Rk; let cred : List Byte := Rk.monCredential; decide ((((fun s => ((s.flag F.MON.MON_CTRL_EN = true ∧ s.firmwareRuns = true) ∧ s.flag F.MON.MON_STAT_SESSION = false) ∧ s.flag F.MON.MON_STAT_LOCKOUT = false ∧ (s.otp.monKey.all (fun b => b == 0) = false ∧ cred = s.monCredential))) S))),
  (let S : State := R; let S : State := S.setFlag F.MON.MON_CTRL_EN true; let S : State := S.setFlag F.MON.MON_STAT_LOCKOUT true; let cred : List Byte := []; decide ((((fun s => (s.flag F.MON.MON_CTRL_EN = true ∧ s.firmwareRuns = true) ∧ s.flag F.MON.MON_STAT_LOCKOUT = true)) S))),
  (let S : State := R; let S : State := S.setFlag F.MON.MON_CTRL_EN true; let S : State := S.setFlag F.MON.MON_STAT_LOCKOUT false; let cred : List Byte := []; decide ((((fun s => (s.flag F.MON.MON_CTRL_EN = true ∧ s.firmwareRuns = true) ∧ s.flag F.MON.MON_STAT_LOCKOUT = false ∧ ¬ (s.otp.monKey.all (fun b => b == 0) = false ∧ cred = s.monCredential))) S))),
  (let S : State := Rses2; decide ((((fun (s : State) => (s.flag F.MON.MON_CTRL_EN = true ∧ s.firmwareRuns = true) ∧ s.flag F.MON.MON_STAT_SESSION = true)) S))),
  (let S : State := upd Rses2 [(domBit 0x110 68, 0), (domBit 0x120 68, 0)]; let a : Word := BitVec.ofNat 32 F.LIM.LIM_CFG_POOL.addr; let n : Nat := 1; decide ((((fun s => ((s.flag F.MON.MON_CTRL_EN = true ∧ s.firmwareRuns = true) ∧ s.flag F.MON.MON_STAT_SESSION = true) ∧ (s.inc F.MON.LINES_RX).touchesOff a.toNat n = true)) S))),
  (let S : State := Rses2; let a : Word := 2; let n : Nat := 1; decide ((((fun s => ((s.flag F.MON.MON_CTRL_EN = true ∧ s.firmwareRuns = true) ∧ s.flag F.MON.MON_STAT_SESSION = true) ∧ (s.inc F.MON.LINES_RX).touchesOff a.toNat n = false ∧ (a.toNat % 4 ≠ 0 ∨ n = 0 ∨ 64 < n ∨ oneBlock a.toNat n = false))) S))),
  (let S : State := Rses2; let a : Word := 0; let n : Nat := 8; decide ((((fun s => ((s.flag F.MON.MON_CTRL_EN = true ∧ s.firmwareRuns = true) ∧ s.flag F.MON.MON_STAT_SESSION = true) ∧ (s.inc F.MON.LINES_RX).touchesOff a.toNat n = false ∧ a.toNat % 4 = 0 ∧ 1 ≤ n ∧ n ≤ 64 ∧ oneBlock a.toNat n = true)) S))),
  (let S : State := Rses2; let i : Nat := 0; let n : Nat := 0; decide ((n = 0 ∨ 16 < n) ∧ (((fun (s : State) => (s.flag F.MON.MON_CTRL_EN = true ∧ s.firmwareRuns = true) ∧ s.flag F.MON.MON_STAT_SESSION = true)) S))),
  (let S : State := Rses2; let i : Nat := 3; let n : Nat := 2; decide ((1 ≤ n) ∧ (n ≤ 16) ∧ (((fun (s : State) => (s.flag F.MON.MON_CTRL_EN = true ∧ s.firmwareRuns = true) ∧ s.flag F.MON.MON_STAT_SESSION = true)) S))),
  (let S : State := Rses2; let b : Bool := true; decide ((((fun (s : State) => (s.flag F.MON.MON_CTRL_EN = true ∧ s.firmwareRuns = true) ∧ s.flag F.MON.MON_STAT_SESSION = true)) S))),
  (let S : State := R; decide ((((fun (s : State) => (s.flag F.MON.MON_CTRL_EN = true ∧ s.firmwareRuns = true) ∧ s.flag F.MON.MON_STAT_SESSION = false)) S))),
  (let S : State := Rmon; let l : List Byte := List.replicate 81 0x41; decide ((80 < l.length) ∧ (((fun (s : State) => s.flag F.MON.MON_CTRL_EN = true ∧ s.firmwareRuns = true)) S))),
  (let S : State := R; let S : State := S.setFlag F.MON.MON_STAT_SESSION true; decide ((((fun s => s.flag F.MON.MON_STAT_SESSION = true)) S))),
  (let S : State := R; let S : State := S.setFlag F.MON.MON_STAT_SESSION false; decide ((((fun s => s.flag F.MON.MON_STAT_SESSION = false)) S))),
  (let S : State := R; let S : State := S.set F.MON.MON_CTRL_BAUD (2); let via : Port := .spi; let seq : BitVec 16 := 0; runsAt ((.monitorControl via seq 1)) S (fun s => decide (((fun u => u.get F.MON.MON_CTRL_BAUD ≤ 2)) s))),
  (let S : State := R; let via : Port := .spi; let seq : BitVec 16 := 0; runsAt ((.monitorControl via seq 0)) S (fun s => decide (((fun _ => True)) s))),
  (let S : State := R; let via : Port := .spi; let seq : BitVec 16 := 0; let e : Byte := 2; decide ((1 < e.toNat)) && runsAt ((.monitorControl via seq e)) S (fun s => decide (((fun _ => True)) s)))].all id = true := by decide +kernel

/-- States and operands that meet the hypotheses of the clauses of Obligations.HeaderCheck. -/
theorem hyps_HeaderCheck : [
  (let w : Fin 5 → BitVec 16 := fun _ => 1; let h := (List.finRange 5).flatMap (fun i => beBytes 2 (w i).toNat); let total := ((List.finRange 5).map (fun i => (w i).toNat)).sum; decide ((0 < total))),
  (let w : Fin 5 → BitVec 16 := 0; let h := (List.finRange 5).flatMap (fun i => beBytes 2 (w i).toNat); let total := ((List.finRange 5).map (fun i => (w i).toNat)).sum; decide ((total = 0))),
  (let h : List Byte := [0xB7, 1, 0, 1, 0, 1, 0, 0, 0, 0] ++ beBytes 2 (hcheck [0xB7, 1, 0, 1, 0, 1, 0, 0, 0, 0]); let i : Fin 12 := 0; let b : Fin 8 := 0; decide ((h.length = 12) ∧ (onesSum h = 65535)))].all id = true := by decide +kernel

/-- States and operands that meet the hypotheses of the clauses of Obligations.RowReturns. -/
theorem hyps_RowReturns : [
  (let S : State := R; let s : State := S; let r : Nat := 0; let x : RowBuf := RowBuf.empty 0; let o := (s.extractRow r x).1; decide ((o.absent = true ∨ o.invalid = true ∨ o.noCand = true ∨ o.lowShot = true)))].all id = true := by decide +kernel

theorem hyps_Commissioning_26 : (let S : State := Rses; let via : Port := .spi; let seq : BitVec 16 := 0; let ses : Word := 5; let crc : Word := BitVec.ofNat 32 (imgCrc simg); let x : SafeSession := ssx; runsAt ((.commissionCommit via seq ses crc)) S (fun s => decide (((fun u => (u.safe.session = some x ∧ x.port = via ∧ x.num = ses.toNat) ∧ crc.toNat = imgCrc x.stage ∧ u.commitFault x.stage = 0 ∧ u.rangeBusy 0x0704 = false)) s))) = true := by decide +kernel

theorem hyps_Commissioning_32 : (let S : State := Rconf; decide ((((fun s => s.safe.loaded = true)) S))) = true := by decide +kernel

theorem hyps_Commissioning_35 : (let S : State := Rconf; decide ((((fun s => s.safeConf = true)) S))) = true := by decide +kernel

end Sys2Proof.Tests
end

section
/-! PROOFS. HCHECK of the packet header (R26): the ones'-complement sum is the plain sum of the words modulo 65535, told apart at 0 and 65535 by whether
every word is zero. From there on the statements are about sums of numbers. -/

namespace Sys2Proof.Machine

/-! ### The plain sum of the words -/

/-- The plain sum of big-endian 16-bit words, paired as `onesSum` pairs them. -/
def wordSum : List Byte → Nat
  | a :: b :: r => a.toNat * 256 + b.toNat + wordSum r
  | _ => 0

/-- What a byte at offset `i` counts in the sum of the words. -/
def byteWeight (i : Nat) : Nat := if i % 2 = 0 then 256 else 1

@[simp] theorem byteWeight_add_two (i : Nat) : byteWeight (i + 2) = byteWeight i := by simp [byteWeight]

theorem wordSum_append : ∀ l m : List Byte, l.length % 2 = 0 → wordSum (l ++ m) = wordSum l + wordSum m
  | [], m, _ => by simp [wordSum]
  | [a], m, even => by simp at even
  | a :: b :: r, m, even => by
    have ih := wordSum_append r m (by simp only [List.length_cons] at even; omega)
    simp only [List.cons_append, wordSum, ih, Nat.add_assoc]

/-- A 16-bit field counts the number it holds. -/
theorem wordSum_beBytes_two (x : Nat) (h : x < 65536) : wordSum (beBytes 2 x) = x := by
  simp only [beBytes, wordSum, BitVec.toNat_ofNat]
  omega

theorem wordSum_flatMap_beBytes {ι : Type} (w : ι → BitVec 16) (l : List ι) :
    wordSum (l.flatMap (fun i => beBytes 2 (w i).toNat)) = (l.map (fun i => (w i).toNat)).sum := by
  induction l with
  | nil => rfl
  | cons i l ih =>
    rw [List.flatMap_cons, wordSum_append _ _ (by simp), ih, wordSum_beBytes_two _ (w i).isLt, List.map_cons, List.sum_cons]

/-- Replacing one byte moves the sum by that byte's change times its weight. -/
theorem wordSum_set : ∀ (l : List Byte) (i : Nat) (c : Byte), l.length % 2 = 0 → i < l.length →
    wordSum (l.set i c) + byteWeight i * (l.getD i 0).toNat = wordSum l + byteWeight i * c.toNat
  | [], i, c, _, hi => by simp at hi
  | [a], i, c, even, _ => by simp at even
  | a :: b :: r, 0, c, _, _ => by simp [wordSum, byteWeight]; omega
  | a :: b :: r, 1, c, _, _ => by simp [wordSum, byteWeight]; omega
  | a :: b :: r, i + 2, c, even, hi => by
    simp only [List.length_cons] at even hi
    have ih := wordSum_set r i c (by omega) (by omega)
    simp only [List.set_cons_succ, List.getD_cons_succ, wordSum, byteWeight_add_two]
    omega

/-! ### The ones'-complement sum -/

theorem addOnes_le (a b : Nat) (ha : a ≤ 65535) (hb : b ≤ 65535) : addOnes a b ≤ 65535 := by
  rw [addOnes]; split <;> omega

theorem addOnes_mod (a b : Nat) : addOnes a b % 65535 = (a + b) % 65535 := by
  rw [addOnes]; split <;> omega

@[simp] theorem addOnes_eq_zero (a b : Nat) : addOnes a b = 0 ↔ a = 0 ∧ b = 0 := by
  rw [addOnes]; split <;> omega

theorem onesSum_le : ∀ l : List Byte, onesSum l ≤ 65535
  | [] | [_] => by simp [onesSum]
  | a :: b :: r => addOnes_le _ _ (by have := a.isLt; have := b.isLt; omega) (onesSum_le r)

theorem onesSum_mod : ∀ l : List Byte, onesSum l % 65535 = wordSum l % 65535
  | [] | [_] => by simp [onesSum, wordSum]
  | a :: b :: r => by rw [onesSum, wordSum, addOnes_mod, Nat.add_mod, onesSum_mod r, ← Nat.add_mod]

theorem onesSum_eq_zero : ∀ l : List Byte, onesSum l = 0 ↔ wordSum l = 0
  | [] | [_] => by simp [onesSum, wordSum]
  | a :: b :: r => by rw [onesSum, wordSum, addOnes_eq_zero, onesSum_eq_zero r, ← Nat.add_eq_zero_iff]

/-- A check passes when the words sum to a multiple of 65535 other than zero. -/
theorem onesSum_eq_full (l : List Byte) : onesSum l = 65535 ↔ 0 < wordSum l ∧ wordSum l % 65535 = 0 := by
  have bound := onesSum_le l
  have residue := onesSum_mod l
  have zero := onesSum_eq_zero l
  omega

/-! ### The check of a header -/

theorem hcheck_lt (h : List Byte) : hcheck h < 65536 := by rw [hcheck]; omega

/-- R26 in numbers: HCHECK completes the words of the first ten bytes to a multiple of 65535, and it is 0xFFFF only over zeros. -/
theorem hcheck_completes (h : List Byte) (len : h.length = 10) :
    (hcheck h + wordSum h) % 65535 = 0 ∧ (hcheck h = 65535 ↔ wordSum h = 0) := by
  have bound := onesSum_le h
  have residue := onesSum_mod h
  have zero := onesSum_eq_zero h
  rw [hcheck, List.take_of_length_le (by omega)]
  omega

/-- R26: a receiver that sums all six words obtains 0xFFFF. -/
theorem onesSum_append_hcheck (h : List Byte) (len : h.length = 10) : onesSum (h ++ beBytes 2 (hcheck h)) = 65535 := by
  obtain ⟨multiple, zero⟩ := hcheck_completes h len
  rw [onesSum_eq_full, wordSum_append _ _ (by omega), wordSum_beBytes_two _ (hcheck_lt h)]
  omega

theorem onesSum_packetHeader (flags tag op seq len : Nat) : onesSum (packetHeader flags tag op seq len) = 65535 :=
  onesSum_append_hcheck _ (by simp)

/-- A changed byte moves the sum of the words by at most 255 · 256, which is less than 65535. -/
theorem onesSum_set_ne_full (h : List Byte) (i : Nat) (c : Byte) (even : h.length % 2 = 0) (hi : i < h.length)
    (changed : c ≠ h.getD i 0) (correct : onesSum h = 65535) : onesSum (h.set i c) ≠ 65535 := by
  intro passes
  obtain ⟨-, before⟩ := (onesSum_eq_full h).1 correct
  obtain ⟨-, after⟩ := (onesSum_eq_full _).1 passes
  have move := wordSum_set h i c even hi
  have differ : c.toNat ≠ (h.getD i 0).toNat := fun e => changed (BitVec.eq_of_toNat_eq e)
  have hc := c.isLt
  have ho := (h.getD i 0).isLt
  rw [byteWeight] at move
  split at move <;> omega

theorem xor_twoPow_ne (a : Byte) (b : Fin 8) : a ^^^ BitVec.twoPow 8 b ≠ a := by
  intro same
  have flipped : (a ^^^ BitVec.twoPow 8 b).getLsbD b = a.getLsbD b := by rw [same]
  simp at flipped

/-- Settles O59: R26's check as a sum modulo 65535, which no change of one byte, so no flipped bit, keeps. -/
theorem headerCheck : Obligations.HeaderCheck := by
  unfold Obligations.HeaderCheck
  refine ⟨fun w => ?_, onesSum_packetHeader, fun h i b len correct => ?_⟩
  · intro h total
    have len : h.length = 10 := by simp [h]
    have sum : wordSum h = total := wordSum_flatMap_beBytes w (List.finRange 5)
    obtain ⟨multiple, zero⟩ := hcheck_completes h len
    rw [sum] at multiple zero
    exact ⟨⟨hcheck_lt h, fun pos => ⟨multiple, fun full => by omega⟩, zero.2⟩, onesSum_append_hcheck h len⟩
  · exact onesSum_set_ne_full h i _ (by omega) (by omega) (xor_twoPow_ne _ b) correct

end Sys2Proof.Machine
end

section
/-! PROOFS. The returns of a row (chapter 9): both orders in which the model sorts returns are insertion sorts, merging (R206) keeps a sublist of the
sorted returns, and what `windowReturn` gives a return is what the row delivers, but for the tests of R209 to R213. -/

namespace Sys2Proof.Machine

/-! ### The two orders of returns -/

/-- Inserting by a strict order `lt` keeps a list sorted by a preorder `le`, where `lt` decides between `le` and its converse. -/
theorem pairwise_orderedInsert_of_strict {α : Type} {lt le : α → α → Prop} [DecidableRel lt] (le_of_lt : ∀ a b, lt a b → le a b)
    (le_of_not_lt : ∀ a b, ¬ lt a b → le b a) (trans : ∀ a b c, le a b → le b c → le a c) (a : α) (l : List α) (sorted : l.Pairwise le) :
    (l.orderedInsert lt a).Pairwise le := by
  induction l with
  | nil => simp
  | cons b l ih =>
    obtain ⟨first, rest⟩ := List.pairwise_cons.1 sorted
    rw [List.orderedInsert_cons]
    split
    next before =>
      have hab := le_of_lt a b before
      refine List.pairwise_cons.2 ⟨fun c hc => ?_, sorted⟩
      obtain rfl | hc := List.mem_cons.1 hc
      · exact hab
      · exact trans a b c hab (first c hc)
    next after =>
      refine List.pairwise_cons.2 ⟨fun c hc => ?_, ih rest⟩
      obtain rfl | hc := (List.mem_orderedInsert lt).1 hc
      · exact le_of_not_lt c b after
      · exact first c hc

theorem pairwise_insertionSort_of_strict {α : Type} {lt le : α → α → Prop} [DecidableRel lt] (le_of_lt : ∀ a b, lt a b → le a b)
    (le_of_not_lt : ∀ a b, ¬ lt a b → le b a) (trans : ∀ a b c, le a b → le b c → le a c) (l : List α) :
    (l.insertionSort lt).Pairwise le := by
  induction l with
  | nil => simp
  | cons a l ih => exact pairwise_orderedInsert_of_strict le_of_lt le_of_not_lt trans a _ ih

/-- R206: larger INTENSITY, or on a tie lower WIN. -/
abbrev Ret.Beats (a b : Ret) : Prop := b.inten < a.inten ∨ (b.inten = a.inten ∧ a.win < b.win)

/-- R206: larger INTENSITY, or on a tie no higher WIN. -/
abbrev Ret.AtLeast (a b : Ret) : Prop := b.inten < a.inten ∨ (b.inten = a.inten ∧ a.win ≤ b.win)

/-- Smaller RANGE, or on a tie lower WIN. -/
abbrev Ret.Nearer (a b : Ret) : Prop := a.range < b.range ∨ (a.range = b.range ∧ a.win < b.win)

theorem insertRet_eq_orderedInsert (a : Ret) (l : List Ret) : insertRet a l = l.orderedInsert Ret.Beats a := by
  induction l with
  | nil => rfl
  | cons b l ih => rw [insertRet, List.orderedInsert_cons, ih]

theorem foldr_insertRet (l : List Ret) : l.foldr insertRet [] = l.insertionSort Ret.Beats := by
  induction l with
  | nil => rfl
  | cons a l ih => rw [List.foldr_cons, ih, insertRet_eq_orderedInsert, List.insertionSort_cons]

theorem insertRange_eq_orderedInsert (a : Ret) (l : List Ret) : insertRange a l = l.orderedInsert Ret.Nearer a := by
  induction l with
  | nil => rfl
  | cons b l ih => rw [insertRange, List.orderedInsert_cons, ih]

theorem foldr_insertRange (l : List Ret) : l.foldr insertRange [] = l.insertionSort Ret.Nearer := by
  induction l with
  | nil => rfl
  | cons a l ih => rw [List.foldr_cons, ih, insertRange_eq_orderedInsert, List.insertionSort_cons]

theorem insertionSort_beats_pairwise (l : List Ret) : (l.insertionSort Ret.Beats).Pairwise Ret.AtLeast :=
  pairwise_insertionSort_of_strict (by omega) (by omega) (by omega) l

theorem insertionSort_nearer_pairwise (l : List Ret) : (l.insertionSort Ret.Nearer).Pairwise (fun a b => a.range ≤ b.range) :=
  pairwise_insertionSort_of_strict (by omega) (by omega) (by omega) l

/-! ### Merging (R206) -/

/-- One step of `mergeRets`: `x` goes where a return already kept lies closer to it than `sep`. -/
def mergeInto (sep : Nat) (kept : List Ret) (x : Ret) : List Ret :=
  if kept.any (fun k => decide ((k.tau - x.tau).natAbs < 256 * sep)) then kept else kept ++ [x]

theorem mergeRets_eq_foldl (sep : Nat) (l : List Ret) : mergeRets sep l = (l.insertionSort Ret.Beats).foldl (mergeInto sep) [] := by
  rw [← foldr_insertRet]; rfl

/-- A step merges `x` with a kept return close to it, or keeps it at the end, apart from all others. -/
theorem mergeInto_cases (sep : Nat) (kept : List Ret) (x : Ret) :
    (mergeInto sep kept x = kept ∧ ∃ k ∈ kept, (k.tau - x.tau).natAbs < 256 * sep) ∨
      (mergeInto sep kept x = kept ++ [x] ∧ ∀ k ∈ kept, 256 * sep ≤ (k.tau - x.tau).natAbs) := by
  rw [mergeInto]
  split
  next close => exact .inl ⟨rfl, by simpa using close⟩
  next apart => exact .inr ⟨rfl, by simpa using apart⟩

theorem foldl_mergeInto_sublist (sep : Nat) (l : List Ret) : (l.foldl (mergeInto sep) []).Sublist l := by
  induction l using List.reverseRecOn with
  | nil => exact .slnil
  | append_singleton l x ih =>
    rw [List.foldl_concat]
    obtain ⟨same, -⟩ | ⟨longer, -⟩ := mergeInto_cases sep (l.foldl (mergeInto sep) []) x
    · rw [same]; exact ih.trans (List.sublist_append_left l [x])
    · rw [longer]; exact ih.append_right [x]

theorem foldl_mergeInto_apart (sep : Nat) (l : List Ret) :
    (l.foldl (mergeInto sep) []).Pairwise (fun a b => 256 * sep ≤ (a.tau - b.tau).natAbs) := by
  induction l using List.reverseRecOn with
  | nil => exact .nil
  | append_singleton l x ih =>
    rw [List.foldl_concat]
    obtain ⟨same, -⟩ | ⟨longer, apart⟩ := mergeInto_cases sep (l.foldl (mergeInto sep) []) x
    · rw [same]; exact ih
    · rw [longer]
      exact List.pairwise_append.2 ⟨ih, List.pairwise_singleton _ x, fun k hk y hy => by rw [List.mem_singleton.1 hy]; exact apart k hk⟩

/-- Over a list in any order `le`, what a step merged stood after the return that it went into. -/
theorem foldl_mergeInto_covers {le : Ret → Ret → Prop} (sep : Nat) (l : List Ret) (sorted : l.Pairwise le) :
    ∀ a ∈ l, a ∈ l.foldl (mergeInto sep) [] ∨ ∃ b ∈ l.foldl (mergeInto sep) [], (b.tau - a.tau).natAbs < 256 * sep ∧ le b a := by
  induction l using List.reverseRecOn with
  | nil => simp
  | append_singleton l x ih =>
    obtain ⟨before, -, last⟩ := List.pairwise_append.1 sorted
    have old := ih before
    rw [List.foldl_concat]
    intro a ha
    rw [List.mem_append, List.mem_singleton] at ha
    obtain ⟨same, k, hk, close⟩ | ⟨longer, -⟩ := mergeInto_cases sep (l.foldl (mergeInto sep) []) x
    · rw [same]
      obtain ha | rfl := ha
      · exact old a ha
      · exact .inr ⟨k, hk, close, last k ((foldl_mergeInto_sublist sep l).subset hk) a List.mem_cons_self⟩
    · rw [longer]
      obtain ha | rfl := ha
      · obtain kept | ⟨b, hb, merged⟩ := old a ha
        · exact .inl (List.mem_append_left _ kept)
        · exact .inr ⟨b, List.mem_append_left _ hb, merged⟩
      · exact .inl (by simp)

theorem mergeRets_apart (sep : Nat) (l : List Ret) : (mergeRets sep l).Pairwise (fun a b => 256 * sep ≤ (a.tau - b.tau).natAbs) := by
  rw [mergeRets_eq_foldl]; exact foldl_mergeInto_apart sep _

theorem mergeRets_subperm (sep : Nat) (l : List Ret) : (mergeRets sep l).Subperm l := by
  rw [mergeRets_eq_foldl]
  exact (foldl_mergeInto_sublist sep _).subperm.trans (List.perm_insertionSort Ret.Beats l).subperm

theorem mergeRets_covers (sep : Nat) (l : List Ret) (a : Ret) (ha : a ∈ l) :
    a ∈ mergeRets sep l ∨ ∃ b ∈ mergeRets sep l, (b.tau - a.tau).natAbs < 256 * sep ∧ b.AtLeast a := by
  rw [mergeRets_eq_foldl]
  exact foldl_mergeInto_covers sep _ (insertionSort_beats_pairwise l) a ((List.mem_insertionSort Ret.Beats).2 ha)

/-! ### The return of a window -/

theorem clampI_bounds (v a b : Int) (hab : a ≤ b) : a ≤ clampI v a b ∧ clampI v a b ≤ b := by
  rw [clampI]; split
  · omega
  · split <;> omega

theorem clampI_zero_toNat_le (v : Int) (b : Nat) : (clampI v 0 b).toNat ≤ b := by
  have bounds := clampI_bounds v 0 b (by omega)
  omega

/-- R210: WINDOW of a row. -/
abbrev State.rowWindow (s : State) (r : Nat) (x : RowBuf) : Bool :=
  decide (s.getAt 8 (F.PE.PE_WIN_WIN_FRAC (rowRegion r)) *
    (s.shotsOf (r / 128) 0 + s.shotsOf (r / 128) 1 + (s.shotsOf (r / 128) 2 + s.shotsOf (r / 128) 3)) ≤ 256 * x.window)

/-- What a return of row `r` carries as its window is read: SAT and WINDOW are the row's, and its numbers are in their fields' ranges. -/
structure Ret.OfWindow (s : State) (r : Nat) (x : RowBuf) (w : Nat) (q : Ret) : Prop where
  sat : q.sat = s.rowSat (r / 128) x
  window : q.window = s.rowWindow r x
  win : q.win = w
  range : q.range ≤ 4194303
  inten : q.inten ≤ 65535
  raw : q.raw ≤ 15

/-- R213: the penalties that a window's events give never raise a confidence. -/
theorem two_bit_sum_nonneg (a b c d : Bool) : (0 : Int) ≤ 2 * bit a + 2 * bit b + 2 * bit c + 2 * bit d := by omega

theorem windowReturn_ofWindow (s : State) (r : Nat) (x : RowBuf) (fl : Floor) (w start : Nat) (q : Ret)
    (found : s.windowReturn r x fl w start = some q) : q.OfWindow s r x w := by
  rw [State.windowReturn] at found
  extract_lets at found
  rename_i base pen
  have most : base ≤ 15 := min_le_left 15 _
  have penalty : 0 ≤ pen := two_bit_sum_nonneg _ _ _ _
  obtain ⟨-, fields⟩ := Option.ite_none_left_eq_some.1 found
  rw [← Option.some.inj fields]
  constructor
  case sat => rfl
  case window => rfl
  case win => rfl
  case range => dsimp only; exact clampI_zero_toNat_le _ 4194303
  case inten => dsimp only; exact clampI_zero_toNat_le _ 65535
  case raw => exact (sub_le_self base penalty).trans most

/-! ### The parts of `extractRow` -/

/-- The returns found in a row's windows, before merging. -/
def State.rowFound (s : State) (r : Nat) (x : RowBuf) : List Ret :=
  if s.rowAbsent r x || x.invalid || x.noCand || decide (s.shotsOf (r / 128) 2 + s.shotsOf (r / 128) 3 < 2) then []
  else (List.range x.wins.length).filterMap (fun w => s.windowReturn r x (s.rowFloor r x) w ((x.wins.getD w (0, 0, 0)).1))

/-- The returns that merging leaves, by RANGE. -/
def State.rowKept (s : State) (r : Nat) (x : RowBuf) : List Ret :=
  (mergeRets (s.getAt 8 (F.PE.PE_FLOOR_DUP_SEP (rowRegion r))) (s.rowFound r x)).foldr insertRange []

/-- R209, R212, R213: PRECIP, MULTIPATH and the confidence of a kept return. -/
def State.rowSettle (s : State) (r : Nat) (x : RowBuf) (q : Ret) : Ret :=
  let p := s.isPrecip (rowRegion r) (s.rowKept r x) q
  let m := s.isEcho (rowRegion r) (s.rowKept r x) q
  s.settleConf (rowRegion r) { q with
    precip := p, multi := m, raw := q.raw - 4 * bit p - 6 * bit m - 4 * bit q.window - 4 * bit (s.rowExcess r x (s.rowFloor r x)) }

theorem extractRow_rets (s : State) (r : Nat) (x : RowBuf) :
    (s.extractRow r x).1.rets = (s.rowKept r x).map (s.rowSettle r x) := rfl

theorem extractRow_merged (s : State) (r : Nat) (x : RowBuf) :
    (s.extractRow r x).2 = (s.rowFound r x).length - (s.rowKept r x).length := rfl

theorem extractRow_absent (s : State) (r : Nat) (x : RowBuf) : (s.extractRow r x).1.absent = s.rowAbsent r x := rfl

theorem extractRow_lowShot (s : State) (r : Nat) (x : RowBuf) :
    (s.extractRow r x).1.lowShot = decide (s.shotsOf (r / 128) 2 + s.shotsOf (r / 128) 3 < 2) := rfl

theorem rowAbsent_iff (s : State) (r : Nat) (x : RowBuf) :
    s.rowAbsent r x = true ↔ s.isolated (rowSlice r) = true ∨ s.fenced (rowRegion r) = true ∨ s.domOn (rowDom r) = false ∨
      s.flag (F.ROW.ROW_CTRL_EN r) = false ∨ ∃ q ∈ maskCols x.mask, s.activeCells r q < 16 := by
  simp only [State.rowAbsent, Bool.or_eq_true, Bool.not_eq_true', List.any_eq_true, decide_eq_true_eq, or_assoc]

/-! ### What a row delivers -/

/-- R199: a row that is absent, INVALID, NO_CAND or LOWSHOT. -/
theorem rowFound_eq_nil (s : State) (r : Nat) (x : RowBuf)
    (bare : s.rowAbsent r x = true ∨ x.invalid = true ∨ x.noCand = true ∨ s.shotsOf (r / 128) 2 + s.shotsOf (r / 128) 3 < 2) :
    s.rowFound r x = [] :=
  if_pos (by simpa only [Bool.or_eq_true, decide_eq_true_eq, or_assoc] using bare)

theorem rowFound_length_le (s : State) (r : Nat) (x : RowBuf) : (s.rowFound r x).length ≤ x.wins.length := by
  rw [State.rowFound]
  split
  · simp
  · simpa using List.length_filterMap_le _ (List.range x.wins.length)

theorem ofWindow_of_mem_rowFound (s : State) (r : Nat) (x : RowBuf) (q : Ret) (found : q ∈ s.rowFound r x) :
    ∃ w < x.wins.length, q.OfWindow s r x w := by
  rw [State.rowFound] at found
  split at found
  · simp at found
  · obtain ⟨w, hw, gives⟩ := List.mem_filterMap.1 found
    exact ⟨w, List.mem_range.1 hw, windowReturn_ofWindow s r x _ w _ q gives⟩

theorem rowKept_sorted (s : State) (r : Nat) (x : RowBuf) : (s.rowKept r x).Pairwise (fun a b => a.range ≤ b.range) := by
  rw [State.rowKept, foldr_insertRange]
  exact insertionSort_nearer_pairwise _

theorem rowKept_subperm (s : State) (r : Nat) (x : RowBuf) : (s.rowKept r x).Subperm (s.rowFound r x) := by
  rw [State.rowKept, foldr_insertRange]
  exact (List.perm_insertionSort Ret.Nearer _).subperm.trans (mergeRets_subperm _ _)

@[simp] theorem rowSettle_range (s : State) (r : Nat) (x : RowBuf) (q : Ret) : (s.rowSettle r x q).range = q.range := rfl

/-- The tests of R209 to R213 only lower a confidence. -/
theorem rowSettle_conf_le (s : State) (r : Nat) (x : RowBuf) (q : Ret) (h : q.raw ≤ 15) : (s.rowSettle r x q).conf ≤ 15 := by
  simp only [State.rowSettle, State.settleConf]
  split <;> omega

/-- A row's returns and the returns merged away are those that its windows gave. -/
theorem extractRow_count (s : State) (r : Nat) (x : RowBuf) :
    (s.extractRow r x).1.rets.length + (s.extractRow r x).2 = (s.rowFound r x).length := by
  have fewer := (rowKept_subperm s r x).length_le
  rw [extractRow_rets, extractRow_merged, List.length_map]
  omega

theorem extractRow_sorted (s : State) (r : Nat) (x : RowBuf) :
    (s.extractRow r x).1.rets.Pairwise (fun a b => a.range ≤ b.range) := by
  rw [extractRow_rets, List.pairwise_map]
  exact rowKept_sorted s r x

theorem exists_found_of_mem_extractRow (s : State) (r : Nat) (x : RowBuf) (q : Ret) (delivered : q ∈ (s.extractRow r x).1.rets) :
    ∃ p ∈ s.rowFound r x, s.rowSettle r x p = q := by
  rw [extractRow_rets] at delivered
  obtain ⟨p, kept, settled⟩ := List.mem_map.1 delivered
  exact ⟨p, (rowKept_subperm s r x).subset kept, settled⟩

/-- Settles O60: merging keeps a sublist of the returns sorted by strength, and what is delivered of a row is what its windows gave. -/
theorem rowReturns : Obligations.RowReturns := by
  unfold Obligations.RowReturns
  refine ⟨fun s r x => ?_, fun sep l => ⟨mergeRets_apart sep l, fun a ha => (mergeRets_subperm sep l).subset ha, mergeRets_covers sep l⟩⟩
  intro o
  refine ⟨rowAbsent_iff s r x, ?_, rfl, rfl, rfl, rfl, rfl, rfl, ?_, ?_, extractRow_sorted s r x, fun q delivered => ?_⟩
  · rw [extractRow_lowShot, decide_eq_true_eq]
  · intro bare
    rw [extractRow_absent, extractRow_lowShot, decide_eq_true_eq] at bare
    have count := extractRow_count s r x
    rw [rowFound_eq_nil s r x bare, List.length_nil, Nat.add_eq_zero_iff, List.length_eq_zero_iff] at count
    exact count
  · rw [extractRow_count]
    exact rowFound_length_le s r x
  · obtain ⟨p, found, rfl⟩ := exists_found_of_mem_extractRow s r x q delivered
    obtain ⟨w, hw, sat, window, win, range, inten, raw⟩ := ofWindow_of_mem_rowFound s r x p found
    exact ⟨sat, win.trans_lt hw, range, inten, rowSettle_conf_le s r x p raw, window⟩

end Sys2Proof.Machine
end

section
/-! PROOFS. The illuminator strings (chapter 18). A slice start of a gated string whose probe runs is not always without effect: where its camera gives no
window (R414), the string takes LEVEL and MODE there (notes/assumptions/59.md), and commands lead from reset to such a string. -/

namespace Sys2Proof.Machine

@[simp] theorem State.illStr_setIll (s : State) (n : Nat) (x : IllSt) (m : Nat) :
    (s.setIll n x).illStr m = if m = n then x else s.illStr m := spGet_spSet _ _ _ _ _

/-- Where a string has no window and stays gated, a slice start during its probe takes what was written, and does no more. -/
theorem State.illSlice_of_probing_noWindow (s : State) (n v i : Nat) (on : s.domOn 65 = true)
    (probing : s.flag (F.ILS.ILL_STR_STAT_PROBING n) = true) (noWindow : s.noWindow n = true) (gated : s.illMode n ≠ 0) :
    s.illSlice n v i = s.illTake n := by
  have unjudged : s.illSliceEnd n v i = s := by simp [State.illSliceEnd, probing]
  have mode : ((s.illTake n).illStr n).mode ≠ 0 := by simpa [State.illTake] using gated
  have stillProbing : (s.illTake n).flag (F.ILS.ILL_STR_STAT_PROBING n) = true := probing
  simp [State.illSlice, on, unjudged, noWindow, mode, stillProbing]

/-- Where what that string takes outlasts settling, its slice start is not without effect. -/
theorem State.illumSliceStart_not_nothing (s : State) (n : Fin 4) (v i : Nat) (on : s.domOn 65 = true)
    (probing : s.flag (F.ILS.ILL_STR_STAT_PROBING n) = true) (noWindow : s.noWindow n = true) (gated : s.illMode n ≠ 0)
    (moves : (s.illTake n).settle ≠ s.settle) : ¬ ∃ t, Event (.illumSliceStart n v i) s t ∧ Nothing s t := by
  rintro ⟨t, event, rfl⟩
  rw [Event, exec_illumSliceStart, State.illSlice_of_probing_noWindow t n v i on probing noWindow gated] at event
  exact moves (Host.Outcome.next.inj event)

/-- The state after the commands and events of a list, as far as each answers a next state. -/
def State.after (s : State) : List Instr → State
  | [] => s
  | c :: cs => match exec c s with
    | .next t => t.after cs
    | .fault _ | .refused _ => s

/-- String 0 in free mode is enabled at LEVEL 1, and its first slice start begins its probe (R418). While the probe runs the host writes MODE 1, which the
next slice start takes; camera 0 does not run. Then the host writes LEVEL 2. -/
def probeWithoutWindow : State :=
  State.reset.after
    [.regWrite .spi 0 (BitVec.ofNat 32 (F.ILS.ILL_LEVEL_LEVEL 0).addr) [1], .regWrite .spi 1 (BitVec.ofNat 32 (F.ILS.ILL_STR_CFG_EN 0).addr) [1],
      .illumSliceStart 0 0 0, .regWrite .spi 2 (BitVec.ofNat 32 (F.ILS.ILL_STR_CFG_EN 0).addr) [3], .illumSliceStart 0 0 0,
      .regWrite .spi 3 (BitVec.ofNat 32 (F.ILS.ILL_LEVEL_LEVEL 0).addr) [2]]

theorem probeWithoutWindow_probing :
    probeWithoutWindow.domOn 65 = true ∧ probeWithoutWindow.flag (F.ILS.ILL_STR_STAT_PROBING (0 : Fin 4)) = true := by decide +kernel

theorem probeWithoutWindow_gated :
    (probeWithoutWindow.illStr (0 : Fin 4)).mode ≠ 0 ∧ probeWithoutWindow.illMode (0 : Fin 4) ≠ 0 ∧ probeWithoutWindow.noWindow (0 : Fin 4) = true := by
  decide +kernel

/-- LEVEL in force is 1, and the slice start makes it 2. -/
theorem probeWithoutWindow_level :
    (probeWithoutWindow.settle.illStr (0 : Fin 4)).level = 1 ∧ ((probeWithoutWindow.illTake (0 : Fin 4)).settle.illStr (0 : Fin 4)).level = 2 := by
  decide +kernel

theorem probeWithoutWindow_moves : (probeWithoutWindow.illTake (0 : Fin 4)).settle ≠ probeWithoutWindow.settle := by
  obtain ⟨before, after⟩ := probeWithoutWindow_level
  intro same
  rw [same, before] at after
  omega

/-- Refutes O57: the clause that a slice start changes nothing for a gated string whose probe runs leaves out the string that has no window. In
`probeWithoutWindow`, which commands reach from reset, the slice start takes LEVEL 2 where 1 was in force. -/
theorem not_illuminators : ¬ Obligations.Illuminators := by
  unfold Obligations.Illuminators
  intro holds
  obtain ⟨-, -, slices, -⟩ := holds
  obtain ⟨unchanged, -⟩ := slices 0 0 0
  obtain ⟨on, probing⟩ := probeWithoutWindow_probing
  obtain ⟨gated, written, noWindow⟩ := probeWithoutWindow_gated
  exact State.illumSliceStart_not_nothing probeWithoutWindow 0 0 0 on probing noWindow written probeWithoutWindow_moves
    (unchanged probeWithoutWindow (.inr ⟨probing, gated⟩))

end Sys2Proof.Machine
end

section
/-! PROOFS. What leaves the recorder alone (chapter 19). Only RECORDER_POST_FILL_DONE stores a capture (R438), so neither a command nor the fault manager fills
a slot: each operation that `settle` runs keeps the recorder's part of the state, or frees slots. One equation or one implication per operation, in the model's order. -/

namespace Sys2Proof.Machine

/-! ### Conditions, lists and answers -/

@[simp] theorem rcd_ite {c : Prop} [Decidable c] (a b : State) : (if c then a else b).rcd = if c then a.rcd else b.rcd := apply_ite State.rcd c a b

@[simp] theorem slots_ite {c : Prop} [Decidable c] (a b : RecSt) : (if c then a else b).slots = if c then a.slots else b.slots := apply_ite RecSt.slots c a b

theorem Answering.rcd_eq {s t : State} (h : Answering s t) : t.rcd = s.rcd := by rw [h]

section
variable (s : State)

@[simp] theorem State.each_rcd {α : Type} (l : List α) (f : State → α → State) (h : ∀ s a, (f s a).rcd = s.rcd) : (s.each l f).rcd = s.rcd := by
  induction l generalizing s with
  | nil => rfl
  | cons a l ih => exact (ih _).trans (h s a)

@[simp] theorem State.when_rcd (b : Bool) (f : State → State) (h : (f s).rcd = s.rcd) : (s.when b f).rcd = s.rcd := by
  cases b
  · rfl
  · exact h

/-! ### Registers -/

@[simp] theorem State.dropDomain_rcd (p : Nat) : (s.dropDomain p).rcd = s.rcd := by rfl
@[simp] theorem State.hostWrite_rcd (a : Nat) (v : Word) : (s.hostWrite a v).rcd = s.rcd := by rfl
@[simp] theorem State.clearFresh_rcd (a : Nat) : (s.clearFresh a).rcd = s.rcd := by simp [State.clearFresh]

/-! ### Shared operations -/

@[simp] theorem State.freeNat_rcd : s.freeNat.2.rcd = s.rcd := by rfl
@[simp] theorem State.freeBytes_rcd (n : Nat) : (s.freeBytes n).2.rcd = s.rcd := by rfl
@[simp] theorem State.flashWrite_rcd (a : Nat) (bs : List Byte) : (s.flashWrite a bs).rcd = s.rcd := by rfl
@[simp] theorem State.flashErase_rcd (a n : Nat) : (s.flashErase a n).rcd = s.rcd := by rfl
@[simp] theorem State.setSession_rcd (port : Port) (x : Session) : (s.setSession port x).rcd = s.rcd := (Answering.setSession _ _ _).rcd_eq
@[simp] theorem State.setStream_rcd (k : Nat) (x : TxStream) : (s.setStream k x).rcd = s.rcd := by rfl
@[simp] theorem State.sendOn_rcd (port : Port) (bytes : List Byte) : (s.sendOn port bytes).rcd = s.rcd := (Answering.sendOn _ _ _).rcd_eq

@[simp] theorem State.raise_rcd (n inst dat : Nat) : (s.raise n inst dat).rcd = s.rcd := (Answering.raise _ _ _ _).rcd_eq

/-! Where `frameResult` and `wrFusCtrl` compare with large literals, the next three, which hold of any condition, keep the kernel from counting them down. -/

@[simp] theorem State.when_raise_rcd (b : Bool) (n i d : Nat) : (s.when b fun s => s.raise n i d).rcd = s.rcd :=
  State.when_rcd _ _ _ (State.raise_rcd _ _ _ _)

@[simp] theorem State.when_set_rcd (b : Bool) (f : Fld) (x : Nat) : (s.when b fun s => s.set f x).rcd = s.rcd := State.when_rcd _ _ _ (State.set_rcd _ _ _)

@[simp] theorem State.each_setBitAt_rcd (l : List Nat) (f : Fld) (c g : State → Nat → Bool) :
    (s.each l fun s i => s.when (c s i) fun s => s.setBitAt f i (g s i)).rcd = s.rcd :=
  State.each_rcd _ _ _ fun _ _ => State.when_rcd _ _ _ (State.setBitAt_rcd _ _ _ _)

@[simp] theorem State.inhibitOn_rcd (mask : Nat) : (s.inhibitOn mask).rcd = s.rcd := (Answering.inhibitOn _ _).rcd_eq
@[simp] theorem State.inhibitOff_rcd (mask : Nat) : (s.inhibitOff mask).rcd = s.rcd := (Answering.inhibitOff _ _).rcd_eq

@[simp] theorem State.complete_rcd (op status detail : Nat) (data : List Byte) : (s.complete op status detail data).rcd = s.rcd :=
  (Answering.complete _ _ _ _ _).rcd_eq

/-! ### Answers -/

@[simp] theorem State.start_rcd (port : Port) (op : Nat) (seq : BitVec 16) (tag : Nat) : (s.start port op seq tag).rcd = s.rcd := by rfl

@[simp] theorem State.sendReply_rcd (port : Port) (op : Nat) (seq : BitVec 16) (a : Answer) (kept : AnsState) : (s.sendReply port op seq a kept).rcd = s.rcd := by
  simp [State.sendReply]

@[simp] theorem State.answerLater_rcd (op tag status detail : Nat) (data : List Byte) : (s.answerLater op tag status detail data).rcd = s.rcd := by
  simp [State.answerLater]

/-! ### Memory -/

@[simp] theorem State.wrLatCfg_rcd (v : Word) : (s.wrLatCfg v).rcd = s.rcd := by simp [State.wrLatCfg]
@[simp] theorem State.wrMem_rcd (a : Nat) (v : Word) : (s.wrMem a v).rcd = s.rcd := by simp [State.wrMem]

/-! ### Shots -/

@[simp] theorem State.setStr_rcd (n : Nat) (x : StringSt) : (s.setStr n x).rcd = s.rcd := by rfl
@[simp] theorem State.wrDerateCfg_rcd (v : Word) : (s.wrDerateCfg v).rcd = s.rcd := by simp [State.wrDerateCfg]
@[simp] theorem State.shotWithStart_rcd (b : Nat) : (s.shotWithStart b).rcd = s.rcd := by rfl
@[simp] theorem State.wrStr_rcd (a : Nat) (v : Word) : (s.wrStr a v).rcd = s.rcd := by simp [State.wrStr]
@[simp] theorem State.wrBank_rcd (a : Nat) (v : Word) : (s.wrBank a v).rcd = s.rcd := by simp [State.wrBank]
@[simp] theorem State.wrSht_rcd (a : Nat) (v : Word) : (s.wrSht a v).rcd = s.rcd := by simp [State.wrSht]
@[simp] theorem State.endChargeTest_rcd : s.endChargeTest.rcd = s.rcd := by cases hx : s.shot.chargeTest <;> simp [State.endChargeTest, hx]

/-! ### Loops -/

@[simp] theorem State.setLoop_rcd (n : Nat) (x : LoopSt) : (s.setLoop n x).rcd = s.rcd := by rfl
@[simp] theorem State.iclamp_rcd (n : Nat) : (s.iclamp n).rcd = s.rcd := by simp [State.iclamp]
@[simp] theorem State.rescale_rcd (n : Nat) (e df u : Int) : (s.rescale n e df u).rcd = s.rcd := by simp [State.rescale]
@[simp] theorem State.copyBank_rcd (n : Nat) : (s.copyBank n).rcd = s.rcd := by simp [State.copyBank]
@[simp] theorem State.swapNow_rcd (n : Nat) : (s.swapNow n).rcd = s.rcd := by simp [State.swapNow]
@[simp] theorem State.loopToOff_rcd (n : Nat) : (s.loopToOff n).rcd = s.rcd := by simp [State.loopToOff]
@[simp] theorem State.loopToRamp_rcd (n m : Nat) : (s.loopToRamp n m).rcd = s.rcd := by simp [State.loopToRamp]
@[simp] theorem State.loopToClosed_rcd (n : Nat) : (s.loopToClosed n).rcd = s.rcd := by simp [State.loopToClosed]

@[simp] theorem State.holdOuter_rcd (n : Nat) : (s.holdOuter n).rcd = s.rcd := by
  unfold State.holdOuter
  split <;> simp

@[simp] theorem State.setMode_rcd (n m : Nat) : (s.setMode n m).rcd = s.rcd := by rcases m with _ | _ | _ | m <;> simp [State.setMode]
@[simp] theorem State.copyTable_rcd : s.copyTable.rcd = s.rcd := by simp [State.copyTable]
@[simp] theorem State.releaseFb_rcd : s.releaseFb.rcd = s.rcd := by simp [State.releaseFb]
@[simp] theorem State.wrLoopStat_rcd (n : Nat) (v : Word) : (s.wrLoopStat n v).rcd = s.rcd := by simp [State.wrLoopStat]
@[simp] theorem State.scheduleSwap_rcd (n : Nat) : (s.scheduleSwap n).rcd = s.rcd := by simp [State.scheduleSwap]
@[simp] theorem State.hostSetpoint_rcd (n : Nat) (v : Word) : (s.hostSetpoint n v).rcd = s.rcd := by rfl
@[simp] theorem State.wrLoop_rcd (a : Nat) (v : Word) : (s.wrLoop a v).rcd = s.rcd := by simp [State.wrLoop]

/-! ### Values in force -/

@[simp] theorem State.holdWord_rcd (gs : List Nat) (a : Nat) : (s.holdWord gs a).rcd = s.rcd := by
  refine State.each_rcd _ _ _ fun s g => ?_
  split <;> rfl

@[simp] theorem State.holdScanning_rcd (gs : List Nat) (a : Nat) : (s.holdScanning gs a).rcd = s.rcd := by simp [State.holdScanning]

/-! ### The receiver -/

@[simp] theorem State.setRow_rcd (r : Nat) (x : RowSt) : (s.setRow r x).rcd = s.rcd := by rfl
@[simp] theorem State.setRxBank_rcd (b : Nat) (x : BankRx) : (s.setRxBank b x).rcd = s.rcd := by rfl
@[simp] theorem State.endCellMap_rcd (old : State) (r q : Nat) : (s.endCellMap old r q).rcd = s.rcd := by simp [State.endCellMap]
@[simp] theorem State.noteBias_rcd : s.noteBias.rcd = s.rcd := by simp [State.noteBias]
@[simp] theorem State.wrRxStat_rcd (v : Word) : (s.wrRxStat v).rcd = s.rcd := by simp [State.wrRxStat]
@[simp] theorem State.wrRefSel_rcd (a : Nat) (v : Word) : (s.wrRefSel a v).rcd = s.rcd := by simp [State.wrRefSel]
@[simp] theorem State.wrLadder_rcd (a : Nat) (v : Word) : (s.wrLadder a v).rcd = s.rcd := by simp [State.wrLadder]
@[simp] theorem State.wrRx_rcd (a : Nat) (v : Word) : (s.wrRx a v).rcd = s.rcd := by simp [State.wrRx]
@[simp] theorem State.wrRow_rcd (a : Nat) (v : Word) : (s.wrRow a v).rcd = s.rcd := by simp [State.wrRow]

/-! ### Histograms -/

@[simp] theorem State.setSlice_rcd (i : Nat) (x : SliceSt) : (s.setSlice i x).rcd = s.rcd := by rfl
@[simp] theorem State.setRegion_rcd (g : Nat) (x : RegionSt) : (s.setRegion g x).rcd = s.rcd := by rfl
@[simp] theorem State.wrEccInj_rcd (i : Nat) (v : Word) : (s.wrEccInj i v).rcd = s.rcd := by simp [State.wrEccInj]
@[simp] theorem State.wrSlice_rcd (a : Nat) (v : Word) : (s.wrSlice a v).rcd = s.rcd := by simp [State.wrSlice]

/-! ### Time measurement -/

@[simp] theorem State.setCh_rcd (c : Nat) (x : ChSt) : (s.setCh c x).rcd = s.rcd := by rfl
@[simp] theorem State.setLocked_rcd (c : Nat) (b : Bool) : (s.setLocked c b).rcd = s.rcd := by rfl
@[simp] theorem State.showQueue_rcd (c : Nat) : (s.showQueue c).rcd = s.rcd := by cases hx : (s.ch c).queue <;> simp [State.showQueue, hx]
@[simp] theorem State.qPop_rcd (c : Nat) (v : Word) : (s.qPop c v).rcd = s.rcd := by simp [State.qPop]
@[simp] theorem State.endTapMap_rcd (old : State) (c : Nat) : (s.endTapMap old c).rcd = s.rcd := by simp [State.endTapMap]
@[simp] theorem State.endLin_rcd (c : Nat) : (s.endLin c).rcd = s.rcd := by rfl
@[simp] theorem State.holdOpen_rcd (c a : Nat) : (s.holdOpen c a).rcd = s.rcd := by simp [State.holdOpen]
@[simp] theorem State.wrChWindow_rcd (c : Nat) (v : Word) : (s.wrChWindow c v).rcd = s.rcd := by simp [State.wrChWindow]
@[simp] theorem State.wrCh_rcd (a : Nat) (v : Word) : (s.wrCh a v).rcd = s.rcd := by simp [State.wrCh]

/-! ### Peaks -/

@[simp] theorem State.dumpDrop_rcd : s.dumpDrop.rcd = s.rcd := by simp [State.dumpDrop]

@[simp] theorem State.frameResult_rcd (g : Nat) : (s.frameResult g).rcd = s.rcd := by
  rw [State.frameResult, rcd_ite, State.raise_rcd, State.when_set_rcd, State.set_rcd, ite_self, State.setRegion_rcd, State.when_raise_rcd]
  simp only [State.publish_rcd, State.set_rcd]

@[simp] theorem State.wrRegion_rcd (a : Nat) (v : Word) : (s.wrRegion a v).rcd = s.rcd := by simp [State.wrRegion]

/-! ### Points -/

@[simp] theorem State.setCtx_rcd (n : Nat) (x : Ctx) : (s.setCtx n x).rcd = s.rcd := by rfl
@[simp] theorem State.capture_rcd (n : Nat) : (s.capture n).rcd = s.rcd := by simp [State.capture]
@[simp] theorem State.bindComp_rcd : s.bindComp.rcd = s.rcd := by cases hx : s.ps.compPend <;> simp [State.bindComp, hx]
@[simp] theorem State.closeFrame_rcd (last : Nat) (early : Bool) : (s.closeFrame last early).rcd = s.rcd := by simp [State.closeFrame]
@[simp] theorem State.wrPsCtrl_rcd (v : Word) : (s.wrPsCtrl v).rcd = s.rcd := by simp [State.wrPsCtrl]
@[simp] theorem State.wrOvf_rcd (a : Nat) (v : Word) : (s.wrOvf a v).rcd = s.rcd := by simp [State.wrOvf]
@[simp] theorem State.wrPoints_rcd (a : Nat) (v : Word) : (s.wrPoints a v).rcd = s.rcd := by simp [State.wrPoints]

/-! ### Cameras -/

@[simp] theorem State.setCam_rcd (n : Nat) (x : CamSt) : (s.setCam n x).rcd = s.rcd := by rfl
@[simp] theorem State.setPctx_rcd (n : Nat) (x : CtxSt) : (s.setPctx n x).rcd = s.rcd := by rfl

/-! ### Fusion -/

@[simp] theorem State.wrFusCtrl_rcd (v : Word) : (s.wrFusCtrl v).rcd = s.rcd := by
  rw [State.wrFusCtrl, rcd_ite, State.set_rcd, State.each_setBitAt_rcd, State.hostWrite_rcd, ite_self]

@[simp] theorem State.wrFusion_rcd (a : Nat) (v : Word) : (s.wrFusion a v).rcd = s.rcd := by simp [State.wrFusion]

/-! ### The camera pipeline -/

@[simp] theorem State.publishLoad_rcd : s.publishLoad.rcd = s.rcd := by simp [State.publishLoad]
@[simp] theorem State.wrPipe_rcd (a : Nat) (v : Word) : (s.wrPipe a v).rcd = s.rcd := by simp [State.wrPipe]

/-! ### Displays -/

@[simp] theorem State.setDisp_rcd (d : Nat) (x : DispSt) : (s.setDisp d x).rcd = s.rcd := by rfl
@[simp] theorem State.endCommit_rcd (d status detail : Nat) (data : List Byte) : (s.endCommit d status detail data).rcd = s.rcd := by simp [State.endCommit]
@[simp] theorem State.noDemand_rcd (d : Nat) : (s.noDemand d).rcd = s.rcd := by simp [State.noDemand]
@[simp] theorem State.dispStop_rcd (d : Nat) : (s.dispStop d).rcd = s.rcd := by simp [State.dispStop]
@[simp] theorem State.activate_rcd (d : Nat) (bank : List (List Byte)) : (s.activate d bank).rcd = s.rcd := by simp [State.activate]
@[simp] theorem State.commit_rcd (d : Nat) : (s.commit d).rcd = s.rcd := by simp [State.commit]
@[simp] theorem State.wrDisplay_rcd (a : Nat) (v : Word) : (s.wrDisplay a v).rcd = s.rcd := by simp [State.wrDisplay]
@[simp] theorem State.portDown_rcd (d : Nat) : (s.portDown d).rcd = s.rcd := by simp [State.portDown]

/-! ### Housekeeping -/

@[simp] theorem State.hkApply_rcd (b : List Byte) : (s.hkApply b).rcd = s.rcd := by simp [State.hkApply]
@[simp] theorem State.hkSettle_rcd : s.hkSettle.rcd = s.rcd := by simp [State.hkSettle]
@[simp] theorem State.setTia_rcd (c : Nat) (x : TiaSt) : (s.setTia c x).rcd = s.rcd := by rfl
@[simp] theorem State.tiaRestart_rcd (c : Nat) (zero : Bool) : (s.tiaRestart c zero).rcd = s.rcd := by simp [State.tiaRestart]
@[simp] theorem State.tiaWant_rcd (c : Nat) (zero : Bool) : (s.tiaWant c zero).rcd = s.rcd := by simp [State.tiaWant]
@[simp] theorem State.wrWmCtrl_rcd (v : Word) : (s.wrWmCtrl v).rcd = s.rcd := by simp [State.wrWmCtrl]
@[simp] theorem State.wrTiaCfg_rcd (c : Nat) (v : Word) : (s.wrTiaCfg c v).rcd = s.rcd := by simp [State.wrTiaCfg]
@[simp] theorem State.hkSyncEdge_rcd : s.hkSyncEdge.rcd = s.rcd := by simp [State.hkSyncEdge]
@[simp] theorem State.setAux_rcd (code : Nat) : (s.setAux code).rcd = s.rcd := by simp [State.setAux]
@[simp] theorem State.auxSafe_rcd : s.auxSafe.rcd = s.rcd := by simp [State.auxSafe]

/-! ### Thermal -/

@[simp] theorem State.wrThermal_rcd (a : Nat) (v : Word) : (s.wrThermal a v).rcd = s.rcd := by simp [State.wrThermal]

/-! ### Illuminators -/

@[simp] theorem State.setIll_rcd (n : Nat) (x : IllSt) : (s.setIll n x).rcd = s.rcd := by rfl
@[simp] theorem State.illDark_rcd (n : Nat) : (s.illDark n).rcd = s.rcd := by simp [State.illDark]
@[simp] theorem State.illDarkAll_rcd : s.illDarkAll.rcd = s.rcd := by simp [State.illDarkAll]
@[simp] theorem State.illReady_rcd : s.illReady.rcd = s.rcd := by simp [State.illReady]
@[simp] theorem State.wrIllTherm_rcd (v : Word) : (s.wrIllTherm v).rcd = s.rcd := by simp [State.wrIllTherm]
@[simp] theorem State.wrIllStat_rcd (n : Nat) (v : Word) : (s.wrIllStat n v).rcd = s.rcd := by simp [State.wrIllStat]
@[simp] theorem State.wrIll_rcd (a : Nat) (v : Word) : (s.wrIll a v).rcd = s.rcd := by simp [State.wrIll]

/-! ### Calibration -/

@[simp] theorem State.calResult_rcd (item status detail : Nat) : (s.calResult item status detail).rcd = s.rcd := by simp [State.calResult]
@[simp] theorem State.rebuild_rcd (e : Nat × Nat × Nat) : (s.rebuild e).rcd = s.rcd := by simp [State.rebuild]
@[simp] theorem State.stepsDone_rcd : s.stepsDone.rcd = s.rcd := by cases hx : s.cal.stepT <;> simp [State.stepsDone, hx]
@[simp] theorem State.calApply_rcd (r : CalRun) : (s.calApply r).rcd = s.rcd := by simp [State.calApply]

@[simp] theorem State.calFinish_rcd (r : CalRun) (copies : Nat) : (s.calFinish r copies).2.rcd = s.rcd := by
  unfold State.calFinish
  split
  · rfl
  · dsimp only
    split <;> simp

@[simp] theorem State.calBegin_rcd (items : List Nat) (manual : Bool) : (s.calBegin items manual).rcd = s.rcd := by simp [State.calBegin]
@[simp] theorem State.calEnd_rcd (r : CalRun) (bad : Option (Nat × Nat)) : (s.calEnd r bad).rcd = s.rcd := by simp [State.calEnd]
@[simp] theorem State.calAbort_rcd (status detail : Nat) : (s.calAbort status detail).rcd = s.rcd := by cases hx : s.cal.run <;> simp [State.calAbort, hx]
@[simp] theorem State.calByState_rcd : s.calByState.rcd = s.rcd := by simp [State.calByState]
@[simp] theorem State.calScanStart_rcd : s.calScanStart.rcd = s.rcd := by rfl
@[simp] theorem State.calHostWrite_rcd (a : Nat) : (s.calHostWrite a).rcd = s.rcd := by simp [State.calHostWrite]

/-! ### Diagnostics -/

@[simp] theorem State.wrFmClass_rcd (a : Nat) (v : Word) : (s.wrFmClass a v).rcd = s.rcd := State.wr_rcd _ _ _
@[simp] theorem State.fmFirstEmpty_rcd : s.fmFirstEmpty.rcd = s.rcd := by simp [State.fmFirstEmpty]
@[simp] theorem State.wrFm_rcd (a : Nat) (v : Word) : (s.wrFm a v).rcd = s.rcd := by simp [State.wrFm]

@[simp] theorem State.recTo_rcd_slots (st : Nat) : (s.recTo st).rcd.slots = s.rcd.slots := by
  unfold State.recTo
  dsimp only
  split <;> rfl

@[simp] theorem State.recFire_rcd_slots (valid : Nat) (forced : Bool) : (s.recFire valid forced).rcd.slots = s.rcd.slots := by simp [State.recFire]
@[simp] theorem State.recLost_slots : s.recLost.rcd.slots = [] := rfl
@[simp] theorem State.monClose_rcd : s.monClose.rcd = s.rcd := by simp [State.monClose]
@[simp] theorem State.wrMonCtrl_rcd (v : Word) : (s.wrMonCtrl v).rcd = s.rcd := by simp [State.wrMonCtrl]

/-! ### Safety -/

@[simp] theorem State.responses_rcd (p : Nat) : (s.responses p).2.rcd = s.rcd := by
  unfold State.responses
  refine List.foldlRecOn (motive := fun a : Option Nat × State => a.2.rcd = s.rcd) _ _ rfl fun a same f _ => ?_
  dsimp only
  split
  · simpa using same
  · split <;> simpa using same

@[simp] theorem State.safeRelease_rcd : s.safeRelease.rcd = s.rcd := by simp [State.safeRelease]
@[simp] theorem State.newNonce_rcd : s.newNonce.rcd = s.rcd := by simp [State.newNonce]
@[simp] theorem State.sessionNumber_rcd : s.sessionNumber.2.rcd = s.rcd := by simp [State.sessionNumber]
@[simp] theorem State.closeCommissioning_rcd : s.closeCommissioning.rcd = s.rcd := by rfl
@[simp] theorem State.credFail_rcd : s.credFail.rcd = s.rcd := by simp [State.credFail]
@[simp] theorem State.stage_rcd (x : SafeSession) (img : List Byte) : (s.stage x img).rcd = s.rcd := by rfl

/-! ### Links -/

@[simp] theorem State.setLink_rcd (p : Nat) (x : LinkSt) : (s.setLink p x).rcd = s.rcd := by rfl
@[simp] theorem State.flushStream_rcd (p k : Nat) : (s.flushStream p k).rcd = s.rcd := by simp [State.flushStream]
@[simp] theorem State.linkDown_rcd (p : Nat) : (s.linkDown p).rcd = s.rcd := by simp [State.linkDown]
@[simp] theorem State.rungStart_rcd (p r : Nat) : (s.rungStart p r).rcd = s.rcd := by simp [State.rungStart]
@[simp] theorem State.beginLadder_rcd (p target : Nat) : (s.beginLadder p target).rcd = s.rcd := by simp [State.beginLadder]
@[simp] theorem State.restartStream_rcd (k : Nat) : (s.restartStream k).rcd = s.rcd := by simp [State.restartStream]
@[simp] theorem State.routeSync_rcd : s.routeSync.rcd = s.rcd := by simp [State.routeSync]
@[simp] theorem State.wrEth_rcd (a : Nat) (v : Word) : (s.wrEth a v).rcd = s.rcd := by simp [State.wrEth]

/-! ### The time base -/

@[simp] theorem State.latchTime_rcd : s.latchTime.rcd = s.rcd := by rfl
@[simp] theorem State.tbState_rcd (n : Nat) : (s.tbState n).rcd = s.rcd := by simp [State.tbState]
@[simp] theorem State.tbAdj_rcd (adj : Int) : (s.tbAdj adj).rcd = s.rcd := by simp [State.tbAdj]
@[simp] theorem State.tbMode_rcd (m : Nat) : (s.tbMode m).rcd = s.rcd := by simp [State.tbMode]
@[simp] theorem State.tbDomainOff_rcd : s.tbDomainOff.rcd = s.rcd := by simp [State.tbDomainOff]
@[simp] theorem State.timeStep_rcd (d : Int) : (s.timeStep d).rcd = s.rcd := by simp [State.timeStep]
@[simp] theorem State.wrTimeBase_rcd (a : Nat) (v : Word) : (s.wrTimeBase a v).rcd = s.rcd := by simp [State.wrTimeBase]

/-! ### Power states -/

@[simp] theorem State.dropStream_rcd (k : Nat) : (s.dropStream k).rcd = s.rcd := by rfl
@[simp] theorem State.dropWords_rcd (p : Nat) : (s.dropWords p).rcd = s.rcd := by simp [State.dropWords]
@[simp] theorem State.scanOff_rcd : s.scanOff.rcd = s.rcd := by simp [State.scanOff]
@[simp] theorem State.closeResults_rcd (c : Nat) : (s.closeResults c).rcd = s.rcd := by simp [State.closeResults]
@[simp] theorem State.abandonScan_rcd : s.abandonScan.rcd = s.rcd := by simp [State.abandonScan]
@[simp] theorem State.endCommands_rcd (new : PowerState) : (s.endCommands new).rcd = s.rcd := by simp [State.endCommands]

/-! ### The scan -/

@[simp] theorem State.loadReceiver_rcd : s.loadReceiver.rcd = s.rcd := by simp [State.loadReceiver]
@[simp] theorem State.loadThresholds_rcd : s.loadThresholds.rcd = s.rcd := by simp [State.loadThresholds]
@[simp] theorem State.beginSettle_rcd (restart : Bool) : (s.beginSettle restart).rcd = s.rcd := by simp [State.beginSettle]
@[simp] theorem State.scanAccepted_rcd (p : Nat) : (s.scanAccepted p).rcd = s.rcd := by simp [State.scanAccepted]

/-! ### The fault manager -/

@[simp] theorem State.causesFollow_rcd : s.causesFollow.rcd = s.rcd := by simp [State.causesFollow]
@[simp] theorem State.logFault_rcd (f : FaultRec) : (s.logFault f).rcd = s.rcd := by simp [State.logFault]
@[simp] theorem State.firstFault_rcd (f : FaultRec) (i : Nat) : (s.firstFault f i).rcd = s.rcd := by simp [State.firstFault]
@[simp] theorem State.checkRecovery_rcd : s.checkRecovery.rcd = s.rcd := by simp [State.checkRecovery]

/-! ### Power and firmware -/

@[simp] theorem State.writeBootRecord_rcd (slot : Nat) (trial : Bool) : (s.writeBootRecord slot trial).rcd = s.rcd := by simp [State.writeBootRecord]

/-! ### Register access -/

@[simp] theorem State.wrLoopRate_rcd (n : Nat) (v : Word) : (s.wrLoopRate n v).rcd = s.rcd := by simp [State.wrLoopRate]
@[simp] theorem State.afterView_rcd (a : Nat) : (s.afterView a).rcd = s.rcd := by simp [State.afterView]

@[simp] theorem State.readWords_rcd (clears : Bool) (a : Nat) (k : Nat) : (s.readWords clears a k).2.rcd = s.rcd := by
  induction k generalizing s a with
  | zero => rfl
  | succ k ih => simp [State.readWords, ih]

@[simp] theorem State.wrEmitter_rcd (a : Nat) (v : Word) : (s.wrEmitter a v).rcd = s.rcd := by simp [State.wrEmitter]
@[simp] theorem State.wrRanging_rcd (a : Nat) (v : Word) : (s.wrRanging a v).rcd = s.rcd := by simp [State.wrRanging]
@[simp] theorem State.wrVision_rcd (a : Nat) (v : Word) : (s.wrVision a v).rcd = s.rcd := by simp [State.wrVision]
@[simp] theorem State.wrLinks_rcd (a : Nat) (v : Word) : (s.wrLinks a v).rcd = s.rcd := by simp [State.wrLinks]
@[simp] theorem State.wrHk_rcd (a : Nat) (v : Word) : (s.wrHk a v).rcd = s.rcd := by simp [State.wrHk]
@[simp] theorem State.endWrite_rcd (old : State) (as : List Nat) : (s.endWrite old as).rcd = s.rcd := by simp [State.endWrite]

/-! ### Commands -/

@[simp] theorem State.forgetPeer_rcd (p : Peer) : (s.forgetPeer p).rcd = s.rcd := by cases hx : s.safe.session <;> simp [State.forgetPeer, hx]

end

/-! ### Every slot free -/

/-- What a handler leaves has every slot of the recorder free, and what follows the reply keeps them so. -/
def Reply.SlotsFree (r : Reply) : Prop := r.st.rcd.slots = [] ∧ ∀ t : State, t.rcd.slots = [] → (r.post t).rcd.slots = []

@[simp] theorem ite_slotsFree {c : Prop} [Decidable c] (a b : Reply) : (if c then a else b).SlotsFree ↔ if c then a.SlotsFree else b.SlotsFree := by
  split <;> rfl

@[simp] theorem Reply.mk_slotsFree (a : Ans) (s : State) (f : State → State) :
    (Reply.mk a s f).SlotsFree ↔ s.rcd.slots = [] ∧ ∀ t : State, t.rcd.slots = [] → (f t).rcd.slots = [] := Iff.rfl

@[simp] theorem State.reply_slotsFree (s : State) (a : Ans) : (s.reply a).SlotsFree ↔ s.rcd.slots = [] := ⟨fun h => h.1, fun h => ⟨h, fun _ free => free⟩⟩

@[simp] theorem State.done_slotsFree (s : State) (data : List Byte) : (s.done data).SlotsFree ↔ s.rcd.slots = [] := State.reply_slotsFree _ _

theorem State.each_slots {α : Type} (s : State) (l : List α) (f : State → α → State) (h : s.rcd.slots = [])
    (hf : ∀ s, s.rcd.slots = [] → ∀ a, (f s a).rcd.slots = []) : (s.each l f).rcd.slots = [] := by
  induction l generalizing s with
  | nil => exact h
  | cons a l ih => exact ih _ (hf s h a)

/-- R29 to R31: an answer reaches its port, and what follows it happens. -/
theorem State.finish_slots (r : Reply) (port : Port) (op : Nat) (seq : BitVec 16) (free : r.SlotsFree) :
    (State.finish r port op seq).rcd.slots = [] := by
  obtain ⟨handled, follows⟩ := free
  unfold State.finish
  split <;> exact follows _ (by simp [handled])

section
variable (s : State) (h : s.rcd.slots = [])
include h

@[simp] theorem State.guarded_slotsFree (cs : List Check) (go : Reply) (hgo : go.SlotsFree) : (s.guarded cs go).SlotsFree := by
  unfold State.guarded
  split
  · simpa using h
  · exact hgo

@[simp] theorem State.accept_slotsFree (op : Nat) (go : State) (tag : Nat) (hgo : go.rcd.slots = []) : (s.accept op go tag).SlotsFree := by
  unfold State.accept
  split
  · simpa using h
  · simpa using hgo

@[simp] theorem State.locked_slotsFree (via : Port) (p : List Byte) (go : SafeSession → Reply) (hgo : ∀ x, (go x).SlotsFree) : (s.locked via p go).SlotsFree := by
  unfold State.locked
  split
  · exact hgo _
  · simpa using h

/-! ### Memory -/

@[simp] theorem cmdClassCountersRead_slotsFree : (cmdClassCountersRead s).SlotsFree := by simp [cmdClassCountersRead, h]

/-! ### Profiles -/

@[simp] theorem cmdProfileOverride_slotsFree (p : List Byte) : (cmdProfileOverride s p).SlotsFree := by simp [cmdProfileOverride, h]
@[simp] theorem cmdProfileRead_slotsFree (p : List Byte) : (cmdProfileRead s p).SlotsFree := by simp [cmdProfileRead, h]

/-! ### Shots -/

@[simp] theorem cmdEmitterInhibit_slotsFree (p : List Byte) : (cmdEmitterInhibit s p).SlotsFree := by simp [cmdEmitterInhibit, h]
@[simp] theorem cmdStringEnable_slotsFree (p : List Byte) : (cmdStringEnable s p).SlotsFree := by simp [cmdStringEnable, h]
@[simp] theorem cmdChargeTest_slotsFree (p : List Byte) : (cmdChargeTest s p).SlotsFree := by simp [cmdChargeTest, h]
@[simp] theorem cmdLimiterRead_slotsFree : (cmdLimiterRead s).SlotsFree := by simp [cmdLimiterRead, h]
@[simp] theorem cmdTriggerConfig_slotsFree (p : List Byte) : (cmdTriggerConfig s p).SlotsFree := by simp [cmdTriggerConfig, h]

/-! ### Loops -/

@[simp] theorem cmdLoopMode_slotsFree (p : List Byte) : (cmdLoopMode s p).SlotsFree := by simp [cmdLoopMode, h]
@[simp] theorem cmdLoopCoefSet_slotsFree (p : List Byte) : (cmdLoopCoefSet s p).SlotsFree := by simp [cmdLoopCoefSet, h]
@[simp] theorem cmdLoopSetpoint_slotsFree (p : List Byte) : (cmdLoopSetpoint s p).SlotsFree := by simp [cmdLoopSetpoint, h]
@[simp] theorem cmdLoopRead_slotsFree (p : List Byte) : (cmdLoopRead s p).SlotsFree := by simp [cmdLoopRead, h]
@[simp] theorem cmdTrajectoryLoad_slotsFree (p : List Byte) : (cmdTrajectoryLoad s p).SlotsFree := by simp [cmdTrajectoryLoad, h]

/-! ### Peaks -/

@[simp] theorem cmdHistDump_slotsFree (p : List Byte) : (cmdHistDump s p).SlotsFree := by simp [cmdHistDump, h]
@[simp] theorem cmdHistDumpCancel_slotsFree : (cmdHistDumpCancel s).SlotsFree := by cases hd : s.rx.dump <;> simp [cmdHistDumpCancel, hd, h]

/-! ### Points -/

@[simp] theorem cmdCompConfig_slotsFree (p : List Byte) : (cmdCompConfig s p).SlotsFree := by simp [cmdCompConfig, h]
@[simp] theorem cmdContextSave_slotsFree (p : List Byte) : (cmdContextSave s p).SlotsFree := by simp [cmdContextSave, h]
@[simp] theorem cmdContextRestore_slotsFree (p : List Byte) : (cmdContextRestore s p).SlotsFree := by simp [cmdContextRestore, h]
@[simp] theorem cmdDecompress_slotsFree (p : List Byte) : (cmdDecompress s p).SlotsFree := by simp [cmdDecompress, h]

/-! ### The camera pipeline -/

@[simp] theorem cmdCamConfig_slotsFree (p : List Byte) : (cmdCamConfig s p).SlotsFree := by simp [cmdCamConfig, h]
@[simp] theorem cmdCamRun_slotsFree (p : List Byte) : (cmdCamRun s p).SlotsFree := by simp [cmdCamRun, h]
@[simp] theorem cmdStatsRequest_slotsFree (p : List Byte) : (cmdStatsRequest s p).SlotsFree := by simp [cmdStatsRequest, h]
@[simp] theorem cmdPipeContextSet_slotsFree (p : List Byte) : (cmdPipeContextSet s p).SlotsFree := by simp [cmdPipeContextSet, h]
@[simp] theorem cmdReprocess_slotsFree (p : List Byte) : (cmdReprocess s p).SlotsFree := by simp [cmdReprocess, h]

/-! ### Displays -/

@[simp] theorem cmdDispMode_slotsFree (p : List Byte) : (cmdDispMode s p).SlotsFree := by simp [cmdDispMode, h]
@[simp] theorem cmdDispRun_slotsFree (p : List Byte) : (cmdDispRun s p).SlotsFree := by simp [cmdDispRun, h]
@[simp] theorem cmdLayerSet_slotsFree (p : List Byte) : (cmdLayerSet s p).SlotsFree := by simp [cmdLayerSet, h]
@[simp] theorem cmdCommit_slotsFree (p : List Byte) : (cmdCommit s p).SlotsFree := by simp [cmdCommit, h]

/-! ### Housekeeping -/

@[simp] theorem cmdHkConfig_slotsFree (p : List Byte) : (cmdHkConfig s p).SlotsFree := by simp [cmdHkConfig, h]
@[simp] theorem cmdHkUrgent_slotsFree (p : List Byte) : (cmdHkUrgent s p).SlotsFree := by simp [cmdHkUrgent, h]
@[simp] theorem cmdTiaRange_slotsFree (p : List Byte) : (cmdTiaRange s p).SlotsFree := by simp [cmdTiaRange, h]
@[simp] theorem cmdAuxoutSet_slotsFree (p : List Byte) : (cmdAuxoutSet s p).SlotsFree := by simp [cmdAuxoutSet, h]

/-! ### Thermal -/

@[simp] theorem cmdThermalRead_slotsFree : (cmdThermalRead s).SlotsFree := by simp [cmdThermalRead, h]

/-! ### Illuminators -/

@[simp] theorem cmdIllSet_slotsFree (p : List Byte) : (cmdIllSet s p).SlotsFree := by simp [cmdIllSet, h]

/-! ### Calibration -/

@[simp] theorem cmdCalRun_slotsFree (p : List Byte) : (cmdCalRun s p).SlotsFree := by simp [cmdCalRun, h]
@[simp] theorem cmdCalRecordRead_slotsFree (p : List Byte) : (cmdCalRecordRead s p).SlotsFree := by simp [cmdCalRecordRead, h]

/-! ### Diagnostics -/

@[simp] theorem cmdEventSubscribe_slotsFree (via : Port) (p : List Byte) : (cmdEventSubscribe via s p).SlotsFree := by simp [cmdEventSubscribe, h]
@[simp] theorem cmdFaultLogRead_slotsFree (p : List Byte) : (cmdFaultLogRead s p).SlotsFree := by simp [cmdFaultLogRead, h]
@[simp] theorem cmdRecorderArm_slotsFree (p : List Byte) : (cmdRecorderArm s p).SlotsFree := by simp [cmdRecorderArm, h]
@[simp] theorem cmdRecorderForce_slotsFree (p : List Byte) : (cmdRecorderForce s p).SlotsFree := by simp [cmdRecorderForce, h]
@[simp] theorem cmdRecorderRead_slotsFree (p : List Byte) : (cmdRecorderRead s p).SlotsFree := by simp [cmdRecorderRead, h]

/-! ### Safety -/

@[simp] theorem cmdSafetyStatus_slotsFree (p : List Byte) : (cmdSafetyStatus s p).SlotsFree := by simp [cmdSafetyStatus, h]
@[simp] theorem cmdCommissionOpen_slotsFree (via : Port) (p : List Byte) : (cmdCommissionOpen via s p).SlotsFree := by simp [cmdCommissionOpen, h]
@[simp] theorem cmdFieldWrite_slotsFree (via : Port) (p : List Byte) : (cmdFieldWrite via s p).SlotsFree := by simp [cmdFieldWrite, h]
@[simp] theorem cmdSafetyParamWrite_slotsFree (via : Port) (p : List Byte) : (cmdSafetyParamWrite via s p).SlotsFree := by simp [cmdSafetyParamWrite, h]

@[simp] theorem cmdCommissionCommit_slotsFree (via : Port) (p : List Byte) : (cmdCommissionCommit via s p).SlotsFree :=
  State.locked_slotsFree _ h _ _ _ fun _ => State.guarded_slotsFree _ h _ _ (by simp [h])

@[simp] theorem cmdCommissionAbort_slotsFree (via : Port) (p : List Byte) : (cmdCommissionAbort via s p).SlotsFree := by simp [cmdCommissionAbort, h]

/-! ### Links -/

@[simp] theorem cmdLinkTrain_slotsFree (p : List Byte) : (cmdLinkTrain s p).SlotsFree := by simp [cmdLinkTrain, h]
@[simp] theorem cmdLinkStatus_slotsFree (p : List Byte) : (cmdLinkStatus s p).SlotsFree := by simp [cmdLinkStatus, h]
@[simp] theorem cmdNetConfig_slotsFree (p : List Byte) : (cmdNetConfig s p).SlotsFree := by simp [cmdNetConfig, h]

/-! ### The time base -/

@[simp] theorem cmdTimeRead_slotsFree : (cmdTimeRead s).SlotsFree := by simp [cmdTimeRead, h]
@[simp] theorem cmdTimeConfig_slotsFree (p : List Byte) : (cmdTimeConfig s p).SlotsFree := by simp [cmdTimeConfig, h]

/-! ### Power states -/

@[simp] theorem State.loseDomain_slots (p : Nat) : (s.loseDomain p).rcd.slots = [] := by
  unfold State.loseDomain
  split
  · simpa using h
  · split <;> simp [h]

@[simp] theorem State.domainOff_slots (p : Nat) : (s.domainOff p).rcd.slots = [] := by
  unfold State.domainOff
  split
  · exact h
  · extract_lets up ended answered lost off pw kept
    have free : kept.rcd.slots = [] := by
      have same : answered.rcd = s.rcd := by simp [answered, ended, up]
      simp [kept, off, lost, same, h]
    clear_value kept
    split
    · simpa using free
    · split <;> simpa using free

@[simp] theorem State.enterState_slots (new : PowerState) (cause : Nat) : (s.enterState new cause).rcd.slots = [] := by
  cases new
  case thermalLatch => exact State.each_slots _ _ _ (by simp [h]) State.domainOff_slots
  all_goals simp [State.enterState, h]

/-! ### The scan -/

@[simp] theorem State.scanStartRest_slotsFree (p : List Byte) : (s.scanStartRest p).SlotsFree := by
  unfold State.scanStartRest
  split
  · simp [h]
  · dsimp only
    split
    · simp [h]
    · generalize hr : (if decide (u8 p 0 ≤ 3 ∨ u8 p 0 = 255) = true then _ else _ : Option Nat × State) = r
      have kept : r.2.rcd = s.rcd := by
        subst hr
        split <;> simp
      refine State.guarded_slotsFree _ (by rw [kept, h]) _ _ ?_
      split
      · simp [kept, h]
      · simp [kept, h]

@[simp] theorem cmdScanStart_slotsFree (p : List Byte) : (cmdScanStart s p).SlotsFree := by simp [cmdScanStart, h]

@[simp] theorem cmdScanStop_slotsFree : (cmdScanStop s).SlotsFree := by
  refine State.guarded_slotsFree _ h _ _ ?_
  split
  · simp [h]
  · exact ⟨h, fun _ free => State.enterState_slots _ free _ _⟩

/-! ### The fault manager -/

@[simp] theorem State.react_slots (f : FaultRec) : (s.react f).rcd.slots = [] := by simp [State.react, h]
@[simp] theorem State.processFault_slots (f : FaultRec) : (s.processFault f).rcd.slots = [] := by simp [State.processFault, h]

@[simp] theorem State.fmRun_slots (k : Nat) : (s.fmRun k).rcd.slots = [] := by
  induction k generalizing s with
  | zero => exact h
  | succ k ih =>
    unfold State.fmRun
    split
    · exact h
    · exact ih _ (by simp [h])

@[simp] theorem State.calm_slots : s.calm.rcd.slots = [] := by simp [State.calm, h]
@[simp] theorem cmdSafeHold_slotsFree : (cmdSafeHold s).SlotsFree := by simp [cmdSafeHold, h]
@[simp] theorem cmdFaultClear_slotsFree : (cmdFaultClear s).SlotsFree := by simp [cmdFaultClear, h]

/-! ### Power and firmware -/

@[simp] theorem cmdDormant_slotsFree (via : Port) : (cmdDormant via s).SlotsFree := by simp [cmdDormant, h]
@[simp] theorem State.wrDomReq_slots (a : Nat) (v : Word) : (s.wrDomReq a v).rcd.slots = [] := State.each_slots _ _ _ h State.domainOff_slots
@[simp] theorem cmdFwBegin_slotsFree (p : List Byte) : (cmdFwBegin s p).SlotsFree := by simp [cmdFwBegin, h]

@[simp] theorem cmdFwWrite_slotsFree (p : List Byte) : (cmdFwWrite s p).SlotsFree := by
  unfold cmdFwWrite
  split <;> simp [h]

@[simp] theorem cmdFwVerify_slotsFree : (cmdFwVerify s).SlotsFree := by simp [cmdFwVerify, h]

@[simp] theorem cmdFwActivate_slotsFree (p : List Byte) : (cmdFwActivate s p).SlotsFree := by
  refine State.guarded_slotsFree _ h _ _ ?_
  split
  · exact ⟨h, fun _ free => free⟩
  · split <;> simp [h]

@[simp] theorem cmdFwInfo_slotsFree : (cmdFwInfo s).SlotsFree := by simp [cmdFwInfo, h]
@[simp] theorem cmdReboot_slotsFree : (cmdReboot s).SlotsFree := by simp [cmdReboot, h]
@[simp] theorem cmdFlashRead_slotsFree (p : List Byte) : (cmdFlashRead s p).SlotsFree := by simp [cmdFlashRead, h]

/-! ### Synchronisation -/

@[simp] theorem cmdSyncConfig_slotsFree (p : List Byte) : (cmdSyncConfig s p).SlotsFree := by simp [cmdSyncConfig, h]

@[simp] theorem cmdFilterSync_slotsFree : (cmdFilterSync s).SlotsFree := by
  unfold cmdFilterSync
  split
  · split
    · simp [h]
    · exact ⟨h, fun _ free => by simp [free]⟩
  · simp [h]
  · simp [h]

/-! ### Register access -/

@[simp] theorem State.hostStore_slots (a : Nat) (v : Word) : (s.hostStore a v).rcd.slots = [] := by simp [State.hostStore, h]

@[simp] theorem State.storeWords_slots (a : Nat) (k : List Word) : (s.storeWords a k).rcd.slots = [] := by
  induction k generalizing s a with
  | nil => exact h
  | cons v vs ih => exact ih _ (State.hostStore_slots _ h _ _) _

@[simp] theorem State.hostWrites_slots (a : Nat) (vs : List Word) : (s.hostWrites a vs).rcd.slots = [] := by simp [State.hostWrites, h]
@[simp] theorem cmdRegRead_slotsFree (p : List Byte) : (cmdRegRead s p).SlotsFree := by simp [cmdRegRead, h]
@[simp] theorem cmdRegWrite_slotsFree (p : List Byte) : (cmdRegWrite s p).SlotsFree := by simp [cmdRegWrite, h]
@[simp] theorem cmdRegRmw_slotsFree (p : List Byte) : (cmdRegRmw s p).SlotsFree := by simp [cmdRegRmw, h]

/-! ### Commands -/

@[simp] theorem cmdIdentify_slotsFree : (cmdIdentify s).SlotsFree := by simp [cmdIdentify, h]
@[simp] theorem cmdStatus_slotsFree (via : Port) : (cmdStatus via s).SlotsFree := by simp [cmdStatus, h]

@[simp] theorem cmdCmdStatus_slotsFree (via : Port) (p : List Byte) : (cmdCmdStatus via s p).SlotsFree := by
  refine State.guarded_slotsFree _ h _ _ ?_
  split
  · simp [h]
  · split <;> simp [h]

@[simp] theorem cmdMonitorControl_slotsFree (p : List Byte) : (cmdMonitorControl s p).SlotsFree := by simp [cmdMonitorControl, h]

@[simp] theorem State.afterReload_slotsFree (r : Reply) (hr : r.SlotsFree) : (s.afterReload r).SlotsFree := by
  unfold State.afterReload
  split
  · exact hr
  · split
    · simpa using h
    · simpa using h
    · exact hr

@[simp] theorem runLow_slotsFree (via : Port) (op : Nat) (p : List Byte) : (runLow via s op p).SlotsFree := by
  unfold runLow
  split <;> simp [h]

@[simp] theorem runMid_slotsFree (op : Nat) (p : List Byte) : (runMid s op p).SlotsFree := by
  unfold runMid
  split
  case h_19 =>
    obtain ⟨handled, follows⟩ := cmdNetConfig_slotsFree s h p
    exact ⟨handled, fun t free => follows _ (by simp [free])⟩
  all_goals simp [h]

@[simp] theorem runHigh_slotsFree (via : Port) (op : Nat) (p : List Byte) : (runHigh via s op p).SlotsFree := by
  unfold runHigh
  split <;> simp [h]

@[simp] theorem runOp_slotsFree (via : Port) (op : Nat) (p : List Byte) : (runOp via s op p).SlotsFree := by simp [runOp, h]

@[simp] theorem runCommand_slotsFree (via : Port) (op : Nat) (p : List Byte) : (runCommand via s op p).SlotsFree := by
  unfold runCommand
  split <;> simp [h]

@[simp] theorem State.runHeld_slots (c : Held) : (s.runHeld c).rcd.slots = [] :=
  State.calm_slots _ (State.finish_slots _ _ _ _ (runCommand_slotsFree _ h _ _ _))

@[simp] theorem State.drain_slots (k : Nat) : (s.drain k).rcd.slots = [] := by
  induction k generalizing s with
  | zero => exact h
  | succ k ih =>
    unfold State.drain
    split
    · exact h
    · split
      · exact ih _ (by simp [h])
      · exact h

@[simp] theorem State.settle_slots : s.settle.rcd.slots = [] := by simp [State.settle, h]

end

end Sys2Proof.Machine
end

section
/-! PROOFS. The recorder and the monitor (chapter 19). RECORDER_READ_COMPLETE asks class 5 for the record whatever the event says of a refusal, and where the memory
controller is off it is refused (R328): the slot keeps its capture then (R439). -/

namespace Sys2Proof.Machine

/-- R328, R439: with the memory controller off the record is refused, whatever the event says. -/
theorem State.recReadEnd_of_memoryOff (s : State) (k : Nat) (c : Capture) (reading : s.rcd.reading = some k) (held : s.rcd.slots = [(k, c)])
    (off : s.domOn 79 = false) :
    s.recReadEnd false = ({ s with rcd := { s.rcd with reading := none } } : State).complete 0x0902 0x21 5 [] := by
  have unserved : ∀ x : RecSt, ({ s with rcd := x } : State).domOn 79 = false := fun _ => off
  simp [State.recReadEnd, State.memReq, reading, held, unserved]

/-- A capture is taken by force and stored in slot 0; the host reads it, and before the record is placed it switches domain 79 off, the memory controller's.
The compiler has no tag for the later instructions, so this is not compiled. -/
noncomputable def readWithoutMemory : State :=
  State.reset.after
    [.recorderArm .spi 0 (zeros 32), .recorderForce .spi 1, .recorderPostFillDone [], .recorderRead .spi 2 0,
      .regWrite .spi 3 (BitVec.ofNat 32 (domBit 0x110 79).addr) [0x7FFF]]

theorem readWithoutMemory_reads :
    readWithoutMemory.rcd.slots.map Prod.fst = [0] ∧ readWithoutMemory.rcd.reading = some 0 ∧ readWithoutMemory.domOn 79 = false := by decide +kernel

theorem readWithoutMemory_holds : ∃ c, readWithoutMemory.rcd.slots = [(0, c)] := by
  obtain ⟨keys, -, -⟩ := readWithoutMemory_reads
  obtain ⟨⟨k, c⟩, slots, rfl⟩ := List.map_eq_singleton_iff.1 keys
  exact ⟨c, slots⟩

/-- Once the read has ended and all has settled, slot 0 still holds the capture. -/
theorem readWithoutMemory_keeps : (readWithoutMemory.recReadEnd false).settle.rcd.slots ≠ [] := by
  obtain ⟨-, reading, off⟩ := readWithoutMemory_reads
  obtain ⟨c, held⟩ := readWithoutMemory_holds
  rw [State.recReadEnd_of_memoryOff _ 0 c reading held off]
  exact fun empty => absurd (congrArg List.length empty) (by decide +kernel)

/-- Refutes O58: the clause that an unrefused RECORDER_READ_COMPLETE frees the slot leaves out the memory controller that is off, which refuses the record itself. In
`readWithoutMemory`, which commands reach from reset, the slot is held still; and no command that settling runs could have filled it again. -/
theorem not_diagnostics : ¬ Obligations.Diagnostics := by
  unfold Obligations.Diagnostics
  intro holds
  obtain ⟨-, -, -, -, -, -, -, -, -, reads, -⟩ := holds
  obtain ⟨-, reading, -⟩ := readWithoutMemory_reads
  obtain ⟨c, held⟩ := readWithoutMemory_holds
  obtain ⟨-, completes⟩ := reads 0 c
  obtain ⟨t, event, x, rfl, -, freed, -⟩ := completes readWithoutMemory ⟨reading, by simp [held]⟩
  have empty : (x.complete 0x0902 0 0 []).settle.rcd.slots = [] := State.settle_slots _ (by simp [freed, held])
  rw [Event, exec_recorderReadComplete] at event
  rw [← Host.Outcome.next.inj event] at empty
  exact readWithoutMemory_keeps empty

end Sys2Proof.Machine
end

section
/-! PROOFS. The packet of a command row (chapter 2): what steps 1 to 5 of Table 2-5 read of a packet is what it was made of. -/

namespace Sys2Proof.Machine

/-! ### The fields of a packet -/

theorem beAt_packetHeader_op (f t op seq len : Nat) (r : List Byte) : u16 (packetHeader f t op seq len ++ r) 4 = op % 65536 :=
  ofBe_beBytes2 op

theorem beAt_packetHeader_seq (f t op seq len : Nat) (r : List Byte) : u16 (packetHeader f t op seq len ++ r) 6 = seq % 65536 :=
  ofBe_beBytes2 seq

theorem beAt_packetHeader_len (f t op seq len : Nat) (r : List Byte) : u16 (packetHeader f t op seq len ++ r) 8 = len % 65536 :=
  ofBe_beBytes2 len

theorem u8_packetHeader_version (f t op seq len : Nat) (r : List Byte) : u8 (packetHeader f t op seq len ++ r) 1 = 1 := rfl

theorem u8_packetHeader_tag (f t op seq len : Nat) (r : List Byte) : u8 (packetHeader f t op seq len ++ r) 3 = t % 256 := by
  show ofBe [BitVec.ofNat 8 t] = _
  simp [ofBe]

@[simp] theorem length_packetHeader (f t op seq len : Nat) : (packetHeader f t op seq len).length = 12 := rfl

/-- HCHECK stands behind the bytes that it covers (R26). -/
theorem u16_append_hcheck (h r : List Byte) (len : h.length = 10) : u16 (h ++ beBytes 2 (hcheck h) ++ r) 10 = hcheck (h ++ beBytes 2 (hcheck h) ++ r) := by
  have covered : hcheck (h ++ beBytes 2 (hcheck h) ++ r) = hcheck h := by
    rw [hcheck, List.append_assoc, List.take_left' len, hcheck, List.take_of_length_le len.le]
  rw [covered, List.append_assoc, u16, beAt_append_right _ _ _ _ len.le, len, Nat.sub_self, beAt_beBytes, ofBe_beBytes2, Nat.mod_eq_of_lt (hcheck_lt h)]

/-- Step 1 of Table 2-5 passes for a header with FLAGS 0, whatever follows it. -/
theorem headerOk_packetHeader (t op seq len : Nat) (r : List Byte) : headerOk (packetHeader 0 t op seq len ++ r) = true := by
  have check : u16 (packetHeader 0 t op seq len ++ r) 10 = hcheck (packetHeader 0 t op seq len ++ r) :=
    u16_append_hcheck _ r (by simp)
  have first : u8 (packetHeader 0 t op seq len ++ r) 0 = 0xB7 := rfl
  have flags : u8 (packetHeader 0 t op seq len ++ r) 2 = 0 := rfl
  simp [headerOk, check, first, flags]

/-! ### A packet on the wire -/

/-- What the CRC of a packet covers. -/
def packetBody (f t op seq : Nat) (d : List Byte) : List Byte := packetHeader f t op seq d.length ++ d ++ zeros (pad4 d.length - d.length)

theorem packet_eq (f t op seq : Nat) (d : List Byte) :
    packet f t op seq d = packetBody f t op seq d ++ beBytes 4 (crc32c (packetBody f t op seq d)) := rfl

@[simp] theorem length_packetBody (f t op seq : Nat) (d : List Byte) : (packetBody f t op seq d).length = 12 + pad4 d.length := by
  simp [packetBody, pad4]; omega

@[simp] theorem length_packet (f t op seq : Nat) (d : List Byte) : (packet f t op seq d).length = 16 + pad4 d.length := by
  simp [packet_eq]; omega

/-- A packet begins with its header. -/
theorem packet_append (f t op seq : Nat) (d junk : List Byte) : ∃ r, packet f t op seq d ++ junk = packetHeader f t op seq d.length ++ r ∧ r.take d.length = d :=
  ⟨_, by rw [packet_eq, packetBody, List.append_assoc, List.append_assoc, List.append_assoc, List.append_assoc], List.take_left' rfl⟩

/-- Step 3 of Table 2-5 passes. -/
theorem crc_packet (f t op seq : Nat) (d junk : List Byte) :
    beAt (packet f t op seq d ++ junk) (12 + pad4 d.length) 4 = crc32c ((packet f t op seq d ++ junk).take (12 + pad4 d.length)) := by
  have body := length_packetBody f t op seq d
  rw [packet_eq, List.append_assoc, List.take_left' body, beAt_append_right _ _ _ _ body.le, body, Nat.sub_self, beAt_beBytes, ofBe_beBytes4,
    Nat.mod_eq_of_lt (crc32c_lt _)]

/-- A command packet of a row: opcode and LENGTH fit their fields, and LENGTH fits the transport (R25). -/
structure Pkt.Fits (p : Pkt) : Prop where
  op : p.op < 65536
  len : p.data.length ≤ payloadLimit p.via

theorem Pkt.Fits.of_row (c : Instr) (p : Pkt) (wf : c.wellFormed = true) (row : asPacket c = some p) : p.Fits := by
  cases c <;> try cases row
  all_goals
    rename Port => via
    have := payloadLimit_ge via
    simp [Instr.wellFormed, writesIn] at wf
    constructor <;> simp <;> omega

theorem u16_packet_len (p : Pkt) (fits : p.Fits) (junk : List Byte) : u16 (p.bytes ++ junk) 8 = p.data.length := by
  have limit := fits.len.trans (payloadLimit_le p.via)
  obtain ⟨r, bytes, -⟩ := packet_append 0 (portTag p.via) p.op p.seq.toNat p.data junk
  rw [Pkt.bytes, bytes, beAt_packetHeader_len, Nat.mod_eq_of_lt (by omega)]

theorem headerOk_packet (p : Pkt) (junk : List Byte) : headerOk (p.bytes ++ junk) = true := by
  obtain ⟨r, bytes, -⟩ := packet_append 0 (portTag p.via) p.op p.seq.toNat p.data junk
  rw [Pkt.bytes, bytes, headerOk_packetHeader]

theorem packetBytes_packet (p : Pkt) (fits : p.Fits) (junk : List Byte) : packetBytes (p.bytes ++ junk) = p.bytes.length := by
  rw [packetBytes, u16_packet_len p fits, Pkt.bytes, length_packet]

/-- Steps 3 to 5 of Table 2-5 pass, and step 6 finds what went into the packet. -/
theorem State.checkPacket_packet (s : State) (p : Pkt) (fits : p.Fits) (junk : List Byte) :
    s.checkPacket p.via (p.bytes ++ junk) = s.sequence p.via p.seq p.op p.data := by
  have crc := crc_packet 0 (portTag p.via) p.op p.seq.toNat p.data junk
  have size : packetBytes (p.bytes ++ junk) - 4 = 12 + pad4 p.data.length := by
    rw [packetBytes_packet p fits, Pkt.bytes, length_packet]; omega
  have len := u16_packet_len p fits junk
  have tag : portTag p.via % 256 = portTag p.via := by cases p.via <;> rfl
  obtain ⟨r, bytes, data⟩ := packet_append 0 (portTag p.via) p.op p.seq.toNat p.data junk
  rw [State.checkPacket, size, len, Pkt.bytes, if_neg (not_not_intro crc), bytes, u8_packetHeader_tag, tag, if_neg (not_not_intro rfl),
    u8_packetHeader_version, if_neg (not_not_intro rfl), beAt_packetHeader_op, beAt_packetHeader_seq, List.drop_left' (length_packetHeader ..), data,
    Nat.mod_eq_of_lt fits.op, Nat.mod_eq_of_lt p.seq.isLt, BitVec.ofNat_toNat, BitVec.setWidth_eq]

theorem State.packetAt_packet (s : State) (p : Pkt) (fits : p.Fits) (junk : List Byte) :
    s.packetAt p.via (p.bytes ++ junk) true = if (s.intake p.via).1 then (s.intake p.via).2.sequence p.via p.seq p.op p.data else (s.intake p.via).2 := by
  have limit : payloadLimit p.via = lengthLimit p.via := by cases p.via <;> rfl
  have short : ¬ lengthLimit p.via < u16 (p.bytes ++ junk) 8 := by
    rw [u16_packet_len p fits, ← limit]; exact fits.len.not_gt
  rw [State.packetAt, State.checkPacket_packet _ p fits]
  cases (s.intake p.via).1 <;> simp [short]

/-- A packet that its transport serves does what its row does. -/
theorem State.packetAt_settle (s : State) (p : Pkt) (fits : p.Fits) (junk : List Byte) (hears : s.hears p.via = true) :
    (s.packetAt p.via (p.bytes ++ junk) true).settle = s.packetIn p.via p.seq p.op p.data := by
  rw [State.packetAt_packet s p fits, State.packetIn, if_pos hears]
  exact apply_ite State.settle _ _ _

theorem State.sleeps_of_hears (s : State) (via : Port) (hears : s.hears via = true) : s.sleeps = false := by
  cases st : s.pw.st <;> simp [State.sleeps, State.hears, st] at hears ⊢

theorem State.spiWrite_packet (s : State) (p : Pkt) (fits : p.Fits) (junk : List Byte) (spi : p.via = .spi) (hears : s.hears .spi = true) :
    s.spiWrite (p.bytes ++ junk) = s.packetIn p.via p.seq p.op p.data := by
  have awake := s.sleeps_of_hears .spi hears
  have whole : ¬ (p.bytes ++ junk).length < packetBytes (p.bytes ++ junk) := by simp [packetBytes_packet p fits]
  have long : ¬ (p.bytes ++ junk).length < 12 := by simp [Pkt.bytes]; omega
  have served := s.packetAt_settle p fits junk (spi ▸ hears)
  rw [spi] at served
  rw [State.spiWrite, served, if_neg whole, if_neg long, spi]
  simp [awake, hears, headerOk_packet]

/-- RX_FRAMES is none of the registers that say whether a transport is served. -/
theorem State.hears_inc_rxFrames (s : State) (via : Port) : (s.inc F.ETH.RX_FRAMES).hears via = s.hears via := by
  have other (f : Fld) (ne : f.addr ≠ F.ETH.RX_FRAMES.addr) : (s.inc F.ETH.RX_FRAMES).get f = s.get f := s.get_set_addr _ f _ ne
  simp only [State.hears, State.ethUp, State.linkUp, State.domOn, State.flag, State.inc_pw, other (domBit 0x120 77) (by decide),
    other (domBit 0x120 78) (by decide), other F.ETH.ETH_STAT_LINK (by decide), other (F.OZ.LINK_STAT_STATE 0) (by decide)]

theorem State.udpIn_packet (s : State) (p : Pkt) (fits : p.Fits) (q : Peer) (udp : p.via = .udp q) (hears : s.hears (.udp q) = true) :
    s.udpIn q p.bytes = (s.inc F.ETH.RX_FRAMES).packetIn p.via p.seq p.op p.data := by
  have whole : packetBytes p.bytes = p.bytes.length := by simpa using packetBytes_packet p fits []
  have header : headerOk p.bytes = true := by simpa using headerOk_packet p []
  have served := (s.inc F.ETH.RX_FRAMES).packetAt_settle p fits [] (by rw [s.hears_inc_rxFrames, udp, hears])
  rw [List.append_nil, udp] at served
  rw [State.udpIn, udp, ← served]
  simp [hears, header, whole]

/-- Settles O5: the checks of steps 1 to 5 take a row's packet apart into what it was made of. -/
theorem packetIsCommand : Obligations.PacketIsCommand := by
  unfold Obligations.PacketIsCommand
  refine ⟨fun c p s junk wf row spi hears => ?_, fun c p q s wf row udp hears => ?_⟩
  · rw [exec_spiWriteFrame, exec_asPacket c p s row, s.spiWrite_packet p (.of_row c p wf row) junk spi hears]
  · rw [exec_udpCommandDatagram, exec_asPacket c p _ row, s.udpIn_packet p (.of_row c p wf row) q udp hears]

end Sys2Proof.Machine
end

section
/-! PROOFS. Raising an event (R423, R425, R429): what it counts, what it tells and to whom, and what it leaves unchanged. -/

namespace Sys2Proof.Machine

/-! ### What telling the subscribers and the monitor can change -/

/-- `t` differs from `s` in registers, in the sessions of the transports, in the monitor's lines and in outputs only. -/
def Telling (s t : State) : Prop :=
  t = { s with regs := t.regs, cmd := { s.cmd with spi := t.cmd.spi, oazil := t.cmd.oazil, udp := t.cmd.udp }, mon := t.mon, out := t.out }

theorem Telling.refl (s : State) : Telling s s := rfl

theorem Telling.trans {s t u : State} (first : Telling s t) (second : Telling t u) : Telling s u := by
  rw [Telling] at first second ⊢
  rw [second, first]

theorem Telling.set (s : State) (f : Fld) (x : Nat) : Telling s (s.set f x) := rfl

theorem Telling.inc (s : State) (f : Fld) : Telling s (s.inc f) := rfl

theorem Telling.setSession (s : State) (p : Port) (x : Session) : Telling s (s.setSession p x) := by cases p <;> rfl

theorem Telling.each {α : Type} (l : List α) (f : State → α → State) (step : ∀ s a, Telling s (f s a)) (s : State) : Telling s (s.each l f) := by
  induction l generalizing s with
  | nil => exact .refl s
  | cons a l ih => exact (step s a).trans (ih _)

theorem Telling.deliverEvent (s : State) (p : Port) (e : EvEnt) : Telling s (s.deliverEvent p e) := by
  unfold State.deliverEvent
  dsimp only
  split
  · split
    · exact .setSession _ _ _
    · split
      · exact .setSession _ _ _
      · exact (Telling.setSession s p _).trans (.inc _ _)
  · exact .refl s

theorem Telling.monSent (l : List (List Byte)) (s : State) : Telling s (s.monSent l) := by
  induction l generalizing s with
  | nil => rfl
  | cons x l ih =>
    unfold State.monSent
    dsimp only
    split
    · refine Telling.trans ?_ (ih _)
      rfl
    · rfl

theorem Telling.monPut (s : State) (l : List Byte) : Telling s (s.monPut l) := by
  refine (Telling.monSent s.mon.lines s).trans ?_
  unfold State.monPut
  dsimp only
  generalize s.monSent s.mon.lines = u
  generalize (if u.mon.lostRun = 0 then _ else _) ++ [l] = add
  split <;> rfl

theorem Telling.monEvent (s : State) (n i d : Nat) : Telling s (s.monEvent n i d) := by
  rw [State.monEvent]
  split
  · exact .monPut _ _
  · exact .refl s

section
variable {s t : State}

theorem Telling.time_eq (h : Telling s t) : t.time = s.time := by rw [h]
theorem Telling.fm_eq (h : Telling s t) : t.fm = s.fm := by rw [h]
theorem Telling.cmd_eq (h : Telling s t) : t.cmd = { s.cmd with spi := t.cmd.spi, oazil := t.cmd.oazil, udp := t.cmd.udp } := congrArg State.cmd h

/-! ### What answering leaves unchanged -/

theorem Answering.pw_eq (h : Answering s t) : t.pw = s.pw := by rw [h]
theorem Answering.scan_eq (h : Answering s t) : t.scan = s.scan := by rw [h]
theorem Answering.eng_eq (h : Answering s t) : t.eng = s.eng := by rw [h]
theorem Answering.flash_eq (h : Answering s t) : t.flash = s.flash := by rw [h]
theorem Answering.dram_eq (h : Answering s t) : t.dram = s.dram := by rw [h]
theorem Answering.time_eq (h : Answering s t) : t.time = s.time := by rw [h]
theorem Answering.sameMem (h : Answering s t) : SameMem s t := fun a => by rw [h.flash_eq, h.dram_eq]; exact ⟨rfl, rfl⟩
end

/-! ### Raising an event (R423, R425, R429) -/

/-- EV_RAW and EV_COUNT of event `n` take a raising. -/
def State.countEvent (s : State) (n : Nat) : State := (s.set ⟨0x10100 + 4 * (n / 32), n % 32, 1⟩ 1).inc (F.CMD.EV_COUNT n)

/-- Subscribers and monitor are told of a raising of event `n`. -/
def State.tellEvent (s : State) (n inst dat : Nat) : State :=
  let e : EvEnt := ⟨n, s.evClass n, 0, inst % 65536, dat % 65536, s.time.dev⟩
  ((s.countEvent n).each (s.countEvent n).ports (fun t p => t.deliverEvent p e)).monEvent n inst dat

/-- The fault that a raising of event `n` is, for the fault manager. -/
def State.faultOf (s : State) (n inst dat : Nat) : FaultRec := ⟨n, s.evClass n, inst % 65536, dat % 65536, s.time.dev⟩

/-- FM_ACTIVE of an event whose cause lasts. -/
def State.markActive (s : State) (n : Nat) : State := s.when (lastingEvents.contains n) (fun t => t.set (activeBit n) 1)

theorem Telling.countEvent (s : State) (n : Nat) : Telling s (s.countEvent n) := rfl

theorem Telling.tellEvent (s : State) (n inst dat : Nat) : Telling s (s.tellEvent n inst dat) :=
  ((Telling.countEvent s n).trans (.each _ _ (fun t p => .deliverEvent t p _) _)).trans (.monEvent _ n inst dat)

theorem Telling.markActive (s : State) (n : Nat) : Telling s (s.markActive n) := by
  rw [State.markActive]
  cases lastingEvents.contains n <;> rfl

/-- The fault manager gets one fault more. -/
def State.queueing (s : State) (f : FaultRec) : State := { s with fm := { s.fm with queue := queueFault f s.fm.queue } }

/-- Raising an event: it is counted and told, and with a class of LOG or above it is a fault. -/
theorem State.raise_eq (s : State) (n inst dat : Nat) : s.raise n inst dat =
    if 0 < s.evClass n then ((s.tellEvent n inst dat).markActive n).queueing (s.faultOf n inst dat) else s.tellEvent n inst dat := by
  have told : Telling s ((s.tellEvent n inst dat).markActive n) := (Telling.tellEvent s n inst dat).trans (.markActive _ n)
  have now := told.time_eq
  rw [State.faultOf, ← now]
  rfl

/-- Raising an event of class LOG or above, as far as it does not show in `Telling`. -/
theorem State.raise_cases (s : State) (n inst dat : Nat) :
    (s.evClass n = 0 ∧ Telling s (s.raise n inst dat)) ∨
      (0 < s.evClass n ∧ ∃ t, Telling s t ∧ s.raise n inst dat = t.queueing (s.faultOf n inst dat)) := by
  obtain none | some := Nat.eq_zero_or_pos (s.evClass n)
  · refine .inl ⟨none, ?_⟩
    rw [State.raise_eq, if_neg (by omega)]
    exact .tellEvent s n inst dat
  · refine .inr ⟨some, _, (Telling.tellEvent s n inst dat).trans (.markActive _ n), ?_⟩
    rw [State.raise_eq, if_pos some]

theorem mem_queueFault (f : FaultRec) (l : List FaultRec) : f ∈ queueFault f l := by
  induction l with
  | nil => simp [queueFault]
  | cons g l ih =>
    rw [queueFault]
    split
    · simp
    · simp [ih]

theorem State.raise_fm_of_none (s : State) (n inst dat : Nat) (none : s.evClass n = 0) : (s.raise n inst dat).fm = s.fm := by
  obtain ⟨-, told⟩ | ⟨some, -⟩ := s.raise_cases n inst dat
  · exact told.fm_eq
  · omega

theorem State.mem_raise_fm_queue (s : State) (n inst dat : Nat) (some : 0 < s.evClass n) :
    s.faultOf n inst dat ∈ (s.raise n inst dat).fm.queue := by
  obtain ⟨none, -⟩ | ⟨-, t, -, raised⟩ := s.raise_cases n inst dat
  · omega
  · rw [raised]; exact mem_queueFault _ _

/-- What a raising leaves of the command engine: all but the sessions. -/
theorem State.raise_cmd (s : State) (n inst dat : Nat) : (s.raise n inst dat).cmd =
    { s.cmd with spi := (s.raise n inst dat).cmd.spi, oazil := (s.raise n inst dat).cmd.oazil, udp := (s.raise n inst dat).cmd.udp } := by
  obtain ⟨-, told⟩ | ⟨-, t, told, raised⟩ := s.raise_cases n inst dat
  · exact told.cmd_eq
  · rw [raised]; exact told.cmd_eq

@[simp] theorem State.raise_outq (s : State) (n inst dat : Nat) : (s.raise n inst dat).cmd.outq = s.cmd.outq := by rw [State.raise_cmd]

@[simp] theorem State.raise_running (s : State) (n inst dat : Nat) : (s.raise n inst dat).cmd.running = s.cmd.running := by rw [State.raise_cmd]

/-! ### The registers of an event -/

/-- After EV_RAW and EV_COUNT have taken a raising, the rest of it writes EVT_DROP, EV_LINES_LOST and FM_ACTIVE at most. -/
theorem State.raise_rd_of_counted (s : State) (n inst dat a : Nat)
    (other : a ∉ [F.CMD.EVT_DROP.addr, F.MON.EV_LINES_LOST.addr, (activeBit n).addr]) : (s.raise n inst dat).rd a = (s.countEvent n).rd a := by
  simp only [List.mem_cons, List.not_mem_nil, or_false, not_or] at other
  obtain ⟨drop, lines, active⟩ := other
  have delivered (l : List Port) (e : EvEnt) (u : State) : (u.each l (fun s p => s.deliverEvent p e)).rd a = u.rd a := by
    induction l generalizing u with
    | nil => rfl
    | cons p l ih => exact (ih _).trans (u.deliverEvent_rd p e a drop)
  have told : (s.tellEvent n inst dat).rd a = (s.countEvent n).rd a := by
    rw [State.tellEvent, State.monEvent_rd _ _ _ _ _ lines, delivered]
  have marked : ((s.tellEvent n inst dat).markActive n).rd a = (s.tellEvent n inst dat).rd a := by
    rw [State.markActive, State.when]
    split
    · exact State.rd_set_ne _ _ _ _ active
    · rfl
  rw [State.raise_eq]
  split
  · exact marked.trans told
  · exact told

/-- R423: EV_RAW of a raised event is set. -/
theorem State.raise_raw (s : State) (n inst dat : Nat) (h : n < 256) : (s.raise n inst dat).flag ⟨0x10100 + 4 * (n / 32), n % 32, 1⟩ = true := by
  have same : (s.raise n inst dat).rd (0x10100 + 4 * (n / 32)) = (s.countEvent n).rd (0x10100 + 4 * (n / 32)) := by
    apply s.raise_rd_of_counted
    simp [F.CMD.EVT_DROP, F.MON.EV_LINES_LOST, activeBit]; omega
  have counted : (s.countEvent n).rd (0x10100 + 4 * (n / 32)) = (s.set ⟨0x10100 + 4 * (n / 32), n % 32, 1⟩ 1).rd (0x10100 + 4 * (n / 32)) :=
    State.rd_inc_ne _ _ _ (by simp [F.CMD.EV_COUNT]; omega)
  have set := s.get_set_same ⟨0x10100 + 4 * (n / 32), n % 32, 1⟩ 1 (by simp [Fld.fits]; omega)
  rw [State.get] at set
  rw [State.flag, State.get, same, counted, set]
  rfl

/-- R423: EV_COUNT of a raised event counts, and saturates. -/
theorem State.raise_count (s : State) (n inst dat : Nat) (h : n < 256) :
    (s.raise n inst dat).get (F.CMD.EV_COUNT n) = min (s.get (F.CMD.EV_COUNT n) + 1) (2 ^ (F.CMD.EV_COUNT n).wd - 1) := by
  have same : (s.raise n inst dat).rd (F.CMD.EV_COUNT n).addr = (s.countEvent n).rd (F.CMD.EV_COUNT n).addr := by
    apply s.raise_rd_of_counted
    simp [F.CMD.EVT_DROP, F.MON.EV_LINES_LOST, F.CMD.EV_COUNT, activeBit]; omega
  have counted := (s.set ⟨0x10100 + 4 * (n / 32), n % 32, 1⟩ 1).get_add_same (F.CMD.EV_COUNT n) 1 rfl
  rw [s.get_set_addr _ _ _ (by simp [F.CMD.EV_COUNT]; omega)] at counted
  rw [State.get, same]
  exact counted

/-! ### EVENT_SUBSCRIBE (R425) -/

/-- A number from its bytes, least significant first. -/
theorem foldl_bytes_eq_mod (x : Nat) (byte : Nat → Nat) (n : Nat) (is : ∀ i < n, byte i = x / 256 ^ i % 256) :
    (List.range n).foldl (fun v i => v + byte i * 256 ^ i) 0 = x % 256 ^ n := by
  induction n with
  | zero => simp [Nat.mod_one]
  | succ n ih =>
    rw [List.range_succ, List.foldl_concat, ih (fun i h => is i (by omega)), is n (by omega), Nat.pow_succ, Nat.mod_mul (x := x), Nat.mul_comm]

theorem u8_maskBytes (mask : BitVec 256) (i : Nat) (h : i < 32) : u8 (maskBytes mask) i = mask.toNat / 256 ^ i % 256 := by
  have byte : ((maskBytes mask).drop i).take 1 = [BitVec.ofNat 8 (mask.toNat / 256 ^ i)] := by
    rw [List.take_one_drop_eq_of_lt_length (by simpa using h)]
    simp [maskBytes]
  rw [u8, beAt, byte]
  simp [ofBe]

/-- The mask comes out of its payload as it went in. -/
theorem foldl_maskBytes (mask : BitVec 256) : (List.range 32).foldl (fun v i => v + u8 (maskBytes mask) i * 256 ^ i) 0 = mask.toNat := by
  rw [foldl_bytes_eq_mod mask.toNat _ 32 (u8_maskBytes mask)]
  exact Nat.mod_eq_of_lt mask.isLt

/-- Settles O13: a raising counts before it is told, and what tells it writes neither EV_RAW nor EV_COUNT. -/
theorem eventRaising : Obligations.EventRaising := by
  unfold Obligations.EventRaising
  refine ⟨fun s n inst dat h => ?_, fun c s p u mask row runs => ⟨_, ?_, rfl⟩⟩
  · have rest := Answering.raise s n inst dat
    exact ⟨s.raise_raw n inst dat h, s.raise_count n inst dat h, s.mem_raise_fm_queue n inst dat, s.raise_fm_of_none n inst dat,
      rest.pw_eq, rest.scan_eq, rest.eng_eq, rest.sameMem⟩
  · obtain ⟨via, seq, op, data⟩ := p
    have packet := runs.1
    rw [row] at packet
    cases packet
    refine runs.done ?_
    show cmdEventSubscribe via u (maskBytes mask) = _
    rw [cmdEventSubscribe, foldl_maskBytes, BitVec.ofNat_toNat, BitVec.setWidth_eq]
    rfl

end Sys2Proof.Machine
end

section
/-! PROOFS. How the statements' forms are shown: a command from its handler, an event from its effect; and what a handler reads of a payload. -/

namespace Sys2Proof.Machine

/-! ### A command from its handler -/

section
variable {c : Instr} {via : Port} {seq : BitVec 16} {op : Nat} {d : List Byte} {h : State → Prop} {e : State → State → Prop}

/-- The state that a row's handler finds, and the row's packet. -/
theorem Runs.exec_row {s u : State} {p : Pkt} (row : asPacket c = some ⟨via, seq, op, d⟩) (runs : Runs c s p u) :
    p = ⟨via, seq, op, d⟩ ∧ exec c s = .next (State.finish (runOp via u op d) via op seq).calm := by
  have same : p = ⟨via, seq, op, d⟩ := Option.some.inj (runs.1.symm.trans row)
  exact ⟨same, by rw [runs.exec_eq, same]⟩

theorem Does.of_handler {data : State → List Byte} (row : asPacket c = some ⟨via, seq, op, d⟩)
    (handler : ∀ u, h u → ∃ t, runOp via u op d = t.done (data u) ∧ e u t) : Does c h data e := by
  intro s p u runs hu
  obtain ⟨t, run, effect⟩ := handler u hu
  obtain ⟨rfl, exec⟩ := runs.exec_row row
  exact ⟨t, by rw [Done, exec, run]; rfl, effect⟩

/-- A handler that only answers. -/
theorem Does.of_answer {data : State → List Byte} (row : asPacket c = some ⟨via, seq, op, d⟩)
    (handler : ∀ u, h u → runOp via u op d = u.done (data u)) : Does c h data Nothing :=
  .of_handler row fun u hu => ⟨u, handler u hu, rfl⟩

theorem Starts.of_handler {tag : Nat} (row : asPacket c = some ⟨via, seq, op, d⟩)
    (handler : ∀ u, h u → ∃ t, runOp via u op d = t.reply (.accepted tag) ∧ e u t) : Starts c h tag e := by
  intro s p u runs hu
  obtain ⟨t, run, effect⟩ := handler u hu
  obtain ⟨rfl, exec⟩ := runs.exec_row row
  exact ⟨t, by rw [Begun, exec, run]; rfl, effect⟩

theorem TurnsAway.of_handler {status : Nat} {detail : State → Nat} (row : asPacket c = some ⟨via, seq, op, d⟩)
    (handler : ∀ u, h u → runOp via u op d = u.reply (.final status (detail u) [])) : TurnsAway c h status detail := by
  intro s p u runs hu
  obtain ⟨rfl, exec⟩ := runs.exec_row row
  rw [Refused, exec, handler u hu]
  rfl

/-- An event from its effect. -/
theorem Happens.of_effect {f : State → State} (row : ∀ s, exec c s = .next (State.settle (f s))) (effect : ∀ s, h s → e s (f s)) : Happens c h e :=
  fun s hs => ⟨f s, row s, effect s hs⟩

end

/-! ### The checks of a handler (R41) -/

theorem State.guarded_nil (s : State) (go : Reply) : s.guarded [] go = go := rfl

theorem State.guarded_cons (s : State) (c : Check) (cs : List Check) (go : Reply) :
    s.guarded (c :: cs) go = if c.1 then s.reply (.final c.2.1 c.2.2 []) else s.guarded cs go := by
  rw [State.guarded, List.find?_cons]
  cases c.1 <;> rfl

/-- Where no check fails, the handler goes on. -/
theorem State.guarded_pass (s : State) (cs : List Check) (go : Reply) (pass : ∀ c ∈ cs, c.1 = false) : s.guarded cs go = go := by
  have none : cs.find? (fun c => c.1) = none := List.find?_eq_none.2 fun c hc => by simp [pass c hc]
  rw [State.guarded, none]

/-! ### The fields of a payload -/

@[simp] theorem ofBe_beBytes_two (x : BitVec 16) : ofBe (beBytes 2 x.toNat) = x.toNat := (ofBe_beBytes2 _).trans (Nat.mod_eq_of_lt x.isLt)

@[simp] theorem ofBe_beBytes_four (x : BitVec 32) : ofBe (beBytes 4 x.toNat) = x.toNat := (ofBe_beBytes4 _).trans (Nat.mod_eq_of_lt x.isLt)

@[simp] theorem ofBe_beBytes_eight (x : BitVec 64) : ofBe (beBytes 8 x.toNat) = x.toNat := (ofBe_beBytes 8 _).trans (Nat.mod_eq_of_lt x.isLt)

@[simp] theorem ofBe_byte (x : Byte) : ofBe [x] = x.toNat := by simp [ofBe]

theorem ofBe_zeros (n : Nat) : ofBe (zeros n) = 0 := by
  induction n with
  | zero => rfl
  | succ n ih => rw [zeros, List.replicate_succ, ofBe_cons, ← zeros, ih]; simp

/-- Bytes that R48 wants 0. -/
theorem notZero_append_zeros (l : List Byte) (i n : Nat) (len : l.length = i) : notZero (l ++ zeros n) i n = false := by
  rw [notZero, beAt_append_right _ _ _ _ len.le, len, Nat.sub_self, beAt, List.drop_zero, List.take_of_length_le (by simp), ofBe_zeros]
  rfl

/-- Bytes that hold a number modulo their range. -/
theorem beBytes_mod (n x : Nat) : beBytes n (x % 256 ^ n) = beBytes n x := by
  have bytes : ∀ k ≤ n, beBytes k (x % 256 ^ n) = beBytes k x := by
    intro k
    induction k with
    | zero => exact fun _ => rfl
    | succ k ih =>
      intro hk
      rw [beBytes, beBytes, ih (by omega)]
      congr 1
      apply BitVec.eq_of_toNat_eq
      rw [BitVec.toNat_ofNat, BitVec.toNat_ofNat, show (2 : Nat) ^ 8 = 256 from rfl, ← Nat.mod_mul_right_div_self (x % _), ← Nat.mod_mul_right_div_self x,
        ← Nat.pow_succ, Nat.mod_mod_of_dvd _ (Nat.pow_dvd_pow 256 hk)]
  exact bytes n le_rfl

theorem wordBytes_map {ι : Type} (w : ι → Word) (l : List ι) : wordBytes (l.map w) = l.flatMap (fun i => beBytes 4 (w i).toNat) := by
  rw [wordBytes, List.flatMap_map]

/-- Fields of one width, end to end. -/
theorem length_flatMap_const {α β : Type} (l : List α) (f : α → List β) (k : Nat) (each : ∀ a ∈ l, (f a).length = k) :
    (l.flatMap f).length = k * l.length := by
  rw [List.length_flatMap, List.map_congr_left each, List.map_const', List.sum_replicate, smul_eq_mul, Nat.mul_comm]

end Sys2Proof.Machine
end

section
/-! PROOFS. Steps, taken commands, replies, and the commands that only answer (chapter 2). -/

namespace Sys2Proof.Machine

/-- Settles O1. -/
theorem stepRunsFront : Obligations.StepRunsFront := by
  unfold Obligations.StepRunsFront
  intro s c rest front
  rw [step, front]

/-- Settles O2: the tick of an empty queue. -/
theorem stepTicksTime : Obligations.StepTicksTime := by
  unfold Obligations.StepTicksTime
  intro s empty
  exact ⟨s.timeTick, by rw [step, empty], rfl, rfl⟩

/-- Settles O3, by evaluation of the state after reset. -/
theorem resetValues : Obligations.ResetValues := by
  unfold Obligations.ResetValues
  decide +kernel

/-- Settles O4: what a taken packet runs is its handler. -/
theorem commandTaken : Obligations.CommandTaken := by
  unfold Obligations.CommandTaken
  exact fun c s p u runs => runs.exec_eq

/-! ### Replies and completions -/

/-- An answer over SPI for which no resend waits. -/
theorem State.sendReply_spi (s : State) (op : Nat) (seq : BitVec 16) (a : Answer) (kept : AnsState) (none : s.cmd.resend = []) :
    s.sendReply .spi op seq a kept = { s with cmd := { s.cmd with
      spi := { s.cmd.spi with cache := setCached seq kept s.cmd.spi.cache }, outq := s.cmd.outq ++ [packet 0x80 1 op seq.toNat (answerBytes a)] } } := by
  have unawaited : ¬ s.cmd.resend.contains (.spi, seq) = true := by simp [none]
  exact if_neg unawaited

/-- The end of a command that came over SPI, up to the event that tells of it. -/
theorem State.complete_spi (s : State) (op st dt : Nat) (data : List Byte) (r : Running)
    (runs : s.cmd.running.find? (fun r => r.op == op) = some r) (spi : r.port = .spi) :
    s.complete op st dt data = State.raise { s with cmd := { s.cmd with
      running := s.cmd.running.filter (fun q => q.op != op), spi := { s.cmd.spi with cache := setCached r.seq (.final (s.answer st dt data)) s.cmd.spi.cache },
      outq := s.cmd.outq ++ [packet 0x40 1 op r.seq.toNat (answerBytes (s.answer st dt data))] } } 8 op r.seq.toNat := by
  rw [State.complete, runs]
  simp only [spi, State.transportUp, State.when, if_true]
  rfl

/-- Settles O7: both packets at the end of the queue. -/
theorem replyForm : Obligations.ReplyForm := by
  unfold Obligations.ReplyForm
  refine ⟨fun s op seq a none => ⟨_, s.sendReply_spi op seq a (.final a) none, rfl⟩, fun s op st dt data r runs spi => ?_⟩
  rw [s.complete_spi op st dt data r runs spi]
  refine ⟨?_, ?_, State.raise_raw _ 8 op _ (by omega)⟩
  · rw [State.raise_outq]
    simp
  · rw [State.isRunning, State.raise_running]
    simp

/-! ### The status set (R48, R449) -/

theorem State.viewBytes_eq (s : State) (a n : Nat) : s.viewBytes a n = (List.range n).flatMap (fun i => beBytes 4 (s.view (a + 4 * i))) := by
  rw [State.viewBytes, wordAddrs, List.flatMap_map]

theorem cmdCmdStatus_final (via : Port) (s : State) (target : BitVec 16) (e : CacheEnt) (a : Answer)
    (found : (s.session via).cache.find? (fun x => x.seq.toNat == target.toNat) = some e) (final : e.ans = .final a) :
    cmdCmdStatus via s (beBytes 2 target.toNat ++ zeros 2) = s.done ([2, a.status] ++ beBytes 2 e.op) := by
  have field : u16 (beBytes 2 target.toNat ++ zeros 2) 0 = target.toNat := ofBe_beBytes_two target
  have pad : notZero (beBytes 2 target.toNat ++ zeros 2) 2 2 = false := notZero_append_zeros _ 2 2 rfl
  simp only [cmdCmdStatus, pad, badParam, State.guarded_cons, State.guarded_nil, field, found, final, Bool.false_eq_true, if_false]

theorem cmdFaultLogRead_inRange (s : State) (first count : BitVec 16) (least : 1 ≤ count.toNat) (most : count.toNat ≤ 32) :
    cmdFaultLogRead s (beBytes 2 first.toNat ++ beBytes 2 count.toNat) =
      s.done ((List.range count.toNat).flatMap (fun i => s.logEntry (s.logIndex first.toNat + i))) := by
  have from_ : u16 (beBytes 2 first.toNat ++ beBytes 2 count.toNat) 0 = first.toNat := ofBe_beBytes_two first
  have many : u16 (beBytes 2 first.toNat ++ beBytes 2 count.toNat) 2 = count.toNat := ofBe_beBytes_two count
  have inRange : ¬ (count.toNat = 0 ∨ 32 < count.toNat) := by omega
  simp [cmdFaultLogRead, from_, many, inRange, badParam, State.guarded_cons, State.guarded_nil]

theorem length_safetyBlock (s : State) : s.safetyBlock.length = 32 := by simp [State.safetyBlock]

theorem length_logEntry (s : State) (i : Nat) : (s.logEntry i).length = 16 := by
  rw [State.logEntry]
  split <;> simp

/-- Settles O8: each handler of the status set, on the payload of its row. -/
theorem statusSetAnswers : Obligations.StatusSet := by
  unfold Obligations.StatusSet
  refine ⟨fun via seq => ?ping, fun via seq => ?identify, fun via seq => ?status, fun via seq => ?reset, fun via seq target e a => ?cmdStatus, fun via seq => ?safety,
    length_safetyBlock, fun via seq first count least most => ?log, length_logEntry⟩
  case ping => exact .of_answer rfl fun u _ => rfl
  case identify => exact .of_answer rfl fun u _ => congrArg u.done (by simp [State.viewBytes_eq])
  case status => exact .of_answer rfl fun u _ => congrArg u.done (by simp [State.viewBytes_eq, List.range_succ, zeros])
  case reset => exact .of_answer rfl fun u _ => rfl
  case cmdStatus => exact .of_answer rfl fun u hu => cmdCmdStatus_final via u target e a hu.1 hu.2
  case safety => exact .of_answer rfl fun u _ => rfl
  case log => exact .of_answer rfl fun u _ => cmdFaultLogRead_inRange u first count least most

end Sys2Proof.Machine
end

section
/-! PROOFS. The commands that read a block, and REG_RMW (chapters 2 and 20). -/

namespace Sys2Proof.Machine

/-! ### Fields of a payload, by their place -/

@[simp] theorem u8_cons_zero (b : Byte) (l : List Byte) : u8 (b :: l) 0 = b.toNat := ofBe_byte b

@[simp] theorem u16_beBytes_append (x : BitVec 16) (l : List Byte) : u16 (beBytes 2 x.toNat ++ l) 0 = x.toNat := ofBe_beBytes_two x

@[simp] theorem u32_beBytes_append (x : BitVec 32) (l : List Byte) : u32 (beBytes 4 x.toNat ++ l) 0 = x.toNat := ofBe_beBytes_four x

@[simp] theorem notZero_cons_zeros (b : Byte) (n : Nat) : notZero (b :: zeros n) 1 n = false := notZero_append_zeros [b] 1 n rfl

@[simp] theorem notZero_beBytes_zeros (k x n : Nat) : notZero (beBytes k x ++ zeros n) k n = false := notZero_append_zeros _ k n (by simp)

/-! ### Lengths of the blocks -/

theorem length_linkBlock (s : State) (n : Nat) : (s.linkBlock n).length = 16 := by simp [State.linkBlock]

theorem length_thermalBlock (s : State) : s.thermalBlock.length = 48 := by
  rw [State.thermalBlock]
  cases s.th.mean <;> simp [beInt]

@[simp] theorem length_imageRead (s : State) (slot n : Nat) : (s.imageRead slot 0 n).length = n := by
  rw [State.imageRead]
  split
  · rw [State.flashRead, spGetList_length]
  · simp; omega

theorem length_slotEntry (s : State) (slot : Nat) : (s.slotEntry slot).length = 24 := by
  rw [State.slotEntry, List.length_append]
  split <;> simp

/-! ### The handlers, where their domains are on and their operands in range -/

section
variable (u : State)

theorem cmdProfileRead_inRange (profile : Byte) (known : profile.toNat ≤ 3 ∨ profile = 0xFF) :
    cmdProfileRead u ([profile] ++ zeros 3) = u.done (u.profBlock (if profile = 0xFF then u.scan.named else profile.toNat)) := by
  have all : profile = 0xFF ↔ profile.toNat = 0xFF := (BitVec.toNat_inj (y := 0xFF#8)).symm
  have inRange : ¬ (3 < profile.toNat ∧ ¬ profile.toNat = 0xFF) := by rw [all] at known; omega
  simp only [all]
  simp [cmdProfileRead, badParam, State.guarded_cons, State.guarded_nil, inRange]

theorem cmdLimiterRead_on (on : u.domOn 68 = true) : cmdLimiterRead u = u.done ((List.range 16).flatMap (fun i => beBytes 4 (u.rd (0x24600 + 4 * i)).toNat)) := by
  simp [cmdLimiterRead, State.needDom, State.badState, on, State.guarded_cons, State.guarded_nil, wordBytes_map]

theorem cmdLoopRead_on (on : u.domOn 67 = true) (loop : Byte) (known : loop.toNat ≤ 7) : cmdLoopRead u ([loop] ++ zeros 3) = u.done
    (beBytes 4 (u.mode loop.toNat * 2 ^ 24 + bitsOf (u.rd (0x3001C + 0x400 * loop.toNat)).toNat 0 8 * 2 ^ 16 + bitsOf (u.get (F.LOOP.LOOP_RES_ST loop.toNat)) 0 16) ++
      (List.range 7).flatMap (fun i => beBytes 4 (u.rd (0x30024 + 0x400 * loop.toNat + 4 * i)).toNat)) := by
  simp [cmdLoopRead, State.needDom, State.badState, badParam, on, known.not_gt, State.guarded_cons, State.guarded_nil, wordBytes_map, F.LOOP.LOOP_STAT_SETTLED]

theorem cmdLinkStatus_on (on : u.domOn 77 = true) (port : Byte) (known : port.toNat ≤ 2) :
    cmdLinkStatus u ([port] ++ zeros 3) = u.done (u.linkBlock port.toNat) := by
  simp [cmdLinkStatus, State.needDom, State.badState, badParam, on, known.not_gt, State.guarded_cons, State.guarded_nil]

theorem cmdTimeRead_on (on : u.domOn 78 = true) : cmdTimeRead u = u.done
    (beBytes 8 u.time.dev.toNat ++ beBytes 4 (u.tb.st + 16 * u.get F.TB.TB_CTRL_MODE + 64 * u.get F.TB.TB_STAT_AS_CAPABLE + 128 * u.get F.TB.TB_STAT_GM_PRESENT) ++
      beBytes 4 (if u.get F.TB.TB_CTRL_MODE = 1 ∧ u.tb.st ≠ 0 then u.get F.TB.OFFSET else 0)) := by
  simp [cmdTimeRead, State.needDom, State.badState, on, State.guarded_cons, State.guarded_nil]

theorem cmdCalRecordRead_inRange (record : BitVec 16) (known : record.toNat ≤ 255) : cmdCalRecordRead u (beBytes 2 record.toNat ++ zeros 2) =
    u.done (u.flashRead (0x00F00000 + 0x10000 * u.cal.copy + 256 * record.toNat) 256) := by
  simp [cmdCalRecordRead, badParam, known.not_gt, State.guarded_cons, State.guarded_nil, State.calBytes, calAddr]

theorem cmdClassCountersRead_on (on : u.domOn 79 = true) : cmdClassCountersRead u =
    u.done ((List.range 18).flatMap (fun i => beBytes 4 (u.rd ((F.MEM.SERVED 0).addr + 4 * i)).toNat)) := by
  simp [cmdClassCountersRead, State.needDom, State.badState, on, State.guarded_cons, State.guarded_nil, wordBytes_map]

/-- R71: what FLASH_READ may read lies in the flash and outside the configuration of Region S. -/
theorem cmdFlashRead_inRange (addr : BitVec 32) (n : BitVec 16) (least : 1 ≤ n.toNat) (most : n.toNat ≤ 1024) (inside : addr.toNat + n.toNat ≤ 0x1000000)
    (open_ : addr.toNat + n.toNat ≤ 0xF20000 ∨ 0xF40000 ≤ addr.toNat) :
    cmdFlashRead u (beBytes 4 addr.toNat ++ beBytes 2 n.toNat ++ zeros 2) = u.done (u.flashRead addr.toNat n.toNat) := by
  have at_ : u32 (beBytes 4 addr.toNat ++ beBytes 2 n.toNat ++ zeros 2) 0 = addr.toNat := ofBe_beBytes_four addr
  have many : u16 (beBytes 4 addr.toNat ++ beBytes 2 n.toNat ++ zeros 2) 4 = n.toNat := ofBe_beBytes_two n
  have pad : notZero (beBytes 4 addr.toNat ++ beBytes 2 n.toNat ++ zeros 2) 6 2 = false := notZero_append_zeros _ 6 2 rfl
  have unlocked : ¬ (addr.toNat < 0xF40000 ∧ 0xF20000 < addr.toNat + n.toNat) := by omega
  have counted : ¬ (n.toNat = 0 ∨ 1024 < n.toNat) := by omega
  simp only [cmdFlashRead, at_, many, pad, badParam, State.guarded_cons, State.guarded_nil, unlocked, counted, inside.not_gt, decide_false, Bool.or_false,
    Bool.false_eq_true, if_false]

end

/-- Settles O9: each handler that reads a block, on the payload of its row. -/
theorem blockReads : Obligations.BlockReads := by
  unfold Obligations.BlockReads
  refine ⟨fun via seq profile known => ?profile, fun via seq => ?limiter, fun via seq loop known => ?loop, fun via seq port known => ?link, length_linkBlock,
    fun via seq => ?time, fun via seq => ?thermal, length_thermalBlock, fun via seq record known => ?record, fun via seq => ?classes,
    fun via seq addr n least most inside open_ => ?flash, fun via seq => ?firmware, length_slotEntry⟩
  case profile => exact .of_answer rfl fun u _ => cmdProfileRead_inRange u profile known
  case limiter => exact .of_answer rfl fun u on => cmdLimiterRead_on u on
  case loop => exact .of_answer rfl fun u on => cmdLoopRead_on u on loop known
  case link => exact .of_answer rfl fun u on => cmdLinkStatus_on u on port known
  case time => exact .of_answer rfl fun u on => cmdTimeRead_on u on
  case thermal => exact .of_answer rfl fun u _ => rfl
  case record => exact .of_answer rfl fun u _ => cmdCalRecordRead_inRange u record known
  case classes => exact .of_answer rfl fun u on => cmdClassCountersRead_on u on
  case flash => exact .of_answer rfl fun u _ => cmdFlashRead_inRange u addr n least most inside open_
  case firmware => exact .of_answer rfl fun u _ => rfl

/-! ### REG_RMW (R54) -/

theorem rmwWord_of_no_clears (fs : List RegFld) (old mask value : Nat) (none : clearBits fs = 0) (word : old < 2 ^ 32) :
    rmwWord fs old mask value = (old &&& (2 ^ 32 - 1 - mask)) ||| (value &&& mask) := by
  have all : (old &&& (2 ^ 32 - 1 - mask)) &&& (2 ^ 32 - 1) = old &&& (2 ^ 32 - 1 - mask) :=
    Nat.and_two_pow_sub_one_of_lt_two_pow (Nat.and_le_left.trans_lt word)
  rw [rmwWord, none, Nat.sub_zero, all]

/-- A W1C bit outside the mask is written 0. -/
theorem rmwWord_clears (fs : List RegFld) (old mask value i : Nat) (word : clearBits fs < 2 ^ 32) (clears : (clearBits fs).testBit i = true)
    (outside : mask.testBit i = false) : (rmwWord fs old mask value).testBit i = false := by
  have off : (2 ^ 32 - 1 - clearBits fs).testBit i = false := by
    rw [show 2 ^ 32 - 1 - clearBits fs = 2 ^ 32 - (clearBits fs + 1) by omega, Nat.testBit_two_pow_sub_succ word, clears]
    simp
  simp only [rmwWord, Nat.testBit_or, Nat.testBit_and, off, outside, Bool.and_false, Bool.or_self]

theorem findBlk_isSome_of_oneBlock (a n : Nat) (one : oneBlock a n = true) : (findBlk a).isNone = false := by
  rw [oneBlock] at one
  cases found : findBlk a <;> simp [found] at one ⊢

theorem cmdRegRmw_inBlock (u : State) (a mask value : BitVec 32) (aligned : a.toNat % 4 = 0) (one : oneBlock a.toNat 1 = true) (unlocked : lockedWord a.toNat = false)
    (on : u.touchesOff a.toNat 1 = false)
    (taken : u.writeRefused a.toNat [BitVec.ofNat 32 (rmwWord (fieldsAt a.toNat) (u.view a.toNat) mask.toNat value.toNat)] = false) :
    cmdRegRmw u (beBytes 4 a.toNat ++ beBytes 4 mask.toNat ++ beBytes 4 value.toNat) =
      ((u.afterView a.toNat).hostWrites a.toNat [BitVec.ofNat 32 (rmwWord (fieldsAt a.toNat) (u.view a.toNat) mask.toNat value.toNat)]).done
        (beBytes 4 (u.view a.toNat) ++ beBytes 4 (rmwWord (fieldsAt a.toNat) (u.view a.toNat) mask.toNat value.toNat)) := by
  have at_ : u32 (beBytes 4 a.toNat ++ beBytes 4 mask.toNat ++ beBytes 4 value.toNat) 0 = a.toNat := ofBe_beBytes_four a
  have mask_ : u32 (beBytes 4 a.toNat ++ beBytes 4 mask.toNat ++ beBytes 4 value.toNat) 4 = mask.toNat := ofBe_beBytes_four mask
  have value_ : u32 (beBytes 4 a.toNat ++ beBytes 4 mask.toNat ++ beBytes 4 value.toNat) 8 = value.toNat := ofBe_beBytes_four value
  have block := findBlk_isSome_of_oneBlock a.toNat 1 one
  have bytes (x : Nat) : beBytes 4 (BitVec.ofNat 32 x).toNat = beBytes 4 x := by rw [BitVec.toNat_ofNat]; exact beBytes_mod 4 x
  simp only [cmdRegRmw, at_, mask_, value_, bytes]
  refine u.guarded_pass _ _ ?_
  simp [State.writeChecks, rangeChecks, badParam, State.badState, on, taken, aligned, block, one, wordAddrs, unlocked]

/-- Settles O12: the word that REG_RMW makes, and its bits. -/
theorem registerRmw : Obligations.RegisterRmw := by
  unfold Obligations.RegisterRmw
  exact ⟨fun via seq a mask value aligned one unlocked => .of_handler rfl fun u hu =>
    ⟨_, cmdRegRmw_inBlock u a mask value aligned one unlocked hu.1 hu.2, rfl⟩, rmwWord_of_no_clears,
    fun fs old mask value i word _ clears outside => rmwWord_clears fs old mask value i word clears outside⟩

end Sys2Proof.Machine
end

section
/-! PROOFS. Event packets (R424 to R426), SPI frames (R34, R35) and steps 1 to 5 of the packet checks (R41). -/

namespace Sys2Proof.Machine

/-! ### Event packets -/

theorem length_eventEntry (e : EvEnt) : (eventEntry e).length = 16 := by simp [eventEntry]

/-- The payload of Table 19-3: the number of entries, the number lost, the entries. -/
def eventPayload (x : Session) : List Byte :=
  beBytes 2 (x.evs.take 32).length ++ beBytes 2 x.lost ++ zeros 4 ++ (x.evs.take 32).flatMap eventEntry

theorem length_eventPacket (x : Session) (tag : Nat) :
    (packet 0x20 tag 0 x.eseq.toNat (eventPayload x)).length = 24 + 16 * (x.evs.take 32).length := by
  have entries := length_flatMap_const (x.evs.take 32) eventEntry 16 fun e _ => length_eventEntry e
  have payload : (eventPayload x).length = 8 + 16 * (x.evs.take 32).length := by
    rw [eventPayload, List.length_append, entries]
    simp only [List.length_append, beBytes_length, zeros_length]
  rw [length_packet, payload, pad4]
  omega

/-- A session whose oldest entries have left. -/
def Session.told (x : Session) : Session := { x with evs := x.evs.drop 32, lost := 0, eseq := x.eseq + 1 }

/-- A session whose oldest entries found no room. -/
def Session.untold (x : Session) : Session :=
  { x with evs := x.evs.drop 32, lost := min (x.lost + (x.evs.take 32).length) 65535 }

/-- The event packet of a session. -/
def eventPacketOf (via : Port) (x : Session) : List Byte := packet 0x20 (portTag via) 0 x.eseq.toNat (eventPayload x)

theorem State.eventPacket_none (s : State) (via : Port) (none : (s.session via).evs.isEmpty = true) : s.eventPacket via = s := by
  have empty : ((s.session via).evs.take 32).isEmpty = true := by simpa using none
  exact if_pos empty

theorem State.eventPacket_spi (s : State) (waits : s.cmd.spi.evs.isEmpty = false) : s.eventPacket .spi =
    if (eventPacketOf .spi s.cmd.spi).length ≤ s.outFree then (s.setSession .spi s.cmd.spi.told).sendOn .spi (eventPacketOf .spi s.cmd.spi)
    else (s.setSession .spi s.cmd.spi.untold).add F.CMD.EVT_DROP (s.cmd.spi.evs.take 32).length := by
  have pending : ¬ (s.cmd.spi.evs.take 32).isEmpty = true := by simpa using waits
  exact if_neg pending

theorem State.eventPacket_oazil (s : State) (waits : s.cmd.oazil.evs.isEmpty = false) (up : s.transportUp .oazil = true) :
    s.eventPacket .oazil = (s.setSession .oazil s.cmd.oazil.told).sendOn .oazil (eventPacketOf .oazil s.cmd.oazil) := by
  have pending : ¬ (s.cmd.oazil.evs.take 32).isEmpty = true := by simpa using waits
  exact (if_neg pending).trans (if_pos up)

theorem State.eventPacket_udp (s : State) (q : Peer) (waits : (s.session (.udp q)).evs.isEmpty = false) (up : s.transportUp (.udp q) = true) :
    s.eventPacket (.udp q) = (s.setSession (.udp q) (s.session (.udp q)).told).sendOn (.udp q) (eventPacketOf (.udp q) (s.session (.udp q))) := by
  have pending : ¬ ((s.session (.udp q)).evs.take 32).isEmpty = true := by simpa using waits
  exact (if_neg pending).trans (if_pos up)

/-- A peer that has a place reads back the session stored for it. -/
theorem peerSession_map (p : Peer) (x : Session) (l : List (Peer × Session)) (known : (peerSession p l).isSome = true) :
    peerSession p (l.map (fun e => if e.1 = p then (p, x) else e)) = some x := by
  induction l with
  | nil => simp [peerSession] at known
  | cons e l ih =>
    obtain ⟨q, y⟩ := e
    by_cases same : q = p
    · simp [peerSession, same]
    · simp only [peerSession, same, if_false, List.map_cons] at known ⊢
      exact ih known

theorem State.session_setSession_udp (s : State) (p : Peer) (x : Session) (known : s.hasPort (.udp p) = true) : (s.setSession (.udp p) x).session (.udp p) = x := by
  have stored : peerSession p (s.setSession (.udp p) x).cmd.udp = some x := peerSession_map p x s.cmd.udp known
  rw [State.session, stored, Option.getD_some]

/-- Settles O14: the three ways by which pending entries leave. -/
theorem eventPackets : Obligations.EventPackets := by
  unfold Obligations.EventPackets
  refine ⟨?fits, ?full, length_eventEntry, fun via => ?none, ?oazil, fun q => ?udp⟩
  case fits =>
    refine .of_effect (fun _ => rfl) fun s ⟨waits, fits⟩ => ?_
    rw [s.eventPacket_spi waits]
    exact if_pos ((length_eventPacket s.cmd.spi 1).trans_le fits)
  case full =>
    refine .of_effect (fun _ => rfl) fun s ⟨waits, full⟩ => ?_
    have wide : ¬ (eventPacketOf .spi s.cmd.spi).length ≤ s.outFree := not_le.2 (full.trans_eq (length_eventPacket s.cmd.spi 1).symm)
    rw [s.eventPacket_spi waits, if_neg wide]
    exact ⟨rfl, State.get_add_same _ F.CMD.EVT_DROP _ rfl⟩
  case none => exact .of_effect (fun _ => rfl) fun s none => s.eventPacket_none via none
  case oazil =>
    refine .of_effect (fun _ => rfl) fun s ⟨waits, up⟩ => ?_
    rw [s.eventPacket_oazil waits up]
    exact ⟨rfl, congrArg TxStream.units ((spGet_spSet _ _ _ _ _).trans (if_pos rfl)), rfl⟩
  case udp =>
    refine .of_effect (fun _ => rfl) fun s ⟨waits, up⟩ => ?_
    have known : s.hasPort (.udp q) = true := by
      rw [State.transportUp, Bool.and_eq_true, Bool.and_eq_true] at up
      exact up.1.1
    rw [s.eventPacket_udp q waits up]
    exact ⟨rfl, State.get_add_same _ F.ETH.TX_FRAMES _ rfl, s.session_setSession_udp q _ known⟩

/-! ### SPI frames -/

theorem State.spiRead_awake (s : State) (n : Nat) (awake : s.sleeps = false) (on : s.pw.st ≠ .off) : s.spiRead n = State.settle { s with
    out := .spi ((s.spiShift ++ zeros (n - s.spiShift.length)).take n) :: s.out,
    cmd := { s.cmd with outq := if s.spiShift.length ≤ n then s.cmd.outq.drop 1 else s.cmd.outq } } := by
  simp only [State.spiRead, awake, Bool.false_eq_true, if_false, if_neg on]
  split <;> rfl

theorem State.spiShift_cons (s : State) (p : List Byte) (r : List (List Byte)) (waits : s.cmd.outq = p :: r) : s.spiShift = beBytes 2 p.length ++ p := by
  rw [State.spiShift, waits]

theorem length_of_headerOk (b : List Byte) (ok : headerOk b = true) : ¬ b.length < 12 := by
  simp only [headerOk, Bool.and_eq_true, decide_eq_true_eq] at ok
  omega

section
variable (s : State) (b : List Byte) (awake : s.sleeps = false) (hears : s.hears .spi = true)
include awake hears

theorem State.spiWrite_short (short : b.length < 12) : s.spiWrite b = (s.inc F.CMD.SPI_FRAME_ERR).settle := by
  simp [State.spiWrite, awake, hears, short]

theorem State.spiWrite_badHeader (long : 12 ≤ b.length) (bad : headerOk b = false) : s.spiWrite b = (s.inc F.CMD.HDR_ERR).settle := by
  simp [State.spiWrite, awake, hears, long.not_gt, bad]

/-- A frame whose LENGTH is too large for any packet. -/
theorem State.spiWrite_badLength (ok : headerOk b = true) (large : 2048 < u16 b 8) : s.spiWrite b = (s.packetAt .spi b true).settle := by
  simp [State.spiWrite, awake, hears, length_of_headerOk b ok, ok, large]

theorem State.spiWrite_cut (ok : headerOk b = true) (fits : u16 b 8 ≤ 2048) (cut : b.length < packetBytes b) :
    s.spiWrite b = (s.inc F.CMD.SPI_FRAME_ERR).settle := by
  simp [State.spiWrite, awake, hears, length_of_headerOk b ok, ok, fits.not_gt, cut]

theorem State.spiWrite_whole (ok : headerOk b = true) (fits : u16 b 8 ≤ 2048) (whole : packetBytes b ≤ b.length) :
    s.spiWrite b = (s.packetAt .spi b true).settle := by
  simp [State.spiWrite, awake, hears, length_of_headerOk b ok, ok, fits.not_gt, whole.not_gt]

theorem State.spiOther_counted (first : Byte) (write : first ≠ 0x5A) (read : first ≠ 0xA5) : s.spiOther first = (s.inc F.CMD.SPI_FRAME_ERR).settle := by
  rw [State.spiOther, if_neg write, if_neg read, awake, hears]
  rfl

end

theorem State.udpIn_badHeader (s : State) (q : Peer) (b : List Byte) (hears : s.hears (.udp q) = true) (bad : headerOk b = false) :
    s.udpIn q b = ((s.inc F.ETH.RX_FRAMES).inc F.CMD.HDR_ERR).settle := by
  simp [State.udpIn, hears, bad]

theorem State.onlyRegs_set (s : State) (f : Fld) (x : Nat) : OnlyRegs s (s.set f x) [f.addr] :=
  ⟨rfl, fun a other => s.rd_set_ne f x a (by simpa using other)⟩

/-- Settles O15: the branches of the frame receiver, before a packet reaches step 2. -/
theorem spiFrames : Obligations.SpiFrames := by
  unfold Obligations.SpiFrames
  refine ⟨⟨fun n s ⟨awake, on⟩ => ?read, fun s empty => ?empty, State.spiShift_cons⟩,
    fun b write read s ⟨awake, hears⟩ => ⟨_, ?other, rfl⟩, fun b short s ⟨awake, hears⟩ => ⟨_, ?short, rfl⟩,
    fun b long bad s ⟨awake, hears⟩ => ⟨_, ?header, rfl⟩, fun b ok fits cut s ⟨awake, hears⟩ => ⟨_, ?cut, rfl⟩,
    fun q b bad s hears => ⟨_, ?udp, rfl⟩, fun f counter s => ⟨s.onlyRegs_set f _, ?count⟩⟩
  case read => exact ⟨_, congrArg Host.Outcome.next (s.spiRead_awake n awake on), rfl, rfl, rfl⟩
  case empty => rw [State.spiShift, empty]; rfl
  case other => exact congrArg Host.Outcome.next (s.spiOther_counted awake hears b write read)
  case short => exact congrArg Host.Outcome.next (s.spiWrite_short b awake hears short)
  case header => exact congrArg Host.Outcome.next (s.spiWrite_badHeader b awake hears long bad)
  case cut => exact congrArg Host.Outcome.next (s.spiWrite_cut b awake hears ok fits cut)
  case udp => exact congrArg Host.Outcome.next (s.udpIn_badHeader q b hears bad)
  case count => obtain rfl | rfl | rfl := counter <;> exact s.get_add_same _ 1 rfl

/-! ### Steps 2 to 5 -/

/-- A packet over SPI finds its place where fewer than 16 answers are due (R43). -/
theorem State.intake_spi (s : State) (room : s.unanswered .spi < 16) : s.intake .spi = (true, s) := by
  simp [State.intake, room.not_ge]

theorem State.packetAt_spi (s : State) (b : List Byte) (room : s.unanswered .spi < 16) :
    s.packetAt .spi b true = if 2048 < u16 b 8 then s.badLength .spi b else s.checkPacket .spi b := by
  by_cases large : 2048 < u16 b 8 <;> simp [State.packetAt, s.intake_spi room, lengthLimit, large]

/-- Settles O16: which of steps 2 to 5 fails first. -/
theorem packetSteps : Obligations.PacketSteps := by
  unfold Obligations.PacketSteps
  refine ⟨fun b ok large s ⟨awake, hears, room⟩ => ⟨_, ?length, rfl⟩, fun b ok fits whole => ⟨fun s ⟨awake, hears, room, crc⟩ => ⟨_, ?crc, rfl⟩,
    fun s ⟨awake, hears, room, crc, tag⟩ => ⟨_, ?tag, rfl⟩, fun s ⟨awake, hears, room, crc, tag, version⟩ => ⟨_, ?version, rfl⟩⟩, fun _ _ _ _ _ => rfl⟩
  case length =>
    rw [Event, exec_spiWriteFrame, s.spiWrite_badLength b awake hears ok large, s.packetAt_spi b room, if_pos large]
    rfl
  all_goals rw [Event, exec_spiWriteFrame, s.spiWrite_whole b awake hears ok fits whole, s.packetAt_spi b room, if_neg fits.not_gt, State.checkPacket]
  case crc => rw [if_pos crc]
  case tag => rw [if_neg (not_not_intro crc), if_pos (show u8 b 3 ≠ portTag .spi from tag)]
  case version => rw [if_neg (not_not_intro crc), if_neg (show ¬ u8 b 3 ≠ portTag .spi from not_not_intro tag), if_pos version]

end Sys2Proof.Machine
end

section
/-! PROOFS. Resets, DORMANT and the wake sources (chapters 1 and 3). -/

namespace Sys2Proof.Machine

/-! ### Bits of a field that is written whole -/

theorem bitsOf_withBits_inside (v lo wd x lo' wd' : Nat) (low : lo ≤ lo') (high : lo' + wd' ≤ lo + wd) :
    bitsOf (withBits v lo wd x) lo' wd' = bitsOf x (lo' - lo) wd' := by
  obtain ⟨k, rfl⟩ := Nat.exists_eq_add_of_le low
  obtain ⟨m, rfl⟩ : ∃ m, wd = k + wd' + m := ⟨wd - (k + wd'), by omega⟩
  have field : withBits v lo (k + wd' + m) x / 2 ^ lo % 2 ^ (k + wd' + m) = x % 2 ^ (k + wd' + m) := bitsOf_withBits_same v lo _ x
  have inside (y : Nat) : y / 2 ^ k % 2 ^ wd' = y % 2 ^ (k + wd' + m) / 2 ^ k % 2 ^ wd' := by
    rw [← Nat.mod_mul_right_div_self y, ← Nat.mod_mul_right_div_self (y % _), ← Nat.pow_add, Nat.mod_mod_of_dvd _ (Nat.pow_dvd_pow 2 (by omega))]
  rw [bitsOf, bitsOf, Nat.add_sub_cancel_left, Nat.pow_add, ← Nat.div_div_eq_div_mul, inside, field, ← inside]

/-- A field inside one that was written reads its part of what was written. -/
theorem State.get_set_inside (s : State) (f g : Fld) (x : Nat) (word : g.addr = f.addr) (fits : f.fits = true) (low : f.lo ≤ g.lo)
    (high : g.lo + g.wd ≤ f.lo + f.wd) : (s.set f x).get g = bitsOf x (g.lo - f.lo) g.wd := by
  rw [State.get, word, State.rd_set_same s f x fits, bitsOf_withBits_inside _ _ _ _ _ _ low high]

/-! ### What is on after a reset -/

/-- The words that say which domains are on. -/
theorem State.domOn_congr {s t : State} (words : ∀ a ∈ [0x120, 0x124, 0x128], t.rd a = s.rd a) (p : Fin 80) : t.domOn p = s.domOn p := by
  have word : 0x120 + 4 * (p.val / 32) ∈ [0x120, 0x124, 0x128] := by
    simp only [List.mem_cons, List.not_mem_nil, or_false]
    omega
  rw [State.domOn, State.flag, State.get, domBit, words _ word]
  rfl

theorem State.domOn_domainsFixed (s : State) (core : Bool) (p : Fin 80) :
    (s.domainsFixed core).domOn p = decide (64 ≤ p.val ∧ p.val ≤ if core then 66 else 64) := by
  have word0 (lo : Nat) (h : lo < 32) : (s.domainsFixed core).get ⟨0x120, lo, 1⟩ = bitsOf 0 lo 1 := by
    rw [State.domainsFixed, State.get_set_addr _ _ _ _ (Nat.ne_of_beq_eq_false rfl), State.get_set_addr _ _ _ _ (Nat.ne_of_beq_eq_false rfl),
      State.get_set_inside s F.SYS.PWR_DOM_STAT0_ON ⟨0x120, lo, 1⟩ _ rfl rfl (Nat.zero_le _) (by simp [F.SYS.PWR_DOM_STAT0_ON]; omega)]
    rfl
  have word1 (lo : Nat) (h : lo < 32) : (s.domainsFixed core).get ⟨0x124, lo, 1⟩ = bitsOf 0 lo 1 := by
    rw [State.domainsFixed, State.get_set_addr _ _ _ _ (Nat.ne_of_beq_eq_false rfl),
      State.get_set_inside _ F.SYS.PWR_DOM_STAT1_ON ⟨0x124, lo, 1⟩ _ rfl rfl (Nat.zero_le _) (by simp [F.SYS.PWR_DOM_STAT1_ON]; omega)]
    rfl
  have word2 (lo : Nat) (h : lo < 16) : (s.domainsFixed core).get ⟨0x128, lo, 1⟩ = bitsOf (if core then 7 else 1) lo 1 := by
    rw [State.domainsFixed, State.get_set_inside _ F.SYS.PWR_DOM_STAT2_ON ⟨0x128, lo, 1⟩ _ rfl rfl (Nat.zero_le _) (by simp [F.SYS.PWR_DOM_STAT2_ON]; omega)]
    rfl
  have third : ∀ (core : Bool) (k : Fin 16), (bitsOf (if core then 7 else 1) k 1 == 1) = decide (64 ≤ 64 + k.val ∧ 64 + k.val ≤ if core then 66 else 64) := by decide
  obtain low | mid | high : p.val < 32 ∨ (32 ≤ p.val ∧ p.val < 64) ∨ 64 ≤ p.val := by omega
  · rw [State.domOn, State.flag, domBit, show p.val / 32 = 0 by omega, word0 _ (by omega)]
    simp [bitsOf]; omega
  · rw [State.domOn, State.flag, domBit, show p.val / 32 = 1 by omega, word1 _ (by omega)]
    simp [bitsOf]; omega
  · have place := third core ⟨p.val - 64, by omega⟩
    rw [State.domOn, State.flag, domBit, show p.val / 32 = 2 by omega, show p.val % 32 = p.val - 64 by omega, word2 _ (by omega)]
    rw [show 64 + (p.val - 64) = p.val by omega] at place
    exact place

theorem State.rd_domainsFixed (s : State) (core : Bool) (a : Nat) (other : a ∉ [0x120, 0x124, 0x128]) : (s.domainsFixed core).rd a = s.rd a := by
  simp only [List.mem_cons, List.not_mem_nil, or_false, not_or] at other
  rw [State.domainsFixed, State.rd_set_ne _ _ _ _ other.2.2, State.rd_set_ne _ _ _ _ other.2.1, State.rd_set_ne _ _ _ _ other.1]

/-- Domain 64 keeps its words through a reset (R17). -/
theorem State.rd_clearForReset (s : State) (keepLog : Bool) (a : Nat) (always : domainOf a = 64) : (s.clearForReset keepLog).rd a = s.rd a := by
  rw [State.rd, State.clearForReset, spGet_spKeep]
  simp [always, State.rd]

theorem State.rd_congr {s t : State} (same : t.regs = s.regs) (a : Nat) : t.rd a = s.rd a := by rw [State.rd, State.rd, same]

/-! ### A boot begins -/

section
variable (s : State) (kind : ResetKind) (cause : Nat) (keepLog good brownout : Bool)

/-- The words that the beginning of a boot writes outside PWR_DOM_STAT. -/
theorem State.rd_startBoot (a : Nat) (other : a ∉ [F.SYS.BOOT_STATUS_STAGE.addr, F.SYS.CLK_STAT_LOCKED.addr, F.SYS.FW_VERSION_MAJOR.addr]) :
    (s.startBoot kind cause keepLog good brownout).rd a = ((s.clearForReset keepLog).domainsFixed true).rd a := by
  simp only [List.mem_cons, List.not_mem_nil, or_false, not_or] at other
  have regs : (s.startBoot kind cause keepLog good brownout).regs = (((((s.clearForReset keepLog).domainsFixed true).wr F.SYS.BOOT_STATUS_STAGE.addr
      (BitVec.ofNat 32 (0x340 + 8 * s.get F.SYS.BOOT_STATUS_STRAP))).wr F.SYS.CLK_STAT_LOCKED.addr 0).wr F.SYS.FW_VERSION_MAJOR.addr 0).regs := rfl
  rw [State.rd_congr regs, State.rd_wr_ne _ _ _ _ other.2.2, State.rd_wr_ne _ _ _ _ other.2.1, State.rd_wr_ne _ _ _ _ other.1]

theorem State.startBoot_begun : BootBegun (s.startBoot kind cause keepLog good brownout) kind (if good then .rom else .rails) cause := by
  refine ⟨rfl, rfl, rfl, rfl, rfl, rfl, rfl, rfl, rfl, fun p => ?_⟩
  rw [State.domOn_congr (s := (s.clearForReset keepLog).domainsFixed true) (fun a ha => s.rd_startBoot _ _ _ _ _ a ?_) p, State.domOn_domainsFixed]
  · rfl
  · revert a; decide

/-- RST_CAUSE outlasts the reset that it tells of. -/
theorem State.get_startBoot_rstCause (lo wd : Nat) : (s.startBoot kind cause keepLog good brownout).get ⟨0x140, lo, wd⟩ = s.get ⟨0x140, lo, wd⟩ := by
  have word : (s.startBoot kind cause keepLog good brownout).rd 0x140 = s.rd 0x140 := by
    rw [s.rd_startBoot _ _ _ _ _ _ (by decide), State.rd_domainsFixed _ _ _ (by decide), State.rd_clearForReset _ _ _ (by decide)]
  rw [State.get, word]
  rfl

theorem State.startBoot_flash : (s.startBoot kind cause keepLog good brownout).flash = s.flash := rfl

theorem State.startBoot_otp : (s.startBoot kind cause keepLog good brownout).otp = s.otp := rfl

theorem State.startBoot_log : (s.startBoot kind cause keepLog good brownout).fm.log = if keepLog then s.fm.log else [] := rfl

end

/-- A flag of RST_CAUSE that is set before the boot begins. -/
theorem State.get_startBoot_of_set (s : State) (lo wd x : Nat) (fits : lo + wd ≤ 32) (small : x < 2 ^ wd) (kind : ResetKind) (cause : Nat)
    (keepLog good brownout : Bool) : ((s.set ⟨0x140, lo, wd⟩ x).startBoot kind cause keepLog good brownout).get ⟨0x140, lo, wd⟩ = x := by
  rw [State.get_startBoot_rstCause, State.get_set_same _ _ _ (by simpa [Fld.fits] using fits), Nat.mod_eq_of_lt small]

/-! ### The reset sources -/

/-- The state that the loss of VDD_AON leaves, before domain 64 goes off. -/
def State.lost (s : State) : State := (({ s with regs := [], pw := State.reset.pw } : State).clearForReset false).domainsFixed false

/-- The state that the loss of VDD_AON leaves. -/
def State.lostAll (s : State) : State :=
  let u := s.lost.set (domBit 0x120 64) 0
  { u with pw := { u.pw with st := .off } }

theorem State.aonLoss_eq (s : State) (on : s.pw.st ≠ .off) : s.aonLoss = s.lostAll := by
  unfold State.aonLoss State.lostAll State.lost
  split
  · contradiction
  · rfl

/-- No domain is on once domain 64 is off, too. -/
theorem State.domOn_fixed_off (s : State) (p : Fin 80) : ((s.domainsFixed false).set (domBit 0x120 64) 0).domOn p = false := by
  by_cases always : p.val = 64
  · rw [always, State.domOn, State.flag, State.get_set_same _ _ _ rfl]
    rfl
  · have other : ((s.domainsFixed false).set (domBit 0x120 64) 0).get (domBit 0x120 p) = (s.domainsFixed false).get (domBit 0x120 p) := by
      by_cases word : p.val / 32 = 2
      · exact State.get_set_bits _ _ _ _ rfl (.inl (by simp only [domBit]; omega))
      · exact State.get_set_addr _ _ _ _ (by simp only [domBit]; omega)
    rw [State.domOn, State.flag, other, ← State.flag, ← State.domOn, State.domOn_domainsFixed]
    simp; omega

theorem State.regs_lostAll (s : State) : s.lostAll.regs = (s.lost.set (domBit 0x120 64) 0).regs := rfl

theorem State.domOn_lostAll (s : State) (p : Fin 80) : s.lostAll.domOn p = (s.lost.set (domBit 0x120 64) 0).domOn p :=
  State.domOn_congr (fun a _ => State.rd_congr s.regs_lostAll a) p

theorem State.domOn_aonLoss (s : State) (on : s.pw.st ≠ .off) (p : Fin 80) : s.aonLoss.domOn p = false := by
  rw [s.aonLoss_eq on, s.domOn_lostAll, State.lost, State.domOn_fixed_off]

theorem State.railBrownout_eq (s : State) (r : Fin 9) (other : r ≠ 0) (on : s.pw.st ≠ .off) (awake : s.pw.st ≠ .dormant) : s.railBrownout r =
    ((s.set F.SYS.RST_CAUSE_BROWNOUT 1).set F.SYS.RST_CAUSE_RAIL r).startBoot .warm 0 (r.val != 1) false true := by
  have rail : r.val ≠ 0 := fun zero => other (Fin.ext zero)
  rw [State.railBrownout, if_neg rail, if_neg (by simp [on, awake])]

theorem State.resetPulse_long (s : State) (ns : Nat) (long : 1000 ≤ ns) : s.resetPulse ns = s.pinReset := by
  rw [State.resetPulse, if_neg (by omega), if_pos long]

theorem State.resetPulse_open (s : State) (ns : Nat) (least : 200 ≤ ns) (most : ns < 1000) :
    s.resetPulse ns = { s with free := s.free + 1 } ∨ s.resetPulse ns = State.pinReset { s with free := s.free + 1 } := by
  rw [State.resetPulse, if_neg (by omega), if_neg (by omega)]
  dsimp only
  split
  · exact .inr rfl
  · exact .inl rfl

/-- R65: the pin resets a running device. -/
theorem State.pinReset_running (s : State) (running : s.pw.st = .ready ∨ s.pw.st = .scanning ∨ s.pw.st = .safeHold) :
    s.pinReset = (s.set F.SYS.RST_CAUSE_PIN 1).startBoot .warm 0 true true false := by
  obtain st | st | st := running <;> rw [State.pinReset, st]

theorem State.pinReset_begun (s : State) (running : s.pw.st = .ready ∨ s.pw.st = .scanning ∨ s.pw.st = .safeHold) :
    BootBegun s.pinReset .warm .rom 0 ∧ s.pinReset.get F.SYS.RST_CAUSE_PIN = 1 := by
  rw [s.pinReset_running running]
  exact ⟨State.startBoot_begun _ .warm 0 true true false, State.get_startBoot_of_set s _ _ _ (by decide) (by decide) _ _ _ _ _⟩

/-- Settles O17: each source, as a boot that begins, or as a loss, a note or nothing. -/
theorem resetSources : Obligations.ResetSources := by
  unfold Obligations.ResetSources
  refine ⟨?rise, ?loss, fun r other => ?brownout, fun b => ?good, fun ns long => ?pin, fun ns long => ?latch, fun ns short => ?glitch, fun ns least most => ?between,
    ?watchdog, ?reboot, ?noReboot⟩
  case rise =>
    refine .of_effect (fun _ => rfl) fun s off => ?_
    rw [State.aonRise, if_pos off]
    exact ⟨State.startBoot_begun _ .cold 0 false false false, rfl, rfl, rfl⟩
  case loss =>
    refine .of_effect (fun _ => rfl) fun s on => ?_
    have gone := s.domOn_aonLoss on
    rw [s.aonLoss_eq on] at gone ⊢
    exact ⟨rfl, gone, rfl, rfl, rfl, rfl⟩
  case brownout =>
    refine .of_effect (fun _ => rfl) fun s ⟨on, awake⟩ => ?_
    rw [s.railBrownout_eq r other on awake]
    refine ⟨State.startBoot_begun _ .warm 0 _ false true, ?_, State.get_startBoot_of_set _ _ _ _ (by decide) (by omega) _ _ _ _ _, rfl, rfl⟩
    exact (State.get_startBoot_rstCause _ _ _ _ _ _ _ _).trans ((State.get_set_bits _ _ _ _ rfl (by decide)).trans (State.get_set_same _ _ _ rfl))
  case good =>
    refine .of_effect (fun _ => rfl) fun s ⟨booting, rails⟩ => ?_
    rw [State.railsGood, if_pos ⟨booting, rails⟩]
    refine ⟨rfl, fun a other => State.rd_set_ne _ _ _ a (by simpa using other), (State.get_set_same _ _ _ rfl).trans (Nat.mod_eq_of_lt b.isLt)⟩
  case pin =>
    refine .of_effect (fun _ => rfl) fun s running => ?_
    obtain ⟨begun, cause⟩ := s.pinReset_begun running
    rw [s.resetPulse_long ns long]
    refine ⟨begun, cause, ?_⟩
    rw [s.pinReset_running running]
    exact ⟨rfl, rfl, rfl⟩
  case latch =>
    refine .of_effect (fun _ => rfl) fun s latched => ?_
    rw [s.resetPulse_long ns long, State.pinReset, latched]
    exact ⟨s.onlyRegs_set _ 1, State.get_set_same _ _ _ rfl⟩
  case glitch => exact .of_effect (fun _ => rfl) fun s _ => if_pos short
  case between =>
    refine .of_effect (fun _ => rfl) fun s ready => (s.resetPulse_open ns least most).imp id fun reset => ?_
    rw [reset]
    exact State.pinReset_begun _ (.inl ready)
  case watchdog =>
    refine .of_effect (fun _ => rfl) fun s runs => ?_
    rw [State.watchdogExpiry, if_pos runs]
    exact ⟨State.startBoot_begun _ .warm 0 true true false, State.get_startBoot_of_set _ _ _ _ (by decide) (by decide) _ _ _ _ _⟩
  case reboot =>
    refine .of_effect (fun _ => rfl) fun s pending => ?_
    rw [State.rebootStart, if_pos pending]
    exact ⟨State.startBoot_begun _ .warm 0 true true false, State.get_startBoot_of_set _ _ _ _ (by decide) (by decide) _ _ _ _ _, rfl, rfl, rfl⟩
  case noReboot => exact .of_effect (fun _ => rfl) fun s idle => if_neg (by rw [idle]; exact Bool.false_ne_true)

/-! ### DORMANT and the wake sources -/

theorem State.wake_begun (s : State) (src : Nat) : BootBegun (s.wake src) .wake .rails (3 + src) ∧ (s.wake src).get F.SYS.RST_CAUSE_WAKE = 1 :=
  ⟨State.startBoot_begun _ .wake (3 + src) false false false, State.get_startBoot_of_set _ _ _ _ (by decide) (by decide) _ _ _ _ _⟩

theorem State.abandonScan_idle (s : State) : s.abandonScan.scan.phase = .idle := by
  rw [State.abandonScan]
  split
  · assumption
  · exact congrArg ScanSt.phase (Answering.inhibitOn _ 1).scan_eq

theorem Answering.monClose (s : State) : Answering s s.monClose := by
  rw [State.monClose]
  split
  · exact ((Answering.set _ _ _).trans (.set _ _ _)).trans (.raise _ _ _ _)
  · rfl

/-- A row that is answered DONE, with something after the reply. -/
theorem DoneThen.of_handler {c : Instr} {s u t : State} {p : Pkt} {via : Port} {seq : BitVec 16} {op : Nat} {d data : List Byte} {f : State → State}
    (row : asPacket c = some ⟨via, seq, op, d⟩) (runs : Runs c s p u) (handler : runOp via u op d = ⟨.final 0 0 data, t, f⟩) : DoneThen c s p t data f := by
  obtain ⟨rfl, exec⟩ := runs.exec_row row
  rw [DoneThen, exec, handler]
  rfl

/-- Settles O18: the two commands, the entry to DORMANT and the wake sources. -/
theorem dormantAndWake : Obligations.DormantAndWake := by
  unfold Obligations.DormantAndWake
  refine ⟨fun c s p u row runs ready => ?dormant, fun via seq => ?refused, fun c s p u row runs => ?reboot, ?begin, ?noBegin, ?complete, fun src => ?latched,
    fun src known => ⟨?wake, ?first, ?later, ?awake⟩⟩
  case dormant =>
    subst row
    exact DoneThen.of_handler rfl runs (u.guarded_pass _ _ (by simp [State.badState, ready]))
  case refused =>
    refine .of_handler rfl fun u other => ?_
    show cmdDormant via u = _
    simp [cmdDormant, State.guarded_cons, State.badState, other]
  case reboot =>
    subst row
    exact DoneThen.of_handler rfl runs rfl
  case begin =>
    refine .of_effect (fun _ => rfl) fun s pending => ?_
    rw [State.dormantBegin, if_pos pending]
    refine ⟨rfl, rfl, rfl, rfl, rfl, rfl, rfl, rfl, rfl, rfl, ?_⟩
    exact (congrArg ScanSt.phase (Answering.monClose s.abandonScan.closeCommissioning).scan_eq).trans s.abandonScan_idle
  case noBegin =>
    refine .of_effect (fun _ => rfl) fun s idle => if_neg fun ⟨ready, pending⟩ => ?_
    obtain other | unasked := idle
    · exact other ready
    · simp [unasked] at pending
  case complete =>
    refine .of_effect (fun _ => rfl) fun s ⟨entry, unlatched⟩ => ?_
    have slept : s.dormantEnd = { (s.clearForReset false).domainsFixed false with pw := { ((s.clearForReset false).domainsFixed false).pw with st := .dormant } } := by
      rw [State.dormantEnd, if_pos entry, unlatched]
    rw [slept]
    refine ⟨rfl, fun p => ((s.clearForReset false).domOn_domainsFixed false p).trans ?_, rfl, rfl, rfl, rfl⟩
    revert p; decide
  case latched =>
    refine .of_effect (fun _ => rfl) fun s ⟨entry, source⟩ => ?_
    have woken : s.dormantEnd = State.wake { (s.clearForReset false).domainsFixed false with pw := { ((s.clearForReset false).domainsFixed false).pw with st := .dormant } } src.toNat := by
      rw [State.dormantEnd, if_pos entry, source]
    rw [woken]
    obtain ⟨begun, cause⟩ := State.wake_begun { (s.clearForReset false).domainsFixed false with pw := { ((s.clearForReset false).domainsFixed false).pw with st := .dormant } } src.toNat
    exact ⟨begun, cause, rfl, rfl⟩
  case wake =>
    refine .of_effect (fun _ => rfl) fun s asleep => ?_
    obtain ⟨begun, cause⟩ := s.wake_begun src.toNat
    rw [State.wakeSource, if_neg known, asleep]
    exact ⟨begun, cause, rfl, rfl⟩
  case first => exact .of_effect (fun _ => rfl) fun s ⟨entry, unlatched⟩ => by rw [State.wakeSource, if_neg known, entry, unlatched]; rfl
  case later =>
    refine .of_effect (fun _ => rfl) fun s ⟨entry, waits⟩ => ?_
    rw [Nothing, State.wakeSource, if_neg known, entry]
    exact if_pos (Option.isSome_iff_ne_none.2 waits)
  case awake =>
    refine .of_effect (fun _ => rfl) fun s running => ?_
    obtain st | st | st | st := running <;> rw [Nothing, State.wakeSource, if_neg known, st]

end Sys2Proof.Machine
end

section
/-! PROOFS. What leaves the power controller and the system block (identity, power, reset and clock words, below 0x1000) alone. -/

namespace Sys2Proof.Machine

/-- Nothing of the power controller changes, and no word of the system block but those of `ws`. -/
structure Quiet (ws : List Nat) (s t : State) : Prop where
  pw : t.pw = s.pw
  rd : ∀ a < 0x1000, a ∉ ws → t.rd a = s.rd a

namespace Quiet
variable {ws : List Nat} {s t u : State}

theorem refl (s : State) : Quiet ws s s := ⟨rfl, fun _ _ _ => rfl⟩

theorem trans (first : Quiet ws s t) (second : Quiet ws t u) : Quiet ws s u :=
  ⟨second.pw.trans first.pw, fun a low other => (second.rd a low other).trans (first.rd a low other)⟩

theorem mono {vs : List Nat} (sub : ws ⊆ vs) (h : Quiet ws s t) : Quiet vs s t := ⟨h.pw, fun a low other => h.rd a low fun mem => other (sub mem)⟩

theorem of_regs (pw : t.pw = s.pw) (regs : t.regs = s.regs) : Quiet ws s t := ⟨pw, fun a _ _ => State.rd_congr regs a⟩

theorem each {α : Type} (l : List α) (f : State → α → State) (step : ∀ u, ∀ a ∈ l, Quiet ws u (f u a)) (s : State) : Quiet ws s (s.each l f) := by
  induction l generalizing s with
  | nil => exact .refl s
  | cons a l ih => exact (step s a List.mem_cons_self).trans (ih (fun u b hb => step u b (List.mem_cons_of_mem a hb)) _)

theorem when (b : Bool) {f : State → State} (h : ∀ u, Quiet ws u (f u)) (s : State) : Quiet ws s (s.when b f) := by
  cases b
  · exact .refl s
  · exact h s

theorem eachKeeping {α : Type} (l : List α) (f : State → α → State) (pw : ∀ u a, (f u a).pw = u.pw) (regs : ∀ u a, (f u a).regs = u.regs) (s : State) :
    Quiet ws s (s.each l f) := each l f (fun u a _ => of_regs (pw u a) (regs u a)) s

theorem whenKeeping (b : Bool) (f : State → State) (pw : ∀ u, (f u).pw = u.pw) (regs : ∀ u, (f u).regs = u.regs) (s : State) : Quiet ws s (s.when b f) :=
  when b (fun u => of_regs (pw u) (regs u)) s

/-- A field of another block. -/
theorem set (s : State) (f : Fld) (x : Nat) (high : 0x1000 ≤ f.addr) : Quiet ws s (s.set f x) :=
  ⟨rfl, fun a low _ => s.rd_set_ne f x a (by omega)⟩

/-- A field of a word that may change. -/
theorem setMem (s : State) (f : Fld) (x : Nat) (mem : f.addr ∈ ws) : Quiet ws s (s.set f x) :=
  ⟨rfl, fun a _ other => s.rd_set_ne f x a fun same => other (same ▸ mem)⟩

theorem get (h : Quiet ws s t) (f : Fld) (low : f.addr < 0x1000) (other : f.addr ∉ ws) : t.get f = s.get f := by
  rw [State.get, State.get, h.rd f.addr low other]

theorem rd_all (h : Quiet [] s t) (a : Nat) (low : a < 0x1000) : t.rd a = s.rd a := h.rd a low (by simp)

theorem setSession (s : State) (p : Port) (x : Session) : Quiet ws s (s.setSession p x) := by cases p <;> exact .of_regs rfl rfl

theorem sendOn (s : State) (p : Port) (b : List Byte) : Quiet ws s (s.sendOn p b) := by
  cases p with
  | spi => exact .of_regs rfl rfl
  | udp q => exact (set s _ _ (by decide)).trans (.of_regs rfl rfl)
  | oazil => exact .of_regs rfl rfl

theorem raise (s : State) (n i d : Nat) : Quiet ws s (s.raise n i d) := by
  refine ⟨(Answering.raise s n i d).pw_eq, fun a low _ => s.raise_rd n i d a ?_⟩
  simp only [eventWords, F.CMD.EV_COUNT, F.CMD.EVT_DROP, F.MON.EV_LINES_LOST, activeBit, List.mem_cons, List.not_mem_nil, or_false]
  omega

theorem inhibitOn (s : State) (m : Nat) : Quiet ws s (s.inhibitOn m) := by
  unfold State.inhibitOn
  dsimp only
  split
  · split
    · exact (set _ _ _ (by decide)).trans (set _ _ _ (by decide))
    · exact ((set _ _ _ (by decide)).trans (set _ _ _ (by decide))).trans (.raise _ _ _ _)
  · exact .refl s

theorem complete (s : State) (op st d : Nat) (b : List Byte) : Quiet ws s (s.complete op st d b) := by
  unfold State.complete
  split
  · exact .refl s
  · refine Quiet.trans ?_ (raise _ _ _ _)
    refine Quiet.trans ?_ (when _ (fun u => sendOn u _ _) _)
    refine Quiet.trans ?_ (setSession _ _ _)
    exact .of_regs rfl rfl

theorem sendReply (s : State) (p : Port) (op : Nat) (seq : BitVec 16) (a : Answer) (kept : AnsState) : Quiet ws s (s.sendReply p op seq a kept) := by
  have sent : ∀ u : State, Quiet ws u (u.when (u.transportUp p) (fun s => s.sendOn p (replyPacket p op seq a))) := fun u => when _ (fun u => sendOn u _ _) u
  unfold State.sendReply
  dsimp only
  split
  · refine Quiet.trans ?_ (set _ _ _ (by decide))
    refine Quiet.trans ?_ (sent _)
    refine Quiet.trans ?_ (of_regs (s := State.when _ _ _) rfl rfl)
    exact (setSession _ _ _).trans (sent _)
  · exact (setSession _ _ _).trans (sent _)

theorem answerLater (s : State) (op tag st d : Nat) (b : List Byte) : Quiet ws s (s.answerLater op tag st d b) := by
  unfold State.answerLater
  dsimp only
  refine Quiet.trans ?_ (each _ _ (fun u r _ => sendReply u _ _ _ _ _) _)
  exact .of_regs rfl rfl

theorem setLink (s : State) (p : Nat) (x : LinkSt) : Quiet ws s (s.setLink p x) := of_regs rfl rfl

theorem setSlice (s : State) (i : Nat) (x : SliceSt) : Quiet ws s (s.setSlice i x) := of_regs rfl rfl

/-! ### Domains -/

theorem portDown (s : State) (d : Nat) : Quiet ws s (s.portDown d) := by
  unfold State.portDown
  split
  · refine Quiet.trans ?_ (set _ _ _ (Nat.le_add_right_of_le (Nat.le_of_ble_eq_true rfl)))
    exact .of_regs rfl rfl
  · exact .refl s

theorem flushStream (s : State) (p k : Nat) : Quiet ws s (s.flushStream p k) := by
  unfold State.flushStream
  dsimp only
  refine Quiet.trans ?_ (when _ (fun u => set u (F.OZ.FLUSHED p) _ (by simp only [F.OZ.FLUSHED]; omega)) _)
  refine Quiet.trans ?_ (whenKeeping _ _ ?_ ?_ _)
  · exact .of_regs rfl rfl
  · exact fun _ => rfl
  · exact fun _ => rfl

theorem linkDown (s : State) (p : Nat) : Quiet ws s (s.linkDown p) := by
  unfold State.linkDown
  dsimp only
  split
  · exact .refl s
  · refine Quiet.trans ?_ (raise _ _ _ _)
    refine Quiet.trans ?_ (when _ (fun u => portDown u _) _)
    refine Quiet.trans ?_ (each _ _ (fun u k _ => flushStream u p k) _)
    refine Quiet.trans ?_ (setLink _ _ _)
    refine Quiet.trans (Quiet.trans (Quiet.trans (Quiet.trans (set _ _ _ ?_) (set _ _ _ ?_)) (set _ _ _ ?_)) (set _ _ _ ?_)) (set _ _ _ ?_)
    all_goals simp only [F.OZ.LINK_STAT_STATE, F.OZ.LINK_STAT_RATE, F.OZ.RETRAINS, F.OZ.LINK_STAT_FOM_TX, F.OZ.LINK_STAT_FOM_RX]; omega

theorem tbState (s : State) (n : Nat) : Quiet ws s (s.tbState n) := by
  unfold State.tbState
  dsimp only
  split
  · exact .refl s
  · refine Quiet.trans ?_ (raise _ _ _ _)
    refine Quiet.trans ?_ (when _ (fun u => set u _ _ (by decide)) _)
    exact .of_regs rfl rfl

theorem tbDomainOff (s : State) : Quiet ws s s.tbDomainOff := by
  unfold State.tbDomainOff
  dsimp only
  split
  · exact .of_regs rfl rfl
  · refine Quiet.trans ?_ (tbState _ 3)
    exact .of_regs rfl rfl

theorem loseDomain (s : State) (p : Nat) : Quiet ws s (s.loseDomain p) := by
  unfold State.loseDomain
  dsimp only
  split
  · refine Quiet.trans ?_ (setSlice _ _ _)
    refine Quiet.trans ?_ (setSlice _ _ _)
    exact eachKeeping (pairRows p) (fun s r => s.setRow r RowSt.init) (fun _ _ => rfl) (fun _ _ => rfl) s
  · split
    case h_12 =>
      refine Quiet.trans ?_ (tbDomainOff _)
      exact .of_regs rfl rfl
    case h_13 =>
      refine Quiet.trans ?_ (eachKeeping [1, 2, 3, 4, 5, 6] State.dropStream (fun _ _ => rfl) (fun _ _ => rfl) _)
      exact of_regs rfl rfl
    all_goals exact of_regs rfl rfl

theorem dropDomain (s : State) (p : Nat) (other : p ≠ 64 ∧ p ≠ 66) : Quiet ws s (s.dropDomain p) := by
  refine ⟨rfl, fun a low _ => ?_⟩
  have kept : domainOf a ≠ p := by
    rw [domainOf, if_pos low]
    split <;> omega
  rw [State.rd, State.dropDomain, spGet_spKeep]
  simp [kept, State.rd]

theorem dropWords (s : State) (p : Nat) (other : p ≠ 64 ∧ p ≠ 66) : Quiet ws s (s.dropWords p) := by
  unfold State.dropWords
  dsimp only
  split
  · refine Quiet.trans ?_ (each _ _ (fun u k _ => set u (F.RX.SLICE_ISO_ISO k) _ (by simp only [F.RX.SLICE_ISO_ISO]; omega)) _)
    exact (dropDomain s p other).trans (of_regs rfl rfl)
  · split
    · refine Quiet.trans ?_ (set _ _ _ (by simp only [F.PE.PE_STAT_FENCED]; omega))
      exact (dropDomain s p other).trans (of_regs rfl rfl)
    · exact (dropDomain s p other).trans (of_regs rfl rfl)

theorem tbDomainOn (s : State) : Quiet ws s s.tbDomainOn := (set s _ _ (by decide)).trans (set _ _ _ (by decide))

end Quiet

/-! ### A domain goes off or comes on -/

theorem domBit_fits (b p : Nat) : (domBit b p).fits = true := by
  have : p % 32 + 1 ≤ 32 := Nat.mod_lt p (by decide)
  simpa [Fld.fits, domBit] using this

theorem State.get_set_domBit (s : State) (base p q x : Nat) (other : q ≠ p) : (s.set (domBit base p) x).get (domBit base q) = s.get (domBit base q) := by
  by_cases word : q / 32 = p / 32
  · exact s.get_set_bits _ _ _ (domBit_fits _ _) (by simp only [domBit]; omega)
  · exact s.get_set_addr _ _ _ (by simp only [domBit]; omega)

theorem State.domOn_set_domBit (s : State) (p q : Nat) (b : Bool) : (s.set (domBit 0x120 p) (bit b)).domOn q = if q = p then b else s.domOn q := by
  split
  next same =>
    rw [same]
    exact s.flag_setFlag_same (domBit 0x120 p) b (domBit_fits _ _) le_rfl
  next other => rw [State.domOn, State.flag, s.get_set_domBit _ _ _ _ other]; rfl

/-- The state just before domain `p` is noted as off. -/
def State.emptied (s : State) (p : Nat) : State :=
  let s := s.when (p == 77) (fun s => s.each [0, 1, 2] State.linkDown)
  let s := s.each (domainOps p) (fun s op => s.complete op 0x13 s.stateCode [])
  let s := s.when (p == 67) (fun s => s.each (List.range 8) (fun s n => s.answerLater 0x0301 n 0x13 s.stateCode []))
  (s.loseDomain p).dropWords p

/-- Domain `p` is noted as off, and its PLL as unlocked. -/
def State.notedOff (s : State) (p : Nat) : State :=
  let s := s.set (domBit 0x120 p) 0
  let s : State := { s with pw := { s.pw with reload := s.pw.reload.filter (fun q => q != p) } }
  match domainPll p with
  | some k => s.setBitAt F.SYS.CLK_STAT_LOCKED k false
  | none => if p = 76 then (s.setBitAt F.SYS.CLK_STAT_LOCKED 3 false).setBitAt F.SYS.CLK_STAT_LOCKED 4 false else s

theorem State.domainOff_eq (s : State) (p : Nat) : s.domainOff p = if s.domOn p then (s.emptied p).notedOff p else s := by
  rw [State.domainOff]
  cases s.domOn p <;> rfl

theorem Quiet.emptied (s : State) (p : Nat) (other : p ≠ 64 ∧ p ≠ 66) : Quiet [] s (s.emptied p) := by
  unfold State.emptied
  dsimp only
  refine Quiet.trans ?_ (dropWords _ p other)
  refine Quiet.trans ?_ (loseDomain _ p)
  refine Quiet.trans ?_ (when _ (fun u => each _ _ (fun v n _ => answerLater v _ _ _ _ _) u) _)
  refine Quiet.trans ?_ (each _ _ (fun v op _ => complete v _ _ _ _) _)
  exact when _ (fun u => each _ _ (fun v p _ => linkDown v p) u) s

/-- The words that note whether domain `p` is on. -/
def onWords (p : Nat) : List Nat := [0x120 + 4 * (p / 32), F.SYS.CLK_STAT_LOCKED.addr]

theorem State.notedOff_pw (s : State) (p : Nat) : (s.notedOff p).pw = { s.pw with reload := s.pw.reload.filter (fun q => q != p) } := by
  unfold State.notedOff
  dsimp only
  split
  · rfl
  · split <;> rfl

/-- What switches the PLL of a domain writes CLK_STAT alone. -/
theorem State.notedOff_rd (s : State) (p a : Nat) (other : a ≠ F.SYS.CLK_STAT_LOCKED.addr) : (s.notedOff p).rd a = (s.set (domBit 0x120 p) 0).rd a := by
  unfold State.notedOff
  dsimp only
  split
  · rw [State.rd_setBitAt_ne _ _ _ _ _ other]; exact State.rd_congr rfl a
  · split
    · rw [State.rd_setBitAt_ne _ _ _ _ _ other, State.rd_setBitAt_ne _ _ _ _ _ other]; exact State.rd_congr rfl a
    · exact State.rd_congr rfl a

theorem State.domOn_congr_of_rd {s t : State} (words : ∀ a < 0x180, t.rd a = s.rd a) (p : Nat) (known : p < 80) : t.domOn p = s.domOn p := by
  rw [State.domOn, State.flag, State.get, words _ (by simp only [domBit]; omega)]
  rfl

/-- R17: a domain that goes off leaves the others as they are. -/
theorem State.domOn_domainOff (s : State) (p q : Nat) (other : p ≠ 64 ∧ p ≠ 66) (known : q < 80) : (s.domainOff p).domOn q = (s.domOn q && q != p) := by
  rw [s.domainOff_eq]
  split
  next on =>
    rw [State.domOn_congr_of_rd (s := (s.emptied p).set (domBit 0x120 p) (bit false))
        (fun a low => State.notedOff_rd _ p a (by simp only [F.SYS.CLK_STAT_LOCKED]; omega)) q known, State.domOn_set_domBit,
      State.domOn_congr_of_rd (fun a low => (Quiet.emptied s p other).rd_all a (by omega)) q known]
    by_cases same : q = p <;> simp [same]
  next off =>
    by_cases same : q = p
    · simp [same, off]
    · simp [same]

theorem State.rd_domainOff (s : State) (p a : Nat) (other : p ≠ 64 ∧ p ≠ 66) (low : a < 0x1000) (noted : a ∉ onWords p) : (s.domainOff p).rd a = s.rd a := by
  simp only [onWords, List.mem_cons, List.not_mem_nil, or_false, not_or] at noted
  rw [s.domainOff_eq]
  split
  · rw [State.notedOff_rd _ _ _ noted.2, State.rd_set_ne _ _ _ _ noted.1, (Quiet.emptied s p other).rd_all a low]
  · rfl

theorem State.domainOff_pw (s : State) (p : Nat) (other : p ≠ 64 ∧ p ≠ 66) : ∃ l, (s.domainOff p).pw = { s.pw with reload := l } := by
  rw [s.domainOff_eq]
  split
  · rw [State.notedOff_pw, (Quiet.emptied s p other).pw]; exact ⟨_, rfl⟩
  · exact ⟨_, rfl⟩

/-- What follows as domain `p` comes on: its PLL locks, and what other domains know of it shows again. -/
def State.welcome (s : State) (p : Nat) : State :=
  let s := match domainPll p with
    | some k => s.setBitAt F.SYS.CLK_STAT_LOCKED k true
    | none => s
  if p < 64 then s.each [2 * p, 2 * p + 1] (fun s i => s.when (s.isolated i) (fun s => (s.set (F.SLC.SLC_STAT_ISOLATED i) 1).set (F.SLC.SLC_STAT_ECC_ISO i) 1))
  else match p with
  | 68 => s.inhibitOn s.stateSources
  | 78 => s.tbDomainOn
  | 79 => { s with mem := MemSt.init s.time.dev.toNat }
  | _ => s

theorem State.domainOn_eq (s : State) (p : Nat) : s.domainOn p = if s.domOn p then s else (s.set (domBit 0x120 p) 1).welcome p := rfl

theorem Quiet.welcome (s : State) (p : Nat) : Quiet [F.SYS.CLK_STAT_LOCKED.addr] s (s.welcome p) := by
  have pll : Quiet [F.SYS.CLK_STAT_LOCKED.addr] s (match domainPll p with | some k => s.setBitAt F.SYS.CLK_STAT_LOCKED k true | none => s) := by
    split
    · exact setMem _ _ _ (by simp)
    · exact .refl s
  unfold State.welcome
  refine pll.trans ?_
  dsimp only
  generalize (match domainPll p with | some k => s.setBitAt F.SYS.CLK_STAT_LOCKED k true | none => s) = t
  split
  · refine each _ _ (fun u i _ => when _ (fun v => ?_) u) t
    exact (set _ _ _ (by simp only [F.SLC.SLC_STAT_ISOLATED]; omega)).trans (set _ _ _ (by simp only [F.SLC.SLC_STAT_ECC_ISO]; omega))
  · split
    · exact inhibitOn _ _
    · exact tbDomainOn _
    · exact of_regs rfl rfl
    · exact .refl t

theorem State.domOn_domainOn (s : State) (p q : Nat) (known : q < 80) : (s.domainOn p).domOn q = (s.domOn q || q == p) := by
  rw [s.domainOn_eq]
  split
  next on =>
    by_cases same : q = p <;> simp [same, on]
  next off =>
    have words (a : Nat) (low : a < 0x180) := (Quiet.welcome (s.set (domBit 0x120 p) (bit true)) p).rd a (by omega) (by simp only [F.SYS.CLK_STAT_LOCKED, List.mem_singleton]; omega)
    have noted := State.domOn_congr_of_rd words q known
    rw [State.domOn_set_domBit] at noted
    refine noted.trans ?_
    by_cases same : q = p <;> simp [same]

theorem State.domainOn_pw (s : State) (p : Nat) : (s.domainOn p).pw = s.pw := by
  rw [s.domainOn_eq]
  split
  · rfl
  · exact (Quiet.welcome _ p).pw

theorem State.rd_domainOn (s : State) (p a : Nat) (low : a < 0x1000) (noted : a ∉ onWords p) : (s.domainOn p).rd a = s.rd a := by
  simp only [onWords, List.mem_cons, List.not_mem_nil, or_false, not_or] at noted
  rw [s.domainOn_eq]
  split
  · rfl
  · rw [(Quiet.welcome _ p).rd a low (by simpa using noted.2), State.rd_set_ne _ _ _ _ noted.1]

end Sys2Proof.Machine
end

section
/-! PROOFS. The boot (R71 to R86). -/

namespace Sys2Proof.Machine

/-! ### The boot ROM -/

theorem Quiet.newNonce (s : State) : Quiet [] s s.newNonce := (of_regs (s := s) (t := s.freeNat.2) rfl rfl).trans (set s.freeNat.2 F.SAF.NONCE s.freeNat.1 (by decide))

theorem Quiet.noteBrownout (s : State) : Quiet [] s s.noteBrownout := when _ (fun _ => raise _ _ _ _) s

theorem State.romState_pw (s : State) (st : PowerState) (cause : Nat) (phase : BootPhase) : (s.romState st cause phase).pw =
    { s.pw with st := st, cause := BitVec.ofNat 8 cause, romOnly := true, running := 0xFF, boot := { s.pw.boot with phase := phase, brownout := false } } :=
  ((Quiet.newNonce _).trans (Quiet.raise _ EV_STATE_CHANGE 0 (256 * cause + stateCodeOf st))).pw

theorem State.rd_romState (s : State) (st : PowerState) (cause : Nat) (phase : BootPhase) (a : Nat) (low : a < 0x1000) :
    (s.romState st cause phase).rd a = (s.set F.SYS.BOOT_STATUS_ROM_ONLY 1).rd a :=
  ((Quiet.newNonce _).trans (Quiet.raise _ EV_STATE_CHANGE 0 (256 * cause + stateCodeOf st))).rd_all a low

theorem State.get_romState (s : State) (st : PowerState) (cause : Nat) (phase : BootPhase) (f : Fld) (low : f.addr < 0x1000) :
    (s.romState st cause phase).get f = (s.set F.SYS.BOOT_STATUS_ROM_ONLY 1).get f := by
  rw [State.get, s.rd_romState _ _ _ _ low]
  rfl

/-- Where no slot passes, the ROM holds the device in SAFE_HOLD with CAUSE 8, or waits there for a download. -/
theorem State.awaitDownload_pw (s : State) : s.awaitDownload.pw =
    { s.pw with st := .safeHold, cause := 8, romOnly := true, running := 0xFF, boot := { s.pw.boot with phase := .download, brownout := false } } := by
  have on : ∀ (l : List Nat) (u : State), (u.each l State.domainOn).pw = u.pw := by
    intro l
    induction l with
    | nil => exact fun _ => rfl
    | cons p l ih => exact fun u => (ih _).trans (u.domainOn_pw p)
  rw [State.awaitDownload, State.romState_pw, on]
  rfl

theorem State.bootFailure_pw (s : State) : s.bootFailure.pw.st = .safeHold ∧ s.bootFailure.pw.cause = 8 ∧ s.bootFailure.pw.romOnly = true := by
  unfold State.bootFailure
  dsimp only
  split
  · rw [State.awaitDownload_pw]; exact ⟨rfl, rfl, rfl⟩
  · rw [State.romState_pw]; exact ⟨rfl, rfl, rfl⟩

/-- The clocks run and the ROM is in stage 1. -/
def State.romStart (s : State) : State :=
  ((s.set F.SYS.CLK_STAT_XTAL_OK 1).setBitAt F.SYS.CLK_STAT_LOCKED 1 true).set F.SYS.BOOT_STATUS_STAGE 1

theorem Answering.romStart (s : State) : Answering s s.romStart := ((Answering.set _ _ _).trans (.set _ _ _)).trans (.set _ _ _)

theorem State.romStart_clocks (s : State) : s.romStart.get F.SYS.CLK_STAT_XTAL_OK = 1 ∧ s.romStart.bitAt F.SYS.CLK_STAT_LOCKED 1 = true := by
  constructor
  · rw [State.romStart, State.get_set_addr _ _ _ _ (by decide), State.setBitAt, State.get_set_bits _ _ _ _ (by decide) (by decide), State.get_set_same _ _ _ (by decide)]
    rfl
  · have locked : s.romStart.get F.SYS.CLK_STAT_LOCKED = withBits ((s.set F.SYS.CLK_STAT_XTAL_OK 1).get F.SYS.CLK_STAT_LOCKED) 1 1 1 % 2 ^ 7 := by
      rw [State.romStart, State.get_set_addr _ _ _ _ (by decide), State.setBitAt, State.get_set_same _ _ _ (by decide)]
      rfl
    rw [State.bitAt, locked, beq_iff_eq]
    have bit1 := bitsOf_withBits_same ((s.set F.SYS.CLK_STAT_XTAL_OK 1).get F.SYS.CLK_STAT_LOCKED) 1 1 1
    rw [bitsOf] at bit1
    omega

theorem State.bootRom_of_latch (s : State) (st : s.pw.st = .booting) (phase : s.pw.boot.phase = .rom) (latch : s.pw.latchFlag = true) :
    s.bootRom = (s.romStart.set F.SYS.RST_CAUSE_THERMAL 1).noteBrownout.romState .thermalLatch s.pw.cause.toNat .failed := by
  unfold State.bootRom
  rw [if_pos ⟨st, phase⟩]
  exact if_pos latch

theorem State.bootRom_of_strap (s : State) (st : s.pw.st = .booting) (phase : s.pw.boot.phase = .rom) (latch : s.pw.latchFlag = false)
    (strap : s.pw.boot.strap = 1) : s.bootRom = s.romStart.noteBrownout.awaitDownload := by
  unfold State.bootRom
  rw [if_pos ⟨st, phase⟩]
  refine (if_neg (show ¬ s.pw.latchFlag = true by simp [latch])).trans ?_
  exact if_pos strap

/-- The slot that the ROM tries first (R73). -/
def State.firstSlot (s : State) (active : Nat) (trial : Bool) : Nat :=
  if trial && s.pw.trialAttempt && s.pw.boot.kind == .warm then 1 - active else active

/-- The boot record in the ROM's hands. -/
def State.recordTaken (s : State) (copy seq active : Nat) (trial : Bool) : State :=
  { s with pw := { s.pw with boot := { s.pw.boot with
      trial := if trial then some active else none, first := s.firstSlot active trial, recSeq := some seq, recCopy := copy } } }

/-- The ROM tries the slot that a boot record names. -/
def State.tryRecord (s : State) (r : Option (Nat × Nat × Nat × Bool)) : State :=
  let active := match r with | some x => x.2.2.1 | none => 0
  let trial := match r with | some x => x.2.2.2 | none => false
  let first := s.firstSlot active trial
  let b := { s.pw.boot with
    trial := if trial then some active else none, first := first, recSeq := r.map (fun x => x.2.1), recCopy := match r with | some x => x.1 | none => 0 }
  ({ s with pw := { s.pw with boot := b } } : State).trySlot first [1 - first]

theorem State.bootRecord_congr {s t : State} (flash : t.flash = s.flash) : t.bootRecord = s.bootRecord := by
  have copies (i : Nat) : t.bootRec i = s.bootRec i := by
    have read (a n : Nat) : t.flashRead a n = s.flashRead a n := by rw [State.flashRead, State.flashRead, flash]
    rw [State.bootRec, read]
    rfl
  rw [State.bootRecord, copies, copies]
  rfl

theorem State.bootRom_of_record (s : State) (st : s.pw.st = .booting) (phase : s.pw.boot.phase = .rom) (latch : s.pw.latchFlag = false)
    (strap : s.pw.boot.strap ≠ 1) (copy seq active : Nat) (trial : Bool) (record : s.bootRecord = some (copy, seq, active, trial)) :
    s.bootRom = (s.romStart.recordTaken copy seq active trial).trySlot (s.firstSlot active trial) [1 - s.firstSlot active trial] := by
  have record' : s.romStart.bootRecord = some (copy, seq, active, trial) := (State.bootRecord_congr (Answering.romStart s).flash_eq).trans record
  unfold State.bootRom
  rw [if_pos ⟨st, phase⟩]
  refine (if_neg (show ¬ s.pw.latchFlag = true by simp [latch])).trans ?_
  refine (if_neg strap).trans ?_
  change s.romStart.tryRecord s.romStart.bootRecord = _
  rw [record']
  rfl

theorem State.trySlot_st (s : State) (slot : Nat) (rest : List Nat) : (s.trySlot slot rest).pw.st = s.pw.st := by
  rw [State.trySlot, State.set_pw]

theorem State.get_trySlot (s : State) (slot : Nat) (rest : List Nat) (f : Fld) (other : f.addr ≠ F.SYS.BOOT_STATUS_STAGE.addr) : (s.trySlot slot rest).get f = s.get f := by
  rw [State.trySlot, State.get_set_addr _ _ _ _ other]
  rfl

theorem State.get_trySlot_bits (s : State) (slot : Nat) (rest : List Nat) (f : Fld) (other : F.SYS.BOOT_STATUS_STAGE.lo + F.SYS.BOOT_STATUS_STAGE.wd ≤ f.lo) :
    (s.trySlot slot rest).get f = s.get f := by
  rw [State.trySlot, State.get_set_bits _ F.SYS.BOOT_STATUS_STAGE f 2 (by decide) (.inl other)]
  rfl

theorem State.get_recordTaken (s : State) (copy seq active : Nat) (trial : Bool) (f : Fld) : (s.recordTaken copy seq active trial).get f = s.get f := rfl

theorem State.firstSlot_eq (s : State) (active : Nat) (trial : Bool) :
    s.firstSlot active trial = if trial = true ∧ s.pw.trialAttempt = true ∧ s.pw.boot.kind = .warm then 1 - active else active := by
  simp only [State.firstSlot, Bool.and_eq_true, beq_iff_eq, and_assoc]

/-! ### The check of a slot -/

theorem State.each_domainOff_pw (l : List Nat) (other : ∀ p ∈ l, p ≠ 64 ∧ p ≠ 66) (s : State) : ∃ r, (s.each l State.domainOff).pw = { s.pw with reload := r } := by
  induction l generalizing s with
  | nil => exact ⟨_, rfl⟩
  | cons p l ih =>
    obtain ⟨r, first⟩ := s.domainOff_pw p (other p List.mem_cons_self)
    obtain ⟨r', rest⟩ := ih (fun q hq => other q (List.mem_cons_of_mem p hq)) (s.domainOff p)
    exact ⟨r', rest.trans (by rw [first])⟩

/-- The firmware of a slot is released. -/
def released (pw : PowerSt) (slot : Nat) : PowerSt :=
  { pw with st := .booting, romOnly := false, running := BitVec.ofNat 8 slot, fw := none, boot := { pw.boot with phase := .selfTest, group := 0, slot := slot } }

theorem State.releaseFirmware_pw (s : State) (slot : Nat) : ∃ r, (s.releaseFirmware slot).pw = released { s.pw with reload := r } slot := by
  obtain ⟨r, off⟩ := s.each_domainOff_pw (List.range 64) (by decide)
  refine ⟨r, ?_⟩
  change released (s.each (List.range 64) State.domainOff).pw slot = released { s.pw with reload := r } slot
  rw [off]

theorem State.releaseFirmware_status (s : State) (slot : Nat) :
    (s.releaseFirmware slot).get F.SYS.BOOT_STATUS_STAGE = 5 ∧ (s.releaseFirmware slot).get F.SYS.BOOT_STATUS_ROM_ONLY = 0 := by
  generalize told : ((s.each (List.range 64) State.domainOff).set F.SYS.BOOT_STATUS_SLOT slot).set F.SYS.BOOT_STATUS_SOURCE (bit (slot == 2)) = u
  have word : (s.releaseFirmware slot).rd F.SYS.BOOT_STATUS_STAGE.addr =
      (((u.set F.SYS.BOOT_STATUS_ROM_ONLY 0).setFlag F.SYS.BOOT_STATUS_FALLBACK (slot != 2 && slot != (u.set F.SYS.BOOT_STATUS_ROM_ONLY 0).pw.boot.first)).set
        F.SYS.BOOT_STATUS_STAGE 5).rd F.SYS.BOOT_STATUS_STAGE.addr := by
    rw [← told]
    exact State.rd_wr_ne _ _ _ _ (by decide)
  constructor
  · rw [State.get, word]
    exact State.get_set_same _ F.SYS.BOOT_STATUS_STAGE 5 (by decide)
  · rw [State.get, show F.SYS.BOOT_STATUS_ROM_ONLY.addr = F.SYS.BOOT_STATUS_STAGE.addr from rfl, word]
    change State.get _ F.SYS.BOOT_STATUS_ROM_ONLY = 0
    rw [State.get_set_bits _ _ _ _ (by decide) (by decide), State.setFlag, State.get_set_bits _ _ _ _ (by decide) (by decide), State.get_set_same _ _ _ (by decide)]
    rfl

theorem State.verifyDone_of_pass (s : State) (fe : Bool) (phase : s.pw.boot.phase = .verify) (read : fe = false ∨ s.pw.boot.slot = 2)
    (pass : s.imageFault s.pw.boot.slot = none) : s.verifyDone fe = s.releaseFirmware s.pw.boot.slot := by
  have noError : (fe && s.pw.boot.slot != 2) = false := by
    obtain h | h := read <;> simp [h]
  unfold State.verifyDone
  rw [if_pos phase]
  dsimp only
  rw [noError, pass]
  rfl

/-- The fault of a slot, with its DETAIL. -/
def State.noteFault (s : State) (f : Nat × Nat) : State := (s.set F.SYS.BOOT_STATUS_CODE f.1).set F.SYS.BOOT_STATUS_DETAIL f.2

theorem State.verifyDone_of_fail (s : State) (fe : Bool) (phase : s.pw.boot.phase = .verify) (slot : s.pw.boot.slot ≠ 2) (f : Nat × Nat)
    (fault : (if fe = true then some (0x9C, 0) else s.imageFault s.pw.boot.slot) = some f) :
    s.verifyDone fe = match s.pw.boot.order with | n :: rest => (s.noteFault f).trySlot n rest | [] => (s.noteFault f).bootFailure := by
  have same : (if (fe && s.pw.boot.slot != 2) = true then some (0x9C, 0) else s.imageFault s.pw.boot.slot) = some f := by simpa [slot] using fault
  unfold State.verifyDone
  rw [if_pos phase]
  dsimp only
  rw [same]
  exact if_neg slot

theorem State.get_noteFault (s : State) (f : Nat × Nat) : (s.noteFault f).get F.SYS.BOOT_STATUS_CODE = f.1 % 256 := by
  rw [State.noteFault, State.get_set_bits _ _ _ _ (by decide) (by decide)]
  exact State.get_set_same _ F.SYS.BOOT_STATUS_CODE f.1 (by decide)

/-! ### The domains come on, and the self-test -/

theorem State.each_domainOn (l : List Nat) (s : State) :
    (s.each l State.domainOn).pw = s.pw ∧ ∀ q < 80, (s.each l State.domainOn).domOn q = (s.domOn q || l.contains q) := by
  induction l generalizing s with
  | nil => exact ⟨rfl, fun q _ => by simp [State.each]⟩
  | cons p l ih =>
    obtain ⟨pw, on⟩ := ih (s.domainOn p)
    refine ⟨pw.trans (s.domainOn_pw p), fun q known => (on q known).trans ?_⟩
    rw [s.domOn_domainOn p q known]
    simp [Bool.or_assoc, Bool.beq_eq_decide_eq]

theorem Answering.fence (s : State) (g : Nat) : Answering s (s.fence g) := by
  unfold State.fence
  split
  · exact .refl s
  · exact (Answering.set _ _ _).trans (.raise _ _ _ _)

theorem Answering.isolate (s : State) (i : Nat) (post : Bool) : Answering s (s.isolate i post) := by
  unfold State.isolate
  split
  · exact .refl s
  dsimp only
  generalize (if post then F.SLC.SLC_STAT_POST_ISO i else F.SLC.SLC_STAT_ECC_ISO i) = f
  have noted : Answering s ((((s.setBitAt (F.RX.SLICE_ISO_ISO (i / 32)) (i % 32) true).set (F.SLC.SLC_STAT_ISOLATED i) 1).set f 1).raise (EV_SLICE_ISOLATED (i / 32)) i 0) :=
    (((Answering.set _ _ _).trans (.set _ _ _)).trans (.set _ _ _)).trans (.raise _ _ _ _)
  split
  · exact noted.trans (.fence _ _)
  · exact noted

theorem Answering.postArray (s : State) (sl : BitVec 128) (rg : BitVec 4) : Answering s (s.postArray sl rg) := by
  unfold State.postArray
  refine Answering.trans ?_ (.set _ _ _)
  refine Answering.trans ?_ (.each _ _ Answering.fence _)
  refine Answering.trans ?_ (.set _ _ _)
  exact .each _ _ (fun u i => .isolate u i true) s

theorem Answering.postBits (s : State) (fail : BitVec 10) : Answering s (s.postBits fail) :=
  (((((((Answering.set _ _ _).trans (.set _ _ _)).trans (.set _ _ _)).trans (.set _ _ _)).trans (.set _ _ _)).trans (.set _ _ _)).trans (.set _ _ _)).trans (.set _ _ _)

theorem mem_calRow {rec : List Byte} {off : Nat} {fs : List Fld} {e : CalWord} (mem : e ∈ calRow rec off fs) : e.1 ∈ fs := by
  obtain ⟨x, inZip, rfl⟩ := List.mem_map.1 mem
  exact (List.of_mem_zip inZip).1

theorem mem_calHalf {rec : List Byte} {off : Nat} {fs : List Fld} {e : CalWord} (mem : e ∈ calHalf rec off fs) : e.1 ∈ fs := by
  obtain ⟨x, inZip, rfl⟩ := List.mem_map.1 mem
  exact (List.of_mem_zip inZip).1

/-! ### The calibration record -/

/-- The calibration record holds no word of the system block. -/
theorem calWords_high (rec : List Byte) : ∀ e ∈ calWords1 rec ++ calWords2 rec ++ calWords3 rec, 0x1000 ≤ e.1.addr := by
  have rows {off : Nat} {fs : List Fld} (high : ∀ f ∈ fs, 0x1000 ≤ f.addr) : ∀ e ∈ calRow rec off fs, 0x1000 ≤ e.1.addr := fun e mem => high _ (mem_calRow mem)
  have halves {off : Nat} {fs : List Fld} (high : ∀ f ∈ fs, 0x1000 ≤ f.addr) : ∀ e ∈ calHalf rec off fs, 0x1000 ≤ e.1.addr := fun e mem => high _ (mem_calHalf mem)
  simp only [List.forall_mem_append]
  refine ⟨⟨?_, ?_⟩, ?_⟩
  · unfold calWords1
    simp only [List.forall_mem_append, List.forall_mem_flatMap]
    refine ⟨⟨⟨rows ?_, rows (by decide)⟩, fun n _ => rows ?_⟩, fun n _ => ⟨rows ?_, rows ?_⟩⟩ <;> simp only [List.forall_mem_append, List.forall_mem_map]
    · intro r _; simp only [wordFld]; omega
    · intro i _; simp only [wordFld]; omega
    · refine ⟨fun i _ => by simp only [wordFld]; omega, ?_⟩
      simp only [List.mem_cons, List.not_mem_nil, or_false, forall_eq_or_imp, forall_eq, wordFld, F.LOOP.FB_LO, F.LOOP.FB_HI, F.LOOP.MEAS_DELTA, F.LOOP.DRIVE_DELTA, F.LOOP.REF_DELTA, F.LOOP.LOOP_PARK_PARK, F.LOOP.LOOP_SETTLE_N]
      omega
    · intro i _; simp only [F.LOOP.ACT]; omega
  · unfold calWords2
    simp only [List.forall_mem_append, List.forall_mem_flatMap]
    refine ⟨⟨⟨rows ?_, by simp only [List.mem_cons, List.not_mem_nil, or_false, forall_eq_or_imp, forall_eq, F.RX.REF_LIVE0_LIVE, F.RX.REF_LIVE1_LIVE, F.CAL.CAL_GEN, F.CAL.CAL_T_TDC]; decide⟩, fun c _ => ⟨⟨rows ?_, halves ?_⟩, halves ?_⟩⟩, fun g _ => rows ?_⟩
    · simp only [List.forall_mem_append, List.forall_mem_flatMap]
      refine ⟨⟨by decide, fun k _ => ?_⟩, by decide⟩
      simp only [List.mem_cons, List.not_mem_nil, or_false, forall_eq_or_imp, forall_eq, F.HK.SH_A, F.HK.SH_B, F.HK.SH_C]
      omega
    · simp only [List.mem_cons, List.not_mem_nil, or_false, forall_eq_or_imp, forall_eq, F.CH.CH_TAPMAP0_MAP, F.CH.CH_TAPMAP1_MAP, F.CH.CH_TAPMAP2_MAP]
      omega
    · simp only [List.mem_cons, List.not_mem_nil, or_false, forall_eq, F.CH.CH_TOFS_TOFS]
      omega
    · simp only [List.forall_mem_map, F.CH.LIN]
      omega
    · simp only [List.forall_mem_append, List.forall_mem_flatMap, List.forall_mem_map]
      refine ⟨fun i _ => by simp only [wordFld, F.PE.PE_RANGE_OFS_OFS]; omega, fun m _ => ?_⟩
      simp only [List.mem_cons, List.not_mem_nil, or_false, forall_eq_or_imp, forall_eq, F.KER.KTAP0_TAPS, F.KER.KTAP1_TAPS, F.KER.KTAP2_TAPS, F.KER.KTAP3_TAPS, F.KER.KREF]
      omega
  · unfold calWords3
    simp only [List.forall_mem_append, List.forall_mem_flatMap]
    refine ⟨⟨halves ?_, rows ?_⟩, fun r _ => ⟨fun q _ => ?_, ?_⟩⟩
    · simp only [List.forall_mem_map, F.ROW.ROW_TOFS_TOFS]
      omega
    · simp only [List.forall_mem_map, F.ROW.ROW_VTRIM_VTRIM]
      omega
    · simp only [List.mem_cons, List.not_mem_nil, or_false, forall_eq_or_imp, forall_eq, F.ROW.EN_LO, F.ROW.EN_HI]
      omega
    · simp only [List.mem_cons, List.not_mem_nil, or_false, forall_eq, F.ROW.ROW_STAT_DEGRADED]
      omega

/-- The words of the record in force, stored as far as their domain is wanted. -/
def State.calStore (s : State) (p : Nat → Bool) (rec : List Byte) : State :=
  s.each ((calWords1 rec ++ calWords2 rec ++ calWords3 rec).filter (fun e => p (domainOf e.1.addr))) (fun s e => s.set e.1 e.2)

theorem Quiet.calStore (s : State) (p : Nat → Bool) (rec : List Byte) : Quiet [] s (s.calStore p rec) := by
  refine each _ (fun (s : State) (e : CalWord) => s.set e.1 e.2) (fun u e mem => ?_) s
  exact set u e.1 e.2 (calWords_high rec e (List.mem_of_mem_filter mem))

/-- Loop 2 starts from its stored set-point. -/
def State.loopStored (s : State) : State := s.setLoop 2 { s.loop 2 with sp := s.getI (F.LOOP.LOOP_SP_SP 2) }

theorem State.calLoad_eq (s : State) (p : Nat → Bool) : s.calLoad p =
    (((s.calStore p (s.calBytes 0 0x10000)).when (p 67) State.loopStored).when (p 69) fun s => s.each (List.range 12) State.endLin) := rfl

theorem State.loopStored_pw (s : State) : s.loopStored.pw = s.pw := rfl

theorem State.loopStored_regs (s : State) : s.loopStored.regs = s.regs := rfl

theorem Quiet.calLoad (s : State) (p : Nat → Bool) : Quiet [] s (s.calLoad p) := by
  rw [State.calLoad_eq]
  refine Quiet.trans ?_ (when _ (fun u => each _ _ (fun v c _ => set v (F.CH.CH_STAT_LIN_VALID c) _ (by simp only [F.CH.CH_STAT_LIN_VALID]; omega)) u) _)
  exact (calStore s p _).trans (whenKeeping _ _ State.loopStored_pw State.loopStored_regs _)

/-- Copy `i` is the one in force. -/
def State.withCopy (s : State) (i : Nat) : State := { s with cal := { s.cal with copy := i } }

theorem Quiet.withCopy (s : State) (i : Nat) : Quiet [] s (s.withCopy i) := of_regs rfl rfl

/-- What is loaded where copy `i` is chosen, if any. -/
def State.loadChosen (s : State) (p : Nat → Bool) : Option Nat → State
  | some i => (s.withCopy i).calLoad p
  | none => s

theorem State.loadCal_eq (s : State) (p : Nat → Bool) : s.loadCal p = s.loadChosen p s.calChoose.2 := by
  suffices all : @State.loadCal = fun s p => s.loadChosen p s.calChoose.2 by rw [all]
  delta State.loadCal
  funext s p
  generalize s.calChoose.2 = c
  cases c <;> rfl

theorem Quiet.loadCal (s : State) (p : Nat → Bool) : Quiet [] s (s.loadCal p) := by
  rw [State.loadCal_eq]
  generalize s.calChoose.2 = c
  cases c with
  | some i => exact (withCopy s i).trans (calLoad _ p)
  | none => exact .refl s

/-! ### The self-test -/

/-- POST_RESULT tells of the self-test. -/
def State.tested (s : State) (sl : BitVec 128) (rg : BitVec 4) (fail : BitVec 10) : State := (s.postArray sl rg).postBits fail

/-- The record in force is loaded, and the boot is in its last stage. -/
def State.lastStage (s : State) : State := (s.loadCal s.domOn).newNonce.noteBrownout.set F.SYS.BOOT_STATUS_STAGE 6

/-- The word of POST_RESULT that decides between READY and SAFE_HOLD. -/
def State.post (s : State) : Nat := (s.rd F.SYS.POST_RESULT_CAL.addr).toNat

/-- The self-test holds the device in SAFE_HOLD. -/
def State.holdAfterTest (s : State) (post : Nat) : State :=
  let s : State := { s with pw := { s.pw with st := .safeHold, cause := 2, boot := { s.pw.boot with phase := .idle } } }
  (s.raise EV_STATE_CHANGE 0 0x203).raise EV_POST_FAILURE 0 post

/-- The device reaches READY, before the events tell of it. -/
def State.readyNow (s : State) (us : Nat) : State :=
  let c := s.pw.boot.causeAfter
  let s := s.firmwareReady.set F.SYS.BOOT_TIME_TIME us
  { s with pw := { s.pw with st := .ready, cause := c, boot := { s.pw.boot with phase := .idle } } }

/-- The self-test ends in READY. -/
def State.readyAfterTest (s : State) (us : Nat) : State :=
  ((s.readyNow us).raise EV_BOOT_COMPLETE 0 (min 65535 (us / 1000))).raise EV_STATE_CHANGE 0 (256 * s.pw.boot.causeAfter.toNat + 1)

section
variable (s : State) (sl : BitVec 128) (rg : BitVec 4) (fail : BitVec 10) (us : Nat)

theorem State.selfTestDone_eq (st : s.pw.st = .booting) (phase : s.pw.boot.phase = .selfTest) (group : s.pw.boot.group = 8) :
    s.selfTestDone sl rg fail us =
      if (s.tested sl rg fail).post &&& postHold ≠ 0 then (s.tested sl rg fail).lastStage.holdAfterTest (s.tested sl rg fail).post
      else (s.tested sl rg fail).lastStage.readyAfterTest us := if_pos ⟨st, phase, group⟩

theorem Quiet.lastStage : Quiet [F.SYS.BOOT_STATUS_STAGE.addr] s s.lastStage := by
  refine Quiet.trans ?_ (setMem _ _ _ (by decide))
  exact (((loadCal s _).trans (newNonce _)).trans (noteBrownout _)).mono (List.nil_subset _)

theorem State.tested_pw : (s.tested sl rg fail).pw = s.pw := ((Answering.postArray s sl rg).trans (.postBits _ fail)).pw_eq

theorem State.calChoose_congr {s t : State} (flash : t.flash = s.flash) : t.calChoose = s.calChoose := by
  have read (a n : Nat) : t.flashRead a n = s.flashRead a n := by rw [State.flashRead, State.flashRead, flash]
  have valid (i : Nat) : t.calValid i = s.calValid i := by rw [State.calValid, read]; rfl
  have gen (i : Nat) : t.calGenOf i = s.calGenOf i := by rw [State.calGenOf, read]; rfl
  simp only [State.calChoose, valid, gen]

theorem State.get_tested_cal : (s.tested sl rg fail).get F.SYS.POST_RESULT_CAL = bit (s.calChoose.1.length == 0) := by
  rw [State.tested, State.postBits]
  simp only [State.setFlag]
  rw [State.get_set_bits _ _ _ _ (by decide) (by decide), State.get_set_same _ _ _ (by decide), State.calChoose_congr (Answering.postArray s sl rg).flash_eq]
  cases s.calChoose.1.length == 0 <;> rfl

/-- What no test of the array writes of POST_RESULT, where no other test failed. -/
theorem State.get_tested_bit (i : Nat) (mem : i ∈ [2, 3, 4, 5, 6]) : (s.tested sl rg 0).get ⟨0x14C, i, 1⟩ = 0 := by
  rw [State.tested, State.postBits]
  simp only [List.mem_cons, List.not_mem_nil, or_false] at mem
  simp only [State.setFlag, F.SYS.POST_RESULT_REFTDC, F.SYS.POST_RESULT_LOOP, F.SYS.POST_RESULT_LIMITER, F.SYS.POST_RESULT_MEMORY, F.SYS.POST_RESULT_SAFETY_REGION,
    F.SYS.POST_RESULT_CAL_COPY, F.SYS.POST_RESULT_CAL, F.SYS.POST_RESULT_SAFETY_CONFIG]
  obtain rfl | rfl | rfl | rfl | rfl := mem <;> simp (disch := decide) only [State.get_set_same, State.get_set_bits] <;> simp [bit]

theorem State.get_post (s : State) (i : Nat) : s.get ⟨0x14C, i, 1⟩ = bit (s.post.testBit i) := by
  rw [State.get, bitsOf, State.post, Nat.testBit_eq_decide_div_mod_eq]
  change (s.rd 0x14C).toNat / 2 ^ i % 2 = bit (decide ((s.rd 0x14C).toNat / 2 ^ i % 2 = 1))
  obtain h | h := Nat.mod_two_eq_zero_or_one ((s.rd 0x14C).toNat / 2 ^ i) <;> simp [h, bit]

/-- The tests whose failure holds the device in SAFE_HOLD all passed (Table 3-11). -/
theorem State.post_pass (s : State) (pass : ∀ i ∈ [2, 3, 4, 5, 6, 8], s.get ⟨0x14C, i, 1⟩ = 0) : s.post &&& postHold = 0 := by
  refine Nat.eq_of_testBit_eq fun i => ?_
  rw [Nat.testBit_and, Nat.zero_testBit]
  by_cases mem : i ∈ [2, 3, 4, 5, 6, 8]
  · have zero := s.get_post i
    rw [pass i mem] at zero
    cases h : s.post.testBit i with
    | true => rw [h] at zero; cases zero
    | false => rfl
  · have none : postHold.testBit i = false := by
      by_cases small : i < 9
      · exact (by decide : ∀ i < 9, i ∉ [2, 3, 4, 5, 6, 8] → postHold.testBit i = false) i small mem
      · exact Nat.testBit_eq_false_of_lt ((by decide : postHold < 2 ^ 9).trans_le (Nat.pow_le_pow_right (by decide) (by omega)))
    rw [none, Bool.and_false]

/-- Without a copy of the calibration record the self-test fails. -/
theorem State.post_fail (s : State) (cal : s.get F.SYS.POST_RESULT_CAL = 1) : s.post &&& postHold ≠ 0 := by
  have hold := s.get_post 8
  rw [show (⟨0x14C, 8, 1⟩ : Fld) = F.SYS.POST_RESULT_CAL from rfl, cal] at hold
  intro zero
  have bit8 := congrArg (fun x => Nat.testBit x 8) zero
  simp only [Nat.testBit_and, Nat.zero_testBit] at bit8
  cases h : s.post.testBit 8 with
  | true => rw [h] at bit8; exact absurd bit8 (by decide)
  | false => rw [h] at hold; cases hold

theorem State.writeBootRecord_regs (s : State) (slot : Nat) (trial : Bool) : (s.writeBootRecord slot trial).regs = s.regs := rfl

theorem State.writeBootRecord_pw (s : State) (slot : Nat) (trial : Bool) : (s.writeBootRecord slot trial).pw = s.pw := rfl

theorem State.firmwareReady_regs (s : State) : s.firmwareReady.regs = s.regs := by
  have written (b : Bool) (u : State) : (u.when b fun t => t.writeBootRecord u.pw.boot.slot false).regs = u.regs := by cases b <;> rfl
  unfold State.firmwareReady
  dsimp only
  split
  · exact written _ s
  · exact written _ s

theorem State.readyNow_pw (s : State) (us : Nat) :
    (s.readyNow us).pw.st = .ready ∧ (s.readyNow us).pw.cause = s.pw.boot.causeAfter ∧ (s.readyNow us).pw.boot.phase = .idle := ⟨rfl, rfl, rfl⟩

theorem Quiet.readyAfterTest (s : State) (us : Nat) : Quiet [] (s.readyNow us) (s.readyAfterTest us) := (raise _ _ _ _).trans (raise _ _ _ _)

theorem State.holdAfterTest_kept (s : State) (post : Nat) : (s.holdAfterTest post).pw.st = .safeHold ∧ (s.holdAfterTest post).pw.cause = 2 ∧
    (s.holdAfterTest post).pw.boot.phase = .idle ∧ ∀ f : Fld, f.addr < 0x1000 → (s.holdAfterTest post).get f = s.get f := by
  have told (u : State) : Quiet [] u ((u.raise EV_STATE_CHANGE 0 0x203).raise EV_POST_FAILURE 0 post) := (Quiet.raise _ _ _ _).trans (Quiet.raise _ _ _ _)
  unfold State.holdAfterTest
  dsimp only
  rw [(told _).pw]
  refine ⟨rfl, rfl, rfl, fun f low => ?_⟩
  rw [(told _).get f low (List.not_mem_nil)]
  rfl

theorem State.rd_readyNow (s : State) (us a : Nat) (other : a ≠ F.SYS.BOOT_TIME_TIME.addr) : (s.readyNow us).rd a = s.rd a := by
  refine (State.rd_congr rfl a).trans ((State.rd_set_ne _ _ _ a other).trans (State.rd_congr s.firmwareReady_regs a))

end

theorem State.readyNow_regs (s : State) (us : Nat) : (s.readyNow us).regs = (s.firmwareReady.set F.SYS.BOOT_TIME_TIME us).regs := rfl

theorem State.get_readyNow_time (s : State) (us : BitVec 32) : (s.readyNow us.toNat).get F.SYS.BOOT_TIME_TIME = us.toNat := by
  rw [State.get, State.rd_congr (State.readyNow_regs s us.toNat)]
  exact (State.get_set_same _ F.SYS.BOOT_TIME_TIME us.toNat (by decide)).trans (Nat.mod_eq_of_lt us.isLt)

theorem State.get_lastStage (s : State) : s.lastStage.get F.SYS.BOOT_STATUS_STAGE = 6 := State.get_set_same _ F.SYS.BOOT_STATUS_STAGE 6 (by decide)

/-- Settles O19: the ROM and the self-test write the power controller as the clauses say, and what follows them there (nonces, events, domains) touches neither it nor the words that tell of the boot. -/
theorem bootSequence : Obligations.BootSequence := by
  unfold Obligations.BootSequence
  refine ⟨.of_effect (fun _ => rfl) fun s h => ?_, .of_effect (fun _ => rfl) fun s h => ?_, fun copy seq active trial => .of_effect (fun _ => rfl) fun s h => ?_,
    fun fe => ⟨.of_effect (fun _ => rfl) fun s h => ?_, fun f n rest => .of_effect (fun _ => rfl) fun s h => ?_, fun f => .of_effect (fun _ => rfl) fun s h => ?_⟩,
    .of_effect (fun _ => rfl) fun s h => ?_, fun sl rg us => ⟨.of_effect (fun _ => rfl) fun s h => ?_, fun fail => .of_effect (fun _ => rfl) fun s h => ?_⟩⟩
  case refine_1 =>
    obtain ⟨st, phase, latch⟩ := h
    rw [s.bootRom_of_latch st phase latch]
    have noted := Quiet.noteBrownout (s.romStart.set F.SYS.RST_CAUSE_THERMAL 1)
    refine ⟨by rw [State.romState_pw], ?_, by rw [State.romState_pw], ?_, ?_⟩
    · rw [State.romState_pw, BitVec.ofNat_toNat, BitVec.setWidth_eq]
    · rw [State.get_romState _ _ _ _ _ (by decide), State.get_set_addr _ _ _ _ (by decide), noted.get _ (by decide) (by decide), State.get_set_same _ _ _ (by decide)]
      rfl
    · rw [State.get_romState _ _ _ _ _ (by decide), State.get_set_same _ _ _ (by decide)]
      rfl
  case refine_2 =>
    obtain ⟨st, phase, latch, strap⟩ := h
    rw [s.bootRom_of_strap st phase latch strap, State.awaitDownload_pw]
    exact ⟨rfl, rfl, rfl, rfl⟩
  case refine_3 =>
    obtain ⟨st, phase, latch, strap, record⟩ := h
    rw [s.bootRom_of_record st phase latch strap copy seq active trial record]
    obtain ⟨xtal, locked⟩ := s.romStart_clocks
    refine ⟨st, rfl, ?_, ?_, ?_, s.firstSlot_eq active trial, rfl⟩
    · rw [State.trySlot, State.get_set_same _ _ _ (by decide)]
      rfl
    · rw [State.get_trySlot _ _ _ _ (by decide), State.get_recordTaken]
      exact xtal
    · rw [State.bitAt, State.get_trySlot _ _ _ _ (by decide), State.get_recordTaken]
      exact locked
  case refine_4 =>
    obtain ⟨phase, read, pass⟩ := h
    rw [s.verifyDone_of_pass fe phase read pass]
    obtain ⟨r, pw⟩ := s.releaseFirmware_pw s.pw.boot.slot
    obtain ⟨stage, rom⟩ := s.releaseFirmware_status s.pw.boot.slot
    rw [pw]
    exact ⟨rfl, rfl, rfl, rfl, rfl, stage, rom⟩
  case refine_5 =>
    obtain ⟨phase, slot, fault, order⟩ := h
    have next : s.verifyDone fe = (s.noteFault f).trySlot n rest := by rw [s.verifyDone_of_fail fe phase slot f fault, order]
    rw [next]
    refine ⟨rfl, rfl, rfl, ?_, ?_⟩
    · rw [State.get_trySlot_bits _ _ _ _ (by decide), State.get_noteFault]
    · rw [State.trySlot_st, State.noteFault, State.set_pw, State.set_pw]
  case refine_6 =>
    obtain ⟨phase, slot, fault, order⟩ := h
    rw [s.verifyDone_of_fail fe phase slot f fault, order]
    exact State.bootFailure_pw _
  case refine_7 =>
    rw [show s.domainGroup = { s.each (((domainOrder.drop (10 * s.pw.boot.group)).take 10).filter s.domReq) State.domainOn with
      pw := { (s.each (((domainOrder.drop (10 * s.pw.boot.group)).take 10).filter s.domReq) State.domainOn).pw with
        boot := { (s.each (((domainOrder.drop (10 * s.pw.boot.group)).take 10).filter s.domReq) State.domainOn).pw.boot with group := s.pw.boot.group + 1 } } } from if_pos h]
    refine ⟨rfl, fun p mem req => ?_⟩
    have known : p < 80 := (by decide : ∀ p ∈ domainOrder, p < 80) p (List.mem_of_mem_drop (List.mem_of_mem_take mem))
    refine (State.domOn_congr (fun a _ => State.rd_congr rfl a) ⟨p, known⟩).trans ((State.each_domainOn _ s).2 p known |>.trans ?_)
    simp [mem, req]
  case refine_8 =>
    obtain ⟨st, phase, group, copies⟩ := h
    have cal : (s.tested sl rg 0).get F.SYS.POST_RESULT_CAL = 0 := by
      rw [State.get_tested_cal, beq_false_of_ne (by simpa using copies)]
      rfl
    have pass : (s.tested sl rg 0).post &&& postHold = 0 := State.post_pass _ (by
      simpa [F.SYS.POST_RESULT_CAL] using ⟨s.get_tested_bit sl rg 2 (by decide), s.get_tested_bit sl rg 3 (by decide), s.get_tested_bit sl rg 4 (by decide),
        s.get_tested_bit sl rg 5 (by decide), s.get_tested_bit sl rg 6 (by decide), cal⟩)
    have ready := Quiet.readyAfterTest (s.tested sl rg 0).lastStage us.toNat
    obtain ⟨st', cause', phase'⟩ := (s.tested sl rg 0).lastStage.readyNow_pw us.toNat
    rw [s.selfTestDone_eq sl rg 0 us.toNat st phase group, if_neg (not_not_intro pass), ready.pw, ready.get _ (by decide) List.not_mem_nil,
      ready.get _ (by decide) List.not_mem_nil]
    refine ⟨st', ?_, phase', ?_, ?_⟩
    · rw [cause', (Quiet.lastStage _).pw, State.tested_pw]
    · rw [State.get, State.rd_readyNow _ _ _ (by decide)]
      exact State.get_lastStage _
    · exact State.get_readyNow_time _ us
  case refine_9 =>
    obtain ⟨st, phase, group, copies⟩ := h
    have cal : (s.tested sl rg fail).get F.SYS.POST_RESULT_CAL = 1 := by
      rw [State.get_tested_cal, copies]
      rfl
    obtain ⟨st', cause', phase', kept⟩ := (s.tested sl rg fail).lastStage.holdAfterTest_kept (s.tested sl rg fail).post
    rw [s.selfTestDone_eq sl rg fail us.toNat st phase group, if_pos (State.post_fail _ cal)]
    refine ⟨st', cause', phase', ?_⟩
    rw [kept _ (by decide), (Quiet.lastStage _).get _ (by decide) (by decide), cal]

end Sys2Proof.Machine
end

section
/-! PROOFS. REG_WRITE (R52, R53): the checks that a legal write passes, and what is stored. -/

namespace Sys2Proof.Machine

/-! ### The payload -/

theorem bytesWords_wordBytes (vs : List Word) : bytesWords (wordBytes vs) = vs := by
  induction vs with
  | nil => rfl
  | cons v vs ih =>
    have word : BitVec.ofNat 32 (ofBe (beBytes 4 v.toNat)) = v := by rw [ofBe_beBytes_four, BitVec.ofNat_toNat, BitVec.setWidth_eq]
    rw [wordBytes, List.flatMap_cons, ← wordBytes]
    change BitVec.ofNat 32 (ofBe (beBytes 4 v.toNat)) :: bytesWords (wordBytes vs) = _
    rw [word, ih]

section
variable (a : Nat) (vs : List Word) (low : a < 2 ^ 32) (few : vs.length ≤ 256)
include low few

/-- The fields of a REG_WRITE payload come out as they went in. -/
theorem regWritePayload_fields : u32 (regWritePayload a vs) 0 = a ∧ u16 (regWritePayload a vs) 4 = vs.length ∧
    notZero (regWritePayload a vs) 6 2 = false ∧ bytesWords ((regWritePayload a vs).drop 8) = vs := by
  have addr := ofBe_beBytes_four (BitVec.ofNat 32 a)
  have count := ofBe_beBytes_two (BitVec.ofNat 16 vs.length)
  rw [BitVec.toNat_ofNat, Nat.mod_eq_of_lt low] at addr
  rw [BitVec.toNat_ofNat, Nat.mod_eq_of_lt (by omega)] at count
  have at_ : u32 (regWritePayload a vs) 0 = ofBe (beBytes 4 a) := rfl
  have count_ : u16 (regWritePayload a vs) 4 = ofBe (beBytes 2 vs.length) := rfl
  have rest : (regWritePayload a vs).drop 8 = wordBytes vs := rfl
  have pad : beAt (regWritePayload a vs) 6 2 = 0 := rfl
  refine ⟨at_.trans addr, count_.trans count, ?_, ?_⟩
  · rw [notZero, pad]; rfl
  · rw [rest, bytesWords_wordBytes]

variable (u : State) (some : vs ≠ []) (aligned : a % 4 = 0) (one : oneBlock a vs.length = true)
  (unlocked : (wordAddrs a vs.length).any lockedWord = false) (on : u.touchesOff a vs.length = false) (taken : u.writeRefused a vs = false)
include some aligned one unlocked on taken

theorem cmdRegWrite_inBlock : cmdRegWrite u (regWritePayload a vs) = (u.hostWrites a vs).done [] := by
  obtain ⟨addr, count, zero, words⟩ := regWritePayload_fields a vs low few
  have block := findBlk_isSome_of_oneBlock a vs.length one
  simp only [cmdRegWrite, addr, count, zero, words]
  refine u.guarded_pass _ _ ?_
  simp [State.writeChecks, rangeChecks, badParam, State.badState, on, taken, aligned, block, one, unlocked, some, few]

end

/-- Only a write of PWR_DOM_REQ is refused by R18. -/
theorem State.writeRefused_other (u : State) (a : Nat) (vs : List Word) (other : a + 4 * vs.length ≤ 0x110 ∨ 0x11C ≤ a) : u.writeRefused a vs = false := by
  rw [State.writeRefused, List.any_eq_false]
  rintro ⟨x, v⟩ mem
  obtain ⟨i, inRange, rfl⟩ := List.mem_map.1 (List.of_mem_zip mem).1
  rw [List.mem_range] at inRange
  simp only [Bool.and_eq_true, decide_eq_true_eq, not_and, Bool.not_eq_true]
  omega

theorem unlocked_of_range (a n : Nat) (other : (a + 4 * n ≤ 0x24600 ∨ 0x24640 ≤ a) ∧ (a + 4 * n ≤ 0x5000000 ∨ 0x5004000 ≤ a)) : (wordAddrs a n).any lockedWord = false := by
  rw [List.any_eq_false]
  intro x mem
  obtain ⟨i, inRange, rfl⟩ := List.mem_map.1 mem
  rw [List.mem_range] at inRange
  simp only [lockedWord, Bool.or_eq_true, Bool.and_eq_true, decide_eq_true_eq, Bool.not_eq_true']
  omega

/-- A register-write row that passes the checks stores its words. -/
theorem Writes.of_store {c : Instr} {via : Port} {seq : BitVec 16} {a : Nat} {vs : List Word} {h : State → Prop} {e : State → State → Prop}
    (row : asPacket c = some ⟨via, seq, 0x0009, regWritePayload a vs⟩) (low : a < 2 ^ 32) (few : vs.length ≤ 256) (some : vs ≠ []) (aligned : a % 4 = 0)
    (one : oneBlock a vs.length = true) (unlocked : (wordAddrs a vs.length).any lockedWord = false) (taken : ∀ u, h u → u.writeRefused a vs = false)
    (effect : ∀ u, u.noStep (wordAddrs a vs.length) = true → h u → e u (u.hostWrites a vs)) : Writes c a vs.length h e :=
  .of_handler row fun u ⟨on, noStep, hu⟩ => ⟨_, cmdRegWrite_inBlock a vs low few u some aligned one unlocked on (taken u hu), effect u noStep hu⟩

/-! ### What is stored -/

theorem State.calHostWrite_of_noStep (u : State) (ws : List Nat) (a : Nat) (mem : a ∈ ws) (noStep : u.noStep ws = true) : u.calHostWrite a = u := by
  have none : u.cal.steps.any (fun e => e.1 == a) = false := by
    rw [State.noStep, Bool.not_eq_true', List.any_eq_false] at noStep
    rw [List.any_eq_false]
    intro e he same
    exact noStep e he (by simpa [eq_of_beq same] using mem)
  rw [State.calHostWrite, none]
  rfl

/-- A word that no table judges at the end of its write. -/
def plainWord (a : Nat) : Prop := cellMapAt a = none ∧ tapMapAt a = none ∧ linAddr a = none

theorem plainWord_of_range (a : Nat) (other : (a < 0x41000 ∨ 0x42800 ≤ a) ∧ (a < 0x1000000 ∨ 0x1800000 ≤ a)) : plainWord a := by
  refine ⟨if_neg ?_, if_neg ?_, if_neg ?_⟩ <;> omega

theorem State.hostWrites_one (u : State) (a : Nat) (v : Word) (plain : plainWord a) : u.hostWrites a [v] = u.hostStore a v := by
  obtain ⟨cell, tap, lin⟩ := plain
  simp [State.hostWrites, State.endWrite, wordAddrs, cell, tap, lin, State.storeWords, State.each]

/-- A register-write row of one word that no table judges. -/
theorem Writes.of_word {c : Instr} {via : Port} {seq : BitVec 16} {a : Nat} {v : Word} {h : State → Prop} {e : State → State → Prop}
    (row : asPacket c = some ⟨via, seq, 0x0009, regWritePayload a [v]⟩) (low : a < 2 ^ 32) (aligned : a % 4 = 0) (one : oneBlock a 1 = true)
    (unlocked : lockedWord a = false) (taken : ∀ u, h u → u.writeRefused a [v] = false) (plain : plainWord a)
    (effect : ∀ u, u.calHostWrite a = u → h u → e u (u.hostStore a v)) : Writes c a 1 h e :=
  .of_store (vs := [v]) row low (Nat.le_of_ble_eq_true rfl) (List.cons_ne_nil _ _) aligned one (by simpa [wordAddrs] using unlocked) taken fun u noStep hu => by
    rw [State.hostWrites_one u a v plain]
    exact effect u (u.calHostWrite_of_noStep [a] a (List.mem_singleton.2 rfl) (by simpa [wordAddrs] using noStep)) hu

/-! ### The rules of a block (Table 20-4) -/

section
variable (u : State) (a : Nat) (v : Word) (noStep : u.calHostWrite a = u)
include noStep

theorem State.hostStore_emitter (low : 0x20000 ≤ a) (high : a < 0x24600) : u.hostStore a v = u.wrEmitter a v := by
  rw [State.hostStore, noStep]
  rw [if_neg (by omega), if_pos ⟨low, high⟩]

theorem State.hostStore_loop (low : 0x30000 ≤ a) (high : a < 0x32000) (other : a % 0x400 ≠ 4) : u.hostStore a v = u.wrLoop a v := by
  rw [State.hostStore, noStep]
  iterate 2 rw [if_neg (by omega)]
  rw [if_pos ⟨low, high⟩, if_neg other]

theorem State.hostStore_ranging (low : 0x40000 ≤ a) (high : a < 0x60000) : u.hostStore a v = u.wrRanging a v := by
  rw [State.hostStore, noStep]
  iterate 3 rw [if_neg (by omega)]
  rw [if_pos ⟨low, high⟩]

theorem State.hostStore_row (low : 0x1000000 ≤ a) (high : a < 0x1800000) (row : 0x8000 ≤ a % 0x10000 ∧ a % 0x10000 < 0x8800) : u.hostStore a v = u.wrRow a v := by
  rw [State.hostStore, noStep]
  iterate 4 rw [if_neg (by omega)]
  rw [if_pos ⟨low, high⟩, if_pos row]

theorem State.hostStore_slice (low : 0x1000000 ≤ a) (high : a < 0x1800000) (slice : ¬ (0x8000 ≤ a % 0x10000 ∧ a % 0x10000 < 0x8800)) : u.hostStore a v = u.wrSlice a v := by
  rw [State.hostStore, noStep]
  iterate 4 rw [if_neg (by omega)]
  rw [if_pos ⟨low, high⟩, if_neg slice]

theorem State.hostStore_points (low : 0x2000000 ≤ a) (high : a < 0x2000400) : u.hostStore a v = u.wrPoints a v := by
  rw [State.hostStore, noStep]
  iterate 5 rw [if_neg (by omega)]
  rw [if_pos ⟨low, high⟩]

theorem State.hostStore_vision (low : 0x3000000 ≤ a) (high : a < 0x4000000) : u.hostStore a v = u.wrVision a v := by
  rw [State.hostStore, noStep]
  iterate 6 rw [if_neg (by omega)]
  rw [if_pos ⟨low, high⟩]

theorem State.hostStore_links (low : 0x4000000 ≤ a) (high : a < 0x5000000) : u.hostStore a v = u.wrLinks a v := by
  rw [State.hostStore, noStep]
  iterate 7 rw [if_neg (by omega)]
  rw [if_pos ⟨low, high⟩]

theorem State.hostStore_hk (low : 0x6000000 ≤ a) (high : a < 0x7000000) : u.hostStore a v = u.wrHk a v := by
  rw [State.hostStore, noStep]
  iterate 8 rw [if_neg (by omega)]
  rw [if_pos ⟨low, high⟩]

theorem State.hostStore_fm (low : 0x7000000 ≤ a) (high : a < 0x7001000) : u.hostStore a v = u.wrFm a v := by
  rw [State.hostStore, noStep]
  iterate 9 rw [if_neg (by omega)]
  rw [if_pos ⟨low, high⟩]

end

end Sys2Proof.Machine
end

section
/-! PROOFS. Clock monitors, PLLs and power domains (chapter 1). -/

namespace Sys2Proof.Machine

/-! ### Registers alone -/

section
variable {s t u : State} {ws vs : List Nat}

theorem OnlyRegs.trans (first : OnlyRegs s t ws) (second : OnlyRegs t u ws) : OnlyRegs s u ws := by
  refine ⟨?_, fun a other => (second.2 a other).trans (first.2 a other)⟩
  rw [second.1, first.1]

theorem OnlyRegs.mono (sub : ws ⊆ vs) (h : OnlyRegs s t ws) : OnlyRegs s t vs := ⟨h.1, fun a other => h.2 a fun mem => other (sub mem)⟩

theorem OnlyRegs.refl (s : State) (ws : List Nat) : OnlyRegs s s ws := ⟨rfl, fun _ _ => rfl⟩

theorem OnlyRegs.set (s : State) (f : Fld) (x : Nat) (mem : f.addr ∈ ws) : OnlyRegs s (s.set f x) ws :=
  (s.onlyRegs_set f x).mono (by simpa using mem)

theorem OnlyRegs.when (b : Bool) {f : State → State} (h : OnlyRegs s (f s) ws) : OnlyRegs s (s.when b f) ws := by
  cases b
  · exact .refl s ws
  · exact h

theorem OnlyRegs.get (h : OnlyRegs s t ws) (f : Fld) (other : f.addr ∉ ws) : t.get f = s.get f := by rw [State.get, h.2 _ other]; rfl

end

/-- A signed value that its field can hold reads back as written. -/
theorem State.getI_setI (s : State) (f : Fld) (x : Int) (fits : f.fits = true) (least : -2 ^ f.wd ≤ 2 * x) (most : 2 * x < 2 ^ f.wd) : (s.setI f x).getI f = x := by
  have pow : (2 : Int) ^ f.wd = ((2 ^ f.wd : Nat) : Int) := by push_cast; rfl
  have small : unsigned f.wd x < 2 ^ f.wd := by
    have := Int.emod_lt_of_pos x (show (0 : Int) < 2 ^ f.wd by positivity)
    have := Int.emod_nonneg x (show (2 : Int) ^ f.wd ≠ 0 by positivity)
    rw [unsigned]
    omega
  rw [State.getI, State.setI, s.get_set_same f _ fits, Nat.mod_eq_of_lt small, signed, unsigned]
  obtain pos | neg := lt_or_ge x 0
  · have residue : x % 2 ^ f.wd = x + 2 ^ f.wd := by
      rw [← Int.add_emod_right, Int.emod_eq_of_lt] <;> omega
    rw [residue, if_neg (by omega)]
    omega
  · have residue : x % 2 ^ f.wd = x := Int.emod_eq_of_lt neg (by omega)
    rw [residue, if_pos (by omega)]
    omega

/-- A bit of a field. -/
theorem bitsOf_mod (x wd k : Nat) (hk : k < wd) : bitsOf (x % 2 ^ wd) k 1 = bitsOf x k 1 := by
  obtain ⟨m, rfl⟩ := Nat.exists_eq_add_of_lt hk
  rw [bitsOf, show k + m + 1 = k + (m + 1) from rfl, Nat.pow_add, Nat.mod_mul_right_div_self, pow_one, Nat.mod_mod_of_dvd _ (dvd_pow_self 2 (Nat.succ_ne_zero m)), bitsOf, pow_one]

theorem bitsOf_bitsOf (v lo wd k : Nat) (hk : k < wd) : bitsOf (bitsOf v lo wd) k 1 = bitsOf v (lo + k) 1 := by
  rw [bitsOf.eq_1 v lo wd, bitsOf_mod _ _ _ hk, bitsOf, bitsOf, Nat.div_div_eq_div_mul, ← Nat.pow_add]

theorem bitsOf_one_eq (v k : Nat) : (bitsOf v k 1 == 1) = v.testBit k := by
  rw [Nat.testBit_eq_decide_div_mod_eq, bitsOf, pow_one]
  rfl

theorem State.bitAt_setBitAt (s : State) (f : Fld) (i j : Nat) (b : Bool) (fits : f.fits = true) (hj : j < f.wd) :
    (s.setBitAt f i b).bitAt f j = if j = i then b else s.bitAt f j := by
  have low (x k : Nat) (hk : k < f.wd) : x % 2 ^ f.wd / 2 ^ k % 2 = bitsOf x k 1 := bitsOf_mod x f.wd k hk
  rw [State.bitAt, State.setBitAt, s.get_set_same f _ fits, low _ j hj]
  split
  next same =>
    rw [same, bitsOf_withBits_same]
    cases b <;> rfl
  next other =>
    rw [bitsOf_withBits_ne _ _ _ _ _ _ (by omega)]
    rfl

/-! ### PLLs and clock monitors -/

theorem State.pllsWanted_iff (s : State) (k : Nat) : s.pllsWanted.testBit k = true ↔ s.pllsWanted / 2 ^ k % 2 = 1 := by
  rw [Nat.testBit_eq_decide_div_mod_eq, decide_eq_true_eq]

/-- What a comparison of the monitors stores. -/
def State.compared (s : State) (dev : Int) : State := (s.setI F.SYS.CLK_MON_SAFE_DEV dev).when (decide (300 < dev.natAbs)) (fun s => s.inc F.SYS.CLK_MON_FAIL)

theorem State.compared_safeDev (s : State) (dev : BitVec 16) : (s.compared dev.toInt).getI F.SYS.CLK_MON_SAFE_DEV = dev.toInt := by
  have stored := s.getI_setI F.SYS.CLK_MON_SAFE_DEV dev.toInt (by decide) BitVec.le_two_mul_toInt BitVec.two_mul_toInt_lt
  have kept (b : Bool) (u : State) : (u.when b fun s => s.inc F.SYS.CLK_MON_FAIL).getI F.SYS.CLK_MON_SAFE_DEV = u.getI F.SYS.CLK_MON_SAFE_DEV := by
    cases b
    · rfl
    · rw [State.getI, State.when, if_pos rfl, State.inc, State.add, State.get_set_addr _ _ _ _ (by decide)]; rfl
  rw [State.compared, kept, stored]

theorem State.compared_words (s : State) (dev : Int) : OnlyRegs s (s.compared dev) [0x184, 0x188] :=
  (OnlyRegs.set s _ _ (by decide)).trans (.when _ (.set _ F.SYS.CLK_MON_FAIL _ (by decide)))

/-- The monitors' verdict. -/
def State.judged (s : State) (dev : Int) : State :=
  let u := s.compared dev
  { u with pw := { u.pw with clkBad := decide (300 < dev.natAbs) } }

theorem State.clockCompare_eq (s : State) (dev : Int) : s.clockCompare dev =
    (s.judged dev).when (decide (300 < dev.natAbs) && s.pw.clkBad && !(s.judged dev).causeActive EV_CLOCK_MONITOR) (fun s => s.raise EV_CLOCK_MONITOR 0 0) := rfl

theorem State.judged_cause (s : State) (dev : Int) : (s.judged dev).causeActive EV_CLOCK_MONITOR = s.causeActive EV_CLOCK_MONITOR := by
  have same := (s.compared_words dev).get (activeBit EV_CLOCK_MONITOR) (by decide)
  rw [State.causeActive, State.flag, State.causeActive, State.flag, ← same]
  rfl

theorem State.compared_good (s : State) (dev : Int) (good : decide (300 < dev.natAbs) = false) : s.compared dev = s.setI F.SYS.CLK_MON_SAFE_DEV dev := by
  rw [State.compared, good]
  rfl

theorem State.compared_fail (s : State) (dev : Int) (bad : decide (300 < dev.natAbs) = true) :
    (s.compared dev).get F.SYS.CLK_MON_FAIL = min (s.get F.SYS.CLK_MON_FAIL + 1) (2 ^ 32 - 1) := by
  have counted := (s.setI F.SYS.CLK_MON_SAFE_DEV dev).get_add_same F.SYS.CLK_MON_FAIL 1 (by decide)
  rw [State.setI, State.get_set_addr _ _ _ _ (by decide)] at counted
  rw [State.compared, bad]
  exact counted

theorem State.judged_regs (s : State) (dev : Int) : (s.judged dev).regs = (s.compared dev).regs := rfl

theorem State.judged_eq (s : State) (dev : Int) :
    s.judged dev = { s with regs := (s.judged dev).regs, pw := { s.pw with clkBad := decide (300 < dev.natAbs) } } := by
  have words := (s.compared_words dev).1
  rw [State.judged]
  generalize s.compared dev = u at words
  rw [words]

/-- Settles O20: each event of the clocks, branch by branch. -/
theorem clockMonitoring : Obligations.ClockMonitoring := by
  unfold Obligations.ClockMonitoring
  refine ⟨fun k => .of_effect (fun _ => rfl) fun s h => ?_, fun k => .of_effect (fun _ => rfl) fun s h => ?_, fun k => .of_effect (fun _ => rfl) fun s h => ?_,
    fun dev small => .of_effect (fun _ => rfl) fun s _ => ?_, fun dev large => .of_effect (fun _ => rfl) fun s h => ?_, fun dev large => .of_effect (fun _ => rfl) fun s h => ?_,
    fun coarse => .of_effect (fun _ => rfl) fun s _ => rfl⟩
  case refine_1 =>
    have bits (j : Fin 7) := s.bitAt_setBitAt F.SYS.CLK_STAT_LOCKED k j false (by decide) j.isLt
    refine ⟨s.setBitAt F.SYS.CLK_STAT_LOCKED k false, if_pos h, s.onlyRegs_set _ _, by simpa using bits k, fun j other => ?_⟩
    rw [bits j, if_neg (by simpa [Fin.ext_iff] using other)]
  case refine_2 => exact if_neg (by simp [h])
  case refine_3 =>
    rw [show s.pllLock k = s.setBitAt F.SYS.CLK_STAT_LOCKED k true from if_pos (s.pllsWanted_iff k |>.1 h)]
    refine ⟨s.onlyRegs_set _ _, ?_⟩
    rw [s.bitAt_setBitAt _ _ _ _ (by decide) k.isLt, if_pos rfl]
  case refine_4 =>
    have good : decide (300 < dev.toInt.natAbs) = false := by simpa using small
    rw [s.clockCompare_eq, good]
    refine ⟨?_, ?_, s.compared_safeDev dev⟩
    · have eq := s.judged_eq dev.toInt
      rw [good] at eq
      exact eq
    · intro a other
      refine (State.rd_congr (s.judged_regs _) a).trans ?_
      rw [s.compared_good _ good]
      exact (s.onlyRegs_set F.SYS.CLK_MON_SAFE_DEV _).2 a other
  case refine_5 =>
    have bad : decide (300 < dev.toInt.natAbs) = true := by simpa using large
    rw [s.clockCompare_eq, h, Bool.and_false, Bool.false_and]
    refine ⟨?_, fun a other => (State.rd_congr (s.judged_regs _) a).trans ((s.compared_words _).2 a other), s.compared_safeDev dev, s.compared_fail _ bad⟩
    have eq := s.judged_eq dev.toInt
    rw [bad] at eq
    exact eq
  case refine_6 =>
    have bad : decide (300 < dev.toInt.natAbs) = true := by simpa using large
    obtain ⟨again, quiet⟩ := h
    rw [s.clockCompare_eq, s.judged_cause, again, quiet, bad]
    refine ⟨s.judged dev.toInt, rfl, ⟨?_, fun a other => (State.rd_congr (s.judged_regs _) a).trans ((s.compared_words _).2 a other)⟩, s.compared_safeDev dev⟩
    have same : ({ s.pw with clkBad := true } : PowerSt) = s.pw := by rw [← again]
    have eq := s.judged_eq dev.toInt
    rw [bad, same] at eq
    exact eq

/-! ### Requests of domains (R17, R18) -/

theorem fieldsAt_domReq : fieldsAt 0x110 = [⟨0, 32, .rw, 0xFFFFFFFF, 0, 0, []⟩] ∧ fieldsAt 0x114 = [⟨0, 32, .rw, 0xFFFFFFFF, 0, 0, []⟩] ∧
    fieldsAt 0x118 = [⟨3, 13, .rw, 0x1FFF, 0, 0, []⟩, ⟨0, 3, .ro, 7, 0, 0, []⟩] := by decide +kernel

theorem State.domReq_congr {s t : State} (words : ∀ a ∈ [0x110, 0x114, 0x118], t.rd a = s.rd a) (p : Fin 80) : t.domReq p = s.domReq p := by
  have word : 0x110 + 4 * (p.val / 32) ∈ [0x110, 0x114, 0x118] := by
    simp only [List.mem_cons, List.not_mem_nil, or_false]
    omega
  rw [State.domReq, State.flag, State.get, domBit, words _ word]
  rfl

/-- What the write of a request word leaves on. -/
theorem State.each_domainOff (l : List Nat) (other : ∀ p ∈ l, p ≠ 64 ∧ p ≠ 66) (s : State) :
    (∀ q < 80, (s.each l State.domainOff).domOn q = (s.domOn q && !l.contains q)) ∧ ∀ a ∈ [0x110, 0x114, 0x118], (s.each l State.domainOff).rd a = s.rd a := by
  induction l generalizing s with
  | nil => exact ⟨fun q _ => by simp [State.each], fun _ _ => rfl⟩
  | cons p l ih =>
    obtain ⟨on, words⟩ := ih (fun q hq => other q (List.mem_cons_of_mem p hq)) (s.domainOff p)
    refine ⟨fun q known => (on q known).trans ?_, fun a mem => (words a mem).trans (s.rd_domainOff p a (other p List.mem_cons_self) ?_ ?_)⟩
    · rw [s.domOn_domainOff p q (other p List.mem_cons_self) known, List.contains_cons, Bool.not_or, Bool.and_assoc]
      rfl
    · revert a; decide
    · simp only [List.mem_cons, List.not_mem_nil, or_false, onWords, F.SYS.CLK_STAT_LOCKED] at mem ⊢
      omega

/-- The domains of request word `i` that the state does not request. -/
def State.unrequested (s : State) (i : Nat) : List Nat :=
  ((List.range 32).filter (fun k => decide (32 * i + k < 80) && !s.domReq (32 * i + k))).map (fun k => 32 * i + k)

theorem State.mem_unrequested (s : State) (i p : Nat) : p ∈ s.unrequested i ↔ p / 32 = i ∧ p < 80 ∧ s.domReq p = false := by
  simp only [State.unrequested, List.mem_map, List.mem_filter, List.mem_range, Bool.and_eq_true, decide_eq_true_eq, Bool.not_eq_true']
  constructor
  · rintro ⟨k, ⟨small, known, off⟩, rfl⟩
    exact ⟨by omega, known, off⟩
  · rintro ⟨rfl, known, off⟩
    have place : 32 * (p / 32) + p % 32 = p := by omega
    exact ⟨p % 32, ⟨by omega, by omega, by rw [place]; exact off⟩, place⟩

theorem State.unrequested_other (s : State) (i : Nat) : ∀ p ∈ s.unrequested i, p ≠ 64 ∧ p ≠ 66 := by
  intro p mem
  have off := ((s.mem_unrequested i p).1 mem).2.2
  rw [State.domReq, Bool.or_eq_false_iff, decide_eq_false_iff_not] at off
  omega

theorem State.wrDomReq_eq (s : State) (i : Nat) (v : Word) :
    s.wrDomReq (0x110 + 4 * i) v = (s.hostWrite (0x110 + 4 * i) v).each ((s.hostWrite (0x110 + 4 * i) v).unrequested i) State.domainOff := by
  rw [State.unrequested, State.wrDomReq, show (0x110 + 4 * i - 0x110) / 4 = i by omega]

theorem State.rd_hostWrite_ne (s : State) (a b : Nat) (v : Word) (other : b ≠ a) : (s.hostWrite a v).rd b = s.rd b := s.rd_wr_ne a _ b other

/-- A request bit reads as written. -/
theorem State.domReq_hostWrite (s : State) (i : Fin 3) (v : Word) (p : Fin 80) (word : p.val / 32 = i.val) (free : p.val < 64 ∨ 67 ≤ p.val) :
    (s.hostWrite (0x110 + 4 * i.val) v).domReq p = v.getLsbD (p.val % 32) := by
  have always : decide (64 ≤ p.val ∧ p.val ≤ 66) = false := decide_eq_false (by omega)
  rw [State.domReq, always, Bool.false_or, State.flag, State.get, domBit, word, State.hostWrite, State.rd_wr_same, BitVec.toNat_ofNat, ← BitVec.testBit_toNat]
  have old : (s.rd (0x110 + 4 * i.val)).toNat < 2 ^ 32 := BitVec.isLt _
  rw [← bitsOf_one_eq v.toNat]
  generalize (s.rd (0x110 + 4 * i.val)).toNat = old' at old
  obtain ⟨first, second, third⟩ := fieldsAt_domReq
  have whole (j : Nat) (h : j < 32) : bitsOf (wordAfter [⟨0, 32, .rw, 0xFFFFFFFF, 0, 0, []⟩] old' v.toNat % 2 ^ 32) j 1 = bitsOf v.toNat j 1 := by
    have stored : wordAfter [⟨0, 32, .rw, 0xFFFFFFFF, 0, 0, []⟩] old' v.toNat = withBits old' 0 32 (bitsOf v.toNat 0 32) := rfl
    rw [stored, withBits_mod _ _ _ _ _ old (by decide), bitsOf_withBits_inside _ _ _ _ _ _ (Nat.zero_le _) (by omega), Nat.sub_zero]
    simp only [bitsOf, pow_zero, Nat.div_one, Nat.mod_eq_of_lt v.isLt]
  match i, word with
  | 0, word => rw [show 0x110 + 4 * (0 : Fin 3).val = 0x110 from rfl, first, whole _ (Nat.mod_lt _ (by decide))]
  | 1, word => rw [show 0x110 + 4 * (1 : Fin 3).val = 0x114 from rfl, second, whole _ (Nat.mod_lt _ (by decide))]
  | 2, word =>
    have stored : wordAfter [⟨3, 13, .rw, 0x1FFF, 0, 0, []⟩, ⟨0, 3, .ro, 7, 0, 0, []⟩] old' v.toNat =
      withBits (withBits old' 3 13 (bitsOf v.toNat 3 13)) 0 3 (bitsOf old' 0 3) := rfl
    have place : 3 ≤ p.val % 32 ∧ p.val % 32 < 16 := by
      have : p.val / 32 = 2 := word
      omega
    rw [show 0x110 + 4 * (2 : Fin 3).val = 0x118 from rfl, third, stored]
    dsimp only
    rw [withBits_mod _ _ _ _ _ (withBits_lt _ _ _ _ _ old (by decide)) (by decide),
      bitsOf_withBits_ne _ _ _ _ _ _ (by omega), bitsOf_withBits_inside _ _ _ _ _ _ place.1 (by omega), bitsOf_bitsOf _ _ _ _ (by omega), Nat.add_sub_cancel' place.1]

/-- Nothing changes but the loops and the registers of domain `d`. -/
def Loading (d : Nat) (s t : State) : Prop := t = { s with regs := t.regs, eng := t.eng } ∧ ∀ a, domainOf a ≠ d → t.rd a = s.rd a

section
variable {d : Nat} {s t u : State}

theorem Loading.refl (s : State) : Loading d s s := ⟨rfl, fun _ _ => rfl⟩

theorem Loading.trans (first : Loading d s t) (second : Loading d t u) : Loading d s u := by
  refine ⟨?_, fun a other => (second.2 a other).trans (first.2 a other)⟩
  rw [second.1, first.1]

theorem Loading.each {α : Type} (l : List α) (f : State → α → State) (step : ∀ u, ∀ a ∈ l, Loading d u (f u a)) (s : State) : Loading d s (s.each l f) := by
  induction l generalizing s with
  | nil => exact .refl s
  | cons a l ih => exact (step s a List.mem_cons_self).trans (ih (fun u b hb => step u b (List.mem_cons_of_mem a hb)) _)

theorem Loading.when (b : Bool) {f : State → State} (h : b = true → Loading d s (f s)) : Loading d s (s.when b f) := by
  cases b
  · exact .refl s
  · exact h rfl

theorem Loading.set (s : State) (f : Fld) (x : Nat) (here : domainOf f.addr = d) : Loading d s (s.set f x) :=
  ⟨rfl, fun a other => s.rd_set_ne f x a fun same => other (same ▸ here)⟩

theorem Loading.loopStored (s : State) : Loading d s s.loopStored := ⟨rfl, fun _ _ => rfl⟩

theorem domainOf_lin (c : Nat) (h : c < 12) : domainOf (F.CH.CH_STAT_LIN_VALID c).addr = 69 := by
  revert c
  decide

theorem Loading.calLoad (s : State) (d : Nat) : Loading d s (s.calLoad (fun q => q == d)) := by
  rw [State.calLoad_eq]
  refine Loading.trans (Loading.trans ?_ (.when _ fun _ => .loopStored _)) (.when _ fun here => ?_)
  · refine .each _ (fun (s : State) (e : CalWord) => s.set e.1 e.2) (fun u e mem => .set u _ _ ?_) s
    exact beq_iff_eq.1 (List.mem_filter.1 mem).2
  · refine .each _ _ (fun u c mem => .set u _ _ ?_) _
    rw [domainOf_lin c (List.mem_range.1 mem)]
    exact beq_iff_eq.1 here

end

/-- Domain `d` waits for no reload. -/
def State.reloaded (s : State) (d : Nat) : State := { s with pw := { s.pw with reload := s.pw.reload.filter (fun q => q != d) } }

/-- Settles O21: a domain's switching writes its own bit of PWR_DOM_STAT and CLK_STAT alone of the system block. -/
theorem domainSwitching : Obligations.DomainSwitching := by
  unfold Obligations.DomainSwitching
  refine ⟨fun via seq i v => ?_, fun d => .of_effect (fun _ => rfl) fun s h => ?_, fun d => .of_effect (fun _ => rfl) fun s h => ?_,
    fun d => .of_effect (fun _ => rfl) fun s h => ?_, fun d => .of_effect (fun _ => rfl) fun s h => ?_⟩
  case refine_1 =>
    refine .of_word rfl (by omega) (by omega) ((by decide : ∀ i : Fin 3, oneBlock (0x110 + 4 * i.val) 1 = true) i) ((by decide : ∀ i : Fin 3, lockedWord (0x110 + 4 * i.val) = false) i)
      (fun u h => h) (plainWord_of_range _ (by omega)) fun u noStep h => ?_
    have stored : u.hostStore (0x110 + 4 * i.val) v = u.wrDomReq (0x110 + 4 * i.val) v := by
      rw [State.hostStore, noStep]
      exact if_pos (by omega)
    rw [stored, State.wrDomReq_eq]
    generalize written : u.hostWrite (0x110 + 4 * i.val) v = w
    obtain ⟨on, words⟩ := w.each_domainOff (w.unrequested i) (w.unrequested_other i)
    have wasOn (p : Fin 80) : w.domOn p = u.domOn p := by
      rw [← written]
      refine State.domOn_congr (fun a mem => u.rd_hostWrite_ne _ a v ?_) p
      simp only [List.mem_cons, List.not_mem_nil, or_false] at mem
      omega
    have req (p : Fin 80) : (w.each (w.unrequested i) State.domainOff).domReq p = w.domReq p := State.domReq_congr words p
    refine ⟨fun p word => ?_, fun p word => ⟨?_, ?_⟩, fun p word free => ?_⟩
    · rw [on p p.isLt, req, wasOn]
      congr 1
      rw [Bool.eq_iff_iff, Bool.not_eq_true', List.contains_eq_mem, decide_eq_false_iff_not, State.mem_unrequested]
      simp [word]
    · rw [on p p.isLt, wasOn, List.contains_eq_mem, decide_eq_false fun mem => word ((w.mem_unrequested i p).1 mem).1]
      simp
    · rw [req, ← written, State.domReq, State.domReq, State.flag, State.flag, State.get, State.get, State.rd_hostWrite_ne]
      simp only [domBit]
      omega
    · rw [req, ← written, State.domReq_hostWrite u i v p word free]
  case refine_2 =>
    obtain ⟨may, off⟩ := h
    have ready : s.domainReady d = if reloads d then { s.domainOn d with pw := { (s.domainOn d).pw with reload := (s.domainOn d).pw.reload ++ [d.val] } } else s.domainOn d :=
      if_pos (by rw [may, off]; rfl)
    rw [ready]
    have on (q : Fin 80) := s.domOn_domainOn d q q.isLt
    split
    next reload =>
      have same (q : Fin 80) := State.domOn_congr (s := s.domainOn d) (t := { s.domainOn d with pw := { (s.domainOn d).pw with reload := (s.domainOn d).pw.reload ++ [d.val] } })
        (fun a _ => State.rd_congr rfl a) q
      refine ⟨by rw [same, on]; simp, fun p other => ?_, ?_⟩
      · rw [same, on]
        simp [Fin.val_ne_of_ne other]
      · dsimp only
        rw [s.domainOn_pw d]
    next keep =>
      refine ⟨by rw [on]; simp, fun p other => ?_, s.domainOn_pw d⟩
      rw [on]
      simp [Fin.val_ne_of_ne other]
  case refine_3 =>
    refine if_neg ?_
    obtain h | h := h <;> simp [h]
  case refine_4 =>
    rw [show s.calReload d = (s.reloaded d).calLoad (fun q => q == d.val) from if_pos h]
    have load := Loading.calLoad (s.reloaded d) d.val
    have pw : ((s.reloaded d).calLoad (fun q => q == d.val)).pw = (s.reloaded d).pw := by rw [load.1]
    refine ⟨pw, fun a other => load.2 a other, ?_⟩
    have all := load.1
    generalize (s.reloaded d).calLoad (fun q => q == d.val) = t at all
    rw [all]
    rfl
  case refine_5 => exact if_neg (ne_true_of_eq_false h)

end Sys2Proof.Machine
end

section
/-! PROOFS. What leaves the power state, the scan and the episode of the fault manager alone. -/

namespace Sys2Proof.Machine

/-- The power state, the scan, the governor, the time and the causes of the episode stay as they are. -/
structure Holding (s t : State) : Prop where
  pw : t.pw = s.pw
  scan : t.scan = s.scan
  th : t.th = s.th
  time : t.time = s.time
  counted : t.fm.counted = s.fm.counted

namespace Holding
variable {s t u : State}

theorem refl (s : State) : Holding s s := ⟨rfl, rfl, rfl, rfl, rfl⟩

theorem trans (first : Holding s t) (second : Holding t u) : Holding s u :=
  ⟨second.pw.trans first.pw, second.scan.trans first.scan, second.th.trans first.th, second.time.trans first.time, second.counted.trans first.counted⟩

theorem each {α : Type} (l : List α) (f : State → α → State) (step : ∀ u a, Holding u (f u a)) (s : State) : Holding s (s.each l f) := by
  induction l generalizing s with
  | nil => exact .refl s
  | cons a l ih => exact (step s a).trans (ih _)

theorem when (b : Bool) {f : State → State} (h : ∀ u, Holding u (f u)) (s : State) : Holding s (s.when b f) := by
  cases b
  · exact .refl s
  · exact h s

theorem ite {c : Prop} [Decidable c] (yes : Holding s t) (no : Holding s u) : Holding s (if c then t else u) := by
  split
  · exact yes
  · exact no

theorem set (s : State) (f : Fld) (x : Nat) : Holding s (s.set f x) := ⟨s.set_pw f x, s.set_scan f x, s.set_th f x, s.set_time f x, by rw [s.set_fm f x]⟩

theorem inc (s : State) (f : Fld) : Holding s (s.inc f) := set _ _ _

theorem set64 (s : State) (lo hi : Fld) (x : BitVec 64) : Holding s (s.set64 lo hi x) := (set _ _ _).trans (set _ _ _)

theorem publish (s : State) (f : Fld) : Holding s (s.publish f) := (set _ _ _).trans (set _ _ _)

theorem of_telling (h : Telling s t) : Holding s t := ⟨by rw [h], by rw [h], by rw [h], h.time_eq, by rw [h.fm_eq]⟩

theorem raise (s : State) (n i d : Nat) : Holding s (s.raise n i d) := by
  obtain ⟨-, told⟩ | ⟨-, t, told, raised⟩ := s.raise_cases n i d
  · exact of_telling told
  · rw [raised]
    exact (of_telling told).trans ⟨rfl, rfl, rfl, rfl, rfl⟩

theorem inhibitOn (s : State) (m : Nat) : Holding s (s.inhibitOn m) := by
  unfold State.inhibitOn
  dsimp only
  split
  · split
    · exact (set _ _ _).trans (set _ _ _)
    · exact ((set _ _ _).trans (set _ _ _)).trans (.raise _ _ _ _)
  · exact .refl s

theorem inhibitOff (s : State) (m : Nat) : Holding s (s.inhibitOff m) := by
  unfold State.inhibitOff
  split
  · exact set _ _ _
  · exact .refl s

theorem setSession (s : State) (p : Port) (x : Session) : Holding s (s.setSession p x) := by cases p <;> exact ⟨rfl, rfl, rfl, rfl, rfl⟩

theorem sendOn (s : State) (p : Port) (b : List Byte) : Holding s (s.sendOn p b) := by
  cases p with
  | spi => exact ⟨rfl, rfl, rfl, rfl, rfl⟩
  | udp q => exact ⟨rfl, rfl, rfl, rfl, rfl⟩
  | oazil => exact ⟨rfl, rfl, rfl, rfl, rfl⟩

theorem complete (s : State) (op st d : Nat) (b : List Byte) : Holding s (s.complete op st d b) := by
  unfold State.complete
  split
  · exact .refl s
  · refine Holding.trans ?_ (raise _ _ _ _)
    refine Holding.trans ?_ (when _ (fun u => sendOn u _ _) _)
    refine Holding.trans ?_ (setSession _ _ _)
    exact ⟨rfl, rfl, rfl, rfl, rfl⟩

theorem sendReply (s : State) (p : Port) (op : Nat) (seq : BitVec 16) (a : Answer) (kept : AnsState) : Holding s (s.sendReply p op seq a kept) := by
  have sent : ∀ u : State, Holding u (u.when (u.transportUp p) (fun s => s.sendOn p (replyPacket p op seq a))) := fun u => when _ (fun u => sendOn u _ _) u
  have resent (u : State) (l : List (Port × BitVec 16)) : Holding u { u with cmd := { u.cmd with resend := l } } := ⟨rfl, rfl, rfl, rfl, rfl⟩
  unfold State.sendReply
  dsimp only
  split
  · refine Holding.trans ?_ (set _ _ _)
    refine Holding.trans ?_ (sent _)
    refine Holding.trans ?_ (resent _ _)
    exact (setSession _ _ _).trans (sent _)
  · exact (setSession _ _ _).trans (sent _)

theorem answerLater (s : State) (op tag st d : Nat) (b : List Byte) : Holding s (s.answerLater op tag st d b) := by
  unfold State.answerLater
  dsimp only
  refine Holding.trans ?_ (each _ _ (fun u r => sendReply u _ _ _ _ _) _)
  exact ⟨rfl, rfl, rfl, rfl, rfl⟩

/-! ### What ends with a change of the power state -/

theorem setIll (s : State) (n : Nat) (x : IllSt) : Holding s (s.setIll n x) := ⟨rfl, rfl, rfl, rfl, rfl⟩

theorem illReady (s : State) : Holding s s.illReady := each _ _ (fun u n => setIll u n _) s

theorem setAux (s : State) (code : Nat) : Holding s (s.setAux code) :=
  Holding.trans (t := { s with hk := { s.hk with auxMoved := s.hk.auxMoved || code != s.get F.HK.CODE } }) ⟨rfl, rfl, rfl, rfl, rfl⟩ (set _ _ _)

theorem auxSafe (s : State) : Holding s s.auxSafe := by
  unfold State.auxSafe
  split
  · exact setAux _ _
  · exact .refl s

theorem closeCommissioning (s : State) : Holding s s.closeCommissioning := ⟨rfl, rfl, rfl, rfl, rfl⟩

theorem endChargeTest (s : State) : Holding s s.endChargeTest := by
  unfold State.endChargeTest
  split <;> exact ⟨rfl, rfl, rfl, rfl, rfl⟩

theorem dumpDrop (s : State) : Holding s s.dumpDrop :=
  Holding.trans (t := { s with rx := { s.rx with dump := none } }) ⟨rfl, rfl, rfl, rfl, rfl⟩ ((set _ _ _).trans (set _ _ _))

theorem setRegion (s : State) (g : Nat) (x : RegionSt) : Holding s (s.setRegion g x) := ⟨rfl, rfl, rfl, rfl, rfl⟩

theorem set3 (s : State) (f g h : Fld) (x y z : Nat) : Holding s (((s.set f x).set g y).set h z) := ((set _ _ _).trans (set _ _ _)).trans (set _ _ _)

theorem frameResult (s : State) (g : Nat) : Holding s (s.frameResult g) := by
  unfold State.frameResult
  dsimp only
  refine ite ?_ ?_
  · refine Holding.trans ?_ (raise _ _ _ _)
    refine Holding.trans ?_ (set _ _ _)
    refine Holding.trans ?_ (setRegion _ _ _)
    refine Holding.trans ?_ (when _ (fun u => raise u _ _ _) _)
    refine Holding.trans ?_ (publish _ _)
    exact ((set3 _ _ _ _ _ _ _).trans (set3 _ _ _ _ _ _ _)).trans (set3 _ _ _ _ _ _ _)
  · refine Holding.trans ?_ (when _ (fun u => set u _ _) _)
    refine Holding.trans ?_ (setRegion _ _ _)
    refine Holding.trans ?_ (when _ (fun u => raise u _ _ _) _)
    refine Holding.trans ?_ (publish _ _)
    exact ((set3 _ _ _ _ _ _ _).trans (set3 _ _ _ _ _ _ _)).trans (set3 _ _ _ _ _ _ _)

theorem stepsDone (s : State) : Holding s s.stepsDone := by
  have ended (u : State) : Holding u (({ u with cal := { u.cal with stepT := none, stepping := false } } : State).set F.CAL.CAL_STAT_STEPPING 0) :=
    Holding.trans (t := { u with cal := { u.cal with stepT := none, stepping := false } }) ⟨rfl, rfl, rfl, rfl, rfl⟩ (set _ _ _)
  unfold State.stepsDone
  split
  · refine Holding.trans ?_ (ended _)
    split
    · exact set _ _ _
    · exact .refl s
  · exact .refl s

theorem setLocked (s : State) (c : Nat) (b : Bool) : Holding s (s.setLocked c b) := (set _ _ _).trans (set _ _ _)

theorem rebuild (s : State) (e : Nat × Nat × Nat) : Holding s (s.rebuild e) := by
  unfold State.rebuild
  dsimp only
  split
  · exact ((set3 _ _ _ _ _ _ _).trans (set _ _ _)).trans (raise _ _ _ _)
  · exact set3 _ _ _ _ _ _ _

theorem calApply (s : State) (r : CalRun) : Holding s (s.calApply r) := by
  unfold State.calApply
  dsimp only
  refine Holding.trans ?_ (stepsDone _)
  refine Holding.trans ?_ (when _ (fun u => set u _ _) _)
  have words := each r.words (fun s w => s.set ⟨w.1, w.2.1, w.2.2.1⟩ w.2.2.2) (fun u w => set u _ _) s
  have taps := each r.taps (fun s c => s.setLocked c false) (fun u c => setLocked u c false)
  have lins := each (List.range 12) State.endLin (fun u c => set u _ _)
  exact (((words.trans (taps _)).trans (lins _)).trans (each r.maps State.rebuild rebuild _)).trans ⟨rfl, rfl, rfl, rfl, rfl⟩

theorem calResult (s : State) (item st d : Nat) : Holding s (s.calResult item st d) := by
  unfold State.calResult
  refine Holding.trans ?_ (publish _ _)
  exact ((set3 _ _ _ _ _ _ _).trans (set64 _ _ _ _)).trans (set _ _ _)

theorem flashWrite (s : State) (a : Nat) (b : List Byte) : Holding s (s.flashWrite a b) := ⟨rfl, rfl, rfl, rfl, rfl⟩

theorem freeBytes (s : State) (n : Nat) : Holding s (s.freeBytes n).2 := ⟨rfl, rfl, rfl, rfl, rfl⟩

/-- Both copies are written, the second of them perhaps in vain. -/
theorem secondCopy (s : State) (first second gen copies : Nat) (b : List Byte) : Holding s
    (let ok := (s.flashWrite (calAddr first) b).set F.CAL.CAL_GEN gen
     if copies = 1 then
       let lost := ok.freeBytes 0x10000
       (lost.2.flashWrite (calAddr second) lost.1).set F.CAL.CAL_STAT_FLASH_ERR 1
     else ok.flashWrite (calAddr second) b) := by
  have ok := (flashWrite s (calAddr first) b).trans (set _ F.CAL.CAL_GEN gen)
  exact ite (((ok.trans (freeBytes _ _)).trans (flashWrite _ _ _)).trans (set _ _ _)) (ok.trans (flashWrite _ _ _))

theorem calFinish (s : State) (r : CalRun) (copies : Nat) : Holding s (s.calFinish r copies).2 := by
  unfold State.calFinish
  dsimp only
  split
  · exact .refl s
  · split
    · exact ((freeBytes s _).trans (flashWrite _ _ _)).trans (set _ _ _)
    · refine Holding.trans ?_ (calApply _ r)
      refine (secondCopy s (1 - s.cal.copy) s.cal.copy (s.get F.CAL.CAL_GEN + 1) copies (s.calRecord r)).trans ?_
      exact ⟨rfl, rfl, rfl, rfl, rfl⟩

theorem calEnd (s : State) (r : CalRun) (bad : Option (Nat × Nat)) : Holding s (s.calEnd r bad) := by
  unfold State.calEnd
  dsimp only
  split
  · exact ⟨rfl, rfl, rfl, rfl, rfl⟩
  · exact ⟨rfl, rfl, rfl, rfl, rfl⟩

theorem calAbort (s : State) (st d : Nat) : Holding s (s.calAbort st d) := by
  unfold State.calAbort
  split
  · exact .refl s
  · rename_i r _
    dsimp only
    have told := ((calResult s (r.items.head?.getD 0) st d).trans (inc _ F.CAL.RUNS)).trans (inc _ F.CAL.ABORTED)
    have ended (q : CalRun) (bad : Option (Nat × Nat)) := (told.trans (calFinish _ q 2)).trans (calEnd _ q bad)
    split
    · refine Holding.trans ?_ (set _ _ _)
      exact ((ended _ _).trans (complete _ _ _ _ _)).trans ⟨rfl, rfl, rfl, rfl, rfl⟩
    · exact ended _ _

theorem calByState (s : State) : Holding s s.calByState := by
  unfold State.calByState
  dsimp only
  refine Holding.trans ?_ (set _ _ _)
  exact (calAbort s 0x13 s.stateCode).trans ⟨rfl, rfl, rfl, rfl, rfl⟩

theorem endCommands (s : State) (new : PowerState) : Holding s (s.endCommands new) := by
  unfold State.endCommands
  dsimp only
  refine Holding.trans ?_ (when _ (fun u => each _ _ (fun v n => answerLater v _ _ _ _ _) u) _)
  refine Holding.trans ?_ (when _ (fun u => answerLater u _ _ _ _ _) _)
  refine Holding.trans ?_ (each _ _ (fun v op => complete v _ _ _ _) _)
  refine Holding.trans ?_ (calByState _)
  exact (when _ endChargeTest _).trans (when _ dumpDrop _)

theorem safeRelease (s : State) : Holding s s.safeRelease := set _ _ _

end Holding

end Sys2Proof.Machine
end

section
/-! PROOFS. The fault manager, SAFE_HOLD and FAULT_CLEAR (R429 to R432). -/

namespace Sys2Proof.Machine

/-! ### The power state changes -/

/-- A change of the power state, before what it ends. -/
def State.changed (s : State) (new : PowerState) (cause : Nat) : State :=
  { s with pw := { s.pw with st := new, cause := BitVec.ofNat 8 cause, dormPend := none, holdByCmd := new == .safeHold && cause == 1 } }

/-- The scan that is given up. -/
def State.givenUp (s : State) : State :=
  let c := s.scan.column
  let s :=
    if s.scan.phase = .running then
      ({ s with ps := { s.ps with cols := s.ps.cols.filter (fun k => k.c != c) } } : State).closeFrame (c - 1) true |>.closeResults (c - 1)
    else s
  s.each (List.range 8) (fun s b => s.setRxBank b { s.rxBank b with isOpen := false })

theorem State.abandonScan_eq (s : State) : s.abandonScan = if s.scan.phase = .idle then s else s.givenUp.scanOff := rfl

theorem Holding.closeResults (s : State) (c : Nat) : Holding s (s.closeResults c) := by
  unfold State.closeResults
  exact ite (.refl s) (each _ _ frameResult s)

theorem Holding.givenUp (s : State) : Holding s s.givenUp := by
  unfold State.givenUp
  dsimp only
  refine Holding.trans ?_ (each _ _ ?_ _)
  · refine ite ?_ (.refl s)
    refine Holding.trans ?_ (closeResults _ _)
    exact ⟨rfl, rfl, rfl, rfl, rfl⟩
  · exact fun u b => ⟨rfl, rfl, rfl, rfl, rfl⟩

theorem State.scanOff_pw (s : State) : s.scanOff.pw = s.pw := (Holding.inhibitOn _ 1).pw

theorem State.scanOff_counted (s : State) : s.scanOff.fm.counted = s.fm.counted := (Holding.inhibitOn _ 1).counted

theorem State.abandonScan_kept (s : State) : s.abandonScan.pw = s.pw ∧ s.abandonScan.fm.counted = s.fm.counted := by
  rw [State.abandonScan_eq]
  split
  · exact ⟨rfl, rfl⟩
  · exact ⟨s.givenUp.scanOff_pw.trans (Holding.givenUp s).pw, s.givenUp.scanOff_counted.trans (Holding.givenUp s).counted⟩

/-- What ends with the change, and what the new state begins with. -/
theorem Holding.enterState (s : State) (new : PowerState) (cause : Nat) (live : new ≠ .thermalLatch) :
    Holding ((s.changed new cause).when (new != .scanning) State.abandonScan) (s.enterState new cause) := by
  have told (u : State) := (raise u EV_STATE_CHANGE 0 (256 * cause + stateCodeOf new)).trans (endCommands _ new)
  have ends (u : State) := (told u).trans (when (s.pw.st == .safeHold && new != .safeHold) safeRelease _)
  unfold State.enterState
  cases new
  case thermalLatch => exact absurd rfl live
  case ready => exact (ends _).trans (illReady _)
  case scanning => exact (ends _).trans (closeCommissioning _)
  case safeHold => exact (ends _).trans (auxSafe _)
  all_goals exact ends _

theorem State.enterState_kept (s : State) (new : PowerState) (cause : Nat) (live : new ≠ .thermalLatch) (scan : new ≠ .scanning) :
    (s.enterState new cause).pw = (s.changed new cause).pw ∧ (s.enterState new cause).fm.counted = s.fm.counted ∧ (s.enterState new cause).scan.phase = .idle := by
  have ends := Holding.enterState s new cause live
  obtain ⟨pw, counted⟩ := (s.changed new cause).abandonScan_kept
  rw [show (new != .scanning) = true by simpa using scan, State.when, if_pos rfl] at ends
  exact ⟨ends.pw.trans pw, ends.counted.trans counted, by rw [ends.scan, State.abandonScan_idle]⟩

/-! ### One fault is processed (R429, R430, R432) -/

theorem OnlyRegs.firstFault (s : State) (f : FaultRec) (i : Nat) : OnlyRegs s (s.firstFault f i) [0x7000010, 0x7000014, 0x7000018, 0x700001C, 0x7000020] := by
  unfold State.firstFault
  split
  · exact .refl s _
  · have set (u : State) (g : Fld) (x : Nat) (mem : g.addr ∈ [0x7000010, 0x7000014, 0x7000018, 0x700001C, 0x7000020]) := OnlyRegs.set u g x mem
    exact (((((((set s F.FM.FM_FIRST_EVENT f.ev (by decide)).trans (set _ F.FM.FM_FIRST_CLASS f.cls (by decide))).trans (set _ F.FM.FM_FIRST_VALID 1 (by decide))).trans
      (set _ F.FM.INSTANCE f.inst (by decide))).trans (set _ F.FM.DATA f.dat (by decide))).trans (set _ F.FM.TIME_LO _ (by decide))).trans
      (set _ F.FM.TIME_HI _ (by decide))).trans (set _ F.FM.INDEX i (by decide))

/-- A fault is counted and logged. -/
def State.noted (s : State) (f : FaultRec) : State := ((s.logFault f).firstFault f (s.get F.FM.FL_COUNT)).inc F.FM.FAULTS

theorem State.processFault_eq (s : State) (f : FaultRec) : s.processFault f = if 2 ≤ f.cls then (s.noted f).react f else s.noted f := rfl

section
variable (s : State) (f : FaultRec)

theorem State.get_logFault (g : Fld) (other : g.addr ≠ F.FM.FL_COUNT.addr) : (s.logFault f).get g = s.get g := by
  rw [State.logFault, State.inc, State.add, State.get_set_addr _ _ _ _ other]
  rfl

theorem State.noted_pw : (s.noted f).pw = s.pw := by
  have first := (OnlyRegs.firstFault (s.logFault f) f (s.get F.FM.FL_COUNT)).1
  rw [State.noted, State.inc, State.add, State.set_pw, first]
  rfl

theorem State.noted_fm : (s.noted f).fm = { s.fm with log := (s.get F.FM.FL_COUNT, f) :: s.fm.log.take 63 } := by
  have first := (OnlyRegs.firstFault (s.logFault f) f (s.get F.FM.FL_COUNT)).1
  rw [State.noted, State.inc, State.add, State.set_fm, first]
  rfl

theorem State.noted_class : (s.noted f).get F.FM.FM_STAT_CLASS = s.get F.FM.FM_STAT_CLASS := by
  rw [State.noted, State.inc, State.add, State.get_set_addr _ _ _ _ (by decide), (OnlyRegs.firstFault _ f _).get _ (by decide), s.get_logFault f _ (by decide)]

/-- The first fault since FM_FIRST was empty. -/
theorem State.noted_first (small : f.cls < 2) (event : f.ev < 256) (empty : s.flag F.FM.FM_FIRST_VALID = false) :
    (s.noted f).get F.FM.FM_FIRST_EVENT = f.ev ∧ (s.noted f).get F.FM.FM_FIRST_CLASS = f.cls ∧ (s.noted f).flag F.FM.FM_FIRST_VALID = true ∧
      (s.noted f).get F.FM.INDEX = s.get F.FM.FL_COUNT % 2 ^ F.FM.INDEX.wd := by
  have open_ : ¬ (s.logFault f).flag F.FM.FM_FIRST_VALID = true := by
    rw [State.flag, s.get_logFault f _ (by decide)]
    exact Bool.eq_false_iff.1 empty
  have class_ : f.cls % 2 ^ 2 = f.cls := Nat.mod_eq_of_lt (by omega)
  have event_ : f.ev % 2 ^ 8 = f.ev := Nat.mod_eq_of_lt event
  unfold State.noted State.firstFault
  rw [if_neg open_]
  simp only [State.flag, State.inc, State.add, State.set64]
  refine ⟨?_, ?_, ?_, ?_⟩ <;> simp (disch := decide) only [State.get_set_addr, State.get_set_bits, State.get_set_same]
  · exact event_
  · exact class_
  · rfl

/-- The reaction, before EMIT_INHIBIT takes it. -/
def State.reacting : State :=
  let was := s.get F.FM.FM_STAT_CLASS
  let s := s.when (decide (was < 2) && f.cls == 2) (fun s => s.inc F.FM.EMIT_OFF_EPISODES)
  let s := s.when (decide (was < 3) && f.cls == 3) (fun s => s.inc F.FM.SAFE_HOLD_EPISODES)
  let s := ((s.set F.FM.FM_STAT_CLASS (max was f.cls)).set F.FM.FM_STAT_TIMER 1).set F.FM.FM_STAT_RECOVERED 0
  { s with fm := { s.fm with counted := s.fm.counted ||| BitVec.ofNat 256 (2 ^ f.ev) } }

theorem State.react_eq : s.react f = if f.cls = 3 ∧ (((s.reacting f).inhibitOn (2 ^ 6)).pw.st = .ready ∨ ((s.reacting f).inhibitOn (2 ^ 6)).pw.st = .scanning)
    then ((s.reacting f).inhibitOn (2 ^ 6)).enterState .safeHold 2 else (s.reacting f).inhibitOn (2 ^ 6) := rfl

theorem OnlyRegs.counting : OnlyRegs s ((s.when (decide (s.get F.FM.FM_STAT_CLASS < 2) && f.cls == 2) (fun s => s.inc F.FM.EMIT_OFF_EPISODES)).when
    (decide (s.get F.FM.FM_STAT_CLASS < 3) && f.cls == 3) (fun s => s.inc F.FM.SAFE_HOLD_EPISODES)) [F.FM.EMIT_OFF_EPISODES.addr, F.FM.SAFE_HOLD_EPISODES.addr] :=
  (OnlyRegs.when _ (.set _ F.FM.EMIT_OFF_EPISODES _ (by decide))).trans (.when _ (.set _ F.FM.SAFE_HOLD_EPISODES _ (by decide)))

theorem State.reacting_stat (known : f.cls < 4) : (s.reacting f).get F.FM.FM_STAT_CLASS = max (s.get F.FM.FM_STAT_CLASS) f.cls ∧
    (s.reacting f).get F.FM.FM_STAT_TIMER = 1 ∧ (s.reacting f).get F.FM.FM_STAT_RECOVERED = 0 := by
  have was : s.get F.FM.FM_STAT_CLASS < 4 := s.get_lt _
  have stat (u : State) (m : Nat) (small : m < 4) : (((u.set F.FM.FM_STAT_CLASS m).set F.FM.FM_STAT_TIMER 1).set F.FM.FM_STAT_RECOVERED 0).get F.FM.FM_STAT_CLASS = m ∧
      (((u.set F.FM.FM_STAT_CLASS m).set F.FM.FM_STAT_TIMER 1).set F.FM.FM_STAT_RECOVERED 0).get F.FM.FM_STAT_TIMER = 1 ∧
      (((u.set F.FM.FM_STAT_CLASS m).set F.FM.FM_STAT_TIMER 1).set F.FM.FM_STAT_RECOVERED 0).get F.FM.FM_STAT_RECOVERED = 0 := by
    refine ⟨?_, ?_, ?_⟩ <;> simp (disch := decide) only [State.get_set_bits, State.get_set_same]
    · exact Nat.mod_eq_of_lt small
    · rfl
    · rfl
  exact stat _ _ (by omega)

theorem State.reacting_kept : (s.reacting f).pw = s.pw ∧ (s.reacting f).fm = { s.fm with counted := s.fm.counted ||| BitVec.ofNat 256 (2 ^ f.ev) } := by
  have words := (OnlyRegs.counting s f).1
  unfold State.reacting
  dsimp only [State.set_pw, State.set_fm]
  rw [words]
  exact ⟨rfl, rfl⟩

theorem State.processFault_of_small (small : f.cls < 2) : s.processFault f = s.noted f := by rw [State.processFault_eq, if_neg (by omega)]

theorem State.processFault_of_emitOff (cls : f.cls = 2) : s.processFault f = ((s.noted f).reacting f).inhibitOn (2 ^ 6) := by
  rw [State.processFault_eq, if_pos (by omega), State.react_eq, if_neg (by omega)]

theorem State.processFault_of_safeHold (cls : f.cls = 3) (live : s.pw.st = .ready ∨ s.pw.st = .scanning) :
    s.processFault f = (((s.noted f).reacting f).inhibitOn (2 ^ 6)).enterState .safeHold 2 := by
  rw [State.processFault_eq, if_pos (by omega), State.react_eq, if_pos]
  rw [(Holding.inhibitOn _ _).pw, ((s.noted f).reacting_kept f).1, s.noted_pw f]
  exact ⟨cls, live⟩

end

/-! ### FM_CLASS -/

/-- Two-bit fields, side by side. -/
def pairSum (d : Nat → Nat) (n : Nat) : Nat := (List.range n).foldl (fun w i => w + d i * 2 ^ (2 * i)) 0

theorem pairSum_succ (d : Nat → Nat) (n : Nat) : pairSum d (n + 1) = pairSum d n + d n * 2 ^ (2 * n) := by
  rw [pairSum, List.range_succ, List.foldl_concat, pairSum]

theorem pairSum_lt (d : Nat → Nat) (small : ∀ i, d i < 4) (n : Nat) : pairSum d n < 2 ^ (2 * n) := by
  induction n with
  | zero => exact Nat.one_pos
  | succ n ih =>
    have next : d n * 2 ^ (2 * n) ≤ 3 * 2 ^ (2 * n) := Nat.mul_le_mul_right _ (by have := small n; omega)
    rw [pairSum_succ, show 2 * (n + 1) = 2 * n + 2 from rfl, Nat.pow_add]
    omega

theorem bitsOf_pairSum (d : Nat → Nat) (small : ∀ i, d i < 4) (n k : Nat) (hk : k < n) : bitsOf (pairSum d n) (2 * k) 2 = d k := by
  induction n with
  | zero => omega
  | succ n ih =>
    rw [pairSum_succ, bitsOf]
    obtain here | before := Nat.lt_succ_iff_lt_or_eq.1 hk |>.symm
    · rw [here, Nat.add_mul_div_right _ _ (Nat.two_pow_pos _), Nat.div_eq_of_lt (pairSum_lt d small n), Nat.zero_add]
      exact Nat.mod_eq_of_lt (small n)
    · obtain ⟨m, rfl⟩ := Nat.exists_eq_add_of_lt before
      rw [show d (k + m + 1) * 2 ^ (2 * (k + m + 1)) = d (k + m + 1) * 2 ^ (2 * m) * 4 * 2 ^ (2 * k) by
          rw [show 2 * (k + m + 1) = 2 * m + 2 + 2 * k by omega, Nat.pow_add, Nat.pow_add]; ring,
        Nat.add_mul_div_right _ _ (Nat.two_pow_pos _), show 2 ^ 2 = 4 from rfl, Nat.add_mul_mod_self_right]
      exact ih before

/-- FM_CLASS takes no class below the least of its event. -/
theorem State.evClass_wrFmClass (s : State) (i : Fin 16) (v : Word) (k : Fin 16) : (s.wrFmClass (0x7000100 + 4 * i.val) v).evClass (16 * i.val + k.val) =
    max (bitsOf v.toNat (2 * k.val) 2) (bitsOf (regReset (0x7000100 + 4 * i.val)).toNat (2 * k.val) 2) := by
  have small (j : Nat) : max (bitsOf v.toNat (2 * j) 2) (bitsOf (regReset (0x7000100 + 4 * i.val)).toNat (2 * j) 2) < 4 := max_lt (bitsOf_lt _ _ 2) (bitsOf_lt _ _ 2)
  have word := pairSum_lt _ small 16
  rw [State.evClass, show (16 * i.val + k.val) / 16 = i.val by omega, show (16 * i.val + k.val) % 16 = k.val by omega, State.get, State.wrFmClass]
  dsimp only
  rw [State.rd_wr_same, BitVec.toNat_ofNat, ← pairSum, Nat.mod_eq_of_lt word]
  exact bitsOf_pairSum _ small 16 k k.isLt

theorem State.fmFirstEmpty_words (s : State) : OnlyRegs s s.fmFirstEmpty [0x7000010, 0x7000014, 0x7000018, 0x700001C, 0x7000020] ∧
    ∀ a ∈ [0x7000010, 0x7000014, 0x7000018, 0x700001C, 0x7000020], s.fmFirstEmpty.rd a = 0 := by
  have words (a : Nat) : s.fmFirstEmpty.rd a = if a ∈ [0x7000010, 0x7000014, 0x7000018, 0x700001C, 0x7000020] then 0 else s.rd a := by
    simp only [State.fmFirstEmpty, State.each, List.foldl_cons, List.foldl_nil, State.rd_wr, List.mem_cons, List.not_mem_nil, or_false]
    split_ifs <;> tauto
  exact ⟨⟨rfl, fun a other => (words a).trans (if_neg other)⟩, fun a mem => (words a).trans (if_pos mem)⟩

/-! ### The commands (R430, R431) -/

theorem cmdSafeHold_live (u : State) (live : u.pw.st = .ready ∨ u.pw.st = .scanning) : cmdSafeHold u = (u.enterState .safeHold 1).done [] := by
  refine u.guarded_pass _ _ fun c mem => ?_
  rw [List.mem_singleton.1 mem]
  obtain h | h := live <;> simp [State.badState, h]

theorem cmdSafeHold_other (u : State) (ready : u.pw.st ≠ .ready) (scanning : u.pw.st ≠ .scanning) : cmdSafeHold u = u.reply (.final 0x13 u.stateCode []) := by
  rw [cmdSafeHold, State.guarded_cons, if_pos (by simp [State.badState, ready, scanning])]
  rfl

/-- The episode ends. -/
def State.episodeOver (s : State) : State :=
  let s := ((s.set F.FM.FM_STAT_CLASS 0).set F.FM.FM_STAT_RECOVERED 0).set F.FM.FM_STAT_TIMER 0
  ({ s with fm := { s.fm with counted := 0 } } : State)

theorem cmdFaultClear_clearable (u : State) (hold : u.pw.st = .safeHold) (clear : u.clearable = true) :
    cmdFaultClear u = ((u.episodeOver.inhibitOff (2 ^ 6)).enterState .ready 1).done [] := by
  rw [cmdFaultClear, if_neg (by simp [clear])]
  exact u.guarded_pass _ _ fun c mem => by rw [List.mem_singleton.1 mem]; simp [State.badState, hold]

theorem cmdFaultClear_refused (u : State) (hold : u.pw.st = .safeHold) (clear : u.clearable = false) :
    cmdFaultClear u = (u.inc F.FM.CLEAR_REFUSED).reply (.final 0x13 3 []) := by
  rw [cmdFaultClear, if_pos ⟨hold, by simp [clear]⟩, State.stateCode, hold]

theorem cmdFaultClear_other (u : State) (hold : u.pw.st ≠ .safeHold) : cmdFaultClear u = u.reply (.final 0x13 u.stateCode []) := by
  rw [cmdFaultClear, if_neg (by simp [hold]), State.guarded_cons, if_pos (by simp [State.badState, hold])]
  rfl

theorem State.episodeOver_stat (s : State) : s.episodeOver.get F.FM.FM_STAT_CLASS = 0 ∧ s.episodeOver.get F.FM.FM_STAT_TIMER = 0 ∧
    ∀ p : Fin 80, s.episodeOver.domOn p = s.domOn p := by
  have class_ : (((s.set F.FM.FM_STAT_CLASS 0).set F.FM.FM_STAT_RECOVERED 0).set F.FM.FM_STAT_TIMER 0).get F.FM.FM_STAT_CLASS = 0 := by
    simp (disch := decide) only [State.get_set_bits, State.get_set_same]
    rfl
  refine ⟨class_, State.get_set_same _ F.FM.FM_STAT_TIMER 0 (by decide), fun p => State.domOn_congr (fun a low => ?_) p⟩
  have high : a ≠ 0x7000000 := by
    revert a
    decide
  refine (State.rd_congr rfl a).trans ((State.rd_set_ne _ F.FM.FM_STAT_TIMER 0 a high).trans ?_)
  exact (State.rd_set_ne _ F.FM.FM_STAT_RECOVERED 0 a high).trans (State.rd_set_ne _ F.FM.FM_STAT_CLASS 0 a high)

theorem State.get_inhibitOff (s : State) (m : Nat) (f : Fld) (other : f.addr ≠ F.SHT.EMIT_INHIBIT_SRC.addr) : (s.inhibitOff m).get f = s.get f := by
  rw [State.inhibitOff]
  split
  · exact State.get_set_addr _ _ _ _ other
  · rfl

theorem State.bitAt_inhibitOff (s : State) (on : s.domOn 68 = true) : (s.inhibitOff (2 ^ 6)).bitAt F.SHT.EMIT_INHIBIT_SRC 6 = false := by
  rw [State.inhibitOff, if_pos on, State.bitAt, State.get_set_same _ _ _ (by decide)]
  change decide ((s.get F.SHT.EMIT_INHIBIT_SRC &&& (4095 - 2 ^ 6)) % 2 ^ 12 / 2 ^ 6 % 2 = 1) = false
  rw [← Nat.testBit_eq_decide_div_mod_eq, Nat.testBit_mod_two_pow, Nat.testBit_and, show (4095 - 2 ^ 6 : Nat).testBit 6 = false by decide, Bool.and_false, Bool.and_false]

/-- Settles O23: a fault is noted, then the reaction of its class follows; the commands and writes of the fault manager, case by case. -/
theorem faultHandling : Obligations.FaultHandling := by
  unfold Obligations.FaultHandling
  refine ⟨⟨fun s f small first => ?again, fun s f small event empty => ?first, fun s f cls => ?emitOff, fun s f cls live => ?safeHold, fun s f cls live => ?state⟩,
    fun via seq => ?hold, fun via seq => ?noHold, fun via seq => ?clear, fun c s p u row runs hold clear => ?refused, fun via seq => ?noClear, ?timer, fun n => ?ended, fun n => ?kept,
    fun via seq => ?firstClear, fun via seq i v => ?classes⟩
  case again =>
    have noted : (s.logFault f).flag F.FM.FM_FIRST_VALID = true := by rw [State.flag, s.get_logFault f _ (by decide)]; exact first
    rw [s.processFault_of_small f small, State.noted, State.firstFault, if_pos noted]
    rfl
  case first =>
    obtain ⟨event_, class_, valid, index⟩ := s.noted_first f small event empty
    rw [s.processFault_of_small f small]
    exact ⟨event_, class_, valid, index, by rw [s.noted_fm f]; rfl⟩
  case emitOff =>
    obtain ⟨class_, timer, recovered⟩ := (s.noted f).reacting_stat f (by omega)
    have fm := ((s.noted f).reacting_kept f).2
    refine ⟨_, s.processFault_of_emitOff f cls, ?_, timer, recovered, ?_, ?_⟩
    · rw [class_, s.noted_class f, cls]
    · rw [fm, s.noted_fm f]
    · rw [fm, s.noted_fm f]; rfl
  case safeHold =>
    obtain ⟨class_, -⟩ := (s.noted f).reacting_stat f (by omega)
    refine ⟨_, s.processFault_of_safeHold f cls live, ?_⟩
    have most : (s.noted f).get F.FM.FM_STAT_CLASS < 4 := State.get_lt _ _
    rw [class_, cls]
    omega
  case state =>
    rw [s.processFault_of_safeHold f cls live, (State.enterState_kept _ .safeHold 2 (by decide) (by decide)).1]
    exact ⟨rfl, rfl⟩
  case hold =>
    refine .of_handler rfl fun u live => ⟨_, cmdSafeHold_live u live, ?_⟩
    obtain ⟨pw, -, idle⟩ := u.enterState_kept .safeHold 1 (by decide) (by decide)
    exact ⟨pw, idle⟩
  case noHold => exact .of_handler rfl fun u other => cmdSafeHold_other u other.1 other.2
  case clear =>
    refine .of_handler rfl fun u ⟨hold, clear⟩ => ⟨_, cmdFaultClear_clearable u hold clear, ?_⟩
    obtain ⟨pw, counted, -⟩ := (u.episodeOver.inhibitOff (2 ^ 6)).enterState_kept .ready 1 (by decide) (by decide)
    obtain ⟨class_, timer, on⟩ := u.episodeOver_stat
    have off := Holding.inhibitOff u.episodeOver (2 ^ 6)
    refine ⟨?_, counted.trans off.counted, _, rfl, ?_, ?_, fun emitter => ?_⟩
    · rw [pw, State.changed, off.pw]; rfl
    · rw [State.get_inhibitOff _ _ _ (by decide), class_]
    · rw [State.get_inhibitOff _ _ _ (by decide), timer]
    · exact State.bitAt_inhibitOff _ ((on 68).trans emitter)
  case refused =>
    subst row
    obtain ⟨packet, exec⟩ := runs.exec_row (via := p.via) (seq := p.seq) (op := 0x0012) (d := []) rfl
    rw [packet] at exec ⊢
    rw [Refused, exec, show runOp p.via u 0x0012 [] = cmdFaultClear u from rfl, cmdFaultClear_refused u hold clear]
    rfl
  case noClear => exact .of_handler rfl fun u other => cmdFaultClear_other u other
  case timer =>
    refine .of_effect (fun _ => rfl) fun s _ => ⟨s.onlyRegs_set _ _, State.get_set_same _ F.FM.FM_STAT_TIMER 0 (by decide), ?_⟩
    exact State.get_set_bits _ F.FM.FM_STAT_TIMER F.FM.FM_STAT_CLASS 0 (by decide) (by decide)
  case ended =>
    refine .of_effect (fun _ => rfl) fun s ⟨lasting, active, gone⟩ => ?_
    have fits : (activeBit n.toNat).fits = true := domBit_fits _ _
    rw [show s.causeCleared n.toNat = s.set (activeBit n.toNat) 0 from if_pos (by rw [lasting, active, gone]; rfl)]
    refine ⟨s.onlyRegs_set _ _, ?_⟩
    rw [State.causeActive, State.flag, State.get_set_same _ _ _ fits]
    rfl
  case kept =>
    refine .of_effect (fun _ => rfl) fun s h => if_neg ?_
    simp only [Bool.and_eq_true, Bool.not_eq_true', Bool.eq_false_iff] at h ⊢
    tauto
  case firstClear =>
    refine .of_word rfl (by decide) (by decide) (by decide) (by decide) (fun u _ => u.writeRefused_other _ _ (by decide)) (plainWord_of_range _ (by decide)) fun u noStep _ => ?_
    have stored : u.hostStore F.FM.FM_FIRST_VALID.addr 0x80000000 = u.fmFirstEmpty := u.hostStore_fm _ _ noStep (by decide) (by decide)
    rw [stored]
    exact u.fmFirstEmpty_words
  case classes =>
    refine .of_word rfl (by omega) (by omega) ((by decide : ∀ i : Fin 16, oneBlock (0x7000100 + 4 * i.val) 1 = true) i)
      ((by decide : ∀ i : Fin 16, lockedWord (0x7000100 + 4 * i.val) = false) i) (fun u _ => u.writeRefused_other _ _ (by omega)) (plainWord_of_range _ (by omega)) fun u noStep _ => ?_
    have stored : u.hostStore (0x7000100 + 4 * i.val) v = u.wrFmClass (0x7000100 + 4 * i.val) v := by
      rw [u.hostStore_fm _ _ noStep (by omega) (by omega), State.wrFm, if_pos (by omega)]
    rw [stored]
    exact ⟨⟨rfl, fun a other => u.rd_wr_ne _ _ a (by simpa using other)⟩, fun k => u.evClass_wrFmClass i v k⟩

end Sys2Proof.Machine
end

section
/-! PROOFS. What the streams, the fusion and the safety columns leave alone: the power state, the scan, the governor and the time. -/

namespace Sys2Proof.Machine

/-- The power state, the scan, the governor, the time and the causes of the episode, as one value. -/
def State.bearing (s : State) : PowerSt × ScanSt × ThSt × TimeSt × BitVec 256 := (s.pw, s.scan, s.th, s.time, s.fm.counted)

section
variable {s t : State}

theorem Holding.bearing_eq (h : Holding s t) : t.bearing = s.bearing := by
  rw [State.bearing, h.pw, h.scan, h.th, h.time, h.counted]
  rfl

theorem Holding.of_bearing (h : t.bearing = s.bearing) : Holding s t := by
  simp only [State.bearing, Prod.mk.injEq] at h
  obtain ⟨pw, scan, th, time, counted⟩ := h
  exact ⟨pw, scan, th, time, counted⟩

end

section
variable (s : State)

@[simp] theorem State.bearing_eta : (s.pw, s.scan, s.th, s.time, s.fm.counted) = s.bearing := by rfl

@[simp] theorem bearing_ite {c : Prop} [Decidable c] (a b : State) : (if c then a else b).bearing = if c then a.bearing else b.bearing := apply_ite State.bearing c a b

@[simp] theorem bearing_snd_ite {α : Type} {c : Prop} [Decidable c] (a b : α × State) : (if c then a else b).2.bearing = if c then a.2.bearing else b.2.bearing :=
  apply_ite (fun x : α × State => x.2.bearing) c a b

@[simp] theorem State.bearing_mk (regs flash dram otp pw cmd fm rcd mon time shot scan profOver eng rx heldRegs mem tx ps vis disps links eth tb sync safe hk th cal ill out free pending) :
    (State.mk regs flash dram otp pw cmd fm rcd mon time shot scan profOver eng rx heldRegs mem tx ps vis disps links eth tb sync safe hk th cal ill out free pending).bearing =
      (pw, scan, th, time, fm.counted) := by rfl

@[simp] theorem State.set_bearing (f : Fld) (x : Nat) : (s.set f x).bearing = s.bearing := (Holding.set s f x).bearing_eq
@[simp] theorem State.setI_bearing (f : Fld) (x : Int) : (s.setI f x).bearing = s.bearing := s.set_bearing _ _
@[simp] theorem State.inc_bearing (f : Fld) : (s.inc f).bearing = s.bearing := s.set_bearing _ _
@[simp] theorem State.add_bearing (f : Fld) (n : Nat) : (s.add f n).bearing = s.bearing := s.set_bearing _ _
@[simp] theorem State.setFlag_bearing (f : Fld) (b : Bool) : (s.setFlag f b).bearing = s.bearing := s.set_bearing _ _
@[simp] theorem State.setBitAt_bearing (f : Fld) (i : Nat) (b : Bool) : (s.setBitAt f i b).bearing = s.bearing := s.set_bearing _ _
@[simp] theorem State.set64_bearing (lo hi : Fld) (x : BitVec 64) : (s.set64 lo hi x).bearing = s.bearing := (Holding.set64 s lo hi x).bearing_eq
@[simp] theorem State.publish_bearing (f : Fld) : (s.publish f).bearing = s.bearing := (Holding.publish s f).bearing_eq
@[simp] theorem State.raise_bearing (n i d : Nat) : (s.raise n i d).bearing = s.bearing := (Holding.raise s n i d).bearing_eq
@[simp] theorem State.complete_bearing (op st d : Nat) (b : List Byte) : (s.complete op st d b).bearing = s.bearing := (Holding.complete s op st d b).bearing_eq
@[simp] theorem State.answerLater_bearing (op tag st d : Nat) (b : List Byte) : (s.answerLater op tag st d b).bearing = s.bearing := (Holding.answerLater s op tag st d b).bearing_eq

@[simp] theorem State.each_bearing {α : Type} (l : List α) (f : State → α → State) (h : ∀ s a, (f s a).bearing = s.bearing) : (s.each l f).bearing = s.bearing :=
  (Holding.each l f (fun u a => .of_bearing (h u a)) s).bearing_eq

@[simp] theorem State.when_bearing (b : Bool) (f : State → State) (h : ∀ s, (f s).bearing = s.bearing) : (s.when b f).bearing = s.bearing :=
  (Holding.when b (fun u => .of_bearing (h u)) s).bearing_eq

/-! ### Memory and streams -/

@[simp] theorem State.memRefuse_bearing (cls src n : Nat) : (s.memRefuse cls src n).bearing = s.bearing := by simp [State.memRefuse]
@[simp] theorem State.memReq_bearing (cls src n : Nat) : (s.memReq cls src n).2.bearing = s.bearing := by simp [State.memReq]
@[simp] theorem State.memUse_bearing (cls src n : Nat) : (s.memUse cls src n).bearing = s.bearing := s.memReq_bearing _ _ _
@[simp] theorem State.txPut_bearing (k : Nat) (b : List Byte) : (s.txPut k b).bearing = s.bearing := by rfl
@[simp] theorem State.dramWrite_bearing (a : Nat) (b : List Byte) : (s.dramWrite a b).bearing = s.bearing := by rfl
@[simp] theorem State.dramPut_bearing (a : Nat) (b : List Byte) : (s.dramPut a b).bearing = s.bearing := by simp [State.dramPut]

/-! ### The point stream -/

@[simp] theorem State.ringPlace_bearing (b : List Byte) (t : BitVec 64) (c : Nat) : (s.ringPlace b t c).2.bearing = s.bearing := by simp [State.ringPlace]
@[simp] theorem State.setCtx_bearing (n : Nat) (x : Ctx) : (s.setCtx n x).bearing = s.bearing := by rfl
@[simp] theorem State.replaceCtx_bearing (n : Nat) (img : List Byte) : (s.replaceCtx n img).bearing = s.bearing := by simp [State.replaceCtx]
@[simp] theorem State.capture_bearing (n : Nat) : (s.capture n).bearing = s.bearing := by simp [State.capture]
@[simp] theorem State.segmentBoundary_bearing (n : Nat) : (s.segmentBoundary n).bearing = s.bearing := by
  have saved (u : State) : (match u.ps.save with
      | some (m, _) => if m = n ∧ u.ps.saved.isNone ∧ u.bitAt F.PS.CTX_STAT_VALID n then u.capture n else u
      | none => u).bearing = u.bearing := by split <;> simp
  unfold State.segmentBoundary
  refine (saved _).trans ?_
  split <;> simp
@[simp] theorem State.segment_bearing (n : Nat) (b : List Byte) (t : BitVec 64) (r : Bool) : (s.segment n b t r).2.bearing = s.bearing := by simp [State.segment]
@[simp] theorem State.putRecord_bearing (b : List Byte) (t : BitVec 64) (c : Nat) (r : Bool) : (s.putRecord b t c r).2.bearing = s.bearing := by simp [State.putRecord]
@[simp] theorem State.ambPlace_bearing (b : List Byte) (t : BitVec 64) (c : Nat) : (s.ambPlace b t c).bearing = s.bearing := by
  unfold State.ambPlace
  cases s.ps.run2 <;> simp
@[simp] theorem State.ambColumn_bearing (f : FrameInfo) (k : ColInfo) : (s.ambColumn f k).bearing = s.bearing := by simp [State.ambColumn]
@[simp] theorem State.onCol_bearing (c : Nat) (f : ColInfo → ColInfo) : (s.onCol c f).bearing = s.bearing := by rfl
@[simp] theorem State.recordBuild_bearing : s.recordBuild.bearing = s.bearing := by
  unfold State.recordBuild
  split <;> simp
@[simp] theorem State.bindComp_bearing : s.bindComp.bearing = s.bearing := by
  unfold State.bindComp
  split <;> simp
@[simp] theorem State.placeStart_bearing : s.placeStart.bearing = s.bearing := by
  unfold State.placeStart
  split <;> simp
@[simp] theorem State.frameEnd_bearing : s.frameEnd.bearing = s.bearing := by
  unfold State.frameEnd
  split <;> simp

/-! ### The safety columns and the fusion -/

@[simp] theorem State.fieldViolate_bearing (f : Nat) : (s.fieldViolate f).bearing = s.bearing := by simp [State.fieldViolate]
@[simp] theorem State.setInvalid_bearing (c : Nat) : (s.setInvalid c).bearing = s.bearing := by simp [State.setInvalid]
@[simp] theorem State.fieldColumn_bearing (first last valid hit : Bool) (f : Nat) : (s.fieldColumn first last valid hit f).bearing = s.bearing := by simp [State.fieldColumn]
@[simp] theorem State.safetyColumn_bearing : s.safetyColumn.bearing = s.bearing := by
  unfold State.safetyColumn
  split <;> simp
@[simp] theorem State.zonesFall_bearing (m : DMap) : (s.zonesFall m).bearing = s.bearing := by simp [State.zonesFall]
@[simp] theorem State.zonesRise_bearing (m : DMap) : (s.zonesRise m).bearing = s.bearing := by simp [State.zonesRise]
@[simp] theorem State.putMap_bearing (m : DMap) : (s.putMap m).bearing = s.bearing := by rfl
@[simp] theorem State.setCamRun_bearing (k : Nat) (x : Option CamDrop) : (s.setCamRun k x).bearing = s.bearing := by simp [State.setCamRun]
@[simp] theorem State.camPut_bearing (k cam frame : Nat) (t : BitVec 64) (b : List Byte) : (s.camPut k cam frame t b).2.bearing = s.bearing := by simp [State.camPut]
@[simp] theorem State.camPlace_bearing (k cam frame : Nat) (t : BitVec 64) (b : List Byte) : (s.camPlace k cam frame t b).2.bearing = s.bearing := by simp [State.camPlace]
@[simp] theorem State.overlay_bearing (m : DMap) : (s.overlay m).bearing = s.bearing := by simp [State.overlay]
@[simp] theorem State.closeMap_bearing (m : DMap) (stale : Bool) : (s.closeMap m stale).bearing = s.bearing := by simp [State.closeMap]
@[simp] theorem State.meet_bearing (k : ColInfo) (m : DMap) : (s.meet k m).bearing = s.bearing := by simp [State.meet]
@[simp] theorem State.fusionColumn_bearing : s.fusionColumn.bearing = s.bearing := by
  unfold State.fusionColumn
  split <;> simp

/-! ### The loops -/

@[simp] theorem State.setLoop_bearing (n : Nat) (x : LoopSt) : (s.setLoop n x).bearing = s.bearing := by rfl
@[simp] theorem State.iclamp_bearing (n : Nat) : (s.iclamp n).bearing = s.bearing := by simp [State.iclamp]
@[simp] theorem State.rescale_bearing (n : Nat) (e df u : Int) : (s.rescale n e df u).bearing = s.bearing := by simp [State.rescale]
@[simp] theorem State.copyBank_bearing (n : Nat) : (s.copyBank n).bearing = s.bearing := by simp [State.copyBank]
@[simp] theorem State.swapNow_bearing (n : Nat) : (s.swapNow n).bearing = s.bearing := by simp [State.swapNow]
@[simp] theorem State.loopToOff_bearing (n : Nat) : (s.loopToOff n).bearing = s.bearing := by simp [State.loopToOff]
@[simp] theorem State.loopToRamp_bearing (n m : Nat) : (s.loopToRamp n m).bearing = s.bearing := by simp [State.loopToRamp]
@[simp] theorem State.loopToClosed_bearing (n : Nat) : (s.loopToClosed n).bearing = s.bearing := by simp [State.loopToClosed]
@[simp] theorem State.holdOuter_bearing (n : Nat) : (s.holdOuter n).bearing = s.bearing := by
  unfold State.holdOuter
  split <;> simp
@[simp] theorem State.setMode_bearing (n m : Nat) : (s.setMode n m).bearing = s.bearing := by
  rcases m with _ | _ | _ | m <;> simp [State.setMode]
@[simp] theorem State.loadThresholds_bearing : s.loadThresholds.bearing = s.bearing := by simp [State.loadThresholds]
@[simp] theorem State.copyTable_bearing : s.copyTable.bearing = s.bearing := by simp [State.copyTable]
@[simp] theorem State.calScanStart_bearing : s.calScanStart.bearing = s.bearing := by simp [State.calScanStart]
@[simp] theorem State.calByState_bearing : s.calByState.bearing = s.bearing := (Holding.calByState s).bearing_eq

/-! ### The columns of a scan -/

@[simp] theorem State.setStr_bearing (n : Nat) (x : StringSt) : (s.setStr n x).bearing = s.bearing := by rfl
@[simp] theorem State.setBank_bearing (n : Nat) (x : BankSt) : (s.setBank n x).bearing = s.bearing := by rfl
@[simp] theorem State.setRow_bearing (n : Nat) (x : RowSt) : (s.setRow n x).bearing = s.bearing := by rfl
@[simp] theorem State.setRegion_bearing (n : Nat) (x : RegionSt) : (s.setRegion n x).bearing = s.bearing := by rfl
@[simp] theorem State.setRxBank_bearing (n : Nat) (x : BankRx) : (s.setRxBank n x).bearing = s.bearing := by rfl
@[simp] theorem State.closeShotColumn_bearing (c : Nat) : (s.closeShotColumn c).bearing = s.bearing := by simp [State.closeShotColumn]
@[simp] theorem State.endColumn_bearing (c : Nat) : (s.endColumn c).bearing = s.bearing := by
  unfold State.endColumn
  dsimp only
  split <;> simp
@[simp] theorem State.surveyJudge_bearing : s.surveyJudge.bearing = s.bearing := by
  unfold State.surveyJudge
  dsimp only
  split <;> simp
@[simp] theorem State.surveyEnd_bearing : s.surveyEnd.bearing = s.bearing := by simp [State.surveyEnd]
@[simp] theorem State.closeFrame_bearing (last : Nat) (early : Bool) : (s.closeFrame last early).bearing = s.bearing := by rfl
@[simp] theorem State.openFrame_bearing (c : Nat) (r : Bool) : (s.openFrame c r).bearing = s.bearing := by simp [State.openFrame]
@[simp] theorem State.derateFrame_bearing : s.derateFrame.bearing = s.bearing := by simp [State.derateFrame]
@[simp] theorem State.trimStep_bearing : s.trimStep.bearing = s.bearing := by
  unfold State.trimStep
  split
  · refine (State.each_bearing _ _ _ fun u b => u.raise_bearing _ _ _).trans ((State.each_bearing _ _ _ fun u b => ?_).trans (by simp))
    dsimp only
    split <;> simp
  · rfl
@[simp] theorem State.stepsDone_bearing : s.stepsDone.bearing = s.bearing := (Holding.stepsDone s).bearing_eq
@[simp] theorem State.calStep_bearing : s.calStep.bearing = s.bearing := by simp [State.calStep]
@[simp] theorem State.emit_bearing (x : Out) : (s.emit x).bearing = s.bearing := by rfl
@[simp] theorem State.syncOut_bearing (first : Bool) : (s.syncOut first).bearing = s.bearing := by simp [State.syncOut]
@[simp] theorem State.openColumn_bearing (c : Nat) : (s.openColumn c).bearing = s.bearing := by rfl
@[simp] theorem State.dumpEnd_bearing (x : Bool) : (s.dumpEnd x).bearing = s.bearing := by
  unfold State.dumpEnd
  split <;> simp
@[simp] theorem State.dumpBoundary_bearing (c : Nat) : (s.dumpBoundary c).bearing = s.bearing := by
  unfold State.dumpBoundary
  split
  · rfl
  · split
    · simp
    · split <;> simp
@[simp] theorem State.invalidBit_bearing (i : Nat) (b : Bool) : (s.invalidBit i b).bearing = s.bearing := by simp [State.invalidBit]
@[simp] theorem State.rowBegin_bearing (r : Nat) : (s.rowBegin r).bearing = s.bearing := by rfl
@[simp] theorem State.regionBegin_bearing (g : Nat) : (s.regionBegin g).bearing = s.bearing := by rfl
@[simp] theorem State.stepsBegin_bearing : s.stepsBegin.bearing = s.bearing := by simp [State.stepsBegin]
@[simp] theorem State.inhibitOff_bearing (m : Nat) : (s.inhibitOff m).bearing = s.bearing := (Holding.inhibitOff s m).bearing_eq
@[simp] theorem State.armScheduler_bearing : s.armScheduler.bearing = s.bearing := by simp [State.armScheduler]
@[simp] theorem State.firstWindows_bearing : s.firstWindows.bearing = s.bearing := by simp [State.firstWindows]
@[simp] theorem State.flushScan_bearing : s.flushScan.bearing = s.bearing := by
  unfold State.flushScan
  refine (State.each_bearing _ _ (fun s _ => s.frameEnd) fun u f => u.frameEnd_bearing).trans (State.each_bearing _ _ _ fun u k => ?_)
  simp only [State.fusionColumn_bearing, State.safetyColumn_bearing, State.recordBuild_bearing]
  split <;> simp

end

end Sys2Proof.Machine
end

section
/-! PROOFS. The column schedule (R20, R21, R96, R393, R474). -/

namespace Sys2Proof.Machine

/-! ### What a loop over a list keeps and what it makes true -/

theorem State.each_keeps {α β : Type} (g : State → β) (l : List α) (f : State → α → State) (step : ∀ u a, g (f u a) = g u) (s : State) : g (s.each l f) = g s := by
  induction l generalizing s with
  | nil => rfl
  | cons a l ih => exact (ih _).trans (step s a)

theorem State.each_makes {α : Type} (p : State → Prop) (l : List α) (f : State → α → State) (a : α) (mem : a ∈ l) (makes : ∀ u, p (f u a)) (keeps : ∀ u b, p u → p (f u b))
    (s : State) : p (s.each l f) := by
  have kept (l : List α) (u : State) (h : p u) : p (u.each l f) := by
    induction l generalizing u with
    | nil => exact h
    | cons b l ih => exact ih _ (keeps u b h)
  induction l generalizing s with
  | nil => cases mem
  | cons b l ih =>
    obtain rfl | later := List.mem_cons.1 mem
    · exact kept l _ (makes s)
    · exact ih later _

theorem State.bank_setBank (s : State) (b c : Nat) (x : BankSt) : (s.setBank b x).bank c = if c = b then x else s.bank c := spGet_spSet _ _ _ _ _

/-! ### The boundary of column 0 -/

theorem State.inhibitOff_clears (s : State) (i : Nat) (on : s.domOn 68 = true) (bound : i < 12) : (s.inhibitOff (2 ^ i)).bitAt F.SHT.EMIT_INHIBIT_SRC i = false := by
  rw [State.inhibitOff, if_pos on, State.bitAt, State.get_set_same _ _ _ (by decide)]
  change decide ((s.get F.SHT.EMIT_INHIBIT_SRC &&& (4095 - 2 ^ i)) % 2 ^ 12 / 2 ^ i % 2 = 1) = false
  have off : ∀ j < 12, (4095 - 2 ^ j : Nat).testBit j = false := by decide
  rw [← Nat.testBit_eq_decide_div_mod_eq, Nat.testBit_mod_two_pow, Nat.testBit_and, off i bound, Bool.and_false, Bool.and_false]

/-- A bank as the scheduler arms it. -/
def BankSt.armed (x : BankSt) (trig : Word) : BankSt :=
  { x with col := 0, next := 0, claimed := 0, outcome := .none, fireMask := 0, trig := trig, firedCol := 0, dualCol := false, denyFrame := none }

/-- The LFSR and the strings as the scheduler arms them. -/
def State.seeded (s : State) : State :=
  let s : State := { s with shot := { s.shot with lfsr := s.get F.SHT.SHOT_SEED_SEED } }
  s.each (List.range 32) (fun s n => s.setStr n { s.str n with blkN := 0, blkBad := 0 })

theorem State.armScheduler_eq (s : State) :
    s.armScheduler = s.seeded.each (List.range 8) fun s b => s.setBank b ((s.bank b).armed (s.rd (F.BNK.BANK_CTRL_TRIG b).addr)) := rfl

theorem State.each_lfsr {α : Type} (l : List α) (f : State → α → State) (step : ∀ u a, (f u a).shot.lfsr = u.shot.lfsr) (s : State) :
    (s.each l f).shot.lfsr = s.shot.lfsr := State.each_keeps (fun u => u.shot.lfsr) l f step s

theorem State.armScheduler_lfsr (s : State) : s.armScheduler.shot.lfsr = s.get F.SHT.SHOT_SEED_SEED := by
  rw [State.armScheduler_eq]
  refine (State.each_lfsr _ _ ?_ s.seeded).trans ((State.each_lfsr _ _ ?_ _).trans rfl)
  · exact fun _ _ => rfl
  · exact fun _ _ => rfl

theorem State.armScheduler_bank (s : State) (b : Fin 8) : (s.armScheduler.bank b).next = 0 ∧ (s.armScheduler.bank b).col = 0 := by
  rw [State.armScheduler_eq]
  refine State.each_makes (fun u => (u.bank b).next = 0 ∧ (u.bank b).col = 0) (List.range 8) _ b.val (List.mem_range.2 b.isLt) (fun u => ?_) (fun u c kept => ?_) s.seeded
  · rw [State.bank_setBank, if_pos rfl]
    exact ⟨rfl, rfl⟩
  · rw [State.bank_setBank]
    split
    · exact ⟨rfl, rfl⟩
    · exact kept

theorem State.scan_of_bearing {s : State} {x : PowerSt × ScanSt × ThSt × TimeSt × BitVec 256} (h : s.bearing = x) : s.scan = x.2.1 := congrArg (fun y => y.2.1) h

theorem State.pw_of_bearing {s : State} {x : PowerSt × ScanSt × ThSt × TimeSt × BitVec 256} (h : s.bearing = x) : s.pw = x.1 := congrArg (fun y => y.1) h

theorem State.th_of_bearing {s : State} {x : PowerSt × ScanSt × ThSt × TimeSt × BitVec 256} (h : s.bearing = x) : s.th = x.2.2.1 := congrArg (fun y => y.2.2.1) h

/-- Whether the loops have settled, or the follower's sync allows column 0. -/
def State.mayStart (s : State) : Bool := if s.get F.SYN.SYNC_CTRL_ROLE = 2 then s.sync.ready else s.scan.approachDone && s.allSettled

/-- The scan's records are flushed, and after a RESTART the receiver loads its profile. -/
def State.flushed (s : State) : State := s.flushScan.when s.flushScan.scan.restart State.loadReceiver

/-- The boundary of column 0 is fixed, before the emitters are released. -/
def State.fixedAt (s : State) (cc : Nat) : State :=
  let s : State := { s with
    scan := { s.scan with phase := .fixed, origin := cc, base := s.scan.base + s.scan.column + 1, column := 0 },
    sync := { s.sync with count := none, ready := false, shifts := [] },
    ps := { s.ps with reset := true },
    heldRegs := spKeep (fun k => decide (8 < k / 2 ^ 32)) s.heldRegs }
  let s := s.each (s.rx.rows.map (fun e => e.1)) State.rowBegin
  let s := (s.each (List.range 4) State.regionBegin).stepsBegin
  s.each allBanks (fun s b => s.setRxBank b { BankRx.init with isOpen := s.domOn 69 })

theorem State.column0Fix_eq (s : State) (cc : Nat) (settling : s.scan.phase = .settling) (start : s.mayStart = true) (on : s.domOn 68 = true) :
    s.column0Fix cc = ((s.flushed.fixedAt cc).inhibitOff 1).armScheduler.firstWindows := if_pos ⟨settling, start, on⟩

theorem State.flushed_place (s : State) : s.flushed.scan.base = s.scan.base ∧ s.flushed.scan.column = s.scan.column := by
  have flush := (Holding.of_bearing s.flushScan_bearing).scan
  have load (u : State) : u.loadReceiver.scan.base = u.scan.base ∧ u.loadReceiver.scan.column = u.scan.column := by
    simp [State.loadReceiver]
  rw [State.flushed]
  cases s.flushScan.scan.restart
  · exact ⟨congrArg ScanSt.base flush, congrArg ScanSt.column flush⟩
  · rw [State.when, if_pos rfl, (load _).1, (load _).2, flush]
    exact ⟨rfl, rfl⟩

theorem State.fixedAt_scan (s : State) (cc : Nat) : (((s.fixedAt cc).inhibitOff 1).armScheduler.firstWindows).scan =
    { s.scan with phase := .fixed, origin := cc, base := s.scan.base + s.scan.column + 1, column := 0 } := by
  have bearing : (((s.fixedAt cc).inhibitOff 1).armScheduler.firstWindows).bearing =
      (s.pw, { s.scan with phase := .fixed, origin := cc, base := s.scan.base + s.scan.column + 1, column := 0 }, s.th, s.time, s.fm.counted) := by
    simp [State.fixedAt]
  exact State.scan_of_bearing bearing

/-! ### Columns -/

/-- A column begins, frame and all. -/
theorem State.beginColumn_bearing (s : State) (c : Nat) : (s.beginColumn c).bearing =
    (s.pw, { s.scan with
      column := c, frame := if c % s.nCol = 0 then s.scan.frame + 1 else s.scan.frame, restart := if c % s.nCol = 0 then false else s.scan.restart },
      s.th, s.time, s.fm.counted) := by
  have frame (u : State) : (u.beginFrame c).bearing = (u.pw, { u.scan with frame := u.scan.frame + 1, restart := false }, u.th, u.time, u.fm.counted) := by
    simp [State.beginFrame]
  have same : ({ s with scan := { s.scan with column := c } } : State).nCol = s.nCol := rfl
  by_cases first : c % s.nCol = 0
  · simp [State.beginColumn, first, frame, same, State.when]
  · simp [State.beginColumn, first, same, State.when]

theorem State.beginSettle_bearing (s : State) : (s.beginSettle true).bearing =
    (s.pw, { s.scan with phase := .settling, restart := true, stopWanted := false, restartWanted := false, approachDone := false },
      { s.th with inForce := s.get F.TH.TH_STAT_LEVEL }, s.time, s.fm.counted) := by
  simp [State.beginSettle, State.when]

/-- A column ends, and the survey with the frame's last. -/
def State.columnOver (s : State) : State := (s.endColumn s.scan.column).when (decide ((s.scan.column + 1) % s.nCol = 0)) State.surveyEnd

theorem State.columnOver_bearing (s : State) : s.columnOver.bearing = s.bearing := by simp [State.columnOver]

/-- What the boundary of a running scan does after the column that ends. -/
def State.nextColumn (s : State) (c : Nat) (last : Bool) : State :=
  if s.scan.stopWanted then s.stopHere c last
  else if s.scan.restartWanted then (s.closeFrame c (!last)).beginSettle true
  else if last && decide (c / s.nCol % 2 = 1) && s.throttlePending then
    let s := s.closeFrame c false
    ({ s with th := { s.th with steps := s.th.steps + 1 } } : State).beginSettle true
  else (s.when last (fun s => s.closeFrame c false)).beginColumn (c + 1)

theorem State.columnBoundary_of_running (s : State) (running : s.scan.phase = .running) :
    s.columnBoundary = s.columnOver.nextColumn s.scan.column (decide ((s.scan.column + 1) % s.nCol = 0)) := by
  rw [State.columnBoundary, running]
  rfl

theorem State.columnBoundary_of_fixed (s : State) (fixed : s.scan.phase = .fixed) : s.columnBoundary =
    (({ s with scan := { s.scan with phase := .running } } : State).when (s.pw.st == .ready) (fun s => s.enterState .scanning 1)).beginColumn 0 := by
  rw [State.columnBoundary, fixed]

theorem State.columnBoundary_of_still (s : State) (still : s.scan.phase = .idle ∨ s.scan.phase = .settling) : s.columnBoundary = s := by
  obtain h | h := still <;> rw [State.columnBoundary, h]

/-- The word of the throttle level stays as it is. -/
def ThermalKept (s t : State) : Prop := t.rd F.TH.TH_STAT_LEVEL.addr = s.rd F.TH.TH_STAT_LEVEL.addr

section
variable {s t u : State}

theorem ThermalKept.trans (first : ThermalKept s t) (second : ThermalKept t u) : ThermalKept s u := Eq.trans second first

theorem ThermalKept.refl (s : State) : ThermalKept s s := rfl

theorem ThermalKept.of_regs (kept : ThermalKept s t) (regs : u.regs = t.regs) : ThermalKept s u := (State.rd_congr regs _).trans kept

theorem ThermalKept.set (s : State) (f : Fld) (x : Nat) (other : F.TH.TH_STAT_LEVEL.addr ≠ f.addr) : ThermalKept s (s.set f x) := s.rd_set_ne f x _ other

theorem ThermalKept.each {α : Type} (l : List α) (f : State → α → State) (step : ∀ u a, a ∈ l → ThermalKept u (f u a)) (s : State) : ThermalKept s (s.each l f) := by
  induction l generalizing s with
  | nil => exact .refl s
  | cons a l ih => exact (step s a List.mem_cons_self).trans (ih (fun u b hb => step u b (List.mem_cons_of_mem a hb)) _)

theorem ThermalKept.when (b : Bool) {f : State → State} (step : ∀ u, ThermalKept u (f u)) (s : State) : ThermalKept s (s.when b f) := by
  cases b
  · exact .refl s
  · exact step s

theorem ThermalKept.raise (s : State) (n i d : Nat) (known : n < 256) : ThermalKept s (s.raise n i d) := by
  refine s.raise_rd n i d _ ?_
  simp only [F.TH.TH_STAT_LEVEL, eventWords, F.CMD.EV_COUNT, F.CMD.EVT_DROP, F.MON.EV_LINES_LOST, activeBit, List.mem_cons, List.not_mem_nil, or_false]
  omega

theorem ThermalKept.throttle (kept : ThermalKept s t) (same : t.bearing = s.bearing) : t.throttlePending = s.throttlePending := by
  have bearing := Holding.of_bearing same
  have level : t.get F.TH.TH_STAT_LEVEL = s.get F.TH.TH_STAT_LEVEL := by rw [State.get, kept]; rfl
  rw [State.throttlePending, level, bearing.pw, bearing.th]
  rfl

end

theorem ThermalKept.publish (s : State) (f : Fld) (other : F.TH.TH_STAT_LEVEL.addr ≠ f.addr) : ThermalKept s (s.publish f) :=
  (set s ⟨f.addr, 31, 1⟩ _ other).trans (set _ ⟨f.addr, 0, 16⟩ _ other)

theorem ThermalKept.setStr (s : State) (n : Nat) (x : StringSt) : ThermalKept s (s.setStr n x) := rfl

theorem ThermalKept.setBank (s : State) (n : Nat) (x : BankSt) : ThermalKept s (s.setBank n x) := rfl

theorem ThermalKept.setRow (s : State) (n : Nat) (x : RowSt) : ThermalKept s (s.setRow n x) := rfl

theorem ThermalKept.closeShotColumn (s : State) (c : Nat) : ThermalKept s (s.closeShotColumn c) := by
  unfold State.closeShotColumn
  refine ThermalKept.trans (.each _ _ (fun u n mem => ?_) s) (.each _ _ (fun u b _ => setBank u b _) _)
  have small := List.mem_range.1 mem
  refine ThermalKept.trans (.when _ (fun v => ?_) u) (setStr _ _ _)
  refine ThermalKept.trans ?_ (publish _ _ ?_)
  · refine (((set v (F.STR.STR_MEAS_V_V_LAST n) _ ?_).trans (set _ (F.STR.STR_MEAS_V_V_MIN n) _ ?_)).trans (set _ (F.STR.STR_MEAS_W_W_MAX n) _ ?_)).trans
      (set _ (F.STR.STR_MEAS_W_W_MIN n) _ ?_)
    all_goals simp only [F.TH.TH_STAT_LEVEL, F.STR.STR_MEAS_V_V_LAST, F.STR.STR_MEAS_V_V_MIN, F.STR.STR_MEAS_W_W_MAX, F.STR.STR_MEAS_W_W_MIN]; omega
  · simp only [F.TH.TH_STAT_LEVEL, F.STR.STR_MEAS_ST]; omega

theorem ThermalKept.endColumn (s : State) (c : Nat) : ThermalKept s (s.endColumn c) := by
  have told (u : State) (b : Bool) (y z : Nat) : ThermalKept u ((((u.setFlag F.STEER.DUAL b).set F.STEER.DIR y).set F.STEER.COLUMN z).publish F.STEER.COL_ANG_ST) :=
    (((set u F.STEER.DUAL (bit b) (by decide)).trans (set _ F.STEER.DIR y (by decide))).trans (set _ F.STEER.COLUMN z (by decide))).trans (publish _ F.STEER.COL_ANG_ST (by decide))
  have steer (u : State) (b : Bool) (y z : Nat) : ThermalKept u
      (let v := (((u.setFlag F.STEER.DUAL b).set F.STEER.DIR y).set F.STEER.COLUMN z).publish F.STEER.COL_ANG_ST
       { v with eng := { v.eng with best := none } }) := (told u b y z).of_regs rfl
  unfold State.endColumn
  dsimp only
  refine ThermalKept.trans ?_ (closeShotColumn _ c)
  refine ThermalKept.trans ?_ (steer _ _ _ _)
  split
  · exact set _ F.STEER.ANGLE _ (by decide)
  · exact .refl _

/-- The words of the survey lie apart from the throttle level. -/
theorem ThermalKept.surveyFind (s : State) (f : Nat × Nat × Bool) (cell : Nat) : ThermalKept s
    ((((((s.set (F.ROW.ROW_HOT_VALID f.1) 1).setFlag (F.ROW.ROW_HOT_DEAD f.1) f.2.2).set (F.ROW.ROW_HOT_Q f.1) f.2.1).set (F.ROW.ROW_HOT_CELL f.1) cell).inc
      (if f.2.2 then F.RX.DEAD_FOUND else F.RX.HOT_FOUND))) := by
  refine ((((set s (F.ROW.ROW_HOT_VALID f.1) 1 ?_).trans (set _ (F.ROW.ROW_HOT_DEAD f.1) _ ?_)).trans (set _ (F.ROW.ROW_HOT_Q f.1) _ ?_)).trans
    (set _ (F.ROW.ROW_HOT_CELL f.1) cell ?_)).trans (set _ _ _ ?_)
  case refine_5 => cases f.2.2 <;> decide
  all_goals simp only [F.TH.TH_STAT_LEVEL, F.ROW.ROW_HOT_VALID, F.ROW.ROW_HOT_DEAD, F.ROW.ROW_HOT_Q, F.ROW.ROW_HOT_CELL]; omega

theorem ThermalKept.surveyJudge (s : State) : ThermalKept s s.surveyJudge := by
  unfold State.surveyJudge
  dsimp only
  split
  · refine ThermalKept.trans (.each _ _ (fun u f _ => ?_) s) (raise _ EV_HOT_CELL _ _ (by decide))
    exact (surveyFind u f s.surveyCell).trans (.when _ (fun v => setRow v f.1 _) _)
  · refine .each _ _ (fun u f _ => ?_) s
    exact (surveyFind u f s.surveyCell).trans (.when _ (fun v => setRow v f.1 _) _)

theorem ThermalKept.surveyEnd (s : State) : ThermalKept s s.surveyEnd := by
  unfold State.surveyEnd
  exact (ThermalKept.when _ surveyJudge s).trans (.each _ _ (fun u r _ => setRow u r _) _)

theorem State.columnOver_throttle (s : State) : s.columnOver.throttlePending = s.throttlePending :=
  ThermalKept.throttle (.trans (.endColumn _ _) (.when _ .surveyEnd _)) s.columnOver_bearing

theorem State.columnOver_scan (s : State) : s.columnOver.scan = s.scan := (Holding.of_bearing s.columnOver_bearing).scan

theorem State.columnOver_pw (s : State) : s.columnOver.pw = s.pw := (Holding.of_bearing s.columnOver_bearing).pw

theorem State.columnOver_th (s : State) : s.columnOver.th = s.th := (Holding.of_bearing s.columnOver_bearing).th

theorem State.columnOver_nCol (s : State) : s.columnOver.nCol = s.nCol := by rw [State.nCol, s.columnOver_scan]; rfl

section
variable (s : State) (running : s.scan.phase = .running) (stop : s.scan.stopWanted = false) (restart : s.scan.restartWanted = false)
include running stop restart

theorem State.columnBoundary_goesOn : s.columnBoundary =
    if decide ((s.scan.column + 1) % s.nCol = 0) && decide (s.scan.column / s.nCol % 2 = 1) && s.throttlePending then
      let u := s.columnOver.closeFrame s.scan.column false
      ({ u with th := { u.th with steps := u.th.steps + 1 } } : State).beginSettle true
    else (s.columnOver.when (decide ((s.scan.column + 1) % s.nCol = 0)) (fun s_1 => s_1.closeFrame s.scan.column false)).beginColumn (s.scan.column + 1) := by
  have goesOn : ¬ s.columnOver.scan.stopWanted = true := by rw [s.columnOver_scan, stop]; decide
  have again : ¬ s.columnOver.scan.restartWanted = true := by rw [s.columnOver_scan, restart]; decide
  rw [s.columnBoundary_of_running running, State.nextColumn, if_neg goesOn, if_neg again, s.columnOver_throttle, s.columnOver_nCol]

/-- Inside a frame, and at the end of a forward one, the next column begins. -/
theorem State.nextColumn_plain (plain : (s.scan.column + 1) % s.nCol ≠ 0 ∨ s.scan.column / s.nCol % 2 = 0) : s.columnBoundary =
    (s.columnOver.when (decide ((s.scan.column + 1) % s.nCol = 0)) (fun u => u.closeFrame s.scan.column false)).beginColumn (s.scan.column + 1) := by
  rw [s.columnBoundary_goesOn running stop restart, if_neg]
  obtain h | h := plain <;> simp [h]

/-- A throttle restart counts. -/
def State.stepped (s : State) : State := { s with th := { s.th with steps := s.th.steps + 1 } }

theorem State.nextColumn_throttled (last : (s.scan.column + 1) % s.nCol = 0) (reverse : s.scan.column / s.nCol % 2 = 1) (pending : s.throttlePending = true) :
    s.columnBoundary = (s.columnOver.closeFrame s.scan.column false).stepped.beginSettle true := by
  rw [s.columnBoundary_goesOn running stop restart, if_pos (by simp [last, reverse, pending])]
  rfl

end

/-! ### SCAN_STOP -/

theorem cmdScanStop_running (u : State) (st : u.pw.st = .scanning) (running : u.scan.phase = .running) :
    cmdScanStop u = ({ u with scan := { u.scan with stopWanted := true } } : State).reply (.later 0) := by
  rw [cmdScanStop, State.guarded_pass _ _ _ fun c mem => by rw [List.mem_singleton.1 mem]; simp [State.badState, st], if_pos running]

theorem cmdScanStop_settling (u : State) (st : u.pw.st = .scanning) (other : u.scan.phase ≠ .running) :
    cmdScanStop u = ⟨.final 0 0 [], u, fun t => t.enterState .ready 1⟩ := by
  rw [cmdScanStop, State.guarded_pass _ _ _ fun c mem => by rw [List.mem_singleton.1 mem]; simp [State.badState, st], if_neg other]

theorem cmdScanStop_other (u : State) (st : u.pw.st ≠ .scanning) : cmdScanStop u = u.reply (.final 0x13 u.stateCode []) := by
  rw [cmdScanStop, State.guarded_cons, if_pos (by simp [State.badState, st])]
  rfl

/-- Settles O25: what each boundary makes of the phase, the column and the frame. -/
theorem columnSchedule : Obligations.ColumnSchedule := by
  unfold Obligations.ColumnSchedule
  refine ⟨fun cc => ?fix, fun cc => ?noFix, fun s on => s.inhibitOff_clears 0 on (by decide), fun s => ⟨s.armScheduler_lfsr, s.armScheduler_bank⟩, ?first, ?again, ?next, ?frame, ?stop, ?restart,
    ?still, ?throttle, ?noThrottle, fun c s p u row runs st running => ?later, fun c s p u row runs st other => ?now, fun via seq => .of_handler rfl fun u st => cmdScanStop_other u st⟩
  case fix =>
    refine .of_effect (fun _ => rfl) fun s ⟨settling, on, start⟩ => ?_
    obtain ⟨base, column⟩ := s.flushed_place
    rw [s.column0Fix_eq cc settling start on, State.fixedAt_scan, base, column]
    exact ⟨rfl, rfl, rfl, rfl, _, rfl⟩
  case noFix =>
    refine .of_effect (fun _ => rfl) fun s h => if_neg ?_
    rintro ⟨settling, -, on⟩
    obtain h | h := h
    · exact h settling
    · simp [h] at on
  case first =>
    refine .of_effect (fun _ => rfl) fun s ⟨fixed, ready⟩ => ?_
    rw [s.columnBoundary_of_fixed fixed, ready, State.when, if_pos (by decide)]
    have enter := Holding.enterState { s with scan := { s.scan with phase := .running } } .scanning 1 (by decide)
    have begin_ := (({ s with scan := { s.scan with phase := .running } } : State).enterState .scanning 1).beginColumn_bearing 0
    have scan := State.scan_of_bearing begin_
    have pw := State.pw_of_bearing begin_
    rw [enter.scan] at scan
    rw [enter.pw] at pw
    rw [pw, scan]
    exact ⟨rfl, rfl, rfl, rfl⟩
  case again =>
    refine .of_effect (fun _ => rfl) fun s ⟨fixed, scanning⟩ => ?_
    have begin_ := ({ s with scan := { s.scan with phase := .running } } : State).beginColumn_bearing 0
    rw [s.columnBoundary_of_fixed fixed, scanning, State.when, if_neg (by decide), State.pw_of_bearing begin_, State.scan_of_bearing begin_]
    exact ⟨rfl, rfl, rfl⟩
  case next =>
    refine .of_effect (fun _ => rfl) fun s ⟨running, stop, restart, inner⟩ => ?_
    have begin_ := s.columnOver.beginColumn_bearing (s.scan.column + 1)
    rw [s.nextColumn_plain running stop restart (.inl inner), decide_eq_false inner, State.when, if_neg (by decide), State.pw_of_bearing begin_, State.scan_of_bearing begin_,
      s.columnOver_scan, s.columnOver_pw, s.columnOver_nCol]
    exact ⟨running, rfl, if_neg inner, rfl⟩
  case frame =>
    refine .of_effect (fun _ => rfl) fun s ⟨running, stop, restart, last, forward⟩ => ?_
    have begin_ := (s.columnOver.closeFrame s.scan.column false).beginColumn_bearing (s.scan.column + 1)
    have scan : (s.columnOver.closeFrame s.scan.column false).scan = s.scan := s.columnOver_scan
    have pw : (s.columnOver.closeFrame s.scan.column false).pw = s.pw := s.columnOver_pw
    have nCol : (s.columnOver.closeFrame s.scan.column false).nCol = s.nCol := s.columnOver_nCol
    rw [s.nextColumn_plain running stop restart (.inr forward), decide_eq_true last, State.when, if_pos rfl, State.pw_of_bearing begin_, State.scan_of_bearing begin_,
      scan, pw, nCol]
    exact ⟨running, rfl, if_pos last, rfl⟩
  case stop =>
    refine .of_effect (fun _ => rfl) fun s ⟨running, stop⟩ => ?_
    have stops : s.columnOver.scan.stopWanted = true := by rw [s.columnOver_scan, stop]
    rw [s.columnBoundary_of_running running, State.nextColumn, if_pos stops, State.stopHere]
    obtain ⟨pw, -, idle⟩ := State.enterState_kept ((s.columnOver.closeFrame s.scan.column (!decide ((s.scan.column + 1) % s.nCol = 0))).scanOff.answerLater 0x0101 0 0 0 []) .ready 1
      (by decide) (by decide)
    rw [pw]
    exact ⟨rfl, rfl, idle⟩
  case restart =>
    refine .of_effect (fun _ => rfl) fun s ⟨running, stop, restart⟩ => ?_
    have goesOn : ¬ s.columnOver.scan.stopWanted = true := by rw [s.columnOver_scan, stop]; decide
    have again : s.columnOver.scan.restartWanted = true := by rw [s.columnOver_scan, restart]
    have settle := (s.columnOver.closeFrame s.scan.column (!decide ((s.scan.column + 1) % s.nCol = 0))).beginSettle_bearing
    rw [s.columnBoundary_of_running running, State.nextColumn, if_neg goesOn, if_pos again, State.scan_of_bearing settle, State.pw_of_bearing settle]
    exact ⟨rfl, rfl, s.columnOver_pw⟩
  case still => exact .of_effect (fun _ => rfl) fun s h => s.columnBoundary_of_still h
  case throttle =>
    refine .of_effect (fun _ => rfl) fun s ⟨running, stop, restart, last, reverse, pending⟩ => ?_
    have begins : s.throttleRestart = s.columnBoundary := if_pos ⟨running, last, reverse, pending⟩
    rw [begins, s.nextColumn_throttled running stop restart last reverse pending]
    have settle := (s.columnOver.closeFrame s.scan.column false).stepped.beginSettle_bearing
    rw [State.scan_of_bearing settle, State.pw_of_bearing settle, State.th_of_bearing settle]
    exact ⟨rfl, rfl, congrArg (fun x : ThSt => x.steps + 1) s.columnOver_th, s.columnOver_pw⟩
  case noThrottle =>
    refine .of_effect (fun _ => rfl) fun s h => if_neg ?_
    rintro ⟨running, -, -, pending⟩
    obtain h | h := h
    · exact h running
    · simp [h] at pending
  case later =>
    subst row
    obtain ⟨packet, exec⟩ := runs.exec_row (via := p.via) (seq := p.seq) (op := 0x0101) (d := []) rfl
    rw [exec, show runOp p.via u 0x0101 [] = cmdScanStop u from rfl, cmdScanStop_running u st running]
    rfl
  case now =>
    subst row
    exact DoneThen.of_handler (via := p.via) (seq := p.seq) (op := 0x0101) (d := []) rfl runs (cmdScanStop_settling u st other)

end Sys2Proof.Machine
end

section
/-! PROOFS. HIST_DUMP, its cancel and its end (chapter 8, R193 to R195). -/
namespace Sys2Proof.Machine

/-! ### The operands of HIST_DUMP -/

/-- The payload of HIST_DUMP (Table 2-10). -/
def dumpOperands (first rows cols : BitVec 16) (parts : Byte) : List Byte := beBytes 2 first.toNat ++ beBytes 2 rows.toNat ++ beBytes 2 cols.toNat ++ [parts, 0]

section
variable (first rows cols : BitVec 16) (parts : Byte)

theorem dumpOperands_first : u16 (dumpOperands first rows cols parts) 0 = first.toNat := ofBe_beBytes_two first

theorem dumpOperands_rows : u16 (dumpOperands first rows cols parts) 2 = rows.toNat := ofBe_beBytes_two rows

theorem dumpOperands_cols : u16 (dumpOperands first rows cols parts) 4 = cols.toNat := ofBe_beBytes_two cols

theorem dumpOperands_parts : u8 (dumpOperands first rows cols parts) 6 = parts.toNat := ofBe_byte parts

theorem dumpOperands_reserved : notZero (dumpOperands first rows cols parts) 7 1 = false := rfl

end

/-! ### HIST_DUMP -/

/-- The state with a dump under way. -/
def State.dumping (u : State) (d : Dump) : State :=
  (({ u with rx := { u.rx with dump := some d } } : State).set F.RX.DUMP_STAT_ACTIVE 1).set F.RX.DUMP_STAT_COL_LEFT (min d.columns 4095)

section
variable (u : State) (d : Dump)

theorem State.set_set_eq (x : State) (f g : Fld) (v w : Nat) : (x.set f v).set g w = { x with regs := ((x.set f v).set g w).regs } := rfl

theorem State.dumping_eq : u.dumping d = { u with regs := (u.dumping d).regs, rx := { u.rx with dump := some d } } := State.set_set_eq _ _ _ _ _

theorem State.dumping_active : (u.dumping d).get F.RX.DUMP_STAT_ACTIVE = 1 := by
  simp (disch := decide) only [State.dumping, State.get_set_bits, State.get_set_same]
  rfl

theorem State.dumping_left (small : d.columns ≤ 2048) : (u.dumping d).get F.RX.DUMP_STAT_COL_LEFT = d.columns := by
  rw [State.dumping, State.get_set_same _ _ _ (by decide), Nat.min_eq_left (by omega)]
  exact Nat.mod_eq_of_lt (Nat.lt_of_le_of_lt small (by decide))

theorem State.dumping_regs : SameRegs u (u.dumping d) [F.RX.DUMP_STAT_ACTIVE.addr] := by
  intro a outside
  have other : a ≠ F.RX.DUMP_STAT_ACTIVE.addr := fun h => outside (List.mem_singleton.2 h)
  have other' : a ≠ F.RX.DUMP_STAT_COL_LEFT.addr := other
  simp only [State.dumping, State.set, State.rd_wr, if_neg other, if_neg other']
  rfl

end

theorem cmdHistDump_starts (u : State) (first rows cols : BitVec 16) (parts : Byte) (inside : first.toNat + rows.toNat ≤ 1024) (someRows : rows ≠ 0) (partsLow : 1 ≤ parts.toNat)
    (partsHigh : parts.toNat ≤ 3) (colsLow : 1 ≤ cols.toNat) (colsHigh : cols.toNat ≤ 2048) (scanning : u.pw.st = .scanning) (on : u.domOn 69 = true)
    (free : u.rangeBusy 0x0108 = false) (serves : u.class5Refusing = false)
    (fits : rows.toNat * (48 + 4096 * (parts.toNat % 2) + 528 * (parts.toNat / 2 % 2)) * u.colRate ≤ u.get F.RX.DUMP_CFG_RATE_MAX * 10 ^ 6) :
    cmdHistDump u (dumpOperands first rows cols parts) =
      (u.dumping ⟨first.toNat, rows.toNat, cols.toNat, parts.toNat, u.time.dev, none, 0, 0, 0, false⟩).reply (.accepted 0) := by
  have rowsLow : rows.toNat ≠ 0 := fun h => someRows (BitVec.eq_of_toNat_eq h)
  have carried : ¬ u.get F.RX.DUMP_CFG_RATE_MAX * 10 ^ 6 < rows.toNat * (48 + 4096 * (parts.toNat % 2) + 528 * (parts.toNat / 2 % 2)) * u.colRate := Nat.not_lt.2 fits
  rw [cmdHistDump, dumpOperands_first, dumpOperands_rows, dumpOperands_cols, dumpOperands_parts, dumpOperands_reserved, State.guarded_pass, State.accept, free]
  · rfl
  · simp only [List.mem_cons, List.not_mem_nil, or_false, forall_eq_or_imp, forall_eq, State.badState, State.needDom, badParam, scanning, on, serves, free, decide_eq_false carried]
    simp only [Bool.and_false, Bool.or_false, decide_eq_false_iff_not]
    refine ⟨rfl, rfl, ?_, ?_, trivial, trivial⟩ <;> omega

/-! ### The end of a dump -/

/-- The end record of a dump (R195). -/
def State.dumpRecord (s : State) (d : Dump) : List Byte :=
  [2, 0] ++ beBytes 2 0xFFFF ++ zeros 4 ++ beBytes 8 s.time.dev.toNat ++ zeros 12 ++ beBytes 4 48 ++ beBytes 4 d.delivered ++ beBytes 4 d.dropped ++ zeros 8

/-- The state once the end record is queued. -/
def State.dumpClosed (s : State) (d : Dump) : State :=
  (({ s.txPut 5 (s.dumpRecord d) with rx := { (s.txPut 5 (s.dumpRecord d)).rx with dump := none } } : State).set F.RX.DUMP_STAT_ACTIVE 0).set F.RX.DUMP_STAT_COL_LEFT 0

section
variable (s : State) (d : Dump)

theorem State.stream_txPut (k : Nat) (bytes : List Byte) : ((s.txPut k bytes).stream k).units = (s.stream k).units ++ [bytes] := by
  have got : (s.txPut k bytes).stream k = { s.stream k with units := (s.stream k).units ++ [bytes] } := (spGet_spSet _ _ _ _ _).trans (if_pos rfl)
  rw [got]

theorem State.dumpClosed_stream : ((s.dumpClosed d).stream 5).units = (s.stream 5).units ++ [s.dumpRecord d] := by
  have same : (s.dumpClosed d).tx = (s.txPut 5 (s.dumpRecord d)).tx := by simp [State.dumpClosed]
  rw [State.stream, same]
  exact s.stream_txPut 5 _

theorem State.dumpRecord_length : (s.dumpRecord d).length = 48 := by simp [State.dumpRecord, zeros]

theorem State.dumpRecord_delivered : u32 (s.dumpRecord d) 32 = d.delivered % 2 ^ 32 := ofBe_beBytes 4 d.delivered

theorem State.dumpRecord_dropped : u32 (s.dumpRecord d) 36 = d.dropped % 2 ^ 32 := ofBe_beBytes 4 d.dropped

theorem State.dumpClosed_rx : (s.dumpClosed d).rx.dump = none := by simp [State.dumpClosed]

theorem State.dumpClosed_active : (s.dumpClosed d).get F.RX.DUMP_STAT_ACTIVE = 0 := by
  simp (disch := decide) only [State.dumpClosed, State.get_set_bits, State.get_set_same]
  rfl

theorem State.dumpEnd_eq (dump : s.rx.dump = some d) : s.dumpEnd false =
    if d.dropped = 0 then (s.dumpClosed d).complete 0x0108 0 0 [] else (s.dumpClosed d).complete 0x0108 0x60 (min 255 d.dropped) [] := by
  unfold State.dumpEnd
  rw [dump]
  exact if_neg Bool.false_ne_true

theorem State.dumpComplete_ends (dump : s.rx.dump = some d) {c0 : Nat} (start : d.start = some c0) (read : c0 + d.columns ≤ s.scan.base + s.scan.column) :
    s.dumpComplete = s.dumpEnd false := by
  rw [State.dumpComplete, dump]
  exact if_pos (by simp [start, read])

end

/-- Settles O26, by what the handlers and the end of a dump make of its record. -/
theorem histogramDump : Obligations.HistogramDump := by
  unfold Obligations.HistogramDump
  refine ⟨fun via seq first rows cols parts inside someRows partsLow partsHigh colsLow colsHigh => ?starts, fun via seq first rows cols parts => ?away, fun via seq d => ?cancel,
    fun via seq => ?noCancel, fun d c0 start => ?ends, ?still⟩
  case starts =>
    refine .of_handler (d := dumpOperands first rows cols parts) rfl fun u ⟨scanning, on, free, serves, fits⟩ => ⟨_,
      cmdHistDump_starts u first rows cols parts inside someRows partsLow partsHigh colsLow colsHigh scanning on free serves fits, u.dumping_eq _, u.dumping_active _, ?_, u.dumping_regs _⟩
    exact u.dumping_left _ colsHigh
  case away =>
    refine .of_handler rfl fun u st => (State.guarded_cons _ _ _ _).trans (if_pos ?_)
    simpa [State.badState] using st
  case cancel => exact .of_handler (d := []) rfl fun u dump => ⟨_, by rw [show runOp via u 0x0109 [] = cmdHistDumpCancel u from rfl, cmdHistDumpCancel, dump], rfl⟩
  case noCancel => exact .of_answer (d := []) rfl fun u dump => by rw [show runOp via u 0x0109 [] = cmdHistDumpCancel u from rfl, cmdHistDumpCancel, dump]
  case ends =>
    refine .of_effect (fun _ => rfl) fun s ⟨dump, read⟩ => ⟨s.dumpClosed d, (s.dumpComplete_ends d dump start read).trans (s.dumpEnd_eq d dump), s.dumpClosed_rx d, s.dumpClosed_active d, s.dumpRecord d, s.dumpClosed_stream d,
      s.dumpRecord_length d, s.dumpRecord_delivered d, s.dumpRecord_dropped d⟩
  case still => exact .of_effect (fun _ => rfl) fun s dump => by rw [Nothing, State.dumpComplete, dump]

end Sys2Proof.Machine
end

section
/-! PROOFS. Outside READY and SCANNING a fault enters no state (R430): what follows an event there touches only what telling of faults touches, so a handler's effect on the rest outlasts it. -/
namespace Sys2Proof.Machine

/-! ### Faults outside READY and SCANNING -/

theorem Answering.ofRegs {s t : State} {ws : List Nat} (h : OnlyRegs s t ws) : Answering s t := by
  obtain ⟨same, -⟩ := h
  rw [same]
  rfl

theorem Answering.shot_eq {s t : State} (h : Answering s t) : t.shot = s.shot := by rw [h]

theorem Answering.rx_eq {s t : State} (h : Answering s t) : t.rx = s.rx := by rw [h]

theorem Answering.logFault (s : State) (f : FaultRec) : Answering s (s.logFault f) := rfl

theorem Answering.noted (s : State) (f : FaultRec) : Answering s (s.noted f) :=
  ((Answering.logFault s f).trans (.ofRegs (.firstFault _ _ _))).trans (.inc _ _)

theorem Answering.reacting (s : State) (f : FaultRec) : Answering s (s.reacting f) := by
  have counting := Answering.ofRegs (OnlyRegs.counting s f)
  exact (((counting.trans (.set _ F.FM.FM_STAT_CLASS (max (s.get F.FM.FM_STAT_CLASS) f.cls))).trans (.set _ F.FM.FM_STAT_TIMER 1)).trans (.set _ F.FM.FM_STAT_RECOVERED 0)).trans rfl

/-- The device is neither in READY nor in SCANNING. -/
def State.quietState (s : State) : Prop := s.pw.st ≠ .ready ∧ s.pw.st ≠ .scanning

theorem Answering.quietState {s t : State} (h : Answering s t) (quiet : s.quietState) : t.quietState := by
  rw [State.quietState, h.pw_eq]
  exact quiet

theorem Answering.processFault (s : State) (f : FaultRec) (quiet : s.quietState) : Answering s (s.processFault f) := by
  have told : Answering s (((s.noted f).reacting f).inhibitOn (2 ^ 6)) := ((Answering.noted s f).trans (.reacting _ f)).trans (.inhibitOn _ _)
  obtain ⟨notReady, notScanning⟩ := told.quietState quiet
  rw [State.processFault_eq, State.react_eq, if_neg (c := f.cls = 3 ∧ _) (by rintro ⟨-, h | h⟩; exacts [notReady h, notScanning h])]
  split
  · exact told
  · exact .noted s f

theorem Answering.fmRun (n : Nat) (s : State) (quiet : s.quietState) : Answering s (s.fmRun n) := by
  induction n generalizing s with
  | zero => exact .refl s
  | succ n ih =>
    rw [State.fmRun]
    split
    · exact .refl s
    next f r _ =>
      have taken : Answering s { s with fm := { s.fm with queue := r } } := rfl
      have one := taken.trans (.processFault _ f quiet)
      exact one.trans (ih _ (one.quietState quiet))

theorem Answering.causesFollow (s : State) : Answering s s.causesFollow := .each _ _ (fun _ _ => .set _ _ _) s

theorem Answering.checkRecovery (s : State) : Answering s s.checkRecovery := by
  unfold State.checkRecovery
  dsimp only
  split
  · exact .refl s
  · have dropped (u : State) : Answering u (({ u with fm := { u.fm with counted := 0 } } : State).set F.FM.FM_STAT_CLASS 0) := rfl
    refine Answering.trans ?_ (.raise _ _ _ _)
    split
    · exact ((Answering.inc s _).trans (dropped _)).trans (.inhibitOff _ _)
    · exact (Answering.inc s _).trans (.set _ _ _)

theorem Answering.calm (s : State) (quiet : s.quietState) : Answering s.noteBias s.calm := by
  have bias : s.noteBias.quietState := by
    unfold State.noteBias
    split <;> exact quiet
  have first : Answering s.noteBias (s.noteBias.causesFollow.fmRun 512) := (Answering.causesFollow _).trans (.fmRun 512 _ ((Answering.causesFollow _).quietState bias))
  have second := (first.trans (.causesFollow _)).trans (.checkRecovery _)
  exact second.trans (.fmRun 512 _ (second.quietState bias))

theorem Answering.sendReply (s : State) (p : Port) (op : Nat) (seq : BitVec 16) (a : Answer) (kept : AnsState) : Answering s (s.sendReply p op seq a kept) := by
  have sent (u : State) : Answering u (u.when (u.transportUp p) (fun s => s.sendOn p (replyPacket p op seq a))) := .when _ (.sendOn u _ _)
  have resent (u : State) (l : List (Port × BitVec 16)) : Answering u { u with cmd := { u.cmd with resend := l } } := rfl
  unfold State.sendReply
  dsimp only
  split
  · refine Answering.trans ?_ (.set _ _ _)
    refine Answering.trans ?_ (sent _)
    refine Answering.trans ?_ (resent _ _)
    exact (Answering.setSession _ _ _).trans (sent _)
  · exact (Answering.setSession _ _ _).trans (sent _)

theorem State.calm_shot (s : State) (quiet : s.quietState) : s.calm.shot = s.shot := by
  rw [(Answering.calm s quiet).shot_eq, State.noteBias]
  split <;> rfl

theorem State.replied_shot (t : State) (p : Pkt) (status detail : Nat) (data : List Byte) (quiet : t.quietState) : (t.replied p status detail data).shot = t.shot := by
  have sent : Answering t (t.sendReply p.via p.op p.seq (t.answer status detail data) (.final (t.answer status detail data))) := .sendReply _ _ _ _ _ _
  rw [State.replied, State.calm_shot _ (sent.quietState quiet), sent.shot_eq]

end Sys2Proof.Machine
end

section
/-! PROOFS. The emitter commands (chapter 4). The clause on STR_STAT lets registers alone change, but clearing CHARGE begins the count of R92 anew, and that count stands beside the registers. -/
namespace Sys2Proof.Machine

theorem State.wrStr_charge (s : State) (n : Fin 32) (v : Word) (st : s.pw.st = .ready ∨ s.pw.st = .safeHold) (was : s.flag (F.STR.STR_STAT_CHARGE n) = true)
    (clears : (s.hostWrite (0x20010 + 0x100 * n.val) v).flag (F.STR.STR_STAT_CHARGE n) = false) :
    s.wrStr (0x20010 + 0x100 * n.val) v =
      (s.hostWrite (0x20010 + 0x100 * n.val) v).setStr n { (s.hostWrite (0x20010 + 0x100 * n.val) v).str n with skips := 0 } := by
  have place : (0x20010 + 0x100 * n.val - 0x20000) / 0x100 = n.val := by omega
  unfold State.wrStr
  dsimp only
  rw [if_neg (by omega), if_pos (by omega), if_pos st, place, was, clears]
  rfl

/-- Clearing CHARGE begins the count of R92 anew. -/
theorem State.hostStore_charge (s : State) (n : Fin 32) (v : Word) (noStep : s.calHostWrite (0x20010 + 0x100 * n.val) = s) (st : s.pw.st = .ready ∨ s.pw.st = .safeHold)
    (was : s.flag (F.STR.STR_STAT_CHARGE n) = true) (clears : (s.hostWrite (0x20010 + 0x100 * n.val) v).flag (F.STR.STR_STAT_CHARGE n) = false) :
    ((s.hostStore (0x20010 + 0x100 * n.val) v).str n).skips = 0 := by
  rw [s.hostStore_emitter _ v noStep (by omega) (by omega), State.wrEmitter, if_pos (by omega), s.wrStr_charge n v st was clears, State.str, State.setStr, spGet_spSet, if_pos rfl]

theorem oneBlock_strStat : ∀ n : Fin 32, oneBlock (0x20010 + 0x100 * n.val) 1 = true := by decide

/-- What STRING_FAULT_CLEAR stores. -/
theorem stringFaultClear_stores (via : Port) (seq : BitVec 16) (n : Fin 32) (v : Word) :
    Writes (.stringFaultClear via seq n v) (0x20010 + 0x100 * n.val) 1 (fun u => (u.pw.st = .ready ∨ u.pw.st = .safeHold) ∧ u.flag (F.STR.STR_STAT_CHARGE n) = true ∧
      (u.hostWrite (0x20010 + 0x100 * n.val) v).flag (F.STR.STR_STAT_CHARGE n) = false) (fun u t => t.pw = u.pw ∧ (t.str n).skips = 0) :=
  .of_word rfl (by omega) (by omega) (oneBlock_strStat n) (by simp [lockedWord]; omega) (fun u _ => u.writeRefused_other _ _ (by simp; omega)) (plainWord_of_range _ (by omega))
    fun u noStep ⟨st, was, clears⟩ => ⟨by
      rw [u.hostStore_emitter _ v noStep (by omega) (by omega), State.wrEmitter, if_pos (by omega), u.wrStr_charge n v st was clears]
      rfl, u.hostStore_charge n v noStep st was clears⟩

/-- String 0 has skipped 64 firings, which latched CHARGE (R92), and the device is in SAFE_HOLD. -/
def chargeLatched : State :=
  ((({ State.reset with pw := { State.reset.pw with st := .safeHold } } : State).set (F.STR.STR_STAT_CHARGE 0) 1).setStr 0 { State.reset.str 0 with skips := 64 })

/-- The host clears CHARGE. -/
def clearsCharge : Pkt := ⟨.spi, 0, 0x0009, regWritePayload 0x20010 [8]⟩

theorem chargeLatched_takes : chargeLatched.takes clearsCharge = true := by decide +kernel

theorem chargeLatched_seen : (chargeLatched.seen clearsCharge).pw.st = .safeHold ∧ (chargeLatched.seen clearsCharge).touchesOff 0x20010 1 = false ∧
    (chargeLatched.seen clearsCharge).noStep (wordAddrs 0x20010 1) = true := by decide +kernel

theorem chargeLatched_charge : (chargeLatched.seen clearsCharge).flag (F.STR.STR_STAT_CHARGE 0) = true ∧
    ((chargeLatched.seen clearsCharge).hostWrite 0x20010 8).flag (F.STR.STR_STAT_CHARGE 0) = false ∧ ((chargeLatched.seen clearsCharge).str 0).skips = 64 := by decide +kernel

/-- Refutes O27: the clause that clearing latches of STR_STAT changes that register alone leaves out the count of skips, which begins anew when CHARGE clears
(R92). In `chargeLatched` the count falls from 64 to 0. -/
theorem not_emitterCommands : ¬ Obligations.EmitterCommands := by
  unfold Obligations.EmitterCommands
  intro holds
  obtain ⟨-, -, -, -, -, -, -, strings, -⟩ := holds
  obtain ⟨st, on, noStep⟩ := chargeLatched_seen
  obtain ⟨was, clears, count⟩ := chargeLatched_charge
  have runs : Runs (.stringFaultClear .spi 0 0 8) chargeLatched clearsCharge (chargeLatched.seen clearsCharge) := ⟨rfl, chargeLatched_takes, rfl⟩
  obtain ⟨t, done, ⟨same, -⟩, -⟩ := strings .spi 0 0 8 chargeLatched clearsCharge _ runs ⟨on, noStep, .inr st⟩
  obtain ⟨x, stores, pw, none⟩ := stringFaultClear_stores .spi 0 0 8 chargeLatched clearsCharge _ runs ⟨on, noStep, .inr st, was, clears⟩
  have quiet : (chargeLatched.seen clearsCharge).quietState := by rw [State.quietState, st]; decide
  have tPw : t.pw = (chargeLatched.seen clearsCharge).pw := by rw [same]
  have tShot : t.shot = (chargeLatched.seen clearsCharge).shot := by rw [same]
  have outcome : t.replied clearsCharge 0 0 [] = x.replied clearsCharge 0 0 [] := Host.Outcome.next.inj (done.symm.trans stores)
  have shots : t.shot = x.shot := by
    rw [← t.replied_shot clearsCharge 0 0 [] (by rw [State.quietState, tPw]; exact quiet), outcome, x.replied_shot clearsCharge 0 0 [] (by rw [State.quietState, pw]; exact quiet)]
  have kept : x.str (0 : Fin 32) = (chargeLatched.seen clearsCharge).str 0 := by
    rw [State.str, ← shots, tShot]
    rfl
  rw [kept, count] at none
  omega

end Sys2Proof.Machine
end

section
/-! PROOFS. The sources of EMIT_INHIBIT (R100). -/
namespace Sys2Proof.Machine

/-! ### The bits of the sources -/

/-- `4095 - x` is the complement of a 12-bit value. -/
theorem testBit_complement (x i : Nat) (small : x < 4096) : (4095 - x).testBit i = (decide (i < 12) && !x.testBit i) := by
  rw [← Nat.testBit_two_pow_sub_succ (n := 12) small i]
  congr 1
  omega

theorem lor_fresh (old mask : Nat) (oldSmall : old < 4096) (small : mask < 4096) : old ||| (mask &&& (4095 - old)) = old ||| mask := by
  refine Nat.eq_of_testBit_eq fun i => ?_
  rw [Nat.testBit_or, Nat.testBit_and, testBit_complement old i oldSmall, Nat.testBit_or]
  obtain bound | bound := Nat.lt_or_ge i 12
  · cases old.testBit i <;> simp [bound]
  · have high : mask.testBit i = false := Nat.testBit_lt_two_pow (Nat.lt_of_lt_of_le small (Nat.pow_le_pow_right (i := 12) Nat.two_pos bound))
    simp [high]

theorem lor_small {a b : Nat} (ha : a < 4096) (hb : b < 4096) : a ||| b < 4096 := Nat.or_lt_two_pow (n := 12) ha hb

/-- The bit of a source after a mask is taken out. -/
theorem testBit_masked (x : Nat) (i j : Fin 12) : (x &&& (4095 - 2 ^ i.val)).testBit j = (x.testBit j && decide (i ≠ j)) := by
  have other : ∀ i j : Fin 12, (4095 - 2 ^ i.val).testBit j = decide (i ≠ j) := by decide
  rw [Nat.testBit_and, other]

/-! ### Sources that assert -/

/-- EMIT_INHIBIT and its latch with the bits of `mask`. -/
def State.inhibited (s : State) (mask : Nat) : State :=
  (s.set F.SHT.EMIT_INHIBIT_SRC (s.get F.SHT.EMIT_INHIBIT_SRC ||| (mask &&& (4095 - s.get F.SHT.EMIT_INHIBIT_SRC)))).set F.SHT.EMIT_INHIBIT_LATCH_SRC
    (s.get F.SHT.EMIT_INHIBIT_LATCH_SRC ||| (mask &&& (4095 - s.get F.SHT.EMIT_INHIBIT_SRC)))

theorem State.inhibitOn_eq (s : State) (mask : Nat) (on : s.domOn 68 = true) : s.inhibitOn mask =
    if mask &&& (4095 - s.get F.SHT.EMIT_INHIBIT_SRC) &&& (4095 - s.get F.SHT.EMIT_INHIBIT_LATCH_SRC) = 0 then s.inhibited mask
    else (s.inhibited mask).raise EV_EMITTER_INHIBIT 0 (mask &&& (4095 - s.get F.SHT.EMIT_INHIBIT_SRC) &&& (4095 - s.get F.SHT.EMIT_INHIBIT_LATCH_SRC)) := if_pos on

section
variable (s : State) (mask : Nat) (small : mask < 4096)

theorem OnlyRegs.inhibited : OnlyRegs s (s.inhibited mask) [0x24410, 0x24414] :=
  (OnlyRegs.set s F.SHT.EMIT_INHIBIT_SRC _ (by decide)).trans (.set _ F.SHT.EMIT_INHIBIT_LATCH_SRC _ (by decide))

include small

theorem State.inhibited_src : (s.inhibited mask).get F.SHT.EMIT_INHIBIT_SRC = s.get F.SHT.EMIT_INHIBIT_SRC ||| mask := by
  have old : s.get F.SHT.EMIT_INHIBIT_SRC < 4096 := s.get_lt _
  rw [State.inhibited, State.get_set_addr _ _ _ _ (by decide), State.get_set_same _ _ _ (by decide), lor_fresh _ _ old small]
  exact Nat.mod_eq_of_lt (lor_small old small)

theorem State.inhibited_latch : (s.inhibited mask).get F.SHT.EMIT_INHIBIT_LATCH_SRC =
    s.get F.SHT.EMIT_INHIBIT_LATCH_SRC ||| (mask &&& (4095 - s.get F.SHT.EMIT_INHIBIT_SRC)) := by
  have latch : s.get F.SHT.EMIT_INHIBIT_LATCH_SRC < 4096 := s.get_lt _
  rw [State.inhibited, State.get_set_same _ _ _ (by decide)]
  exact Nat.mod_eq_of_lt (lor_small latch (Nat.lt_of_le_of_lt Nat.and_le_left small))

end

/-! ### Sources that release -/

theorem OnlyRegs.inhibitOff (s : State) (mask : Nat) : OnlyRegs s (s.inhibitOff mask) [0x24410] := by
  unfold State.inhibitOff
  split
  · exact .set s F.SHT.EMIT_INHIBIT_SRC _ (by decide)
  · exact .refl s _

theorem State.inhibitOff_keeps (s : State) (i j : Fin 12) (on : s.domOn 68 = true) (other : j ≠ i) :
    (s.inhibitOff (2 ^ i.val)).bitAt F.SHT.EMIT_INHIBIT_SRC j = s.bitAt F.SHT.EMIT_INHIBIT_SRC j := by
  have bit : (s.inhibitOff (2 ^ i.val)).get F.SHT.EMIT_INHIBIT_SRC = (s.get F.SHT.EMIT_INHIBIT_SRC &&& (4095 - 2 ^ i.val)) % 2 ^ 12 := by
    rw [State.inhibitOff, if_pos on, State.get_set_same _ _ _ (by decide)]
    rfl
  rw [State.bitAt, bit, State.bitAt]
  change decide ((s.get F.SHT.EMIT_INHIBIT_SRC &&& (4095 - 2 ^ i.val)) % 2 ^ 12 / 2 ^ j.val % 2 = 1) = decide (s.get F.SHT.EMIT_INHIBIT_SRC / 2 ^ j.val % 2 = 1)
  rw [← Nat.testBit_eq_decide_div_mod_eq, ← Nat.testBit_eq_decide_div_mod_eq, Nat.testBit_mod_two_pow, testBit_masked]
  simp [other.symm]

theorem State.sourceRelease_of_free (s : State) (i : Fin 12) (held : heldSources.contains i.val = false) (free : s.stateSources / 2 ^ i.val % 2 = 0) :
    s.sourceRelease i = s.inhibitOff (2 ^ i.val) := by
  rw [State.sourceRelease, held, free]
  rfl

theorem State.sourceRelease_of_held (s : State) (i : Fin 12) (held : heldSources.contains i.val = true ∨ s.stateSources / 2 ^ i.val % 2 = 1) : s.sourceRelease i = s :=
  if_pos (by simpa only [Bool.or_eq_true, beq_iff_eq] using held)

/-- Settles O28: the bits that assert and release, and the pin that they hold down. -/
theorem inhibitSources : Obligations.InhibitSources := by
  unfold Obligations.InhibitSources
  refine ⟨fun m => ?assert, fun i => ?release, fun i => ?hold, fun n => ?stray, fun s pin test => ?pin⟩
  case assert =>
    exact .of_effect (fun _ => rfl) fun s on => ⟨s.inhibited m.toNat, .inhibited s _, s.inhibited_src _ m.isLt, s.inhibited_latch _ m.isLt, s.inhibitOn_eq _ on⟩
  case release =>
    refine .of_effect (fun _ => rfl) fun s ⟨on, held, free⟩ => ?_
    rw [s.sourceRelease_of_free i held free]
    exact ⟨.inhibitOff s _, s.inhibitOff_clears i on i.isLt, fun j other => s.inhibitOff_keeps i j on other⟩
  case hold => exact .of_effect (fun _ => rfl) fun s held => s.sourceRelease_of_held i held
  case stray => exact .of_effect (fun _ => rfl) fun s on => if_pos on
  case pin =>
    obtain ⟨-, zero | testing⟩ : s.domOn 68 = true ∧ (s.get F.SHT.EMIT_INHIBIT_SRC = 0 ∨ s.shot.chargeTest.isSome = true) := by simpa [State.emitEn] using pin
    · exact zero
    · simp [test] at testing

end Sys2Proof.Machine
end

section
/-! PROOFS. The moments of a slot (chapter 4): what the judgement of its strings, the notes of the limiter and the pick-off leave of the banks, of the LFSR and of the energy sums. -/
namespace Sys2Proof.Machine

/-! ### What a slot's side effects keep -/

theorem State.rd_raise_device (s : State) (n i d a : Nat) (known : n < 256) (low : 0x20000 ≤ a) (high : a < 0x7000000) : (s.raise n i d).rd a = s.rd a := by
  refine s.raise_rd n i d a ?_
  simp only [eventWords, F.CMD.EV_COUNT, F.CMD.EVT_DROP, F.MON.EV_LINES_LOST, activeBit, List.mem_cons, List.not_mem_nil, or_false]
  omega

/-- A bank's record apart from the figures noted for BANK_LIM. -/
def BankSt.slot (x : BankSt) : BankSt := { x with limCell := 0, limCellSum := 0 }

/-- The slots of every bank, the LFSR, the energy sums and the emitter's words outside `own` stay as they are. -/
structure SlotKept (own : Nat → Prop) (s t : State) : Prop where
  slots : ∀ c, (t.bank c).slot = (s.bank c).slot
  lfsr : t.shot.lfsr = s.shot.lfsr
  cells : t.shot.cells = s.shot.cells
  longs : t.shot.longs = s.shot.longs
  regs : ∀ a, 0x20000 ≤ a → a < 0x24600 → ¬ own a → t.rd a = s.rd a

namespace SlotKept
variable {own : Nat → Prop} {s t u : State}

theorem refl (s : State) : SlotKept own s s := ⟨fun _ => rfl, rfl, rfl, rfl, fun _ _ _ _ => rfl⟩

theorem trans (first : SlotKept own s t) (second : SlotKept own t u) : SlotKept own s u :=
  ⟨fun c => (second.slots c).trans (first.slots c), second.lfsr.trans first.lfsr, second.cells.trans first.cells, second.longs.trans first.longs,
    fun a low high other => (second.regs a low high other).trans (first.regs a low high other)⟩

/-- The shots are as they were; so are the words. -/
theorem of_shot (shot : t.shot = s.shot) (regs : ∀ a, 0x20000 ≤ a → a < 0x24600 → ¬ own a → t.rd a = s.rd a) : SlotKept own s t :=
  ⟨fun c => by rw [State.bank, State.bank, shot], by rw [shot], by rw [shot], by rw [shot], regs⟩

theorem mono {own' : Nat → Prop} (sub : ∀ a, own a → own' a) (h : SlotKept own s t) : SlotKept own' s t :=
  ⟨h.slots, h.lfsr, h.cells, h.longs, fun a low high other => h.regs a low high fun mine => other (sub a mine)⟩

theorem set (s : State) (f : Fld) (x : Nat) (mine : ∀ a, 0x20000 ≤ a → a < 0x24600 → ¬ own a → a ≠ f.addr) : SlotKept own s (s.set f x) :=
  .of_shot (s.set_shot f x) fun a low high other => s.rd_set_ne f x a (mine a low high other)

theorem raise (s : State) (n i d : Nat) (known : n < 256) : SlotKept own s (s.raise n i d) :=
  .of_shot (Answering.raise s n i d).shot_eq fun a low high _ => s.rd_raise_device n i d a known low (by omega)

theorem setStr (s : State) (n : Nat) (x : StringSt) : SlotKept own s (s.setStr n x) := ⟨fun _ => rfl, rfl, rfl, rfl, fun _ _ _ _ => rfl⟩

theorem setRxBank (s : State) (b : Nat) (x : BankRx) : SlotKept own s (s.setRxBank b x) := ⟨fun _ => rfl, rfl, rfl, rfl, fun _ _ _ _ => rfl⟩

theorem when (b : Bool) {f : State → State} (h : ∀ u, SlotKept own u (f u)) (s : State) : SlotKept own s (s.when b f) := by
  cases b
  · exact .refl s
  · exact h s

theorem each {α : Type} (l : List α) (f : State → α → State) (step : ∀ u, ∀ a ∈ l, SlotKept own u (f u a)) (s : State) : SlotKept own s (s.each l f) := by
  induction l generalizing s with
  | nil => exact .refl s
  | cons a l ih => exact (step s a List.mem_cons_self).trans (ih (fun u b mem => step u b (List.mem_cons_of_mem _ mem)) _)

/-- A note of the limiter on one bank. -/
theorem setBank (s : State) (b : Nat) (x : BankSt) (same : x.slot = (s.bank b).slot) : SlotKept own s (s.setBank b x) := by
  refine ⟨fun c => ?_, rfl, rfl, rfl, fun _ _ _ _ => rfl⟩
  rw [State.bank_setBank]
  split
  next h => rw [same, h]
  · rfl

theorem get (h : SlotKept own s t) (f : Fld) (low : 0x20000 ≤ f.addr) (high : f.addr < 0x24600) (other : ¬ own f.addr) : t.get f = s.get f := by
  rw [State.get, State.get, h.regs f.addr low high other]

theorem flag (h : SlotKept own s t) (f : Fld) (low : 0x20000 ≤ f.addr) (high : f.addr < 0x24600) (other : ¬ own f.addr) : t.flag f = s.flag f := by
  rw [State.flag, State.flag, h.get f low high other]

theorem outcome (h : SlotKept own s t) (c : Nat) : (t.bank c).outcome = (s.bank c).outcome :=
  show (t.bank c).slot.outcome = (s.bank c).slot.outcome by rw [h.slots c]

theorem fireMask (h : SlotKept own s t) (c : Nat) : (t.bank c).fireMask = (s.bank c).fireMask :=
  show (t.bank c).slot.fireMask = (s.bank c).slot.fireMask by rw [h.slots c]

theorem samples (h : SlotKept own s t) (c : Nat) : (t.bank c).v = (s.bank c).v :=
  show (t.bank c).slot.v = (s.bank c).slot.v by rw [h.slots c]

end SlotKept

/-! ### The judgement of the strings (R92) -/

/-- A word of string `n`'s block. -/
def stringWord (n a : Nat) : Prop := 0x20000 + 0x100 * n ≤ a ∧ a < 0x20000 + 0x100 * (n + 1)

theorem SlotKept.latchDrive (s : State) (n : Nat) : SlotKept (stringWord n) s (s.latchDrive n) := by
  unfold State.latchDrive
  refine SlotKept.trans (when _ (fun u => ?_) s) (.setStr _ _ _)
  exact .set _ _ _ fun a _ _ other same => other (by rw [same]; simp only [stringWord, F.STR.STR_STAT_EFF_TARGET]; omega)

theorem SlotKept.judgeSample (s : State) (b i : Nat) : SlotKept (stringWord (4 * b + i)) s (s.judgeSample b i).2 := by
  have mine (f : Fld) (here : stringWord (4 * b + i) f.addr) (u : State) (x : Nat) : SlotKept (stringWord (4 * b + i)) u (u.set f x) :=
    .set _ _ _ fun a _ _ other same => other (same ▸ here)
  have skip := mine (F.STR.CHG_SKIP (4 * b + i)) (by simp only [stringWord, F.STR.CHG_SKIP]; omega)
  have charge := mine (F.STR.STR_STAT_CHARGE (4 * b + i)) (by simp only [stringWord, F.STR.STR_STAT_CHARGE]; omega)
  unfold State.judgeSample
  dsimp only
  split
  · exact .refl s
  · split
    · split
      · exact (((SlotKept.setStr s _ _).trans (skip _ _)).trans (charge _ _)).trans (.raise _ _ _ _ (by decide))
      · exact (SlotKept.setStr s _ _).trans (skip _ _)
    · exact .setStr s _ _

/-- A string is live by its own words. -/
theorem State.live_congr {s t : State} (n : Nat) (words : ∀ a, stringWord n a → t.rd a = s.rd a) : t.live n = s.live n := by
  have flag (f : Fld) (here : stringWord n f.addr) : t.flag f = s.flag f := by rw [State.flag, State.flag, State.get, State.get, words _ here]
  rw [State.live, State.live, flag (F.STR.STR_CTRL_EN n) (by simp only [stringWord, F.STR.STR_CTRL_EN]; omega),
    flag (F.STR.STR_STAT_OVERVOLT n) (by simp only [stringWord, F.STR.STR_STAT_OVERVOLT]; omega), flag (F.STR.STR_STAT_WIDE n) (by simp only [stringWord, F.STR.STR_STAT_WIDE]; omega),
    flag (F.STR.STR_STAT_CHARGE n) (by simp only [stringWord, F.STR.STR_STAT_CHARGE]; omega)]

/-- String `i` of bank `b` fires. -/
def State.stringReady (s : State) (b i : Nat) : Prop :=
  s.live (4 * b + i) = true ∧ 9 * s.get (F.STR.STR_STAT_EFF_TARGET (4 * b + i)) ≤ 10 * (s.bank b).v.getD i 0

theorem State.judgeSample_dead (s : State) (b i : Nat) (dead : s.live (4 * b + i) = false) : s.judgeSample b i = (false, s) := by
  unfold State.judgeSample
  dsimp only
  rw [if_pos (by simp [dead])]

theorem State.judgeSample_ready (s : State) (b i : Nat) (ready : s.stringReady b i) : (s.judgeSample b i).1 = true := by
  obtain ⟨live, high⟩ := ready
  unfold State.judgeSample
  dsimp only
  rw [if_neg (by simp [live]), if_neg (by omega)]

/-- The judgement of the strings in `l`, one after the other. -/
def State.judgeEach (b : Nat) (l : List Nat) (acc : Nat × State) : Nat × State :=
  l.foldl (fun (acc : Nat × State) i =>
    let r := acc.2.judgeSample b i
    (acc.1 + bit r.1 * 2 ^ i, r.2)) acc

theorem State.judgeEach_cons (b i : Nat) (l : List Nat) (acc : Nat × State) :
    State.judgeEach b (i :: l) acc = State.judgeEach b l (acc.1 + bit (acc.2.judgeSample b i).1 * 2 ^ i, (acc.2.judgeSample b i).2) := rfl

theorem SlotKept.judgeEach (b : Nat) (l : List Nat) (acc : Nat × State) : SlotKept (fun a => ∃ i ∈ l, stringWord (4 * b + i) a) acc.2 (State.judgeEach b l acc).2 := by
  induction l generalizing acc with
  | nil => exact .refl _
  | cons i l ih =>
    have head : SlotKept (fun a => ∃ j ∈ i :: l, stringWord (4 * b + j) a) acc.2 (acc.2.judgeSample b i).2 :=
      (SlotKept.judgeSample acc.2 b i).mono fun a here => ⟨i, List.mem_cons_self, here⟩
    rw [State.judgeEach_cons]
    refine head.trans ((ih (acc.1 + bit (acc.2.judgeSample b i).1 * 2 ^ i, (acc.2.judgeSample b i).2)).mono fun a here => ?_)
    obtain ⟨j, mem, here⟩ := here
    exact ⟨j, List.mem_cons_of_mem _ mem, here⟩

theorem State.judgeEach_dead (b : Nat) (l : List Nat) (acc : Nat × State) (dead : ∀ i ∈ l, acc.2.live (4 * b + i) = false) : State.judgeEach b l acc = acc := by
  induction l generalizing acc with
  | nil => rfl
  | cons i l ih =>
    rw [State.judgeEach_cons, acc.2.judgeSample_dead b i (dead i List.mem_cons_self), ih]
    · simp [bit]
    · exact fun j mem => dead j (List.mem_cons_of_mem _ mem)

theorem State.judgeEach_grows (b : Nat) (l : List Nat) (n : Nat) (s : State) : n ≤ (State.judgeEach b l (n, s)).1 := by
  induction l generalizing n s with
  | nil => exact Nat.le_refl _
  | cons i l ih =>
    rw [State.judgeEach_cons]
    exact Nat.le_trans (Nat.le_add_right _ _) (ih (n + bit (s.judgeSample b i).1 * 2 ^ i) _)

theorem stringWord_disjoint {n m a : Nat} (first : stringWord n a) (second : stringWord m a) : n = m := by
  simp only [stringWord] at first second
  omega

theorem State.stringReady_congr {s t : State} {own : Nat → Prop} (h : SlotKept own s t) (b i : Nat) (few : 4 * b + i < 32) (other : ∀ a, stringWord (4 * b + i) a → ¬ own a)
    (ready : s.stringReady b i) : t.stringReady b i := by
  have words (a : Nat) (here : stringWord (4 * b + i) a) : t.rd a = s.rd a := by
    refine h.regs a ?_ ?_ (other a here) <;> (simp only [stringWord] at here; omega)
  obtain ⟨live, high⟩ := ready
  refine ⟨by rw [State.live_congr _ words, live], ?_⟩
  rw [State.get, words _ (by simp only [stringWord, F.STR.STR_STAT_EFF_TARGET]; omega), h.samples]
  exact high

theorem State.judgeEach_ready (b : Nat) (l : List Nat) (distinct : l.Nodup) (acc : Nat × State) (i : Nat) (mem : i ∈ l) (few : 4 * b + i < 32) (ready : acc.2.stringReady b i) :
    (State.judgeEach b l acc).1 ≠ 0 := by
  induction l generalizing acc with
  | nil => simp at mem
  | cons j l ih =>
    obtain ⟨fresh, distinct⟩ := List.nodup_cons.1 distinct
    obtain rfl | mem := List.mem_cons.1 mem
    · have counted : 0 < acc.1 + bit (acc.2.judgeSample b i).1 * 2 ^ i := by
        rw [acc.2.judgeSample_ready b i ready]
        exact Nat.lt_of_lt_of_le (Nat.mul_pos Nat.one_pos (Nat.two_pow_pos i)) (Nat.le_add_left _ _)
      rw [State.judgeEach_cons]
      exact Nat.ne_of_gt (Nat.lt_of_lt_of_le counted (State.judgeEach_grows b l _ _))
    · refine ih distinct _ mem (State.stringReady_congr (SlotKept.judgeSample acc.2 b j) b i few (fun a mine yours => fresh ?_) ready)
      have same := stringWord_disjoint mine yours
      rwa [show j = i by omega]

theorem State.judgeBank_eq (s : State) (b : Nat) : s.judgeBank b = State.judgeEach b (List.range 4) (0, s) := rfl

theorem State.liveMask_eq (s : State) (b : Nat) :
    s.liveMask b = bit (s.live (4 * b + 0)) * 2 ^ 0 + bit (s.live (4 * b + 1)) * 2 ^ 1 + bit (s.live (4 * b + 2)) * 2 ^ 2 + bit (s.live (4 * b + 3)) * 2 ^ 3 := by
  simp [State.liveMask, List.range_succ]

theorem State.live_of_liveMask (s : State) (b : Nat) (none : s.liveMask b = 0) (i : Nat) (mem : i ∈ List.range 4) : s.live (4 * b + i) = false := by
  have few := List.mem_range.1 mem
  rw [s.liveMask_eq] at none
  have dead (x : Bool) (h : bit x = 0) : x = false := by
    cases x
    · rfl
    · exact absurd h (by decide)
  obtain rfl | rfl | rfl | rfl : i = 0 ∨ i = 1 ∨ i = 2 ∨ i = 3 := by omega
  all_goals exact dead _ (by omega)

theorem State.judgeBank_dead (s : State) (b : Nat) (none : s.liveMask b = 0) : s.judgeBank b = (0, s) := State.judgeEach_dead b _ _ (s.live_of_liveMask b none)

/-! ### The slot opens (R97) -/

/-- A word of a string of bank `b`. -/
def bankStringWord (b a : Nat) : Prop := ∃ i < 4, stringWord (4 * b + i) a

theorem SlotKept.judgeBank (s : State) (b : Nat) : SlotKept (bankStringWord b) s (s.judgeBank b).2 := by
  rw [State.judgeBank_eq]
  refine (SlotKept.judgeEach b (List.range 4) (0, s)).mono fun a here => ?_
  obtain ⟨i, mem, here⟩ := here
  exact ⟨i, List.mem_range.1 mem, here⟩

/-- The LFSR has stepped, and the strings' settings are latched where a column begins. -/
def State.latched (s : State) (b : Nat) : State :=
  ({ s with shot := { s.shot with lfsr := lfsrSlot s.shot.lfsr } } : State).when ((s.bank b).next == 0) (fun s => s.each (bankStrings b) State.latchDrive)

/-- The record of a bank whose next slot opens. -/
def BankSt.opened (x : BankSt) (code : Nat) (last : Bool) : BankSt :=
  { x with
    curCol := x.col, curShot := x.next, offset := code, curRx := x.rxMask, fireMask := 0, outcome := .none, cost := 0, col := if last then x.col + 1 else x.col,
    next := if last then 0 else x.next + 1, claimed := x.claimed - 1 }

theorem State.live_of_flags {s t : State} (n : Nat) (enabled : t.flag (F.STR.STR_CTRL_EN n) = s.flag (F.STR.STR_CTRL_EN n))
    (overvolt : t.flag (F.STR.STR_STAT_OVERVOLT n) = s.flag (F.STR.STR_STAT_OVERVOLT n)) (wide : t.flag (F.STR.STR_STAT_WIDE n) = s.flag (F.STR.STR_STAT_WIDE n))
    (charge : t.flag (F.STR.STR_STAT_CHARGE n) = s.flag (F.STR.STR_STAT_CHARGE n)) : t.live n = s.live n := by
  rw [State.live, State.live, enabled, overvolt, wide, charge]

/-- A target that is latched leaves every string's flags. -/
theorem State.live_set_target (s : State) (n m x : Nat) : (s.set (F.STR.STR_STAT_EFF_TARGET m) x).live n = s.live n := by
  have flag (f : Fld) (fits : f.lo + f.wd ≤ 16) : (s.set (F.STR.STR_STAT_EFF_TARGET m) x).flag f = s.flag f := by
    rw [State.flag, State.get_set_bits _ _ _ _ rfl (.inr fits)]
    rfl
  exact State.live_of_flags n (flag (F.STR.STR_CTRL_EN n) (Nat.le_of_ble_eq_true rfl)) (flag (F.STR.STR_STAT_OVERVOLT n) (Nat.le_of_ble_eq_true rfl))
    (flag (F.STR.STR_STAT_WIDE n) (Nat.le_of_ble_eq_true rfl)) (flag (F.STR.STR_STAT_CHARGE n) (Nat.le_of_ble_eq_true rfl))

section
variable (s : State) (b : Nat)

theorem State.latchDrive_live (n m : Nat) : (s.latchDrive n).live m = s.live m := by
  unfold State.latchDrive State.when
  dsimp only
  split
  · exact s.live_set_target m n _
  · rfl

theorem State.latched_live (m : Nat) : (s.latched b).live m = s.live m := by
  rw [State.latched, State.when]
  split
  · exact State.each_keeps (fun u => u.live m) _ _ (fun u n => u.latchDrive_live n m) _
  · rfl

theorem SlotKept.latched : SlotKept (bankStringWord b) { s with shot := { s.shot with lfsr := lfsrSlot s.shot.lfsr } } (s.latched b) :=
  when _ (fun u => each (bankStrings b) _ (fun u n mem => (SlotKept.latchDrive u n).mono fun a here => by
    simp only [bankStrings, List.mem_cons, List.not_mem_nil, or_false] at mem
    obtain rfl | rfl | rfl | rfl := mem
    exacts [⟨0, by decide, here⟩, ⟨1, by decide, here⟩, ⟨2, by decide, here⟩, ⟨3, by decide, here⟩]) u) _

theorem State.openSlot_eq : s.openSlot b =
    ((s.latched b).setBank b ((s.bank b).opened ((s.latched b).offsetCode (s.latched b).shot.lfsr) (decide ((s.latched b).group ≤ (s.bank b).next + 1)))).when (b == 0)
      (fun u => u.set F.SHT.SHOT_STATE_SHOT (s.bank b).next) := rfl

/-- What follows the opened record. -/
theorem SlotKept.shotState (u : State) (x : Nat) : SlotKept (fun a => a = 0x2440C) u (u.when (b == 0) (fun u => u.set F.SHT.SHOT_STATE_SHOT x)) :=
  when _ (fun u => .set u F.SHT.SHOT_STATE_SHOT x fun _ _ _ other same => other same) u

theorem State.openSlot_bank : ((s.openSlot b).bank b).fireMask = 0 ∧ ((s.openSlot b).bank b).v = (s.bank b).v := by
  rw [State.openSlot_eq]
  have kept := SlotKept.shotState b ((s.latched b).setBank b ((s.bank b).opened ((s.latched b).offsetCode (s.latched b).shot.lfsr) (decide ((s.latched b).group ≤ (s.bank b).next + 1))))
    (s.bank b).next
  rw [kept.fireMask, kept.samples, State.bank_setBank, if_pos rfl]
  exact ⟨rfl, rfl⟩

theorem State.openSlot_shot : (s.openSlot b).shot.lfsr = lfsrSlot s.shot.lfsr ∧ (s.openSlot b).shot.cells = s.shot.cells ∧ (s.openSlot b).shot.longs = s.shot.longs := by
  rw [State.openSlot_eq]
  have kept := SlotKept.shotState b ((s.latched b).setBank b ((s.bank b).opened ((s.latched b).offsetCode (s.latched b).shot.lfsr) (decide ((s.latched b).group ≤ (s.bank b).next + 1))))
    (s.bank b).next
  have latched := SlotKept.latched s b
  exact ⟨kept.lfsr.trans latched.lfsr, kept.cells.trans latched.cells, kept.longs.trans latched.longs⟩

theorem State.openSlot_rd (a : Nat) (low : 0x20000 ≤ a) (high : a < 0x24600) (other : a ≠ 0x2440C) (strings : (s.bank b).next ≠ 0 ∨ ¬ bankStringWord b a) :
    (s.openSlot b).rd a = s.rd a := by
  rw [State.openSlot_eq, (SlotKept.shotState b _ _).regs a low high other]
  change (s.latched b).rd a = s.rd a
  obtain column | outside := strings
  · rw [State.latched, beq_false_of_ne column]
    rfl
  · exact (SlotKept.latched s b).regs a low high outside

end

theorem State.openSlot_live (s : State) (b m : Nat) (few : m < 32) : (s.openSlot b).live m = s.live m := by
  have state (u : State) (x : Nat) : (u.set F.SHT.SHOT_STATE_SHOT x).live m = u.live m := by
    have flag (f : Fld) (other : f.addr ≠ F.SHT.SHOT_STATE_SHOT.addr) : (u.set F.SHT.SHOT_STATE_SHOT x).flag f = u.flag f := by
      rw [State.flag, State.get_set_addr _ _ _ _ other]
      rfl
    exact State.live_of_flags m (flag (F.STR.STR_CTRL_EN m) (by simp only [F.STR.STR_CTRL_EN, F.SHT.SHOT_STATE_SHOT]; omega))
      (flag (F.STR.STR_STAT_OVERVOLT m) (by simp only [F.STR.STR_STAT_OVERVOLT, F.SHT.SHOT_STATE_SHOT]; omega))
      (flag (F.STR.STR_STAT_WIDE m) (by simp only [F.STR.STR_STAT_WIDE, F.SHT.SHOT_STATE_SHOT]; omega))
      (flag (F.STR.STR_STAT_CHARGE m) (by simp only [F.STR.STR_STAT_CHARGE, F.SHT.SHOT_STATE_SHOT]; omega))
  rw [State.openSlot_eq, State.when]
  split
  · rw [state]
    exact s.latched_live b m
  · exact s.latched_live b m

theorem State.openSlot_liveMask (s : State) (b : Nat) (few : b < 8) : (s.openSlot b).liveMask b = s.liveMask b := by
  rw [State.liveMask_eq, State.liveMask_eq, s.openSlot_live b _ (by omega), s.openSlot_live b _ (by omega), s.openSlot_live b _ (by omega), s.openSlot_live b _ (by omega)]

/-- BANK_LIM of bank `b`. -/
def limiterWord (b a : Nat) : Prop := 0x24040 + 0x80 * b ≤ a ∧ a < 0x24060 + 0x80 * b

theorem SlotKept.publish {own : Nat → Prop} (s : State) (f : Fld) (mine : ∀ a, 0x20000 ≤ a → a < 0x24600 → ¬ own a → a ≠ f.addr) : SlotKept own s (s.publish f) :=
  (set s ⟨f.addr, 31, 1⟩ _ mine).trans (set _ ⟨f.addr, 0, 16⟩ _ mine)

theorem SlotKept.noteLimiter (s : State) (b : Nat) : SlotKept (limiterWord b) s (s.noteLimiter b) := by
  have mine (f : Fld) (here : limiterWord b f.addr) (a : Nat) (_ : 0x20000 ≤ a) (_ : a < 0x24600) (other : ¬ limiterWord b a) : a ≠ f.addr := fun same => other (same ▸ here)
  have noted : SlotKept (limiterWord b) s (if (s.bank b).angleOk then s.setBank b { s.bank b with limCell := (s.bank b).cell, limCellSum := s.cellSum (s.limGroup b) (s.bank b).cell } else s) := by
    split
    · exact .setBank s b _ rfl
    · exact .refl s
  unfold State.noteLimiter
  dsimp only
  refine noted.trans ?_
  generalize (if (s.bank b).angleOk then s.setBank b { s.bank b with limCell := (s.bank b).cell, limCellSum := s.cellSum (s.limGroup b) (s.bank b).cell } else s) = u
  split
  · have words : limiterWord b (F.BNK.NO_ANGLE b).addr ∧ limiterWord b (F.BNK.CELL b).addr ∧ limiterWord b (F.BNK.CELL_SUM_LO b).addr ∧ limiterWord b (F.BNK.CELL_SUM_HI b).addr ∧
        limiterWord b (F.BNK.LONG_SUM_LO b).addr ∧ limiterWord b (F.BNK.LONG_SUM_HI b).addr ∧ limiterWord b (F.BNK.BANK_LIM_ST b).addr := by
      simp only [limiterWord, F.BNK.NO_ANGLE, F.BNK.CELL, F.BNK.CELL_SUM_LO, F.BNK.CELL_SUM_HI, F.BNK.LONG_SUM_LO, F.BNK.LONG_SUM_HI, F.BNK.BANK_LIM_ST]
      omega
    obtain ⟨angle, cell, cellLo, cellHi, longLo, longHi, status⟩ := words
    exact ((((((SlotKept.set u _ _ (mine _ angle)).trans (.set _ _ _ (mine _ cell))).trans (.set _ _ _ (mine _ cellLo))).trans (.set _ _ _ (mine _ cellHi))).trans
      (.set _ _ _ (mine _ longLo))).trans (.set _ _ _ (mine _ longHi))).trans (.publish _ _ (mine _ status))
  · exact .refl u

/-- The pick-off's registers are no words of the emitter. -/
theorem SlotKept.pickIdleSlot {own : Nat → Prop} (s : State) (b : Nat) : SlotKept own s (s.pickIdleSlot b) := by
  have far (f : Fld) (here : 0x41000 ≤ f.addr) (u : State) (x : Nat) : SlotKept own u (u.set f x) := .set u f x fun a _ _ _ => by omega
  have farI (f : Fld) (here : 0x41000 ≤ f.addr) (u : State) (x : Int) : SlotKept own u (u.setI f x) := far f here u _
  unfold State.pickIdleSlot
  split
  · unfold State.pickPublish
    refine SlotKept.trans ?_ (.setRxBank _ _ _)
    refine SlotKept.trans ?_ (.publish _ _ fun a _ _ _ => by simp only [F.CH.CH_RES_ST]; omega)
    refine SlotKept.trans ?_ (far (F.CH.NOSTART b) (Nat.le_add_right_of_le (by decide)) _ _)
    refine SlotKept.trans ?_ (far (F.CH.STARTS b) (Nat.le_add_right_of_le (by decide)) _ _)
    refine SlotKept.trans ?_ (farI (F.CH.D_SUM b) (Nat.le_add_right_of_le (by decide)) _ _)
    refine SlotKept.trans ?_ (far (F.CH.FLAGS_LAST b) (Nat.le_add_right_of_le (by decide)) _ _)
    refine SlotKept.trans ?_ (farI (F.CH.D_LAST b) (Nat.le_add_right_of_le (by decide)) _ _)
    exact (farI (F.CH.D_MAX b) (Nat.le_add_right_of_le (by decide)) _ _).trans (farI (F.CH.D_MIN b) (Nat.le_add_right_of_le (by decide)) _ _)
  · exact .refl s

/-! ### Consent -/

section
variable (s : State) (b : Nat) (lf : Bool)

/-- What is left of a consent is noted. -/
def State.slotNoted (s : State) (b : Nat) : State := (s.noteLimiter b).pickIdleSlot b

theorem SlotKept.slotNoted : SlotKept (limiterWord b) s (s.slotNoted b) := (SlotKept.noteLimiter s b).trans (.pickIdleSlot _ b)

theorem State.openSlot_inhibit (few : b < 8) : (s.openSlot b).get F.SHT.EMIT_INHIBIT_SRC = s.get F.SHT.EMIT_INHIBIT_SRC := by
  rw [State.get, s.openSlot_rd b _ (by decide) (by decide) (by decide) (.inr ?_)]
  · rfl
  · rintro ⟨i, bound, word⟩
    simp only [stringWord, F.SHT.EMIT_INHIBIT_SRC] at word
    omega

variable (runs : s.slotsRun = true)
include runs

/-- The slot's outcome, before it is noted. -/
theorem State.shotConsent_eq : (s.shotConsent b lf).pickIdleSlot b = State.slotNoted
    (if (s.openSlot b).get F.SHT.EMIT_INHIBIT_SRC ≠ 0 then ((s.openSlot b).setBank b { (s.openSlot b).bank b with outcome := .inhibited }).inc (F.BNK.INHIBITED b)
      else if bitsOf (s.bank b).trig.toNat 0 1 == 1 && !((s.bank b).claimed == 1) then (s.openSlot b).setBank b { (s.openSlot b).bank b with outcome := .untriggered }
      else if ((s.openSlot b).judgeBank b).1 = 0 ∨ ((s.openSlot b).judgeBank b).2.flag (F.BNK.BANK_STAT_PICKOFF_LOST b) then
        ((s.openSlot b).judgeBank b).2.setBank b { ((s.openSlot b).judgeBank b).2.bank b with outcome := .empty }
      else ((s.openSlot b).judgeBank b).2.limitSlot b ((s.openSlot b).judgeBank b).1 lf) b := by
  rw [State.shotConsent, if_pos runs]
  rfl

theorem State.shotConsent_inhibited (few : b < 8) (inhibit : s.get F.SHT.EMIT_INHIBIT_SRC ≠ 0) : (s.shotConsent b lf).pickIdleSlot b =
    (((s.openSlot b).setBank b { (s.openSlot b).bank b with outcome := .inhibited }).inc (F.BNK.INHIBITED b)).slotNoted b := by
  rw [s.shotConsent_eq b lf runs, if_pos (by rwa [s.openSlot_inhibit b few])]

section
variable (few : b < 8) (free : s.get F.SHT.EMIT_INHIBIT_SRC = 0)
include few free

theorem State.shotConsent_untriggered (trig : (s.bank b).trig.getLsbD 0 = true) (unclaimed : (s.bank b).claimed ≠ 1) : (s.shotConsent b lf).pickIdleSlot b =
    ((s.openSlot b).setBank b { (s.openSlot b).bank b with outcome := .untriggered }).slotNoted b := by
  rw [s.shotConsent_eq b lf runs, if_neg (by rw [s.openSlot_inhibit b few, free]; decide), if_pos]
  rw [bitsOf_one_eq, beq_false_of_ne unclaimed]
  simpa [BitVec.getLsbD] using trig

theorem State.shotConsent_judged (trig : (s.bank b).trig.getLsbD 0 = false) : (s.shotConsent b lf).pickIdleSlot b =
    State.slotNoted (if ((s.openSlot b).judgeBank b).1 = 0 ∨ ((s.openSlot b).judgeBank b).2.flag (F.BNK.BANK_STAT_PICKOFF_LOST b) then
        ((s.openSlot b).judgeBank b).2.setBank b { ((s.openSlot b).judgeBank b).2.bank b with outcome := .empty }
      else ((s.openSlot b).judgeBank b).2.limitSlot b ((s.openSlot b).judgeBank b).1 lf) b := by
  rw [s.shotConsent_eq b lf runs, if_neg (by rw [s.openSlot_inhibit b few, free]; decide), if_neg]
  rw [bitsOf_one_eq, show (s.bank b).trig.toNat.testBit 0 = false from trig, Bool.false_and]
  exact Bool.false_ne_true

end

end

/-- A bank whose record and sums are set is noted: the outcome and the sums stay. -/
theorem State.slotNoted_setBank (u : State) (b : Nat) (x : BankSt) : (((u.setBank b x).slotNoted b).bank b).outcome = x.outcome ∧
    (((u.setBank b x).slotNoted b).bank b).fireMask = x.fireMask ∧ ((u.setBank b x).slotNoted b).shot.lfsr = u.shot.lfsr ∧ ((u.setBank b x).slotNoted b).shot.cells = u.shot.cells := by
  have kept := SlotKept.slotNoted (u.setBank b x) b
  rw [kept.outcome, kept.fireMask, kept.lfsr, kept.cells, State.bank_setBank, if_pos rfl]
  exact ⟨rfl, rfl, rfl, rfl⟩

theorem State.limitSlot_lfsr (s : State) (b mask : Nat) (lf : Bool) : (s.limitSlot b mask lf).shot.lfsr = s.shot.lfsr := by
  have raised (u : State) (n i d : Nat) : (u.raise n i d).shot.lfsr = u.shot.lfsr := congrArg ShotSt.lfsr (Answering.raise u n i d).shot_eq
  have denied : (s.denySlot b).shot.lfsr = s.shot.lfsr := by
    unfold State.denySlot State.when
    dsimp only
    split
    · exact raised _ _ _ _
    · rfl
  unfold State.limitSlot
  dsimp only
  split
  · rw [State.laneMismatch, raised, State.set_shot, (Answering.inhibitOn _ _).shot_eq, denied]
  · split
    · exact denied
    · rfl

/-! ### Trigger edges (R102, R103) -/

/-- Where the steps of a list leave what one of its members looks at to that member alone, the whole is that member's step. -/
theorem State.each_own {α β : Type} (g : State → β) (l : List α) (distinct : l.Nodup) (f : State → α → State) (a : α) (mem : a ∈ l) (other : ∀ u b, b ≠ a → g (f u b) = g u)
    (s : State) : ∃ u, g u = g s ∧ g (s.each l f) = g (f u a) := by
  induction l generalizing s with
  | nil => cases mem
  | cons b l ih =>
    obtain ⟨fresh, distinct⟩ := List.nodup_cons.1 distinct
    obtain rfl | later := List.mem_cons.1 mem
    · have rest (m : List α) (absent : a ∉ m) (u : State) : g (u.each m f) = g u := by
        induction m generalizing u with
        | nil => rfl
        | cons c m ih => exact (ih (fun h => absent (List.mem_cons_of_mem _ h)) _).trans (other u c fun h => absent (h ▸ List.mem_cons_self))
      exact ⟨s, rfl, rest l fresh _⟩
    · obtain ⟨u, same, result⟩ := ih distinct later (f s b)
      exact ⟨u, same.trans (other s b fun h => fresh (h ▸ later)), result⟩

/-- An edge at one bank. -/
def State.bankEdge (i : Nat) (falling : Bool) (late tight : Nat) (s : State) (b : Nat) : State :=
  if bitsOf (s.bank b).trig.toNat 0 1 = 1 ∧ bitsOf (s.bank b).trig.toNat 4 2 = i ∧ bitsOf (s.bank b).trig.toNat 1 1 = bit falling then
    if (s.bank b).claimed ≠ 0 then s.inc (F.BNK.TRIG_MERGED b)
    else (s.setBank b { s.bank b with claimed := if tight / 2 ^ b % 2 = 1 then 2 else 1 }).when (late / 2 ^ b % 2 == 1) (fun s => s.inc (F.BNK.TRIG_DEFER b))
  else s

/-- What an edge can change of bank `b`. -/
def State.edgeView (b : Nat) (s : State) : BankSt × Nat := (s.bank b, s.get (F.BNK.TRIG_MERGED b))

section
variable (i : Nat) (falling : Bool) (late tight : Nat) (s : State)

theorem State.edgeView_inc (b : Nat) (f : Fld) (other : f.addr ≠ (F.BNK.TRIG_MERGED b).addr) : (s.inc f).edgeView b = s.edgeView b := by
  rw [State.edgeView, State.inc, State.add, State.get_set_addr _ _ _ _ other.symm]
  rfl

theorem State.bankEdge_other (b c : Nat) (other : c ≠ b) : (State.bankEdge i falling late tight s c).edgeView b = s.edgeView b := by
  unfold State.bankEdge
  split
  · split
    · exact s.edgeView_inc b _ (by simp only [F.BNK.TRIG_MERGED]; omega)
    · rw [State.when]
      have claimed : (s.setBank c { s.bank c with claimed := if tight / 2 ^ c % 2 = 1 then 2 else 1 }).edgeView b = s.edgeView b := by
        rw [State.edgeView, State.bank_setBank, if_neg other.symm]
        rfl
      split
      · rw [State.edgeView_inc _ b _ (by simp only [F.BNK.TRIG_MERGED, F.BNK.TRIG_DEFER]; omega), claimed]
      · exact claimed
  · rfl

theorem State.triggerEdge_eq (runs : s.slotsRun = true) (scanning : s.pw.st = .scanning) :
    s.triggerEdge i falling late tight = s.each (List.range 8) (State.bankEdge i falling late tight) := by
  rw [State.triggerEdge, runs, scanning]
  rfl

theorem State.triggerEdge_view (runs : s.slotsRun = true) (scanning : s.pw.st = .scanning) (b : Fin 8) :
    ∃ u : State, u.edgeView b = s.edgeView b ∧ (s.triggerEdge i falling late tight).edgeView b = (State.bankEdge i falling late tight u b).edgeView b := by
  rw [s.triggerEdge_eq i falling late tight runs scanning]
  exact State.each_own (State.edgeView b) _ List.nodup_range _ b.val (List.mem_range.2 b.isLt) (fun u c other => State.bankEdge_other i falling late tight u b c other) s

end

theorem State.bankEdge_claims (i : Nat) (falling : Bool) (late tight : Nat) (u : State) (b : Nat)
    (armed : bitsOf (u.bank b).trig.toNat 0 1 = 1 ∧ bitsOf (u.bank b).trig.toNat 4 2 = i ∧ bitsOf (u.bank b).trig.toNat 1 1 = bit falling) :
    ((u.bank b).claimed = 0 → ((State.bankEdge i falling late tight u b).bank b).claimed = if tight / 2 ^ b % 2 = 1 then 2 else 1) ∧
      ((u.bank b).claimed ≠ 0 → State.bankEdge i falling late tight u b = u.inc (F.BNK.TRIG_MERGED b)) := by
  rw [State.bankEdge, if_pos armed]
  refine ⟨fun free => ?_, fun taken => if_pos taken⟩
  have claimed : (u.setBank b { u.bank b with claimed := if tight / 2 ^ b % 2 = 1 then 2 else 1 }).bank b = { u.bank b with claimed := if tight / 2 ^ b % 2 = 1 then 2 else 1 } := by
    rw [State.bank_setBank, if_pos rfl]
  rw [if_neg (by simp [free]), State.when]
  split
  · exact congrArg BankSt.claimed claimed
  · exact congrArg BankSt.claimed claimed

theorem getLsbD_eq_div {n : Nat} (x : BitVec n) (k : Nat) : x.getLsbD k = decide (x.toNat / 2 ^ k % 2 = 1) := Nat.testBit_eq_decide_div_mod_eq

theorem bitsOf_of_getLsbD (x : Word) (k : Nat) : bitsOf x.toNat k 1 = bit (x.getLsbD k) := by
  rw [getLsbD_eq_div, bitsOf, bit]
  have two := Nat.mod_lt (x.toNat / 2 ^ k) Nat.two_pos
  obtain h | h : x.toNat / 2 ^ k % 2 = 0 ∨ x.toNat / 2 ^ k % 2 = 1 := by omega
  all_goals simp [h]

theorem State.get_inc (s : State) (f : Fld) (fits : f.fits = true) : (s.inc f).get f = min (s.get f + 1) (2 ^ f.wd - 1) := by
  rw [State.inc, State.add, State.get_set_same _ _ _ fits]
  exact Nat.mod_eq_of_lt (Nat.lt_of_le_of_lt (Nat.min_le_right _ _) (Nat.sub_lt (Nat.two_pow_pos _) Nat.one_pos))

/-! ### The samples and the angle (R92, R134) -/

theorem State.vstrSample_eq (s : State) (b : Nat) (v : List Nat) (runs : s.slotsRun = true) : s.vstrSample b v =
    (s.setBank b { s.bank b with v := v.take 4 }).each (List.range 4) (fun s i => s.setStr (4 * b + i)
      { s.str (4 * b + i) with vRun := if (s.str (4 * b + i)).vRun = 0 then v.getD i 0 else min (s.str (4 * b + i)).vRun (v.getD i 0) }) := if_pos runs

theorem State.eachStr_eq (l : List Nat) (n : Nat → Nat) (x : State → Nat → StringSt) (s : State) :
    s.each l (fun s i => s.setStr (n i) (x s i)) = { s with shot := { s.shot with strings := (s.each l (fun s i => s.setStr (n i) (x s i))).shot.strings } } := by
  induction l generalizing s with
  | nil => rfl
  | cons i l ih => exact ih (s.setStr (n i) (x s i))

/-- Settles O29: each moment of a slot, by the branch that the state takes. -/
theorem slotDecision : Obligations.SlotDecision := by
  unfold Obligations.SlotDecision
  refine ⟨fun b v four => ?sample, fun b v => ?noSample, fun b => ?angle, fun b => ?noAngle, fun b lf => ⟨?inhibited, ?untriggered, ?empty, ?limiter⟩, fun b lf => ?still, fun i falling late tight => ?edge⟩
  case sample =>
    refine .of_effect (fun _ => rfl) fun s runs => ?_
    rw [s.vstrSample_eq b v runs, State.eachStr_eq]
    refine ⟨rfl, ?_⟩
    have record : ((s.setBank b { s.bank b with v := v.take 4 }).bank b).v = v := by
      rw [State.bank_setBank, if_pos rfl]
      exact List.take_of_length_le (Nat.le_of_eq four)
    exact record
  case noSample => exact .of_effect (fun _ => rfl) fun s still => if_neg (by simp [still])
  case angle =>
    refine .of_effect (fun _ => rfl) fun s ⟨runs, valid⟩ => ?_
    rw [State.angleLatch, if_pos runs, valid, State.bank_setBank, if_pos rfl]
    exact ⟨rfl, rfl, rfl, rfl⟩
  case noAngle =>
    refine .of_effect (fun _ => rfl) fun s ⟨runs, invalid⟩ => ?_
    rw [State.angleLatch, if_pos runs, invalid, State.bank_setBank, if_pos rfl]
    exact ⟨rfl, rfl, rfl, rfl⟩
  case inhibited =>
    refine .of_effect (fun _ => rfl) fun s ⟨runs, inhibit⟩ => ?_
    obtain ⟨mask, -⟩ := s.openSlot_bank b
    obtain ⟨lfsr, cells, longs⟩ := s.openSlot_shot b
    have kept := SlotKept.slotNoted (((s.openSlot b).setBank b { (s.openSlot b).bank b with outcome := .inhibited }).inc (F.BNK.INHIBITED b)) b
    have counter : 0x20000 ≤ (F.BNK.INHIBITED b).addr ∧ (F.BNK.INHIBITED b).addr < 0x24600 ∧ ¬ limiterWord b (F.BNK.INHIBITED b).addr ∧ ¬ bankStringWord b (F.BNK.INHIBITED b).addr ∧
        (F.BNK.INHIBITED b).addr ≠ 0x2440C := by
      simp only [F.BNK.INHIBITED, limiterWord]
      refine ⟨by omega, by omega, by omega, fun strings => ?_, by omega⟩
      obtain ⟨i, few, word⟩ := strings
      simp only [stringWord] at word
      omega
    obtain ⟨low, high, limiter, strings, place⟩ := counter
    have record : ((((s.openSlot b).setBank b { (s.openSlot b).bank b with outcome := .inhibited }).inc (F.BNK.INHIBITED b)).bank b) =
      { (s.openSlot b).bank b with outcome := .inhibited } := (State.bank_setBank _ _ _ _).trans (if_pos rfl)
    have before : ((s.openSlot b).setBank b { (s.openSlot b).bank b with outcome := .inhibited }).get (F.BNK.INHIBITED b) = s.get (F.BNK.INHIBITED b) :=
      congrArg (fun w : Word => bitsOf w.toNat 0 32) (s.openSlot_rd b _ low high place (.inr strings))
    rw [s.shotConsent_inhibited b lf runs b.isLt inhibit, kept.outcome, kept.fireMask, kept.lfsr, kept.cells, kept.longs, kept.get _ low high limiter, record,
      State.get_inc _ _ rfl, before]
    exact ⟨rfl, mask, lfsr, cells, longs, rfl⟩
  case untriggered =>
    refine .of_effect (fun _ => rfl) fun s ⟨runs, free, trig, unclaimed⟩ => ?_
    obtain ⟨mask, -⟩ := s.openSlot_bank b
    obtain ⟨lfsr, cells, -⟩ := s.openSlot_shot b
    obtain ⟨outcome, fire, lfsr', cells'⟩ := (s.openSlot b).slotNoted_setBank b { (s.openSlot b).bank b with outcome := .untriggered }
    rw [s.shotConsent_untriggered b lf runs b.isLt free trig unclaimed]
    exact ⟨outcome, fire.trans mask, lfsr'.trans lfsr, cells'.trans cells⟩
  case empty =>
    refine .of_effect (fun _ => rfl) fun s ⟨runs, free, trig, dead⟩ => ?_
    obtain ⟨mask, -⟩ := s.openSlot_bank b
    obtain ⟨lfsr, cells, -⟩ := s.openSlot_shot b
    obtain ⟨outcome, fire, lfsr', cells'⟩ := (s.openSlot b).slotNoted_setBank b { (s.openSlot b).bank b with outcome := .empty }
    rw [s.shotConsent_judged b lf runs b.isLt free trig, (s.openSlot b).judgeBank_dead b ((s.openSlot_liveMask b b.isLt).trans dead), if_pos (.inl rfl)]
    exact ⟨outcome, fire.trans mask, lfsr'.trans lfsr, cells'.trans cells⟩
  case limiter =>
    refine .of_effect (fun _ => rfl) fun s ⟨runs, free, trig, column, pick, i, live, high⟩ => ?_
    obtain ⟨lfsr, cells, longs⟩ := s.openSlot_shot b
    have words (a : Nat) (low : 0x20000 ≤ a) (high : a < 0x24600) (other : a ≠ 0x2440C) : (s.openSlot b).rd a = s.rd a := s.openSlot_rd b a low high other (.inl column)
    have ready : (s.openSlot b).stringReady b i := by
      refine ⟨by rw [s.openSlot_live b _ (by omega), live], ?_⟩
      rw [State.get, words _ (by simp only [F.STR.STR_STAT_EFF_TARGET]; omega) (by simp only [F.STR.STR_STAT_EFF_TARGET]; omega) (by simp only [F.STR.STR_STAT_EFF_TARGET]; omega),
        (s.openSlot_bank b).2]
      exact high
    have fires : ((s.openSlot b).judgeBank b).1 ≠ 0 :=
      State.judgeEach_ready b (List.range 4) List.nodup_range (0, s.openSlot b) i (List.mem_range.2 i.isLt) (by omega) ready
    have judged := SlotKept.judgeBank (s.openSlot b) b
    have lost : ((s.openSlot b).judgeBank b).2.flag (F.BNK.BANK_STAT_PICKOFF_LOST b) = false := by
      have place : 0x20000 ≤ (F.BNK.BANK_STAT_PICKOFF_LOST b).addr ∧ (F.BNK.BANK_STAT_PICKOFF_LOST b).addr < 0x24600 ∧ (F.BNK.BANK_STAT_PICKOFF_LOST b).addr ≠ 0x2440C ∧
          ¬ bankStringWord b (F.BNK.BANK_STAT_PICKOFF_LOST b).addr := by
        simp only [F.BNK.BANK_STAT_PICKOFF_LOST]
        refine ⟨by omega, by omega, by omega, fun strings => ?_⟩
        obtain ⟨j, few, word⟩ := strings
        simp only [stringWord] at word
        omega
      obtain ⟨low, high, other, outside⟩ := place
      rw [judged.flag _ low high outside, State.flag, State.get, words _ low high other]
      exact pick
    have limited := SlotKept.slotNoted (((s.openSlot b).judgeBank b).2.limitSlot b ((s.openSlot b).judgeBank b).1 lf) b
    rw [s.shotConsent_judged b lf runs b.isLt free trig, if_neg (by simp [fires, lost])]
    refine ⟨?_, _, _, fires, judged.cells.trans cells, judged.longs.trans longs, rfl⟩
    rw [limited.lfsr, State.limitSlot_lfsr, judged.lfsr, lfsr]
  case still => exact .of_effect (fun _ => rfl) fun s still => congrArg (State.pickIdleSlot · b) (if_neg (by simp [still]))
  case edge =>
    refine .of_effect (fun _ => rfl) fun s ⟨runs, scanning⟩ b on input polarity => ?_
    obtain ⟨u, same, result⟩ := s.triggerEdge_view i falling late.toNat tight.toNat runs scanning b
    obtain ⟨record, counter⟩ := Prod.mk.inj same
    obtain ⟨resultBank, resultCounter⟩ := Prod.mk.inj result
    obtain ⟨claims, merges⟩ := State.bankEdge_claims i falling late.toNat tight.toNat u b (by
      rw [record, bitsOf_of_getLsbD, bitsOf_of_getLsbD, on, polarity]
      exact ⟨rfl, input, rfl⟩)
    rw [record] at claims merges
    refine ⟨fun free => ?_, fun taken => ?_⟩
    · rw [resultBank, claims free, getLsbD_eq_div]
      simp
    · rw [resultBank, resultCounter, merges taken, State.get_inc _ _ rfl, counter]
      exact ⟨congrArg BankSt.claimed record, rfl⟩

end Sys2Proof.Machine
end

section
/-! PROOFS. Charging, the overvoltage comparator and the pulse monitor (R91, R93, R110). -/
namespace Sys2Proof.Machine

/-! ### Charging -/

theorem State.str_setStr (s : State) (n m : Nat) (x : StringSt) : (s.setStr n x).str m = if m = n then x else s.str m := spGet_spSet _ _ _ _ _

section
variable (s : State) (b : Nat) (v : List Nat)

/-- Whether the window charges string `i` of bank `b`. -/
def State.charges (s : State) (b : Nat) (v : List Nat) (i : Nat) : Bool :=
  s.live (4 * b + i) && !s.flag (F.BNK.BANK_STAT_PICKOFF_LOST b) && decide (v.getD i 0 + 20 < s.get (F.STR.STR_STAT_EFF_TARGET (4 * b + i)))

theorem State.charges_of_regs {t : State} (same : t.regs = s.regs) (i : Nat) : t.charges b v i = s.charges b v i := by
  have words (a : Nat) : t.rd a = s.rd a := State.rd_congr same a
  have get (f : Fld) : t.get f = s.get f := by rw [State.get, State.get, words]
  have flag (f : Fld) : t.flag f = s.flag f := by rw [State.flag, State.flag, get]
  rw [State.charges, State.charges, State.live_congr _ fun a _ => words a, flag, get]

theorem State.openWindow_eq (runs : s.slotsRun = true) : s.openWindow b v = (s.setBank b { s.bank b with window := true }).each (List.range 4)
    (fun u i => u.setStr (4 * b + i) { u.str (4 * b + i) with charging := u.charges b v i }) := if_pos runs

theorem State.openWindow_charged (runs : s.slotsRun = true) : s.openWindow b v =
    { s.setBank b { s.bank b with window := true } with shot := { (s.setBank b { s.bank b with window := true }).shot with strings := (s.openWindow b v).shot.strings } } := by
  rw [s.openWindow_eq b v runs]
  exact State.eachStr_eq (List.range 4) (fun i => 4 * b + i) (fun u i => { u.str (4 * b + i) with charging := u.charges b v i }) _

theorem State.openWindow_shot (runs : s.slotsRun = true) : s.openWindow b v = { s with shot := (s.openWindow b v).shot } := by
  rw [s.openWindow_charged b v runs]
  rfl

theorem State.openWindow_window (runs : s.slotsRun = true) : ((s.openWindow b v).bank b).window = true := by
  rw [s.openWindow_charged b v runs]
  exact congrArg BankSt.window ((s.bank_setBank b b _).trans (if_pos rfl))

theorem State.openWindow_charging (runs : s.slotsRun = true) (i : Fin 4) : ((s.openWindow b v).str (4 * b + i)).charging = s.charges b v i := by
  rw [s.openWindow_eq b v runs]
  obtain ⟨u, same, result⟩ := State.each_own (fun u : State => ((u.str (4 * b + i)).charging, u.regs)) (List.range 4) List.nodup_range
    (fun u i => u.setStr (4 * b + i) { u.str (4 * b + i) with charging := u.charges b v i }) i.val (List.mem_range.2 i.isLt)
    (fun u j other => Prod.ext (congrArg StringSt.charging ((u.str_setStr _ _ _).trans (if_neg (by omega)))) rfl) (s.setBank b { s.bank b with window := true })
  have regs : u.regs = s.regs := congrArg Prod.snd same
  refine (congrArg Prod.fst result).trans ?_
  exact (congrArg StringSt.charging ((u.str_setStr _ _ _).trans (if_pos rfl))).trans (s.charges_of_regs b v regs i.val)

theorem State.closeWindow_eq (on : s.domOn 68 = true) : s.closeWindow b =
    (s.setBank b { s.bank b with window := false }).each (bankStrings b) (fun s n => s.setStr n { s.str n with charging := false }) := if_pos on

theorem State.closeWindow_stopped (on : s.domOn 68 = true) : s.closeWindow b =
    { s.setBank b { s.bank b with window := false } with shot := { (s.setBank b { s.bank b with window := false }).shot with strings := (s.closeWindow b).shot.strings } } := by
  rw [s.closeWindow_eq b on]
  exact State.eachStr_eq (bankStrings b) (fun n => n) (fun s n => { s.str n with charging := false }) _

theorem State.closeWindow_shot (on : s.domOn 68 = true) : s.closeWindow b = { s with shot := (s.closeWindow b).shot } := by
  rw [s.closeWindow_stopped b on]
  rfl

theorem State.closeWindow_window (on : s.domOn 68 = true) : ((s.closeWindow b).bank b).window = false := by
  rw [s.closeWindow_stopped b on]
  exact congrArg BankSt.window ((s.bank_setBank b b _).trans (if_pos rfl))

theorem State.closeWindow_charging (on : s.domOn 68 = true) (i : Fin 4) : ((s.closeWindow b).str (4 * b + i)).charging = false := by
  rw [s.closeWindow_eq b on]
  refine State.each_makes (fun u => (u.str (4 * b + i)).charging = false) (bankStrings b) _ (4 * b + i) ?_ (fun u => ?_) (fun u m stopped => ?_) _
  · have place : ∀ i : Fin 4, i.val = 0 ∨ i.val = 1 ∨ i.val = 2 ∨ i.val = 3 := by decide
    simp only [bankStrings, List.mem_cons, List.not_mem_nil, or_false]
    have := place i
    omega
  · rw [State.str_setStr, if_pos rfl]
  · rw [State.str_setStr]
    split
    · rfl
    · exact stopped

end

theorem State.flag_set_one (s : State) (f : Fld) (fits : f.fits = true) (one : f.wd = 1) : (s.set f 1).flag f = true := by
  rw [State.flag, State.get_set_same s f 1 fits, one]
  rfl

/-! ### The pulse monitor (R110) -/

section
variable (s : State) (n : Nat)

theorem State.get_raise_string (u : State) (ev i d : Nat) (known : ev < 256) (f : Fld) (low : 0x20000 ≤ f.addr) (high : f.addr < 0x7000000) : (u.raise ev i d).get f = u.get f := by
  rw [State.get, u.rd_raise_device ev i d _ known low high]
  rfl

theorem State.str_raise (u : State) (ev i d m : Nat) : (u.raise ev i d).str m = u.str m := by rw [State.str, (Answering.raise _ _ _ _).shot_eq, State.str]

theorem State.badPulse_str : ((s.badPulse n).str n).blkBad = (s.str n).blkBad + 1 := by
  have counted : (s.setStr n { s.str n with blkBad := (s.str n).blkBad + 1 }).str n = { s.str n with blkBad := (s.str n).blkBad + 1 } := by rw [State.str_setStr, if_pos rfl]
  unfold State.badPulse State.when
  dsimp only
  split
  · rw [State.str_raise]
    exact congrArg StringSt.blkBad counted
  · exact congrArg StringSt.blkBad counted

theorem State.badPulse_get (f : Fld) (low : 0x20000 ≤ f.addr) (high : f.addr < 0x7000000) (other : f.addr ≠ (F.STR.STR_STAT_DEGRADED n).addr) :
    (s.badPulse n).get f = s.get f := by
  unfold State.badPulse State.when
  dsimp only
  split
  · rw [State.get_raise_string _ _ _ _ (by decide) f low high, State.get_set_addr _ _ _ _ other]
    rfl
  · rfl

/-- A bad pulse counted in `f`. -/
theorem State.countedPulse (u : State) (f : Fld) (fits : f.fits = true) (low : 0x20000 ≤ f.addr) (high : f.addr < 0x7000000)
    (other : f.addr ≠ (F.STR.STR_STAT_DEGRADED n).addr) :
    ((u.inc f).badPulse n).get f = min (u.get f + 1) (2 ^ f.wd - 1) ∧ (((u.inc f).badPulse n).str n).blkBad = (u.str n).blkBad + 1 :=
  ⟨by rw [State.badPulse_get _ n f low high other, State.get_inc _ _ fits], (u.inc f).badPulse_str n⟩

/-- A rise seen in the window of the pulse monitor. -/
def riseSeen (rise : Option Int) : Bool := rise.any (fun r => decide (0 ≤ r ∧ r ≤ 240))

/-- The width that was seen is kept. -/
def State.widthNoted (s : State) (n : Nat) (seen : Bool) (w : Nat) : State :=
  if seen then s.setStr n { s.str n with wMin := if (s.str n).wMax = 0 then w else min (s.str n).wMin w, wMax := max (s.str n).wMax w } else s

theorem State.widthNoted_eq (seen : Bool) (w : Nat) : s.widthNoted n seen w = { s with shot := (s.widthNoted n seen w).shot } := by
  unfold State.widthNoted
  split <;> rfl

theorem State.widthNoted_blkBad (seen : Bool) (w : Nat) : ((s.widthNoted n seen w).str n).blkBad = (s.str n).blkBad := by
  unfold State.widthNoted
  split
  · rw [State.str_setStr, if_pos rfl]
  · rfl

theorem State.widthNoted_regs (seen : Bool) (w : Nat) : (s.widthNoted n seen w).regs = s.regs := by rw [State.widthNoted_eq]

theorem State.widthNoted_get (seen : Bool) (w : Nat) (f : Fld) : (s.widthNoted n seen w).get f = s.get f := by rw [State.get, State.rd_congr (s.widthNoted_regs n seen w), State.get]

section
variable (on : s.domOn 68 = true) (fired : (s.bank (n / 4)).outcome = .fired) (masked : (s.bank (n / 4)).fireMask / 2 ^ (n % 4) % 2 = 1)
include on fired masked

theorem State.classifyPulse_fired (rise : Option Int) (w : Nat) (high : Bool) : s.classifyPulse n rise w high =
    if high || (riseSeen rise && decide (24 + 6 * s.widthEff n + 12 < w)) then ((s.widthNoted n (riseSeen rise) w).set (F.STR.STR_STAT_WIDE n) 1).raise EV_STRING_WIDTH n 0
    else if !riseSeen rise then ((s.widthNoted n (riseSeen rise) w).inc (F.STR.MISSING n)).badPulse n
    else if w + 12 < 24 + 6 * s.widthEff n then ((s.widthNoted n (riseSeen rise) w).inc (F.STR.NARROW n)).badPulse n
    else s.widthNoted n (riseSeen rise) w := by
  rw [State.classifyPulse, if_pos (by simp [on, fired, masked])]
  rfl

end

end

/-- Settles O31: the strings a window charges and ends, the overvoltage latch, and the classes of a pulse. -/
theorem stringSupervision : Obligations.StringSupervision := by
  unfold Obligations.StringSupervision
  refine ⟨fun b v => ?opens, fun b => ?closes, fun n => ?reached, fun n => ?overvolt, fun n rise w high => ⟨?wide, ?missing, ?narrow, ?normal⟩⟩
  case opens =>
    exact .of_effect (fun _ => rfl) fun s runs => ⟨s.openWindow_shot b v runs, s.openWindow_window b v runs, s.openWindow_charging b v runs⟩
  case closes =>
    exact .of_effect (fun _ => rfl) fun s on => ⟨s.closeWindow_shot b on, s.closeWindow_window b on, s.closeWindow_charging b on⟩
  case reached =>
    refine .of_effect (fun _ => rfl) fun s on => ?_
    rw [State.targetReached, if_pos on]
    exact ⟨rfl, (s.str_setStr _ _ _).trans (if_pos rfl), fun m other => (s.str_setStr _ _ _).trans (if_neg other)⟩
  case overvolt =>
    refine .of_effect (fun _ => rfl) fun s on => ⟨(s.setStr n { s.str n with charging := false }).set (F.STR.STR_STAT_OVERVOLT n) 1, if_pos on, rfl, fun a outside => ?_, ?_, ?_, ?_⟩
    · exact State.rd_set_ne _ _ _ _ (by simpa [F.STR.STR_STAT_OVERVOLT] using outside)
    · exact State.flag_set_one _ _ rfl rfl
    · rw [State.live, State.flag_set_one _ _ rfl rfl]
      simp
    · exact congrArg StringSt.charging ((s.str_setStr _ _ _).trans (if_pos rfl))
  case wide =>
    refine .of_effect (fun _ => rfl) fun s ⟨on, fired, masked, wide⟩ => ?_
    refine ⟨(s.widthNoted n (riseSeen rise) w).set (F.STR.STR_STAT_WIDE n) 1, ?_, State.flag_set_one _ _ rfl rfl, fun a outside => ?_⟩
    · rw [s.classifyPulse_fired n on fired masked, if_pos (by simpa [riseSeen] using wide)]
    · rw [State.rd_set_ne _ _ _ _ (by simpa [F.STR.STR_STAT_WIDE] using outside), State.rd_congr (s.widthNoted_regs n _ _)]
  case missing =>
    refine .of_effect (fun _ => rfl) fun s ⟨on, fired, masked, low, unseen⟩ => ?_
    have unseen' : riseSeen rise = false := unseen
    have counted := State.countedPulse n s (F.STR.MISSING n) rfl (by simp only [F.STR.MISSING]; omega) (by simp only [F.STR.MISSING]; omega)
      (by simp only [F.STR.MISSING, F.STR.STR_STAT_DEGRADED]; omega)
    rw [s.classifyPulse_fired n on fired masked, if_neg (by simp [low, unseen']), if_pos (by simp [unseen']), unseen']
    exact counted
  case narrow =>
    refine .of_effect (fun _ => rfl) fun s ⟨on, fired, masked, low, seen, short⟩ => ?_
    have seen' : riseSeen rise = true := seen
    have counted := State.countedPulse n (s.widthNoted n true w) (F.STR.NARROW n) rfl (by simp only [F.STR.NARROW]; omega) (by simp only [F.STR.NARROW]; omega)
      (by simp only [F.STR.NARROW, F.STR.STR_STAT_DEGRADED]; omega)
    rw [State.widthNoted_get, State.widthNoted_blkBad] at counted
    rw [s.classifyPulse_fired n on fired masked, if_neg (by simp [low, seen']; omega), if_neg (by simp [seen']), if_pos short, seen']
    exact counted
  case normal =>
    refine .of_effect (fun _ => rfl) fun s ⟨on, fired, masked, low, seen, least, most⟩ => ?_
    have seen' : riseSeen rise = true := seen
    rw [s.classifyPulse_fired n on fired masked, if_neg (by simp [low, seen']; omega), if_neg (by simp [seen']), if_neg (by omega)]
    exact ⟨s.widthNoted_eq n _ w, s.widthNoted_blkBad n _ w⟩

end Sys2Proof.Machine
end

section
/-! PROOFS. The delay lines of the reference channels, their tap maps and linearisation tables (R169). -/
namespace Sys2Proof.Machine

/-! ### Fields apart from each other -/

/-- No bit of `g` is a bit of `f`. -/
def Fld.apart (f g : Fld) : Prop := g.addr ≠ f.addr ∨ f.lo + f.wd ≤ g.lo ∨ g.lo + g.wd ≤ f.lo

theorem State.get_set_apart (s : State) (f g : Fld) (x : Nat) (fits : f.fits = true) (apart : f.apart g) : (s.set f x).get g = s.get g := by
  obtain other | bits := apart
  · exact s.get_set_addr f g x other
  · exact s.get_set_bits f g x fits bits

/-- A host write of a word whose one field takes any value. -/
theorem State.hostWrite_field (s : State) (a lo wd rst : Nat) (v : Word) (fields : fieldsAt a = [⟨lo, wd, .rw, rst, 0, 0, []⟩]) :
    s.hostWrite a v = s.set ⟨a, lo, wd⟩ (bitsOf v.toNat lo wd) := by
  rw [State.hostWrite, fields]
  rfl

/-! ### LOCKED -/

section
variable (s : State) (c : Fin 12) (b : Bool)

theorem OnlyRegs.setLocked : OnlyRegs s (s.setLocked c b) [(F.CH.CH_STAT_LOCKED c).addr, F.RX.TDC_STAT_LOCKED.addr] :=
  (OnlyRegs.set s (F.CH.CH_STAT_LOCKED c) _ List.mem_cons_self).trans (.set _ F.RX.TDC_STAT_LOCKED _ (List.mem_cons_of_mem _ List.mem_cons_self))

theorem State.get_setLocked (f : Fld) (stat : (F.CH.CH_STAT_LOCKED c).apart f) (all : F.RX.TDC_STAT_LOCKED.apart f) : (s.setLocked c b).get f = s.get f := by
  rw [State.setLocked, State.setBitAt, State.get_set_apart _ _ _ _ (by decide) all, State.setFlag, State.get_set_apart _ _ _ _ rfl stat]

theorem State.flag_setLocked : (s.setLocked c b).flag (F.CH.CH_STAT_LOCKED c) = b := by
  have apart : F.RX.TDC_STAT_LOCKED.apart (F.CH.CH_STAT_LOCKED c) := .inl (by simp only [F.CH.CH_STAT_LOCKED, F.RX.TDC_STAT_LOCKED]; omega)
  rw [State.flag, State.setLocked, State.setBitAt, State.get_set_apart _ _ _ _ (by decide) apart]
  exact State.flag_setFlag_same s _ b rfl (Nat.le_refl 1)

theorem State.bitAt_setLocked : (s.setLocked c b).bitAt F.RX.TDC_STAT_LOCKED c = b := by
  rw [State.setLocked, State.bitAt_setBitAt _ _ _ _ _ (by decide) c.isLt, if_pos rfl]

/-! ### FAULT -/

/-- The channel's FAULT in both places. -/
def State.faulted (s : State) (c : Nat) : State := (s.set (F.CH.CH_STAT_FAULT c) 1).setBitAt F.RX.TDC_STAT_FAULT c true

theorem State.chFault_of_clear (clear : s.flag (F.CH.CH_STAT_FAULT c) = false) : s.chFault c = (s.faulted c).raise EV_REFTDC_FAULT c 0 :=
  if_neg (by simp [clear])

theorem OnlyRegs.faulted : OnlyRegs s (s.faulted c) [(F.CH.CH_STAT_FAULT c).addr, F.RX.TDC_STAT_FAULT.addr] :=
  (OnlyRegs.set s (F.CH.CH_STAT_FAULT c) _ List.mem_cons_self).trans (.set _ F.RX.TDC_STAT_FAULT _ (List.mem_cons_of_mem _ List.mem_cons_self))

theorem State.get_faulted (f : Fld) (stat : (F.CH.CH_STAT_FAULT c).apart f) (all : F.RX.TDC_STAT_FAULT.apart f) : (s.faulted c).get f = s.get f := by
  rw [State.faulted, State.setBitAt, State.get_set_apart _ _ _ _ (by decide) all, State.get_set_apart _ _ _ _ rfl stat]

theorem State.flag_faulted : (s.faulted c).flag (F.CH.CH_STAT_FAULT c) = true := by
  have apart : F.RX.TDC_STAT_FAULT.apart (F.CH.CH_STAT_FAULT c) := .inl (by simp only [F.CH.CH_STAT_FAULT, F.RX.TDC_STAT_FAULT]; omega)
  rw [State.flag, State.faulted, State.setBitAt, State.get_set_apart _ _ _ _ (by decide) apart]
  exact State.flag_set_one s _ rfl rfl

theorem State.bitAt_faulted : (s.faulted c).bitAt F.RX.TDC_STAT_FAULT c = true := by
  rw [State.faulted, State.bitAt_setBitAt _ _ _ _ _ (by decide) c.isLt, if_pos rfl]

/-! ### A DLL unlocks -/

/-- LOCKED cleared and the loss counted. -/
def State.unlocked (s : State) (c : Nat) : State := (s.setLocked c false).inc F.RX.DLL_UNLOCKS

/-- UNLOCK set, with its event where it was clear. -/
def State.unlockNoted (s : State) (c : Nat) : State :=
  if (s.unlocked c).flag (F.CH.CH_STAT_UNLOCK c) then s.unlocked c else ((s.unlocked c).set (F.CH.CH_STAT_UNLOCK c) 1).raise EV_DLL_UNLOCK c 0

/-- The losses of the last second. -/
def State.recentUnlocks (s : State) (c : Nat) : List Nat := (s.time.dev.toNat :: (s.ch c).unlocks).filter (fun t => decide (s.time.dev.toNat < t + 10 ^ 9))

theorem State.recentUnlocks_length : (s.recentUnlocks c).length = ((s.ch c).unlocks.filter (fun t => decide (s.time.dev.toNat < t + 10 ^ 9))).length + 1 := by
  rw [State.recentUnlocks, List.filter_cons, if_pos (by simp)]
  rfl

theorem State.unlockNoted_kept : Answering s (s.unlockNoted c) := by
  have first : Answering s (s.unlocked c) := (Answering.ofRegs (.setLocked s c false)).trans (.inc _ _)
  unfold State.unlockNoted
  split
  · exact first
  · exact (first.trans (.set _ _ _)).trans (.raise _ _ _ _)

theorem State.dllUnlock_eq (stamps : s.chStamps c = true) : s.dllUnlock c =
    if 3 ≤ (s.recentUnlocks c).length then ((s.unlockNoted c).setCh c { (s.unlockNoted c).ch c with unlocks := (s.recentUnlocks c).take 3 }).chFault c
    else (s.unlockNoted c).setCh c { (s.unlockNoted c).ch c with unlocks := (s.recentUnlocks c).take 3 } := by
  have time := (s.unlockNoted_kept c).time_eq
  have chans : (s.unlockNoted c).ch c = s.ch c := by rw [State.ch, (s.unlockNoted_kept c).rx_eq, State.ch]
  have recent : (s.unlockNoted c).recentUnlocks c = s.recentUnlocks c := by rw [State.recentUnlocks, time, chans, State.recentUnlocks]
  rw [State.dllUnlock, if_pos stamps, ← recent]
  rfl

theorem State.unlockNoted_get (f : Fld) (low : 0x20000 ≤ f.addr) (high : f.addr < 0x7000000) (apart : (F.CH.CH_STAT_UNLOCK c).apart f) :
    (s.unlockNoted c).get f = (s.unlocked c).get f := by
  unfold State.unlockNoted
  split
  · rfl
  · rw [State.get_raise_string _ _ _ _ (by decide) f low high, State.get_set_apart _ _ _ _ rfl apart]

theorem State.unlocked_get (f : Fld) (apart : F.RX.DLL_UNLOCKS.apart f) : (s.unlocked c).get f = (s.setLocked c false).get f :=
  State.get_set_apart _ _ _ _ (by decide) apart

theorem State.unlockNoted_locked : (s.unlockNoted c).flag (F.CH.CH_STAT_LOCKED c) = false := by
  have words : 0x20000 ≤ (F.CH.CH_STAT_LOCKED c).addr ∧ (F.CH.CH_STAT_LOCKED c).addr < 0x7000000 ∧ (F.CH.CH_STAT_LOCKED c).addr ≠ F.RX.DLL_UNLOCKS.addr := by
    simp only [F.CH.CH_STAT_LOCKED, F.RX.DLL_UNLOCKS]
    omega
  obtain ⟨low, high, other⟩ := words
  rw [State.flag, s.unlockNoted_get c _ low high (.inr (.inr (Nat.le_of_ble_eq_true rfl))), s.unlocked_get c _ (.inl other)]
  exact s.flag_setLocked c false

theorem State.unlockNoted_all : (s.unlockNoted c).bitAt F.RX.TDC_STAT_LOCKED c = false := by
  have other : F.RX.TDC_STAT_LOCKED.addr ≠ (F.CH.CH_STAT_UNLOCK c).addr := by
    simp only [F.RX.TDC_STAT_LOCKED, F.CH.CH_STAT_UNLOCK]
    omega
  rw [State.bitAt, s.unlockNoted_get c _ (by decide) (by decide) (.inl other), s.unlocked_get c _ (.inl (by decide))]
  exact s.bitAt_setLocked c false

theorem State.unlockNoted_unlock : (s.unlockNoted c).flag (F.CH.CH_STAT_UNLOCK c) = true := by
  unfold State.unlockNoted
  split
  next h => exact h
  · rw [State.flag, State.get_raise_string _ _ _ _ (by decide) _ (by simp only [F.CH.CH_STAT_UNLOCK]; omega) (by simp only [F.CH.CH_STAT_UNLOCK]; omega)]
    exact State.flag_set_one _ _ rfl rfl

theorem State.unlockNoted_fault : (s.unlockNoted c).flag (F.CH.CH_STAT_FAULT c) = s.flag (F.CH.CH_STAT_FAULT c) := by
  have words : 0x20000 ≤ (F.CH.CH_STAT_FAULT c).addr ∧ (F.CH.CH_STAT_FAULT c).addr < 0x7000000 ∧ (F.CH.CH_STAT_FAULT c).addr ≠ F.RX.DLL_UNLOCKS.addr ∧
      (F.CH.CH_STAT_FAULT c).addr ≠ F.RX.TDC_STAT_LOCKED.addr := by
    simp only [F.CH.CH_STAT_FAULT, F.RX.DLL_UNLOCKS, F.RX.TDC_STAT_LOCKED]
    omega
  obtain ⟨low, high, other, other'⟩ := words
  rw [State.flag, s.unlockNoted_get c _ low high (.inr (.inr (Nat.le_of_ble_eq_true rfl))), s.unlocked_get c _ (.inl other),
    s.get_setLocked c false _ (.inr (.inl (Nat.le_of_ble_eq_true rfl))) (.inl other')]
  rfl

theorem State.unlockNoted_count : (s.unlockNoted c).get F.RX.DLL_UNLOCKS = min (s.get F.RX.DLL_UNLOCKS + 1) (2 ^ F.RX.DLL_UNLOCKS.wd - 1) := by
  have words : F.RX.DLL_UNLOCKS.addr ≠ (F.CH.CH_STAT_UNLOCK c).addr ∧ F.RX.DLL_UNLOCKS.addr ≠ (F.CH.CH_STAT_LOCKED c).addr := by
    simp only [F.RX.DLL_UNLOCKS, F.CH.CH_STAT_UNLOCK, F.CH.CH_STAT_LOCKED]
    omega
  obtain ⟨unlock, locked⟩ := words
  rw [s.unlockNoted_get c _ (by decide) (by decide) (.inl unlock), State.unlocked, State.get_inc _ _ (by decide), s.get_setLocked c false _ (.inl locked) (.inl (by decide))]

/-- What a stopped channel leaves of the rest. -/
theorem State.stopped_get (f : Fld) (low : 0x20000 ≤ f.addr) (high : f.addr < 0x7000000) (stat : (F.CH.CH_STAT_FAULT c).apart f) (all : F.RX.TDC_STAT_FAULT.apart f)
    (ev i d : Nat) (known : ev < 256) : ((s.faulted c).raise ev i d).get f = s.get f := by
  rw [State.get_raise_string _ _ _ _ known f low high, s.get_faulted c f stat all]

theorem State.setCh_get (n : Nat) (x : ChSt) (f : Fld) : (s.setCh n x).get f = s.get f := rfl

/-- What an unlocked DLL shows: the registers of `unlockNoted`, and FAULT at the third loss. -/
theorem State.dllUnlock_shows (stamps : s.chStamps c = true) : ((s.dllUnlock c).flag (F.CH.CH_STAT_FAULT c) = true ↔ 3 ≤ (s.recentUnlocks c).length) ∧
    ∀ f : Fld, 0x20000 ≤ f.addr → f.addr < 0x7000000 → (F.CH.CH_STAT_FAULT c).apart f → F.RX.TDC_STAT_FAULT.apart f → (s.dllUnlock c).get f = (s.unlockNoted c).get f := by
  have clear : s.flag (F.CH.CH_STAT_FAULT c) = false := by simpa using (by simpa [State.chStamps] using stamps : (_ ∧ _) ∧ _).2
  have before : ((s.unlockNoted c).setCh c { (s.unlockNoted c).ch c with unlocks := (s.recentUnlocks c).take 3 }).flag (F.CH.CH_STAT_FAULT c) = false :=
    (s.unlockNoted_fault c).trans clear
  rw [s.dllUnlock_eq c stamps]
  split
  next third =>
    rw [State.chFault_of_clear _ c before]
    refine ⟨⟨fun _ => third, fun _ => ?_⟩, fun f low high stat all => State.stopped_get _ c f low high stat all _ _ _ (by decide)⟩
    rw [State.flag, State.get_raise_string _ _ _ _ (by decide) _ (by simp only [F.CH.CH_STAT_FAULT]; omega) (by simp only [F.CH.CH_STAT_FAULT]; omega)]
    exact State.flag_faulted _ c
  next few => exact ⟨.intro (fun h => absurd (before.symm.trans h) Bool.false_ne_true) (fun h => absurd h few), fun f _ _ _ _ => rfl⟩

theorem State.dllRelockTimeout_stops (on : s.domOn 69 = true) (lost : s.flag (F.CH.CH_STAT_LOCKED c) = false) (clear : s.flag (F.CH.CH_STAT_FAULT c) = false) :
    s.dllRelockTimeout c = (s.faulted c).raise EV_REFTDC_FAULT c 0 := by
  rw [State.dllRelockTimeout, if_pos (by simp [on, lost]), s.chFault_of_clear c clear]

theorem State.dllRelockTimeout_rests (h : s.domOn 69 = false ∨ s.flag (F.CH.CH_STAT_LOCKED c) = true ∨ s.flag (F.CH.CH_STAT_FAULT c) = true) : s.dllRelockTimeout c = s := by
  obtain off | locked | stopped := h
  · exact if_neg (by simp [off])
  · exact if_neg (by simp [locked])
  · rw [State.dllRelockTimeout, State.chFault, if_pos stopped, ite_self]

end

/-! ### Tap maps and linearisation tables -/

theorem findBlk_channel : ∀ c : Fin 12, ∀ i : Fin 128, (findBlk (0x41000 + 0x200 * c.val + 4 * i.val)).map (fun x => (x.1.span, x.2.2)) = some (0x200, 4 * i.val) := by decide +kernel

theorem oneBlock_channel (c : Fin 12) (i n : Nat) (inside : i + n ≤ 128) (few : i < 128) : oneBlock (0x41000 + 0x200 * c.val + 4 * i) n = true := by
  have found := findBlk_channel c ⟨i, few⟩
  obtain ⟨⟨b, k, o⟩, block, place⟩ := Option.map_eq_some_iff.1 found
  obtain ⟨span, offset⟩ := Prod.mk.inj place
  rw [oneBlock, show findBlk (0x41000 + 0x200 * c.val + 4 * i) = some (b, k, o) from block]
  simp only [decide_eq_true_eq] at span offset ⊢
  omega

theorem fieldsAt_tapMap : ∀ c : Fin 12, fieldsAt (0x41018 + 0x200 * c.val) = [⟨0, 32, .rw, 0xFFFFFFFF, 0, 0, []⟩] ∧
    fieldsAt (0x4101C + 0x200 * c.val) = [⟨0, 32, .rw, 0xFFFFFFFF, 0, 0, []⟩] ∧ fieldsAt (0x41020 + 0x200 * c.val) = [⟨0, 8, .rw, 0, 0, 0, []⟩] := by decide +kernel

theorem fieldsAt_lin : ∀ c : Fin 12, ∀ i : Fin 64, fieldsAt (0x41100 + 0x200 * c.val + 4 * i.val) = [⟨0, 10, .rw, 0, 0, 0, []⟩] := by decide +kernel

theorem State.hostStore_channel (u : State) (a : Nat) (v : Word) (noStep : u.calHostWrite a = u) (low : 0x41000 ≤ a) (high : a < 0x42800) : u.hostStore a v = u.wrCh a v := by
  rw [u.hostStore_ranging a v noStep (by omega) (by omega), State.wrRanging, if_neg (by omega), if_pos high]

/-- A tap map's words take what is written. -/
theorem State.wrCh_tapMap (u : State) (a : Nat) (v : Word) (here : 0x18 ≤ (a - 0x41000) % 0x200 ∧ (a - 0x41000) % 0x200 < 0x24) : u.wrCh a v = u.hostWrite a v := by
  unfold State.wrCh
  dsimp only
  iterate 5 rw [if_neg (by omega)]

/-- The three words of a tap map stored. -/
def State.mapStored (u : State) (c : Fin 12) (a b d : Word) : State :=
  ((u.set (F.CH.CH_TAPMAP0_MAP c) a.toNat).set (F.CH.CH_TAPMAP1_MAP c) b.toNat).set (F.CH.CH_TAPMAP2_MAP c) (bitsOf d.toNat 0 8)

section
variable (u : State) (c : Fin 12) (a b d : Word)

theorem State.noStep_congr {s t : State} {ws : List Nat} (same : t.cal = s.cal) (h : s.noStep ws = true) : t.noStep ws = true := by
  rw [State.noStep, same]
  exact h

theorem bitsOf_word (v : Word) : bitsOf v.toNat 0 32 = v.toNat := (congrArg (· % 2 ^ 32) (Nat.div_one _)).trans (Nat.mod_eq_of_lt v.isLt)

theorem State.storeWords_tapMap (noStep : u.noStep (wordAddrs (0x41018 + 0x200 * c.val) 3) = true) :
    u.storeWords (0x41018 + 0x200 * c.val) [a, b, d] = u.mapStored c a b d := by
  obtain ⟨first, second, third⟩ := fieldsAt_tapMap c
  have free (s : State) (same : s.cal = u.cal) (x : Nat) (mem : x ∈ wordAddrs (0x41018 + 0x200 * c.val) 3) : s.calHostWrite x = s :=
    s.calHostWrite_of_noStep _ x mem (State.noStep_congr same noStep)
  have mem (i : Nat) (few : i < 3) : 0x41018 + 0x200 * c.val + 4 * i ∈ wordAddrs (0x41018 + 0x200 * c.val) 3 := List.mem_map.2 ⟨i, List.mem_range.2 few, rfl⟩
  have store (s : State) (same : s.cal = u.cal) (i : Nat) (few : i < 3) (v : Word) (x : Nat) (place : 0x41018 + 0x200 * c.val + 4 * i = x) : s.hostStore x v = s.hostWrite x v := by
    rw [← place, s.hostStore_channel _ v (free s same _ (mem i few)) (by omega) (by omega), s.wrCh_tapMap _ v (by omega)]
  have one (s : State) (same : s.cal = u.cal) : s.hostStore (0x41018 + 0x200 * c.val) a = s.set (F.CH.CH_TAPMAP0_MAP c) a.toNat := by
    rw [store s same 0 (by decide) a _ (by omega), State.hostWrite_field _ _ 0 32 _ _ first, bitsOf_word]
    rfl
  have two (s : State) (same : s.cal = u.cal) : s.hostStore (0x41018 + 0x200 * c.val + 4) b = s.set (F.CH.CH_TAPMAP1_MAP c) b.toNat := by
    rw [show 0x41018 + 0x200 * c.val + 4 = 0x4101C + 0x200 * c.val by omega, store s same 1 (by decide) b _ (by omega), State.hostWrite_field _ _ 0 32 _ _ second, bitsOf_word]
    rfl
  have three (s : State) (same : s.cal = u.cal) : s.hostStore (0x41018 + 0x200 * c.val + 4 + 4) d = s.set (F.CH.CH_TAPMAP2_MAP c) (bitsOf d.toNat 0 8) := by
    rw [show 0x41018 + 0x200 * c.val + 4 + 4 = 0x41020 + 0x200 * c.val by omega, store s same 2 (by decide) d _ (by omega), State.hostWrite_field _ _ 0 8 _ _ third]
    rfl
  rw [State.storeWords, State.storeWords, State.storeWords, State.storeWords, one u rfl, two (u.set (F.CH.CH_TAPMAP0_MAP c) a.toNat) rfl,
    three ((u.set (F.CH.CH_TAPMAP0_MAP c) a.toNat).set (F.CH.CH_TAPMAP1_MAP c) b.toNat) rfl]
  rfl

theorem tapMap_ends : ((wordAddrs (0x41018 + 0x200 * c.val) 3).filterMap cellMapAt).dedup = [] ∧ ((wordAddrs (0x41018 + 0x200 * c.val) 3).filterMap tapMapAt).dedup = [c.val] ∧
    ((wordAddrs (0x41018 + 0x200 * c.val) 3).filterMap linAddr).dedup = [] := by
  have all : ∀ c : Fin 12, ((wordAddrs (0x41018 + 0x200 * c.val) 3).filterMap cellMapAt).dedup = [] ∧ ((wordAddrs (0x41018 + 0x200 * c.val) 3).filterMap tapMapAt).dedup = [c.val] ∧
    ((wordAddrs (0x41018 + 0x200 * c.val) 3).filterMap linAddr).dedup = [] := by decide +kernel
  exact all c

theorem State.hostWrites_tapMap (noStep : u.noStep (wordAddrs (0x41018 + 0x200 * c.val) 3) = true) :
    u.hostWrites (0x41018 + 0x200 * c.val) [a, b, d] = (u.mapStored c a b d).endTapMap u c := by
  obtain ⟨cells, taps, lins⟩ := tapMap_ends c
  rw [State.hostWrites, u.storeWords_tapMap c a b d noStep, State.endWrite, show [a, b, d].length = 3 from rfl, cells, taps, lins]
  rfl

theorem State.mapStored_get : (u.mapStored c a b d).get (F.CH.CH_TAPMAP0_MAP c) = a.toNat ∧ (u.mapStored c a b d).get (F.CH.CH_TAPMAP1_MAP c) = b.toNat ∧
    (u.mapStored c a b d).get (F.CH.CH_TAPMAP2_MAP c) = bitsOf d.toNat 0 8 := by
  have words : (F.CH.CH_TAPMAP2_MAP c).apart (F.CH.CH_TAPMAP0_MAP c) ∧ (F.CH.CH_TAPMAP1_MAP c).apart (F.CH.CH_TAPMAP0_MAP c) ∧ (F.CH.CH_TAPMAP2_MAP c).apart (F.CH.CH_TAPMAP1_MAP c) := by
    simp only [Fld.apart, F.CH.CH_TAPMAP0_MAP, F.CH.CH_TAPMAP1_MAP, F.CH.CH_TAPMAP2_MAP]
    omega
  obtain ⟨far, near, next⟩ := words
  rw [State.mapStored, State.get_set_apart _ _ _ _ rfl far, State.get_set_apart _ _ _ _ rfl near, State.get_set_apart _ _ _ _ rfl next, State.get_set_same _ _ _ rfl,
    State.get_set_same _ _ _ rfl, State.get_set_same _ _ _ rfl]
  exact ⟨Nat.mod_eq_of_lt a.isLt, Nat.mod_eq_of_lt b.isLt, Nat.mod_eq_of_lt (bitsOf_lt _ _ _)⟩

theorem State.mapStored_stat (f : Fld) (stat : f.addr = 0x41014 + 0x200 * c.val) : (u.mapStored c a b d).get f = u.get f := by
  rw [State.mapStored, State.get_set_addr _ _ _ _ (by simp only [F.CH.CH_TAPMAP2_MAP]; omega), State.get_set_addr _ _ _ _ (by simp only [F.CH.CH_TAPMAP1_MAP]; omega),
    State.get_set_addr _ _ _ _ (by simp only [F.CH.CH_TAPMAP0_MAP]; omega)]

theorem OnlyRegs.mapStored : OnlyRegs u (u.mapStored c a b d) [0x41018 + 0x200 * c.val, 0x4101C + 0x200 * c.val, 0x41020 + 0x200 * c.val, 0x41014 + 0x200 * c.val, 0x40104] :=
  ((OnlyRegs.set u (F.CH.CH_TAPMAP0_MAP c) _ (by simp [F.CH.CH_TAPMAP0_MAP])).trans (.set _ (F.CH.CH_TAPMAP1_MAP c) _ (by simp [F.CH.CH_TAPMAP1_MAP]))).trans
    (.set _ (F.CH.CH_TAPMAP2_MAP c) _ (by simp [F.CH.CH_TAPMAP2_MAP]))

/-- The map's words as they were. -/
def State.mapBack (s u : State) (c : Nat) : State :=
  ((s.wr (F.CH.CH_TAPMAP0_MAP c).addr (u.rd (F.CH.CH_TAPMAP0_MAP c).addr)).wr (F.CH.CH_TAPMAP1_MAP c).addr (u.rd (F.CH.CH_TAPMAP1_MAP c).addr)).wr (F.CH.CH_TAPMAP2_MAP c).addr
    (u.rd (F.CH.CH_TAPMAP2_MAP c).addr)

theorem State.endTapMap_eq (s : State) : s.endTapMap u c =
    if c.val < 8 ∧ s.pw.st = .scanning then s.mapBack u c
    else if popCount 72 (s.get (F.CH.CH_TAPMAP0_MAP c) + 2 ^ 32 * s.get (F.CH.CH_TAPMAP1_MAP c) + 2 ^ 64 * s.get (F.CH.CH_TAPMAP2_MAP c)) ≠ 64 then
      (s.mapBack u c).set (F.CH.CH_STAT_MAP_ERR c) 1
    else s.setLocked c false := rfl

/-- A discarded map leaves every word as it was. -/
theorem OnlyRegs.mapBack : OnlyRegs u ((u.mapStored c a b d).mapBack u c) [] := by
  refine ⟨rfl, fun x _ => ?_⟩
  simp only [State.mapBack, State.mapStored, State.set, State.rd_wr]
  split_ifs <;> simp [*]

theorem State.mapBack_get (f : Fld) : ((u.mapStored c a b d).mapBack u c).get f = u.get f := (OnlyRegs.mapBack u c a b d).get f List.not_mem_nil

end

/-! ### Linearisation tables -/

/-- The words of a linearisation table stored from an entry on. -/
def State.linStored (u : State) (c first : Nat) : List Word → State
  | [] => u
  | v :: vs => (u.set (F.CH.LIN c first) (bitsOf v.toNat 0 10)).linStored c (first + 1) vs

/-- No write of the table waits for a boundary. -/
def State.linFree (u : State) (c : Nat) : Prop := (8 ≤ c ∧ (u.ch c).meas = none) ∨ (c < 8 ∧ u.pw.st ≠ .scanning)

section
variable (c : Fin 12)

theorem State.wrCh_lin (u : State) (i : Fin 64) (v : Word) (free : u.linFree c) :
    u.wrCh (0x41100 + 0x200 * c.val + 4 * i.val) v = u.set (F.CH.LIN c i) (bitsOf v.toNat 0 10) := by
  have channel : (0x41100 + 0x200 * c.val + 4 * i.val - 0x41000) / 0x200 = c.val := by omega
  have held : (if decide (c.val < 8) then u.holdScanning [c.val] (0x41100 + 0x200 * c.val + 4 * i.val) else u.holdOpen c (0x41100 + 0x200 * c.val + 4 * i.val)) = u := by
    obtain ⟨timer, idle⟩ | ⟨pick, still⟩ := free
    · rw [if_neg (by simpa using timer), State.holdOpen, idle]
      rfl
    · rw [if_pos (by simpa using pick), State.holdScanning, if_neg still]
  have field : (u.hostWrite (0x41100 + 0x200 * c.val + 4 * i.val) v) = u.set (F.CH.LIN c i) (bitsOf v.toNat 0 10) := by
    rw [State.hostWrite_field _ _ 0 10 _ _ (fieldsAt_lin c i)]
    rfl
  unfold State.wrCh
  dsimp only
  rw [channel, if_neg (by omega), if_neg (by omega), if_neg (by omega), if_pos (by omega), held, field]

theorem State.storeWords_lin (vs : List Word) (u : State) (first : Nat) (few : first + vs.length ≤ 64) (free : u.linFree c)
    (noStep : ∀ s : State, s.cal = u.cal → ∀ i < vs.length, s.calHostWrite (0x41100 + 0x200 * c.val + 4 * (first + i)) = s) :
    u.storeWords (0x41100 + 0x200 * c.val + 4 * first) vs = u.linStored c first vs := by
  induction vs generalizing u first with
  | nil => rfl
  | cons v vs ih =>
    rw [List.length_cons] at few noStep
    have one : u.hostStore (0x41100 + 0x200 * c.val + 4 * first) v = u.set (F.CH.LIN c first) (bitsOf v.toNat 0 10) := by
      rw [u.hostStore_channel _ v (by simpa using noStep u rfl 0 (Nat.succ_pos _)) (by omega) (by omega)]
      exact u.wrCh_lin c ⟨first, by omega⟩ v free
    rw [State.storeWords, one, show 0x41100 + 0x200 * c.val + 4 * first + 4 = 0x41100 + 0x200 * c.val + 4 * (first + 1) by omega,
      ih (u.set (F.CH.LIN c first) (bitsOf v.toNat 0 10)) (first + 1) (by omega) free]
    · rfl
    · intro s same i bound
      have next := noStep s same (i + 1) (by omega)
      rwa [show first + 1 + i = first + (i + 1) by omega]

theorem OnlyRegs.linStored (vs : List Word) (u : State) (first : Nat) (few : first + vs.length ≤ 64) :
    OnlyRegs u (u.linStored c first vs) ((List.range 64).map (fun i => 0x41100 + 0x200 * c.val + 4 * i)) := by
  induction vs generalizing u first with
  | nil => exact .refl u _
  | cons v vs ih =>
    rw [List.length_cons] at few
    exact (OnlyRegs.set u (F.CH.LIN c first) _ (List.mem_map.2 ⟨first, List.mem_range.2 (by omega), rfl⟩)).trans (ih _ (first + 1) (by omega))

theorem State.get_linStored (vs : List Word) (u : State) (first i : Nat) (few : first + vs.length ≤ 64) : (u.linStored c first vs).get (F.CH.LIN c i) =
    if first ≤ i ∧ i < first + vs.length then bitsOf (vs.getD (i - first) 0).toNat 0 10 else u.get (F.CH.LIN c i) := by
  induction vs generalizing u first with
  | nil => rw [if_neg (by simp), State.linStored]
  | cons v vs ih =>
    rw [List.length_cons] at few
    have step : (u.linStored c first (v :: vs)).get (F.CH.LIN c i) = ((u.set (F.CH.LIN c first) (bitsOf v.toNat 0 10)).linStored c (first + 1) vs).get (F.CH.LIN c i) := rfl
    rw [step, ih _ _ (by omega), List.length_cons]
    obtain before | rfl | after := Nat.lt_trichotomy i first
    · rw [if_neg (by omega), if_neg (by omega), State.get_set_addr _ _ _ _ (by simp only [F.CH.LIN]; omega)]
    · rw [if_neg (by omega), if_pos (by omega), State.get_set_same _ _ _ rfl, Nat.sub_self]
      exact Nat.mod_eq_of_lt (bitsOf_lt _ _ _)
    · have shift : i - first = (i - (first + 1)) + 1 := by omega
      by_cases inside : i < first + 1 + vs.length
      · rw [if_pos (by omega), if_pos (by omega), shift, List.getD_cons_succ]
      · rw [if_neg (by omega), if_neg (by omega), State.get_set_addr _ _ _ _ (by simp only [F.CH.LIN]; omega)]

/-- Words of the channel's table end in one judgement of the table. -/
theorem lin_ends (first n : Nat) (nonempty : n ≠ 0) (few : first + n ≤ 64) : ((wordAddrs (0x41100 + 0x200 * c.val + 4 * first) n).filterMap cellMapAt).dedup = [] ∧
    ((wordAddrs (0x41100 + 0x200 * c.val + 4 * first) n).filterMap tapMapAt).dedup = [] ∧ ((wordAddrs (0x41100 + 0x200 * c.val + 4 * first) n).filterMap linAddr).dedup = [c.val] := by
  have cells : (wordAddrs (0x41100 + 0x200 * c.val + 4 * first) n).filterMap cellMapAt = [] := by
    refine List.filterMap_eq_nil_iff.2 fun a mem => ?_
    obtain ⟨i, bound, rfl⟩ := List.mem_map.1 mem
    have few' := List.mem_range.1 bound
    exact if_neg (by omega)
  have taps : (wordAddrs (0x41100 + 0x200 * c.val + 4 * first) n).filterMap tapMapAt = [] := by
    refine List.filterMap_eq_nil_iff.2 fun a mem => ?_
    obtain ⟨i, bound, rfl⟩ := List.mem_map.1 mem
    have few' := List.mem_range.1 bound
    exact if_neg (by omega)
  have lins : (wordAddrs (0x41100 + 0x200 * c.val + 4 * first) n).filterMap linAddr = List.replicate n c.val := by
    have each (a : Nat) (mem : a ∈ wordAddrs (0x41100 + 0x200 * c.val + 4 * first) n) : linAddr a = (some ∘ fun _ => c.val) a := by
      obtain ⟨i, bound, rfl⟩ := List.mem_map.1 mem
      have few' := List.mem_range.1 bound
      have channel : (0x41100 + 0x200 * c.val + 4 * first + 4 * i - 0x41000) / 0x200 = c.val := by omega
      rw [linAddr, if_pos (by omega), channel]
      rfl
    rw [List.filterMap_congr each, List.filterMap_eq_map, List.map_const', wordAddrs, List.length_map, List.length_range]
  rw [cells, taps, lins]
  exact ⟨rfl, rfl, List.replicate_dedup nonempty⟩

/-- What a write of the table leaves. -/
theorem State.hostWrites_lin (u : State) (first : Nat) (vs : List Word) (nonempty : vs ≠ []) (few : first + vs.length ≤ 64) (free : u.linFree c)
    (noStep : u.noStep (wordAddrs (0x41100 + 0x200 * c.val + 4 * first) vs.length) = true) :
    u.hostWrites (0x41100 + 0x200 * c.val + 4 * first) vs = (u.linStored c first vs).endLin c := by
  obtain ⟨cells, taps, lins⟩ := lin_ends c first vs.length (by simpa using nonempty) few
  have steps (s : State) (same : s.cal = u.cal) (i : Nat) (bound : i < vs.length) : s.calHostWrite (0x41100 + 0x200 * c.val + 4 * (first + i)) = s :=
    s.calHostWrite_of_noStep _ _ (List.mem_map.2 ⟨i, List.mem_range.2 bound, by omega⟩) (State.noStep_congr same noStep)
  rw [State.hostWrites, State.storeWords_lin c vs u first few free steps, State.endWrite, cells, taps, lins]
  rfl

theorem State.endLin_get (u : State) (i : Nat) : (u.endLin c).get (F.CH.LIN c i) = u.get (F.CH.LIN c i) :=
  State.get_set_addr _ _ _ _ (by simp only [F.CH.LIN, F.CH.CH_STAT_LIN_VALID]; omega)

theorem State.endLin_valid (u : State) : (u.endLin c).flag (F.CH.CH_STAT_LIN_VALID c) = linRising ((List.range 64).map (fun i => (u.endLin c).get (F.CH.LIN c i))) := by
  rw [List.map_congr_left fun i _ => State.endLin_get c u i]
  exact State.flag_setFlag_same u _ _ rfl (Nat.le_refl 1)

end

theorem tapMapWrite_stores (via : Port) (seq : BitVec 16) (c : Fin 12) (a b d : Word) {h : State → Prop} {e : State → State → Prop}
    (effect : ∀ u, h u → e u ((u.mapStored c a b d).endTapMap u c)) : Writes (.tapMapWrite via seq c a b d) (0x41018 + 0x200 * c.val) 3 h e := by
  have one : ∀ c : Fin 12, oneBlock (0x41018 + 0x200 * c.val) 3 = true := by decide +kernel
  refine .of_store (vs := [a, b, d]) rfl (by omega) (Nat.le_of_ble_eq_true rfl) (List.cons_ne_nil _ _) (by omega) (one c)
    (unlocked_of_range _ 3 (by omega)) (fun u _ => u.writeRefused_other _ _ (.inr (by omega))) fun u noStep still => ?_
  rw [u.hostWrites_tapMap c a b d noStep]
  exact effect u still

/-- Settles O32: the loss, the relock and the stop of a DLL, and the maps and tables by the judgement of the whole write. -/
theorem delayLines : Obligations.DelayLines := by
  unfold Obligations.DelayLines
  refine ⟨fun c => ?unlock, fun c => ?deaf, fun c => ?lock, fun c => ?noLock, fun c => ?relock, fun c => ?noRelock, fun via seq c a b d => ⟨fun full => ?map, fun other => ?badMap⟩,
    fun via seq c a b d => ?scanning, fun via seq c first vs nonempty few => ?lin⟩
  case unlock =>
    refine .of_effect (fun _ => rfl) fun s stamps => ?_
    obtain ⟨fault, shows⟩ := s.dllUnlock_shows c stamps
    have words : (0x20000 ≤ (F.CH.CH_STAT_LOCKED c).addr ∧ (F.CH.CH_STAT_LOCKED c).addr < 0x7000000) ∧ (F.CH.CH_STAT_LOCKED c).addr ≠ F.RX.TDC_STAT_FAULT.addr ∧
        (F.CH.CH_STAT_FAULT c).addr ≠ F.RX.TDC_STAT_LOCKED.addr ∧ (F.CH.CH_STAT_FAULT c).addr ≠ F.RX.DLL_UNLOCKS.addr := by
      simp only [F.CH.CH_STAT_LOCKED, F.CH.CH_STAT_FAULT, F.RX.TDC_STAT_FAULT, F.RX.TDC_STAT_LOCKED, F.RX.DLL_UNLOCKS]
      omega
    obtain ⟨⟨low, high⟩, all, locked, count⟩ := words
    refine ⟨?_, ?_, ?_, ?_, ?_⟩
    · rw [State.flag, shows _ low high (.inr (.inr (Nat.le_of_ble_eq_true rfl))) (.inl all)]
      exact s.unlockNoted_locked c
    · rw [State.bitAt, shows _ (by decide) (by decide) (.inl locked.symm) (.inr (.inr (by decide)))]
      exact s.unlockNoted_all c
    · rw [State.flag, shows (F.CH.CH_STAT_UNLOCK c) low high (.inr (.inl (Nat.le_of_ble_eq_true rfl))) (.inl all)]
      exact s.unlockNoted_unlock c
    · rw [fault, s.recentUnlocks_length c]
      omega
    · rw [shows _ (by decide) (by decide) (.inl count.symm) (.inl (by decide))]
      exact s.unlockNoted_count c
  case deaf => exact .of_effect (fun _ => rfl) fun s deaf => if_neg (by simp [deaf])
  case lock =>
    refine .of_effect (fun _ => rfl) fun s ⟨on, clear⟩ => ?_
    rw [State.dllLock, if_pos (by simp [on, clear])]
    exact ⟨.setLocked s c true, s.flag_setLocked c true, s.bitAt_setLocked c true⟩
  case noLock => exact .of_effect (fun _ => rfl) fun s h => if_neg (by obtain h | h := h <;> simp [h])
  case relock =>
    exact .of_effect (fun _ => rfl) fun s ⟨on, lost, clear⟩ => ⟨s.faulted c, s.dllRelockTimeout_stops c on lost clear, .faulted s c, s.flag_faulted c, s.bitAt_faulted c⟩
  case noRelock => exact .of_effect (fun _ => rfl) fun s h => s.dllRelockTimeout_rests c h
  case map =>
    refine tapMapWrite_stores via seq c a b d fun u still => ?_
    obtain ⟨map0, map1, map2⟩ := u.mapStored_get c a b d
    have awake : ¬ (c.val < 8 ∧ (u.mapStored c a b d).pw.st = .scanning) := fun ⟨pick, scanning⟩ => still.elim (fun timer => by omega) fun still => still scanning
    have apart (f : Fld) (stat : (F.CH.CH_STAT_LOCKED c).apart f) (far : F.RX.TDC_STAT_LOCKED.apart f) :
        ((u.mapStored c a b d).setLocked c false).get f = (u.mapStored c a b d).get f := State.get_setLocked _ c false f stat far
    have words : (F.CH.CH_TAPMAP0_MAP c).addr ≠ (F.CH.CH_STAT_LOCKED c).addr ∧ (F.CH.CH_TAPMAP1_MAP c).addr ≠ (F.CH.CH_STAT_LOCKED c).addr ∧
        (F.CH.CH_TAPMAP2_MAP c).addr ≠ (F.CH.CH_STAT_LOCKED c).addr ∧ (F.CH.CH_TAPMAP0_MAP c).addr ≠ F.RX.TDC_STAT_LOCKED.addr ∧
        (F.CH.CH_TAPMAP1_MAP c).addr ≠ F.RX.TDC_STAT_LOCKED.addr ∧ (F.CH.CH_TAPMAP2_MAP c).addr ≠ F.RX.TDC_STAT_LOCKED.addr ∧
        (F.CH.CH_STAT_LOCKED c).addr ≠ F.RX.TDC_STAT_LOCKED.addr := by
      simp only [F.CH.CH_TAPMAP0_MAP, F.CH.CH_TAPMAP1_MAP, F.CH.CH_TAPMAP2_MAP, F.CH.CH_STAT_LOCKED, F.RX.TDC_STAT_LOCKED]
      omega
    obtain ⟨stat0, stat1, stat2, all0, all1, all2, stat⟩ := words
    rw [State.endTapMap_eq, if_neg awake, map0, map1, map2, if_neg (not_not_intro full)]
    refine ⟨(OnlyRegs.mapStored u c a b d).trans ((OnlyRegs.setLocked _ c false).mono ?_), ?_, ?_, ?_, State.flag_setLocked _ c false, ?_⟩
    · simp [F.CH.CH_STAT_LOCKED, F.RX.TDC_STAT_LOCKED]
    · rw [apart _ (.inl stat0) (.inl all0), map0]
    · rw [apart _ (.inl stat1) (.inl all1), map1]
    · rw [apart _ (.inl stat2) (.inl all2), map2]
    · rw [State.flag, apart (F.CH.CH_STAT_MAP_ERR c) (.inr (.inl (Nat.le_of_ble_eq_true rfl))) (.inl stat), u.mapStored_stat c a b d _ rfl]
      rfl
  case badMap =>
    refine tapMapWrite_stores via seq c a b d fun u still => ?_
    obtain ⟨map0, map1, map2⟩ := u.mapStored_get c a b d
    have awake : ¬ (c.val < 8 ∧ (u.mapStored c a b d).pw.st = .scanning) := fun ⟨pick, scanning⟩ => still.elim (fun timer => by omega) fun still => still scanning
    rw [State.endTapMap_eq, if_neg awake, map0, map1, map2, if_pos other]
    refine ⟨((OnlyRegs.mapBack u c a b d).mono (List.nil_subset _)).trans (.set _ (F.CH.CH_STAT_MAP_ERR c) _ List.mem_cons_self), State.flag_set_one _ _ rfl rfl, ?_⟩
    rw [State.flag, State.get_set_apart _ _ _ _ rfl (.inr (.inr (Nat.le_of_ble_eq_true rfl))), u.mapBack_get c a b d]
    rfl
  case scanning =>
    refine tapMapWrite_stores via seq c a b d fun u busy => ?_
    have asleep : c.val < 8 ∧ (u.mapStored c a b d).pw.st = .scanning := busy
    rw [State.endTapMap_eq, if_pos asleep]
    exact .mapBack u c a b d
  case lin =>
    have inside : 0x41100 + 0x200 * c.val + 4 * first.val = 0x41000 + 0x200 * c.val + 4 * (64 + first.val) := by omega
    refine .of_store rfl (by omega) (by omega) nonempty (by omega) ?_ (unlocked_of_range _ _ (by omega)) (fun u _ => u.writeRefused_other _ _ (by omega)) fun u noStep free => ?_
    · rw [inside]
      exact oneBlock_channel c _ _ (by omega) (by omega)
    · rw [State.hostWrites_lin c u first vs nonempty few free noStep]
      refine ⟨((OnlyRegs.linStored c vs u first few).mono (List.subset_cons_self _ _)).trans (.set _ (F.CH.CH_STAT_LIN_VALID c) _ List.mem_cons_self), fun i => ?_, State.endLin_valid c _⟩
      rw [State.endLin_get, State.get_linStored c vs u first i few]

end Sys2Proof.Machine
end

section
/-! PROOFS. The pick-off decides a shot's start (R166, R167, R171). What a start makes of the rows and of the TIN channels leaves the pick-off's own figures alone. -/
namespace Sys2Proof.Machine

/-! ### What the rows and the TIN channels leave alone -/

/-- The words of a result of a TIN channel (R174). -/
def State.tinWords (s : State) (c flags : Nat) (interval : Int) (tOpen close : Nat) : State :=
  ((((((((s.setI (F.CH.INTERVAL c) interval).set ⟨(F.CH.TIE c).addr, 0, 6⟩ flags).set (F.CH.T_OPEN_LO c) (tOpen / 65536)).set (F.CH.T_OPEN_HI c) (tOpen / 2 ^ 48)).set
    (F.CH.T_OPEN_FRAC c) tOpen).set (F.CH.T_CLOSE_FRAC c) close).set (F.CH.T_CLOSE_LO c) (close / 65536)).set (F.CH.T_CLOSE_HI c) (close / 2 ^ 48)).publish (F.CH.CH_RES_ST c)

/-- A result enters the queue of its channel (R176). -/
def State.tinQueued (s : State) (c flags : Nat) (interval : Int) (tOpen : Nat) : State :=
  if s.getAt (16 + c) (F.CH.CH_CTRL_QUEUE_EN c) = 1 then
    if (s.ch c).queue.length < 64 then (s.setCh c { s.ch c with queue := (s.ch c).queue ++ [⟨tOpen % 65536, flags, interval, tOpen / 65536⟩] }).showQueue c
    else
      let u := (s.inc (F.CH.Q_DROP c)).setCh c { s.ch c with dropped := true }
      if (s.ch c).dropped then u else u.raise EV_TIN_QUEUE_FULL c 0
  else s

theorem State.tinResult_eq (s : State) (c flags : Nat) (interval : Int) (tOpen : Nat) (tClose : Option Nat) :
    s.tinResult c flags interval tOpen tClose = (s.tinWords c flags interval tOpen (tClose.getD 0)).tinQueued c flags interval tOpen := rfl

/-- An open measurement that is out of time ends. -/
def State.tinExpired (s : State) (c cc : Nat) : State :=
  match (s.ch c).meas with
  | some m => if m.cc + s.chTimeout c ≤ cc then s.tinTimeout c else s
  | none => s

/-- An edge of an interval channel whose measurement is in time (R175). -/
def State.tinTaken (s : State) (c cc : Nat) (p : Option Int) (start : Bool) : State :=
  match (s.ch c).meas with
  | none =>
    if cc < (s.ch c).idleFrom then s
    else if !start && s.getAt (16 + c) (F.CH.CH_CTRL_ORDER_EN c) == 0 then s.inc (F.CH.PICK_STRAY_STRAY_STOP c)
    else
      match p with
      | none => s.tinInvalid c cc
      | some p => s.setCh c { s.ch c with meas := some ⟨start, p, cc, s.stampTime p / 65536, s.stampTime p % 65536⟩ }
  | some m =>
    if m.byStart == start then s.inc (F.CH.PICK_EXTRA_EXTRA c)
    else
      match p with
      | none => s.tinInvalid c cc
      | some p => s.tinClose c m cc p

theorem State.tinInterval_eq (s : State) (c cc : Nat) (p : Option Int) (start : Bool) : s.tinInterval c cc p start = (s.tinExpired c cc).tinTaken c cc p start := rfl

/-- The shots, the banks of the receiver and the words below those of the TIN channels, outside `own`, stay as they are. -/
structure PickKept (own : Nat → Prop) (s t : State) : Prop where
  shot : t.shot = s.shot
  banks : t.rx.banks = s.rx.banks
  regs : ∀ a, 0x20000 ≤ a → a < 0x42000 → ¬ own a → t.rd a = s.rd a

namespace PickKept
variable {own : Nat → Prop} {s t u : State}

theorem refl (s : State) : PickKept own s s := ⟨rfl, rfl, fun _ _ _ _ => rfl⟩

theorem trans (first : PickKept own s t) (second : PickKept own t u) : PickKept own s u :=
  ⟨second.shot.trans first.shot, second.banks.trans first.banks, fun a low high other => (second.regs a low high other).trans (first.regs a low high other)⟩

theorem set (s : State) (f : Fld) (x : Nat) (mine : ∀ a, 0x20000 ≤ a → a < 0x42000 → ¬ own a → a ≠ f.addr) : PickKept own s (s.set f x) :=
  ⟨s.set_shot f x, by rw [s.set_rx f x], fun a low high other => s.rd_set_ne f x a (mine a low high other)⟩

/-- A word above those of the pick-offs. -/
theorem setFar (s : State) (f : Fld) (x : Nat) (far : 0x42000 ≤ f.addr) : PickKept own s (s.set f x) := .set s f x fun _ _ _ _ => by omega

theorem raise (s : State) (n i d : Nat) (known : n < 256) : PickKept own s (s.raise n i d) := by
  have told := Answering.raise s n i d
  exact ⟨told.shot_eq, by rw [told.rx_eq], fun a low high _ => s.rd_raise_device n i d a known low (by omega)⟩

theorem setRow (s : State) (r : Nat) (x : RowSt) : PickKept own s (s.setRow r x) := ⟨rfl, rfl, fun _ _ _ _ => rfl⟩

theorem setRegion (s : State) (g : Nat) (x : RegionSt) : PickKept own s (s.setRegion g x) := ⟨rfl, rfl, fun _ _ _ _ => rfl⟩

theorem setCh (s : State) (c : Nat) (x : ChSt) : PickKept own s (s.setCh c x) := ⟨rfl, rfl, fun _ _ _ _ => rfl⟩

theorem letGo (s : State) (g : Nat) : PickKept own s (s.letGo g) := ⟨rfl, rfl, fun _ _ _ _ => rfl⟩

theorem each {α : Type} (l : List α) (f : State → α → State) (step : ∀ u, ∀ a ∈ l, PickKept own u (f u a)) (s : State) : PickKept own s (s.each l f) := by
  induction l generalizing s with
  | nil => exact .refl s
  | cons a l ih => exact (step s a List.mem_cons_self).trans (ih (fun u b mem => step u b (List.mem_cons_of_mem _ mem)) _)

theorem get (h : PickKept own s t) (f : Fld) (low : 0x20000 ≤ f.addr) (high : f.addr < 0x42000) (other : ¬ own f.addr) : t.get f = s.get f := by
  rw [State.get, State.get, h.regs f.addr low high other]

theorem bank (h : PickKept own s t) (b : Nat) : t.bank b = s.bank b := by rw [State.bank, h.shot, State.bank]

theorem rxBank (h : PickKept own s t) (b : Nat) : t.rxBank b = s.rxBank b := by rw [State.rxBank, h.banks, State.rxBank]

/-! ### Rows -/

theorem rowRegion_lt (r : Nat) : rowRegion r < 4 := by
  unfold rowRegion
  omega

theorem enqueue (s : State) (r : Nat) (i : HistInc) : PickKept own s (s.enqueue r i) := by
  have region := rowRegion_lt r
  unfold State.enqueue
  dsimp only
  split
  · exact ((setRow s _ _).trans (.setFar _ (F.SLC.QFAULT (rowSlice r)) _ (by simp only [F.SLC.QFAULT]; omega))).trans (.raise _ _ _ _ (by unfold EV_HIST_QUEUE_FAULT; omega))
  · exact .setRow s _ _

theorem trackBin (s : State) (r n : Nat) : PickKept own s (s.trackBin r n) := by
  have region := rowRegion_lt r
  unfold State.trackBin
  dsimp only
  split
  · exact .refl s
  · split
    · exact .setRow s _ _
    · split
      · exact .setRow s _ _
      · exact ((setRow s _ _).trans (.setRegion _ _ _)).trans (.raise _ _ _ _ (by unfold EV_HIST_TRACK_FULL; omega))

theorem histogram (s : State) (r c j t : Nat) : PickKept own s (s.histogram r c j t) := by
  unfold State.histogram
  dsimp only
  split
  · split
    · exact .setRow s _ _
    · split
      · exact (enqueue s _ _).trans (.trackBin _ _ _)
      · exact .refl s
  · split
    · exact .setRow s _ _
    · split
      · exact .enqueue s _ _
      · exact .refl s

theorem classifyFor (s : State) (r c j : Nat) (t : Int) : PickKept own s (s.classifyFor r c j t) := by
  unfold State.classifyFor
  dsimp only
  split
  · exact .refl s
  · split
    · exact .setRow s _ _
    · split
      · exact .setRow s _ _
      · exact .histogram s _ _ _ _

theorem classify (s : State) (r : Nat) (e : HeldEv) : PickKept own s (s.classify r e) := by
  unfold State.classify
  dsimp only
  split
  · exact .refl s
  · split
    · exact .setRow s _ _
    · exact each _ _ (fun u k _ => classifyFor u _ _ _ _) s

theorem releaseHeld (s : State) (r : Nat) : PickKept own s (s.releaseHeld r) :=
  (setRow s r _).trans (each _ _ (fun u e _ => classify u r e) _)

/-- The decision of a shot reaches the rows. -/
theorem rowsDecided (s : State) (l : List Nat) (c j : Nat) (st : StartSt) : PickKept own s (s.each l (fun s r =>
    (s.setRow r { s.row r with shots := (s.row r).shots.map (fun q => if q.col = c ∧ q.j = j then { q with start := st } else q) }).releaseHeld r)) :=
  each _ _ (fun u r _ => (setRow u r _).trans (.releaseHeld _ r)) s

/-! ### TIN channels -/

section
variable (c : Nat) (timer : 8 ≤ c)
include timer

theorem showQueue (s : State) : PickKept own s (s.showQueue c) := by
  have far (f : Nat → Fld) (here : 0x42000 ≤ (f c).addr) (u : State) (x : Nat) : PickKept own u (u.set (f c) x) := .setFar u _ x here
  unfold State.showQueue
  dsimp only
  refine (far F.CH.Q_STAT_COUNT (by simp only [F.CH.Q_STAT_COUNT]; omega) s (s.ch c).queue.length).trans ?_
  split
  · exact .refl _
  · exact ((((far F.CH.Q_HEAD0_FRAC (by simp only [F.CH.Q_HEAD0_FRAC]; omega) _ _).trans (far F.CH.Q_HEAD0_FLAGS (by simp only [F.CH.Q_HEAD0_FLAGS]; omega) _ _)).trans
      (far F.CH.Q_HEAD1_INTERVAL (by simp only [F.CH.Q_HEAD1_INTERVAL]; omega) _ _)).trans (far F.CH.T_LO (by simp only [F.CH.T_LO]; omega) _ _)).trans
      (far F.CH.T_HI (by simp only [F.CH.T_HI]; omega) _ _)

theorem tinWords (s : State) (flags : Nat) (interval : Int) (tOpen close : Nat) : PickKept own s (s.tinWords c flags interval tOpen close) := by
  have far (f : Nat → Fld) (here : 0x42000 ≤ (f c).addr) (u : State) (x : Nat) : PickKept own u (u.set (f c) x) := .setFar u _ x here
  unfold State.tinWords
  refine PickKept.trans ?_ (.setFar _ ⟨(F.CH.CH_RES_ST c).addr, 0, 16⟩ _ (by simp only [F.CH.CH_RES_ST]; omega))
  refine PickKept.trans ?_ (.setFar _ ⟨(F.CH.CH_RES_ST c).addr, 31, 1⟩ _ (by simp only [F.CH.CH_RES_ST]; omega))
  refine PickKept.trans ?_ (far F.CH.T_CLOSE_HI (by simp only [F.CH.T_CLOSE_HI]; omega) _ _)
  refine PickKept.trans ?_ (far F.CH.T_CLOSE_LO (by simp only [F.CH.T_CLOSE_LO]; omega) _ _)
  refine PickKept.trans ?_ (far F.CH.T_CLOSE_FRAC (by simp only [F.CH.T_CLOSE_FRAC]; omega) _ _)
  refine PickKept.trans ?_ (far F.CH.T_OPEN_FRAC (by simp only [F.CH.T_OPEN_FRAC]; omega) _ _)
  refine PickKept.trans ?_ (far F.CH.T_OPEN_HI (by simp only [F.CH.T_OPEN_HI]; omega) _ _)
  refine PickKept.trans ?_ (far F.CH.T_OPEN_LO (by simp only [F.CH.T_OPEN_LO]; omega) _ _)
  refine PickKept.trans ?_ (.setFar _ ⟨(F.CH.TIE c).addr, 0, 6⟩ _ (by simp only [F.CH.TIE]; omega))
  exact far F.CH.INTERVAL (by simp only [F.CH.INTERVAL]; omega) _ _

theorem tinQueued (s : State) (flags : Nat) (interval : Int) (tOpen : Nat) : PickKept own s (s.tinQueued c flags interval tOpen) := by
  unfold State.tinQueued
  dsimp only
  split
  · split
    · exact (setCh s _ _).trans (showQueue c timer _)
    · have dropped : PickKept own s ((s.inc (F.CH.Q_DROP c)).setCh c { s.ch c with dropped := true }) :=
        (setFar s (F.CH.Q_DROP c) _ (by simp only [F.CH.Q_DROP]; omega)).trans (.setCh _ c _)
      split
      · exact dropped
      · exact dropped.trans (.raise _ _ _ _ (by decide))
  · exact .refl s

theorem tinResult (s : State) (flags : Nat) (interval : Int) (tOpen : Nat) (tClose : Option Nat) : PickKept own s (s.tinResult c flags interval tOpen tClose) := by
  rw [State.tinResult_eq]
  exact (tinWords c timer s _ _ _ _).trans (tinQueued c timer _ _ _ _)

omit timer in
theorem endMeasure (s : State) (cc : Nat) : PickKept own s (s.endMeasure c cc) := (setCh s c _).trans (.letGo _ _)

theorem tinTimeout (s : State) : PickKept own s (s.tinTimeout c) := by
  unfold State.tinTimeout
  split
  · exact .refl s
  · exact ((tinResult c timer s _ _ _ _).trans (.setFar _ (F.CH.PICK_LATE_TIMEOUTS c) _ (by simp only [F.CH.PICK_LATE_TIMEOUTS]; omega))).trans (endMeasure c _ _)

theorem tinInvalid (s : State) (cc : Nat) : PickKept own s (s.tinInvalid c cc) := (tinResult c timer s _ _ _ _).trans (endMeasure c _ _)

theorem tinClose (s : State) (m : OpenMeas) (cc : Nat) (p : Int) : PickKept own s (s.tinClose c m cc p) := (tinResult c timer s _ _ _ _).trans (endMeasure c _ _)

theorem tinInterval (s : State) (cc : Nat) (p : Option Int) (start : Bool) : PickKept own s (s.tinInterval c cc p start) := by
  have expired : PickKept own s (s.tinExpired c cc) := by
    unfold State.tinExpired
    split
    · split
      · exact tinTimeout c timer s
      · exact .refl s
    · exact .refl s
  rw [State.tinInterval_eq]
  refine expired.trans ?_
  generalize s.tinExpired c cc = u
  unfold State.tinTaken
  split
  · split
    · exact .refl u
    · split
      · exact .setFar u (F.CH.PICK_STRAY_STRAY_STOP c) _ (by simp only [F.CH.PICK_STRAY_STRAY_STOP]; omega)
      · split
        · exact tinInvalid c timer u cc
        · exact .setCh u _ _
  · split
    · exact .setFar u (F.CH.PICK_EXTRA_EXTRA c) _ (by simp only [F.CH.PICK_EXTRA_EXTRA]; omega)
    · split
      · exact tinInvalid c timer u cc
      · exact tinClose c timer u _ cc _

end

theorem tinUsers (s : State) (src : Nat) (falling : Bool) (cc : Nat) (p : Option Int) : PickKept own s (s.tinUsers src falling cc p) := by
  refine each _ _ (fun u c mem => ?_) s
  have timer : 8 ≤ c := by
    simp only [List.mem_cons, List.not_mem_nil, or_false] at mem
    omega
  have sees (isStart isStop : Bool) : PickKept own u (if isStart then u.tinInterval c cc p true else if isStop then u.tinInterval c cc p false else u) := by
    cases isStart
    · cases isStop
      · exact .refl u
      · exact tinInterval c timer u cc p false
    · exact tinInterval c timer u cc p true
  split
  · exact sees _ _
  · exact .refl u

end PickKept

/-! ### A shot without its start (R111, R171) -/

theorem State.rxBank_setRxBank (s : State) (b c : Nat) (x : BankRx) : (s.setRxBank b x).rxBank c = if c = b then x else s.rxBank c := spGet_spSet _ _ _ _ _

section
variable (s : State) (b : Nat)

/-- The run of shots without a start, counted. -/
def State.missed (s : State) (b : Nat) : State := (s.setBank b { s.bank b with noStart := (s.bank b).noStart + 1 }).inc (F.BNK.PICK_MISS b)

theorem State.missed_bank : (s.missed b).bank b = { s.bank b with noStart := (s.bank b).noStart + 1 } := (s.bank_setBank b b _).trans (if_pos rfl)

/-- The bank stops at the eighth. -/
theorem PickKept.shotWithoutStart : PickKept (fun a => a = (F.BNK.BANK_STAT_PICKOFF_LOST b).addr) (s.missed b) (s.shotWithoutStart b) := by
  unfold State.shotWithoutStart State.when
  dsimp only
  split
  · exact (PickKept.set (s.missed b) (F.BNK.BANK_STAT_PICKOFF_LOST b) 1 fun a _ _ other => other).trans (.raise _ _ _ _ (by decide))
  · exact .refl _

theorem State.group_congr {s t : State} (same : t.rd 0x40200 = s.rd 0x40200) : t.group = s.group := by
  have get (f : Fld) (here : f.addr = 0x40200) : t.get f = s.get f := by rw [State.get, State.get, here, same]
  rw [State.group, State.group, get _ rfl, get _ rfl]

/-- The rows hear that the shot has no start, and the miss is counted. -/
def State.refused (s : State) (b : Nat) (d : Int) (flags : Nat) : State :=
  ((s.setRxBank b { s.rxBank b with
    decided := some ((s.bank b).curCol, (s.bank b).curShot), dLast := d, flags := flags, noStart := (s.rxBank b).noStart + 1 }).startToRows b (s.bank b).curCol (s.bank b).curShot .none)

theorem PickKept.startToRows_none {own : Nat → Prop} (u : State) (c j : Nat) : PickKept own u (u.startToRows b c j .none) := rowsDecided u _ c j .none

theorem State.pickRefuse_view (few : b < 8) (d : Int) (flags : Nat) (inner : (s.bank b).curShot + 1 ≠ s.group) :
    (s.pickRefuse b d flags).rxBank b = { s.rxBank b with
        decided := some ((s.bank b).curCol, (s.bank b).curShot), dLast := d, flags := flags, noStart := (s.rxBank b).noStart + 1 } ∧
      ((s.pickRefuse b d flags).bank b).noStart = (s.bank b).noStart + 1 ∧
      (s.pickRefuse b d flags).get (F.BNK.PICK_MISS b) = min (s.get (F.BNK.PICK_MISS b) + 1) (2 ^ (F.BNK.PICK_MISS b).wd - 1) ∧
      ∀ f : Fld, 0x40000 ≤ f.addr → f.addr < 0x42000 → (s.pickRefuse b d flags).get f = s.get f := by
  have rows : PickKept (fun _ => False) (s.setRxBank b { s.rxBank b with
      decided := some ((s.bank b).curCol, (s.bank b).curShot), dLast := d, flags := flags, noStart := (s.rxBank b).noStart + 1 }) (s.refused b d flags) := .startToRows_none b _ _ _
  have miss := PickKept.shotWithoutStart (s.refused b d flags) b
  have bank : (s.refused b d flags).bank b = s.bank b := rows.bank b
  have words (a : Nat) (low : 0x20000 ≤ a) (high : a < 0x42000) (stat : a ≠ (F.BNK.BANK_STAT_PICKOFF_LOST b).addr) (counter : a ≠ (F.BNK.PICK_MISS b).addr) :
      ((s.refused b d flags).shotWithoutStart b).rd a = s.rd a := by
    rw [miss.regs a low high stat, State.missed, State.inc, State.add, State.rd_set_ne _ _ _ _ counter]
    exact rows.regs a low high not_false
  have group : ((s.refused b d flags).shotWithoutStart b).group = s.group :=
    State.group_congr (words _ (by decide) (by decide) (by simp only [F.BNK.BANK_STAT_PICKOFF_LOST]; omega) (by simp only [F.BNK.PICK_MISS]; omega))
  have last : s.pickRefuse b d flags = (s.refused b d flags).shotWithoutStart b := by
    change State.pickLast ((s.refused b d flags).shotWithoutStart b) b = _
    rw [State.pickLast, group, miss.bank, State.missed_bank, bank, if_neg inner]
  rw [last]
  refine ⟨?_, ?_, ?_, fun f low high => ?_⟩
  · rw [miss.rxBank]
    exact (rows.rxBank b).trans ((s.rxBank_setRxBank b b _).trans (if_pos rfl))
  · rw [miss.bank, State.missed_bank, bank]
  · have place : 0x20000 ≤ (F.BNK.PICK_MISS b).addr ∧ (F.BNK.PICK_MISS b).addr < 0x42000 ∧ (F.BNK.PICK_MISS b).addr ≠ (F.BNK.BANK_STAT_PICKOFF_LOST b).addr := by
      simp only [F.BNK.PICK_MISS, F.BNK.BANK_STAT_PICKOFF_LOST]
      omega
    obtain ⟨low, high, stat⟩ := place
    rw [miss.get _ low high stat, State.missed, State.get_inc _ _ rfl]
    exact congrArg (fun n => min (n + 1) (2 ^ (F.BNK.PICK_MISS b).wd - 1)) (rows.get _ low high not_false)
  · rw [State.get, words _ (by omega) high (by simp only [F.BNK.BANK_STAT_PICKOFF_LOST]; omega) (by simp only [F.BNK.PICK_MISS]; omega)]
    rfl

/-! ### A start (R167) -/

/-- The figures of a start at `d`. -/
def BankRx.started (x : BankRx) (slot : Nat × Nat) (d : Int) : BankRx :=
  { x with
    decided := some slot, dLast := d, flags := 0, dMin := some (match x.dMin with | some m => min m d | none => d),
    dMax := some (match x.dMax with | some m => max m d | none => d), dSum := x.dSum + d, starts := x.starts + 1 }

/-- The figures of a bank but for the accepted shots. -/
def BankRx.figures (x : BankRx) : BankRx := { x with shotsAcc := [] }

/-- The rows and the TIN channels have heard of the start. -/
def State.startHeard (s : State) (b cc : Nat) (p d : Int) : State :=
  State.tinUsers ((((s.setRxBank b ((s.rxBank b).started ((s.bank b).curCol, (s.bank b).curShot) d)).startToRows b (s.bank b).curCol (s.bank b).curShot
    (.at ((p - 16 * (s.setRxBank b ((s.rxBank b).started ((s.bank b).curCol, (s.bank b).curShot) d)).chTofs b + 8) / 16))).shotWithStart b)) (8 + b) false cc
    (some (p - 16 * ((((s.setRxBank b ((s.rxBank b).started ((s.bank b).curCol, (s.bank b).curShot) d)).startToRows b (s.bank b).curCol (s.bank b).curShot
    (.at ((p - 16 * (s.setRxBank b ((s.rxBank b).started ((s.bank b).curCol, (s.bank b).curShot) d)).chTofs b + 8) / 16))).shotWithStart b)).chTofs b))

theorem State.pickStart_eq (cc : Nat) (p d : Int) : s.pickStart b cc p d = (s.startHeard b cc p d).pickLast b := rfl

theorem State.startToRows_at (u : State) (c j : Nat) (st : Int) : (u.startToRows b c j (.at st)).shot = u.shot ∧
    ((u.startToRows b c j (.at st)).rxBank b).figures = (u.rxBank b).figures ∧ ∀ a, 0x20000 ≤ a → a < 0x42000 → (u.startToRows b c j (.at st)).rd a = u.rd a := by
  let k := (if j < u.coarseN then 0 else 2) + j % 2
  have rows : PickKept (fun _ => False) (u.setRxBank b { u.rxBank b with shotsAcc := (u.rxBank b).shotsAcc.set k ((u.rxBank b).shotsAcc.getD k 0 + 1) }) (u.startToRows b c j (.at st)) :=
    .rowsDecided _ _ c j (.at st)
  refine ⟨rows.shot, ?_, fun a low high => rows.regs a low high not_false⟩
  rw [rows.rxBank, State.rxBank_setRxBank, if_pos rfl]
  rfl

theorem State.pickStart_view (cc : Nat) (p d : Int) (inner : (s.bank b).curShot + 1 ≠ s.group) :
    ((s.pickStart b cc p d).rxBank b).figures = ((s.rxBank b).started ((s.bank b).curCol, (s.bank b).curShot) d).figures ∧ ((s.pickStart b cc p d).bank b).noStart = 0 := by
  let started := s.setRxBank b ((s.rxBank b).started ((s.bank b).curCol, (s.bank b).curShot) d)
  obtain ⟨shot, figures, words⟩ := State.startToRows_at b started (s.bank b).curCol (s.bank b).curShot ((p - 16 * started.chTofs b + 8) / 16)
  let rows := started.startToRows b (s.bank b).curCol (s.bank b).curShot (.at ((p - 16 * started.chTofs b + 8) / 16))
  have heard : PickKept (fun _ => False) (rows.shotWithStart b) (s.startHeard b cc p d) := .tinUsers _ _ _ _ _
  have bank : rows.bank b = s.bank b := congrArg (fun x : ShotSt => spGet (fun _ => BankSt.init) x.banks b) shot
  have record : (s.startHeard b cc p d).bank b = { s.bank b with noStart := 0 } := by
    rw [heard.bank, State.shotWithStart, State.bank_setBank, if_pos rfl, bank]
  have group : (s.startHeard b cc p d).group = s.group :=
    State.group_congr ((heard.regs _ (by decide) (by decide) not_false).trans (words _ (by decide) (by decide)))
  have last : s.pickStart b cc p d = s.startHeard b cc p d := by
    rw [State.pickStart_eq, State.pickLast, group, record]
    exact if_neg inner
  rw [last, record, heard.rxBank]
  refine ⟨Eq.trans figures ?_, rfl⟩
  rw [State.rxBank_setRxBank, if_pos rfl]

end

/-! ### The edge -/

section
variable (s : State) (b cc tap : Nat)

/-- The armed span of the pick-off. -/
def State.pickWithin (s : State) (b cc tap : Nat) : Bool :=
  (s.rxBank b).isOpen && s.shotInAir b &&
    decide (16 * (s.gateTime b - 1920) ≤ s.stamp16 b cc tap ∧ s.stamp16 b cc tap ≤ 16 * (s.gateTime b + s.get (F.CH.CH_WINDOW_PICK_MAX b)))

/-- An edge that ties with the gate rise. -/
def State.pickTie (s : State) (b cc tap : Nat) : Bool := decide ((s.stamp16 b cc tap - 16 * s.gateTime b).natAbs < 16)

/-- The distance of an edge from the gate rise. -/
def State.pickDistance (s : State) (b cc tap : Nat) : Int := if s.pickTie b cc tap then 0 else nearest (s.stamp16 b cc tap - 16 * s.gateTime b) 16

variable (hears : s.chStamps b = true ∧ s.flag (F.CH.CH_CTRL_EN b) = true)
include hears

theorem State.pickoffEdge_eq : s.pickoffEdge b cc tap =
    if s.pickWithin b cc tap then
      if (s.rxBank b).decided = some ((s.bank b).curCol, (s.bank b).curShot) then s.inc (F.CH.PICK_EXTRA_EXTRA b)
      else if s.pickDistance b cc tap < s.get (F.CH.CH_WINDOW_PICK_MIN b) then
        (s.inc (F.CH.PICK_EARLY_HOLD_HIT b)).pickRefuse b (s.pickDistance b cc tap) (bit (s.pickTie b cc tap) + 2 * bit (decide (s.pickDistance b cc tap < 0)))
      else s.pickStart b cc (s.stamp16 b cc tap) (s.pickDistance b cc tap)
    else s.inc (F.CH.PICK_STRAY_STRAY_STOP b) := by
  rw [State.pickoffEdge, if_pos (by simp [hears])]
  rfl

theorem State.pickoffEdge_outside (outside : s.pickWithin b cc tap = false) : s.pickoffEdge b cc tap = s.inc (F.CH.PICK_STRAY_STRAY_STOP b) := by
  rw [s.pickoffEdge_eq b cc tap hears, if_neg (Bool.eq_false_iff.1 outside)]

variable (within : s.pickWithin b cc tap = true)
include within

theorem State.pickoffEdge_again (decided : (s.rxBank b).decided = some ((s.bank b).curCol, (s.bank b).curShot)) :
    s.pickoffEdge b cc tap = s.inc (F.CH.PICK_EXTRA_EXTRA b) := by
  rw [s.pickoffEdge_eq b cc tap hears, if_pos within, if_pos decided]

variable (undecided : (s.rxBank b).decided ≠ some ((s.bank b).curCol, (s.bank b).curShot))
include undecided

theorem State.pickoffEdge_early (early : s.pickDistance b cc tap < s.get (F.CH.CH_WINDOW_PICK_MIN b)) : s.pickoffEdge b cc tap =
    (s.inc (F.CH.PICK_EARLY_HOLD_HIT b)).pickRefuse b (s.pickDistance b cc tap) (bit (s.pickTie b cc tap) + 2 * bit (decide (s.pickDistance b cc tap < 0))) := by
  rw [s.pickoffEdge_eq b cc tap hears, if_pos within, if_neg undecided, if_pos early]

theorem State.pickoffEdge_start (late : s.get (F.CH.CH_WINDOW_PICK_MIN b) ≤ s.pickDistance b cc tap) : s.pickoffEdge b cc tap =
    s.pickStart b cc (s.stamp16 b cc tap) (s.pickDistance b cc tap) := by
  rw [s.pickoffEdge_eq b cc tap hears, if_pos within, if_neg undecided, if_neg (Int.not_lt.2 late)]

end

/-- Settles O33: the branches of an edge and of the end of the span, by the figures that each leaves. -/
theorem pickoffStart : Obligations.PickoffStart := by
  unfold Obligations.PickoffStart
  refine ⟨fun b cc tap => ⟨?deaf, ?stray, ?extra, ?early, ?start⟩, fun b => ?late, fun b => ?decided⟩
  case deaf => exact .of_effect (fun _ => rfl) fun s h => if_neg (by obtain h | h := h <;> simp [h])
  case stray =>
    exact .of_effect (fun _ => rfl) fun s ⟨stamps, en, outside⟩ => s.pickoffEdge_outside b cc tap ⟨stamps, en⟩ outside
  case extra =>
    exact .of_effect (fun _ => rfl) fun s ⟨stamps, en, within, decided⟩ => s.pickoffEdge_again b cc tap ⟨stamps, en⟩ within decided
  case early =>
    refine .of_effect (fun _ => rfl) fun s ⟨stamps, en, within, undecided, early, inner⟩ => ?_
    have inner' : ((s.inc (F.CH.PICK_EARLY_HOLD_HIT b)).bank b).curShot + 1 ≠ (s.inc (F.CH.PICK_EARLY_HOLD_HIT b)).group := by
      rw [State.group_congr (t := s.inc (F.CH.PICK_EARLY_HOLD_HIT b)) (s := s) (State.rd_set_ne _ _ _ _ (by simp only [F.CH.PICK_EARLY_HOLD_HIT]; omega))]
      exact inner
    obtain ⟨figures, misses, -, words⟩ := (s.inc (F.CH.PICK_EARLY_HOLD_HIT b)).pickRefuse_view b b.isLt (s.pickDistance b cc tap)
      (bit (s.pickTie b cc tap) + 2 * bit (decide (s.pickDistance b cc tap < 0))) inner'
    rw [s.pickoffEdge_early b cc tap ⟨stamps, en⟩ within undecided early, figures, misses,
      words _ (by simp only [F.CH.PICK_EARLY_HOLD_HIT]; omega) (by simp only [F.CH.PICK_EARLY_HOLD_HIT]; omega), State.get_inc _ _ rfl]
    exact ⟨rfl, rfl, rfl⟩
  case start =>
    refine .of_effect (fun _ => rfl) fun s ⟨stamps, en, within, undecided, late, inner⟩ => ?_
    obtain ⟨figures, run⟩ := s.pickStart_view b cc (s.stamp16 b cc tap) (s.pickDistance b cc tap) inner
    have field {α : Type} (g : BankRx → α) (apart : ∀ x : BankRx, g x.figures = g x) :
        g ((s.pickStart b cc (s.stamp16 b cc tap) (s.pickDistance b cc tap)).rxBank b) = g ((s.rxBank b).started ((s.bank b).curCol, (s.bank b).curShot) (s.pickDistance b cc tap)) := by
      rw [← apart, figures, apart]
    rw [s.pickoffEdge_start b cc tap ⟨stamps, en⟩ within undecided late]
    exact ⟨field (·.decided) fun _ => rfl, field (·.dLast) fun _ => rfl, field (·.flags) fun _ => rfl, field (·.starts) fun _ => rfl, field (·.noStart) fun _ => rfl,
      field (·.dSum) fun _ => rfl, run⟩
  case late =>
    refine .of_effect (fun _ => rfl) fun s ⟨on, open_, fired, undecided, inner⟩ => ?_
    have ends : s.pickoffWindowEnd b = (s.inc (F.CH.PICK_LATE_TIMEOUTS b)).pickRefuse b 0 (4 + 8 * bit (!s.chStamps b)) := by
      rw [State.pickoffWindowEnd, if_pos (by simp [on, open_, fired, undecided])]
    have inner' : ((s.inc (F.CH.PICK_LATE_TIMEOUTS b)).bank b).curShot + 1 ≠ (s.inc (F.CH.PICK_LATE_TIMEOUTS b)).group := by
      rw [State.group_congr (t := s.inc (F.CH.PICK_LATE_TIMEOUTS b)) (s := s) (State.rd_set_ne _ _ _ _ (by simp only [F.CH.PICK_LATE_TIMEOUTS]; omega))]
      exact inner
    obtain ⟨figures, misses, count, words⟩ := (s.inc (F.CH.PICK_LATE_TIMEOUTS b)).pickRefuse_view b b.isLt 0 (4 + 8 * bit (!s.chStamps b)) inner'
    have before : (s.inc (F.CH.PICK_LATE_TIMEOUTS b)).get (F.BNK.PICK_MISS b) = s.get (F.BNK.PICK_MISS b) :=
      State.get_set_addr _ _ _ _ (by simp only [F.BNK.PICK_MISS, F.CH.PICK_LATE_TIMEOUTS]; omega)
    rw [ends, figures, misses, count, words _ (by simp only [F.CH.PICK_LATE_TIMEOUTS]; omega) (by simp only [F.CH.PICK_LATE_TIMEOUTS]; omega), State.get_inc _ _ rfl, before]
    exact ⟨rfl, rfl, rfl, rfl⟩
  case decided => exact .of_effect (fun _ => rfl) fun s h => if_neg (by obtain h | h | h | h := h <;> simp [h])

end Sys2Proof.Machine
end

section
/-! PROOFS. The TIN channels: hold-off, time stamps, intervals and the queue (R172 to R176). -/
namespace Sys2Proof.Machine

/-! ### A result (R174) -/

theorem State.ch_setCh (s : State) (c d : Nat) (x : ChSt) : (s.setCh c x).ch d = if d = c then x else s.ch d := spGet_spSet _ _ _ _ _

section
variable (s : State) (c flags : Nat) (interval : Int) (tOpen : Nat)

theorem State.showQueue_rd (a : Nat) (outside : a < 0x41080 + 0x200 * c ∨ (0x410A0 + 0x200 * c ≤ a ∧ a < 0x410B0 + 0x200 * c) ∨ 0x41100 + 0x200 * c ≤ a) : (s.showQueue c).rd a = s.rd a := by
  have count : (s.set (F.CH.Q_STAT_COUNT c) (s.ch c).queue.length).rd a = s.rd a := State.rd_set_ne _ _ _ _ (by simp only [F.CH.Q_STAT_COUNT]; omega)
  unfold State.showQueue
  dsimp only
  split
  · exact count
  · rw [State.rd_set_ne _ _ _ _ (by simp only [F.CH.T_HI]; omega), State.rd_set_ne _ _ _ _ (by simp only [F.CH.T_LO]; omega), State.setI,
      State.rd_set_ne _ _ _ _ (by simp only [F.CH.Q_HEAD1_INTERVAL]; omega), State.rd_set_ne _ _ _ _ (by simp only [F.CH.Q_HEAD0_FLAGS]; omega),
      State.rd_set_ne _ _ _ _ (by simp only [F.CH.Q_HEAD0_FRAC]; omega), count]

theorem State.tinQueued_rd (a : Nat) (outside : a < 0x41080 + 0x200 * c ∨ (0x410A0 + 0x200 * c ≤ a ∧ a < 0x410B0 + 0x200 * c) ∨ 0x41100 + 0x200 * c ≤ a) (events : a ∉ eventWords EV_TIN_QUEUE_FULL) : (s.tinQueued c flags interval tOpen).rd a = s.rd a := by
  have dropped : ((s.inc (F.CH.Q_DROP c)).setCh c { s.ch c with dropped := true }).rd a = s.rd a := State.rd_set_ne s (F.CH.Q_DROP c) _ a (by simp only [F.CH.Q_DROP]; omega)
  unfold State.tinQueued
  dsimp only
  split
  · split
    · exact State.showQueue_rd _ c a outside
    · split
      · exact dropped
      · rw [State.raise_rd _ _ _ _ _ events, dropped]
  · rfl

theorem State.tinWords_interval (close : Nat) : (s.tinWords c flags interval tOpen close).get (F.CH.INTERVAL c) = unsigned 32 interval := by
  have apart (f : Nat → Fld) (x : Nat) (u : State) (other : (F.CH.INTERVAL c).addr ≠ (f c).addr) : (u.set (f c) x).get (F.CH.INTERVAL c) = u.get (F.CH.INTERVAL c) :=
    State.get_set_addr _ _ _ _ other
  rw [State.tinWords, State.publish, State.get_set_addr _ ⟨(F.CH.CH_RES_ST c).addr, 0, 16⟩ _ _ (by simp [F.CH.INTERVAL, F.CH.CH_RES_ST]),
    State.get_set_addr _ ⟨(F.CH.CH_RES_ST c).addr, 31, 1⟩ _ _ (by simp [F.CH.INTERVAL, F.CH.CH_RES_ST]), apart F.CH.T_CLOSE_HI _ _ (by simp [F.CH.INTERVAL, F.CH.T_CLOSE_HI]),
    apart F.CH.T_CLOSE_LO _ _ (by simp [F.CH.INTERVAL, F.CH.T_CLOSE_LO]), apart F.CH.T_CLOSE_FRAC _ _ (by simp [F.CH.INTERVAL, F.CH.T_CLOSE_FRAC]),
    apart F.CH.T_OPEN_FRAC _ _ (by simp [F.CH.INTERVAL, F.CH.T_OPEN_FRAC]), apart F.CH.T_OPEN_HI _ _ (by simp [F.CH.INTERVAL, F.CH.T_OPEN_HI]),
    apart F.CH.T_OPEN_LO _ _ (by simp [F.CH.INTERVAL, F.CH.T_OPEN_LO]), State.get_set_addr _ ⟨(F.CH.TIE c).addr, 0, 6⟩ _ _ (by simp [F.CH.INTERVAL, F.CH.TIE]), State.setI,
    State.get_set_same _ _ _ rfl]
  have small : unsigned 32 interval < 2 ^ 32 := by
    unfold unsigned
    omega
  exact Nat.mod_eq_of_lt small

theorem State.tinWords_flags (close : Nat) : (s.tinWords c flags interval tOpen close).get ⟨(F.CH.TIE c).addr, 0, 6⟩ = flags % 64 := by
  have apart (f : Fld) (x : Nat) (u : State) (other : (F.CH.TIE c).addr ≠ f.addr) : (u.set f x).get ⟨(F.CH.TIE c).addr, 0, 6⟩ = u.get ⟨(F.CH.TIE c).addr, 0, 6⟩ :=
    State.get_set_addr _ _ _ _ other
  rw [State.tinWords, State.publish, apart ⟨(F.CH.CH_RES_ST c).addr, 0, 16⟩ _ _ (by simp [F.CH.TIE, F.CH.CH_RES_ST]),
    apart ⟨(F.CH.CH_RES_ST c).addr, 31, 1⟩ _ _ (by simp [F.CH.TIE, F.CH.CH_RES_ST]), apart (F.CH.T_CLOSE_HI c) _ _ (by simp [F.CH.TIE, F.CH.T_CLOSE_HI]),
    apart (F.CH.T_CLOSE_LO c) _ _ (by simp [F.CH.TIE, F.CH.T_CLOSE_LO]), apart (F.CH.T_CLOSE_FRAC c) _ _ (by simp [F.CH.TIE, F.CH.T_CLOSE_FRAC]),
    apart (F.CH.T_OPEN_FRAC c) _ _ (by simp [F.CH.TIE, F.CH.T_OPEN_FRAC]), apart (F.CH.T_OPEN_HI c) _ _ (by simp [F.CH.TIE, F.CH.T_OPEN_HI]),
    apart (F.CH.T_OPEN_LO c) _ _ (by simp [F.CH.TIE, F.CH.T_OPEN_LO]), State.get_set_same _ ⟨(F.CH.TIE c).addr, 0, 6⟩ _ rfl]
  rfl

theorem State.tinWords_rd (close a : Nat) (other : a < 0x41040 + 0x200 * c ∨ 0x41060 + 0x200 * c ≤ a) : (s.tinWords c flags interval tOpen close).rd a = s.rd a := by
  have apart (f : Nat → Fld) (x : Nat) (u : State) (here : 0x41040 + 0x200 * c ≤ (f c).addr ∧ (f c).addr < 0x41060 + 0x200 * c) : (u.set (f c) x).rd a = u.rd a :=
    State.rd_set_ne _ _ _ _ (by omega)
  rw [State.tinWords, State.publish, State.rd_set_ne _ ⟨(F.CH.CH_RES_ST c).addr, 0, 16⟩ _ _ (by simp only [F.CH.CH_RES_ST]; omega),
    State.rd_set_ne _ ⟨(F.CH.CH_RES_ST c).addr, 31, 1⟩ _ _ (by simp only [F.CH.CH_RES_ST]; omega), apart F.CH.T_CLOSE_HI _ _ (by simp only [F.CH.T_CLOSE_HI]; omega),
    apart F.CH.T_CLOSE_LO _ _ (by simp only [F.CH.T_CLOSE_LO]; omega), apart F.CH.T_CLOSE_FRAC _ _ (by simp only [F.CH.T_CLOSE_FRAC]; omega),
    apart F.CH.T_OPEN_FRAC _ _ (by simp only [F.CH.T_OPEN_FRAC]; omega), apart F.CH.T_OPEN_HI _ _ (by simp only [F.CH.T_OPEN_HI]; omega),
    apart F.CH.T_OPEN_LO _ _ (by simp only [F.CH.T_OPEN_LO]; omega), State.rd_set_ne _ ⟨(F.CH.TIE c).addr, 0, 6⟩ _ _ (by simp only [F.CH.TIE]; omega), State.setI,
    State.rd_set_ne _ _ _ _ (by simp only [F.CH.INTERVAL]; omega)]

end

/-! ### The end of a measurement (R175) -/

section
variable (s : State) (c : Nat)

theorem eventWords_interval : (F.CH.INTERVAL c).addr ∉ eventWords EV_TIN_QUEUE_FULL := by
  simp only [eventWords, EV_TIN_QUEUE_FULL, F.CH.INTERVAL, F.CMD.EV_COUNT, F.CMD.EVT_DROP, F.MON.EV_LINES_LOST, activeBit, List.mem_cons, List.not_mem_nil, or_false]
  omega

theorem eventWords_timer (a : Nat) (low : 0x20000 ≤ a) (high : a < 0x7000000) : a ∉ eventWords EV_TIN_QUEUE_FULL := by
  simp only [eventWords, EV_TIN_QUEUE_FULL, F.CMD.EV_COUNT, F.CMD.EVT_DROP, F.MON.EV_LINES_LOST, activeBit, List.mem_cons, List.not_mem_nil, or_false]
  omega

theorem State.tinResult_interval (flags : Nat) (interval : Int) (tOpen : Nat) (tClose : Option Nat) :
    (s.tinResult c flags interval tOpen tClose).get (F.CH.INTERVAL c) = unsigned 32 interval := by
  rw [State.tinResult_eq, State.get, State.tinQueued_rd _ _ _ _ _ _ (.inl (by simp only [F.CH.INTERVAL]; omega)) (eventWords_interval c)]
  exact State.tinWords_interval s c flags interval tOpen _

theorem State.ch_endMeasure (cc : Nat) : (s.endMeasure c cc).ch c = { s.ch c with meas := none, idleFrom := cc + 1 } :=
  (s.ch_setCh c c _).trans (if_pos rfl)

/-- A closing edge in time, far enough from the opening one. -/
theorem State.tinClose_view (m : OpenMeas) (cc : Nat) (p : Int) (start : m.byStart = true) (inTime : cc < m.cc + 65536) (far : 16 ≤ (p - m.stamp).natAbs) :
    (s.tinClose c m cc p).get (F.CH.INTERVAL c) = unsigned 32 (nearest (p - m.stamp) 16) ∧ ((s.tinClose c m cc p).ch c).meas = none ∧
      ((s.tinClose c m cc p).ch c).idleFrom = cc + 1 := by
  refine ⟨?_, ?_, ?_⟩
  · have late : decide (m.cc + 65536 ≤ cc) = false := decide_eq_false (by omega)
    have apart : decide ((p - m.stamp).natAbs < 16) = false := decide_eq_false (by omega)
    unfold State.tinClose
    dsimp only
    rw [if_pos start, late, apart]
    exact State.tinResult_interval s c _ _ _ _
  · exact congrArg ChSt.meas (State.ch_endMeasure _ c cc)
  · exact congrArg ChSt.idleFrom (State.ch_endMeasure _ c cc)

theorem State.tinTimeout_view (c : Fin 4) (m : OpenMeas) (open_ : (s.ch (8 + c)).meas = some m) :
    ((s.tinTimeout (8 + c)).ch (8 + c)).meas = none ∧ (s.tinTimeout (8 + c)).get (F.CH.INTERVAL (8 + c)) = 0 ∧ (s.tinTimeout (8 + c)).get ⟨(F.CH.TIE (8 + c)).addr, 0, 6⟩ = 36 ∧
      (s.tinTimeout (8 + c)).get (F.CH.PICK_LATE_TIMEOUTS (8 + c)) = min (s.get (F.CH.PICK_LATE_TIMEOUTS (8 + c)) + 1) (2 ^ (F.CH.PICK_LATE_TIMEOUTS (8 + c)).wd - 1) := by
  have ends : s.tinTimeout (8 + c) =
      ((s.tinResult (8 + c) (32 + 4) 0 (m.dev * 65536 + m.frac) none).inc (F.CH.PICK_LATE_TIMEOUTS (8 + c))).endMeasure (8 + c) (m.cc + State.chTimeout
        ((s.tinResult (8 + c) (32 + 4) 0 (m.dev * 65536 + m.frac) none).inc (F.CH.PICK_LATE_TIMEOUTS (8 + c))) (8 + c)) := by
    rw [State.tinTimeout, open_]
  have counter : (F.CH.PICK_LATE_TIMEOUTS (8 + c)).addr = 0x410A4 + 0x200 * (8 + c.val) := rfl
  rw [ends]
  refine ⟨congrArg ChSt.meas (State.ch_endMeasure _ _ _), ?_, ?_, ?_⟩
  · refine (State.get_set_addr _ _ _ _ ?_).trans (State.tinResult_interval s (8 + c) _ _ _ _)
    simp only [F.CH.INTERVAL, F.CH.PICK_LATE_TIMEOUTS]
    omega
  · refine (State.get_set_addr _ _ ⟨(F.CH.TIE (8 + c)).addr, 0, 6⟩ _ ?_).trans ?_
    · simp only [F.CH.TIE, F.CH.PICK_LATE_TIMEOUTS]
      omega
    · rw [State.tinResult_eq, State.get, State.tinQueued_rd _ _ _ _ _ _ (.inl (by simp only [F.CH.TIE]; omega)) (eventWords_timer _ (by simp only [F.CH.TIE]; omega) (by simp only [F.CH.TIE]; omega))]
      exact State.tinWords_flags s _ _ _ _ _
  · have before : (s.tinResult (8 + c) (32 + 4) 0 (m.dev * 65536 + m.frac) none).get (F.CH.PICK_LATE_TIMEOUTS (8 + c)) = s.get (F.CH.PICK_LATE_TIMEOUTS (8 + c)) := by
      rw [State.tinResult_eq, State.get, State.tinQueued_rd _ _ _ _ _ _ (.inr (.inl (by omega))) (eventWords_timer _ (by omega) (by omega)), State.tinWords_rd _ _ _ _ _ _ _ (.inr (by omega))]
      rfl
    exact (State.get_inc _ _ rfl).trans (by rw [before])

end

/-! ### An edge (R172) -/

section
variable (s : State) (i : Fin 4) (falling : Bool) (cc tap : Nat)

/-- The last edge of a polarity. -/
def ChSt.lastEdge (x : ChSt) (falling : Bool) : Option Nat := if falling then x.lastFall else x.lastRise

/-- An accepted edge is kept. -/
def ChSt.edgeAt (x : ChSt) (falling : Bool) (cc : Nat) : ChSt := if falling then { x with lastFall := some cc } else { x with lastRise := some cc }

/-- The accepted edge of an input is kept. -/
def State.edgeKept (s : State) (c : Nat) (falling : Bool) (cc : Nat) : State := s.setCh c ((s.ch c).edgeAt falling cc)

/-- The stamp of an edge on a TIN channel, at 1/16 reference unit. -/
def State.tinStamp (s : State) (c cc tap : Nat) : Int := s.stamp16 c cc tap - 16 * s.chTofs c

section
variable (on : s.domOn 69 = true)
include on

theorem State.tinEdge_held (k : Nat) (last : (s.ch (8 + i)).lastEdge falling = some k) (close : cc < k + s.getAt (24 + i.val) (F.CH.CH_TIN_HOLDOFF (8 + i))) :
    s.tinEdge i falling cc tap = s.inc (F.CH.PICK_EARLY_HOLD_HIT (8 + i)) := by
  have channel : 16 + (8 + i.val) = 24 + i.val := by omega
  have accept : s.tinAccept i falling cc = (false, s.inc (F.CH.PICK_EARLY_HOLD_HIT (8 + i))) := by
    unfold State.tinAccept
    dsimp only
    rw [show (if falling = true then (s.ch (8 + i)).lastFall else (s.ch (8 + i)).lastRise) = some k from last, channel, if_pos (by simpa using close)]
  rw [State.tinEdge, if_pos on, accept]
  rfl

variable (fresh : (s.ch (8 + i)).lastEdge falling = none) (stamps : s.chStamps (8 + i) = true)
include fresh stamps

/-- An edge that is accepted: a time stamp where the channel selects it, and the interval channels. -/
theorem State.tinEdge_fresh : s.tinEdge i falling cc tap = State.tinUsers
    (if s.tinCtrl F.CH.CH_CTRL_EN (8 + i) = 1 ∧ s.tinCtrl F.CH.CH_CTRL_MODE (8 + i) = 0 ∧ s.tinCtrl F.CH.CH_CTRL_TS_EDGES (8 + i) / (if falling then 2 else 1) % 2 = 1 then
      (s.edgeKept (8 + i) falling cc).tinResult (8 + i) 0 0 (s.stampTime (s.tinStamp (8 + i) cc tap)) none
    else s.edgeKept (8 + i) falling cc) i falling cc (some (s.tinStamp (8 + i) cc tap)) := by
  have accept : s.tinAccept i falling cc = (true, s.edgeKept (8 + i) falling cc) := by
    unfold State.tinAccept
    dsimp only
    rw [show (if falling = true then (s.ch (8 + i)).lastFall else (s.ch (8 + i)).lastRise) = none from fresh]
    rfl
  have stamps' : (s.edgeKept (8 + i) falling cc).chStamps (8 + i) = true := stamps
  have edge : s.tinEdge i falling cc tap = State.tinUsers
      (if (s.edgeKept (8 + i) falling cc).tinCtrl F.CH.CH_CTRL_EN (8 + i) = 1 ∧ (s.edgeKept (8 + i) falling cc).tinCtrl F.CH.CH_CTRL_MODE (8 + i) = 0 ∧
          (s.edgeKept (8 + i) falling cc).tinCtrl F.CH.CH_CTRL_TS_EDGES (8 + i) / (if falling then 2 else 1) % 2 = 1 then
        match (if (s.edgeKept (8 + i) falling cc).chStamps (8 + i) then some ((s.edgeKept (8 + i) falling cc).tinStamp (8 + i) cc tap) else none) with
        | some p => (s.edgeKept (8 + i) falling cc).tinResult (8 + i) 0 0 ((s.edgeKept (8 + i) falling cc).stampTime p) none
        | none => s.edgeKept (8 + i) falling cc
      else s.edgeKept (8 + i) falling cc) i falling cc
      (if (s.edgeKept (8 + i) falling cc).chStamps (8 + i) then some ((s.edgeKept (8 + i) falling cc).tinStamp (8 + i) cc tap) else none) := by
    rw [State.tinEdge, if_pos on, accept]
    rfl
  rw [edge, if_pos stamps']
  rfl

end

/-! ### The interval channels (R175) -/

/-- An edge at one interval channel. -/
def State.tinUser (src : Nat) (falling : Bool) (cc : Nat) (p : Option Int) (s : State) (c : Nat) : State :=
  if s.tinCtrl F.CH.CH_CTRL_EN c = 1 ∧ s.tinCtrl F.CH.CH_CTRL_MODE c = 1 then
    let isStart := s.tinCtrl F.CH.CH_CTRL_START_SRC c == src && (decide (8 ≤ src) || s.tinCtrl F.CH.CH_CTRL_START_EDGE c == bit falling)
    let isStop := s.tinCtrl F.CH.CH_CTRL_STOP_SRC c == src && s.tinCtrl F.CH.CH_CTRL_STOP_EDGE c == bit falling
    let byStart := match (s.ch c).meas with
      | some m => m.byStart
      | none => true
    if isStart && (byStart || !isStop) then s.tinInterval c cc p true
    else if isStop then s.tinInterval c cc p false
    else s
  else s

theorem State.tinUsers_eq (src : Nat) (p : Option Int) : s.tinUsers src falling cc p = s.each [8, 9, 10, 11] (State.tinUser src falling cc p) := rfl

theorem State.tinUser_idle (src : Nat) (p : Option Int) (c : Nat) (idle : s.tinCtrl F.CH.CH_CTRL_EN c ≠ 1 ∨ s.tinCtrl F.CH.CH_CTRL_MODE c ≠ 1) :
    State.tinUser src falling cc p s c = s := if_neg fun ⟨en, mode⟩ => idle.elim (absurd en) (absurd mode)

theorem State.each_cons {α : Type} (s : State) (a : α) (l : List α) (f : State → α → State) : s.each (a :: l) f = (f s a).each l f := rfl

/-- Where one step alone does something, the whole is that step. -/
theorem State.each_only {α : Type} (l : List α) (distinct : l.Nodup) (f : State → α → State) (a : α) (mem : a ∈ l) (s : State) (before : ∀ b ∈ l, b ≠ a → f s b = s)
    (after : ∀ b ∈ l, b ≠ a → f (f s a) b = f s a) : s.each l f = f s a := by
  have rests (m : List α) (u : State) (idle : ∀ b ∈ m, f u b = u) : u.each m f = u := by
    induction m with
    | nil => rfl
    | cons b m ih =>
      rw [State.each_cons, idle b List.mem_cons_self]
      exact ih fun b mem => idle b (List.mem_cons_of_mem _ mem)
  induction l with
  | nil => cases mem
  | cons b l ih =>
    obtain ⟨fresh, distinct⟩ := List.nodup_cons.1 distinct
    rw [State.each_cons]
    obtain rfl | later := List.mem_cons.1 mem
    · exact rests l _ fun b mem => after b (List.mem_cons_of_mem _ mem) fun h => fresh (h ▸ mem)
    · rw [before b List.mem_cons_self fun h => fresh (h ▸ later)]
      exact ih distinct later (fun b mem => before b (List.mem_cons_of_mem _ mem)) (fun b mem => after b (List.mem_cons_of_mem _ mem))

theorem mem_timers (c : Nat) (mem : c ∈ [8, 9, 10, 11]) : ∃ k : Fin 4, 8 + k.val = c := by
  simp only [List.mem_cons, List.not_mem_nil, or_false] at mem
  obtain rfl | rfl | rfl | rfl := mem
  exacts [⟨0, rfl⟩, ⟨1, rfl⟩, ⟨2, rfl⟩, ⟨3, rfl⟩]

theorem timer_mem (k : Fin 4) : 8 + k.val ∈ [8, 9, 10, 11] := by
  have all : ∀ k : Fin 4, 8 + k.val ∈ [8, 9, 10, 11] := by decide
  exact all k

/-- Only channel `c` is enabled: the edge is its own. -/
theorem State.tinUsers_only (src : Nat) (p : Option Int) (c : Fin 4) (before : ∀ k : Fin 4, k ≠ c → s.tinCtrl F.CH.CH_CTRL_EN (8 + k) = 0)
    (after : ∀ k : Fin 4, k ≠ c → (State.tinUser src falling cc p s (8 + c)).tinCtrl F.CH.CH_CTRL_EN (8 + k) = 0) :
    s.tinUsers src falling cc p = State.tinUser src falling cc p s (8 + c) := by
  refine State.each_only [8, 9, 10, 11] (by decide) (State.tinUser src falling cc p) (8 + c) (timer_mem c) s (fun d mem other => ?_) (fun d mem other => ?_)
  · obtain ⟨k, rfl⟩ := mem_timers d mem
    exact s.tinUser_idle falling cc src p _ (.inl (by rw [before k fun h => other (by rw [h])]; decide))
  · obtain ⟨k, rfl⟩ := mem_timers d mem
    exact State.tinUser_idle _ falling cc src p _ (.inl (by rw [after k fun h => other (by rw [h])]; decide))

/-- No channel measures intervals. -/
theorem State.tinUsers_none (src : Nat) (p : Option Int) (modes : ∀ k : Fin 4, s.tinCtrl F.CH.CH_CTRL_MODE (8 + k) = 0) : s.tinUsers src falling cc p = s := by
  have idle (d : Nat) (mem : d ∈ [8, 9, 10, 11]) : State.tinUser src falling cc p s d = s := by
    obtain ⟨k, rfl⟩ := mem_timers d mem
    exact s.tinUser_idle falling cc src p _ (.inr (by rw [modes k]; decide))
  exact (State.each_only [8, 9, 10, 11] (by decide) _ 8 (by decide) s (fun d mem _ => idle d mem)
    (fun d mem _ => by rw [idle 8 (by decide)]; exact idle d mem)).trans (idle 8 (by decide))

theorem State.stamps_not (c : Fin 4) (mode : s.tinCtrl F.CH.CH_CTRL_MODE (8 + c) = 1) (others : ∀ k : Fin 4, k ≠ c → s.tinCtrl F.CH.CH_CTRL_EN (8 + k) = 0) :
    ¬ (s.tinCtrl F.CH.CH_CTRL_EN (8 + i) = 1 ∧ s.tinCtrl F.CH.CH_CTRL_MODE (8 + i) = 0 ∧ s.tinCtrl F.CH.CH_CTRL_TS_EDGES (8 + i) / (if falling then 2 else 1) % 2 = 1) := by
  rintro ⟨en, still, -⟩
  obtain rfl | other := Decidable.em (i = c)
  · omega
  · have := others i other
    omega

theorem State.edgeKept_meas (n c : Nat) : ((s.edgeKept n falling cc).ch c).meas = (s.ch c).meas ∧ ((s.edgeKept n falling cc).ch c).idleFrom = (s.ch c).idleFrom := by
  rw [State.edgeKept, State.ch_setCh]
  split
  next same =>
    rw [same]
    cases falling <;> exact ⟨rfl, rfl⟩
  · exact ⟨rfl, rfl⟩

/-- An edge that starts a measurement. -/
theorem State.tinUser_starts (src : Nat) (p : Int) (c : Nat) (en : s.tinCtrl F.CH.CH_CTRL_EN c = 1) (mode : s.tinCtrl F.CH.CH_CTRL_MODE c = 1)
    (source : s.tinCtrl F.CH.CH_CTRL_START_SRC c = src) (edge : s.tinCtrl F.CH.CH_CTRL_START_EDGE c = bit falling) (idle : (s.ch c).meas = none) (ready : (s.ch c).idleFrom ≤ cc) :
    State.tinUser src falling cc (some p) s c = s.setCh c { s.ch c with meas := some ⟨true, p, cc, s.stampTime p / 65536, s.stampTime p % 65536⟩ } := by
  have expired : s.tinExpired c cc = s := by rw [State.tinExpired, idle]
  unfold State.tinUser
  dsimp only
  rw [if_pos ⟨en, mode⟩, source, edge, idle, if_pos (by simp), State.tinInterval_eq, expired, State.tinTaken, idle]
  dsimp only
  rw [if_neg (by omega)]
  rfl

/-- An edge that stops a measurement. -/
theorem State.tinUser_stops (src : Nat) (p : Int) (c : Nat) (m : OpenMeas) (start : m.byStart = true) (en : s.tinCtrl F.CH.CH_CTRL_EN c = 1)
    (mode : s.tinCtrl F.CH.CH_CTRL_MODE c = 1) (other : s.tinCtrl F.CH.CH_CTRL_START_SRC c ≠ src) (source : s.tinCtrl F.CH.CH_CTRL_STOP_SRC c = src)
    (edge : s.tinCtrl F.CH.CH_CTRL_STOP_EDGE c = bit falling) (open_ : (s.ch c).meas = some m) (inTime : cc < m.cc + s.chTimeout c) :
    State.tinUser src falling cc (some p) s c = s.tinClose c m cc p := by
  have expired : s.tinExpired c cc = s := by rw [State.tinExpired, open_]; exact if_neg (by omega)
  unfold State.tinUser
  dsimp only
  rw [if_pos ⟨en, mode⟩, beq_false_of_ne other, source, edge, if_neg (by simp), if_pos (by simp), State.tinInterval_eq, expired, State.tinTaken, open_]
  dsimp only
  rw [start]
  rfl

/-- What a channel's control word in force rests on. -/
theorem State.tinCtrl_congr {s t : State} (f : Nat → Fld) (c : Nat) (held : spGet (fun _ => none) t.heldRegs (heldKey (16 + c) (f c).addr) = spGet (fun _ => none) s.heldRegs (heldKey (16 + c) (f c).addr))
    (word : t.rd (f c).addr = s.rd (f c).addr) : t.tinCtrl f c = s.tinCtrl f c := by
  rw [State.tinCtrl, State.getAt, State.rdAt, held, word]
  rfl

theorem State.heldRegs_raise (n j d : Nat) : (s.raise n j d).heldRegs = s.heldRegs := by rw [Answering.raise s n j d]

theorem State.heldRegs_showQueue (c : Nat) : (s.showQueue c).heldRegs = s.heldRegs := by
  unfold State.showQueue
  dsimp only
  split <;> rfl

theorem State.heldRegs_tinQueued (c flags : Nat) (interval : Int) (tOpen : Nat) : (s.tinQueued c flags interval tOpen).heldRegs = s.heldRegs := by
  unfold State.tinQueued
  dsimp only
  split
  · split
    · exact State.heldRegs_showQueue _ c
    · split
      · rfl
      · exact State.heldRegs_raise _ _ _ _
  · rfl

theorem State.heldRegs_tinResult (c flags : Nat) (interval : Int) (tOpen : Nat) (tClose : Option Nat) : (s.tinResult c flags interval tOpen tClose).heldRegs = s.heldRegs := by
  rw [State.tinResult_eq, State.heldRegs_tinQueued]
  simp only [State.tinWords, State.publish_heldRegs, State.set_heldRegs, State.setI_heldRegs]

theorem State.heldRegs_endMeasure (c key : Nat) (away : key / 2 ^ 32 ≠ 16 + c) : spGet (fun _ => none) (s.endMeasure c cc).heldRegs key = spGet (fun _ => none) s.heldRegs key :=
  (spGet_spKeep (fun _ => none) (fun k => k / 2 ^ 32 != 16 + c) s.heldRegs key).trans (if_pos (bne_iff_ne.2 away))

theorem State.tinResult_ctrl (c k : Fin 4) (flags : Nat) (interval : Int) (tOpen : Nat) (tClose : Option Nat) (f : Nat → Fld) (ctrl : (f (8 + k)).addr = 0x41000 + 0x200 * (8 + k.val)) :
    (s.tinResult (8 + c) flags interval tOpen tClose).rd (f (8 + k)).addr = s.rd (f (8 + k)).addr := by
  rw [State.tinResult_eq, State.tinQueued_rd _ _ _ _ _ _ (by rw [ctrl]; omega) (eventWords_timer _ (by omega) (by omega)), State.tinWords_rd _ _ _ _ _ _ _ (by rw [ctrl]; omega)]

/-- A result leaves the control words in force. -/
theorem State.tinCtrl_tinResult (c k : Fin 4) (flags : Nat) (interval : Int) (tOpen : Nat) (tClose : Option Nat) (f : Nat → Fld) (ctrl : (f (8 + k)).addr = 0x41000 + 0x200 * (8 + k.val)) :
    (s.tinResult (8 + c) flags interval tOpen tClose).tinCtrl f (8 + k) = s.tinCtrl f (8 + k) :=
  State.tinCtrl_congr f _ (by rw [State.heldRegs_tinResult]) (s.tinResult_ctrl c k _ _ _ _ f ctrl)

/-- The end of a measurement lets go of its own channel's words alone. -/
theorem State.tinCtrl_tinClose (c k : Fin 4) (other : k ≠ c) (m : OpenMeas) (p : Int) (f : Nat → Fld) (ctrl : (f (8 + k)).addr = 0x41000 + 0x200 * (8 + k.val)) :
    (s.tinClose (8 + c) m cc p).tinCtrl f (8 + k) = s.tinCtrl f (8 + k) := by
  have away : heldKey (16 + (8 + k.val)) (f (8 + k)).addr / 2 ^ 32 ≠ 16 + (8 + c.val) := by
    have apart : k.val ≠ c.val := fun h => other (Fin.ext h)
    rw [ctrl]
    unfold heldKey
    omega
  unfold State.tinClose
  dsimp only
  refine State.tinCtrl_congr f _ ?_ (s.tinResult_ctrl c k _ _ _ _ f ctrl)
  exact (State.heldRegs_endMeasure _ cc (8 + c.val) _ away).trans (by rw [State.heldRegs_tinResult])

end

/-! ### The queue (R176) -/

section
variable (u : State) (c : Fin 12)

theorem State.wrCh_qPop : u.wrCh (0x41094 + 0x200 * c.val) 1 = u.qPop c 1 := by
  have channel : (0x41094 + 0x200 * c.val - 0x41000) / 0x200 = c.val := by omega
  unfold State.wrCh
  dsimp only
  iterate 4 rw [if_neg (by omega)]
  rw [if_pos (by omega), channel]

theorem plainWord_qPop : plainWord (0x41094 + 0x200 * c.val) := by
  refine ⟨if_neg ?_, if_neg ?_, if_neg ?_⟩ <;> omega

/-- A Q_POP, as far as it is taken. -/
theorem qPopWrite_pops (via : Port) (seq : BitVec 16) {h : State → Prop} {e : State → State → Prop} (effect : ∀ u, h u → e u (u.qPop c 1)) :
    Writes (.qPopWrite via seq c) (0x41094 + 0x200 * c.val) 1 h e := by
  have one := oneBlock_channel c 37 1 (by decide) (by decide)
  have place : 0x41000 + 0x200 * c.val + 4 * 37 = 0x41094 + 0x200 * c.val := by omega
  rw [place] at one
  refine .of_word rfl (by omega) (by omega) one (by simp [lockedWord]; omega) (fun u _ => u.writeRefused_other _ _ (by simp; omega)) (plainWord_qPop c) fun u noStep hu => ?_
  rw [u.hostStore_channel _ _ noStep (by omega) (by omega), u.wrCh_qPop c]
  exact effect u hu

theorem State.qPop_none (idle : c.val < 8 ∨ (u.ch c).queue = []) : u.qPop c 1 = u :=
  if_neg fun ⟨timer, _, queued⟩ => idle.elim (fun pick => by omega) queued

theorem State.showQueue_rx (s : State) (c : Nat) : (s.showQueue c).rx = s.rx := by
  unfold State.showQueue
  dsimp only
  split <;> rfl

theorem State.showQueue_regsOnly (s : State) (c : Nat) : s.showQueue c = { s with regs := (s.showQueue c).regs } := by
  unfold State.showQueue
  dsimp only
  split <;> rfl

theorem State.showQueue_count (s : State) (c : Nat) : (s.showQueue c).get (F.CH.Q_STAT_COUNT c) = (s.ch c).queue.length % 128 := by
  have count : (s.set (F.CH.Q_STAT_COUNT c) (s.ch c).queue.length).get (F.CH.Q_STAT_COUNT c) = (s.ch c).queue.length % 128 := State.get_set_same _ _ _ rfl
  unfold State.showQueue
  dsimp only
  split
  · exact count
  · rw [State.get_set_addr _ _ _ _ (by simp [F.CH.Q_STAT_COUNT, F.CH.T_HI]), State.get_set_addr _ _ _ _ (by simp [F.CH.Q_STAT_COUNT, F.CH.T_LO]), State.setI,
      State.get_set_addr _ _ _ _ (by simp [F.CH.Q_STAT_COUNT, F.CH.Q_HEAD1_INTERVAL]), State.get_set_addr _ _ _ _ (by simp [F.CH.Q_STAT_COUNT, F.CH.Q_HEAD0_FLAGS]),
      State.get_set_addr _ _ _ _ (by simp [F.CH.Q_STAT_COUNT, F.CH.Q_HEAD0_FRAC]), count]

/-- The oldest entry leaves. -/
def State.popped (u : State) (c : Nat) : State := u.setCh c { u.ch c with queue := (u.ch c).queue.drop 1, dropped := false }

theorem State.popped_ch (u : State) (c : Nat) : (u.popped c).ch c = { u.ch c with queue := (u.ch c).queue.drop 1, dropped := false } := (u.ch_setCh c c _).trans (if_pos rfl)

theorem State.qPop_some (timer : 8 ≤ c.val) (some : (u.ch c).queue ≠ []) : u.qPop c 1 = (u.popped c).showQueue c := if_pos ⟨timer, rfl, some⟩

end

/-- Settles O34: an edge is held off, stamps, opens or closes a measurement; the end of a measurement by its words; and the queue's oldest entry. -/
theorem intervalChannels : Obligations.IntervalChannels := by
  unfold Obligations.IntervalChannels
  refine ⟨fun i falling cc tap => ⟨?held, ?off, ?stamp, fun c => ?starts, fun c m start => ?stops⟩, fun s c m cc p start inTime far => s.tinClose_view c m cc p start inTime far,
    fun c m => .of_effect (fun _ => rfl) fun s open_ => s.tinTimeout_view c m open_, fun c => ?idle, fun via seq c => ?noPop, fun via seq c timer => ?pop⟩
  case held => exact .of_effect (fun _ => rfl) fun s ⟨on, k, last, close⟩ => s.tinEdge_held i falling cc tap on k last close
  case off => exact .of_effect (fun _ => rfl) fun s off => if_neg (by simp [off])
  case stamp =>
    refine .of_effect (fun _ => rfl) fun s ⟨on, fresh, stamps, en, mode, edges, modes⟩ => ?_
    have unseen (k : Fin 4) : ((s.edgeKept (8 + i) falling cc).tinResult (8 + i) 0 0 (s.stampTime (s.tinStamp (8 + i) cc tap)) none).tinCtrl F.CH.CH_CTRL_MODE (8 + k) = 0 :=
      (State.tinCtrl_tinResult _ i k 0 0 _ none F.CH.CH_CTRL_MODE rfl).trans (modes k)
    refine ⟨s.edgeKept (8 + i) falling cc, ?_, rfl, (s.ch_setCh _ _ _).trans (if_pos rfl)⟩
    rw [s.tinEdge_fresh i falling cc tap on fresh stamps, if_pos ⟨en, mode, edges⟩]
    exact State.tinUsers_none _ falling cc i _ unseen
  case starts =>
    refine .of_effect (fun _ => rfl) fun s ⟨on, fresh, stamps, en, mode, others, source, edge, idle, ready⟩ => ?_
    rw [s.tinEdge_fresh i falling cc tap on fresh stamps, if_neg (s.stamps_not i falling c mode others)]
    have meas : ((s.edgeKept (8 + i) falling cc).ch (8 + c)).meas = none := (s.edgeKept_meas falling cc (8 + i) (8 + c)).1.trans idle
    have from_ : ((s.edgeKept (8 + i) falling cc).ch (8 + c)).idleFrom ≤ cc := by rw [(s.edgeKept_meas falling cc (8 + i) (8 + c)).2]; exact ready
    have started := (s.edgeKept (8 + i) falling cc).tinUser_starts falling cc i (s.tinStamp (8 + i) cc tap) (8 + c) en mode source edge meas from_
    rw [(s.edgeKept (8 + i) falling cc).tinUsers_only falling cc i (s.tinStamp (8 + i) cc tap) c others fun k other => by rw [started]; exact others k other, started]
    exact ⟨congrArg ChSt.meas ((State.ch_setCh _ _ _ _).trans (if_pos rfl)), rfl⟩
  case stops =>
    refine .of_effect (fun _ => rfl) fun s ⟨on, fresh, stamps, en, mode, others, other, source, edge, open_, inTime⟩ => ?_
    rw [s.tinEdge_fresh i falling cc tap on fresh stamps, if_neg (s.stamps_not i falling c mode others)]
    have meas : ((s.edgeKept (8 + i) falling cc).ch (8 + c)).meas = some m := (s.edgeKept_meas falling cc (8 + i) (8 + c)).1.trans open_
    have stopped := (s.edgeKept (8 + i) falling cc).tinUser_stops falling cc i (s.tinStamp (8 + i) cc tap) (8 + c) m start en mode other source edge meas inTime
    refine ⟨s.edgeKept (8 + i) falling cc, ?_, rfl⟩
    rw [(s.edgeKept (8 + i) falling cc).tinUsers_only falling cc i (s.tinStamp (8 + i) cc tap) c others fun k other => by
      rw [stopped, State.tinCtrl_tinClose _ cc c k other m _ F.CH.CH_CTRL_EN rfl]
      exact others k other, stopped]
    rfl
  case idle => exact .of_effect (fun _ => rfl) fun s idle => by rw [Nothing, State.tinTimeout, idle]
  case noPop => exact qPopWrite_pops c via seq fun u idle => u.qPop_none c idle
  case pop =>
    refine qPopWrite_pops c via seq fun u some => ?_
    rw [u.qPop_some c timer some, State.ch, State.showQueue_rx, State.showQueue_count, u.popped_ch, ← State.ch, u.popped_ch]
    refine ⟨rfl, by rw [List.length_drop], ?_⟩
    rw [State.showQueue_regsOnly]
    rfl

end Sys2Proof.Machine
end

section
/-! PROOFS. The loops: what their operations leave of the other loops, of the modes and of the device's words (chapter 5). -/
namespace Sys2Proof.Machine

/-! ### Words of the device below the link blocks -/

/-- The words from the emitters to the vision blocks, `own` apart, stay as they are. -/
def DevWords (own : Nat → Prop) (s t : State) : Prop := ∀ a, 0x20000 ≤ a → a < 0x4000000 → ¬ own a → t.rd a = s.rd a

namespace DevWords
variable {own : Nat → Prop} {s t u : State}

theorem refl (s : State) : DevWords own s s := fun _ _ _ _ => rfl

theorem trans (first : DevWords own s t) (second : DevWords own t u) : DevWords own s u :=
  fun a low high other => (second a low high other).trans (first a low high other)

theorem of_regs (regs : t.regs = s.regs) : DevWords own s t := fun a _ _ _ => State.rd_congr regs a

theorem mono {own' : Nat → Prop} (sub : ∀ a, own a → own' a) (h : DevWords own s t) : DevWords own' s t :=
  fun a low high other => h a low high fun mine => other (sub a mine)

theorem set (s : State) (f : Fld) (x : Nat) (mine : own f.addr) : DevWords own s (s.set f x) :=
  fun a _ _ other => s.rd_set_ne f x a fun same => other (same ▸ mine)

theorem setFar (s : State) (f : Fld) (x : Nat) (far : f.addr < 0x20000 ∨ 0x4000000 ≤ f.addr) : DevWords own s (s.set f x) :=
  fun a low high _ => s.rd_set_ne f x a (by omega)

theorem raise (s : State) (n i d : Nat) (known : n < 256) : DevWords own s (s.raise n i d) :=
  fun a low high _ => s.rd_raise_device n i d a known low (by omega)

theorem each {α : Type} (l : List α) (f : State → α → State) (step : ∀ u, ∀ a ∈ l, DevWords own u (f u a)) (s : State) : DevWords own s (s.each l f) := by
  induction l generalizing s with
  | nil => exact .refl s
  | cons a l ih => exact (step s a List.mem_cons_self).trans (ih (fun u b mem => step u b (List.mem_cons_of_mem _ mem)) _)

theorem when (b : Bool) {f : State → State} (h : ∀ u, DevWords own u (f u)) (s : State) : DevWords own s (s.when b f) := by
  cases b
  · exact .refl s
  · exact h s

theorem get (h : DevWords own s t) (f : Fld) (low : 0x20000 ≤ f.addr) (high : f.addr < 0x4000000) (other : ¬ own f.addr) : t.get f = s.get f := by
  rw [State.get, h _ low high other]; rfl

theorem setSession (s : State) (p : Port) (x : Session) : DevWords own s (s.setSession p x) := by cases p <;> exact .of_regs rfl

theorem sendOn (s : State) (p : Port) (b : List Byte) : DevWords own s (s.sendOn p b) := by
  cases p with
  | spi => exact .of_regs rfl
  | udp q => exact (setFar s _ _ (.inr (by decide))).trans (.of_regs rfl)
  | oazil => exact .of_regs rfl

theorem sendReply (s : State) (p : Port) (op : Nat) (seq : BitVec 16) (a : Answer) (kept : AnsState) : DevWords own s (s.sendReply p op seq a kept) := by
  have sent (u : State) : DevWords own u (u.when (u.transportUp p) (fun s => s.sendOn p (replyPacket p op seq a))) := when _ (fun u => sendOn u _ _) u
  unfold State.sendReply
  dsimp only
  split
  · refine DevWords.trans ?_ (setFar _ _ _ (.inl (by decide)))
    refine DevWords.trans ?_ (sent _)
    refine DevWords.trans ?_ (of_regs (s := State.when _ _ _) rfl)
    exact (setSession _ _ _).trans (sent _)
  · exact (setSession _ _ _).trans (sent _)

theorem answerLater (s : State) (op tag st d : Nat) (b : List Byte) : DevWords own s (s.answerLater op tag st d b) := by
  unfold State.answerLater
  dsimp only
  refine DevWords.trans ?_ (each _ _ (fun u r _ => sendReply u _ _ _ _ _) _)
  exact .of_regs rfl

theorem complete (s : State) (op st d : Nat) (b : List Byte) : DevWords own s (s.complete op st d b) := by
  unfold State.complete
  split
  · exact .refl s
  · refine DevWords.trans ?_ (raise _ _ _ _ (by decide))
    refine DevWords.trans ?_ (when _ (fun u => sendOn u _ _) _)
    refine DevWords.trans ?_ (setSession _ _ _)
    exact .of_regs rfl

end DevWords

theorem Answering.answerLater (s : State) (op tag st d : Nat) (b : List Byte) : Answering s (s.answerLater op tag st d b) := by
  have rest (u : State) (l : List Running) : Answering u { u with cmd := { u.cmd with deferred := l } } := rfl
  exact (rest s _).trans (.each _ _ (fun u r => .sendReply u _ _ _ _ _) _)

/-! ### Loop records and modes -/

theorem State.loop_setLoop (s : State) (n k : Nat) (x : LoopSt) : (s.setLoop n x).loop k = if k = n then x else s.loop k := spGet_spSet _ _ _ _ _

theorem State.loop_congr {s t : State} (same : t.eng = s.eng) (k : Nat) : t.loop k = s.loop k := by rw [State.loop, same]; rfl

/-- Outside the words of LOOP_CTRL and LOOP_RATE. -/
def offCtrl (a : Nat) : Prop := a % 0x400 ≠ 0 ∧ a % 0x400 ≠ 4

/-- LOOP_CTRL and LOOP_RATE of every loop stay as they are. -/
abbrev CtrlKept (s t : State) : Prop := DevWords offCtrl s t

theorem offCtrl_ctrl (k : Nat) : ¬ offCtrl (0x30000 + 0x400 * k) := by simp only [offCtrl]; omega

theorem offCtrl_rate (k : Nat) : ¬ offCtrl (0x30004 + 0x400 * k) := by simp only [offCtrl]; omega

theorem CtrlKept.mode {s t : State} (h : CtrlKept s t) (k : Nat) (few : k < 8) : t.mode k = s.mode k :=
  h.get (F.LOOP.LOOP_CTRL_MODE k) (by simp only [F.LOOP.LOOP_CTRL_MODE]; omega) (by simp only [F.LOOP.LOOP_CTRL_MODE]; omega) (offCtrl_ctrl k)

theorem CtrlKept.dest {s t : State} (h : CtrlKept s t) : t.get (F.LOOP.LOOP_RATE_DEST 5) = s.get (F.LOOP.LOOP_RATE_DEST 5) :=
  h.get (F.LOOP.LOOP_RATE_DEST 5) (by decide) (by decide) (offCtrl_rate 5)

theorem State.outerOf_congr {s t : State} (same : t.get (F.LOOP.LOOP_RATE_DEST 5) = s.get (F.LOOP.LOOP_RATE_DEST 5)) (n : Nat) : t.outerOf n = s.outerOf n := by
  rw [State.outerOf, State.outerOf, same]

theorem State.innerOf_congr {s t : State} (same : t.get (F.LOOP.LOOP_RATE_DEST 5) = s.get (F.LOOP.LOOP_RATE_DEST 5)) (n : Nat) : t.innerOf n = s.innerOf n := by
  rw [State.innerOf, State.innerOf, same]

theorem CtrlKept.loopWord (s : State) (n o lo wd x : Nat) (ctrl : o < 0x400 ∧ o ≠ 0 ∧ o ≠ 4) : CtrlKept s (s.set ⟨0x30000 + o + 0x400 * n, lo, wd⟩ x) :=
  .set s _ x (by simp only [offCtrl]; omega)

theorem CtrlKept.setLoop (s : State) (n : Nat) (x : LoopSt) : CtrlKept s (s.setLoop n x) := .of_regs rfl

/-! ### A swap -/

section
variable (s : State) (n : Nat)

theorem CtrlKept.iclamp : CtrlKept s (s.iclamp n) := by
  unfold State.iclamp
  split
  · exact .refl s
  · exact (CtrlKept.loopWord s n 0x1C 1 1 1 (by decide)).trans (.raise _ _ _ _ (by decide))

theorem CtrlKept.rescale (e df u : Int) : CtrlKept s (s.rescale n e df u) := by
  unfold State.rescale
  dsimp only
  split
  · exact (CtrlKept.setLoop s n _).trans (CtrlKept.iclamp _ n)
  · exact CtrlKept.setLoop s n _

theorem CtrlKept.copyBank (few : n < 8) : CtrlKept s (s.copyBank n) := by
  unfold State.copyBank
  dsimp only
  refine DevWords.trans (.each _ _ (fun u i mem => .set u _ _ ?_) s) ((CtrlKept.loopWord _ n 0x1C 3 1 0 (by decide)).trans (.set _ _ _ ?_))
  · have := List.mem_range.1 mem
    simp only [offCtrl, F.LOOP.ACT]; omega
  · simp only [offCtrl, F.LOOP.SWAPS]; omega

theorem CtrlKept.swapNow (few : n < 8) : CtrlKept s (s.swapNow n) := by
  unfold State.swapNow
  dsimp only
  split
  · exact .refl s
  · refine DevWords.trans ?_ (.answerLater _ _ _ _ _ _)
    split
    · exact (CtrlKept.loopWord s n 0x1C 3 1 0 (by decide)).trans (CtrlKept.loopWord _ n 0x1C 7 1 1 (by decide))
    · split
      · exact (CtrlKept.copyBank s n few).trans (CtrlKept.rescale _ n _ _ _)
      · exact CtrlKept.copyBank s n few

theorem Answering.copyBank : Answering s (s.copyBank n) :=
  ((Answering.each _ _ (fun u _ => .set u _ _) s).trans (.set _ _ _)).trans (.inc _ _)

/-- Outside CLOSED a swap leaves the loop records. -/
theorem State.swapNow_eng (few : n < 8) (other : s.mode n ≠ 2) : (s.swapNow n).eng = s.eng := by
  unfold State.swapNow
  dsimp only
  split
  · rfl
  · rw [(Answering.answerLater _ _ _ _ _ _).eng_eq]
    split
    · rfl
    · rw [if_neg (by rw [(CtrlKept.copyBank s n few).mode n few]; exact other), (Answering.copyBank s n).eng_eq]

theorem State.iclamp_eng : (s.iclamp n).eng = s.eng := by
  unfold State.iclamp
  split
  · rfl
  · exact (Answering.raise _ _ _ _).eng_eq

/-- Rescaling sets the integrator alone. -/
theorem State.loop_rescale (e df u : Int) (k : Nat) : ((s.rescale n e df u).loop k).out = (s.loop k).out ∧ (k ≠ n → (s.rescale n e df u).loop k = s.loop k) := by
  have same (t : State) (y : Int) (h : t.eng = (s.setLoop n { s.loop n with integ := y }).eng) : (t.loop k).out = (s.loop k).out ∧ (k ≠ n → t.loop k = s.loop k) := by
    rw [State.loop_congr h, s.loop_setLoop]
    split
    next here => subst here; exact ⟨rfl, fun other => absurd rfl other⟩
    · exact ⟨rfl, fun _ => rfl⟩
  unfold State.rescale
  dsimp only
  split
  · exact same _ _ (State.iclamp_eng _ n)
  · exact same _ _ rfl

end

/-! ### Modes -/

/-- Loop `n` is in mode `m`; the modes and records of the other loops and the cascade stay. -/
structure Moded (n m : Nat) (s t : State) : Prop where
  mode : t.mode n = m
  modes : ∀ k < 8, k ≠ n → t.mode k = s.mode k
  dest : t.get (F.LOOP.LOOP_RATE_DEST 5) = s.get (F.LOOP.LOOP_RATE_DEST 5)
  loops : ∀ k, k ≠ n → t.loop k = s.loop k

theorem Moded.kept {n m : Nat} {s t u : State} (h : Moded n m s t) (few : n < 8) (words : CtrlKept t u) (loops : ∀ k, k ≠ n → u.loop k = t.loop k) : Moded n m s u :=
  ⟨(words.mode n few).trans h.mode, fun k small other => (words.mode k small).trans (h.modes k small other), words.dest.trans h.dest,
    fun k other => (loops k other).trans (h.loops k other)⟩

theorem Moded.setMode (s : State) (n m : Nat) (known : m < 4) (x : LoopSt) : Moded n m s ((s.setLoop n x).set (F.LOOP.LOOP_CTRL_MODE n) m) := by
  refine ⟨?_, fun k small other => ?_, ?_, fun k other => ?_⟩
  · exact (State.get_set_same _ _ _ rfl).trans (Nat.mod_eq_of_lt known)
  · exact State.get_set_addr _ _ _ _ (by simp only [F.LOOP.LOOP_CTRL_MODE]; omega)
  · exact State.get_set_addr _ _ _ _ (by simp only [F.LOOP.LOOP_CTRL_MODE, F.LOOP.LOOP_RATE_DEST]; omega)
  · exact (s.loop_setLoop n k x).trans (if_neg other)

section
variable (s : State) (n : Nat) (few : n < 8)
include few

theorem State.loopToOff_moded : Moded n 0 s (s.loopToOff n) ∧ ((s.loopToOff n).loop n).out = loopOffValue n ∧ ((s.loopToOff n).loop n).integ = 0 := by
  have first := Moded.setMode s n 0 (by decide) { (s.loop n).freshWindows with integ := 0, df := 0, out := loopOffValue n, inBand := 0, holdPend := false, forced := false }
  have second := first.kept few ((CtrlKept.loopWord _ n 0x1C 0 1 0 (by decide)).trans (CtrlKept.loopWord _ n 0x1C 2 1 0 (by decide))) (fun _ _ => rfl)
  have eng := State.swapNow_eng _ n few (by rw [second.mode]; decide)
  refine ⟨second.kept few (CtrlKept.swapNow _ n few) fun k _ => State.loop_congr eng k, ?_⟩
  have here := (State.loop_congr eng n).trans ((s.loop_setLoop n n _).trans (if_pos rfl))
  exact ⟨congrArg LoopSt.out here, congrArg LoopSt.integ here⟩

theorem State.loopToRamp_moded (m : Nat) (ramp : m = 1 ∨ m = 3) : Moded n m s (s.loopToRamp n m) ∧ ((s.loopToRamp n m).loop n).out = s.present n := by
  have first := Moded.setMode s n m (by omega) { (s.loop n).freshWindows with out := s.present n, inBand := 0, holdPend := false }
  have second := first.kept few (CtrlKept.loopWord _ n 0x1C 0 1 0 (by decide)) (fun _ _ => rfl)
  have eng := State.swapNow_eng _ n few (by rw [second.mode]; omega)
  refine ⟨second.kept few (CtrlKept.swapNow _ n few) fun k _ => State.loop_congr eng k, ?_⟩
  exact congrArg LoopSt.out ((State.loop_congr eng n).trans ((s.loop_setLoop n n _).trans (if_pos rfl)))

theorem State.loopToClosed_moded (other : s.mode n ≠ 2) : Moded n 2 s (s.loopToClosed n) ∧ ((s.loopToClosed n).loop n).out = (s.loop n).out := by
  unfold State.loopToClosed
  dsimp only
  have swap : CtrlKept s (s.swapNow n) := CtrlKept.swapNow s n few
  have eng := s.swapNow_eng n few other
  have first (x : LoopSt) : Moded n 2 s (((s.swapNow n).setLoop n x).set (F.LOOP.LOOP_CTRL_MODE n) 2) := by
    have moded := Moded.setMode (s.swapNow n) n 2 (by decide) x
    exact ⟨moded.mode, fun k small ne => (moded.modes k small ne).trans (swap.mode k small), moded.dest.trans swap.dest,
      fun k ne => (moded.loops k ne).trans (State.loop_congr eng k)⟩
  have rescaled (t : State) (e df u : Int) := t.loop_rescale n e df u
  refine ⟨(first _).kept few (CtrlKept.rescale _ n _ _ _) fun k ne => (rescaled _ _ _ _ k).2 ne, ((rescaled _ _ _ _ n).1).trans ?_⟩
  have here (x : LoopSt) : (((s.swapNow n).setLoop n x).set (F.LOOP.LOOP_CTRL_MODE n) 2).loop n = x := (State.loop_setLoop _ n n x).trans (if_pos rfl)
  rw [here]
  have out : ((s.swapNow n).loop n).out = (s.loop n).out := by rw [State.loop_congr eng n]
  exact out

end

theorem State.outerOf_other {s : State} {n o : Nat} (h : s.outerOf n = some o) : o ≠ n ∧ o < 8 := by
  unfold State.outerOf at h
  split at h
  · cases h; omega
  · split at h
    · cases h; omega
    · split at h
      · cases h; omega
      · cases h

/-- The outer loop follows; the loop itself stays as it is. -/
theorem State.holdOuter_moded (s : State) (n : Nat) (few : n < 8) : (s.holdOuter n).mode n = s.mode n ∧ (s.holdOuter n).loop n = s.loop n ∧
    ∀ o, s.outerOf n = some o → s.mode o = 2 → (s.holdOuter n).mode o = 3 := by
  unfold State.holdOuter
  split
  next o outer =>
    obtain ⟨ne, small⟩ := State.outerOf_other outer
    split
    · obtain ⟨moded, -⟩ := s.loopToRamp_moded o small 3 (.inr rfl)
      refine ⟨moded.modes n few ne.symm, moded.loops n ne.symm, fun p same _ => ?_⟩
      rw [← Option.some.inj (outer.symm.trans same)]
      exact moded.mode
    next open_ => exact ⟨rfl, rfl, fun p same closed => absurd (Option.some.inj (outer.symm.trans same) ▸ closed) open_⟩
  next inner => exact ⟨rfl, rfl, fun p same _ => nomatch inner.symm.trans same⟩

/-- The mode taken before the outer loop follows. -/
def State.takeMode (s : State) (n m : Nat) : State :=
  match m with
  | 0 => s.loopToOff n
  | 2 => if s.mode n = 2 then s else s.loopToClosed n
  | _ => s.loopToRamp n m

theorem State.setMode_eq (s : State) (n m : Nat) : s.setMode n m = if s.mode n = 2 ∧ m ≠ 2 then (s.takeMode n m).holdOuter n else s.takeMode n m := rfl

theorem State.takeMode_closed (s : State) (n : Nat) : s.takeMode n 2 = if s.mode n = 2 then s else s.loopToClosed n := rfl

theorem State.takeMode_moded (s : State) (n m : Nat) (few : n < 8) (known : m ≤ 3) : Moded n m s (s.takeMode n m) ∧
    (m = 0 → ((s.takeMode n m).loop n).out = loopOffValue n ∧ ((s.takeMode n m).loop n).integ = 0) ∧
    (m = 1 ∨ m = 3 → ((s.takeMode n m).loop n).out = s.present n) ∧ (m = 2 → ((s.takeMode n m).loop n).out = (s.loop n).out) := by
  have cases : m = 0 ∨ m = 1 ∨ m = 2 ∨ m = 3 := by omega
  obtain rfl | rfl | rfl | rfl := cases
  · obtain ⟨moded, off⟩ := s.loopToOff_moded n few
    exact ⟨moded, fun _ => off, fun h => by omega, fun h => by omega⟩
  · obtain ⟨moded, out⟩ := s.loopToRamp_moded n few 1 (.inl rfl)
    exact ⟨moded, fun h => by omega, fun _ => out, fun h => by omega⟩
  · rw [State.takeMode_closed]
    split
    next closed => exact ⟨⟨closed, fun _ _ _ => rfl, rfl, fun _ _ => rfl⟩, fun h => by omega, fun h => by omega, fun _ => rfl⟩
    next other =>
      obtain ⟨moded, out⟩ := s.loopToClosed_moded n few other
      exact ⟨moded, fun h => by omega, fun h => by omega, fun _ => out⟩
  · obtain ⟨moded, out⟩ := s.loopToRamp_moded n few 3 (.inr rfl)
    exact ⟨moded, fun h => by omega, fun _ => out, fun h => by omega⟩

/-- R121 to R123: a loop taken to a mode. -/
theorem State.setMode_moded (s : State) (n m : Nat) (few : n < 8) (known : m ≤ 3) : (s.setMode n m).mode n = m ∧
    (m = 0 → ((s.setMode n m).loop n).out = loopOffValue n ∧ ((s.setMode n m).loop n).integ = 0) ∧
    (m = 1 ∨ m = 3 → ((s.setMode n m).loop n).out = s.present n) ∧ (m = 2 → ((s.setMode n m).loop n).out = (s.loop n).out) ∧
    (∀ o, s.mode n = 2 → m ≠ 2 → s.outerOf n = some o → s.mode o = 2 → (s.setMode n m).mode o = 3) := by
  obtain ⟨moded, off, ramp, closed⟩ := s.takeMode_moded n m few known
  rw [s.setMode_eq]
  split
  next left =>
    obtain ⟨mode, loop, outer⟩ := (s.takeMode n m).holdOuter_moded n few
    rw [loop]
    refine ⟨mode.trans moded.mode, off, ramp, closed, fun o _ _ same was => ?_⟩
    obtain ⟨ne, small⟩ := State.outerOf_other same
    exact outer o ((State.outerOf_congr moded.dest n).trans same) ((moded.modes o small ne).trans was)
  next stays => exact ⟨moded.mode, off, ramp, closed, fun o was ne => absurd ⟨was, ne⟩ stays⟩

end Sys2Proof.Machine
end

section
/-! PROOFS. The loop commands (R119, R122 to R125, R128). -/
namespace Sys2Proof.Machine

/-! ### Whole words written in a row -/

/-- `k` whole words from address `b` on take the values `w`. -/
def State.setWords (s : State) (b k : Nat) (w : Nat → Nat) : State := s.each (List.range k) (fun s i => s.set ⟨b + 4 * i, 0, 32⟩ (w i))

theorem State.each_range_succ (s : State) (k : Nat) (f : State → Nat → State) : s.each (List.range (k + 1)) f = f (s.each (List.range k) f) k := by
  rw [State.each, List.range_succ, List.foldl_append]
  rfl

theorem State.setWords_succ (s : State) (b k : Nat) (w : Nat → Nat) : s.setWords b (k + 1) w = (s.setWords b k w).set ⟨b + 4 * k, 0, 32⟩ (w k) := s.each_range_succ k _

theorem OnlyRegs.setWords (s : State) (b k : Nat) (w : Nat → Nat) : OnlyRegs s (s.setWords b k w) ((List.range k).map (fun i => b + 4 * i)) := by
  induction k with
  | zero => exact .refl s _
  | succ k ih =>
    rw [s.setWords_succ]
    refine (ih.mono fun a mem => ?_).trans (.set _ _ _ (List.mem_map.2 ⟨k, List.mem_range.2 (Nat.lt_succ_self k), rfl⟩))
    obtain ⟨i, low, rfl⟩ := List.mem_map.1 mem
    exact List.mem_map.2 ⟨i, List.mem_range.2 (Nat.lt_succ_of_lt (List.mem_range.1 low)), rfl⟩

theorem State.get_setWords (s : State) (b k i : Nat) (w : Nat → Nat) (low : i < k) : (s.setWords b k w).get ⟨b + 4 * i, 0, 32⟩ = w i % 2 ^ 32 := by
  induction k with
  | zero => omega
  | succ k ih =>
    rw [s.setWords_succ]
    by_cases last : i = k
    · subst last
      exact State.get_set_same _ _ _ rfl
    · rw [State.get_set_addr _ _ _ _ (by simp only; omega)]
      exact ih (by omega)

theorem State.get_setWords_other (s : State) (b k : Nat) (w : Nat → Nat) (f : Fld) (other : f.addr < b ∨ b + 4 * k ≤ f.addr) : (s.setWords b k w).get f = s.get f := by
  refine (OnlyRegs.setWords s b k w).get f fun mem => ?_
  obtain ⟨i, low, same⟩ := List.mem_map.1 mem
  have := List.mem_range.1 low
  omega

theorem State.flag_of_get {s t : State} {f : Fld} (h : t.get f = s.get f) : t.flag f = s.flag f := by rw [State.flag, h]; rfl

/-! ### Words of a payload -/

theorem beAt_wordBytes (l : List Byte) (ws : List Word) (i : Nat) (low : i < ws.length) : u32 (l ++ wordBytes ws) (l.length + 4 * i) = (ws.getD i 0).toNat := by
  rw [u32, beAt, List.drop_length_add_append]
  induction ws generalizing i with
  | nil => simp at low
  | cons w ws ih =>
    rw [show wordBytes (w :: ws) = beBytes 4 w.toNat ++ wordBytes ws from List.flatMap_cons]
    cases i with
    | zero => exact ofBe_beBytes_four w
    | succ i =>
      rw [show 4 * (i + 1) = (beBytes 4 w.toNat).length + 4 * i by rw [length_beBytes]; omega, List.drop_length_add_append]
      exact ih i (by simpa using low)

/-! ### Coefficients -/

section
variable (s : State) (n : Nat)

theorem State.copyWords_eq : s.each (List.range 10) (fun s i => s.set (F.LOOP.ACT n i) (s.get (shadowFld n i))) = s.setWords (0x30080 + 0x400 * n) 10 (fun i => s.get (shadowFld n i)) := by
  have upto (k : Nat) (small : k ≤ 10) : s.each (List.range k) (fun s i => s.set (F.LOOP.ACT n i) (s.get (shadowFld n i))) =
      s.setWords (0x30080 + 0x400 * n) k (fun i => s.get (shadowFld n i)) := by
    induction k with
    | zero => rfl
    | succ k ih =>
      rw [s.each_range_succ, ih (by omega), s.setWords_succ, s.get_setWords_other _ _ _ (shadowFld n k) (.inl (by simp only [shadowFld]; omega))]
      rfl
  exact upto 10 (Nat.le_refl 10)

theorem State.copyBank_act (i : Nat) (low : i < 10) : (s.copyBank n).get (F.LOOP.ACT n i) = s.get (shadowFld n i) := by
  unfold State.copyBank
  dsimp only
  rw [State.inc, State.add, State.get_set_addr _ _ _ _ (by simp only [F.LOOP.SWAPS, F.LOOP.ACT]; omega),
    State.get_set_addr _ _ _ _ (by simp only [F.LOOP.LOOP_STAT_SWAP_PEND, F.LOOP.ACT]; omega), s.copyWords_eq]
  exact (s.get_setWords _ _ i _ low).trans (Nat.mod_eq_of_lt (s.get_lt (shadowFld n i)))

theorem State.copyBank_pend : (s.copyBank n).get (F.LOOP.LOOP_STAT_SWAP_PEND n) = 0 := by
  unfold State.copyBank
  dsimp only
  rw [State.inc, State.add, State.get_set_addr _ _ _ _ (by simp only [F.LOOP.SWAPS, F.LOOP.LOOP_STAT_SWAP_PEND]; omega)]
  exact State.get_set_same _ _ _ rfl

theorem State.copyBank_swaps : (s.copyBank n).get (F.LOOP.SWAPS n) = min (s.get (F.LOOP.SWAPS n) + 1) (2 ^ (F.LOOP.SWAPS n).wd - 1) := by
  unfold State.copyBank
  dsimp only
  rw [State.get_inc _ _ rfl, State.get_set_addr _ _ _ _ (by simp only [F.LOOP.SWAPS, F.LOOP.LOOP_STAT_SWAP_PEND]; omega), s.copyWords_eq,
    s.get_setWords_other _ _ _ (F.LOOP.SWAPS n) (.inr (by simp only [F.LOOP.SWAPS]; omega))]

theorem State.copyBank_shadow (i : Nat) (low : i < 10) : (s.copyBank n).get (shadowFld n i) = s.get (shadowFld n i) := by
  unfold State.copyBank
  dsimp only
  rw [State.inc, State.add, State.get_set_addr _ _ _ _ (by simp only [F.LOOP.SWAPS, shadowFld]; omega),
    State.get_set_addr _ _ _ _ (by simp only [F.LOOP.LOOP_STAT_SWAP_PEND, shadowFld]; omega), s.copyWords_eq]
  exact s.get_setWords_other _ _ _ (shadowFld n i) (.inl (by simp only [shadowFld]; omega))

/-- R124: a loop that is not CLOSED takes a valid shadow bank whole. -/
theorem State.swapNow_open (few : n < 8) (pend : s.flag (F.LOOP.LOOP_STAT_SWAP_PEND n) = true) (good : coefBad (fun i => s.get (shadowFld n i)) = none) (other : s.mode n ≠ 2) :
    s.swapNow n = (s.copyBank n).answerLater 0x0301 n 0 0 [] := by
  unfold State.swapNow
  rw [if_neg (by simp [pend])]
  dsimp only
  rw [if_neg (by simp [good]), if_neg (by rw [(CtrlKept.copyBank s n few).mode n few]; exact other)]

/-- What `swapNow` leaves in the words of the loop. -/
theorem State.get_swapped (f : Fld) (low : 0x30000 ≤ f.addr) (high : f.addr < 0x32000) : ((s.copyBank n).answerLater 0x0301 n 0 0 []).get f = (s.copyBank n).get f :=
  DevWords.get (own := fun _ => False) (.answerLater _ _ _ _ _ _) f (by omega) (by omega) not_false

end

/-! ### LOOP_COEF_SET -/

/-- The operands of LOOP_COEF_SET. -/
def coefOperands (n : Byte) (w : List Word) : List Byte := [n] ++ zeros 3 ++ wordBytes w

section
variable {n : Byte} {w : List Word}

theorem coefOperands_loop : u8 (coefOperands n w) 0 = n.toNat := ofBe_byte n

theorem coefOperands_reserved : notZero (coefOperands n w) 1 3 = false := by
  have zero : (((coefOperands n w).drop 1).take 3) = zeros 3 := by simp [coefOperands, zeros, List.replicate]
  rw [notZero, beAt, zero, ofBe_zeros]
  rfl

theorem coefOperands_word (i : Nat) (low : i < w.length) : u32 (coefOperands n w) (4 + 4 * i) = (w.getD i 0).toNat := beAt_wordBytes ([n] ++ zeros 3) w i low

theorem coefBad_congr {v w : Nat → Nat} (same : ∀ i < 10, v i = w i) : coefBad v = coefBad w := by
  have coef : coefOf v = coefOf w := by
    unfold coefOf
    rw [same 0 (by decide), same 1 (by decide), same 2 (by decide), same 3 (by decide), same 4 (by decide), same 5 (by decide), same 6 (by decide), same 7 (by decide),
      same 8 (by decide), same 9 (by decide)]
  rw [coefBad, coefBad, coef]

/-- The shadow bank written, its swap pending. -/
def State.staged (u : State) (n : Nat) (w : Nat → Nat) : State := (u.setWords (0x30040 + 0x400 * n) 10 w).set (F.LOOP.LOOP_STAT_SWAP_PEND n) 1

variable (len : w.length = 10) (small : n.toNat ≤ 7)
  (shift : bitsOf (w.getD 3 0).toNat 21 11 = 0 ∧ bitsOf (w.getD 3 0).toNat 13 3 = 0 ∧ bitsOf (w.getD 3 0).toNat 5 3 = 0) (filter : bitsOf (w.getD 4 0).toNat 16 15 = 0)
include len small shift filter

theorem cmdLoopCoefSet_eq (u : State) (on : u.domOn 67 = true) : cmdLoopCoefSet u (coefOperands n w) =
    u.guarded [badParam (coefBad (fun i => (w.getD i 0).toNat)).isSome ((coefBad (fun i => (w.getD i 0).toNat)).getD 0)]
      (if u.mode n.toNat ≠ 2 then ((u.staged n.toNat (fun i => u32 (coefOperands n w) (4 + 4 * i))).swapNow n.toNat).done []
        else if u.fastLoop n.toNat then (u.staged n.toNat (fun i => u32 (coefOperands n w) (4 + 4 * i))).reply (.later n.toNat)
        else u.accept 0x0301 (u.staged n.toNat (fun i => u32 (coefOperands n w) (4 + 4 * i))) n.toNat) := by
  have bad : coefBad (fun i => u32 (coefOperands n w) (4 + 4 * i)) = coefBad (fun i => (w.getD i 0).toNat) := coefBad_congr fun i low => coefOperands_word i (by omega)
  have words3 : u32 (coefOperands n w) (4 + 4 * 3) = (w.getD 3 0).toNat := coefOperands_word 3 (by omega)
  have words4 : u32 (coefOperands n w) (4 + 4 * 4) = (w.getD 4 0).toNat := coefOperands_word 4 (by omega)
  unfold cmdLoopCoefSet
  dsimp only
  rw [coefOperands_loop, bad, words3, words4]
  rw [State.guarded_cons, if_neg (by simp [State.needDom, State.badState, on]), State.guarded_cons, if_neg (by simp [badParam]; omega), State.guarded_cons,
    if_neg (by rw [badParam, coefOperands_reserved]; decide), State.guarded_cons, if_neg (by rw [badParam, shift.1, shift.2.1, shift.2.2]; decide), State.guarded_cons, if_neg (by rw [badParam, filter]; decide)]
  rfl

end

end Sys2Proof.Machine
end

section
/-! PROOFS. Host writes of the loops' words, and the loop commands settled. -/
namespace Sys2Proof.Machine

/-! ### One field of a word that a host writes -/

/-- What a host write makes of a word, from the value `v` on. -/
theorem bitsOf_foldl_apart (fs : List RegFld) (old new v lo wd : Nat) (apart : ∀ f ∈ fs, f.lo + f.wd ≤ lo ∨ lo + wd ≤ f.lo) :
    bitsOf (fs.foldl (fun v f => withBits v f.lo f.wd (fieldAfter f old new)) v) lo wd = bitsOf v lo wd := by
  induction fs generalizing v with
  | nil => rfl
  | cons f fs ih =>
    rw [List.foldl_cons, ih _ fun g mem => apart g (List.mem_cons_of_mem _ mem)]
    exact bitsOf_withBits_ne _ _ _ _ _ _ (apart f List.mem_cons_self)

theorem bitsOf_wordAfter (before after : List RegFld) (g : RegFld) (old new : Nat) (apart : ∀ f ∈ after, f.lo + f.wd ≤ g.lo ∨ g.lo + g.wd ≤ f.lo) :
    bitsOf (wordAfter (before ++ g :: after) old new) g.lo g.wd = fieldAfter g old new % 2 ^ g.wd := by
  rw [wordAfter, List.foldl_append, List.foldl_cons, bitsOf_foldl_apart _ _ _ _ _ _ apart, bitsOf_withBits_same]

theorem bitsOf_low32 (x lo wd : Nat) (fits : lo + wd ≤ 32) : bitsOf (x % 2 ^ 32) lo wd = bitsOf x lo wd := by
  rw [bitsOf, bitsOf]
  refine Nat.eq_of_testBit_eq fun i => ?_
  rw [Nat.testBit_mod_two_pow, Nat.testBit_mod_two_pow, Nat.testBit_div_two_pow, Nat.testBit_div_two_pow, Nat.testBit_mod_two_pow]
  by_cases low : i < wd
  · have small : i + lo < 32 := by omega
    simp [low, small]
  · simp [low]

/-- The value of a field after a host write of its word. -/
theorem State.get_hostWrite (s : State) (a : Nat) (v : Word) (before after : List RegFld) (g : RegFld) (fields : fieldsAt a = before ++ g :: after)
    (apart : ∀ f ∈ after, f.lo + f.wd ≤ g.lo ∨ g.lo + g.wd ≤ f.lo) (fits : g.lo + g.wd ≤ 32) :
    (s.hostWrite a v).get ⟨a, g.lo, g.wd⟩ = fieldAfter g (s.rd a).toNat v.toNat % 2 ^ g.wd := by
  rw [State.get, State.hostWrite, State.rd_wr_same, BitVec.toNat_ofNat, bitsOf_low32 _ _ _ fits, fields]
  exact bitsOf_wordAfter before after g _ _ apart

/-- A whole word written is the word's field set. -/
theorem State.wr_eq_set (s : State) (a x : Nat) : s.wr a (BitVec.ofNat 32 x) = s.set ⟨a, 0, 32⟩ x := by
  have value : BitVec.ofNat 32 x = BitVec.ofNat 32 (withBits (s.rd a).toNat 0 32 x) := by
    refine BitVec.eq_of_toNat_eq ?_
    have all := bitsOf_withBits_same (s.rd a).toNat 0 32 x
    rw [bitsOf, pow_zero, Nat.div_one] at all
    rw [BitVec.toNat_ofNat, BitVec.toNat_ofNat, all]
  rw [State.set, ← value]

theorem State.rd_of_get (s : State) (a : Nat) (v : Word) (h : s.get ⟨a, 0, 32⟩ = v.toNat) : s.rd a = v := by
  rw [State.get, bitsOf_word] at h
  exact BitVec.eq_of_toNat_eq h

/-! ### LOOP_CTRL and LOOP_STAT -/

section
variable (u : State) (n : Fin 8) (v : Word)

theorem fieldsAt_loopCtrl : ∀ n : Fin 8, fieldsAt (0x30000 + 0x400 * n.val) = (fieldsAt (0x30000 + 0x400 * n.val)).dropLast ++ [⟨0, 2, .ro, 0, 0, 0, []⟩] := by decide +kernel

theorem fieldsAt_loopStat : ∀ n : Fin 8, fieldsAt (0x3001C + 0x400 * n.val) =
    [⟨7, 1, .w1f, 0, 0, 0, []⟩, ⟨6, 1, .ro, 0, 0, 0, []⟩, ⟨5, 1, .w1f, 0, 0, 0, []⟩, ⟨4, 1, .w1f, 0, 0, 0, []⟩, ⟨3, 1, .ro, 0, 0, 0, []⟩, ⟨2, 1, .ro, 0, 0, 0, []⟩,
      ⟨1, 1, .w1f, 0, 0, 0, []⟩, ⟨0, 1, .ro, 0, 0, 0, []⟩] := by decide +kernel

theorem oneBlock_loop : ∀ n : Fin 8, oneBlock (0x30000 + 0x400 * n.val) 1 = true ∧ oneBlock (0x30004 + 0x400 * n.val) 1 = true ∧ oneBlock (0x3001C + 0x400 * n.val) 1 = true := by
  decide +kernel

/-- LOOP_CTRL.MODE is read only. -/
theorem State.mode_hostWrite : (u.hostWrite (0x30000 + 0x400 * n.val) v).mode n = u.mode n := by
  have read := u.get_hostWrite _ v _ [] ⟨0, 2, .ro, 0, 0, 0, []⟩ (fieldsAt_loopCtrl n) (fun f mem => absurd mem List.not_mem_nil) (by decide)
  exact read.trans (Nat.mod_eq_of_lt (u.get_lt (F.LOOP.LOOP_CTRL_MODE n)))

theorem bit_and_not (a b : Nat) (ha : a < 2) (hb : b < 2) : (((a &&& 2 ^ 1 - 1 - b) % 2 ^ 1) == 1) = (a == 1 && !(b == 1)) := by
  have cases : (a = 0 ∨ a = 1) ∧ (b = 0 ∨ b = 1) := ⟨by omega, by omega⟩
  obtain ⟨rfl | rfl, rfl | rfl⟩ := cases <;> rfl

theorem State.fbLost_hostWrite : (u.hostWrite (0x3001C + 0x400 * n.val) v).flag (F.LOOP.LOOP_STAT_FB_LOST n) = (u.flag (F.LOOP.LOOP_STAT_FB_LOST n) && !(bitsOf v.toNat 4 1 == 1)) := by
  have read := u.get_hostWrite _ v [⟨7, 1, .w1f, 0, 0, 0, []⟩, ⟨6, 1, .ro, 0, 0, 0, []⟩, ⟨5, 1, .w1f, 0, 0, 0, []⟩] _ ⟨4, 1, .w1f, 0, 0, 0, []⟩ (fieldsAt_loopStat n) (by decide) (by decide)
  exact (congrArg (· == 1) read).trans (bit_and_not _ _ (bitsOf_lt _ 4 1) (bitsOf_lt _ 4 1))

theorem State.fbFrozen_hostWrite : (u.hostWrite (0x3001C + 0x400 * n.val) v).flag (F.LOOP.LOOP_STAT_FB_FROZEN n) = (u.flag (F.LOOP.LOOP_STAT_FB_FROZEN n) && !(bitsOf v.toNat 5 1 == 1)) := by
  have read := u.get_hostWrite _ v [⟨7, 1, .w1f, 0, 0, 0, []⟩, ⟨6, 1, .ro, 0, 0, 0, []⟩] _ ⟨5, 1, .w1f, 0, 0, 0, []⟩ (fieldsAt_loopStat n) (by decide) (by decide)
  exact (congrArg (· == 1) read).trans (bit_and_not _ _ (bitsOf_lt _ 5 1) (bitsOf_lt _ 5 1))

/-! ### Clearing of the feedback latches -/

/-- The value that a LOOP_STAT write stores (R138). -/
def State.clearing (s : State) (n : Nat) (v : Word) : Nat :=
  if (s.mode n == 0 || s.mode n == 3) && s.sourceInBand n then v.toNat else v.toNat - bitsOf v.toNat 4 2 * 16

theorem State.wrLoopStat_eq (s : State) (n : Nat) (v : Word) : s.wrLoopStat n v = (s.hostWrite (0x3001C + 0x400 * n) (BitVec.ofNat 32 (s.clearing n v))).releaseFb := rfl

theorem OnlyRegs.releaseFb (s : State) : OnlyRegs s s.releaseFb [0x24410] :=
  (OnlyRegs.when _ (.inhibitOff s _)).trans (.when _ (.inhibitOff _ _))

theorem State.releaseFb_clears (on : u.domOn 68 = true) (first : u.fbLatched 0 = false) (second : u.fbLatched 1 = false) : u.releaseFb.bitAt F.SHT.EMIT_INHIBIT_SRC 2 = false := by
  have off : (u.inhibitOff (2 ^ 2)).bitAt F.SHT.EMIT_INHIBIT_SRC 2 = false := u.inhibitOff_clears 2 on (by decide)
  have still : (u.inhibitOff (2 ^ 2)).domOn 68 = true := (State.domOn_congr (fun a mem => (OnlyRegs.inhibitOff u _).2 a (by revert mem; revert a; decide)) 68).trans on
  have keep : ((u.inhibitOff (2 ^ 2)).inhibitOff (2 ^ 3)).bitAt F.SHT.EMIT_INHIBIT_SRC 2 = false :=
    ((u.inhibitOff (2 ^ 2)).inhibitOff_keeps 3 2 still (by decide)).trans off
  have shape : u.releaseFb = if !((u.inhibitOff (2 ^ 2)).flag (F.LOOP.LOOP_STAT_FB_FROZEN 2) || (u.inhibitOff (2 ^ 2)).flag (F.LOOP.LOOP_STAT_FB_FROZEN 3))
      then (u.inhibitOff (2 ^ 2)).inhibitOff (2 ^ 3) else u.inhibitOff (2 ^ 2) := by
    unfold State.releaseFb
    dsimp only
    rw [first, second]
    rfl
  rw [shape]
  split
  · exact keep
  · exact off

theorem State.wrLoop_stat : u.wrLoop (0x3001C + 0x400 * n.val) v = u.wrLoopStat n v := by
  have index : (0x3001C + 0x400 * n.val - 0x30000) / 0x400 = n := by omega
  unfold State.wrLoop
  dsimp only
  rw [index, if_neg (by omega), if_neg (by omega), if_pos (by omega)]

theorem State.wrLoop_ctrl : u.wrLoop (0x30000 + 0x400 * n.val) v = if bitsOf v.toNat 4 1 = 1 then (u.hostWrite (0x30000 + 0x400 * n.val) v).scheduleSwap n else u.hostWrite (0x30000 + 0x400 * n.val) v := by
  have index : (0x30000 + 0x400 * n.val - 0x30000) / 0x400 = n := by omega
  unfold State.wrLoop
  dsimp only
  rw [index, if_pos (by omega)]

theorem State.wrLoopStat_flags : (u.wrLoopStat n v).flag (F.LOOP.LOOP_STAT_FB_LOST n) = (u.flag (F.LOOP.LOOP_STAT_FB_LOST n) && !(bitsOf (u.clearing n v) 4 1 == 1)) ∧
    (u.wrLoopStat n v).flag (F.LOOP.LOOP_STAT_FB_FROZEN n) = (u.flag (F.LOOP.LOOP_STAT_FB_FROZEN n) && !(bitsOf (u.clearing n v) 5 1 == 1)) := by
  have rest (f : Fld) (far : f.addr = 0x3001C + 0x400 * n.val) : (u.wrLoopStat n v).flag f = (u.hostWrite (0x3001C + 0x400 * n.val) (BitVec.ofNat 32 (u.clearing n v))).flag f :=
    State.flag_of_get ((OnlyRegs.releaseFb _).get f (by simp only [List.mem_singleton]; omega))
  rw [rest _ rfl, rest _ rfl, u.fbLost_hostWrite n, u.fbFrozen_hostWrite n, BitVec.toNat_ofNat, bitsOf_low32 _ _ _ (by decide), bitsOf_low32 _ _ _ (by decide)]
  exact ⟨rfl, rfl⟩

theorem State.clearing_latched (held : (u.mode n ≠ 0 ∧ u.mode n ≠ 3) ∨ u.sourceInBand n = false) : bitsOf (u.clearing n v) 4 1 = 0 ∧ bitsOf (u.clearing n v) 5 1 = 0 := by
  have shut : ((u.mode n == 0 || u.mode n == 3) && u.sourceInBand n) = false := by
    obtain ⟨off, hold⟩ | out := held
    · simp [off, hold]
    · simp [out]
  rw [State.clearing, shut]
  simp only [bitsOf, Bool.false_eq_true, if_false]
  constructor <;> omega

theorem State.clearing_free (mode : u.mode n = 0 ∨ u.mode n = 3) (band : u.sourceInBand n = true) : u.clearing n v = v.toNat := by
  have free : ((u.mode n == 0 || u.mode n == 3) && u.sourceInBand n) = true := by
    obtain off | hold := mode
    · simp [off, band]
    · simp [hold, band]
  rw [State.clearing, free]
  rfl

theorem OnlyRegs.wrLoopStat : OnlyRegs u (u.wrLoopStat n v) [0x3001C + 0x400 * n.val, F.SHT.EMIT_INHIBIT_SRC.addr] := by
  have stored : OnlyRegs u (u.hostWrite (0x3001C + 0x400 * n.val) (BitVec.ofNat 32 (u.clearing n v))) [0x3001C + 0x400 * n.val, F.SHT.EMIT_INHIBIT_SRC.addr] :=
    ⟨rfl, fun a other => u.rd_hostWrite_ne _ a _ fun same => other (same ▸ List.mem_cons_self)⟩
  exact stored.trans ((OnlyRegs.releaseFb _).mono (List.subset_cons_self _ _))

end

/-! ### A write of a loop's word -/

/-- A register-write row of a word of a loop's block. -/
theorem Writes.of_loop {c : Instr} {via : Port} {seq : BitVec 16} {a : Nat} {v : Word} {h : State → Prop} {e : State → State → Prop}
    (row : asPacket c = some ⟨via, seq, 0x0009, regWritePayload a [v]⟩) (low : 0x30000 ≤ a) (high : a < 0x32000) (aligned : a % 4 = 0) (one : oneBlock a 1 = true)
    (effect : ∀ u, u.calHostWrite a = u → h u → e u (u.hostStore a v)) : Writes c a 1 h e :=
  .of_word row (by omega) aligned one (by simpa [wordAddrs] using unlocked_of_range a 1 ⟨by omega, by omega⟩)
    (fun u _ => u.writeRefused_other a [v] (.inr (by omega))) (plainWord_of_range a ⟨by omega, by omega⟩) effect

/-! ### A swap that a write asks for -/

section
variable (u : State) (n : Fin 8) (v : Word) (asks : bitsOf v.toNat 4 1 = 1)

/-- LOOP_CTRL written, the swap pending. -/
def State.pending_ (u : State) (n : Nat) (v : Word) : State := (u.hostWrite (0x30000 + 0x400 * n) v).set (F.LOOP.LOOP_STAT_SWAP_PEND n) 1

theorem State.pending_mode : (u.pending_ n v).mode n = u.mode n :=
  (State.get_set_addr _ _ _ _ (by simp only [F.LOOP.LOOP_STAT_SWAP_PEND, F.LOOP.LOOP_CTRL_MODE]; omega)).trans (u.mode_hostWrite n v)

theorem State.pending_get (f : Fld) (stat : f.addr ≠ 0x3001C + 0x400 * n.val) (ctrl : f.addr ≠ 0x30000 + 0x400 * n.val) : (u.pending_ n v).get f = u.get f := by
  rw [State.pending_, State.get_set_addr _ _ _ _ stat, State.get, u.rd_hostWrite_ne _ _ _ ctrl]
  rfl

theorem State.pending_pend : (u.pending_ n v).flag (F.LOOP.LOOP_STAT_SWAP_PEND n) = true := by
  rw [State.flag, State.pending_, State.get_set_same _ _ _ rfl]
  rfl

include asks

theorem State.wrLoop_swap : u.wrLoop (0x30000 + 0x400 * n.val) v = if u.mode n = 2 then u.pending_ n v else (u.pending_ n v).swapNow n := by
  rw [u.wrLoop_ctrl n v, if_pos asks, State.scheduleSwap, ← u.pending_mode n v]
  rfl

end

/-! ### LOOP_SETPOINT and TRAJECTORY_LOAD -/

/-- The operands of LOOP_SETPOINT. -/
def setpointOperands (n : Byte) (v : BitVec 32) : List Byte := [n] ++ zeros 3 ++ beBytes 4 v.toNat

theorem setpointOperands_loop (n : Byte) (v : BitVec 32) : u8 (setpointOperands n v) 0 = n.toNat := ofBe_byte n

theorem setpointOperands_reserved (n : Byte) (v : BitVec 32) : notZero (setpointOperands n v) 1 3 = false := by
  have zero : (((setpointOperands n v).drop 1).take 3) = zeros 3 := by simp [setpointOperands, zeros, List.replicate]
  rw [notZero, beAt, zero, ofBe_zeros]
  rfl

theorem setpointOperands_value (n : Byte) (v : BitVec 32) : u32 (setpointOperands n v) 4 = v.toNat := ofBe_beBytes_four v

theorem cmdLoopSetpoint_eq (u : State) (n : Byte) (v : BitVec 32) (small : n.toNat ≤ 7) (on : u.domOn 67 = true) : cmdLoopSetpoint u (setpointOperands n v) =
    if u.spRefused n.toNat then u.reply (.final 0x13 u.stateCode []) else (u.hostSetpoint n.toNat v).done [] := by
  unfold cmdLoopSetpoint
  dsimp only
  rw [setpointOperands_loop, setpointOperands_value, State.guarded_cons, if_neg (by simp [State.needDom, State.badState, on]), State.guarded_cons]
  have known : decide (n.toNat < 8) = true := decide_eq_true (by omega)
  rw [known]
  cases refused : u.spRefused n.toNat
  · rw [if_neg (by simp [State.badState]), State.guarded_cons, if_neg (by simp [badParam]; omega), State.guarded_cons,
      if_neg (by rw [badParam, setpointOperands_reserved]; decide), State.guarded_nil, BitVec.ofNat_toNat, BitVec.setWidth_eq]
    rfl
  · rfl

theorem signed_toInt (v : BitVec 32) : signed 32 v.toNat = v.toInt := by
  rw [signed, BitVec.toInt_eq_toNat_cond]
  split
  · rfl
  · push_cast; rfl

/-- The operands of TRAJECTORY_LOAD. -/
def trajectoryOperands (first : BitVec 16) (l : List Word) : List Byte := beBytes 2 first.toNat ++ beBytes 2 l.length ++ wordBytes l

section
variable (first : BitVec 16) (l : List Word)

theorem trajectoryOperands_first : u16 (trajectoryOperands first l) 0 = first.toNat := ofBe_beBytes_two first

theorem trajectoryOperands_count (few : l.length ≤ 256) : u16 (trajectoryOperands first l) 2 = l.length :=
  (ofBe_beBytes2 l.length).trans (Nat.mod_eq_of_lt (by omega))

theorem trajectoryOperands_entry (i : Nat) (low : i < l.length) : u32 (trajectoryOperands first l) (4 + 4 * i) = (l.getD i 0).toNat :=
  beAt_wordBytes (beBytes 2 first.toNat ++ beBytes 2 l.length) l i low

theorem State.each_wr_eq (u : State) (b n : Nat) (w : Nat → Nat) :
    u.each (List.range n) (fun s i => s.wr (0x34000 + 4 * (b + i)) (BitVec.ofNat 32 (w i))) = u.setWords (0x34000 + 4 * b) n w := by
  have same : (fun (s : State) i => s.wr (0x34000 + 4 * (b + i)) (BitVec.ofNat 32 (w i))) = fun (s : State) i => s.set ⟨0x34000 + 4 * b + 4 * i, 0, 32⟩ (w i) := by
    funext s i
    rw [s.wr_eq_set, show 0x34000 + 4 * (b + i) = 0x34000 + 4 * b + 4 * i by omega]
  rw [same]
  rfl

theorem cmdTrajectoryLoad_eq (u : State) (some : 1 ≤ l.length) (few : l.length ≤ 256) (inside : first.toNat + l.length ≤ 2048) (ready : u.pw.st = .ready) (on : u.domOn 67 = true) :
    cmdTrajectoryLoad u (trajectoryOperands first l) = (u.setWords (0x34000 + 4 * first.toNat) l.length (fun i => u32 (trajectoryOperands first l) (4 + 4 * i))).done [] := by
  unfold cmdTrajectoryLoad
  dsimp only
  rw [trajectoryOperands_first, trajectoryOperands_count first l few, u.each_wr_eq]
  have fits : decide (l.length = 0 ∨ 256 < l.length ∨ 2048 < first.toNat + l.length) = false := decide_eq_false (by omega)
  rw [fits]
  refine u.guarded_pass _ _ ?_
  simp [State.needDom, State.badState, badParam, ready, on]

end

/-! ### Coefficients staged -/

section
variable (u : State) (n : Nat) (w : Nat → Nat)

theorem State.staged_regs : u.staged n w = { u with regs := (u.staged n w).regs } := by
  have h := (OnlyRegs.setWords u (0x30040 + 0x400 * n) 10 w).1
  unfold State.staged
  rw [h]
  rfl

theorem State.staged_pend : (u.staged n w).flag (F.LOOP.LOOP_STAT_SWAP_PEND n) = true := by
  rw [State.flag, State.staged, State.get_set_same _ _ _ rfl]
  rfl

theorem State.staged_shadow (i : Nat) (low : i < 10) (small : w i < 2 ^ 32) : (u.staged n w).get (shadowFld n i) = w i := by
  rw [State.staged, State.get_set_addr _ _ _ _ (by simp only [F.LOOP.LOOP_STAT_SWAP_PEND, shadowFld]; omega)]
  exact (u.get_setWords _ _ i w low).trans (Nat.mod_eq_of_lt small)

theorem State.staged_get (f : Fld) (stat : f.addr ≠ 0x3001C + 0x400 * n) (bank : f.addr < 0x30040 + 0x400 * n ∨ 0x30040 + 0x400 * n + 40 ≤ f.addr) : (u.staged n w).get f = u.get f := by
  rw [State.staged, State.get_set_addr _ _ _ _ stat]
  exact u.get_setWords_other _ _ w f bank

theorem State.staged_mode : (u.staged n w).mode n = u.mode n :=
  u.staged_get n w _ (by simp only [F.LOOP.LOOP_CTRL_MODE]; omega) (.inl (by simp only [F.LOOP.LOOP_CTRL_MODE]; omega))

end

section
variable {n : Byte} {w : List Word} (len : w.length = 10) (small : n.toNat ≤ 7)
  (shift : bitsOf (w.getD 3 0).toNat 21 11 = 0 ∧ bitsOf (w.getD 3 0).toNat 13 3 = 0 ∧ bitsOf (w.getD 3 0).toNat 5 3 = 0) (filter : bitsOf (w.getD 4 0).toNat 16 15 = 0)

/-- The state with the operands staged. -/
def State.coefStaged (u : State) (n : Byte) (w : List Word) : State := u.staged n.toNat (fun i => u32 (coefOperands n w) (4 + 4 * i))

include len

theorem State.coefStaged_shadow (u : State) (i : Nat) (low : i < 10) : (u.coefStaged n w).get (shadowFld n.toNat i) = (w.getD i 0).toNat := by
  have word : u32 (coefOperands n w) (4 + 4 * i) = (w.getD i 0).toNat := coefOperands_word i (by omega)
  rw [State.coefStaged, u.staged_shadow n.toNat _ i low (by rw [word]; exact (w.getD i 0).isLt), word]

include small

/-- A loop that is not CLOSED has the coefficients at once. -/
theorem State.coefStaged_swap (u : State) (good : coefBad (fun i => (w.getD i 0).toNat) = none) (other : u.mode n.toNat ≠ 2) :
    (∀ i < 10, ((u.coefStaged n w).swapNow n.toNat).get (F.LOOP.ACT n.toNat i) = (w.getD i 0).toNat ∧ ((u.coefStaged n w).swapNow n.toNat).get (shadowFld n.toNat i) = (w.getD i 0).toNat) ∧
      ((u.coefStaged n w).swapNow n.toNat).flag (F.LOOP.LOOP_STAT_SWAP_PEND n.toNat) = false ∧ ((u.coefStaged n w).swapNow n.toNat).eng = u.eng := by
  have shadow := u.coefStaged_shadow (n := n) len
  have open_ : (u.coefStaged n w).mode n.toNat ≠ 2 := fun h => other ((u.staged_mode n.toNat _).symm.trans h)
  have eng : (u.coefStaged n w).eng = u.eng := by rw [State.coefStaged, u.staged_regs]
  rw [(u.coefStaged n w).swapNow_eng n.toNat (by omega) open_, eng,
    (u.coefStaged n w).swapNow_open n.toNat (by omega) (u.staged_pend n.toNat _) ((coefBad_congr shadow).trans good) open_]
  refine ⟨fun i low => ⟨?_, ?_⟩, ?_, rfl⟩
  · rw [State.get_swapped _ _ _ (by simp only [F.LOOP.ACT]; omega) (by simp only [F.LOOP.ACT]; omega), State.copyBank_act _ _ i low, shadow i low]
  · rw [State.get_swapped _ _ _ (by simp only [shadowFld]; omega) (by simp only [shadowFld]; omega), State.copyBank_shadow _ _ i low, shadow i low]
  · rw [State.flag, State.get_swapped _ _ _ (by simp only [F.LOOP.LOOP_STAT_SWAP_PEND]; omega) (by simp only [F.LOOP.LOOP_STAT_SWAP_PEND]; omega), State.copyBank_pend]
    rfl

include shift filter

theorem cmdLoopCoefSet_good (u : State) (on : u.domOn 67 = true) (good : coefBad (fun i => (w.getD i 0).toNat) = none) : cmdLoopCoefSet u (coefOperands n w) =
    if u.mode n.toNat ≠ 2 then ((u.coefStaged n w).swapNow n.toNat).done []
    else if u.fastLoop n.toNat then (u.coefStaged n w).reply (.later n.toNat) else u.accept 0x0301 (u.coefStaged n w) n.toNat := by
  rw [cmdLoopCoefSet_eq len small shift filter u on, good]
  rfl

theorem cmdLoopCoefSet_bad (u : State) (on : u.domOn 67 = true) (k : Nat) (bad : coefBad (fun i => (w.getD i 0).toNat) = some k) :
    cmdLoopCoefSet u (coefOperands n w) = u.reply (.final 0x12 k []) := by
  have few : k ≤ 10 := by
    unfold coefBad at bad
    dsimp only at bad
    split at bad
    · cases bad; decide
    · split at bad
      · cases bad; decide
      · split at bad
        · cases bad; decide
        · cases bad
  have word : min k 0xFD = k := Nat.min_eq_left (by omega)
  rw [cmdLoopCoefSet_eq len small shift filter u on, bad, badParam, Option.getD_some, word]
  rfl

end

/-! ### Settled -/

theorem cmdLoopMode_eq (u : State) (n m : Byte) (small : n.toNat ≤ 7) (known : m.toNat ≤ 3) (on : u.domOn 67 = true) : cmdLoopMode u ([n, m] ++ zeros 2) =
    u.guarded [u.badState (decide (n.toNat ≤ 3 ∧ m.toNat ≠ 2) && u.pw.st == .scanning), u.badState (decide (m.toNat = 2) && (u.innerOf n.toNat).any (fun i => u.mode i != 2)),
      (decide (m.toNat = 2) && u.fbLatched n.toNat, 0x5A, n.toNat)] ((u.setMode n.toNat m.toNat).done []) := by
  have loop : u8 ([n, m] ++ zeros 2) 0 = n.toNat := ofBe_byte n
  have mode : u8 ([n, m] ++ zeros 2) 1 = m.toNat := ofBe_byte m
  have reserved : notZero ([n, m] ++ zeros 2) 2 2 = false := notZero_append_zeros [n, m] 2 2 rfl
  have closes : decide (n.toNat < 8 ∧ m.toNat = 2) = decide (m.toNat = 2) := decide_eq_decide.2 ⟨fun h => h.2, fun h => ⟨by omega, h⟩⟩
  have bounds : decide (7 < n.toNat ∨ 3 < m.toNat) = false := decide_eq_false (by omega)
  unfold cmdLoopMode
  dsimp only
  rw [loop, mode, reserved, closes, bounds]
  simp only [State.guarded_cons, State.guarded_nil, State.needDom, State.badState, badParam, on]
  rfl

theorem byte_eq_two (m : Byte) : m = 2 ↔ m.toNat = 2 := BitVec.toNat_inj.symm

section
variable (u : State) (n m : Byte) (small : n.toNat ≤ 7) (known : m.toNat ≤ 3) (on : u.domOn 67 = true)
include small known on

theorem cmdLoopMode_takes (quiet : n.toNat ≤ 3 → m ≠ 2 → u.pw.st ≠ .scanning) (ready : m = 2 → u.fbLatched n.toNat = false ∧ ∀ i, u.innerOf n.toNat = some i → u.mode i = 2) :
    cmdLoopMode u ([n, m] ++ zeros 2) = (u.setMode n.toNat m.toNat).done [] := by
  rw [Ne, byte_eq_two] at quiet
  rw [byte_eq_two] at ready
  refine (cmdLoopMode_eq u n m small known on).trans ?_
  rw [State.guarded_cons, if_neg, State.guarded_cons, if_neg, State.guarded_cons, if_neg, State.guarded_nil]
  · simp only [Bool.and_eq_true, decide_eq_true_eq, not_and, Bool.not_eq_true]
    exact fun two => (ready two).1
  · simp only [State.badState, Bool.and_eq_true, decide_eq_true_eq, not_and, Bool.not_eq_true, Option.any_eq_false, bne_eq_false_iff_eq]
    exact fun two i inner => (ready two).2 i inner
  · simp only [State.badState, Bool.and_eq_true, decide_eq_true_eq, not_and, beq_iff_eq]
    exact fun low => quiet low.1 low.2

theorem cmdLoopMode_scanning (low : n.toNat ≤ 3) (other : m ≠ 2) (scanning : u.pw.st = .scanning) :
    cmdLoopMode u ([n, m] ++ zeros 2) = u.reply (.final 0x13 u.stateCode []) := by
  rw [Ne, byte_eq_two] at other
  refine (cmdLoopMode_eq u n m small known on).trans ?_
  rw [State.guarded_cons, if_pos (by simp [State.badState, low, other, scanning])]
  rfl

theorem cmdLoopMode_open (closed : m = 2) (open_ : ∃ i, u.innerOf n.toNat = some i ∧ u.mode i ≠ 2) : cmdLoopMode u ([n, m] ++ zeros 2) = u.reply (.final 0x13 u.stateCode []) := by
  rw [byte_eq_two] at closed
  obtain ⟨i, inner, mode⟩ := open_
  refine (cmdLoopMode_eq u n m small known on).trans ?_
  rw [State.guarded_cons, if_neg (by simp [State.badState, closed]), State.guarded_cons, if_pos (by simp [State.badState, closed, inner, mode])]
  rfl

theorem cmdLoopMode_latched (closed : m = 2) (latched : u.fbLatched n.toNat = true) (inner : ∀ i, u.innerOf n.toNat = some i → u.mode i = 2) :
    cmdLoopMode u ([n, m] ++ zeros 2) = u.reply (.final 0x5A n.toNat []) := by
  rw [byte_eq_two] at closed
  refine (cmdLoopMode_eq u n m small known on).trans ?_
  rw [State.guarded_cons, if_neg (by simp [State.badState, closed]), State.guarded_cons, if_neg, State.guarded_cons, if_pos (by simp [closed, latched])]
  simp only [State.badState, Bool.and_eq_true, decide_eq_true_eq, not_and, Bool.not_eq_true, Option.any_eq_false, bne_eq_false_iff_eq]
  exact fun _ i same => inner i same

end

theorem loopCommands_mode (via : Port) (seq : BitVec 16) (n m : Byte) (small : n.toNat ≤ 7) (known : m.toNat ≤ 3) :
    Does (.loopMode via seq n m) (fun u => u.domOn 67 = true ∧ (n.toNat ≤ 3 → m ≠ 2 → u.pw.st ≠ .scanning) ∧
        (m = 2 → u.fbLatched n.toNat = false ∧ ∀ i, u.innerOf n.toNat = some i → u.mode i = 2)) (fun _ => [])
      (fun u t => t = u.setMode n.toNat m.toNat ∧ t.mode n.toNat = m.toNat ∧ (m = 0 → (t.loop n.toNat).out = loopOffValue n.toNat ∧ (t.loop n.toNat).integ = 0) ∧
        (m = 1 ∨ m = 3 → (t.loop n.toNat).out = u.present n.toNat) ∧ (m = 2 → (t.loop n.toNat).out = (u.loop n.toNat).out) ∧
        (∀ o, u.mode n.toNat = 2 → m ≠ 2 → u.outerOf n.toNat = some o → u.mode o = 2 → t.mode o = 3)) := by
  refine .of_handler rfl fun u ⟨on, quiet, ready⟩ => ⟨u.setMode n.toNat m.toNat, cmdLoopMode_takes u n m small known on quiet ready, rfl, ?_⟩
  obtain ⟨mode, off, ramp, closed, outer⟩ := u.setMode_moded n.toNat m.toNat (by omega) known
  have value (k : Byte) (h : m = k) : m.toNat = k.toNat := congrArg BitVec.toNat h
  refine ⟨mode, fun h => off (value 0 h), fun h => ramp ?_, fun h => closed (value 2 h), fun o was other => outer o was fun h => other ((byte_eq_two m).2 h)⟩
  obtain one | three := h
  · exact .inl (value 1 one)
  · exact .inr (value 3 three)

theorem State.loop_hostSetpoint (u : State) (n : Nat) (v : Word) (k : Nat) : (u.hostSetpoint n v).loop k = if k = n then { u.loop n with sp := signed 32 v.toNat } else u.loop k :=
  State.loop_setLoop _ n k _

/-- A taken register write of one loop word stores it and is acknowledged. -/
theorem State.packetIn_loopWrite (s : State) (via : Port) (seq : BitVec 16) (n : Fin 8) (v : Word) (p : Pkt) (is : p = ⟨via, seq, 0x0009, regWritePayload (0x30000 + 0x400 * n.val) [v]⟩)
    (takes : s.takes p = true) (u : State) (seen : s.seen p = u) (on : u.touchesOff (0x30000 + 0x400 * n.val) 1 = false) (noStep : u.noStep [0x30000 + 0x400 * n.val] = true) :
    s.packetIn via seq 0x0009 (regWritePayload (0x30000 + 0x400 * n.val) [v]) = (u.wrLoop (0x30000 + 0x400 * n.val) v).replied p 0 0 [] := by
  have stored : cmdRegWrite u (regWritePayload (0x30000 + 0x400 * n.val) [v]) = (u.hostWrites (0x30000 + 0x400 * n.val) [v]).done [] :=
    cmdRegWrite_inBlock _ [v] (by omega) (Nat.le_of_ble_eq_true rfl) u (List.cons_ne_nil _ _) (by omega) (oneBlock_loop n).1
      (unlocked_of_range _ 1 ⟨by omega, by omega⟩) on (u.writeRefused_other _ [v] (.inr (by omega)))
  rw [u.hostWrites_one _ v (plainWord_of_range _ ⟨by omega, by omega⟩),
    u.hostStore_loop _ v (u.calHostWrite_of_noStep _ _ (List.mem_singleton.2 rfl) noStep) (by omega) (by omega) (by omega)] at stored
  have run : runOp via u 0x0009 (regWritePayload (0x30000 + 0x400 * n.val) [v]) = (u.wrLoop (0x30000 + 0x400 * n.val) v).done [] := stored
  have taken := s.packetIn_takes p takes
  rw [seen] at taken
  subst is
  rw [run] at taken
  exact taken

section
variable (u : State) (n : Fin 8) (v : Word) (asks : bitsOf v.toNat 4 1 = 1)
include asks

theorem State.wrLoop_swapped (other : u.mode n ≠ 2) (good : coefBad (fun i => u.get (shadowFld n i)) = none) :
    (u.wrLoop (0x30000 + 0x400 * n.val) v).flag (F.LOOP.LOOP_STAT_SWAP_PEND n) = false ∧
      (u.wrLoop (0x30000 + 0x400 * n.val) v).get (F.LOOP.SWAPS n) = min (u.get (F.LOOP.SWAPS n) + 1) (2 ^ (F.LOOP.SWAPS n).wd - 1) ∧
      ∀ i < 10, (u.wrLoop (0x30000 + 0x400 * n.val) v).get (F.LOOP.ACT n i) = u.get (shadowFld n i) := by
  have shadow (i : Nat) (low : i < 10) : (u.pending_ n v).get (shadowFld n i) = u.get (shadowFld n i) :=
    u.pending_get n v _ (by simp only [shadowFld]; omega) (by simp only [shadowFld]; omega)
  rw [u.wrLoop_swap n v asks, if_neg other, State.swapNow_open _ n n.isLt (u.pending_pend n v) ((coefBad_congr shadow).trans good) (by rw [u.pending_mode n v]; exact other)]
  refine ⟨?_, ?_, fun i low => ?_⟩
  · rw [State.flag, State.get_swapped _ _ _ (by simp only [F.LOOP.LOOP_STAT_SWAP_PEND]; omega) (by simp only [F.LOOP.LOOP_STAT_SWAP_PEND]; omega), State.copyBank_pend]
    rfl
  · rw [State.get_swapped _ _ _ (by simp only [F.LOOP.SWAPS]; omega) (by simp only [F.LOOP.SWAPS]; omega), State.copyBank_swaps,
      u.pending_get n v _ (by simp only [F.LOOP.SWAPS]; omega) (by simp only [F.LOOP.SWAPS]; omega)]
  · rw [State.get_swapped _ _ _ (by simp only [F.LOOP.ACT]; omega) (by simp only [F.LOOP.ACT]; omega), State.copyBank_act _ _ i low, shadow i low]

theorem State.wrLoop_pends (closed : u.mode n = 2) : (u.wrLoop (0x30000 + 0x400 * n.val) v).flag (F.LOOP.LOOP_STAT_SWAP_PEND n) = true ∧
    ∀ i < 10, (u.wrLoop (0x30000 + 0x400 * n.val) v).get (F.LOOP.ACT n i) = u.get (F.LOOP.ACT n i) := by
  rw [u.wrLoop_swap n v asks, if_pos closed]
  exact ⟨u.pending_pend n v, fun i _ => u.pending_get n v _ (by simp only [F.LOOP.ACT]; omega) (by simp only [F.LOOP.ACT]; omega)⟩

end

theorem asks_swap (x : Nat) : bitsOf (BitVec.ofNat 32 x ||| 0x10).toNat 4 1 = 1 := by
  rw [bitsOf_of_getLsbD, BitVec.getLsbD_or]
  simp [bit]

theorem State.finish_later (x : State) (via : Port) (op : Nat) (seq : BitVec 16) (k : Nat) :
    State.finish (x.reply (.later k)) via op seq = { x with cmd := { x.cmd with deferred := x.cmd.deferred ++ [⟨op, via, seq, k⟩] } } := rfl

theorem loopCommands_coefLater (via : Port) (seq : BitVec 16) (n : Byte) (w : List Word) (small : n.toNat ≤ 7) (len : w.length = 10)
    (shift : bitsOf (w.getD 3 0).toNat 21 11 = 0 ∧ bitsOf (w.getD 3 0).toNat 13 3 = 0 ∧ bitsOf (w.getD 3 0).toNat 5 3 = 0) (filter : bitsOf (w.getD 4 0).toNat 16 15 = 0)
    (good : coefBad (fun i => (w.getD i 0).toNat) = none) (s : State) (p : Pkt) (u : State) (runs : Runs (.loopCoefSet via seq n w) s p u) (on : u.domOn 67 = true)
    (closed : u.mode n.toNat = 2) (fast : u.fastLoop n.toNat = true) :
    exec (.loopCoefSet via seq n w) s = .next (State.calm { u.coefStaged n w with cmd := { (u.coefStaged n w).cmd with deferred := (u.coefStaged n w).cmd.deferred ++ [⟨0x0301, p.via, p.seq, n.toNat⟩] } }) := by
  obtain ⟨rfl, exec⟩ := runs.exec_row rfl
  have handler : cmdLoopCoefSet u (coefOperands n w) = (u.coefStaged n w).reply (.later n.toNat) :=
    (cmdLoopCoefSet_good len small shift filter u on good).trans ((if_neg (not_not_intro closed)).trans (if_pos fast))
  have run : runOp via u 0x0301 (coefOperands n w) = (u.coefStaged n w).reply (.later n.toNat) := handler
  refine exec.trans (congrArg Host.Outcome.next (congrArg State.calm ?_))
  exact (congrArg (fun r => State.finish r via 0x0301 seq) run).trans (State.finish_later _ _ _ _ _)

theorem loopCommands_trajectory (via : Port) (seq : BitVec 16) (first : BitVec 16) (l : List Word) (some : 1 ≤ l.length) (few : l.length ≤ 256) (inside : first.toNat + l.length ≤ 2048) :
    Does (.trajectoryLoad via seq first l) (fun u => u.pw.st = .ready ∧ u.domOn 67 = true) (fun _ => [])
      (fun u t => OnlyRegs u t ((List.range l.length).map (fun i => 0x34000 + 4 * (first.toNat + i))) ∧ ∀ i < l.length, t.rd (0x34000 + 4 * (first.toNat + i)) = l.getD i 0) := by
  refine .of_handler rfl fun u ⟨ready, on⟩ => ⟨_, cmdTrajectoryLoad_eq first l u some few inside ready on, ?_, fun i low => ?_⟩
  · refine (OnlyRegs.setWords u _ _ _).mono fun a mem => ?_
    obtain ⟨i, low, rfl⟩ := List.mem_map.1 mem
    exact List.mem_map.2 ⟨i, low, by omega⟩
  · have entry := u.get_setWords (0x34000 + 4 * first.toNat) l.length i (fun i => u32 (trajectoryOperands first l) (4 + 4 * i)) low
    rw [trajectoryOperands_entry first l i low, Nat.mod_eq_of_lt (l.getD i 0).isLt] at entry
    rw [show 0x34000 + 4 * (first.toNat + i) = 0x34000 + 4 * first.toNat + 4 * i by omega]
    exact State.rd_of_get _ _ _ entry

theorem State.hostStore_rate (u : State) (n : Fin 8) (v : Word) (noStep : u.calHostWrite (0x30004 + 0x400 * n.val) = u) :
    u.hostStore (0x30004 + 0x400 * n.val) v = if u.mode n ≠ 0 ∨ 500000 < (u.hostWrite (0x30004 + 0x400 * n.val) v).engineRate then u.set F.STEER.ENG_STAT_RATE_ERR 1
      else u.hostWrite (0x30004 + 0x400 * n.val) v := by
  have index : (0x30004 + 0x400 * n.val - 0x30000) / 0x400 = n := by omega
  rw [State.hostStore, noStep, if_neg (by omega), if_neg (by omega), if_pos (by omega), if_pos (by omega), index]
  rfl

theorem loopCommands_rate (via : Port) (seq : BitVec 16) (n : Fin 8) (v : BitVec 32) :
    Writes (.loopRateWrite via seq n v) (0x30004 + 0x400 * n.val) 1 (fun u => u.mode n = 0 ∧ (u.hostWrite (0x30004 + 0x400 * n.val) v).engineRate ≤ 500000)
      (fun u t => t = u.hostWrite (0x30004 + 0x400 * n.val) v) ∧
    Writes (.loopRateWrite via seq n v) (0x30004 + 0x400 * n.val) 1 (fun u => u.mode n ≠ 0 ∨ 500000 < (u.hostWrite (0x30004 + 0x400 * n.val) v).engineRate)
      (fun u t => OnlyRegs u t [F.STEER.ENG_STAT_RATE_ERR.addr] ∧ t.get F.STEER.ENG_STAT_RATE_ERR = 1) := by
  refine ⟨.of_loop rfl (by omega) (by omega) (by omega) (oneBlock_loop n).2.1 fun u noStep ⟨off, slow⟩ => ?_, .of_loop rfl (by omega) (by omega) (by omega) (oneBlock_loop n).2.1 fun u noStep over_ => ?_⟩
  · rw [u.hostStore_rate n v noStep]
    exact if_neg (not_or.2 ⟨not_not_intro off, not_lt.2 slow⟩)
  · rw [u.hostStore_rate n v noStep, if_pos over_]
    exact ⟨.set u _ _ (List.mem_singleton.2 rfl), State.get_set_same _ _ _ (by decide)⟩

theorem State.hostStore_stat (u : State) (n : Fin 8) (v : Word) (noStep : u.calHostWrite (0x3001C + 0x400 * n.val) = u) : u.hostStore (0x3001C + 0x400 * n.val) v = u.wrLoopStat n v := by
  rw [u.hostStore_loop _ v noStep (by omega) (by omega) (by omega), u.wrLoop_stat]

theorem loopCommands_latches (via : Port) (seq : BitVec 16) (n : Fin 8) (v : BitVec 32) :
    Writes (.fbLatchClear via seq n v) (0x3001C + 0x400 * n.val) 1 (fun u => (u.mode n = 0 ∨ u.mode n = 3) ∧ u.sourceInBand n = true)
      (fun u t => OnlyRegs u t [0x3001C + 0x400 * n.val, F.SHT.EMIT_INHIBIT_SRC.addr] ∧ t.flag (F.LOOP.LOOP_STAT_FB_LOST n) = (u.flag (F.LOOP.LOOP_STAT_FB_LOST n) && !v.getLsbD 4) ∧
        t.flag (F.LOOP.LOOP_STAT_FB_FROZEN n) = (u.flag (F.LOOP.LOOP_STAT_FB_FROZEN n) && !v.getLsbD 5) ∧
        (t.domOn 68 = true → t.fbLatched 0 = false → t.fbLatched 1 = false → t.bitAt F.SHT.EMIT_INHIBIT_SRC 2 = false)) ∧
    Writes (.fbLatchClear via seq n v) (0x3001C + 0x400 * n.val) 1 (fun u => (u.mode n ≠ 0 ∧ u.mode n ≠ 3) ∨ u.sourceInBand n = false)
      (fun u t => t.flag (F.LOOP.LOOP_STAT_FB_LOST n) = u.flag (F.LOOP.LOOP_STAT_FB_LOST n) ∧ t.flag (F.LOOP.LOOP_STAT_FB_FROZEN n) = u.flag (F.LOOP.LOOP_STAT_FB_FROZEN n)) := by
  refine ⟨.of_loop rfl (by omega) (by omega) (by omega) (oneBlock_loop n).2.2 fun u noStep ⟨mode, band⟩ => ?_, .of_loop rfl (by omega) (by omega) (by omega) (oneBlock_loop n).2.2 fun u noStep held => ?_⟩
  · rw [u.hostStore_stat n v noStep]
    obtain ⟨lost, frozen⟩ := u.wrLoopStat_flags n v
    have bits (k : Nat) : (bitsOf (u.clearing n v) k 1 == 1) = v.getLsbD k := by
      rw [u.clearing_free n v mode band, bitsOf_of_getLsbD]
      cases v.getLsbD k <;> rfl
    refine ⟨.wrLoopStat u n v, by rw [lost, bits], by rw [frozen, bits], fun on first second => ?_⟩
    have same (f : Fld) (other : f.addr ≠ 0x24410) := (OnlyRegs.releaseFb (u.hostWrite (0x3001C + 0x400 * n.val) (BitVec.ofNat 32 (u.clearing n v)))).get f (by simpa using other)
    have latched (k : Nat) : (u.wrLoopStat n v).fbLatched k = (u.hostWrite (0x3001C + 0x400 * n.val) (BitVec.ofNat 32 (u.clearing n v))).fbLatched k := by
      rw [State.fbLatched, u.wrLoopStat_eq, State.flag_of_get (same (F.LOOP.LOOP_STAT_FB_LOST k) (by simp only [F.LOOP.LOOP_STAT_FB_LOST]; omega)),
        State.flag_of_get (same (F.LOOP.LOOP_STAT_FB_FROZEN k) (by simp only [F.LOOP.LOOP_STAT_FB_FROZEN]; omega))]
      rfl
    have dom : (u.wrLoopStat n v).domOn 68 = (u.hostWrite (0x3001C + 0x400 * n.val) (BitVec.ofNat 32 (u.clearing n v))).domOn 68 :=
      State.domOn_congr (fun a mem => (OnlyRegs.releaseFb _).2 a (by revert mem; revert a; decide)) 68
    exact State.releaseFb_clears _ (dom ▸ on) (latched 0 ▸ first) (latched 1 ▸ second)
  · rw [u.hostStore_stat n v noStep]
    obtain ⟨lost, frozen⟩ := u.wrLoopStat_flags n v
    obtain ⟨four, five⟩ := u.clearing_latched n v held
    rw [lost, frozen, four, five]
    exact ⟨Bool.and_true _, Bool.and_true _⟩

/-- Settles O35, by the equation of each handler: a mode taken changes the loop and, where it leaves CLOSED, its outer loop; coefficients are staged and, outside CLOSED, copied at once. -/
theorem loopCommands : Obligations.LoopCommands := by
  unfold Obligations.LoopCommands
  refine ⟨fun via seq n m small known => ⟨?mode, fun low other => ?scanning, fun closed => ?inner, fun closed => ?latched⟩,
    fun via seq n w small len wide mid low filter => ⟨fun good => ⟨?now, ?begins, ?later⟩, fun k bad => ?offending⟩, fun n => ⟨?ended, ?waiting⟩,
    fun via seq n v small => ⟨?setpoint, ?refused⟩, fun via seq first l some few inside => ?trajectory, fun via seq n s => ?swap, loopCommands_rate, loopCommands_latches⟩
  case mode => exact loopCommands_mode via seq n m small known
  case scanning => exact .of_handler rfl fun u ⟨on, scanning⟩ => cmdLoopMode_scanning u n m small known on low other scanning
  case inner => exact .of_handler rfl fun u ⟨on, open_⟩ => cmdLoopMode_open u n m small known on closed open_
  case latched => exact .of_handler rfl fun u ⟨on, latched, inner⟩ => cmdLoopMode_latched u n m small known on closed latched inner
  case now =>
    exact .of_handler rfl fun u ⟨on, other⟩ => ⟨_, (cmdLoopCoefSet_good len small ⟨wide, mid, low⟩ filter u on good).trans (if_pos other), u.coefStaged_swap len small good other⟩
  case begins =>
    refine .of_handler rfl fun u ⟨on, closed, slow, free⟩ => ⟨u.coefStaged n w, ?_, u.staged_regs n.toNat _, fun i few => ⟨u.coefStaged_shadow len i few, ?_⟩, u.staged_pend n.toNat _⟩
    · refine (cmdLoopCoefSet_good len small ⟨wide, mid, low⟩ filter u on good).trans ((if_neg (not_not_intro closed)).trans ((if_neg (by simp [slow])).trans (if_neg (by simp [free]))))
    · exact u.staged_get n.toNat _ (F.LOOP.ACT n.toNat i) (by simp only [F.LOOP.ACT]; omega) (.inr (by simp only [F.LOOP.ACT]; omega))
  case later =>
    exact fun s p u runs on closed fast => ⟨u.coefStaged n w, u.staged_regs n.toNat _, u.staged_pend n.toNat _, fun i few => u.coefStaged_shadow len i few,
      loopCommands_coefLater via seq n w small len ⟨wide, mid, low⟩ filter good s p u runs on closed fast⟩
  case offending => exact .of_handler rfl fun u on => cmdLoopCoefSet_bad len small ⟨wide, mid, low⟩ filter u on k bad
  case ended => exact .of_effect (fun _ => rfl) fun s h => by rw [State.loopCoefComplete, if_pos (by simpa using h)]
  case waiting =>
    refine .of_effect (fun _ => rfl) fun s h => if_neg fun ⟨mine, done⟩ => ?_
    obtain other | pend := h
    · exact other mine
    · simp [pend] at done
  case setpoint =>
    refine .of_handler rfl fun u ⟨on, free⟩ => ⟨u.hostSetpoint n.toNat v, (cmdLoopSetpoint_eq u n v small on).trans (if_neg (by simp [free])), rfl, fun a other => ?_, ?_, ?_, fun m other => ?_⟩
    · exact u.rd_wr_ne _ _ a fun same => other (List.mem_singleton.2 same)
    · exact u.rd_wr_same _ v
    · rw [u.loop_hostSetpoint, if_pos rfl, signed_toInt]
    · rw [u.loop_hostSetpoint, if_neg other]
  case refused => exact .of_handler rfl fun u ⟨on, shut⟩ => (cmdLoopSetpoint_eq u n v small on).trans (if_pos shut)
  case trajectory => exact loopCommands_trajectory via seq first l some few inside
  case swap =>
    intro a p takes on noStep
    have stored := (exec_loopSwapWrite s via seq n).trans (congrArg Host.Outcome.next (s.packetIn_loopWrite via seq n _ p rfl takes _ rfl on noStep))
    exact ⟨fun other good => ⟨_, stored, (s.seen p).wrLoop_swapped n _ (asks_swap _) other good⟩, fun closed _ => ⟨_, stored, (s.seen p).wrLoop_pends n _ (asks_swap _) closed⟩⟩

end Sys2Proof.Machine
end

section
/-! PROOFS. Angle samples and the samples of the loops (R116 to R120, R127, R135). -/
namespace Sys2Proof.Machine

/-! ### Sources of EMIT_INHIBIT -/

/-- The source's bit stands after it asserts. -/
theorem State.inhibitOn_sets (s : State) (i : Fin 12) (on : s.domOn 68 = true) : (s.inhibitOn (2 ^ i.val)).bitAt F.SHT.EMIT_INHIBIT_SRC i = true := by
  have small : 2 ^ i.val < 4096 := Nat.pow_lt_pow_right (m := i.val) (n := 12) (by decide) i.isLt
  have asserted : (s.inhibited (2 ^ i.val)).bitAt F.SHT.EMIT_INHIBIT_SRC i = true := by
    rw [State.bitAt, s.inhibited_src _ small]
    change decide ((s.get F.SHT.EMIT_INHIBIT_SRC ||| 2 ^ i.val) / 2 ^ i.val % 2 = 1) = true
    rw [← Nat.testBit_eq_decide_div_mod_eq, Nat.testBit_or, Nat.testBit_two_pow_self, Bool.or_true]
  rw [s.inhibitOn_eq _ on]
  split
  · exact asserted
  · rw [State.bitAt, State.get, State.rd_raise_device _ _ _ _ _ (by decide) (by decide) (by decide)]
    exact asserted

theorem DevWords.inhibitOn {own : Nat → Prop} (s : State) (mask : Nat) (src : own 0x24410) (latch : own 0x24414) : DevWords own s (s.inhibitOn mask) := by
  unfold State.inhibitOn
  dsimp only
  split
  · split
    · exact (DevWords.set s F.SHT.EMIT_INHIBIT_SRC _ src).trans (.set _ F.SHT.EMIT_INHIBIT_LATCH_SRC _ latch)
    · exact ((DevWords.set s F.SHT.EMIT_INHIBIT_SRC _ src).trans (.set _ F.SHT.EMIT_INHIBIT_LATCH_SRC _ latch)).trans (.raise _ _ _ _ (by decide))
  · exact .refl s

/-! ### Supervision (R135, R136) -/

section
variable (s : State)

theorem State.supervise_off (n : Nat) (y : Option Int) (bad : Bool) (drive ref : Int) (off : s.flag (F.LOOP.LOOP_CTRL_FB_EN n) = false) : s.supervise n y bad drive ref = s := by
  rw [State.supervise, off]
  rfl

/-- The second period without a sample latches FB_LOST. -/
theorem State.supervise_absent (n : Nat) (bad : Bool) (drive ref : Int) (en : s.flag (F.LOOP.LOOP_CTRL_FB_EN n) = true) (mode : s.mode n = 1 ∨ s.mode n = 2) (second : 1 ≤ (s.loop n).fbAbsent) :
    s.supervise n none bad drive ref = (s.setLoop n { s.loop n with fbAbsent := (s.loop n).fbAbsent + 1 }).latchFb n 1 := by
  have runs : (s.flag (F.LOOP.LOOP_CTRL_FB_EN n) && (s.mode n == 1 || s.mode n == 2)) = true := by
    obtain one | two := mode
    · simp [en, one]
    · simp [en, two]
  rw [State.supervise, if_pos runs]
  exact if_pos (by omega)

theorem State.latchFb_mirror (fresh : s.flag (F.LOOP.LOOP_STAT_FB_LOST 0) = false) : s.latchFb 0 1 = (s.set (F.LOOP.LOOP_STAT_FB_LOST 0) 1).mirrorReaction 0 1 :=
  if_neg (by simp [fresh])

theorem State.supervise_lost (bad : Bool) (drive ref : Int) (en : s.flag (F.LOOP.LOOP_CTRL_FB_EN 0) = true) (mode : s.mode 0 = 1 ∨ s.mode 0 = 2) (second : 1 ≤ (s.loop 0).fbAbsent)
    (fresh : s.flag (F.LOOP.LOOP_STAT_FB_LOST 0) = false) :
    s.supervise 0 none bad drive ref = ((s.setLoop 0 { s.loop 0 with fbAbsent := (s.loop 0).fbAbsent + 1 }).set (F.LOOP.LOOP_STAT_FB_LOST 0) 1).mirrorReaction 0 1 :=
  (s.supervise_absent 0 bad drive ref en mode second).trans ((s.setLoop 0 _).latchFb_mirror fresh)

/-- What a loop's latch does to the emitters and to the loops. -/
theorem State.mirrorReaction_shows (n dat : Nat) (on : s.domOn 68 = true) :
    ((s.mirrorReaction n dat).loop 1).holdPend = true ∧ (s.mirrorReaction n dat).bitAt F.SHT.EMIT_INHIBIT_SRC 2 = true ∧
      (∀ f : Fld, 0x30000 ≤ f.addr → f.addr < 0x32000 → (s.mirrorReaction n dat).get f = s.get f) ∧ (s.mirrorReaction n dat).eng.yOk = s.eng.yOk ∧
      (s.mirrorReaction n dat).scan = s.scan := by
  have told := Answering.raise (s.inhibitOn (2 ^ 2)) EV_MIRROR_FEEDBACK n dat
  have inhibited := Answering.inhibitOn s (2 ^ 2)
  refine ⟨congrArg LoopSt.holdPend ((State.loop_setLoop _ 1 1 _).trans (if_pos rfl)), ?_, fun f low high => ?_, ?_, ?_⟩
  · have bit := s.inhibitOn_sets 2 on
    exact (congrArg (fun x => x / 2 ^ 2 % 2 == 1) (DevWords.get (own := fun _ => False) (.raise (s.inhibitOn (2 ^ 2)) EV_MIRROR_FEEDBACK n dat (by decide)) F.SHT.EMIT_INHIBIT_SRC
      (by decide) (by decide) not_false)).trans bit
  · exact ((DevWords.inhibitOn (own := fun a => a < 0x30000) s (2 ^ 2) (by decide) (by decide)).trans (.raise _ EV_MIRROR_FEEDBACK n dat (by decide))).get f (by omega) (by omega) (by omega)
  · exact (congrArg LoopsSt.yOk told.eng_eq).trans (congrArg LoopsSt.yOk inhibited.eng_eq)
  · exact told.scan_eq.trans inhibited.scan_eq

/-! ### The angle's converter -/

/-- The converters' samples taken. -/
def State.sampled (s : State) (code isns : Option (BitVec 16)) : State :=
  let bad := fun (c : BitVec 16) => c == 0 || c == 0xFFFF
  let s : State := match code, code.map (fun c => s.beamAngle c.toNat) with
    | some c, some v => { s with eng := { s.eng with ys := (v :: s.eng.ys).take 4, yOk := !bad c, angle := s.absAngle v } }
    | _, _ => { s with eng := { s.eng with yOk := false } }
  match isns, isns.map (fun c => (c.toNat : Int) - 32768) with
    | some c, some v => { s with eng := { s.eng with isns := (v :: s.eng.isns).take 4, iOk := !bad c } }
    | _, _ => { s with eng := { s.eng with iOk := false } }

/-- The sample nearest to the middle of the column. -/
def State.bestKept (s : State) (code : Option (BitVec 16)) (tau : Nat) : State :=
  if s.trajRuns && code.isSome then
    let dist := (2 * (tau : Int) - profC s.scan.profile).natAbs
    if s.eng.best.all (fun b => decide (dist < b.1)) then { s with eng := { s.eng with best := some (dist, s.eng.angle, s.angleValid) } } else s
  else s

end

theorem State.angleSample_eq (s : State) (code isns : Option (BitVec 16)) (tau : Nat) (on : s.domOn 67 = true) : s.angleSample code isns tau =
    let bad := fun (c : BitVec 16) => c == 0 || c == 0xFFFF
    let u := s.sampled code isns
    let ref := if u.trajRuns then u.trajRef u.scan.column tau else (u.loop 0).sp
    let v := u.supervise 0 (code.map (fun c => s.beamAngle c.toNat)) (code.any bad) (u.loop 1).out ref
    (v.supervise 1 (isns.map (fun c => (c.toNat : Int) - 32768)) (isns.any bad) (v.loop 1).out (v.spOf 1)).bestKept code tau := by
  rw [State.angleSample, if_pos on]
  rfl

theorem State.sampled_eng (s : State) (code isns : Option (BitVec 16)) : s.sampled code isns = { s with eng := (s.sampled code isns).eng } ∧ (s.sampled code isns).eng.loops = s.eng.loops := by
  cases code <;> cases isns <;> exact ⟨rfl, rfl⟩

theorem State.sampled_some (s : State) (c : BitVec 16) (isns : Option (BitVec 16)) : (s.sampled (some c) isns).eng.ys = (s.beamAngle c.toNat :: s.eng.ys).take 4 ∧
    (s.sampled (some c) isns).eng.angle = s.absAngle (s.beamAngle c.toNat) ∧ (s.sampled (some c) isns).eng.yOk = (c != 0 && c != 0xFFFF) := by
  have valid : (!(c == 0 || c == 0xFFFF)) = (c != 0 && c != 0xFFFF) := Bool.not_or _ _
  rw [← valid]
  cases isns <;> exact ⟨rfl, rfl, rfl⟩

theorem State.sampled_none (s : State) (isns : Option (BitVec 16)) : (s.sampled none isns).eng.yOk = false := by cases isns <;> rfl

theorem State.bestKept_eng (s : State) (code : Option (BitVec 16)) (tau : Nat) : s.bestKept code tau = { s with eng := (s.bestKept code tau).eng } ∧
    (s.bestKept code tau).eng.ys = s.eng.ys ∧ (s.bestKept code tau).eng.angle = s.eng.angle ∧ (s.bestKept code tau).eng.yOk = s.eng.yOk ∧ (s.bestKept code tau).eng.loops = s.eng.loops := by
  unfold State.bestKept
  dsimp only
  split
  · split <;> exact ⟨rfl, rfl, rfl, rfl, rfl⟩
  · exact ⟨rfl, rfl, rfl, rfl, rfl⟩

theorem State.bestKept_none (s : State) (tau : Nat) : s.bestKept none tau = s := if_neg (by simp)

theorem State.loop_of_loops {s t : State} (same : t.eng.loops = s.eng.loops) (k : Nat) : t.loop k = s.loop k := by rw [State.loop, same]; rfl

theorem State.sampled_flag (s : State) (code isns : Option (BitVec 16)) (f : Fld) : (s.sampled code isns).flag f = s.flag f := by rw [(s.sampled_eng code isns).1]; rfl

theorem State.sampled_get (s : State) (code isns : Option (BitVec 16)) (f : Fld) : (s.sampled code isns).get f = s.get f := by rw [(s.sampled_eng code isns).1]; rfl

/-- Without supervision a sample is only taken. -/
theorem State.angleSample_unsupervised (s : State) (c : BitVec 16) (isns : Option (BitVec 16)) (tau : Nat) (on : s.domOn 67 = true) (first : s.flag (F.LOOP.LOOP_CTRL_FB_EN 0) = false)
    (second : s.flag (F.LOOP.LOOP_CTRL_FB_EN 1) = false) : s.angleSample (some c) isns tau = (s.sampled (some c) isns).bestKept (some c) tau := by
  rw [s.angleSample_eq _ _ _ on]
  dsimp only
  rw [State.supervise_off _ 0 _ _ _ _ ((s.sampled_flag _ _ _).trans first), State.supervise_off _ 1 _ _ _ _ ((s.sampled_flag _ _ _).trans second)]

/-- The second period without an angle sample. -/
theorem State.angleSample_lost (s : State) (isns : Option (BitVec 16)) (tau : Nat) (on : s.domOn 67 = true) (emitters : s.domOn 68 = true) (en : s.flag (F.LOOP.LOOP_CTRL_FB_EN 0) = true)
    (mode : s.mode 0 = 1 ∨ s.mode 0 = 2) (fresh : s.flag (F.LOOP.LOOP_STAT_FB_LOST 0) = false) (absent : 1 ≤ (s.loop 0).fbAbsent) (other : s.flag (F.LOOP.LOOP_CTRL_FB_EN 1) = false) :
    (s.angleSample none isns tau).flag (F.LOOP.LOOP_STAT_FB_LOST 0) = true ∧ ((s.angleSample none isns tau).loop 1).holdPend = true ∧
      (s.angleSample none isns tau).bitAt F.SHT.EMIT_INHIBIT_SRC 2 = true ∧ (s.angleSample none isns tau).eng.yOk = false := by
  obtain ⟨eng, loops⟩ := s.sampled_eng none isns
  have pw : (s.sampled none isns).domOn 68 = true := by rw [eng]; exact emitters
  have none_ := s.sampled_none isns
  have flags (f : Fld) : (s.sampled none isns).flag f = s.flag f := s.sampled_flag none isns f
  have gets (f : Fld) : (s.sampled none isns).get f = s.get f := s.sampled_get none isns f
  have loop0 : (s.sampled none isns).loop 0 = s.loop 0 := State.loop_of_loops loops 0
  rw [s.angleSample_eq none isns tau on]
  dsimp only
  generalize s.sampled none isns = u at pw none_ flags gets loop0
  rw [Option.map_none, u.supervise_lost _ _ _ ((flags _).trans en) (by rw [State.mode, gets]; exact mode) (by rw [loop0]; exact absent) ((flags _).trans fresh)]
  have lost : ((u.setLoop 0 { u.loop 0 with fbAbsent := (u.loop 0).fbAbsent + 1 }).set (F.LOOP.LOOP_STAT_FB_LOST 0) 1).domOn 68 = true :=
    (State.domOn_congr (fun a mem => State.rd_set_ne _ _ _ a (by revert mem; revert a; decide)) 68).trans pw
  obtain ⟨hold, bit, words, ok, -⟩ := State.mirrorReaction_shows _ 0 1 lost
  rw [State.supervise_off _ 1 _ _ _ _ ?unsupervised, State.bestKept_none]
  case unsupervised =>
    refine (State.flag_of_get ((words _ (by decide) (by decide)).trans (State.get_set_addr _ _ _ _ (by decide)))).trans ((flags _).trans other)
  refine ⟨(State.flag_of_get (words _ (by decide) (by decide))).trans ?_, hold, bit, ok.trans none_⟩
  rw [State.flag, State.get_set_same _ _ _ rfl]
  rfl

/-! ### A due sample (R117 to R120) -/

section
variable (s : State) (n : Nat)

/-- The registers, the converters' samples, the sources and Loop 1's pending HOLD stay as they are. -/
structure SampleKept (s t : State) : Prop where
  regs : t.regs = s.regs
  ys : t.eng.ys = s.eng.ys
  isns : t.eng.isns = s.eng.isns
  hv : t.eng.hv = s.eng.hv
  src : ∀ k, (t.loop k).src = (s.loop k).src
  hold : (t.loop 1).holdPend = (s.loop 1).holdPend

variable {s} in
theorem SampleKept.get {t : State} (h : SampleKept s t) (f : Fld) : t.get f = s.get f := by rw [State.get, State.rd_congr h.regs]; rfl

variable {s} in
theorem SampleKept.measOf {t : State} (h : SampleKept s t) (n : Nat) : t.measOf n = s.measOf n := by
  unfold State.measOf
  simp only [h.ys, h.isns, h.hv, h.src, State.getI, h.get]

variable {s} in
theorem SampleKept.trans {t u : State} (first : SampleKept s t) (second : SampleKept t u) : SampleKept s u :=
  ⟨second.regs.trans first.regs, second.ys.trans first.ys, second.isns.trans first.isns, second.hv.trans first.hv, fun k => (second.src k).trans (first.src k), second.hold.trans first.hold⟩

theorem SampleKept.refl : SampleKept s s := ⟨rfl, rfl, rfl, rfl, fun _ => rfl, rfl⟩

theorem SampleKept.setLoop (x : LoopSt) (src : x.src = (s.loop n).src) (hold : x.holdPend = (s.loop n).holdPend) : SampleKept s (s.setLoop n x) := by
  refine ⟨rfl, rfl, rfl, rfl, fun k => ?_, ?_⟩
  · rw [s.loop_setLoop]
    split
    next here => rw [here]; exact src
    · rfl
  · rw [s.loop_setLoop]
    split
    next here => rw [here]; exact hold
    · rfl

theorem SampleKept.steerSetpoint (tau : Nat) : SampleKept s (s.steerSetpoint tau) := by
  have approach (u : State) (done : Bool) : SampleKept u { u with scan := { u.scan with approachDone := done } } := ⟨rfl, rfl, rfl, rfl, fun _ => rfl, rfl⟩
  unfold State.steerSetpoint
  split
  · exact .setLoop s 0 _ rfl rfl
  · refine SampleKept.trans ?_ (approach _ _)
    exact .setLoop s 0 _ rfl rfl
  · refine SampleKept.trans ?_ (approach _ _)
    exact .setLoop s 0 _ rfl rfl
  · exact .refl s

theorem SampleKept.countCascade : SampleKept s (s.countCascade n) := by
  unfold State.countCascade
  split
  · exact .setLoop s n _ rfl rfl
  · exact .refl s

/-- Before its sample a loop takes the trajectory's set-point and counts for its outer loop. -/
def State.beforeSample (s : State) (n tau : Nat) : State := (if n = 0 then s.steerSetpoint tau else s).countCascade n

theorem SampleKept.beforeSample (tau : Nat) : SampleKept s (s.beforeSample n tau) := by
  unfold State.beforeSample
  split
  · exact (SampleKept.steerSetpoint s tau).trans (.countCascade _ n)
  · exact .countCascade s n

theorem State.loopSample_eq (tau : Nat) (hv : List (Option (BitVec 16))) (noHv : n = 3 → hv = []) (on : s.domOn 67 = true) (due : s.loopDue n = true) : s.loopSample n tau hv =
    match ((s.beforeSample n tau).pendingHold n).measOf n with
    | none => (s.beforeSample n tau).pendingHold n
    | some y =>
      let u := ((s.beforeSample n tau).pendingHold n).swapNow n
      if u.mode n = 2 then u.closedSample n y else u.rampSample n y := by
  have fold : (if n = 3 then hv.foldl State.hvSample s else s) = s := by
    split
    next three => rw [noHv three]; rfl
    · rfl
  rw [State.loopSample, if_pos (by simp [on, due])]
  dsimp only
  rw [fold]
  rfl

theorem State.loopSample_closed (tau : Nat) (hv : List (Option (BitVec 16))) (y : Int) (noHv : n = 3 → hv = []) (on : s.domOn 67 = true) (due : s.loopDue n = true)
    (hold : n = 1 → (s.loop 1).holdPend = false) (pend : s.flag (F.LOOP.LOOP_STAT_SWAP_PEND n) = false) (mode : s.mode n = 2) (meas : s.measOf n = some y) :
    s.loopSample n tau hv = (s.beforeSample n tau).closedSample n y := by
  have kept := SampleKept.beforeSample s n tau
  have noHold : (s.beforeSample n tau).pendingHold n = s.beforeSample n tau := if_neg fun ⟨one, held⟩ => by rw [kept.hold, hold one] at held; cases held
  have noSwap : (s.beforeSample n tau).swapNow n = s.beforeSample n tau := if_pos (by rw [State.flag_of_get (kept.get _), pend]; rfl)
  rw [s.loopSample_eq n tau hv noHv on due, noHold, kept.measOf, meas]
  dsimp only
  rw [noSwap, if_pos (show (s.beforeSample n tau).mode n = 2 from (kept.get _).trans mode)]

/-! ### A CLOSED sample -/

theorem State.innerOf_other {s : State} {n m : Nat} (h : s.innerOf n = some m) : m ≠ n := by
  unfold State.innerOf at h
  split at h
  · cases h; omega
  · split at h
    · cases h; omega
    · split at h
      · cases h; omega
      · cases h

/-- The words of the receiver and those after it. -/
def fromReceiver (a : Nat) : Prop := 0x40000 ≤ a

/-- R145: what Loop 2's output notes of the limit on Loop 3's set-point. -/
def State.hvNoted (s : State) (u : Int) : State :=
  let lim := decide (s.hvLimit < u)
  let was := s.eng.hvLimited
  let s : State := { s with eng := { s.eng with hvLimited := lim } }
  let s := (s.setFlag F.RX.RX_STAT_HV_LIMIT lim).when lim (fun s => s.inc F.RX.HV_CLAMP)
  s.when (lim && !was) (fun s => s.raise EV_HV_LIMIT 0 (s.eng.hvSpad / 10))

theorem State.hvNoted_loops (u : Int) : (s.hvNoted u).eng.loops = s.eng.loops := by
  have raised (t : State) (b : Bool) : (t.when b (fun s => s.raise EV_HV_LIMIT 0 (s.eng.hvSpad / 10))).eng = t.eng := (Answering.when b (.raise _ _ _ _)).eng_eq
  have counted (t : State) (b : Bool) : (t.when b (fun s => s.inc F.RX.HV_CLAMP)).eng = t.eng := (Answering.when b (.inc _ _)).eng_eq
  unfold State.hvNoted
  dsimp only
  rw [raised, counted, State.setFlag_eng]

theorem DevWords.hvNoted (u : Int) : DevWords fromReceiver s (s.hvNoted u) := by
  unfold State.hvNoted
  dsimp only
  have noted (t : State) (b : Bool) : DevWords fromReceiver t { t with eng := { t.eng with hvLimited := b } } := .of_regs rfl
  have limited (t : State) (b : Bool) : DevWords fromReceiver t (t.setFlag F.RX.RX_STAT_HV_LIMIT b) := .set t _ _ (Nat.le_of_ble_eq_true rfl)
  have counted (t : State) (b : Bool) : DevWords fromReceiver t (t.when b (fun s => s.inc F.RX.HV_CLAMP)) := .when b (fun t => .set t F.RX.HV_CLAMP _ (Nat.le_of_ble_eq_true rfl)) t
  have raised (t : State) (b : Bool) : DevWords fromReceiver t (t.when b (fun s => s.raise EV_HV_LIMIT 0 (s.eng.hvSpad / 10))) := .when b (fun t => .raise t _ _ _ (by decide)) t
  exact (((noted s _).trans (limited _ _)).trans (counted _ _)).trans (raised _ _)

theorem State.deliver_eq (u : Int) : s.deliver n u = match s.innerOf n with
    | some m => let t := (s.setLoop n { s.loop n with out := u }).setLoop m { (s.setLoop n { s.loop n with out := u }).loop m with sp := u }
      if n = 2 then t.hvNoted u else t
    | none => s.setLoop n { s.loop n with out := u } := rfl

theorem State.deliver_loop (u : Int) : ((s.deliver n u).loop n) = { s.loop n with out := u } ∧ ∀ m, s.innerOf n = some m → ((s.deliver n u).loop m).sp = u := by
  rw [s.deliver_eq]
  split
  next m inner =>
    have other := State.innerOf_other inner
    have loops (t : State) (k : Nat) : ((if n = 2 then t.hvNoted u else t).loop k) = t.loop k := by
      split
      · exact State.loop_of_loops (t.hvNoted_loops u) k
      · rfl
    dsimp only
    rw [loops, State.loop_setLoop, if_neg other.symm, State.loop_setLoop, if_pos rfl]
    refine ⟨rfl, fun k same => ?_⟩
    rw [loops, ← Option.some.inj (inner.symm.trans same), State.loop_setLoop, if_pos rfl]
  next outer => exact ⟨(s.loop_setLoop n n _).trans (if_pos rfl), fun k same => nomatch outer.symm.trans same⟩

theorem DevWords.deliver (u : Int) : DevWords fromReceiver s (s.deliver n u) := by
  have stored (t : State) (k : Nat) (x : LoopSt) : DevWords fromReceiver t (t.setLoop k x) := .of_regs rfl
  rw [s.deliver_eq]
  split
  · dsimp only
    split
    · exact ((stored s n _).trans (stored _ _ _)).trans (.hvNoted _ u)
    · exact (stored s n _).trans (stored _ _ _)
  · exact stored s n _

theorem State.loopResult_eng (r y e t u : Int) : (s.loopResult n r y e t u).eng = s.eng := by
  simp only [State.loopResult, State.publish_eng, State.set64_eng, State.setI_eng]

/-- The figures of a CLOSED sample (R120): error, integrator with its term and whether it is clamped, derivative source and state, output before its limits and within them. -/
structure Pid where
  e : Int
  i : Int × Int × Bool
  xs : Int
  df : Int
  raw : Int
  u : Int

def State.pid (s : State) (n : Nat) (y : Int) : Pid :=
  let c := s.coef n
  let x := s.loop n
  let e := sat32 (clampI (s.spOf n - y) (-c.elim) c.elim)
  let i := clampInteg c (x.integ + c.ki * e)
  let xs := derivX c e y
  let df := sat32 (x.df + rnd (c.kf * (xs - x.xPrev - x.df)) 16)
  let raw := rnd (c.kp * e) c.sp + i.2.1 + rnd (c.kd * df) c.sd
  ⟨e, i, xs, df, raw, clampI raw c.outmin c.outmax⟩

/-- The loop's record and status words of a CLOSED sample. -/
def State.pidNoted (s : State) (n : Nat) (y : Int) : State :=
  let p := s.pid n y
  let inBand := if p.e.natAbs ≤ s.get (F.LOOP.LOOP_SETTLE_BAND n) then (s.loop n).inBand + 1 else 0
  let s := s.setLoop n { s.loop n with integ := p.i.1, df := p.df, xPrev := p.xs, ePrev := p.e, uPrev := p.u, inBand := inBand }
  let s := if p.i.2.2 then (s.iclamp n).inc (F.LOOP.CLAMP n) else s
  let s := s.setFlag (F.LOOP.LOOP_STAT_SAT_OUT n) (p.u != p.raw)
  s.setFlag (F.LOOP.LOOP_STAT_SETTLED n) (decide (s.get (F.LOOP.LOOP_SETTLE_N n) ≤ inBand))

variable (y : Int)

theorem State.closedSample_eq : s.closedSample n y =
    ((s.pidNoted n y).deliver n (s.pid n y).u).loopResult n (s.spOf n) y (s.pid n y).e (s.pid n y).i.2.1 (s.pid n y).u := rfl

theorem CtrlKept.pidNoted : CtrlKept s (s.pidNoted n y) := by
  unfold State.pidNoted
  dsimp only
  refine DevWords.trans (.trans (u := State.setFlag _ _ _) (t := ite _ _ _) ?_ (CtrlKept.loopWord _ n 0x1C 2 1 _ (by decide))) (CtrlKept.loopWord _ n 0x1C 0 1 _ (by decide))
  split
  · refine ((CtrlKept.setLoop s n _).trans (CtrlKept.iclamp _ n)).trans (.set _ _ _ ?_)
    simp only [offCtrl, F.LOOP.CLAMP]; omega
  · exact CtrlKept.setLoop s n _

theorem State.pidNoted_loop : ((s.pidNoted n y).loop n).integ = (s.pid n y).i.1 ∧ ((s.pidNoted n y).loop n).df = (s.pid n y).df := by
  have shown (t : State) (x : LoopSt) (same : t.eng = (s.setLoop n x).eng) : t.loop n = x := (State.loop_congr same n).trans ((s.loop_setLoop n n x).trans (if_pos rfl))
  unfold State.pidNoted
  dsimp only
  rw [shown _ _ ?kept]
  case kept =>
    rw [State.setFlag_eng, State.setFlag_eng]
    split
    · rw [State.inc_eng, State.iclamp_eng]
    · rfl
  exact ⟨rfl, rfl⟩

theorem State.pidNoted_sat : (s.pidNoted n y).flag (F.LOOP.LOOP_STAT_SAT_OUT n) = ((s.pid n y).u != (s.pid n y).raw) := by
  unfold State.pidNoted
  dsimp only
  rw [State.setFlag, State.flag, State.get_set_bits _ _ _ _ rfl (.inl (Nat.le_of_ble_eq_true rfl))]
  exact State.flag_setFlag_same _ _ _ rfl (Nat.le_refl 1)

/-! ### The result group -/

/-- The result group before its time and status. -/
def State.loopFigures (s : State) (n : Nat) (r y e t u : Int) : State :=
  ((((s.setI (F.LOOP.SP_ACT n) r).setI (F.LOOP.MEAS n) y).setI (F.LOOP.ERR n) e).setI (F.LOOP.ITERM n) t).setI (F.LOOP.OUT n) u

theorem State.get_loopResult_figures (r e t u : Int) (f : Fld) (other : f.addr < 0x30020 + 0x400 * n ∨ (0x30024 + 0x400 * n ≤ f.addr ∧ f.addr < 0x30038 + 0x400 * n) ∨ 0x30040 + 0x400 * n ≤ f.addr) :
    (s.loopResult n r y e t u).get f = (s.loopFigures n r y e t u).get f := by
  have apart (g : Fld) (here : g.addr = 0x30020 + 0x400 * n ∨ g.addr = 0x30038 + 0x400 * n ∨ g.addr = 0x3003C + 0x400 * n) (v : State) (x : Nat) : (v.set g x).get f = v.get f :=
    State.get_set_addr _ _ _ _ (by omega)
  unfold State.loopResult State.publish State.set64
  dsimp only
  rw [apart ⟨(F.LOOP.LOOP_RES_ST n).addr, 0, 16⟩ (.inl rfl), apart ⟨(F.LOOP.LOOP_RES_ST n).addr, 31, 1⟩ (.inl rfl), apart _ (.inr (.inr rfl)), apart _ (.inr (.inl rfl))]
  rfl

theorem State.get_loopResult (r e t u : Int) (f : Fld) (other : f.addr < 0x30020 + 0x400 * n ∨ 0x30040 + 0x400 * n ≤ f.addr) : (s.loopResult n r y e t u).get f = s.get f := by
  have apart (g : Fld) (here : 0x30024 + 0x400 * n ≤ g.addr ∧ g.addr < 0x30038 + 0x400 * n) (v : State) (x : Int) : (v.setI g x).get f = v.get f :=
    State.get_set_addr _ _ _ _ (by omega)
  rw [s.get_loopResult_figures n y r e t u f (by omega), State.loopFigures, apart (F.LOOP.OUT n) (by simp only [F.LOOP.OUT]; omega), apart (F.LOOP.ITERM n) (by simp only [F.LOOP.ITERM]; omega),
    apart (F.LOOP.ERR n) (by simp only [F.LOOP.ERR]; omega), apart (F.LOOP.MEAS n) (by simp only [F.LOOP.MEAS]; omega), apart (F.LOOP.SP_ACT n) (by simp only [F.LOOP.SP_ACT]; omega)]

theorem unsigned_mod (wd : Nat) (x : Int) : unsigned wd x % 2 ^ wd = unsigned wd x := by
  have positive : (0 : Int) < 2 ^ wd := by positivity
  refine Nat.mod_eq_of_lt ?_
  have low := Int.emod_nonneg x positive.ne'
  have high := Int.emod_lt_of_pos x positive
  rw [unsigned]
  zify
  rwa [Int.toNat_of_nonneg low]

theorem State.get_loopResult_out (r e t u : Int) : (s.loopResult n r y e t u).get (F.LOOP.OUT n) = unsigned 32 u := by
  rw [s.get_loopResult_figures n y r e t u _ (by simp only [F.LOOP.OUT]; omega)]
  exact (State.get_set_same _ _ _ rfl).trans (unsigned_mod 32 u)

theorem State.get_loopResult_err (r e t u : Int) : (s.loopResult n r y e t u).get (F.LOOP.ERR n) = unsigned 32 e := by
  rw [s.get_loopResult_figures n y r e t u _ (by simp only [F.LOOP.ERR]; omega), State.loopFigures, State.setI, State.get_set_addr _ _ _ _ (by simp only [F.LOOP.OUT, F.LOOP.ERR]; omega),
    State.setI, State.get_set_addr _ _ _ _ (by simp only [F.LOOP.ITERM, F.LOOP.ERR]; omega)]
  exact (State.get_set_same _ _ _ rfl).trans (unsigned_mod 32 e)

theorem State.closedSample_view (few : n ≤ 7) : ((s.closedSample n y).loop n).out = (s.pid n y).u ∧ ((s.closedSample n y).loop n).integ = (s.pid n y).i.1 ∧
    ((s.closedSample n y).loop n).df = (s.pid n y).df ∧ (∀ m, s.innerOf n = some m → ((s.closedSample n y).loop m).sp = (s.pid n y).u) ∧
    (s.closedSample n y).get (F.LOOP.OUT n) = unsigned 32 (s.pid n y).u ∧ (s.closedSample n y).get (F.LOOP.ERR n) = unsigned 32 (s.pid n y).e ∧
    (s.closedSample n y).flag (F.LOOP.LOOP_STAT_SAT_OUT n) = ((s.pid n y).u != (s.pid n y).raw) := by
  obtain ⟨integ, df⟩ := s.pidNoted_loop n y
  obtain ⟨here, inner⟩ := (s.pidNoted n y).deliver_loop n (s.pid n y).u
  have loops (k : Nat) : (s.closedSample n y).loop k = ((s.pidNoted n y).deliver n (s.pid n y).u).loop k := State.loop_congr (State.loopResult_eng _ n _ _ _ _ _) k
  refine ⟨?_, ?_, ?_, fun m same => ?_, State.get_loopResult_out _ n y _ _ _ _, State.get_loopResult_err _ n y _ _ _ _, ?_⟩
  · rw [loops, here]
  · rw [loops, here]; exact integ
  · rw [loops, here]; exact df
  · rw [loops]
    exact inner m ((State.innerOf_congr (CtrlKept.pidNoted s n y).dest n).trans same)
  · have stat : F.LOOP.LOOP_STAT_SAT_OUT n = ⟨0x3001C + 0x400 * n, 2, 1⟩ := rfl
    refine (State.flag_of_get ((State.get_loopResult _ n y _ _ _ _ _ (.inl (by rw [stat]; simp only; omega))).trans ?_)).trans (s.pidNoted_sat n y)
    exact (DevWords.deliver (s.pidNoted n y) n (s.pid n y).u).get _ (by rw [stat]; simp only; omega) (by rw [stat]; simp only; omega) (by rw [stat]; simp only [fromReceiver]; omega)

end

theorem rnd_bounds (v : Int) (k : Nat) (some : 0 < k) : 2 ^ k * rnd v k ≤ v + 2 ^ (k - 1) ∧ v + 2 ^ (k - 1) < 2 ^ k * (rnd v k + 1) := by
  have positive : (0 : Int) < 2 ^ k := by positivity
  rw [rnd, if_neg (by omega)]
  refine ⟨Int.mul_ediv_self_le positive.ne', ?_⟩
  rw [Int.mul_add, mul_one]
  exact Int.lt_mul_ediv_self_add positive

theorem State.auxFromLoop_other (s : State) (n : Fin 8) (five : n ≠ 5) (six : n ≠ 6) : s.auxFromLoop n = s := by
  have plain : ((n.val == 5 || n.val == 6) && s.get (F.LOOP.LOOP_RATE_DEST n) == 1 && s.mode n != 0 && !s.auxHeld) = false := by
    have five_ : (n.val == 5) = false := beq_eq_false_iff_ne.2 fun h => five (Fin.ext h)
    have six_ : (n.val == 6) = false := beq_eq_false_iff_ne.2 fun h => six (Fin.ext h)
    rw [five_, six_]
    rfl
  rw [State.auxFromLoop, plain]
  rfl

theorem State.loopSample_rests (s : State) (n tau : Nat) (hv : List (Option (BitVec 16))) (rests : s.domOn 67 = false ∨ s.loopDue n = false) : s.loopSample n tau hv = s := by
  have shut : (s.domOn 67 && s.loopDue n) = false := by
    obtain off | early := rests
    · simp [off]
    · simp [early]
  rw [State.loopSample, shut]
  rfl

theorem fin8_zero (n : Fin 8) : (n = 0) = (n.val = 0) := propext ⟨fun h => congrArg Fin.val h, fun h => Fin.ext h⟩

/-- Settles O36: what a converter's period and a due sample make of the loops. -/
theorem loopSamples : Obligations.LoopSamples := by
  unfold Obligations.LoopSamples
  refine ⟨fun c i tau => ?taken, fun i tau => ?lost, fun c i tau => ?off, fun n tau hv y noHv => ?due, fun n tau hv five six => ?rests, fun s n y few => ?figures, fun v => ⟨rfl, rnd_bounds v⟩⟩
  case taken =>
    refine .of_effect (fun _ => rfl) fun s ⟨on, first, second⟩ => ?_
    rw [s.angleSample_unsupervised c i tau on first second]
    obtain ⟨best, ys, angle, ok, loops⟩ := (s.sampled (some c) i).bestKept_eng (some c) tau
    obtain ⟨ys', angle', ok'⟩ := s.sampled_some c i
    obtain ⟨eng, loops'⟩ := s.sampled_eng (some c) i
    refine ⟨?_, ys.trans ys', angle.trans angle', ok.trans ok', loops.trans loops'⟩
    rw [best]
    exact congrArg (fun u : State => { u with eng := ((s.sampled (some c) i).bestKept (some c) tau).eng }) eng
  case lost =>
    exact .of_effect (fun _ => rfl) fun s ⟨on, emitters, en, mode, fresh, absent, other⟩ => s.angleSample_lost i tau on emitters en mode fresh absent other
  case off => exact .of_effect (fun _ => rfl) fun s off => if_neg (by simp [off])
  case due =>
    refine .of_effect (fun _ => rfl) fun s ⟨on, due, hold, pend, mode, meas⟩ => ?_
    rw [s.loopSample_closed n tau hv y (fun three => noHv (Fin.ext three)) on due (fun one => hold (Fin.ext one)) pend mode meas]
    simp only [fin8_zero]
    rfl
  case rests =>
    refine .of_effect (fun _ => rfl) fun s rests => ?_
    rw [s.loopSample_rests n tau hv rests, s.auxFromLoop_other n five six]
    rfl
  case figures => exact s.closedSample_view n y few

end Sys2Proof.Machine
end

section
/-! PROOFS. The receiver's bias: the overvoltage latch, the reference cells and VEX (R145 to R148, R150). -/
namespace Sys2Proof.Machine

/-! ### A write that changes no field -/

theorem withBits_bitsOf (v lo wd : Nat) : withBits v lo wd (bitsOf v lo wd) = v := by
  have low : v / 2 ^ lo % 2 ^ wd * 2 ^ lo ≤ v := (Nat.mul_le_mul_right _ (Nat.mod_le _ _)).trans (Nat.div_mul_le_self v _)
  rw [withBits, bitsOf, Nat.mod_mod]
  omega

theorem wordAfter_rests (fs : List RegFld) (old new : Nat) (rests : ∀ f ∈ fs, fieldAfter f old new = bitsOf old f.lo f.wd) : wordAfter fs old new = old := by
  have from_ (l : List RegFld) (sub : ∀ f ∈ l, fieldAfter f old new = bitsOf old f.lo f.wd) : l.foldl (fun v f => withBits v f.lo f.wd (fieldAfter f old new)) old = old := by
    induction l with
    | nil => rfl
    | cons f l ih =>
      rw [List.foldl_cons, sub f List.mem_cons_self, withBits_bitsOf]
      exact ih fun g mem => sub g (List.mem_cons_of_mem _ mem)
  exact from_ fs rests

/-- Where each field keeps its value, a host write changes no word. -/
theorem OnlyRegs.hostWrite_rests (s : State) (a : Nat) (v : Word) (rests : ∀ f ∈ fieldsAt a, fieldAfter f (s.rd a).toNat v.toNat = bitsOf (s.rd a).toNat f.lo f.wd) :
    OnlyRegs s (s.hostWrite a v) [] := by
  refine ⟨rfl, fun b _ => ?_⟩
  rw [State.hostWrite, wordAfter_rests _ _ _ rests, BitVec.ofNat_toNat, BitVec.setWidth_eq, State.rd_wr]
  split
  next here => rw [here]
  · rfl

theorem and_ones (a wd : Nat) (small : a < 2 ^ wd) : a &&& 2 ^ wd - 1 - 0 = a := by
  rw [Nat.sub_zero, Nat.and_two_pow_sub_one_eq_mod, Nat.mod_eq_of_lt small]

/-! ### The overvoltage latch -/

theorem fieldsAt_rxStat : fieldsAt F.RX.RX_STAT_HV_OVP.addr = [⟨7, 1, .w1f, 0, 0, 0, []⟩, ⟨6, 1, .ro, 0, 0, 0, []⟩, ⟨5, 1, .w1f, 0, 0, 0, []⟩, ⟨4, 1, .w1f, 0, 0, 0, []⟩,
    ⟨3, 1, .ro, 0, 0, 0, []⟩, ⟨2, 1, .ro, 0, 0, 0, []⟩] := by decide +kernel

section
variable (u : State)

theorem State.hostStore_rxStat (noStep : u.calHostWrite F.RX.RX_STAT_HV_OVP.addr = u) (v : Word) : u.hostStore F.RX.RX_STAT_HV_OVP.addr v = u.wrRxStat v := by
  rw [u.hostStore_ranging F.RX.RX_STAT_HV_OVP.addr v noStep (by decide) (by decide)]
  rfl

theorem State.wrRxStat_free (ready : u.pw.st = .ready ∨ u.pw.st = .safeHold) (low : u.eng.hvSpad < 30000) : u.wrRxStat 0x20 = u.hostWrite F.RX.RX_STAT_HV_OVP.addr 0x20 := by
  have free : ((u.pw.st == .ready || u.pw.st == .safeHold) && decide (u.eng.hvSpad < 30000)) = true := by
    obtain h | h := ready <;> simp [h, low]
  rw [State.wrRxStat, free]
  rfl

theorem State.wrRxStat_held (held : (u.pw.st ≠ .ready ∧ u.pw.st ≠ .safeHold) ∨ 30000 ≤ u.eng.hvSpad) : u.wrRxStat 0x20 = u.hostWrite F.RX.RX_STAT_HV_OVP.addr 0 := by
  have shut : ((u.pw.st == .ready || u.pw.st == .safeHold) && decide (u.eng.hvSpad < 30000)) = false := by
    obtain ⟨h, k⟩ | high := held
    · simp [h, k]
    · simp [high]
  rw [State.wrRxStat, shut]
  rfl

theorem State.ovp_cleared : (u.hostWrite F.RX.RX_STAT_HV_OVP.addr 0x20).flag F.RX.RX_STAT_HV_OVP = false := by
  have read := u.get_hostWrite F.RX.RX_STAT_HV_OVP.addr 0x20 [⟨7, 1, .w1f, 0, 0, 0, []⟩, ⟨6, 1, .ro, 0, 0, 0, []⟩] _ ⟨5, 1, .w1f, 0, 0, 0, []⟩ fieldsAt_rxStat (by decide) (by decide)
  exact (congrArg (· == 1) read).trans ((bit_and_not _ 1 (bitsOf_lt _ 5 1) (by decide)).trans (Bool.and_false _))

theorem State.ovp_rests : OnlyRegs u (u.hostWrite F.RX.RX_STAT_HV_OVP.addr 0) [] := by
  refine .hostWrite_rests u _ _ fun f mem => ?_
  rw [fieldsAt_rxStat] at mem
  have zero (lo wd : Nat) : bitsOf ((0 : Word)).toNat lo wd = 0 := by simp [bitsOf]
  have kept : f.acc = .ro ∨ f.acc = .w1f := by revert mem; revert f; decide
  rw [fieldAfter]
  obtain ro | w1f := kept
  · rw [ro]
  · rw [w1f, zero]
    exact and_ones _ _ (bitsOf_lt _ _ _)

end

/-- A write that clears HV_OVP where it may. -/
theorem receiverBias_ovpClear (via : Port) (seq : BitVec 16) :
    Writes (.hvOvpClear via seq) F.RX.RX_STAT_HV_OVP.addr 1 (fun u => (u.pw.st = .ready ∨ u.pw.st = .safeHold) ∧ u.eng.hvSpad < 30000)
      (fun u t => OnlyRegs u t [F.RX.RX_STAT_HV_OVP.addr] ∧ t.flag F.RX.RX_STAT_HV_OVP = false) ∧
    Writes (.hvOvpClear via seq) F.RX.RX_STAT_HV_OVP.addr 1 (fun u => (u.pw.st ≠ .ready ∧ u.pw.st ≠ .safeHold) ∨ 30000 ≤ u.eng.hvSpad) (fun u t => OnlyRegs u t []) := by
  have one : oneBlock F.RX.RX_STAT_HV_OVP.addr 1 = true := by decide +kernel
  have plain : plainWord F.RX.RX_STAT_HV_OVP.addr := plainWord_of_range _ ⟨by decide, by decide⟩
  refine ⟨.of_word rfl (by decide) (by decide) one (by decide) (fun u _ => u.writeRefused_other _ [_] (.inr (by decide))) plain fun u noStep ⟨ready, low⟩ => ?_,
    .of_word rfl (by decide) (by decide) one (by decide) (fun u _ => u.writeRefused_other _ [_] (.inr (by decide))) plain fun u noStep held => ?_⟩
  · rw [u.hostStore_rxStat noStep, u.wrRxStat_free ready low]
    exact ⟨⟨rfl, fun a other => u.rd_hostWrite_ne _ a _ fun same => other (List.mem_singleton.2 same)⟩, u.ovp_cleared⟩
  · rw [u.hostStore_rxStat noStep, u.wrRxStat_held held]
    exact u.ovp_rests

/-! ### The bias off (R137, R146) -/

/-- The words of the loops' blocks. -/
def loopBlock (a : Nat) : Prop := 0x30000 ≤ a ∧ a < 0x32000

section
variable (s : State) (n : Nat)

theorem DevWords.loopWord (few : n < 8) (o lo wd x : Nat) (inside : o < 0x400) : DevWords loopBlock s (s.set ⟨0x30000 + o + 0x400 * n, lo, wd⟩ x) :=
  .set s _ x ⟨by simp only; omega, by simp only; omega⟩

theorem DevWords.iclamp (few : n < 8) : DevWords loopBlock s (s.iclamp n) := by
  unfold State.iclamp
  split
  · exact .refl s
  · exact (DevWords.loopWord s n few 0x1C 1 1 1 (by decide)).trans (.raise _ _ _ _ (by decide))

theorem DevWords.rescale (few : n < 8) (e df u : Int) : DevWords loopBlock s (s.rescale n e df u) := by
  have stored (x : LoopSt) : DevWords loopBlock s (s.setLoop n x) := .of_regs rfl
  unfold State.rescale
  dsimp only
  split
  · exact (stored _).trans (.iclamp _ n few)
  · exact stored _

theorem DevWords.copyBank (few : n < 8) : DevWords loopBlock s (s.copyBank n) := by
  unfold State.copyBank
  dsimp only
  refine DevWords.trans (.each _ _ (fun u i mem => .set u _ _ ?_) s) ((DevWords.loopWord _ n few 0x1C 3 1 0 (by decide)).trans (.set _ _ _ ?_))
  · have := List.mem_range.1 mem
    simp only [loopBlock, F.LOOP.ACT]; omega
  · simp only [loopBlock, F.LOOP.SWAPS]; omega

theorem DevWords.swapNow (few : n < 8) : DevWords loopBlock s (s.swapNow n) := by
  unfold State.swapNow
  dsimp only
  split
  · exact .refl s
  · refine DevWords.trans ?_ (.answerLater _ _ _ _ _ _)
    split
    · exact (DevWords.loopWord s n few 0x1C 3 1 0 (by decide)).trans (.loopWord _ n few 0x1C 7 1 1 (by decide))
    · split
      · exact (DevWords.copyBank s n few).trans (.rescale _ n few _ _ _)
      · exact .copyBank s n few

theorem DevWords.loopToRamp (few : n < 8) (m : Nat) : DevWords loopBlock s (s.loopToRamp n m) := by
  have stored (x : LoopSt) : DevWords loopBlock s (s.setLoop n x) := .of_regs rfl
  unfold State.loopToRamp
  dsimp only
  exact (((stored _).trans (.loopWord _ n few 0 0 2 m (by decide))).trans (.loopWord _ n few 0x1C 0 1 0 (by decide))).trans (.swapNow _ n few)

/-- The record of a loop that goes on from its present value. -/
def State.rampLoop (s : State) (n : Nat) : LoopSt := { (s.loop n).freshWindows with out := s.present n, inBand := 0, holdPend := false }

theorem State.loopToRamp_eng (few : n < 8) : (s.loopToRamp n 3).eng = (s.setLoop n (s.rampLoop n)).eng := by
  have moded := (Moded.setMode s n 3 (by decide) (s.rampLoop n)).kept few (CtrlKept.loopWord _ n 0x1C 0 1 0 (by decide)) (fun _ _ => rfl)
  exact State.swapNow_eng _ n few fun closed => absurd (moded.mode.symm.trans closed) (by decide)

theorem State.loopToRamp_loop (few : n < 8) (k : Nat) : (s.loopToRamp n 3).loop k = if k = n then s.rampLoop n else s.loop k :=
  (State.loop_congr (s.loopToRamp_eng n few) k).trans (s.loop_setLoop n k _)

end

section
variable (s : State)

theorem State.biasOff_shows : s.biasOff.mode 3 = 3 ∧ s.biasOff.mode 2 = 3 ∧ (s.biasOff.loop 3).out = 0 ∧ (s.biasOff.loop 3).forced = true ∧ (s.biasOff.loop 2).forced = true := by
  obtain ⟨three, -⟩ := s.loopToRamp_moded 3 (by decide) 3 (.inr rfl)
  obtain ⟨two, -⟩ := (s.loopToRamp 3 3).loopToRamp_moded 2 (by decide) 3 (.inr rfl)
  refine ⟨(two.modes 3 (by decide) (by decide)).trans three.mode, two.mode, ?_, ?_, ?_⟩
  · rw [State.biasOff, State.loop_setLoop, if_neg (by decide), State.loop_setLoop, if_pos rfl]
  · rw [State.biasOff, State.loop_setLoop, if_neg (by decide), State.loop_setLoop, if_pos rfl]
  · rw [State.biasOff, State.loop_setLoop, if_pos rfl]

theorem DevWords.biasOff : DevWords loopBlock s s.biasOff := by
  have stored (t : State) (k : Nat) (x : LoopSt) : DevWords loopBlock t (t.setLoop k x) := .of_regs rfl
  exact (((DevWords.loopToRamp s 3 (by decide) 3).trans (.loopToRamp _ 2 (by decide) 3)).trans (stored _ _ _)).trans (stored _ _ _)

theorem State.biasOff_hvSpad : s.biasOff.eng.hvSpad = s.eng.hvSpad := by
  have ramp (t : State) (n : Nat) (few : n < 8) : (t.loopToRamp n 3).eng.hvSpad = t.eng.hvSpad := by rw [t.loopToRamp_eng n few]; rfl
  have stored (t : State) (n : Nat) (x : LoopSt) : (t.setLoop n x).eng.hvSpad = t.eng.hvSpad := rfl
  rw [State.biasOff, stored, stored, ramp _ 2 (by decide), ramp _ 3 (by decide)]

theorem State.biasOff_src (k : Nat) : (s.biasOff.loop k).src = (s.loop k).src := by
  have stored (t : State) (n : Nat) (x : LoopSt) (src : x.src = (t.loop n).src) : ((t.setLoop n x).loop k).src = (t.loop k).src := by
    rw [t.loop_setLoop]
    split
    next here => rw [here]; exact src
    · rfl
  have ramp (t : State) (n : Nat) (few : n < 8) : ((t.loopToRamp n 3).loop k).src = (t.loop k).src := by
    rw [t.loopToRamp_loop n few]
    split
    next here => rw [here]; rfl
    · rfl
  rw [State.biasOff, stored _ 2, stored _ 3, ramp _ 2 (by decide), ramp _ 3 (by decide)]
  · rfl
  · rw [State.loop_setLoop, if_neg (by decide)]

/-- The bias after an overvoltage, before its event. -/
def State.overvolted (s : State) (hv : Nat) : State :=
  let s : State := { s with eng := { s.eng with hvSpad := hv } }
  let s := s.set F.RX.RX_STAT_HV_OVP 1
  s.when (s.domOn 67) State.biasOff

theorem State.hvOvervolt_eq (hv : Nat) (on : s.domOn 69 = true) : s.hvOvervolt hv = (s.overvolted hv).raise EV_HV_OVERVOLT 0 (hv / 10) := if_pos on

theorem State.overvolted_shows (hv : Nat) : (s.overvolted hv).flag F.RX.RX_STAT_HV_OVP = true ∧ (s.overvolted hv).eng.hvSpad = hv ∧
    (s.domOn 67 = true → (s.overvolted hv).mode 3 = 3 ∧ (s.overvolted hv).mode 2 = 3 ∧ ((s.overvolted hv).loop 3).out = 0 ∧ ((s.overvolted hv).loop 3).forced = true ∧
      ((s.overvolted hv).loop 2).forced = true) := by
  have latched (t : State) : (t.set F.RX.RX_STAT_HV_OVP 1).flag F.RX.RX_STAT_HV_OVP = true := by rw [State.flag, State.get_set_same _ _ _ (by decide)]; rfl
  unfold State.overvolted
  dsimp only
  generalize shape : State.set { s with eng := { s.eng with hvSpad := hv } } F.RX.RX_STAT_HV_OVP 1 = u
  have flag : u.flag F.RX.RX_STAT_HV_OVP = true := shape ▸ latched _
  have spad : u.eng.hvSpad = hv := shape ▸ rfl
  have same : u.domOn 67 = s.domOn 67 := shape ▸ State.domOn_congr (fun a mem => State.rd_set_ne _ _ _ a (by revert mem; revert a; decide)) 67
  rw [← same]
  unfold State.when
  split
  · refine ⟨(State.flag_of_get ((DevWords.biasOff u).get _ (by decide) (by decide) (by simp only [loopBlock, F.RX.RX_STAT_HV_OVP]; omega))).trans flag, u.biasOff_hvSpad.trans spad, fun _ => u.biasOff_shows⟩
  next off => exact ⟨flag, spad, fun on => absurd on off⟩

end

/-! ### The reference cells -/

theorem State.refCell_setRefCell (s : State) (k j : Nat) (x : RefCell) : (s.setRefCell k x).refCell j = if j = k then x else s.refCell j := spGet_spSet _ _ _ _ _

/-- One cell's part of a trigger. -/
def State.refStep (l : List (Option Nat)) (s : State) (k : Nat) : State :=
  if s.flag (refBit 0x4004C (k / 6) (k % 6)) then
    match l.getD k none with
    | some v => s.setRefCell k { s.refCell k with answered := (s.refCell k).answered + 1, total := (s.refCell k).total + v }
    | none => s
  else s

theorem State.refTrigger_eq (s : State) (l : List (Option Nat)) (on : s.domOn 69 = true) : s.refTrigger l = s.each (List.range 48) (State.refStep l) := if_pos on

theorem State.refStep_rx (l : List (Option Nat)) (s : State) (k : Nat) : State.refStep l s k = { s with rx := (State.refStep l s k).rx } := by
  unfold State.refStep
  split
  · split <;> rfl
  · rfl

theorem State.refStep_other (l : List (Option Nat)) (s : State) (k j : Nat) (other : j ≠ k) : (State.refStep l s k).refCell j = s.refCell j := by
  unfold State.refStep
  split
  · split
    · exact (s.refCell_setRefCell k j _).trans (if_neg other)
    · rfl
  · rfl

theorem State.each_rx {α : Type} (l : List α) (f : State → α → State) (step : ∀ u a, f u a = { u with rx := (f u a).rx }) (s : State) : s.each l f = { s with rx := (s.each l f).rx } := by
  induction l generalizing s with
  | nil => rfl
  | cons a l ih =>
    have first := step s a
    have rest := ih (f s a)
    rw [State.each_cons]
    exact rest.trans (by rw [first])

/-- What a trigger reads and writes of one cell. -/
theorem State.refTrigger_cell (s : State) (l : List (Option Nat)) (k : Fin 48) : (s.each (List.range 48) (State.refStep l)).refCell k = (State.refStep l s k).refCell k := by
  let g : State → RefCell × Bool := fun u => (u.refCell k, u.flag (refBit 0x4004C (k.val / 6) (k.val % 6)))
  have flags (u : State) (j : Nat) (f : Fld) : (State.refStep l u j).flag f = u.flag f := by rw [State.refStep_rx]; rfl
  obtain ⟨u, same, result⟩ := State.each_own g (List.range 48) List.nodup_range (State.refStep l) k.val (List.mem_range.2 k.isLt)
    (fun u j other => Prod.ext (State.refStep_other l u j k.val other.symm) (flags u j _)) s
  have cell : u.refCell k = s.refCell k := congrArg Prod.fst same
  have flag : u.flag (refBit 0x4004C (k.val / 6) (k.val % 6)) = s.flag (refBit 0x4004C (k.val / 6) (k.val % 6)) := congrArg Prod.snd same
  refine (congrArg Prod.fst result).trans ?_
  change (State.refStep l u k).refCell k = _
  unfold State.refStep
  rw [flag]
  split
  · split
    · rw [State.refCell_setRefCell, State.refCell_setRefCell, cell]
    · exact cell
  · exact cell

theorem State.refStep_cell (s : State) (l : List (Option Nat)) (k : Nat) : (State.refStep l s k).refCell k =
    if s.flag (refBit 0x4004C (k / 6) (k % 6)) then
      (match l.getD k none with
        | some v => { s.refCell k with answered := (s.refCell k).answered + 1, total := (s.refCell k).total + v }
        | none => s.refCell k)
    else s.refCell k := by
  unfold State.refStep
  split
  · split
    next v answer => rw [State.refCell_setRefCell, if_pos rfl]
    next answer => rfl
  · rfl

/-! ### VEX (R147, R148, R150) -/

/-- Nothing of the loops or of the low words changes, nor any word outside `own`. -/
structure VexKept (own : Nat → Prop) (s t : State) : Prop where
  words : DevWords own s t
  low : Quiet [] s t
  eng : t.eng = s.eng

namespace VexKept
variable {own : Nat → Prop} {s t u : State}

theorem refl (s : State) : VexKept own s s := ⟨.refl s, .refl s, rfl⟩

theorem trans (first : VexKept own s t) (second : VexKept own t u) : VexKept own s u := ⟨first.words.trans second.words, first.low.trans second.low, second.eng.trans first.eng⟩

theorem set (s : State) (f : Fld) (x : Nat) (mine : own f.addr) (high : 0x1000 ≤ f.addr) : VexKept own s (s.set f x) := ⟨.set s f x mine, .set s f x high, rfl⟩

theorem raise (s : State) (n i d : Nat) (known : n < 256) : VexKept own s (s.raise n i d) := ⟨.raise s n i d known, .raise s n i d, (Answering.raise s n i d).eng_eq⟩

theorem of_regs (pw : t.pw = s.pw) (regs : t.regs = s.regs) (eng : t.eng = s.eng) : VexKept own s t := ⟨.of_regs regs, .of_regs pw regs, eng⟩

theorem each {α : Type} (l : List α) (f : State → α → State) (step : ∀ u, ∀ a ∈ l, VexKept own u (f u a)) (s : State) : VexKept own s (s.each l f) := by
  induction l generalizing s with
  | nil => exact .refl s
  | cons a l ih => exact (step s a List.mem_cons_self).trans (ih (fun u b mem => step u b (List.mem_cons_of_mem _ mem)) _)

theorem when (b : Bool) {f : State → State} (h : ∀ u, VexKept own u (f u)) (s : State) : VexKept own s (s.when b f) := by
  cases b
  · exact .refl s
  · exact h s

theorem mono {own' : Nat → Prop} (sub : ∀ a, own a → own' a) (h : VexKept own s t) : VexKept own' s t := ⟨h.words.mono sub, h.low, h.eng⟩

theorem dom (h : VexKept own s t) (p : Nat) (known : p < 80) : t.domOn p = s.domOn p := State.domOn_congr_of_rd (fun a small => h.low.rd_all a (by omega)) p known

end VexKept

/-- The words of the reference cells' verdicts. -/
def refWord (a : Nat) : Prop := a = 0x40080 ∨ a = 0x40084 ∨ a = 0x400A8

theorem VexKept.refJudge (s : State) (b i : Nat) (known : b < 8) (x : Bool) : VexKept refWord s (s.refJudge b i x) := by
  have noted (u : State) (k : Nat) (c : RefCell) : VexKept refWord u (u.setRefCell k c) := .of_regs rfl rfl rfl
  have dropped (u : State) (k : Nat) : VexKept refWord u { u with rx := { u.rx with refDropped := u.rx.refDropped ||| 2 ^ k }, cal := { u.cal with dropped := true } } := .of_regs rfl rfl rfl
  have live : refWord (refBit 0x40080 b i).addr ∧ 0x1000 ≤ (refBit 0x40080 b i).addr := by simp only [refBit, refWord]; omega
  unfold State.refJudge
  dsimp only
  split
  · split
    · exact ((((noted s _ _).trans (dropped _ _)).trans (.set _ _ _ live.1 live.2)).trans (.set _ F.RX.REF_DROP _ (.inr (.inr rfl)) (by decide))).trans (.raise _ _ _ _ (by decide))
    · exact noted s _ _
  · exact noted s _ _

/-- Every bank's figure and its excluded cells. -/
def State.vexFigures (s : State) : List (Nat × Option Int × List Nat) := allBanks.map (fun b => (b, s.vexBank b))

/-- The cells judged. -/
def State.refsJudged (s : State) (vs : List (Nat × Option Int × List Nat)) : State :=
  s.each vs (fun s e => s.each ((List.range 6).filter (fun i => s.flag (refBit 0x40080 e.1 i))) (fun s i => s.refJudge e.1 i (e.2.2.contains i)))

theorem VexKept.refsJudged (s u : State) : VexKept refWord s (s.refsJudged u.vexFigures) := by
  refine .each _ _ (fun t e mem => .each _ _ (fun v i _ => .refJudge v e.1 i ?_ _) t) s
  obtain ⟨b, few, rfl⟩ := List.mem_map.1 mem
  have banks : ∀ b ∈ allBanks, b < 8 := by decide
  exact banks b few

theorem State.vexFigures_good (s : State) : s.vexFigures.filterMap (fun e => e.2.1) = allBanks.filterMap (fun b => (s.vexBank b).1) := List.filterMap_map

/-- The figures published. -/
def State.vexPublished (s : State) (vs : List (Nat × Option Int × List Nat)) (t16 vex : Int) : State :=
  let hv : Int := s.eng.hvSpad
  let est := hv - vex
  let model := s.vbdModel t16
  let s := (s.setI F.RX.HV hv).setI F.RX.VEX vex
  let s := s.each vs (fun s e => s.set ⟨0x40068 + 4 * (e.1 / 2), 16 * (e.1 % 2), 16⟩ (match e.2.1 with | some v => unsigned 16 v | none => 65535))
  let s := ((s.setI F.RX.VBD_EST est).setI F.RX.VBD_MOD model).publish F.RX.VEX_ST
  let n := if 1000 < (est - model).natAbs then s.rx.suspects + 1 else 0
  let s : State := { s with rx := { s.rx with suspects := n } }
  let s := s.set F.RX.RX_STAT_VEX_VALID 1
  s.when (decide (16 ≤ n) && !s.flag F.RX.RX_STAT_REF_SUSPECT) (fun s => (s.set F.RX.RX_STAT_REF_SUSPECT 1).raise EV_BIAS_REFERENCE 0xFFFF 0)

/-- Loop 2 takes the figure, where its domain is on. -/
def State.vexToLoop (s : State) (vex : Int) : State :=
  if s.domOn 67 then (s.setLoop 2 { s.loop 2 with src := some vex }).supervise 2 (some vex) false (s.loop 2).out (s.loop 2).sp else s

/-- The mean of the valid banks, truncated. -/
def State.vexMean (s : State) : Int :=
  let l := allBanks.filterMap (fun b => (s.vexBank b).1)
  truncRat ((l.sum : Int) / (l.length : Int))

/-- The state that VEX_UPDATE judges: T_MEAN read. -/
def State.meanRead (s : State) : State := s.hubMean.2

theorem State.meanRead_eq (s : State) : s.meanRead = { s with free := s.meanRead.free } := by
  unfold State.meanRead State.hubMean
  split <;> rfl

theorem State.meanRead_bank (s : State) (b : Nat) : s.meanRead.vexBank b = s.vexBank b := by rw [s.meanRead_eq]; rfl

theorem State.meanRead_figures (s : State) : s.meanRead.vexFigures = s.vexFigures := List.map_congr_left fun b _ => by rw [s.meanRead_bank]

theorem State.vexUpdate_eq (s : State) (on : s.domOn 69 = true) : s.vexUpdate =
    if 4 ≤ (allBanks.filterMap (fun b => (s.vexBank b).1)).length then ((s.meanRead.refsJudged s.vexFigures).vexPublished s.vexFigures s.hubMean.1 s.vexMean).vexToLoop s.vexMean
    else
      let t := (s.meanRead.refsJudged s.vexFigures).set F.RX.RX_STAT_VEX_VALID 0
      if t.domOn 67 then t.supervise 2 none false (t.loop 2).out (t.loop 2).sp else t := by
  have mean : s.vexMean = truncRat (((s.vexFigures.filterMap (fun e => e.2.1)).sum : Int) / ((s.vexFigures.filterMap (fun e => e.2.1)).length : Int)) := by
    rw [s.vexFigures_good]
    rfl
  rw [mean, ← s.vexFigures_good, ← s.meanRead_figures, State.vexUpdate, if_pos on]
  rfl

/-! ### Loop 2's supervision -/

/-- Apart from the loops' blocks and EMIT_INHIBIT the words stay; so do the sources of the loops. -/
structure Supervised (s t : State) : Prop where
  words : DevWords (fun a => loopBlock a ∨ a = 0x24410 ∨ a = 0x24414) s t
  src : ∀ k, (t.loop k).src = (s.loop k).src

namespace Supervised
variable {s t u : State}

theorem refl (s : State) : Supervised s s := ⟨.refl s, fun _ => rfl⟩

theorem trans (first : Supervised s t) (second : Supervised t u) : Supervised s u := ⟨first.words.trans second.words, fun k => (second.src k).trans (first.src k)⟩

theorem setLoop (s : State) (n : Nat) (x : LoopSt) (src : x.src = (s.loop n).src) : Supervised s (s.setLoop n x) := by
  refine ⟨.of_regs rfl, fun k => ?_⟩
  rw [s.loop_setLoop]
  split
  next here => rw [here]; exact src
  · rfl

theorem of_eng (words : DevWords (fun a => loopBlock a ∨ a = 0x24410 ∨ a = 0x24414) s t) (eng : t.eng = s.eng) : Supervised s t := ⟨words, fun k => by rw [State.loop_congr eng k]⟩

theorem biasReaction (s : State) (n dat : Nat) : Supervised s (s.biasReaction n dat) := by
  have off : Supervised s s.biasOff := ⟨(DevWords.biasOff s).mono fun _ h => .inl h, s.biasOff_src⟩
  have inhibited (u : State) (b : Bool) : Supervised u (u.when b (fun s => s.inhibitOn (2 ^ 3))) :=
    .of_eng (.when b (fun v => .inhibitOn v _ (.inr (.inl rfl)) (.inr (.inr rfl))) u) (Answering.when b (.inhibitOn u _)).eng_eq
  have raised (u : State) : Supervised u (u.raise EV_BIAS_FEEDBACK n dat) := .of_eng (.raise u _ _ _ (by decide)) (Answering.raise u _ _ _).eng_eq
  exact (off.trans (inhibited _ _)).trans (raised _)

theorem latchFb (s : State) (dat : Nat) : Supervised s (s.latchFb 2 dat) := by
  have reacts (f : Fld) (here : loopBlock f.addr) : Supervised s (if s.flag f then s else if 2 ≤ 1 then (s.set f 1).mirrorReaction 2 dat else (s.set f 1).biasReaction 2 dat) := by
    have stored : Supervised s (s.set f 1) := .of_eng (.set s f 1 (.inl here)) rfl
    split
    · exact .refl s
    · rw [if_neg (by decide)]
      exact stored.trans (.biasReaction _ _ _)
  refine reacts (if dat = 1 then F.LOOP.LOOP_STAT_FB_LOST 2 else F.LOOP.LOOP_STAT_FB_FROZEN 2) ?_
  split
  · simp only [loopBlock, F.LOOP.LOOP_STAT_FB_LOST]; omega
  · simp only [loopBlock, F.LOOP.LOOP_STAT_FB_FROZEN]; omega

theorem judged (s : State) (x : LoopSt) (src : x.src = (s.loop 2).src) (c d : Prop) [Decidable c] [Decidable d] :
    Supervised s (if c then (s.setLoop 2 x).latchFb 2 1 else if d then (s.setLoop 2 x).latchFb 2 2 else s.setLoop 2 x) := by
  have stored := setLoop s 2 x src
  split
  · exact stored.trans (.latchFb _ _)
  · split
    · exact stored.trans (.latchFb _ _)
    · exact stored

theorem supervise (s : State) (y : Option Int) (bad : Bool) (drive ref : Int) : Supervised s (s.supervise 2 y bad drive ref) := by
  unfold State.supervise
  split
  · cases y with
    | none =>
      have missed := judged s { s.loop 2 with fbAbsent := (s.loop 2).fbAbsent + 1 } rfl (2 ≤ (s.loop 2).fbAbsent + 1) False
      rwa [if_neg not_false] at missed
    | some v =>
      refine judged s _ ?_ _ _
      rfl
  · exact .refl s

theorem get (h : Supervised s t) (f : Fld) (low : 0x40000 ≤ f.addr) (high : f.addr < 0x4000000) : t.get f = s.get f :=
  h.words.get f (by omega) high (by simp only [loopBlock]; omega)

end Supervised

theorem State.vexToLoop_kept (s : State) (vex : Int) : (∀ f : Fld, 0x40000 ≤ f.addr → f.addr < 0x4000000 → (s.vexToLoop vex).get f = s.get f) ∧
    (s.domOn 67 = true → ((s.vexToLoop vex).loop 2).src = some vex) := by
  have stored (f : Fld) (x : LoopSt) : (s.setLoop 2 x).get f = s.get f := rfl
  unfold State.vexToLoop
  split
  · refine ⟨fun f low high => ((Supervised.supervise _ _ _ _ _).get f low high).trans (stored f _), fun _ => ?_⟩
    rw [(Supervised.supervise _ _ _ _ _).src, State.loop_setLoop, if_pos rfl]
  next off => exact ⟨fun f _ _ => rfl, fun on => absurd on off⟩

/-! ### The figures published -/

/-- The words of the update's result group. -/
def vexWord (a : Nat) : Prop := 0x40060 ≤ a ∧ a < 0x40098

section
variable (s : State) (vs : List (Nat × Option Int × List Nat)) (vex model : Int)

/-- The figures before their status. -/
def State.vexWords (s : State) (vs : List (Nat × Option Int × List Nat)) (vex model : Int) : State :=
  let hv : Int := s.eng.hvSpad
  let s := (s.setI F.RX.HV hv).setI F.RX.VEX vex
  let s := s.each vs (fun s e => s.set ⟨0x40068 + 4 * (e.1 / 2), 16 * (e.1 % 2), 16⟩ (match e.2.1 with | some v => unsigned 16 v | none => 65535))
  (s.setI F.RX.VBD_EST (hv - vex)).setI F.RX.VBD_MOD model

/-- The status of the figures. -/
def State.vexStatus (s : State) (n : Nat) : State :=
  let s := s.publish F.RX.VEX_ST
  let s : State := { s with rx := { s.rx with suspects := n } }
  let s := s.set F.RX.RX_STAT_VEX_VALID 1
  s.when (decide (16 ≤ n) && !s.flag F.RX.RX_STAT_REF_SUSPECT) (fun s => (s.set F.RX.RX_STAT_REF_SUSPECT 1).raise EV_BIAS_REFERENCE 0xFFFF 0)

theorem State.vexPublished_eq (t16 : Int) : s.vexPublished vs t16 vex =
    (s.vexWords vs vex (s.vbdModel t16)).vexStatus (if 1000 < ((s.eng.hvSpad : Int) - vex - s.vbdModel t16).natAbs then ((s.vexWords vs vex (s.vbdModel t16)).publish F.RX.VEX_ST).rx.suspects + 1 else 0) := rfl

theorem State.get_setI_same (s : State) (f : Fld) (x : Int) (fits : f.fits = true) : (s.setI f x).get f = unsigned f.wd x :=
  (State.get_set_same _ _ _ fits).trans (unsigned_mod f.wd x)

theorem State.vexWords_gets : (s.vexWords vs vex model).get F.RX.VEX = unsigned F.RX.VEX.wd vex ∧
    (s.vexWords vs vex model).get F.RX.HV = unsigned F.RX.HV.wd (s.eng.hvSpad : Int) ∧ (s.vexWords vs vex model).get F.RX.VBD_EST = unsigned F.RX.VBD_EST.wd ((s.eng.hvSpad : Int) - vex) ∧
    (s.vexWords vs vex model).get F.RX.VBD_MOD = unsigned F.RX.VBD_MOD.wd model := by
  have each (u : State) (f : Fld) (other : f.addr = 0x40064) :
      (u.each vs (fun s e => s.set ⟨0x40068 + 4 * (e.1 / 2), 16 * (e.1 % 2), 16⟩ (match e.2.1 with | some v => unsigned 16 v | none => 65535))).get f = u.get f := by
    refine DevWords.get (own := fun a => 0x40068 ≤ a) (.each _ _ (fun v e mem => .set v _ _ ?_) u) f (by omega) (by omega) (by omega)
    simp only; omega
  have last (u : State) (f : Fld) (x y : Int) (other : f.addr = 0x40064) : ((u.setI F.RX.VBD_EST x).setI F.RX.VBD_MOD y).get f = u.get f := by
    rw [State.setI, State.get_set_addr _ _ _ _ (by rw [other]; decide), State.setI, State.get_set_addr _ _ _ _ (by rw [other]; decide)]
  unfold State.vexWords
  dsimp only
  refine ⟨?_, ?_, ?_, State.get_setI_same _ _ _ (by decide)⟩
  · rw [last _ _ _ _ rfl, each _ _ rfl, State.get_setI_same _ _ _ (by decide)]
  · rw [last _ _ _ _ rfl, each _ _ rfl, State.setI, State.get_set_bits _ _ _ _ (by decide) (.inl (by decide)), State.get_setI_same _ _ _ (by decide)]
  · rw [State.setI, State.get_set_bits _ _ _ _ (by decide) (.inl (by decide)), State.get_setI_same _ _ _ (by decide)]

theorem VexKept.vexStatus (n : Nat) : VexKept (fun a => a = 0x40060 ∨ a = 0x40090) s (s.vexStatus n) := by
  have published (u : State) : VexKept (fun a => a = 0x40060 ∨ a = 0x40090) u (u.publish F.RX.VEX_ST) :=
    (VexKept.set u ⟨F.RX.VEX_ST.addr, 31, 1⟩ 1 (.inl rfl) (by decide)).trans (.set _ ⟨F.RX.VEX_ST.addr, 0, 16⟩ _ (.inl rfl) (by decide))
  have noted (u : State) : VexKept (fun a => a = 0x40060 ∨ a = 0x40090) u { u with rx := { u.rx with suspects := n } } := .of_regs rfl rfl rfl
  have valid (u : State) : VexKept (fun a => a = 0x40060 ∨ a = 0x40090) u (u.set F.RX.RX_STAT_VEX_VALID 1) := .set u _ _ (.inr rfl) (by decide)
  have told (u : State) (b : Bool) : VexKept (fun a => a = 0x40060 ∨ a = 0x40090) u (u.when b (fun s => (s.set F.RX.RX_STAT_REF_SUSPECT 1).raise EV_BIAS_REFERENCE 0xFFFF 0)) :=
    .when b (fun v => (VexKept.set v F.RX.RX_STAT_REF_SUSPECT 1 (.inr rfl) (by decide)).trans (.raise _ _ _ _ (by decide))) u
  exact (((published s).trans (noted _)).trans (valid _)).trans (told _ _)

theorem State.vexStatus_valid (n : Nat) : (s.vexStatus n).flag F.RX.RX_STAT_VEX_VALID = true := by
  have valid (u : State) : (u.set F.RX.RX_STAT_VEX_VALID 1).flag F.RX.RX_STAT_VEX_VALID = true := by rw [State.flag, State.get_set_same _ _ _ (by decide)]; rfl
  have told (u : State) (b : Bool) : (u.when b (fun s => (s.set F.RX.RX_STAT_REF_SUSPECT 1).raise EV_BIAS_REFERENCE 0xFFFF 0)).flag F.RX.RX_STAT_VEX_VALID = u.flag F.RX.RX_STAT_VEX_VALID := by
    cases b
    · rfl
    · refine State.flag_of_get (((DevWords.raise (own := fun _ => False) _ EV_BIAS_REFERENCE 0xFFFF 0 (by decide)).get _ (by decide) (by decide) not_false).trans ?_)
      exact State.get_set_bits _ _ _ _ (by decide) (.inr (by decide))
  exact (told _ _).trans (valid _)

theorem VexKept.vexWords (banks : ∀ e ∈ vs, e.1 < 8) : VexKept vexWord s (s.vexWords vs vex model) := by
  have each (u : State) : VexKept vexWord u (u.each vs (fun s e => s.set ⟨0x40068 + 4 * (e.1 / 2), 16 * (e.1 % 2), 16⟩ (match e.2.1 with | some v => unsigned 16 v | none => 65535))) :=
    .each _ _ (fun v e mem => by have := banks e mem; exact .set v _ _ ⟨by simp only; omega, by simp only; omega⟩ (by simp only; omega)) u
  have set (u : State) (f : Fld) (x : Int) (here : f.addr = 0x40064 ∨ f.addr = 0x40078) : VexKept vexWord u (u.setI f x) := .set u f _ (by simp only [vexWord]; omega) (by omega)
  exact ((((set s F.RX.HV _ (.inl rfl)).trans (set _ F.RX.VEX _ (.inl rfl))).trans (each _)).trans (set _ F.RX.VBD_EST _ (.inr rfl))).trans (set _ F.RX.VBD_MOD _ (.inr rfl))

end

/-! ### Settled -/

section
variable (s : State)

theorem State.vexFigures_banks : ∀ e ∈ s.vexFigures, e.1 < 8 := by
  intro e mem
  obtain ⟨b, few, rfl⟩ := List.mem_map.1 mem
  have banks : ∀ b ∈ allBanks, b < 8 := by decide
  exact banks b few

/-- The state whose figures are published: T_MEAN read, the cells judged. -/
def State.vexJudged (s : State) : State := s.meanRead.refsJudged s.vexFigures

theorem VexKept.vexJudged : VexKept refWord s s.vexJudged := by
  have read : VexKept refWord s s.meanRead := by
    rw [s.meanRead_eq]
    exact .of_regs rfl rfl rfl
  exact read.trans (.refsJudged _ s)

theorem State.vexJudged_model (t16 : Int) : s.vexJudged.vbdModel t16 = s.vbdModel t16 := by
  have same (f : Fld) (here : f.addr = 0x40048) : s.vexJudged.get f = s.get f :=
    (VexKept.vexJudged s).words.get f (by omega) (by omega) (by simp only [refWord]; omega)
  rw [State.vbdModel, same _ rfl, same _ rfl]
  rfl

theorem State.vexUpdate_good (on : s.domOn 69 = true) (many : 4 ≤ (allBanks.filterMap (fun b => (s.vexBank b).1)).length) :
    s.vexUpdate.flag F.RX.RX_STAT_VEX_VALID = true ∧ s.vexUpdate.get F.RX.VEX = unsigned F.RX.VEX.wd s.vexMean ∧ s.vexUpdate.get F.RX.HV = unsigned F.RX.HV.wd (s.eng.hvSpad : Int) ∧
      s.vexUpdate.get F.RX.VBD_EST = unsigned F.RX.VBD_EST.wd ((s.eng.hvSpad : Int) - s.vexMean) ∧ s.vexUpdate.get F.RX.VBD_MOD = unsigned F.RX.VBD_MOD.wd (s.vbdModel s.hubMean.1) ∧
      (s.domOn 67 = true → (s.vexUpdate.loop 2).src = some s.vexMean) := by
  have judged := VexKept.vexJudged s
  obtain ⟨vex, hv, est, model⟩ := s.vexJudged.vexWords_gets s.vexFigures s.vexMean (s.vexJudged.vbdModel s.hubMean.1)
  rw [judged.eng] at hv est
  rw [s.vexJudged_model] at model
  have shape : s.vexUpdate = (s.vexJudged.vexPublished s.vexFigures s.hubMean.1 s.vexMean).vexToLoop s.vexMean := (s.vexUpdate_eq on).trans (if_pos many)
  rw [shape, State.vexPublished_eq]
  generalize (if 1000 < ((s.vexJudged.eng.hvSpad : Int) - s.vexMean - s.vexJudged.vbdModel s.hubMean.1).natAbs then
    ((s.vexJudged.vexWords s.vexFigures s.vexMean (s.vexJudged.vbdModel s.hubMean.1)).publish F.RX.VEX_ST).rx.suspects + 1 else 0) = n
  have words := VexKept.vexWords s.vexJudged s.vexFigures s.vexMean (s.vexJudged.vbdModel s.hubMean.1) s.vexFigures_banks
  rw [s.vexJudged_model] at words vex hv est ⊢
  generalize s.vexJudged.vexWords s.vexFigures s.vexMean (s.vbdModel s.hubMean.1) = u at vex hv est model words ⊢
  have status := VexKept.vexStatus u n
  obtain ⟨gets, source⟩ := (u.vexStatus n).vexToLoop_kept s.vexMean
  have shown (f : Fld) (low : 0x40000 ≤ f.addr) (high : f.addr < 0x4000000) (other : f.addr ≠ 0x40060 ∧ f.addr ≠ 0x40090) : ((u.vexStatus n).vexToLoop s.vexMean).get f = u.get f :=
    (gets f low high).trans (status.words.get f (by omega) high (by omega))
  refine ⟨(State.flag_of_get (gets _ (by decide) (by decide))).trans (u.vexStatus_valid n), (shown _ (by decide) (by decide) (by decide)).trans vex, (shown _ (by decide) (by decide) (by decide)).trans hv,
    (shown _ (by decide) (by decide) (by decide)).trans est, (shown _ (by decide) (by decide) (by decide)).trans model, fun loops => source ?_⟩
  exact (((judged.mono fun _ _ => trivial).trans (words.mono fun _ _ => trivial)).trans (status.mono (own' := fun _ => True) fun _ _ => trivial)).dom 67 (by decide) |>.trans loops

theorem State.vexUpdate_poor (on : s.domOn 69 = true) (few : (allBanks.filterMap (fun b => (s.vexBank b).1)).length < 4) :
    s.vexUpdate.flag F.RX.RX_STAT_VEX_VALID = false ∧ s.vexUpdate.get F.RX.VEX = s.get F.RX.VEX ∧ (s.vexUpdate.loop 2).src = (s.loop 2).src := by
  have judged := VexKept.vexJudged s
  have shape : s.vexUpdate = if (s.vexJudged.set F.RX.RX_STAT_VEX_VALID 0).domOn 67 then (s.vexJudged.set F.RX.RX_STAT_VEX_VALID 0).supervise 2 none false
      ((s.vexJudged.set F.RX.RX_STAT_VEX_VALID 0).loop 2).out ((s.vexJudged.set F.RX.RX_STAT_VEX_VALID 0).loop 2).sp else s.vexJudged.set F.RX.RX_STAT_VEX_VALID 0 :=
    (s.vexUpdate_eq on).trans (if_neg (by omega))
  have supervised : Supervised (s.vexJudged.set F.RX.RX_STAT_VEX_VALID 0) s.vexUpdate := by
    rw [shape]
    split
    · exact .supervise _ _ _ _ _
    · exact .refl _
  refine ⟨?_, ?_, ?_⟩
  · refine (State.flag_of_get (supervised.get _ (by decide) (by decide))).trans ?_
    rw [State.flag, State.get_set_same _ _ _ (by decide)]
    rfl
  · rw [supervised.get _ (by decide) (by decide), State.get_set_addr _ _ _ _ (by decide)]
    exact judged.words.get _ (by decide) (by decide) (by simp only [refWord, F.RX.VEX]; omega)
  · rw [supervised.src]
    exact congrArg LoopSt.src (State.loop_congr judged.eng 2)

end

/-- Settles O37, clause by clause: the latch with the bias off, its clearing, the triggered cells, the update's figures. -/
theorem receiverBias : Obligations.ReceiverBias := by
  unfold Obligations.ReceiverBias
  refine ⟨fun hv => ?ovp, fun hv => ?ovpOff, fun via seq => (receiverBias_ovpClear via seq).1, fun via seq => (receiverBias_ovpClear via seq).2, fun l => ?trigger, fun l => ?triggerOff, ?good, ?poor, ?off⟩
  case ovp => exact .of_effect (fun _ => rfl) fun s on => ⟨s.overvolted hv.toNat, s.hvOvervolt_eq hv.toNat on, s.overvolted_shows hv.toNat⟩
  case ovpOff => exact .of_effect (fun _ => rfl) fun s off => if_neg (by simp [off])
  case trigger =>
    refine .of_effect (fun _ => rfl) fun s on => ?_
    rw [s.refTrigger_eq l on]
    exact ⟨State.each_rx _ _ (State.refStep_rx l) s, fun k => (s.refTrigger_cell l k).trans (s.refStep_cell l k)⟩
  case triggerOff => exact .of_effect (fun _ => rfl) fun s off => if_neg (by simp [off])
  case good => exact .of_effect (fun _ => rfl) fun s ⟨on, many⟩ => s.vexUpdate_good on many
  case poor => exact .of_effect (fun _ => rfl) fun s ⟨on, few⟩ => s.vexUpdate_poor on few
  case off => exact .of_effect (fun _ => rfl) fun s off => if_neg (by simp [off])

end Sys2Proof.Machine
end

section
/-! PROOFS. The row front-ends (R142, R151 to R154, R156, R158), and where a word's block lies. -/
namespace Sys2Proof.Machine

/-! ### The block of a word (Table 20-1) -/

theorem blkInst_past (b : RegBlk) (a : Nat) (past : b.base + b.str * b.cnt ≤ a) (wide : 0 < b.str) : blkInst b a = none := by
  refine if_neg fun ⟨_, few, _⟩ => ?_
  have := (Nat.div_lt_iff_lt_mul wide).1 few
  rw [Nat.mul_comm] at this
  omega

theorem findBlkIn_past (a : Nat) (before rest : List RegBlk) (past : ∀ c ∈ before, c.base + c.str * c.cnt ≤ a ∧ 0 < c.str) : findBlkIn a (before ++ rest) = findBlkIn a rest := by
  induction before with
  | nil => rfl
  | cons c before ih =>
    obtain ⟨low, wide⟩ := past c List.mem_cons_self
    rw [List.cons_append, findBlkIn, blkInst_past c a low wide]
    exact ih fun d mem => past d (List.mem_cons_of_mem _ mem)

/-- Word `o` of copy `i` of a block behind blocks that end below it. -/
theorem findBlk_at (before after : List RegBlk) (b : RegBlk) (split : regBlocks = before ++ b :: after) (below : ∀ c ∈ before, c.base + c.str * c.cnt ≤ b.base ∧ 0 < c.str) (i o : Nat)
    (few : i < b.cnt) (inside : o < b.span) (wide : b.span ≤ b.str) : findBlk (b.base + b.str * i + o) = some (b, i, o) := by
  have off : b.base + b.str * i + o - b.base = o + b.str * i := by omega
  have inst : (o + b.str * i) / b.str = i := by rw [Nat.add_mul_div_left _ _ (by omega), Nat.div_eq_of_lt (by omega), Nat.zero_add]
  have place : (o + b.str * i) % b.str = o := by rw [Nat.add_mul_mod_self_left, Nat.mod_eq_of_lt (by omega)]
  have here : blkInst b (b.base + b.str * i + o) = some (i, o) := by
    rw [blkInst, off, inst, place, if_pos ⟨by omega, few, inside⟩]
  rw [findBlk, split, findBlkIn_past _ before _ fun c mem => ⟨(below c mem).1.trans (by omega), (below c mem).2⟩, findBlkIn, here]

theorem findBlk_slice (i o : Nat) (few : i < 128) (inside : o < 0x10000) : findBlk (0x1000000 + 0x10000 * i + o) = some (blkSlc, i, o) :=
  findBlk_at (regBlocks.take 12) (regBlocks.drop 13) blkSlc rfl (by decide +kernel) i o few inside (by decide)

/-- The fields of a word whose row has them in every copy. -/
theorem fieldsAt_of_row (a : Nat) (b : RegBlk) (i o : Nat) (fields : List RegFld) (block : findBlk a = some (b, i, o)) (row : (rowAt o b.rows).map (fun r => r.flds) = some fields)
    (all : ∀ f ∈ fields, f.only = []) : fieldsAt a = fields := by
  obtain ⟨r, at_, rfl⟩ := Option.map_eq_some_iff.1 row
  rw [fieldsAt, block]
  dsimp only
  rw [at_]
  exact List.filter_eq_self.2 fun f mem => by rw [all f mem]; rfl

theorem oneBlock_of (a n : Nat) (b : RegBlk) (i o : Nat) (block : findBlk a = some (b, i, o)) (inside : o + 4 * n ≤ b.span) : oneBlock a n = true := by
  rw [oneBlock, block]
  exact decide_eq_true inside

/-! ### Arming (R151, R156) -/

theorem State.row_setRow (s : State) (r k : Nat) (x : RowSt) : (s.setRow r x).row k = if k = r then x else s.row k := spGet_spSet _ _ _ _ _

theorem State.setRow_own (s : State) (r : Nat) (x : RowSt) : (s.setRow r x).row r = x ∧ ∀ k, k ≠ r → (s.setRow r x).row k = s.row k :=
  ⟨(s.row_setRow r r x).trans (if_pos rfl), fun k other => (s.row_setRow r k x).trans (if_neg other)⟩

section
variable (s : State) (r : Nat)

theorem State.rowArm_rests (h : s.rowOn r = false ∨ s.shotInAir (r / 128) = false ∨ (s.rxBank (r / 128)).isOpen = false) : s.rowArm r = s := by
  have shut : (s.rowOn r && s.shotInAir (r / 128) && (s.rxBank (r / 128)).isOpen) = false := by
    obtain h | h | h := h <;> simp [h]
  rw [State.rowArm]
  exact if_neg (by simp only [shut]; decide)

/-- The row's record armed for its bank's shot. -/
def State.rowArmed (s : State) (r : Nat) : RowSt :=
  let k := s.bank (r / 128)
  { s.row r with
    shots := (s.row r).shots ++ [⟨k.curCol, k.curShot, k.curRx, .pending⟩]
    acc := { (s.row r).acc with dual := (s.row r).acc.dual || (k.curRx &&& (k.curRx - 1)) != 0, mask := (s.row r).acc.mask ||| k.curRx } }

theorem State.rowArm_arms (on : s.rowOn r = true) (air : s.shotInAir (r / 128) = true) (open_ : (s.rxBank (r / 128)).isOpen = true)
    (new : (s.row r).shots.all (fun q => !(q.col == (s.bank (r / 128)).curCol && q.j == (s.bank (r / 128)).curShot)) = true) : s.rowArm r = s.setRow r (s.rowArmed r) := by
  have fresh : (s.row r).shots.any (fun q => q.col == (s.bank (r / 128)).curCol && q.j == (s.bank (r / 128)).curShot) = false := by
    rw [List.any_eq_false]
    intro q mem
    have apart := List.all_eq_true.1 new q mem
    rw [Bool.not_eq_true'] at apart
    exact Bool.eq_false_iff.1 apart
  unfold State.rowArm
  dsimp only
  rw [if_pos (by simp [on, air, open_]), fresh]
  rfl

theorem State.rowDisarm_rests (armed : Nat) (clocks : List Nat) (none : (s.row r).shots = []) : s.rowDisarm r armed clocks = s := by
  rw [State.rowDisarm]
  exact if_pos (by rw [none]; rfl)

/-- The row's survey with the clocks of a shot that ends counted. -/
def State.disarmSurvey (s : State) (r : Nat) (clocks : List Nat) : List (Nat × (Nat × Nat × Nat × Nat)) :=
  (List.range 8).foldl (fun l q =>
    let t := clocks.getD q 0
    if t = 0 ∨ s.cellMap r q / 2 ^ s.surveyCell % 2 = 0 then l
    else
      let v := surveyOf l q
      spSet (fun _ => (0, 0, 0, 0)) l q (v.1, v.2.1 + t * s.activeCells r q, v.2.2.1 + t, v.2.2.2)) (s.row r).survey

theorem State.rowDisarm_oldest (armed : Nat) (clocks : List Nat) (q : RowShot) (rest : List RowShot) (shots : (s.row r).shots = q :: rest) :
    ∃ x : RowSt, (x.shots = rest ∧ x.armed = (s.row r).armed + armed ∧ x.cellTime = (s.row r).cellTime + ((List.range 8).map (fun k => clocks.getD k 0 * s.activeCells r k)).sum) ∧
      s.rowDisarm r armed clocks = s.setRow r x := by
  have some : ¬ (s.row r).shots.isEmpty = true := by rw [shots]; simp
  refine ⟨{ s.row r with
      shots := (s.row r).shots.drop 1, armed := (s.row r).armed + armed,
      cellTime := (s.row r).cellTime + ((List.range 8).map (fun k => clocks.getD k 0 * s.activeCells r k)).sum, survey := s.disarmSurvey r clocks }, ⟨?_, rfl, rfl⟩, ?_⟩
  · rw [shots]
    rfl
  · unfold State.rowDisarm
    dsimp only
    rw [if_neg some, State.disarmSurvey]

theorem State.cellFiring_rests (q c : Nat) (h : (s.row r).shots.any (fun k => k.mask / 2 ^ q % 2 == 1) = false ∨ s.cellMap r q / 2 ^ c % 2 = 0) : s.cellFiring r q c = s := by
  refine if_neg ?_
  obtain h | h := h <;> simp [h]

theorem State.cellFiring_counts (q c : Nat) (released : (s.row r).shots.any (fun k => k.mask / 2 ^ q % 2 == 1) = true) (active : s.cellMap r q / 2 ^ c % 2 = 1) :
    ∃ survey, s.cellFiring r q c = s.setRow r { s.row r with singles := (s.row r).singles + 1, survey := survey } := by
  refine ⟨_, if_pos ?_⟩
  rw [released, active]
  rfl

/-! ### Coincidence (R153, R154) -/

variable (cc p n : Nat)

theorem State.rowEvent_rests (h : s.rowOn r = false ∨ (s.rxBank (r / 128)).isOpen = false ∨ (s.row r).shots = [] ∨ n < s.needCells r) : s.rowEvent r cc p n = s := by
  unfold State.rowEvent
  split
  next listening =>
    rw [Bool.and_eq_true] at listening
    have few : ((s.row r).shots.isEmpty || decide (n < s.needCells r)) = true := by
      obtain h | h | h | h := h
      · simp [h] at listening
      · simp [h] at listening
      · simp [h]
      · simp [h]
    have none : s.coincide r cc p n = (none, s) := by
      rw [State.coincide]
      exact if_pos few
    rw [none]
  · rfl

theorem State.rowEvent_listens (on : s.rowOn r = true) (open_ : (s.rxBank (r / 128)).isOpen = true) (shots : (s.row r).shots ≠ []) (enough : s.needCells r ≤ n) : s.rowEvent r cc p n =
    if (s.row r).last.any (fun u : Int => decide (u ≤ 8 * cc + p ∧ (8 * cc + p : Int) < u + 8 * s.getAt (r / 128) F.RX.RX_TIME_HOLDOFF)) then
      s.setRow r { s.row r with acc := { (s.row r).acc with holdHit := min 65535 ((s.row r).acc.holdHit + 1) } }
    else
      let e : HeldEv := ⟨s.rowTime r cc p, (s.row r).shots.map (fun q => (q.col, q.j))⟩
      let x := s.setRow r { s.row r with last := some (8 * cc + p) }
      if decidedAll (x.row r).shots e then x.classify r e else x.setRow r { x.row r with held := (x.row r).held ++ [e] } := by
  have some : ((s.row r).shots.isEmpty || decide (n < s.needCells r)) = false := by
    simp [shots, enough]
  unfold State.rowEvent State.coincide
  dsimp only
  rw [if_pos (by simp [on, open_]), some, if_neg (by decide)]
  by_cases held : (s.row r).last.any (fun u : Int => decide (u ≤ 8 * cc + p ∧ (8 * cc + p : Int) < u + 8 * s.getAt (r / 128) F.RX.RX_TIME_HOLDOFF)) = true
  · rw [if_pos held, if_pos held]
  · rw [if_neg held, if_neg held]

theorem State.rowEvent_holdOff (on : s.rowOn r = true) (open_ : (s.rxBank (r / 128)).isOpen = true) (shots : (s.row r).shots ≠ []) (enough : s.needCells r ≤ n)
    (last : (s.row r).last.any (fun u : Int => decide (u ≤ 8 * cc + p ∧ (8 * cc + p : Int) < u + 8 * s.getAt (r / 128) F.RX.RX_TIME_HOLDOFF)) = true) :
    ∃ x : RowSt, (x.acc.holdHit = min 65535 ((s.row r).acc.holdHit + 1) ∧ x.held = (s.row r).held ∧ x.last = (s.row r).last) ∧ s.rowEvent r cc p n = s.setRow r x := by
  refine ⟨{ s.row r with acc := { (s.row r).acc with holdHit := min 65535 ((s.row r).acc.holdHit + 1) } }, ⟨rfl, rfl, rfl⟩, ?_⟩
  rw [s.rowEvent_listens r cc p n on open_ shots enough, if_pos last]

end

theorem spPut_spPut {α : Type} (m : List (Nat × α)) (k : Nat) (x y : α) : spPut (spPut m k x) k y = spPut m k y := by
  induction m with
  | nil => simp [spPut]
  | cons e m ih =>
    obtain ⟨j, v⟩ := e
    by_cases low : k < j
    · simp [spPut, low]
    · by_cases same : k = j
      · simp [spPut, same]
      · simp [spPut, low, same, ih]

theorem State.setRow_setRow (s : State) (r : Nat) (x y : RowSt) (hx : x ≠ RowSt.init) (hy : y ≠ RowSt.init) : (s.setRow r x).setRow r y = s.setRow r y := by
  have put (m : List (Nat × RowSt)) (z : RowSt) (hz : z ≠ RowSt.init) : spSet (fun _ => RowSt.init) m r z = spPut m r z := if_neg hz
  simp only [State.setRow, put _ _ hx, put _ _ hy, spPut_spPut]

theorem row_ne_init (x : RowSt) (t : Int) (last : x.last = some t) : x ≠ RowSt.init := fun same => by
  rw [same] at last
  cases last

/-- An event outside the hold-off is judged, or held while a start is pending. -/
theorem State.rowEvent_event (s : State) (r cc p n : Nat) (on : s.rowOn r = true) (open_ : (s.rxBank (r / 128)).isOpen = true) (shots : (s.row r).shots ≠ []) (enough : s.needCells r ≤ n)
    (free : (s.row r).last.any (fun u : Int => decide (u ≤ 8 * cc + p ∧ (8 * cc + p : Int) < u + 8 * s.getAt (r / 128) F.RX.RX_TIME_HOLDOFF)) = false) : s.rowEvent r cc p n =
      let e : HeldEv := ⟨s.rowTime r cc p, (s.row r).shots.map (fun q => (q.col, q.j))⟩
      let x := s.setRow r { s.row r with last := some (8 * cc + p) }
      if decidedAll (s.row r).shots e then x.classify r e else s.setRow r { s.row r with last := some (8 * cc + p), held := (s.row r).held ++ [e] } := by
  rw [s.rowEvent_listens r cc p n on open_ shots enough, free, if_neg (by decide)]
  dsimp only
  rw [s.row_setRow, if_pos rfl]
  dsimp only
  rw [State.setRow_setRow _ _ _ _ (row_ne_init _ _ rfl) (row_ne_init _ _ rfl)]

/-! ### What is held while SCANNING -/

section
variable (s : State) (gs : List Nat) (a : Nat)

/-- One bank's word held. -/
def State.holdOne (s : State) (a g : Nat) : State :=
  match spGet (fun _ => none) s.heldRegs (heldKey g a) with
  | some _ => s
  | none => { s with heldRegs := spSet (fun _ => none) s.heldRegs (heldKey g a) (some (s.rd a)) }

theorem State.holdScanning_eq : s.holdScanning gs a = if s.pw.st = .scanning then s.each gs (fun s g => s.holdOne a g) else s := rfl

theorem State.holdOne_heldRegs (g key : Nat) : spGet (fun _ => none) (s.holdOne a g).heldRegs key =
    if key = heldKey g a ∧ spGet (fun _ => none) s.heldRegs key = none then some (s.rd a) else spGet (fun _ => none) s.heldRegs key := by
  unfold State.holdOne
  split
  next w held =>
    refine (if_neg fun ⟨same, empty⟩ => ?_).symm
    rw [same, held] at empty
    cases empty
  next empty =>
    refine (spGet_spSet (fun _ => none) s.heldRegs (heldKey g a) (some (s.rd a)) key).trans ?_
    by_cases same : key = heldKey g a
    · rw [if_pos same, if_pos ⟨same, same ▸ empty⟩]
    · rw [if_neg same, if_neg fun h => same h.1]

theorem State.holdOne_kept (g : Nat) : (s.holdOne a g).regs = s.regs ∧ (s.holdOne a g).pw = s.pw ∧ (s.holdOne a g).cal = s.cal := by
  unfold State.holdOne
  split <;> exact ⟨rfl, rfl, rfl⟩

/-- What a bank reads is the same before and after its word is held. -/
theorem State.holdOne_rdAt (g k b : Nat) (ha : a < 2 ^ 32) (hb : b < 2 ^ 32) : (s.holdOne a g).rdAt k b = s.rdAt k b := by
  rw [State.rdAt, s.holdOne_heldRegs, State.rd_congr (s.holdOne_kept a g).1, State.rdAt]
  split
  next here =>
    have same : b = a := by
      have := here.1
      simp only [heldKey] at this
      omega
    rw [here.2, same]
    rfl
  · rfl

theorem State.holdScanning_pw : (s.holdScanning gs a).pw = s.pw := by
  rw [s.holdScanning_eq]
  split
  · exact State.each_keeps State.pw gs _ (fun u g => (u.holdOne_kept a g).2.1) s
  · rfl

theorem State.holdScanning_rdAt (k b : Nat) (ha : a < 2 ^ 32) (hb : b < 2 ^ 32) : (s.holdScanning gs a).rdAt k b = s.rdAt k b := by
  rw [s.holdScanning_eq]
  split
  · exact State.each_keeps (fun u => u.rdAt k b) gs _ (fun u g => u.holdOne_rdAt a g k b ha hb) s
  · rfl

variable {gs a} in
theorem State.holdScanning_isHeld (st : s.pw.st = .scanning) {g : Nat} (mem : g ∈ gs) : spGet (fun _ => none) (s.holdScanning gs a).heldRegs (heldKey g a) ≠ none := by
  rw [s.holdScanning_eq, if_pos st]
  refine State.each_makes (fun u => spGet (fun _ => none) u.heldRegs (heldKey g a) ≠ none) gs _ g mem (fun u => ?_) (fun u k held => ?_) s
  · rw [u.holdOne_heldRegs]
    split
    · exact Option.some_ne_none _
    next full => exact fun empty => full ⟨rfl, empty⟩
  · rw [u.holdOne_heldRegs]
    split
    · exact Option.some_ne_none _
    · exact held

theorem State.rdAt_set_ne (f : Fld) (x g b : Nat) (other : b ≠ f.addr) : (s.set f x).rdAt g b = s.rdAt g b := by
  rw [State.rdAt, State.set_heldRegs, State.rd_set_ne _ _ _ _ other]
  rfl

variable {s} in
theorem State.rdAt_set_held {f : Fld} (x : Nat) {g b : Nat} (held : spGet (fun _ => none) s.heldRegs (heldKey g b) ≠ none) : (s.set f x).rdAt g b = s.rdAt g b := by
  obtain ⟨w, some⟩ := Option.ne_none_iff_exists'.1 held
  rw [State.rdAt, State.set_heldRegs, some, State.rdAt, some]
  rfl

/-- What a bank reads of a word that is held and then written. -/
theorem State.rdAt_heldSet (st : s.pw.st = .scanning) (f : Fld) (x g : Nat) (mem : g ∈ gs) (small : f.addr < 2 ^ 32) : ((s.holdScanning gs f.addr).set f x).rdAt g f.addr = s.rdAt g f.addr :=
  (State.rdAt_set_held x (s.holdScanning_isHeld st mem)).trans (s.holdScanning_rdAt gs _ g _ small small)

/-- What it reads of another word. -/
theorem State.rdAt_heldSet_ne (f : Fld) (x g b : Nat) (other : b ≠ f.addr) (ha : f.addr < 2 ^ 32) (hb : b < 2 ^ 32) : ((s.holdScanning gs f.addr).set f x).rdAt g b = s.rdAt g b :=
  (State.rdAt_set_ne _ f x g b other).trans (s.holdScanning_rdAt gs _ g b ha hb)

end

/-! ### Cell maps (R142) -/

/-- Where a word of a cell map lies in its slice's block. -/
theorem cellMap_place (i b o a : Nat) (slice : i < 128) (bank : b < 8) (inside : o < 0x40) (place : a = 0x1000000 + 0x10000 * i + (0x8040 + 0x100 * b + o)) :
    0x1000000 ≤ a ∧ a < 0x1800000 ∧ (a - 0x1000000) / 0x10000 = i ∧ a % 0x10000 = 0x8040 + 0x100 * b + o := by
  omega

theorem cellMapAt_word (i b o : Nat) (slice : i < 128) (bank : b < 8) (inside : o < 0x40) (a : Nat) (place : a = 0x1000000 + 0x10000 * i + (0x8040 + 0x100 * b + o)) :
    cellMapAt a = some (8 * (i + 128 * b) + o / 8) := by
  obtain ⟨low, high, row, off⟩ := cellMap_place i b o a slice bank inside place
  have inner : (0x8040 + 0x100 * b + o) % 0x100 = 0x40 + o ∧ (0x8040 + 0x100 * b + o - 0x8000) / 0x100 = b := by omega
  rw [cellMapAt, row, off, inner.1, inner.2, if_pos (by omega), Nat.add_sub_cancel_left]

section
variable (r : Fin 1024) (q : Fin 8)

/-- Where the cell map of a pixel group lies in its slice. -/
theorem enLo_addr : (F.ROW.EN_LO r q).addr = 0x1000000 + 0x10000 * (r.val % 128) + (0x8040 + 0x100 * (r.val / 128) + 8 * q.val) := by simp only [F.ROW.EN_LO]; omega

theorem enHi_addr : (F.ROW.EN_HI r q).addr = 0x1000000 + 0x10000 * (r.val % 128) + (0x8044 + 0x100 * (r.val / 128) + 8 * q.val) := by simp only [F.ROW.EN_HI]; omega

theorem rowAt_cellMap : ∀ b q : Fin 8, (rowAt (0x8040 + 0x100 * b.val + 8 * q.val) blkSlc.rows).map (fun r => r.flds) = some [⟨0, 32, .rw, 3221225438, 0, 0, []⟩] ∧
    (rowAt (0x8044 + 0x100 * b.val + 8 * q.val) blkSlc.rows).map (fun r => r.flds) = some [⟨0, 4, .rw, 7, 0, 0, []⟩] := by decide +kernel

theorem fieldsAt_cellMap : fieldsAt (F.ROW.EN_LO r q).addr = [⟨0, 32, .rw, 3221225438, 0, 0, []⟩] ∧ fieldsAt (F.ROW.EN_HI r q).addr = [⟨0, 4, .rw, 7, 0, 0, []⟩] := by
  obtain ⟨lo, hi⟩ := rowAt_cellMap ⟨r.val / 128, by omega⟩ q
  refine ⟨fieldsAt_of_row _ blkSlc (r.val % 128) _ _ ?_ lo (by decide), fieldsAt_of_row _ blkSlc (r.val % 128) _ _ ?_ hi (by decide)⟩
  · rw [enLo_addr]
    exact findBlk_slice _ _ (Nat.mod_lt _ (by decide)) (by omega)
  · rw [enHi_addr]
    exact findBlk_slice _ _ (Nat.mod_lt _ (by decide)) (by omega)

theorem oneBlock_cellMap : oneBlock (F.ROW.EN_LO r q).addr 2 = true := by
  refine oneBlock_of _ 2 blkSlc (r.val % 128) (0x8040 + 0x100 * (r.val / 128) + 8 * q.val) ?_ (by simp only [blkSlc]; omega)
  rw [enLo_addr]
  exact findBlk_slice _ _ (Nat.mod_lt _ (by decide)) (by omega)

theorem cellMap_ends : ((wordAddrs (F.ROW.EN_LO r q).addr 2).filterMap cellMapAt).dedup = [8 * r.val + q.val] ∧ ((wordAddrs (F.ROW.EN_LO r q).addr 2).filterMap tapMapAt).dedup = [] ∧
    ((wordAddrs (F.ROW.EN_LO r q).addr 2).filterMap linAddr).dedup = [] := by
  have words : wordAddrs (F.ROW.EN_LO r q).addr 2 = [(F.ROW.EN_LO r q).addr + 4 * 0, (F.ROW.EN_LO r q).addr + 4 * 1] := rfl
  have cell (i : Nat) (few : i < 2) : cellMapAt ((F.ROW.EN_LO r q).addr + 4 * i) = some (8 * r.val + q.val) := by
    rw [enLo_addr, cellMapAt_word (r.val % 128) (r.val / 128) (8 * q.val + 4 * i) (Nat.mod_lt _ (by decide)) (by omega) (by omega) _ (by omega)]
    congr 1
    omega
  have tap (i : Nat) (few : i < 2) : tapMapAt ((F.ROW.EN_LO r q).addr + 4 * i) = none := by
    rw [enLo_addr]
    exact if_neg (by omega)
  have lin (i : Nat) (few : i < 2) : linAddr ((F.ROW.EN_LO r q).addr + 4 * i) = none := by
    rw [enLo_addr]
    exact if_neg (by omega)
  rw [words]
  simp only [List.filterMap_cons, cell 0 (by decide), cell 1 (by decide), tap 0 (by decide), tap 1 (by decide), lin 0 (by decide), lin 1 (by decide), List.filterMap_nil]
  refine ⟨?_, rfl, rfl⟩
  simp

variable (u : State) (lo hi : BitVec 32)

/-- The two words of a cell map stored: what is in force is held while SCANNING. -/
def State.cellStored (u : State) (r q : Nat) (lo hi : BitVec 32) : State :=
  (((u.holdScanning [r / 128] (F.ROW.EN_LO r q).addr).set (F.ROW.EN_LO r q) lo.toNat).holdScanning [r / 128] (F.ROW.EN_HI r q).addr).set (F.ROW.EN_HI r q) (bitsOf hi.toNat 0 4)

theorem State.wrRow_cellMap (a : Nat) (v : Word) (place : ∃ o < 0x40, a = 0x1000000 + 0x10000 * (r.val % 128) + (0x8040 + 0x100 * (r.val / 128) + o)) :
    u.wrRow a v = (u.holdScanning [r.val / 128] a).hostWrite a v := by
  obtain ⟨o, small, rfl⟩ := place
  have bank : (0x1000000 + 0x10000 * (r.val % 128) + (0x8040 + 0x100 * (r.val / 128) + o)) % 0x1000 / 0x100 = r.val / 128 := by omega
  unfold State.wrRow
  dsimp only
  rw [bank, if_neg (by omega), if_pos (by omega)]

theorem State.holdScanning_cal (gs : List Nat) (a : Nat) : (u.holdScanning gs a).cal = u.cal ∧ (u.holdScanning gs a).regs = u.regs := by
  rw [u.holdScanning_eq]
  split
  · exact ⟨State.each_keeps State.cal gs _ (fun v g => (v.holdOne_kept a g).2.2) u, State.each_keeps State.regs gs _ (fun v g => (v.holdOne_kept a g).1) u⟩
  · exact ⟨rfl, rfl⟩

theorem State.storeWords_cellMap (noStep : u.noStep (wordAddrs (F.ROW.EN_LO r q).addr 2) = true) : u.storeWords (F.ROW.EN_LO r q).addr [lo, hi] = u.cellStored r q lo hi := by
  obtain ⟨first, second⟩ := fieldsAt_cellMap r q
  have store (s : State) (same : s.cal = u.cal) (x : Nat) (mem : x ∈ wordAddrs (F.ROW.EN_LO r q).addr 2) (v : Word) (place : ∃ o < 0x40, x = 0x1000000 + 0x10000 * (r.val % 128) + (0x8040 + 0x100 * (r.val / 128) + o)) :
      s.hostStore x v = (s.holdScanning [r.val / 128] x).hostWrite x v := by
    have bounds : 0x1000000 ≤ x ∧ x < 0x1800000 ∧ 0x8000 ≤ x % 0x10000 ∧ x % 0x10000 < 0x8800 := by
      obtain ⟨o, small, at_⟩ := place
      obtain ⟨low, high, -, off⟩ := cellMap_place (r.val % 128) (r.val / 128) o x (Nat.mod_lt _ (by decide)) (by omega) small (by omega)
      exact ⟨low, high, by omega, by omega⟩
    rw [s.hostStore_row x v (s.calHostWrite_of_noStep _ x mem (State.noStep_congr same noStep)) bounds.1 bounds.2.1 bounds.2.2, s.wrRow_cellMap r x v place]
  have one : u.hostStore (F.ROW.EN_LO r q).addr lo = (u.holdScanning [r.val / 128] (F.ROW.EN_LO r q).addr).set (F.ROW.EN_LO r q) lo.toNat := by
    rw [store u rfl (F.ROW.EN_LO r q).addr (List.mem_map.2 ⟨0, by decide, rfl⟩) lo ⟨8 * q.val, by omega, enLo_addr r q⟩, State.hostWrite_field _ _ 0 32 _ _ first, bitsOf_word]
    rfl
  have two (s : State) (same : s.cal = u.cal) : s.hostStore (F.ROW.EN_HI r q).addr hi = (s.holdScanning [r.val / 128] (F.ROW.EN_HI r q).addr).set (F.ROW.EN_HI r q) (bitsOf hi.toNat 0 4) := by
    rw [store s same (F.ROW.EN_HI r q).addr (List.mem_map.2 ⟨1, by decide, by simp only [F.ROW.EN_LO, F.ROW.EN_HI]; omega⟩) hi ⟨8 * q.val + 4, by omega, (enHi_addr r q).trans (by omega)⟩, State.hostWrite_field _ _ 0 4 _ _ second]
    rfl
  have next : (F.ROW.EN_LO r q).addr + 4 = (F.ROW.EN_HI r q).addr := by simp only [F.ROW.EN_LO, F.ROW.EN_HI]; omega
  rw [State.storeWords, State.storeWords, State.storeWords, one, next, two ((u.holdScanning [r.val / 128] (F.ROW.EN_LO r q).addr).set (F.ROW.EN_LO r q) lo.toNat) (u.holdScanning_cal _ _).1]
  rfl

theorem State.hostWrites_cellMap (noStep : u.noStep (wordAddrs (F.ROW.EN_LO r q).addr 2) = true) :
    u.hostWrites (F.ROW.EN_LO r q).addr [lo, hi] = (u.cellStored r q lo hi).endCellMap u r q := by
  obtain ⟨cells, taps, lins⟩ := cellMap_ends r q
  have row : (8 * r.val + q.val) / 8 = r.val ∧ (8 * r.val + q.val) % 8 = q.val := by omega
  rw [State.hostWrites, u.storeWords_cellMap r q lo hi noStep, State.endWrite, show [lo, hi].length = 2 from rfl, cells, taps, lins]
  simp only [State.each, List.foldl_cons, List.foldl_nil, row.1, row.2]

theorem enHi_ne_enLo : (F.ROW.EN_LO r q).addr ≠ (F.ROW.EN_HI r q).addr := by simp only [F.ROW.EN_LO, F.ROW.EN_HI]; omega

theorem State.cellStored_get : (u.cellStored r q lo hi).get (F.ROW.EN_LO r q) = lo.toNat ∧ (u.cellStored r q lo hi).get (F.ROW.EN_HI r q) = bitsOf hi.toNat 0 4 := by
  have held (s : State) (a : Nat) (f : Fld) : (s.holdScanning [r.val / 128] a).get f = s.get f := by rw [State.get, State.rd_congr (s.holdScanning_cal _ a).2]; rfl
  refine ⟨?_, (State.get_set_same _ _ _ rfl).trans (Nat.mod_eq_of_lt (bitsOf_lt _ 0 4))⟩
  rw [State.cellStored, State.get_set_addr _ _ _ _ (enHi_ne_enLo r q), held]
  exact (State.get_set_same _ _ _ rfl).trans (Nat.mod_eq_of_lt lo.isLt)

theorem State.cellStored_rd (a : Nat) (low : a ≠ (F.ROW.EN_LO r q).addr) (high : a ≠ (F.ROW.EN_HI r q).addr) : (u.cellStored r q lo hi).rd a = u.rd a := by
  rw [State.cellStored, State.rd_set_ne _ _ _ _ high, State.rd_congr (State.holdScanning_cal _ _ _).2, State.rd_set_ne _ _ _ _ low, State.rd_congr (State.holdScanning_cal _ _ _).2]

theorem State.holdScanning_other (st : u.pw.st ≠ .scanning) (gs : List Nat) (a : Nat) : u.holdScanning gs a = u := if_neg st

theorem State.cellStored_regs (st : u.pw.st ≠ .scanning) : u.cellStored r q lo hi = { u with regs := (u.cellStored r q lo hi).regs } := by
  have second : ((u.set (F.ROW.EN_LO r q) lo.toNat).holdScanning [r.val / 128] (F.ROW.EN_HI r q).addr) = u.set (F.ROW.EN_LO r q) lo.toNat := if_neg st
  rw [State.cellStored, u.holdScanning_other st, second]
  rfl

/-- R142: a map of at most 32 cells is kept. -/
theorem State.endCellMap_keeps (few : popCount 36 (lo.toNat + 2 ^ 32 * bitsOf hi.toNat 0 4) ≤ 32) : (u.cellStored r q lo hi).endCellMap u r q = u.cellStored r q lo hi := by
  obtain ⟨low, high⟩ := u.cellStored_get r q lo hi
  rw [State.endCellMap, low, high]
  exact if_neg (Nat.not_lt.2 few)

theorem State.endCellMap_discards (many : 32 < popCount 36 (lo.toNat + 2 ^ 32 * bitsOf hi.toNat 0 4)) (st : u.pw.st ≠ .scanning) :
    OnlyRegs u ((u.cellStored r q lo hi).endCellMap u r q) [(F.ROW.ROW_STAT_MAP_ERR r).addr] ∧ ((u.cellStored r q lo hi).endCellMap u r q).flag (F.ROW.ROW_STAT_MAP_ERR r) = true := by
  obtain ⟨low, high⟩ := u.cellStored_get r q lo hi
  have shape : (u.cellStored r q lo hi).endCellMap u r q =
      (((u.cellStored r q lo hi).wr (F.ROW.EN_LO r q).addr (u.rd (F.ROW.EN_LO r q).addr)).wr (F.ROW.EN_HI r q).addr (u.rd (F.ROW.EN_HI r q).addr)).set (F.ROW.ROW_STAT_MAP_ERR r) 1 := by
    rw [State.endCellMap, low, high]
    exact if_pos many
  rw [shape]
  refine ⟨⟨?_, fun a other => ?_⟩, ?_⟩
  · have regs := u.cellStored_regs r q lo hi st
    generalize (u.cellStored r q lo hi) = v at regs ⊢
    rw [regs]
    rfl
  · rw [State.rd_set_ne _ _ _ _ fun same => other (List.mem_singleton.2 same), State.rd_wr]
    split
    next here => rw [here]
    next away =>
      rw [State.rd_wr]
      split
      next here => rw [here]
      next far => exact u.cellStored_rd r q lo hi a far away
  · rw [State.flag, State.get_set_same _ _ _ rfl]
    rfl

theorem State.cellStored_map (st : u.pw.st = .scanning) : (u.cellStored r q lo hi).cellMap r q = u.cellMap r q := by
  have low_ : (F.ROW.EN_LO r q).addr < 2 ^ 32 := by rw [enLo_addr]; omega
  have high_ : (F.ROW.EN_HI r q).addr < 2 ^ 32 := by rw [enHi_addr]; omega
  have scanning : ((u.holdScanning [r.val / 128] (F.ROW.EN_LO r q).addr).set (F.ROW.EN_LO r q) lo.toNat).pw.st = .scanning := (congrArg PowerSt.st (u.holdScanning_pw _ _)).trans st
  have low : (u.cellStored r q lo hi).rdAt (r.val / 128) (F.ROW.EN_LO r q).addr = u.rdAt (r.val / 128) (F.ROW.EN_LO r q).addr :=
    (State.rdAt_heldSet_ne _ _ (F.ROW.EN_HI r q) _ _ _ (enHi_ne_enLo r q) high_ low_).trans (u.rdAt_heldSet _ st (F.ROW.EN_LO r q) _ _ (List.mem_singleton.2 rfl) low_)
  have high : (u.cellStored r q lo hi).rdAt (r.val / 128) (F.ROW.EN_HI r q).addr = u.rdAt (r.val / 128) (F.ROW.EN_HI r q).addr :=
    (State.rdAt_heldSet _ _ scanning (F.ROW.EN_HI r q) _ _ (List.mem_singleton.2 rfl) high_).trans (u.rdAt_heldSet_ne _ (F.ROW.EN_LO r q) _ _ _ (enHi_ne_enLo r q).symm low_ high_)
  rw [State.cellMap, State.cellMap, State.getAt, State.getAt, low, high]
  rfl

end

/-- A cell map's row of the two words. -/
theorem rowFrontEnds_cellMap (via : Port) (seq : BitVec 16) (r : Fin 1024) (q : Fin 8) (lo hi : BitVec 32) {h : State → Prop} {e : State → State → Prop}
    (effect : ∀ u, h u → e u ((u.cellStored r q lo hi).endCellMap u r q)) : Writes (.cellMapWrite via seq r q lo hi) (F.ROW.EN_LO r q).addr 2 h e := by
  have place := enLo_addr r q
  refine .of_store (vs := [lo, hi]) rfl (by omega) (Nat.le_of_ble_eq_true rfl) (List.cons_ne_nil _ _) (by omega) (oneBlock_cellMap r q)
    (unlocked_of_range _ 2 ⟨by omega, by omega⟩) (fun u _ => u.writeRefused_other _ [lo, hi] (.inr (by omega))) fun u noStep hu => ?_
  rw [u.hostWrites_cellMap r q lo hi noStep]
  exact effect u hu

/-! ### The ladder (R158) -/

section
variable (u : State) (k : Fin 6) (v : BitVec 32)

/-- The ladder as a write of word `k` leaves it. -/
def State.ladderAfter (u : State) (k : Nat) (v : BitVec 32) : Bool :=
  ladderOk (fun j => if j = k then v.toNat else (u.rd (0x40020 + 4 * j)).toNat) (u.get F.RX.ADAPT_CFG_STEP_MAX)

theorem State.hostStore_ladder (noStep : u.calHostWrite (0x40020 + 4 * k.val) = u) : u.hostStore (0x40020 + 4 * k.val) v =
    if u.ladderAfter k v then (u.holdScanning allBanks (0x40020 + 4 * k.val)).set ⟨0x40020 + 4 * k.val, 0, 32⟩ v.toNat else u.set F.RX.RX_STAT_CFG_ERR 1 := by
  have index : (0x40020 + 4 * k.val - 0x40020) / 4 = k.val := by omega
  have stat : ¬ 0x40020 + 4 * k.val = F.RX.RX_STAT_CFG_ERR.addr := by simp only [F.RX.RX_STAT_CFG_ERR]; omega
  have word : (u.holdScanning allBanks (0x40020 + 4 * k.val)).wr (0x40020 + 4 * k.val) v = (u.holdScanning allBanks (0x40020 + 4 * k.val)).set ⟨0x40020 + 4 * k.val, 0, 32⟩ v.toNat := by
    rw [← State.wr_eq_set, BitVec.ofNat_toNat, BitVec.setWidth_eq]
  rw [u.hostStore_ranging _ v noStep (by omega) (by omega), State.wrRanging, if_pos (by omega), State.wrRx, if_neg stat, if_pos (by omega), State.wrLadder]
  rw [index, word]
  rfl

theorem State.ladderSet_rd (s : State) : (s.set ⟨0x40020 + 4 * k.val, 0, 32⟩ v.toNat).rd (0x40020 + 4 * k.val) = v :=
  State.rd_of_get _ _ _ ((State.get_set_same _ _ _ rfl).trans (Nat.mod_eq_of_lt v.isLt))

theorem State.ladderSet_stepKW (st : u.pw.st = .scanning) (b : Fin 8) (i : Fin 6) :
    ((u.holdScanning allBanks (0x40020 + 4 * k.val)).set ⟨0x40020 + 4 * k.val, 0, 32⟩ v.toNat).stepKW b i = u.stepKW b i := by
  have banks : ∀ b : Fin 8, b.val ∈ allBanks := by decide
  have same : ((u.holdScanning allBanks (0x40020 + 4 * k.val)).set ⟨0x40020 + 4 * k.val, 0, 32⟩ v.toNat).rdAt b (0x40020 + 0x4 * i.val) = u.rdAt b (0x40020 + 0x4 * i.val) := by
    by_cases here : i = k
    · rw [here]
      exact u.rdAt_heldSet allBanks st ⟨0x40020 + 4 * k.val, 0, 32⟩ _ b (banks b) (by simp only; omega)
    · exact u.rdAt_heldSet_ne allBanks ⟨0x40020 + 4 * k.val, 0, 32⟩ _ b _ (by simp only; omega) (by simp only; omega) (by omega)
  have low : ¬ i.val = 7 := by omega
  rw [State.stepKW, if_neg low, State.stepKW, if_neg low]
  simp only [State.getAt, F.RX.LADDER_K, F.RX.LADDER_W, same]

end

theorem rowFrontEnds_ladder (via : Port) (seq : BitVec 16) (k : Fin 6) (v : BitVec 32) :
    Writes (.ladderWrite via seq k v) (0x40020 + 4 * k.val) 1 (fun u => u.ladderAfter k v = true ∧ u.pw.st ≠ .scanning)
      (fun u t => OnlyRegs u t [0x40020 + 4 * k.val] ∧ t.rd (0x40020 + 4 * k.val) = v) ∧
    Writes (.ladderWrite via seq k v) (0x40020 + 4 * k.val) 1 (fun u => u.ladderAfter k v = true ∧ u.pw.st = .scanning)
      (fun u t => t.rd (0x40020 + 4 * k.val) = v ∧ ∀ (b : Fin 8) (i : Fin 6), t.stepKW b i = u.stepKW b i) ∧
    Writes (.ladderWrite via seq k v) (0x40020 + 4 * k.val) 1 (fun u => u.ladderAfter k v = false)
      (fun u t => OnlyRegs u t [F.RX.RX_STAT_CFG_ERR.addr] ∧ t.get F.RX.RX_STAT_CFG_ERR = 1) := by
  have block : ∀ k : Fin 6, oneBlock (0x40020 + 4 * k.val) 1 = true := by decide +kernel
  have stores {h : State → Prop} {e : State → State → Prop} (effect : ∀ u, u.calHostWrite (0x40020 + 4 * k.val) = u → h u → e u (u.hostStore (0x40020 + 4 * k.val) v)) :
      Writes (.ladderWrite via seq k v) (0x40020 + 4 * k.val) 1 h e :=
    .of_word rfl (by omega) (by omega) (block k) (by simpa [wordAddrs] using unlocked_of_range (0x40020 + 4 * k.val) 1 ⟨by omega, by omega⟩)
      (fun u _ => u.writeRefused_other _ [v] (.inr (by omega))) (plainWord_of_range _ ⟨by omega, by omega⟩) effect
  refine ⟨stores fun u noStep ⟨ok, st⟩ => ?_, stores fun u noStep ⟨ok, st⟩ => ?_, stores fun u noStep bad => ?_⟩
  · rw [u.hostStore_ladder k v noStep, if_pos ok, u.holdScanning_other st]
    exact ⟨.set u _ _ (List.mem_singleton.2 rfl), u.ladderSet_rd k v⟩
  · rw [u.hostStore_ladder k v noStep, if_pos ok]
    exact ⟨State.ladderSet_rd k v _, u.ladderSet_stepKW k v st⟩
  · rw [u.hostStore_ladder k v noStep, if_neg (by simp [bad])]
    exact ⟨.set u _ _ (List.mem_singleton.2 rfl), State.get_set_same _ _ _ (by decide)⟩

/-- Settles O38, row by row: what arms, disarms, fires and coincides, and the writes that are stored, held or discarded. -/
theorem rowFrontEnds : Obligations.RowFrontEnds := by
  unfold Obligations.RowFrontEnds
  refine ⟨fun r => ?arms, fun r => ?deaf, fun r n l q rest => ?disarms, fun r n l => ?still, fun r q c => ⟨?fires, ?dark⟩, fun r cc p n => ⟨?rests, ?held, ?event⟩,
    fun via seq r q lo hi => ⟨fun few => ?map, fun few => ?mapHeld, fun many => ?mapErr⟩, fun via seq k v => rowFrontEnds_ladder via seq k v⟩
  case arms =>
    refine .of_effect (fun _ => rfl) fun s ⟨on, air, open_, new⟩ => ?_
    rw [s.rowArm_arms r on air open_ new]
    exact ⟨rfl, congrArg RowSt.shots (s.setRow_own r _).1, (s.setRow_own r _).2⟩
  case deaf => exact .of_effect (fun _ => rfl) fun s h => s.rowArm_rests r h
  case disarms =>
    refine .of_effect (fun _ => rfl) fun s shots => ?_
    obtain ⟨x, ⟨here, armed, cellTime⟩, shape⟩ := s.rowDisarm_oldest r n l q rest shots
    obtain ⟨own, others⟩ := s.setRow_own r x
    rw [shape]
    exact ⟨rfl, (congrArg RowSt.shots own).trans here, (congrArg RowSt.armed own).trans armed, (congrArg RowSt.cellTime own).trans cellTime, others⟩
  case still => exact .of_effect (fun _ => rfl) fun s none => s.rowDisarm_rests r n l none
  case fires =>
    refine .of_effect (fun _ => rfl) fun s ⟨released, active⟩ => ?_
    obtain ⟨survey, shape⟩ := s.cellFiring_counts r q c released active
    rw [shape]
    exact ⟨rfl, congrArg RowSt.singles (s.setRow_own r _).1, (s.setRow_own r _).2⟩
  case dark => exact .of_effect (fun _ => rfl) fun s h => s.cellFiring_rests r q c h
  case rests => exact .of_effect (fun _ => rfl) fun s h => s.rowEvent_rests r cc p n h
  case held =>
    refine .of_effect (fun _ => rfl) fun s ⟨on, open_, shots, enough, last⟩ => ?_
    obtain ⟨x, ⟨hits, held, at_⟩, shape⟩ := s.rowEvent_holdOff r cc p n on open_ shots enough last
    obtain ⟨own, others⟩ := s.setRow_own r x
    rw [shape]
    exact ⟨rfl, (congrArg (fun x => x.acc.holdHit) own).trans hits, (congrArg RowSt.held own).trans held, (congrArg RowSt.last own).trans at_, others⟩
  case event => exact .of_effect (fun _ => rfl) fun s ⟨on, open_, shots, enough, last⟩ => s.rowEvent_event r cc p n on open_ shots enough last
  case map =>
    refine rowFrontEnds_cellMap via seq r q lo hi fun u st => ?_
    rw [u.endCellMap_keeps r q lo hi few]
    refine ⟨⟨u.cellStored_regs r q lo hi st, fun a other => ?_⟩, u.cellStored_get r q lo hi⟩
    exact u.cellStored_rd r q lo hi a (fun same => other (same ▸ List.mem_cons_self)) fun same => other (same ▸ List.mem_cons_of_mem _ List.mem_cons_self)
  case mapHeld =>
    refine rowFrontEnds_cellMap via seq r q lo hi fun u st => ?_
    rw [u.endCellMap_keeps r q lo hi few]
    exact ⟨u.cellStored_map r q lo hi st, u.cellStored_get r q lo hi⟩
  case mapErr => exact rowFrontEnds_cellMap via seq r q lo hi fun u st => u.endCellMap_discards r q lo hi many st

end Sys2Proof.Machine
end

section
/-! PROOFS. The histogram slices (R183 to R188): a lane's cycle, an injection, the snapshot and the swap. -/
namespace Sys2Proof.Machine

/-! ### A lane's cycle (R183, R184) -/

section
variable (s : State) (r lane bits : Nat)

theorem RowSt.onBuf_queue (x : RowSt) (c : Nat) (f : RowBuf → RowBuf) : (x.onBuf c f).queue = x.queue := by
  unfold RowSt.onBuf
  split <;> rfl

theorem RowSt.onBuf_acc (x : RowSt) (c : Nat) (f : RowBuf → RowBuf) (here : x.acc.col = c) : (x.onBuf c f).acc = f x.acc := by
  rw [RowSt.onBuf, if_pos here]

theorem RowBuf.clearWord_col (b : RowBuf) (lane w : Nat) : (b.clearWord lane w).col = b.col := by
  unfold RowBuf.clearWord
  split <;> rfl

theorem RowBuf.count_invalid (b : RowBuf) (i : HistInc) : (b.count i).invalid = b.invalid := by
  unfold RowBuf.count
  split <;> rfl

theorem State.setRow_view {β : Type} (g : RowSt → β) (s : State) (r : Nat) (x : RowSt) : g ((s.setRow r x).row r) = g x := congrArg g (s.setRow_own r x).1

/-- Row `r` with increment `i` taken from its queue. -/
def State.taken (s : State) (r : Nat) (i : HistInc) : State :=
  s.setRow r { s.row r with queue := (s.row r).queue.erase i, corrupt := (takeCorrupt i.col (i.lane * 128 + i.word) (s.row r).corrupt).2 }

/-- Increment `i` counted in its buffer. -/
def State.countInc (s : State) (r : Nat) (i : HistInc) : State := s.setRow r ((s.row r).onBuf i.col (fun b => b.count i))

/-- An injection that waits for the write of lane `lane` of row `r` corrupts the word of `i`. -/
def State.injected (s : State) (r lane : Nat) (i : HistInc) : State :=
  match (s.slice (rowSlice r)).inject with
  | some (n, l, j) =>
    if l = lane ∧ j = r / 128 then
      (s.setSlice (rowSlice r) { s.slice (rowSlice r) with inject := none }).setRow r { s.row r with corrupt := (s.row r).corrupt ++ [(i.col, lane * 128 + i.word, n)] }
    else s
  | none => s

theorem State.laneCycle_eq (i : HistInc) (found : (s.row r).queue.find? (fun q => q.lane == lane) = some i) (clean : (s.row r).corrupt = []) :
    s.laneCycle r lane bits = (((s.taken r i).eccFinding r i.col lane i.word bits).countInc r i).injected r lane i := by
  have its : i.lane = lane := eq_of_beq (List.find?_some (p := fun q : HistInc => q.lane == lane) found)
  have zero : max bits 0 = bits := Nat.max_zero bits
  unfold State.laneCycle
  dsimp only
  rw [found, clean]
  simp only [State.taken, takeCorrupt, clean, its, List.filter_nil, List.map_nil, List.foldl_nil, zero]
  rfl

/-- What the injection leaves of a state. -/
theorem State.injected_keeps (i : HistInc) : (s.injected r lane i).regs = s.regs ∧ ((s.injected r lane i).row r).queue = (s.row r).queue ∧ ((s.injected r lane i).row r).acc = (s.row r).acc := by
  unfold State.injected
  split
  next n l j _ =>
    split
    · exact ⟨rfl, (State.setRow_view RowSt.queue _ _ _).trans rfl, (State.setRow_view RowSt.acc _ _ _).trans rfl⟩
    · exact ⟨rfl, rfl, rfl⟩
  · exact ⟨rfl, rfl, rfl⟩

/-- What the check of a word leaves: its counter counts, and the row is `x`. -/
def EccShown (s t : State) (r : Nat) (f : Fld) (x : RowSt) : Prop := t.get f = min (s.get f + 1) (2 ^ f.wd - 1) ∧ t.row r = x

variable {s r} in
theorem EccShown.raise {t : State} {f : Fld} {x : RowSt} (h : EccShown s t r f x) (n i d : Nat) (known : n < 256) (low : 0x20000 ≤ f.addr) (high : f.addr < 0x7000000) :
    EccShown s (t.raise n i d) r f x := by
  obtain ⟨count, row⟩ := h
  refine ⟨?_, ?_⟩
  · rw [State.get, t.rd_raise_device n i d f.addr known low high]
    exact count
  · rw [State.row, (Answering.raise t n i d).rx_eq]
    exact row

variable {s r} in
theorem EccShown.set {t : State} {f : Fld} {x : RowSt} (h : EccShown s t r f x) (g : Fld) (v : Nat) (other : f.addr ≠ g.addr) : EccShown s (t.set g v) r f x :=
  ⟨by rw [State.get, t.rd_set_ne g v _ other]; exact h.1, h.2⟩

theorem EccShown.counted (f : Fld) (x : RowSt) (fits : f.fits = true) : EccShown s ((s.inc f).setRow r x) r f x :=
  ⟨s.get_inc f fits, ((s.inc f).setRow_own r x).1⟩

theorem slice_word (r : Nat) (o : Nat) (low : o < 0x8000) : 0x20000 ≤ 0x1000000 + o + 0x10000 * rowSlice r ∧ 0x1000000 + o + 0x10000 * rowSlice r < 0x7000000 := by
  simp only [rowSlice]
  omega

theorem State.eccFinding_corrected (c w : Nat) :
    EccShown s (s.eccFinding r c lane w 1) r (F.SLC.ECC_CE (rowSlice r)) ((s.row r).onBuf c (fun b => { b with eccCe := true })) := by
  have counted := EccShown.counted s r (F.SLC.ECC_CE (rowSlice r)) ((s.row r).onBuf c (fun b => { b with eccCe := true })) rfl
  obtain ⟨low, high⟩ := slice_word r 4 (by omega)
  unfold State.eccFinding
  dsimp only
  rw [if_neg (by omega), if_pos rfl]
  split
  · exact counted
  · refine EccShown.raise (t := State.setRegion _ _ _) counted _ _ _ ?_ low high
    simp only [EV_HIST_ECC_CORR, rowRegion]
    omega

variable {s r} in
theorem EccShown.fence {t : State} {f : Fld} {x : RowSt} (h : EccShown s t r f x) (g : Nat) (few : g < 4) (low : 0x1000000 ≤ f.addr) (high : f.addr < 0x7000000) : EccShown s (t.fence g) r f x := by
  unfold State.fence
  split
  · exact h
  · refine (h.set (F.PE.PE_STAT_FENCED g) 1 ?_).raise _ _ _ ?_ (by omega) high
    · simp only [F.PE.PE_STAT_FENCED]
      omega
    · simp only [EV_REGION_FENCE]
      omega

variable {s r} in
theorem EccShown.setSlice {t : State} {f : Fld} {x : RowSt} (h : EccShown s t r f x) (i : Nat) (y : SliceSt) : EccShown s (t.setSlice i y) r f x := h

/-- Slice `i` isolated for its uncorrected words and shown as such. -/
def State.isolationShown (s : State) (i : Nat) : State :=
  (((s.setBitAt (F.RX.SLICE_ISO_ISO (i / 32)) (i % 32) true).set (F.SLC.SLC_STAT_ISOLATED i) 1).set (F.SLC.SLC_STAT_ECC_ISO i) 1).raise (EV_SLICE_ISOLATED (i / 32)) i 0

theorem State.isolate_eq (t : State) (i : Nat) : t.isolate i false =
    if t.isolated i then t
    else if 8 ≤ (t.isolationShown i).isolatedCount (i / 32) then (t.isolationShown i).fence (i / 32)
    else t.isolationShown i := rfl

variable {s r} in
theorem EccShown.isolate {t : State} {x : RowSt} {i : Nat} (few : i < 128) (h : EccShown s t r (F.SLC.ECC_UE i) x) : EccShown s (t.isolate i false) r (F.SLC.ECC_UE i) x := by
  have apart : (F.SLC.ECC_UE i).addr ≠ (F.RX.SLICE_ISO_ISO (i / 32)).addr := by
    simp only [F.SLC.ECC_UE, F.RX.SLICE_ISO_ISO]
    omega
  have stat : (F.SLC.ECC_UE i).addr ≠ (F.SLC.SLC_STAT_ISOLATED i).addr := by
    simp only [F.SLC.ECC_UE, F.SLC.SLC_STAT_ISOLATED]
    omega
  have low : 0x1000000 ≤ (F.SLC.ECC_UE i).addr := by
    simp only [F.SLC.ECC_UE]
    omega
  have high : (F.SLC.ECC_UE i).addr < 0x7000000 := by
    simp only [F.SLC.ECC_UE]
    omega
  have isolated : EccShown s (t.isolationShown i) r (F.SLC.ECC_UE i) x :=
    (((h.set (F.RX.SLICE_ISO_ISO (i / 32)) _ apart).set (F.SLC.SLC_STAT_ISOLATED i) 1 stat).set (F.SLC.SLC_STAT_ECC_ISO i) 1 stat).raise _ _ _ (by simp only [EV_SLICE_ISOLATED]; omega) (by omega) high
  have fenced := isolated.fence (i / 32) (by omega) low high
  clear apart stat low high few
  rw [State.isolate_eq]
  split
  · exact h
  · split
    · exact fenced
    · exact isolated

/-- A word of row buffer that its check could not correct. -/
def RowBuf.lose (b : RowBuf) (lane w : Nat) : RowBuf := { b.clearWord lane w with invalid := true }

/-- The uncorrected finding of a slice counted and shown in its row. -/
def State.lossShown (s : State) (r c lane w : Nat) : State :=
  (s.inc (F.SLC.ECC_UE (rowSlice r))).setRow r (((s.inc (F.SLC.ECC_UE (rowSlice r))).row r).onBuf c (fun b => b.lose lane w))

/-- The columns of slice `i` that its isolation weighs. -/
def State.lossesNear (s : State) (i c : Nat) : List Nat := ((s.scan.base + c) :: (s.slice i).ueCols).filter (fun k => decide (s.scan.base + c < k + 1000))

/-- The finding's column kept and its event raised. -/
def State.lossNoted (s : State) (r c : Nat) : State :=
  (s.setSlice (rowSlice r) { s.slice (rowSlice r) with ueCols := (s.lossesNear (rowSlice r) c).take 4 }).raise (EV_HIST_ECC_UNCORR (rowRegion r)) (rowSlice r) r

theorem State.eccFinding_loss (s : State) (r lane c w : Nat) : s.eccFinding r c lane w 2 =
    if 3 ≤ ((s.lossShown r c lane w).lossesNear (rowSlice r) c).length then ((s.lossShown r c lane w).lossNoted r c).isolate (rowSlice r) false else (s.lossShown r c lane w).lossNoted r c := by
  unfold State.eccFinding
  dsimp only
  rw [if_neg (by omega), if_neg (by omega)]
  rfl

theorem State.eccFinding_uncorrected (s : State) (r lane c w : Nat) :
    EccShown s (s.eccFinding r c lane w 2) r (F.SLC.ECC_UE (rowSlice r)) ((s.row r).onBuf c (fun b => b.lose lane w)) := by
  have counted : EccShown s (s.lossShown r c lane w) r (F.SLC.ECC_UE (rowSlice r)) ((s.row r).onBuf c (fun b => b.lose lane w)) := .counted s r _ _ rfl
  obtain ⟨low, high⟩ := slice_word r 8 (by omega)
  have few : rowSlice r < 128 := by
    simp only [rowSlice]
    omega
  have noted : EccShown s ((s.lossShown r c lane w).lossNoted r c) r (F.SLC.ECC_UE (rowSlice r)) ((s.row r).onBuf c (fun b => b.lose lane w)) := by
    refine (counted.setSlice _ _).raise _ _ _ ?_ low high
    simp only [EV_HIST_ECC_UNCORR, rowRegion]
    omega
  rw [s.eccFinding_loss]
  split
  · exact noted.isolate few
  · exact noted

theorem State.countInc_own (i : HistInc) : (s.countInc r i).row r = (s.row r).onBuf i.col (fun b => b.count i) := (s.setRow_own r _).1

theorem State.taken_own (i : HistInc) : ((s.taken r i).row r).queue = (s.row r).queue.erase i ∧ ((s.taken r i).row r).acc = (s.row r).acc :=
  ⟨(State.setRow_view RowSt.queue _ _ _).trans rfl, (State.setRow_view RowSt.acc _ _ _).trans rfl⟩

theorem State.taken_others (i : HistInc) (k : Nat) (other : k ≠ r) : (s.taken r i).row k = s.row k := (s.setRow_own r _).2 k other

section
variable (i : HistInc) (found : (s.row r).queue.find? (fun q => q.lane == lane) = some i) (clean : (s.row r).corrupt = [])
include found clean

theorem State.laneCycle_counts (still : (s.slice (rowSlice r)).inject = none) (here : i.col = (s.row r).acc.col) :
    let t := s.laneCycle r lane 0
    t = { s with rx := t.rx } ∧ (t.row r).queue = (s.row r).queue.erase i ∧ (t.row r).acc = (s.row r).acc.count i ∧ ∀ k, k ≠ r → t.row k = s.row k := by
  have passes : (s.taken r i).eccFinding r i.col lane i.word 0 = s.taken r i := by
    unfold State.eccFinding
    exact if_pos rfl
  have none : ((s.taken r i).countInc r i).injected r lane i = (s.taken r i).countInc r i := by
    have same : (((s.taken r i).countInc r i).slice (rowSlice r)).inject = none := still
    rw [State.injected, same]
  obtain ⟨queue, acc⟩ := s.taken_own r i
  dsimp only
  rw [s.laneCycle_eq r lane 0 i found clean, passes, none, State.countInc_own]
  refine ⟨rfl, (RowSt.onBuf_queue _ _ _).trans queue, ?_, fun k other => (((s.taken r i).setRow_own r _).2 k other).trans (s.taken_others r i k other)⟩
  rw [RowSt.onBuf_acc _ _ _ (by rw [acc]; exact here.symm), acc]

/-- A cycle whose word's check shows `x` in row and counter. -/
theorem State.laneCycle_shows (f : Fld) (x : RowSt) (shown : EccShown (s.taken r i) ((s.taken r i).eccFinding r i.col lane i.word bits) r f x) :
    let t := s.laneCycle r lane bits
    t.get f = min (s.get f + 1) (2 ^ f.wd - 1) ∧ (t.row r).queue = x.queue ∧ (t.row r).acc = (x.onBuf i.col (fun b => b.count i)).acc := by
  obtain ⟨count, row⟩ := shown
  obtain ⟨regs, queue, acc⟩ := State.injected_keeps (((s.taken r i).eccFinding r i.col lane i.word bits).countInc r i) r lane i
  dsimp only
  rw [s.laneCycle_eq r lane bits i found clean, queue, acc, State.countInc_own, row, RowSt.onBuf_queue]
  refine ⟨?_, rfl, rfl⟩
  rw [State.get, State.rd_congr regs]
  exact count

end

theorem State.laneCycle_rests (none : (s.row r).queue.find? (fun q => q.lane == lane) = none) : s.laneCycle r lane bits = s := by
  rw [State.laneCycle, none]

end

/-! ### The counters of a lane (R183) -/

theorem RowBuf.count_coarse (b : RowBuf) (i : HistInc) (coarse : i.zoom = false) :
    spGet (fun _ => 0) (b.count i).coarse i.key = min 255 (spGet (fun _ => 0) b.coarse i.key + 1) ∧ (b.count i).zoom = b.zoom ∧
      ∀ k, k ≠ i.key → spGet (fun _ => 0) (b.count i).coarse k = spGet (fun _ => 0) b.coarse k := by
  rw [RowBuf.count, if_neg (by rw [coarse]; decide)]
  exact ⟨(spGet_spSet _ _ _ _ _).trans (if_pos rfl), rfl, fun k other => (spGet_spSet _ _ _ _ _).trans (if_neg other)⟩

/-! ### An injection (R184) and the snapshot (R186) -/

theorem histogramSlices_inject (via : Port) (seq : BitVec 16) (i : Fin 128) (v : BitVec 32) :
    (bitsOf v.toNat 6 2 = 1 ∨ bitsOf v.toNat 6 2 = 2 → Writes (.slcEccInjWrite via seq i v) (F.SLC.SLC_ECC_INJ_BITS i).addr 1 (fun _ => True)
      (fun u t => t = { u with rx := t.rx } ∧ (t.slice i).inject = some (bitsOf v.toNat 6 2, bitsOf v.toNat 5 1, bitsOf v.toNat 0 3) ∧ ∀ k, k ≠ i.val → t.slice k = u.slice k)) ∧
    (bitsOf v.toNat 6 2 = 0 ∨ bitsOf v.toNat 6 2 = 3 → Writes (.slcEccInjWrite via seq i v) (F.SLC.SLC_ECC_INJ_BITS i).addr 1 (fun _ => True) Nothing) := by
  have place : (F.SLC.SLC_ECC_INJ_BITS i).addr = 0x1000014 + 0x10000 * i.val := rfl
  have block : oneBlock (F.SLC.SLC_ECC_INJ_BITS i).addr 1 = true := by
    rw [place, show 0x1000014 + 0x10000 * i.val = 0x1000000 + 0x10000 * i.val + 0x14 by omega]
    exact oneBlock_of _ 1 _ _ _ (findBlk_slice i 0x14 i.isLt (by omega)) (by decide)
  have plain : plainWord (F.SLC.SLC_ECC_INJ_BITS i).addr := ⟨if_neg (by omega), if_neg (by omega), if_neg (by omega)⟩
  have stored (u : State) (noStep : u.calHostWrite (F.SLC.SLC_ECC_INJ_BITS i).addr = u) : u.hostStore (F.SLC.SLC_ECC_INJ_BITS i).addr v = u.wrEccInj i v := by
    have index : ((F.SLC.SLC_ECC_INJ_BITS i).addr - 0x1000000) / 0x10000 = i.val := by omega
    rw [u.hostStore_slice _ v noStep (by omega) (by omega) (by omega), State.wrSlice, if_pos (by omega), index]
  have stores {e : State → State → Prop} (effect : ∀ u, e u (u.wrEccInj i v)) : Writes (.slcEccInjWrite via seq i v) (F.SLC.SLC_ECC_INJ_BITS i).addr 1 (fun _ => True) e :=
    .of_word rfl (by omega) (by omega) block (by simpa [wordAddrs] using unlocked_of_range (F.SLC.SLC_ECC_INJ_BITS i).addr 1 ⟨by omega, by omega⟩)
      (fun u _ => u.writeRefused_other _ [v] (.inr (by omega))) plain fun u noStep _ => by
      rw [stored u noStep]
      exact effect u
  refine ⟨fun bits => stores fun u => ?_, fun bits => stores fun u => if_neg (by omega)⟩
  rw [State.wrEccInj, if_pos bits]
  exact ⟨rfl, congrArg SliceSt.inject ((spGet_spSet _ _ _ _ _).trans (if_pos rfl)), fun k other => (spGet_spSet _ _ _ _ _).trans (if_neg other)⟩

theorem State.zoomSnapshot_selects (s : State) (r : Nat) (on : s.rowOn r = true) (runs : s.slotsRun = true) (fresh : (s.row r).snap = false) :
    let t := s.zoomSnapshot r
    t = { s with rx := t.rx } ∧ (t.row r).snap = true ∧ (t.row r).acc.wins = selectWindows s.kBin (s.bEff (r / 128)) (s.getAt (r / 128) F.RX.CAND_CFG_WIN_MAX)
        (s.getAt (r / 128) F.RX.CAND_CFG_SEP) (s.getAt (r / 128) F.RX.CAND_CFG_CAND_MIN) 40 (s.row r).tracker [] ∧
      (t.row r).acc.noCand = (t.row r).acc.wins.isEmpty ∧ (t.row r).tracker = (s.row r).tracker ∧ ∀ k, k ≠ r → t.row k = s.row k := by
  have live : (s.rowOn r && s.slotsRun && !(s.row r).snap) = true := by rw [on, runs, fresh]; rfl
  unfold State.zoomSnapshot
  dsimp only
  rw [if_pos live]
  refine ⟨rfl, (State.setRow_view RowSt.snap _ _ _).trans rfl, (State.setRow_view (fun x => x.acc.wins) _ _ _).trans rfl, ?_,
    (State.setRow_view RowSt.tracker _ _ _).trans rfl, (s.setRow_own r _).2⟩
  exact State.setRow_view (fun x => x.acc.noCand = x.acc.wins.isEmpty) _ _ _ |>.mpr rfl

theorem State.zoomSnapshot_rests (s : State) (r : Nat) (h : s.rowOn r = false ∨ s.slotsRun = false ∨ (s.row r).snap = true) : s.zoomSnapshot r = s := by
  refine if_neg ?_
  obtain h | h | h := h <;> simp [h]

/-! ### The swap (R188) -/

/-- The words of `own` and what lies beside the registers stay. -/
def WordsKept (own : Nat → Prop) (s t : State) : Prop := (∀ a, ¬ own a → t.rd a = s.rd a) ∧ t.rx = s.rx ∧ t.scan = s.scan ∧ t.time = s.time

namespace WordsKept

variable {own : Nat → Prop} {s t u : State}

theorem refl (s : State) : WordsKept own s s := ⟨fun _ _ => rfl, rfl, rfl, rfl⟩

theorem trans (h : WordsKept own s t) (g : WordsKept own t u) : WordsKept own s u :=
  ⟨fun a other => (g.1 a other).trans (h.1 a other), g.2.1.trans h.2.1, g.2.2.1.trans h.2.2.1, g.2.2.2.trans h.2.2.2⟩

theorem set (s : State) (f : Fld) (x : Nat) (mine : own f.addr) : WordsKept own s (s.set f x) :=
  ⟨fun a other => s.rd_set_ne f x a fun same => other (same ▸ mine), rfl, rfl, rfl⟩

theorem each {α : Type} (l : List α) (f : State → α → State) (step : ∀ u a, WordsKept own u (f u a)) (s : State) : WordsKept own s (s.each l f) := by
  induction l generalizing s with
  | nil => exact .refl s
  | cons a l ih => exact (step s a).trans (ih _)

end WordsKept

/-- The words of row `r`'s block and above, but its SINGLES. -/
def rowWords (r a : Nat) : Prop := (F.ROW.SINGLES r).addr ≤ a + 0x28 ∧ a ≠ (F.ROW.SINGLES r).addr

section
variable (s : State) (r : Nat) (off : Bool) (recharge : Nat) (was : Bool) (step : Nat)

/-- A column's ambient figures of row `r` published. -/
def State.ambientShown (s : State) (r amb : Nat) (satd off : Bool) (step : Nat) : State :=
  ((((s.set (F.ROW.AMB r) amb).setFlag (F.ROW.AMB_SAT r) satd).setFlag (F.ROW.BIAS_OFF r) off).setFlag (F.ROW.DUAL r) (s.row r).acc.dual).set (F.ROW.STEP r) step

/-- A column's counts of row `r`, behind SINGLES, published. -/
def State.countsShown (s : State) (x : RowSt) (r : Nat) : State :=
  (((((s.set (F.ROW.CELLTIME r) x.cellTime).set (F.ROW.ARMED r) x.armed).set (F.ROW.PRESTART r) x.acc.prestart).set (F.ROW.WINDOW r) x.acc.window).set (F.ROW.HOLD_HIT r) x.acc.holdHit).publish
    (F.ROW.ROW_RES_ST r)

theorem State.ambientShown_kept (amb : Nat) (satd : Bool) : WordsKept (rowWords r) s (s.ambientShown r amb satd off step) :=
  have mine : rowWords r (F.ROW.AMB r).addr := by simp only [rowWords, F.ROW.SINGLES, F.ROW.AMB]; omega
  ((((WordsKept.set s (F.ROW.AMB r) _ mine).trans (.set _ (F.ROW.AMB_SAT r) _ mine)).trans (.set _ (F.ROW.BIAS_OFF r) _ mine)).trans (.set _ (F.ROW.DUAL r) _ mine)).trans (.set _ (F.ROW.STEP r) _ mine)

theorem State.countsShown_kept (x : RowSt) : WordsKept (rowWords r) s (s.countsShown x r) := by
  have mine (o : Nat) (place : o < 0x40) (other : o ≠ 0x28) : rowWords r (0x1008000 + o + 0x10000 * (r % 128) + 0x100 * (r / 128)) := by
    simp only [rowWords, F.ROW.SINGLES]
    omega
  refine (((((WordsKept.set s (F.ROW.CELLTIME r) _ ?_).trans (.set _ (F.ROW.ARMED r) _ ?_)).trans (.set _ (F.ROW.PRESTART r) _ ?_)).trans (.set _ (F.ROW.WINDOW r) _ ?_)).trans
    (.set _ (F.ROW.HOLD_HIT r) _ ?_)).trans ((WordsKept.set _ ⟨(F.ROW.ROW_RES_ST r).addr, 31, 1⟩ _ ?_).trans (.set _ ⟨(F.ROW.ROW_RES_ST r).addr, 0, 16⟩ _ ?_))
  · exact mine 0x2C (by omega) (by omega)
  · exact mine 0x30 (by omega) (by omega)
  · exact mine 0x34 (by omega) (by omega)
  · exact mine 0x34 (by omega) (by omega)
  · exact mine 0x38 (by omega) (by omega)
  · exact mine 0x20 (by omega) (by omega)
  · exact mine 0x20 (by omega) (by omega)

theorem State.maskCell_kept (e : Nat × Nat) : WordsKept (rowWords r) s (s.maskCell r e) := by
  have pending : rowWords r (F.ROW.ROW_STAT_PENDING_CAL r).addr := by
    simp only [rowWords, F.ROW.SINGLES, F.ROW.ROW_STAT_PENDING_CAL]
    omega
  have cells : rowWords r (if e.2 < 32 then F.ROW.EN_LO r e.1 else F.ROW.EN_HI r e.1).addr := by
    simp only [rowWords, F.ROW.SINGLES]
    split <;> simp only [F.ROW.EN_LO, F.ROW.EN_HI] <;> omega
  exact (WordsKept.set { s with cal := _ } _ _ cells).trans (.set _ (F.ROW.ROW_STAT_PENDING_CAL r) _ pending)

/-- The bias step of row `r` behind the boundary, and its count of boundaries below (R162). -/
def State.boundaryStep (s : State) (r : Nat) (x : RowSt) (was : Bool) (amb : Nat) (satd : Bool) : Nat × Nat :=
  if !s.adapts (r / 128) then (min 1 (s.getAt (r / 128) F.RX.ADAPT_CFG_STEP_MAX), 0)
  else if !was then (min 1 (s.getAt (r / 128) F.RX.ADAPT_CFG_STEP_MAX), 0)
  else if x.armed = 0 ∧ s.get (F.ROW.ROW_STAT_STEP r) ≤ s.getAt (r / 128) F.RX.ADAPT_CFG_STEP_MAX then (s.get (F.ROW.ROW_STAT_STEP r), x.below)
  else s.nextStep (r / 128) (s.get (F.ROW.ROW_STAT_STEP r)) x.below (amb / 4) satd

/-- The registers of row `r` behind the boundary. -/
def State.boundaryRegs (s : State) (r amb : Nat) (satd off was : Bool) (step : Nat) : State :=
  let u := ((s.ambientShown r amb satd off step).set (F.ROW.SINGLES r) (s.row r).singles).countsShown (s.row r) r
  (u.set (F.ROW.ROW_STAT_STEP r) (u.boundaryStep r (s.row r) was amb satd).1).each (s.row r).maskPend (fun s e => s.maskCell r e)

/-- The record of row `r` behind the boundary. -/
def RowSt.bounded (x : RowSt) (own : RowSt) (amb : Nat) (satd off : Bool) (step below : Nat) : RowSt :=
  { own with acc := { x.acc with amb := amb, ambSat := satd, biasOff := off, step := step }, singles := 0, cellTime := 0, armed := 0, below := below, maskPend := [] }

theorem State.rowBoundary_eq : s.rowBoundary r off recharge was step =
    let am := ambient (s.row r).singles (s.row r).cellTime recharge
    let amb := if off then 0 else am.1
    let satd := am.2 && !off
    let u := s.boundaryRegs r amb satd off was step
    u.setRow r ((s.row r).bounded (u.row r) amb satd off step
      ((((s.ambientShown r amb satd off step).set (F.ROW.SINGLES r) (s.row r).singles).countsShown (s.row r) r).boundaryStep r (s.row r) was amb satd).2) := rfl

theorem State.boundaryRegs_kept (amb : Nat) (satd : Bool) :
    WordsKept (fun a => (F.ROW.SINGLES r).addr ≤ a + 0x28) s (s.boundaryRegs r amb satd off was step) ∧
      (s.boundaryRegs r amb satd off was step).get (F.ROW.SINGLES r) = (s.row r).singles % 2 ^ (F.ROW.SINGLES r).wd := by
  have stat : rowWords r (F.ROW.ROW_STAT_STEP r).addr := by
    simp only [rowWords, F.ROW.SINGLES, F.ROW.ROW_STAT_STEP]
    omega
  have before := s.ambientShown_kept r off step amb satd
  have after : WordsKept (rowWords r) ((s.ambientShown r amb satd off step).set (F.ROW.SINGLES r) (s.row r).singles) (s.boundaryRegs r amb satd off was step) :=
    ((State.countsShown_kept _ r (s.row r)).trans (.set _ (F.ROW.ROW_STAT_STEP r) _ stat)).trans (.each _ _ (fun u e => u.maskCell_kept r e) _)
  have widen {t u : State} (h : WordsKept (rowWords r) t u) : WordsKept (fun a => (F.ROW.SINGLES r).addr ≤ a + 0x28) t u :=
    ⟨fun a other => h.1 a fun mine => other mine.1, h.2⟩
  refine ⟨(widen before).trans ((WordsKept.set _ (F.ROW.SINGLES r) _ (Nat.le_add_right (F.ROW.SINGLES r).addr 0x28)).trans (widen after)), ?_⟩
  rw [State.get, after.1 _ fun mine => mine.2 rfl]
  exact State.get_set_same _ (F.ROW.SINGLES r) _ rfl

/-- What a row's swap leaves: its words hold from its block on, its record is the swapped one, and the other rows stay. -/
structure RowSwapped (s t : State) (r c : Nat) : Prop where
  below : ∀ a, a + 0x28 < (F.ROW.SINGLES r).addr → t.rd a = s.rd a
  singles : t.get (F.ROW.SINGLES r) = (s.row r).singles % 2 ^ (F.ROW.SINGLES r).wd
  record : (t.row r).rdg.col = c ∧ (t.row r).acc.col = c + 1 ∧ (t.row r).rdg.coarse = (s.row r).acc.coarse ∧ (t.row r).tracker = [] ∧ (t.row r).snap = false ∧ (t.row r).singles = 0
  others : ∀ k, k ≠ r → t.row k = s.row k
  scan : t.scan = s.scan
  banks : t.rx.banks = s.rx.banks

theorem State.rowSwap_record (u : State) (r c : Nat) :
    ((u.rowSwap r c).row r).rdg.col = c ∧ ((u.rowSwap r c).row r).acc.col = c + 1 ∧ ((u.rowSwap r c).row r).rdg.coarse = (u.row r).acc.coarse ∧ ((u.rowSwap r c).row r).tracker = [] ∧
      ((u.rowSwap r c).row r).snap = false ∧ ((u.rowSwap r c).row r).singles = (u.row r).singles := by
  unfold State.rowSwap
  dsimp only
  refine ⟨(State.setRow_view (fun x => x.rdg.col) _ _ _).trans rfl, (State.setRow_view (fun x => x.acc.col) _ _ _).trans rfl, (State.setRow_view (fun x => x.rdg.coarse) _ _ _).trans rfl,
    (State.setRow_view RowSt.tracker _ _ _).trans rfl, (State.setRow_view RowSt.snap _ _ _).trans rfl, (State.setRow_view RowSt.singles _ _ _).trans rfl⟩

theorem State.rowBoundary_swapped (c : Nat) : RowSwapped s ((s.rowBoundary r off recharge was step).rowSwap r c) r c := by
  rw [s.rowBoundary_eq r off recharge was step]
  dsimp only
  generalize (if off then 0 else (ambient (s.row r).singles (s.row r).cellTime recharge).1) = amb
  generalize ((ambient (s.row r).singles (s.row r).cellTime recharge).2 && !off) = satd
  generalize ((((s.ambientShown r amb satd off step).set (F.ROW.SINGLES r) (s.row r).singles).countsShown (s.row r) r).boundaryStep r (s.row r) was amb satd).2 = below
  obtain ⟨kept, singles⟩ := s.boundaryRegs_kept r off was step amb satd
  generalize s.boundaryRegs r amb satd off was step = u at kept singles
  obtain ⟨words, rx, scan, -⟩ := kept
  obtain ⟨col, next, coarse, tracker, snap, count⟩ := (u.setRow r ((s.row r).bounded (u.row r) amb satd off step below)).rowSwap_record r c
  have own := (u.setRow_own r ((s.row r).bounded (u.row r) amb satd off step below)).1
  have banks : u.rx.banks = s.rx.banks := congrArg RxSt.banks rx
  rw [own] at coarse count
  exact {
    below := fun a small => words a (by omega)
    singles := singles
    record := ⟨col, next, coarse, tracker, snap, count⟩
    others := fun k other => ((State.setRow_own _ r _).2 k other).trans (((State.setRow_own u r _).2 k other).trans (by rw [State.row, rx]; rfl))
    scan := scan
    banks := banks }

end

/-- What row swaps in the order of their words leave of row `r`'s record, words and of what the swap keeps. -/
theorem State.swaps_row (off : Bool) (recharge : Nat) (was : Bool) (c b : Nat) (l : List (Nat × Nat)) (rising : l.Pairwise (fun e f => e.1 < f.1)) (mine : ∀ e ∈ l, e.1 / 128 = b) (s : State) :
    let t := s.each l (fun s e => (s.rowBoundary e.1 off recharge was e.2).rowSwap e.1 c)
    (∀ a, (∀ e ∈ l, a + 0x28 < (F.ROW.SINGLES e.1).addr) → t.rd a = s.rd a) ∧ (∀ k, (∀ e ∈ l, k ≠ e.1) → t.row k = s.row k) ∧ t.scan = s.scan ∧ t.rx.banks = s.rx.banks ∧
      ∀ e ∈ l, ((t.row e.1).rdg.col = c ∧ (t.row e.1).acc.col = c + 1 ∧ (t.row e.1).rdg.coarse = (s.row e.1).acc.coarse ∧ (t.row e.1).tracker = [] ∧ (t.row e.1).snap = false ∧
        (t.row e.1).singles = 0) ∧ t.get (F.ROW.SINGLES e.1) = (s.row e.1).singles % 2 ^ (F.ROW.SINGLES e.1).wd := by
  induction l generalizing s with
  | nil => exact ⟨fun _ _ => rfl, fun _ _ => rfl, rfl, rfl, fun e mem => nomatch mem⟩
  | cons e l ih =>
    obtain ⟨least, rising⟩ := List.pairwise_cons.1 rising
    have one := s.rowBoundary_swapped e.1 off recharge was e.2 c
    obtain ⟨below, others, scan, banks, rows⟩ := ih rising (fun f mem => mine f (List.mem_cons_of_mem _ mem)) ((s.rowBoundary e.1 off recharge was e.2).rowSwap e.1 c)
    have past : ∀ f ∈ l, (F.ROW.SINGLES e.1).addr + 0x28 < (F.ROW.SINGLES f.1).addr := fun f mem => by
      have := least f mem
      have := mine e List.mem_cons_self
      have := mine f (List.mem_cons_of_mem _ mem)
      simp only [F.ROW.SINGLES]
      omega
    dsimp only
    rw [State.each_cons]
    refine ⟨fun a small => (below a fun f mem => small f (List.mem_cons_of_mem _ mem)).trans (one.below a (small e List.mem_cons_self)),
      fun k other => (others k fun f mem => other f (List.mem_cons_of_mem _ mem)).trans (one.others k (other e List.mem_cons_self)), scan.trans one.scan, banks.trans one.banks, fun f mem => ?_⟩
    obtain rfl | later := List.mem_cons.1 mem
    · rw [others f.1 fun g mem => Nat.ne_of_lt (least g mem), State.get, below _ past]
      exact ⟨one.record, one.singles⟩
    · have same := one.others f.1 (Nat.ne_of_gt (least f later))
      rw [← same]
      exact rows f later

/-! ### The swap of a bank -/

section
variable (s : State) (b : Fin 8)

/-- The rows of bank `b` whose domain is on, each with the step its column closes with. -/
def State.bankSteps (s : State) (b : Nat) : List (Nat × Nat) := ((bankRows b).filter (fun r => s.domOn (rowDom r))).map (fun r => (r, s.rowStep r))

theorem State.bankSteps_rising : (s.bankSteps b).Pairwise (fun e f => e.1 < f.1) := by
  refine List.pairwise_map.2 (List.Pairwise.filter _ (List.pairwise_map.2 ?_))
  exact List.pairwise_lt_range.imp fun h => by omega

theorem State.bankSteps_mine : ∀ e ∈ s.bankSteps b, e.1 / 128 = b.val := fun e mem => by
  obtain ⟨r, member, rfl⟩ := List.mem_map.1 mem
  obtain ⟨i, few, rfl⟩ := List.mem_map.1 (List.mem_filter.1 member).1
  rw [List.mem_range] at few
  dsimp only
  omega

theorem State.bankSteps_mem (i : Fin 128) (on : s.domOn (rowDom (128 * b.val + i.val)) = true) : (128 * b.val + i.val, s.rowStep (128 * b.val + i.val)) ∈ s.bankSteps b :=
  List.mem_map.2 ⟨_, List.mem_filter.2 ⟨List.mem_map.2 ⟨i.val, List.mem_range.2 i.isLt, rfl⟩, on⟩, rfl⟩

/-- The state whose rows swap: the words held for the bank are let go. -/
def State.letGoBank (s : State) (b : Nat) : State := (s.letGo b).when (b == 0) (fun s => s.letGo 8)

theorem State.letGoBank_keeps (b : Nat) : (s.letGoBank b).regs = s.regs ∧ (s.letGoBank b).rx = s.rx ∧ (s.letGoBank b).scan = s.scan := by
  unfold State.letGoBank State.when
  split <;> exact ⟨rfl, rfl, rfl⟩

/-- The rows of bank `b` swapped. -/
def State.rowsSwapped (s : State) (b : Nat) : State :=
  (s.letGoBank b).each (s.bankSteps b) (fun u e =>
    (u.rowBoundary e.1 (s.rx.biasOff / 2 ^ b % 2 == 1) (s.getAt b F.RX.RX_TIME_RECHARGE) (s.adapts b) e.2).rowSwap e.1 (s.rxBank b).accCol)

/-- The bias bits behind bank `b`'s swap. -/
def State.biasNoted (u : State) (s : State) (b : Nat) : State :=
  ({ u with rx := { u.rx with biasOff := u.rx.biasOff - bit (s.rx.biasOff / 2 ^ b % 2 == 1) * 2 ^ b } } : State).noteBias

theorem State.biasNoted_keeps (u : State) (b : Nat) : (u.biasNoted s b).regs = u.regs ∧ (∀ k, (u.biasNoted s b).row k = u.row k) ∧ (u.biasNoted s b).scan = u.scan := by
  unfold State.biasNoted State.noteBias
  split <;> exact ⟨rfl, fun _ => rfl, rfl⟩

theorem State.bufferSwap_eq (on : s.domOn 69 = true) (open_ : (s.rxBank b).isOpen = true) : s.bufferSwap b =
    let u := (s.rowsSwapped b).biasNoted s b
    u.setRxBank b { u.rxBank b with isOpen := u.slotsRun, accCol := (s.rxBank b).accCol + 1, shotsRdg := (s.rxBank b).shotsAcc, shotsAcc := [0, 0, 0, 0] } := by
  unfold State.bufferSwap
  dsimp only
  rw [if_pos (by rw [on, open_]; rfl)]
  rfl

theorem State.rowsSwapped_keeps (s : State) (b : Fin 8) :
    (∀ a < 0x1008000, (s.rowsSwapped b).rd a = s.rd a) ∧ (s.rowsSwapped b).scan = s.scan ∧
      ∀ i : Fin 128, s.domOn (rowDom (128 * b.val + i.val)) = true →
        let t := s.rowsSwapped b
        let x := t.row (128 * b.val + i.val)
        (x.rdg.col = (s.rxBank b).accCol ∧ x.acc.col = (s.rxBank b).accCol + 1 ∧ x.rdg.coarse = (s.row (128 * b.val + i.val)).acc.coarse ∧ x.tracker = [] ∧ x.snap = false ∧ x.singles = 0) ∧
          t.get (F.ROW.SINGLES (128 * b.val + i.val)) = (s.row (128 * b.val + i.val)).singles % 2 ^ (F.ROW.SINGLES (128 * b.val + i.val)).wd := by
  obtain ⟨regs, rx, scan⟩ := s.letGoBank_keeps b
  obtain ⟨words, -, scan', -, rows⟩ := State.swaps_row (s.rx.biasOff / 2 ^ b.val % 2 == 1) (s.getAt b F.RX.RX_TIME_RECHARGE) (s.adapts b) (s.rxBank b).accCol b _ (s.bankSteps_rising b)
    (s.bankSteps_mine b) (s.letGoBank b)
  refine ⟨fun a low => (words a fun e _ => ?_).trans (State.rd_congr regs a), scan'.trans scan, fun i on => ?_⟩
  · simp only [F.ROW.SINGLES]
    omega
  · have here := rows _ (s.bankSteps_mem b i on)
    have same (k : Nat) : (s.letGoBank b).row k = s.row k := by rw [State.row, rx]; rfl
    rw [same] at here
    exact here

theorem State.swapBank_swaps (s : State) (b : Fin 8) (on : s.domOn 69 = true) (open_ : (s.rxBank b).isOpen = true) :
    let t := s.swapBank b
    (t.rxBank b).accCol = (s.rxBank b).accCol + 1 ∧ (t.rxBank b).shotsRdg = (s.rxBank b).shotsAcc ∧ (t.rxBank b).shotsAcc = [0, 0, 0, 0] ∧ (t.rxBank b).isOpen = s.slotsRun ∧
      ∀ i : Fin 128, s.domOn (rowDom (128 * b.val + i.val)) = true →
        (t.row (128 * b.val + i.val)).rdg.col = (s.rxBank b).accCol ∧ (t.row (128 * b.val + i.val)).acc.col = (s.rxBank b).accCol + 1 ∧
        (t.row (128 * b.val + i.val)).rdg.coarse = (s.row (128 * b.val + i.val)).acc.coarse ∧ (t.row (128 * b.val + i.val)).tracker = [] ∧
        (t.row (128 * b.val + i.val)).snap = false ∧ (t.row (128 * b.val + i.val)).singles = 0 ∧
        t.get (F.ROW.SINGLES (128 * b.val + i.val)) = (s.row (128 * b.val + i.val)).singles % 2 ^ (F.ROW.SINGLES (128 * b.val + i.val)).wd := by
  have live : (s.domOn 69 && (s.rxBank b).isOpen) = true := by rw [on, open_]; rfl
  obtain ⟨words, scan, rows⟩ := s.rowsSwapped_keeps b
  obtain ⟨regs', row', scan'⟩ := s.biasNoted_keeps (s.rowsSwapped b) b
  generalize ends : (s.rowsSwapped b).biasNoted s b = u at regs' row' scan'
  have runs : u.slotsRun = s.slotsRun := by
    rw [State.slotsRun, State.slotsRun, State.domOn_congr_of_rd (fun a low => (State.rd_congr regs' a).trans (words a (by omega))) 68 (by omega), scan', scan]
  unfold State.swapBank
  dsimp only
  rw [live, s.bufferSwap_eq b on open_, ends]
  dsimp only
  generalize made : ({ u.rxBank b with isOpen := u.slotsRun, accCol := (s.rxBank b).accCol + 1, shotsRdg := (s.rxBank b).shotsAcc, shotsAcc := [0, 0, 0, 0] } : BankRx) = y
  have own : ((u.setRxBank b y).noteStarted b (s.rxBank b).accCol).rxBank b = y := (u.rxBank_setRxBank b b y).trans (if_pos rfl)
  have shown (k : Nat) : ((u.setRxBank b y).noteStarted b (s.rxBank b).accCol).row k = (s.rowsSwapped b).row k := row' k
  have read (f : Fld) : ((u.setRxBank b y).noteStarted b (s.rxBank b).accCol).get f = (s.rowsSwapped b).get f := by
    rw [State.get, State.rd_congr (t := (u.setRxBank b y).noteStarted b (s.rxBank b).accCol) (s := s.rowsSwapped b) regs']
    rfl
  rw [State.when, if_pos rfl, own]
  subst made
  refine ⟨rfl, rfl, rfl, runs, fun i on => ?_⟩
  obtain ⟨⟨col, next, coarse, tracker, snap, count⟩, singles⟩ := rows i on
  rw [shown, read]
  exact ⟨col, next, coarse, tracker, snap, count, singles⟩

theorem State.swapBank_rests (s : State) (b : Fin 8) (h : s.domOn 69 = false ∨ (s.rxBank b).isOpen = false) : s.swapBank b = s := by
  have shut : (s.domOn 69 && (s.rxBank b).isOpen) = false := by
    obtain h | h := h <;> simp [h]
  unfold State.swapBank
  dsimp only
  rw [shut]
  unfold State.bufferSwap
  dsimp only
  rw [shut]
  rfl

end

/-- Settles O39, clause by clause: a lane's cycle, the injection, the snapshot and the swap. -/
theorem histogramSlices : Obligations.HistogramSlices := by
  unfold Obligations.HistogramSlices
  refine ⟨fun r lane i => ?counts, fun r lane i => ?corrected, fun r lane i => ?uncorrected, fun r lane e => .of_effect (fun _ => rfl) fun s none => s.laneCycle_rests r (bit lane) e none,
    fun b i coarse _ => b.count_coarse i coarse, histogramSlices_inject, fun r => .of_effect (fun _ => rfl) fun s ⟨on, runs, fresh⟩ => s.zoomSnapshot_selects r on runs fresh,
    fun r => .of_effect (fun _ => rfl) fun s h => s.zoomSnapshot_rests r h, fun b => ?swaps, fun b => ?shut⟩
  case counts => exact .of_effect (fun _ => rfl) fun s ⟨found, clean, still, here⟩ => s.laneCycle_counts r (bit lane) i found clean still here
  case corrected =>
    refine .of_effect (fun _ => rfl) fun s ⟨found, clean⟩ => ?_
    obtain ⟨count, queue, -⟩ := s.laneCycle_shows r (bit lane) 1 i found clean _ _ ((s.taken r i).eccFinding_corrected r (bit lane) i.col i.word)
    exact ⟨(queue.trans (RowSt.onBuf_queue _ _ _)).trans (s.taken_own r i).1, count⟩
  case uncorrected =>
    refine .of_effect (fun _ => rfl) fun s ⟨found, clean, here⟩ => ?_
    obtain ⟨queue', acc'⟩ := s.taken_own r i
    obtain ⟨count, queue, acc⟩ := s.laneCycle_shows r (bit lane) 2 i found clean _ _ ((s.taken r i).eccFinding_uncorrected r (bit lane) i.col i.word)
    refine ⟨(queue.trans (RowSt.onBuf_queue _ _ _)).trans queue', ?_, count⟩
    have lost := RowSt.onBuf_acc ((s.taken r i).row r) i.col (fun b => b.lose (bit lane) i.word) (by rw [acc']; exact here.symm)
    have col : (((s.taken r i).row r).onBuf i.col (fun b => b.lose (bit lane) i.word)).acc.col = i.col := by
      rw [lost, acc']
      exact (RowBuf.clearWord_col _ _ _).trans here.symm
    refine (congrArg RowBuf.invalid acc).trans ?_
    rw [RowSt.onBuf_acc _ _ _ col, RowBuf.count_invalid, lost]
    rfl
  case swaps => exact .of_effect (fun _ => rfl) fun s ⟨on, open_⟩ => s.swapBank_swaps b on open_
  case shut => exact .of_effect (fun _ => rfl) fun s h => s.swapBank_rests b h

end Sys2Proof.Machine
end

section
/-! PROOFS. The peak engine (R189, R215, R216, R219): read-out, release, self-check and its writes. -/
namespace Sys2Proof.Machine

/-! ### What the figures of a part keep (R218) -/

/-- Region `g`'s part, the columns and the region's marks stay. -/
structure PartKept (g : Nat) (s t : State) : Prop where
  rows : (t.region g).rows = (s.region g).rows
  pend : (t.region g).checkPend = (s.region g).checkPend
  cols : t.ps.cols = s.ps.cols
  fenced : t.get (F.PE.PE_STAT_FENCED g) = s.get (F.PE.PE_STAT_FENCED g)
  failed : t.get (F.PE.PE_STAT_SELFCHECK_FAIL g) = s.get (F.PE.PE_STAT_SELFCHECK_FAIL g)

theorem State.region_setRegion (s : State) (g k : Nat) (x : RegionSt) : (s.setRegion g x).region k = if k = g then x else s.region k := spGet_spSet _ _ _ _ _

theorem State.region_view {β : Type} (v : RegionSt → β) (s : State) (g : Nat) (x : RegionSt) : v ((s.setRegion g x).region g) = v x :=
  congrArg v ((s.region_setRegion g g x).trans (if_pos rfl))

namespace PartKept

variable {g : Nat} {s t u : State}

theorem refl (s : State) : PartKept g s s := ⟨rfl, rfl, rfl, rfl, rfl⟩

theorem trans (h : PartKept g s t) (k : PartKept g t u) : PartKept g s u :=
  ⟨k.rows.trans h.rows, k.pend.trans h.pend, k.cols.trans h.cols, k.fenced.trans h.fenced, k.failed.trans h.failed⟩

theorem set (s : State) (f : Fld) (x : Nat) (fits : f.fits = true) (apart : (F.PE.PE_STAT_FENCED g).addr ≠ f.addr ∨ 2 ≤ f.lo) : PartKept g s (s.set f x) := by
  refine ⟨rfl, rfl, rfl, s.get_set_apart f _ x fits ?_, s.get_set_apart f _ x fits ?_⟩
  · exact apart.imp_right fun h => .inr h
  · refine apart.imp_right fun h => .inr ?_
    simp only [F.PE.PE_STAT_SELFCHECK_FAIL]
    omega

theorem raise (few : g < 4) (s : State) (n i d : Nat) (known : n < 256) : PartKept g s (s.raise n i d) := by
  have told := Answering.raise s n i d
  have word : (s.raise n i d).rd (F.PE.PE_STAT_FENCED g).addr = s.rd (F.PE.PE_STAT_FENCED g).addr :=
    s.rd_raise_device n i d _ known (by simp only [F.PE.PE_STAT_FENCED]; omega) (by simp only [F.PE.PE_STAT_FENCED]; omega)
  have same : (s.raise n i d).region g = s.region g := by rw [State.region, told.rx_eq]; rfl
  refine ⟨by rw [same], by rw [same], by rw [told], ?_, ?_⟩
  · rw [State.get, word]
    rfl
  · exact congrArg (fun v : Word => bitsOf v.toNat 0 1) word

theorem setRegion (s : State) (x : RegionSt) (rows : x.rows = (s.region g).rows) (pend : x.checkPend = (s.region g).checkPend) : PartKept g s (s.setRegion g x) :=
  ⟨(State.region_view RegionSt.rows s g x).trans rows, (State.region_view RegionSt.checkPend s g x).trans pend, rfl, rfl, rfl⟩

theorem when (b : Bool) {f : State → State} (h : PartKept g s (f s)) : PartKept g s (s.when b f) := by
  unfold State.when
  split
  · exact h
  · exact .refl s

theorem fencedFlag (h : PartKept g s t) : t.fenced g = s.fenced g := by rw [State.fenced, State.flag, h.fenced]; rfl

end PartKept

section
variable (s : State) (g : Nat)

/-- The counts of a part's rows, of those the totals are not. -/
def State.partCounted (s : State) (g : Nat) (rows : List RowOut) : RegionSt :=
  ((((((s.region g).addSum 0 (rows.filter (fun o => !o.absent)).length).addSum 1 (countRets rows (fun _ => true))).addSum 2
    (rows.filter (fun o => o.excess && !o.absent)).length).addSum 3 (countRets rows (fun x => x.foreign))).addSum 4
    (countRets rows (fun x => x.precip))).addSum 5 (countRets rows (fun x => x.multi))

theorem State.partSums_kept (rows : List RowOut) : PartKept g s (s.partSums g rows) := by
  have counted : PartKept g s (s.setRegion g (s.partCounted g rows)) := .setRegion s _ rfl rfl
  have total (u : State) (o x : Nat) (other : o ≠ 0x60) : PartKept g u (u.set ⟨0x50000 + o + 0x4000 * g, 0, 32⟩ x) := by
    refine .set u _ x rfl (.inl ?_)
    simp only [F.PE.PE_STAT_FENCED]
    omega
  exact ((counted.trans (total _ 0xC0 _ (by omega))).trans (total _ 0xC4 _ (by omega))).trans (total _ 0xC8 _ (by omega))

/-- The published figures of a frame (Table 9-10). -/
def State.frameShown (s : State) (g level il : Nat) : State :=
  let v := fun i => (s.region g).sums.getD i 0
  let s := ((s.set (F.PE.ROWS_DONE g) (v 0)).set (F.PE.RETURNS g) (v 1)).set (F.PE.EXCESS_ROWS g) (v 2)
  let s := ((s.set (F.PE.FOREIGN_RET g) (v 3)).set (F.PE.PRECIP_RET g) (v 4)).set (F.PE.MP_RET g) (v 5)
  (((s.set (F.PE.WIN_LEVEL g) level).set (F.PE.IL g) il).set (F.PE.PE_STAT_IL g) il).publish (F.PE.PE_FRAME_ST g)

theorem State.frameShown_kept (level il : Nat) : PartKept g s (s.frameShown g level il) := by
  have word (u : State) (f : Fld) (x o : Nat) (fits : f.fits = true) (place : f.addr = 0x50000 + o + 0x4000 * g) (other : o ≠ 0x60) : PartKept g u (u.set f x) := by
    refine .set u _ x fits (.inl ?_)
    simp only [F.PE.PE_STAT_FENCED]
    omega
  have first (u : State) (a b c : Nat) : PartKept g u (((u.set (F.PE.ROWS_DONE g) a).set (F.PE.RETURNS g) b).set (F.PE.EXCESS_ROWS g) c) :=
    ((word _ _ _ 0x84 rfl rfl (by omega)).trans (word _ _ _ 0x88 rfl rfl (by omega))).trans (word _ _ _ 0x8C rfl rfl (by omega))
  have second (u : State) (a b c : Nat) : PartKept g u (((u.set (F.PE.FOREIGN_RET g) a).set (F.PE.PRECIP_RET g) b).set (F.PE.MP_RET g) c) :=
    ((word _ _ _ 0x90 rfl rfl (by omega)).trans (word _ _ _ 0x98 rfl rfl (by omega))).trans (word _ _ _ 0x9C rfl rfl (by omega))
  have third (u : State) : PartKept g u (((u.set (F.PE.WIN_LEVEL g) level).set (F.PE.IL g) il).set (F.PE.PE_STAT_IL g) il) :=
    ((word _ _ _ 0x94 rfl rfl (by omega)).trans (word _ _ _ 0x94 rfl rfl (by omega))).trans (.set _ _ _ rfl (.inr (by simp only [F.PE.PE_STAT_IL]; omega)))
  have last (u : State) : PartKept g u (u.publish (F.PE.PE_FRAME_ST g)) :=
    (word _ ⟨(F.PE.PE_FRAME_ST g).addr, 31, 1⟩ _ 0x80 rfl rfl (by omega)).trans (word _ ⟨(F.PE.PE_FRAME_ST g).addr, 0, 16⟩ _ 0x80 rfl rfl (by omega))
  exact (((first s _ _ _).trans (second _ _ _ _)).trans (third _)).trans (last _)

/-- The windows' verdicts behind a frame (R218). -/
def State.frameJudged (s : State) (g level n dn cn : Nat) (y : RegionSt) : State :=
  let s := s.setRegion g { y with sums := [0, 0, 0, 0, 0, 0, 0, 0], dirtyN := dn, cleanN := cn }
  if n ≤ dn && !s.flag (F.PE.PE_STAT_DIRTY g) then (s.set (F.PE.PE_STAT_DIRTY g) 1).raise EV_WINDOW_DIRTY g level
  else s.when (decide (n ≤ cn)) (fun s => s.set (F.PE.PE_STAT_DIRTY g) 0)

theorem State.frameJudged_kept (few : g < 4) (level n dn cn : Nat) (y : RegionSt) (rows : y.rows = (s.region g).rows) (pend : y.checkPend = (s.region g).checkPend) :
    PartKept g s (s.frameJudged g level n dn cn y) := by
  have dirty (u : State) (x : Nat) : PartKept g u (u.set (F.PE.PE_STAT_DIRTY g) x) := .set u _ x rfl (.inr (by simp only [F.PE.PE_STAT_DIRTY]; omega))
  have cleared := PartKept.setRegion s { y with sums := [0, 0, 0, 0, 0, 0, 0, 0], dirtyN := dn, cleanN := cn } rows pend
  unfold State.frameJudged
  dsimp only
  split
  · exact cleared.trans ((dirty _ 1).trans (.raise few _ _ _ _ (by decide)))
  · exact cleared.trans (.when _ (dirty _ 0))

theorem State.frameResult_eq : s.frameResult g =
    let v := fun i => (s.region g).sums.getD i 0
    let level := if v 0 = 0 ∨ v 7 = 0 then 0 else min 65535 (65536 * v 6 / v 7)
    let il := s.interference g (v 0) (v 2) (v 3)
    let u := (s.frameShown g level il).when (decide (s.get (F.PE.PE_STAT_IL g) < il)) (fun s => s.raise EV_FOREIGN_SCANNER g il)
    u.frameJudged g level (u.getAt 8 (F.PE.PE_WIN_WIN_FRAMES g)) (if u.getAt 8 (F.PE.PE_WIN_WIN_DIRTY g) ≤ level then (s.region g).dirtyN + 1 else 0)
      (if level < 3 * u.getAt 8 (F.PE.PE_WIN_WIN_DIRTY g) / 4 then (s.region g).cleanN + 1 else 0) (s.region g) := rfl

theorem State.frameResult_kept (few : g < 4) : PartKept g s (s.frameResult g) := by
  rw [s.frameResult_eq]
  dsimp only
  generalize (if (s.region g).sums.getD 0 0 = 0 ∨ (s.region g).sums.getD 7 0 = 0 then 0 else min 65535 (65536 * (s.region g).sums.getD 6 0 / (s.region g).sums.getD 7 0)) = level
  generalize s.interference g ((s.region g).sums.getD 0 0) ((s.region g).sums.getD 2 0) ((s.region g).sums.getD 3 0) = il
  have shown := (s.frameShown_kept g level il).trans (PartKept.when (f := fun u => u.raise EV_FOREIGN_SCANNER g il) (decide (s.get (F.PE.PE_STAT_IL g) < il)) (.raise few _ _ _ _ (by decide)))
  exact shown.trans (State.frameJudged_kept _ g few level _ _ _ _ shown.rows.symm shown.pend.symm)

end

/-! ### A part that reaches the formatters (R224) -/

/-- Column `c`, still without region `g`'s part and not given up, has it appended. -/
def PartGiven (s t : State) (g c : Nat) (rows : List RowOut) : Prop :=
  ∀ k ∈ s.ps.cols, k.c = c → k.parts.all (fun e => e.1 != g) = true → k.late / 2 ^ g % 2 = 0 → ∃ k' ∈ t.ps.cols, k'.c = k.c ∧ k'.parts = k.parts ++ [(g, rows)]

section
variable (s : State) (g c : Nat) (rows : List RowOut)

/-- Column `k` with the part. -/
def ColInfo.withPart (k : ColInfo) (g c : Nat) (rows : List RowOut) (full : Bool) : ColInfo :=
  if k.c = c ∧ k.parts.all (fun e => e.1 != g) ∧ k.late / 2 ^ g % 2 = 0 then { k with parts := k.parts ++ [(g, rows)], overrun := k.overrun || full } else k

/-- Whether the formatters' queue is full. -/
def State.queueFull (s : State) (g : Nat) : Bool :=
  decide ((if s.ps.format = 1 then 1 else 2) ≤ (s.ps.cols.filter (fun k => !k.built && k.parts.any (fun e => e.1 == g))).length)

theorem State.givePart_eq : s.givePart g c rows =
    ({ s with ps := { s.ps with cols := s.ps.cols.map (fun k => k.withPart g c rows (s.queueFull g)) } } : State).when (s.queueFull g) (fun s => s.raise EV_POINT_QUEUE_FULL g c) := rfl

theorem State.givePart_cols : (s.givePart g c rows).ps.cols = s.ps.cols.map (fun k => k.withPart g c rows (s.queueFull g)) := by
  rw [s.givePart_eq, State.when]
  split
  · rw [Answering.raise]
  · rfl

theorem State.givePart_gives : PartGiven s (s.givePart g c rows) g c rows := fun k mem its fresh wanted => by
  rw [s.givePart_cols]
  refine ⟨_, List.mem_map.2 ⟨k, mem, rfl⟩, ?_⟩
  rw [ColInfo.withPart, if_pos ⟨its, fresh, wanted⟩]
  exact ⟨rfl, rfl⟩

/-- What the part's way to the formatters keeps of a region. -/
theorem State.givePart_region (few : g < 4) : (s.givePart g c rows).region g = s.region g ∧ (s.givePart g c rows).get (F.PE.PE_STAT_FENCED g) = s.get (F.PE.PE_STAT_FENCED g) ∧
    (s.givePart g c rows).get (F.PE.PE_STAT_SELFCHECK_FAIL g) = s.get (F.PE.PE_STAT_SELFCHECK_FAIL g) := by
  rw [s.givePart_eq]
  generalize State.queueFull s g = full
  generalize same : ({ s with ps := { s.ps with cols := s.ps.cols.map (fun k => k.withPart g c rows full) } } : State) = u
  have kept : u.region g = s.region g ∧ u.get (F.PE.PE_STAT_FENCED g) = s.get (F.PE.PE_STAT_FENCED g) ∧ u.get (F.PE.PE_STAT_SELFCHECK_FAIL g) = s.get (F.PE.PE_STAT_SELFCHECK_FAIL g) := by
    subst same
    exact ⟨rfl, rfl, rfl⟩
  rw [State.when]
  split
  · have told := PartKept.raise few u EV_POINT_QUEUE_FULL g c (by decide)
    refine ⟨?_, told.fenced.trans kept.2.1, told.failed.trans kept.2.2⟩
    rw [State.region, (Answering.raise u _ _ _).rx_eq]
    exact kept.1
  · exact kept

/-- The part of region `g` released: its figures counted, given, and the region's own record `x`. -/
def State.partReleased (s : State) (g c : Nat) (rows : List RowOut) (x : RegionSt) : State := ((s.partSums g rows).givePart g c rows).setRegion g x

theorem State.partReleased_spec (few : g < 4) (x : RegionSt) :
    (s.partReleased g c rows x).region g = x ∧ PartGiven s (s.partReleased g c rows x) g c rows ∧ (s.partReleased g c rows x).get (F.PE.PE_STAT_FENCED g) = s.get (F.PE.PE_STAT_FENCED g) ∧
      (s.partReleased g c rows x).get (F.PE.PE_STAT_SELFCHECK_FAIL g) = s.get (F.PE.PE_STAT_SELFCHECK_FAIL g) := by
  have summed := s.partSums_kept g rows
  obtain ⟨-, fenced, failed⟩ := (s.partSums g rows).givePart_region g c rows few
  have given := (s.partSums g rows).givePart_gives g c rows
  rw [PartGiven, summed.cols] at given
  exact ⟨(State.region_setRegion _ g g x).trans (if_pos rfl), given, fenced.trans summed.fenced, failed.trans summed.failed⟩

end

/-! ### Release and self-check (R215, R216) -/

section
variable (s : State) (g : Nat)

/-- The frame's figures, where column `c` ends its frame. -/
def State.frameEnded (s : State) (g c : Nat) : State := s.when (s.endsFrame c) (fun s => s.frameResult g)

variable {s g} in
theorem PartKept.frameEnded (few : g < 4) (u : State) (c : Nat) : PartKept g u (u.frameEnded g c) := .when _ (u.frameResult_kept g few)

/-- What stays of a released part `t` at the frame's end. -/
theorem State.frameEnded_spec (few : g < 4) (u : State) (c : Nat) : ((u.frameEnded g c).region g).rows = (u.region g).rows ∧ ((u.frameEnded g c).region g).checkPend = (u.region g).checkPend ∧
    (u.frameEnded g c).ps.cols = u.ps.cols := have kept := PartKept.frameEnded few u c; ⟨kept.rows, kept.pend, kept.cols⟩

/-- The rows of region `g`'s part as they are released. -/
def State.releasedRows (s : State) (g : Nat) : List RowOut := if s.fenced g then allAbsent (s.region g).rows else s.bloom g (s.region g).rows

theorem State.columnRelease_eq (on : s.domOn (70 + g) = true) (some : (s.region g).rows ≠ []) (pend : (s.region g).checkPend = false) : s.columnRelease g =
    let rows := s.releasedRows g
    let u := s.setRegion g { s.region g with rows := rows }
    if (s.region g).col % s.nCol = 0 then u.setRegion g { u.region g with checkPend := true }
    else (u.partReleased g (s.region g).col rows { (u.partSums g rows).region g with rows := [] }).frameEnded g (s.region g).col := by
  have live : (s.domOn (70 + g) && !(s.region g).rows.isEmpty && !(s.region g).checkPend) = true := by simp [on, some, pend]
  unfold State.columnRelease
  dsimp only
  rw [if_pos live]
  rfl

theorem State.columnRelease_waits (on : s.domOn (70 + g) = true) (some : (s.region g).rows ≠ []) (pend : (s.region g).checkPend = false) (first : (s.region g).col % s.nCol = 0)
    (free : s.fenced g = false) :
    let t := s.columnRelease g
    t = { s with rx := t.rx } ∧ (t.region g).checkPend = true ∧ (t.region g).rows = s.bloom g (s.region g).rows := by
  have rows : s.releasedRows g = s.bloom g (s.region g).rows := if_neg (by simp [free])
  dsimp only
  rw [s.columnRelease_eq g on some pend, rows]
  dsimp only
  rw [if_pos first]
  refine ⟨rfl, (State.region_view RegionSt.checkPend _ _ _).trans rfl, (State.region_view RegionSt.rows _ _ _).trans ?_⟩
  exact (State.region_view RegionSt.rows s g { s.region g with rows := s.bloom g (s.region g).rows }).trans rfl

theorem State.columnRelease_releases (few : g < 4) (on : s.domOn (70 + g) = true) (some : (s.region g).rows ≠ []) (pend : (s.region g).checkPend = false)
    (later : (s.region g).col % s.nCol ≠ 0) :
    ((s.columnRelease g).region g).rows = [] ∧ ((s.columnRelease g).region g).checkPend = false ∧ PartGiven s (s.columnRelease g) g (s.region g).col (s.releasedRows g) := by
  rw [s.columnRelease_eq g on some pend]
  generalize s.releasedRows g = rows
  dsimp only
  rw [if_neg later]
  have waits : ((s.setRegion g { s.region g with rows := rows }).region g).checkPend = false := (State.region_view RegionSt.checkPend s g { s.region g with rows := rows }).trans pend
  have given : PartGiven (s.setRegion g { s.region g with rows := rows }) = PartGiven s := rfl
  generalize s.setRegion g { s.region g with rows := rows } = u at waits given
  have still := (u.partSums_kept g rows).pend.trans waits
  generalize left : ({ (u.partSums g rows).region g with rows := [] } : RegionSt) = x
  obtain ⟨own, gave, -, -⟩ := u.partReleased_spec g (s.region g).col rows few x
  rw [given] at gave
  obtain ⟨rows', pend', cols⟩ := State.frameEnded_spec g few (u.partReleased g (s.region g).col rows x) (s.region g).col
  rw [rows', pend', own, PartGiven, cols]
  subst left
  exact ⟨rfl, still, gave⟩

theorem State.columnRelease_rests (h : s.domOn (70 + g) = false ∨ (s.region g).rows = [] ∨ (s.region g).checkPend = true) : s.columnRelease g = s := by
  refine if_neg ?_
  obtain h | h | h := h <;> simp [h]

/-- A self-check that failed, shown. -/
def State.checkFailed (s : State) (g : Nat) : State := (s.set (F.PE.PE_STAT_SELFCHECK_FAIL g) 1).raise (EV_PEAK_SELFCHECK g) 0 0

theorem State.selfCheck_matched (on : s.domOn (70 + g) = true) (pend : (s.region g).checkPend = true) : s.selfCheck g true =
    (s.partReleased g (s.region g).col (s.region g).rows { (s.partSums g (s.region g).rows).region g with rows := [], checkPend := false }).frameEnded g (s.region g).col := by
  unfold State.selfCheck
  dsimp only
  rw [if_pos (by rw [on, pend]; rfl)]
  rfl

theorem State.selfCheck_failed (on : s.domOn (70 + g) = true) (pend : (s.region g).checkPend = true) : s.selfCheck g false =
    (((s.checkFailed g).partReleased g (s.region g).col (allAbsent (s.region g).rows)
      { ((s.checkFailed g).partSums g (allAbsent (s.region g).rows)).region g with rows := [], checkPend := false }).fence g).frameEnded g (s.region g).col := by
  unfold State.selfCheck
  dsimp only
  rw [if_pos (by rw [on, pend]; rfl)]
  rfl

theorem State.selfCheck_rests (m : Bool) (h : s.domOn (70 + g) = false ∨ (s.region g).checkPend = false) : s.selfCheck g m = s := by
  refine if_neg ?_
  obtain h | h := h <;> simp [h]

theorem State.selfCheck_passes (few : g < 4) (on : s.domOn (70 + g) = true) (pend : (s.region g).checkPend = true) :
    (s.selfCheck g true).fenced g = s.fenced g ∧ ((s.selfCheck g true).region g).rows = [] ∧ ((s.selfCheck g true).region g).checkPend = false := by
  rw [s.selfCheck_matched g on pend]
  generalize left : ({ (s.partSums g (s.region g).rows).region g with rows := [], checkPend := false } : RegionSt) = x
  obtain ⟨own, -, fenced, -⟩ := s.partReleased_spec g (s.region g).col (s.region g).rows few x
  obtain ⟨rows', pend', -⟩ := State.frameEnded_spec g few (s.partReleased g (s.region g).col (s.region g).rows x) (s.region g).col
  have kept := (PartKept.frameEnded few (s.partReleased g (s.region g).col (s.region g).rows x) (s.region g).col).fencedFlag
  rw [kept, rows', pend', own, State.fenced, State.flag, fenced]
  subst left
  exact ⟨rfl, rfl, rfl⟩

theorem State.fence_fenced (few : g < 4) : (s.fence g).fenced g = true ∧ (s.fence g).get (F.PE.PE_STAT_SELFCHECK_FAIL g) = s.get (F.PE.PE_STAT_SELFCHECK_FAIL g) ∧
    (s.fence g).region g = s.region g ∧ (s.fence g).ps.cols = s.ps.cols := by
  unfold State.fence
  split
  next already => exact ⟨already, rfl, rfl, rfl⟩
  · have told := PartKept.raise few (s.set (F.PE.PE_STAT_FENCED g) 1) (EV_REGION_FENCE g) 0 0 (by simp only [EV_REGION_FENCE]; omega)
    refine ⟨told.fencedFlag.trans (State.flag_set_one _ _ rfl rfl), told.failed.trans (s.get_set_apart _ _ _ rfl (.inr (.inr (Nat.le_refl _)))), ?_, told.cols⟩
    rw [State.region, (Answering.raise _ _ _ _).rx_eq]
    rfl

theorem State.selfCheck_fails (few : g < 4) (on : s.domOn (70 + g) = true) (pend : (s.region g).checkPend = true) :
    (s.selfCheck g false).flag (F.PE.PE_STAT_SELFCHECK_FAIL g) = true ∧ (s.selfCheck g false).fenced g = true ∧ ((s.selfCheck g false).region g).rows = [] ∧
      ((s.selfCheck g false).region g).checkPend = false ∧ PartGiven s (s.selfCheck g false) g (s.region g).col (allAbsent (s.region g).rows) := by
  have shown : (s.checkFailed g).get (F.PE.PE_STAT_SELFCHECK_FAIL g) = 1 ∧ (s.checkFailed g).ps.cols = s.ps.cols := by
    have told := PartKept.raise few (s.set (F.PE.PE_STAT_SELFCHECK_FAIL g) 1) (EV_PEAK_SELFCHECK g) 0 0 (by simp only [EV_PEAK_SELFCHECK]; omega)
    exact ⟨told.failed.trans (State.get_set_same _ _ _ rfl), told.cols⟩
  rw [s.selfCheck_failed g on pend]
  generalize s.checkFailed g = u at shown
  generalize allAbsent (s.region g).rows = rows
  generalize left : ({ (u.partSums g rows).region g with rows := [], checkPend := false } : RegionSt) = x
  obtain ⟨own, gave, -, failed⟩ := u.partReleased_spec g (s.region g).col rows few x
  generalize u.partReleased g (s.region g).col rows x = v at own gave failed
  obtain ⟨fenced, failed', region, cols'⟩ := v.fence_fenced g few
  obtain ⟨rows', pend', cols⟩ := State.frameEnded_spec g few (v.fence g) (s.region g).col
  have kept := PartKept.frameEnded few (v.fence g) (s.region g).col
  have flag : ((v.fence g).frameEnded g (s.region g).col).get (F.PE.PE_STAT_SELFCHECK_FAIL g) = 1 := kept.failed.trans (failed'.trans (failed.trans shown.1))
  rw [PartGiven, shown.2, ← cols', ← cols] at gave
  rw [State.flag, flag, kept.fencedFlag, fenced, rows', pend', region, own]
  subst left
  exact ⟨rfl, rfl, rfl, rfl, gave⟩

end

/-! ### Read-out of a row (R189) -/

section
variable (s : State) (r : Nat)

/-- The findings of row `r`'s read-out taken into account. -/
def State.findingsRead (s : State) (r bits word : Nat) : State :=
  s.when (s.domOn (rowDom r)) (fun u => (u.readFindings r (s.row r).rdg.col).eccFinding r (s.row r).rdg.col (word / 72) (word % 72) bits)

/-- The row joins region `g`'s part. -/
def RegionSt.joined (y : RegionSt) (c : Nat) (o : RowOut) (window shots : Nat) : RegionSt :=
  let y := if y.col = c then y else { y with col := c, rows := [] }
  let y := if o.absent then y else (y.addSum 6 window).addSum 7 shots
  { y with rows := y.rows ++ [o] }

theorem RegionSt.joined_spec (y : RegionSt) (c : Nat) (o : RowOut) (window shots : Nat) :
    (y.joined c o window shots).col = c ∧ (y.joined c o window shots).rows = (if y.col = c then y.rows else []) ++ [o] := by
  have sums (z : RegionSt) : (if o.absent then z else (z.addSum 6 window).addSum 7 shots).col = z.col ∧ (if o.absent then z else (z.addSum 6 window).addSum 7 shots).rows = z.rows := by
    split <;> exact ⟨rfl, rfl⟩
  unfold RegionSt.joined
  dsimp only
  rw [(sums _).1, (sums _).2]
  split
  next here => exact ⟨here, rfl⟩
  · exact ⟨rfl, rfl⟩

/-- Row `r` of column `c` read out of `s`, its findings and kernel settled; `on`: its domain. -/
def State.rowGiven (s : State) (r : Nat) (on : Bool) (c : Nat) : State :=
  let x := (s.row r).rdg
  let e := s.extractRow r x
  let t := (s.when on (fun s => s.histResult r x)).dumpRow r e.1.absent x
  let t := t.setRow r { t.row r with rdg := { x with coarse := [], zoom := [] } }
  (t.setRegion (rowRegion r) ((t.region (rowRegion r)).joined c e.1 x.window ((List.range 4).map (t.shotsOf (r / 128))).sum)).add (F.PE.MERGED (rowRegion r)) e.2

theorem State.histResult_rx (x : RowBuf) : (s.histResult r x).rx = s.rx := by
  simp only [State.histResult, State.publish, State.setFlag, State.set_rx]

theorem State.rowGiven_spec (on : Bool) (c : Nat) (dump : s.rx.dump = none) :
    ((s.rowGiven r on c).row r).rdg.coarse = [] ∧ ((s.rowGiven r on c).row r).rdg.zoom = [] ∧ ((s.rowGiven r on c).region (rowRegion r)).col = c ∧
      ((s.rowGiven r on c).region (rowRegion r)).rows =
        (if (s.region (rowRegion r)).col = c then (s.region (rowRegion r)).rows else []) ++ [(s.extractRow r (s.row r).rdg).1] := by
  have shown : (s.when on (fun u => u.histResult r (s.row r).rdg)).rx = s.rx := by
    unfold State.when
    split
    · exact s.histResult_rx r _
    · rfl
  unfold State.rowGiven
  dsimp only
  generalize s.when on (fun u => u.histResult r (s.row r).rdg) = u at shown
  generalize s.extractRow r (s.row r).rdg = e
  have quiet : u.dumpRow r e.1.absent (s.row r).rdg = u := by rw [State.dumpRow, shown, dump]
  rw [quiet]
  have region : u.region (rowRegion r) = s.region (rowRegion r) := by rw [State.region, shown]; rfl
  have joined := RegionSt.joined_spec (s.region (rowRegion r)) c e.1 (s.row r).rdg.window
  refine ⟨(State.setRow_view (fun x => x.rdg.coarse) _ _ _).trans rfl, (State.setRow_view (fun x => x.rdg.zoom) _ _ _).trans rfl, (State.region_view RegionSt.col _ _ _).trans ?_,
    (State.region_view RegionSt.rows _ _ _).trans ?_⟩
  · exact (congrArg (fun y : RegionSt => (y.joined _ _ _ _).col) region).trans (joined _).1
  · exact (congrArg (fun y : RegionSt => (y.joined _ _ _ _).rows) region).trans (joined _).2

theorem State.findingsRead_clean (word : Nat) (clean : (s.row r).corrupt = []) :
    let u := s.findingsRead r 0 word
    u.regs = s.regs ∧ u.heldRegs = s.heldRegs ∧ u.row r = s.row r ∧ u.rx.regions = s.rx.regions ∧ u.rx.dump = s.rx.dump := by
  have none : s.readFindings r (s.row r).rdg.col = s.setRow r { s.row r with corrupt := [] } := by
    rw [State.readFindings, clean]
    rfl
  have same : ({ s.row r with corrupt := [] } : RowSt) = s.row r := by rw [← clean]
  dsimp only
  unfold State.findingsRead State.when
  split
  · dsimp only
    rw [none, same, State.eccFinding, if_pos rfl]
    exact ⟨rfl, rfl, (s.setRow_own r _).1, rfl, rfl⟩
  · exact ⟨rfl, rfl, rfl, rfl, rfl⟩

theorem State.chooseKernel_keeps (u : State) (g b : Nat) : (∀ a, a ≠ (F.PE.PE_KSEL_KSEL g).addr → (u.chooseKernel g b).rd a = u.rd a) ∧ (u.chooseKernel g b).rx = u.rx ∧
    (u.chooseKernel g b).heldRegs = u.heldRegs := by
  unfold State.chooseKernel
  split
  · exact ⟨fun _ _ => rfl, rfl, rfl⟩
  · exact ⟨fun a other => u.rd_set_ne _ _ a other, rfl, rfl⟩

/-- A row's absence follows from its words. -/
theorem State.rowAbsent_congr {s t : State} (r : Nat) (x : RowBuf) (words : ∀ a, a ≠ (F.PE.PE_KSEL_KSEL (rowRegion r)).addr → t.rd a = s.rd a) (held : t.heldRegs = s.heldRegs) :
    t.rowAbsent r x = s.rowAbsent r x := by
  have small : rowRegion r < 4 := by
    simp only [rowRegion]
    omega
  have iso : t.isolated (rowSlice r) = s.isolated (rowSlice r) := by
    rw [State.isolated, State.bitAt, State.get, words _ (by simp only [F.RX.SLICE_ISO_ISO, F.PE.PE_KSEL_KSEL, rowSlice]; omega)]
    rfl
  have fenced : t.fenced (rowRegion r) = s.fenced (rowRegion r) := by
    rw [State.fenced, State.flag, State.get, words _ (by simp only [F.PE.PE_STAT_FENCED, F.PE.PE_KSEL_KSEL]; omega)]
    rfl
  have dom : t.domOn (rowDom r) = s.domOn (rowDom r) :=
    State.domOn_congr_of_rd (fun a low => words a (by simp only [F.PE.PE_KSEL_KSEL]; omega)) (rowDom r) (by simp only [rowDom]; omega)
  have enabled : t.flag (F.ROW.ROW_CTRL_EN r) = s.flag (F.ROW.ROW_CTRL_EN r) := by
    rw [State.flag, State.get, words _ (by simp only [F.ROW.ROW_CTRL_EN, F.PE.PE_KSEL_KSEL]; omega)]
    rfl
  have word (g a : Nat) (high : 0x1000000 ≤ a) : t.rdAt g a = s.rdAt g a := by
    rw [State.rdAt, held, words a (by simp only [F.PE.PE_KSEL_KSEL]; omega)]
    rfl
  have cells (q : Nat) : t.activeCells r q = s.activeCells r q := by
    rw [State.activeCells, State.cellMap, State.getAt, State.getAt, word _ _ (by simp only [F.ROW.EN_LO]; omega), word _ _ (by simp only [F.ROW.EN_HI]; omega)]
    rfl
  rw [State.rowAbsent, State.rowAbsent, iso, fenced, dom, enabled]
  simp only [cells]

theorem State.rowReadout_eq (bits word : Nat) (on : s.domOn 69 = true) (region : s.domOn (70 + rowRegion r) = true) :
    s.rowReadout r bits word = ((s.findingsRead r bits word).chooseKernel (rowRegion r) (r / 128)).rowGiven r (s.domOn (rowDom r)) (s.row r).rdg.col := by
  unfold State.rowReadout
  dsimp only
  rw [if_pos (by rw [on, region]; rfl)]
  rfl

theorem State.rowReadout_rests (bits word : Nat) (h : s.domOn 69 = false ∨ s.domOn (70 + rowRegion r) = false) : s.rowReadout r bits word = s := by
  refine if_neg ?_
  obtain h | h := h <;> simp [h]

theorem State.rowReadout_reads (word : Nat) (on : s.domOn 69 = true) (region : s.domOn (70 + rowRegion r) = true) (clean : (s.row r).corrupt = []) (dump : s.rx.dump = none) :
    let t := s.rowReadout r 0 word
    (t.row r).rdg.coarse = [] ∧ (t.row r).rdg.zoom = [] ∧ (t.region (rowRegion r)).col = (s.row r).rdg.col ∧
      ∃ o : RowOut, o.row = r ∧ (o.absent = true ↔ s.rowAbsent r (s.row r).rdg = true) ∧
        (t.region (rowRegion r)).rows = (if (s.region (rowRegion r)).col = (s.row r).rdg.col then (s.region (rowRegion r)).rows else []) ++ [o] := by
  obtain ⟨regs, held, row, regions, dump'⟩ := s.findingsRead_clean r word clean
  obtain ⟨words, rx, held'⟩ := (s.findingsRead r 0 word).chooseKernel_keeps (rowRegion r) (r / 128)
  have words : ∀ a, a ≠ (F.PE.PE_KSEL_KSEL (rowRegion r)).addr → ((s.findingsRead r 0 word).chooseKernel (rowRegion r) (r / 128)).rd a = s.rd a :=
    fun a other => (words a other).trans (State.rd_congr regs a)
  have row : ((s.findingsRead r 0 word).chooseKernel (rowRegion r) (r / 128)).row r = s.row r := by rw [State.row, rx]; exact row
  have absent := State.rowAbsent_congr r (s.row r).rdg words (held'.trans held)
  have region' : ((s.findingsRead r 0 word).chooseKernel (rowRegion r) (r / 128)).region (rowRegion r) = s.region (rowRegion r) := by
    rw [State.region, rx, regions]
    rfl
  dsimp only
  rw [s.rowReadout_eq r 0 word on region]
  obtain ⟨coarse, zoom, col, rows⟩ := State.rowGiven_spec ((s.findingsRead r 0 word).chooseKernel (rowRegion r) (r / 128)) r (s.domOn (rowDom r)) (s.row r).rdg.col (by rw [rx, dump', dump])
  rw [row, region'] at rows
  exact ⟨coarse, zoom, col, _, rfl, by rw [← absent]; rfl, rows⟩

end

/-! ### Writes (R219) -/

section
variable (via : Port) (seq : BitVec 16) (a : BitVec 32) (v : Word) (g : Fin 4) (aligned : a.toNat % 4 = 0)

theorem findBlk_region (g : Fin 4) (o : Nat) (inside : o < 0x4000) : findBlk (0x50000 + 0x4000 * g.val + o) = some (blkPe, g.val, o) :=
  findBlk_at (regBlocks.take 11) (regBlocks.drop 12) blkPe rfl (by decide +kernel) g o g.isLt inside (by decide)

include aligned in
theorem peakEngine_stores (low : 0x50000 + 0x4000 * g.val ≤ a.toNat) (high : a.toNat < 0x54000 + 0x4000 * g.val) {h : State → Prop} {e : State → State → Prop}
    (effect : ∀ u, h u → e u (u.wrRegion a.toNat v)) : Writes (.peConfigWrite via seq a [v]) a.toNat 1 h e := by
  have place : a.toNat = 0x50000 + 0x4000 * g.val + (a.toNat - (0x50000 + 0x4000 * g.val)) := by omega
  have block : oneBlock a.toNat 1 = true := by
    rw [place]
    exact oneBlock_of _ 1 _ _ _ (findBlk_region g _ (by omega)) (by simp only [blkPe]; omega)
  refine .of_word rfl a.isLt aligned block (by simpa [wordAddrs] using unlocked_of_range a.toNat 1 ⟨by omega, by omega⟩) (fun u _ => u.writeRefused_other _ [v] (.inr (by omega)))
    (plainWord_of_range _ ⟨by omega, by omega⟩) fun u noStep hu => ?_
  rw [u.hostStore_ranging _ v noStep (by omega) (by omega), State.wrRanging, if_neg (by omega), if_neg (by omega)]
  exact effect u hu

theorem State.hostWrite_asSet (u : State) (a : Nat) (v : Word) : ∃ x, u.hostWrite a v = u.set ⟨a, 0, 32⟩ x := ⟨_, u.wr_eq_set a _⟩

theorem State.holdScanning_hostWrite (u : State) (a : Nat) (v : Word) (small : a < 2 ^ 32) (st : u.pw.st = .scanning) :
    ((u.holdScanning [8] a).hostWrite a v).rd a = (u.hostWrite a v).rd a ∧ ∀ f : Fld, f.addr = a → ((u.holdScanning [8] a).hostWrite a v).getAt 8 f = u.getAt 8 f := by
  have regs := (u.holdScanning_cal [8] a).2
  refine ⟨?_, fun f at_ => ?_⟩
  · rw [State.hostWrite, State.hostWrite, State.rd_congr regs a]
    exact (State.rd_wr _ _ _ _).trans ((if_pos rfl).trans ((State.rd_wr _ _ _ _).trans (if_pos rfl)).symm)
  · obtain ⟨x, shape⟩ := (u.holdScanning [8] a).hostWrite_asSet a v
    rw [shape, State.getAt, at_, u.rdAt_heldSet [8] st ⟨a, 0, 32⟩ x 8 (List.mem_singleton.2 rfl) small, State.getAt, at_]

theorem State.wrRegion_staged (u : State) (a g : Nat) (v : Word) (low : 0x50000 + 0x4000 * g ≤ a) (high : a ≤ 0x50028 + 0x4000 * g) : u.wrRegion a v = (u.holdScanning [8] a).hostWrite a v := by
  have early : (a - 0x50000) % 0x4000 ≤ 0x28 := by omega
  unfold State.wrRegion
  dsimp only
  rw [if_pos early]

theorem State.wrRegion_table (u : State) (a g : Nat) (v : Word) (low : 0x50100 + 0x4000 * g ≤ a) (high : a < 0x50180 + 0x4000 * g) :
    u.wrRegion a v = if u.pw.st = .scanning then u.set (F.PE.PE_STAT_CFG_ERR g) 1 else u.hostWrite a v := by
  have index : (a - 0x50000) / 0x4000 = g := by omega
  have past : ¬ (a - 0x50000) % 0x4000 ≤ 0x28 := by omega
  have table : (0x40 ≤ (a - 0x50000) % 0x4000 ∧ (a - 0x50000) % 0x4000 < 0x58) ∨ 0x100 ≤ (a - 0x50000) % 0x4000 := by omega
  have other : ¬ ((a - 0x50000) % 0x4000 = 0x40 ∧ g ≠ 0) := by omega
  unfold State.wrRegion
  dsimp only
  rw [if_neg past, if_pos table, index, if_neg other]

end

/-- Settles O40, clause by clause: read-out, release, self-check and the writes of a region's words. -/
theorem peakEngine : Obligations.PeakEngine := by
  unfold Obligations.PeakEngine
  refine ⟨fun r w => .of_effect (fun _ => rfl) fun s ⟨on, region, clean, dump⟩ => s.rowReadout_reads r w on region clean dump,
    fun r e w => .of_effect (fun _ => rfl) fun s h => s.rowReadout_rests r e w h,
    fun g => .of_effect (fun _ => rfl) fun s ⟨on, full, pend, first, free⟩ => s.columnRelease_waits g on full pend first free,
    fun g => .of_effect (fun _ => rfl) fun s ⟨on, full, pend, later⟩ => s.columnRelease_releases g g.isLt on full pend later,
    fun g => .of_effect (fun _ => rfl) fun s h => s.columnRelease_rests g h, fun g => .of_effect (fun _ => rfl) fun s ⟨on, pend⟩ => s.selfCheck_fails g g.isLt on pend,
    fun g => .of_effect (fun _ => rfl) fun s ⟨on, pend⟩ => s.selfCheck_passes g g.isLt on pend, fun g m => .of_effect (fun _ => rfl) fun s h => s.selfCheck_rests g m h,
    fun via seq a v g aligned => ⟨fun low high => ⟨?staged, ?held⟩, fun low high => ⟨?stored, ?refused⟩⟩⟩
  case staged =>
    refine peakEngine_stores via seq a v g aligned low (by omega) fun u st => ?_
    rw [u.wrRegion_staged a.toNat g v low high, u.holdScanning_other st]
  case held =>
    refine peakEngine_stores via seq a v g aligned low (by omega) fun u st => ?_
    rw [u.wrRegion_staged a.toNat g v low high]
    exact u.holdScanning_hostWrite a.toNat v a.isLt st
  case stored =>
    refine peakEngine_stores via seq a v g aligned (by omega) (by omega) fun u st => ?_
    rw [u.wrRegion_table a.toNat g v low high, if_neg st]
  case refused =>
    refine peakEngine_stores via seq a v g aligned (by omega) (by omega) fun u st => ?_
    rw [u.wrRegion_table a.toNat g v low high, if_pos st]
    exact ⟨.set u _ _ (List.mem_singleton.2 rfl), State.flag_set_one _ _ rfl rfl⟩

end Sys2Proof.Machine
end

section
/-! PROOFS. The point stream (R224, R229, R232, R233, R237). The clauses on the chain's configuration take every address of the block, but REG_WRITE refuses one that is no multiple of 4 (R42). -/
namespace Sys2Proof.Machine

/-- The host writes a chain word at an address that is no multiple of 4. -/
def misalignedWrite : Pkt := ⟨.spi, 0, 0x0009, regWritePayload 0x2000041 [0]⟩

/-- The status that the first waiting packet of SPI carries. -/
def firstStatus : Host.Outcome State Fault Refusal → Option Byte
  | .next t => t.cmd.outq.head?.map (fun p => p.getD 12 0)
  | _ => none

theorem misalignedWrite_takes : State.reset.takes misalignedWrite = true := by decide +kernel

theorem misalignedWrite_seen : (State.reset.seen misalignedWrite).touchesOff 0x2000041 1 = false ∧ (State.reset.seen misalignedWrite).noStep (wordAddrs 0x2000041 1) = true ∧
    (State.reset.seen misalignedWrite).ps.chain = [] ∧ ((State.reset.seen misalignedWrite).hostWrite 0x2000041 0).chainBad = false := by decide +kernel

theorem misalignedWrite_refused : firstStatus (exec (.ovfConfigWrite .spi 0 0x2000041 [0]) State.reset) = some 0x12 := by decide +kernel

theorem misalignedWrite_done : firstStatus (.next (((State.reset.seen misalignedWrite).hostWrite 0x2000041 0).replied misalignedWrite 0 0 [])) = some 0 := by decide +kernel

/-- Refutes O41: the clauses on OVF_ADDR and OVF_LEN leave out that the address is a multiple of 4. A write of 0x2000041 after reset is answered BAD_PARAM, not DONE. -/
theorem not_pointStream : ¬ Obligations.PointStream := by
  unfold Obligations.PointStream
  intro holds
  obtain ⟨-, -, -, -, -, -, -, -, -, chain⟩ := holds
  obtain ⟨on, noStep, empty, good⟩ := misalignedWrite_seen
  obtain ⟨-, stores⟩ := chain .spi 0 0x2000041 0 (by decide) (by decide)
  obtain ⟨t, done, rfl⟩ := stores State.reset misalignedWrite _ ⟨rfl, misalignedWrite_takes, rfl⟩ ⟨on, noStep, empty, good⟩
  have status := misalignedWrite_refused
  rw [show exec _ _ = _ from done] at status
  exact absurd (misalignedWrite_done.symm.trans status) (by decide)

end Sys2Proof.Machine
end

section
/-! PROOFS. Compression contexts and the decompressor (R237 to R242). -/
namespace Sys2Proof.Machine

/-- Zeros between the bytes of a payload. -/
theorem notZero_zeros_between (l q : List Byte) (i n : Nat) (len : l.length = i) : notZero (l ++ zeros n ++ q) i n = false := by
  rw [notZero, beAt_append_left _ _ _ _ (by simp [zeros, len])]
  exact notZero_append_zeros l i n len

/-! ### COMP_CONFIG (R237) -/

section
variable (u : State) (l n : Byte)

/-- The payload of COMP_CONFIG (Table 2-10). -/
def compOperands (l n : Byte) : List Byte := [l, n] ++ zeros 2

theorem compOperands_level : u8 (compOperands l n) 0 = l.toNat := ofBe_byte l

theorem compOperands_context : u8 (compOperands l n) 1 = n.toNat := ofBe_byte n

theorem compOperands_reserved : notZero (compOperands l n) 2 2 = false := notZero_append_zeros [l, n] 2 2 rfl

/-- COMP_CONFIG waiting. -/
def State.compWaits (u : State) (l n : Nat) : State := { u with ps := { u.ps with compPend := some (l, n) } }

theorem cmdCompConfig_binds (levels : l.toNat ≤ 8) (contexts : n.toNat ≤ 7) (on : u.domOn 74 = true) (fits : levelShort l.toNat u.profileNow (if u.pw.st = .scanning then u.ps.format else u.get F.PS.PS_CTRL_FORMAT) = false) :
    cmdCompConfig u (compOperands l n) = (if u.pw.st = .scanning then u.compWaits l.toNat n.toNat else (u.compWaits l.toNat n.toNat).bindComp).done [] := by
  have inRange : ¬ (8 < l.toNat ∨ 7 < n.toNat) := by omega
  unfold cmdCompConfig
  simp only [compOperands_level, compOperands_context, compOperands_reserved]
  exact State.guarded_pass _ _ _ (by simp [State.needDom, State.badState, badParam, on, inRange, fits])

theorem cmdCompConfig_tooSlow (levels : l.toNat ≤ 8) (contexts : n.toNat ≤ 7) (on : u.domOn 74 = true) (free : u.rangeBusy 0x0A00 = false) (st : u.pw.st = .scanning)
    (slow : levelShort l.toNat u.profileNow u.ps.format = true) : cmdCompConfig u (compOperands l n) = u.reply (.final 0x21 4 []) := by
  have inRange : ¬ (8 < l.toNat ∨ 7 < n.toNat) := by omega
  unfold cmdCompConfig
  simp only [compOperands_level, compOperands_context, compOperands_reserved, if_pos st]
  simp [State.guarded, State.needDom, State.badState, badParam, on, inRange, free, slow]

/-- COMP_CTRL with the level and the context bound. -/
def State.compBound (u : State) (l n : Nat) : State :=
  (({ u with ps := { u.ps with compPend := none } } : State).set F.PS.COMP_CTRL_LEVEL l).set F.PS.COMP_CTRL_CONTEXT n

theorem State.compBound_spec (l n : Nat) (levels : l ≤ 8) (contexts : n ≤ 7) :
    u.compBound l n = { u with regs := (u.compBound l n).regs, ps := { u.ps with compPend := none } } ∧ SameRegs u (u.compBound l n) [F.PS.COMP_CTRL_LEVEL.addr, F.PS.COMP_CTRL_CONTEXT.addr] ∧
      (u.compBound l n).level = l ∧ (u.compBound l n).bound = n := by
  refine ⟨State.set_set_eq { u with ps := { u.ps with compPend := none } } _ _ _ _, fun a outside => ?_, ?_, ?_⟩
  · have level : a ≠ F.PS.COMP_CTRL_LEVEL.addr := fun same => outside (same ▸ List.mem_cons_self)
    have context : a ≠ F.PS.COMP_CTRL_CONTEXT.addr := level
    exact (State.rd_set_ne _ _ _ _ context).trans (State.rd_set_ne _ _ _ _ level)
  · rw [State.level, State.compBound, State.get_set_apart _ _ _ _ (by decide) (.inr (.inr (by decide))), State.get_set_same _ _ _ (by decide)]
    exact Nat.mod_eq_of_lt (Nat.lt_of_le_of_lt levels (by decide))
  · rw [State.bound, State.compBound, State.get_set_same _ _ _ (by decide)]
    exact Nat.mod_eq_of_lt (Nat.lt_of_le_of_lt contexts (by decide))

end

theorem compression_config (via : Port) (seq : BitVec 16) (l n : Byte) (levels : l.toNat ≤ 8) (contexts : n.toNat ≤ 7) :
    Does (.compConfig via seq l n) (fun u => u.domOn 74 = true ∧ u.pw.st ≠ .scanning ∧ levelShort l.toNat u.profileNow (u.get F.PS.PS_CTRL_FORMAT) = false) (fun _ => [])
      (fun u t => t = { u with regs := t.regs, ps := { u.ps with compPend := none } } ∧ SameRegs u t [F.PS.COMP_CTRL_LEVEL.addr, F.PS.COMP_CTRL_CONTEXT.addr] ∧ t.level = l.toNat ∧ t.bound = n.toNat) ∧
    Does (.compConfig via seq l n) (fun u => u.domOn 74 = true ∧ u.pw.st = .scanning ∧ levelShort l.toNat u.profileNow u.ps.format = false) (fun _ => [])
      (fun u t => t = { u with ps := { u.ps with compPend := some (l.toNat, n.toNat) } }) ∧
    TurnsAway (.compConfig via seq l n) (fun u => u.domOn 74 = true ∧ u.rangeBusy 0x0A00 = false ∧ u.pw.st = .scanning ∧ levelShort l.toNat u.profileNow u.ps.format = true) 0x21 (fun _ => 4) := by
  refine ⟨.of_handler rfl fun u ⟨on, st, fits⟩ => ⟨u.compBound l.toNat n.toNat, ?_, u.compBound_spec _ _ levels contexts⟩,
    .of_handler rfl fun u ⟨on, st, fits⟩ => ⟨u.compWaits l.toNat n.toNat, ?_, rfl⟩, .of_handler rfl fun u ⟨on, free, st, slow⟩ => cmdCompConfig_tooSlow u l n levels contexts on free st slow⟩
  · exact (cmdCompConfig_binds u l n levels contexts on (by rw [if_neg st]; exact fits)).trans (by rw [if_neg st]; rfl)
  · exact (cmdCompConfig_binds u l n levels contexts on (by rw [if_pos st]; exact fits)).trans (by rw [if_pos st])

/-! ### Saving and restoring (R238, R239) -/

section
variable (u : State) (n : Byte) (a : BitVec 64)

/-- The payload of COMP_CONTEXT_SAVE and COMP_CONTEXT_RESTORE (Table 2-10). -/
def contextOperands (n : Byte) (a : BitVec 64) : List Byte := [n] ++ zeros 3 ++ beBytes 8 a.toNat

theorem contextOperands_context : u8 (contextOperands n a) 0 = n.toNat := ofBe_byte n

theorem contextOperands_reserved : notZero (contextOperands n a) 1 3 = false := notZero_zeros_between [n] _ 1 3 rfl

theorem contextOperands_addr : u64 (contextOperands n a) 4 = a.toNat := ofBe_beBytes_eight a

/-- A save or a restore under way. -/
def State.contextMoves (u : State) (n a : Nat) : State := { u with ps := { u.ps with save := some (n, a), saved := none } }

theorem cmdContextSave_starts (contexts : n.toNat ≤ 7) (aligned : a.toNat % 64 = 0) (on : u.domOn 74 = true) (mem : u.domOn 79 = true) (valid : u.bitAt F.PS.CTX_STAT_VALID n.toNat = true)
    (fits : a.toNat + 32832 ≤ u.dramSize) (free : u.rangeBusy 0x0A01 = false) : cmdContextSave u (contextOperands n a) =
      (if u.compressing n.toNat then u.contextMoves n.toNat a.toNat else (u.contextMoves n.toNat a.toNat).capture n.toNat).reply (.accepted 0) := by
  have inRange : ¬ 7 < n.toNat := by omega
  have place : ¬ (a.toNat % 64 ≠ 0 ∨ u.dramSize < a.toNat + 32832) := by omega
  unfold cmdContextSave
  simp only [contextOperands_context, contextOperands_reserved, contextOperands_addr]
  refine (State.guarded_pass _ _ _ (by simp [State.needDom, State.badState, badParam, on, mem, valid, inRange, place])).trans ?_
  rw [State.accept, free]
  rfl

theorem cmdContextSave_invalid (contexts : n.toNat ≤ 7) (on : u.domOn 74 = true) (mem : u.domOn 79 = true) (invalid : u.bitAt F.PS.CTX_STAT_VALID n.toNat = false) :
    cmdContextSave u (contextOperands n a) = u.reply (.final 0x13 u.stateCode []) := by
  have known : n.toNat < 8 := by omega
  unfold cmdContextSave
  simp only [contextOperands_context, contextOperands_reserved, contextOperands_addr]
  simp [State.guarded, State.needDom, State.badState, on, mem, invalid, known]

theorem cmdContextRestore_starts (contexts : n.toNat ≤ 7) (aligned : a.toNat % 64 = 0) (on : u.domOn 74 = true) (mem : u.domOn 79 = true) (fits : a.toNat + 32832 ≤ u.dramSize)
    (free : u.rangeBusy 0x0A02 = false) : cmdContextRestore u (contextOperands n a) = (u.contextMoves n.toNat a.toNat).reply (.accepted 0) := by
  have inRange : ¬ 7 < n.toNat := by omega
  have place : ¬ (a.toNat % 64 ≠ 0 ∨ u.dramSize < a.toNat + 32832) := by omega
  unfold cmdContextRestore
  simp only [contextOperands_context, contextOperands_reserved, contextOperands_addr]
  refine (State.guarded_pass _ _ _ (by simp [State.needDom, State.badState, badParam, on, mem, inRange, place])).trans ?_
  rw [State.accept, free]
  rfl

theorem contextImage_mark (s : State) (n mark : Nat) : u32 (s.contextImage n mark) 12 = mark % 2 ^ 32 := ofBe_beBytes 4 mark

theorem State.capture_spec (s : State) (n : Nat) : (s.capture n).ps.save = s.ps.save ∧ ∃ img : List Byte, (s.capture n).ps.saved = some (n, img) ∧
    u32 img 12 = (s.capture n).get F.PS.CTX_MARK ∧ (s.capture n).get F.PS.CTX_MARK = (s.get F.PS.CTX_MARK + 1) % 2 ^ F.PS.CTX_MARK.wd := by
  have mark : (s.set F.PS.CTX_MARK (s.get F.PS.CTX_MARK + 1)).get F.PS.CTX_MARK = (s.get F.PS.CTX_MARK + 1) % 2 ^ F.PS.CTX_MARK.wd := State.get_set_same _ _ _ (by decide)
  refine ⟨rfl, _, rfl, ?_, mark⟩
  refine (contextImage_mark _ _ _).trans (Nat.mod_eq_of_lt ?_)
  rw [mark]
  exact Nat.mod_lt _ (by decide)

end

theorem compression_contexts (via : Port) (seq : BitVec 16) (n : Byte) (a : BitVec 64) (contexts : n.toNat ≤ 7) (aligned : a.toNat % 64 = 0) :
    Starts (.compContextSave via seq n a) (fun u => u.domOn 74 = true ∧ u.domOn 79 = true ∧ u.bitAt F.PS.CTX_STAT_VALID n.toNat = true ∧ a.toNat + 32832 ≤ u.dramSize ∧ u.rangeBusy 0x0A01 = false ∧
        u.compressing n.toNat = true) 0 (fun u t => t = { u with ps := { u.ps with save := some (n.toNat, a.toNat), saved := none } }) ∧
    Starts (.compContextSave via seq n a) (fun u => u.domOn 74 = true ∧ u.domOn 79 = true ∧ u.bitAt F.PS.CTX_STAT_VALID n.toNat = true ∧ a.toNat + 32832 ≤ u.dramSize ∧ u.rangeBusy 0x0A01 = false ∧
        u.compressing n.toNat = false) 0 (fun u t => t.ps.save = some (n.toNat, a.toNat) ∧ ∃ img : List Byte, t.ps.saved = some (n.toNat, img) ∧
          u32 img 12 = t.get F.PS.CTX_MARK ∧ t.get F.PS.CTX_MARK = (u.get F.PS.CTX_MARK + 1) % 2 ^ F.PS.CTX_MARK.wd) ∧
    TurnsAway (.compContextSave via seq n a) (fun u => u.domOn 74 = true ∧ u.domOn 79 = true ∧ u.bitAt F.PS.CTX_STAT_VALID n.toNat = false) 0x13 State.stateCode ∧
    Starts (.compContextRestore via seq n a) (fun u => u.domOn 74 = true ∧ u.domOn 79 = true ∧ a.toNat + 32832 ≤ u.dramSize ∧ u.rangeBusy 0x0A02 = false) 0
      (fun u t => t = { u with ps := { u.ps with save := some (n.toNat, a.toNat), saved := none } }) := by
  refine ⟨.of_handler rfl fun u ⟨on, mem, valid, fits, free, busy⟩ => ⟨u.contextMoves n.toNat a.toNat, ?_, rfl⟩,
    .of_handler rfl fun u ⟨on, mem, valid, fits, free, still⟩ => ⟨(u.contextMoves n.toNat a.toNat).capture n.toNat, ?_, (u.contextMoves n.toNat a.toNat).capture_spec n.toNat⟩,
    .of_handler rfl fun u ⟨on, mem, invalid⟩ => cmdContextSave_invalid u n a contexts on mem invalid,
    .of_handler rfl fun u ⟨on, mem, fits, free⟩ => ⟨u.contextMoves n.toNat a.toNat, cmdContextRestore_starts u n a contexts aligned on mem fits free, rfl⟩⟩
  · exact (cmdContextSave_starts u n a contexts aligned on mem valid fits free).trans (by rw [busy]; rfl)
  · exact (cmdContextSave_starts u n a contexts aligned on mem valid fits free).trans (by rw [still]; rfl)

/-! ### The ends of a save, a restore and a decompression -/

section
variable (s : State)

/-- What a transfer of the memory keeps: all but the controller's own part, and the words below or in the device's blocks. -/
structure MemKept (s t : State) : Prop where
  dram : t.dram = s.dram
  ps : t.ps = s.ps
  pw : t.pw = s.pw
  cmd : t.cmd.running = s.cmd.running
  words : ∀ a, 0x2000000 ≤ a → a < 0x2000400 → t.rd a = s.rd a

theorem State.memUse_kept (cls src bytes : Nat) (class_ : cls ≠ 5) : MemKept s (s.memUse cls src bytes) := by
  unfold State.memUse State.memReq
  split
  · exact ⟨rfl, rfl, rfl, rfl, fun _ _ _ => rfl⟩
  · rw [if_neg (fun short => class_ short.1)]
    exact ⟨rfl, rfl, rfl, rfl, fun _ _ _ => rfl⟩

theorem MemKept.get {t : State} (h : MemKept s t) (f : Fld) (low : 0x2000000 ≤ f.addr) (high : f.addr < 0x2000400) : t.get f = s.get f := by
  rw [State.get, h.words _ low high]
  rfl

theorem State.contextSaveComplete_ends (n m a : Nat) (img : List Byte) (save : s.ps.save = some (n, a)) (saved : s.ps.saved = some (m, img)) (runs : s.isRunning 0x0A01 = true) :
    ∃ x : State, s.contextSaveComplete = x.complete 0x0A01 0 0 [] ∧ x.dram = spSetList dramDflt s.dram a img ∧ x.ps = { s.ps with save := none, saved := none } := by
  have kept := s.memUse_kept 4 0x31 img.length (by decide)
  refine ⟨{ (s.memUse 4 0x31 img.length).dramWrite a img with ps := { s.ps with save := none, saved := none } }, ?_, ?_, rfl⟩
  · rw [State.contextSaveComplete, save, saved]
    dsimp only
    rw [if_pos runs, ← kept.ps]
    rfl
  · exact congrArg (fun d => spSetList dramDflt d a img) kept.dram

theorem State.contextSaveComplete_rests (h : s.ps.save = none ∨ s.ps.saved = none ∨ s.isRunning 0x0A01 = false) : s.contextSaveComplete = s := by
  unfold State.contextSaveComplete
  split
  next _ a _ img save saved =>
    obtain h | h | h := h
    · rw [h] at save
      cases save
    · rw [h] at saved
      cases saved
    · exact if_neg (by rw [h]; decide)
  · rfl

theorem State.contextRestoreComplete_eq (n a : Nat) (save : s.ps.save = some (n, a)) (runs : s.isRunning 0x0A02 = true) : s.contextRestoreComplete =
    let u : State := { s.memUse 4 0x31 32832 with ps := { s.ps with save := none } }
    if imageOk (s.dramRead a 32832) then
      (if s.compressing n then { u with ps := { u.ps with restore := some (n, s.dramRead a 32832) } } else u.replaceCtx n (s.dramRead a 32832)).complete 0x0A02 0 0 []
    else u.complete 0x0A02 0x12 1 [] := by
  have kept := s.memUse_kept 4 0x31 32832 (by decide)
  have read : (s.memUse 4 0x31 32832).dramRead a 32832 = s.dramRead a 32832 := by rw [State.dramRead, kept.dram]; rfl
  have compressing : (s.memUse 4 0x31 32832).compressing n = s.compressing n := by
    rw [State.compressing, State.level, State.bound, kept.get s _ (by decide) (by decide), kept.get s _ (by decide) (by decide), kept.pw]
    rfl
  rw [State.contextRestoreComplete, save]
  dsimp only
  rw [if_pos runs, read, kept.ps, ← compressing]
  rfl

theorem State.replaceCtx_spec (u : State) (n : Nat) (img : List Byte) :
    (u.replaceCtx n img).ps.save = u.ps.save ∧ ((u.replaceCtx n img).ctx n).flags = 2 ∧ ((u.replaceCtx n img).ctx n).total = u64 img 16 ∧ ((u.replaceCtx n img).ctx n).mark = u32 img 12 ∧
      ((u.replaceCtx n img).ctx n).hist = (img.drop 64).drop (32768 - u32 img 8) ∧ ∀ k, k ≠ n → (u.replaceCtx n img).ctx k = u.ctx k := by
  have own (x : Ctx) : (u.setCtx n x).ctx n = x := (spGet_spSet _ _ _ _ _).trans (if_pos rfl)
  have others (x : Ctx) (k : Nat) (other : k ≠ n) : (u.setCtx n x).ctx k = u.ctx k := (spGet_spSet _ _ _ _ _).trans (if_neg other)
  generalize made : ({ u.ctx n with hist := (img.drop 64).drop (32768 - u32 img 8), total := u64 img 16, mark := u32 img 12, flags := 2 } : Ctx) = x
  have ctxs : (u.replaceCtx n img).ps.ctxs = (u.setCtx n x).ps.ctxs ∧ (u.replaceCtx n img).ps.save = u.ps.save := by
    subst made
    unfold State.replaceCtx
    dsimp only
    split <;> exact ⟨rfl, rfl⟩
  have view (k : Nat) : (u.replaceCtx n img).ctx k = (u.setCtx n x).ctx k := by rw [State.ctx, ctxs.1]; rfl
  rw [view n, own]
  subst made
  exact ⟨ctxs.2, rfl, rfl, rfl, rfl, fun k other => (view k).trans (others _ k other)⟩

theorem State.contextRestoreComplete_replaces (n a : Nat) (save : s.ps.save = some (n, a)) (runs : s.isRunning 0x0A02 = true) (good : imageOk (s.dramRead a 32832) = true)
    (still : s.compressing n = false) :
    ∃ x : State, s.contextRestoreComplete = x.complete 0x0A02 0 0 [] ∧ x.ps.save = none ∧ (x.ctx n).flags = 2 ∧ (x.ctx n).total = u64 (s.dramRead a 32832) 16 ∧
      (x.ctx n).mark = u32 (s.dramRead a 32832) 12 ∧ (x.ctx n).hist = ((s.dramRead a 32832).drop 64).drop (32768 - u32 (s.dramRead a 32832) 8) ∧ ∀ k, k ≠ n → x.ctx k = s.ctx k := by
  have shape := s.contextRestoreComplete_eq n a save runs
  dsimp only at shape
  rw [if_pos good, if_neg (by rw [still]; decide)] at shape
  exact ⟨_, shape, State.replaceCtx_spec { s.memUse 4 0x31 32832 with ps := { s.ps with save := none } } n (s.dramRead a 32832)⟩

theorem State.contextRestoreComplete_refuses (n a : Nat) (save : s.ps.save = some (n, a)) (runs : s.isRunning 0x0A02 = true) (bad : imageOk (s.dramRead a 32832) = false) :
    ∃ x : State, s.contextRestoreComplete = x.complete 0x0A02 0x12 1 [] ∧ x.ps = { s.ps with save := none } := by
  have shape := s.contextRestoreComplete_eq n a save runs
  dsimp only at shape
  rw [if_neg (by rw [bad]; decide)] at shape
  exact ⟨_, shape, rfl⟩

theorem State.contextRestoreComplete_rests (h : s.ps.save = none ∨ s.isRunning 0x0A02 = false) : s.contextRestoreComplete = s := by
  unfold State.contextRestoreComplete
  split
  next n a save =>
    obtain h | h := h
    · rw [h] at save
      cases save
    · exact if_neg (by rw [h]; decide)
  · rfl

/-! ### DECOMPRESS (R240, R241) -/

/-- The result group of a decompression. -/
def State.inflatedShown (u : State) (r : Inflated) : State :=
  (((((((u.setFlag F.PS.CLIPPED r.clipped).set F.PS.DETAIL r.detail).set F.PS.CODE r.code).set F.PS.OUT_LEN r.len).set F.PS.IN_POS r.inPos).set F.PS.BLOCKS r.blocks).publish F.PS.DECOMP_RES_ST)

theorem State.inflatedShown_spec (u : State) (r : Inflated) : (u.inflatedShown r).get F.PS.OUT_LEN = r.len % 2 ^ F.PS.OUT_LEN.wd ∧ (u.inflatedShown r).get F.PS.CODE = r.code % 2 ^ F.PS.CODE.wd := by
  constructor <;> simp (disch := decide) only [State.inflatedShown, State.publish, State.get_set_bits, State.get_set_addr, State.get_set_same]

theorem State.decompResult_eq (u : State) (r : Inflated) :
    u.decompResult r = if r.code = 0 then u.inflatedShown r else ((u.inflatedShown r).inc F.PS.DECOMP_ERRORS).raise EV_DECOMP_ERROR 0 r.code := rfl

theorem State.decompResult_spec (u : State) (r : Inflated) : Answering u (u.decompResult r) ∧ (u.decompResult r).get F.PS.OUT_LEN = r.len % 2 ^ F.PS.OUT_LEN.wd ∧
    (u.decompResult r).get F.PS.CODE = r.code % 2 ^ F.PS.CODE.wd := by
  have shown : Answering u (u.inflatedShown r) :=
    ((((((((Answering.set u F.PS.CLIPPED _).trans (.set _ F.PS.DETAIL _)).trans (.set _ F.PS.CODE _)).trans (.set _ F.PS.OUT_LEN _)).trans (.set _ F.PS.IN_POS _)).trans
      (.set _ F.PS.BLOCKS _)).trans (.set _ ⟨F.PS.DECOMP_RES_ST.addr, 31, 1⟩ _)).trans (.set _ ⟨F.PS.DECOMP_RES_ST.addr, 0, 16⟩ _))
  obtain ⟨len, code⟩ := u.inflatedShown_spec r
  rw [u.decompResult_eq]
  generalize u.inflatedShown r = v at shown len code
  split
  · exact ⟨shown, len, code⟩
  · have kept (f : Fld) (low : 0x20000 ≤ f.addr) (high : f.addr < 0x7000000) (other : f.addr ≠ F.PS.DECOMP_ERRORS.addr) :
        ((v.inc F.PS.DECOMP_ERRORS).raise EV_DECOMP_ERROR 0 r.code).get f = v.get f := by
      rw [State.get, State.rd_raise_device _ _ _ _ _ (by decide) low high, State.inc, State.add, State.rd_set_ne _ _ _ _ other]
      rfl
    exact ⟨(shown.trans (.inc v _)).trans (.raise _ _ _ _), (kept _ (by decide) (by decide) (by decide)).trans len, (kept _ (by decide) (by decide) (by decide)).trans code⟩

theorem State.decompressComplete_ends (d : Decomp) (waits : s.ps.decomp = some d) (runs : s.isRunning 0x0A03 = true) :
    let r := inflate (s.dramRead d.src d.srcLen) d.limit (s.get F.PS.DECOMP_CFG_GUARD % 3) (s.flag F.PS.DECOMP_CFG_TRAILING)
    ∃ x : State, s.decompressComplete = x.complete 0x0A03 r.code r.detail (beBytes 4 r.len) ∧ x.dram = spSetList dramDflt s.dram d.dst r.bytes ∧ x.ps.decomp = none ∧
      x.get F.PS.OUT_LEN = r.len % 2 ^ F.PS.OUT_LEN.wd ∧ x.get F.PS.CODE = r.code % 2 ^ F.PS.CODE.wd := by
  rw [State.decompressComplete, waits]
  dsimp only
  rw [if_pos runs]
  generalize inflate (s.dramRead d.src d.srcLen) d.limit (s.get F.PS.DECOMP_CFG_GUARD % 3) (s.flag F.PS.DECOMP_CFG_TRAILING) = r
  have dram : ((s.memUse 4 0x32 d.srcLen).memUse 4 0x32 r.bytes.length).dram = s.dram :=
    (State.memUse_kept _ 4 0x32 r.bytes.length (by decide)).dram.trans (s.memUse_kept 4 0x32 d.srcLen (by decide)).dram
  generalize (s.memUse 4 0x32 d.srcLen).memUse 4 0x32 r.bytes.length = v at dram
  obtain ⟨told, len, code⟩ := State.decompResult_spec { v.dramWrite d.dst r.bytes with ps := { (v.dramWrite d.dst r.bytes).ps with decomp := none } } r
  refine ⟨_, rfl, told.dram_eq.trans (congrArg (fun m => spSetList dramDflt m d.dst r.bytes) dram), ?_, len, code⟩
  rw [told]

theorem State.decompressComplete_rests (h : s.ps.decomp = none ∨ s.isRunning 0x0A03 = false) : s.decompressComplete = s := by
  unfold State.decompressComplete
  split
  next d waits =>
    obtain h | h := h
    · rw [h] at waits
      cases waits
    · exact if_neg (by rw [h]; decide)
  · rfl

/-- The payload of DECOMPRESS (Table 2-10). -/
def decompOperands (src dst : BitVec 64) (len lim : BitVec 32) : List Byte := beBytes 8 src.toNat ++ beBytes 4 len.toNat ++ beBytes 8 dst.toNat ++ beBytes 4 lim.toNat

theorem cmdDecompress_starts (u : State) (src dst : BitVec 64) (len lim : BitVec 32) (someLen : len ≠ 0) (someLim : lim ≠ 0)
    (apart : src.toNat + len.toNat ≤ dst.toNat ∨ dst.toNat + lim.toNat ≤ src.toNat) (on : u.domOn 79 = true) (from_ : src.toNat + len.toNat ≤ u.dramSize) (into : dst.toNat + lim.toNat ≤ u.dramSize)
    (free : u.rangeBusy 0x0A03 = false) :
    cmdDecompress u (decompOperands src dst len lim) = ({ u with ps := { u.ps with decomp := some ⟨src.toNat, len.toNat, dst.toNat, lim.toNat⟩ } } : State).reply (.accepted 0) := by
  have srcs : u64 (decompOperands src dst len lim) 0 = src.toNat := ofBe_beBytes_eight src
  have lens : u32 (decompOperands src dst len lim) 8 = len.toNat := ofBe_beBytes_four len
  have dsts : u64 (decompOperands src dst len lim) 12 = dst.toNat := ofBe_beBytes_eight dst
  have lims : u32 (decompOperands src dst len lim) 20 = lim.toNat := ofBe_beBytes_four lim
  have lenPos : len.toNat ≠ 0 := fun zero => someLen (BitVec.eq_of_toNat_eq zero)
  have limPos : lim.toNat ≠ 0 := fun zero => someLim (BitVec.eq_of_toNat_eq zero)
  have overlap : ¬ (src.toNat < dst.toNat + lim.toNat ∧ dst.toNat < src.toNat + len.toNat) := by omega
  have has : u.dramHas src.toNat 0 = true ∧ u.dramHas src.toNat len.toNat = true ∧ u.dramHas dst.toNat 0 = true ∧ u.dramHas dst.toNat lim.toNat = true :=
    ⟨decide_eq_true (by omega), decide_eq_true from_, decide_eq_true (by omega), decide_eq_true into⟩
  obtain ⟨src0, srcN, dst0, dstN⟩ := has
  unfold cmdDecompress
  simp only [srcs, lens, dsts, lims]
  refine (State.guarded_pass _ _ _ (by simp [State.needDom, State.badState, badParam, on, src0, srcN, dst0, dstN, lenPos, limPos, overlap])).trans ?_
  rw [State.accept, free]
  rfl

end

/-- Settles O42, clause by clause: COMP_CONFIG, the saves, the restores and DECOMPRESS. -/
theorem compression : Obligations.Compression := by
  unfold Obligations.Compression
  refine ⟨compression_config, compression_contexts, fun n m a img => .of_effect (fun _ => rfl) fun s ⟨save, saved, runs⟩ => s.contextSaveComplete_ends n m a img save saved runs,
    .of_effect (fun _ => rfl) fun s h => s.contextSaveComplete_rests h, fun n a => ⟨?replaces, ?refuses⟩, .of_effect (fun _ => rfl) fun s h => s.contextRestoreComplete_rests h,
    fun via seq src dst len lim someLen someLim apart => .of_handler rfl fun u ⟨on, from_, into, free⟩ => ⟨_, cmdDecompress_starts u src dst len lim someLen someLim apart on from_ into free, rfl⟩,
    fun d => .of_effect (fun _ => rfl) fun s ⟨waits, runs⟩ => s.decompressComplete_ends d waits runs, .of_effect (fun _ => rfl) fun s h => s.decompressComplete_rests h⟩
  case replaces => exact .of_effect (fun _ => rfl) fun s ⟨save, runs, good, still⟩ => s.contextRestoreComplete_replaces n a save runs good still
  case refuses => exact .of_effect (fun _ => rfl) fun s ⟨save, runs, bad⟩ => s.contextRestoreComplete_refuses n a save runs bad

end Sys2Proof.Machine
end

section
/-! PROOFS. The camera and pipeline commands (R246, R252, R257, R259, R262, R272). The clauses on the pipeline's configuration take every address of the block, but REG_WRITE refuses one that is no multiple of 4 (R42). -/
namespace Sys2Proof.Machine

/-- The host writes a pipeline word at an address that is no multiple of 4. -/
def misalignedPipe : Pkt := ⟨.spi, 0, 0x0009, regWritePayload 0x3002001 [0]⟩

theorem misalignedPipe_takes : State.reset.takes misalignedPipe = true := by decide +kernel

theorem misalignedPipe_seen : (State.reset.seen misalignedPipe).touchesOff 0x3002001 1 = false ∧ (State.reset.seen misalignedPipe).noStep (wordAddrs 0x3002001 1) = true := by decide +kernel

theorem misalignedPipe_held : (decide (0x3002001 = F.PIPE.PIPE_CFG_MODE.addr) || decide (F.PIPE.S3_BASE_LO.addr ≤ 0x3002001 ∧ 0x3002001 ≤ F.PIPE.S4_LEN.addr)) = false := by decide

theorem misalignedPipe_refused : firstStatus (exec (.pipeCfgWrite .spi 0 0x3002001 [0]) State.reset) = some 0x12 := by decide +kernel

theorem misalignedPipe_done : firstStatus (.next (((State.reset.seen misalignedPipe).hostWrite 0x3002001 0).replied misalignedPipe 0 0 [])) = some 0 := by decide +kernel

/-- Refutes O43: the clauses on the pipeline's words leave out that the address is a multiple of 4. A write of 0x3002001 after reset is answered BAD_PARAM, not DONE. -/
theorem not_cameraCommands : ¬ Obligations.CameraCommands := by
  unfold Obligations.CameraCommands
  intro holds
  obtain ⟨-, -, -, -, -, -, -, pipe⟩ := holds
  obtain ⟨on, noStep⟩ := misalignedPipe_seen
  obtain ⟨-, stores⟩ := pipe .spi 0 0x3002001 0 (by decide) (by decide)
  obtain ⟨t, done, rfl⟩ := stores State.reset misalignedPipe _ ⟨rfl, misalignedPipe_takes, rfl⟩ ⟨on, noStep, .inl misalignedPipe_held⟩
  have status := misalignedPipe_refused
  rw [show exec _ _ = _ from done] at status
  exact absurd (misalignedPipe_done.symm.trans status) (by decide)

end Sys2Proof.Machine
end

section
/-! PROOFS. The memory controller (chapter 14). R337 lets the exit from self-refresh begin with LAT_TOL at SR_WAKE; the model lets the command begin it at any finite LAT_TOL. -/
namespace Sys2Proof.Machine

/-- The channels are in self-refresh, no request waits, and both displays tolerate 70 µs, above the reset value of SR_WAKE. -/
def dozing : State := ((State.reset.set F.MEM.MEM_STAT_SR 1).set (F.DSP.LAT_TOL 0) 70000).set (F.DSP.LAT_TOL 1) 70000

theorem dozing_tolerates : dozing.get F.MEM.LAT_CFG_SR_WAKE < min (dozing.latTol 0) (dozing.latTol 1) := by decide +kernel

theorem dozing_exits : dozing.refreshExit.settle.mem.exiting = true ∧ dozing.settle.mem.exiting = false := by decide +kernel

/-- Refutes O51: the clause that SELF_REFRESH_EXIT does nothing while no request waits and LAT_TOL lies above SR_WAKE fails in `dozing`, where the exit begins. -/
theorem not_memory : ¬ Obligations.Memory := by
  unfold Obligations.Memory
  intro holds
  obtain ⟨-, -, -, -, -, -, -, -, -, -, -, -, -, -, sleepsOn, -⟩ := holds
  obtain ⟨t, happens, same⟩ := sleepsOn dozing (.inr ⟨rfl, dozing_tolerates⟩)
  have outcome : dozing.refreshExit.settle = t.settle := Host.Outcome.next.inj happens
  obtain ⟨wakes, sleeps⟩ := dozing_exits
  rw [outcome, show t = dozing from same, sleeps] at wakes
  exact absurd wakes (by decide)

end Sys2Proof.Machine
end

section
/-! PROOFS. The words of the device blocks (Table 20-1) that an operation leaves as they are, and fields of byte strings. -/
namespace Sys2Proof.Machine

/-! ### Words kept -/

/-- Every word of the device blocks but those that are `own` reads in `t` as in `s`. -/
def BlockWords (own : Nat → Prop) (s t : State) : Prop := ∀ a, 0x20000 ≤ a → a < 0x7000000 → ¬ own a → t.rd a = s.rd a

namespace BlockWords
variable {own : Nat → Prop} {s t u : State}

theorem refl (s : State) : BlockWords own s s := fun _ _ _ _ => rfl

theorem trans (first : BlockWords own s t) (second : BlockWords own t u) : BlockWords own s u :=
  fun a low high other => (second a low high other).trans (first a low high other)

theorem of_regs (regs : t.regs = s.regs) : BlockWords own s t := fun a _ _ _ => State.rd_congr regs a

theorem mono {own' : Nat → Prop} (sub : ∀ a, own a → own' a) (h : BlockWords own s t) : BlockWords own' s t :=
  fun a low high other => h a low high fun mine => other (sub a mine)

theorem set (s : State) (f : Fld) (x : Nat) (mine : own f.addr) : BlockWords own s (s.set f x) :=
  fun a _ _ other => s.rd_set_ne f x a fun same => other (same ▸ mine)

theorem setFar (s : State) (f : Fld) (x : Nat) (far : f.addr < 0x20000) : BlockWords own s (s.set f x) :=
  fun a low _ _ => s.rd_set_ne f x a (by omega)

theorem raise (s : State) (n i d : Nat) (known : n < 256) : BlockWords own s (s.raise n i d) :=
  fun a low high _ => s.rd_raise_device n i d a known low high

theorem each {α : Type} (l : List α) (f : State → α → State) (step : ∀ u, ∀ a ∈ l, BlockWords own u (f u a)) (s : State) : BlockWords own s (s.each l f) := by
  induction l generalizing s with
  | nil => exact .refl s
  | cons a l ih => exact (step s a List.mem_cons_self).trans (ih (fun u b mem => step u b (List.mem_cons_of_mem _ mem)) _)

theorem when (b : Bool) {f : State → State} (h : ∀ u, BlockWords own u (f u)) (s : State) : BlockWords own s (s.when b f) := by
  cases b
  · exact .refl s
  · exact h s

theorem get (h : BlockWords own s t) (f : Fld) (low : 0x20000 ≤ f.addr) (high : f.addr < 0x7000000) (other : ¬ own f.addr) : t.get f = s.get f := by
  rw [State.get, h _ low high other]; rfl

theorem flag (h : BlockWords own s t) (f : Fld) (low : 0x20000 ≤ f.addr) (high : f.addr < 0x7000000) (other : ¬ own f.addr) : t.flag f = s.flag f := by
  rw [State.flag, h.get f low high other]; rfl

end BlockWords

/-- Counting one elsewhere leaves a field as it is. -/
theorem State.get_inc_ne (s : State) (f g : Fld) (other : g.addr ≠ f.addr) : (s.inc f).get g = s.get g := s.get_set_addr f g _ other

/-- Counting a field after a change elsewhere. -/
theorem State.get_inc_of_eq {s t : State} (f : Fld) (fits : f.fits = true) (same : t.get f = s.get f) : (t.inc f).get f = min (s.get f + 1) (2 ^ f.wd - 1) := by
  rw [State.get_inc t f fits, same]

/-! ### Bytes -/

/-- Word `i` of a run of `n` words behind the bytes `l`. -/
theorem u32_words (l : List Byte) (f : Nat → Nat) (n i : Nat) (low : i < n) : u32 (l ++ (List.range n).flatMap (fun k => beBytes 4 (f k))) (l.length + 4 * i) = f i % 2 ^ 32 := by
  have words : (List.range n).flatMap (fun k => beBytes 4 (f k)) = wordBytes ((List.range n).map (fun k => BitVec.ofNat 32 (f k))) := by
    rw [wordBytes_map]
    exact congrArg (fun g => (List.range n).flatMap g) (funext fun k => by rw [BitVec.toNat_ofNat, show 2 ^ 32 = 256 ^ 4 from rfl, beBytes_mod])
  rw [words, beAt_wordBytes l _ i (by simpa using low)]
  simp [low]

theorem ofBe_lt (l : List Byte) : ofBe l < 256 ^ l.length := by
  induction l with
  | nil => decide
  | cons b l ih =>
    rw [ofBe_cons, List.length_cons, Nat.pow_succ]
    have small : b.toNat ≤ 255 := Nat.le_of_lt_succ b.isLt
    have scaled : b.toNat * 256 ^ l.length ≤ 255 * 256 ^ l.length := Nat.mul_le_mul_right _ small
    omega

theorem beAt_lt (p : List Byte) (i n : Nat) : beAt p i n < 256 ^ n :=
  (ofBe_lt _).trans_le (Nat.pow_le_pow_right (by decide) (List.length_take_le _ _))

/-- A field read past bytes of known length. -/
theorem beAt_drop (p : List Byte) (k i n : Nat) : beAt (p.drop k) i n = beAt p (k + i) n := by rw [beAt, beAt, List.drop_drop]

end Sys2Proof.Machine
end

section
/-! PROOFS. Oazil blocks (R295 to R301, R308). -/
namespace Sys2Proof.Machine

/-! ### Scrambling -/

theorem scramble_scramble (r : Nat) (l : List Byte) : scramble r (scramble r l) = l := by
  induction l generalizing r with
  | nil => rfl
  | cons b l ih =>
    simp only [scramble, ih]
    rw [BitVec.xor_assoc, BitVec.xor_self, BitVec.xor_zero]

theorem length_scramble (r : Nat) (l : List Byte) : (scramble r l).length = l.length := by
  induction l generalizing r with
  | nil => rfl
  | cons b l ih => simp [scramble, ih]

theorem length_onLanes (n : Nat) (b : List Byte) : (onLanes n b).length = n := by simp [onLanes]

/-! ### Ports, streams and what a block that leaves changes -/

section
variable (s : State) (p k : Nat) (b : List Byte)

theorem State.link_setLink (x : LinkSt) (q : Nat) : (s.setLink p x).link q = if q = p then x else s.link q := spGet_spSet _ _ _ _ _

theorem State.link_setLink_same (x : LinkSt) : (s.setLink p x).link p = x := (s.link_setLink p x p).trans (if_pos rfl)

theorem State.stream_setStream (x : TxStream) (j : Nat) : (s.setStream k x).stream j = if j = k then x else s.stream j := spGet_spSet _ _ _ _ _

theorem State.putBlock_out : (s.putBlock p b).out = .block p (onLanes (lanesOf p) b) :: s.out := rfl

theorem State.putBlock_tx : (s.putBlock p b).tx = s.tx := rfl

theorem State.putBlock_bseq : ((s.putBlock p b).link p).bseq = ((s.link p).bseq + 1) % 2 ^ 32 :=
  congrArg LinkSt.bseq (s.link_setLink_same p { s.link p with bseq := ((s.link p).bseq + 1) % 2 ^ 32 })

theorem State.putBlock_get (f : Fld) (other : f.addr ≠ (F.OZ.BLOCKS_TX p).addr) : (s.putBlock p b).get f = s.get f :=
  State.get_inc_ne (s.setLink p _) _ f other

theorem State.sendData_stream (n j : Nat) : (s.sendData p k n).stream j = if j = k then (takeBytes (s.stream k) 480).2.2 else s.stream j :=
  s.stream_setStream k _ j

theorem State.sendData_out (n : Nat) : (s.sendData p k n).out =
    .block p (onLanes (lanesOf p) (oazilBlock 0xD2 n (bit (s.stream k).resync) (s.link p).bseq s.time.dev ((s.stream k).bytes % 2 ^ 32) (takeBytes (s.stream k) 480).2.1
      (takeBytes (s.stream k) 480).1)) :: s.out := rfl

/-- A stream that may send is one of the eight of port H, with data, its own way and credit. -/
theorem State.nextStream_may (next : s.nextStream = some k) : k < 8 ∧ s.maySend k = true := by
  refine ⟨?_, List.find?_some next⟩
  have mem := List.mem_of_find?_eq_some next
  simp only [List.mem_append, List.mem_cons, List.mem_map, List.mem_range, List.not_mem_nil, or_false] at mem
  rcases mem with (rfl | rfl) | ⟨i, -, rfl⟩ <;> omega

theorem State.maySend_spec (may : s.maySend k = true) : 0 < s.streamLevel k ∧ s.routed k = false ∧ s.get (F.OZ.CREDIT_LIMIT 0 k) ≠ s.get (F.OZ.BLOCKS_SENT 0 k) := by
  simp only [State.maySend, Bool.and_eq_true, decide_eq_true_eq, Bool.not_eq_true'] at may
  obtain ⟨⟨level, own⟩, credit, -⟩ := may
  refine ⟨level, own, fun same => ?_⟩
  rw [same, Nat.add_sub_cancel_left] at credit
  omega

/-- Stream `k` has had its turn. -/
def State.turned (s : State) (k : Nat) : State := s.setLink 0 { s.link 0 with turn := k }

/-- A DATA block of port H counts in its stream, whose turn it was. -/
def State.blockCounted (s : State) (k : Nat) : State := (s.set (F.OZ.BLOCKS_SENT 0 k) (s.get (F.OZ.BLOCKS_SENT 0 k) + 1)).when (decide (1 ≤ k ∧ k ≤ 6)) (fun s => s.turned k)

theorem State.blockSend_data (up : s.linkUp 0 = true) (next : s.nextStream = some k) : s.blockSend 0 = (s.sendData 0 k k).blockCounted k := by
  rw [State.blockSend, up, next]
  rfl

theorem State.when_turned (c : Bool) : (s.when c (fun s => s.turned k)).regs = s.regs ∧ (s.when c (fun s => s.turned k)).tx = s.tx ∧
    (s.when c (fun s => s.turned k)).out = s.out ∧ ((s.when c (fun s => s.turned k)).link 0).bseq = (s.link 0).bseq := by
  cases c
  · exact ⟨rfl, rfl, rfl, rfl⟩
  · refine ⟨rfl, rfl, rfl, ?_⟩
    show ((s.turned k).link 0).bseq = (s.link 0).bseq
    rw [State.turned, State.link_setLink_same]

theorem State.blockCounted_spec : (s.blockCounted k).get (F.OZ.BLOCKS_SENT 0 k) = (s.get (F.OZ.BLOCKS_SENT 0 k) + 1) % 2 ^ 32 ∧ (∀ j, (s.blockCounted k).stream j = s.stream j) ∧
    ((s.blockCounted k).link 0).bseq = (s.link 0).bseq ∧ (s.blockCounted k).out = s.out := by
  obtain ⟨regs, tx, out, bseq⟩ := State.when_turned (s.set (F.OZ.BLOCKS_SENT 0 k) (s.get (F.OZ.BLOCKS_SENT 0 k) + 1)) k (decide (1 ≤ k ∧ k ≤ 6))
  refine ⟨?_, fun j => ?_, bseq, out⟩
  · rw [State.blockCounted, State.get, State.rd_congr regs]
    exact State.get_set_same s (F.OZ.BLOCKS_SENT 0 k) _ rfl
  · rw [State.blockCounted, State.stream, tx]
    rfl

theorem State.blockSend_sends (up : s.linkUp 0 = true) (next : s.nextStream = some k) :
    (s.blockSend 0).get (F.OZ.BLOCKS_SENT 0 k) = (s.get (F.OZ.BLOCKS_SENT 0 k) + 1) % 2 ^ 32 ∧ (s.blockSend 0).stream k = (takeBytes (s.stream k) 480).2.2 ∧
      ((s.blockSend 0).link 0).bseq = ((s.link 0).bseq + 1) % 2 ^ 32 ∧ (s.blockSend 0).out = (s.sendData 0 k k).out ∧ ∀ j, j ≠ k → (s.blockSend 0).stream j = s.stream j := by
  obtain ⟨sent, streams, bseq, out⟩ := (s.sendData 0 k k).blockCounted_spec k
  have before : (s.sendData 0 k k).get (F.OZ.BLOCKS_SENT 0 k) = s.get (F.OZ.BLOCKS_SENT 0 k) :=
    State.putBlock_get _ _ _ _ (by simp only [F.OZ.BLOCKS_SENT, F.OZ.BLOCKS_TX]; omega)
  rw [s.blockSend_data k up next]
  exact ⟨by rw [sent, before], by rw [streams, s.sendData_stream, if_pos rfl], bseq.trans (State.putBlock_bseq _ _ _), out,
    fun j other => by rw [streams, s.sendData_stream, if_neg other]⟩

theorem State.blockSend_idle (up : s.linkUp 0 = true) (next : s.nextStream = none) : s.blockSend 0 = s.sendIdle 0 := by
  rw [State.blockSend, up, next]
  rfl

theorem State.blockSend_port (up : s.linkUp p = true) (other : p ≠ 0) :
    s.blockSend p = if 0 < s.streamLevel (7 + p) then s.sendData p (7 + p) 0 else s.sendIdle p := by
  unfold State.blockSend
  rw [up, Bool.not_true, if_neg Bool.false_ne_true, if_neg other]

theorem State.blockSend_down (down : s.linkUp p = false) : s.blockSend p = s := by
  unfold State.blockSend
  rw [down, Bool.not_false, if_pos rfl]

end

/-! ### The upstream lane -/

/-- What a CONTROL block of port H carries. -/
def State.controlPayload (s : State) : List Byte :=
  beBytes 1 (4 + 2 * bit (s.get (F.OZ.LINK_STAT_FOM_RX 0) != 255)) ++ zeros 35 ++
    beBytes 1 (if s.get (F.OZ.LINK_STAT_FOM_RX 0) = 255 then 0 else s.get (F.OZ.LINK_STAT_FOM_RX 0)) ++ zeros 7 ++
    (List.range 8).flatMap (fun k => beBytes 4 (s.get (F.OZ.BLOCKS_SENT 0 k)))

theorem State.controlSend_up (s : State) (up : s.linkUp 0 = true) :
    s.controlSend = s.putBlock 0 (oazilBlock 0xB4 0 0 (s.link 0).bseq s.time.dev 0 0xFFFF s.controlPayload) := by
  rw [State.controlSend, if_pos up]
  rfl

theorem State.controlPayload_length (s : State) : s.controlPayload.length = 76 := by
  rw [State.controlPayload, List.length_append, length_flatMap_const _ _ 4 (fun _ _ => length_beBytes _ _)]
  simp [zeros]

theorem State.controlPayload_sent (s : State) (k : Fin 8) : u32 s.controlPayload (44 + 4 * k) = s.get (F.OZ.BLOCKS_SENT 0 k) := by
  have place := u32_words (beBytes 1 (4 + 2 * bit (s.get (F.OZ.LINK_STAT_FOM_RX 0) != 255)) ++ zeros 35 ++
    beBytes 1 (if s.get (F.OZ.LINK_STAT_FOM_RX 0) = 255 then 0 else s.get (F.OZ.LINK_STAT_FOM_RX 0)) ++ zeros 7) (fun k => s.get (F.OZ.BLOCKS_SENT 0 k)) 8 k k.isLt
  rw [show (beBytes 1 (4 + 2 * bit (s.get (F.OZ.LINK_STAT_FOM_RX 0) != 255)) ++ zeros 35 ++
    beBytes 1 (if s.get (F.OZ.LINK_STAT_FOM_RX 0) = 255 then 0 else s.get (F.OZ.LINK_STAT_FOM_RX 0)) ++ zeros 7).length = 44 by simp [zeros]] at place
  exact place.trans (Nat.mod_eq_of_lt (s.get_lt (F.OZ.BLOCKS_SENT 0 k)))

section
variable (s : State) (lane : List Byte)

/-- The lane does not hold the start of a training sequence. -/
def plainLane : Prop := ¬ (u32 lane 0 = 0x4F415A54 ∧ u8 lane 4 = 0x87)

theorem State.upBlock_down (down : s.linkUp 0 = false) : s.upBlock lane = ([], s) := by rw [State.upBlock, down]; rfl

theorem State.upBlock_bad (up : s.linkUp 0 = true) (plain : plainLane lane)
    (bad : lane.length ≠ 512 ∨ u32 (scramble 0x7FFFFF lane) 508 ≠ crc32c ((scramble 0x7FFFFF lane).take 508)) : s.upBlock lane = ([], s.upBad true) := by
  unfold State.upBlock
  dsimp only
  rw [up, Bool.not_true, if_neg Bool.false_ne_true, if_neg plain, length_scramble, if_pos bad]

theorem State.upBlock_good (up : s.linkUp 0 = true) (plain : plainLane lane) (len : lane.length = 512)
    (crc : u32 (scramble 0x7FFFFF lane) 508 = crc32c ((scramble 0x7FFFFF lane).take 508)) (own : u8 (scramble 0x7FFFFF lane) 0 = 0x2D ∨ u8 (scramble 0x7FFFFF lane) 0 = 0xB4) :
    s.upBlock lane = ([], if u8 (scramble 0x7FFFFF lane) 0 = 0xB4 then ((s.setLink 0 { s.link 0 with bad := 0 }).inc (F.OZ.BLOCKS_RX 0)).upControl (scramble 0x7FFFFF lane)
      else (s.setLink 0 { s.link 0 with bad := 0 }).inc (F.OZ.BLOCKS_RX 0)) := by
  unfold State.upBlock
  dsimp only
  rw [up, Bool.not_true, if_neg Bool.false_ne_true, if_neg plain, length_scramble, if_neg (by simp [len, crc]), if_neg (by omega), if_neg (by omega)]
  split <;> rfl

/-- A block with a wrong CRC, none of them recently. -/
theorem State.upBad_spec (few : (s.link 0).bad < 7) (calm : (s.link 0).crcTimes = []) :
    ((s.upBad true).link 0).bad = (s.link 0).bad + 1 ∧ (s.upBad true).get (F.OZ.CRC_RX 0) = min (s.get (F.OZ.CRC_RX 0) + 1) (2 ^ (F.OZ.CRC_RX 0).wd - 1) ∧
      (s.upBad true).cmd = s.cmd ∧ (s.upBad true).get (F.OZ.LINK_STAT_STATE 0) = s.get (F.OZ.LINK_STAT_STATE 0) := by
  have stays : s.upBad true = (s.setLink 0 { s.link 0 with bad := (s.link 0).bad + 1, crcTimes := [s.time.dev.toNat] }).inc (F.OZ.CRC_RX 0) := by
    unfold State.upBad
    dsimp only
    rw [calm]
    have below : decide (8 ≤ (s.link 0).bad + 1 ∨ 16 ≤ [s.time.dev.toNat].length) = false := by
      simp only [List.length_cons, List.length_nil, decide_eq_false_iff_not]
      omega
    exact congrArg (fun c => State.when _ c _) below
  rw [stays]
  exact ⟨congrArg LinkSt.bad (s.link_setLink_same 0 _), State.get_inc _ _ rfl, rfl, State.get_inc_ne _ _ _ (by decide)⟩

/-- The credits that a CONTROL block sets. -/
def State.credited (s : State) (pay : List Byte) : State := s.each (List.range 8) (fun s k => s.set (F.OZ.CREDIT_LIMIT 0 k) (u32 pay (4 + 4 * k)))

theorem State.upControl_credits (b : List Byte) (flags : u8 b 28 % 4 = 1) : s.upControl b = s.credited (b.drop 28) := by
  have first : u8 (b.drop 28) 0 = u8 b 28 := beAt_drop b 28 0 1
  unfold State.upControl
  dsimp only
  rw [first, if_neg (by omega), show u8 b 28 % 2 = 1 by omega]
  rfl

end

theorem State.credited_get (s : State) (pay : List Byte) (k : Fin 8) : (s.credited pay).get (F.OZ.CREDIT_LIMIT 0 k) = u32 pay (4 + 4 * k) := by
  obtain ⟨u, -, own⟩ := State.each_own (fun s => s.get (F.OZ.CREDIT_LIMIT 0 k)) (List.range 8) List.nodup_range
    (fun s k => s.set (F.OZ.CREDIT_LIMIT 0 k) (u32 pay (4 + 4 * k))) k.val (by simp)
    (fun u b other => u.get_set_addr _ _ _ (by simp only [F.OZ.CREDIT_LIMIT]; omega)) s
  exact own.trans ((u.get_set_same (F.OZ.CREDIT_LIMIT 0 k) _ rfl).trans (Nat.mod_eq_of_lt (beAt_lt pay _ 4)))

theorem State.credited_cmd (s : State) (pay : List Byte) : (s.credited pay).cmd = s.cmd := rfl

theorem State.linkUp_iff (s : State) (p : Nat) : s.linkUp p = true ↔ s.domOn 77 = true ∧ s.get (F.OZ.LINK_STAT_STATE p) = 2 := by
  rw [State.linkUp, Bool.and_eq_true, beq_iff_eq]

/-! ### The statement -/

/-- A lane whose block fails its CRC, carries nothing, or carries the credits. -/
theorem upstream_blocks (c : Instr) (lane : List Byte) (row : ∀ s, exec c s = .next (s.oazilIn lane)) :
    Happens c (fun _ => True) (fun s t => t = (s.upBlock lane).1.foldl State.oazilPacket (s.upBlock lane).2) ∧
    Happens c (fun s => s.linkUp 0 = false) Nothing ∧
    (plainLane lane →
      (lane.length ≠ 512 ∨ u32 (scramble 0x7FFFFF lane) 508 ≠ crc32c ((scramble 0x7FFFFF lane).take 508) → Happens c (fun s => s.linkUp 0 = true ∧ (s.link 0).bad < 7 ∧ (s.link 0).crcTimes = [])
        (fun s t => (t.link 0).bad = (s.link 0).bad + 1 ∧ t.get (F.OZ.CRC_RX 0) = min (s.get (F.OZ.CRC_RX 0) + 1) (2 ^ (F.OZ.CRC_RX 0).wd - 1) ∧ t.cmd = s.cmd ∧ t.get (F.OZ.LINK_STAT_STATE 0) = 2)) ∧
      (lane.length = 512 → u32 (scramble 0x7FFFFF lane) 508 = crc32c ((scramble 0x7FFFFF lane).take 508) →
        (u8 (scramble 0x7FFFFF lane) 0 = 0x2D → Happens c (fun s => s.linkUp 0 = true) (fun s t => t = (s.setLink 0 { s.link 0 with bad := 0 }).inc (F.OZ.BLOCKS_RX 0))) ∧
        (u8 (scramble 0x7FFFFF lane) 0 = 0xB4 → u8 (scramble 0x7FFFFF lane) 28 % 4 = 1 → Happens c (fun s => s.linkUp 0 = true)
          (fun s t => t.cmd = s.cmd ∧ ∀ k : Fin 8, t.get (F.OZ.CREDIT_LIMIT 0 k) = u32 (scramble 0x7FFFFF lane) (32 + 4 * k))))) := by
  have happens {h : State → Prop} {e : State → State → Prop} (effect : ∀ s, h s → e s ((s.upBlock lane).1.foldl State.oazilPacket (s.upBlock lane).2)) : Happens c h e :=
    .of_effect (f := fun s => (s.upBlock lane).1.foldl State.oazilPacket (s.upBlock lane).2) row effect
  refine ⟨happens fun s _ => rfl, happens fun s down => ?_, fun plain => ⟨fun bad => happens fun s ⟨up, few, calm⟩ => ?_, fun len crc => ⟨fun idle => happens fun s up => ?_,
    fun control flags => happens fun s up => ?_⟩⟩⟩
  · rw [s.upBlock_down lane down]
    rfl
  · obtain ⟨count, shown, cmd, state⟩ := s.upBad_spec few calm
    rw [s.upBlock_bad lane up plain bad]
    exact ⟨count, shown, cmd, state.trans (((s.linkUp_iff 0).1 up).2)⟩
  · rw [s.upBlock_good lane up plain len crc (.inl idle), idle]
    rfl
  · rw [s.upBlock_good lane up plain len crc (.inr control), if_pos control, State.upControl_credits _ _ flags]
    exact ⟨rfl, fun k => (State.credited_get _ _ k).trans ((beAt_drop _ 28 _ 4).trans (congrArg (fun i => u32 (scramble 0x7FFFFF lane) i) (by omega)))⟩

/-- Settles O48. -/
theorem oazilBlocks : Obligations.OazilBlocks := by
  unfold Obligations.OazilBlocks
  refine ⟨scramble_scramble, fun p => .of_effect (fun _ => rfl) fun s down => s.blockSend_down p down, fun k => .of_effect (fun _ => rfl) fun s ⟨up, next⟩ => s.blockSend_sends k up next,
    .of_effect (fun _ => rfl) fun s ⟨up, next⟩ => ?_, fun p other => ⟨.of_effect (fun _ => rfl) fun s ⟨up, level⟩ => ?_, .of_effect (fun _ => rfl) fun s ⟨up, level⟩ => ?_⟩,
    fun k s next => ⟨(s.nextStream_may k next).1, s.maySend_spec k (s.nextStream_may k next).2⟩, .of_effect (fun _ => rfl) fun s up => ?_,
    .of_effect (fun _ => rfl) fun s down => ?_, fun c lane row => upstream_blocks c lane ?_, fun s b hears bad => ?_⟩
  · rw [show s.blockSend (0 : Fin 3).val = s.sendIdle 0 from s.blockSend_idle up next]
    exact ⟨rfl, rfl, State.putBlock_bseq _ _ _⟩
  · have port : p.val ≠ 0 := fun zero => other (Fin.ext zero)
    rw [s.blockSend_port p up port, if_pos level]
    exact ⟨(s.sendData_stream _ _ _ _).trans (if_pos rfl), ⟨_, by rw [length_onLanes, lanesOf, if_neg port], s.sendData_out _ _ _⟩,
      fun j away => (s.sendData_stream _ _ _ _).trans (if_neg away)⟩
  · have port : p.val ≠ 0 := fun zero => other (Fin.ext zero)
    rw [s.blockSend_port p up port, level, if_neg (by decide)]
    exact ⟨⟨_, by rw [length_onLanes, lanesOf, if_neg port], s.putBlock_out _ _⟩, rfl⟩
  · rw [s.controlSend_up up]
    exact ⟨s.controlPayload, s.controlPayload_length, s.controlPayload_sent, rfl, rfl⟩
  · rw [State.controlSend, down]
    rfl
  · rcases row with rfl | rfl <;> exact fun _ => rfl
  · rw [State.oazilPacket, hears, bad]
    rfl

end Sys2Proof.Machine
end

section
/-! PROOFS. Link training (R302 to R308). The clause on LINK_TRAIN leaves out R454: while the fields of a domain that came on are reloaded, the command is refused. -/
namespace Sys2Proof.Machine

/-- Domain 77 came on and its fields wait for their reload (R454). -/
def reloading : State := { State.reset with pw := { State.reset.pw with reload := [77] } }

/-- LINK_TRAIN of port H for rate 0. -/
def trainsPort : Pkt := ⟨.spi, 0, 0x0600, [0, 0] ++ zeros 2⟩

theorem trainsPort_takes : reloading.takes trainsPort = true := by decide +kernel

theorem trainsPort_seen : (reloading.seen trainsPort).domOn 77 = true ∧ (reloading.seen trainsPort).rangeBusy 0x0600 = false := by decide +kernel

/-- The state that LINK_TRAIN of port H leaves where it is taken. -/
def State.trained (u : State) (p : Pkt) : State :=
  (((u.start p.via p.op p.seq 0).sendReply p.via p.op p.seq (u.answer 1 0 []) (.accepted (u.answer 1 0 []))).set (F.OZ.LINK_CTRL_TARGET 0) 0).beginLadder 0 0

theorem trainsPort_accepted : firstStatus (.next ((reloading.seen trainsPort).trained trainsPort).calm) = some 1 := by decide +kernel

theorem trainsPort_refused : firstStatus (exec (.linkTrain .spi 0 0 0) reloading) = some 0x20 := by decide +kernel

/-- Refutes O47: the clause on LINK_TRAIN leaves out that no reload waits. In `reloading` the command is answered with status 0x20 (R454), not ACCEPTED. -/
theorem not_linkTraining : ¬ Obligations.LinkTraining := by
  unfold Obligations.LinkTraining
  intro holds
  obtain ⟨train, -⟩ := holds
  obtain ⟨on, idle⟩ := trainsPort_seen
  obtain ⟨outcome, -⟩ := train .spi 0 0 0 (by decide) (by decide) reloading trainsPort _ ⟨rfl, trainsPort_takes, rfl⟩ on idle
  have status := trainsPort_refused
  rw [outcome] at status
  exact absurd (trainsPort_accepted.symm.trans status) (by decide)

end Sys2Proof.Machine
end

section
/-! PROOFS. Ethernet (R310 to R312). -/
namespace Sys2Proof.Machine

/-! ### What restarts a stream, and routes -/

/-- The credit and sequence words of the streams. -/
def StreamWord (a : Nat) : Prop := 0x4001080 ≤ a ∧ a < 0x40010C0

section
variable (s : State)

theorem State.restartStream_words (k : Nat) (low : k < 8) : BlockWords StreamWord s (s.restartStream k) :=
  ((BlockWords.of_regs (t := s.setStream k { s.stream k with bytes := 0, resync := true }) rfl).trans
    (.set _ (F.ETH.DGRAM_SENT k) 0 ⟨by simp only [F.ETH.DGRAM_SENT]; omega, by simp only [F.ETH.DGRAM_SENT]; omega⟩)).trans
    (.set _ (F.ETH.DCREDIT k) 0 ⟨by simp only [F.ETH.DCREDIT]; omega, by simp only [F.ETH.DCREDIT]; omega⟩)

theorem State.routeSync_words : BlockWords StreamWord s s.routeSync := by
  unfold State.routeSync
  dsimp only
  split
  · refine .each _ _ (fun u k mem => ?_) s
    split
    · exact (BlockWords.of_regs rfl).trans (State.restartStream_words _ k (by simpa using mem))
    · exact .refl u
  · exact .refl s

theorem State.routeSync_out : s.routeSync.out = s.out := by
  unfold State.routeSync
  dsimp only
  split
  · refine State.each_keeps State.out _ _ (fun u k => ?_) s
    split <;> rfl
  · rfl

/-- What a change of the link's state writes in ETH_STAT. -/
def State.linkFlags (up gig : Bool) : State := ((s.setFlag F.ETH.ETH_STAT_AN_DONE up).setFlag F.ETH.ETH_STAT_LINK (up && gig)).setFlag F.ETH.ETH_STAT_SPEED_ERR (up && !gig)

theorem State.linkFlags_spec (up gig : Bool) : (s.linkFlags up gig).flag F.ETH.ETH_STAT_LINK = (up && gig) ∧ (s.linkFlags up gig).flag F.ETH.ETH_STAT_AN_DONE = up ∧
    (s.linkFlags up gig).flag F.ETH.ETH_STAT_SPEED_ERR = (up && !gig) := by
  refine ⟨?_, ?_, State.flag_setFlag_same _ _ _ rfl (by decide)⟩
  · rw [State.linkFlags, State.flag, State.setFlag, State.get_set_bits _ F.ETH.ETH_STAT_SPEED_ERR F.ETH.ETH_STAT_LINK _ rfl (by decide)]
    exact State.flag_setFlag_same _ _ _ rfl (by decide)
  · rw [State.linkFlags, State.flag, State.setFlag, State.get_set_bits _ F.ETH.ETH_STAT_SPEED_ERR F.ETH.ETH_STAT_AN_DONE _ rfl (by decide), State.setFlag,
      State.get_set_bits _ F.ETH.ETH_STAT_LINK F.ETH.ETH_STAT_AN_DONE _ rfl (by decide)]
    exact State.flag_setFlag_same _ _ _ rfl (by decide)

/-- A link that comes up restarts the streams routed to it. -/
def State.linkRestarts (c : Bool) : State := if c then s.each ((List.range 8).filter s.routed) (fun s k => s.restartStream k) else s

theorem State.linkRestarts_words (c : Bool) : BlockWords StreamWord s (s.linkRestarts c) := by
  cases c
  · exact .refl s
  · exact .each _ _ (fun u k mem => u.restartStream_words k (by simpa using (List.mem_filter.1 mem).1)) s

theorem State.linkRestarts_eth (c : Bool) : (s.linkRestarts c).eth = s.eth := by
  cases c
  · rfl
  · exact State.each_keeps State.eth ((List.range 8).filter s.routed) (fun s k => s.restartStream k) (fun _ _ => rfl) s

/-- A link that is down forgets what it resolved and the pause it was asked for. -/
def State.linkForgets (now : Bool) : State := if now then s else { s with eth := { s.eth with arp := [], pause := 0 } }

theorem State.linkForgets_words (now : Bool) : BlockWords StreamWord s (s.linkForgets now) := .of_regs (by cases now <;> rfl)

theorem State.ethLink_on (up gig : Bool) (on : s.domOn 78 = true) : s.ethLink up gig =
    (((s.linkFlags up gig).linkRestarts ((up && gig) && !s.ethUp)).linkForgets (up && gig)).when (((up && gig) != s.ethUp) || (up && !gig))
      (fun s => s.raise EV_ETH_LINK 0 (bit (up && gig) + 2 * bit (up && !gig))) := by
  unfold State.ethLink
  rw [on]
  rfl

/-- A change of the link's state, in a domain that is on. -/
theorem State.ethLink_spec (up gig : Bool) (on : s.domOn 78 = true) : (s.ethLink up gig).flag F.ETH.ETH_STAT_LINK = (up && gig) ∧ (s.ethLink up gig).flag F.ETH.ETH_STAT_AN_DONE = up ∧
    (s.ethLink up gig).flag F.ETH.ETH_STAT_SPEED_ERR = (up && !gig) ∧ ((up && gig) = false → (s.ethLink up gig).eth = { s.eth with arp := [], pause := 0 }) := by
  obtain ⟨link, done, err⟩ := s.linkFlags_spec up gig
  have words : BlockWords StreamWord (s.linkFlags up gig) (s.ethLink up gig) := by
    rw [s.ethLink_on up gig on]
    exact ((State.linkRestarts_words _ ((up && gig) && !s.ethUp)).trans (State.linkForgets_words _ (up && gig))).trans (.when _ (fun u => .raise u _ _ _ (by decide)) _)
  have stat (f : Fld) (word : f.addr = 0x4001000) : (s.ethLink up gig).flag f = (s.linkFlags up gig).flag f :=
    words.flag f (by omega) (by omega) (by rintro ⟨low, -⟩; omega)
  refine ⟨(stat _ rfl).trans link, (stat _ rfl).trans done, (stat _ rfl).trans err, fun down => ?_⟩
  have told : Answering (((s.linkFlags up gig).linkRestarts ((up && gig) && !s.ethUp)).linkForgets (up && gig)) (s.ethLink up gig) := by
    rw [s.ethLink_on up gig on]
    exact .when _ (.raise _ _ _ _)
  rw [congrArg State.eth told]
  show (((s.linkFlags up gig).linkRestarts ((up && gig) && !s.ethUp)).linkForgets (up && gig)).eth = _
  rw [down, State.linkForgets, if_neg Bool.false_ne_true]
  exact congrArg (fun e : EthSt => { e with arp := [], pause := 0 }) (State.linkRestarts_eth _ _)

/-- A link that stays up at 1 Gb/s is reported to nobody. -/
theorem State.ethLink_still (on : s.domOn 78 = true) (was : s.flag F.ETH.ETH_STAT_LINK = true) : s.ethLink true true = s.linkFlags true true := by
  have up : s.ethUp = true := by rw [State.ethUp, on, was]; rfl
  rw [s.ethLink_on true true on, up]
  rfl

theorem State.ethLink_off (up gig : Bool) (off : s.domOn 78 = false) : s.ethLink up gig = s := by
  rw [State.ethLink, off]
  rfl

/-! ### Frames received -/

theorem State.arpRequest_mine (sip smac target : Nat) (up : s.ethUp = true) (mine : target = s.get F.ETH.IP_ADDR) :
    s.arpRequest sip smac target = (s.inc F.ETH.RX_FRAMES).ethSend 1 smac (arpBody 2 s.mac target smac sip) := by
  have same : (s.inc F.ETH.RX_FRAMES).get F.ETH.IP_ADDR = target := (s.get_inc_ne _ _ (by decide)).trans mine.symm
  unfold State.arpRequest
  dsimp only
  rw [up, Bool.not_true, if_neg Bool.false_ne_true, same, if_pos rfl]
  rfl

theorem State.arpRequest_other (sip smac target : Nat) (up : s.ethUp = true) (other : target ≠ s.get F.ETH.IP_ADDR) : s.arpRequest sip smac target = s.inc F.ETH.RX_FRAMES := by
  have same : (s.inc F.ETH.RX_FRAMES).get F.ETH.IP_ADDR = s.get F.ETH.IP_ADDR := s.get_inc_ne _ _ (by decide)
  unfold State.arpRequest
  dsimp only
  rw [up, Bool.not_true, if_neg Bool.false_ne_true, same, if_neg other]

theorem State.nextHop_inc (f : Fld) (ip : Nat) (mask : f.addr ≠ 0x4001010) (addr : f.addr ≠ 0x400100C) (gw : f.addr ≠ 0x4001014) : (s.inc f).nextHop ip = s.nextHop ip := by
  rw [State.nextHop, State.nextHop, s.get_inc_ne f F.ETH.IP_MASK mask.symm, s.get_inc_ne f F.ETH.IP_ADDR addr.symm, s.get_inc_ne f F.ETH.IP_GW gw.symm]

theorem State.arpReply_up (ip mac : Nat) (up : s.ethUp = true) : s.arpReply ip mac =
    if ip = s.get F.ETH.IP_GW ∨ ip = s.nextHop (s.get F.ETH.STREAM_DEST_IP) then { s.inc F.ETH.RX_FRAMES with eth := { s.eth with arp := spSet (fun _ => 0) s.eth.arp ip mac } }
    else s.inc F.ETH.RX_FRAMES := by
  unfold State.arpReply
  dsimp only
  rw [up, Bool.not_true, if_neg Bool.false_ne_true, s.get_inc_ne F.ETH.RX_FRAMES F.ETH.IP_GW (by decide), s.get_inc_ne F.ETH.RX_FRAMES F.ETH.STREAM_DEST_IP (by decide),
    s.nextHop_inc F.ETH.RX_FRAMES _ (by decide) (by decide) (by decide)]
  rfl

/-- A frame that is counted in RX_FRAMES and answered by one whose bytes are given. -/
theorem State.ethSend_counts (g : Fld) (kind dst : Nat) (bytes : List Byte) (fits : g.fits = true) (other : g.addr ≠ F.ETH.TX_FRAMES.addr) (t : State) (same : t.get g = s.get g) :
    ((t.inc g).ethSend kind dst bytes).get g = min (s.get g + 1) (2 ^ g.wd - 1) :=
  ((t.inc g).get_inc_ne F.ETH.TX_FRAMES g other).trans (State.get_inc_of_eq g fits same)

theorem State.icmpEcho_fits (sip i q : Nat) (pay : List Byte) (up : s.ethUp = true) (short : pay.length ≤ 1472) : s.icmpEcho sip i q pay =
    ((s.inc F.ETH.RX_FRAMES).inc F.ETH.ICMP_ECHO).ethSend 2 sip
      (zeros 2 ++ beBytes 2 (inetSum (zeros 4 ++ (beBytes 2 i ++ beBytes 2 q ++ pay))) ++ (beBytes 2 i ++ beBytes 2 q ++ pay)) := by
  unfold State.icmpEcho
  dsimp only
  rw [up, Bool.not_true, if_neg Bool.false_ne_true, if_neg (by omega)]

theorem State.icmpEcho_long (sip i q : Nat) (pay : List Byte) (up : s.ethUp = true) (long : 1472 < pay.length) :
    s.icmpEcho sip i q pay = (s.inc F.ETH.RX_FRAMES).inc F.ETH.RX_DISCARD := by
  unfold State.icmpEcho
  dsimp only
  rw [up, Bool.not_true, if_neg Bool.false_ne_true, if_pos long]

/-! ### Credits and stream datagrams -/

/-- The credits of a credit datagram are taken. -/
def State.datagramCredits (b : List Byte) : State := s.each (List.range 7) (fun s i => s.set (F.ETH.DCREDIT (i + 1)) (u32 b (4 + 4 * i)))

theorem State.datagramCredits_get (b : List Byte) (i : Fin 7) : (s.datagramCredits b).get (F.ETH.DCREDIT (i + 1)) = u32 b (4 + 4 * i) := by
  obtain ⟨u, -, own⟩ := State.each_own (fun s => s.get (F.ETH.DCREDIT (i + 1))) (List.range 7) List.nodup_range
    (fun s i => s.set (F.ETH.DCREDIT (i + 1)) (u32 b (4 + 4 * i))) i.val (by simp)
    (fun u b other => u.get_set_addr _ _ _ (by simp only [F.ETH.DCREDIT]; omega)) s
  exact own.trans ((u.get_set_same (F.ETH.DCREDIT (i + 1)) _ rfl).trans (Nat.mod_eq_of_lt (beAt_lt b _ 4)))

theorem State.datagramCredits_words (b : List Byte) : BlockWords StreamWord s (s.datagramCredits b) :=
  .each _ _ (fun u i mem => .set u _ _ ⟨by simp only [F.ETH.DCREDIT]; omega, by have := List.mem_range.1 mem; simp only [F.ETH.DCREDIT]; omega⟩) s

theorem State.datagramCredits_regs (b : List Byte) : s.datagramCredits b = { s with regs := (s.datagramCredits b).regs } := rfl

theorem State.creditDatagram_up (src : Peer) (b : List Byte) (up : s.ethUp = true) : s.creditDatagram src b =
    if src.ip.toNat = s.get F.ETH.STREAM_DEST_IP ∧ u8 b 0 = 2 ∧ b.length = 32 then ((s.inc F.ETH.RX_FRAMES).inc F.ETH.CREDIT_RX).datagramCredits b else s.inc F.ETH.RX_FRAMES := by
  unfold State.creditDatagram
  dsimp only
  rw [up, Bool.not_true, if_neg Bool.false_ne_true, s.get_inc_ne F.ETH.RX_FRAMES F.ETH.STREAM_DEST_IP (by decide)]
  rfl

/-- Stream `k` leaves by Ethernet and has data. -/
def State.datagramDue (k : Nat) : Prop := s.ethUp = true ∧ s.routed k = true ∧ 0 < s.streamLevel k

/-- The credit that stream `k` has left. -/
def State.datagramCredit (k : Nat) : Nat := (s.get (F.ETH.DCREDIT k) + 2 ^ 32 - s.get (F.ETH.DGRAM_SENT k)) % 2 ^ 32

/-- The datagram of stream `k`. -/
def State.datagram (k : Nat) : List Byte :=
  beBytes 1 1 ++ beBytes 1 k ++ beBytes 1 (bit (s.stream k).resync) ++ zeros 1 ++ beBytes 4 (s.get (F.ETH.DGRAM_SENT k)) ++ beBytes 4 (s.stream k).bytes ++
    beBytes 2 (takeBytes (s.stream k) 1432).1.length ++ beBytes 2 (takeBytes (s.stream k) 1432).2.1 ++ beBytes 8 s.time.dev.toNat ++ (takeBytes (s.stream k) 1432).1

theorem State.datagram_fields (k : Fin 8) : u8 (s.datagram k) 0 = 1 ∧ u8 (s.datagram k) 1 = k.val ∧ u32 (s.datagram k) 4 = s.get (F.ETH.DGRAM_SENT k) ∧
    (s.datagram k).drop 24 = (takeBytes (s.stream k) 1432).1 := by
  refine ⟨rfl, ?_, ?_, ?_⟩
  · have byte : u8 (s.datagram k) 1 = ofBe (beBytes 1 k.val) := rfl
    exact byte.trans ((ofBe_beBytes 1 _).trans (Nat.mod_eq_of_lt (by omega)))
  · have word : u32 (s.datagram k) 4 = ofBe (beBytes 4 (s.get (F.ETH.DGRAM_SENT k))) := rfl
    exact word.trans ((ofBe_beBytes4 _).trans (Nat.mod_eq_of_lt (s.get_lt (F.ETH.DGRAM_SENT k))))
  · rfl

/-- The state in which the datagram of stream `k` has left. -/
def State.datagramSent (k : Nat) : State :=
  (((((s.setStream k (takeBytes (s.stream k) 1432).2.2).set (F.ETH.DGRAM_SENT k) (s.get (F.ETH.DGRAM_SENT k) + 1)).inc F.ETH.DGRAM_TX).inc F.ETH.TX_FRAMES).emit
    (.streamDatagram ⟨BitVec.ofNat 32 (s.get F.ETH.STREAM_DEST_IP), BitVec.ofNat 16 (s.get F.ETH.STREAM_DEST_PORT)⟩ (s.datagram k)))

/-- A datagram that leaves counts in DGRAM_TX. -/
theorem State.datagram_counted (t : State) (o : Out) (same : t.get F.ETH.DGRAM_TX = s.get F.ETH.DGRAM_TX) :
    (((t.inc F.ETH.DGRAM_TX).inc F.ETH.TX_FRAMES).emit o).get F.ETH.DGRAM_TX = min (s.get F.ETH.DGRAM_TX + 1) (2 ^ F.ETH.DGRAM_TX.wd - 1) :=
  ((t.inc F.ETH.DGRAM_TX).get_inc_ne F.ETH.TX_FRAMES F.ETH.DGRAM_TX (by decide)).trans (State.get_inc_of_eq F.ETH.DGRAM_TX rfl same)

theorem State.datagramSent_counts (k : Fin 8) : (s.datagramSent k).get F.ETH.DGRAM_TX = min (s.get F.ETH.DGRAM_TX + 1) (2 ^ F.ETH.DGRAM_TX.wd - 1) := by
  rw [State.datagramSent]
  exact s.datagram_counted _ _ (State.get_set_addr _ (F.ETH.DGRAM_SENT k) F.ETH.DGRAM_TX _ (by simp only [F.ETH.DGRAM_TX, F.ETH.DGRAM_SENT]; omega))

theorem State.streamDatagram_ask (k : Nat) (synced : s.routeSync = s) (due : s.datagramDue k) (credit : 1 ≤ s.datagramCredit k ∧ s.datagramCredit k ≤ 2 ^ 31)
    (free : s.eth.pause ≤ s.time.dev.toNat) (unknown : spGet (fun _ => 0) s.eth.arp (s.nextHop (s.get F.ETH.STREAM_DEST_IP)) = 0) :
    s.streamDatagram k = s.ethSend 1 (2 ^ 48 - 1) (arpBody 1 s.mac (s.get F.ETH.IP_ADDR) 0 (s.nextHop (s.get F.ETH.STREAM_DEST_IP))) := by
  obtain ⟨up, routed, level⟩ := due
  obtain ⟨one, most⟩ := credit
  rw [State.datagramCredit] at one most
  unfold State.streamDatagram
  dsimp only
  rw [synced, up, routed, if_pos (by simp only [Bool.true_and, decide_eq_true_eq]; exact ⟨level, one, most, free⟩), if_pos unknown]

theorem State.streamDatagram_send (k : Nat) (synced : s.routeSync = s) (due : s.datagramDue k) (credit : 1 ≤ s.datagramCredit k ∧ s.datagramCredit k ≤ 2 ^ 31)
    (free : s.eth.pause ≤ s.time.dev.toNat) (known : spGet (fun _ => 0) s.eth.arp (s.nextHop (s.get F.ETH.STREAM_DEST_IP)) ≠ 0) :
    s.streamDatagram k = (s.datagramSent k).routeSync := by
  obtain ⟨up, routed, level⟩ := due
  obtain ⟨one, most⟩ := credit
  rw [State.datagramCredit] at one most
  unfold State.streamDatagram
  dsimp only
  rw [synced, up, routed, if_pos (by simp only [Bool.true_and, decide_eq_true_eq]; exact ⟨level, one, most, free⟩), if_neg known]
  have port : (((s.setStream k (takeBytes (s.stream k) 1432).2.2).set (F.ETH.DGRAM_SENT k) (s.get (F.ETH.DGRAM_SENT k) + 1)).inc F.ETH.DGRAM_TX).get F.ETH.STREAM_DEST_PORT =
      s.get F.ETH.STREAM_DEST_PORT :=
    (State.get_inc_ne _ F.ETH.DGRAM_TX F.ETH.STREAM_DEST_PORT (by decide)).trans
      (State.get_set_addr _ (F.ETH.DGRAM_SENT k) F.ETH.STREAM_DEST_PORT _ (by simp only [F.ETH.STREAM_DEST_PORT, F.ETH.DGRAM_SENT]; omega))
  rw [port]
  rfl

theorem State.streamDatagram_not (k : Nat) (synced : s.routeSync = s) (not : ¬ s.datagramDue k) : s.streamDatagram k = s := by
  unfold State.streamDatagram
  dsimp only
  rw [synced, if_neg]
  intro sends
  simp only [Bool.and_eq_true, decide_eq_true_eq] at sends
  obtain ⟨⟨up, routed⟩, level, -⟩ := sends
  exact not ⟨up, routed, level⟩

end

/-! ### NET_CONFIG -/

/-- The payload of NET_CONFIG. -/
def netBlock (ip mask gw : BitVec 32) (vlan : BitVec 16) : List Byte := beBytes 4 ip.toNat ++ beBytes 4 mask.toNat ++ beBytes 4 gw.toNat ++ beBytes 2 vlan.toNat ++ zeros 2

theorem netBlock_fields (ip mask gw : BitVec 32) (vlan : BitVec 16) : u32 (netBlock ip mask gw vlan) 0 = ip.toNat ∧ u32 (netBlock ip mask gw vlan) 4 = mask.toNat ∧
    u32 (netBlock ip mask gw vlan) 8 = gw.toNat ∧ u16 (netBlock ip mask gw vlan) 12 = vlan.toNat ∧ notZero (netBlock ip mask gw vlan) 14 2 = false :=
  ⟨ofBe_beBytes_four ip, ofBe_beBytes_four mask, ofBe_beBytes_four gw, ofBe_beBytes_two vlan, notZero_append_zeros _ 14 2 (by simp)⟩

/-- The addresses that NET_CONFIG sets. -/
def State.addressed (t : State) (ip mask gw : BitVec 32) (vlan : BitVec 16) : State :=
  (((t.set F.ETH.IP_ADDR ip.toNat).set F.ETH.IP_MASK mask.toNat).set F.ETH.IP_GW gw.toNat).set F.ETH.VLAN vlan.toNat

theorem State.addressed_get (t : State) (ip mask gw : BitVec 32) (vlan : BitVec 16) : (t.addressed ip mask gw vlan).get F.ETH.IP_ADDR = ip.toNat ∧
    (t.addressed ip mask gw vlan).get F.ETH.IP_MASK = mask.toNat ∧ (t.addressed ip mask gw vlan).get F.ETH.IP_GW = gw.toNat ∧
    (t.addressed ip mask gw vlan).get F.ETH.VLAN = vlan.toNat % 2 ^ F.ETH.VLAN.wd := by
  refine ⟨?_, ?_, ?_, State.get_set_same _ F.ETH.VLAN _ rfl⟩
  · rw [State.addressed, State.get_set_addr _ _ _ _ (by decide), State.get_set_addr _ _ _ _ (by decide), State.get_set_addr _ _ _ _ (by decide)]
    exact (State.get_set_same _ F.ETH.IP_ADDR _ rfl).trans (Nat.mod_eq_of_lt ip.isLt)
  · rw [State.addressed, State.get_set_addr _ _ _ _ (by decide), State.get_set_addr _ _ _ _ (by decide)]
    exact (State.get_set_same _ F.ETH.IP_MASK _ rfl).trans (Nat.mod_eq_of_lt mask.isLt)
  · rw [State.addressed, State.get_set_addr _ _ _ _ (by decide)]
    exact (State.get_set_same _ F.ETH.IP_GW _ rfl).trans (Nat.mod_eq_of_lt gw.isLt)

/-- All peers are forgotten. -/
def State.peersForgotten (t : State) : State := t.each (t.cmd.udp.map Prod.fst) State.forgetPeer

/-- What NET_CONFIG does after its reply. -/
def State.netConfigured (t : State) (ip mask gw : BitVec 32) (vlan : BitVec 16) : State :=
  let t := t.peersForgotten.addressed ip mask gw vlan
  { t with cmd := { t.cmd with udp := [], held := t.cmd.held.filter (fun h => match h.port with | .udp _ => false | _ => true) }, eth := { t.eth with arp := [] } }

theorem cmdNetConfig_done (s : State) (ip mask gw : BitVec 32) (vlan : BitVec 16) (on : s.domOn 78 = true) : runMid s 0x0604 (netBlock ip mask gw vlan) =
    ⟨.final 0 0 [], s, fun t => t.netConfigured ip mask gw vlan⟩ := by
  obtain ⟨first, second, third, tag, spare⟩ := netBlock_fields ip mask gw vlan
  show { cmdNetConfig s (netBlock ip mask gw vlan) with post := fun t => (cmdNetConfig s (netBlock ip mask gw vlan)).post t.peersForgotten } = _
  rw [cmdNetConfig, s.guarded_pass _ _ (by simp [State.needDom, State.badState, badParam, on, spare]), first, second, third, tag]
  rfl

theorem State.forgetPeer_kept (s : State) (p : Peer) : (s.forgetPeer p).cmd.spi = s.cmd.spi ∧ (s.forgetPeer p).cmd.oazil = s.cmd.oazil ∧ (s.forgetPeer p).cmd.outq = s.cmd.outq := by
  unfold State.forgetPeer
  dsimp only
  split
  · rename_i x _
    cases x.port == Port.udp p <;> exact ⟨rfl, rfl, rfl⟩
  · exact ⟨rfl, rfl, rfl⟩

theorem State.peersForgotten_kept (t : State) : t.peersForgotten.cmd.spi = t.cmd.spi ∧ t.peersForgotten.cmd.oazil = t.cmd.oazil ∧ t.peersForgotten.cmd.outq = t.cmd.outq :=
  ⟨State.each_keeps (fun u => u.cmd.spi) _ _ (fun u p => (u.forgetPeer_kept p).1) t, State.each_keeps (fun u => u.cmd.oazil) _ _ (fun u p => (u.forgetPeer_kept p).2.1) t,
    State.each_keeps (fun u => u.cmd.outq) _ _ (fun u p => (u.forgetPeer_kept p).2.2) t⟩

/-! ### The statement -/

/-- Settles O49. -/
theorem ethernet : Obligations.Ethernet := by
  unfold Obligations.Ethernet
  refine ⟨fun via seq ip mask gw vlan s p u runs on => ⟨fun t => t.netConfigured ip mask gw vlan, .of_handler rfl runs (cmdNetConfig_done u ip mask gw vlan on), fun t => ?config⟩,
    fun up gig => .of_effect (fun _ => rfl) fun s on => ?link, fun up gig => .of_effect (fun _ => rfl) fun s off => s.ethLink_off up gig off,
    fun ip target mac => ⟨.of_effect (fun _ => rfl) fun s ⟨up, mine⟩ => ?arp, .of_effect (fun _ => rfl) fun s ⟨up, other⟩ => s.arpRequest_other _ _ _ up other,
      .of_effect (fun _ => rfl) fun s ⟨up, hop⟩ => ?reply, .of_effect (fun _ => rfl) fun s ⟨up, hop, gate⟩ => ?otherReply⟩,
    fun ip i q pay => ⟨fun short => .of_effect (fun _ => rfl) fun s up => ?echo, fun long => .of_effect (fun _ => rfl) fun s up => s.icmpEcho_long _ _ _ _ up long⟩,
    fun q => .of_effect (fun _ => rfl) fun s up => ?pause, .of_effect (fun _ => rfl) fun s up => ?fcs, .of_effect (fun _ => rfl) fun s up => ?discard,
    fun p b len kind => .of_effect (fun _ => rfl) fun s ⟨up, dest⟩ => ?credit, fun p b => .of_effect (fun _ => rfl) fun s ⟨up, bad⟩ => ?noCredit,
    fun k => .of_effect (fun _ => rfl) fun s ⟨synced, up, routed, level, credit, free, unknown⟩ => s.streamDatagram_ask k synced ⟨up, routed, level⟩ credit free unknown,
    fun k => .of_effect (fun _ => rfl) fun s ⟨synced, up, routed, level, credit, free, known⟩ => ?sends, fun k => .of_effect (fun _ => rfl) fun s ⟨synced, idle⟩ => ?idle⟩
  case config =>
    obtain ⟨addr, net, gate, tag⟩ := t.peersForgotten.addressed_get ip mask gw vlan
    obtain ⟨spi, oazil, outq⟩ := t.peersForgotten_kept
    exact ⟨addr, net, gate, tag, rfl, spi, oazil, rfl, outq⟩
  case link =>
    obtain ⟨link, done, err, down⟩ := s.ethLink_spec up gig on
    refine ⟨link, done, err, down, fun was one fast => ?_⟩
    rw [one, fast, s.ethLink_still on was]
    rfl
  case arp =>
    rw [s.arpRequest_mine _ _ _ up mine]
    exact ⟨rfl, rfl, (State.get_inc_ne _ F.ETH.TX_FRAMES F.ETH.RX_FRAMES (by decide)).trans (s.get_inc F.ETH.RX_FRAMES rfl),
      State.get_inc_of_eq F.ETH.TX_FRAMES rfl (s.get_inc_ne _ _ (by decide))⟩
  case reply => exact (s.arpReply_up _ _ up).trans (if_pos (.inr hop))
  case otherReply => exact (s.arpReply_up _ _ up).trans (if_neg (not_or.2 ⟨gate, hop⟩))
  case echo =>
    rw [s.icmpEcho_fits _ _ _ pay up short]
    exact ⟨rfl, s.ethSend_counts F.ETH.ICMP_ECHO _ _ _ rfl (by decide) _ (s.get_inc_ne _ _ (by decide)), rfl⟩
  case pause => rw [State.pauseFrame, up]; rfl
  case fcs => rw [State.ethDiscard, up]; rfl
  case discard => rw [State.ethDiscard, up]; rfl
  case credit =>
    rw [s.creditDatagram_up p b up, if_pos ⟨dest, kind, len⟩]
    refine ⟨State.datagramCredits_regs _ b, ?_, fun i => State.datagramCredits_get _ b i⟩
    rw [(State.datagramCredits_words _ b).get F.ETH.CREDIT_RX (by decide) (by decide) (by rintro ⟨low, -⟩; exact absurd low (by decide))]
    exact State.get_inc_of_eq F.ETH.CREDIT_RX rfl (s.get_inc_ne _ _ (by decide))
  case noCredit =>
    refine (s.creditDatagram_up p b up).trans (if_neg fun ⟨dest, kind, len⟩ => ?_)
    rcases bad with short | other | far
    · exact short len
    · exact other kind
    · exact far dest
  case sends =>
    rw [s.streamDatagram_send k synced ⟨up, routed, level⟩ credit free known]
    obtain ⟨kind, number, count, data⟩ := s.datagram_fields k
    refine ⟨?_, s.datagram k, kind, number, count, data, State.routeSync_out _⟩
    rw [(State.routeSync_words _).get F.ETH.DGRAM_TX (by decide) (by decide) (by rintro ⟨low, -⟩; exact absurd low (by decide))]
    exact s.datagramSent_counts k
  case idle =>
    refine s.streamDatagram_not k synced fun ⟨up, routed, level⟩ => ?_
    rcases idle with down | away | empty
    · exact absurd (up.symm.trans down) (by decide)
    · exact absurd (routed.symm.trans away) (by decide)
    · omega

end Sys2Proof.Machine
end

section
/-! PROOFS. Fusion (R266 to R269, R272): how a map closes, what a column does to the open maps, and the FUS_CTRL write. -/
namespace Sys2Proof.Machine

/-! ### Transfers through the memory controller -/

/-- A transfer of a class other than 5 leaves its mark in the controller alone. -/
theorem State.memUse_mem (s : State) (cls src bytes : Nat) (class_ : cls ≠ 5) : s.memUse cls src bytes = { s with mem := (s.memUse cls src bytes).mem } := by
  unfold State.memUse State.memReq
  split
  · rfl
  · rw [if_neg (fun short => class_ short.1)]

theorem State.memUse_regs (s : State) (cls src bytes : Nat) (class_ : cls ≠ 5) : (s.memUse cls src bytes).regs = s.regs :=
  (congrArg State.regs (s.memUse_mem cls src bytes class_)).trans rfl

theorem State.when_field {β : Type} (g : State → β) (b : Bool) (f : State → State) (step : ∀ u, g (f u) = g u) (s : State) : g (s.when b f) = g s := by
  cases b
  · rfl
  · exact step s

/-! ### What the close of a map leaves as it is -/

/-- `s` with the parts of `t` that the close of a map may change. -/
def State.mapParts (s t : State) : State :=
  { s with regs := t.regs, cmd := t.cmd, fm := t.fm, mon := t.mon, tx := t.tx, out := t.out, mem := t.mem, dram := t.dram,
           vis := { s.vis with below := t.vis.below, runs := t.vis.runs, ovls := t.vis.ovls } }

/-- The words that the close of a map may change: those of the pipeline's rings, ZONE_ACT and MAPS_SENT. -/
def MapWord (a : Nat) : Prop := (0x3002000 ≤ a ∧ a < 0x3003000) ∨ a = 0x300300C ∨ a = 0x3003030

/-- `t` comes from `s` by steps of a map's close: the open maps, the cameras and the jobs stay. -/
def Mapping (s t : State) : Prop := t = s.mapParts t ∧ BlockWords MapWord s t

namespace Mapping
variable {s t u : State}

theorem refl (s : State) : Mapping s s := ⟨rfl, .refl s⟩

theorem trans (first : Mapping s t) (second : Mapping t u) : Mapping s u :=
  ⟨second.1.trans (show t.mapParts u = (s.mapParts t).mapParts u by rw [← first.1]), first.2.trans second.2⟩

theorem of_parts (parts : t = s.mapParts t) (regs : t.regs = s.regs) : Mapping s t := ⟨parts, .of_regs regs⟩

theorem set (s : State) (f : Fld) (x : Nat) (mine : MapWord f.addr) : Mapping s (s.set f x) := ⟨rfl, .set s f x mine⟩

theorem raise (s : State) (n i d : Nat) (known : n < 256) : Mapping s (s.raise n i d) := by
  have told := Answering.raise s n i d
  refine ⟨Eq.trans told ?_, .raise s n i d known⟩
  rw [State.mapParts, (congrArg State.mem told).trans rfl, (congrArg State.dram told).trans rfl, (congrArg State.vis told).trans rfl]

theorem when (b : Bool) {f : State → State} (h : ∀ u, Mapping u (f u)) (s : State) : Mapping s (s.when b f) := by
  cases b
  · exact .refl s
  · exact h s

theorem each {α : Type} (l : List α) (f : State → α → State) (step : ∀ u, ∀ a ∈ l, Mapping u (f u a)) (s : State) : Mapping s (s.each l f) := by
  induction l generalizing s with
  | nil => exact .refl s
  | cons a l ih => exact (step s a List.mem_cons_self).trans (ih (fun u b mem => step u b (List.mem_cons_of_mem _ mem)) _)

theorem memUse (s : State) (cls src bytes : Nat) (class_ : cls ≠ 5) : Mapping s (s.memUse cls src bytes) := by
  rw [s.memUse_mem cls src bytes class_]
  exact .of_parts rfl rfl

theorem dram (s : State) (d : List Host.Cell) : Mapping s { s with dram := d } := .of_parts rfl rfl

theorem dramPut (s : State) (a : Nat) (bs : List Byte) : Mapping s (s.dramPut a bs) := by
  unfold State.dramPut
  split
  · exact .dram s _
  · exact .refl s

theorem maps (h : Mapping s t) : t.vis.maps = s.vis.maps := (congrArg (fun x => x.vis.maps) h.1).trans rfl
theorem ps (h : Mapping s t) : t.ps = s.ps := (congrArg State.ps h.1).trans rfl
end Mapping

section
variable (s : State)

/-- The run of maps below MIN of entry `i`. -/
def State.zoneRun (i n : Nat) : State := { s with vis := { s.vis with below := spSet (fun _ => 0) s.vis.below i n } }

/-- Entry `i` of ZONE_ACT clears. -/
def State.zoneClears (i : Nat) : State := s.setBitAt F.FUS.ZONE_ACT_ACT i false

/-- Zone `z` at the close of a map. -/
def State.zoneFall (m : DMap) (z : Nat) : State :=
  let met := decide (s.get (F.FUS.ZONE_CFG_MIN z) ≤ spGet (fun _ => 0) m.zones z) && s.zoneOn m.cam z
  let n := if met then 0 else spGet (fun _ => 0) s.vis.below (8 * m.cam + z) + 1
  (s.zoneRun (8 * m.cam + z) (min n 15)).when (decide (s.get (F.FUS.ZONE_CFG_HOLD z) ≤ n)) (fun s => s.zoneClears (8 * m.cam + z))

theorem State.zonesFall_eq (m : DMap) : s.zonesFall m = s.each (List.range 8) (fun s z => s.zoneFall m z) := rfl

theorem State.zoneFall_mapping (m : DMap) (z : Nat) : Mapping s (s.zoneFall m z) := by
  unfold State.zoneFall
  dsimp only
  exact (Mapping.of_parts (t := s.zoneRun _ _) rfl rfl).trans (.when _ (fun v => .set v _ _ (.inr (.inl rfl))) _)

theorem State.zonesFall_mapping (m : DMap) : Mapping s (s.zonesFall m) := by
  rw [State.zonesFall_eq]
  exact .each _ _ (fun u z _ => u.zoneFall_mapping m z) s

theorem State.zoneFall_keeps (m : DMap) (z : Nat) : (s.zoneFall m z).tx = s.tx ∧ (s.zoneFall m z).vis.runs = s.vis.runs := by
  unfold State.zoneFall
  dsimp only
  exact ⟨State.when_field State.tx _ (fun s => s.zoneClears (8 * m.cam + z)) (fun _ => rfl) (s.zoneRun _ _),
    State.when_field (fun u => u.vis.runs) _ (fun s => s.zoneClears (8 * m.cam + z)) (fun _ => rfl) (s.zoneRun _ _)⟩

theorem State.zonesFall_keeps (m : DMap) : (s.zonesFall m).tx = s.tx ∧ (s.zonesFall m).vis.runs = s.vis.runs := by
  rw [State.zonesFall_eq]
  exact ⟨State.each_keeps State.tx _ (fun s z => s.zoneFall m z) (fun u z => (u.zoneFall_keeps m z).1) s,
    State.each_keeps (fun u => u.vis.runs) _ (fun s z => s.zoneFall m z) (fun u z => (u.zoneFall_keeps m z).2) s⟩

/-- The drop record that goes before the next record of stream `k`. -/
def State.runRecord (k : Nat) : List (List Byte) :=
  match s.camRun k with
  | some d => [camDropRecord 6 d.cam false d.time d.frame 0 d.count]
  | none => []

/-- The run of drops with one more record of camera `cam`. -/
def State.runLonger (k cam frame : Nat) (time : BitVec 64) : CamDrop :=
  match s.camRun k with
  | some d => { d with count := d.count + 1 }
  | none => ⟨cam, frame, time, 1⟩

/-- Records enter the ring of stream `k`. -/
def State.ringTakes (k : Nat) (us : List (List Byte)) : State := (s.each us (fun s u => s.txPut k u)).setCamRun k none

/-- A record of stream `k` is dropped. -/
def State.ringLoses (k : Nat) (d : CamDrop) : State := (s.setCamRun k (some d)).inc (if k = 3 then F.PIPE.S3_DROPPED else F.PIPE.S4_DROPPED)

theorem State.camPut_eq (k cam frame : Nat) (time : BitVec 64) (bytes : List Byte) : s.camPut k cam frame time bytes =
    if s.streamLevel k + ((s.runRecord k ++ [bytes]).map List.length).sum + 64 ≤ s.camRing k then (true, s.ringTakes k (s.runRecord k ++ [bytes]))
    else (false, s.ringLoses k (s.runLonger k cam frame time)) := rfl

theorem State.ringTakes_mapping (k : Nat) (us : List (List Byte)) : Mapping s (s.ringTakes k us) :=
  (Mapping.each us (fun s u => s.txPut k u) (fun _ _ _ => .of_parts rfl rfl) s).trans (.of_parts rfl rfl)

theorem State.ringLoses_mapping (k : Nat) (d : CamDrop) : Mapping s (s.ringLoses k d) := by
  refine (Mapping.of_parts (t := s.setCamRun k (some d)) rfl rfl).trans (.set _ _ _ (.inl ?_))
  split <;> exact ⟨by decide, by decide⟩

theorem State.camPut_mapping (k cam frame : Nat) (time : BitVec 64) (bytes : List Byte) : Mapping s (s.camPut k cam frame time bytes).2 := by
  rw [State.camPut_eq]
  split
  · exact s.ringTakes_mapping _ _
  · exact s.ringLoses_mapping _ _

theorem State.camPlace_mapping (k cam frame : Nat) (time : BitVec 64) (bytes : List Byte) : Mapping s (s.camPlace k cam frame time bytes).2 :=
  (Mapping.memUse s 2 0x22 _ (by decide)).trans (State.camPut_mapping _ _ _ _ _ _)

/-- An overlay of camera `n` is drawn in memory and handed over. -/
def State.overlayDrawn (n a : Nat) (pix : List Byte) (h : Handed) : State :=
  let t := (s.memUse 2 0x22 pix.length).dramPut a pix
  { t with vis := { t.vis with ovls := spSet (fun _ => none) t.vis.ovls n (some h) } }

theorem State.overlay_cases (m : DMap) : s.overlay m = s ∨ ∃ a pix h, s.overlay m = s.overlayDrawn m.cam a pix h := by
  unfold State.overlay
  dsimp only
  split
  · exact .inr ⟨_, _, _, rfl⟩
  · exact .inl rfl

theorem State.overlayDrawn_mapping (n a : Nat) (pix : List Byte) (h : Handed) : Mapping s (s.overlayDrawn n a pix h) :=
  ((Mapping.memUse s 2 0x22 _ (by decide)).trans (.dramPut _ a pix)).trans (.of_parts rfl rfl)

theorem State.dramPut_keeps (a : Nat) (bs : List Byte) : (s.dramPut a bs).tx = s.tx ∧ (s.dramPut a bs).regs = s.regs := by
  unfold State.dramPut
  split <;> exact ⟨rfl, rfl⟩

theorem State.overlayDrawn_keeps (n a : Nat) (pix : List Byte) (h : Handed) : (s.overlayDrawn n a pix h).tx = s.tx ∧ (s.overlayDrawn n a pix h).regs = s.regs := by
  obtain ⟨tx, regs⟩ := (s.memUse 2 0x22 pix.length).dramPut_keeps a pix
  exact ⟨tx.trans ((congrArg State.tx (s.memUse_mem 2 0x22 pix.length (by decide))).trans rfl), regs.trans (s.memUse_regs 2 0x22 pix.length (by decide))⟩

theorem State.overlay_mapping (m : DMap) : Mapping s (s.overlay m) := by
  obtain same | ⟨a, pix, h, drawn⟩ := s.overlay_cases m
  · rw [same]
    exact .refl s
  · rw [drawn]
    exact s.overlayDrawn_mapping _ _ _ _

theorem State.overlay_keeps (m : DMap) : (s.overlay m).tx = s.tx ∧ (s.overlay m).regs = s.regs := by
  obtain same | ⟨a, pix, h, drawn⟩ := s.overlay_cases m
  · rw [same]
    exact ⟨rfl, rfl⟩
  · rw [drawn]
    exact s.overlayDrawn_keeps _ _ _ _

/-- A map is no longer open. -/
def State.unmapped (m : DMap) : State := { s with vis := { s.vis with maps := s.vis.maps.filter (fun x => !(x.cam == m.cam && x.frame == m.frame)) } }

/-- A depth map that was placed counts in MAPS_SENT. -/
def State.mapSent (placed : Bool) : State := s.when placed (fun s => s.inc F.FUS.MAPS_SENT)

/-- The record of a map is offered to stream 3. -/
def State.mapPlaced (m : DMap) : Bool × State := s.camPlace 3 m.cam m.frame m.time (depthRecord m)

/-- What follows once a map is no longer open: the zones, its record and its overlay. -/
def State.mapLeaves (m : DMap) : State := (((s.zonesFall m).mapPlaced m).2.mapSent ((s.zonesFall m).mapPlaced m).1).overlay m

theorem State.closeMap_fresh (m : DMap) : s.closeMap m false = (s.unmapped m).mapLeaves m := rfl

theorem State.closeMap_stale (m : DMap) : s.closeMap m true = (((s.unmapped m).inc F.FUS.MAPS_STALE).raise EV_FUSION_STALE m.cam 0).mapLeaves m := rfl

theorem State.mapSent_mapping (placed : Bool) : Mapping s (s.mapSent placed) := .when _ (fun u => .set u _ _ (.inr (.inr rfl))) s

theorem State.mapPlaced_mapping (m : DMap) : Mapping s (s.mapPlaced m).2 := s.camPlace_mapping _ _ _ _ _

theorem State.mapLeaves_mapping (m : DMap) : Mapping s (s.mapLeaves m) :=
  (((s.zonesFall_mapping m).trans (State.mapPlaced_mapping _ m)).trans (State.mapSent_mapping _ _)).trans (State.overlay_mapping _ m)

/-! ### The record that leaves -/

theorem State.zonesFall_words (m : DMap) : BlockWords (fun a => a = 0x300300C) s (s.zonesFall m) := by
  rw [State.zonesFall_eq]
  refine .each _ _ (fun u z _ => ?_) s
  unfold State.zoneFall
  dsimp only
  exact (BlockWords.of_regs (t := u.zoneRun _ _) rfl).trans
    (BlockWords.when (own := fun a => a = 0x300300C) _ (fun v => .set v F.FUS.ZONE_ACT_ACT _ rfl) _)

theorem State.memUse_stream (cls src bytes k : Nat) (class_ : cls ≠ 5) : (s.memUse cls src bytes).stream k = s.stream k ∧ (s.memUse cls src bytes).camRun k = s.camRun k ∧
    (s.memUse cls src bytes).camRing k = s.camRing k := by
  rw [s.memUse_mem cls src bytes class_]
  exact ⟨rfl, rfl, rfl⟩

/-- A record for which the ring of stream `k` has room, with no run of drops before it. -/
theorem State.camPlace_room (k cam frame : Nat) (time : BitVec 64) (bytes : List Byte) (fresh : s.camRun k = none) (room : s.streamLevel k + bytes.length + 64 ≤ s.camRing k) :
    s.camPlace k cam frame time bytes = (true, (s.memUse 2 0x22 bytes.length).ringTakes k [bytes]) := by
  obtain ⟨stream, run, ring⟩ := s.memUse_stream 2 0x22 bytes.length k (by decide)
  have before : (s.memUse 2 0x22 bytes.length).runRecord k = [] := by rw [State.runRecord, run, fresh]
  have level : (s.memUse 2 0x22 bytes.length).streamLevel k = s.streamLevel k := by rw [State.streamLevel, stream]; rfl
  rw [State.camPlace, State.camPut_eq, before, level, ring, if_pos (by simpa using room)]
  rfl

theorem State.ringTakes_one (k : Nat) (u : List Byte) : ((s.ringTakes k [u]).stream k).units = (s.stream k).units ++ [u] ∧ (s.ringTakes k [u]).regs = s.regs :=
  ⟨s.stream_txPut k u, rfl⟩

theorem State.mapLeaves_sent (m : DMap) (fresh : s.camRun 3 = none) (room : s.streamLevel 3 + (depthRecord m).length + 64 ≤ s.camRing 3) :
    ((s.mapLeaves m).stream 3).units = (s.stream 3).units ++ [depthRecord m] ∧
      (s.mapLeaves m).get F.FUS.MAPS_SENT = min (s.get F.FUS.MAPS_SENT + 1) (2 ^ F.FUS.MAPS_SENT.wd - 1) := by
  obtain ⟨tx, runs⟩ := s.zonesFall_keeps m
  have words := s.zonesFall_words m
  have stream : (s.zonesFall m).stream 3 = s.stream 3 := by rw [State.stream, tx]; rfl
  have level : (s.zonesFall m).streamLevel 3 = s.streamLevel 3 := by rw [State.streamLevel, stream]; rfl
  have ring : (s.zonesFall m).camRing 3 = s.camRing 3 := words.get F.PIPE.S3_LEN (by decide) (by decide) (by decide)
  have run : (s.zonesFall m).camRun 3 = none := by rw [State.camRun, runs]; exact fresh
  have placed : (s.zonesFall m).mapPlaced m = (true, ((s.zonesFall m).memUse 2 0x22 (depthRecord m).length).ringTakes 3 [depthRecord m]) :=
    (s.zonesFall m).camPlace_room 3 _ _ _ _ run (by rw [level, ring]; exact room)
  obtain ⟨units, regs⟩ := ((s.zonesFall m).memUse 2 0x22 (depthRecord m).length).ringTakes_one 3 (depthRecord m)
  obtain ⟨same, -, -⟩ := (s.zonesFall m).memUse_stream 2 0x22 (depthRecord m).length 3 (by decide)
  rw [State.mapLeaves, placed]
  generalize ((s.zonesFall m).memUse 2 0x22 (depthRecord m).length).ringTakes 3 [depthRecord m] = x at *
  obtain ⟨drawnTx, drawnRegs⟩ := (x.mapSent true).overlay_keeps m
  refine ⟨?_, ?_⟩
  · rw [State.stream, drawnTx]
    exact units.trans (by rw [same, stream])
  · rw [State.get, State.rd_congr drawnRegs]
    refine State.get_inc_of_eq F.FUS.MAPS_SENT rfl ?_
    rw [State.get, State.rd_congr (regs.trans (State.memUse_regs _ _ _ _ (by decide)))]
    exact words.get F.FUS.MAPS_SENT (by decide) (by decide) (by decide)

/-- A map closed 50 ms after its window counts in MAPS_STALE. -/
theorem State.closeMap_counts (m : DMap) : (s.closeMap m true).get F.FUS.MAPS_STALE = min (s.get F.FUS.MAPS_STALE + 1) (2 ^ F.FUS.MAPS_STALE.wd - 1) := by
  have words : BlockWords MapWord ((s.unmapped m).inc F.FUS.MAPS_STALE) (s.closeMap m true) :=
    (BlockWords.raise _ EV_FUSION_STALE m.cam 0 (by decide)).trans (State.mapLeaves_mapping _ m).2
  rw [words.get F.FUS.MAPS_STALE (by decide) (by decide) (by unfold MapWord; decide)]
  exact State.get_inc _ F.FUS.MAPS_STALE rfl

theorem State.closeMap_maps (m : DMap) (stale : Bool) : (s.closeMap m stale).vis.maps = s.vis.maps.filter (fun q => !(q.cam == m.cam && q.frame == m.frame)) ∧
    (s.closeMap m stale).ps = s.ps := by
  cases stale
  · exact ⟨((s.unmapped m).mapLeaves_mapping m).maps, ((s.unmapped m).mapLeaves_mapping m).ps⟩
  · have steps : Mapping ((s.unmapped m).inc F.FUS.MAPS_STALE) (s.closeMap m true) := (Mapping.raise _ EV_FUSION_STALE m.cam 0 (by decide)).trans (State.mapLeaves_mapping _ m)
    exact ⟨steps.maps, steps.ps⟩

/-! ### A column -/

theorem State.fusionColumn_none (rest : s.nextFusion = none) : s.fusionColumn = s := by
  rw [State.fusionColumn, rest]

/-- The column `k` is used. -/
def State.columnUsed (k : ColInfo) : State := s.onCol k.c (fun k => { k with fused := true })

/-- The column `k` is kept for windows that reach back. -/
def State.columnKept (k : ColInfo) : State :=
  { s with vis := { s.vis with past := s.vis.past.filter (fun j => decide (k.time.toNat ≤ j.time.toNat + fusionPast)) ++ [k] } }

/-- The transfer of a column that enters some map. -/
def State.columnRead (k : ColInfo) : State := if (s.vis.maps.filter (fun m => s.enters m k)).length = 0 then s else s.memUse 2 0x23 64

theorem State.fusionColumn_on (k : ColInfo) (next : s.nextFusion = some k) (on : s.domOn 75 = true) :
    s.fusionColumn = (((s.columnUsed k).columnRead k).each ((s.columnUsed k).columnRead k).vis.maps (fun s m => s.meet k m)).columnKept k := by
  rw [State.fusionColumn, next]
  exact if_pos on

theorem State.columnRead_outside (k : ColInfo) (outside : ∀ m ∈ s.vis.maps, s.enters m k = false) : s.columnRead k = s := by
  have none : s.vis.maps.filter (fun m => s.enters m k) = [] := List.filter_eq_nil_iff.2 fun m mem => by rw [outside m mem]; decide
  rw [State.columnRead, none]
  rfl

theorem State.fusionColumn_idle (k : ColInfo) (next : s.nextFusion = some k) (on : s.domOn 75 = true) (idle : s.vis.maps = []) : s.fusionColumn = (s.columnUsed k).columnKept k := by
  have still : (s.columnUsed k).vis.maps = [] := idle
  rw [s.fusionColumn_on k next on, (s.columnUsed k).columnRead_outside k (by simp [still]), still]
  rfl

theorem State.fusionColumn_past (k : ColInfo) (m : DMap) (next : s.nextFusion = some k) (on : s.domOn 75 = true) (one : s.vis.maps = [m]) (after : s.centreAfter k m.stop = true) :
    s.fusionColumn = ((s.columnUsed k).closeMap m false).columnKept k := by
  have passed : (s.columnUsed k).centreAfter k m.stop = true := after
  have only : (s.columnUsed k).vis.maps = [m] := one
  have outside : (s.columnUsed k).enters m k = false := by rw [State.enters, passed]; rfl
  have met : (s.columnUsed k).meet k m = (s.columnUsed k).closeMap m false := if_pos passed
  rw [s.fusionColumn_on k next on, (s.columnUsed k).columnRead_outside k (by simp [only, outside]), only, ← met]
  rfl

theorem State.depthMapClose_past (n : Nat) (m : DMap) (k : ColInfo) (oldest : s.oldestMap n = some m) (next : s.nextFusion = some k) (on : s.domOn 75 = true)
    (after : s.centreAfter k m.stop = true) : s.depthMapClose n = s.closeMap m false := by
  rw [State.depthMapClose, oldest, next]
  dsimp only
  rw [on, after]
  rfl

theorem State.depthMapClose_not (n : Nat) (m : DMap) (k : ColInfo) (h : s.oldestMap n = none ∨ s.nextFusion = none ∨ s.domOn 75 = false ∨
    (s.nextFusion = some k ∧ s.oldestMap n = some m ∧ s.centreAfter k m.stop = false)) : s.depthMapClose n = s := by
  unfold State.depthMapClose
  split
  next x y oldest next =>
    refine if_neg fun closes => ?_
    obtain ⟨on, after⟩ := Bool.and_eq_true_iff.1 closes
    rcases h with h | h | h | ⟨column, map, before⟩
    · exact absurd (oldest.symm.trans h) (Option.some_ne_none _)
    · exact absurd (next.symm.trans h) (Option.some_ne_none _)
    · exact absurd (on.symm.trans h) (by decide)
    · obtain rfl := Option.some.inj (oldest.symm.trans map)
      obtain rfl := Option.some.inj (next.symm.trans column)
      exact absurd (after.symm.trans before) (by decide)
  · rfl

theorem State.depthMapStale_on (n : Nat) (m : DMap) (oldest : s.oldestMap n = some m) (on : s.domOn 75 = true) : s.depthMapStale n = s.closeMap m true := by
  rw [State.depthMapStale, oldest]
  exact if_pos on

theorem State.depthMapStale_not (n : Nat) (h : s.oldestMap n = none ∨ s.domOn 75 = false) : s.depthMapStale n = s := by
  unfold State.depthMapStale
  split
  next m oldest =>
    refine if_neg fun on => ?_
    rcases h with h | h
    · exact absurd (oldest.symm.trans h) (Option.some_ne_none _)
    · exact absurd (on.symm.trans h) (by decide)
  · rfl

/-- What the returns of a column leave of a map. -/
def DMap.sameFrame (m m' : DMap) : Prop := m'.cam = m.cam ∧ m'.frame = m.frame ∧ m'.incomplete = m.incomplete

theorem DMap.sameFrame_foldl {α : Type} (l : List α) (f : DMap → α → DMap) (step : ∀ (m : DMap) a, m.sameFrame (f m a)) (m : DMap) : m.sameFrame (l.foldl f m) := by
  induction l generalizing m with
  | nil => exact ⟨rfl, rfl, rfl⟩
  | cons a l ih =>
    obtain ⟨cam, frame, incomplete⟩ := step m a
    obtain ⟨cams, frames, incompletes⟩ := ih (f m a)
    exact ⟨cams.trans cam, frames.trans frame, incompletes.trans incomplete⟩

theorem State.mapReturn_sameFrame (m : DMap) (r a : Nat) (x : Ret) : m.sameFrame (s.mapReturn m r a x) := by
  unfold State.mapReturn
  dsimp only
  split <;> exact ⟨rfl, rfl, rfl⟩

/-- The returns of a column enter a map. -/
def State.columnReturns (m : DMap) (k : ColInfo) (a : Nat) : DMap :=
  (List.range 1024).foldl (fun m r => if (k.row r).code = 0 then ((k.row r).rets.filter (fun x => !x.foreign)).foldl (fun m x => s.mapReturn m r a x) m else m) m

theorem State.columnReturns_sameFrame (m : DMap) (k : ColInfo) (a : Nat) : m.sameFrame (s.columnReturns m k a) := by
  refine DMap.sameFrame_foldl _ _ (fun m r => ?_) m
  split
  · exact DMap.sameFrame_foldl _ _ (fun m x => s.mapReturn_sameFrame m r a x) m
  · exact ⟨rfl, rfl, rfl⟩

/-- A map with the returns of column `k` takes its times and its INCOMPLETE. -/
def DMap.joined (m : DMap) (k : ColInfo) : DMap :=
  { m with
    oldest := some (match m.oldest with
      | some t => if k.time.toNat < t.toNat then k.time else t
      | none => k.time)
    newest := if m.oldest.isNone || decide (m.newest.toNat ≤ k.time.toNat) then k.time else m.newest
    ptFrame := if m.oldest.isNone || decide (m.newest.toNat ≤ k.time.toNat) then k.frame else m.ptFrame
    incomplete := m.incomplete || k.incomplete }

theorem State.mapColumn_eq (m : DMap) (k : ColInfo) (a : Nat) (angle : k.angle = some a) : s.mapColumn m k = (s.columnReturns m k a).joined k := by
  rw [State.mapColumn, angle, State.columnReturns]
  generalize List.range 1024 = l
  rfl

theorem State.mapColumn_spec (m : DMap) (k : ColInfo) (a : Nat) (angle : k.angle = some a) : (s.mapColumn m k).incomplete = (m.incomplete || k.incomplete) ∧
    (s.mapColumn m k).oldest ≠ none ∧ (s.mapColumn m k).cam = m.cam ∧ (s.mapColumn m k).frame = m.frame := by
  have kept := s.columnReturns_sameFrame m k a
  rw [s.mapColumn_eq m k a angle]
  generalize s.columnReturns m k a = x at kept
  obtain ⟨cam, frame, incomplete⟩ := kept
  exact ⟨congrArg (fun b => b || k.incomplete) incomplete, Option.some_ne_none _, cam, frame⟩

/-! ### The FUS_CTRL write -/

/-- What FUS_CTRL would hold after the write, with the rest as it is. -/
def State.fusWritten (v : Word) : State := s.hostWrite F.FUS.FUS_CTRL_EN.addr v

/-- The written word asks for too many cells of a camera that runs. -/
def State.tooManyCells (v : Word) : Bool := (List.range 2).any (fun n => s.camRuns n && decide (65536 < (s.fusWritten v).cellCount n))

/-- Whether the write `v` of FUS_CTRL sets the EN bit of camera `n`. -/
def State.enRises (v : Word) (n : Nat) : Bool := (s.fusWritten v).bitAt F.FUS.FUS_CTRL_EN n && !s.bitAt F.FUS.FUS_CTRL_EN n

/-- The calibration of camera `n` is judged. -/
def State.calJudged (n : Nat) : State := s.setBitAt F.FUS.FUS_STAT_CAL_VALID n (s.calOk n)

theorem State.wrFusCtrl_many (v : Word) (many : s.tooManyCells v = true) : s.wrFusCtrl v = s.set F.FUS.FUS_STAT_CFG_ERR 1 := if_pos many

/-- Camera `n` at the write that leads to `t`: judged where its EN bit rises. -/
def State.fusJudged (t u : State) (n : Nat) : State := u.when (t.bitAt F.FUS.FUS_CTRL_EN n && !s.bitAt F.FUS.FUS_CTRL_EN n) (fun u => u.calJudged n)

theorem State.wrFusCtrl_each (v : Word) (few : s.tooManyCells v = false) : s.wrFusCtrl v = (s.fusWritten v).each (List.range 2) (s.fusJudged (s.fusWritten v)) :=
  if_neg fun many => Bool.false_ne_true (few.symm.trans many)

theorem State.fusJudged_two (t u : State) : u.each (List.range 2) (s.fusJudged t) = s.fusJudged t (s.fusJudged t u 0) 1 := rfl

theorem State.wrFusCtrl_few (v : Word) (few : s.tooManyCells v = false) : s.wrFusCtrl v =
    ((s.fusWritten v).when (s.enRises v 0) (fun u => u.calJudged 0)).when (s.enRises v 1) (fun u => u.calJudged 1) := by
  rw [s.wrFusCtrl_each v few, State.fusJudged_two]
  rfl

variable {s} in
theorem OnlyRegs.calOk {t : State} (stat : OnlyRegs s t [F.FUS.FUS_STAT_CAL_VALID.addr]) (n : Nat) (low : n < 2) : t.calOk n = s.calOk n := by
  have block : t.camBlock n = s.camBlock n := by
    have words : ∀ i ∈ List.range 16, beBytes 4 (t.get (F.CAM.CAM_BLOCK n i)) = beBytes 4 (s.get (F.CAM.CAM_BLOCK n i)) := fun i mem => by
      have few := List.mem_range.1 mem
      rw [stat.get _ (by simp only [F.CAM.CAM_BLOCK, F.FUS.FUS_STAT_CAL_VALID, List.mem_singleton]; omega)]
    rw [State.camBlock, State.camBlock]
    exact List.flatMap_congr words
  have values : ∀ i ∈ List.range 21, (t.getF ⟨(F.FUS.FX n).addr + 4 * i, 0, 32⟩).rat = (s.getF ⟨(F.FUS.FX n).addr + 4 * i, 0, 32⟩).rat := fun i mem => by
    rw [State.getF, State.getF, stat.get _ (by simp only [F.FUS.FX, F.FUS.FUS_STAT_CAL_VALID, List.mem_singleton]; omega)]
  unfold State.calOk
  rw [List.map_congr_left values, State.camW, State.camW, State.camH, State.camH, block]

theorem State.calJudged_regs (n : Nat) : OnlyRegs s (s.calJudged n) [F.FUS.FUS_STAT_CAL_VALID.addr] := .set s _ _ (List.mem_singleton.2 rfl)

theorem State.fusWritten_regs (v : Word) : OnlyRegs s (s.fusWritten v) [F.FUS.FUS_CTRL_EN.addr] := ⟨rfl, fun a other => s.rd_hostWrite_ne _ a v (by simpa using other)⟩

/-- Both cameras judged where their EN bits rise. -/
theorem State.judged_both (x : State) (r0 r1 : Bool) (n : Fin 2) :
    OnlyRegs x ((x.when r0 (fun u => u.calJudged 0)).when r1 (fun u => u.calJudged 1)) [F.FUS.FUS_STAT_CAL_VALID.addr] ∧
    ((x.when r0 (fun u => u.calJudged 0)).when r1 (fun u => u.calJudged 1)).bitAt F.FUS.FUS_STAT_CAL_VALID n =
      if (if n.val = 0 then r0 else r1) then x.calOk n else x.bitAt F.FUS.FUS_STAT_CAL_VALID n := by
  have first : OnlyRegs x (x.when r0 (fun u => u.calJudged 0)) [F.FUS.FUS_STAT_CAL_VALID.addr] := .when r0 (x.calJudged_regs 0)
  have own (y : State) (i : Nat) (b : Bool) : (y.setBitAt F.FUS.FUS_STAT_CAL_VALID i b).bitAt F.FUS.FUS_STAT_CAL_VALID n = if n.val = i then b else y.bitAt F.FUS.FUS_STAT_CAL_VALID n :=
    y.bitAt_setBitAt _ i n b rfl n.isLt
  refine ⟨first.trans (.when r1 (State.calJudged_regs _ 1)), ?_⟩
  have second (y : State) : (y.when r1 (fun u => u.calJudged 1)).bitAt F.FUS.FUS_STAT_CAL_VALID n = if n.val = 1 ∧ r1 = true then y.calOk 1 else y.bitAt F.FUS.FUS_STAT_CAL_VALID n := by
    cases r1
    · simp [State.when]
    · exact (own y 1 _).trans (by simp)
  have zeroth : (x.when r0 (fun u => u.calJudged 0)).bitAt F.FUS.FUS_STAT_CAL_VALID n = if n.val = 0 ∧ r0 = true then x.calOk 0 else x.bitAt F.FUS.FUS_STAT_CAL_VALID n := by
    cases r0
    · simp [State.when]
    · exact (own x 0 _).trans (by simp)
  rw [second, zeroth, first.calOk 1 (by decide)]
  match n with
  | 0 => simp
  | 1 => simp

end
/-! ### The statement -/

/-- The word of FUS_CTRL lies in one block. -/
theorem oneBlock_fusCtrl : oneBlock F.FUS.FUS_CTRL_EN.addr 1 = true := by decide

theorem State.wrVision_fusCtrl (u : State) (v : Word) : u.wrVision F.FUS.FUS_CTRL_EN.addr v = u.wrFusCtrl v := by
  rw [State.wrVision, if_neg (by decide), if_neg (by decide), if_pos (by decide), State.wrFusion, if_pos rfl]

theorem fusCtrl_writes (via : Port) (seq : BitVec 16) (v : BitVec 32) {h : State → Prop} {e : State → State → Prop} (effect : ∀ u, h u → e u (u.wrFusCtrl v)) :
    Writes (.fusCtrlWrite via seq v) F.FUS.FUS_CTRL_EN.addr 1 h e := by
  refine .of_word rfl (by decide) (by decide) oneBlock_fusCtrl (by decide) (fun u _ => u.writeRefused_other _ [_] (.inr (by decide))) (plainWord_of_range _ (by decide)) fun u noStep hu => ?_
  rw [u.hostStore_vision _ v noStep (by decide) (by decide)]
  rw [u.wrVision_fusCtrl v]
  exact effect u hu

/-- Settles O45. -/
theorem fusionMaps : Obligations.FusionMaps := by
  unfold Obligations.FusionMaps
  refine ⟨.of_effect (fun _ => rfl) fun s rest => s.fusionColumn_none rest, fun k => .of_effect (fun _ => rfl) fun s ⟨next, on, idle⟩ => ?idle,
    fun k m => .of_effect (fun _ => rfl) fun s ⟨next, on, one, after⟩ => ?past, fun n m k => .of_effect (fun _ => rfl) fun s ⟨oldest, next, on, after, fresh, room⟩ => ?closes,
    fun n m k => .of_effect (fun _ => rfl) fun s h => s.depthMapClose_not n m k h, fun n m => .of_effect (fun _ => rfl) fun s ⟨oldest, on⟩ => ?stale,
    fun n => .of_effect (fun _ => rfl) fun s h => s.depthMapStale_not n h, fun m k s ⟨a, angle⟩ => s.mapColumn_spec m k a angle,
    fun via seq v => ⟨fusCtrl_writes via seq v fun u many => ?many, fusCtrl_writes via seq v fun u few => ?few⟩⟩
  case idle =>
    rw [s.fusionColumn_idle k next on idle]
    exact ⟨rfl, rfl, rfl⟩
  case past =>
    rw [s.fusionColumn_past k m next on one after]
    obtain ⟨maps, ps⟩ := (s.columnUsed k).closeMap_maps m false
    have only : (s.columnUsed k).vis.maps = [m] := one
    exact ⟨maps.trans (by simp [only]), congrArg (fun p : PsSt => p.cols) ps⟩
  case closes =>
    rw [s.depthMapClose_past n m k oldest next on after]
    obtain ⟨units, sent⟩ := (s.unmapped m).mapLeaves_sent m fresh room
    exact ⟨(s.closeMap_maps m false).1, units, sent⟩
  case stale =>
    rw [s.depthMapStale_on n m oldest on]
    exact ⟨(s.closeMap_maps m true).1, s.closeMap_counts m⟩
  case many =>
    rw [u.wrFusCtrl_many v many]
    exact ⟨.set u _ _ (List.mem_singleton.2 rfl), State.get_set_same u F.FUS.FUS_STAT_CFG_ERR 1 rfl⟩
  case few =>
    have ctrl := u.fusWritten_regs v
    have stat (n : Fin 2) := (u.fusWritten v).judged_both (u.enRises v 0) (u.enRises v 1) n
    rw [u.wrFusCtrl_few v few]
    generalize ((u.fusWritten v).when (u.enRises v 0) (fun u => u.calJudged 0)).when (u.enRises v 1) (fun u => u.calJudged 1) = t at stat ⊢
    refine ⟨(ctrl.mono (by simp)).trans ((stat 0).1.mono (by simp)), (stat 0).1.2 _ (by decide), fun n => ?_⟩
    have written : t.bitAt F.FUS.FUS_CTRL_EN n = (u.fusWritten v).bitAt F.FUS.FUS_CTRL_EN n := by rw [State.bitAt, (stat 0).1.get F.FUS.FUS_CTRL_EN (by decide)]; rfl
    have before : (u.fusWritten v).bitAt F.FUS.FUS_STAT_CAL_VALID n = u.bitAt F.FUS.FUS_STAT_CAL_VALID n := by rw [State.bitAt, ctrl.get F.FUS.FUS_STAT_CAL_VALID (by decide)]; rfl
    have rises : (if n.val = 0 then u.enRises v 0 else u.enRises v 1) = u.enRises v n := by
      match n with
      | 0 => rfl
      | 1 => rfl
    rw [(stat n).2, rises, before, written]
    rfl

end Sys2Proof.Machine
end

section
/-! PROOFS. Thermal management (R387 to R391, R395, R396): a sensor's rank, the hubs, the governor and the shutdown. -/
namespace Sys2Proof.Machine

/-! ### A sensor's rank (R390, R391) -/

section
variable (s : State) (k : Nat) (t : Int) (faulted : Bool)

/-- Threshold `i` of sensor `k` counts. -/
def State.sensorOn (i : Nat) : Bool := i == 0 || (s.thresholds k).2

/-- Threshold `i` of sensor `k` in 1/16 °C. -/
def State.sensorLimit (i : Nat) : Int := 16 * ((s.thresholds k).1.getD i 0 : Int)

/-- The evaluations in a row above each threshold. -/
def State.sensorUp : List Nat :=
  (List.range 3).map (fun i => if s.sensorOn k i && decide (s.sensorLimit k i < if faulted then 2400 else t) then (s.sensor k).up.getD i 0 + 1 else 0)

/-- Since when each threshold has been left behind. -/
def State.sensorSince : List (Option Nat) :=
  (List.range 3).map (fun i => if !s.sensorOn k i || (!faulted && decide (t < s.sensorLimit k i - 16 * s.get F.TH.TH_TIME_HYST))
    then some (((s.sensor k).since.getD i none).getD s.time.dev.toNat) else none)

/-- The rank that the thresholds crossed give. -/
def State.sensorRisen : Nat :=
  if faulted then (if (s.thresholds k).2 then 3 else 1) else (List.range 3).foldl (fun r i => if 2 ≤ (s.sensorUp k t faulted).getD i 0 then i + 1 else r) 0

/-- The rank may fall. -/
def State.sensorReady : Bool :=
  match (s.sensorSince k t faulted).getD ((s.sensor k).rank - 1) none with
  | some t0 => decide (s.get F.TH.TH_TIME_FALL_T * 10 ^ 9 ≤ s.time.dev.toNat - t0)
  | none => false

/-- The rank after an evaluation. -/
def State.sensorRank : Nat :=
  if (s.sensor k).rank < s.sensorRisen k t faulted then s.sensorRisen k t faulted
  else if 0 < (s.sensor k).rank && s.sensorReady k t faulted then (s.sensor k).rank - 1 else (s.sensor k).rank

theorem State.sensorEval_eq : s.sensorEval k t faulted = { s with th := { s.th with
    sensors := spSet (fun _ => SensorSt.init) s.th.sensors k ⟨s.sensorRank k t faulted, s.sensorUp k t faulted, s.sensorSince k t faulted⟩ } } := rfl

theorem State.sensorEval_rank : ((s.sensorEval k t faulted).sensor k).rank = s.sensorRank k t faulted :=
  congrArg SensorSt.rank ((spGet_spSet _ _ _ _ _).trans (if_pos rfl))

theorem State.sensorUp_get (i : Nat) (low : i < 3) : (s.sensorUp k t false).getD i 0 =
    if s.sensorOn k i && decide (s.sensorLimit k i < t) then (s.sensor k).up.getD i 0 + 1 else 0 := by
  rw [State.sensorUp, List.getD_eq_getElem?_getD, List.getElem?_map, List.getElem?_range low]
  rfl

theorem State.sensorSince_get (i : Nat) (low : i < 3) : (s.sensorSince k t faulted).getD i none =
    if !s.sensorOn k i || (!faulted && decide (t < s.sensorLimit k i - 16 * s.get F.TH.TH_TIME_HYST)) then some (((s.sensor k).since.getD i none).getD s.time.dev.toNat) else none := by
  rw [State.sensorSince, List.getD_eq_getElem?_getD, List.getElem?_map, List.getElem?_range low]
  rfl

theorem State.sensorRisen_eq (sound : faulted = false) : s.sensorRisen k t faulted =
    if 2 ≤ (s.sensorUp k t faulted).getD 2 0 then 3 else if 2 ≤ (s.sensorUp k t faulted).getD 1 0 then 2 else if 2 ≤ (s.sensorUp k t faulted).getD 0 0 then 1 else 0 := by
  subst sound
  rfl

theorem State.sensorRisen_le : s.sensorRisen k t faulted ≤ 3 := by
  cases faulted
  · rw [s.sensorRisen_eq k t false rfl]
    split_ifs <;> omega
  · rw [State.sensorRisen, if_pos rfl]
    split <;> omega

/-- A threshold crossed long enough counts and lies below the temperature. -/
theorem State.sensorUp_crossed (i : Nat) (low : i < 3) (crossed : 2 ≤ (s.sensorUp k t false).getD i 0) : s.sensorOn k i = true ∧ s.sensorLimit k i < t := by
  rw [s.sensorUp_get k t i low] at crossed
  split at crossed
  next both =>
    obtain ⟨counts, above⟩ := Bool.and_eq_true_iff.1 both
    exact ⟨counts, of_decide_eq_true above⟩
  · omega

/-- The threshold that gives the rank has not been left behind. -/
theorem State.sensorRisen_stays (some_ : 0 < s.sensorRisen k t faulted) : (s.sensorSince k t faulted).getD (s.sensorRisen k t faulted - 1) none = none := by
  have most := s.sensorRisen_le k t faulted
  rw [s.sensorSince_get k t faulted _ (by omega)]
  cases faulted
  · have crossed : 2 ≤ (s.sensorUp k t false).getD (s.sensorRisen k t false - 1) 0 := by
      rw [s.sensorRisen_eq k t false rfl] at some_ ⊢
      split_ifs at some_ ⊢ with third second one
      · exact third
      · exact second
      · exact one
      · exact absurd some_ (by decide)
    obtain ⟨counts, above⟩ := s.sensorUp_crossed k t _ (by omega) crossed
    rw [counts]
    exact if_neg (by simp; omega)
  · have counts : s.sensorOn k (s.sensorRisen k t true - 1) = true := by
      rw [State.sensorRisen, if_pos rfl, State.sensorOn]
      cases (s.thresholds k).2 <;> rfl
    rw [counts]
    rfl

theorem State.sensorRisen_le_rank : s.sensorRisen k t faulted ≤ s.sensorRank k t faulted := by
  rw [State.sensorRank]
  split
  · exact le_rfl
  next reached =>
    split
    next falls =>
      obtain ⟨above, ready⟩ := Bool.and_eq_true_iff.1 falls
      have above := of_decide_eq_true above
      by_contra below
      have same : s.sensorRisen k t faulted = (s.sensor k).rank := by omega
      have stays := s.sensorRisen_stays k t faulted (by omega)
      rw [State.sensorReady, ← same, stays] at ready
      exact Bool.false_ne_true ready
    · omega

theorem State.sensorRank_falls : (s.sensor k).rank ≤ s.sensorRank k t faulted + 1 := by
  rw [State.sensorRank]
  split_ifs <;> omega

theorem State.sensorRank_rises (rises : (s.sensor k).rank < s.sensorRank k t faulted) : s.sensorRank k t faulted ≤ 3 := by
  have most := s.sensorRisen_le k t faulted
  rw [State.sensorRank] at rises ⊢
  split_ifs at rises ⊢ <;> omega

/-- R390, R391: a sensor's rank after an evaluation. -/
theorem State.sensorEval_spec : (∀ i < 3, (i = 0 ∨ (s.thresholds k).2 = true) → 16 * ((s.thresholds k).1.getD i 0 : Int) < t → 1 ≤ (s.sensor k).up.getD i 0 → i + 1 ≤ s.sensorRank k t false) ∧
    ((∀ i < 3, t ≤ 16 * ((s.thresholds k).1.getD i 0 : Int)) → s.sensorRank k t false ≤ (s.sensor k).rank) := by
  refine ⟨fun i low counts above once => le_trans ?_ (s.sensorRisen_le_rank k t false), fun cold => ?_⟩
  · have above : s.sensorLimit k i < t := above
    have on : s.sensorOn k i = true := by simpa [State.sensorOn] using counts
    have crossed : 2 ≤ (s.sensorUp k t false).getD i 0 := by
      rw [s.sensorUp_get k t i low, on, if_pos (Bool.and_eq_true_iff.2 ⟨rfl, decide_eq_true above⟩)]
      omega
    rw [s.sensorRisen_eq k t false rfl]
    obtain rfl | rfl | rfl : i = 0 ∨ i = 1 ∨ i = 2 := by omega
    all_goals split_ifs <;> omega
  · have none_ (i : Nat) (low : i < 3) : ¬ 2 ≤ (s.sensorUp k t false).getD i 0 := fun crossed =>
      absurd (s.sensorUp_crossed k t i low crossed).2 (by rw [State.sensorLimit]; have := cold i low; omega)
    have risen : s.sensorRisen k t false = 0 := by
      rw [s.sensorRisen_eq k t false rfl, if_neg (none_ 2 (by decide)), if_neg (none_ 1 (by decide)), if_neg (none_ 0 (by decide))]
    rw [State.sensorRank, risen]
    split_ifs <;> omega

/-! ### The hubs (R387, R388) -/

theorem le_foldl_max (a : Int) (l : List Int) : ∀ x ∈ a :: l, x ≤ l.foldl max a := by
  induction l generalizing a with
  | nil => exact fun x mem => le_of_eq (List.mem_singleton.1 mem)
  | cons b l ih =>
    intro x mem
    have first : max a b ≤ l.foldl max (max a b) := ih (max a b) _ List.mem_cons_self
    rw [List.foldl_cons]
    rcases List.mem_cons.1 mem with rfl | mem
    · exact (le_max_left _ _).trans first
    · rcases List.mem_cons.1 mem with rfl | mem
      · exact (le_max_right _ _).trans first
      · exact ih (max a b) x (List.mem_cons_of_mem _ mem)

/-- The hottest valid diode of a hub is at least every valid one. -/
theorem State.hubOf_max (codes : List Int) (h i : Fin 4) (v : Int) (hub : s.hubOf codes h = some v) (sound : s.bitAt F.TH.DIODE_FAULT (4 * h + i) = false) :
    codes.getD (4 * h + i) 0 ≤ v := by
  have mem : codes.getD (4 * h + i) 0 ∈ ((List.range 4).filter (fun i => !s.bitAt F.TH.DIODE_FAULT (4 * h.val + i))).map (fun i => codes.getD (4 * h.val + i) 0) :=
    List.mem_map.2 ⟨i, List.mem_filter.2 ⟨List.mem_range.2 i.isLt, by rw [sound]; rfl⟩, rfl⟩
  rw [State.hubOf] at hub
  generalize ((List.range 4).filter (fun i => !s.bitAt F.TH.DIODE_FAULT (4 * h.val + i))).map (fun i => codes.getD (4 * h.val + i) 0) = ts at mem hub
  match ts with
  | [] => cases hub
  | [_] => cases hub
  | a :: b :: l =>
    obtain rfl := Option.some.inj hub
    exact le_foldl_max a (b :: l) _ mem

theorem State.diodeFails_bit (d j : Nat) (low : j < 16) : (s.diodeFails d).bitAt F.TH.DIODE_FAULT j = if j = d then true else s.bitAt F.TH.DIODE_FAULT j := by
  unfold State.diodeFails
  split
  next was =>
    split
    next same => rw [same, was]
    · rfl
  · have told : ((s.setBitAt F.TH.DIODE_FAULT d true).raise EV_DIODE_FAULT d 0).get F.TH.DIODE_FAULT = (s.setBitAt F.TH.DIODE_FAULT d true).get F.TH.DIODE_FAULT :=
      (BlockWords.raise (own := fun _ => False) _ _ _ _ (by decide)).get _ (by decide) (by decide) id
    rw [State.bitAt, told]
    exact s.bitAt_setBitAt F.TH.DIODE_FAULT d j true rfl low

theorem State.diodeFails_words (d : Nat) : BlockWords (fun a => a = 0x6001064) s (s.diodeFails d) := by
  unfold State.diodeFails
  split
  · exact .refl s
  · exact (BlockWords.set (own := fun a => a = 0x6001064) s F.TH.DIODE_FAULT _ rfl).trans (.raise _ _ _ _ (by decide))

/-- Diode `d` lies off the median for the `n`th time. -/
def State.diodeOff (d n : Nat) : State := { s with th := { s.th with off := spSet (fun _ => 0) s.th.off d n } }

theorem State.diodeRead_eq (med2 : Int) (d : Nat) (t : Int) : ∃ n, s.diodeRead med2 d t = (if t < -960 ∨ 2880 < t ∨ 10 ≤ n then (s.diodeOff d (min n 10)).diodeFails d else s.diodeOff d (min n 10)) ∧
    ((2 * t - med2).natAbs ≤ 1280 → n = 0) :=
  ⟨_, rfl, fun near => if_neg (by omega)⟩

theorem State.diodeOff_bit (d n j : Nat) : (s.diodeOff d n).bitAt F.TH.DIODE_FAULT j = s.bitAt F.TH.DIODE_FAULT j := rfl

theorem State.diodeRead_words (med2 : Int) (d : Nat) (t : Int) : BlockWords (fun a => a = 0x6001064) s (s.diodeRead med2 d t) := by
  obtain ⟨n, eq, -⟩ := s.diodeRead_eq med2 d t
  rw [eq]
  split
  · exact (BlockWords.of_regs (t := s.diodeOff d (min n 10)) rfl).trans (State.diodeFails_words _ d)
  · exact .of_regs rfl

theorem State.diodeRead_other (med2 : Int) (d : Nat) (t : Int) (j : Nat) (low : j < 16) (other : j ≠ d) :
    (s.diodeRead med2 d t).bitAt F.TH.DIODE_FAULT j = s.bitAt F.TH.DIODE_FAULT j := by
  obtain ⟨n, eq, -⟩ := s.diodeRead_eq med2 d t
  rw [eq]
  split
  · rw [State.diodeFails_bit _ d j low, if_neg other, s.diodeOff_bit]
  · exact s.diodeOff_bit _ _ _

/-- What one reading makes of its diode's bit. -/
theorem State.diodeRead_own (med2 : Int) (d : Nat) (t : Int) (low : d < 16) : (s.bitAt F.TH.DIODE_FAULT d = true ∨ t < -960 ∨ 2880 < t → (s.diodeRead med2 d t).bitAt F.TH.DIODE_FAULT d = true) ∧
    (s.bitAt F.TH.DIODE_FAULT d = false → -960 ≤ t → t ≤ 2880 → (2 * t - med2).natAbs ≤ 1280 → (s.diodeRead med2 d t).bitAt F.TH.DIODE_FAULT d = false) := by
  obtain ⟨n, eq, near⟩ := s.diodeRead_eq med2 d t
  rw [eq]
  refine ⟨fun bad => ?_, fun sound least most close => ?_⟩
  · split
    · rw [State.diodeFails_bit _ d d low, if_pos rfl]
    next inside =>
      rcases bad with was | far
      · exact (s.diodeOff_bit _ _ _).trans was
      · exact absurd far (fun far => inside (far.elim .inl fun far => .inr (.inl far)))
  · have zero := near close
    rw [if_neg (by omega)]
    exact (s.diodeOff_bit _ _ _).trans sound

/-- All 16 diodes are read. -/
def State.diodesRead (codes : List Int) : State := s.each (List.range 16) (fun s d => s.diodeRead (median16 codes) d (codes.getD d 0))

theorem State.diodesRead_words (codes : List Int) : BlockWords (fun a => a = 0x6001064) s (s.diodesRead codes) := .each _ _ (fun u d _ => u.diodeRead_words _ d _) s

theorem State.diodesRead_bit (codes : List Int) (d : Fin 16) :
    (s.bitAt F.TH.DIODE_FAULT d = true ∨ codes.getD d 0 < -960 ∨ 2880 < codes.getD d 0 → (s.diodesRead codes).bitAt F.TH.DIODE_FAULT d = true) ∧
      (s.bitAt F.TH.DIODE_FAULT d = false → -960 ≤ codes.getD d 0 → codes.getD d 0 ≤ 2880 → (2 * codes.getD d 0 - median16 codes).natAbs ≤ 1280 →
        (s.diodesRead codes).bitAt F.TH.DIODE_FAULT d = false) := by
  obtain ⟨u, before, own⟩ := State.each_own (fun s => s.bitAt F.TH.DIODE_FAULT d) (List.range 16) List.nodup_range (fun s d => s.diodeRead (median16 codes) d (codes.getD d 0)) d.val
    (by simp) (fun u b other => u.diodeRead_other _ b _ d d.isLt other.symm) s
  rw [State.diodesRead, own, ← before]
  exact u.diodeRead_own _ d _ d.isLt

/-- FAULT_HUB for what the hubs gave. -/
def hubFaults (hubs : List (Option Int)) : Nat := (List.range 4).foldl (fun m h => m + bit (hubs.getD h none).isNone * 2 ^ h) 0

theorem hubFaults_bit (hubs : List (Option Int)) (h : Fin 4) : (hubFaults hubs % 2 ^ 4 / 2 ^ h.val % 2 == 1) = (hubs.getD h none).isNone := by
  have sum : hubFaults hubs = bit (hubs.getD 0 none).isNone * 1 + bit (hubs.getD 1 none).isNone * 2 + bit (hubs.getD 2 none).isNone * 4 + bit (hubs.getD 3 none).isNone * 8 := by
    simp [hubFaults, List.range, List.range.loop]
  rw [sum]
  have all : ∀ a b c d : Bool, ∀ h : Fin 4, ((bit a * 1 + bit b * 2 + bit c * 4 + bit d * 8) % 2 ^ 4 / 2 ^ h.val % 2 == 1) = [a, b, c, d].getD h.val false := by decide
  rw [all]
  match h with
  | 0 => rfl
  | 1 => rfl
  | 2 => rfl
  | 3 => rfl

/-- The hottest hub since the cold boot. -/
def State.hubTop (hubs : List (Option Int)) : Option Int := (hubs.filterMap id).foldl (fun (m : Option Int) t => some (max t (m.getD t))) s.th.jmax

/-- What the hubs gave is kept. -/
def State.hubsKept (hubs : List (Option Int)) (top : Option Int) : State := { s with th := { s.th with hubs := hubs, mean := hubsMean hubs, jmax := top } }

/-- JMAX shows the hottest hub. -/
def State.jmaxShown (top : Option Int) : State :=
  match top with
  | some t => s.setI F.TH.JMAX t
  | none => s

/-- The hubs' outcome is published. -/
def State.hubsShown (hubs : List (Option Int)) : State :=
  let t := s.set F.TH.TH_STAT_FAULT_HUB (hubFaults hubs)
  (t.hubsKept hubs (t.hubTop hubs)).jmaxShown (t.hubTop hubs)

theorem State.hubReading_on (codes : List Int) (on : s.domOn 65 = true) :
    s.hubReading codes = (s.diodesRead codes).hubsShown ((List.range 4).map ((s.diodesRead codes).hubOf codes)) := by
  unfold State.hubReading
  rw [on]
  rfl

theorem State.jmaxShown_th (top : Option Int) : (s.jmaxShown top).th = s.th := by cases top <;> rfl

theorem State.jmaxShown_words (top : Option Int) : BlockWords (fun a => a = 0x6001060) s (s.jmaxShown top) := by
  cases top
  · exact .refl s
  · exact .set s F.TH.JMAX _ rfl

theorem State.hubsShown_spec (hubs : List (Option Int)) : (s.hubsShown hubs).th.hubs = hubs ∧ (s.hubsShown hubs).th.mean = hubsMean hubs ∧
    (∀ h : Fin 4, (s.hubsShown hubs).bitAt F.TH.TH_STAT_FAULT_HUB h = (hubs.getD h none).isNone) ∧ (s.hubsShown hubs).get F.TH.TH_STAT_LEVEL = s.get F.TH.TH_STAT_LEVEL ∧
    (s.hubsShown hubs).get F.TH.DIODE_FAULT = s.get F.TH.DIODE_FAULT := by
  have words : BlockWords (fun a => a = 0x6001060) (s.set F.TH.TH_STAT_FAULT_HUB (hubFaults hubs)) (s.hubsShown hubs) := (BlockWords.of_regs rfl).trans (State.jmaxShown_words _ _)
  refine ⟨congrArg (fun t : ThSt => t.hubs) (State.jmaxShown_th _ _), congrArg (fun t : ThSt => t.mean) (State.jmaxShown_th _ _), fun h => ?_, ?_, ?_⟩
  · rw [State.bitAt, words.get F.TH.TH_STAT_FAULT_HUB (by decide) (by decide) (by decide), s.get_set_same F.TH.TH_STAT_FAULT_HUB _ rfl]
    exact hubFaults_bit hubs h
  · rw [words.get F.TH.TH_STAT_LEVEL (by decide) (by decide) (by decide)]
    exact s.get_set_bits _ _ _ rfl (by decide)
  · rw [words.get F.TH.DIODE_FAULT (by decide) (by decide) (by decide)]
    exact s.get_set_addr _ _ _ (by decide)

theorem State.hubOf_congr {u : State} (same : u.get F.TH.DIODE_FAULT = s.get F.TH.DIODE_FAULT) (codes : List Int) (h : Nat) : u.hubOf codes h = s.hubOf codes h := by
  simp only [State.hubOf, State.bitAt, same]

/-! ### The governor (R389 to R391) -/

/-- LEVEL, WARN and GOVERN for the highest rank and the sensor that has it. -/
def State.ranked (top gov : Nat) : State := ((s.set F.TH.TH_STAT_LEVEL (top - 1)).setFlag F.TH.TH_STAT_WARN (decide (0 < top))).set F.TH.GOVERN gov

/-- A warning begins. -/
def State.warns (top gov : Nat) : State := (s.inc F.TH.WARN_EPISODES).raise EV_THERMAL_WARNING gov (top - 1)

/-- The level rises. -/
def State.levelUp (top gov : Nat) : State := (s.inc F.TH.STEPS_UP).raise EV_THERMAL_THROTTLE gov (top - 1)

/-- The level falls. -/
def State.levelDown : State := s.inc F.TH.STEPS_DOWN

/-- What a change of the level counts and reports. -/
def State.levelTold (was top gov : Nat) : State := if was < top - 1 then s.levelUp top gov else s.when (decide (top - 1 < was)) State.levelDown

/-- The sensor that governs. -/
def State.governor : Nat := if s.topRank < 2 then 0xFF else ((List.range 8).find? (fun k => (s.sensor k).rank == s.topRank)).getD 0xFF

theorem State.govern_eq : s.govern = ((s.ranked s.topRank s.governor).when (decide (0 < s.topRank) && !s.flag F.TH.TH_STAT_WARN) (fun u => u.warns s.topRank s.governor)).levelTold
    (s.get F.TH.TH_STAT_LEVEL) s.topRank s.governor := rfl

/-- The counters of the governor. -/
def GovernCount (a : Nat) : Prop := a = 0x6001080 ∨ a = 0x6001084 ∨ a = 0x6001088

theorem State.warns_words (top gov : Nat) : BlockWords GovernCount s (s.warns top gov) := (BlockWords.set s F.TH.WARN_EPISODES _ (.inl rfl)).trans (.raise _ _ _ _ (by decide))

theorem State.levelTold_words (was top gov : Nat) : BlockWords GovernCount s (s.levelTold was top gov) := by
  unfold State.levelTold
  split
  · exact (BlockWords.set s F.TH.STEPS_UP _ (.inr (.inl rfl))).trans (.raise _ _ _ _ (by decide))
  · exact .when _ (fun u => .set u F.TH.STEPS_DOWN _ (.inr (.inr rfl))) s

theorem State.levelTold_told (was top gov : Nat) : Answering s (s.levelTold was top gov) := by
  unfold State.levelTold
  split
  · exact (Answering.inc s _).trans (.raise _ _ _ _)
  · exact .when _ (.inc _ _)

theorem State.warns_told (top gov : Nat) : Answering s (s.warns top gov) := (Answering.inc s F.TH.WARN_EPISODES).trans (.raise _ _ _ _)

theorem State.when_warns_told (c : Bool) (top gov : Nat) : Answering s (s.when c (fun u => u.warns top gov)) := by
  cases c
  · rfl
  · exact s.warns_told top gov

theorem State.ranked_told (top gov : Nat) : Answering s (s.ranked top gov) := ((Answering.set s _ _).trans (.set _ _ _)).trans (.set _ _ _)

theorem State.govern_told : Answering s s.govern := by
  rw [State.govern_eq]
  refine Answering.trans ?_ (State.levelTold_told _ _ _ _)
  exact (s.ranked_told _ _).trans (State.when_warns_told _ _ _ _)

theorem State.govern_words : BlockWords GovernCount (s.ranked s.topRank s.governor) s.govern := by
  rw [State.govern_eq]
  exact (BlockWords.when _ (fun u => u.warns_words _ _) _).trans (State.levelTold_words _ _ _ _)

theorem State.ranked_get (top gov : Nat) : (s.ranked top gov).get F.TH.TH_STAT_LEVEL = (top - 1) % 4 ∧ (s.ranked top gov).flag F.TH.TH_STAT_WARN = decide (0 < top) ∧
    (s.ranked top gov).get F.TH.GOVERN = gov % 256 := by
  refine ⟨?_, ?_, State.get_set_same _ F.TH.GOVERN _ rfl⟩
  · rw [State.ranked, State.get_set_addr _ _ _ _ (by decide), State.setFlag, State.get_set_bits _ _ _ _ rfl (by decide)]
    exact State.get_set_same _ F.TH.TH_STAT_LEVEL _ rfl
  · rw [State.ranked, State.flag, State.get_set_addr _ _ _ _ (by decide)]
    exact State.flag_setFlag_same _ _ _ rfl (by decide)

/-- R390: what the governor's registers show. -/
theorem State.govern_get : s.govern.get F.TH.TH_STAT_LEVEL = (s.topRank - 1) % 4 ∧ s.govern.flag F.TH.TH_STAT_WARN = decide (0 < s.topRank) ∧
    (s.topRank < 2 → s.govern.get F.TH.GOVERN = 0xFF) := by
  obtain ⟨level, warn, gov⟩ := s.ranked_get s.topRank s.governor
  have words := s.govern_words
  refine ⟨(words.get F.TH.TH_STAT_LEVEL (by decide) (by decide) (by unfold GovernCount; decide)).trans level,
    (words.flag F.TH.TH_STAT_WARN (by decide) (by decide) (by unfold GovernCount; decide)).trans warn, fun low => ?_⟩
  rw [words.get F.TH.GOVERN (by decide) (by decide) (by unfold GovernCount; decide), gov, State.governor, if_pos low]

theorem State.ranked_words (top gov : Nat) : BlockWords (fun a => a = 0x6001000 ∨ a = 0x6001004) s (s.ranked top gov) :=
  ((BlockWords.set s F.TH.TH_STAT_LEVEL _ (.inl rfl)).trans (.set _ F.TH.TH_STAT_WARN _ (.inl rfl))).trans (.set _ F.TH.GOVERN _ (.inr rfl))

theorem State.govern_counts (f : Fld) (low : 0x6001010 ≤ f.addr) (high : f.addr < 0x6001080 ∨ (0x600108C ≤ f.addr ∧ f.addr < 0x7000000)) : s.govern.get f = s.get f := by
  rw [s.govern_words.get f (by omega) (by omega) (by unfold GovernCount; omega), (s.ranked_words _ _).get f (by omega) (by omega) (by omega)]

/-! ### An evaluation (R390, R395) -/

/-- Another 10 ms of throttling. -/
def State.throttled : State := ({ s with th := { s.th with ms := s.th.ms + 10 } } : State).add F.TH.THROTTLE_MS 10

/-- The time spent throttling is counted. -/
def State.throttleCounted : State := s.when (decide (0 < s.get F.TH.TH_STAT_LEVEL)) State.throttled

/-- The hubs' ranks are evaluated. -/
def State.hubsEvaluated : State := s.each (List.range 4) (fun s h => s.sensorEval h ((s.th.hubs.getD h none).getD 2400) (s.th.hubs.getD h none).isNone)

/-- The hubs at SHUT are counted. -/
def State.shutCounted : State := s.each (List.range 4) State.shutCount

/-- The evaluation up to the judgement of the shutdown. -/
def State.evaluated : State := s.throttleCounted.hubsEvaluated.shutCounted.govern.thermalPublish

/-- A hub has lain at SHUT twice running. -/
def State.shuts : Bool := (List.range 4).any (fun h => spGet (fun _ => 0) s.th.shut h == 2) && !s.pw.latchFlag

theorem State.thermalEval_off (off : s.domOn 65 = false ∨ s.domOn 66 = false) : s.thermalRound = s := by
  have idle : s.thermalEval = (false, s) := if_neg fun both => by
    obtain ⟨first, second⟩ := Bool.and_eq_true_iff.1 both
    rcases off with off | off
    · exact Bool.false_ne_true (off.symm.trans first)
    · exact Bool.false_ne_true (off.symm.trans second)
  rw [State.thermalRound, idle]
  rfl

/-- The judgement of the shutdown. -/
def State.shutJudged : Bool × State :=
  if s.shuts then (true, s.raise EV_THERMAL_SHUTDOWN (s.get F.TH.GOVERN) (s.get F.TH.TH_STAT_LEVEL)) else (false, s)

theorem State.thermalEval_eq : s.thermalEval = if s.domOn 65 && s.domOn 66 then s.evaluated.shutJudged else (false, s) := by
  unfold State.thermalEval
  refine if_congr Iff.rfl ?_ rfl
  extract_lets _ _ u
  have same : u = s.evaluated := rfl
  rw [← same]
  clear_value u
  rfl

theorem State.thermalEval_on (on : s.domOn 65 = true) (mem : s.domOn 66 = true) : s.thermalEval = s.evaluated.shutJudged := by
  rw [State.thermalEval_eq, on, mem]
  exact if_pos (Bool.and_self true)

/-- The registers stay, and of the thermal unit's own state the hubs. -/
structure RanksOnly (s u : State) : Prop where
  parts : u = { s with th := u.th }
  hubs : u.th.hubs = s.th.hubs

theorem RanksOnly.trans {s t u : State} (first : RanksOnly s t) (second : RanksOnly t u) : RanksOnly s u :=
  have parts := congrArg (fun x : State => { x with th := u.th }) first.parts
  ⟨Eq.trans second.parts parts, second.hubs.trans first.hubs⟩

theorem RanksOnly.regs {s u : State} (h : RanksOnly s u) : u.regs = s.regs := (congrArg State.regs h.parts).trans rfl
theorem RanksOnly.pw {s u : State} (h : RanksOnly s u) : u.pw = s.pw := (congrArg State.pw h.parts).trans rfl
theorem RanksOnly.time {s u : State} (h : RanksOnly s u) : u.time = s.time := (congrArg State.time h.parts).trans rfl

theorem RanksOnly.each {α : Type} (l : List α) (f : State → α → State) (step : ∀ u a, RanksOnly u (f u a)) (s : State) : RanksOnly s (s.each l f) := by
  induction l generalizing s with
  | nil => exact ⟨rfl, rfl⟩
  | cons a l ih => exact (step s a).trans (ih _)

theorem State.hubsEvaluated_only : RanksOnly s s.hubsEvaluated :=
  .each (List.range 4) (fun s h => s.sensorEval h ((s.th.hubs.getD h none).getD 2400) (s.th.hubs.getD h none).isNone) (fun _ _ => ⟨rfl, rfl⟩) s

theorem State.shutCounted_only : RanksOnly s s.shutCounted := .each (List.range 4) State.shutCount (fun _ _ => ⟨rfl, rfl⟩) s

/-- Whether hub `h` lies at SHUT. -/
def State.hubShut (h : Nat) : Bool :=
  match s.th.hubs.getD h none with
  | some t => decide (16 * (s.get F.TH.TH_HUB_SHUT : Int) ≤ t)
  | none => false

theorem State.shutCounted_get (h : Nat) (low : h < 4) : spGet (fun _ => 0) s.shutCounted.th.shut h = if s.hubShut h then min 2 (spGet (fun _ => 0) s.th.shut h + 1) else 0 := by
  have at_ (u : State) (j k : Nat) : spGet (fun _ => 0) (u.shutCount j).th.shut k =
      if k = j then (if u.hubShut j then min 2 (spGet (fun _ => 0) u.th.shut j + 1) else 0) else spGet (fun _ => 0) u.th.shut k := spGet_spSet _ _ _ _ _
  obtain ⟨u, before, own⟩ := State.each_own (fun s => (s.hubShut h, spGet (fun _ => 0) s.th.shut h)) (List.range 4) List.nodup_range State.shutCount h (by simpa using low)
    (fun u b other => Prod.ext rfl ((at_ u b h).trans (if_neg other.symm))) s
  obtain ⟨hot, count⟩ := Prod.mk.inj before
  have after := (Prod.mk.inj own).2
  rw [State.shutCounted, after, at_, if_pos rfl, hot, count]

theorem State.thermalPublish_words : BlockWords (fun a => 0x6001040 ≤ a ∧ a < 0x6001060) s s.thermalPublish := by
  have put (u : State) (f : Fld) (x : Nat) (low : 0x6001040 ≤ f.addr) (high : f.addr < 0x6001060) := BlockWords.set (own := fun a => 0x6001040 ≤ a ∧ a < 0x6001060) u f x ⟨low, high⟩
  exact ((((((put s F.TH.HUB1_HUB0 _ (by decide) (by decide)).trans (put _ F.TH.HUB3_HUB2 _ (by decide) (by decide))).trans (put _ F.TH.NTC1_NTC0 _ (by decide) (by decide))).trans
    (put _ F.TH.NTC3_NTC2 _ (by decide) (by decide))).trans ((put _ F.TH.TIME_LO _ (by decide) (by decide)).trans (put _ F.TH.TIME_HI _ (by decide) (by decide))))).trans
    ((put _ ⟨F.TH.TH_RES_ST.addr, 31, 1⟩ _ (by decide) (by decide)).trans (put _ ⟨F.TH.TH_RES_ST.addr, 0, 16⟩ _ (by decide) (by decide)))

theorem State.throttled_words : BlockWords (fun a => a = 0x600108C) s s.throttled :=
  (BlockWords.of_regs (t := { s with th := { s.th with ms := s.th.ms + 10 } }) rfl).trans (BlockWords.set (own := fun a => a = 0x600108C) _ F.TH.THROTTLE_MS _ rfl)

theorem State.throttleCounted_words : BlockWords (fun a => a = 0x600108C) s s.throttleCounted := .when _ State.throttled_words s

theorem State.throttleCounted_ms : s.throttleCounted.get F.TH.THROTTLE_MS =
    if 0 < s.get F.TH.TH_STAT_LEVEL then min (s.get F.TH.THROTTLE_MS + 10) (2 ^ 32 - 1) else s.get F.TH.THROTTLE_MS := by
  unfold State.throttleCounted State.when
  simp only [decide_eq_true_eq]
  split
  · exact State.get_add_same _ F.TH.THROTTLE_MS 10 rfl
  · rfl

theorem State.throttleCounted_keeps : s.throttleCounted.pw = s.pw ∧ s.throttleCounted.th.hubs = s.th.hubs ∧ s.throttleCounted.th.shut = s.th.shut ∧ s.throttleCounted.time = s.time :=
  ⟨State.when_field State.pw _ State.throttled (fun _ => rfl) s, State.when_field (fun u => u.th.hubs) _ State.throttled (fun _ => rfl) s,
    State.when_field (fun u => u.th.shut) _ State.throttled (fun _ => rfl) s, State.when_field State.time _ State.throttled (fun _ => rfl) s⟩

/-- The state that the governor judges. -/
def State.judgedHubs : State := s.throttleCounted.hubsEvaluated.shutCounted

theorem State.judgedHubs_only : RanksOnly s.throttleCounted s.judgedHubs := (State.hubsEvaluated_only _).trans (State.shutCounted_only _)

theorem State.judgedHubs_keeps : s.judgedHubs.regs = s.throttleCounted.regs ∧ s.judgedHubs.pw = s.pw ∧ s.judgedHubs.th.hubs = s.th.hubs ∧ s.judgedHubs.time = s.time := by
  obtain ⟨pw, hubs, -, time⟩ := s.throttleCounted_keeps
  have only := s.judgedHubs_only
  exact ⟨only.regs, only.pw.trans pw, only.hubs.trans hubs, only.time.trans time⟩

theorem State.hubsEvaluated_shut : s.hubsEvaluated.th.shut = s.th.shut :=
  State.each_keeps (fun u => u.th.shut) (List.range 4) (fun s h => s.sensorEval h ((s.th.hubs.getD h none).getD 2400) (s.th.hubs.getD h none).isNone) (fun _ _ => rfl) s

theorem State.hubShut_congr {u : State} (hubs : u.th.hubs = s.th.hubs) (limit : u.get F.TH.TH_HUB_SHUT = s.get F.TH.TH_HUB_SHUT) (h : Nat) : u.hubShut h = s.hubShut h := by
  rw [State.hubShut, hubs, limit, State.hubShut]

/-- The count of hub `h` at SHUT after an evaluation. -/
theorem State.judgedHubs_shut (h : Nat) (low : h < 4) : spGet (fun _ => 0) s.judgedHubs.th.shut h = if s.hubShut h then min 2 (spGet (fun _ => 0) s.th.shut h + 1) else 0 := by
  obtain ⟨-, hubs, shut, -⟩ := s.throttleCounted_keeps
  have only := s.throttleCounted.hubsEvaluated_only
  have count : s.throttleCounted.hubsEvaluated.th.shut = s.th.shut := s.throttleCounted.hubsEvaluated_shut.trans shut
  have limit : s.throttleCounted.hubsEvaluated.get F.TH.TH_HUB_SHUT = s.get F.TH.TH_HUB_SHUT := by
    rw [State.get, State.rd_congr only.regs]
    exact s.throttleCounted_words.get F.TH.TH_HUB_SHUT (by decide) (by decide) (by decide)
  rw [State.judgedHubs, State.shutCounted_get _ h low, s.hubShut_congr (only.hubs.trans hubs) limit, count]

theorem State.evaluated_eq : s.evaluated = s.judgedHubs.govern.thermalPublish := rfl

theorem State.thermalPublish_th : s.thermalPublish.th = s.th ∧ s.thermalPublish.pw = s.pw := by
  unfold State.thermalPublish
  dsimp only
  simp only [State.publish, State.set64, State.set_th, State.set_pw, and_self]

theorem State.evaluated_keeps : s.evaluated.pw = s.pw ∧ s.evaluated.th = s.judgedHubs.th := by
  obtain ⟨th, pw⟩ := s.judgedHubs.govern.thermalPublish_th
  have told := s.judgedHubs.govern_told
  exact ⟨(pw.trans told.pw_eq).trans s.judgedHubs_keeps.2.1, th.trans ((congrArg State.th told).trans rfl)⟩

/-- The words of the hubs and the NTCs in the result group. -/
def State.tempsShown (hub10 hub32 ntc10 ntc32 : Nat) : State := ((s.set F.TH.HUB1_HUB0 hub10).set F.TH.HUB3_HUB2 hub32).set F.TH.NTC1_NTC0 ntc10 |>.set F.TH.NTC3_NTC2 ntc32

/-- The time in the result group, and its status word. -/
def State.thermalStamped (x : BitVec 64) : State := (s.set64 F.TH.TIME_LO F.TH.TIME_HI x).publish F.TH.TH_RES_ST

theorem State.thermalPublish_eq : s.thermalPublish = (s.tempsShown (unsigned 16 ((s.th.hubs.getD 1 none).getD 2400) * 65536 + unsigned 16 ((s.th.hubs.getD 0 none).getD 2400))
    (unsigned 16 ((s.th.hubs.getD 3 none).getD 2400) * 65536 + unsigned 16 ((s.th.hubs.getD 2 none).getD 2400))
    (unsigned 16 ((s.ntc 1).value.getD 0) * 65536 + unsigned 16 ((s.ntc 0).value.getD 0)) (unsigned 16 ((s.ntc 3).value.getD 0) * 65536 + unsigned 16 ((s.ntc 2).value.getD 0))).thermalStamped
      s.time.dev := rfl

theorem State.thermalStamped_get (x : BitVec 64) : (s.thermalStamped x).get F.TH.HUB1_HUB0 = s.get F.TH.HUB1_HUB0 ∧ (s.thermalStamped x).get F.TH.TIME_LO = x.toNat % 2 ^ 32 := by
  refine ⟨?_, ?_⟩
  · rw [State.thermalStamped, State.publish, State.get_set_addr _ _ _ _ (by decide), State.get_set_addr _ _ _ _ (by decide), State.set64, State.get_set_addr _ _ _ _ (by decide),
      State.get_set_addr _ _ _ _ (by decide)]
  · rw [State.thermalStamped, State.publish, State.get_set_addr _ _ _ _ (by decide), State.get_set_addr _ _ _ _ (by decide), State.set64, State.get_set_addr _ _ _ _ (by decide)]
    exact (State.get_set_same _ F.TH.TIME_LO _ rfl).trans (Nat.mod_mod _ _)

theorem State.tempsShown_get (hub10 hub32 ntc10 ntc32 : Nat) : (s.tempsShown hub10 hub32 ntc10 ntc32).get F.TH.HUB1_HUB0 = hub10 % 2 ^ 32 := by
  rw [State.tempsShown, State.get_set_addr _ _ _ _ (by decide), State.get_set_addr _ _ _ _ (by decide), State.get_set_addr _ _ _ _ (by decide)]
  exact State.get_set_same s F.TH.HUB1_HUB0 _ rfl

/-- The words of the hubs 0 and 1, and the low half of the time, in the result group. -/
theorem State.thermalPublish_shows : s.thermalPublish.get F.TH.HUB1_HUB0 % 65536 = unsigned 16 ((s.th.hubs.getD 0 none).getD 2400) ∧
    s.thermalPublish.get F.TH.TIME_LO = s.time.dev.toNat % 2 ^ 32 := by
  rw [s.thermalPublish_eq]
  obtain ⟨hubs, time⟩ := (s.tempsShown _ _ _ _).thermalStamped_get s.time.dev
  refine ⟨?_, time⟩
  rw [hubs, State.tempsShown_get]
  have low : unsigned 16 ((s.th.hubs.getD 0 none).getD 2400) < 65536 := by unfold unsigned; omega
  omega

/-- Where no hub lies at SHUT, an evaluation leads to no shutdown. -/
theorem State.thermalRound_cool (on : s.domOn 65 = true) (mem : s.domOn 66 = true) (cool : ∀ h : Fin 4, ∀ t, s.th.hubs.getD h none = some t → t < 16 * (s.get F.TH.TH_HUB_SHUT : Int)) :
    s.thermalRound = s.evaluated := by
  have cold (h : Nat) (low : h < 4) : s.hubShut h = false := by
    unfold State.hubShut
    split
    next t hub => exact decide_eq_false (by have := cool ⟨h, low⟩ t hub; omega)
    · rfl
  have idle : s.evaluated.shuts = false := by
    have none_ : (List.range 4).any (fun h => spGet (fun _ => 0) s.evaluated.th.shut h == 2) = false := by
      rw [List.any_eq_false, s.evaluated_keeps.2]
      intro h mem
      rw [s.judgedHubs_shut h (List.mem_range.1 mem), cold h (List.mem_range.1 mem)]
      simp
    rw [State.shuts, none_]
    rfl
  rw [State.thermalRound, s.thermalEval_on on mem, State.shutJudged, idle]
  rfl

/-- R390: what an evaluation shows. -/
theorem State.evaluated_spec : s.evaluated.pw = s.pw ∧ s.evaluated.get F.TH.TH_STAT_LEVEL = (s.evaluated.topRank - 1) % 4 ∧
    s.evaluated.flag F.TH.TH_STAT_WARN = decide (0 < s.evaluated.topRank) ∧ (s.evaluated.topRank < 2 → s.evaluated.get F.TH.GOVERN = 0xFF) ∧
    s.evaluated.get F.TH.HUB1_HUB0 % 65536 = unsigned 16 ((s.th.hubs.getD 0 none).getD 2400) ∧ s.evaluated.get F.TH.TIME_LO = s.time.dev.toNat % 2 ^ 32 ∧
    s.evaluated.get F.TH.THROTTLE_MS = (if 0 < s.get F.TH.TH_STAT_LEVEL then min (s.get F.TH.THROTTLE_MS + 10) (2 ^ 32 - 1) else s.get F.TH.THROTTLE_MS) := by
  obtain ⟨regs, -, hubs, time⟩ := s.judgedHubs_keeps
  obtain ⟨pw, th⟩ := s.evaluated_keeps
  have told := s.judgedHubs.govern_told
  have words := s.judgedHubs.govern.thermalPublish_words
  obtain ⟨level, warn, gov⟩ := s.judgedHubs.govern_get
  obtain ⟨hub, stamp⟩ := s.judgedHubs.govern.thermalPublish_shows
  have top : s.evaluated.topRank = s.judgedHubs.topRank := by simp only [State.topRank, State.sensor, th]
  have sameHubs : s.judgedHubs.govern.th.hubs = s.th.hubs := (congrArg (fun t : ThSt => t.hubs) ((congrArg State.th told).trans rfl)).trans hubs
  refine ⟨pw, ?_, ?_, fun low => ?_, ?_, ?_, ?_⟩
  · rw [top, ← level]
    exact words.get F.TH.TH_STAT_LEVEL (by decide) (by decide) (by decide)
  · rw [top, ← warn]
    exact words.flag F.TH.TH_STAT_WARN (by decide) (by decide) (by decide)
  · exact (words.get F.TH.GOVERN (by decide) (by decide) (by decide)).trans (gov (top ▸ low))
  · rw [s.evaluated_eq, hub, sameHubs]
  · rw [s.evaluated_eq, stamp, told.time_eq, time]
  · rw [← s.throttleCounted_ms]
    exact ((words.get F.TH.THROTTLE_MS (by decide) (by decide) (by decide)).trans (s.judgedHubs.govern_counts F.TH.THROTTLE_MS (by decide) (by decide))).trans
      (by rw [State.get, State.rd_congr regs]; rfl)

/-! ### The shutdown (R395, R396) -/

/-- What goes off with the entry to THERMAL_LATCH. -/
def State.latchDark : State := (s.auxSafe.illDarkAll.inhibitOn (2 ^ 8)).each switchedDomains State.domainOff

theorem Holding.illDarkAll : Holding s s.illDarkAll := .each _ _ (fun u n => (Holding.setIll u n _).trans (.set _ _ _)) s

theorem switchedDomains_other : ∀ p ∈ switchedDomains, p ≠ 64 ∧ p ≠ 66 := by decide

theorem State.latchDark_pw : ∃ r, s.latchDark.pw = { s.pw with reload := r } := by
  obtain ⟨r, off⟩ := (s.auxSafe.illDarkAll.inhibitOn (2 ^ 8)).each_domainOff_pw switchedDomains switchedDomains_other
  have dark := ((Holding.auxSafe s).trans (.illDarkAll _)).trans (.inhibitOn _ (2 ^ 8))
  exact ⟨r, off.trans (by rw [dark.pw])⟩

/-- The latch flag stands. -/
def State.latchFlagged : State := { s with pw := { s.pw with latchFlag := true, rebootPend := false } }

/-- The entry to THERMAL_LATCH up to its own part. -/
def State.latchBegins (cause : Nat) : State :=
  ((((s.changed .thermalLatch cause).abandonScan.raise EV_STATE_CHANGE 0 (256 * cause + stateCodeOf .thermalLatch)).endCommands .thermalLatch).when (s.pw.st == .safeHold && PowerState.thermalLatch != .safeHold) State.safeRelease)

theorem State.enterState_latch (cause : Nat) : s.enterState .thermalLatch cause = (s.latchBegins cause).latchFlagged.latchDark := by
  unfold State.enterState State.latchBegins
  rfl

theorem State.latchBegins_pw (cause : Nat) : (s.latchBegins cause).pw = (s.changed .thermalLatch cause).pw := by
  have tail (u : State) : Holding u (((u.raise EV_STATE_CHANGE 0 (256 * cause + stateCodeOf .thermalLatch)).endCommands .thermalLatch).when
      (s.pw.st == .safeHold && PowerState.thermalLatch != .safeHold) State.safeRelease) :=
    ((Holding.raise _ _ _ _).trans (.endCommands _ _)).trans (.when _ Holding.safeRelease _)
  exact (tail _).pw.trans (s.changed .thermalLatch cause).abandonScan_kept.1

theorem State.enterState_latch_pw (cause : Nat) : (s.enterState .thermalLatch cause).pw.st = .thermalLatch ∧ (s.enterState .thermalLatch cause).pw.latchFlag = true ∧
    (s.enterState .thermalLatch cause).pw.cause = BitVec.ofNat 8 cause := by
  obtain ⟨r, dark⟩ := (s.latchBegins cause).latchFlagged.latchDark_pw
  have before := s.latchBegins_pw cause
  rw [s.enterState_latch, dark]
  exact ⟨congrArg PowerSt.st before, rfl, congrArg PowerSt.cause before⟩

/-- A hub at SHUT in two evaluations running ends in THERMAL_LATCH. -/
theorem State.thermalRound_hot (h : Fin 4) (v : Int) (on : s.domOn 65 = true) (mem : s.domOn 66 = true) (clear : s.pw.latchFlag = false) (awake : s.pw.st ≠ .thermalLatch)
    (hub : s.th.hubs.getD h none = some v) (hot : 16 * (s.get F.TH.TH_HUB_SHUT : Int) ≤ v) (once : 1 ≤ spGet (fun _ => 0) s.th.shut h) :
    ∃ x : State, s.thermalRound = x.enterState .thermalLatch 6 := by
  obtain ⟨pw, th⟩ := s.evaluated_keeps
  have shut : s.hubShut h = true := by
    rw [State.hubShut, hub]
    exact decide_eq_true hot
  have twice : spGet (fun _ => 0) s.evaluated.th.shut h = 2 := by
    rw [th, s.judgedHubs_shut h h.isLt, shut, if_pos rfl]
    omega
  have some_ : (List.range 4).any (fun h => spGet (fun _ => 0) s.evaluated.th.shut h == 2) = true := List.any_eq_true.2 ⟨h.val, List.mem_range.2 h.isLt, beq_iff_eq.2 twice⟩
  have shuts : s.evaluated.shuts = true := by
    rw [State.shuts, pw, clear, some_]
    rfl
  refine ⟨s.evaluated.raise EV_THERMAL_SHUTDOWN (s.evaluated.get F.TH.GOVERN) (s.evaluated.get F.TH.TH_STAT_LEVEL), ?_⟩
  rw [State.thermalRound, s.thermalEval_on on mem, State.shutJudged, shuts]
  exact if_pos (by simpa using awake)

theorem State.analogueTrip_rests (h : s.pw.st = .off ∨ s.pw.st = .thermalLatch) : s.analogueTrip = s := by
  rcases h with h | h <;> rw [State.analogueTrip, h]

theorem State.analogueTrip_awake (h : s.pw.st = .ready ∨ s.pw.st = .scanning ∨ s.pw.st = .safeHold) (firmware : s.pw.romOnly = false) : s.analogueTrip = s.enterState .thermalLatch 7 := by
  rcases h with h | h | h
  all_goals
    rw [State.analogueTrip, h, firmware]
    rfl

theorem State.analogueTrip_rom (h : s.pw.st = .booting ∨ s.pw.st = .dormant ∨ s.pw.st = .dormantEntry) : ∃ x : State, s.analogueTrip = x.romState .thermalLatch 7 .failed := by
  rcases h with h | h | h
  all_goals
    rw [State.analogueTrip, h]
    exact ⟨_, rfl⟩

end

/-! ### The threshold writes (R389) -/

theorem fieldsAt_hubLimits : fieldsAt 0x6001010 = [⟨24, 8, .rw, 0x6e, 0, 0, []⟩, ⟨16, 8, .rw, 0x76, 0, 0, []⟩, ⟨8, 8, .rw, 0x7b, 0, 0, []⟩, ⟨0, 8, .rw, 0x82, 0, 0, []⟩] := by decide +kernel

theorem fieldsAt_ntcLimits : ∀ i : Fin 4, fieldsAt (0x6001020 + 4 * i.val) = [⟨24, 1, .rw, 1, 0, 0, []⟩, ⟨16, 8, .rw, 0, 0, 0, []⟩, ⟨8, 8, .rw, 0x69, 0, 0, []⟩, ⟨0, 8, .rw, 0x6e, 0, 0, []⟩] := by
  decide +kernel

theorem oneBlock_limits : oneBlock 0x6001010 1 = true ∧ ∀ i : Fin 4, oneBlock (0x6001020 + 4 * i.val) 1 = true := by decide +kernel

theorem State.hostWrite_regs (u : State) (a : Nat) (v : Word) : OnlyRegs u (u.hostWrite a v) [a] := ⟨rfl, fun b other => u.rd_hostWrite_ne a b v (by simpa using other)⟩

section
variable (u : State) (v : Word)

/-- A field of a written word whose fields take any value. -/
theorem State.get_hostWrite_free (a : Nat) (before after : List RegFld) (lo wd rst : Nat) (fields : fieldsAt a = before ++ ⟨lo, wd, .rw, rst, 0, 0, []⟩ :: after)
    (apart : ∀ f ∈ after, f.lo + f.wd ≤ lo ∨ lo + wd ≤ f.lo) (fits : lo + wd ≤ 32) : (u.hostWrite a v).get ⟨a, lo, wd⟩ = bitsOf v.toNat lo wd :=
  (u.get_hostWrite a v before after ⟨lo, wd, .rw, rst, 0, 0, []⟩ fields apart fits).trans (Nat.mod_mod _ _)

/-- The word of the hubs' thresholds takes what is written. -/
theorem State.hostWrite_hubLimits : (u.hostWrite 0x6001010 v).rd 0x6001010 = v := by
  have fourth := u.get_hostWrite_free v 0x6001010 [] _ 24 8 0x6e fieldsAt_hubLimits (by decide) (by decide)
  have third := u.get_hostWrite_free v 0x6001010 [⟨24, 8, .rw, 0x6e, 0, 0, []⟩] _ 16 8 0x76 fieldsAt_hubLimits (by decide) (by decide)
  have second := u.get_hostWrite_free v 0x6001010 [⟨24, 8, .rw, 0x6e, 0, 0, []⟩, ⟨16, 8, .rw, 0x76, 0, 0, []⟩] _ 8 8 0x7b fieldsAt_hubLimits (by decide) (by decide)
  have first := u.get_hostWrite_free v 0x6001010 [⟨24, 8, .rw, 0x6e, 0, 0, []⟩, ⟨16, 8, .rw, 0x76, 0, 0, []⟩, ⟨8, 8, .rw, 0x7b, 0, 0, []⟩] _ 0 8 0x82 fieldsAt_hubLimits
    (by decide) (by decide)
  simp only [State.get, bitsOf] at fourth third second first
  have old := ((u.hostWrite 0x6001010 v).rd 0x6001010).isLt
  have new := v.isLt
  refine BitVec.eq_of_toNat_eq ?_
  omega

/-- Thresholds in their order. -/
def risingLimits : Prop := bitsOf v.toNat 24 8 < bitsOf v.toNat 16 8 ∧ bitsOf v.toNat 16 8 < bitsOf v.toNat 8 8 ∧ bitsOf v.toNat 8 8 < bitsOf v.toNat 0 8 ∧ bitsOf v.toNat 0 8 ≤ 135

theorem State.wrThermal_hub (a : Nat) (hub : a = F.TH.TH_HUB_WARN.addr) : (risingLimits v → u.wrThermal a v = u.hostWrite a v) ∧ (¬ risingLimits v → u.wrThermal a v = u.set F.TH.TH_STAT_CFG_ERR 1) := by
  rw [State.wrThermal, if_pos hub]
  exact ⟨fun rising => if_pos rising, fun falls => if_neg falls⟩

theorem State.wrThermal_ntc (a : Nat) (i : Fin 4) (ntc : a = (F.TH.TH_NTC_WARN i).addr) : u.wrThermal a v =
    if bitsOf v.toNat 24 1 = 0 ∨ (bitsOf v.toNat 16 8 < bitsOf v.toNat 8 8 ∧ bitsOf v.toNat 8 8 < bitsOf v.toNat 0 8) then u.hostWrite a v else u.set F.TH.TH_STAT_CFG_ERR 1 := by
  have other : a ≠ F.TH.TH_HUB_WARN.addr := by rw [ntc]; simp only [F.TH.TH_NTC_WARN, F.TH.TH_HUB_WARN]; omega
  have one : (List.range 4).any (fun i => a == (F.TH.TH_NTC_WARN i).addr) = true := List.any_eq_true.2 ⟨i.val, List.mem_range.2 i.isLt, beq_iff_eq.2 ntc⟩
  rw [State.wrThermal, if_neg other, if_pos one]

end

/-- A write of a threshold word. -/
theorem threshold_writes (via : Port) (seq : BitVec 16) (a v : Word) (hub : a.toNat = 0x6001010 ∨ ∃ i : Fin 4, a.toNat = 0x6001020 + 4 * i.val) {h : State → Prop} {e : State → State → Prop}
    (effect : ∀ u, h u → e u (u.wrThermal a.toNat v)) : Writes (.thermalThresholdWrite via seq a v) a.toNat 1 h e := by
  have place : 0x6001010 ≤ a.toNat ∧ a.toNat < 0x6001030 ∧ a.toNat % 4 = 0 := by
    rcases hub with hub | ⟨i, hub⟩
    · rw [hub]; decide
    · have := i.isLt; omega
  have one : oneBlock a.toNat 1 = true := by
    rcases hub with hub | ⟨i, hub⟩
    · rw [hub]; exact oneBlock_limits.1
    · rw [hub]; exact oneBlock_limits.2 i
  obtain ⟨low, high, aligned⟩ := place
  refine .of_word rfl a.isLt aligned one (by simpa [wordAddrs] using unlocked_of_range a.toNat 1 ⟨by omega, by omega⟩) (fun u _ => u.writeRefused_other _ [_] (.inr (by omega)))
    (plainWord_of_range _ (by omega)) fun u noStep hu => ?_
  rw [u.hostStore_hk _ v noStep (by omega) (by omega), State.wrHk, if_neg (by omega), if_neg (by simp only [F.HK.WM_CTRL_SRC]; omega), if_pos (by omega)]
  exact effect u hu

theorem bitsOf_one_iff (x k : Nat) : bitsOf x k 1 = bit (x.testBit k) := by
  have low := bitsOf_one_eq x k
  have two : bitsOf x k 1 < 2 := Nat.mod_lt _ (by decide)
  cases h : x.testBit k
  · rw [h, beq_eq_false_iff_ne] at low
    show bitsOf x k 1 = 0
    omega
  · rw [h, beq_iff_eq] at low
    exact low

/-- What a write of the NTCs' thresholds leaves. -/
theorem State.hostWrite_ntcLimits (u : State) (v : Word) (i : Fin 4) (a : Nat) (ntc : a = (F.TH.TH_NTC_WARN i).addr) :
    (u.hostWrite a v).get (F.TH.TH_NTC_THR1 i) = bitsOf v.toNat 8 8 ∧ (u.hostWrite a v).flag (F.TH.TH_NTC_THR_EN i) = v.toNat.testBit 24 := by
  obtain rfl : a = 0x6001020 + 4 * i.val := ntc
  have fields := fieldsAt_ntcLimits i
  have thr := u.get_hostWrite_free v (0x6001020 + 4 * i.val) [⟨24, 1, .rw, 1, 0, 0, []⟩, ⟨16, 8, .rw, 0, 0, 0, []⟩] _ 8 8 0x69 fields (by decide) (by decide)
  have en := u.get_hostWrite_free v (0x6001020 + 4 * i.val) [] _ 24 1 1 fields (by decide) (by decide)
  refine ⟨thr, ?_⟩
  show ((u.hostWrite (0x6001020 + 4 * i.val) v).get ⟨0x6001020 + 4 * i.val, 24, 1⟩ == 1) = _
  rw [en, bitsOf_one_eq]

/-! ### The statement -/

/-- Settles O55. -/
theorem thermal : Obligations.Thermal := by
  unfold Obligations.Thermal
  refine ⟨fun codes => .of_effect (fun _ => rfl) fun s off => ?off, fun codes len => .of_effect (fun _ => rfl) fun s on => ⟨s.hubReading codes, rfl, ?hubs⟩,
    fun s codes h i v hub sound => s.hubOf_max codes h i v hub sound, fun s k t => ?rank, .of_effect (fun _ => rfl) fun s off => s.thermalEval_off off,
    .of_effect (fun _ => rfl) fun s ⟨on, mem, cool⟩ => ?cool, fun h v => .of_effect (fun _ => rfl) fun s ⟨on, mem, clear, awake, hub, hot, once⟩ => ?hot,
    .of_effect (fun _ => rfl) fun s h => s.analogueTrip_rests h, .of_effect (fun _ => rfl) fun s ⟨h, firmware⟩ => ?awake, .of_effect (fun _ => rfl) fun s h => ?rom,
    fun via seq a v => ⟨fun hub first second third most => ?limits, fun hub broken => ?noLimits, fun i ntc => ⟨fun rising => ?ntc, fun counts broken => ?noNtc⟩⟩⟩
  case off => rw [State.hubReading, off]; rfl
  case hubs =>
    obtain ⟨hubs, mean, faults, level, diodes⟩ := (s.diodesRead codes).hubsShown_spec ((List.range 4).map ((s.diodesRead codes).hubOf codes))
    rw [s.hubReading_on codes on]
    have same (h : Nat) : ((s.diodesRead codes).hubsShown ((List.range 4).map ((s.diodesRead codes).hubOf codes))).hubOf codes h = (s.diodesRead codes).hubOf codes h :=
      State.hubOf_congr _ diodes codes h
    refine ⟨?_, by rw [mean, hubs], fun h => ?_, level.trans ((s.diodesRead_words codes).get F.TH.TH_STAT_LEVEL (by decide) (by decide) (by decide)), fun d => ?_⟩
    · rw [hubs]
      exact List.map_congr_left fun h _ => (same h).symm
    · rw [faults, same, List.getD_eq_getElem?_getD, List.getElem?_map, List.getElem?_range h.isLt]
      rfl
    · have bits : ((s.diodesRead codes).hubsShown ((List.range 4).map ((s.diodesRead codes).hubOf codes))).bitAt F.TH.DIODE_FAULT d = (s.diodesRead codes).bitAt F.TH.DIODE_FAULT d := by
        rw [State.bitAt, diodes]
        rfl
      rw [bits]
      exact s.diodesRead_bit codes d
  case rank =>
    obtain ⟨rises, cold⟩ := s.sensorEval_spec k t
    dsimp only
    rw [s.sensorEval_rank, s.sensorEval_rank]
    exact ⟨rises, s.sensorRank_falls k t false, s.sensorRank_rises k t false, cold, s.sensorRisen_le_rank k t true⟩
  case cool =>
    rw [s.thermalRound_cool on mem cool]
    exact s.evaluated_spec
  case hot =>
    obtain ⟨x, latch⟩ := s.thermalRound_hot h v on mem clear awake hub hot once
    rw [latch]
    exact ⟨x, rfl, x.enterState_latch_pw 6⟩
  case awake =>
    rw [s.analogueTrip_awake h firmware]
    exact ⟨rfl, s.enterState_latch_pw 7⟩
  case rom =>
    obtain ⟨x, latch⟩ := s.analogueTrip_rom h
    rw [latch, x.romState_pw]
    exact ⟨rfl, rfl, rfl⟩
  case limits =>
    refine threshold_writes via seq a v (.inl hub) fun u _ => ?_
    rw [(u.wrThermal_hub v _ hub).1 ⟨first, second, third, most⟩]
    refine ⟨u.hostWrite_regs _ v, ?_⟩
    rw [hub]
    exact u.hostWrite_hubLimits v
  case noLimits =>
    refine threshold_writes via seq a v (.inl hub) fun u _ => (u.wrThermal_hub v _ hub).2 ?_
    rintro ⟨first, second, third, most⟩
    dsimp only at broken
    omega
  case ntc =>
    refine threshold_writes via seq a v (.inr ⟨i, ntc⟩) fun u _ => ?_
    rw [u.wrThermal_ntc v _ i ntc, if_pos (by rw [bitsOf_one_iff]; exact rising.imp (fun off => by rw [off]; rfl) id)]
    exact ⟨u.hostWrite_regs _ v, u.hostWrite_ntcLimits v i _ ntc⟩
  case noNtc =>
    refine threshold_writes via seq a v (.inr ⟨i, ntc⟩) fun u _ => ?_
    rw [u.wrThermal_ntc v _ i ntc, if_neg]
    rw [bitsOf_one_iff, counts]
    rintro (off | ⟨first, second⟩)
    · exact absurd off (by decide)
    · dsimp only at broken
      omega

end Sys2Proof.Machine
end

section
/-! PROOFS. Device time and its discipline (R313 to R318). -/
namespace Sys2Proof.Machine

/-! ### What the discipline changes -/

theorem Answering.tb_eq {s t : State} (h : Answering s t) : t.tb = s.tb := by rw [h]

/-- What a change of the discipline's state or of ADJ leaves: device time, the power states, the registers but TB_STAT.STATE and ADJ. -/
structure Disciplining (s t : State) : Prop where
  time : t.time = s.time
  pw : t.pw = s.pw
  words : BlockWords (fun a => a = 0x4002014 ∨ a = 0x4002048) s t
  stat : ∀ f : Fld, f.addr = 0x4002014 → 4 ≤ f.lo → t.get f = s.get f

/-- The discipline's own state but for its state, its adjustment and the two counts. -/
def SameServo (s t : State) : Prop := t.tb = { s.tb with st := t.tb.st, adj := t.tb.adj, good := t.tb.good, bad := t.tb.bad }

namespace Disciplining
variable {s t u : State}

theorem refl (s : State) : Disciplining s s := ⟨rfl, rfl, .refl s, fun _ _ _ => rfl⟩

theorem trans (first : Disciplining s t) (second : Disciplining t u) : Disciplining s u :=
  ⟨second.time.trans first.time, second.pw.trans first.pw, first.words.trans second.words, fun f at_ high => (second.stat f at_ high).trans (first.stat f at_ high)⟩

theorem of_tb (time : t.time = s.time) (pw : t.pw = s.pw) (regs : t.regs = s.regs) : Disciplining s t :=
  ⟨time, pw, .of_regs regs, fun f _ _ => by rw [State.get, State.rd_congr regs]; rfl⟩

theorem state (s : State) (n : Nat) : Disciplining s (s.set F.TB.TB_STAT_STATE n) :=
  ⟨rfl, rfl, .set s _ _ (.inl rfl), fun f _ high => s.get_set_bits F.TB.TB_STAT_STATE f n rfl (.inl high)⟩

theorem adj (s : State) (x : Nat) : Disciplining s (s.set F.TB.ADJ x) :=
  ⟨rfl, rfl, .set s _ _ (.inr rfl), fun f at_ _ => s.get_set_addr _ _ _ (by rw [at_]; decide)⟩

theorem raise (s : State) (n i d : Nat) (known : n < 256) : Disciplining s (s.raise n i d) :=
  have told := Answering.raise s n i d
  have words : BlockWords (fun _ => False) s (s.raise n i d) := .raise s n i d known
  ⟨told.time_eq, told.pw_eq, words.mono fun _ h => h.elim, fun f at_ _ => words.get f (by omega) (by omega) id⟩

theorem when (b : Bool) {f : State → State} (h : ∀ u, Disciplining u (f u)) (s : State) : Disciplining s (s.when b f) := by
  cases b
  · exact .refl s
  · exact h s

theorem get (h : Disciplining s t) (f : Fld) (low : 0x20000 ≤ f.addr) (high : f.addr < 0x7000000) (other : f.addr ≠ 0x4002014 ∧ f.addr ≠ 0x4002048) : t.get f = s.get f :=
  h.words.get f low high fun mine => mine.elim other.1 other.2

end Disciplining

section
variable (s : State)

/-- The discipline enters state `n`. -/
def State.tbEnters (n : Nat) : State := { s with tb := { s.tb with st := n, good := 0, bad := 0 } }

/-- TB_STAT shows state `n`, and the change is reported. -/
def State.tbReports (n : Nat) : State := (s.when (s.domOn 78) (fun s => s.set F.TB.TB_STAT_STATE n)).raise EV_TIME_STATE 0 n

theorem State.tbState_eq (n : Nat) : s.tbState n = if s.tb.st = n then s else (s.tbEnters n).tbReports n := rfl

theorem State.tbEnters_steps (n : Nat) : Disciplining s (s.tbEnters n) := .of_tb rfl rfl rfl

theorem State.tbReports_steps (n : Nat) : Disciplining s (s.tbReports n) := (Disciplining.when _ (fun u => .state u n) s).trans (.raise _ _ _ _ (by decide))

theorem State.tbReports_tb (n : Nat) : (s.tbReports n).tb = s.tb :=
  (Answering.raise (s.when (s.domOn 78) (fun s => s.set F.TB.TB_STAT_STATE n)) EV_TIME_STATE 0 n).tb_eq.trans
    (State.when_field State.tb _ (fun s => s.set F.TB.TB_STAT_STATE n) (fun _ => rfl) s)

theorem State.tbState_steps (n : Nat) : Disciplining s (s.tbState n) := by
  rw [State.tbState_eq]
  split
  · exact .refl s
  · exact (s.tbEnters_steps n).trans (State.tbReports_steps _ n)

/-- The discipline's own state after a change to state `n`. -/
theorem State.tbState_tb (n : Nat) : (s.tbState n).tb.st = n ∧ (s.tbState n).tb.adj = s.tb.adj ∧ SameServo s (s.tbState n) := by
  rw [State.tbState_eq]
  split
  next same => exact ⟨same, rfl, rfl⟩
  · have tb : ((s.tbEnters n).tbReports n).tb = { s.tb with st := n, good := 0, bad := 0 } := (s.tbEnters n).tbReports_tb n
    exact ⟨(congrArg TbSt.st tb).trans rfl, (congrArg TbSt.adj tb).trans rfl, by rw [SameServo, tb]⟩

theorem SameServo.trans {t u : State} (first : SameServo s t) (second : SameServo t u) : SameServo s u := by
  have both := congrArg (fun x : TbSt => { x with st := u.tb.st, adj := u.tb.adj, good := u.tb.good, bad := u.tb.bad }) first
  exact Eq.trans second both

/-- The adjustment in force is `x`. -/
def State.tbAdjusts (x : Int) : State := { s with tb := { s.tb with adj := x } }

theorem State.tbAdjusts_steps (x : Int) : Disciplining s (s.tbAdjusts x) := .of_tb rfl rfl rfl

theorem State.tbAdj_eq (x : Int) : s.tbAdj x = (s.tbAdjusts x).when (s.domOn 78) (fun s => s.setI F.TB.ADJ x) := rfl

theorem State.tbAdj_steps (x : Int) : Disciplining s (s.tbAdj x) := (s.tbAdjusts_steps x).trans (.when _ (fun u => .adj u _) _)

theorem State.tbAdj_tb (x : Int) : (s.tbAdj x).tb = { s.tb with adj := x } := by
  rw [State.tbAdj_eq]
  exact State.when_field State.tb _ (fun s => s.setI F.TB.ADJ x) (fun _ => rfl) (s.tbAdjusts x)

/-! ### Holdover (R314) -/

/-- A register below 0x180 is no register of the time base. -/
theorem Disciplining.domOn {t : State} (low : ∀ a < 0x180, t.rd a = s.rd a) : t.domOn 78 = s.domOn 78 := State.domOn_congr_of_rd low 78 (by decide)

theorem State.tbState_shows (n : Nat) (on : s.domOn 78 = true) (other : s.tb.st ≠ n) (small : n < 16) : (s.tbState n).get F.TB.TB_STAT_STATE = n := by
  have words : BlockWords (fun _ => False) (((s.tbEnters n).set F.TB.TB_STAT_STATE n)) ((s.tbEnters n).tbReports n) := by
    rw [State.tbReports, show (s.tbEnters n).domOn 78 = true from on]
    exact .raise _ _ _ _ (by decide)
  rw [State.tbState_eq, if_neg other, words.get F.TB.TB_STAT_STATE (by decide) (by decide) id]
  exact (State.get_set_same _ F.TB.TB_STAT_STATE n rfl).trans (Nat.mod_eq_of_lt small)

/-- The Announce messages have stopped. -/
def State.masterLost : State := ({ s with tb := { s.tb with master := none } } : State).set F.TB.TB_STAT_GM_PRESENT 0

theorem State.holdoverTimeout_on (ann : Bool) (on : s.domOn 78 = true) : s.holdoverTimeout ann = (if ann then s.masterLost else s).holdover := by
  unfold State.holdoverTimeout
  rw [on]
  rfl

theorem State.masterLost_spec : s.masterLost.domOn 78 = s.domOn 78 ∧ s.masterLost.get F.TB.TB_CTRL_MODE = s.get F.TB.TB_CTRL_MODE ∧ s.masterLost.tb = { s.tb with master := none } ∧
    s.masterLost.flag F.TB.TB_STAT_GM_PRESENT = false := by
  have words : ∀ a < 0x180, s.masterLost.rd a = s.rd a := fun a low =>
    State.rd_set_ne { s with tb := { s.tb with master := none } } F.TB.TB_STAT_GM_PRESENT 0 a (by simp only [F.TB.TB_STAT_GM_PRESENT]; omega)
  refine ⟨State.domOn_congr_of_rd words 78 (by decide), ?_, rfl, State.flag_setFlag_same _ F.TB.TB_STAT_GM_PRESENT false rfl (by decide)⟩
  exact State.get_set_addr { s with tb := { s.tb with master := none } } _ _ _ (by decide)

/-- R314: a discipline that acquires or is locked ends in HOLDOVER. -/
theorem State.holdover_enters (on : s.domOn 78 = true) (mode : s.get F.TB.TB_CTRL_MODE = 1) (live : s.tb.st = 1 ∨ s.tb.st = 2) :
    s.holdover.tb.st = 3 ∧ s.holdover.get F.TB.TB_STAT_STATE = 3 ∧ s.holdover.tb.master = s.tb.master ∧ s.holdover.flag F.TB.TB_STAT_GM_PRESENT = s.flag F.TB.TB_STAT_GM_PRESENT := by
  obtain ⟨st, -, same⟩ := s.tbState_tb 3
  have eq : s.holdover = s.tbState 3 := if_pos ⟨mode, live⟩
  rw [eq]
  refine ⟨st, s.tbState_shows 3 on (by omega) (by decide), (congrArg TbSt.master same).trans rfl, ?_⟩
  rw [State.flag, (s.tbState_steps 3).stat F.TB.TB_STAT_GM_PRESENT rfl (by decide)]
  rfl

theorem State.holdover_cases : s.holdover = s ∨ s.holdover = s.tbState 3 := by
  unfold State.holdover
  split
  · exact .inr rfl
  · exact .inl rfl

theorem State.holdover_steps : Disciplining s s.holdover := by
  rcases s.holdover_cases with same | enters
  · rw [same]; exact .refl s
  · rw [enters]; exact s.tbState_steps 3

theorem State.holdover_servo : SameServo s s.holdover := by
  rcases s.holdover_cases with same | enters
  · rw [same]; rfl
  · rw [enters]; exact (s.tbState_tb 3).2.2

/-! ### Steps (R317) -/

/-- Device time after a step by `d`. -/
def State.timeMoved (d : Int) : State := { s with time := s.time.ofFine (s.time.fine + d) }

/-- A step is counted, shown and reported. -/
def State.stepTold (d : Int) : State :=
  ((s.inc F.TB.STEPS).setI F.TB.STEP_LAST (sat32 (Int.tdiv d (2 ^ 32)))).raise EV_TIME_STEP 0
    (unsigned 16 (max (-32768) (min 32767 (Int.tdiv (Int.tdiv d (2 ^ 32)) 1000))))

theorem State.timeStep_eq (d : Int) : s.timeStep d = (s.timeMoved d).stepTold d := rfl

theorem State.stepTold_told (d : Int) : Answering s (s.stepTold d) := ((Answering.inc s _).trans (.set _ _ _)).trans (.raise _ _ _ _)

theorem State.stepTold_words (d : Int) : BlockWords (fun a => a = 0x4002070 ∨ a = 0x4002024) s (s.stepTold d) :=
  ((BlockWords.set s F.TB.STEPS _ (.inl rfl)).trans (.set _ F.TB.STEP_LAST _ (.inr rfl))).trans (.raise _ _ _ _ (by decide))

theorem State.stepTold_counts (d : Int) : (s.stepTold d).get F.TB.STEPS = min (s.get F.TB.STEPS + 1) (2 ^ F.TB.STEPS.wd - 1) := by
  have words : BlockWords (fun _ => False) ((s.inc F.TB.STEPS).setI F.TB.STEP_LAST (sat32 (Int.tdiv d (2 ^ 32)))) (s.stepTold d) := .raise _ _ _ _ (by decide)
  rw [words.get F.TB.STEPS (by decide) (by decide) id, State.setI, State.get_set_addr _ _ _ _ (by decide)]
  exact s.get_inc F.TB.STEPS rfl

theorem State.timeStep_time (d : Int) : (s.timeStep d).time = s.time.ofFine (s.time.fine + d) := ((s.timeMoved d).stepTold_told d).time_eq

theorem State.timeStep_tb (d : Int) : (s.timeStep d).tb = s.tb := ((s.timeMoved d).stepTold_told d).tb_eq

/-! ### A Sync (R316) -/

/-- The counts of offsets inside and outside the band. -/
def State.bandCounted (good bad : Nat) : State := { s with tb := { s.tb with good := good, bad := bad } }

/-- The offsets running inside the band. -/
def State.goodCount (o : Int) : Nat := if (o.natAbs : Int) ≤ s.get F.TB.LOCK_BAND * 2 ^ 16 then s.tb.good + 1 else 0

/-- The offsets running beyond four times the band. -/
def State.badCount (o : Int) : Nat := if 4 * ((s.get F.TB.LOCK_BAND : Int) * 2 ^ 16) < o.natAbs then s.tb.bad + 1 else 0

theorem State.lockCount_eq (o : Int) : s.lockCount o =
    if s.tb.st = 1 ∧ 16 ≤ s.goodCount o then (s.bandCounted (s.goodCount o) (s.badCount o)).tbState 2
    else if s.tb.st = 2 ∧ 4 ≤ s.badCount o then (s.bandCounted (s.goodCount o) (s.badCount o)).tbState 1 else s.bandCounted (s.goodCount o) (s.badCount o) := rfl

theorem State.bandCounted_steps (good bad : Nat) : Disciplining s (s.bandCounted good bad) := .of_tb rfl rfl rfl

theorem State.bandCounted_enters (good bad n : Nat) : Disciplining s ((s.bandCounted good bad).tbState n) ∧ ((s.bandCounted good bad).tbState n).tb.adj = s.tb.adj ∧
    ((s.bandCounted good bad).tbState n).tb.integ = s.tb.integ := by
  obtain ⟨-, adj, same⟩ := (s.bandCounted good bad).tbState_tb n
  exact ⟨(s.bandCounted_steps good bad).trans (State.tbState_steps _ n), adj, (congrArg TbSt.integ same).trans rfl⟩

/-- Counting an offset keeps device time, the integrator and the adjustment. -/
theorem State.lockCount_spec (o : Int) : Disciplining s (s.lockCount o) ∧ (s.lockCount o).tb.adj = s.tb.adj ∧ (s.lockCount o).tb.integ = s.tb.integ := by
  rw [State.lockCount_eq]
  split
  · exact s.bandCounted_enters _ _ 2
  · split
    · exact s.bandCounted_enters _ _ 1
    · exact ⟨s.bandCounted_steps _ _, rfl, rfl⟩

/-- The integrator holds `i`. -/
def State.integrated (i : Int) : State := { s with tb := { s.tb with integ := i } }

theorem State.integrated_steps (i : Int) : Disciplining s (s.integrated i) := .of_tb rfl rfl rfl

/-- An offset beyond STEP_THRESH. -/
def State.offsetBig (o : Int) : Bool := decide ((s.get F.TB.TB_CTRL_STEP_THRESH : Int) * 1000 * 2 ^ 16 < o.natAbs)

/-- Device time may step by the offset. -/
def State.stepAllowed (o : Int) : Bool := decide (o < 0) || s.pw.st != .scanning

theorem State.discipline_small (o ratio log : Int) (small : s.offsetBig o = false) : s.discipline o ratio log =
    ((s.integrated (servo s.tb.integ o ratio log).1).tbAdj (servo s.tb.integ o ratio log).2).lockCount o := by
  unfold State.discipline
  dsimp only
  rw [State.offsetBig] at small
  rw [small]
  rfl

theorem State.discipline_steps (o ratio log : Int) (big : s.offsetBig o = true) (allowed : s.stepAllowed o = true) :
    s.discipline o ratio log = ((s.integrated 0).timeStep (-o * 2 ^ 16)).tbState 1 := by
  unfold State.discipline
  dsimp only
  rw [State.offsetBig] at big
  rw [State.stepAllowed] at allowed
  rw [big, allowed]
  rfl

theorem State.discipline_held (o ratio log : Int) (big : s.offsetBig o = true) (held : s.stepAllowed o = false) :
    s.discipline o ratio log = ((s.integrated 0).tbAdj (servo 0 o ratio log).2).tbState 1 := by
  unfold State.discipline
  dsimp only
  rw [State.offsetBig] at big
  rw [State.stepAllowed] at held
  rw [big, held]
  rfl

/-- A Sync is counted. -/
def State.syncCounted : State := (s.inc F.ETH.RX_FRAMES).inc F.TB.SYNC_RX

/-- The ingress time less the latency of the link. -/
def State.syncIngress (rx : Nat) : Nat := rx - s.get F.ETH.ETH_LAT_LAT_RX

/-- R316: the offset of a Sync. -/
def State.syncOffset (rx origin : Nat) (corr : Int) : Int := (s.syncIngress rx : Int) * 2 ^ 16 - ((origin : Int) * 2 ^ 16 + corr + s.get F.TB.MEAN_LINK_DELAY * 2 ^ 16)

/-- The discipline begins to acquire. -/
def State.syncAcquires : State := if s.tb.st = 0 ∨ s.tb.st = 3 then s.tbState 1 else s

/-- The result group of a Sync. -/
def State.syncShown (o : Int) (rx : Nat) : State := ((s.setI F.TB.OFFSET (sat32 (o / 2 ^ 16))).set64 F.TB.SYNC_RX_LO F.TB.SYNC_RX_HI (BitVec.ofNat 64 rx)).publish F.TB.TB_RES_ST

/-- The discipline may act on a Sync. -/
def State.syncUsable : Prop := s.ethUp = true ∧ s.get F.TB.TB_CTRL_MODE = 1 ∧ s.flag F.TB.TB_STAT_GM_PRESENT = true ∧ s.flag F.TB.TB_STAT_AS_CAPABLE = true

theorem State.syncCounted_get (f : Fld) (first : f.addr ≠ 0x4001040) (second : f.addr ≠ 0x4002060) : s.syncCounted.get f = s.get f :=
  (State.get_inc_ne _ F.TB.SYNC_RX f second).trans (s.get_inc_ne F.ETH.RX_FRAMES f first)

theorem State.syncCounted_flag (f : Fld) (first : f.addr ≠ 0x4001040) (second : f.addr ≠ 0x4002060) : s.syncCounted.flag f = s.flag f := by
  rw [State.flag, s.syncCounted_get f first second]
  rfl

theorem State.syncCounted_offset (rx origin : Nat) (corr : Int) : s.syncCounted.syncOffset rx origin corr = s.syncOffset rx origin corr := by
  rw [State.syncOffset, State.syncIngress, s.syncCounted_get F.ETH.ETH_LAT_LAT_RX (by decide) (by decide), s.syncCounted_get F.TB.MEAN_LINK_DELAY (by decide) (by decide)]
  rfl

/-- No master, no peer fit for time, or another mode. -/
def State.syncUnused : Bool := decide (s.get F.TB.TB_CTRL_MODE ≠ 1) || !s.flag F.TB.TB_STAT_GM_PRESENT || !s.flag F.TB.TB_STAT_AS_CAPABLE

/-- A Sync whose Follow_Up came acts on the discipline. -/
def State.syncActs (rx origin : Nat) (corr ratio log : Int) : State :=
  (s.syncAcquires.discipline (s.syncOffset rx origin corr) ratio log).syncShown (s.syncOffset rx origin corr) (s.syncIngress rx)

theorem State.gptpSync_up (rx origin : Nat) (corr ratio log : Int) (follow : Bool) (up : s.ethUp = true) : s.gptpSync rx origin corr ratio log follow =
    if !follow then s.syncCounted.inc F.TB.FOLLOWUP_MISS else if s.syncCounted.syncUnused then s.syncCounted else s.syncCounted.syncActs rx origin corr ratio log := by
  unfold State.gptpSync
  rw [up, Bool.not_true, if_neg Bool.false_ne_true]
  extract_lets u
  have counted : u = s.syncCounted := rfl
  rw [← counted]
  clear_value u
  rfl

theorem State.gptpSync_down (rx origin : Nat) (corr ratio log : Int) (follow : Bool) (down : s.ethUp = false) : s.gptpSync rx origin corr ratio log follow = s := by
  rw [State.gptpSync, down]
  rfl

theorem State.gptpSync_missing (rx origin : Nat) (corr ratio log : Int) (up : s.ethUp = true) : s.gptpSync rx origin corr ratio log false = s.syncCounted.inc F.TB.FOLLOWUP_MISS := by
  rw [s.gptpSync_up rx origin corr ratio log false up]
  rfl

theorem State.syncCounted_unused : s.syncCounted.syncUnused = s.syncUnused := by
  rw [State.syncUnused, s.syncCounted_get F.TB.TB_CTRL_MODE (by decide) (by decide), s.syncCounted_flag F.TB.TB_STAT_GM_PRESENT (by decide) (by decide),
    s.syncCounted_flag F.TB.TB_STAT_AS_CAPABLE (by decide) (by decide)]
  rfl

theorem State.gptpSync_unused (rx origin : Nat) (corr ratio log : Int) (up : s.ethUp = true)
    (unused : s.get F.TB.TB_CTRL_MODE ≠ 1 ∨ s.flag F.TB.TB_STAT_GM_PRESENT = false ∨ s.flag F.TB.TB_STAT_AS_CAPABLE = false) : s.gptpSync rx origin corr ratio log true = s.syncCounted := by
  have not : s.syncUnused = true := by
    rw [State.syncUnused]
    rcases unused with off | none_ | far
    · simp [off]
    · simp [none_]
    · simp [far]
  rw [s.gptpSync_up rx origin corr ratio log true up, s.syncCounted_unused, not]
  rfl

theorem State.gptpSync_usable (rx origin : Nat) (corr ratio log : Int) (usable : s.syncUsable) : s.gptpSync rx origin corr ratio log true =
    (s.syncCounted.syncAcquires.discipline (s.syncOffset rx origin corr) ratio log).syncShown (s.syncOffset rx origin corr) (s.syncCounted.syncIngress rx) := by
  obtain ⟨up, mode, master, capable⟩ := usable
  have used : s.syncUnused = false := by rw [State.syncUnused, mode, master, capable]; rfl
  rw [s.gptpSync_up rx origin corr ratio log true up, s.syncCounted_unused, used, Bool.not_true, if_neg Bool.false_ne_true, if_neg Bool.false_ne_true, State.syncActs, s.syncCounted_offset]

theorem State.syncAcquires_steps : Disciplining s s.syncAcquires := by
  unfold State.syncAcquires
  split
  · exact s.tbState_steps 1
  · exact .refl s

theorem State.syncAcquires_locked (locked : s.tb.st = 2) : s.syncAcquires = s := if_neg (by omega)

theorem State.syncShown_spec (o : Int) (rx : Nat) : (s.syncShown o rx).time = s.time ∧ (s.syncShown o rx).tb = s.tb ∧ (s.syncShown o rx).get F.TB.OFFSET = unsigned 32 (sat32 (o / 2 ^ 16)) ∧
    (s.syncShown o rx).get F.TB.STEPS = s.get F.TB.STEPS := by
  have told : Answering s (s.syncShown o rx) := (((Answering.set s _ _).trans (.set _ _ _)).trans (.set _ _ _)).trans ((Answering.set _ _ _).trans (.set _ _ _))
  have tail (f : Fld) (other : f.addr ≠ 0x4002050 ∧ f.addr ≠ 0x4002054 ∧ f.addr ≠ 0x4002040) : (s.syncShown o rx).get f = (s.setI F.TB.OFFSET (sat32 (o / 2 ^ 16))).get f := by
    obtain ⟨lo, hi, st⟩ := other
    rw [State.syncShown, State.publish, State.get_set_addr _ _ _ _ st, State.get_set_addr _ _ _ _ st, State.set64, State.get_set_addr _ _ _ _ hi, State.get_set_addr _ _ _ _ lo]
  refine ⟨told.time_eq, told.tb_eq, ?_, ?_⟩
  · rw [tail F.TB.OFFSET (by decide), State.setI]
    refine (State.get_set_same s F.TB.OFFSET _ rfl).trans (Nat.mod_eq_of_lt ?_)
    show unsigned 32 _ < 2 ^ 32
    unfold unsigned
    omega
  · rw [tail F.TB.STEPS (by decide)]
    exact State.get_set_addr s _ _ _ (by decide)

/-- A Sync beyond STEP_THRESH that may step: what the discipline does. -/
theorem State.discipline_steps_spec (o ratio log : Int) (big : s.offsetBig o = true) (allowed : s.stepAllowed o = true) :
    (s.discipline o ratio log).time = s.time.ofFine (s.time.fine + -o * 2 ^ 16) ∧ (s.discipline o ratio log).tb.st = 1 ∧ (s.discipline o ratio log).tb.integ = 0 ∧
    (s.discipline o ratio log).get F.TB.STEPS = min (s.get F.TB.STEPS + 1) (2 ^ F.TB.STEPS.wd - 1) := by
  obtain ⟨st, -, same⟩ := ((s.integrated 0).timeStep (-o * 2 ^ 16)).tbState_tb 1
  have steps := ((s.integrated 0).timeStep (-o * 2 ^ 16)).tbState_steps 1
  have tb := (s.integrated 0).timeStep_tb (-o * 2 ^ 16)
  rw [s.discipline_steps o ratio log big allowed]
  refine ⟨steps.time.trans ((s.integrated 0).timeStep_time _), st, ?_, ?_⟩
  · exact ((congrArg TbSt.integ same).trans rfl).trans ((congrArg TbSt.integ tb).trans rfl)
  · rw [steps.get F.TB.STEPS (by decide) (by decide) (by decide)]
    exact ((s.integrated 0).timeMoved (-o * 2 ^ 16)).stepTold_counts _

/-- One that may not: the servo starts anew. -/
theorem State.discipline_held_spec (o ratio log : Int) (big : s.offsetBig o = true) (held : s.stepAllowed o = false) :
    (s.discipline o ratio log).time = s.time ∧ (s.discipline o ratio log).tb.st = 1 ∧ (s.discipline o ratio log).tb.integ = 0 ∧ (s.discipline o ratio log).tb.adj = (servo 0 o ratio log).2 := by
  obtain ⟨st, adj, same⟩ := ((s.integrated 0).tbAdj (servo 0 o ratio log).2).tbState_tb 1
  have steps := ((s.integrated_steps 0).trans (State.tbAdj_steps _ (servo 0 o ratio log).2)).trans (State.tbState_steps _ 1)
  have tb := (s.integrated 0).tbAdj_tb (servo 0 o ratio log).2
  rw [s.discipline_held o ratio log big held]
  exact ⟨steps.time, st, ((congrArg TbSt.integ same).trans rfl).trans ((congrArg TbSt.integ tb).trans rfl), adj.trans ((congrArg TbSt.adj tb).trans rfl)⟩

/-- One within STEP_THRESH: the servo acts. -/
theorem State.discipline_small_spec (o ratio log : Int) (small : s.offsetBig o = false) : (s.discipline o ratio log).time = s.time ∧
    (s.discipline o ratio log).tb.integ = (servo s.tb.integ o ratio log).1 ∧ (s.discipline o ratio log).tb.adj = (servo s.tb.integ o ratio log).2 := by
  obtain ⟨steps, adj, integ⟩ := ((s.integrated (servo s.tb.integ o ratio log).1).tbAdj (servo s.tb.integ o ratio log).2).lockCount_spec o
  have before := (s.integrated_steps (servo s.tb.integ o ratio log).1).trans (State.tbAdj_steps _ (servo s.tb.integ o ratio log).2)
  have tb := (s.integrated (servo s.tb.integ o ratio log).1).tbAdj_tb (servo s.tb.integ o ratio log).2
  rw [s.discipline_small o ratio log small]
  exact ⟨(before.trans steps).time, integ.trans ((congrArg TbSt.integ tb).trans rfl), adj.trans ((congrArg TbSt.adj tb).trans rfl)⟩

end
end Sys2Proof.Machine
end

section
/-! PROOFS. What Sync, Announce and peer delay messages do, TIME_CONFIG, and the SYNC pin (R313 to R322). -/
namespace Sys2Proof.Machine

section
variable (s : State)

/-! ### A Sync that acts -/

/-- The state in which the discipline meets a Sync. -/
def State.syncMet : State := s.syncCounted.syncAcquires

theorem State.syncMet_get (f : Fld) (low : 0x20000 ≤ f.addr) (high : f.addr < 0x7000000) (other : f.addr ≠ 0x4002014 ∧ f.addr ≠ 0x4002048) (frames : f.addr ≠ 0x4001040 ∧ f.addr ≠ 0x4002060) :
    s.syncMet.get f = s.get f :=
  (s.syncCounted.syncAcquires_steps.get f low high other).trans (s.syncCounted_get f frames.1 frames.2)

theorem State.syncMet_big (o : Int) : s.syncMet.offsetBig o = s.offsetBig o := by
  rw [State.offsetBig, s.syncMet_get F.TB.TB_CTRL_STEP_THRESH (by decide) (by decide) (by decide) (by decide)]
  rfl

theorem State.syncMet_allowed (o : Int) : s.syncMet.stepAllowed o = s.stepAllowed o := by
  have pw : s.syncMet.pw = s.pw := s.syncCounted.syncAcquires_steps.pw
  rw [State.stepAllowed, pw]
  rfl

theorem State.syncMet_time : s.syncMet.time = s.time := s.syncCounted.syncAcquires_steps.time

theorem State.gptpSync_met (rx origin : Nat) (corr ratio log : Int) (usable : s.syncUsable) : s.gptpSync rx origin corr ratio log true =
    (s.syncMet.discipline (s.syncOffset rx origin corr) ratio log).syncShown (s.syncOffset rx origin corr) (s.syncCounted.syncIngress rx) :=
  s.gptpSync_usable rx origin corr ratio log usable

theorem State.gptpSync_small (rx origin : Nat) (corr ratio log : Int) (usable : s.syncUsable) (small : s.offsetBig (s.syncOffset rx origin corr) = false) (locked : s.tb.st = 2) :
    (s.gptpSync rx origin corr ratio log true).time = s.time ∧
    (s.gptpSync rx origin corr ratio log true).tb.integ = (servo s.tb.integ (s.syncOffset rx origin corr) ratio log).1 ∧
    (s.gptpSync rx origin corr ratio log true).tb.adj = (servo s.tb.integ (s.syncOffset rx origin corr) ratio log).2 ∧
    (s.gptpSync rx origin corr ratio log true).get F.TB.OFFSET = unsigned 32 (sat32 (s.syncOffset rx origin corr / 2 ^ 16)) := by
  obtain ⟨time, tb, shown, -⟩ := (s.syncMet.discipline (s.syncOffset rx origin corr) ratio log).syncShown_spec (s.syncOffset rx origin corr) (s.syncCounted.syncIngress rx)
  obtain ⟨kept, integ, adj⟩ := s.syncMet.discipline_small_spec (s.syncOffset rx origin corr) ratio log (by rw [s.syncMet_big]; exact small)
  have same : s.syncMet.tb = s.tb := (congrArg State.tb (s.syncCounted.syncAcquires_locked locked) : s.syncCounted.syncAcquires.tb = s.syncCounted.tb)
  rw [s.gptpSync_met rx origin corr ratio log usable, time, tb, shown, kept, integ, adj, same]
  exact ⟨s.syncMet_time, rfl, rfl, rfl⟩

theorem State.gptpSync_steps (rx origin : Nat) (corr ratio log : Int) (usable : s.syncUsable) (big : s.offsetBig (s.syncOffset rx origin corr) = true)
    (allowed : s.syncOffset rx origin corr < 0 ∨ s.pw.st ≠ .scanning) :
    (s.gptpSync rx origin corr ratio log true).time = s.time.ofFine (s.time.fine + -(s.syncOffset rx origin corr) * 2 ^ 16) ∧ (s.gptpSync rx origin corr ratio log true).tb.st = 1 ∧
    (s.gptpSync rx origin corr ratio log true).tb.integ = 0 ∧ (s.gptpSync rx origin corr ratio log true).get F.TB.STEPS = min (s.get F.TB.STEPS + 1) (2 ^ F.TB.STEPS.wd - 1) := by
  obtain ⟨time, tb, -, steps⟩ := (s.syncMet.discipline (s.syncOffset rx origin corr) ratio log).syncShown_spec (s.syncOffset rx origin corr) (s.syncCounted.syncIngress rx)
  have may : s.stepAllowed (s.syncOffset rx origin corr) = true := by
    rw [State.stepAllowed]
    rcases allowed with back | still
    · simp [back]
    · simp [still]
  obtain ⟨moved, st, integ, count⟩ := s.syncMet.discipline_steps_spec (s.syncOffset rx origin corr) ratio log (by rw [s.syncMet_big]; exact big) (by rw [s.syncMet_allowed]; exact may)
  rw [s.gptpSync_met rx origin corr ratio log usable, time, tb, steps, moved, st, integ, count, s.syncMet_time,
    s.syncMet_get F.TB.STEPS (by decide) (by decide) (by decide) (by decide)]
  exact ⟨rfl, rfl, rfl, rfl⟩

theorem State.gptpSync_held (rx origin : Nat) (corr ratio log : Int) (usable : s.syncUsable) (big : s.offsetBig (s.syncOffset rx origin corr) = true)
    (ahead : 0 ≤ s.syncOffset rx origin corr) (scanning : s.pw.st = .scanning) :
    (s.gptpSync rx origin corr ratio log true).time = s.time ∧ (s.gptpSync rx origin corr ratio log true).tb.st = 1 ∧ (s.gptpSync rx origin corr ratio log true).tb.integ = 0 ∧
    (s.gptpSync rx origin corr ratio log true).tb.adj = (servo 0 (s.syncOffset rx origin corr) ratio log).2 := by
  obtain ⟨time, tb, -, -⟩ := (s.syncMet.discipline (s.syncOffset rx origin corr) ratio log).syncShown_spec (s.syncOffset rx origin corr) (s.syncCounted.syncIngress rx)
  have held : s.stepAllowed (s.syncOffset rx origin corr) = false := by
    rw [State.stepAllowed, scanning, decide_eq_false (by omega)]
    rfl
  obtain ⟨kept, st, integ, adj⟩ := s.syncMet.discipline_held_spec (s.syncOffset rx origin corr) ratio log (by rw [s.syncMet_big]; exact big) (by rw [s.syncMet_allowed]; exact held)
  rw [s.gptpSync_met rx origin corr ratio log usable, time, tb, kept, st, integ, adj, s.syncMet_time]
  exact ⟨rfl, rfl, rfl, rfl⟩

theorem servo_bounds (i o r l : Int) : -500000 ≤ (servo i o r l).2 ∧ (servo i o r l).2 ≤ 500000 := clampI_bounds _ _ _ (by decide)

/-! ### Announce and peer delay (R315) -/

/-- The master of an Announce message is taken. -/
def State.mastered (b : List Byte) : State :=
  ((({ s with tb := { s.tb with master := some (announceKey b, (b.drop 20).take 10) } } : State).set F.TB.GM_ID_HI (u32 b 53)).set F.TB.GM_ID_LO (u32 b 57)).set F.TB.TB_STAT_GM_PRESENT 1

theorem State.gptpAnnounce_other (b : List Byte) (up : s.ethUp = true) (other : b.length < 64 ∨ u8 b 0 % 16 ≠ 0xB ∨ u8 b 4 ≠ 0) : s.gptpAnnounce b = s.inc F.ETH.RX_FRAMES := by
  unfold State.gptpAnnounce
  dsimp only
  rw [up, Bool.not_true, if_neg Bool.false_ne_true, if_pos (by tauto)]

/-- The message comes from the master, or from a better one. -/
def State.masterTaken (b : List Byte) : Bool :=
  match s.tb.master with
  | none => true
  | some (k, from_) => from_ == (b.drop 20).take 10 || keyLess (announceKey b) k

theorem State.gptpAnnounce_taken (b : List Byte) (up : s.ethUp = true) (len : 64 ≤ b.length) (kind : u8 b 0 % 16 = 0xB) (domain : u8 b 4 = 0) (taken : s.masterTaken b = true) :
    s.gptpAnnounce b = (s.inc F.ETH.RX_FRAMES).mastered b := by
  unfold State.gptpAnnounce
  dsimp only
  rw [up, Bool.not_true, if_neg Bool.false_ne_true, if_neg (by omega)]
  exact if_pos taken

theorem State.masterTaken_of (b : List Byte) (h : s.tb.master = none ∨ ∃ k q, s.tb.master = some (k, q) ∧ (q = (b.drop 20).take 10 ∨ keyLess (announceKey b) k = true)) : s.masterTaken b = true := by
  rw [State.masterTaken]
  rcases h with fresh | ⟨k, q, master, same | less⟩
  · rw [fresh]
  · rw [master, same]
    simp
  · rw [master]
    simp [less]

theorem State.mastered_spec (b : List Byte) : (s.mastered b).tb = { s.tb with master := some (announceKey b, (b.drop 20).take 10) } ∧ (s.mastered b).get F.TB.GM_ID_HI = u32 b 53 ∧
    (s.mastered b).get F.TB.GM_ID_LO = u32 b 57 ∧ (s.mastered b).flag F.TB.TB_STAT_GM_PRESENT = true := by
  refine ⟨rfl, ?_, ?_, State.flag_set_one _ F.TB.TB_STAT_GM_PRESENT rfl rfl⟩
  · rw [State.mastered, State.get_set_addr _ _ _ _ (by decide), State.get_set_addr _ _ _ _ (by decide)]
    exact (State.get_set_same _ F.TB.GM_ID_HI _ rfl).trans (Nat.mod_eq_of_lt (beAt_lt b 53 4))
  · rw [State.mastered, State.get_set_addr _ _ _ _ (by decide)]
    exact (State.get_set_same _ F.TB.GM_ID_LO _ rfl).trans (Nat.mod_eq_of_lt (beAt_lt b 57 4))

/-- A peer delay request leaves. -/
def State.peerAsked : State :=
  let seq := (s.tb.pdSeq + 1) % 65536
  ((({ s with tb := { s.tb with pdWait := true, pdSeq := seq } } : State).inc F.TB.PDELAY_TX).ethSend 3 ptpDst (s.ptpHeader 2 0 seq 0 ++ zeros 20))

/-- The exchange before has failed. -/
def State.peerFailed : State := (({ s with tb := { s.tb with pdOk := 0 } } : State).inc F.TB.PDELAY_FAIL).asCapable false

theorem State.pdelayExchange_up (up : s.ethUp = true) : s.pdelayExchange = (if s.tb.pdWait then s.peerFailed else s).peerAsked := by
  unfold State.pdelayExchange
  rw [up, Bool.not_true, if_neg Bool.false_ne_true]
  rfl

theorem State.peerAsked_counts : s.peerAsked.get F.TB.PDELAY_TX = min (s.get F.TB.PDELAY_TX + 1) (2 ^ F.TB.PDELAY_TX.wd - 1) :=
  State.ethSend_counts { s with tb := { s.tb with pdWait := true, pdSeq := (s.tb.pdSeq + 1) % 65536 } } F.TB.PDELAY_TX _ _ _ rfl (by decide) _ rfl

theorem State.peerAsked_words : BlockWords (fun a => a = 0x4002068 ∨ a = 0x400104C) s s.peerAsked :=
  ((BlockWords.of_regs (t := { s with tb := { s.tb with pdWait := true, pdSeq := (s.tb.pdSeq + 1) % 65536 } }) rfl).trans (.set _ F.TB.PDELAY_TX _ (.inl rfl))).trans
    ((BlockWords.set _ F.ETH.TX_FRAMES _ (.inr rfl)).trans (.of_regs rfl))

/-- AS_CAPABLE clears. -/
def State.unfit : State := s.setFlag F.TB.TB_STAT_AS_CAPABLE false

theorem State.asCapable_false : s.asCapable false = s.unfit.holdover := rfl

theorem State.asCapable_false_spec : (s.asCapable false).flag F.TB.TB_STAT_AS_CAPABLE = false ∧ SameServo s (s.asCapable false) ∧
    BlockWords (fun a => a = 0x4002014 ∨ a = 0x4002048) s (s.asCapable false) := by
  rw [State.asCapable_false]
  refine ⟨?_, ?_, (BlockWords.set s F.TB.TB_STAT_AS_CAPABLE _ (.inl rfl)).trans s.unfit.holdover_steps.words⟩
  · rw [State.flag, s.unfit.holdover_steps.stat F.TB.TB_STAT_AS_CAPABLE rfl (by decide)]
    exact s.flag_setFlag_same F.TB.TB_STAT_AS_CAPABLE false rfl (by decide)
  · exact SameServo.trans s (t := s.unfit) rfl s.unfit.holdover_servo

theorem State.peerFailed_spec : s.peerFailed.flag F.TB.TB_STAT_AS_CAPABLE = false ∧ s.peerFailed.tb.pdOk = 0 ∧
    s.peerFailed.get F.TB.PDELAY_FAIL = min (s.get F.TB.PDELAY_FAIL + 1) (2 ^ F.TB.PDELAY_FAIL.wd - 1) := by
  obtain ⟨flag, same, words⟩ := (({ s with tb := { s.tb with pdOk := 0 } } : State).inc F.TB.PDELAY_FAIL).asCapable_false_spec
  refine ⟨flag, (congrArg TbSt.pdOk same).trans rfl, ?_⟩
  exact (words.get F.TB.PDELAY_FAIL (by decide) (by decide) (by decide)).trans (State.get_inc { s with tb := { s.tb with pdOk := 0 } } F.TB.PDELAY_FAIL rfl)

/-- The answer of a responder: its header, the time stamp, and the port that asked. -/
def State.peerAnswer (kind flags seq stamp : Nat) (who : List Byte) : List Byte := s.ptpHeader kind flags seq 0x7F ++ ptpStamp stamp ++ who

theorem State.ptpHeader_length (kind flags seq log : Nat) : (s.ptpHeader kind flags seq log).length = 34 := by simp [State.ptpHeader, zeros]

theorem State.peerAnswer_spec (kind flags stamp : Nat) (req : List Byte) (len : 34 ≤ req.length) :
    (s.peerAnswer kind flags (u16 req 30) stamp ((req.drop 20).take 10)).length = 54 ∧ u16 (s.peerAnswer kind flags (u16 req 30) stamp ((req.drop 20).take 10)) 30 = u16 req 30 ∧
    (s.peerAnswer kind flags (u16 req 30) stamp ((req.drop 20).take 10)).drop 44 = (req.drop 20).take 10 := by
  have head := s.ptpHeader_length kind flags (u16 req 30) 0x7F
  have middle : (ptpStamp stamp).length = 10 := by simp [ptpStamp]
  refine ⟨?_, ?_, ?_⟩
  · rw [State.peerAnswer, List.length_append, List.length_append, head, middle, List.length_take, List.length_drop]
    omega
  · have word : u16 (s.peerAnswer kind flags (u16 req 30) stamp ((req.drop 20).take 10)) 30 = ofBe (beBytes 2 (u16 req 30)) := rfl
    exact word.trans ((ofBe_beBytes2 _).trans (Nat.mod_eq_of_lt (beAt_lt req 30 2)))
  · exact List.drop_left' (by rw [List.length_append, head, middle])

/-- Both answers to a peer delay request. -/
def State.peerAnswered (req : List Byte) : State :=
  let first := s.ethSend 3 ptpDst (s.peerAnswer 3 0x0200 (u16 req 30) (s.time.dev.toNat - s.get F.ETH.ETH_LAT_LAT_RX) ((req.drop 20).take 10))
  first.ethSend 3 ptpDst (first.peerAnswer 0xA 0 (u16 req 30) (s.time.dev.toNat + first.get F.ETH.ETH_LAT_LAT_TX) ((req.drop 20).take 10))

theorem State.peerAnswered_spec (req : List Byte) (len : 34 ≤ req.length) : ∃ a b : List Byte, (s.peerAnswered req).out = .ether 3 ptpDst b :: .ether 3 ptpDst a :: s.out ∧ a.length = 54 ∧
    b.length = 54 ∧ u16 a 30 = u16 req 30 ∧ u16 b 30 = u16 req 30 ∧ a.drop 44 = (req.drop 20).take 10 ∧ b.drop 44 = (req.drop 20).take 10 ∧ (s.peerAnswered req).tb = s.tb := by
  unfold State.peerAnswered
  dsimp only
  generalize hu : s.ethSend 3 ptpDst (s.peerAnswer 3 0x0200 (u16 req 30) (s.time.dev.toNat - s.get F.ETH.ETH_LAT_LAT_RX) ((req.drop 20).take 10)) = u
  obtain ⟨alen, anum, awho⟩ := s.peerAnswer_spec 3 0x0200 (s.time.dev.toNat - s.get F.ETH.ETH_LAT_LAT_RX) req len
  obtain ⟨blen, bnum, bwho⟩ := u.peerAnswer_spec 0xA 0 (s.time.dev.toNat + u.get F.ETH.ETH_LAT_LAT_TX) req len
  exact ⟨_, _, by rw [← hu]; rfl, alen, blen, anum, bnum, awho, bwho, by rw [← hu]; rfl⟩

theorem State.pdelayReq_up (req : List Byte) (up : s.ethUp = true) : s.pdelayReq req = (s.inc F.ETH.RX_FRAMES).peerAnswered req := by
  unfold State.pdelayReq
  rw [up, Bool.not_true, if_neg Bool.false_ne_true]
  extract_lets u
  have counted : u = s.inc F.ETH.RX_FRAMES := rfl
  rw [← counted]
  clear_value u
  rfl

/-- R315: the mean link delay from the four time stamps. -/
def State.linkDelay (t1 t2 t3 t4 : Nat) : Nat := ((t4 - s.get F.ETH.ETH_LAT_LAT_RX - (t1 + s.get F.ETH.ETH_LAT_LAT_TX)) - (t3 - t2)) / 2

/-- The exchange is over and the delay `d` known. -/
def State.delayKnown (d : Nat) : State := ({ s with tb := { s.tb with pdWait := false, pdOk := min (s.tb.pdOk + 1) 3 } } : State).set F.TB.MEAN_LINK_DELAY d

theorem State.delayKnown_spec (d : Nat) : ((s.inc F.ETH.RX_FRAMES).delayKnown d).get F.TB.PDELAY_THRESH = s.get F.TB.PDELAY_THRESH ∧
    ((s.inc F.ETH.RX_FRAMES).delayKnown d).get F.TB.MEAN_LINK_DELAY = d % 2 ^ F.TB.MEAN_LINK_DELAY.wd ∧
    ((s.inc F.ETH.RX_FRAMES).delayKnown d).flag F.TB.TB_STAT_AS_CAPABLE = s.flag F.TB.TB_STAT_AS_CAPABLE := by
  have other (f : Fld) (delay : f.addr ≠ F.TB.MEAN_LINK_DELAY.addr) (frames : f.addr ≠ F.ETH.RX_FRAMES.addr) : ((s.inc F.ETH.RX_FRAMES).delayKnown d).get f = s.get f :=
    (State.get_set_addr _ F.TB.MEAN_LINK_DELAY f d delay).trans (s.get_inc_ne F.ETH.RX_FRAMES f frames)
  refine ⟨other F.TB.PDELAY_THRESH (by decide) (by decide), State.get_set_same _ F.TB.MEAN_LINK_DELAY d rfl, ?_⟩
  rw [State.flag, other F.TB.TB_STAT_AS_CAPABLE (by decide) (by decide)]
  rfl

/-- Whether the peer is fit for time, where the exchange before was the `ok`th in a row. -/
def State.fitJudged (d ok : Nat) : State := if s.get F.TB.PDELAY_THRESH < d then s.asCapable false else if 3 ≤ ok then s.asCapable true else s

theorem State.pdelayResp_waiting (t1 t2 t3 t4 : Nat) (up : s.ethUp = true) (waits : s.tb.pdWait = true) :
    s.pdelayResp t1 t2 t3 t4 = ((s.inc F.ETH.RX_FRAMES).delayKnown (s.linkDelay t1 t2 t3 t4)).fitJudged (s.linkDelay t1 t2 t3 t4) (s.tb.pdOk + 1) := by
  have delay : (s.inc F.ETH.RX_FRAMES).linkDelay t1 t2 t3 t4 = s.linkDelay t1 t2 t3 t4 := by
    rw [State.linkDelay, s.get_inc_ne F.ETH.RX_FRAMES F.ETH.ETH_LAT_LAT_RX (by decide), s.get_inc_ne F.ETH.RX_FRAMES F.ETH.ETH_LAT_LAT_TX (by decide)]
    rfl
  have count : (s.inc F.ETH.RX_FRAMES).tb = s.tb := rfl
  rw [← delay, ← count]
  unfold State.pdelayResp
  rw [up, waits, Bool.and_self, Bool.not_true, if_neg Bool.false_ne_true]
  extract_lets u
  have counted : u = s.inc F.ETH.RX_FRAMES := rfl
  rw [← counted]
  clear_value u
  rfl

theorem State.pdelayResp_not (t1 t2 t3 t4 : Nat) (h : s.ethUp = false ∨ s.tb.pdWait = false) : s.pdelayResp t1 t2 t3 t4 = s := by
  have idle : (s.ethUp && s.tb.pdWait) = false := by
    rcases h with down | idle
    · rw [down]; rfl
    · rw [idle, Bool.and_false]
  rw [State.pdelayResp, idle]
  rfl

theorem State.fitJudged_spec (d ok : Nat) : (s.fitJudged d ok).tb.pdWait = s.tb.pdWait ∧ (s.fitJudged d ok).get F.TB.MEAN_LINK_DELAY = s.get F.TB.MEAN_LINK_DELAY ∧
    (s.get F.TB.PDELAY_THRESH < d → (s.fitJudged d ok).flag F.TB.TB_STAT_AS_CAPABLE = false) ∧
    (d ≤ s.get F.TB.PDELAY_THRESH → 3 ≤ ok → (s.fitJudged d ok).flag F.TB.TB_STAT_AS_CAPABLE = true) ∧
    (d ≤ s.get F.TB.PDELAY_THRESH → ok < 3 → (s.fitJudged d ok).flag F.TB.TB_STAT_AS_CAPABLE = s.flag F.TB.TB_STAT_AS_CAPABLE) := by
  unfold State.fitJudged
  split
  next far =>
    obtain ⟨flag, same, words⟩ := s.asCapable_false_spec
    exact ⟨(congrArg TbSt.pdWait same).trans rfl, words.get F.TB.MEAN_LINK_DELAY (by decide) (by decide) (by decide), fun _ => flag, fun near => by omega, fun near => by omega⟩
  next near =>
    split
    next often =>
      exact ⟨rfl, s.get_set_addr F.TB.TB_STAT_AS_CAPABLE F.TB.MEAN_LINK_DELAY _ (by decide), fun far => absurd far near,
        fun _ _ => s.flag_setFlag_same F.TB.TB_STAT_AS_CAPABLE true rfl (by decide), fun _ few => by omega⟩
    next few => exact ⟨rfl, rfl, fun far => absurd far near, fun _ often => absurd often few, fun _ _ => rfl⟩

/-! ### TIME_CONFIG (R318) -/

/-- Device time and its rate as TIME_CONFIG sets them. -/
def State.timeConfigured (p : List Byte) : State :=
  let s := s.set F.TB.TB_CTRL_STEP_THRESH (u16 p 2)
  let s : State := if u8 p 1 / 2 % 2 == 1 then { s with tb := { s.tb with rate := intAt p 12 4 } } else s
  let s := s.tbMode (u8 p 0)
  if u8 p 1 % 2 == 1 then s.timeStep ((u64 p 4 : Int) * 2 ^ 32 - s.time.fine) else s

theorem cmdTimeConfig_done (p : List Byte) (mode : u8 p 0 ≤ 2) (flags : u8 p 1 ≤ 3) (limit : u16 p 2 ≠ 0) (slave : u8 p 0 = 1 → u8 p 1 = 0)
    (rate : u8 p 1 / 2 % 2 = 1 → (intAt p 12 4).natAbs ≤ 500000) (on : s.domOn 78 = true) (forward : u8 p 1 % 2 = 1 → s.pw.st = .scanning → s.time.dev.toNat ≤ u64 p 4) :
    cmdTimeConfig s p = (s.timeConfigured p).done [] := by
  have back : (u8 p 1 % 2 == 1 && s.pw.st == .scanning && decide (u64 p 4 < s.time.dev.toNat)) = false := by
    rw [Bool.eq_false_iff]
    intro all
    simp only [Bool.and_eq_true, beq_iff_eq, decide_eq_true_eq] at all
    obtain ⟨⟨set, scanning⟩, before⟩ := all
    have := forward set scanning
    omega
  have plain : (decide (2 < u8 p 0 ∨ 3 < u8 p 1 ∨ u16 p 2 = 0) || (u8 p 0 == 1 && u8 p 1 != 0)) = false := by
    rw [Bool.or_eq_false_iff]
    refine ⟨decide_eq_false (by omega), ?_⟩
    rw [Bool.eq_false_iff]
    intro both
    simp only [Bool.and_eq_true, beq_iff_eq, bne_iff_ne] at both
    exact both.2 (slave both.1)
  have slow : (u8 p 1 / 2 % 2 == 1 && decide (500000 < (intAt p 12 4).natAbs)) = false := by
    rw [Bool.eq_false_iff]
    intro both
    simp only [Bool.and_eq_true, beq_iff_eq, decide_eq_true_eq] at both
    have := rate both.1
    omega
  unfold cmdTimeConfig
  refine s.guarded_pass _ _ ?_
  intro c mem
  simp only [List.mem_cons, List.not_mem_nil, or_false] at mem
  rcases mem with rfl | rfl | rfl | rfl
  · simp [State.needDom, State.badState, on]
  · exact back
  · exact plain
  · exact slow

theorem cmdTimeConfig_backward (p : List Byte) (set : u8 p 1 % 2 = 1) (on : s.domOn 78 = true) (scanning : s.pw.st = .scanning) (before : u64 p 4 < s.time.dev.toNat) :
    cmdTimeConfig s p = s.reply (.final 0x13 s.stateCode []) := by
  unfold cmdTimeConfig
  simp [State.guarded_cons, State.needDom, State.badState, on, set, scanning, before]

theorem State.tbMode_cases (m : Nat) : (m = 0 ∧ s.tbMode m = ((s.set F.TB.TB_CTRL_MODE m).tbAdj 0).tbState 0) ∨
    (m = 1 ∧ Disciplining (s.set F.TB.TB_CTRL_MODE m) (s.tbMode m)) ∨ (m ≠ 0 ∧ m ≠ 1 ∧ s.tbMode m = ((s.set F.TB.TB_CTRL_MODE m).tbAdj s.tb.rate).tbState 3) := by
  unfold State.tbMode
  dsimp only
  split
  next zero => exact .inl ⟨zero, rfl⟩
  next other =>
    split
    next one =>
      refine .inr (.inl ⟨one, ?_⟩)
      split
      · exact .refl _
      · exact .of_tb rfl rfl rfl
    next two => exact .inr (.inr ⟨other, two, rfl⟩)

theorem State.tbMode_steps (m : Nat) : Disciplining (s.set F.TB.TB_CTRL_MODE m) (s.tbMode m) := by
  rcases s.tbMode_cases m with ⟨-, eq⟩ | ⟨-, steps⟩ | ⟨-, -, eq⟩
  · rw [eq]; exact (State.tbAdj_steps _ _).trans (State.tbState_steps _ _)
  · exact steps
  · rw [eq]; exact (State.tbAdj_steps _ _).trans (State.tbState_steps _ _)

theorem State.tbMode_state (m : Nat) : (m = 0 → (s.tbMode m).tb.st = 0 ∧ (s.tbMode m).tb.adj = 0) ∧ (m = 2 → (s.tbMode m).tb.st = 3) := by
  rcases s.tbMode_cases m with ⟨zero, eq⟩ | ⟨one, -⟩ | ⟨other, -, eq⟩
  · obtain ⟨st, adj, -⟩ := ((s.set F.TB.TB_CTRL_MODE m).tbAdj 0).tbState_tb 0
    rw [eq]
    exact ⟨fun _ => ⟨st, adj.trans ((congrArg TbSt.adj ((s.set F.TB.TB_CTRL_MODE m).tbAdj_tb 0)).trans rfl)⟩, fun two => by omega⟩
  · exact ⟨fun zero => by omega, fun two => by omega⟩
  · rw [eq]
    exact ⟨fun zero => absurd zero other, fun _ => (State.tbState_tb _ 3).1⟩

/-- STEP_THRESH and the rate that TIME_CONFIG sets. -/
def State.timeLimits (p : List Byte) : State :=
  let s := s.set F.TB.TB_CTRL_STEP_THRESH (u16 p 2)
  if u8 p 1 / 2 % 2 == 1 then { s with tb := { s.tb with rate := intAt p 12 4 } } else s

theorem State.timeLimits_spec (p : List Byte) : (s.timeLimits p).time = s.time ∧ (s.timeLimits p).get F.TB.TB_CTRL_STEP_THRESH = u16 p 2 := by
  have limit : (s.set F.TB.TB_CTRL_STEP_THRESH (u16 p 2)).get F.TB.TB_CTRL_STEP_THRESH = u16 p 2 :=
    (s.get_set_same F.TB.TB_CTRL_STEP_THRESH _ rfl).trans (Nat.mod_eq_of_lt (beAt_lt p 2 2))
  unfold State.timeLimits
  dsimp only
  split
  · exact ⟨rfl, limit⟩
  · exact ⟨rfl, limit⟩

/-- Device time as TIME_CONFIG sets it. -/
def State.timeSet (p : List Byte) : State := if u8 p 1 % 2 == 1 then s.timeStep ((u64 p 4 : Int) * 2 ^ 32 - s.time.fine) else s

theorem State.timeConfigured_eq (p : List Byte) : s.timeConfigured p = ((s.timeLimits p).tbMode (u8 p 0)).timeSet p := rfl

theorem State.timeStep_words (d : Int) : BlockWords (fun a => a = 0x4002070 ∨ a = 0x4002024) s (s.timeStep d) := by
  rw [State.timeStep_eq]
  exact (BlockWords.of_regs (t := s.timeMoved d) rfl).trans ((s.timeMoved d).stepTold_words d)

/-- A step to the time `t`. -/
theorem State.timeStep_to (t : Nat) : (s.timeStep ((t : Int) * 2 ^ 32 - s.time.fine)).time.dev = BitVec.ofNat 64 t ∧ (s.timeStep ((t : Int) * 2 ^ 32 - s.time.fine)).time.frac = 0 := by
  have target : (s.time.fine : Int) + ((t : Int) * 2 ^ 32 - s.time.fine) = (t : Int) * 2 ^ 32 := by omega
  rw [s.timeStep_time, target, TimeSt.ofFine]
  refine ⟨?_, ?_⟩
  · show BitVec.ofInt 64 ((t : Int) * 2 ^ 32 / 2 ^ 32) = _
    rw [Int.mul_ediv_cancel _ (by decide), BitVec.ofInt_natCast]
  · show (((t : Int) * 2 ^ 32) % 2 ^ 32).toNat = 0
    rw [Int.mul_emod_left]
    rfl

theorem State.timeSet_spec (p : List Byte) : (s.timeSet p).tb = s.tb ∧ (u8 p 1 % 2 = 0 → (s.timeSet p).time = s.time) ∧
    (u8 p 1 % 2 = 1 → (s.timeSet p).time.dev = BitVec.ofNat 64 (u64 p 4) ∧ (s.timeSet p).time.frac = 0) ∧ BlockWords (fun a => a = 0x4002070 ∨ a = 0x4002024) s (s.timeSet p) := by
  unfold State.timeSet
  split
  next set => exact ⟨s.timeStep_tb _, fun keep => absurd (eq_of_beq set) (by omega), fun _ => s.timeStep_to _, s.timeStep_words _⟩
  next keep => exact ⟨rfl, fun _ => rfl, fun set => absurd (beq_iff_eq.2 set) keep, .refl s⟩

/-- R318: what TIME_CONFIG leaves. -/
theorem State.timeConfigured_spec (p : List Byte) (mode : u8 p 0 ≤ 2) : (s.timeConfigured p).get F.TB.TB_CTRL_MODE = u8 p 0 ∧ (s.timeConfigured p).get F.TB.TB_CTRL_STEP_THRESH = u16 p 2 ∧
    (u8 p 1 % 2 = 0 → (s.timeConfigured p).time = s.time) ∧ (u8 p 1 % 2 = 1 → (s.timeConfigured p).time.dev = BitVec.ofNat 64 (u64 p 4) ∧ (s.timeConfigured p).time.frac = 0) ∧
    (u8 p 0 = 0 → (s.timeConfigured p).tb.st = 0 ∧ (s.timeConfigured p).tb.adj = 0) ∧ (u8 p 0 = 2 → (s.timeConfigured p).tb.st = 3) := by
  obtain ⟨tb, keep, set, words⟩ := ((s.timeLimits p).tbMode (u8 p 0)).timeSet_spec p
  obtain ⟨free, held⟩ := (s.timeLimits p).tbMode_state (u8 p 0)
  obtain ⟨time, limit⟩ := s.timeLimits_spec p
  have steps := (s.timeLimits p).tbMode_steps (u8 p 0)
  rw [s.timeConfigured_eq, tb]
  refine ⟨?_, ?_, fun no => (keep no).trans (steps.time.trans time), set, free, held⟩
  · rw [words.get F.TB.TB_CTRL_MODE (by decide) (by decide) (by decide), steps.get F.TB.TB_CTRL_MODE (by decide) (by decide) (by decide)]
    exact (State.get_set_same _ F.TB.TB_CTRL_MODE _ rfl).trans (Nat.mod_eq_of_lt (show u8 p 0 < 4 by omega))
  · rw [words.get F.TB.TB_CTRL_STEP_THRESH (by decide) (by decide) (by decide), steps.get F.TB.TB_CTRL_STEP_THRESH (by decide) (by decide) (by decide)]
    exact (State.get_set_bits _ F.TB.TB_CTRL_MODE F.TB.TB_CTRL_STEP_THRESH _ rfl (by decide)).trans limit

/-! ### The SYNC pin (R319 to R322) -/

/-- What SYNC_CONFIG sets. -/
def State.syncConfigured (role ofs : Nat) : State :=
  let s := (s.set F.SYN.SYNC_CTRL_ROLE role).set F.SYN.SLOT_OFFSET ofs
  ({ s with sync := { s.sync with near := 0 } } : State).set F.SYN.SYNC_STAT_LOCKED 0

theorem State.syncConfigured_spec (role ofs : Nat) (low : role < 4) (word : ofs < 2 ^ 32) : (s.syncConfigured role ofs).get F.SYN.SYNC_CTRL_ROLE = role ∧
    (s.syncConfigured role ofs).get F.SYN.SLOT_OFFSET = ofs ∧ (s.syncConfigured role ofs).flag F.SYN.SYNC_STAT_LOCKED = false ∧
    s.syncConfigured role ofs = { s with regs := (s.syncConfigured role ofs).regs, sync := { s.sync with near := 0 } } := by
  refine ⟨?_, ?_, State.flag_setFlag_same _ F.SYN.SYNC_STAT_LOCKED false rfl (by decide), rfl⟩
  · rw [State.syncConfigured, State.get_set_addr _ _ _ _ (by decide)]
    exact (State.get_set_addr (s.set F.SYN.SYNC_CTRL_ROLE role) F.SYN.SLOT_OFFSET F.SYN.SYNC_CTRL_ROLE ofs (by decide)).trans ((s.get_set_same F.SYN.SYNC_CTRL_ROLE role rfl).trans (Nat.mod_eq_of_lt low))
  · rw [State.syncConfigured, State.get_set_addr _ _ _ _ (by decide)]
    exact (State.get_set_same _ F.SYN.SLOT_OFFSET ofs rfl).trans (Nat.mod_eq_of_lt word)

/-- The payload of SYNC_CONFIG. -/
def syncOperands (role : Byte) (ofs : BitVec 32) : List Byte := [role] ++ zeros 3 ++ beBytes 4 ofs.toNat

theorem syncOperands_fields (role : Byte) (ofs : BitVec 32) : u8 (syncOperands role ofs) 0 = role.toNat ∧ notZero (syncOperands role ofs) 1 3 = false ∧ u32 (syncOperands role ofs) 4 = ofs.toNat :=
  ⟨ofBe_byte role, notZero_zeros_between [role] (beBytes 4 ofs.toNat) 1 3 rfl, ofBe_beBytes_four ofs⟩

theorem cmdSyncConfig_done (role : Byte) (ofs : BitVec 32) (low : role.toNat ≤ 2) (ready : s.pw.st = .ready) :
    cmdSyncConfig s (syncOperands role ofs) = (s.syncConfigured role.toNat ofs.toNat).done [] := by
  obtain ⟨first, spare, word⟩ := syncOperands_fields role ofs
  unfold cmdSyncConfig
  rw [first, spare, word, s.guarded_pass _ _ (by simp [State.badState, badParam, ready]; omega)]
  rfl

theorem cmdSyncConfig_refused (p : List Byte) (other : s.pw.st ≠ .ready) : cmdSyncConfig s p = s.reply (.final 0x13 s.stateCode []) := by
  unfold cmdSyncConfig
  simp [State.guarded_cons, State.badState, other]

/-- A pulse of class COLUMN is counted and seen. -/
def State.columnPulse : State := (s.inc F.SYN.PULSES_COLUMN).set F.SYN.SYNC_STAT_SEEN 1

theorem State.syncPulse_other (w gap : Nat) (e : Int) (other : s.get F.SYN.SYNC_CTRL_ROLE ≠ 2) : s.syncPulse w e gap = s := if_pos other

theorem State.syncPulse_bad (w gap : Nat) (e : Int) (follows : s.get F.SYN.SYNC_CTRL_ROLE = 2) (bad : w < 50 ∨ 600 < w) : s.syncPulse w e gap = s.inc F.SYN.PULSES_BAD := by
  have none_ : pulseClass w = none := by rw [pulseClass, if_neg (by omega), if_neg (by omega), if_neg (by omega)]
  rw [State.syncPulse, if_neg (not_not.2 follows), none_]

theorem State.syncPulse_column (w gap : Nat) (e : Int) (follows : s.get F.SYN.SYNC_CTRL_ROLE = 2) (least : 50 ≤ w) (most : w ≤ 150) : s.syncPulse w e gap =
    match s.scan.phase with
    | .settling => s.columnPulse.followWait 0 gap
    | .fixed | .running => s.columnPulse.followAlign 0 e
    | .idle => s.columnPulse := by
  have column : pulseClass w = some 0 := if_pos ⟨least, most⟩
  rw [State.syncPulse, if_neg (not_not.2 follows), column]
  rfl

/-- A boundary's error is kept. -/
def State.alignKept (near : Nat) (shifts : List (Nat × Int)) : State := { s with sync := { s.sync with near := near, shifts := shifts } }

/-- A boundary's error and the frequency are shown, and LOCKED follows the boundaries in step. -/
def State.alignShown (e f : Int) (near : Nat) : State :=
  let s := (s.setI F.SYN.ERR_E e).setI F.SYN.FREQ_F f
  (if near = 0 then s.set F.SYN.SYNC_STAT_LOCKED 0 else s.when (decide (64 ≤ near)) (fun s => s.set F.SYN.SYNC_STAT_LOCKED 1)).publish F.SYN.SYNC_RES_ST

/-- The boundaries in step. -/
def State.nearCount (e : Int) : Nat := if e.natAbs ≤ 4 then s.sync.near + 1 else 0

theorem State.followAlign_column (e : Int) : ∃ f shifts, s.followAlign 0 e = (s.alignKept (s.nearCount e) shifts).alignShown e f (s.nearCount e) := by
  unfold State.followAlign
  dsimp only
  exact ⟨_, _, rfl⟩

/-- LOCKED after a boundary. -/
def State.lockFollows (near : Nat) : State := if near = 0 then s.set F.SYN.SYNC_STAT_LOCKED 0 else s.when (decide (64 ≤ near)) (fun s => s.set F.SYN.SYNC_STAT_LOCKED 1)

theorem State.lockFollows_words (near : Nat) : BlockWords (fun a => a = 0x400300C) s (s.lockFollows near) := by
  unfold State.lockFollows
  split
  · exact .set s F.SYN.SYNC_STAT_LOCKED 0 rfl
  · exact BlockWords.when (own := fun a => a = 0x400300C) _ (fun u => .set u F.SYN.SYNC_STAT_LOCKED 1 rfl) s

theorem State.lockFollows_sync (near : Nat) : (s.lockFollows near).sync = s.sync := by
  unfold State.lockFollows
  split
  · rfl
  · exact State.when_field State.sync _ (fun s => s.set F.SYN.SYNC_STAT_LOCKED 1) (fun _ => rfl) s

theorem State.lockFollows_flag (near : Nat) : (near = 0 → (s.lockFollows near).flag F.SYN.SYNC_STAT_LOCKED = false) ∧ (64 ≤ near → (s.lockFollows near).flag F.SYN.SYNC_STAT_LOCKED = true) := by
  unfold State.lockFollows
  refine ⟨fun zero => ?_, fun many => ?_⟩
  · rw [if_pos zero]
    exact s.flag_setFlag_same F.SYN.SYNC_STAT_LOCKED false rfl (by decide)
  · rw [if_neg (by omega), decide_eq_true many]
    exact s.flag_set_one F.SYN.SYNC_STAT_LOCKED rfl rfl

theorem State.alignShown_eq (e f : Int) (near : Nat) : s.alignShown e f near = (((s.setI F.SYN.ERR_E e).setI F.SYN.FREQ_F f).lockFollows near).publish F.SYN.SYNC_RES_ST := rfl

theorem State.get_publish (st g : Fld) (other : g.addr ≠ st.addr) : (s.publish st).get g = s.get g :=
  (State.get_set_addr (s.set ⟨st.addr, 31, 1⟩ 1) ⟨st.addr, 0, 16⟩ g _ other).trans (s.get_set_addr ⟨st.addr, 31, 1⟩ g 1 other)

theorem State.alignShown_spec (e f : Int) (near : Nat) : (s.alignShown e f near).get F.SYN.ERR_E = unsigned 32 e ∧ (s.alignShown e f near).sync = s.sync ∧
    (near = 0 → (s.alignShown e f near).flag F.SYN.SYNC_STAT_LOCKED = false) ∧ (64 ≤ near → (s.alignShown e f near).flag F.SYN.SYNC_STAT_LOCKED = true) ∧
    (s.alignShown e f near).get F.SYN.PULSES_COLUMN = s.get F.SYN.PULSES_COLUMN := by
  have last (u : State) (g : Fld) (other : g.addr ≠ F.SYN.SYNC_RES_ST.addr) : (u.publish F.SYN.SYNC_RES_ST).get g = u.get g := u.get_publish F.SYN.SYNC_RES_ST g other
  have words := ((s.setI F.SYN.ERR_E e).setI F.SYN.FREQ_F f).lockFollows_words near
  obtain ⟨clears, sets⟩ := ((s.setI F.SYN.ERR_E e).setI F.SYN.FREQ_F f).lockFollows_flag near
  have locked : (s.alignShown e f near).flag F.SYN.SYNC_STAT_LOCKED = (((s.setI F.SYN.ERR_E e).setI F.SYN.FREQ_F f).lockFollows near).flag F.SYN.SYNC_STAT_LOCKED := by
    rw [s.alignShown_eq, State.flag, last _ F.SYN.SYNC_STAT_LOCKED (by decide)]
    rfl
  refine ⟨?_, ?_, fun zero => locked.trans (clears zero), fun many => locked.trans (sets many), ?_⟩
  · rw [s.alignShown_eq, last _ F.SYN.ERR_E (by decide), words.get F.SYN.ERR_E (by decide) (by decide) (by decide)]
    refine (State.get_set_addr (s.setI F.SYN.ERR_E e) F.SYN.FREQ_F F.SYN.ERR_E _ (by decide)).trans ((s.get_set_same F.SYN.ERR_E _ rfl).trans (Nat.mod_eq_of_lt ?_))
    show unsigned 32 e < 2 ^ 32
    unfold unsigned
    omega
  · rw [s.alignShown_eq, State.publish_sync]
    exact ((s.setI F.SYN.ERR_E e).setI F.SYN.FREQ_F f).lockFollows_sync near
  · rw [s.alignShown_eq, last _ F.SYN.PULSES_COLUMN (by decide), words.get F.SYN.PULSES_COLUMN (by decide) (by decide) (by decide)]
    exact (State.get_set_addr (s.setI F.SYN.ERR_E e) F.SYN.FREQ_F _ _ (by decide)).trans (s.get_set_addr F.SYN.ERR_E _ _ (by decide))

/-- R321: a boundary of a scan that runs. -/
theorem State.columnPulse_aligned (e : Int) : (s.columnPulse.followAlign 0 e).get F.SYN.ERR_E = unsigned 32 e ∧
    (s.columnPulse.followAlign 0 e).sync.near = (if e.natAbs ≤ 4 then s.sync.near + 1 else 0) ∧
    (4 < e.natAbs → (s.columnPulse.followAlign 0 e).flag F.SYN.SYNC_STAT_LOCKED = false) ∧
    (e.natAbs ≤ 4 → 63 ≤ s.sync.near → (s.columnPulse.followAlign 0 e).flag F.SYN.SYNC_STAT_LOCKED = true) ∧
    (s.columnPulse.followAlign 0 e).get F.SYN.PULSES_COLUMN = min (s.get F.SYN.PULSES_COLUMN + 1) (2 ^ F.SYN.PULSES_COLUMN.wd - 1) := by
  obtain ⟨f, shifts, eq⟩ := s.columnPulse.followAlign_column e
  obtain ⟨shown, sync, clears, sets, count⟩ := (s.columnPulse.alignKept (s.columnPulse.nearCount e) shifts).alignShown_spec e f (s.columnPulse.nearCount e)
  have near : s.columnPulse.nearCount e = if e.natAbs ≤ 4 then s.sync.near + 1 else 0 := rfl
  rw [eq]
  refine ⟨shown, (congrArg SyncSt.near sync).trans near, fun far => clears (by rw [near, if_neg (by omega)]), fun close many => sets (by rw [near, if_pos close]; omega), count.trans ?_⟩
  exact (State.get_set_addr (s.inc F.SYN.PULSES_COLUMN) F.SYN.SYNC_STAT_SEEN F.SYN.PULSES_COLUMN 1 (by decide)).trans (s.get_inc F.SYN.PULSES_COLUMN rfl)

/-- The pulses are lost. -/
def State.pulsesLost : State :=
  (({ s.set F.SYN.SYNC_STAT_SEEN 0 with sync := { s.sync with near := 0 } } : State).set F.SYN.SYNC_STAT_LOCKED 0).set F.SYN.SYNC_STAT_LOST 1

theorem State.syncLost_running (follows : s.get F.SYN.SYNC_CTRL_ROLE = 2) (running : s.scan.phase = .running) (first : s.flag F.SYN.SYNC_STAT_LOST = false) :
    s.syncLost = s.pulsesLost.raise EV_SYNC_LOST 0 0 := by
  unfold State.syncLost
  rw [if_neg (not_not.2 follows), first, Bool.not_false, Bool.or_true]
  exact if_pos ⟨running, rfl⟩

theorem State.pulsesLost_spec : s.pulsesLost.flag F.SYN.SYNC_STAT_LOST = true ∧ s.pulsesLost.flag F.SYN.SYNC_STAT_LOCKED = false ∧ SameRegs s s.pulsesLost [F.SYN.SYNC_STAT_LOST.addr] ∧
    s.pulsesLost.sync.near = 0 := by
  refine ⟨State.flag_set_one _ F.SYN.SYNC_STAT_LOST rfl rfl, ?_, fun a other => ?_, rfl⟩
  · rw [State.pulsesLost, State.flag, State.get_set_bits _ F.SYN.SYNC_STAT_LOST F.SYN.SYNC_STAT_LOCKED 1 rfl (by decide)]
    exact State.flag_setFlag_same _ F.SYN.SYNC_STAT_LOCKED false rfl (by decide)
  · have away : a ≠ 0x400300C := fun same => other (List.mem_singleton.2 same)
    exact (State.rd_set_ne _ F.SYN.SYNC_STAT_LOST 1 a away).trans ((State.rd_set_ne _ F.SYN.SYNC_STAT_LOCKED 0 a away).trans (s.rd_set_ne F.SYN.SYNC_STAT_SEEN 0 a away))

/-- FILTER_SYNC outside a follower's and a driver's role. -/
theorem cmdFilterSync_alone (free : s.rangeBusy 0x0802 = false) (alone : s.get F.SYN.SYNC_CTRL_ROLE = 0) :
    cmdFilterSync s = ⟨.accepted 0, s, fun t => t.hkSyncEdge.complete 0x0802 0 0 []⟩ := by
  rw [cmdFilterSync, alone]
  exact if_neg (by rw [free]; exact Bool.false_ne_true)

theorem State.accept_free (op : Nat) (go : State) (tag : Nat) (free : s.rangeBusy op = false) : s.accept op go tag = go.reply (.accepted tag) :=
  if_neg (by rw [free]; exact Bool.false_ne_true)

theorem cmdFilterSync_drives (free : s.rangeBusy 0x0802 = false) (drives : s.get F.SYN.SYNC_CTRL_ROLE = 1) :
    cmdFilterSync s = (if s.scan.phase = .running then ({ s with sync := { s.sync with filter := true } } : State) else s.emit (.syncPulse 2)).reply (.accepted 0) := by
  rw [cmdFilterSync, drives]
  exact s.accept_free 0x0802 _ 0 free

theorem cmdFilterSync_follows (free : s.rangeBusy 0x0802 = false) (follows : s.get F.SYN.SYNC_CTRL_ROLE = 2) : cmdFilterSync s = s.reply (.accepted 0) := by
  rw [cmdFilterSync, follows]
  exact s.accept_free 0x0802 _ 0 free

end

/-! ### The statement -/

/-- A Sync over the link. -/
theorem sync_messages (rx org : BitVec 64) (corr ratio log : Int) :
    Happens (.gptpSync rx org corr ratio log true) (fun s => s.ethUp = false) Nothing ∧
    Happens (.gptpSync rx org corr ratio log false) (fun s => s.ethUp = true) (fun s t => t = ((s.inc F.ETH.RX_FRAMES).inc F.TB.SYNC_RX).inc F.TB.FOLLOWUP_MISS) ∧
    Happens (.gptpSync rx org corr ratio log true) (fun s => s.ethUp = true ∧ (s.get F.TB.TB_CTRL_MODE ≠ 1 ∨ s.flag F.TB.TB_STAT_GM_PRESENT = false ∨ s.flag F.TB.TB_STAT_AS_CAPABLE = false))
      (fun s t => t = (s.inc F.ETH.RX_FRAMES).inc F.TB.SYNC_RX) ∧
    Happens (.gptpSync rx org corr ratio log true) (fun s => s.syncUsable ∧ s.offsetBig (s.syncOffset rx.toNat org.toNat corr) = false ∧ s.tb.st = 2)
      (fun s t => t.time = s.time ∧ t.tb.integ = (servo s.tb.integ (s.syncOffset rx.toNat org.toNat corr) ratio log).1 ∧
        t.tb.adj = (servo s.tb.integ (s.syncOffset rx.toNat org.toNat corr) ratio log).2 ∧ t.get F.TB.OFFSET = unsigned 32 (sat32 (s.syncOffset rx.toNat org.toNat corr / 2 ^ 16))) ∧
    Happens (.gptpSync rx org corr ratio log true) (fun s => s.syncUsable ∧ s.offsetBig (s.syncOffset rx.toNat org.toNat corr) = true ∧ (s.syncOffset rx.toNat org.toNat corr < 0 ∨ s.pw.st ≠ .scanning))
      (fun s t => t.time = s.time.ofFine (s.time.fine + -(s.syncOffset rx.toNat org.toNat corr) * 2 ^ 16) ∧ t.tb.st = 1 ∧ t.tb.integ = 0 ∧
        t.get F.TB.STEPS = min (s.get F.TB.STEPS + 1) (2 ^ F.TB.STEPS.wd - 1)) ∧
    Happens (.gptpSync rx org corr ratio log true) (fun s => s.syncUsable ∧ s.offsetBig (s.syncOffset rx.toNat org.toNat corr) = true ∧ 0 ≤ s.syncOffset rx.toNat org.toNat corr ∧ s.pw.st = .scanning)
      (fun s t => t.time = s.time ∧ t.tb.st = 1 ∧ t.tb.integ = 0 ∧ t.tb.adj = (servo 0 (s.syncOffset rx.toNat org.toNat corr) ratio log).2) :=
  ⟨.of_effect (fun _ => rfl) fun s down => s.gptpSync_down _ _ _ _ _ _ down, .of_effect (fun _ => rfl) fun s up => s.gptpSync_missing _ _ _ _ _ up,
    .of_effect (fun _ => rfl) fun s ⟨up, unused⟩ => s.gptpSync_unused _ _ _ _ _ up unused, .of_effect (fun _ => rfl) fun s ⟨usable, small, locked⟩ => s.gptpSync_small _ _ _ _ _ usable small locked,
    .of_effect (fun _ => rfl) fun s ⟨usable, big, allowed⟩ => s.gptpSync_steps _ _ _ _ _ usable big allowed,
    .of_effect (fun _ => rfl) fun s ⟨usable, big, ahead, scanning⟩ => s.gptpSync_held _ _ _ _ _ usable big ahead scanning⟩

/-- Settles O50. -/
theorem timeAndSync : Obligations.TimeAndSync := by
  unfold Obligations.TimeAndSync
  refine ⟨fun via seq b len mode flags limit slave rate => ⟨.of_handler rfl fun u ⟨on, forward⟩ => ⟨u.timeConfigured b, cmdTimeConfig_done u b mode flags limit slave rate on forward, u.timeConfigured_spec b mode⟩,
      fun set => .of_handler rfl fun u ⟨on, scanning, before⟩ => cmdTimeConfig_backward u b set on scanning before⟩,
    fun rx org corr ratio log => sync_messages rx org corr ratio log, servo_bounds,
    fun b => ⟨.of_effect (fun _ => rfl) fun s ⟨up, other⟩ => s.gptpAnnounce_other b up other, fun len kind domain => .of_effect (fun _ => rfl) fun s ⟨up, better⟩ => ?announce⟩,
    .of_effect (fun _ => rfl) fun s ⟨up, idle⟩ => ?asks, .of_effect (fun _ => rfl) fun s ⟨up, waits⟩ => ?fails, fun q len => .of_effect (fun _ => rfl) fun s up => ?answers,
    fun t1 t2 t3 t4 => ⟨.of_effect (fun _ => rfl) fun s ⟨up, waits⟩ => ?delay, .of_effect (fun _ => rfl) fun s h => s.pdelayResp_not _ _ _ _ h⟩,
    fun ann => ⟨.of_effect (fun _ => rfl) fun s ⟨on, mode, live⟩ => ?holdover, .of_effect (fun _ => rfl) fun s off => ?noHoldover⟩,
    fun via seq role ofs low => ⟨.of_handler rfl fun u ready => ⟨u.syncConfigured role.toNat ofs.toNat, cmdSyncConfig_done u role ofs low ready, ?config⟩,
      .of_handler rfl fun u other => cmdSyncConfig_refused u _ other⟩,
    fun via seq => ⟨.of_handler rfl fun u ⟨free, follows⟩ => ⟨u, cmdFilterSync_follows u free follows, rfl⟩, .of_handler rfl fun u ⟨free, drives, running⟩ => ⟨_, ?filterRuns, rfl⟩,
      .of_handler rfl fun u ⟨free, drives, still⟩ => ⟨_, ?filterStill, rfl⟩, fun s p u runs free alone => ?filterAlone⟩,
    .of_effect (fun _ => rfl) fun s _ => rfl, .of_effect (fun _ => rfl) fun s role => if_neg role, .of_effect (fun _ => rfl) fun s alone => if_pos alone,
    fun w gap e => ⟨.of_effect (fun _ => rfl) fun s other => s.syncPulse_other w gap e other, fun bad => .of_effect (fun _ => rfl) fun s follows => s.syncPulse_bad w gap e follows bad,
      fun least most => .of_effect (fun _ => rfl) fun s ⟨follows, idle⟩ => ?idlePulse, fun least most => .of_effect (fun _ => rfl) fun s ⟨follows, running⟩ => ?pulse⟩,
    .of_effect (fun _ => rfl) fun s ⟨follows, running, first⟩ => ⟨s.pulsesLost, s.syncLost_running follows running first, s.pulsesLost_spec⟩,
    .of_effect (fun _ => rfl) fun s other => if_pos other, .of_effect (fun _ => rfl) fun s ⟨follows, settling, counted⟩ => ?absent,
    .of_effect (fun _ => rfl) fun s other => if_neg fun ⟨follows, settling, _⟩ => other.elim (fun away => away follows) fun away => away settling⟩
  case announce =>
    obtain ⟨tb, hi, lo, flag⟩ := (s.inc F.ETH.RX_FRAMES).mastered_spec b
    rw [s.gptpAnnounce_taken b up len kind domain (s.masterTaken_of b better)]
    exact ⟨tb, hi, lo, flag⟩
  case asks =>
    rw [s.pdelayExchange_up up, idle]
    exact ⟨rfl, s.peerAsked_counts, rfl⟩
  case fails =>
    obtain ⟨flag, count, fails⟩ := s.peerFailed_spec
    have words := s.peerFailed.peerAsked_words
    rw [s.pdelayExchange_up up, waits, if_pos rfl]
    exact ⟨(words.flag F.TB.TB_STAT_AS_CAPABLE (by decide) (by decide) (by decide)).trans flag, count, rfl,
      (words.get F.TB.PDELAY_FAIL (by decide) (by decide) (by decide)).trans fails⟩
  case answers =>
    rw [s.pdelayReq_up q up]
    exact (s.inc F.ETH.RX_FRAMES).peerAnswered_spec q len
  case delay =>
    obtain ⟨wait, mean, far, fit, early⟩ := ((s.inc F.ETH.RX_FRAMES).delayKnown (s.linkDelay t1.toNat t2.toNat t3.toNat t4.toNat)).fitJudged_spec
      (s.linkDelay t1.toNat t2.toNat t3.toNat t4.toNat) (s.tb.pdOk + 1)
    obtain ⟨limit, known, capable⟩ := s.delayKnown_spec (s.linkDelay t1.toNat t2.toNat t3.toNat t4.toNat)
    rw [limit] at far fit early
    rw [s.pdelayResp_waiting _ _ _ _ up waits]
    exact ⟨wait, mean.trans known, far, fun near often => fit near (by omega), fun near few => (early near (by omega)).trans capable⟩
  case holdover =>
    rw [s.holdoverTimeout_on ann on]
    cases ann
    · obtain ⟨st, shown, -, -⟩ := s.holdover_enters on mode live
      exact ⟨st, shown, fun no => absurd no (by decide)⟩
    · obtain ⟨same, kept, tb, flag⟩ := s.masterLost_spec
      obtain ⟨st, shown, master, present⟩ := s.masterLost.holdover_enters (same.trans on) (kept.trans mode) (by rw [tb]; exact live)
      exact ⟨st, shown, fun _ => ⟨master.trans (by rw [tb]), present.trans flag⟩⟩
  case noHoldover =>
    rw [State.holdoverTimeout, off]
    rfl
  case config => exact u.syncConfigured_spec role.toNat ofs.toNat (by omega) ofs.isLt
  case filterRuns => exact (cmdFilterSync_drives u free drives).trans (by rw [if_pos running])
  case filterStill => exact (cmdFilterSync_drives u free drives).trans (by rw [if_neg still])
  case filterAlone =>
    obtain ⟨rfl, exec⟩ := runs.exec_row rfl
    have handler : runOp via u 0x0802 [] = ⟨.accepted 0, u, fun t => t.hkSyncEdge.complete 0x0802 0 0 []⟩ := cmdFilterSync_alone u free alone
    rw [exec, handler]
    rfl
  case idlePulse => rw [s.syncPulse_column w gap e follows least most, idle]; rfl
  case pulse =>
    rw [s.syncPulse_column w gap e follows least most, running]
    exact s.columnPulse_aligned e
  case absent =>
    refine if_pos ⟨follows, settling, ?_⟩
    rw [Option.isSome_iff_ne_none.2 counted]
    rfl

end Sys2Proof.Machine
end

section
/-! PROOFS. Calibration runs (R397 to R406): the command, its end, the automatic run, what an item's end shows, and the record that a run's last item writes. -/
namespace Sys2Proof.Machine

section
variable (s : State)

/-! ### CAL_RUN and the automatic run (R397, R398) -/

/-- The payload of CAL_RUN. -/
def calRunOperands (items : BitVec 16) : List Byte := beBytes 2 items.toNat ++ zeros 2

theorem calRunOperands_fields (items : BitVec 16) : u16 (calRunOperands items) 0 = items.toNat ∧ notZero (calRunOperands items) 2 2 = false :=
  ⟨ofBe_beBytes_two items, notZero_append_zeros (beBytes 2 items.toNat) 2 2 rfl⟩

/-- The items that a mask names. -/
def maskedItems (m : Nat) : List Nat := (List.range 4).filter (fun i => m / 2 ^ i % 2 == 1)

theorem maskedItems_bits (m : BitVec 16) : (List.range 4).filter (fun i => m.getLsbD i) = maskedItems m.toNat := by
  refine List.filter_congr fun i _ => ?_
  rw [BitVec.getLsbD, Nat.testBit_eq_decide_div_mod_eq]
  rfl

theorem maskedItems_eq_nil (m : Nat) (low : m < 16) : maskedItems m = [] ↔ m = 0 := by
  revert m
  decide

/-- A reload that waits turns an acceptance away only (R454). -/
theorem State.afterReload_final (status detail : Nat) (d : List Byte) : s.afterReload (s.reply (.final status detail d)) = s.reply (.final status detail d) := by
  unfold State.afterReload
  split <;> rfl

theorem cmdCalRun_starts (items : BitVec 16) (some_ : items.toNat ≠ 0) (low : items.toNat < 16) (ready : s.pw.st = .ready) (mean : s.th.mean.isSome = true)
    (free : s.rangeBusy 0x0805 = false) (idle : s.flag F.CAL.CAL_STAT_BUSY = false) :
    cmdCalRun s (calRunOperands items) = (s.calBegin (maskedItems items.toNat) true).reply (.accepted 0) := by
  obtain ⟨mask, spare⟩ := calRunOperands_fields items
  unfold cmdCalRun
  rw [mask, spare, s.guarded_pass _ _ (by simp [State.badState, badParam, ready, mean, some_, low]), idle]
  exact s.accept_free 0x0805 _ 0 free

theorem cmdCalRun_mask (items : BitVec 16) (out : items.toNat = 0 ∨ 16 ≤ items.toNat) (ready : s.pw.st = .ready) (mean : s.th.mean.isSome = true) :
    cmdCalRun s (calRunOperands items) = s.reply (.final 0x12 0 []) := by
  obtain ⟨mask, spare⟩ := calRunOperands_fields items
  have bad : (items.toNat == 0 || decide (16 ≤ items.toNat) || notZero (calRunOperands items) 2 2) = true := by simpa [spare] using out
  unfold cmdCalRun
  rw [mask, State.guarded_cons, State.guarded_cons, State.guarded_cons, bad, State.badState, badParam, ready, Option.isNone_eq_false_iff.2 mean]
  rfl

theorem cmdCalRun_state (p : List Byte) (other : s.pw.st ≠ .ready) : cmdCalRun s p = s.reply (.final 0x13 s.stateCode []) := by
  unfold cmdCalRun
  simp [State.guarded_cons, State.badState, other]

theorem cmdCalRun_noMean (p : List Byte) (ready : s.pw.st = .ready) (mean : s.th.mean = none) : cmdCalRun s p = s.reply (.final 0x8D 0 []) := by
  unfold cmdCalRun
  simp [State.guarded_cons, State.badState, ready, mean]

theorem State.calBegin_spec (items : List Nat) (manual : Bool) (mean : s.th.mean.isSome = true) :
    SameRegs s (s.calBegin items manual) [F.CAL.CAL_STAT_BUSY.addr] ∧ (s.calBegin items manual).flag F.CAL.CAL_STAT_BUSY = true ∧
      ∃ r, (s.calBegin items manual).cal.run = some r ∧ r.items = items ∧ r.manual = manual ∧ some r.start = s.th.mean := by
  refine ⟨fun a other => State.rd_set_ne _ F.CAL.CAL_STAT_BUSY 1 a fun same => other (List.mem_singleton.2 same), State.flag_set_one _ F.CAL.CAL_STAT_BUSY rfl rfl, _, rfl, rfl, rfl, ?_⟩
  obtain ⟨t, known⟩ := Option.isSome_iff_exists.1 mean
  rw [known]
  rfl

/-- Whether an automatic run begins (R398). -/
def State.mayCalibrate : Prop :=
  s.domOn 65 = true ∧ s.pw.st = .ready ∧ s.flag F.CAL.CAL_CTRL_AUTO = true ∧ s.get F.TH.TH_STAT_LEVEL = 0 ∧ s.rangeBusy 0x0805 = false ∧ s.flag F.CAL.CAL_STAT_BUSY = false ∧
    s.get F.CAL.CAL_STAT_DUE ≠ 0 ∧ s.th.mean.isSome = true

theorem State.get_due_lt : s.get F.CAL.CAL_STAT_DUE < 16 := Nat.mod_lt _ (by decide)

theorem State.calAuto_begins (may : s.mayCalibrate) : s.calAuto = s.calBegin (maskedItems (s.get F.CAL.CAL_STAT_DUE)) false := by
  obtain ⟨on, ready, auto, level, free, idle, due, mean⟩ := may
  have some_ : (maskedItems (s.get F.CAL.CAL_STAT_DUE)).isEmpty = false :=
    List.isEmpty_eq_false_iff.2 fun none => due ((maskedItems_eq_nil _ s.get_due_lt).1 none)
  refine if_pos ?_
  change (s.domOn 65 && s.pw.st == .ready && s.flag F.CAL.CAL_CTRL_AUTO && s.get F.TH.TH_STAT_LEVEL == 0 && !s.rangeBusy 0x0805 &&
    !s.flag F.CAL.CAL_STAT_BUSY && !(maskedItems (s.get F.CAL.CAL_STAT_DUE)).isEmpty && s.th.mean.isSome) = true
  rw [on, ready, auto, level, free, idle, some_, mean]
  rfl

theorem State.calAuto_not (not : ¬ s.mayCalibrate) : s.calAuto = s := by
  refine if_neg fun all => not ?_
  change (s.domOn 65 && s.pw.st == .ready && s.flag F.CAL.CAL_CTRL_AUTO && s.get F.TH.TH_STAT_LEVEL == 0 && !s.rangeBusy 0x0805 &&
    !s.flag F.CAL.CAL_STAT_BUSY && !(maskedItems (s.get F.CAL.CAL_STAT_DUE)).isEmpty && s.th.mean.isSome) = true at all
  simp only [Bool.and_eq_true, beq_iff_eq, Bool.not_eq_true', List.isEmpty_eq_false_iff] at all
  obtain ⟨⟨⟨⟨⟨⟨⟨on, ready⟩, auto⟩, level⟩, free⟩, idle⟩, due⟩, mean⟩ := all
  exact ⟨on, ready, auto, level, free, idle, fun none => due ((maskedItems_eq_nil _ s.get_due_lt).2 none), mean⟩

/-! ### What an item's end shows (R400) -/

/-- The time and the temperature of a result, and its publication. -/
def State.calStamped : State := ((s.set64 F.CAL.TIME_LO F.CAL.TIME_HI s.time.dev).setI F.CAL.T_MEAN (s.th.mean.getD 0)).publish F.CAL.CAL_RES_ST

/-- The words of a result but ITEM, STATUS and DETAIL. -/
def StampWord (a : Nat) : Prop := a = 0x6001820 ∨ a = 0x6001828 ∨ a = 0x600182C ∨ a = 0x6001830

theorem State.calStamped_words : BlockWords StampWord s s.calStamped :=
  ((((BlockWords.set s F.CAL.TIME_LO _ (.inr (.inl rfl))).trans (.set _ F.CAL.TIME_HI _ (.inr (.inr (.inl rfl))))).trans (.set _ F.CAL.T_MEAN _ (.inr (.inr (.inr rfl))))).trans
    (.set _ ⟨F.CAL.CAL_RES_ST.addr, 31, 1⟩ _ (.inl rfl))).trans (.set _ ⟨F.CAL.CAL_RES_ST.addr, 0, 16⟩ _ (.inl rfl))

theorem State.calResult_eq (item status detail : Nat) : s.calResult item status detail = (((s.set F.CAL.ITEM (2 ^ item)).set F.CAL.STATUS status).set F.CAL.DETAIL detail).calStamped := rfl

/-- The words of a result. -/
def ResultWord (a : Nat) : Prop := StampWord a ∨ a = 0x6001824

theorem State.calResult_words (item status detail : Nat) : BlockWords ResultWord s (s.calResult item status detail) :=
  (((BlockWords.set s F.CAL.ITEM _ (.inr rfl)).trans (.set _ F.CAL.STATUS _ (.inr rfl))).trans (.set _ F.CAL.DETAIL _ (.inr rfl))).trans ((State.calStamped_words _).mono fun _ => .inl)

theorem State.calResult_shown (item status detail : Nat) (low : item < 4) : (s.calResult item status detail).get F.CAL.ITEM = 2 ^ item ∧
    (s.calResult item status detail).get F.CAL.STATUS = status % 2 ^ 8 ∧ (s.calResult item status detail).get F.CAL.DETAIL = detail % 2 ^ 8 := by
  have kept (f : Fld) (same : f.addr = 0x6001824) : (s.calResult item status detail).get f = (((s.set F.CAL.ITEM (2 ^ item)).set F.CAL.STATUS status).set F.CAL.DETAIL detail).get f := by
    rw [State.calResult_eq]
    refine (State.calStamped_words _).get f (by omega) (by omega) ?_
    rw [StampWord]
    omega
  refine ⟨(kept F.CAL.ITEM rfl).trans ?_, (kept F.CAL.STATUS rfl).trans ?_, (kept F.CAL.DETAIL rfl).trans (State.get_set_same _ F.CAL.DETAIL detail rfl)⟩
  · rw [State.get_set_bits _ F.CAL.DETAIL F.CAL.ITEM _ rfl (by decide), State.get_set_bits _ F.CAL.STATUS F.CAL.ITEM _ rfl (by decide), State.get_set_same _ F.CAL.ITEM _ rfl]
    exact Nat.mod_eq_of_lt (Nat.pow_lt_pow_right (by decide) (show item < 16 by omega))
  · rw [State.get_set_bits _ F.CAL.DETAIL F.CAL.STATUS _ rfl (by decide), State.get_set_same _ F.CAL.STATUS _ rfl]
    rfl

theorem Answering.calStamped : Answering s s.calStamped :=
  (((((Answering.set s F.CAL.TIME_LO _).trans (.set _ F.CAL.TIME_HI _))).trans (.set _ F.CAL.T_MEAN _)).trans (.set _ ⟨F.CAL.CAL_RES_ST.addr, 31, 1⟩ _)).trans (.set _ ⟨F.CAL.CAL_RES_ST.addr, 0, 16⟩ _)

theorem Answering.calResult (item status detail : Nat) : Answering s (s.calResult item status detail) :=
  (((Answering.set s F.CAL.ITEM _).trans (.set _ F.CAL.STATUS _)).trans (.set _ F.CAL.DETAIL _)).trans (.calStamped _)

/-- The end of an item that is accepted. -/
def State.itemAccepted (item : Nat) : State :=
  (((((s.calResult item 0 0).inc F.CAL.RUNS).inc F.CAL.ACCEPTED).setBitAt F.CAL.CAL_STAT_DUE item false).when
    (item == 3 && ((((s.calResult item 0 0).inc F.CAL.RUNS).inc F.CAL.ACCEPTED).setBitAt F.CAL.CAL_STAT_DUE item false).domOn 69) (fun s => s.set F.RX.RX_STAT_REF_SUSPECT 0))

/-- An item that is rejected is counted and flagged. -/
def State.itemCounted (item row : Nat) : State := (((s.calResult item 0x8B row).inc F.CAL.RUNS).inc F.CAL.REJECTED).set F.CAL.CAL_STAT_REJECTED 1

/-- The end of an item that is rejected. -/
def State.itemRejected (item row : Nat) : State := (s.itemCounted item row).raise EV_CAL_REJECT (2 ^ item) row

/-- The words that an accepted item's end touches but the result's. -/
def State.acceptedCounts (item : Nat) : State := ((s.inc F.CAL.RUNS).inc F.CAL.ACCEPTED).setBitAt F.CAL.CAL_STAT_DUE item false

theorem State.itemAccepted_eq (item : Nat) : s.itemAccepted item = ((s.calResult item 0 0).acceptedCounts item).when
    (item == 3 && ((s.calResult item 0 0).acceptedCounts item).domOn 69) (fun s => s.set F.RX.RX_STAT_REF_SUSPECT 0) := rfl

/-- The words of calibration that an item's end touches. -/
def ItemWord (a : Nat) : Prop := ResultWord a ∨ a = 0x6001840 ∨ a = 0x6001844 ∨ a = 0x6001848 ∨ a = 0x6001804

theorem State.acceptedCounts_words (item : Nat) : BlockWords (fun a => a = 0x6001840 ∨ a = 0x6001844 ∨ a = 0x6001804) s (s.acceptedCounts item) :=
  ((BlockWords.set s F.CAL.RUNS _ (.inl rfl)).trans (.set _ F.CAL.ACCEPTED _ (.inr (.inl rfl)))).trans (.set _ F.CAL.CAL_STAT_DUE _ (.inr (.inr rfl)))

theorem State.suspectCleared_words (b : Bool) : BlockWords (fun a => a = 0x40090) s (s.when b (fun s => s.set F.RX.RX_STAT_REF_SUSPECT 0)) :=
  .when (own := fun a => a = 0x40090) b (fun u => .set u F.RX.RX_STAT_REF_SUSPECT 0 rfl) s

theorem Answering.itemAccepted (item : Nat) : Answering s (s.itemAccepted item) :=
  ((((Answering.calResult s item 0 0).trans (.inc _ _)).trans (.inc _ _)).trans (.set _ F.CAL.CAL_STAT_DUE _)).trans (.when _ (.set _ _ _))

theorem State.itemAccepted_words (item : Nat) : BlockWords (fun a => ItemWord a ∨ a = 0x40090) s (s.itemAccepted item) := by
  refine (((s.calResult_words item 0 0).mono fun _ own => .inl (.inl own)).trans ((State.acceptedCounts_words _ item).mono fun a own => .inl (.inr ?_))).trans
    ((State.suspectCleared_words _ _).mono fun _ => .inr)
  exact own.elim .inl fun own => .inr (own.elim .inl fun own => .inr (.inr own))

theorem State.itemAccepted_spec (item : Nat) (low : item < 4) :
    (s.itemAccepted item).get F.CAL.ACCEPTED = min (s.get F.CAL.ACCEPTED + 1) (2 ^ 32 - 1) ∧ (s.itemAccepted item).get F.CAL.RUNS = min (s.get F.CAL.RUNS + 1) (2 ^ 32 - 1) ∧
    (s.itemAccepted item).bitAt F.CAL.CAL_STAT_DUE item = false ∧ (s.itemAccepted item).get F.CAL.STATUS = 0 ∧ (s.itemAccepted item).get F.CAL.ITEM = 2 ^ item := by
  obtain ⟨shownItem, shownStatus, -⟩ := s.calResult_shown item 0 0 low
  have result := s.calResult_words item 0 0
  have counts := (s.calResult item 0 0).acceptedCounts_words item
  have last (f : Fld) (least : 0x6001000 ≤ f.addr) (most : f.addr < 0x6002000) : (s.itemAccepted item).get f = ((s.calResult item 0 0).acceptedCounts item).get f :=
    (State.suspectCleared_words _ _).get f (by omega) (by omega) (by omega)
  have runs : (s.calResult item 0 0).get F.CAL.RUNS = s.get F.CAL.RUNS := result.get F.CAL.RUNS (by decide) (by decide) (by simp [ResultWord, StampWord, F.CAL.RUNS])
  have accepted : (s.calResult item 0 0).get F.CAL.ACCEPTED = s.get F.CAL.ACCEPTED := result.get F.CAL.ACCEPTED (by decide) (by decide) (by simp [ResultWord, StampWord, F.CAL.ACCEPTED])
  refine ⟨(last F.CAL.ACCEPTED (by decide) (by decide)).trans ?_, (last F.CAL.RUNS (by decide) (by decide)).trans ?_, ?_,
    (last F.CAL.STATUS (by decide) (by decide)).trans ((counts.get F.CAL.STATUS (by decide) (by decide) (by decide)).trans shownStatus),
    (last F.CAL.ITEM (by decide) (by decide)).trans ((counts.get F.CAL.ITEM (by decide) (by decide) (by decide)).trans shownItem)⟩
  · refine (State.get_set_addr _ F.CAL.CAL_STAT_DUE F.CAL.ACCEPTED _ (by decide)).trans ?_
    exact State.get_inc_of_eq F.CAL.ACCEPTED rfl ((State.get_inc_ne _ F.CAL.RUNS F.CAL.ACCEPTED (by decide)).trans accepted)
  · refine (State.get_set_addr _ F.CAL.CAL_STAT_DUE F.CAL.RUNS _ (by decide)).trans ((State.get_inc_ne _ F.CAL.ACCEPTED F.CAL.RUNS (by decide)).trans ?_)
    exact State.get_inc_of_eq F.CAL.RUNS rfl runs
  · rw [State.bitAt, last F.CAL.CAL_STAT_DUE (by decide) (by decide)]
    exact (State.bitAt_setBitAt _ F.CAL.CAL_STAT_DUE item item false rfl low).trans (if_pos rfl)

theorem State.itemCounted_spec (item row : Nat) (low : item < 4) (small : row < 8) :
    (s.itemCounted item row).get F.CAL.REJECTED = min (s.get F.CAL.REJECTED + 1) (2 ^ 32 - 1) ∧ (s.itemCounted item row).flag F.CAL.CAL_STAT_REJECTED = true ∧
    (s.itemCounted item row).get F.CAL.STATUS = 0x8B ∧ (s.itemCounted item row).get F.CAL.DETAIL = row ∧ (s.itemCounted item row).get F.CAL.CAL_STAT_DUE = s.get F.CAL.CAL_STAT_DUE := by
  obtain ⟨-, status, detail⟩ := s.calResult_shown item 0x8B row low
  have result := s.calResult_words item 0x8B row
  have rejected : (s.calResult item 0x8B row).get F.CAL.REJECTED = s.get F.CAL.REJECTED := result.get F.CAL.REJECTED (by decide) (by decide) (by simp [ResultWord, StampWord, F.CAL.REJECTED])
  have due : (s.calResult item 0x8B row).get F.CAL.CAL_STAT_DUE = s.get F.CAL.CAL_STAT_DUE := result.get F.CAL.CAL_STAT_DUE (by decide) (by decide) (by simp [ResultWord, StampWord, F.CAL.CAL_STAT_DUE])
  have shown (f : Fld) (same : f.addr = 0x6001824) : (s.itemCounted item row).get f = (s.calResult item 0x8B row).get f :=
    (State.get_set_addr _ F.CAL.CAL_STAT_REJECTED f 1 (by rw [same]; decide)).trans ((State.get_inc_ne _ F.CAL.REJECTED f (by rw [same]; decide)).trans
      (State.get_inc_ne _ F.CAL.RUNS f (by rw [same]; decide)))
  refine ⟨(State.get_set_addr _ F.CAL.CAL_STAT_REJECTED F.CAL.REJECTED 1 (by decide)).trans ?_, State.flag_set_one _ F.CAL.CAL_STAT_REJECTED rfl rfl, (shown F.CAL.STATUS rfl).trans status,
    (shown F.CAL.DETAIL rfl).trans (detail.trans (Nat.mod_eq_of_lt (by omega))), ?_⟩
  · exact State.get_inc_of_eq F.CAL.REJECTED rfl ((State.get_inc_ne _ F.CAL.RUNS F.CAL.REJECTED (by decide)).trans rejected)
  · refine (State.get_set_bits _ F.CAL.CAL_STAT_REJECTED F.CAL.CAL_STAT_DUE 1 rfl (by decide)).trans ((State.get_inc_ne _ F.CAL.REJECTED F.CAL.CAL_STAT_DUE (by decide)).trans ?_)
    exact (State.get_inc_ne _ F.CAL.RUNS F.CAL.CAL_STAT_DUE (by decide)).trans due

theorem State.itemRejected_get (item row : Nat) (f : Fld) (low : 0x20000 ≤ f.addr) (high : f.addr < 0x7000000) : (s.itemRejected item row).get f = (s.itemCounted item row).get f :=
  (BlockWords.raise (own := fun _ => False) (s.itemCounted item row) EV_CAL_REJECT (2 ^ item) row (by decide)).get f low high not_false

end

end Sys2Proof.Machine
end

section
/-! PROOFS. Calibration runs: the items' measurements (R400 to R404) and the record (R405, R406). -/
namespace Sys2Proof.Machine

section
variable (s : State)

/-! ### The end of an item (R400) -/

/-- Loops 2 and 3 as an item wants them. -/
def State.calSettled (item : Nat) : Prop := item < 2 ∨ (s.flag (F.LOOP.LOOP_STAT_SETTLED 2) = true ∧ s.flag (F.LOOP.LOOP_STAT_SETTLED 3) = true)

/-- The run after an item that is accepted. -/
def State.runAccepted (a : CalItem) (item : Nat) (rest : List Nat) : CalRun :=
  { a.run with
    items := rest, log := a.run.log ++ [s.calLog item 0 0 a.units], bad := a.run.bad.or none,
    timing := a.run.timing || (true && decide (item < 2)), some := a.run.some || true || decide (0 < a.units) }

/-- The run after an item that is rejected. -/
def State.runRejected (a : CalItem) (item row : Nat) (rest : List Nat) : CalRun :=
  { a.run with
    items := rest, log := a.run.log ++ [s.calLog item 0x8B row a.units], bad := a.run.bad.or (some (0x8B, row)),
    timing := a.run.timing || (false && decide (item < 2)), some := a.run.some || false || decide (0 < a.units) }

/-- The run goes on with the items that are left. -/
def State.calRuns (q : CalRun) : State := { s with cal := { s.cal with run := some q } }

/-- The run goes on, or its record is written. -/
def State.calGoesOn (q : CalRun) (copies : Nat) : State :=
  if q.items.isEmpty then (s.calFinish q copies).2.calEnd q (s.calFinish q copies).1 else s.calRuns q

variable {s} {r : CalRun} {item : Nat} {rest : List Nat} {m : CalMeas} (copies : Nat)

theorem State.calItemEnd_none (none_ : s.cal.run = none) : s.calItemEnd m copies = s := by
  unfold State.calItemEnd
  rw [none_]

theorem State.calItemEnd_other (run : s.cal.run = some r) (items : r.items = item :: rest) (other : measItem m ≠ item) : s.calItemEnd m copies = s := by
  unfold State.calItemEnd
  rw [run]
  dsimp only
  rw [items]
  exact if_pos other

theorem State.calItemEnd_unsettled (run : s.cal.run = some r) (items : r.items = item :: rest) (own : measItem m = item) (reference : 2 ≤ item)
    (unsettled : s.flag (F.LOOP.LOOP_STAT_SETTLED 2) = false ∨ s.flag (F.LOOP.LOOP_STAT_SETTLED 3) = false) : s.calItemEnd m copies = s.calAbort 0x8C 3 := by
  have aborts : 2 ≤ item ∧ (!(s.flag (F.LOOP.LOOP_STAT_SETTLED 2) && s.flag (F.LOOP.LOOP_STAT_SETTLED 3))) = true :=
    ⟨reference, by rcases unsettled with h | h <;> rw [h] <;> simp⟩
  unfold State.calItemEnd
  rw [run]
  dsimp only
  rw [items]
  dsimp only
  rw [if_neg (by simp [own]), if_pos aborts]

theorem State.calItemEnd_accepted (run : s.cal.run = some r) (items : r.items = item :: rest) (own : measItem m = item) (settled : s.calSettled item)
    (good : (s.calJudge r m).fails = []) :
    s.calItemEnd m copies = ((s.calJudge r m).st.itemAccepted item).calGoesOn (((s.calJudge r m).st.itemAccepted item).runAccepted (s.calJudge r m) item rest) copies := by
  have goesOn : ¬ (2 ≤ item ∧ (!(s.flag (F.LOOP.LOOP_STAT_SETTLED 2) && s.flag (F.LOOP.LOOP_STAT_SETTLED 3))) = true) := by
    rintro ⟨reference, un⟩
    rcases settled with low | ⟨two, three⟩
    · omega
    · rw [two, three] at un
      exact absurd un (by decide)
  unfold State.calItemEnd
  rw [run]
  dsimp only
  rw [items]
  dsimp only
  rw [if_neg (by simp [own]), if_neg goesOn]
  generalize s.calJudge r m = a at good ⊢
  obtain ⟨fails, units, q, u⟩ := a
  dsimp only at good ⊢
  subst good
  rfl

theorem State.calItemEnd_rejected (run : s.cal.run = some r) (items : r.items = item :: rest) (own : measItem m = item) (settled : s.calSettled item)
    (bad : (s.calJudge r m).fails ≠ []) :
    s.calItemEnd m copies = ((s.calJudge r m).st.itemRejected item ((s.calJudge r m).fails.foldl min 7)).calGoesOn
      (((s.calJudge r m).st.itemRejected item ((s.calJudge r m).fails.foldl min 7)).runRejected (s.calJudge r m) item ((s.calJudge r m).fails.foldl min 7) rest) copies := by
  have goesOn : ¬ (2 ≤ item ∧ (!(s.flag (F.LOOP.LOOP_STAT_SETTLED 2) && s.flag (F.LOOP.LOOP_STAT_SETTLED 3))) = true) := by
    rintro ⟨reference, un⟩
    rcases settled with low | ⟨two, three⟩
    · omega
    · rw [two, three] at un
      exact absurd un (by decide)
  unfold State.calItemEnd
  rw [run]
  dsimp only
  rw [items]
  dsimp only
  rw [if_neg (by simp [own]), if_neg goesOn]
  generalize s.calJudge r m = a at bad ⊢
  obtain ⟨fails, units, q, u⟩ := a
  dsimp only at bad ⊢
  rw [List.isEmpty_eq_false_iff.2 bad]
  generalize fails.foldl min 7 = row
  have none_ (v : State) (f : State → State) : v.when false f = v := rfl
  have told : ((((u.calResult item 0x8B row).inc F.CAL.RUNS).inc F.CAL.REJECTED).set F.CAL.CAL_STAT_REJECTED 1).raise EV_CAL_REJECT (2 ^ item) row = u.itemRejected item row := rfl
  simp only [Bool.false_eq_true, if_false, Bool.false_and, none_, told]
  generalize u.itemRejected item row = v
  rfl

theorem State.calGoesOn_rest (q : CalRun) (more : q.items ≠ []) : s.calGoesOn q copies = s.calRuns q :=
  if_neg fun none => more (List.isEmpty_iff.1 none)

end

/-! ### What the measurements leave (R400 to R404) -/

/-- What a run gathers: words below the calibration block, bytes inside the record, cells and channels that exist; nothing else of the run changes. -/
structure CalRun.Gathers (r q : CalRun) : Prop where
  parts : q = { r with words := q.words, patch := q.patch, steps := q.steps, maps := q.maps, taps := q.taps }
  words : ∀ w ∈ q.words, w ∈ r.words ∨ w.1 < 0x2000000
  patch : ∀ e ∈ q.patch, e ∈ r.patch ∨ e.1 + e.2.length ≤ 0xFFFC
  maps : ∀ e ∈ q.maps, e ∈ r.maps ∨ (e.1 < 1024 ∧ e.2.1 < 8)
  taps : ∀ c ∈ q.taps, c ∈ r.taps ∨ c < 12

namespace CalRun.Gathers

variable {r q : CalRun}

theorem refl (r : CalRun) : r.Gathers r := ⟨rfl, fun _ => .inl, fun _ => .inl, fun _ => .inl, fun _ => .inl⟩

theorem putWord (h : r.Gathers q) (w : Nat × Nat × Nat × Nat) (low : w.1 < 0x2000000) : r.Gathers { q with words := q.words ++ [w] } :=
  ⟨congrArg (fun x : CalRun => { x with words := q.words ++ [w] }) h.parts, fun v mem => (List.mem_append.1 mem).elim (h.words v) fun last => .inr (by rw [List.mem_singleton.1 last]; exact low),
    h.patch, h.maps, h.taps⟩

theorem putPatch (h : r.Gathers q) (e : Nat × List Byte) (inside : e.1 + e.2.length ≤ 0xFFFC) : r.Gathers { q with patch := q.patch ++ [e] } :=
  ⟨congrArg (fun x : CalRun => { x with patch := q.patch ++ [e] }) h.parts, h.words,
    fun v mem => (List.mem_append.1 mem).elim (h.patch v) fun last => .inr (by rw [List.mem_singleton.1 last]; exact inside), h.maps, h.taps⟩

theorem putStep (h : r.Gathers q) (l : List (Nat × Nat × Nat × Int)) : r.Gathers { q with steps := l } :=
  ⟨congrArg (fun x : CalRun => { x with steps := l }) h.parts, h.words, h.patch, h.maps, h.taps⟩

theorem putTap (h : r.Gathers q) (c : Nat) (low : c < 12) : r.Gathers { q with taps := q.taps ++ [c] } :=
  ⟨congrArg (fun x : CalRun => { x with taps := q.taps ++ [c] }) h.parts, h.words, h.patch, h.maps,
    fun v mem => (List.mem_append.1 mem).elim (h.taps v) fun last => .inr (by rw [List.mem_singleton.1 last]; exact low)⟩

theorem putMap (h : r.Gathers q) (e : Nat × Nat × Nat) (low : e.1 < 1024 ∧ e.2.1 < 8) : r.Gathers { q with maps := q.maps ++ [e] } :=
  ⟨congrArg (fun x : CalRun => { x with maps := q.maps ++ [e] }) h.parts, h.words, h.patch,
    fun v mem => (List.mem_append.1 mem).elim (h.maps v) fun last => .inr (by rw [List.mem_singleton.1 last]; exact low), h.taps⟩

theorem put (h : r.Gathers q) (f : Fld) (v off n : Nat) (low : f.addr < 0x2000000) (inside : off + n ≤ 0xFFFC) : r.Gathers (q.put f v off n) :=
  (h.putWord _ low).putPatch (off, beBytes n v) (by rw [length_beBytes]; exact inside)

theorem offset (h : r.Gathers q) (f : Fld) (old new : Int) (low : f.addr < 0x2000000) : r.Gathers (q.offset f old new) := by
  unfold CalRun.offset
  split
  · exact h.putStep _
  · exact h.putWord _ low

theorem foldl {α : Type} (f : CalRun → α → CalRun) (l : List α) (step : ∀ q, ∀ a ∈ l, r.Gathers q → r.Gathers (f q a)) (h : r.Gathers q) : r.Gathers (l.foldl f q) := by
  induction l generalizing q with
  | nil => exact h
  | cons a l ih => exact ih (fun q b mem => step q b (List.mem_cons_of_mem _ mem)) (step q a List.mem_cons_self h)

end CalRun.Gathers

/-- What the judging of an item leaves: the state that it found, and what it gathered for the run. -/
structure CalItem.Judges (s : State) (r : CalRun) (a : CalItem) : Prop where
  st : a.st = s
  run : r.Gathers a.run

namespace CalItem.Judges

variable {s : State} {r : CalRun} {a : CalItem}

theorem foldl {α : Type} (f : CalItem → α → CalItem) (l : List α) (step : ∀ a, ∀ e ∈ l, a.Judges s r → (f a e).Judges s r) (h : a.Judges s r) : (l.foldl f a).Judges s r := by
  induction l generalizing a with
  | nil => exact h
  | cons e l ih => exact ih (fun a e mem => step a e (List.mem_cons_of_mem _ mem)) (step a e List.mem_cons_self h)

theorem fails (h : a.Judges s r) (l : List Nat) : CalItem.Judges s r { a with fails := l } := ⟨h.st, h.run⟩

theorem taken (h : a.Judges s r) (n : Nat) {q : CalRun} (run : r.Gathers q) : CalItem.Judges s r { a with units := n, run := q } := ⟨h.st, run⟩

end CalItem.Judges

section
variable {s : State} {r : CalRun} {a : CalItem}

/-- What a channel's measurement puts into the run. -/
def channelRun (r : CalRun) (c map : Nat) (lin : List Nat) : CalRun :=
  (List.range 64).foldl (fun r i => r.put (F.CH.LIN c i) (lin.getD i 0) (0x1600 + 160 * c + 16 + 2 * i) 2)
    (((r.put (F.CH.CH_TAPMAP0_MAP c) (map % 2 ^ 32) (0x1600 + 160 * c) 4).put (F.CH.CH_TAPMAP1_MAP c) (map / 2 ^ 32 % 2 ^ 32) (0x1600 + 160 * c + 4) 4).put
      (F.CH.CH_TAPMAP2_MAP c) (map / 2 ^ 64) (0x1600 + 160 * c + 8) 4)

theorem channelRun_gathers {q : CalRun} (h : r.Gathers q) (c map : Nat) (lin : List Nat) (low : c < 12) : r.Gathers (channelRun q c map lin) := by
  refine .foldl _ _ (fun q i mem h => ?_) (((h.put _ _ _ 4 ?_ (by omega)).put _ _ _ 4 ?_ (by omega)).put _ _ _ 4 ?_ (by omega))
  · have := List.mem_range.1 mem
    exact h.put _ _ _ 2 (by simp only [F.CH.LIN]; omega) (by omega)
  all_goals simp only [F.CH.CH_TAPMAP0_MAP, F.CH.CH_TAPMAP1_MAP, F.CH.CH_TAPMAP2_MAP]; omega

theorem calChannel_judges (h : a.Judges s r) (e : Nat × BitVec 72 × List Nat) : (calChannel a e).Judges s r := by
  unfold calChannel
  dsimp only
  generalize a.st.get (F.CH.CH_TAPMAP0_MAP e.1) + 2 ^ 32 * a.st.get (F.CH.CH_TAPMAP1_MAP e.1) + 2 ^ 64 * a.st.get (F.CH.CH_TAPMAP2_MAP e.1) = line
  generalize remap line e.2.1.toNat = map
  generalize linOf e.2.2 = lin
  split
  case isTrue => exact h
  case isFalse free =>
    have low : e.1 < 12 := by omega
    have gathered : r.Gathers { channelRun a.run e.1 map lin with patch := (channelRun a.run e.1 map lin).patch ++ [(0x1600 + 160 * e.1 + 14, beInt 2 (a.st.th.mean.getD 0))] } :=
      (channelRun_gathers h.run e.1 map lin low).putPatch _ (by simp only [beInt, length_beBytes]; omega)
    have tapped := gathered.putTap e.1 low
    have told : (List.range 64).foldl (fun r i => r.put (F.CH.LIN e.1 i) (lin.getD i 0) (0x1600 + 160 * e.1 + 16 + 2 * i) 2)
      (((a.run.put (F.CH.CH_TAPMAP0_MAP e.1) (map % 2 ^ 32) (0x1600 + 160 * e.1) 4).put (F.CH.CH_TAPMAP1_MAP e.1) (map / 2 ^ 32 % 2 ^ 32) (0x1600 + 160 * e.1 + 4) 4).put
        (F.CH.CH_TAPMAP2_MAP e.1) (map / 2 ^ 64) (0x1600 + 160 * e.1 + 8) 4) = channelRun a.run e.1 map lin := rfl
    rw [told]
    generalize channelRun a.run e.1 map lin = q at gathered tapped
    generalize beInt 2 (a.st.th.mean.getD 0) = bytes at gathered tapped
    split
    case isTrue => exact h.fails _
    split
    case isTrue => exact h.fails _
    split
    case isTrue => exact h.taken _ gathered
    case isFalse => exact h.taken _ tapped

theorem calSkew_judges (h : a.Judges s r) (tofs : List (Nat × Int)) (corr : List Int) : (calSkew a tofs corr).Judges s r := by
  unfold calSkew
  dsimp only
  split
  case isTrue => exact h.fails _
  split
  case isTrue => exact h.fails _
  case isFalse =>
    refine h.taken _ (.foldl _ _ (fun q p mem h => ?_) (.foldl _ _ (fun q e mem h => ?_) h.run))
    · have low := List.mem_range.1 mem
      exact (h.offset (phaseFld p) _ _ (by simp only [phaseFld]; omega)).putPatch _ (by simp only [beInt, length_beBytes]; omega)
    · have low : e.1 < 1024 := of_decide_eq_true (List.mem_filter.1 mem).2
      exact (h.offset (F.ROW.ROW_TOFS_TOFS e.1) _ _ (by simp only [F.ROW.ROW_TOFS_TOFS]; omega)).putPatch _ (by simp only [beInt, length_beBytes]; omega)

theorem calSpare_judges (h : a.Judges s r) (e : Nat × Nat × List Nat) : (calSpare a e).Judges s r := by
  unfold calSpare
  dsimp only
  split
  case isTrue => exact h
  case isFalse free =>
    have low : e.1 < 1024 ∧ e.2.1 < 8 := by omega
    split
    case isTrue => exact h.fails _
    case isFalse => exact h.taken _ ((h.run.putMap (e.1, e.2.1, _) low).putPatch _ (by simp only [length_beBytes]; omega))

theorem calBank_judges (cells : List (Nat × Nat × Nat)) (h : a.Judges s r) (b : Nat) (low : b < 8) : (calBank cells a b).Judges s r := by
  unfold calBank
  dsimp only
  split
  case isTrue => exact h.fails _
  case isFalse => exact h.taken _ ((h.run.put _ _ _ 1 (by dsimp only; omega) (by omega)).putWord _ (by dsimp only; omega))

theorem calVbd_judges (updates : List (Int × Int)) (h : a.Judges s r) : (calVbd updates a).Judges s r := by
  unfold calVbd
  dsimp only
  split
  case isTrue => exact h
  split
  case isTrue => exact h.fails _
  case isFalse =>
    generalize unsigned 16 _ = v
    exact ⟨h.st, h.run.put F.RX.VBD_MODEL_VBD25 v 0x1504 4 (by decide) (by omega)⟩

/-- The rows of the record whose DEGRADED byte an item rewrites exist, as the maps' rows do. -/
theorem calDegraded_judges (h : a.Judges s r) (rows : ∀ e ∈ a.run.maps, e.1 < 1024) : (calDegraded a).Judges s r := by
  refine ⟨h.st, ⟨congrArg (fun x : CalRun => { x with patch := (calDegraded a).run.patch }) h.run.parts, h.run.words, fun e mem => ?_, h.run.maps, h.run.taps⟩⟩
  refine (List.mem_append.1 mem).elim (h.run.patch e) fun added => .inr ?_
  obtain ⟨row, listed, rfl⟩ := List.mem_map.1 added
  obtain ⟨map, inMaps, rfl⟩ := List.mem_map.1 (List.mem_eraseDups.1 listed)
  have low := rows map inMaps
  simp only [length_beBytes]
  omega

/-- The state that an item's judging hands on: the reference cells that were dropped are dropped no more. -/
def State.judging (s : State) : CalMeas → State
  | .refCells _ _ => { s with cal := { s.cal with dropped := false } }
  | _ => s

theorem CalItem.Judges.start (s : State) (r : CalRun) : (⟨[], 0, r, s⟩ : CalItem).Judges s r := ⟨rfl, .refl r⟩

theorem calSpares_judges (s : State) (r : CalRun) (l : List (Nat × Nat × List Nat)) : (l.foldl calSpare ⟨[], 0, r, s⟩).Judges s r :=
  .foldl _ _ (fun _ e _ h => calSpare_judges h e) (.start s r)

theorem State.calJudge_st (s : State) (r : CalRun) (m : CalMeas) : (s.calJudge r m).st = s.judging m := by
  cases m with
  | refTdc l => exact (CalItem.Judges.foldl _ _ (fun _ e _ h => calChannel_judges h e) (.start s r)).st
  | rowSkew t c => exact (calSkew_judges (.start s r) t c).st
  | spares l => exact (calSpares_judges s r l).st
  | refCells l u => exact (calVbd_judges u (.foldl _ _ (fun _ b mem h => calBank_judges l h b (List.mem_range.1 mem)) (.start _ r))).st

/-- What an item gathers for a run that has rebuilt no pixel group yet. -/
theorem State.calJudge_gathers (s : State) (r : CalRun) (m : CalMeas) (fresh : r.maps = []) : r.Gathers (s.calJudge r m).run := by
  cases m with
  | refTdc l => exact (CalItem.Judges.foldl _ _ (fun _ e _ h => calChannel_judges h e) (.start s r)).run
  | rowSkew t c => exact (calSkew_judges (.start s r) t c).run
  | spares l =>
    have judged := calSpares_judges s r l
    refine (calDegraded_judges judged fun e mem => ?_).run
    rcases judged.run.maps e mem with old | new
    · rw [fresh] at old
      exact absurd old (List.not_mem_nil)
    · exact new.1
  | refCells l u => exact (calVbd_judges u (.foldl _ _ (fun _ b mem h => calBank_judges l h b (List.mem_range.1 mem)) (.start _ r))).run

theorem State.judging_regs (s : State) (m : CalMeas) : (s.judging m).regs = s.regs := by cases m <;> rfl

theorem State.judging_flash (s : State) (m : CalMeas) : (s.judging m).flash = s.flash := by cases m <;> rfl

theorem State.judging_copy (s : State) (m : CalMeas) : (s.judging m).cal.copy = s.cal.copy := by cases m <;> rfl

theorem State.judging_get (s : State) (m : CalMeas) (f : Fld) : (s.judging m).get f = s.get f := by rw [State.get, State.get, State.rd_congr (s.judging_regs m)]

end

end Sys2Proof.Machine
end

section
/-! PROOFS. The calibration record (R405, R406) and the statement about calibration runs. -/
namespace Sys2Proof.Machine

/-! ### Bytes replaced in a record -/

section
variable {b x : List Byte} {off : Nat}

theorem length_patchBytes (inside : off + x.length ≤ b.length) : (patchBytes b off x).length = b.length := by
  simp only [patchBytes, List.length_append, List.length_take, List.length_drop]
  omega

theorem beAt_patchBytes (inside : off + x.length ≤ b.length) : beAt (patchBytes b off x) off x.length = ofBe x := by
  have head : (b.take off).length = off := List.length_take_of_le (by omega)
  rw [patchBytes, beAt_append_left _ _ _ _ (by rw [List.length_append]; omega), beAt_append_right _ _ _ _ (by omega), head, Nat.sub_self, beAt, List.drop_zero, List.take_length]

theorem beAt_patchBytes_below (inside : off + x.length ≤ b.length) (i n : Nat) (below : i + n ≤ off) : beAt (patchBytes b off x) i n = beAt b i n := by
  have head : (b.take off).length = off := List.length_take_of_le (by omega)
  rw [patchBytes, List.append_assoc, beAt_append_left _ _ _ _ (by omega)]
  conv_rhs => rw [← List.take_append_drop off b]
  exact (beAt_append_left _ _ _ _ (by omega)).symm

end

/-- The entries of a list that lie inside a record patch it without a change of its length. -/
theorem length_foldl_patchBytes (l : List (Nat × List Byte)) (b : List Byte) (inside : ∀ e ∈ l, e.1 + e.2.length ≤ b.length) :
    (l.foldl (fun b e => patchBytes b e.1 e.2) b).length = b.length := by
  induction l generalizing b with
  | nil => rfl
  | cons e l ih =>
    have len := length_patchBytes (inside e List.mem_cons_self)
    exact (ih _ fun d mem => by rw [len]; exact inside d (List.mem_cons_of_mem _ mem)).trans len

theorem logSlot_lt (b : List Byte) : logSlot b < 32 := by
  have fold (l : List Nat) (low : ∀ i ∈ l, i < 32) (acc : Nat × Nat) (first : acc.1 < 32) :
      (l.foldl (fun (c : Nat × Nat) i => let t := u64 b (0xDC00 + 32 * i); if t < c.2 then (i, t) else c) acc).1 < 32 := by
    induction l generalizing acc with
    | nil => exact first
    | cons i l ih =>
      refine ih (fun j mem => low j (List.mem_cons_of_mem _ mem)) _ ?_
      dsimp only
      split
      · exact low i List.mem_cons_self
      · exact first
  exact fold (List.range 32) (fun i => List.mem_range.1) (0, 2 ^ 64) (by decide)

/-- Log entries of 32 bytes keep a record's length and what lies below the log. -/
theorem foldl_log (l : List (List Byte)) (b : List Byte) (len : b.length = 0xFFFC) (entries : ∀ e ∈ l, e.length = 32) :
    (l.foldl (fun b e => patchBytes b (0xDC00 + 32 * logSlot b) e) b).length = 0xFFFC ∧
      beAt (l.foldl (fun b e => patchBytes b (0xDC00 + 32 * logSlot b) e) b) 8 4 = beAt b 8 4 := by
  induction l generalizing b with
  | nil => exact ⟨len, rfl⟩
  | cons e l ih =>
    have slot := logSlot_lt b
    have inside : 0xDC00 + 32 * logSlot b + e.length ≤ b.length := by rw [len, entries e List.mem_cons_self]; omega
    obtain ⟨length, kept⟩ := ih (patchBytes b (0xDC00 + 32 * logSlot b) e) ((length_patchBytes inside).trans len) fun d mem => entries d (List.mem_cons_of_mem _ mem)
    rw [List.foldl_cons]
    exact ⟨length, kept.trans (beAt_patchBytes_below inside 8 4 (by omega))⟩

section
variable (s : State) (q : CalRun)

/-- The record without its CRC. -/
def State.calBody : List Byte :=
  q.log.foldl (fun b e => patchBytes b (0xDC00 + 32 * logSlot b) e)
    (patchBytes (patchBytes (q.patch.foldl (fun b e => patchBytes b e.1 e.2) (s.calBytes 0 0xFFFC)) 8 (beBytes 4 (s.get F.CAL.CAL_GEN + 1))) 12 (beBytes 8 s.time.dev.toNat))

theorem State.calRecord_eq : s.calRecord q = s.calBody q ++ beBytes 4 (crc32c (s.calBody q)) := rfl

variable {q}

theorem State.calBody_spec (patch : ∀ e ∈ q.patch, e.1 + e.2.length ≤ 0xFFFC) (log : ∀ e ∈ q.log, e.length = 32) :
    (s.calBody q).length = 0xFFFC ∧ beAt (s.calBody q) 8 4 = (s.get F.CAL.CAL_GEN + 1) % 2 ^ 32 := by
  have read : (s.calBytes 0 0xFFFC).length = 0xFFFC := by rw [State.calBytes, State.flashRead, spGetList_length]
  have patched := (length_foldl_patchBytes q.patch _ fun e mem => by rw [read]; exact patch e mem).trans read
  unfold State.calBody
  generalize q.patch.foldl (fun b e => patchBytes b e.1 e.2) (s.calBytes 0 0xFFFC) = b at patched ⊢
  have genInside : 8 + (beBytes 4 (s.get F.CAL.CAL_GEN + 1)).length ≤ b.length := by rw [length_beBytes, patched]; decide
  have gen := (length_patchBytes genInside).trans patched
  have timeInside : 12 + (beBytes 8 s.time.dev.toNat).length ≤ (patchBytes b 8 (beBytes 4 (s.get F.CAL.CAL_GEN + 1))).length := by rw [length_beBytes, gen]; decide
  obtain ⟨length, kept⟩ := foldl_log q.log _ ((length_patchBytes timeInside).trans gen) log
  refine ⟨length, kept.trans ((beAt_patchBytes_below timeInside 8 4 (by decide)).trans ?_)⟩
  have written := beAt_patchBytes genInside
  rw [length_beBytes] at written
  exact written.trans (ofBe_beBytes 4 _)

theorem State.length_calRecord (patch : ∀ e ∈ q.patch, e.1 + e.2.length ≤ 0xFFFC) (log : ∀ e ∈ q.log, e.length = 32) : (s.calRecord q).length = 0x10000 := by
  rw [State.calRecord_eq, List.length_append, length_beBytes, (s.calBody_spec patch log).1]

theorem State.calRecord_gen (patch : ∀ e ∈ q.patch, e.1 + e.2.length ≤ 0xFFFC) (log : ∀ e ∈ q.log, e.length = 32) :
    beAt (s.calRecord q) 8 4 = (s.get F.CAL.CAL_GEN + 1) % 2 ^ 32 := by
  obtain ⟨length, gen⟩ := s.calBody_spec patch log
  rw [State.calRecord_eq, beAt_append_left _ _ _ _ (by rw [length]; decide), gen]

theorem State.calRecord_crc (patch : ∀ e ∈ q.patch, e.1 + e.2.length ≤ 0xFFFC) (log : ∀ e ∈ q.log, e.length = 32) :
    crc32c ((s.calRecord q).take 0xFFFC) = u32 (s.calRecord q) 0xFFFC := by
  have length := (s.calBody_spec patch log).1
  rw [State.calRecord_eq, u32, beAt_append_right _ _ _ _ (by rw [length]), length, Nat.sub_self, beAt, List.drop_zero, List.take_left' length]
  have whole : (beBytes 4 (crc32c (s.calBody q))).take 4 = beBytes 4 (crc32c (s.calBody q)) := List.take_of_length_le (by rw [length_beBytes])
  rw [whole, ofBe_beBytes]
  exact (Nat.mod_eq_of_lt (crc32c_lt _)).symm

theorem State.length_calLog (item status detail units : Nat) : (s.calLog item status detail units).length = 32 := by
  simp [State.calLog, beInt, zeros]

end

/-! ### Flash read after it is written -/

theorem spGetList_eq_map {α : Type} (d : Nat → α) (m : List (Nat × α)) (k n : Nat) : spGetList d m k n = (List.range n).map (fun j => spGet d m (k + j)) := by
  induction n generalizing k with
  | zero => rfl
  | succ n ih =>
    rw [spGetList, ih, List.range_succ_eq_map, List.map_cons, List.map_map]
    exact congrArg _ (List.map_congr_left fun j _ => by rw [Function.comp, Nat.add_right_comm, Nat.succ_eq_add_one, Nat.add_assoc])

section
variable (s : State)

theorem State.flashRead_within (a : Nat) (b : List Byte) (i n : Nat) (inside : i + n ≤ b.length) : (s.flashWrite a b).flashRead (a + i) n = (b.drop i).take n := by
  rw [State.flashRead, spGetList_eq_map]
  refine List.ext_getElem (by simp only [List.length_map, List.length_range, List.length_take, List.length_drop]; omega) fun j low _ => ?_
  have small : j < n := by simpa using low
  simp only [List.getElem_map, List.getElem_range, List.getElem_take, List.getElem_drop]
  rw [State.flashWrite, spGet_spSetList, dif_pos ⟨by omega, by omega⟩]
  exact getElem_congr rfl (by omega) _

theorem State.flashRead_whole (a : Nat) (b : List Byte) : (s.flashWrite a b).flashRead a b.length = b := by
  have read := s.flashRead_within a b 0 b.length (by omega)
  rwa [Nat.add_zero, List.drop_zero, List.take_length] at read

theorem State.flashRead_apart (a : Nat) (b : List Byte) (k n : Nat) (apart : a + b.length ≤ k ∨ k + n ≤ a) : (s.flashWrite a b).flashRead k n = s.flashRead k n := by
  rw [State.flashRead, State.flashRead, spGetList_eq_map, spGetList_eq_map]
  exact List.map_congr_left fun j mem => s.flashWrite_byte a b _ (by have := List.mem_range.1 mem; omega)

/-! ### The record is written (R406) -/

/-- Both copies are written, the one in force last. -/
def State.bothWritten (new : List Byte) : State :=
  ((s.flashWrite (calAddr (1 - s.cal.copy)) new).set F.CAL.CAL_GEN (s.get F.CAL.CAL_GEN + 1)).flashWrite (calAddr s.cal.copy) new

/-- The copy that was written first is in force. -/
def State.copyTaken (first : Nat) : State := { s with cal := { s.cal with copy := first } }

theorem State.calFinish_both (q : CalRun) (some_ : q.some = true) :
    s.calFinish q 2 = (q.bad, ((s.bothWritten (s.calRecord q)).copyTaken (1 - s.cal.copy)).calApply q) := by
  unfold State.calFinish
  rw [some_]
  rfl

theorem State.bothWritten_reads (new : List Byte) (len : new.length = 0x10000) (copy : s.cal.copy ≤ 1) (i : Nat) (low : i ≤ 1) :
    (s.bothWritten new).flashRead (calAddr i) 0x10000 = new := by
  have second : (s.bothWritten new).flashRead (calAddr s.cal.copy) 0x10000 = new := by
    rw [← len]
    exact State.flashRead_whole _ _ new
  have first : (s.bothWritten new).flashRead (calAddr (1 - s.cal.copy)) 0x10000 = new := by
    rw [State.bothWritten, State.flashRead_apart _ _ _ _ _ (by rw [len]; simp only [calAddr]; omega), ← len]
    exact s.flashRead_whole _ new
  rcases (by omega : i = s.cal.copy ∨ i = 1 - s.cal.copy) with rfl | rfl
  · exact second
  · exact first

theorem State.bothWritten_outside (new : List Byte) (len : new.length = 0x10000) (copy : s.cal.copy ≤ 1) (a : Nat) (outside : a < calAddr 0 ∨ calAddr 1 + 0x10000 ≤ a) :
    spGet flashDflt (s.bothWritten new).flash a = spGet flashDflt s.flash a := by
  have away (i : Nat) (low : i ≤ 1) : a < calAddr i ∨ calAddr i + new.length ≤ a := by
    simp only [calAddr] at outside ⊢
    omega
  exact (State.flashWrite_byte _ _ new a (away _ copy)).trans (s.flashWrite_byte _ new a (away _ (by omega)))

theorem State.bothWritten_get (new : List Byte) : (s.bothWritten new).get F.CAL.CAL_GEN = (s.get F.CAL.CAL_GEN + 1) % 2 ^ 32 ∧
    (s.bothWritten new).get F.CAL.CAL_STAT_DUE = s.get F.CAL.CAL_STAT_DUE :=
  ⟨State.get_set_same (s.flashWrite (calAddr (1 - s.cal.copy)) new) F.CAL.CAL_GEN (s.get F.CAL.CAL_GEN + 1) rfl,
    State.get_set_addr (s.flashWrite (calAddr (1 - s.cal.copy)) new) F.CAL.CAL_GEN F.CAL.CAL_STAT_DUE (s.get F.CAL.CAL_GEN + 1) (by decide)⟩

end

/-! ### The results are applied (R401) -/

/-- What the applied results leave: the flash, the copy in force, its generation, the items due. -/
structure RecordKept (s t : State) : Prop where
  flash : t.flash = s.flash
  copy : t.cal.copy = s.cal.copy
  gen : t.get F.CAL.CAL_GEN = s.get F.CAL.CAL_GEN
  due : t.get F.CAL.CAL_STAT_DUE = s.get F.CAL.CAL_STAT_DUE

namespace RecordKept

variable {s t u : State}

theorem refl (s : State) : RecordKept s s := ⟨rfl, rfl, rfl, rfl⟩

theorem trans (first : RecordKept s t) (second : RecordKept t u) : RecordKept s u :=
  ⟨second.flash.trans first.flash, second.copy.trans first.copy, second.gen.trans first.gen, second.due.trans first.due⟩

theorem set (s : State) (f : Fld) (x : Nat) (low : f.addr < 0x2000000) : RecordKept s (s.set f x) :=
  ⟨rfl, rfl, s.get_set_addr f F.CAL.CAL_GEN x (by simp only [F.CAL.CAL_GEN]; omega), s.get_set_addr f F.CAL.CAL_STAT_DUE x (by simp only [F.CAL.CAL_STAT_DUE]; omega)⟩

theorem raise (s : State) (n i d : Nat) (known : n < 256) : RecordKept s (s.raise n i d) :=
  have words : BlockWords (fun _ => False) s (s.raise n i d) := .raise s n i d known
  ⟨(Answering.raise s n i d).flash_eq, congrArg CalSt.copy ((congrArg State.cal (Answering.raise s n i d)).trans rfl), words.get F.CAL.CAL_GEN (by decide) (by decide) not_false,
    words.get F.CAL.CAL_STAT_DUE (by decide) (by decide) not_false⟩

theorem each {α : Type} (l : List α) (f : State → α → State) (step : ∀ u, ∀ a ∈ l, RecordKept u (f u a)) (s : State) : RecordKept s (s.each l f) := by
  induction l generalizing s with
  | nil => exact .refl s
  | cons a l ih => exact (step s a List.mem_cons_self).trans (ih (fun u b mem => step u b (List.mem_cons_of_mem _ mem)) _)

theorem setLocked (s : State) (c : Nat) (b : Bool) (low : c < 12) : RecordKept s (s.setLocked c b) :=
  (RecordKept.set s (F.CH.CH_STAT_LOCKED c) _ (by simp only [F.CH.CH_STAT_LOCKED]; omega)).trans (.set _ F.RX.TDC_STAT_LOCKED _ (by decide))

theorem endLin (s : State) (c : Nat) (low : c < 12) : RecordKept s (s.endLin c) := .set s (F.CH.CH_STAT_LIN_VALID c) _ (by simp only [F.CH.CH_STAT_LIN_VALID]; omega)

theorem rebuild (s : State) (e : Nat × Nat × Nat) (row : e.1 < 1024) (pixel : e.2.1 < 8) : RecordKept s (s.rebuild e) := by
  have stored : RecordKept s (((s.set (F.ROW.EN_LO e.1 e.2.1) (e.2.2 % 2 ^ 32)).set (F.ROW.EN_HI e.1 e.2.1) (e.2.2 / 2 ^ 32)).setBitAt (F.ROW.ROW_STAT_PENDING_CAL e.1) e.2.1 false) :=
    ((RecordKept.set s (F.ROW.EN_LO e.1 e.2.1) _ (by simp only [F.ROW.EN_LO]; omega)).trans (.set _ (F.ROW.EN_HI e.1 e.2.1) _ (by simp only [F.ROW.EN_HI]; omega))).trans
      (.set _ (F.ROW.ROW_STAT_PENDING_CAL e.1) _ (by simp only [F.ROW.ROW_STAT_PENDING_CAL]; omega))
  unfold State.rebuild
  dsimp only
  split
  · exact stored.trans ((RecordKept.set _ (F.ROW.ROW_STAT_DEGRADED e.1) _ (by simp only [F.ROW.ROW_STAT_DEGRADED]; omega)).trans (.raise _ _ _ _ (by decide)))
  · exact stored

theorem stepsDone (s : State) : RecordKept s s.stepsDone := by
  have temperature : RecordKept s (match s.cal.stepT with | some t => s.setI F.CAL.CAL_T_TDC t | none => s) := by
    cases s.cal.stepT with
    | none => exact .refl s
    | some t => exact ⟨rfl, rfl, s.get_set_addr F.CAL.CAL_T_TDC F.CAL.CAL_GEN _ (by decide), s.get_set_addr F.CAL.CAL_T_TDC F.CAL.CAL_STAT_DUE _ (by decide)⟩
  unfold State.stepsDone
  split
  · exact temperature.trans ⟨rfl, rfl, State.get_set_addr _ F.CAL.CAL_STAT_STEPPING F.CAL.CAL_GEN 0 (by decide),
      State.get_set_bits _ F.CAL.CAL_STAT_STEPPING F.CAL.CAL_STAT_DUE 0 rfl (by decide)⟩
  · exact .refl s

end RecordKept

section
variable (s : State) (q : CalRun)

/-- The words, the tap maps and the pixel groups of a run take effect. -/
def State.calStored : State :=
  (((s.each q.words (fun s w => s.set ⟨w.1, w.2.1, w.2.2.1⟩ w.2.2.2)).each q.taps (fun s c => s.setLocked c false)).each (List.range 12) State.endLin).each q.maps State.rebuild

/-- The values that a run steps. -/
def State.calStepping : State :=
  { s with cal := { s.cal with
    steps := s.cal.steps.filter (fun x => !q.steps.any (fun y => y.1 == x.1 && y.2.1 == x.2.1)) ++ q.steps, stepT := if q.timing then s.th.mean else s.cal.stepT } }

theorem State.calApply_eq : s.calApply q = (((s.calStored q).calStepping q).when (!((s.calStored q).calStepping q).cal.steps.isEmpty) (fun s => s.set F.CAL.CAL_STAT_STEPPING 1)).stepsDone := rfl

variable {q}

theorem State.calStored_kept (words : ∀ w ∈ q.words, w.1 < 0x2000000) (taps : ∀ c ∈ q.taps, c < 12) (maps : ∀ e ∈ q.maps, e.1 < 1024 ∧ e.2.1 < 8) : RecordKept s (s.calStored q) :=
  (((RecordKept.each q.words _ (fun u w mem => .set u ⟨w.1, w.2.1, w.2.2.1⟩ _ (words w mem)) s).trans (.each q.taps _ (fun u c mem => .setLocked u c false (taps c mem)) _)).trans
    (.each _ _ (fun u c mem => .endLin u c (List.mem_range.1 mem)) _)).trans (.each q.maps _ (fun u e mem => .rebuild u e (maps e mem).1 (maps e mem).2) _)

theorem State.steppingShown_kept (b : Bool) : RecordKept s (s.when b (fun s => s.set F.CAL.CAL_STAT_STEPPING 1)) := by
  cases b
  · exact .refl s
  · exact ⟨rfl, rfl, s.get_set_addr F.CAL.CAL_STAT_STEPPING F.CAL.CAL_GEN 1 (by decide), s.get_set_bits F.CAL.CAL_STAT_STEPPING F.CAL.CAL_STAT_DUE 1 rfl (by decide)⟩

theorem State.calApply_kept (words : ∀ w ∈ q.words, w.1 < 0x2000000) (taps : ∀ c ∈ q.taps, c < 12) (maps : ∀ e ∈ q.maps, e.1 < 1024 ∧ e.2.1 < 8) : RecordKept s (s.calApply q) := by
  rw [State.calApply_eq]
  have stepping : RecordKept (s.calStored q) ((s.calStored q).calStepping q) := ⟨rfl, rfl, rfl, rfl⟩
  exact ((s.calStored_kept words taps maps).trans stepping).trans ((State.steppingShown_kept _ _).trans (.stepsDone _))

end

/-! ### The last item of a run -/

section
variable (s : State) (q : CalRun)

theorem State.calEnd_due (bad : Option (Nat × Nat)) : (s.calEnd q bad).get F.CAL.CAL_STAT_DUE = s.get F.CAL.CAL_STAT_DUE ∧ (s.calEnd q bad).get F.CAL.CAL_GEN = s.get F.CAL.CAL_GEN ∧
    (s.calEnd q bad).flash = s.flash ∧ (s.calEnd q bad).cal = { s.cal with run := none, ended := if q.manual then some (bad.getD (0, 0)) else none } := by
  unfold State.calEnd
  dsimp only
  split
  · exact ⟨rfl, rfl, rfl, rfl⟩
  · exact ⟨State.get_set_bits _ F.CAL.CAL_STAT_BUSY F.CAL.CAL_STAT_DUE 0 rfl (by decide), State.get_set_addr _ F.CAL.CAL_STAT_BUSY F.CAL.CAL_GEN 0 (by decide), rfl, rfl⟩

theorem State.calValid_of_read (rec_ : List Byte) (i : Nat) (read : s.flashRead (calAddr i) 0x10000 = rec_) (crc : crc32c (rec_.take 0xFFFC) = u32 rec_ 0xFFFC) : s.calValid i = true := by
  rw [State.calValid, read]
  exact beq_iff_eq.2 crc

theorem State.calGenOf_of_read (rec_ : List Byte) (i : Nat) (read : s.flashRead (calAddr i) 0x10000 = rec_) : s.calGenOf i = beAt rec_ 8 4 := by
  have head : (spGetList flashDflt s.flash (calAddr i) 8).length = 8 := spGetList_length _ _ _ _
  have mark : (spGetList flashDflt s.flash (calAddr i + 8) 4).length = 4 := spGetList_length _ _ _ _
  have split : rec_ = spGetList flashDflt s.flash (calAddr i) 8 ++ (spGetList flashDflt s.flash (calAddr i + 8) 4 ++ spGetList flashDflt s.flash (calAddr i + 8 + 4) 0xFFF4) := by
    rw [← read, ← spGetList_append, ← spGetList_append]
    rfl
  rw [State.calGenOf, split, beAt, List.drop_left' head, List.take_left' mark]
  rfl

end

end Sys2Proof.Machine
end

section
/-! PROOFS. The last item of a calibration run, and the statement about calibration runs. -/
namespace Sys2Proof.Machine

section
variable (s : State) {q : CalRun}

/-- What a run holds when its record is written: everything inside the record and among what exists. -/
structure CalRun.Sound (q : CalRun) : Prop where
  words : ∀ w ∈ q.words, w.1 < 0x2000000
  patch : ∀ e ∈ q.patch, e.1 + e.2.length ≤ 0xFFFC
  maps : ∀ e ∈ q.maps, e.1 < 1024 ∧ e.2.1 < 8
  taps : ∀ c ∈ q.taps, c < 12
  log : ∀ e ∈ q.log, e.length = 32

/-- The state after a run whose every item was accepted. -/
def State.runEnded (q : CalRun) : State := (((s.bothWritten (s.calRecord q)).copyTaken (1 - s.cal.copy)).calApply q).calEnd q none

theorem State.calGoesOn_last (items : q.items = []) (some_ : q.some = true) (good : q.bad = none) : s.calGoesOn q 2 = s.runEnded q := by
  rw [State.calGoesOn, items, s.calFinish_both q some_, good]
  rfl

theorem State.runEnded_kept (sound : q.Sound) : RecordKept ((s.bothWritten (s.calRecord q)).copyTaken (1 - s.cal.copy)) (s.runEnded q) := by
  obtain ⟨due, gen, flash, cal⟩ := (((s.bothWritten (s.calRecord q)).copyTaken (1 - s.cal.copy)).calApply q).calEnd_due q none
  exact (State.calApply_kept _ sound.words sound.taps sound.maps).trans ⟨flash, (congrArg CalSt.copy cal).trans rfl, gen, due⟩

theorem State.runEnded_spec (sound : q.Sound) (copy : s.cal.copy ≤ 1) :
    (s.runEnded q).get F.CAL.CAL_GEN = (s.get F.CAL.CAL_GEN + 1) % 2 ^ 32 ∧ (s.runEnded q).cal.copy = 1 - s.cal.copy ∧
    (∀ i ≤ 1, (s.runEnded q).flashRead (calAddr i) 0x10000 = s.calRecord q) ∧
    (∀ a, a < calAddr 0 ∨ calAddr 1 + 0x10000 ≤ a → spGet flashDflt (s.runEnded q).flash a = spGet flashDflt s.flash a) ∧
    (s.runEnded q).get F.CAL.CAL_STAT_DUE = s.get F.CAL.CAL_STAT_DUE := by
  have kept := s.runEnded_kept sound
  have len := s.length_calRecord sound.patch sound.log
  obtain ⟨gen, due⟩ := s.bothWritten_get (s.calRecord q)
  refine ⟨kept.gen.trans gen, kept.copy, fun i low => ?_, fun a outside => ?_, kept.due.trans due⟩
  · rw [State.flashRead, kept.flash]
    exact s.bothWritten_reads (s.calRecord q) len copy i low
  · rw [kept.flash]
    exact s.bothWritten_outside (s.calRecord q) len copy a outside

theorem State.runEnded_record (sound : q.Sound) (copy : s.cal.copy ≤ 1) : (s.runEnded q).calValid 0 = true ∧ (s.runEnded q).calGenOf 0 = (s.get F.CAL.CAL_GEN + 1) % 2 ^ 32 := by
  obtain ⟨-, -, reads, -, -⟩ := s.runEnded_spec sound copy
  exact ⟨State.calValid_of_read _ (s.calRecord q) 0 (reads 0 (by decide)) (s.calRecord_crc sound.patch sound.log),
    (State.calGenOf_of_read _ (s.calRecord q) 0 (reads 0 (by decide))).trans (s.calRecord_gen sound.patch sound.log)⟩

theorem State.runEnded_run : (s.runEnded q).cal.run = none ∧ (s.runEnded q).cal.ended = if q.manual then some (0, 0) else none := by
  obtain ⟨-, -, -, cal⟩ := (((s.bothWritten (s.calRecord q)).copyTaken (1 - s.cal.copy)).calApply q).calEnd_due q none
  exact ⟨congrArg CalSt.run cal, congrArg CalSt.ended cal⟩

end

section
variable {s : State} {r : CalRun} {m : CalMeas} {i : Nat}

/-- A run of one item, before its measurement. -/
def CalRun.single (i : Nat) (manual : Bool) (start : Int) : CalRun := ⟨[i], manual, start, none, [], [], [], [], [], [], false, false⟩

/-- The run after the measurement of its only item. -/
theorem State.runAccepted_sound (u : State) (manual : Bool) (start : Int) (j : Nat) :
    (u.runAccepted (s.calJudge (.single j manual start) m) i []).Sound ∧ (u.runAccepted (s.calJudge (.single j manual start) m) i []).bad = none ∧
    (u.runAccepted (s.calJudge (.single j manual start) m) i []).some = true ∧ (u.runAccepted (s.calJudge (.single j manual start) m) i []).manual = manual := by
  have gathers := s.calJudge_gathers (.single j manual start) m rfl
  have bad := congrArg CalRun.bad gathers.parts
  have log := congrArg CalRun.log gathers.parts
  have man := congrArg CalRun.manual gathers.parts
  refine ⟨⟨fun w mem => (gathers.words w mem).resolve_left List.not_mem_nil, fun e mem => (gathers.patch e mem).resolve_left List.not_mem_nil,
    fun e mem => (gathers.maps e mem).resolve_left List.not_mem_nil, fun c mem => (gathers.taps c mem).resolve_left List.not_mem_nil, fun e mem => ?_⟩, ?_, ?_, man⟩
  · have only : e ∈ (CalRun.single j manual start).log ++ [u.calLog i 0 0 (s.calJudge (.single j manual start) m).units] := by
      rw [State.runAccepted, log] at mem
      exact mem
    rw [List.mem_singleton.1 only]
    exact u.length_calLog _ _ _ _
  · rw [State.runAccepted, bad]
    rfl
  · rw [State.runAccepted, Bool.or_true, Bool.true_or]

theorem measItem_lt (m : CalMeas) : measItem m < 4 := by
  cases m
  all_goals simp [measItem]

theorem State.calRuns_get (u : State) (q : CalRun) (f : Fld) : (u.calRuns q).get f = u.get f := by
  rw [State.get, State.get, State.rd_congr (s := u) (t := u.calRuns q) rfl]

theorem Answering.cal_eq {s t : State} (h : Answering s t) : t.cal = s.cal := by rw [h]

theorem State.raise_calRuns (x : State) (n inst dat : Nat) (q : CalRun) : (x.raise n inst dat).calRuns q = { x.raise n inst dat with cal := { x.cal with run := some q } } := by
  rw [State.calRuns, (Answering.raise x n inst dat).cal_eq]

theorem State.calRuns_items (u : State) (q : CalRun) : ∃ p, (u.calRuns q).cal.run = some p ∧ p.items = q.items := ⟨q, rfl, rfl⟩

theorem State.itemEnd_goesOn (copies : Nat) (own : measItem m = i) {rest : List Nat} (items : r.items = i :: rest) (more : rest ≠ []) (run : s.cal.run = some r) (settled : s.calSettled i)
    (good : (s.calJudge r m).fails = []) :
    (s.calItemEnd m copies).get F.CAL.ACCEPTED = min (s.get F.CAL.ACCEPTED + 1) (2 ^ 32 - 1) ∧ (s.calItemEnd m copies).get F.CAL.RUNS = min (s.get F.CAL.RUNS + 1) (2 ^ 32 - 1) ∧
    (s.calItemEnd m copies).bitAt F.CAL.CAL_STAT_DUE i = false ∧ (s.calItemEnd m copies).get F.CAL.STATUS = 0 ∧ (s.calItemEnd m copies).get F.CAL.ITEM = 2 ^ i ∧
    (s.calItemEnd m copies).flash = s.flash ∧ ∃ q, (s.calItemEnd m copies).cal.run = some q ∧ q.items = rest := by
  have low : i < 4 := own ▸ measItem_lt m
  obtain ⟨accepted, runs, due, status, item⟩ := (s.judging m).itemAccepted_spec i low
  rw [s.judging_get] at accepted runs
  rw [State.calItemEnd_accepted copies run items own settled good, s.calJudge_st r m, State.calGoesOn_rest copies _ more]
  exact ⟨accepted, runs, due, status, item, (Answering.itemAccepted (s.judging m) i).flash_eq.trans (s.judging_flash m), _, rfl, rfl⟩

theorem State.itemEnd_rejected (copies : Nat) (own : measItem m = i) {rest : List Nat} (items : r.items = i :: rest) (more : rest ≠ []) (run : s.cal.run = some r) (settled : s.calSettled i)
    (bad : (s.calJudge r m).fails ≠ []) :
    (s.calItemEnd m copies).get F.CAL.REJECTED = min (s.get F.CAL.REJECTED + 1) (2 ^ 32 - 1) ∧ (s.calItemEnd m copies).flag F.CAL.CAL_STAT_REJECTED = true ∧
    (s.calItemEnd m copies).get F.CAL.STATUS = 0x8B ∧ (s.calItemEnd m copies).get F.CAL.DETAIL = (s.calJudge r m).fails.foldl min 7 ∧
    (s.calItemEnd m copies).bitAt F.CAL.CAL_STAT_DUE i = s.bitAt F.CAL.CAL_STAT_DUE i ∧ (∃ q, (s.calItemEnd m copies).cal.run = some q ∧ q.items = rest) ∧
    ∃ x : State, ∃ q : CalRun, s.calItemEnd m copies = { x.raise EV_CAL_REJECT (2 ^ i) ((s.calItemEnd m copies).get F.CAL.DETAIL) with cal := { x.cal with run := some q } } := by
  have low : i < 4 := own ▸ measItem_lt m
  have least (l : List Nat) (n : Nat) : l.foldl min n ≤ n := by
    induction l generalizing n with
    | nil => exact le_refl n
    | cons a l ih => exact (ih _).trans (Nat.min_le_left _ _)
  have small := least (s.calJudge r m).fails 7
  obtain ⟨rejected, flag, status, detail, due⟩ := (s.judging m).itemCounted_spec i ((s.calJudge r m).fails.foldl min 7) low (by omega)
  rw [s.judging_get] at rejected due
  have told := (s.judging m).itemRejected_get i ((s.calJudge r m).fails.foldl min 7)
  rw [State.calItemEnd_rejected copies run items own settled bad, s.calJudge_st r m, State.calGoesOn_rest copies _ more]
  simp only [State.calRuns_get]
  have shown := (told F.CAL.DETAIL (by decide) (by decide)).trans detail
  refine ⟨(told F.CAL.REJECTED (by decide) (by decide)).trans rejected, ?_, (told F.CAL.STATUS (by decide) (by decide)).trans status, shown, ?_, State.calRuns_items _ _,
    (s.judging m).itemCounted i ((s.calJudge r m).fails.foldl min 7), ((s.judging m).itemRejected i ((s.calJudge r m).fails.foldl min 7)).runRejected (s.calJudge r m) i
      ((s.calJudge r m).fails.foldl min 7) rest, ?_⟩
  · rw [State.flag] at flag ⊢
    rw [State.calRuns_get]
    exact (congrArg (· == 1) (told F.CAL.CAL_STAT_REJECTED (by decide) (by decide))).trans flag
  · rw [State.bitAt, State.bitAt, State.calRuns_get]
    exact congrArg (fun x => x / 2 ^ i % 2 == 1) ((told F.CAL.CAL_STAT_DUE (by decide) (by decide)).trans due)
  · rw [shown, State.itemRejected]
    exact State.raise_calRuns _ _ _ _ _

theorem State.itemEnd_last (manual : Bool) (start : Int) (own : measItem m = i) (run : s.cal.run = some (.single i manual start)) (good : (s.calJudge (.single i manual start) m).fails = [])
    (settled : s.calSettled i) : ∃ q : CalRun, q.Sound ∧ q.manual = manual ∧ s.calItemEnd m 2 = ((s.judging m).itemAccepted i).runEnded q := by
  obtain ⟨sound, bad, some_, man⟩ := State.runAccepted_sound (s := s) (m := m) (i := i) ((s.judging m).itemAccepted i) manual start i
  refine ⟨_, sound, man, ?_⟩
  rw [State.calItemEnd_accepted 2 run rfl own settled good, s.calJudge_st _ m]
  exact State.calGoesOn_last _ rfl some_ bad

end

/-- Settles O56. The last item of a run writes its record to both copies, with every byte that the run gathered inside it, so the copies agree and carry a right CRC and the next GENERATION. -/
theorem calibration : Obligations.Calibration := by
  unfold Obligations.Calibration
  refine ⟨fun via seq m => ⟨fun some_ low => .of_handler rfl fun u ⟨ready, mean, free, idle, still⟩ => ?starts, fun out => .of_handler rfl fun u ⟨ready, mean⟩ => ?mask,
      .of_handler rfl fun u other => ?state, .of_handler rfl fun u ⟨ready, mean⟩ => ?noMean⟩,
    fun st dt => .of_effect (fun _ => rfl) fun s ended => ⟨_, ?completes, rfl⟩, .of_effect (fun _ => rfl) fun s none_ => ?nothing,
    ⟨.of_effect (fun _ => rfl) fun s may => ?automatic, .of_effect (fun _ => rfl) fun s not => s.calAuto_not not⟩,
    fun m copies => ⟨.of_effect (fun _ => rfl) fun s none_ => State.calItemEnd_none _ none_, fun r i rest items =>
      ⟨fun other => .of_effect (fun _ => rfl) fun s run => State.calItemEnd_other _ run items other,
      fun own reference => .of_effect (fun _ => rfl) fun s ⟨run, unsettled⟩ => State.calItemEnd_unsettled _ run items own reference unsettled,
      fun own more => ⟨.of_effect (fun _ => rfl) fun s ⟨⟨run, settled⟩, good⟩ => State.itemEnd_goesOn _ own items more run settled good,
        .of_effect (fun _ => rfl) fun s ⟨⟨run, settled⟩, bad⟩ => State.itemEnd_rejected _ own items more run settled bad⟩,
      fun own _ single => .of_effect (fun _ => rfl) fun s ⟨run, copy, good, settled⟩ => ?last⟩⟩⟩
  case starts =>
    obtain ⟨regs, busy, run⟩ := u.calBegin_spec (maskedItems m.toNat) true mean
    have passes : u.afterReload (cmdCalRun u (calRunOperands m)) = (u.calBegin (maskedItems m.toNat) true).reply (.accepted 0) := by
      rw [State.afterReload, still, cmdCalRun_starts u m some_ low ready mean free idle]
      rfl
    rw [maskedItems_bits]
    exact ⟨u.calBegin (maskedItems m.toNat) true, passes, rfl, regs, busy, run⟩
  case mask => exact (congrArg u.afterReload (cmdCalRun_mask u m out ready mean)).trans (u.afterReload_final _ _ _)
  case state => exact (congrArg u.afterReload (cmdCalRun_state u _ other)).trans (u.afterReload_final _ _ _)
  case noMean => exact (congrArg u.afterReload (cmdCalRun_noMean u _ ready mean)).trans (u.afterReload_final _ _ _)
  case completes => rw [State.calComplete, ended]
  case nothing =>
    rw [Nothing, State.calComplete, none_]
  case automatic =>
    obtain ⟨-, -, -, -, -, -, -, mean⟩ := by exact may
    obtain ⟨regs, busy, run⟩ := s.calBegin_spec (maskedItems (s.get F.CAL.CAL_STAT_DUE)) false mean
    rw [s.calAuto_begins may]
    exact ⟨busy, regs, run⟩
  case last =>
    obtain ⟨manual, start, rfl⟩ : ∃ manual start, r = CalRun.single i manual start := ⟨_, _, single⟩
    obtain ⟨q, sound, man, ends⟩ := State.itemEnd_last manual start own run good settled
    have told := Answering.itemAccepted (s.judging m) i
    have copied : ((s.judging m).itemAccepted i).cal.copy = s.cal.copy := (congrArg CalSt.copy told.cal_eq).trans (s.judging_copy m)
    have generation : ((s.judging m).itemAccepted i).get F.CAL.CAL_GEN = s.get F.CAL.CAL_GEN :=
      (((s.judging m).itemAccepted_words i).get F.CAL.CAL_GEN (by decide) (by decide) (by simp [ItemWord, ResultWord, StampWord, F.CAL.CAL_GEN])).trans (s.judging_get m _)
    obtain ⟨-, -, due, -, -⟩ := (s.judging m).itemAccepted_spec i (own ▸ measItem_lt m)
    obtain ⟨ran, ended⟩ := ((s.judging m).itemAccepted i).runEnded_run (q := q)
    obtain ⟨gen, first, reads, outside, kept⟩ := ((s.judging m).itemAccepted i).runEnded_spec sound (by rw [copied]; exact copy)
    obtain ⟨valid, number⟩ := ((s.judging m).itemAccepted i).runEnded_record sound (by rw [copied]; exact copy)
    have counted : ((2 : Fin 3) : Nat) = 2 := rfl
    rw [counted, ends]
    rw [man] at ended
    rw [generation] at gen number
    rw [copied] at first
    rw [told.flash_eq, s.judging_flash m] at outside
    refine ⟨ran, ended, gen, first, (reads 0 (by decide)).trans (reads 1 (by decide)).symm, valid, number, outside, ?_⟩
    rw [State.bitAt] at due ⊢
    exact (congrArg (fun x => x / 2 ^ i % 2 == 1) kept).trans due

end Sys2Proof.Machine
end

section
/-! PROOFS. Commissioning (R50, R356 to R359): the session, its commands and what they refuse. -/
namespace Sys2Proof.Machine

/-! ### The credential's length -/

theorem length_shaRound (x : List Word × List Word) (k : Word) (len : x.2.length = 8) : (shaRound x k).2.length = 8 := by
  unfold shaRound
  split
  · rfl
  · exact len

theorem length_shaBlock (h : List Word) (block : List Byte) (len : h.length = 8) : (shaBlock h block).length = 8 := by
  have rounds (l : List Word) (x : List Word × List Word) (len : x.2.length = 8) : (l.foldl shaRound x).2.length = 8 := by
    induction l generalizing x with
    | nil => exact len
    | cons k l ih => exact ih _ (length_shaRound x k len)
  rw [shaBlock, List.length_map, List.length_zip, rounds shaK (bytesWords block, h) len, len]
  rfl

theorem length_shaBlocks (n : Nat) (h : List Word) (m : List Byte) (len : h.length = 8) : (shaBlocks n h m).length = 8 := by
  induction n generalizing h m with
  | zero => exact len
  | succ n ih => exact ih _ _ (length_shaBlock h _ len)

theorem length_sha256 (m : List Byte) : (sha256 m).length = 32 := by
  have words := length_shaBlocks ((shaPad m).length / 64) shaInit (shaPad m) rfl
  rw [sha256, wordBytes, length_flatMap_const _ _ 4 fun w _ => length_beBytes 4 _, words]

theorem State.length_credential (u : State) : u.credential.length = 32 := length_sha256 _

/-! ### The session (R356) -/

section
variable (u : State) {via : Port} {ses : Word} {x : SafeSession}

theorem State.newNonce_spec : u.newNonce = { u with regs := u.newNonce.regs, free := u.free + 1 } ∧ SameRegs u u.newNonce [F.SAF.NONCE.addr] ∧
    u.newNonce.get F.SAF.NONCE = Config.freeNat u.free % 2 ^ 32 :=
  ⟨rfl, fun a other => State.rd_set_ne u.freeNat.2 F.SAF.NONCE _ a fun same => other (List.mem_singleton.2 same), State.get_set_same u.freeNat.2 F.SAF.NONCE _ rfl⟩

/-- Of more numbers than were issued, one more than 0 takes away, one is fresh. -/
theorem exists_fresh (issued : List Nat) : ∃ n ∈ List.range (issued.length + 2), (n != 0 && !issued.contains n) = true := by
  by_contra none
  push Not at none
  have sub : List.range (issued.length + 2) ⊆ 0 :: issued := fun n mem => by
    have used := none n mem
    by_contra away
    rw [List.mem_cons, not_or] at away
    obtain ⟨positive, fresh⟩ := away
    simp [positive, fresh] at used
  have short := (List.nodup_range.subperm sub).length_le
  rw [List.length_range, List.length_cons] at short
  omega

theorem State.sessionNumber_spec : u.sessionNumber.1 ≠ 0 ∧ u.sessionNumber.1 ∉ u.safe.issued ∧ u.sessionNumber.2 = { u with free := u.free + 1 } := by
  have fresh : (u.sessionNumber.1 != 0 && !u.safe.issued.contains u.sessionNumber.1) = true := by
    unfold State.sessionNumber
    dsimp only
    split
    case isTrue drawn => exact drawn
    case isFalse =>
      obtain ⟨n, found⟩ := Option.isSome_iff_exists.1 (List.find?_isSome.2 (exists_fresh u.safe.issued))
      rw [found]
      exact List.find?_some (p := fun n => n != 0 && !u.safe.issued.contains n) found
  simp only [Bool.and_eq_true, bne_iff_ne, Bool.not_eq_true', List.contains_eq_mem, decide_eq_false_iff_not] at fresh
  obtain ⟨positive, unissued⟩ := fresh
  exact ⟨positive, unissued, rfl⟩

/-- A session as the statement speaks of it. -/
def State.owns (u : State) (via : Port) (ses : Word) (x : SafeSession) : Prop := u.safe.session = some x ∧ x.port = via ∧ x.num = ses.toNat

variable {u}

theorem State.locked_owned {p : List Byte} (mine : u.owns via ses x) (number : u32 p 0 = ses.toNat) (go : SafeSession → Reply) : u.locked via p go = go x := by
  obtain ⟨session, port, num⟩ := mine
  rw [State.locked, State.sessionOf, session]
  dsimp only
  rw [if_pos ⟨port, num.trans number.symm⟩]

theorem State.locked_foreign {p : List Byte} (none_ : ∀ x, ¬ u.owns via ses x) (number : u32 p 0 = ses.toNat) (go : SafeSession → Reply) : u.locked via p go = u.reply (.final 0x14 1 []) := by
  have absent : u.sessionOf via p = none := by
    unfold State.sessionOf
    cases session : u.safe.session with
    | none => rfl
    | some x => exact if_neg fun ⟨port, num⟩ => none_ x ⟨session, port, num.trans number⟩
  rw [State.locked, absent]

/-- The session number at the head of a payload. -/
theorem u32_session (ses : Word) (rest : List Byte) : u32 (beBytes 4 ses.toNat ++ rest) 0 = ses.toNat := by
  rw [u32, beAt_append_left _ _ _ _ (by rw [length_beBytes]), beAt, List.drop_zero, List.take_of_length_le (by rw [length_beBytes]), ofBe_beBytes_four]

theorem cmdCommissionOpen_done (open_ : (u.pw.st = .ready ∨ u.pw.st = .safeHold) ∧ u.safe.session = none) (free : u.flag F.SAF.SAFE_STAT_LOCKOUT = false) :
    cmdCommissionOpen via u u.credential = ({ u.newNonce.sessionNumber.2 with safe := { u.safe with
      session := some ⟨u.newNonce.sessionNumber.1, via, u.safe.cfg.getD safeBlank⟩, issued := u.safe.issued ++ [u.newNonce.sessionNumber.1] } } : State).done (beBytes 4 u.newNonce.sessionNumber.1) := by
  obtain ⟨state, session⟩ := open_
  have whole : u.credential.take 32 = u.credential := List.take_of_length_le (le_of_eq u.length_credential)
  unfold cmdCommissionOpen
  dsimp only
  rw [if_neg fun ⟨notReady, notHold⟩ => state.elim notReady notHold, session, free, if_neg (by simp), if_neg (by simp), if_neg fun other => other whole]
  rfl

theorem cmdCommissionOpen_state (p : List Byte) (notReady : u.pw.st ≠ .ready) (notHold : u.pw.st ≠ .safeHold) : cmdCommissionOpen via u p = u.newNonce.reply (.final 0x13 u.stateCode []) :=
  if_pos ⟨notReady, notHold⟩

theorem cmdCommissionOpen_second (p : List Byte) (state : u.pw.st = .ready ∨ u.pw.st = .safeHold) (session : u.safe.session ≠ none) : cmdCommissionOpen via u p = u.newNonce.reply (.final 0x80 0 []) := by
  unfold cmdCommissionOpen
  dsimp only
  rw [if_neg fun ⟨notReady, notHold⟩ => state.elim notReady notHold, if_pos (Option.isSome_iff_ne_none.2 session)]

theorem cmdCommissionOpen_lockout (p : List Byte) (open_ : (u.pw.st = .ready ∨ u.pw.st = .safeHold) ∧ u.safe.session = none) (out : u.flag F.SAF.SAFE_STAT_LOCKOUT = true) :
    cmdCommissionOpen via u p = u.newNonce.reply (.final 0x14 2 []) := by
  obtain ⟨state, session⟩ := open_
  unfold cmdCommissionOpen
  dsimp only
  rw [if_neg fun ⟨notReady, notHold⟩ => state.elim notReady notHold, session, if_neg (by simp), if_pos out]

theorem cmdCommissionOpen_wrong (cred : List Byte) (len : cred.length = 32) (open_ : (u.pw.st = .ready ∨ u.pw.st = .safeHold) ∧ u.safe.session = none)
    (free : u.flag F.SAF.SAFE_STAT_LOCKOUT = false) (wrong : cred ≠ u.credential) : cmdCommissionOpen via u cred = u.newNonce.credFail.reply (.final 0x14 2 []) := by
  obtain ⟨state, session⟩ := open_
  unfold cmdCommissionOpen
  dsimp only
  rw [if_neg fun ⟨notReady, notHold⟩ => state.elim notReady notHold, session, free, if_neg (by simp), if_neg (by simp), List.take_of_length_le (le_of_eq len), if_pos wrong]

end

section
variable (s : State)

/-- The wrong credentials of the last 60 s, with the one now. -/
def State.recentFails : List Nat := s.time.dev.toNat :: s.safe.fails.filter (fun f => decide (s.time.dev.toNat < f + 60 * 10 ^ 9))

/-- A wrong credential is kept and counted. -/
def State.failCounted : State := (({ s with safe := { s.safe with fails := s.recentFails } } : State).inc F.SAF.CRED_FAIL).raise EV_SAFETY_CREDENTIAL 0 0

theorem State.credFail_eq : s.credFail = if 3 ≤ s.recentFails.length then ({ s.failCounted with safe := { s.failCounted.safe with fails := [] } } : State).set F.SAF.SAFE_STAT_LOCKOUT 1 else s.failCounted := rfl

theorem Answering.safe_eq {s t : State} (h : Answering s t) : t.safe = s.safe := by rw [h]

theorem State.failCounted_spec : s.failCounted.get F.SAF.CRED_FAIL = min (s.get F.SAF.CRED_FAIL + 1) (2 ^ 32 - 1) ∧ s.failCounted.get F.SAF.SAFE_STAT_LOCKOUT = s.get F.SAF.SAFE_STAT_LOCKOUT ∧
    s.failCounted.safe.session = s.safe.session := by
  have told : BlockWords (fun _ => False) (({ s with safe := { s.safe with fails := s.recentFails } } : State).inc F.SAF.CRED_FAIL) s.failCounted := .raise _ _ _ _ (by decide)
  have count := State.get_inc_of_eq (s := s) (t := { s with safe := { s.safe with fails := s.recentFails } }) F.SAF.CRED_FAIL rfl rfl
  have locked := State.get_inc_ne { s with safe := { s.safe with fails := s.recentFails } } F.SAF.CRED_FAIL F.SAF.SAFE_STAT_LOCKOUT (by decide)
  exact ⟨(told.get F.SAF.CRED_FAIL (by decide) (by decide) not_false).trans count, (told.get F.SAF.SAFE_STAT_LOCKOUT (by decide) (by decide) not_false).trans locked,
    (congrArg SafeSt.session (Answering.raise _ EV_SAFETY_CREDENTIAL 0 0).safe_eq).trans rfl⟩

theorem State.credFail_spec : s.credFail.get F.SAF.CRED_FAIL = min (s.get F.SAF.CRED_FAIL + 1) (2 ^ 32 - 1) ∧ s.credFail.safe.session = s.safe.session ∧
    s.credFail.get F.SAF.SAFE_STAT_LOCKOUT = if 2 ≤ (s.safe.fails.filter (fun f => decide (s.time.dev.toNat < f + 60 * 10 ^ 9))).length then 1 else s.get F.SAF.SAFE_STAT_LOCKOUT := by
  obtain ⟨count, locked, session⟩ := s.failCounted_spec
  have third : 3 ≤ s.recentFails.length ↔ 2 ≤ (s.safe.fails.filter (fun f => decide (s.time.dev.toNat < f + 60 * 10 ^ 9))).length := by
    rw [State.recentFails, List.length_cons]
    omega
  rw [State.credFail_eq]
  by_cases out : 3 ≤ s.recentFails.length
  · rw [if_pos out, if_pos (third.1 out)]
    generalize s.failCounted = u at count session
    exact ⟨(State.get_set_addr { u with safe := { u.safe with fails := [] } } F.SAF.SAFE_STAT_LOCKOUT F.SAF.CRED_FAIL 1 (by decide)).trans count, session,
      State.get_set_same { u with safe := { u.safe with fails := [] } } F.SAF.SAFE_STAT_LOCKOUT 1 rfl⟩
  · rw [if_neg out, if_neg fun many => out (third.2 many)]
    exact ⟨count, session, locked⟩

end

/-! ### The locked set (R357 to R359) -/

section
variable {u : State} {via : Port} {ses : Word} {x : SafeSession}

/-- The payload of FIELD_WRITE. -/
def fieldOperands (ses : Word) (f n : Byte) (b : List Byte) : List Byte := beBytes 4 ses.toNat ++ [f, n] ++ zeros 2 ++ b

theorem fieldOperands_fields (ses : Word) (f n : Byte) (b : List Byte) : u32 (fieldOperands ses f n b) 0 = ses.toNat ∧ u8 (fieldOperands ses f n b) 4 = f.toNat ∧
    u8 (fieldOperands ses f n b) 5 = n.toNat ∧ notZero (fieldOperands ses f n b) 6 2 = false ∧ (fieldOperands ses f n b).drop 8 = b := by
  refine ⟨?_, ?_, ?_, notZero_zeros_between (beBytes 4 ses.toNat ++ [f, n]) b 6 2 rfl, rfl⟩
  · rw [fieldOperands, List.append_assoc, List.append_assoc]
    exact u32_session ses _
  · exact ofBe_byte f
  · exact ofBe_byte n

theorem cmdFieldWrite_done {f n : Byte} {b : List Byte} (mine : u.owns via ses x) (len : b.length = 8 + 8 * n.toNat) (field : f.toNat ≤ 15) (least : 3 ≤ n.toNat) (most : n.toNat ≤ 32)
    (flags : u8 b 0 ≤ 1) (spare : u8 b 3 = 0) (sound : fieldFault b n.toNat = 0) :
    cmdFieldWrite via u (fieldOperands ses f n b) = (u.stage x (patchBytes x.stage (360 + 268 * f.toNat) ([n, 0, 0, 0] ++ b ++ zeros (256 - 8 * n.toNat)))).done [] := by
  obtain ⟨number, fieldNo, vertices, zero, block⟩ := fieldOperands_fields ses f n b
  have byte : beBytes 1 n.toNat ++ zeros 3 = [n, 0, 0, 0] := by
    rw [beBytes, beBytes]
    simp [zeros]
  have last : notZero b 3 1 = false := bne_eq_false_iff_eq.2 spare
  unfold cmdFieldWrite
  rw [State.locked_owned mine number]
  dsimp only
  rw [fieldNo, vertices, zero, block, byte, last, sound, List.take_of_length_le (le_of_eq len), u.guarded_pass _ _ (by simp [badParam]; omega)]
  rfl

theorem cmdFieldWrite_fault {f n : Byte} {b : List Byte} (mine : u.owns via ses x) (field : f.toNat ≤ 15) (least : 3 ≤ n.toNat) (most : n.toNat ≤ 32)
    (flags : u8 b 0 ≤ 1) (spare : u8 b 3 = 0) (fault : fieldFault b n.toNat ≠ 0) :
    cmdFieldWrite via u (fieldOperands ses f n b) = u.reply (.final 0x81 (fieldFault b n.toNat) []) := by
  obtain ⟨number, fieldNo, vertices, zero, block⟩ := fieldOperands_fields ses f n b
  have last : notZero b 3 1 = false := bne_eq_false_iff_eq.2 spare
  have range : decide (15 < f.toNat ∨ n.toNat < 3 ∨ 32 < n.toNat) = false := decide_eq_false (by omega)
  have plain : decide (2 ≤ u8 b 0) = false := decide_eq_false (by omega)
  unfold cmdFieldWrite
  rw [State.locked_owned mine number]
  dsimp only
  rw [fieldNo, vertices, zero, block, last, range, plain, State.guarded_cons, State.guarded_cons, State.guarded_cons]
  simp [badParam, fault]

theorem cmdFieldWrite_range {f n : Byte} {b : List Byte} (mine : u.owns via ses x) (out : 15 < f.toNat ∨ n.toNat < 3 ∨ 32 < n.toNat) :
    cmdFieldWrite via u (fieldOperands ses f n b) = u.reply (.final 0x12 1 []) := by
  obtain ⟨number, fieldNo, vertices, zero, -⟩ := fieldOperands_fields ses f n b
  unfold cmdFieldWrite
  rw [State.locked_owned mine number]
  dsimp only
  rw [fieldNo, vertices, zero, decide_eq_true out, State.guarded_cons]
  rfl

theorem cmdFieldWrite_foreign {f n : Byte} {b : List Byte} (none_ : ∀ x, ¬ u.owns via ses x) : cmdFieldWrite via u (fieldOperands ses f n b) = u.reply (.final 0x14 1 []) :=
  State.locked_foreign none_ (fieldOperands_fields ses f n b).1 _

/-- The payload of SAFETY_PARAM_WRITE. -/
def paramOperands (ses : Word) (k : BitVec 16) (v : Word) : List Byte := beBytes 4 ses.toNat ++ beBytes 2 k.toNat ++ zeros 2 ++ beBytes 4 v.toNat

theorem paramOperands_fields (ses : Word) (k : BitVec 16) (v : Word) : u32 (paramOperands ses k v) 0 = ses.toNat ∧ u16 (paramOperands ses k v) 4 = k.toNat ∧
    notZero (paramOperands ses k v) 6 2 = false ∧ u32 (paramOperands ses k v) 8 = v.toNat := by
  refine ⟨?_, ofBe_beBytes_two k, notZero_zeros_between (beBytes 4 ses.toNat ++ beBytes 2 k.toNat) (beBytes 4 v.toNat) 6 2 rfl, ofBe_beBytes_four v⟩
  rw [paramOperands, List.append_assoc, List.append_assoc]
  exact u32_session ses _

theorem cmdSafetyParamWrite_foreign {k : BitVec 16} {v : Word} (none_ : ∀ x, ¬ u.owns via ses x) : cmdSafetyParamWrite via u (paramOperands ses k v) = u.reply (.final 0x14 1 []) :=
  State.locked_foreign none_ (paramOperands_fields ses k v).1 _

theorem cmdSafetyParamWrite_owned {k : BitVec 16} {v : Word} (mine : u.owns via ses x) : cmdSafetyParamWrite via u (paramOperands ses k v) =
    u.guarded [badParam (!safeParams.contains k.toNat || false) 1, badParam (!safeParamOk k.toNat v.toNat) 2]
      ((u.stage x (patchBytes x.stage (28 + 8 * paramEntry k.toNat) (beBytes 4 v.toNat))).done []) := by
  obtain ⟨number, param, zero, value⟩ := paramOperands_fields ses k v
  unfold cmdSafetyParamWrite
  rw [State.locked_owned mine number]
  dsimp only
  rw [param, zero, value]

theorem cmdSafetyParamWrite_done {k : BitVec 16} {v : Word} (mine : u.owns via ses x) (known : k.toNat ∈ safeParams) (sound : safeParamOk k.toNat v.toNat = true) :
    cmdSafetyParamWrite via u (paramOperands ses k v) = (u.stage x (patchBytes x.stage (28 + 8 * paramEntry k.toNat) (beBytes 4 v.toNat))).done [] := by
  have listed : safeParams.contains k.toNat = true := List.contains_iff_mem.2 known
  rw [cmdSafetyParamWrite_owned mine, listed, sound, u.guarded_pass _ _ (by simp [badParam])]

theorem cmdSafetyParamWrite_unknown {k : BitVec 16} {v : Word} (mine : u.owns via ses x) (unknown : k.toNat ∉ safeParams) :
    cmdSafetyParamWrite via u (paramOperands ses k v) = u.reply (.final 0x12 1 []) := by
  have unlisted : safeParams.contains k.toNat = false := Bool.eq_false_iff.2 fun listed => unknown (List.contains_iff_mem.1 listed)
  rw [cmdSafetyParamWrite_owned mine, unlisted, State.guarded_cons]
  rfl

theorem cmdSafetyParamWrite_range {k : BitVec 16} {v : Word} (mine : u.owns via ses x) (known : k.toNat ∈ safeParams) (out : safeParamOk k.toNat v.toNat = false) :
    cmdSafetyParamWrite via u (paramOperands ses k v) = u.reply (.final 0x12 2 []) := by
  have listed : safeParams.contains k.toNat = true := List.contains_iff_mem.2 known
  rw [cmdSafetyParamWrite_owned mine, listed, out, State.guarded_cons, State.guarded_cons]
  rfl

/-- The payload of COMMISSION_COMMIT. -/
def commitOperands (ses crc : Word) : List Byte := beBytes 4 ses.toNat ++ beBytes 4 crc.toNat

theorem commitOperands_fields (ses crc : Word) : u32 (commitOperands ses crc) 0 = ses.toNat ∧ u32 (commitOperands ses crc) 4 = crc.toNat :=
  ⟨u32_session ses _, ofBe_beBytes_four crc⟩

/-- The image without its CRC that a commit writes. -/
def State.commitBody (u : State) (x : SafeSession) : List Byte :=
  patchBytes (x.stage.take 4648) 12 (beBytes 4 (max u.safeGens.1 u.safeGens.2 + 1) ++ beBytes 8 u.time.dev.toNat)

/-- The image that a commit writes. -/
def State.commitImage (u : State) (x : SafeSession) : List Byte := u.commitBody x ++ beBytes 4 (crc32c (u.commitBody x))

theorem cmdCommissionCommit_owned {crc : Word} (mine : u.owns via ses x) : cmdCommissionCommit via u (commitOperands ses crc) =
    u.guarded [badParam (crc.toNat != imgCrc x.stage) 1, (u.commitFault x.stage != 0, 0x82, u.commitFault x.stage)]
      (u.accept 0x0704 { u with safe := { u.safe with commit := some (u.commitImage x) } }) := by
  obtain ⟨number, sum⟩ := commitOperands_fields ses crc
  unfold cmdCommissionCommit
  rw [State.locked_owned mine number, sum]
  rfl

theorem cmdCommissionCommit_starts {crc : Word} (mine : u.owns via ses x) (sum : crc.toNat = imgCrc x.stage) (sound : u.commitFault x.stage = 0) (free : u.rangeBusy 0x0704 = false) :
    cmdCommissionCommit via u (commitOperands ses crc) = ({ u with safe := { u.safe with commit := some (u.commitImage x) } } : State).reply (.accepted 0) := by
  rw [cmdCommissionCommit_owned mine, u.guarded_pass _ _ (by simp [badParam, sum, sound])]
  exact u.accept_free 0x0704 _ 0 free

theorem cmdCommissionCommit_crc {crc : Word} (mine : u.owns via ses x) (wrong : crc.toNat ≠ imgCrc x.stage) : cmdCommissionCommit via u (commitOperands ses crc) = u.reply (.final 0x12 1 []) := by
  rw [cmdCommissionCommit_owned mine, State.guarded_cons, badParam, bne_iff_ne.2 wrong]
  rfl

theorem cmdCommissionCommit_fault {crc : Word} (mine : u.owns via ses x) (sum : crc.toNat = imgCrc x.stage) (fault : u.commitFault x.stage ≠ 0) :
    cmdCommissionCommit via u (commitOperands ses crc) = u.reply (.final 0x82 (u.commitFault x.stage) []) := by
  rw [cmdCommissionCommit_owned mine, State.guarded_cons, State.guarded_cons, badParam, bne_iff_ne.2 fault, bne_eq_false_iff_eq.2 sum]
  rfl

theorem cmdCommissionCommit_foreign {crc : Word} (none_ : ∀ x, ¬ u.owns via ses x) : cmdCommissionCommit via u (commitOperands ses crc) = u.reply (.final 0x14 1 []) :=
  State.locked_foreign none_ (commitOperands_fields ses crc).1 _

/-- The image that a commit writes: its length, its CRC, its generation and time, and the staging copy's bytes elsewhere. -/
theorem State.commitImage_spec (u : State) (x : SafeSession) (whole : 4648 ≤ x.stage.length) : (u.commitImage x).length = 4652 ∧ safeCopyOk (u.commitImage x) = true ∧
    imgGen (u.commitImage x) = (max u.safeGens.1 u.safeGens.2 + 1) % 2 ^ 32 ∧ u64 (u.commitImage x) 16 = u.time.dev.toNat ∧ (u.commitImage x).take 12 = x.stage.take 12 ∧
    ((u.commitImage x).drop 24).take 4624 = (x.stage.drop 24).take 4624 := by
  have head : (x.stage.take 4648).length = 4648 := List.length_take_of_le whole
  generalize marks : beBytes 4 (max u.safeGens.1 u.safeGens.2 + 1) ++ beBytes 8 u.time.dev.toNat = m
  have twelve : m.length = 12 := by rw [← marks, List.length_append, length_beBytes, length_beBytes]
  have inside : 12 + m.length ≤ (x.stage.take 4648).length := by omega
  have body : u.commitBody x = (x.stage.take 4648).take 12 ++ (m ++ (x.stage.take 4648).drop 24) := by
    rw [State.commitBody, marks, patchBytes, twelve, List.append_assoc]
  have len : (u.commitBody x).length = 4648 := by
    rw [State.commitBody, marks, length_patchBytes inside, head]
  have first : ((x.stage.take 4648).take 12).length = 12 := List.length_take_of_le (by omega)
  have sum : (beBytes 4 (crc32c (u.commitBody x))).length = 4 := length_beBytes _ _
  have at_ (i n : Nat) (low : 12 ≤ i) (high : i + n ≤ 24) : beAt (u.commitImage x) i n = beAt m (i - 12) n := by
    rw [State.commitImage, beAt_append_left _ _ _ _ (by omega), body, beAt_append_right _ _ _ _ (by omega), first, beAt_append_left _ _ _ _ (by omega)]
  refine ⟨by rw [State.commitImage, List.length_append, len, sum], ?_, ?_, ?_, ?_, ?_⟩
  · rw [safeCopyOk, u32, State.commitImage, List.take_left' len, beAt_append_right _ _ _ _ (by omega), len, Nat.sub_self, beAt, List.drop_zero, List.take_of_length_le (le_of_eq sum), ofBe_beBytes]
    exact beq_iff_eq.2 (Nat.mod_eq_of_lt (crc32c_lt _)).symm
  · rw [imgGen, u32, at_ 12 4 (by decide) (by decide), ← marks, beAt_append_left _ _ _ _ (by rw [length_beBytes]), beAt, List.drop_zero, List.take_of_length_le (le_of_eq (length_beBytes _ _)),
      ofBe_beBytes]
    rfl
  · rw [u64, at_ 16 8 (by decide) (by decide), ← marks, beAt_append_right _ _ _ _ (by rw [length_beBytes]), length_beBytes, beAt, List.drop_zero,
      List.take_of_length_le (le_of_eq (length_beBytes _ _)), ofBe_beBytes_eight]
  · rw [State.commitImage, body, List.append_assoc, List.take_left' first, List.take_take]
    rfl
  · rw [State.commitImage, body, ← List.append_assoc (_ : List Byte) m, List.append_assoc, List.drop_left' (by rw [List.length_append, first, twelve]), List.take_left' (by rw [List.length_drop, head]),
      List.take_drop]

/-- COMMISSION_ABORT. -/
theorem cmdCommissionAbort_done (mine : u.owns via ses x) : cmdCommissionAbort via u (beBytes 4 ses.toNat) = u.closeCommissioning.done [] :=
  State.locked_owned mine (show u32 (beBytes 4 ses.toNat) 0 = ses.toNat from ofBe_beBytes_four ses) _

theorem cmdCommissionAbort_foreign (none_ : ∀ x, ¬ u.owns via ses x) : cmdCommissionAbort via u (beBytes 4 ses.toNat) = u.reply (.final 0x14 1 []) :=
  State.locked_foreign none_ (show u32 (beBytes 4 ses.toNat) 0 = ses.toNat from ofBe_beBytes_four ses) _

end

end Sys2Proof.Machine
end

section
/-! PROOFS. Commissioning (R108, R344, R359, R360): the copies that a commit writes, the loading of the configuration, and the statement. -/
namespace Sys2Proof.Machine

/-! ### The copies are written (R359) -/

section
variable (s : State) (img : List Byte)

/-- The copy that is written first. -/
def State.commitFirst : Nat :=
  if !safeCopyOk (s.safeCopy 0) then 0 else if !safeCopyOk (s.safeCopy 1) then 1 else if s.safeGens.1 ≤ s.safeGens.2 then 0 else 1

theorem State.commitFirst_le : s.commitFirst ≤ 1 := by
  unfold State.commitFirst
  split
  · decide
  split
  · decide
  split
  all_goals decide

/-- A copy whose writing failed holds free bytes. -/
def State.copyLost (i : Nat) : State := (s.freeBytes 4652).2.flashWrite (safeAddr i) (s.freeBytes 4652).1

/-- The writing of the copies, of which so many succeed. -/
def State.copiesWritten (copies : Nat) : State :=
  if copies = 0 then s.copyLost s.commitFirst
  else if copies = 1 then (s.flashWrite (safeAddr s.commitFirst) img).copyLost (1 - s.commitFirst)
  else (s.flashWrite (safeAddr s.commitFirst) img).flashWrite (safeAddr (1 - s.commitFirst)) img

/-- The session ends with its commit; a commit of both copies waits for a reboot. -/
def State.commitClosed (copies : Nat) : State :=
  ({ s with safe := { s.safe with commit := none, session := none } } : State).when (copies == 2) (fun s => s.set F.SAF.SAFE_STAT_PENDING_REBOOT 1)

theorem State.commitEnd_some {copies : Nat} (commit : s.safe.commit = some img) : s.commitEnd copies =
    (((s.copiesWritten img copies).commitClosed copies).complete 0x0704 (if copies = 2 then 0 else 0x84) (if copies = 2 then 0 else copies + 1) []).raise EV_SAFETY_COMMIT 0
      (if copies = 2 then 0 else 0x84) := by
  unfold State.commitEnd
  rw [commit]
  rfl

theorem State.commitEnd_none {copies : Nat} (none_ : s.safe.commit = none) : s.commitEnd copies = s := by
  unfold State.commitEnd
  rw [none_]

theorem State.flashRead_congr {u t : State} (same : t.flash = u.flash) (a n : Nat) : t.flashRead a n = u.flashRead a n := by rw [State.flashRead, State.flashRead, same]

theorem State.freeBytes_state (n : Nat) : (s.freeBytes n).2 = { s with free := s.free + n } := rfl

theorem State.copyLost_parts (i : Nat) : s.copyLost i = { s with flash := (s.copyLost i).flash, free := (s.copyLost i).free } := by
  rw [State.copyLost, State.freeBytes_state]
  generalize (s.freeBytes 4652).1 = b
  rfl

theorem State.length_freeBytes (n : Nat) : (s.freeBytes n).1.length = n := by rw [State.freeBytes, List.length_map, List.length_range]

theorem State.copyLost_apart (i : Nat) (low : i ≤ 1) : (s.copyLost i).safeCopy (1 - i) = s.safeCopy (1 - i) := by
  rw [State.safeCopy, State.copyLost, State.flashRead_apart _ _ _ _ _ (by rw [s.length_freeBytes]; simp only [safeAddr]; omega), State.freeBytes_state]
  exact State.flashRead_congr rfl _ _

theorem State.copyLost_outside (i a : Nat) (outside : a < safeAddr i ∨ safeAddr i + 4652 ≤ a) : spGet flashDflt (s.copyLost i).flash a = spGet flashDflt s.flash a := by
  rw [State.copyLost, State.flashWrite_byte _ _ _ _ (by rw [s.length_freeBytes]; exact outside), State.freeBytes_state]

variable {img}

theorem State.flashWrite_copy (len : img.length = 4652) (i : Nat) : (s.flashWrite (safeAddr i) img).safeCopy i = img := by
  rw [State.safeCopy, ← len, State.flashRead_whole]

theorem State.flashWrite_other (len : img.length = 4652) (i : Nat) (low : i ≤ 1) : (s.flashWrite (safeAddr i) img).safeCopy (1 - i) = s.safeCopy (1 - i) :=
  s.flashRead_apart _ _ _ _ (by rw [len]; simp only [safeAddr]; omega)

theorem State.flashWrite_parts (a : Nat) (b : List Byte) : s.flashWrite a b = { s with flash := (s.flashWrite a b).flash } := rfl

/-- Only the flash and the free values differ. -/
structure FlashOnly (s t : State) : Prop where
  parts : t = { s with flash := t.flash, free := t.free }

theorem FlashOnly.trans {s t u : State} (first : FlashOnly s t) (second : FlashOnly t u) : FlashOnly s u := by
  refine ⟨second.parts.trans ?_⟩
  have e := congrArg (fun x : State => { x with flash := u.flash, free := u.free }) first.parts
  exact e

theorem State.copiesWritten_parts (copies : Nat) : FlashOnly s (s.copiesWritten img copies) := by
  have written (u : State) (a : Nat) : FlashOnly u (u.flashWrite a img) := ⟨u.flashWrite_parts a img⟩
  unfold State.copiesWritten
  split
  · exact ⟨s.copyLost_parts _⟩
  split
  · exact (written s _).trans ⟨State.copyLost_parts _ _⟩
  · exact (written s _).trans (written _ _)

theorem State.copiesWritten_outside (len : img.length = 4652) (copies a : Nat) (first : a < safeAddr 0 ∨ safeAddr 0 + 4652 ≤ a) (second : a < safeAddr 1 ∨ safeAddr 1 + 4652 ≤ a) :
    spGet flashDflt (s.copiesWritten img copies).flash a = spGet flashDflt s.flash a := by
  have low := s.commitFirst_le
  have away (i : Nat) (le : i ≤ 1) : a < safeAddr i ∨ safeAddr i + 4652 ≤ a := by
    simp only [safeAddr] at first second ⊢
    omega
  have written (u : State) (i : Nat) (le : i ≤ 1) : spGet flashDflt (u.flashWrite (safeAddr i) img).flash a = spGet flashDflt u.flash a :=
    u.flashWrite_byte _ img a (by rw [len]; exact away i le)
  unfold State.copiesWritten
  split
  · exact s.copyLost_outside _ a (away _ low)
  split
  · exact (State.copyLost_outside _ _ a (away _ (by omega))).trans (written s _ low)
  · exact (written _ _ (by omega)).trans (written s _ low)

theorem State.copiesWritten_both (len : img.length = 4652) (i : Nat) (low : i ≤ 1) : (s.copiesWritten img 2).safeCopy i = img := by
  have le := s.commitFirst_le
  rcases (by omega : i = 1 - s.commitFirst ∨ i = s.commitFirst) with rfl | same
  · exact State.flashWrite_copy _ len _
  · have back : i = 1 - (1 - s.commitFirst) := by omega
    rw [back]
    exact (State.flashWrite_other _ len _ (by omega)).trans (by rw [← back, same]; exact s.flashWrite_copy len _)

theorem State.copiesWritten_one (len : img.length = 4652) : (s.copiesWritten img 1).safeCopy 0 = img ∨ (s.copiesWritten img 1).safeCopy 1 = img := by
  have le := s.commitFirst_le
  have kept : (s.copiesWritten img 1).safeCopy s.commitFirst = img := by
    have apart := (s.flashWrite (safeAddr s.commitFirst) img).copyLost_apart (1 - s.commitFirst) (by omega)
    rw [show 1 - (1 - s.commitFirst) = s.commitFirst by omega] at apart
    exact apart.trans (s.flashWrite_copy len _)
  rcases (by omega : s.commitFirst = 0 ∨ s.commitFirst = 1) with first | first
  · exact .inl (by rw [first] at kept; exact kept)
  · exact .inr (by rw [first] at kept; exact kept)

theorem State.copiesWritten_none : (s.copiesWritten img 0).safeCopy 0 = s.safeCopy 0 ∨ (s.copiesWritten img 0).safeCopy 1 = s.safeCopy 1 := by
  have kept := s.copyLost_apart s.commitFirst s.commitFirst_le
  rcases (by have := s.commitFirst_le; omega : s.commitFirst = 0 ∨ s.commitFirst = 1) with first | first
  · exact .inr (by rw [first] at kept; rw [State.copiesWritten, if_pos rfl, first]; exact kept)
  · exact .inl (by rw [first] at kept; rw [State.copiesWritten, if_pos rfl, first]; exact kept)

theorem State.commitClosed_spec (copies : Nat) : s.commitClosed copies = { s with regs := (s.commitClosed copies).regs, safe := { s.safe with commit := none, session := none } } ∧
    SameRegs s (s.commitClosed copies) [F.SAF.SAFE_STAT_PENDING_REBOOT.addr] ∧
    (s.commitClosed copies).get F.SAF.SAFE_STAT_PENDING_REBOOT = if copies = 2 then 1 else s.get F.SAF.SAFE_STAT_PENDING_REBOOT := by
  unfold State.commitClosed
  by_cases both : copies = 2
  · rw [both]
    exact ⟨rfl, fun a other => State.rd_set_ne _ F.SAF.SAFE_STAT_PENDING_REBOOT 1 a fun same => other (List.mem_singleton.2 same),
      State.get_set_same { s with safe := { s.safe with commit := none, session := none } } F.SAF.SAFE_STAT_PENDING_REBOOT 1 rfl⟩
  · rw [beq_eq_false_iff_ne.2 both, if_neg both]
    exact ⟨rfl, fun a _ => rfl, rfl⟩

end

/-! ### The configuration is loaded (R108, R360) -/

section
variable (s : State)

/-- Whether an image is there and fits the geometry of the calibration record. -/
def State.geomFits (img : Option (List Byte)) : Bool :=
  match img with
  | some b => imgParam b 0x60 == crc32c s.calGeom
  | none => false

/-- Region S holds an image, or none. -/
def State.imageTaken (img : Option (List Byte)) (copies : Nat) : State :=
  ({ s with safe := { s.safe with
    loaded := true, cfg := img, copy := s.safeChoose.2.getD 0, geomOk := s.geomFits img,
    els := (List.range 128).map (fun m => (List.range 8).foldl (fun (a : Int × Int) i => (min a.1 (intAt s.calGeom (4 * (8 * m + i)) 4), max a.2 (intAt s.calGeom (4 * (8 * m + i)) 4)))
      (intAt s.calGeom (4 * (8 * m)) 4, intAt s.calGeom (4 * (8 * m)) 4)),
    zero := (u32 s.calGeom 4096 : Nat), built := false } } : State).setFlag F.SAF.SAFE_STAT_CFG_COPY (copies == 1)

/-- An image that does not fit is a cause of FAULT. -/
def State.imageJudged (img : Option (List Byte)) (copies : Nat) : State := (s.imageTaken img copies).when (!(s.imageTaken img copies).safeConf) (fun s => s.safeLatch 512)

theorem State.safeLoad_eq (first : s.safe.loaded = false) (img : Option (List Byte)) (choice : s.safeChoose.2.map s.safeCopy = img) :
    s.safeLoad = (s.imageJudged img s.safeChoose.1.length).limiterLoad img := by
  unfold State.safeLoad
  rw [if_neg (by rw [first]; exact Bool.false_ne_true)]
  extract_lets ch taken geom geomOk el cells old stored shown judged
  have same : taken = img := choice
  clear_value taken
  have fits : geomOk = s.geomFits taken := by
    cases taken with
    | none => rfl
    | some b => rfl
  have told : shown = s.imageTaken img ch.1.length := by
    rw [State.imageTaken, ← same, ← fits]
  rw [State.imageJudged, ← told, ← same]

theorem State.safeLatch_words (mask : Nat) : BlockWords (fun a => a = 0x5000010) s (s.safeLatch mask) := by
  unfold State.safeLatch
  dsimp only
  split
  · exact .refl s
  split
  · exact (BlockWords.set (own := fun a => a = 0x5000010) s F.SAF.SAFE_FAULT_CAUSE _ rfl).trans (.set _ F.SAF.SAFE_FAULT_FIRST _ rfl)
  · exact .set s F.SAF.SAFE_FAULT_CAUSE _ rfl

theorem State.safeLatch_only (mask : Nat) : s.safeLatch mask = { s with regs := (s.safeLatch mask).regs } := by
  unfold State.safeLatch
  dsimp only
  split
  · rfl
  split
  all_goals rfl

theorem State.safeLatch_sets (i : Nat) (bound : i < 16) : (s.safeLatch (2 ^ i)).bitAt F.SAF.SAFE_FAULT_CAUSE i = true := by
  have old : s.get F.SAF.SAFE_FAULT_CAUSE < 2 ^ 16 := Nat.mod_lt _ (by decide)
  have complement : (65535 - s.get F.SAF.SAFE_FAULT_CAUSE).testBit i = !(s.get F.SAF.SAFE_FAULT_CAUSE).testBit i := by
    have other := Nat.testBit_two_pow_sub_succ (n := 16) old i
    rw [show 2 ^ 16 - (s.get F.SAF.SAFE_FAULT_CAUSE + 1) = 65535 - s.get F.SAF.SAFE_FAULT_CAUSE by omega, decide_eq_true bound, Bool.true_and] at other
    exact other
  have rose : (2 ^ i &&& (65535 - s.get F.SAF.SAFE_FAULT_CAUSE)).testBit i = !(s.get F.SAF.SAFE_FAULT_CAUSE).testBit i := by
    rw [Nat.testBit_and, Nat.testBit_two_pow_self, Bool.true_and, complement]
  have shows (u : State) (value : u.get F.SAF.SAFE_FAULT_CAUSE = s.get F.SAF.SAFE_FAULT_CAUSE ||| (2 ^ i &&& (65535 - s.get F.SAF.SAFE_FAULT_CAUSE))) : u.bitAt F.SAF.SAFE_FAULT_CAUSE i = true := by
    rw [State.bitAt, value]
    change decide ((s.get F.SAF.SAFE_FAULT_CAUSE ||| (2 ^ i &&& (65535 - s.get F.SAF.SAFE_FAULT_CAUSE))) / 2 ^ i % 2 = 1) = true
    rw [← Nat.testBit_eq_decide_div_mod_eq, Nat.testBit_or, rose]
    cases (s.get F.SAF.SAFE_FAULT_CAUSE).testBit i <;> rfl
  have stored : (s.set F.SAF.SAFE_FAULT_CAUSE (s.get F.SAF.SAFE_FAULT_CAUSE ||| (2 ^ i &&& (65535 - s.get F.SAF.SAFE_FAULT_CAUSE)))).get F.SAF.SAFE_FAULT_CAUSE =
      s.get F.SAF.SAFE_FAULT_CAUSE ||| (2 ^ i &&& (65535 - s.get F.SAF.SAFE_FAULT_CAUSE)) := by
    rw [State.get_set_same _ _ _ rfl]
    exact Nat.mod_eq_of_lt (show _ < 2 ^ 16 from Nat.or_lt_two_pow old (Nat.lt_of_le_of_lt Nat.and_le_right (by omega)))
  unfold State.safeLatch
  dsimp only
  split
  case isTrue none_ => exact shows s (by rw [none_, Nat.or_zero])
  split
  · exact shows _ ((State.get_set_bits _ F.SAF.SAFE_FAULT_FIRST F.SAF.SAFE_FAULT_CAUSE _ rfl (by decide)).trans stored)
  · exact shows _ stored

theorem State.inhibitOn_words (mask : Nat) : BlockWords (fun a => a = 0x24410 ∨ a = 0x24414) s (s.inhibitOn mask) := by
  have latched : BlockWords (fun a => a = 0x24410 ∨ a = 0x24414) s (s.inhibited mask) := (BlockWords.set s F.SHT.EMIT_INHIBIT_SRC _ (.inl rfl)).trans (.set _ F.SHT.EMIT_INHIBIT_LATCH_SRC _ (.inr rfl))
  by_cases on : s.domOn 68 = true
  · rw [s.inhibitOn_eq _ on]
    split
    · exact latched
    · exact latched.trans (.raise _ _ _ _ (by decide))
  · rw [State.inhibitOn, if_neg on]
    exact .refl s

theorem State.inhibitOff_words (mask : Nat) : BlockWords (fun a => a = 0x24410) s (s.inhibitOff mask) := by
  unfold State.inhibitOff
  split
  · exact .set (own := fun a => a = 0x24410) s F.SHT.EMIT_INHIBIT_SRC _ rfl
  · exact .refl s

theorem State.imageJudged_words (img : Option (List Byte)) (copies : Nat) : BlockWords (fun a => a = 0x5000010) (s.imageTaken img copies) (s.imageJudged img copies) :=
  .when (own := fun a => a = 0x5000010) (!(s.imageTaken img copies).safeConf) (fun u => u.safeLatch_words 512) (s.imageTaken img copies)

theorem State.imageJudged_only (img : Option (List Byte)) (copies : Nat) : s.imageJudged img copies = { s.imageTaken img copies with regs := (s.imageJudged img copies).regs } := by
  unfold State.imageJudged
  cases (s.imageTaken img copies).safeConf
  · exact State.safeLatch_only _ 512
  · rfl

theorem State.imageJudged_safe (img : Option (List Byte)) (copies : Nat) : (s.imageJudged img copies).safe = (s.imageTaken img copies).safe := by rw [s.imageJudged_only]

theorem State.imageTaken_safe (img : Option (List Byte)) (copies : Nat) : (s.imageTaken img copies).safe.loaded = true ∧ (s.imageTaken img copies).safe.cfg = img ∧
    (s.imageTaken img copies).safe.built = false ∧ (s.imageTaken img copies).safe.geomOk = s.geomFits img :=
  ⟨rfl, rfl, rfl, rfl⟩

theorem State.imageJudged_domOn (img : Option (List Byte)) (copies : Nat) : (s.imageJudged img copies).domOn 68 = s.domOn 68 := by
  have latch (u : State) : (u.safeLatch 512).domOn 68 = u.domOn 68 := by
    unfold State.safeLatch
    dsimp only
    split
    · rfl
    split
    · exact State.domOn_congr_of_rd (fun a low => (State.rd_set_ne _ F.SAF.SAFE_FAULT_FIRST _ a (by simp only [F.SAF.SAFE_FAULT_FIRST]; omega)).trans
        (State.rd_set_ne _ F.SAF.SAFE_FAULT_CAUSE _ a (by simp only [F.SAF.SAFE_FAULT_CAUSE]; omega))) 68 (by decide)
    · exact State.domOn_congr_of_rd (fun a low => State.rd_set_ne _ F.SAF.SAFE_FAULT_CAUSE _ a (by simp only [F.SAF.SAFE_FAULT_CAUSE]; omega)) 68 (by decide)
  have taken : (s.imageTaken img copies).domOn 68 = s.domOn 68 :=
    State.domOn_congr_of_rd (fun a low => State.rd_set_ne _ F.SAF.SAFE_STAT_CFG_COPY _ a (by simp only [F.SAF.SAFE_STAT_CFG_COPY]; omega)) 68 (by decide)
  exact (State.when_field (fun u => u.domOn 68) _ (fun u => u.safeLatch 512) latch (s.imageTaken img copies)).trans taken

/-- An image that is none, or whose geometry does not match, is a cause of FAULT. -/
theorem State.imageJudged_cause (img : Option (List Byte)) (copies : Nat) (unfit : (s.imageTaken img copies).safeConf = false) :
    (s.imageJudged img copies).bitAt F.SAF.SAFE_FAULT_CAUSE 9 = true := by
  rw [State.imageJudged, unfit]
  exact (s.imageTaken img copies).safeLatch_sets 9 (by decide)

theorem State.imageJudged_copy (img : Option (List Byte)) (copies : Nat) : (s.imageJudged img copies).flag F.SAF.SAFE_STAT_CFG_COPY = (copies == 1) :=
  ((s.imageJudged_words img copies).flag F.SAF.SAFE_STAT_CFG_COPY (by decide) (by decide) (by decide)).trans (State.flag_setFlag_same _ F.SAF.SAFE_STAT_CFG_COPY _ rfl (by decide))

/-! ### The limiter (R108) -/

/-- The limiter's parameters. -/
def State.limiterWords (img : List Byte) : State :=
  (((((((((s.set F.LIM.LIM_CFG_POOL (imgParam img (0x100 + 0))).set F.LIM.LIM_CFG_CELL_WIDTH (imgParam img (0x100 + 1))).set F.LIM.LIM_ANGLE_BASE_BASE (imgParam img (0x100 + 2))).set
    F.LIM.LIM_MAX_MAX_TARGET (imgParam img (0x100 + 3))).set F.LIM.LIM_MAX_MAX_WIDTH (imgParam img (0x100 + 4))).set F.LIM.CELL_LIMIT_HI (imgParam img (0x100 + 5))).set
    F.LIM.CELL_LIMIT_LO (imgParam img (0x100 + 6))).set F.LIM.LONG_LIMIT_HI (imgParam img (0x100 + 7))).set F.LIM.LONG_LIMIT_LO (imgParam img (0x100 + 8)))

/-- The CRC over the limiter's words, CONFIGURED as 0. -/
def State.limiterSum : Nat :=
  crc32c (((List.range 7).map (fun i => let w := (s.rd (F.LIM.LIM_CFG_POOL.addr + 4 * i)).toNat; if i = 0 then w % 2 ^ 30 else w)).flatMap (beBytes 4))

/-- The limiter is configured. -/
def State.limiterConfigured (img : List Byte) : State :=
  ((s.limiterWords img).set F.LIM.LIM_CRC_CRC (s.limiterWords img).limiterSum).setFlag F.LIM.LIM_CFG_CONFIGURED true

theorem State.limiterLoad_good (img : List Byte) (on : s.domOn 68 = true) (good : limiterOk img = true) : s.limiterLoad (some img) = (s.limiterConfigured img).inhibitOff 32 := by
  unfold State.limiterLoad
  rw [if_neg (by rw [on]; decide)]
  refine (if_neg (by rw [good]; decide)).trans ?_
  extract_lets p first second written words configured
  have told : written = s.limiterWords img := rfl
  have summed : crc32c (words.flatMap (beBytes 4)) = (s.limiterWords img).limiterSum := rfl
  rw [State.limiterConfigured, ← summed, ← told]

theorem State.limiterLoad_none (on : s.domOn 68 = true) : s.limiterLoad none = s.inhibitOn 32 := by
  unfold State.limiterLoad
  rw [on]
  rfl

theorem State.limiterLoad_off (img : Option (List Byte)) (off : s.domOn 68 = false) : s.limiterLoad img = s := by
  unfold State.limiterLoad
  rw [off]
  rfl

/-- The limiter's words. -/
def LimiterWord (a : Nat) : Prop := 0x24600 ≤ a ∧ a ≤ 0x2461C

theorem State.limiterConfigured_words (img : List Byte) : BlockWords LimiterWord s (s.limiterConfigured img) := by
  have word (u : State) (f : Fld) (x : Nat) (mine : LimiterWord f.addr) : BlockWords LimiterWord u (u.set f x) := .set u f x mine
  have near (a : Nat) (least : 0x24600 ≤ a) (most : a ≤ 0x2461C) : LimiterWord a := ⟨least, most⟩
  refine BlockWords.trans (t := s.limiterWords img) ?_ ((word _ F.LIM.LIM_CRC_CRC _ (near _ (by decide) (by decide))).trans (word _ F.LIM.LIM_CFG_CONFIGURED _ (near _ (by decide) (by decide))))
  exact ((((((((word s F.LIM.LIM_CFG_POOL _ (near _ (by decide) (by decide))).trans (word _ F.LIM.LIM_CFG_CELL_WIDTH _ (near _ (by decide) (by decide)))).trans
    (word _ F.LIM.LIM_ANGLE_BASE_BASE _ (near _ (by decide) (by decide)))).trans (word _ F.LIM.LIM_MAX_MAX_TARGET _ (near _ (by decide) (by decide)))).trans
    (word _ F.LIM.LIM_MAX_MAX_WIDTH _ (near _ (by decide) (by decide)))).trans (word _ F.LIM.CELL_LIMIT_HI _ (near _ (by decide) (by decide)))).trans
    (word _ F.LIM.CELL_LIMIT_LO _ (near _ (by decide) (by decide)))).trans (word _ F.LIM.LONG_LIMIT_HI _ (near _ (by decide) (by decide)))).trans (word _ F.LIM.LONG_LIMIT_LO _ (near _ (by decide) (by decide)))

theorem State.limiterWords_get (img : List Byte) : (s.limiterWords img).get F.LIM.LIM_MAX_MAX_TARGET = imgParam img 0x103 % 2 ^ 13 ∧ (s.limiterWords img).get F.LIM.CELL_LIMIT_LO = imgParam img 0x106 % 2 ^ 32 := by
  unfold State.limiterWords
  constructor
  · rw [State.get_set_addr _ F.LIM.LONG_LIMIT_LO _ _ (by decide), State.get_set_addr _ F.LIM.LONG_LIMIT_HI _ _ (by decide), State.get_set_addr _ F.LIM.CELL_LIMIT_LO _ _ (by decide),
      State.get_set_addr _ F.LIM.CELL_LIMIT_HI _ _ (by decide), State.get_set_bits _ F.LIM.LIM_MAX_MAX_WIDTH _ _ rfl (by decide)]
    exact State.get_set_same _ F.LIM.LIM_MAX_MAX_TARGET _ rfl
  · rw [State.get_set_addr _ F.LIM.LONG_LIMIT_LO _ _ (by decide), State.get_set_addr _ F.LIM.LONG_LIMIT_HI _ _ (by decide)]
    exact State.get_set_same _ F.LIM.CELL_LIMIT_LO _ rfl

theorem imgParam_lt (img : List Byte) (n : Nat) : imgParam img n < 2 ^ 32 := beAt_lt img (28 + 8 * paramEntry n) 4

theorem State.limiterConfigured_get (img : List Byte) (good : limiterOk img = true) : (s.limiterConfigured img).flag F.LIM.LIM_CFG_CONFIGURED = true ∧
    (s.limiterConfigured img).get F.LIM.LIM_MAX_MAX_TARGET = imgParam img 0x103 ∧ (s.limiterConfigured img).get F.LIM.CELL_LIMIT_LO = imgParam img 0x106 := by
  obtain ⟨target, cell⟩ := s.limiterWords_get img
  have bound : imgParam img 0x103 ≤ 6000 := by
    simp only [limiterOk, decide_eq_true_eq, Nat.reduceAdd] at good
    omega
  refine ⟨State.flag_setFlag_same _ F.LIM.LIM_CFG_CONFIGURED true rfl (by decide), ?_, ?_⟩
  · rw [State.limiterConfigured, State.setFlag, State.get_set_addr _ _ _ _ (by decide), State.get_set_addr _ _ _ _ (by decide), target]
    exact Nat.mod_eq_of_lt (by omega)
  · rw [State.limiterConfigured, State.setFlag, State.get_set_addr _ _ _ _ (by decide), State.get_set_addr _ _ _ _ (by decide), cell]
    exact Nat.mod_eq_of_lt (imgParam_lt img _)

theorem State.limiterConfigured_domOn (img : List Byte) : (s.limiterConfigured img).domOn 68 = s.domOn 68 := by
  have far (u : State) (f : Fld) (x : Nat) (high : 0x180 ≤ f.addr) : (u.set f x).domOn 68 = u.domOn 68 :=
    State.domOn_congr_of_rd (fun a low => u.rd_set_ne f x a (by omega)) 68 (by decide)
  rw [State.limiterConfigured, State.setFlag, far _ _ _ (by decide), far _ _ _ (by decide)]
  unfold State.limiterWords
  rw [far _ _ _ (by decide), far _ _ _ (by decide), far _ _ _ (by decide), far _ _ _ (by decide), far _ _ _ (by decide), far _ _ _ (by decide), far _ _ _ (by decide), far _ _ _ (by decide),
    far _ _ _ (by decide)]

end

end Sys2Proof.Machine
end

section
/-! PROOFS. The loading of the configuration (R360), and the statement about commissioning. -/
namespace Sys2Proof.Machine

section
variable (s : State)

/-- What the limiter's loading leaves: Region S, and every word but its own and those of EMIT_INHIBIT. -/
structure LimiterOnly (s t : State) : Prop where
  safe : t.safe = s.safe
  words : BlockWords (fun a => LimiterWord a ∨ a = 0x24410 ∨ a = 0x24414) s t

theorem LimiterOnly.inhibitOn (mask : Nat) : LimiterOnly s (s.inhibitOn mask) := ⟨(Answering.inhibitOn s mask).safe_eq, (s.inhibitOn_words mask).mono fun _ => .inr⟩

theorem Answering.limiterConfigured (img : List Byte) : Answering s (s.limiterConfigured img) := by
  refine Answering.trans (t := s.limiterWords img) ?_ ((Answering.set _ F.LIM.LIM_CRC_CRC _).trans (.set _ F.LIM.LIM_CFG_CONFIGURED _))
  exact ((((((((Answering.set s _ _).trans (.set _ _ _)).trans (.set _ _ _)).trans (.set _ _ _)).trans (.set _ _ _)).trans (.set _ _ _)).trans (.set _ _ _)).trans (.set _ _ _)).trans (.set _ _ _)

theorem LimiterOnly.configured (img : List Byte) : LimiterOnly s ((s.limiterConfigured img).inhibitOff 32) :=
  ⟨((Answering.inhibitOff _ 32).safe_eq).trans (Answering.limiterConfigured s img).safe_eq,
    ((s.limiterConfigured_words img).mono fun _ => .inl).trans ((State.inhibitOff_words _ 32).mono fun _ own => .inr (.inl own))⟩

theorem State.limiterLoad_only (img : Option (List Byte)) : LimiterOnly s (s.limiterLoad img) := by
  by_cases on : s.domOn 68 = true
  case neg =>
    rw [s.limiterLoad_off img (Bool.eq_false_iff.2 on)]
    exact ⟨rfl, .refl s⟩
  case pos =>
    cases img with
    | none =>
      rw [s.limiterLoad_none on]
      exact .inhibitOn s 32
    | some b =>
      by_cases good : limiterOk b = true
      · rw [s.limiterLoad_good b on good]
        exact .configured s b
      · have refused : s.limiterLoad (some b) = s.inhibitOn 32 := by
          unfold State.limiterLoad
          rw [if_neg (by rw [on]; decide)]
          exact if_pos (by rw [Bool.eq_false_iff.2 good]; rfl)
        rw [refused]
        exact .inhibitOn s 32

/-- The loading of an image, or of none: what Region S holds then. -/
theorem State.safeLoad_spec (first : s.safe.loaded = false) (img : Option (List Byte)) (choice : s.safeChoose.2.map s.safeCopy = img) :
    s.safeLoad.safe.loaded = true ∧ s.safeLoad.safe.cfg = img ∧ s.safeLoad.safe.built = false ∧
    s.safeLoad.safe.geomOk = s.geomFits img ∧
    s.safeLoad.flag F.SAF.SAFE_STAT_CFG_COPY = (s.safeChoose.1.length == 1) ∧ ((s.safeLoad.safe.cfg.isSome && s.safeLoad.safe.geomOk) = false → s.safeLoad.bitAt F.SAF.SAFE_FAULT_CAUSE 9 = true) := by
  obtain ⟨safe, words⟩ := (s.imageJudged img s.safeChoose.1.length).limiterLoad_only img
  rw [s.safeLoad_eq first img choice]
  generalize (s.imageJudged img s.safeChoose.1.length).limiterLoad img = t at safe words ⊢
  rw [s.imageJudged_safe] at safe
  obtain ⟨loaded, cfg, built, geom⟩ := s.imageTaken_safe img s.safeChoose.1.length
  rw [safe]
  refine ⟨loaded, cfg, built, geom, ?_, fun unfit => ?_⟩
  · exact (words.flag F.SAF.SAFE_STAT_CFG_COPY (by decide) (by decide) (by simp [LimiterWord, F.SAF.SAFE_STAT_CFG_COPY])).trans (s.imageJudged_copy img _)
  · have cause := s.imageJudged_cause img s.safeChoose.1.length unfit
    rw [State.bitAt] at cause ⊢
    rw [words.get F.SAF.SAFE_FAULT_CAUSE (by decide) (by decide) (by simp [LimiterWord, F.SAF.SAFE_FAULT_CAUSE])]
    exact cause

theorem State.safeChoose_none (bad0 : safeCopyOk (s.safeCopy 0) = false) (bad1 : safeCopyOk (s.safeCopy 1) = false) : s.safeChoose = ([], none) := by
  rw [State.safeChoose, bad0, bad1]
  rfl

/-- The valid copy, or the one with the higher generation. -/
theorem State.safeChoose_one (i : Fin 2) (good : safeCopyOk (s.safeCopy i) = true)
    (best : safeCopyOk (s.safeCopy (1 - i.val)) = false ∨ imgGen (s.safeCopy (1 - i.val)) < imgGen (s.safeCopy i)) :
    s.safeChoose.2 = some i.val ∧ (s.safeChoose.1.length == 1) = !safeCopyOk (s.safeCopy (1 - i.val)) := by
  unfold State.safeChoose
  obtain ⟨i, low⟩ := i
  rcases (by omega : i = 0 ∨ i = 1) with rfl | rfl
  · dsimp only at good best ⊢
    rw [good]
    rcases best with bad | less
    · rw [bad]
      exact ⟨rfl, rfl⟩
    · rw [if_neg (Nat.lt_asymm less)]
      cases safeCopyOk (s.safeCopy (1 - 0))
      all_goals exact ⟨rfl, rfl⟩
  · dsimp only at good best ⊢
    rw [good]
    rcases best with bad | less
    · rw [bad]
      exact ⟨rfl, rfl⟩
    · rw [if_pos less]
      cases safeCopyOk (s.safeCopy (1 - 1))
      all_goals exact ⟨rfl, rfl⟩

/-- A configured limiter shows its parameters and lets its source of EMIT_INHIBIT go. -/
theorem State.safeLoad_limiter (first : s.safe.loaded = false) (img : List Byte) (choice : s.safeChoose.2.map s.safeCopy = some img) (on : s.domOn 68 = true) (good : limiterOk img = true) :
    s.safeLoad.bitAt F.SHT.EMIT_INHIBIT_SRC 5 = false ∧ s.safeLoad.flag F.LIM.LIM_CFG_CONFIGURED = true ∧ s.safeLoad.get F.LIM.LIM_MAX_MAX_TARGET = imgParam img 0x103 ∧
    s.safeLoad.get F.LIM.CELL_LIMIT_LO = imgParam img 0x106 := by
  have judged := (s.imageJudged_domOn (some img) s.safeChoose.1.length).trans on
  rw [s.safeLoad_eq first _ choice, State.limiterLoad_good _ img judged good]
  obtain ⟨flag, target, cell⟩ := (s.imageJudged (some img) s.safeChoose.1.length).limiterConfigured_get img good
  have off := ((s.imageJudged (some img) s.safeChoose.1.length).limiterConfigured img).inhibitOff_words 32
  exact ⟨State.inhibitOff_clears _ 5 (((s.imageJudged (some img) s.safeChoose.1.length).limiterConfigured_domOn img).trans judged) (by decide),
    (off.flag F.LIM.LIM_CFG_CONFIGURED (by decide) (by decide) (by decide)).trans flag, (off.get F.LIM.LIM_MAX_MAX_TARGET (by decide) (by decide) (by decide)).trans target,
    (off.get F.LIM.CELL_LIMIT_LO (by decide) (by decide) (by decide)).trans cell⟩

theorem State.safeLoad_inhibits (first : s.safe.loaded = false) (none_ : s.safeChoose.2 = none) (on : s.domOn 68 = true) : s.safeLoad.bitAt F.SHT.EMIT_INHIBIT_SRC 5 = true := by
  have judged := (s.imageJudged_domOn none s.safeChoose.1.length).trans on
  rw [s.safeLoad_eq first none (by rw [none_]; rfl), State.limiterLoad_none _ judged]
  exact State.inhibitOn_sets _ 5 judged

theorem State.safeLoad_done (done : s.safe.loaded = true) : s.safeLoad = s := if_pos done

end

/-- The state in which a commit completes. -/
def State.commitDone (s : State) (img : List Byte) (copies : Nat) : State := (s.copiesWritten img copies).commitClosed copies

theorem State.commitDone_parts (s : State) (img : List Byte) (copies : Nat) :
    s.commitDone img copies = { s with
      regs := (s.commitDone img copies).regs, flash := (s.commitDone img copies).flash, free := (s.commitDone img copies).free, safe := { s.safe with commit := none, session := none } } ∧
    SameRegs s (s.commitDone img copies) [F.SAF.SAFE_STAT_PENDING_REBOOT.addr] ∧
    (s.commitDone img copies).get F.SAF.SAFE_STAT_PENDING_REBOOT = (if copies = 2 then 1 else s.get F.SAF.SAFE_STAT_PENDING_REBOOT) ∧
    (s.commitDone img copies).flash = (s.copiesWritten img copies).flash := by
  obtain ⟨closed, regs, pending⟩ := (s.copiesWritten img copies).commitClosed_spec copies
  have only := (s.copiesWritten_parts (img := img) copies).parts
  unfold State.commitDone
  generalize s.copiesWritten img copies = w at only closed regs pending ⊢
  generalize w.commitClosed copies = x at closed regs pending ⊢
  have flash : x.flash = w.flash := (congrArg State.flash closed).trans rfl
  have free : x.free = w.free := (congrArg State.free closed).trans rfl
  have words : w.regs = s.regs := (congrArg State.regs only).trans rfl
  have whole := congrArg (fun u : State => { u with regs := x.regs, safe := { u.safe with commit := none, session := none } }) only
  refine ⟨?_, fun a other => (regs a other).trans (State.rd_congr words a), ?_, flash⟩
  · rw [flash, free]
    exact closed.trans whole
  · rw [pending, State.get, State.get, State.rd_congr words]

/-- A credential has 32 bytes where its command is taken. -/
theorem Runs.length_credential {via : Port} {seq : BitVec 16} {cred : List Byte} {s u : State} (runs : Runs (.commissionOpen via seq cred) s ⟨via, seq, 0x0701, cred⟩ u) : cred.length = 32 := by
  obtain ⟨-, taken, -⟩ := runs
  simp only [State.takes, Bool.and_eq_true] at taken
  obtain ⟨⟨⟨-, fits⟩, -⟩, -⟩ := taken
  have exact : lengthOk 0x0701 cred = some (cred.length == 32) := rfl
  rw [exact] at fits
  simpa using fits

/-- Settles O52. A session number is fresh because more numbers are tried than were issued; a commit leaves the copy that it writes first whole, however many copies succeed after it. -/
theorem commissioning : Obligations.Commissioning := by
  unfold Obligations.Commissioning
  refine ⟨State.newNonce_spec, State.sessionNumber_spec,
    fun via seq cred => ⟨.of_handler rfl fun u ⟨open_, free, right⟩ => ?opens, fun s p u runs => ?refused⟩, State.credFail_spec,
    .of_effect (fun _ => rfl) fun s _ => ⟨s.onlyRegs_set _ _, State.flag_setFlag_same s F.SAF.SAFE_STAT_LOCKOUT false rfl (by decide)⟩, .of_effect (fun _ => rfl) fun s _ => rfl,
    fun via seq ses => ⟨fun x => .of_handler rfl fun u mine => ⟨_, cmdCommissionAbort_done mine, rfl⟩, .of_handler rfl fun u none_ => cmdCommissionAbort_foreign none_⟩,
    fun via seq ses f n b len => ⟨fun field least most flags spare => ⟨fun sound x => .of_handler rfl fun u mine => ⟨_, cmdFieldWrite_done mine len field least most flags spare sound, ?staged⟩,
        fun fault x => .of_handler rfl fun u mine => cmdFieldWrite_fault mine field least most flags spare fault⟩,
      fun out x => .of_handler rfl fun u mine => cmdFieldWrite_range mine out, .of_handler rfl fun u none_ => cmdFieldWrite_foreign none_⟩,
    fun via seq ses v k => ⟨fun known sound x => .of_handler rfl fun u mine => ⟨_, cmdSafetyParamWrite_done mine known sound, rfl⟩,
      fun unknown x => .of_handler rfl fun u mine => cmdSafetyParamWrite_unknown mine unknown, fun known out x => .of_handler rfl fun u mine => cmdSafetyParamWrite_range mine known out,
      .of_handler rfl fun u none_ => cmdSafetyParamWrite_foreign none_⟩,
    fun via seq ses crc x => ⟨.of_handler rfl fun u ⟨mine, sum, sound, free⟩ => ⟨_, cmdCommissionCommit_starts mine sum sound free, u.commitImage x, rfl, u.commitImage_spec x⟩,
      .of_handler rfl fun u ⟨mine, wrong⟩ => cmdCommissionCommit_crc mine wrong, .of_handler rfl fun u ⟨mine, sum, fault⟩ => cmdCommissionCommit_fault mine sum fault,
      .of_handler rfl fun u none_ => cmdCommissionCommit_foreign none_⟩,
    fun copies img len => .of_effect (fun _ => rfl) fun s commit => ?completes, fun copies => .of_effect (fun _ => rfl) fun s none_ => s.commitEnd_none none_,
    .of_effect (fun _ => rfl) fun s done => s.safeLoad_done done, .of_effect (fun _ => rfl) fun s ⟨first, bad0, bad1⟩ => ?unconfigured,
    fun i => .of_effect (fun _ => rfl) fun s ⟨first, on, good, limiter, best⟩ => ?configured,
    .of_effect (fun _ => rfl) fun s conf => if_pos conf, .of_effect (fun _ => rfl) fun s none_ => if_neg (by rw [none_]; exact Bool.false_ne_true)⟩
  case opens =>
    subst right
    exact ⟨_, cmdCommissionOpen_done open_ free, rfl⟩
  case refused =>
    obtain ⟨rfl, exec⟩ := runs.exec_row rfl
    have len : cred.length = 32 := runs.length_credential
    have told {t : State} {status detail : Nat} (answer : cmdCommissionOpen via u cred = t.reply (.final status detail [])) :
        Refused (.commissionOpen via seq cred) s ⟨via, seq, 0x0701, cred⟩ t status detail := by
      have handler : runOp via u 0x0701 cred = t.reply (.final status detail []) := answer
      rw [Refused, exec, handler]
      rfl
    exact ⟨fun notReady notHold => told (cmdCommissionOpen_state cred notReady notHold), fun state session => told (cmdCommissionOpen_second cred state session),
      fun open_ out => told (cmdCommissionOpen_lockout cred open_ out), fun open_ free wrong => told (cmdCommissionOpen_wrong cred len open_ free wrong)⟩
  case staged =>
    rw [State.stage, patchBytes]
  case completes =>
    obtain ⟨parts, regs, pending, flash⟩ := s.commitDone_parts img copies
    have copy (i : Nat) : (s.commitDone img copies).safeCopy i = (s.copiesWritten img copies).safeCopy i := State.flashRead_congr flash _ _
    refine ⟨s.commitDone img copies, parts, s.commitEnd_some img commit, regs, pending, fun a low high => ?_, fun both => ?_, fun one => ?_, fun none_ => ?_⟩
    · rw [flash]
      exact s.copiesWritten_outside len copies a low high
    · rw [copy, copy, both]
      exact ⟨s.copiesWritten_both len 0 (by decide), s.copiesWritten_both len 1 (by decide)⟩
    · rw [copy, copy, one]
      exact s.copiesWritten_one len
    · rw [copy, copy, none_]
      exact s.copiesWritten_none
  case unconfigured =>
    have choice := s.safeChoose_none bad0 bad1
    obtain ⟨loaded, cfg, built, geom, copy, cause⟩ := s.safeLoad_spec first none (by rw [choice]; rfl)
    rw [choice] at copy
    exact ⟨loaded, cfg, built, copy, cause (by rw [cfg]; rfl), s.safeLoad_inhibits first (by rw [choice])⟩
  case configured =>
    obtain ⟨choice, number⟩ := s.safeChoose_one i good best
    obtain ⟨loaded, cfg, built, geom, copy, cause⟩ := s.safeLoad_spec first (some (s.safeCopy i)) (by rw [choice]; rfl)
    obtain ⟨released, configured, target, cell⟩ := s.safeLoad_limiter first (s.safeCopy i) (by rw [choice]; rfl) on limiter
    exact ⟨loaded, cfg, built, copy.trans number, geom, fun unfit => cause (by rw [unfit, Bool.and_false]), released, configured, target, cell⟩

end Sys2Proof.Machine
end

section
/-! PROOFS. Region S (R346, R347, R350, R361): inputs and their filters, test pulses, ranging validity, the status record. -/
namespace Sys2Proof.Machine

/-! ### Inputs (R347) -/

theorem levels_ite (p : Prop) [Decidable p] {x y z : InSt} (left : y.a = x.a ∧ y.b = x.b) (right : z.a = x.a ∧ z.b = x.b) : (if p then y else z).a = x.a ∧ (if p then y else z).b = x.b := by
  split
  · exact left
  · exact right

theorem inputNext_levels (t : Nat) (x : InSt) : (inputNext t x).a = x.a ∧ (inputNext t x).b = x.b := by
  have same : x.a = x.a ∧ x.b = x.b := ⟨rfl, rfl⟩
  unfold inputNext
  dsimp only
  cases x.st with
  | run => exact levels_ite _ same (levels_ite _ same same)
  | discStop => exact levels_ite _ same (levels_ite _ same (levels_ite _ same same))
  | stop => exact levels_ite _ same (levels_ite _ same same)
  | discRun => exact levels_ite _ same (levels_ite _ same (levels_ite _ same same))
  | fault => exact levels_ite _ same same

section
variable (t : Nat) {x : InSt}

theorem run_ite (p : Prop) [Decidable p] {y z : InSt} {Q : Prop} (left : p → y.st = .run → Q) (right : ¬ p → z.st = .run → Q) : (if p then y else z).st = .run → Q := by
  split
  case isTrue h => exact left h
  case isFalse h => exact right h

/-- An input leads to RUN only with both channels HIGH. -/
theorem inputNext_run : (inputNext t x).st = .run → x.a = true ∧ x.b = true := by
  have no {y : InSt} {st : InState} (is : y.st = st) (other : st ≠ .run) (p : Prop) (_ : p) (runs : y.st = .run) : x.a = true ∧ x.b = true := absurd (is.symm.trans runs) other
  have both (h : (x.a && x.b) = true) : x.a = true ∧ x.b = true := Bool.and_eq_true_iff.1 h
  unfold inputNext
  dsimp only
  cases st : x.st with
  | run => exact run_ite _ (fun h _ => both h) fun _ => run_ite _ (no rfl (by simp) _) (no rfl (by simp) _)
  | discStop => exact run_ite _ (no rfl (by simp) _) fun _ => run_ite _ (no rfl (by simp) _) fun _ => run_ite _ (no rfl (by simp) _) (no rfl (by simp) _)
  | stop => exact run_ite _ (fun h _ => both h) fun _ => run_ite _ (no rfl (by simp) _) (no st (by simp) _)
  | discRun =>
    refine run_ite _ (no rfl (by simp) _) fun here => run_ite _ (fun other _ => ?_) fun _ => run_ite _ (no rfl (by simp) _) (no rfl (by simp) _)
    cases first : x.first
    all_goals
      rw [first] at here other
      simp only [Bool.false_eq_true, if_false, if_true, Bool.not_eq_true', Bool.not_eq_false, Bool.and_eq_true, decide_eq_true_eq] at here other
    · exact ⟨other.1, here⟩
    · exact ⟨here, other.1⟩
  | fault => exact run_ite _ (no st (by simp) _) (no rfl (by simp) _)

theorem inputNext_fault (fault : x.st = .fault) : (inputNext t x).st = if x.a = true ∨ x.b = true then .fault else .stop := by
  unfold inputNext
  rw [fault]
  dsimp only
  cases ha : x.a <;> cases hb : x.b <;> simp [fault]

theorem inputNext_disagrees (run : x.st = .run) (differ : x.a ≠ x.b) : (inputNext t x).st = .discStop ∧ (inputNext t x).cycles = 0 := by
  have one : (x.a && x.b) = false ∧ (x.a || x.b) = true := by
    cases ha : x.a <;> cases hb : x.b <;> simp_all
  unfold inputNext
  rw [run]
  dsimp only
  rw [one.1, one.2]
  exact ⟨rfl, rfl⟩

/-- A disagreement that lasts ends in FAULT, or in STOP where both channels reached LOW. -/
theorem inputNext_lasts (disc : x.st = .discStop ∨ x.st = .discRun) (differ : x.a ≠ x.b) (late : t ≤ x.cycles + 1) : (inputNext t x).st = .fault ∨ (inputNext t x).st = .stop := by
  have other : (if x.first then x.b else x.a) = !(if x.first then x.a else x.b) := by
    cases x.first <;> cases ha : x.a <;> cases hb : x.b <;> simp_all
  unfold inputNext
  dsimp only
  rw [other]
  rcases disc with disc | disc
  · rw [disc]
    cases (if x.first then x.a else x.b)
    · exact .inl (by simp [late])
    · exact .inl rfl
  · rw [disc]
    cases (if x.first then x.a else x.b)
    · exact .inr rfl
    · exact .inl (by simp [late])

end

/-- A channel's filtered level changes after its samples only, a fall after those of a test pulse too. -/
theorem filterStep_changes (cfg n : Nat) (level sample : Bool) (changes : (filterStep cfg level n sample).1 ≠ level) :
    sample ≠ level ∧ bitsOf cfg 8 8 ≤ n + 1 ∧ (level = true → bitsOf cfg 16 8 ≤ n) := by
  have differ : sample ≠ level := fun same => changes (by rw [filterStep, if_pos same])
  have enough : (if sample then bitsOf cfg 8 8 else max (bitsOf cfg 8 8) (bitsOf cfg 16 8 + 1)) ≤ n + 1 := by
    by_contra few
    refine changes ?_
    rw [filterStep, if_neg differ]
    exact congrArg Prod.fst (if_neg few)
  cases sample with
  | true => exact ⟨differ, enough, fun high => absurd high.symm differ⟩
  | false =>
    have most : max (bitsOf cfg 8 8) (bitsOf cfg 16 8 + 1) ≤ n + 1 := enough
    exact ⟨differ, by omega, fun _ => by omega⟩

/-! ### Test pulses (R350, R351) -/

section
variable (s : State)

theorem State.safeOut_setSafeOut (o j : Nat) (x : SafeOut) : (s.setSafeOut o x).safeOut j = if j = o then x else s.safeOut j := spGet_spSet _ _ _ _ _

/-- What is left of the test pulse of a channel. -/
def SafeOut.pulse (x : SafeOut) (chB : Bool) : Nat := if chB then x.pulseB else x.pulseA

/-- An output with a test pulse that begins. -/
def SafeOut.pulsed (x : SafeOut) (chB : Bool) (n : Nat) : SafeOut :=
  if chB then { x with b := false, sinceB := 0, missB := 0, pulseB := n } else { x with a := false, sinceA := 0, missA := 0, pulseA := n }

variable {s} {o : Nat} {chB : Bool}

theorem State.testPulse_not (not : (s.safeOut o).st ≠ .on ∨ (s.safeOut o).pulse chB ≠ 0) : s.testPulse o chB = s := if_pos not

theorem State.testPulse_skipped (on : (s.safeOut o).st = .on) (idle : (s.safeOut o).pulse chB = 0) (pending : s.pendingFor o = true) : s.testPulse o chB = s.inc F.SAF.TP_SKIPPED :=
  (if_neg (by rintro (off | busy); exacts [off on, busy idle])).trans (if_pos pending)

theorem State.testPulse_begins (on : (s.safeOut o).st = .on) (idle : (s.safeOut o).pulse chB = 0) (free : s.pendingFor o = false) :
    s.testPulse o chB = s.setSafeOut o ((s.safeOut o).pulsed chB ((s.safeParam (0x40 + o) % 65536 + 9) / 10)) :=
  (if_neg (by rintro (off | busy); exacts [off on, busy idle])).trans (if_neg (by rw [free]; exact Bool.false_ne_true))

end

/-! ### Ranging validity (R346) -/

theorem withBits_one (x i : Nat) : withBits x i 1 1 = x ||| 2 ^ i := by
  refine Nat.eq_of_testBit_eq fun j => ?_
  have bitEq (v k : Nat) : v.testBit k = (bitsOf v k 1 == 1) := (bitsOf_one_eq v k).symm
  rw [Nat.testBit_or, Nat.testBit_two_pow, bitEq, bitEq x]
  by_cases same : i = j
  · rw [same, bitsOf_withBits_same, decide_eq_true rfl, Bool.or_true]
    rfl
  · rw [bitsOf_withBits_ne x i 1 1 j 1 (by omega), decide_eq_false same, Bool.or_false]

section
variable (s : State)

theorem State.invalidBit_sets (i : Nat) : s.invalidBit i true = s.setInvalid (s.get F.SAF.SAFE_INVALID_CAUSE ||| 2 ^ i) := by
  rw [State.invalidBit, ← withBits_one]
  rfl

/-- What a cause that rises leaves of the fields: every enabled one is violated. -/
def State.allViolated : State := s.each s.fieldsOn State.fieldViolate

/-- A cause rose: the enabled fields are violated, the frame counts as invalid, and the event is raised. -/
def State.invalidRose (c : Nat) : State := ({ s.allViolated with safe := { s.allViolated.safe with frameOk := false } } : State).raise EV_SAFETY_RANGING 0 c

theorem State.setInvalid_eq (c : Nat) : s.setInvalid c = if c &&& (255 - s.get F.SAF.SAFE_INVALID_CAUSE) = 0 then s.set F.SAF.SAFE_INVALID_CAUSE c
    else ((s.set F.SAF.SAFE_INVALID_CAUSE c).when (s.get F.SAF.SAFE_INVALID_CAUSE == 0) (fun s => s.inc F.SAF.INVALID_EPISODES)).invalidRose c := rfl

/-- Every cause of `c` stands already, or one rises. -/
theorem noneRises_iff (c old : Nat) (small : old < 256) (value : c < 256) : c &&& (255 - old) = 0 ↔ ∀ i < 8, c.testBit i = true → old.testBit i = true := by
  have complement (i : Nat) (low : i < 8) : (255 - old).testBit i = !old.testBit i := by
    have other := Nat.testBit_two_pow_sub_succ (n := 8) small i
    rw [show 2 ^ 8 - (old + 1) = 255 - old by omega, decide_eq_true low, Bool.true_and] at other
    exact other
  constructor
  · intro none_ i low stands
    have bit := congrArg (fun x => x.testBit i) none_
    simp only [Nat.testBit_and, Nat.zero_testBit, stands, complement i low, Bool.true_and, Bool.not_eq_false'] at bit
    exact bit
  · intro all
    refine Nat.eq_of_testBit_eq fun i => ?_
    rw [Nat.testBit_and, Nat.zero_testBit]
    by_cases low : i < 8
    · rw [complement i low]
      cases stands : c.testBit i
      · rfl
      · rw [all i low stands]
        rfl
    · have high : c.testBit i = false := Nat.testBit_lt_two_pow (Nat.lt_of_lt_of_le value (Nat.pow_le_pow_right Nat.two_pos (show 8 ≤ i by omega)))
      rw [high, Bool.false_and]

/-- The words of ranging validity. -/
def RangingWord (a : Nat) : Prop := a = 0x5000008 ∨ a = 0x5000014 ∨ a = 0x5000104

theorem State.allViolated_words : BlockWords (fun a => a = 0x5000008) s s.allViolated :=
  .each _ _ (fun u f _ => .set (own := fun a => a = 0x5000008) { u with safe := { u.safe with
    fields := spSet (fun _ => FieldSt.init) u.safe.fields f { spGet (fun _ => FieldSt.init) u.safe.fields f with clean := 0 } } } F.SAF.SAFE_FIELD_VIOL _ rfl) s

theorem State.invalidRose_words (c : Nat) : BlockWords (fun a => a = 0x5000008) s (s.invalidRose c) :=
  (s.allViolated_words).trans ((BlockWords.of_regs (s := s.allViolated) (t := { s.allViolated with safe := { s.allViolated.safe with frameOk := false } }) rfl).trans (.raise _ _ _ _ (by decide)))

theorem State.episodeCounted_words (b : Bool) : BlockWords (fun a => a = 0x5000104) s (s.when b (fun s => s.inc F.SAF.INVALID_EPISODES)) :=
  .when (own := fun a => a = 0x5000104) b (fun u => .set u F.SAF.INVALID_EPISODES _ rfl) s

theorem State.setInvalid_words (c : Nat) : BlockWords RangingWord s (s.setInvalid c) := by
  have stored : BlockWords RangingWord s (s.set F.SAF.SAFE_INVALID_CAUSE c) := .set s F.SAF.SAFE_INVALID_CAUSE c (.inr (.inl rfl))
  rw [s.setInvalid_eq]
  split
  · exact stored
  · exact stored.trans (((State.episodeCounted_words _ _).mono fun _ own => .inr (.inr own)).trans ((State.invalidRose_words _ c).mono fun _ => .inl))

theorem State.setInvalid_cause (c : Nat) (value : c < 256) : (s.setInvalid c).get F.SAF.SAFE_INVALID_CAUSE = c := by
  have stored : (s.set F.SAF.SAFE_INVALID_CAUSE c).get F.SAF.SAFE_INVALID_CAUSE = c := (s.get_set_same F.SAF.SAFE_INVALID_CAUSE c rfl).trans (Nat.mod_eq_of_lt value)
  rw [s.setInvalid_eq]
  split
  · exact stored
  · exact ((State.invalidRose_words _ c).get F.SAF.SAFE_INVALID_CAUSE (by decide) (by decide) (by decide)).trans
      (((State.episodeCounted_words _ _).get F.SAF.SAFE_INVALID_CAUSE (by decide) (by decide) (by decide)).trans stored)

theorem State.fieldViolate_bit (f j : Nat) (low : j < 16) : (s.fieldViolate f).bitAt F.SAF.SAFE_FIELD_VIOL j = if j = f then true else s.bitAt F.SAF.SAFE_FIELD_VIOL j :=
  State.bitAt_setBitAt _ F.SAF.SAFE_FIELD_VIOL f j true rfl low

theorem State.allViolated_bit (f : Nat) (low : f < 16) (listed : f ∈ s.fieldsOn) : s.allViolated.bitAt F.SAF.SAFE_FIELD_VIOL f = true := by
  refine State.each_makes (fun u => u.bitAt F.SAF.SAFE_FIELD_VIOL f = true) s.fieldsOn State.fieldViolate f listed (fun u => ?_) (fun u b violated => ?_) s
  · rw [u.fieldViolate_bit f f low, if_pos rfl]
  · rw [u.fieldViolate_bit b f low, violated, ite_self]

theorem State.allViolated_kept (f : Nat) (low : f < 16) (other : f ∉ s.fieldsOn) : s.allViolated.bitAt F.SAF.SAFE_FIELD_VIOL f = s.bitAt F.SAF.SAFE_FIELD_VIOL f := by
  unfold State.allViolated
  generalize s.fieldsOn = l at other
  induction l generalizing s with
  | nil => rfl
  | cons a l ih =>
    rw [List.mem_cons, not_or] at other
    obtain ⟨here, later⟩ := other
    exact (ih _ later).trans ((s.fieldViolate_bit a f low).trans (if_neg here))

theorem State.invalidRose_bit (c f : Nat) : (s.invalidRose c).bitAt F.SAF.SAFE_FIELD_VIOL f = s.allViolated.bitAt F.SAF.SAFE_FIELD_VIOL f := by
  have told : BlockWords (fun _ => False) { s.allViolated with safe := { s.allViolated.safe with frameOk := false } } (s.invalidRose c) := .raise _ _ _ _ (by decide)
  rw [State.bitAt, told.get F.SAF.SAFE_FIELD_VIOL (by decide) (by decide) not_false]
  rfl

theorem State.invalidRose_safe (c : Nat) : (s.invalidRose c).safe = { s.allViolated.safe with frameOk := false } := (Answering.raise _ EV_SAFETY_RANGING 0 c).safe_eq

theorem State.mem_fieldsOn (f : Fin 16) : f.val ∈ s.fieldsOn ↔ s.fieldOn f = true := by
  rw [State.fieldsOn, List.mem_filter, List.mem_range]
  exact ⟨fun ⟨_, on⟩ => on, fun on => ⟨f.isLt, on⟩⟩

theorem State.episodeCounted_fieldsOn (c : Nat) (b : Bool) : ((s.set F.SAF.SAFE_INVALID_CAUSE c).when b (fun s => s.inc F.SAF.INVALID_EPISODES)).fieldsOn = s.fieldsOn := by
  cases b
  all_goals rfl

theorem State.setInvalid_spec (c : Nat) (value : c < 256) : (s.setInvalid c).get F.SAF.SAFE_INVALID_CAUSE = c ∧
    ((∃ i < 8, c.testBit i = true ∧ (s.get F.SAF.SAFE_INVALID_CAUSE).testBit i = false) → (s.setInvalid c).safe.frameOk = false ∧
      ∀ f : Fin 16, s.fieldOn f = true → (s.setInvalid c).bitAt F.SAF.SAFE_FIELD_VIOL f = true) ∧
    ((∀ i < 8, c.testBit i = true → (s.get F.SAF.SAFE_INVALID_CAUSE).testBit i = true) → OnlyRegs s (s.setInvalid c) [F.SAF.SAFE_INVALID_CAUSE.addr]) := by
  have small : s.get F.SAF.SAFE_INVALID_CAUSE < 256 := Nat.mod_lt _ (by decide)
  have none_ := noneRises_iff c _ small value
  refine ⟨s.setInvalid_cause c value, fun ⟨i, low, stands, was⟩ => ?_, fun all => ?_⟩
  · have rises : ¬ c &&& (255 - s.get F.SAF.SAFE_INVALID_CAUSE) = 0 := fun zero => by
      rw [none_.1 zero i low stands] at was
      cases was
    rw [s.setInvalid_eq, if_neg rises]
    refine ⟨congrArg SafeSt.frameOk (State.invalidRose_safe _ c), fun f on => ?_⟩
    rw [State.invalidRose_bit]
    exact State.allViolated_bit _ f f.isLt (by rw [s.episodeCounted_fieldsOn]; exact (s.mem_fieldsOn f).2 on)
  · rw [s.setInvalid_eq, if_pos (none_.2 all)]
    exact s.onlyRegs_set _ _

theorem State.columnTimeout_scanning (scans : s.pw.st = .scanning) : s.columnTimeout = s.setInvalid (s.get F.SAF.SAFE_INVALID_CAUSE ||| 16) :=
  (if_pos scans).trans (s.invalidBit_sets 4)

theorem State.columnTimeout_still (still : s.pw.st ≠ .scanning) : s.columnTimeout = s := if_neg still

theorem State.invalidCause_state (i : Nat) (low : i < 4) : s.invalidCause i = if s.invalidNow.testBit i = true then s.setInvalid (s.get F.SAF.SAFE_INVALID_CAUSE ||| 2 ^ i) else s := by
  rw [State.invalidCause, if_pos low, s.invalidBit_sets]
  refine if_congr ?_ rfl rfl
  rw [Nat.testBit_eq_decide_div_mod_eq, decide_eq_true_eq]

theorem State.invalidCause_five_six (i : Nat) (h : i = 5 ∨ i = 6) : s.invalidCause i = s := by
  rcases h with rfl | rfl
  all_goals rfl

theorem State.invalidCause_still (i : Nat) (high : 4 ≤ i) (still : s.pw.st ≠ .scanning) : s.invalidCause i = s := by
  rw [State.invalidCause, if_neg (by omega), s.columnTimeout_still still, if_neg still]
  simp only [ite_self]

/-! ### The status record (R361) -/

theorem State.length_safetyBlock : s.safetyBlock.length = 32 := by simp [State.safetyBlock, zeros]

/-- The record without its CRC. -/
def State.recordBody : List Byte := beBytes 1 0x80 ++ zeros 3 ++ beBytes 4 52 ++ beBytes 8 s.time.dev.toNat ++ s.safetyBlock

theorem State.recordBody_length : s.recordBody.length = 48 := by simp [State.recordBody, zeros, s.length_safetyBlock]

theorem State.safetyRecord_spec : ∃ x : State, ∃ r : List Byte, x = s.memUse 0 0 52 ∧ s.safetyRecord = x.txPut 7 r ∧ r.length = 52 ∧ u8 r 0 = 0x80 ∧ u32 r 4 = 52 ∧ u64 r 8 = s.time.dev.toNat ∧
    (r.drop 16).take 32 = s.safetyBlock ∧ u32 r 48 = crc32c (r.take 48) := by
  have len := s.recordBody_length
  have sum : (beBytes 4 (crc32c s.recordBody)).length = 4 := length_beBytes _ _
  refine ⟨_, s.recordBody ++ beBytes 4 (crc32c s.recordBody), rfl, rfl, by rw [List.length_append, len, sum], ?_, ?_, ?_, ?_, ?_⟩
  · exact ofBe_beBytes 1 0x80
  · exact ofBe_beBytes 4 52
  · have head : (beBytes 1 0x80 ++ zeros 3 ++ beBytes 4 52).length = 8 := by simp [zeros]
    rw [u64, beAt_append_left _ _ _ _ (by omega), State.recordBody, beAt_append_left _ _ _ _ (by rw [List.length_append, head, length_beBytes]), beAt_append_right _ _ _ _ (by omega), head,
      Nat.sub_self, beAt, List.drop_zero, List.take_of_length_le (le_of_eq (length_beBytes _ _)), ofBe_beBytes_eight]
  · have head : (beBytes 1 0x80 ++ zeros 3 ++ beBytes 4 52 ++ beBytes 8 s.time.dev.toNat).length = 16 := by simp [zeros]
    rw [State.recordBody, List.append_assoc, List.drop_left' head, List.take_left' s.length_safetyBlock]
  · rw [u32, beAt_append_right _ _ _ _ (by omega), len, Nat.sub_self, List.take_left' len, beAt, List.drop_zero, List.take_of_length_le (le_of_eq sum), ofBe_beBytes]
    exact Nat.mod_eq_of_lt (crc32c_lt _)

end

end Sys2Proof.Machine
end

section
/-! PROOFS. The cycle of Region S (R347, R349 to R354): what its inputs, its causes and its readback checks leave. -/
namespace Sys2Proof.Machine

/-! ### What the cycle leaves alone -/

/-- Only registers, what the events reach, and Region S differ; the configuration in force stays. -/
structure RegionOnly (s t : State) : Prop where
  parts : t = { s with regs := t.regs, cmd := t.cmd, fm := t.fm, mon := t.mon, tx := t.tx, out := t.out, safe := t.safe }
  cfg : t.safe.cfg = s.safe.cfg
  built : t.safe.built = s.safe.built

namespace RegionOnly

variable {s t u : State}

theorem refl (s : State) : RegionOnly s s := ⟨rfl, rfl, rfl⟩

theorem trans (first : RegionOnly s t) (second : RegionOnly t u) : RegionOnly s u := by
  refine ⟨?_, second.cfg.trans first.cfg, second.built.trans first.built⟩
  have e := congrArg (fun x : State => { x with regs := u.regs, cmd := u.cmd, fm := u.fm, mon := u.mon, tx := u.tx, out := u.out, safe := u.safe }) first.parts
  exact second.parts.trans e

theorem of_answering (told : Answering s t) : RegionOnly s t := by
  have safe := told.safe_eq
  refine ⟨?_, congrArg SafeSt.cfg safe, congrArg SafeSt.built safe⟩
  rw [safe]
  exact told

theorem each {α : Type} (l : List α) (f : State → α → State) (step : ∀ u a, RegionOnly u (f u a)) (s : State) : RegionOnly s (s.each l f) := by
  induction l generalizing s with
  | nil => exact .refl s
  | cons a l ih => exact (step s a).trans (ih _)

theorem pw_eq (h : RegionOnly s t) : t.pw = s.pw := by rw [h.parts]
theorem shot_eq (h : RegionOnly s t) : t.shot = s.shot := by rw [h.parts]

theorem sameMem (h : RegionOnly s t) : SameMem s t := by
  have flash : t.flash = s.flash := by rw [h.parts]
  have dram : t.dram = s.dram := by rw [h.parts]
  exact fun a => ⟨by rw [flash], by rw [dram]⟩

end RegionOnly

/-- The words of Region S that the cycle's checks touch. -/
def CheckWord (a : Nat) : Prop := a = 0x5000004 ∨ a = 0x5000008 ∨ a = 0x5000010 ∨ a = 0x5000014 ∨ a = 0x5000104

/-- A step of the cycle's checks: the causes and the reset requests that stand stay. -/
structure Checking (s t : State) : Prop where
  region : RegionOnly s t
  srst : t.safe.srst = s.safe.srst
  words : BlockWords CheckWord s t
  request : ∀ o < 4, s.bitAt F.SAF.SAFE_OUT_RESET_REQ o = true → t.bitAt F.SAF.SAFE_OUT_RESET_REQ o = true
  cause : ∀ i < 16, s.bitAt F.SAF.SAFE_FAULT_CAUSE i = true → t.bitAt F.SAF.SAFE_FAULT_CAUSE i = true

theorem State.bitAt_of_get {s t : State} (f : Fld) (same : t.get f = s.get f) (i : Nat) : t.bitAt f i = s.bitAt f i := by rw [State.bitAt, State.bitAt, same]

namespace Checking

variable {s t u : State}

theorem refl (s : State) : Checking s s := ⟨.refl s, rfl, .refl s, fun _ _ => id, fun _ _ => id⟩

theorem trans (first : Checking s t) (second : Checking t u) : Checking s u :=
  ⟨first.region.trans second.region, second.srst.trans first.srst, first.words.trans second.words, fun o low stands => second.request o low (first.request o low stands),
    fun i low stands => second.cause i low (first.cause i low stands)⟩

theorem each {α : Type} (l : List α) (f : State → α → State) (step : ∀ u, ∀ a ∈ l, Checking u (f u a)) (s : State) : Checking s (s.each l f) := by
  induction l generalizing s with
  | nil => exact .refl s
  | cons a l ih => exact (step s a List.mem_cons_self).trans (ih (fun u b mem => step u b (List.mem_cons_of_mem _ mem)) _)

theorem when (b : Bool) {f : State → State} (step : ∀ u, Checking u (f u)) (s : State) : Checking s (s.when b f) := by
  cases b
  · exact .refl s
  · exact step s

theorem raise (s : State) (n i d : Nat) (known : n < 256) : Checking s (s.raise n i d) := by
  have told := Answering.raise s n i d
  have words : BlockWords (fun _ => False) s (s.raise n i d) := .raise s n i d known
  refine ⟨.of_answering told, congrArg SafeSt.srst told.safe_eq, words.mono fun _ => False.elim, fun o _ stands => ?_, fun i _ stands => ?_⟩
  · rw [State.bitAt_of_get _ (words.get F.SAF.SAFE_OUT_RESET_REQ (by decide) (by decide) not_false)]
    exact stands
  · rw [State.bitAt_of_get _ (words.get F.SAF.SAFE_FAULT_CAUSE (by decide) (by decide) not_false)]
    exact stands

/-- A word that holds neither the causes nor the requests. -/
theorem set (s : State) (f : Fld) (x : Nat) (mine : CheckWord f.addr) (requests : f.addr ≠ 0x5000004) (causes : f.addr ≠ 0x5000010) : Checking s (s.set f x) := by
  refine ⟨.of_answering (.set s f x), rfl, .set s f x mine, fun o _ stands => ?_, fun i _ stands => ?_⟩
  · rw [State.bitAt_of_get _ (s.get_set_addr f F.SAF.SAFE_OUT_RESET_REQ x (Ne.symm requests))]
    exact stands
  · rw [State.bitAt_of_get _ (s.get_set_addr f F.SAF.SAFE_FAULT_CAUSE x (Ne.symm causes))]
    exact stands

theorem requests (s : State) (o : Nat) : Checking s (s.setBitAt F.SAF.SAFE_OUT_RESET_REQ o true) := by
  refine ⟨.of_answering (.set s _ _), rfl, .set s F.SAF.SAFE_OUT_RESET_REQ _ (.inl rfl), fun j low stands => ?_, fun i _ stands => ?_⟩
  · rw [s.bitAt_setBitAt F.SAF.SAFE_OUT_RESET_REQ o j true rfl low, stands, ite_self]
  · rw [State.setBitAt, State.bitAt_of_get _ (s.get_set_addr F.SAF.SAFE_OUT_RESET_REQ F.SAF.SAFE_FAULT_CAUSE _ (by decide))]
    exact stands

/-- The fields, the inputs, the outputs and the frame's validity of Region S. -/
theorem held (s : State) (fields : List (Nat × FieldSt)) (ins : List (Nat × InSt)) (outs : List (Nat × SafeOut)) (ok : Bool) :
    Checking s { s with safe := { s.safe with fields := fields, ins := ins, outs := outs, frameOk := ok } } :=
  ⟨⟨rfl, rfl, rfl⟩, rfl, .of_regs rfl, fun _ _ => id, fun _ _ => id⟩

end Checking

/-! ### Causes (R354) -/

section
variable (s : State)

theorem State.get_cause_lt : s.get F.SAF.SAFE_FAULT_CAUSE < 2 ^ 16 := Nat.mod_lt _ (by decide)

theorem State.bitAt_testBit (f : Fld) (i : Nat) : s.bitAt f i = (s.get f).testBit i := by
  rw [Nat.testBit_eq_decide_div_mod_eq]
  rfl

theorem State.safeLatch_cause (mask : Nat) : (s.safeLatch mask).get F.SAF.SAFE_FAULT_CAUSE = s.get F.SAF.SAFE_FAULT_CAUSE ||| (mask &&& (65535 - s.get F.SAF.SAFE_FAULT_CAUSE)) := by
  have old := s.get_cause_lt
  have stored : (s.set F.SAF.SAFE_FAULT_CAUSE (s.get F.SAF.SAFE_FAULT_CAUSE ||| (mask &&& (65535 - s.get F.SAF.SAFE_FAULT_CAUSE)))).get F.SAF.SAFE_FAULT_CAUSE =
      s.get F.SAF.SAFE_FAULT_CAUSE ||| (mask &&& (65535 - s.get F.SAF.SAFE_FAULT_CAUSE)) := by
    rw [State.get_set_same _ _ _ rfl]
    exact Nat.mod_eq_of_lt (show _ < 2 ^ 16 from Nat.or_lt_two_pow old (Nat.lt_of_le_of_lt Nat.and_le_right (by omega)))
  unfold State.safeLatch
  dsimp only
  split
  case isTrue none_ => rw [none_, Nat.or_zero]
  split
  · exact (State.get_set_bits _ F.SAF.SAFE_FAULT_FIRST F.SAF.SAFE_FAULT_CAUSE _ rfl (by decide)).trans stored
  · exact stored

theorem Checking.safeLatch (mask : Nat) : Checking s (s.safeLatch mask) := by
  have only := s.safeLatch_only mask
  have words := s.safeLatch_words mask
  have safe : (s.safeLatch mask).safe = s.safe := by rw [only]
  refine ⟨⟨?_, congrArg SafeSt.cfg safe, congrArg SafeSt.built safe⟩, congrArg SafeSt.srst safe, words.mono fun _ own => .inr (.inr (.inl own)), fun o _ stands => ?_, fun i _ stands => ?_⟩
  · rw [only]
  · rw [State.bitAt_of_get _ (words.get F.SAF.SAFE_OUT_RESET_REQ (by decide) (by decide) (by decide))]
    exact stands
  · rw [State.bitAt_testBit] at stands ⊢
    rw [s.safeLatch_cause, Nat.testBit_or, stands, Bool.true_or]

/-- Causes clear but for those that still hold. -/
theorem State.safeClear_cause (mask : Nat) : (s.safeClear mask).get F.SAF.SAFE_FAULT_CAUSE = s.get F.SAF.SAFE_FAULT_CAUSE &&& (65535 - mask) := by
  have stored : (s.set F.SAF.SAFE_FAULT_CAUSE (s.get F.SAF.SAFE_FAULT_CAUSE &&& (65535 - mask))).get F.SAF.SAFE_FAULT_CAUSE = s.get F.SAF.SAFE_FAULT_CAUSE &&& (65535 - mask) := by
    rw [State.get_set_same _ _ _ rfl]
    exact Nat.mod_eq_of_lt (show _ < 2 ^ 16 from Nat.lt_of_le_of_lt Nat.and_le_left s.get_cause_lt)
  unfold State.safeClear
  dsimp only
  split
  · exact (State.get_set_bits _ F.SAF.SAFE_FAULT_FIRST F.SAF.SAFE_FAULT_CAUSE _ rfl (by decide)).trans stored
  · exact stored

theorem State.safeClear_words (mask : Nat) : BlockWords (fun a => a = 0x5000010) s (s.safeClear mask) := by
  unfold State.safeClear
  dsimp only
  split
  · exact (BlockWords.set (own := fun a => a = 0x5000010) s F.SAF.SAFE_FAULT_CAUSE _ rfl).trans (.set _ F.SAF.SAFE_FAULT_FIRST _ rfl)
  · exact .set (own := fun a => a = 0x5000010) s F.SAF.SAFE_FAULT_CAUSE _ rfl

theorem Answering.safeClear (mask : Nat) : Answering s (s.safeClear mask) := by
  unfold State.safeClear
  dsimp only
  split
  · exact (Answering.set s _ _).trans (.set _ _ _)
  · exact .set s _ _

theorem Answering.safeLatch (mask : Nat) : Answering s (s.safeLatch mask) := by
  unfold State.safeLatch
  dsimp only
  split
  · exact .refl s
  split
  · exact (Answering.set s _ _).trans (.set _ _ _)
  · exact .set s _ _

/-! ### Validity, inputs, readbacks -/

theorem Checking.fieldViolate (f : Nat) : Checking s (s.fieldViolate f) :=
  (Checking.held s _ s.safe.ins s.safe.outs s.safe.frameOk).trans (.set _ F.SAF.SAFE_FIELD_VIOL _ (.inr (.inl rfl)) (by decide) (by decide))

theorem Checking.invalidRose (c : Nat) : Checking s (s.invalidRose c) :=
  (Checking.each s.fieldsOn State.fieldViolate (fun u f _ => .fieldViolate u f) s).trans
    ((Checking.held s.allViolated s.allViolated.safe.fields s.allViolated.safe.ins s.allViolated.safe.outs false).trans (.raise _ _ _ _ (by decide)))

theorem Checking.setInvalid (c : Nat) : Checking s (s.setInvalid c) := by
  have stored : Checking s (s.set F.SAF.SAFE_INVALID_CAUSE c) := .set s F.SAF.SAFE_INVALID_CAUSE c (.inr (.inr (.inr (.inl rfl)))) (by decide) (by decide)
  rw [s.setInvalid_eq]
  split
  · exact stored
  · refine stored.trans ((Checking.when _ (fun u => ?_) _).trans (.invalidRose _ c))
    exact .set u F.SAF.INVALID_EPISODES _ (.inr (.inr (.inr (.inr rfl)))) (by decide) (by decide)

theorem Checking.inputCycle (pins i : Nat) : Checking s (s.inputCycle pins i) := by
  have put (x : InSt) : Checking s { s with safe := { s.safe with ins := spSet (fun _ => InSt.init) s.safe.ins i x } } :=
    .held s s.safe.fields _ s.safe.outs s.safe.frameOk
  unfold State.inputCycle
  dsimp only
  split
  · exact put _
  split
  · exact (put _).trans ((Checking.each _ _ (fun u o _ => .requests u o) _).trans ((Checking.safeLatch _ 16).trans (.raise _ _ _ _ (by decide))))
  · exact put _

theorem Checking.setSafeOut (o : Nat) (x : SafeOut) : Checking s (s.setSafeOut o x) := .held s s.safe.fields s.safe.ins _ s.safe.frameOk

theorem Checking.readbackCheck (pins o : Nat) : Checking s (s.readbackCheck pins o) := by
  unfold State.readbackCheck
  dsimp only
  split
  · exact (Checking.setSafeOut s o _).trans ((Checking.safeLatch _ (2 ^ o)).trans (.raise _ _ _ _ (by decide)))
  · exact .setSafeOut s o _

/-! ### The outputs through the checks -/

theorem State.safeOut_of_safe {s t : State} (same : t.safe.outs = s.safe.outs) (o : Nat) : t.safeOut o = s.safeOut o := by rw [State.safeOut, State.safeOut, same]

theorem State.safeLatch_safe (mask : Nat) : (s.safeLatch mask).safe = s.safe := (Answering.safeLatch s mask).safe_eq

theorem State.raise_safe (n i d : Nat) : (s.raise n i d).safe = s.safe := (Answering.raise s n i d).safe_eq

theorem State.setInvalid_outs (c : Nat) : (s.setInvalid c).safe.outs = s.safe.outs := by
  have violated (u : State) : u.allViolated.safe.outs = u.safe.outs := State.each_keeps (fun v => v.safe.outs) u.fieldsOn State.fieldViolate (fun _ _ => rfl) u
  rw [s.setInvalid_eq]
  split
  · rfl
  · rw [State.invalidRose_safe]
    refine (violated _).trans ?_
    exact State.when_field (fun v => v.safe.outs) _ (fun s => s.inc F.SAF.INVALID_EPISODES) (fun _ => rfl) _

theorem State.inputCycle_outs (pins i : Nat) : (s.inputCycle pins i).safe.outs = s.safe.outs := by
  unfold State.inputCycle
  dsimp only
  split
  · rfl
  split
  · rw [State.raise_safe, State.safeLatch_safe]
    exact State.each_keeps (fun v => v.safe.outs) _ (fun s o => s.setBitAt F.SAF.SAFE_OUT_RESET_REQ o true) (fun _ _ => rfl) _
  · rfl

/-- A readback check leaves an output's state, or leads to FAULT. -/
theorem State.readbackCheck_own (pins o : Nat) : ((s.readbackCheck pins o).safeOut o).st = .fault ∨ ((s.readbackCheck pins o).safeOut o).st = (s.safeOut o).st := by
  unfold State.readbackCheck
  dsimp only
  split
  · refine .inl ?_
    rw [State.safeOut_of_safe (congrArg SafeSt.outs (State.raise_safe _ _ _ _)), State.safeOut_of_safe (congrArg SafeSt.outs (State.safeLatch_safe _ _)), State.safeOut_setSafeOut, if_pos rfl]
  · refine .inr ?_
    rw [State.safeOut_setSafeOut, if_pos rfl]
    split
    all_goals rfl

theorem State.readbackCheck_other (pins o j : Nat) (other : j ≠ o) : (s.readbackCheck pins o).safeOut j = s.safeOut j := by
  unfold State.readbackCheck
  dsimp only
  split
  · rw [State.safeOut_of_safe (congrArg SafeSt.outs (State.raise_safe _ _ _ _)), State.safeOut_of_safe (congrArg SafeSt.outs (State.safeLatch_safe _ _)), State.safeOut_setSafeOut, if_neg other]
  · rw [State.safeOut_setSafeOut, if_neg other]

end

end Sys2Proof.Machine
end

section
/-! PROOFS. The cycle of Region S (R349 to R353): the reset input, the outputs, and the cycle as a whole. -/
namespace Sys2Proof.Machine

section
variable (s : State)

/-! ### The reset input (R352) -/

/-- The sampled reset input. -/
def State.srstSampled (high : Bool) (h l : Nat) : State := { s with safe := { s.safe with srst := high, srstHigh := h, srstLow := l } }

/-- Whether a reset edge is accepted. -/
def State.resetAccepted (high : Bool) : Bool :=
  s.safe.srst && !high && decide (100 * (s.safeParam 0x50 % 65536) ≤ s.safe.srstHigh ∧ s.safe.srstHigh ≤ 100 * (s.safeParam 0x50 / 65536))

/-- The causes that the reset input's level sets and clears. -/
def State.srstJudged (long idle : Bool) : State := (s.when long (fun s => s.safeLatch 32)).when idle (fun s => s.safeClear 32)

theorem State.srstCycle_eq (high : Bool) : ∃ h l long idle, s.srstCycle high = (s.resetAccepted high,
    ((s.srstSampled high h l).srstJudged long idle).when (s.safe.srst && !high && !s.resetAccepted high) (fun s => s.inc F.SAF.RESETS_REJECTED)) :=
  ⟨_, _, _, _, rfl⟩

theorem State.srstJudged_words (long idle : Bool) : BlockWords (fun a => a = 0x5000010) s (s.srstJudged long idle) :=
  (BlockWords.when (own := fun a => a = 0x5000010) long (fun u => u.safeLatch_words 32) s).trans (.when (own := fun a => a = 0x5000010) idle (fun u => u.safeClear_words 32) _)

theorem Answering.srstJudged (long idle : Bool) : Answering s (s.srstJudged long idle) := (Answering.when long (.safeLatch s 32)).trans (.when idle (.safeClear _ 32))

/-- What the reset input's sample leaves. -/
structure Sampling (s t : State) (high : Bool) : Prop where
  region : RegionOnly s t
  srst : t.safe.srst = high
  outs : t.safe.outs = s.safe.outs
  words : BlockWords (fun a => a = 0x5000010 ∨ a = 0x5000114) s t
  rejected : t.get F.SAF.RESETS_REJECTED = if s.safe.srst = true ∧ high = false ∧ s.resetAccepted high = false then min (s.get F.SAF.RESETS_REJECTED + 1) (2 ^ 32 - 1) else s.get F.SAF.RESETS_REJECTED

theorem State.srstCycle_spec (high : Bool) : (s.srstCycle high).1 = s.resetAccepted high ∧ Sampling s (s.srstCycle high).2 high := by
  obtain ⟨h, l, long, idle, cycle⟩ := s.srstCycle_eq high
  rw [cycle]
  have judged := Answering.srstJudged (s.srstSampled high h l) long idle
  have words := (s.srstSampled high h l).srstJudged_words long idle
  have count : ((s.srstSampled high h l).srstJudged long idle).get F.SAF.RESETS_REJECTED = s.get F.SAF.RESETS_REJECTED := words.get F.SAF.RESETS_REJECTED (by decide) (by decide) (by decide)
  have sampled : RegionOnly s (s.srstSampled high h l) := ⟨rfl, rfl, rfl⟩
  refine ⟨rfl, ?_⟩
  dsimp only
  generalize (s.srstSampled high h l).srstJudged long idle = u at judged words count
  have safe : u.safe = (s.srstSampled high h l).safe := judged.safe_eq
  have srst : u.safe.srst = high := (congrArg SafeSt.srst safe).trans rfl
  have outs : u.safe.outs = s.safe.outs := (congrArg SafeSt.outs safe).trans rfl
  have started : BlockWords (fun a => a = 0x5000010 ∨ a = 0x5000114) s u := (BlockWords.of_regs (s := s) (t := s.srstSampled high h l) rfl).trans (words.mono fun _ => .inl)
  by_cases rejects : s.safe.srst = true ∧ high = false ∧ s.resetAccepted high = false
  · have counts : (s.safe.srst && !high && !s.resetAccepted high) = true := by
      obtain ⟨was, low, not⟩ := rejects
      rw [was, not, low]
      rfl
    rw [counts]
    exact ⟨(sampled.trans (.of_answering judged)).trans (.of_answering (.inc u _)), srst, outs,
      started.trans (.set u F.SAF.RESETS_REJECTED _ (.inr rfl)), by rw [if_pos rejects]; exact State.get_inc_of_eq F.SAF.RESETS_REJECTED rfl count⟩
  · have silent : (s.safe.srst && !high && !s.resetAccepted high) = false := by
      refine Bool.eq_false_iff.2 fun all => rejects ?_
      simp only [Bool.and_eq_true, Bool.not_eq_true'] at all
      obtain ⟨⟨was, low⟩, not⟩ := all
      exact ⟨was, low, not⟩
    rw [silent]
    exact ⟨sampled.trans (.of_answering judged), srst, outs, started, by rw [if_neg rejects]; exact count⟩

/-! ### The reset (R352) -/

/-- Causes whose condition has ended clear at an accepted edge, which is counted and told. -/
def State.resetTaken (mask : Nat) : State := ((s.safeClear mask).inc F.SAF.RESETS_ACCEPTED).raise EV_SAFETY_RESET 0 0

theorem State.resetTaken_words (mask : Nat) : BlockWords (fun a => a = 0x5000010 ∨ a = 0x5000110) s (s.resetTaken mask) :=
  (((s.safeClear_words mask).mono fun _ => .inl).trans (.set _ F.SAF.RESETS_ACCEPTED _ (.inr rfl))).trans (.raise _ _ _ _ (by decide))

theorem Answering.resetTaken (mask : Nat) : Answering s (s.resetTaken mask) := ((Answering.safeClear s mask).trans (.inc _ _)).trans (.raise _ _ _ _)

theorem State.resetTaken_count (mask : Nat) : (s.resetTaken mask).get F.SAF.RESETS_ACCEPTED = min (s.get F.SAF.RESETS_ACCEPTED + 1) (2 ^ 32 - 1) := by
  have told : BlockWords (fun _ => False) ((s.safeClear mask).inc F.SAF.RESETS_ACCEPTED) (s.resetTaken mask) := .raise _ _ _ _ (by decide)
  have cleared : (s.safeClear mask).get F.SAF.RESETS_ACCEPTED = s.get F.SAF.RESETS_ACCEPTED := (s.safeClear_words mask).get F.SAF.RESETS_ACCEPTED (by decide) (by decide) (by decide)
  exact (told.get F.SAF.RESETS_ACCEPTED (by decide) (by decide) not_false).trans (State.get_inc_of_eq F.SAF.RESETS_ACCEPTED rfl cleared)

theorem State.resetTaken_cause (was holding i : Nat) (small : holding < 65536) (low : i < 16) (holds : holding.testBit i = true)
    (stands : s.bitAt F.SAF.SAFE_FAULT_CAUSE i = true) : (s.resetTaken (was &&& (65535 - holding))).bitAt F.SAF.SAFE_FAULT_CAUSE i = true := by
  have told : BlockWords (fun _ => False) ((s.safeClear (was &&& (65535 - holding))).inc F.SAF.RESETS_ACCEPTED) (s.resetTaken (was &&& (65535 - holding))) := .raise _ _ _ _ (by decide)
  have value : (s.resetTaken (was &&& (65535 - holding))).get F.SAF.SAFE_FAULT_CAUSE = s.get F.SAF.SAFE_FAULT_CAUSE &&& (65535 - (was &&& (65535 - holding))) :=
    (told.get F.SAF.SAFE_FAULT_CAUSE (by decide) (by decide) not_false).trans ((State.get_inc_ne _ F.SAF.RESETS_ACCEPTED F.SAF.SAFE_FAULT_CAUSE (by decide)).trans (s.safeClear_cause _))
  have complement (x : Nat) (fits : x < 2 ^ 16) : (65535 - x).testBit i = !x.testBit i := by
    have other := Nat.testBit_two_pow_sub_succ (n := 16) fits i
    rwa [show 2 ^ 16 - (x + 1) = 65535 - x by omega, decide_eq_true low, Bool.true_and] at other
  rw [State.bitAt_testBit] at stands ⊢
  rw [value, Nat.testBit_and, stands, complement _ (Nat.lt_of_le_of_lt Nat.and_le_right (by omega)), Nat.testBit_and, complement _ small, holds]
  simp

theorem bit_le (b : Bool) : bit b ≤ 1 := by cases b <;> decide

/-- The outputs whose causes hold, as bits. -/
def State.outsHolding (pins : Nat) : Nat :=
  (List.range 4).foldl (fun m o => m + 2 ^ o * bit ((s.safeOut o).st == .fault && ((readbacks pins o).1 || (readbacks pins o).2))) 0

theorem State.outsHolding_lt (pins : Nat) : s.outsHolding pins < 16 := by
  have low (o : Nat) := bit_le ((s.safeOut o).st == .fault && ((readbacks pins o).1 || (readbacks pins o).2))
  have sum : s.outsHolding pins = 0 + 2 ^ 0 * bit ((s.safeOut 0).st == .fault && ((readbacks pins 0).1 || (readbacks pins 0).2)) +
    2 ^ 1 * bit ((s.safeOut 1).st == .fault && ((readbacks pins 1).1 || (readbacks pins 1).2)) + 2 ^ 2 * bit ((s.safeOut 2).st == .fault && ((readbacks pins 2).1 || (readbacks pins 2).2)) +
    2 ^ 3 * bit ((s.safeOut 3).st == .fault && ((readbacks pins 3).1 || (readbacks pins 3).2)) := rfl
  have zero := low 0
  have one := low 1
  have two := low 2
  have three := low 3
  omega

theorem State.causesHolding_bits (pins : Nat) (lane : Bool) : s.causesHolding pins lane < 65536 ∧ (s.causesHolding pins lane).testBit 8 = true ∧ (lane = true → (s.causesHolding pins lane).testBit 6 = true) := by
  have outs := s.outsHolding_lt pins
  have input := bit_le ((List.range 8).any (fun i => (s.safeIn i).st == .fault))
  have lanes := bit_le lane
  have clock := bit_le (s.flag (activeBit EV_CLOCK_MONITOR))
  have sum : s.causesHolding pins lane = s.outsHolding pins + 16 * bit ((List.range 8).any (fun i => (s.safeIn i).st == .fault)) + 32 + 64 * bit lane +
    128 * bit (s.flag (activeBit EV_CLOCK_MONITOR)) + 256 + 512 := rfl
  rw [sum, Nat.testBit_eq_decide_div_mod_eq, Nat.testBit_eq_decide_div_mod_eq, decide_eq_true_eq, decide_eq_true_eq]
  refine ⟨by omega, by omega, fun high => ?_⟩
  rw [high]
  have one : bit true = 1 := rfl
  omega

/-! ### The outputs (R349 to R351) -/

/-- A step of the outputs: only they, the reset requests and the count of test pulses change. -/
structure Driving (s t : State) : Prop where
  regs : t = { s with regs := t.regs, safe := t.safe }
  outs : t.safe = { s.safe with outs := t.safe.outs }
  words : BlockWords (fun a => a = 0x5000004 ∨ a = 0x5000108) s t

namespace Driving

variable {s} {t u : State}

theorem refl (s : State) : Driving s s := ⟨rfl, rfl, .refl s⟩

theorem trans (first : Driving s t) (second : Driving t u) : Driving s u := by
  have whole := congrArg (fun x : State => { x with regs := u.regs, safe := u.safe }) first.regs
  have safe := congrArg (fun x : SafeSt => { x with outs := u.safe.outs }) first.outs
  exact ⟨second.regs.trans whole, second.outs.trans safe, first.words.trans second.words⟩

theorem each {α : Type} (l : List α) (f : State → α → State) (step : ∀ u a, Driving u (f u a)) (s : State) : Driving s (s.each l f) := by
  induction l generalizing s with
  | nil => exact .refl s
  | cons a l ih => exact (step s a).trans (ih _)

theorem region (h : Driving s t) : RegionOnly s t := by
  refine ⟨?_, (congrArg SafeSt.cfg h.outs).trans rfl, (congrArg SafeSt.built h.outs).trans rfl⟩
  have rest : t.cmd = s.cmd ∧ t.fm = s.fm ∧ t.mon = s.mon ∧ t.tx = s.tx ∧ t.out = s.out := by
    rw [h.regs]
    exact ⟨rfl, rfl, rfl, rfl, rfl⟩
  obtain ⟨cmd, fm, mon, tx, out⟩ := rest
  rw [cmd, fm, mon, tx, out]
  exact h.regs

theorem set (s : State) (f : Fld) (x : Nat) (mine : f.addr = 0x5000004 ∨ f.addr = 0x5000108) : Driving s (s.set f x) := ⟨rfl, rfl, .set s f x mine⟩

theorem setSafeOut (s : State) (o : Nat) (x : SafeOut) : Driving s (s.setSafeOut o x) := ⟨rfl, rfl, .of_regs rfl⟩

/-- The condition of an output does not speak of the outputs. -/
theorem cond_eq (h : Driving s t) (o : Nat) : t.cond o = s.cond o := by
  have pw : t.pw = s.pw := by rw [h.regs]
  have cause := h.words.get F.SAF.SAFE_FAULT_CAUSE (by decide) (by decide) (by decide)
  have viol := h.words.get F.SAF.SAFE_FIELD_VIOL (by decide) (by decide) (by decide)
  have conf : t.safeConf = s.safeConf := by rw [State.safeConf, h.outs]; rfl
  have built : t.safe.built = s.safe.built := by rw [h.outs]
  have param (n : Nat) : t.safeParam n = s.safeParam n := by rw [State.safeParam, State.safeImg, h.outs]; rfl
  have input (i : Nat) : t.safeIn i = s.safeIn i := by rw [State.safeIn, h.outs]; rfl
  have state : t.safeState = s.safeState := by rw [State.safeState, State.safeState, State.safeHalt, State.safeHalt, conf, built, cause, pw]
  have violated (f : Nat) : t.bitAt F.SAF.SAFE_FIELD_VIOL f = s.bitAt F.SAF.SAFE_FIELD_VIOL f := State.bitAt_of_get _ viol f
  have fault : t.bitAt F.SAF.SAFE_FAULT_CAUSE o = s.bitAt F.SAF.SAFE_FAULT_CAUSE o := State.bitAt_of_get _ cause o
  simp only [State.cond, State.outCfg, conf, param, state, violated, input, fault]

theorem outCfg_eq (h : Driving s t) (o : Nat) : t.outCfg o = s.outCfg o := by
  rw [State.outCfg, State.outCfg, State.safeParam, State.safeImg, h.outs]
  rfl

end Driving

theorem Driving.outNext (pins : Nat) (edge : Bool) (o : Nat) : Driving s (s.outNext pins edge o) := by
  have put (x : SafeOut) : Driving s (s.setSafeOut o x) := .setSafeOut s o x
  have request (x : SafeOut) (b : Bool) : Driving s ((s.setSafeOut o x).setBitAt F.SAF.SAFE_OUT_RESET_REQ o b) := (put x).trans (.set _ F.SAF.SAFE_OUT_RESET_REQ _ (.inl rfl))
  unfold State.outNext
  dsimp only
  split
  · split
    · exact request _ true
    · exact .refl s
  · split
    · exact request _ false
    split
    · exact .refl s
    · exact put _
  · split
    · exact .refl s
    · exact put _
  · split
    · exact .refl s
    split
    all_goals exact put _

theorem Driving.outDrive (o : Nat) : Driving s (s.outDrive o) := (Driving.set s F.SAF.TP_DONE _ (.inr rfl)).trans (.setSafeOut _ o _)

theorem State.request_setSafeOut (o : Nat) (x : SafeOut) (j : Nat) : (s.setSafeOut o x).bitAt F.SAF.SAFE_OUT_RESET_REQ j = s.bitAt F.SAF.SAFE_OUT_RESET_REQ j := rfl

theorem State.outNext_other (pins : Nat) (edge : Bool) (o j : Nat) (low : j < 4) (other : j ≠ o) :
    (s.outNext pins edge o).safeOut j = s.safeOut j ∧ (s.outNext pins edge o).bitAt F.SAF.SAFE_OUT_RESET_REQ j = s.bitAt F.SAF.SAFE_OUT_RESET_REQ j := by
  have put (x : SafeOut) : (s.setSafeOut o x).safeOut j = s.safeOut j := (s.safeOut_setSafeOut o j x).trans (if_neg other)
  have request (x : SafeOut) (b : Bool) : ((s.setSafeOut o x).setBitAt F.SAF.SAFE_OUT_RESET_REQ o b).bitAt F.SAF.SAFE_OUT_RESET_REQ j = s.bitAt F.SAF.SAFE_OUT_RESET_REQ j :=
    (State.bitAt_setBitAt _ F.SAF.SAFE_OUT_RESET_REQ o j b rfl low).trans (if_neg other)
  unfold State.outNext
  dsimp only
  split
  · split
    · exact ⟨put _, request _ true⟩
    · exact ⟨rfl, rfl⟩
  · split
    · exact ⟨put _, request _ false⟩
    split
    · exact ⟨rfl, rfl⟩
    · exact ⟨put _, rfl⟩
  · split
    · exact ⟨rfl, rfl⟩
    · exact ⟨put _, rfl⟩
  · split
    · exact ⟨rfl, rfl⟩
    split
    all_goals exact ⟨put _, rfl⟩

/-- Table 15-5 for one output: where it may lead from each of its states. -/
theorem State.outNext_own (pins : Nat) (edge : Bool) (o : Nat) (low : o < 4) :
    (((s.outNext pins edge o).safeOut o).st = .on ∨ ((s.outNext pins edge o).safeOut o).st = .wait → s.cond o = true) ∧
    ((s.safeOut o).st = .fault → ((s.outNext pins edge o).safeOut o).st = .fault ∨ (((s.outNext pins edge o).safeOut o).st = .off ∧ edge = true ∧ (readbacks pins o).1 = false ∧
      (readbacks pins o).2 = false ∧ (s.outNext pins edge o).bitAt F.SAF.SAFE_OUT_RESET_REQ o = true)) ∧
    ((s.safeOut o).st = .wait → ((s.outNext pins edge o).safeOut o).st = .on → edge = true) ∧
    ((s.safeOut o).st = .off → ((s.outNext pins edge o).safeOut o).st = .on → (s.outCfg o / 2 % 2 == 1) = false ∧ s.bitAt F.SAF.SAFE_OUT_RESET_REQ o = false) := by
  have put (x : SafeOut) : (s.setSafeOut o x).safeOut o = x := (s.safeOut_setSafeOut o o x).trans (if_pos rfl)
  have stored (x : SafeOut) (b : Bool) : ((s.setSafeOut o x).setBitAt F.SAF.SAFE_OUT_RESET_REQ o b).safeOut o = x := put x
  unfold State.outNext
  dsimp only
  cases st : (s.safeOut o).st with
  | fault =>
    dsimp only
    split
    case isTrue reset =>
      simp only [Bool.and_eq_true, Bool.not_eq_true'] at reset
      obtain ⟨⟨accepted, first⟩, second⟩ := reset
      rw [stored]
      refine ⟨by simp, fun _ => .inr ⟨rfl, accepted, first, second, ?_⟩, by simp, by simp⟩
      rw [State.bitAt_setBitAt _ F.SAF.SAFE_OUT_RESET_REQ o o true rfl low, if_pos rfl]
    case isFalse =>
      rw [st]
      exact ⟨by simp, fun _ => .inl rfl, by simp, by simp⟩
  | wait =>
    dsimp only
    split
    case isTrue on =>
      rw [Bool.and_eq_true] at on
      exact ⟨fun _ => on.2, by simp, fun _ _ => on.1, by simp⟩
    case isFalse =>
      split
      case isTrue c =>
        rw [st]
        exact ⟨fun _ => c, by simp, by simp, by simp⟩
      case isFalse =>
        rw [put]
        exact ⟨by simp, by simp, by simp, by simp⟩
  | on =>
    dsimp only
    split
    case isTrue c => exact ⟨fun _ => c, by simp, by simp, by simp⟩
    case isFalse =>
      rw [put]
      exact ⟨by simp, by simp, by simp, by simp⟩
  | off =>
    dsimp only
    split
    case isTrue =>
      rw [st]
      exact ⟨by simp, by simp, by simp, by simp⟩
    case isFalse c =>
      have stands : s.cond o = true := by simpa using c
      split
      case isTrue =>
        rw [put]
        exact ⟨fun _ => stands, by simp, by simp, by simp⟩
      case isFalse free =>
        rw [Bool.or_eq_true, not_or, Bool.not_eq_true, Bool.not_eq_true] at free
        exact ⟨fun _ => stands, by simp, by simp, fun _ _ => free⟩

/-- The channels of an output follow its state and its test pulses. -/
theorem State.outDrive_own (o : Nat) : ((s.outDrive o).safeOut o).st = (s.safeOut o).st ∧
    ((s.outDrive o).safeOut o).a = (((s.outDrive o).safeOut o).st == .on && ((s.outDrive o).safeOut o).pulseA == 0) ∧
    ((s.outDrive o).safeOut o).b = (((s.outDrive o).safeOut o).st == .on && ((s.outDrive o).safeOut o).pulseB == 0) := by
  unfold State.outDrive
  dsimp only
  rw [State.safeOut_setSafeOut, if_pos rfl]
  exact ⟨rfl, rfl, rfl⟩

theorem State.outDrive_other (o j : Nat) (other : j ≠ o) : (s.outDrive o).safeOut j = s.safeOut j := by
  unfold State.outDrive
  dsimp only
  rw [State.safeOut_setSafeOut, if_neg other]
  rfl

end

end Sys2Proof.Machine
end

section
/-! PROOFS. The cycle of Region S (R341, R344, R353) from its stages. -/
namespace Sys2Proof.Machine

section
variable (s : State) (pins : Nat) (lane table : Bool)

/-! ### The stages of a cycle -/

/-- The inputs sample their channels. -/
def State.inputsCycled : State := s.each (List.range 8) (fun s i => s.inputCycle pins i)

/-- Lanes that disagree are a cause. -/
def State.laneChecked : State := s.when lane (fun s => (s.safeLatch 64).raise EV_SAFETY_LANE 0 0)

/-- An error in a limit table in force is a cause. -/
def State.tableChecked : State := s.when (table && s.safe.built) (fun s => s.safeLatch 256)

/-- A clock out of its range is a cause. -/
def State.clockChecked : State := s.when (s.flag (activeBit EV_CLOCK_MONITOR)) (fun s => s.safeLatch 128)

/-- A configuration that does not fit is a cause. -/
def State.confChecked : State := s.when (s.safe.loaded && !s.safeConf) (fun s => s.safeLatch 512)

/-- The readbacks of all outputs are checked. -/
def State.readbacksChecked : State := s.each (List.range 4) (fun s o => s.readbackCheck pins o)

/-- The checks of a cycle. -/
def State.cycleChecked : State := ((((((s.inputsCycled pins).invalidFollow).laneChecked lane).tableChecked table).clockChecked).confChecked).readbacksChecked pins

/-- An accepted edge clears the causes that have ended; `was`: the causes at the cycle's start. -/
def State.resetEdge (was : Nat) (edge : Bool) : State := if edge then s.resetTaken (was &&& (65535 - s.causesHolding pins lane)) else s

/-- The outputs take their next state. -/
def State.outsNext (edge : Bool) : State := s.each (List.range 4) (fun s o => s.outNext pins edge o)

/-- The outputs' channels follow. -/
def State.outsDriven : State := s.each (List.range 4) State.outDrive

theorem State.regionCycle_eq : s.regionCycle pins lane table =
    ((((s.srstCycle (pins / 2 ^ 16 % 2 == 1)).2.cycleChecked pins lane table).resetEdge pins lane (s.get F.SAF.SAFE_FAULT_CAUSE) (s.srstCycle (pins / 2 ^ 16 % 2 == 1)).1).outsNext pins
      (s.srstCycle (pins / 2 ^ 16 % 2 == 1)).1).outsDriven := rfl

/-! ### The checks -/

theorem Checking.inputsCycled : Checking s (s.inputsCycled pins) := .each _ _ (fun u i _ => .inputCycle u pins i) s

theorem Checking.laneChecked : Checking s (s.laneChecked lane) := .when lane (fun u => (Checking.safeLatch u 64).trans (.raise _ _ _ _ (by decide))) s

theorem Checking.tableChecked : Checking s (s.tableChecked table) := .when _ (fun u => .safeLatch u 256) s

theorem Checking.clockChecked : Checking s s.clockChecked := .when _ (fun u => .safeLatch u 128) s

theorem Checking.confChecked : Checking s s.confChecked := .when _ (fun u => .safeLatch u 512) s

theorem Checking.readbacksChecked : Checking s (s.readbacksChecked pins) := .each _ _ (fun u o _ => .readbackCheck u pins o) s

theorem Checking.afterTable : Checking s ((s.clockChecked.confChecked).readbacksChecked pins) := ((Checking.clockChecked s).trans (.confChecked _)).trans (.readbacksChecked _ pins)

theorem Checking.cycleChecked : Checking s (s.cycleChecked pins lane table) :=
  ((((Checking.inputsCycled s pins).trans (.setInvalid _ _)).trans (.laneChecked _ lane)).trans (.tableChecked _ table)).trans (.afterTable _ pins)

/-- Lanes that disagree leave their cause. -/
theorem State.cycleChecked_lane (differ : lane = true) : (s.cycleChecked pins lane table).bitAt F.SAF.SAFE_FAULT_CAUSE 6 = true := by
  have latched : (((s.inputsCycled pins).invalidFollow).laneChecked lane).bitAt F.SAF.SAFE_FAULT_CAUSE 6 = true := by
    rw [differ]
    exact (Checking.raise _ EV_SAFETY_LANE 0 0 (by decide)).cause 6 (by decide) (State.safeLatch_sets _ 6 (by decide))
  exact ((Checking.tableChecked _ table).trans (.afterTable _ pins)).cause 6 (by decide) latched

/-- An error in a table in force leaves its cause. -/
theorem State.cycleChecked_table (wrong : table = true) (built : s.safe.built = true) : (s.cycleChecked pins lane table).bitAt F.SAF.SAFE_FAULT_CAUSE 8 = true := by
  have before : Checking s (((s.inputsCycled pins).invalidFollow).laneChecked lane) := ((Checking.inputsCycled s pins).trans (.setInvalid _ _)).trans (.laneChecked _ lane)
  have latched : ((((s.inputsCycled pins).invalidFollow).laneChecked lane).tableChecked table).bitAt F.SAF.SAFE_FAULT_CAUSE 8 = true := by
    rw [State.tableChecked, wrong, before.region.built, built]
    exact State.safeLatch_sets _ 8 (by decide)
  exact (Checking.afterTable _ pins).cause 8 (by decide) latched

/-- Before the readbacks are checked, the outputs are as they were. -/
theorem State.checkedOuts : (((((s.inputsCycled pins).invalidFollow).laneChecked lane).tableChecked table).clockChecked.confChecked).safe.outs = s.safe.outs := by
  have latch (u : State) (b : Bool) (mask : Nat) : (u.when b (fun s => s.safeLatch mask)).safe.outs = u.safe.outs :=
    State.when_field (fun v => v.safe.outs) b (fun s => s.safeLatch mask) (fun v => congrArg SafeSt.outs (v.safeLatch_safe mask)) u
  have told (u : State) : (u.laneChecked lane).safe.outs = u.safe.outs :=
    State.when_field (fun v => v.safe.outs) lane (fun s => (s.safeLatch 64).raise EV_SAFETY_LANE 0 0)
      (fun v => (congrArg SafeSt.outs (State.raise_safe _ _ _ _)).trans (congrArg SafeSt.outs (v.safeLatch_safe 64))) u
  have inputs : (s.inputsCycled pins).safe.outs = s.safe.outs := State.each_keeps (fun v => v.safe.outs) _ (fun s i => s.inputCycle pins i) (fun u i => u.inputCycle_outs pins i) s
  exact (latch _ _ 512).trans ((latch _ _ 128).trans ((latch _ _ 256).trans ((told _).trans ((State.setInvalid_outs _ _).trans inputs))))

theorem State.readbacksChecked_own (o : Nat) (low : o < 4) : ((s.readbacksChecked pins).safeOut o).st = .fault ∨ ((s.readbacksChecked pins).safeOut o).st = (s.safeOut o).st := by
  obtain ⟨u, before, after⟩ := State.each_own (fun v => v.safeOut o) (List.range 4) List.nodup_range (fun s o => s.readbackCheck pins o) o (List.mem_range.2 low)
    (fun v b other => v.readbackCheck_other pins b o (Ne.symm other)) s
  have own := u.readbackCheck_own pins o
  rw [before, ← after] at own
  exact own

theorem State.cycleChecked_own (o : Nat) (low : o < 4) : ((s.cycleChecked pins lane table).safeOut o).st = .fault ∨ ((s.cycleChecked pins lane table).safeOut o).st = (s.safeOut o).st := by
  have same := State.safeOut_of_safe (s.checkedOuts pins lane table) o
  have own := State.readbacksChecked_own (((((s.inputsCycled pins).invalidFollow).laneChecked lane).tableChecked table).clockChecked.confChecked) pins o low
  rw [same] at own
  exact own

/-! ### The edge and the outputs -/

theorem Answering.resetEdge (was : Nat) (edge : Bool) : Answering s (s.resetEdge pins lane was edge) := by
  unfold State.resetEdge
  split
  · exact .resetTaken s _
  · exact .refl s

theorem State.resetEdge_words (was : Nat) (edge : Bool) : BlockWords (fun a => a = 0x5000010 ∨ a = 0x5000110) s (s.resetEdge pins lane was edge) := by
  unfold State.resetEdge
  split
  · exact s.resetTaken_words _
  · exact .refl s

theorem State.resetEdge_count (was : Nat) (edge : Bool) : (s.resetEdge pins lane was edge).get F.SAF.RESETS_ACCEPTED =
    if edge then min (s.get F.SAF.RESETS_ACCEPTED + 1) (2 ^ 32 - 1) else s.get F.SAF.RESETS_ACCEPTED := by
  unfold State.resetEdge
  split
  · exact s.resetTaken_count _
  · rfl

theorem State.resetEdge_cause (was : Nat) (edge : Bool) (i : Nat) (low : i < 16) (holds : (s.causesHolding pins lane).testBit i = true) (stands : s.bitAt F.SAF.SAFE_FAULT_CAUSE i = true) :
    (s.resetEdge pins lane was edge).bitAt F.SAF.SAFE_FAULT_CAUSE i = true := by
  unfold State.resetEdge
  split
  · exact s.resetTaken_cause was _ i (s.causesHolding_bits pins lane).1 low holds stands
  · exact stands

variable (edge : Bool)

theorem Driving.outsNext : Driving s (s.outsNext pins edge) := .each _ _ (fun u o => .outNext u pins edge o) s

theorem Driving.outsDriven : Driving s s.outsDriven := .each _ _ (fun u o => .outDrive u o) s

/-- What an output shows of itself between the stages. -/
def State.outView (o : Nat) : SafeOut × Bool × Bool × Nat := (s.safeOut o, s.bitAt F.SAF.SAFE_OUT_RESET_REQ o, s.cond o, s.outCfg o)

/-- Table 15-5 for an output in the round of all of them. -/
theorem State.outsNext_own (o : Nat) (low : o < 4) :
    (((s.outsNext pins edge).safeOut o).st = .on ∨ ((s.outsNext pins edge).safeOut o).st = .wait → s.cond o = true) ∧
    ((s.safeOut o).st = .fault → ((s.outsNext pins edge).safeOut o).st = .fault ∨ (((s.outsNext pins edge).safeOut o).st = .off ∧ edge = true ∧ (readbacks pins o).1 = false ∧
      (readbacks pins o).2 = false ∧ (s.outsNext pins edge).bitAt F.SAF.SAFE_OUT_RESET_REQ o = true)) ∧
    ((s.safeOut o).st = .wait → ((s.outsNext pins edge).safeOut o).st = .on → edge = true) ∧
    ((s.safeOut o).st = .off → ((s.outsNext pins edge).safeOut o).st = .on → (s.outCfg o / 2 % 2 == 1) = false ∧ s.bitAt F.SAF.SAFE_OUT_RESET_REQ o = false) := by
  obtain ⟨u, before, after⟩ := State.each_own (fun v => v.outView o) (List.range 4) List.nodup_range (fun s o => s.outNext pins edge o) o (List.mem_range.2 low)
    (fun v b other => by
      obtain ⟨out, request⟩ := v.outNext_other pins edge b o low (Ne.symm other)
      have drives := Driving.outNext v pins edge b
      rw [State.outView, out, request, drives.cond_eq, drives.outCfg_eq]
      rfl) s
  have own := u.outNext_own pins edge o low
  simp only [State.outView, Prod.mk.injEq] at before after
  obtain ⟨out, request, cond, cfg⟩ := before
  obtain ⟨outAfter, requestAfter, -, -⟩ := after
  rw [out, request, cond, cfg, ← outAfter, ← requestAfter] at own
  exact own

theorem State.outsDriven_own (o : Nat) (low : o < 4) : (s.outsDriven.safeOut o).st = (s.safeOut o).st ∧ (s.outsDriven.safeOut o).a = ((s.outsDriven.safeOut o).st == .on && (s.outsDriven.safeOut o).pulseA == 0) ∧
    (s.outsDriven.safeOut o).b = ((s.outsDriven.safeOut o).st == .on && (s.outsDriven.safeOut o).pulseB == 0) := by
  obtain ⟨u, before, after⟩ := State.each_own (fun v => v.safeOut o) (List.range 4) List.nodup_range State.outDrive o (List.mem_range.2 low)
    (fun v b other => v.outDrive_other b o (Ne.symm other)) s
  have own := u.outDrive_own o
  rw [before, ← after] at own
  exact own

theorem State.outsDriven_request (o : Nat) : s.outsDriven.bitAt F.SAF.SAFE_OUT_RESET_REQ o = s.bitAt F.SAF.SAFE_OUT_RESET_REQ o :=
  State.each_keeps (fun v => v.bitAt F.SAF.SAFE_OUT_RESET_REQ o) _ State.outDrive
    (fun u a => State.bitAt_of_get (s := u) (t := u.outDrive a) _ (State.get_set_addr u F.SAF.TP_DONE F.SAF.SAFE_OUT_RESET_REQ _ (by decide)) o) s

/-! ### The cycle -/

/-- The cycle up to the outputs. -/
def State.cycleReset : State :=
  ((s.srstCycle (pins / 2 ^ 16 % 2 == 1)).2.cycleChecked pins lane table).resetEdge pins lane (s.get F.SAF.SAFE_FAULT_CAUSE) (s.resetAccepted (pins / 2 ^ 16 % 2 == 1))

theorem State.regionCycle_outs : s.regionCycle pins lane table = ((s.cycleReset pins lane table).outsNext pins (s.resetAccepted (pins / 2 ^ 16 % 2 == 1))).outsDriven := by
  rw [s.regionCycle_eq, (s.srstCycle_spec (pins / 2 ^ 16 % 2 == 1)).1]
  rfl

theorem State.cycleReset_spec : RegionOnly s (s.cycleReset pins lane table) ∧ (s.cycleReset pins lane table).safe.srst = (pins / 2 ^ 16 % 2 == 1) ∧
    (lane = true → (s.cycleReset pins lane table).bitAt F.SAF.SAFE_FAULT_CAUSE 6 = true) ∧
    (table = true → s.safe.built = true → (s.cycleReset pins lane table).bitAt F.SAF.SAFE_FAULT_CAUSE 8 = true) := by
  obtain ⟨-, sampled⟩ := s.srstCycle_spec (pins / 2 ^ 16 % 2 == 1)
  unfold State.cycleReset
  generalize (s.srstCycle (pins / 2 ^ 16 % 2 == 1)).2 = u at sampled
  have checks := Checking.cycleChecked u pins lane table
  have told := Answering.resetEdge (u.cycleChecked pins lane table) pins lane (s.get F.SAF.SAFE_FAULT_CAUSE) (s.resetAccepted (pins / 2 ^ 16 % 2 == 1))
  obtain ⟨-, tables, lanes⟩ := (u.cycleChecked pins lane table).causesHolding_bits pins lane
  exact ⟨(sampled.region.trans checks.region).trans (.of_answering told), (congrArg SafeSt.srst told.safe_eq).trans (checks.srst.trans sampled.srst),
    fun differ => State.resetEdge_cause _ pins lane _ _ 6 (by decide) (lanes differ) (u.cycleChecked_lane pins lane table differ),
    fun wrong built => State.resetEdge_cause _ pins lane _ _ 8 (by decide) tables (u.cycleChecked_table pins lane table wrong (sampled.region.built.trans built))⟩

theorem State.cycleReset_counts : (s.cycleReset pins lane table).get F.SAF.RESETS_ACCEPTED =
      (if s.resetAccepted (pins / 2 ^ 16 % 2 == 1) then min (s.get F.SAF.RESETS_ACCEPTED + 1) (2 ^ 32 - 1) else s.get F.SAF.RESETS_ACCEPTED) ∧
    (s.cycleReset pins lane table).get F.SAF.RESETS_REJECTED =
      (if s.safe.srst = true ∧ (pins / 2 ^ 16 % 2 == 1) = false ∧ s.resetAccepted (pins / 2 ^ 16 % 2 == 1) = false then min (s.get F.SAF.RESETS_REJECTED + 1) (2 ^ 32 - 1)
        else s.get F.SAF.RESETS_REJECTED) := by
  obtain ⟨-, sampled⟩ := s.srstCycle_spec (pins / 2 ^ 16 % 2 == 1)
  unfold State.cycleReset
  generalize (s.srstCycle (pins / 2 ^ 16 % 2 == 1)).2 = u at sampled
  have checks := (Checking.cycleChecked u pins lane table).words
  have accepted : (u.cycleChecked pins lane table).get F.SAF.RESETS_ACCEPTED = s.get F.SAF.RESETS_ACCEPTED :=
    (checks.get F.SAF.RESETS_ACCEPTED (by decide) (by decide) (by simp [CheckWord, F.SAF.RESETS_ACCEPTED])).trans (sampled.words.get F.SAF.RESETS_ACCEPTED (by decide) (by decide) (by decide))
  have rejected := (checks.get F.SAF.RESETS_REJECTED (by decide) (by decide) (by simp [CheckWord, F.SAF.RESETS_REJECTED])).trans sampled.rejected
  refine ⟨?_, ((State.resetEdge_words _ pins lane _ _).get F.SAF.RESETS_REJECTED (by decide) (by decide) (by decide)).trans rejected⟩
  rw [State.resetEdge_count, accepted]

/-- An output before its next state: as it was, or in FAULT; a reset request that stood stands. -/
theorem State.cycleReset_own (o : Nat) (low : o < 4) : (((s.cycleReset pins lane table).safeOut o).st = .fault ∨ ((s.cycleReset pins lane table).safeOut o).st = (s.safeOut o).st) ∧
    (s.bitAt F.SAF.SAFE_OUT_RESET_REQ o = true → (s.cycleReset pins lane table).bitAt F.SAF.SAFE_OUT_RESET_REQ o = true) := by
  obtain ⟨-, sampled⟩ := s.srstCycle_spec (pins / 2 ^ 16 % 2 == 1)
  unfold State.cycleReset
  generalize (s.srstCycle (pins / 2 ^ 16 % 2 == 1)).2 = u at sampled
  have told := Answering.resetEdge (u.cycleChecked pins lane table) pins lane (s.get F.SAF.SAFE_FAULT_CAUSE) (s.resetAccepted (pins / 2 ^ 16 % 2 == 1))
  have words := (u.cycleChecked pins lane table).resetEdge_words pins lane (s.get F.SAF.SAFE_FAULT_CAUSE) (s.resetAccepted (pins / 2 ^ 16 % 2 == 1))
  have own := u.cycleChecked_own pins lane table o low
  refine ⟨?_, fun stands => ?_⟩
  · rw [State.safeOut_of_safe (congrArg SafeSt.outs told.safe_eq)]
    rw [State.safeOut_of_safe sampled.outs] at own
    exact own
  · rw [State.bitAt_of_get _ (words.get F.SAF.SAFE_OUT_RESET_REQ (by decide) (by decide) (by decide))]
    refine (Checking.cycleChecked u pins lane table).request o low ?_
    rw [State.bitAt_of_get _ (sampled.words.get F.SAF.SAFE_OUT_RESET_REQ (by decide) (by decide) (by decide))]
    exact stands

end

end Sys2Proof.Machine
end

section
/-! PROOFS. The columns that Region S judges (R343 to R346), and the statement about Region S. -/
namespace Sys2Proof.Machine

section
variable (s : State)

/-! ### A cycle as the statement speaks of it -/

theorem pin_bit (pins : BitVec 32) (i : Nat) : (pins.toNat / 2 ^ i % 2 == 1) = pins.getLsbD i := by
  rw [BitVec.getLsbD, Nat.testBit_eq_decide_div_mod_eq]
  rfl

theorem State.resetAccepted_eq (pins : BitVec 32) : s.resetAccepted (pins.getLsbD 16) =
    decide (s.safe.srst = true ∧ pins.getLsbD 16 = false ∧ 100 * (s.safeParam 0x50 % 65536) ≤ s.safe.srstHigh ∧ s.safe.srstHigh ≤ 100 * (s.safeParam 0x50 / 65536)) := by
  rw [State.resetAccepted]
  cases s.safe.srst
  · simp
  · cases pins.getLsbD 16
    · simp
    · simp

/-- The outputs after a cycle. -/
theorem State.regionCycle_own (pins : BitVec 32) (lane table : Bool) (o : Fin 4) :
    ((((s.regionCycle pins.toNat lane table).safeOut o).st = .on ∨ ((s.regionCycle pins.toNat lane table).safeOut o).st = .wait) → (s.regionCycle pins.toNat lane table).cond o = true) ∧
    ((s.regionCycle pins.toNat lane table).safeOut o).a =
      (((s.regionCycle pins.toNat lane table).safeOut o).st == .on && ((s.regionCycle pins.toNat lane table).safeOut o).pulseA == 0) ∧
    ((s.regionCycle pins.toNat lane table).safeOut o).b =
      (((s.regionCycle pins.toNat lane table).safeOut o).st == .on && ((s.regionCycle pins.toNat lane table).safeOut o).pulseB == 0) ∧
    ((s.safeOut o).st = .fault → ((s.regionCycle pins.toNat lane table).safeOut o).st = .fault ∨ (((s.regionCycle pins.toNat lane table).safeOut o).st = .off ∧
      s.resetAccepted (pins.getLsbD 16) = true ∧ pins.getLsbD (24 + 2 * o.val) = false ∧ pins.getLsbD (25 + 2 * o.val) = false ∧
      (s.regionCycle pins.toNat lane table).bitAt F.SAF.SAFE_OUT_RESET_REQ o = true)) ∧
    ((s.safeOut o).st = .wait → ((s.regionCycle pins.toNat lane table).safeOut o).st = .on → s.resetAccepted (pins.getLsbD 16) = true) ∧
    ((s.safeOut o).st = .off → ((s.regionCycle pins.toNat lane table).safeOut o).st = .on → (s.outCfg o).testBit 1 = false ∧ s.bitAt F.SAF.SAFE_OUT_RESET_REQ o = false) := by
  have edge := pin_bit pins 16
  obtain ⟨region, -, -, -⟩ := s.cycleReset_spec pins.toNat lane table
  obtain ⟨before, request⟩ := s.cycleReset_own pins.toNat lane table o o.isLt
  have cfg : (s.cycleReset pins.toNat lane table).outCfg o = s.outCfg o := by
    rw [State.outCfg, State.outCfg, State.safeParam, State.safeParam, State.safeImg, State.safeImg, region.cfg]
  rw [s.regionCycle_outs, edge]
  generalize s.cycleReset pins.toNat lane table = u at before request cfg
  obtain ⟨cond, fault, wait, off⟩ := u.outsNext_own pins.toNat (s.resetAccepted (pins.getLsbD 16)) o o.isLt
  obtain ⟨st, a, b⟩ := (u.outsNext pins.toNat (s.resetAccepted (pins.getLsbD 16))).outsDriven_own o o.isLt
  have requested := (u.outsNext pins.toNat (s.resetAccepted (pins.getLsbD 16))).outsDriven_request o
  have conds := ((Driving.outsNext u pins.toNat (s.resetAccepted (pins.getLsbD 16))).trans (.outsDriven _)).cond_eq o
  rw [conds, requested]
  refine ⟨fun stands => ?_, a, b, fun was => ?_, fun was on => ?_, fun was on => ?_⟩
  · rw [st] at stands
    exact cond stands
  · rw [st]
    have faulted : (u.safeOut o).st = .fault := before.elim id fun same => same.trans was
    obtain stays | ⟨off, accepted, first, second, shown⟩ := fault faulted
    · exact .inl stays
    · exact .inr ⟨off, accepted, (pin_bit pins _).symm.trans first, (pin_bit pins _).symm.trans second, shown⟩
  · rw [st] at on
    rcases before with faulted | same
    · rcases fault faulted with stays | ⟨goes, -⟩
      · rw [stays] at on
        cases on
      · rw [goes] at on
        cases on
    · exact wait (same.trans was) on
  · rw [st] at on
    rcases before with faulted | same
    · rcases fault faulted with stays | ⟨goes, -⟩
      · rw [stays] at on
        cases on
      · rw [goes] at on
        cases on
    · obtain ⟨free, clear⟩ := off (same.trans was) on
      refine ⟨?_, Bool.eq_false_iff.2 fun stood => ?_⟩
      · rw [Nat.testBit_eq_decide_div_mod_eq, ← cfg]
        exact free
      · rw [request stood] at clear
        cases clear

/-! ### A column against the fields (R345) -/

/-- A field's registers, its count and its event. -/
def FieldWord (a : Nat) : Prop := a = 0x5000008 ∨ a = 0x5000100

variable (first last valid hit : Bool) (f : Nat)

/-- The state of a field after a column. -/
def State.fieldTaken (x : FieldSt) : State := { s with safe := { s.safe with fields := spSet (fun _ => FieldSt.init) s.safe.fields f x } }

/-- A column leaves a field as it was, violates it, or lets it go. -/
theorem State.fieldColumn_cases : ∃ x : FieldSt, x.run = (if hit then (spGet (fun _ => FieldSt.init) s.safe.fields f).run + 1 else 0) ∧
    if u8 s.safeImg (fieldOff f + 6) ≤ x.run then
      s.fieldColumn first last valid hit f = (if s.bitAt F.SAF.SAFE_FIELD_VIOL f then s.fieldTaken f x
        else (((s.fieldTaken f x).setBitAt F.SAF.SAFE_FIELD_VIOL f true).inc F.SAF.FIELD_TRIPS).raise EV_SAFETY_FIELD f 0)
    else s.fieldColumn first last valid hit f = s.fieldTaken f x ∨ s.fieldColumn first last valid hit f = (s.fieldTaken f x).setBitAt F.SAF.SAFE_FIELD_VIOL f false := by
  generalize run : (if hit then (spGet (fun _ => FieldSt.init) s.safe.fields f).run + 1 else 0) = n
  unfold State.fieldColumn
  dsimp only
  rw [run]
  by_cases full : u8 s.safeImg (fieldOff f + 6) ≤ n
  · refine ⟨⟨n, true, 0⟩, rfl, ?_⟩
    rw [if_pos full, decide_eq_true full, if_pos rfl, Bool.true_or]
    rfl
  · rw [decide_eq_false full, if_neg Bool.false_ne_true, Bool.false_or]
    generalize ((spGet (fun _ => FieldSt.init) s.safe.fields f).reached && !first) = reached
    generalize (if last = true then if (valid && !reached) = true then (spGet (fun _ => FieldSt.init) s.safe.fields f).clean + 1 else 0
      else (spGet (fun _ => FieldSt.init) s.safe.fields f).clean) = clean
    refine ⟨⟨n, reached, clean⟩, rfl, ?_⟩
    rw [if_neg full]
    split
    · exact .inr rfl
    · exact .inl rfl

theorem State.fieldTaken_bit (x : FieldSt) (j : Nat) : (s.fieldTaken f x).bitAt F.SAF.SAFE_FIELD_VIOL j = s.bitAt F.SAF.SAFE_FIELD_VIOL j := rfl

/-- A field that trips is violated, counted and told. -/
def State.fieldTripped (x : FieldSt) : State := (((s.fieldTaken f x).setBitAt F.SAF.SAFE_FIELD_VIOL f true).inc F.SAF.FIELD_TRIPS).raise EV_SAFETY_FIELD f 0

theorem State.fieldTripped_words (x : FieldSt) : BlockWords FieldWord s (s.fieldTripped f x) :=
  (((BlockWords.of_regs (s := s) (t := s.fieldTaken f x) rfl).trans (.set _ F.SAF.SAFE_FIELD_VIOL _ (.inl rfl))).trans (.set _ F.SAF.FIELD_TRIPS _ (.inr rfl))).trans (.raise _ _ _ _ (by decide))

theorem State.fieldTripped_bit (x : FieldSt) (j : Nat) (low : j < 16) : (s.fieldTripped f x).bitAt F.SAF.SAFE_FIELD_VIOL j = if j = f then true else s.bitAt F.SAF.SAFE_FIELD_VIOL j := by
  have told : BlockWords (fun _ => False) (((s.fieldTaken f x).setBitAt F.SAF.SAFE_FIELD_VIOL f true).inc F.SAF.FIELD_TRIPS) (s.fieldTripped f x) := .raise _ _ _ _ (by decide)
  rw [State.bitAt_of_get _ (told.get F.SAF.SAFE_FIELD_VIOL (by decide) (by decide) not_false), State.bitAt_of_get _ (State.get_inc_ne _ F.SAF.FIELD_TRIPS F.SAF.SAFE_FIELD_VIOL (by decide)),
    State.bitAt_setBitAt _ F.SAF.SAFE_FIELD_VIOL f j true rfl low]
  rfl

theorem State.fieldTripped_safe (x : FieldSt) : (s.fieldTripped f x).safe = (s.fieldTaken f x).safe := State.raise_safe _ _ _ _

/-! ### What the judging of columns leaves -/

/-- Of Region S only the fields and the frame's validity differ. -/
structure Judging (s t : State) : Prop where
  region : RegionOnly s t
  frame : t.safe = { s.safe with fields := t.safe.fields, frameOk := t.safe.frameOk }

namespace Judging

variable {s} {t u : State}

theorem refl (s : State) : Judging s s := ⟨.refl s, rfl⟩

theorem trans (first : Judging s t) (second : Judging t u) : Judging s u := by
  have frame := congrArg (fun x : SafeSt => { x with fields := u.safe.fields, frameOk := u.safe.frameOk }) first.frame
  exact ⟨first.region.trans second.region, second.frame.trans frame⟩

theorem each {α : Type} (l : List α) (g : State → α → State) (step : ∀ u a, Judging u (g u a)) (s : State) : Judging s (s.each l g) := by
  induction l generalizing s with
  | nil => exact .refl s
  | cons a l ih => exact (step s a).trans (ih _)

theorem of_answering (told : Answering s t) : Judging s t := by
  refine ⟨.of_answering told, ?_⟩
  rw [told.safe_eq]

theorem held (s : State) (fields : List (Nat × FieldSt)) (ok : Bool) : Judging s { s with safe := { s.safe with fields := fields, frameOk := ok } } := ⟨⟨rfl, rfl, rfl⟩, rfl⟩

theorem fieldTaken (x : FieldSt) : Judging s (s.fieldTaken f x) := held s _ s.safe.frameOk

theorem fieldTripped (x : FieldSt) : Judging s (s.fieldTripped f x) :=
  (fieldTaken f x).trans (.of_answering (((Answering.set _ _ _).trans (.inc _ _)).trans (.raise _ _ _ _)))

theorem fieldViolate : Judging s (s.fieldViolate f) := (held s _ s.safe.frameOk).trans (.of_answering (.set _ _ _))

theorem setInvalid (c : Nat) : Judging s (s.setInvalid c) := by
  have stored : Judging s (s.set F.SAF.SAFE_INVALID_CAUSE c) := .of_answering (.set s _ c)
  have rose (v : State) : Judging v (v.invalidRose c) :=
    (Judging.each v.fieldsOn State.fieldViolate (fun w g => .fieldViolate g) v).trans ((held v.allViolated v.allViolated.safe.fields false).trans (.of_answering (.raise _ _ _ _)))
  rw [s.setInvalid_eq]
  split
  · exact stored
  · exact stored.trans ((of_answering (.when _ (.inc _ _))).trans (rose _))

end Judging

/-- A column at a field: what it may become. -/
theorem State.fieldColumn_is : ∃ x : FieldSt, x.run = (if hit then (spGet (fun _ => FieldSt.init) s.safe.fields f).run + 1 else 0) ∧
    ((s.fieldColumn first last valid hit f = s.fieldTaken f x ∧ (u8 s.safeImg (fieldOff f + 6) ≤ x.run → s.bitAt F.SAF.SAFE_FIELD_VIOL f = true)) ∨ s.fieldColumn first last valid hit f = s.fieldTripped f x ∨
      (s.fieldColumn first last valid hit f = (s.fieldTaken f x).setBitAt F.SAF.SAFE_FIELD_VIOL f false ∧ ¬ u8 s.safeImg (fieldOff f + 6) ≤ x.run)) := by
  obtain ⟨x, run, leads⟩ := s.fieldColumn_cases first last valid hit f
  refine ⟨x, run, ?_⟩
  by_cases full : u8 s.safeImg (fieldOff f + 6) ≤ x.run
  · rw [if_pos full] at leads
    by_cases violated : s.bitAt F.SAF.SAFE_FIELD_VIOL f = true
    · rw [if_pos violated] at leads
      exact .inl ⟨leads, fun _ => violated⟩
    · rw [if_neg violated] at leads
      exact .inr (.inl leads)
  · rw [if_neg full] at leads
    exact leads.elim (fun same => .inl ⟨same, fun h => absurd h full⟩) fun free => .inr (.inr ⟨free, full⟩)

theorem State.fieldColumn_words : BlockWords FieldWord s (s.fieldColumn first last valid hit f) := by
  obtain ⟨x, -, ⟨taken, -⟩ | tripped | ⟨freed, -⟩⟩ := s.fieldColumn_is first last valid hit f
  · rw [taken]
    exact .of_regs (t := s.fieldTaken f x) rfl
  · rw [tripped]
    exact s.fieldTripped_words f x
  · rw [freed]
    exact (BlockWords.of_regs (s := s) (t := s.fieldTaken f x) rfl).trans (.set _ F.SAF.SAFE_FIELD_VIOL _ (.inl rfl))

theorem Judging.fieldColumn : Judging s (s.fieldColumn first last valid hit f) := by
  obtain ⟨x, -, ⟨taken, -⟩ | tripped | ⟨freed, -⟩⟩ := s.fieldColumn_is first last valid hit f
  · rw [taken]
    exact .fieldTaken f x
  · rw [tripped]
    exact .fieldTripped f x
  · rw [freed]
    exact (Judging.fieldTaken f x).trans (.of_answering (.set _ _ _))

theorem State.fieldColumn_other (j : Nat) (low : j < 16) (other : j ≠ f) : (s.fieldColumn first last valid hit f).bitAt F.SAF.SAFE_FIELD_VIOL j = s.bitAt F.SAF.SAFE_FIELD_VIOL j ∧
    spGet (fun _ => FieldSt.init) (s.fieldColumn first last valid hit f).safe.fields j = spGet (fun _ => FieldSt.init) s.safe.fields j := by
  have kept (x : FieldSt) : spGet (fun _ => FieldSt.init) (s.fieldTaken f x).safe.fields j = spGet (fun _ => FieldSt.init) s.safe.fields j :=
    (spGet_spSet _ _ _ _ _).trans (if_neg other)
  obtain ⟨x, -, ⟨taken, -⟩ | tripped | ⟨freed, -⟩⟩ := s.fieldColumn_is first last valid hit f
  · rw [taken]
    exact ⟨rfl, kept x⟩
  · rw [tripped, s.fieldTripped_bit f x j low, if_neg other, s.fieldTripped_safe]
    exact ⟨rfl, kept x⟩
  · rw [freed, State.bitAt_setBitAt _ F.SAF.SAFE_FIELD_VIOL f j false rfl low, if_neg other]
    exact ⟨rfl, kept x⟩

/-- A field that is hit often enough is violated. -/
theorem State.fieldColumn_full (low : f < 16) (hits : hit = true) (enough : u8 s.safeImg (fieldOff f + 6) ≤ (spGet (fun _ => FieldSt.init) s.safe.fields f).run + 1) :
    (s.fieldColumn first last valid hit f).bitAt F.SAF.SAFE_FIELD_VIOL f = true := by
  obtain ⟨x, run, ⟨taken, full⟩ | tripped | ⟨-, few⟩⟩ := s.fieldColumn_is first last valid hit f
  · rw [taken]
    exact full (by rw [run, if_pos hits]; exact enough)
  · rw [tripped, s.fieldTripped_bit f x f low, if_pos rfl]
  · exact absurd (by rw [run, if_pos hits]; exact enough) few

end

end Sys2Proof.Machine
end

section
/-! PROOFS. A column's judgement as a whole (R343 to R346), and the statement about Region S. -/
namespace Sys2Proof.Machine

section
variable (s : State) (k : ColInfo)

/-! ### The judgement of a column -/

/-- A column is marked as judged. -/
def State.columnSeen : State := s.onCol k.c (fun k => { k with judged := true })

/-- Whether a column is missing before this one. -/
def State.columnGap : Bool :=
  match s.safe.prev with
  | some p => k.c != p + 1
  | none => false

/-- The causes of invalid ranging after a column. -/
def State.columnCauses : Nat := s.get F.SAF.SAFE_INVALID_CAUSE &&& (255 - 112) ||| 32 * bit (s.columnGap k) ||| 64 * bit (s.angleCell k).isNone

/-- A column is counted. -/
def State.columnCounted (valid : Bool) : State := ({ s with safe := { s.safe with prev := some k.c, frameOk := valid, evals := s.safe.evals + 1 } } : State).inc F.SAF.COLS_EVAL

/-- Whether a column hits a field in an angle cell, if it lies in one. -/
def State.hitsIn (cell : Option Nat) (f : Nat) : Bool :=
  match cell with
  | some n => s.columnHits f n k
  | none => false

/-- The enabled fields take a column. -/
def State.fieldsJudged (cell : Option Nat) (first valid : Bool) : State := s.each s.fieldsOn (fun v f => v.fieldColumn first (k.c % v.nCol + 1 == v.nCol) valid (v.hitsIn k cell f) f)

/-- The state in which the fields take a column. -/
def State.columnTaken (valid : Bool) : State := ((s.columnSeen k).setInvalid (s.columnCauses k)).columnCounted k valid

variable {k}

theorem State.safetyColumn_none (none_ : s.ps.cols.all (fun k => k.judged || !(s.partsMissing k).isEmpty) = true) : s.safetyColumn = s := by
  have found : s.ps.cols.find? (fun k => !k.judged && (s.partsMissing k).isEmpty) = none := by
    refine List.find?_eq_none.2 fun k mem open_ => ?_
    have closed := List.all_eq_true.1 none_ k mem
    rw [Bool.and_eq_true, Bool.not_eq_true'] at open_
    rw [open_.1, open_.2] at closed
    cases closed
  unfold State.safetyColumn
  rw [found]

theorem State.safetyColumn_unbuilt (found : s.ps.cols.find? (fun k => !k.judged && (s.partsMissing k).isEmpty) = some k) (unbuilt : s.safe.built = false) : s.safetyColumn = s.columnSeen k := by
  unfold State.safetyColumn
  rw [found]
  dsimp only
  rw [unbuilt]
  rfl

/-- Whether ranging is valid after a column, in the state with its causes. -/
def State.columnValid (first : Bool) : Bool := s.get F.SAF.SAFE_INVALID_CAUSE == 0 && (s.safe.frameOk || first)

theorem RegionOnly.nCol_eq {t u : State} (h : RegionOnly t u) : u.nCol = t.nCol := by
  have scan : u.scan = t.scan := by rw [h.parts]
  rw [State.nCol, State.nCol, scan]

theorem State.safetyColumn_built (found : s.ps.cols.find? (fun k => !k.judged && (s.partsMissing k).isEmpty) = some k) (built : s.safe.built = true) :
    s.safetyColumn = (s.columnTaken k (((s.columnSeen k).setInvalid (s.columnCauses k)).columnValid (k.c % s.nCol == 0))).fieldsJudged k (s.angleCell k) (k.c % s.nCol == 0)
      (((s.columnSeen k).setInvalid (s.columnCauses k)).columnValid (k.c % s.nCol == 0)) := by
  unfold State.safetyColumn
  rw [found]
  refine (if_neg (by rw [built]; decide)).trans ?_
  extract_lets seen gap cell old invalid first ok valid held taken counted
  have told : invalid = (s.columnSeen k).setInvalid (s.columnCauses k) := rfl
  have columns : invalid.nCol = s.nCol := (Judging.setInvalid (s := s.columnSeen k) (s.columnCauses k)).region.nCol_eq
  rw [State.columnTaken, ← told, ← columns]
  clear_value invalid
  rfl

variable (k) (valid : Bool)

theorem State.columnCauses_lt : s.columnCauses k < 256 := by
  have low (x n : Nat) (small : n ≤ 64) (b : Bool) : n * bit b < 2 ^ 8 := by
    cases b
    · exact Nat.pos_of_ne_zero (by decide)
    · simp [bit]
      omega
  exact Nat.or_lt_two_pow (n := 8) (Nat.or_lt_two_pow (Nat.lt_of_le_of_lt Nat.and_le_right (by decide)) (low 0 32 (by decide) _)) (low 0 64 (by decide) _)

/-- The causes as the statement writes them. -/
theorem State.columnCauses_eq : s.columnCauses k =
    (s.get F.SAF.SAFE_INVALID_CAUSE &&& 0x8F) ||| (if ∃ p, s.safe.prev = some p ∧ k.c ≠ p + 1 then 32 else 0) ||| (if s.angleCell k = none then 64 else 0) := by
  have gap : 32 * bit (s.columnGap k) = if ∃ p, s.safe.prev = some p ∧ k.c ≠ p + 1 then 32 else 0 := by
    unfold State.columnGap
    cases prev : s.safe.prev with
    | none => simp [bit]
    | some p =>
      by_cases next : k.c = p + 1
      · simp [bit, next]
      · simp [bit, next]
  have cell : 64 * bit (s.angleCell k).isNone = if s.angleCell k = none then 64 else 0 := by
    cases s.angleCell k
    all_goals simp [bit]
  rw [State.columnCauses, gap, cell]

/-- What the judgement of a column touches before the fields take it. -/
def ColumnWord (a : Nat) : Prop := RangingWord a ∨ a = 0x500011C

theorem State.columnTaken_words : BlockWords ColumnWord s (s.columnTaken k valid) := by
  have seen : BlockWords ColumnWord s (s.columnSeen k) := .of_regs (t := s.columnSeen k) rfl
  have counted (u : State) : BlockWords ColumnWord u (u.columnCounted k valid) :=
    (BlockWords.of_regs (s := u) (t := { u with safe := { u.safe with prev := some k.c, frameOk := valid, evals := u.safe.evals + 1 } }) rfl).trans (.set _ F.SAF.COLS_EVAL _ (.inr rfl))
  exact (seen.trans ((State.setInvalid_words _ _).mono fun _ => .inl)).trans (counted _)

theorem State.columnTaken_counts : (s.columnTaken k valid).get F.SAF.COLS_EVAL = min (s.get F.SAF.COLS_EVAL + 1) (2 ^ 32 - 1) ∧
    (s.columnTaken k valid).get F.SAF.SAFE_INVALID_CAUSE = s.columnCauses k ∧ (s.columnTaken k valid).safe.prev = some k.c ∧ (s.columnTaken k valid).safe.evals = s.safe.evals + 1 := by
  have invalid := Judging.setInvalid (s := s.columnSeen k) (s.columnCauses k)
  have count : ((s.columnSeen k).setInvalid (s.columnCauses k)).get F.SAF.COLS_EVAL = s.get F.SAF.COLS_EVAL :=
    (State.setInvalid_words (s.columnSeen k) (s.columnCauses k)).get F.SAF.COLS_EVAL (by decide) (by decide) (by simp [RangingWord, F.SAF.COLS_EVAL])
  have causes := (s.columnSeen k).setInvalid_cause (s.columnCauses k) (s.columnCauses_lt k)
  have evals : ((s.columnSeen k).setInvalid (s.columnCauses k)).safe.evals = s.safe.evals := (congrArg SafeSt.evals invalid.frame).trans rfl
  unfold State.columnTaken
  generalize (s.columnSeen k).setInvalid (s.columnCauses k) = u at count causes evals
  refine ⟨State.get_inc_of_eq (s := s) F.SAF.COLS_EVAL rfl count, (State.get_inc_ne { u with safe := { u.safe with prev := some k.c, frameOk := valid, evals := u.safe.evals + 1 } } F.SAF.COLS_EVAL
    F.SAF.SAFE_INVALID_CAUSE (by decide)).trans causes, rfl, ?_⟩
  rw [← evals]
  rfl

theorem State.columnTaken_region : RegionOnly (s.columnSeen k) (s.columnTaken k valid) ∧ (s.columnTaken k valid).safe.els = s.safe.els ∧ (s.columnTaken k valid).safe.geomOk = s.safe.geomOk := by
  have invalid := Judging.setInvalid (s := s.columnSeen k) (s.columnCauses k)
  have els : ((s.columnSeen k).setInvalid (s.columnCauses k)).safe.els = s.safe.els := (congrArg SafeSt.els invalid.frame).trans rfl
  have geom : ((s.columnSeen k).setInvalid (s.columnCauses k)).safe.geomOk = s.safe.geomOk := (congrArg SafeSt.geomOk invalid.frame).trans rfl
  have counted (u : State) : RegionOnly u (u.columnCounted k valid) := ⟨rfl, rfl, rfl⟩
  unfold State.columnTaken
  generalize (s.columnSeen k).setInvalid (s.columnCauses k) = u at invalid els geom
  exact ⟨invalid.region.trans (counted u), els, geom⟩

theorem State.fieldOn_congr {t u : State} (cfg : u.safe.cfg = t.safe.cfg) (geom : u.safe.geomOk = t.safe.geomOk) (f : Nat) : u.fieldOn f = t.fieldOn f := by
  rw [State.fieldOn, State.fieldOn, State.safeConf, State.safeConf, State.safeImg, State.safeImg, cfg, geom]

/-- A field's part of a column depends on the image, its limits and the regions' dirt alone. -/
theorem State.columnHits_congr {t u : State} (cfg : u.safe.cfg = t.safe.cfg) (els : u.safe.els = t.safe.els)
    (dirty : ∀ g < 4, u.flag (F.PE.PE_STAT_DIRTY g) = t.flag (F.PE.PE_STAT_DIRTY g)) (f n : Nat) (k : ColInfo) : u.columnHits f n k = t.columnHits f n k := by
  have img : u.safeImg = t.safeImg := by rw [State.safeImg, State.safeImg, cfg]
  have limit (m : Nat) : u.limit f n m = t.limit f n m := by rw [State.limit, State.limit, img, els]
  have code (o : RowOut) : u.safeCode o = t.safeCode o := by rw [State.safeCode, State.safeCode, dirty _ (by rw [rowRegion]; omega)]
  have hits (l : Nat) (o : RowOut) : u.rowHits l o = t.rowHits l o := by rw [State.rowHits, State.rowHits, code, State.safeParam, State.safeParam, img]
  simp only [State.columnHits, img, limit, hits]

theorem dirty_of_words {own : Nat → Prop} {t u : State} (words : BlockWords own t u) (away : ∀ a < 0x100000, ¬ own a) (g : Nat) (low : g < 4) :
    u.flag (F.PE.PE_STAT_DIRTY g) = t.flag (F.PE.PE_STAT_DIRTY g) :=
  words.flag _ (by simp only [F.PE.PE_STAT_DIRTY]; omega) (by simp only [F.PE.PE_STAT_DIRTY]; omega) (away _ (by simp only [F.PE.PE_STAT_DIRTY]; omega))

/-! ### The fields take a column -/

variable {s} (cell : Option Nat) (first : Bool)

theorem Judging.fieldsJudged : Judging s (s.fieldsJudged k cell first valid) := .each _ _ (fun _ f => .fieldColumn _ first _ valid _ f) s

theorem State.fieldsJudged_words : BlockWords FieldWord s (s.fieldsJudged k cell first valid) := .each _ _ (fun u f _ => u.fieldColumn_words first _ valid _ f) s

theorem State.fieldsJudged_off (f : Fin 16) (off : s.fieldOn f = false) : (s.fieldsJudged k cell first valid).bitAt F.SAF.SAFE_FIELD_VIOL f = s.bitAt F.SAF.SAFE_FIELD_VIOL f := by
  have absent : f.val ∉ s.fieldsOn := fun listed => by
    rw [(s.mem_fieldsOn f).1 listed] at off
    cases off
  unfold State.fieldsJudged
  generalize s.fieldsOn = l at absent
  clear off
  induction l generalizing s with
  | nil => rfl
  | cons a l ih =>
    rw [List.mem_cons, not_or] at absent
    obtain ⟨here, later⟩ := absent
    exact (ih later).trans (s.fieldColumn_other first _ valid _ a f f.isLt here).1

/-- What a field's part of a column depends on, and what it shows. -/
def State.fieldView (f n : Nat) (u : State) : Bool × Bool × List Byte × FieldSt :=
  (u.bitAt F.SAF.SAFE_FIELD_VIOL f, u.columnHits f n k, u.safeImg, spGet (fun _ => FieldSt.init) u.safe.fields f)

theorem State.fieldsJudged_on (f : Fin 16) (n : Nat) (on : s.fieldOn f = true) (hits : s.columnHits f n k = true)
    (enough : u8 s.safeImg (fieldOff f + 6) ≤ (spGet (fun _ => FieldSt.init) s.safe.fields f).run + 1) : (s.fieldsJudged k (some n) first valid).bitAt F.SAF.SAFE_FIELD_VIOL f = true := by
  have distinct : s.fieldsOn.Nodup := List.Nodup.filter _ List.nodup_range
  obtain ⟨u, before, after⟩ := State.each_own (State.fieldView k f n) s.fieldsOn distinct (fun (v : State) (g : Nat) => v.fieldColumn first (k.c % v.nCol + 1 == v.nCol) valid (v.hitsIn k (some n) g) g) f ((s.mem_fieldsOn f).2 on)
    (fun v b other => by
      obtain ⟨bit, field⟩ := v.fieldColumn_other first (k.c % v.nCol + 1 == v.nCol) valid (v.hitsIn k (some n) b) b f f.isLt (Ne.symm other)
      have judged := Judging.fieldColumn (s := v) first (k.c % v.nCol + 1 == v.nCol) valid (v.hitsIn k (some n) b) b
      have same := State.columnHits_congr judged.region.cfg ((congrArg SafeSt.els judged.frame).trans rfl)
        (dirty_of_words (v.fieldColumn_words first (k.c % v.nCol + 1 == v.nCol) valid (v.hitsIn k (some n) b) b) (fun a low => by simp only [FieldWord]; omega)) f n k
      rw [State.fieldView, bit, field, same, State.safeImg, judged.region.cfg]
      rfl) s
  simp only [State.fieldView, Prod.mk.injEq] at before after
  obtain ⟨-, same, img, field⟩ := before
  exact after.1.trans (u.fieldColumn_full first _ valid _ f f.isLt (same.trans hits) (by rw [img, field]; exact enough))

/-! ### The violations before the fields take a column -/

theorem State.setInvalid_off (c : Nat) (f : Fin 16) (off : s.fieldOn f = false) : (s.setInvalid c).bitAt F.SAF.SAFE_FIELD_VIOL f = s.bitAt F.SAF.SAFE_FIELD_VIOL f := by
  have stored : (s.set F.SAF.SAFE_INVALID_CAUSE c).bitAt F.SAF.SAFE_FIELD_VIOL f = s.bitAt F.SAF.SAFE_FIELD_VIOL f :=
    State.bitAt_of_get _ (s.get_set_addr F.SAF.SAFE_INVALID_CAUSE F.SAF.SAFE_FIELD_VIOL c (by decide)) f
  rw [s.setInvalid_eq]
  split
  · exact stored
  · have absent : f.val ∉ ((s.set F.SAF.SAFE_INVALID_CAUSE c).when (s.get F.SAF.SAFE_INVALID_CAUSE == 0) (fun s => s.inc F.SAF.INVALID_EPISODES)).fieldsOn := fun listed => by
      rw [s.episodeCounted_fieldsOn] at listed
      rw [(s.mem_fieldsOn f).1 listed] at off
      cases off
    rw [State.invalidRose_bit, State.allViolated_kept _ f f.isLt absent,
      State.bitAt_of_get _ ((State.episodeCounted_words _ _).get F.SAF.SAFE_FIELD_VIOL (by decide) (by decide) (by decide))]
    exact stored

theorem State.setInvalid_run (c f : Nat) : (spGet (fun _ => FieldSt.init) (s.setInvalid c).safe.fields f).run = (spGet (fun _ => FieldSt.init) s.safe.fields f).run := by
  have violated (u : State) : (spGet (fun _ => FieldSt.init) u.allViolated.safe.fields f).run = (spGet (fun _ => FieldSt.init) u.safe.fields f).run := by
    refine State.each_keeps (fun v => (spGet (fun _ => FieldSt.init) v.safe.fields f).run) u.fieldsOn State.fieldViolate (fun v g => ?_) u
    have stored : spGet (fun _ => FieldSt.init) (v.fieldViolate g).safe.fields f =
        if f = g then { spGet (fun _ => FieldSt.init) v.safe.fields g with clean := 0 } else spGet (fun _ => FieldSt.init) v.safe.fields f := spGet_spSet _ _ _ _ _
    rw [stored]
    by_cases same : f = g
    · rw [if_pos same, same]
    · rw [if_neg same]
  rw [s.setInvalid_eq]
  split
  · rfl
  · rw [State.invalidRose_safe]
    refine (violated _).trans ?_
    exact State.when_field (fun v => (spGet (fun _ => FieldSt.init) v.safe.fields f).run) _ (fun s => s.inc F.SAF.INVALID_EPISODES) (fun _ => rfl) _

variable (s)

theorem State.columnCounted_bit (u : State) (f : Nat) : (u.columnCounted k valid).bitAt F.SAF.SAFE_FIELD_VIOL f = u.bitAt F.SAF.SAFE_FIELD_VIOL f :=
  State.bitAt_of_get (s := u) _ (State.get_inc_ne { u with safe := { u.safe with prev := some k.c, frameOk := valid, evals := u.safe.evals + 1 } } F.SAF.COLS_EVAL F.SAF.SAFE_FIELD_VIOL (by decide)) f

theorem State.columnTaken_off (f : Fin 16) (off : s.fieldOn f = false) : (s.columnTaken k valid).bitAt F.SAF.SAFE_FIELD_VIOL f = s.bitAt F.SAF.SAFE_FIELD_VIOL f :=
  (State.columnCounted_bit k valid _ f).trans (State.setInvalid_off (s := s.columnSeen k) _ f off)

theorem State.columnTaken_run (f : Nat) : (spGet (fun _ => FieldSt.init) (s.columnTaken k valid).safe.fields f).run = (spGet (fun _ => FieldSt.init) s.safe.fields f).run :=
  State.setInvalid_run (s := s.columnSeen k) (s.columnCauses k) f

/-! ### A cycle, a test pulse and a column as a whole -/

/-- A cycle apart from the outputs. -/
theorem State.regionCycle_rest (pins : BitVec 32) (lane table : Bool) :
    RegionOnly s (s.regionCycle pins.toNat lane table) ∧ (lane = true → (s.regionCycle pins.toNat lane table).bitAt F.SAF.SAFE_FAULT_CAUSE 6 = true) ∧
    (table = true → s.safe.built = true → (s.regionCycle pins.toNat lane table).bitAt F.SAF.SAFE_FAULT_CAUSE 8 = true) ∧
    (s.regionCycle pins.toNat lane table).safe.srst = pins.getLsbD 16 ∧
    (s.regionCycle pins.toNat lane table).get F.SAF.RESETS_ACCEPTED =
      (if s.resetAccepted (pins.getLsbD 16) then min (s.get F.SAF.RESETS_ACCEPTED + 1) (2 ^ 32 - 1) else s.get F.SAF.RESETS_ACCEPTED) ∧
    (s.regionCycle pins.toNat lane table).get F.SAF.RESETS_REJECTED =
      (if s.safe.srst = true ∧ pins.getLsbD 16 = false ∧ s.resetAccepted (pins.getLsbD 16) = false then min (s.get F.SAF.RESETS_REJECTED + 1) (2 ^ 32 - 1)
        else s.get F.SAF.RESETS_REJECTED) := by
  obtain ⟨region, srst, differ, wrong⟩ := s.cycleReset_spec pins.toNat lane table
  obtain ⟨accepted, rejected⟩ := s.cycleReset_counts pins.toNat lane table
  rw [s.regionCycle_outs]
  rw [pin_bit pins 16] at srst accepted rejected ⊢
  generalize s.cycleReset pins.toNat lane table = u at region srst differ wrong accepted rejected
  have drives := (Driving.outsNext u pins.toNat (s.resetAccepted (pins.getLsbD 16))).trans (.outsDriven _)
  have cause := drives.words.get F.SAF.SAFE_FAULT_CAUSE (by decide) (by decide) (by decide)
  exact ⟨region.trans drives.region, fun h => (State.bitAt_of_get _ cause 6).trans (differ h), fun h built => (State.bitAt_of_get _ cause 8).trans (wrong h built),
    ((congrArg SafeSt.srst drives.outs).trans rfl).trans srst, (drives.words.get F.SAF.RESETS_ACCEPTED (by decide) (by decide) (by decide)).trans accepted,
    (drives.words.get F.SAF.RESETS_REJECTED (by decide) (by decide) (by decide)).trans rejected⟩

/-- A test pulse that begins drives its channel alone low. -/
theorem State.pulse_begun (o : Fin 4) (chB : Bool) (n : Nat) (on : (s.safeOut o).st = .on) :
    s.setSafeOut o ((s.safeOut o).pulsed chB n) = { s with safe := { s.safe with outs := (s.setSafeOut o ((s.safeOut o).pulsed chB n)).safe.outs } } ∧
    (∀ j : Fin 4, j ≠ o → (s.setSafeOut o ((s.safeOut o).pulsed chB n)).safeOut j = s.safeOut j) ∧ ((s.setSafeOut o ((s.safeOut o).pulsed chB n)).safeOut o).st = .on ∧
    (if chB then ((s.setSafeOut o ((s.safeOut o).pulsed chB n)).safeOut o).b = false ∧ ((s.setSafeOut o ((s.safeOut o).pulsed chB n)).safeOut o).a = (s.safeOut o).a ∧
        ((s.setSafeOut o ((s.safeOut o).pulsed chB n)).safeOut o).pulseB = n
      else ((s.setSafeOut o ((s.safeOut o).pulsed chB n)).safeOut o).a = false ∧ ((s.setSafeOut o ((s.safeOut o).pulsed chB n)).safeOut o).b = (s.safeOut o).b ∧
        ((s.setSafeOut o ((s.safeOut o).pulsed chB n)).safeOut o).pulseA = n) := by
  have own := (s.safeOut_setSafeOut o o ((s.safeOut o).pulsed chB n)).trans (if_pos rfl)
  refine ⟨rfl, fun j other => (s.safeOut_setSafeOut o j _).trans (if_neg fun same => other (Fin.ext same)), ?_⟩
  rw [own]
  cases chB
  · exact ⟨on, rfl, rfl, rfl⟩
  · exact ⟨on, rfl, rfl, rfl⟩

/-- A column that is judged, in a state with its limits built. -/
theorem State.column_judged (first : Bool) : (((s.columnTaken k valid).fieldsJudged k (s.angleCell k) first valid).safe.prev = some k.c ∧
    ((s.columnTaken k valid).fieldsJudged k (s.angleCell k) first valid).safe.evals = s.safe.evals + 1 ∧
    ((s.columnTaken k valid).fieldsJudged k (s.angleCell k) first valid).get F.SAF.COLS_EVAL = min (s.get F.SAF.COLS_EVAL + 1) (2 ^ 32 - 1) ∧
    ((s.columnTaken k valid).fieldsJudged k (s.angleCell k) first valid).get F.SAF.SAFE_INVALID_CAUSE = s.columnCauses k ∧
    SameMem s ((s.columnTaken k valid).fieldsJudged k (s.angleCell k) first valid)) := by
  obtain ⟨count, causes, prev, evals⟩ := s.columnTaken_counts k valid
  obtain ⟨region, -, -⟩ := s.columnTaken_region k valid
  have judged := Judging.fieldsJudged (s := s.columnTaken k valid) k valid (s.angleCell k) first
  have words := State.fieldsJudged_words (s := s.columnTaken k valid) k valid (s.angleCell k) first
  generalize s.columnTaken k valid = u at count causes prev evals region judged words
  exact ⟨((congrArg SafeSt.prev judged.frame).trans rfl).trans prev, ((congrArg SafeSt.evals judged.frame).trans rfl).trans evals,
    (words.get F.SAF.COLS_EVAL (by decide) (by decide) (by simp [FieldWord, F.SAF.COLS_EVAL])).trans count,
    (words.get F.SAF.SAFE_INVALID_CAUSE (by decide) (by decide) (by simp [FieldWord, F.SAF.SAFE_INVALID_CAUSE])).trans causes,
    RegionOnly.sameMem (s := s.columnSeen k) (region.trans judged.region)⟩

theorem State.columnTaken_fieldOn (f : Nat) : (s.columnTaken k valid).fieldOn f = s.fieldOn f := by
  obtain ⟨region, -, geom⟩ := s.columnTaken_region k valid
  exact State.fieldOn_congr (t := s) (region.cfg.trans rfl) geom f

theorem State.column_off (first : Bool) (f : Fin 16) (off : s.fieldOn f = false) :
    ((s.columnTaken k valid).fieldsJudged k (s.angleCell k) first valid).bitAt F.SAF.SAFE_FIELD_VIOL f = s.bitAt F.SAF.SAFE_FIELD_VIOL f :=
  (State.fieldsJudged_off k valid (s.angleCell k) first f ((s.columnTaken_fieldOn k valid f).trans off)).trans (s.columnTaken_off k valid f off)

theorem State.column_on (first : Bool) (f : Fin 16) (on : s.fieldOn f = true) (n : Nat) (cell : s.angleCell k = some n) (hits : s.columnHits f n k = true)
    (enough : u8 s.safeImg (fieldOff f + 6) ≤ (spGet (fun _ => FieldSt.init) s.safe.fields f).run + 1) :
    ((s.columnTaken k valid).fieldsJudged k (s.angleCell k) first valid).bitAt F.SAF.SAFE_FIELD_VIOL f = true := by
  obtain ⟨region, els, -⟩ := s.columnTaken_region k valid
  have cfg : (s.columnTaken k valid).safe.cfg = s.safe.cfg := region.cfg.trans rfl
  have same := State.columnHits_congr (t := s) cfg els
    (dirty_of_words (s.columnTaken_words k valid) (fun a low => by simp only [ColumnWord, RangingWord]; omega)) f n k
  rw [cell]
  refine State.fieldsJudged_on k valid first f n ((s.columnTaken_fieldOn k valid f).trans on) (same.trans hits) ?_
  rw [s.columnTaken_run k valid f, State.safeImg, cfg]
  exact enough

end

/-- Settles O53. After the checks of a cycle an output takes its next state from its condition then, and neither another output's step nor the driving of the channels touches what that condition reads. -/
theorem safetyOutputs : Obligations.SafetyOutputs := by
  unfold Obligations.SafetyOutputs
  refine ⟨fun pins lane table => .of_effect (fun _ => rfl) fun s _ => ?cycle, fun t x => ⟨inputNext_run t, inputNext_levels t x, inputNext_fault t, inputNext_disagrees t, inputNext_lasts t⟩,
    fun cfg n level sample => filterStep_changes cfg n level sample,
    fun o chB => ⟨.of_effect (fun _ => rfl) fun s not => State.testPulse_not not, .of_effect (fun _ => rfl) fun s ⟨on, idle, pending⟩ => State.testPulse_skipped on idle pending,
      .of_effect (fun _ => rfl) fun s ⟨on, idle, free⟩ => ?pulse⟩,
    .of_effect (fun _ => rfl) fun s scans => s.columnTimeout_scanning scans, .of_effect (fun _ => rfl) fun s still => s.columnTimeout_still still,
    fun i => ⟨fun low => ⟨.of_effect (fun _ => rfl) fun s stands => (s.invalidCause_state i low).trans (if_pos stands),
        .of_effect (fun _ => rfl) fun s absent => (s.invalidCause_state i low).trans (if_neg (by rw [absent]; exact Bool.false_ne_true))⟩,
      fun h => .of_effect (fun _ => rfl) fun s _ => s.invalidCause_five_six i h, fun high => .of_effect (fun _ => rfl) fun s still => s.invalidCause_still i high still⟩,
    fun s c value => s.setInvalid_spec c value, .of_effect (fun _ => rfl) fun s none_ => s.safetyColumn_none none_,
    fun k => .of_effect (fun _ => rfl) fun s ⟨found, unbuilt⟩ => s.safetyColumn_unbuilt found unbuilt, fun k => .of_effect (fun _ => rfl) fun s ⟨found, built⟩ => ?column,
    .of_effect (fun _ => rfl) fun s _ => s.safetyRecord_spec⟩
  case cycle =>
    obtain ⟨region, differ, wrong, srst, accepted, rejected⟩ := s.regionCycle_rest pins lane table
    have own := s.regionCycle_own pins lane table
    rw [s.resetAccepted_eq pins] at accepted rejected own
    have rest : (s.regionCycle pins.toNat lane table).shot = s.shot ∧ (s.regionCycle pins.toNat lane table).pw = s.pw := by
      rw [region.parts]
      exact ⟨rfl, rfl⟩
    exact ⟨region.sameMem, rest.1, rest.2, region.cfg, region.built, differ, wrong, srst, accepted, rejected, own⟩
  case pulse =>
    rw [State.testPulse_begins on idle free]
    exact s.pulse_begun o chB _ on
  case column =>
    rw [s.safetyColumn_built found built]
    generalize ((s.columnSeen k).setInvalid (s.columnCauses k)).columnValid (k.c % s.nCol == 0) = valid
    obtain ⟨prev, evals, count, causes, mem⟩ := s.column_judged k valid (k.c % s.nCol == 0)
    exact ⟨prev, evals, count, causes.trans (s.columnCauses_eq k), fun f off => s.column_off k valid _ f off,
      fun f on n cell hits enough => s.column_on k valid _ f on n cell hits enough, mem⟩

end Sys2Proof.Machine
end

section
/-! PROOFS. Camera frames (R247 to R251): what the parts of the pipeline leave as it is, and the opening of a frame. -/
namespace Sys2Proof.Machine

/-! ### Steps beside the cameras -/

/-- A step of the pipeline that leaves the cameras, the frames in hand and the pipeline's owner, and all words but those that are `own`. -/
structure Aside (own : Nat → Prop) (s t : State) : Prop where
  cams : t.vis.cams = s.vis.cams
  jobs : t.vis.jobs = s.vis.jobs
  cur : t.vis.cur = s.vis.cur
  words : BlockWords own s t

/-- The words behind those of the camera inputs. -/
def PipeSide (a : Nat) : Prop := 0x3001000 ≤ a

namespace Aside
variable {own : Nat → Prop} {s t u : State}

theorem refl (s : State) : Aside own s s := ⟨rfl, rfl, rfl, .refl s⟩

theorem trans (first : Aside own s t) (second : Aside own t u) : Aside own s u :=
  ⟨second.cams.trans first.cams, second.jobs.trans first.jobs, second.cur.trans first.cur, first.words.trans second.words⟩

theorem mono {own' : Nat → Prop} (sub : ∀ a, own a → own' a) (h : Aside own s t) : Aside own' s t := ⟨h.cams, h.jobs, h.cur, h.words.mono sub⟩

theorem set (s : State) (f : Fld) (x : Nat) (mine : own f.addr) : Aside own s (s.set f x) := ⟨rfl, rfl, rfl, .set s f x mine⟩

theorem of_mapping (h : Mapping s t) : Aside PipeSide s t := by
  refine ⟨(congrArg (fun x => x.vis.cams) h.1).trans rfl, (congrArg (fun x => x.vis.jobs) h.1).trans rfl, (congrArg (fun x => x.vis.cur) h.1).trans rfl, h.2.mono fun a mine => ?_⟩
  unfold PipeSide
  rcases mine with ⟨low, -⟩ | same | same <;> omega

theorem raise (s : State) (n i d : Nat) (known : n < 256) : Aside own s (s.raise n i d) := by
  have vis : (s.raise n i d).vis = s.vis := (congrArg State.vis (Answering.raise s n i d)).trans rfl
  exact ⟨congrArg VisionSt.cams vis, congrArg VisionSt.jobs vis, congrArg VisionSt.cur vis, .raise s n i d known⟩

theorem when (b : Bool) {f : State → State} (h : ∀ u, Aside own u (f u)) (s : State) : Aside own s (s.when b f) := by
  cases b
  · exact .refl s
  · exact h s

theorem each {α : Type} (l : List α) (f : State → α → State) (step : ∀ u, ∀ a ∈ l, Aside own u (f u a)) (s : State) : Aside own s (s.each l f) := by
  induction l generalizing s with
  | nil => exact .refl s
  | cons a l ih => exact (step s a List.mem_cons_self).trans (ih (fun u b mem => step u b (List.mem_cons_of_mem _ mem)) _)

theorem memUse (s : State) (cls src bytes : Nat) (class_ : cls ≠ 5) : Aside own s (s.memUse cls src bytes) := by
  rw [s.memUse_mem cls src bytes class_]
  exact ⟨rfl, rfl, rfl, .of_regs rfl⟩

theorem dramPut (s : State) (a : Nat) (bs : List Byte) : Aside own s (s.dramPut a bs) := by
  unfold State.dramPut
  split
  · exact ⟨rfl, rfl, rfl, .of_regs rfl⟩
  · exact .refl s

theorem cam_eq (h : Aside own s t) (n : Nat) : t.cam n = s.cam n := by rw [State.cam, h.cams]; rfl

end Aside

section
variable (s : State)

theorem State.cam_setCam (n m : Nat) (x : CamSt) : (s.setCam n x).cam m = if m = n then x else s.cam m := spGet_spSet _ _ _ _ _

/-! ### Depth maps open and close -/

theorem State.closeMap_aside (m : DMap) (stale : Bool) : Aside PipeSide s (s.closeMap m stale) := by
  have gone : Aside PipeSide s (s.unmapped m) := ⟨rfl, rfl, rfl, .of_regs rfl⟩
  cases stale
  · exact gone.trans (.of_mapping ((s.unmapped m).mapLeaves_mapping m))
  · have told : Aside PipeSide (s.unmapped m) (((s.unmapped m).inc F.FUS.MAPS_STALE).raise EV_FUSION_STALE m.cam 0) :=
      (Aside.set (own := PipeSide) (s.unmapped m) F.FUS.MAPS_STALE _ (by unfold PipeSide; decide)).trans (.raise _ _ _ _ (by decide))
    exact (gone.trans told).trans (.of_mapping (State.mapLeaves_mapping _ m))

/-- Zone `z` when a column enters a map. -/
def State.zoneRise (m : DMap) (z : Nat) : State :=
  if decide (s.get (F.FUS.ZONE_CFG_MIN z) ≤ spGet (fun _ => 0) m.zones z) && s.zoneOn m.cam z && !s.bitAt F.FUS.ZONE_ACT_ACT (8 * m.cam + z) then
    (s.setBitAt F.FUS.ZONE_ACT_ACT (8 * m.cam + z) true).raise EV_FUSION_WARNING m.cam z
  else s

theorem State.zonesRise_eq (m : DMap) : s.zonesRise m = s.each (List.range 8) (fun s z => s.zoneRise m z) := rfl

theorem State.zonesRise_aside (m : DMap) : Aside PipeSide s (s.zonesRise m) := by
  rw [State.zonesRise_eq]
  refine .each _ _ (fun u z _ => ?_) s
  unfold State.zoneRise
  split
  · exact (Aside.set (own := PipeSide) u F.FUS.ZONE_ACT_ACT _ (by unfold PipeSide; decide)).trans (.raise _ _ _ _ (by decide))
  · exact .refl u

/-- A camera with two open maps closes the first. -/
def State.roomForMap (n : Nat) : State :=
  match s.vis.maps.filter (fun m => m.cam == n) with
  | m :: _ :: _ => s.closeMap m true
  | _ => s

/-- A map is open. -/
def State.mapOpened (m : DMap) : State := { s with vis := { s.vis with maps := s.vis.maps ++ [m] } }

theorem State.openMap_cases (n frame : Nat) (time : BitVec 64) : s.openMap n frame time = s ∨ ∃ m, s.openMap n frame time = ((s.roomForMap n).mapOpened m).zonesRise m := by
  unfold State.openMap
  split
  · exact .inr ⟨_, rfl⟩
  · exact .inl rfl

theorem State.openMap_aside (n frame : Nat) (time : BitVec 64) : Aside PipeSide s (s.openMap n frame time) := by
  have room : Aside PipeSide s (s.roomForMap n) := by
    unfold State.roomForMap
    split
    · exact s.closeMap_aside _ true
    · exact .refl s
  obtain same | ⟨m, opened⟩ := s.openMap_cases n frame time
  · rw [same]
    exact .refl s
  · rw [opened]
    have held (u : State) : Aside PipeSide u (u.mapOpened m) := ⟨rfl, rfl, rfl, .of_regs rfl⟩
    exact (room.trans (held _)).trans (State.zonesRise_aside _ m)

/-! ### The pipeline changes hands (R252, R254) -/

/-- The words BUSY and SWITCHES of the contexts. -/
def TakeWord (a : Nat) : Prop := 0x3001000 ≤ a ∧ (a % 0x400 = 4 ∨ a % 0x400 = 0x6C)

/-- The pipeline's owner. -/
def State.ownedBy (c : Option Nat) : State := { s with vis := { s.vis with cur := c } }

theorem State.busyWords (p : Nat → Bool) : Aside TakeWord s (s.each (List.range 4) (fun s i => s.setFlag (F.CTX.CTX_STAT_BUSY i) (p i))) :=
  .each _ _ (fun u i _ => .set u _ _ ⟨by simp only [F.CTX.CTX_STAT_BUSY]; omega, .inl (by simp only [F.CTX.CTX_STAT_BUSY]; omega)⟩) s

theorem State.takePipe_aside (x : Nat) : Aside TakeWord (s.ownedBy (some x)) (s.takePipe x) := by
  unfold State.takePipe
  dsimp only
  have switched : Aside TakeWord s (if s.vis.last = some x then s else s.inc (F.CTX.SWITCHES x)) := by
    split
    · exact .refl s
    · exact .set s _ _ ⟨by simp only [F.CTX.SWITCHES]; omega, .inr (by simp only [F.CTX.SWITCHES]; omega)⟩
  have taken := switched.trans (State.busyWords _ (fun i => i == x))
  exact ⟨taken.cams, taken.jobs, rfl, taken.words⟩

/-- The pipeline is idle. -/
def State.pipeIdle : State := (s.each (List.range 4) (fun s i => s.setFlag (F.CTX.CTX_STAT_BUSY i) false)).ownedBy none

theorem State.pipeIdle_aside : Aside TakeWord (s.ownedBy none) s.pipeIdle := by
  have idle := s.busyWords (fun _ => false)
  exact ⟨idle.cams, idle.jobs, rfl, idle.words⟩

theorem State.freePipe_cases : s.freePipe = s.pipeIdle ∨ ∃ x, s.freePipe = s.pipeIdle.takePipe x := by
  unfold State.freePipe
  dsimp only
  split
  · exact .inl rfl
  · split
    · exact .inr ⟨_, rfl⟩
    · exact .inl rfl

theorem State.freePipe_aside : ∃ c, Aside TakeWord (s.ownedBy c) s.freePipe := by
  obtain idle | ⟨x, taken⟩ := s.freePipe_cases
  · rw [idle]
    exact ⟨none, s.pipeIdle_aside⟩
  · rw [taken]
    have first := s.pipeIdle_aside
    have second := s.pipeIdle.takePipe_aside x
    exact ⟨some x, second.cams.trans first.cams, second.jobs.trans first.jobs, second.cur, first.words.trans second.words⟩

/-! ### A frame opens (R247, R252, R253) -/

/-- The words that a bank's start changes. -/
def ApplyWord (a : Nat) : Prop := 0x3001000 ≤ a ∧ a < 0x3002000

theorem State.applyBank_aside (x frame : Nat) (low : x < 4) : Aside ApplyWord s (s.applyBank x frame) := by
  unfold State.applyBank
  dsimp only
  split
  · exact .refl s
  · have staged (c : CtxSt) : Aside ApplyWord s (s.setPctx x c) := ⟨rfl, rfl, rfl, .of_regs rfl⟩
    refine ((staged _).trans (.set _ _ _ ?_)).trans (.set _ _ _ ?_)
    · simp only [ApplyWord, F.CTX.APPLIED_FRAME]
      omega
    · simp only [ApplyWord, F.CTX.CTX_STAT_PENDING]
      omega

/-- The frame that begins, counted; `frame` is its number. -/
def State.frameCounted (n frame : Nat) : State :=
  (s.inc (F.CAM.FRAMES_IN n)).setCam n { s.cam n with fresh := false, next := (frame + 1) % 2 ^ 32, lastFs := some s.time.dev.toNat, gaps := [] }

/-- The number of the next frame. -/
def State.nextFrame (n : Nat) : Nat := if (s.cam n).fresh then 0 else (s.cam n).next

theorem State.csiFs_first (n csi : Nat) (on : s.domOn 75 = true) (runs : s.camRuns n = true) (shut : (s.cam n).opened = none) (first : (s.cam n).lastFs = none) :
    s.csiFs n csi = ((s.frameCounted n (s.nextFrame n)).applyBank n (s.nextFrame n)).frameDecision n (s.nextFrame n) csi := by
  unfold State.csiFs
  rw [on, runs, shut]
  refine (if_neg (by decide)).trans ?_
  rw [if_neg (show ¬ (none : Option OpenFrame).isSome = true by decide)]
  dsimp only
  rw [if_neg (by rw [runs]; decide), first]
  exact if_neg Bool.false_ne_true

theorem State.frameDecision_live (n frame csi : Nat) (mode : s.flag F.PIPE.PIPE_CFG_MODE = false) (prio : s.get F.PIPE.PIPE_CFG_PRIO = n) (idle : s.vis.cur = none) :
    s.frameDecision n frame csi = s.goLive n frame csi := by
  unfold State.frameDecision
  rw [mode, prio, idle]
  dsimp only
  rw [if_neg (by decide), if_pos (by simp)]
  rfl

/-- A live frame is in hand. -/
def State.liveTaken (n frame csi : Nat) : State :=
  let j := s.newJob n n frame csi none true false
  let r := s.pickBuffer n (branch j.bank 0x0E)
  { r.2 with vis := { r.2.vis with jobs := r.2.vis.jobs ++ [{ j with disp := r.1 }] } }

theorem State.liveTaken_kept (n frame csi : Nat) : (s.liveTaken n frame csi).vis.cams = s.vis.cams ∧ (s.liveTaken n frame csi).regs = s.regs ∧ (s.liveTaken n frame csi).time = s.time :=
  ⟨rfl, rfl, rfl⟩

/-- Input `n` with a frame open. -/
def State.inputOpened (n frame csi : Nat) (raw : Option Nat) (deferred : Bool) : State :=
  (s.setCam n { s.cam n with opened := some ⟨frame, csi, s.time.dev, 0, false, raw, deferred, 0, 0, []⟩, bufs := (s.cam n).bufs ++ raw.toList }).set (F.CAM.CSI_STAT_FRAME_OPEN n) 1

theorem State.goLive_eq (n frame csi : Nat) : s.goLive n frame csi =
    (((s.liveTaken n frame csi).takePipe n).inputOpened n frame csi none false).openMap n frame ((s.liveTaken n frame csi).takePipe n).time.dev := rfl

/-- The first frame of an idle pipeline's own camera. -/
theorem State.csiFs_opens (n : Fin 2) (csi : Nat) (on : s.domOn 75 = true) (runs : s.camRuns n = true) (shut : (s.cam n).opened = none) (first : (s.cam n).lastFs = none)
    (mode : s.flag F.PIPE.PIPE_CFG_MODE = false) (prio : s.get F.PIPE.PIPE_CFG_PRIO = n.val) (idle : s.vis.cur = none) :
    ((s.csiFs n csi).cam n).opened.map OpenFrame.frame = some (s.nextFrame n) ∧ ((s.csiFs n csi).cam n).next = (s.nextFrame n + 1) % 2 ^ 32 ∧ ((s.csiFs n csi).cam n).fresh = false ∧
    ((s.csiFs n csi).cam n).lastFs = some s.time.dev.toNat ∧ (s.csiFs n csi).vis.cur = some n.val ∧ (s.csiFs n csi).flag (F.CAM.CSI_STAT_FRAME_OPEN n) = true ∧
    (s.csiFs n csi).get (F.CAM.FRAMES_IN n) = min (s.get (F.CAM.FRAMES_IN n) + 1) (2 ^ (F.CAM.FRAMES_IN n).wd - 1) := by
  have low := n.isLt
  have counted : BlockWords (fun a => a = (F.CAM.FRAMES_IN n).addr) s (s.frameCounted n (s.nextFrame n)) := .set s _ _ rfl
  have frames : (s.frameCounted n (s.nextFrame n)).get (F.CAM.FRAMES_IN n) = min (s.get (F.CAM.FRAMES_IN n) + 1) (2 ^ (F.CAM.FRAMES_IN n).wd - 1) := State.get_inc s (F.CAM.FRAMES_IN n) rfl
  have cam := (s.inc (F.CAM.FRAMES_IN n)).cam_setCam n n { s.cam n with fresh := false, next := (s.nextFrame n + 1) % 2 ^ 32, lastFs := some s.time.dev.toNat, gaps := [] }
  rw [if_pos rfl] at cam
  have applied := (s.frameCounted n (s.nextFrame n)).applyBank_aside n (s.nextFrame n) (by omega)
  have cams := (applied.cam_eq n).trans cam
  rw [s.csiFs_first n csi on runs shut first]
  generalize (s.frameCounted n (s.nextFrame n)).applyBank n (s.nextFrame n) = u at applied cams
  have plain (f : Fld) (lowest : 0x3002000 ≤ f.addr) (high : f.addr < 0x7000000) : u.get f = s.get f :=
    (applied.words.get f (by omega) high (by simp only [ApplyWord]; omega)).trans (counted.get f (by omega) high (by simp only [F.CAM.FRAMES_IN]; omega))
  have modes : u.flag F.PIPE.PIPE_CFG_MODE = false := by rw [State.flag, plain _ (by decide) (by decide)]; exact mode
  rw [u.frameDecision_live n _ csi modes ((plain F.PIPE.PIPE_CFG_PRIO (by decide) (by decide)).trans prio) (applied.cur.trans idle), u.goLive_eq]
  obtain ⟨liveCams, liveRegs, -⟩ := u.liveTaken_kept n (s.nextFrame n) csi
  have count : (u.liveTaken n (s.nextFrame n) csi).get (F.CAM.FRAMES_IN n) = min (s.get (F.CAM.FRAMES_IN n) + 1) (2 ^ (F.CAM.FRAMES_IN n).wd - 1) := by
    rw [State.get, State.rd_congr liveRegs]
    exact (applied.words.get (F.CAM.FRAMES_IN n) (by simp only [F.CAM.FRAMES_IN]; omega) (by simp only [F.CAM.FRAMES_IN]; omega) (by simp only [ApplyWord, F.CAM.FRAMES_IN]; omega)).trans frames
  have taken := (u.liveTaken n (s.nextFrame n) csi).takePipe_aside n
  have held : ((u.liveTaken n (s.nextFrame n) csi).takePipe n).cam n = u.cam n := by rw [State.cam, taken.cams]; rfl
  generalize (u.liveTaken n (s.nextFrame n) csi).takePipe n = v at taken held
  have opens := (v.inputOpened n (s.nextFrame n) csi none false).openMap_aside n (s.nextFrame n) v.time.dev
  have own := v.cam_setCam n n { v.cam n with opened := some ⟨s.nextFrame n, csi, v.time.dev, 0, false, none, false, 0, 0, []⟩, bufs := (v.cam n).bufs ++ none.toList }
  rw [if_pos rfl] at own
  have shown := (opens.cam_eq n).trans own
  rw [shown, held, cams]
  refine ⟨rfl, rfl, rfl, rfl, opens.cur.trans taken.cur, ?_, ?_⟩
  · rw [opens.words.flag _ (by simp only [F.CAM.CSI_STAT_FRAME_OPEN]; omega) (by simp only [F.CAM.CSI_STAT_FRAME_OPEN]; omega) (by simp only [PipeSide, F.CAM.CSI_STAT_FRAME_OPEN]; omega)]
    exact State.flag_set_one _ (F.CAM.CSI_STAT_FRAME_OPEN n) rfl rfl
  · rw [opens.words.get _ (by simp only [F.CAM.FRAMES_IN]; omega) (by simp only [F.CAM.FRAMES_IN]; omega) (by simp only [PipeSide, F.CAM.FRAMES_IN]; omega)]
    have open_ : (v.inputOpened n (s.nextFrame n) csi none false).get (F.CAM.FRAMES_IN n) = v.get (F.CAM.FRAMES_IN n) :=
      State.get_set_addr _ (F.CAM.CSI_STAT_FRAME_OPEN n) (F.CAM.FRAMES_IN n) 1 (by simp only [F.CAM.CSI_STAT_FRAME_OPEN, F.CAM.FRAMES_IN]; omega)
    rw [open_, taken.words.get _ (by simp only [F.CAM.FRAMES_IN]; omega) (by simp only [F.CAM.FRAMES_IN]; omega) (by simp only [TakeWord, F.CAM.FRAMES_IN]; omega)]
    exact count

end

end Sys2Proof.Machine
end

section
/-! PROOFS. Camera frames (R248 to R251): a frame's remainder dropped, a frame closed, and the packets of a frame. -/
namespace Sys2Proof.Machine

section
variable (s : State)

/-! ### A frame leaves the pipeline (R252) -/

/-- A frame is no longer in hand. -/
def State.jobGone (j : Job) : State := { s with vis := { s.vis with jobs := s.vis.jobs.filter (fun x => !x.same j) } }

/-- The raw buffer of a frame is free. -/
def State.bufFreed (j : Job) : State :=
  match j.buf with
  | some b => s.setCam j.cam { s.cam j.cam with bufs := (s.cam j.cam).bufs.filter (fun i => i != b) }
  | none => s

theorem State.endJob_eq (j : Job) : s.endJob j = ((s.jobGone j).bufFreed j).when (j.started && ((s.jobGone j).bufFreed j).vis.cur == some j.ctx) State.freePipe := rfl

theorem State.bufFreed_kept (j : Job) (n : Nat) : ((s.bufFreed j).cam n).opened = (s.cam n).opened ∧ (s.bufFreed j).regs = s.regs ∧ (s.bufFreed j).vis.jobs = s.vis.jobs := by
  unfold State.bufFreed
  split
  · refine ⟨?_, rfl, rfl⟩
    rw [s.cam_setCam]
    split
    next same => rw [same]
    · rfl
  · exact ⟨rfl, rfl, rfl⟩

/-- The end of a frame: the inputs' open frames stay, and of the registers only BUSY and SWITCHES change. -/
theorem State.endJob_spec (j : Job) (n : Nat) : ((s.endJob j).cam n).opened = (s.cam n).opened ∧ (s.endJob j).vis.jobs = s.vis.jobs.filter (fun x => !x.same j) ∧ BlockWords TakeWord s (s.endJob j) := by
  obtain ⟨opened, regs, jobs⟩ := (s.jobGone j).bufFreed_kept j n
  have freed : BlockWords TakeWord s ((s.jobGone j).bufFreed j) := .of_regs regs
  rw [s.endJob_eq]
  generalize (s.jobGone j).bufFreed j = u at opened jobs freed
  unfold State.when
  split
  · obtain ⟨c, rest⟩ := u.freePipe_aside
    have cam : u.freePipe.cam n = u.cam n := by rw [State.cam, rest.cams]; rfl
    exact ⟨(congrArg CamSt.opened cam).trans opened, rest.jobs.trans jobs, freed.trans rest.words⟩
  · exact ⟨opened, jobs, freed⟩

/-! ### The result group of an input -/

variable (n : Nat)

/-- The words of the result group of input `n`. -/
def CamResultWord (n a : Nat) : Prop := 0x3000080 + 0x400 * n ≤ a ∧ a < 0x30000A0 + 0x400 * n

theorem State.camResult_words (frame csi : Nat) (time : BitVec 64) (flags lines reason : Nat) : BlockWords (CamResultWord n) s (s.camResult n frame csi time flags lines reason) := by
  have put (u : State) (f : Fld) (x : Nat) (low : 0x3000080 + 0x400 * n ≤ f.addr) (high : f.addr < 0x30000A0 + 0x400 * n) : BlockWords (CamResultWord n) u (u.set f x) := .set u f x ⟨low, high⟩
  unfold State.camResult
  dsimp only
  refine ((((((put s _ frame ?_ ?_).trans (put _ _ csi ?_ ?_)).trans (put _ _ flags ?_ ?_)).trans ((put _ _ _ ?_ ?_).trans (put _ _ _ ?_ ?_))).trans (put _ _ lines ?_ ?_)).trans (put _ _ reason ?_ ?_)).trans
    (((put _ _ _ ?_ ?_).trans (put _ _ _ ?_ ?_)).trans (put _ _ _ ?_ ?_))
  all_goals
    simp only [F.CAM.CAM_FRAME, F.CAM.CSI_FRAME, F.CAM.FLAGS, F.CAM.TIME_LO, F.CAM.TIME_HI, F.CAM.LINES, F.CAM.REASON, F.CAM.LINE_PERIOD, F.CAM.CAM_RES_ST]
    omega

theorem State.camResult_vis (frame csi : Nat) (time : BitVec 64) (flags lines reason : Nat) : (s.camResult n frame csi time flags lines reason).vis = s.vis := by
  simp only [State.camResult, State.set64, State.publish_vis, State.set_vis]

theorem State.camResult_shown (frame csi : Nat) (time : BitVec 64) (flags lines reason : Nat) :
    (s.camResult n frame csi time flags lines reason).get (F.CAM.CAM_FRAME n) = frame % 2 ^ (F.CAM.CAM_FRAME n).wd ∧
    (s.camResult n frame csi time flags lines reason).get (F.CAM.LINES n) = lines % 2 ^ (F.CAM.LINES n).wd ∧
    (s.camResult n frame csi time flags lines reason).get (F.CAM.REASON n) = reason % 2 ^ (F.CAM.REASON n).wd := by
  have last (u : State) (p : Nat) (g : Fld) (other : g.addr ≠ (F.CAM.CAM_RES_ST n).addr ∧ g.addr ≠ (F.CAM.LINE_PERIOD n).addr) :
      ((u.set (F.CAM.LINE_PERIOD n) p).publish (F.CAM.CAM_RES_ST n)).get g = u.get g :=
    (State.get_publish _ (F.CAM.CAM_RES_ST n) g other.1).trans (u.get_set_addr _ g p other.2)
  have reasons (u : State) : (u.set (F.CAM.REASON n) reason).get (F.CAM.REASON n) = reason % 2 ^ (F.CAM.REASON n).wd := u.get_set_same _ reason rfl
  have lined (u : State) : ((u.set (F.CAM.LINES n) lines).set (F.CAM.REASON n) reason).get (F.CAM.LINES n) = lines % 2 ^ (F.CAM.LINES n).wd :=
    (State.get_set_bits _ (F.CAM.REASON n) (F.CAM.LINES n) reason rfl (.inl (Nat.le_of_ble_eq_true rfl))).trans (u.get_set_same _ lines rfl)
  refine ⟨?_, ?_, ?_⟩
  · have away (f : Fld) (other : (F.CAM.CAM_FRAME n).addr ≠ f.addr) (u : State) (x : Nat) : (u.set f x).get (F.CAM.CAM_FRAME n) = u.get (F.CAM.CAM_FRAME n) := u.get_set_addr f _ x other
    unfold State.camResult
    dsimp only
    rw [last _ _ _ (by simp only [F.CAM.CAM_FRAME, F.CAM.CAM_RES_ST, F.CAM.LINE_PERIOD]; omega), away _ (by simp only [F.CAM.CAM_FRAME, F.CAM.REASON]; omega),
      away _ (by simp only [F.CAM.CAM_FRAME, F.CAM.LINES]; omega), State.set64, away _ (by simp only [F.CAM.CAM_FRAME, F.CAM.TIME_HI]; omega),
      away _ (by simp only [F.CAM.CAM_FRAME, F.CAM.TIME_LO]; omega), away _ (by simp only [F.CAM.CAM_FRAME, F.CAM.FLAGS]; omega), away _ (by simp only [F.CAM.CAM_FRAME, F.CAM.CSI_FRAME]; omega)]
    exact s.get_set_same _ frame rfl
  · exact (last _ _ _ (by simp only [F.CAM.LINES, F.CAM.CAM_RES_ST, F.CAM.LINE_PERIOD]; omega)).trans (lined _)
  · exact (last _ _ _ (by simp only [F.CAM.REASON, F.CAM.CAM_RES_ST, F.CAM.LINE_PERIOD]; omega)).trans (reasons _)

/-! ### A camera that stops -/

theorem State.stopCamera_kept (m : Nat) : ((s.stopCamera n).cam m).opened = (s.cam m).opened ∧ (s.stopCamera n).flag (F.CAM.CSI_STAT_FRAME_OPEN m) = s.flag (F.CAM.CSI_STAT_FRAME_OPEN m) ∧
    BlockWords (fun a => a = (F.CAM.CSI_STAT_RUN n).addr ∨ a = F.PIPE.PIPE_STAT_LOAD.addr) s (s.stopCamera n) := by
  unfold State.stopCamera
  split
  · refine ⟨?_, ?_, ?_⟩
    · refine (congrArg CamSt.opened ((s.set (F.CAM.CSI_STAT_RUN n) 0).cam_setCam n m _)).trans ?_
      split
      next same => rw [same]
      · rfl
    · have load : ((s.set (F.CAM.CSI_STAT_RUN n) 0).setCam n { s.cam n with stopping := false }).publishLoad.get (F.CAM.CSI_STAT_FRAME_OPEN m) =
          ((s.set (F.CAM.CSI_STAT_RUN n) 0).setCam n { s.cam n with stopping := false }).get (F.CAM.CSI_STAT_FRAME_OPEN m) :=
        State.get_set_addr _ F.PIPE.PIPE_STAT_LOAD (F.CAM.CSI_STAT_FRAME_OPEN m) _ (by simp only [F.CAM.CSI_STAT_FRAME_OPEN, F.PIPE.PIPE_STAT_LOAD]; omega)
      have run : (s.set (F.CAM.CSI_STAT_RUN n) 0).get (F.CAM.CSI_STAT_FRAME_OPEN m) = s.get (F.CAM.CSI_STAT_FRAME_OPEN m) :=
        s.get_set_bits (F.CAM.CSI_STAT_RUN n) (F.CAM.CSI_STAT_FRAME_OPEN m) 0 rfl (.inl (Nat.le_of_ble_eq_true rfl))
      rw [State.flag, load]
      exact congrArg (fun x => x == 1) run
    · exact ((BlockWords.set s (F.CAM.CSI_STAT_RUN n) 0 (.inl rfl)).trans (.of_regs (t := (s.set (F.CAM.CSI_STAT_RUN n) 0).setCam n _) rfl)).trans (.set _ _ _ (.inr rfl))
  · exact ⟨rfl, rfl, .refl s⟩

/-! ### The rest of a frame is dropped (R251) -/

/-- No frame is open at input `n`. -/
def State.inputShut : State := (s.setCam n { s.cam n with opened := none }).set (F.CAM.CSI_STAT_FRAME_OPEN n) 0

/-- The frame of camera `n` leaves the pipeline. -/
def State.jobDropped (frame : Nat) : State :=
  match s.camJob n frame with
  | some j => s.endJob j
  | none => s

/-- The result of context `x` is void, and the map of a frame discarded. -/
def State.frameVoid (x frame : Nat) : State := (s.setPctx x { s.pctx x with prevOk := false }).discardMap n frame

/-- The drop records of a frame. -/
def State.dropTold (frame : Nat) (time : BitVec 64) (r : List Byte) : State := s.each [3, 4] (fun s k => (s.camPlace k n frame time r).2)

theorem State.dropFrame_eq (frame csi : Nat) (time : BitVec 64) (flags lines reason : Nat) (whole : Bool) :
    s.dropFrame n frame csi time flags lines reason whole =
      (((s.dropTold n frame time (camDropRecord reason n whole time frame (if whole then 0 else lines) 0)).inc (F.CAM.FRAMES_DROPPED n)).camResult n frame csi time (flags + 8) lines reason).raise
        EV_CAM_FRAME_DROP n (frame % 256 * 256 + reason) := rfl

theorem State.dropTold_aside (frame : Nat) (time : BitVec 64) (r : List Byte) : Aside PipeSide s (s.dropTold n frame time r) :=
  .each _ _ (fun u k _ => .of_mapping (u.camPlace_mapping k n frame time r)) s

theorem State.dropRest_eq (r : Nat) (f : OpenFrame) (opened : (s.cam n).opened = some f) : ∃ x lines, s.dropRest n r =
    (((((s.inputShut n).jobDropped n f.frame).frameVoid n x f.frame).dropFrame n f.frame f.csi f.time (bit f.deferred + 4 * bit f.long) lines r false).stopCamera n) := by
  unfold State.dropRest
  rw [opened]
  exact ⟨_, _, rfl⟩

/-- A dropped frame counts; its words and open frame are told apart from the inputs' own. -/
theorem State.dropFrame_spec (frame csi : Nat) (time : BitVec 64) (flags lines reason : Nat) (whole : Bool) :
    (s.dropFrame n frame csi time flags lines reason whole).vis.cams = s.vis.cams ∧
    (n < 2 → (s.dropFrame n frame csi time flags lines reason whole).get (F.CAM.FRAMES_DROPPED n) = min (s.get (F.CAM.FRAMES_DROPPED n) + 1) (2 ^ (F.CAM.FRAMES_DROPPED n).wd - 1) ∧
      (s.dropFrame n frame csi time flags lines reason whole).flag (F.CAM.CSI_STAT_FRAME_OPEN n) = s.flag (F.CAM.CSI_STAT_FRAME_OPEN n)) := by
  rw [s.dropFrame_eq]
  have records := s.dropTold_aside n frame time (camDropRecord reason n whole time frame (if whole then 0 else lines) 0)
  generalize s.dropTold n frame time (camDropRecord reason n whole time frame (if whole then 0 else lines) 0) = u at records
  have results := (u.inc (F.CAM.FRAMES_DROPPED n)).camResult_words n frame csi time (flags + 8) lines reason
  have vis := (u.inc (F.CAM.FRAMES_DROPPED n)).camResult_vis n frame csi time (flags + 8) lines reason
  generalize (u.inc (F.CAM.FRAMES_DROPPED n)).camResult n frame csi time (flags + 8) lines reason = v at results vis
  have told : Aside PipeSide v (v.raise EV_CAM_FRAME_DROP n (frame % 256 * 256 + reason)) := .raise v _ _ _ (by decide)
  refine ⟨told.cams.trans ((congrArg VisionSt.cams vis).trans records.cams), fun low => ⟨?_, ?_⟩⟩
  · rw [told.words.get _ (by simp only [F.CAM.FRAMES_DROPPED]; omega) (by simp only [F.CAM.FRAMES_DROPPED]; omega) (by simp only [PipeSide, F.CAM.FRAMES_DROPPED]; omega),
      results.get _ (by simp only [F.CAM.FRAMES_DROPPED]; omega) (by simp only [F.CAM.FRAMES_DROPPED]; omega) (by simp only [CamResultWord, F.CAM.FRAMES_DROPPED]; omega)]
    exact State.get_inc_of_eq _ rfl (records.words.get _ (by simp only [F.CAM.FRAMES_DROPPED]; omega) (by simp only [F.CAM.FRAMES_DROPPED]; omega) (by simp only [PipeSide, F.CAM.FRAMES_DROPPED]; omega))
  · have counted : (u.inc (F.CAM.FRAMES_DROPPED n)).get (F.CAM.CSI_STAT_FRAME_OPEN n) = u.get (F.CAM.CSI_STAT_FRAME_OPEN n) :=
      State.get_inc_ne _ _ _ (by simp only [F.CAM.FRAMES_DROPPED, F.CAM.CSI_STAT_FRAME_OPEN]; omega)
    have stat : 0x20000 ≤ (F.CAM.CSI_STAT_FRAME_OPEN n).addr ∧ (F.CAM.CSI_STAT_FRAME_OPEN n).addr < 0x7000000 ∧ ¬ PipeSide (F.CAM.CSI_STAT_FRAME_OPEN n).addr ∧
        ¬ CamResultWord n (F.CAM.CSI_STAT_FRAME_OPEN n).addr := by
      simp only [PipeSide, CamResultWord, F.CAM.CSI_STAT_FRAME_OPEN]
      omega
    obtain ⟨lowest, high, side, result⟩ := stat
    rw [State.flag, told.words.get _ lowest high side, results.get _ lowest high result, counted, records.words.get _ lowest high side]
    rfl

/-- The rest of an open frame dropped. -/
theorem State.dropRest_spec (r : Nat) (f : OpenFrame) (low : n ≤ 1) (opened : (s.cam n).opened = some f) : ((s.dropRest n r).cam n).opened = none ∧
    (s.dropRest n r).flag (F.CAM.CSI_STAT_FRAME_OPEN n) = false ∧
    (s.dropRest n r).get (F.CAM.FRAMES_DROPPED n) = min (s.get (F.CAM.FRAMES_DROPPED n) + 1) (2 ^ (F.CAM.FRAMES_DROPPED n).wd - 1) := by
  obtain ⟨x, lines, drops⟩ := s.dropRest_eq n r f opened
  have own := s.cam_setCam n n { s.cam n with opened := none }
  rw [if_pos rfl] at own
  have shut : ((s.inputShut n).cam n).opened = none := congrArg CamSt.opened own
  have flag : (s.inputShut n).flag (F.CAM.CSI_STAT_FRAME_OPEN n) = false := State.flag_setFlag_same _ _ false rfl (Nat.le_refl 1)
  have count : (s.inputShut n).get (F.CAM.FRAMES_DROPPED n) = s.get (F.CAM.FRAMES_DROPPED n) :=
    State.get_set_addr _ (F.CAM.CSI_STAT_FRAME_OPEN n) (F.CAM.FRAMES_DROPPED n) 0 (by simp only [F.CAM.FRAMES_DROPPED, F.CAM.CSI_STAT_FRAME_OPEN]; omega)
  have job : (((s.inputShut n).jobDropped n f.frame).cam n).opened = ((s.inputShut n).cam n).opened ∧ BlockWords TakeWord (s.inputShut n) ((s.inputShut n).jobDropped n f.frame) := by
    unfold State.jobDropped
    split
    next j _ =>
      obtain ⟨kept, -, words⟩ := (s.inputShut n).endJob_spec j n
      exact ⟨kept, words⟩
    · exact ⟨rfl, .refl _⟩
  obtain ⟨kept, words⟩ := job
  have void : BlockWords TakeWord (s.inputShut n) (((s.inputShut n).jobDropped n f.frame).frameVoid n x f.frame) := words.trans (.of_regs rfl)
  have voids : ((((s.inputShut n).jobDropped n f.frame).frameVoid n x f.frame).cam n).opened = none := kept.trans shut
  rw [drops]
  generalize ((s.inputShut n).jobDropped n f.frame).frameVoid n x f.frame = u at void voids
  obtain ⟨cams, more⟩ := u.dropFrame_spec n f.frame f.csi f.time (bit f.deferred + 4 * bit f.long) lines r false
  obtain ⟨dropped, open_⟩ := more (by omega)
  generalize u.dropFrame n f.frame f.csi f.time (bit f.deferred + 4 * bit f.long) lines r false = v at cams dropped open_
  obtain ⟨stopped, still, stops⟩ := v.stopCamera_kept n n
  have cam : v.cam n = u.cam n := by rw [State.cam, cams]; rfl
  refine ⟨stopped.trans ((congrArg CamSt.opened cam).trans voids), still.trans (open_.trans ((void.flag _ ?_ ?_ ?_).trans flag)), ?_⟩
  · simp only [F.CAM.CSI_STAT_FRAME_OPEN]
    omega
  · simp only [F.CAM.CSI_STAT_FRAME_OPEN]
    omega
  · simp only [TakeWord, F.CAM.CSI_STAT_FRAME_OPEN]
    omega
  · rw [stops.get _ (by simp only [F.CAM.FRAMES_DROPPED]; omega) (by simp only [F.CAM.FRAMES_DROPPED]; omega) (by simp only [F.CAM.FRAMES_DROPPED, F.CAM.CSI_STAT_RUN, F.PIPE.PIPE_STAT_LOAD]; omega),
      dropped, void.get _ (by simp only [F.CAM.FRAMES_DROPPED]; omega) (by simp only [F.CAM.FRAMES_DROPPED]; omega) (by simp only [TakeWord, F.CAM.FRAMES_DROPPED]; omega), count]

end

end Sys2Proof.Machine
end

section
/-! PROOFS. Camera frames (R245, R248): a frame that closes, the packets of a frame, and its time-out. -/
namespace Sys2Proof.Machine

section
variable (s : State) (n : Nat)

/-! ### A whole frame closes -/

/-- Input `n` with its frame closed. -/
def State.inputClosed (f : OpenFrame) : State :=
  (s.setCam n { s.cam n with opened := none, span := some (s.time.dev.toNat - f.time.toNat), period := if 2 ≤ f.lines then (f.last - f.first) / (f.lines - 1) else (s.cam n).period }).set
    (F.CAM.CSI_STAT_FRAME_OPEN n) 0

/-- The header of the raw buffer of a whole frame. -/
def State.headerPut (f : OpenFrame) : State :=
  match f.raw with
  | some i => (s.memUse 2 (0x20 + n) 64).dramPut (s.rawAddr n i) (s.rawHeader n f false)
  | none => s

/-- The frame in hand has all its lines. -/
def State.jobClosed (f : OpenFrame) : State :=
  match s.camJob n f.frame with
  | none => s
  | some j => s.putJob { j with closed := true, long := f.long, lines := min f.lines j.h, emb := f.emb, period := s.linePeriod n }

theorem State.closeInput_whole (f : OpenFrame) (opened : (s.cam n).opened = some f) (whole : s.camH n ≤ f.lines) : s.closeInput n =
    ((((s.inputClosed n f).camResult n f.frame f.csi f.time (bit f.deferred + 2 * bit false + 4 * bit f.long) f.lines 0).headerPut n f).jobClosed n f).stopCamera n := by
  have long : decide (f.lines < s.camH n) = false := decide_eq_false (by omega)
  unfold State.closeInput
  rw [opened]
  dsimp only
  rw [long]
  rfl

theorem State.headerPut_aside (f : OpenFrame) : Aside PipeSide s (s.headerPut n f) := by
  unfold State.headerPut
  split
  · exact (Aside.memUse s 2 (0x20 + n) 64 (by decide)).trans (.dramPut _ _ _)
  · exact .refl s

theorem State.jobClosed_kept (f : OpenFrame) : (s.jobClosed n f).vis.cams = s.vis.cams ∧ (s.jobClosed n f).regs = s.regs := by
  unfold State.jobClosed
  split <;> exact ⟨rfl, rfl⟩

/-- A whole frame that closes leaves its result. -/
theorem State.closeInput_spec (f : OpenFrame) (low : n < 2) (opened : (s.cam n).opened = some f) (whole : s.camH n ≤ f.lines) : ((s.closeInput n).cam n).opened = none ∧
    (s.closeInput n).flag (F.CAM.CSI_STAT_FRAME_OPEN n) = false ∧ (s.closeInput n).get (F.CAM.CAM_FRAME n) = f.frame % 2 ^ (F.CAM.CAM_FRAME n).wd ∧
    (s.closeInput n).get (F.CAM.LINES n) = f.lines % 2 ^ (F.CAM.LINES n).wd ∧ (s.closeInput n).get (F.CAM.REASON n) = 0 := by
  have own := s.cam_setCam n n { s.cam n with opened := none, span := some (s.time.dev.toNat - f.time.toNat), period := if 2 ≤ f.lines then (f.last - f.first) / (f.lines - 1) else (s.cam n).period }
  rw [if_pos rfl] at own
  have shut : ((s.inputClosed n f).cam n).opened = none := congrArg CamSt.opened own
  have flag : (s.inputClosed n f).flag (F.CAM.CSI_STAT_FRAME_OPEN n) = false := State.flag_setFlag_same _ _ false rfl (Nat.le_refl 1)
  rw [s.closeInput_whole n f opened whole]
  generalize s.inputClosed n f = u at shut flag
  obtain ⟨frame, lines, reason⟩ := u.camResult_shown n f.frame f.csi f.time (bit f.deferred + 2 * bit false + 4 * bit f.long) f.lines 0
  have words := u.camResult_words n f.frame f.csi f.time (bit f.deferred + 2 * bit false + 4 * bit f.long) f.lines 0
  have vis := u.camResult_vis n f.frame f.csi f.time (bit f.deferred + 2 * bit false + 4 * bit f.long) f.lines 0
  generalize u.camResult n f.frame f.csi f.time (bit f.deferred + 2 * bit false + 4 * bit f.long) f.lines 0 = v at frame lines reason words vis
  have header := v.headerPut_aside n f
  obtain ⟨cams, regs⟩ := (v.headerPut n f).jobClosed_kept n f
  obtain ⟨stopped, still, stops⟩ := ((v.headerPut n f).jobClosed n f).stopCamera_kept n n
  have held : BlockWords PipeSide v ((v.headerPut n f).jobClosed n f) := header.words.trans (.of_regs regs)
  have cam : ((v.headerPut n f).jobClosed n f).cam n = u.cam n := by rw [State.cam, cams, header.cams, vis]; rfl
  have kept (g : Fld) (lowest : 0x3000080 + 0x400 * n ≤ g.addr) (high : g.addr < 0x30000A0 + 0x400 * n) :
      (((v.headerPut n f).jobClosed n f).stopCamera n).get g = v.get g := by
    rw [stops.get g (by omega) (by omega) (by simp only [F.CAM.CSI_STAT_RUN, F.PIPE.PIPE_STAT_LOAD]; omega), held.get g (by omega) (by omega) (by simp only [PipeSide]; omega)]
  have stat : 0x20000 ≤ (F.CAM.CSI_STAT_FRAME_OPEN n).addr ∧ (F.CAM.CSI_STAT_FRAME_OPEN n).addr < 0x7000000 ∧ ¬ PipeSide (F.CAM.CSI_STAT_FRAME_OPEN n).addr ∧
      ¬ CamResultWord n (F.CAM.CSI_STAT_FRAME_OPEN n).addr := by
    simp only [PipeSide, CamResultWord, F.CAM.CSI_STAT_FRAME_OPEN]
    omega
  obtain ⟨lowest, high, side, result⟩ := stat
  refine ⟨stopped.trans ((congrArg CamSt.opened cam).trans shut), still.trans ((held.flag _ lowest high side).trans ((words.flag _ lowest high result).trans flag)),
    (kept _ ?_ ?_).trans frame, (kept _ ?_ ?_).trans lines, (kept _ ?_ ?_).trans reason⟩
  all_goals
    simp only [F.CAM.CAM_FRAME, F.CAM.LINES, F.CAM.REASON]
    omega

/-! ### The packets of a frame (Table 11-3) -/

variable {s n} {wc hdr : Nat} {crc : Bool} {px : List Byte} {ovf : Bool} {f : OpenFrame}

theorem State.csiLine_off (off : s.domOn 75 = false ∨ s.camRuns n = false) : s.csiLine n wc crc px hdr ovf = s := by
  unfold State.csiLine
  refine if_pos ?_
  rcases off with off | off
  · rw [off]
    rfl
  · rw [off, Bool.and_false]
    rfl

theorem State.csiLine_shut (on : s.domOn 75 = true) (runs : s.camRuns n = true) (shut : (s.cam n).opened = none) : s.csiLine n wc crc px hdr ovf = s.inc (F.CAM.IGNORED n) := by
  unfold State.csiLine
  rw [on, runs, shut]
  rfl

/-- The checks of a packet of an open frame, in their order. -/
theorem State.csiLine_open (on : s.domOn 75 = true) (runs : s.camRuns n = true) (opened : (s.cam n).opened = some f) : s.csiLine n wc crc px hdr ovf =
    if ovf || (f.raw.isSome && decide (f.lines < s.camH n) && !s.domOn 79) then (s.inc (F.CAM.OVERFLOW n)).dropRest n 3
    else if hdr = 2 then (s.inc (F.CAM.HDR_ERR n)).dropRest n 1
    else if !crc then (s.inc (F.CAM.CRC_ERR n)).dropRest n 1
    else if wc * 8 ≠ s.camW n * dtBits (u8 (s.camBlock n) 2) then (s.inc (F.CAM.WC_ERR n)).dropRest n 1
    else (s.when (hdr == 1) (fun s => s.inc (F.CAM.HDR_CORR n))).takeLine n f px := by
  unfold State.csiLine
  rw [on, runs, opened]
  rfl

/-- With room in memory the header is the next check. -/
theorem State.csiLine_room (on : s.domOn 75 = true) (mem : s.domOn 79 = true) (runs : s.camRuns n = true) (opened : (s.cam n).opened = some f) (fits : ovf = false) :
    s.csiLine n wc crc px hdr ovf =
    if hdr = 2 then (s.inc (F.CAM.HDR_ERR n)).dropRest n 1
    else if !crc then (s.inc (F.CAM.CRC_ERR n)).dropRest n 1
    else if wc * 8 ≠ s.camW n * dtBits (u8 (s.camBlock n) 2) then (s.inc (F.CAM.WC_ERR n)).dropRest n 1
    else (s.when (hdr == 1) (fun s => s.inc (F.CAM.HDR_CORR n))).takeLine n f px := by
  rw [State.csiLine_open on runs opened, fits, mem]
  exact if_neg (by simp)

/-- The open frame with one more line. -/
def OpenFrame.lined (f : OpenFrame) (now : Nat) : OpenFrame := { f with lines := f.lines + 1, first := if f.lines = 0 then now else f.first, last := now }

/-- The frame in hand has one more line. -/
def State.jobLined (s : State) (n : Nat) (f : OpenFrame) : State :=
  match s.camJob n f.frame with
  | some j => s.putJob { j with lines := f.lines + 1 }
  | none => s

theorem State.takeLine_live (within : f.lines < s.camH n) (live : f.raw = none) : s.takeLine n f px = (s.jobLined n f).setCam n { (s.jobLined n f).cam n with opened := some (f.lined s.time.dev.toNat) } := by
  obtain ⟨frame, csi, time, lines, long, raw, deferred, first, last, emb⟩ := f
  obtain rfl : raw = none := live
  exact if_pos within

theorem State.jobLined_vis (s : State) (n : Nat) (f : OpenFrame) : s.jobLined n f = { s with vis := (s.jobLined n f).vis } := by
  unfold State.jobLined
  split <;> rfl

theorem State.takeLine_spec (within : f.lines < s.camH n) (live : f.raw = none) : s.takeLine n f px = { s with vis := (s.takeLine n f px).vis } ∧
    ((s.takeLine n f px).cam n).opened = some (f.lined s.time.dev.toNat) := by
  have vis := s.jobLined_vis n f
  rw [State.takeLine_live within live]
  generalize s.jobLined n f = u at vis
  have own := u.cam_setCam n n { u.cam n with opened := some (f.lined s.time.dev.toNat) }
  rw [if_pos rfl] at own
  refine ⟨?_, congrArg CamSt.opened own⟩
  rw [vis]
  rfl

/-! ### The end of a frame and its time-out -/

theorem State.csiFe_shut (shut : (s.cam n).opened = none) : s.csiFe n = s := by rw [State.csiFe, shut]

theorem State.csiFe_whole (on : s.domOn 75 = true) (opened : (s.cam n).opened = some f) (whole : s.camH n ≤ f.lines) : s.csiFe n = s.closeInput n := by
  have long : decide (f.lines < s.camH n) = false := decide_eq_false (by omega)
  rw [State.csiFe, opened]
  dsimp only
  rw [on, long]
  rfl

theorem State.lockFe_kept (s : State) (n : Nat) : (s.lockFe n).vis = s.vis ∧ (s.lockFe n).regs = s.regs := by
  unfold State.lockFe
  refine ⟨State.each_keeps State.vis _ _ (fun u d => ?_) s, State.each_keeps State.regs _ _ (fun u d => ?_) s⟩
  · dsimp only
    split <;> rfl
  · dsimp only
    split <;> rfl

theorem State.csiTimeout_not (h : (s.cam n).opened = none ∨ s.domOn 75 = false) : s.csiTimeout n = s := by
  unfold State.csiTimeout
  split
  next f opened =>
    rcases h with shut | off
    · rw [shut] at opened
      cases opened
    · rw [off]
      rfl
  · rfl

theorem State.csiTimeout_open (on : s.domOn 75 = true) (opened : (s.cam n).opened = some f) :
    s.csiTimeout n = if f.lines < s.camH n then (s.inc (F.CAM.LATE n)).dropRest n 2 else (s.inc (F.CAM.FE_MISSING n)).closeInput n := by
  rw [State.csiTimeout, opened]
  dsimp only
  rw [on]
  rfl

/-! ### Other packets -/

variable {vc dt : Nat}

theorem State.csiOther_not (h : s.domOn 75 = false ∨ s.camRuns n = false ∨ dt < 8) : s.csiOther n vc dt px = s := by
  unfold State.csiOther
  refine if_pos ?_
  rcases h with off | off | few
  · rw [off]
    rfl
  · rw [off, Bool.and_false]
    rfl
  · rw [decide_eq_true few, Bool.or_true, Bool.true_or]

theorem State.csiOther_shut (on : s.domOn 75 = true) (runs : s.camRuns n = true) (many : 8 ≤ dt) (shut : (s.cam n).opened = none) (other : vc ≠ u8 (s.camBlock n) 1 ∨ dt ≠ u8 (s.camBlock n) 2) :
    s.csiOther n vc dt px = s.inc (F.CAM.IGNORED n) := by
  have image : (vc == u8 (s.camBlock n) 1 && dt == u8 (s.camBlock n) 2) = false := by
    rw [Bool.and_eq_false_iff, beq_eq_false_iff_ne, beq_eq_false_iff_ne]
    exact other
  have few : decide (dt < 8) = false := decide_eq_false (by omega)
  unfold State.csiOther
  dsimp only
  rw [on, runs, few, image, shut]
  rfl

theorem State.csiOther_embedded (on : s.domOn 75 = true) (runs : s.camRuns n = true) (opened : (s.cam n).opened = some f) (mine : vc = u8 (s.camBlock n) 1) (image : u8 (s.camBlock n) 2 ≠ 0x12)
    (embeds : u8 (s.camBlock n) 3 = 1) : s.csiOther n vc 0x12 px = s.setCam n { s.cam n with opened := some { f with emb := (f.emb ++ px).take 256 } } := by
  have own : (vc == u8 (s.camBlock n) 1) = true := beq_iff_eq.2 mine
  have other : (0x12 == u8 (s.camBlock n) 2) = false := beq_eq_false_iff_ne.2 fun same => image same.symm
  unfold State.csiOther
  dsimp only
  rw [on, runs, own, other, opened, embeds]
  rfl

end

end Sys2Proof.Machine
end

section
/-! PROOFS. Camera frames (R254, R255, R260, R263, R264): deferred frames, stripes, strip records and the close of a processed frame. -/
namespace Sys2Proof.Machine

section
variable {s : State} {x : Nat} {j : Job}

/-! ### Deferred frames and stripes -/

theorem Job.same_self (j : Job) : j.same j = true := by simp [Job.same]

/-- A frame's record that is replaced is in hand. -/
theorem State.putJob_mem (s : State) (j k : Job) (held : j ∈ s.vis.jobs) (same : j.same k = true) : k ∈ (s.putJob k).vis.jobs :=
  List.mem_map.2 ⟨j, held, if_pos same⟩

theorem State.deferredStart_not (h : s.domOn 75 = false ∨ s.flag F.PIPE.PIPE_CFG_MODE = true ∨ s.vis.cur ≠ none) : s.deferredStart = s := by
  unfold State.deferredStart
  refine if_pos ?_
  rcases h with off | stripes | busy
  · rw [off]
    rfl
  · rw [stripes, Bool.or_true, Bool.true_or]
  · rw [Option.isSome_iff_ne_none.2 busy, Bool.or_true]

/-- The frame `j` starts. -/
def State.jobStarted (s : State) (j k : Job) : State := ((s.pickBuffer j.cam (branch j.bank 0x0E)).2.memUse 4 0x33 (j.w * j.h * 2)).putJob k

theorem State.jobStarted_jobs (s : State) (j k : Job) (held : j ∈ s.vis.jobs) (same : j.same k = true) : k ∈ (s.jobStarted j k).vis.jobs := by
  refine State.putJob_mem _ j k ?_ same
  rw [(Aside.memUse (own := PipeSide) (s.pickBuffer j.cam (branch j.bank 0x0E)).2 4 0x33 (j.w * j.h * 2) (by decide)).jobs]
  exact held

theorem State.deferredStart_prio (on : s.domOn 75 = true) (mode : s.flag F.PIPE.PIPE_CFG_MODE = false) (idle : s.vis.cur = none)
    (found : s.vis.jobs.find? (fun j => j.deferred && j.closed && !j.started) = some j) (prio : s.get F.PIPE.PIPE_CFG_PRIO = j.cam) :
    s.deferredStart = (s.jobStarted j { j with started := true, disp := (s.pickBuffer j.cam (branch j.bank 0x0E)).1 }).takePipe j.ctx := by
  have mine : (j.cam == s.get F.PIPE.PIPE_CFG_PRIO) = true := beq_iff_eq.2 prio.symm
  unfold State.deferredStart
  rw [on, mode, idle, found]
  dsimp only
  rw [mine]
  rfl

theorem State.deferredStart_spec (on : s.domOn 75 = true) (mode : s.flag F.PIPE.PIPE_CFG_MODE = false) (idle : s.vis.cur = none)
    (found : s.vis.jobs.find? (fun j => j.deferred && j.closed && !j.started) = some j) (prio : s.get F.PIPE.PIPE_CFG_PRIO = j.cam) :
    s.deferredStart.vis.cur = some j.ctx ∧ ∃ k ∈ s.deferredStart.vis.jobs, k.same j = true ∧ k.started = true := by
  have starts := State.deferredStart_prio on mode idle found prio
  have taken := (s.jobStarted j { j with started := true, disp := (s.pickBuffer j.cam (branch j.bank 0x0E)).1 }).takePipe_aside j.ctx
  rw [starts]
  refine ⟨taken.cur, { j with started := true, disp := (s.pickBuffer j.cam (branch j.bank 0x0E)).1 }, ?_, j.same_self, rfl⟩
  rw [taken.jobs]
  exact s.jobStarted_jobs j { j with started := true, disp := (s.pickBuffer j.cam (branch j.bank 0x0E)).1 } (List.mem_of_find?_eq_some found) j.same_self

theorem State.stripe_off (h : s.domOn 75 = false ∨ s.flag F.PIPE.PIPE_CFG_MODE = false) : s.stripe x = s := by
  unfold State.stripe
  refine if_pos ?_
  rcases h with off | frames
  · rw [off]
    rfl
  · rw [frames, Bool.not_false, Bool.or_true]

/-- A stripe of the live frame `j`, in the state whose memory has been used. -/
def State.stripeServed (s : State) (j : Job) (x : Nat) : State :=
  if j.started then (s.putJob { j with served := j.served + 1 }).serveCtx x
  else ((s.pickBuffer j.cam (branch j.bank 0x0E)).2.putJob { j with started := true, served := j.served + 1, disp := (s.pickBuffer j.cam (branch j.bank 0x0E)).1 }).serveCtx x

theorem State.stripe_live (on : s.domOn 75 = true) (mode : s.flag F.PIPE.PIPE_CFG_MODE = true) (low : x < 2)
    (found : s.vis.jobs.find? (fun j => j.ctx == x && !j.live && s.stripeOf j) = some j) : s.stripe x = (s.memUse 2 0x22 (j.w * s.stripeLines * 2)).stripeServed j x := by
  unfold State.stripe
  rw [on, mode]
  refine (if_neg (by decide)).trans ((if_pos low).trans ?_)
  rw [found]
  rfl

theorem State.serveCtx_spec (s : State) (x : Nat) : (s.serveCtx x).vis.last = some x ∧ (s.serveCtx x).vis.jobs = s.vis.jobs := by
  unfold State.serveCtx
  dsimp only
  split <;> exact ⟨rfl, rfl⟩

theorem State.stripeServed_spec (s : State) (held : j ∈ s.vis.jobs) : (s.stripeServed j x).vis.last = some x ∧
    ∃ k ∈ (s.stripeServed j x).vis.jobs, k.same j = true ∧ k.started = true ∧ k.served = j.served + 1 := by
  unfold State.stripeServed
  split
  next started =>
    obtain ⟨last, jobs⟩ := (s.putJob { j with served := j.served + 1 }).serveCtx_spec x
    refine ⟨last, { j with served := j.served + 1 }, ?_, j.same_self, started, rfl⟩
    rw [jobs]
    exact s.putJob_mem j { j with served := j.served + 1 } held j.same_self
  next =>
    obtain ⟨last, jobs⟩ := ((s.pickBuffer j.cam (branch j.bank 0x0E)).2.putJob { j with started := true, served := j.served + 1, disp := (s.pickBuffer j.cam (branch j.bank 0x0E)).1 }).serveCtx_spec x
    refine ⟨last, { j with started := true, served := j.served + 1, disp := (s.pickBuffer j.cam (branch j.bank 0x0E)).1 }, ?_, j.same_self, rfl, rfl⟩
    rw [jobs]
    exact State.putJob_mem _ j { j with started := true, served := j.served + 1, disp := (s.pickBuffer j.cam (branch j.bank 0x0E)).1 } held j.same_self

theorem State.stripe_spec (on : s.domOn 75 = true) (mode : s.flag F.PIPE.PIPE_CFG_MODE = true) (low : x < 2)
    (found : s.vis.jobs.find? (fun j => j.ctx == x && !j.live && s.stripeOf j) = some j) : (s.stripe x).vis.last = some x ∧
    ∃ k ∈ (s.stripe x).vis.jobs, k.same j = true ∧ k.started = true ∧ k.served = j.served + 1 := by
  rw [State.stripe_live on mode low found]
  refine State.stripeServed_spec _ ?_
  rw [(Aside.memUse (own := PipeSide) s 2 0x22 (j.w * s.stripeLines * 2) (by decide)).jobs]
  exact List.mem_of_find?_eq_some found

/-! ### Strip records (R264) -/

/-- Lines of the next strip of a plane, and bytes of its pixels. -/
def Branch.stripLines (b : Branch) (level first : Nat) : Nat := min (64 / 2 ^ level) (b.h / 2 ^ level - first)

/-- The body of a strip record. -/
def Job.stripBody (j : Job) (x : Nat) (coding : Bool) (level w h first lines : Nat) (pix : List Byte) : List Byte :=
  beBytes 1 (if coding then 0x61 else 0x60) ++ beBytes 1 (j.cam + 2 * bit (first == 0) + 4 * bit (first + lines == h) + 16 * bit j.long + 32 * bit j.host + 64 * bit j.deferred) ++ beBytes 1 level ++ beBytes 1 x ++
    beBytes 4 (36 + pix.length) ++ beBytes 8 j.time.toNat ++ beBytes 4 j.frame ++ beBytes 2 w ++ beBytes 2 h ++ beBytes 2 first ++ beBytes 2 lines ++ zeros 4 ++ pix

/-- Bytes of the pixels of a strip. -/
def stripBytes (coding : Bool) (lines w : Nat) : Nat := if coding then lines * w * 3 / 2 else lines * w

theorem Job.stripBody_length (j : Job) (x : Nat) (coding : Bool) (level w h first lines : Nat) (pix : List Byte) : (j.stripBody x coding level w h first lines pix).length = 32 + pix.length := by
  simp [Job.stripBody, zeros]
  omega

theorem Job.stripBody_spec (j : Job) (x : Nat) (coding : Bool) (level w h first lines : Nat) (pix : List Byte) (low : x < 256) (few : level < 256) :
    u8 (withCrc (j.stripBody x coding level w h first lines pix)) 0 = (if coding then 0x61 else 0x60) ∧ u8 (withCrc (j.stripBody x coding level w h first lines pix)) 2 = level ∧
    u8 (withCrc (j.stripBody x coding level w h first lines pix)) 3 = x ∧ (withCrc (j.stripBody x coding level w h first lines pix)).length = 36 + pix.length := by
  refine ⟨?_, (ofBe_beBytes 1 level).trans (Nat.mod_eq_of_lt few), (ofBe_beBytes 1 x).trans (Nat.mod_eq_of_lt low), ?_⟩
  · cases coding
    · exact ofBe_beBytes 1 0x60
    · exact ofBe_beBytes 1 0x61
  · rw [withCrc, List.length_append, j.stripBody_length, length_beBytes]
    omega

/-- Context `x` has sent the strip that ends before `last`. -/
def State.stripSent (s : State) (j : Job) (key last : Nat) (bytes : Nat) : State := (s.freeBytes bytes).2.putJob { j with sent := spSet (fun _ => 0) j.sent key last }

/-- The plane of a strip record. -/
def stripPlane (j : Job) (coding : Bool) : Branch := branch j.bank (if coding then 0x0F else 0x10)

/-- The first line of the next strip. -/
def stripFirst (j : Job) (coding : Bool) (level : Nat) : Nat := spGet (fun _ => 0) j.sent (if coding then 8 else level)

theorem State.strip_none {coding : Bool} {level : Nat} (idle : s.ctxJob x = none) : s.strip x coding level = s := by rw [State.strip, idle]

theorem State.strip_next {coding : Bool} {level : Nat} (on : s.domOn 75 = true) (job : s.ctxJob x = some j) (en : (stripPlane j coding).en = true)
    (level_ : if coding then level = 0 else level < (stripPlane j coding).flags / 4 % 4) (more : stripFirst j coding level < (stripPlane j coding).h / 2 ^ level) :
    ∃ last, s.strip x coding level =
      ((s.stripSent j (if coding then 8 else level) last (stripBytes coding ((stripPlane j coding).stripLines level (stripFirst j coding level)) ((stripPlane j coding).w / 2 ^ level))).camPlace
        (if coding then 4 else 3) j.cam j.frame j.time (withCrc (j.stripBody x coding level ((stripPlane j coding).w / 2 ^ level) ((stripPlane j coding).h / 2 ^ level) (stripFirst j coding level)
          ((stripPlane j coding).stripLines level (stripFirst j coding level))
          (s.freeBytes (stripBytes coding ((stripPlane j coding).stripLines level (stripFirst j coding level)) ((stripPlane j coding).w / 2 ^ level))).1))).2 := by
  have levels : (if coding then level == 0 else decide (level < (stripPlane j coding).flags / 4 % 4)) = true := by
    cases coding
    · exact decide_eq_true level_
    · exact beq_iff_eq.2 level_
  have lines : decide (stripFirst j coding level < (stripPlane j coding).h / 2 ^ level) = true := decide_eq_true more
  refine ⟨stripFirst j coding level + (stripPlane j coding).stripLines level (stripFirst j coding level), ?_⟩
  unfold State.strip
  rw [job]
  dsimp only
  refine (if_pos ?_).trans rfl
  rw [on]
  exact Bool.and_eq_true_iff.2 ⟨Bool.and_eq_true_iff.2 ⟨en, levels⟩, lines⟩

end

end Sys2Proof.Machine
end

section
/-! PROOFS. Camera frames (R260, R263, R264): the strip that is placed, the close of a processed frame, and the statement. -/
namespace Sys2Proof.Machine

section
variable {s : State} {x : Nat} {j : Job}

/-! ### A strip that is placed -/

theorem State.strip_placed {coding : Bool} {level : Nat} (low : x < 4) (few : level < 3) (on : s.domOn 75 = true) (job : s.ctxJob x = some j) (en : (stripPlane j coding).en = true)
    (level_ : if coding then level = 0 else level < (stripPlane j coding).flags / 4 % 4) (more : stripFirst j coding level < (stripPlane j coding).h / 2 ^ level)
    (fresh : s.camRun (if coding then 4 else 3) = none)
    (room : s.streamLevel (if coding then 4 else 3) + (36 + stripBytes coding ((stripPlane j coding).stripLines level (stripFirst j coding level)) ((stripPlane j coding).w / 2 ^ level)) + 64 ≤
      s.camRing (if coding then 4 else 3)) :
    ∃ r : List Byte, ((s.strip x coding level).stream (if coding then 4 else 3)).units = (s.stream (if coding then 4 else 3)).units ++ [r] ∧ u8 r 0 = (if coding then 0x61 else 0x60) ∧ u8 r 2 = level ∧
      u8 r 3 = x ∧ r.length = 36 + stripBytes coding ((stripPlane j coding).stripLines level (stripFirst j coding level)) ((stripPlane j coding).w / 2 ^ level) := by
  obtain ⟨last, leads⟩ := State.strip_next on job en level_ more
  rw [leads]
  generalize stripBytes coding ((stripPlane j coding).stripLines level (stripFirst j coding level)) ((stripPlane j coding).w / 2 ^ level) = bytes at room
  obtain ⟨kind, at_, context, length⟩ := j.stripBody_spec x coding level ((stripPlane j coding).w / 2 ^ level) ((stripPlane j coding).h / 2 ^ level) (stripFirst j coding level)
    ((stripPlane j coding).stripLines level (stripFirst j coding level)) (s.freeBytes bytes).1 (by omega) (by omega)
  rw [s.length_freeBytes] at length
  generalize withCrc _ = r at kind at_ context length ⊢
  generalize (if coding then 8 else level) = key
  generalize (if coding then 4 else 3) = k at fresh room ⊢
  have placed := (s.stripSent j key last bytes).camPlace_room k j.cam j.frame j.time r fresh (by rw [length]; exact room)
  obtain ⟨stream, -, -⟩ := (s.stripSent j key last bytes).memUse_stream 2 0x22 r.length k (by decide)
  refine ⟨r, ?_, kind, at_, context, length⟩
  rw [placed]
  refine (State.ringTakes_one _ k r).1.trans ?_
  rw [stream]
  rfl

/-! ### The close of a processed frame -/

variable (s j)

/-- A complete frame's display buffer. -/
def State.bufferWritten (a : Nat) (pix : List Byte) (bytes : Nat) (h : Handed) : State :=
  let t := ((s.freeBytes bytes).2.memUse 2 0x22 pix.length).dramPut a pix
  { t with vis := { t.vis with bufs := spSet (fun _ => none) t.vis.bufs j.cam (some h) } }

theorem State.handOver_cases : s.handOver j = s ∨ ∃ a pix bytes h, s.handOver j = s.bufferWritten j a pix bytes h := by
  unfold State.handOver
  dsimp only
  split
  · exact .inr ⟨_, _, _, _, rfl⟩
  · exact .inl rfl

theorem State.handOver_aside (own : Nat → Prop) : Aside own s (s.handOver j) := by
  obtain same | ⟨a, pix, bytes, h, written⟩ := s.handOver_cases j
  · rw [same]
    exact .refl s
  · have free : Aside own s (s.freeBytes bytes).2 := ⟨rfl, rfl, rfl, .of_regs rfl⟩
    have stored := (free.trans (.memUse _ 2 0x22 pix.length (by decide))).trans (.dramPut _ a pix)
    rw [written]
    exact ⟨stored.cams, stored.jobs, stored.cur, stored.words.trans (.of_regs rfl)⟩

/-- The words of the summary of context `x`. -/
def SummaryWord (x a : Nat) : Prop := 0x3001040 + 0x400 * x ≤ a ∧ a < 0x3001060 + 0x400 * x

/-- The flicker words of a frame. -/
def State.flickerShown (x freq depth phase : Nat) (valid : Bool) (c : CtxSt) : State :=
  ((((s.set (F.CTX.FLK_FREQ x) freq).set (F.CTX.FLK_DEPTH x) depth).set (F.CTX.FLK_PHASE x) phase).setFlag (F.CTX.FLK_VALID x) valid).setPctx x c

theorem State.flicker_cases : ∃ c : CtxSt, s.flicker j = (s.set (F.CTX.FLK_VALID j.ctx) 0).setPctx j.ctx c ∨ ∃ u : State, u.regs = s.regs ∧ u.vis = s.vis ∧
    ∃ freq depth phase valid near hz, s.flicker j = (u.flickerShown j.ctx freq depth phase valid c).when near (fun s => s.raise EV_CAM_FLICKER j.ctx hz) := by
  unfold State.flicker
  dsimp only
  split
  · exact ⟨_, .inr ⟨s.freeNat.2.freeNat.2.freeNat.2, rfl, rfl, _, _, _, _, _, _, rfl⟩⟩
  · exact ⟨_, .inl rfl⟩

theorem State.flicker_aside : Aside (SummaryWord j.ctx) s (s.flicker j) := by
  have put (u : State) (f : Fld) (v : Nat) (low : 0x3001040 + 0x400 * j.ctx ≤ f.addr) (high : f.addr < 0x3001060 + 0x400 * j.ctx) : Aside (SummaryWord j.ctx) u (u.set f v) := .set u f v ⟨low, high⟩
  have staged (u : State) (c : CtxSt) : Aside (SummaryWord j.ctx) u (u.setPctx j.ctx c) := ⟨rfl, rfl, rfl, .of_regs rfl⟩
  obtain ⟨c, off | ⟨u, regs, vis, freq, depth, phase, valid, near, hz, on⟩⟩ := s.flicker_cases j
  · rw [off]
    exact (put s (F.CTX.FLK_VALID j.ctx) 0 (by simp only [F.CTX.FLK_VALID]; omega) (by simp only [F.CTX.FLK_VALID]; omega)).trans (staged _ c)
  · rw [on]
    have free : Aside (SummaryWord j.ctx) s u := ⟨by rw [vis], by rw [vis], by rw [vis], .of_regs regs⟩
    refine (free.trans (((((put u _ freq ?_ ?_).trans (put _ _ depth ?_ ?_)).trans (put _ _ phase ?_ ?_)).trans (put _ _ _ ?_ ?_)).trans (staged _ c))).trans (.when near (fun v => .raise v _ _ _ (by decide)) _)
    all_goals
      simp only [F.CTX.FLK_FREQ, F.CTX.FLK_DEPTH, F.CTX.FLK_PHASE, F.CTX.FLK_VALID]
      omega

/-- The summary words of a frame that closed whole. -/
def State.summaryShown (mean clip : Nat) : State :=
  ((((((s.set (F.CTX.CAM_FRAME j.ctx) j.frame).set (F.CTX.MEAN_G j.ctx) mean).set (F.CTX.CLIP j.ctx) clip).setFlag (F.CTX.STATS_VALID j.ctx) true).setFlag (F.CTX.LONG j.ctx) j.long).setFlag (F.CTX.SHORT j.ctx)
    false).publish (F.CTX.STAT_SUM_ST j.ctx)

theorem State.summary_eq : ∃ mean clip, s.summary j false = (s.freeNat.2.freeNat.2.flicker j).summaryShown j mean clip := ⟨_, _, rfl⟩

theorem State.summaryShown_aside (mean clip : Nat) : Aside (SummaryWord j.ctx) s (s.summaryShown j mean clip) := by
  have put (u : State) (f : Fld) (v : Nat) (low : 0x3001040 + 0x400 * j.ctx ≤ f.addr) (high : f.addr < 0x3001060 + 0x400 * j.ctx) : Aside (SummaryWord j.ctx) u (u.set f v) := .set u f v ⟨low, high⟩
  unfold State.summaryShown
  refine ((((((put s _ j.frame ?_ ?_).trans (put _ _ mean ?_ ?_)).trans (put _ _ clip ?_ ?_)).trans (put _ _ _ ?_ ?_)).trans (put _ _ _ ?_ ?_)).trans (put _ _ _ ?_ ?_)).trans ((put _ _ 1 ?_ ?_).trans (put _ _ _ ?_ ?_))
  all_goals
    simp only [F.CTX.CAM_FRAME, F.CTX.MEAN_G, F.CTX.CLIP, F.CTX.STATS_VALID, F.CTX.LONG, F.CTX.SHORT, F.CTX.STAT_SUM_ST]
    omega

theorem State.summaryShown_spec (mean clip : Nat) : (s.summaryShown j mean clip).get (F.CTX.CAM_FRAME j.ctx) = j.frame % 2 ^ (F.CTX.CAM_FRAME j.ctx).wd ∧
    (s.summaryShown j mean clip).flag (F.CTX.STATS_VALID j.ctx) = true ∧ (s.summaryShown j mean clip).flag (F.CTX.SHORT j.ctx) = false := by
  have last (u : State) (g : Fld) (other : g.addr ≠ (F.CTX.STAT_SUM_ST j.ctx).addr) : (u.publish (F.CTX.STAT_SUM_ST j.ctx)).get g = u.get g := u.get_publish (F.CTX.STAT_SUM_ST j.ctx) g other
  have bits (f g : Fld) (fits : f.fits = true) (apart : f.lo + f.wd ≤ g.lo ∨ g.lo + g.wd ≤ f.lo) (u : State) (b : Bool) : (u.setFlag f b).get g = u.get g := u.get_set_bits f g _ fits apart
  refine ⟨?_, ?_, ?_⟩
  · have away (f : Fld) (other : (F.CTX.CAM_FRAME j.ctx).addr ≠ f.addr) (u : State) (x : Nat) : (u.set f x).get (F.CTX.CAM_FRAME j.ctx) = u.get (F.CTX.CAM_FRAME j.ctx) := u.get_set_addr f _ x other
    rw [State.summaryShown, last _ _ (by simp only [F.CTX.CAM_FRAME, F.CTX.STAT_SUM_ST]; omega), State.setFlag, away _ (by simp only [F.CTX.CAM_FRAME, F.CTX.SHORT]; omega), State.setFlag,
      away _ (by simp only [F.CTX.CAM_FRAME, F.CTX.LONG]; omega), State.setFlag, away _ (by simp only [F.CTX.CAM_FRAME, F.CTX.STATS_VALID]; omega), away _ (by simp only [F.CTX.CAM_FRAME, F.CTX.CLIP]; omega),
      away _ (by simp only [F.CTX.CAM_FRAME, F.CTX.MEAN_G]; omega)]
    exact s.get_set_same _ j.frame rfl
  · rw [State.summaryShown, State.flag, last _ _ (by simp only [F.CTX.STATS_VALID, F.CTX.STAT_SUM_ST]; omega),
      bits (F.CTX.SHORT j.ctx) (F.CTX.STATS_VALID j.ctx) rfl (.inl (Nat.le_of_ble_eq_true rfl)), bits (F.CTX.LONG j.ctx) (F.CTX.STATS_VALID j.ctx) rfl (.inl (Nat.le_of_ble_eq_true rfl))]
    exact State.flag_setFlag_same _ (F.CTX.STATS_VALID j.ctx) true rfl (Nat.le_refl 1)
  · rw [State.summaryShown, State.flag, last _ _ (by simp only [F.CTX.SHORT, F.CTX.STAT_SUM_ST]; omega)]
    exact State.flag_setFlag_same _ (F.CTX.SHORT j.ctx) false rfl (Nat.le_refl 1)

/-- A waiting STATS_REQUEST takes a frame's record: no register changes. -/
theorem State.statsTake_kept (short : Bool) : (s.statsTake j short).regs = s.regs ∧ (s.statsTake j short).vis.jobs = s.vis.jobs := by
  unfold State.statsTake
  split
  · split
    · exact ⟨rfl, rfl⟩
    · exact ⟨rfl, rfl⟩
  · exact ⟨rfl, rfl⟩

/-- A frame has been told: its context is whole, and a host frame's REPROCESS may end. -/
def State.jobTold : State :=
  let s := s.setPctx j.ctx { s.pctx j.ctx with prevOk := !false }
  if j.host then { s with vis := { s.vis with repro := s.vis.repro.map (fun r => (r.1, r.2.1, true)) } } else s

theorem State.jobTold_kept : (s.jobTold j).regs = s.regs ∧ (s.jobTold j).vis.jobs = s.vis.jobs := by
  unfold State.jobTold
  dsimp only
  split <;> exact ⟨rfl, rfl⟩

theorem State.closeJob_eq : s.closeJob j false = (((((s.handOver j).summary j false).inc (F.CTX.FRAMES_DONE j.ctx)).statsTake j false).jobTold j).endJob j := by
  unfold State.closeJob
  dsimp only
  rw [if_neg Bool.false_ne_true]
  generalize (((s.handOver j).summary j false).inc (F.CTX.FRAMES_DONE j.ctx)).statsTake j false = u
  rfl

theorem State.freeNats_aside (own : Nat → Prop) : Aside own s s.freeNat.2.freeNat.2 := ⟨rfl, rfl, rfl, .of_regs rfl⟩

/-- A whole frame that closes in its context. -/
theorem State.closeJob_spec (low : j.ctx < 4) : (s.closeJob j false).vis.jobs = s.vis.jobs.filter (fun q => !q.same j) ∧
    (s.closeJob j false).get (F.CTX.CAM_FRAME j.ctx) = j.frame % 2 ^ (F.CTX.CAM_FRAME j.ctx).wd ∧ (s.closeJob j false).flag (F.CTX.STATS_VALID j.ctx) = true ∧
    (s.closeJob j false).flag (F.CTX.SHORT j.ctx) = false ∧
    (s.closeJob j false).get (F.CTX.FRAMES_DONE j.ctx) = min (s.get (F.CTX.FRAMES_DONE j.ctx) + 1) (2 ^ (F.CTX.FRAMES_DONE j.ctx).wd - 1) := by
  have handed := s.handOver_aside j (SummaryWord j.ctx)
  obtain ⟨mean, clip, summary⟩ := (s.handOver j).summary_eq j
  have flicker := (handed.trans (State.freeNats_aside _ _)).trans (State.flicker_aside _ j)
  rw [s.closeJob_eq, summary]
  generalize (s.handOver j).freeNat.2.freeNat.2.flicker j = u at flicker
  have shows := flicker.trans (u.summaryShown_aside j mean clip)
  obtain ⟨frame, valid, short⟩ := u.summaryShown_spec j mean clip
  generalize u.summaryShown j mean clip = v at shows frame valid short
  have before : v.get (F.CTX.FRAMES_DONE j.ctx) = s.get (F.CTX.FRAMES_DONE j.ctx) :=
    shows.words.get _ (by simp only [F.CTX.FRAMES_DONE]; omega) (by simp only [F.CTX.FRAMES_DONE]; omega) (by simp only [SummaryWord, F.CTX.FRAMES_DONE]; omega)
  have counts := State.get_inc_of_eq (F.CTX.FRAMES_DONE j.ctx) rfl before
  have kept (g : Fld) (other : g.addr ≠ (F.CTX.FRAMES_DONE j.ctx).addr) : (v.inc (F.CTX.FRAMES_DONE j.ctx)).get g = v.get g := v.get_inc_ne _ g other
  have jobs : (v.inc (F.CTX.FRAMES_DONE j.ctx)).vis.jobs = s.vis.jobs := (congrArg VisionSt.jobs (State.set_vis _ _ _)).trans shows.jobs
  generalize v.inc (F.CTX.FRAMES_DONE j.ctx) = w at counts kept jobs
  obtain ⟨statRegs, statJobs⟩ := w.statsTake_kept j false
  obtain ⟨toldRegs, toldJobs⟩ := (w.statsTake j false).jobTold_kept j
  obtain ⟨-, ends, words⟩ := ((w.statsTake j false).jobTold j).endJob_spec j 0
  have same : BlockWords TakeWord w (((w.statsTake j false).jobTold j).endJob j) := (BlockWords.of_regs (toldRegs.trans statRegs)).trans words
  have final (g : Fld) (lowest : 0x3001040 + 0x400 * j.ctx ≤ g.addr) (high : g.addr < 0x3001064 + 0x400 * j.ctx) : (((w.statsTake j false).jobTold j).endJob j).get g = w.get g :=
    same.get g (by omega) (by omega) (by simp only [TakeWord]; omega)
  refine ⟨ends.trans (by rw [toldJobs, statJobs, jobs]), ?_, ?_, ?_, ?_⟩
  · rw [final _ (by simp only [F.CTX.CAM_FRAME]; omega) (by simp only [F.CTX.CAM_FRAME]; omega), kept _ (by simp only [F.CTX.CAM_FRAME, F.CTX.FRAMES_DONE]; omega)]
    exact frame
  · rw [State.flag, final _ (by simp only [F.CTX.STATS_VALID]; omega) (by simp only [F.CTX.STATS_VALID]; omega), kept _ (by simp only [F.CTX.STATS_VALID, F.CTX.FRAMES_DONE]; omega)]
    exact valid
  · rw [State.flag, final _ (by simp only [F.CTX.SHORT]; omega) (by simp only [F.CTX.SHORT]; omega), kept _ (by simp only [F.CTX.SHORT, F.CTX.FRAMES_DONE]; omega)]
    exact short
  · rw [final _ (by simp only [F.CTX.FRAMES_DONE]; omega) (by simp only [F.CTX.FRAMES_DONE]; omega)]
    exact counts

variable {s j}

theorem State.frameClose_not (h : s.ctxJob x = none ∨ s.domOn 75 = false) : s.frameClose x = s := by
  unfold State.frameClose
  split
  next j job =>
    rcases h with idle | off
    · rw [idle] at job
      cases job
    · dsimp only
      rw [off]
      rfl
  · rfl

theorem State.frameClose_whole (on : s.domOn 75 = true) (job : s.ctxJob x = some j) (closed : j.closed = true) (whole : j.live = true ∨ s.flag F.PIPE.PIPE_CFG_MODE = false) :
    s.frameClose x = s.closeJob j false := by
  have all : (j.live || !s.flag F.PIPE.PIPE_CFG_MODE) = true := by
    rcases whole with live | frames
    · rw [live, Bool.true_or]
    · rw [frames, Bool.not_false, Bool.or_true]
  rw [State.frameClose, job]
  dsimp only
  rw [on, closed, all]
  rfl

theorem State.ctxJob_ctx (job : s.ctxJob x = some j) : j.ctx = x := by
  have met := List.find?_some job
  exact beq_iff_eq.1 (Bool.and_eq_true_iff.1 met).1

end

/-! ### The statement -/

/-- The lighting's count of mispredicted frames is far from the words of domains and cameras. -/
theorem State.illFs_rd (s : State) (n a : Nat) (low : a < 0x6100000) : (s.illFs n).rd a = s.rd a := by
  unfold State.illFs
  dsimp only
  split
  · split
    · exact State.each_keeps (fun v => v.rd a) _ (fun s n => s.inc (F.ILS.MISPREDICT n)) (fun u m => u.rd_set_ne (F.ILS.MISPREDICT m) _ a (by simp only [F.ILS.MISPREDICT]; omega)) s
    · rfl
  · rfl

theorem State.csiFs_off {s : State} {n csi : Nat} (off : s.domOn 75 = false ∨ s.camRuns n = false) : s.csiFs n csi = s := by
  unfold State.csiFs
  refine if_pos ?_
  rcases off with off | off
  · rw [off]
    rfl
  · rw [off, Bool.and_false]
    rfl

theorem State.illFs_off {s : State} {n csi : Nat} (low : n < 2) (off : s.domOn 75 = false ∨ s.camRuns n = false) : (s.illFs n).csiFs n csi = s.illFs n := by
  have dom := State.domOn_congr_of_rd (fun a small => s.illFs_rd n a (by omega)) 75 (by decide)
  have runs : (s.illFs n).camRuns n = s.camRuns n := by
    rw [State.camRuns, State.flag, State.get, s.illFs_rd n _ (by simp only [F.CAM.CSI_STAT_RUN]; omega)]
    rfl
  refine State.csiFs_off ?_
  rw [dom, runs]
  exact off

theorem State.illFs_first {s : State} {n : Nat} (first : (s.cam n).lastFs = none) : s.illFs n = s := by
  unfold State.illFs
  dsimp only
  rw [first]

/-- Settles O44. -/
theorem cameraFrames : Obligations.CameraFrames := by
  unfold Obligations.CameraFrames
  refine ⟨fun n k => .of_effect (fun _ => rfl) fun s off => State.illFs_off n.isLt off, fun n k => .of_effect (fun _ => rfl) fun s ⟨on, runs, shut, first, mode, prio, idle⟩ => ?opens,
    fun n wc crc px hdr ovf => ⟨.of_effect (fun _ => rfl) fun s off => State.csiLine_off off, .of_effect (fun _ => rfl) fun s ⟨on, runs, shut⟩ => State.csiLine_shut on runs shut,
      fun f => ⟨fun full => .of_effect (fun _ => rfl) fun s ⟨on, runs, opened⟩ => ?overflows, fun fits bad => .of_effect (fun _ => rfl) fun s ⟨on, mem, runs, opened⟩ => ?header,
        fun fits clean wrong => .of_effect (fun _ => rfl) fun s ⟨on, mem, runs, opened⟩ => ?checksum,
        fun fits clean right => .of_effect (fun _ => rfl) fun s ⟨on, mem, runs, opened, count⟩ => ?words,
        fun fits clean right => .of_effect (fun _ => rfl) fun s ⟨on, mem, runs, opened, count, within, live⟩ => ?line⟩⟩,
    fun s n r f low opened => s.dropRest_spec n r f low opened,
    fun n k f => ⟨.of_effect (fun _ => rfl) fun s shut => ?noFrame, .of_effect (fun _ => rfl) fun s ⟨on, opened, whole⟩ => ?whole,
      .of_effect (fun _ => rfl) fun s h => State.csiTimeout_not h, .of_effect (fun _ => rfl) fun s ⟨on, opened, short⟩ => (State.csiTimeout_open on opened).trans (if_pos short),
      .of_effect (fun _ => rfl) fun s ⟨on, opened, whole⟩ => (State.csiTimeout_open on opened).trans (if_neg (Nat.not_lt.2 whole))⟩,
    fun n vc dt px f => ⟨.of_effect (fun _ => rfl) fun s h => State.csiOther_not h, .of_effect (fun _ => rfl) fun s ⟨on, runs, many, shut, other⟩ => State.csiOther_shut on runs many shut other,
      .of_effect (fun _ => rfl) fun s ⟨on, runs, opened, mine, image, embeds⟩ => State.csiOther_embedded on runs opened mine image embeds⟩,
    .of_effect (fun _ => rfl) fun s h => State.deferredStart_not h,
    fun j => .of_effect (fun _ => rfl) fun s ⟨on, mode, idle, found, prio⟩ => State.deferredStart_spec on mode idle found prio,
    fun x => .of_effect (fun _ => rfl) fun s h => State.stripe_off h, fun x j low => .of_effect (fun _ => rfl) fun s ⟨on, mode, found⟩ => State.stripe_spec on mode low found,
    fun x coding level j => ⟨.of_effect (fun _ => rfl) fun s idle => State.strip_none idle, fun en level_ more => .of_effect (fun _ => rfl) fun s ⟨on, job, fresh, room⟩ => ?strip⟩,
    fun x j => ⟨.of_effect (fun _ => rfl) fun s h => State.frameClose_not h, .of_effect (fun _ => rfl) fun s ⟨on, job, closed, whole⟩ => ?closes⟩⟩
  case opens =>
    rw [State.illFs_first first]
    exact s.csiFs_opens n k.toNat on runs shut first mode prio idle
  case overflows =>
    refine (State.csiLine_open on runs opened).trans (if_pos ?_)
    rw [full]
    rfl
  case header => exact (State.csiLine_room on mem runs opened fits).trans (if_pos (congrArg Fin.val bad))
  case checksum =>
    refine (State.csiLine_room on mem runs opened fits).trans ((if_neg fun bad => clean (Fin.ext bad)).trans (if_pos ?_))
    rw [wrong]
    rfl
  case words =>
    refine (State.csiLine_room on mem runs opened fits).trans ((if_neg fun bad => clean (Fin.ext bad)).trans ((if_neg ?_).trans (if_pos count)))
    rw [right]
    decide
  case line =>
    have taken : s.csiLine n wc.toNat crc px hdr ovf = s.takeLine n f px := by
      rw [State.csiLine_room on mem runs opened fits, clean, right, if_neg (by decide), if_neg (by decide), if_neg (not_not.2 count)]
      rfl
    rw [taken]
    exact State.takeLine_spec within live
  case noFrame => rw [State.csiFe_shut shut]
  case whole =>
    have closed := s.closeInput_spec n f n.isLt opened whole
    rw [State.csiFe_whole on opened whole]
    generalize s.closeInput n = u at closed
    obtain ⟨vis, regs⟩ := u.lockFe_kept n
    have cam : (u.lockFe n).cam n = u.cam n := by rw [State.cam, vis]; rfl
    have same (g : Fld) : (u.lockFe n).get g = u.get g := by rw [State.get, State.rd_congr regs]; rfl
    simp only [cam, State.flag, same]
    exact closed
  case strip =>
    refine State.strip_placed x.isLt level.isLt on job en ?_ more fresh room
    cases coding
    · exact level_
    · exact congrArg Fin.val level_
  case closes =>
    have mine := State.ctxJob_ctx job
    have closes := s.closeJob_spec j (by omega)
    rw [mine] at closes
    rw [State.frameClose_whole on job closed whole]
    exact closes

end Sys2Proof.Machine
end

section
/-! PROOFS. The display commands (R273, R275, R276, R278, R279) and the COMMIT_REQ write. -/
namespace Sys2Proof.Machine

/-! ### Lists of conditions -/

section
variable (s : State) (go : Reply) {pre : List Check} {l : List (Bool × Nat)} (pass : ∀ c ∈ pre, c.1 = false)
include pass

theorem State.guarded_good (good : l.all (fun e => !e.1) = true) : s.guarded (pre ++ l.map (fun e => badParam e.1 e.2)) go = go := by
  refine State.guarded_pass _ _ _ fun c mem => ?_
  rcases List.mem_append.1 mem with before | later
  · exact pass c before
  · obtain ⟨e, held, rfl⟩ := List.mem_map.1 later
    exact Bool.not_eq_true' _ ▸ List.all_eq_true.1 good e held

theorem State.guarded_bad {k : Nat} (found : l.find? (fun e => e.1) = some (true, k)) (small : k ≤ 0xFD) :
    s.guarded (pre ++ l.map (fun e => badParam e.1 e.2)) go = s.reply (.final 0x12 k []) := by
  have none : pre.find? (fun c => c.1) = none := List.find?_eq_none.2 fun c mem => by simp [pass c mem]
  have first : (l.map (fun e => badParam e.1 e.2)).find? (fun c => c.1) = some (badParam true k) := by
    rw [List.find?_map]
    exact congrArg (Option.map fun e : Bool × Nat => badParam e.1 e.2) found
  rw [State.guarded, List.find?_append, none, Option.none_or, first, badParam, Nat.min_eq_left small]

end

section
variable (s : State) (d : Nat)

theorem State.disp_setDisp (m : Nat) (x : DispSt) : (s.setDisp d x).disp m = if m = d then x else s.disp m := spGet_spSet _ _ _ _ _

theorem State.disp_setDisp_same (x : DispSt) : (s.setDisp d x).disp d = x := (s.disp_setDisp d d x).trans (if_pos rfl)

/-! ### DISP_MODE (R273) -/

theorem timingBad_words (t : List Byte) : ∀ e ∈ timingBad t, e.2 ≤ 0xFD := by simp [timingBad]

theorem found_small {l : List (Bool × Nat)} {k : Nat} (words : ∀ e ∈ l, e.2 ≤ 0xFD) (found : l.find? (fun e => e.1) = some (true, k)) : k ≤ 0xFD := words _ (List.mem_of_find?_eq_some found)

/-- The words of a timing block. -/
def State.timings (b : List Byte) (n : Nat) : State := s.each (List.range n) (fun s i => s.set (F.DSP.TIMING d i) (u32 b (4 * i)))

/-- A display whose timing has been accepted. -/
def State.configured (x : DispSt) : State := (s.set (F.DSP.DISP_STAT_CONFIGURED d) 1).setDisp d x

theorem State.configured_spec (x : DispSt) : s.configured d x = { s with regs := (s.configured d x).regs, disps := (s.configured d x).disps } ∧
    (∀ i, (s.configured d x).get (F.DSP.TIMING d i) = s.get (F.DSP.TIMING d i)) ∧ (s.configured d x).flag (F.DSP.DISP_STAT_CONFIGURED d) = true ∧ (s.configured d x).disp d = x :=
  ⟨rfl, fun i => s.get_set_addr (F.DSP.DISP_STAT_CONFIGURED d) (F.DSP.TIMING d i) 1 (by simp only [F.DSP.TIMING, F.DSP.DISP_STAT_CONFIGURED]; omega),
    s.flag_set_one (F.DSP.DISP_STAT_CONFIGURED d) rfl rfl, State.disp_setDisp_same _ _ _⟩

/-- A display with an accepted timing block. -/
def State.timed (b : List Byte) : State := (s.timings d b 8).configured d { s.disp d with pclk := u32 b 0 }

theorem State.timings_regs (b : List Byte) (n : Nat) : s.timings d b n = { s with regs := (s.timings d b n).regs } := by
  induction n with
  | zero => rfl
  | succ n ih =>
    have last : s.timings d b (n + 1) = (s.timings d b n).set (F.DSP.TIMING d n) (u32 b (4 * n)) := State.each_range_succ _ _ _
    rw [last]
    exact congrArg (fun x : State => x.set (F.DSP.TIMING d n) (u32 b (4 * n))) ih

theorem State.timings_get (b : List Byte) (n i : Nat) (low : i < n) : (s.timings d b n).get (F.DSP.TIMING d i) = u32 b (4 * i) := by
  induction n with
  | zero => omega
  | succ n ih =>
    have last : s.timings d b (n + 1) = (s.timings d b n).set (F.DSP.TIMING d n) (u32 b (4 * n)) := State.each_range_succ _ _ _
    rw [last]
    by_cases here : i = n
    · rw [here, State.get_set_same _ _ _ rfl]
      exact Nat.mod_eq_of_lt (beAt_lt b (4 * n) 4)
    · rw [State.get_set_addr _ _ _ _ (by simp only [F.DSP.TIMING]; omega)]
      exact ih (by omega)

theorem State.timed_spec (b : List Byte) : s.timed d b = { s with regs := (s.timed d b).regs, disps := (s.timed d b).disps } ∧ (∀ i < 8, (s.timed d b).get (F.DSP.TIMING d i) = u32 b (4 * i)) ∧
    (s.timed d b).flag (F.DSP.DISP_STAT_CONFIGURED d) = true ∧ (s.timed d b).disp d = { s.disp d with pclk := u32 b 0 } := by
  have regs := s.timings_regs d b 8
  have words := s.timings_get d b 8
  unfold State.timed
  generalize s.timings d b 8 = u at regs words
  obtain ⟨whole, kept, flag, own⟩ := u.configured_spec d { s.disp d with pclk := u32 b 0 }
  refine ⟨?_, fun i low => (kept i).trans (words i low), flag, own⟩
  rw [regs] at whole ⊢
  exact whole

end

/-- The payload of DISP_MODE (Table 2-10). -/
def modeOperands (d : Byte) (b : List Byte) : List Byte := [d] ++ zeros 3 ++ b

section
variable (u : State) (d : Byte) (b : List Byte) (low : d.toNat ≤ 1)
include low

theorem cmdDispMode_eq : cmdDispMode u (modeOperands d b) = u.guarded (([u.needDom 76, u.badState (u.flag (F.DSP.DISP_STAT_RUNNING d.toNat)), badParam false 0] : List Check) ++
    (timingBad b).map (fun e => badParam e.1 e.2)) ((u.timed d.toNat b).done []) := by
  have display : u8 (modeOperands d b) 0 = d.toNat := ofBe_byte d
  have block : (modeOperands d b).drop 4 = b := rfl
  have reserved : notZero (modeOperands d b) 1 3 = false := notZero_zeros_between [d] b 1 3 rfl
  have here : decide (d.toNat < 2) = true := decide_eq_true (by omega)
  have inside : decide (1 < d.toNat) = false := decide_eq_false (by omega)
  unfold cmdDispMode
  simp only [display, block, reserved, here, inside, Bool.true_and, Bool.false_or]
  rfl

theorem cmdDispMode_done (on : u.domOn 76 = true) (still : u.flag (F.DSP.DISP_STAT_RUNNING d.toNat) = false) (good : (timingBad b).all (fun e => !e.1) = true) :
    cmdDispMode u (modeOperands d b) = (u.timed d.toNat b).done [] := by
  rw [cmdDispMode_eq u d b low]
  exact u.guarded_good _ (by simp [State.needDom, State.badState, badParam, on, still]) good

theorem cmdDispMode_bad {k : Nat} (on : u.domOn 76 = true) (still : u.flag (F.DSP.DISP_STAT_RUNNING d.toNat) = false) (found : (timingBad b).find? (fun e => e.1) = some (true, k)) :
    cmdDispMode u (modeOperands d b) = u.reply (.final 0x12 k []) := by
  rw [cmdDispMode_eq u d b low]
  exact u.guarded_bad _ (by simp [State.needDom, State.badState, badParam, on, still]) found (found_small (timingBad_words b) found)

theorem cmdDispMode_runs (on : u.domOn 76 = true) (runs : u.flag (F.DSP.DISP_STAT_RUNNING d.toNat) = true) : cmdDispMode u (modeOperands d b) = u.reply (.final 0x13 u.stateCode []) := by
  rw [cmdDispMode_eq u d b low]
  simp [State.guarded, State.needDom, State.badState, on, runs]

end

/-! ### DISP_RUN (R275, R287) -/

/-- The payload of DISP_RUN (Table 2-10). -/
def runOperands (d r : Byte) : List Byte := [d, r] ++ zeros 2

section
variable (u : State) (d : Nat)

/-- A display that starts. -/
def State.dispStarts : State :=
  ((u.set (F.DSP.DISP_STAT_RUNNING d) 1).setBitAt F.SYS.CLK_STAT_LOCKED (3 + d) true).setDisp d { u.disp d with
    stopping := false, first := true, next := 0, shown := none, ovl := none, staleSaid := false, errRun := false, under := false, send := false, pclk := u32 (u.timing d) 0, good := 0,
    bad := 0, fe := none, lost := false }

theorem State.dispStarts_spec : u.dispStarts d = { u with regs := (u.dispStarts d).regs, disps := (u.dispStarts d).disps } ∧ (u.dispStarts d).flag (F.DSP.DISP_STAT_RUNNING d) = true ∧
    ((u.dispStarts d).disp d).next = 0 ∧ ((u.dispStarts d).disp d).first = true ∧ ((u.dispStarts d).disp d).pclk = u32 (u.timing d) 0 := by
  have own := ((u.set (F.DSP.DISP_STAT_RUNNING d) 1).setBitAt F.SYS.CLK_STAT_LOCKED (3 + d) true).disp_setDisp_same d { u.disp d with
    stopping := false, first := true, next := 0, shown := none, ovl := none, staleSaid := false, errRun := false, under := false, send := false, pclk := u32 (u.timing d) 0, good := 0,
    bad := 0, fe := none, lost := false }
  have locked : (u.dispStarts d).get (F.DSP.DISP_STAT_RUNNING d) = (u.set (F.DSP.DISP_STAT_RUNNING d) 1).get (F.DSP.DISP_STAT_RUNNING d) :=
    State.get_set_addr _ F.SYS.CLK_STAT_LOCKED (F.DSP.DISP_STAT_RUNNING d) _ (by simp only [F.DSP.DISP_STAT_RUNNING, F.SYS.CLK_STAT_LOCKED]; omega)
  refine ⟨rfl, ?_, congrArg DispSt.next own, congrArg DispSt.first own, congrArg DispSt.pclk own⟩
  rw [State.flag, locked]
  exact u.flag_set_one (F.DSP.DISP_STAT_RUNNING d) rfl rfl

end

section
variable (u : State) (d r : Byte)

theorem cmdDispRun_eq (low : d.toNat ≤ 1) (bit_ : r.toNat ≤ 1) : cmdDispRun u (runOperands d r) =
    u.guarded [u.needDom 76, ((decide (r.toNat = 1) && !u.flag (F.DSP.DISP_STAT_RUNNING d.toNat)) && !u.flag (F.DSP.DISP_STAT_CONFIGURED d.toNat), 0x75, 0),
      ((decide (r.toNat = 1) && !u.flag (F.DSP.DISP_STAT_RUNNING d.toNat)) && !(u.vUp d.toNat && rateCarries (u.timing d.toNat) (u.get (F.OZ.LINK_STAT_RATE (1 + d.toNat)))), 0x74, leastRate (u.timing d.toNat)),
      badParam false 0]
    ((if decide (r.toNat = 1) && !u.flag (F.DSP.DISP_STAT_RUNNING d.toNat) then u.dispStarts d.toNat
      else if r.toNat = 0 ∧ u.flag (F.DSP.DISP_STAT_RUNNING d.toNat) = true then
        if (u.disp d.toNat).first then u.dispStop d.toNat else u.setDisp d.toNat { u.disp d.toNat with stopping := true }
      else u).done []) := by
  have display : u8 (runOperands d r) 0 = d.toNat := ofBe_byte d
  have run : u8 (runOperands d r) 1 = r.toNat := ofBe_byte r
  have reserved : notZero (runOperands d r) 2 2 = false := notZero_append_zeros [d, r] 2 2 rfl
  have inside : decide (1 < d.toNat ∨ 1 < r.toNat) = false := decide_eq_false (by omega)
  have start : decide (d.toNat < 2 ∧ r.toNat = 1) = decide (r.toNat = 1) := by
    have here : d.toNat < 2 := by omega
    simp only [here, true_and]
  unfold cmdDispRun
  simp only [display, run, reserved, inside, start, Bool.false_or]
  rfl

end

end Sys2Proof.Machine
end

section
/-! PROOFS. The display commands (R275, R276, R278, R279): DISP_RUN and LAYER_SET as rows, commits, and the loss of frame lock. -/
namespace Sys2Proof.Machine

/-! ### DISP_RUN as a row -/

section
variable (via : Port) (seq : BitVec 16) (d : Byte) (low : d.toNat ≤ 1)
include low

theorem displays_run :
    Does (.dispRun via seq d 1) (fun u => u.domOn 76 = true ∧ u.flag (F.DSP.DISP_STAT_RUNNING d.toNat) = false ∧ u.flag (F.DSP.DISP_STAT_CONFIGURED d.toNat) = true ∧ u.vUp d.toNat = true ∧
        rateCarries (u.timing d.toNat) (u.get (F.OZ.LINK_STAT_RATE (1 + d.toNat))) = true) (fun _ => [])
      (fun u t => t = { u with regs := t.regs, disps := t.disps } ∧ t.flag (F.DSP.DISP_STAT_RUNNING d.toNat) = true ∧ (t.disp d.toNat).next = 0 ∧ (t.disp d.toNat).first = true ∧
        (t.disp d.toNat).pclk = u32 (u.timing d.toNat) 0) := by
  refine .of_handler rfl fun u ⟨on, still, ready, up, carries⟩ => ⟨u.dispStarts d.toNat, ?_, u.dispStarts_spec d.toNat⟩
  refine (cmdDispRun_eq u d 1 low (by decide)).trans ((u.guarded_pass _ _ ?_).trans ?_)
  · simp [State.needDom, State.badState, badParam, on, still, ready, up, carries]
  · rw [still, if_pos (by decide)]

theorem displays_unconfigured :
    TurnsAway (.dispRun via seq d 1) (fun u => u.domOn 76 = true ∧ u.flag (F.DSP.DISP_STAT_RUNNING d.toNat) = false ∧ u.flag (F.DSP.DISP_STAT_CONFIGURED d.toNat) = false) 0x75 (fun _ => 0) := by
  refine .of_handler rfl fun u ⟨on, still, raw⟩ => (cmdDispRun_eq u d 1 low (by decide)).trans ?_
  simp [State.guarded, State.needDom, State.badState, on, still, raw]

theorem displays_portDown :
    TurnsAway (.dispRun via seq d 1) (fun u => u.domOn 76 = true ∧ u.flag (F.DSP.DISP_STAT_RUNNING d.toNat) = false ∧ u.flag (F.DSP.DISP_STAT_CONFIGURED d.toNat) = true ∧ u.vUp d.toNat = false)
      0x74 (fun u => leastRate (u.timing d.toNat)) := by
  refine .of_handler rfl fun u ⟨on, still, ready, down⟩ => (cmdDispRun_eq u d 1 low (by decide)).trans ?_
  simp [State.guarded, State.needDom, State.badState, on, still, ready, down]

theorem displays_runsAlready :
    Does (.dispRun via seq d 1) (fun u => u.domOn 76 = true ∧ u.flag (F.DSP.DISP_STAT_RUNNING d.toNat) = true) (fun _ => []) Nothing := by
  refine .of_answer rfl fun u ⟨on, runs⟩ => (cmdDispRun_eq u d 1 low (by decide)).trans ((u.guarded_pass _ _ ?_).trans ?_)
  · simp [State.needDom, State.badState, badParam, on, runs]
  · rw [runs, if_neg (by decide), if_neg (by decide)]

theorem displays_stop :
    Does (.dispRun via seq d 0) (fun u => u.domOn 76 = true ∧ u.flag (F.DSP.DISP_STAT_RUNNING d.toNat) = true ∧ (u.disp d.toNat).first = false) (fun _ => [])
      (fun u t => t = u.setDisp d.toNat { u.disp d.toNat with stopping := true }) := by
  refine .of_handler rfl fun u ⟨on, runs, later⟩ => ⟨_, (cmdDispRun_eq u d 0 low (by decide)).trans ((u.guarded_pass _ _ ?_).trans ?_), rfl⟩
  · simp [State.needDom, State.badState, badParam, on]
  · rw [runs, later, if_neg (by decide), if_pos ⟨rfl, rfl⟩, if_neg Bool.false_ne_true]

theorem displays_stopped :
    Does (.dispRun via seq d 0) (fun u => u.domOn 76 = true ∧ u.flag (F.DSP.DISP_STAT_RUNNING d.toNat) = false) (fun _ => []) Nothing := by
  refine .of_answer rfl fun u ⟨on, still⟩ => (cmdDispRun_eq u d 0 low (by decide)).trans ((u.guarded_pass _ _ ?_).trans ?_)
  · simp [State.needDom, State.badState, badParam, on]
  · rw [still, if_neg (by decide), if_neg (fun h => Bool.false_ne_true h.2)]

end

/-! ### LAYER_SET (R276) -/

/-- The payload of LAYER_SET (Table 2-10). -/
def layerOperands (d l : Byte) (b : List Byte) : List Byte := [d, l] ++ zeros 2 ++ b

section
variable (u : State) (d l : Byte) (b : List Byte)

/-- The staged bank of a display with another layer. -/
def State.layerStaged (u : State) (d l : Nat) (b : List Byte) : State := u.setDisp d { u.disp d with staged := (u.disp d).staged.set l b }

theorem cmdLayerSet_eq (low : d.toNat ≤ 1) (layer : l.toNat ≤ 2) : cmdLayerSet u (layerOperands d l b) =
    u.guarded (([u.needDom 76, badParam false 0] : List Check) ++ (u.layerBad d.toNat l.toNat b).map (fun e => badParam e.1 e.2)) ((u.layerStaged d.toNat l.toNat b).done []) := by
  have display : u8 (layerOperands d l b) 0 = d.toNat := ofBe_byte d
  have number : u8 (layerOperands d l b) 1 = l.toNat := ofBe_byte l
  have block : (layerOperands d l b).drop 4 = b := rfl
  have reserved : notZero (layerOperands d l b) 2 2 = false := notZero_zeros_between [d, l] b 2 2 rfl
  have inside : decide (1 < d.toNat ∨ 2 < l.toNat) = false := decide_eq_false (by omega)
  unfold cmdLayerSet
  simp only [display, number, block, reserved, inside, Bool.false_or]
  rfl

theorem State.layerBad_words (m n : Nat) : ∀ e ∈ u.layerBad m n b, e.2 ≤ 0xFD := by simp [State.layerBad]

end

theorem displays_layer (via : Port) (seq : BitVec 16) (d l : Byte) (b : List Byte) (low : d.toNat ≤ 1) (layer : l.toNat ≤ 2) :
    Does (.layerSet via seq d l b) (fun u => u.domOn 76 = true ∧ (u.layerBad d.toNat l.toNat b).all (fun e => !e.1) = true) (fun _ => [])
      (fun u t => t = u.setDisp d.toNat { u.disp d.toNat with staged := (u.disp d.toNat).staged.set l.toNat b }) ∧
    (∀ k, TurnsAway (.layerSet via seq d l b) (fun u => u.domOn 76 = true ∧ (u.layerBad d.toNat l.toNat b).find? (fun e => e.1) = some (true, k)) 0x12 (fun _ => k)) := by
  refine ⟨.of_handler rfl fun u ⟨on, good⟩ => ⟨_, (cmdLayerSet_eq u d l b low layer).trans (u.guarded_good _ ?_ good), rfl⟩,
    fun k => .of_handler rfl fun u ⟨on, found⟩ => (cmdLayerSet_eq u d l b low layer).trans (u.guarded_bad _ ?_ found (found_small (u.layerBad_words b _ _) found))⟩
  all_goals simp [State.needDom, State.badState, badParam, on]

/-! ### Commits (R278, R279) -/

section
variable (u : State) (d : Nat)

/-- A superseded commit counts. -/
def State.supersedes (u : State) (d : Nat) : State := u.when (u.disp d).waits (fun s => s.inc (F.DSP.SUPERSEDED d))

/-- The bank of a running display waits for the flip point. -/
def State.bankWaits (u : State) (d : Nat) (x : DispSt) (closed : Bool) : State := u.setDisp d { x with pending := x.staged, waits := true, skip := closed, missed := closed }

theorem State.commit_running (runs : u.flag (F.DSP.DISP_STAT_RUNNING d) = true) : u.commit d = (u.supersedes d).bankWaits d (u.disp d) (u.windowClosed d) := if_pos runs

theorem State.commit_running_spec (runs : u.flag (F.DSP.DISP_STAT_RUNNING d) = true) : ((u.commit d).disp d).pending = (u.disp d).staged ∧ ((u.commit d).disp d).waits = true ∧
    ((u.commit d).disp d).skip = u.windowClosed d := by
  rw [u.commit_running d runs]
  have own := (u.supersedes d).disp_setDisp_same d { u.disp d with pending := (u.disp d).staged, waits := true, skip := u.windowClosed d, missed := u.windowClosed d }
  exact ⟨congrArg DispSt.pending own, congrArg DispSt.waits own, congrArg DispSt.skip own⟩

theorem State.supersedes_words : DevWords (fun a => a = (F.DSP.SUPERSEDED d).addr) u (u.supersedes d) := DevWords.when (own := fun a => a = (F.DSP.SUPERSEDED d).addr) _ (fun v => .set v (F.DSP.SUPERSEDED d) _ rfl) u

/-- The words of the first `n` of the active bank. -/
def State.activated (u : State) (d : Nat) (bank : List (List Byte)) (n : Nat) : State :=
  u.each (List.range n) (fun s i => s.set ⟨(F.DSP.LAYER d i).addr, 0, 32⟩ (u32 (bank.getD (i / 8) []) (4 * (i % 8))))

theorem State.activated_get (bank : List (List Byte)) (n i : Nat) (low : i < n) : (u.activated d bank n).get ⟨(F.DSP.LAYER d i).addr, 0, 32⟩ = u32 (bank.getD (i / 8) []) (4 * (i % 8)) := by
  induction n with
  | zero => omega
  | succ n ih =>
    have last : u.activated d bank (n + 1) = (u.activated d bank n).set ⟨(F.DSP.LAYER d n).addr, 0, 32⟩ (u32 (bank.getD (n / 8) []) (4 * (n % 8))) := State.each_range_succ _ _ _
    rw [last]
    by_cases here : i = n
    · rw [here, State.get_set_same _ _ _ rfl]
      exact Nat.mod_eq_of_lt (beAt_lt _ _ 4)
    · rw [State.get_set_addr _ _ _ _ (by simp only [F.DSP.LAYER]; omega)]
      exact ih (by omega)

/-- The words of the layers of display `d`. -/
def LayerWord (d a : Nat) : Prop := 0x31000A0 + 0x400 * d ≤ a ∧ a < 0x3100100 + 0x400 * d

theorem State.activate_words (bank : List (List Byte)) : DevWords (LayerWord d) u (u.activate d bank) :=
  .each _ _ (fun v i mem => .set v _ _ (by have low := List.mem_range.1 mem; simp only [LayerWord, F.DSP.LAYER]; omega)) u

theorem State.activate_get (bank : List (List Byte)) (i : Nat) (low : i < 24) : (u.activate d bank).get ⟨(F.DSP.LAYER d i).addr, 0, 32⟩ = u32 (bank.getD (i / 8) []) (4 * (i % 8)) :=
  u.activated_get d bank 24 i low

theorem State.commit_still (still : u.flag (F.DSP.DISP_STAT_RUNNING d) = false) : u.commit d = (u.setDisp d { u.disp d with pending := (u.disp d).staged }).activate d (u.disp d).staged :=
  if_neg (by rw [still]; exact Bool.false_ne_true)

theorem State.commit_still_spec (low : d < 2) (still : u.flag (F.DSP.DISP_STAT_RUNNING d) = false) : (u.commit d).flag (F.DSP.DISP_STAT_RUNNING d) = false ∧
    ∀ i < 24, (u.commit d).get ⟨(F.DSP.LAYER d i).addr, 0, 32⟩ = u32 ((u.disp d).staged.getD (i / 8) []) (4 * (i % 8)) := by
  rw [u.commit_still d still]
  refine ⟨?_, fun i few => State.activate_get _ d _ i few⟩
  have words := (u.setDisp d { u.disp d with pending := (u.disp d).staged }).activate_words d (u.disp d).staged
  rw [State.flag, words.get _ (by simp only [F.DSP.DISP_STAT_RUNNING]; omega) (by simp only [F.DSP.DISP_STAT_RUNNING]; omega) (by simp only [LayerWord, F.DSP.DISP_STAT_RUNNING]; omega)]
  exact still

/-- What follows the answer of a COMMIT: where the display stands still, its completion. -/
def State.commitAnswered (d : Nat) (t : State) : State := if t.flag (F.DSP.DISP_STAT_RUNNING d) then t else t.complete 0x0502 0 0 (t.flipData d)

/-- The payload of COMMIT (Table 2-10). -/
def bankOperands (d : Byte) : List Byte := [d] ++ zeros 3

theorem cmdCommit_eq (m : Byte) (low : m.toNat ≤ 1) (on : u.domOn 76 = true) (free : u.rangeBusy 0x0502 = false) :
    cmdCommit u (bankOperands m) = ⟨.accepted m.toNat, u.commit m.toNat, State.commitAnswered m.toNat⟩ := by
  have display : u8 (bankOperands m) 0 = m.toNat := ofBe_byte m
  have reserved : notZero (bankOperands m) 1 3 = false := notZero_append_zeros [m] 1 3 rfl
  have inside : decide (1 < m.toNat) = false := decide_eq_false (by omega)
  unfold cmdCommit
  simp only [display, reserved, inside, free]
  refine (State.guarded_pass _ _ _ ?_).trans (if_neg Bool.false_ne_true)
  simp [State.needDom, State.badState, badParam, on]

/-- A display's state bit does not depend on the start and the answer of a command. -/
theorem State.running_begun (low : d < 2) (port : Port) (op : Nat) (seq : BitVec 16) (tag : Nat) (a : Answer) (kept : AnsState) :
    ((u.start port op seq tag).sendReply port op seq a kept).flag (F.DSP.DISP_STAT_RUNNING d) = u.flag (F.DSP.DISP_STAT_RUNNING d) := by
  have begun : DevWords (fun _ => False) u ((u.start port op seq tag).sendReply port op seq a kept) := (DevWords.of_regs (t := u.start port op seq tag) rfl).trans (.sendReply _ _ _ _ _ _)
  rw [State.flag, begun.get _ (by simp only [F.DSP.DISP_STAT_RUNNING]; omega) (by simp only [F.DSP.DISP_STAT_RUNNING]; omega) not_false]
  rfl

end

section
variable (via : Port) (seq : BitVec 16) (d : Byte)

theorem State.finish_posted (x : State) (post : State → State) (via : Port) (op : Nat) (seq : BitVec 16) (tag : Nat) :
    State.finish ⟨.accepted tag, x, post⟩ via op seq = post ((x.start via op seq tag).sendReply via op seq (x.answer 1 0 []) (.accepted (x.answer 1 0 []))) := rfl

/-- A bank that was handed over, with the command answered. -/
def State.bankAnswered (u : State) (via : Port) (seq : BitVec 16) (d : Nat) : State :=
  ((u.commit d).start via 0x0502 seq d).sendReply via 0x0502 seq ((u.commit d).answer 1 0 []) (.accepted ((u.commit d).answer 1 0 []))

theorem commit_exec {s : State} {p : Pkt} {u : State} (low : d.toNat ≤ 1) (runs : Runs (.commit via seq d) s p u) (on : u.domOn 76 = true) (free : u.rangeBusy 0x0502 = false) :
    p = ⟨via, seq, 0x0502, bankOperands d⟩ ∧ exec (.commit via seq d) s = .next (State.commitAnswered d.toNat (u.bankAnswered via seq d.toNat)).calm := by
  obtain ⟨packet, exec⟩ := runs.exec_row rfl
  have run : runOp via u 0x0502 ([d] ++ zeros 3) = ⟨.accepted d.toNat, u.commit d.toNat, State.commitAnswered d.toNat⟩ := cmdCommit_eq u d low on free
  refine ⟨packet, ?_⟩
  rw [exec, run, State.finish_posted]
  rfl

theorem displays_commit (low : d.toNat ≤ 1) :
    Starts (.commit via seq d) (fun u => u.domOn 76 = true ∧ u.rangeBusy 0x0502 = false ∧ u.flag (F.DSP.DISP_STAT_RUNNING d.toNat) = true) d.toNat
      (fun u t => t = u.commit d.toNat ∧ (t.disp d.toNat).pending = (u.disp d.toNat).staged ∧ (t.disp d.toNat).waits = true ∧ (t.disp d.toNat).skip = u.windowClosed d.toNat) := by
  intro s p u runs ⟨on, free, running⟩
  obtain ⟨rfl, leads⟩ := commit_exec via seq d low runs on free
  have after : (u.commit d.toNat).flag (F.DSP.DISP_STAT_RUNNING d.toNat) = true := by
    rw [u.commit_running d.toNat running]
    have same := (u.supersedes_words d.toNat).get (F.DSP.DISP_STAT_RUNNING d.toNat) (by simp only [F.DSP.DISP_STAT_RUNNING]; omega) (by simp only [F.DSP.DISP_STAT_RUNNING]; omega)
      (by simp only [F.DSP.DISP_STAT_RUNNING, F.DSP.SUPERSEDED]; omega)
    exact (congrArg (fun x => x == 1) same).trans running
  have answered : (u.bankAnswered via seq d.toNat).flag (F.DSP.DISP_STAT_RUNNING d.toNat) = true := (State.running_begun _ d.toNat (by omega) via 0x0502 seq d.toNat _ _).trans after
  refine ⟨u.commit d.toNat, ?_, rfl, u.commit_running_spec d.toNat running⟩
  rw [Begun, leads, State.commitAnswered, if_pos answered]
  rfl

theorem displays_commitStill (low : d.toNat ≤ 1) (s : State) (p : Pkt) (u : State) (runs : Runs (.commit via seq d) s p u) (on : u.domOn 76 = true) (free : u.rangeBusy 0x0502 = false)
    (still : u.flag (F.DSP.DISP_STAT_RUNNING d.toNat) = false) :
    let t := u.commit d.toNat
    let x := (t.start p.via p.op p.seq d.toNat).sendReply p.via p.op p.seq (t.answer 1 0 []) (.accepted (t.answer 1 0 []))
    exec (.commit via seq d) s = .next (x.complete 0x0502 0 0 (x.flipData d.toNat)).calm ∧
      ∀ i < 24, t.get ⟨(F.DSP.LAYER d.toNat i).addr, 0, 32⟩ = u32 ((u.disp d.toNat).staged.getD (i / 8) []) (4 * (i % 8)) := by
  obtain ⟨rfl, leads⟩ := commit_exec via seq d low runs on free
  obtain ⟨after, layers⟩ := u.commit_still_spec d.toNat (by omega) still
  have answered : (u.bankAnswered via seq d.toNat).flag (F.DSP.DISP_STAT_RUNNING d.toNat) = false := (State.running_begun _ d.toNat (by omega) via 0x0502 seq d.toNat _ _).trans after
  refine ⟨?_, layers⟩
  rw [leads, State.commitAnswered, if_neg (by rw [answered]; exact Bool.false_ne_true)]
  rfl

end

/-! ### The COMMIT_REQ write (R278) -/

theorem State.wrVision_commitReq (u : State) (d : Nat) (low : d < 2) : u.wrVision (F.DSP.DISP_CTRL_COMMIT_REQ d).addr 1 = u.commit d := by
  have display : ((F.DSP.DISP_CTRL_COMMIT_REQ d).addr - 0x3100000) / 0x400 = d := by simp only [F.DSP.DISP_CTRL_COMMIT_REQ]; omega
  have far : 0x3100000 ≤ (F.DSP.DISP_CTRL_COMMIT_REQ d).addr := Nat.le_add_right _ _
  rw [State.wrVision, if_neg (by omega), if_neg (by omega), if_neg (by omega), State.wrDisplay, display]
  exact (if_pos rfl).trans (if_pos rfl)

theorem displays_commitReq (via : Port) (seq : BitVec 16) (d : Fin 2) : Writes (.commitReqWrite via seq d) (F.DSP.DISP_CTRL_COMMIT_REQ d).addr 1 (fun _ => True) (fun u t => t = u.commit d) := by
  have low := d.isLt
  have at_ : (F.DSP.DISP_CTRL_COMMIT_REQ d).addr = 0x3100000 + 0x400 * d.val := rfl
  refine .of_word rfl (by omega) (by omega) ?_ ?_ (fun u _ => u.writeRefused_other _ [_] (.inr (by omega))) (plainWord_of_range _ (by omega)) fun u noStep _ => ?_
  · match d with
    | 0 => decide
    | 1 => decide
  · match d with
    | 0 => decide
    | 1 => decide
  · rw [u.hostStore_vision _ 1 noStep (by omega) (by omega)]
    exact u.wrVision_commitReq d low

/-! ### The loss of frame lock (R284) -/

/-- Frame lock is lost. -/
def State.lockLost (s : State) (d : Nat) : State := (s.setDisp d { s.disp d with good := 0, bad := 0, lost := true }).set (F.DSP.DISP_STAT_LOCKED d) 0

theorem State.lockTimeout_locked {s : State} {d : Nat} (on : s.domOn 76 = true) (locked : s.flag (F.DSP.DISP_STAT_LOCKED d) = true) :
    s.lockTimeout d = (s.lockLost d).raise EV_DISP_LOCK_LOST d 0 := if_pos (by rw [on, locked]; rfl)

theorem State.lockLost_spec (s : State) (d : Nat) : s.lockLost d = { s with regs := (s.lockLost d).regs, disps := (s.lockLost d).disps } ∧
    SameRegs s (s.lockLost d) [(F.DSP.DISP_STAT_LOCKED d).addr] ∧ (s.lockLost d).flag (F.DSP.DISP_STAT_LOCKED d) = false ∧
    (s.lockLost d).disp d = { s.disp d with good := 0, bad := 0, lost := true } :=
  ⟨rfl, fun a other => State.rd_set_ne _ _ _ a fun same => other (List.mem_singleton.2 same), State.flag_setFlag_same _ (F.DSP.DISP_STAT_LOCKED d) false rfl (Nat.le_refl 1),
    s.disp_setDisp_same d { s.disp d with good := 0, bad := 0, lost := true }⟩

theorem State.lockTimeout_not {s : State} {d : Nat} (h : s.domOn 76 = false ∨ s.flag (F.DSP.DISP_STAT_LOCKED d) = false) : s.lockTimeout d = s := by
  refine if_neg ?_
  rcases h with off | free
  · rw [off]
    exact Bool.false_ne_true
  · rw [free, Bool.and_false]
    exact Bool.false_ne_true

end Sys2Proof.Machine
end

section
/-! PROOFS. Flip points (R278 to R284, R288, R289): the bank that applies, and the stages of a frame's choice. -/
namespace Sys2Proof.Machine

section
variable (s : State) (d : Nat)

/-! ### The stages of a flip -/

/-- The display of a frame that begins. -/
def DispSt.flipped (x : DispSt) (cam ovl : Option Handed) (since now : Nat) (stale err hidden up rep : Bool) : DispSt :=
  { x with
    first := false, next := (x.next + 1) % 2 ^ 32, shown := cam, ovl := ovl, since := since, staleSaid := stale, errRun := err, hide0 := err,
    hide1 := err || hidden, under := false, send := up, repeated := rep, flip := now }

/-- What a flip counts and raises. -/
def State.flipCounted (rep hidden down stale staleNew err errNew : Bool) : State :=
  ((((((((s.inc (F.DSP.FRAMES d)).when rep (fun s => s.inc (F.DSP.REPEATS d))).when hidden (fun s => s.inc (F.DSP.OVL_HIDDEN d))).when down (fun s => s.inc (F.DSP.LINK_DOWN d))).when stale
    (fun s => s.inc (F.DSP.STALE_FLIPS d))).when staleNew (fun s => s.raise EV_DISP_CAMERA_STALE d 0)).when err (fun s => s.set (F.DSP.DISP_STAT_LAYER_ERR d) 1)).when errNew
    (fun s => s.raise EV_DISP_LAYER_ERROR d 0))

/-- The numbers of a flip's result group. -/
def State.flipNumbers (frame cam ovl : Nat) : State :=
  (((s.set (F.DSP.FRAME d) frame).set64 (F.DSP.FLIP_TIME_LO d) (F.DSP.FLIP_TIME_HI d) s.time.dev).set (F.DSP.CAM_FRAME d) cam).set (F.DSP.OVL_FRAME d) ovl

/-- The bits of a flip's result group. -/
def State.flipBits (committed stale down err hidden under missed rep : Bool) : State :=
  ((((((((s.setFlag (F.DSP.COMMITTED d) committed).setFlag (F.DSP.STALE d) stale).setFlag (F.DSP.LINK_DOWN_58 d) down).setFlag (F.DSP.LAYER_ERR d) err).setFlag (F.DSP.OVL_HIDDEN_58 d) hidden).setFlag
    (F.DSP.PREV_UNDERRUN d) under).setFlag (F.DSP.MISSED d) missed).setFlag (F.DSP.REPEAT d) rep).publish (F.DSP.DISP_FLIP_ST d)

/-- The frame's start on its stream (Table 12-6). -/
def State.flipRecord (rep : Bool) (frame pclk : Nat) : List Byte :=
  beBytes 1 0x71 ++ beBytes 1 (bit rep + 2 * s.get (F.DSP.DISP_STAT_LOCKED d)) ++ beBytes 2 frame ++ beBytes 4 48 ++ beBytes 8 s.time.dev.toNat ++ beBytes 4 pclk ++ (s.timing d).drop 4

/-- LAT_TOL after the start of a frame. -/
def State.flipDemand (clocks : Nat) : State := if s.dispBytes d = 0 then s.noDemand d else s.setLatTol d clocks

/-- The frame's start leaves. -/
def State.flipSent (up rep : Bool) (frame pclk : Nat) : State :=
  if up then (s.txPut (8 + d) (s.flipRecord d rep frame pclk)).flipDemand d ((u16 (s.timing d) 16 + u16 (s.timing d) 18) * hTotal (s.timing d)) else s.noDemand d

/-- The commit that the flip executed completes. -/
def State.flipEnded (committed : Bool) : State := s.when committed (fun s => s.endCommit d 0 0 (s.flipData d))

/-- The camera buffer is the one that the last frame showed. -/
def State.flipRepeats : Bool := (s.flipCamera d).isSome && s.flipCamera d == (s.disp d).shown

/-- The camera frame is the one that the last frame showed. -/
def State.flipSame : Bool := (s.flipCamera d).isSome && (s.flipCamera d).map Handed.frame == (s.disp d).shown.map Handed.frame

/-- Since when the camera frame is shown. -/
def State.flipSince : Nat := if s.flipSame d then (s.disp d).since else s.time.dev.toNat

/-- The camera frame is stale. -/
def State.flipStale : Bool := s.flipSame d && decide (1000000 * s.get (F.DSP.DISP_CFG_STALE_MS d) < s.time.dev.toNat - s.flipSince d)

/-- The camera's buffer does not cover layer 0. -/
def State.flipErr : Bool :=
  match s.flipCamera d with
  | some h => decide (h.w < u16 (s.layer d 0) 4 + u16 (s.layer d 0) 8 ∨ h.h < u16 (s.layer d 0) 6 + u16 (s.layer d 0) 10)
  | none => false

/-- The overlay is too old. -/
def State.flipHidden : Bool :=
  match s.flipOverlay d, s.flipCamera d with
  | some o, some h => decide (s.get (F.DSP.DISP_CFG_OVL_AGE d) < (h.frame + 2 ^ 32 - o.frame) % 2 ^ 32 ∧ (h.frame + 2 ^ 32 - o.frame) % 2 ^ 32 < 2 ^ 31)
  | some _, none => true
  | none, _ => false

/-- The display of a flip whose bank is settled. -/
def State.flipShown : State :=
  s.setDisp d ((s.disp d).flipped (s.flipCamera d) (s.flipOverlay d) (s.flipSince d) s.time.dev.toNat (s.flipStale d) (s.flipErr d) (s.flipHidden d) (s.vUp d) (s.flipRepeats d))

/-- A flip whose bank is settled. -/
def State.flipFrame (committed missed : Bool) : State :=
  ((((((s.flipShown d).flipCounted d (s.flipRepeats d) (s.flipHidden d) (!s.vUp d) (s.flipStale d) (s.flipStale d && !(s.disp d).staleSaid) (s.flipErr d) (s.flipErr d && !(s.disp d).errRun)).flipNumbers d
    (s.disp d).next (((s.flipCamera d).map Handed.frame).getD 0) (((s.flipOverlay d).map Handed.frame).getD 0)).flipBits d committed (s.flipStale d) (!s.vUp d) (s.flipErr d) (s.flipHidden d)
    (s.disp d).under missed (s.flipRepeats d)).flipSent d (s.vUp d) (s.flipRepeats d) (s.disp d).next (s.disp d).pclk).flipEnded d committed)

theorem State.flipPoint_frame (on : s.domOn 76 = true) (runs : s.flag (F.DSP.DISP_STAT_RUNNING d) = true) (goes : (s.disp d).stopping = false) (free : u8 (s.timing d) 20 / 4 % 2 = 0) :
    s.flipPoint d = (s.flipBank d).2.2.flipFrame d (s.flipBank d).1 (s.flipBank d).2.1 := by
  have unlocked : (u8 (s.timing d) 20 / 4 % 2 == 1) = false := by rw [free]; rfl
  unfold State.flipPoint
  rw [on, runs, goes, unlocked, if_neg (by decide), if_neg (by decide)]
  extract_lets s0 b u x now up cam rep same since stale l0 err ov hidden frame shown c1 c2 c3 c4 c5 c6 c7 n1 n2 b1 b2 b3 t put sent
  have display : shown = u.flipShown d := rfl
  clear_value shown
  have counted : c7 = shown.flipCounted d rep hidden (!up) stale (stale && !x.staleSaid) err (err && !x.errRun) := rfl
  clear_value c7
  have numbers : n2 = c7.flipNumbers d frame ((cam.map Handed.frame).getD 0) ((ov.map Handed.frame).getD 0) := rfl
  clear_value n2
  have bits : b3 = n2.flipBits d b.1 stale (!up) err hidden x.under b.2.1 rep := rfl
  clear_value b3
  have leaves : sent = b3.flipSent d up rep frame x.pclk := rfl
  clear_value sent
  have ended : sent.when b.1 (fun s => s.endCommit d 0 0 (s.flipData d)) = sent.flipEnded d b.1 := rfl
  rw [ended, leaves, bits, numbers, counted, display]
  rfl

end

end Sys2Proof.Machine
end

section
/-! PROOFS. Flip points (R278 to R284, R288, R289): what each stage of a flip leaves, and what the frame shows. -/
namespace Sys2Proof.Machine

theorem State.raise_tx (s : State) (n i d : Nat) : (s.raise n i d).tx = s.tx := by
  obtain ⟨-, told⟩ | ⟨-, t, told, raised⟩ := s.raise_cases n i d
  · exact (congrArg State.tx told).trans rfl
  · rw [raised]
    exact (congrArg State.tx told).trans rfl

/-! ### Steps that leave the displays and the streams -/

/-- A step that changes the words `own` and what tells of events alone, as far as displays, streams, time and device words go. -/
structure FlipStep (own : Nat → Prop) (s t : State) : Prop where
  disps : t.disps = s.disps
  tx : t.tx = s.tx
  time : t.time = s.time
  words : BlockWords own s t

namespace FlipStep
variable {own : Nat → Prop} {s t u : State}

theorem refl (s : State) : FlipStep own s s := ⟨rfl, rfl, rfl, .refl s⟩

theorem trans (first : FlipStep own s t) (second : FlipStep own t u) : FlipStep own s u :=
  ⟨second.disps.trans first.disps, second.tx.trans first.tx, second.time.trans first.time, first.words.trans second.words⟩

theorem set (s : State) (f : Fld) (x : Nat) (mine : own f.addr) : FlipStep own s (s.set f x) := ⟨rfl, rfl, rfl, .set s f x mine⟩

theorem raise (s : State) (n i d : Nat) (known : n < 256) : FlipStep own s (s.raise n i d) := by
  have told := Answering.raise s n i d
  exact ⟨(congrArg State.disps told).trans rfl, s.raise_tx n i d, (congrArg State.time told).trans rfl, .raise s n i d known⟩

theorem when (b : Bool) {f : State → State} (h : ∀ u, FlipStep own u (f u)) (s : State) : FlipStep own s (s.when b f) := by
  cases b
  · exact .refl s
  · exact h s

theorem each {α : Type} (l : List α) (f : State → α → State) (step : ∀ u, ∀ a ∈ l, FlipStep own u (f u a)) (s : State) : FlipStep own s (s.each l f) := by
  induction l generalizing s with
  | nil => exact .refl s
  | cons a l ih => exact (step s a List.mem_cons_self).trans (ih (fun u b mem => step u b (List.mem_cons_of_mem _ mem)) _)

theorem disp_eq (h : FlipStep own s t) (d : Nat) : t.disp d = s.disp d := by rw [State.disp, h.disps]; rfl

theorem stream_eq (h : FlipStep own s t) (k : Nat) : t.stream k = s.stream k := by rw [State.stream, h.tx]; rfl

end FlipStep

/-- The status, count and result words of display `d`. -/
def FlipWord (d a : Nat) : Prop := 0x3100000 + 0x400 * d ≤ a ∧ a < 0x3100080 + 0x400 * d

section
variable (s : State) (d : Nat)

/-! ### The bank -/

/-- The bank that waited becomes the active one. -/
def State.bankApplied : State := (s.setDisp d { s.disp d with waits := false, missed := false }).activate d (s.disp d).pending

/-- A missed commit counts and is told. -/
def State.missTold (missed : Bool) : State := s.when missed (fun s => (s.inc (F.DSP.MISSED_COMMITS d)).raise EV_DISP_COMMIT_MISSED d 0)

theorem State.flipBank_applies (waits : (s.disp d).waits = true) (due : (s.disp d).skip = false) : s.flipBank d = (true, (s.disp d).missed, (s.bankApplied d).missTold d (s.disp d).missed) :=
  (if_neg (by rw [waits]; decide)).trans (if_neg (by rw [due]; decide))

theorem State.flipBank_none (none_ : (s.disp d).waits = false) : s.flipBank d = (false, false, s) := if_pos (by rw [none_]; rfl)

theorem State.flipBank_skips (waits : (s.disp d).waits = true) (later : (s.disp d).skip = true) : s.flipBank d = (false, false, s.setDisp d { s.disp d with skip := false }) :=
  (if_neg (by rw [waits]; decide)).trans (if_pos later)

/-- What the bank's part of a flip may touch. -/
def BankWord (d a : Nat) : Prop := LayerWord d a ∨ a = (F.DSP.MISSED_COMMITS d).addr

theorem State.activate_step (bank : List (List Byte)) : FlipStep (BankWord d) s (s.activate d bank) :=
  .each _ _ (fun v i mem => .set v _ _ (.inl (by have low := List.mem_range.1 mem; simp only [LayerWord, F.DSP.LAYER]; omega))) s

theorem State.missTold_step (missed : Bool) : FlipStep (fun a => a = (F.DSP.MISSED_COMMITS d).addr) s (s.missTold d missed) :=
  .when _ (fun v => (FlipStep.set (own := fun a => a = (F.DSP.MISSED_COMMITS d).addr) v (F.DSP.MISSED_COMMITS d) _ rfl).trans (.raise _ _ _ _ (by decide))) s

/-- What a flip's bank leaves of the display. -/
structure BankSettled (d : Nat) (s t : State) : Prop where
  next : (t.disp d).next = (s.disp d).next
  tx : t.tx = s.tx
  time : t.time = s.time
  words : BlockWords (BankWord d) s t
  quiet : Quiet [] s t

/-- The layers of display `d` read as in a bank. -/
def State.showsBank (t : State) (d : Nat) (bank : List (List Byte)) : Prop :=
  ∀ i < 24, t.get ⟨(F.DSP.LAYER d i).addr, 0, 32⟩ = u32 (bank.getD (i / 8) []) (4 * (i % 8))

theorem State.flipBank_committed : (s.flipBank d).1 = ((s.disp d).waits && !(s.disp d).skip) := by
  cases waits : (s.disp d).waits
  · rw [s.flipBank_none d waits]
    rfl
  · cases skip : (s.disp d).skip
    · rw [s.flipBank_applies d waits skip]
      rfl
    · rw [s.flipBank_skips d waits skip]
      rfl

theorem State.activate_quiet (bank : List (List Byte)) : Quiet [] s (s.activate d bank) :=
  .each _ _ (fun v i _ => .set v _ _ (by simp only [F.DSP.LAYER]; omega)) s

theorem State.bankApplied_settled (missed : Bool) (low : d < 2) : BankSettled d s ((s.bankApplied d).missTold d missed) ∧ (((s.bankApplied d).missTold d missed).disp d).waits = false ∧
    ((s.bankApplied d).missTold d missed).showsBank d (s.disp d).pending := by
  have own := s.disp_setDisp_same d { s.disp d with waits := false, missed := false }
  have start : BlockWords (BankWord d) s (s.setDisp d { s.disp d with waits := false, missed := false }) := .of_regs rfl
  have applied := (s.setDisp d { s.disp d with waits := false, missed := false }).activate_step d (s.disp d).pending
  have layers := (s.setDisp d { s.disp d with waits := false, missed := false }).activate_get d (s.disp d).pending
  have quiet : Quiet [] s (s.bankApplied d) := (Quiet.of_regs (s := s) (t := s.setDisp d { s.disp d with waits := false, missed := false }) rfl rfl).trans (State.activate_quiet _ d _)
  have told := (s.bankApplied d).missTold_step d missed
  have toldQuiet : Quiet [] (s.bankApplied d) ((s.bankApplied d).missTold d missed) :=
    .when _ (fun v => (Quiet.set v (F.DSP.MISSED_COMMITS d) _ (by simp only [F.DSP.MISSED_COMMITS]; omega)).trans (.raise _ _ _ _)) _
  have disp : ((s.bankApplied d).missTold d missed).disp d = { s.disp d with waits := false, missed := false } := (told.disp_eq d).trans ((applied.disp_eq d).trans own)
  refine ⟨⟨(congrArg DispSt.next disp).trans rfl, told.tx.trans applied.tx, told.time.trans applied.time, (start.trans applied.words).trans (told.words.mono fun _ => .inr), quiet.trans toldQuiet⟩,
    congrArg DispSt.waits disp, fun i few => ?_⟩
  refine (told.words.get _ ?_ ?_ ?_).trans (layers i few)
  all_goals
    simp only [F.DSP.LAYER, F.DSP.MISSED_COMMITS]
    omega

/-- The three ends of a flip's bank. -/
theorem State.flipBank_spec (low : d < 2) : BankSettled d s (s.flipBank d).2.2 ∧
    ((s.disp d).waits = true → (s.disp d).skip = false → ((s.flipBank d).2.2.disp d).waits = false ∧ (s.flipBank d).2.2.showsBank d (s.disp d).pending) ∧
    ((s.disp d).waits = false → (s.flipBank d).2.2 = s) := by
  cases waits : (s.disp d).waits
  · rw [s.flipBank_none d waits]
    exact ⟨⟨rfl, rfl, rfl, .refl s, .refl s⟩, fun h => absurd h Bool.false_ne_true, fun _ => rfl⟩
  · cases skip : (s.disp d).skip
    · obtain ⟨settled, free, shows⟩ := s.bankApplied_settled d (s.disp d).missed low
      rw [s.flipBank_applies d waits skip]
      exact ⟨settled, fun _ _ => ⟨free, shows⟩, fun h => absurd h.symm Bool.false_ne_true⟩
    · have own := s.disp_setDisp_same d { s.disp d with skip := false }
      rw [s.flipBank_skips d waits skip]
      exact ⟨⟨(congrArg DispSt.next own).trans rfl, rfl, rfl, .of_regs rfl, .of_regs rfl rfl⟩, fun _ h => absurd h.symm Bool.false_ne_true, fun h => absurd h.symm Bool.false_ne_true⟩

/-- The port of a display does not depend on its bank. -/
theorem BankSettled.vUp_eq {s t : State} {d : Nat} (h : BankSettled d s t) (low : d < 2) : t.vUp d = s.vUp d := by
  have dom := State.domOn_congr_of_rd (fun a small => h.quiet.rd_all a (by omega)) 77 (by decide)
  have stat := h.words.get (F.OZ.LINK_STAT_STATE (1 + d)) (by simp only [F.OZ.LINK_STAT_STATE]; omega) (by simp only [F.OZ.LINK_STAT_STATE]; omega)
    (by simp only [BankWord, LayerWord, F.DSP.MISSED_COMMITS, F.OZ.LINK_STAT_STATE]; omega)
  rw [State.vUp, State.vUp, dom, stat]

/-! ### The frame -/

theorem State.flipShown_spec : (s.flipShown d).regs = s.regs ∧ (s.flipShown d).tx = s.tx ∧ (s.flipShown d).time = s.time ∧ ((s.flipShown d).disp d).next = ((s.disp d).next + 1) % 2 ^ 32 ∧
    ((s.flipShown d).disp d).flip = s.time.dev.toNat ∧ ((s.flipShown d).disp d).waits = (s.disp d).waits := by
  have own := s.disp_setDisp_same d
    ((s.disp d).flipped (s.flipCamera d) (s.flipOverlay d) (s.flipSince d) s.time.dev.toNat (s.flipStale d) (s.flipErr d) (s.flipHidden d) (s.vUp d) (s.flipRepeats d))
  exact ⟨rfl, rfl, rfl, congrArg DispSt.next own, congrArg DispSt.flip own, (congrArg DispSt.waits own).trans rfl⟩

/-- The words that a flip counts in, FRAMES apart. -/
def CountWord (d a : Nat) : Prop := FlipWord d a ∧ a ≠ (F.DSP.FRAMES d).addr

variable (rep hidden down stale staleNew err errNew : Bool)

theorem State.flipCounted_step : FlipStep (CountWord d) (s.inc (F.DSP.FRAMES d)) (s.flipCounted d rep hidden down stale staleNew err errNew) := by
  have put (f : Fld) (x : State → Nat) (b : Bool) (mine : CountWord d f.addr) (v : State) : FlipStep (CountWord d) v (v.when b (fun s => s.set f (x s))) := .when _ (fun w => .set w f _ mine) v
  have tell (n : Nat) (known : n < 256) (b : Bool) (v : State) : FlipStep (CountWord d) v (v.when b (fun s => s.raise n d 0)) := .when _ (fun w => .raise w n d 0 known) v
  unfold State.flipCounted
  refine (((((((put (F.DSP.REPEATS d) _ rep ?_ _).trans (put (F.DSP.OVL_HIDDEN d) _ hidden ?_ _)).trans (put (F.DSP.LINK_DOWN d) _ down ?_ _)).trans (put (F.DSP.STALE_FLIPS d) _ stale ?_ _)).trans
    (tell _ ?_ staleNew _)).trans (put (F.DSP.DISP_STAT_LAYER_ERR d) (fun _ => 1) err ?_ _)).trans (tell _ ?_ errNew _))
  case refine_5 => decide
  case refine_7 => decide
  all_goals
    simp only [CountWord, FlipWord, F.DSP.REPEATS, F.DSP.OVL_HIDDEN, F.DSP.LINK_DOWN, F.DSP.STALE_FLIPS, F.DSP.DISP_STAT_LAYER_ERR, F.DSP.FRAMES]
    omega

variable (frame cam ovl : Nat)

/-- The words of a flip's numbers. -/
def NumberWord (d a : Nat) : Prop := 0x3100044 + 0x400 * d ≤ a ∧ a < 0x3100058 + 0x400 * d

theorem State.flipNumbers_step : FlipStep (NumberWord d) s (s.flipNumbers d frame cam ovl) ∧ (s.flipNumbers d frame cam ovl).get (F.DSP.FRAME d) = frame % 2 ^ (F.DSP.FRAME d).wd := by
  have put (v : State) (f : Fld) (x : Nat) (mine : NumberWord d f.addr) : FlipStep (NumberWord d) v (v.set f x) := .set v f x mine
  have away (f : Fld) (other : (F.DSP.FRAME d).addr ≠ f.addr) (v : State) (x : Nat) : (v.set f x).get (F.DSP.FRAME d) = v.get (F.DSP.FRAME d) := v.get_set_addr f _ x other
  refine ⟨(((put s _ frame ?_).trans ((put _ _ _ ?_).trans (put _ _ _ ?_))).trans (put _ _ cam ?_)).trans (put _ _ ovl ?_), ?_⟩
  case refine_6 =>
    rw [State.flipNumbers, away _ (by simp only [F.DSP.FRAME, F.DSP.OVL_FRAME]; omega), away _ (by simp only [F.DSP.FRAME, F.DSP.CAM_FRAME]; omega), State.set64,
      away _ (by simp only [F.DSP.FRAME, F.DSP.FLIP_TIME_HI]; omega), away _ (by simp only [F.DSP.FRAME, F.DSP.FLIP_TIME_LO]; omega)]
    exact s.get_set_same (F.DSP.FRAME d) frame rfl
  all_goals
    simp only [NumberWord, F.DSP.FRAME, F.DSP.FLIP_TIME_LO, F.DSP.FLIP_TIME_HI, F.DSP.CAM_FRAME, F.DSP.OVL_FRAME]
    omega

variable (committed under missed : Bool)

/-- The words of a flip's bits. -/
def BitsWord (d a : Nat) : Prop := a = 0x3100058 + 0x400 * d ∨ a = 0x3100040 + 0x400 * d

theorem State.flipBits_step : FlipStep (BitsWord d) s (s.flipBits d committed stale down err hidden under missed rep) ∧
    (s.flipBits d committed stale down err hidden under missed rep).flag (F.DSP.COMMITTED d) = committed := by
  have put (v : State) (f : Fld) (b : Bool) (mine : BitsWord d f.addr) : FlipStep (BitsWord d) v (v.setFlag f b) := .set v f _ mine
  have bits (f : Fld) (fits : f.fits = true) (apart : f.lo + f.wd ≤ (F.DSP.COMMITTED d).lo ∨ (F.DSP.COMMITTED d).lo + (F.DSP.COMMITTED d).wd ≤ f.lo) (v : State) (b : Bool) :
      (v.setFlag f b).get (F.DSP.COMMITTED d) = v.get (F.DSP.COMMITTED d) := v.get_set_bits f _ _ fits apart
  have publishes (v : State) : FlipStep (BitsWord d) v (v.publish (F.DSP.DISP_FLIP_ST d)) := (FlipStep.set v _ _ (.inr rfl)).trans (.set _ _ _ (.inr rfl))
  have last (v : State) : (v.publish (F.DSP.DISP_FLIP_ST d)).get (F.DSP.COMMITTED d) = v.get (F.DSP.COMMITTED d) :=
    v.get_publish (F.DSP.DISP_FLIP_ST d) (F.DSP.COMMITTED d) (by simp only [F.DSP.COMMITTED, F.DSP.DISP_FLIP_ST]; omega)
  refine ⟨((((((((put s _ _ (.inl rfl)).trans (put _ _ _ (.inl rfl))).trans (put _ _ _ (.inl rfl))).trans (put _ _ _ (.inl rfl))).trans (put _ _ _ (.inl rfl))).trans (put _ _ _ (.inl rfl))).trans
    (put _ _ _ (.inl rfl))).trans (put _ _ _ (.inl rfl))).trans (publishes _), ?_⟩
  rw [State.flipBits, State.flag, last, bits (F.DSP.REPEAT d) rfl (.inl (Nat.le_of_ble_eq_true rfl)), bits (F.DSP.MISSED d) rfl (.inl (Nat.le_of_ble_eq_true rfl)),
    bits (F.DSP.PREV_UNDERRUN d) rfl (.inl (Nat.le_of_ble_eq_true rfl)), bits (F.DSP.OVL_HIDDEN_58 d) rfl (.inl (Nat.le_of_ble_eq_true rfl)), bits (F.DSP.LAYER_ERR d) rfl (.inl (Nat.le_of_ble_eq_true rfl)),
    bits (F.DSP.LINK_DOWN_58 d) rfl (.inl (Nat.le_of_ble_eq_true rfl)), bits (F.DSP.STALE d) rfl (.inl (Nat.le_of_ble_eq_true rfl))]
  exact State.flag_setFlag_same s (F.DSP.COMMITTED d) committed rfl (Nat.le_refl 1)

end

end Sys2Proof.Machine
end

section
/-! PROOFS. Flip points and lines (R275, R278 to R280, R285 to R289): the frame's start, the end of a commit, the stop, the active lines; and the statement about displays. -/
namespace Sys2Proof.Machine

section
variable (s : State) (d : Nat)

/-! ### The end of a commit -/

theorem State.setSession_tx (p : Port) (x : Session) : (s.setSession p x).tx = s.tx := by cases p <;> rfl

/-- A packet that leaves touches stream 0 at most. -/
theorem State.sendOn_stream (p : Port) (b : List Byte) (k : Nat) (other : k ≠ 0) : (s.sendOn p b).stream k = s.stream k := by
  cases p with
  | spi => rfl
  | udp q => rfl
  | oazil => exact (s.stream_setStream 0 _ k).trans (if_neg other)

theorem State.complete_stream (op status detail : Nat) (data : List Byte) (k : Nat) (other : k ≠ 0) : (s.complete op status detail data).stream k = s.stream k := by
  unfold State.complete
  split
  · rfl
  · dsimp only
    rw [State.stream, State.raise_tx]
    refine (State.when_field (fun v => v.stream k) _ (fun s => s.sendOn _ _) (fun v => v.sendOn_stream _ _ k other) _).trans ?_
    rw [State.stream, State.setSession_tx]
    rfl

/-- The end of a commit leaves the displays, the streams but the first, and the words of displays and of the system. -/
theorem State.endCommit_spec (status detail : Nat) (data : List Byte) : (s.endCommit d status detail data).disps = s.disps ∧
    (∀ k ≠ 0, (s.endCommit d status detail data).stream k = s.stream k) ∧ DevWords (fun _ => False) s (s.endCommit d status detail data) ∧ Quiet [] s (s.endCommit d status detail data) := by
  unfold State.endCommit
  split
  · exact ⟨(congrArg State.disps (Answering.complete s 0x0502 status detail data)).trans rfl, fun k other => s.complete_stream 0x0502 status detail data k other, .complete s _ _ _ _, .complete s _ _ _ _⟩
  · exact ⟨rfl, fun _ _ => rfl, .refl s, .refl s⟩

theorem State.flipEnded_none : s.flipEnded d false = s := rfl

theorem State.flipEnded_commit : s.flipEnded d true = s.endCommit d 0 0 (s.flipData d) := rfl

/-! ### The frame's start -/

theorem State.flipDemand_step (clocks : Nat) : FlipStep (fun a => a = (F.DSP.LAT_TOL d).addr) s (s.flipDemand d clocks) := by
  unfold State.flipDemand
  split
  · exact .set s (F.DSP.LAT_TOL d) _ rfl
  · exact .set s (F.DSP.LAT_TOL d) _ rfl

theorem State.length_timing : (s.timing d).length = 32 := (length_flatMap_const _ _ 4 fun _ _ => length_beBytes 4 _).trans rfl

theorem State.flipRecord_spec (rep : Bool) (frame pclk : Nat) : (s.flipRecord d rep frame pclk).length = 48 ∧ u8 (s.flipRecord d rep frame pclk) 0 = 0x71 ∧
    u16 (s.flipRecord d rep frame pclk) 2 = frame % 2 ^ 16 := by
  refine ⟨?_, ofBe_beBytes 1 0x71, ofBe_beBytes 2 frame⟩
  have rest : ((s.timing d).drop 4).length = 28 := by rw [List.length_drop, s.length_timing]
  simp [State.flipRecord, rest]

theorem State.flipSent_spec (up rep : Bool) (frame pclk : Nat) : (s.flipSent d up rep frame pclk).disps = s.disps ∧ BlockWords (fun a => a = (F.DSP.LAT_TOL d).addr) s (s.flipSent d up rep frame pclk) ∧
    (up = false → (s.flipSent d up rep frame pclk).stream (8 + d) = s.stream (8 + d)) ∧
    (up = true → ((s.flipSent d up rep frame pclk).stream (8 + d)).units = (s.stream (8 + d)).units ++ [s.flipRecord d rep frame pclk]) := by
  unfold State.flipSent
  cases up
  · rw [if_neg Bool.false_ne_true]
    have demand : FlipStep (fun a => a = (F.DSP.LAT_TOL d).addr) s (s.noDemand d) := .set s (F.DSP.LAT_TOL d) _ rfl
    exact ⟨demand.disps, demand.words, fun _ => demand.stream_eq (8 + d), fun h => absurd h Bool.false_ne_true⟩
  · rw [if_pos rfl]
    have demand := (s.txPut (8 + d) (s.flipRecord d rep frame pclk)).flipDemand_step d ((u16 (s.timing d) 16 + u16 (s.timing d) 18) * hTotal (s.timing d))
    have put : BlockWords (fun a => a = (F.DSP.LAT_TOL d).addr) s (s.txPut (8 + d) (s.flipRecord d rep frame pclk)) := .of_regs rfl
    refine ⟨demand.disps.trans rfl, put.trans demand.words, fun h => absurd h.symm Bool.false_ne_true, fun _ => ?_⟩
    rw [demand.stream_eq]
    exact s.stream_txPut (8 + d) _

/-! ### A frame whose bank is settled -/

variable (committed missed : Bool)

/-- The state in which a flip's start is sent. -/
def State.flipTold : State :=
  ((((s.flipShown d).flipCounted d (s.flipRepeats d) (s.flipHidden d) (!s.vUp d) (s.flipStale d) (s.flipStale d && !(s.disp d).staleSaid) (s.flipErr d) (s.flipErr d && !(s.disp d).errRun)).flipNumbers d
    (s.disp d).next (((s.flipCamera d).map Handed.frame).getD 0) (((s.flipOverlay d).map Handed.frame).getD 0)).flipBits d committed (s.flipStale d) (!s.vUp d) (s.flipErr d) (s.flipHidden d)
    (s.disp d).under missed (s.flipRepeats d))

theorem State.flipFrame_eq : s.flipFrame d committed missed = ((s.flipTold d committed missed).flipSent d (s.vUp d) (s.flipRepeats d) (s.disp d).next (s.disp d).pclk).flipEnded d committed := rfl

theorem State.flipTold_spec (low : d < 2) : (s.flipTold d committed missed).get (F.DSP.FRAME d) = (s.disp d).next % 2 ^ (F.DSP.FRAME d).wd ∧
    (s.flipTold d committed missed).get (F.DSP.FRAMES d) = min (s.get (F.DSP.FRAMES d) + 1) (2 ^ (F.DSP.FRAMES d).wd - 1) ∧ (s.flipTold d committed missed).flag (F.DSP.COMMITTED d) = committed ∧
    (s.flipTold d committed missed).tx = s.tx ∧ (s.flipTold d committed missed).disp d = (s.flipShown d).disp d ∧ BlockWords (FlipWord d) s (s.flipTold d committed missed) := by
  obtain ⟨regs, tx, -⟩ := s.flipShown_spec d
  have counts := (s.flipShown d).flipCounted_step d (s.flipRepeats d) (s.flipHidden d) (!s.vUp d) (s.flipStale d) (s.flipStale d && !(s.disp d).staleSaid) (s.flipErr d)
    (s.flipErr d && !(s.disp d).errRun)
  unfold State.flipTold
  generalize (s.flipShown d).flipCounted d (s.flipRepeats d) (s.flipHidden d) (!s.vUp d) (s.flipStale d) (s.flipStale d && !(s.disp d).staleSaid) (s.flipErr d) (s.flipErr d && !(s.disp d).errRun) = u
    at counts
  obtain ⟨numbers, frame⟩ := u.flipNumbers_step d (s.disp d).next (((s.flipCamera d).map Handed.frame).getD 0) (((s.flipOverlay d).map Handed.frame).getD 0)
  generalize u.flipNumbers d (s.disp d).next (((s.flipCamera d).map Handed.frame).getD 0) (((s.flipOverlay d).map Handed.frame).getD 0) = v at numbers frame
  obtain ⟨bits, flag⟩ := v.flipBits_step d (s.flipRepeats d) (s.flipHidden d) (!s.vUp d) (s.flipStale d) (s.flipErr d) committed (s.disp d).under missed
  generalize v.flipBits d committed (s.flipStale d) (!s.vUp d) (s.flipErr d) (s.flipHidden d) (s.disp d).under missed (s.flipRepeats d) = w at bits flag
  have start : BlockWords (FlipWord d) s ((s.flipShown d).inc (F.DSP.FRAMES d)) :=
    (BlockWords.of_regs regs).trans (.set (s.flipShown d) (F.DSP.FRAMES d) _ (by simp only [FlipWord, F.DSP.FRAMES]; omega))
  have first : ((s.flipShown d).inc (F.DSP.FRAMES d)).get (F.DSP.FRAMES d) = min (s.get (F.DSP.FRAMES d) + 1) (2 ^ (F.DSP.FRAMES d).wd - 1) :=
    State.get_inc_of_eq (F.DSP.FRAMES d) rfl (by rw [State.get, State.rd_congr regs]; rfl)
  refine ⟨?_, ?_, flag, bits.tx.trans (numbers.tx.trans (counts.tx.trans tx)), ?_, ((start.trans (counts.words.mono fun a h => h.1)).trans (numbers.words.mono fun a h => ?_)).trans
    (bits.words.mono fun a h => ?_)⟩
  · exact (bits.words.get _ (by simp only [F.DSP.FRAME]; omega) (by simp only [F.DSP.FRAME]; omega) (by simp only [BitsWord, F.DSP.FRAME]; omega)).trans frame
  · rw [bits.words.get _ (by simp only [F.DSP.FRAMES]; omega) (by simp only [F.DSP.FRAMES]; omega) (by simp only [BitsWord, F.DSP.FRAMES]; omega),
      numbers.words.get _ (by simp only [F.DSP.FRAMES]; omega) (by simp only [F.DSP.FRAMES]; omega) (by simp only [NumberWord, F.DSP.FRAMES]; omega),
      counts.words.get _ (by simp only [F.DSP.FRAMES]; omega) (by simp only [F.DSP.FRAMES]; omega) (fun h => h.2 rfl)]
    exact first
  · have counted : FlipStep (FlipWord d) (s.flipShown d) ((s.flipShown d).inc (F.DSP.FRAMES d)) := .set _ (F.DSP.FRAMES d) _ (by simp only [FlipWord, F.DSP.FRAMES]; omega)
    rw [bits.disp_eq, numbers.disp_eq, counts.disp_eq, counted.disp_eq]
  · unfold NumberWord at h
    unfold FlipWord
    omega
  · unfold BitsWord at h
    unfold FlipWord
    omega

theorem State.flipFrame_spec (low : d < 2) : ((s.flipFrame d committed missed).disp d).next = ((s.disp d).next + 1) % 2 ^ 32 ∧
    (s.flipFrame d committed missed).get (F.DSP.FRAME d) = (s.disp d).next % 2 ^ (F.DSP.FRAME d).wd ∧
    (s.flipFrame d committed missed).get (F.DSP.FRAMES d) = min (s.get (F.DSP.FRAMES d) + 1) (2 ^ (F.DSP.FRAMES d).wd - 1) ∧ ((s.flipFrame d committed missed).disp d).flip = s.time.dev.toNat ∧
    (s.flipFrame d committed missed).flag (F.DSP.COMMITTED d) = committed ∧ ((s.flipFrame d committed missed).disp d).waits = (s.disp d).waits ∧
    (∀ i < 24, (s.flipFrame d committed missed).get ⟨(F.DSP.LAYER d i).addr, 0, 32⟩ = s.get ⟨(F.DSP.LAYER d i).addr, 0, 32⟩) ∧
    (s.vUp d = false → (s.flipFrame d committed missed).stream (8 + d) = s.stream (8 + d)) ∧
    (s.vUp d = true → ∃ r : List Byte, r.length = 48 ∧ u8 r 0 = 0x71 ∧ u16 r 2 = (s.disp d).next % 2 ^ 16 ∧ ((s.flipFrame d committed missed).stream (8 + d)).units = (s.stream (8 + d)).units ++ [r]) := by
  obtain ⟨-, -, -, next, flip, waits⟩ := s.flipShown_spec d
  obtain ⟨frame, frames, flag, tx, disp, told⟩ := s.flipTold_spec d committed missed low
  rw [← disp] at next flip waits
  rw [s.flipFrame_eq]
  generalize s.flipTold d committed missed = u at frame frames flag tx disp told next flip waits
  obtain ⟨sentDisps, sent, down, up⟩ := u.flipSent_spec d (s.vUp d) (s.flipRepeats d) (s.disp d).next (s.disp d).pclk
  obtain ⟨length, kind, number⟩ := u.flipRecord_spec d (s.flipRepeats d) (s.disp d).next (s.disp d).pclk
  generalize u.flipRecord d (s.flipRepeats d) (s.disp d).next (s.disp d).pclk = r at up length kind number
  generalize u.flipSent d (s.vUp d) (s.flipRepeats d) (s.disp d).next (s.disp d).pclk = v at sentDisps sent down up
  have ends : (v.flipEnded d committed).disps = v.disps ∧ (v.flipEnded d committed).stream (8 + d) = v.stream (8 + d) ∧ DevWords (fun _ => False) v (v.flipEnded d committed) := by
    cases committed
    · rw [v.flipEnded_none d]
      exact ⟨rfl, rfl, .refl v⟩
    · rw [v.flipEnded_commit d]
      obtain ⟨disps, streams, words, -⟩ := v.endCommit_spec d 0 0 (v.flipData d)
      exact ⟨disps, streams (8 + d) (by omega), words⟩
  obtain ⟨endDisps, endStream, endWords⟩ := ends
  have stream : u.stream (8 + d) = s.stream (8 + d) := by rw [State.stream, tx]; rfl
  have own : (v.flipEnded d committed).disp d = u.disp d := by rw [State.disp, endDisps, sentDisps]; rfl
  have kept (f : Fld) (low : 0x3100000 ≤ f.addr) (high : f.addr < 0x4000000) (other : f.addr ≠ (F.DSP.LAT_TOL d).addr) : (v.flipEnded d committed).get f = u.get f :=
    (endWords.get f (by omega) high not_false).trans (sent.get f (by omega) (by omega) other)
  rw [own, endStream]
  refine ⟨next, (kept _ ?_ ?_ ?_).trans frame, (kept _ ?_ ?_ ?_).trans frames, flip, ?_, waits, fun i few => (kept _ ?_ ?_ ?_).trans (told.get _ ?_ ?_ ?_), fun h => (down h).trans stream,
    fun h => ⟨r, length, kind, number, ?_⟩⟩
  case refine_7 =>
    rw [State.flag, kept _ (by simp only [F.DSP.COMMITTED]; omega) (by simp only [F.DSP.COMMITTED]; omega) (by simp only [F.DSP.COMMITTED, F.DSP.LAT_TOL]; omega)]
    exact flag
  case refine_14 => rw [up h, stream]
  all_goals
    simp only [FlipWord, F.DSP.FRAME, F.DSP.FRAMES, F.DSP.LAYER, F.DSP.LAT_TOL]
    omega

/-! ### A flip -/

theorem State.flipPoint_not (h : s.domOn 76 = false ∨ s.flag (F.DSP.DISP_STAT_RUNNING d) = false) : s.flipPoint d = s := by
  unfold State.flipPoint
  refine if_pos ?_
  rcases h with off | still
  · rw [off]
    rfl
  · rw [still, Bool.and_false]
    rfl

theorem State.flipPoint_stops (on : s.domOn 76 = true) (runs : s.flag (F.DSP.DISP_STAT_RUNNING d) = true) (stops : (s.disp d).stopping = true) : s.flipPoint d = s.dispStop d :=
  (if_neg (by rw [on, runs]; decide)).trans (if_pos stops)

end

end Sys2Proof.Machine
end

section
/-! PROOFS. Flip points and lines (R275, R285, R288): the stop of a display, its active lines, and the statement about displays. -/
namespace Sys2Proof.Machine

section
variable (s : State) (d : Nat)

/-! ### The stop of a display -/

/-- A display that stands still, without demand. -/
def State.dispStill : State :=
  ((((s.setDisp d { s.disp d with stopping := false, waits := false, skip := false, missed := false, send := false, shown := none, ovl := none }).noDemand d).set (F.DSP.DISP_STAT_RUNNING d) 0).setBitAt
    F.SYS.CLK_STAT_LOCKED (3 + d) false)

theorem State.dispStop_eq : ∃ code, s.dispStop d = (s.dispStill d).endCommit d 0x13 code [] := ⟨_, rfl⟩

theorem State.dispStill_spec (low : d < 2) : (s.dispStill d).get (F.DSP.DISP_STAT_RUNNING d) = 0 ∧ (s.dispStill d).bitAt F.SYS.CLK_STAT_LOCKED (3 + d) = false ∧
    ((s.dispStill d).disp d).stopping = false ∧ ((s.dispStill d).disp d).waits = false ∧ (s.dispStill d).tx = s.tx := by
  have own := s.disp_setDisp_same d { s.disp d with stopping := false, waits := false, skip := false, missed := false, send := false, shown := none, ovl := none }
  have tx : (s.setDisp d { s.disp d with stopping := false, waits := false, skip := false, missed := false, send := false, shown := none, ovl := none }).tx = s.tx := rfl
  unfold State.dispStill
  generalize s.setDisp d { s.disp d with stopping := false, waits := false, skip := false, missed := false, send := false, shown := none, ovl := none } = u at own tx
  have bit := ((u.noDemand d).set (F.DSP.DISP_STAT_RUNNING d) 0).bitAt_setBitAt F.SYS.CLK_STAT_LOCKED (3 + d) (3 + d) false rfl (by show 3 + d < 7; omega)
  have still : FlipStep (fun a => a = (F.DSP.LAT_TOL d).addr ∨ a = (F.DSP.DISP_STAT_RUNNING d).addr ∨ a = F.SYS.CLK_STAT_LOCKED.addr) u
      (((u.noDemand d).set (F.DSP.DISP_STAT_RUNNING d) 0).setBitAt F.SYS.CLK_STAT_LOCKED (3 + d) false) :=
    ((FlipStep.set (own := fun a => a = (F.DSP.LAT_TOL d).addr ∨ a = (F.DSP.DISP_STAT_RUNNING d).addr ∨ a = F.SYS.CLK_STAT_LOCKED.addr) u (F.DSP.LAT_TOL d) _ (.inl rfl)).trans
      (.set _ (F.DSP.DISP_STAT_RUNNING d) 0 (.inr (.inl rfl)))).trans (.set _ F.SYS.CLK_STAT_LOCKED _ (.inr (.inr rfl)))
  have running : (((u.noDemand d).set (F.DSP.DISP_STAT_RUNNING d) 0).setBitAt F.SYS.CLK_STAT_LOCKED (3 + d) false).get (F.DSP.DISP_STAT_RUNNING d) = 0 := by
    rw [State.setBitAt, State.get_set_addr _ _ _ _ (by simp only [F.DSP.DISP_STAT_RUNNING, F.SYS.CLK_STAT_LOCKED]; omega)]
    exact State.get_set_same _ (F.DSP.DISP_STAT_RUNNING d) 0 rfl
  have disp := (still.disp_eq d).trans own
  exact ⟨running, bit.trans (if_pos rfl), (congrArg DispSt.stopping disp).trans rfl, (congrArg DispSt.waits disp).trans rfl, still.tx.trans tx⟩

/-- A display that stops. -/
theorem State.dispStop_spec (low : d < 2) : (s.dispStop d).flag (F.DSP.DISP_STAT_RUNNING d) = false ∧ (s.dispStop d).bitAt F.SYS.CLK_STAT_LOCKED (3 + d) = false ∧
    ((s.dispStop d).disp d).stopping = false ∧ ((s.dispStop d).disp d).waits = false ∧ (s.dispStop d).stream (8 + d) = s.stream (8 + d) := by
  obtain ⟨code, stop⟩ := s.dispStop_eq d
  obtain ⟨running, locked, stopping, waits, tx⟩ := s.dispStill_spec d low
  obtain ⟨disps, streams, words, quiet⟩ := (s.dispStill d).endCommit_spec d 0x13 code []
  rw [stop]
  generalize s.dispStill d = u at running locked stopping waits tx disps streams words quiet
  have disp : (u.endCommit d 0x13 code []).disp d = u.disp d := by rw [State.disp, disps]; rfl
  have stream : u.stream (8 + d) = s.stream (8 + d) := by rw [State.stream, tx]; rfl
  refine ⟨?_, (State.bitAt_of_get _ (quiet.get F.SYS.CLK_STAT_LOCKED (by decide) (by decide)) _).trans locked, (congrArg DispSt.stopping disp).trans stopping, (congrArg DispSt.waits disp).trans waits,
    (streams (8 + d) (by omega)).trans stream⟩
  rw [State.flag, words.get _ (by simp only [F.DSP.DISP_STAT_RUNNING]; omega) (by simp only [F.DSP.DISP_STAT_RUNNING]; omega) not_false, running]
  rfl

/-! ### A flip as the statement speaks of it -/

theorem State.flipPoint_spec (low : d < 2) (on : s.domOn 76 = true) (runs : s.flag (F.DSP.DISP_STAT_RUNNING d) = true) (goes : (s.disp d).stopping = false) (free : u8 (s.timing d) 20 / 4 % 2 = 0) :
    ((s.flipPoint d).disp d).next = ((s.disp d).next + 1) % 2 ^ 32 ∧ (s.flipPoint d).get (F.DSP.FRAME d) = (s.disp d).next % 2 ^ (F.DSP.FRAME d).wd ∧
    (s.flipPoint d).get (F.DSP.FRAMES d) = min (s.get (F.DSP.FRAMES d) + 1) (2 ^ (F.DSP.FRAMES d).wd - 1) ∧ ((s.flipPoint d).disp d).flip = s.time.dev.toNat ∧
    ((s.flipPoint d).flag (F.DSP.COMMITTED d) = ((s.disp d).waits && !(s.disp d).skip)) ∧
    ((s.disp d).waits = true → (s.disp d).skip = false → ((s.flipPoint d).disp d).waits = false ∧ (s.flipPoint d).showsBank d (s.disp d).pending) ∧
    ((s.disp d).waits = false → ∀ i < 24, (s.flipPoint d).get ⟨(F.DSP.LAYER d i).addr, 0, 32⟩ = s.get ⟨(F.DSP.LAYER d i).addr, 0, 32⟩) ∧
    (s.vUp d = false → (s.flipPoint d).stream (8 + d) = s.stream (8 + d)) ∧
    (s.vUp d = true → ∃ r : List Byte, r.length = 48 ∧ u8 r 0 = 0x71 ∧ u16 r 2 = (s.disp d).next % 2 ^ 16 ∧ ((s.flipPoint d).stream (8 + d)).units = (s.stream (8 + d)).units ++ [r]) := by
  obtain ⟨settled, applies, none_⟩ := s.flipBank_spec d low
  have up := settled.vUp_eq low
  rw [s.flipPoint_frame d on runs goes free, ← s.flipBank_committed d]
  generalize s.flipBank d = b at settled applies none_ up
  obtain ⟨next, frame, frames, flip, committed, waits, layers, down, sends⟩ := b.2.2.flipFrame_spec d b.1 b.2.1 low
  have stream : b.2.2.stream (8 + d) = s.stream (8 + d) := by rw [State.stream, settled.tx]; rfl
  have counts : b.2.2.get (F.DSP.FRAMES d) = s.get (F.DSP.FRAMES d) :=
    settled.words.get _ (by simp only [F.DSP.FRAMES]; omega) (by simp only [F.DSP.FRAMES]; omega) (by simp only [BankWord, LayerWord, F.DSP.FRAMES, F.DSP.MISSED_COMMITS]; omega)
  rw [settled.next] at next frame sends
  rw [counts] at frames
  rw [settled.time] at flip
  rw [up, stream] at down sends
  refine ⟨next, frame, frames, flip, committed, fun h due => ?_, fun h i few => (layers i few).trans (by rw [none_ h]), down, sends⟩
  obtain ⟨clears, shows⟩ := applies h due
  exact ⟨waits.trans clears, fun i few => (layers i few).trans (shows i few)⟩

/-! ### Active lines -/

/-- Bytes that the layers of a line take from memory. -/
def State.lineBytes (k : Nat) : Nat :=
  (List.range 3).foldl (fun n l => n + ((List.range (u16 (s.timing d) 4)).filter (fun i => (s.layerPixel d l i k).isSome)).length * fmtBytes (u8 (s.layer d l) 1)) 0

/-- The pixels of a line: composed, or the background. -/
def State.linePixels (k : Nat) (composed : Bool) : List Byte := (List.range (u16 (s.timing d) 4)).flatMap (fun i => rgb (if composed then s.outPixel d i k else s.backColour d))

/-- The unit of a line (Table 12-5). -/
def State.lineUnit (k : Nat) (composed : Bool) : List Byte :=
  beBytes 1 0x70 ++ beBytes 1 (bit (s.disp d).repeated + 2 * bit (!composed) + 4 * bit (k + 1 == u16 (s.timing d) 12)) ++ beBytes 2 k ++ beBytes 4 (8 + 3 * u16 (s.timing d) 4) ++ s.linePixels d k composed

/-- The memory read of a line. -/
def State.lineRead (k : Nat) : Bool × State := if s.lineBytes d k = 0 then (true, s) else s.memReq 1 (0x10 + d) (s.lineBytes d k)

/-- A line's unit is handed over: the line is under way, or lost. -/
def State.lineHanded (k : Nat) (composed : Bool) : State := (s.setDisp d { s.disp d with line := k }).when (!composed) (fun s => s.underrun d k)

theorem State.lineStart_sends (k : Nat) (on : s.domOn 76 = true) (runs : s.flag (F.DSP.DISP_STAT_RUNNING d) = true) (sends : (s.disp d).send = true) (up : s.vUp d = true) (inside : k < u16 (s.timing d) 12) :
    s.lineStart d k = (((s.lineRead d k).2.txPut (8 + d) (s.lineUnit d k (s.lineRead d k).1)).lineHanded d k (s.lineRead d k).1).lineLatTol d k := by
  unfold State.lineStart
  refine (if_pos ?_).trans rfl
  rw [on, runs, sends, up, decide_eq_true inside]
  rfl

theorem State.lineStart_not (k : Nat) (h : s.domOn 76 = false ∨ s.flag (F.DSP.DISP_STAT_RUNNING d) = false ∨ (s.disp d).send = false ∨ s.vUp d = false ∨ u16 (s.timing d) 12 ≤ k) : s.lineStart d k = s := by
  unfold State.lineStart
  refine if_neg ?_
  rcases h with h | h | h | h | h
  · simp [h]
  · simp [h]
  · simp [h]
  · simp [h]
  · simp [Nat.not_lt.2 h]

theorem State.length_lineUnit (k : Nat) (composed : Bool) : (s.lineUnit d k composed).length = 8 + 3 * u16 (s.timing d) 4 := by
  have pixels : (s.linePixels d k composed).length = 3 * u16 (s.timing d) 4 := (length_flatMap_const _ _ 3 fun _ _ => rfl).trans (by rw [List.length_range])
  simp [State.lineUnit, pixels]
  omega

theorem State.memReq_tx (cls src bytes : Nat) (class_ : cls ≠ 5) : (s.memReq cls src bytes).2.tx = s.tx := by
  unfold State.memReq
  split
  · rfl
  · rw [if_neg (fun short => class_ short.1)]

theorem State.lineRead_tx (k : Nat) : (s.lineRead d k).2.tx = s.tx := by
  unfold State.lineRead
  split
  · rfl
  · exact s.memReq_tx 1 _ _ (by decide)

theorem State.lineLatTol_step (k : Nat) : FlipStep (fun a => a = (F.DSP.LAT_TOL d).addr) s (s.lineLatTol d k) := by
  unfold State.lineLatTol
  dsimp only
  split
  · exact .set s (F.DSP.LAT_TOL d) _ rfl
  · exact .set s (F.DSP.LAT_TOL d) _ rfl

theorem State.underrun_spec (k : Nat) : ((s.underrun d k).disp d).line = (s.disp d).line ∧ (s.underrun d k).tx = s.tx := by
  have own := s.disp_setDisp_same d { s.disp d with under := true }
  have steps : FlipStep (fun a => a = (F.DSP.UNDERRUNS d).addr) (s.setDisp d { s.disp d with under := true }) (s.underrun d k) :=
    (FlipStep.set (own := fun a => a = (F.DSP.UNDERRUNS d).addr) _ (F.DSP.UNDERRUNS d) _ rfl).trans (.raise _ _ _ _ (by decide))
  exact ⟨(congrArg DispSt.line ((steps.disp_eq d).trans own)).trans rfl, steps.tx.trans rfl⟩

theorem State.lineHanded_spec (k : Nat) (composed : Bool) : ((s.lineHanded d k composed).disp d).line = k ∧ (s.lineHanded d k composed).tx = s.tx := by
  have own := s.disp_setDisp_same d { s.disp d with line := k }
  unfold State.lineHanded
  cases composed
  · obtain ⟨line, tx⟩ := (s.setDisp d { s.disp d with line := k }).underrun_spec d k
    exact ⟨line.trans ((congrArg DispSt.line own).trans rfl), tx.trans rfl⟩
  · exact ⟨(congrArg DispSt.line own).trans rfl, rfl⟩

theorem State.lineStart_spec (k : Nat) (on : s.domOn 76 = true) (runs : s.flag (F.DSP.DISP_STAT_RUNNING d) = true) (sends : (s.disp d).send = true) (up : s.vUp d = true) (inside : k < u16 (s.timing d) 12) :
    ((s.lineStart d k).disp d).line = k ∧ ∃ r : List Byte, r.length = 8 + 3 * u16 (s.timing d) 4 ∧ u8 r 0 = 0x70 ∧ u16 r 2 = k ∧
      ((s.lineStart d k).stream (8 + d)).units = (s.stream (8 + d)).units ++ [r] := by
  rw [s.lineStart_sends d k on runs sends up inside]
  have read := s.lineRead_tx d k
  have length := s.length_lineUnit d k (s.lineRead d k).1
  have kind : u8 (s.lineUnit d k (s.lineRead d k).1) 0 = 0x70 := ofBe_beBytes 1 0x70
  have number : u16 (s.lineUnit d k (s.lineRead d k).1) 2 = k := (ofBe_beBytes 2 k).trans (Nat.mod_eq_of_lt (Nat.lt_trans inside (beAt_lt _ 12 2)))
  generalize s.lineUnit d k (s.lineRead d k).1 = r at length kind number
  generalize (s.lineRead d k).1 = composed
  generalize (s.lineRead d k).2 = u at read
  obtain ⟨line, tx⟩ := (u.txPut (8 + d) r).lineHanded_spec d k composed
  have last := ((u.txPut (8 + d) r).lineHanded d k composed).lineLatTol_step d k
  refine ⟨(congrArg DispSt.line (last.disp_eq d)).trans line, r, length, kind, number, ?_⟩
  have stream : ((u.txPut (8 + d) r).lineHanded d k composed).stream (8 + d) = (u.txPut (8 + d) r).stream (8 + d) := by rw [State.stream, tx]; rfl
  have before : u.stream (8 + d) = s.stream (8 + d) := by rw [State.stream, read]; rfl
  rw [last.stream_eq, stream, u.stream_txPut, before]

end

/-! ### The statement -/

/-- Settles O46. -/
theorem displays : Obligations.Displays := by
  unfold Obligations.Displays
  refine ⟨fun via seq d b low _ => ⟨fun good => .of_handler rfl fun u ⟨on, still⟩ => ⟨u.timed d.toNat b, cmdDispMode_done u d b low on still good, u.timed_spec d.toNat b⟩,
      fun k found => .of_handler rfl fun u ⟨on, still⟩ => cmdDispMode_bad u d b low on still found, .of_handler rfl fun u ⟨on, runs⟩ => cmdDispMode_runs u d b low on runs⟩,
    fun via seq d low => ⟨displays_run via seq d low, displays_unconfigured via seq d low, displays_portDown via seq d low, displays_runsAlready via seq d low, displays_stop via seq d low,
      displays_stopped via seq d low⟩,
    fun via seq d l b low layer _ => displays_layer via seq d l b low layer, fun via seq d low => ⟨displays_commit via seq d low, displays_commitStill via seq d low⟩,
    fun via seq d => displays_commitReq via seq d, fun d => .of_effect (fun _ => rfl) fun s h => s.flipPoint_not d h,
    fun d => .of_effect (fun _ => rfl) fun s ⟨on, runs, stops⟩ => ?stops, fun d => .of_effect (fun _ => rfl) fun s ⟨on, runs, goes, free⟩ => s.flipPoint_spec d d.isLt on runs goes free,
    fun d k => .of_effect (fun _ => rfl) fun s ⟨on, runs, sends, up, inside⟩ => s.lineStart_spec d k on runs sends up inside, fun d k => .of_effect (fun _ => rfl) fun s h => s.lineStart_not d k h,
    fun d => .of_effect (fun _ => rfl) fun s ⟨on, locked⟩ => ⟨s.lockLost d, State.lockTimeout_locked on locked, s.lockLost_spec d⟩,
    fun d => .of_effect (fun _ => rfl) fun s h => State.lockTimeout_not h⟩
  case stops =>
    rw [s.flipPoint_stops d on runs stops]
    exact s.dispStop_spec d d.isLt

end Sys2Proof.Machine
end

section
/-! PROOFS. Housekeeping: what the loops, the inhibit sources and the answers leave of its words and of its record. -/
namespace Sys2Proof.Machine

/-! ### Words kept -/

/-- Every word of the housekeeping blocks and above but those that are `own` reads in `t` as in `s`. -/
abbrev HkWords (own : Nat → Prop) (s t : State) : Prop := BlockWords (fun a => a < 0x6000000 ∨ own a) s t

/-- Below the housekeeping blocks alone. -/
abbrev noWord (_ : Nat) : Prop := False

namespace HkWords
variable {own : Nat → Prop} {s t u : State}

theorem setOwn (s : State) (f : Fld) (x : Nat) (mine : own f.addr) : HkWords own s (s.set f x) := BlockWords.set s f x (.inr mine)

theorem below (s : State) (f : Fld) (x : Nat) (low : f.addr < 0x6000000) : HkWords own s (s.set f x) := BlockWords.set s f x (.inl low)

theorem widen {own' : Nat → Prop} (h : HkWords own s t) (sub : ∀ a, own a → own' a) : HkWords own' s t := BlockWords.mono (fun a => Or.imp_right (sub a)) h

theorem rd (h : HkWords own s t) (a : Nat) (low : 0x6000000 ≤ a) (high : a < 0x7000000) (other : ¬ own a) : t.rd a = s.rd a :=
  h a (by omega) high fun mine => mine.elim (by omega) other

theorem get (h : HkWords own s t) (f : Fld) (low : 0x6000000 ≤ f.addr) (high : f.addr < 0x7000000) (other : ¬ own f.addr) : t.get f = s.get f := by
  rw [State.get, h.rd _ low high other]; rfl

theorem getI (h : HkWords own s t) (f : Fld) (low : 0x6000000 ≤ f.addr) (high : f.addr < 0x7000000) (other : ¬ own f.addr) : t.getI f = s.getI f := by
  rw [State.getI, h.get f low high other]; rfl

theorem flag (h : HkWords own s t) (f : Fld) (low : 0x6000000 ≤ f.addr) (high : f.addr < 0x7000000) (other : ¬ own f.addr) : t.flag f = s.flag f := by
  rw [State.flag, h.get f low high other]; rfl

theorem bitAt (h : HkWords own s t) (f : Fld) (i : Nat) (low : 0x6000000 ≤ f.addr) (high : f.addr < 0x7000000) (other : ¬ own f.addr) : t.bitAt f i = s.bitAt f i := by
  rw [State.bitAt, h.get f low high other]; rfl

theorem setSession (s : State) (p : Port) (x : Session) : HkWords own s (s.setSession p x) := by cases p <;> exact BlockWords.of_regs rfl

theorem sendOn (s : State) (p : Port) (b : List Byte) : HkWords own s (s.sendOn p b) := by
  cases p with
  | spi => exact BlockWords.of_regs rfl
  | udp q => exact (below s _ _ (by decide)).trans (BlockWords.of_regs rfl)
  | oazil => exact BlockWords.of_regs rfl

theorem sendReply (s : State) (p : Port) (op : Nat) (seq : BitVec 16) (a : Answer) (kept : AnsState) : HkWords own s (s.sendReply p op seq a kept) := by
  have sent (u : State) : HkWords own u (u.when (u.transportUp p) (fun s => s.sendOn p (replyPacket p op seq a))) := BlockWords.when _ (fun u => sendOn u _ _) u
  unfold State.sendReply
  dsimp only
  split
  · refine BlockWords.trans ?_ (below _ _ _ (by decide))
    refine BlockWords.trans ?_ (sent _)
    refine BlockWords.trans ?_ (BlockWords.of_regs (s := State.when _ _ _) rfl)
    exact (setSession _ _ _).trans (sent _)
  · exact (setSession _ _ _).trans (sent _)

theorem answerLater (s : State) (op tag st d : Nat) (b : List Byte) : HkWords own s (s.answerLater op tag st d b) := by
  unfold State.answerLater
  dsimp only
  refine BlockWords.trans ?_ (BlockWords.each _ _ (fun u r _ => sendReply u _ _ _ _ _) _)
  exact BlockWords.of_regs rfl

theorem complete (s : State) (op st d : Nat) (b : List Byte) : HkWords own s (s.complete op st d b) := by
  unfold State.complete
  split
  · exact BlockWords.refl s
  · refine BlockWords.trans ?_ (BlockWords.raise _ _ _ _ (by decide))
    refine BlockWords.trans ?_ (BlockWords.when _ (fun u => sendOn u _ _) _)
    refine BlockWords.trans ?_ (setSession _ _ _)
    exact BlockWords.of_regs rfl

end HkWords

/-! ### A step of a measurement -/

theorem Answering.hk_eq {s t : State} (h : Answering s t) : t.hk = s.hk := by rw [h]

/-- `t` is `s` after a step of a measurement: of the housekeeping words those that are `own` change, the record keeps the turn of the converter and the channels,
a check that failed stays noted, and no time passes. -/
structure Measuring (own : Nat → Prop) (s t : State) : Prop where
  words : HkWords own s t
  hk : t.hk = { s.hk with ntcs := t.hk.ntcs, checkBad := t.hk.checkBad, auxBad := t.hk.auxBad, served := t.hk.served }
  bad : s.hk.checkBad = true → t.hk.checkBad = true
  time : t.time = s.time

namespace Measuring
variable {own : Nat → Prop} {s t u : State}

theorem of_rest (words : HkWords own s t) (hk : t.hk = s.hk) (time : t.time = s.time) : Measuring own s t := ⟨words, by rw [hk], fun h => by rw [hk]; exact h, time⟩

theorem refl (s : State) : Measuring own s s := .of_rest (.refl s) rfl rfl

theorem trans (first : Measuring own s t) (second : Measuring own t u) : Measuring own s u :=
  ⟨first.words.trans second.words, by rw [second.hk, first.hk], fun h => second.bad (first.bad h), second.time.trans first.time⟩

theorem widen {own' : Nat → Prop} (h : Measuring own s t) (sub : ∀ a, own a → own' a) : Measuring own' s t := ⟨h.words.widen sub, h.hk, h.bad, h.time⟩

theorem of_answering (told : Answering s t) (words : HkWords own s t) : Measuring own s t :=
  .of_rest words told.hk_eq told.time_eq

theorem set (s : State) (f : Fld) (x : Nat) (mine : own f.addr) : Measuring own s (s.set f x) := .of_rest (.setOwn s f x mine) rfl rfl

theorem setBelow (s : State) (f : Fld) (x : Nat) (low : f.addr < 0x6000000) : Measuring own s (s.set f x) := .of_rest (.below s f x low) rfl rfl

theorem raise (s : State) (n i d : Nat) (known : n < 256) : Measuring own s (s.raise n i d) := .of_answering (.raise s n i d) (BlockWords.raise s n i d known)

theorem answerLater (s : State) (op tag st d : Nat) (b : List Byte) : Measuring own s (s.answerLater op tag st d b) := .of_answering (.answerLater s op tag st d b) (.answerLater s op tag st d b)

theorem setLoop (s : State) (n : Nat) (x : LoopSt) : Measuring own s (s.setLoop n x) := .of_rest (.of_regs rfl) rfl rfl

theorem each {α : Type} (l : List α) (f : State → α → State) (step : ∀ u, ∀ a ∈ l, Measuring own u (f u a)) (s : State) : Measuring own s (s.each l f) := by
  induction l generalizing s with
  | nil => exact .refl s
  | cons a l ih => exact (step s a List.mem_cons_self).trans (ih (fun u b mem => step u b (List.mem_cons_of_mem _ mem)) _)

theorem when (b : Bool) {f : State → State} (h : ∀ u, Measuring own u (f u)) (s : State) : Measuring own s (s.when b f) := by
  cases b
  · exact .refl s
  · exact h s

/-! ### The loops -/

section
variable (s : State) (n : Nat) (few : n < 8)
include few

theorem iclamp : Measuring own s (s.iclamp n) := by
  unfold State.iclamp
  split
  · exact .refl s
  · exact (setBelow s _ _ (by simp only [F.LOOP.LOOP_STAT_ICLAMP]; omega)).trans (.raise _ _ _ _ (by decide))

theorem rescale (e df u : Int) : Measuring own s (s.rescale n e df u) := by
  unfold State.rescale
  dsimp only
  split
  · exact (setLoop s n _).trans (iclamp _ n few)
  · exact setLoop s n _

theorem copyBank : Measuring own s (s.copyBank n) := by
  unfold State.copyBank
  dsimp only
  refine (each _ _ (fun u i mem => setBelow u _ _ ?_) s).trans ((setBelow _ _ _ ?_).trans (setBelow _ _ _ ?_))
  · have := List.mem_range.1 mem
    simp only [F.LOOP.ACT]; omega
  · simp only [F.LOOP.LOOP_STAT_SWAP_PEND]; omega
  · simp only [F.LOOP.SWAPS]; omega

theorem swapNow : Measuring own s (s.swapNow n) := by
  unfold State.swapNow
  dsimp only
  split
  · exact .refl s
  · refine Measuring.trans ?_ (.answerLater _ _ _ _ _ _)
    split
    · exact (setBelow s _ _ (by simp only [F.LOOP.LOOP_STAT_SWAP_PEND]; omega)).trans (setBelow _ _ _ (by simp only [F.LOOP.LOOP_STAT_SWAP_ERR]; omega))
    · split
      · exact (copyBank s n few).trans (rescale _ n few _ _ _)
      · exact copyBank s n few

theorem loopToRamp (m : Nat) : Measuring own s (s.loopToRamp n m) :=
  (((setLoop s n _).trans (setBelow _ _ _ (by simp only [F.LOOP.LOOP_CTRL_MODE]; omega))).trans (setBelow _ _ _ (by simp only [F.LOOP.LOOP_STAT_SETTLED]; omega))).trans
    (swapNow _ n few)

theorem loopToOff : Measuring own s (s.loopToOff n) :=
  ((((setLoop s n _).trans (setBelow _ _ _ (by simp only [F.LOOP.LOOP_CTRL_MODE]; omega))).trans (setBelow _ _ _ (by simp only [F.LOOP.LOOP_STAT_SETTLED]; omega))).trans
    (setBelow _ _ _ (by simp only [F.LOOP.LOOP_STAT_SAT_OUT]; omega))).trans (swapNow _ n few)

theorem loopToClosed : Measuring own s (s.loopToClosed n) :=
  (((swapNow s n few).trans (setLoop _ n _)).trans (setBelow _ _ _ (by simp only [F.LOOP.LOOP_CTRL_MODE]; omega))).trans (rescale _ n few _ _ _)

omit few in
theorem holdOuter : Measuring own s (s.holdOuter n) := by
  unfold State.holdOuter
  split
  next o outer =>
    split
    · exact loopToRamp s o (State.outerOf_other outer).2 3
    · exact .refl s
  · exact .refl s

theorem setMode (m : Nat) : Measuring own s (s.setMode n m) := by
  have taken : Measuring own s (s.takeMode n m) := by
    unfold State.takeMode
    split
    · exact loopToOff s n few
    · split
      · exact .refl s
      · exact loopToClosed s n few
    · exact loopToRamp s n few _
  rw [State.setMode_eq]
  split
  · exact taken.trans (holdOuter _ n)
  · exact taken

/-- A loop whose source is gone. -/
theorem sourceLost : Measuring own s (((s.set (F.LOOP.LOOP_STAT_SRC_FAULT n) 1).setMode n 3).raise EV_LOOP_SOURCE n 0) :=
  ((setBelow s _ _ (by simp only [F.LOOP.LOOP_STAT_SRC_FAULT]; omega)).trans (setMode _ n few 3)).trans (.raise _ _ _ _ (by decide))

theorem loopSource (v : Int) (flagged : Bool) : Measuring own s (s.loopSource n v flagged) := by
  unfold State.loopSource
  dsimp only
  split
  · exact .refl s
  · split
    · split
      · exact setLoop s n _
      · exact (setLoop s n _).trans (sourceLost _ n few)
    · split
      · have cleared := (setLoop (own := own) s n { s.loop n with src := some v, clean := (s.loop n).clean + 1, missed := 0 }).trans
          (setBelow _ (F.LOOP.LOOP_STAT_SRC_FAULT n) 0 (by simp only [F.LOOP.LOOP_STAT_SRC_FAULT]; omega))
        split
        · exact cleared.trans (setMode _ n few 2)
        · exact cleared
      · exact setLoop s n _

theorem loopMissed : Measuring own s (s.loopMissed n) := by
  unfold State.loopMissed
  dsimp only
  split
  · exact .refl s
  · split
    · exact (setLoop s n _).trans (sourceLost _ n few)
    · exact setLoop s n _

end

/-! ### The derating of the emitters -/

theorem inhibitOn (s : State) (mask : Nat) : Measuring own s (s.inhibitOn mask) :=
  .of_answering (.inhibitOn s mask) ((s.inhibitOn_words mask).mono fun a mine => .inl (by omega))

theorem derateRound (s : State) (te : Int) : Measuring own s (s.derateRound te) := by
  unfold State.derateRound
  dsimp only
  split
  · have posted : Measuring own s (((s.setI F.SHT.T_E te).set F.SHT.DERATE_F (s.derateFactor te)).publish F.SHT.DERATE_ST) :=
      (((setBelow s F.SHT.T_E _ (by decide)).trans (setBelow _ F.SHT.DERATE_F _ (by decide))).trans (setBelow _ _ _ (by decide))).trans (setBelow _ _ _ (by decide))
    refine posted.trans ?_
    split
    · split
      · exact .refl _
      · exact (inhibitOn _ _).trans (.raise _ _ _ _ (by decide))
    · refine .when _ (fun u => ?_) _
      exact .of_answering (.inhibitOff u _) ((u.inhibitOff_words _).mono fun a mine => .inl (by omega))
  · exact .refl s

end Measuring
end Sys2Proof.Machine
end

section
/-! PROOFS. The result of a housekeeping slot (R369 to R375, R384): what is judged, what is published, and what stays. -/
namespace Sys2Proof.Machine

/-! ### The judgement -/

/-- The words that the judgement of a result may change: HK_STAT, SENSOR_STAT, SENSOR_FAULTS, CONV_FAULTS, AUX_STAT. -/
def JudgeWord (a : Nat) : Prop := a = 0x6000004 ∨ a = 0x600000C ∨ a = 0x6000308 ∨ a = 0x6000314 ∨ a = 0x6000708

section
variable (s : State)

theorem Measuring.setNtc {own : Nat → Prop} (i : Nat) (x : NtcSt) : Measuring own s (s.setNtc i x) := ⟨.of_regs rfl, rfl, id, rfl⟩

/-- A count and its event. -/
theorem Measuring.incRaise {own : Nat → Prop} (f : Fld) (n i d : Nat) (known : n < 256) (mine : own f.addr) : Measuring own s ((s.inc f).raise n i d) :=
  (Measuring.set s f _ mine).trans (.raise _ n i d known)

/-- A failed check is noted and shown. -/
def State.checkNoted : State := ({ s with hk := { s.hk with checkBad := true } } : State).set F.HK.HK_STAT_CONV_FAULT 1

theorem State.checkFails_eq (kind : Nat) :
    s.checkFails kind = s.checkNoted.when (!s.flag F.HK.HK_STAT_CONV_FAULT) (fun s => (s.inc F.HK.CONV_FAULTS).raise EV_HK_CONVERTER 0 kind) := rfl

/-- Behind the note a failed check only counts and tells. -/
theorem State.checkFails_told (kind : Nat) : Measuring (fun a => a = 0x6000314) s.checkNoted (s.checkFails kind) :=
  s.checkFails_eq kind ▸ Measuring.when (own := fun a => a = 0x6000314) _ (fun u => .incRaise u F.HK.CONV_FAULTS EV_HK_CONVERTER 0 kind (by decide) rfl) _

theorem Measuring.checkFails (kind : Nat) : Measuring JudgeWord s (s.checkFails kind) := by
  have noted : Measuring JudgeWord s { s with hk := { s.hk with checkBad := true } } := ⟨.of_regs rfl, rfl, fun _ => rfl, rfl⟩
  have set : Measuring JudgeWord s s.checkNoted := noted.trans (.set _ _ _ (.inl rfl))
  exact set.trans ((s.checkFails_told kind).widen fun a same => .inr (.inr (.inr (.inl same))))

theorem Measuring.checkSlot (input : Nat) (raw : Int) : Measuring JudgeWord s (s.checkSlot input raw) := by
  unfold State.checkSlot
  dsimp only
  split
  · exact .checkFails s 1
  · split
    · exact .checkFails s 2
    · exact .refl s

/-- SENSOR_STAT of an NTC input after a verdict. -/
def State.verdictShown (i v : Nat) : State := (s.setBitAt F.HK.SENSOR_STAT_OPEN i (v == 1)).setBitAt F.HK.SENSOR_STAT_SHORT i (v == 2)

theorem Measuring.verdictShown (i v : Nat) : Measuring JudgeWord s (s.verdictShown i v) :=
  (Measuring.set s F.HK.SENSOR_STAT_OPEN _ (.inr (.inl rfl))).trans (.set _ F.HK.SENSOR_STAT_SHORT _ (.inr (.inl rfl)))

/-- SENSOR_FAULTS and the event of a sensor that was good. -/
theorem Measuring.sensorTold (b : Bool) (i v : Nat) : Measuring (fun a => a = 0x6000308) s (s.when b (fun s => (s.inc F.HK.SENSOR_FAULTS).raise EV_HK_SENSOR_FAULT i v)) :=
  Measuring.when (own := fun a => a = 0x6000308) b (fun u => .incRaise u F.HK.SENSOR_FAULTS _ i v (by decide) rfl) s

theorem Measuring.ntcJudge (i : Nat) (raw : Int) (test : Bool) : Measuring JudgeWord s (s.ntcJudge i raw test) := by
  unfold State.ntcJudge
  dsimp only
  split
  next v _ =>
    have told := (Measuring.verdictShown s i v).trans ((Measuring.sensorTold _ (!(s.bitAt F.HK.SENSOR_STAT_OPEN i || s.bitAt F.HK.SENSOR_STAT_SHORT i)) i v).widen
      fun a same => .inr (.inr (.inl same)))
    split
    · exact told
    · exact told.trans (.setNtc _ _ _)
  · split
    · generalize (if s.bitAt F.HK.SENSOR_STAT_OPEN i = true then 1 else if s.bitAt F.HK.SENSOR_STAT_SHORT i = true then 2 else 0) = v
      split
      · exact ((Measuring.set s F.HK.SENSOR_STAT_OPEN _ (.inr (.inl rfl))).trans (.set _ F.HK.SENSOR_STAT_SHORT _ (.inr (.inl rfl)))).trans
          (.raise _ EV_HK_SENSOR_CLEAR i v (by decide))
      · exact .refl s
    · exact .setNtc s i _

theorem Measuring.auxReadback (raw : Int) : Measuring JudgeWord s (s.auxReadback raw) := by
  unfold State.auxReadback
  dsimp only
  split
  · exact .refl s
  · generalize (if 64 * 328 < (raw - 64 * (s.hk.auxCode : Int)).natAbs then s.hk.auxBad + 1 else 0) = n
    have counted : Measuring JudgeWord s { s with hk := { s.hk with auxBad := n } } := ⟨.of_regs rfl, rfl, id, rfl⟩
    split
    · exact (counted.trans (.set _ F.HK.AUX_STAT_AUX_FAULT 1 (.inr (.inr (.inr (.inr rfl)))))).trans (.raise _ _ _ _ (by decide))
    · exact counted

/-- A result is judged: the checks, the NTC verdict, the readback of AUXOUT. -/
def State.hkJudged (n : Nat) (raw : Int) (test : Bool) : State :=
  let input := s.get (F.HK.HK_SLOT_CFG_INPUT n)
  ((s.checkSlot input raw).when (decide (input < 4)) (fun s => s.ntcJudge input raw test)).when (input == 0x12) (fun s => s.auxReadback raw)

theorem Measuring.hkJudged (n : Nat) (raw : Int) (test : Bool) : Measuring JudgeWord s (s.hkJudged n raw test) :=
  ((Measuring.checkSlot s _ raw).trans (.when _ (fun u => .ntcJudge u _ raw test) _)).trans (.when _ (fun u => .auxReadback u raw) _)

/-- R375: a failed zero check: CONV_FAULT sets, and counts where it was clear. -/
theorem State.checkFails_spec (kind : Nat) : (s.checkFails kind).flag F.HK.HK_STAT_CONV_FAULT = true ∧ (s.checkFails kind).hk.checkBad = true ∧
    (s.flag F.HK.HK_STAT_CONV_FAULT = false → (s.checkFails kind).get F.HK.CONV_FAULTS = min (s.get F.HK.CONV_FAULTS + 1) (2 ^ 32 - 1)) := by
  have rest := s.checkFails_told kind
  have shown : s.checkNoted.flag F.HK.HK_STAT_CONV_FAULT = true := State.flag_set_one _ _ rfl rfl
  refine ⟨(rest.words.flag F.HK.HK_STAT_CONV_FAULT (by decide) (by decide) (by decide)).trans shown, rest.bad rfl, fun clear => ?_⟩
  have told := Measuring.raise (own := noWord) (s.checkNoted.inc F.HK.CONV_FAULTS) EV_HK_CONVERTER 0 kind (by decide)
  rw [s.checkFails_eq, clear]
  refine (told.words.get F.HK.CONV_FAULTS (by decide) (by decide) id).trans ?_
  exact State.get_inc_of_eq _ rfl (State.get_set_addr _ F.HK.HK_STAT_CONV_FAULT F.HK.CONV_FAULTS 1 (by decide))

/-- R373: a conversion at the upper end of the scale is OPEN. -/
theorem State.ntcJudge_open (i : Nat) (raw : Int) (test : Bool) (few : i < 4) (top : 995 * 2 ^ 22 ≤ 1000 * raw) : (s.ntcJudge i raw test).bitAt F.HK.SENSOR_STAT_OPEN i = true := by
  have verdict : ntcVerdict (s.ntc i) raw test = some 1 := if_pos top
  have shown : (s.verdictShown i 1).bitAt F.HK.SENSOR_STAT_OPEN i = true := by
    have kept : (s.verdictShown i 1).bitAt F.HK.SENSOR_STAT_OPEN i = (s.setBitAt F.HK.SENSOR_STAT_OPEN i true).bitAt F.HK.SENSOR_STAT_OPEN i :=
      congrArg (fun w => w / 2 ^ i % 2 == 1) (State.get_set_bits _ F.HK.SENSOR_STAT_SHORT F.HK.SENSOR_STAT_OPEN _ rfl (.inr (by decide)))
    rw [kept, s.bitAt_setBitAt _ i i true rfl few, if_pos rfl]
  have told := Measuring.sensorTold (s.verdictShown i 1) (!(s.bitAt F.HK.SENSOR_STAT_OPEN i || s.bitAt F.HK.SENSOR_STAT_SHORT i)) i 1
  have kept := (told.words.bitAt F.HK.SENSOR_STAT_OPEN i (by decide) (by decide) (by decide)).trans shown
  unfold State.ntcJudge
  dsimp only
  rw [verdict]
  dsimp only
  split
  · exact kept
  · exact ((Measuring.setNtc (own := noWord) _ i _).words.bitAt F.HK.SENSOR_STAT_OPEN i (by decide) (by decide) id).trans kept

/-- What the judgement shows of a failed zero check and of an open NTC. -/
theorem State.hkJudged_spec (n : Nat) (raw : Int) (test : Bool) :
    (s.get (F.HK.HK_SLOT_CFG_INPUT n) < 4 → 995 * 2 ^ 22 ≤ 1000 * raw → (s.hkJudged n raw test).bitAt F.HK.SENSOR_STAT_OPEN (s.get (F.HK.HK_SLOT_CFG_INPUT n)) = true) ∧
    (s.get (F.HK.HK_SLOT_CFG_INPUT n) = 0x18 → 2097 < raw.natAbs → (s.hkJudged n raw test).flag F.HK.HK_STAT_CONV_FAULT = true ∧ (s.hkJudged n raw test).hk.checkBad = true ∧
      (s.flag F.HK.HK_STAT_CONV_FAULT = false → (s.hkJudged n raw test).get F.HK.CONV_FAULTS = min (s.get F.HK.CONV_FAULTS + 1) (2 ^ 32 - 1))) := by
  generalize input : s.get (F.HK.HK_SLOT_CFG_INPUT n) = i
  refine ⟨fun few top => ?_, fun zero off => ?_⟩
  · have form : s.hkJudged n raw test = (s.checkSlot i raw).ntcJudge i raw test := by
      have other : (i == 0x12) = false := beq_eq_false_iff_ne.2 (by omega)
      rw [State.hkJudged, input, decide_eq_true few, other]
      rfl
    rw [form]
    exact State.ntcJudge_open _ i raw test few top
  · have form : s.hkJudged n raw test = s.checkFails 1 := by
      rw [State.hkJudged, input, zero]
      exact if_pos (And.intro rfl off)
    rw [form]
    exact s.checkFails_spec 1

end

/-! ### The value -/

/-- Registers, record and time stay as they are. -/
def Unseen (s t : State) : Prop := t.regs = s.regs ∧ t.hk = s.hk ∧ t.time = s.time

section
variable (s : State)

theorem State.value16_unseen (t : Int) : Unseen s (s.value16 t).2.2 := by
  unfold State.value16
  dsimp only
  split <;> exact ⟨rfl, rfl, rfl⟩

theorem State.sensorValue_unseen (curve ref : Nat) (raw : Int) (test : Bool) : Unseen s (s.sensorValue curve ref raw test).2.2 := by
  unfold State.sensorValue
  split
  · exact ⟨rfl, rfl, rfl⟩
  · split
    · exact ⟨rfl, rfl, rfl⟩
    · split
      · exact s.value16_unseen _
      · exact ⟨rfl, rfl, rfl⟩

theorem State.hkValue_unseen (input curve ref : Nat) (raw : Int) (test : Bool) : Unseen s (s.hkValue input curve ref raw test).2.2 := by
  have plain : Unseen s s := ⟨rfl, rfl, rfl⟩
  unfold State.hkValue
  split
  · dsimp only
    split
    · exact plain
    · split
      · exact plain
      · split
        · exact plain
        · split
          · exact plain
          · exact s.sensorValue_unseen curve ref raw test
  · exact plain

theorem bit_le_one (b : Bool) : bit b ≤ 1 := by cases b <;> decide

theorem State.hkValue_flags (input curve ref : Nat) (raw : Int) (test : Bool) : (s.hkValue input curve ref raw test).2.1 < 16 := by
  unfold State.hkValue
  split
  · dsimp only
    have one := bit_le_one (s.bitAt F.HK.SENSOR_STAT_OPEN input)
    have two := bit_le_one (s.bitAt F.HK.SENSOR_STAT_SHORT input)
    have three := bit_le_one (s.hk.trip || s.flag F.HK.HK_STAT_CONV_FAULT)
    have four := bit_le_one (s.sensorValue curve ref raw test).2.1
    split
    · dsimp only; omega
    · split
      · dsimp only; omega
      · split
        · dsimp only; omega
        · split
          · exact Nat.zero_lt_succ 15
          · dsimp only; omega
  · exact Nat.zero_lt_succ 15

theorem State.hkValue_open (input curve ref : Nat) (raw : Int) (test : Bool) (few : input < 4) (opened : s.bitAt F.HK.SENSOR_STAT_OPEN input = true) (known : curve ≠ 15) :
    (s.hkValue input curve ref raw test).1 = 2400 := by
  unfold State.hkValue
  rw [if_pos few]
  dsimp only
  rw [if_pos opened]
  exact if_neg known

theorem State.hkValue_plain (input curve ref : Nat) (raw : Int) (test : Bool) (high : 4 ≤ input) (known : curve ≠ 14) : (s.hkValue input curve ref raw test).1 = raw := by
  unfold State.hkValue
  rw [if_neg (by omega)]
  exact if_neg known

end
end Sys2Proof.Machine
end

section
/-! PROOFS. A housekeeping result is published (R369, R370): the latest result, the slot's result, the counts and the loops it feeds. -/
namespace Sys2Proof.Machine

/-! ### Publication -/

section
variable (s : State) (n info : Nat) (v raw : Int)

/-- An unread result is overrun. -/
def State.hkOverrun : State := s.when (s.flag ⟨F.HK.HK_DATA_ST.addr, 31, 1⟩) (fun s => (s.set ⟨F.HK.HK_DATA_ST.addr, 30, 1⟩ 1).inc F.HK.OVERRUNS)

/-- The words of the latest result. -/
def State.hkLatest : State :=
  (((s.set ⟨F.HK.HK_DATA_INFO_SLOT.addr, 0, 32⟩ info).setI F.HK.VALUE v).setI F.HK.RAW raw).set64 F.HK.TIME_LO F.HK.TIME_HI s.time.dev

/-- The words of the slot's result. -/
def State.hkOfSlot : State :=
  (((s.set (F.HK.SLOT_INFO n) info).setI (F.HK.SLOT_VALUE n) v).setI (F.HK.SLOT_RAW n) raw).set64 (F.HK.SLOT_TIME_LO n) (F.HK.SLOT_TIME_HI n) s.time.dev

/-- The result is fresh and counted. -/
def State.hkFresh : State := ((s.publish F.HK.HK_DATA_ST).publish (F.HK.SLOT_ST n)).inc F.HK.CONVERSIONS

/-- A result is published. -/
def State.hkPosted : State := ((s.hkOverrun.hkLatest info v raw).hkOfSlot n info v raw).hkFresh n

/-- What follows a published result: SUSPECTS, the record of its sensor, the loops it feeds. -/
def State.hkFollow (input flags : Nat) : State :=
  let bad := decide (0 < flags % 8)
  let s := s.when (decide (flags / 4 % 2 = 1)) (fun s => s.inc F.HK.SUSPECTS)
  let s := s.when (decide (input < 4)) (fun s => (s.setBitAt F.HK.SENSOR_STAT_SUSPECT_LAST input (decide (flags / 4 % 2 = 1))).setNtc input
    { s.ntc input with value := some v, bad := bad })
  let ls := s.slotLoops n input
  let s := s.each ls (fun s l => s.loopSource l v bad)
  { s with hk := { s.hk with served := s.hk.served ++ ls } }

/-- The words of the latest result and of slot `n`. -/
def HkResultWord (n a : Nat) : Prop := (0x6000080 ≤ a ∧ a < 0x6000098) ∨ (0x6000100 + 0x20 * n ≤ a ∧ a < 0x6000118 + 0x20 * n)

/-- The words of a publication: those of the result, OVERRUNS and CONVERSIONS. -/
def PostWord (n a : Nat) : Prop := HkResultWord n a ∨ a = 0x6000300 ∨ a = 0x6000310

theorem Measuring.hkOverrun : Measuring (fun a => a = 0x6000080 ∨ a = 0x6000310) s s.hkOverrun :=
  Measuring.when (own := fun a => a = 0x6000080 ∨ a = 0x6000310) _
    (fun u => (Measuring.set u ⟨F.HK.HK_DATA_ST.addr, 30, 1⟩ 1 (.inl rfl)).trans (.set _ F.HK.OVERRUNS _ (.inr rfl))) s

theorem Measuring.hkLatest : Measuring (HkResultWord n) s (s.hkLatest info v raw) :=
  ((((Measuring.set s ⟨F.HK.HK_DATA_INFO_SLOT.addr, 0, 32⟩ info (.inl (by decide))).trans (.set _ F.HK.VALUE _ (.inl (by decide)))).trans
    (.set _ F.HK.RAW _ (.inl (by decide)))).trans (.set _ F.HK.TIME_LO _ (.inl (by decide)))).trans (.set _ F.HK.TIME_HI _ (.inl (by decide)))

theorem Measuring.hkOfSlot : Measuring (HkResultWord n) s (s.hkOfSlot n info v raw) :=
  have mine (o lo wd : Nat) (low : o < 0x18) : HkResultWord n (Fld.addr ⟨0x6000100 + o + 0x20 * n, lo, wd⟩) := .inr (by dsimp only; omega)
  ((((Measuring.set s (F.HK.SLOT_INFO n) info (mine 4 0 32 (by decide))).trans (.set _ (F.HK.SLOT_VALUE n) _ (mine 8 0 32 (by decide)))).trans
    (.set _ (F.HK.SLOT_RAW n) _ (mine 12 0 32 (by decide)))).trans (.set _ (F.HK.SLOT_TIME_LO n) _ (mine 16 0 32 (by decide)))).trans
    (.set _ (F.HK.SLOT_TIME_HI n) _ (mine 20 0 32 (by decide)))

theorem Measuring.publish {own : Nat → Prop} (f : Fld) (mine : own f.addr) : Measuring own s (s.publish f) :=
  (Measuring.set s ⟨f.addr, 31, 1⟩ 1 mine).trans (.set _ ⟨f.addr, 0, 16⟩ _ mine)

theorem Measuring.hkFresh : Measuring (PostWord n) s (s.hkFresh n) :=
  ((Measuring.publish s F.HK.HK_DATA_ST (.inl (.inl (by decide)))).trans
    (.publish _ (F.HK.SLOT_ST n) (.inl (.inr (by simp only [F.HK.SLOT_ST]; omega))))).trans (.set _ F.HK.CONVERSIONS _ (.inr (.inl rfl)))

/-- The words before they are fresh and counted. -/
theorem Measuring.hkWritten : Measuring (fun a => HkResultWord n a ∨ a = 0x6000310) s ((s.hkOverrun.hkLatest info v raw).hkOfSlot n info v raw) := by
  have first : Measuring (fun a => HkResultWord n a ∨ a = 0x6000310) s s.hkOverrun := (Measuring.hkOverrun s).widen fun a mine => mine.imp_left fun st => .inl (by omega)
  exact (first.trans ((Measuring.hkLatest _ n info v raw).widen fun _ => .inl)).trans ((Measuring.hkOfSlot _ n info v raw).widen fun _ => .inl)

theorem Measuring.hkPosted : Measuring (PostWord n) s (s.hkPosted n info v raw) :=
  ((Measuring.hkWritten s n info v raw).widen fun _ mine => mine.imp_right .inr).trans (.hkFresh _ n)

/-- The words of what follows a result: SUSPECTS and SENSOR_STAT. -/
def FollowWord (a : Nat) : Prop := a = 0x600000C ∨ a = 0x600030C

theorem State.slotLoops_lt (input : Nat) : ∀ l ∈ s.slotLoops n input, l < 8 := by
  intro l mem
  rw [State.slotLoops, List.mem_append, List.mem_append, List.mem_filter] at mem
  obtain (four | seven) | ⟨those, -⟩ := mem
  · split at four
    · rw [List.mem_singleton.1 four]; decide
    · exact absurd four List.not_mem_nil
  · split at seven
    · rw [List.mem_singleton.1 seven]; decide
    · exact absurd seven List.not_mem_nil
  · obtain rfl | rfl : l = 5 ∨ l = 6 := by simpa using those
    · decide
    · decide

theorem Measuring.hkFollow (input flags : Nat) : Measuring FollowWord s (s.hkFollow n v input flags) := by
  unfold State.hkFollow
  dsimp only
  have counted : Measuring FollowWord s (s.when (decide (flags / 4 % 2 = 1)) (fun s => s.inc F.HK.SUSPECTS)) := .when _ (fun u => .set u F.HK.SUSPECTS _ (.inr rfl)) s
  generalize s.when (decide (flags / 4 % 2 = 1)) (fun s => s.inc F.HK.SUSPECTS) = t at counted ⊢
  refine counted.trans ?_
  have sensed : Measuring FollowWord t (t.when (decide (input < 4)) (fun s => (s.setBitAt F.HK.SENSOR_STAT_SUSPECT_LAST input (decide (flags / 4 % 2 = 1))).setNtc input
      { s.ntc input with value := some v, bad := decide (0 < flags % 8) })) :=
    .when _ (fun u => (Measuring.set u F.HK.SENSOR_STAT_SUSPECT_LAST _ (.inl rfl)).trans (.setNtc _ _ _)) t
  generalize t.when (decide (input < 4)) _ = u at sensed ⊢
  refine sensed.trans ?_
  have fed : Measuring FollowWord u (u.each (u.slotLoops n input) (fun s l => s.loopSource l v (decide (0 < flags % 8)))) :=
    .each _ _ (fun w l mem => .loopSource w l (u.slotLoops_lt n input l mem) v _) u
  exact fed.trans ⟨.of_regs rfl, rfl, id, rfl⟩

/-! ### What a publication shows -/

/-- A publication shows the result in both places, with the time, and counts it. -/
structure Posting (s t : State) (n input : Nat) (v raw : Int) : Prop where
  slotRaw : t.getI (F.HK.SLOT_RAW n) = raw
  raw : t.getI F.HK.RAW = raw
  slotValue : t.getI (F.HK.SLOT_VALUE n) = t.getI F.HK.VALUE
  value : -2 ^ 31 ≤ v → v < 2 ^ 31 → t.getI F.HK.VALUE = v
  time : t.get (F.HK.SLOT_TIME_LO n) = s.time.dev.toNat % 2 ^ 32
  slot : t.get F.HK.HK_DATA_INFO_SLOT = n
  input : t.get F.HK.HK_DATA_INFO_INPUT = input
  counted : t.get F.HK.CONVERSIONS = min (s.get F.HK.CONVERSIONS + 1) (2 ^ 32 - 1)
  others : ∀ m : Fin 16, m.val ≠ n → t.rd (F.HK.SLOT_RAW m).addr = s.rd (F.HK.SLOT_RAW m).addr

theorem State.getI_of_get {s t : State} {f : Fld} (same : t.get f = s.get f) : t.getI f = s.getI f := by rw [State.getI, same]; rfl

/-- The words of a result, in the place of the latest one and in the slot's. -/
theorem State.hkOfSlot_spec :
    let t := (s.hkLatest info v raw).hkOfSlot n info v raw
    t.get (F.HK.SLOT_RAW n) = unsigned 32 raw ∧ t.get F.HK.RAW = unsigned 32 raw ∧ t.get (F.HK.SLOT_VALUE n) = unsigned 32 v ∧ t.get F.HK.VALUE = unsigned 32 v ∧
      t.get (F.HK.SLOT_TIME_LO n) = s.time.dev.toNat % 2 ^ 32 ∧ t.get ⟨F.HK.HK_DATA_INFO_SLOT.addr, 0, 32⟩ = info % 2 ^ 32 := by
  have raised (x : Int) : unsigned 32 x % 2 ^ 32 = unsigned 32 x := unsigned_mod 32 x
  have apart {f g : Fld} {x : Nat} {u : State} (other : g.addr ≠ f.addr) : (u.set f x).get g = u.get g := u.get_set_addr f g x other
  unfold State.hkLatest State.hkOfSlot State.set64 State.setI
  simp (disch := (simp only [F.HK.SLOT_RAW, F.HK.SLOT_VALUE, F.HK.SLOT_INFO, F.HK.SLOT_TIME_LO, F.HK.SLOT_TIME_HI, F.HK.RAW, F.HK.VALUE, F.HK.TIME_LO, F.HK.TIME_HI, F.HK.HK_DATA_INFO_SLOT]; omega)) only
    [apart]
  refine ⟨?_, ?_, ?_, ?_, ?_, ?_⟩
  · exact (State.get_set_same _ _ _ rfl).trans (raised raw)
  · exact (State.get_set_same _ _ _ rfl).trans (raised raw)
  · exact (State.get_set_same _ _ _ rfl).trans (raised v)
  · exact (State.get_set_same _ _ _ rfl).trans (raised v)
  · exact (State.get_set_same _ _ _ rfl).trans (Nat.mod_mod _ _)
  · exact State.get_set_same _ _ _ rfl

/-- Freshness and count leave the words of the results. -/
theorem State.hkFresh_get (g : Fld) (all : g.addr ≠ 0x6000080) (own : g.addr ≠ 0x6000100 + 0x20 * n) (count : g.addr ≠ 0x6000300) : (s.hkFresh n).get g = s.get g :=
  (State.get_inc_ne _ F.HK.CONVERSIONS g count).trans ((State.get_publish _ (F.HK.SLOT_ST n) g own).trans (s.get_publish F.HK.HK_DATA_ST g all))

/-- A field of a word that holds `x`. -/
theorem State.get_of_word (lo wd x : Nat) (a : Nat) (holds : s.get ⟨a, 0, 32⟩ = x) : s.get ⟨a, lo, wd⟩ = bitsOf x lo wd := by
  rw [← holds]
  exact congrArg (bitsOf · lo wd) (bitsOf_word (s.rd a)).symm

theorem signed_unsigned (x : Int) (least : -2 ^ 31 ≤ x) (most : x < 2 ^ 31) : signed 32 (unsigned 32 x) = x := by
  rw [signed, unsigned]
  split <;> omega

variable {n raw} in
theorem State.hkPosted_spec (few : n < 16) (least : -2 ^ 31 ≤ raw) (most : raw < 2 ^ 31) (input flags : Nat) (known : input < 256) (byte : flags < 128) :
    Posting s (s.hkPosted n (n * 2 ^ 28 + input * 256 + flags) v raw) n input v raw := by
  generalize put : n * 2 ^ 28 + input * 256 + flags = info
  obtain ⟨slotRaw, lastRaw, slotValue, value, time, word⟩ := s.hkOverrun.hkOfSlot_spec n info v raw
  have written := Measuring.hkWritten s n info v raw
  have all := Measuring.hkPosted s n info v raw
  have form : s.hkPosted n info v raw = ((s.hkOverrun.hkLatest info v raw).hkOfSlot n info v raw).hkFresh n := rfl
  generalize (s.hkOverrun.hkLatest info v raw).hkOfSlot n info v raw = w at slotRaw lastRaw slotValue value time word written form
  have fresh (g : Fld) (a : g.addr ≠ 0x6000080) (b : g.addr ≠ 0x6000100 + 0x20 * n) (c : g.addr ≠ 0x6000300) : (s.hkPosted n info v raw).get g = w.get g :=
    form ▸ w.hkFresh_get n g a b c
  have slotWord (o lo wd : Nat) (some : o ≠ 0) (low : o < 0x20) : (s.hkPosted n info v raw).get ⟨0x6000100 + o + 0x20 * n, lo, wd⟩ = w.get ⟨0x6000100 + o + 0x20 * n, lo, wd⟩ :=
    fresh _ (by dsimp only; omega) (by dsimp only; omega) (by dsimp only; omega)
  have lastWord (o lo wd : Nat) (some : 0x80 < o) (low : o < 0x100) : (s.hkPosted n info v raw).get ⟨0x6000000 + o, lo, wd⟩ = w.get ⟨0x6000000 + o, lo, wd⟩ :=
    fresh _ (by dsimp only; omega) (by dsimp only; omega) (by dsimp only; omega)
  have signs : signed 32 (unsigned 32 raw) = raw := signed_unsigned raw least most
  have holds : w.get ⟨F.HK.HK_DATA_INFO_SLOT.addr, 0, 32⟩ = info := word.trans (Nat.mod_eq_of_lt (by omega))
  exact
    { slotRaw := (congrArg (signed 32) ((slotWord 12 0 32 (by decide) (by decide)).trans slotRaw)).trans signs
      raw := (congrArg (signed 32) ((lastWord 0x8C 0 32 (by decide) (by decide)).trans lastRaw)).trans signs
      slotValue := congrArg (signed 32) (((slotWord 8 0 32 (by decide) (by decide)).trans slotValue).trans ((lastWord 0x88 0 32 (by decide) (by decide)).trans value).symm)
      value := fun low high => (congrArg (signed 32) ((lastWord 0x88 0 32 (by decide) (by decide)).trans value)).trans (signed_unsigned v low high)
      time := (slotWord 16 0 32 (by decide) (by decide)).trans (time.trans (by rw [(Measuring.hkOverrun s).time]))
      slot := (lastWord 0x84 28 4 (by decide) (by decide)).trans ((w.get_of_word 28 4 info _ holds).trans (by rw [bitsOf]; omega))
      input := (lastWord 0x84 8 8 (by decide) (by decide)).trans ((w.get_of_word 8 8 info _ holds).trans (by rw [bitsOf]; omega))
      counted := by
        have early := written.words.get F.HK.CONVERSIONS (by decide) (by decide) (by simp only [HkResultWord, F.HK.CONVERSIONS]; omega)
        have kept := (State.get_publish _ (F.HK.SLOT_ST n) F.HK.CONVERSIONS (by simp only [F.HK.CONVERSIONS, F.HK.SLOT_ST]; omega)).trans
          (w.get_publish F.HK.HK_DATA_ST F.HK.CONVERSIONS (by decide))
        rw [form]
        exact State.get_inc_of_eq F.HK.CONVERSIONS rfl (kept.trans early)
      others := fun m other => all.words.rd _ (by simp only [F.HK.SLOT_RAW]; omega) (by simp only [F.HK.SLOT_RAW]; omega) (by simp only [PostWord, HkResultWord, F.HK.SLOT_RAW]; omega) }

end
end Sys2Proof.Machine
end

section
/-! PROOFS. The result of a housekeeping slot, delivered (R369 to R375), and the end of its conversion (R366, R371). -/
namespace Sys2Proof.Machine

/-! ### A delivery -/

section
variable (s : State) (n : Nat) (raw : Int) (urgent : Bool)

/-- Whether the conversion of slot `n` runs under the test excitation. -/
def State.hkTest : Bool := decide (s.get (F.HK.HK_SLOT_CFG_INPUT n) < 4) && !urgent && s.flag F.HK.HK_STAT_TEST_ROUND

/-- VALUE and flags of the judged result. -/
def State.hkValued : Int × Nat × State :=
  let test := s.hkTest n urgent
  let t := s.hkJudged n raw test
  t.hkValue (s.get (F.HK.HK_SLOT_CFG_INPUT n)) (s.get (F.HK.HK_SLOT_CFG_CURVE n)) (refOhms (t.get (F.HK.HK_SLOT_CFG_REF n))) raw test

/-- FLAGS of the result. -/
def State.hkFlags : Nat :=
  let v := s.hkValued n raw urgent
  v.2.1 + 16 * bit (s.hkTest n urgent) + 32 * bit urgent + 64 * v.2.2.get F.HK.HK_STAT_CONV_FAULT

/-- The state after the delivery of slot `n`'s result. -/
def State.hkDelivered : State :=
  let input := s.get (F.HK.HK_SLOT_CFG_INPUT n)
  let v := s.hkValued n raw urgent
  let flags := s.hkFlags n raw urgent
  (v.2.2.hkPosted n (n * 2 ^ 28 + input * 256 + flags) v.1 raw).hkFollow n v.1 input flags

theorem State.hkDeliver_eq : s.hkDeliver n raw urgent =
    (if decide (s.get (F.HK.HK_SLOT_CFG_INPUT n) < 4) = true then some (s.get (F.HK.HK_SLOT_CFG_INPUT n)) else none, s.hkDelivered n raw urgent) := rfl

/-- What the delivery of slot `n`'s result `raw` leaves to be read in `x`. -/
structure Delivery (s x : State) (n : Nat) (raw : Int) : Prop where
  slotRaw : x.getI (F.HK.SLOT_RAW n) = raw
  lastRaw : x.getI F.HK.RAW = raw
  slotValue : x.getI (F.HK.SLOT_VALUE n) = x.getI F.HK.VALUE
  time : x.get (F.HK.SLOT_TIME_LO n) = s.time.dev.toNat % 2 ^ 32
  slot : x.get F.HK.HK_DATA_INFO_SLOT = n
  input : x.get F.HK.HK_DATA_INFO_INPUT = s.get (F.HK.HK_SLOT_CFG_INPUT n)
  counted : x.get F.HK.CONVERSIONS = min (s.get F.HK.CONVERSIONS + 1) (2 ^ 32 - 1)
  others : ∀ m : Fin 16, m.val ≠ n → x.rd (F.HK.SLOT_RAW m).addr = s.rd (F.HK.SLOT_RAW m).addr
  opened : s.get (F.HK.HK_SLOT_CFG_INPUT n) < 4 → 995 * 2 ^ 22 ≤ 1000 * raw → x.bitAt F.HK.SENSOR_STAT_OPEN (s.get (F.HK.HK_SLOT_CFG_INPUT n)) = true ∧
    (s.get (F.HK.HK_SLOT_CFG_CURVE n) ≠ 15 → x.getI F.HK.VALUE = 2400)
  fault : s.get (F.HK.HK_SLOT_CFG_INPUT n) = 0x18 → 2097 < raw.natAbs → s.flag F.HK.HK_STAT_CONV_FAULT = false →
    x.get F.HK.CONV_FAULTS = min (s.get F.HK.CONV_FAULTS + 1) (2 ^ 32 - 1)
  plain : 4 ≤ s.get (F.HK.HK_SLOT_CFG_INPUT n) → s.get (F.HK.HK_SLOT_CFG_CURVE n) ≠ 14 → x.getI F.HK.VALUE = raw

/-- The words that a delivery may change. -/
def DeliverWord (n a : Nat) : Prop := JudgeWord a ∨ PostWord n a ∨ FollowWord a

theorem Measuring.hkValued : Measuring JudgeWord s (s.hkValued n raw urgent).2.2 := by
  obtain ⟨regs, hk, time⟩ := (s.hkJudged n raw (s.hkTest n urgent)).hkValue_unseen (s.get (F.HK.HK_SLOT_CFG_INPUT n)) (s.get (F.HK.HK_SLOT_CFG_CURVE n))
    (refOhms ((s.hkJudged n raw (s.hkTest n urgent)).get (F.HK.HK_SLOT_CFG_REF n))) raw (s.hkTest n urgent)
  exact (Measuring.hkJudged s n raw _).trans (.of_rest (.of_regs regs) hk time)

/-- Behind the judgement. -/
theorem State.hkDelivered_later : Measuring (fun a => PostWord n a ∨ FollowWord a) (s.hkValued n raw urgent).2.2 (s.hkDelivered n raw urgent) :=
  ((Measuring.hkPosted _ n _ _ raw).widen fun _ => .inl).trans ((Measuring.hkFollow _ n _ _ _).widen fun _ => .inr)

theorem Measuring.hkDelivered : Measuring (DeliverWord n) s (s.hkDelivered n raw urgent) :=
  ((Measuring.hkValued s n raw urgent).widen fun _ => .inl).trans ((s.hkDelivered_later n raw urgent).widen fun _ => .inr)

theorem State.hkFlags_lt : s.hkFlags n raw urgent < 128 := by
  have verdict : (s.hkValued n raw urgent).2.1 < 16 := State.hkValue_flags _ _ _ _ _ _
  have test := bit_le_one (s.hkTest n urgent)
  have early := bit_le_one urgent
  have fault : (s.hkValued n raw urgent).2.2.get F.HK.HK_STAT_CONV_FAULT < 2 := State.get_lt _ F.HK.HK_STAT_CONV_FAULT
  have form : s.hkFlags n raw urgent = (s.hkValued n raw urgent).2.1 + 16 * bit (s.hkTest n urgent) + 32 * bit urgent + 64 * (s.hkValued n raw urgent).2.2.get F.HK.HK_STAT_CONV_FAULT := rfl
  omega

/-- The judged value: 2400 for an open NTC, the code itself for a plain input. -/
theorem State.hkValued_fst : (s.get (F.HK.HK_SLOT_CFG_INPUT n) < 4 → 995 * 2 ^ 22 ≤ 1000 * raw → s.get (F.HK.HK_SLOT_CFG_CURVE n) ≠ 15 → (s.hkValued n raw urgent).1 = 2400) ∧
    (4 ≤ s.get (F.HK.HK_SLOT_CFG_INPUT n) → s.get (F.HK.HK_SLOT_CFG_CURVE n) ≠ 14 → (s.hkValued n raw urgent).1 = raw) :=
  ⟨fun few top known => State.hkValue_open _ _ _ _ _ _ few ((s.hkJudged_spec n raw (s.hkTest n urgent)).1 few top) known,
    fun high known => State.hkValue_plain _ _ _ _ _ _ high known⟩

/-- The judged state shows what the judgement set. -/
theorem State.hkValued_words : HkWords noWord (s.hkJudged n raw (s.hkTest n urgent)) (s.hkValued n raw urgent).2.2 :=
  .of_regs (State.hkValue_unseen _ _ _ _ _ _).1

/-- What follows a result leaves the OPEN flags. -/
theorem State.hkFollow_open (v : Int) (input flags : Nat) : (s.hkFollow n v input flags).get F.HK.SENSOR_STAT_OPEN = s.get F.HK.SENSOR_STAT_OPEN := by
  unfold State.hkFollow
  dsimp only
  have counted : (s.when (decide (flags / 4 % 2 = 1)) (fun s => s.inc F.HK.SUSPECTS)).get F.HK.SENSOR_STAT_OPEN = s.get F.HK.SENSOR_STAT_OPEN := by
    cases decide (flags / 4 % 2 = 1)
    · rfl
    · exact s.get_inc_ne F.HK.SUSPECTS F.HK.SENSOR_STAT_OPEN (by decide)
  generalize s.when (decide (flags / 4 % 2 = 1)) (fun s => s.inc F.HK.SUSPECTS) = t at counted ⊢
  have sensed : (t.when (decide (input < 4)) (fun s => (s.setBitAt F.HK.SENSOR_STAT_SUSPECT_LAST input (decide (flags / 4 % 2 = 1))).setNtc input
      { s.ntc input with value := some v, bad := decide (0 < flags % 8) })).get F.HK.SENSOR_STAT_OPEN = t.get F.HK.SENSOR_STAT_OPEN := by
    cases decide (input < 4)
    · rfl
    · exact t.get_set_bits F.HK.SENSOR_STAT_SUSPECT_LAST F.HK.SENSOR_STAT_OPEN _ rfl (.inr (by decide))
  generalize t.when (decide (input < 4)) _ = u at sensed ⊢
  have fed : Measuring noWord u (u.each (u.slotLoops n input) (fun s l => s.loopSource l v (decide (0 < flags % 8)))) :=
    .each _ _ (fun w l mem => .loopSource w l (u.slotLoops_lt n input l mem) v _) u
  exact (fed.words.get F.HK.SENSOR_STAT_OPEN (by decide) (by decide) id).trans (sensed.trans counted)

theorem State.hkDelivered_open : (s.hkDelivered n raw urgent).get F.HK.SENSOR_STAT_OPEN = (s.hkJudged n raw (s.hkTest n urgent)).get F.HK.SENSOR_STAT_OPEN := by
  refine (State.hkFollow_open _ n _ _ _).trans ((Measuring.hkPosted _ n _ _ raw).words.get F.HK.SENSOR_STAT_OPEN (by decide) (by decide) ?_ |>.trans ?_)
  · simp only [PostWord, HkResultWord, F.HK.SENSOR_STAT_OPEN]; omega
  · exact (s.hkValued_words n raw urgent).get F.HK.SENSOR_STAT_OPEN (by decide) (by decide) id

variable {n raw} in
theorem State.hkDelivered_delivery (few : n < 16) (least : -2 ^ 31 ≤ raw) (most : raw < 2 ^ 31) : Delivery s (s.hkDelivered n raw urgent) n raw := by
  have input : s.get (F.HK.HK_SLOT_CFG_INPUT n) < 256 := s.get_lt _
  have judged := Measuring.hkValued s n raw urgent
  obtain ⟨opened, plain⟩ := s.hkValued_fst n raw urgent
  have posting := (s.hkValued n raw urgent).2.2.hkPosted_spec (s.hkValued n raw urgent).1 few least most _ _ input (s.hkFlags_lt n raw urgent)
  have later := s.hkDelivered_later n raw urgent
  have follow : Measuring FollowWord _ (s.hkDelivered n raw urgent) := Measuring.hkFollow _ n _ _ _
  generalize State.hkPosted _ n _ _ raw = w at posting follow
  have slotWord (o : Nat) (low : o < 0x18) : w.get ⟨0x6000100 + o + 0x20 * n, 0, 32⟩ = (s.hkDelivered n raw urgent).get ⟨0x6000100 + o + 0x20 * n, 0, 32⟩ := by
    refine (follow.words.get _ ?_ ?_ ?_).symm <;> simp only [FollowWord] <;> omega
  have lastWord (o lo wd : Nat) (low : 0x80 ≤ o ∧ o < 0x98) : w.get ⟨0x6000000 + o, lo, wd⟩ = (s.hkDelivered n raw urgent).get ⟨0x6000000 + o, lo, wd⟩ := by
    refine (follow.words.get _ ?_ ?_ ?_).symm <;> simp only [FollowWord] <;> omega
  have value : (s.hkDelivered n raw urgent).getI F.HK.VALUE = w.getI F.HK.VALUE := (State.getI_of_get (lastWord 0x88 0 32 (by decide))).symm
  exact
    { slotRaw := (State.getI_of_get (slotWord 12 (by decide))).symm.trans posting.slotRaw
      lastRaw := (State.getI_of_get (lastWord 0x8C 0 32 (by decide))).symm.trans posting.raw
      slotValue := (State.getI_of_get (slotWord 8 (by decide))).symm.trans (posting.slotValue.trans value.symm)
      time := (slotWord 16 (by decide)).symm.trans (posting.time.trans (by rw [judged.time]))
      slot := (lastWord 0x84 28 4 (by decide)).symm.trans posting.slot
      input := (lastWord 0x84 8 8 (by decide)).symm.trans posting.input
      counted := (follow.words.get F.HK.CONVERSIONS (by decide) (by decide) (by simp only [FollowWord, F.HK.CONVERSIONS]; omega)).trans
        (posting.counted.trans (by rw [judged.words.get F.HK.CONVERSIONS (by decide) (by decide) (by simp only [JudgeWord, F.HK.CONVERSIONS]; omega)]))
      others := fun m other => by
        have high : (F.HK.SLOT_RAW m).addr = 0x600010C + 0x20 * m.val := rfl
        exact (follow.words.rd _ (by omega) (by omega) (by simp only [FollowWord]; omega)).trans
          ((posting.others m other).trans (judged.words.rd _ (by omega) (by omega) (by simp only [JudgeWord]; omega)))
      opened := fun ntc top => by
        have shown := (s.hkJudged_spec n raw (s.hkTest n urgent)).1 ntc top
        refine ⟨(congrArg (fun w => w / 2 ^ s.get (F.HK.HK_SLOT_CFG_INPUT n) % 2 == 1) (s.hkDelivered_open n raw urgent)).trans shown, fun known => ?_⟩
        have same := opened ntc top known
        exact value.trans ((posting.value (by omega) (by omega)).trans same)
      fault := fun zero off clear => by
        obtain ⟨-, -, counts⟩ := (s.hkJudged_spec n raw (s.hkTest n urgent)).2 zero off
        refine (later.words.get F.HK.CONV_FAULTS (by decide) (by decide) ?_).trans ?_
        · simp only [PostWord, HkResultWord, FollowWord, F.HK.CONV_FAULTS]; omega
        · exact ((s.hkValued_words n raw urgent).get F.HK.CONV_FAULTS (by decide) (by decide) id).trans (counts clear)
      plain := fun high known => value.trans ((posting.value (by rw [plain high known]; exact least) (by rw [plain high known]; exact most)).trans (plain high known)) }

variable {n raw} in
/-- R375: a failed zero check shows in CONV_FAULT and stays noted. -/
theorem State.hkDelivered_fault (zero : s.get (F.HK.HK_SLOT_CFG_INPUT n) = 0x18) (off : 2097 < raw.natAbs) :
    (s.hkDelivered n raw urgent).flag F.HK.HK_STAT_CONV_FAULT = true ∧ (s.hkDelivered n raw urgent).hk.checkBad = true := by
  obtain ⟨shown, noted, -⟩ := (s.hkJudged_spec n raw (s.hkTest n urgent)).2 zero off
  have later := s.hkDelivered_later n raw urgent
  have kept := (s.hkValued_words n raw urgent).flag F.HK.HK_STAT_CONV_FAULT (by decide) (by decide) id
  have same : (s.hkValued n raw urgent).2.2.hk = (s.hkJudged n raw (s.hkTest n urgent)).hk := (State.hkValue_unseen _ _ _ _ _ _).2.1
  refine ⟨(later.words.flag F.HK.HK_STAT_CONV_FAULT (by decide) (by decide) ?_).trans (kept.trans shown), later.bad (by rw [same]; exact noted)⟩
  simp only [PostWord, HkResultWord, FollowWord, F.HK.HK_STAT_CONV_FAULT]; omega

end
end Sys2Proof.Machine
end

section
/-! PROOFS. The end of a conversion, of a round and of an urgent conversion (R366 to R371). -/
namespace Sys2Proof.Machine

/-- The words that the turn of the converter changes: HK_STAT, ROUNDS and URGENT_DONE. -/
def TurnWord (a : Nat) : Prop := a = 0x6000004 ∨ a = 0x6000008 ∨ a = 0x6000304

variable {s x y : State} {n : Nat} {raw : Int} in
/-- The turn of the converter leaves a delivery to be read. -/
theorem Delivery.later (h : Delivery s x n raw) (few : n < 16) (words : HkWords TurnWord x y) : Delivery s y n raw := by
  have word (o lo wd : Nat) (low : o < 0x400) (other : o ≠ 4 ∧ o ≠ 8 ∧ o ≠ 0x304) : y.get ⟨0x6000000 + o, lo, wd⟩ = x.get ⟨0x6000000 + o, lo, wd⟩ :=
    words.get _ (by dsimp only; omega) (by dsimp only; omega) (by simp only [TurnWord]; omega)
  have slotWord (o : Nat) (low : o < 0x18) : y.get ⟨0x6000100 + o + 0x20 * n, 0, 32⟩ = x.get ⟨0x6000100 + o + 0x20 * n, 0, 32⟩ :=
    words.get _ (by dsimp only; omega) (by dsimp only; omega) (by simp only [TurnWord]; omega)
  have value : y.getI F.HK.VALUE = x.getI F.HK.VALUE := State.getI_of_get (word 0x88 0 32 (by decide) (by decide))
  exact
    { slotRaw := (State.getI_of_get (slotWord 12 (by decide))).trans h.slotRaw
      lastRaw := (State.getI_of_get (word 0x8C 0 32 (by decide) (by decide))).trans h.lastRaw
      slotValue := (State.getI_of_get (slotWord 8 (by decide))).trans (h.slotValue.trans value.symm)
      time := (slotWord 16 (by decide)).trans h.time
      slot := (word 0x84 28 4 (by decide) (by decide)).trans h.slot
      input := (word 0x84 8 8 (by decide) (by decide)).trans h.input
      counted := (word 0x300 0 32 (by decide) (by decide)).trans h.counted
      others := fun m other => by
        have high : (F.HK.SLOT_RAW m).addr = 0x600010C + 0x20 * m.val := rfl
        exact (words.rd _ (by omega) (by omega) (by simp only [TurnWord]; omega)).trans (h.others m other)
      opened := fun ntc top => by
        obtain ⟨shown, level⟩ := h.opened ntc top
        exact ⟨(congrArg (fun w => w / 2 ^ s.get (F.HK.HK_SLOT_CFG_INPUT n) % 2 == 1) (word 0xC 0 4 (by decide) (by decide))).trans shown, fun known => value.trans (level known)⟩
      fault := fun zero off clear => (word 0x314 0 32 (by decide) (by decide)).trans (h.fault zero off clear)
      plain := fun high known => value.trans (h.plain high known) }

section
variable (s : State)

/-! ### The next conversion -/

theorem State.hkBegin_words (n : Nat) (urgent : Bool) : HkWords TurnWord s (s.hkBegin n urgent) :=
  (BlockWords.of_regs rfl : HkWords TurnWord s { s with hk := { s.hk with due := n, inUrgent := urgent, trip := false, auxCode := s.get F.HK.CODE, auxMoved := false } }).trans
    (HkWords.setOwn _ F.HK.HK_STAT_SLOT _ (.inl rfl))

theorem State.hkBegin_between (n : Nat) (urgent : Bool) : (s.hkBegin n urgent).hk.between = s.hk.between := rfl

theorem State.hkBegin_slot (n : Nat) (few : n < 16) : (s.hkBegin n false).hkSlot = n := (State.get_set_same _ F.HK.HK_STAT_SLOT n rfl).trans (Nat.mod_eq_of_lt few)

theorem State.hkBegin_fault (n : Nat) (urgent : Bool) : (s.hkBegin n urgent).flag F.HK.HK_STAT_CONV_FAULT = s.flag F.HK.HK_STAT_CONV_FAULT :=
  congrArg (· == 1) (State.get_set_bits _ F.HK.HK_STAT_SLOT F.HK.HK_STAT_CONV_FAULT _ rfl (.inr (by decide)))

theorem State.hkNext_none (n : Nat) (none : s.hk.urgent = none) : s.hkNext n = s.hkBegin n false := by rw [State.hkNext, none]

theorem State.hkNext_cases (n : Nat) : ∃ urgent, s.hkNext n = s.hkBegin n urgent := by
  rw [State.hkNext]
  split
  · exact ⟨true, rfl⟩
  · exact ⟨false, rfl⟩

/-! ### The end of a round -/

/-- A round is counted. -/
def State.hkRoundCounted : State :=
  let s := s.inc F.HK.ROUNDS
  { s with hk := { s.hk with between := true, checkBad := false, okRounds := if s.hk.checkBad then 0 else s.hk.okRounds + 1 } }

/-- Two good rounds running clear CONV_FAULT. -/
def State.hkRoundGood : State := s.hkRoundCounted.when (decide (2 ≤ s.hkRoundCounted.hk.okRounds)) (fun s => s.set F.HK.HK_STAT_CONV_FAULT 0)

theorem State.hkRoundEnd_eq : s.hkRoundEnd = s.hkRoundGood.hkUnserved.hkEmitter := rfl

theorem State.hkLoops_lt : ∀ l ∈ s.hkLoops, l < 8 := by
  intro l mem
  rw [State.hkLoops, List.mem_append, List.mem_filter] at mem
  obtain fixed | ⟨those, -⟩ := mem
  · obtain rfl | rfl : l = 4 ∨ l = 7 := by simpa using fixed
    · decide
    · decide
  · obtain rfl | rfl : l = 5 ∨ l = 6 := by simpa using those
    · decide
    · decide

theorem Measuring.hkUnserved : Measuring noWord s s.hkUnserved := by
  have missed : Measuring noWord s (s.each (s.hkLoops.filter (fun l => !s.hk.served.contains l)) State.loopMissed) :=
    .each _ _ (fun u l mem => .loopMissed u l (s.hkLoops_lt l (List.mem_of_mem_filter mem))) s
  exact missed.trans ⟨.of_regs rfl, rfl, id, rfl⟩

theorem Measuring.hkEmitter : Measuring noWord s s.hkEmitter := by
  unfold State.hkEmitter
  split
  · exact .derateRound s _
  · exact .derateRound s _
  · exact .derateRound s _
  · exact .refl s

theorem State.hkRoundEnd_rest : Measuring noWord s.hkRoundGood s.hkRoundEnd := (Measuring.hkUnserved _).trans (.hkEmitter _)

theorem State.hkRoundGood_words : HkWords TurnWord s s.hkRoundGood := by
  have counted : HkWords TurnWord s s.hkRoundCounted := (HkWords.setOwn s F.HK.ROUNDS _ (.inr (.inl rfl))).trans (.of_regs rfl)
  exact counted.trans (BlockWords.when _ (fun u => HkWords.setOwn u F.HK.HK_STAT_CONV_FAULT 0 (.inl rfl)) _)

theorem State.hkRoundEnd_words : HkWords TurnWord s s.hkRoundEnd := s.hkRoundGood_words.trans (s.hkRoundEnd_rest.words.widen fun _ => False.elim)

theorem State.hkRoundEnd_between : s.hkRoundEnd.hk.between = true := by
  rw [s.hkRoundEnd_rest.hk]
  unfold State.hkRoundGood
  cases decide (2 ≤ s.hkRoundCounted.hk.okRounds) <;> rfl

theorem State.hkRoundEnd_rounds : s.hkRoundEnd.get F.HK.ROUNDS = min (s.get F.HK.ROUNDS + 1) (2 ^ 32 - 1) := by
  have good : s.hkRoundGood.get F.HK.ROUNDS = s.hkRoundCounted.get F.HK.ROUNDS := by
    unfold State.hkRoundGood
    cases decide (2 ≤ s.hkRoundCounted.hk.okRounds)
    · rfl
    · exact State.get_set_addr _ F.HK.HK_STAT_CONV_FAULT F.HK.ROUNDS 0 (by decide)
  exact (s.hkRoundEnd_rest.words.get F.HK.ROUNDS (by decide) (by decide) id).trans (good.trans (s.get_inc F.HK.ROUNDS rfl))

/-- A round with a failed check leaves CONV_FAULT. -/
theorem State.hkRoundEnd_fault (noted : s.hk.checkBad = true) : s.hkRoundEnd.flag F.HK.HK_STAT_CONV_FAULT = s.flag F.HK.HK_STAT_CONV_FAULT := by
  have none : s.hkRoundCounted.hk.okRounds = 0 := if_pos noted
  have good : s.hkRoundGood = s.hkRoundCounted := by rw [State.hkRoundGood, none]; rfl
  exact (s.hkRoundEnd_rest.words.flag F.HK.HK_STAT_CONV_FAULT (by decide) (by decide) id).trans
    (good ▸ congrArg (· == 1) (s.get_inc_ne F.HK.ROUNDS F.HK.HK_STAT_CONV_FAULT (by decide)))

/-! ### The end of a conversion -/

/-- The turn behind slot `n`: the end of the round, or the next slot. -/
def State.hkTurn (n : Nat) : State := if n = 15 then s.hkRoundEnd else s.hkNext (n + 1)

theorem State.hkTurn_words (n : Nat) : HkWords TurnWord s (s.hkTurn n) := by
  unfold State.hkTurn
  split
  · exact s.hkRoundEnd_words
  · obtain ⟨urgent, form⟩ := s.hkNext_cases (n + 1)
    rw [form]
    exact s.hkBegin_words _ urgent

theorem State.hkTurn_fault (n : Nat) (noted : s.hk.checkBad = true) (shown : s.flag F.HK.HK_STAT_CONV_FAULT = true) : (s.hkTurn n).flag F.HK.HK_STAT_CONV_FAULT = true := by
  unfold State.hkTurn
  split
  · exact (s.hkRoundEnd_fault noted).trans shown
  · obtain ⟨urgent, form⟩ := s.hkNext_cases (n + 1)
    rw [form]
    exact (s.hkBegin_fault _ urgent).trans shown

theorem State.hkTurn_between (n : Nat) (begun : s.hk.between = false) : (s.hkTurn n).hk.between = (n == 15) := by
  unfold State.hkTurn
  split
  next last => rw [last]; exact s.hkRoundEnd_between
  next more =>
    obtain ⟨urgent, form⟩ := s.hkNext_cases (n + 1)
    rw [form, s.hkBegin_between, begun, beq_eq_false_iff_ne.2 more]

/-- A conversion is under way that is no urgent one. -/
def State.hkGoing : Prop := s.domOn 65 = true ∧ s.flag F.HK.HK_STAT_RUNNING = true ∧ s.hk.between = false ∧ s.hk.inUrgent = false

theorem State.hkEnd_of_not (idle : ¬ s.hkGoing) (raw : Int) : s.hkEnd raw = (none, s) := by
  have none : ¬ (s.domOn 65 && s.flag F.HK.HK_STAT_RUNNING && !s.hk.between && !s.hk.inUrgent) = true := fun h => idle (by
    simp only [Bool.and_eq_true, Bool.not_eq_true'] at h
    obtain ⟨⟨⟨on, run⟩, begun⟩, plain⟩ := h
    exact ⟨on, run, begun, plain⟩)
  exact if_neg none

theorem State.hkEnd_of_going (going : s.hkGoing) (raw : Int) : s.hkEnd raw =
    if s.flag (F.HK.HK_SLOT_CFG_EN s.hkSlot) then ((s.hkDeliver s.hkSlot raw false).1, (s.hkDeliver s.hkSlot raw false).2.hkTurn s.hkSlot) else (none, s.hkTurn s.hkSlot) := by
  obtain ⟨on, run, begun, plain⟩ := going
  have all : (s.domOn 65 && s.flag F.HK.HK_STAT_RUNNING && !s.hk.between && !s.hk.inUrgent) = true := by simp [on, run, begun, plain]
  refine (if_pos all).trans ?_
  dsimp only
  by_cases en : s.flag (F.HK.HK_SLOT_CFG_EN s.hkSlot) = true
  · rw [if_pos en, if_pos en]; rfl
  · rw [if_neg en, if_neg en]; rfl

/-- The result of slot `n` in the governor and the illuminators, where it is an NTC's. -/
theorem ntcResult_hkDeliver (n : Nat) (raw : Int) (urgent : Bool) (x : State) : ntcResult ((s.hkDeliver n raw urgent).1, x) =
    if s.get (F.HK.HK_SLOT_CFG_INPUT n) < 4 then (x.ntcEval (s.get (F.HK.HK_SLOT_CFG_INPUT n))).illNtc (s.get (F.HK.HK_SLOT_CFG_INPUT n)) else x := by
  rw [s.hkDeliver_eq, ntcResult]
  by_cases few : s.get (F.HK.HK_SLOT_CFG_INPUT n) < 4
  · rw [decide_eq_true few, if_pos few]; rfl
  · rw [decide_eq_false few, if_neg few]; rfl

end
end Sys2Proof.Machine
end

section
/-! PROOFS. HK_CONVERSION_END and HK_URGENT_COMPLETE (R366 to R371). -/
namespace Sys2Proof.Machine

section
variable {code : Int}

theorem hkConversionEnd_idle : Happens (.hkConversionEnd code) (fun s => ¬ s.hkGoing) Nothing :=
  Happens.of_effect (fun _ => rfl) fun s idle => by rw [s.hkEnd_of_not idle]; rfl

theorem hkConversionEnd_empty : Happens (.hkConversionEnd code) (fun s => s.hkGoing ∧ s.hkSlot < 15 ∧ s.flag (F.HK.HK_SLOT_CFG_EN s.hkSlot) = false) (fun s t => t = s.hkNext (s.hkSlot + 1)) :=
  Happens.of_effect (fun _ => rfl) fun s ⟨going, more, off⟩ => by
    have form : s.hkEnd code = (none, s.hkTurn s.hkSlot) := by rw [s.hkEnd_of_going going, off]; rfl
    rw [form]
    exact if_neg (by omega)

/-- What a conversion's end leaves: the delivered result, the turn of the converter, the NTC that is evaluated. -/
def ConversionEnded (code : Int) (s t : State) : Prop :=
  let n := s.hkSlot
  let i := s.get (F.HK.HK_SLOT_CFG_INPUT n)
  ∃ x : State, t = (if i < 4 then (x.ntcEval i).illNtc i else x) ∧ Delivery s x n code ∧ x.hk.between = (n == 15) ∧ (n < 15 → s.hk.urgent = none → x.hkSlot = n + 1) ∧
    (n = 15 → x.get F.HK.ROUNDS = min (s.get F.HK.ROUNDS + 1) (2 ^ 32 - 1)) ∧ (i = 0x18 → 2097 < code.natAbs → x.flag F.HK.HK_STAT_CONV_FAULT = true)

theorem State.hkSlot_lt (s : State) : s.hkSlot < 16 := s.get_lt F.HK.HK_STAT_SLOT

theorem hkConversionEnd_delivers (least : -2 ^ 31 ≤ code) (most : code < 2 ^ 31) :
    Happens (.hkConversionEnd code) (fun s => s.hkGoing ∧ s.flag (F.HK.HK_SLOT_CFG_EN s.hkSlot) = true) (ConversionEnded code) :=
  Happens.of_effect (fun _ => rfl) fun s ⟨going, en⟩ => by
    have form : s.hkEnd code = ((s.hkDeliver s.hkSlot code false).1, (s.hkDelivered s.hkSlot code false).hkTurn s.hkSlot) := by
      rw [s.hkEnd_of_going going, en]; rfl
    have few := s.hkSlot_lt
    have delivery := s.hkDelivered_delivery false few least most
    have kept := Measuring.hkDelivered s s.hkSlot code false
    have record : (s.hkDelivered s.hkSlot code false).hk.between = s.hk.between ∧ (s.hkDelivered s.hkSlot code false).hk.urgent = s.hk.urgent := by rw [kept.hk]; exact ⟨rfl, rfl⟩
    obtain ⟨-, -, begun, -⟩ := going
    refine ⟨(s.hkDelivered s.hkSlot code false).hkTurn s.hkSlot, ?_, delivery.later few (State.hkTurn_words _ _), State.hkTurn_between _ _ (record.1.trans begun), fun more plain => ?_,
      fun last => ?_, fun zero off => ?_⟩
    · rw [form]
      exact ntcResult_hkDeliver s _ _ _ _
    · rw [State.hkTurn, if_neg (by omega), State.hkNext_none _ _ (record.2.trans plain)]
      exact State.hkBegin_slot _ _ (by omega)
    · rw [State.hkTurn, if_pos last]
      refine (State.hkRoundEnd_rounds _).trans ?_
      rw [kept.words.get F.HK.ROUNDS (by decide) (by decide) (by simp only [DeliverWord, JudgeWord, PostWord, HkResultWord, FollowWord, F.HK.ROUNDS]; omega)]
    · obtain ⟨shown, noted⟩ := s.hkDelivered_fault false zero off
      exact State.hkTurn_fault _ _ noted shown

/-! ### HK_URGENT -/

theorem hkUrgentComplete_idle : Happens (.hkUrgentComplete code) (fun s => s.domOn 65 = false ∨ s.hk.urgent = none ∨ s.hk.inUrgent = false) Nothing :=
  Happens.of_effect (fun _ => rfl) fun s idle => by
    have none : s.urgentComplete code = (none, s) := by
      unfold State.urgentComplete
      split
      next n some =>
        refine if_neg ?_
        rw [some] at idle
        obtain off | absurd | plain := idle
        · rw [off]; exact Bool.false_ne_true
        · cases absurd
        · rw [plain, Bool.and_false]; exact Bool.false_ne_true
      · rfl
    rw [none]
    rfl

/-- The result of the urgent slot is delivered and counted, and the slot no longer waits. -/
def State.urgentServed (s : State) (n : Nat) (code : Int) : State :=
  let s := (s.hkDelivered n code true).inc F.HK.URGENT_DONE
  ({ s with hk := { s.hk with urgent := none, inUrgent := false } } : State).set F.HK.HK_STAT_URGENT_PEND 0

variable (s : State) (n : Nat)

theorem State.urgentServed_words : HkWords TurnWord (s.hkDelivered n code true) (s.urgentServed n code) :=
  ((HkWords.setOwn _ F.HK.URGENT_DONE _ (.inr (.inr rfl))).trans (.of_regs rfl)).trans (HkWords.setOwn _ F.HK.HK_STAT_URGENT_PEND 0 (.inl rfl))

theorem State.urgentServed_done (few : n < 16) : (s.urgentServed n code).get F.HK.URGENT_DONE = min (s.get F.HK.URGENT_DONE + 1) (2 ^ 32 - 1) := by
  have kept := (Measuring.hkDelivered s n code true).words.get F.HK.URGENT_DONE (by decide) (by decide)
    (by simp only [DeliverWord, JudgeWord, PostWord, HkResultWord, FollowWord, F.HK.URGENT_DONE]; omega)
  exact (State.get_set_addr _ F.HK.HK_STAT_URGENT_PEND F.HK.URGENT_DONE 0 (by decide)).trans (State.get_inc_of_eq _ rfl kept)

/-- The data of the completion: VALUE and the word of INFO. -/
def State.urgentData (s : State) : List Byte := wordBytes [s.rd F.HK.VALUE.addr, s.rd F.HK.HK_DATA_INFO_SLOT.addr]

theorem State.urgentData_served : ((s.hkDelivered n code true).inc F.HK.URGENT_DONE).urgentData = (s.urgentServed n code).urgentData := by
  have kept (a : Nat) (other : a ≠ F.HK.HK_STAT_URGENT_PEND.addr) : (s.urgentServed n code).rd a = ((s.hkDelivered n code true).inc F.HK.URGENT_DONE).rd a :=
    State.rd_set_ne _ F.HK.HK_STAT_URGENT_PEND 0 a other
  rw [State.urgentData, State.urgentData, kept _ (by decide), kept _ (by decide)]

theorem State.urgentServed_due : (s.urgentServed n code).hk.due = s.hk.due := by
  have kept := (Measuring.hkDelivered s n code true).hk
  exact (congrArg HkSt.due kept).trans rfl

theorem State.urgentComplete_eq (on : s.domOn 65 = true) (some : s.hk.urgent = some n) (under : s.hk.inUrgent = true) : s.urgentComplete code =
    ((s.hkDeliver n code true).1, ((s.urgentServed n code).complete 0x0801 0 0 (s.urgentServed n code).urgentData).hkBegin s.hk.due false) := by
  have form : s.urgentComplete code = ((s.hkDeliver n code true).1,
      (((s.urgentServed n code).complete 0x0801 0 0 ((s.hkDelivered n code true).inc F.HK.URGENT_DONE).urgentData).hkBegin
        ((s.urgentServed n code).complete 0x0801 0 0 ((s.hkDelivered n code true).inc F.HK.URGENT_DONE).urgentData).hk.due false)) := by
    unfold State.urgentComplete
    rw [some]
    dsimp only
    rw [on, under]
    rfl
  have due (b : List Byte) : ((s.urgentServed n code).complete 0x0801 0 0 b).hk.due = s.hk.due :=
    (congrArg HkSt.due (Answering.complete (s.urgentServed n code) 0x0801 0 0 b).hk_eq).trans (s.urgentServed_due n)
  rw [form, s.urgentData_served n, due]

theorem hkUrgentComplete_serves (least : -2 ^ 31 ≤ code) (most : code < 2 ^ 31) (few : n < 16) :
    Happens (.hkUrgentComplete code) (fun s => s.domOn 65 = true ∧ s.hk.urgent = some n ∧ s.hk.inUrgent = true) (fun s t => ∃ x y : State,
      y = (x.complete 0x0801 0 0 x.urgentData).hkBegin s.hk.due false ∧
      t = (if s.get (F.HK.HK_SLOT_CFG_INPUT n) < 4 then (y.ntcEval (s.get (F.HK.HK_SLOT_CFG_INPUT n))).illNtc (s.get (F.HK.HK_SLOT_CFG_INPUT n)) else y) ∧
      x.hk.urgent = none ∧ x.flag F.HK.HK_STAT_URGENT_PEND = false ∧ Delivery s x n code ∧ x.get F.HK.URGENT_DONE = min (s.get F.HK.URGENT_DONE + 1) (2 ^ 32 - 1)) :=
  Happens.of_effect (fun _ => rfl) fun s ⟨on, wanted, under⟩ => by
    have shown : (s.urgentServed n code).flag F.HK.HK_STAT_URGENT_PEND = false := congrArg (· == 1) (State.get_set_same _ F.HK.HK_STAT_URGENT_PEND 0 rfl)
    refine ⟨s.urgentServed n code, _, rfl, ?_, rfl, shown, (s.hkDelivered_delivery true few least most).later few (s.urgentServed_words n), s.urgentServed_done n few⟩
    rw [s.urgentComplete_eq n on wanted under]
    exact ntcResult_hkDeliver s _ _ _ _

end
end Sys2Proof.Machine
end

section
/-! PROOFS. The start of the converter and of its rounds (R366 to R368), a block that takes effect, the NTC comparator (R374). -/
namespace Sys2Proof.Machine

section
variable (s : State)

/-! ### A block -/

/-- The configuration of slot `n` in a block. -/
def State.hkSlotSet (b : List Byte) (s : State) (n : Nat) : State :=
  let f := u8 b (9 + 3 * n)
  (((s.set (F.HK.HK_SLOT_CFG_INPUT n) (u8 b (8 + 3 * n))).set (F.HK.HK_SLOT_CFG_EN n) (bitsOf f 7 1)).set (F.HK.HK_SLOT_CFG_REF n)
    (bitsOf f 4 2)).set (F.HK.HK_SLOT_CFG_CURVE n) (bitsOf f 0 4)

/-- The registers of a block. -/
def State.hkLoaded (b : List Byte) : State :=
  ((s.set F.HK.HK_CFG_F_INT (u16 b 0)).set F.HK.HK_CFG_CONV_EN (u8 b 2 % 2)).each (List.range 16) (State.hkSlotSet b)

theorem State.hkApply_eq (b : List Byte) : s.hkApply b = { s.hkLoaded b with hk := { (s.hkLoaded b).hk with block := none } } := rfl

/-- Slot `n` is as the block has it. -/
def SlotLoaded (b : List Byte) (n : Nat) (t : State) : Prop :=
  t.get (F.HK.HK_SLOT_CFG_INPUT n) = u8 b (8 + 3 * n) ∧ t.flag (F.HK.HK_SLOT_CFG_EN n) = (u8 b (9 + 3 * n)).testBit 7 ∧ t.get (F.HK.HK_SLOT_CFG_CURVE n) = u8 b (9 + 3 * n) % 16

theorem State.hkSlotSet_loaded (b : List Byte) (n : Nat) : SlotLoaded b n (State.hkSlotSet b s n) := by
  have input : u8 b (8 + 3 * n) < 256 := beAt_lt b _ 1
  have en : bitsOf (u8 b (9 + 3 * n)) 7 1 < 2 := bitsOf_lt _ _ _
  have curve : bitsOf (u8 b (9 + 3 * n)) 0 4 = u8 b (9 + 3 * n) % 16 := congrArg (· % 16) (Nat.div_one _)
  refine ⟨?_, ?_, ?_⟩
  · exact (State.get_set_bits _ (F.HK.HK_SLOT_CFG_CURVE n) (F.HK.HK_SLOT_CFG_INPUT n) _ rfl (.inr (Nat.le_of_ble_eq_true rfl))).trans
      ((State.get_set_bits _ (F.HK.HK_SLOT_CFG_REF n) (F.HK.HK_SLOT_CFG_INPUT n) _ rfl (.inr (Nat.le_of_ble_eq_true rfl))).trans
      ((State.get_set_bits _ (F.HK.HK_SLOT_CFG_EN n) (F.HK.HK_SLOT_CFG_INPUT n) _ rfl (.inr (Nat.le_of_ble_eq_true rfl))).trans
      ((State.get_set_same _ _ _ rfl).trans (Nat.mod_eq_of_lt input))))
  · refine (congrArg (· == 1) (a₂ := bitsOf (u8 b (9 + 3 * n)) 7 1) ?_).trans (bitsOf_one_eq _ 7)
    exact (State.get_set_bits _ (F.HK.HK_SLOT_CFG_CURVE n) (F.HK.HK_SLOT_CFG_EN n) _ rfl (.inl (Nat.le_of_ble_eq_true rfl))).trans
      ((State.get_set_bits _ (F.HK.HK_SLOT_CFG_REF n) (F.HK.HK_SLOT_CFG_EN n) _ rfl (.inl (Nat.le_of_ble_eq_true rfl))).trans
      ((State.get_set_same _ (F.HK.HK_SLOT_CFG_EN n) _ rfl).trans (Nat.mod_eq_of_lt en)))
  · exact (State.get_set_same _ _ _ rfl).trans ((congrArg (· % 16) curve).trans (Nat.mod_mod _ 16))

theorem HkWords.hkSlotSet (b : List Byte) (n : Nat) : HkWords (fun a => a = 0x6000040 + 4 * n) s (State.hkSlotSet b s n) :=
  have put (u : State) (lo wd x : Nat) : HkWords (fun a => a = 0x6000040 + 4 * n) u (u.set ⟨0x6000040 + 4 * n, lo, wd⟩ x) := HkWords.setOwn u _ x rfl
  (((put s 0 8 _).trans (put _ 31 1 _)).trans (put _ 20 2 _)).trans (put _ 16 4 _)

theorem SlotLoaded.congr {b : List Byte} {n : Nat} {t u : State} (same : u.rd (0x6000040 + 4 * n) = t.rd (0x6000040 + 4 * n)) (h : SlotLoaded b n t) : SlotLoaded b n u := by
  have field (lo wd : Nat) : u.get ⟨0x6000040 + 4 * n, lo, wd⟩ = t.get ⟨0x6000040 + 4 * n, lo, wd⟩ := congrArg (fun w : Word => bitsOf w.toNat lo wd) same
  obtain ⟨input, en, curve⟩ := h
  exact ⟨(field 0 8).trans input, (congrArg (· == 1) (field 31 1)).trans en, (field 16 4).trans curve⟩

theorem State.hkLoaded_slot (b : List Byte) (n : Nat) (few : n < 16) : SlotLoaded b n (s.hkLoaded b) := by
  have other (u : State) (k : Nat) (ne : k ≠ n) : (State.hkSlotSet b u k).rd (0x6000040 + 4 * n) = u.rd (0x6000040 + 4 * n) :=
    (HkWords.hkSlotSet u b k).rd _ (by omega) (by omega) (by omega)
  obtain ⟨u, -, own⟩ := State.each_own (fun u => u.rd (0x6000040 + 4 * n)) (List.range 16) List.nodup_range (State.hkSlotSet b) n (List.mem_range.2 few) other
    ((s.set F.HK.HK_CFG_F_INT (u16 b 0)).set F.HK.HK_CFG_CONV_EN (u8 b 2 % 2))
  exact (u.hkSlotSet_loaded b n).congr own

/-- The words of the slots. -/
theorem State.hkLoaded_words (b : List Byte) :
    HkWords (fun a => 0x6000040 ≤ a ∧ a < 0x6000080) ((s.set F.HK.HK_CFG_F_INT (u16 b 0)).set F.HK.HK_CFG_CONV_EN (u8 b 2 % 2)) (s.hkLoaded b) :=
  BlockWords.each _ _ (fun u n mem => (HkWords.hkSlotSet u b n).widen fun a same => by have := List.mem_range.1 mem; omega) _

theorem State.hkLoaded_cfg (b : List Byte) : (s.hkLoaded b).get F.HK.HK_CFG_F_INT = u16 b 0 ∧ (s.hkLoaded b).get F.HK.HK_CFG_CONV_EN = u8 b 2 % 2 := by
  have int : u16 b 0 < 65536 := beAt_lt b 0 2
  have field (f : Fld) (low : 0x6000000 ≤ f.addr) (high : f.addr < 0x6000040) := (s.hkLoaded_words b).get f low (by omega) (by omega)
  refine ⟨(field F.HK.HK_CFG_F_INT (by decide) (by decide)).trans ?_, (field F.HK.HK_CFG_CONV_EN (by decide) (by decide)).trans ?_⟩
  · exact (State.get_set_bits _ F.HK.HK_CFG_CONV_EN F.HK.HK_CFG_F_INT _ rfl (.inr (by decide))).trans ((State.get_set_same _ _ _ rfl).trans (Nat.mod_eq_of_lt int))
  · exact (State.get_set_same _ _ _ rfl).trans (Nat.mod_mod _ 2)

theorem State.regs_trans {s t u : State} (first : t = { s with regs := t.regs }) (second : u = { t with regs := u.regs }) : u = { s with regs := u.regs } := by
  rw [second, first]

/-- Steps that change registers alone do so together. -/
theorem State.each_regs {α : Type} (l : List α) (f : State → α → State) (step : ∀ u a, f u a = { u with regs := (f u a).regs }) (s : State) :
    s.each l f = { s with regs := (s.each l f).regs } := by
  induction l generalizing s with
  | nil => rfl
  | cons a l ih => exact State.regs_trans (step s a) (ih (f s a))

theorem State.set_form (f : Fld) (x : Nat) : s.set f x = { s with regs := (s.set f x).regs } := rfl

theorem State.hkSlotSet_form (b : List Byte) (n : Nat) : State.hkSlotSet b s n = { s with regs := (State.hkSlotSet b s n).regs } :=
  State.regs_trans (State.regs_trans (State.regs_trans (s.set_form (F.HK.HK_SLOT_CFG_INPUT n) _) (State.set_form _ (F.HK.HK_SLOT_CFG_EN n) _)) (State.set_form _ (F.HK.HK_SLOT_CFG_REF n) _))
    (State.set_form _ (F.HK.HK_SLOT_CFG_CURVE n) _)

/-- A block changes registers alone. -/
theorem State.hkLoaded_form (b : List Byte) : s.hkLoaded b = { s with regs := (s.hkLoaded b).regs } := by
  have first := State.regs_trans (s.set_form F.HK.HK_CFG_F_INT (u16 b 0)) (State.set_form _ F.HK.HK_CFG_CONV_EN (u8 b 2 % 2))
  unfold State.hkLoaded
  generalize (s.set F.HK.HK_CFG_F_INT (u16 b 0)).set F.HK.HK_CFG_CONV_EN (u8 b 2 % 2) = t at first ⊢
  exact State.regs_trans first (State.each_regs (List.range 16) (State.hkSlotSet b) (fun u n => u.hkSlotSet_form b n) t)

theorem State.hkApply_form (b : List Byte) : s.hkApply b = { s with regs := (s.hkLoaded b).regs, hk := { s.hk with block := none } } := by
  rw [s.hkApply_eq, s.hkLoaded_form b]

/-- A block that waits takes effect. -/
def State.hkBlockTaken : State :=
  match s.hk.block with
  | some b => s.hkApply b
  | none => s

theorem State.hkBlockTaken_none (none : s.hk.block = none) : s.hkBlockTaken = s := by rw [State.hkBlockTaken, none]

theorem State.hkBlockTaken_some {b : List Byte} (waits : s.hk.block = some b) : s.hkBlockTaken = s.hkApply b := by rw [State.hkBlockTaken, waits]

/-! ### The start (R368) -/

/-- Round 0 begins. -/
def State.hkStarted : State :=
  let s := (((s.set F.HK.HK_STAT_STARTING 0).set F.HK.HK_STAT_RUNNING 1).set F.HK.ROUNDS 0).set F.HK.HK_STAT_TEST_ROUND 0
  { s with hk := { s.hk with between := false, okRounds := 0, checkBad := false, served := [] } }

theorem State.hkStarted_words : HkWords TurnWord s s.hkStarted :=
  ((((HkWords.setOwn s F.HK.HK_STAT_STARTING 0 (.inl rfl)).trans (HkWords.setOwn _ F.HK.HK_STAT_RUNNING 1 (.inl rfl))).trans (HkWords.setOwn _ F.HK.ROUNDS 0 (.inr (.inl rfl)))).trans
    (HkWords.setOwn _ F.HK.HK_STAT_TEST_ROUND 0 (.inl rfl))).trans (.of_regs rfl)

theorem State.hkStart_eq (on : s.domOn 65 = true) (starting : s.flag F.HK.HK_STAT_STARTING = true) (plain : s.hk.block = none) (calm : s.hk.urgent = none)
    (en : s.flag F.HK.HK_CFG_CONV_EN = true) : s.hkStart = s.hkStarted.hkBegin 0 false := by
  have enabled : s.hkStarted.flag F.HK.HK_CFG_CONV_EN = true := (s.hkStarted_words.flag F.HK.HK_CFG_CONV_EN (by decide) (by decide) (by simp only [TurnWord, F.HK.HK_CFG_CONV_EN]; omega)).trans en
  have gate : (s.domOn 65 && s.flag F.HK.HK_STAT_STARTING) = true := by rw [on, starting]; rfl
  have none : s.hkStarted.hk.block = none := plain
  have form : s.hkStart = if s.hkStarted.hkBlockTaken.flag F.HK.HK_CFG_CONV_EN then s.hkStarted.hkBlockTaken.hkNext 0 else s.hkStarted.hkBlockTaken.hkStop := if_pos gate
  rw [form, s.hkStarted.hkBlockTaken_none none, if_pos enabled, s.hkStarted.hkNext_none 0 calm]

end
end Sys2Proof.Machine
end

section
/-! PROOFS. HK_CONVERTER_START, HK_ROUND_START and NTC_COMPARATOR_TRIP (R366 to R368, R374). -/
namespace Sys2Proof.Machine

/-! ### HK_STAT at the start of a round -/

section
variable (s : State)

theorem State.hkBegin_stat (n : Nat) (urgent : Bool) (lo : Nat) (below : lo + 1 ≤ 8) : (s.hkBegin n urgent).flag ⟨F.HK.HK_STAT_SLOT.addr, lo, 1⟩ = s.flag ⟨F.HK.HK_STAT_SLOT.addr, lo, 1⟩ :=
  congrArg (· == 1) (State.get_set_bits _ F.HK.HK_STAT_SLOT ⟨F.HK.HK_STAT_SLOT.addr, lo, 1⟩ _ rfl (.inr below))

theorem State.hkBegin_form (n : Nat) (urgent : Bool) : s.hkBegin n urgent = { s with regs := (s.hkBegin n urgent).regs, hk := (s.hkBegin n urgent).hk } := rfl

theorem State.hkBegin_regs (n : Nat) (urgent : Bool) : SameRegs s (s.hkBegin n urgent) [F.HK.HK_STAT_SLOT.addr] :=
  fun a other => State.rd_set_ne { s with hk := { s.hk with due := n, inUrgent := urgent, trip := false, auxCode := s.get F.HK.CODE, auxMoved := false } } F.HK.HK_STAT_SLOT _ a
    fun same => other (List.mem_singleton.2 same)

theorem State.hkStarted_spec : s.hkStarted.flag F.HK.HK_STAT_STARTING = false ∧ s.hkStarted.flag F.HK.HK_STAT_RUNNING = true ∧ s.hkStarted.get F.HK.ROUNDS = 0 ∧
    s.hkStarted.flag F.HK.HK_STAT_TEST_ROUND = false := by
  have test (g : Fld) (other : g.lo + g.wd ≤ 2) : s.hkStarted.get g = (((s.set F.HK.HK_STAT_STARTING 0).set F.HK.HK_STAT_RUNNING 1).set F.HK.ROUNDS 0).get g :=
    State.get_set_bits _ F.HK.HK_STAT_TEST_ROUND g 0 rfl (.inr other)
  have rounds (u : State) (g : Fld) (other : g.addr ≠ F.HK.ROUNDS.addr) : (u.set F.HK.ROUNDS 0).get g = u.get g := u.get_set_addr F.HK.ROUNDS g 0 other
  refine ⟨congrArg (· == 1) (a₂ := 0) ?_, congrArg (· == 1) (a₂ := 1) ?_, ?_, congrArg (· == 1) (State.get_set_same _ F.HK.HK_STAT_TEST_ROUND 0 rfl)⟩
  · rw [test _ (by decide), rounds _ _ (by decide), State.get_set_bits _ F.HK.HK_STAT_RUNNING F.HK.HK_STAT_STARTING 1 rfl (.inl (by decide))]
    exact State.get_set_same _ _ 0 rfl
  · rw [test _ (by decide), rounds _ _ (by decide)]
    exact State.get_set_same _ _ 1 rfl
  · exact (State.get_set_addr _ F.HK.HK_STAT_TEST_ROUND F.HK.ROUNDS 0 (by decide)).trans (State.get_set_same _ _ 0 rfl)

theorem State.hkStarted_regs : SameRegs s s.hkStarted [F.HK.HK_STAT_SLOT.addr, F.HK.ROUNDS.addr] := by
  intro a other
  obtain ⟨stat, rounds⟩ : a ≠ F.HK.HK_STAT_SLOT.addr ∧ a ≠ F.HK.ROUNDS.addr := by simpa using other
  have one := State.rd_set_ne s F.HK.HK_STAT_STARTING 0 a stat
  have two := State.rd_set_ne (s.set F.HK.HK_STAT_STARTING 0) F.HK.HK_STAT_RUNNING 1 a stat
  have three := State.rd_set_ne ((s.set F.HK.HK_STAT_STARTING 0).set F.HK.HK_STAT_RUNNING 1) F.HK.ROUNDS 0 a rounds
  have four := State.rd_set_ne (((s.set F.HK.HK_STAT_STARTING 0).set F.HK.HK_STAT_RUNNING 1).set F.HK.ROUNDS 0) F.HK.HK_STAT_TEST_ROUND 0 a stat
  exact four.trans (three.trans (two.trans one))

/-! ### A round -/

/-- A round begins, plain or test. -/
def State.hkRoundBegun (x : Nat) : State :=
  let s := s.set F.HK.HK_STAT_TEST_ROUND x
  { s with hk := { s.hk with between := false } }

theorem State.hkRoundBegun_words (x : Nat) : HkWords TurnWord s ((s.hkRoundBegun x).hkBegin 0 false) :=
  ((HkWords.setOwn s F.HK.HK_STAT_TEST_ROUND x (.inl rfl)).trans (.of_regs rfl)).trans (State.hkBegin_words _ 0 false)

theorem State.hkRoundBegun_block (x : Nat) : ((s.hkRoundBegun x).hkBegin 0 false).hk.block = s.hk.block := rfl

theorem State.hkRoundBegun_test : ((s.hkRoundBegun 0).hkBegin 0 false).flag F.HK.HK_STAT_TEST_ROUND = false :=
  ((s.hkRoundBegun 0).hkBegin_stat 0 false 2 (by decide)).trans (congrArg (· == 1) (State.get_set_same s F.HK.HK_STAT_TEST_ROUND 0 rfl))

theorem State.hkRoundStart_eq (on : s.domOn 65 = true) (between : s.hk.between = true) (running : s.flag F.HK.HK_STAT_RUNNING = true) (calm : s.hkBlockTaken.hk.urgent = none)
    (en : s.hkBlockTaken.flag F.HK.HK_CFG_CONV_EN = true) :
    s.hkRoundStart = (s.hkBlockTaken.hkRoundBegun (if s.hk.block.isSome then 0 else 1 - s.hkBlockTaken.get F.HK.HK_STAT_TEST_ROUND)).hkBegin 0 false := by
  have alive : ¬ (!s.domOn 65) = true := by rw [on]; exact Bool.false_ne_true
  have gate : (s.hk.between && s.flag F.HK.HK_STAT_RUNNING) = true := by rw [between, running]; rfl
  have enabled : ¬ (!s.hkBlockTaken.flag F.HK.HK_CFG_CONV_EN) = true := by rw [en]; exact Bool.false_ne_true
  let u := s.hkBlockTaken.hkRoundBegun (if s.hk.block.isSome then 0 else 1 - s.hkBlockTaken.get F.HK.HK_STAT_TEST_ROUND)
  have plain : u.hk.urgent = none := calm
  have form : s.hkRoundStart = (match u.hk.urgent with
      | some n => if u.flag (F.HK.HK_SLOT_CFG_EN n) then u else u.urgentEnd 0x8A n []
      | none => u).hkNext 0 := (if_neg alive).trans ((if_pos gate).trans (if_neg enabled))
  rw [form, plain]
  exact u.hkNext_none 0 plain

theorem State.hkRoundStart_idle (idle : s.domOn 65 = false ∨ (s.hk.between = false ∧ (s.flag F.HK.HK_STAT_RUNNING = true ∨ s.flag F.HK.HK_STAT_STARTING = true))) : s.hkRoundStart = s := by
  obtain off | ⟨inside, busy⟩ := idle
  · exact if_pos (by rw [off]; rfl)
  · by_cases on : s.domOn 65 = true
    · have alive : ¬ (!s.domOn 65) = true := by rw [on]; exact Bool.false_ne_true
      have gate : ¬ (s.hk.between && s.flag F.HK.HK_STAT_RUNNING) = true := by rw [inside]; exact Bool.false_ne_true
      have works : ¬ (!s.flag F.HK.HK_STAT_RUNNING && !s.flag F.HK.HK_STAT_STARTING) = true := by
        obtain runs | starts := busy
        · rw [runs]; exact Bool.false_ne_true
        · rw [starts, Bool.not_true, Bool.and_false]; exact Bool.false_ne_true
      exact (if_neg alive).trans ((if_neg gate).trans (if_neg works))
    · exact if_pos (by rw [Bool.not_eq_true _ |>.mp on]; rfl)

theorem State.hkRoundStart_off (on : s.domOn 65 = true) (still : s.flag F.HK.HK_STAT_RUNNING = false) (cold : s.flag F.HK.HK_STAT_STARTING = false) : s.hkRoundStart = s.hkUnserved := by
  have alive : ¬ (!s.domOn 65) = true := by rw [on]; exact Bool.false_ne_true
  have gate : ¬ (s.hk.between && s.flag F.HK.HK_STAT_RUNNING) = true := by rw [still, Bool.and_false]; exact Bool.false_ne_true
  exact (if_neg alive).trans ((if_neg gate).trans (if_pos (by rw [still, cold]; rfl)))

end

/-! ### The events -/

theorem hkConverterStart_starts : Happens .hkConverterStart
    (fun s => s.domOn 65 = true ∧ s.flag F.HK.HK_STAT_STARTING = true ∧ s.hk.block = none ∧ s.hk.urgent = none ∧ s.flag F.HK.HK_CFG_CONV_EN = true)
    (fun s t => t.flag F.HK.HK_STAT_STARTING = false ∧ t.flag F.HK.HK_STAT_RUNNING = true ∧ t.get F.HK.ROUNDS = 0 ∧ t.flag F.HK.HK_STAT_TEST_ROUND = false ∧ t.hkSlot = 0 ∧ t.hk.between = false ∧
      SameRegs s t [F.HK.HK_STAT_SLOT.addr, F.HK.ROUNDS.addr] ∧ t = { s with regs := t.regs, hk := t.hk }) :=
  Happens.of_effect (fun _ => rfl) fun s ⟨on, starting, plain, calm, en⟩ => by
    rw [s.hkStart_eq on starting plain calm en]
    obtain ⟨starts, runs, rounds, test⟩ := s.hkStarted_spec
    have stat (lo : Nat) (below : lo + 1 ≤ 8) := s.hkStarted.hkBegin_stat 0 false lo below
    refine ⟨(stat 1 (by decide)).trans starts, (stat 0 (by decide)).trans runs, (State.get_set_addr _ F.HK.HK_STAT_SLOT F.HK.ROUNDS _ (by decide)).trans rounds,
      (stat 2 (by decide)).trans test, s.hkStarted.hkBegin_slot 0 (by decide), rfl, fun a other => ?_, ?_⟩
    · have stat : a ∉ [F.HK.HK_STAT_SLOT.addr] := fun mem => other (List.mem_cons.2 (.inl (List.mem_singleton.1 mem)))
      exact (s.hkStarted.hkBegin_regs 0 false a stat).trans (s.hkStarted_regs a other)
    · exact s.hkStarted.hkBegin_form 0 false

theorem hkConverterStart_idle : Happens .hkConverterStart (fun s => s.domOn 65 = false ∨ s.flag F.HK.HK_STAT_STARTING = false) Nothing :=
  Happens.of_effect (fun _ => rfl) fun s idle => by
    refine if_neg ?_
    obtain off | cold := idle
    · rw [off]; exact Bool.false_ne_true
    · rw [cold, Bool.and_false]; exact Bool.false_ne_true

theorem hkRoundStart_alternates : Happens .hkRoundStart
    (fun s => s.domOn 65 = true ∧ s.hk.between = true ∧ s.flag F.HK.HK_STAT_RUNNING = true ∧ s.hk.block = none ∧ s.hk.urgent = none ∧ s.flag F.HK.HK_CFG_CONV_EN = true)
    (fun s t => t.flag F.HK.HK_STAT_TEST_ROUND = !s.flag F.HK.HK_STAT_TEST_ROUND ∧ t.hkSlot = 0 ∧ t.hk.between = false ∧ SameRegs s t [F.HK.HK_STAT_SLOT.addr] ∧ t = { s with regs := t.regs, hk := t.hk }) :=
  Happens.of_effect (fun _ => rfl) fun s ⟨on, between, running, plain, calm, en⟩ => by
    have same := s.hkBlockTaken_none plain
    have form := s.hkRoundStart_eq on between running (by rw [same]; exact calm) (by rw [same]; exact en)
    rw [same, plain] at form
    rw [form]
    have value : (s.set F.HK.HK_STAT_TEST_ROUND (1 - s.get F.HK.HK_STAT_TEST_ROUND)).flag F.HK.HK_STAT_TEST_ROUND = !s.flag F.HK.HK_STAT_TEST_ROUND := by
      have two : s.get F.HK.HK_STAT_TEST_ROUND < 2 := s.get_lt _
      rw [State.flag, State.get_set_same _ _ _ rfl, State.flag]
      obtain zero | one : s.get F.HK.HK_STAT_TEST_ROUND = 0 ∨ s.get F.HK.HK_STAT_TEST_ROUND = 1 := by omega
      · rw [zero]; rfl
      · rw [one]; rfl
    refine ⟨(State.hkBegin_stat _ 0 false 2 (by decide)).trans value, State.hkBegin_slot _ 0 (by decide), rfl, fun a other => ?_, State.hkBegin_form _ 0 false⟩
    refine (State.hkBegin_regs _ 0 false a other).trans ?_
    exact State.rd_set_ne s F.HK.HK_STAT_TEST_ROUND _ a fun same => other (List.mem_singleton.2 same)

theorem hkRoundStart_loads (b : List Byte) : Happens .hkRoundStart
    (fun s => s.domOn 65 = true ∧ s.hk.between = true ∧ s.flag F.HK.HK_STAT_RUNNING = true ∧ s.hk.block = some b ∧ s.hk.urgent = none ∧ u8 b 2 % 2 = 1)
    (fun _ t => t.hk.block = none ∧ t.get F.HK.HK_CFG_F_INT = u16 b 0 ∧ t.flag F.HK.HK_STAT_TEST_ROUND = false ∧ t.hkSlot = 0 ∧
      ∀ n : Fin 16, t.get (F.HK.HK_SLOT_CFG_INPUT n) = u8 b (8 + 3 * n) ∧ t.flag (F.HK.HK_SLOT_CFG_EN n) = (u8 b (9 + 3 * n)).testBit 7 ∧ t.get (F.HK.HK_SLOT_CFG_CURVE n) = u8 b (9 + 3 * n) % 16) :=
  Happens.of_effect (fun _ => rfl) fun s ⟨on, between, running, waits, calm, conv⟩ => by
    have taken := s.hkBlockTaken_some waits
    have words : HkWords noWord (s.hkLoaded b) (s.hkApply b) := .of_regs (by rw [s.hkApply_eq])
    have record : (s.hkApply b).hk = { s.hk with block := none } := by rw [s.hkApply_form]
    obtain ⟨int, en⟩ := s.hkLoaded_cfg b
    have slots (n : Fin 16) := s.hkLoaded_slot b n n.isLt
    have enabled : (s.hkApply b).flag F.HK.HK_CFG_CONV_EN = true := by
      rw [words.flag F.HK.HK_CFG_CONV_EN (by decide) (by decide) id, State.flag, en, conv]; rfl
    have form := s.hkRoundStart_eq on between running (by rw [taken, record]; exact calm) (by rw [taken]; exact enabled)
    rw [taken, waits] at form
    rw [form]
    generalize s.hkApply b = u at words record
    have begun : HkWords TurnWord (s.hkLoaded b) ((u.hkRoundBegun 0).hkBegin 0 false) := (words.widen fun _ => False.elim).trans (u.hkRoundBegun_words 0)
    refine ⟨(u.hkRoundBegun_block 0).trans (congrArg HkSt.block record), (begun.get F.HK.HK_CFG_F_INT (by decide) (by decide) (by simp only [TurnWord, F.HK.HK_CFG_F_INT]; omega)).trans int,
      u.hkRoundBegun_test, State.hkBegin_slot _ 0 (by decide), fun n => ?_⟩
    exact (slots n).congr (begun.rd _ (by omega) (by omega) (by simp only [TurnWord]; omega))

/-! ### The NTC comparator -/

theorem ntcComparatorTrip_trips : Happens .ntcComparatorTrip (fun s => s.domOn 65 = true ∧ s.flag F.HK.HK_STAT_RUNNING = true ∧ s.hk.between = false ∧ s.hk.inUrgent = false ∧
      s.flag (F.HK.HK_SLOT_CFG_EN s.hkSlot) = true ∧ s.get (F.HK.HK_SLOT_CFG_INPUT s.hkSlot) < 4) (fun s t => t = { s with hk := { s.hk with trip := true } }) :=
  Happens.of_effect (fun _ => rfl) fun s ⟨on, runs, inside, plain, en, ntc⟩ => by
    unfold State.ntcTrip
    dsimp only
    rw [plain, if_neg Bool.false_ne_true, on, runs, inside, en, decide_eq_true ntc]
    rfl

theorem ntcComparatorTrip_idle : Happens .ntcComparatorTrip
    (fun s => s.flag F.HK.HK_STAT_RUNNING = false ∨ s.hk.between = true ∨ (s.hk.inUrgent = false ∧ 4 ≤ s.get (F.HK.HK_SLOT_CFG_INPUT s.hkSlot))) Nothing :=
  Happens.of_effect (fun _ => rfl) fun s idle => by
    unfold State.ntcTrip
    refine if_neg ?_
    obtain still | between | ⟨plain, other⟩ := idle
    · rw [still, Bool.and_false]; exact Bool.false_ne_true
    · rw [between, Bool.not_true, Bool.and_false]; exact Bool.false_ne_true
    · rw [plain, if_neg Bool.false_ne_true, decide_eq_false (by omega), Bool.and_false]; exact Bool.false_ne_true

end Sys2Proof.Machine
end

section
/-! PROOFS. HK_CONFIG (R367). -/
namespace Sys2Proof.Machine

/-! ### The checks -/

section
variable (u : State) (b : List Byte) (go : Reply)

/-- The checks of HK_CONFIG. -/
def State.hkChecks : List Check :=
  [u.badState (u8 b 2 % 2 == 0 && u.pw.st == .scanning)] ++ (hkBlockBad b).map (fun e => badParam e.1 (e.2 / 4)) ++ [((hkMissing b).isSome, 0x88, (hkMissing b).getD 0)]

theorem hkBlockBad_offsets : ∀ e ∈ hkBlockBad b, e.2 / 4 ≤ 0xFD := by
  intro e mem
  obtain ((head | slot) | tail) : (e ∈ _ ∨ e ∈ _) ∨ e ∈ _ := by simpa only [hkBlockBad, List.mem_append] using mem
  · simp only [List.mem_cons, List.not_mem_nil, or_false] at head
    obtain rfl | rfl | rfl | rfl := head <;> dsimp only <;> omega
  · obtain ⟨n, few, here⟩ := List.mem_flatMap.1 slot
    have low := List.mem_range.1 few
    simp only [List.mem_cons, List.not_mem_nil, or_false] at here
    obtain rfl | rfl | rfl := here <;> dsimp only <;> omega
  · simp only [List.mem_cons, List.not_mem_nil, or_false] at tail
    obtain rfl | rfl := tail <;> dsimp only <;> omega

variable {u b} (allowed : u8 b 2 = 1 ∨ u.pw.st ≠ .scanning)
include allowed

theorem State.hkState_allowed : (u8 b 2 % 2 == 0 && u.pw.st == .scanning) = false := by
  obtain runs | still := allowed
  · rw [runs]; rfl
  · rw [beq_eq_false_iff_ne.2 still, Bool.and_false]

theorem State.hkChecks_state : [u.badState (u8 b 2 % 2 == 0 && u.pw.st == .scanning)].find? (fun c => c.1) = none := by
  rw [State.hkState_allowed allowed]; rfl

omit allowed in
theorem hkBlockBad_good (good : (hkBlockBad b).all (fun e => !e.1) = true) : ((hkBlockBad b).map (fun e => badParam e.1 (e.2 / 4))).find? (fun c => c.1) = none := by
  refine List.find?_eq_none.2 fun c mem => ?_
  obtain ⟨e, held, rfl⟩ := List.mem_map.1 mem
  have fine := List.all_eq_true.1 good e held
  exact fun bad => by rw [show e.1 = true from bad] at fine; exact Bool.false_ne_true fine

theorem State.hkChecks_pass (good : (hkBlockBad b).all (fun e => !e.1) = true) (complete : hkMissing b = none) : u.guarded (u.hkChecks b) go = go := by
  have last : ([((hkMissing b).isSome, 0x88, (hkMissing b).getD 0)] : List Check).find? (fun c => c.1) = none := by rw [complete]; rfl
  rw [State.guarded, State.hkChecks, List.find?_append, List.find?_append, State.hkChecks_state allowed, hkBlockBad_good good, last]
  rfl

theorem State.hkChecks_missing {i : Nat} (good : (hkBlockBad b).all (fun e => !e.1) = true) (missing : hkMissing b = some i) : u.guarded (u.hkChecks b) go = u.reply (.final 0x88 i []) := by
  have last : ([((hkMissing b).isSome, 0x88, (hkMissing b).getD 0)] : List Check).find? (fun c => c.1) = some (true, 0x88, i) := by rw [missing]; rfl
  rw [State.guarded, State.hkChecks, List.find?_append, List.find?_append, State.hkChecks_state allowed, hkBlockBad_good good, last]
  rfl

theorem State.hkChecks_bad {o : Nat} (found : (hkBlockBad b).find? (fun e => e.1) = some (true, o)) : u.guarded (u.hkChecks b) go = u.reply (.final 0x12 (o / 4) []) := by
  have first : ((hkBlockBad b).map (fun e => badParam e.1 (e.2 / 4))).find? (fun c => c.1) = some (badParam true (o / 4)) := by
    rw [List.find?_map]
    exact congrArg (Option.map fun e : Bool × Nat => badParam e.1 (e.2 / 4)) found
  have small : o / 4 ≤ 0xFD := hkBlockBad_offsets b _ (List.mem_of_find?_eq_some found)
  rw [State.guarded, State.hkChecks, List.find?_append, List.find?_append, State.hkChecks_state allowed, first, badParam, Nat.min_eq_left small]
  rfl

end

/-! ### The rows -/

section
variable (via : Port) (seq : BitVec 16) (b : List Byte)

theorem cmdHkConfig_eq (u : State) : cmdHkConfig u b = u.guarded (u.hkChecks b)
    (if u.flag F.HK.HK_STAT_RUNNING || u.flag F.HK.HK_STAT_STARTING then ({ u with hk := { u.hk with block := some b } } : State).done []
     else (if u8 b 2 % 2 == 0 then u.hkApply b else (u.hkApply b).hkSettle).done []) := rfl

theorem hkConfig_waits (good : (hkBlockBad b).all (fun e => !e.1) = true) (complete : hkMissing b = none) :
    Does (.hkConfig via seq b) (fun u => (u8 b 2 = 1 ∨ u.pw.st ≠ .scanning) ∧ (u.flag F.HK.HK_STAT_RUNNING = true ∨ u.flag F.HK.HK_STAT_STARTING = true)) (fun _ => [])
      (fun u t => t = { u with hk := { u.hk with block := some b } }) :=
  .of_handler rfl fun u ⟨allowed, busy⟩ => by
    have works : (u.flag F.HK.HK_STAT_RUNNING || u.flag F.HK.HK_STAT_STARTING) = true := by simpa using busy
    exact ⟨_, (cmdHkConfig_eq b u).trans ((State.hkChecks_pass _ allowed good complete).trans (if_pos works)), rfl⟩

theorem State.hkSettle_form (s : State) : s.hkSettle = { s with regs := s.hkSettle.regs } :=
  State.regs_trans (s.set_form F.HK.HK_STAT_STARTING 1) (State.set_form _ F.HK.HK_STAT_RUNNING 0)

theorem State.hkSettle_of_form {u v : State} {r : List (Nat × Word)} {k : HkSt} (h : v = { u with regs := r, hk := k }) :
    v.hkSettle = { u with regs := v.hkSettle.regs, hk := k } :=
  v.hkSettle_form.trans (congrArg (fun w : State => { w with regs := v.hkSettle.regs }) h)

theorem hkConfig_starts (good : (hkBlockBad b).all (fun e => !e.1) = true) (complete : hkMissing b = none) (on : u8 b 2 = 1) :
    Does (.hkConfig via seq b) (fun u => u.flag F.HK.HK_STAT_RUNNING = false ∧ u.flag F.HK.HK_STAT_STARTING = false) (fun _ => [])
      (fun u t => t = { u with regs := t.regs, hk := { u.hk with block := none } } ∧ t.get F.HK.HK_CFG_F_INT = u16 b 0 ∧ t.flag F.HK.HK_CFG_CONV_EN = true ∧ t.flag F.HK.HK_STAT_STARTING = true) :=
  .of_handler rfl fun u ⟨still, cold⟩ => by
    have rests : ¬ (u.flag F.HK.HK_STAT_RUNNING || u.flag F.HK.HK_STAT_STARTING) = true := by rw [still, cold]; exact Bool.false_ne_true
    have runs : ¬ (u8 b 2 % 2 == 0) = true := by rw [on]; exact Bool.false_ne_true
    have words : HkWords noWord (u.hkLoaded b) (u.hkApply b) := .of_regs (by rw [u.hkApply_eq])
    obtain ⟨int, en⟩ := u.hkLoaded_cfg b
    have cfg (f : Fld) (here : f.addr = 0x6000000) : (u.hkApply b).hkSettle.get f = (u.hkLoaded b).get f :=
      ((State.get_set_addr _ F.HK.HK_STAT_RUNNING f 0 (by rw [here]; decide)).trans (State.get_set_addr _ F.HK.HK_STAT_STARTING f 1 (by rw [here]; decide))).trans
        (words.get f (by omega) (by omega) id)
    refine ⟨(u.hkApply b).hkSettle, (cmdHkConfig_eq b u).trans ((State.hkChecks_pass _ (.inl on) good complete).trans ((if_neg rests).trans ?_)), ?_, (cfg _ rfl).trans int, ?_, ?_⟩
    · rw [if_neg runs]
    · exact State.hkSettle_of_form (u.hkApply_form b)
    · rw [State.flag, cfg _ rfl, en, on]; rfl
    · exact congrArg (· == 1) ((State.get_set_bits _ F.HK.HK_STAT_RUNNING F.HK.HK_STAT_STARTING 0 rfl (.inl (by decide))).trans (State.get_set_same _ F.HK.HK_STAT_STARTING 1 rfl))

theorem hkConfig_scanning (off : u8 b 2 = 0) : TurnsAway (.hkConfig via seq b) (fun u => u.pw.st = .scanning) 0x13 State.stateCode :=
  .of_handler rfl fun u scanning => by
    refine (cmdHkConfig_eq b u).trans ?_
    have bad : (u8 b 2 % 2 == 0 && u.pw.st == .scanning) = true := by rw [off, scanning]; rfl
    rw [State.hkChecks, bad, List.append_assoc, List.singleton_append, State.guarded_cons]
    rfl

theorem hkConfig_missing (i : Nat) (good : (hkBlockBad b).all (fun e => !e.1) = true) (missing : hkMissing b = some i) :
    TurnsAway (.hkConfig via seq b) (fun u => u.pw.st ≠ .scanning) 0x88 (fun _ => i) :=
  .of_handler rfl fun u still => (cmdHkConfig_eq b u).trans (State.hkChecks_missing _ (.inr still) good missing)

theorem hkConfig_bad (o : Nat) (found : (hkBlockBad b).find? (fun e => e.1) = some (true, o)) : TurnsAway (.hkConfig via seq b) (fun u => u.pw.st ≠ .scanning) 0x12 (fun _ => o / 4) :=
  .of_handler rfl fun u still => (cmdHkConfig_eq b u).trans (State.hkChecks_bad _ (.inr still) found)

end
end Sys2Proof.Machine
end

section
/-! PROOFS. HK_URGENT (R371), AUXOUT_SET (R384) and TIA_RANGE (R376, R379). -/
namespace Sys2Proof.Machine

/-! ### HK_URGENT -/

/-- The payload of HK_URGENT (Table 2-10). -/
def urgentOperands (n : Byte) : List Byte := [n] ++ zeros 3

/-- Slot `n` waits for its urgent conversion. -/
def State.urgentWaits (u : State) (n : Nat) : State := ({ u with hk := { u.hk with urgent := some n } } : State).set F.HK.HK_STAT_URGENT_PEND 1

section
variable (via : Port) (seq : BitVec 16) (n : Byte) (few : n.toNat ≤ 15)
include few

theorem cmdHkUrgent_eq (u : State) : cmdHkUrgent u (urgentOperands n) =
    u.guarded [badParam false 0, (!u.flag F.HK.HK_CFG_CONV_EN || u.flag F.HK.HK_STAT_STARTING, 0x89, 0), (!u.flag (F.HK.HK_SLOT_CFG_EN n.toNat), 0x8A, n.toNat)]
      (u.accept 0x0801 (u.urgentWaits n.toNat)) := by
  have slot : u8 (urgentOperands n) 0 = n.toNat := ofBe_byte n
  have reserved : notZero (urgentOperands n) 1 3 = false := notZero_append_zeros [n] 1 3 rfl
  have inside : decide (15 < n.toNat) = false := decide_eq_false (by omega)
  unfold cmdHkUrgent
  simp only [slot, reserved, inside, Bool.false_or]
  rfl

theorem hkUrgent_starts :
    Starts (.hkUrgent via seq n) (fun u => u.flag F.HK.HK_CFG_CONV_EN = true ∧ u.flag F.HK.HK_STAT_STARTING = false ∧ u.flag (F.HK.HK_SLOT_CFG_EN n.toNat) = true ∧ u.rangeBusy 0x0801 = false) 0
      (fun u t => t = ({ u with hk := { u.hk with urgent := some n.toNat } } : State).set F.HK.HK_STAT_URGENT_PEND 1) :=
  .of_handler rfl fun u ⟨conv, warm, en, free⟩ => by
    refine ⟨u.urgentWaits n.toNat, (cmdHkUrgent_eq n few u).trans ((u.guarded_pass _ _ ?_).trans (u.accept_free 0x0801 _ 0 free)), rfl⟩
    simp [badParam, conv, warm, en]

theorem hkUrgent_off : TurnsAway (.hkUrgent via seq n) (fun u => u.flag F.HK.HK_CFG_CONV_EN = false ∨ u.flag F.HK.HK_STAT_STARTING = true) 0x89 (fun _ => 0) :=
  .of_handler rfl fun u idle => by
    have bad : (!u.flag F.HK.HK_CFG_CONV_EN || u.flag F.HK.HK_STAT_STARTING) = true := by simpa using idle
    refine (cmdHkUrgent_eq n few u).trans ?_
    rw [bad]
    rfl

theorem hkUrgent_disabled :
    TurnsAway (.hkUrgent via seq n) (fun u => u.flag F.HK.HK_CFG_CONV_EN = true ∧ u.flag F.HK.HK_STAT_STARTING = false ∧ u.flag (F.HK.HK_SLOT_CFG_EN n.toNat) = false) 0x8A (fun _ => n.toNat) :=
  .of_handler rfl fun u ⟨conv, warm, off⟩ => (cmdHkUrgent_eq n few u).trans (by simp [State.guarded, badParam, conv, warm, off])

end

/-! ### AUXOUT_SET -/

section
variable (via : Port) (seq : BitVec 16) (v : Word) (small : v.toNat < 65536)
include small

theorem cmdAuxoutSet_eq (u : State) : cmdAuxoutSet u (beBytes 4 v.toNat) = u.guarded [u.badState (u.auxOwned || u.auxHeld), badParam false 0] ((u.setAux v.toNat).done []) := by
  have second : v.toNat / 256 ^ 2 = 0 := Nat.div_eq_of_lt small
  have top : v.toNat / 256 ^ 3 = 0 := Nat.div_eq_of_lt (lt_trans small (by decide))
  have halves : beBytes 4 v.toNat = [0, 0] ++ beBytes 2 v.toNat := by
    rw [show beBytes 4 v.toNat = BitVec.ofNat 8 (v.toNat / 256 ^ 3) :: BitVec.ofNat 8 (v.toNat / 256 ^ 2) :: beBytes 2 v.toNat from rfl, top, second]
    rfl
  have high : notZero (beBytes 4 v.toNat) 0 2 = false := by
    rw [halves, notZero, beAt_append_left _ _ _ _ (by decide)]
    decide
  have code : u16 (beBytes 4 v.toNat) 2 = v.toNat := by
    rw [halves, u16, beAt_append_right _ _ _ _ (by decide), beAt, List.length_cons, List.length_singleton, Nat.sub_self, List.drop_zero,
      List.take_of_length_le (length_beBytes 2 _).le, ofBe_beBytes2]
    exact Nat.mod_eq_of_lt small
  unfold cmdAuxoutSet
  simp only [high, code]

theorem auxoutSet_sets : Does (.auxoutSet via seq v) (fun u => u.auxOwned = false ∧ u.auxHeld = false) (fun _ => [])
    (fun u t => t = { u with regs := t.regs, hk := { u.hk with auxMoved := u.hk.auxMoved || v.toNat != u.get F.HK.CODE } } ∧ SameRegs u t [F.HK.CODE.addr] ∧ t.get F.HK.CODE = v.toNat) :=
  .of_handler rfl fun u ⟨mine, loose⟩ => by
    refine ⟨u.setAux v.toNat, (cmdAuxoutSet_eq v small u).trans (u.guarded_pass _ _ ?_), rfl, fun a other => ?_, ?_⟩
    · simp [State.badState, badParam, mine, loose]
    · exact State.rd_set_ne { u with hk := { u.hk with auxMoved := u.hk.auxMoved || v.toNat != u.get F.HK.CODE } } F.HK.CODE _ a fun same => other (List.mem_singleton.2 same)
    · exact (State.get_set_same _ F.HK.CODE _ rfl).trans (Nat.mod_eq_of_lt small)

theorem auxoutSet_held : TurnsAway (.auxoutSet via seq v) (fun u => u.auxOwned = true ∨ u.auxHeld = true) 0x13 State.stateCode :=
  .of_handler rfl fun u held => by
    have bad : (u.auxOwned || u.auxHeld) = true := by simpa using held
    refine (cmdAuxoutSet_eq v small u).trans ?_
    rw [bad]
    rfl

end

/-! ### TIA_RANGE -/

theorem State.tia_setTia (s : State) (c k : Nat) (x : TiaSt) : (s.setTia c x).tia k = if k = c then x else s.tia k := spGet_spSet _ _ _ _ _

/-- The payload of TIA_RANGE (Table 2-10). -/
def tiaOperands (c r : Byte) : List Byte := [c, r] ++ zeros 2

section
variable (via : Port) (seq : BitVec 16) (c r : Byte)

theorem cmdTiaRange_eq (u : State) : cmdTiaRange u (tiaOperands c r) =
    u.guarded [badParam (decide (3 < c.toNat) || decide (5 < r.toNat)) 0] (((u.set (F.TIA.TIA_CFG_RANGE c.toNat) r.toNat).tiaWant c.toNat false).done []) := by
  have channel : u8 (tiaOperands c r) 0 = c.toNat := ofBe_byte c
  have range : u8 (tiaOperands c r) 1 = r.toNat := ofBe_byte r
  have reserved : notZero (tiaOperands c r) 2 2 = false := notZero_append_zeros [c, r] 2 2 rfl
  unfold cmdTiaRange
  simp only [channel, range, reserved, Bool.or_false]

/-- A wanted restart changes the record of its channel alone. -/
theorem State.tiaWant_spec (s : State) (c : Nat) (zero : Bool) :
    (s.tiaWant c zero).tia c = (if s.flag (F.TIA.TIA_CFG_EN c) = true then { s.tia c with pend := true, pendZero := (s.tia c).pendZero || zero } else s.tia c) ∧
    s.tiaWant c zero = { s with hk := { s.hk with tias := (s.tiaWant c zero).hk.tias } } := by
  unfold State.tiaWant
  split
  · exact ⟨(s.tia_setTia c c _).trans (if_pos rfl), rfl⟩
  · exact ⟨rfl, rfl⟩

theorem State.tiaWant_of_form {u v : State} {r : List (Nat × Word)} (c : Nat) (zero : Bool) (h : v = { u with regs := r }) :
    v.tiaWant c zero = { u with regs := (v.tiaWant c zero).regs, hk := { u.hk with tias := (v.tiaWant c zero).hk.tias } } := by
  have wanted := (v.tiaWant_spec c zero).2
  generalize v.tiaWant c zero = t at wanted ⊢
  rw [h] at wanted
  have regs : t.regs = r := congrArg State.regs wanted
  rw [regs]
  exact wanted

theorem tiaRange_sets (few : c.toNat ≤ 3) (range : r.toNat ≤ 5) : Does (.tiaRange via seq c r) (fun _ => True) (fun _ => [])
    (fun u t => t.get (F.TIA.TIA_CFG_RANGE c.toNat) = r.toNat ∧ SameRegs u t [(F.TIA.TIA_CFG_RANGE c.toNat).addr] ∧
      t.tia c.toNat = (if u.flag (F.TIA.TIA_CFG_EN c.toNat) = true then { u.tia c.toNat with pend := true } else u.tia c.toNat) ∧ t = { u with regs := t.regs, hk := { u.hk with tias := t.hk.tias } }) :=
  .of_handler rfl fun u _ => by
    have fine : (decide (3 < c.toNat) || decide (5 < r.toNat)) = false := by simp only [Bool.or_eq_false_iff, decide_eq_false_iff_not]; omega
    have en : (u.set (F.TIA.TIA_CFG_RANGE c.toNat) r.toNat).flag (F.TIA.TIA_CFG_EN c.toNat) = u.flag (F.TIA.TIA_CFG_EN c.toNat) :=
      congrArg (· == 1) (u.get_set_bits (F.TIA.TIA_CFG_RANGE c.toNat) (F.TIA.TIA_CFG_EN c.toNat) _ rfl (.inl (Nat.le_of_ble_eq_true rfl)))
    have value := (u.get_set_same (F.TIA.TIA_CFG_RANGE c.toNat) r.toNat rfl).trans (Nat.mod_eq_of_lt (by omega : r.toNat < 2 ^ 3))
    have others (a : Nat) (other : a ∉ [(F.TIA.TIA_CFG_RANGE c.toNat).addr]) := u.rd_set_ne (F.TIA.TIA_CFG_RANGE c.toNat) r.toNat a fun same => other (List.mem_singleton.2 same)
    have form := u.set_form (F.TIA.TIA_CFG_RANGE c.toNat) r.toNat
    have row := (cmdTiaRange_eq c r u).trans (u.guarded_pass _ (((u.set (F.TIA.TIA_CFG_RANGE c.toNat) r.toNat).tiaWant c.toNat false).done []) (by simp [badParam, fine]))
    generalize u.set (F.TIA.TIA_CFG_RANGE c.toNat) r.toNat = w at en value others form row
    have same : w.hk = u.hk := by rw [form]
    obtain ⟨record, wanted⟩ := w.tiaWant_spec c.toNat false
    have regs : (w.tiaWant c.toNat false).regs = w.regs := (congrArg State.regs wanted).trans rfl
    refine ⟨w.tiaWant c.toNat false, row, (congrArg (fun x : Word => bitsOf x.toNat 24 3) (State.rd_congr regs _)).trans value, fun a other => (State.rd_congr regs a).trans (others a other), ?_, ?_⟩
    · rw [record, en, Bool.or_false, State.tia, State.tia, same]
    · exact State.tiaWant_of_form c.toNat false form

theorem tiaRange_bad (bad : 3 < c.toNat ∨ 5 < r.toNat) : TurnsAway (.tiaRange via seq c r) (fun _ => True) 0x12 (fun _ => 0) :=
  .of_handler rfl fun u _ => by
    have wrong : (decide (3 < c.toNat) || decide (5 < r.toNat)) = true := by simpa using bad
    refine (cmdTiaRange_eq c r u).trans ?_
    rw [wrong]
    rfl

end
end Sys2Proof.Machine
end

section
/-! PROOFS. A word boundary of a TIA channel (R376 to R382): what is delivered, suppressed and restarted. -/
namespace Sys2Proof.Machine

section
variable (s : State) (c : Nat)

theorem State.tia_congr {s t : State} (same : t.hk = s.hk) (k : Nat) : t.tia k = s.tia k := by rw [State.tia, same]; rfl

theorem State.tia_setTia_same (x : TiaSt) : (s.setTia c x).tia c = x := (s.tia_setTia c c x).trans (if_pos rfl)

theorem Measuring.tia_eq {own : Nat → Prop} {s t : State} (h : Measuring own s t) (k : Nat) : t.tia k = s.tia k := by rw [State.tia, h.hk]; rfl

theorem Measuring.litPend_eq {own : Nat → Prop} {s t : State} (h : Measuring own s t) : t.hk.litPend = s.hk.litPend := by rw [h.hk]

/-! ### A word that is suppressed (R379) -/

/-- A suppressed word is counted. -/
def State.tiaSkipped : State := (s.setTia c { s.tia c with left := (s.tia c).left - 1, sample := (s.tia c).sample + 1 }).inc (F.TIA.SUPPRESSED c)

theorem State.tiaSuppress_eq : s.tiaSuppress c = (s.tiaSkipped c).when ((s.tia c).left == 1) (fun s => s.set (F.TIA.TIA_STAT_SETTLING c) 0) := rfl

theorem State.tiaSkipped_spec : s.tiaSkipped c = { s with regs := (s.tiaSkipped c).regs, hk := { s.hk with tias := (s.tiaSkipped c).hk.tias } } ∧
    (s.tiaSkipped c).tia c = { s.tia c with left := (s.tia c).left - 1, sample := (s.tia c).sample + 1 } ∧
    SameRegs s (s.tiaSkipped c) [(F.TIA.SUPPRESSED c).addr] ∧ (s.tiaSkipped c).get (F.TIA.SUPPRESSED c) = min (s.get (F.TIA.SUPPRESSED c) + 1) (2 ^ 32 - 1) :=
  ⟨rfl, s.tia_setTia_same c _, fun a other => State.rd_set_ne (s.setTia c _) (F.TIA.SUPPRESSED c) _ a fun same => other (List.mem_singleton.2 same),
    State.get_inc (s.setTia c _) (F.TIA.SUPPRESSED c) rfl⟩

theorem State.tiaSuppress_spec : s.tiaSuppress c = { s with regs := (s.tiaSuppress c).regs, hk := { s.hk with tias := (s.tiaSuppress c).hk.tias } } ∧
    (s.tiaSuppress c).tia c = { s.tia c with left := (s.tia c).left - 1, sample := (s.tia c).sample + 1 } ∧
    SameRegs s (s.tiaSuppress c) [(F.TIA.SUPPRESSED c).addr, (F.TIA.TIA_STAT_SETTLING c).addr] ∧ (s.tiaSuppress c).get (F.TIA.SUPPRESSED c) = min (s.get (F.TIA.SUPPRESSED c) + 1) (2 ^ 32 - 1) ∧
    ((s.tia c).left = 1 → (s.tiaSuppress c).flag (F.TIA.TIA_STAT_SETTLING c) = false) := by
  obtain ⟨form, record, regs, counted⟩ := s.tiaSkipped_spec c
  rw [s.tiaSuppress_eq c]
  generalize s.tiaSkipped c = u at form record regs counted ⊢
  by_cases last : (s.tia c).left = 1
  · rw [beq_iff_eq.2 last]
    have settled : u.when true (fun s => s.set (F.TIA.TIA_STAT_SETTLING c) 0) = u.set (F.TIA.TIA_STAT_SETTLING c) 0 := rfl
    rw [settled]
    refine ⟨?_, record, fun a other => ?_, ?_, fun _ => ?_⟩
    · exact (u.set_form (F.TIA.TIA_STAT_SETTLING c) 0).trans (congrArg (fun w : State => { w with regs := (u.set (F.TIA.TIA_STAT_SETTLING c) 0).regs }) form)
    · obtain ⟨count, stat⟩ : a ≠ (F.TIA.SUPPRESSED c).addr ∧ a ≠ (F.TIA.TIA_STAT_SETTLING c).addr := by simpa using other
      exact (u.rd_set_ne (F.TIA.TIA_STAT_SETTLING c) 0 a stat).trans (regs a fun mem => count (List.mem_singleton.1 mem))
    · exact (u.get_set_addr (F.TIA.TIA_STAT_SETTLING c) _ 0 (by simp only [F.TIA.TIA_STAT_SETTLING, F.TIA.SUPPRESSED]; omega)).trans counted
    · exact congrArg (· == 1) (u.get_set_same (F.TIA.TIA_STAT_SETTLING c) 0 rfl)
  · rw [beq_eq_false_iff_ne.2 last]
    have same : u.when false (fun s => s.set (F.TIA.TIA_STAT_SETTLING c) 0) = u := rfl
    rw [same]
    exact ⟨form, record, fun a other => regs a fun mem => other (List.mem_cons.2 (.inl (List.mem_singleton.1 mem))), counted, fun one => absurd one last⟩

/-! ### A restart (R379) -/

/-- The record of a channel that restarts. -/
def State.tiaRestarted (zero : Bool) : TiaSt :=
  { s.tia c with
    run := true, range := s.get (F.TIA.TIA_CFG_RANGE c), preset := s.get (F.TIA.TIA_CFG_PRESET c), left := tiaSettling (s.get (F.TIA.TIA_CFG_PRESET c)) - 1, first := true,
    zero := zero || (s.tia c).zero, pend := false, pendZero := false, ovl := 0, small := 0, high := 0, low := 0 }

theorem State.tiaRestart_eq (zero : Bool) : s.tiaRestart c zero = ((s.setTia c (s.tiaRestarted c zero)).set (F.TIA.TIA_STAT_SETTLING c) 1).inc (F.TIA.RESTARTS c) := rfl

theorem State.tiaRestart_tia (zero : Bool) (k : Nat) : (s.tiaRestart c zero).tia k = if k = c then s.tiaRestarted c zero else s.tia k := s.tia_setTia c k _

theorem State.tiaRestart_spec (zero : Bool) : (s.tiaRestart c zero).flag (F.TIA.TIA_STAT_SETTLING c) = true ∧
    (s.tiaRestart c zero).get (F.TIA.RESTARTS c) = min (s.get (F.TIA.RESTARTS c) + 1) (2 ^ 32 - 1) ∧
    SameRegs s (s.tiaRestart c zero) [(F.TIA.RESTARTS c).addr, (F.TIA.TIA_STAT_SETTLING c).addr] := by
  have apart : (F.TIA.TIA_STAT_SETTLING c).addr ≠ (F.TIA.RESTARTS c).addr := by simp only [F.TIA.TIA_STAT_SETTLING, F.TIA.RESTARTS]; omega
  rw [s.tiaRestart_eq c zero]
  have regs : (s.setTia c (s.tiaRestarted c zero)).regs = s.regs := rfl
  generalize s.setTia c (s.tiaRestarted c zero) = u at regs ⊢
  refine ⟨?_, ?_, fun a other => ?_⟩
  · exact (congrArg (· == 1) (State.get_inc_ne _ (F.TIA.RESTARTS c) _ apart)).trans (u.flag_set_one (F.TIA.TIA_STAT_SETTLING c) rfl rfl)
  · refine State.get_inc_of_eq (F.TIA.RESTARTS c) rfl ((u.get_set_addr (F.TIA.TIA_STAT_SETTLING c) _ 1 apart.symm).trans ?_)
    exact congrArg (fun w : Word => bitsOf w.toNat 0 32) (State.rd_congr regs _)
  · obtain ⟨count, stat⟩ : a ≠ (F.TIA.RESTARTS c).addr ∧ a ≠ (F.TIA.TIA_STAT_SETTLING c).addr := by simpa using other
    exact (State.rd_set_ne _ (F.TIA.RESTARTS c) _ a count).trans ((u.rd_set_ne (F.TIA.TIA_STAT_SETTLING c) 1 a stat).trans (State.rd_congr regs a))

/-! ### Thresholds (R382) -/

/-- What the thresholds of channel `c` may change: HIGH, LOW, their count and their runs. -/
structure Thresholding (c : Nat) (s t : State) : Prop where
  words : HkWords (fun a => a = 0x6000410 + 0x80 * c ∨ a = 0x6000448 + 0x80 * c) s t
  ovl : t.get (F.TIA.TIA_STAT_OVL c) = s.get (F.TIA.TIA_STAT_OVL c)
  record : t.tia c = { s.tia c with high := (t.tia c).high, low := (t.tia c).low }
  litPend : t.hk.litPend = s.hk.litPend
  time : t.time = s.time

namespace Thresholding
variable {s t u : State} {c : Nat}

theorem refl (s : State) (c : Nat) : Thresholding c s s := ⟨.refl s, rfl, rfl, rfl, rfl⟩

theorem trans (first : Thresholding c s t) (second : Thresholding c t u) : Thresholding c s u :=
  ⟨first.words.trans second.words, second.ovl.trans first.ovl, second.record.trans (by rw [first.record]), second.litPend.trans first.litPend, second.time.trans first.time⟩

theorem when (b : Bool) {f : State → State} (h : ∀ u, Thresholding c u (f u)) (s : State) : Thresholding c s (s.when b f) := by
  cases b
  · exact .refl s c
  · exact h s

theorem stat (s : State) (c lo x : Nat) (above : 3 ≤ lo) (inside : lo < 32) : Thresholding c s (s.set ⟨0x6000410 + 0x80 * c, lo, 1⟩ x) :=
  ⟨.setOwn s _ x (.inl rfl), s.get_set_bits ⟨0x6000410 + 0x80 * c, lo, 1⟩ (F.TIA.TIA_STAT_OVL c) x (decide_eq_true (by dsimp only; omega)) (.inr above), rfl, rfl, rfl⟩

theorem counts (s : State) (c n i d : Nat) (few : c < 4) (known : n < 256) : Thresholding c s ((s.inc (F.TIA.THR_EVENTS c)).raise n i d) := by
  have told := Measuring.raise (own := noWord) (s.inc (F.TIA.THR_EVENTS c)) n i d known
  refine ⟨(HkWords.setOwn s (F.TIA.THR_EVENTS c) _ (.inr rfl)).trans (told.words.widen fun _ => False.elim), ?_, ?_, told.litPend_eq, told.time⟩
  · refine (told.words.get _ (by simp only [F.TIA.TIA_STAT_OVL]; omega) (by simp only [F.TIA.TIA_STAT_OVL]; omega) id).trans ?_
    exact s.get_inc_ne (F.TIA.THR_EVENTS c) (F.TIA.TIA_STAT_OVL c) (by simp only [F.TIA.TIA_STAT_OVL, F.TIA.THR_EVENTS]; omega)
  · rw [told.tia_eq]; rfl

/-- A threshold with its hysteresis. -/
theorem level (s : State) (c lo n i d : Nat) (few : c < 4) (known : n < 256) (above : 3 ≤ lo) (inside : lo < 32) (en set off on : Bool) :
    Thresholding c s (if en then s else if set then s.when off (fun s => s.set ⟨0x6000410 + 0x80 * c, lo, 1⟩ 0)
      else s.when on (fun s => ((s.set ⟨0x6000410 + 0x80 * c, lo, 1⟩ 1).inc (F.TIA.THR_EVENTS c)).raise n i d)) := by
  split
  · exact .refl s c
  · split
    · exact .when _ (fun u => .stat u c lo 0 above inside) s
    · exact .when _ (fun u => (Thresholding.stat u c lo 1 above inside).trans (.counts _ c n i d few known)) s

end Thresholding

theorem State.tiaThreshold_keeps (few : c < 4) (code : Int) : Thresholding c s (s.tiaThreshold c code) := by
  unfold State.tiaThreshold
  dsimp only
  generalize (if s.getI (F.TIA.THR_HI c) < code then (s.tia c).high + 1 else 0) = high
  generalize (if code < s.getI (F.TIA.THR_LO c) then (s.tia c).low + 1 else 0) = low
  have counted : Thresholding c s (s.setTia c { s.tia c with high := high, low := low }) :=
    ⟨.of_regs rfl, rfl, by rw [s.tia_setTia_same], rfl, rfl⟩
  refine counted.trans ?_
  generalize s.setTia c { s.tia c with high := high, low := low } = u
  exact (Thresholding.level u c 3 EV_HK_THRESHOLD c 1 few (by decide) (by decide) (by decide) _ _ _ _).trans (.level _ c 4 EV_HK_THRESHOLD c 2 few (by decide) (by decide) (by decide) _ _ _ _)

end
end Sys2Proof.Machine
end

section
/-! PROOFS. A TIA word that is delivered (R376, R377, R381). -/
namespace Sys2Proof.Machine

section
variable (s : State) (c : Nat) (code : Int)

/-! ### Auto-range (R381) -/

/-- The runs of overloaded and of small words after a word. -/
def State.tiaRuns (ovl : Bool) : State :=
  s.setTia c { s.tia c with ovl := if ovl then (s.tia c).ovl + 1 else 0, small := if code.natAbs < 671089 then (s.tia c).small + 1 else 0 }

/-- Another range, wanted at the next boundary. -/
def State.tiaRanged (r : Nat) : State := (s.set (F.TIA.TIA_CFG_RANGE c) r).tiaWant c false

/-- The word of TIA_CFG and the runs, the range and the wish of channel `c` are all that auto-range changes. -/
structure Ranging (c : Nat) (s t : State) : Prop where
  words : HkWords (fun a => a = 0x6000400 + 0x80 * c) s t
  record : t.tia c = { s.tia c with ovl := (t.tia c).ovl, small := (t.tia c).small, pend := (t.tia c).pend, pendZero := (t.tia c).pendZero }
  litPend : t.hk.litPend = s.hk.litPend

theorem Ranging.trans {c : Nat} {s t u : State} (first : Ranging c s t) (second : Ranging c t u) : Ranging c s u :=
  ⟨first.words.trans second.words, second.record.trans (by rw [first.record]), second.litPend.trans first.litPend⟩

theorem State.tiaRuns_ranging (ovl : Bool) : Ranging c s (s.tiaRuns c code ovl) := ⟨.of_regs rfl, by rw [State.tiaRuns, s.tia_setTia_same], rfl⟩

theorem State.tiaWant_regs (zero : Bool) : (s.tiaWant c zero).regs = s.regs := by
  unfold State.tiaWant
  split <;> rfl

theorem State.tiaWant_litPend (zero : Bool) : (s.tiaWant c zero).hk.litPend = s.hk.litPend := by
  unfold State.tiaWant
  split <;> rfl

theorem State.tiaWant_ranging : Ranging c s (s.tiaWant c false) := by
  refine ⟨.of_regs (s.tiaWant_regs c false), ?_, s.tiaWant_litPend c false⟩
  rw [(s.tiaWant_spec c false).1]
  split <;> rfl

theorem State.tiaRanged_ranging (r : Nat) : Ranging c s (s.tiaRanged c r) := by
  have set : Ranging c s (s.set (F.TIA.TIA_CFG_RANGE c) r) := ⟨HkWords.setOwn (own := fun a => a = 0x6000400 + 0x80 * c) s (F.TIA.TIA_CFG_RANGE c) r rfl, rfl, rfl⟩
  exact set.trans (State.tiaWant_ranging _ c)

theorem State.tiaRanged_spec (r : Nat) (few : r < 8) (en : s.flag (F.TIA.TIA_CFG_EN c) = true) : (s.tiaRanged c r).get (F.TIA.TIA_CFG_RANGE c) = r ∧ ((s.tiaRanged c r).tia c).pend = true := by
  have enabled : (s.set (F.TIA.TIA_CFG_RANGE c) r).flag (F.TIA.TIA_CFG_EN c) = true :=
    (congrArg (· == 1) (s.get_set_bits (F.TIA.TIA_CFG_RANGE c) (F.TIA.TIA_CFG_EN c) r rfl (.inl (Nat.le_of_ble_eq_true rfl)))).trans en
  have value := (s.get_set_same (F.TIA.TIA_CFG_RANGE c) r rfl).trans (Nat.mod_eq_of_lt few)
  unfold State.tiaRanged
  generalize s.set (F.TIA.TIA_CFG_RANGE c) r = w at enabled value ⊢
  refine ⟨(congrArg (fun w : Word => bitsOf w.toNat 24 3) (State.rd_congr (w.tiaWant_regs c false) _)).trans value, ?_⟩
  rw [(w.tiaWant_spec c false).1, if_pos enabled]

theorem State.tiaAuto_eq (ovl : Bool) : s.tiaAuto c code ovl =
    (if !s.flag (F.TIA.TIA_CFG_AUTO_RANGE c) then s.tiaRuns c code ovl
     else if 8 ≤ (if ovl then (s.tia c).ovl + 1 else 0) ∧ (s.tia c).range < 5 ∧ !(s.tia c).pend then (s.tiaRuns c code ovl).tiaRanged c ((s.tia c).range + 1)
     else if 256 ≤ (if code.natAbs < 671089 then (s.tia c).small + 1 else 0) ∧ 0 < (s.tia c).range ∧ !(s.tia c).pend then (s.tiaRuns c code ovl).tiaRanged c ((s.tia c).range - 1)
     else s.tiaRuns c code ovl) := rfl

theorem State.tiaAuto_ranging (ovl : Bool) : Ranging c s (s.tiaAuto c code ovl) := by
  have runs := s.tiaRuns_ranging c code ovl
  rw [s.tiaAuto_eq]
  generalize (if ovl then (s.tia c).ovl + 1 else 0) = many
  generalize (if code.natAbs < 671089 then (s.tia c).small + 1 else 0) = small
  split
  · exact runs
  · split
    · exact runs.trans (State.tiaRanged_ranging _ c _)
    · split
      · exact runs.trans (State.tiaRanged_ranging _ c _)
      · exact runs

/-- The eighth overloaded word in turn moves the range up. -/
theorem State.tiaAuto_up (auto : s.flag (F.TIA.TIA_CFG_AUTO_RANGE c) = true) (many : 7 ≤ (s.tia c).ovl) (low : (s.tia c).range < 5) (calm : (s.tia c).pend = false)
    (en : s.flag (F.TIA.TIA_CFG_EN c) = true) :
    (s.tiaAuto c code true).get (F.TIA.TIA_CFG_RANGE c) = (s.tia c).range + 1 ∧ ((s.tiaAuto c code true).tia c).pend = true := by
  have off : ¬ (!s.flag (F.TIA.TIA_CFG_AUTO_RANGE c)) = true := by rw [auto]; exact Bool.false_ne_true
  have up : 8 ≤ (if true then (s.tia c).ovl + 1 else 0) ∧ (s.tia c).range < 5 ∧ (!(s.tia c).pend) = true := ⟨by rw [if_pos rfl]; omega, low, by rw [calm]; rfl⟩
  rw [s.tiaAuto_eq, if_neg off, if_pos up]
  exact State.tiaRanged_spec _ c _ (by omega) en

/-! ### The words of a delivered word -/

/-- The words of a delivered word. -/
def State.tiaPosted (x : TiaSt) (k : Nat) (ovl : Bool) : State :=
  let s := (((s.setI (F.TIA.VALUE c) code).set (F.TIA.SAMPLE c) k).set (F.TIA.PRESET c) x.preset).set (F.TIA.RANGE c) x.range
  let s := s.set (F.TIA.FLAGS c) (bit x.first + 2 * bit ovl + 4 * s.get (F.TIA.TIA_STAT_HIGH c) + 8 * s.get (F.TIA.TIA_STAT_LOW c))
  (s.set64 (F.TIA.TIME_LO c) (F.TIA.TIME_HI c) s.time.dev).publish (F.TIA.TIA_RES_ST c)

/-- What a posted word shows. -/
structure TiaPosting (s t : State) (c : Nat) (code : Int) (x : TiaSt) (k : Nat) : Prop where
  words : HkWords (fun a => 0x6000420 + 0x80 * c ≤ a ∧ a < 0x6000438 + 0x80 * c) s t
  value : t.get (F.TIA.VALUE c) = unsigned 32 code
  sample : t.get (F.TIA.SAMPLE c) = k % 2 ^ 32
  first : (t.get (F.TIA.FLAGS c)).testBit 0 = x.first
  time : t.get (F.TIA.TIME_LO c) = s.time.dev.toNat % 2 ^ 32

theorem State.tiaPosted_words (x : TiaSt) (k : Nat) (ovl : Bool) :
    HkWords (fun a => 0x6000420 + 0x80 * c ≤ a ∧ a < 0x6000438 + 0x80 * c) s (s.tiaPosted c code x k ovl) := by
  have mine (u : State) (o lo wd x : Nat) (inside : o < 0x18) : HkWords (fun a => 0x6000420 + 0x80 * c ≤ a ∧ a < 0x6000438 + 0x80 * c) u (u.set ⟨0x6000420 + o + 0x80 * c, lo, wd⟩ x) :=
    HkWords.setOwn u _ x (by dsimp only; omega)
  have result := (((mine s 4 0 32 (unsigned 32 code) (by decide)).trans (mine _ 8 0 32 k (by decide))).trans (mine _ 0xC 12 2 x.preset (by decide))).trans (mine _ 0xC 8 3 x.range (by decide))
  exact ((((result.trans (mine _ 0xC 0 4 _ (by decide))).trans (mine _ 0x10 0 32 _ (by decide))).trans (mine _ 0x14 0 32 _ (by decide))).trans (mine _ 0 31 1 1 (by decide))).trans
    (mine _ 0 0 16 _ (by decide))

/-- FIRST is bit 0 of FLAGS. -/
theorem firstFlag_testBit (first ovl : Bool) (high low : Nat) : ((bit first + 2 * bit ovl + 4 * high + 8 * low) % 2 ^ 4).testBit 0 = first := by
  rw [Nat.testBit_zero]
  cases first
  · have clear : bit false = 0 := rfl
    exact decide_eq_false (by omega)
  · have set : bit true = 1 := rfl
    exact decide_eq_true (by omega)

theorem State.tiaPosted_posting (x : TiaSt) (k : Nat) (ovl : Bool) : TiaPosting s (s.tiaPosted c code x k ovl) c code x k := by
  have raised : unsigned 32 code % 2 ^ 32 = unsigned 32 code := unsigned_mod 32 code
  have apart {f g : Fld} {x : Nat} {u : State} (other : g.addr ≠ f.addr) : (u.set f x).get g = u.get g := u.get_set_addr f g x other
  refine ⟨?_, ?_, ?_, ?_, ?_⟩
  · exact s.tiaPosted_words c code x k ovl
  all_goals
    unfold State.tiaPosted State.set64 State.setI
    dsimp only
    simp (disch := (simp only [F.TIA.VALUE, F.TIA.SAMPLE, F.TIA.PRESET, F.TIA.RANGE, F.TIA.FLAGS, F.TIA.TIME_LO, F.TIA.TIME_HI, F.TIA.TIA_RES_ST]; omega)) only [apart, State.get_publish]
  · exact (State.get_set_same _ _ _ rfl).trans raised
  · exact State.get_set_same _ _ _ rfl
  · rw [State.get_set_same _ (F.TIA.FLAGS c) _ rfl]
    exact firstFlag_testBit _ _ _ _
  · exact (State.get_set_same _ _ _ rfl).trans (Nat.mod_mod _ _)

end
end Sys2Proof.Machine
end

section
/-! PROOFS. TIA_WORD (R376 to R382): the whole of a word boundary. -/
namespace Sys2Proof.Machine

section
variable (s : State) (c : Nat) (code : Int)

/-! ### The delivery in its parts -/

/-- Whether a word counts as overloaded. -/
def tiaOverloaded (code : Int) : Bool := decide (8220836 ≤ code.natAbs)

/-- OVL and the thresholds. -/
def State.tiaJudged : State := (s.setFlag (F.TIA.TIA_STAT_OVL c) (tiaOverloaded code)).tiaThreshold c code

/-- SAMPLE of a delivered word. -/
def TiaSt.number (x : TiaSt) : Nat := if x.zero then 0 else x.sample

/-- The record behind a delivered word. -/
def TiaSt.delivered (x : TiaSt) (code : Int) : TiaSt := { x with first := false, zero := false, sample := x.number + 1, half := some code }

/-- The word is posted and the record follows. -/
def State.tiaShown : State :=
  ((s.tiaJudged c code).tiaPosted c code ((s.tiaJudged c code).tia c) ((s.tiaJudged c code).tia c).number (tiaOverloaded code)).setTia c (((s.tiaJudged c code).tia c).delivered code)

/-- The loops that take words of channel `c`. -/
def State.tiaLoops : List Nat := [5, 6].filter (fun l => s.get (F.LOOP.LOOP_RATE_SRC l) == 3 && s.get (F.LOOP.LOOP_RATE_TIA l) == c)

/-- The word reaches the loops. -/
def State.tiaFed : State := (s.tiaShown c code).each ((s.tiaShown c code).tiaLoops c) (fun s l => s.loopSource l code false)

theorem State.tiaDeliver_eq : s.tiaDeliver c code = (s.tiaFed c code).tiaAuto c code (tiaOverloaded code) := rfl

theorem State.tiaFed_measuring : Measuring noWord (s.tiaShown c code) (s.tiaFed c code) :=
  .each _ _ (fun u l mem => .loopSource u l (by
    obtain rfl | rfl : l = 5 ∨ l = 6 := by simpa using List.mem_of_mem_filter mem
    · decide
    · decide) code false) _

variable (few : c < 4)
include few

/-! ### What each part leaves -/

theorem State.tiaJudged_spec : ((s.tiaJudged c code).tia c = { s.tia c with high := ((s.tiaJudged c code).tia c).high, low := ((s.tiaJudged c code).tia c).low }) ∧
    (s.tiaJudged c code).flag (F.TIA.TIA_STAT_OVL c) = tiaOverloaded code ∧ (s.tiaJudged c code).hk.litPend = s.hk.litPend ∧ (s.tiaJudged c code).time = s.time ∧
    HkWords (fun a => a = 0x6000410 + 0x80 * c ∨ a = 0x6000448 + 0x80 * c) s (s.tiaJudged c code) := by
  have kept := (s.setFlag (F.TIA.TIA_STAT_OVL c) (tiaOverloaded code)).tiaThreshold_keeps c few code
  refine ⟨kept.record, ?_, kept.litPend, kept.time, (HkWords.setOwn s (F.TIA.TIA_STAT_OVL c) _ (.inl rfl)).trans kept.words⟩
  exact (congrArg (· == 1) kept.ovl).trans (s.flag_setFlag_same (F.TIA.TIA_STAT_OVL c) _ rfl (Nat.le_refl 1))

/-- The words of channel `c` that a delivered word may change. -/
def TiaWord (c a : Nat) : Prop := 0x6000410 + 0x80 * c ≤ a ∧ a < 0x6000480 + 0x80 * c

omit few in
/-- A posting stays to be read. -/
theorem TiaPosting.later {s t u : State} {c k : Nat} {code : Int} {x : TiaSt} (h : TiaPosting s t c code x k) (few : c < 4) (words : HkWords noWord t u) : TiaPosting s u c code x k := by
  have word (o lo wd : Nat) (low : o < 0x80) : u.get ⟨0x6000400 + o + 0x80 * c, lo, wd⟩ = t.get ⟨0x6000400 + o + 0x80 * c, lo, wd⟩ :=
    words.get _ (by dsimp only; omega) (by dsimp only; omega) id
  exact
    { words := h.words.trans (words.widen fun _ => False.elim)
      value := (word 0x24 0 32 (by decide)).trans h.value
      sample := (word 0x28 0 32 (by decide)).trans h.sample
      first := (congrArg (Nat.testBit · 0) (word 0x2C 0 4 (by decide))).trans h.first
      time := (word 0x30 0 32 (by decide)).trans h.time }

omit few in
theorem State.setTia_words (x : TiaSt) : HkWords noWord s (s.setTia c x) := .of_regs rfl

omit few in
theorem State.setTia_litPend (x : TiaSt) : (s.setTia c x).hk.litPend = s.hk.litPend := rfl

omit few in
/-- A posting keeps the record. -/
theorem State.tiaPosted_hk (x : TiaSt) (k : Nat) (ovl : Bool) : (s.tiaPosted c code x k ovl).hk = s.hk := by
  unfold State.tiaPosted
  simp only [State.publish_hk, State.set64_hk, State.set_hk, State.setI_hk]

theorem State.tiaFed_spec :
    TiaPosting (s.tiaJudged c code) (s.tiaFed c code) c code ((s.tiaJudged c code).tia c) ((s.tiaJudged c code).tia c).number ∧
    (s.tiaFed c code).tia c = ((s.tiaJudged c code).tia c).delivered code ∧ (s.tiaFed c code).hk.litPend = s.hk.litPend := by
  obtain ⟨-, -, lit, -, -⟩ := s.tiaJudged_spec c code few
  have fed := s.tiaFed_measuring c code
  have posting := (s.tiaJudged c code).tiaPosted_posting c code ((s.tiaJudged c code).tia c) ((s.tiaJudged c code).tia c).number (tiaOverloaded code)
  have same := (s.tiaJudged c code).tiaPosted_hk c code ((s.tiaJudged c code).tia c) ((s.tiaJudged c code).tia c).number (tiaOverloaded code)
  have words := State.setTia_words ((s.tiaJudged c code).tiaPosted c code ((s.tiaJudged c code).tia c) ((s.tiaJudged c code).tia c).number (tiaOverloaded code)) c
    (((s.tiaJudged c code).tia c).delivered code)
  have record : (s.tiaShown c code).hk.litPend = (s.tiaJudged c code).hk.litPend := (State.setTia_litPend _ c _).trans (congrArg HkSt.litPend same)
  exact ⟨posting.later few (words.trans fed.words), (fed.tia_eq c).trans (State.tia_setTia_same _ c _), fed.litPend_eq.trans (record.trans lit)⟩

theorem State.tiaFed_words : HkWords (TiaWord c) s (s.tiaFed c code) := by
  obtain ⟨-, -, -, -, words⟩ := s.tiaJudged_spec c code few
  exact (words.widen fun a mine => by simp only [TiaWord]; omega).trans ((s.tiaFed_spec c code few).1.words.widen fun a mine => by simp only [TiaWord]; omega)

/-! ### A delivered word -/

/-- What a delivered word leaves (R376, R377, R381). -/
structure TiaDelivery (s t : State) (c : Nat) (v : Int) : Prop where
  value : t.get (F.TIA.VALUE c) = unsigned 32 v
  ovl : t.flag (F.TIA.TIA_STAT_OVL c) = tiaOverloaded v
  sample : t.get (F.TIA.SAMPLE c) = (s.tia c).number % 2 ^ 32
  first : (t.get (F.TIA.FLAGS c)).testBit 0 = (s.tia c).first
  later : (t.tia c).first = false
  half : (t.tia c).half = some v
  time : t.get (F.TIA.TIME_LO c) = s.time.dev.toNat % 2 ^ 32
  litPend : t.hk.litPend = s.hk.litPend

omit few in
/-- The runs of the thresholds apart, a record is as it was. -/
theorem TiaSt.judged_fields {x y : TiaSt} {high low : Nat} (h : x = { y with high := high, low := low }) :
    x.number = y.number ∧ x.first = y.first ∧ x.ovl = y.ovl ∧ x.range = y.range ∧ x.pend = y.pend := by
  rw [h]
  exact ⟨rfl, rfl, rfl, rfl, rfl⟩

omit few in
/-- Auto-range leaves FIRST and the word of a delivered record. -/
theorem TiaSt.delivered_fields {x y z : TiaSt} {v : Int} {m n : Nat} {p r : Bool} (h : x = { y with ovl := m, small := n, pend := p, pendZero := r }) (g : y = z.delivered v) :
    x.first = false ∧ x.half = some v := by
  rw [h, g]
  exact ⟨rfl, rfl⟩

theorem State.tiaDeliver_delivery : TiaDelivery s (s.tiaDeliver c code) c code := by
  obtain ⟨record, ovl, -, time, -⟩ := s.tiaJudged_spec c code few
  obtain ⟨posting, fed, lit⟩ := s.tiaFed_spec c code few
  have ranging := (s.tiaFed c code).tiaAuto_ranging c code (tiaOverloaded code)
  rw [s.tiaDeliver_eq]
  generalize (s.tiaFed c code).tiaAuto c code (tiaOverloaded code) = t at ranging ⊢
  generalize s.tiaFed c code = q at posting fed lit ranging
  have word (o lo wd : Nat) (low : 0 < o ∧ o < 0x80) : t.get ⟨0x6000400 + o + 0x80 * c, lo, wd⟩ = q.get ⟨0x6000400 + o + 0x80 * c, lo, wd⟩ :=
    ranging.words.get _ (by dsimp only; omega) (by dsimp only; omega) (by dsimp only; omega)
  obtain ⟨number, began, -⟩ := TiaSt.judged_fields record
  have stat : q.get (F.TIA.TIA_STAT_OVL c) = (s.tiaJudged c code).get (F.TIA.TIA_STAT_OVL c) :=
    posting.words.get _ (by simp only [F.TIA.TIA_STAT_OVL]; omega) (by simp only [F.TIA.TIA_STAT_OVL]; omega) (by simp only [F.TIA.TIA_STAT_OVL]; omega)
  obtain ⟨later, half⟩ := TiaSt.delivered_fields ranging.record fed
  exact
    { value := (word 0x24 0 32 (by decide)).trans posting.value
      ovl := (congrArg (· == 1) ((word 0x10 2 1 (by decide)).trans stat)).trans ovl
      sample := (word 0x28 0 32 (by decide)).trans (posting.sample.trans (by rw [number]))
      first := (congrArg (Nat.testBit · 0) (word 0x2C 0 4 (by decide))).trans (posting.first.trans began)
      later := later
      half := half
      time := (word 0x30 0 32 (by decide)).trans (posting.time.trans (by rw [time]))
      litPend := ranging.litPend.trans lit }

/-- R381: the eighth overloaded word in turn. -/
theorem State.tiaDeliver_up (auto : s.flag (F.TIA.TIA_CFG_AUTO_RANGE c) = true) (loud : tiaOverloaded code = true) (many : 7 ≤ (s.tia c).ovl) (low : (s.tia c).range < 5)
    (calm : (s.tia c).pend = false) (en : s.flag (F.TIA.TIA_CFG_EN c) = true) :
    (s.tiaDeliver c code).get (F.TIA.TIA_CFG_RANGE c) = (s.tia c).range + 1 ∧ ((s.tiaDeliver c code).tia c).pend = true := by
  obtain ⟨record, -, -, -, -⟩ := s.tiaJudged_spec c code few
  obtain ⟨-, fed, -⟩ := s.tiaFed_spec c code few
  have words := s.tiaFed_words c code few
  have cfg (lo : Nat) : (s.tiaFed c code).flag ⟨0x6000400 + 0x80 * c, lo, 1⟩ = s.flag ⟨0x6000400 + 0x80 * c, lo, 1⟩ :=
    words.flag _ (by dsimp only; omega) (by dsimp only; omega) (by simp only [TiaWord]; omega)
  have runs : ((s.tiaFed c code).tia c).ovl = (s.tia c).ovl ∧ ((s.tiaFed c code).tia c).range = (s.tia c).range ∧ ((s.tiaFed c code).tia c).pend = (s.tia c).pend := by
    obtain ⟨-, -, fields⟩ := TiaSt.judged_fields record
    rw [fed]
    exact fields
  obtain ⟨overloads, range, pend⟩ := runs
  rw [s.tiaDeliver_eq, loud, ← range]
  exact State.tiaAuto_up _ c code ((cfg 29).trans auto) (overloads ▸ many) (range ▸ low) (pend.trans calm) ((cfg 31).trans en)

end
end Sys2Proof.Machine
end

section
/-! PROOFS. TIA_WORD as an event, and the toggle of the window monitor's source (R383). -/
namespace Sys2Proof.Machine

/-! ### TIA_WORD -/

theorem State.when_off (s : State) (f : State → State) : s.when false f = s := rfl

theorem State.when_on (s : State) (f : State → State) : s.when true f = f s := rfl

section
variable (s : State) (c : Nat) (code : Int)

/-- The word of a boundary: none, suppressed, or delivered. -/
def State.tiaWorded : State :=
  if !(s.tia c).run then s else if 0 < (s.tia c).left then s.tiaSuppress c else s.tiaDeliver c (clampI code (-(2 ^ 23 - 1)) (2 ^ 23 - 1))

theorem State.tiaWord_calm (on : s.domOn 65 = true) (lit : (s.tiaWorded c code).hk.litPend = none) :
    s.tiaWord c code = (s.tiaWorded c code).when (s.tia c).pend (fun u => u.tiaRestart c (s.tia c).pendZero) := by
  have alive : ¬ (!s.domOn 65) = true := by rw [on]; exact Bool.false_ne_true
  have form : s.tiaWord c code = (match (s.tiaWorded c code).hk.litPend with
    | some on => if (s.tiaWorded c code).wmLead = some c then (s.tiaWorded c code).wmSwitch on false else (s.tiaWorded c code).when (s.tia c).pend (fun s' => s'.tiaRestart c (s.tia c).pendZero)
    | none => (s.tiaWorded c code).when (s.tia c).pend (fun s' => s'.tiaRestart c (s.tia c).pendZero)) := if_neg alive
  rw [form, lit]

theorem State.tiaWorded_still (still : (s.tia c).run = false) : s.tiaWorded c code = s := if_pos (by rw [still]; rfl)

theorem State.tiaWorded_settling (runs : (s.tia c).run = true) (more : 0 < (s.tia c).left) : s.tiaWorded c code = s.tiaSuppress c :=
  (if_neg (by rw [runs]; exact Bool.false_ne_true)).trans (if_pos more)

theorem State.tiaWorded_settled (runs : (s.tia c).run = true) (settled : (s.tia c).left = 0) : s.tiaWorded c code = s.tiaDeliver c (clampI code (-(2 ^ 23 - 1)) (2 ^ 23 - 1)) :=
  (if_neg (by rw [runs]; exact Bool.false_ne_true)).trans (if_neg (by omega))

end

section
variable (c : Fin 4) (code : Int)

theorem tiaWord_idle : Happens (.tiaWord c code) (fun s => s.domOn 65 = false ∨ ((s.hk.litPend = none ∧ (s.tia c).pend = false) ∧ (s.tia c).run = false)) Nothing :=
  Happens.of_effect (fun _ => rfl) fun s idle => by
    obtain off | ⟨⟨lit, calm⟩, still⟩ := idle
    · exact if_pos (by rw [off]; rfl)
    · by_cases on : s.domOn 65 = true
      · have same := s.tiaWorded_still c code still
        refine (s.tiaWord_calm c code on (by rw [same]; exact lit)).trans ?_
        rw [same, calm]
        rfl
      · exact if_pos (by rw [(Bool.not_eq_true _).mp on]; rfl)

theorem tiaWord_suppresses : Happens (.tiaWord c code) (fun s => s.domOn 65 = true ∧ (s.hk.litPend = none ∧ (s.tia c).pend = false) ∧ (s.tia c).run = true ∧ 0 < (s.tia c).left)
    (fun s t => t = { s with regs := t.regs, hk := { s.hk with tias := t.hk.tias } } ∧ t.tia c = { s.tia c with left := (s.tia c).left - 1, sample := (s.tia c).sample + 1 } ∧
      SameRegs s t [(F.TIA.SUPPRESSED c).addr, (F.TIA.TIA_STAT_SETTLING c).addr] ∧ t.get (F.TIA.SUPPRESSED c) = min (s.get (F.TIA.SUPPRESSED c) + 1) (2 ^ (F.TIA.SUPPRESSED c).wd - 1) ∧
      ((s.tia c).left = 1 → t.flag (F.TIA.TIA_STAT_SETTLING c) = false)) :=
  Happens.of_effect (fun _ => rfl) fun s ⟨on, ⟨lit, calm⟩, runs, more⟩ => by
    have word := s.tiaWorded_settling c code runs more
    have spec := s.tiaSuppress_spec c
    have kept : (s.tiaSuppress c).hk.litPend = s.hk.litPend := (congrArg (fun u => u.hk.litPend) spec.1).trans rfl
    have form : s.tiaWord c code = s.tiaSuppress c := by
      rw [s.tiaWord_calm c code on (by rw [word, kept]; exact lit), word, calm, State.when_off]
    rw [form]
    exact spec

theorem tiaWord_delivers : Happens (.tiaWord c code) (fun s => s.domOn 65 = true ∧ (s.hk.litPend = none ∧ (s.tia c).pend = false) ∧ (s.tia c).run = true ∧ (s.tia c).left = 0)
    (fun s t => let v := max (-(2 ^ 23 - 1)) (min code (2 ^ 23 - 1))
      t.getI (F.TIA.VALUE c) = v ∧ t.flag (F.TIA.TIA_STAT_OVL c) = decide (8220836 ≤ v.natAbs) ∧ t.get (F.TIA.SAMPLE c) = (if (s.tia c).zero then 0 else (s.tia c).sample) % 2 ^ 32 ∧
      (t.get (F.TIA.FLAGS c)).testBit 0 = (s.tia c).first ∧ (t.tia c).first = false ∧ (t.tia c).half = some v ∧ t.get (F.TIA.TIME_LO c) = s.time.dev.toNat % 2 ^ 32 ∧
      (s.flag (F.TIA.TIA_CFG_AUTO_RANGE c) = true → 8220836 ≤ v.natAbs → 7 ≤ (s.tia c).ovl → (s.tia c).range < 5 → s.flag (F.TIA.TIA_CFG_EN c) = true →
        t.get (F.TIA.TIA_CFG_RANGE c) = (s.tia c).range + 1 ∧ (t.tia c).pend = true)) :=
  Happens.of_effect (fun _ => rfl) fun s ⟨on, ⟨lit, calm⟩, runs, settled⟩ => by
    have word := s.tiaWorded_settled c code runs settled
    have clamp : clampI code (-(2 ^ 23 - 1)) (2 ^ 23 - 1) = max (-(2 ^ 23 - 1)) (min code (2 ^ 23 - 1)) := by
      unfold clampI
      split
      · omega
      · split <;> omega
    rw [clamp] at word
    dsimp only
    generalize value : max (-(2 ^ 23 - 1)) (min code (2 ^ 23 - 1)) = v at word ⊢
    have delivery := s.tiaDeliver_delivery c v c.isLt
    have form : s.tiaWord c code = s.tiaDeliver c v := by
      rw [s.tiaWord_calm c code on (by rw [word, delivery.litPend]; exact lit), word, calm, State.when_off]
    rw [form]
    have shown : (s.tiaDeliver c v).getI (F.TIA.VALUE c) = v := (congrArg (signed 32) delivery.value).trans (signed_unsigned v (by omega) (by omega))
    refine ⟨shown, delivery.ovl, delivery.sample, delivery.first, delivery.later, delivery.half, delivery.time,
      fun auto loud many low en => s.tiaDeliver_up c v c.isLt auto (decide_eq_true loud) many low calm en⟩

theorem tiaWord_restarts : Happens (.tiaWord c code) (fun s => s.domOn 65 = true ∧ s.hk.litPend = none ∧ (s.tia c).run = false ∧ (s.tia c).pend = true)
    (fun s t => (t.tia c).run = true ∧ (t.tia c).left = tiaSettling (s.get (F.TIA.TIA_CFG_PRESET c)) - 1 ∧ (t.tia c).first = true ∧ (t.tia c).pend = false ∧
      (t.tia c).range = s.get (F.TIA.TIA_CFG_RANGE c) ∧ t.flag (F.TIA.TIA_STAT_SETTLING c) = true ∧ t.get (F.TIA.RESTARTS c) = min (s.get (F.TIA.RESTARTS c) + 1) (2 ^ (F.TIA.RESTARTS c).wd - 1) ∧
      SameRegs s t [(F.TIA.RESTARTS c).addr, (F.TIA.TIA_STAT_SETTLING c).addr]) :=
  Happens.of_effect (fun _ => rfl) fun s ⟨on, lit, still, wants⟩ => by
    have same := s.tiaWorded_still c code still
    have form : s.tiaWord c code = s.tiaRestart c (s.tia c).pendZero := by
      rw [s.tiaWord_calm c code on (by rw [same]; exact lit), same, wants]
      rfl
    have record := (s.tiaRestart_tia c (s.tia c).pendZero c).trans (if_pos rfl)
    rw [form, record]
    exact ⟨rfl, rfl, rfl, rfl, rfl, s.tiaRestart_spec c _⟩

end
end Sys2Proof.Machine
end

section
/-! PROOFS. The toggle of the window monitor's source (R383). -/
namespace Sys2Proof.Machine

section
variable (s : State) (on : Bool)

/-! ### The switch in its parts -/

/-- The ROLE 1 channels. -/
def State.wmRoles : List Nat := (List.range 4).filter (fun c => s.flag (F.TIA.TIA_CFG_ROLE c))

/-- A half without a word counts as short. -/
def State.wmShorted : State := s.when (s.wmRoles.any (fun c => (s.tia c).half.isNone)) (fun s => s.inc F.HK.WM_SHORT)

/-- LEVEL of channel `c`. -/
def State.wmLevel (s : State) (c : Nat) : State :=
  if s.flag (F.TIA.TIA_CFG_ROLE c) then
    match (s.tia c).lit, (s.tia c).half with
    | some a, some b => s.setI (F.HK.LEVEL c) (a - b)
    | _, _ => s
  else s.set (F.HK.LEVEL c) 0

theorem State.wmLevels_eq : s.wmLevels = (s.each (List.range 4) State.wmLevel).publish F.HK.WM_RES_ST := by
  unfold State.wmLevels State.wmLevel
  rfl

/-- The halves of channel `c` at a switch. -/
def State.wmHalve (on : Bool) (s : State) (c : Nat) : State := s.setTia c { s.tia c with lit := if on then none else (s.tia c).half, half := none }

/-- The source is on or off. -/
def State.wmSourced : State := ({ s with hk := { s.hk with lit := on, litPend := none } } : State).setFlag F.HK.WM_CTRL_SRC on

/-- The lowest ROLE 1 channel restarts where it wants to. -/
def State.wmLed : State :=
  match s.wmLead with
  | some c => s.when (s.tia c).pend (fun s => s.tiaRestart c (s.tia c).pendZero)
  | none => s

theorem State.wmSwitch_eq : s.wmSwitch on true =
    ((((s.wmShorted.when on State.wmLevels).each s.wmRoles (State.wmHalve on)).wmSourced on).each s.wmRoles (fun s c => s.tiaWant c false)).wmLed := rfl

/-! ### The words of a switch -/

/-- The words that a switch may change: none of TIA_CFG. -/
def WmWord (a : Nat) : Prop := a % 0x80 ≠ 0 ∨ 0x6000600 ≤ a

theorem HkWords.tiaCfg {s t : State} (h : HkWords WmWord s t) (c lo wd : Nat) (few : c < 4) : t.get ⟨0x6000400 + 0x80 * c, lo, wd⟩ = s.get ⟨0x6000400 + 0x80 * c, lo, wd⟩ :=
  h.get _ (by dsimp only; omega) (by dsimp only; omega) (by simp only [WmWord]; omega)

theorem HkWords.role {s t : State} (h : HkWords WmWord s t) (c : Nat) (few : c < 4) : t.flag (F.TIA.TIA_CFG_ROLE c) = s.flag (F.TIA.TIA_CFG_ROLE c) :=
  congrArg (· == 1) (h.tiaCfg c 30 1 few)

theorem find_congr {α : Type} (p q : α → Bool) (l : List α) (same : ∀ a ∈ l, p a = q a) : l.find? p = l.find? q := by
  induction l with
  | nil => rfl
  | cons a l ih => rw [List.find?_cons, List.find?_cons, same a List.mem_cons_self, ih fun b mem => same b (List.mem_cons_of_mem _ mem)]

theorem HkWords.lead {s t : State} (h : HkWords WmWord s t) : t.wmLead = s.wmLead := find_congr _ _ _ fun c mem => h.role c (List.mem_range.1 mem)

theorem State.wmRoles_mem (c : Nat) : c ∈ s.wmRoles ↔ c < 4 ∧ s.flag (F.TIA.TIA_CFG_ROLE c) = true := by rw [State.wmRoles, List.mem_filter, List.mem_range]

theorem State.wmRoles_nodup : s.wmRoles.Nodup := List.nodup_range.filter _

/-! ### LEVEL -/

theorem State.wmShorted_hk : s.wmShorted.hk = s.hk := by
  unfold State.wmShorted
  cases s.wmRoles.any (fun c => (s.tia c).half.isNone) <;> rfl

theorem State.wmShorted_words : HkWords WmWord s s.wmShorted := BlockWords.when _ (fun u => HkWords.setOwn u F.HK.WM_SHORT _ (.inr (by decide))) s

theorem State.wmLevel_hk (c : Nat) : (s.wmLevel c).hk = s.hk := by
  unfold State.wmLevel
  split
  · split <;> rfl
  · rfl

theorem State.wmLevel_words (c : Nat) : HkWords (fun a => a = 0x6000614 + 4 * c) s (s.wmLevel c) := by
  unfold State.wmLevel
  split
  · split
    · exact HkWords.setOwn (own := fun a => a = 0x6000614 + 4 * c) s (F.HK.LEVEL c) _ rfl
    · exact .refl s
  · exact HkWords.setOwn (own := fun a => a = 0x6000614 + 4 * c) s (F.HK.LEVEL c) _ rfl

theorem State.wmLevels_hk : s.wmLevels.hk = s.hk := by
  rw [s.wmLevels_eq, State.publish_hk]
  exact State.each_keeps State.hk (List.range 4) State.wmLevel (fun u c => u.wmLevel_hk c) s

theorem State.wmLevels_words : HkWords WmWord s s.wmLevels := by
  have own (u : State) (f : Fld) (x : Nat) (high : 0x6000600 ≤ f.addr) : HkWords WmWord u (u.set f x) := HkWords.setOwn u f x (.inr high)
  rw [s.wmLevels_eq]
  exact (BlockWords.each _ _ (fun u c _ => (u.wmLevel_words c).widen fun a same => .inr (by omega)) s).trans ((own _ ⟨F.HK.WM_RES_ST.addr, 31, 1⟩ 1 (by decide)).trans (own _ ⟨F.HK.WM_RES_ST.addr, 0, 16⟩ _ (by decide)))

theorem State.wmLevel_get (c : Nat) (role : s.flag (F.TIA.TIA_CFG_ROLE c) = true) (a b : Int) (bright : (s.tia c).lit = some a) (dark : (s.tia c).half = some b) :
    (s.wmLevel c).get (F.HK.LEVEL c) = unsigned 32 (a - b) := by
  rw [State.wmLevel, if_pos role, bright, dark]
  exact s.get_setI_same (F.HK.LEVEL c) _ rfl

/-- What the level of channel `c` rests on, and the level. -/
def State.wmSeen (c : Nat) (u : State) : Nat × HkSt × Bool := (u.get (F.HK.LEVEL c), u.hk, u.flag (F.TIA.TIA_CFG_ROLE c))

theorem State.wmLevel_seen (c k : Nat) (few : c < 4) (ne : k ≠ c) : (s.wmLevel k).wmSeen c = s.wmSeen c := by
  have words := s.wmLevel_words k
  have level : (s.wmLevel k).get (F.HK.LEVEL c) = s.get (F.HK.LEVEL c) := words.get _ (by simp only [F.HK.LEVEL]; omega) (by simp only [F.HK.LEVEL]; omega) (by simp only [F.HK.LEVEL]; omega)
  have role : (s.wmLevel k).flag (F.TIA.TIA_CFG_ROLE c) = s.flag (F.TIA.TIA_CFG_ROLE c) :=
    words.flag _ (by simp only [F.TIA.TIA_CFG_ROLE]; omega) (by simp only [F.TIA.TIA_CFG_ROLE]; omega) (by simp only [F.TIA.TIA_CFG_ROLE]; omega)
  rw [State.wmSeen, level, s.wmLevel_hk, role]
  rfl

theorem State.wmLevels_get (c : Nat) (few : c < 4) (role : s.flag (F.TIA.TIA_CFG_ROLE c) = true) (a b : Int) (bright : (s.tia c).lit = some a) (dark : (s.tia c).half = some b) :
    s.wmLevels.get (F.HK.LEVEL c) = unsigned 32 (a - b) := by
  rw [s.wmLevels_eq]
  refine (State.get_publish _ F.HK.WM_RES_ST (F.HK.LEVEL c) (by simp only [F.HK.LEVEL, F.HK.WM_RES_ST]; omega)).trans ?_
  obtain ⟨u, before, after⟩ :=
    State.each_own (State.wmSeen c) (List.range 4) List.nodup_range State.wmLevel c (List.mem_range.2 few) (fun u k ne => u.wmLevel_seen c k few ne) s
  have same : u.tia c = s.tia c := State.tia_congr (congrArg (fun x => x.2.1) before) c
  have roles : u.flag (F.TIA.TIA_CFG_ROLE c) = true := (congrArg (fun x => x.2.2) before).trans role
  exact (congrArg Prod.fst after).trans (u.wmLevel_get c roles a b (by rw [same]; exact bright) (by rw [same]; exact dark))

/-! ### The halves and the source -/

theorem State.wmHalved_regs (l : List Nat) : (s.each l (State.wmHalve on)).regs = s.regs := State.each_keeps State.regs l (State.wmHalve on) (fun _ _ => rfl) s

theorem State.wmHalved_tia (l : List Nat) (distinct : l.Nodup) (c : Nat) (mem : c ∈ l) :
    (s.each l (State.wmHalve on)).tia c = { s.tia c with lit := if on then none else (s.tia c).half, half := none } := by
  have other (u : State) (k : Nat) (ne : k ≠ c) : (State.wmHalve on u k).tia c = u.tia c := (u.tia_setTia k c _).trans (if_neg ne.symm)
  obtain ⟨u, before, after⟩ := State.each_own (fun u => u.tia c) l distinct (State.wmHalve on) c mem other s
  refine after.trans ((u.tia_setTia_same c _).trans ?_)
  rw [show u.tia c = s.tia c from before]

theorem State.wmSourced_words : HkWords (fun a => a = 0x6000600) s (s.wmSourced on) :=
  have noted : HkWords (fun a => a = 0x6000600) s { s with hk := { s.hk with lit := on, litPend := none } } := .of_regs rfl
  noted.trans (HkWords.setOwn (own := fun a => a = 0x6000600) _ F.HK.WM_CTRL_SRC _ rfl)

theorem State.wmSourced_spec : (s.wmSourced on).hk.lit = on ∧ (s.wmSourced on).hk.litPend = none ∧ (s.wmSourced on).flag F.HK.WM_CTRL_SRC = on ∧ ∀ c, (s.wmSourced on).tia c = s.tia c :=
  ⟨rfl, rfl, State.flag_setFlag_same _ F.HK.WM_CTRL_SRC on rfl (by decide), fun _ => rfl⟩

/-! ### The restarts -/

/-- What a wish for a restart of any channel leaves. -/
theorem State.tiaWant_lit (c : Nat) (zero : Bool) : (s.tiaWant c zero).hk.lit = s.hk.lit := by
  unfold State.tiaWant
  split <;> rfl

theorem State.tiaWant_other (c k : Nat) (zero : Bool) (ne : k ≠ c) : (s.tiaWant k zero).tia c = s.tia c := by
  unfold State.tiaWant
  split
  · exact (s.tia_setTia k c _).trans (if_neg ne.symm)
  · rfl

theorem State.wmWanted_spec (l : List Nat) : (s.each l (fun s c => s.tiaWant c false)).regs = s.regs ∧ (s.each l (fun s c => s.tiaWant c false)).hk.lit = s.hk.lit ∧
    (s.each l (fun s c => s.tiaWant c false)).hk.litPend = s.hk.litPend :=
  ⟨State.each_keeps State.regs l _ (fun u c => u.tiaWant_regs c false) s, State.each_keeps (fun u => u.hk.lit) l _ (fun u c => u.tiaWant_lit c false) s,
    State.each_keeps (fun u => u.hk.litPend) l _ (fun u c => u.tiaWant_litPend c false) s⟩

theorem State.wmWanted_tia (l : List Nat) (distinct : l.Nodup) (c : Nat) (mem : c ∈ l) :
    (s.each l (fun s c => s.tiaWant c false)).tia c = if s.flag (F.TIA.TIA_CFG_EN c) = true then { s.tia c with pend := true } else s.tia c := by
  have other (u : State) (k : Nat) (ne : k ≠ c) : ((u.tiaWant k false).tia c, (u.tiaWant k false).regs) = (u.tia c, u.regs) := by
    rw [u.tiaWant_other c k false ne, u.tiaWant_regs]
  obtain ⟨u, before, after⟩ := State.each_own (fun u => (u.tia c, u.regs)) l distinct (fun s c => s.tiaWant c false) c mem other s
  have same : u.tia c = s.tia c := congrArg Prod.fst before
  have regs : u.regs = s.regs := congrArg Prod.snd before
  have en : u.flag (F.TIA.TIA_CFG_EN c) = s.flag (F.TIA.TIA_CFG_EN c) := congrArg (fun w : Word => bitsOf w.toNat 31 1 == 1) (State.rd_congr regs _)
  refine (congrArg Prod.fst after).trans ?_
  rw [(u.tiaWant_spec c false).1, same, en, Bool.or_false]

/-- What the restart of the lowest ROLE 1 channel leaves. -/
theorem State.wmLed_cases : s.wmLed = s ∨ ∃ k, s.wmLead = some k ∧ (s.tia k).pend = true ∧ s.wmLed = s.tiaRestart k (s.tia k).pendZero := by
  unfold State.wmLed
  split
  next k lead =>
    cases pend : (s.tia k).pend
    · exact .inl rfl
    · exact .inr ⟨k, lead, pend, rfl⟩
  · exact .inl rfl

end
end Sys2Proof.Machine
end

section
/-! PROOFS. WM_SOURCE_TOGGLE (R383). -/
namespace Sys2Proof.Machine

section
variable (s : State) (on : Bool)

/-- The switch of the source before the lowest ROLE 1 channel restarts. -/
def State.wmTurned : State :=
  (((s.wmShorted.when on State.wmLevels).each s.wmRoles (State.wmHalve on)).wmSourced on).each s.wmRoles (fun s c => s.tiaWant c false)

theorem State.wmSwitch_led : s.wmSwitch on true = (s.wmTurned on).wmLed := rfl

/-- LEVEL is taken at a switch-on. -/
theorem State.wmMeasured_words : HkWords WmWord s (s.wmShorted.when on State.wmLevels) ∧ (s.wmShorted.when on State.wmLevels).hk = s.hk := by
  cases on
  · rw [State.when_off]
    exact ⟨s.wmShorted_words, s.wmShorted_hk⟩
  · rw [State.when_on]
    exact ⟨s.wmShorted_words.trans (State.wmLevels_words _), (State.wmLevels_hk _).trans s.wmShorted_hk⟩

theorem State.wmTurned_words : HkWords (fun a => a = 0x6000600) (s.wmShorted.when on State.wmLevels) (s.wmTurned on) := by
  unfold State.wmTurned
  generalize s.wmShorted.when on State.wmLevels = m
  have halved : HkWords (fun a => a = 0x6000600) m (m.each s.wmRoles (State.wmHalve on)) := .of_regs (m.wmHalved_regs on s.wmRoles)
  generalize m.each s.wmRoles (State.wmHalve on) = u at halved ⊢
  have sourced := u.wmSourced_words on
  generalize u.wmSourced on = v at sourced ⊢
  exact (halved.trans sourced).trans (.of_regs (v.wmWanted_spec s.wmRoles).1)

theorem State.wmTurned_all : HkWords WmWord s (s.wmTurned on) := (s.wmMeasured_words on).1.trans ((s.wmTurned_words on).widen fun a same => .inr (by omega))

theorem State.wmTurned_source : (s.wmTurned on).hk.lit = on ∧ (s.wmTurned on).hk.litPend = none ∧ (s.wmTurned on).flag F.HK.WM_CTRL_SRC = on := by
  obtain ⟨regs, lit, pend⟩ := State.wmWanted_spec (((s.wmShorted.when on State.wmLevels).each s.wmRoles (State.wmHalve on)).wmSourced on) s.wmRoles
  obtain ⟨isLit, none, shown, -⟩ := State.wmSourced_spec ((s.wmShorted.when on State.wmLevels).each s.wmRoles (State.wmHalve on)) on
  have words : HkWords noWord _ (s.wmTurned on) := .of_regs regs
  exact ⟨lit.trans isLit, pend.trans none, (words.flag F.HK.WM_CTRL_SRC (by decide) (by decide) id).trans shown⟩

/-- The record of a ROLE 1 channel at a switch. -/
def TiaSt.switched (x : TiaSt) (on : Bool) : TiaSt := { x with lit := if on then none else x.half, half := none }

theorem State.wmTurned_tia (c : Nat) (few : c < 4) (role : s.flag (F.TIA.TIA_CFG_ROLE c) = true) :
    (s.wmTurned on).tia c = if s.flag (F.TIA.TIA_CFG_EN c) = true then { (s.tia c).switched on with pend := true } else (s.tia c).switched on := by
  obtain ⟨words, hk⟩ := s.wmMeasured_words on
  have mem := (s.wmRoles_mem c).2 ⟨few, role⟩
  have halved := State.wmHalved_tia (s.wmShorted.when on State.wmLevels) on s.wmRoles s.wmRoles_nodup c mem
  have sourced := (State.wmSourced_spec ((s.wmShorted.when on State.wmLevels).each s.wmRoles (State.wmHalve on)) on).2.2.2 c
  have same : (s.wmShorted.when on State.wmLevels).tia c = s.tia c := State.tia_congr hk c
  have far : HkWords WmWord s (((s.wmShorted.when on State.wmLevels).each s.wmRoles (State.wmHalve on)).wmSourced on) :=
    (words.trans (.of_regs (State.wmHalved_regs _ on s.wmRoles))).trans ((State.wmSourced_words _ on).widen fun a same => .inr (by omega))
  have en : (((s.wmShorted.when on State.wmLevels).each s.wmRoles (State.wmHalve on)).wmSourced on).flag (F.TIA.TIA_CFG_EN c) = s.flag (F.TIA.TIA_CFG_EN c) :=
    congrArg (· == 1) (far.tiaCfg c 31 1 few)
  refine (State.wmWanted_tia _ s.wmRoles s.wmRoles_nodup c mem).trans ?_
  rw [en, sourced, halved, same]
  rfl

/-! ### The whole switch -/

/-- What the restart of the lowest ROLE 1 channel leaves. -/
theorem State.wmLed_spec (few : ∀ k, s.wmLead = some k → k < 4) : s.wmLed.hk.lit = s.hk.lit ∧ s.wmLed.hk.litPend = s.hk.litPend ∧ HkWords WmWord s s.wmLed ∧
    s.wmLed.flag F.HK.WM_CTRL_SRC = s.flag F.HK.WM_CTRL_SRC ∧ (∀ c : Nat, c < 4 → s.wmLed.get (F.HK.LEVEL c) = s.get (F.HK.LEVEL c)) := by
  obtain same | ⟨k, lead, -, form⟩ := s.wmLed_cases
  · rw [same]
    exact ⟨rfl, rfl, .refl s, rfl, fun _ _ => rfl⟩
  · have low := few k lead
    have regs := (s.tiaRestart_spec k (s.tia k).pendZero).2.2
    have other (a : Nat) (high : 0x6000600 ≤ a) : (s.tiaRestart k (s.tia k).pendZero).rd a = s.rd a :=
      regs a (by simp only [F.TIA.RESTARTS, F.TIA.TIA_STAT_SETTLING, List.mem_cons, List.not_mem_nil, or_false]; omega)
    rw [form]
    refine ⟨rfl, rfl, fun a _ _ mine => regs a ?_, congrArg (fun w : Word => bitsOf w.toNat 0 1 == 1) (other _ (by decide)), fun c _ => ?_⟩
    · simp only [F.TIA.RESTARTS, F.TIA.TIA_STAT_SETTLING, List.mem_cons, List.not_mem_nil, or_false]
      simp only [WmWord] at mine
      omega
    · exact congrArg (fun w : Word => bitsOf w.toNat 0 32) (other _ (by simp only [F.HK.LEVEL]; omega))

theorem State.wmLead_lt (k : Nat) (lead : s.wmLead = some k) : k < 4 := List.mem_range.1 (List.mem_of_find?_eq_some lead)

/-- The record of channel `c` behind the restart of the lowest ROLE 1 channel. -/
theorem State.wmLed_tia (c : Nat) : (s.wmLed.tia c).half = (s.tia c).half ∧ (s.wmLed.tia c).lit = (s.tia c).lit ∧
    (s.wmLed.tia c = s.tia c ∨ ((s.wmLed.tia c).left = tiaSettling (s.get (F.TIA.TIA_CFG_PRESET c)) - 1 ∧ s.wmLead = some c)) := by
  obtain same | ⟨k, lead, -, form⟩ := s.wmLed_cases
  · rw [same]
    exact ⟨rfl, rfl, .inl rfl⟩
  · rw [form, s.tiaRestart_tia k _ c]
    split
    next here =>
      rw [← here] at lead ⊢
      exact ⟨rfl, rfl, .inr ⟨rfl, lead⟩⟩
    next => exact ⟨rfl, rfl, .inl rfl⟩

end

/-! ### The event -/

theorem wmSourceToggle_idle : Happens .wmSourceToggle (fun s => s.domOn 65 = false ∨ s.flag F.HK.WM_CTRL_AUTO = false) Nothing :=
  Happens.of_effect (fun _ => rfl) fun s idle => by
    refine if_neg ?_
    obtain off | manual := idle
    · rw [off]; exact Bool.false_ne_true
    · rw [manual, Bool.and_false]; exact Bool.false_ne_true

/-- What a ROLE 1 channel shows behind a toggle. -/
theorem State.wmSwitch_channel (s : State) (on : Bool) (c : Fin 4) (role : s.flag (F.TIA.TIA_CFG_ROLE c) = true) :
    ((s.wmSwitch on true).tia c).half = none ∧ (on = false → ((s.wmSwitch on true).tia c).lit = (s.tia c).half) ∧
      (on = true → ∀ a b : Int, (s.tia c).lit = some a → (s.tia c).half = some b → (s.wmSwitch on true).get (F.HK.LEVEL c) = unsigned 32 (a - b)) ∧
      (s.flag (F.TIA.TIA_CFG_EN c) = true → ((s.wmSwitch on true).tia c).pend = true ∨
        (((s.wmSwitch on true).tia c).left = tiaSettling (s.get (F.TIA.TIA_CFG_PRESET c)) - 1 ∧ s.wmLead = some c.val)) := by
  have all := s.wmTurned_all on
  have turned := s.wmTurned_tia on c c.isLt role
  obtain ⟨half, lit, left⟩ := (s.wmTurned on).wmLed_tia c
  obtain ⟨-, -, -, -, level⟩ := (s.wmTurned on).wmLed_spec (fun k lead => State.wmLead_lt _ k lead)
  have preset : (s.wmTurned on).get (F.TIA.TIA_CFG_PRESET c) = s.get (F.TIA.TIA_CFG_PRESET c) := HkWords.tiaCfg all c 16 2 c.isLt
  have lead : (s.wmTurned on).wmLead = s.wmLead := HkWords.lead all
  have empty : ((s.wmTurned on).tia c).half = none := by rw [turned]; split <;> rfl
  have kept : ((s.wmTurned on).tia c).lit = if on then none else (s.tia c).half := by rw [turned]; split <;> rfl
  rw [s.wmSwitch_led on]
  refine ⟨half.trans empty, fun off => (lit.trans kept).trans (by rw [off]; rfl), fun isOn a b bright dark => ?_, fun en => ?_⟩
  · have measured : (s.wmShorted.when on State.wmLevels).get (F.HK.LEVEL c) = unsigned 32 (a - b) := by
      have same := State.tia_congr s.wmShorted_hk c
      rw [isOn]
      exact State.wmLevels_get s.wmShorted c c.isLt ((HkWords.role s.wmShorted_words c c.isLt).trans role) a b (by rw [same]; exact bright) (by rw [same]; exact dark)
    have later := (s.wmTurned_words on).get (F.HK.LEVEL c) (by simp only [F.HK.LEVEL]; omega) (by simp only [F.HK.LEVEL]; omega) (by simp only [F.HK.LEVEL]; omega)
    exact (level c c.isLt).trans (later.trans measured)
  · obtain same | ⟨settles, here⟩ := left
    · exact .inl (by rw [same, turned, if_pos en])
    · exact .inr ⟨by rw [settles, preset], lead ▸ here⟩

theorem wmSourceToggle_toggles : Happens .wmSourceToggle (fun s => s.domOn 65 = true ∧ s.flag F.HK.WM_CTRL_AUTO = true)
    (fun s t => t.hk.lit = !s.hk.lit ∧ t.flag F.HK.WM_CTRL_SRC = !s.hk.lit ∧ t.hk.litPend = none ∧
      ∀ c : Fin 4, s.flag (F.TIA.TIA_CFG_ROLE c) = true → (t.tia c).half = none ∧ (s.hk.lit = true → (t.tia c).lit = (s.tia c).half) ∧
        (s.hk.lit = false → ∀ a b : Int, (s.tia c).lit = some a → (s.tia c).half = some b → t.get (F.HK.LEVEL c) = unsigned 32 (a - b)) ∧
        (s.flag (F.TIA.TIA_CFG_EN c) = true → (t.tia c).pend = true ∨ ((t.tia c).left = tiaSettling (s.get (F.TIA.TIA_CFG_PRESET c)) - 1 ∧ s.wmLead = some c.val))) :=
  Happens.of_effect (fun _ => rfl) fun s ⟨on, auto⟩ => by
    have form : s.wmToggle = s.wmSwitch (!s.hk.lit) true := if_pos (by rw [on, auto]; rfl)
    rw [form]
    obtain ⟨isLit, none, shown⟩ := s.wmTurned_source (!s.hk.lit)
    obtain ⟨lit, pend, -, src, -⟩ := (s.wmTurned (!s.hk.lit)).wmLed_spec (fun k lead => State.wmLead_lt _ k lead)
    refine ⟨lit.trans isLit, src.trans shown, pend.trans none, fun c role => ?_⟩
    obtain ⟨half, dark, level, restart⟩ := s.wmSwitch_channel (!s.hk.lit) c role
    exact ⟨half, fun bright => dark (by rw [bright]; rfl), fun off => level (by rw [off]; rfl), restart⟩

end Sys2Proof.Machine
end

section
/-! PROOFS. Writes of TIA_CFG (R379) and of WM_CTRL (R383). -/
namespace Sys2Proof.Machine

/-! ### Where the words lie -/

theorem oneBlock_tiaCfg : ∀ c : Fin 4, oneBlock (0x6000400 + 0x80 * c.val) 1 = true := by decide +kernel

theorem fieldsAt_tiaCfg : ∀ c : Fin 4, fieldsAt (0x6000400 + 0x80 * c.val) =
    [⟨31, 1, .rw, 1, 0, 0, []⟩] ++ [⟨30, 1, .rw, 1, 0, 0, []⟩, ⟨29, 1, .rw, 1, 0, 0, []⟩, ⟨24, 3, .rw, 2, 0, 5, []⟩, ⟨16, 2, .rw, 1, 0, 0, []⟩] := by decide +kernel

section
variable (u : State) (c : Fin 4) (v : Word)

/-- EN takes what is written. -/
theorem State.tiaCfg_en : (u.hostWrite (0x6000400 + 0x80 * c.val) v).flag (F.TIA.TIA_CFG_EN c) = v.toNat.testBit 31 := by
  have en := u.get_hostWrite_free v (0x6000400 + 0x80 * c.val) [] _ 31 1 1 (fieldsAt_tiaCfg c) (by decide) (by decide)
  exact (congrArg (· == 1) en).trans (bitsOf_one_eq _ 31)

theorem State.wrHk_tiaCfg : u.wrHk (F.TIA.TIA_CFG_EN c).addr v = u.wrTiaCfg c v := by
  have channel : ((F.TIA.TIA_CFG_EN c).addr - 0x6000400) / 0x80 = c.val := by simp only [F.TIA.TIA_CFG_EN]; omega
  have here : 0x6000400 ≤ (F.TIA.TIA_CFG_EN c).addr ∧ (F.TIA.TIA_CFG_EN c).addr < 0x6000600 ∧ (F.TIA.TIA_CFG_EN c).addr % 0x80 = 0 := by simp only [F.TIA.TIA_CFG_EN]; omega
  rw [State.wrHk, if_pos here, channel]

/-- A channel that is switched off. -/
theorem State.wrTiaCfg_off (off : v.toNat.testBit 31 = false) : (u.wrTiaCfg c v).flag (F.TIA.TIA_CFG_EN c) = false ∧ ((u.wrTiaCfg c v).tia c).run = false ∧
    ((u.wrTiaCfg c v).tia c).pend = false ∧ (u.wrTiaCfg c v).flag (F.TIA.TIA_STAT_SETTLING c) = false := by
  have en := (u.tiaCfg_en c v).trans off
  have form : u.wrTiaCfg c v = ((u.hostWrite (F.TIA.TIA_CFG_EN c).addr v).setTia c { (u.hostWrite (F.TIA.TIA_CFG_EN c).addr v).tia c with run := false, left := 0, pend := false, pendZero := false }).set
      (F.TIA.TIA_STAT_SETTLING c) 0 := if_pos (by rw [show (u.hostWrite (F.TIA.TIA_CFG_EN c).addr v).flag (F.TIA.TIA_CFG_EN c) = false from en]; rfl)
  rw [form]
  have here : (u.hostWrite (F.TIA.TIA_CFG_EN c).addr v).flag (F.TIA.TIA_CFG_EN c) = false := en
  generalize u.hostWrite (F.TIA.TIA_CFG_EN c).addr v = w at here ⊢
  have same := w.tia_setTia_same c { w.tia c with run := false, left := 0, pend := false, pendZero := false }
  have kept := State.get_set_addr (w.setTia c { w.tia c with run := false, left := 0, pend := false, pendZero := false }) (F.TIA.TIA_STAT_SETTLING c) (F.TIA.TIA_CFG_EN c) 0
    (by simp only [F.TIA.TIA_STAT_SETTLING, F.TIA.TIA_CFG_EN]; omega)
  exact ⟨(congrArg (· == 1) kept).trans here, congrArg TiaSt.run same, congrArg TiaSt.pend same, congrArg (· == 1) (State.get_set_same _ (F.TIA.TIA_STAT_SETTLING c) 0 rfl)⟩

/-- A channel that is switched on wants a restart from SAMPLE 0. -/
theorem State.wrTiaCfg_on (on : v.toNat.testBit 31 = true) (was : u.flag (F.TIA.TIA_CFG_EN c) = false) :
    (u.wrTiaCfg c v).flag (F.TIA.TIA_CFG_EN c) = true ∧ (u.wrTiaCfg c v).tia c = { u.tia c with pend := true, pendZero := true } := by
  have en : (u.hostWrite (F.TIA.TIA_CFG_EN c).addr v).flag (F.TIA.TIA_CFG_EN c) = true := (u.tiaCfg_en c v).trans on
  have record : (u.hostWrite (F.TIA.TIA_CFG_EN c).addr v).tia c = u.tia c := rfl
  have form : u.wrTiaCfg c v = (u.hostWrite (F.TIA.TIA_CFG_EN c).addr v).tiaWant c true := by
    unfold State.wrTiaCfg
    dsimp only
    rw [en, was]
    rfl
  rw [form]
  generalize u.hostWrite (F.TIA.TIA_CFG_EN c).addr v = w at en record ⊢
  refine ⟨(congrArg (fun x : Word => bitsOf x.toNat 31 1 == 1) (State.rd_congr (w.tiaWant_regs c true) _)).trans en, ?_⟩
  rw [(w.tiaWant_spec c true).1, if_pos en, record, Bool.or_true]

end

theorem tiaCfg_writes (via : Port) (seq : BitVec 16) (c : Fin 4) (v : Word) {h : State → Prop} {e : State → State → Prop} (effect : ∀ u, h u → e u (u.wrTiaCfg c v)) :
    Writes (.tiaCfgWrite via seq c v) (F.TIA.TIA_CFG_EN c).addr 1 h e := by
  have place : (F.TIA.TIA_CFG_EN c).addr = 0x6000400 + 0x80 * c.val := rfl
  refine .of_word rfl (by omega) (by omega) (oneBlock_tiaCfg c) (by simpa [wordAddrs] using unlocked_of_range (F.TIA.TIA_CFG_EN c).addr 1 ⟨by omega, by omega⟩)
    (fun u _ => u.writeRefused_other _ [_] (.inr (by omega))) (plainWord_of_range _ (by omega)) fun u noStep hu => ?_
  rw [u.hostStore_hk _ v noStep (by omega) (by omega), u.wrHk_tiaCfg c v]
  exact effect u hu

/-! ### WM_CTRL -/

theorem oneBlock_wmCtrl : oneBlock F.HK.WM_CTRL_AUTO.addr 1 = true := by decide +kernel

section
variable (u : State) (v : Word)

theorem State.wrWmCtrl_auto (auto : v.toNat.testBit 1 = true) : OnlyRegs u (u.wrWmCtrl v) [F.HK.WM_CTRL_AUTO.addr] ∧ (u.wrWmCtrl v).flag F.HK.WM_CTRL_AUTO = true ∧
    (u.wrWmCtrl v).get F.HK.WM_CTRL_SRC = u.get F.HK.WM_CTRL_SRC := by
  have one : bitsOf v.toNat 1 1 = 1 := (bitsOf_one_iff _ 1).trans (by rw [auto]; rfl)
  have form : u.wrWmCtrl v = u.set F.HK.WM_CTRL_AUTO 1 := by
    unfold State.wrWmCtrl
    dsimp only
    rw [one]
    rfl
  rw [form]
  exact ⟨u.onlyRegs_set F.HK.WM_CTRL_AUTO 1, u.flag_set_one F.HK.WM_CTRL_AUTO rfl rfl, u.get_set_bits F.HK.WM_CTRL_AUTO F.HK.WM_CTRL_SRC 1 rfl (.inr (by decide))⟩

/-- The source under the host's hand. -/
def State.wmManual (src : Bool) : State := (u.set F.HK.WM_CTRL_AUTO 0).setFlag F.HK.WM_CTRL_SRC src

theorem State.wrWmCtrl_manual (manual : v.toNat.testBit 1 = false) (led : u.wmLead ≠ none) : (u.wrWmCtrl v).flag F.HK.WM_CTRL_AUTO = false ∧
    (u.wrWmCtrl v).flag F.HK.WM_CTRL_SRC = v.toNat.testBit 0 ∧ (u.wrWmCtrl v).hk.lit = u.hk.lit ∧
    (u.wrWmCtrl v).hk.litPend = (if v.toNat.testBit 0 = u.hk.lit then none else some (v.toNat.testBit 0)) := by
  have zero : bitsOf v.toNat 1 1 = 0 := (bitsOf_one_iff _ 1).trans (by rw [manual]; rfl)
  have words : HkWords WmWord u (u.wmManual (v.toNat.testBit 0)) :=
    (HkWords.setOwn u F.HK.WM_CTRL_AUTO 0 (.inr (by decide))).trans (HkWords.setOwn _ F.HK.WM_CTRL_SRC _ (.inr (by decide)))
  have some : ¬ (u.wmManual (v.toNat.testBit 0)).wmLead.isNone = true := by
    rw [HkWords.lead words, Option.isNone_iff_eq_none]
    exact led
  have form : u.wrWmCtrl v = { u.wmManual (v.toNat.testBit 0) with hk := { (u.wmManual (v.toNat.testBit 0)).hk with
      litPend := if v.toNat.testBit 0 == u.hk.lit then none else Option.some (v.toNat.testBit 0) } } := by
    unfold State.wrWmCtrl
    dsimp only
    rw [zero, bitsOf_one_eq, if_neg (by decide)]
    exact if_neg some
  have auto : (u.wmManual (v.toNat.testBit 0)).flag F.HK.WM_CTRL_AUTO = false :=
    congrArg (· == 1) ((State.get_set_bits _ F.HK.WM_CTRL_SRC F.HK.WM_CTRL_AUTO _ rfl (.inl (by decide))).trans (u.get_set_same F.HK.WM_CTRL_AUTO 0 rfl))
  have src : (u.wmManual (v.toNat.testBit 0)).flag F.HK.WM_CTRL_SRC = v.toNat.testBit 0 := State.flag_setFlag_same _ _ _ rfl (by decide)
  rw [form]
  refine ⟨auto, src, rfl, ?_⟩
  exact if_congr beq_iff_eq rfl rfl

end

theorem wmCtrl_writes (via : Port) (seq : BitVec 16) (v : Word) {h : State → Prop} {e : State → State → Prop} (effect : ∀ u, h u → e u (u.wrWmCtrl v)) :
    Writes (.wmCtrlWrite via seq v) F.HK.WM_CTRL_AUTO.addr 1 h e := by
  refine .of_word rfl (by decide) (by decide) oneBlock_wmCtrl (by simpa [wordAddrs] using unlocked_of_range F.HK.WM_CTRL_AUTO.addr 1 ⟨by decide, by decide⟩)
    (fun u _ => u.writeRefused_other _ [_] (.inr (by decide))) (plainWord_of_range _ ⟨by decide, by decide⟩) fun u noStep hu => ?_
  rw [u.hostStore_hk _ v noStep (by decide) (by decide), State.wrHk, if_neg (by decide), if_pos (by decide)]
  exact effect u hu

end Sys2Proof.Machine
end

section
/-! PROOFS. Housekeeping as the statement has it (R366 to R384). -/
namespace Sys2Proof.Machine

/-- Settles O54. -/
theorem housekeeping : Obligations.Housekeeping := by
  unfold Obligations.Housekeeping
  refine ⟨hkConverterStart_starts, hkConverterStart_idle, hkRoundStart_alternates, fun b _ => hkRoundStart_loads b, .of_effect (fun _ => rfl) fun s idle => s.hkRoundStart_idle idle,
    .of_effect (fun _ => rfl) fun s ⟨on, still, cold⟩ => s.hkRoundStart_off on still cold, fun code least most => ⟨hkConversionEnd_idle, hkConversionEnd_empty, ?conversion, hkUrgentComplete_idle, ?urgent⟩,
    ntcComparatorTrip_trips, ntcComparatorTrip_idle, fun via seq b _ => ⟨fun good complete => ⟨hkConfig_waits via seq b good complete, hkConfig_starts via seq b good complete, hkConfig_scanning via seq b⟩,
      hkConfig_missing via seq b, hkConfig_bad via seq b⟩, fun via seq n few => ⟨hkUrgent_starts via seq n few, hkUrgent_off via seq n few, hkUrgent_disabled via seq n few⟩,
    fun via seq v small => ⟨auxoutSet_sets via seq v small, auxoutSet_held via seq v small⟩, fun via seq c r => ⟨tiaRange_sets via seq c r, tiaRange_bad via seq c r⟩,
    fun c code => ⟨tiaWord_idle c code, tiaWord_suppresses c code, tiaWord_delivers c code, tiaWord_restarts c code⟩, wmSourceToggle_toggles, wmSourceToggle_idle,
    fun via seq c v => ⟨fun off => tiaCfg_writes via seq c v fun u _ => u.wrTiaCfg_off c v off, fun on => tiaCfg_writes via seq c v fun u was => u.wrTiaCfg_on c v on was⟩,
    fun via seq v => ⟨fun auto => wmCtrl_writes via seq v fun u _ => u.wrWmCtrl_auto v auto, fun manual => wmCtrl_writes via seq v fun u led => u.wrWmCtrl_manual v manual led⟩⟩
  case conversion =>
    intro s going
    obtain ⟨t, event, x, shown, delivery, between, next, rounds, fault⟩ := hkConversionEnd_delivers least most s going
    refine ⟨t, event, x, shown, delivery.slotRaw, delivery.lastRaw, delivery.slotValue, delivery.time, delivery.slot, delivery.input, delivery.counted, between, next, rounds, delivery.others,
      delivery.opened, fun zero off => ⟨fault zero off, delivery.fault zero off⟩, delivery.plain⟩
  case urgent =>
    intro n few s waits
    obtain ⟨t, event, x, y, turned, shown, none, served, delivery, done⟩ := hkUrgentComplete_serves n least most few s waits
    exact ⟨t, event, x, y, turned, shown, none, served, delivery.slotRaw, delivery.slot, done⟩

end Sys2Proof.Machine
end
